-- ==== Sys2Proof/Word.lean ====
section
/-! DEFINITION. The byte and the word types of the model (R4, R6): the smallest things the manual treats as bits. -/

namespace Sys2Proof

/-- One byte (R4). -/
abbrev Byte := BitVec 8

/-- A dictionary value of up to eight bytes, and a host window register (R6, R9). -/
abbrev Word := BitVec 64

end Sys2Proof
end

