-- ==== Sys2Proof/Config.lean ====
section
/-! DEFINITION. What one part fixes, and the values the spec leaves open.

The part numbers and their figures are R1 and R41. A free value is an opaque constant: nothing can be proved of what it
is, so a statement about it holds whatever the hardware does. -/

namespace Sys2Proof

/-- The assemblies of the series (R1). -/
inductive Part | brl7121 | brl7142 | brl7162
  deriving DecidableEq, Repr

namespace Part

/-- AssemblyCode (0x0301:02). -/
def code : Part → Nat
  | .brl7121 => 0x21
  | .brl7142 => 0x42
  | .brl7162 => 0x62

/-- Memory-side dies fitted, from MD0 upwards (R1, R38). -/
def memDies : Part → Nat
  | .brl7121 => 2
  | .brl7142 => 4
  | .brl7162 => 6

/-- I/O dies fitted (R1). -/
def ioDies : Part → Nat
  | .brl7121 => 1
  | _ => 2

/-- Camera links fitted (R1). -/
def links : Part → Nat
  | .brl7121 => 12
  | _ => 24

/-- PipelineLevel (0x0301:08): 1 corrections only, 2 with noise reduction (R1). -/
def level : Part → Nat
  | .brl7121 => 1
  | _ => 2

/-- LogicPowerCeiling in W (R1, R41). -/
def ceiling : Part → Nat
  | .brl7121 => 170
  | .brl7142 => 220
  | .brl7162 => 240

/-- ComputePowerAllotment in W (R41). -/
def allotment : Part → Nat
  | .brl7121 => 131
  | _ => 151

/-- PartNumber (0x0301:01), as text. -/
def text : Part → String
  | .brl7121 => "BRL-7121"
  | .brl7142 => "BRL-7142"
  | .brl7162 => "BRL-7162"

end Part

namespace Config

/-- Free values: what the spec leaves open after an effect it does state (log entry 1). The argument is the state's
counter of free values taken, so two values taken at different moments are independent. -/
opaque free : Nat → Nat

/-- What an entry that reads a measurement shows at a tick (R97; log entry 102), as a function of the entry's key and the tick:
no command of the table delivers it. -/
opaque measured : Nat → Nat → Nat

/-- The coefficients of the activation tables (R204, 0x0862:01): fixed per part, their values not in the spec (log
entry 25). -/
opaque tableByte : Nat → Byte

/-- Whether a plan image meets the placement rules that the spec states only cycle by cycle, below what the image's
records show (R126, R133, R134, R190, R200, R326): a free function of the image (log entry 26). -/
opaque placementClean : List Byte → Bool

/-- ML-DSA-87 verification (R460): the standard's algorithm is not in the spec, so whether a signature verifies is a
free function of the key, the message and the signature (log entry 2). -/
opaque mldsaVerify : List Byte → List Byte → List Byte → Bool

/-- ML-DSA-87 signing with the device key (R460, R467, R468): the 4,627 bytes of the signature are a free function of the
identity seed that the key comes from and of the message (log entry 2). -/
opaque mldsaSign : List Byte → List Byte → Nat → Byte

/-- The samples that the dequantised blocks of a baseline JPEG image yield (R117): the inverse transform, the upsampling
and the colours are not in the spec, so a sample is a free function of the blocks (log entry 3). -/
opaque jpegSample : List (List Int) → Nat → Byte

/-- BT.601 full-range conversion of R, G and B (R118): Y, Cb and Cr in turn. The spec gives neither the scale of the integer
coefficients nor their rounding, so each is a free function of the three samples (log entry 3). -/
opaque ycbcr : Byte → Byte → Byte → Nat → Byte

/-- The quantisation tables of Annex K scaled by JpegQuality (R118), by quality, chrominance and place in coding order: the
spec gives neither the tables nor the scaling (log entry 3). -/
opaque jpegQuant : Nat → Bool → Nat → Byte

/-- The Huffman tables that the encoder writes, as the bytes of a DHT segment: none are in the spec (log entry 3). -/
opaque jpegHuffman : Bool → List Byte

/-- The entropy-coded bytes of one row of MCUs (R118), as a free function of its component samples, of the width, of the
quality and of the sampling (log entry 3). -/
opaque jpegRow : List (List Byte) → Nat → Nat → Nat → List Byte

end Config
end Sys2Proof
end

