-- ==== Sys2Proof/Machine/Bytes.lean ====
section
/-! DEFINITION. Byte order, bit fields and sign: R4 (little-endian values), R70 (big-endian BDP headers) and the
two's-complement reading of R6, each said once. -/

namespace Sys2Proof.Machine

/-- The `n` bytes of a number, least significant first (R4). -/
def leBytes : Nat → Nat → List Byte
  | 0, _ => []
  | n + 1, v => BitVec.ofNat 8 v :: leBytes n (v / 256)

/-- The number that bytes spell, least significant first (R4). -/
def leNat : List Byte → Nat
  | [] => 0
  | b :: r => b.toNat + 256 * leNat r

/-- The `n` bytes of a number, most significant first (R70). -/
def beBytes (n v : Nat) : List Byte := (leBytes n v).reverse

/-- The number that bytes spell, most significant first (R70). -/
def beNat (l : List Byte) : Nat := leNat l.reverse

/-- The `n` bytes from offset `o`; bytes beyond the end read as zero. -/
def bytesAt (l : List Byte) (o n : Nat) : List Byte :=
  (List.range n).map fun i => l.getD (o + i) 0

/-- The little-endian value of `n` bytes at offset `o`. -/
def leAt (l : List Byte) (o n : Nat) : Nat := leNat (bytesAt l o n)

/-- The big-endian value of `n` bytes at offset `o`. -/
def beAt (l : List Byte) (o n : Nat) : Nat := beNat (bytesAt l o n)

/-- Bits [hi:lo] of a value (R2: inclusive, bit 0 least significant). -/
def bits (v hi lo : Nat) : Nat := (v / 2 ^ lo) % 2 ^ (hi + 1 - lo)

/-- One bit of a value. -/
def bitOf (v i : Nat) : Bool := v.testBit i

/-- A Boolean as a bit. -/
def bitNat (b : Bool) : Nat := if b then 1 else 0

/-- The two's-complement reading of a `w`-bit value (R6). -/
def signed (w v : Nat) : Int :=
  let u := v % 2 ^ w
  if 2 ^ (w - 1) ≤ u then (u : Int) - 2 ^ w else u

/-- The `w`-bit pattern of an integer (R6). -/
def unsigned (w : Nat) (i : Int) : Nat := (i % (2 ^ w : Int)).toNat

/-- An integer held within two bounds. -/
def clampInt (lo hi i : Int) : Int := max lo (min hi i)

/-- A number held at a greatest value (R471, saturating fields). -/
def satNat (m n : Nat) : Nat := min m n

/-- Division rounded up. -/
def ceilDiv (a b : Nat) : Nat := (a + b - 1) / b

/-- Whether every byte of a list is zero. -/
def allZero (l : List Byte) : Bool := l.all (· == 0)

/-- Bytes extended with zeros, or cut, to a length. -/
def fitBytes (n : Nat) (l : List Byte) : List Byte := bytesAt l 0 n

/-! ### CRC-32 (R348): the frame check sequence of IEEE 802.3, least significant bit first, complemented -/

/-- One bit into a reflected CRC-32. -/
def crc32Bit (c : Nat) (b : Bool) : Nat := Nat.xor (c / 2) (if (c % 2 == 1) != b then 0xEDB88320 else 0)

/-- CRC-32 of bytes, each least significant bit first. -/
def crc32 (l : List Byte) : Nat :=
  2 ^ 32 - 1 - l.foldl (fun c b => (List.range 8).foldl (fun c i => crc32Bit c (b.getLsbD i)) c) (2 ^ 32 - 1)

/-! ### CRC-16 (R290, R317): initial value 0xFFFF, no reflection, no final XOR -/

/-- One bit into a CRC-16 of a polynomial. -/
def crcBit (poly c : Nat) (b : Bool) : Nat := Nat.xor (2 * c % 65536) (if decide (32768 ≤ c) != b then poly else 0)

/-- CRC-16 of bytes, each most significant bit first. -/
def crc16 (poly : Nat) (l : List Byte) : Nat :=
  l.foldl (fun c b => [7, 6, 5, 4, 3, 2, 1, 0].foldl (fun c i => crcBit poly c (b.getLsbD i)) c) 0xFFFF

end Sys2Proof.Machine
end

