-- ==== Sys2Proof/Machine/SMap.lean ====
section
/-! DEFINITION. Sparse tables: what the spec numbers (registers, knots, rings, bytes of memory) is held as a list of
(number, value) pairs in one canonical form, numbers strictly rising and no value equal to what an unlisted number
reads as, so that equal tables are equal data. -/

namespace Sys2Proof.Machine

/-- A table from numbers to values. -/
abbrev SMap (α : Type) := List (Nat × α)

namespace SMap

variable {α : Type}

/-- The listed value of a number. -/
def find? : SMap α → Nat → Option α
  | [], _ => none
  | (k', v) :: r, k => if k = k' then some v else find? r k

/-- The value of a number, with what an unlisted one reads as. -/
def get (d : α) (m : SMap α) (k : Nat) : α := (find? m k).getD d

/-- Lists a value at its place. -/
def put (m : SMap α) (k : Nat) (v : α) : SMap α :=
  match m with
  | [] => [(k, v)]
  | (k', v') :: r =>
    if k < k' then (k, v) :: (k', v') :: r
    else if k = k' then (k, v) :: r
    else (k', v') :: put r k v

/-- Takes a number out of the list. -/
def erase (m : SMap α) (k : Nat) : SMap α := m.filter fun p => p.1 != k

/-- Writes a value: a value equal to what an unlisted number reads as is taken out of the list. -/
def set [DecidableEq α] (d : α) (m : SMap α) (k : Nat) (v : α) : SMap α :=
  if v = d then erase m k else put (erase m k) k v

/-- Writes the values of consecutive numbers. -/
def setList [DecidableEq α] (d : α) (m : SMap α) (k : Nat) : List α → SMap α
  | [] => m
  | v :: r => setList d (set d m k v) (k + 1) r

/-- The values of `n` consecutive numbers. -/
def getList (d : α) (m : SMap α) (k n : Nat) : List α := (List.range n).map fun i => get d m (k + i)

/-- Numbers strictly rising. -/
def sorted : SMap α → Bool
  | [] => true
  | (k, _) :: r => r.all (fun p => decide (k < p.1)) && sorted r

/-- The canonical form for tables whose unlisted numbers read as `d k`. -/
def wf [DecidableEq α] (d : Nat → α) (m : SMap α) : Bool :=
  sorted m && m.all fun p => decide (p.2 ≠ d p.1)

end SMap
end Sys2Proof.Machine
end

