-- ==== Sys2Proof/Machine/StateCore.lean ====
section
/-! DEFINITION. The state of the belt-time unit, the supplies, the dictionary engine, the ring and event engine, the
network ports and the fault unit: spec/01, 02, 03, 16, 17, 18 and 22. Values that a dictionary entry holds live in the
dictionary's own table (`State.regs`), not here. -/

namespace Sys2Proof.Machine

/-! ### Event records and outputs -/

/-- An event record before its Sequence is assigned (R10): the eight payload bytes are one little-endian number. -/
structure Rec where
  typ : Nat
  src : Nat
  ctx : Nat := 0xFF
  flags : Nat := 0
  pos : Nat
  time : Nat
  payload : Nat := 0
  deriving DecidableEq, Repr

/-- What leaves the module: the model's own list of what a partner of R424 can see. -/
inductive Output
  | hostWrite (port addr : Nat) (data : List Byte)      -- a posted write to host memory (R368)
  | msix (port vector : Nat)                            -- an MSI-X message (R366)
  | bdp (eth dest dport : Nat) (frame : List Byte)      -- a BDP response datagram (R69)
  | status (session key status : Nat)                   -- the status that a single dictionary write answers (R479)
  | arp (eth ip mac : Nat)                              -- an ARP reply (R390)
  | icmp (eth ip : Nat) (data : List Byte)              -- an ICMP echo reply (R390)
  | ptp (eth kind seq stamp : Nat)                      -- a PTP message sent (R396)
  | trigger (link delay : Nat)                          -- a trigger packet with its delay field, ns (R88)
  | cameraCtl (link tag kind addr : Nat) (data : List Byte) -- a control command to a camera (R92)
  | strobe (port tag delay : Nat)                       -- a valve-link strobe (R292)
  | valveFrame (port typ : Nat) (payload : List Byte)   -- a valve-link frame (R290)
  | memFrame (link seq op addr count : Nat) (replay : Option Nat) (payload : List Byte) (crc : Nat)  -- a downstream memory frame (R315)
  | memUp (link seq status : Nat) (nak : Option Nat) (payload : List Byte) (crc : Nat)  -- an upstream memory frame (R316)
  | tether (port typ dest : Nat) (body : List Byte)     -- a tether packet (R348)
  | groupMsg (dest : Nat) (bc : Option Nat)             -- a group stop, or member 0's bc (R352, R356)
  deriving DecidableEq, Repr

/-! ### Belt time (spec/01) -/

/-- BeltState (R20). -/
inductive BeltSt | noSource | stopped | forward | reverse | holdover | lost
  deriving DecidableEq, Repr

/-- The code that BeltState reads (R20). -/
def BeltSt.code : BeltSt → Nat
  | .noSource => 0
  | .stopped => 1
  | .forward => 2
  | .reverse => 3
  | .holdover => 4
  | .lost => 5

/-- A direction that the emitted IBP follows (R18). -/
inductive Dir | stopped | forward | reverse
  deriving DecidableEq, Repr

/-- A latched source (R16, R17): the tick of the latch, and the word of a counter source. -/
structure Latch where
  tick : Nat
  word : Nat
  deriving DecidableEq, Repr

/-- The time unit's belt count, interpolation and speed. -/
structure Belt where
  bc : Nat := 0                       -- BC48 (R14)
  wPrev : Nat := 0                    -- W_prev (R14)
  fresh : Bool := true                -- no valid sample since power-up or a change of source (R14)
  rebase : Bool := false              -- the next valid sample only sets W_prev (R14, a change of coding)
  st : BeltSt := .noSource
  follow : Dir := .stopped            -- the direction followed; HOLDOVER counts as the state it came from (R18)
  restart : Bool := false             -- the emitted IBP is set to E(t) once (R18)
  segBc : Nat := 0                    -- bc_k of the current estimate (R17)
  segTick : Nat := 0                  -- t_k of the current estimate
  v : Int := 0                        -- speed in bc per tick, 40 fractional bits (R17)
  spNum : Int := 0                    -- speed as (bc_k − bc_j) over (t_k − t_j) ticks (R20)
  spDen : Nat := 1
  ibp : Nat := 0                      -- emitted IBP, 48.16 (R18)
  ibpPrev : Nat := 0                  -- emitted IBP of the previous tick (R18)
  latch : Option Latch := none        -- a sample in progress (R16)
  lastLatch : Option Nat := none      -- tick of the latest latch
  lastValid : Nat := 0                -- tick at which the latest valid sample completed (R16)
  win : List (Nat × Nat) := []        -- retained valid samples (tick, bc), newest first (R20)
  pairs : List (Nat × Nat) := []      -- stored pairs (bc, LocalTime), newest first, at most 4,096 (R29)
  reorigin : Option Nat := none       -- a BeltReorigin that waits for the next valid sample (R30)
  saturated : Bool := false           -- bc saturated at 2^48 − 1 (R15)
  isOver : Bool := false                -- measured speed stands above MaxBeltSpeed (R21)
  sinceLost : Bool := false           -- the sample after LOST waits for the next one to measure speed (R16)
  rejected : Nat := 0                 -- samples rejected since the last valid one (R382, type 0x06)
  quad : Nat := 0                     -- the quadrature counter of source 0x02 (R13, R282)
  simBase : Nat := 0                  -- simulated belt: counter value at simTick (R13)
  simTick : Nat := 0
  lastTrig : SMap Nat := []           -- per stream, 1 + the tick of its latest trigger (R26)
  stripe : Nat := 0                   -- no stripe below this one begins any more (R28)
  streamStart : Bool := true          -- the next stripe to begin is a stream start (R184)
  startStripe : Nat := 0              -- the first stripe of the latest stream start
  lineFloor : Nat := 0                -- no stripe that holds a line below this one begins (R110)
  era : Nat := 0                      -- the numbering of lines in force: the changes of geometry or origin so far (R30, R31)
  liveEra : Nat := 0                  -- the first numbering since the latest new origin; older lines are discarded (R30)
  geos : SMap (Nat × Nat) := []       -- LineOriginPosition and LinePitch of each earlier numbering (R27, R31)
  deriving DecidableEq, Repr

/-! ### Supplies (spec/02) -/

/-- The supply inputs and the field-bank fuses (R43 to R47). -/
structure Supplies where
  logicLow : Option Nat := none       -- tick since which the logic input stands below 19.2 V (R46)
  logicOk : Option Nat := none        -- while the logic input stays above 20.4 V, the tick from which it has for 100 ms (R46)
  reversed : List Nat := []           -- the inputs of reverse polarity (R44): 0 logic, 1 camera, 2 + k field bank k
  logicMin : Nat := 0                 -- lowest since it fell below 19.2 V, in mV
  cameraMv : Nat := 0
  bankMv : SMap Nat := []             -- per field bank, in mV; 0 absent
  fuseOpen : SMap Nat := []           -- per field bank, while its fuse is open, 1 + the tick from which it may be closed (R47)
  inReset : Bool := false             -- the module is in reset (R46, R408)
  resetDue : Option Nat := none       -- fault code that a start-up answers (R466)
  deriving DecidableEq, Repr

/-! ### The dictionary engine (spec/03) -/

/-- Where a commit stands (R62, R64). -/
inductive CommitPhase
  | idle
  | checking (checkOnly : Bool)       -- the six steps of checks run (R63)
  | waiting                           -- accepted; the instant is the trigger of the next stripe's first line (R64)
  deriving DecidableEq, Repr

/-- An open BDP session (R72, R73). -/
structure Session where
  num : Nat
  seq : Nat                           -- Sequence of the previous request
  kept : List Byte                    -- the kept response
  last : Nat                          -- tick of the latest valid frame
  deriving DecidableEq, Repr

/-- A BLOB being written in segments by one session (R71). -/
structure Partial where
  session : Nat
  key : Nat
  data : List Byte
  deriving DecidableEq, Repr

/-- The dictionary engine: staging set, commit, sessions. -/
structure Ctl where
  staged : SMap Nat := []             -- staged fixed-size values, by entry key (R61)
  stagedBlobs : SMap (List Byte) := []
  owner : Nat := 0                    -- StageOwner; 0 none
  phase : CommitPhase := .idle
  sessions : List Session := []
  nextSession : Nat := 1              -- R72
  mbx : SMap Session := []            -- the two mailbox sessions' sequences (R75)
  parts : List Partial := []
  cmdStatus : SMap Nat := []          -- status of the latest action of each CMD entry (R7)
  serving : Bool := true              -- the dictionary is serving (R56, R466)
  deriving DecidableEq, Repr

/-! ### The host link (spec/16) -/

/-- States of a ring (R369). -/
inductive RingSt | disabled | running | held | stopped
  deriving DecidableEq, Repr

/-- Where a fetched ring command stands (R373). -/
inductive CmdSt
  | fetched                           -- fetched, not started
  | started                           -- in progress
  | done (status result : Nat)        -- finished; its completion is written in ring order
  deriving DecidableEq, Repr

/-- A command fetched from a ring (R371). -/
structure RingCmd where
  index : Nat                         -- entry index, free-running
  id : Nat
  notify : Bool
  badReserved : Bool                  -- a reserved field was non-zero
  body : List Byte                    -- 40 bytes
  st : CmdSt := .fetched
  fencing : Bool := false             -- its implied FENCE still holds it (R339, R342)
  data : List Byte := []              -- what a transfer reads from the host (R376, R377)
  moved : Nat := 0                    -- bytes of the transfer that have moved so far (R386)
  deriving DecidableEq, Repr

/-- A command ring (R369, R371 to R373). -/
structure Ring where
  st : RingSt := .disabled
  port : Option Nat := none
  base : Nat := 0
  log2 : Nat := 0
  config : Nat := 0                   -- HWIN_RING_CONFIG as written
  ctx : Nat := 0
  notice : Nat := 0
  fetched : Nat := 0
  completed : Nat := 0
  tail : Nat := 0
  lastStatus : Nat := 0
  cmds : List RingCmd := []           -- fetched and not completed, oldest first
  disabling : Bool := false           -- DISABLE waits for the commands in progress (R372)
  deriving DecidableEq, Repr

/-- States of an event queue (R369). -/
inductive QueueSt | disabled | enabled | held
  deriving DecidableEq, Repr

/-- An event queue (R378 to R381). -/
structure EvQueue where
  st : QueueSt := .disabled
  port : Option Nat := none
  base : Nat := 0
  config : Nat := 0                   -- HWIN_EVQ_CONFIG as written
  written : Nat := 0                  -- last Sequence written
  head : Nat := 0                     -- last Sequence consumed
  held : List Rec := []               -- holding buffer, oldest first
  dropped : Nat := 0                  -- records dropped since the last QUEUE_OVERFLOW
  droppedPos : Nat := 0               -- position of the first of them
  droppedTime : Nat := 0
  unsig : Nat := 0                    -- records written since the last interrupt
  oldest : Nat := 0                   -- tick of the oldest of them
  armed : Bool := true
  deriving DecidableEq, Repr

/-- States of a USB4 port (R364). -/
inductive PortSt | noLink | noTunnel | up | lost | detached
  deriving DecidableEq, Repr

/-- The code that HostPortState reads. -/
def PortSt.code : PortSt → Nat
  | .noLink => 0
  | .noTunnel => 1
  | .up => 2
  | .lost => 3
  | .detached => 4

/-- One USB4 port with its host window (R364, R369, R384, R385). -/
structure HostPort where
  st : PortSt := .noLink
  lostAt : Nat := 0
  ringSel : Nat := 0
  evqSel : Nat := 0
  errStatus : Nat := 0                -- HWIN_ERROR fields
  errUnit : Nat := 0
  errOffset : Nat := 0
  errCount : Nat := 0
  imgBase : Nat := 0
  imgConfig : Nat := 0
  imgUsed : List Nat := []            -- slots not released, rising
  imgWritten : Nat := 0
  mbxReq : SMap Byte := []            -- mailbox request buffer (R385)
  mbxResp : List Byte := []
  mbxBusy : Bool := false
  mbxReady : Bool := false
  deriving DecidableEq, Repr

/-- The ring and event engine. -/
structure HostLink where
  ports : SMap HostPort := []
  rings : SMap Ring := []
  queues : SMap EvQueue := []
  nextRing : Nat := 0                 -- round-robin turn (R373)
  bootRec : Option Rec := none        -- the held BOOT record (R466)
  fetching : Bool := true             -- false in whole-device recovery (R419)
  deriving DecidableEq, Repr

/-! ### The network and network time (spec/17) -/

/-- States of a tracked domain (R398). -/
inductive DomSt | disabled | listening | acquiring | locked | holdover | unusable
  deriving DecidableEq, Repr

/-- The code that DomainState reads. -/
def DomSt.code : DomSt → Nat
  | .disabled => 0
  | .listening => 1
  | .acquiring => 2
  | .locked => 3
  | .holdover => 4
  | .unusable => 5

/-- What an Announce message says of a grandmaster and its path, as the comparison of IEEE 1588 clause 9.3 reads it. -/
structure Announce where
  domain : Nat
  priority1 : Nat
  clockClass : Nat
  accuracy : Nat
  variance : Nat
  priority2 : Nat
  grandmaster : Nat
  stepsRemoved : Nat
  sender : Nat                        -- clockIdentity of the sender
  senderPort : Nat
  transport : Nat := 0                -- of the frame that carried it, as PtpTransport names them (R390)
  deriving DecidableEq, Repr

/-- A correction word (R393). -/
structure CorrWord where
  base : Nat := 0
  offset : Int := 0
  rate : Int := 0
  deriving DecidableEq, Repr

/-- One tracked PTP domain (R395 to R398). -/
structure Domain where
  st : DomSt := .listening
  master : Option (Nat × Announce) := none   -- the port and the Announce of the chosen master
  foreign : List (Nat × Announce) := []      -- the latest Announce of each other master heard, by port
  corr : CorrWord := {}                      -- DomainTime = LocalTime through this word
  rates : List Int := []                     -- the last 64 rates (R400)
  t1 : Int := 0                              -- stamps of the exchange (R397)
  t2 : Int := 0
  cs : Int := 0
  t3 : Int := 0
  syncSeq : Nat := 0
  waitFollow : Bool := false                 -- a two-step Sync waits for its Follow_Up
  reqSeq : Nat := 0
  reqOut : Bool := false                     -- a Delay_Req waits for its Delay_Resp
  reqDue : Nat := 0                          -- tick of the next Delay_Req
  reqInterval : Int := 0                     -- logMessageInterval of the Delay_Resp
  good : Nat := 0                            -- consecutive Syncs below LockThreshold
  bad : Nat := 0                             -- consecutive Syncs at or above it
  big : Nat := 0                             -- consecutive Syncs at or above StepThreshold
  lastSync : Nat := 0                        -- tick of the latest Sync
  stepped : Bool := false                    -- DomainTime was stepped to this master
  noStep : Bool := false                     -- back from HOLDOVER or UNUSABLE: slew below StepThreshold (R398)
  lockedSince : Nat := 0
  deriving DecidableEq, Repr

/-- One Ethernet port (R389, R390, R396). -/
structure EthPort where
  arp : List (Nat × Nat × Nat) := []         -- (address, MAC, tick learned), newest first, at most 64
  icmpTick : Nat := 0                        -- start of the second that icmpCount counts
  icmpCount : Nat := 0
  pdSeq : Nat := 0                           -- peer delay exchange
  pdT1 : Int := 0
  pdT2 : Int := 0
  pdT3 : Int := 0
  pdT4 : Int := 0
  pdCorr : Int := 0
  pdWait : Bool := false
  pdDue : Nat := 0
  linkDelay : Int := 0                       -- meanLinkDelay
  deriving DecidableEq, Repr

/-- The network ports and the selected timescale (R392 to R401). -/
structure Net where
  eth : SMap EthPort := []
  dom : SMap Domain := []
  everLocked : Bool := false
  selected : Option Nat := none
  word : CorrWord := {}                      -- the word in force in the time unit (R393)
  crossing : List CorrWord := []             -- words on their way to the time unit, oldest first
  slew : Option (Nat × Int × Nat) := none    -- seamless switch: start LocalTime, Δ, duration in ns (R399)
  timeSt : Nat := 0                          -- TimeState (R401)
  holdAt : Nat := 0                          -- tick of entry into HOLDOVER
  deriving DecidableEq, Repr

/-! ### Faults and recovery (spec/18) -/

/-- Scopes of a fault (R408). -/
inductive Scope | report | layer | job | context | contextStop | group | device | reset
  deriving DecidableEq, Repr

/-- The code of a scope. -/
def Scope.code : Scope → Nat
  | .report => 0
  | .layer => 1
  | .job => 2
  | .context => 3
  | .contextStop => 4
  | .group => 5
  | .device => 6
  | .reset => 7

/-- An entry of the fault log (R425). -/
structure FaultEntry where
  code : Nat
  scope : Nat
  ctx : Nat
  src : Nat
  flags : Nat
  pos : Nat
  time : Nat
  detail : Nat                        -- payload bytes 2–7 as one little-endian number
  boot : Nat
  deriving DecidableEq, Repr

/-- A context being torn down (R412). -/
structure Teardown where
  start : Nat                         -- tick of the trigger
  code : Nat                          -- fault code
  stop : Bool                         -- ends STOPPED
  counted : Bool                      -- counted under R415
  cmd : Bool                          -- started by ContextReset
  fault : Rec                         -- the fault record that follows the completions
  recSent : Bool := false
  suppress : Bool := false            -- the record is suppressed (R406)
  deriving DecidableEq, Repr

/-- Whole-device recovery in progress (R419). -/
structure Recovery where
  start : Nat
  cause : Nat
  records : List Rec := []            -- records kept for phase 6, oldest first (R422)
  reset : Option Nat := none          -- context whose ContextReset waits for the end (R422)
  blobsOk : Bool := true
  deriving DecidableEq, Repr

/-- The fallback gap (R416 to R418). -/
structure Gap where
  origin : Nat
  next : Nat                          -- index of the next segment to issue
  closeAt : Option Nat                -- position C of the resuming stripe, when known
  deriving DecidableEq, Repr

/-- The fault unit. -/
structure FaultUnit where
  log : List FaultEntry := []         -- FaultLog, newest last (R425)
  nv : List FaultEntry := []          -- FaultLogNv
  overCount : SMap Nat := []               -- overwrites since each log was emptied, by log code (R474)
  lateFull : Bool := false            -- a LOG_FULL of FaultLogNv waits for readiness (R474)
  rateSec : SMap Nat := []            -- per code, the second of its latest record (R406)
  rateCount : SMap Nat := []          -- per code, records issued in that second
  torn : SMap Teardown := []          -- teardowns in progress, by context
  history : List (Nat × Nat) := []    -- (context, tick) of teardowns of scope CONTEXT (R415)
  recoveries : List Nat := []         -- ticks of recoveries (R421)
  recovery : Option Recovery := none
  stalled : Bool := false             -- the control processor is stalled (R56)
  gap : Option Gap := none
  freezeAt : SMap Nat := []           -- per die, 1 + the tick its freeze began (R409)
  deriving DecidableEq, Repr

end Sys2Proof.Machine
end

