-- ==== Sys2Proof/Machine/StateImage.lean ====
section
/-! DEFINITION. The state of the camera intake, the image pipelines and the JPEG engine: spec/04 and 05. -/

namespace Sys2Proof.Machine

/-! ### Camera links (spec/04) -/

/-- States of a camera link (R85). -/
inductive LinkSt | idle | powering | discovery | configuring | testing | up | retraining | failed | loopback | powerFault
  deriving DecidableEq, Repr

/-- The code that LinkState reads (R85). -/
def LinkSt.code : LinkSt → Nat
  | .idle => 0
  | .powering => 1
  | .discovery => 2
  | .configuring => 3
  | .testing => 4
  | .up => 5
  | .retraining => 6
  | .failed => 7
  | .loopback => 8
  | .powerFault => 9

/-- States of a stream (0x0509). -/
inductive StreamSt | off | starting | ready | streaming | resync | failed
  deriving DecidableEq, Repr

/-- The code that StreamState reads (R98). -/
def StreamSt.code : StreamSt → Nat
  | .off => 0
  | .starting => 1
  | .ready => 2
  | .streaming => 3
  | .resync => 4
  | .failed => 5

/-- Where a link stands within POWERING (R86, R93). -/
inductive PowerStep | none | waitSupply | sense | softStart | boot
  deriving DecidableEq, Repr

/-- What a control command to a camera is for (R86, R91, R98). -/
inductive CtlOp | ident | hostId | packetSize | connConfig | testOn | testOff | acqStart | acqStop | regRead | regWrite
  deriving DecidableEq, Repr

/-- The code of a control command's purpose, as the model's output names it. -/
def CtlOp.code : CtlOp → Nat
  | .ident => 0
  | .hostId => 1
  | .packetSize => 2
  | .connConfig => 3
  | .testOn => 4
  | .testOff => 5
  | .acqStart => 6
  | .acqStop => 7
  | .regRead => 8
  | .regWrite => 9

/-- A control command waiting for its acknowledgment (R92). -/
structure CtlCmd where
  tag : Nat
  op : CtlOp
  addr : Nat := 0
  data : List Byte := []
  tries : Nat := 1
  sentAt : Nat
  deriving DecidableEq, Repr

/-- One camera link. -/
structure CamLink where
  st : LinkSt := .idle
  step : PowerStep := .none
  powered : Bool := false             -- the camera-power switch
  since : Nat := 0                    -- tick at which the present phase began
  lock : Bool := false                -- word lock (R87)
  ident : Option (Nat × Nat × Nat) := none  -- device, connection number, revision in tenths, as the camera reports
  hostIdOk : Bool := false            -- the host connection identity was written (R86)
  switching : Bool := false           -- switching to the rate of its stream (R86, step 4)
  tested : Bool := false              -- its connection test has ended
  rates : List Nat := []              -- rate codes the camera advertises
  badRetrains : Nat := 0              -- failed retrains in a row (R87)
  testErrors : Nat := 0               -- errors counted in the connection test (R86)
  inTest : Bool := false              -- it lost word lock in its connection test and retrains (R87)
  ctl : List CtlCmd := []             -- control commands not acknowledged, oldest first
  tag : Nat := 0                      -- tag of the next control command
  deriving DecidableEq, Repr

/-- What the intake knows of a line (R90 to R92, R109, R110). -/
inductive LineSt | sent | begun | delivered | missing | late
  deriving DecidableEq, Repr

/-- A line of a stream: its state, its bytes as received, whether step 2 of a resync marked it missing, and whether it is
the stream's first line after step 5 (R91, R115). -/
structure Line where
  st : LineSt
  data : List Byte := []
  slip : Bool := false
  restart : Bool := false
  deriving DecidableEq, Repr

/-- One part of a stream packet's payload (R80, R91): an image header, the start of a line, pixel bytes, the end of a
line. -/
inductive PktPart
  | header (format xsize : Nat)
  | lineStart
  | pixels (data : List Byte)
  | lineEnd
  deriving DecidableEq, Repr

/-- A stream packet as it arrived (R90, R92). -/
structure Packet where
  tag : Nat
  link : Nat
  size : Nat                          -- payload bytes
  crcOk : Bool
  codeError : Bool                    -- a code or disparity error inside it
  parts : List PktPart
  deriving DecidableEq, Repr

/-- One stream. -/
structure Stream where
  st : StreamSt := .off
  links : List Nat := []              -- the links it owns, by connection number once identified
  master : Nat := 0                   -- the master link; its lowest link until it is identified (log entry 100)
  rate : Nat := 0                     -- the rate being tried or agreed (R86)
  heldHigh : Bool := false            -- held to CXP-10 and above (R82, R86)
  since : Nat := 0
  identAt : Nat := 0                  -- tick of the failed identification (R86)
  uplinkFree : Nat := 0               -- tick from which the uplink is free of the previous trigger packet (R89)
  due : Option (Nat × Nat) := none    -- a trigger that waits for its packet: line and compare tick (R88)
  trigs : List Nat := []              -- lines whose trigger was sent and whose data has not begun, oldest first (R91)
  cur : Option Nat := none            -- the line whose data is arriving
  curData : List Byte := []
  curBad : Bool := false              -- the line arriving was marked missing
  frame : Nat := 0                    -- lines of the present frame; meaningless before its header
  inFrame : Bool := false
  nextTag : Option Nat := none        -- tag of the next packet in order (R90)
  hold : List Packet := []            -- packets out of order
  lines : SMap Line := []             -- the lines that a stripe may still need
  resyncStep : Nat := 0               -- 0 none, 1 stop being written, 2 start being written (R91)
  afterResync : Bool := false         -- the next trigger to be sent is the first after step 5 of R91
  highest : Option Nat := none        -- highest line index triggered (R108)
  first : Nat := 0                    -- lowest line it may trigger since its next line was last recomputed (R25, R30, R31)
  heard : Nat := 0                    -- tick of the latest heartbeat (R92)
  drainAt : Option Nat := none        -- tick of the commit instant that disabled or moved the stream (R84)
  stopAddr : Nat := 0                 -- StreamAcqStopAddress of the generation that drains
  deriving DecidableEq, Repr

/-- An eye scan in progress (R96). -/
structure EyeScan where
  link : Nat
  start : Nat
  dwell : Nat := 1000000              -- EyeScanDwell and the lane rate as the scan started
  rate : Nat := 0
  deriving DecidableEq, Repr

/-- The camera intake. -/
structure Intake where
  links : SMap CamLink := []
  streams : SMap Stream := []
  scan : Option EyeScan := none
  deriving DecidableEq, Repr

/-! ### Image pipelines and the JPEG engine (spec/05) -/

/-- A stripe that the pipelines have begun and not handed on (R109 to R116). -/
structure Stripe where
  num : Nat
  gen : Nat := 0                      -- ConfigGeneration in force when it began (R64)
  need : List Nat := []               -- the streams that contribute a tile (R480)
  closed : List Nat := []             -- streams whose lines have closed (R109)
  lookSub : List (Nat × Nat) := []    -- lookahead lines read as their substitutes: stream and line (R109)
  written : List Nat := []            -- streams whose tile has been written
  dropped : Bool := false             -- dropped whole by an overrun (R230)
  lines : List Nat := []              -- substituted lines, within the stripe
  streams : List Nat := []            -- streams that substituted a line
  flags : Nat := 0                    -- descriptor flags (R115)
  start : Bool := false               -- it is a stream start (R184)
  endLines : Option Nat := none       -- real lines since the stream start, once a change of geometry has cut it (R110, R185)
  complete : Bool := false            -- its lines are delivered or marked missing on every stream (R28)
  vals : SMap Nat := []               -- values of 0x0500 and 0x0600 of its generation (R64, R103)
  mesh : SMap (List Byte) := []       -- MeshTable of its generation
  doneAt : Nat := 0                   -- tick at which the tiles begun so far are written
  ready : Bool := false               -- it has crossed to the compute die (R116)
  readyCyc : Nat := 0                 -- CCLK cycle at which it landed there
  deriving DecidableEq, Repr

/-- A stripe that is numbered and completed but not processed (R28, R414): its height and the streams it waits for. -/
structure Passing where
  num : Nat
  height : Nat
  need : List Nat
  deriving DecidableEq, Repr

/-- What a pipeline keeps of a stream across its stripes (R101, R107, R108, R113). -/
structure PipeCtx where
  prev : Option (List Nat) := none    -- stage-6 output of the previous delivered line (R107)
  last : Option (List Nat) := none    -- stage-6 output or substitute of the previous line (R110)
  window : SMap (List Nat) := []      -- corrected lines of the mesh window, by line (R113)
  first : Option Nat := none          -- first line since stream start or resync (R113)
  active : Nat := 0                   -- set in force for the next line to be corrected
  switch : List (Nat × Nat) := []     -- pending switches: line, new set, oldest first (R108)
  switches : List (Nat × Nat) := []   -- switches made: line and set from it on, newest first
  deriving DecidableEq, Repr

/-- A request to encode an object's box (R118). -/
structure EncReq where
  pos : Nat                           -- fire position of the decision
  track : Nat
  firstLine : Nat
  lastLine : Nat
  colLeft : Nat
  colRight : Nat
  deriving DecidableEq, Repr

/-- A decode accepted from a ring (R119 to R122). -/
structure DecReq where
  ring : Nat
  index : Nat                         -- ring entry index
  body : List Byte
  data : List Byte                    -- the compressed bytes, as fetched from the host
  deadline : Nat
  used : Nat := 0                     -- PCLK cycles of core time
  width : Nat := 0
  height : Nat := 0
  deriving DecidableEq, Repr

/-- The pipelines, their buffers and the JPEG engine. -/
structure Pipe where
  stripes : SMap Stripe := []
  passing : List Passing := []        -- stripes that are not processed, oldest first
  ctxs : SMap PipeCtx := []           -- by stream
  busy : SMap Nat := []               -- per pipeline, tick at which its stripe ends
  history : SMap (List Byte) := []    -- decimated corrected lines for the JPEG engine, by line (R118)
  encQueue : List EncReq := []
  decode : SMap (List DecReq) := []   -- queued decodes, by decoder context
  decTurn : Nat := 0                  -- the context the decode core serves
  deriving DecidableEq, Repr

end Sys2Proof.Machine
end

