-- ==== Sys2Proof/Machine/Operands.lean ====
section
/-! DEFINITION. What the block's surroundings deliver with a command: the operands of the rows whose command is an
arrival or an observation. Numbers are as the spec numbers them. A CRC whose polynomial and coverage the spec gives is
carried as received and computed by the rule (R290, R317); the checks of the camera links and of the tethers, and line
codes, are Boolean observations. -/

namespace Sys2Proof.Machine

/-- One reading of an encoder channel (R301 to R303): the bits clocked in, most significant first as one number, the
second word of the same pass, the level of DAT before the latch and at the monoflop instant, and what the two wires of
each pair showed. -/
structure EncRead where
  bits : Nat
  second : Nat := 0
  idleHigh : Bool := true
  monoLow : Bool := true
  disagree : Bool := false
  clkBad : Bool := false
  deriving DecidableEq, Repr

/-- A UDP datagram received on an Ethernet port (R69, R390): its source address and port, and the port it is sent to. -/
structure Datagram where
  eth : Nat
  src : Nat
  sport : Nat
  dport : Nat := 30710
  payload : List Byte
  deriving DecidableEq, Repr

/-- A control acknowledgment from a camera (R80, R92): its tag, which an untagged one lacks, its code, the CRC check, and
what it carries: the identification (device, connection number and revision in tenths, as R86 reads them), the rates and the data bytes. -/
structure CtlAck where
  tag : Option Nat := none
  code : Nat := 0
  crcOk : Bool := true
  ident : Option (Nat × Nat × Nat) := none
  rates : List Nat := []
  data : List Byte := []
  deriving DecidableEq, Repr

/-- A packet from a camera that is not a stream packet (R92): a heartbeat or an event. -/
structure CamEvent where
  heartbeat : Bool
  crcOk : Bool := true
  data : List Byte := []
  deriving DecidableEq, Repr

/-- A received valve-link frame (R290): its payload, and what the receiver saw of its coding and its CRC. -/
structure VlFrame where
  typ : Nat
  seq : Nat := 0
  payload : List Byte
  crc : Nat := 0                      -- its two CRC bytes, low byte first
  codeErrors : Nat := 0               -- characters with a code or disparity error
  badLength : Bool := false
  deriving DecidableEq, Repr

/-- A received upstream memory frame (R317, R321). -/
structure UpFrame where
  seq : Nat
  crc : Nat := 0                      -- bits [15:0] of its trailer
  resent : Bool := false              -- RESENT of its trailer
  nak : Option Nat := none            -- NakSeq of its trailer
  valid : Bool := true                -- it carries data
  data : List Byte := []
  bad : List Nat := []                -- codewords of it that ECC could not correct, by die offset / 32
  corrected : Nat := 0                -- symbols corrected in it
  deriving DecidableEq, Repr

/-- A downstream memory frame as a memory-side die receives it (R315, R321). Its opcode is the one its command names. -/
structure DownFrame where
  seq : Nat
  addr : Nat := 0
  count : Nat := 0                    -- slots of the burst; 0 means 4,096
  data : List Byte := []              -- payload; it ends in zeros
  crc : Nat := 0                      -- bits [15:0] of its trailer
  opOk : Bool := true                 -- its opcode is one of R315
  reserved : Bool := false            -- its frame time is a reserved slot (R318), as those of REFRESH and SCRUB are
  replay : Option Nat := none         -- ReplaySeq, with ReplayValid
  bad : List Nat := []                -- SCRUB: codewords that ECC could not correct, by die offset / 32
  corrected : Nat := 0                -- SCRUB: symbols corrected
  deriving DecidableEq, Repr

/-- A received tether packet (R348). -/
structure TPacket where
  seq : Nat
  ackSeq : Nat := 0
  src : Nat
  dest : Nat
  ctx : Nat := 0
  fenced : Bool := false
  tag : Nat := 0
  arg : Nat := 0
  body : List Byte := []
  crc : Nat := 0                      -- its CRC-32
  typeOk : Bool := true
  reservedOk : Bool := true
  deriving DecidableEq, Repr

/-- The sender that an ARP reply names (R390). -/
structure ArpHost where
  ip : Nat
  mac : Nat
  deriving DecidableEq, Repr

/-- What a module sees of the way of a HELLO, besides its payload (R352). -/
structure HelloPath where
  turnaround : Nat := 0               -- ns at the far end
  hops : Nat := 1                     -- hops of the path
  deriving DecidableEq, Repr

/-- A received PTP message (R396): its header, its stamps in ns and its corrections in ns. -/
structure PtpMsg where
  eth : Nat
  domain : Nat
  source : Nat                        -- clockIdentity of the sender
  sourcePort : Nat
  seq : Nat
  transport : Nat := 0                -- 0 UDP over IPv4, 1 IEEE 802.3, as PtpTransport names them (R390)
  twoStep : Bool := false
  corr : Int := 0
  origin : Int := 0                   -- origin, precise origin or receipt time it carries
  rx : Int := 0                       -- LocalTime stamp of its receipt
  interval : Int := 0                 -- logMessageInterval
  reqSource : Nat := 0                -- requesting port of a response
  reqPort : Nat := 0
  deriving DecidableEq, Repr

/-- One die's reading of a temperature sample (R434), in 0.1 °C, and the supply figures of R435. -/
structure TempSample where
  dies : List Int                     -- by die number of R439, from 0
  logicMv : Nat
  logicW : Nat
  deriving DecidableEq, Repr

/-- A wrong sum in an array (R139): the array or spare, the tile of the kernel, the pass, the channel of the group, the
column (64 the check column), the group sum of the pass it lies in, and the error. -/
structure ArrErr where
  array : Nat
  tile : Nat
  pass : Nat
  chan : Nat
  col : Nat
  half : Nat := 0
  err : Int
  deriving DecidableEq, Repr

/-- A wrong INT32 add in the vector unit of a kernel (R212): the position and the channel of its result, and the error. -/
structure VecErr where
  row : Nat
  col : Nat
  chan : Nat
  err : Int
  deriving DecidableEq, Repr

/-- What went wrong on a die while a kernel ran: sums of arrays (R139), adds of its vector unit (R212), and a line-buffer
row, with its bank, that takes a parity error (R192). -/
structure KernelObs where
  arrays : List ArrErr := []
  adds : List VecErr := []
  parity : Option (Nat × Nat) := none
  deriving DecidableEq, Repr

/-- What a self-test found (R465): die code, unit kind, unit number, in the order of the table. -/
structure TestFail where
  die : Nat
  kind : Nat
  unit : Nat
  deriving DecidableEq, Repr

end Sys2Proof.Machine
end

