-- ==== Sys2Proof/Syntax.lean ====
section
/-! DEFINITION. The commands of the block: one constructor per row of the opcode table, in the table's order, each with
the rule that gives it and its operands. `sess` is the session that writes a CMD entry (0 when the write comes from no
session), `cyc` a CCLK cycle number of the compute dies. -/

namespace Sys2Proof

open Machine

/-- The commands of the opcode table. -/
inductive Instr
  | encoderSampleLatch -- ENCODER_SAMPLE_LATCH (R16)
  | sampleComplete (r : EncRead) -- SAMPLE_COMPLETE (R14)
  | holdoverEntry -- HOLDOVER_ENTRY (R16)
  | beltLost -- BELT_LOST (R16)
  | tclkTick -- TCLK_TICK (R19)
  | beltReorigin (sess : Nat) (val : Nat) -- BELT_REORIGIN (R30)
  | timeCopyUpdate -- TIME_COPY_UPDATE (R393)
  | bdpOpen (d : Datagram) -- BDP_OPEN (R72)
  | bdpClose (d : Datagram) -- BDP_CLOSE (R73)
  | bdpRead (d : Datagram) -- BDP_READ (R71)
  | bdpWrite (d : Datagram) -- BDP_WRITE (R71)
  | bdpKeepalive (d : Datagram) -- BDP_KEEPALIVE (R73)
  | bdpOpcodeUnknown (d : Datagram) -- BDP_OPCODE_UNKNOWN (R73)
  | bdpFrameMalformed (d : Datagram) -- BDP_FRAME_MALFORMED (R73)
  | bdpSessionTimeout (num : Nat) -- BDP_SESSION_TIMEOUT (R73)
  | dictionaryWrite (sess : Nat) (idx : Nat) (sub : Nat) (val : List Byte) -- DICTIONARY_WRITE (R479)
  | commit (sess : Nat) -- COMMIT (R62)
  | checkOnly (sess : Nat) -- CHECK_ONLY (R62)
  | commitChecksEnd -- COMMIT_CHECKS_END (R63)
  | commitInstant -- COMMIT_INSTANT (R64)
  | discard (sess : Nat) -- DISCARD (R62)
  | fieldBankReset (sess : Nat) (bank : Nat) -- FIELD_BANK_RESET (R47)
  | fieldBankTrip (bank : Nat) (ma : Nat) -- FIELD_BANK_TRIP (R47)
  | fieldBankSupplyChange (bank : Nat) (mv : Int) -- FIELD_BANK_SUPPLY_CHANGE (R45)
  | cameraSupplyChange (mv : Int) -- CAMERA_SUPPLY_CHANGE (R45)
  | logicSupplyDip (mv : Int) -- LOGIC_SUPPLY_DIP (R46)
  | powerFail (mv : Nat) -- POWER_FAIL (R46)
  | softStartDone (link : Nat) -- SOFT_START_DONE (R86)
  | loadSenseRetry (link : Nat) (ohms : Nat) -- LOAD_SENSE_RETRY (R93)
  | cameraBootTimeExpiry (link : Nat) -- CAMERA_BOOT_TIME_EXPIRY (R86)
  | wordLockGained (link : Nat) -- WORD_LOCK_GAINED (R87)
  | wordLockLost (link : Nat) -- WORD_LOCK_LOST (R87)
  | retrainTimeout (link : Nat) -- RETRAIN_TIMEOUT (R87)
  | identificationRetry (stream : Nat) -- IDENTIFICATION_RETRY (R86)
  | rateLockTimeout (link : Nat) -- RATE_LOCK_TIMEOUT (R86)
  | connectionTestEnd (link : Nat) (errors : Nat) -- CONNECTION_TEST_END (R86)
  | controlAcknowledgment (link : Nat) (ack : CtlAck) -- CONTROL_ACKNOWLEDGMENT (R92)
  | controlAckTimeout (link : Nat) -- CONTROL_ACK_TIMEOUT (R92)
  | triggerPacket (stream : Nat) -- TRIGGER_PACKET (R88)
  | streamPacket (stream : Nat) (p : Packet) -- STREAM_PACKET (R90)
  | eventPacket (stream : Nat) (e : CamEvent) -- EVENT_PACKET (R92)
  | heartbeatTimeout (stream : Nat) -- HEARTBEAT_TIMEOUT (R92)
  | streamDisableDrainEnd (stream : Nat) -- STREAM_DISABLE_DRAIN_END (R84)
  | cameraPowerOverload (link : Nat) (mw : Nat) -- CAMERA_POWER_OVERLOAD (R94)
  | cameraPowerFastTrip (link : Nat) (mw : Nat) -- CAMERA_POWER_FAST_TRIP (R94)
  | eyeScan (sess : Nat) (link : Nat) -- EYE_SCAN (R96)
  | eyeScanDone (map : List Byte) (width : Nat) (height : Nat) -- EYE_SCAN_DONE (R96)
  | streamRestart (sess : Nat) (stream : Nat) -- STREAM_RESTART (R86)
  | cameraRegRead (sess : Nat) -- CAMERA_REG_READ (R98)
  | cameraRegWrite (sess : Nat) -- CAMERA_REG_WRITE (R98)
  | pipelineStripeStart (pipe : Nat) (corrupt : List Nat) -- PIPELINE_STRIPE_START (R101)
  | stripeReady (stripe : Nat) (cyc : Nat) -- STRIPE_READY (R116)
  | paramSetSwitch (sess : Nat) (stream : Nat) -- PARAM_SET_SWITCH (R108)
  | paramSetTakesForce (stream : Nat) -- PARAM_SET_TAKES_FORCE (R108)
  | jpegEncodeDone -- JPEG_ENCODE_DONE (R118)
  | jpegDecode (ring : Nat) (data : List Byte) -- JPEG_DECODE (R119)
  | decodeContextSwitch -- DECODE_CONTEXT_SWITCH (R121)
  | jpegDecodeDone -- JPEG_DECODE_DONE (R122)
  | jpegDecodeAbandoned -- JPEG_DECODE_ABANDONED (R121)
  | kernelStart (ctx : Nat) (kernel : Nat) (cyc : Nat) (obs : KernelObs) -- KERNEL_START (R221)
  | kernelEnd (ctx : Nat) (kernel : Nat) (cyc : Nat) -- KERNEL_END (R452)
  | substitutionChange -- SUBSTITUTION_CHANGE (R143)
  | arrayRetest (sess : Nat) (code : Nat) -- ARRAY_RETEST (R150)
  | arrayRetestDone (pass : Bool) -- ARRAY_RETEST_DONE (R150)
  | arrayRetire (sess : Nat) (code : Nat) -- ARRAY_RETIRE (R141)
  | arrayRestore (sess : Nat) (code : Nat) -- ARRAY_RESTORE (R150)
  | planUploadBegin (sess : Nat) (length : Nat) -- PLAN_UPLOAD_BEGIN (R214)
  | planUploadData (sess : Nat) (data : List Byte) -- PLAN_UPLOAD_DATA (R214)
  | planUploadEnd (sess : Nat) (slot : Nat) -- PLAN_UPLOAD_END (R214)
  | planSlotClear (sess : Nat) (slot : Nat) -- PLAN_SLOT_CLEAR (R214)
  | periodStart (cyc : Nat) -- PERIOD_START (R228)
  | emptyPeriod (cyc : Nat) -- EMPTY_PERIOD (R231)
  | slotStart (die : Nat) (slot : Nat) (cyc : Nat) -- SLOT_START (R222)
  | periodEnd (cyc : Nat) -- PERIOD_END (R229)
  | stepStart (ctx : Nat) (cyc : Nat) -- STEP_START (R237)
  | stepEnd (ctx : Nat) (cyc : Nat) -- STEP_END (R221)
  | flush (sess : Nat) -- FLUSH (R232)
  | decisionRecordTakeUp -- DECISION_RECORD_TAKE_UP (R267)
  | fallbackOriginReceive -- FALLBACK_ORIGIN_RECEIVE (R416)
  | minOnTimeClose (chan : Nat) -- MIN_ON_TIME_CLOSE (R268)
  | maxOnTimeExpiry (chan : Nat) -- MAX_ON_TIME_EXPIRY (R268)
  | splitReopen (chan : Nat) -- SPLIT_REOPEN (R268)
  | valveTestPulse (sess : Nat) (val : Nat) -- VALVE_TEST_PULSE (R276)
  | testPulseEnd -- TEST_PULSE_END (R276)
  | fireErrorClear (sess : Nat) -- FIRE_ERROR_CLEAR (R272)
  | readbackEdge (out : Nat) (level : Bool) -- READBACK_EDGE (R285)
  | inputRawEdge (input : Nat) (level : Bool) -- INPUT_RAW_EDGE (R281)
  | inputFilterExpiry (input : Nat) -- INPUT_FILTER_EXPIRY (R280)
  | pulseWindowEnd (input : Nat) (level : Bool) -- PULSE_WINDOW_END (R280)
  | sensorSupplyTrip (ma : Nat) -- SENSOR_SUPPLY_TRIP (R283)
  | sensorSupplyReset (sess : Nat) -- SENSOR_SUPPLY_RESET (R283)
  | outputReadbackCheck (out : Nat) -- OUTPUT_READBACK_CHECK (R286)
  | currentLimitExpiry (out : Nat) -- CURRENT_LIMIT_EXPIRY (R286)
  | externalVoltageDetect (out : Nat) -- EXTERNAL_VOLTAGE_DETECT (R286)
  | externalVoltageClear (out : Nat) -- EXTERNAL_VOLTAGE_CLEAR (R286)
  | openLoadDetect (out : Nat) -- OPEN_LOAD_DETECT (R286)
  | outputFaultClear (sess : Nat) (out : Nat) -- OUTPUT_FAULT_CLEAR (R286)
  | generalOutputLevel (sess : Nat) (out : Nat) (level : Nat) -- GENERAL_OUTPUT_LEVEL (R285)
  | aliveHalfPeriod -- ALIVE_HALF_PERIOD (R287)
  | aliveStop (sess : Nat) -- ALIVE_STOP (R287)
  | aliveStart (sess : Nat) -- ALIVE_START (R287)
  | valveLinkLockGained (port : Nat) -- VALVE_LINK_LOCK_GAINED (R288)
  | valveLinkLockLost (port : Nat) -- VALVE_LINK_LOCK_LOST (R297)
  | valveLinkKeepalive (port : Nat) -- VALVE_LINK_KEEPALIVE (R291)
  | strobe (port : Nat) -- STROBE (R292)
  | valveLinkIdent (port : Nat) (f : VlFrame) -- VALVE_LINK_IDENT (R296)
  | valveLinkEcho (port : Nat) -- VALVE_LINK_ECHO (R296)
  | valveLinkStatus (port : Nat) (f : VlFrame) -- VALVE_LINK_STATUS (R291)
  | edgeStamp (port : Nat) (f : VlFrame) -- EDGE_STAMP (R299)
  | driverFault (port : Nat) (f : VlFrame) -- DRIVER_FAULT (R291)
  | testEcho (port : Nat) (f : VlFrame) -- TEST_ECHO (R300)
  | testFrameSend (port : Nat) -- TEST_FRAME_SEND (R300)
  | controlFrameRetransmit (port : Nat) -- CONTROL_FRAME_RETRANSMIT (R294)
  | identTimeout (port : Nat) -- IDENT_TIMEOUT (R296)
  | statusTimeout (port : Nat) -- STATUS_TIMEOUT (R296)
  | cableDelayRemeasure (port : Nat) -- CABLE_DELAY_REMEASURE (R296)
  | valveLinkBringupRetry (port : Nat) -- VALVE_LINK_BRINGUP_RETRY (R296)
  | encoderSupplyTrip (chan : Nat) (ma : Nat) -- ENCODER_SUPPLY_TRIP (R304)
  | encoderSupplyReset (sess : Nat) (chan : Nat) -- ENCODER_SUPPLY_RESET (R304)
  | auxSample (chan : Nat) (r : EncRead) -- AUX_SAMPLE (R305)
  | linkSlotStart (link : Nat) (slot : Nat) (cyc : Nat) -- LINK_SLOT_START (R319)
  | memoryRead (link : Nat) (f : DownFrame) -- MEMORY_READ (R319)
  | memoryWrite (link : Nat) (f : DownFrame) -- MEMORY_WRITE (R319)
  | refresh (link : Nat) (f : DownFrame) -- REFRESH (R320)
  | scrub (link : Nat) (f : DownFrame) -- SCRUB (R320)
  | recal (link : Nat) (cyc : Nat) -- RECAL (R328)
  | nop (link : Nat) (f : DownFrame) -- NOP (R315)
  | replay (link : Nat) (f : DownFrame) -- REPLAY (R321)
  | upstreamFrameLanded (link : Nat) (f : UpFrame) -- UPSTREAM_FRAME_LANDED (R321)
  | nakResend (link : Nat) (f : UpFrame) -- NAK_RESEND (R321)
  | recalOverdue (link : Nat) (cyc : Nat) -- RECAL_OVERDUE (R328)
  | externalTransfer (link : Nat) (slot : Nat) (write : Bool) (addr : Nat) (data : List Byte) -- EXTERNAL_TRANSFER (R327)
  | uncorrectableLogClear (sess : Nat) -- UNCORRECTABLE_LOG_CLEAR (R324)
  | planKnotAction (action : Nat) (cyc : Nat) -- PLAN_KNOT_ACTION (R344)
  | knotWaitTimeout (waiter : Nat) -- KNOT_WAIT_TIMEOUT (R340)
  | fenceRelease (ring : Nat) -- FENCE_RELEASE (R342)
  | tetherPortTrained (port : Nat) -- TETHER_PORT_TRAINED (R347)
  | operand (port : Nat) (p : TPacket) -- OPERAND (R353)
  | tetherWrite (port : Nat) (p : TPacket) -- TETHER_WRITE (R348)
  | readReq (port : Nat) (p : TPacket) -- READ_REQ (R348)
  | readComp (port : Nat) (p : TPacket) -- READ_COMP (R348)
  | knotOp (port : Nat) (p : TPacket) -- KNOT_OP (R354)
  | knotReply (port : Nat) (p : TPacket) -- KNOT_REPLY (R354)
  | errorComp (port : Nat) (p : TPacket) -- ERROR_COMP (R357)
  | tetherHeartbeat (port : Nat) (p : TPacket) -- TETHER_HEARTBEAT (R349)
  | hello (port : Nat) (p : TPacket) (h : HelloPath) -- HELLO (R352)
  | ack (port : Nat) (p : TPacket) -- ACK (R349)
  | tetherRetransmit (port : Nat) -- TETHER_RETRANSMIT (R349)
  | tetherHeartbeatSend (port : Nat) -- TETHER_HEARTBEAT_SEND (R349)
  | memberLost (member : Nat) -- MEMBER_LOST (R355)
  | helloTimeout (member : Nat) -- HELLO_TIMEOUT (R352)
  | groupFormationRetry -- GROUP_FORMATION_RETRY (R352)
  | tetherDelayRemeasure -- TETHER_DELAY_REMEASURE (R352)
  | tunnelUp (port : Nat) -- TUNNEL_UP (R386)
  | tunnelLost (port : Nat) -- TUNNEL_LOST (R386)
  | tunnelHoldExpiry (port : Nat) -- TUNNEL_HOLD_EXPIRY (R386)
  | functionLevelReset (port : Nat) -- FUNCTION_LEVEL_RESET (R386)
  | hwinRegisterWrite (port : Nat) (offset : Nat) (val : Nat) -- HWIN_REGISTER_WRITE (R370)
  | hwinErrorClear (port : Nat) (val : Nat) -- HWIN_ERROR_CLEAR (R369)
  | ringEnable (port : Nat) -- RING_ENABLE (R372)
  | ringDisable (port : Nat) -- RING_DISABLE (R372)
  | hwinRingDoorbell (port : Nat) (val : Nat) -- HWIN_RING_DOORBELL (R372)
  | evqEnable (port : Nat) -- EVQ_ENABLE (R378)
  | evqDisable (port : Nat) -- EVQ_DISABLE (R378)
  | hwinEvqHead (port : Nat) (val : Nat) -- HWIN_EVQ_HEAD (R379)
  | evqTimeThreshold (queue : Nat) -- EVQ_TIME_THRESHOLD (R381)
  | hwinImgRelease (port : Nat) (val : Nat) -- HWIN_IMG_RELEASE (R384)
  | hwinMbxDoorbell (port : Nat) (val : Nat) -- HWIN_MBX_DOORBELL (R385)
  | hwinPortAdopt (port : Nat) (val : Nat) -- HWIN_PORT_ADOPT (R387)
  | ringFetch (entry : List Byte) -- RING_FETCH (R373)
  | ringCommandComplete (ring : Nat) -- RING_COMMAND_COMPLETE (R373)
  | ringNop (ring : Nat) -- RING_NOP (R375)
  | copyToDevice (ring : Nat) (data : List Byte) -- COPY_TO_DEVICE (R376)
  | copyFromDevice (ring : Nat) -- COPY_FROM_DEVICE (R376)
  | planLoad (ring : Nat) (data : List Byte) -- PLAN_LOAD (R377)
  | jobSubmit (ring : Nat) -- JOB_SUBMIT (R377)
  | knotAdd (ring : Nat) -- KNOT_ADD (R338)
  | knotSub (ring : Nat) -- KNOT_SUB (R338)
  | knotWait (ring : Nat) -- KNOT_WAIT (R340)
  | knotRead (ring : Nat) -- KNOT_READ (R338)
  | knotInit (ring : Nat) -- KNOT_INIT (R338)
  | fence (ring : Nat) -- FENCE (R342)
  | portLinkChange (eth : Nat) (up : Bool) (rate : Nat) -- PORT_LINK_CHANGE (R389)
  | arpRequest (eth : Nat) (ip : Nat) (mac : Nat) (target : Nat) -- ARP_REQUEST (R390)
  | arpReply (eth : Nat) (sender : ArpHost) (target : Nat) -- ARP_REPLY (R390)
  | arpCacheExpiry (eth : Nat) (ip : Nat) -- ARP_CACHE_EXPIRY (R390)
  | icmpEchoRequest (eth : Nat) (src : Nat) (dst : Nat) (data : List Byte) -- ICMP_ECHO_REQUEST (R390)
  | sync (m : PtpMsg) -- SYNC (R396)
  | followUp (m : PtpMsg) -- FOLLOW_UP (R396)
  | delayResp (m : PtpMsg) -- DELAY_RESP (R397)
  | pdelayReq (m : PtpMsg) -- PDELAY_REQ (R396)
  | pdelayResp (m : PtpMsg) -- PDELAY_RESP (R396)
  | pdelayRespFollowUp (m : PtpMsg) -- PDELAY_RESP_FOLLOW_UP (R396)
  | announce (eth : Nat) (a : Announce) -- ANNOUNCE (R395)
  | delayReqSend (domain : Nat) -- DELAY_REQ_SEND (R396)
  | pdelayReqSend (eth : Nat) -- PDELAY_REQ_SEND (R396)
  | syncLossTimeout (domain : Nat) -- SYNC_LOSS_TIMEOUT (R398)
  | domainRevert -- DOMAIN_REVERT (R399)
  | slewComplete -- SLEW_COMPLETE (R399)
  | holdoverLimitExpiry -- HOLDOVER_LIMIT_EXPIRY (R400)
  | freezeLimit (die : Nat) (cyc : Nat) -- FREEZE_LIMIT (R409)
  | checkpointLate (die : Nat) (cyc : Nat) -- CHECKPOINT_LATE (R410)
  | controlStall -- CONTROL_STALL (R411)
  | helperHalted (helper : Nat) -- HELPER_HALTED (R411)
  | timeUnitHalted -- TIME_UNIT_HALTED (R411)
  | ejectionUnitHalted -- EJECTION_UNIT_HALTED (R411)
  | dieTransport (path : Nat) -- DIE_TRANSPORT (R407)
  | teardownEnd (ctx : Nat) -- TEARDOWN_END (R412)
  | contextReset (sess : Nat) (ctx : Nat) -- CONTEXT_RESET (R413)
  | deviceRecover (sess : Nat) -- DEVICE_RECOVER (R419)
  | recoveryResume -- RECOVERY_RESUME (R419)
  | faultLogClear (sess : Nat) -- FAULT_LOG_CLEAR (R425)
  | faultLogNvClear (sess : Nat) -- FAULT_LOG_NV_CLEAR (R425)
  | powerTargetRun (sess : Nat) -- POWER_TARGET_RUN (R428)
  | powerTargetReady (sess : Nat) -- POWER_TARGET_READY (R428)
  | powerTargetDoze (sess : Nat) -- POWER_TARGET_DOZE (R428)
  | powerTargetRetain (sess : Nat) -- POWER_TARGET_RETAIN (R428)
  | powerTargetStandby (sess : Nat) -- POWER_TARGET_STANDBY (R428)
  | powerTransitionDone -- POWER_TRANSITION_DONE (R432)
  | autoReadyEntry -- AUTO_READY_ENTRY (R429)
  | wakeEvent (source : Nat) -- WAKE_EVENT (R430)
  | wakeTimerExpiry -- WAKE_TIMER_EXPIRY (R430)
  | temperatureSample (t : TempSample) -- TEMPERATURE_SAMPLE (R434)
  | ageingMonitorUpdate (slow : List Nat) (margin : List Int) -- AGEING_MONITOR_UPDATE (R436)
  | cclkStepDone (cyc : Nat) -- CCLK_STEP_DONE (R438)
  | replanNow (sess : Nat) -- REPLAN_NOW (R437)
  | counterStart (sess : Nat) -- COUNTER_START (R446)
  | counterStop (sess : Nat) -- COUNTER_STOP (R446)
  | counterClear (sess : Nat) -- COUNTER_CLEAR (R446)
  | counterSnapshot (sess : Nat) -- COUNTER_SNAPSHOT (R448)
  | shadowRefresh (cyc0 : Nat) (cyc1 : Nat) -- SHADOW_REFRESH (R448)
  | bandwidthWindowEnd -- BANDWIDTH_WINDOW_END (R450)
  | bandwidthClear (sess : Nat) -- BANDWIDTH_CLEAR (R450)
  | sampleLogClear (sess : Nat) -- SAMPLE_LOG_CLEAR (R452)
  | startUp (cause : Nat) (fails : List TestFail) -- START_UP (R457)
  | readiness -- READINESS (R466)
  | blobUploadBegin (sess : Nat) (length : Nat) -- BLOB_UPLOAD_BEGIN (R464)
  | blobUploadData (sess : Nat) (data : List Byte) -- BLOB_UPLOAD_DATA (R464)
  | blobUploadEnd (sess : Nat) (slot : Nat) -- BLOB_UPLOAD_END (R464)
  | blobSlotClear (sess : Nat) (slot : Nat) -- BLOB_SLOT_CLEAR (R464)
  | attestRequest (sess : Nat) -- ATTEST_REQUEST (R468)
  | attestReportReady -- ATTEST_REPORT_READY (R468)
  | statisticsClear (sess : Nat) (val : Nat) -- STATISTICS_CLEAR (R477)
  | usb4LinkChange (port : Nat) (up : Bool) (rate : Nat) -- USB4_LINK_CHANGE (R364)
  | downstreamCrcFailure (link : Nat) (f : DownFrame) -- DOWNSTREAM_CRC_FAILURE (R321)
  | tetherPacketDiscarded (port : Nat) (p : TPacket) -- TETHER_PACKET_DISCARDED (R348)
  | valveLinkFrameDiscarded (port : Nat) (f : VlFrame) -- VALVE_LINK_FRAME_DISCARDED (R290)
  | unsupportedPacket (link : Nat) -- UNSUPPORTED_PACKET (R92)
  | ethernetFrameDropped (eth : Nat) -- ETHERNET_FRAME_DROPPED (R390)
  | ptpMessageIgnored (eth : Nat) -- PTP_MESSAGE_IGNORED (R396)
  | groupStop (port : Nat) (p : TPacket) -- GROUP_STOP (R356)
  | member0Bc (bc : Nat) -- MEMBER_0_BC (R352)
  | linkTestPattern (link : Nat) (errors : Nat) -- LINK_TEST_PATTERN (R95)
  | tetherTestPattern (port : Nat) (errors : Nat) -- TETHER_TEST_PATTERN (R359)
  deriving DecidableEq, Repr

end Sys2Proof
end

