-- ==== Sys2Proof/Machine/Float.lean ====
section
/-! DEFINITION. BF16 and binary32 as the compute dies treat them: R151, R152, R154 and R155. Every rounding is to nearest
with ties away from zero, subnormal operands read as zero, results below the normal range become zero, and every NaN is
the canonical one. Values are bit patterns; binary32 values of the dictionary (R6) use the same rounding (log entry 9). -/

namespace Sys2Proof.Machine

/-- A value of BF16 or binary32: NaN, an infinity, or a finite rational of a sign. -/
inductive Flt
  | nan
  | inf (neg : Bool)
  | fin (neg : Bool) (num den : Nat)
  deriving DecidableEq, Repr

/-- The canonical NaN of binary32 (R152). -/
def f32NaN : Nat := 0x7FC00000

/-- Reads a pattern with `m` fraction bits and eight exponent bits (R151, R152). -/
def fltOf (m v : Nat) : Flt :=
  let neg := bitOf v (m + 8)
  let e := bits v (m + 7) m
  let f := v % 2 ^ m
  if e = 255 then (if f = 0 then .inf neg else .nan)
  else if e = 0 then .fin neg 0 1
  else
    let sig := 2 ^ m + f
    if e < 127 + m then .fin neg sig (2 ^ (127 + m - e)) else .fin neg (sig * 2 ^ (e - 127 - m)) 1

/-- Whether `2^e ≤ n/d` for an exponent `e` offset by 1,024. -/
def pow2Le (e n d : Nat) : Bool :=
  if e < 1024 then decide (d ≤ n * 2 ^ (1024 - e)) else decide (d * 2 ^ (e - 1024) ≤ n)

/-- The pattern nearest to `n/d` (R154), of the given sign, with `m` fraction bits. -/
def roundPos (m : Nat) (neg : Bool) (n d : Nat) : Nat :=
  let sgn := bitNat neg * 2 ^ (m + 8)
  if n = 0 ∨ d = 0 then sgn
  else
    let k := 1024 + n.log2 - d.log2
    let e := if pow2Le k n d then k else k - 1
    -- significand n/d · 2^(m − (e − 1024)), ties away from zero
    let (a, b) := if e < 1024 + m then (n * 2 ^ (1024 + m - e), d) else (n, d * 2 ^ (e - 1024 - m))
    let sig := (2 * a + b) / (2 * b)
    let (sig, e) := if sig = 2 ^ (m + 1) then (2 ^ m, e + 1) else (sig, e)
    if 1024 + 127 < e then sgn + 255 * 2 ^ m
    else if e < 1024 - 126 then sgn
    else sgn + (e - (1024 - 127)) * 2 ^ m + (sig - 2 ^ m)

/-- The pattern of a value (R152, R154). -/
def Flt.round (m : Nat) : Flt → Nat
  | .nan => 255 * 2 ^ m + 2 ^ (m - 1)
  | .inf neg => bitNat neg * 2 ^ (m + 8) + 255 * 2 ^ m
  | .fin neg n d => roundPos m neg n d

/-- The exact negation. -/
def Flt.neg : Flt → Flt
  | .nan => .nan
  | .inf s => .inf (!s)
  | .fin s n d => .fin (!s) n d

/-- The exact sum (R152). -/
def Flt.add : Flt → Flt → Flt
  | .nan, _ => .nan
  | _, .nan => .nan
  | .inf a, .inf b => if a = b then .inf a else .nan
  | .inf a, _ => .inf a
  | _, .inf b => .inf b
  | .fin a n d, .fin b n' d' =>
    let x : Int := (if a then -1 else 1) * (n * d' : Int)
    let y : Int := (if b then -1 else 1) * (n' * d : Int)
    let z := x + y
    if z = 0 then .fin (a && b) 0 1 else .fin (decide (z < 0)) z.natAbs (d * d')

/-- The exact product (R152). -/
def Flt.mul : Flt → Flt → Flt
  | .nan, _ => .nan
  | _, .nan => .nan
  | .inf a, .inf b => .inf (a != b)
  | .inf a, .fin b n _ => if n = 0 then .nan else .inf (a != b)
  | .fin a n _, .inf b => if n = 0 then .nan else .inf (a != b)
  | .fin a n d, .fin b n' d' => .fin (a != b) (n * n') (d * d')

/-- The exact quotient (R152). -/
def Flt.div : Flt → Flt → Flt
  | .nan, _ => .nan
  | _, .nan => .nan
  | .inf _, .inf _ => .nan
  | .inf a, .fin b _ _ => .inf (a != b)
  | .fin a _ _, .inf b => .fin (a != b) 0 1
  | .fin a n d, .fin b n' d' =>
    if n' = 0 then (if n = 0 then .nan else .inf (a != b)) else .fin (a != b) (n * d') (d * n')

/-- An exact integer. -/
def Flt.ofInt (i : Int) : Flt := .fin (decide (i < 0)) i.natAbs 1

/-- Whether a value is NaN. -/
def Flt.isNaN : Flt → Bool
  | .nan => true
  | _ => false

/-- Whether a value is finite. -/
def Flt.finite : Flt → Bool
  | .fin _ _ _ => true
  | _ => false

/-- The order of two values that are not NaN, −0 equal to +0. -/
def Flt.lt : Flt → Flt → Bool
  | .nan, _ => false
  | _, .nan => false
  | .inf a, .inf b => a && !b
  | .inf a, .fin _ _ _ => a
  | .fin _ _ _, .inf b => !b
  | .fin a n d, .fin b n' d' =>
    decide ((if a then -1 else 1) * (n * d' : Int) < (if b then -1 else 1) * (n' * d : Int))

/-- The nearest integer, ties away from zero (R154); none for NaN and the infinities. -/
def Flt.toInt : Flt → Option Int
  | .fin neg n d =>
    let q : Int := ((2 * n + d) / (2 * d) : Nat)
    some (if neg then -q else q)
  | _ => none

/-- The integer square root, by bisection over `k` bits. -/
def isqrt : Nat → Nat → Nat → Nat
  | 0, _, r => r
  | k + 1, n, r => let c := r + 2 ^ k; isqrt k n (if c * c ≤ n then c else r)

/-- The square root, correctly rounded to `m` fraction bits (R210); of a negative value NaN (R152). The root is taken of
the value scaled by an even power of two with many bits to spare, and a remainder is kept as one bit below them. -/
def Flt.sqrt : Flt → Flt
  | .nan => .nan
  | .inf neg => if neg then .nan else .inf false
  | .fin neg n d =>
    if n = 0 then .fin neg 0 1
    else if neg then .nan
    else
      let x := n * 2 ^ 600 / d
      let r := isqrt 400 x 0
      if r * r = x ∧ n * 2 ^ 600 % d = 0 then .fin false r (2 ^ 300) else .fin false (2 * r + 1) (2 ^ 301)

/-- A binary32 pattern as a value. -/
def f32 (v : Nat) : Flt := fltOf 23 v

/-- A BF16 pattern as a value. -/
def bf16 (v : Nat) : Flt := fltOf 7 v

/-- Rounds to binary32 (R154). -/
def round32 (x : Flt) : Nat := x.round 23

/-- Rounds to BF16 (R154, R155). -/
def round16 (x : Flt) : Nat := x.round 7

/-- A binary32 add, subtract, multiply, divide and square root, each rounded once. -/
def f32add (a b : Nat) : Nat := round32 ((f32 a).add (f32 b))
def f32sub (a b : Nat) : Nat := round32 ((f32 a).add (f32 b).neg)
def f32mul (a b : Nat) : Nat := round32 ((f32 a).mul (f32 b))
def f32div (a b : Nat) : Nat := round32 ((f32 a).div (f32 b))
def f32sqrt (a : Nat) : Nat := round32 (f32 a).sqrt

/-- The greater and the smaller of two values; NaN with a NaN operand (R208). A subnormal operand counts, and comes out, as
the zero of its sign (R152). -/
def f32max (a b : Nat) : Nat :=
  if (f32 a).isNaN || (f32 b).isNaN then f32NaN else if (f32 a).lt (f32 b) then round32 (f32 b) else round32 (f32 a)
def f32min (a b : Nat) : Nat :=
  if (f32 a).isNaN || (f32 b).isNaN then f32NaN else if (f32 b).lt (f32 a) then round32 (f32 b) else round32 (f32 a)

/-- The binary32 pattern nearest to a rational. -/
def f32OfRat (num : Int) (den : Nat) : Nat := roundPos 23 (decide (num < 0)) num.natAbs den

/-- A binary32 integer value, clamped into a range after rounding (R155): NaN gives `nan`. -/
def f32ToInt (nan lo hi : Int) (v : Nat) : Int :=
  match f32 v with
  | .nan => nan
  | .inf neg => if neg then lo else hi
  | x => match x.toInt with
    | some i => clampInt lo hi i
    | none => nan

end Sys2Proof.Machine
end

