-- ==== Sys2Proof/Machine/Codes.lean ====
section
/-! DEFINITION. Status codes (R77), record types (R382), unit codes (R383) and the fault catalogue (R407), by name. -/

namespace Sys2Proof.Machine

namespace Status

/-- Completed as requested. -/
abbrev ok : Nat := 0x0000
/-- Action accepted and not yet finished. -/
abbrev inProgress : Nat := 0x0001
/-- No staged value; value in force returned. -/
abbrev notStaged : Nat := 0x0002
/-- Index or subindex not present. -/
abbrev noEntry : Nat := 0x0101
/-- Write to RO. -/
abbrev readOnly : Nat := 0x0102
/-- Read of WO. -/
abbrev writeOnly : Nat := 0x0103
/-- Level X write while ExpertAccess is false. -/
abbrev expertLocked : Nat := 0x0104
/-- Value, or combination of values, out of range. -/
abbrev valueRange : Nat := 0x0105
/-- Reserved field written non-zero. -/
abbrev reservedNonzero : Nat := 0x0106
/-- Length does not fit the type. -/
abbrev lengthMismatch : Nat := 0x0107
/-- BLOB segment out of order. -/
abbrev segmentOrder : Nat := 0x0108
/-- CMD written while its previous action runs. -/
abbrev busy : Nat := 0x0109
/-- Staging set held by another session. -/
abbrev stageLocked : Nat := 0x010A
/-- Staged write or Discard while a commit runs. -/
abbrev commitBusy : Nat := 0x010B
/-- Device booting, or control processor stalled or recovering. -/
abbrev notReady : Nat := 0x010C
/-- A resource would have two owners. -/
abbrev resourceConflict : Nat := 0x0201
/-- Requirement exceeds the assembly. -/
abbrev assemblyMismatch : Nat := 0x0202
/-- Predicted compute power exceeds the allotment. -/
abbrev powerBudget : Nat := 0x0203
/-- Change needs a stopped belt. -/
abbrev beltMoving : Nat := 0x0204
/-- Plan crossing mode differs from CrossingMode. -/
abbrev crossingMode : Nat := 0x0205
/-- Plan misses a deadline at MaxBeltSpeed. -/
abbrev deadline : Nat := 0x0206
/-- Plan describes an impossible operation. -/
abbrev planInvalid : Nat := 0x0207
/-- Plan requires another DetKey. -/
abbrev detkeyMismatch : Nat := 0x0208
/-- Memory, SRAM, tracks, knots or rings exceeded. -/
abbrev capacity : Nat := 0x0209
/-- Camera-power budget exceeded. -/
abbrev cameraPower : Nat := 0x020A
/-- Malformed BDP frame or mailbox message. -/
abbrev frameFormat : Nat := 0x0301
/-- Session closed or never opened. -/
abbrev sessionUnknown : Nat := 0x0302
/-- Eight BDP sessions open. -/
abbrev sessionsFull : Nat := 0x0303
/-- Sequence number out of order. -/
abbrev sequenceError : Nat := 0x0304
/-- Opcode not defined. -/
abbrev opcodeUnknown : Nat := 0x0305
/-- ML-DSA-87 signature does not verify. -/
abbrev signatureInvalid : Nat := 0x0401
/-- SHA3-512 digest differs. -/
abbrev digestMismatch : Nat := 0x0402
/-- Signing key not accepted. -/
abbrev keyUnknown : Nat := 0x0403
/-- Image or blob structure malformed. -/
abbrev imageFormat : Nat := 0x0404
/-- Image older than the accepted minimum. -/
abbrev versionRejected : Nat := 0x0405
/-- Field bank reset within 1,000 ms of its trip. -/
abbrev bankRetryWait : Nat := 0x0501
/-- Not possible in the current power state. -/
abbrev powerState : Nat := 0x0502
/-- Context does not exist. -/
abbrev noContext : Nat := 0x0601
/-- Context in the wrong state for the request. -/
abbrev contextState : Nat := 0x0602
/-- Context is gloved; request refused. -/
abbrev contextGloved : Nat := 0x0603
/-- Work discarded by a fault; host re-issues. -/
abbrev discarded : Nat := 0x0604
/-- Knot owner reset; waiter released. -/
abbrev ownerReset : Nat := 0x0605
/-- Knot frozen until its owner reinitialises it. -/
abbrev knotFrozen : Nat := 0x0606
/-- Count saturated. -/
abbrev saturated : Nat := 0x0607
/-- Command ring has no free slot. -/
abbrev ringFull : Nat := 0x0608
/-- Error completion from the far end. -/
abbrev tetherError : Nat := 0x0609
/-- Tether group member lost. -/
abbrev memberLost : Nat := 0x060A
/-- Wait or action exceeded its limit. -/
abbrev timeout : Nat := 0x060B
/-- Descriptor malformed. -/
abbrev descriptorInvalid : Nat := 0x060C

end Status

/-! Record types (R382). -/
namespace RType

abbrev decision : Nat := 0x01
abbrev ringCompletion : Nat := 0x02
abbrev queueOverflow : Nat := 0x03
abbrev fault : Nat := 0x04
abbrev beltSaturation : Nat := 0x05
abbrev beltLost : Nat := 0x06
abbrev overspeed : Nat := 0x07
abbrev intake : Nat := 0x08
abbrev paramSwitch : Nat := 0x09
abbrev arrayRetired : Nat := 0x0A
abbrev substitution : Nat := 0x0B
abbrev slackReport : Nat := 0x0C
abbrev slip : Nat := 0x0D
abbrev stripeOverrun : Nat := 0x0E
abbrev joinRefused : Nat := 0x0F
abbrev ejectionRefused : Nat := 0x10
abbrev lateDecision : Nat := 0x11
abbrev inputEdge : Nat := 0x12
abbrev knotSaturation : Nat := 0x13
abbrev knotRefused : Nat := 0x14
abbrev memberLost : Nat := 0x15
abbrev jpegImage : Nat := 0x16
abbrev timeState : Nat := 0x17
abbrev powerState : Nat := 0x18
abbrev thermal : Nat := 0x19
abbrev replan : Nat := 0x1A
abbrev counterSample : Nat := 0x1B
abbrev counterOverflow : Nat := 0x1C
abbrev boot : Nat := 0x1D
abbrev logFull : Nat := 0x1E
abbrev recovery : Nat := 0x1F

end RType

/-! Unit codes (R383); the engine of CD1 is `engine` + 1. -/
namespace Unit

abbrev time : Nat := 0x01
abbrev intake : Nat := 0x02
abbrev pipeline : Nat := 0x03
abbrev jpeg : Nat := 0x04
abbrev engine : Nat := 0x05
abbrev track : Nat := 0x07
abbrev ejection : Nat := 0x08
abbrev field : Nat := 0x09
abbrev valveLinks : Nat := 0x0A
abbrev memory : Nat := 0x0B
abbrev knots : Nat := 0x0C
abbrev tethers : Nat := 0x0D
abbrev rings : Nat := 0x0E
abbrev plan : Nat := 0x0F
abbrev fault : Nat := 0x10
abbrev network : Nat := 0x11
abbrev power : Nat := 0x12
abbrev boot : Nat := 0x13
abbrev counters : Nat := 0x14

end Unit

/-! Fault codes (R407). -/
namespace FCode

abbrev beltSaturated : Nat := 0x0101
abbrev encoderLost : Nat := 0x0102
abbrev powerFail : Nat := 0x0201
abbrev fieldBankTrip : Nat := 0x0202
abbrev cameraPower : Nat := 0x0203
abbrev sensorSupply : Nat := 0x0204
abbrev encoderSupply : Nat := 0x0205
abbrev outputOverload : Nat := 0x0301
abbrev outputExternalVoltage : Nat := 0x0302
abbrev outputOpenLoad : Nat := 0x0303
abbrev valveLinkLost : Nat := 0x0304
abbrev driverFault : Nat := 0x0305
abbrev arrayCheck : Nat := 0x0401
abbrev scaleSkew : Nat := 0x0402
abbrev lineBufferParity : Nat := 0x0403
abbrev vectorCheck : Nat := 0x0404
abbrev arrayCapacity : Nat := 0x0405
abbrev arrayRetired : Nat := 0x0406
abbrev memoryUncorrectable : Nat := 0x0501
abbrev memoryLinkFailed : Nat := 0x0502
abbrev freezeLimit : Nat := 0x0601
abbrev checkpointLate : Nat := 0x0602
abbrev contextReset : Nat := 0x0603
abbrev jobPoisoned : Nat := 0x0604
abbrev groupSkew : Nat := 0x0701
abbrev memberLost : Nat := 0x0702
abbrev groupStop : Nat := 0x0703
abbrev controlStall : Nat := 0x0801
abbrev timeUnitHalted : Nat := 0x0802
abbrev ejectionUnitHalted : Nat := 0x0803
abbrev helperHalted : Nat := 0x0804
abbrev dieTransport : Nat := 0x0805
abbrev recoveryCommanded : Nat := 0x0806
abbrev junctionLimit : Nat := 0x0901
abbrev blobRejected : Nat := 0x0A01
abbrev selfTestFailed : Nat := 0x0A02

end FCode

/-- Fault codes marked +NV (R407). -/
def nvFaults : List Nat := [0x0201, 0x0405, 0x0406, 0x0502, 0x0801, 0x0802, 0x0803, 0x0804, 0x0805, 0x0806, 0x0901, 0x0A01, 0x0A02]

/-- Fault codes that never issue a record (R406, R407). -/
def logOnlyFaults : List Nat := [0x0201, 0x0406]

end Sys2Proof.Machine
end

