-- ==== Sys2Proof/Machine/EntryTypes.lean ====
section
/-! DEFINITION. What a row of the object dictionary says: R5 to R8. -/

namespace Sys2Proof.Machine

/-- Types of dictionary values (R6). -/
inductive Ty | bool | u8 | u16 | u32 | u64 | i16 | i32 | i64 | f32 | bc48 | t64 | str | blob
  deriving DecidableEq, Repr

/-- Access codes (R7). -/
inductive Acc | ro | rw | rws | wo | cmd
  deriving DecidableEq, Repr

/-- Which ways of clearing reach an entry (R476, R477). -/
inductive Clr
  | no          -- none
  | stat        -- StatisticsClear
  | commit      -- a successful commit ("since the last commit")
  | statCommit  -- both
  deriving DecidableEq, Repr

/-- The range or set an entry states for a written value (R479, order 10) and the bits it reserves (order 9). -/
inductive Check
  | any
  | range (lo hi : Int)
  | mult (lo hi m : Nat)
  | oneOf (l : List Nat)
  | bits (mask : Nat)
  | rangeOrFF (lo hi : Nat)
  | linkNo
  | arrayCode
  | planLength
  | blobLength
  | statRange
  | counterEvent
  deriving DecidableEq, Repr

/-- One row of a dictionary table: the subindices lo to hi of an index (R5 to R8). -/
structure Entry where
  idx    : Nat
  lo     : Nat
  hi     : Nat
  ty     : Ty
  acc    : Acc
  expert : Bool
  dflt   : Nat
  chk    : Check
  clr    : Clr
  deriving DecidableEq, Repr

/-- Bytes of a fixed-size type (R6); none for STR and BLOB. -/
def Ty.size : Ty → Option Nat
  | .bool | .u8 => some 1
  | .u16 | .i16 => some 2
  | .u32 | .i32 | .f32 => some 4
  | .u64 | .i64 | .bc48 | .t64 => some 8
  | .str | .blob => none

/-- Bits of a value of the type as counters wrap (R471). -/
def Ty.width : Ty → Nat
  | .bool | .u8 => 8
  | .u16 | .i16 => 16
  | .u32 | .i32 | .f32 => 32
  | _ => 64

/-- Whether the type is read in two's complement (R6). -/
def Ty.isSigned : Ty → Bool
  | .i16 | .i32 | .i64 => true
  | _ => false

end Sys2Proof.Machine
end

