-- ==== Sys2Proof/Machine/Entries.lean ====
section
/-! DEFINITION. The object dictionary's entries, one row each, as the dictionary tables of spec/01–spec/22 list them
(rules R37, R55, R79, R97, R98, R123, R150, R174, R192, R213, R241, R262, R278, R307–R309, R333, R361, R362, R388, R403,
R426, R439, R456, R470, R478), and a name for the key of every entry
(an index times 256 plus a subindex; the name of an array takes the place in it, from 0). -/

namespace Sys2Proof.Machine

/-- The entries of range 0x0100. -/
def entries01 : List Entry := [
  ⟨0x0100, 1, 1, .bool, .rw, false, 0, .any, .no⟩,
  ⟨0x0101, 1, 1, .str, .ro, false, 0, .any, .no⟩,
  ⟨0x0101, 2, 2, .str, .ro, false, 0, .any, .no⟩,
  ⟨0x0101, 3, 3, .str, .ro, false, 0, .any, .no⟩,
  ⟨0x0101, 4, 4, .u32, .ro, false, 0, .any, .no⟩,
  ⟨0x0101, 5, 5, .u32, .ro, false, 0, .any, .no⟩,
  ⟨0x0101, 6, 6, .u16, .ro, false, 0, .any, .no⟩,
  ⟨0x0101, 7, 7, .u8, .ro, true, 0, .any, .no⟩,
  ⟨0x0101, 8, 8, .u8, .ro, true, 0, .any, .no⟩,
  ⟨0x0101, 9, 9, .u8, .ro, true, 0, .any, .no⟩,
  ⟨0x0101, 10, 10, .blob, .ro, true, 0, .any, .no⟩,
  ⟨0x0101, 11, 11, .blob, .ro, true, 0, .any, .no⟩,
  ⟨0x0110, 1, 1, .u8, .cmd, false, 0, .range 1 2, .no⟩,
  ⟨0x0110, 2, 2, .u8, .cmd, false, 0, .range 1 1, .no⟩,
  ⟨0x0110, 3, 3, .u16, .ro, false, 0, .any, .no⟩,
  ⟨0x0110, 4, 4, .u16, .ro, false, 0, .any, .no⟩,
  ⟨0x0110, 5, 5, .u32, .ro, false, 0, .any, .no⟩,
  ⟨0x0110, 6, 6, .u16, .ro, false, 0, .any, .no⟩,
  ⟨0x0110, 7, 7, .u16, .ro, false, 0, .any, .no⟩,
  ⟨0x0110, 8, 8, .blob, .ro, false, 0, .any, .no⟩,
  ⟨0x0110, 9, 9, .bc48, .ro, false, 0, .any, .no⟩,
  ⟨0x0110, 10, 10, .t64, .ro, false, 0, .any, .no⟩,
  ⟨0x0120, 1, 1, .u8, .rws, false, 3, .bits 0x03, .no⟩,
  ⟨0x0120, 2, 2, .u16, .rws, true, 30710, .range 1024 65535, .no⟩,
  ⟨0x0120, 3, 3, .u32, .rws, false, 5000, .range 500 600000, .no⟩,
  ⟨0x0120, 4, 4, .u32, .rws, false, 0, .any, .no⟩,
  ⟨0x0120, 5, 5, .u8, .rws, false, 0, .range 0 32, .no⟩,
  ⟨0x0120, 6, 6, .u8, .ro, false, 0, .any, .no⟩,
  ⟨0x0120, 7, 7, .u32, .ro, false, 0, .any, .stat⟩,
  ⟨0x0120, 8, 8, .u32, .ro, false, 0, .any, .stat⟩,
  ⟨0x0120, 9, 9, .u32, .ro, false, 0, .any, .stat⟩]

/-- The entries of range 0x0200. -/
def entries02 : List Entry := [
  ⟨0x0200, 1, 1, .bool, .rw, false, 0, .any, .no⟩,
  ⟨0x0201, 1, 1, .u8, .rws, false, 0, .range 0 3, .no⟩,
  ⟨0x0201, 2, 2, .bool, .rws, false, 0, .any, .no⟩,
  ⟨0x0201, 3, 3, .u32, .rws, false, 10000, .range 1 4294967295, .no⟩,
  ⟨0x0201, 4, 4, .i32, .rws, true, 0, .range (-16777216) 16777216, .no⟩,
  ⟨0x0201, 5, 5, .bc48, .rws, true, 0, .any, .no⟩,
  ⟨0x0202, 1, 1, .u32, .rws, true, 4000, .range 2000 1000000, .no⟩,
  ⟨0x0202, 2, 2, .u32, .rws, true, 65536, .range 1 2147483647, .no⟩,
  ⟨0x0202, 3, 3, .u32, .rws, true, 100000, .any, .no⟩,
  ⟨0x0203, 1, 1, .u8, .rws, false, 3, .range 0 7, .no⟩,
  ⟨0x0203, 2, 2, .u32, .rws, false, 100, .range 1 65535, .no⟩,
  ⟨0x0203, 3, 3, .u32, .rws, false, 0, .range 0 16777216, .no⟩,
  ⟨0x0204, 1, 1, .bc48, .ro, false, 0, .any, .no⟩,
  ⟨0x0204, 2, 2, .u16, .ro, false, 0, .any, .no⟩,
  ⟨0x0204, 3, 3, .f32, .ro, false, 0, .any, .no⟩,
  ⟨0x0204, 4, 4, .f32, .ro, false, 0, .any, .no⟩,
  ⟨0x0204, 5, 5, .u8, .ro, false, 0, .any, .no⟩,
  ⟨0x0204, 6, 6, .t64, .ro, false, 0, .any, .no⟩,
  ⟨0x0204, 7, 7, .u32, .ro, true, 0, .any, .no⟩,
  ⟨0x0205, 1, 1, .bc48, .cmd, false, 0, .any, .no⟩,
  ⟨0x0206, 1, 1, .u32, .rws, false, 655360, .range 65536 4294967295, .no⟩,
  ⟨0x0206, 2, 2, .bc48, .rws, false, 0, .any, .no⟩,
  ⟨0x0206, 3, 3, .u32, .rws, true, 1000, .range 100 1000000, .no⟩,
  ⟨0x0207, 1, 16, .i32, .rws, false, 0, .any, .no⟩,
  ⟨0x0208, 1, 16, .u64, .ro, false, 0, .any, .no⟩,
  ⟨0x0209, 1, 1, .u16, .ro, false, 64, .any, .no⟩,
  ⟨0x0209, 2, 2, .u64, .ro, false, 0, .any, .no⟩,
  ⟨0x020A, 1, 1, .u8, .rws, true, 0, .range 0 1, .no⟩,
  ⟨0x020A, 2, 2, .u16, .ro, true, 40, .any, .no⟩,
  ⟨0x020B, 1, 1, .u32, .ro, false, 0, .any, .stat⟩,
  ⟨0x020B, 2, 2, .u32, .ro, false, 0, .any, .stat⟩,
  ⟨0x020B, 3, 3, .u32, .ro, false, 0, .any, .stat⟩,
  ⟨0x020B, 4, 4, .u32, .ro, false, 0, .any, .stat⟩,
  ⟨0x020B, 5, 5, .u32, .ro, false, 0, .any, .stat⟩,
  ⟨0x020B, 6, 6, .u32, .ro, false, 0, .any, .stat⟩,
  ⟨0x020B, 7, 7, .u32, .ro, false, 0, .any, .stat⟩]

/-- The entries of range 0x0300. -/
def entries03 : List Entry := [
  ⟨0x0300, 1, 1, .bool, .rw, false, 0, .any, .no⟩,
  ⟨0x0301, 1, 1, .str, .ro, false, 0, .any, .no⟩,
  ⟨0x0301, 2, 2, .u8, .ro, false, 0, .any, .no⟩,
  ⟨0x0301, 3, 3, .u8, .ro, false, 2, .any, .no⟩,
  ⟨0x0301, 4, 4, .u8, .ro, false, 0, .any, .no⟩,
  ⟨0x0301, 5, 5, .u8, .ro, false, 0, .any, .no⟩,
  ⟨0x0301, 6, 6, .u64, .ro, false, 0, .any, .no⟩,
  ⟨0x0301, 7, 7, .u8, .ro, false, 0, .any, .no⟩,
  ⟨0x0301, 8, 8, .u8, .ro, false, 0, .any, .no⟩,
  ⟨0x0301, 9, 9, .u8, .ro, false, 4, .any, .no⟩,
  ⟨0x0302, 1, 1, .u16, .ro, false, 0, .any, .no⟩,
  ⟨0x0302, 2, 2, .u16, .ro, false, 0, .any, .no⟩,
  ⟨0x0302, 3, 3, .u16, .ro, false, 96, .any, .no⟩,
  ⟨0x0302, 4, 4, .f32, .ro, true, 1047904911, .any, .no⟩,
  ⟨0x0303, 1, 4, .u16, .rws, true, 12000, .range 2000 12000, .no⟩,
  ⟨0x0304, 1, 4, .u8, .ro, false, 0, .any, .no⟩,
  ⟨0x0305, 1, 1, .u8, .cmd, false, 0, .range 0 3, .no⟩,
  ⟨0x0306, 1, 4, .u32, .ro, false, 0, .any, .stat⟩,
  ⟨0x0310, 1, 1, .bool, .rw, false, 0, .any, .no⟩,
  ⟨0x0311, 1, 1, .u8, .ro, false, 0, .any, .no⟩,
  ⟨0x0311, 2, 2, .u8, .cmd, false, 0, .range 0 4, .no⟩,
  ⟨0x0311, 3, 3, .bool, .rws, false, 0, .any, .no⟩,
  ⟨0x0311, 4, 4, .u32, .rws, false, 1000, .range 10 600000, .no⟩,
  ⟨0x0311, 5, 5, .u8, .rws, false, 3, .bits 0x1F, .no⟩,
  ⟨0x0311, 6, 6, .u32, .rws, false, 0, .any, .no⟩,
  ⟨0x0311, 7, 7, .u32, .rws, false, 0, .range 0 604800, .no⟩,
  ⟨0x0311, 8, 8, .u8, .ro, false, 255, .any, .no⟩,
  ⟨0x0312, 1, 10, .i16, .ro, false, 0, .any, .no⟩,
  ⟨0x0313, 1, 1, .i16, .rws, true, 950, .range 700 1040, .no⟩,
  ⟨0x0313, 2, 2, .u16, .rws, true, 30, .range 10 200, .no⟩,
  ⟨0x0313, 3, 3, .bool, .ro, false, 0, .any, .no⟩,
  ⟨0x0313, 4, 4, .u32, .ro, false, 0, .any, .stat⟩,
  ⟨0x0314, 1, 1, .u16, .ro, false, 0, .any, .no⟩,
  ⟨0x0314, 2, 2, .u16, .ro, false, 0, .any, .no⟩,
  ⟨0x0314, 3, 3, .u16, .ro, false, 0, .any, .no⟩,
  ⟨0x0314, 4, 7, .u16, .ro, false, 0, .any, .no⟩,
  ⟨0x0315, 1, 10, .u32, .ro, false, 0, .any, .no⟩,
  ⟨0x0316, 1, 10, .i16, .ro, false, 0, .any, .no⟩,
  ⟨0x0317, 1, 2, .u16, .ro, false, 0, .any, .no⟩,
  ⟨0x0317, 3, 4, .u16, .ro, true, 0, .any, .no⟩,
  ⟨0x0317, 5, 5, .u16, .rws, true, 60, .range 0 100, .no⟩,
  ⟨0x0318, 1, 1, .u16, .ro, false, 800, .any, .no⟩,
  ⟨0x0318, 2, 2, .u16, .rws, true, 600, .mult 600 800 10, .no⟩,
  ⟨0x0318, 3, 3, .u16, .rws, true, 60, .range 20 200, .no⟩,
  ⟨0x0318, 4, 4, .u8, .cmd, true, 0, .range 1 1, .no⟩,
  ⟨0x0318, 5, 5, .bool, .ro, false, 0, .any, .no⟩,
  ⟨0x0318, 6, 6, .u32, .ro, false, 0, .any, .stat⟩,
  ⟨0x0318, 7, 7, .u32, .ro, false, 0, .any, .stat⟩]

/-- The entries of range 0x0400. -/
def entries04 : List Entry := [
  ⟨0x0400, 1, 1, .bool, .rw, false, 0, .any, .no⟩,
  ⟨0x0401, 1, 24, .u8, .rws, false, 7, .range 1 7, .no⟩,
  ⟨0x0402, 1, 24, .bool, .rws, false, 1, .any, .no⟩,
  ⟨0x0403, 1, 24, .bool, .rws, false, 0, .any, .no⟩,
  ⟨0x0404, 1, 24, .u16, .rws, false, 13000, .range 1000 13000, .no⟩,
  ⟨0x0405, 1, 24, .u8, .ro, false, 0, .any, .no⟩,
  ⟨0x0406, 1, 24, .u8, .ro, false, 1, .any, .no⟩,
  ⟨0x0407, 1, 24, .u8, .ro, false, 0, .any, .no⟩,
  ⟨0x0408, 1, 24, .u8, .rws, true, 0, .range 0 4, .no⟩,
  ⟨0x0409, 1, 24, .u32, .ro, true, 0, .any, .stat⟩,
  ⟨0x040A, 1, 1, .u8, .cmd, true, 0, .linkNo, .no⟩,
  ⟨0x040A, 2, 2, .u32, .rw, true, 1000000, .range 10000 1000000000, .no⟩,
  ⟨0x040A, 3, 3, .u16, .ro, true, 0, .any, .no⟩,
  ⟨0x040A, 4, 4, .u16, .ro, true, 0, .any, .no⟩,
  ⟨0x040A, 5, 5, .blob, .ro, true, 0, .any, .no⟩,
  ⟨0x040B, 1, 24, .u32, .ro, false, 0, .any, .stat⟩,
  ⟨0x040C, 1, 24, .u32, .ro, false, 0, .any, .stat⟩,
  ⟨0x040D, 1, 24, .u32, .ro, false, 0, .any, .stat⟩,
  ⟨0x040E, 1, 24, .u32, .ro, false, 0, .any, .stat⟩,
  ⟨0x040F, 1, 24, .u32, .ro, false, 0, .any, .stat⟩,
  ⟨0x0410, 1, 1, .u32, .rws, false, 2000, .range 0 60000, .no⟩,
  ⟨0x0410, 2, 2, .u32, .rws, true, 100, .range 10 10000, .no⟩,
  ⟨0x0410, 3, 3, .u32, .rws, true, 0, .any, .no⟩,
  ⟨0x0410, 4, 4, .u32, .ro, false, 0, .any, .no⟩,
  ⟨0x0410, 5, 5, .u32, .ro, false, 0, .any, .no⟩,
  ⟨0x0411, 1, 24, .u16, .ro, false, 0, .any, .no⟩]

/-- The entries of range 0x0500. -/
def entries05 : List Entry := [
  ⟨0x0500, 1, 1, .bool, .rw, false, 0, .any, .no⟩,
  ⟨0x0501, 1, 16, .u32, .rws, false, 0, .bits 0xFFFFFF, .no⟩,
  ⟨0x0502, 1, 16, .u16, .rws, false, 4096, .mult 64 16384 16, .no⟩,
  ⟨0x0503, 1, 16, .u8, .rws, false, 1, .range 1 5, .no⟩,
  ⟨0x0504, 1, 16, .u16, .rws, true, 1024, .range 16 65535, .no⟩,
  ⟨0x0505, 1, 16, .u16, .rws, true, 8192, .mult 256 16384 4, .no⟩,
  ⟨0x0506, 1, 16, .u8, .rws, true, 2, .range 1 8, .no⟩,
  ⟨0x0507, 1, 16, .u32, .rws, false, 0, .any, .no⟩,
  ⟨0x0508, 1, 16, .u32, .rws, false, 0, .any, .no⟩,
  ⟨0x0509, 1, 16, .u8, .ro, false, 0, .any, .no⟩,
  ⟨0x050A, 1, 16, .u64, .ro, false, 0, .any, .stat⟩,
  ⟨0x050B, 1, 16, .u32, .ro, false, 0, .any, .stat⟩,
  ⟨0x050C, 1, 16, .u32, .ro, false, 0, .any, .stat⟩,
  ⟨0x050D, 1, 16, .u32, .ro, false, 0, .any, .stat⟩,
  ⟨0x050E, 1, 16, .f32, .ro, false, 0, .any, .no⟩,
  ⟨0x050F, 1, 1, .f32, .ro, false, 0, .any, .no⟩,
  ⟨0x0510, 1, 16, .u16, .rws, true, 0, .any, .no⟩,
  ⟨0x0510, 17, 32, .u32, .ro, false, 0, .any, .stat⟩,
  ⟨0x0511, 1, 1, .u8, .rw, true, 0, .range 0 15, .no⟩,
  ⟨0x0511, 2, 2, .u32, .rw, true, 0, .any, .no⟩,
  ⟨0x0511, 3, 3, .blob, .rw, true, 0, .any, .no⟩,
  ⟨0x0511, 4, 4, .u8, .cmd, true, 0, .range 1 2, .no⟩,
  ⟨0x0512, 1, 1, .u8, .cmd, false, 0, .range 0 15, .no⟩]

/-- The entries of range 0x0600. -/
def entries06 : List Entry := [
  ⟨0x0600, 1, 1, .bool, .rw, false, 0, .any, .no⟩,
  ⟨0x0601, 1, 16, .u8, .rws, false, 255, .rangeOrFF 0 7, .no⟩,
  ⟨0x0602, 1, 16, .u8, .rws, true, 255, .rangeOrFF 0 63, .no⟩,
  ⟨0x0603, 1, 16, .u8, .rws, true, 32, .oneOf [16, 32, 64], .no⟩,
  ⟨0x0604, 1, 16, .u16, .rws, false, 0, .any, .no⟩,
  ⟨0x0605, 1, 16, .u16, .rws, false, 0, .any, .no⟩,
  ⟨0x0606, 1, 16, .blob, .rws, false, 0, .any, .no⟩,
  ⟨0x0607, 1, 1, .u16, .rws, false, 4096, .any, .no⟩,
  ⟨0x0607, 2, 2, .u8, .rws, false, 1, .oneOf [1, 2, 4], .no⟩,
  ⟨0x0607, 3, 3, .u8, .rws, false, 16, .oneOf [16, 32], .no⟩,
  ⟨0x0608, 1, 16, .bool, .rws, false, 0, .any, .no⟩,
  ⟨0x0609, 1, 16, .u16, .rws, true, 1024, .any, .no⟩,
  ⟨0x060A, 1, 16, .u8, .rws, true, 8, .range 0 15, .no⟩,
  ⟨0x060B, 1, 16, .u16, .rws, true, 2048, .any, .no⟩,
  ⟨0x060C, 1, 16, .u8, .rws, false, 0, .range 0 1, .no⟩,
  ⟨0x060D, 1, 16, .u16, .rws, false, 0, .any, .no⟩,
  ⟨0x060E, 1, 16, .u8, .rws, true, 4, .range 1 64, .no⟩,
  ⟨0x060F, 1, 16, .u8, .rws, false, 0, .any, .no⟩,
  ⟨0x0610, 1, 32, .blob, .rw, false, 0, .any, .no⟩,
  ⟨0x0611, 1, 32, .blob, .rw, false, 0, .any, .no⟩,
  ⟨0x0612, 1, 32, .blob, .rw, false, 0, .any, .no⟩,
  ⟨0x0613, 1, 32, .blob, .rw, false, 0, .any, .no⟩,
  ⟨0x0614, 1, 32, .blob, .rw, false, 0, .any, .no⟩,
  ⟨0x0615, 1, 16, .u8, .ro, false, 0, .any, .no⟩,
  ⟨0x0616, 1, 16, .u8, .rw, false, 0, .range 0 1, .no⟩,
  ⟨0x0617, 1, 1, .u8, .cmd, false, 0, .range 0 15, .no⟩,
  ⟨0x0618, 1, 8, .u32, .ro, false, 0, .any, .no⟩,
  ⟨0x0619, 1, 16, .u32, .ro, false, 0, .any, .stat⟩,
  ⟨0x061A, 1, 16, .u32, .ro, false, 0, .any, .stat⟩,
  ⟨0x061B, 1, 16, .u32, .ro, false, 0, .any, .stat⟩,
  ⟨0x061C, 1, 16, .u32, .ro, false, 0, .any, .stat⟩,
  ⟨0x0620, 1, 1, .u8, .rws, true, 255, .any, .no⟩,
  ⟨0x0620, 2, 2, .u8, .rws, false, 0, .any, .no⟩,
  ⟨0x0620, 3, 3, .u8, .rws, false, 1, .oneOf [1, 2, 4], .no⟩,
  ⟨0x0620, 4, 4, .u8, .rws, false, 85, .range 1 100, .no⟩,
  ⟨0x0620, 5, 5, .u8, .rws, false, 2, .range 0 2, .no⟩,
  ⟨0x0621, 1, 1, .u32, .rws, true, 50000000, .range 10000 1000000000, .no⟩,
  ⟨0x0621, 2, 2, .u32, .rws, false, 64000, .range 1 2147483647, .no⟩,
  ⟨0x0621, 3, 3, .u8, .rws, false, 0, .any, .no⟩,
  ⟨0x0622, 1, 1, .u32, .ro, false, 0, .any, .stat⟩,
  ⟨0x0622, 2, 2, .u32, .ro, false, 0, .any, .stat⟩,
  ⟨0x0622, 3, 3, .u32, .ro, false, 0, .any, .stat⟩,
  ⟨0x0622, 4, 4, .u32, .ro, false, 0, .any, .stat⟩,
  ⟨0x0622, 5, 5, .u32, .ro, false, 0, .any, .stat⟩,
  ⟨0x0622, 6, 6, .u8, .ro, false, 0, .any, .no⟩]

/-- The entries of range 0x0800. -/
def entries08 : List Entry := [
  ⟨0x0800, 1, 1, .bool, .rw, false, 0, .any, .no⟩,
  ⟨0x0801, 1, 2, .blob, .ro, false, 0, .any, .no⟩,
  ⟨0x0802, 1, 4, .u8, .ro, false, 0, .any, .no⟩,
  ⟨0x0803, 1, 4, .u8, .ro, false, 24, .any, .no⟩,
  ⟨0x0804, 1, 2, .u64, .ro, false, 0, .any, .stat⟩,
  ⟨0x0804, 3, 4, .u32, .ro, false, 0, .any, .stat⟩,
  ⟨0x0805, 1, 2, .u32, .ro, false, 0, .any, .stat⟩,
  ⟨0x0805, 3, 4, .u32, .ro, false, 0, .any, .stat⟩,
  ⟨0x0806, 1, 1, .u8, .rws, true, 2, .range 1 16, .no⟩,
  ⟨0x0806, 2, 2, .u32, .rws, true, 1024, .range 1 65536, .no⟩,
  ⟨0x0807, 1, 1, .u8, .cmd, false, 0, .arrayCode, .no⟩,
  ⟨0x0807, 2, 2, .u8, .cmd, true, 0, .arrayCode, .no⟩,
  ⟨0x0807, 3, 3, .u8, .cmd, true, 0, .arrayCode, .no⟩,
  ⟨0x0807, 4, 4, .u8, .ro, false, 255, .any, .no⟩,
  ⟨0x0808, 1, 2, .u32, .ro, false, 0, .any, .stat⟩,
  ⟨0x0809, 1, 2, .f32, .ro, false, 0, .any, .no⟩,
  ⟨0x0820, 1, 2, .u32, .ro, false, 0, .any, .stat⟩,
  ⟨0x0820, 3, 4, .u16, .ro, true, 65535, .any, .no⟩,
  ⟨0x0821, 1, 2, .u64, .ro, false, 0, .any, .stat⟩,
  ⟨0x0821, 3, 4, .u32, .ro, false, 0, .any, .stat⟩,
  ⟨0x0822, 1, 2, .u32, .ro, false, 0, .any, .stat⟩,
  ⟨0x0822, 3, 4, .u32, .ro, false, 0, .any, .stat⟩,
  ⟨0x0823, 1, 2, .u32, .ro, false, 0, .any, .stat⟩,
  ⟨0x0824, 1, 1, .u8, .rws, true, 0, .range 0 2, .no⟩,
  ⟨0x0825, 1, 2, .f32, .ro, false, 0, .any, .stat⟩,
  ⟨0x0840, 1, 2, .u32, .ro, false, 0, .any, .no⟩,
  ⟨0x0840, 3, 3, .u32, .ro, false, 2097152, .any, .no⟩,
  ⟨0x0841, 1, 2, .u32, .ro, false, 0, .any, .stat⟩,
  ⟨0x0842, 1, 2, .u64, .ro, true, 0, .any, .stat⟩,
  ⟨0x0843, 1, 2, .u32, .ro, false, 0, .any, .stat⟩,
  ⟨0x0844, 1, 2, .u32, .ro, false, 0, .any, .stat⟩,
  ⟨0x0860, 1, 2, .u32, .ro, false, 0, .any, .stat⟩,
  ⟨0x0861, 1, 2, .u32, .ro, false, 0, .any, .stat⟩,
  ⟨0x0862, 1, 1, .blob, .ro, true, 0, .any, .no⟩,
  ⟨0x0863, 1, 2, .f32, .ro, false, 0, .any, .no⟩]

/-- The entries of range 0x0900. -/
def entries09 : List Entry := [
  ⟨0x0900, 1, 1, .bool, .rw, false, 0, .any, .no⟩,
  ⟨0x0901, 1, 32, .u8, .ro, false, 0, .any, .no⟩,
  ⟨0x0902, 1, 32, .blob, .ro, false, 0, .any, .no⟩,
  ⟨0x0903, 1, 1, .u8, .rw, false, 0, .range 0 31, .no⟩,
  ⟨0x0903, 2, 2, .u64, .cmd, false, 0, .planLength, .no⟩,
  ⟨0x0903, 3, 3, .u64, .rw, false, 0, .any, .no⟩,
  ⟨0x0903, 4, 4, .blob, .wo, false, 0, .any, .no⟩,
  ⟨0x0903, 5, 5, .u8, .cmd, false, 0, .range 0 31, .no⟩,
  ⟨0x0903, 6, 6, .u8, .cmd, false, 0, .range 0 31, .no⟩,
  ⟨0x0904, 1, 1, .u8, .cmd, false, 0, .range 1 1, .no⟩,
  ⟨0x0905, 1, 1, .u32, .ro, false, 0, .any, .no⟩,
  ⟨0x0905, 2, 2, .i32, .ro, false, 0, .any, .no⟩,
  ⟨0x0905, 3, 3, .u32, .ro, false, 0, .any, .no⟩,
  ⟨0x0905, 4, 4, .f32, .ro, false, 0, .any, .no⟩,
  ⟨0x0905, 5, 5, .f32, .ro, false, 0, .any, .no⟩,
  ⟨0x0905, 6, 6, .bool, .ro, false, 0, .any, .no⟩,
  ⟨0x0905, 7, 7, .bool, .ro, false, 0, .any, .no⟩,
  ⟨0x0906, 1, 1, .u64, .ro, false, 0, .any, .stat⟩,
  ⟨0x0906, 2, 2, .u32, .ro, false, 0, .any, .stat⟩,
  ⟨0x0906, 3, 3, .u32, .ro, false, 0, .any, .statCommit⟩,
  ⟨0x0906, 4, 4, .u32, .ro, false, 0, .any, .statCommit⟩,
  ⟨0x0906, 5, 5, .u32, .ro, false, 0, .any, .stat⟩,
  ⟨0x0906, 6, 6, .i32, .ro, false, 0, .any, .commit⟩,
  ⟨0x0906, 7, 7, .u64, .ro, false, 0, .any, .stat⟩,
  ⟨0x0907, 1, 1, .u32, .rws, true, 4096, .range 1024 1048576, .no⟩,
  ⟨0x0910, 1, 16, .u8, .rws, false, 255, .rangeOrFF 0 31, .no⟩,
  ⟨0x0911, 1, 16, .u8, .rws, false, 8, .range 1 15, .no⟩,
  ⟨0x0912, 1, 16, .u8, .ro, false, 0, .any, .no⟩,
  ⟨0x0913, 1, 16, .u64, .ro, false, 0, .any, .stat⟩,
  ⟨0x0914, 1, 16, .u64, .ro, false, 0, .any, .stat⟩,
  ⟨0x0915, 1, 1, .u8, .cmd, false, 0, .range 0 15, .no⟩]

/-- The entries of range 0x0A00. -/
def entries0A : List Entry := [
  ⟨0x0A00, 1, 1, .bool, .rw, false, 0, .any, .no⟩,
  ⟨0x0A01, 1, 1, .u16, .ro, false, 0, .any, .no⟩,
  ⟨0x0A01, 2, 2, .u16, .ro, false, 0, .any, .no⟩,
  ⟨0x0A01, 3, 3, .u16, .ro, false, 0, .any, .no⟩,
  ⟨0x0A01, 4, 4, .u16, .ro, false, 0, .any, .no⟩,
  ⟨0x0A01, 5, 5, .u8, .ro, false, 0, .any, .no⟩,
  ⟨0x0A02, 1, 1, .u32, .rws, false, 0, .any, .no⟩,
  ⟨0x0A02, 2, 2, .u16, .rws, false, 0, .any, .no⟩,
  ⟨0x0A02, 3, 3, .u16, .rws, false, 0, .any, .no⟩,
  ⟨0x0A02, 4, 4, .u16, .rws, false, 0, .any, .no⟩,
  ⟨0x0A02, 5, 5, .u32, .rws, false, 1048576, .range 1 4294967295, .no⟩,
  ⟨0x0A02, 6, 6, .u16, .rws, false, 0, .range 0 1151, .no⟩,
  ⟨0x0A02, 7, 7, .u16, .rws, false, 128, .range 1 1152, .no⟩,
  ⟨0x0A02, 8, 8, .u8, .rws, false, 1, .oneOf [1, 2, 4, 8], .no⟩,
  ⟨0x0A03, 1, 1, .u8, .rws, false, 1, .range 0 1, .no⟩,
  ⟨0x0A03, 2, 2, .u8, .rws, false, 1, .range 0 1, .no⟩,
  ⟨0x0A03, 3, 3, .u8, .rws, false, 2, .range 0 2, .no⟩,
  ⟨0x0A03, 4, 4, .u8, .rws, false, 2, .range 0 2, .no⟩,
  ⟨0x0A03, 5, 5, .u16, .rws, true, 16384, .any, .no⟩,
  ⟨0x0A03, 6, 6, .u32, .rws, false, 1024, .range 1 65535, .no⟩,
  ⟨0x0A03, 7, 7, .u8, .rws, true, 2, .range 1 16, .no⟩,
  ⟨0x0A03, 8, 8, .u16, .rws, true, 64, .range 1 1024, .no⟩,
  ⟨0x0A04, 1, 64, .u8, .rws, false, 0, .bits 0x03, .no⟩,
  ⟨0x0A05, 1, 64, .u8, .rws, false, 0, .any, .no⟩,
  ⟨0x0A06, 1, 1, .u16, .ro, false, 0, .any, .no⟩,
  ⟨0x0A06, 2, 2, .u16, .ro, false, 0, .any, .no⟩,
  ⟨0x0A06, 3, 3, .u16, .ro, false, 0, .any, .statCommit⟩,
  ⟨0x0A06, 4, 4, .blob, .ro, true, 0, .any, .no⟩,
  ⟨0x0A07, 1, 1, .u64, .ro, false, 0, .any, .no⟩,
  ⟨0x0A07, 2, 2, .u32, .ro, false, 0, .any, .stat⟩,
  ⟨0x0A07, 3, 3, .u32, .ro, false, 0, .any, .stat⟩,
  ⟨0x0A07, 4, 4, .u64, .ro, false, 0, .any, .stat⟩,
  ⟨0x0A07, 5, 5, .u32, .ro, false, 0, .any, .stat⟩,
  ⟨0x0A07, 6, 6, .u32, .ro, false, 0, .any, .stat⟩,
  ⟨0x0A07, 7, 7, .u32, .ro, false, 0, .any, .stat⟩,
  ⟨0x0A07, 8, 8, .u32, .ro, false, 0, .any, .stat⟩,
  ⟨0x0A07, 9, 9, .u32, .ro, false, 0, .any, .stat⟩,
  ⟨0x0A07, 10, 10, .u32, .ro, false, 0, .any, .stat⟩,
  ⟨0x0A07, 11, 11, .u32, .ro, false, 0, .any, .stat⟩,
  ⟨0x0A07, 12, 12, .u32, .ro, false, 0, .any, .stat⟩,
  ⟨0x0A07, 13, 13, .u64, .ro, false, 0, .any, .stat⟩,
  ⟨0x0A07, 14, 14, .u32, .ro, false, 0, .any, .stat⟩]

/-- The entries of range 0x0B00. -/
def entries0B : List Entry := [
  ⟨0x0B00, 1, 1, .bool, .rw, false, 0, .any, .no⟩,
  ⟨0x0B01, 1, 6, .u8, .ro, false, 0, .any, .no⟩,
  ⟨0x0B02, 1, 6, .blob, .ro, false, 0, .any, .no⟩,
  ⟨0x0B03, 1, 1, .u64, .ro, false, 0, .any, .no⟩,
  ⟨0x0B03, 2, 2, .u64, .ro, false, 0, .any, .no⟩,
  ⟨0x0B03, 3, 3, .u64, .ro, false, 0, .any, .no⟩,
  ⟨0x0B03, 4, 4, .u16, .ro, true, 600, .any, .no⟩,
  ⟨0x0B03, 5, 5, .u32, .ro, true, 4194304, .any, .no⟩,
  ⟨0x0B04, 1, 6, .u32, .ro, false, 0, .any, .stat⟩,
  ⟨0x0B05, 1, 6, .u32, .ro, false, 0, .any, .stat⟩,
  ⟨0x0B06, 1, 6, .u16, .ro, false, 0, .any, .statCommit⟩,
  ⟨0x0B07, 1, 6, .u64, .ro, false, 0, .any, .stat⟩,
  ⟨0x0B08, 1, 6, .u32, .ro, false, 0, .any, .stat⟩,
  ⟨0x0B09, 1, 6, .u32, .ro, false, 0, .any, .stat⟩,
  ⟨0x0B0A, 1, 6, .u32, .ro, false, 0, .any, .stat⟩,
  ⟨0x0B0B, 1, 6, .u32, .ro, false, 0, .any, .stat⟩,
  ⟨0x0B0C, 1, 6, .u32, .ro, false, 0, .any, .stat⟩,
  ⟨0x0B0D, 1, 1, .blob, .ro, false, 0, .any, .no⟩,
  ⟨0x0B0D, 2, 2, .u8, .cmd, false, 0, .range 1 1, .no⟩,
  ⟨0x0B0E, 1, 1, .bool, .rws, true, 1, .any, .no⟩,
  ⟨0x0B0F, 1, 1, .u32, .ro, true, 0, .any, .no⟩]

/-- The entries of range 0x0C00. -/
def entries0C : List Entry := [
  ⟨0x0C00, 1, 1, .bool, .rw, false, 0, .any, .no⟩,
  ⟨0x0C01, 1, 16, .u16, .rws, false, 0, .any, .no⟩,
  ⟨0x0C02, 1, 16, .u32, .rws, false, 4096, .range 0 65536, .no⟩,
  ⟨0x0C03, 1, 1, .u16, .rw, false, 0, .any, .no⟩,
  ⟨0x0C03, 2, 2, .u64, .ro, false, 0, .any, .no⟩,
  ⟨0x0C04, 1, 1, .u16, .ro, false, 0, .any, .no⟩,
  ⟨0x0C04, 2, 2, .u16, .ro, false, 4096, .any, .no⟩,
  ⟨0x0C04, 3, 3, .u16, .ro, false, 0, .any, .statCommit⟩,
  ⟨0x0C05, 1, 1, .u64, .ro, false, 0, .any, .stat⟩,
  ⟨0x0C05, 2, 2, .u32, .ro, false, 0, .any, .stat⟩,
  ⟨0x0C05, 3, 3, .u32, .ro, false, 0, .any, .stat⟩,
  ⟨0x0C05, 4, 4, .u32, .ro, false, 0, .any, .stat⟩,
  ⟨0x0C05, 5, 5, .u32, .ro, false, 0, .any, .stat⟩,
  ⟨0x0C05, 6, 6, .u32, .ro, false, 0, .any, .stat⟩,
  ⟨0x0C06, 1, 1, .blob, .ro, false, 0, .any, .no⟩,
  ⟨0x0C06, 2, 2, .u8, .ro, false, 255, .any, .no⟩]

/-- The entries of range 0x0D00. -/
def entries0D : List Entry := [
  ⟨0x0D00, 1, 1, .bool, .rw, false, 0, .any, .no⟩,
  ⟨0x0D01, 1, 4, .bool, .rws, false, 0, .any, .no⟩,
  ⟨0x0D02, 1, 8, .u8, .rws, false, 255, .rangeOrFF 0 3, .no⟩,
  ⟨0x0D03, 1, 1, .u8, .ro, false, 0, .any, .no⟩,
  ⟨0x0D03, 2, 2, .u8, .ro, false, 0, .any, .no⟩,
  ⟨0x0D03, 3, 3, .u8, .ro, false, 0, .any, .no⟩,
  ⟨0x0D04, 1, 4, .u8, .ro, false, 0, .any, .no⟩,
  ⟨0x0D05, 1, 8, .u32, .ro, false, 0, .any, .no⟩,
  ⟨0x0D06, 1, 4, .u8, .rws, true, 0, .range 0 2, .no⟩,
  ⟨0x0D07, 1, 4, .u32, .ro, true, 0, .any, .stat⟩,
  ⟨0x0D08, 1, 4, .u32, .ro, false, 0, .any, .stat⟩,
  ⟨0x0D09, 1, 4, .u32, .ro, false, 0, .any, .stat⟩,
  ⟨0x0D0A, 1, 8, .u32, .ro, false, 0, .any, .stat⟩,
  ⟨0x0D0B, 1, 1, .u32, .ro, false, 0, .any, .stat⟩,
  ⟨0x0D0B, 2, 2, .u32, .ro, false, 0, .any, .stat⟩]

/-- The entries of range 0x0E00. -/
def entries0E : List Entry := [
  ⟨0x0E00, 1, 1, .bool, .rw, false, 0, .any, .no⟩,
  ⟨0x0E01, 1, 32, .u8, .rws, false, 0, .range 0 2, .no⟩,
  ⟨0x0E02, 1, 32, .u32, .rws, false, 0, .range 0 10000000, .no⟩,
  ⟨0x0E03, 1, 32, .u8, .rws, false, 0, .bits 0x03, .no⟩,
  ⟨0x0E04, 1, 1, .u32, .ro, false, 0, .any, .no⟩,
  ⟨0x0E05, 1, 1, .u32, .rws, true, 100000, .range 20000 1000000, .no⟩,
  ⟨0x0E06, 1, 32, .u32, .ro, false, 0, .any, .stat⟩,
  ⟨0x0E07, 1, 4, .u8, .rws, false, 0, .range 0 3, .no⟩,
  ⟨0x0E08, 1, 4, .u32, .ro, false, 0, .any, .no⟩,
  ⟨0x0E09, 1, 4, .u8, .rws, true, 255, .rangeOrFF 8 31, .no⟩,
  ⟨0x0E0A, 1, 4, .u32, .ro, false, 0, .any, .no⟩,
  ⟨0x0E0B, 1, 4, .bc48, .ro, false, 0, .any, .no⟩,
  ⟨0x0E0C, 1, 4, .u32, .ro, false, 0, .any, .stat⟩,
  ⟨0x0E0D, 1, 1, .u8, .ro, false, 0, .any, .no⟩,
  ⟨0x0E0D, 2, 2, .u8, .cmd, false, 0, .range 1 1, .no⟩,
  ⟨0x0E0D, 3, 3, .u32, .ro, false, 0, .any, .stat⟩,
  ⟨0x0E0E, 1, 32, .u32, .ro, false, 0, .any, .stat⟩]

/-- The entries of range 0x0F00. -/
def entries0F : List Entry := [
  ⟨0x0F00, 1, 1, .bool, .rw, false, 0, .any, .no⟩,
  ⟨0x0F01, 1, 128, .bool, .rws, false, 0, .any, .no⟩,
  ⟨0x0F02, 1, 128, .bool, .rw, false, 0, .any, .no⟩,
  ⟨0x0F03, 1, 1, .u8, .rws, false, 255, .rangeOrFF 0 127, .no⟩,
  ⟨0x0F03, 2, 2, .u8, .ro, false, 0, .any, .no⟩,
  ⟨0x0F03, 3, 3, .u8, .cmd, false, 0, .range 1 2, .no⟩,
  ⟨0x0F03, 4, 4, .u8, .ro, false, 0, .any, .no⟩,
  ⟨0x0F04, 1, 128, .u8, .ro, false, 0, .any, .no⟩,
  ⟨0x0F05, 1, 128, .bool, .rws, true, 0, .any, .no⟩,
  ⟨0x0F06, 1, 128, .u32, .ro, false, 0, .any, .stat⟩,
  ⟨0x0F07, 1, 1, .u8, .cmd, false, 0, .rangeOrFF 0 127, .no⟩,
  ⟨0x0F08, 1, 2, .u64, .ro, false, 0, .any, .no⟩,
  ⟨0x0F10, 1, 4, .u8, .ro, false, 0, .any, .no⟩,
  ⟨0x0F11, 1, 4, .u8, .ro, false, 0, .any, .no⟩,
  ⟨0x0F12, 1, 4, .blob, .ro, false, 0, .any, .no⟩,
  ⟨0x0F13, 1, 4, .u16, .ro, false, 0, .any, .no⟩,
  ⟨0x0F14, 1, 1, .u16, .rws, true, 250, .range 50 500, .no⟩,
  ⟨0x0F14, 2, 2, .u32, .rws, true, 500, .range 100 5000, .no⟩,
  ⟨0x0F15, 1, 4, .u16, .ro, false, 16, .any, .no⟩,
  ⟨0x0F16, 1, 4, .u8, .rws, true, 0, .range 0 2, .no⟩,
  ⟨0x0F17, 1, 4, .u32, .ro, true, 0, .any, .stat⟩,
  ⟨0x0F18, 1, 4, .u32, .ro, false, 0, .any, .stat⟩,
  ⟨0x0F19, 1, 4, .u32, .ro, false, 0, .any, .stat⟩,
  ⟨0x0F1A, 1, 4, .u32, .ro, false, 0, .any, .stat⟩,
  ⟨0x0F1B, 1, 4, .u32, .ro, false, 0, .any, .stat⟩,
  ⟨0x0F1C, 1, 4, .u32, .ro, false, 0, .any, .stat⟩,
  ⟨0x0F1D, 1, 4, .u64, .ro, false, 0, .any, .stat⟩]

/-- The entries of range 0x1000. -/
def entries10 : List Entry := [
  ⟨0x1000, 1, 1, .bool, .rw, false, 0, .any, .no⟩,
  ⟨0x1001, 1, 2, .u8, .rws, false, 0, .range 0 2, .no⟩,
  ⟨0x1002, 1, 2, .u8, .rws, false, 25, .range 13 32, .no⟩,
  ⟨0x1003, 1, 2, .u8, .rws, false, 0, .range 0 4, .no⟩,
  ⟨0x1004, 1, 2, .u8, .rws, false, 0, .range 0 1, .no⟩,
  ⟨0x1005, 1, 2, .u32, .rws, false, 10000, .range 100 10000, .no⟩,
  ⟨0x1006, 1, 2, .u32, .rws, false, 1000, .range 500 64000, .no⟩,
  ⟨0x1007, 1, 2, .u16, .rws, true, 0, .range 0 2000, .no⟩,
  ⟨0x1008, 1, 2, .u8, .rws, true, 0, .bits 0x0F, .no⟩,
  ⟨0x1009, 1, 2, .bool, .rws, true, 0, .any, .no⟩,
  ⟨0x100A, 1, 2, .bool, .rws, false, 0, .any, .no⟩,
  ⟨0x100B, 1, 2, .u32, .rws, false, 100000, .range 2000 1000000, .no⟩,
  ⟨0x100C, 1, 2, .u8, .rws, false, 3, .range 0 7, .no⟩,
  ⟨0x100D, 1, 2, .i64, .ro, false, 0, .any, .no⟩,
  ⟨0x100E, 1, 2, .f32, .ro, false, 0, .any, .no⟩,
  ⟨0x100F, 1, 2, .u32, .ro, true, 0, .any, .no⟩,
  ⟨0x1010, 1, 2, .u8, .ro, false, 0, .any, .no⟩,
  ⟨0x1011, 1, 2, .u32, .ro, false, 0, .any, .stat⟩,
  ⟨0x1012, 1, 2, .u32, .ro, false, 0, .any, .stat⟩,
  ⟨0x1013, 1, 2, .u32, .ro, false, 0, .any, .stat⟩,
  ⟨0x1014, 1, 2, .u32, .ro, false, 0, .any, .stat⟩,
  ⟨0x1015, 1, 1, .u8, .cmd, false, 0, .range 0 1, .no⟩]

/-- The entries of range 0x1100. -/
def entries11 : List Entry := [
  ⟨0x1100, 1, 1, .bool, .rw, false, 0, .any, .no⟩,
  ⟨0x1101, 1, 16, .u32, .rws, false, 0, .range 0 100000000, .no⟩,
  ⟨0x1102, 1, 16, .u32, .rws, false, 0, .range 0 100000000, .no⟩,
  ⟨0x1103, 1, 16, .u32, .rws, false, 1000000, .range 0 100000000, .no⟩,
  ⟨0x1104, 1, 16, .u32, .rws, false, 100000000, .range 1000 1000000000, .no⟩,
  ⟨0x1105, 1, 16, .u32, .rws, false, 1000000, .range 1 100000000, .no⟩,
  ⟨0x1106, 1, 1, .blob, .rws, false, 0, .any, .no⟩,
  ⟨0x1107, 1, 128, .u16, .ro, true, 0, .any, .no⟩,
  ⟨0x1108, 1, 128, .u16, .ro, true, 0, .any, .no⟩,
  ⟨0x1109, 1, 1, .u16, .ro, true, 4000, .any, .no⟩,
  ⟨0x110A, 1, 1, .u16, .ro, false, 0, .any, .no⟩,
  ⟨0x110A, 2, 2, .u16, .ro, false, 0, .any, .statCommit⟩,
  ⟨0x110A, 3, 3, .u16, .ro, false, 0, .any, .no⟩,
  ⟨0x110A, 4, 4, .u64, .ro, false, 0, .any, .stat⟩,
  ⟨0x110A, 5, 5, .u32, .ro, false, 0, .any, .stat⟩,
  ⟨0x110A, 6, 6, .u32, .ro, false, 0, .any, .stat⟩,
  ⟨0x110A, 7, 7, .u32, .ro, false, 0, .any, .stat⟩,
  ⟨0x110A, 8, 8, .u32, .ro, false, 0, .any, .stat⟩,
  ⟨0x110A, 9, 9, .u32, .ro, false, 0, .any, .stat⟩,
  ⟨0x110A, 10, 10, .u32, .ro, false, 0, .any, .stat⟩,
  ⟨0x110A, 11, 11, .u32, .ro, false, 0, .any, .stat⟩,
  ⟨0x110A, 12, 12, .u32, .ro, false, 0, .any, .stat⟩,
  ⟨0x110A, 13, 13, .u32, .ro, false, 0, .any, .stat⟩,
  ⟨0x110B, 1, 1, .u32, .cmd, false, 0, .any, .no⟩,
  ⟨0x110C, 1, 1, .u64, .ro, false, 0, .any, .stat⟩,
  ⟨0x110C, 2, 2, .u32, .ro, false, 0, .any, .stat⟩,
  ⟨0x110C, 3, 3, .i32, .ro, false, 0, .any, .no⟩,
  ⟨0x110C, 4, 4, .i32, .ro, false, 0, .any, .stat⟩,
  ⟨0x110C, 5, 5, .u8, .cmd, false, 0, .range 1 1, .no⟩]

/-- The entries of range 0x1200. -/
def entries12 : List Entry := [
  ⟨0x1200, 1, 1, .bool, .rw, false, 0, .any, .no⟩,
  ⟨0x1201, 1, 1, .u16, .ro, false, 8042, .any, .no⟩,
  ⟨0x1201, 2, 2, .u16, .ro, false, 28928, .any, .no⟩,
  ⟨0x1201, 3, 3, .u16, .ro, false, 0, .any, .no⟩,
  ⟨0x1202, 1, 2, .u8, .ro, false, 0, .any, .no⟩,
  ⟨0x1202, 3, 4, .u32, .ro, false, 0, .any, .stat⟩,
  ⟨0x1202, 5, 6, .u8, .ro, false, 0, .any, .no⟩,
  ⟨0x1203, 1, 1, .u32, .rws, false, 100, .range 0 10000, .no⟩,
  ⟨0x1204, 1, 63, .u8, .rws, false, 0, .rangeOrFF 0 63, .no⟩,
  ⟨0x1205, 1, 64, .u32, .ro, false, 0, .any, .stat⟩,
  ⟨0x1206, 1, 1, .u16, .ro, false, 0, .any, .no⟩,
  ⟨0x1206, 2, 2, .u8, .ro, false, 0, .any, .no⟩,
  ⟨0x1206, 3, 3, .u64, .ro, false, 0, .any, .stat⟩,
  ⟨0x1206, 4, 4, .u32, .ro, false, 0, .any, .stat⟩,
  ⟨0x1206, 5, 5, .u32, .ro, false, 0, .any, .stat⟩,
  ⟨0x1206, 6, 6, .u32, .ro, false, 0, .any, .stat⟩]

/-- The entries of range 0x1300. -/
def entries13 : List Entry := [
  ⟨0x1300, 1, 1, .bool, .rw, false, 0, .any, .no⟩,
  ⟨0x1301, 1, 2, .u64, .ro, false, 0, .any, .no⟩,
  ⟨0x1301, 3, 3, .u64, .ro, false, 0, .any, .no⟩,
  ⟨0x1302, 1, 2, .bool, .rws, false, 1, .any, .no⟩,
  ⟨0x1303, 1, 2, .u8, .ro, false, 0, .any, .no⟩,
  ⟨0x1303, 3, 4, .u8, .ro, false, 0, .any, .no⟩,
  ⟨0x1304, 1, 2, .u32, .rws, false, 0, .any, .no⟩,
  ⟨0x1304, 3, 4, .u8, .rws, false, 24, .range 1 30, .no⟩,
  ⟨0x1304, 5, 6, .u32, .rws, false, 0, .any, .no⟩,
  ⟨0x1305, 1, 2, .u16, .rws, true, 0, .range 0 4094, .no⟩,
  ⟨0x1306, 1, 2, .u64, .ro, false, 0, .any, .stat⟩,
  ⟨0x1306, 3, 4, .u32, .ro, false, 0, .any, .stat⟩,
  ⟨0x1306, 5, 6, .u32, .ro, false, 0, .any, .stat⟩,
  ⟨0x1310, 1, 2, .bool, .rws, false, 0, .any, .no⟩,
  ⟨0x1310, 3, 4, .u8, .rws, false, 0, .range 0 127, .no⟩,
  ⟨0x1311, 1, 2, .u8, .rws, false, 0, .range 0 1, .no⟩,
  ⟨0x1311, 3, 4, .u8, .rws, false, 0, .range 0 1, .no⟩,
  ⟨0x1311, 5, 6, .i32, .rws, false, 0, .range (-1000000) 1000000, .no⟩,
  ⟨0x1311, 7, 8, .i32, .ro, true, 0, .any, .no⟩,
  ⟨0x1311, 9, 10, .i32, .ro, true, 0, .any, .no⟩,
  ⟨0x1311, 11, 12, .i16, .rws, true, 0, .range (-4) 4, .no⟩,
  ⟨0x1312, 1, 1, .u8, .rws, false, 0, .range 0 1, .no⟩,
  ⟨0x1312, 2, 2, .bool, .rws, false, 0, .any, .no⟩,
  ⟨0x1312, 3, 3, .u8, .rws, false, 248, .any, .no⟩,
  ⟨0x1312, 4, 4, .u32, .rws, true, 200, .range 10 1000000, .no⟩,
  ⟨0x1312, 5, 5, .u32, .rws, true, 10000, .range 1000 1000000000, .no⟩,
  ⟨0x1312, 6, 6, .u32, .rws, true, 1000, .range 100 60000, .no⟩,
  ⟨0x1312, 7, 7, .u32, .rws, true, 1000000, .range 0 1000000000, .no⟩,
  ⟨0x1312, 8, 8, .u32, .rws, true, 300, .range 1 86400, .no⟩,
  ⟨0x1313, 1, 2, .u8, .ro, false, 0, .any, .no⟩,
  ⟨0x1313, 3, 4, .i64, .ro, false, 0, .any, .no⟩,
  ⟨0x1313, 5, 6, .i32, .ro, false, 0, .any, .no⟩,
  ⟨0x1313, 7, 8, .u64, .ro, false, 0, .any, .no⟩,
  ⟨0x1313, 9, 10, .u8, .ro, false, 255, .any, .no⟩,
  ⟨0x1313, 11, 12, .u8, .ro, false, 255, .any, .no⟩,
  ⟨0x1314, 1, 1, .u8, .ro, false, 255, .any, .no⟩,
  ⟨0x1314, 2, 2, .u8, .ro, false, 0, .any, .no⟩,
  ⟨0x1314, 3, 3, .u64, .ro, true, 0, .any, .no⟩,
  ⟨0x1314, 4, 4, .u32, .ro, false, 0, .any, .stat⟩,
  ⟨0x1314, 5, 5, .u32, .ro, false, 0, .any, .stat⟩,
  ⟨0x1314, 6, 6, .u32, .ro, false, 0, .any, .stat⟩,
  ⟨0x1315, 1, 2, .u32, .ro, false, 0, .any, .stat⟩]

/-- The entries of range 0x1400. -/
def entries14 : List Entry := [
  ⟨0x1400, 1, 1, .bool, .rw, false, 0, .any, .no⟩,
  ⟨0x1401, 1, 1, .blob, .ro, false, 0, .any, .no⟩,
  ⟨0x1401, 2, 2, .blob, .ro, false, 0, .any, .no⟩,
  ⟨0x1401, 3, 3, .u8, .cmd, false, 0, .range 1 1, .no⟩,
  ⟨0x1401, 4, 4, .u8, .cmd, true, 0, .range 1 1, .no⟩,
  ⟨0x1401, 5, 5, .u32, .ro, false, 0, .any, .stat⟩,
  ⟨0x1401, 6, 6, .u16, .ro, false, 0, .any, .no⟩,
  ⟨0x1402, 1, 10, .u32, .ro, false, 0, .any, .stat⟩,
  ⟨0x1402, 11, 11, .u32, .ro, false, 0, .any, .stat⟩,
  ⟨0x1403, 1, 1, .u32, .rws, true, 65536, .range 4096 16777216, .no⟩,
  ⟨0x1403, 2, 2, .u32, .rws, true, 256, .range 16 1048576, .no⟩,
  ⟨0x1403, 3, 3, .u8, .rws, true, 3, .range 1 16, .no⟩,
  ⟨0x1403, 4, 4, .u32, .rws, true, 60, .range 1 86400, .no⟩,
  ⟨0x1403, 5, 5, .u8, .rws, true, 3, .range 1 16, .no⟩,
  ⟨0x1403, 6, 6, .u32, .rws, true, 600, .range 1 86400, .no⟩,
  ⟨0x1404, 1, 1, .u8, .cmd, true, 0, .range 1 1, .no⟩,
  ⟨0x1404, 2, 2, .u32, .ro, false, 0, .any, .stat⟩,
  ⟨0x1404, 3, 3, .u32, .ro, false, 0, .any, .no⟩,
  ⟨0x1404, 4, 4, .u16, .ro, false, 0, .any, .no⟩,
  ⟨0x1405, 1, 16, .u32, .ro, false, 0, .any, .stat⟩,
  ⟨0x1405, 17, 32, .u32, .ro, false, 0, .any, .stat⟩,
  ⟨0x1406, 1, 1, .bool, .ro, false, 0, .any, .no⟩,
  ⟨0x1406, 2, 2, .bc48, .ro, false, 0, .any, .no⟩,
  ⟨0x1406, 3, 3, .u32, .ro, false, 0, .any, .stat⟩]

/-- The entries of range 0x1500. -/
def entries15 : List Entry := [
  ⟨0x1500, 1, 1, .bool, .rw, false, 0, .any, .no⟩,
  ⟨0x1501, 1, 1, .u8, .cmd, false, 0, .range 1 4, .no⟩,
  ⟨0x1501, 2, 2, .bool, .ro, false, 0, .any, .no⟩,
  ⟨0x1501, 3, 3, .u32, .ro, false, 0, .any, .no⟩,
  ⟨0x1501, 4, 4, .blob, .ro, false, 0, .any, .no⟩,
  ⟨0x1502, 1, 4, .u64, .ro, false, 0, .any, .no⟩,
  ⟨0x1503, 1, 32, .u16, .rws, true, 0, .counterEvent, .no⟩,
  ⟨0x1504, 1, 32, .u32, .rws, true, 131071, .bits 0x1FFFF, .no⟩,
  ⟨0x1505, 1, 32, .u16, .rws, true, 4095, .bits 0x0FFF, .no⟩,
  ⟨0x1506, 1, 32, .u64, .rws, true, 0, .any, .no⟩,
  ⟨0x1507, 1, 32, .u64, .rws, true, 18446744073709551615, .any, .no⟩,
  ⟨0x1508, 1, 32, .u64, .rws, true, 0, .bits 0xFFFFFFFFFFFF, .no⟩,
  ⟨0x1509, 1, 32, .bool, .rws, true, 0, .any, .no⟩,
  ⟨0x150A, 1, 32, .u64, .ro, false, 0, .any, .no⟩,
  ⟨0x150B, 1, 32, .u32, .ro, false, 0, .any, .no⟩,
  ⟨0x1510, 1, 1, .u8, .rws, false, 10, .range 4 20, .no⟩,
  ⟨0x1510, 2, 2, .u8, .cmd, false, 0, .range 1 1, .no⟩,
  ⟨0x1511, 1, 130, .u64, .ro, false, 0, .any, .no⟩,
  ⟨0x1512, 1, 130, .u64, .ro, false, 0, .any, .no⟩,
  ⟨0x1513, 1, 130, .u64, .ro, false, 0, .any, .no⟩,
  ⟨0x1514, 1, 130, .u64, .ro, false, 0, .any, .no⟩,
  ⟨0x1520, 1, 1, .bool, .rws, true, 0, .any, .no⟩,
  ⟨0x1520, 2, 2, .u8, .rws, true, 10, .range 0 16, .no⟩,
  ⟨0x1520, 3, 3, .u32, .rws, true, 1, .range 1 4294967295, .no⟩,
  ⟨0x1520, 4, 4, .u32, .rws, true, 987135, .bits 0x000F0FFF, .no⟩,
  ⟨0x1520, 5, 5, .u16, .rws, true, 65535, .any, .no⟩,
  ⟨0x1520, 6, 6, .u32, .ro, false, 0, .any, .no⟩,
  ⟨0x1520, 7, 7, .u32, .ro, false, 0, .any, .no⟩,
  ⟨0x1520, 8, 8, .blob, .ro, false, 0, .any, .no⟩,
  ⟨0x1520, 9, 9, .u8, .cmd, false, 0, .range 1 1, .no⟩]

/-- The entries of range 0x1600. -/
def entries16 : List Entry := [
  ⟨0x1600, 1, 1, .bool, .rw, false, 0, .any, .no⟩,
  ⟨0x1601, 1, 1, .u8, .ro, false, 0, .any, .no⟩,
  ⟨0x1601, 2, 2, .u8, .ro, false, 2, .any, .no⟩,
  ⟨0x1601, 3, 3, .u8, .ro, false, 0, .any, .no⟩,
  ⟨0x1601, 4, 4, .u8, .ro, false, 0, .any, .no⟩,
  ⟨0x1601, 5, 5, .u16, .ro, false, 0, .any, .no⟩,
  ⟨0x1601, 6, 6, .u32, .ro, false, 0, .any, .no⟩,
  ⟨0x1602, 1, 16, .u8, .ro, false, 0, .any, .no⟩,
  ⟨0x1603, 1, 16, .u16, .ro, false, 0, .any, .no⟩,
  ⟨0x1604, 1, 16, .blob, .ro, false, 0, .any, .no⟩,
  ⟨0x1605, 1, 1, .u8, .rw, true, 0, .range 0 15, .no⟩,
  ⟨0x1605, 2, 2, .u32, .cmd, true, 0, .blobLength, .no⟩,
  ⟨0x1605, 3, 3, .u32, .rw, true, 0, .any, .no⟩,
  ⟨0x1605, 4, 4, .blob, .wo, true, 0, .any, .no⟩,
  ⟨0x1605, 5, 5, .u8, .cmd, true, 0, .range 0 15, .no⟩,
  ⟨0x1605, 6, 6, .u8, .cmd, true, 0, .range 0 15, .no⟩,
  ⟨0x1606, 1, 1, .u8, .ro, false, 0, .any, .no⟩,
  ⟨0x1606, 2, 2, .blob, .ro, false, 0, .any, .no⟩,
  ⟨0x1606, 3, 3, .u32, .rws, false, 0, .any, .no⟩,
  ⟨0x1607, 1, 1, .blob, .ro, false, 0, .any, .no⟩,
  ⟨0x1607, 2, 2, .blob, .ro, false, 0, .any, .no⟩,
  ⟨0x1607, 3, 3, .blob, .rw, false, 0, .any, .no⟩,
  ⟨0x1607, 4, 4, .u8, .cmd, false, 0, .range 1 1, .no⟩,
  ⟨0x1607, 5, 5, .blob, .ro, false, 0, .any, .no⟩,
  ⟨0x1607, 6, 6, .u32, .ro, false, 0, .any, .no⟩,
  ⟨0x1608, 1, 1, .u16, .ro, false, 0, .any, .stat⟩,
  ⟨0x1608, 2, 2, .blob, .ro, false, 0, .any, .no⟩]

/-- The entries of range 0x1700. -/
def entries17 : List Entry := [
  ⟨0x1700, 1, 1, .bool, .rw, false, 0, .any, .no⟩,
  ⟨0x1701, 1, 1, .u16, .cmd, false, 0, .statRange, .no⟩,
  ⟨0x1701, 2, 2, .u32, .ro, false, 0, .any, .no⟩,
  ⟨0x1701, 3, 3, .u16, .ro, false, 0, .any, .no⟩,
  ⟨0x1701, 4, 4, .bc48, .ro, false, 0, .any, .no⟩,
  ⟨0x1701, 5, 5, .t64, .ro, false, 0, .any, .no⟩,
  ⟨0x1702, 1, 1, .u32, .rws, true, 1000, .range 1 1000000, .no⟩,
  ⟨0x1703, 1, 4, .u32, .ro, false, 0, .any, .stat⟩]

/-- The rows of the range an index lies in (R5, R57). -/
def entriesOf (hi : Nat) : List Entry :=
  match hi with
  | 0x01 => entries01
  | 0x02 => entries02
  | 0x03 => entries03
  | 0x04 => entries04
  | 0x05 => entries05
  | 0x06 => entries06
  | 0x08 => entries08
  | 0x09 => entries09
  | 0x0A => entries0A
  | 0x0B => entries0B
  | 0x0C => entries0C
  | 0x0D => entries0D
  | 0x0E => entries0E
  | 0x0F => entries0F
  | 0x10 => entries10
  | 0x11 => entries11
  | 0x12 => entries12
  | 0x13 => entries13
  | 0x14 => entries14
  | 0x15 => entries15
  | 0x16 => entries16
  | 0x17 => entries17
  | _ => []

/-- Every row of the dictionary. -/
def allEntries : List Entry :=
  entries01 ++ entries02 ++ entries03 ++ entries04 ++ entries05 ++ entries06 ++ entries08 ++ entries09 ++ entries0A ++ entries0B ++ entries0C ++ entries0D ++ entries0E ++ entries0F ++ entries10 ++ entries11 ++ entries12 ++ entries13 ++ entries14 ++ entries15 ++ entries16 ++ entries17

end Sys2Proof.Machine

namespace Sys2Proof.Machine.K

abbrev beltSource : Nat := 0x020101
abbrev beltDirectionInvert : Nat := 0x020102
abbrev bcLength : Nat := 0x020103
abbrev simulatedSpeed : Nat := 0x020104
abbrev beltStartPosition : Nat := 0x020105
abbrev encoderSamplePeriod : Nat := 0x020201
abbrev maxStepPerSample : Nat := 0x020202
abbrev encoderHoldover : Nat := 0x020203
abbrev speedWindow : Nat := 0x020301
abbrev stopThreshold : Nat := 0x020302
abbrev maxBeltSpeed : Nat := 0x020303
abbrev beltPosition : Nat := 0x020401
abbrev beltPositionFraction : Nat := 0x020402
abbrev beltSpeed : Nat := 0x020403
abbrev beltSpeedMetres : Nat := 0x020404
abbrev beltState : Nat := 0x020405
abbrev lastSampleTime : Nat := 0x020406
abbrev lastSampleWord : Nat := 0x020407
abbrev beltReorigin : Nat := 0x020501
abbrev linePitch : Nat := 0x020601
abbrev lineOriginPosition : Nat := 0x020602
abbrev triggerMinInterval : Nat := 0x020603
abbrev streamViewOffset (n : Nat) : Nat := 0x020700 + (n + 1) % 256
abbrev streamNextLine (n : Nat) : Nat := 0x020800 + (n + 1) % 256
abbrev stripeLines : Nat := 0x020901
abbrev currentStripe : Nat := 0x020902
abbrev crossingMode : Nat := 0x020A01
abbrev dieTransportNs : Nat := 0x020A02
abbrev samplesRejected : Nat := 0x020B01
abbrev holdoverEntries : Nat := 0x020B02
abbrev beltLostEvents : Nat := 0x020B03
abbrev overspeedEvents : Nat := 0x020B04
abbrev suppressedTriggers : Nat := 0x020B05
abbrev positionSaturations : Nat := 0x020B06
abbrev reverseSamplesDiscarded : Nat := 0x020B07
abbrev partNumber : Nat := 0x030101
abbrev assemblyCode : Nat := 0x030102
abbrev computeDieCount : Nat := 0x030103
abbrev memoryDieCount : Nat := 0x030104
abbrev ioDieCount : Nat := 0x030105
abbrev memoryCapacity : Nat := 0x030106
abbrev cameraLinksFitted : Nat := 0x030107
abbrev pipelineLevel : Nat := 0x030108
abbrev tetherPortCount : Nat := 0x030109
abbrev logicPowerCeiling : Nat := 0x030201
abbrev computePowerAllotment : Nat := 0x030202
abbrev cameraPowerBudget : Nat := 0x030203
abbrev computeEnergyPerOp : Nat := 0x030204
abbrev fieldBankTripCurrent (n : Nat) : Nat := 0x030300 + (n + 1) % 256
abbrev fieldBankState (n : Nat) : Nat := 0x030400 + (n + 1) % 256
abbrev fieldBankReset : Nat := 0x030501
abbrev fieldBankTrips (n : Nat) : Nat := 0x030600 + (n + 1) % 256
abbrev vendorName : Nat := 0x010101
abbrev productFamily : Nat := 0x010102
abbrev serialNumber : Nat := 0x010103
abbrev manufactureDate : Nat := 0x010104
abbrev detKey : Nat := 0x010105
abbrev romRevision : Nat := 0x010106
abbrev computeStepping : Nat := 0x010107
abbrev memoryStepping : Nat := 0x010108
abbrev ioStepping : Nat := 0x010109
abbrev trimValues : Nat := 0x01010A
abbrev spareArrayMap : Nat := 0x01010B
abbrev commitControl : Nat := 0x011001
abbrev discard : Nat := 0x011002
abbrev stageOwner : Nat := 0x011003
abbrev stagedCount : Nat := 0x011004
abbrev configGeneration : Nat := 0x011005
abbrev lastCommitStatus : Nat := 0x011006
abbrev conflictCount : Nat := 0x011007
abbrev conflictLog : Nat := 0x011008
abbrev lastCommitPosition : Nat := 0x011009
abbrev lastCommitTime : Nat := 0x01100A
abbrev bdpEnable : Nat := 0x012001
abbrev bdpUdpPort : Nat := 0x012002
abbrev bdpSessionTimeout : Nat := 0x012003
abbrev bdpAllowedNetwork : Nat := 0x012004
abbrev bdpAllowedPrefix : Nat := 0x012005
abbrev bdpSessionsOpen : Nat := 0x012006
abbrev bdpFramesDropped : Nat := 0x012007
abbrev bdpSequenceErrors : Nat := 0x012008
abbrev bdpRetransmissions : Nat := 0x012009
abbrev linkRateMax (n : Nat) : Nat := 0x040100 + (n + 1) % 256
abbrev linkRateFallback (n : Nat) : Nat := 0x040200 + (n + 1) % 256
abbrev cameraPowerEnable (n : Nat) : Nat := 0x040300 + (n + 1) % 256
abbrev cameraPowerLimit (n : Nat) : Nat := 0x040400 + (n + 1) % 256
abbrev linkState (n : Nat) : Nat := 0x040500 + (n + 1) % 256
abbrev linkRate (n : Nat) : Nat := 0x040600 + (n + 1) % 256
abbrev linkFailCause (n : Nat) : Nat := 0x040700 + (n + 1) % 256
abbrev linkTest (n : Nat) : Nat := 0x040800 + (n + 1) % 256
abbrev linkTestErrors (n : Nat) : Nat := 0x040900 + (n + 1) % 256
abbrev eyeScan : Nat := 0x040A01
abbrev eyeScanDwell : Nat := 0x040A02
abbrev eyeWidth : Nat := 0x040A03
abbrev eyeHeight : Nat := 0x040A04
abbrev eyeMap : Nat := 0x040A05
abbrev codeErrors (n : Nat) : Nat := 0x040B00 + (n + 1) % 256
abbrev crcErrors (n : Nat) : Nat := 0x040C00 + (n + 1) % 256
abbrev lockLosses (n : Nat) : Nat := 0x040D00 + (n + 1) % 256
abbrev retrains (n : Nat) : Nat := 0x040E00 + (n + 1) % 256
abbrev powerTrips (n : Nat) : Nat := 0x040F00 + (n + 1) % 256
abbrev cameraBootTime : Nat := 0x041001
abbrev connectionTestTime : Nat := 0x041002
abbrev connectionTestErrorLimit : Nat := 0x041003
abbrev cameraPowerDraw : Nat := 0x041004
abbrev cameraPowerAllotted : Nat := 0x041005
abbrev linkPowerDraw (n : Nat) : Nat := 0x041100 + (n + 1) % 256
abbrev streamLinks (n : Nat) : Nat := 0x050100 + (n + 1) % 256
abbrev streamWidth (n : Nat) : Nat := 0x050200 + (n + 1) % 256
abbrev streamPixelFormat (n : Nat) : Nat := 0x050300 + (n + 1) % 256
abbrev streamFrameLines (n : Nat) : Nat := 0x050400 + (n + 1) % 256
abbrev streamPacketSizeMax (n : Nat) : Nat := 0x050500 + (n + 1) % 256
abbrev lineLagLimit (n : Nat) : Nat := 0x050600 + (n + 1) % 256
abbrev streamAcqStartAddress (n : Nat) : Nat := 0x050700 + (n + 1) % 256
abbrev streamAcqStopAddress (n : Nat) : Nat := 0x050800 + (n + 1) % 256
abbrev streamState (n : Nat) : Nat := 0x050900 + (n + 1) % 256
abbrev linesDelivered (n : Nat) : Nat := 0x050A00 + (n + 1) % 256
abbrev linesMissing (n : Nat) : Nat := 0x050B00 + (n + 1) % 256
abbrev streamResyncs (n : Nat) : Nat := 0x050C00 + (n + 1) % 256
abbrev triggersUplinkBusy (n : Nat) : Nat := 0x050D00 + (n + 1) % 256
abbrev streamPixelRate (n : Nat) : Nat := 0x050E00 + (n + 1) % 256
abbrev totalPixelRate : Nat := 0x050F01
abbrev heartbeatTimeout (n : Nat) : Nat := 0x051000 + (n + 1) % 256
abbrev heartbeatMisses (n : Nat) : Nat := 0x051000 + (n + 17) % 256
abbrev cameraRegStream : Nat := 0x051101
abbrev cameraRegAddress : Nat := 0x051102
abbrev cameraRegData : Nat := 0x051103
abbrev cameraRegCommand : Nat := 0x051104
abbrev streamRestart : Nat := 0x051201
abbrev streamPipeline (n : Nat) : Nat := 0x060100 + (n + 1) % 256
abbrev streamBufferFirst (n : Nat) : Nat := 0x060200 + (n + 1) % 256
abbrev meshStep (n : Nat) : Nat := 0x060300 + (n + 1) % 256
abbrev tileFirstColumn (n : Nat) : Nat := 0x060400 + (n + 1) % 256
abbrev tileColumns (n : Nat) : Nat := 0x060500 + (n + 1) % 256
abbrev meshTable (n : Nat) : Nat := 0x060600 + (n + 1) % 256
abbrev stripeWidth : Nat := 0x060701
abbrev stripeFold : Nat := 0x060702
abbrev stripeBlock : Nat := 0x060703
abbrev noiseReductionEnable (n : Nat) : Nat := 0x060800 + (n + 1) % 256
abbrev spatialThreshold (n : Nat) : Nat := 0x060900 + (n + 1) % 256
abbrev temporalStrength (n : Nat) : Nat := 0x060A00 + (n + 1) % 256
abbrev temporalThreshold (n : Nat) : Nat := 0x060B00 + (n + 1) % 256
abbrev lineSubstitute (n : Nat) : Nat := 0x060C00 + (n + 1) % 256
abbrev substituteValue (n : Nat) : Nat := 0x060D00 + (n + 1) % 256
abbrev lateLines (n : Nat) : Nat := 0x060E00 + (n + 1) % 256
abbrev cameraSettingDelay (n : Nat) : Nat := 0x060F00 + (n + 1) % 256
abbrev blackLevel (n : Nat) : Nat := 0x061000 + (n + 1) % 256
abbrev defectColumns (n : Nat) : Nat := 0x061100 + (n + 1) % 256
abbrev flatFieldGain0 (n : Nat) : Nat := 0x061200 + (n + 1) % 256
abbrev flatFieldGain1 (n : Nat) : Nat := 0x061300 + (n + 1) % 256
abbrev flatFieldGain2 (n : Nat) : Nat := 0x061400 + (n + 1) % 256
abbrev activeParamSet (n : Nat) : Nat := 0x061500 + (n + 1) % 256
abbrev paramSetOnWrite (n : Nat) : Nat := 0x061600 + (n + 1) % 256
abbrev paramSetSwitch : Nat := 0x061701
abbrev pipelineServiceCycles (n : Nat) : Nat := 0x061800 + (n + 1) % 256
abbrev linesSubstituted (n : Nat) : Nat := 0x061900 + (n + 1) % 256
abbrev linesLate (n : Nat) : Nat := 0x061A00 + (n + 1) % 256
abbrev linesCorrupt (n : Nat) : Nat := 0x061B00 + (n + 1) % 256
abbrev paramSwitches (n : Nat) : Nat := 0x061C00 + (n + 1) % 256
abbrev jpegHistoryFirst : Nat := 0x062001
abbrev jpegHistoryCount : Nat := 0x062002
abbrev jpegHistoryScale : Nat := 0x062003
abbrev jpegQuality : Nat := 0x062004
abbrev jpegSubsampling : Nat := 0x062005
abbrev decodeCycleLimit : Nat := 0x062101
abbrev decodeDeadlineDefault : Nat := 0x062102
abbrev decodeSubstituteValue : Nat := 0x062103
abbrev encodesCompleted : Nat := 0x062201
abbrev encodesSkipped : Nat := 0x062202
abbrev decodesCompleted : Nat := 0x062203
abbrev decodesRejected : Nat := 0x062204
abbrev decodesAbandoned : Nat := 0x062205
abbrev lastRejectCause : Nat := 0x062206
abbrev arrayHealth (n : Nat) : Nat := 0x080100 + (n + 1) % 256
abbrev spareState (n : Nat) : Nat := 0x080200 + (n + 1) % 256
abbrev healthyArrays (n : Nat) : Nat := 0x080300 + (n + 1) % 256
abbrev freezeCycles (n : Nat) : Nat := 0x080400 + (n + 1) % 256
abbrev freezeRuns (n : Nat) : Nat := 0x080400 + (n + 3) % 256
abbrev checkMismatches (n : Nat) : Nat := 0x080500 + (n + 1) % 256
abbrev accumulatorSaturations (n : Nat) : Nat := 0x080500 + (n + 3) % 256
abbrev checkErrorLimit : Nat := 0x080601
abbrev checkErrorWindow : Nat := 0x080602
abbrev arrayRetest : Nat := 0x080701
abbrev arrayRetire : Nat := 0x080702
abbrev arrayRestore : Nat := 0x080703
abbrev lastRetestResult : Nat := 0x080704
abbrev substitutions (n : Nat) : Nat := 0x080800 + (n + 1) % 256
abbrev arrayActivity (n : Nat) : Nat := 0x080900 + (n + 1) % 256
abbrev scaleSkewFaults (n : Nat) : Nat := 0x082000 + (n + 1) % 256
abbrev lastSkewLayer (n : Nat) : Nat := 0x082000 + (n + 3) % 256
abbrev clippedValues (n : Nat) : Nat := 0x082100 + (n + 1) % 256
abbrev nanCodes (n : Nat) : Nat := 0x082100 + (n + 3) % 256
abbrev wideReruns (n : Nat) : Nat := 0x082200 + (n + 1) % 256
abbrev rerunsMasked (n : Nat) : Nat := 0x082200 + (n + 3) % 256
abbrev flatChannels (n : Nat) : Nat := 0x082300 + (n + 1) % 256
abbrev clipLimitMode : Nat := 0x082401
abbrev maxClipShare (n : Nat) : Nat := 0x082500 + (n + 1) % 256
abbrev lineBufferAllotted (n : Nat) : Nat := 0x084000 + (n + 1) % 256
abbrev lineBufferSize : Nat := 0x084003
abbrev maskedRows (n : Nat) : Nat := 0x084100 + (n + 1) % 256
abbrev paddedTapWords (n : Nat) : Nat := 0x084200 + (n + 1) % 256
abbrev lineBufferParityErrors (n : Nat) : Nat := 0x084300 + (n + 1) % 256
abbrev streamStarts (n : Nat) : Nat := 0x084400 + (n + 1) % 256
abbrev vectorCheckMismatches (n : Nat) : Nat := 0x086000 + (n + 1) % 256
abbrev softmaxNanRows (n : Nat) : Nat := 0x086100 + (n + 1) % 256
abbrev activationTables : Nat := 0x086201
abbrev vectorActivity (n : Nat) : Nat := 0x086300 + (n + 1) % 256
abbrev planSlotState (n : Nat) : Nat := 0x090100 + (n + 1) % 256
abbrev planSlotDigest (n : Nat) : Nat := 0x090200 + (n + 1) % 256
abbrev planUploadSlot : Nat := 0x090301
abbrev planUploadBegin : Nat := 0x090302
abbrev planUploadOffset : Nat := 0x090303
abbrev planUploadData : Nat := 0x090304
abbrev planUploadEnd : Nat := 0x090305
abbrev planSlotClear : Nat := 0x090306
abbrev flush : Nat := 0x090401
abbrev periodBudget : Nat := 0x090501
abbrev slackCycles : Nat := 0x090502
abbrev decisionLatencyBound : Nat := 0x090503
abbrev decisionLatencyBoundUs : Nat := 0x090504
abbrev predictedComputePower : Nat := 0x090505
abbrev deadlineAtRisk : Nat := 0x090506
abbrev powerAtRisk : Nat := 0x090507
abbrev periodsRun : Nat := 0x090601
abbrev periodsSlipped : Nat := 0x090602
abbrev maxSlipCycles : Nat := 0x090603
abbrev maxFrozenPerPeriod : Nat := 0x090604
abbrev stripeOverruns : Nat := 0x090605
abbrev minObservedSlack : Nat := 0x090606
abbrev emptyPeriods : Nat := 0x090607
abbrev retryReserveMin : Nat := 0x090701
abbrev contextPlanSlot (n : Nat) : Nat := 0x091000 + (n + 1) % 256
abbrev contextPriority (n : Nat) : Nat := 0x091100 + (n + 1) % 256
abbrev contextState (n : Nat) : Nat := 0x091200 + (n + 1) % 256
abbrev contextOpenCycles (n : Nat) : Nat := 0x091300 + (n + 1) % 256
abbrev contextStepsRun (n : Nat) : Nat := 0x091400 + (n + 1) % 256
abbrev contextReset : Nat := 0x091501
abbrev trackCapacity : Nat := 0x0A0101
abbrev workListLength : Nat := 0x0A0102
abbrev maskRows : Nat := 0x0A0103
abbrev maskWidth : Nat := 0x0A0104
abbrev classCount : Nat := 0x0A0105
abbrev ejectorDistance : Nat := 0x0A0201
abbrev leadMargin : Nat := 0x0A0202
abbrev trailMargin : Nat := 0x0A0203
abbrev valveColumnOrigin : Nat := 0x0A0204
abbrev valveColumnPitch : Nat := 0x0A0205
abbrev valveChannelBase : Nat := 0x0A0206
abbrev valveChannelCount : Nat := 0x0A0207
abbrev valveGranule : Nat := 0x0A0208
abbrev fallbackAction : Nat := 0x0A0301
abbrev noTrackAction : Nat := 0x0A0302
abbrev degradedAction : Nat := 0x0A0303
abbrev overlengthAction : Nat := 0x0A0304
abbrev degradedShare : Nat := 0x0A0305
abbrev noTrackLength : Nat := 0x0A0306
abbrev workListMaxWait : Nat := 0x0A0307
abbrev directRecordLimit : Nat := 0x0A0308
abbrev classAction (n : Nat) : Nat := 0x0A0400 + (n + 1) % 256
abbrev classMinConfidence (n : Nat) : Nat := 0x0A0500 + (n + 1) % 256
abbrev tracksOpen : Nat := 0x0A0601
abbrev tracksClosed : Nat := 0x0A0602
abbrev tracksPeak : Nat := 0x0A0603
abbrev trackTable : Nat := 0x0A0604
abbrev joins : Nat := 0x0A0701
abbrev joinsRefused : Nat := 0x0A0702
abbrev merges : Nat := 0x0A0703
abbrev decisionsIssued : Nat := 0x0A0704
abbrev fallbackDecisions : Nat := 0x0A0705
abbrev noTrackDecisions : Nat := 0x0A0706
abbrev degradedObjects : Nat := 0x0A0707
abbrev overlengthTracks : Nat := 0x0A0708
abbrev smallObjectsDropped : Nat := 0x0A0709
abbrev listWaitFallbacks : Nat := 0x0A070A
abbrev directRecordsDeferred : Nat := 0x0A070B
abbrev tracksDiscarded : Nat := 0x0A070C
abbrev emptyListEntries : Nat := 0x0A070D
abbrev outsideValveRange : Nat := 0x0A070E
abbrev valveOpenDelay (n : Nat) : Nat := 0x110100 + (n + 1) % 256
abbrev valveCloseDelay (n : Nat) : Nat := 0x110200 + (n + 1) % 256
abbrev valveMinOnTime (n : Nat) : Nat := 0x110300 + (n + 1) % 256
abbrev valveMaxOnTime (n : Nat) : Nat := 0x110400 + (n + 1) % 256
abbrev valveMinOffTime (n : Nat) : Nat := 0x110500 + (n + 1) % 256
abbrev channelValveType : Nat := 0x110601
abbrev directOnLatency (n : Nat) : Nat := 0x110700 + (n + 1) % 256
abbrev directOffLatency (n : Nat) : Nat := 0x110800 + (n + 1) % 256
abbrev valveLinkLatency : Nat := 0x110901
abbrev pulsesPending : Nat := 0x110A01
abbrev pulsesPeak : Nat := 0x110A02
abbrev channelsOn : Nat := 0x110A03
abbrev pulsesScheduled : Nat := 0x110A04
abbrev pulsesMerged : Nat := 0x110A05
abbrev pulsesSplit : Nat := 0x110A06
abbrev storeFullRefused : Nat := 0x110A07
abbrev lateDecisions : Nat := 0x110A08
abbrev missedDecisions : Nat := 0x110A09
abbrev pulsesInterrupted : Nat := 0x110A0A
abbrev pulsesMissed : Nat := 0x110A0B
abbrev outputNotDriven : Nat := 0x110A0C
abbrev disabledChannelRequests : Nat := 0x110A0D
abbrev valveTestPulse : Nat := 0x110B01
abbrev fireEdgesMeasured : Nat := 0x110C01
abbrev fireEdgesOutside : Nat := 0x110C02
abbrev fireErrorMin : Nat := 0x110C03
abbrev fireErrorMax : Nat := 0x110C04
abbrev fireErrorClear : Nat := 0x110C05
abbrev inputMode (n : Nat) : Nat := 0x0E0100 + (n + 1) % 256
abbrev inputFilter (n : Nat) : Nat := 0x0E0200 + (n + 1) % 256
abbrev inputEdgeEvents (n : Nat) : Nat := 0x0E0300 + (n + 1) % 256
abbrev inputLevels : Nat := 0x0E0401
abbrev pulsePeriod : Nat := 0x0E0501
abbrev inputEdgeCount (n : Nat) : Nat := 0x0E0600 + (n + 1) % 256
abbrev fastCounterMode (n : Nat) : Nat := 0x0E0700 + (n + 1) % 256
abbrev fastCounterValue (n : Nat) : Nat := 0x0E0800 + (n + 1) % 256
abbrev fastCounterLatchInput (n : Nat) : Nat := 0x0E0900 + (n + 1) % 256
abbrev fastCounterLatched (n : Nat) : Nat := 0x0E0A00 + (n + 1) % 256
abbrev fastCounterLatchPosition (n : Nat) : Nat := 0x0E0B00 + (n + 1) % 256
abbrev fastCounterEdgeErrors (n : Nat) : Nat := 0x0E0C00 + (n + 1) % 256
abbrev sensorSupplyState : Nat := 0x0E0D01
abbrev sensorSupplyReset : Nat := 0x0E0D02
abbrev sensorSupplyTrips : Nat := 0x0E0D03
abbrev inputRecordsSuppressed (n : Nat) : Nat := 0x0E0E00 + (n + 1) % 256
abbrev generalOutputEnable (n : Nat) : Nat := 0x0F0100 + (n + 1) % 256
abbrev generalOutputLevel (n : Nat) : Nat := 0x0F0200 + (n + 1) % 256
abbrev aliveDirectOutput : Nat := 0x0F0301
abbrev aliveState : Nat := 0x0F0302
abbrev aliveControl : Nat := 0x0F0303
abbrev aliveStopCause : Nat := 0x0F0304
abbrev outputState (n : Nat) : Nat := 0x0F0400 + (n + 1) % 256
abbrev openLoadDetect (n : Nat) : Nat := 0x0F0500 + (n + 1) % 256
abbrev outputFaults (n : Nat) : Nat := 0x0F0600 + (n + 1) % 256
abbrev outputFaultClear : Nat := 0x0F0701
abbrev outputReadback (n : Nat) : Nat := 0x0F0800 + (n + 1) % 256
abbrev valveLinkState (n : Nat) : Nat := 0x0F1000 + (n + 1) % 256
abbrev valveLinkFailCause (n : Nat) : Nat := 0x0F1100 + (n + 1) % 256
abbrev driverIdent (n : Nat) : Nat := 0x0F1200 + (n + 1) % 256
abbrev cableDelay (n : Nat) : Nat := 0x0F1300 + (n + 1) % 256
abbrev keepAlivePeriod : Nat := 0x0F1401
abbrev armLead : Nat := 0x0F1402
abbrev armRequired (n : Nat) : Nat := 0x0F1500 + (n + 1) % 256
abbrev valveLinkTest (n : Nat) : Nat := 0x0F1600 + (n + 1) % 256
abbrev valveLinkTestErrors (n : Nat) : Nat := 0x0F1700 + (n + 1) % 256
abbrev valveLinkCodeErrors (n : Nat) : Nat := 0x0F1800 + (n + 1) % 256
abbrev valveLinkCrcErrors (n : Nat) : Nat := 0x0F1900 + (n + 1) % 256
abbrev driverLosses (n : Nat) : Nat := 0x0F1A00 + (n + 1) % 256
abbrev armRetransmissions (n : Nat) : Nat := 0x0F1B00 + (n + 1) % 256
abbrev unknownTagReports (n : Nat) : Nat := 0x0F1C00 + (n + 1) % 256
abbrev strobesSent (n : Nat) : Nat := 0x0F1D00 + (n + 1) % 256
abbrev encoderSupply (n : Nat) : Nat := 0x100100 + (n + 1) % 256
abbrev encoderWordLength (n : Nat) : Nat := 0x100200 + (n + 1) % 256
abbrev encoderStatusBits (n : Nat) : Nat := 0x100300 + (n + 1) % 256
abbrev encoderCoding (n : Nat) : Nat := 0x100400 + (n + 1) % 256
abbrev encoderClockRate (n : Nat) : Nat := 0x100500 + (n + 1) % 256
abbrev encoderMonoflop (n : Nat) : Nat := 0x100600 + (n + 1) % 256
abbrev encoderDataDelay (n : Nat) : Nat := 0x100700 + (n + 1) % 256
abbrev encoderStatusMask (n : Nat) : Nat := 0x100800 + (n + 1) % 256
abbrev encoderDoubleRead (n : Nat) : Nat := 0x100900 + (n + 1) % 256
abbrev auxEnable (n : Nat) : Nat := 0x100A00 + (n + 1) % 256
abbrev auxSamplePeriod (n : Nat) : Nat := 0x100B00 + (n + 1) % 256
abbrev auxSpeedWindow (n : Nat) : Nat := 0x100C00 + (n + 1) % 256
abbrev auxPosition (n : Nat) : Nat := 0x100D00 + (n + 1) % 256
abbrev auxSpeed (n : Nat) : Nat := 0x100E00 + (n + 1) % 256
abbrev encoderRawWord (n : Nat) : Nat := 0x100F00 + (n + 1) % 256
abbrev encoderState (n : Nat) : Nat := 0x101000 + (n + 1) % 256
abbrev wireDisagreements (n : Nat) : Nat := 0x101100 + (n + 1) % 256
abbrev framingErrors (n : Nat) : Nat := 0x101200 + (n + 1) % 256
abbrev statusRejects (n : Nat) : Nat := 0x101300 + (n + 1) % 256
abbrev encoderSupplyTrips (n : Nat) : Nat := 0x101400 + (n + 1) % 256
abbrev encoderSupplyReset : Nat := 0x101501
abbrev memoryDieState (n : Nat) : Nat := 0x0B0100 + (n + 1) % 256
abbrev linkStates (n : Nat) : Nat := 0x0B0200 + (n + 1) % 256
abbrev memoryReserved : Nat := 0x0B0301
abbrev memoryFree : Nat := 0x0B0302
abbrev scratchAllotted : Nat := 0x0B0303
abbrev memoryMinClock : Nat := 0x0B0304
abbrev recalInterval : Nat := 0x0B0305
abbrev upstreamRetries (n : Nat) : Nat := 0x0B0400 + (n + 1) % 256
abbrev downstreamRetries (n : Nat) : Nat := 0x0B0500 + (n + 1) % 256
abbrev maxLinkLag (n : Nat) : Nat := 0x0B0600 + (n + 1) % 256
abbrev correctedSymbols (n : Nat) : Nat := 0x0B0700 + (n + 1) % 256
abbrev uncorrectableReads (n : Nat) : Nat := 0x0B0800 + (n + 1) % 256
abbrev scrubPasses (n : Nat) : Nat := 0x0B0900 + (n + 1) % 256
abbrev scrubUncorrectable (n : Nat) : Nat := 0x0B0A00 + (n + 1) % 256
abbrev recalOverdue (n : Nat) : Nat := 0x0B0B00 + (n + 1) % 256
abbrev linkFailures (n : Nat) : Nat := 0x0B0C00 + (n + 1) % 256
abbrev uncorrectableLog : Nat := 0x0B0D01
abbrev uncorrectableLogClear : Nat := 0x0B0D02
abbrev scrubEnable : Nat := 0x0B0E01
abbrev lastTrainingTime : Nat := 0x0B0F01
abbrev knotBase (n : Nat) : Nat := 0x0C0100 + (n + 1) % 256
abbrev knotCount (n : Nat) : Nat := 0x0C0200 + (n + 1) % 256
abbrev knotSelect : Nat := 0x0C0301
abbrev knotWord : Nat := 0x0C0302
abbrev waitersInUse : Nat := 0x0C0401
abbrev waiterCapacity : Nat := 0x0C0402
abbrev waitersPeak : Nat := 0x0C0403
abbrev knotOps : Nat := 0x0C0501
abbrev knotSaturations : Nat := 0x0C0502
abbrev waitTimeouts : Nat := 0x0C0503
abbrev ownerResetReleases : Nat := 0x0C0504
abbrev frozenRefusals : Nat := 0x0C0505
abbrev knotOpsRefused : Nat := 0x0C0506
abbrev knotDump : Nat := 0x0C0601
abbrev knotDumpContext : Nat := 0x0C0602
abbrev tetherPortEnable (n : Nat) : Nat := 0x0D0100 + (n + 1) % 256
abbrev routeTable (n : Nat) : Nat := 0x0D0200 + (n + 1) % 256
abbrev groupState : Nat := 0x0D0301
abbrev groupFailCause : Nat := 0x0D0302
abbrev membersSeen : Nat := 0x0D0303
abbrev tetherPortState (n : Nat) : Nat := 0x0D0400 + (n + 1) % 256
abbrev tetherDelay (n : Nat) : Nat := 0x0D0500 + (n + 1) % 256
abbrev tetherTest (n : Nat) : Nat := 0x0D0600 + (n + 1) % 256
abbrev tetherTestErrors (n : Nat) : Nat := 0x0D0700 + (n + 1) % 256
abbrev tetherCrcErrors (n : Nat) : Nat := 0x0D0800 + (n + 1) % 256
abbrev tetherRetransmissions (n : Nat) : Nat := 0x0D0900 + (n + 1) % 256
abbrev memberLosses (n : Nat) : Nat := 0x0D0A00 + (n + 1) % 256
abbrev tetherErrorCompletions : Nat := 0x0D0B01
abbrev groupSkews : Nat := 0x0D0B02
abbrev pciVendorId : Nat := 0x120101
abbrev pciDeviceId : Nat := 0x120102
abbrev pciSubsystemId : Nat := 0x120103
abbrev hostPortState (n : Nat) : Nat := 0x120200 + (n + 1) % 256
abbrev tunnelLosses (n : Nat) : Nat := 0x120200 + (n + 3) % 256
abbrev hostLinkRate (n : Nat) : Nat := 0x120200 + (n + 5) % 256
abbrev tunnelHoldTime : Nat := 0x120301
abbrev eventRoute (n : Nat) : Nat := 0x120400 + (n + 1) % 256
abbrev evqRecordsDropped (n : Nat) : Nat := 0x120500 + (n + 1) % 256
abbrev ringsEnabled : Nat := 0x120601
abbrev queuesEnabled : Nat := 0x120602
abbrev commandsCompleted : Nat := 0x120603
abbrev doorbellsRefused : Nat := 0x120604
abbrev imagesDropped : Nat := 0x120605
abbrev recordsUnrouted : Nat := 0x120606
abbrev macAddress (n : Nat) : Nat := 0x130100 + (n + 1) % 256
abbrev clockIdentity : Nat := 0x130103
abbrev portEnable (n : Nat) : Nat := 0x130200 + (n + 1) % 256
abbrev portLinkState (n : Nat) : Nat := 0x130300 + (n + 1) % 256
abbrev portLinkRate (n : Nat) : Nat := 0x130300 + (n + 3) % 256
abbrev ipv4Address (n : Nat) : Nat := 0x130400 + (n + 1) % 256
abbrev ipv4Prefix (n : Nat) : Nat := 0x130400 + (n + 3) % 256
abbrev ipv4Gateway (n : Nat) : Nat := 0x130400 + (n + 5) % 256
abbrev vlanId (n : Nat) : Nat := 0x130500 + (n + 1) % 256
abbrev framesReceived (n : Nat) : Nat := 0x130600 + (n + 1) % 256
abbrev framesDropped (n : Nat) : Nat := 0x130600 + (n + 3) % 256
abbrev linkLosses (n : Nat) : Nat := 0x130600 + (n + 5) % 256
abbrev ptpDomainEnable (n : Nat) : Nat := 0x131000 + (n + 1) % 256
abbrev ptpDomainNumber (n : Nat) : Nat := 0x131000 + (n + 3) % 256
abbrev ptpTransport (n : Nat) : Nat := 0x131100 + (n + 1) % 256
abbrev delayMechanism (n : Nat) : Nat := 0x131100 + (n + 3) % 256
abbrev portDelayAsymmetry (n : Nat) : Nat := 0x131100 + (n + 5) % 256
abbrev ingressLatency (n : Nat) : Nat := 0x131100 + (n + 7) % 256
abbrev egressLatency (n : Nat) : Nat := 0x131100 + (n + 9) % 256
abbrev logPdelayInterval (n : Nat) : Nat := 0x131100 + (n + 11) % 256
abbrev timeDomainPreferred : Nat := 0x131201
abbrev domainRevertive : Nat := 0x131202
abbrev maxClockClass : Nat := 0x131203
abbrev lockThreshold : Nat := 0x131204
abbrev stepThreshold : Nat := 0x131205
abbrev syncLossTimeout : Nat := 0x131206
abbrev switchStepLimit : Nat := 0x131207
abbrev holdoverLimit : Nat := 0x131208
abbrev domainState (n : Nat) : Nat := 0x131300 + (n + 1) % 256
abbrev domainOffset (n : Nat) : Nat := 0x131300 + (n + 3) % 256
abbrev domainMeanPathDelay (n : Nat) : Nat := 0x131300 + (n + 5) % 256
abbrev domainGrandmaster (n : Nat) : Nat := 0x131300 + (n + 7) % 256
abbrev domainClockClass (n : Nat) : Nat := 0x131300 + (n + 9) % 256
abbrev domainPort (n : Nat) : Nat := 0x131300 + (n + 11) % 256
abbrev selectedDomain : Nat := 0x131401
abbrev timeState : Nat := 0x131402
abbrev localTime : Nat := 0x131403
abbrev domainSwitches : Nat := 0x131404
abbrev timeSteps : Nat := 0x131405
abbrev timeHoldoverEntries : Nat := 0x131406
abbrev ptpMessagesIgnored (n : Nat) : Nat := 0x131500 + (n + 1) % 256
abbrev faultLog : Nat := 0x140101
abbrev faultLogNv : Nat := 0x140102
abbrev faultLogClear : Nat := 0x140103
abbrev faultLogNvClear : Nat := 0x140104
abbrev faultLogOverwritten : Nat := 0x140105
abbrev bootCount : Nat := 0x140106
abbrev faultCount (n : Nat) : Nat := 0x140200 + (n + 1) % 256
abbrev faultRecordsSuppressed : Nat := 0x14020B
abbrev hangFreezeLimit : Nat := 0x140301
abbrev checkpointMargin : Nat := 0x140302
abbrev restartLimit : Nat := 0x140303
abbrev restartWindow : Nat := 0x140304
abbrev recoveryLimit : Nat := 0x140305
abbrev recoveryWindow : Nat := 0x140306
abbrev deviceRecover : Nat := 0x140401
abbrev recoveries : Nat := 0x140402
abbrev lastRecoveryTime : Nat := 0x140403
abbrev lastRecoveryCause : Nat := 0x140404
abbrev contextFaults (n : Nat) : Nat := 0x140500 + (n + 1) % 256
abbrev contextRestarts (n : Nat) : Nat := 0x140500 + (n + 17) % 256
abbrev fallbackGapOpen : Nat := 0x140601
abbrev fallbackOrigin : Nat := 0x140602
abbrev gapRecords : Nat := 0x140603
abbrev powerState : Nat := 0x031101
abbrev powerTarget : Nat := 0x031102
abbrev autoReady : Nat := 0x031103
abbrev autoReadyDelay : Nat := 0x031104
abbrev wakeSources : Nat := 0x031105
abbrev wakeInputMask : Nat := 0x031106
abbrev wakeTimer : Nat := 0x031107
abbrev lastWakeCause : Nat := 0x031108
abbrev dieTemperature (n : Nat) : Nat := 0x031200 + (n + 1) % 256
abbrev throttleTemperature : Nat := 0x031301
abbrev thermalHysteresis : Nat := 0x031302
abbrev throttleState : Nat := 0x031303
abbrev throttleEvents : Nat := 0x031304
abbrev logicInputVoltage : Nat := 0x031401
abbrev logicInputPower : Nat := 0x031402
abbrev cameraInputVoltage : Nat := 0x031403
abbrev fieldBankVoltage (n : Nat) : Nat := 0x031400 + (n + 4) % 256
abbrev ageingSlowdown (n : Nat) : Nat := 0x031500 + (n + 1) % 256
abbrev timingMargin (n : Nat) : Nat := 0x031600 + (n + 1) % 256
abbrev coreVoltage (n : Nat) : Nat := 0x031700 + (n + 1) % 256
abbrev coreVoltageTrim (n : Nat) : Nat := 0x031700 + (n + 3) % 256
abbrev voltageHeadroom : Nat := 0x031705
abbrev coreClock : Nat := 0x031801
abbrev minCoreClock : Nat := 0x031802
abbrev marginTarget : Nat := 0x031803
abbrev replanNow : Nat := 0x031804
abbrev replanPending : Nat := 0x031805
abbrev voltageSteps : Nat := 0x031806
abbrev clockSteps : Nat := 0x031807
abbrev counterControl : Nat := 0x150101
abbrev countersRunning : Nat := 0x150102
abbrev snapshotCount : Nat := 0x150103
abbrev snapshot : Nat := 0x150104
abbrev cycleCount (n : Nat) : Nat := 0x150200 + (n + 1) % 256
abbrev counterEvent (n : Nat) : Nat := 0x150300 + (n + 1) % 256
abbrev counterContextFilter (n : Nat) : Nat := 0x150400 + (n + 1) % 256
abbrev counterMasterFilter (n : Nat) : Nat := 0x150500 + (n + 1) % 256
abbrev counterAddressLow (n : Nat) : Nat := 0x150600 + (n + 1) % 256
abbrev counterAddressHigh (n : Nat) : Nat := 0x150700 + (n + 1) % 256
abbrev counterPreset (n : Nat) : Nat := 0x150800 + (n + 1) % 256
abbrev counterOverflowRecord (n : Nat) : Nat := 0x150900 + (n + 1) % 256
abbrev counterValue (n : Nat) : Nat := 0x150A00 + (n + 1) % 256
abbrev counterOverflows (n : Nat) : Nat := 0x150B00 + (n + 1) % 256
abbrev bandwidthWindow : Nat := 0x151001
abbrev bandwidthClear : Nat := 0x151002
abbrev portBytesIn (n : Nat) : Nat := 0x151100 + (n + 1) % 256
abbrev portBytesOut (n : Nat) : Nat := 0x151200 + (n + 1) % 256
abbrev portPeakIn (n : Nat) : Nat := 0x151300 + (n + 1) % 256
abbrev portPeakOut (n : Nat) : Nat := 0x151400 + (n + 1) % 256
abbrev sampleEnable : Nat := 0x152001
abbrev sampleInterval : Nat := 0x152002
abbrev sampleSeed : Nat := 0x152003
abbrev sampleUnitMask : Nat := 0x152004
abbrev sampleContextMask : Nat := 0x152005
abbrev samplesTaken : Nat := 0x152006
abbrev samplesDropped : Nat := 0x152007
abbrev sampleLog : Nat := 0x152008
abbrev sampleLogClear : Nat := 0x152009
abbrev bootState : Nat := 0x160101
abbrev bootStep : Nat := 0x160102
abbrev bootFailStep : Nat := 0x160103
abbrev resetCause : Nat := 0x160104
abbrev resetFaultCode : Nat := 0x160105
abbrev lastStartUpTime : Nat := 0x160106
abbrev blobSlotState (n : Nat) : Nat := 0x160200 + (n + 1) % 256
abbrev blobSlotStatus (n : Nat) : Nat := 0x160300 + (n + 1) % 256
abbrev blobSlotInfo (n : Nat) : Nat := 0x160400 + (n + 1) % 256
abbrev blobUploadSlot : Nat := 0x160501
abbrev blobUploadBegin : Nat := 0x160502
abbrev blobUploadOffset : Nat := 0x160503
abbrev blobUploadData : Nat := 0x160504
abbrev blobUploadEnd : Nat := 0x160505
abbrev blobSlotClear : Nat := 0x160506
abbrev vendorKeyCount : Nat := 0x160601
abbrev acceptedKeys : Nat := 0x160602
abbrev planVersionMin : Nat := 0x160603
abbrev attestationCertificate : Nat := 0x160701
abbrev deviceKeyId : Nat := 0x160702
abbrev attestNonce : Nat := 0x160703
abbrev attestRequest : Nat := 0x160704
abbrev attestReport : Nat := 0x160705
abbrev reportCounter : Nat := 0x160706
abbrev selfTestFailures : Nat := 0x160801
abbrev selfTestLog : Nat := 0x160802
abbrev statisticsClear : Nat := 0x170101
abbrev clearGeneration : Nat := 0x170102
abbrev lastClearRange : Nat := 0x170103
abbrev lastClearPosition : Nat := 0x170104
abbrev lastClearTime : Nat := 0x170105
abbrev logFullInterval : Nat := 0x170201
abbrev logOverwrites (n : Nat) : Nat := 0x170300 + (n + 1) % 256

end Sys2Proof.Machine.K
end

