-- ==== Sys2Proof/Machine/StateField.lean ====
section
/-! DEFINITION. The state of the field inputs, direct outputs, the alive output, the valve links and the encoder
channels: spec/13. -/

namespace Sys2Proof.Machine

/-- One field input (R280, R281). -/
structure Input where
  raw : Bool := false                 -- level at the terminal
  rawSince : Nat := 0                 -- tick at which the terminal took it
  level : Bool := false               -- level as read
  lastRec : Option Nat := none        -- tick of the latest input-edge record
  cand : Option Nat := none           -- FILTERED: tick of the raw edge that the filter is confirming
  candIbp : Nat := 0                  -- emitted IBP at that tick
  candFc : List Nat := []             -- the four fast counts at that tick
  read : Option Nat := none           -- PULSED: tick of the latest reading
  deriving DecidableEq, Repr

/-- One fast counter's inputs as counted (R282): the last levels held for two ticks. -/
structure FastIn where
  a : Bool := false
  b : Bool := false
  deriving DecidableEq, Repr

/-- One direct output (R285, R286). -/
structure DirOut where
  cmd : Bool := false                 -- commanded on by its owner
  cmdTick : Nat := 0                  -- tick of the latest command
  driven : Bool := false              -- the switch is on
  readback : Bool := false            -- readback level at the terminal
  rbSince : Nat := 0
  overload : Bool := false            -- latched OVERLOAD
  external : Bool := false            -- EXTERNAL_VOLTAGE
  openLoad : Bool := false            -- OPEN_LOAD
  testFrom : Nat := 0                 -- tick at which OpenLoadDetect last took effect
  checked : Bool := true              -- the 10 µs readback check of the latest command to on was made
  rest : Bool := false                -- rests in its idle state until the next tick (R65, R285)
  deriving DecidableEq, Repr

/-- The alive output (R287). -/
structure Alive where
  running : Bool := false
  level : Bool := false
  edge : Nat := 0                     -- tick of its latest edge
  causes : List Nat := []             -- stop causes that hold, rising
  deriving DecidableEq, Repr

/-- States of a valve-link port (R296). -/
inductive VlSt | down | ident | measuring | ready | arming | active | lost | failed | test
  deriving DecidableEq, Repr

/-- The code that ValveLinkState reads (R296). -/
def VlSt.code : VlSt → Nat
  | .down => 0
  | .ident => 1
  | .measuring => 2
  | .ready => 3
  | .arming => 4
  | .active => 5
  | .lost => 6
  | .failed => 7
  | .test => 8

/-- An armed tag (R293, R295): the edge set it stands for, and when it was strobed. -/
structure Tag where
  tag : Nat
  edge : Nat                          -- 1 open, 2 close
  pos : Int                           -- base of the edge position (F or F + Λ), 1/65,536 bc
  vtype : Nat := 0                    -- valve type, which with the base fixes the compare position
  moved : Bool := false               -- an edge moved by R268, late, or timed
  valves : List Nat
  strobed : Option Nat := none        -- t_s of its strobe, in ns
  deriving DecidableEq, Repr

/-- A control frame sent and not acknowledged (R294). -/
structure CtlFrame where
  seq : Nat
  typ : Nat
  payload : List Byte
  sent : Nat
  deriving DecidableEq, Repr

/-- A strobe waiting for the transmitter (R289, R292): priority, tag and compare tick. -/
structure StrobeReq where
  prio : Nat
  tag : Nat
  tc : Nat
  deriving DecidableEq, Repr

/-- One valve-link port. -/
structure VLink where
  st : VlSt := .down
  lock : Bool := false
  since : Nat := 0                    -- tick of entry into the present state
  ident : List Byte := []
  latency : Nat := 0                  -- L_d
  valves : Nat := 0
  capacity : Nat := 0
  kaSeq : Nat := 0                    -- Seq of the next KEEPALIVE
  kaSent : Nat := 0                   -- tick of the latest KEEPALIVE
  lastStatus : Nat := 0               -- tick of the latest valid STATUS
  echoes : List Nat := []             -- round trips of the exchanges so far, ns
  echoSent : Option Nat := none       -- tick of the ECHO that is out
  rtt : Option Nat := none            -- a round trip that waits for its EchoTurnaround
  cableDelay : Nat := 0
  lastMeasure : Nat := 0
  ctlSeq : Nat := 0                   -- Seq of the next control frame
  ackSeq : Option Nat := none
  unacked : List CtlFrame := []
  nextTag : Nat := 0
  tags : List Tag := []
  strobes : List StrobeReq := []
  testSeq : Nat := 0
  testOut : List Byte := []           -- payload of the latest TEST frame
  prbs : Nat := 0x7FFFFFFF            -- PRBS-31 register
  deriving DecidableEq, Repr

/-- One encoder channel (R301 to R305). -/
structure EncChan where
  supplyTripped : Bool := false
  lowRuns : Nat := 0                  -- samples in a row with DAT low before the latch (R303)
  wPrev : Option Nat := none          -- auxiliary unwrapping
  win : List (Nat × Int) := []        -- auxiliary samples (tick, position), newest first
  lastAux : Nat := 0                  -- tick of the latest auxiliary sample
  deriving DecidableEq, Repr

/-- The field units. -/
structure Field where
  inputs : SMap Input := []
  fast : SMap FastIn := []
  outs : SMap DirOut := []
  alive : Alive := {}
  vl : SMap VLink := []
  enc : SMap EncChan := []
  deriving DecidableEq, Repr

end Sys2Proof.Machine
end

