-- ==== Sys2Proof/Machine/StateKnots.lean ====
section
/-! DEFINITION. The state of the knot store, the fences, the tether ports and the tether group: spec/15. -/

namespace Sys2Proof.Machine

/-- A knot word (R335). The Waiters bit is the waiter table's and is not kept twice. -/
structure Knot where
  count : Int := 0
  frozen : Bool := false
  overflow : Bool := false
  underflow : Bool := false
  gen : Nat := 0
  deriving DecidableEq, Repr

/-- Who issued a knot operation (R337, R346). -/
inductive Issuer
  | ring (ring index : Nat)           -- a command ring and its entry index
  | step (ctx step : Nat)             -- a background plan's step
  | plan (ctx die : Nat)              -- a real-time plan
  | remote (member ctx tag : Nat)     -- a remote member's context
  deriving DecidableEq, Repr

/-- A waiter of the waiter table (R340). -/
structure Waiter where
  knot : Nat
  issuer : Issuer
  ctx : Nat                           -- the issuer's context
  n : Nat
  subtract : Bool
  since : Nat                         -- tick at which it queued
  timeout : Nat                       -- µs; 0 waits without limit
  deriving DecidableEq, Repr

/-- An action of a KNOTS section (R343). -/
structure KnotAct where
  cycle : Nat
  step : Nat
  kind : Nat                          -- 1 ADD, 2 SUB, 3 WAIT_BEFORE_STEP, 4 ADD_AFTER_STEP
  flags : Nat                         -- bit 0 FENCE, bit 1 REMOTE, bit 2 SUBTRACT
  knot : Nat
  member : Nat
  die : Nat
  value : Nat
  deriving DecidableEq, Repr

/-- A plan's knot action held by its fence on its die until cycle `due` (R344). -/
structure HeldAction where
  ctx : Nat
  due : Nat
  act : KnotAct
  deriving DecidableEq, Repr

/-- A remote knot operation held at this member by its FENCED bit, or a request sent and not answered (R354, R357). -/
structure TReq where
  tag : Nat
  member : Nat
  issuer : Issuer
  ctx : Nat
  typ : Nat                           -- packet type sent
  knot : Nat := 0                     -- the knot and the value of a knot command
  value : Nat := 0
  deriving DecidableEq, Repr

/-- States of a tether port (0x0D04). -/
inductive TPortSt | down | training | up | test | failed
  deriving DecidableEq, Repr

/-- The code that TetherPortState reads. -/
def TPortSt.code : TPortSt → Nat
  | .down => 0
  | .training => 1
  | .up => 2
  | .test => 3
  | .failed => 4

/-- A tether packet sent and not acknowledged (R349). -/
structure TSent where
  seq : Nat
  typ : Nat
  dest : Nat
  body : List Byte
  sent : Nat
  sends : Nat := 1
  deriving DecidableEq, Repr

/-- One tether port. -/
structure TPort where
  st : TPortSt := .down
  since : Nat := 0                    -- tick at which training began
  txSeq : Nat := 0                    -- Seq of the next packet sent
  rxSeq : Nat := 0                    -- Seq of the next packet accepted
  window : List TSent := []           -- sent and not acknowledged, oldest first
  lastTx : Nat := 0                   -- tick of the latest packet sent
  prbs : Nat := 0x7FFFFFFF
  deriving DecidableEq, Repr

/-- States of the group (0x0D03). -/
inductive GroupSt | none | forming | formed | degraded | failed
  deriving DecidableEq, Repr

/-- The code that GroupState reads. -/
def GroupSt.code : GroupSt → Nat
  | .none => 0
  | .forming => 1
  | .formed => 2
  | .degraded => 3
  | .failed => 4

/-- The tether group as this member sees it (R351 to R356). -/
structure Group where
  st : GroupSt := .none
  cause : Nat := 0
  ctx : Nat := 0                      -- context of the group plan
  since : Nat := 0                    -- tick at which formation began or failed
  helloSent : SMap Nat := []          -- per member, 1 + tick of the HELLO that is out
  agreed : List Nat := []             -- members whose HELLO agreed, rising
  bcSent : Bool := false              -- member 0 sent its bc, or this member applied it
  lastHeard : SMap Nat := []          -- per member, tick of the latest packet from it
  lost : List Nat := []               -- members declared lost, rising
  lastMeasure : Nat := 0
  deriving DecidableEq, Repr

/-- The knot store, the fences and the tethers. -/
structure Knots where
  words : SMap Knot := []
  waiters : List Waiter := []         -- in arrival order (R340)
  held : List HeldAction := []        -- in issue order (R344)
  ports : SMap TPort := []
  group : Group := {}
  requests : List TReq := []          -- sent to other members and not answered
  nextTag : Nat := 0
  operands : List (Nat × Nat × List Byte) := []  -- operands of the running period: member, Argument and payload (R240)
  inbox : SMap Byte := []             -- bytes that WRITE packets placed, by destination offset (R348)
  deriving DecidableEq, Repr

end Sys2Proof.Machine
end

