-- ==== Sys2Proof/Machine/StateMemory.lean ====
section
/-! DEFINITION. The state of the memory-side dies and their links: spec/14. Links are numbered by their link code
(R310): die × 16 + link. -/

namespace Sys2Proof.Machine

/-- States of a memory link (0x0B02). -/
inductive MLinkSt | down | training | up | recal | failed
  deriving DecidableEq, Repr

/-- The code that LinkStates holds for a link (R333). -/
def MLinkSt.code : MLinkSt → Nat
  | .down => 0
  | .training => 1
  | .up => 2
  | .recal => 3
  | .failed => 4

/-- A read whose data frames are due, as the compute die keeps it (R315, R319). -/
structure MReq where
  addr : Nat                          -- die offset of the next frame's data
  count : Nat                         -- frames still due
  dest : Nat := 0                     -- on-chip byte offset of the next frame's data
  kind : Nat := 0                     -- 1 READ_IMAGE, 2 READ_SCRATCH, 0 external
  ctx : Nat := 16                     -- context; 16 DEVICE work
  pos : Option Nat := none            -- position of the stripe whose transfer it is
  deriving DecidableEq, Repr

/-- A downstream frame as sent, among the 16 that the compute die keeps (R321). -/
structure MSent where
  seq : Nat
  op : Nat                            -- R315 opcode
  addr : Nat
  count : Nat
  data : List Byte                    -- its payload
  deriving DecidableEq, Repr

/-- One memory link, at both its ends. -/
structure MLink where
  st : MLinkSt := .up
  downSeq : Nat := 0                  -- Seq of the next downstream frame
  upSeq : Nat := 0                    -- Seq of the next upstream frame expected
  dieDown : Nat := 0                  -- Seq of the next downstream frame that the memory die expects
  dieUp : Nat := 0                    -- Seq of the next upstream frame that the memory die sends
  upFails : Nat := 0                  -- failures in a row of the same upstream frame
  downFails : Nat := 0                -- failures in a row of the same downstream frame
  nakSeq : Nat := 0                   -- Seq of the downstream frame that failed last
  nak : Option Nat := none            -- NakSeq that the memory die sends in its next trailer
  lag : Nat := 0                      -- slots (R322)
  reads : List MReq := []             -- reads whose data frames are due, oldest first
  queue : List (Nat × List Byte) := []  -- data frames in the memory die, with the frame times each waits
  sending : List (List Byte) := []    -- payloads of writes that wait in the compute die, oldest first (R319)
  writes : List (Nat × Nat) := []     -- writes in the memory die whose data are due: next die offset, frames due (R319)
  upKept : List (Nat × List Byte) := [] -- the latest 16 upstream frames, as the memory die keeps them
  downKept : List MSent := []         -- the latest 16 downstream frames, as the compute die keeps them
  lastSlot : Nat := 0                 -- 1 + the cycle of the latest plan slot that started
  lastRecal : Nat := 0                -- CCLK cycle of the latest recalibration
  recalAt : Option Nat := none        -- tick at which it began
  overdue : Bool := false             -- RecalOverdue was counted for this interval
  fails : Nat := 0                    -- failed trainings in a row (R330)
  deriving DecidableEq, Repr

/-- The memory system. A byte address is die × 2^33 + die offset; an unlisted byte is zero, as training writes it (R323). -/
structure Memory where
  cells : SMap Byte := []
  bad : SMap Nat := []                -- uncorrectable codewords, by die × 2^28 + index (R324)
  poison : SMap Nat := []             -- poisoned on-chip bytes: kind × 2^27 + offset (R324)
  links : SMap MLink := []            -- by link code
  refresh : SMap Nat := []            -- per die, the next 32 KiB of the rotation (R320)
  scrub : SMap Nat := []              -- per die, the next 512 bytes
  slotBase : Nat := 0                 -- CCLK cycle at which k counts from 0 (R318)
  newGrid : Bool := false             -- the links were trained, and the slot grid starts at k = 0 with the next slot 0 (R329)
  young : List (Nat × Nat × Byte) := []  -- bytes written lately: cell, tick, and the byte before, oldest first (R313)
  log : List (List Byte) := []        -- UncorrectableLog entries, newest last
  scratch : SMap (Nat × Nat) := []    -- per context, base and bytes of its scratch on every die (R312); 16 the outgoing plan's
  deriving DecidableEq, Repr

end Sys2Proof.Machine
end

