-- ==== Sys2Proof/Machine/StatePlan.lean ====
section
/-! DEFINITION. Plan images as the device reads them, plan slots, contexts, periods, and the state of the array engine:
spec/06 to 10. -/

namespace Sys2Proof.Machine

/-- A tensor record (R218). -/
structure Tensor where
  num : Nat := 0
  die : Nat := 0
  layout : Nat := 0
  rows : Nat := 0
  width : Nat := 0
  chans : Nat := 0
  flags : Nat := 0
  off : Nat := 0
  len : Nat := 0
  scale : Nat := 0
  resv : Bool := false                -- a reserved field or bit is non-zero
  deriving DecidableEq, Repr

/-- A layer descriptor (R220). -/
structure Layer where
  num : Nat := 0
  op : Nat := 0
  mode : Nat := 0
  flags : Nat := 0
  group : Nat := 0
  xform : Nat := 0
  inT : Nat := 0
  outT : Nat := 0
  second : Nat := 0xFFFF
  act : Nat := 0
  elemOp : Nat := 0
  comb : List Nat := []
  clipLimit : Nat := 0
  actA : Nat := 0
  actB : Nat := 0
  redLen : Nat := 0
  outCh : Nat := 0
  groupK : Nat := 0
  passes : Nat := 0
  eps : Nat := 0
  rowLen : Nat := 0
  rerunSlot : Nat := 0xFFFF
  wOff : Nat := 0
  rwOff : Nat := 0
  scale : Nat := 0
  params : Nat := 0
  passMap : Nat := 0
  dieMask : Nat := 0
  window : List Byte := []            -- the 40 bytes of R176
  resv : Bool := false
  deriving DecidableEq, Repr

/-- A kernel descriptor (R221). -/
structure Kernel where
  start : Nat := 0
  cycles : Nat := 0
  layer : Nat := 0
  die : Nat := 0
  unit : Nat := 0
  firstTile : Nat := 0
  tiles : Nat := 0
  outGroup : Nat := 0
  batch : Nat := 0
  flags : Nat := 0
  step : Nat := 0
  mem : Nat := 0
  resv : Bool := false
  deriving DecidableEq, Repr

/-- A slot entry (R222). -/
structure PSlot where
  start : Nat := 0
  len : Nat := 0
  kind : Nat := 0
  dieMask : Nat := 0
  ctxMask : Nat := 0
  layer : Nat := 0xFFFF
  resv : Bool := false
  deriving DecidableEq, Repr

/-- A section of the directory (R216). -/
structure Section where
  typ : Nat := 0
  count : Nat := 0
  off : Nat := 0
  resv : Bool := false
  deriving DecidableEq, Repr

/-- A plan image as read from its slot (R215 to R222). -/
structure Plan where
  slot : Nat := 0
  magic : Nat := 0
  format : Nat := 0
  headerLen : Nat := 0
  length : Nat := 0
  version : Nat := 0
  detKey : Nat := 0
  cls : Nat := 0                      -- 0 REALTIME, 1 BACKGROUND
  crossing : Nat := 0
  modules : Nat := 1
  member : Nat := 0
  stripeLines : Nat := 0              -- S
  batch : Nat := 0                    -- B
  flush : Nat := 0
  periodCycles : Nat := 0
  retryReserve : Nat := 0
  decisionCycle : Nat := 0
  lagLines : Nat := 0
  deadline : Nat := 0
  sectionCount : Nat := 0
  activeCycles : Nat := 0
  groupId : Nat := 0
  quads : List Nat := []              -- 24 bytes of QuadArrays
  resv : Bool := false                -- a reserved field of the header is non-zero
  sections : List Section := []
  layers : List Layer := []
  kernels : List Kernel := []
  slots : List PSlot := []
  tensors : List Tensor := []
  buffers : List (Nat × Nat) := []    -- stripe buffers: die and base (R219)
  bufResv : Bool := false
  deriving DecidableEq, Repr

/-- The stripe buffer that a stripe takes: its die and base (R219). A stripe number counts within its numbering. -/
def Plan.buffer (p : Plan) (j : Nat) : Nat × Nat := p.buffers.getD (j % 2 ^ 48 % p.buffers.length) (0, 0)

/-- The first stripe of the period that a stripe belongs to (R228). -/
def Plan.periodFirst (p : Plan) (j : Nat) : Nat := j - j % 2 ^ 48 % max 1 p.batch

/-- Whether a stripe is the last one of its period (R228). -/
def Plan.periodLast (p : Plan) (j : Nat) : Bool := (j % 2 ^ 48 + 1) % p.batch == 0

/-- A plan slot (R214). Its bytes lie in the slot's own memory (`Engine.slotMem`). -/
structure PlanSlot where
  st : Nat := 0                       -- 0 EMPTY, 1 UPLOADING, 2 LOADED (IN_USE is computed)
  length : Nat := 0
  base : Nat := 0                     -- die offset at which it lies on every die (R311)
  data : List Byte := []              -- its bytes from offset 0
  spans : List (Nat × Nat) := []      -- what an upload has written, as disjoint ranges from rising offsets, (first, past)
  deriving DecidableEq, Repr

/-- States of a context (R236). -/
inductive CtxSt | empty | idle | ready | running | stopped | gloved
  deriving DecidableEq, Repr

/-- The code that ContextState reads (R236). -/
def CtxSt.code : CtxSt → Nat
  | .empty => 0
  | .idle => 1
  | .ready => 2
  | .running => 3
  | .stopped => 4
  | .gloved => 5

/-- A job of a background context (R377). -/
structure Job where
  ring : Nat
  index : Nat                         -- ring entry index
  tag : Nat
  steps : Nat := 0                    -- steps run
  cycles : Nat := 0                   -- OPEN cycles used
  poisoned : Bool := false            -- its data is poisoned; it ends with DISCARDED (R324)
  deriving DecidableEq, Repr

/-- A step in progress on a die (R221, R237). -/
structure StepRun where
  step : Nat
  die : Nat := 0
  start : Nat                         -- die cycle at which it started
  ran : List Nat := []                -- its kernels that have started
  deriving DecidableEq, Repr

/-- A context. -/
structure Context where
  st : CtxSt := .empty
  plan : Option Plan := none
  jobs : List Job := []               -- accepted and not finished, oldest first
  nextStep : Nat := 0                 -- the next step of the running job
  run : Option StepRun := none
  deriving DecidableEq, Repr

/-- A real-time period in progress (R228, R229). -/
structure Period where
  k : Nat                             -- period number
  first : Nat                         -- its first stripe
  upto : Nat := 0                     -- the stripe after its last one with an image
  start : Nat                         -- CCLK cycle of its start
  due : Nat                           -- CCLK cycle at which it was due
  frozen : SMap Nat := []             -- frozen cycles so far, by die
  slot : SMap Nat := []               -- per die, 1 + the index of the slot running
  empty : Bool := false               -- an empty period (R231)
  flush : Bool := false               -- a flush period (R232)
  late : Bool := false                -- it started after its due instant
  ran : List Nat := []                -- its kernels that have started
  done : List Nat := []               -- its kernels that have ended
  old : Bool := false                 -- it belongs to the outgoing plan (R233)
  acted : List Nat := []              -- its knot actions that were issued (R344)
  deriving DecidableEq, Repr

/-- A flush in progress (R232). -/
structure FlushRun where
  left : Nat                          -- flush stripes still to run
  stripe : Nat                        -- the next flush stripe
  lines : Nat                         -- real lines since the stream start (R185)
  resume : Nat                        -- the first stripe after the flush stripes
  deriving DecidableEq, Repr

/-- The state of an array (R141, R147, R148). -/
inductive ArraySt | ok | suspect | retired | factory
  deriving DecidableEq, Repr

/-- A number that stands for the stripe of a background context's work in marks and aborts: no stripe has it. -/
def jobStripe (c : Nat) : Nat := 2 ^ 200 + c

/-- An accumulator entry (R129, R130): its 32-bit value, in BF16 split mode a binary32 pattern, and whether it saturated. -/
structure Sum where
  value : Int
  sat : Bool := false
  deriving DecidableEq, Repr

/-- The cells and the drain of one array (R124, R126): the two activation planes, column by column, and the two halves of
the accumulator file, channel by channel. -/
structure ArrayUnit where
  active : List (List Nat) := []      -- the operands of the pass that computes
  shadow : List (List Nat) := []      -- the plane that the load path writes
  half : Nat := 0                     -- the half that the next group accumulates into
  acc0 : List (List Sum) := []
  acc1 : List (List Sum) := []
  deriving DecidableEq, Repr

/-- One element position that the other die sent into a die's halo region (R191). -/
structure HaloElem where
  die : Nat                           -- the receiving die
  plan : Nat                          -- plan slot
  tensor : Nat
  layout : Nat
  stripe : Nat
  row : Nat                           -- row and column of the whole tensor
  col : Nat
  vals : List Nat                     -- one value per channel
  deriving DecidableEq, Repr

/-- The two compute dies: arrays, stores, freezes, and the plan controller. -/
structure Engine where
  arrays : SMap ArraySt := []         -- by die × 64 + array number
  subst : SMap Nat := []              -- per spare (die × 2 + spare), 1 + the array number it serves (R143)
  pendRetire : List (Nat × Nat) := [] -- retirements waiting for a stripe boundary: array code and cause (R143)
  pendRestore : List Nat := []        -- restores waiting for a stripe boundary
  units : SMap ArrayUnit := []        -- planes and accumulators, by die × 64 + the physical array (R124)
  lastMac : SMap Nat := []            -- per array, the cycle after its latest compute cycle (R138)
  misses : SMap (List Nat) := []      -- per array, stripes with mismatches, newest first (R141)
  retest : Option (Nat × Nat) := none -- an ArrayRetest in progress: array and the tick of its start (R150)
  passed : List Nat := []             -- arrays whose latest retest passed (R150)
  act : SMap Byte := []               -- activation stores, byte offset + die × 2^26 (R133)
  reel : SMap Byte := []              -- reels, by die × 2^24
  scales : SMap (List Nat) := []      -- scale stores: a plan's records, by die × 32 + context; 16 the outgoing plan (R132, R160)
  halo : List HaloElem := []          -- halo regions of the line buffers (R191)
  parity : SMap Nat := []             -- rows of carry regions that hold a parity error: 1 + the bank (R192)
  partSat : List Nat := []            -- partial sums whose group saturated, by address in the store (R201)
  lineBuf : SMap (List Nat) := []     -- carried rows of windowed layers, by plan slot, die, layer, element size and row (R190)
  frozen : SMap Nat := []             -- per die, 1 + the CCLK cycle its freeze began (R135, R136)
  frozenCtx : SMap Nat := []          -- per die, the context a freeze is charged to (R409)
  starving : SMap (Nat × Nat) := []   -- per die, the context and the kernel that wait for bytes (R135)
  aborted : List (Nat × Nat × Nat) := []  -- (die, layer, stripe) aborted (R140, R164)
  stickySat : List (Nat × Nat × Nat) := []
  clip : SMap (Nat × Nat) := []       -- clipped and written elements, by die, stripe of the period and tensor (R170)
  rerun : List (Nat × Nat) := []      -- (layer, stripe) decided to be re-run (R171)
  masked : List Nat := []             -- stripes whose input is marked discarded (R192, R230)
  marks : List (Nat × Nat × Nat × Nat) := []  -- marked rows: die, tensor, stripe and row of the stripe (R164, R192, R252)
  skewed : List (Nat × Nat × Nat) := []  -- (die, layer, stripe) with a scale skew (R164)
  active : SMap Nat := []             -- array compute cycles of the period, by die (R150)
  lanes : SMap (Nat × Nat) := []      -- least and most busy lane-cycles of the period, by die (R213)
  start : Nat := 0                    -- first stripe since the stream start of the stripes being computed (R184)
  slots : SMap PlanSlot := []
  upload : Option Nat := none         -- slot being uploaded
  ctxs : SMap Context := []
  old : Option Plan := none           -- the outgoing real-time plan while its stripes run (R233)
  oldLast : Nat := 0                  -- first stripe of the incoming plan
  period : Option Period := none
  nextPeriod : Nat := 0               -- first stripe of the next period
  lastEnd : Nat := 0                  -- cycle at which the latest period ended; 0 before the first
  minSlack : Option Int := none       -- least slack from a period's end to the next due instant, since the last commit
  unbound : Bool := false             -- after a teardown of context 0, until its first period (R414)
  flush : Option FlushRun := none
  flushAction : Bool := false
  openTo : SMap Nat := []             -- per die, 1 + the context that holds the running OPEN slot (R237)
  openEnd : SMap Nat := []            -- per die, cycle at which that slot ends
  heldBufs : List (Nat × Nat) := []   -- stripe buffers held: (die and base as in act, stripe) (R219)
  cclk : Nat := 800                   -- MHz in force
  deriving DecidableEq, Repr

end Sys2Proof.Machine
end

