-- ==== Sys2Proof/Machine/StateSort.lean ====
section
/-! DEFINITION. The state of the track unit and of the ejection unit: spec/11 and 12. -/

namespace Sys2Proof.Machine

/-! ### Tracks (spec/11) -/

/-- States of a track table entry (R245). -/
inductive TrackSt | free | opened | closed | listed
  deriving DecidableEq, Repr

/-- The code of a track's state (R245). -/
def TrackSt.code : TrackSt → Nat
  | .free => 0
  | .opened => 1
  | .closed => 2
  | .listed => 3

/-- A run: the first and the last column of a maximal sequence of foreground positions (R242). -/
abbrev Run := Nat × Nat

/-- A track table entry (R245), with its connection set (R243). -/
structure Track where
  st : TrackSt := .free
  flags : Nat := 0
  gap : Nat := 0
  wait : Nat := 0
  rows : Nat := 0
  subst : Nat := 0
  leading : Nat := 0
  trailing : Nat := 0
  area : Nat := 0
  colMin : Nat := 0
  colMax : Nat := 0
  serial : Nat := 0
  merged : Nat := 0
  conn : List Run := []               -- runs of its last row with a run
  now : List Run := []                -- its runs of the row in progress
  after : Nat := 0                    -- position of the row after its last row with a run
  fresh : Bool := false               -- closed in the step in progress (R246, step 3; log entry 35)
  deriving DecidableEq, Repr

/-- An untracked region (R250). -/
structure Region where
  conn : List Run
  now : List Run := []                -- its runs of the row in progress
  colMin : Nat
  colMax : Nat
  covered : Nat                       -- end of the span its records cover
  order : Nat                         -- order of its refused join
  deriving DecidableEq, Repr

/-- A decision record on its way to the ejection unit (R258, R259). -/
structure Decision where
  pos : Nat
  flags : Nat
  payload : Nat
  time : Nat
  deriving DecidableEq, Repr

/-- The track unit. -/
structure Tracks where
  table : SMap Track := []            -- by TrackId
  sums : SMap (List Nat) := []        -- feature sums, binary32, by TrackId (R247)
  regions : List Region := []
  nextOrder : Nat := 0
  heldRecs : List Rec := []           -- direct records held over (R259), oldest first
  overs : List (Nat × List Run) := [] -- tracks closed by overlength: position of the row they still connect to, and their runs (R248)
  list : List (Option Nat) := []      -- the work list: TrackIds, none for EMPTY (R253)
  markedFrom : Option Nat := none     -- position of the first row of a run of marked rows (R252)
  cutNext : Bool := false             -- runs joining in the next step are cut by a plan change (R255)
  crossing : List Rec := []           -- decision records written and not yet taken up, oldest first (R259, R267)
  originMsg : List Nat := []          -- FallbackOrigin values sent after steps, oldest first (R416)
  deriving DecidableEq, Repr

/-! ### Ejection (spec/12) -/

/-- A pulse of an ejector channel (R265). Positions are in 1/65,536 bc and may lie below 0. -/
structure Pulse where
  openPos : Int                       -- F
  closePos : Int                      -- F + Λ
  on : Bool := false                  -- it has switched the channel on
  onTick : Nat := 0                   -- tick of the open output edge
  deferred : Option Nat := none       -- tick at which a deferred close is commanded (R268)
  split : Option Nat := none          -- switched off for MaxOnTime: tick at which it may switch on again
  driven : Bool := true               -- its open edge was driven (R274)
  deriving DecidableEq, Repr

/-- A test pulse (R276). -/
structure TestPulse where
  channel : Nat
  start : Nat
  length : Nat                        -- ticks
  deriving DecidableEq, Repr

/-- A driven edge that R272 measures: its channel and level, the base of its position (F or F + Λ) where it was driven
at a compare, the reference instant and the stamp once each is known, in ns. -/
structure EdgeRef where
  channel : Nat
  level : Bool
  base : Int
  ref : Option Nat := none
  stamp : Option Nat := none
  deriving DecidableEq, Repr

/-- The ejection unit. -/
structure Eject where
  pulses : SMap (List Pulse) := []    -- per channel, in ascending position
  chanOn : List Nat := []             -- channels switched on, rising
  test : Option TestPulse := none
  refs : List EdgeRef := []
  deriving DecidableEq, Repr

end Sys2Proof.Machine
end

