-- ==== Sys2Proof/Machine/StateSystem.lean ====
section
/-! DEFINITION. The state of power and ageing, of the performance counters, and of start-up, the blob store and
attestation: spec/19, 20 and 21. -/

namespace Sys2Proof.Machine

/-! ### Power (spec/19) -/

/-- Power states (R427), from the highest to the lowest. -/
inductive PowerSt | run | ready | doze | retain | standby
  deriving DecidableEq, Repr

/-- The code that PowerState reads (R427). -/
def PowerSt.code : PowerSt → Nat
  | .run => 0
  | .ready => 1
  | .doze => 2
  | .retain => 3
  | .standby => 4

/-- A transition in progress (R428 to R432). -/
structure Transition where
  target : PowerSt
  cause : Nat                         -- 1 command, 2 AutoReady, 3 wake source, 4 fault
  start : Nat
  deriving DecidableEq, Repr

/-- A CCLK step in progress (R438). -/
structure ClockStep where
  start : Nat
  die : Nat
  mhz : Nat
  deriving DecidableEq, Repr

/-- The power controller. -/
structure Power where
  st : PowerSt := .run
  trans : Option Transition := none
  entered : Nat := 0                  -- tick at which the present state was entered
  readySince : Option Nat := none     -- tick since which the READY conditions hold (R429)
  throttleTemp : Bool := false
  throttlePower : Bool := false
  overSince : Option Nat := none      -- tick since which LogicInputPower stands above the ceiling (R434)
  replanNow : Bool := false           -- ReplanNow was written (R437)
  clock : Option ClockStep := none
  heldBells : List (Nat × Nat × Nat) := []  -- doorbells held until RUN (R428): port, ring, tail
  deriving DecidableEq, Repr

/-! ### Counters (spec/20) -/

/-- A programmable counter (R442, R449). -/
structure Counter where
  value : Nat := 0
  overCount : Nat := 0
  lastRec : Option Nat := none        -- tick of its latest record
  deriving DecidableEq, Repr

/-- A tagged kernel in flight on a die (R451, R452). -/
structure TagRun where
  layer : Nat
  unit : Nat
  ctx : Nat
  planned : Nat
  actual : Nat
  toRow : Nat
  toWrite : Nat
  frozen : Nat := 0                   -- frozen cycles on the die since its start
  kernel : Nat
  maxLag : Nat := 0
  flags : Nat := 0
  pos : Nat := 0
  deriving DecidableEq, Repr

/-- The counter banks, the bandwidth windows and the kernel samples. -/
structure Perf where
  counters : SMap Counter := []       -- by bank × 8 + counter
  running : Bool := false
  before : Option (Nat × SMap Counter) := none  -- tick of the latest commit and the counters before it (R446)
  action : List (Nat × Nat) := []     -- CMD entries whose action is on its way to the units, with the tick it was issued (R446, R477)
  bytesIn : SMap Nat := []            -- bytes of the present window, by port code
  bytesOut : SMap Nat := []
  lfsr : SMap Nat := []               -- by die
  tags : SMap TagRun := []            -- by die
  log : List (List Byte) := []        -- SampleLog, newest last
  deriving DecidableEq, Repr

/-! ### Start-up, blobs and attestation (spec/21) -/

/-- A blob slot (R462 to R464). -/
structure BlobSlot where
  st : Nat := 0                       -- 0 EMPTY, 1 LOADED, 2 REJECTED, 3 STORED
  status : Nat := 0
  data : List Byte := []              -- the copy that is current
  loaded : List Byte := []            -- the blob that runs
  deriving DecidableEq, Repr

/-- A blob upload (R464). -/
structure BlobUpload where
  slot : Nat
  length : Nat
  data : List Byte := []
  spans : List (Nat × Nat) := []
  deriving DecidableEq, Repr

/-- A public key and its KeyId (R460, R461). -/
structure PubKey where
  id : List Byte
  key : List Byte
  source : Nat := 0                   -- 0 ROM, or the blob slot + 1
  use : Nat := 1
  minVersion : Nat := 0
  deriving DecidableEq, Repr

/-- What manufacture wrote into the write-once array and the ROM (R459, R461), with what the module keeps across every
start-up (R464). The values of the array's readable items stand here; the device private key is not held. -/
structure Mfg where
  part : Part := .brl7162
  regs : SMap Nat := []               -- fixed-size items of the array by the entry they read as
  blobs : SMap (List Byte) := []      -- BLOB and STR items of the array by the entry they read as
  vendorKeys : List PubKey := []
  trims : SMap Nat := []              -- port latencies by 4 p + 2 (send) + rate − 1, where they are not alike (R397)
  deviceKeyId : List Byte := []       -- KeyId of the derived public key (R467)
  deviceSeed : List Byte := []        -- the identity seed; never readable
  arrayOk : Bool := true              -- the check digest matches (R459)
  deriving DecidableEq, Repr

/-- Start-up, the blob store and attestation. -/
structure Boot where
  step : Nat := 9                     -- step of R457
  stepAt : Nat := 0
  startAt : Nat := 0                  -- tick of the start of step 2
  ready : Bool := true
  halted : Bool := false
  slots : SMap BlobSlot := []
  upload : Option BlobUpload := none
  keys : List PubKey := []            -- plan keys of loaded KEYS blobs
  attest : Option (List Byte × Nat × Nat × Nat) := none  -- report being formed: nonce, position, T64, tick
  failures : Nat := 0
  selfTest : List (List Byte) := []   -- SelfTestLog entries
  deriving DecidableEq, Repr

end Sys2Proof.Machine
end

