-- ==== Sys2Proof/Machine/State.lean ====
section
/-! DEFINITION. The state of the block, its faults and its refusals, and the state right after reset. -/

namespace Sys2Proof.Machine

/-- Everything the spec gives the module, as plain data, with the queue of waiting commands and the model's own counter
of free values. -/
structure State where
  pending : List Instr := []          -- commands that wait, first in first out
  tick : Nat := 0                     -- TCLK ticks since power-up; LocalTime is 4 ns times it (R392)
  freeN : Nat := 0                    -- the model's own: free values taken so far (log entry 1)
  mfg : Mfg := {}                     -- what manufacture wrote (R459, R461)
  regs : SMap Nat := []               -- fixed-size dictionary values that differ from their default, by entry key
  blobs : SMap (List Byte) := []      -- STR and BLOB dictionary values that are not empty, by entry key
  ctl : Ctl := {}
  belt : Belt := {}
  supplies : Supplies := {}
  intake : Intake := {}
  pipe : Pipe := {}
  engine : Engine := {}
  tracks : Tracks := {}
  eject : Eject := {}
  field : Field := {}
  memory : Memory := {}
  knots : Knots := {}
  host : HostLink := {}
  net : Net := {}
  faults : FaultUnit := {}
  power : Power := {}
  perf : Perf := {}
  boot : Boot := {}
  out : List Output := []             -- what left the module, oldest first
  deriving DecidableEq, Repr

/-- Why a command stops the run. -/
inductive Fault
  /-- Raised by every command that names a unit the assembly does not carry (R38, R39, R48): no such link, port, channel
  or die exists, so the spec gives no effect. Safe: the machine stops where the hardware has nothing. -/
  | absentUnit (number : Nat)
  deriving DecidableEq, Repr

/-- Why the model turns a command away. -/
inductive Refusal
  /-- Raised by an arm of `exec` whose command has no meaning yet. Safe. -/
  | notModelled (mnemonic : String)
  deriving DecidableEq, Repr

/-- The module right after reset, as the start of step 2 of R457 finds it: every entry at its default, nothing stored,
no command waiting. The part and what manufacture wrote are named in log entry 6; values without a stated reset value in
log entry 5. -/
def State.reset : State :=
  { ctl := { serving := false }
    supplies := { inReset := true, logicOk := some 0 }
    boot := { step := 2, ready := false } }

end Sys2Proof.Machine
end

