-- ==== Sys2Proof/Machine/Ops.lean ====
section
/-! DEFINITION. The named operations that every command's meaning is written over: dictionary values, counters, time,
event records and their queues, host writes, the fault log. Rules R5 to R10, R29, R58, R368, R378 to R382, R392, R393,
R405, R406, R425, R449, R471, R474, R475. -/

namespace Sys2Proof.Machine

/-! ### Units that an assembly carries (R38, R39, R48) -/

/-- Stops on a unit that the assembly does not carry. -/
def guardUnit (ok : Bool) (n : Nat) (f : State) : Host.Outcome State Fault Refusal :=
  if ok then .next f else .fault (.absentUnit n)

/-! ### Dictionary values (R5 to R8, R57, R60) -/

/-- The row of an entry. -/
def findEntry (idx sub : Nat) : Option Entry :=
  (entriesOf (idx / 256)).find? fun e => e.idx == idx && decide (e.lo ≤ sub) && decide (sub ≤ e.hi)

/-- The row of an entry, by key. -/
def entryOfKey (k : Nat) : Option Entry := findEntry (k / 256) (k % 256)

/-- Defaults that depend on the part or on the subindex (R41, R55, R241, R361, R365, R388, R403). -/
def partDefault (m : Mfg) (k : Nat) : Option Nat :=
  match SMap.find? m.regs k with
  | some v => some v
  | none =>
    if k = K.assemblyCode then some m.part.code
    else if k = K.memoryDieCount then some m.part.memDies
    else if k = K.ioDieCount then some m.part.ioDies
    else if k = K.memoryCapacity then some (m.part.memDies * 2 ^ 33)
    else if k = K.cameraLinksFitted then some m.part.links
    else if k = K.pipelineLevel then some m.part.level
    else if k = K.logicPowerCeiling then some m.part.ceiling
    else if k = K.computePowerAllotment then some m.part.allotment
    else if k = K.pciSubsystemId then some (0x7100 + m.part.code)
    else if k = K.vendorKeyCount then some m.vendorKeys.length
    else if K.knotBase 0 ≤ k ∧ k ≤ K.knotBase 15 then some (4096 * (k - K.knotBase 0))
    else if k = K.contextPriority 0 then some 0
    else if k = K.eventRoute 1 then some 0xFF
    else if k = K.ptpDomainEnable 0 then some 1
    else if k = K.ptpDomainEnable 1 then some 0
    else if k = K.ptpDomainNumber 0 then some 0
    else if k = K.ptpDomainNumber 1 then some 1
    else none

/-- The value of a fixed-size entry at start-up. -/
def defaultOf (m : Mfg) (k : Nat) : Nat :=
  match partDefault m k with
  | some v => v
  | none => match entryOfKey k with
    | some e => e.dflt
    | none => 0

/-- The bytes of a text. -/
def textBytes (t : String) : List Byte := t.toList.map fun c => BitVec.ofNat 8 c.toNat

/-- The value of an STR or BLOB entry at start-up. -/
def blobDefault (m : Mfg) (k : Nat) : List Byte :=
  match SMap.find? m.blobs k with
  | some v => v
  | none =>
    if k = K.vendorName then textBytes "Holtik Instruments"
    else if k = K.productFamily then textBytes "Barelri"
    else if k = K.partNumber then textBytes m.part.text
    else if k = K.attestNonce then List.replicate 32 0
    else if k = K.spareArrayMap then List.replicate 4 0
    else if k = K.deviceKeyId then m.deviceKeyId
    else if k = K.activationTables then (List.range 6144).map Config.tableByte
    else []

/-- The value in force of a fixed-size entry. -/
def State.reg (s : State) (k : Nat) : Nat := SMap.get (defaultOf s.mfg k) s.regs k

/-- Sets the value in force of a fixed-size entry. -/
def State.setReg (s : State) (k v : Nat) : State :=
  { s with regs := SMap.set (defaultOf s.mfg k) s.regs k v }

/-- Whether a BOOL entry reads true. -/
def State.flag (s : State) (k : Nat) : Bool := s.reg k != 0

/-- The value in force of a signed entry of `w` bits. -/
def State.sreg (s : State) (w k : Nat) : Int := signed w (s.reg k)

/-- The value in force of an STR or BLOB entry. -/
def State.blob (s : State) (k : Nat) : List Byte := SMap.get (blobDefault s.mfg k) s.blobs k

/-- Sets an STR or BLOB entry. -/
def State.setBlob (s : State) (k : Nat) (v : List Byte) : State :=
  { s with blobs := SMap.set (blobDefault s.mfg k) s.blobs k v }

/-- The bits of a counter (R471). -/
def counterWidth (k : Nat) : Nat :=
  match entryOfKey k with
  | some e => e.ty.width
  | none => 64

/-- Adds to a counter, which wraps modulo its width (R471). -/
def State.bump (s : State) (k : Nat) (n : Nat := 1) : State :=
  s.setReg k ((s.reg k + n) % 2 ^ counterWidth k)

/-- Adds to a counter whose entry or rule says that it saturates (R471). -/
def State.bumpSat (s : State) (k : Nat) (n : Nat := 1) : State :=
  s.setReg k (min (2 ^ counterWidth k - 1) (s.reg k + n))

/-- Raises an entry that keeps a greatest value. -/
def State.peak (s : State) (k v : Nat) : State := if s.reg k < v then s.setReg k v else s

/-- The value of a subindex's flag among consecutive subindices: those of `n` for which the entry is non-zero. -/
def State.maskOf (s : State) (k : Nat → Nat) (n : Nat) : List Nat := (List.range n).filter fun i => s.reg (k i) != 0

/-! ### Free values (log entry 1) -/

/-- Takes the next free value. -/
def State.takeFree (s : State) : Nat × State := (Config.free s.freeN, { s with freeN := s.freeN + 1 })

/-- The time that a training took (R329): free within its bound, in ms. -/
def State.noteTraining (s : State) (most : Nat) : State :=
  let (v, s) := s.takeFree
  s.setReg K.lastTrainingTime (v % (most + 1))

/-! ### Time (R29, R392, R393) -/

/-- LocalTime in ns (R392). -/
def State.localTime (s : State) : Nat := 4 * s.tick

/-- T64 of a LocalTime under a correction word (R393). -/
def CorrWord.apply (w : CorrWord) (t : Nat) : Nat :=
  ((t + w.offset + w.rate * ((t : Int) - w.base) / 2 ^ 32) % 2 ^ 64).toNat

/-- T64 of a LocalTime (R393, R394): LocalTime itself until the first lock of any domain. -/
def State.t64At (s : State) (t : Nat) : Nat := if s.net.everLocked then s.net.word.apply t else t % 2 ^ 64

/-- T64 of the current tick. -/
def State.t64 (s : State) : Nat := s.t64At s.localTime

/-- The integer part of the emitted IBP. -/
def State.pos (s : State) : Nat := s.belt.ibp / 65536

/-- T64 where none can be said (R29). -/
def noTime : Nat := 2 ^ 64 - 1

/-- Linear interpolation in T64, rounded down whichever way the belt travels (R29): positions in 1/65,536 bc. -/
def lerpTime (p1 t1 p2 t2 p : Int) : Nat :=
  if p1 = p2 then t2.toNat
  else if p1 < p2 then (t1 + (p - p1) * (t2 - t1) / (p2 - p1)).toNat
  else (t1 + (p1 - p) * (t2 - t1) / (p1 - p2)).toNat

/-- The pair of neighbouring stored samples, the newest such pair, between which a position lies (R29). -/
def bracket (p : Nat) : List (Nat × Nat) → Option ((Nat × Nat) × (Nat × Nat))
  | (b2, t2) :: (b1, t1) :: r =>
    if min b1 b2 ≤ p ∧ p ≤ max b1 b2 then some ((b1, t1), (b2, t2)) else bracket p ((b1, t1) :: r)
  | _ => none

/-- The T64 field of a record that carries belt position `p` (R29). DESIGN CHOICE (log entry 99): in REVERSE a position is
ahead when it lies below the emitted IBP, and one above every stored sample reads all ones; while no pair is stored, the
current position has the T64 of the current tick. -/
def State.timeOf (s : State) (p : Nat) : Nat :=
  let p' : Int := p * 65536
  let cur : Int := s.belt.ibp
  match bracket p s.belt.pairs with
  | some ((b1, t1), (b2, t2)) => lerpTime (b1 * 65536) (s.t64At t1) (b2 * 65536) (s.t64At t2) p'
  | none =>
    let newest := s.belt.pairs.head?
    let base : Int := match newest with
      | some (b, _) => b * 65536
      | none => cur
    if p = s.pos ∨ (min base cur ≤ p' ∧ p' ≤ max base cur) then
      match newest with
      | some (b, t) =>
        if base = cur then s.t64
        else lerpTime (b * 65536) (s.t64At t) cur s.t64 (clampInt (min base cur) (max base cur) p')
      | none => s.t64
    else if (s.belt.st = .forward ∧ cur < p' ∧ 0 < s.belt.spNum) ∨ (s.belt.st = .reverse ∧ p' < cur ∧ s.belt.spNum < 0)
    then (s.t64 + (p' - cur).natAbs * 4 * s.belt.spDen / (65536 * s.belt.spNum.natAbs)) % 2 ^ 64
    else noTime

/-! ### Lines and stripes by numbering (R23, R25, R27, R31) -/

/-- A line as the model holds it: its index with the numbering it belongs to above (R27, R31; log entry 46). A line keeps
its stamp through a change of geometry, and lines of one index under two numberings stay apart. The stripe height is a power
of two from 16 to 256 (R215), so stripe numbers derived from such lines carry the numbering in the same way. -/
def lineKey (era n : Nat) : Nat := era * 2 ^ 64 + n

/-- StreamNextLine of a stream, as a line of the numbering in force (R25). -/
def State.nextLine (s : State) (i : Nat) : Nat := lineKey s.belt.era (s.reg (K.streamNextLine i))

/-- The number of a stripe within its numbering. -/
def stripeNum (j : Nat) : Nat := j % 2 ^ 48

/-- Whether a line was numbered before the latest new origin, which discarded it (R30). -/
def State.discarded (s : State) (n : Nat) : Bool := decide (n < lineKey s.belt.liveEra 0)

/-! ### What leaves the module -/

/-- Sends something to a partner. -/
def State.send (s : State) (o : Output) : State := { s with out := s.out ++ [o] }

/-- Counts payload bytes through a port (R450). -/
def State.portBytes (s : State) (inward : Bool) (port n : Nat) : State :=
  if inward then { s with perf := { s.perf with bytesIn := SMap.set 0 s.perf.bytesIn port (SMap.get 0 s.perf.bytesIn port + n) } }
  else { s with perf := { s.perf with bytesOut := SMap.set 0 s.perf.bytesOut port (SMap.get 0 s.perf.bytesOut port + n) } }

/-- A posted write to host memory on a port (R368, R450). -/
def State.hostWrite (s : State) (port addr : Nat) (data : List Byte) : State :=
  (s.send (.hostWrite port addr data)).portBytes false (0x62 + port) data.length

/-- One host port. -/
def State.port (s : State) (p : Nat) : HostPort := SMap.get {} s.host.ports p

/-- Sets one host port. -/
def State.setPort (s : State) (p : Nat) (h : HostPort) : State :=
  { s with host := { s.host with ports := SMap.set {} s.host.ports p h } }

/-- One event queue. -/
def State.queue (s : State) (q : Nat) : EvQueue := SMap.get {} s.host.queues q

/-- Sets one event queue. -/
def State.setQueue (s : State) (q : Nat) (e : EvQueue) : State :=
  { s with host := { s.host with queues := SMap.set {} s.host.queues q e } }

/-! ### Event records (R10, R378 to R381) -/

/-- The 32 bytes of a record (R10). -/
def Rec.bytes (r : Rec) (seq : Nat) : List Byte :=
  leBytes 4 seq ++ leBytes 1 r.typ ++ leBytes 1 r.src ++ leBytes 1 r.ctx ++ leBytes 1 r.flags ++ leBytes 8 r.pos ++
    leBytes 8 r.time ++ leBytes 8 r.payload

/-- Records of a queue: 2^n (R369). -/
def EvQueue.size (q : EvQueue) : Nat := 2 ^ bits q.config 4 0

/-- Whether the queue is full (R379). -/
def EvQueue.full (q : EvQueue) : Bool := (q.written + 2 ^ 32 - q.head) % 2 ^ 32 == q.size

/-- Sends the queue's vector when its conditions hold (R381). -/
def State.signal (s : State) (q : Nat) : State :=
  let e := s.queue q
  if e.st = .enabled ∧ bitOf e.config 8 = true ∧ e.armed = true ∧ 0 < e.unsig ∧
      (bits e.config 31 16 ≤ e.unsig ∨ bits e.config 63 32 * 1000 ≤ (s.tick - e.oldest) * 4) then
    match e.port with
    | some p => (s.setQueue q { e with armed := false, unsig := 0 }).send (.msix p q)
    | none => s
  else s

/-- Writes a record into host memory as the queue's next one (R378). -/
def State.writeRec (s : State) (q : Nat) (r : Rec) : State :=
  let e := s.queue q
  let seq := (e.written + 1) % 2 ^ 32
  let addr := e.base + 32 * (((seq + 2 ^ 32 - 1) % 2 ^ 32) % e.size)
  let s := s.setQueue q { e with written := seq, unsig := e.unsig + 1, oldest := if e.unsig = 0 then s.tick else e.oldest }
  (s.hostWrite (e.port.getD 0) addr (r.bytes seq)).signal q

/-- Programmable counter `i` of bank `b`. -/
def State.counter (s : State) (b i : Nat) : Counter := SMap.get {} s.perf.counters (8 * b + i)

/-- Sets a programmable counter and the entries that read it. -/
def State.setCounter (s : State) (b i : Nat) (c : Counter) : State :=
  { s with perf := { s.perf with counters := SMap.set {} s.perf.counters (8 * b + i) c } }

/-- Whether an occurrence passes a counter's filters (R444): `f` says which filters apply, bit 0 C, bit 1 M, bit 2 A;
`ctx` is the bit of the context filter, 16 for DEVICE work. -/
def State.passes (s : State) (n f ctx master addr : Nat) : Bool :=
  (!bitOf f 0 || bitOf (s.reg (K.counterContextFilter n)) ctx) &&
  (!bitOf f 1 || bitOf (s.reg (K.counterMasterFilter n)) master) &&
  (!bitOf f 2 || (decide (s.reg (K.counterAddressLow n) ≤ addr) && decide (addr ≤ s.reg (K.counterAddressHigh n))))

/-- Adds occurrences to one counter (R442, R449): the record of an overflow, when one is due, is handed back. -/
def State.countOne (s : State) (b i ev n : Nat) : State × List Rec :=
  let c := s.counter b i
  let sum := c.value + n
  let overCount := min (2 ^ 32 - 1) (c.overCount + sum / 2 ^ 48)
  let due := decide (2 ^ 48 ≤ sum) && s.flag (K.counterOverflowRecord (8 * b + i)) &&
    (match c.lastRec with
     | none => true
     | some t => decide (250000 ≤ s.tick - t))
  let r : Rec := { typ := RType.counterOverflow, src := Unit.counters, pos := s.pos, time := s.timeOf s.pos
                   payload := b + 256 * i + 65536 * ev + 2 ^ 32 * overCount }
  (s.setCounter b i { value := sum % 2 ^ 48, overCount := overCount, lastRec := if due then some s.tick else c.lastRec },
    if due then [r] else [])

/-- Adds `n` occurrences of an event to every counter of a bank that counts it (R442 to R444, R449). -/
def State.countEv (s : State) (b ev n : Nat) (f ctx master addr : Nat := 0) : State × List Rec :=
  if s.perf.running && decide (0 < n) then
    (List.range 8).foldl (fun (acc : State × List Rec) i =>
      let (s, rs) := acc
      if s.reg (K.counterEvent (8 * b + i)) = ev ∧ s.passes (8 * b + i) f ctx master addr = true then
        let (s, r) := s.countOne b i ev n
        (s, rs ++ r)
      else (s, rs)) (s, [])
  else (s, [])

/-- Hands a record to a queue (R380); answers the records that its counting raised. -/
def State.routeRec (s : State) (q : Nat) (r : Rec) : State × List Rec :=
  let e := s.queue q
  match e.st with
  | .disabled => (s.bump K.recordsUnrouted, [])
  | .enabled =>
    if e.full = false ∧ e.held = [] then (s.writeRec q r).countEv 2 0x0802 1
    else if e.held.length < 256 then (s.setQueue q { e with held := e.held ++ [r] }, [])
    else ((s.setQueue q { e with dropped := e.dropped + 1
                                 droppedPos := if e.dropped = 0 then r.pos else e.droppedPos
                                 droppedTime := if e.dropped = 0 then r.time else e.droppedTime }).bump
            (K.evqRecordsDropped q), [])
  | .held =>
    if e.held.length < 256 then (s.setQueue q { e with held := e.held ++ [r] }, [])
    else ((s.setQueue q { e with dropped := e.dropped + 1
                                 droppedPos := if e.dropped = 0 then r.pos else e.droppedPos
                                 droppedTime := if e.dropped = 0 then r.time else e.droppedTime }).bump
            (K.evqRecordsDropped q), [])

/-- Routes records, and the counter-overflow records that writing them raises (R380, R449). A counter issues at most
one record per 1 ms, so 40 rounds beyond the records themselves always suffice. -/
def State.emitLoop : Nat → List Rec → State → State
  | 0, _, s => s
  | _ + 1, [], s => s
  | n + 1, r :: rest, s =>
    let q := s.reg (K.eventRoute (r.typ - 1))
    if q = 0xFF then State.emitLoop n rest s
    else
      let (s, new) := s.routeRec q r
      State.emitLoop n (rest ++ new) s

/-- Issues records by the routes in force (R380, R388). -/
def State.emitAll (s : State) (rs : List Rec) : State := State.emitLoop (rs.length + 40) rs s

/-- Issues one record. -/
def State.emit (s : State) (r : Rec) : State := s.emitAll [r]

/-- Counts occurrences and issues the overflow records that follow (R442, R449). -/
def State.count (s : State) (b ev n : Nat) (f ctx master addr : Nat := 0) : State :=
  let (s, rs) := s.countEv b ev n f ctx master addr
  s.emitAll rs

/-- Counts the accesses that moving `n` bytes makes at a store's external port (R443 to R445): their number, of which the
spec gives no account, is free, and so is the access whose address the filter sees (log entry 33). -/
def State.countStore (s : State) (die ctx master off n : Nat) : State :=
  if s.perf.running then
    let (f, s) := s.takeFree
    let (a, s) := s.takeFree
    s.count die 0x0402 (f % (n + 1)) 7 ctx master (off + a % (n + 1))
  else s

/-- A record at the emitted IBP, with the T64 of R29. -/
def State.recAt (s : State) (typ src : Nat) (payload : Nat := 0) (ctx : Nat := 0xFF) (flags : Nat := 0) : Rec :=
  { typ, src, ctx, flags, pos := s.pos, time := s.timeOf s.pos, payload }

/-- A record that carries another belt position. -/
def State.recPos (s : State) (typ src p : Nat) (payload : Nat := 0) (ctx : Nat := 0xFF) (flags : Nat := 0) : Rec :=
  { typ, src, ctx, flags, pos := p, time := s.timeOf p, payload }

/-- Writes a queue's held records while it has room, then the QUEUE_OVERFLOW record when any was dropped (R380). -/
def State.drainQueue (q : Nat) : Nat → State → State
  | 0, s => s
  | n + 1, s =>
    let e := s.queue q
    if e.st = .enabled ∧ e.full = false then
      match e.held with
      | r :: rest =>
        let s := s.setQueue q { e with held := rest }
        let (s, new) := (s.writeRec q r).countEv 2 0x0802 1
        State.drainQueue q n (s.emitAll new)
      | [] =>
        if 0 < e.dropped then
          let r : Rec := { typ := RType.queueOverflow, src := Unit.rings, pos := e.droppedPos, time := e.droppedTime
                           payload := min (2 ^ 32 - 1) e.dropped }
          let s := s.setQueue q { e with dropped := 0 }
          let (s, new) := (s.writeRec q r).countEv 2 0x0802 1
          s.emitAll new
        else s
    else s

/-! ### Logs (R425, R474, R475) -/

/-- Entries of each log, by log code (R474). -/
def logSize : Nat → Nat
  | 1 => 256
  | 2 => 64
  | 3 => 64
  | _ => 256

/-- Overwrites of a log since it was emptied. The count is kept apart from LogOverwrites, which StatisticsClear zeroes. -/
def State.overwrites (s : State) (log : Nat) : Nat := SMap.get 0 s.faults.overCount log

/-- The LOG_FULL record of a log (R475). -/
def State.logFullRec (s : State) (log : Nat) : Rec :=
  s.recAt RType.logFull Unit.fault (log + 65536 * logSize log + 2 ^ 32 * min (2 ^ 32 - 1) (s.overwrites log))

/-- Counts an overwrite of a log and issues LOG_FULL when it is due (R474); `silent` while a power-fail runs. -/
def State.overwrote (s : State) (log : Nat) (silent : Bool := false) : State :=
  let n := s.overwrites log + 1
  let s := { s with faults := { s.faults with overCount := SMap.set 0 s.faults.overCount log n } }
  let s := s.bumpSat (K.logOverwrites (log - 1))
  let s := if log = 1 then s.bump K.faultLogOverwritten else s
  if n = 1 ∨ (n - 1) % s.reg K.logFullInterval = 0 then
    if silent then { s with faults := { s.faults with lateFull := true } } else s.emit (s.logFullRec log)
  else s

/-- Empties a log's overwrite counts (R474). -/
def State.logEmptied (s : State) (log : Nat) : State :=
  { s.setReg (K.logOverwrites (log - 1)) 0 with faults := { s.faults with overCount := SMap.set 0 s.faults.overCount log 0 } }

/-- The 32 bytes of a fault-log entry (R425). -/
def FaultEntry.bytes (e : FaultEntry) : List Byte :=
  leBytes 2 e.code ++ leBytes 1 e.scope ++ leBytes 1 e.ctx ++ leBytes 1 e.src ++ leBytes 1 e.flags ++ leBytes 2 0 ++
    leBytes 8 e.pos ++ leBytes 8 e.time ++ leBytes 6 e.detail ++ leBytes 2 e.boot

/-- Appends an entry to the volatile log (R425). -/
def State.logFault (s : State) (e : FaultEntry) : State :=
  if s.faults.log.length < 256 then { s with faults := { s.faults with log := s.faults.log ++ [e] } }
  else ({ s with faults := { s.faults with log := s.faults.log.drop 1 ++ [e] } } : State).overwrote 1

/-- Appends an entry to the non-volatile log (R425). -/
def State.logFaultNv (s : State) (e : FaultEntry) (silent : Bool := false) : State :=
  if s.faults.nv.length < 64 then { s with faults := { s.faults with nv := s.faults.nv ++ [e] } }
  else ({ s with faults := { s.faults with nv := s.faults.nv.drop 1 ++ [e] } } : State).overwrote 2 silent

/-- Fault codes that the control processor raises itself, whose records carry a firmware timestamp (R402, R405; log
entry 12). -/
def firmwareFaults : List Nat := [FCode.contextReset, FCode.recoveryCommanded, FCode.blobRejected, FCode.selfTestFailed]

/-- A fault as detected: the record that R405 gives it. -/
def State.faultRec (_ : State) (code : Nat) (scope : Scope) (src ctx p t : Nat) (detail : Nat) : Rec :=
  { typ := RType.fault, src, ctx, pos := p, time := t
    flags := scope.code + 8 * bitNat (nvFaults.contains code) + 16 * bitNat (firmwareFaults.contains code)
    payload := code + 65536 * detail }

/-- Whether a fault's record stays within 1,000 per second of its code (R406), and the count that goes with it. -/
def State.rateOk (s : State) (code : Nat) : Bool × State :=
  let sec := s.localTime / 1000000000
  let n := if SMap.get 0 s.faults.rateSec code = sec then SMap.get 0 s.faults.rateCount code else 0
  (decide (n < 1000),
   { s with faults := { s.faults with rateSec := SMap.set 0 s.faults.rateSec code sec
                                      rateCount := SMap.set 0 s.faults.rateCount code (n + 1) } })

/-- Logs and counts a fault (R405, R406, R425, R476): answers whether its record may be issued, and the record. -/
def State.noteFault (s : State) (code : Nat) (scope : Scope) (src : Nat) (ctx : Nat := 0xFF) (detail : Nat := 0)
    (p : Option Nat := none) : (Option Rec) × State :=
  let pos := p.getD s.pos
  let (late, s) := if firmwareFaults.contains code then s.takeFree else (0, s)
  let t := if firmwareFaults.contains code then s.t64At (s.localTime + late % 5001) else s.timeOf pos
  let logOnly := logOnlyFaults.contains code
  let (ok, s) := if logOnly then (true, s) else s.rateOk code
  let r := s.faultRec code scope src ctx pos t detail
  let e : FaultEntry :=
    { code, scope := scope.code, ctx, src, pos, time := t, detail, boot := s.reg K.bootCount
      flags := bitNat (nvFaults.contains code) + 2 * bitNat (firmwareFaults.contains code) + 4 * bitNat (!ok) }
  let s := s.logFault e
  let s := if nvFaults.contains code then s.logFaultNv e (code == FCode.powerFail) else s
  let s := s.bump (K.faultCount (code / 256 - 1))
  let s := if ok then s else s.bump K.faultRecordsSuppressed
  (if ok && !logOnly then some r else none, s)

/-- Issues a fault's record, or keeps it while whole-device recovery is in its phases 1 to 5 (R422). -/
def State.issueFault (s : State) (r : Option Rec) : State :=
  match r with
  | none => s
  | some r =>
    match s.faults.recovery with
    | some v => { s with faults := { s.faults with recovery := some { v with records := v.records ++ [r] } } }
    | none => s.emit r

/-- A fault of scope REPORT, LAYER or JOB: noted and recorded (R405, R408). What LAYER and JOB abort is the business of
the rule that raises them. -/
def State.report (s : State) (code : Nat) (src : Nat) (detail : Nat := 0) (scope : Scope := .report) (ctx : Nat := 0xFF)
    (p : Option Nat := none) : State :=
  let (r, s) := s.noteFault code scope src ctx detail p
  s.issueFault r

end Sys2Proof.Machine
end

