-- ==== Sys2Proof/Machine/RingOps.lean ====
section
/-! DEFINITION. Shared operations of the command rings: completions in ring order and what stopping a ring does (R371 to
R374, R386). -/

namespace Sys2Proof.Machine

/-- One ring. -/
def State.ring (s : State) (r : Nat) : Ring := SMap.get {} s.host.rings r

/-- Sets one ring. -/
def State.setRing (s : State) (r : Nat) (x : Ring) : State :=
  { s with host := { s.host with rings := SMap.set {} s.host.rings r x } }

/-- Entries of a ring: 2^n (R371). -/
def Ring.size (r : Ring) : Nat := 2 ^ r.log2

/-- Host address of an entry (R371). -/
def Ring.entryAddr (r : Ring) (i : Nat) : Nat := r.base + (i % r.size) * 64

/-- The Phase byte of an entry (R371, R374). -/
def Ring.phase (r : Ring) (i : Nat) : Nat := if i / r.size % 2 = 0 then 1 else 2

/-- The 16 bytes that a completion writes (R371). -/
def Ring.completion (r : Ring) (c : RingCmd) (status result : Nat) : List Byte :=
  leBytes 2 status ++ leBytes 1 (r.phase c.index) ++ leBytes 1 0 ++ leBytes 4 c.id ++ leBytes 8 result

/-- The RING_COMPLETION record of a command (R382). -/
def State.completionRec (s : State) (ring : Nat) (c : RingCmd) (status : Nat) : Rec :=
  s.recAt RType.ringCompletion Unit.rings (ring + 65536 * status + 2 ^ 32 * c.id) (s.ring ring).ctx

/-- Writes the completion of the oldest command of a ring (R373). -/
def State.completeHead (s : State) (ring : Nat) (c : RingCmd) (status result : Nat) : State :=
  let r := s.ring ring
  let s := s.hostWrite (r.port.getD 0) (r.entryAddr c.index + 0x30) (r.completion c status result)
  let (s, rs) := if c.notify then s.routeRec r.notice (s.completionRec ring c status) else (s, [])
  let s := s.emitAll rs
  let s := s.setRing ring { s.ring ring with
    cmds := (s.ring ring).cmds.drop 1
    completed := ((s.ring ring).completed + 1) % 2 ^ 32
    lastStatus := status }
  (s.bump K.commandsCompleted).count 2 0x0801 1 1 r.ctx

/-- Writes every completion that ring order lets out now (R373); a HELD ring keeps its completions (R386), and a
STOPPED one forgets finished commands. -/
def State.flushRing (ring : Nat) : Nat → State → State
  | 0, s => s
  | n + 1, s =>
    let r := s.ring ring
    match r.cmds with
    | [] => if r.disabling then s.setRing ring { r with st := .disabled, port := none, disabling := false } else s
    | c :: rest =>
      match c.st with
      | .done status result =>
        if r.st = .stopped then State.flushRing ring n (s.setRing ring { r with cmds := rest })
        else if r.st = .held then s
        else State.flushRing ring n (s.completeHead ring c status result)
      | _ => s

/-- Lets out the completions of a ring. -/
def State.flush (s : State) (ring : Nat) : State := State.flushRing ring ((s.ring ring).cmds.length + 1) s

/-- Marks a command finished (R373). -/
def State.markDone (s : State) (ring index status result : Nat) : State :=
  let r := s.ring ring
  s.setRing ring { r with cmds := r.cmds.map fun c => if c.index = index then { c with st := .done status result } else c }

/-- Finishes a command: its completion follows in ring order (R373). -/
def State.finishCmd (s : State) (ring index status : Nat) (result : Nat := 0) : State :=
  (s.markDone ring index status result).flush ring

/-- Marks a command as started (R373). -/
def State.startCmd (s : State) (ring index : Nat) : State :=
  let r := s.ring ring
  s.setRing ring { r with cmds := r.cmds.map fun c => if c.index = index then { c with st := .started } else c }

/-- Whether a command of a ring is not finished. -/
def RingCmd.open (c : RingCmd) : Bool :=
  match c.st with
  | .done _ _ => false
  | _ => true

/-- The opcode of a command (R375). -/
def RingCmd.opcode (c : RingCmd) : Nat := leAt c.body 0 1

/-- Whether a command holds every later one of its ring: a KNOT_WAIT or a FENCE, or an implied FENCE, not finished
(R373, R342). -/
def RingCmd.holds (c : RingCmd) : Bool := c.open && (c.opcode == 0x52 || c.opcode == 0x55 || c.fencing)

/-- The next command of a ring that may start now (R373): the oldest one not started, when no earlier one
holds it and fewer than 16 are in progress. -/
def Ring.nextToStart (r : Ring) : Option RingCmd :=
  match r.cmds.find? fun c => c.st == .fetched with
  | none => none
  | some c =>
    let before := r.cmds.takeWhile fun d => d.index != c.index
    if before.any RingCmd.holds ∨ 16 ≤ (before.filter RingCmd.open).length then none else some c

/-- The rings of a context. -/
def State.ringsOf (s : State) (ctx : Nat) : List Nat :=
  (s.host.rings.filter fun p => p.2.st != .disabled && p.2.ctx == ctx).map (·.1)

/-- The slot of a PLAN_LOAD in progress that a test on commands picks out (R377). -/
def Ring.loading (r : Ring) (p : RingCmd → Bool) : Option Nat :=
  r.cmds.findSome? fun c => if c.st = .started ∧ c.opcode = 0x30 ∧ p c = true then some (leAt c.body 1 1) else none

/-- An upload by ring that is broken off no longer runs; its slot stays partly written (R386, R412). -/
def State.breakLoad (s : State) (n : Option Nat) : State :=
  if n.isSome ∧ s.engine.upload = n then { s with engine := { s.engine with upload := none } } else s

/-- Finishes every unfinished command of a context's rings that satisfies a test, in ring order (R412). -/
def State.finishWhere (s : State) (ctx : Nat) (p : RingCmd → Bool) (status : Nat) : State :=
  (s.ringsOf ctx).foldl (fun s r =>
    let x := s.ring r
    let s := s.breakLoad (x.loading p)
    (s.setRing r { x with cmds := x.cmds.map fun c => if c.open && p c then { c with st := .done status 0 } else c }).flush r) s

end Sys2Proof.Machine
end

