-- ==== Sys2Proof/Machine/KnotOps.lean ====
section
/-! DEFINITION. Shared operations of the knot store and of the tether ports: R334 to R346, R348 to R350, R354, R360. -/

namespace Sys2Proof.Machine

/-! ### Contexts -/

/-- One context. -/
def State.ctx (s : State) (c : Nat) : Context := SMap.get {} s.engine.ctxs c

/-- Sets one context. -/
def State.setCtx (s : State) (c : Nat) (x : Context) : State :=
  { s with engine := { s.engine with ctxs := SMap.set {} s.engine.ctxs c x } }

/-- The REALTIME plan in force (R236: context 0 holds it). -/
def State.rtPlan (s : State) : Option Plan := (s.ctx 0).plan

/-! ### Tether ports (R347 to R350) -/

/-- One tether port. -/
def State.tport (s : State) (p : Nat) : TPort := SMap.get {} s.knots.ports p

/-- Sets one tether port. -/
def State.setTport (s : State) (p : Nat) (x : TPort) : State :=
  { s with knots := { s.knots with ports := SMap.set {} s.knots.ports p x } }

/-- The group plan: the plan in force whose ModuleCount exceeds 1 (R215). -/
def State.groupPlan (s : State) : Option (Nat × Plan) :=
  (List.range 16).findSome? fun c =>
    match (s.ctx c).plan with
    | some p => if 1 < p.modules then some (c, p) else none
    | none => none

/-- This module's number in its group (R352). -/
def State.ownMember (s : State) : Nat :=
  match s.groupPlan with
  | some (_, p) => p.member
  | none => 0

/-- The header of a tether packet (R348). -/
def tetherHeader (typ src dest ctx : Nat) (fenced : Bool) (len seq ack tag arg : Nat) : List Byte :=
  leBytes 1 typ ++ leBytes 1 (src + 16 * dest) ++ leBytes 1 (ctx + 16 * bitNat fenced) ++ leBytes 1 len ++
    leBytes 2 seq ++ leBytes 2 ack ++ leBytes 4 tag ++ leBytes 4 arg

/-- A tether packet before its CRC (R348). -/
def tetherBytes (typ src dest ctx : Nat) (fenced : Bool) (seq ack tag arg : Nat) (body : List Byte) : List Byte :=
  tetherHeader typ src dest ctx fenced ((body.length + 7) / 8) seq ack tag arg ++ fitBytes ((body.length + 7) / 8 * 8) body

/-- A tether packet with its CRC (R348), whose bytes follow least significant first (log entry 43). -/
def withCrc (b : List Byte) : List Byte := b ++ leBytes 4 (crc32 b)

/-- Whether a received packet of a type passes its CRC (R348). -/
def TPacket.crcOk (p : TPacket) (typ : Nat) : Bool :=
  p.crc == crc32 (tetherBytes typ p.src p.dest p.ctx p.fenced p.seq p.ackSeq p.tag p.arg p.body)

/-- Sends a packet of a source member on a port, which keeps its last 64 packets (R348, R349, R450). Packets to a lost member
are dropped (R355). -/
def State.sendFrom (s : State) (src port dest typ ctx : Nat) (fenced : Bool) (tag arg : Nat) (body : List Byte) : State :=
  let t := s.tport port
  if t.st = .up ∧ s.knots.group.lost.contains dest = false then
    let pkt := withCrc (tetherBytes typ src dest ctx fenced t.txSeq ((t.rxSeq + 65535) % 65536) tag arg body)
    let sent : TSent := { seq := t.txSeq, typ, dest, body := pkt, sent := s.tick }
    let w := t.window ++ [sent]
    ((s.setTport port { t with txSeq := (t.txSeq + 1) % 65536, window := w.drop (w.length - 64), lastTx := s.tick }).send
      (.tether port typ dest pkt)).portBytes false (0x66 + port) pkt.length
  else s

/-- Sends a packet of this module on a port. -/
def State.sendOn (s : State) (port dest typ ctx : Nat) (fenced : Bool) (tag arg : Nat) (body : List Byte) : State :=
  s.sendFrom s.ownMember port dest typ ctx fenced tag arg body

/-- Sends a packet to a member by the route in force (R350); a member without a route gets nothing. -/
def State.sendTo (s : State) (dest typ ctx : Nat) (fenced : Bool) (tag arg : Nat) (body : List Byte) : State :=
  let p := s.reg (K.routeTable dest)
  if p < 4 then s.sendOn p dest typ ctx fenced tag arg body else s

/-! ### Knot words (R334, R335) -/

/-- One knot. -/
def State.knot (s : State) (k : Nat) : Knot := SMap.get {} s.knots.words k

/-- Sets one knot. -/
def State.setKnot (s : State) (k : Nat) (w : Knot) : State :=
  { s with knots := { s.knots with words := SMap.set {} s.knots.words k w } }

/-- Whether a knot lies in the range of a context (R334). -/
def State.inRange (s : State) (c k : Nat) : Bool :=
  decide (s.reg (K.knotBase c) ≤ k) && decide (k < s.reg (K.knotBase c) + s.reg (K.knotCount c))

/-- The owner of a knot: a context that is not EMPTY and whose range holds it (R334). -/
def State.knotOwner (s : State) (k : Nat) : Option Nat :=
  (List.range 16).find? fun c => s.inRange c k && (s.ctx c).st != .empty

/-- Whether a waiter is queued on a knot (R335, Waiters). -/
def State.hasWaiter (s : State) (k : Nat) : Bool := s.knots.waiters.any fun w => w.knot == k

/-- Bits [27:24] of a knot word in [3:0] (R335, R375). -/
def State.knotFlags (s : State) (k : Nat) : Nat :=
  let w := s.knot k
  bitNat (s.hasWaiter k) + 2 * bitNat w.underflow + 4 * bitNat w.overflow + 8 * bitNat w.frozen

/-- A knot word as read (R335); a knot without owner reads owner 0. -/
def State.knotWordOf (s : State) (k : Nat) : Nat :=
  let w := s.knot k
  w.gen % 65536 + 2 ^ 24 * s.knotFlags k + 2 ^ 28 * ((s.knotOwner k).getD 0) + 2 ^ 32 * unsigned 32 w.count

/-- The Result field of a knot command (R375). -/
def State.knotResult (s : State) (k : Nat) : Nat := unsigned 32 (s.knot k).count + 2 ^ 32 * s.knotFlags k

/-- Writes the waiter table and WaitersInUse (R340, R361). -/
def State.setWaiters (s : State) (l : List Waiter) : State :=
  (({ s with knots := { s.knots with waiters := l } } : State).setReg K.waitersInUse l.length).peak K.waitersPeak l.length

/-- Tells the issuer of a knot operation its result (R338, R340, R354): a ring command completes, a remote member gets
its KNOT_REPLY or ERROR_COMP; a plan step's waits are those that stand in the waiter table. -/
def State.notify (s : State) (i : Issuer) (k status : Nat) : State :=
  match i with
  | .ring r idx => s.finishCmd r idx status (s.knotResult k)
  | .remote m c tag => s.sendTo m 0x06 c false tag (status % 65536) (leBytes 8 (s.knotResult k))
  | _ => s

/-- Releases waiters without SUBTRACT whose condition holds, in arrival order (R340). -/
def State.releasePlain (s : State) (k : Nat) : State :=
  let c := (s.knot k).count
  let go := fun (w : Waiter) => w.knot == k && !w.subtract && decide ((w.n : Int) ≤ c)
  let out := s.knots.waiters.filter go
  let s := if out = [] then s else s.setWaiters (s.knots.waiters.filter fun w => !go w)
  out.foldl (fun s w => s.notify w.issuer k Status.ok) s

/-- Releases the heads of a knot's SUBTRACT queue while their condition holds (R340). -/
def State.releaseQueue (k : Nat) : Nat → State → State
  | 0, s => s
  | n + 1, s =>
    match s.knots.waiters.find? fun w => w.knot == k && w.subtract with
    | none => s
    | some w =>
      let x := s.knot k
      if (w.n : Int) ≤ x.count then
        let s := s.setWaiters (s.knots.waiters.erase w)
        let s := s.setKnot k { x with count := x.count - w.n }
        State.releaseQueue k n (s.notify w.issuer k Status.ok)
      else s

/-- Evaluates a knot's waiters after its Count changed (R340). Waiters without SUBTRACT are evaluated against the new
Count before the queue takes from it (log entry 14). -/
def State.evalWaiters (s : State) (k : Nat) : State :=
  let s := s.releasePlain k
  State.releaseQueue k s.knots.waiters.length s

/-- Evaluates the queues of knots whose head may be a new one, because waiters were removed (R340; log entry 14). -/
def State.settleQueues (s : State) (ks : List Nat) : State :=
  ks.eraseDups.foldl (fun s k => State.releaseQueue k s.knots.waiters.length s) s

/-- Initialises a knot (R336). -/
def State.initKnot (s : State) (k : Nat) (v : Int) : State :=
  s.setKnot k { count := v, gen := ((s.knot k).gen + 1) % 65536 }

/-- Counts an applied operation (R361, R443). -/
def State.countKnotOp (s : State) (ctx : Nat) : State := (s.bump K.knotOps).count 2 0x0901 1 1 ctx

/-- A saturation: the count, the flag, the counter and the record (R341, R360). -/
def State.saturate (s : State) (k ctx : Nat) (isOver : Bool) (operand : Nat) : State :=
  let x := s.knot k
  let s := s.setKnot k (if isOver then { x with count := 2 ^ 31 - 1, overflow := true }
                        else { x with count := -(2 ^ 31), underflow := true })
  let s := s.bump K.knotSaturations
  s.emit (s.recAt RType.knotSaturation Unit.knots
    (k + 65536 * (if isOver then 1 else 2) + 2 ^ 32 * (operand % 2 ^ 32)) ctx)

/-- Why an operation other than READ on a knot is refused (R334, R338, R345): none when it is applied. -/
def State.knotRefusal (s : State) (k v : Nat) (init : Bool) (ctx : Nat) : Option Nat :=
  if init = false ∧ ¬(1 ≤ v ∧ v ≤ 2 ^ 31 - 1) then some Status.descriptorInvalid
  else match s.knotOwner k with
    | none => some Status.noContext
    | some o =>
      if init then (if o = ctx then none else some Status.contextState)
      else if (s.knot k).frozen then some Status.knotFrozen else none

/-- Counts a refusal for a frozen knot (R345). -/
def State.noteFrozen (s : State) (st : Nat) : State := if st = Status.knotFrozen then s.bump K.frozenRefusals else s

/-- ADD and SUB (R338, R341): the status for the issuer, and the state after. -/
def State.knotAdd (s : State) (k v ctx : Nat) (sub : Bool) : Nat × State :=
  match s.knotRefusal k v false ctx with
  | some st => (st, s.noteFrozen st)
  | none =>
    let x := s.knot k
    let sum := if sub then x.count - v else x.count + v
    let s := s.countKnotOp ctx
    if sum < -(2 ^ 31) ∨ 2 ^ 31 - 1 < sum then (Status.saturated, (s.saturate k ctx (!sub) v).evalWaiters k)
    else (Status.ok, (s.setKnot k { x with count := sum }).evalWaiters k)

/-- WAIT (R340): none when the waiter was queued, else the status for the issuer. -/
def State.knotWaitOp (s : State) (k n ctx : Nat) (subtract : Bool) (timeout : Nat) (i : Issuer) : Option Nat × State :=
  match s.knotRefusal k n false ctx with
  | some st => (some st, s.noteFrozen st)
  | none =>
    let x := s.knot k
    let ahead := subtract && s.knots.waiters.any fun w => w.knot == k && w.subtract
    if (n : Int) ≤ x.count ∧ ahead = false then
      let s := s.countKnotOp ctx
      (some Status.ok, if subtract then s.setKnot k { x with count := x.count - n } else s)
    else if s.knots.waiters.length < s.reg K.waiterCapacity then
      (none, (s.countKnotOp ctx).setWaiters
        (s.knots.waiters ++ [{ knot := k, issuer := i, ctx, n, subtract, since := s.tick, timeout }]))
    else (some Status.capacity, s)

/-- KNOT_INIT (R336, R338). -/
def State.knotInitOp (s : State) (k : Nat) (v : Int) (ctx : Nat) : Nat × State :=
  match s.knotRefusal k 0 true ctx with
  | some st => (st, s)
  | none => (Status.ok, ((s.countKnotOp ctx).initKnot k v).evalWaiters k)

/-- Initialises every knot of a context's range with the Initial values of its plan (R336). -/
def State.initRange (s : State) (c : Nat) (inits : SMap Int) : State :=
  let b := s.reg (K.knotBase c)
  let n := s.reg (K.knotCount c)
  let mid := (List.range n).map fun i =>
    (b + i, ({ count := SMap.get 0 inits i, gen := ((s.knot (b + i)).gen + 1) % 65536 } : Knot))
  { s with knots := { s.knots with words :=
      (s.knots.words.filter fun p => decide (p.1 < b)) ++ (mid.filter fun p => p.2 != ({} : Knot)) ++
        (s.knots.words.filter fun p => decide (b + n ≤ p.1)) } }

/-! ### The teardown of an owner (R345, R346) -/

/-- The kind, context and number of an issuer, as a waiter entry of the dump holds them (R346). -/
def Issuer.dump (s : State) : Issuer → Nat × Nat × Nat
  | .ring r _ => (0, (s.ring r).ctx, r)
  | .step c n => (1, c, n)
  | .plan c d => (1, c, d)
  | .remote m c _ => (2, c, m)

/-- The context of the waits that a context itself placed: its rings' and its steps' (R345, step 3). -/
def Waiter.ownedBy (w : Waiter) (c : Nat) : Bool :=
  match w.issuer with
  | .remote _ _ _ => false
  | _ => w.ctx == c

/-- KnotDump of a reset context (R346). -/
def State.knotDumpOf (s : State) (c reason time : Nat) (rel rem : List Waiter) : List Byte :=
  let all := ((List.range (s.reg (K.knotCount c))).map fun i => s.reg (K.knotBase c) + i).filter fun k =>
    (s.knot k).count != 0 || s.knotFlags k != 0
  let outs := s.knots.waiters.filter fun w => rel.contains w || rem.contains w
  let kn := min 4096 all.length
  let wn := min 2046 outs.length
  let header := leBytes 1 c ++ leBytes 1 reason ++ leBytes 2 0 ++ leBytes 2 kn ++ leBytes 2 wn ++
    leBytes 4 (all.length - kn) ++ leBytes 4 (outs.length - wn) ++ leBytes 8 s.pos ++ leBytes 8 time
  header ++
    ((all.take kn).map fun k =>
      leBytes 2 k ++ leBytes 1 (s.knotFlags k) ++
        leBytes 1 (min 255 (s.knots.waiters.filter fun w => w.knot == k).length) ++
        leBytes 4 (unsigned 32 (s.knot k).count)).flatten ++
    ((outs.take wn).map fun w =>
      let (kind, ctx, num) := w.issuer.dump s
      leBytes 2 w.knot ++ leBytes 1 kind ++ leBytes 1 ctx ++ leBytes 4 w.n ++ leBytes 2 num ++
        leBytes 1 (bitNat w.subtract) ++ leBytes 1 (if rel.contains w then 1 else 2) ++
        leBytes 4 (min (2 ^ 32 - 1) ((s.tick - w.since) * 4 / 1000))).flatten

/-- The knot words with every knot of a context's range frozen (R345, step 4). -/
def State.freezeRange (s : State) (c : Nat) : SMap Knot :=
  let b := s.reg (K.knotBase c)
  let n := s.reg (K.knotCount c)
  let mid : SMap Knot := (List.range n).map fun i => (b + i, { s.knot (b + i) with frozen := true })
  (s.knots.words.filter fun p => decide (p.1 < b)) ++ mid ++ (s.knots.words.filter fun p => decide (b + n ≤ p.1))

/-- The knot teardown of a reset context (R345); whole-device recovery writes no dump and removes every waiter with
DISCARDED (R419). -/
def State.knotTeardown (s : State) (c reason : Nat) : State :=
  let own := s.knots.waiters.filter fun w => w.ownedBy c
  let rel := s.knots.waiters.filter fun w => !w.ownedBy c && s.inRange c w.knot
  let (late, s) := s.takeFree
  let dump := s.knotDumpOf c reason (s.t64At (s.localTime + late % 5001)) rel own
  let s := (s.setBlob K.knotDump dump).setReg K.knotDumpContext c
  let s := s.setWaiters (s.knots.waiters.filter fun w => !(rel.contains w || own.contains w))
  let s := s.bump K.ownerResetReleases rel.length
  let s := rel.foldl (fun s w => s.notify w.issuer w.knot Status.ownerReset) s
  let s := own.foldl (fun s w => s.notify w.issuer w.knot Status.discarded) s
  let s := { s with knots := { s.knots with
      words := s.freezeRange c
      held := s.knots.held.filter fun h => h.ctx != c } }
  s.settleQueues ((own.map fun w => w.knot).filter fun k => !s.inRange c k)

end Sys2Proof.Machine
end

