-- ==== Sys2Proof/Machine/FieldOps.lean ====
section
/-! DEFINITION. Shared operations on the field banks, direct outputs, the alive output and the valve-link transmitters:
R43 to R47, R65, R274, R285 to R287, R289 to R297. -/

namespace Sys2Proof.Machine

/-! ### Field banks (R45, R47) -/

/-- What FieldBankState reads: 2 while the fuse is open, 0 below 18.0 V, else 1. -/
def State.bankState (s : State) (b : Nat) : Nat :=
  if SMap.get 0 s.supplies.fuseOpen b ≠ 0 then 2
  else if SMap.get 0 s.supplies.bankMv b < 18000 then 0 else 1

/-- Whether a bank can switch its outputs on (R45, R47): while any input is reversed no output is driven (R44). -/
def State.bankOn (s : State) (b : Nat) : Bool := s.bankState b == 1 && s.supplies.reversed == []

/-! ### Direct outputs (R285, R286) -/

/-- One direct output. -/
def State.dirOut (s : State) (o : Nat) : DirOut := SMap.get {} s.field.outs o

/-- Sets one direct output. -/
def State.setOut (s : State) (o : Nat) (x : DirOut) : State :=
  { s with field := { s.field with outs := SMap.set {} s.field.outs o x } }

/-- The valve type of a channel; 0xFF disables it (R264). -/
def State.chanType (s : State) (ch : Nat) : Nat :=
  match (s.blob K.channelValveType)[ch]? with
  | some b => b.toNat
  | none => 0xFF

/-- Whether an ejector channel is enabled (R264). -/
def State.chanEnabled (s : State) (ch : Nat) : Bool := decide (ch < 1152) && s.chanType ch != 0xFF

/-- Sets or clears one bit of a number. -/
def putBit (v i : Nat) (b : Bool) : Nat :=
  if v.testBit i = b then v else if b then v + 2 ^ i else v - 2 ^ i

/-- Whether the device is in a power state that drives outputs (R427). -/
def State.outputsLive (s : State) : Bool := s.power.st == .run || s.power.st == .ready

/-- A command to an output by its owner (R285): it switches unless its bank has no supply, its fuse is open, it is held
in OVERLOAD, or it rests for a tick under a new owner (R65). -/
def State.cmdOut (s : State) (o : Nat) (on : Bool) : State :=
  let x := s.dirOut o
  s.setOut o { x with cmd := on, cmdTick := s.tick, checked := !on
                      driven := on && s.bankOn (o / 32) && !x.overload && s.outputsLive && !x.rest }

/-- Every output of a bank goes off (R45, R47). -/
def State.bankOff (s : State) (b : Nat) : State :=
  { s with field := { s.field with outs := s.field.outs.map fun p =>
      if p.1 / 32 = b then (p.1, { p.2 with driven := false }) else p } }

/-! ### The alive output (R287) -/

/-- The output that carries the alive wave, when AliveDirectOutput names one. -/
def State.aliveOut (s : State) : Option Nat :=
  let n := s.reg K.aliveDirectOutput
  if n < 128 then some n else none

/-- Sets the alive wave's level, and that of the output which carries it. ALIVE_OUT is not driven while an input is
reversed (R44). -/
def State.setAlive (s : State) (running level : Bool) : State :=
  let level := level && s.supplies.reversed == []
  let s := { s with field := { s.field with alive := { s.field.alive with running, level, edge := s.tick } } }
  let s := s.setReg K.aliveState (bitNat running)
  match s.aliveOut with
  | some o => s.cmdOut o level
  | none => s

/-- Writes AliveStopCause: the highest cause that holds (R287). -/
def State.aliveCause (s : State) (causes : List Nat) : State :=
  { s.setReg K.aliveStopCause (causes.foldl max 0) with
    field := { s.field with alive := { s.field.alive with causes } } }

/-- Stops the alive wave for a cause. -/
def State.aliveStopFor (s : State) (c : Nat) : State :=
  let a := s.field.alive.causes
  (s.setAlive false false).aliveCause (if a.contains c then a else a ++ [c])

/-- A cause clears: once none holds the wave restarts with a rising edge. -/
def State.aliveClear (s : State) (c : Nat) : State :=
  let a := s.field.alive.causes.filter (· != c)
  let s := s.aliveCause a
  if a = [] ∧ s.field.alive.running = false then s.setAlive true true else s

/-! ### Valve links (R289 to R297) -/

/-- One valve-link port. -/
def State.vl (s : State) (p : Nat) : VLink := SMap.get {} s.field.vl p

/-- Sets one valve-link port, with ValveLinkState. -/
def State.setVl (s : State) (p : Nat) (x : VLink) : State :=
  { (s.setReg (K.valveLinkState p) x.st.code) with field := { s.field with vl := SMap.set {} s.field.vl p x } }

/-- The port of a valve-link channel. -/
def chanPort (ch : Nat) : Nat := (ch - 128) / 256

/-- The valve of a valve-link channel. -/
def chanValve (ch : Nat) : Nat := (ch - 128) % 256

/-- Whether the ejection unit owns a port: any channel of it is enabled (R264). -/
def State.vlOwned (s : State) (p : Nat) : Bool := (List.range 256).any fun i => s.chanEnabled (128 + 256 * p + i)

/-- Whether frames go out on a port: not in reset, not in power-fail and not in near-end loopback (R46, R300). -/
def State.vlSends (s : State) (p : Nat) : Bool := !s.supplies.inReset && !s.boot.halted && s.reg (K.valveLinkTest p) != 1

/-- The bytes of a frame between its framing characters that its CRC covers (R290). -/
def vlBody (typ seq : Nat) (payload : List Byte) : List Byte :=
  leBytes 1 typ ++ leBytes 1 seq ++ leBytes 1 payload.length ++ payload

/-- Whether a received frame passes its CRC (R290). -/
def VlFrame.crcOk (f : VlFrame) : Bool := f.crc == crc16 0x1021 (vlBody f.typ f.seq f.payload)

/-- Sends a frame (R290): the bytes between the framing characters. -/
def State.vlFrame (s : State) (p typ seq : Nat) (payload : List Byte) : State :=
  let b := vlBody typ seq payload
  if s.vlSends p then s.send (.valveFrame p typ (b ++ leBytes 2 (crc16 0x1021 b))) else s

/-- Sends an ARM or DISARM frame with the next control sequence (R294). -/
def State.vlControl (s : State) (p typ : Nat) (payload : List Byte) : State :=
  let x := s.vl p
  let s := s.setVl p { x with ctlSeq := (x.ctlSeq + 1) % 256
                              unacked := x.unacked ++ [{ seq := x.ctlSeq, typ, payload, sent := s.tick }] }
  s.vlFrame p typ x.ctlSeq payload

/-- The group mask and the valve masks of a set of valves (R291). -/
def valveMasks (vs : List Nat) : List Byte :=
  let groups := (List.range 8).filter fun g => vs.any fun v => v / 32 == g
  leBytes 1 (groups.foldl (fun m g => m + 2 ^ g) 0) ++
    (groups.map fun g => leBytes 4 ((vs.filter fun v => v / 32 == g).eraseDups.foldl (fun m v => m + 2 ^ (v % 32)) 0)).flatten

/-- An ARM frame (R291): edge 0 removes valves. -/
def State.vlArm (s : State) (p tag edge : Nat) (vs : List Nat) : State :=
  s.vlControl p 0x02 (leBytes 2 tag ++ leBytes 1 edge ++ valveMasks vs)

/-- Adds valves to an edge set's tag, or takes the next tag cyclically (R295); answers the tag. -/
def State.vlAddTag (s : State) (p edge : Nat) (pos : Int) (vt : Nat) (moved : Bool) (vs : List Nat) : Nat × State :=
  let x := s.vl p
  match x.tags.find? fun t => t.edge == edge && t.pos == pos && t.vtype == vt && t.moved == moved && t.strobed.isNone with
  | some t =>
    let new := vs.filter fun v => !t.valves.contains v
    if new = [] then (t.tag, s)
    else (t.tag, (s.setVl p { x with tags := x.tags.map fun u =>
            if u = t then { u with valves := u.valves ++ new } else u }).vlArm p t.tag edge new)
  | none =>
    let n := x.nextTag
    (n, (s.setVl p { x with
          nextTag := if n = 0x3FFE then 0 else n + 1
          tags := (x.tags.filter fun t => t.tag != n) ++ [{ tag := n, edge, pos, vtype := vt, moved, valves := vs }] }).vlArm
        p n edge vs)

/-- Removes valves from the tags that hold them, not yet strobed, where a test says so (R295). -/
def State.vlPrune (s : State) (p : Nat) (keep : Tag → Nat → Bool) : State :=
  (s.vl p).tags.foldl (fun s t =>
    if t.strobed.isSome then s
    else
      let gone := t.valves.filter fun v => !keep t v
      if gone = [] then s
      else
        let x := s.vl p
        let left := t.valves.filter fun v => keep t v
        (s.setVl p { x with tags := if left = [] then x.tags.filter (· != t)
                                    else x.tags.map fun u => if u = t then { u with valves := left } else u }).vlArm
          p t.tag 0 gone) s

/-- Queues a strobe (R289, R292). -/
def State.vlStrobe (s : State) (p prio tag : Nat) : State :=
  let x := s.vl p
  s.setVl p { x with strobes := x.strobes ++ [{ prio, tag, tc := s.tick }] }

/-- Sends ALL_OFF on a port (R295). -/
def State.vlAllOff (s : State) (p : Nat) : State := s.vlStrobe p 1 0x3FFF

/-- A port loses its driver (R297). -/
def State.vlLose (s : State) (p : Nat) : State :=
  let x := s.vl p
  let s := s.bump (K.driverLosses p)
  let s := s.setVl p { x with st := .lost, since := s.tick, tags := [], unacked := [], strobes := [], echoes := []
                              echoSent := none, rtt := none }
  s.report FCode.valveLinkLost Unit.valveLinks (p + 256 * x.st.code)

/-- A port fails a check of bring-up (R296). -/
def State.vlFail (s : State) (p cause : Nat) : State :=
  let x := s.vl p
  (s.setVl p { x with st := .failed, since := s.tick, tags := [], unacked := [], echoes := [], echoSent := none
                      rtt := none }).setReg (K.valveLinkFailCause p) cause

end Sys2Proof.Machine
end

