-- ==== Sys2Proof/Machine/EjectOps.lean ====
section
/-! DEFINITION. The ejection unit: edge positions, taking up decisions, the compares of a tick and the measurement of
edges (R265 to R274). Positions are in 1/65,536 bc. -/

namespace Sys2Proof.Machine

/-- Distance travelled in `ns` at the speed in force, rounded toward zero to 1/65,536 bc (R265, R17). -/
def State.travel (s : State) (ns : Nat) : Int := (s.belt.v * ns).tdiv (2 ^ 26)

/-- L_on of a channel (R266). -/
def State.latOn (s : State) (ch : Nat) : Nat := if ch < 128 then s.reg (K.directOnLatency ch) else s.reg K.valveLinkLatency

/-- L_off of a channel (R266). -/
def State.latOff (s : State) (ch : Nat) : Nat := if ch < 128 then s.reg (K.directOffLatency ch) else s.reg K.valveLinkLatency

/-- Open edge E_o (R265). -/
def State.openEdge (s : State) (ch : Nat) (p : Pulse) : Int := p.openPos - s.travel (s.reg (K.valveOpenDelay (s.chanType ch)))

/-- Close edge E_c, or the deferred close while the close is deferred (R265, R268). -/
def State.closeEdge (s : State) (ch : Nat) (p : Pulse) : Int :=
  match p.deferred with
  | some t => s.belt.ibp + s.travel (4 * (t - s.tick) + s.latOff ch)
  | none => p.closePos - s.travel (s.reg (K.valveCloseDelay (s.chanType ch)))

/-- Open compare (R265). -/
def State.openCmp (s : State) (ch : Nat) (p : Pulse) : Int := s.openEdge ch p - s.travel (s.latOn ch)

/-- Close compare (R265). -/
def State.closeCmp (s : State) (ch : Nat) (p : Pulse) : Int :=
  p.closePos - s.travel (s.reg (K.valveCloseDelay (s.chanType ch))) - s.travel (s.latOff ch)

/-- Whether compares run (R270): the belt is followed forward and is not lost. -/
def State.comparesRun (s : State) : Bool :=
  s.belt.st == .forward || (s.belt.st == .holdover && s.belt.follow == .forward)

/-- Pulses of a channel, in ascending position. -/
def State.pulses (s : State) (ch : Nat) : List Pulse := SMap.get [] s.eject.pulses ch

/-- Sets the pulses of a channel. -/
def State.setPulses (s : State) (ch : Nat) (l : List Pulse) : State :=
  { s with eject := { s.eject with pulses := SMap.set [] s.eject.pulses ch l } }

/-- Pulses in the store. -/
def State.pulseCount (s : State) : Nat := (s.eject.pulses.map fun p => p.2.length).sum

/-- Writes PulsesPending and its peak (R278). -/
def State.tallyPulses (s : State) : State := (s.setReg K.pulsesPending s.pulseCount).peak K.pulsesPeak s.pulseCount

/-- Writes the list of channels switched on, with ChannelsOn. -/
def State.setChanOn (s : State) (l : List Nat) : State :=
  { s.setReg K.channelsOn l.length with eject := { s.eject with chanOn := l } }

/-- Marks a channel on or off. -/
def State.markOn (s : State) (ch : Nat) (on : Bool) : State :=
  s.setChanOn (if on then (s.eject.chanOn.filter (· < ch)) ++ [ch] ++ s.eject.chanOn.filter (ch < ·)
               else s.eject.chanOn.filter (· != ch))

/-- Whether an edge on a channel would be driven (R274, R286, R297). -/
def State.canDrive (s : State) (ch : Nat) : Bool :=
  if ch < 128 then s.bankOn (ch / 32) && !(s.dirOut ch).overload && s.outputsLive
  else (s.vl (chanPort ch)).st == .active

/-- The measurement of a channel's latest edge of a level (R272): one whose stamp never came gives way to it; none where the
edge is not measured. -/
def State.setRef (s : State) (ch : Nat) (level : Bool) (r : Option EdgeRef) : State :=
  { s with eject := { s.eject with refs :=
      (s.eject.refs.filter fun r => !(r.channel == ch && r.level == level)) ++ r.toList } }

/-- Switches a channel (R265, R273, R274): a direct output is commanded, a valve link strobes the edge set's tag. The
edge counts as a driven valve edge (R443). -/
def State.switchChan (s : State) (ch : Nat) (on : Bool) (base : Int) (moved : Bool) : State :=
  let s := s.markOn ch on
  let s := if ch < 128 then s.cmdOut ch on
    else
      let p := chanPort ch
      let edge := if on then 1 else 2
      let (tag, s) := s.vlAddTag p edge base (s.chanType ch) moved [chanValve ch]
      if (s.vl p).strobes.any fun q => q.tag == tag then s else s.vlStrobe p (if moved then 3 else 2) tag
  (s.count 2 0x0A01 1).setRef ch on (if moved then none else some { channel := ch, level := on, base })

/-- Drives an edge of a pulse, or counts it as not driven (R274). -/
def State.driveEdge (s : State) (ch : Nat) (on : Bool) (p : Pulse) (moved : Bool) : Bool × State :=
  if s.canDrive ch then (true, s.switchChan ch on (if on then p.openPos else p.closePos) moved)
  else if on then (false, (s.markOn ch true).bump K.outputNotDriven)
  else if p.driven then
    (false, ((if ch < 128 then s.cmdOut ch false else s).markOn ch false).bump K.outputNotDriven)
  else (false, (if ch < 128 then s.cmdOut ch false else s).markOn ch false)

/-- Whether a new pulse and a pending one merge (R268, first row). -/
def State.mergesWith (s : State) (ch : Nat) (new old : Pulse) : Bool :=
  let gap := s.travel (s.reg (K.valveMinOffTime (s.chanType ch)))
  decide (s.openEdge ch new < s.closeEdge ch old + gap) && decide (s.openEdge ch old ≤ s.closeEdge ch new)

/-- One pulse from the earlier open to the later close (R268). -/
def Pulse.merge (new old : Pulse) : Pulse :=
  { old with openPos := min new.openPos old.openPos, closePos := max new.closePos old.closePos, deferred := none }

/-- Inserts a pulse by position, merging it with the pulses it meets (R268, R273): the pulses, and how many merged. -/
def State.insertPulse (s : State) (ch : Nat) (new : Pulse) : List Pulse → List Pulse × Nat
  | [] => ([new], 0)
  | old :: rest =>
    if s.mergesWith ch new old then
      let (l, n) := s.insertPulse ch (new.merge old) rest
      (l, n + 1)
    else if new.openPos < old.openPos then (new :: old :: rest, 0)
    else
      let (l, n) := s.insertPulse ch new rest
      (old :: l, n)

/-- The channels that a decision record selects (R257): granule r of the mask, limited to the configured range. A record
carries neither the granule nor the range: they are those in force as it is taken up (DESIGN CHOICE, log entry 105). -/
def State.recChannels (s : State) (payload : Nat) : List Nat :=
  let first := bits payload 31 21
  let gr := s.reg K.valveGranule
  let last := s.reg K.valveChannelBase + s.reg K.valveChannelCount
  ((List.range 21).map fun i =>
    if bitOf payload i then ((List.range gr).map fun j => first + gr * i + j).filter (· < min last 1152) else []).flatten

/-- The pulse that a record asks for (R265). -/
def Decision.pulse (d : Decision) : Pulse :=
  { openPos := d.pos * 65536, closePos := (d.pos + bits d.payload 63 48) * 65536 }

/-- Takes up a decision record (R265, R267 to R269, R277). Lateness is judged while the compares run (log entry 20). -/
def State.takeUpDecision (s : State) (d : Decision) : State :=
  if bitOf d.flags 0 = false then s
  else
    let all := s.recChannels d.payload
    let chans := all.filter fun c => s.chanEnabled c
    let s := if chans.length < all.length then s.bump K.disabledChannelRequests else s
    let p := d.pulse
    let ibp : Int := s.belt.ibp
    let run := s.comparesRun
    let late := chans.filter fun c => run && decide (s.openCmp c p ≤ ibp)
    let missed := late.filter fun c => decide (s.closeCmp c p ≤ ibp)
    let use := chans.filter fun c => !missed.contains c
    let plan := use.map fun c => (c, s.insertPulse c p (s.pulses c))
    let total := s.pulseCount + (plan.map fun x => x.2.1.length).sum - (use.map fun c => (s.pulses c).length).sum
    let full := decide (32768 < total) || plan.any fun x => decide (64 < x.2.1.length)
    let s := if full then
        (s.bump K.storeFullRefused).emit (s.recPos RType.ejectionRefused Unit.ejection d.pos
          (bits d.payload 31 21 + 65536 * chans.length + 2 ^ 32 * s.pulseCount))
      else
        let s := plan.foldl (fun s x => s.setPulses x.1 x.2.1) s
        let merged := (plan.map fun x => x.2.2).sum
        ((s.bump K.pulsesMerged merged).bump K.pulsesScheduled plan.length).tallyPulses
    if late = [] then s
    else
      let driven := if full then [] else use
      let first := late.foldl (fun (m : Int) c => min m (s.openCmp c p)) ibp
      let r := s.recPos RType.lateDecision Unit.ejection d.pos
        (bits d.payload 31 21 + 65536 * driven.length + 2 ^ 32 * min (2 ^ 32 - 1) ((ibp - first) / 65536).toNat)
      let s := s.bump K.lateDecisions
      let s := if driven = [] then s.bump K.missedDecisions else s
      s.emit r

/-- Tick from which a close may be commanded so that MinOnTime is met (R268). -/
def State.minOnTick (s : State) (ch : Nat) (p : Pulse) : Nat :=
  p.onTick + (s.latOn ch + s.reg (K.valveMinOnTime (s.chanType ch)) - s.latOff ch + 3) / 4

/-- Tick at which a channel on since `onTick` has been on for MaxOnTime (R268). -/
def State.maxOnTick (s : State) (ch onTick : Nat) : Nat :=
  onTick + (s.latOn ch + s.reg (K.valveMaxOnTime (s.chanType ch)) - s.latOff ch + 3) / 4

/-- Whether a compare was passed before this tick at the measured speed: its edge is late or driven at a jump, and R271
excludes it (log entry 47). -/
def State.passedBefore (s : State) (c : Int) : Bool := decide (c + s.travel 4 < s.belt.ibp)

/-- The compares of one channel in one tick, at most one edge (R265, R268 to R270, R273). -/
def State.tickChan (s : State) (ch : Nat) : State :=
  let ibp : Int := s.belt.ibp
  match s.pulses ch with
  | [] => s
  | p :: rest =>
    if p.on = false ∧ p.split.isNone then
      if s.openCmp ch p ≤ ibp then
        if s.closeCmp ch p ≤ ibp then (s.setPulses ch rest).bump K.pulsesMissed
        else
          let (ok, s) := s.driveEdge ch true p (s.passedBefore (s.openCmp ch p))
          s.setPulses ch ({ p with on := true, onTick := s.tick, driven := ok } :: rest)
      else s
    else if p.split.isSome then s
    else if p.deferred.isSome then s
    else if s.closeCmp ch p ≤ ibp then
      let near := match rest with
        | q :: _ => decide (s.openEdge ch q < s.closeEdge ch p + s.travel (s.reg (K.valveMinOffTime (s.chanType ch))))
        | [] => false
      match near, rest with
      | true, q :: rest' => (s.setPulses ch ({ p with closePos := max p.closePos q.closePos } :: rest')).bump K.pulsesMerged
      | _, _ =>
        if s.tick < s.minOnTick ch p then
          let d := { p with deferred := some (s.minOnTick ch p) }
          match rest with
          | q :: rest' =>
            if s.openEdge ch q < s.closeEdge ch d + s.travel (s.reg (K.valveMinOffTime (s.chanType ch))) then
              (s.setPulses ch ({ p with closePos := max p.closePos q.closePos } :: rest')).bump K.pulsesMerged
            else s.setPulses ch (d :: rest)
          | [] => s.setPulses ch [d]
        else
          let (_, s) := s.driveEdge ch false p (s.passedBefore (s.closeCmp ch p))
          s.setPulses ch rest
    else s

/-- Every channel switches off: the belt is not followed forward (R270), or BeltReorigin discards the store (R30). A pulse
that MaxOnTime has switched off for a while has opened too, and is interrupted (DEDUCED, log entry 105). -/
def State.channelsOff (s : State) : State :=
  let open' := fun (p : Pulse) => p.on || p.split.isSome
  let hit := (s.eject.pulses.filter fun p => p.2.any open').map (·.1)
  let on := hit.filter fun c => s.eject.chanOn.contains c
  let s := hit.foldl (fun s c => s.setPulses c ((s.pulses c).filter fun p => !open' p)) s
  let s := on.foldl (fun s c => ((if c < 128 then s.cmdOut c false else s).markOn c false).setRef c false none) s
  let ports := ((on.filter (128 ≤ ·)).map chanPort).eraseDups
  let s := ports.foldl (fun s p => s.vlAllOff p) s
  (s.bump K.pulsesInterrupted hit.length).tallyPulses

/-- Discards every pending pulse, as BeltReorigin does (R30, R270, R295). -/
def State.discardPulses (s : State) : State :=
  let on := s.eject.chanOn
  let s := on.foldl (fun s c => (if c < 128 then s.cmdOut c false else s).markOn c false) s
  let s := { s with eject := { s.eject with pulses := [], refs := [] } }
  let s := (List.range 4).foldl (fun s p =>
    if (s.vl p).tags = [] then s
    else (s.setVl p { s.vl p with tags := [], strobes := [] }).vlControl p 0x03 (leBytes 2 0x3FFF ++ leBytes 2 0)) s
  s.tallyPulses

/-- Keeps a valve link's tags in step with the pulses (R295): edge sets within ArmLead are armed, and valves whose edge
no longer stands are removed. -/
def State.armPass (s : State) (p : Nat) : State :=
  if (s.vl p).st = .arming ∨ (s.vl p).st = .active then
    let chans := (s.eject.pulses.map (·.1)).filter fun c => decide (128 ≤ c) && chanPort c == p
    let edges := (chans.map fun c => ((s.pulses c).map fun u =>
      (if u.on || u.split.isSome then [] else [(1, u.openPos, c, s.openCmp c u)]) ++
        [(2, u.closePos, c, s.closeCmp c u)]).flatten).flatten
    let s := s.vlPrune p fun t v => t.moved || edges.any fun e =>
      e.1 == t.edge && decide (e.2.1 = t.pos) && chanValve e.2.2.1 == v && s.chanType e.2.2.1 == t.vtype
    let near := edges.filter fun e => decide (e.2.2.2 - s.belt.ibp ≤ s.travel (s.reg K.armLead * 1000))
    near.foldl (fun s e => (s.vlAddTag p e.1 e.2.1 (s.chanType e.2.2.1) false [chanValve e.2.2.1]).2) s
  else s

/-- Ends the running test pulse with a status (R276). -/
def State.endTest (s : State) (status : Nat) : State :=
  match s.eject.test with
  | none => s
  | some t =>
    let live := s.canDrive t.channel
    let s := if t.channel < 128 then s.cmdOut t.channel false
      else if live then
        let (tag, s) := s.vlAddTag (chanPort t.channel) 2 (s.tick : Int) 0 true [chanValve t.channel]
        s.vlStrobe (chanPort t.channel) 3 tag
      else s
    let s := (s.markOn t.channel false).setRef t.channel false
      (if live then some { channel := t.channel, level := false, base := 0, ref := some (s.localTime + s.latOff t.channel) }
       else none)
    { s with
      eject := { s.eject with test := none }
      ctl := { s.ctl with cmdStatus := SMap.set 0 s.ctl.cmdStatus K.valveTestPulse status } }

/-- Counts a measured edge (R272). -/
def State.measure (s : State) (err : Int) : State :=
  let first := s.reg K.fireEdgesMeasured = 0
  let s := s.bump K.fireEdgesMeasured
  let s := if err < -100 ∨ 100 < err then s.bump K.fireEdgesOutside else s
  let s := if first ∨ err < s.sreg 32 K.fireErrorMin then s.setReg K.fireErrorMin (unsigned 32 err) else s
  if first ∨ s.sreg 32 K.fireErrorMax < err then s.setReg K.fireErrorMax (unsigned 32 err) else s

/-- Completes the measurement of edges whose stamp and reference are both known (R272). -/
def State.settleRefs (s : State) : State :=
  let done := s.eject.refs.filter fun r => r.ref.isSome && r.stamp.isSome
  let s := { s with eject := { s.eject with refs := s.eject.refs.filter fun r => !(r.ref.isSome && r.stamp.isSome) } }
  done.foldl (fun s r => s.measure ((r.stamp.getD 0 : Int) - r.ref.getD 0)) s

/-- Gives a driven edge its stamp (R272). -/
def State.stampEdge (s : State) (ch : Nat) (level : Bool) (ns : Nat) : State :=
  let s := { s with eject := { s.eject with refs := s.eject.refs.map fun (r : EdgeRef) =>
    if r.channel = ch ∧ r.level = level ∧ r.stamp.isNone then { r with stamp := some ns } else r } }
  s.settleRefs

/-- Gives edges their reference instant in the tick in which the emitted IBP reaches their position (R272): interpolated
to 1 ns within the tick from the IBP at its two ends. -/
def State.refPass (s : State) (prev : Nat) : State :=
  let now : Int := s.belt.ibp
  let was : Int := prev
  let s := { s with eject := { s.eject with refs := s.eject.refs.map fun (r : EdgeRef) =>
    let e := if r.level then r.base - s.travel (s.reg (K.valveOpenDelay (s.chanType r.channel)))
             else r.base - s.travel (s.reg (K.valveCloseDelay (s.chanType r.channel)))
    if r.ref.isNone ∧ e ≤ now ∧ was < now then
      { r with ref := some (4 * (s.tick - 1) + (4 * (clampInt was now e - was) / (now - was)).toNat) }
    else r } }
  s.settleRefs

end Sys2Proof.Machine
end

