-- ==== Sys2Proof/Machine/FaultOps.lean ====
section
/-! DEFINITION. What a fault sets off: the teardown of a context, whole-device recovery and the reset of the module
(R408, R412 to R416, R419 to R422), as operations that every detecting rule shares. -/

namespace Sys2Proof.Machine

/-! ### Reset of the module (R46, R408, R457) -/

/-- The entries that a module in reset keeps reading: BootCount and the overwrites of the non-volatile log (R476), and after
JUNCTION_LIMIT the temperatures that its start-up waits for (R408). -/
def resetKeeps (code : Nat) : List Nat :=
  [K.bootCount, K.logOverwrites 1] ++ (if code = FCode.junctionLimit then (List.range 10).map K.dieTemperature else [])

/-- The module in reset: what R60 and R476 do not keep is gone. It keeps what manufacture wrote, the non-volatile fault
log with its overwrite count, BootCount, the blob store, the supplies as measured, the fuses that are open (R47) and what
it has sent. -/
def State.enterReset (s : State) (code : Nat) : State :=
  { pending := s.pending
    tick := s.tick
    freeN := s.freeN
    mfg := s.mfg
    out := s.out
    regs := (resetKeeps code).foldl (fun m k => SMap.set (defaultOf s.mfg k) m k (s.reg k)) []
    ctl := { serving := false }
    supplies := { s.supplies with inReset := true, resetDue := some code }
    faults := { nv := s.faults.nv, overCount := SMap.set 0 [] 2 (s.overwrites 2), lateFull := s.faults.lateFull }
    boot := { step := 2, ready := false
              slots := s.boot.slots.map fun p => (p.1, { p.2 with loaded := [] }) } }

/-- A fault of scope RESET: noted and recorded, then R46 steps 1 to 5. -/
def State.raiseReset (s : State) (code src : Nat) (detail : Nat := 0) : State :=
  let (r, s) := s.noteFault code .reset src 0xFF detail
  (s.issueFault r).enterReset code

/-! ### The fallback gap (R416 to R418) -/

/-- One record of a gap segment (R417): record `r` of the segment that starts at `start`. -/
def State.gapRecord (s : State) (start r : Nat) : State :=
  let gr := max 1 (s.reg K.valveGranule)
  let n := min 21 (ceilDiv (s.reg K.valveChannelCount) gr - 21 * r)
  let eject := s.reg K.fallbackAction == 1
  let p := (((start : Int) + s.reg K.ejectorDistance - s.reg K.leadMargin) % 2 ^ 48).toNat
  let len := s.reg K.noTrackLength + s.reg K.leadMargin + s.reg K.trailMargin
  let valves := if eject then 2 ^ n - 1 + 2 ^ 21 * (s.reg K.valveChannelBase + gr * 21 * r) else 0
  let x := s.recPos RType.decision Unit.track p (valves + 2 ^ 40 * 0xF3 + 2 ^ 48 * (len % 65536)) 0 (bitNat eject + 2 + 4)
  let s := ((s.bump K.fallbackDecisions).bump K.gapRecords).bump K.decisionsIssued
  (s.emit x).takeUpDecision { pos := x.pos, flags := x.flags, payload := x.payload, time := x.time }

/-- The records of one gap segment (R417). -/
def State.gapSegment (s : State) (start : Nat) : State :=
  (List.range (ceilDiv (s.reg K.valveChannelCount) (21 * max 1 (s.reg K.valveGranule)))).foldl
    (fun s r => s.gapRecord start r) s

/-- Closes the fallback gap (R418). -/
def State.closeGap (s : State) : State :=
  { s.setReg K.fallbackGapOpen 0 with faults := { s.faults with gap := none } }

/-- Issues the segments whose start the emitted IBP has reached, in ascending order, and closes the gap once it reaches
the position of the resuming stripe, before which the last segment starts (R417, R418). -/
def State.gapLoop : Nat → State → State
  | 0, s => s
  | n + 1, s =>
    match s.faults.gap with
    | none => s
    | some g =>
      let start := g.origin + g.next * s.reg K.noTrackLength
      let past := match g.closeAt with
        | some c => decide (c ≤ start)
        | none => false
      if past then (if (g.closeAt.getD 0) ≤ s.pos then s.closeGap else s)
      else if s.pos < start then s
      else
        let s := { s with faults := { s.faults with gap := some { g with next := g.next + 1 } } }
        State.gapLoop n (s.gapSegment start)

/-- The segments that are due now (R417). -/
def State.gapPass (s : State) : State :=
  match s.faults.gap with
  | none => s
  | some g => State.gapLoop ((s.pos - g.origin) / max 1 (s.reg K.noTrackLength) + 2 - g.next) s

/-- Opens the fallback gap, while a REALTIME plan is in force, and issues at once what is due (R416, R417). A gap that is
open still stays open past the stripe with which the context had resumed. -/
def State.openGap (s : State) : State :=
  if s.faults.gap.isSome then
    { s with faults := { s.faults with gap := s.faults.gap.map fun g => { g with closeAt := none } } }
  else if (s.rtPlan).isSome then
    ({ s.setReg K.fallbackGapOpen 1 with
      faults := { s.faults with gap := some { origin := s.reg K.fallbackOrigin, next := 0, closeAt := none } } } : State).gapPass
  else s

/-! ### Tearing down a context (R412) -/

/-- Whether a context belongs to a tether group: its plan declares more than one module (R215). -/
def State.isGroupCtx (s : State) (c : Nat) : Bool :=
  match (s.ctx c).plan with
  | some p => decide (1 < p.modules)
  | none => false

/-- A freeze of a die ends (R136, R137): its cycles go to the period, to the counters, and into every cycle that was
still to come on the die. The cycles are the ticks since its start at the CCLK in force. -/
def State.unfreeze (s : State) (die : Nat) : State :=
  match SMap.get 0 s.engine.frozen die with
  | 0 => s
  | at' + 1 =>
    let n := (s.tick + 1 - SMap.get (s.tick + 1) s.faults.freezeAt die) * s.engine.cclk / 250
    let c := SMap.get 0 s.engine.frozenCtx die
    let base := match s.engine.period with
      | some p => p.start
      | none => 0
    let shift := fun (t : TagRun) (v : Nat) => if v = 0xFFFF ∨ base + t.actual + v ≤ at' then v else v + n
    let s := { s with
      engine := { s.engine with
        frozen := SMap.erase s.engine.frozen die, frozenCtx := SMap.erase s.engine.frozenCtx die
        starving := SMap.erase s.engine.starving die
        openEnd := s.engine.openEnd.map (fun (p : Nat × Nat) => if p.1 = die then (p.1, p.2 + n) else p)
        period := s.engine.period.map (fun (p : Period) =>
          { p with frozen := SMap.set 0 p.frozen die (SMap.get 0 p.frozen die + n) })
        ctxs := s.engine.ctxs.map (fun (p : Nat × Context) =>
          (p.1, { p.2 with run := p.2.run.map fun (r : StepRun) => if r.die = die then { r with start := r.start + n } else r })) }
      faults := { s.faults with freezeAt := SMap.erase s.faults.freezeAt die }
      perf := { s.perf with tags := s.perf.tags.map (fun (p : Nat × TagRun) =>
        if p.1 = die then (p.1, { p.2 with toRow := shift p.2 p.2.toRow, toWrite := shift p.2 p.2.toWrite, frozen := p.2.frozen + n }) else p) } }
    (s.bump (K.freezeCycles die) n).count die 0x0104 n 1 c

/-- The height that a begun stripe is numbered by (R233). -/
def State.dropHeight (s : State) (j : Nat) : Nat :=
  let p : Option Plan := match s.engine.old with
    | some p => if j < s.engine.oldLast then some p else s.rtPlan
    | none => s.rtPlan
  match p with
  | some p => p.stripeLines
  | none => 64

/-- The marks, aborts, saturations and skews of a background context's work go with it (R130, R140, R164). -/
def State.clearJob (s : State) (c : Nat) : State :=
  let j := jobStripe c
  { s with engine := { s.engine with
      aborted := s.engine.aborted.filter fun x => x.2.2 != j
      stickySat := s.engine.stickySat.filter fun x => x.2.2 != j
      marks := s.engine.marks.filter fun x => x.2.2.1 != j
      skewed := s.engine.skewed.filter fun x => x.2.2 != j
      halo := s.engine.halo.filter fun x => x.stripe != j } }

/-- Ends what the context has running on the dies (R412, the rows of 2 µs to 100 µs): its period or step, its frozen
dies, its held actions, what it sent to other members (R357), its aborts, its buffers and, for context 0, its tracks. -/
def State.dropWork (s : State) (c : Nat) : State :=
  let s := [0, 1].foldl (fun (s : State) d => match SMap.find? s.engine.starving d with
    | some (c', _) => if c' = c then s.unfreeze d else s
    | none => s.unfreeze d) s
  let s := s.clearJob c
  let e := s.engine
  let s := { s with engine := { e with
    openTo := e.openTo.filter fun p => p.2 != c + 1
    lineBuf := if c = 0 then [] else e.lineBuf
    halo := if c = 0 then [] else e.halo
    parity := if c = 0 then [] else e.parity } }
  let s := s.setCtx c { s.ctx c with run := none, nextStep := 0 }
  let s := { s with knots := { s.knots with
    held := s.knots.held.filter (fun (a : HeldAction) => a.ctx != c)
    requests := s.knots.requests.filter (fun (r : TReq) => r.ctx != c) } }
  if c = 0 then
    let s := if s.engine.flushAction then
        { s with ctl := { s.ctl with cmdStatus := SMap.set 0 s.ctl.cmdStatus K.flush Status.discarded } }
      else s
    { s with
      engine := { s.engine with period := none, heldBufs := [], aborted := [], stickySat := [], rerun := [], flush := none,
                                flushAction := false, old := none, clip := [], marks := [], skewed := [], masked := []
                                scales := s.engine.scales.filter (fun (p : Nat × List Nat) => p.1 % 32 != 16) }
      tracks := { s.tracks with table := [], sums := [], regions := [], heldRecs := [], list := [], overs := [], markedFrom := none
                                cutNext := false }
      pipe := { s.pipe with
        stripes := []
        passing := s.pipe.passing ++ (s.pipe.stripes.filter fun p => !p.2.complete).map fun p =>
          ({ num := p.1, height := s.dropHeight p.1, need := p.2.need } : Passing) }
      belt := { s.belt with streamStart := true }
      memory := { s.memory with scratch := SMap.erase s.memory.scratch 16 }
      perf := { s.perf with tags := s.perf.tags.map fun p => if p.2.ctx = c then (p.1, { p.2 with flags := p.2.flags ||| 4 }) else p } }
  else { s with perf := { s.perf with tags := s.perf.tags.map fun p =>
                            if p.2.ctx = c then (p.1, { p.2 with flags := p.2.flags ||| 4 }) else p } }

/-- Begins a teardown (R412): the context is gloved, its commands not yet started are answered, its knots are torn down
and its work ends. The rows of 300 µs and 500 µs follow. -/
def State.startTeardown (s : State) (c : Nat) (t : Teardown) : State :=
  let s := s.setCtx c { s.ctx c with st := .gloved }
  let s := { s with faults := { s.faults with torn := SMap.put (SMap.erase s.faults.torn c) c t } }
  let s := s.finishWhere c (fun x => x.st == .fetched) Status.contextGloved
  let s := if c = 0 then s.openGap else s
  let s := s.knotTeardown c (if t.cmd then 1 else 2)
  s.dropWork c

/-- The row of 300 µs of a teardown (R412): the commands in progress and the accepted jobs complete with DISCARDED, and
the fault record follows them. -/
def State.finishTeardownWork (s : State) (c : Nat) : State :=
  match SMap.find? s.faults.torn c with
  | none => s
  | some t =>
    if t.recSent then s
    else
      let s := s.finishWhere c (fun _ => true) Status.discarded
      let s := s.setCtx c { s.ctx c with jobs := [] }
      let s := { s with faults := { s.faults with torn := SMap.put (SMap.erase s.faults.torn c) c { t with recSent := true } } }
      if t.suppress then s else s.emit t.fault

/-- Whether the teardown that a fault of scope CONTEXT starts now reaches RestartLimit (R415). -/
def State.restartLimitReached (s : State) (c : Nat) : Bool :=
  let w := s.reg K.restartWindow * 250000000
  decide (s.reg K.restartLimit ≤
    1 + (s.faults.history.filter fun p => p.1 == c && decide (s.tick < p.2 + w)).length)

/-- A fault charged to a context (R408, R415, R422): it is noted at once; a context that is GLOVED, STOPPED or EMPTY is
not torn down again. -/
def State.raiseCtx (s : State) (code : Nat) (scope : Scope) (src c : Nat) (detail : Nat := 0) : State :=
  let (r, s) := s.noteFault code scope src c detail
  match SMap.find? s.faults.torn c with
  | some t =>
    if t.start = s.tick ∧ t.code = FCode.contextReset ∧ scope ≠ .group then
      -- one teardown, with the fault's code and scope (R422)
      let stop := decide (scope = .contextStop) || (decide (scope = .context) && s.restartLimitReached c)
      { s with faults := { s.faults with
          torn := SMap.put (SMap.erase s.faults.torn c) c
            { t with code, stop, counted := decide (scope = .context), suppress := r.isNone
                     fault := r.getD t.fault }
          history := if scope = .context then (c, s.tick) :: s.faults.history else s.faults.history } }
    else
      let s := s.issueFault r
      if scope = .group ∨ scope = .contextStop then
        { s with faults := { s.faults with torn := SMap.put (SMap.erase s.faults.torn c) c { t with stop := true } } }
      else s
  | none =>
    if (s.ctx c).st = .stopped ∨ (s.ctx c).st = .empty ∨ (s.ctx c).st = .gloved ∨ s.faults.recovery.isSome then
      s.issueFault r
    else
      let stop := decide (scope = .contextStop) || decide (scope = .group) ||
        (decide (scope = .context) && s.restartLimitReached c)
      let s := if scope = .context then { s with faults := { s.faults with history := (c, s.tick) :: s.faults.history } }
               else s
      let dummy : Rec := s.faultRec code scope src c s.pos 0 detail
      s.startTeardown c { start := s.tick, code, stop, counted := decide (scope = .context), cmd := false
                          fault := r.getD dummy, suppress := r.isNone }

/-! ### Whole-device recovery (R419 to R421) -/

/-- Phase 1 of recovery for one context: a teardown (R415), without KnotDump (R419). One that a recovery cut short has
torn down already goes on. -/
def State.quiesceCtx (s : State) (c : Nat) : State :=
  if (s.ctx c).st = .empty then s
  else
    let s := if (s.ctx c).st = .gloved ∧ SMap.find? s.faults.torn c = none then s else s.bump (K.contextFaults c)
    let s := s.setCtx c { s.ctx c with st := .gloved, jobs := [] }
    let s := s.finishWhere c (fun x => x.st == .fetched) Status.contextGloved
    let s := s.finishWhere c (fun _ => true) Status.discarded
    s.dropWork c

/-- The records that the teardowns in progress have yet to issue: a recovery that takes over issues them (R422). -/
def State.tornRecs (s : State) : List Rec :=
  (s.faults.torn.filter fun p => !p.2.recSent && !p.2.suppress).map fun p => p.2.fault

/-- The context whose ContextReset a recovery takes over (R422). -/
def State.tornReset (s : State) : Option Nat :=
  ((List.find? (fun (p : Nat × Teardown) => p.2.cmd) s.faults.torn).map fun p => p.1).or (s.faults.recovery.bind fun v => v.reset)

/-- Phases 1 and 2 of whole-device recovery (R419): every context is quiesced, every waiter removed, the rings stop
fetching, the gap opens, the dictionary stops serving, the staging set goes (R420); then the fault records. What
CommitControl reads of a commit that is cut short is a free value other than IN_PROGRESS (log entry 1). -/
def State.startRecovery (s : State) (code : Nat) (r : Option Rec) : State :=
  let old := match s.faults.recovery with
    | some v => v.records
    | none => []
  let torn := s.tornRecs
  let reset := s.tornReset
  let s := s.openGap
  let s := (List.range 16).foldl (fun s c => s.quiesceCtx c) s
  let ws := s.knots.waiters
  let s := s.setWaiters []
  let s := ws.foldl (fun s w => s.notify w.issuer w.knot Status.discarded) s
  let s := s.bump K.recoveries
  let s := s.setReg K.lastRecoveryCause code
  let s := match s.ctl.phase with
    | .idle => s
    | _ =>
      let (f, s) := s.takeFree
      { s with ctl := { s.ctl with
          cmdStatus := SMap.set 0 s.ctl.cmdStatus K.commitControl (if f % 65535 = 0 then 0 else f % 65535 + 1) } }
  let held := decide (code = FCode.helperHalted) && (match r with
    | some x => decide (bits x.payload 23 16 = 2)
    | none => false)
  let s := if held then s else s.emitAll (torn ++ r.toList)
  { s.setReg K.bootState 3 with
    host := { s.host with fetching := false }
    ctl := { s.ctl with serving := false, staged := [], stagedBlobs := [], owner := 0, parts := [], phase := .idle }
    faults := { s.faults with
      torn := []
      gap := s.faults.gap
      stalled := true
      recoveries := s.tick :: s.faults.recoveries
      recovery := some { start := s.tick, cause := code, records := old ++ (if held then torn ++ r.toList else []), reset } } }

/-- Recoveries within the last RecoveryWindow (R419, R421). -/
def State.recentRecoveries (s : State) : Nat :=
  let w := s.reg K.recoveryWindow * 250000000
  (s.faults.recoveries.filter fun t => decide (s.tick < t + w)).length

/-- A fault of scope DEVICE: recovery, or scope RESET once RecoveryLimit is reached (R408, R421). -/
def State.raiseDevice (s : State) (code src : Nat) (detail : Nat := 0) : State :=
  if s.reg K.recoveryLimit ≤ s.recentRecoveries then s.raiseReset code src detail
  else
    let (r, s) := s.noteFault code .device src 0xFF detail
    s.startRecovery code r

end Sys2Proof.Machine
end

