-- ==== Sys2Proof/Machine/Cmd.lean ====
section
/-! DEFINITION. Writing CMD entries: the order of checks of R479 that every one shares, and what a CMD entry reads (R7).
A command's own body checks orders 9 to 11 and answers the status of the write. -/

namespace Sys2Proof.Machine

/-- Whether an entry is present on this assembly (R5, R39, R97, R439, R456, and the entries of each chapter that name
dies or links). -/
def present (m : Mfg) (idx sub : Nat) : Bool :=
  match findEntry idx sub with
  | none => false
  | some _ =>
    let two := m.part.ioDies == 2
    if 0x0401 ≤ idx ∧ idx ≤ 0x0411 ∧ idx ≠ 0x040A ∧ idx ≠ 0x0410 then decide (sub ≤ m.part.links)
    else if 0x0608 ≤ idx ∧ idx ≤ 0x060B then two
    else if idx = 0x0618 then decide (sub ≤ 4) || two
    else if idx = 0x0312 ∨ idx = 0x0315 ∨ idx = 0x0316 then
      (decide (sub ≤ 2)) || (decide (3 ≤ sub) && decide (sub ≤ 2 + m.part.memDies)) || sub == 9 || (sub == 10 && two)
    else if idx = 0x0B01 ∨ idx = 0x0B02 ∨ (0x0B04 ≤ idx ∧ idx ≤ 0x0B0C) ∨ idx = 0x0B0F then
      decide (sub ≤ m.part.memDies) || ((findEntry idx sub).map fun e => decide (6 < e.hi - e.lo + 1)).getD false ||
        decide (6 < sub)
    else if 0x1503 ≤ idx ∧ idx ≤ 0x150B then decide (sub ≤ 24) || two
    else if idx = 0x1502 then decide (sub ≤ 3) || two
    else if 0x1511 ≤ idx ∧ idx ≤ 0x1514 then
      if sub ≤ 0x60 then decide (sub ≤ 16 * m.part.memDies)
      else decide (sub ≤ 0x6A + m.part.links)
    else true

/-- ExpertAccess of the function of an entry (R40, R57, R149). -/
def expertKey (idx : Nat) : Nat :=
  if 0x0310 ≤ idx ∧ idx ≤ 0x03FF then 0x031001
  else if 0x0800 ≤ idx ∧ idx ≤ 0x08FF then 0x080001
  else idx / 256 * 65536 + 1

/-- What a CMD entry reads (R7). -/
def State.cmdRead (s : State) (k : Nat) : Nat := SMap.get 0 s.ctl.cmdStatus k

/-- Sets the status of the latest action started through a CMD entry (R7). -/
def State.cmdSet (s : State) (k st : Nat) : State :=
  { s with ctl := { s.ctl with cmdStatus := SMap.set 0 s.ctl.cmdStatus k st } }

/-- Answers a single dictionary write that came as a command of its own. -/
def State.answer (s : State) (sess k st : Nat) : State := s.send (.status sess k st)

/-- Whether a commit runs (R62). -/
def State.committing (s : State) : Bool :=
  match s.ctl.phase with
  | .idle => false
  | _ => true

/-- Checks 1, 2 and 5 to 8 of R479 for a CMD or a WO entry, which does not depend on its value. -/
def State.gate (s : State) (sess k : Nat) : Option Nat :=
  let idx := k / 256
  let sub := k % 256
  if s.ctl.serving = false ∨ s.faults.stalled = true then some Status.notReady
  else if present s.mfg idx sub = false then some Status.noEntry
  else
    let expert := match findEntry idx sub with
      | some e => e.expert
      | none => false
    if expert = true ∧ s.flag (expertKey idx) = false then some Status.expertLocked
    else if (k = K.commitControl ∨ k = K.discard) ∧ s.ctl.owner ≠ 0 ∧ s.ctl.owner ≠ sess then some Status.stageLocked
    else if k = K.discard ∧ s.committing = true then some Status.commitBusy
    else if s.cmdRead k = Status.inProgress then some Status.busy
    else none

/-- Writes a CMD entry: the shared checks, then the command's own body (R479). -/
def State.command (s : State) (sess k : Nat) (body : State → Nat × State) : Nat × State :=
  match s.gate sess k with
  | some st => (st, s)
  | none => body s

/-- The meaning of a row that writes a CMD entry: the write, and the status it answers. -/
def State.runCmd (s : State) (sess k : Nat) (body : State → Nat × State) : State :=
  let (st, s') := s.command sess k body
  s'.answer sess k st

/-- A command that is finished as soon as it is accepted (R7). -/
def State.cmdOk (s : State) (k : Nat) : Nat × State := (Status.ok, s.cmdSet k Status.ok)

/-- A command that runs on after its write (R7). -/
def State.cmdBegin (s : State) (k : Nat) : Nat × State := (Status.ok, s.cmdSet k Status.inProgress)

end Sys2Proof.Machine
end

