-- ==== Sys2Proof/Machine/PlanImage.lean ====
section
/-! DEFINITION. Reading a plan image: R215 to R222, R244, R325. -/

namespace Sys2Proof.Machine

/-! ### Slots (R214) -/

/-- One plan slot. -/
def State.planSlot (s : State) (n : Nat) : PlanSlot := SMap.get {} s.engine.slots n

/-- Sets one plan slot. -/
def State.setSlot (s : State) (n : Nat) (x : PlanSlot) : State :=
  { s with engine := { s.engine with slots := SMap.set {} s.engine.slots n x } }

/-- The bytes of the image that a plan runs from. -/
def State.image (s : State) (p : Plan) : List Byte := (s.planSlot p.slot).data

/-- The plans in force, the outgoing real-time plan among them while its stripes run (R233). -/
def State.plansInForce (s : State) : List Plan :=
  ((List.range 16).filterMap fun c => (s.ctx c).plan) ++ s.engine.old.toList

/-- What PlanSlotState reads (R214). -/
def State.slotState (s : State) (n : Nat) : Nat :=
  let x := s.planSlot n
  if x.st = 2 ∧ (s.plansInForce.any (fun p => p.slot == n) ∨
      (List.range 16).any (fun c => SMap.find? s.ctl.staged (K.contextPlanSlot c) == some n)) then 3
  else x.st

/-! ### Records (R216, R218 to R222) -/

def parseSection (b : List Byte) (o : Nat) : Section :=
  { typ := leAt b o 2, count := leAt b (o + 4) 4, off := leAt b (o + 8) 8, resv := leAt b (o + 2) 2 != 0 }

def parseTensor (b : List Byte) (o : Nat) : Tensor :=
  { num := leAt b o 2, die := leAt b (o + 2) 1, layout := leAt b (o + 3) 1, rows := leAt b (o + 4) 2
    width := leAt b (o + 6) 2, chans := leAt b (o + 8) 2, flags := leAt b (o + 10) 2, off := leAt b (o + 12) 4
    len := leAt b (o + 16) 4, scale := leAt b (o + 20) 4
    resv := leAt b (o + 24) 8 != 0 || decide (3 < leAt b (o + 10) 2) }

def parseLayer (b : List Byte) (o : Nat) : Layer :=
  { num := leAt b o 2, op := leAt b (o + 2) 1, mode := leAt b (o + 3) 1, flags := leAt b (o + 4) 2
    group := leAt b (o + 6) 1, xform := leAt b (o + 7) 1, inT := leAt b (o + 8) 2, outT := leAt b (o + 10) 2
    second := leAt b (o + 12) 2, act := leAt b (o + 14) 1, elemOp := leAt b (o + 15) 1
    comb := [leAt b (o + 16) 2, leAt b (o + 18) 2, leAt b (o + 20) 2], clipLimit := leAt b (o + 22) 2
    actA := leAt b (o + 24) 4, actB := leAt b (o + 28) 4, redLen := leAt b (o + 32) 4, outCh := leAt b (o + 36) 2
    groupK := leAt b (o + 38) 2, passes := leAt b (o + 40) 2, eps := leAt b (o + 42) 2, rowLen := leAt b (o + 44) 2
    rerunSlot := leAt b (o + 46) 2, wOff := leAt b (o + 48) 8, rwOff := leAt b (o + 56) 8, scale := leAt b (o + 64) 4
    params := leAt b (o + 68) 4, passMap := leAt b (o + 72) 4, dieMask := leAt b (o + 76) 1
    window := bytesAt b (o + 88) 40
    resv := leAt b (o + 77) 11 != 0 || decide (511 < leAt b (o + 4) 2) }

def parseKernel (b : List Byte) (o : Nat) : Kernel :=
  { start := leAt b o 4, cycles := leAt b (o + 4) 4, layer := leAt b (o + 8) 2, die := leAt b (o + 10) 1
    unit := leAt b (o + 11) 1, firstTile := leAt b (o + 12) 4, tiles := leAt b (o + 16) 4
    outGroup := leAt b (o + 20) 2, batch := leAt b (o + 22) 1, flags := leAt b (o + 23) 1, step := leAt b (o + 24) 2
    mem := leAt b (o + 28) 4, resv := leAt b (o + 26) 2 != 0 || decide (7 < leAt b (o + 23) 1) }

def parseSlot (b : List Byte) (o : Nat) : PSlot :=
  { start := leAt b o 4, len := leAt b (o + 4) 4, kind := leAt b (o + 8) 1, dieMask := leAt b (o + 9) 1
    ctxMask := leAt b (o + 10) 2, layer := leAt b (o + 12) 2, resv := leAt b (o + 14) 2 != 0 }

/-- A section of the directory, by type. -/
def Plan.sec (p : Plan) (typ : Nat) : Option Section := p.sections.find? fun x => x.typ == typ

/-- Image offset of a section. -/
def Plan.secOff (p : Plan) (typ : Nat) : Nat := ((p.sec typ).map Section.off).getD 0

/-- Count of a section. -/
def Plan.secCount (p : Plan) (typ : Nat) : Nat := ((p.sec typ).map Section.count).getD 0

/-- The records of a section. -/
def readRecs {α : Type} (f : List Byte → Nat → α) (b : List Byte) (x : Option Section) (size : Nat) : List α :=
  match x with
  | some x => (List.range x.count).map fun i => f b (x.off + size * i)
  | none => []

/-- Reads an image (R215 to R222). -/
def parsePlan (slot : Nat) (b : List Byte) : Plan :=
  let n := leAt b 0x34 2
  let secs := (List.range (min n 16)).map fun i => parseSection b (0x80 + 16 * i)
  let find (t : Nat) := secs.find? fun (x : Section) => x.typ == t
  { slot, magic := leAt b 0 4, format := leAt b 4 2, headerLen := leAt b 6 2, length := leAt b 8 8
    version := leAt b 16 4, detKey := leAt b 20 4, cls := leAt b 24 1, crossing := leAt b 25 1, modules := leAt b 26 1
    member := leAt b 27 1, stripeLines := leAt b 28 2, batch := leAt b 30 1, flush := leAt b 31 1
    periodCycles := leAt b 32 4, retryReserve := leAt b 36 4, decisionCycle := leAt b 40 4, lagLines := leAt b 44 4
    deadline := leAt b 48 4, sectionCount := n, activeCycles := leAt b 56 8, groupId := leAt b 64 8
    quads := (bytesAt b 0x48 24).map fun x => x.toNat
    resv := leAt b 0x36 2 != 0 || leAt b 0x60 32 != 0
    sections := secs
    layers := readRecs parseLayer b (find 1) 128
    kernels := readRecs parseKernel b (find 2) 32
    slots := readRecs parseSlot b (find 3) 16
    tensors := readRecs parseTensor b (find 4) 32
    buffers := readRecs (fun b o => (leAt b o 1, leAt b (o + 4) 4)) b (find 5) 8
    bufResv := (readRecs (fun b o => leAt b (o + 1) 3 != 0) b (find 5) 8).any id }

/-- One layer of a plan. -/
def Plan.layer (p : Plan) (n : Nat) : Layer := p.layers.getD n {}

/-- A tensor's record on a die with a layout that a test accepts (R218). -/
def Plan.tensor (p : Plan) (num die : Nat) (ok : Nat → Bool) : Option Tensor :=
  p.tensors.find? fun t => t.num == num && t.die == die && ok t.layout

/-- Cycles of a background step: to the latest end among its kernels (R221). -/
def Plan.stepCycles (p : Plan) (n : Nat) : Nat :=
  (p.kernels.filter fun k => k.step == n).foldl (fun m k => max m (k.start + k.cycles)) 0

/-- The step numbers of a background plan, ascending (R221). -/
def Plan.steps (p : Plan) : List Nat := ((p.kernels.map fun k => k.step).eraseDups).mergeSort fun a b => decide (a ≤ b)

/-- The die of a step (R221). -/
def Plan.stepDie (p : Plan) (n : Nat) : Nat := ((p.kernels.find? fun k => k.step == n).map fun k => k.die).getD 0

/-! ### Layer figures (R125, R157, R169, R176) -/

/-- Flags of a layer (R220). -/
def Layer.windowed (l : Layer) : Bool := bitOf l.flags 0
def Layer.bias (l : Layer) : Bool := bitOf l.flags 1
def Layer.residual (l : Layer) : Bool := bitOf l.flags 2
def Layer.rerun (l : Layer) : Bool := bitOf l.flags 3
def Layer.outInt8 (l : Layer) : Bool := bitOf l.flags 4
def Layer.outBf16 (l : Layer) : Bool := bitOf l.flags 5
def Layer.outFp32 (l : Layer) : Bool := bitOf l.flags 6
def Layer.hasPassMap (l : Layer) : Bool := bitOf l.flags 7
def Layer.decision (l : Layer) : Bool := bitOf l.flags 8

/-- A field of the window block (R176). -/
def Layer.win (l : Layer) (o n : Nat) : Nat := leAt l.window o n
def Layer.wOp (l : Layer) : Nat := l.win 0 1
def Layer.bounded (l : Layer) : Bool := bitOf (l.win 1 1) 0
def Layer.tapMajor (l : Layer) : Bool := bitOf (l.win 1 1) 1
def Layer.padMode (l : Layer) : Nat := bits (l.win 1 1) 3 2
def Layer.kh (l : Layer) : Nat := l.win 2 1
def Layer.kw (l : Layer) : Nat := l.win 3 1
def Layer.sh (l : Layer) : Nat := l.win 4 1
def Layer.sw (l : Layer) : Nat := l.win 5 1
def Layer.dh (l : Layer) : Nat := l.win 6 1
def Layer.dw (l : Layer) : Nat := l.win 7 1
def Layer.pt (l : Layer) : Nat := l.win 8 1
def Layer.pb (l : Layer) : Nat := l.win 9 1
def Layer.pl (l : Layer) : Nat := l.win 10 1
def Layer.pr (l : Layer) : Nat := l.win 11 1
def Layer.padValue (l : Layer) : Nat := l.win 12 2
def Layer.divisor (l : Layer) : Nat := l.win 14 1
def Layer.groups (l : Layer) : Nat := l.win 16 2
def Layer.cIn (l : Layer) : Nat := l.win 18 2
def Layer.cOut (l : Layer) : Nat := l.win 20 2
def Layer.wIn (l : Layer) : Nat := l.win 22 2
def Layer.wOut (l : Layer) : Nat := l.win 24 2
def Layer.inRows (l : Layer) : Nat := l.win 26 2
def Layer.outRows (l : Layer) : Nat := l.win 28 2
def Layer.rowLag (l : Layer) : Nat := l.win 30 1
def Layer.carry (l : Layer) : Nat := l.win 31 1

/-- Whether a layer multiplies and accumulates on the vector units: DEPTHWISE and GROUPED_VECTOR (R193, R206). -/
def Layer.mac (l : Layer) : Bool := l.op == 2 && (l.wOp == 3 || l.wOp == 4)

/-- Whether a layer resamples (R197). -/
def Layer.resamples (l : Layer) : Bool := l.wOp == 7 || l.wOp == 8

/-- Reduction rows per pass (R125). -/
def Layer.perPass (l : Layer) : Nat := if l.mode = 0 then 64 else if l.mode = 1 then 128 else 32

/-- Elements of a scale group; 0 unscaled (R157, R220). -/
def Layer.g (l : Layer) : Nat := if l.group = 1 then 32 else if l.group = 2 then 64 else if l.group = 3 then 128 else 0

/-- Transform size of a code (R169, R220). -/
def xformSize (c : Nat) : Nat := if c = 1 then 32 else if c = 2 then 64 else if c = 3 then 128 else 0

/-- Layers that read a tensor as their input. -/
def Plan.consumers (p : Plan) (t : Nat) : List Layer := p.layers.filter fun l => l.inT == t

/-- The transform that a tensor is written through (R169). -/
def Plan.outXform (p : Plan) (t : Nat) : Nat := (p.consumers t).foldl (fun m l => max m (xformSize l.xform)) 0

/-- The group size under which a tensor is quantised: the smallest of its consumers' (R165); 0 when none is scaled. -/
def Plan.outGroup (p : Plan) (t : Nat) : Nat :=
  ((p.consumers t).filter fun l => l.g != 0).foldl (fun m l => if m = 0 then l.g else min m l.g) 0

/-! ### Cycles of a kernel on the arrays (R125 to R128, R189) -/

/-- Operand mode of a kernel: a re-run works in BF16 split mode (R172). -/
def Plan.kernelMode (p : Plan) (k : Kernel) : Nat := if bitOf k.flags 2 then 2 else (p.layer k.layer).mode

/-- Load cycles of a mode (R125). -/
def loadCycles (mode : Nat) : Nat := if mode = 1 then 128 else 64

/-- Channels of a kernel's output group: K (R126). -/
def Plan.groupLen (p : Plan) (k : Kernel) : Nat :=
  let l := p.layer k.layer
  min l.groupK (l.outCh - k.outGroup * l.groupK)

/-- Cycles between slices: m (R125). -/
def Plan.sliceStep (p : Plan) (k : Kernel) : Nat := if p.kernelMode k = 2 then 2 else 1

/-- Passes of a kernel: P. -/
def Plan.passesOf (p : Plan) (k : Kernel) : Nat :=
  ceilDiv (p.layer k.layer).redLen (if p.kernelMode k = 0 then 64 else if p.kernelMode k = 1 then 128 else 32)

/-- Cycles of a pass (R126). -/
def Plan.passCycles (p : Plan) (k : Kernel) : Nat := max (p.groupLen k * p.sliceStep k) (loadCycles (p.kernelMode k))

/-- Cycles of one group on its array: D (R127). -/
def Plan.groupCycles (p : Plan) (k : Kernel) : Nat := max (p.passesOf k * p.passCycles k) (2 * p.groupLen k)

/-- First cycle of an array kernel's first load: the window engine delivers nine cycles late (R189). -/
def Plan.loadFrom (p : Plan) (k : Kernel) : Nat := k.start + if (p.layer k.layer).windowed then 9 else 0

/-- First compute cycle of an array kernel: after its first load (R126). -/
def Plan.computeFrom (p : Plan) (k : Kernel) : Nat := p.loadFrom k + loadCycles (p.kernelMode k)

/-- The cycle after an array kernel's last group began its time on the array. -/
def Plan.computeTo (p : Plan) (k : Kernel) : Nat := p.computeFrom k + k.tiles * p.groupCycles k

/-- First cycle of pass `i` of a tile. -/
def Plan.passFrom (p : Plan) (k : Kernel) (tile i : Nat) : Nat :=
  p.computeFrom k + tile * p.groupCycles k + i * p.passCycles k

/-- The cycles in which a kernel computes on its arrays: from each pass's first slice to past its last one. -/
def Plan.macRuns (p : Plan) (k : Kernel) : List (Nat × Nat) :=
  (List.range k.tiles).flatMap fun t => (List.range (p.passesOf k)).map fun i =>
    (p.passFrom k t i, p.passFrom k t i + p.groupLen k * p.sliceStep k)

/-- First cycle of the drain of a tile (R128). -/
def Plan.drainFrom (p : Plan) (k : Kernel) (tile : Nat) : Nat :=
  p.passFrom k tile (p.passesOf k - 1) + (p.groupLen k - 1) * p.sliceStep k + if p.kernelMode k = 2 then 12 else 8

/-- Ramp cycles in a gap between two compute cycles of an array (R138): a short one is filled, a long one has a ramp down and a
ramp up. -/
def rampIn (gap : Nat) : Nat := if gap < 64 then gap else 64

/-! ### HEADS (R244) -/

/-- The HEADS section. -/
structure Heads where
  mask : Nat
  feature : Nat
  headIn : Nat
  decision : Nat
  threshold : Int
  conn : Nat
  gapRows : Nat
  classes : Nat
  capacity : Nat
  listLen : Nat
  maxRows : Nat
  minArea : Nat
  chans : Nat
  geometry : Bool
  tableOff : Nat
  featureOff : Nat
  listOff : Nat
  resv : Bool
  deriving DecidableEq, Repr

def parseHeads (b : List Byte) (o : Nat) : Heads :=
  { mask := leAt b o 2, feature := leAt b (o + 2) 2, headIn := leAt b (o + 4) 2, decision := leAt b (o + 6) 2
    threshold := signed 8 (leAt b (o + 8) 1), conn := leAt b (o + 9) 1, gapRows := leAt b (o + 10) 1
    classes := leAt b (o + 11) 1, capacity := leAt b (o + 12) 2, listLen := leAt b (o + 14) 2
    maxRows := leAt b (o + 16) 2, minArea := leAt b (o + 18) 2, chans := leAt b (o + 20) 2
    geometry := bitOf (leAt b (o + 22) 2) 0, tableOff := leAt b (o + 24) 4, featureOff := leAt b (o + 28) 4
    listOff := leAt b (o + 32) 4, resv := decide (1 < leAt b (o + 22) 2) || leAt b (o + 36) 12 != 0 }

/-- The HEADS section of a plan. -/
def State.heads (s : State) (p : Plan) : Heads := parseHeads (s.image p) (p.secOff 0x0B)

/-- Mask rows per stripe (R242). -/
def Plan.maskRows (p : Plan) (h : Heads) : Nat := ((p.tensor h.mask 0 fun _ => true).map Tensor.rows).getD 0

/-- Width of the mask over both dies (R242). -/
def Plan.maskWidth (p : Plan) (h : Heads) : Nat :=
  ((p.tensors.filter fun t => t.num == h.mask).map Tensor.width).sum

/-! ### MEMORY_SCHEDULE (R325) -/

/-- Die offset of an image offset, from the image's base (R311). -/
def dieOffset (o d : Nat) : Nat := o / (4096 * d) * 4096 + o % 4096

/-- An entry of the memory schedule. -/
structure MemEntry where
  start : Nat
  count : Nat
  link : Nat
  kind : Nat
  memOff : Nat
  chipOff : Nat
  resv : Bool
  deriving DecidableEq, Repr

def parseMemEntry (b : List Byte) (o : Nat) : MemEntry :=
  { start := leAt b o 4, count := leAt b (o + 4) 2, link := leAt b (o + 6) 1, kind := leAt b (o + 7) 1
    memOff := leAt b (o + 8) 8, chipOff := leAt b (o + 16) 4, resv := leAt b (o + 20) 12 != 0 }

/-- The slot after the last of `n` non-reserved slots from a non-reserved one (R319). -/
def burstEnd (k n : Nat) : Nat := k + n + (n - 1 + k % 64) / 63

/-- The first slot of an entry's data: a WRITE carries it in the slots after its request's (R319). -/
def MemEntry.dataSlot (e : MemEntry) : Nat :=
  if e.kind = 3 then (if (e.start + 1) % 64 = 63 then e.start + 2 else e.start + 1) else e.start

/-- The slot after the last one that carries an entry's data. -/
def MemEntry.dataEnd (e : MemEntry) : Nat := burstEnd e.dataSlot e.count

/-- Whether an entry places data in a slot. -/
def MemEntry.occupies (e : MemEntry) (k : Nat) : Bool :=
  k % 64 != 63 && (e.start == k || (decide (e.dataSlot ≤ k) && decide (k < e.dataEnd)))

/-- The header of a plan's memory schedule: entry count, die count, scratch bytes per die. -/
def State.memHead (s : State) (p : Plan) : Nat × Nat × Nat :=
  let b := s.image p
  let o := p.secOff 0x0A
  (leAt b o 4, leAt b (o + 4) 1, leAt b (o + 8) 4)

/-- Entry `i` of a plan's memory schedule. -/
def State.memEntry (s : State) (p : Plan) (i : Nat) : MemEntry := parseMemEntry (s.image p) (p.secOff 0x0A + 32 + 32 * i)

/-- A plan's memory schedule. -/
def State.memEntries (s : State) (p : Plan) : List MemEntry :=
  (List.range (s.memHead p).1).map fun i => s.memEntry p i

/-- Plan cycle by which an entry's last data have landed on a link without lag (R319). -/
def MemEntry.landed (e : MemEntry) : Nat := 16 * (e.dataEnd - 1) + 144

/-- The memory-schedule entries of a kernel (R221): from its MemoryIndex to the next kernel's. -/
def State.kernelEntries (s : State) (p : Plan) (k : Kernel) : List MemEntry :=
  let n := (s.memHead p).1
  let stop := (p.kernels.filter fun x => decide (k.mem < x.mem)).foldl (fun m x => min m x.mem) n
  (List.range (stop - k.mem)).map fun i => s.memEntry p (k.mem + i)

/-! ### Scale records (R132, R160) -/

/-- The scale records of an image (R160). -/
def Plan.scales (p : Plan) (b : List Byte) : List Nat :=
  (List.range (p.secCount 7)).map fun i => leAt b (p.secOff 7 + 8 * i) 8

/-- The scale stores of both dies take a plan's records as it comes into force for context `c` (R132, R160). -/
def State.fillScales (s : State) (c : Nat) (p : Plan) : State :=
  let l := p.scales (s.image p)
  { s with engine := { s.engine with
      scales := [0, 1].foldl (fun m d => SMap.set [] m (d * 32 + c) l) s.engine.scales } }

/-- The scale stores give up what they hold for context `c`. -/
def State.freeScales (s : State) (c : Nat) : State :=
  { s with engine := { s.engine with scales := s.engine.scales.filter fun p => p.1 % 32 != c } }

/-- Its incoming plan leaves the records of the outgoing real-time plan standing, under number 16 (R233). -/
def State.keepScales (s : State) : State :=
  { s with engine := { s.engine with
      scales := [0, 1].foldl (fun m d => SMap.set [] m (d * 32 + 16) (SMap.get [] s.engine.scales (d * 32))) s.engine.scales } }

end Sys2Proof.Machine
end

