-- ==== Sys2Proof/Machine/ArrayOps.lean ====
section
/-! DEFINITION. The health of the arrays and their spares: mismatches, retirement, substitution, capacity (R139 to R148).
An array is held under die × 64 + its array number (R147). -/

namespace Sys2Proof.Machine

/-- State of an array or spare. -/
def State.arrayAt (s : State) (die n : Nat) : ArraySt := SMap.get .ok s.engine.arrays (die * 64 + n)

/-- Sets the state of an array or spare. -/
def State.setArray (s : State) (die n : Nat) (x : ArraySt) : State :=
  { s with engine := { s.engine with arrays := SMap.set .ok s.engine.arrays (die * 64 + n) x } }

/-- The array that a spare serves (R143). -/
def State.served (s : State) (die sp : Nat) : Option Nat :=
  match SMap.get 0 s.engine.subst (die * 2 + sp) with
  | 0 => none
  | n + 1 => some n

/-- Makes a spare serve an array, or stand by. -/
def State.setServed (s : State) (die sp : Nat) (n : Option Nat) : State :=
  { s with engine := { s.engine with subst := SMap.set 0 s.engine.subst (die * 2 + sp) ((n.map fun x => x + 1).getD 0) } }

/-- The spare wired to an array (R142). -/
def spareOf (n : Nat) : Nat := if n < 48 then n / 24 else n - 48

/-- The code that ArrayHealth holds for an array number (R148). -/
def State.healthByte (s : State) (die n : Nat) : Nat :=
  match s.arrayAt die n with
  | .ok => if n < 48 then 0 else if (s.served die (n - 48)).isSome then 2 else 1
  | .suspect => 3
  | .retired => 4
  | .factory => 5

/-- ArrayHealth of a die (R148). -/
def State.healthBlob (s : State) (die : Nat) : List Byte := (List.range 50).map fun n => BitVec.ofNat 8 (s.healthByte die n)

/-- SpareState of a half-die (R150). -/
def State.spareByte (s : State) (half : Nat) : Nat :=
  match s.arrayAt (half / 2) (48 + half % 2) with
  | .retired | .factory => 0xFE
  | _ => (s.served (half / 2) (half % 2)).getD 0xFF

/-- Whether an array or spare may run work: neither retired nor failed at manufacture. -/
def State.sound (s : State) (die n : Nat) : Bool := s.arrayAt die n == .ok || s.arrayAt die n == .suspect

/-- Whether the place of an array has an array in service: itself, or a spare that stands in for it (R143, R144). -/
def State.placeOk (s : State) (die n : Nat) : Bool :=
  s.sound die n || (s.served die (spareOf n) == some n && s.sound die (48 + spareOf n))

/-- Healthy arrays of a quad (R144). -/
def State.quadHealthy (s : State) (die q : Nat) : Nat :=
  if s.boot.selfTest.contains ([die, 2, q / 3, 1].map (BitVec.ofNat 8)) then 0
  else ((List.range 4).filter fun i => s.placeOk die (4 * q + i)).length

/-- Whether a retirement of an array waits for the stripe boundary: until then it stays in its schedule position, in the state it
was in (R143). -/
def State.waitsRetire (s : State) (die n : Nat) : Bool := s.engine.pendRetire.any fun p => p.1 == die * 64 + n

/-- HealthyArrays of a half-die: arrays in service, a substituting spare among them (R143, R150). -/
def State.halfHealthy (s : State) (half : Nat) : Nat :=
  ((List.range 24).filter fun i => s.placeOk (half / 2) (24 * (half % 2) + i)).length

/-- Arrays that a plan uses in a quad (R144, R215). -/
def Plan.arraysIn (p : Plan) (die q : Nat) : Nat := p.quads.getD (12 * die + q) 0

/-- The array code of the lowest logical array of a quad (R144, R164). -/
def State.lowestArray (s : State) (die q : Nat) : Nat :=
  match (List.range 4).find? fun i => s.placeOk die (4 * q + i) with
  | some i =>
    let n := 4 * q + i
    if s.served die (spareOf n) = some n then die * 128 + 48 + spareOf n else die * 128 + n
  | none => die * 128 + 4 * q

/-- The first quad in which a plan declares more arrays than are healthy (R144). -/
def State.shortQuad (s : State) (p : Plan) : Option (Nat × Nat) :=
  ((List.range 2).map fun d => (List.range 12).map fun q => (d, q)).flatten.find? fun x =>
    decide (s.quadHealthy x.1 x.2 < p.arraysIn x.1 x.2)

/-- Contexts whose plan exceeds what its quads hold stop (R144). -/
def State.checkCapacity (s : State) : State :=
  (List.range 16).foldl (fun s c =>
    match (s.ctx c).plan with
    | none => s
    | some p =>
      match s.shortQuad p with
      | none => s
      | some (d, q) =>
        if (s.ctx c).st = .stopped ∨ (s.ctx c).st = .gloved then s
        else s.raiseCtx FCode.arrayCapacity .contextStop (Unit.engine + d) c
          (d + 256 * q + 65536 * p.arraysIn d q + 2 ^ 24 * s.quadHealthy d q)) s

/-- The SUBSTITUTION record (R143, R382). -/
def State.substRec (s : State) (die sp n what : Nat) : Rec :=
  s.recAt RType.substitution (Unit.engine + die) (die * 128 + 48 + sp + 256 * (die * 128 + n) + 65536 * what)

/-- One retirement takes effect (R143). -/
def State.applyRetire (s : State) (die n : Nat) : State :=
  let s := s.setArray die n .retired
  let sp := spareOf n
  if n < 48 then
    if s.sound die (48 + sp) = true ∧ s.served die sp = none then
      ((s.setServed die sp (some n)).bump (K.substitutions die)).emit (s.substRec die sp n 1)
    else s
  else s.setServed die sp none

/-- An array or spare that was SUSPECT is so no longer, and its mismatches are forgotten. -/
def State.unsuspect (s : State) (die n : Nat) : State :=
  let s := { s with engine := { s.engine with misses := SMap.erase s.engine.misses (die * 64 + n) } }
  if s.arrayAt die n = .suspect then s.setArray die n .ok else s

/-- One restore takes effect (R143): a spare that served the array returns to STANDBY, be it SUSPECT. -/
def State.applyRestore (s : State) (die n : Nat) : State :=
  let s := s.setArray die n .ok
  let sp := spareOf n
  if n < 48 ∧ s.served die sp = some n then
    ((s.unsuspect die (48 + sp)).setServed die sp none).emit (s.substRec die sp n 2)
  else s

/-- The changes that wait for the stripe boundary take effect, in ascending array code (R143). -/
def State.boundary (s : State) : State :=
  let work := (s.engine.pendRetire.map fun p => (p.1, true)) ++ s.engine.pendRestore.map fun k => (k, false)
  if work = [] then s
  else
    let s := { s with engine := { s.engine with pendRetire := [], pendRestore := [] } }
    let s := (work.mergeSort fun a b => decide (a.1 ≤ b.1)).foldl (fun s x =>
      if x.2 then s.applyRetire (x.1 / 64) (x.1 % 64) else s.applyRestore (x.1 / 64) (x.1 % 64)) s
    s.checkCapacity

/-- Whether a real-time plan runs on the dies, so that substitutions wait for its next stripe (R143). -/
def State.rtRuns (s : State) : Bool :=
  s.rtPlan.isSome && (s.ctx 0).st != .stopped && (s.ctx 0).st != .gloved

/-- The event record and the non-volatile log entry of a retirement (R141). -/
def State.noteRetire (s : State) (die n cause : Nat) : State :=
  let code := die * 128 + n
  (s.emit (s.recAt RType.arrayRetired (Unit.engine + die) (code + 256 * cause))).report FCode.arrayRetired (Unit.engine + die)
    (code + 256 * cause)

/-- An array is retired (R141), from the stripe boundary on (R143): its cause is 1 the check limit, 2 a self-test, 3 a
command. -/
def State.retire (s : State) (die n cause : Nat) : State :=
  let s := { s with engine := { s.engine with
    pendRetire := s.engine.pendRetire ++ [(die * 64 + n, cause)]
    passed := s.engine.passed.filter (fun k => k != die * 64 + n)
    misses := SMap.erase s.engine.misses (die * 64 + n) } }
  let s := s.noteRetire die n cause
  if s.rtRuns then s else s.boundary

/-- An array shows a mismatch in a stripe (R140, R141): it becomes SUSPECT, and is retired at the limit. -/
def State.arrayMiss (s : State) (die n stripe : Nat) : State :=
  let k := die * 64 + n
  let old := SMap.get [] s.engine.misses k
  let l := (if old.contains stripe then old else stripe :: old).filter fun j => decide (stripe < j + s.reg K.checkErrorWindow)
  let s := { s with engine := { s.engine with misses := SMap.set [] s.engine.misses k l } }
  let s := if s.arrayAt die n = .ok then s.setArray die n .suspect else s
  if s.reg K.checkErrorLimit ≤ l.length ∧ s.sound die n = true ∧ s.waitsRetire die n = false then s.retire die n 1 else s

/-- SUSPECT arrays that completed CheckErrorWindow stripes without a mismatch return (R141); `j` is the stripe after the
last complete one. -/
def State.clearSuspects (s : State) (j : Nat) : State :=
  s.engine.misses.foldl (fun s p =>
    match p.2 with
    | [] => s
    | last :: _ =>
      if last + s.reg K.checkErrorWindow < j then
        let s := { s with engine := { s.engine with misses := SMap.erase s.engine.misses p.1 } }
        if s.arrayAt (p.1 / 64) (p.1 % 64) = .suspect then s.setArray (p.1 / 64) (p.1 % 64) .ok else s
      else s) s

/-- The arrays as SpareArrayMap has them (R145, R146). -/
def State.bootArrays (s : State) : State :=
  let map := s.blob K.spareArrayMap
  (List.range 4).foldl (fun s h =>
    let b := leAt map h 1
    let die := h / 2
    let sp := h % 2
    if bitOf b 7 then (s.setArray die (24 * sp + b % 32) .factory).setServed die sp (some (24 * sp + b % 32))
    else if bitOf b 6 then s.setArray die (48 + sp) .factory else s) s

/-! ### ArrayRetest, ArrayRetire, ArrayRestore (R150) -/

/-- Whether a stripe of the real-time plan runs (R150). -/
def State.stripeRuns (s : State) : Bool :=
  match s.engine.period with
  | some p => !p.empty
  | none => false

/-- What the three commands check of an array code, and BUSY while an action of 0x0807 runs (R147, R150). -/
def State.arrayCmd (s : State) (code : Nat) (body : Nat → Nat → Nat × State) : Nat × State :=
  if 50 ≤ code % 128 then (Status.valueRange, s)
  else if s.engine.retest.isSome then (Status.busy, s)
  else body (code / 128) (code % 128)

/-- ArrayRetest (R150). -/
def State.retestCmd (s : State) (code : Nat) : Nat × State :=
  s.arrayCmd code fun die n =>
    let st := s.arrayAt die n
    let standby := decide (48 ≤ n) && st == .ok && (s.served die (n - 48)).isNone
    if st = .factory ∨ (standby = false ∧ st ≠ .retired ∧ s.stripeRuns = true) then (Status.contextState, s)
    else
      let s := { s with engine := { s.engine with retest := some (die * 64 + n, s.tick) } }
      s.cmdBegin K.arrayRetest

/-- ArrayRetire (R141, R150). -/
def State.retireCmd (s : State) (code : Nat) : Nat × State :=
  s.arrayCmd code fun die n =>
    if s.sound die n && !s.waitsRetire die n then (s.retire die n 3).cmdOk K.arrayRetire else (Status.contextState, s)

/-- ArrayRestore (R143, R150). -/
def State.restoreCmd (s : State) (code : Nat) : Nat × State :=
  s.arrayCmd code fun die n =>
    if s.arrayAt die n = .retired ∧ s.engine.passed.contains (die * 64 + n) = true ∧ s.stripeRuns = false then
      let s := { s with engine := { s.engine with
        pendRestore := s.engine.pendRestore ++ [die * 64 + n] } }
      (if s.rtRuns then s else s.boundary).cmdOk K.arrayRestore
    else (Status.contextState, s)

/-- The end of a retest (R150): 1,600,000 CCLK cycles after its start. -/
def State.retestDone (s : State) (pass : Bool) : State :=
  match s.engine.retest with
  | none => s
  | some (k, t) =>
    if (s.tick - t) * s.engine.cclk < 1600000 * 250 then s
    else
      let die := k / 64
      let n := k % 64
      let s := { s with engine := { s.engine with retest := none } }
      let s := (s.setReg K.lastRetestResult (if pass then 0 else 1)).cmdSet K.arrayRetest Status.ok
      if pass then
        let s := { s with engine := { s.engine with
          passed := s.engine.passed.filter (fun x => x != k) ++ [k], misses := SMap.erase s.engine.misses k } }
        if s.arrayAt die n = .suspect then s.setArray die n .ok else s
      else if s.sound die n && !s.waitsRetire die n then s.retire die n 2
      else { s with engine := { s.engine with passed := s.engine.passed.filter (fun x => x != k) } }

/-- SUBSTITUTION_CHANGE (R143). -/
def execSubstitutionChange (s : State) : Host.Outcome State Fault Refusal := .next s.boundary

/-- ARRAY_RETEST (R150). -/
def execArrayRetest (sess code : Nat) (s : State) : Host.Outcome State Fault Refusal :=
  .next (s.runCmd sess K.arrayRetest fun s => s.retestCmd code)

/-- ARRAY_RETEST_DONE (R150). -/
def execArrayRetestDone (pass : Bool) (s : State) : Host.Outcome State Fault Refusal := .next (s.retestDone pass)

/-- ARRAY_RETIRE (R141). -/
def execArrayRetire (sess code : Nat) (s : State) : Host.Outcome State Fault Refusal :=
  .next (s.runCmd sess K.arrayRetire fun s => s.retireCmd code)

/-- ARRAY_RESTORE (R150). -/
def execArrayRestore (sess code : Nat) (s : State) : Host.Outcome State Fault Refusal :=
  .next (s.runCmd sess K.arrayRestore fun s => s.restoreCmd code)

end Sys2Proof.Machine
end

