-- ==== Sys2Proof/Machine/IntakeOps.lean ====
section
/-! DEFINITION. Shared operations of the camera intake: bring-up, control commands, lines, resynchronisation (R80 to
R96). -/

namespace Sys2Proof.Machine

/-- Whether a camera link is fitted (R1, R48). -/
def State.hasLink (s : State) (l : Nat) : Bool := decide (l < s.mfg.part.links)

/-- One camera link. -/
def State.cam (s : State) (l : Nat) : CamLink := SMap.get {} s.intake.links l

/-- Sets one camera link, with LinkState. -/
def State.setCam (s : State) (l : Nat) (x : CamLink) : State :=
  { (s.setReg (K.linkState l) x.st.code) with intake := { s.intake with links := SMap.set {} s.intake.links l x } }

/-- One stream. -/
def State.stream (s : State) (i : Nat) : Stream := SMap.get {} s.intake.streams i

/-- Sets one stream, with StreamState. -/
def State.setStream (s : State) (i : Nat) (x : Stream) : State :=
  { (s.setReg (K.streamState i) x.st.code) with intake := { s.intake with streams := SMap.set {} s.intake.streams i x } }

/-- The links that StreamLinks names (R82). -/
def State.streamLinkList (s : State) (i : Nat) : List Nat :=
  (List.range 24).filter fun l => bitOf (s.reg (K.streamLinks i)) l

/-- The stream that owns a link. -/
def State.linkStream (s : State) (l : Nat) : Option Nat :=
  (List.range 16).find? fun i => (s.stream i).links.contains l

/-- Bits per pixel of a format code (R83). -/
def bitsPerPixel : Nat → Nat
  | 1 => 8
  | 2 => 10
  | 3 => 12
  | 4 => 24
  | 5 => 30
  | _ => 8

/-- Bytes of a line of a stream as packed (R83). -/
def State.lineBytes (s : State) (i : Nat) : Nat :=
  (s.reg (K.streamWidth i) * bitsPerPixel (s.reg (K.streamPixelFormat i)) + 7) / 8

/-- Payload capacity of one link at a rate code, in kb/s (R81). -/
def rateCapacity : Nat → Nat
  | 1 => 960000
  | 2 => 1920000
  | 3 => 2400000
  | 4 => 3840000
  | 5 => 4800000
  | 6 => 7680000
  | 7 => 9600000
  | _ => 0

/-- Lane rate of a rate code, in kb/s (R81). -/
def laneRate : Nat → Nat
  | 1 => 1250000
  | 2 => 2500000
  | 3 => 3125000
  | 4 => 5000000
  | 5 => 6250000
  | 6 => 10000000
  | 7 => 12500000
  | _ => 0

/-- Stream line rate at MaxBeltSpeed as a fraction: lines/s = num / den (R82). -/
def State.lineRateNum (s : State) : Nat := s.reg K.maxBeltSpeed * 65536

/-- Stream payload in bits/s times LinePitch (R82). -/
def State.payloadNum (s : State) (i : Nat) : Nat :=
  s.reg (K.streamWidth i) * bitsPerPixel (s.reg (K.streamPixelFormat i)) * s.lineRateNum

/-- Whether a stream's payload fits its links at a rate (R81, R82). -/
def State.payloadFits (s : State) (i rate : Nat) : Bool :=
  decide (s.payloadNum i ≤ (s.streamLinkList i).length * rateCapacity rate * 1000 * s.reg K.linePitch)

/-- The lowest LinkRateMax among a stream's links. -/
def State.lowestRateMax (s : State) (i : Nat) : Nat :=
  (s.streamLinkList i).foldl (fun m l => min m (s.reg (K.linkRateMax l))) 7

/-- Whether the line period at MaxBeltSpeed is shorter than `ns` (R82): LinePitch / MaxBeltSpeed. -/
def State.linePeriodBelow (s : State) (ns : Nat) : Bool :=
  s.reg K.maxBeltSpeed != 0 && decide (s.reg K.linePitch * 1000000000 < ns * s.lineRateNum)

/-- Whether a stream is held to CXP-10 and above (R82, R86). -/
def State.heldToHigh (s : State) (i : Nat) : Bool := decide (6 ≤ s.lowestRateMax i) && s.linePeriodBelow 3840

/-! ### Control commands (R92) -/

/-- A control packet on a link's uplink: its bytes besides the data, which R92 does not state, are a free number of at most
65,535 (R450; log entry 33). -/
def State.sendUplink (s : State) (l tag op addr : Nat) (data : List Byte) : State :=
  let (n, s) := s.takeFree
  (s.send (.cameraCtl l tag op addr data)).portBytes false (0x6A + l) (data.length + n % 65536)

/-- Sends a control command on a link and waits for its acknowledgment. -/
def State.camCtl (s : State) (l : Nat) (op : CtlOp) (addr : Nat := 0) (data : List Byte := []) : State :=
  let x := s.cam l
  let s := s.setCam l { x with tag := (x.tag + 1) % 256
                               ctl := x.ctl ++ [{ tag := x.tag, op, addr, data, sentAt := s.tick }] }
  s.sendUplink l x.tag op.code addr data

/-- Drops the control commands of a link: a camera register access among them ends with TIMEOUT (R92, R98). -/
def State.dropCtl (s : State) (l : Nat) : State :=
  let s := if (s.cam l).ctl.any fun c => c.op == .regRead || c.op == .regWrite then
      s.cmdSet K.cameraRegCommand Status.timeout
    else s
  s.setCam l { s.cam l with ctl := [] }

/-- A link's bring-up fails (R85, R86): the link's cause, and FAILED. -/
def State.failLink (s : State) (l cause : Nat) : State :=
  let s := s.dropCtl l
  (s.setCam l { s.cam l with st := .failed, switching := false, lock := false }).setReg (K.linkFailCause l) cause

/-- The stream goes to FAILED (R86, R94). -/
def State.stopStream (s : State) (i : Nat) : State :=
  s.setStream i { s.stream i with st := .failed, due := none, trigs := [], cur := none, hold := [], nextTag := none }

/-- Every link of a stream fails, and the stream with them. -/
def State.failStream (s : State) (i cause : Nat) : State :=
  ((s.stream i).links.foldl (fun s l => s.failLink l cause) s).stopStream i

/-! ### Lines (R84, R90 to R92) -/

/-- Sets what the intake knows of a line; nothing is kept of one that a new origin discarded (R30). -/
def State.setLine (s : State) (i n : Nat) (l : Line) : State :=
  let x := s.stream i
  if s.discarded n then s else s.setStream i { x with lines := SMap.put (SMap.erase x.lines n) n l }

/-- Whether a line is the stream's first after step 5 of a resync (R91, R115). -/
def State.lineRestarts (s : State) (i n : Nat) : Bool :=
  match SMap.find? (s.stream i).lines n with
  | some l => l.restart
  | none => false

/-- Marks a line missing and counts it (R92), unless it is already delivered or missing; `slip` says that step 2 of a resync
marks it (R91, R115). -/
def State.markMissing (s : State) (i n : Nat) (counted : Bool := true) (slip : Bool := false) : State :=
  let go : Bool := match SMap.find? (s.stream i).lines n with
    | some l => l.st == .sent || l.st == .begun
    | none => true
  if go && !s.discarded n then
    let s := s.setLine i n { st := .missing, slip, restart := s.lineRestarts i n }
    if counted then s.bump (K.linesMissing i) else s
  else s

/-- Marks missing every line of a stream that is not complete; step 2 of R91 leaves its mark on them (R115). -/
def State.missIncomplete (s : State) (i : Nat) (slip : Bool := false) : State :=
  ((s.stream i).lines.filter fun p => p.2.st == .sent || p.2.st == .begun).foldl (fun s p => s.markMissing i p.1 true slip) s

/-- A count slip (R91, steps 1 to 4): the stream goes to RESYNC; the stop register is written at once unless a link of
the stream has lost word lock, in which case it is written when lock is back. DESIGN CHOICE (log entry 100): the value
written to stop is 1, in four bytes, low byte first, as the one that starts. -/
def State.resync (s : State) (i : Nat) (send : Bool := true) : State :=
  let x := s.stream i
  if x.st = .ready ∨ x.st = .streaming then
    let s := s.bump (K.streamResyncs i)
    let s := s.setStream i { x with st := .resync, trigs := [], due := none, cur := none, curData := [], curBad := false
                                    inFrame := false, nextTag := none, hold := [], resyncStep := 1 }
    let s := match x.due with
      | some (n, _) => s.markMissing i n true true
      | none => s
    let s := s.missIncomplete i true
    if send then s.camCtl x.master .acqStop (s.reg (K.streamAcqStopAddress i)) (leBytes 4 1) else s
  else s

/-! ### Bring-up (R86, R87, R93) -/

/-- A link enters step 2 of R86. -/
def State.toDiscovery (s : State) (l : Nat) : State :=
  let s := s.dropCtl l
  (s.setCam l { s.cam l with st := .discovery, step := .none, lock := false, since := s.tick, ident := none
                             hostIdOk := false, switching := false, tested := false, inTest := false }).setReg (K.linkRate l) 1

/-- A link enters step 1 of R86: POWERING when its power is enabled, else discovery. -/
def State.startLink (s : State) (l : Nat) : State :=
  let s := (s.dropCtl l).setReg (K.linkFailCause l) 0
  if s.flag (K.cameraPowerEnable l) then
    s.setCam l { s.cam l with st := .powering, powered := false, since := s.tick, lock := false, inTest := false
                              step := if s.supplies.cameraMv < 20000 then .waitSupply else .sense }
  else s.toDiscovery l

/-- Brings a stream up from step 1 of R86. -/
def State.startStream (s : State) (i : Nat) : State :=
  let ls := s.streamLinkList i
  let x := s.stream i
  let s := s.setStream i { st := .starting, links := ls, master := ls.headD 0, lines := x.lines, highest := x.highest
                           first := x.first, heldHigh := s.heldToHigh i }
  ls.foldl (fun s l => s.startLink l) s

/-- Step 3 of R86: the bootstrap registers are read on every link. -/
def State.identify (s : State) (i : Nat) : State :=
  (s.stream i).links.foldl (fun s l =>
    let s := s.dropCtl l
    (s.setCam l { s.cam l with st := .configuring, ident := none, hostIdOk := false }).camCtl l .ident) s

/-- Writes the rate and the packet size on the master link (R86, step 4). -/
def State.tryRate (s : State) (i r : Nat) : State :=
  let x := s.stream i
  let s := s.setStream i { x with rate := r }
  let s := x.links.foldl (fun s l => s.setCam l { s.cam l with st := .configuring, switching := false, tested := false,
                                                                testErrors := 0 }) s
  s.camCtl x.master .packetSize 0 (leBytes 4 (s.reg (K.streamPacketSizeMax i)))

/-- The rate chosen at step 4 of R86; none when the camera advertises no rate it may take. -/
def State.chooseRate (s : State) (i : Nat) : Option Nat :=
  let x := s.stream i
  let rs := (s.cam x.master).rates.filter fun r => decide (1 ≤ r) && decide (r ≤ s.lowestRateMax i)
  let r := rs.foldl max 0
  if r = 0 ∨ (x.heldHigh = true ∧ r < 6) then none else some r

/-- A rate failed: the next lower code, or FAILED (R86, step 6). -/
def State.rateFailed (s : State) (i : Nat) : State :=
  let x := s.stream i
  let fb := x.links.all fun l => s.flag (K.linkRateFallback l)
  if fb = false ∨ x.rate ≤ 1 then s.failStream i 5
  else
    let r := x.rate - 1
    if x.heldHigh = true ∧ r < 6 then s.failStream i 5
    else if s.payloadFits i r = false then s.failStream i 4
    else s.tryRate i r

/-- Whether identification agrees (R86, step 3): one device, connections 0 to m − 1 each once. -/
def State.identAgrees (s : State) (i : Nat) : Bool :=
  let ids := (s.stream i).links.filterMap fun l => (s.cam l).ident
  let m := (s.stream i).links.length
  ids.length == m && (match ids with
    | [] => false
    | a :: _ => ids.all fun b => b.1 == a.1) &&
    (List.range m).all fun c => (ids.filter fun b => b.2.1 == c).length == 1

/-- An intake record (R382, type 0x08). -/
def State.intakeRec (s : State) (i kind payload : Nat) : State :=
  s.emit (s.recAt RType.intake Unit.intake payload 0xFF (i + 16 * kind))

/-- Every link of a stream has answered identification (R86, step 3). -/
def State.identified (s : State) (i : Nat) : State :=
  let x := s.stream i
  let old := x.links.any fun l => match (s.cam l).ident with
    | some (_, _, rev) => decide (rev < 11)
    | none => false
  if old then s.failStream i 7
  else if s.identAgrees i then
    let ord := x.links.mergeSort fun a b => decide
      (((s.cam a).ident.map fun d => d.2.1).getD 0 ≤ ((s.cam b).ident.map fun d => d.2.1).getD 0)
    let s := s.setStream i { x with links := ord, master := ord.headD 0 }
    ord.foldl (fun s l => (s.setReg (K.linkFailCause l) 0).camCtl l .hostId) s
  else
    let s := x.links.foldl (fun s l => s.setReg (K.linkFailCause l) 3) s
    let s := s.setStream i { s.stream i with identAt := s.tick }
    s.intakeRec i 1 (x.links.foldl (fun m l => m + 2 ^ l) 0)

/-- Step 7 of R86: acquisition is started. -/
def State.startAcq (s : State) (i : Nat) : State :=
  let x := s.stream i
  s.camCtl x.master .acqStart (s.reg (K.streamAcqStartAddress i)) (leBytes 4 1)

/-- What a pipeline keeps of a stream. -/
def State.pctx (s : State) (i : Nat) : PipeCtx := SMap.get {} s.pipe.ctxs i

/-- Sets what a pipeline keeps of a stream, with ActiveParamSet. -/
def State.setPctx (s : State) (i : Nat) (x : PipeCtx) : State :=
  { (s.setReg (K.activeParamSet i) x.active) with pipe := { s.pipe with ctxs := SMap.set {} s.pipe.ctxs i x } }

/-- Schedules a switch of parameter sets at a line (R108). -/
def State.scheduleSwitch (s : State) (i line : Nat) : State :=
  let x := s.pctx i
  let cur := match x.switch.getLast? with
    | some (_, v) => v
    | none => x.active
  s.setPctx i { x with switch := x.switch ++ [(line, 1 - cur)] }

/-- Whether a control command belongs to bring-up or to a resync, which go on only while the stream is STARTING or in
RESYNC (R86, R91). -/
def CtlOp.bringUp (o : CtlOp) : Bool := o != .regRead && o != .regWrite

/-- What a good acknowledgment sets off (R86, R91, R92, R98, R108); one for a stream that has gone to FAILED meanwhile sets
off nothing. DESIGN CHOICE (log entry 100): ConnectionConfig is written as the rate code plus 256 times the number of links,
in four bytes, low byte first, and the bootstrap registers have address 0 in the model's output. -/
def State.acked (s : State) (l : Nat) (c : CtlCmd) (a : CtlAck) : State :=
  match s.linkStream l with
  | none => s
  | some i =>
    let x := s.stream i
    if c.op.bringUp = true ∧ x.st ≠ .starting ∧ x.st ≠ .resync then s
    else match c.op with
    | .ident =>
      let s := s.setCam l { s.cam l with ident := a.ident, rates := a.rates }
      if x.links.all fun m => (s.cam m).ident.isSome then s.identified i else s
    | .hostId =>
      let s := s.setCam l { s.cam l with hostIdOk := true }
      if x.links.all fun m => (s.cam m).hostIdOk then
        match s.chooseRate i with
        | some r => s.tryRate i r
        | none => s.failStream i 5
      else s
    | .packetSize => s.camCtl x.master .connConfig 0 (leBytes 4 (x.rate + 256 * x.links.length))
    | .connConfig =>
      x.links.foldl (fun s m =>
        (s.setCam m { s.cam m with switching := true, lock := false, since := s.tick }).setReg (K.linkRate m) x.rate) s
    | .testOn =>
      x.links.foldl (fun s m =>
        if (s.cam m).st = .configuring then
          s.setCam m { s.cam m with st := .testing, since := s.tick, tested := false, testErrors := 0 }
        else s) s
    | .testOff => s.startAcq i
    | .acqStart =>
      let s := x.links.foldl (fun s m =>
        if (s.cam m).st = .testing then s.setCam m { s.cam m with st := .up, switching := false } else s) s
      s.setStream i { s.stream i with st := .ready, resyncStep := 0, afterResync := decide (x.st = .resync), heard := s.tick }
    | .acqStop => if x.st = .resync then s.startAcq i else s
    | .regRead => (s.setBlob K.cameraRegData a.data).cmdSet K.cameraRegCommand Status.ok
    | .regWrite =>
      let s := s.cmdSet K.cameraRegCommand Status.ok
      if s.reg (K.paramSetOnWrite i) = 1 then
        let next : Nat := match x.highest with
          | some n => n + 1
          | none => s.nextLine i
        (s.setReg (K.paramSetOnWrite i) 0).scheduleSwitch i (next + s.reg (K.cameraSettingDelay i))
      else s

/-- A control command that failed for good: TIMEOUT, or the camera's error, to its issuer; a command of bring-up or of a
resync fails the link (R92), and the stream, which cannot run without it (log entry 100). -/
def State.ctlFailed (s : State) (l : Nat) (c : CtlCmd) (status : Nat) : State :=
  match c.op with
  | .regRead => s.cmdSet K.cameraRegCommand status
  | .regWrite => s.cmdSet K.cameraRegCommand status
  | _ =>
    match s.linkStream l with
    | some i => (s.failLink l 6).stopStream i
    | none => s.failLink l 6

/-- Sends a link's oldest control command again, up to three times (R92). -/
def State.ctlResend (s : State) (l : Nat) : State :=
  let x := s.cam l
  match x.ctl with
  | [] => s
  | c :: rest =>
    if c.tries < 4 then
      (s.setCam l { x with ctl := { c with tries := c.tries + 1, sentAt := s.tick } :: rest }).sendUplink
        l c.tag c.op.code c.addr c.data
    else (s.setCam l { x with ctl := rest }).ctlFailed l c Status.timeout

/-- A link's power is switched off by a fault (R94). -/
def State.powerTrip (s : State) (l mw : Nat) : State :=
  let s := s.dropCtl l
  let s := (s.setCam l { s.cam l with st := .powerFault, step := .none, powered := false, lock := false }).setReg
    (K.linkFailCause l) 2
  let s := s.bump (K.powerTrips l)
  let s := s.report FCode.cameraPower Unit.intake (l + 65536 * mw)
  match s.linkStream l with
  | some i => s.stopStream i
  | none => s

/-! ### Triggers (R88, R89) -/

/-- Whether a rate uses the high-speed uplink (R81). -/
def highUplink (rate : Nat) : Bool := decide (6 ≤ rate)

/-- Trigger latency of an uplink in ns (R88). -/
def triggerLatency (high : Bool) : Nat := if high then 1920 else 3840

/-- Trigger occupancy of an uplink in ns (R88). -/
def triggerOccupancy (high : Bool) : Nat := if high then 1440 else 2880

/-- A trigger issued by the time unit reaches the intake (R89). -/
def State.triggerLine (s : State) (i n : Nat) : State :=
  let x := s.stream i
  let s := s.setStream i { x with highest := some n }
  if (x.st ≠ .ready ∧ x.st ≠ .streaming) ∨ x.drainAt.isSome then s.markMissing i n true (x.st == .resync)
  else if x.due.isSome ∨ s.tick < x.uplinkFree then (s.bump (K.triggersUplinkBusy i)).markMissing i n
  else s.setStream i { s.stream i with due := some (n, s.tick) }

/-! ### Packets (R90, R91) -/

/-- The line being received ends. -/
def State.endLine (s : State) (i : Nat) : State :=
  let x := s.stream i
  match x.cur with
  | none => s
  | some n =>
    let s := s.setStream i { x with cur := none, curData := [], curBad := false }
    if x.curBad ∨ x.curData.length ≠ s.lineBytes i then s.markMissing i n
    else
      let late : Bool := match SMap.find? x.lines n with
        | some l => l.st == .missing || l.st == .late
        | none => false
      if late || s.discarded n then s
      else (s.setLine i n { st := .delivered, data := x.curData, restart := s.lineRestarts i n }).bump (K.linesDelivered i)

/-- The line whose data arrived when the next one begins, if its end never came, is missing (R90, R92). -/
def State.breakLine (s : State) (i : Nat) : State :=
  let x := s.stream i
  match x.cur with
  | some n => (s.setStream i { x with cur := none, curData := [], curBad := false }).markMissing i n
  | none => s

/-- One part of a packet's payload, in order; `bad` marks the lines it touches missing. -/
def State.takePart (s : State) (i : Nat) (bad : Bool) (p : PktPart) : State :=
  let x := s.stream i
  if x.st ≠ .ready ∧ x.st ≠ .streaming then s
  else match p with
    | .header f w =>
      if bad then s.setStream i { x with curBad := true }
      else if (x.inFrame = true ∧ x.frame ≠ s.reg (K.streamFrameLines i)) ∨ f ≠ s.reg (K.streamPixelFormat i) ∨
          w ≠ s.reg (K.streamWidth i) then s.resync i
      else s.setStream i { x with frame := 0, inFrame := true }
    | .lineStart =>
      if x.inFrame = true ∧ s.reg (K.streamFrameLines i) ≤ x.frame then s.resync i
      else match x.trigs with
        | [] => s.resync i
        | n :: rest =>
          let s := s.breakLine i
          let s := s.setStream i { x with st := .streaming, trigs := rest, cur := some n, curData := [], curBad := bad
                                          frame := x.frame + 1 }
          match SMap.find? x.lines n with
          | some l => if l.st = .sent then s.setLine i n { l with st := .begun } else s
          | none => s.setLine i n { st := .begun }
    | .pixels d => s.setStream i { x with curData := x.curData ++ d, curBad := x.curBad || bad }
    | .lineEnd => (s.setStream i { x with curBad := x.curBad || bad }).endLine i

/-- A packet in its place (R90, R92). -/
def State.takePacket (s : State) (i : Nat) (p : Packet) : State :=
  let s := s.portBytes true (0x6A + p.link) p.size
  let isOver := decide (s.reg (K.streamPacketSizeMax i) < p.size)
  let s := if isOver || !p.crcOk then s.bump (K.crcErrors p.link) else s
  let s := if p.codeError then s.bump (K.codeErrors p.link) else s
  let bad := isOver || !p.crcOk || p.codeError
  let x := s.stream i
  let s := s.setStream i { x with nextTag := some ((p.tag + 1) % 256) }
  p.parts.foldl (fun s q => s.takePart i bad q) s

/-- A packet is lost (R90, R92): the lines it carried are missing, the one whose data was arriving and those that began in
it. How many began is nowhere said, since nothing of the packet arrives: it is a free number of the lines whose triggers
were sent, and the last of them may go on in the next packet (log entry 101). -/
def State.losePacket (s : State) (i t : Nat) : State :=
  let s := (s.bump (K.crcErrors (s.stream i).master)).breakLine i
  let (f, s) := s.takeFree
  let x := s.stream i
  let n := f % (x.trigs.length + 1)
  let gone := x.trigs.take n
  let s := s.setStream i { x with nextTag := some ((t + 1) % 256), trigs := x.trigs.drop n, frame := x.frame + n
                                  cur := gone.getLast?, curData := [], curBad := true }
  gone.foldl (fun s m => s.markMissing i m) s

/-- Takes held packets while the next in order is among them (R90). -/
def State.takeHeld (i : Nat) : Nat → State → State
  | 0, s => s
  | n + 1, s =>
    let x := s.stream i
    match x.nextTag with
    | none => s
    | some t =>
      match x.hold.find? fun p => p.tag == t with
      | some p => State.takeHeld i n ((s.setStream i { x with hold := x.hold.filter fun q => q.tag != t }).takePacket i p)
      | none =>
        if 16 ≤ x.hold.length then State.takeHeld i n (s.losePacket i t) else s

/-- Whether every link of a stream has word lock. -/
def State.allLocked (s : State) (i : Nat) : Bool := (s.stream i).links.all fun l => (s.cam l).lock

/-- A link falls to its idle state (R65, R66, R85). -/
def State.idleLink (s : State) (l : Nat) : State :=
  (((s.dropCtl l).setCam l {}).setReg (K.linkRate l) 1).setReg (K.linkFailCause l) 0

/-- A link under test is owned by intake link test and reads LOOPBACK (R95). -/
def State.testLink (s : State) (l : Nat) : State :=
  ((s.dropCtl l).setCam l { st := .loopback }).setReg (K.linkRate l) (s.reg (K.linkRateMax l))

end Sys2Proof.Machine
end

