-- ==== Sys2Proof/Machine/PowerOps.lean ====
section
/-! DEFINITION. Shared operations of the power controller: the start of a transition, and the events that take the device
out of READY by itself (R428 to R431). -/

namespace Sys2Proof.Machine

/-- Starts a transition, or turns round one that runs (R428, R431). What a PowerTarget whose entry is turned round reads
afterwards is a free value other than IN_PROGRESS (log entry 1). -/
def State.beginTransition (s : State) (target : PowerSt) (cause : Nat) : State :=
  let s := match s.power.trans with
    | some t =>
      if t.cause = 1 ∧ cause ≠ 1 then
        let (f, s) := s.takeFree
        s.cmdSet K.powerTarget (if f % 65535 = 0 then 0 else f % 65535 + 1)
      else s
    | none => s
  { s with power := { s.power with trans := some { target, cause, start := s.tick }, readySince := none } }

/-- An event of R429 that returns the device to RUN: it stands in READY, or is entering it, and AutoReady is true. -/
def State.autoWake (s : State) : State :=
  if s.flag K.autoReady then
    match s.power.trans with
    | some t => if t.target = .ready then s.beginTransition .run 2 else s
    | none => if s.power.st = .ready then s.beginTransition .run 2 else s
  else s

/-- A wake source happens (R428, R430, R431): where WakeSources admits it, it wakes the device from the states given, or
turns an entry into one of them round. -/
def State.wake (s : State) (bit : Nat) (from' : List PowerSt) : State :=
  if bitOf (s.reg K.wakeSources) bit = false then s
  else
    let s' := s.setReg K.lastWakeCause bit
    match s.power.trans with
    | none =>
      if from'.contains s.power.st then
        let low := s.power.st == .doze || s.power.st == .retain
        s'.beginTransition (if low && s.flag K.autoReady then .ready else .run) 3
      else s
    | some t => if s.power.st.code < t.target.code ∧ from'.contains t.target = true then s'.beginTransition .run 3 else s

/-! ### Re-planning (R437, R438) -/

/-- Whether a compute die's core voltage may rise (R437). -/
def State.voltageRoom (s : State) (die : Nat) : Bool :=
  decide (s.reg (K.coreVoltage die) < s.reg (K.coreVoltageTrim die) + s.reg K.voltageHeadroom)

/-- ComputeEnergyPerOp follows the compute die with the higher ratio of core voltage to its trim (R438). -/
def State.setEnergy (s : State) : State :=
  let v := fun (d : Nat) => s.reg (K.coreVoltage d)
  let t := fun (d : Nat) => s.reg (K.coreVoltageTrim d)
  let d := if v 0 * t 1 < v 1 * t 0 then 1 else 0
  if t d = 0 then s else s.setReg K.computeEnergyPerOp (f32OfRat ((24 * v d * v d : Nat) : Int) (100 * t d * t d))

/-- A REPLAN record (R438), with the figures after the action. -/
def State.replanRec (s : State) (die action : Nat) : State :=
  s.emit (s.recAt RType.replan Unit.power
    (die + 256 * action + 65536 * s.reg (K.coreVoltage die) + 2 ^ 32 * s.engine.cclk +
      2 ^ 48 * s.reg (K.timingMargin die)))

/-- Whether a clock step may start: the belt stands, or context 0 is EMPTY (R437). -/
def State.mayStepClock (s : State) : Bool :=
  s.belt.st == .stopped || s.belt.st == .lost || s.belt.st == .noSource || (s.ctx 0).st == .empty

/-- What a re-plan point does for one die (R437). -/
def State.replanDie (s : State) (die : Nat) : State :=
  if s.voltageRoom die then
    (((s.setReg (K.coreVoltage die) (s.reg (K.coreVoltage die) + 5)).bump K.voltageSteps).setEnergy).replanRec die 1
  else if s.mayStepClock = true ∧ s.reg K.minCoreClock + 10 ≤ s.engine.cclk then
    if s.power.clock.isSome then s
    else { s.bump K.clockSteps with power := { s.power with clock := some { start := s.tick, die, mhz := s.engine.cclk - 10 } } }
  else if s.mayStepClock = false then s
  else s.replanRec die 3

/-- The compute dies that need a re-plan: a margin below the target, or ReplanNow (R437). -/
def State.replanDies (s : State) : List Nat :=
  [0, 1].filter fun d => s.power.replanNow ||
    (s.flag K.replanPending && decide (s.sreg 16 (K.timingMargin d) < s.reg K.marginTarget))

/-- A re-plan point (R437). A ReplanNow that still has to wait for the belt stays. -/
def State.replanPoint (s : State) : State :=
  if s.power.clock.isSome ∨ s.power.st ≠ .run then s
  else
    let ds := s.replanDies
    let waits := !s.mayStepClock && ds.any fun d => !s.voltageRoom d
    let s := ds.foldl (fun s d => s.replanDie d) s
    { s with power := { s.power with replanNow := s.power.replanNow && waits } }

/-! ### Counter banks (R455) -/

/-- The counters of banks 0 and 1 take their presets and clear their overflow counts (R455), and their CycleCount starts
from 0 (R441). -/
def State.presetBanks (s : State) : State :=
  let s := (s.setReg (K.cycleCount 0) 0).setReg (K.cycleCount 1) 0
  (List.range 16).foldl (fun s n =>
    s.setCounter (n / 8) (n % 8) { s.counter (n / 8) (n % 8) with value := s.reg (K.counterPreset n), overCount := 0 }) s

/-- The pipelines are reset: of what they work on only the parameter sets stay, with the switches between them (R419). -/
def State.resetPipes (s : State) : State :=
  { s with pipe := { s.pipe with
      busy := []
      ctxs := s.pipe.ctxs.map fun (p : Nat × PipeCtx) =>
        (p.1, ({ active := p.2.active, switch := p.2.switch, switches := p.2.switches } : PipeCtx)) } }

/-! ### READY -/

/-- Whether the conditions of R428 for READY hold. -/
def State.readyOk (s : State) : Bool :=
  ((List.range 16).all fun c => (s.ctx c).st != .running && (s.ctx c).st != .ready) && s.engine.period.isNone &&
  (s.belt.st == .stopped || s.belt.st == .lost || s.belt.st == .noSource || (s.ctx 0).st == .empty) &&
  s.ctl.phase == .idle && s.faults.torn == [] && s.faults.recovery.isNone

/-- Follows the READY conditions: the tick since which they hold without a break (R429). -/
def State.trackReady (s : State) : State :=
  if s.readyOk then
    if s.power.readySince.isSome then s else { s with power := { s.power with readySince := some s.tick } }
  else if s.power.readySince.isSome then { s with power := { s.power with readySince := none } } else s

end Sys2Proof.Machine
end

