-- ==== Sys2Proof/Machine/BeltOps.lean ====
section
/-! DEFINITION. Shared operations of the time unit: encoder words, the unwrapping of a sample, line positions, the
estimate and the emitted IBP, and what a new origin discards (R13 to R20, R23, R30, R301 to R303). -/

namespace Sys2Proof.Machine

/-! ### Encoder words (R301 to R303) -/

/-- The clock period of an encoder channel in ticks (R301). -/
def State.encT (s : State) (c : Nat) : Nat :=
  let r := s.reg (K.encoderClockRate c)
  (500000 + r) / (2 * r)

/-- The word transfer time of a channel in ns (R301). -/
def State.encTransfer (s : State) (c : Nat) : Nat :=
  let t := 4 * s.encT c
  let n := s.reg (K.encoderWordLength c)
  let k := if s.flag (K.encoderDoubleRead c) then 2 * n + 2 else n + 1
  k * t + max t (s.reg (K.encoderDataDelay c))

/-- Decodes `p` Gray bits (R302): each binary bit is the exclusive or of the bits from it upwards. -/
def grayDecode : Nat → Nat → Nat
  | 0, _ => 0
  | p + 1, g => (List.range (p + 1)).foldl (fun w i => w + 2 ^ i * (((List.range (p + 1 - i)).filter fun j => bitOf g (i + j)).length % 2)) 0

/-- Position bits of a channel's word: p = n − s (R302). -/
def State.encBits (s : State) (c : Nat) : Nat := s.reg (K.encoderWordLength c) - s.reg (K.encoderStatusBits c)

/-- The binary position that a reading spells (R302). -/
def State.encPosition (s : State) (c : Nat) (r : EncRead) : Nat :=
  let p := s.encBits c
  let w := r.bits / 2 ^ s.reg (K.encoderStatusBits c) % 2 ^ p
  if s.reg (K.encoderCoding c) = 1 then grayDecode p w else w

/-- Whether a status bit flags the sample (R302). Status bit k counts from 0 (log entry 21). -/
def State.encStatusBad (s : State) (c : Nat) (r : EncRead) : Bool :=
  let n := s.reg (K.encoderStatusBits c)
  (List.range n).any fun k => bitOf r.bits (n - 1 - k) && bitOf (s.reg (K.encoderStatusMask c)) k

/-- Whether the second reading of a pass disagrees (R303). -/
def State.encDoubleBad (s : State) (c : Nat) (r : EncRead) : Bool :=
  s.flag (K.encoderDoubleRead c) && r.second != r.bits

/-- One encoder channel. -/
def State.enc (s : State) (c : Nat) : EncChan := SMap.get {} s.field.enc c

/-- Sets one encoder channel. -/
def State.setEnc (s : State) (c : Nat) (x : EncChan) : State :=
  { s with field := { s.field with enc := SMap.set {} s.field.enc c x } }

/-- Checks a reading of a channel (R303): whether it is flagged, with the counters and EncoderState. -/
def State.encCheck (s : State) (c : Nat) (r : EncRead) : Bool × State :=
  let wire := bitNat r.disagree + bitNat r.clkBad
  let framing := bitNat (!r.idleHigh || !r.monoLow) + bitNat (s.encDoubleBad c r)
  let stat := bitNat (s.encStatusBad c r)
  let x := s.enc c
  let low := if r.idleHigh then 0 else x.lowRuns + 1
  let bad := decide (0 < wire + framing + stat)
  let s := ((s.bump (K.wireDisagreements c) wire).bump (K.framingErrors c) framing).bump (K.statusRejects c) stat
  let s := s.setEnc c { x with lowRuns := low }
  let s := s.setReg (K.encoderRawWord c) (r.bits % 2 ^ 32)
  let s := if x.supplyTripped then s
    else if 3 ≤ low then s.setReg (K.encoderState c) 3
    else if bad = false then s.setReg (K.encoderState c) 1
    else if s.reg (K.encoderState c) = 3 then s else s.setReg (K.encoderState c) 1
  (bad, s)

/-! ### The source word (R13) -/

/-- The simulated belt's counter at the present tick (R13). -/
def State.simCount (s : State) : Nat :=
  ((s.belt.simBase : Int) + s.sreg 32 K.simulatedSpeed * (4 * (s.tick - s.belt.simTick) : Nat) / 1000000000) % 2 ^ 32 |>.toNat

/-- Bits of the source word: n of R14. -/
def State.srcBits (s : State) : Nat := if s.reg K.beltSource ≤ 1 then s.encBits (s.reg K.beltSource) else 32

/-- The difference of two words as R14 unwraps it. -/
def unwrap (n w prev : Nat) : Int :=
  let d := (w + 2 ^ n - prev % 2 ^ n) % 2 ^ n
  if 2 ^ (n - 1) ≤ d then (d : Int) - 2 ^ n else d

/-! ### Lines (R23 to R25) -/

/-- LineOriginPosition and LinePitch of a numbering (R23, R31). -/
def State.geoOf (s : State) (era : Nat) : Nat × Nat :=
  (SMap.find? s.belt.geos era).getD (s.reg K.lineOriginPosition, s.reg K.linePitch)

/-- Trigger position P_n of a line, in 1/65,536 bc (R23), under the geometry it was numbered by. -/
def State.linePos (s : State) (n : Nat) : Nat :=
  let g := s.geoOf (n / 2 ^ 64)
  g.1 * 65536 + n % 2 ^ 64 * g.2

/-- Where a stream triggers a line (R24). -/
def State.trigPos (s : State) (i n : Nat) : Int := s.linePos n + s.sreg 32 (K.streamViewOffset i) * 65536

/-- The lowest line of a stream that lies ahead of the emitted IBP (R25, R30). -/
def State.lineAhead (s : State) (i : Nat) : Nat :=
  let base := s.trigPos i (lineKey s.belt.era 0)
  lineKey s.belt.era
    (if (s.belt.ibp : Int) < base then 0 else ((s.belt.ibp - base) / s.reg K.linePitch).toNat + 1)

/-- Moves a stream's next line (R25, R30, R31, R232): lines below it that were not triggered never will be. -/
def State.moveNextLine (s : State) (i n : Nat) : State :=
  (s.setReg (K.streamNextLine i) (n % 2 ^ 48)).setStream i { s.stream i with first := n }

/-- A new numbering of lines begins; `g` is the geometry of the one that ends (R30, R31). -/
def State.newNumbering (s : State) (g : Nat × Nat) : State :=
  { s with belt := { s.belt with era := s.belt.era + 1, geos := SMap.put s.belt.geos s.belt.era g } }

/-- Recomputes each stream's next line (R14, R30, R31). -/
def State.recomputeLines (s : State) : State :=
  (List.range 16).foldl (fun s i => s.moveNextLine i (s.lineAhead i)) s

/-- Stripe height in force (R28). -/
def State.stripeS (s : State) : Nat :=
  match s.rtPlan with
  | some p => p.stripeLines
  | none => 64

/-- The belt position of a line's stamp (R23, R27). -/
def State.lineStamp (s : State) (n : Nat) : Nat := s.linePos n / 65536 % 2 ^ 48

/-- The belt position of a stripe: its first line's (R28). -/
def State.stripePos (s : State) (j : Nat) : Nat := s.lineStamp (j * s.stripeS)

/-- The lowest stripe whose last line's trigger position, taken with no view offset, lies ahead of the emitted IBP. -/
def State.stripeAhead (s : State) : Nat :=
  let base := s.linePos (lineKey s.belt.era 0)
  let n := if s.belt.ibp < base then 0 else (s.belt.ibp - base) / s.reg K.linePitch + 1
  lineKey s.belt.era n / s.stripeS

/-! ### The estimate and the emitted IBP (R17, R18) -/

/-- E(t) at the present tick (R17), held within the range of a 48.16 value. -/
def State.estimate (s : State) : Nat :=
  let b := s.belt
  (clampInt 0 (2 ^ 64 - 1) ((b.segBc * 65536 + 32768 : Nat) + (b.v * (s.tick - b.segTick : Nat)).tdiv (2 ^ 24))).toNat

/-- The emitted IBP of the present tick (R18), from that of the tick before. -/
def State.ibpNow (s : State) : Nat :=
  if s.belt.st = .lost ∨ s.belt.st = .noSource then s.belt.ibp
  else
    let e := s.estimate
    if s.belt.restart then e else match s.belt.follow with
      | .stopped => e
      | .forward => max s.belt.ibpPrev e
      | .reverse => min s.belt.ibpPrev e

/-- Forms the emitted IBP of the present tick (R18). It is formed as the tick begins, and again by the sample that completes
in the tick, so that what the tick stamps carries the position of this tick (R19, step 4; log entry 22). -/
def State.formIbp (s : State) : State := { s with belt := { s.belt with ibp := s.ibpNow } }

/-- The tick ends: its emitted IBP is the previous one of the tick that follows, which forms its own (R18, R19). -/
def State.nextTick (s : State) : State :=
  let away := s.belt.st == .lost || s.belt.st == .noSource
  ({ s with tick := s.tick + 1
            belt := { s.belt with ibpPrev := s.belt.ibp, restart := s.belt.restart && away } } : State).formIbp

/-! ### A new origin (R14, R30) -/

/-- The work of context 0 that holds line indices or stripe numbers is discarded (R30, R255). -/
def State.dropStream (s : State) : State :=
  let live := (s.tracks.table.filter fun p => p.2.st != .free).length + s.tracks.regions.length
  let s := (s.bump K.tracksDiscarded live).dropWork 0
  let x := s.ctx 0
  if x.st = .ready ∨ x.st = .running then s.setCtx 0 { x with st := .idle } else s

/-- bc is set to a value with every further effect of R30: the emitted IBP, lines, stripes, pending valve events and
stored pairs, the speed window, saturation and the fallback gap. The numbering of lines starts anew: what a pipeline keeps
by line is discarded with the line indices, and the data of a line triggered before it is taken in the order of its trigger
and dropped. -/
def State.setOrigin (s : State) (bc : Nat) : State :=
  let ibp := bc * 65536 + 32768
  let s := s.discardPulses
  let s := s.dropStream.closeGap
  let s := s.newNumbering (s.reg K.lineOriginPosition, s.reg K.linePitch)
  let s := { s with
    belt := { s.belt with bc, ibp, ibpPrev := ibp, pairs := [], win := [], saturated := false, reorigin := none
                          restart := true, streamStart := true, liveEra := s.belt.era }
    intake := { s.intake with streams := s.intake.streams.map fun (p : Nat × Stream) =>
                  (p.1, { p.2 with lines := [], highest := none, due := none }) }
    pipe := { s.pipe with passing := [], history := []
                          ctxs := (s.pipe.ctxs.filter fun (p : Nat × PipeCtx) => p.2.active != 0).map fun (p : Nat × PipeCtx) =>
                            (p.1, { active := p.2.active }) } }
  let s := s.recomputeLines
  let floor := ((List.range 16).filter fun i => s.reg (K.streamLinks i) != 0).foldl (fun m i => max m (s.stream i).first) 0
  { s with belt := { s.belt with stripe := s.stripeAhead, lineFloor := floor } }

/-- The belt states that DOZE rests in (R430). -/
def BeltSt.rests (st : BeltSt) : Bool := st == .stopped || st == .lost || st == .noSource

/-- Leaves STOPPED or NO_SOURCE, or enters another state: a running test pulse ends (R276), a device in READY by AutoReady
returns to RUN (R429), and one in DOZE wakes where the belt starts to move (R430). -/
def State.setBeltSt (s : State) (st : BeltSt) (follow : Dir) : State :=
  let old := s.belt.st
  let changed := decide (s.belt.follow ≠ follow) || old == .lost || old == .noSource
  let s := { s with belt := { s.belt with st, follow, restart := s.belt.restart || (changed && st != .lost && st != .holdover) } }
  let s := if st = .stopped ∨ st = .noSource then s else s.endTest Status.beltMoving
  let s := if old = .stopped ∧ st ≠ .stopped then s.autoWake else s
  if old.rests && !st.rests then s.wake 0 [.doze] else s

/-- The state that a measured speed gives (R20): the speed is `num`/`den` bc per tick. -/
def State.speedState (s : State) (num : Int) (den : Nat) : BeltSt × Dir :=
  let thr : Int := s.reg K.stopThreshold
  if num.natAbs * 250000000 < thr * den then (.stopped, .stopped)
  else if 0 ≤ num then (.forward, .forward) else (.reverse, .reverse)

end Sys2Proof.Machine
end

