-- ==== Sys2Proof/Machine/Belt.lean ====
section
/-! DEFINITION. The commands of the time unit that concern the source and its samples, and BeltReorigin (R14 to R21,
R30). The tick in progress is `State.tick`; TCLK_TICK ends it (log entry 22). -/

namespace Sys2Proof.Machine

/-- Whether the time unit runs: not in reset, not HALTED (R458), and in no power state that switches it off (R427). -/
def State.timeRuns (s : State) : Bool :=
  !s.supplies.inReset && !s.boot.halted && s.power.st != .retain && s.power.st != .standby

/-- The source is latched once per EncoderSamplePeriod (R16). -/
def State.sampleLatch (s : State) : State :=
  let due : Bool := match s.belt.lastLatch with
    | none => true
    | some t => decide (s.reg K.encoderSamplePeriod ≤ 4 * (s.tick - t))
  if s.timeRuns && due then
    let word := if s.reg K.beltSource = 2 then s.belt.quad else if s.reg K.beltSource = 3 then s.simCount else 0
    { s with belt := { s.belt with latch := some { tick := s.tick, word }, lastLatch := some s.tick } }
  else s

/-- ENCODER_SAMPLE_LATCH (R16). -/
def execEncoderSampleLatch (s : State) : Host.Outcome State Fault Refusal := .next s.sampleLatch

/-- A sample is rejected (R14, R16). -/
def State.rejectSample (s : State) : State :=
  ({ s with belt := { s.belt with rejected := s.belt.rejected + 1 } } : State).bump K.samplesRejected

/-- Moves bc by a difference (R15): whether this difference saturates it. -/
def State.moveBc (s : State) (d : Int) : Bool × State :=
  if s.belt.saturated then (false, s)
  else
    let n := s.belt.bc + d
    if n < 0 then (false, ({ s with belt := { s.belt with bc := 0 } } : State).bump K.reverseSamplesDiscarded)
    else if 2 ^ 48 - 1 ≤ n then
      (true, ({ s with belt := { s.belt with bc := 2 ^ 48 - 1, saturated := true } } : State).bump K.positionSaturations)
    else (false, { s with belt := { s.belt with bc := n.toNat } })

/-- The oldest retained sample within the speed window, or the one after LOST whatever its age (R16, R20). -/
def State.speedFrom (s : State) (tl : Nat) : Option (Nat × Nat) :=
  let w := 31250 * 2 ^ s.reg K.speedWindow
  if s.belt.sinceLost then s.belt.win.getLast?
  else (s.belt.win.filter fun x => decide (x.1 < tl) && decide (tl - x.1 ≤ w)).getLast?

/-- Speed as the record and BeltSpeed carry it, in bc/s (R20). -/
def State.speedF32 (s : State) : Nat := f32OfRat (s.belt.spNum * 250000000) s.belt.spDen

/-- The rest of a valid sample once bc stands (R16 to R21, R29): `lost` says that it is the first one in LOST, `sat`
that it saturated bc. DESIGN CHOICE (log entry 99): a sample that ends LOST sets the emitted IBP to E(t) as R18 says, also
where it is the first one after a change of the encoder format (R14); while MaxBeltSpeed is 0, which declares no speed, no
overspeed is found (R21). -/
def State.sampleTaken (s : State) (tl word : Nat) (lost sat : Bool) : State :=
  let win := if lost then [] else s.belt.win
  let s := { s with belt := { s.belt with win } }
  let q : Int × Nat := if lost then (0, 1) else match s.speedFrom tl with
    | some (t, b) => ((s.belt.bc : Int) - b, tl - t)
    | none => (s.belt.spNum, s.belt.spDen)
  let num := q.1
  let den := q.2
  let (st, dir) := if lost then (BeltSt.stopped, Dir.stopped) else s.speedState num den
  let w := 31250 * 2 ^ s.reg K.speedWindow
  let v : Int := if st = .stopped then 0 else (num * 2 ^ 40).tdiv den
  let max : Int := s.reg K.maxBeltSpeed
  let isOver := decide (0 < max) && decide (max * den < num * 250000000)
  let crossed := isOver && !s.belt.isOver
  let s := { s with belt := { s.belt with
    wPrev := word, fresh := false, rebase := false, rejected := 0, lastValid := s.tick
    segBc := s.belt.bc, segTick := tl, spNum := num, spDen := den, v, isOver
    win := (tl, s.belt.bc) :: s.belt.win.filter fun x => decide (tl - x.1 ≤ w)
    pairs := ((s.belt.bc, 4 * tl) :: s.belt.pairs).take 4096
    sinceLost := lost } }
  let s := ((s.setReg K.lastSampleTime (s.t64At (4 * tl))).setBeltSt st dir).formIbp
  let s := if sat then
      (s.emit (s.recAt RType.beltSaturation Unit.time)).report FCode.beltSaturated Unit.time
    else s
  let s := if crossed then
      (s.bump K.overspeedEvents).emit (s.recAt RType.overspeed Unit.time (s.speedF32 + 2 ^ 32 * s.reg K.maxBeltSpeed))
    else s
  s.trackReady

/-- A sample that its channel did not flag (R14, R16, R30). DESIGN CHOICE (log entry 99): the row of R16 for source 0x02 in
LOST, n = 32, serves source 0x03 as well. -/
def State.takeSample (s : State) (tl word : Nat) : State :=
  let b := s.belt
  if b.fresh then (s.setOrigin (b.reorigin.getD (s.reg K.beltStartPosition))).sampleTaken tl word false false
  else if b.rebase then
    let s := match b.reorigin with
      | some v => s.setOrigin v
      | none => s
    s.sampleTaken tl word (b.st == .lost) false
  else
    let n := s.srcBits
    let d := unwrap n word b.wPrev
    let d := if s.flag K.beltDirectionInvert then -d else d
    let limit := if b.st = .lost then 2 ^ (n - 1) - 1 else s.reg K.maxStepPerSample
    if limit < d.natAbs then s.rejectSample
    else
      let s := match b.reorigin with
        | some v => s.setOrigin v
        | none => s
      let (sat, s) := s.moveBc d
      s.sampleTaken tl word (b.st == .lost) sat

/-- A sample's data is complete (R14, R16, R19, R301). -/
def State.completeSample (s : State) (r : EncRead) : State :=
  match s.belt.latch with
  | none => s
  | some l =>
    let src := s.reg K.beltSource
    if src ≤ 1 ∧ 4 * (s.tick - l.tick) < s.encTransfer src then s
    else
      let s := { s with belt := { s.belt with latch := none } }
      let (bad, s) := if src ≤ 1 then s.encCheck src r else (false, s)
      let word := if src ≤ 1 then s.encPosition src r else l.word
      let s := s.setReg K.lastSampleWord word
      if bad then s.rejectSample else s.takeSample l.tick word

/-- SAMPLE_COMPLETE (R14). -/
def execSampleComplete (r : EncRead) (s : State) : Host.Outcome State Fault Refusal := .next (s.completeSample r)

/-- No valid sample for longer than two sample periods (R16, R18). -/
def State.enterHoldover (s : State) : State :=
  if (s.belt.st = .forward ∨ s.belt.st = .reverse ∨ s.belt.st = .stopped) ∧
      2 * s.reg K.encoderSamplePeriod < 4 * (s.tick - s.belt.lastValid) then
    ((s.bump K.holdoverEntries).setBeltSt .holdover s.belt.follow).trackReady
  else s

/-- HOLDOVER_ENTRY (R16). -/
def execHoldoverEntry (s : State) : Host.Outcome State Fault Refusal := .next s.enterHoldover

/-- No valid sample for longer than EncoderHoldover (R16): the emitted IBP freezes and speed reads 0. -/
def State.enterLost (s : State) : State :=
  if s.belt.st ≠ .lost ∧ s.belt.st ≠ .noSource ∧ s.reg K.encoderHoldover < 4 * (s.tick - s.belt.lastValid) then
    let s := (s.bump K.beltLostEvents).setBeltSt .lost .stopped
    let s := { s with belt := { s.belt with v := 0, spNum := 0, spDen := 1, isOver := false } }
    let s := s.emit (s.recAt RType.beltLost Unit.time (s.belt.wPrev + 2 ^ 32 * min (2 ^ 32 - 1) s.belt.rejected))
    (s.report FCode.encoderLost Unit.time (s.reg K.beltSource + 65536 * s.belt.wPrev)).trackReady
  else s

/-- BELT_LOST (R16). -/
def execBeltLost (s : State) : Host.Outcome State Fault Refusal := .next s.enterLost

/-- BeltReorigin (R30): the value waits for the next valid sample. -/
def State.reoriginCmd (s : State) (v : Nat) : Nat × State :=
  if 2 ^ 48 ≤ v then (Status.reservedNonzero, s)
  else if s.belt.st ≠ .stopped ∧ s.belt.st ≠ .noSource then (Status.beltMoving, s)
  else ({ s with belt := { s.belt with reorigin := some v } } : State).cmdOk K.beltReorigin

/-- BELT_REORIGIN (R30). -/
def execBeltReorigin (sess val : Nat) (s : State) : Host.Outcome State Fault Refusal :=
  .next (s.runCmd sess K.beltReorigin fun s => s.reoriginCmd val)

end Sys2Proof.Machine
end

