-- ==== Sys2Proof/Machine/Numeric.lean ====
section
/-! DEFINITION. The arithmetic of the array engine and of the vector units on values: scale records, quantisation,
activation tables, the outlier transform, reductions (R129, R130, R155 to R168, R203, R204, R208 to R211). -/

namespace Sys2Proof.Machine

/-! ### Scale records (R160 to R163) -/

/-- A declared scale skew: expected tag, received tag, received kind (R163, R164). -/
structure Skew where
  expected : Nat
  tag : Nat
  kind : Nat
  deriving DecidableEq, Repr

/-- Kind and BlockTag of a record (R160). -/
def recKind (r : Nat) : Nat := bits r 57 55
def recTag (r : Nat) : Nat := bits r 63 58

/-- The check of a record against what its reader expects (R163). -/
def checkRec (kind tag r : Nat) : Option Skew :=
  if recKind r = kind ∧ recTag r = tag % 64 then none else some { expected := tag % 64, tag := recTag r, kind := recKind r }

/-- The AFFINE_CHANNEL record of a channel (R161, R166). -/
def affineRec (ch : Nat) (flat : Bool) (zp const scale : Nat) : Nat :=
  ch % 64 * 2 ^ 58 + 4 * 2 ^ 55 + bitNat flat * 2 ^ 54 + zp * 2 ^ 32 + const * 2 ^ 16 + scale

/-! ### Exact values -/

/-- A power of two, also of a negative exponent. -/
def Flt.pow2 (e : Int) : Flt := if 0 ≤ e then .fin false (2 ^ e.toNat) 1 else .fin false 1 (2 ^ (-e).toNat)

/-- A BF16 pattern widened to binary32 (R167). -/
def widen (v : Nat) : Nat := v % 65536 * 65536

/-! ### Quantisation and dequantisation (R159, R165 to R167) -/

/-- What quantising one element gives: its code as a byte, and whether it is clipped or a NaN. -/
structure Quant where
  code : Nat
  clipped : Bool
  nan : Bool
  deriving DecidableEq, Repr

/-- Symmetric quantisation of a binary32 value under base scale `sa` (BF16) and exponent `j` (R165). -/
def quantSym (sa j x : Nat) : Quant :=
  match f32 x with
  | .nan => { code := 0, clipped := true, nan := true }
  | .inf neg => { code := unsigned 8 (if neg then -128 else 127), clipped := true, nan := false }
  | v =>
    let u := (f32 (round32 (v.div (bf16 sa)))).mul (Flt.pow2 (-(j : Int)))
    match u.toInt with
    | some i => { code := unsigned 8 (clampInt (-128) 127 i), clipped := decide (i < -128 ∨ 127 < i), nan := false }
    | none => { code := unsigned 8 (match u with
                  | .inf true => -128
                  | _ => 127), clipped := true, nan := false }

/-- A symmetric code's value (R208). -/
def dequantSym (sa j code : Nat) : Nat :=
  round32 (((Flt.ofInt (signed 8 code)).mul (Flt.pow2 j)).mul (bf16 sa))

/-- The dequantised value of an accumulator (R159): one rounding of the exact product. -/
def dequantAcc (sw sa : Nat) (acc : Int) : Nat := round32 (((bf16 sw).mul (bf16 sa)).mul (Flt.ofInt acc))

/-- An element of an AFFINE_CHANNEL tensor (R167). -/
def dequantAffine (r code : Nat) : Nat :=
  if bitOf r 54 then widen (bits r 31 16)
  else round32 ((bf16 (bits r 15 0)).mul (Flt.ofInt (signed 8 code - signed 8 (bits r 39 32))))

/-- Least and greatest finite elements of a channel (R166). -/
def finiteRange (xs : List Nat) : Option (Nat × Nat) :=
  match xs.filter fun x => (f32 x).finite with
  | [] => none
  | x :: r => some (r.foldl (fun m y => if (f32 y).lt (f32 m) then y else m) x,
                    r.foldl (fun m y => if (f32 m).lt (f32 y) then y else m) x)

/-- The record that affine quantisation writes for a channel (R166). -/
def affineOf (ch : Nat) (xs : List Nat) : Nat :=
  match finiteRange xs with
  | none => affineRec ch true 0 0 0
  | some (lo, hi) =>
    let s := round16 (((f32 hi).add (f32 lo).neg).div (Flt.ofInt 255))
    if (f32 hi).lt (f32 lo) = false ∧ (f32 lo).lt (f32 hi) = false then affineRec ch true 0 (round16 (f32 lo)) 0
    else if s % 32768 = 0 then affineRec ch true 0 (round16 (f32 lo)) 0
    else
      let q := f32 (round32 ((f32 lo).div (bf16 s)))
      let z := match ((Flt.ofInt (-128)).add q.neg).toInt with
        | some i => clampInt (-128) 127 i
        | none => (match q with
          | .inf false => -128
          | _ => 127)
      affineRec ch false (unsigned 8 z) 0 s

/-- The code of an element under an affine record (R166). -/
def quantAffine (r x : Nat) : Quant :=
  if bitOf r 54 then { code := 0, clipped := false, nan := (f32 x).isNaN }
  else
    let z := signed 8 (bits r 39 32)
    match f32 x with
    | .nan => { code := unsigned 8 z, clipped := false, nan := true }
    | .inf neg => { code := unsigned 8 (if neg then -128 else 127), clipped := true, nan := false }
    | v =>
      match (f32 (round32 (v.div (bf16 (bits r 15 0))))).toInt with
      | some i => { code := unsigned 8 (clampInt (-128) 127 (i + z)), clipped := decide (i + z < -128 ∨ 127 < i + z), nan := false }
      | none => { code := unsigned 8 (if bitOf x 31 then -128 else 127), clipped := true, nan := false }

/-! ### Reductions on the arrays (R129, R130, R156 to R158) -/

/-- Consecutive pieces of a list; `k` bounds their number. -/
def pieces {α : Type} : Nat → Nat → List α → List (List α)
  | 0, _, _ => []
  | k + 1, n, l => match l with
    | [] => []
    | _ => l.take n :: pieces k n (l.drop n)

/-- Whether an accumulator value is out of range (R130). -/
def overI32 (v : Int) : Bool := decide (v < -(2 ^ 31) ∨ 2 ^ 31 - 1 < v)

/-- An accumulator add that saturates (R130): the value, and whether it saturated. -/
def satAdd (a b : Int) : Int × Bool := (clampInt (-(2 ^ 31)) (2 ^ 31 - 1) (a + b), overI32 (a + b))

/-- The sum of the products of a pass (R129): exact. -/
def passSum (l : List (Int × Int)) : Int := (l.map fun p => p.1 * p.2).sum

/-- T_p of a pass of a scaled layer from its slice record (R157, R158): two groups per pass take two shifts. -/
def shiftedSum (perPass g : Nat) (r : Nat) (l : List (Int × Int)) : Int :=
  if 2 * g = perPass then
    passSum (l.take g) * 2 ^ bits r 3 0 + passSum (l.drop g) * 2 ^ bits r 7 4
  else passSum l * 2 ^ bits r 3 0

/-- One level of a binary32 adder tree: operands 2i and 2i + 1, each add rounded (R129). -/
def pairAdds : List Nat → List Nat
  | a :: b :: r => f32add a b :: pairAdds r
  | l => l

/-- `k` levels of the tree. -/
def treeLevels : Nat → List Nat → List Nat
  | 0, l => l
  | k + 1, l => treeLevels k (pairAdds l)

/-- The tree over 2^k operands, short lists padded with +0. -/
def treeAdd (k : Nat) (l : List Nat) : Nat :=
  (treeLevels k ((List.range (2 ^ k)).map fun i => l.getD i 0)).headD 0

/-- A vector reduction: the operands are padded with +0 to the next power of two (R209). -/
def treeSum (l : List Nat) : Nat :=
  treeAdd (if l.length ≤ 1 then 0 else (l.length - 1).log2 + 1) l

/-- The sum of a pass in BF16 split mode (R156): products exact in binary32, the tree of 32 row pairs. -/
def bfPassSum (l : List (Nat × Nat)) : Nat := treeAdd 5 (l.map fun p => round32 ((bf16 p.1).mul (bf16 p.2)))

/-! ### Activation functions (R203, R204) -/

/-- A table: its lower end and segment width in 1/16, and its values outside the domain (R204). -/
structure Table where
  lo : Int
  w : Nat
  below : Nat
  above : Nat
  deriving DecidableEq, Repr

/-- Tables 0 SIGMOID, 1 TANH and 2 EXP (R204). -/
def tableOf (t : Nat) : Table :=
  if t = 0 then { lo := -256, w := 2, below := 0, above := 0x3F800000 }
  else if t = 1 then { lo := -128, w := 1, below := 0xBF800000, above := 0x3F800000 }
  else { lo := -512, w := 2, below := 0, above := 0x3F800000 }

/-- Floor of 16·x/w − lo·.../w: the segment of a finite value, relative to the lower end (R204). -/
def segment (t : Table) (neg : Bool) (n d : Nat) : Int :=
  ((if neg then -1 else 1) * (16 * n : Int) - t.lo * d).fdiv (t.w * d)

/-- A table function (R204): the coefficients are those of ActivationTables. -/
def tableFun (tab : List Byte) (t x : Nat) : Nat :=
  let T := tableOf t
  match f32 x with
  | .nan => f32NaN
  | .inf neg => if neg then T.below else T.above
  | .fin neg n d =>
    let i := segment T neg n d
    if i < 0 then T.below
    else if 256 ≤ i then T.above
    else
      let base : Int := T.lo + i * T.w
      let r := round32 ((Flt.fin neg n d).add (Flt.fin (decide (base < 0)) base.natAbs 16).neg)
      let a := leAt tab (2048 * t + 8 * i.toNat) 4
      let b := leAt tab (2048 * t + 8 * i.toNat + 4) 4
      f32add a (f32mul b r)

/-- The activation functions (R203). -/
def activate (tab : List Byte) (code a b x : Nat) : Nat :=
  if (f32 x).isNaN then f32NaN
  else if code = 1 then (if (Flt.fin false 0 1).lt (f32 x) then x else 0)
  else if code = 2 then f32min (f32max x a) b
  else if code = 3 then (if (f32 x).lt (Flt.fin false 0 1) then f32mul a x else round32 (f32 x))
  else if code = 4 then tableFun tab 0 x
  else if code = 5 then tableFun tab 1 x
  else if code = 6 then f32mul x (tableFun tab 0 x)
  else x

/-! ### The outlier transform (R168) -/

/-- One butterfly stage of stride `h`. -/
def butterfly (h : Nat) (x : List Nat) : List Nat :=
  (List.range x.length).map fun i =>
    if i / h % 2 = 0 then f32add (x.getD i 0) (x.getD (i + h) 0) else f32sub (x.getD (i - h) 0) (x.getD i 0)

/-- The stages of a block of 2^k channels, in ascending order. -/
def transformBlock (k : Nat) (x : List Nat) : List Nat := (List.range k).foldl (fun x st => butterfly (2 ^ st) x) x

/-- The transform of size n over the channels of one position; n = 0 leaves them. -/
def transform (n : Nat) (x : List Nat) : List Nat :=
  if n = 0 then x else ((pieces x.length n x).map (transformBlock n.log2)).flatten

/-! ### Elementwise, normalisation, softmax, arg-max (R208, R210, R211) -/

/-- ELEMENTWISE: x op y with one rounding (R208). -/
def elementOp (op x y : Nat) : Nat :=
  if op = 1 then f32add x y else if op = 2 then f32sub x y else if op = 3 then f32mul x y
  else if op = 4 then f32max x y else f32min x y

/-- NORM over the channels of one position (R210). -/
def normalise (eps : Nat) (gamma beta x : List Nat) : List Nat :=
  if x.any fun v => (f32 v).isNaN then x.map fun _ => f32NaN
  else
    let c := round32 (Flt.ofInt x.length)
    let mu := f32div (treeSum x) c
    let d := x.map fun v => f32sub v mu
    let q := d.map fun v => f32mul v v
    let var := f32div (treeSum q) c
    let r := f32sqrt (f32add var (widen eps))
    (List.range x.length).map fun i => f32add (f32mul (f32div (d.getD i 0) r) (gamma.getD i 0)) (beta.getD i 0)

/-- Whether a row is a NaN row (R211): it holds a NaN or a +∞, or no finite value. -/
def nanRow (x : List Nat) : Bool :=
  (x.any fun v => match f32 v with
    | .nan => true
    | .inf neg => !neg
    | _ => false) || !(x.any fun v => (f32 v).finite)

/-- The greatest of a row's values that are not NaN, with its index; the lowest index wins (R211). -/
def argMax (x : List Nat) : Nat × Nat :=
  let go := fun (acc : Option (Nat × Nat)) (p : Nat × Nat) =>
    if (f32 p.1).isNaN then acc
    else match acc with
      | none => some (p.2, p.1)
      | some (i, m) => if (f32 m).lt (f32 p.1) then some (p.2, p.1) else some (i, m)
  (x.zipIdx.foldl go none).getD (0, f32NaN)

/-- SOFTMAX of a row (R211). -/
def softmax (tab : List Byte) (x : List Nat) : List Nat :=
  if nanRow x then x.map fun _ => f32NaN
  else
    let m := (argMax x).2
    let e := x.map fun v => tableFun tab 2 (f32sub v m)
    let sum := treeSum e
    e.map fun v => f32div v sum

end Sys2Proof.Machine
end

