-- ==== Sys2Proof/Machine/EngineOps.lean ====
section
/-! DEFINITION. The array engine, the window engines and the vector units as operations on tensors: how elements lie in
the activation stores, windows and their taps, reductions, the epilogue and its outputs (R114, R124 to R131, R175 to
R197, R201 to R211, R218). -/

namespace Sys2Proof.Machine

/-! ### Elements in the activation stores (R114, R133, R218) -/

/-- Bytes of an element of a layout (R218). -/
def layoutBytes (l : Nat) : Nat := if l = 2 then 4 else if l = 3 then 2 else 1

/-- Channels of a block of a layout (R114): binary32 and BF16 tensors take the blocks of C16 (log entry 27). -/
def layoutBlock (l : Nat) : Nat := if l = 1 then 32 else 16

/-- Byte offset of an element of a tensor whose base is `base` (R114). -/
def Tensor.addr (t : Tensor) (base row col ch : Nat) : Nat :=
  let k := layoutBlock t.layout
  base + ((((ch / k) * t.rows + row) * t.width + col) * k + ch % k) * layoutBytes t.layout

/-- Bytes that a tensor's elements take. -/
def Tensor.bytes (t : Tensor) : Nat :=
  ceilDiv t.chans (layoutBlock t.layout) * layoutBlock t.layout * t.rows * t.width * layoutBytes t.layout

/-- Reads `n` bytes of a die's activation store. -/
def State.actRead (s : State) (die off n : Nat) : Nat := leNat (SMap.getList 0 s.engine.act (die * 2 ^ 26 + off) n)

/-- Writes bytes of a die's activation store. -/
def State.actWrite (s : State) (die off : Nat) (d : List Byte) : State :=
  { s with engine := { s.engine with act := SMap.setList 0 s.engine.act (die * 2 ^ 26 + off) d } }

/-- One element of a tensor. -/
def State.elem (s : State) (t : Tensor) (die base row col ch : Nat) : Nat :=
  s.actRead die (t.addr base row col ch) (layoutBytes t.layout)

/-- Writes one element of a tensor. -/
def State.setElem (s : State) (t : Tensor) (row col ch v : Nat) : State :=
  s.actWrite t.die (t.addr t.off row col ch) (leBytes (layoutBytes t.layout) v)

/-! ### The work of a kernel -/

/-- Bytes of a memory-side die that a READ_IMAGE has brought into the reel of a die (R134): the first one's die offset within
the image. -/
structure Fill where
  die : Nat
  off : Nat
  bytes : List Byte
  deriving DecidableEq, Repr

/-- What a kernel works on: its plan and image, what of the image lies in the reel, its scale records, the stripe and the
stream start, its layer and die. -/
structure Work where
  plan : Plan
  img : List Byte
  memDies : Nat := 1                  -- memory-side dies that the image is spread over (R311)
  reel : List Fill := []
  scales : List Nat := []             -- the plan's records in the scale store (R132)
  obs : KernelObs := {}
  stripe : Nat                        -- stripe number; 0 for a background step
  start : Nat                         -- first stripe since the stream start
  lines : Option Nat                  -- real lines since the stream start, once a flush has closed it (R185)
  cut : Bool := false                 -- a change of geometry ended the stream, not a flush (R31, R110)
  die : Nat
  layer : Layer
  rerun : Bool                        -- the wide re-run of the layer (R172)
  deriving DecidableEq, Repr

/-- Operand mode of the work: BF16 split in a re-run (R172). -/
def Work.mode (w : Work) : Nat := if w.rerun then 2 else w.layer.mode

/-- Reduction rows per pass of the work (R125). -/
def Work.perPass (w : Work) : Nat := if w.mode = 0 then 64 else if w.mode = 1 then 128 else 32

/-- Whether the work's layer reads the belt as a stream. -/
def Work.stream (w : Work) : Bool := w.layer.windowed && !w.layer.bounded

/-- Whether the work reads a record of a layout: BF16 copies in BF16 mode, codes otherwise. -/
def Work.reads (w : Work) (l : Nat) : Bool :=
  if w.layer.op = 1 then (if w.mode = 2 then l == 3 else decide (l ≤ 1)) else if w.layer.op = 2 then decide (l ≤ 1) else true

/-- The input tensor's record on a die. -/
def Work.inRec (w : Work) (die : Nat) : Option Tensor := w.plan.tensor w.layer.inT die w.reads

/-- Whether the vector unit of the work makes INT32 adds, which carry a residue modulo 3 (R212): in a combination, or in
WINDOW_MAC. -/
def Work.checksAdds (w : Work) : Bool :=
  w.layer.mac || (w.layer.op == 1 && w.mode != 2 && w.layer.comb.any (· != 0xFFFF))

/-- Whether the work reads the stripe input: tensor 0, in the stripe's buffer (R218, R219). -/
def Work.stripeInput (w : Work) : Bool := w.layer.inT == 0 && w.plan.cls == 0

/-- Where a position of the input lies: die, base, record, local row and column. A tensor that two dies share is split
by columns, or by rows, with the lower part on CD0 (R191; log entry 28). -/
def Work.locate (w : Work) (row col : Nat) : Option (Nat × Nat × Tensor × Nat × Nat) :=
  if w.stripeInput then
    let (d, b) := w.plan.buffer w.stripe
    (w.plan.tensors.find? fun t => t.num == 0).map fun t => (d, b, t, row, col)
  else
    match w.inRec 0, w.inRec 1 with
    | some t0, some t1 =>
      if w.layer.windowed ∧ t0.width + t1.width = w.layer.wIn then
        if col < t0.width then some (0, t0.off, t0, row, col) else some (1, t1.off, t1, row, col - t0.width)
      else if w.layer.windowed ∧ t0.rows + t1.rows = w.layer.inRows then
        if row < t0.rows then some (0, t0.off, t0, row, col) else some (1, t1.off, t1, row - t0.rows, col)
      else if w.die = 0 then some (0, t0.off, t0, row, col) else some (1, t1.off, t1, row, col)
    | some t, none => some (0, t.off, t, row, col)
    | none, some t => some (1, t.off, t, row, col)
    | none, none => none

/-- An element of the input tensor of the present stripe or image; absent tensors read 0. What lies on the other die comes
from the halo region, where the plan has had it sent (R191; log entry 28). -/
def State.inElem (s : State) (w : Work) (row col ch : Nat) : Nat :=
  match w.locate row col with
  | some (d, b, t, r, c) =>
    if d = w.die then s.elem t d b r c ch
    else match s.engine.halo.find? fun h => h.die == w.die && h.plan == w.plan.slot && h.tensor == t.num &&
        h.layout == t.layout && h.stripe == w.stripe && h.row == row && h.col == col with
      | some h => h.vals.getD ch 0
      | none => s.elem t d b r c ch
  | none => 0

/-- The output record of the work on its die, of a layout that a test accepts. -/
def Work.outRec (w : Work) (ok : Nat → Bool) : Option Tensor := w.plan.tensor w.layer.outT w.die ok

/-- Rows per stripe and columns of a whole tensor, over both dies: those of the stripe input, and what the layers above a
tensor make of them; `n` bounds the depth. -/
def Plan.dims (p : Plan) : Nat → Nat → Nat × Nat
  | 0, _ => (0, 0)
  | n + 1, t =>
    match p.layers.find? fun l => l.outT == t && l.op != 8 with
    | some l => if l.windowed then (l.outRows, l.wOut) else p.dims n l.inT
    | none => match p.tensors.find? fun x => x.num == t with
      | some x => (x.rows, x.width)
      | none => (0, 0)

/-- Global row and column of the first position of the die's part of the output (R191). -/
def Work.origin (w : Work) : Nat × Nat :=
  if w.die = 0 then (0, 0)
  else
    match w.plan.tensor w.layer.outT 0 fun _ => true, w.plan.tensor w.layer.outT 1 fun _ => true with
    | some t0, some t1 =>
      let (rows, cols) := w.plan.dims (w.plan.layers.length + 1) w.layer.outT
      if t0.width + t1.width = cols then (0, t0.width) else if t0.rows + t1.rows = rows then (t0.rows, 0) else (0, 0)
    | _, _ => (0, 0)

/-- Rows and columns of the die's part of the output. -/
def Work.extent (w : Work) : Nat × Nat :=
  match w.outRec fun _ => true with
  | some t => (t.rows, t.width)
  | none => (0, 0)

/-- The positions of tiles `first` to `first + n − 1`: 256 consecutive columns of one output row each (R124, R180). -/
def Work.positions (w : Work) (first n : Nat) : List (Nat × Nat) :=
  let (rows, cols) := w.extent
  let per := ceilDiv cols 256
  if per = 0 then []
  else ((List.range n).map fun i =>
    let row := (first + i) / per
    let c0 := (first + i) % per * 256
    if row < rows then ((List.range 256).map fun x => (row, c0 + x)).filter fun p => decide (p.2 < cols) else []).flatten

/-! ### The belt direction (R183 to R185) -/

/-- Rows that a tensor really has since the stream start, once the stream has ended (R185): the layers above it in turn,
`n` bounding the depth. -/
def Work.realRows (w : Work) : Nat → Nat → Nat → Nat
  | 0, _, lines => lines
  | n + 1, t, lines =>
    match w.plan.layers.find? fun l => l.outT == t with
    | none => lines * (w.plan.dims 1 t).1 / max 1 w.plan.stripeLines
    | some l =>
      let e := w.realRows n l.inT lines
      if l.windowed = false then e
      else if l.wOp = 7 ∨ l.wOp = 8 then l.sh * e
      else if e + l.pt + l.pb < l.dh * (l.kh - 1) + 1 then 0
      else (e + l.pt + l.pb - l.dh * (l.kh - 1) - 1) / l.sh + 1

/-- Rows of a tensor's first stripe that come before its row 0: what the row lags above it sum to (R183; log entry 32).
None for a tensor whose rows are no belt rows: a work list and what is made of it (R254). -/
def Plan.lag (p : Plan) : Nat → Nat → Option Nat
  | 0, _ => none
  | n + 1, t =>
    match p.layers.find? fun l => l.outT == t with
    | none => some 0
    | some l =>
      if l.op = 8 then none
      else (p.lag n l.inT).map fun a =>
        if l.windowed = false then a
        else if l.wOp = 7 ∨ l.wOp = 8 then l.sh * a + l.rowLag else ceilDiv a l.sh + l.rowLag

/-- The lag of a tensor of the work's plan. -/
def Work.lagOf (w : Work) (t : Nat) : Option Nat := w.plan.lag (w.plan.layers.length + 1) t

/-- E of R185 for a tensor; none while the stream runs. -/
def Work.endOf (w : Work) (t : Nat) : Option Nat := w.lines.map fun n => w.realRows (w.plan.layers.length + 1) t n

/-- E of R185 for the work's input; the height of a bounded image. -/
def Work.endRow (w : Work) : Option Nat :=
  if w.layer.windowed ∧ w.layer.bounded then some w.layer.inRows else w.endOf w.layer.inT

/-- The absolute row of the first row that this stripe adds to the input (R183). -/
def Work.firstRow (w : Work) : Int :=
  if w.stream then ((w.stripe : Int) - w.start) * w.layer.inRows - ((w.lagOf w.layer.inT).getD 0 : Nat) else 0

/-- The absolute output row of a local one (R183): counted from the stream start. -/
def Work.absRow (w : Work) (row : Nat) : Int :=
  if w.stream then
    ((w.stripe : Int) - w.start) * w.layer.outRows - ((w.lagOf w.layer.outT).getD 0 : Nat) + w.origin.1 + row
  else w.origin.1 + row

/-- Whether an output row runs as a masked no-op (R184, R185, R228, R233). The rows of a bounded layer are no belt rows
(R186). -/
def Work.masked (w : Work) (row : Nat) : Bool :=
  if w.plan.cls ≠ 0 then false
  else if w.layer.windowed ∧ w.layer.bounded then decide (w.stripe < w.start)
  else if w.stream then
    let o := w.absRow row
    decide (o < 0) ||
    (match w.endRow with
      | some e =>
        if w.layer.wOp = 7 ∨ w.layer.wOp = 8 then decide ((w.layer.sh * e : Int) ≤ o)
        else decide ((e + w.layer.pb : Int) ≤ o * w.layer.sh - w.layer.pt + w.layer.dh * (w.layer.kh - 1))
      | none => false)
  else
    match w.lagOf w.layer.outT with
    | none => decide (w.stripe < w.start)
    | some a =>
      let rows := (w.plan.dims (w.plan.layers.length + 1) w.layer.outT).1
      let o : Int := ((w.stripe : Int) - w.start) * rows - a + w.origin.1 + row
      decide (o < 0) || (match w.endOf w.layer.outT with
        | some e => decide ((e : Int) ≤ o)
        | none => false)

/-! ### Taps (R179, R181, R190) -/

/-- Key of a carried row: plan slot, die, layer, element size and row (R190). -/
def Work.carryKey (w : Work) (row : Nat) : Nat :=
  (((w.plan.slot * 2 + w.die) * 65536 + w.layer.num) * 2 + bitNat w.rerun) * 2 ^ 80 + row

/-- One row of the input across its whole width and all channels, as the carry region holds it (R190). -/
def State.inRow (s : State) (w : Work) (row : Nat) : List Nat :=
  ((List.range w.layer.wIn).map fun c => (List.range w.layer.cIn).map fun ch => s.inElem w row c ch).flatten

/-- An element of an absolute input row: of the present stripe, or carried from an earlier one. -/
def State.rowElem (s : State) (w : Work) (row : Int) (col ch : Nat) : Nat :=
  let r := row - w.firstRow
  if w.layer.cIn ≤ ch then 0
  else if 0 ≤ r then s.inElem w r.toNat col ch
  else (SMap.get [] s.engine.lineBuf (w.carryKey row.toNat)).getD (col * w.layer.cIn + ch) 0

/-- The input position of a tap, none when the tap is padded (R179). -/
def Work.tap (w : Work) (orow : Int) (ocol ty tx : Nat) : Option (Int × Nat) :=
  let l := w.layer
  let iy := orow * l.sh - l.pt + l.dh * ty
  let ix : Int := (ocol * l.sw : Int) - l.pl + l.dw * tx
  let below : Bool := match w.endRow with
    | some e => decide ((e : Int) ≤ iy)
    | none => false
  if ix < 0 ∨ (l.wIn : Int) ≤ ix ∨ iy < 0 ∨ below = true then none else some (iy, ix.toNat)

/-- Base scale and group exponents of a tensor (R161, R218): the ACT_TENSOR record, then the ACT_GROUP records (log
entry 29). -/
def Work.scaleRec (w : Work) (i : Nat) : Nat := w.scales.getD i 0

/-- The record by which a tensor's scale is found on any die. -/
def Work.tensorScale (w : Work) (t : Nat) : Option Nat :=
  (w.plan.tensors.find? fun x => x.num == t && x.scale != 0xFFFFFFFF).map fun x => x.scale

/-- BaseScale of a tensor (R161). -/
def Work.baseScale (w : Work) (t : Nat) : Nat :=
  match w.tensorScale t with
  | some i => w.scaleRec i % 65536
  | none => 0x3F80

/-- j_g of a channel of a tensor (R161, R165). -/
def Work.groupShift (w : Work) (t ch : Nat) : Nat :=
  let g := w.plan.outGroup t
  match w.tensorScale t with
  | some i => if g = 0 then 0 else w.scaleRec (i + 1 + ch / g) % 8
  | none => 0

/-- The pad value of the array modes (R181). -/
def Work.padArray (w : Work) (ch : Nat) : Nat :=
  let l := w.layer
  if l.padMode = 1 then
    if w.rerun then round16 (f32 (dequantSym (w.baseScale l.inT) (w.groupShift l.inT ch) (l.padValue % 256)))
    else if w.mode = 2 then l.padValue else l.padValue % 256
  else 0

/-- The value of one tap of an array layer: a code, or a BF16 pattern. Columns at or beyond the output width take padded
taps (R180). -/
def State.tapValue (s : State) (w : Work) (orow : Int) (ocol ty tx ch : Nat) : Nat :=
  if w.layer.wOut ≤ ocol then w.padArray ch
  else match w.tap orow ocol ty tx with
    | some (r, c) => s.rowElem w r c ch
    | none => w.padArray ch

/-! ### Reduction elements (R187, R220) -/

/-- Channels of a block of the input: 16 or 32 (R187). -/
def Work.block (w : Work) : Nat :=
  match w.inRec w.die with
  | some t => layoutBlock t.layout
  | none => (match w.plan.tensors.find? fun t => t.num == w.layer.inT with
    | some t => layoutBlock t.layout
    | none => 16)

/-- The tap and channel of reduction element `e` of convolution group `cg` (R187). -/
def Work.element (w : Work) (cg e : Nat) : Nat × Nat × Nat :=
  let l := w.layer
  let kb := w.block
  let b := ceilDiv l.cIn (max 1 (l.groups * kb))
  let q := e / kb
  let (blk, t) := if l.tapMajor then (q % b, q / b) else (q / (l.kh * l.kw), q % (l.kh * l.kw))
  (t / l.kw, t % l.kw, cg * (l.cIn / l.groups) + blk * kb + e % kb)

/-- The reduction element that each row of each pass carries, none for a zero row (R129, R220). -/
def Work.rows (w : Work) : List (Option Nat) :=
  let l := w.layer
  let n := ceilDiv l.redLen w.perPass * w.perPass
  (List.range n).map fun i =>
    if l.hasPassMap then
      let e := leAt w.img (w.plan.secOff 6 + 2 * (l.passMap + i)) 2
      if e = 0xFFFF then none else some e
    else if i < l.redLen then some i else none

/-- The operands of the reduction at a position, in pass order (R126, R129): rows beyond the reduction are 0, and so are the
columns of a tile beyond the last one of a layer without a window. -/
def State.operands (s : State) (w : Work) (row col cg : Nat) : List Nat :=
  let o := w.absRow row
  let oc := w.origin.2 + col
  w.rows.map fun e => match e with
    | none => 0
    | some e =>
      if w.layer.windowed then
        let (ty, tx, ch) := w.element cg e
        s.tapValue w o oc ty tx ch
      else if w.extent.2 ≤ col then 0
      else s.inElem w row col e

/-- Output channels of a group (R126): K from GroupK. -/
def Work.groupChans (w : Work) (g : Nat) : List Nat :=
  ((List.range w.layer.groupK).map fun k => g * w.layer.groupK + k).filter fun c => decide (c < w.layer.outCh)

/-- Image offset of the slice of channel `k` of pass `p` of output group `g` (R126, R153): slices follow one another in
the order in which they enter the rows, group by group (log entry 30). -/
def Work.sliceOff (w : Work) (g p k : Nat) : Nat :=
  let l := w.layer
  let passes := ceilDiv l.redLen w.perPass
  (if w.rerun then l.rwOff else l.wOff) + 64 * ((g * passes + p) * l.groupK + k)

/-- One byte of the image as the weight bus carries it (R132, R134): from the reel where a fill has landed, else as the fill
that is still under way brings it (log entry 26). -/
def Work.weightByte (w : Work) (o : Nat) : Nat :=
  let m := o / 4096 % max 1 w.memDies
  let x := dieOffset o (max 1 w.memDies)
  match w.reel.find? fun f => f.die == m && decide (f.off ≤ x) && decide (x < f.off + f.bytes.length) with
  | some f => (f.bytes.getD (x - f.off) 0).toNat
  | none => leAt w.img o 1

/-- The weights of a slice (R153): zero in the rows beyond the reduction (R126). -/
def Work.slice (w : Work) (g p k : Nat) : List Nat :=
  let o := w.sliceOff g p k
  let rows := (w.rows.drop (p * w.perPass)).take w.perPass
  rows.zipIdx.map fun (e, i) =>
    if e.isNone then 0
    else if w.mode = 0 then w.weightByte (o + i)
    else if w.mode = 1 then (w.weightByte (o + i / 2) / 16 ^ (i % 2)) % 16
    else w.weightByte (o + 2 * i) + 256 * w.weightByte (o + 2 * i + 1)

/-- SLICE record of a slice: ScaleIndex counts them as the slices, and the WEIGHT_CHANNEL records follow them (R161,
R220; log entry 29). -/
def Work.sliceRec (w : Work) (g p k : Nat) : Nat :=
  let l := w.layer
  w.scaleRec (l.scale + (g * ceilDiv l.redLen w.perPass + p) * l.groupK + k)

/-- WEIGHT_CHANNEL record of an output channel (R161). -/
def Work.chanRec (w : Work) (o : Nat) : Nat :=
  let l := w.layer
  let slices := if l.g = 0 ∨ l.op ≠ 1 then 0 else ceilDiv l.outCh l.groupK * ceilDiv l.redLen w.perPass * l.groupK
  w.scaleRec (l.scale + slices + o)

/-- The products of a column with a slice, as integers (R125, R129). -/
def Work.prods (w : Work) (slice col : List Nat) : List (Int × Int) :=
  (col.zip slice).map fun y => (signed 8 y.1, signed (if w.mode = 1 then 4 else 8) y.2)

/-- The sum that a pass gives a channel at a column (R129, R156, R158): in integer modes with the errors of its two group sums;
in BF16 split mode a binary32 pattern. -/
def Work.passTotal (w : Work) (r : Nat) (slice col : List Nat) (e0 e1 : Int) : Int :=
  if w.mode = 2 then (bfPassSum (col.zip slice) : Nat)
  else if w.layer.g = 0 then passSum (w.prods slice col) + e0 + e1
  else shiftedSum w.perPass w.layer.g r (w.prods slice col) + e0 * 2 ^ bits r 3 0 + e1 * 2 ^ bits r 7 4

/-- An accumulator takes the sum of a pass, the first one of its group or a later one (R130, R156). -/
def Work.accumulate (w : Work) (first : Bool) (acc : Sum) (t : Int) : Sum :=
  if w.mode = 2 then { value := if first then t else (f32add acc.value.toNat t.toNat : Nat) }
  else
    let (v, sat) := satAdd (if first then 0 else acc.value) t
    { value := v, sat := (!first && acc.sat) || sat }

/-- The check of a pass on one array (R139): the check activations, one per row element, and the sum of the check products
against the sum of the column sums, modulo 2^16. `errs` are the errors by column, 64 the check column. -/
def Work.passBad (w : Work) (slice : List Nat) (plane : List (List Nat)) (errs : List (Nat × Int)) : Bool :=
  let acts := (List.range slice.length).map fun r => (plane.map fun c => signed 8 (c.getD r 0)).sum % 65536
  let check := ((acts.zip slice).map fun y => y.1 * signed (if w.mode = 1 then 4 else 8) y.2).sum +
    ((errs.filter fun e => e.1 == 64).map (·.2)).sum
  let sums := (plane.map fun c => passSum (w.prods slice c)).sum + ((errs.filter fun e => e.1 != 64).map (·.2)).sum
  check % 65536 != sums % 65536

/-- The scale skew of one slice (R162, R163). -/
def Work.skewOf (w : Work) (g p k : Nat) : Option Skew :=
  if w.layer.op ≠ 1 ∨ w.layer.g = 0 ∨ w.mode = 2 then none
  else checkRec 0 (p * w.layer.groupK + k) (w.sliceRec g p k)

/-- The first scale skew of a group's slices (R162, R163). -/
def Work.sliceSkew (w : Work) (g : Nat) : Option Skew :=
  ((List.range (ceilDiv w.layer.redLen w.perPass)).map fun p => (List.range w.layer.groupK).map fun k =>
    w.skewOf g p k).flatten.findSome? id

/-! ### One array (R124, R126) -/

/-- A half of the accumulator file. -/
def ArrayUnit.accs (u : ArrayUnit) (h : Nat) : List (List Sum) := if h = 0 then u.acc0 else u.acc1

/-- Writes a half of the accumulator file. -/
def ArrayUnit.setAccs (u : ArrayUnit) (h : Nat) (l : List (List Sum)) : ArrayUnit :=
  if h = 0 then { u with acc0 := l } else { u with acc1 := l }

/-- One pass of a group (R126): the load fills the shadow plane, which changes places with the active one at the pass's first
cycle; then slice after slice adds its sums. A slice with a scale skew never adds (R164). -/
def Work.runPass (w : Work) (g p : Nat) (errs : List ArrErr) (plane : List (List Nat)) (u : ArrayUnit) : ArrayUnit :=
  let u := { u with shadow := plane }
  let u := { u with active := u.shadow, shadow := u.active }
  let old := u.accs u.half
  u.setAccs u.half ((List.range (w.groupChans g).length).map fun k =>
    let slice := w.slice g p k
    let at' := fun (x : Nat) => if p = 0 then ({ value := 0 } : Sum) else (old.getD k []).getD x { value := 0 }
    let err := fun (x h : Nat) =>
      ((errs.filter fun e => e.pass == p && e.chan == k && e.col == x && e.half == h).map (·.err)).sum
    u.active.zipIdx.map fun (col, x) =>
      if (w.skewOf g p k).isSome then at' x
      else w.accumulate (p == 0) (at' x) (w.passTotal (w.sliceRec g p k) slice col (err x 0) (err x 1)))

/-- A group on an array, from the operands of its columns (R126): its passes in turn, after which its half drains and the next
group takes the other one. -/
def Work.runGroup (w : Work) (g : Nat) (errs : List ArrErr) (cols : List (List Nat)) (u : ArrayUnit) : ArrayUnit :=
  let u := (List.range (ceilDiv w.layer.redLen w.perPass)).foldl (fun u p =>
    w.runPass g p errs (cols.map fun c => (c.drop (p * w.perPass)).take w.perPass) u) u
  { u with half := 1 - u.half }

/-- What the drain reads out of the half that is complete: channel `k` of the group at a column. -/
def ArrayUnit.drained (u : ArrayUnit) (k x : Nat) : Sum := ((u.accs (1 - u.half)).getD k []).getD x { value := 0 }

/-- The first scale skew that the vector unit finds for output channels (R162). -/
def Work.vectorSkew (w : Work) (chans : List Nat) (dequant : Bool) : Option Skew :=
  let l := w.layer
  let ws := if dequant then chans.map fun o => checkRec 1 o (w.chanRec o) else []
  let inT := if dequant then (match w.tensorScale l.inT with
    | some i => [checkRec 3 l.inT (w.scaleRec i)]
    | none => []) else []
  let out := if l.outInt8 then
      match w.tensorScale l.outT with
      | some i => checkRec 3 l.outT (w.scaleRec i) ::
          (if w.plan.outGroup l.outT = 0 then []
           else chans.map fun o => checkRec 2 (o / w.plan.outGroup l.outT) (w.scaleRec (i + 1 + o / w.plan.outGroup l.outT)))
      | none => []
    else []
  (ws ++ inT ++ out).findSome? id

/-! ### The epilogue (R201, R205) -/

/-- Whether a tensor holds AFFINE_CHANNEL codes (R218). -/
def Tensor.affine (t : Tensor) : Bool := bitOf t.flags 0

/-- Where an affine tensor's records lie: behind its elements (R160; log entry 29). -/
def Tensor.affineAt (t : Tensor) (ch : Nat) : Nat := t.off + t.bytes + 8 * ch

/-- A code of a tensor as a binary32 value, by its records (R208); the BF16 copy of a tensor without codes. -/
def State.codeValue (s : State) (w : Work) (num row col ch : Nat) : Nat :=
  match w.plan.tensor num w.die fun l => decide (l ≤ 1) with
  | some t =>
    let c := s.elem t t.die t.off row col ch
    if t.affine then dequantAffine (s.actRead t.die (t.affineAt ch) 8) c
    else dequantSym (w.baseScale num) (w.groupShift num ch) c
  | none =>
    match w.plan.tensor num w.die (· == 3) with
    | some t => widen (s.elem t t.die t.off row col ch)
    | none => 0

/-- An element of a tensor as a binary32 value: its binary32 form where it has one, else its code (R208). -/
def State.value (s : State) (w : Work) (num row col ch : Nat) : Nat :=
  match w.plan.tensor num w.die (· == 2) with
  | some t => s.elem t t.die t.off row col ch
  | none => s.codeValue w num row col ch

/-- The record that holds the partial sums of a tensor of a combination: on the work's die, else on the other one. -/
def Work.partRec (w : Work) (num : Nat) : Option Tensor :=
  match w.plan.tensor num w.die (· == 2) with
  | some t => some t
  | none => w.plan.tensor num (1 - w.die) (· == 2)

/-- Where a partial sum lies, as the stores count addresses. -/
def Tensor.sumKey (t : Tensor) (row col ch : Nat) : Nat := t.die * 2 ^ 26 + t.addr t.off row col ch

/-- A partial sum of a combination (R131, R201): 32 bits of a tensor in 4-byte layout (log entry 31), with the saturation
status of its group. -/
def State.partialSum (s : State) (w : Work) (num row col ch : Nat) : Nat × Bool :=
  match w.partRec num with
  | some t => (s.elem t t.die t.off row col ch, s.engine.partSat.contains (t.sumKey row col ch))
  | none => (0, false)

/-- Step 1, Combine: up to three further partial sums in the order listed. An error of an add goes into its result (R212). -/
def State.combine (s : State) (w : Work) (row col ch : Nat) (x : Sum) : Sum :=
  let x := (w.layer.comb.filter (· != 0xFFFF)).foldl (fun (x : Sum) t =>
    let (p, full) := s.partialSum w t row col ch
    if w.mode = 2 then { x with value := (f32add x.value.toNat p : Nat) }
    else
      let (v, sat) := satAdd x.value (signed 32 p)
      { value := v, sat := x.sat || full || sat }) x
  let err := ((w.obs.adds.filter fun e => e.row == row && e.col == col && e.chan == ch).map (·.err)).sum
  if w.checksAdds then { x with value := clampInt (-(2 ^ 31)) (2 ^ 31 - 1) (x.value + err) } else x

/-- The first scale skew that the vector unit finds as it dequantises channels of a tensor from its records (R162, R208): the
records of its channels when it is affine, else the record of the tensor and those of its groups. -/
def State.valueSkew (s : State) (w : Work) (num : Nat) (chans : List Nat) : Option Skew :=
  match w.plan.tensor num w.die (· == 2), w.plan.tensor num w.die fun l => decide (l ≤ 1) with
  | none, some t =>
    if t.affine then chans.findSome? fun c => checkRec 4 c (s.actRead t.die (t.affineAt c) 8)
    else match w.tensorScale num with
      | some i =>
        let g := w.plan.outGroup num
        (checkRec 3 num (w.scaleRec i)) <|>
          (if g = 0 then none else chans.findSome? fun c => checkRec 2 (c / g) (w.scaleRec (i + 1 + c / g)))
      | none => none
  | _, _ => none

/-- Steps 2 to 5 on an entering sum. -/
def State.epilogue (s : State) (w : Work) (tab : List Byte) (row col ch : Nat) (x : Sum) : Nat :=
  let l := w.layer
  let v := if w.mode = 2 ∧ l.op = 1 then x.value.toNat else dequantAcc (w.chanRec ch % 65536) (w.baseScale l.inT) x.value
  let v := if l.bias then f32add v (leAt w.img (w.plan.secOff 9 + l.params + 4 * ch) 4) else v
  let v := if l.residual then f32add v (s.value w l.second row col ch) else v
  activate tab l.act l.actA l.actB v

/-- What a die's writes of a layer counted. -/
structure Tally where
  clipped : Nat := 0
  nans : Nat := 0
  total : Nat := 0
  sat : Bool := false
  deriving DecidableEq, Repr

/-- Step 7 for one element: every form the descriptor names (R205). -/
def State.writeForms (s : State) (w : Work) (row col ch v : Nat) (n : Tally) : State × Tally :=
  let l := w.layer
  let s := if l.outFp32 then
      match w.outRec (· == 2) with
      | some t => s.setElem t row col ch v
      | none => s
    else s
  let s := if l.outBf16 then
      match w.outRec (· == 3) with
      | some t => s.setElem t row col ch (round16 (f32 v))
      | none => s
    else s
  if l.outInt8 then
    match w.outRec fun k => decide (k ≤ 1) with
    | some t =>
      let q := quantSym (w.baseScale l.outT) (w.groupShift l.outT ch) v
      (s.setElem t row col ch q.code,
        { n with clipped := n.clipped + bitNat q.clipped, nans := n.nans + bitNat q.nan, total := n.total + 1 })
    | none => (s, n)
  else (s, n)

/-- Steps 6 and 7 for the channels of one position: the transform of the consumer, then the outputs. -/
def State.writeChans (s : State) (w : Work) (row col : Nat) (chans vals : List Nat) (n : Tally) : State × Tally :=
  let vals := transform (w.plan.outXform w.layer.outT) vals
  (chans.zip vals).foldl (fun (a : State × Tally) x => a.1.writeForms w row col x.1 x.2 a.2) (s, n)

end Sys2Proof.Machine
end

