-- ==== Sys2Proof/Machine/PipeOps.lean ====
section
/-! DEFINITION. The image pipelines: which lines a stripe needs and when it closes, the correction of a line, the mesh,
and how a tile lies in the activation store (R99 to R116, R480). -/

namespace Sys2Proof.Machine

/-! ### Formats (R83, R99) -/

/-- Planes of a format code. -/
def planesOf (f : Nat) : Nat := if f = 4 ∨ f = 5 then 3 else 1

/-- Sample width of a format code in bits. -/
def sampleBits : Nat → Nat
  | 2 => 10
  | 3 => 12
  | 5 => 10
  | _ => 8

/-- `w` bits of a packed line from bit `o`: the first pixel lies in the least significant bits (log entry 23). -/
def packedAt (d : List Byte) (o w : Nat) : Nat := leAt d (o / 8) 3 / 2 ^ (o % 8) % 2 ^ w

/-! ### Values in force for a stripe (R64, R103) -/

/-- A value of the generation under which a stripe began. -/
def State.genReg (s : State) (st : Stripe) (k : Nat) : Nat := SMap.get (defaultOf s.mfg k) st.vals k

/-- Whether a stream contributes a tile (R480). -/
def State.contributes (s : State) (i : Nat) : Bool :=
  s.reg (K.streamPipeline i) != 0xFF && s.reg (K.tileColumns i) != 0

/-- The streams that the plan reads (R480). -/
def State.readStreams (s : State) : List Nat :=
  if s.rtPlan.isSome then (List.range 16).filter fun i => s.contributes i else []

/-- The streams that a stripe which begins now waits for: those the plan reads, but for disabled and draining ones (R84,
R480). -/
def State.liveReads (s : State) : List Nat :=
  s.readStreams.filter fun i => s.reg (K.streamLinks i) != 0 && (s.stream i).drainAt.isNone

/-- The highest line that a stream of the plan triggered, none before the first. -/
def State.lastTriggered (s : State) : Option Nat :=
  s.readStreams.foldl (fun m i => match m, (s.stream i).highest with
    | some a, some b => some (max a b)
    | none, b => b
    | a, none => a) none

/-- Real lines since the stream start, up to the last one triggered (R185). -/
def State.realLines (s : State) : Nat :=
  match s.lastTriggered with
  | some n => if s.belt.streamStart then 0 else n + 1 - s.belt.startStripe * s.stripeS
  | none => 0

/-- Writes a stripe. -/
def State.setStripe (s : State) (st : Stripe) : State :=
  { s with pipe := { s.pipe with stripes := SMap.put (SMap.erase s.pipe.stripes st.num) st.num st } }

/-! ### The mesh (R111, R113) -/

/-- The quotient rounded to nearest, ties away from zero (R104). -/
def roundDiv (a : Int) (b : Nat) : Int :=
  if b = 0 then 0
  else if a < 0 then -(((2 * a.natAbs + b) / (2 * b) : Nat) : Int) else ((2 * a.natAbs + b) / (2 * b) : Nat)

/-- Point k of a mesh: source column (24.8) and line offset (8.8). -/
def meshPoint (m : List Byte) (k : Nat) : Int × Int := (signed 32 (leAt m (8 * k + 4) 4), signed 16 (leAt m (8 * k + 2) 2))

/-- The mesh at a tile column (R111). -/
def meshAt (m : List Byte) (step u : Nat) : Int × Int :=
  let i := u / step
  let t : Int := (u % step : Nat)
  let a := meshPoint m i
  let b := meshPoint m (i + 1)
  if t = 0 then a else (a.1 + roundDiv ((b.1 - a.1) * t) step, a.2 + roundDiv ((b.2 - a.2) * t) step)

/-- L_look of a mesh (R113). -/
def meshLook (m : List Byte) : Nat :=
  match (List.range (m.length / 8)).map fun k => (meshPoint m k).2 with
  | [] => 0
  | a :: r => (clampInt 0 16 ((r.foldl max a) / 256 + 1)).toNat

/-- L_look of a stream for a stripe. -/
def Stripe.look (st : Stripe) (i : Nat) : Nat := meshLook (SMap.get [] st.mesh i)

/-! ### Lines and closing (R28, R109, R110) -/

/-- Whether the intake is done with a line of a stream: delivered, marked missing or late, or never to be triggered. -/
def State.lineDone (s : State) (i n : Nat) : Bool :=
  match SMap.find? (s.stream i).lines n with
  | some l => l.st == .delivered || l.st == .missing || l.st == .late
  | none => decide (n < (s.stream i).first)

/-- Whether a stream's lines of a stripe are all done (R28). -/
def State.stripeDone (s : State) (S : Nat) (i j : Nat) : Bool := (List.range S).all fun l => s.lineDone i (j * S + l)

/-- Whether a stripe of a stream closes now (R109). -/
def State.closes (s : State) (st : Stripe) (S i : Nat) : Bool :=
  let last := (st.num + 1) * S - 1 + st.look i
  (s.stripeDone S i st.num && (List.range (st.look i)).all fun l => s.lineDone i ((st.num + 1) * S + l)) ||
    decide (last + s.genReg st (K.lateLines i) < s.nextLine i)

/-- Closes a stripe of a stream (R109): incomplete lines of it are late, incomplete lookahead lines are substituted for
it only. -/
def State.closeStripe (s : State) (st : Stripe) (S i : Nat) : State :=
  let late := ((List.range S).map fun l => st.num * S + l).filter fun n => !s.lineDone i n
  let s := late.foldl (fun s n => (s.setLine i n { st := .late, restart := s.lineRestarts i n }).bump (K.linesLate i)) s
  let look := ((List.range (st.look i)).map fun l => (st.num + 1) * S + l).filter fun n => !s.lineDone i n
  s.setStripe { st with closed := st.closed ++ [i], lookSub := st.lookSub ++ look.map fun n => (i, n)
                        flags := if look = [] then st.flags else st.flags ||| 1 }

/-- Stripe height of the plan a stripe belongs to: the outgoing plan's below the first stripe of an incoming one (R233). -/
def State.planOf (s : State) (j : Nat) : Option Plan :=
  match s.engine.old with
  | some p => if j < s.engine.oldLast then some p else s.rtPlan
  | none => s.rtPlan

/-- Stripe height that a stripe is numbered by. -/
def State.heightOf (s : State) (j : Nat) : Nat :=
  match s.planOf j with
  | some p => p.stripeLines
  | none => 64

/-- Whether a stripe is complete (R28): its lines are done on every stream it waits for, or, with none, the emitted IBP
has reached its last line. No line of an earlier numbering is waited for (R110). -/
def State.stripeOver (s : State) (need : List Nat) (S j : Nat) : Bool :=
  if need = [] then decide (j * S < lineKey s.belt.era 0) || decide (s.linePos ((j + 1) * S - 1) ≤ s.belt.ibp)
  else need.all fun i => s.stripeDone S i j

/-- Follows CurrentStripe over the stripes that are not processed (R28, R414). -/
def State.passingPass (s : State) : State :=
  let done := s.pipe.passing.filter fun p => s.stripeOver p.need p.height p.num
  let s := done.foldl (fun s p => s.setReg K.currentStripe (p.num % 2 ^ 48)) s
  { s with pipe := { s.pipe with passing := s.pipe.passing.filter fun p => !done.contains p } }

/-- Closes what closes now and follows CurrentStripe (R28, R109). -/
def State.closePass (s : State) : State :=
  let s := s.passingPass
  s.pipe.stripes.foldl (fun s p =>
    let j := p.1
    let S := s.heightOf j
    let s := p.2.need.foldl (fun s i =>
      match SMap.find? s.pipe.stripes j with
      | none => s
      | some st => if !st.closed.contains i && s.closes st S i then s.closeStripe st S i else s) s
    match SMap.find? s.pipe.stripes j with
    | none => s
    | some st =>
      if !st.complete && s.stripeOver p.2.need S j then
        (s.setStripe { st with complete := true }).setReg K.currentStripe (j % 2 ^ 48)
      else s) s

/-- Forgets lines that no stripe may still need: finished ones below every stripe that is not written. -/
def State.pruneLines (s : State) (i : Nat) : State :=
  let x := s.stream i
  let open' := (s.pipe.stripes.filter fun p => p.2.need.contains i && !p.2.written.contains i).map fun p => p.1 * s.heightOf p.1
  let open' := open' ++ (s.pipe.passing.filter fun p => p.need.contains i).map fun p => p.num * p.height
  let floor : Nat := match open' with
    | a :: r => r.foldl min a
    | [] => if s.readStreams.contains i then s.nextLine i / s.stripeS * s.stripeS else s.nextLine i
  s.setStream i { x with lines := x.lines.filter (fun p => decide (floor ≤ p.1) || p.2.st == .sent || p.2.st == .begun) }

/-! ### Correction of a line (R104 to R107) -/

/-- The set in force for a line (R108). -/
def PipeCtx.setFor (x : PipeCtx) (n : Nat) : Nat :=
  match (x.switch.filter fun p => decide (p.1 ≤ n)).getLast? with
  | some (_, v) => v
  | none => match x.switches.find? fun p => decide (p.1 ≤ n) with
    | some (_, v) => v
    | none => match x.switches.getLast? with
      | some (_, v) => 1 - v
      | none => x.active

/-- A value U16 of a set entry's BLOB, with what an empty one reads as. -/
def u16At (b : List Byte) (k dflt : Nat) : Nat := if b = [] then dflt else leAt b (2 * k) 2

/-- Stage 3 for one column of one plane: `y` reads a column, `bad` says which are defective (R105). -/
def fixColumn (y : Nat → Nat) (bad : Nat → Bool) (w c : Nat) : Nat :=
  let left := ([1, 2, 3, 4].filter fun d => decide (d ≤ c) && !bad (c - d)).head?
  let right := ([1, 2, 3, 4].filter fun d => decide (c + d < w) && !bad (c + d)).head?
  match left, right with
  | some l, some r => (y (c - l) + y (c + r) + 1) / 2
  | some l, none => y (c - l)
  | none, some r => y (c + r)
  | none, none => 0

/-- Stage 5 for one column of one plane (R106). -/
def spatialTap (y : Nat → Nat) (w thr c : Nat) : Nat :=
  let taps : List Nat := ((List.range 5).filterMap fun k => if 2 ≤ c + k ∧ c + k - 2 < w then some (y (c + k - 2)) else none).filter
    fun (t : Nat) => decide ((t : Int) - y c ≤ thr) && decide ((y c : Int) - t ≤ thr)
  (2 * taps.sum + taps.length) / (2 * taps.length)

/-- Stage 6 for one sample (R107). -/
def temporalTap (alpha thr prev x : Nat) : Nat :=
  let d : Int := (prev : Int) - x
  if d.natAbs ≤ thr then (x + d.sign * ((d.natAbs * alpha + 8) / 16 : Nat)).toNat else x

/-- Stages 1 to 6 of a line of `w` columns (R104): samples by column, planes together. -/
def State.correctLine (s : State) (st : Stripe) (i set : Nat) (prev : Option (List Nat)) (data : List Byte) : List Nat :=
  let f := s.genReg st (K.streamPixelFormat i)
  let w := s.genReg st (K.streamWidth i)
  let p := planesOf f
  let b := sampleBits f
  let key := 16 * set + i
  let black := s.blob (K.blackLevel key)
  let defects := s.blob (K.defectColumns key)
  let gains := [s.blob (K.flatFieldGain0 key), s.blob (K.flatFieldGain1 key), s.blob (K.flatFieldGain2 key)]
  let at' := fun (l : List Nat) (c q : Nat) => l.getD (c * p + q) 0
  let idx := List.range (w * p)
  let y2 := idx.map fun k => packedAt data (k * b) b * 2 ^ (16 - b) - u16At black (k % p) 0
  let cols := (List.range (defects.length / 2)).map fun k => leAt defects (2 * k) 2
  let y3 := if cols = [] then y2 else idx.map fun k =>
    if cols.contains (k / p) then fixColumn (fun c => at' y2 c (k % p)) (fun c => cols.contains c) w (k / p) else y2.getD k 0
  let y4 := idx.map fun k => min 65535 ((y3.getD k 0 * u16At (gains.getD (k % p) []) (k / p) 0x4000 + 8192) / 16384)
  if s.mfg.part.level = 2 ∧ s.genReg st (K.noiseReductionEnable i) ≠ 0 then
    let thr := s.genReg st (K.spatialThreshold i)
    let y5 := idx.map fun k => spatialTap (fun c => at' y4 c (k % p)) w thr (k / p)
    match prev with
    | none => y5
    | some l => idx.map fun k =>
        temporalTap (s.genReg st (K.temporalStrength i)) (s.genReg st (K.temporalThreshold i)) (l.getD k 0) (y5.getD k 0)
  else y4

/-! ### A stripe of one stream (R101, R110 to R115) -/

/-- What the lines of a stripe leave as they pass (R107, R110, R113). -/
structure LinePass where
  ctx : PipeCtx
  rows : SMap (List Nat) := []        -- what stage 7 holds, by line
  first : SMap Nat := []              -- per line, the line at which its window began
  subs : List Nat := []               -- substituted lines that count
  restart : Bool := false             -- a line that sets RESYNC lies among them (R115)
  corrupt : Nat := 0
  deriving DecidableEq, Repr

/-- The substitute of a line (R110). -/
def State.substitute (s : State) (st : Stripe) (i : Nat) (last : Option (List Nat)) : List Nat :=
  let n := s.genReg st (K.streamWidth i) * planesOf (s.genReg st (K.streamPixelFormat i))
  let fixed := List.replicate n (s.genReg st (K.substituteValue i))
  if s.genReg st (K.lineSubstitute i) = 0 then last.getD fixed else fixed

/-- One line enters the window (R104, R107, R110, R113); `own` says that it belongs to the stripe, not to its lookahead. -/
def State.passLine (s : State) (st : Stripe) (i : Nat) (corrupt : List Nat) (own : Bool) (a : LinePass) (n : Nat) : LinePass :=
  let l := (SMap.find? (s.stream i).lines n).getD { st := .missing }
  let none' := (SMap.find? (s.stream i).lines n).isNone
  let good := l.st == .delivered && !corrupt.contains n && (own || !st.lookSub.contains (i, n))
  let x := if l.restart then { a.ctx with prev := none, last := none, first := some n } else a.ctx
  let x := if x.first.isNone then { x with first := some n } else x
  let row := if good then s.correctLine st i (x.setFor n) x.prev l.data else s.substitute st i x.last
  let never := none' && decide (n < (s.stream i).first)
  { ctx := { x with prev := if good then some row else x.prev, last := some row, window := SMap.set [] x.window n row }
    rows := SMap.set [] a.rows n row
    first := SMap.set 0 a.first n (x.first.getD n)
    subs := if good || never || !own then a.subs else a.subs ++ [n]
    restart := a.restart || l.slip || (own && l.restart)
    corrupt := a.corrupt + bitNat (own && corrupt.contains n) }

/-- Stages 7 to 9 of one output line of a tile (R104, R111, R113): INT8 values as bytes, columns first, planes together. -/
def State.meshLine (s : State) (st : Stripe) (i : Nat) (rows : SMap (List Nat)) (lo n : Nat) : List Byte :=
  let w := s.genReg st (K.streamWidth i)
  let p := planesOf (s.genReg st (K.streamPixelFormat i))
  let m := SMap.get [] st.mesh i
  let step := s.genReg st (K.meshStep i)
  let px := fun (y x : Int) (q : Nat) =>
    ((SMap.get [] rows (max (lo : Int) y).toNat).getD ((clampInt 0 (w - 1) x).toNat * p + q) 0 : Int)
  ((List.range (s.genReg st (K.tileColumns i))).map fun u =>
    let (cx, cy) := meshAt m step u
    let y : Int := (n : Int) * 256 + cy
    let x0 := cx / 256
    let fx := cx % 256
    let y0 := y / 256
    let fy := y % 256
    (List.range p).map fun q =>
      let v := ((px y0 x0 q * (256 - fx) + px y0 (x0 + 1) q * fx) * (256 - fy) +
        (px (y0 + 1) x0 q * (256 - fx) + px (y0 + 1) (x0 + 1) q * fx) * fy + 32768) / 65536
      BitVec.ofInt 8 (min 255 ((v + 128) / 256) - 128)).flatten

/-- Byte offset of channel c of element (l, x) in a stripe of `lines` × `width` elements in blocks of K (R114). -/
def ckOffset (K lines width l x c : Nat) : Nat := ((c / K * lines + l) * width + x) * K + c % K

/-- The activation store of a die as one address range. -/
def actKey (die off : Nat) : Nat := die * 2 ^ 26 + off

/-- Writes one stage-9 line of a tile into the stripe buffer (R114). -/
def State.foldLine (s : State) (st : Stripe) (i S die base n : Nat) (line : List Byte) (act : SMap Byte) : SMap Byte :=
  let f := s.genReg st K.stripeFold
  let k := s.genReg st K.stripeBlock
  let p := planesOf (s.genReg st (K.streamPixelFormat i))
  let y := n - st.num * S
  let width := s.genReg st K.stripeWidth / f
  let first := s.genReg st (K.tileFirstColumn i)
  (List.range line.length).foldl (fun act q =>
    let col := first + q / p
    let c := (y % f * f + col % f) * p + q % p
    SMap.set 0 act (actKey die (base + ckOffset k (S / f) width (y / f) (col / f) c)) (line.getD q 0)) act

/-- Channels beyond the last used one hold 0 in a tile's columns (R114). -/
def State.padFold (s : State) (st : Stripe) (i S die base : Nat) (act : SMap Byte) : SMap Byte :=
  let f := s.genReg st K.stripeFold
  let k := s.genReg st K.stripeBlock
  let used := planesOf (s.genReg st (K.streamPixelFormat i)) * f * f
  let width := s.genReg st K.stripeWidth / f
  let first := s.genReg st (K.tileFirstColumn i) / f
  let pads := (List.range (ceilDiv used k * k - used)).map fun d => used + d
  (List.range (S / f)).foldl (fun act l => (List.range (s.genReg st (K.tileColumns i) / f)).foldl (fun act x =>
    pads.foldl (fun act c => SMap.set 0 act (actKey die (base + ckOffset k (S / f) width l (first + x) c)) 0) act) act) act

/-- Bytes of `line` laid over `base` from an offset. -/
def overlay (base : List Byte) (o : Nat) (line : List Byte) : List Byte :=
  fitBytes o base ++ line ++ base.drop (o + line.length)

/-- Box average of a block of stage-9 samples, as unsigned 8-bit, round half up (R118). -/
def boxMean (l : List Byte) : Byte :=
  let sum := (l.map fun b => ((b.toInt + 128).toNat)).sum
  BitVec.ofNat 8 ((2 * sum + l.length) / (2 * l.length))

/-- The history takes the lines of a tile, decimated (R118): `lines` are stage-9 lines of the stripe in order. -/
def State.keepHistory (s : State) (st : Stripe) (i S : Nat) (lines : List (List Byte)) : State :=
  let count := s.genReg st K.jpegHistoryCount
  if count = 0 then s
  else
    let d := s.genReg st K.jpegHistoryScale
    let p := planesOf (s.genReg st (K.streamPixelFormat i))
    let cols := s.genReg st (K.tileColumns i) / d
    let o := s.genReg st (K.tileFirstColumn i) / d * p
    let size := s.genReg st K.stripeWidth / d * p
    let out := (List.range (S / d)).map fun r =>
      (st.num * S / d + r, ((List.range cols).map fun c => (List.range p).map fun q =>
        boxMean (((List.range d).map fun a => (List.range d).map fun b =>
          (lines.getD (r * d + a) []).getD ((c * d + b) * p + q) 0).flatten)).flatten)
    let h := out.foldl (fun h x => SMap.set [] h x.1 (overlay (SMap.get [] h x.1) o x.2)) s.pipe.history
    let keep := count * 1048576 / max 1 size
    let top := (st.num + 1) * S / d
    { s with pipe := { s.pipe with history := h.filter fun x => decide (top ≤ x.1 + keep) } }

/-- Writes the 64-byte descriptor below a stripe's base (R115). -/
def State.descriptor (s : State) (st : Stripe) : List Byte :=
  let S := s.heightOf st.num
  let map := (List.range 32).map fun b => BitVec.ofNat 8 ((List.range 8).foldl (fun m k =>
    m + bitNat (st.lines.contains (8 * b + k)) * 2 ^ k) 0)
  leBytes 8 (st.num % 2 ^ 48) ++ leBytes 8 (s.lineStamp (st.num * S)) ++ leBytes 4 st.gen ++ leBytes 2 st.lines.length ++
    leBytes 1 st.flags ++ leBytes 1 0 ++ leBytes 2 (st.streams.foldl (fun m i => m + 2 ^ i) 0) ++ leBytes 6 0 ++ map

end Sys2Proof.Machine
end

