-- ==== Sys2Proof/Machine/KernelOps.lean ====
section
/-! DEFINITION. What one kernel does to its tensors, by operation class; discard marks and aborted layers; what the
counters see (R126 to R131, R139, R140, R164 to R173, R179 to R197, R201 to R212, R220, R221, R252, R443). -/

namespace Sys2Proof.Machine

/-! ### Discard marks (R140, R164, R192, R252) -/

/-- Whether a row of a tensor carries the discard mark. -/
def State.rowMarked (s : State) (die t stripe row : Nat) : Bool :=
  s.engine.marks.contains (die, t, stripe, row) || (t == 0 && s.engine.masked.contains stripe)

/-- Marks a row. -/
def State.markRow (s : State) (die t stripe row : Nat) : State :=
  if s.engine.marks.contains (die, t, stripe, row) then s
  else { s with engine := { s.engine with marks := s.engine.marks ++ [(die, t, stripe, row)] } }

/-- Whether a layer was aborted for its stripe on its die. -/
def State.isAborted (s : State) (w : Work) : Bool := s.engine.aborted.contains (w.die, w.layer.num, w.stripe)

/-- A layer is aborted for its stripe on its die: its outputs for the stripe are discarded (R140, R164). -/
def State.abortLayer (s : State) (w : Work) : State :=
  let s := if s.isAborted w then s
    else { s with engine := { s.engine with aborted := s.engine.aborted ++ [(w.die, w.layer.num, w.stripe)] } }
  (List.range w.extent.1).foldl (fun s r => s.markRow w.die w.layer.outT w.stripe r) s

/-- Where an absolute input row of a windowed stream layer came in: its stripe and its row of that stripe. -/
def Work.rowHome (w : Work) (r : Int) : Nat × Nat :=
  if w.stream then
    let x := (r + ((w.lagOf w.layer.inT).getD 0 : Nat)).toNat
    (w.start + x / max 1 w.layer.inRows, x % max 1 w.layer.inRows)
  else (w.stripe, r.toNat)

/-- The two source indices of a bilinear output index and the weight of the second, in units of 1/(2f) (R197). -/
def bilinear (o : Int) (f : Nat) : Int × Int := ((2 * o + 1 - f).fdiv (2 * f), (2 * o + 1 - f).fmod (2 * f))

/-- An input row and column clamped to the real ones (R197). -/
def Work.clamped (w : Work) (y x : Int) : Int × Nat :=
  let y := max 0 y
  let y := match w.endRow with
    | some e => min y ((e : Int) - 1)
    | none => y
  (y, (clampInt 0 (w.layer.wIn - 1) x).toNat)

/-- The input rows and columns that an output position reads: its real taps, or the sources of a resampling (R179, R197); for a
layer without a window the position itself. -/
def Work.sources (w : Work) (row col : Nat) : List (Int × Nat) :=
  let l := w.layer
  if l.windowed = false then [((row : Int), col)]
  else
    let o := w.absRow row
    let oc := w.origin.2 + col
    if l.wOp = 7 then [w.clamped (o / l.sh) (oc / max 1 l.sw : Nat)]
    else if l.wOp = 8 then
      let y := (bilinear o l.sh).1
      let x := (bilinear oc l.sw).1
      [w.clamped y x, w.clamped y (x + 1), w.clamped (y + 1) x, w.clamped (y + 1) (x + 1)]
    else ((List.range l.kh).map fun ty => (List.range l.kw).filterMap fun tx => w.tap o oc ty tx).flatten

/-- Whether an output position reads a marked row (R192). -/
def State.readsMarked (s : State) (w : Work) (row col : Nat) : Bool :=
  let l := w.layer
  if l.windowed then
    (w.sources row col).any fun (y, x) =>
      let h := w.rowHome y
      match w.locate h.2 x with
      | some (d, _, _, r, _) => s.rowMarked d l.inT h.1 r
      | none => false
  else
    (([l.inT] ++ (if l.residual || l.op == 3 then [l.second] else []) ++ l.comb).filter (· != 0xFFFF)).any fun t =>
      s.rowMarked w.die t w.stripe row ||
        ((w.plan.tensor t w.die fun _ => true).isNone && s.rowMarked (1 - w.die) t w.stripe row)

/-! ### Counts -/

/-- The context a work's occurrences belong to (R444). -/
def Work.ctx (w : Work) (c : Nat) : Nat := if w.plan.cls = 0 then 0 else c

/-- Counts an event whose number the spec bounds per cycle and does not otherwise state: at most `most` (log entry 33). -/
def State.countFree (s : State) (b ev most f ctx : Nat) : State :=
  if s.perf.running then
    let (n, s) := s.takeFree
    let (a, s) := s.takeFree
    s.count b ev (n % (most + 1)) f ctx (n / (most + 1) % 3) (a % 2 ^ 26)
  else s

/-- Words that a window engine delivers for one tile, and those among them with a padded tap (R180, R181, R187, R189, R193). A
GROUPED_VECTOR layer delivers the channels of a group in one word per tap; a resampling layer has no padded taps (R197). -/
def Work.words (w : Work) (row c0 : Nat) : Nat × Nat :=
  let l := w.layer
  let kb := w.block
  let arr := l.op == 1
  let per := (if arr && w.mode == 2 then 32 else 64) / kb
  let blocks := if arr then l.cIn / (l.groups * kb) else if l.wOp = 4 then l.groups else ceilDiv l.cIn kb
  let lanes := if arr then [0, 64, 128, 192] else [0]
  let count := (if arr then 64 else 256) / max 1 per
  let o := w.absRow row
  let padded := fun (oc ty tx : Nat) => !l.resamples && (decide (l.wOut ≤ oc) || (w.tap o oc ty tx).isNone)
  let taps := (List.range l.kh).map fun ty => (List.range l.kw).map fun tx =>
    ((List.range count).filter fun i => lanes.any fun a => (List.range per).any fun u =>
      padded (w.origin.2 + c0 + a + i * per + u) ty tx).length
  (blocks * l.kh * l.kw * count, blocks * (taps.flatten.sum))

/-- Clip counts of a tensor's elements of a stripe of the period, on one die (R170): those of the real-time plan. -/
def clipKey (die batch t : Nat) : Nat := (die * 8 + batch) * 65536 + t

/-- What a kernel's writes counted goes into the die's counters (R130, R165, R170). -/
def State.tally (s : State) (w : Work) (batch ctx : Nat) (n : Tally) : State :=
  let key := (w.die, w.layer.num, w.stripe)
  let s := if n.sat ∧ s.engine.stickySat.contains key = false then
      { s.bump (K.accumulatorSaturations w.die) with engine := { s.engine with stickySat := s.engine.stickySat ++ [key] } }
    else s
  let s := ((s.bump (K.clippedValues w.die) n.clipped).bump (K.nanCodes w.die) n.nans).count w.die 0x0202 n.clipped 1 ctx
  if n.total = 0 ∨ w.plan.cls ≠ 0 then s
  else
    let k := clipKey w.die batch w.layer.outT
    let (a, b) := SMap.get (0, 0) s.engine.clip k
    { s with engine := { s.engine with clip := SMap.set (0, 0) s.engine.clip k (a + n.clipped, b + n.total) } }

/-! ### Carried rows (R183, R190) -/

/-- Rows that the carry region keeps of earlier stripes: C, and those by which the input's lag falls short of a whole output
row (log entry 32). -/
def Work.carryRows (w : Work) : Nat :=
  let a := (w.lagOf w.layer.inT).getD 0
  w.layer.carry + (w.layer.sh * ceilDiv a w.layer.sh - a)

/-- The newest input rows go into the carry region, and rows that nothing needs any more leave it (R190). -/
def State.saveCarry (s : State) (w : Work) : State :=
  if w.stream ∧ w.start ≤ w.stripe then
    let c := w.carryRows
    let f := w.firstRow
    let rows := (List.range (min c w.layer.inRows)).map fun (i : Nat) => f + w.layer.inRows - min c w.layer.inRows + i
    let keep := s.engine.lineBuf.filter fun p =>
      p.1 / 2 ^ 80 != w.carryKey 0 / 2 ^ 80 || decide (f - c ≤ (p.1 % 2 ^ 80 : Nat))
    let buf := rows.foldl (fun b r =>
      if 0 ≤ r then SMap.set [] b (w.carryKey r.toNat) (s.inRow w (r - f).toNat) else b) keep
    { s with engine := { s.engine with
        lineBuf := buf
        parity := s.engine.parity.filter fun p =>
          p.1 / 2 ^ 80 != w.carryKey 0 / 2 ^ 80 || decide (f - c ≤ (p.1 % 2 ^ 80 : Nat)) } }
  else s

/-! ### The positions of a kernel -/

/-- Runs the positions of a kernel's tiles: masked rows write nothing and count once, a position that reads a marked row
marks its own (R184, R185, R192). -/
def State.overPositions (s : State) (w : Work) (k : Kernel) (mute : Bool)
    (body : State → Tally → Nat → Nat → State × Tally) (n : Tally := {}) : State × Tally :=
  (w.positions k.firstTile k.tiles).foldl (fun (a : State × Tally) p =>
    let (s, n) := a
    if w.masked p.1 then
      (if p.2 = 0 ∧ k.outGroup = 0 ∧ w.rerun = false ∧ w.layer.windowed = true then s.bump (K.maskedRows w.die) else s, n)
    else if mute then (s, n)
    else if s.readsMarked w p.1 p.2 then (s.markRow w.die w.layer.outT w.stripe p.1, n)
    else body s n p.1 p.2) (s, n)

/-- The raw sum of a part of a split reduction, with its saturation status (R131, R201; log entry 31). -/
def State.writeRaw (s : State) (w : Work) (row col ch : Nat) (x : Sum) : State :=
  match w.outRec (· == 2) with
  | some t =>
    let key := t.sumKey row col ch
    let rest := s.engine.partSat.filter (· != key)
    let s := s.setElem t row col ch (if w.mode = 2 then x.value.toNat else unsigned 32 x.value)
    { s with engine := { s.engine with partSat := if x.sat then key :: rest else rest } }
  | none => s

/-- Whether a layer writes its results in a form of R205. -/
def Layer.hasForm (l : Layer) : Bool := l.outInt8 || l.outBf16 || l.outFp32

/-- The array or spare that stands in the place of an array (R143). -/
def State.physical (s : State) (die n : Nat) : Nat := if s.served die (spareOf n) = some n then 48 + spareOf n else n

/-- The cells and the drain in the place of an array. -/
def State.unitAt (s : State) (die n : Nat) : ArrayUnit := SMap.get {} s.engine.units (die * 64 + s.physical die n)

/-- Row and first column of a tile: 256 consecutive columns of one output row (R124, R180). -/
def Work.tileAt (w : Work) (t : Nat) : Nat × Nat :=
  let per := max 1 (ceilDiv w.extent.2 256)
  (t / per, t % per * 256)

/-- The arrays of a quad run one tile of a kernel: each its 64 columns (R124, R126). -/
def State.computeTile (s : State) (w : Work) (k : Kernel) (i : Nat) : State :=
  let (row, c0) := w.tileAt (k.firstTile + i)
  if w.extent.1 ≤ row then s
  else
    let cg := if w.layer.windowed then (w.groupChans k.outGroup).headD 0 / max 1 (w.layer.cOut / max 1 w.layer.groups) else 0
    (List.range 4).foldl (fun (s : State) a =>
      let n := s.physical w.die (4 * k.unit + a)
      let cols := (List.range 64).map fun x => s.operands w row (c0 + 64 * a + x) cg
      let u := w.runGroup k.outGroup (w.obs.arrays.filter fun e => e.array == n && e.tile == i) cols
        (SMap.get {} s.engine.units (w.die * 64 + n))
      { s with engine := { s.engine with units := SMap.set {} s.engine.units (w.die * 64 + n) u } }) s

/-- One position of one output group: what the drains of the quad give, through the vector unit (R126 to R131, R201). -/
def State.arrayPosition (s : State) (w : Work) (tab : List Byte) (k : Kernel) (n : Tally) (row col : Nat) : State × Tally :=
  let chans := w.groupChans k.outGroup
  let u := s.unitAt w.die (4 * k.unit + col % 256 / 64)
  let sums := chans.map fun c => s.combine w row col c (u.drained (c - k.outGroup * w.layer.groupK) (col % 64))
  let n := { n with sat := n.sat || sums.any fun x => x.sat }
  if w.layer.hasForm then
    s.writeChans w row col chans ((chans.zip sums).map fun x => s.epilogue w tab row col x.1 x.2) n
  else ((chans.zip sums).foldl (fun s x => s.writeRaw w row col x.1 x.2) s, n)

/-- The tiles of an array kernel in turn. -/
def State.overTiles (s : State) (w : Work) (tab : List Byte) (k : Kernel) (mute : Bool) : State × Tally :=
  (List.range k.tiles).foldl (fun (a : State × Tally) i =>
    (a.1.computeTile w k i).overPositions w { k with firstTile := k.firstTile + i, tiles := 1 } mute
      (fun s n r c => s.arrayPosition w tab k n r c) a.2) (s, {})

/-- Arrays whose check column declares a mismatch in a kernel, once for each pass and channel (R139): BF16 split mode checks
nothing. -/
def State.mismatches (s : State) (w : Work) (k : Kernel) : List Nat :=
  if w.layer.op ≠ 1 ∨ w.mode = 2 then []
  else
    let errs := w.obs.arrays.filter fun e => decide (e.tile < k.tiles) && (List.range 4).any fun a =>
      s.physical w.die (4 * k.unit + a) == e.array
    ((errs.map fun e => (e.tile, e.array, e.pass, e.chan)).eraseDups.filter fun (i, n, p, c) =>
      let (row, c0) := w.tileAt (k.firstTile + i)
      let cg := if w.layer.windowed then (w.groupChans k.outGroup).headD 0 / max 1 (w.layer.cOut / max 1 w.layer.groups) else 0
      let a := ((List.range 4).find? fun a => s.physical w.die (4 * k.unit + a) == n).getD 0
      let plane := (List.range 64).map fun x => ((s.operands w row (c0 + 64 * a + x) cg).drop (p * w.perPass)).take w.perPass
      w.passBad (w.slice k.outGroup p c) plane
        ((errs.filter fun e => e.tile == i && e.array == n && e.pass == p && e.chan == c).map fun e => (e.col, e.err))).map
      fun x => x.2.1

/-! ### Window operators on the vector path (R193 to R197, R206, R207) -/

/-- One position of DEPTHWISE or GROUPED_VECTOR (R193, R201, R206): weights output channel by output channel in delivery order. -/
def State.macPosition (s : State) (w : Work) (tab : List Byte) (n : Tally) (row col : Nat) : State × Tally :=
  let l := w.layer
  let o := w.absRow row
  let oc := w.origin.2 + col
  let cg := if l.wOp = 3 then 1 else l.cIn / max 1 l.groups
  let chans := List.range l.cOut
  let vals := chans.map fun c =>
    let base := if l.wOp = 3 then c / max 1 (l.cOut / max 1 l.cIn) else c / max 1 (l.cOut / max 1 l.groups) * cg
    let acc := ((List.range l.kh).map fun ty => (List.range l.kw).map fun tx => (List.range cg).map fun i =>
      signed 8 (s.tapValue w o oc ty tx (base + i)) *
        signed 8 (w.weightByte (l.wOff + (c * (l.kh * l.kw) + ty * l.kw + tx) * cg + i))).flatten.flatten.sum
    s.combine w row col c { value := acc }
  s.writeChans w row col chans ((chans.zip vals).map fun x => s.epilogue w tab row col x.1 x.2)
    { n with sat := n.sat || vals.any fun x => x.sat }

/-- The codes that a pooling window takes: those of real taps, and of padded ones unless they take no part (R194, R195). -/
def State.poolCodes (s : State) (w : Work) (row col ch : Nat) (realOnly : Bool) : List Int :=
  let l := w.layer
  let o := w.absRow row
  let oc := w.origin.2 + col
  ((List.range l.kh).map fun ty => (List.range l.kw).filterMap fun tx =>
    if (w.tap o oc ty tx).isNone && realOnly then none else some (signed 8 (s.tapValue w o oc ty tx ch))).flatten

/-- Real taps of a window in the width direction. -/
def Work.realWidth (w : Work) (col : Nat) : Nat :=
  let l := w.layer
  ((List.range l.kw).filter fun (tx : Nat) =>
    let x : Int := ((w.origin.2 + col) * l.sw : Nat) - l.pl + l.dw * tx
    decide (0 ≤ x) && decide (x < l.wIn)).length

/-- MAX_POOL and AVG_POOL (R194, R195). -/
def State.poolCode (s : State) (w : Work) (row col ch : Nat) : Int :=
  let l := w.layer
  if l.wOp = 5 then
    match s.poolCodes w row col ch (l.padMode == 2) with
    | [] => 0
    | a :: r => r.foldl max a
  else
    let real := decide (l.divisor ≠ 0) || l.padMode == 2
    let codes := s.poolCodes w row col ch real
    let n := if l.divisor = 1 then (s.poolCodes w row col ch true).length
      else if l.divisor = 2 then l.kh * w.realWidth col else l.kh * l.kw
    roundDiv codes.sum n

/-- An input code at clamped coordinates (R197). -/
def State.clampedCode (s : State) (w : Work) (y x : Int) (ch : Nat) : Int :=
  let p := w.clamped y x
  signed 8 (s.rowElem w p.1 p.2 ch)

/-- Both upsamplings (R197). -/
def State.upCode (s : State) (w : Work) (row col ch : Nat) : Int :=
  let l := w.layer
  let o := w.absRow row
  let oc : Int := w.origin.2 + col
  if l.wOp = 7 then s.clampedCode w (o / l.sh) (oc / l.sw) ch
  else
    let (y, fy) := bilinear o l.sh
    let (x, fx) := bilinear oc l.sw
    let ny : Int := 2 * l.sh
    let nx : Int := 2 * l.sw
    roundDiv
      ((ny - fy) * ((nx - fx) * s.clampedCode w y x ch + fx * s.clampedCode w y (x + 1) ch) +
        fy * ((nx - fx) * s.clampedCode w (y + 1) x ch + fx * s.clampedCode w (y + 1) (x + 1) ch))
      (4 * l.sh * l.sw)

/-- One position of an operator that yields codes (R207). -/
def State.codePosition (s : State) (w : Work) (n : Tally) (row col : Nat) : State × Tally :=
  match w.outRec fun k => decide (k ≤ 1) with
  | none => (s, n)
  | some t =>
    ((List.range w.layer.cOut).foldl (fun s c =>
      s.setElem t row col c (unsigned 8 (if w.layer.wOp ≤ 6 then s.poolCode w row col c else s.upCode w row col c))) s, n)

/-! ### Operators on the plan port (R166, R208, R210, R211) -/

/-- Channels of a tensor of the work. -/
def Work.chans (w : Work) (t : Nat) : Nat := ((w.plan.tensors.find? fun x => x.num == t).map Tensor.chans).getD 0

/-- The second operand: the shape of the first, or one value per channel (R208). -/
def State.secondValue (s : State) (w : Work) (row col ch : Nat) : Nat :=
  match w.plan.tensor w.layer.second w.die fun _ => true with
  | some t => if t.rows = 1 ∧ t.width = 1 then s.value w w.layer.second 0 0 ch else s.value w w.layer.second row col ch
  | none => 0

/-- One position of ELEMENTWISE (R208): the result enters step 5 of R201. -/
def State.elemPosition (s : State) (w : Work) (tab : List Byte) (n : Tally) (row col : Nat) : State × Tally :=
  let l := w.layer
  let chans := List.range (w.chans l.inT)
  s.writeChans w row col chans (chans.map fun c =>
    activate tab l.act l.actA l.actB (elementOp l.elemOp (s.value w l.inT row col c) (s.secondValue w row col c))) n

/-- One position of NORM (R210). -/
def State.normPosition (s : State) (w : Work) (n : Tally) (row col : Nat) : State × Tally :=
  let chans := List.range (w.chans w.layer.inT)
  let base := w.plan.secOff 9 + w.layer.params
  let gamma := chans.map fun c => leAt w.img (base + 4 * c) 4
  let beta := chans.map fun c => leAt w.img (base + 4 * (chans.length + c)) 4
  s.writeChans w row col chans (normalise w.layer.eps gamma beta (chans.map fun c => s.value w w.layer.inT row col c)) n

/-- The row of values that SOFTMAX and ARGMAX work on at a position (R211). -/
def State.rowValues (s : State) (w : Work) (row col : Nat) : List Nat :=
  (List.range w.layer.rowLen).map fun c => s.value w w.layer.inT row col c

/-- One row of SOFTMAX (R211). -/
def State.softPosition (s : State) (w : Work) (tab : List Byte) (n : Tally) (row col : Nat) : State × Tally :=
  let x := s.rowValues w row col
  let s := if nanRow x then s.bump (K.softmaxNanRows w.die) else s
  s.writeChans w row col (List.range x.length) (softmax tab x) n

/-- One row of ARGMAX (R211): the index as a 32-bit number, then the value (log entry 34). -/
def State.argPosition (s : State) (w : Work) (n : Tally) (row col : Nat) : State × Tally :=
  let x := s.rowValues w row col
  let s := if nanRow x then s.bump (K.softmaxNanRows w.die) else s
  let (i, v) := argMax x
  match w.outRec (· == 2) with
  | some t => ((s.setElem t row col 0 i).setElem t row col 1 v, n)
  | none => (s, n)

/-- AFFINE_QUANT over the positions of a kernel (R166, R205): two passes for each channel. -/
def State.affineQuant (s : State) (w : Work) (k : Kernel) (mute : Bool) : State × Tally :=
  let pos := (w.positions k.firstTile k.tiles).filter fun p => !w.masked p.1
  match w.outRec fun x => decide (x ≤ 1) with
  | none => (s, {})
  | some t =>
    if mute then (s, {})
    else if pos.any fun p => s.readsMarked w p.1 p.2 then
      ((pos.map fun p => p.1).eraseDups.foldl (fun s r => s.markRow w.die w.layer.outT w.stripe r) s, {})
    else
      (List.range (w.chans w.layer.inT)).foldl (fun (a : State × Tally) c =>
        let (s, n) := a
        let xs := pos.map fun p => s.value w w.layer.inT p.1 p.2 c
        let r := affineOf c xs
        let s := if bitOf r 54 then s.bump (K.flatChannels w.die) else s
        let s := s.actWrite t.die (t.affineAt c) (leBytes 8 r)
        (pos.zip xs).foldl (fun (a : State × Tally) x =>
          let q := quantAffine r x.2
          (a.1.setElem t x.1.1 x.1.2 c q.code,
            { a.2 with clipped := a.2.clipped + bitNat q.clipped, nans := a.2.nans + bitNat q.nan, total := a.2.total + 1 }))
          (s, n)) (s, {})

/-! ### One kernel -/

/-- A kernel's work on its tensors, but for the track step; `mute` suppresses its writes. -/
def State.runWork (s : State) (w : Work) (k : Kernel) (batch ctx : Nat) (mute : Bool) : State :=
  let tab := s.blob K.activationTables
  let op := w.layer.op
  let (s, n) :=
    if op = 1 then s.overTiles w tab k mute
    else if op = 2 then
      if w.layer.mac then s.overPositions w k mute fun s n r c => s.macPosition w tab n r c
      else s.overPositions w k mute fun s n r c => s.codePosition w n r c
    else if op = 3 then s.overPositions w k mute fun s n r c => s.elemPosition w tab n r c
    else if op = 4 then s.overPositions w k mute fun s n r c => s.normPosition w n r c
    else if op = 5 then s.overPositions w k mute fun s n r c => s.softPosition w tab n r c
    else if op = 6 then s.overPositions w k mute fun s n r c => s.argPosition w n r c
    else if op = 7 then s.affineQuant w k mute
    else (s, {})
  s.tally w batch ctx n

/-- The reel reads of a kernel: image offset of the slice, and the cycle of its read (R128, R134). Those of the first tile come
first of all. -/
def Work.reelReads (w : Work) (k : Kernel) : List (Nat × Nat) :=
  let p := w.plan
  if w.layer.op ≠ 1 ∨ 11 < k.unit then []
  else (List.range (p.passesOf k)).flatMap fun i => (List.range (p.groupLen k)).map fun c =>
    (w.sliceOff k.outGroup i c, p.passFrom k 0 i + c * p.sliceStep k - 4)

/-- Row entries of a kernel's slices: output channels × passes × tiles (R126). -/
def Work.slices (w : Work) (k : Kernel) : Nat :=
  (w.groupChans k.outGroup).length * ceilDiv w.layer.redLen w.perPass * k.tiles

/-- Ramp cycles between the compute cycles of one kernel, per array (R138). -/
def Plan.innerRamps (p : Plan) (k : Kernel) : Nat :=
  let runs := p.macRuns k
  ((runs.zip (runs.drop 1)).map fun x => rampIn (x.2.1 - x.1.2)).sum

/-- Busy lane-cycles of the period grow: `least` certain ones, `most` possible ones (R213). -/
def State.addLanes (s : State) (d least most : Nat) : State :=
  let (a, b) := SMap.get (0, 0) s.engine.lanes d
  { s with engine := { s.engine with lanes := SMap.set (0, 0) s.engine.lanes d (a + least, b + most) } }

/-- The arrays of a quad come to a kernel whose cycle 0 is `base` (R138): the ramp cycles since their latest compute cycle and
within the kernel, counted as the next compute cycle makes them certain, and the array's new latest compute cycle. -/
def State.rampArrays (s : State) (w : Work) (k : Kernel) (base ctx : Nat) : State :=
  let n := w.plan.arraysIn w.die k.unit
  let inner := w.plan.innerRamps k
  let stop := ((w.plan.macRuns k).getLast?.map fun r => r.2).getD 0
  let first := base + (w.plan.computeFrom k - k.start)
  (List.range n).foldl (fun (s : State) a =>
    let key := w.die * 64 + s.physical w.die (4 * k.unit + a)
    let gap := match SMap.find? s.engine.lastMac key with
      | some t => rampIn (first - t)
      | none => 32
    let s := s.count w.die 0x0103 (gap + inner) 1 ctx
    { s with engine := { s.engine with lastMac := SMap.put (SMap.erase s.engine.lastMac key) key (base + (stop - k.start)) } }) s

/-- What the counters see of a kernel whose cycle 0 is `base` (R443). A drained value keeps one lane of the vector unit busy for
one cycle (log entry 67). -/
def State.countKernel (s : State) (w : Work) (k : Kernel) (base ctx : Nat) : State :=
  let d := w.die
  let s := if w.layer.op = 1 then
      let cyc := w.slices k * (if w.mode = 2 then 2 else 1) * w.plan.arraysIn d k.unit
      let s := { s with engine := { s.engine with active := SMap.set 0 s.engine.active d (SMap.get 0 s.engine.active d + cyc) } }
      let s := s.count d 0x0101 cyc 1 ctx
      let s := s.count d 0x0102 (cyc * (if w.mode = 0 then 4096 else if w.mode = 1 then 8192 else 1024)) 1 ctx
      let s := s.count d 0x0501 (w.slices k) 1 ctx
      let s := s.rampArrays w k base ctx
      let busy := 64 * (w.groupChans k.outGroup).length * k.tiles * w.plan.arraysIn d k.unit
      (s.addLanes d busy busy).count d 0x0201 busy 1 ctx
    else (s.addLanes d 0 (384 * k.cycles)).countFree d 0x0201 (384 * k.cycles) 1 ctx
  let s := if w.layer.windowed then
      let tiles := (List.range k.tiles).map fun i =>
        let x := w.tileAt (k.firstTile + i)
        w.words x.1 x.2
      let pad := (tiles.map fun t => t.2).sum
      let s := (s.count d 0x0301 ((tiles.map fun t => t.1).sum) 1 ctx).count d 0x0302 pad 1 ctx
      s.bump (K.paddedTapWords d) pad
    else s
  s.countFree d 0x0401 (64 * k.cycles) 7 ctx

end Sys2Proof.Machine
end

