-- ==== Sys2Proof/Machine/TrackOps.lean ====
section
/-! DEFINITION. The track unit: the rows of a mask, tracks and untracked regions, the work list and the gather, and
decision records (R242 to R259). -/

namespace Sys2Proof.Machine

/-- One track. -/
def State.track (s : State) (i : Nat) : Track := SMap.get {} s.tracks.table i

/-- Sets one track. -/
def State.setTrack (s : State) (i : Nat) (t : Track) : State :=
  { s with tracks := { s.tracks with table := SMap.set {} s.tracks.table i t } }

/-- Frees a track. -/
def State.freeTrack (s : State) (i : Nat) : State :=
  { s.setTrack i {} with tracks := { (s.setTrack i {}).tracks with sums := SMap.erase s.tracks.sums i } }

/-- Tracks in a state. -/
def State.tracksIn (s : State) (st : TrackSt) : List Nat := (s.tracks.table.filter fun p => p.2.st == st).map (·.1)

/-- TracksOpen and TracksClosed (R262). -/
def State.openCount (s : State) : Nat := (s.tracksIn .opened).length
def State.closedCount (s : State) : Nat := (s.tracksIn .closed).length + (s.tracksIn .listed).length

/-- The 64 bytes of an entry (R245). -/
def Track.bytes (t : Track) : List Byte :=
  leBytes 1 t.st.code ++ leBytes 1 t.flags ++ leBytes 1 t.gap ++ leBytes 1 t.wait ++ leBytes 2 t.rows ++ leBytes 2 t.subst ++
    leBytes 8 t.leading ++ leBytes 8 t.trailing ++ leBytes 4 t.area ++ leBytes 2 t.colMin ++ leBytes 2 t.colMax ++
    leBytes 4 t.serial ++ leBytes 2 t.merged ++ leBytes 26 0

/-! ### What a step works on -/

/-- The fixed figures of one track step. -/
structure StepOf where
  w : Work
  h : Heads
  stripe : Nat
  rows : Nat                          -- MaskRows
  lm : Nat                            -- Lm (R242)
  cm : Nat                            -- Cm
  deriving DecidableEq, Repr

/-- A value of 0x0A02 or 0x0A03 of the generation of a stripe (R261). -/
def State.stripeReg (s : State) (j k : Nat) : Nat :=
  match SMap.find? s.pipe.stripes j with
  | some st => s.genReg st k
  | none => s.reg k

/-- The figures of a step. -/
def State.stepOf (s : State) (w : Work) : StepOf :=
  let h := s.heads w.plan
  let rows := w.plan.maskRows h
  { w, h, stripe := w.stripe, rows, lm := w.plan.stripeLines / max 1 rows
    cm := s.stripeReg w.stripe K.stripeWidth / max 1 (w.plan.maskWidth h) }

/-- Belt position of a mask row; row `rows` is the first row of the next stripe (R242). -/
def State.maskPos (s : State) (x : StepOf) (r : Nat) : Nat := s.lineStamp (x.stripe * x.w.plan.stripeLines + r * x.lm)

/-- The die and the local column of a column of a tensor that two dies share by columns. -/
def Plan.column (p : Plan) (t c : Nat) : Nat × Nat :=
  match p.tensor t 0 fun _ => true with
  | some r => if c < r.width then (0, c) else (1, c - r.width)
  | none => (1, c)

/-- The INT8 code of a position of a tensor. -/
def State.codeAt (s : State) (p : Plan) (t row c : Nat) : Int :=
  let (d, x) := p.column t c
  match p.tensor t d fun l => decide (l ≤ 1) with
  | some r => signed 8 (s.elem r d r.off row x 0)
  | none => -128

/-- Maximal sequences of true positions, ascending. -/
def runsOf : List (Nat × Bool) → Option Run → List Run
  | [], none => []
  | [], some r => [r]
  | (c, true) :: l, none => runsOf l (some (c, c))
  | (c, true) :: l, some r => runsOf l (some (r.1, c))
  | (_, false) :: l, none => runsOf l none
  | (_, false) :: l, some r => r :: runsOf l none

/-- The runs of a mask row (R242). -/
def State.maskRuns (s : State) (x : StepOf) (r : Nat) : List Run :=
  runsOf ((List.range (x.w.plan.maskWidth x.h)).map fun c =>
    (c, decide (x.h.threshold ≤ s.codeAt x.w.plan x.h.mask r c))) none

/-- Whether two runs connect (R243). -/
def StepOf.touch (x : StepOf) (a b : Run) : Bool :=
  let d := if x.h.conn = 8 then 1 else 0
  decide (a.1 ≤ b.2 + d) && decide (b.1 ≤ a.2 + d)

/-- The feature codes of a position, dequantised under R208 (R247). -/
def State.featureAt (s : State) (x : StepOf) (r c : Nat) : List Nat :=
  let (d, cc) := x.w.plan.column x.h.feature c
  (List.range x.h.chans).map fun ch => s.codeValue { x.w with die := d } x.h.feature r cc ch

/-- Adds the features of a run to a track's sums (R247). -/
def State.addFeatures (s : State) (x : StepOf) (i r : Nat) (run : Run) : State :=
  let sums := (List.range (run.2 + 1 - run.1)).foldl (fun (acc : List Nat) k =>
    let f := s.featureAt x r (run.1 + k)
    (List.range x.h.chans).map fun ch => f32add (acc.getD ch 0) (f.getD ch 0)) (SMap.get [] s.tracks.sums i)
  { s with tracks := { s.tracks with sums := SMap.set [] s.tracks.sums i sums } }

/-! ### Decision records (R256 to R259) -/

/-- Appends a direct record of the step in progress (R259). -/
def State.direct (s : State) (r : Rec) : State :=
  { s with tracks := { s.tracks with heldRecs := s.tracks.heldRecs ++ [r] } }

/-- ℓ of a mesh column (R257). -/
def State.valveLine (s : State) (j x : Nat) : Int :=
  (((x : Int) - s.stripeReg j K.valveColumnOrigin) * 65536).fdiv (max 1 (s.stripeReg j K.valveColumnPitch))

/-- ValveFirst, ValveMask and WIDE of an extent; none where no valve covers it (R257). -/
def State.valves (s : State) (j lo hi : Nat) : Option (Nat × Nat × Bool) :=
  let a := max 0 (s.valveLine j lo)
  let b := min ((s.stripeReg j K.valveChannelCount : Int) - 1) (s.valveLine j hi)
  if b < a then none
  else
    let gr := s.stripeReg j K.valveGranule
    let glo := a.toNat / gr
    let ghi := b.toNat / gr
    let n := ghi - glo + 1
    let wide := decide (21 < n)
    let glo := if wide then glo + (n - 21) / 2 else glo
    some (s.stripeReg j K.valveChannelBase + gr * glo, 2 ^ min n 21 - 1, wide)

/-- A decision record (R257, R258): `start` is Leading or the start of the fire span, `len` the FireLength, `flags` the
flags beyond EJECT and WIDE. -/
def State.decisionRec (s : State) (j start len lo hi cls conf : Nat) (eject : Bool) (flags : Nat) : State × Rec :=
  let p := (((start : Int) + s.stripeReg j K.ejectorDistance - s.stripeReg j K.leadMargin) % 2 ^ 48).toNat
  let (v, s) := if eject then
      match s.valves j lo hi with
      | some v => (some v, s)
      | none => (none, s.bump K.outsideValveRange)
    else (none, s)
  let s := if 0xF0 ≤ cls ∧ cls ≤ 0xF3 then s.bump K.fallbackDecisions else s
  let s := if cls = 0xF1 then s.bump K.listWaitFallbacks else s
  let s := if cls = 0xFE then s.bump K.noTrackDecisions else s
  let (first, mask, wide) := v.getD (0, 0, false)
  (s, s.recPos RType.decision Unit.track p
    (mask + 2 ^ 21 * first + 2 ^ 32 * conf + 2 ^ 40 * cls + 2 ^ 48 * (len % 65536)) 0
    (bitNat v.isSome + 2 * bitNat (decide (0xF0 ≤ cls ∧ cls ≤ 0xF3)) + flags + 128 * bitNat wide))

/-- Writes a decision record: it crosses to the ejection unit and goes to the host (R258, R259). -/
def State.issueDecision (s : State) (r : Rec) : State :=
  let s := { s.bump K.decisionsIssued with tracks := { s.tracks with crossing := s.tracks.crossing ++ [r] } }
  s.emit r

/-- Flags of a track as its record carries them (R258). -/
def Track.recFlags (t : Track) : Nat :=
  8 * bitNat (bitOf t.flags 0) + 16 * bitNat (bitOf t.flags 2) + 32 * bitNat (bitOf t.flags 3 || bitOf t.flags 4)

/-- FireLength of a track (R257). -/
def State.fireLength (s : State) (j : Nat) (t : Track) : Nat :=
  t.trailing - t.leading + s.stripeReg j K.leadMargin + s.stripeReg j K.trailMargin

/-- The record of a track (R257). -/
def State.trackRec (s : State) (x : StepOf) (t : Track) (cls conf : Nat) (eject : Bool) (image : Bool) : State × Rec :=
  s.decisionRec x.stripe t.leading (s.fireLength x.stripe t) (t.colMin * x.cm) (t.colMax * x.cm + x.cm - 1) cls conf eject
    (t.recFlags + 64 * bitNat image)

/-- A direct fallback decision of class 0xF1 (R246, R255). -/
def State.listWait (s : State) (x : StepOf) (i : Nat) : State :=
  let t := s.track i
  let (s, r) := s.trackRec x t 0xF1 0 (s.stripeReg x.stripe K.fallbackAction == 1) false
  (s.direct r).freeTrack i

/-! ### Untracked regions (R250) -/

/-- Records of a region while its covered span ends before the row does. -/
def State.coverRegion (x : StepOf) (rowEnd lo hi : Nat) : Nat → State → Region → State × Region
  | 0, s, g => (s, g)
  | n + 1, s, g =>
    if g.covered < rowEnd then
      let j := x.stripe
      let len := s.stripeReg j K.noTrackLength
      let (s, r) := s.decisionRec j g.covered (len + s.stripeReg j K.leadMargin + s.stripeReg j K.trailMargin)
        (lo * x.cm) (hi * x.cm + x.cm - 1) 0xFE 0 (s.stripeReg j K.noTrackAction == 1) 4
      State.coverRegion x rowEnd lo hi n (s.direct r)
        { g with covered := g.covered + len, colMin := 65535, colMax := 0 }
    else (s, g)

/-- The end of a row for a region that continues in it: its further records (R250). -/
def State.regionRow (s : State) (x : StepOf) (r : Nat) (g : Region) : State × Region :=
  let rowEnd := s.maskPos x (r + 1)
  let lo := if g.colMin ≤ g.colMax then g.colMin else g.conn.foldl (fun m u => min m u.1) 65535
  let hi := if g.colMin ≤ g.colMax then g.colMax else g.conn.foldl (fun m u => max m u.2) 0
  State.coverRegion x rowEnd lo hi (rowEnd - g.covered + 1) s g

/-- Replaces the regions. -/
def State.setRegions (s : State) (l : List Region) : State := { s with tracks := { s.tracks with regions := l } }

/-! ### Rows (R246, step 2) -/

/-- Several tracks merge (R247): the survivor's number, and the state. -/
def State.mergeTracks (s : State) (ids : List Nat) : Nat × State :=
  match ids with
  | [] => (0, s)
  | a :: rest =>
    let better := fun (i j : Nat) =>
      let ti := s.track i
      let tj := s.track j
      if tj.leading < ti.leading ∨ (tj.leading = ti.leading ∧ tj.serial < ti.serial) then j else i
    let sv := rest.foldl better a
    let others := (ids.filter fun i => i != sv).mergeSort fun i j => decide (i ≤ j)
    let s := others.foldl (fun s i =>
      let t := s.track i
      let v := s.track sv
      let f := SMap.get [] s.tracks.sums i
      let g := SMap.get [] s.tracks.sums sv
      let s := { s with tracks := { s.tracks with
        sums := SMap.set [] s.tracks.sums sv ((List.range (max f.length g.length)).map fun c => f32add (g.getD c 0) (f.getD c 0)) } }
      let s := s.setTrack sv { v with
        area := v.area + t.area, colMin := min v.colMin t.colMin, colMax := max v.colMax t.colMax
        rows := max v.rows t.rows, subst := max v.subst t.subst, flags := v.flags ||| t.flags ||| 32
        merged := min 65535 (v.merged + 1), conn := v.conn ++ t.conn, now := v.now ++ t.now, after := max v.after t.after }
      (s.freeTrack i).bump K.merges) s
    (sv, s)

/-- A track takes a run of the row (R247). -/
def State.extend (s : State) (x : StepOf) (i r : Nat) (run : Run) : State :=
  let t := s.track i
  let s := s.setTrack i { t with
    area := t.area + (run.2 + 1 - run.1), colMin := min t.colMin run.1, colMax := max t.colMax run.2, gap := 0
    now := t.now ++ [run] }
  s.addFeatures x i r run

/-- Step 2(a) for one run: the state, and the run with its CONTINUATION where it is to join (R247, R248). -/
def State.takeRun (s : State) (x : StepOf) (r : Nat) (run : Run) : State × Option (Run × Bool) :=
  let hits := fun (l : List Run) => l.any fun u => x.touch u run
  let open' := (s.tracks.table.filter fun p => p.2.st == .opened && hits p.2.conn).map (·.1)
  let isOver := s.tracks.overs.any fun o => o.1 == s.maskPos x r && hits o.2
  let regs := s.tracks.regions.filter fun g => hits g.conn
  let rest := s.tracks.regions.filter fun g => !hits g.conn
  match open' with
  | _ :: _ =>
    let (sv, s) := s.mergeTracks open'
    ((s.setRegions rest).extend x sv r run, none)
  | [] =>
    if isOver then (s.setRegions rest, some (run, true))
    else match regs with
      | [] => (s, some (run, false))
      | g0 :: gs =>
        let g := gs.foldl (fun a b => if b.order < a.order then b else a) g0
        let all := g0 :: gs
        let g := { g with
          conn := (all.map fun u => u.conn).flatten
          now := (all.map fun u => u.now).flatten ++ [run]
          colMin := all.foldl (fun m u => min m u.colMin) run.1, colMax := all.foldl (fun m u => max m u.colMax) run.2 }
        (s.setRegions (rest ++ [g]), none)

/-- Whether a mask row is degraded for the runs of a track (R251). -/
def State.degradedRow (s : State) (x : StepOf) (r : Nat) (runs : List Run) : Bool :=
  match SMap.find? s.pipe.stripes x.stripe with
  | none => false
  | some st =>
    ((List.range x.lm).any fun l => st.lines.contains (r * x.lm + l)) && st.streams.any fun i =>
      let first := s.genReg st (K.tileFirstColumn i)
      let cols := s.genReg st (K.tileColumns i)
      runs.any fun u => decide (u.1 * x.cm < first + cols) && decide (first ≤ u.2 * x.cm + x.cm - 1)

/-- A track closes (R248): it is dropped when small, else judged for degradation. One that closes by overlength stays a
connection source for the next row, whose position is its Trailing, whatever becomes of it. -/
def State.closeTrack (s : State) (x : StepOf) (i trailing flags : Nat) (isOver : Bool) : State :=
  let t := s.track i
  let s := if isOver then { s with tracks := { s.tracks with
      overs := (s.tracks.overs.filter fun o => o.1 == trailing) ++ [(trailing, t.conn)] } } else s
  if t.area < x.h.minArea then (s.freeTrack i).bump K.smallObjectsDropped
  else
    let deg := decide (s.stripeReg x.stripe K.degradedShare * t.rows < t.subst * 65536)
    let s := if deg then s.bump K.degradedObjects else s
    s.setTrack i { t with
      st := .closed, trailing, wait := 0, fresh := true, now := []
      flags := t.flags ||| flags ||| bitNat deg }

/-- Steps 2(b) and 2(c): the end of the row for every OPEN track and every region (R247, R248, R250, R251). -/
def State.endRow (s : State) (x : StepOf) (r : Nat) (featureMarked : Bool) : State :=
  let nextPos := s.maskPos x (r + 1)
  let s := (s.tracks.regions.mergeSort fun a b => decide (a.order ≤ b.order)).foldl (fun (s : State) g =>
    if g.now = [] then s
    else
      let (s, g) := s.regionRow x r { g with conn := g.now, now := [] }
      s.setRegions (s.tracks.regions ++ [g])) (s.setRegions [])
  (s.tracksIn .opened).foldl (fun s i =>
    let t := s.track i
    if t.now = [] then
      let s := s.setTrack i { t with gap := t.gap + 1 }
      if x.h.gapRows ≤ t.gap + 1 then s.closeTrack x i t.after 0 false else s
    else
      let t := { t with
        rows := min 65535 (t.rows + 1), subst := min 65535 (t.subst + bitNat (s.degradedRow x r t.now))
        conn := t.now, now := [], after := nextPos, flags := t.flags ||| (2 * bitNat featureMarked) }
      let s := s.setTrack i t
      if x.h.maxRows ≤ t.rows then (s.closeTrack x i nextPos 4 true).bump K.overlengthTracks else s) s

/-- Step 2(d): one run joins, or its join is refused (R249, R250, R252). -/
def State.join (s : State) (x : StepOf) (r : Nat) (featureMarked : Bool) (run : Run) (cont : Bool) : State :=
  let pos := s.maskPos x r
  let next := s.maskPos x (r + 1)
  if x.h.capacity ≤ s.openCount + s.closedCount then
    let s := (s.bump K.joinsRefused).emit
      (s.recPos RType.joinRefused Unit.track pos (run.1 + 65536 * run.2 + 2 ^ 32 * x.h.capacity) 0)
    let g : Region := { conn := [run], colMin := run.1, colMax := run.2, covered := pos, order := s.tracks.nextOrder }
    let s := { s with tracks := { s.tracks with nextOrder := s.tracks.nextOrder + 1 } }
    let (s, g) := s.regionRow x r g
    s.setRegions (s.tracks.regions ++ [g])
  else
    let id := ((List.range x.h.capacity).find? fun i => (s.track i).st == .free).getD 0
    let cut := s.tracks.markedFrom.isSome
    let t : Track :=
      { st := .opened, rows := 1, subst := bitNat (s.degradedRow x r [run]), leading := s.tracks.markedFrom.getD pos
        area := run.2 + 1 - run.1, colMin := run.1, colMax := run.2, serial := s.reg K.joins % 2 ^ 32, conn := [run]
        after := next
        flags := 8 * bitNat cont + 16 * bitNat (cut || s.tracks.cutNext) + 2 * bitNat (cut || featureMarked) }
    let s := ((s.setTrack id t).bump K.joins).addFeatures x id r run
    if x.h.maxRows ≤ 1 then (s.closeTrack x id next 4 true).bump K.overlengthTracks else s

/-- A marked mask row (R252): nothing extends, closes or joins. -/
def State.markedRow (s : State) (x : StepOf) (r : Nat) : State :=
  let s := (s.tracksIn .opened).foldl (fun s i => s.setTrack i { s.track i with flags := (s.track i).flags ||| 2 }) s
  let s := s.tracks.regions.foldl (fun (s : State) g =>
    let (s, g) := s.regionRow x r g
    s.setRegions (s.tracks.regions ++ [g])) (s.setRegions [])
  { s with tracks := { s.tracks with markedFrom := some (s.tracks.markedFrom.getD (s.maskPos x r)) } }

/-- Every OPEN track closes and every region ends (R255). -/
def State.endStream (s : State) (x : StepOf) (pos flags : Nat) : State :=
  let s := (s.tracksIn .opened).foldl (fun s i => s.closeTrack x i pos flags false) s
  s.setRegions []

/-- One mask row (R246, step 2). The rows beyond the last real one of a stream that a flush closed end its tracks (R255); those
of a stream that a change of geometry cut leave them, since R31 keeps the tracks. -/
def State.maskRow (s : State) (x : StepOf) (r : Nat) : State :=
  let wm : Work := { x.w with layer := ({ inT := x.h.mask, outT := x.h.mask } : Layer) }
  let marked := s.rowMarked 0 x.h.mask x.stripe r || s.rowMarked 1 x.h.mask x.stripe r
  let past : Bool := match wm.endOf x.h.mask with
    | some _ => wm.masked r
    | none => false
  if past then (if x.w.cut then s else s.endStream x (s.maskPos x r) 0)
  else if wm.masked r then s
  else if marked then s.markedRow x r
  else
    let fm := s.rowMarked 0 x.h.feature x.stripe r || s.rowMarked 1 x.h.feature x.stripe r
    let (s, joins) := (s.maskRuns x r).foldl (fun (a : State × List (Run × Bool)) run =>
      let (s, j) := a.1.takeRun x r run
      (s, a.2 ++ j.toList)) (s, [])
    let s := s.endRow x r fm
    let s := joins.foldl (fun (s : State) (j : Run × Bool) => s.join x r fm j.1 j.2) s
    { s with tracks := { s.tracks with markedFrom := none } }

/-! ### Wait, list and gather (R246, steps 3 to 5) -/

/-- Step 3: tracks that stay CLOSED since an earlier step wait; the limit gives a direct fallback decision. -/
def State.waitStep (s : State) (x : StepOf) : State :=
  (s.tracksIn .closed).foldl (fun s i =>
    let t := s.track i
    if t.fresh then s.setTrack i { t with fresh := false }
    else
      let s := s.setTrack i { t with wait := t.wait + 1 }
      if s.stripeReg x.stripe K.workListMaxWait ≤ t.wait + 1 then s.listWait x i else s) s

/-- Step 4: the work list (R253). -/
def State.listStep (s : State) (x : StepOf) : State :=
  let ids := (s.tracksIn .closed).mergeSort fun i j =>
    let a := s.track i
    let b := s.track j
    decide (a.trailing < b.trailing) || (a.trailing == b.trailing && decide (i ≤ j))
  let take := ids.take x.h.listLen
  let s := take.foldl (fun s i => s.setTrack i { s.track i with st := .listed }) s
  let list := take.map some ++ List.replicate (x.h.listLen - take.length) none
  let s := s.bump K.emptyListEntries (x.h.listLen - take.length)
  let bytes := (list.map fun e => match e with
    | some i =>
      let t := s.track i
      leBytes 2 i ++ leBytes 1 1 ++ leBytes 1 t.flags ++ leBytes 4 t.serial ++ leBytes 8 t.trailing
    | none => leBytes 2 0xFFFF ++ leBytes 14 0).flatten
  ({ s with tracks := { s.tracks with list } } : State).actWrite 0 x.h.listOff bytes

/-- A number as binary32. -/
def f32Nat (n : Nat) : Nat := f32OfRat n 1

/-- Step 5: the head input (R254). -/
def State.gatherStep (s : State) (x : StepOf) (batch : Nat) : State :=
  let (s, n) := s.tracks.list.zipIdx.foldl (fun (a : State × Tally) e =>
    let vals : List Nat := match e.1 with
      | some i =>
        let t := a.1.track i
        let f := SMap.get [] a.1.tracks.sums i
        ((List.range x.h.chans).map fun c => f32div (f.getD c 0) (f32Nat t.area)) ++
          (if x.h.geometry then [f32Nat t.rows, f32Nat (t.colMax + 1 - t.colMin), f32Nat t.area, f32Nat t.subst] else [])
      | none => List.replicate (x.h.chans + (if x.h.geometry then 4 else 0)) 0
    let chans := List.range vals.length
    let (s, n) := a.1.writeChans x.w e.2 0 chans vals a.2
    if (x.w.plan.tensor x.h.headIn 1 fun _ => true).isSome then
      ((s.writeChans { x.w with die := 1 } e.2 0 chans vals {}).1, n)
    else (s, n)) (s, {})
  s.tally x.w batch 0 n

/-- The track table and the feature sums as the CD0 store holds them (R244, R245). -/
def State.storeTable (s : State) (x : StepOf) : State :=
  (List.range x.h.capacity).foldl (fun s i =>
    let f := SMap.get [] s.tracks.sums i
    (s.actWrite 0 (x.h.tableOff + 64 * i) (s.track i).bytes).actWrite 0 (x.h.featureOff + i * x.h.chans * 4)
      (((List.range x.h.chans).map fun c => leBytes 4 (f.getD c 0)).flatten)) s

/-- The direct records of a step are written, up to the limit (R259): `old` of them were held before. -/
def State.writeDirect (s : State) (x : StepOf) (old : Nat) : State :=
  let lim := s.stripeReg x.stripe K.directRecordLimit
  let all := s.tracks.heldRecs
  let left := all.drop lim
  let s := { s with tracks := { s.tracks with heldRecs := left } }
  let s := s.bump K.directRecordsDeferred (min left.length (all.length - old))
  (all.take lim).foldl (fun s r => s.issueDecision r) s

/-- FallbackOrigin after a step (R416). -/
def State.originAfter (s : State) (x : StepOf) : Nat :=
  let a := s.tracks.table.foldl (fun m p => if p.2.st = .free then m else min m p.2.leading) (s.maskPos x x.rows)
  s.tracks.regions.foldl (fun m g => min m g.covered) a

/-- The track step of a stripe (R246, R255, R416); `last` says that it is the outgoing plan's last one (R233). -/
def State.trackStep (s : State) (w : Work) (batch : Nat) (last : Bool) : State :=
  let x := s.stepOf w
  let old := s.tracks.heldRecs.length
  let s := (s.tracksIn .listed).foldl (fun s i => s.freeTrack i) s
  let s := if w.stripe < w.start then s else (List.range x.rows).foldl (fun s r => s.maskRow x r) s
  let s := if last then s.endStream x (s.maskPos x x.rows) 8 else s
  let s := s.peak K.tracksPeak (s.openCount + s.closedCount)
  let s := (s.waitStep x).listStep x
  let s := if last then (s.tracksIn .closed).foldl (fun s i => s.listWait x i) s else s
  let s := ((s.gatherStep x batch).storeTable x).writeDirect x old
  { s with tracks := { s.tracks with cutNext := last, originMsg := s.tracks.originMsg ++ [s.originAfter x] } }

/-! ### The DecisionLayer (R256) -/

/-- The confidence of a probability (R256). -/
def confidence (p : Nat) : Nat :=
  match (f32 (f32mul (f32Nat 255) p)).toInt with
  | some i => (clampInt 0 255 i).toNat
  | none => 0

/-- The line whose stamp is a position, in the numbering of a stripe (R23). -/
def State.lineOf (s : State) (x : StepOf) (p : Nat) : Nat :=
  let era := x.stripe * x.w.plan.stripeLines / 2 ^ 64
  let g := s.geoOf era
  lineKey era (ceilDiv ((p - g.1) * 65536) (max 1 g.2))

/-- A record asks for a JPEG encode of its object's box (R118, R256). -/
def State.requestEncode (s : State) (x : StepOf) (i fire : Nat) (t : Track) : State :=
  let d := s.stripeReg x.stripe K.jpegHistoryScale
  let a := s.lineOf x t.leading
  let b := s.lineOf x t.trailing - 1
  let have' := (List.range (b / d + 1 - a / d)).all fun k => (SMap.find? s.pipe.history (a / d + k)).isSome
  if have' = false ∨ 32 ≤ s.pipe.encQueue.length then s.bump K.encodesSkipped
  else { s with pipe := { s.pipe with encQueue := s.pipe.encQueue ++
          [{ pos := fire, track := i, firstLine := a, lastLine := b, colLeft := t.colMin * x.cm
             colRight := t.colMax * x.cm + x.cm - 1 }] } }

/-- The layers of the head path that lead to a tensor: back to the gather, which is among them (R252); `n` bounds the depth. -/
def Plan.headLayers (p : Plan) : Nat → Nat → List Nat
  | 0, _ => []
  | n + 1, t => (p.layers.filter fun l => l.outT == t).flatMap fun l =>
      l.num :: if l.op = 8 then [] else p.headLayers n l.inT

/-- Whether the head input, a head layer or the DecisionLayer is aborted in a stripe, on either die (R252). -/
def State.headLost (s : State) (w : Work) : Bool :=
  let path := w.layer.num :: w.plan.headLayers (w.plan.layers.length + 1) w.layer.inT
  s.engine.aborted.any fun a => a.2.2 == w.stripe && path.contains a.2.1

/-- The decision over row `n` of the logits (R256). -/
def State.decideRow (s : State) (x : StepOf) (w : Work) (n : Nat) : State :=
  match s.tracks.list.getD n none with
  | none => s
  | some i =>
    let t := s.track i
    let j := x.stripe
    let tab := s.blob K.activationTables
    let row := s.rowValues w n 0
    let fallback := s.stripeReg j K.fallbackAction
    let lost := s.headLost w || s.rowMarked w.die w.layer.inT w.stripe n || s.rowMarked w.die w.layer.outT w.stripe n
    let c := (argMax row).1
    let conf := confidence ((softmax tab row).getD c 0)
    let deg := s.stripeReg j K.degradedAction
    let ovl := s.stripeReg j K.overlengthAction
    let (cls, cf, act) :=
      if bitOf t.flags 1 || lost then (0xF0, 0, fallback)
      else if nanRow row then (0xF2, 0, fallback)
      else if bitOf t.flags 0 && deg != 2 then (c, conf, deg)
      else if bitOf t.flags 2 && ovl != 2 then (c, conf, ovl)
      else if conf < s.stripeReg j (K.classMinConfidence c) then (c, conf, 0)
      else (c, conf, s.stripeReg j (K.classAction c) % 2)
    let image := decide (cls < 64) && bitOf (s.stripeReg j (K.classAction c)) 1 && act == 1
    let (s, r) := s.trackRec x t cls cf (act == 1) image
    let s := if image then s.requestEncode x i r.pos t else s
    s.issueDecision r

/-- The decisions over the rows of a kernel of the DecisionLayer, in work-list order (R256, R259). -/
def State.runDecisions (s : State) (w : Work) (k : Kernel) : State :=
  let x := s.stepOf w
  ((w.positions k.firstTile k.tiles).map fun p => p.1).eraseDups.foldl (fun s n => s.decideRow x w n) s

end Sys2Proof.Machine
end

