-- ==== Sys2Proof/Machine/Kernels.lean ====
section
/-! DEFINITION. Kernels: their start, with everything they compute, and their end, with the tag that followed them
(R135, R136, R140, R163, R164, R173, R192, R212, R219, R221, R324, R451 to R453). -/

namespace Sys2Proof.Machine

/-- Frozen cycles of a die in the running period. -/
def Period.frozenOn (p : Period) (die : Nat) : Nat := SMap.get 0 p.frozen die

/-- Whether a die is frozen (R135). -/
def State.isFrozen (s : State) (die : Nat) : Bool := SMap.get 0 s.engine.frozen die != 0

/-- The plan whose kernels a context runs now: context 0 runs the outgoing plan until its last period ends (R233). -/
def State.runPlan (s : State) (c : Nat) : Option Plan :=
  match s.engine.period with
  | some p => if c = 0 ∧ p.old = true then s.engine.old else (s.ctx c).plan
  | none => (s.ctx c).plan

/-- The stream start that a stripe of the running period belongs to (R184, R228): stripes before the first real one of a
stream belong to the start that follows them. -/
def State.startOf (s : State) (per : Period) (j : Nat) : Nat :=
  let own := s.pipe.stripes.filter fun p => decide (per.first ≤ p.1) && decide (p.1 < per.upto)
  let starts := (own.filter fun p => p.2.start).map (·.1)
  match (starts.filter fun k => decide (k ≤ j)).getLast? with
  | some k => k
  | none =>
    match own.head? with
    | some (k, st) => if j < k ∧ st.start = true then k else s.engine.start
    | none => s.engine.start

/-- The end of the stream that a period works on (R110, R185): real lines since its start, and whether a change of geometry
cut it; none while the stream runs. -/
def State.endOfStream (s : State) (per : Period) : Option (Nat × Bool) :=
  let own := s.pipe.stripes.filter fun p => decide (per.first ≤ p.1) && decide (p.1 < per.upto)
  match own.getLast?.bind fun p => p.2.endLines with
  | some n => some (n, true)
  | none => s.engine.flush.map fun f => (f.lines, false)

/-- A kernel that is to start: the work, whether its writes are masked as the outgoing plan's are, and its start cycle. -/
structure Ready where
  plan : Plan
  k : Kernel
  w : Work
  batch : Nat
  mute : Bool
  due : Nat
  from' : Nat                         -- cycle of the period's or the step's start
  deriving DecidableEq, Repr

/-- The slot in which a link's data for an entry are still on their way: the read that brings them (R135, R322). -/
def State.pendingRead (s : State) (e : MemEntry) : Option MReq :=
  (SMap.find? s.memory.links e.link).bind fun l => l.reads.find? fun r =>
    r.kind == e.kind && decide (e.chipOff ≤ r.dest) && decide (r.dest < e.chipOff + 150 * e.count)

/-- The fills of a kernel that have landed by its start (R134; log entry 26). -/
def State.landedFills (s : State) (p : Plan) (k : Kernel) : List Fill :=
  let d := max 1 (s.memHead p).2.1
  ((s.kernelEntries p k).filter fun e => e.kind == 1 && e.link % 16 / 8 == k.die && decide (e.landed ≤ k.start) &&
    (s.pendingRead e).isNone).map fun e =>
      { die := e.link / 16, off := dieOffset e.memOff d
        bytes := SMap.getList 0 s.engine.reel (k.die * 2 ^ 24 + e.chipOff) (150 * e.count) }

/-- The context under which the scale stores hold the plan that a context runs: 16 for the outgoing one (R233). -/
def State.scaleCtx (s : State) (c : Nat) : Nat :=
  if c = 0 ∧ (s.engine.period.any fun (x : Period) => x.old) = true then 16 else c

/-- A kernel of a context as it is placed (R221, R228, R237), whether or not it has run. -/
def State.kernelAt (s : State) (c n : Nat) : Option Ready :=
  match s.runPlan c with
  | none => none
  | some p =>
    match p.kernels[n]? with
    | none => none
    | some k =>
      let rerun := bitOf k.flags 2
      let mk := fun (stripe start : Nat) (stop : Option (Nat × Bool)) =>
        ({ plan := p, img := s.image p, memDies := (s.memHead p).2.1, reel := s.landedFills p k
           scales := SMap.get [] s.engine.scales (k.die * 32 + s.scaleCtx c), stripe, start, lines := stop.map fun x => x.1
           cut := (stop.map fun x => x.2).getD false, die := k.die, layer := p.layer k.layer, rerun } : Work)
      if c = 0 then
        match s.engine.period with
        | none => none
        | some per =>
          let stripe := per.first + k.batch
          if per.empty then none
          else some { plan := p, k, w := mk stripe (s.startOf per stripe) (s.endOfStream per), batch := k.batch
                      mute := per.old && decide (s.engine.oldLast ≤ stripe), due := per.start + k.start + per.frozenOn k.die
                      from' := per.start }
      else
        match (s.ctx c).run with
        | none => none
        | some r =>
          if k.step ≠ r.step then none
          else some { plan := p, k, w := mk (jobStripe c) (jobStripe c) none, batch := 0, mute := false, due := r.start + k.start
                      from' := r.start }

/-- Kernels of a context that have started. -/
def State.ranKernels (s : State) (c : Nat) : List Nat :=
  if c = 0 then (s.engine.period.map fun per => per.ran).getD [] else ((s.ctx c).run.map fun r => r.ran).getD []

/-- The kernel of a context that may start in cycle `cyc` (R221, R228, R237): none before its cycle, or when it has run. -/
def State.kernelReady (s : State) (c n cyc : Nat) : Option Ready :=
  (s.kernelAt c n).bind fun r =>
    if (s.ctx c).st ≠ .running ∨ s.isFrozen r.k.die = true ∨ (s.ranKernels c).contains n = true ∨ cyc < r.due then none
    else some r

/-! ### Freezes (R135 to R137) -/

/-- Whether image bytes of a slice at `o` are still on their way to a kernel. -/
def State.sliceLate (s : State) (r : Ready) (o : Nat) : Bool :=
  let d := max 1 r.w.memDies
  let x := dieOffset o d
  (s.kernelEntries r.plan r.k).any fun e => e.kind == 1 && e.link / 16 == o / 4096 % d && e.link % 16 / 8 == r.k.die &&
    (match s.pendingRead e with
      | some q =>
        let lo := dieOffset e.memOff d + (q.dest - e.chipOff)
        decide (lo < x + 64) && decide (x < lo + 150 * q.count)
      | none => false)

/-- Cycles of the reel reads of a kernel that name a block whose delivery has not landed (R135). -/
def State.lateReads (s : State) (r : Ready) : List Nat :=
  ((r.w.reelReads r.k).filter fun x => s.sliceLate r x.1).map fun x => r.due + (x.2 - r.k.start)

/-- Whether a kernel awaits an operand of a combination, or halo elements, from the other die, which has frozen more than its own
(R135, R191, R201): the kernel that sends them is placed no later and has not started. -/
def State.operandLate (s : State) (r : Ready) : Bool :=
  match s.engine.period with
  | none => false
  | some per =>
    let d := 1 - r.k.die
    let l := r.w.layer
    r.plan.cls == 0 && (s.isFrozen d || decide (per.frozenOn r.k.die < per.frozenOn d)) &&
      r.plan.kernels.zipIdx.any fun (x, i) =>
        let t := (r.plan.layer x.layer).outT
        x.die == d && x.batch == r.k.batch && decide (x.start ≤ r.k.start) && !per.ran.contains i &&
          ((l.comb.contains t && (r.plan.tensor t r.k.die (· == 2)).isNone) || (bitOf x.flags 1 && t == l.inT))

/-- The cycle from which a kernel's die must freeze, when that is no later than `cyc` (R135): at the first reel read, or, for
operands of the other die and for scratch bytes, at the kernel's start. -/
def State.starvedAt (s : State) (r : Ready) (cyc : Nat) : Option Nat :=
  let scratch := (s.kernelEntries r.plan r.k).any fun e => e.kind == 2 && (s.pendingRead e).isSome
  let at' := (if scratch || s.operandLate r then [r.due] else []) ++ s.lateReads r
  match at'.filter fun x => decide (x ≤ cyc) with
  | [] => none
  | x :: rest => some (rest.foldl min x)

/-- Key of an on-chip byte in the poison table: 0 a reel, 1 an activation store (R324). -/
def poisonKey (die kind off : Nat) : Nat := (2 * die + kind) * 2 ^ 27 + off

/-- Bytes of the stores that a kernel reads at its positions: first and length, as the poison table counts them (R182, R324). -/
def State.readRanges (s : State) (w : Work) (k : Kernel) : List (Nat × Nat) :=
  let l := w.layer
  let others := ((if l.residual || l.op == 3 then [l.second] else []) ++ l.comb).filter (· != 0xFFFF)
  let whole := fun (t : Tensor) => (poisonKey t.die 1 t.off, t.len)
  if l.op = 8 then
    let h := s.heads w.plan
    ((w.plan.tensors.filter fun t => t.num == h.mask || t.num == h.feature || t.num == l.inT).map whole)
  else
    (w.positions k.firstTile k.tiles).flatMap fun (row, col) =>
      ((w.sources row col).flatMap fun (y, x) =>
        let r := if w.stream then y - w.firstRow else y
        if r < 0 then []
        else match w.locate r.toNat x with
          | some (d, b, t, r, c) => (List.range (ceilDiv t.chans (layoutBlock t.layout))).map fun blk =>
              (poisonKey d 1 (t.addr b r c (blk * layoutBlock t.layout)), layoutBlock t.layout * layoutBytes t.layout)
          | none => []) ++
      others.flatMap fun n => (w.plan.tensors.filter fun t => t.num == n).flatMap fun t =>
        let (r, c) := if t.rows = 1 ∧ t.width = 1 then (0, 0) else (row, col)
        (List.range (ceilDiv t.chans (layoutBlock t.layout))).map fun blk =>
          (poisonKey t.die 1 (t.addr t.off r c (blk * layoutBlock t.layout)), layoutBlock t.layout * layoutBytes t.layout)

/-- Whether a kernel reads a poisoned byte (R324): in the reel or in a store. -/
def State.poisoned (s : State) (w : Work) (k : Kernel) : Bool :=
  if s.memory.poison = [] then false
  else
    let reel := ((s.kernelEntries w.plan k).filter fun e => e.kind == 1).map fun e => (poisonKey w.die 0 e.chipOff, 150 * e.count)
    let all := reel ++ s.readRanges w k
    s.memory.poison.any fun b => all.any fun x => decide (x.1 ≤ b.1) && decide (b.1 < x.1 + x.2)

/-- A die freezes from a cycle on (R135, R137, R409) for kernel `n` of context `c`, as a command of cycle `cyc` shows it. -/
def State.freeze (s : State) (die c n at' cyc : Nat) : State :=
  if s.isFrozen die then s
  else { s.bump (K.freezeRuns die) with
    engine := { s.engine with
      frozen := SMap.set 0 s.engine.frozen die (at' + 1)
      frozenCtx := SMap.set 0 s.engine.frozenCtx die c
      starving := SMap.put (SMap.erase s.engine.starving die) die (c, n) }
    faults := { s.faults with freezeAt := SMap.set 0 s.faults.freezeAt die (s.tick + 1 - (cyc - at') * 250 / s.engine.cclk) } }

/-- Kernels that run on a die: their contexts and numbers. -/
def State.runningOn (s : State) (d : Nat) : List (Nat × Nat) :=
  (List.range 16).flatMap fun c => ((s.ranKernels c).filter fun n =>
    !(c == 0 && (s.engine.period.any fun per => per.done.contains n)) &&
      ((s.kernelAt c n).any fun r => r.k.die == d)).map fun n => (c, n)

/-- By cycle `cyc` every die has frozen on which a running kernel met bytes that have not landed (R135). -/
def State.feed (s : State) (cyc : Nat) : State :=
  [0, 1].foldl (fun (s : State) d =>
    if s.isFrozen d then s
    else
      let late := (s.runningOn d).filterMap fun (c, n) =>
        ((s.kernelAt c n).bind fun r => s.starvedAt r cyc).map fun x => (x, c, n)
      match late with
      | [] => s
      | a :: rest =>
        let (x, c, n) := rest.foldl (fun a b => if b.1 < a.1 then b else a) a
        s.freeze d c n x cyc) s

/-- A freeze ends when its cause has cleared (R135, R136): the bytes or the operands have arrived. -/
def State.settleFreeze (s : State) (d : Nat) : State :=
  match SMap.find? s.engine.starving d with
  | none => s
  | some (c, n) =>
    match s.kernelAt c n with
    | some r => if (s.starvedAt r (SMap.get 0 s.engine.frozen d - 1)).isSome then s else s.unfreeze d
    | none => s.unfreeze d

/-! ### Aborted layers -/

/-- Position of the stripe of a work, as a LAYER fault carries it (R405). -/
def State.workPos (s : State) (w : Work) : Option Nat :=
  if w.plan.cls = 0 then some (s.lineStamp (w.stripe * w.plan.stripeLines)) else none

/-- A layer is aborted with a fault of scope LAYER (R140, R164, R192, R212). -/
def State.layerFault (s : State) (w : Work) (c code detail : Nat) : State :=
  (s.abortLayer w).report code (Unit.engine + w.die) detail .layer c (s.workPos w)

/-- Mismatches that the check columns declare (R139, R140): each aborts, counts and is recorded. -/
def State.checkArrays (s : State) (w : Work) (k : Kernel) (c : Nat) : State :=
  (s.mismatches w k).foldl (fun s n =>
    let s := (s.bump (K.checkMismatches w.die)).count w.die 0x0105 1 1 c
    let s := s.layerFault w c FCode.arrayCheck (w.die * 128 + n + 2 ^ 32 * w.layer.num)
    s.arrayMiss w.die n (if w.plan.cls = 0 then w.stripe else s.engine.nextPeriod)) s

/-- A scale skew (R164): it counts once for a layer and stripe on a die, and has one record for the layer and stripe. -/
def State.skewFound (s : State) (w : Work) (c arr : Nat) (k : Skew) : State :=
  let key := (w.die, w.layer.num, w.stripe)
  if s.engine.skewed.contains key then s.abortLayer w
  else
    let again := s.engine.skewed.contains (1 - w.die, w.layer.num, w.stripe)
    let s := (s.bump (K.scaleSkewFaults w.die)).setReg (K.lastSkewLayer w.die) w.layer.num
    let s := { s with engine := { s.engine with skewed := s.engine.skewed ++ [key] } }
    if again then s.abortLayer w
    else s.layerFault w c FCode.scaleSkew
      (arr + 256 * k.expected + 65536 * k.tag + 2 ^ 24 * k.kind + 2 ^ 32 * w.layer.num)

/-- The scale skew that the vector unit finds first in a kernel (R162, R163): in the records it dequantises from, then in those
that it quantises under. -/
def State.unitSkew (s : State) (w : Work) (k : Kernel) : Option Skew :=
  let l := w.layer
  let all := fun (t : Nat) => List.range (w.chans t)
  if l.op = 1 ∨ l.mac = true then
    if l.hasForm = false then none
    else
      let chans := if l.op = 1 then w.groupChans k.outGroup else List.range l.cOut
      (w.vectorSkew chans (l.mac || w.mode != 2)) <|> (if l.residual then s.valueSkew w l.second chans else none)
  else if l.op = 3 then
    (s.valueSkew w l.inT (all l.inT)) <|> (s.valueSkew w l.second (all l.second)) <|> (w.vectorSkew (all l.outT) false)
  else if l.op = 4 then (s.valueSkew w l.inT (all l.inT)) <|> (w.vectorSkew (all l.outT) false)
  else if l.op = 5 then (s.valueSkew w l.inT (List.range l.rowLen)) <|> (w.vectorSkew (List.range l.rowLen) false)
  else if l.op = 6 then s.valueSkew w l.inT (List.range l.rowLen)
  else if l.op = 7 then s.valueSkew w l.inT (all l.inT)
  else if l.op = 8 then
    (s.valueSkew w (s.heads w.plan).feature (List.range (s.heads w.plan).chans)) <|> (w.vectorSkew (all l.outT) false)
  else none

/-- The scale records that a kernel reads are checked (R162, R163). -/
def State.checkScales (s : State) (w : Work) (k : Kernel) (c : Nat) : State :=
  match w.sliceSkew k.outGroup with
  | some x => s.skewFound w c (s.lowestArray w.die k.unit) x
  | none => match s.unitSkew w k with
    | some x => s.skewFound w c 0xFF x
    | none => s

/-- The vector unit that a kernel's values pass: V_k serves quads 3k to 3k + 2 (R199). -/
def Kernel.vector (k : Kernel) : Nat := if k.unit ≤ 11 then k.unit / 3 else k.unit - 16

/-- The adds of a kernel's vector unit whose residue modulo 3 does not fit (R212). -/
def State.checkAdds (s : State) (w : Work) (k : Kernel) (c : Nat) : State :=
  if w.checksAdds = false then s
  else
    let pos := w.positions k.firstTile k.tiles
    (w.obs.adds.filter fun e => e.err % 3 != 0 && pos.contains (e.row, e.col)).foldl (fun s _ =>
      (s.bump (K.vectorCheckMismatches w.die)).layerFault w c FCode.vectorCheck
        (0xFF + 256 * (128 * w.die + k.vector) + 2 ^ 32 * w.layer.num)) s

/-- A line-buffer row takes a parity error, which it keeps until the ring overwrites it; a kernel that reads such a row aborts its
layer (R192). -/
def State.checkParity (s : State) (w : Work) (k : Kernel) (c : Nat) : State :=
  let s := match w.obs.parity with
    | some (row, bank) =>
      if w.stream then
        { s with engine := { s.engine with parity := SMap.set 0 s.engine.parity (w.carryKey row) (1 + bank) } }
      else s
    | none => s
  if w.layer.windowed then
    let rows := ((w.positions k.firstTile k.tiles).flatMap fun p => (w.sources p.1 p.2).map fun x => x.1).eraseDups
    let hits := rows.filterMap fun (y : Int) =>
      if w.stream then (if 0 ≤ y then SMap.find? s.engine.parity (w.carryKey y.toNat) else none)
      else match w.obs.parity with
        | some (row, bank) => if y = row then some (1 + bank) else none
        | none => none
    match hits with
    | [] => s
    | b :: _ => (s.bump (K.lineBufferParityErrors w.die)).layerFault w c FCode.lineBufferParity
        (w.die + 256 * ((b - 1) % 32) + 2 ^ 32 * w.layer.num)
  else s

/-- The checks of a die while a kernel runs (R139, R163, R192, R212). -/
def State.checkKernel (s : State) (w : Work) (k : Kernel) (c : Nat) : State :=
  (((s.checkArrays w k c).checkScales w k c).checkAdds w k c).checkParity w k c

/-- A kernel reads a poisoned byte (R324): a real-time layer is aborted; a background job is lost with JOB_POISONED. -/
def State.takePoison (s : State) (w : Work) (k : Kernel) (c : Nat) : State :=
  if s.poisoned w k then
    if w.plan.cls = 0 then s.abortLayer w
    else
      let x := s.ctx c
      match x.jobs with
      | [] => s
      | j :: rest =>
        if j.poisoned then s
        else
          (s.setCtx c { x with jobs := { j with poisoned := true } :: rest }).report FCode.jobPoisoned (Unit.engine + w.die)
            (k.step + 65536 * j.tag) .job c
  else s

/-! ### Tagged kernels (R451 to R453) -/

/-- One step of the Galois LFSR x^32 + x^22 + x^2 + x + 1 (R451; log entry 36). -/
def lfsrStep (v : Nat) : Nat := if v % 2 = 1 then (v / 2) ^^^ 0x80200003 else v / 2

/-- Cycles from a kernel's start to its first row entry or front-end word, and to its first write, without freezes (R126,
R128, R189, R202; log entry 37); none where the spec places no stage. -/
def Work.stages (w : Work) (k : Kernel) : Nat × Option Nat :=
  let l := w.layer
  let win := if l.windowed then 9 else 0
  if l.op = 1 then
    let load := if w.mode = 1 then 128 else 64
    let m := if w.mode = 2 then 2 else 1
    let kk := (w.groupChans k.outGroup).length
    let p := ceilDiv l.redLen w.perPass
    let n := w.plan.outXform l.outT
    let row := win + load
    (row, some (row + (p - 1) * max (kk * m) load + (kk - 1) * m + (if w.mode = 2 then 12 else 8) + 16 +
      (if n = 0 then 0 else 2 * n + 2 * n.log2)))
  else if l.mac then
    -- the taps of the first word's positions, each held for m cycles, then one cycle into the epilogue (R202, R206)
    if l.wOp = 3 then (win, some (win + (l.kh * l.kw - 1) * max 1 (l.cOut / max 1 l.cIn) + 1 + 15)) else (win, none)
  else (win, none)

/-- A kernel start advances the die's LFSR and may tag the kernel (R451). -/
def State.tagKernel (s : State) (r : Ready) (c n cyc : Nat) (noRow noWrite : Bool) : State :=
  let d := r.k.die
  let unitBit := r.k.unit
  if s.flag K.sampleEnable ∧ bitOf (s.reg K.sampleUnitMask) unitBit = true ∧ bitOf (s.reg K.sampleContextMask) c = true then
    let v := lfsrStep (SMap.get 1 s.perf.lfsr d)
    let s := { s with perf := { s.perf with lfsr := SMap.set 1 s.perf.lfsr d v } }
    if v % 2 ^ s.reg K.sampleInterval ≠ 0 then s
    else if (SMap.find? s.perf.tags d).isSome then s.bump K.samplesDropped
    else
      let (row, wr) := r.w.stages r.k
      let (late, s) := s.takeFree
      let t : TagRun :=
        { layer := r.k.layer, unit := 128 * d + r.k.unit, ctx := c, planned := r.k.start, actual := cyc - r.from'
          toRow := if noRow then 0xFFFF else row
          toWrite := if noWrite then 0xFFFF else wr.getD (late % 65535)
          kernel := n
          maxLag := ((s.kernelEntries r.plan r.k).map fun e => (SMap.get {} s.memory.links e.link).lag).foldl max 0
          flags := bitNat (bitOf r.k.flags 2) + 2 * bitNat (s.isAborted r.w)
          pos := (s.workPos { r.w with stripe := r.w.stripe - r.batch }).getD 0 }
      { s with perf := { s.perf with tags := SMap.put s.perf.tags d t } }
  else s

/-- Writes the sample of a tag (R452, R453). -/
def State.writeSample (s : State) (d : Nat) : State :=
  match SMap.find? s.perf.tags d with
  | none => s
  | some t =>
    let s := { s with perf := { s.perf with tags := SMap.erase s.perf.tags d } }
    let s := s.bump K.samplesTaken
    let num := s.reg K.samplesTaken
    let e := leBytes 4 num ++ leBytes 2 t.layer ++ leBytes 1 t.unit ++ leBytes 1 t.ctx ++ leBytes 4 t.planned ++
      leBytes 4 t.actual ++ leBytes 2 (min t.toRow 0xFFFF) ++ leBytes 2 (min t.toWrite 0xFFFF) ++
      leBytes 4 t.frozen ++ leBytes 4 t.kernel ++ leBytes 1 (min 255 t.maxLag) ++
      leBytes 1 t.flags ++ leBytes 2 0
    let full := decide (256 ≤ s.perf.log.length)
    let s := { s with perf := { s.perf with log := (if full then s.perf.log.drop 1 else s.perf.log) ++ [e] } }
    let s := if full then s.overwrote 4 else s
    let payload := num + 2 ^ 32 * t.layer + 2 ^ 48 * t.unit + 2 ^ 56 * t.flags
    s.emit (if t.ctx = 0 then s.recPos RType.counterSample Unit.counters t.pos payload 0
            else s.recAt RType.counterSample Unit.counters payload t.ctx)

/-! ### KERNEL_START and KERNEL_END -/

/-- Marks a kernel as started. -/
def State.noteStart (s : State) (c n : Nat) : State :=
  if c = 0 then
    match s.engine.period with
    | some p => { s with engine := { s.engine with period := some { p with ran := p.ran ++ [n] } } }
    | none => s
  else
    let x := s.ctx c
    s.setCtx c { x with run := x.run.map fun (r : StepRun) => { r with ran := r.ran ++ [n] } }

/-- A HALO_SEND kernel sends the elements of its tiles into the halo region of the other die (R191; log entry 28). -/
def State.sendHalo (s : State) (w : Work) (k : Kernel) : State :=
  let recs := w.plan.tensors.filter fun t => t.num == w.layer.outT && t.die == w.die
  let new := recs.flatMap fun t => (w.positions k.firstTile k.tiles).map fun (r, c) =>
    ({ die := 1 - w.die, plan := w.plan.slot, tensor := t.num, layout := t.layout, stripe := w.stripe, row := w.origin.1 + r
       col := w.origin.2 + c, vals := (List.range t.chans).map fun ch => s.elem t t.die t.off r c ch } : HaloElem)
  { s with engine := { s.engine with halo := (s.engine.halo.filter fun h => !new.any fun x => { x with vals := h.vals } == h) ++ new } }

/-- What a kernel computes (R126 to R131, R172, R201, R233, R246, R256). A kernel of an array layer on a vector unit only sends
(R191). -/
def State.computeKernel (s : State) (r : Ready) (c : Nat) (mute : Bool) : State :=
  let w := r.w
  let s := if w.stream then
      let s := if w.rerun then s else s.saveCarry { w with rerun := false }
      if w.layer.rerun ∧ w.rerun = false then s.saveCarry { w with rerun := true } else s
    else s
  if w.layer.op = 8 then
    let last := match s.engine.period with
      | some p => p.old && w.stripe + 1 == s.engine.oldLast
      | none => false
    if r.mute then s else s.trackStep w r.batch last
  else
    let s := if w.layer.op = 1 ∧ 11 < r.k.unit then s else s.runWork w r.k r.batch c mute
    let s := if bitOf r.k.flags 1 && !mute then s.sendHalo w r.k else s
    if w.layer.decision ∧ r.mute = false then s.runDecisions w r.k else s

/-- A kernel starts (R221): a starved die freezes instead, and an operand that the other die awaits goes out (R135); a re-run that was not decided keeps its slot and writes
nothing (R172). -/
def State.kernelGo (s : State) (c n cyc : Nat) (obs : KernelObs) : State :=
  match s.kernelReady c n cyc with
  | none => s
  | some r =>
    match s.starvedAt r cyc with
    | some x => s.freeze r.k.die c n x cyc
    | none =>
      let w := { r.w with obs }
      let r := { r with w }
      let s := s.noteStart c n
      if bitOf r.k.flags 2 && !s.engine.rerun.contains (r.k.layer, w.stripe) then
        (s.tagKernel r c n cyc true true).settleFreeze (1 - r.k.die)
      else
        let send := w.layer.op == 1 && decide (11 < r.k.unit)
        let s := if send then s else (s.checkKernel w r.k c).takePoison w r.k c
        let mute := r.mute || s.isAborted w
        let s := s.tagKernel r c n cyc send mute
        let s := if send then s else s.countKernel w r.k r.due c
        (s.computeKernel r c mute).settleFreeze (1 - r.k.die)

/-- The kernel of a context with that number, its cycle of the end, and whether it has started. -/
def State.kernelEnds (s : State) (c n : Nat) : Option (Plan × Kernel × Nat × Bool) :=
  match s.runPlan c with
  | none => none
  | some p =>
    match p.kernels[n]?, c, s.engine.period, (s.ctx c).run with
    | some k, 0, some per, _ => some (p, k, per.start + k.start + k.cycles + per.frozenOn k.die, per.ran.contains n && !per.done.contains n)
    | some k, _ + 1, _, some r => some (p, k, r.start + k.start + k.cycles, r.ran.contains n)
    | _, _, _, _ => none

/-- A kernel's last cycle (R219, R452): its sample is written, and with the last RELEASE_STRIPE kernel of a stripe the
stripe's buffer is free. -/
def State.kernelStop (s : State) (c n cyc : Nat) : State :=
  match s.kernelEnds c n with
  | none => s
  | some (p, k, due, started) =>
    if started = false ∨ cyc < due ∨ s.isFrozen k.die = true then s
    else
      let s := match SMap.find? s.perf.tags k.die with
        | some t => if t.kernel = n ∧ t.ctx = c then s.writeSample k.die else s
        | none => s
      if c ≠ 0 then s
      else match s.engine.period with
        | none => s
        | some per =>
          let per := { per with done := per.done ++ [n] }
          let rel := (List.range p.kernels.length).filter fun i =>
            match p.kernels[i]? with
            | some x => bitOf x.flags 0 && x.batch == k.batch
            | none => false
          let free := bitOf k.flags 0 && rel.all fun i => per.done.contains i
          { s with engine := { s.engine with
              period := some per
              heldBufs := if free then s.engine.heldBufs.filter (fun b => b.2 != per.first + k.batch) else s.engine.heldBufs } }

/-- KERNEL_START and KERNEL_END: what has starved by their cycle has frozen first (R135). -/
def State.startKernel (s : State) (c n cyc : Nat) (obs : KernelObs) : State := (s.feed cyc).kernelGo c n cyc obs
def State.endKernel (s : State) (c n cyc : Nat) : State := (s.feed cyc).kernelStop c n cyc

/-- KERNEL_START (R221). -/
def execKernelStart (ctx kernel cyc : Nat) (obs : KernelObs) (s : State) : Host.Outcome State Fault Refusal :=
  guardUnit (decide (ctx < 16)) ctx (s.startKernel ctx kernel cyc obs)

/-- KERNEL_END (R452). -/
def execKernelEnd (ctx kernel cyc : Nat) (s : State) : Host.Outcome State Fault Refusal :=
  guardUnit (decide (ctx < 16)) ctx (s.endKernel ctx kernel cyc)

end Sys2Proof.Machine
end

