-- ==== Sys2Proof/Machine/PlanKnots.lean ====
section
/-! DEFINITION. Knots in plans: the KNOTS section, the waits and signals of steps, the actions of a real-time plan, and
what an operation on another member's knot sends (R336, R342 to R345, R354). -/

namespace Sys2Proof.Machine

/-! ### The KNOTS section (R343) -/

/-- An init entry: its offset in the context's range, INIT_ON_START, and its value. -/
structure KnotInit where
  off : Nat
  onStart : Bool
  value : Int
  resv : Bool
  deriving DecidableEq, Repr

def parseKnotInit (b : List Byte) (o : Nat) : KnotInit :=
  { off := leAt b o 2, onStart := bitOf (leAt b (o + 2) 1) 0, value := signed 32 (leAt b (o + 4) 4)
    resv := decide (1 < leAt b (o + 2) 1) || leAt b (o + 3) 1 != 0 }

def parseKnotAct (b : List Byte) (o : Nat) : KnotAct :=
  { cycle := leAt b o 4, step := leAt b (o + 4) 2, kind := leAt b (o + 6) 1, flags := leAt b (o + 7) 1
    knot := leAt b (o + 8) 2, member := leAt b (o + 10) 1, die := leAt b (o + 11) 1, value := leAt b (o + 12) 4 }

/-- The init entries of a plan's KNOTS section in an image. -/
def Plan.knotInits (p : Plan) (b : List Byte) : List KnotInit :=
  match p.sec 0x0C with
  | none => []
  | some x => (List.range (leAt b x.off 4)).map fun i => parseKnotInit b (x.off + 16 + 8 * i)

/-- The action entries of a plan's KNOTS section in an image. -/
def Plan.knotActs (p : Plan) (b : List Byte) : List KnotAct :=
  match p.sec 0x0C with
  | none => []
  | some x => (List.range (leAt b (x.off + 4) 4)).map fun i => parseKnotAct b (x.off + 16 + 8 * leAt b x.off 4 + 16 * i)

/-- A context's whole range is initialised with a plan's values (R336), and the waiters on it are evaluated (R340). -/
def State.initKnotsOf (s : State) (c : Nat) (p : Plan) : State :=
  let s := s.initRange c ((p.knotInits (s.image p)).foldl (fun m i => SMap.set 0 m i.off i.value) [])
  ((s.knots.waiters.map (·.knot)).eraseDups.filter (s.inRange c)).foldl (fun s k => s.evalWaiters k) s

/-- What a plan that comes into force for a context finds: its knots and its scale records (R132, R336). -/
def State.bindPlan (s : State) (c : Nat) (p : Plan) : State := (s.initKnotsOf c p).fillScales c p

/-- The knots with INIT_ON_START are initialised as a context restarts (R345). -/
def State.restartKnots (s : State) (c : Nat) : State :=
  match (s.ctx c).plan with
  | none => s
  | some p =>
    ((p.knotInits (s.image p)).filter fun i => i.onStart && decide (i.off < s.reg (K.knotCount c))).foldl
      (fun s i => (s.initKnot (s.reg (K.knotBase c) + i.off) i.value).evalWaiters (s.reg (K.knotBase c) + i.off)) s

/-! ### Operations on other members (R354) -/

/-- Sends a knot operation to another member: none when its result is to come, else the status at once. A member that is
lost, or that no route leads to, answers MEMBER_LOST (R355; log entry 38). -/
def State.remoteKnot (s : State) (c : Nat) (i : Issuer) (m : Nat) (body : List Byte) : Option Nat × State :=
  if s.knots.group.lost.contains m ∨ 4 ≤ s.reg (K.routeTable m) then (some Status.memberLost, s)
  else
    let tag := s.knots.nextTag
    let s := { s with knots := { s.knots with
      nextTag := (tag + 1) % 2 ^ 32
      requests := s.knots.requests ++ [({ tag, member := m, issuer := i, ctx := c, typ := 0x05, knot := leAt body 4 2, value := leAt body 8 4 } : TReq)] } }
    (none, s.sendTo m 0x05 c (bitOf (leAt body 1 1) 1) (leAt body 0 4) (leAt body 8 4)
      (fitBytes 24 body ++ leBytes 4 tag ++ leBytes 4 0))

/-- The 24-byte body of a knot command (R339). -/
def knotBody (op : Nat) (subtract fence : Bool) (member knot value timeout : Nat) : List Byte :=
  leBytes 1 op ++ leBytes 1 (bitNat subtract + 2 * bitNat fence + 4) ++ leBytes 1 member ++ leBytes 1 0 ++
    leBytes 2 knot ++ leBytes 2 0 ++ leBytes 4 value ++ leBytes 4 timeout ++ leBytes 8 0

/-! ### Plan actions (R343, R344) -/

/-- An operation of a plan that was refused or saturated: it never stops the plan (R344, R360). -/
def State.opRefused (s : State) (c knot value st : Nat) : State :=
  if st = Status.ok then s
  else (s.bump K.knotOpsRefused).emit
    (s.recAt RType.knotRefused Unit.knots (knot + 65536 * st + 2 ^ 32 * value) c)

/-- An action that was refused or saturated (R344). -/
def State.actRefused (s : State) (c : Nat) (a : KnotAct) (st : Nat) : State := s.opRefused c a.knot a.value st

/-- Flags of an action. -/
def KnotAct.fence (a : KnotAct) : Bool := bitOf a.flags 0
def KnotAct.remote (a : KnotAct) : Bool := bitOf a.flags 1
def KnotAct.subtract (a : KnotAct) : Bool := bitOf a.flags 2

/-- A signal of a plan reaches the store, or leaves for its member (R338, R344). -/
def State.signalAct (s : State) (c : Nat) (i : Issuer) (a : KnotAct) : State :=
  let sub := a.kind == 2
  if a.remote then
    match s.remoteKnot c i a.member (knotBody (if sub then 0x51 else 0x50) false a.fence a.member a.knot a.value 0) with
    | (some st, s) => s.actRefused c a st
    | (none, s) => s
  else
    let (st, s) := s.knotAdd a.knot a.value c sub
    s.actRefused c a st

/-- The waits of a step are placed when it becomes its context's next one (R343). A refused wait holds nothing (R344). -/
def State.placeWaits (s : State) (c n : Nat) : State :=
  match (s.ctx c).plan with
  | none => s
  | some p =>
    ((p.knotActs (s.image p)).filter fun a => a.kind == 3 && a.step == n).foldl (fun s a =>
      let i := Issuer.step c n
      let (r, s) := if a.remote then
          s.remoteKnot c i a.member (knotBody 0x52 a.subtract a.fence a.member a.knot a.value 0)
        else s.knotWaitOp a.knot a.value c a.subtract 0 i
      match r with
      | some st => s.actRefused c a st
      | none => s) s

/-- Whether a wait of a step is not released (R343). -/
def State.stepWaits (s : State) (c n : Nat) : Bool :=
  (s.knots.waiters.any fun w => w.issuer == .step c n) || s.knots.requests.any fun r => r.issuer == .step c n

/-- The next step of a context's running job is prepared (R237, R343). -/
def State.prepareStep (s : State) (c : Nat) : State :=
  match (s.ctx c).plan, (s.ctx c).jobs with
  | some p, _ :: _ =>
    match p.steps[(s.ctx c).nextStep]? with
    | some n => s.placeWaits c n
    | none => s
  | _, _ => s

/-- The cycle from which the writes that a plan places in slots are visible (R313, R342): eight slots after the last
one's, the lag of its link included. `base` is the cycle of slot 0, `upTo` the cycle before which they are placed. -/
def State.fenceCycle (s : State) (es : List MemEntry) (base upTo : Nat) : Nat :=
  (es.filter fun e => e.kind == 3 && decide (base + 16 * e.start < upTo)).foldl (fun m e =>
    max m (base + 16 * (e.dataEnd + 7 + (SMap.get {} s.memory.links e.link).lag))) 0

/-- The signals of a step are issued when it ends (R343); those with FENCE wait for the step's writes. -/
def State.endSignals (s : State) (c n base cyc : Nat) : State :=
  match (s.ctx c).plan with
  | none => s
  | some p =>
    let es := ((p.kernels.filter fun k => k.step == n).map fun k => s.kernelEntries p k).flatten
    ((p.knotActs (s.image p)).filter fun a => a.kind == 4 && a.step == n).foldl (fun s a =>
      let due := if a.fence then s.fenceCycle es base cyc else 0
      if due ≤ cyc then s.signalAct c (.step c n) a
      else { s with knots := { s.knots with held := s.knots.held ++ [({ ctx := c, due, act := a } : HeldAction)] } }) s

/-- Signals whose fence has released are issued, in issue order (R344). -/
def State.releaseHeld (s : State) (cyc : Nat) : State :=
  let go := s.knots.held.filter fun h => decide (h.due ≤ cyc)
  if go = [] then s
  else
    let s := { s with knots := { s.knots with held := s.knots.held.filter (fun h => decide (cyc < h.due)) } }
    go.foldl (fun s h => s.signalAct h.ctx (if h.ctx = 0 then .plan 0 h.act.die else .step h.ctx h.act.step) h.act) s

/-- A real-time plan's action is issued at its cycle; with FENCE it is held on its die until the fence releases (R344). -/
def State.planAction (s : State) (n cyc : Nat) : State :=
  match s.engine.period, s.runPlan 0 with
  | some per, some p =>
    match (p.knotActs (s.image p))[n]? with
    | none => s
    | some a =>
      let at' := per.start + a.cycle + per.frozenOn a.die
      let due := if a.fence then s.fenceCycle (s.memEntries p) (per.start + per.frozenOn a.die) at' else at'
      if per.empty ∨ per.acted.contains n ∨ cyc < at' ∨ s.isFrozen a.die = true then s
      else
        let s := { s with engine := { s.engine with period := some { per with acted := per.acted ++ [n] } } }
        if due ≤ cyc then s.signalAct 0 (.plan 0 a.die) a
        else { s with knots := { s.knots with held := s.knots.held ++ [({ ctx := 0, due, act := a } : HeldAction)] } }
  | _, _ => s

/-- PLAN_KNOT_ACTION (R344). -/
def execPlanKnotAction (action cyc : Nat) (s : State) : Host.Outcome State Fault Refusal := .next (s.planAction action cyc)

end Sys2Proof.Machine
end

