-- ==== Sys2Proof/Machine/Periods.lean ====
section
/-! DEFINITION. Running the plans: periods, empty periods, slots, flushes, and the steps of background contexts (R170,
R171, R184, R222, R228 to R238, R410). -/

namespace Sys2Proof.Machine

/-! ### The next period (R228, R232, R233) -/

/-- A period that may start: its plan, its first stripe, the stripe after its last one with an image, whether it belongs
to the outgoing plan, and its due cycle where it has one. -/
structure NextPeriod where
  plan : Plan
  first : Nat
  upto : Nat
  old : Bool
  flush : Bool
  due : Option Nat
  deriving DecidableEq, Repr

/-- The stripes from `first` below `upto` are all ready: the cycle at which the last of them was. -/
def State.readyBy (s : State) (first upto : Nat) : Option Nat :=
  let own := s.pipe.stripes.filter fun p => decide (first ≤ p.1) && decide (p.1 < upto)
  if own.all fun p => p.2.ready then some (own.foldl (fun m p => max m p.2.readyCyc) 0) else none

/-- A flush period without an image of its own (R232). -/
def State.flushPeriod (s : State) (f : FlushRun) : Option NextPeriod :=
  (s.planOf f.stripe).map fun p =>
    { plan := p, first := p.periodFirst f.stripe, upto := f.stripe, flush := true, due := none
      old := s.engine.old.isSome && decide (f.stripe < s.engine.oldLast) }

/-- The next period that is due (R228), with the stripes of a flush and of an outgoing plan (R232, R233). -/
def State.nextDue (s : State) : Option NextPeriod :=
  match s.pipe.stripes, s.engine.flush with
  | [], none => none
  | [], some f => s.flushPeriod f
  | (j, _) :: _, fl =>
    let past := match fl with
      | some f => decide (f.stripe ≤ j)
      | none => false
    if past then fl.bind fun f => s.flushPeriod f
    else
      (s.planOf j).bind fun p =>
        let b := max 1 p.batch
        let first := p.periodFirst j
        let old := s.engine.old.isSome && decide (j < s.engine.oldLast)
        let upto := if old then min (first + b) s.engine.oldLast else first + b
        let (upto, cut) := match fl with
          | some f => (min upto f.stripe, decide (f.stripe < upto))
          | none => (upto, false)
        -- a stripe of an earlier numbering that has not begun never will (R31)
        let cut := cut || (decide (upto * p.stripeLines ≤ lineKey s.belt.era 0) && (SMap.find? s.pipe.stripes (upto - 1)).isNone)
        if (SMap.find? s.pipe.stripes (upto - 1)).isNone && !cut then none
        else (s.readyBy first upto).map fun due => { plan := p, first, upto, old, flush := cut, due := some due }

/-- Whether context 0 may run a period: its device in RUN, its plan in force or outgoing, its group formed (R352, R427). -/
def State.mayRun (s : State) : Bool :=
  s.power.st == .run && s.power.trans.isNone && s.power.clock.isNone && s.engine.period.isNone && !s.supplies.inReset &&
    s.faults.recovery.isNone &&
    ((s.ctx 0).st == .idle || (s.ctx 0).st == .ready || ((s.ctx 0).st == .empty && s.engine.old.isSome)) &&
    (!(s.isGroupCtx 0) || s.knots.group.st == .formed)

/-! ### PERIOD_START and EMPTY_PERIOD -/

/-- A stream start reaches the dies (R184): the carry regions hold no rows. -/
def State.streamStarts (s : State) (n : NextPeriod) : State :=
  let own := s.pipe.stripes.filter fun p => decide (n.first ≤ p.1) && decide (p.1 < n.upto)
  let starts := own.filter fun p => p.2.start
  if starts = [] then s
  else
    let s := (List.range 2).foldl (fun s d =>
      if n.plan.layers.any fun l => l.windowed && !l.bounded && bitOf l.dieMask d then s.bump (K.streamStarts d) starts.length
      else s) s
    match own with
    | (_, st) :: _ => if st.start then { s with engine := { s.engine with lineBuf := [], parity := [] } } else s
    | [] => s

/-- The state in which a context 0 runs. -/
def State.runZero (s : State) (p : Period) : State :=
  let s := s.setCtx 0 { s.ctx 0 with st := .running }
  ({ s with
      engine := { s.engine with
        period := some p, clip := [], rerun := [], active := [], lanes := [], openTo := [], openEnd := [], unbound := false }
      memory := { s.memory with slotBase := p.start, newGrid := false }
      knots := { s.knots with operands := [] } } : State).trackReady

/-- The next period starts in cycle `cyc` after the stripe boundary that comes before it (R228, R229). -/
def State.periodGo (s : State) (n : NextPeriod) (due cyc : Nat) : State :=
  let s := s.streamStarts n
  let slack : Option Int := if s.engine.lastEnd = 0 ∨ n.due.isNone then s.engine.minSlack
    else
      let d : Int := (due : Int) - s.engine.lastEnd
      some (match s.engine.minSlack with
        | some m => min m d
        | none => d)
  let s := match slack with
    | some d => s.setReg K.minObservedSlack (unsigned 32 d)
    | none => s
  let keep := fun (j : Nat) => decide (2 ^ 200 ≤ j) || decide (n.first ≤ j + 256)
  let s := { s with
    engine := { s.engine with
      minSlack := slack
      aborted := s.engine.aborted.filter (fun x => keep x.2.2)
      stickySat := s.engine.stickySat.filter (fun x => keep x.2.2)
      marks := s.engine.marks.filter (fun x => keep x.2.2.1)
      skewed := s.engine.skewed.filter (fun x => keep x.2.2)
      halo := s.engine.halo.filter (fun x => keep x.stripe)
      masked := s.engine.masked.filter keep } }
  s.runZero { k := stripeNum n.first / max 1 n.plan.batch, first := n.first, upto := n.upto, start := cyc, due
              flush := n.flush, late := decide (due < cyc), old := n.old }

/-- A period starts (R228). -/
def State.periodStart (s : State) (cyc : Nat) : State :=
  match s.nextDue with
  | none => s
  | some n =>
    let due := n.due.getD (max cyc s.engine.lastEnd)
    if s.mayRun = false ∨ cyc < due ∨ cyc < s.engine.lastEnd then s
    else
      let s := s.boundary
      if s.mayRun then s.periodGo n due cyc else s

/-- An empty period starts (R231). -/
def State.emptyStart (s : State) (cyc : Nat) : State :=
  let still := s.belt.st == .stopped || s.belt.st == .lost || s.belt.st == .noSource
  if s.mayRun = true ∧ s.rtPlan.isSome ∧ still = true ∧ s.nextDue.isNone ∧ s.engine.unbound = false ∧
      s.engine.lastEnd ≤ cyc then
    s.runZero { k := 0, first := s.engine.nextPeriod, start := cyc, due := cyc, empty := true }
  else s

/-- PERIOD_START (R228). -/
def execPeriodStart (cyc : Nat) (s : State) : Host.Outcome State Fault Refusal := .next (s.periodStart cyc)

/-- EMPTY_PERIOD (R231). -/
def execEmptyPeriod (cyc : Nat) (s : State) : Host.Outcome State Fault Refusal := .next (s.emptyStart cyc)

/-! ### Slots (R222, R237, R410) -/

/-- Leaves an OPEN slot: its context waits again, or has nothing to do (R236). -/
def State.closeOpen (s : State) (die : Nat) : State :=
  match SMap.get 0 s.engine.openTo die with
  | 0 => s
  | c + 1 =>
    let s := { s with engine := { s.engine with openTo := SMap.erase s.engine.openTo die } }
    let x := s.ctx c
    if x.st = .running ∧ x.run.isNone ∧ (s.engine.openTo.all fun p => p.2 != c + 1) = true then
      (s.setCtx c { x with st := if x.jobs = [] then .idle else .ready }).trackReady
    else s

/-- Whether a context has a step pending on a die (R237, R343). -/
def State.stepPending (s : State) (c die : Nat) : Option Nat :=
  let x := s.ctx c
  match x.plan, x.jobs, x.run with
  | some p, _ :: _, none =>
    match p.steps[x.nextStep]? with
    | some n => if (x.st = .ready ∨ x.st = .running) ∧ p.stepDie n = die ∧ s.stepWaits c n = false then some n else none
    | none => none
  | _, _, _ => none

/-- The context that takes an OPEN slot of a die (R237): the highest priority, then the lowest number; none while the
device throttles (R434). -/
def State.openChoice (s : State) (die mask : Nat) : Option Nat :=
  if s.flag K.throttleState then none else
  let cs := (List.range 16).filter fun c => decide (0 < c) && bitOf mask c && (s.stepPending c die).isSome
  cs.foldl (fun m c => match m with
    | none => some c
    | some b => if s.reg (K.contextPriority c) < s.reg (K.contextPriority b) then some c else some b) none

/-- The decision of a RERUN slot for every stripe of the period (R171). -/
def State.decideReruns (s : State) (p : Plan) (per : Period) (die l : Nat) : State :=
  let y := p.layer l
  (List.range (max 1 p.batch)).foldl (fun s b =>
    let j := per.first + b
    let at0 := SMap.get (0, 0) s.engine.clip (clipKey 0 b y.inT)
    let at1 := SMap.get (0, 0) s.engine.clip (clipKey 1 b y.inT)
    let mode := s.stripeReg j K.clipLimitMode
    let want := (mode == 0 && decide (y.clipLimit * (at0.2 + at1.2) < (at0.1 + at1.1) * 65536)) || mode == 2
    let lost := s.engine.aborted.any fun a => a.2.1 == l && a.2.2 == j
    if want && !lost then
      let s := s.bump (K.wideReruns die)
      { s with engine := { s.engine with
          rerun := if s.engine.rerun.contains (l, j) then s.engine.rerun else s.engine.rerun ++ [(l, j)]
          clip := SMap.erase s.engine.clip (clipKey die b y.outT) } }
    else if want then s.bump (K.rerunsMasked die)
    else s) s

/-- A slot of the slot table starts on a die (R222): the checkpoint of R410, an OPEN slot's context, a re-run's decision. -/
def State.slotGo (s : State) (die n cyc : Nat) : State :=
  match s.engine.period, s.runPlan 0 with
  | some per, some p =>
    match p.slots[n]? with
    | none => s
    | some x =>
      let due := per.start + x.start + per.frozenOn die
      if bitOf x.dieMask die = false ∨ cyc < due ∨ s.isFrozen die = true ∨
          n + 1 ≤ SMap.get 0 per.slot die then s
      else
        let s := (s.releaseHeld cyc).closeOpen die
        let s := match s.engine.period with
          | some per => { s with engine := { s.engine with period := some { per with slot := SMap.set 0 per.slot die (n + 1) } } }
          | none => s
        if x.kind = 2 then
          match s.openChoice die x.ctxMask with
          | none => { s with engine := { s.engine with openEnd := SMap.set 0 s.engine.openEnd die (due + x.len) } }
          | some c =>
            let s := { s with engine := { s.engine with
              openTo := SMap.set 0 s.engine.openTo die (c + 1), openEnd := SMap.set 0 s.engine.openEnd die (due + x.len) } }
            s.setCtx c { s.ctx c with st := .running }
        else if x.kind = 3 ∧ per.empty = false then s.decideReruns p per die x.layer
        else s
  | _, _ => s

/-- SLOT_START: what has starved by its cycle has frozen first (R135, R222). -/
def State.slotStart (s : State) (die n cyc : Nat) : State := (s.feed cyc).slotGo die n cyc

/-- SLOT_START (R222). -/
def execSlotStart (die slot cyc : Nat) (s : State) : Host.Outcome State Fault Refusal :=
  guardUnit (decide (die < 2)) die (s.slotStart die slot cyc)

/-! ### PERIOD_END (R229, R230, R235) -/

/-- The figures of a period that has ended: activity and clip shares (R150, R170, R213). -/
def State.periodFigures (s : State) (p : Plan) (cycles : Nat) : State :=
  let b := max 1 p.batch - 1
  let share := fun (t : Nat) =>
    let x := SMap.get (0, 0) s.engine.clip (clipKey 0 b t)
    let y := SMap.get (0, 0) s.engine.clip (clipKey 1 b t)
    (x.1 + y.1, x.2 + y.2)
  let worst := fun (d : Nat) => (p.tensors.filter fun t => t.die == d).foldl (fun (m : Nat × Nat) t =>
    let x := share t.num
    if m.1 * x.2 < x.1 * m.2 then x else m) (0, 1)
  (List.range 2).foldl (fun s d =>
    let (v, s) := s.takeFree
    let (least, most) := SMap.get (0, 0) s.engine.lanes d
    let full := 1536 * max 1 cycles
    let m := worst d
    ((s.setReg (K.arrayActivity d) (f32OfRat ((SMap.get 0 s.engine.active d : Nat) : Int) (48 * max 1 cycles))).setReg
      (K.maxClipShare d) (f32OfRat m.1 (max 1 m.2))).setReg (K.vectorActivity d)
        (f32OfRat ((min full (least + v % (most - least + 1)) : Nat) : Int) full)) s

/-- A slip is counted and recorded (R229, R235). -/
def State.noteSlip (s : State) (p : Plan) (per : Period) (f : Nat) : State :=
  let extra := f - p.retryReserve
  if per.start ≤ per.due ∧ extra = 0 then s
  else
    let slip := min (2 ^ 32 - 1) (per.start - per.due + extra)
    ((s.bump K.periodsSlipped).peak K.maxSlipCycles slip).emit
      (s.recPos RType.slip Unit.plan (s.lineStamp (per.first * p.stripeLines)) (slip + 2 ^ 32 * min (2 ^ 32 - 1) f) 0)

/-- A flush goes on, or completes with its last period (R232). -/
def State.flushOn (s : State) (per : Period) (p : Plan) : State :=
  match s.engine.flush with
  | none => s
  | some f =>
    let next := if per.flush then min f.resume (per.first + max 1 p.batch) else f.stripe
    if per.flush = false ∧ f.stripe < f.resume then s
    else
      if f.resume ≤ next ∧ (s.pipe.stripes.all fun x => decide (f.resume ≤ x.1)) = true then
        ({ s with engine := { s.engine with flush := none, flushAction := false } } : State).cmdSet K.flush Status.ok
      else { s with engine := { s.engine with flush := some { f with stripe := next, left := f.resume - next } } }

/-- The state of context 0 after a period (R236). -/
def State.settleZero (s : State) : State :=
  let x := s.ctx 0
  let st := if x.plan.isNone then CtxSt.empty else if s.nextDue.isSome then .ready else .idle
  if x.st = .running then (s.setCtx 0 { x with st }).trackReady else s

/-- Once the outgoing plan has no stripe and no flush stripe left, its memory is free; a track that its last step left
OPEN, because that step ran before the commit, is freed without a decision (R233, R255; log entry 45). -/
def State.retireOld (s : State) : State :=
  if s.engine.old.isSome ∧ s.engine.flush.isNone = true ∧
      (s.pipe.stripes.all fun x => decide (s.engine.oldLast ≤ x.1)) = true then
    let s := s.freeScales 16
    let s := { s with
      engine := { s.engine with old := none }
      memory := { s.memory with scratch := SMap.erase s.memory.scratch 16 }
      tracks := { s.tracks with regions := [] } }
    (s.tracksIn .opened).foldl (fun s i => s.freeTrack i) s
  else s

/-- A period ends (R229), which is a re-plan point (R437). -/
def State.periodStop (s : State) (cyc : Nat) : State :=
  match s.engine.period, s.runPlan 0 with
  | some per, some p =>
    let f := max (per.frozenOn 0) (per.frozenOn 1)
    let stop := per.start + p.periodCycles + (f - p.retryReserve)
    if cyc < stop ∨ s.isFrozen 0 = true ∨ s.isFrozen 1 = true then s
    else
      let s := ((s.releaseHeld cyc).closeOpen 0).closeOpen 1
      let s := { s with
        engine := { s.engine with period := none, lastEnd := cyc, openEnd := [] }
        memory := { s.memory with slotBase := per.start + f } }
      if per.empty then (s.bump K.emptyPeriods).retireOld.settleZero.replanPoint
      else
        let s := ((s.bump K.periodsRun).peak K.maxFrozenPerPeriod f).noteSlip p per f
        let s := s.periodFigures p (cyc - per.start)
        let s := s.clearSuspects (per.first + max 1 p.batch)
        let starts := (s.pipe.stripes.filter fun x => decide (x.1 < per.upto) && x.2.start).map (·.1)
        let left := s.pipe.stripes.filter fun x => decide (per.upto ≤ x.1)
        let s := { s with
          pipe := { s.pipe with stripes := left }
          engine := { s.engine with
            start := starts.getLast?.getD s.engine.start
            heldBufs := s.engine.heldBufs.filter (fun b => decide (per.upto ≤ b.2))
            nextPeriod := per.first + max 1 p.batch } }
        (s.flushOn per p).retireOld.settleZero.replanPoint
  | _, _ => s

/-- PERIOD_END: what has starved by its cycle has frozen first (R135, R229). -/
def State.periodEnd (s : State) (cyc : Nat) : State := (s.feed cyc).periodStop cyc

/-- PERIOD_END (R229). -/
def execPeriodEnd (cyc : Nat) (s : State) : Host.Outcome State Fault Refusal := .next (s.periodEnd cyc)

/-! ### Steps (R221, R237, R238, R343, R377) -/

/-- Whether each die is one unbounded OPEN slot (R238, R414). -/
def State.unbounded (s : State) : Bool := s.rtPlan.isNone && s.engine.old.isNone || s.engine.unbound

/-- Whether a die serves a step already. -/
def State.dieBusy (s : State) (die : Nat) : Bool :=
  (List.range 16).any fun c => match (s.ctx c).run, (s.ctx c).plan with
    | some r, some p => p.stepDie r.step == die
    | _, _ => false

/-- A background context starts its next step (R237, R238). -/
def State.stepStart (s : State) (c cyc : Nat) : State :=
  let s := s.releaseHeld cyc
  match (s.ctx c).plan with
  | none => s
  | some p =>
    match p.steps[(s.ctx c).nextStep]? with
    | none => s
    | some n =>
      let die := p.stepDie n
      let fits := if s.unbounded then s.openChoice die 0xFFFE == some c
        else SMap.get 0 s.engine.openTo die == c + 1 && decide (cyc + p.stepCycles n ≤ SMap.get 0 s.engine.openEnd die)
      if c = 0 ∨ s.stepPending c die = none ∨ fits = false ∨ s.dieBusy die = true ∨ s.isFrozen die = true ∨
          s.faults.torn ≠ [] ∨ s.power.st ≠ .run ∨ s.power.clock.isSome = true ∨ s.faults.recovery.isSome = true then s
      else
        (s.setCtx c { s.ctx c with st := .running, run := some { step := n, die, start := cyc } }).trackReady

/-- A job finishes (R377, R324): its JOB_SUBMIT completes. -/
def State.endJob (s : State) (c : Nat) (j : Job) : State :=
  let s := (s.clearJob c).setCtx c { s.ctx c with jobs := (s.ctx c).jobs.drop 1, nextStep := 0 }
  let s := s.finishCmd j.ring j.index (if j.poisoned then Status.discarded else Status.ok)
    (if j.poisoned then 0 else j.steps + 2 ^ 32 * min (2 ^ 32 - 1) j.cycles)
  s.prepareStep c

/-- A background step ends (R221, R237, R343). -/
def State.stepStop (s : State) (c cyc : Nat) : State :=
  match (s.ctx c).plan, (s.ctx c).run, (s.ctx c).jobs with
  | some p, some r, j :: rest =>
    let len := p.stepCycles r.step
    let die := p.stepDie r.step
    if cyc < r.start + len ∨ s.isFrozen die = true then s
    else
      let s := ((s.bump (K.contextStepsRun c)).bump (K.contextOpenCycles c) len).endSignals c r.step r.start cyc
      let x := s.ctx c
      let j := { j with steps := j.steps + 1, cycles := j.cycles + len }
      let s := s.setCtx c { x with run := none, nextStep := x.nextStep + 1, jobs := j :: rest }
      let s := if p.steps.length ≤ x.nextStep + 1 ∨ j.poisoned = true then s.endJob c j else s.prepareStep c
      let x := s.ctx c
      let holds := s.engine.openTo.any fun o => o.2 == c + 1
      let st := if x.jobs = [] then CtxSt.idle else if holds then .running else .ready
      (s.setCtx c { x with st := if x.st = .running then (if holds then .running else st) else x.st }).trackReady
  | _, _, _ => s

/-- STEP_END: what has starved by its cycle has frozen first (R135, R221). -/
def State.stepEnd (s : State) (c cyc : Nat) : State := (s.feed cyc).stepStop c cyc

/-- STEP_START (R237). -/
def execStepStart (ctx cyc : Nat) (s : State) : Host.Outcome State Fault Refusal :=
  guardUnit (decide (ctx < 16)) ctx (s.stepStart ctx cyc)

/-- STEP_END (R221). -/
def execStepEnd (ctx cyc : Nat) (s : State) : Host.Outcome State Fault Refusal :=
  guardUnit (decide (ctx < 16)) ctx (s.stepEnd ctx cyc)

/-! ### Flush (R232) -/

/-- The stream will start again with a stripe, whose first line is `line` (R232). -/
def State.streamFrom (s : State) (stripe line : Nat) : State :=
  let s := (List.range 16).foldl (fun s i => s.moveNextLine i line) s
  { s with belt := { s.belt with stripe, streamStart := true, lineFloor := line } }

/-- A flush begins: the pass in progress closes and the real-time context gets its periods (R232). -/
def State.beginFlush (s : State) (f : FlushRun) : State :=
  let s := ({ s with engine := { s.engine with flush := some f, flushAction := true } } : State).closePass
  if (s.ctx 0).st = .idle then s.setCtx 0 { s.ctx 0 with st := .ready } else s

/-- Flush (R232). -/
def State.flushCmd (s : State) : Nat × State :=
  match s.rtPlan with
  | none => (Status.contextState, s)
  | some p =>
    if s.belt.st ≠ .stopped ∧ s.belt.st ≠ .lost ∧ s.belt.st ≠ .noSource then (Status.beltMoving, s)
    else if s.engine.flushAction then (Status.busy, s)
    else
      let S := p.stripeLines
      let from' := match s.lastTriggered with
        | some n => if s.belt.streamStart then s.belt.stripe else n / S + 1
        | none => s.belt.stripe
      let real := s.realLines
      let resume := from' + p.flush
      let (st, s) := (s.streamFrom resume (resume * S)).cmdBegin K.flush
      let s := s.beginFlush { left := p.flush, stripe := from', lines := real, resume }
      (st, if p.flush = 0 ∧ s.pipe.stripes = [] then
          ({ s with engine := { s.engine with flush := none, flushAction := false } } : State).cmdSet K.flush Status.ok
        else s.trackReady)

/-- FLUSH (R232). -/
def execFlush (sess : Nat) (s : State) : Host.Outcome State Fault Refusal :=
  .next (s.runCmd sess K.flush fun s => s.flushCmd)

end Sys2Proof.Machine
end

