-- ==== Sys2Proof/Machine/Memory.lean ====
section
/-! DEFINITION. The memory-side dies and their links: frames at both ends, slots, bursts, refresh and scrub, retries and
lag, recalibration, external transfers, failures (R310 to R331). -/

namespace Sys2Proof.Machine

/-! ### Addresses (R310 to R312) -/

/-- One link, by its link code. -/
def State.mlink (s : State) (l : Nat) : MLink := SMap.get {} s.memory.links l

/-- Sets one link. -/
def State.setMlink (s : State) (l : Nat) (x : MLink) : State :=
  { s with memory := { s.memory with links := SMap.set {} s.memory.links l x } }

/-- Whether a link code names a link of a fitted die (R310). -/
def State.hasMlink (s : State) (l : Nat) : Bool := decide (l / 16 < s.mfg.part.memDies)

/-- Memory-side die and compute die of a link. -/
def linkDie (l : Nat) : Nat := l / 16
def linkCompute (l : Nat) : Nat := l % 16 / 8

/-- Bytes that an image takes on every die: whole multiples of 4,096 (R311). -/
def State.slotSpan (s : State) (x : PlanSlot) : Nat := ceilDiv x.length (4096 * s.mfg.part.memDies) * 4096

/-- Image offset of a die offset that lies in a slot's image (R311). -/
def State.imageOffset (s : State) (x : PlanSlot) (die off : Nat) : Nat :=
  ((off - x.base) / 4096 * s.mfg.part.memDies + die) * 4096 + (off - x.base) % 4096

/-- Die offset of an image offset (R311). -/
def State.imageAt (s : State) (x : PlanSlot) (o : Nat) : Nat := x.base + o / (4096 * s.mfg.part.memDies) * 4096 + o % 4096

/-- The plan slot whose image covers a die offset. -/
def State.slotAt (s : State) (off : Nat) : Option Nat :=
  ((s.engine.slots.filter fun p => p.2.st != 0 && decide (p.2.base ≤ off) && decide (off < p.2.base + s.slotSpan p.2)).head?).map
    (·.1)

/-- One byte of a memory-side die. -/
def State.memByte (s : State) (die off : Nat) : Byte :=
  match s.slotAt off with
  | some n => (s.planSlot n).data.getD (s.imageOffset (s.planSlot n) die off) 0
  | none => SMap.get 0 s.memory.cells (die * 2 ^ 33 + off)

/-- Bytes of a memory-side die. -/
def State.memRead (s : State) (die off n : Nat) : List Byte := (List.range n).map fun i => s.memByte die (off + i)

/-- Writes bytes of a memory-side die outside the images: every codeword written is sound again (R324). -/
def State.memWrite (s : State) (die off : Nat) (d : List Byte) : State :=
  { s with memory := { s.memory with
      cells := (d.zipIdx.filter fun x => (s.slotAt (off + x.2)).isNone).foldl
        (fun m x => SMap.set 0 m (die * 2 ^ 33 + off + x.2) x.1) s.memory.cells
      bad := s.memory.bad.filter (fun b => decide (b.1 < die * 2 ^ 28 + off / 32) ||
        decide (die * 2 ^ 28 + (off + d.length - 1) / 32 < b.1)) } }

/-! ### Failures (R321, R330) -/

/-- What MemoryDieState reads (R330). -/
def State.memDieState (s : State) (m : Nat) : Nat :=
  let sts := (List.range 16).map fun n => (s.mlink (16 * m + n)).st
  if s.boot.step < 4 ∨ sts.any fun x => x == .training || x == .down then 0
  else if sts.all fun x => x == .failed then 3
  else if sts.any fun x => x == .failed then 2 else 1

/-- A link fails (R321, R330, R407): every context whose schedule names it stops. -/
def State.failMlink (s : State) (l cause : Nat) : State :=
  let x := s.mlink l
  if x.st = .failed then s
  else
    let s := s.setMlink l { x with st := .failed, reads := [], queue := [], sending := [], writes := [], lag := 0, nak := none }
    let s := s.bump (K.linkFailures (linkDie l))
    let cs := (List.range 16).filter fun c => match (s.ctx c).plan with
      | some p => (s.memEntries p).any fun e => e.link == l
      | none => false
    let detail := l + 256 * cause
    if cs = [] then s.report FCode.memoryLinkFailed Unit.memory detail
    else cs.foldl (fun s c => s.raiseCtx FCode.memoryLinkFailed .contextStop Unit.memory c detail) s

/-- A retry moves a link's frames eight slots back (R321, R322, R443). -/
def State.addLag (s : State) (l : Nat) : State :=
  let x := s.mlink l
  let s := s.count (linkCompute l) 0x0602 1
  if 64 < x.lag + 8 then s.failMlink l 3
  else (s.setMlink l { x with lag := x.lag + 8 }).peak (K.maxLinkLag (linkDie l)) (x.lag + 8)

/-! ### Frames (R315 to R317, R319) -/

/-- The CRC of a frame (R317): its 150 payload bytes, zero where it carries none, then trailer bits [79:16] as eight bytes
from the highest. -/
def frameCrc (payload : List Byte) (trailer : Nat) : Nat :=
  crc16 0x8BB7 (fitBytes 150 payload ++ (List.range 8).map fun i => BitVec.ofNat 8 (trailer / 2 ^ (72 - 8 * i)))

/-- The downstream trailer above its CRC (R315). -/
def downTrailer (op seq count addr : Nat) (replay : Option Nat) : Nat :=
  2 ^ 76 * op + 2 ^ 68 * (seq % 256) + 2 ^ 56 * (count % 4096) + 2 ^ 24 * (addr / 2 % 2 ^ 32) +
    (match replay with
      | some q => 2 ^ 23 + 2 ^ 16 * (q % 128)
      | none => 0)

/-- The upstream trailer above its CRC (R316). -/
def upTrailer (seq status : Nat) (nak : Option Nat) (corrected : Nat) : Nat :=
  2 ^ 72 * (seq % 256) + 2 ^ 64 * status + 2 ^ 56 * (nak.getD 0 % 256) + 2 ^ 48 * min 255 corrected

/-- The Status field of an upstream trailer (R316). -/
def upStatus (corrected poison nak resent : Bool) : Nat :=
  bitNat corrected + 2 * bitNat poison + 4 * bitNat nak + 8 * bitNat resent

/-- Whether a downstream frame of an opcode passes its CRC (R317). -/
def DownFrame.crcOk (f : DownFrame) (op : Nat) : Bool :=
  f.crc == frameCrc f.data (downTrailer op f.seq f.count f.addr f.replay)

/-- Whether an upstream frame passes its CRC (R317). A frame that carries no data has a payload of zeros. -/
def UpFrame.crcOk (f : UpFrame) : Bool :=
  f.crc == frameCrc (if f.valid then f.data else [])
    (upTrailer f.seq (upStatus (f.corrected != 0) (f.bad != []) f.nak.isSome f.resent) f.nak f.corrected)

/-- The compute die sends a downstream frame, of which it keeps the latest 16 (R321). Outside the reserved slots its payload
is the oldest one that waits (R450 counts its bytes); `data` are the payloads that its own request puts behind them
(R319). -/
def State.sendDown (s : State) (l op addr count : Nat) (data : List (List Byte) := []) (replay : Option Nat := none)
    (reserved : Bool := false) : State :=
  let x := s.mlink l
  let idle := reserved || op == 3 || op == 4
  let payload := fitBytes 150 (if idle then [] else x.sending.headD [])
  let k := x.downKept ++ [({ seq := x.downSeq, op, addr, count, data := payload } : MSent)]
  let s := if idle || x.sending == [] then s else s.portBytes false l 150
  (s.setMlink l { x with
    downSeq := (x.downSeq + 1) % 256, downKept := k.drop (k.length - 16)
    sending := (if idle then x.sending else x.sending.drop 1) ++ data }).send
    (.memFrame l x.downSeq op addr (count % 4096) replay payload
      (frameCrc payload (downTrailer op x.downSeq count addr replay)))

/-- The payloads of a write: 150 bytes a frame (R319). -/
def payloads (d : List Byte) : List (List Byte) := (List.range (ceilDiv d.length 150)).map fun i => bytesAt d (150 * i) 150

/-- The memory die sends an upstream frame. What ECC corrects in it or cannot correct is an observation of the frame's
landing, so the frame is sent as one that ECC left alone (DESIGN CHOICE, log entry 104). -/
def State.emitUp (s : State) (l seq : Nat) (nak : Option Nat) (data : List Byte) (resent : Bool) : State :=
  let status := upStatus false false nak.isSome resent
  let payload := fitBytes 150 data
  s.send (.memUp l seq status nak payload (frameCrc payload (upTrailer seq status nak 0)))

/-- The memory die sends the upstream frame of one frame time: data whose wait is over, or no data (R319). -/
def State.sendUp (s : State) (l : Nat) (reserved : Bool) : State :=
  let x := s.mlink l
  let (data, queue) := match x.queue with
    | (0, d) :: q => if reserved then ([], x.queue) else (d, q)
    | q => ([], q)
  let queue := queue.map fun q => (q.1 - 1, q.2)
  let k := x.upKept ++ [(x.dieUp, data)]
  (s.setMlink l { x with dieUp := (x.dieUp + 1) % 256, queue, upKept := k.drop (k.length - 16), nak := none }).emitUp
    l x.dieUp x.nak data false

/-- A downstream frame that fails its CRC or carries no opcode of R315 is discarded with every one after it until the
resend arrives, and its Seq goes into the next upstream trailer (R321). -/
def State.downFailure (s : State) (l : Nat) : State :=
  let x := s.mlink l
  (s.setMlink l { x with nak := some x.dieDown }).sendUp l false

/-- ReplayValid (R321): the memory die resends from a frame, when it still keeps it. -/
def State.takeReplay (s : State) (l seq : Nat) : State :=
  let x := s.mlink l
  match x.upKept.dropWhile fun k => k.1 % 128 != seq % 128 with
  | [] => s.failMlink l 2
  | r => r.foldl (fun s k => s.emitUp l k.1 none k.2 true) s

/-- The bytes written less than 8 link slots ago (R313). -/
def State.youngNow (s : State) : List (Nat × Nat × Byte) :=
  s.memory.young.filter fun y => decide ((s.tick - y.2.1) * s.engine.cclk < 128 * 250)

/-- A write reads back from the eighth slot after it; until then a read finds the bytes before it (R313). -/
def State.noteYoung (s : State) (die off n : Nat) : State :=
  { s with memory := { s.memory with
      young := s.youngNow ++ (List.range n).map fun i => (die * 2 ^ 33 + off + i, s.tick, s.memByte die (off + i)) } }

/-- Bytes of a memory-side die as a transfer reads them now (R313). -/
def State.settledRead (s : State) (die off n : Nat) : List Byte :=
  let l := s.youngNow
  (List.range n).map fun i => match l.find? fun y => y.1 == die * 2 ^ 33 + off + i with
    | some y => y.2.2
    | none => s.memByte die (off + i)

/-- The payload of a downstream frame belongs to the oldest write whose data are due (R319). -/
def State.landWrite (s : State) (l : Nat) (payload : List Byte) : State :=
  let x := s.mlink l
  match x.writes with
  | [] => s
  | (a, n) :: rest =>
    ((s.setMlink l { x with writes := if n ≤ 1 then rest else (a + 150, n - 1) :: rest }).noteYoung (linkDie l) a 150).memWrite
      (linkDie l) a (fitBytes 150 payload)

/-- A downstream frame reaches the memory die (R315, R321): `body` is what its opcode does. The payload of a frame in a
reserved slot belongs to no write (R319). -/
def State.takeDown (s : State) (l op : Nat) (f : DownFrame) (body : State → State) : State :=
  let x := s.mlink l
  let reserved := f.reserved || op == 3 || op == 4
  if x.st ≠ .up then s
  else if f.crcOk op = false ∨ f.opOk = false then s.downFailure l
  else if f.seq % 256 ≠ x.dieDown then s.sendUp l reserved
  else
    let s := s.setMlink l { x with dieDown := (x.dieDown + 1) % 256 }
    let s := if reserved then s else s.landWrite l f.data
    let s := body s
    let s := match f.replay with
      | some q => s.takeReplay l q
      | none => s
    s.sendUp l reserved

/-- Slots of a burst (R315). -/
def DownFrame.slots (f : DownFrame) : Nat := if f.count % 4096 = 0 then 4096 else f.count % 4096

/-- READ (R319): the first data frame follows 112 cycles, seven frame times, after the request. -/
def State.dieRead (s : State) (l : Nat) (f : DownFrame) : State :=
  let data := (List.range f.slots).map fun i => (7, s.settledRead (linkDie l) (f.addr + 150 * i) 150)
  let x := s.mlink l
  s.setMlink l { x with queue := x.queue ++ data }

/-- WRITE (R319): its data come in the payloads of the frames of the non-reserved slots that follow. -/
def State.dieWrite (s : State) (l : Nat) (f : DownFrame) : State :=
  let x := s.mlink l
  s.setMlink l { x with writes := x.writes ++ [(f.addr, f.slots)] }

/-- MEMORY_READ (R319). -/
def execMemoryRead (link : Nat) (f : DownFrame) (s : State) : Host.Outcome State Fault Refusal :=
  guardUnit (s.hasMlink link) link (s.takeDown link 1 f fun s => s.dieRead link f)

/-- MEMORY_WRITE (R319). -/
def execMemoryWrite (link : Nat) (f : DownFrame) (s : State) : Host.Outcome State Fault Refusal :=
  guardUnit (s.hasMlink link) link (s.takeDown link 2 f fun s => s.dieWrite link f)

/-- NOP (R315). -/
def execNop (link : Nat) (f : DownFrame) (s : State) : Host.Outcome State Fault Refusal :=
  guardUnit (s.hasMlink link) link (s.takeDown link 0 f fun s => s)

/-- REPLAY (R321): a frame that carries no request and asks for a resend. -/
def execReplay (link : Nat) (f : DownFrame) (s : State) : Host.Outcome State Fault Refusal :=
  guardUnit (s.hasMlink link) link (s.takeDown link 0 f fun s => s)

/-- DOWNSTREAM_CRC_FAILURE (R321): the receiver saw a frame that does not pass, whatever it holds. -/
def execDownstreamCrcFailure (link : Nat) (_ : DownFrame) (s : State) : Host.Outcome State Fault Refusal :=
  guardUnit (s.hasMlink link) link (if (s.mlink link).st = .up then s.downFailure link else s)

/-- REFRESH (R320): the next 32 KiB of the die's rotation. -/
def State.dieRefresh (s : State) (m : Nat) : State :=
  { s with memory := { s.memory with refresh := SMap.set 0 s.memory.refresh m ((SMap.get 0 s.memory.refresh m + 1) % 262144) } }

/-- REFRESH (R320). -/
def execRefresh (link : Nat) (f : DownFrame) (s : State) : Host.Outcome State Fault Refusal :=
  guardUnit (s.hasMlink link) link (s.takeDown link 3 f fun s => s.dieRefresh (linkDie link))

/-! ### Error correction (R323, R324) -/

/-- The log entry and the fault of an uncorrectable codeword (R324, R474): `source` 0 a plan transfer, 1 scrub, 2 an
external transfer. -/
def State.noteBad (s : State) (l source w : Nat) (scope : Scope) (c : Nat) (p : Option Nat) : State :=
  let e := leBytes 1 l ++ leBytes 1 source ++ leBytes 2 0 ++ leBytes 4 w
  let full := decide (64 ≤ s.memory.log.length)
  let s := { s with memory := { s.memory with
    log := (if full then s.memory.log.drop 1 else s.memory.log) ++ [e]
    bad := SMap.put (SMap.erase s.memory.bad (linkDie l * 2 ^ 28 + w)) (linkDie l * 2 ^ 28 + w) 1 } }
  let s := if full then s.overwrote 3 else s
  s.report FCode.memoryUncorrectable Unit.memory (l + 256 * source + 65536 * w) scope c p

/-- The codewords of a range that no correction helps: those observed, and those that stand so since an earlier read. -/
def State.badIn (s : State) (die off n : Nat) (seen : List Nat) : List Nat :=
  (List.range ((off + n - 1) / 32 + 1 - off / 32)).filterMap fun i =>
    let w := off / 32 + i
    if seen.contains w || (SMap.find? s.memory.bad (die * 2 ^ 28 + w)).isSome then some w else none

/-- SCRUB (R320, R324): 512 bytes of the die in ascending order. -/
def State.dieScrub (s : State) (l : Nat) (f : DownFrame) : State :=
  let m := linkDie l
  let i := SMap.get 0 s.memory.scrub m
  let bad := s.badIn m (512 * i) 512 f.bad
  let s := (s.bump (K.correctedSymbols m) f.corrected).bump (K.scrubUncorrectable m) bad.length
  let s := { s with memory := { s.memory with scrub := SMap.set 0 s.memory.scrub m ((i + 1) % 16777216) } }
  let s := if i + 1 = 16777216 then s.bump (K.scrubPasses m) else s
  bad.foldl (fun s w => s.noteBad l 1 w .report 0xFF none) s

/-- SCRUB (R320). -/
def execScrub (link : Nat) (f : DownFrame) (s : State) : Host.Outcome State Fault Refusal :=
  guardUnit (s.hasMlink link) link (s.takeDown link 4 f fun s => s.dieScrub link f)

/-! ### Upstream frames (R319, R321, R324) -/

/-- Bytes land on the chip: the poison of what they overwrite is gone, and theirs is laid when a codeword of the frame
was bad (R324). -/
def State.land (s : State) (die kind dest : Nat) (data : List Byte) (poison : Bool) : State :=
  let s := if kind = 1 then
      { s with engine := { s.engine with reel := SMap.setList 0 s.engine.reel (die * 2 ^ 24 + dest) data } }
    else s.actWrite die dest data
  let lo := poisonKey die (kind - 1) dest
  let rest := s.memory.poison.filter fun p => decide (p.1 < lo) || decide (lo + data.length ≤ p.1)
  { s with memory := { s.memory with
      poison := if poison then (List.range data.length).foldl (fun m i => SMap.put m (lo + i) 1) rest else rest } }

/-- Data of the oldest read of a link (R319, R324, R443). -/
def State.landRead (s : State) (l : Nat) (f : UpFrame) : State :=
  let x := s.mlink l
  match x.reads with
  | [] => s
  | r :: rest =>
    let m := linkDie l
    let d := linkCompute l
    let bad := s.badIn m r.addr 150 f.bad
    let next := if r.count ≤ 1 then rest
      else { r with addr := r.addr + 150, dest := r.dest + 150, count := r.count - 1 } :: rest
    let s := s.setMlink l { x with reads := next }
    let s := (s.bump (K.correctedSymbols m) f.corrected).bump (K.uncorrectableReads m) bad.length
    let master := if r.kind = 1 then 3 else if r.kind = 2 then 4 else 11
    let s := (s.portBytes true l 150).count d 0x0601 1 7 r.ctx master r.addr
    let scope := if r.kind = 0 then Scope.report else if r.ctx = 0 then .layer else .job
    let c := if r.kind = 0 then 0xFF else r.ctx
    let s := bad.foldl (fun s w => s.noteBad l (if r.kind = 0 then 2 else 0) w scope c r.pos) s
    if r.kind = 0 ∨ (s.ctx r.ctx).st = .gloved then s
    else
      let s := if r.kind = 1 then s.count d 0x0502 150 7 r.ctx master r.addr
        else (s.portBytes true (0x60 + d) 150).countStore d r.ctx 4 r.dest 150
      s.land d r.kind r.dest (fitBytes 150 f.data) (bad != [])

/-- An upstream frame lands (R319, R321). -/
def State.landFrame (s : State) (l : Nat) (f : UpFrame) : State :=
  let x := s.mlink l
  if x.st ≠ .up then s
  else if f.seq % 256 ≠ x.upSeq then s
  else if f.crcOk = false then
    let s := s.setMlink l { x with upFails := x.upFails + 1 }
    let s := s.bump (K.upstreamRetries (linkDie l))
    if 3 < x.upFails + 1 then s.failMlink l 1
    else
      let s := s.addLag l
      if (s.mlink l).st = .failed then s else s.sendDown l 0 0 0 [] (some (x.upSeq % 128))
  else
    let s := s.setMlink l { x with upSeq := (x.upSeq + 1) % 256, upFails := 0 }
    let s := if f.valid then s.landRead l f else s
    s.settleFreeze (linkCompute l)

/-- UPSTREAM_FRAME_LANDED (R321). -/
def execUpstreamFrameLanded (link : Nat) (f : UpFrame) (s : State) : Host.Outcome State Fault Refusal :=
  guardUnit (s.hasMlink link) link (s.landFrame link f)

/-- NAK (R321): the compute die resends from a frame, when it still keeps it. -/
def State.takeNak (s : State) (l seq : Nat) : State :=
  let x := s.mlink l
  if x.st ≠ .up then s
  else
    let n := if x.nakSeq = seq ∧ 0 < x.downFails then x.downFails + 1 else 1
    let s := (s.setMlink l { x with nakSeq := seq, downFails := n }).bump (K.downstreamRetries (linkDie l))
    if 3 < n then s.failMlink l 1
    else match x.downKept.dropWhile fun k => k.seq != seq with
      | [] => s.failMlink l 2
      | r =>
        let s := s.addLag l
        if (s.mlink l).st = .failed then s
        else r.foldl (fun s k => s.send (.memFrame l k.seq k.op k.addr (k.count % 4096) none k.data
          (frameCrc k.data (downTrailer k.op k.seq k.count k.addr none)))) s

/-- NAK_RESEND (R321). -/
def execNakResend (link : Nat) (f : UpFrame) (s : State) : Host.Outcome State Fault Refusal :=
  guardUnit (s.hasMlink link) link
    (let good := f.crcOk && f.seq % 256 == (s.mlink link).upSeq
     let s := s.landFrame link f
     match f.nak with
     | some q => if good then s.takeNak link (q % 256) else s
     | none => s)

/-! ### Link slots (R318, R319, R322, R325, R331) -/

/-- Where an entry's bytes lie on its die (R311, R312). The outgoing real-time plan keeps its scratch, as number 16, until
its last period has ended (R233). -/
def State.entryAddr (s : State) (p : Plan) (c : Nat) (e : MemEntry) : Nat :=
  let n := if c = 0 ∧ (s.engine.period.any fun (x : Period) => x.old) = true then 16 else c
  if e.kind = 1 then s.imageAt (s.planSlot p.slot) e.memOff else (SMap.get (0, 0) s.memory.scratch n).1 + e.memOff

/-- The memory-schedule entries of the step that a background context runs. -/
def State.stepEntries (s : State) (c : Nat) : List MemEntry :=
  match (s.ctx c).plan, (s.ctx c).run with
  | some p, some r => ((p.kernels.filter fun k => k.step == r.step).map fun k => s.kernelEntries p k).flatten
  | _, _ => []

/-- Every schedule that runs: its context, its entries and the cycle of its slot 0. -/
def State.schedules (s : State) (die : Nat) : List (Nat × List MemEntry × Nat) :=
  (match s.engine.period, s.runPlan 0 with
    | some per, some p => if per.empty then [] else [(0, s.memEntries p, per.start + per.frozenOn die)]
    | _, _ => []) ++
  (List.range 15).filterMap fun i => (s.ctx (i + 1)).run.map fun r => (i + 1, s.stepEntries (i + 1), r.start)

/-- Cycle of slot 0 of the slot grid on a die (R318). -/
def State.gridBase (s : State) (die : Nat) : Nat :=
  match s.engine.period with
  | some per => per.start + per.frozenOn die
  | none => s.memory.slotBase

/-- Whether a link has a placed transfer in the frame that starts at a cycle. -/
def State.placedAt (s : State) (l cyc : Nat) : Bool :=
  (s.schedules (linkCompute l)).any fun x => x.2.1.any fun e =>
    e.link == l && decide (x.2.2 ≤ cyc) && e.occupies ((cyc - x.2.2) / 16)

/-- A placed request is issued (R319). -/
def State.issueEntry (s : State) (c : Nat) (e : MemEntry) : State :=
  match s.runPlan c with
  | none => s
  | some p =>
    let addr := s.entryAddr p c e
    let d := linkCompute e.link
    if e.kind = 3 then
      let data := SMap.getList 0 s.engine.act (actKey d e.chipOff) (150 * e.count)
      let s := (s.sendDown e.link 2 addr e.count (payloads data)).count d 0x0601 e.count 7 c 4 addr
      (s.portBytes false (0x60 + d) (150 * e.count)).countStore d c 4 e.chipOff (150 * e.count)
    else
      let s := s.sendDown e.link 1 addr e.count
      let x := s.mlink e.link
      let pos := if c = 0 then s.engine.period.map fun (per : Period) => s.lineStamp (per.first * p.stripeLines) else none
      s.setMlink e.link { x with
        reads := x.reads ++ [({ addr, count := e.count, dest := e.chipOff, kind := e.kind, ctx := c, pos } : MReq)] }

/-- After training the slot grid starts at k = 0 with the first slot 0 (R318, R329). -/
def State.startGrid (s : State) (k cyc : Nat) : State :=
  if s.memory.newGrid = true ∧ k = 0 ∧ s.engine.period.isNone = true then
    { s with memory := { s.memory with slotBase := cyc, newGrid := false } }
  else s

/-- A frame time of a link that lags is counted (R443). -/
def State.countLag (s : State) (l : Nat) : State :=
  if (s.mlink l).lag = 0 then s else s.count (linkCompute l) 0x0603 1

/-- A plan slot starts on a link (R318, R319, R322). -/
def State.linkSlot (s : State) (l k cyc : Nat) : State :=
  let s := ((s.startGrid k cyc).feed cyc).releaseHeld cyc
  let d := linkCompute l
  let x := s.mlink l
  let cand := (s.schedules d).filterMap fun y => (y.2.1.find? fun e => e.link == l && e.start == k).map fun e => (y.1, e, y.2.2)
  let ok := fun (base : Nat) => decide (base + 16 * k ≤ cyc) && decide (x.lastSlot ≤ base + 16 * k)
  if x.st ≠ .up ∨ s.isFrozen d = true ∨ s.power.clock.isSome = true then s
  else match cand.find? fun y => ok y.2.2 with
    | some (c, e, base) =>
      ((s.countLag l).setMlink l { x with lastSlot := base + 16 * k + 1 }).issueEntry c e
    | none =>
      let base := s.gridBase d
      if ok base = false then s
      else
        let s := (s.countLag l).setMlink l { x with lastSlot := base + 16 * k + 1 }
        if k % 64 = 63 then
          s.sendDown l (if k / 64 % 2 = 0 then 3 else if s.flag K.scrubEnable then 4 else 0) 0 0 (reserved := true)
        else
          let s := s.sendDown l 0 0 0
          let x := s.mlink l
          if s.placedAt l (base + 16 * k) then s else s.setMlink l { x with lag := x.lag - 1 }

/-- LINK_SLOT_START (R319). -/
def execLinkSlotStart (link slot cyc : Nat) (s : State) : Host.Outcome State Fault Refusal :=
  guardUnit (s.hasMlink link) link (s.linkSlot link slot cyc)

/-! ### Recalibration (R328) -/

/-- Whether 16 consecutive non-reserved slots from a cycle on hold no placed transfer of a link. -/
def State.window (s : State) (l cyc : Nat) : Bool :=
  let base := s.gridBase (linkCompute l)
  decide (base ≤ cyc) && (List.range 16).all fun i =>
    decide (((cyc - base) / 16 + i) % 64 ≠ 63) && !s.placedAt l (cyc + 16 * i)

/-- A RECAL request in a window (R328). -/
def State.recalibrate (s : State) (l cyc : Nat) : State :=
  let x := s.mlink l
  if x.st ≠ .up ∨ x.lag ≠ 0 ∨ s.window l cyc = false then s
  else
    let s := s.sendDown l 5 0 0
    s.setMlink l { s.mlink l with lastRecal := cyc, recalAt := some s.tick, overdue := false }

/-- RECAL (R328). -/
def execRecal (link cyc : Nat) (s : State) : Host.Outcome State Fault Refusal :=
  guardUnit (s.hasMlink link) link (s.recalibrate link cyc)

/-- A link passes RecalInterval (R328). -/
def State.recalLate (s : State) (l cyc : Nat) : State :=
  let x := s.mlink l
  if x.st = .up ∧ x.overdue = false ∧ x.lastRecal + s.reg K.recalInterval < cyc then
    (s.setMlink l { x with overdue := true }).bump (K.recalOverdue (linkDie l))
  else s

/-- RECAL_OVERDUE (R328). -/
def execRecalOverdue (link cyc : Nat) (s : State) : Host.Outcome State Fault Refusal :=
  guardUnit (s.hasMlink link) link (s.recalLate link cyc)

/-- What LinkStates holds for a link: RECALIBRATING for the 16 slots of a recalibration. -/
def State.linkCode (s : State) (l : Nat) : Nat :=
  let x := s.mlink l
  match x.recalAt with
  | some t => if x.st = .up ∧ (s.tick - t) * s.engine.cclk < 256 * 250 then MLinkSt.recal.code else x.st.code
  | none => x.st.code

/-! ### External transfers (R327) -/

/-- Whether a range of die offsets reaches an image that is IN_USE or the scratch of a committed plan. -/
def State.guarded (s : State) (lo hi : Nat) : Bool :=
  (s.engine.slots.any fun p => s.slotState p.1 == 3 && decide (lo < p.2.base + s.slotSpan p.2) && decide (p.2.base < hi)) ||
    s.memory.scratch.any fun p => decide (lo < p.2.1 + p.2.2) && decide (p.2.1 < hi)

/-- An external request in slot `k` of the grid (R327). Its bytes are the memory's from here on: no transfer that a
schedule placed meets them. Of a last frame that the data do not fill, the rest keeps the bytes that stand there (DESIGN
CHOICE, log entry 104). -/
def State.external (s : State) (l k : Nat) (write : Bool) (addr : Nat) (data : List Byte) : State :=
  let x := s.mlink l
  let n := ceilDiv data.length 150
  let base := s.gridBase (linkCompute l)
  let stop := burstEnd k n + 1
  let free := decide (k % 64 ≠ 63) && (List.range (stop - k)).all fun i => !s.placedAt l (base + 16 * (k + i))
  if x.st ≠ .up ∨ s.power.clock.isSome = true ∨ x.lag ≠ 0 ∨ n = 0 ∨ 16 < n ∨ free = false ∨ addr % 2 = 1 ∨ 2 ^ 33 < addr + data.length ∨
      s.guarded addr (addr + data.length) = true then s
  else
    let d := linkCompute l
    if write then
      let all := data ++ s.memRead (linkDie l) (addr + data.length) (150 * n - data.length)
      ((s.sendDown l 2 addr n (payloads all)).count d 0x0601 n 7 16 11 addr).memWrite (linkDie l) addr data
    else
      let s := s.sendDown l 1 addr n
      let x := s.mlink l
      s.setMlink l { x with reads := x.reads ++ [({ addr, count := n } : MReq)] }

/-- EXTERNAL_TRANSFER (R327). -/
def execExternalTransfer (link slot : Nat) (write : Bool) (addr : Nat) (data : List Byte) (s : State) :
    Host.Outcome State Fault Refusal :=
  guardUnit (s.hasMlink link) link (s.external link slot write addr data)

/-- UncorrectableLogClear (R324, R474). -/
def State.badLogClear (s : State) : Nat × State :=
  (({ s with memory := { s.memory with log := [] } } : State).logEmptied 3).cmdOk K.uncorrectableLogClear

/-- UNCORRECTABLE_LOG_CLEAR (R324). -/
def execUncorrectableLogClear (sess : Nat) (s : State) : Host.Outcome State Fault Refusal :=
  .next (s.runCmd sess K.uncorrectableLogClear fun s => s.badLogClear)

end Sys2Proof.Machine
end

