-- ==== Sys2Proof/Machine/Sha3.lean ====
section
/-! DEFINITION. SHA3-512 (R214, R217, R460): the hash of FIPS 202 over a list of bytes. -/

namespace Sys2Proof.Machine
namespace Sha3

/-- A lane of the Keccak state. -/
abbrev Lane := BitVec 64

/-- Lane (x, y) of a state of 25 lanes, held row by row. -/
def lane (a : List Lane) (x y : Nat) : Lane := a.getD (x % 5 + 5 * (y % 5)) 0

/-- A state from its lanes. -/
def build (f : Nat → Nat → Lane) : List Lane := (List.range 25).map fun i => f (i % 5) (i / 5)

/-- The offset of the step rho for lane (x, y), met on the walk from (1, 0) that goes from (u, v) to (v, 2u + 3v): the
triangular number of the steps walked. Lane (0, 0) is never met and stays. -/
def rhoOffset (x y : Nat) : (fuel step u v : Nat) → Nat
  | 0, _, _, _ => 0
  | n + 1, t, u, v => if u = x ∧ v = y then (t + 1) * (t + 2) / 2 % 64 else rhoOffset x y n (t + 1) v ((2 * u + 3 * v) % 5)

/-- The shift register of x^8 + x^6 + x^5 + x^4 + 1 after a number of steps, from 1: its lowest bits make the round
constants. -/
def shiftReg : Nat → Nat
  | 0 => 1
  | n + 1 => let r := 2 * shiftReg n; if r < 256 then r else Nat.xor r 0x171

/-- The constant of a round for the step iota: seven bits of the register, at positions 0, 1, 3, 7, 15, 31 and 63. -/
def roundConst (k : Nat) : Lane :=
  BitVec.ofNat 64 ((List.range 7).map fun j => shiftReg ((j + 7 * k) % 255) % 2 * 2 ^ (2 ^ j - 1)).sum

/-- The step theta. -/
def theta (a : List Lane) : List Lane :=
  let c := (List.range 5).map fun x => lane a x 0 ^^^ lane a x 1 ^^^ lane a x 2 ^^^ lane a x 3 ^^^ lane a x 4
  build fun x y => lane a x y ^^^ c.getD ((x + 4) % 5) 0 ^^^ (c.getD ((x + 1) % 5) 0).rotateLeft 1

/-- The steps rho and pi. -/
def rhoPi (a : List Lane) : List Lane :=
  build fun x y => (lane a (x + 3 * y) x).rotateLeft (rhoOffset ((x + 3 * y) % 5) x 24 0 1 0)

/-- The step chi. -/
def chi (a : List Lane) : List Lane := build fun x y => lane a x y ^^^ (~~~(lane a (x + 1) y) &&& lane a (x + 2) y)

/-- The step iota. -/
def iota (rc : Lane) (a : List Lane) : List Lane :=
  match a with
  | [] => []
  | b :: r => (b ^^^ rc) :: r

/-- The permutation of 24 rounds. -/
def permute (a : List Lane) : List Lane := (List.range 24).foldl (fun a k => iota (roundConst k) (chi (rhoPi (theta a)))) a

/-- Takes one block of 72 bytes in. -/
def absorb (a : List Lane) (b : List Byte) : List Lane :=
  permute (a.zipIdx.map fun p => if p.2 < 9 then p.1 ^^^ BitVec.ofNat 64 (leAt b (8 * p.2) 8) else p.1)

/-- Takes every block of 72 bytes in, then the padded last one; `n` bounds the blocks. -/
def absorbAll : Nat → List Lane → List Byte → List Lane
  | 0, a, _ => a
  | n + 1, a, m =>
    if m.length < 72 then
      let pad := m ++ [if m.length = 71 then 0x86 else 0x06] ++ List.replicate (71 - m.length) 0
      absorb a (if m.length = 71 then pad else pad.take 71 ++ [0x80])
    else absorbAll n (absorb a (m.take 72)) (m.drop 72)

/-- SHA3-512 of a message: 64 bytes. -/
def sha512 (m : List Byte) : List Byte :=
  ((absorbAll (m.length / 72 + 1) (List.replicate 25 0) m).take 8).flatMap fun l => leBytes 8 l.toNat

end Sha3
end Sys2Proof.Machine
end

