-- ==== Sys2Proof/Machine/PlanSlots.lean ====
section
/-! DEFINITION. Plan slots: where an image lies, uploads, and the memory that is free (R214, R311, R312). -/

namespace Sys2Proof.Machine

/-! ### Uploads in pieces (R214, R464) -/

/-- Adds a range to disjoint ranges in rising order. -/
def addSpan (l : List (Nat × Nat)) (a b : Nat) : List (Nat × Nat) :=
  if b ≤ a then l
  else
    let near := l.filter fun p => decide (p.1 ≤ b) && decide (a ≤ p.2)
    let lo := near.foldl (fun m p => min m p.1) a
    let hi := near.foldl (fun m p => max m p.2) b
    (l.filter fun p => decide (p.2 < a)) ++ [(lo, hi)] ++ l.filter fun p => decide (b < p.1)

/-- Lays bytes over a list from an offset; what lies between reads as zero. -/
def layBytes (base : List Byte) (o : Nat) (d : List Byte) : List Byte := fitBytes o base ++ d ++ base.drop (o + d.length)

/-- Whether ranges cover everything below a length. -/
def covers (l : List (Nat × Nat)) (n : Nat) : Bool := n == 0 || l == [(0, n)]

/-! ### Free memory and placement (R214, R311, R312) -/

/-- Die offset at which the device region begins (R312). -/
def deviceRegion : Nat := 2 ^ 33 - 2 ^ 26

/-- Bytes of the device region on every die together: MemoryReserved (R312). -/
def State.memReserved (s : State) : Nat := s.mfg.part.memDies * 2 ^ 26

/-- Scratch of the committed plans on every die together (R312). -/
def State.scratchAllotted (s : State) : Nat := s.mfg.part.memDies * (s.memory.scratch.map fun p => p.2.2).sum

/-- Free memory (R214): images count with the whole blocks that they take. -/
def State.memFree (s : State) : Nat :=
  s.mfg.part.memDies * 2 ^ 33 - s.memReserved - s.scratchAllotted -
    s.mfg.part.memDies * ((s.engine.slots.filter fun p => p.2.st != 0).map fun p => s.slotSpan p.2).sum

/-- The ranges of die offsets that are taken, but for one slot's image. -/
def State.takenRanges (s : State) (but : Nat) : List (Nat × Nat) :=
  ((s.engine.slots.filter fun p => p.1 != but && p.2.st != 0).map fun p => (p.2.base, p.2.base + s.slotSpan p.2)) ++
    s.memory.scratch.map fun p => (p.2.1, p.2.1 + p.2.2)

/-- The lowest die offset where a range of `n` bytes fits below the device region (log entry 40). -/
def placeRange (taken : List (Nat × Nat)) (n : Nat) : Option Nat :=
  let cand := (0 :: taken.map fun r => ceilDiv r.2 4096 * 4096).mergeSort fun a b => decide (a ≤ b)
  cand.find? fun b => decide (b + n ≤ deviceRegion) && taken.all fun r => decide (b + n ≤ r.1) || decide (r.2 ≤ b)

/-! ### The entries of 0x0903 -/

/-- Accepts an image of a length into a slot (R214): the status of a refusal, else the state with the slot UPLOADING. -/
def State.openSlot (s : State) (n length : Nat) : Nat × State :=
  if s.slotState n = 1 ∨ s.slotState n = 3 then (Status.contextState, s)
  else if s.engine.upload.isSome then (Status.busy, s)
  else if s.memFree < length then (Status.capacity, s)
  else
    let span := ceilDiv length (4096 * s.mfg.part.memDies) * 4096
    match placeRange (s.takenRanges n) span with
    | none => (Status.capacity, s)
    | some base =>
      let s := s.setSlot n { st := 1, length, base }
      (Status.ok, { s.setBlob (K.planSlotDigest n) [] with engine := { (s.setSlot n { st := 1, length, base }).engine with upload := some n } })

/-- A slot's image is complete (R214). -/
def State.closeSlot (s : State) (n : Nat) : State :=
  let x := s.planSlot n
  let s := s.setSlot n { x with st := 2, spans := [] }
  let s := { s with engine := { s.engine with upload := none } }
  s.setBlob (K.planSlotDigest n) (Sha3.sha512 x.data)

/-- PlanUploadBegin (R214). -/
def State.uploadBegin (s : State) (length : Nat) : Nat × State :=
  if length < 8576 then (Status.valueRange, s)
  else
    let (st, s) := s.openSlot (s.reg K.planUploadSlot) length
    if st = Status.ok then (s.setReg K.planUploadOffset 0).cmdOk K.planUploadBegin else (st, s)

/-- PlanUploadData (R214). Without an upload that runs it is refused with CONTEXT_STATE (log entry 39). -/
def State.uploadData (s : State) (d : List Byte) : Nat × State :=
  if d = [] ∨ 65536 < d.length then (Status.valueRange, s)
  else match s.engine.upload with
    | none => (Status.contextState, s)
    | some n =>
      let x := s.planSlot n
      let o := s.reg K.planUploadOffset
      if x.length < o + d.length then (Status.lengthMismatch, s)
      else
        let s := s.setSlot n { x with data := layBytes x.data o d, spans := addSpan x.spans o (o + d.length) }
        (Status.ok, s.setReg K.planUploadOffset (o + d.length))

/-- PlanUploadEnd (R214). -/
def State.uploadEnd (s : State) (n : Nat) : Nat × State :=
  if 32 ≤ n then (Status.valueRange, s)
  else if s.engine.upload ≠ some n then (Status.contextState, s)
  else
    let x := s.planSlot n
    if covers x.spans x.length then (s.closeSlot n).cmdOk K.planUploadEnd else (Status.lengthMismatch, s)

/-- PlanSlotClear (R214). -/
def State.slotClear (s : State) (n : Nat) : Nat × State :=
  if 32 ≤ n then (Status.valueRange, s)
  else if s.slotState n = 3 then (Status.contextState, s)
  else
    let s := (s.setSlot n {}).setBlob (K.planSlotDigest n) []
    let s := if s.engine.upload = some n then { s with engine := { s.engine with upload := none } } else s
    s.cmdOk K.planSlotClear

/-- PLAN_UPLOAD_BEGIN (R214). -/
def execPlanUploadBegin (sess length : Nat) (s : State) : Host.Outcome State Fault Refusal :=
  .next (s.runCmd sess K.planUploadBegin fun s => s.uploadBegin length)

/-- PLAN_UPLOAD_DATA (R214). -/
def execPlanUploadData (sess : Nat) (data : List Byte) (s : State) : Host.Outcome State Fault Refusal :=
  .next (s.runCmd sess K.planUploadData fun s => s.uploadData data)

/-- PLAN_UPLOAD_END (R214). -/
def execPlanUploadEnd (sess slot : Nat) (s : State) : Host.Outcome State Fault Refusal :=
  .next (s.runCmd sess K.planUploadEnd fun s => s.uploadEnd slot)

/-- PLAN_SLOT_CLEAR (R214). -/
def execPlanSlotClear (sess slot : Nat) (s : State) : Host.Outcome State Fault Refusal :=
  .next (s.runCmd sess K.planSlotClear fun s => s.slotClear slot)

end Sys2Proof.Machine
end

