-- ==== Sys2Proof/Machine/HostOps.lean ====
section
/-! DEFINITION. Shared operations of the host link: refusals of a host window, the checks of ring commands, what a
tunnel's loss does to a port's rings and queues, and the transfers of COPY commands (R339, R361, R364, R366 to R373, R376,
R384, R386). -/

namespace Sys2Proof.Machine

/-! ### Sessions (R61, R73, R76) -/

/-- What a closed session leaves behind (R61): its staged values and its unfinished BLOB segments are gone. -/
def State.dropSession (s : State) (sess : Nat) : State :=
  let s := { s with ctl := { s.ctl with parts := s.ctl.parts.filter (fun (p : Partial) => p.session != sess) } }
  if s.ctl.owner = sess ∧ sess ≠ 0 then
    { s with ctl := { s.ctl with staged := [], stagedBlobs := [], owner := 0 } }
  else s

/-- The mailbox session of a port (R75). -/
def mbxSession (port : Nat) : Nat := 0xFFF0 + port

/-! ### The host window (R366, R369, R370) -/

/-- Records a refusal in HWIN_ERROR (R369); vector 65 tells that it became non-zero (R366). -/
def State.hwinError (s : State) (port status unit off : Nat) : State :=
  let h := s.port port
  let s' := s.setPort port { h with errStatus := status, errUnit := unit, errOffset := off
                                    errCount := min 65535 (h.errCount + 1) }
  if h.errCount = 0 then s'.send (.msix port 65) else s'

/-- Whether the receptacles work: out of reset, in RUN, READY or DOZE (R427). -/
def State.usbOn (s : State) : Bool :=
  !s.supplies.inReset && (s.power.st == .run || s.power.st == .ready || s.power.st == .doze)

/-- A write through a port's window: it arrives only while the port is UP (R364). -/
def State.inWindow (s : State) (port : Nat) (f : State → State) : Host.Outcome State Fault Refusal :=
  guardUnit (decide (port < 2)) port (if (s.port port).st = .up ∧ s.usbOn = true then f s else s)

/-- Whether a ring or queue that reads a binding may be configured through a window (R367). -/
def boundHere (b : Option Nat) (port : Nat) : Bool := b == none || b == some port

/-- Slots of a port's image pool (R369). -/
def HostPort.imgSlots (h : HostPort) : Nat := bits h.imgConfig 12 0

/-- Bytes of a slot of a port's image pool (R369). -/
def HostPort.imgSize (h : HostPort) : Nat := bits h.imgConfig 47 32 * 1024

/-- Applies a write to a register without a row of its own (R369, R370): none when it is accepted, else the status and
the ring or queue named in HWIN_ERROR. -/
def State.hwinWrite (s : State) (port off val : Nat) : Option (Nat × Nat) × State :=
  let h := s.port port
  if off = 0x0100 then (none, s.setPort port { h with ringSel := bits val 13 0 })
  else if off = 0x0200 then (none, s.setPort port { h with evqSel := bits val 5 0 })
  else if off = 0x0108 ∨ off = 0x0110 then
    let r := s.ring h.ringSel
    if boundHere r.port port = false ∨ ¬(r.st = .disabled ∨ r.st = .stopped) then
      (some (Status.contextState, h.ringSel), s)
    else if off = 0x0108 then
      if bits val 5 0 ≠ 0 then (some (Status.valueRange, h.ringSel), s)
      else (none, s.setRing h.ringSel { r with base := val % 2 ^ 64 })
    else if bits val 4 0 < 4 ∨ 16 < bits val 4 0 then (some (Status.valueRange, h.ringSel), s)
    else (none, s.setRing h.ringSel { r with config := bits val 4 0 + 256 * bits val 11 8 + 65536 * bits val 21 16
                                             log2 := bits val 4 0, ctx := bits val 11 8, notice := bits val 21 16 })
  else if off = 0x0208 ∨ off = 0x0210 then
    let q := s.queue h.evqSel
    if boundHere q.port port = false ∨ q.st ≠ .disabled then (some (Status.contextState, h.evqSel), s)
    else if off = 0x0208 then
      if bits val 11 0 ≠ 0 then (some (Status.valueRange, h.evqSel), s)
      else (none, s.setQueue h.evqSel { q with base := val % 2 ^ 64 })
    else if bits val 4 0 < 6 ∨ 20 < bits val 4 0 ∨ bits val 31 16 = 0 ∨ 1000000 < bits val 63 32 then
      (some (Status.valueRange, h.evqSel), s)
    else (none, s.setQueue h.evqSel { q with config := bits val 4 0 + 256 * bits val 8 8 + 65536 * bits val 63 16 })
  else if off = 0x0300 ∨ off = 0x0308 then
    if h.imgUsed ≠ [] then (some (Status.busy, 0), s)
    else if off = 0x0300 then
      if bits val 11 0 ≠ 0 then (some (Status.valueRange, 0), s)
      else (none, s.setPort port { h with imgBase := val % 2 ^ 64 })
    else if 4096 < bits val 12 0 ∨ (bits val 12 0 ≠ 0 ∧ (bits val 47 32 < 4 ∨ 4096 < bits val 47 32)) then
      (some (Status.valueRange, 0), s)
    else (none, s.setPort port { h with imgConfig := bits val 12 0 + 2 ^ 32 * bits val 47 32 })
  else if 0x8000 ≤ off ∧ off < 0x9000 then
    if h.mbxBusy then (none, s)
    else (none, s.setPort port { h with mbxReq := SMap.set 0 h.mbxReq (off - 0x8000) (BitVec.ofNat 8 val) })
  else (none, s)

/-! ### Fetched commands (R339, R371, R373, R375) -/

/-- Whether every reserved field of a command's body is zero (R119, R339, R373, R375 to R377). -/
def bodyOk (b : List Byte) : Bool :=
  let op := leAt b 0 1
  let zero := fun (o n : Nat) => leAt b o n == 0
  if op = 0x00 then zero 1 39
  else if op = 0x20 ∨ op = 0x21 then zero 3 1 && zero 24 16 && (leAt b 1 1 == 2 || zero 2 1)
  else if op = 0x30 then zero 2 6 && zero 24 16
  else if op = 0x31 then zero 1 3 && zero 8 32
  else if op = 0x40 then decide (leAt b 2 1 < 4) && zero 0x1C 4 && zero 0x26 2
  else if 0x50 ≤ op ∧ op ≤ 0x55 then
    decide (leAt b 1 1 < 8) && (op == 0x52 || (bits (leAt b 1 1) 0 0 == 0 && zero 12 4)) &&
      (bitOf (leAt b 1 1) 2 || zero 2 1) && zero 3 1 && zero 6 2 && ((op != 0x53 && op != 0x55) || zero 8 4) && zero 16 24
  else true

/-- Whether an opcode is known (R375). -/
def opKnown (op : Nat) : Bool := [0x00, 0x20, 0x21, 0x30, 0x31, 0x40].contains op || (decide (0x50 ≤ op) && decide (op ≤ 0x55))

/-- The status with which a command ends as it is fetched (R373): none when it may start. -/
def State.fetchStatus (s : State) (ctx : Nat) (c : RingCmd) : Option Nat :=
  if (s.ctx ctx).st = .gloved then some Status.contextGloved
  else if opKnown c.opcode = false then some Status.descriptorInvalid
  else if c.badReserved = true ∨ bodyOk c.body = false then some Status.reservedNonzero
  else none

/-- The ring whose turn it is (R373): the first from the turn onwards that is RUNNING and has posted entries. -/
def State.fetchTurn (s : State) : Option Nat :=
  let ready := (s.host.rings.filter fun p => p.2.st == .running && !p.2.disabling && p.2.fetched != p.2.tail).map (·.1)
  match ready.find? fun r => decide (s.host.nextRing ≤ r) with
  | some r => some r
  | none => ready.head?

/-- Runs a row of a ring command (R373): it acts when the next command of the ring to start has its opcode. -/
def State.runNext (s : State) (ring op : Nat) (f : RingCmd → State → State) : State :=
  let r := s.ring ring
  if r.st = .running ∨ r.st = .held then
    match r.nextToStart with
    | some c => if c.opcode = op then f c s else s
    | none => s
  else s

/-- The meaning of a row of a ring command: the ring it names exists. -/
def State.ringRow (s : State) (ring op : Nat) (f : RingCmd → State → State) : Host.Outcome State Fault Refusal :=
  guardUnit (decide (ring < 16384)) ring (s.runNext ring op f)

/-! ### Fences (R342) -/

/-- Whether a command writes what a fence guards. -/
def RingCmd.writes (c : RingCmd) : Bool := [0x20, 0x21, 0x30, 0x40].contains c.opcode

/-- Whether earlier commands of a ring still write (R342). -/
def Ring.unfenced (r : Ring) (index : Nat) : Bool :=
  (r.cmds.takeWhile fun d => d.index != index).any fun d => d.open && d.writes

/-- Sets whether the implied FENCE of a command holds it. -/
def State.setFencing (s : State) (ring index : Nat) (on : Bool) : State :=
  let r := s.ring ring
  s.setRing ring { r with cmds := r.cmds.map fun c => if c.index = index then { c with fencing := on } else c }

/-! ### Knot commands of rings (R338 to R340, R354) -/

/-- A knot command reaches the store, or leaves for its member (R338, R339). -/
def State.knotCmd (s : State) (ring : Nat) (c : RingCmd) : State :=
  let b := c.body
  let op := c.opcode
  let ctx := (s.ring ring).ctx
  let k := leAt b 4 2
  let v := leAt b 8 4
  let i := Issuer.ring ring c.index
  if bitOf (leAt b 1 1) 2 then
    if op = 0x54 then s.finishCmd ring c.index Status.descriptorInvalid
    else match s.remoteKnot ctx i (leAt b 2 1) b with
      | (some st, s) => s.finishCmd ring c.index st
      | (none, s) => s
  else if op = 0x50 ∨ op = 0x51 then
    let (st, s) := s.knotAdd k v ctx (op == 0x51)
    s.notify i k st
  else if op = 0x52 then
    match s.knotWaitOp k v ctx (bitOf (leAt b 1 1) 0) (leAt b 12 4) i with
    | (some st, s) => s.notify i k st
    | (none, s) => s
  else if op = 0x53 then (s.countKnotOp ctx).notify i k Status.ok
  else
    let (st, s) := s.knotInitOp k (signed 32 v) ctx
    s.notify i k st

/-- Starts a knot command (R339): an implied FENCE holds it, and every later command, while earlier writes are open. -/
def State.startKnot (s : State) (ring : Nat) (c : RingCmd) : State :=
  let s := s.startCmd ring c.index
  if bitOf (leAt c.body 1 1) 1 ∧ (s.ring ring).unfenced c.index = true then s.setFencing ring c.index true
  else s.knotCmd ring c

/-- A fence of a ring stops holding (R342). -/
def State.fenceRelease (s : State) (ring : Nat) : State :=
  let r := s.ring ring
  match r.cmds.find? fun c => c.st == .started && (c.opcode == 0x55 || c.fencing) with
  | none => s
  | some c =>
    if r.unfenced c.index then s
    else if c.fencing then (s.setFencing ring c.index false).knotCmd ring c
    else s.finishCmd ring c.index Status.ok

/-! ### Transfers (R376, R377) -/

/-- Where a COPY reaches: a store or a die's memory, and the offset. -/
structure CopySite where
  scratch : Bool
  die : Nat
  off : Nat
  deriving DecidableEq, Repr

/-- The target of a COPY body (R376): none on a breach. -/
def State.copySite (s : State) (ctx : Nat) (b : List Byte) : Option CopySite :=
  let len := leAt b 4 4
  let off := leAt b 16 8
  let t := leAt b 1 1
  if len < 2 ∨ 2 ^ 24 < len ∨ len % 2 ≠ 0 ∨ off % 2 ≠ 0 then none
  else if t = 2 then
    match SMap.find? s.memory.scratch ctx with
    | some (base, n) =>
      if leAt b 2 1 < s.mfg.part.memDies ∧ off + len ≤ n then some { scratch := true, die := leAt b 2 1, off := base + off }
      else none
    | none => none
  else
    match (s.ctx ctx).plan with
    | some p =>
      if t < 2 ∧ (p.tensors.any fun x => x.die == t && decide (x.off ≤ off) && decide (off + len ≤ x.off + x.len)) = true
      then some { scratch := false, die := t, off }
      else none
    | none => none

/-- Reads bytes for a host (R376, R444). -/
def State.readSite (s : State) (x : CopySite) (ctx o n : Nat) : List Byte × State :=
  if x.scratch then (s.memRead x.die (x.off + o) n, s)
  else (SMap.getList 0 s.engine.act (x.die * 2 ^ 26 + x.off + o) n,
    (s.portBytes false (0x60 + x.die) n).countStore x.die ctx 5 (x.off + o) n)

/-- Writes bytes from a host (R376, R444). -/
def State.writeSite (s : State) (x : CopySite) (ctx o : Nat) (d : List Byte) : State :=
  if x.scratch then s.memWrite x.die (x.off + o) d
  else ((s.land x.die 2 (x.off + o) d false).portBytes true (0x60 + x.die) d.length).countStore x.die ctx 5 (x.off + o)
    d.length

/-- How far a transfer of a ring has come when something looks at it or breaks it off: a free even number of bytes, short of
the whole (R376, R386; log entry 1). On a HELD ring transfers pause, so none has moved (R386). -/
def State.progress (s : State) (ring len : Nat) : Nat × State :=
  let (f, s) := s.takeFree
  (if (s.ring ring).st = .held then 0 else f % (len / 2 + 1) * 2, s)

/-- Sets what a transfer holds and how much of it has moved. -/
def State.setTransfer (s : State) (ring index : Nat) (d : List Byte) (moved : Nat) : State :=
  let r := s.ring ring
  s.setRing ring { r with cmds := r.cmds.map fun c => if c.index = index then { c with data := d, moved } else c }

/-- A transfer from the host starts: a part of its bytes has landed (R376). -/
def State.startIn (s : State) (ring : Nat) (c : RingCmd) (x : CopySite) (data : List Byte) : State :=
  let s := s.portBytes true (0x62 + (s.ring ring).port.getD 0) data.length
  let (m, s) := s.progress ring data.length
  (s.setTransfer ring c.index data m).writeSite x (s.ring ring).ctx 0 (data.take m)

/-- Moves the bytes of a COPY_FROM_DEVICE from `o` on (R376). -/
def State.moveOut (s : State) (ring : Nat) (c : RingCmd) (x : CopySite) (o n : Nat) : State :=
  let (d, s) := s.readSite x (s.ring ring).ctx o n
  if n = 0 then s else s.hostWrite ((s.ring ring).port.getD 0) (leAt c.body 8 8 + o) d

/-- A COPY_TO_DEVICE starts (R376). -/
def State.copyIn (s : State) (ring : Nat) (c : RingCmd) (data : List Byte) : State :=
  let ctx := (s.ring ring).ctx
  let s := s.startCmd ring c.index
  match s.copySite ctx c.body with
  | none => s.finishCmd ring c.index Status.valueRange
  | some x =>
    if ctx = 0 ∨ (s.ctx ctx).st = .running then s.finishCmd ring c.index Status.contextState
    else s.startIn ring c x (fitBytes (leAt c.body 4 4) data)

/-- A COPY_FROM_DEVICE starts (R376). -/
def State.copyOut (s : State) (ring : Nat) (c : RingCmd) : State :=
  let ctx := (s.ring ring).ctx
  let s := s.startCmd ring c.index
  match s.copySite ctx c.body with
  | none => s.finishCmd ring c.index Status.valueRange
  | some x =>
    let (m, s) := s.progress ring (leAt c.body 4 4)
    (s.setTransfer ring c.index [] m).moveOut ring c x 0 m

/-- A PLAN_LOAD starts (R214, R377). -/
def State.planLoad (s : State) (ring : Nat) (c : RingCmd) (data : List Byte) : State :=
  let n := leAt c.body 1 1
  let len := leAt c.body 8 8
  let s := s.startCmd ring c.index
  if 32 ≤ n ∨ len < 8576 then s.finishCmd ring c.index Status.valueRange
  else
    let (st, s) := s.openSlot n len
    if st ≠ Status.ok then s.finishCmd ring c.index st
    else
      let d := fitBytes len data
      let s := s.portBytes true (0x62 + (s.ring ring).port.getD 0) len
      let (m, s) := s.progress ring len
      let s := s.setTransfer ring c.index d m
      let x := s.planSlot n
      s.setSlot n { x with data := d.take m, spans := addSpan [] 0 m }

/-- Whether a COPY read a codeword that no correction helps (R324): its bytes are written as stored. -/
def State.readBad (s : State) (c : RingCmd) (x : CopySite) : Bool :=
  c.opcode == 0x21 && x.scratch && s.badIn x.die x.off (leAt c.body 4 4) [] != []

/-- A transfer ends: what had not moved moves (R376, R377). -/
def State.endTransfer (s : State) (ring : Nat) (c : RingCmd) : State :=
  let ctx := (s.ring ring).ctx
  if c.opcode = 0x30 then
    let n := leAt c.body 1 1
    let s := (s.setSlot n { s.planSlot n with data := c.data }).closeSlot n
    s.finishCmd ring c.index Status.ok n
  else match s.copySite ctx c.body with
    | none => s.finishCmd ring c.index Status.ok c.moved
    | some x =>
      let len := leAt c.body 4 4
      let s := if c.opcode = 0x20 then s.writeSite x ctx c.moved (c.data.drop c.moved)
               else s.moveOut ring c x c.moved (len - c.moved)
      s.finishCmd ring c.index (if s.readBad c x then Status.discarded else Status.ok) len

/-! ### Jobs (R377) -/

/-- A job is submitted (R377, R414). Beyond 64 jobs of its context the command waits, and with it its ring. -/
def State.jobSubmit (s : State) (ring : Nat) (c : RingCmd) : State :=
  let n := (s.ring ring).ctx
  let x := s.ctx n
  match x.plan with
  | none => (s.startCmd ring c.index).finishCmd ring c.index Status.noContext
  | some p =>
    if p.cls = 0 ∨ x.st = .stopped then (s.startCmd ring c.index).finishCmd ring c.index Status.contextState
    else if 64 ≤ x.jobs.length then s
    else
      let s := s.startCmd ring c.index
      let s := s.setCtx n { x with
        jobs := x.jobs ++ [({ ring, index := c.index, tag := leAt c.body 4 4 } : Job)]
        nextStep := if x.jobs = [] then 0 else x.nextStep
        st := if x.st = .idle then .ready else x.st }
      let s := if x.jobs = [] then s.prepareStep n else s
      s.trackReady.autoWake

/-! ### Tunnels (R364, R366, R386) -/

/-- The rings bound to a port. -/
def State.ringsAt (s : State) (port : Nat) : List Nat := (s.host.rings.filter fun p => p.2.port == some port).map (·.1)

/-- The queues bound to a port. -/
def State.queuesAt (s : State) (port : Nat) : List Nat := (s.host.queues.filter fun p => p.2.port == some port).map (·.1)

/-- A ring that no longer answers for the commands it had: what finishes later finishes without a completion (R386). -/
def noRing : Nat := 16384

/-- Takes a ring's number out of what is still to finish for it (R386). Its waiters and transfers are gone. -/
def State.orphan (s : State) (ring : Nat) : State :=
  let its := fun (w : Waiter) => match w.issuer with
    | .ring r _ => r == ring
    | _ => false
  let s := (s.setWaiters (s.knots.waiters.filter fun w => !its w)).settleQueues ((s.knots.waiters.filter its).map fun w => w.knot)
  let s := s.breakLoad ((s.ring ring).loading fun _ => true)
  let freed := fun (r : Nat) => if r = ring then noRing else r
  { s with
    engine := { s.engine with
      ctxs := s.engine.ctxs.map (fun (p : Nat × Context) =>
        (p.1, { p.2 with jobs := p.2.jobs.map (fun (j : Job) => { j with ring := freed j.ring }) })) }
    pipe := { s.pipe with
      decode := s.pipe.decode.map (fun (p : Nat × List DecReq) =>
        (p.1, p.2.map (fun (d : DecReq) => { d with ring := freed d.ring }))) }
    knots := { s.knots with
      requests := s.knots.requests.map (fun (q : TReq) => match q.issuer with
        | .ring r i => { q with issuer := .ring (freed r) i }
        | _ => q) } }

/-- A ring of a port that is given up (R386): STOPPED, or DISABLED when its DISABLE waited. -/
def State.stopRing (s : State) (ring : Nat) : State :=
  let s := s.orphan ring
  let r := s.ring ring
  if r.disabling then s.setRing ring { r with st := .disabled, port := none, cmds := [], disabling := false }
  else if r.st = .disabled then s
  else s.setRing ring { r with st := .stopped, cmds := [] }

/-- A queue that is disabled (R378, R386): its held records are dropped and counted. -/
def State.disableQueue (s : State) (q : Nat) (unbind : Bool) : State :=
  let e := s.queue q
  (s.setQueue q { e with st := .disabled, port := if unbind then none else e.port, held := [] }).bump
    (K.evqRecordsDropped q) e.held.length

/-- A tunnel is lost (R386, R76). -/
def State.loseTunnel (s : State) (port : Nat) : State :=
  let s := (s.ringsAt port).foldl (fun s r =>
    let x := s.ring r
    if x.st = .running then s.setRing r { x with st := .held } else s) s
  let s := (s.queuesAt port).foldl (fun s q =>
    let x := s.queue q
    if x.st = .enabled then s.setQueue q { x with st := .held } else s) s
  let s := s.dropSession (mbxSession port)
  s.setPort port { s.port port with mbxBusy := false, mbxReady := false, mbxResp := [] }

/-- A port is given up (R386). -/
def State.detach (s : State) (port : Nat) : State :=
  let s := (s.ringsAt port).foldl (fun s r => s.stopRing r) s
  let s := (s.queuesAt port).foldl (fun s q => if (s.queue q).st = .disabled then s else s.disableQueue q false) s
  s.setPort port { s.port port with st := .detached, imgConfig := 0, imgUsed := [] }

/-- The held BOOT record goes to its queue once that is enabled, as its first record (R466). -/
def State.releaseBoot (s : State) : State :=
  match s.host.bootRec with
  | none => s
  | some r =>
    let q := s.reg (K.eventRoute (RType.boot - 1))
    if q ≠ 0xFF ∧ (s.queue q).st = .enabled then
      let e := s.queue q
      let s := { s with host := { s.host with bootRec := none } }
      (s.setQueue q { e with held := r :: e.held }).drainQueue q 300
    else s

/-- A tunnel is back within its hold time (R386). -/
def State.regainTunnel (s : State) (port : Nat) : State :=
  let s := s.setPort port { s.port port with st := .up }
  let s := (s.ringsAt port).foldl (fun s r =>
    let x := s.ring r
    if x.st = .held then (s.setRing r { x with st := .running }).flush r else s) s
  let s := (s.queuesAt port).foldl (fun s q =>
    let x := s.queue q
    if x.st = .held then ((s.setQueue q { x with st := .enabled }).drainQueue q 300).signal q else s) s
  s.releaseBoot

end Sys2Proof.Machine
end

