-- ==== Sys2Proof/Machine/Host.lean ====
section
/-! DEFINITION. The host link: tunnels, host windows, rings and their commands, event queues (spec/16, with R338 to R342
and R428). -/

namespace Sys2Proof.Machine

/-! ### Links and tunnels (R364, R386) -/

/-- A USB4 link without a tunnel comes up or goes down (R364, R388). While the port is UP its link does not go without
its tunnel, which TUNNEL_LOST says first. -/
def State.linkChange (s : State) (port : Nat) (up : Bool) (rate : Nat) : State :=
  let h := s.port port
  if s.usbOn = false ∨ h.st = .up then s
  else if up then
    (s.setReg (K.hostLinkRate port) (if rate = 1 then 1 else 2)).setPort port
      { h with st := if h.st = .noLink then .noTunnel else h.st }
  else
    (s.setReg (K.hostLinkRate port) 0).setPort port { h with st := if h.st = .noTunnel then .noLink else h.st }

/-- USB4_LINK_CHANGE (R364). -/
def execUsb4LinkChange (port : Nat) (up : Bool) (rate : Nat) (s : State) : Host.Outcome State Fault Refusal :=
  guardUnit (decide (port < 2)) port (s.linkChange port up rate)

/-- A tunnel and its enables come up, on a link that is up (R364, R386). -/
def State.tunnelUp (s : State) (port : Nat) : State :=
  let h := s.port port
  if s.usbOn = false ∨ h.st = .up ∨ s.reg (K.hostLinkRate port) = 0 then s
  else if h.st = .lost ∧ s.reg K.tunnelHoldTime * 250000 ≤ s.tick - h.lostAt then (s.detach port).regainTunnel port
  else s.regainTunnel port

/-- TUNNEL_UP (R386). -/
def execTunnelUp (port : Nat) (s : State) : Host.Outcome State Fault Refusal :=
  guardUnit (decide (port < 2)) port (s.tunnelUp port)

/-- A port that was UP loses its tunnel or an enable (R386). -/
def State.tunnelLost (s : State) (port : Nat) : State :=
  if (s.port port).st = .up then
    let s := s.loseTunnel port
    (s.setPort port { s.port port with st := .lost, lostAt := s.tick }).bump (K.tunnelLosses port)
  else s

/-- TUNNEL_LOST (R386). -/
def execTunnelLost (port : Nat) (s : State) : Host.Outcome State Fault Refusal :=
  guardUnit (decide (port < 2)) port (s.tunnelLost port)

/-- TunnelHoldTime has passed (R386). -/
def State.holdExpiry (s : State) (port : Nat) : State :=
  let h := s.port port
  if h.st = .lost ∧ s.reg K.tunnelHoldTime * 250000 ≤ s.tick - h.lostAt then s.detach port else s

/-- TUNNEL_HOLD_EXPIRY (R386). -/
def execTunnelHoldExpiry (port : Nat) (s : State) : Host.Outcome State Fault Refusal :=
  guardUnit (decide (port < 2)) port (s.holdExpiry port)

/-- A Function Level Reset (R364, R386): it never enters LOST, so TunnelLosses does not count it. -/
def State.levelReset (s : State) (port : Nat) : State :=
  if (s.port port).st = .noLink ∨ s.usbOn = false then s else (s.loseTunnel port).detach port

/-- FUNCTION_LEVEL_RESET (R386). -/
def execFunctionLevelReset (port : Nat) (s : State) : Host.Outcome State Fault Refusal :=
  guardUnit (decide (port < 2)) port (s.levelReset port)

/-! ### Host windows (R369, R370, R384, R387) -/

/-- The codes that HWIN_RING_STATE and HWIN_EVQ_STATE read (R369). -/
def RingSt.code : RingSt → Nat
  | .disabled => 0
  | .running => 1
  | .held => 2
  | .stopped => 3

/-- The state of an event queue as HWIN_EVQ_STATE reads it. -/
def QueueSt.code : QueueSt → Nat
  | .disabled => 0
  | .enabled => 1
  | .held => 2

/-- Fields of a register: value and lowest bit of each. -/
def fields (l : List (Nat × Nat)) : Nat := (l.map fun x => x.1 * 2 ^ x.2).sum

/-- What a 64-bit read of a host window returns at an 8-byte-aligned offset (R9, R369): reserved bits, write-only registers
and unlisted offsets read 0 (R3). A read has no row among the commands and changes nothing. -/
def State.hwinRead (s : State) (port off : Nat) : Nat :=
  let h := s.port port
  let r := s.ring h.ringSel
  let e := s.queue h.evqSel
  if off = 0x0000 then fields [(0x4E495748, 0), (1, 32), (port, 48), (s.mfg.part.code, 56)]
  else if off = 0x0008 then
    fields [(bitNat (s.ctl.serving && !s.faults.stalled), 0), (bitNat ((s.port (1 - port)).st == .up), 1), (h.st.code, 8),
      ((s.port (1 - port)).st.code, 16), (s.reg K.configGeneration, 32)]
  else if off = 0x0010 then fields [(s.pos, 0), (s.belt.st.code, 48)]
  else if off = 0x0018 then s.t64
  else if off = 0x0020 then fields [(h.errStatus, 0), (h.errUnit, 16), (h.errOffset, 32), (h.errCount, 48)]
  else if off = 0x0100 then h.ringSel
  else if off = 0x0108 then r.base
  else if off = 0x0110 then fields [(bits r.config 4 0, 0), (bits r.config 11 8, 8), (bits r.config 21 16, 16)]
  else if off = 0x0120 then fields [(r.st.code, 0), (r.port.getD 0xFF, 8), (r.lastStatus, 16), (r.fetched, 32)]
  else if off = 0x0128 then fields [(r.completed, 0), (r.tail, 32)]
  else if off = 0x0200 then h.evqSel
  else if off = 0x0208 then e.base
  else if off = 0x0210 then fields [(bits e.config 4 0, 0), (bits e.config 8 8, 8), (bits e.config 31 16, 16), (bits e.config 63 32, 32)]
  else if off = 0x0220 then fields [(e.st.code, 0), (e.port.getD 0xFF, 8), (e.held.length, 16), (e.written, 32)]
  else if off = 0x0300 then h.imgBase
  else if off = 0x0308 then fields [(h.imgSlots, 0), (bits h.imgConfig 47 32, 32)]
  else if off = 0x0318 then fields [(h.imgSlots - h.imgUsed.length, 0), (h.imgWritten, 32)]
  else if off = 0x0408 then fields [(bitNat h.mbxBusy, 0), (bitNat h.mbxReady, 1), (h.mbxResp.length, 16)]
  else if 0x8000 ≤ off ∧ off < 0x9000 then leNat (SMap.getList 0 h.mbxReq (off - 0x8000) 8)
  else if 0x9000 ≤ off ∧ off < 0xA000 then leAt h.mbxResp (off - 0x9000) 8
  else 0

/-- Writes a register that has no row of its own (R370). -/
def State.hwinRegister (s : State) (port off val : Nat) : State :=
  match s.hwinWrite port off val with
  | (none, s) => s
  | (some (st, u), s) => s.hwinError port st u off

/-- HWIN_REGISTER_WRITE (R370). -/
def execHwinRegisterWrite (port offset val : Nat) (s : State) : Host.Outcome State Fault Refusal :=
  s.inWindow port fun s => s.hwinRegister port offset val

/-- Any write clears HWIN_ERROR (R369). -/
def State.hwinErrorClear (s : State) (port : Nat) : State :=
  s.setPort port { s.port port with errStatus := 0, errUnit := 0, errOffset := 0, errCount := 0 }

/-- HWIN_ERROR_CLEAR (R369). -/
def execHwinErrorClear (port _val : Nat) (s : State) : Host.Outcome State Fault Refusal :=
  s.inWindow port fun s => s.hwinErrorClear port

/-- ENABLE of the selected ring (R372). -/
def State.ringEnable (s : State) (port : Nat) : State :=
  let n := (s.port port).ringSel
  let r := s.ring n
  if boundHere r.port port = false ∨ ¬(r.st = .disabled ∨ r.st = .stopped) then
    s.hwinError port Status.contextState n 0x0118
  else if r.base = 0 then s.hwinError port Status.valueRange n 0x0118
  else (s.setRing n { r with st := .running, port := some port, fetched := 0, completed := 0, tail := 0, cmds := []
                             disabling := false })

/-- RING_ENABLE (R372). -/
def execRingEnable (port : Nat) (s : State) : Host.Outcome State Fault Refusal := s.inWindow port fun s => s.ringEnable port

/-- DISABLE of the selected ring (R372). -/
def State.ringDisable (s : State) (port : Nat) : State :=
  let n := (s.port port).ringSel
  let r := s.ring n
  if r.port ≠ some port then s.hwinError port Status.contextState n 0x0118
  else if r.cmds = [] then (s.setRing n { r with st := .disabled, port := none, disabling := false })
  else s.setRing n { r with disabling := true }

/-- RING_DISABLE (R372). -/
def execRingDisable (port : Nat) (s : State) : Host.Outcome State Fault Refusal := s.inWindow port fun s => s.ringDisable port

/-- A doorbell is checked and taken (R372). -/
def State.ringBell (s : State) (port n tail : Nat) : State :=
  let r := s.ring n
  let refuse := fun (st : Nat) => (s.hwinError port st n 0x0130).bump K.doorbellsRefused
  if ¬(r.st = .running ∨ r.st = .held) ∨ r.port ≠ some port then refuse Status.contextState
  else
    let step := (tail + 2 ^ 32 - r.tail) % 2 ^ 32
    if step = 0 ∨ r.size < step ∨ r.size < (tail + 2 ^ 32 - r.completed) % 2 ^ 32 then refuse Status.ringFull
    else s.setRing n { r with tail := tail }

/-- A doorbell below RUN waits for RUN; where WakeSources admits it, it wakes the device (R428 to R430). -/
def State.doorbell (s : State) (port val : Nat) : State :=
  let n := bits val 13 0
  let tail := bits val 63 32
  if s.power.st = .run ∧ s.power.trans.isNone then s.ringBell port n tail
  else
    let s := { s with power := { s.power with heldBells := s.power.heldBells ++ [(port, n, tail)] } }
    (s.autoWake).wake 1 [.ready, .doze]

/-- HWIN_RING_DOORBELL (R372). -/
def execHwinRingDoorbell (port val : Nat) (s : State) : Host.Outcome State Fault Refusal :=
  s.inWindow port fun s => s.doorbell port val

/-- ENABLE of the selected queue (R378, R466). -/
def State.evqEnable (s : State) (port : Nat) : State :=
  let n := (s.port port).evqSel
  let e := s.queue n
  if boundHere e.port port = false ∨ e.st ≠ .disabled then s.hwinError port Status.contextState n 0x0218
  else
    (s.setQueue n { base := e.base, config := e.config, st := .enabled, port := some port }).releaseBoot

/-- EVQ_ENABLE (R378). -/
def execEvqEnable (port : Nat) (s : State) : Host.Outcome State Fault Refusal := s.inWindow port fun s => s.evqEnable port

/-- DISABLE of the selected queue (R378). -/
def State.evqDisable (s : State) (port : Nat) : State :=
  let n := (s.port port).evqSel
  if (s.queue n).port ≠ some port then s.hwinError port Status.contextState n 0x0218
  else (s.disableQueue n true)

/-- EVQ_DISABLE (R378). -/
def execEvqDisable (port : Nat) (s : State) : Host.Outcome State Fault Refusal := s.inWindow port fun s => s.evqDisable port

/-- The host moves a queue's head (R379 to R381). -/
def State.evqHead (s : State) (port val : Nat) : State :=
  let n := bits val 5 0
  let v := bits val 63 32
  let e := s.queue n
  if e.port ≠ some port then s.hwinError port Status.contextState n 0x0228
  else if (e.written + 2 ^ 32 - e.head) % 2 ^ 32 < (e.written + 2 ^ 32 - v) % 2 ^ 32 then
    s.hwinError port Status.valueRange n 0x0228
  else ((s.setQueue n { e with head := v, armed := true }).signal n).drainQueue n 300

/-- HWIN_EVQ_HEAD (R379). -/
def execHwinEvqHead (port val : Nat) (s : State) : Host.Outcome State Fault Refusal :=
  s.inWindow port fun s => s.evqHead port val

/-- EVQ_TIME_THRESHOLD (R381). -/
def execEvqTimeThreshold (queue : Nat) (s : State) : Host.Outcome State Fault Refusal :=
  guardUnit (decide (queue < 64)) queue (s.signal queue)

/-- The host returns a slot of its image pool (R384). -/
def State.imgRelease (s : State) (port val : Nat) : State :=
  let h := s.port port
  s.setPort port { h with imgUsed := h.imgUsed.filter fun x => x != bits val 11 0 }

/-- HWIN_IMG_RELEASE (R384). -/
def execHwinImgRelease (port val : Nat) (s : State) : Host.Outcome State Fault Refusal :=
  s.inWindow port fun s => s.imgRelease port val

/-- A port adopts what a DETACHED one had (R387). -/
def State.adopt (s : State) (port val : Nat) : State :=
  let p := val % 2
  if p = port ∨ (s.port p).st ≠ .detached then s.hwinError port Status.contextState 0 0x0028
  else
    let s := (s.ringsAt p).foldl (fun s r => s.setRing r { s.ring r with port := some port }) s
    (s.queuesAt p).foldl (fun s q => s.setQueue q { s.queue q with port := some port }) s

/-- HWIN_PORT_ADOPT (R387). -/
def execHwinPortAdopt (port val : Nat) (s : State) : Host.Outcome State Fault Refusal :=
  s.inWindow port fun s => s.adopt port val

/-! ### Rings (R371 to R377) -/

/-- The engine fetches the entry whose turn it is (R371, R373): 64 bytes of host memory. -/
def State.fetch (s : State) (entry : List Byte) : State :=
  match s.fetchTurn with
  | none => s
  | some n =>
    if s.host.fetching = false ∨ s.supplies.inReset = true then s
    else
      let r := s.ring n
      let c : RingCmd := { index := r.fetched, id := leAt entry 0 4, notify := bitOf (leAt entry 4 1) 0
                           badReserved := decide (1 < leAt entry 4 1) || leAt entry 5 3 != 0, body := bytesAt entry 8 40 }
      let s := s.portBytes true (0x62 + r.port.getD 0) 64
      let s := s.setRing n { r with fetched := (r.fetched + 1) % 2 ^ 32, cmds := r.cmds ++ [c] }
      let s := { s with host := { s.host with nextRing := n + 1 } }
      match s.fetchStatus r.ctx c with
      | some st => s.finishCmd n c.index st
      | none => s

/-- RING_FETCH (R373). -/
def execRingFetch (entry : List Byte) (s : State) : Host.Outcome State Fault Refusal := .next (s.fetch entry)

/-- The oldest transfer of a ring ends (R373, R376, R377); it pauses while its port is LOST (R386). -/
def State.cmdComplete (s : State) (ring : Nat) : State :=
  let r := s.ring ring
  if r.st ≠ .running then s
  else match r.cmds.find? fun c => c.st == .started && [0x20, 0x21, 0x30].contains c.opcode with
    | some c => s.endTransfer ring c
    | none => s

/-- RING_COMMAND_COMPLETE (R373). -/
def execRingCommandComplete (ring : Nat) (s : State) : Host.Outcome State Fault Refusal :=
  guardUnit (decide (ring < 16384)) ring (s.cmdComplete ring)

/-- RING_NOP (R375). -/
def execRingNop (ring : Nat) (s : State) : Host.Outcome State Fault Refusal :=
  s.ringRow ring 0x00 fun c s => s.finishCmd ring c.index Status.ok

/-- COPY_TO_DEVICE (R376). -/
def execCopyToDevice (ring : Nat) (data : List Byte) (s : State) : Host.Outcome State Fault Refusal :=
  s.ringRow ring 0x20 fun c s => s.copyIn ring c data

/-- COPY_FROM_DEVICE (R376). -/
def execCopyFromDevice (ring : Nat) (s : State) : Host.Outcome State Fault Refusal :=
  s.ringRow ring 0x21 fun c s => s.copyOut ring c

/-- PLAN_LOAD (R377). -/
def execPlanLoad (ring : Nat) (data : List Byte) (s : State) : Host.Outcome State Fault Refusal :=
  s.ringRow ring 0x30 fun c s => s.planLoad ring c data

/-- JOB_SUBMIT (R377). -/
def execJobSubmit (ring : Nat) (s : State) : Host.Outcome State Fault Refusal :=
  s.ringRow ring 0x31 fun c s => s.jobSubmit ring c

/-- KNOT_ADD (R338). -/
def execKnotAdd (ring : Nat) (s : State) : Host.Outcome State Fault Refusal :=
  s.ringRow ring 0x50 fun c s => s.startKnot ring c

/-- KNOT_SUB (R338). -/
def execKnotSub (ring : Nat) (s : State) : Host.Outcome State Fault Refusal :=
  s.ringRow ring 0x51 fun c s => s.startKnot ring c

/-- KNOT_WAIT (R340). -/
def execKnotWait (ring : Nat) (s : State) : Host.Outcome State Fault Refusal :=
  s.ringRow ring 0x52 fun c s => s.startKnot ring c

/-- KNOT_READ (R338). -/
def execKnotRead (ring : Nat) (s : State) : Host.Outcome State Fault Refusal :=
  s.ringRow ring 0x53 fun c s => s.startKnot ring c

/-- KNOT_INIT (R338). -/
def execKnotInit (ring : Nat) (s : State) : Host.Outcome State Fault Refusal :=
  s.ringRow ring 0x54 fun c s => s.startKnot ring c

/-- FENCE (R342). -/
def execFence (ring : Nat) (s : State) : Host.Outcome State Fault Refusal :=
  s.ringRow ring 0x55 fun c s => s.startCmd ring c.index

/-- FENCE_RELEASE (R342). -/
def execFenceRelease (ring : Nat) (s : State) : Host.Outcome State Fault Refusal :=
  guardUnit (decide (ring < 16384)) ring (s.fenceRelease ring)

end Sys2Proof.Machine
end

