-- ==== Sys2Proof/Machine/Network.lean ====
section
/-! DEFINITION. The Ethernet ports, PTP and the choice of the timescale (R389 to R401). -/

namespace Sys2Proof.Machine

/-! ### Ports (R389, R390) -/

/-- One Ethernet port. -/
def State.ethPort (s : State) (p : Nat) : EthPort := SMap.get {} s.net.eth p

/-- Sets one Ethernet port. -/
def State.setEth (s : State) (p : Nat) (x : EthPort) : State :=
  { s with net := { s.net with eth := SMap.set {} s.net.eth p x } }

/-- Whether frames pass a port: its link is up in a power state that keeps Ethernet up (R427). -/
def State.ethOn (s : State) (p : Nat) : Bool := s.usbOn && s.reg (K.portLinkState p) == 1

/-- An accepted frame of a number of bytes, FCS included (R403, R450). -/
def State.frameIn (s : State) (p n : Nat) : State := (s.bump (K.framesReceived p)).portBytes true (0x64 + p) n

/-- A dropped frame (R390). -/
def State.frameDrop (s : State) (p : Nat) : State := s.bump (K.framesDropped p)

/-- A frame arrives at a port: nothing does while its link is down. -/
def State.onEth (s : State) (p : Nat) (f : State → State) : Host.Outcome State Fault Refusal :=
  guardUnit (decide (p < 2)) p (if s.ethOn p then f s else s)

/-- Bytes of a frame from its destination address to its FCS, with `n` bytes after the Ethernet header: the least size
is 64, and a VLAN tag adds 4 (R389, R450). -/
def State.frameLen (s : State) (p n : Nat) : Nat :=
  max 64 (n + 18) + if s.reg (K.vlanId p) = 0 then 0 else 4

/-- The latencies that were trimmed for a rate come into force with it (R397). -/
def State.takeTrims (s : State) (p rate : Nat) : State :=
  let trim := fun (k i : Nat) => SMap.get (defaultOf s.mfg k) s.mfg.trims (4 * p + i + rate - 1)
  (s.setReg (K.ingressLatency p) (trim (K.ingressLatency p) 0)).setReg (K.egressLatency p) (trim (K.egressLatency p) 2)

/-- A port's link changes (R389). A port that is not enabled holds its link down. -/
def State.portLink (s : State) (p : Nat) (up : Bool) (rate : Nat) : State :=
  if up then
    if s.usbOn = true ∧ s.flag (K.portEnable p) = true then
      let r := if rate = 1 then 1 else 2
      ((s.setReg (K.portLinkState p) 1).setReg (K.portLinkRate p) r).takeTrims p r
    else s
  else if s.reg (K.portLinkState p) = 1 then
    ((s.setReg (K.portLinkState p) 0).setReg (K.portLinkRate p) 0).bump (K.linkLosses p)
  else s

/-- PORT_LINK_CHANGE (R389). -/
def execPortLinkChange (eth : Nat) (up : Bool) (rate : Nat) (s : State) : Host.Outcome State Fault Refusal :=
  guardUnit (decide (eth < 2)) eth (s.portLink eth up rate)

/-- The address of a port; 0 answers nothing over IP (R391). -/
def State.ipv4 (s : State) (p : Nat) : Nat := s.reg (K.ipv4Address p)

/-- An ARP request (R390). -/
def State.arpRequest (s : State) (p ip mac target : Nat) : State :=
  if target = s.ipv4 p ∧ target ≠ 0 then
    let n := s.frameLen p 28
    ((s.frameIn p n).send (.arp p ip mac)).portBytes false (0x64 + p) n
  else s.frameDrop p

/-- ARP_REQUEST (R390). -/
def execArpRequest (eth ip mac target : Nat) (s : State) : Host.Outcome State Fault Refusal :=
  s.onEth eth fun s => s.arpRequest eth ip mac target

/-- An ARP reply whose target is the port's address is learned, another is dropped (R390): the 64 latest addresses stay. -/
def State.arpReply (s : State) (p : Nat) (h : ArpHost) (target : Nat) : State :=
  if target = s.ipv4 p ∧ target ≠ 0 then
    let s := s.frameIn p (s.frameLen p 28)
    let x := s.ethPort p
    s.setEth p { x with arp := ((h.ip, h.mac, s.tick) :: x.arp.filter fun e => e.1 != h.ip).take 64 }
  else s.frameDrop p

/-- ARP_REPLY (R390). -/
def execArpReply (eth : Nat) (sender : ArpHost) (target : Nat) (s : State) : Host.Outcome State Fault Refusal :=
  s.onEth eth fun s => s.arpReply eth sender target

/-- An entry of the cache has been held for 300 s (R390). -/
def State.arpExpiry (s : State) (p ip : Nat) : State :=
  let x := s.ethPort p
  s.setEth p { x with arp := x.arp.filter fun e => e.1 != ip || decide (s.tick < e.2.2 + 75000000000) }

/-- ARP_CACHE_EXPIRY (R390). -/
def execArpCacheExpiry (eth ip : Nat) (s : State) : Host.Outcome State Fault Refusal :=
  guardUnit (decide (eth < 2)) eth (s.arpExpiry eth ip)

/-- An ICMP echo request (R390): at most 100 in a second are answered. -/
def State.icmpEcho (s : State) (p src dst : Nat) (data : List Byte) : State :=
  let x := s.ethPort p
  let x := if x.icmpTick + 250000000 ≤ s.tick ∨ x.icmpCount = 0 then { x with icmpTick := s.tick, icmpCount := 0 } else x
  if dst = s.ipv4 p ∧ dst ≠ 0 ∧ x.icmpCount < 100 then
    let n := s.frameLen p (28 + data.length)
    (((s.setEth p { x with icmpCount := x.icmpCount + 1 }).frameIn p n).send (.icmp p src data)).portBytes false (0x64 + p) n
  else s.frameDrop p

/-- ICMP_ECHO_REQUEST (R390). -/
def execIcmpEchoRequest (eth src dst : Nat) (data : List Byte) (s : State) : Host.Outcome State Fault Refusal :=
  s.onEth eth fun s => s.icmpEcho eth src dst data

/-- ETHERNET_FRAME_DROPPED (R390). -/
def execEthernetFrameDropped (eth : Nat) (s : State) : Host.Outcome State Fault Refusal :=
  s.onEth eth fun s => s.frameDrop eth

/-! ### Correction words (R392, R393) -/

/-- One tracked domain. -/
def State.domain (s : State) (d : Nat) : Domain := SMap.get {} s.net.dom d

/-- Sets one tracked domain. -/
def State.setDomain (s : State) (d : Nat) (x : Domain) : State :=
  { s with net := { s.net with dom := SMap.set {} s.net.dom d x } }

/-- DomainTime of a LocalTime (R392). -/
def CorrWord.time (w : CorrWord) (t : Int) : Int := t + w.offset + w.rate * (t - w.base) / 2 ^ 32

/-- The word carried on from now at another rate, its time unbroken. -/
def CorrWord.carry (w : CorrWord) (now : Nat) (rate : Int) : CorrWord := { base := now, offset := w.time now - now, rate }

/-- The latest word formed for T64, landed or crossing (R393). -/
def State.lastWord (s : State) : CorrWord := s.net.crossing.getLast?.getD s.net.word

/-- A word for T64 leaves over the Time copy crossing (R393). -/
def State.formWord (s : State) (w : CorrWord) : State := { s with net := { s.net with crossing := s.net.crossing ++ [w] } }

/-- The oldest word lands, and T64 is formed with it from then on (R393). -/
def State.landWord (s : State) : State :=
  match s.net.crossing with
  | [] => s
  | w :: rest => { s with net := { s.net with word := w, crossing := rest } }

/-- TIME_COPY_UPDATE (R393). -/
def execTimeCopyUpdate (s : State) : Host.Outcome State Fault Refusal := .next s.landWord

/-! ### Choosing the timescale (R399 to R401) -/

/-- The state of a tracked domain: DISABLED while it is not enabled (R398). -/
def State.domSt (s : State) (d : Nat) : DomSt := if s.flag (K.ptpDomainEnable d) then (s.domain d).st else .disabled

/-- A TIME_STATE record (R401). -/
def State.timeRec (s : State) (cause : Nat) (delta : Int) : State :=
  let d := clampInt (-(2 ^ 31)) (2 ^ 31 - 1) delta
  s.emit (s.recAt RType.timeState Unit.network
    (s.net.timeSt + 256 * (s.net.selected.getD 255) + 65536 * cause + 2 ^ 32 * unsigned 32 d))

/-- The extra rate of a slew towards a difference (R399): 100 ppm, in 2^−32. -/
def slewRate (delta : Int) : Int := if delta < 0 then -429497 else 429497

/-- The word that T64 takes from its domain now (R393, R399): the domain's own, or, while a switch is slewed out, T64
carried on at the domain's rate and 100 ppm. -/
def State.followDomain (s : State) (d : Nat) : State :=
  match s.net.slew with
  | some (_, delta, _) => s.formWord (s.lastWord.carry s.localTime ((s.domain d).corr.rate + slewRate delta))
  | none => s.formWord (s.domain d).corr

/-- T64 changes to another domain (R399). -/
def State.switchTo (s : State) (d cause : Nat) : State :=
  let now := s.localTime
  let delta := (s.domain d).corr.time now - s.lastWord.time now
  let s := { s with net := { s.net with selected := some d, timeSt := 1, slew := none } }
  let s := s.bump K.domainSwitches
  let s := if delta = 0 then s.followDomain d
    else if delta.natAbs ≤ s.reg K.switchStepLimit then
      ({ s with net := { s.net with slew := some (now, delta, delta.natAbs * 10000) } } : State).followDomain d
    else (s.bump K.timeSteps).followDomain d
  s.timeRec cause delta

/-- The first row of R399 that fits. -/
def State.chooseTime (s : State) : State :=
  match s.net.selected with
  | none =>
    match [0, 1].find? fun d => s.domSt d == .locked with
    | none => s
    | some d =>
      let delta := (s.domain d).corr.time s.localTime - s.localTime
      let s := { s with net := { s.net with selected := some d, everLocked := true, timeSt := 1 } }
      ((s.bump K.timeSteps).followDomain d).timeRec 1 delta
  | some d =>
    let o := 1 - d
    if s.domSt d = .locked then
      if s.flag K.domainRevertive ∧ o = s.reg K.timeDomainPreferred ∧ s.domSt o = .locked ∧
          (s.domain o).lockedSince + 15000000000 ≤ s.tick then s.switchTo o 3
      else if s.net.timeSt ≠ 1 then
        let (f, s) := s.takeFree
        ({ s with net := { s.net with timeSt := 1 } } : State).timeRec (f % 256) 0
      else s
    else if s.domSt o = .locked then s.switchTo o 2
    else if s.net.timeSt = 1 then
      let s := { s with net := { s.net with timeSt := 2, holdAt := s.tick } }
      (s.bump K.timeHoldoverEntries).timeRec 5 0
    else s

/-- DOMAIN_REVERT (R399). -/
def execDomainRevert (s : State) : Host.Outcome State Fault Refusal := .next s.chooseTime

/-- Δ of a switch is used up (R399). -/
def State.slewDone (s : State) : State :=
  match s.net.slew, s.net.selected with
  | some (start, _, dur), some d =>
    if start + dur ≤ s.localTime then ({ s with net := { s.net with slew := none } } : State).followDomain d else s
  | _, _ => s

/-- SLEW_COMPLETE (R399). -/
def execSlewComplete (s : State) : Host.Outcome State Fault Refusal := .next s.slewDone

/-- HoldoverLimit has passed in HOLDOVER (R400). -/
def State.holdLimit (s : State) : State :=
  if s.net.timeSt = 2 ∧ s.reg K.holdoverLimit * 250000000 ≤ s.tick - s.net.holdAt then
    ({ s with net := { s.net with timeSt := 0 } } : State).timeRec 6 0
  else s

/-- HOLDOVER_LIMIT_EXPIRY (R400). -/
def execHoldoverLimitExpiry (s : State) : Host.Outcome State Fault Refusal := .next s.holdLimit

/-! ### The servo (R397, R398) -/

/-- The mean rate of a domain's latest updates (R400). -/
def Domain.meanRate (x : Domain) : Int := if x.rates = [] then x.corr.rate else x.rates.sum / x.rates.length

/-- A domain leaves LOCKED, or loses its master: its correction keeps its mean rate (R400), and the timescale is chosen
again (R399). -/
def State.unlock (s : State) (d : Nat) (st : DomSt) : State :=
  let x := s.domain d
  let w := x.corr.carry s.localTime x.meanRate
  let was := x.st
  let s := s.setDomain d { x with st, corr := if was = .locked then w else x.corr, good := 0, bad := 0, big := 0 }
  let s := if was = .locked ∧ s.net.selected = some d then s.followDomain d else s
  s.chooseTime

/-- Half of a difference; how half a nanosecond is rounded is a free value (log entry 1). -/
def State.halve (s : State) (x : Int) : Int × State :=
  let (f, s) := s.takeFree
  ((x + (f % 2 : Nat)) / 2, s)

/-- The offset of a domain's master as the latest Sync gives it (R397). -/
def State.offsetOf (s : State) (d p : Nat) : Int :=
  let x := s.domain d
  let path := if s.reg (K.delayMechanism p) = 1 then (s.ethPort p).linkDelay else s.sreg 32 (K.domainMeanPathDelay d)
  x.t2 - x.t1 - x.cs - path - s.sreg 32 (K.portDelayAsymmetry p)

/-- Steps DomainTime by the offset of its master (R398, R401). -/
def State.stepDomain (s : State) (d : Nat) (off : Int) : State :=
  let x := s.domain d
  let s := s.setDomain d { x with corr := { x.corr with offset := x.corr.offset - off }, t2 := x.t2 - off, t3 := x.t3 - off
                                  stepped := true, big := 0 }
  if s.net.selected = some d then (((s.bump K.timeSteps).followDomain d)).timeRec 4 (-off) else s

/-- The servo adjusts a domain's frequency (R398): by how much, within ±200 ppm, is a free value (log entry 1). -/
def State.servo (s : State) (d : Nat) : State :=
  let (f, s) := s.takeFree
  let rate : Int := (f % 1717987 : Nat) - 858993
  let x := s.domain d
  let s := s.setDomain d { x with corr := x.corr.carry s.localTime rate, rates := (rate :: x.rates).take 64 }
  if s.net.selected = some d then s.followDomain d else s

/-- A Sync is complete: the offset, the step, the servo, the state and the timescale (R397 to R399). -/
def State.syncDone (s : State) (d p : Nat) : State :=
  let s := if s.reg (K.delayMechanism p) = 1 then s.setReg (K.domainMeanPathDelay d) (unsigned 32 (s.ethPort p).linkDelay)
           else s
  let off := s.offsetOf d p
  let s := s.setReg (K.domainOffset d) (unsigned 64 off)
  let x := s.domain d
  let size := off.natAbs
  let far := decide (s.reg K.stepThreshold ≤ size)
  let near := decide (size < s.reg K.lockThreshold)
  let big := if far then x.big + 1 else 0
  let first := !x.stepped && (!x.noStep || far)
  let good := if near then min 16 (x.good + 1) else 0
  let bad := if near then 0 else min 16 (x.bad + 1)
  let s := s.setDomain d { x with big, good, bad, stepped := true }
  let s := if (x.st = .acquiring ∧ first = true) ∨ 4 ≤ big then s.stepDomain d off else s
  let s := s.servo d
  let x := s.domain d
  if x.st = .acquiring ∧ good = 16 then
    (s.setDomain d { x with st := .locked, lockedSince := s.tick, noStep := false }).chooseTime
  else if x.st = .locked ∧ bad = 16 then s.unlock d .acquiring
  else s.chooseTime

/-- The tracked domains whose chosen master sent a message (R396). -/
def State.domainsFrom (s : State) (m : PtpMsg) : List Nat :=
  [0, 1].filter fun d =>
    s.flag (K.ptpDomainEnable d) && s.reg (K.ptpDomainNumber d) == m.domain && (s.domain d).st != .unusable &&
      match (s.domain d).master with
      | some (p, a) => p == m.eth && a.sender == m.source && a.senderPort == m.sourcePort
      | none => false

/-- A PTP message that is not used (R396). -/
def State.ptpIgnored (s : State) (p : Nat) : State := s.bump (K.ptpMessagesIgnored p)

/-- Whether a port carries PTP in its transport: over UDP it needs an address (R391). -/
def State.ptpOn (s : State) (p : Nat) : Bool := s.reg (K.ptpTransport p) == 1 || s.ipv4 p != 0

/-- Whether a port takes the PTP frames of a transport: those of its own, no others (R390). -/
def State.ptpCarried (s : State) (p transport : Nat) : Bool := s.ptpOn p && transport == s.reg (K.ptpTransport p)

/-- A PTP message arrives: its frame is accepted, or dropped where the port does not carry its transport (R390); its length
is a free value (log entry 1). -/
def State.onPtp (s : State) (p transport : Nat) (f : State → State) : Host.Outcome State Fault Refusal :=
  s.onEth p fun s =>
    if s.ptpCarried p transport then
      let (n, s) := s.takeFree
      f (s.frameIn p (64 + n % 1459))
    else s.frameDrop p

/-- Sends a PTP message. The spec gives no length of its frame, which is a free value (R450; log entry 1). -/
def State.sendPtp (s : State) (p kind seq : Nat) (t : Int) : State :=
  let (n, s) := s.takeFree
  (s.send (.ptp p kind seq t.toNat)).portBytes false (0x64 + p) (64 + n % 1459)

/-- Receive stamp of a message at the MDI (R397). -/
def State.rxStamp (s : State) (m : PtpMsg) : Int := m.rx - s.sreg 32 (K.ingressLatency m.eth)

/-- Send stamp of a message that leaves now (R397). -/
def State.txStamp (s : State) (p : Nat) : Int := s.localTime + s.sreg 32 (K.egressLatency p)

/-- A Sync of a domain's master (R397, R398). -/
def State.takeSync (s : State) (d : Nat) (m : PtpMsg) : State :=
  let x := s.domain d
  let back := x.st == .holdover
  let s := s.setDomain d { x with
    st := if back then .acquiring else x.st, noStep := x.noStep || back, stepped := x.stepped && !back
    lastSync := s.tick, syncSeq := m.seq, cs := m.corr, t1 := m.origin, t2 := x.corr.time (s.rxStamp m)
    waitFollow := m.twoStep }
  if m.twoStep then s else s.syncDone d m.eth

/-- SYNC (R396). -/
def execSync (m : PtpMsg) (s : State) : Host.Outcome State Fault Refusal :=
  s.onPtp m.eth m.transport fun s =>
    match s.domainsFrom m with
    | [] => s.ptpIgnored m.eth
    | ds => ds.foldl (fun s d => s.takeSync d m) s

/-- The Follow_Up of a two-step Sync (R397). -/
def State.takeFollow (s : State) (d : Nat) (m : PtpMsg) : State :=
  let x := s.domain d
  (s.setDomain d { x with waitFollow := false, t1 := m.origin, cs := x.cs + m.corr }).syncDone d m.eth

/-- FOLLOW_UP (R396). -/
def execFollowUp (m : PtpMsg) (s : State) : Host.Outcome State Fault Refusal :=
  s.onPtp m.eth m.transport fun s =>
    match (s.domainsFrom m).filter fun d => (s.domain d).waitFollow && (s.domain d).syncSeq == m.seq with
    | [] => s.ptpIgnored m.eth
    | ds => ds.foldl (fun s d => s.takeFollow d m) s

/-! ### Path delay (R396, R397) -/

/-- Ticks of 2^k s. -/
def logTicks (k : Int) : Nat := if k < 0 then 250000000 / 2 ^ (-k).toNat else 250000000 * 2 ^ k.toNat

/-- A Delay_Req is sent on the domain's slave port (R396). -/
def State.delayReq (s : State) (d : Nat) : State :=
  let x := s.domain d
  match x.master with
  | some (p, _) =>
    if (x.st = .acquiring ∨ x.st = .locked) ∧ s.flag (K.ptpDomainEnable d) = true ∧ s.reg (K.delayMechanism p) = 0 ∧
        s.ethOn p = true ∧ s.ptpOn p = true ∧ x.reqDue ≤ s.tick then
      let t := s.txStamp p
      let seq := (x.reqSeq + 1) % 65536
      let (f, s) := s.takeFree
      let n := logTicks x.reqInterval
      let s := s.setDomain d { x with reqSeq := seq, reqOut := true, t3 := x.corr.time t
                                      reqDue := s.tick + n - n / 4 + f % (n / 2 + 1) }
      s.sendPtp p 1 seq t
    else s
  | none => s

/-- DELAY_REQ_SEND (R396). -/
def execDelayReqSend (domain : Nat) (s : State) : Host.Outcome State Fault Refusal :=
  guardUnit (decide (domain < 2)) domain (s.delayReq domain)

/-- A Delay_Resp that answers this port's request (R397). -/
def State.takeDelayResp (s : State) (d : Nat) (m : PtpMsg) : State :=
  let x := s.domain d
  let (path, s) := s.halve ((x.t2 - x.t1 - x.cs) + (m.origin - x.t3 - m.corr))
  let s := s.setDomain d { x with reqOut := false, reqInterval := m.interval }
  let s := s.setReg (K.domainMeanPathDelay d) (unsigned 32 path)
  s.setReg (K.domainOffset d) (unsigned 64 (s.offsetOf d m.eth))

/-- DELAY_RESP (R397). -/
def execDelayResp (m : PtpMsg) (s : State) : Host.Outcome State Fault Refusal :=
  s.onPtp m.eth m.transport fun s =>
    match (s.domainsFrom m).filter fun d =>
        (s.domain d).reqOut && (s.domain d).reqSeq == m.seq && m.reqSource == s.reg K.clockIdentity &&
          m.reqPort == m.eth + 1 && s.reg (K.delayMechanism m.eth) == 0 with
    | [] => s.ptpIgnored m.eth
    | ds => ds.foldl (fun s d => s.takeDelayResp d m) s

/-- A Pdelay_Req is answered in two steps (R396). -/
def State.pdelayReq (s : State) (m : PtpMsg) : State :=
  if s.reg (K.delayMechanism m.eth) = 1 then
    (s.sendPtp m.eth 3 m.seq (s.rxStamp m)).sendPtp m.eth 4 m.seq (s.txStamp m.eth)
  else s.ptpIgnored m.eth

/-- PDELAY_REQ (R396). -/
def execPdelayReq (m : PtpMsg) (s : State) : Host.Outcome State Fault Refusal := s.onPtp m.eth m.transport fun s => s.pdelayReq m

/-- A Pdelay_Req is sent (R396). -/
def State.pdelaySend (s : State) (p : Nat) : State :=
  let x := s.ethPort p
  if s.reg (K.delayMechanism p) = 1 ∧ s.ethOn p = true ∧ s.ptpOn p = true ∧ x.pdDue ≤ s.tick then
    let t := s.txStamp p
    let seq := (x.pdSeq + 1) % 65536
    (s.setEth p { x with pdSeq := seq, pdT1 := t, pdWait := true
                         pdDue := s.tick + logTicks (s.sreg 16 (K.logPdelayInterval p)) }).sendPtp p 2 seq t
  else s

/-- PDELAY_REQ_SEND (R396). -/
def execPdelayReqSend (eth : Nat) (s : State) : Host.Outcome State Fault Refusal :=
  guardUnit (decide (eth < 2)) eth (s.pdelaySend eth)

/-- Whether a response answers this port's Pdelay_Req (R396). -/
def State.answersPd (s : State) (m : PtpMsg) : Bool :=
  s.reg (K.delayMechanism m.eth) == 1 && (s.ethPort m.eth).pdWait && (s.ethPort m.eth).pdSeq == m.seq &&
    m.reqSource == s.reg K.clockIdentity && m.reqPort == m.eth + 1

/-- The link delay of a finished exchange (R397). -/
def State.linkDelay (s : State) (p : Nat) (turn : Int) : State :=
  let x := s.ethPort p
  let (d, s) := s.halve (x.pdT4 - x.pdT1 - turn - x.pdCorr)
  s.setEth p { s.ethPort p with linkDelay := d, pdWait := false }

/-- A Pdelay_Resp (R397). -/
def State.pdelayResp (s : State) (m : PtpMsg) : State :=
  if s.answersPd m then
    let s := s.setEth m.eth { s.ethPort m.eth with pdT2 := m.origin, pdT4 := s.rxStamp m, pdCorr := m.corr }
    if m.twoStep then s else s.linkDelay m.eth 0
  else s.ptpIgnored m.eth

/-- PDELAY_RESP (R396). -/
def execPdelayResp (m : PtpMsg) (s : State) : Host.Outcome State Fault Refusal := s.onPtp m.eth m.transport fun s => s.pdelayResp m

/-- A Pdelay_Resp_Follow_Up (R397). -/
def State.pdelayFollow (s : State) (m : PtpMsg) : State :=
  if s.answersPd m then
    let x := s.ethPort m.eth
    (s.setEth m.eth { x with pdT3 := m.origin, pdCorr := x.pdCorr + m.corr }).linkDelay m.eth (m.origin - x.pdT2)
  else s.ptpIgnored m.eth

/-- PDELAY_RESP_FOLLOW_UP (R396). -/
def execPdelayRespFollowUp (m : PtpMsg) (s : State) : Host.Outcome State Fault Refusal :=
  s.onPtp m.eth m.transport fun s => s.pdelayFollow m

/-! ### Best master (R395) -/

/-- The order in which IEEE 1588-2019 clause 9.3 compares two masters, as the fields it reads one after another. -/
def Announce.rank (a : Announce) (port : Nat) : List Nat :=
  [a.priority1, a.clockClass, a.accuracy, a.variance, a.priority2, a.grandmaster, a.stepsRemoved, a.sender, a.senderPort, port]

/-- Lexicographic order. -/
def lexLess : List Nat → List Nat → Bool
  | x :: xs, y :: ys => decide (x < y) || (x == y && lexLess xs ys)
  | _, _ => false

/-- The best of the masters heard. -/
def bestMaster : List (Nat × Announce) → Option (Nat × Announce)
  | [] => none
  | m :: rest =>
    match bestMaster rest with
    | none => some m
    | some b => if lexLess (b.2.rank b.1) (m.2.rank m.1) then some b else some m

/-- An Announce is compared with the masters heard, and the chosen one is admitted or not (R395, R398). -/
def State.takeAnnounce (s : State) (d p : Nat) (a : Announce) : State :=
  let x := s.domain d
  let heard := (p, a) :: x.foreign.filter fun f => f.1 != p || f.2.sender != a.sender || f.2.senderPort != a.senderPort
  match bestMaster heard with
  | none => s
  | some (q, b) =>
    let same := match x.master with
      | some (q', b') => q' == q && b'.sender == b.sender && b'.senderPort == b.senderPort
      | none => false
    let s := s.setReg (K.domainGrandmaster d) b.grandmaster
    let s := (s.setReg (K.domainClockClass d) b.clockClass).setReg (K.domainPort d) q
    let s := s.setDomain d { x with foreign := heard, master := some (q, b) }
    if s.reg K.maxClockClass < b.clockClass then (if x.st = .unusable then s else s.unlock d .unusable)
    else if same = true ∧ x.st ≠ .unusable ∧ x.st ≠ .listening then s
    else
      let s := if x.st = .locked then s.unlock d .acquiring else s
      let back := x.st == .holdover || x.st == .unusable
      s.setDomain d { s.domain d with st := .acquiring, stepped := false, noStep := back, good := 0, bad := 0, big := 0
                                      lastSync := s.tick, waitFollow := false, reqOut := false, reqDue := s.tick }

/-- ANNOUNCE (R395). -/
def execAnnounce (eth : Nat) (a : Announce) (s : State) : Host.Outcome State Fault Refusal :=
  s.onPtp eth a.transport fun s =>
    let ds := if a.sender = s.reg K.clockIdentity then [] else
      [0, 1].filter fun d => s.flag (K.ptpDomainEnable d) && s.reg (K.ptpDomainNumber d) == a.domain
    match ds with
    | [] => s.ptpIgnored eth
    | ds => ds.foldl (fun s d => s.takeAnnounce d eth a) s

/-- PTP_MESSAGE_IGNORED (R396): such a message in the transport of its port. -/
def execPtpMessageIgnored (eth : Nat) (s : State) : Host.Outcome State Fault Refusal :=
  s.onPtp eth (s.reg (K.ptpTransport eth)) fun s => s.ptpIgnored eth

/-- No Sync of the chosen master for SyncLossTimeout (R398). -/
def State.syncLoss (s : State) (d : Nat) : State :=
  let x := s.domain d
  if (x.st = .acquiring ∨ x.st = .locked) ∧ s.reg K.syncLossTimeout * 250000 ≤ s.tick - x.lastSync then s.unlock d .holdover
  else s

/-- SYNC_LOSS_TIMEOUT (R398). -/
def execSyncLossTimeout (domain : Nat) (s : State) : Host.Outcome State Fault Refusal :=
  guardUnit (decide (domain < 2)) domain (s.syncLoss domain)

/-- The tracked domains after a commit that changed their entries (R398, R403). -/
def State.retrack (s : State) (changed : Nat → Bool) : State :=
  let s := [0, 1].foldl (fun s d =>
    if changed (K.ptpDomainEnable d) || changed (K.ptpDomainNumber d) then
      let x := s.domain d
      let s := s.setDomain d { corr := x.corr, rates := x.rates }
      ((s.setReg (K.domainGrandmaster d) 0).setReg (K.domainClockClass d) 255).setReg (K.domainPort d) 255
    else s) s
  let s := [0, 1].foldl (fun s p => if s.flag (K.portEnable p) then s else s.portLink p false 0) s
  s.chooseTime

end Sys2Proof.Machine
end

