-- ==== Sys2Proof/Machine/PlanChecks.lean ====
section
/-! DEFINITION. The checks of a plan image at commit, orders 1 to 4 of R224: its format and signature (R215 to R217,
R461), and the rules that make it a plan (R157 to R203, R215 to R223, R242 to R255, R318, R325, R326, R343, R351, R433).
Every check reads a candidate state: the values that would be in force after the commit. -/

namespace Sys2Proof.Machine

/-- Whether every check of a list holds. -/
def every (l : List Bool) : Bool := l.all id

/-- Whether every later element of a list stands well with every earlier one. -/
def pairwise {α : Type} (f : α → α → Bool) : List α → Bool
  | [] => true
  | a :: r => r.all (f a) && pairwise f r

/-- Whether two ranges, each its first and its length, have nothing in common. -/
def apart (a b : Nat × Nat) : Bool := decide (a.1 + a.2 ≤ b.1) || decide (b.1 + b.2 ≤ a.1) || a.2 == 0 || b.2 == 0

/-- Whether a number is a power of two. -/
def isPow2 (n : Nat) : Bool := n != 0 && n == 2 ^ n.log2

/-! ### Order 1: format, digest, key, signature and version (R215 to R217, R460, R461) -/

/-- Bytes of one record of a section; sections counted in bytes have 1 (R216). -/
def recSize : Nat → Nat
  | 1 => 128
  | 2 => 32
  | 3 => 16
  | 4 => 32
  | 5 => 8
  | 6 => 2
  | 7 => 8
  | _ => 1

/-- Bytes that a section takes. -/
def Section.size (x : Section) : Nat := x.count * recSize x.typ

/-- Whether header and directory are those of a plan image (R215, R216). -/
def Plan.formatOk (p : Plan) (b : List Byte) : Bool :=
  let tr := b.length - 4720
  let has := fun (t : Nat) => (p.sec t).isSome
  every [
    p.magic == 0x4E414C50, p.format == 1, p.headerLen == 128, p.length == b.length, p.length % 8 == 0,
    decide (1 ≤ p.sectionCount), decide (p.sectionCount ≤ 16), decide (128 + 16 * p.sectionCount + 4720 ≤ b.length),
    p.sections.all fun (x : Section) => decide (1 ≤ x.typ) && decide (x.typ ≤ 13) && x.off % 64 == 0 &&
      decide (128 + 16 * p.sectionCount ≤ x.off) && decide (x.off + x.size ≤ tr),
    pairwise (fun (x y : Section) => x.typ != y.typ && apart (x.off, x.size) (y.off, y.size)) p.sections,
    has 1, has 2, has 4, has 10, has 3 == (p.cls == 0), has 5 == (p.cls == 0), has 11 == (p.cls == 0),
    has 13 == decide (1 < p.modules), leAt b tr 4 == 0x4E474953]

/-- The key that signs plan images under a KeyId (R461). -/
def State.planKey (t : State) (id : List Byte) : Option PubKey :=
  (t.mfg.vendorKeys ++ t.boot.keys.filter fun k => bitOf k.use 0).find? fun k => k.id == id

/-- Whether a key verifies the signature of a trailer that names it: its KeyId is the key's own (R460). -/
def PubKey.signed (k : PubKey) (digest sig : List Byte) : Bool :=
  bytesAt (Sha3.sha512 k.key) 0 16 == k.id && Config.mldsaVerify k.key digest sig

/-- Order 1 of R224 for the image in a slot: the status of the first check that fails. -/
def State.imageStatus (t : State) (n : Nat) : Option Nat :=
  let b := (t.planSlot n).data
  let p := parsePlan n b
  let tr := b.length - 4720
  let digest := bytesAt b (tr + 0x18) 64
  if (t.planSlot n).st ≠ 2 then some Status.contextState
  else if p.formatOk b = false then some Status.imageFormat
  else if Sha3.sha512 (b.take tr) ≠ digest then some Status.digestMismatch
  else
    match t.planKey (bytesAt b (tr + 8) 16) with
    | none => some Status.keyUnknown
    | some k =>
      if k.signed digest (bytesAt b (tr + 0x58) 4627) = false then some Status.signatureInvalid
      else if p.version < max (t.reg K.planVersionMin) k.minVersion then some Status.versionRejected
      else none

/-! ### Reserved fields (R3) -/

/-- Reserved fields of a scale record, by kind (R161). -/
def scaleResv (r : Nat) : Bool :=
  if recKind r = 0 then bits r 54 8 != 0
  else if recKind r = 1 ∨ recKind r = 3 then bits r 54 16 != 0
  else if recKind r = 2 then bits r 54 3 != 0
  else if recKind r = 4 then bits r 53 40 != 0
  else false

/-- Reserved bits of a window block (R176). -/
def Layer.windowResv (l : Layer) : Bool :=
  bits (l.win 1 1) 7 4 != 0 || l.win 15 1 != 0 || (l.mode != 2 && decide (255 < l.padValue))

/-- Whether every reserved field of an image is zero (R3). -/
def State.reservedOk (t : State) (p : Plan) : Bool :=
  let b := t.image p
  let tr := b.length - 4720
  let m := p.secOff 10
  every [
    !p.resv, !p.bufResv, p.sections.all fun (x : Section) => !x.resv, p.layers.all fun (x : Layer) => !x.resv,
    p.kernels.all fun (x : Kernel) => !x.resv, p.slots.all fun (x : PSlot) => !x.resv,
    p.tensors.all fun (x : Tensor) => !x.resv,
    p.layers.all fun (x : Layer) => !x.windowed || !x.windowResv,
    (p.scales b).all fun r => !scaleResv r,
    p.cls != 0 || !(t.heads p).resv,
    allZero (bytesAt b (m + 5) 3), allZero (bytesAt b (m + 12) 20), (t.memEntries p).all fun e => !e.resv,
    (p.sec 12).isNone || allZero (bytesAt b (p.secOff 12 + 8) 8),
    (p.knotInits b).all fun (x : KnotInit) => !x.resv, (p.knotActs b).all fun (x : KnotAct) => decide (x.flags ≤ 7),
    (p.sec 13).isNone || allZero (bytesAt b (p.secOff 13 + 5) 27),
    leAt b (tr + 4) 4 == 0, allZero (bytesAt b (tr + 0x126B) 5)]

/-! ### Header, tensors, buffers (R215, R218, R219) -/

/-- Header values lie in their ranges (R215). -/
def Plan.headerOk (p : Plan) : Bool :=
  every [
    p.detKey % 256 == 0, decide (p.cls ≤ 1), decide (p.crossing ≤ 1), decide (1 ≤ p.modules), decide (p.modules ≤ 8),
    decide (p.member < p.modules), p.quads.all fun q => decide (q ≤ 4), p.modules != 1 || p.groupId == 0,
    if p.cls = 0 then
      isPow2 p.stripeLines && decide (16 ≤ p.stripeLines) && decide (p.stripeLines ≤ 256) && decide (1 ≤ p.batch) &&
        decide (p.batch ≤ 8)
    else
      p.stripeLines == 0 && p.batch == 0 && p.flush == 0 && p.retryReserve == 0 && p.decisionCycle == 0 &&
        p.periodCycles == (p.steps.map p.stepCycles).sum]

/-- Tensor records are those of R218. -/
def Plan.tensorsOk (p : Plan) : Bool :=
  p.tensors.all fun t =>
    decide (t.num ≤ 65534) && decide (t.die ≤ 1) && decide (t.layout ≤ 3) && decide (1 ≤ t.chans) &&
      decide (t.chans ≤ 8192) && (p.cls != 0 || bitOf t.flags 1 == (t.num == 0)) && decide (t.bytes ≤ t.len)

/-- Planes of the stripe (R112, R114): those of the streams that contribute a tile. -/
def State.stripePlanes (t : State) : Nat :=
  match (List.range 16).find? fun i => t.contributes i with
  | some i => planesOf (t.reg (K.streamPixelFormat i))
  | none => 1

/-- Stripe buffers, and the STRIPE_INPUT record against the dictionary (R114, R219). -/
def State.inputOk (t : State) (p : Plan) : Bool :=
  let f := max 1 (t.reg K.stripeFold)
  p.cls != 0 || every [
    decide (p.batch + 1 ≤ p.buffers.length), p.buffers.all fun x => decide (x.1 ≤ 1) && decide (64 ≤ x.2),
    p.tensors.any fun x => x.num == 0,
    (p.tensors.filter fun x => x.num == 0).all fun x =>
      x.layout == (if t.reg K.stripeBlock = 32 then 1 else 0) && x.rows == p.stripeLines / f &&
        x.width == t.reg K.stripeWidth / f && x.chans == t.stripePlanes * f * f]

/-! ### Layers (R126, R157, R169, R201 to R211, R220) -/

/-- Bases and lengths of a layer's line-buffer regions, in KiB: carry and halo (R176). -/
def Layer.regions (l : Layer) : List (Nat × Nat) := [(l.win 32 2, l.win 34 2), (l.win 36 2, l.win 38 2)]

/-- Whether a layer reduces over every channel of a position: what an outlier transform asks of its consumer (R169). -/
def Layer.reducesAll (l : Layer) : Bool := l.op == 1 && (!l.windowed || l.wOp == 1)

/-- Whether the combine list uses its entries from the first on (R220). -/
def Layer.combOk (l : Layer) : Bool :=
  pairwise (fun a b => a != 0xFFFF || b == 0xFFFF) l.comb

/-- Activation code and parameters (R203). -/
def Layer.actOk (l : Layer) : Bool :=
  decide (l.act ≤ 6) &&
    (l.act != 2 || (!(f32 l.actA).isNaN && !(f32 l.actB).isNaN && !(f32 l.actB).lt (f32 l.actA)))

/-- The PASSMAP entries of a layer: each reduction element exactly once (R220). -/
def Plan.passMapOk (p : Plan) (b : List Byte) (l : Layer) : Bool :=
  if l.hasPassMap = false then l.passMap == 0
  else
    let es := (List.range (l.passes * l.perPass)).map fun i => leAt b (p.secOff 6 + 2 * (l.passMap + i)) 2
    !l.windowed && decide (l.passMap + l.passes * l.perPass ≤ p.secCount 6) &&
      (List.range l.redLen).all (fun e => es.count e == 1) && es.all fun e => e == 0xFFFF || decide (e < l.redLen)

/-- What R220 says of descriptor `n` of the section. -/
def Plan.layerOk (p : Plan) (b : List Byte) (n : Nat) (l : Layer) : Bool :=
  let array := l.op == 1
  let has := fun (t : Nat) => p.tensors.any fun x => x.num == t
  every [
    l.num == n, decide (1 ≤ l.op), decide (l.op ≤ 8), decide (l.mode ≤ 2),
    array || l.mode == 0, decide (l.group ≤ 3), decide (l.xform ≤ 3), l.actOk, l.combOk,
    if l.op = 3 then decide (1 ≤ l.elemOp) && decide (l.elemOp ≤ 5) else l.elemOp == 0,
    (l.op != 3 && !l.residual) || l.second != 0xFFFF, l.rerun || (l.clipLimit == 0 && l.rwOff == 0),
    l.rerun == (l.rerunSlot != 0xFFFF), decide (1 ≤ l.outCh), decide (l.outCh ≤ 8192), decide (1 ≤ l.groupK),
    decide (l.groupK ≤ 256), !array || l.passes == ceilDiv l.redLen l.perPass, decide (1 ≤ l.dieMask),
    decide (l.dieMask ≤ 3), l.windowed || allZero l.window, !array || !l.windowed || decide (l.wOp ≤ 2),
    l.op != 2 || (l.windowed && decide (3 ≤ l.wOp)), array || l.op == 2 || !l.windowed, p.passMapOk b l,
    has l.inT, l.second == 0xFFFF || has l.second, l.comb.all fun t => t == 0xFFFF || has t,
    (List.range 2).all fun d => !bitOf l.dieMask d || (p.tensors.any fun x => x.num == l.outT && x.die == d),
    l.op != 4 || (match bf16 l.eps with
      | .fin neg n _ => !neg && n != 0
      | _ => false),
    (l.op != 5 && l.op != 6) || (decide (2 ≤ l.rowLen) && decide (l.rowLen ≤ 1024)),
    !l.rerun || array]

/-- Scale groups of a layer's mode (R157, R193). -/
def Layer.groupOk (l : Layer) : Bool :=
  if l.op = 1 then
    (l.mode != 1 || l.g == 64 || l.g == 128) && (l.mode != 2 || l.g == 0) &&
      !(l.mode == 0 && l.g == 128 && l.passes % 2 == 1)
  else if l.op = 2 ∧ (l.wOp = 3 ∨ l.wOp = 4) then l.g == 0
  else true

/-- Transforms of a tensor's consumers, and the output groups that feed it (R169, R202). -/
def Plan.xformOk (p : Plan) (l : Layer) : Bool :=
  let n := xformSize l.xform
  every [
    n == 0 || (l.reducesAll && (p.tensors.filter fun t => t.num == l.inT).all fun t => t.chans % n == 0),
    (p.consumers l.inT).all fun x => x.xform == l.xform,
    p.outXform l.inT == 0 || p.layers.all fun x => !((x.residual || x.op == 3) && x.second == l.inT),
    p.outXform l.outT == 0 || l.op != 1 || l.groupK % p.outXform l.outT == 0]

/-! ### Window blocks (R176 to R186, R190, R195 to R197) -/

/-- Rows or columns of an output (R180); none when the extent is not positive. -/
def extentOf (n before after k st dil : Nat) : Option Nat :=
  if st = 0 ∨ n + before + after < dil * (k - 1) + 1 then none else some ((n + before + after - dil * (k - 1) - 1) / st + 1)

/-- What R177 asks of each operator; `kb` is the block of its input. -/
def Layer.operatorOk (l : Layer) (kb : Nat) : Bool :=
  let g := max 1 l.groups
  let split := decide (1 ≤ l.groups) && l.cIn % g == 0 && l.cOut % g == 0
  if l.wOp = 1 then l.groups == 1
  else if l.wOp = 2 then
    let per := l.cOut / g
    split && l.cIn / g % kb == 0 && (List.range (ceilDiv l.outCh (max 1 l.groupK))).all fun i =>
      i * l.groupK / max 1 per == (min ((i + 1) * l.groupK) l.outCh - 1) / max 1 per
  else if l.wOp = 3 then l.groups == l.cIn && (l.cOut == l.cIn || l.cOut == 2 * l.cIn || l.cOut == 4 * l.cIn)
  else if l.wOp = 4 then
    split && decide (2 ≤ l.cIn / g) && decide (l.cIn / g ≤ 15) && decide (1 ≤ l.cOut / g) && decide (l.cOut / g ≤ 64)
  else if l.wOp = 5 ∨ l.wOp = 6 then l.groups == 1 && l.cOut == l.cIn
  else if l.wOp = 7 ∨ l.wOp = 8 then
    l.groups == 1 && l.kh == 1 && l.kw == 1 && (l.sh == 2 || l.sh == 4) && l.sw == l.sh && l.pt == 0 && l.pb == 0 && l.pl == 0 && l.pr == 0
  else false

/-- The figures of R178, and the places of the regions (R176). -/
def Layer.rangesOk (l : Layer) : Bool :=
  let stream := !l.bounded
  let real := l.padMode == 2 || (l.wOp == 6 && l.divisor == 1)
  let upto := fun (v hi : Nat) => decide (1 ≤ v) && decide (v ≤ hi)
  every [
    upto l.kh 16, upto l.kw 16, upto l.sh 16, upto l.sw 16, upto l.dh 64, upto l.dw 64,
    !stream || l.resamples || (isPow2 l.sh && l.inRows % l.sh == 0),
    !stream || (decide (l.pt ≤ l.dh * (l.kh - 1)) && decide (l.pb ≤ l.dh * (l.kh - 1))),
    !real || (decide (l.pl ≤ l.dw * (l.kw - 1)) && decide (l.pr ≤ l.dw * (l.kw - 1))),
    decide (255 * l.sw + l.dw * (l.kw - 1) + 1 ≤ 4352), l.regions.all fun x => decide (x.1 ≤ 2047) && decide (x.2 ≤ 2048), upto l.wIn 16384, upto l.cIn 8192, upto l.cOut 8192,
    l.padMode != 3, l.padMode != 2 || l.wOp == 5 || l.wOp == 6, if l.wOp = 6 then decide (l.divisor ≤ 2) else l.divisor == 0]

/-- Extents, row lag and carried rows (R180, R183, R186, R197). -/
def Layer.extentsOk (l : Layer) : Bool :=
  let lag := ceilDiv (l.dh * (l.kh - 1) + 1 - l.pt) (max 1 l.sh) - 1
  let zero := l.rowLag == 0 && l.carry == 0
  if l.resamples then
    l.wOut == l.sw * l.wIn && l.outRows == l.sh * l.inRows && decide (1 ≤ l.outRows) &&
      (if l.bounded ∨ l.wOp = 7 then zero else l.rowLag == l.sh / 2 && l.carry == 1)
  else
    extentOf l.wIn l.pl l.pr l.kw l.sw l.dw == some l.wOut &&
      (if l.bounded then extentOf l.inRows l.pt l.pb l.kh l.sh l.dh == some l.outRows && zero
       else l.outRows == l.inRows / max 1 l.sh && l.rowLag == lag && l.carry == lag * l.sh + l.pt)

/-- Real taps of an output column in the width direction (R179). -/
def Layer.realTaps (l : Layer) (col : Nat) : Nat :=
  ((List.range l.kw).filter fun x =>
    decide (l.pl ≤ col * l.sw + l.dw * x) && decide (col * l.sw + l.dw * x < l.wIn + l.pl)).length

/-- The work of a layer on a die, as its records and elements are read. -/
def State.workOf (t : State) (p : Plan) (l : Layer) (die : Nat) : Work :=
  let b := t.image p
  { plan := p, img := b, memDies := (t.memHead p).2.1, scales := p.scales b, stripe := 0, start := 0, lines := none, die
    layer := l, rerun := false }

/-- Whether a tensor holds a stripe or what layers make of it row by row; `n` bounds the depth. What is made of a work list is not
(R186, R254). -/
def Plan.fromStripe (p : Plan) : Nat → Nat → Bool
  | 0, _ => false
  | n + 1, t => t == 0 || p.layers.any fun l => l.outT == t && l.op != 8 && p.fromStripe n l.inT

/-- The rules of a windowed layer (R177 to R186, R195 to R197). -/
def State.windowOk (t : State) (p : Plan) (l : Layer) : Bool :=
  let w := t.workOf p l 0
  let pool := l.wOp == 5 || l.wOp == 6
  !l.windowed || every [
    l.operatorOk w.block, l.rangesOk, l.extentsOk,
    !l.bounded || (l.win 32 2 == 0 && l.win 34 2 == 0 && (p.cls != 0 || !p.fromStripe (p.layers.length + 1) l.inT)),
    l.wOp ≤ 2 || (!l.rerun && l.xform == 0 && (p.tensors.filter fun x => x.num == l.inT).all fun x =>
      (p.tensor l.inT x.die fun k => decide (k ≤ 1)).isSome),
    (!pool && !l.resamples) || (w.baseScale l.inT == w.baseScale l.outT &&
      (List.range l.cIn).all fun c => w.groupShift l.inT c == w.groupShift l.outT c),
    !(pool && (l.padMode == 2 || (l.wOp == 6 && l.divisor == 1))) ||
      (decide (1 ≤ l.realTaps 0) && decide (1 ≤ l.realTaps (l.wOut - 1)))]

/-! ### Scales (R157 to R165, R188) -/

/-- Whether a BF16 scale is finite and not zero; subnormal ones read as zero (R152, R161). -/
def scaleFinite (v : Nat) : Bool :=
  match bf16 (v % 65536) with
  | .fin _ n _ => n != 0
  | _ => false

/-- Kinds and values of the plan's scale records (R160, R161). -/
def Plan.scalesOk (p : Plan) (b : List Byte) : Bool :=
  (p.scales b).all fun r =>
    decide (recKind r ≤ 4) && (recKind r != 1 || scaleFinite r) && (recKind r != 3 || (scaleFinite r && !bitOf r 15))

/-- The rows of one scale group of a pass (R157): half `h` of the pass's elements when two groups share it. -/
def Work.groupRows (w : Work) (p h : Nat) : List (Option Nat) :=
  let n := w.perPass
  let two := w.layer.g != 0 && decide (2 * w.layer.g ≤ n)
  let rows := (w.rows.drop (p * n)).take n
  if two then (rows.drop (h * (n / 2))).take (n / 2) else if h = 0 then rows else []

/-- The channels that rows of a pass carry, of convolution group `cg`. -/
def Work.rowChans (w : Work) (cg : Nat) (rows : List (Option Nat)) : List Nat :=
  rows.filterMap fun e => e.map fun e => if w.layer.windowed then (w.element cg e).2.2 else e

/-- A scaled layer's groups hold channels of one activation group, and no shift lies below its exponent; the shifts that
R157 fixes are as it says (R157, R159, R188). An unscaled INT8 layer takes E_g = 0, so no exponent of its input lies above 0
(R159). -/
def Work.shiftsOk (w : Work) : Bool :=
  let l := w.layer
  let g := l.g
  let wide := l.mode == 0 && g == 128
  let two := decide (2 * g ≤ w.perPass)
  if g = 0 then l.mode == 2 || (List.range (w.chans l.inT)).all fun c => w.groupShift l.inT c == 0
  else (List.range (ceilDiv l.outCh (max 1 l.groupK))).all fun og =>
    let cg := if l.windowed then og * l.groupK / max 1 (l.cOut / max 1 l.groups) else 0
    (List.range l.passes).all fun p =>
      let lo := w.rowChans cg (w.groupRows p 0)
      let hi := w.rowChans cg (w.groupRows p 1)
      let pair := if wide ∧ p % 2 = 0 then w.rowChans cg (w.groupRows (p + 1) 0) else []
      let one := fun (cs : List Nat) => (cs.map fun c => c / g).eraseDups.length ≤ 1
      one (lo ++ pair) && one hi && (List.range l.groupK).all fun k =>
        let r := w.sliceRec og p k
        (lo.all fun c => decide (w.groupShift l.inT c ≤ bits r 3 0)) &&
          (if two then hi.all fun c => decide (w.groupShift l.inT c ≤ bits r 7 4) else bits r 7 4 == 0) &&
          (!(wide && p % 2 == 0) || bits (w.sliceRec og (p + 1) k) 3 0 == bits r 3 0)

/-- A tensor's larger groups have equal exponents within each of their subgroups (R165). -/
def State.subgroupsOk (t : State) (p : Plan) (l : Layer) : Bool :=
  let w := t.workOf p l 0
  l.g == 0 || (List.range (w.chans l.inT)).all fun c => w.groupShift l.inT c == w.groupShift l.inT (c / l.g * l.g)

/-! ### Kernels and slots (R221 to R223, R127, R200, R433) -/

/-- Steps that kernels fall into: one for a real-time plan. -/
def Plan.parts (p : Plan) : List (List Kernel) :=
  if p.cls = 0 then [p.kernels] else p.steps.map fun n => p.kernels.filter fun k => k.step == n

/-- Positions of a tensor's part that lie in the tiles before a tile (R180). -/
def positionsBefore (t : Tensor) (tile : Nat) : Nat :=
  let per := max 1 (ceilDiv t.width 256)
  min (t.rows * t.width) (tile / per * t.width + min t.width (tile % per * 256))

/-- What R221 says of one kernel. -/
def Plan.kernelOk (p : Plan) (entries : Nat) (k : Kernel) : Bool :=
  let l := p.layer k.layer
  every [
    decide (k.layer < p.layers.length), decide (k.die ≤ 1), bitOf l.dieMask k.die,
    if l.op = 1 ∧ bitOf k.flags 1 = false then decide (k.unit ≤ 11) else if l.op = 1 ∧ k.unit ≤ 11 then true else decide (16 ≤ k.unit) && decide (k.unit ≤ 19),
    if p.cls = 0 then decide (k.batch < p.batch) && k.step == 0 else k.batch == 0,
    decide (k.mem ≤ entries), !bitOf k.flags 2 || l.rerun, !bitOf k.flags 0 || p.cls == 0,
    l.op != 1 || decide (k.outGroup < ceilDiv l.outCh (max 1 l.groupK)),
    l.op != 7 || (match p.tensor l.outT k.die fun _ => true with
      | some t => decide (positionsBefore t (k.firstTile + k.tiles) - positionsBefore t k.firstTile ≤ 65536)
      | none => true)]

/-- Whether a kernel follows another one on its quad (R127): its first group begins no earlier than D after the other's last
one, and its first load no earlier than the other's last tile becomes active. -/
def Plan.follows (p : Plan) (a b : Kernel) : Bool :=
  decide (p.computeTo a ≤ p.computeFrom b) && decide (p.passFrom a (a.tiles - 1) (p.passesOf a - 1) ≤ p.loadFrom b)

/-- Whether the drains of an array kernel stay clear of a kernel on the vector unit of its quad (R199, R200): each takes 2K
cycles, and its values enter the unit one cycle after they are read out (R202). -/
def Plan.drainsClear (p : Plan) (a v : Kernel) : Bool :=
  a.die != v.die || v.unit != 16 + a.unit / 3 ||
    (List.range a.tiles).all fun t => apart (p.drainFrom a t + 1, 2 * p.groupLen a) (v.start, v.cycles)

/-- Kernels of one unit do not meet: groups follow each other on an array by R127, operations on a vector unit, drains among
them, by R199 and R200. -/
def Plan.unitsOk (p : Plan) : Bool :=
  p.parts.all fun ks => pairwise (fun (a b : Kernel) =>
    if a.unit ≤ 11 then
      if b.unit ≤ 11 then a.die != b.die || a.unit != b.unit || p.follows a b || p.follows b a else p.drainsClear a b
    else if b.unit ≤ 11 then p.drainsClear b a
    else a.die != b.die || a.unit != b.unit || apart (a.start, a.cycles) (b.start, b.cycles)) ks

/-- Ramps of a die: the cycle at which each begins and the arrays in it (R138, R433). -/
def Plan.ramps (p : Plan) (ks : List Kernel) (die : Nat) : List (Nat × Nat) :=
  let own := ks.filter fun k => k.die == die && decide (k.unit ≤ 11)
  (List.range 12).flatMap fun q =>
    let runs := (own.filter fun k => k.unit == q).flatMap p.macRuns
    let n := p.arraysIn die q
    runs.flatMap fun r =>
      let warm := runs.any fun x => decide (x.2 ≤ r.1) && decide (r.1 < x.2 + 64)
      let on := runs.any fun x => decide (r.2 ≤ x.1) && decide (x.1 < r.2 + 64)
      (if warm then [] else [(r.1 - 32, n)]) ++ if on then [] else [(r.2, n)]

/-- At most 24 arrays begin a ramp in any 32 cycles (R433). -/
def Plan.rampsOk (p : Plan) : Bool :=
  p.parts.all fun ks => (List.range 2).all fun d =>
    let r := p.ramps ks d
    r.all fun x => decide (((r.filter fun y => decide (x.1 ≤ y.1) && decide (y.1 < x.1 + 32)).map (·.2)).sum ≤ 24)

/-- Slot entries (R222). -/
def Plan.slotOk (p : Plan) (x : PSlot) : Bool :=
  every [
    decide (1 ≤ x.kind), decide (x.kind ≤ 5), decide (1 ≤ x.dieMask), decide (x.dieMask ≤ 3),
    if x.kind = 2 then !bitOf x.ctxMask 0 else x.ctxMask == 0,
    if x.kind = 3 then decide (x.layer < p.layers.length) && (p.layer x.layer).rerun else x.layer == 0xFFFF]

/-- The slots of a die. -/
def Plan.dieSlots (p : Plan) (d : Nat) : List PSlot := p.slots.filter fun x => bitOf x.dieMask d

/-- The slot table of a real-time plan (R223); `least` is RetryReserveMin. -/
def Plan.slotsOk (p : Plan) (least : Nat) : Bool :=
  every [
    decide (p.slots.length ≤ 1024), p.slots.all p.slotOk, decide (p.batch * least ≤ p.retryReserve),
    (List.range 2).all fun d =>
      let l := p.dieSlots d
      let r := l.filter fun (x : PSlot) => x.kind == 5
      pairwise (fun (a b : PSlot) => decide (a.start + a.len ≤ b.start)) l &&
        (l.all fun (x : PSlot) => decide (x.start + x.len ≤ p.periodCycles)) && r.length == 1 &&
        (r.all fun (x : PSlot) => x.start + x.len == p.periodCycles && x.len == p.retryReserve),
    p.kernels.all fun k =>
      let re := bitOf k.flags 2
      (p.dieSlots k.die).any fun x => (if re then x.kind == 3 && x.layer == k.layer else x.kind == 1) &&
        decide (x.start ≤ k.start) && decide (k.start + k.cycles ≤ x.start + x.len)]

/-- The re-run slots of a layer (R172, R223). -/
def Plan.rerunOk (p : Plan) (l : Layer) : Bool :=
  !l.rerun || (p.cls == 0 && ((p.slots.getD l.rerunSlot {}).kind == 3 && (p.slots.getD l.rerunSlot {}).layer == l.num) &&
    (List.range 2).all fun d => !bitOf l.dieMask d || (match (p.dieSlots d).filter fun x => x.kind == 3 && x.layer == l.num with
      | [x] =>
        (p.kernels.all fun k => k.layer != l.num || bitOf k.flags 2 || decide (k.start + k.cycles ≤ x.start)) &&
        p.kernels.all fun k =>
          let c := p.layer k.layer
          bitOf k.flags 2 || k.layer == l.num ||
            !(c.inT == l.outT || c.second == l.outT || c.comb.contains l.outT) || decide (x.start + x.len ≤ k.start)
      | _ => false))

/-- All kernels of a background step lie on one die (R221). -/
def Plan.stepsOk (p : Plan) : Bool :=
  p.cls == 0 || p.kernels.all fun k => k.die == p.stepDie k.step

/-- The multiples of 16 that R318 asks for. -/
def Plan.gridOk (p : Plan) : Bool :=
  if p.cls = 0 then
    p.periodCycles % 16 == 0 && p.retryReserve % 16 == 0 && p.slots.all fun x => x.start % 16 == 0 && x.len % 16 == 0
  else p.steps.all fun n => p.stepCycles n % 16 == 0

/-! ### Lag (R183, R185, R224) -/

/-- The largest sum of R224 along the paths from a tensor to a DECISION layer, in stripe rows; `n` bounds the depth. A
resampling layer has no row stride and leaves the product (log entry 41). -/
def Plan.lagSum (p : Plan) : Nat → Nat → Nat → Option Nat
  | 0, _, _ => none
  | n + 1, t, prod =>
    p.layers.foldl (fun best l =>
      if l.inT = t ∨ l.second = t ∨ l.comb.contains t = true then
        let own := if l.windowed then l.rowLag * prod else 0
        let on := p.lagSum n l.outT (if l.windowed && !l.resamples then prod * l.sh else prod)
        let here := if l.decision then some (own + on.getD 0) else on.map (own + ·)
        match best, here with
        | some a, some b => some (max a b)
        | none, b => b
        | a, none => a
      else best) none

/-- LagLines as the commit recomputes it (R224). -/
def State.lagLinesOf (t : State) (p : Plan) : Nat :=
  ((p.lagSum (p.layers.length + 1) 0 1).getD 0) * t.reg K.stripeFold

/-! ### Tracks (R242, R244, R246, R255) -/

/-- C_step of R255. -/
def Plan.stepCost (p : Plan) (h : Heads) : Nat :=
  2 * p.maskRows h * (p.maskWidth h + 16) + ceilDiv h.capacity 16 + h.listLen * ceilDiv h.chans 64 + 256

/-- The HEADS section and the track step (R242, R244, R246, R255). -/
def State.headsOk (t : State) (p : Plan) : Bool :=
  let h := t.heads p
  let rows := p.maskRows h
  let width := p.maskWidth h
  let dl := p.layer h.decision
  let steps := p.kernels.filter fun k => (p.layer k.layer).op == 8
  let upto := fun (v lo hi : Nat) => decide (lo ≤ v) && decide (v ≤ hi)
  p.cls != 0 || every [
    h.conn == 4 || h.conn == 8, upto h.gapRows 1 16, upto h.classes 2 64, upto h.capacity 1 4096, upto h.listLen 1 1024,
    upto h.maxRows 1 65535, upto h.chans 1 1024,
    (p.tensors.filter fun x => x.num == h.headIn).all fun x => x.chans == h.chans + (if h.geometry then 4 else 0),
    p.tensors.any fun x => x.num == h.headIn && x.die == 0 && x.rows == h.listLen,
    decide (h.decision < p.layers.length), dl.op == 5, dl.decision, dl.rowLen == h.classes,
    decide (1 ≤ rows) && p.stripeLines % rows == 0 && isPow2 (p.stripeLines / rows),
    decide (1 ≤ width) && t.reg K.stripeWidth % width == 0 && isPow2 (t.reg K.stripeWidth / width),
    (List.range p.batch).all fun b => (steps.filter fun k => k.batch == b).length == 1,
    steps.all fun k => k.die == 0 && k.unit == 16 && decide (p.stepCost h ≤ k.cycles) &&
      p.kernels.all fun x => x.layer != h.decision || x.batch + 1 != k.batch || decide (x.start + x.cycles ≤ k.start)]

/-! ### Memory schedule (R313, R325, R326, R328) -/

/-- Bytes of an image of `len` bytes on die `m` of `d` (R311). -/
def imageOnDie (len m d : Nat) : Nat := len / (4096 * d) * 4096 + min 4096 (len % (4096 * d) - 4096 * m)

/-- Whether one entry stays where its bytes may lie (R325, R326). -/
def Plan.entryOk (p : Plan) (d scratch : Nat) (e : MemEntry) : Bool :=
  let m := e.link / 16
  every [
    decide (1 ≤ e.kind), decide (e.kind ≤ 3), e.memOff % 2 == 0, e.chipOff % 2 == 0, decide (1 ≤ e.count),
    decide (e.count ≤ 4096),
    if e.kind = 1 then
      e.memOff / 4096 % max 1 d == m && decide (dieOffset e.memOff (max 1 d) + 150 * e.count ≤ imageOnDie p.length m (max 1 d))
    else decide (e.memOff + 150 * e.count ≤ scratch)]

/-- Whether two entries of one link share a slot in one direction, or start in one slot (R326). -/
def MemEntry.clash (a b : MemEntry) : Bool :=
  a.link == b.link && (a.start == b.start ||
    ((a.kind == 3) == (b.kind == 3) && decide (a.dataSlot < b.dataEnd) && decide (b.dataSlot < a.dataEnd)))

/-- Whether a real-time transfer takes only slots of PLAN and RERUN slots of its die and lands before RESERVE (R326). -/
def Plan.transferOk (p : Plan) (e : MemEntry) : Bool :=
  let sl := p.dieSlots (e.link % 16 / 8)
  let inside := fun (k : Nat) => sl.any fun x => (x.kind == 1 || x.kind == 3) && decide (x.start ≤ 16 * k) &&
    decide (16 * k + 16 ≤ x.start + x.len)
  let res := ((sl.find? fun x => x.kind == 5).map fun x => x.start).getD p.periodCycles
  e.start % 64 != 63 && (List.range (e.dataEnd - e.start)).all (fun i => !e.occupies (e.start + i) || inside (e.start + i)) &&
    decide (16 * (e.dataEnd - 1) + 144 ≤ res)

/-- The entry moved to one of the 64 places of its step on the slot grid: a request on a reserved slot waits one. -/
def MemEntry.shifted (e : MemEntry) (by' : Nat) : MemEntry :=
  let k := e.start + by'
  { e with start := if k % 64 = 63 then k + 1 else k }

/-- Entries of a background step (R221). -/
def State.stepTransfers (t : State) (p : Plan) (n : Nat) : List MemEntry :=
  ((p.kernels.filter fun k => k.step == n).map fun k => t.kernelEntries p k).flatten

/-- Whether every byte that a READ_SCRATCH reads was written by an earlier WRITE_SCRATCH of the list (R313, R326). -/
def scratchOk (es : List MemEntry) : Bool :=
  es.all fun r => r.kind != 2 ||
    let done := es.foldl (fun (l : List (Nat × Nat)) w =>
      if w.kind = 3 ∧ w.link / 16 = r.link / 16 ∧ w.dataEnd + 7 ≤ r.start then addSpan l w.memOff (w.memOff + 150 * w.count) else l) []
    done.any fun x => decide (x.1 ≤ r.memOff) && decide (r.memOff + 150 * r.count ≤ x.2)

/-- Reel bytes that an entry fills: from its first to past its last. -/
def MemEntry.span (e : MemEntry) : Nat × Nat := (e.chipOff, e.chipOff + 150 * e.count)

/-- Whether a reel read of 64 image bytes from `o`, placed in a cycle, names bytes that a fill has brought and that no later fill
has overwritten (R134, R326). `es` are the fills of its die with the cycle by which each has landed. -/
def readFilled (es : List (MemEntry × Nat)) (d o cyc : Nat) : Bool :=
  let m := o / 4096 % max 1 d
  let x := dieOffset o (max 1 d)
  (List.range 64).all fun i => es.any fun (e, at') =>
    let y := e.chipOff + (x + i - dieOffset e.memOff (max 1 d))
    e.link / 16 == m && decide (dieOffset e.memOff (max 1 d) ≤ x + i) &&
      decide (x + i < dieOffset e.memOff (max 1 d) + 150 * e.count) && decide (at' ≤ cyc) &&
      es.all fun (f, t) => decide (t ≤ at') || decide (cyc < 16 * f.start) || decide (y < f.span.1) || decide (f.span.2 ≤ y)

/-- Whether every reel read of a plan's kernels names a block that its memory schedule has filled (R134): in a background plan
a fill of an earlier step of the job counts as landed. -/
def State.readsFilled (t : State) (p : Plan) : Bool :=
  let d := (t.memHead p).2.1
  p.kernels.all fun k =>
    let w := { t.workOf p (p.layer k.layer) k.die with rerun := bitOf k.flags 2 }
    let fills := if p.cls = 0 then (t.memEntries p).map fun e => (e, e.landed)
      else (p.kernels.filter fun x => decide (x.step ≤ k.step)).flatMap fun x =>
        (t.kernelEntries p x).map fun e => (e, if x.step = k.step then e.landed else 0)
    let mine := fills.filter fun x => x.1.kind == 1 && x.1.link % 16 / 8 == k.die
    (w.reelReads k).all fun (o, cyc) => readFilled mine d o cyc

/-- The memory schedule (R325, R326). -/
def State.scheduleOk (t : State) (p : Plan) : Bool :=
  let (_, d, scratch) := t.memHead p
  let es := t.memEntries p
  every [
    scratch % 4096 == 0, es.all (p.entryOk d scratch),
    pairwise (fun (a b : MemEntry) => decide (a.start < b.start) || (a.start == b.start && decide (a.link ≤ b.link)) || p.cls != 0) es,
    if p.cls = 0 then pairwise (fun a b => !a.clash b) es && es.all p.transferOk && scratchOk es
    else
      (p.steps.all fun n => (List.range 64).all fun o =>
        let l := (t.stepTransfers p n).map fun e => e.shifted o
        pairwise (fun (a b : MemEntry) => !a.clash b) l &&
          l.all fun e => decide (16 * (e.dataEnd - o) ≤ p.stepCycles n) && e.link % 16 / 8 == p.stepDie n) &&
      (let job := (p.steps.zip (List.range p.steps.length)).map fun (n, i) =>
        (t.stepTransfers p n).map fun e => { e with start := e.start + i * (2 ^ 32) }
       scratchOk job.flatten)]

/-- Whether each die's MAINT slots hold a recalibration window in every 4,194,304 cycles around the period (R328). -/
def Plan.maintOk (p : Plan) : Bool :=
  (List.range 2).all fun d =>
    let starts := ((p.dieSlots d).filter fun x => x.kind == 4).filterMap fun x =>
      let first := ceilDiv x.start 16
      let from' := if 47 < first % 64 then first + (64 - first % 64) else first
      if 16 * (from' + 16) ≤ x.start + x.len then some (16 * from') else none
    match starts with
    | [] => false
    | a :: _ =>
        ((starts ++ [a + p.periodCycles]).zip (starts.drop 1 ++ [a + p.periodCycles])).all fun (x, y) => decide (y ≤ x + 4194304)

/-! ### Knots and groups (R343, R351) -/

/-- The KNOTS section (R343). -/
def State.knotsOk (t : State) (c : Nat) (p : Plan) : Bool :=
  let b := t.image p
  (p.knotInits b).all (fun x => decide (x.off < t.reg (K.knotCount c))) && (p.knotActs b).all fun x =>
    decide (x.die ≤ 1) && decide (x.member ≤ 7) &&
      (if p.cls = 0 then (x.kind == 1 || x.kind == 2) && x.step == 0 else (x.kind == 3 || x.kind == 4) && x.cycle == 0)

/-- MaxHops of the GROUP section (R351). -/
def State.groupOk (t : State) (p : Plan) : Bool :=
  p.modules == 1 || (let h := leAt (t.image p) (p.secOff 13 + 4) 1
    decide (1 ≤ h) && decide (h ≤ 4))

/-! ### Regions of all committed plans (R133, R190, R224) -/

/-- Activation-store regions of a plan: die, offset and length. -/
def State.storeRegions (t : State) (p : Plan) : List (Nat × Nat × Nat) :=
  let h := t.heads p
  let input := ((p.tensors.find? fun x => x.num == 0).map Tensor.bytes).getD 0
  ((p.tensors.filter fun x => p.cls != 0 || x.num != 0).map fun x => (x.die, x.off, x.len)) ++
    (p.buffers.map fun x => (x.1, x.2 - 64, input + 64)) ++
    if p.cls = 0 then
      [(0, h.tableOff, h.capacity * 64), (0, h.featureOff, h.capacity * h.chans * 4), (0, h.listOff, h.listLen * 16)]
    else []

/-- Whether two regions of the stores have nothing in common. -/
def regionsApart (a b : Nat × Nat × Nat) : Bool := a.1 != b.1 || apart a.2 b.2

/-- Line-buffer regions of a plan: die × 4,096 KiB + base, and length, both in KiB. -/
def Plan.lineRegions (p : Plan) : List (Nat × Nat) :=
  ((p.layers.filter fun l => l.windowed).map fun l => ((List.range 2).filter fun d => bitOf l.dieMask d).flatMap fun d =>
    l.regions.map fun x => (4096 * d + x.1, x.2)).flatten

/-- Whether the regions of a plan stay clear of another committed plan's. -/
def State.regionsClear (t : State) (p q : Plan) : Bool :=
  ((t.storeRegions p).all fun a => (t.storeRegions q).all (regionsApart a)) && p.lineRegions.all fun a => q.lineRegions.all (apart a)

/-- The regions of a plan against those of the other contexts' plans, its carry and halo regions against each other, and
its stripe buffers against its own regions (R133, R190, R224). -/
def State.regionsOk (t : State) (c : Nat) (p : Plan) : Bool :=
  let own := (p.tensors.filter fun x => x.num != 0).map fun x => (x.die, x.off, x.len)
  let input := ((p.tensors.find? fun x => x.num == 0).map Tensor.bytes).getD 0
  let bufs := p.buffers.map fun x => (x.1, x.2 - 64, input + 64)
  every [
    pairwise apart p.lineRegions, pairwise regionsApart bufs, bufs.all fun a => own.all (regionsApart a),
    (List.range 16).all fun c' => c' == c || (match (t.ctx c').plan with
      | some q => t.regionsClear p q
      | none => true)]

/-! ### Order 4 -/

/-- Order 4 of R224: the status of each rule that a plan of context `c` breaks. -/
def State.planRules (t : State) (c : Nat) (p : Plan) (budget : Nat) : List Nat :=
  let b := t.image p
  let invalid := fun (ok : Bool) => if ok then [] else [Status.planInvalid]
  (if t.reservedOk p then [] else [Status.reservedNonzero]) ++
  invalid ((c == 0) == (p.cls == 0)) ++ invalid p.headerOk ++ invalid p.tensorsOk ++ invalid (t.inputOk p) ++
  invalid (p.layers.zipIdx.all fun (l, n) => p.layerOk b n l && l.groupOk && p.xformOk l) ++
  invalid (p.layers.all fun l => t.windowOk p l) ++ invalid (p.scalesOk b) ++
  invalid (p.layers.all fun l => ((l.op != 1 && !l.mac) || (t.workOf p l 0).shiftsOk) && t.subgroupsOk p l) ++
  invalid (p.kernels.all (p.kernelOk (t.memHead p).1)) ++ invalid (p.unitsOk && p.stepsOk) ++ invalid p.rampsOk ++
  invalid (p.cls != 0 || p.slotsOk (t.reg K.retryReserveMin)) ++ invalid (p.layers.all p.rerunOk) ++ invalid p.gridOk ++
  invalid (t.lagLinesOf p == p.lagLines) ++ invalid (p.cls != 0 || decide (p.lagLines ≤ p.flush * p.stripeLines)) ++
  invalid (t.headsOk p) ++ (if (t.memHead p).2.1 = t.mfg.part.memDies then [] else [Status.assemblyMismatch]) ++
  invalid (t.scheduleOk p) ++ invalid (t.readsFilled p) ++
  invalid (p.cls != 0 || p.maintOk || (decide (budget ≤ 4193792) && decide (p.periodCycles + 512 ≤ budget))) ++
  invalid (t.knotsOk c p) ++ invalid (t.groupOk p) ++ invalid (t.regionsOk c p) ++ invalid (Config.placementClean b)

end Sys2Proof.Machine
end

