-- ==== Sys2Proof/Machine/PlanBudget.lean ====
section
/-! DEFINITION. Capacity, budgets and deadlines of plans: orders 5 and 6 of R224, the figures of R225 to R227, the checks
R260, R261 and R275, and the re-check of R234. -/

namespace Sys2Proof.Machine

/-! ### Figures (R100, R225 to R227, R275) -/

/-- C_p of a pipeline for stripes of `S` lines (R100). -/
def State.serviceCycles (t : State) (p S : Nat) : Nat :=
  (((List.range 16).filter fun i => t.reg (K.streamPipeline i) == p).map fun i =>
    S * t.reg (K.streamWidth i) * planesOf (t.reg (K.streamPixelFormat i)) / 4 + 1024).sum

/-- f_CCLK in Hz. -/
def State.cclkHz (t : State) : Nat := t.engine.cclk * 1000000

/-- PeriodBudget (R225): 0 while MaxBeltSpeed is 0 (R21). -/
def State.budgetOf (t : State) (p : Plan) : Nat :=
  let v := t.reg K.maxBeltSpeed
  if v = 0 then 0 else p.batch * p.stripeLines * t.reg K.linePitch * t.cclkHz / (65536 * v)

/-- SlackCycles (R225): 0 while MaxBeltSpeed is 0 (R21). -/
def State.slackOf (t : State) (p : Plan) : Int :=
  if t.reg K.maxBeltSpeed = 0 then 0 else (t.budgetOf p : Int) - p.periodCycles

/-- DecisionLatencyBound (R226), in bc. -/
def State.boundOf (t : State) (p : Plan) : Nat :=
  let streams := t.readStreams
  let most := fun (f : Nat → Nat) => (streams.map f).foldl max 0
  let lines := p.batch * p.stripeLines - 1 + p.lagLines + most (fun i => meshLook (t.blob (K.meshTable i))) +
    most fun i => t.reg (K.lateLines i)
  let view := most fun i => (t.sreg 32 (K.streamViewOffset i)).toNat
  let pipe := 2 * most (fun i => t.serviceCycles (t.reg (K.streamPipeline i)) p.stripeLines) +
    (if streams.any fun i => decide (t.reg (K.streamPipeline i) < 4) && t.flag (K.noiseReductionEnable i) then
      2 * t.reg K.dieTransportNs else 0)
  -- worst receive latencies of Stripe ready and Decision: fixed ns, and periods of CCLK (R33, R35)
  let (ns, periods) := if t.reg K.crossingMode = 0 then (2 + 12 + 2 * t.reg K.dieTransportNs, 4)
    else (4 + 24 + 2 * t.reg K.dieTransportNs, 8)
  let mhz := t.engine.cclk
  let v := t.reg K.maxBeltSpeed
  let den := 65536 * mhz * 10 ^ 9
  ceilDiv (lines * t.reg K.linePitch * mhz * 10 ^ 9 + view * den + v * ((pipe + ns) * mhz + periods * 1000) * 65536 +
    v * (p.decisionCycle + p.retryReserve) * 1000 * 65536) den

/-- The greatest share of array compute cycles among the committed background plans (R227), as a fraction. -/
def State.backgroundShare (t : State) : Nat × Nat :=
  (List.range 16).foldl (fun (m : Nat × Nat) c =>
    match (t.ctx c).plan with
    | some p =>
      if p.cls = 0 then m
      else if m.1 * (96 * p.periodCycles) < p.activeCycles * m.2 then (p.activeCycles, 96 * p.periodCycles) else m
    | none => m) (0, 1)

/-- OPEN cycles per period on both dies (R227). -/
def Plan.openCycles (p : Plan) : Nat :=
  ((List.range 2).map fun d => (((p.dieSlots d).filter fun x => x.kind == 2).map fun x => x.len).sum).sum

/-- Predicted compute power in W as a fraction (R227). -/
def State.powerOf (t : State) : Nat × Nat :=
  let (en, ed) := match f32 (t.reg K.computeEnergyPerOp) with
    | .fin _ n d => (n, d)
    | _ => (0, 1)
  let (an, ad) := t.backgroundShare
  match t.rtPlan with
  | none => (an * 96 * 8192 * en * t.cclkHz, ad * ed * 10 ^ 12)
  | some p =>
    let (bn, bd) := (t.reg K.maxBeltSpeed * 65536, max 1 (p.batch * p.stripeLines * t.reg K.linePitch))
    let (cn, cd) := (t.cclkHz, max 1 p.periodCycles)
    let (rn, rd) := if bn * cd ≤ cn * bd then (bn, bd) else (cn, cd)
    (8192 * rn * (p.activeCycles * ad + 48 * p.openCycles * an) * en, ed * 10 ^ 12 * rd * ad)

/-- Whether the predicted power exceeds the allotment (R42, R234). -/
def State.powerOver (t : State) : Bool :=
  let (n, d) := t.powerOf
  decide (t.reg K.computePowerAllotment * d < n)

/-- The valve lead (R275), in bc. -/
def State.valveLead (t : State) : Nat :=
  let on := (List.range 1152).filter t.chanEnabled
  let open' := (on.map fun c => t.reg (K.valveOpenDelay (t.chanType c))).foldl max 0
  let path := (on.map t.latOn).foldl max 0
  ceilDiv (t.reg K.maxBeltSpeed * (open' + path + 10000)) (10 ^ 9)

/-! ### Order 5: capacity (R144, R160, R190, R219, R244, R260, R312, R326, R343, R465) -/

/-- Columns of the input that a windowed layer reads on a die: first and last, within the real ones (R179). -/
def Work.readColumns (w : Work) : Nat × Nat :=
  let l := w.layer
  let o := w.origin.2
  let n := w.extent.2
  if l.resamples then (o / max 1 l.sw - 1, min (l.wIn - 1) ((o + n) / max 1 l.sw))
  else (o * l.sw - l.pl, min (l.wIn - 1) ((o + n - 1) * l.sw + l.dw * (l.kw - 1) - l.pl))

/-- Bytes that an element of a layer's input takes in the line buffer: codes, and the BF16 copy of a re-run (R172, R190). -/
def Layer.lineBytes (l : Layer) : Nat := if l.mode = 2 then 2 else if l.rerun then 3 else 1

/-- Input rows of the present stripe or image that a windowed layer reads on a die: first and last. -/
def Work.readRows (w : Work) : Int × Int :=
  let l := w.layer
  let o : Int := (w.origin.1 : Int) - (if l.bounded then 0 else l.rowLag)
  let n := w.extent.1
  let last := (l.inRows : Int) - 1
  if l.resamples then (max 0 (o / l.sh - 1), min last ((o + n) / l.sh))
  else
    let extra : Int := if l.bounded then 0 else w.carryRows - l.carry
    (max 0 (o * l.sh - extra - l.pt), min last ((o + n - 1) * l.sh - extra - l.pt + l.dh * (l.kh - 1)))

/-- Whether a layer's line-buffer regions on a die end within the buffer and hold what they must (R190, R191): the carried rows
(log entry 32), and the columns or the rows that the other die holds. -/
def Work.lineFits (w : Work) : Bool :=
  let l := w.layer
  let (lo, hi) := w.readColumns
  let cols := hi + 1 - lo
  let (top, bottom) := w.readRows
  let rows := (bottom + 1 - top).toNat
  let per := l.cIn * l.lineBytes
  let outside := match w.inRec 0, w.inRec 1 with
    | some t0, some t1 =>
      if l.inT = 0 ∧ w.plan.cls = 0 then 0
      else if t0.width + t1.width = l.wIn then
        l.inRows * (if w.die = 0 then hi + 1 - t0.width else t0.width - lo)
      else if t0.rows + t1.rows = l.inRows then
        cols * (if w.die = 0 then bottom + 1 - max top t0.rows else min (bottom + 1) t0.rows - top).toNat
      else 0
    | none, some _ => if w.die = 0 then rows * cols else 0
    | some _, none => if w.die = 1 ∧ l.inT ≠ 0 then rows * cols else 0
    | none, none => 0
  let carried := if l.bounded then 0 else w.carryRows
  l.regions.all (fun x => decide (x.1 + x.2 ≤ 2048)) && decide (carried * cols * per ≤ 1024 * l.win 34 2) &&
    decide (outside * per ≤ 1024 * l.win 38 2)

/-- Bytes of a bank that a failed self-test takes out of use (R465): kind, die and number. -/
def State.failedBanks (t : State) (kind die : Nat) : List Nat :=
  (t.boot.selfTest.filter fun e => leAt e 1 1 == kind && leAt e 0 1 == die).map fun e => leAt e 2 1

/-- Whether a range of bytes lies clear of banks of a size. -/
def clearOf (banks : List Nat) (size off len : Nat) : Bool := banks.all fun n => apart (off, len) (n * size, size)

/-- Whether a plan's regions lie within the stores and outside banks that failed (R244, R465). -/
def State.storesFit (t : State) (p : Plan) : Bool :=
  ((t.storeRegions p).all fun x =>
    decide (x.2.1 + x.2.2 ≤ 2 ^ 26) && clearOf (t.failedBanks 3 x.1) (2 ^ 20) x.2.1 x.2.2) &&
  ((t.memEntries p).all fun e => e.kind != 1 ||
    (decide (e.chipOff + 150 * e.count ≤ 2 ^ 24) &&
      clearOf (t.failedBanks 4 (e.link % 16 / 8)) (2 ^ 20) e.chipOff (150 * e.count))) &&
  (p.lineRegions.all fun x => clearOf (t.failedBanks 5 (x.1 / 4096)) 64 (x.1 % 4096) x.2) &&
  ((List.range 2).all fun d => t.failedBanks 6 d == [] || p.kernels.all fun k => k.die != d)

/-- Scratch of a plan on each die, and where it lies when it comes into force now (R312). -/
def State.placeScratch (t : State) (p : Plan) : Option (Nat × Nat) :=
  let n := (t.memHead p).2.2
  if n = 0 then some (0, 0) else (placeRange (t.takenRanges 32) n).map fun b => (b, n)

/-- Order 5 of R224: the status of each capacity that a plan of context `c` exceeds; `fresh` plans need scratch. -/
def State.planCapacity (t : State) (c : Nat) (p : Plan) (fresh : Bool) : List Nat :=
  let cap := fun (ok : Bool) => if ok then [] else [Status.capacity]
  let es := t.memEntries p
  let h := t.heads p
  cap (t.shortQuad p).isNone ++ cap (t.storesFit p) ++ cap (decide (p.secCount 7 ≤ 131072)) ++
  cap ((p.layers.filter fun l => l.windowed).all fun l => (List.range 2).all fun d =>
    !bitOf l.dieMask d || (t.workOf p l d).lineFits) ++
  cap (!fresh || (t.placeScratch p).isSome) ++
  cap (es.all fun e => decide (e.link / 16 < t.mfg.part.memDies) && (t.mlink e.link).st != .failed) ++
  cap (decide ((p.knotInits (t.image p)).length ≤ t.reg (K.knotCount c))) ++
  cap (p.cls != 0 || decide ((h.listLen + t.reg K.directRecordLimit) * t.reg K.maxBeltSpeed * 65536 ≤
    200000 * p.stripeLines * t.reg K.linePitch))

/-! ### Order 6: deadlines (R225, R226, R261) -/

/-- Whether EjectorDistance leaves room for the decision and the valve (R261). -/
def State.distanceOk (t : State) (p : Plan) : Bool :=
  let h := t.heads p
  let lm := p.stripeLines / max 1 (p.maskRows h)
  let lines := (h.maxRows + h.gapRows) * lm + t.reg K.workListMaxWait * p.stripeLines
  decide ((lines * t.reg K.linePitch + (t.boundOf p + t.valveLead + t.reg K.leadMargin) * 65536 : Int) ≤
    t.reg K.ejectorDistance * 65536)

/-- Order 6 of R224: the status of each deadline that a plan of context `c` misses. -/
def State.planDeadlines (t : State) (c : Nat) (p : Plan) : List Nat :=
  if p.cls = 0 then
    (if t.slackOf p < 0 then [Status.deadline] else []) ++
    (if p.deadline ≠ 0 ∧ p.deadline < t.boundOf p then [Status.deadline] else []) ++
    if t.distanceOk p then [] else [Status.deadline]
  else
    match t.rtPlan with
    | none => []
    | some q =>
      if p.steps.all fun n => (q.dieSlots (p.stepDie n)).any fun x => x.kind == 2 && bitOf x.ctxMask c &&
          decide (p.stepCycles n ≤ x.len) then [] else [Status.capacity]

/-! ### The whole of step 5 for one plan, and the re-check (R224, R234, R413) -/

/-- What a plan of context `c` fails, in check order (R224): a plan that order 1 refuses is not checked further. -/
def State.planFailures (t : State) (c slot : Nat) (fresh : Bool) : List Nat :=
  match if fresh then t.imageStatus slot else none with
  | some st => [st]
  | none =>
    let p := parsePlan slot (t.planSlot slot).data
    (if p.detKey = t.reg K.detKey then [] else [Status.detkeyMismatch]) ++
    (if p.crossing = t.reg K.crossingMode then [] else [Status.crossingMode]) ++ t.planRules c p (t.budgetOf p) ++
    t.planCapacity c p fresh ++ t.planDeadlines c p

/-- Orders 4 to 6 for a STOPPED context's plan (R413): the first failure. -/
def State.recheckPlan (t : State) (c : Nat) (p : Plan) : Option Nat :=
  (t.planRules c p (t.budgetOf p) ++ t.planCapacity c p false ++ t.planDeadlines c p).head?

/-- The figures of R234 are recomputed with the CCLK in force, and their record is issued. Without a real-time plan they
read 0 but for the power prediction, and so does their record (log entry 42). -/
def State.reviewPlans (s : State) : State :=
  let (pn, pd) := s.powerOf
  let s := (s.setReg K.predictedComputePower (f32OfRat (pn : Int) pd)).setReg K.powerAtRisk (bitNat s.powerOver)
  match s.rtPlan with
  | none =>
    let s := ((((s.setReg K.periodBudget 0).setReg K.slackCycles 0).setReg K.decisionLatencyBound 0).setReg
      K.decisionLatencyBoundUs 0).setReg K.deadlineAtRisk 0
    s.emit (s.recAt RType.slackReport Unit.plan 0 0)
  | some p =>
    let v := s.reg K.maxBeltSpeed
    let bound := s.boundOf p
    let slack := unsigned 32 (clampInt (-(2 ^ 31)) (2 ^ 31 - 1) (s.slackOf p))
    let risk := decide (s.slackOf p < 0) || (p.deadline != 0 && decide (p.deadline < bound))
    let s := (((s.setReg K.periodBudget (min (2 ^ 32 - 1) (s.budgetOf p))).setReg K.slackCycles slack).setReg
      K.decisionLatencyBound (min (2 ^ 32 - 1) bound)).setReg K.deadlineAtRisk (bitNat risk)
    let s := s.setReg K.decisionLatencyBoundUs (if v = 0 then 0 else f32OfRat ((bound * 1000000 : Nat) : Int) v)
    s.emit (s.recAt RType.slackReport Unit.plan (slack + 2 ^ 32 * min (2 ^ 32 - 1) bound) 0)

end Sys2Proof.Machine
end

