-- ==== Sys2Proof/Machine/Supplies.lean ====
section
/-! DEFINITION. The commands of the supply inputs and the field-bank fuses (R43 to R47, R93). -/

namespace Sys2Proof.Machine

/-- FieldBankReset (R47). -/
def State.bankResetCmd (s : State) (b : Nat) : Nat × State :=
  if 3 < b then (Status.valueRange, s)
  else
    let f := SMap.get 0 s.supplies.fuseOpen b
    if s.tick + 1 < f then (Status.bankRetryWait, s)
    else ({ s with supplies := { s.supplies with fuseOpen := SMap.set 0 s.supplies.fuseOpen b 0 } } : State).cmdOk
      K.fieldBankReset

/-- FIELD_BANK_RESET (R47). -/
def execFieldBankReset (sess bank : Nat) (s : State) : Host.Outcome State Fault Refusal :=
  .next (s.runCmd sess K.fieldBankReset fun s => s.bankResetCmd bank)

/-- A bank's current has stood above FieldBankTripCurrent for more than 1 ms (R47). -/
def State.bankTrip (s : State) (b ma : Nat) : State :=
  if s.reg (K.fieldBankTripCurrent b) < ma ∧ SMap.get 0 s.supplies.fuseOpen b = 0 ∧ s.supplies.inReset = false then
    let s := { s with supplies := { s.supplies with fuseOpen := SMap.set 0 s.supplies.fuseOpen b (s.tick + 250000001) } }
    ((s.bankOff b).bump (K.fieldBankTrips b)).report FCode.fieldBankTrip Unit.field (b + 65536 * min (2 ^ 32 - 1) ma)
  else s

/-- FIELD_BANK_TRIP (R47). -/
def execFieldBankTrip (bank ma : Nat) (s : State) : Host.Outcome State Fault Refusal :=
  guardUnit (decide (bank < 4)) bank (s.bankTrip bank ma)

/-- Notes the polarity of an input (R44): 0 the logic input, 1 the camera input, 2 + k field bank k. While any input is
reversed no direct output and no ALIVE_OUT is driven; the end of it switches none on (R45). R45 names camera power beside
the outputs, so its switches follow the camera input alone (DEDUCED, log entry 103). -/
def State.setPolarity (s : State) (u : Nat) (reversed : Bool) : State :=
  let others := s.supplies.reversed.filter (· != u)
  let s := { s with supplies := { s.supplies with reversed := if reversed then others ++ [u] else others } }
  if reversed then
    { s with field := { s.field with
        alive := { s.field.alive with level := false }
        outs := s.field.outs.map fun (p : Nat × DirOut) => (p.1, { p.2 with driven := false }) } }
  else s

/-- A field bank's supply crosses 18.0 V (R45): without it the bank's outputs are off, and its return switches none. A
negative voltage is a reversed input (R44). -/
def State.bankSupply (s : State) (b : Nat) (mv : Int) : State :=
  let s := { s with supplies := { s.supplies with bankMv := SMap.set 0 s.supplies.bankMv b mv.toNat } }
  let s := s.setPolarity (2 + b) (decide (mv < 0))
  if mv < 18000 then s.bankOff b else s

/-- FIELD_BANK_SUPPLY_CHANGE (R45). -/
def execFieldBankSupplyChange (bank : Nat) (mv : Int) (s : State) : Host.Outcome State Fault Refusal :=
  guardUnit (decide (bank < 4)) bank (s.bankSupply bank mv)

/-- A link with power enabled goes to POWERING until the camera supply returns (R93); no fault is counted, and its
stream starts again. A link whose power a fault switched off stays off (R94). -/
def State.powerLost (s : State) (l : Nat) : State :=
  let x := s.cam l
  let tripped := x.st == .powerFault && s.reg (K.linkFailCause l) == 2
  if s.flag (K.cameraPowerEnable l) = true ∧ x.st ≠ .idle ∧ tripped = false ∧ x.st ≠ .loopback then
    let s := s.dropCtl l
    let s := s.setCam l { s.cam l with st := .powering, step := .waitSupply, powered := false, lock := false
                                       since := s.tick, ident := none, switching := false, inTest := false }
    match s.linkStream l with
    | some i =>
      let y := s.stream i
      if y.st = .ready ∨ y.st = .streaming ∨ y.st = .resync then
        let s := s.setStream i { y with st := .starting, trigs := [], due := none, cur := none, curData := []
                                        curBad := false, inFrame := false, nextTag := none, hold := [], resyncStep := 0 }
        let s := match y.due with
          | some (n, _) => s.markMissing i n
          | none => s
        s.missIncomplete i
      else s
    | none => s
  else s

/-- The camera supply crosses 20.0 V (R45, R93): below it camera power is off on every link; once it is back, waiting
links sense their load. -/
def State.cameraSupply (s : State) (mv : Int) : State :=
  let s := { s with supplies := { s.supplies with cameraMv := mv.toNat } }
  let s := s.setPolarity 1 (decide (mv < 0))
  if mv < 20000 then
    (List.range 24).foldl (fun s l =>
      let s := s.powerLost l
      if (s.cam l).powered then s.setCam l { s.cam l with powered := false } else s) s
  else
    (List.range 24).foldl (fun s l =>
      if (s.cam l).st = .powering ∧ (s.cam l).step = .waitSupply then
        s.setCam l { s.cam l with step := .sense, since := s.tick }
      else s) s

/-- CAMERA_SUPPLY_CHANGE (R45). -/
def execCameraSupplyChange (mv : Int) (s : State) : Host.Outcome State Fault Refusal := .next (s.cameraSupply mv)

/-- The logic input crosses a threshold (R46): below 19.2 V operation continues unchanged and the lowest voltage is
followed; back above 20.4 V, the 100 ms of the start-up condition begin. The row names the fall alone; its return comes
as the same command with the voltage it has (DESIGN CHOICE, log entry 103). -/
def State.logicDip (s : State) (mv : Int) : State :=
  let v := mv.toNat
  let p := s.supplies
  let low := if v < 19200 then p.logicLow.or (some s.tick) else none
  let least := if p.logicLow.isSome then min p.logicMin v else v
  let ok := if 20400 < v then p.logicOk.or (some (s.tick + 25000000)) else none
  let s := { s with supplies := { p with logicLow := low, logicOk := ok, logicMin := if v < 19200 then least else p.logicMin } }
  s.setPolarity 0 (decide (mv < 0))

/-- LOGIC_SUPPLY_DIP (R46). -/
def execLogicSupplyDip (mv : Int) (s : State) : Host.Outcome State Fault Refusal := .next (s.logicDip mv)

/-- Every direct output off and the alive output low (R46, steps 1 and 2). -/
def State.outputsOff (s : State) : State :=
  let s := s.setAlive false false
  { s with field := { s.field with outs := s.field.outs.map fun (p : Nat × DirOut) =>
      (p.1, { p.2 with cmd := false, driven := false }) } }

/-- A power-fail (R46): the logic input has stood below 19.2 V for more than 1 ms; `mv` is the lowest voltage by the
time the entry is written, 2 ms after the 1 ms has passed. The command takes these 2 ms with it, during which nothing but
the steps of R46 is modelled (DESIGN CHOICE, log entry 103). In STANDBY the module is in reset already: it writes the
entry and leaves STANDBY (R430). Otherwise a module in reset writes no entry, and its start-up has to wait for the logic
input again. -/
def State.powerFail (s : State) (mv : Nat) : State :=
  match s.supplies.logicLow with
  | some t =>
    if s.tick ≤ t + 250000 then s
    else if s.supplies.inReset = false ∨ s.power.st = .standby then
      let s := s.outputsOff
      let s := { s with tick := max s.tick (t + 750000) }
      let (_, s) := s.noteFault FCode.powerFail .reset Unit.power 0xFF (65536 * min 65535 (min mv s.supplies.logicMin))
      s.enterReset FCode.powerFail
    else { s with supplies := { s.supplies with resetDue := some FCode.powerFail } }
  | none => s

/-- POWER_FAIL (R46). -/
def execPowerFail (mv : Nat) (s : State) : Host.Outcome State Fault Refusal := .next (s.powerFail mv)

end Sys2Proof.Machine
end

