-- ==== Sys2Proof/Machine/Tethers.lean ====
section
/-! DEFINITION. Tether ports, the tether group, and knot operations that come from other members (R340, R347 to R359). -/

namespace Sys2Proof.Machine

/-! ### The group (R351 to R353) -/

/-- Whether a port number is one of the four (R48). -/
def State.hasTether (_ : State) (p : Nat) : Bool := decide (p < 4)

/-- Sets the group's state, with the entries that read it. -/
def State.setGroup (s : State) (g : Group) : State :=
  (({ s with knots := { s.knots with group := g } } : State).setReg K.groupState g.st.code).setReg K.groupFailCause g.cause

/-- The members of the group but this one. -/
def State.others (s : State) : List Nat :=
  match s.groupPlan with
  | some (_, p) => (List.range p.modules).filter fun d => d != p.member
  | none => []

/-- OperandLatencyLimit and MaxHops of the group plan (R351). -/
def State.groupLimits (s : State) : Nat × Nat :=
  match s.groupPlan with
  | some (_, p) => (leAt (s.image p) (p.secOff 13) 4, leAt (s.image p) (p.secOff 13 + 4) 1)
  | none => (0, 0)

/-- The SHA3-512 digest of the GROUP section (R352). -/
def State.groupDigest (s : State) (p : Plan) : List Byte := Sha3.sha512 (bytesAt (s.image p) (p.secOff 13) (p.secCount 13))

/-- The figures of a HELLO (R352). -/
structure HelloBody where
  groupId : Nat
  modules : Nat
  member : Nat
  detKey : Nat
  stripeLines : Nat
  batch : Nat
  period : Nat
  digest : List Byte
  deriving DecidableEq, Repr

/-- The figures that a HELLO's payload holds (R352; log entry 43). -/
def parseHello (b : List Byte) : HelloBody :=
  { groupId := leAt b 0 8, modules := leAt b 8 1, member := leAt b 9 1, detKey := leAt b 10 4, stripeLines := leAt b 14 2
    batch := leAt b 16 1, period := leAt b 17 4, digest := bytesAt b 21 64 }

/-- A HELLO's payload (R352; log entry 43). -/
def State.helloBytes (s : State) (p : Plan) : List Byte :=
  leBytes 8 p.groupId ++ leBytes 1 p.modules ++ leBytes 1 p.member ++ leBytes 4 (s.reg K.detKey) ++
    leBytes 2 p.stripeLines ++ leBytes 1 p.batch ++ leBytes 4 p.periodCycles ++ s.groupDigest p

/-- Sends HELLO to a member, and notes when (R352). -/
def State.sendHello (s : State) (d : Nat) (asked : Bool) : State :=
  match s.groupPlan with
  | none => s
  | some (c, p) =>
    let s := s.sendTo d 0x09 c false 0 0 (s.helloBytes p)
    if asked then
      { s with knots := { s.knots with group := { s.knots.group with
          helloSent := SMap.set 0 s.knots.group.helloSent d (s.tick + 1) } } }
    else s

/-- Sends HELLO to every other member once every enabled port is UP (R352, steps 1 and 2). -/
def State.sendHellos (s : State) : State :=
  let ready := (List.range 4).all fun q => !s.flag (K.tetherPortEnable q) || (s.tport q).st == .up
  if s.knots.group.st = .forming ∧ s.knots.group.helloSent = [] ∧ ready = true then
    s.others.foldl (fun s d => s.sendHello d true) s
  else s

/-- Formation begins (R352). -/
def State.startForm (s : State) : State :=
  match s.groupPlan with
  | none => s.setGroup {}
  | some (c, _) => ((s.setGroup { st := .forming, ctx := c, since := s.tick }).setReg K.membersSeen 0).sendHellos

/-- A failed check of formation, or of the running group (R352, R353). -/
def State.groupFail (s : State) (cause : Nat) : State :=
  s.setGroup { s.knots.group with st := .failed, cause, since := s.tick }

/-- Steps 4 and 5 of R352, as far as they can be taken now: member 0 sends its bc once its own belt stands (log entry
43), the group is FORMED once every HELLO agreed and the bc has gone round. -/
def State.tryForm (s : State) : State :=
  let g := s.knots.group
  let still := s.belt.st == .stopped || s.belt.st == .noSource
  if g.st = .forming ∧ (s.others.all fun d => g.agreed.contains d) = true then
    let s := if s.ownMember = 0 ∧ g.bcSent = false ∧ still = true then
        let s := s.others.foldl (fun (s : State) d => s.send (.groupMsg d (some s.belt.bc))) s
        { s with knots := { s.knots with group := { g with bcSent := true } } }
      else s
    let g := s.knots.group
    if g.bcSent then
      s.setGroup { g with st := .formed, lastMeasure := s.tick
                          lastHeard := s.others.map fun d => (d, s.tick) }
    else s
  else s

/-- The group plan stops with a fault of scope GROUP, and tells the other members (R353, R355, R356). -/
def State.stopGroup (s : State) (code detail : Nat) (tell : Bool) : State :=
  match s.groupPlan with
  | none => s
  | some (c, _) =>
    let s := if tell then s.others.foldl (fun (s : State) d => s.send (.groupMsg d none)) s else s
    s.raiseCtx code .group Unit.tethers c detail

/-! ### Receiving packets (R348 to R350) -/

/-- The packets of a port that an AckSeq acknowledges leave its window (R349). -/
def State.ackWindow (s : State) (port ack : Nat) : State :=
  let t := s.tport port
  s.setTport port { t with window := t.window.filter fun x => decide (32768 ≤ (ack + 65536 - x.seq) % 65536) }

/-- A packet that only acknowledges: it takes no Seq and waits for no acknowledgement (log entry 43). -/
def State.sendAck (s : State) (port dest : Nat) : State :=
  let t := s.tport port
  let pkt := withCrc (tetherBytes 0x0A s.ownMember dest 0 false t.txSeq ((t.rxSeq + 65535) % 65536) 0 0 [])
  ((s.setTport port { t with lastTx := s.tick }).send (.tether port 0x0A dest pkt)).portBytes false (0x66 + port) pkt.length

/-- A member was heard (R355). -/
def State.heard (s : State) (m : Nat) : State :=
  let g := s.knots.group
  if s.others.contains m then
    { s with knots := { s.knots with group := { g with lastHeard := SMap.put (SMap.erase g.lastHeard m) m s.tick } } }
  else s

/-- A packet for another member leaves by this module's own RouteTable, with the source that it names (R350). -/
def State.relay (s : State) (typ : Nat) (p : TPacket) : State :=
  let q := s.reg (K.routeTable p.dest)
  if q < 4 then s.sendFrom p.src q p.dest typ p.ctx p.fenced p.tag p.arg p.body else s

/-- What every received packet passes (R348, R349, R350): its form, what it acknowledges, its Seq, its destination. -/
def State.receive (s : State) (port typ : Nat) (p : TPacket) (body : State → State) : State :=
  if (s.tport port).st ≠ .up then s
  else
    let s := s.portBytes true (0x66 + port) (20 + (p.body.length + 7) / 8 * 8)
    if p.crcOk typ = false ∨ p.typeOk = false ∨ p.reservedOk = false then s.bump (K.tetherCrcErrors port)
    else
      let s := (s.ackWindow port p.ackSeq).heard p.src
      if typ = 0x0A then s
      else if p.seq ≠ (s.tport port).rxSeq then s.sendAck port p.src
      else
        let t := s.tport port
        let s := (s.setTport port { t with rxSeq := (t.rxSeq + 1) % 65536 }).sendAck port p.src
        if p.dest ≠ s.ownMember then s.relay typ p else body s

/-- The meaning of a row that delivers a packet. -/
def State.onPacket (s : State) (port typ : Nat) (p : TPacket) (body : State → State) :
    Host.Outcome State Fault Refusal := guardUnit (s.hasTether port) port (s.receive port typ p body)

/-! ### Requests of other members (R348, R354, R357) -/

/-- A request for a gloved context is answered with ERROR_COMP; any other one is served (R357). -/
def State.unlessGloved (s : State) (p : TPacket) (tag : Nat) (body : State → State) : State :=
  if (s.ctx p.ctx).st = .gloved then
    (s.bump K.tetherErrorCompletions).sendTo p.src 0x07 p.ctx false tag Status.contextGloved []
  else body s

/-- An operand is checked against the running period (R353), and its bytes are held for it (R240). Which combination takes them,
and so which kernel a late one freezes, no record of the image names (log entry 44). -/
def State.takeOperand (s : State) (p : TPacket) : State :=
  match s.engine.period with
  | none => s
  | some per =>
    if s.groupPlan.isNone ∨ per.empty = true then s
    else if p.tag = per.k % 2 ^ 32 then
      { s with knots := { s.knots with operands := s.knots.operands ++ [(p.src, p.arg, p.body)] } }
    else ((s.bump K.groupSkews).groupFail 5).stopGroup FCode.groupSkew (p.src + 65536 * p.tag) true

/-- OPERAND (R353). -/
def execOperand (port : Nat) (p : TPacket) (s : State) : Host.Outcome State Fault Refusal :=
  s.onPacket port 0x01 p fun s => s.takeOperand p

/-- TETHER_WRITE (R348). -/
def execTetherWrite (port : Nat) (p : TPacket) (s : State) : Host.Outcome State Fault Refusal :=
  s.onPacket port 0x02 p fun s => s.unlessGloved p p.tag fun s =>
    { s with knots := { s.knots with inbox := SMap.setList 0 s.knots.inbox p.arg p.body } }

/-- READ_REQ (R348). The packet names no length, and is answered with the 256 bytes from its offset (DESIGN CHOICE, log entry
107). -/
def execReadReq (port : Nat) (p : TPacket) (s : State) : Host.Outcome State Fault Refusal :=
  s.onPacket port 0x03 p fun s => s.unlessGloved p p.tag fun s =>
    s.sendTo p.src 0x04 p.ctx false p.tag 0 (SMap.getList 0 s.knots.inbox p.arg 256)

/-- Takes the request that a completion answers out of those that are out: by tag, member and context (R357). -/
def State.answered (s : State) (p : TPacket) : Option TReq × State :=
  match s.knots.requests.find? fun r => r.tag == p.tag && r.member == p.src && r.ctx == p.ctx with
  | none => (none, s)
  | some r => (some r, { s with knots := { s.knots with requests := s.knots.requests.filter fun x => x != r } })

/-- A request ends with a status and a result (R354, R357). -/
def State.endRequest (s : State) (r : TReq) (status result : Nat) : State :=
  match r.issuer with
  | .ring q i => s.finishCmd q i status result
  | .step c _ => s.opRefused c r.knot r.value status
  | .plan c _ => s.opRefused c r.knot r.value status
  | .remote m c t => s.sendTo m 0x06 c false t status (leBytes 8 result)

/-- A completion of any kind. -/
def State.complete (s : State) (p : TPacket) (status result : Nat) : State :=
  match s.answered p with
  | (none, s) => s
  | (some r, s) => s.endRequest r status result

/-- READ_COMP (R348). -/
def execReadComp (port : Nat) (p : TPacket) (s : State) : Host.Outcome State Fault Refusal :=
  s.onPacket port 0x04 p fun s => s.complete p Status.ok 0

/-- A knot command of another member is applied to the local store (R338, R339, R354). The FENCED bit holds nothing
longer here: packets of one source arrive in order, and a WRITE has landed when it arrives. -/
def State.remoteOp (s : State) (p : TPacket) : State :=
  let tag := leAt p.body 24 4
  let k := leAt p.body 4 2
  let v := leAt p.body 8 4
  let who := Issuer.remote p.src p.ctx tag
  let op := leAt p.body 0 1
  if op = 0x50 ∨ op = 0x51 then
    let (st, s) := s.knotAdd k v p.ctx (op == 0x51)
    s.notify who k st
  else if op = 0x52 then
    match s.knotWaitOp k v p.ctx (bitOf (leAt p.body 1 1) 0) (leAt p.body 12 4) who with
    | (some st, s) => s.notify who k st
    | (none, s) => s
  else if op = 0x53 then (s.countKnotOp p.ctx).notify who k Status.ok
  else s.notify who k Status.descriptorInvalid

/-- KNOT_OP (R354). -/
def execKnotOp (port : Nat) (p : TPacket) (s : State) : Host.Outcome State Fault Refusal :=
  s.onPacket port 0x05 p fun s => s.unlessGloved p (leAt p.body 24 4) fun s => s.remoteOp p

/-- KNOT_REPLY (R354). -/
def execKnotReply (port : Nat) (p : TPacket) (s : State) : Host.Outcome State Fault Refusal :=
  s.onPacket port 0x06 p fun s => s.complete p (p.arg % 65536) (leAt p.body 0 8)

/-- ERROR_COMP (R357). -/
def execErrorComp (port : Nat) (p : TPacket) (s : State) : Host.Outcome State Fault Refusal :=
  s.onPacket port 0x07 p fun s => s.complete p Status.tetherError 0

/-- TETHER_HEARTBEAT (R349). -/
def execTetherHeartbeat (port : Nat) (p : TPacket) (s : State) : Host.Outcome State Fault Refusal :=
  s.onPacket port 0x08 p id

/-- ACK (R349). -/
def execAck (port : Nat) (p : TPacket) (s : State) : Host.Outcome State Fault Refusal := s.onPacket port 0x0A p id

/-- TETHER_PACKET_DISCARDED (R348). -/
def execTetherPacketDiscarded (port : Nat) (p : TPacket) (s : State) : Host.Outcome State Fault Refusal :=
  s.onPacket port 0 { p with typeOk := false } id

/-! ### HELLO (R352) -/

/-- The first check of R352 that a HELLO fails: its cause. -/
def State.helloCheck (s : State) (p : Plan) (src delay pathHops : Nat) (h : HelloBody) : Option Nat :=
  let (limit, hops) := s.groupLimits
  if h.groupId ≠ p.groupId ∨ h.modules ≠ p.modules ∨ h.stripeLines ≠ p.stripeLines ∨ h.batch ≠ p.batch ∨
      h.period ≠ p.periodCycles ∨ h.digest ≠ s.groupDigest p ∨ h.member ≠ src ∨ h.member = p.member then some 2
  else if h.detKey ≠ s.reg K.detKey then some 3
  else if limit * 1000 < delay * s.engine.cclk ∨ hops < pathHops then some 4
  else none

/-- A HELLO arrives (R352, step 3): the answer to the one that is out, or one that asks for an answer. -/
def State.takeHello (s : State) (m : TPacket) (h : HelloPath) : State :=
  match s.groupPlan with
  | none => s
  | some (_, p) =>
    let g := s.knots.group
    let sent := SMap.get 0 g.helloSent m.src
    let s := s.setReg K.membersSeen (s.reg K.membersSeen ||| 2 ^ m.src)
    if sent = 0 then s.sendHello m.src false
    else
      let trip := (s.tick + 1 - sent) * 4
      let delay := (trip - h.turnaround) / 2
      let g := { g with helloSent := SMap.erase g.helloSent m.src }
      let s := ({ s with knots := { s.knots with group := g } } : State).setReg (K.tetherDelay m.src) (min (2 ^ 32 - 1) delay)
      if g.st = .forming then
        match s.helloCheck p m.src delay h.hops (parseHello m.body) with
        | some cause => s.groupFail cause
        | none =>
          ({ s with knots := { s.knots with group := { g with
              agreed := if g.agreed.contains m.src then g.agreed else (m.src :: g.agreed).mergeSort fun a b => decide (a ≤ b) } } } :
            State).tryForm
      else s

/-- HELLO (R352). -/
def execHello (port : Nat) (p : TPacket) (h : HelloPath) (s : State) : Host.Outcome State Fault Refusal :=
  s.onPacket port 0x09 p fun s => s.takeHello p h

/-- A member has not answered HELLO within 100 ms (R352). -/
def State.helloLate (s : State) (m : Nat) : State :=
  let g := s.knots.group
  let sent := SMap.get 0 g.helloSent m
  if g.st = .forming ∧ 0 < sent ∧ sent + 25000000 ≤ s.tick + 1 ∧ g.agreed.contains m = false then
    (s.setReg K.membersSeen (s.reg K.membersSeen &&& (255 - 2 ^ m))).groupFail 1
  else s

/-- HELLO_TIMEOUT (R352). -/
def execHelloTimeout (member : Nat) (s : State) : Host.Outcome State Fault Refusal :=
  guardUnit (decide (member < 8)) member (s.helloLate member)

/-- A FAILED group forms again after 1,000 ms (R352). -/
def execGroupFormationRetry (s : State) : Host.Outcome State Fault Refusal :=
  .next (if s.knots.group.st = .failed ∧ s.knots.group.since + 250000000 ≤ s.tick then s.startForm else s)

/-- TetherDelay is measured again every 100 ms while the group reads FORMED (R352). -/
def State.remeasure (s : State) : State :=
  let g := s.knots.group
  if g.st = .formed ∧ g.lastMeasure + 25000000 ≤ s.tick then
    s.others.foldl (fun s d => s.sendHello d true)
      { s with knots := { s.knots with group := { g with lastMeasure := s.tick } } }
  else s

/-- TETHER_DELAY_REMEASURE (R352). -/
def execTetherDelayRemeasure (s : State) : Host.Outcome State Fault Refusal := .next s.remeasure

/-- Member 0's bc arrives and is applied as BeltReorigin (R30, R352). -/
def State.takeBc (s : State) (bc : Nat) : State :=
  if s.knots.group.st = .forming ∧ s.ownMember ≠ 0 ∧ (s.belt.st = .stopped ∨ s.belt.st = .noSource) then
    ({ s with
        belt := { s.belt with reorigin := some (bc % 2 ^ 48) }
        knots := { s.knots with group := { s.knots.group with bcSent := true } } } : State).tryForm
  else s

/-- MEMBER_0_BC (R352). -/
def execMember0Bc (bc : Nat) (s : State) : Host.Outcome State Fault Refusal := .next (s.takeBc bc)

/-! ### Lost members and group stops (R353, R355, R356) -/

/-- A member has been silent for 100 µs (R355). -/
def State.loseMember (s : State) (m : Nat) : State :=
  let g := s.knots.group
  let last := SMap.get s.tick g.lastHeard m
  if (g.st = .formed ∨ g.st = .degraded) ∧ s.others.contains m = true ∧ g.lost.contains m = false ∧ last + 25000 ≤ s.tick then
    let s := s.bump (K.memberLosses m)
    let s := s.emit (s.recAt RType.memberLost Unit.tethers
      (m + 65536 * GroupSt.degraded.code + 2 ^ 32 * min (2 ^ 32 - 1) ((s.tick - last) * 4 / 1000)))
    let out := s.knots.requests.filter fun r => r.member == m
    let s := { s with knots := { s.knots with requests := s.knots.requests.filter fun r => r.member != m } }
    let s := out.foldl (fun s r => s.endRequest r Status.memberLost 0) s
    let its := fun (w : Waiter) => match w.issuer with
      | .remote n _ _ => n == m
      | _ => false
    let s := (s.setWaiters (s.knots.waiters.filter fun w => !its w)).settleQueues ((s.knots.waiters.filter its).map (·.knot))
    let s := s.setReg K.membersSeen (s.reg K.membersSeen &&& (255 - 2 ^ m))
    let s := s.setGroup { s.knots.group with st := .degraded, cause := 6
                                             lost := (m :: s.knots.group.lost).mergeSort fun a b => decide (a ≤ b) }
    s.stopGroup FCode.memberLost m true
  else s

/-- MEMBER_LOST (R355). -/
def execMemberLost (member : Nat) (s : State) : Host.Outcome State Fault Refusal :=
  guardUnit (decide (member < 8)) member (s.loseMember member)

/-- Another member's group context was reset: this member's group context stops (R356). -/
def execGroupStop (port : Nat) (p : TPacket) (s : State) : Host.Outcome State Fault Refusal :=
  guardUnit (s.hasTether port) port ((s.heard p.src).stopGroup FCode.groupStop p.src false)

/-! ### Ports (R347, R349, R359) -/

/-- An owned port has trained (R347, R359). -/
def State.portTrained (s : State) (port : Nat) : State :=
  let t := s.tport port
  let test := s.reg (K.tetherTest port) != 0
  if t.st = .training ∧ (test = true ∨ s.flag (K.tetherPortEnable port) = true) then
    (s.setTport port { st := if test then .test else .up, lastTx := s.tick }).sendHellos
  else s

/-- TETHER_PORT_TRAINED (R347). -/
def execTetherPortTrained (port : Nat) (s : State) : Host.Outcome State Fault Refusal :=
  guardUnit (s.hasTether port) port (s.portTrained port)

/-- The oldest packet of a port has waited 2 µs for its acknowledgement (R349): it goes out again with every later one,
or the port fails once it was sent three times. -/
def State.resend (s : State) (port : Nat) : State :=
  let t := s.tport port
  match t.window with
  | [] => s
  | x :: _ =>
    if t.st ≠ .up ∨ s.tick < x.sent + 500 then s
    else if 3 ≤ x.sends then s.setTport port { t with st := .failed, window := [] }
    else
      let s := (s.setTport port { t with
        window := t.window.map fun y => { y with sends := y.sends + 1, sent := s.tick }, lastTx := s.tick }).bump
          (K.tetherRetransmissions port)
      t.window.foldl (fun s y => (s.send (.tether port y.typ y.dest y.body)).portBytes false (0x66 + port) y.body.length) s

/-- TETHER_RETRANSMIT (R349). -/
def execTetherRetransmit (port : Nat) (s : State) : Host.Outcome State Fault Refusal :=
  guardUnit (s.hasTether port) port (s.resend port)

/-- A port has sent nothing for 10 µs (R349): a HEARTBEAT goes to each member that is reached by it (log entry 43). -/
def State.heartbeat (s : State) (port : Nat) : State :=
  let t := s.tport port
  if t.st = .up ∧ t.lastTx + 2500 ≤ s.tick then
    let dests := (List.range 8).filter fun d => s.reg (K.routeTable d) == port && d != s.ownMember
    (if dests = [] then [s.ownMember] else dests).foldl (fun s d => s.sendOn port d 0x08 0 false 0 0 []) s
  else s

/-- TETHER_HEARTBEAT_SEND (R349). -/
def execTetherHeartbeatSend (port : Nat) (s : State) : Host.Outcome State Fault Refusal :=
  guardUnit (s.hasTether port) port (s.heartbeat port)

/-- The pattern of a tether test arrives: `errors` of its bits differ (R359). -/
def execTetherTestPattern (port errors : Nat) (s : State) : Host.Outcome State Fault Refusal :=
  guardUnit (s.hasTether port) port (if (s.tport port).st = .test then s.bump (K.tetherTestErrors port) errors else s)

/-- Ports follow their owners, as a commit leaves them (R66, R347): a new owner trains, a port without one goes down. -/
def State.settlePorts (s : State) (old : State) : State :=
  (List.range 4).foldl (fun (s : State) q =>
    let own := fun (x : State) => (x.flag (K.tetherPortEnable q), x.reg (K.tetherTest q) != 0)
    if own s = own old then s
    else if own s = (false, false) then s.setTport q {}
    else s.setTport q { st := .training, since := s.tick }) s

/-! ### Waits that time out (R340) -/

/-- A waiter's Timeout has passed (R340): it is removed, by its place in the waiter table. -/
def State.waitTimeout (s : State) (n : Nat) : State :=
  match s.knots.waiters[n]? with
  | none => s
  | some w =>
    if w.timeout = 0 ∨ (s.tick - w.since) * 4 < w.timeout * 1000 then s
    else
      let s := (s.setWaiters (s.knots.waiters.eraseIdx n)).bump K.waitTimeouts
      let s := s.notify w.issuer w.knot Status.timeout
      State.releaseQueue w.knot s.knots.waiters.length s

/-- KNOT_WAIT_TIMEOUT (R340). -/
def execKnotWaitTimeout (waiter : Nat) (s : State) : Host.Outcome State Fault Refusal := .next (s.waitTimeout waiter)

end Sys2Proof.Machine
end

