-- ==== Sys2Proof/Machine/Power.lean ====
section
/-! DEFINITION. The power ladder, temperature and throttling, ageing and re-planning (R427 to R438). -/

namespace Sys2Proof.Machine

/-! ### PowerTarget (R428) -/

/-- Whether every condition for an entry into a state holds (R428): those of its row and of every row above it. -/
def State.entryOk (s : State) (sess : Nat) (t : PowerSt) : Bool :=
  let ready := s.readyOk && (s.nextDue).isNone
  let doze := s.reg K.pulsesPending == 0 && s.eject.chanOn == [] && s.ctl.staged == [] && s.ctl.stagedBlobs == []
  let retain := (s.ctl.sessions.all fun x => x.num == sess) && s.host.rings.all fun r => r.2.st != .running
  match t with
  | .run => true
  | .ready => ready
  | .doze => ready && doze
  | .retain => ready && doze && retain
  | .standby => ready && doze && retain && s.faults.recovery.isNone

/-- A write of PowerTarget (R428). -/
def State.powerTarget (s : State) (sess : Nat) (t : PowerSt) : Nat × State :=
  if t = s.power.st ∧ s.power.trans.isNone = true then s.cmdOk K.powerTarget
  else if t.code ≤ s.power.st.code then
    let (st, s) := s.cmdBegin K.powerTarget
    (st, (s.setReg K.lastWakeCause 0xFE).beginTransition t 1)
  else if s.entryOk sess t = false then (Status.powerState, s)
  else
    let (st, s) := s.cmdBegin K.powerTarget
    (st, s.beginTransition t 1)

/-- POWER_TARGET_RUN (R428). -/
def execPowerTargetRun (sess : Nat) (s : State) : Host.Outcome State Fault Refusal :=
  .next (s.runCmd sess K.powerTarget fun s => s.powerTarget sess .run)

/-- POWER_TARGET_READY (R428). -/
def execPowerTargetReady (sess : Nat) (s : State) : Host.Outcome State Fault Refusal :=
  .next (s.runCmd sess K.powerTarget fun s => s.powerTarget sess .ready)

/-- POWER_TARGET_DOZE (R428). -/
def execPowerTargetDoze (sess : Nat) (s : State) : Host.Outcome State Fault Refusal :=
  .next (s.runCmd sess K.powerTarget fun s => s.powerTarget sess .doze)

/-- POWER_TARGET_RETAIN (R428). -/
def execPowerTargetRetain (sess : Nat) (s : State) : Host.Outcome State Fault Refusal :=
  .next (s.runCmd sess K.powerTarget fun s => s.powerTarget sess .retain)

/-- POWER_TARGET_STANDBY (R428). -/
def execPowerTargetStandby (sess : Nat) (s : State) : Host.Outcome State Fault Refusal :=
  .next (s.runCmd sess K.powerTarget fun s => s.powerTarget sess .standby)

/-! ### What a state switches off and on again (R427, R431, R432) -/

/-- A POWER_STATE record (R432). -/
def State.powerRec (s : State) (new old : PowerSt) (cause start : Nat) : State :=
  s.emit (s.recAt RType.powerState Unit.power
    (new.code + 256 * old.code + 65536 * cause + 2 ^ 24 * s.reg K.lastWakeCause +
      2 ^ 32 * min (2 ^ 32 - 1) ((s.tick - start) * 4 / 1000)))

/-- Into DOZE: the camera links fall idle, the alive output stops and the outputs are off (R287, R427). -/
def State.enterDoze (s : State) : State :=
  let s := (List.range 16).foldl (fun s i =>
    let x := s.stream i
    if x.st = .off then s else (x.links.foldl (fun s l => s.idleLink l) s).setStream i { lines := x.lines, highest := x.highest }) s
  let s := s.aliveStopFor 2
  { s with field := { s.field with outs := s.field.outs.map fun (p : Nat × DirOut) => (p.1, { p.2 with driven := false }) } }

/-- Out of DOZE: streams come up under R86, the alive output runs again, and outputs that their owner commands on are
driven (R287, R427). -/
def State.leaveDoze (s : State) : State :=
  let s := (List.range 16).foldl (fun s i => if s.streamLinkList i = [] then s else s.startStream i) s
  let s := { s with field := { s.field with outs := s.field.outs.map fun (p : Nat × DirOut) =>
    (p.1, { p.2 with driven := p.2.cmd && s.bankOn (p.1 / 32) && !p.2.overload }) } }
  s.aliveClear 2

/-- The values in transit on the crossings of domains that enter reset are discarded (R36): of CD0 and of the Ethernet
ports with the time unit. -/
def State.dropCrossings (s : State) : State :=
  { s with tracks := { s.tracks with crossing := [], originMsg := [] }, net := { s.net with crossing := [] } }

/-- Into RETAIN: tunnels and Ethernet go down, BDP sessions close, no valve-link frame is sent (R427, R432). -/
def State.enterRetain (s : State) : State :=
  let s := [0, 1].foldl (fun s p =>
    let s := if (s.port p).st = .up then
        let s := s.loseTunnel p
        (s.setPort p { s.port p with st := .lost, lostAt := s.tick }).bump (K.tunnelLosses p)
      else s
    let s := s.setReg (K.hostLinkRate p) 0
    if (s.port p).st = .noTunnel then s.setPort p { s.port p with st := .noLink } else s) s
  let s := [0, 1].foldl (fun s p => s.portLink p false 0) s
  let s := s.ctl.sessions.foldl (fun s x => s.dropSession x.num) s
  let s := { s with ctl := { s.ctl with sessions := [], staged := [], stagedBlobs := [], owner := 0, parts := [] } }
  (List.range 4).foldl (fun s p => s.setVl p {}) s.dropCrossings

/-- The field inputs read their terminals again, without an edge: while the IO dies were off none was read (R430). -/
def State.rereadInputs (s : State) : State :=
  let s := { s with field := { s.field with inputs := s.field.inputs.map fun (p : Nat × Input) =>
    (p.1, if s.reg (K.inputMode p.1) = 2 then { p.2 with cand := none } else { p.2 with level := p.2.raw, cand := none }) } }
  s.field.inputs.foldl (fun s p => s.setReg K.inputLevels (putBit (s.reg K.inputLevels) p.1 p.2.level)) s

/-- Out of RETAIN (R431, R432): what the dies held is lost, each context resumes as after a teardown that ends IDLE, and
the time unit starts in LOST. -/
def State.leaveRetain (s : State) : State :=
  let s := s.dropCrossings
  let s := { s with
    engine := { s.engine with act := [], reel := [], lineBuf := [], scales := [], halo := [], parity := [], partSat := []
                              units := [], lastMac := [], lanes := [], unbound := true, lastEnd := 0 }
    memory := { s.memory with poison := [] }
    belt := { s.belt with streamStart := true, v := 0, spNum := 0, spDen := 1, isOver := false } }
  let s := s.presetBanks.resetPipes.rereadInputs
  let s := if s.belt.st = .noSource then s else s.setBeltSt .lost .stopped
  let s := (List.range 16).foldl (fun s c =>
    match (s.ctx c).plan with
    | none => s
    | some p =>
      let s := s.dropWork c
      let s := s.setCtx c { s.ctx c with st := if (s.ctx c).st = .stopped then .stopped else .idle, jobs := [] }
      s.bindPlan c p) s
  { s with knots := { s.knots with ports := s.knots.ports.map fun (p : Nat × TPort) =>
      (p.1, if p.2.st = .up then { st := .training, since := s.tick } else p.2) } }

/-- Into STANDBY (R427): everything but what a start-up finds again is gone; the wake block keeps the wake settings. -/
def State.enterStandby (s : State) : State :=
  let keep := [K.wakeSources, K.wakeInputMask, K.wakeTimer]
  let t := s.enterReset 0
  let t := keep.foldl (fun t k => t.setReg k (s.reg k)) t
  { t with
    supplies := { t.supplies with resetDue := none }
    power := { st := .standby, entered := s.tick } }

/-- Doorbells that were held are taken in order once RUN is reached (R428). -/
def State.takeBells (s : State) : State :=
  let l := s.power.heldBells
  let s := { s with power := { s.power with heldBells := [] } }
  l.foldl (fun s b => s.ringBell b.1 b.2.1 b.2.2) s

/-- Moves down the ladder to a state, one step after another. -/
def State.goDown (s : State) (old new : PowerSt) : State :=
  let s := if old.code < 2 ∧ 2 ≤ new.code then s.enterDoze else s
  if old.code < 3 ∧ 3 ≤ new.code then s.enterRetain else s

/-- Moves up the ladder to a state. -/
def State.goUp (s : State) (old new : PowerSt) : State :=
  let s := if old.code = 3 ∧ new.code < 3 then s.leaveRetain else s
  if 2 ≤ old.code ∧ new.code < 2 then s.leaveDoze else s

/-- A transition completes (R427 to R432). A start-up, not this, ends a wake from STANDBY. -/
def State.transDone (s : State) : State :=
  match s.power.trans with
  | none => s
  | some t =>
    let old := s.power.st
    if old = .standby then s
    else
      let s := if t.cause = 1 then s.cmdSet K.powerTarget Status.ok else s
      let s := { s with power := { s.power with st := t.target, trans := none, entered := s.tick, readySince := none } }
      let s := if old.code < t.target.code then s.goDown old t.target else s.goUp old t.target
      let s := s.powerRec t.target old t.cause t.start
      if t.target = .standby then s.enterStandby
      else if t.target = .run then s.takeBells.trackReady
      else if t.target = .ready ∧ s.power.heldBells ≠ [] then s.autoWake else s

/-- POWER_TRANSITION_DONE (R432). -/
def execPowerTransitionDone (s : State) : Host.Outcome State Fault Refusal := .next s.transDone

/-- A fault of scope DEVICE or RESET in READY or DOZE returns the device to RUN first (R431). -/
def State.faultWake (s : State) : State :=
  if s.power.st = .ready ∨ s.power.st = .doze then
    ({ s with power := { s.power with trans := some { target := .run, cause := 4, start := s.tick } } } : State).transDone
  else s

/-- The READY conditions have held for AutoReadyDelay (R429). -/
def State.autoReady (s : State) : State :=
  match s.power.readySince with
  | some t =>
    if s.flag K.autoReady = true ∧ s.power.st = .run ∧ s.power.trans.isNone = true ∧ s.readyOk = true ∧
        s.nextDue = none ∧ s.reg K.autoReadyDelay * 250000 ≤ s.tick - t then s.beginTransition .ready 2
    else s
  | none => s

/-- AUTO_READY_ENTRY (R429). -/
def execAutoReadyEntry (s : State) : Host.Outcome State Fault Refusal := .next s.autoReady

/-- The states in which a wake source wakes the device (R430). -/
def wakeFrom : Nat → List PowerSt
  | 0 => [.doze]
  | 1 => [.doze]
  | 2 => [.doze, .retain, .standby]
  | 4 => [.retain, .standby]
  | _ => []

/-- WAKE_EVENT (R430). -/
def execWakeEvent (source : Nat) (s : State) : Host.Outcome State Fault Refusal := .next (s.wake source (wakeFrom source))

/-- WakeTimer has elapsed since the entry (R430). -/
def State.wakeTimer (s : State) : State :=
  let n := s.reg K.wakeTimer
  if n ≠ 0 ∧ n * 250000000 ≤ s.tick - s.power.entered then s.wake 3 [.doze, .retain, .standby] else s

/-- WAKE_TIMER_EXPIRY (R430). -/
def execWakeTimerExpiry (s : State) : Host.Outcome State Fault Refusal := .next s.wakeTimer

/-! ### Temperature and supplies (R434, R435) -/

/-- Dies by their number in R439, that the assembly carries. -/
def State.diesFitted (s : State) : List Nat :=
  (List.range 10).filter fun d => d < 2 || (2 ≤ d && d < 2 + s.mfg.part.memDies) || d == 8 || (d == 9 && s.mfg.part.ioDies == 2)

/-- The die code of fault 0x0901 (R407). -/
def dieCode (d : Nat) : Nat := if d < 2 then d else if d < 8 then 0x10 + (d - 2) else 0x20 + (d - 8)

/-- A THERMAL record (R434): die code, on, cause and temperature. -/
def State.thermalRec (s : State) (die : Nat) (on : Bool) (cause temp : Nat) : State :=
  s.emit (s.recAt RType.thermal Unit.power (die + 256 * bitNat on + 65536 * cause + 2 ^ 32 * (temp % 65536)))

/-- A throttling cause begins or ends (R434). The die and temperature of cause 0x02 are free values (log entry 1). -/
def State.setThrottle (s : State) (cause die temp : Nat) (on : Bool) : State :=
  let s := if cause = 1 then { s with power := { s.power with throttleTemp := on } }
           else { s with power := { s.power with throttlePower := on } }
  let s := s.setReg K.throttleState (bitNat (s.power.throttleTemp || s.power.throttlePower))
  let s := if on then s.bump K.throttleEvents else s
  if cause = 1 then s.thermalRec die on cause temp
  else
    let (f, s) := s.takeFree
    s.thermalRec (f % 256) on cause (f / 256)

/-- Throttling by temperature: the first compute die at the limit, or every one below it less the hysteresis (R434). -/
def State.throttleByTemp (s : State) : State :=
  let temp := fun (d : Nat) => s.sreg 16 (K.dieTemperature d)
  let lim := s.sreg 16 K.throttleTemperature
  let hot := [0, 1].find? fun d => decide (lim ≤ temp d)
  let cool := [0, 1].all fun d => decide (temp d ≤ lim - s.reg K.thermalHysteresis)
  match hot with
  | some d => if s.power.throttleTemp then s else s.setThrottle 1 d (s.reg (K.dieTemperature d)) true
  | none =>
    if cool = true ∧ s.power.throttleTemp = true then
      let (f, s) := s.takeFree
      s.setThrottle 1 (f % 2) (s.reg (K.dieTemperature (f % 2))) false
    else s

/-- Throttling by power: PowerAtRisk, or a logic power above the ceiling for 100 ms, until both clear (R434). -/
def State.throttleByPower (s : State) : State :=
  let isOver := decide (s.reg K.logicPowerCeiling < s.reg K.logicInputPower)
  let since := if isOver then some (s.power.overSince.getD s.tick) else none
  let s := { s with power := { s.power with overSince := since } }
  let long := match since with
    | some t => decide (25000000 ≤ s.tick - t)
    | none => false
  let risk := s.flag K.powerAtRisk
  if risk || long then (if s.power.throttlePower then s else s.setThrottle 2 0 0 true)
  else if s.power.throttlePower = true ∧ isOver = false then s.setThrottle 2 0 0 false else s

/-- The sensors and supplies as read (R434, R435). -/
def State.readSensors (s : State) (t : TempSample) : State :=
  let s := s.diesFitted.foldl (fun s d => match t.dies[d]? with
    | some x => s.setReg (K.dieTemperature d) (unsigned 16 x)
    | none => s) s
  let s := (s.setReg K.logicInputVoltage (min 65535 t.logicMv)).setReg K.logicInputPower (min 65535 t.logicW)
  let s := s.setReg K.cameraInputVoltage (min 65535 s.supplies.cameraMv)
  (List.range 4).foldl (fun s b =>
    s.setReg (K.fieldBankVoltage b) (min 65535 (SMap.get 0 s.supplies.bankMv b))) s

/-- The sensors and supplies are read, and what follows from the temperatures and the power (R434, R435): not while the dies
are off (R427). -/
def State.tempSample (s : State) (t : TempSample) : State :=
  if s.power.st = .standby ∨ s.power.st = .retain then s
  else
  let s := s.readSensors t
  if s.supplies.inReset || s.boot.halted then s
  else match s.diesFitted.find? fun d => decide (1050 ≤ s.sreg 16 (K.dieTemperature d)) with
    | some d => s.faultWake.raiseReset FCode.junctionLimit Unit.power (dieCode d + 65536 * s.reg (K.dieTemperature d))
    | none => s.throttleByTemp.throttleByPower

/-- TEMPERATURE_SAMPLE (R434). -/
def execTemperatureSample (t : TempSample) (s : State) : Host.Outcome State Fault Refusal := .next (s.tempSample t)

/-! ### Ageing (R436 to R438) -/

/-- ReplanPending follows the margins of the compute dies (R437). -/
def State.setPending (s : State) : State :=
  s.setReg K.replanPending (bitNat ([0, 1].any fun d => decide (s.sreg 16 (K.timingMargin d) < s.reg K.marginTarget)))

/-- Whether every cycle is a re-plan point: context 0 has no plan (R437). -/
def State.alwaysReplan (s : State) : Bool := s.rtPlan.isNone && s.engine.period.isNone

/-- The ageing monitors update (R436, R437). -/
def State.ageing (s : State) (slow : List Nat) (margin : List Int) : State :=
  if s.supplies.inReset = true ∨ s.power.st = .retain then s
  else
    let s := s.diesFitted.foldl (fun s d =>
      let s := match slow[d]? with
        | some x => s.setReg (K.ageingSlowdown d) (min (2 ^ 32 - 1) x)
        | none => s
      match margin[d]? with
      | some x => s.setReg (K.timingMargin d) (unsigned 16 x)
      | none => s) s
    let s := s.setPending
    if s.alwaysReplan then s.replanPoint.setPending else s

/-- AGEING_MONITOR_UPDATE (R436). -/
def execAgeingMonitorUpdate (slow : List Nat) (margin : List Int) (s : State) : Host.Outcome State Fault Refusal :=
  .next (s.ageing slow margin)

/-- ReplanNow (R437). -/
def State.replanNowCmd (s : State) : Nat × State :=
  if s.power.st ≠ .run then (Status.powerState, s)
  else
    let s := { s with power := { s.power with replanNow := true } }
    (if s.alwaysReplan then s.replanPoint else s).cmdOk K.replanNow

/-- REPLAN_NOW (R437). -/
def execReplanNow (sess : Nat) (s : State) : Host.Outcome State Fault Refusal :=
  .next (s.runCmd sess K.replanNow fun s => s.replanNowCmd)

/-- A CCLK step ends (R438): the new clock is in force, the plans are re-checked, and the dies resume at cycle `cyc`. -/
def State.clockDone (s : State) (cyc : Nat) : State :=
  match s.power.clock with
  | none => s
  | some k =>
    let s := { s with
      power := { s.power with clock := none }
      engine := { s.engine with cclk := k.mhz, lastEnd := if s.engine.lastEnd = 0 then 0 else max s.engine.lastEnd cyc } }
    (((s.setReg K.coreClock k.mhz).noteTraining 23).setEnergy.reviewPlans).replanRec k.die 2

/-- CCLK_STEP_DONE (R438). -/
def execCclkStepDone (cyc : Nat) (s : State) : Host.Outcome State Fault Refusal := .next (s.clockDone cyc)

end Sys2Proof.Machine
end

