-- ==== Sys2Proof/Machine/Boot.lean ====
section
/-! DEFINITION. Start-up, extension blobs and attestation (R457 to R468). -/

namespace Sys2Proof.Machine

/-! ### Blobs (R462 to R464) -/

/-- One blob slot. -/
def State.blobSlot (s : State) (n : Nat) : BlobSlot := SMap.get {} s.boot.slots n

/-- Sets one blob slot. -/
def State.setBlobSlot (s : State) (n : Nat) (x : BlobSlot) : State :=
  { s with boot := { s.boot with slots := SMap.set {} s.boot.slots n x } }

/-- Offset of the trailer of a signed image (R217). -/
def trailerOf (b : List Byte) : Nat := b.length - 4720

/-- The keys that a KEYS blob carries (R462). -/
def blobKeys (slot : Nat) (b : List Byte) : List PubKey :=
  if leAt b 6 1 = 3 then
    (List.range (leAt b 64 4)).map fun i =>
      let o := 72 + 2616 * i
      { id := bytesAt b o 16, key := bytesAt b (o + 24) 2592, source := slot + 1, use := leAt b (o + 16) 1
        minVersion := leAt b (o + 20) 4 }
  else []

/-- Order 1 of R463: the structure of a blob. -/
def blobFormat (b : List Byte) : Bool :=
  let n := leAt b 64 4
  let cls := leAt b 6 1
  decide (4792 ≤ b.length) && decide (b.length ≤ 1048576) && b.length % 8 == 0 && leAt b 0 4 == 0x424F4C42 &&
    leAt b 4 2 == 1 && decide (1 ≤ cls) && decide (cls ≤ 3) && leAt b 7 1 == 0 && leAt b 8 8 == b.length &&
    leAt b 0x1C 36 == 0 && leAt b (trailerOf b) 4 == 0x4E474953 &&
    (cls != 3 || (decide (1 ≤ n) && decide (n ≤ 8) && leAt b 68 4 == 0 && trailerOf b == 72 + 2616 * n &&
      (List.range n).all fun i => decide (leAt b (72 + 2616 * i + 16) 1 < 2) && leAt b (72 + 2616 * i + 17) 3 == 0))

/-- Orders 1 to 5 of R463: the status of the first that fails. -/
def State.blobStatus (s : State) (b : List Byte) : Option Nat :=
  let tr := trailerOf b
  let digest := bytesAt b (tr + 0x18) 64
  if blobFormat b = false then some Status.imageFormat
  else if Sha3.sha512 (b.take tr) ≠ digest then some Status.digestMismatch
  else match s.mfg.vendorKeys.find? fun k => k.id == bytesAt b (tr + 8) 16 with
    | none => some Status.keyUnknown
    | some k =>
      if k.signed digest (bytesAt b (tr + 0x58) 4627) = false then some Status.signatureInvalid
      else if s.reg K.romRevision < leAt b 0x14 2 ∨ (leAt b 0x16 2 ≠ 0xFFFF ∧ leAt b 0x16 2 < s.reg K.romRevision) then
        some Status.versionRejected
      else none

/-- The status codes that a blob assigns: first and number (R462). -/
def blobRange (b : List Byte) : Nat × Nat := if leAt b 0x18 2 = 0 then (0, 0) else (leAt b 0x18 2, leAt b 0x1A 2)

/-- Whether no element of a list comes twice. -/
def distinct : List (List Byte) → Bool
  | [] => true
  | x :: l => !l.contains x && distinct l

/-- Orders 6 and 7 of R463, against the blobs loaded so far. -/
def State.blobClash (s : State) (slot : Nat) (b : List Byte) : Option Nat :=
  let r := blobRange b
  let meets := s.boot.slots.any fun p => p.2.loaded != [] &&
    let q := blobRange p.2.loaded
    decide (r.1 < q.1 + q.2) && decide (q.1 < r.1 + r.2)
  let new := (blobKeys slot b).filter fun k => bitOf k.use 0
  let ids := (s.mfg.vendorKeys ++ s.boot.keys).map fun k => k.id
  if (r.2 ≠ 0 ∧ meets = true) ∨ 65536 < r.1 + r.2 then some Status.valueRange
  else if leAt b 6 1 = 3 ∧ (16 < s.boot.keys.length + new.length ∨ (new.any fun k => ids.contains k.id) = true ∨
      distinct (new.map fun k => k.id) = false) then
    some Status.capacity
  else none

/-- Verifies and loads one stored blob (R463). -/
def State.loadBlob (s : State) (n : Nat) : State :=
  let x := s.blobSlot n
  match (s.blobStatus x.data).or (s.blobClash n x.data) with
  | none =>
    let keys := (blobKeys n x.data).filter fun k => bitOf k.use 0
    let s := s.setBlobSlot n { x with st := 1, status := 0, loaded := x.data }
    { s with boot := { s.boot with keys := s.boot.keys ++ keys } }
  | some st =>
    (s.setBlobSlot n { x with st := 2, status := st, loaded := [] }).report FCode.blobRejected Unit.boot (n + 65536 * st)

/-- The stored slots are verified and loaded afresh, in ascending order (R463). -/
def State.loadBlobs (s : State) : State :=
  let s := { s with boot := { s.boot with
    keys := [], slots := s.boot.slots.map fun (p : Nat × BlobSlot) => (p.1, { p.2 with loaded := [] }) } }
  let s := { s with boot := { s.boot with slots := s.boot.slots.filter fun p => p.2 != ({} : BlobSlot) } }
  ((s.boot.slots.filter fun p => p.2.data != []).map (·.1)).foldl (fun s n => s.loadBlob n) s

/-- BlobUploadBegin (R464). -/
def State.blobBegin (s : State) (length : Nat) : Nat × State :=
  if length < 4792 ∨ 1048576 < length then (Status.valueRange, s)
  else if s.boot.upload.isSome then (Status.busy, s)
  else
    let s := { s with boot := { s.boot with upload := some { slot := s.reg K.blobUploadSlot, length } } }
    (s.setReg K.blobUploadOffset 0).cmdOk K.blobUploadBegin

/-- BlobUploadData (R214 step 3, R464). Without an upload that runs it is refused with CONTEXT_STATE (log entry 39). -/
def State.blobData (s : State) (d : List Byte) : Nat × State :=
  if d = [] ∨ 65536 < d.length then (Status.valueRange, s)
  else match s.boot.upload with
    | none => (Status.contextState, s)
    | some u =>
      let o := s.reg K.blobUploadOffset
      if u.length < o + d.length then (Status.lengthMismatch, s)
      else
        let u := { u with data := layBytes u.data o d, spans := addSpan u.spans o (o + d.length) }
        let s := { s with boot := { s.boot with upload := some u } }
        (Status.ok, s.setReg K.blobUploadOffset (o + d.length))

/-- BlobUploadEnd (R464): a blob that fails orders 1 to 5 leaves the slot as it was. -/
def State.blobEnd (s : State) (n : Nat) : Nat × State :=
  if 16 ≤ n then (Status.valueRange, s)
  else match s.boot.upload with
    | none => (Status.contextState, s)
    | some u =>
      if u.slot ≠ n then (Status.contextState, s)
      else if covers u.spans u.length = false then (Status.lengthMismatch, s)
      else
        let s := { s with boot := { s.boot with upload := none } }
        match s.blobStatus u.data with
        | some st => (Status.ok, s.cmdSet K.blobUploadEnd st)
        | none => (s.setBlobSlot n { s.blobSlot n with st := 3, status := 0, data := u.data }).cmdOk K.blobUploadEnd

/-- BlobSlotClear (R464): a blob already loaded keeps running. -/
def State.blobClear (s : State) (n : Nat) : Nat × State :=
  if 16 ≤ n then (Status.valueRange, s)
  else (s.setBlobSlot n { s.blobSlot n with st := 0, status := 0, data := [] }).cmdOk K.blobSlotClear

/-- BLOB_UPLOAD_BEGIN (R464). -/
def execBlobUploadBegin (sess length : Nat) (s : State) : Host.Outcome State Fault Refusal :=
  .next (s.runCmd sess K.blobUploadBegin fun s => s.blobBegin length)

/-- BLOB_UPLOAD_DATA (R464). -/
def execBlobUploadData (sess : Nat) (data : List Byte) (s : State) : Host.Outcome State Fault Refusal :=
  .next (s.runCmd sess K.blobUploadData fun s => s.blobData data)

/-- BLOB_UPLOAD_END (R464). -/
def execBlobUploadEnd (sess slot : Nat) (s : State) : Host.Outcome State Fault Refusal :=
  .next (s.runCmd sess K.blobUploadEnd fun s => s.blobEnd slot)

/-- BLOB_SLOT_CLEAR (R464). -/
def execBlobSlotClear (sess slot : Nat) (s : State) : Host.Outcome State Fault Refusal :=
  .next (s.runCmd sess K.blobSlotClear fun s => s.blobClear slot)

/-- A Blobs entry of a report (R468), which BlobSlotInfo shows too (R470). -/
def blobInfo (slot : Nat) (b : List Byte) : List Byte :=
  if b = [] then []
  else leBytes 1 slot ++ bytesAt b 6 1 ++ leBytes 2 0 ++ bytesAt b 0x10 4 ++ bytesAt b (trailerOf b + 8) 16 ++
    bytesAt b (trailerOf b + 0x18) 64

/-! ### Start-up (R457, R458, R465, R466) -/

/-- ResetCause after the logic input qualified (R466): what the power-fail entry of the previous run says. -/
def State.powerCause (s : State) : Nat :=
  match s.faults.nv.reverse.find? fun e => e.code == FCode.powerFail && e.boot == s.reg K.bootCount with
  | some e => if 12000 ≤ e.detail / 65536 % 65536 then 2 else 1
  | none => 1

/-- Step 1 of R457: whether the logic input has stayed above 20.4 V for 100 ms (R46). -/
def State.logicQualified (s : State) : Bool :=
  match s.supplies.logicOk with
  | some t => decide (t ≤ s.tick)
  | none => false

/-- Whether the condition of a fault of scope RESET is over: after JUNCTION_LIMIT once every die reads below 95 °C, after
another at once (R408). -/
def State.faultOver (s : State) (code : Nat) : Bool :=
  code != FCode.junctionLimit || s.diesFitted.all fun d => decide (s.sreg 16 (K.dieTemperature d) < 950)

/-- Whether a start-up of a cause may begin (R457): 1 or 2, the logic input has qualified; 3, the exit from STANDBY, which
skips step 1; 4, the condition of a fault of scope RESET is over. -/
def State.startOk (s : State) (cause : Nat) : Bool :=
  s.supplies.inReset && (cause == 3 || s.logicQualified) &&
    match s.supplies.resetDue with
    | none => if cause = 3 then s.power.st == .standby && s.power.trans.isSome else s.power.st != .standby && (cause == 1 || cause == 2)
    | some c => if c = FCode.powerFail then cause == 1 || cause == 2 else cause == 4 && s.faultOver c

/-- Step 5 of R457: core voltage and CCLK follow from monitors whose readings are open, so they are free values within
what R437 allows (log entry 1): voltage steps of 5 mV, and clock steps once a die's headroom is used up. -/
def State.chooseClock (s : State) : State :=
  let room := s.reg K.voltageHeadroom / 5
  let (a, s) := s.takeFree
  let (b, s) := s.takeFree
  let (c, s) := s.takeFree
  let s := s.setReg (K.coreVoltage 0) (s.reg (K.coreVoltageTrim 0) + 5 * (a % (room + 1)))
  let s := s.setReg (K.coreVoltage 1) (s.reg (K.coreVoltageTrim 1) + 5 * (b % (room + 1)))
  let used := a % (room + 1) = room ∨ b % (room + 1) = room
  let mhz := if used then 800 - 10 * (c % ((800 - s.reg K.minCoreClock) / 10 + 1)) else 800
  let s := { s with engine := { s.engine with cclk := mhz } }
  (s.setReg K.coreClock mhz).setEnergy

/-- One failure of the self-test (R465). Kind 0 stands for a memory link, by its link code, whose training failed for the
third time in step 6 (R330). -/
def State.selfFail (s : State) (f : TestFail) : State :=
  if f.kind = 0 then s.failMlink f.unit 4
  else
    let e := [f.die, f.kind, f.unit, 1].map (BitVec.ofNat 8)
    let s := { s with boot := { s.boot with selfTest := s.boot.selfTest ++ [e], failures := s.boot.failures + 1 } }
    let s := s.report FCode.selfTestFailed Unit.boot (f.die % 256 + 256 * (f.unit % 256))
    if f.kind = 1 ∧ f.die < 2 ∧ f.unit < 50 then
      if s.arrayAt f.die f.unit = .factory then s else (s.noteRetire f.die f.unit 2).applyRetire f.die f.unit
    else if f.kind = 8 ∧ f.die < 2 then
      (List.range 50).foldl (fun s n => if s.arrayAt f.die n = .factory then s else s.setArray f.die n .retired) s
    else s

/-- Steps 2 to 8 of a start-up (R457). Everything the module does not keep starts from its default; LocalTime starts
again with TCLK. -/
def State.startUp (s : State) (cause : Nat) (fails : List TestFail) : State :=
  if s.startOk cause = false then s
  else
    let code := s.supplies.resetDue.getD 0
    let rc := if cause = 3 then 3 else if cause = 4 then 4 else s.powerCause
    let t0 := match s.power.trans with
      | some t => t.start
      | none => s.tick
    let waited := s.tick - t0
    let wake := s.reg K.lastWakeCause
    let s := s.enterReset 0
    let now := s.tick
    let s := { s with
      tick := 0
      supplies := { s.supplies with
        inReset := false, resetDue := none
        logicLow := s.supplies.logicLow.map (· - now), logicOk := s.supplies.logicOk.map (· - now)
        fuseOpen := s.supplies.fuseOpen.map fun (p : Nat × Nat) => (p.1, p.2 - 1 - now + 1) }
      boot := { s.boot with step := 2, stepAt := 0, startAt := 0, ready := false } }
    let s := (s.setReg K.resetCause rc).setReg K.resetFaultCode (if rc = 4 then code else 0)
    if s.mfg.arrayOk = false then
      { (s.setReg K.bootState 2).setReg K.bootFailStep 2 with boot := { s.boot with halted := true } }
    else
      let s := s.loadBlobs.chooseClock.noteTraining 270
      let s : State := { s with memory := { s.memory with newGrid := true } }
      let s := (fails.filter fun f => f.kind == 0).foldl (fun s f => s.selfFail f) s
      let s := s.bootArrays
      let s := (fails.filter fun f => f.kind != 0).foldl (fun s f => s.selfFail f) s
      let s := s.setReg K.selfTestFailures (min 65535 s.boot.failures)
      let s := s.setReg K.bootCount (min 65535 (s.reg K.bootCount + 1))
      let s := { s with boot := { s.boot with step := 8 } }
      if cause = 3 then
        let s := s.setReg K.lastWakeCause wake
        s.emit (s.recAt RType.powerState Unit.power
          (256 * PowerSt.standby.code + 65536 * (if wake = 0xFE then 1 else 3) + 2 ^ 24 * wake +
            2 ^ 32 * min (2 ^ 32 - 1) (waited * 4 / 1000)))
      else s

/-- START_UP (R457). -/
def execStartUp (cause : Nat) (fails : List TestFail) (s : State) : Host.Outcome State Fault Refusal :=
  .next (s.startUp cause fails)

/-- Readiness (R466). -/
def State.readiness (s : State) : State :=
  if s.supplies.inReset = true ∨ s.boot.halted = true ∨ s.boot.ready = true ∨ s.boot.step ≠ 8 then s
  else
    let ms := (s.tick - s.boot.startAt) * 4 / 1000000
    let s := (s.setReg K.bootState 1).setReg K.lastStartUpTime (min (2 ^ 32 - 1) ms)
    let s := { s with boot := { s.boot with step := 9, ready := true }, ctl := { s.ctl with serving := true } }
    let s := s.setAlive true true
    let count := fun (n : Nat) => (s.boot.slots.filter fun p => p.2.st == n).length
    let (late, s) := s.takeFree
    let r : Rec := { typ := RType.boot, src := Unit.boot, pos := s.pos, time := s.t64At (s.localTime + late % 5001)
                     payload := s.reg K.resetCause + 256 * count 1 + 65536 * s.reg K.bootCount +
                       2 ^ 32 * min 65535 ms + 2 ^ 48 * min 255 s.boot.failures + 2 ^ 56 * count 2 }
    let s := { s with host := { s.host with bootRec := some r } }
    let s := s.releaseBoot
    if s.faults.lateFull then
      ({ s with faults := { s.faults with lateFull := false } } : State).emit (s.logFullRec 2)
    else s

/-- READINESS (R466). -/
def execReadiness (s : State) : Host.Outcome State Fault Refusal := .next s.readiness

/-! ### Attestation (R467, R468) -/

/-- Whether the derived device key is the one of the certificate (R467). -/
def State.deviceKeyOk (s : State) : Bool :=
  bytesAt (s.blob K.attestationCertificate) 0x20 16 == fitBytes 16 s.mfg.deviceKeyId

/-- AttestRequest (R468). -/
def State.attestCmd (s : State) : Nat × State :=
  if s.boot.ready = false then (Status.notReady, s)
  else if s.deviceKeyOk = false then (Status.keyUnknown, s)
  else
    let (st, s) := s.cmdBegin K.attestRequest
    (st, { s with boot := { s.boot with attest := some (s.blob K.attestNonce, s.pos, s.t64, s.tick) } })

/-- ATTEST_REQUEST (R468). -/
def execAttestRequest (sess : Nat) (s : State) : Host.Outcome State Fault Refusal :=
  .next (s.runCmd sess K.attestRequest fun s => s.attestCmd)

/-- The trailer of a report (R217, R468), signed by the device key. -/
def State.reportTrailer (s : State) (body : List Byte) : List Byte :=
  let d := Sha3.sha512 body
  leBytes 4 0x4E474953 ++ leBytes 4 0 ++ fitBytes 16 s.mfg.deviceKeyId ++ d ++ (List.range 4627).map (Config.mldsaSign s.mfg.deviceSeed d) ++
    leBytes 5 0

/-- The report before its trailer (R468). -/
def State.reportBody (s : State) (nonce : List Byte) (pos time : Nat) : List Byte :=
  let blobs := s.boot.slots.filter fun p => p.2.loaded != []
  let plans := (List.range 16).map fun c => match (s.ctx c).plan with
    | some p => fitBytes 64 (s.blob (K.planSlotDigest p.slot))
    | none => List.replicate 64 0
  leBytes 4 0x54535441 ++ leBytes 2 1 ++ leBytes 2 0 ++ leBytes 4 (5840 + 88 * blobs.length) ++
    leBytes 4 (s.reg K.reportCounter) ++ fitBytes 32 nonce ++ fitBytes 12 (s.blob K.serialNumber) ++
    leBytes 4 (s.reg K.detKey) ++ leBytes 2 (s.reg K.romRevision) ++ leBytes 1 (s.reg K.assemblyCode) ++
    leBytes 1 blobs.length ++ leBytes 2 (s.reg K.bootCount) ++ leBytes 2 0 ++ leBytes 4 (s.reg K.configGeneration) ++
    leBytes 4 0 ++ leBytes 8 pos ++ leBytes 8 time ++ plans.flatten ++ (blobs.map fun p => blobInfo p.1 p.2.loaded).flatten

/-- The report is ready (R468). -/
def State.attestReady (s : State) : State :=
  match s.boot.attest with
  | none => s
  | some (nonce, pos, time, _) =>
    let s := { s.bump K.reportCounter with boot := { s.boot with attest := none } }
    let b := s.reportBody nonce pos time
    (s.setBlob K.attestReport (b ++ s.reportTrailer b)).cmdSet K.attestRequest Status.ok

/-- ATTEST_REPORT_READY (R468). -/
def execAttestReportReady (s : State) : Host.Outcome State Fault Refusal := .next s.attestReady

end Sys2Proof.Machine
end

