-- ==== Sys2Proof/Machine/Counters.lean ====
section
/-! DEFINITION. The commands of the counter banks, the bandwidth windows and the sample log, and StatisticsClear (R446 to
R450, R452, R477). -/

namespace Sys2Proof.Machine

/-- A command issued at one tick is on its way to the units until it ends (R446, R477). -/
def State.sendAction (s : State) (k : Nat) : Nat × State :=
  let (st, s) := s.cmdBegin k
  (st, { s with perf := { s.perf with action := s.perf.action ++ [(k, s.tick)] } })

/-- Actions that every unit has applied, 50 ns after they were issued, end (R446, R477). -/
def State.endActions (s : State) : State :=
  let done := s.perf.action.filter fun p => decide (p.2 + 13 ≤ s.tick)
  if done = [] then s
  else
    let s := { s with perf := { s.perf with action := s.perf.action.filter (fun p => decide (s.tick < p.2 + 13)) } }
    done.foldl (fun s p => s.cmdSet p.1 Status.ok) s

/-! ### CounterControl (R446, R448) -/

/-- START and STOP (R446). -/
def State.setRunning (s : State) (on : Bool) : State :=
  { s.setReg K.countersRunning (bitNat on) with perf := { s.perf with running := on } }

/-- Every counter takes its preset and clears its overflow count (R446). -/
def State.clearCounters (s : State) : State :=
  (List.range 32).foldl (fun s n =>
    s.setCounter (n / 8) (n % 8) { s.counter (n / 8) (n % 8) with value := s.reg (K.counterPreset n), overCount := 0 }) s

/-- Banks that the assembly carries (R440). -/
def State.banks (s : State) : List Nat := if s.mfg.part.ioDies = 2 then [0, 1, 2, 3] else [0, 1, 2]

/-- CycleCount of a bank at a latch (R441): banks 2 and 3 count two cycles per TCLK tick since start-up; what banks 0 and
1 have counted since the latest refresh is a free value (log entry 1). -/
def State.cyclesNow (s : State) (b : Nat) : Nat × State :=
  if 2 ≤ b then (2 * s.tick % 2 ^ 64, s)
  else
    let (f, s) := s.takeFree
    ((s.reg (K.cycleCount b) + f) % 2 ^ 64, s)

/-- A counter as a snapshot latches it: before a commit of the same tick (R446). -/
def State.latched (s : State) (b i : Nat) : Counter :=
  match s.perf.before with
  | some (t, m) => if t = s.tick then SMap.get {} m (8 * b + i) else s.counter b i
  | none => s.counter b i

/-- One bank's part of a snapshot (R448). -/
def State.bankPart (s : State) (b : Nat) : List Byte × State :=
  let (n, s) := s.cyclesNow b
  (leBytes 8 n ++ ((List.range 8).map fun i => leBytes 8 (s.latched b i).value).flatten ++
    ((List.range 8).map fun i => leBytes 4 (s.latched b i).overCount).flatten, s)

/-- SNAPSHOT (R448). -/
def State.snapshot (s : State) : State :=
  let s := s.bump K.snapshotCount
  let head := leBytes 4 (s.reg K.snapshotCount) ++ leBytes 1 ((s.banks.map fun b => 2 ^ b).sum) ++ leBytes 3 0 ++
    leBytes 8 s.pos ++ leBytes 8 s.t64 ++ leBytes 4 (s.reg K.recoveries) ++ leBytes 4 0
  let (parts, s) := s.banks.foldl (fun (a : List Byte × State) b =>
    let (p, s) := a.2.bankPart b
    (a.1 ++ p, s)) ([], s)
  s.setBlob K.snapshot (head ++ parts)

/-- COUNTER_START (R446). -/
def execCounterStart (sess : Nat) (s : State) : Host.Outcome State Fault Refusal :=
  .next (s.runCmd sess K.counterControl fun s => (s.setRunning true).sendAction K.counterControl)

/-- COUNTER_STOP (R446). -/
def execCounterStop (sess : Nat) (s : State) : Host.Outcome State Fault Refusal :=
  .next (s.runCmd sess K.counterControl fun s => (s.setRunning false).sendAction K.counterControl)

/-- COUNTER_CLEAR (R446). -/
def execCounterClear (sess : Nat) (s : State) : Host.Outcome State Fault Refusal :=
  .next (s.runCmd sess K.counterControl fun s => s.clearCounters.sendAction K.counterControl)

/-- COUNTER_SNAPSHOT (R448). -/
def execCounterSnapshot (sess : Nat) (s : State) : Host.Outcome State Fault Refusal :=
  .next (s.runCmd sess K.counterControl fun s => s.snapshot.sendAction K.counterControl)

/-- The shadow copies are refreshed (R448): `cyc0` and `cyc1` are the cycle counters of banks 0 and 1 as they stand. -/
def State.refreshShadow (s : State) (cyc0 cyc1 : Nat) : State :=
  let s := s.banks.foldl (fun s b =>
    let n := if b = 0 then cyc0 else if b = 1 then cyc1 else 2 * s.tick
    s.setReg (K.cycleCount b) (n % 2 ^ 64)) s
  s.banks.foldl (fun s b => (List.range 8).foldl (fun s i =>
    let c := s.counter b i
    (s.setReg (K.counterValue (8 * b + i)) c.value).setReg (K.counterOverflows (8 * b + i)) c.overCount) s) s

/-- SHADOW_REFRESH (R448). -/
def execShadowRefresh (cyc0 cyc1 : Nat) (s : State) : Host.Outcome State Fault Refusal := .next (s.refreshShadow cyc0 cyc1)

/-! ### Bandwidth windows (R450) -/

/-- Port codes (R450). -/
def portCodes : List Nat := List.range 0x82

/-- A bandwidth window ends (R450): windows are aligned to multiples of their length in LocalTime. -/
def State.windowEnd (s : State) : State :=
  if s.tick % (2 ^ s.reg K.bandwidthWindow * 250) ≠ 0 then s
  else
    let s := portCodes.foldl (fun s p =>
      let i := SMap.get 0 s.perf.bytesIn p
      let o := SMap.get 0 s.perf.bytesOut p
      (((s.setReg (K.portBytesIn p) i).setReg (K.portBytesOut p) o).peak (K.portPeakIn p) i).peak (K.portPeakOut p) o) s
    { s with perf := { s.perf with bytesIn := [], bytesOut := [] } }

/-- BANDWIDTH_WINDOW_END (R450). -/
def execBandwidthWindowEnd (s : State) : Host.Outcome State Fault Refusal := .next s.windowEnd

/-- The peaks are cleared (R450). -/
def State.clearPeaks (s : State) : State :=
  portCodes.foldl (fun s p => (s.setReg (K.portPeakIn p) 0).setReg (K.portPeakOut p) 0) s

/-- BANDWIDTH_CLEAR (R450). -/
def execBandwidthClear (sess : Nat) (s : State) : Host.Outcome State Fault Refusal :=
  .next (s.runCmd sess K.bandwidthClear fun s => s.clearPeaks.cmdOk K.bandwidthClear)

/-! ### The sample log (R452, R474) -/

/-- SAMPLE_LOG_CLEAR (R452). -/
def execSampleLogClear (sess : Nat) (s : State) : Host.Outcome State Fault Refusal :=
  .next (s.runCmd sess K.sampleLogClear fun s =>
    (({ s with perf := { s.perf with log := [] } } : State).logEmptied 4).cmdOk K.sampleLogClear)

/-! ### StatisticsClear (R477) -/

/-- Values that StatisticsClear takes (R477). -/
def clearRangeOk (v : Nat) : Bool := v == 0xFFFF || (v % 256 == 0 && decide (0x0200 ≤ v) && decide (v ≤ 0x1700))

/-- Zeroes every subindex of a row of the dictionary. -/
def State.zeroEntry (s : State) (e : Entry) : State :=
  (List.range (e.hi + 1 - e.lo)).foldl (fun s i => s.setReg (e.idx * 256 + e.lo + i) 0) s

/-- Zeroes the counts, peaks and maxima of the named ranges (R477). -/
def State.clearStats (s : State) (v : Nat) : State :=
  ((if v = 0xFFFF then allEntries else entriesOf (v / 256)).filter fun e => e.clr == .stat || e.clr == .statCommit).foldl
    (fun s e => s.zeroEntry e) s

/-- StatisticsClear (R477). -/
def State.statisticsCmd (s : State) (v : Nat) : Nat × State :=
  if clearRangeOk v = false then (Status.valueRange, s)
  else
    let s := (s.clearStats v).bump K.clearGeneration
    (((s.setReg K.lastClearRange v).setReg K.lastClearPosition s.pos).setReg K.lastClearTime s.t64).sendAction
      K.statisticsClear

/-- STATISTICS_CLEAR (R477). -/
def execStatisticsClear (sess val : Nat) (s : State) : Host.Outcome State Fault Refusal :=
  .next (s.runCmd sess K.statisticsClear fun s => s.statisticsCmd val)

end Sys2Proof.Machine
end

