-- ==== Sys2Proof/Machine/Pipeline.lean ====
section
/-! DEFINITION. The commands of the image pipelines (R101 to R116). -/

namespace Sys2Proof.Machine

/-- Takes every line that stripe `st` of stream `i` needs through stages 1 to 7 (R101, R110): the lines of the stripe,
then its lookahead, which leaves nothing behind. -/
def State.passLines (s : State) (st : Stripe) (i S : Nat) (corrupt : List Nat) : LinePass :=
  let x := s.pctx i
  let x : PipeCtx := if st.start then { x with prev := none, last := none, window := [], first := none } else x
  let a : LinePass := { ctx := x, rows := x.window }
  let own := (List.range S).foldl (fun a l => s.passLine st i corrupt true a (st.num * S + l)) a
  let look := (List.range (st.look i)).foldl (fun a l => s.passLine st i corrupt false a ((st.num + 1) * S + l)) own
  { look with ctx := { own.ctx with window := own.ctx.window.filter fun p => decide ((st.num + 1) * S ≤ p.1 + 16) } }

/-- Whether the buffer of a stripe is held by another stripe (R219, R230). -/
def State.bufferHeld (s : State) (p : Plan) (j : Nat) : Bool :=
  let (die, base) := p.buffer j
  s.engine.heldBufs.any fun b => b.1 == actKey die base && b.2 != j

/-- A stripe is dropped whole (R230). -/
def State.overrun (s : State) (st : Stripe) (n : Nat) : State :=
  let s := s.setStripe { st with dropped := true }
  let s := { s with engine := { s.engine with masked := s.engine.masked ++ [st.num] } }
  (s.bump K.stripeOverruns).emit
    (s.recPos RType.stripeOverrun Unit.plan (s.lineStamp (st.num * s.heightOf st.num))
      (stripeNum st.num + 2 ^ 48 * (stripeNum st.num % n)))

/-- One tile of one stripe (R101, R104 to R115). -/
def State.runTile (s : State) (st : Stripe) (i pipe : Nat) (corrupt : List Nat) : State :=
  match s.planOf st.num with
  | none => s
  | some plan =>
    let S := plan.stripeLines
    let n := plan.buffers.length
    let s := if st.dropped = false ∧ st.written = [] ∧ s.bufferHeld plan st.num = true then s.overrun st n else s
    let st := (SMap.find? s.pipe.stripes st.num).getD st
    let a := s.passLines st i S corrupt
    let lo := fun l => SMap.get 0 a.first l
    let lines := (List.range S).map fun l => s.meshLine st i a.rows (lo (st.num * S + l)) (st.num * S + l)
    let (die, base) := plan.buffer st.num
    let s := if st.dropped then s
      else
        let act := (List.range S).foldl (fun act l => s.foldLine st i S die base (st.num * S + l) (lines.getD l []) act) s.engine.act
        let act := s.padFold st i S die base act
        { s with engine := { s.engine with
            act, heldBufs := (s.engine.heldBufs.filter fun b => b != (actKey die base, st.num)) ++ [(actKey die base, st.num)] } }
    let s := s.keepHistory st i S lines
    let s := ((s.setPctx i a.ctx).bump (K.linesSubstituted i) a.subs.length).bump (K.linesCorrupt i) a.corrupt
    let own := fun n => decide (st.num * S ≤ n) && decide (n < (st.num + 1) * S)
    let switched := (a.ctx.switches.any fun p => own p.1) || (a.ctx.switch.any fun p => own p.1)
    let cycles := S * s.genReg st (K.streamWidth i) * planesOf (s.genReg st (K.streamPixelFormat i)) / 4 + 1024
    let until' := s.tick + ceilDiv cycles 2
    -- samples of bank 0 cross to IO1 and back for noise reduction (R104)
    let cross := if pipe < 4 ∧ s.mfg.part.level = 2 ∧ s.genReg st (K.noiseReductionEnable i) ≠ 0 then
        ceilDiv (2 * s.reg K.dieTransportNs) 4
      else 0
    let rel := (a.subs.map fun n => n - st.num * S).filter fun l => !st.lines.contains l
    let s := s.setStripe { st with
      written := st.written ++ [i]
      lines := st.lines ++ rel
      streams := if a.subs = [] then st.streams else st.streams ++ [i]
      flags := st.flags ||| (2 * bitNat switched) ||| (4 * bitNat a.restart)
      doneAt := max st.doneAt (until' + cross) }
    let s := { s with pipe := { s.pipe with busy := SMap.set 0 s.pipe.busy pipe until' } }
    let bank := 2 + pipe / 4
    let s := s.count bank 0x0701 (S * s.genReg st (K.streamWidth i) * planesOf (s.genReg st (K.streamPixelFormat i)))
    let s := (s.count bank 0x0702 1024).count bank 0x0703 a.subs.length
    let tile := S * s.genReg st (K.tileColumns i) * planesOf (s.genReg st (K.streamPixelFormat i))
    let s := if st.dropped then s else (s.portBytes true (0x60 + die) tile).countStore die 0 6 base tile
    s.pruneLines i

/-- A free pipeline takes the lowest closed stripe, then the lowest stream (R101). -/
def State.pipelineStart (s : State) (pipe : Nat) (corrupt : List Nat) : State :=
  if s.tick < SMap.get 0 s.pipe.busy pipe ∨ s.power.st ≠ .run then s
  else
    let work := s.pipe.stripes.filterMap fun p =>
      (((List.range 16).filter fun i => p.2.closed.contains i && !p.2.written.contains i &&
        s.genReg p.2 (K.streamPipeline i) == pipe).head?).map fun i => (p.2, i)
    match work with
    | [] => s
    | (st, i) :: _ => s.runTile st i pipe corrupt

/-- PIPELINE_STRIPE_START (R101). -/
def execPipelineStripeStart (pipe : Nat) (corrupt : List Nat) (s : State) : Host.Outcome State Fault Refusal :=
  guardUnit (decide (pipe < 4 * s.mfg.part.ioDies)) pipe (s.pipelineStart pipe corrupt)

/-- Every tile of a stripe is written: its descriptor is, and it crosses to the compute die (R115, R116), where it lands
in CCLK cycle `cyc`. -/
def State.stripeReady (s : State) (j cyc : Nat) : State :=
  match SMap.find? s.pipe.stripes j with
  | none => s
  | some st =>
    if st.ready = false ∧ (st.need ≠ [] ∨ st.complete = true) ∧ (st.need.all fun i => st.written.contains i) = true ∧ st.doneAt ≤ s.tick then
      let s := s.setStripe { st with ready := true, readyCyc := cyc }
      match s.planOf j with
      | none => s
      | some plan =>
        let (die, base) := plan.buffer j
        let s := if st.dropped then s
          else { s with engine := { s.engine with
                   act := SMap.setList 0 s.engine.act (actKey die (base - 64)) (s.descriptor st) } }
        let s := if st.dropped then s else (s.portBytes true (0x60 + die) 64).countStore die 0 6 (base - 64) 64
        let x := s.ctx 0
        let s := if x.st = .idle ∧ plan.periodLast j = true then s.setCtx 0 { x with st := .ready } else s
        if plan.periodLast j then s.trackReady.autoWake else s
    else s

/-- STRIPE_READY (R116). -/
def execStripeReady (stripe cyc : Nat) (s : State) : Host.Outcome State Fault Refusal := .next (s.stripeReady stripe cyc)

/-- ParamSetSwitch (R108). -/
def State.paramSwitchCmd (s : State) (i : Nat) : Nat × State :=
  if 16 ≤ i then (Status.valueRange, s)
  else (s.scheduleSwitch i (s.nextLine i + s.reg (K.cameraSettingDelay i))).cmdOk K.paramSetSwitch

/-- PARAM_SET_SWITCH (R108). -/
def execParamSetSwitch (sess stream : Nat) (s : State) : Host.Outcome State Fault Refusal :=
  .next (s.runCmd sess K.paramSetSwitch fun s => s.paramSwitchCmd stream)

/-- The other set takes force at its switching line, once that line is reached (R108). -/
def State.paramTakesForce (s : State) (i : Nat) : State :=
  let x := s.pctx i
  match x.switch with
  | [] => s
  | (l, v) :: rest =>
    if l < s.nextLine i then
      let s := (s.setPctx i { x with active := v, switch := rest, switches := ((l, v) :: x.switches).take 64 }).bump
        (K.paramSwitches i)
      s.emit (s.recPos RType.paramSwitch Unit.pipeline (s.lineStamp l) (l % 2 ^ 48 + 2 ^ 48 * v) 0xFF i)
    else s

/-- PARAM_SET_TAKES_FORCE (R108). -/
def execParamSetTakesForce (stream : Nat) (s : State) : Host.Outcome State Fault Refusal :=
  guardUnit (decide (stream < 16)) stream (s.paramTakesForce stream)

end Sys2Proof.Machine
end

