-- ==== Sys2Proof/Machine/Eject.lean ====
section
/-! DEFINITION. The commands of the ejection unit (R267 to R277, R416). -/

namespace Sys2Proof.Machine

/-- A decision record is taken up, in the order written (R267). -/
def State.takeUpNext (s : State) : State :=
  match s.tracks.crossing with
  | [] => s
  | r :: rest =>
    ({ s with tracks := { s.tracks with crossing := rest } } : State).takeUpDecision
      { pos := r.pos, flags := r.flags, payload := r.payload, time := r.time }

/-- DECISION_RECORD_TAKE_UP (R267). -/
def execDecisionRecordTakeUp (s : State) : Host.Outcome State Fault Refusal := .next s.takeUpNext

/-- A FallbackOrigin message arrives (R416). -/
def State.takeOrigin (s : State) : State :=
  match s.tracks.originMsg with
  | [] => s
  | p :: rest => ({ s with tracks := { s.tracks with originMsg := rest } } : State).setReg K.fallbackOrigin p

/-- FALLBACK_ORIGIN_RECEIVE (R416). -/
def execFallbackOriginReceive (s : State) : Host.Outcome State Fault Refusal := .next s.takeOrigin

/-- A deferred close is commanded (R268, third row). -/
def State.minOnClose (s : State) (ch : Nat) : State :=
  match s.pulses ch with
  | [] => s
  | p :: rest =>
    match p.deferred with
    | none => s
    | some t =>
      if t ≤ s.tick then
        let (_, s) := s.driveEdge ch false p true
        (s.setPulses ch rest).tallyPulses
      else s

/-- MIN_ON_TIME_CLOSE (R268). -/
def execMinOnTimeClose (chan : Nat) (s : State) : Host.Outcome State Fault Refusal :=
  guardUnit (decide (chan < 1152)) chan (s.minOnClose chan)

/-- A channel has been on for MaxOnTime (R268, fourth row): it switches off, and waits to switch on again while the
pulse's close compare is ahead. -/
def State.maxOnExpiry (s : State) (ch : Nat) : State :=
  match s.pulses ch with
  | [] => s
  | p :: rest =>
    if p.on = true ∧ s.maxOnTick ch p.onTick ≤ s.tick then
      let (_, s) := s.driveEdge ch false p true
      if (s.belt.ibp : Int) < s.closeCmp ch p then
        let back := s.tick + (s.latOff ch + s.reg (K.valveMinOffTime (s.chanType ch)) - s.latOn ch + 3) / 4
        s.setPulses ch ({ p with on := false, deferred := none, split := some back } :: rest)
      else (s.setPulses ch rest).tallyPulses
    else s

/-- MAX_ON_TIME_EXPIRY (R268). -/
def execMaxOnTimeExpiry (chan : Nat) (s : State) : Host.Outcome State Fault Refusal :=
  guardUnit (decide (chan < 1152)) chan (s.maxOnExpiry chan)

/-- A split pulse switches on again MinOffTime later, or ends there (R268, fourth row). -/
def State.splitReopen (s : State) (ch : Nat) : State :=
  match s.pulses ch with
  | [] => s
  | p :: rest =>
    match p.split with
    | none => s
    | some t =>
      if s.tick < t then s
      else if (s.belt.ibp : Int) < s.closeCmp ch p then
        let (ok, s) := s.driveEdge ch true p true
        (s.setPulses ch ({ p with on := true, onTick := s.tick, split := none, driven := ok } :: rest)).bump K.pulsesSplit
      else (s.setPulses ch rest).tallyPulses

/-- SPLIT_REOPEN (R268). -/
def execSplitReopen (chan : Nat) (s : State) : Host.Outcome State Fault Refusal :=
  guardUnit (decide (chan < 1152)) chan (s.splitReopen chan)

/-- The open edge of a test pulse (R272, R274, R276). -/
def State.beginTest (s : State) (ch ms : Nat) : State :=
  let s : State := { s with eject := { s.eject with test := some { channel := ch, start := s.tick, length := ms * 250000 } } }
  let s := s.markOn ch true
  if s.canDrive ch = false then (s.setRef ch true none).bump K.outputNotDriven
  else
    let s := s.setRef ch true (some { channel := ch, level := true, base := 0, ref := some (s.localTime + s.latOn ch) })
    let s := if ch < 128 then s.cmdOut ch true
      else
        let (tag, s) := s.vlAddTag (chanPort ch) 1 (s.tick : Int) 0 true [chanValve ch]
        s.vlStrobe (chanPort ch) 3 tag
    s.count 2 0x0A01 1

/-- ValveTestPulse (R276). -/
def State.testPulseCmd (s : State) (v : Nat) : Nat × State :=
  let ch := bits v 15 0
  let ms := bits v 31 16
  if 1151 < ch ∨ ms = 0 ∨ 1000 < ms then (Status.valueRange, s)
  else if s.belt.st ≠ .stopped ∧ s.belt.st ≠ .noSource then (Status.beltMoving, s)
  else if s.chanEnabled ch = false then (Status.valueRange, s)
  else (s.beginTest ch ms).cmdBegin K.valveTestPulse

/-- VALVE_TEST_PULSE (R276). -/
def execValveTestPulse (sess val : Nat) (s : State) : Host.Outcome State Fault Refusal :=
  .next (s.runCmd sess K.valveTestPulse fun s => s.testPulseCmd val)

/-- A test pulse has its written length, or MaxOnTime, behind it (R276). -/
def State.testPulseEnd (s : State) : State :=
  match s.eject.test with
  | none => s
  | some t =>
    if t.start + t.length ≤ s.tick ∨ s.maxOnTick t.channel t.start ≤ s.tick then s.endTest Status.ok else s

/-- TEST_PULSE_END (R276). -/
def execTestPulseEnd (s : State) : Host.Outcome State Fault Refusal := .next s.testPulseEnd

/-- FireErrorClear resets the four entries of R272. -/
def State.fireErrorClearCmd (s : State) : Nat × State :=
  ((((s.setReg K.fireEdgesMeasured 0).setReg K.fireEdgesOutside 0).setReg K.fireErrorMin 0).setReg K.fireErrorMax 0).cmdOk
    K.fireErrorClear

/-- FIRE_ERROR_CLEAR (R272). -/
def execFireErrorClear (sess : Nat) (s : State) : Host.Outcome State Fault Refusal :=
  .next (s.runCmd sess K.fireErrorClear fun s => s.fireErrorClearCmd)

end Sys2Proof.Machine
end

