-- ==== Sys2Proof/Machine/Field.lean ====
section
/-! DEFINITION. The commands of the field inputs, the sensor supply, the direct outputs, the alive output and the
auxiliary encoders (R279 to R287, R301 to R305). -/

namespace Sys2Proof.Machine

/-! ### Field inputs (R280 to R282) -/

/-- One field input. -/
def State.input (s : State) (n : Nat) : Input := SMap.get {} s.field.inputs n

/-- Sets one field input. -/
def State.setInput (s : State) (n : Nat) (x : Input) : State :=
  { s with field := { s.field with inputs := SMap.set {} s.field.inputs n x } }

/-- The four fast counts. -/
def State.fastCounts (s : State) : List Nat := (List.range 4).map fun c => s.reg (K.fastCounterValue c)

/-- An edge of an input stamped at a tick (R281, R282): the level, the count, the latches of fast counters and, where
InputEdgeEvents enables its direction, the record. -/
def State.inputEdge (s : State) (n : Nat) (level : Bool) (tick ibp : Nat) (fc : List Nat) : State :=
  let s := (s.setInput n { s.input n with level, cand := none }).setReg K.inputLevels (putBit (s.reg K.inputLevels) n level)
  let s := s.bump (K.inputEdgeCount n)
  let s := if level && bitOf (s.reg K.wakeInputMask) n then s.wake 2 [.doze] else s
  let s := if level then (List.range 4).foldl (fun s c =>
      if s.reg (K.fastCounterLatchInput c) = n then
        (s.setReg (K.fastCounterLatched c) (fc.getD c 0)).setReg (K.fastCounterLatchPosition c) (ibp / 65536)
      else s) s
    else s
  let mode := s.reg (K.inputMode n)
  if mode ≠ 0 ∧ bitOf (s.reg (K.inputEdgeEvents n)) (if level then 0 else 1) = true then
    let near : Bool := match (s.input n).lastRec with
      | some t => decide (tick < t + 5000)
      | none => false
    if near then s.bump (K.inputRecordsSuppressed n)
    else
      (s.setInput n { s.input n with lastRec := some tick }).emit
        (s.recPos RType.inputEdge Unit.field (ibp / 65536) (s.t64At (4 * tick)) 0xFF
          (n + 32 * bitNat level + 64 * bitNat (mode == 2)))
  else s

/-- The terminal of an input changes level (R280, R281): an IDLE input reads it at once, a FILTERED one starts or drops
the run that its filter confirms, a PULSED one waits for its window. While the IO dies are off none reads it (R430). -/
def State.rawEdge (s : State) (n : Nat) (level : Bool) : State :=
  let x := s.input n
  if x.raw = level then s
  else
    let s := s.setInput n { x with raw := level, rawSince := s.tick }
    if s.timeRuns = false then s
    else match s.reg (K.inputMode n) with
    | 0 => if x.level = level then s else s.inputEdge n level s.tick s.belt.ibp s.fastCounts
    | 1 =>
      if x.level = level then s.setInput n { s.input n with cand := none }
      else s.setInput n { s.input n with cand := some s.tick, candIbp := s.belt.ibp, candFc := s.fastCounts }
    | _ => s

/-- INPUT_RAW_EDGE (R281). -/
def execInputRawEdge (input : Nat) (level : Bool) (s : State) : Host.Outcome State Fault Refusal :=
  guardUnit (decide (input < 32)) input (s.rawEdge input level)

/-- The raw input has held its new level for InputFilter ns (R280); a filter of 0 confirms it at the next tick. -/
def State.filterExpiry (s : State) (n : Nat) : State :=
  let x := s.input n
  match x.cand with
  | some t =>
    if s.reg (K.inputMode n) = 1 ∧ t < s.tick ∧ s.reg (K.inputFilter n) ≤ 4 * (s.tick - t) then
      s.inputEdge n x.raw t x.candIbp x.candFc
    else s
  | none => s

/-- INPUT_FILTER_EXPIRY (R280). -/
def execInputFilterExpiry (input : Nat) (s : State) : Host.Outcome State Fault Refusal :=
  guardUnit (decide (input < 32)) input (s.filterExpiry input)

/-- Whether a 4 µs window of a PULSED input has ended and was not read (R280): windows open at every multiple of
PulsePeriod from power-up. -/
def State.windowDue (s : State) (n : Nat) : Bool :=
  let p := s.reg K.pulsePeriod
  decide (4000 ≤ 4 * s.tick) && match (s.input n).read with
    | some t => decide (4 * t < (4 * s.tick - 4000) / p * p + 4000)
    | none => true

/-- The reading of an input of WakeInputMask in RETAIN and STANDBY: a rising edge wakes the device (R430). -/
def State.wakeWindow (s : State) (n : Nat) (level : Bool) : State :=
  if bitOf (s.reg K.wakeInputMask) n then
    let x := s.input n
    let s := s.setInput n { x with level }
    if level && !x.level then s.wake 2 [.retain, .standby] else s
  else s

/-- A PULSED input's window ends with a reading (R280, R281), and so does the wake block's (R430). -/
def State.pulseWindow (s : State) (n : Nat) (level : Bool) : State :=
  if s.power.st = .retain ∨ s.power.st = .standby then s.wakeWindow n level
  else if s.reg (K.inputMode n) = 2 ∧ s.windowDue n = true then
    let s := s.setInput n { s.input n with read := some s.tick }
    if (s.input n).level = level then s else s.inputEdge n level s.tick s.belt.ibp s.fastCounts
  else s

/-- PULSE_WINDOW_END (R280). -/
def execPulseWindowEnd (input : Nat) (level : Bool) (s : State) : Host.Outcome State Fault Refusal :=
  guardUnit (decide (input < 32)) input (s.pulseWindow input level)

/-! ### The sensor supply (R283) -/

/-- SENS_24V above 1.0 A for more than 10 ms. -/
def State.sensorTrip (s : State) (ma : Nat) : State :=
  if 1000 < ma ∧ s.reg K.sensorSupplyState = 0 then
    ((s.setReg K.sensorSupplyState 1).bump K.sensorSupplyTrips).report FCode.sensorSupply Unit.field
      (65536 * min (2 ^ 32 - 1) ma)
  else s

/-- SENSOR_SUPPLY_TRIP (R283). -/
def execSensorSupplyTrip (ma : Nat) (s : State) : Host.Outcome State Fault Refusal := .next (s.sensorTrip ma)

/-- SENSOR_SUPPLY_RESET (R283). -/
def execSensorSupplyReset (sess : Nat) (s : State) : Host.Outcome State Fault Refusal :=
  .next (s.runCmd sess K.sensorSupplyReset fun s => (s.setReg K.sensorSupplyState 0).cmdOk K.sensorSupplyReset)

/-! ### Direct outputs (R285, R286) -/

/-- The readback stage stamps an edge (R285, R272); OPEN_LOAD clears when readback reads OFF. -/
def State.readbackEdge (s : State) (o : Nat) (level : Bool) : State :=
  let x := s.dirOut o
  if x.readback = level then s
  else
    (s.setOut o { x with readback := level, rbSince := s.tick, openLoad := x.openLoad && level }).stampEdge o level
      s.localTime

/-- READBACK_EDGE (R285). -/
def execReadbackEdge (out : Nat) (level : Bool) (s : State) : Host.Outcome State Fault Refusal :=
  guardUnit (decide (out < 128)) out (s.readbackEdge out level)

/-- A condition of R286 arises: OutputFaults and the record. -/
def State.outFault (s : State) (o code : Nat) : State := (s.bump (K.outputFaults o)).report code Unit.field o

/-- An output switches off and stays off until OutputFaultClear names it (R286). -/
def State.overload (s : State) (o : Nat) : State :=
  (s.setOut o { s.dirOut o with overload := true, driven := false }).outFault o FCode.outputOverload

/-- The readback check 10 µs after a command to on, made once (R286). -/
def State.readbackCheck (s : State) (o : Nat) : State :=
  let x := s.dirOut o
  if x.cmd = true ∧ x.checked = false ∧ x.cmdTick + 2500 ≤ s.tick then
    let s := s.setOut o { x with checked := true }
    if x.driven = true ∧ x.readback = false then s.overload o else s
  else s

/-- OUTPUT_READBACK_CHECK (R286). -/
def execOutputReadbackCheck (out : Nat) (s : State) : Host.Outcome State Fault Refusal :=
  guardUnit (decide (out < 128)) out (s.readbackCheck out)

/-- The current limit has been active for 2 ms without a break (R286). -/
def State.currentLimit (s : State) (o : Nat) : State := if (s.dirOut o).driven then s.overload o else s

/-- CURRENT_LIMIT_EXPIRY (R286). -/
def execCurrentLimitExpiry (out : Nat) (s : State) : Host.Outcome State Fault Refusal :=
  guardUnit (decide (out < 128)) out (s.currentLimit out)

/-- Commanded off, and readback ON 100 µs or more after the command (R286). -/
def State.externalDetect (s : State) (o : Nat) : State :=
  let x := s.dirOut o
  if x.cmd = false ∧ x.readback = true ∧ x.external = false ∧ x.cmdTick + 25000 ≤ s.tick then
    (s.setOut o { x with external := true }).outFault o FCode.outputExternalVoltage
  else s

/-- EXTERNAL_VOLTAGE_DETECT (R286). -/
def execExternalVoltageDetect (out : Nat) (s : State) : Host.Outcome State Fault Refusal :=
  guardUnit (decide (out < 128)) out (s.externalDetect out)

/-- Readback has read OFF for 100 ms (R286). -/
def State.externalClear (s : State) (o : Nat) : State :=
  let x := s.dirOut o
  if x.external = true ∧ x.readback = false ∧ x.rbSince + 25000000 ≤ s.tick then s.setOut o { x with external := false }
  else s

/-- EXTERNAL_VOLTAGE_CLEAR (R286). -/
def execExternalVoltageClear (out : Nat) (s : State) : Host.Outcome State Fault Refusal :=
  guardUnit (decide (out < 128)) out (s.externalClear out)

/-- Off with OpenLoadDetect, and readback ON for 50 ms from the test current, which flows from the later of the command to
off and the commit that enables it (R286). -/
def State.openLoadCheck (s : State) (o : Nat) : State :=
  let x := s.dirOut o
  if x.driven = false ∧ x.readback = true ∧ x.openLoad = false ∧ s.flag (K.openLoadDetect o) = true ∧
      max x.rbSince (max x.cmdTick x.testFrom) + 12500000 ≤ s.tick then
    (s.setOut o { x with openLoad := true }).outFault o FCode.outputOpenLoad
  else s

/-- OPEN_LOAD_DETECT (R286). -/
def execOpenLoadDetect (out : Nat) (s : State) : Host.Outcome State Fault Refusal :=
  guardUnit (decide (out < 128)) out (s.openLoadCheck out)

/-- OutputFaultClear (R286): a released output stays off until the next command of its owner. -/
def State.faultClearCmd (s : State) (o : Nat) : Nat × State :=
  if 127 < o ∧ o ≠ 0xFF then (Status.valueRange, s)
  else
    let outs := if o = 0xFF then List.range 128 else [o]
    (outs.foldl (fun s o => s.setOut o { s.dirOut o with overload := false }) s).cmdOk K.outputFaultClear

/-- OUTPUT_FAULT_CLEAR (R286). -/
def execOutputFaultClear (sess out : Nat) (s : State) : Host.Outcome State Fault Refusal :=
  .next (s.runCmd sess K.outputFaultClear fun s => s.faultClearCmd out)

/-- What OutputState reads (R286, 0x0F04). -/
def State.outputStateOf (s : State) (o : Nat) : Nat :=
  let x := s.dirOut o
  if s.bankState (o / 32) ≠ 1 then 5
  else if x.overload then 2
  else if x.external then 3
  else if x.openLoad then 4
  else if x.driven then 1 else 0

/-! ### The alive output (R287) -/

/-- Every 125,000 ticks the running wave toggles. -/
def State.aliveHalf (s : State) : State :=
  let a := s.field.alive
  if a.running = true ∧ a.edge + 125000 ≤ s.tick then s.setAlive true (!a.level) else s

/-- ALIVE_HALF_PERIOD (R287). -/
def execAliveHalfPeriod (s : State) : Host.Outcome State Fault Refusal := .next s.aliveHalf

/-- ALIVE_STOP (R287). -/
def execAliveStop (sess : Nat) (s : State) : Host.Outcome State Fault Refusal :=
  .next (s.runCmd sess K.aliveControl fun s => (s.aliveStopFor 1).cmdOk K.aliveControl)

/-- AliveControl 0x02: refused while any cause other than COMMAND holds (R287). -/
def State.aliveStartCmd (s : State) : Nat × State :=
  if s.field.alive.causes.any (· != 1) then (Status.contextState, s) else (s.aliveClear 1).cmdOk K.aliveControl

/-- ALIVE_START (R287). -/
def execAliveStart (sess : Nat) (s : State) : Host.Outcome State Fault Refusal :=
  .next (s.runCmd sess K.aliveControl fun s => s.aliveStartCmd)

/-! ### Encoder supplies and auxiliary inputs (R304, R305) -/

/-- The greatest current of an encoder supply in mA (R304). -/
def State.encLimit (s : State) (c : Nat) : Nat := if s.reg (K.encoderSupply c) = 2 then 300 else 500

/-- An encoder supply over its limit for more than 10 ms (R304). -/
def State.encTrip (s : State) (c ma : Nat) : State :=
  if s.reg (K.encoderSupply c) ≠ 0 ∧ s.encLimit c < ma ∧ (s.enc c).supplyTripped = false then
    (((s.setEnc c { s.enc c with supplyTripped := true }).setReg (K.encoderState c) 2).bump
      (K.encoderSupplyTrips c)).report FCode.encoderSupply Unit.field (c + 65536 * min (2 ^ 32 - 1) ma)
  else s

/-- ENCODER_SUPPLY_TRIP (R304). -/
def execEncoderSupplyTrip (chan ma : Nat) (s : State) : Host.Outcome State Fault Refusal :=
  guardUnit (decide (chan < 2)) chan (s.encTrip chan ma)

/-- Whether an encoder channel is in use (R305): the belt source, or an auxiliary input. -/
def State.encUsed (s : State) (c : Nat) : Bool := s.reg K.beltSource == c || s.flag (K.auxEnable c)

/-- EncoderSupplyReset (R304). -/
def State.encResetCmd (s : State) (c : Nat) : Nat × State :=
  if 1 < c then (Status.valueRange, s)
  else
    let s := if (s.enc c).supplyTripped then
        (s.setEnc c { s.enc c with supplyTripped := false }).setReg (K.encoderState c) (bitNat (s.encUsed c))
      else s
    s.cmdOk K.encoderSupplyReset

/-- ENCODER_SUPPLY_RESET (R304). -/
def execEncoderSupplyReset (sess chan : Nat) (s : State) : Host.Outcome State Fault Refusal :=
  .next (s.runCmd sess K.encoderSupplyReset fun s => s.encResetCmd chan)

/-- A valid auxiliary sample (R305, R14, R20): the position is 0 at the first one, the first one after a change of the word's
format moves nothing, and the speed is measured over the window 125 µs × 2^AuxSpeedWindow. -/
def State.auxTake (s : State) (c w : Nat) : State :=
  let x := s.enc c
  let p := s.encBits c
  match x.wPrev with
  | none =>
    let pos := if x.win = [] then 0 else s.reg (K.auxPosition c)
    (s.setReg (K.auxPosition c) pos).setEnc c { x with wPrev := some w, win := (s.tick, signed 64 pos) :: x.win }
  | some prev =>
    let d := unwrap p w prev
    if 2 ^ (p - 2) < d.natAbs then s
    else
      let pos := signed 64 (s.reg (K.auxPosition c)) + d
      let span := 31250 * 2 ^ s.reg (K.auxSpeedWindow c)
      let old := (x.win.filter fun (e : Nat × Int) => decide (e.1 < s.tick) && decide (s.tick - e.1 ≤ span)).getLast?
      let s := match old with
        | some (t, b) => s.setReg (K.auxSpeed c) (f32OfRat ((pos - b) * 250000000) (s.tick - t))
        | none => s
      (s.setReg (K.auxPosition c) (unsigned 64 pos)).setEnc c
        { x with wPrev := some w
                 win := (s.tick, pos) :: x.win.filter fun (e : Nat × Int) => decide (s.tick - e.1 ≤ span) }

/-- An auxiliary channel samples every AuxSamplePeriod (R305). -/
def State.auxSample (s : State) (c : Nat) (r : EncRead) : State :=
  if s.flag (K.auxEnable c) = true ∧ (s.enc c).lastAux + s.reg (K.auxSamplePeriod c) / 4 ≤ s.tick ∧ s.timeRuns = true then
    let s := s.setEnc c { s.enc c with lastAux := s.tick }
    let (bad, s) := s.encCheck c r
    if bad then s else s.auxTake c (s.encPosition c r)
  else s

/-- AUX_SAMPLE (R305). -/
def execAuxSample (chan : Nat) (r : EncRead) (s : State) : Host.Outcome State Fault Refusal :=
  guardUnit (decide (chan < 2)) chan (s.auxSample chan r)

end Sys2Proof.Machine
end

