-- ==== Sys2Proof/Machine/Intake.lean ====
section
/-! DEFINITION. The commands of the camera intake: bring-up, retraining, control commands, triggers, packets, power over
coax, and the tests (R84 to R98). A timed event whose time has not come changes nothing (log entry 8). -/

namespace Sys2Proof.Machine

/-- Whether `ms` milliseconds have passed since a tick. -/
def State.msSince (s : State) (t ms : Nat) : Bool := decide (t + ms * 250000 ≤ s.tick)

/-- The soft start of R86 step 1 ends after 20 ms. -/
def State.softStartDone (s : State) (l : Nat) : State :=
  let x := s.cam l
  if x.st = .powering ∧ x.step = .softStart ∧ s.msSince x.since 20 = true then
    s.setCam l { x with step := .boot, since := s.tick }
  else s

/-- SOFT_START_DONE (R86). -/
def execSoftStartDone (link : Nat) (s : State) : Host.Outcome State Fault Refusal :=
  guardUnit (s.hasLink link) link (s.softStartDone link)

/-- The load sense of R93: the first one of bring-up, or the retry 1,000 ms after a failed one. -/
def State.loadSense (s : State) (l ohms : Nat) : State :=
  let x := s.cam l
  let first := x.st == .powering && x.step == .sense
  let again := x.st == .powerFault && s.reg (K.linkFailCause l) == 1 && s.msSince x.since 1000
  if first || again then
    if 2000 ≤ ohms ∧ ohms ≤ 30000 then
      (s.setCam l { x with st := .powering, step := .softStart, powered := true, since := s.tick }).setReg (K.linkFailCause l) 0
    else (s.setCam l { x with st := .powerFault, step := .none, since := s.tick }).setReg (K.linkFailCause l) 1
  else s

/-- LOAD_SENSE_RETRY (R93). -/
def execLoadSenseRetry (link ohms : Nat) (s : State) : Host.Outcome State Fault Refusal :=
  guardUnit (s.hasLink link) link (s.loadSense link ohms)

/-- CameraBootTime passes and the link enters discovery (R86). -/
def State.bootTimeExpiry (s : State) (l : Nat) : State :=
  let x := s.cam l
  if x.st = .powering ∧ x.step = .boot ∧ s.msSince x.since (s.reg K.cameraBootTime) = true then s.toDiscovery l else s

/-- CAMERA_BOOT_TIME_EXPIRY (R86). -/
def execCameraBootTimeExpiry (link : Nat) (s : State) : Host.Outcome State Fault Refusal :=
  guardUnit (s.hasLink link) link (s.bootTimeExpiry link)

/-- A link gains word lock (R86, R87): in discovery the stream goes on to identification once every link has lock, at a
rate switch to the connection test, and a retraining link goes back to UP. -/
def State.lockGained (s : State) (l : Nat) : State :=
  let x := s.cam l
  match s.linkStream l with
  | none => s
  | some i =>
    match x.st with
    | .discovery =>
      let s := s.setCam l { x with lock := true }
      if (s.stream i).st = .starting ∧ s.allLocked i = true then s.identify i else s
    | .configuring =>
      let s := s.setCam l { x with lock := true }
      if x.switching = true ∧ (s.stream i).st = .starting ∧ s.allLocked i = true then s.camCtl (s.stream i).master .testOn
      else s
    | .retraining =>
      if s.tick ≤ x.since + 2500000 then
        let back := x.inTest && !x.tested
        let s := s.setCam l { x with st := if back then .testing else .up, lock := true, badRetrains := 0, inTest := false }
        let y := s.stream i
        if s.allLocked i = false ∨ back = true then s
        else if y.st = .starting then (if y.links.any fun m => (s.cam m).st == .discovery then s.identify i else s)
        else if y.st = .resync then s.camCtl y.master .acqStop (s.reg (K.streamAcqStopAddress i)) (leBytes 4 1)
        else s.resync i
      else s
    | _ => s

/-- WORD_LOCK_GAINED (R87). -/
def execWordLockGained (link : Nat) (s : State) : Host.Outcome State Fault Refusal :=
  guardUnit (s.hasLink link) link (s.lockGained link)

/-- A link loses word lock (R87, R91, R92): it retrains at its agreed rate. DESIGN CHOICE (log entry 100): one that loses it in
its connection test goes back to the test, since its stream does not run yet; before a rate is agreed there is none to
retrain at, and the link only waits for lock. -/
def State.lockLost (s : State) (l : Nat) : State :=
  let x := s.cam l
  if x.st = .up then
    let s := (s.bump (K.lockLosses l)).bump (K.retrains l)
    let s := s.setCam l { x with st := .retraining, lock := false, since := s.tick }
    match s.linkStream l with
    | some i => s.resync i false
    | none => s
  else if x.st = .testing then
    ((s.bump (K.lockLosses l)).bump (K.retrains l)).setCam l { x with st := .retraining, lock := false, since := s.tick
                                                                      inTest := true }
  else if x.st = .discovery ∨ x.st = .configuring then
    (s.setCam l { x with lock := false }).bump (K.lockLosses l)
  else s

/-- WORD_LOCK_LOST (R87). -/
def execWordLockLost (link : Nat) (s : State) : Host.Outcome State Fault Refusal :=
  guardUnit (s.hasLink link) link (s.lockLost link)

/-- A retraining link has not regained lock within 10 ms (R87). -/
def State.retrainTimeout (s : State) (l : Nat) : State :=
  let x := s.cam l
  if x.st = .retraining ∧ s.msSince x.since 10 = true then
    if x.badRetrains + 1 < 3 then
      (s.setCam l { x with badRetrains := x.badRetrains + 1, since := s.tick }).bump (K.retrains l)
    else
      let s := (s.setCam l { x with badRetrains := 0 }).toDiscovery l
      match s.linkStream l with
      | some i =>
        let y := s.stream i
        s.setStream i { y with st := .starting, due := none, trigs := [], cur := none, hold := [], nextTag := none }
      | none => s
  else s

/-- RETRAIN_TIMEOUT (R87). -/
def execRetrainTimeout (link : Nat) (s : State) : Host.Outcome State Fault Refusal :=
  guardUnit (s.hasLink link) link (s.retrainTimeout link)

/-- Identification is retried every 1,000 ms (R86, step 3). -/
def State.identRetry (s : State) (i : Nat) : State :=
  let x := s.stream i
  if x.st = .starting ∧ x.links ≠ [] ∧ (x.links.all fun l => s.reg (K.linkFailCause l) == 3) = true ∧
      s.msSince x.identAt 1000 = true then s.identify i
  else s

/-- IDENTIFICATION_RETRY (R86). -/
def execIdentificationRetry (stream : Nat) (s : State) : Host.Outcome State Fault Refusal :=
  guardUnit (decide (stream < 16)) stream (s.identRetry stream)

/-- A link has not regained word lock within 100 ms of a rate switch (R86, step 4). -/
def State.rateLockTimeout (s : State) (l : Nat) : State :=
  let x := s.cam l
  if x.st = .configuring ∧ x.switching = true ∧ x.lock = false ∧ s.msSince x.since 100 = true then
    match s.linkStream l with
    | some i => s.rateFailed i
    | none => s
  else s

/-- RATE_LOCK_TIMEOUT (R86). -/
def execRateLockTimeout (link : Nat) (s : State) : Host.Outcome State Fault Refusal :=
  guardUnit (s.hasLink link) link (s.rateLockTimeout link)

/-- ConnectionTestTime ends on a link with a count of errors (R86, step 5). -/
def State.connectionTestEnd (s : State) (l errors : Nat) : State :=
  let x := s.cam l
  if (x.st = .testing ∨ x.st = .retraining ∧ x.inTest = true) ∧ x.tested = false ∧ s.msSince x.since (s.reg K.connectionTestTime) = true then
    let s := s.setCam l { x with testErrors := errors, tested := true }
    match s.linkStream l with
    | none => s
    | some i =>
      let ls := (s.stream i).links
      if ls.all fun m => (s.cam m).tested then
        if ls.all fun m => decide ((s.cam m).testErrors ≤ s.reg K.connectionTestErrorLimit) then
          s.camCtl (s.stream i).master .testOff
        else s.rateFailed i
      else s
  else s

/-- CONNECTION_TEST_END (R86). -/
def execConnectionTestEnd (link errors : Nat) (s : State) : Host.Outcome State Fault Refusal :=
  guardUnit (s.hasLink link) link (s.connectionTestEnd link errors)

/-- A control acknowledgment arrives (R80, R92); an untagged one answers the oldest command. -/
def State.controlAck (s : State) (l : Nat) (a : CtlAck) : State :=
  let x := s.cam l
  match x.ctl with
  | [] => s
  | c :: rest =>
    if a.crcOk = false ∨ (a.tag.isSome = true ∧ a.tag ≠ some c.tag) then (s.bump (K.crcErrors l)).ctlResend l
    else
      let s := s.setCam l { x with ctl := rest }
      if a.code = 0 then s.acked l c a else s.ctlFailed l c a.code

/-- CONTROL_ACKNOWLEDGMENT (R92). -/
def execControlAcknowledgment (link : Nat) (ack : CtlAck) (s : State) : Host.Outcome State Fault Refusal :=
  guardUnit (s.hasLink link) link (s.controlAck link ack)

/-- No valid acknowledgment within 200 ms (R92). -/
def State.controlAckTimeout (s : State) (l : Nat) : State :=
  match (s.cam l).ctl with
  | [] => s
  | c :: _ => if s.msSince c.sentAt 200 then (s.bump (K.crcErrors l)).ctlResend l else s

/-- CONTROL_ACK_TIMEOUT (R92). -/
def execControlAckTimeout (link : Nat) (s : State) : Host.Outcome State Fault Refusal :=
  guardUnit (s.hasLink link) link (s.controlAckTimeout link)

/-- A trigger packet leaves at a character boundary (R88): its delay field makes up the trigger latency, and the lag
check of R91 follows. -/
def State.triggerPacket (s : State) (i : Nat) : State :=
  let x := s.stream i
  match x.due with
  | none => s
  | some (n, t) =>
    let high := highUplink x.rate
    let gone := 4 * (s.tick - t) + triggerOccupancy high
    let s := s.setStream i { x with due := none, uplinkFree := s.tick + triggerOccupancy high / 4, trigs := x.trigs ++ [n]
                                    afterResync := false }
    let s := s.setLine i n { st := .sent, restart := x.afterResync }
    let s := (s.send (.trigger x.master (triggerLatency high - gone))).portBytes false (0x6A + x.master) 6
    if s.reg (K.lineLagLimit i) < (s.stream i).trigs.length then s.resync i else s

/-- TRIGGER_PACKET (R88). -/
def execTriggerPacket (stream : Nat) (s : State) : Host.Outcome State Fault Refusal :=
  guardUnit (decide (stream < 16)) stream (s.triggerPacket stream)

/-- A stream packet arrives (R90): taken at once when it is the next by tag, held when it is ahead. -/
def State.streamPacket (s : State) (i : Nat) (p : Packet) : State :=
  let x := s.stream i
  if x.st ≠ .ready ∧ x.st ≠ .streaming then s
  else
    match x.nextTag with
    | none => s.takePacket i p
    | some t =>
      if p.tag = t then State.takeHeld i 17 (s.takePacket i p)
      else State.takeHeld i 17 (s.setStream i { x with hold := x.hold ++ [p] })

/-- STREAM_PACKET (R90). -/
def execStreamPacket (stream : Nat) (p : Packet) (s : State) : Host.Outcome State Fault Refusal :=
  guardUnit (decide (stream < 16) && s.hasLink p.link) p.link (s.streamPacket stream p)

/-- A heartbeat or another camera event arrives (R92). -/
def State.eventPacket (s : State) (i : Nat) (e : CamEvent) : State :=
  let x := s.stream i
  if e.crcOk = false then s.bump (K.crcErrors x.master)
  else
    let s := if e.heartbeat then s.setStream i { x with heard := s.tick } else s
    s.intakeRec i 3 (leAt e.data 0 8)

/-- EVENT_PACKET (R92). -/
def execEventPacket (stream : Nat) (e : CamEvent) (s : State) : Host.Outcome State Fault Refusal :=
  guardUnit (decide (stream < 16)) stream (s.eventPacket stream e)

/-- No heartbeat within HeartbeatTimeout (R92). -/
def State.heartbeatLate (s : State) (i : Nat) : State :=
  let x := s.stream i
  let t := s.reg (K.heartbeatTimeout i)
  if t ≠ 0 ∧ (x.st = .ready ∨ x.st = .streaming) ∧ s.msSince x.heard t = true then
    let s := (s.setStream i { x with heard := s.tick }).bump (K.heartbeatMisses i)
    s.intakeRec i 2 (s.reg (K.heartbeatMisses i))
  else s

/-- HEARTBEAT_TIMEOUT (R92). -/
def execHeartbeatTimeout (stream : Nat) (s : State) : Host.Outcome State Fault Refusal :=
  guardUnit (decide (stream < 16)) stream (s.heartbeatLate stream)

/-- Starts an enabled stream that is not brought up, once no other stream holds a link of it (R84, R86). -/
def State.startFree (s : State) (i : Nat) : State :=
  let x := s.stream i
  let mine := s.streamLinkList i
  if mine ≠ [] ∧ x.links = [] ∧ x.drainAt = none ∧ (mine.all fun l => (s.linkStream l).isNone) = true then s.startStream i
  else s

/-- 1 ms after the commit that disabled a stream or moved its links away (R84, steps 2 to 4). -/
def State.drainEnd (s : State) (i : Nat) : State :=
  let x := s.stream i
  match x.drainAt with
  | none => s
  | some t =>
    if t + 250000 ≤ s.tick then
      let s := s.missIncomplete i
      let s := s.sendUplink x.master (s.cam x.master).tag CtlOp.acqStop.code x.stopAddr (leBytes 4 1)
      let s := x.links.foldl (fun s l => if s.reg (K.linkTest l) = 0 then s.idleLink l else s.testLink l) s
      let s := s.setStream i { st := .off, lines := (s.stream i).lines, highest := x.highest, first := x.first }
      (List.range 16).foldl (fun s j => s.startFree j) s
    else s

/-- STREAM_DISABLE_DRAIN_END (R84). -/
def execStreamDisableDrainEnd (stream : Nat) (s : State) : Host.Outcome State Fault Refusal :=
  guardUnit (decide (stream < 16)) stream (s.drainEnd stream)

/-- A link draws more than CameraPowerLimit for 10 ms (R94). -/
def State.powerOverload (s : State) (l mw : Nat) : State :=
  if (s.cam l).powered = true ∧ s.reg (K.cameraPowerLimit l) < mw then s.powerTrip l mw else s

/-- CAMERA_POWER_OVERLOAD (R94). -/
def execCameraPowerOverload (link mw : Nat) (s : State) : Host.Outcome State Fault Refusal :=
  guardUnit (s.hasLink link) link (s.powerOverload link mw)

/-- A link draws more than 14,000 mW (R94). -/
def State.powerFastTrip (s : State) (l mw : Nat) : State :=
  if (s.cam l).powered = true ∧ 14000 < mw then s.powerTrip l mw else s

/-- CAMERA_POWER_FAST_TRIP (R94). -/
def execCameraPowerFastTrip (link mw : Nat) (s : State) : Host.Outcome State Fault Refusal :=
  guardUnit (s.hasLink link) link (s.powerFastTrip link mw)

/-- EyeScan (R96). -/
def State.eyeScanCmd (s : State) (l : Nat) : Nat × State :=
  if s.hasLink l = false then (Status.valueRange, s)
  else if (s.cam l).st ≠ .up ∧ (s.cam l).st ≠ .loopback then (Status.contextState, s)
  else
    let rate := if (s.cam l).st = .loopback then s.reg (K.linkRateMax l) else s.reg (K.linkRate l)
    ({ s with intake := { s.intake with
        scan := some { link := l, start := s.tick, dwell := s.reg K.eyeScanDwell, rate } } } : State).cmdBegin K.eyeScan

/-- EYE_SCAN (R96). -/
def execEyeScan (sess link : Nat) (s : State) : Host.Outcome State Fault Refusal :=
  .next (s.runCmd sess K.eyeScan fun s => s.eyeScanCmd link)

/-- The longest run of points without an error in a line of an eye map. -/
def longestOpen (open' : Nat → Bool) : Nat :=
  ((List.range 64).foldl (fun (a : Nat × Nat) k => if open' k then (a.1 + 1, max a.2 (a.1 + 1)) else (0, a.2)) (0, 0)).2

/-- Whether a point of an eye map, phase-major, counted no error (R96). -/
def eyeOpen (map : List Byte) (phase volt : Nat) : Bool := leAt map (2 * (64 * phase + volt)) 2 == 0

/-- The widest zero-error opening of an eye map in phase steps, and in voltage steps (R96). -/
def eyeWidthOf (map : List Byte) : Nat := (List.range 64).foldl (fun m v => max m (longestOpen fun p => eyeOpen map p v)) 0
def eyeHeightOf (map : List Byte) : Nat := (List.range 64).foldl (fun m p => max m (longestOpen fun v => eyeOpen map p v)) 0

/-- The scan ends (R96): 4,096 points of EyeScanDwell bits at the lane rate, both as the scan started. -/
def State.eyeScanEnd (s : State) (map : List Byte) (width height : Nat) : State :=
  match s.intake.scan with
  | none => s
  | some c =>
    if 4096 * c.dwell * 1000000 ≤ 4 * (s.tick - c.start) * laneRate c.rate ∧
        width = eyeWidthOf (fitBytes 8192 map) ∧ height = eyeHeightOf (fitBytes 8192 map) then
      let s := { s with intake := { s.intake with scan := none } }
      (((s.setBlob K.eyeMap (fitBytes 8192 map)).setReg K.eyeWidth width).setReg K.eyeHeight height).cmdSet K.eyeScan Status.ok
    else s

/-- EYE_SCAN_DONE (R96): the counts that the offset sampler found, with the opening that they show. A row whose opening is not
that of its counts ends no scan. -/
def execEyeScanDone (map : List Byte) (width height : Nat) (s : State) : Host.Outcome State Fault Refusal :=
  .next (s.eyeScanEnd map width height)

/-- StreamRestart (R86, R98). DESIGN CHOICE (log entry 100): for a stream that is not FAILED, of which the spec says nothing,
the write answers CONTEXT_STATE. -/
def State.streamRestartCmd (s : State) (i : Nat) : Nat × State :=
  if 16 ≤ i then (Status.valueRange, s)
  else if (s.stream i).st = .failed then (s.startStream i).cmdOk K.streamRestart
  else (Status.contextState, s)

/-- STREAM_RESTART (R86). -/
def execStreamRestart (sess stream : Nat) (s : State) : Host.Outcome State Fault Refusal :=
  .next (s.runCmd sess K.streamRestart fun s => s.streamRestartCmd stream)

/-- CameraRegCommand (R92, R98, R108): a read or a write of a camera register on the master link. A write is at once one
of the triggers of a parameter-set switch (R108). -/
def State.cameraRegCmd (s : State) (write : Bool) : Nat × State :=
  let i := s.reg K.cameraRegStream
  let x := s.stream i
  if x.st = .off ∨ x.st = .failed ∨ x.links = [] then (Status.contextState, s)
  else
    let s := s.camCtl x.master (if write then .regWrite else .regRead) (s.reg K.cameraRegAddress)
      (if write then s.blob K.cameraRegData else [])
    s.cmdBegin K.cameraRegCommand

/-- CAMERA_REG_READ (R98). -/
def execCameraRegRead (sess : Nat) (s : State) : Host.Outcome State Fault Refusal :=
  .next (s.runCmd sess K.cameraRegCommand fun s => s.cameraRegCmd false)

/-- CAMERA_REG_WRITE (R98). -/
def execCameraRegWrite (sess : Nat) (s : State) : Host.Outcome State Fault Refusal :=
  .next (s.runCmd sess K.cameraRegCommand fun s => s.cameraRegCmd true)

/-- A packet of an unsupported type is discarded (R80, R92). -/
def execUnsupportedPacket (link : Nat) (s : State) : Host.Outcome State Fault Refusal :=
  guardUnit (s.hasLink link) link (s.bump (K.codeErrors link))

/-- A link under test counts mismatched bits (R95); one that only transmits checks no pattern. -/
def State.linkTestBits (s : State) (l errors : Nat) : State :=
  if (s.cam l).st = .loopback ∧ s.reg (K.linkTest l) ≠ 3 then s.bump (K.linkTestErrors l) errors else s

/-- LINK_TEST_PATTERN (R95). -/
def execLinkTestPattern (link errors : Nat) (s : State) : Host.Outcome State Fault Refusal :=
  guardUnit (s.hasLink link) link (s.linkTestBits link errors)

end Sys2Proof.Machine
end

