-- ==== Sys2Proof/Machine/Access.lean ====
section
/-! DEFINITION. Reading and writing entries of the dictionary: what a read returns (R5 to R8, R58, R71), the checks of a
write in the order of R479, and the effect of a write of an RW, an RWS or a WO entry (R61). -/

namespace Sys2Proof.Machine

/-! ### Entries that are computed when they are read -/

/-- Links of the assembly that have camera power enabled (0x0410:05). -/
def State.poweredLinks (s : State) : List Nat := (List.range s.mfg.part.links).filter fun l => s.flag (K.cameraPowerEnable l)

/-- Pixel rate of a stream at MaxBeltSpeed (R82), as a fraction of Gpix/s: 0 for a stream that is not enabled. -/
def State.pixelRate (s : State) (i : Nat) : Nat × Nat :=
  (if s.reg (K.streamLinks i) = 0 then 0 else s.payloadNum i, 8 * s.reg K.linePitch * 10 ^ 9)

/-- A figure of the real-time plan's heads (0x0A01): 0 without one. -/
def State.headFigure (s : State) (f : Plan → Heads → Nat) : Nat :=
  match s.rtPlan with
  | some p => f p (s.heads p)
  | none => 0

/-- Bytes of line buffer that the committed plans have on a die (R190). -/
def State.lineAllotted (s : State) (die : Nat) : Nat :=
  (s.plansInForce.map fun p => ((p.lineRegions.filter fun x => x.1 / 4096 == die).map fun x => x.2).sum).sum * 1024

/-- Levels read back at the outputs 64·w to 64·w + 63 (0x0F08). -/
def State.readbackWord (s : State) (w : Nat) : Nat :=
  ((List.range 64).map fun i => if (s.dirOut (64 * w + i)).readback then 2 ^ i else 0).sum

/-- LinkPowerDraw of a link in mW (R97): measured while its power is on, 0 while it is off. -/
def State.linkDraw (s : State) (l : Nat) : Nat :=
  if (s.cam l).powered then Config.measured (K.linkPowerDraw l) s.tick % 2 ^ 16 else 0

/-- The computed value of a fixed-size entry: none for an entry that holds its value. -/
def State.live (s : State) (k : Nat) : Option Nat :=
  let i := k / 256
  let n := k % 256 - 1
  if i = 0x0110 then
    if n = 2 then some s.ctl.owner else if n = 3 then some (s.ctl.staged.length + s.ctl.stagedBlobs.length) else none
  else if k = K.bdpSessionsOpen then some s.ctl.sessions.length
  else if i = 0x0204 then
    if n = 0 then some s.pos
    else if n = 1 then some (s.belt.ibp % 65536)
    else if n = 2 then some s.speedF32
    else if n = 3 then some (f32OfRat (s.belt.spNum * (s.reg K.bcLength : Nat)) (4 * s.belt.spDen))
    else if n = 4 then some s.belt.st.code else none
  else if i = 0x0209 then if n = 0 then some s.stripeS else none
  else if i = 0x0304 then some (s.bankState n)
  else if i = 0x0311 then if n = 0 then some s.power.st.code else none
  else if i = 0x0410 then
    if n = 3 then some ((List.range s.mfg.part.links).map fun l => s.linkDraw l).sum
    else if n = 4 then some (s.poweredLinks.map fun l => s.reg (K.cameraPowerLimit l)).sum else none
  else if i = 0x0411 then some (s.linkDraw n)
  else if i = 0x050E then some (f32OfRat ((s.pixelRate n).1 : Nat) (s.pixelRate n).2)
  else if i = 0x050F then
    some (f32OfRat ((((List.range 16).map fun j => (s.pixelRate j).1).sum : Nat) : Int) (s.pixelRate 0).2)
  else if i = 0x0618 then some (s.serviceCycles n s.stripeS)
  else if i = 0x0802 then some (s.spareByte n)
  else if i = 0x0803 then some (s.halfHealthy n)
  else if i = 0x0840 then if n < 2 then some (s.lineAllotted n) else none
  else if i = 0x0901 then some (s.slotState n)
  else if i = 0x0912 then some (s.ctx n).st.code
  else if i = 0x0A01 then
    if n = 0 then some (s.headFigure fun _ h => h.capacity)
    else if n = 1 then some (s.headFigure fun _ h => h.listLen)
    else if n = 2 then some (s.headFigure fun p h => p.maskRows h)
    else if n = 3 then some (s.headFigure fun p h => p.maskWidth h)
    else some (s.headFigure fun _ h => h.classes)
  else if i = 0x0A06 then
    if n = 0 then some s.openCount else if n = 1 then some s.closedCount else none
  else if i = 0x0B01 then if s.power.clock.isSome then some 0 else some (s.memDieState n)
  else if i = 0x0B03 then
    if n = 0 then some s.memReserved else if n = 1 then some s.memFree else if n = 2 then some s.scratchAllotted else none
  else if i = 0x0C03 then if n = 1 then some (s.knotWordOf (s.reg K.knotSelect)) else none
  else if i = 0x0D04 then some (s.tport n).st.code
  else if i = 0x0F04 then some (s.outputStateOf n)
  else if i = 0x0F08 then some (s.readbackWord n)
  else if i = 0x1202 then if n < 2 then some (s.port n).st.code else none
  else if i = 0x1206 then
    if n = 0 then some (s.host.rings.filter fun p => p.2.st != .disabled).length
    else if n = 1 then some (s.host.queues.filter fun p => p.2.st != .disabled).length else none
  else if i = 0x1313 then if n < 2 then some (s.domSt n).code else none
  else if i = 0x1314 then
    if n = 0 then some (s.net.selected.getD 0xFF)
    else if n = 1 then some s.net.timeSt
    else if n = 2 then some (s.localTime % 2 ^ 64) else none
  else if i = 0x1601 then if n = 1 then some s.boot.step else none
  else if i = 0x1602 then some (s.blobSlot n).st
  else if i = 0x1603 then some (s.blobSlot n).status
  else none

/-- The value that a fixed-size entry reads (R7). -/
def State.readReg (s : State) (k : Nat) : Nat := (s.live k).getD (s.reg k)

/-- Bytes of a key list entry of AcceptedKeys (0x1606:02). -/
def PubKey.row (k : PubKey) : List Byte :=
  k.id ++ leBytes 1 k.source ++ leBytes 1 k.use ++ leBytes 2 0 ++ leBytes 4 k.minVersion

/-- The bytes of the per-set entries while nothing has been written to them (R104, 0x0610 to 0x0614). -/
def State.setDefault (s : State) (i stream : Nat) : List Byte :=
  let planes := planesOf (s.reg (K.streamPixelFormat stream))
  if i = 0x0610 then List.replicate (2 * planes) 0
  else if i = 0x0612 ∨ (0x0613 ≤ i ∧ i ≤ 0x0614 ∧ planes = 3) then
    (List.replicate (s.reg (K.streamWidth stream)) (leBytes 2 0x4000)).flatten
  else []

/-- The value that an STR or BLOB entry reads (R7). -/
def State.readBlob (s : State) (k : Nat) : List Byte :=
  let i := k / 256
  let n := k % 256 - 1
  if i = 0x0801 then s.healthBlob n
  else if i = 0x0A06 then
    (List.range (s.headFigure fun _ h => h.capacity)).flatMap fun t => (s.track t).bytes
  else if i = 0x0B02 then
    (List.range 16).map fun l => BitVec.ofNat 8 (if s.power.clock.isSome then 1 else s.linkCode (16 * n + l))
  else if i = 0x0B0D then s.memory.log.flatten
  else if i = 0x1401 then (if n = 0 then s.faults.log else s.faults.nv).flatMap fun e => e.bytes
  else if i = 0x1520 then s.perf.log.flatten
  else if i = 0x1604 then
    let x := s.blobSlot n
    blobInfo n (if x.loaded = [] then x.data else x.loaded)
  else if i = 0x1606 then (s.mfg.vendorKeys ++ s.boot.keys).flatMap PubKey.row
  else if i = 0x1608 then (s.boot.selfTest.take 256).flatten
  else
    let v := s.blob k
    if v ≠ [] then v
    else if 0x0610 ≤ i ∧ i ≤ 0x0614 then s.setDefault i (n % 16)
    else if i = 0x1106 then List.replicate 1152 255
    else v

/-! ### Reads (R5 to R8, R71, R479) -/

/-- The highest subindex present of an index (R5): none when the index is not present. -/
def topSub (m : Mfg) (idx : Nat) : Option Nat :=
  (((entriesOf (idx / 256)).filter fun e => e.idx == idx).flatMap fun e =>
    ((List.range (e.hi + 1 - e.lo)).map fun i => e.lo + i).filter fun sub => present m idx sub).foldl
      (fun (m : Option Nat) n => some (max n (m.getD 0))) none

/-- Whether the dictionary engine serves no read of an index (R56, R466, R479). A HALTED module serves the ranges 0x0100 and
0x1600, AcceptedKeys among them (R458, R461). -/
def State.unserved (s : State) (idx : Nat) : Bool :=
  s.faults.stalled || (!s.ctl.serving && !(s.boot.halted && (idx / 256 == 0x01 || idx / 256 == 0x16)))

/-- The value of an entry as a read returns it, with the size that the read must name (R71). -/
def State.valueOf (s : State) (e : Entry) (k : Nat) (staged : Bool) : Nat × List Byte × Option Nat :=
  match e.ty.size with
  | some n =>
    if e.acc = .cmd then (if staged then Status.notStaged else Status.ok, leBytes 2 (s.cmdRead k), some 2)
    else
      match if staged then SMap.find? s.ctl.staged k else none with
      | some v => (Status.ok, leBytes n v, some n)
      | none => (if staged then Status.notStaged else Status.ok, leBytes n (s.readReg k), some n)
  | none =>
    match if staged then SMap.find? s.ctl.stagedBlobs k else none with
    | some v => (Status.ok, v, none)
    | none => (if staged then Status.notStaged else Status.ok, s.readBlob k, none)

/-- One READ item (R71): its status and the bytes of value that it carries. -/
def State.readItem (s : State) (idx sub off len : Nat) (staged : Bool) : Nat × List Byte :=
  if s.unserved idx then (Status.notReady, [])
  else if sub = 0 then
    match topSub s.mfg idx with
    | none => (Status.noEntry, [])
    | some n =>
      if len = 1 ∧ off = 0 then (if staged then Status.notStaged else Status.ok, leBytes 1 n)
      else (Status.lengthMismatch, [])
  else if present s.mfg idx sub = false then (Status.noEntry, [])
  else
    match findEntry idx sub with
    | none => (Status.noEntry, [])
    | some e =>
      if e.acc = .wo then (Status.writeOnly, [])
      else
        let (st, v, size) := s.valueOf e (256 * idx + sub) staged
        match size with
        | some n => if len = n ∧ off = 0 then (st, v) else (Status.lengthMismatch, [])
        | none => (st, (v.drop off).take len)

/-! ### The checks of a write (R479) -/

/-- Order 9 and 10 for a fixed-size value (R3, R6). -/
def Entry.valueStatus (e : Entry) (v : Nat) : Option Nat :=
  let x : Int := if e.ty.isSigned then signed e.ty.width v else v
  let range := fun (ok : Bool) => if ok then none else some Status.valueRange
  if e.ty = .bc48 ∧ 2 ^ 48 ≤ v then some Status.reservedNonzero
  else if e.ty = .bool then range (decide (v ≤ 1))
  else if e.ty = .f32 ∧ (f32 v).isNaN = true then some Status.valueRange
  else
    match e.chk with
    | .range lo hi => range (decide (lo ≤ x) && decide (x ≤ hi))
    | .mult lo hi m => range (decide (lo ≤ v) && decide (v ≤ hi) && v % m == 0)
    | .oneOf l => range (l.contains v)
    | .bits mask => if v &&& mask = v then none else some Status.reservedNonzero
    | .rangeOrFF lo hi => range (v == 0xFF || (decide (lo ≤ v) && decide (v ≤ hi)))
    | _ => none

/-- Subindices that refuse every value: context 0 has no priority to set (0x0911:01), and completions have no route
(0x1204:02). -/
def fixedSub (k : Nat) : Bool := k == K.contextPriority 0 || k == K.eventRoute 1

/-- Strictly ascending column numbers below a width (R105). -/
def columnsOk (w : Nat) (d : List Byte) : Bool :=
  let c := (List.range (d.length / 2)).map fun i => leAt d (2 * i) 2
  (c.all fun x => decide (x < w)) && (c.zip (c.drop 1)).all fun p => decide (p.1 < p.2)

/-- Whether a BLOB's length fits its type and what its entry says of it with LENGTH_MISMATCH (order 4: R6, R123,
R278, 0x1607:03). -/
def State.blobLengthOk (s : State) (k : Nat) (d : List Byte) : Bool :=
  let i := k / 256
  let stream := (k % 256 - 1) % 16
  let w := s.reg (K.streamWidth stream)
  let planes := planesOf (s.reg (K.streamPixelFormat stream))
  if d.length = 0 then i == 0x0611
  else if i = 0x0610 then d.length == 2 * planes
  else if i = 0x0612 then d.length == 2 * w
  else if i = 0x0613 ∨ i = 0x0614 then planes == 3 && d.length == 2 * w
  else if i = 0x1106 then d.length == 1152
  else if i = 0x1607 then d.length == 32
  else true

/-- Orders 9 and 10 for a BLOB's value (R105, R111, R264, 0x0511:03). -/
def State.blobStatusOf (s : State) (k : Nat) (d : List Byte) : Option Nat :=
  let i := k / 256
  let range := fun (ok : Bool) => if ok then none else some Status.valueRange
  if i = 0x0511 then range (decide (4 ≤ d.length) && decide (d.length ≤ 512) && d.length % 4 == 0)
  else if i = 0x0606 then
    if (List.range (d.length / 8)).all fun p => leAt d (8 * p) 2 == 0 then none else some Status.reservedNonzero
  else if i = 0x0611 then
    range (d.length % 2 == 0 && decide (d.length ≤ 512) && columnsOk (s.reg (K.streamWidth ((k % 256 - 1) % 16))) d)
  else if i = 0x1106 then range (d.all fun b => decide (b.toNat < 16) || b == 255)
  else none

/-- Orders 5 to 8 of R479. -/
def State.writeGate (s : State) (e : Entry) (sess k : Nat) : Option Nat :=
  let held := s.ctl.owner ≠ 0 ∧ s.ctl.owner ≠ sess
  if e.expert = true ∧ s.flag (expertKey e.idx) = false then some Status.expertLocked
  else if held ∧ (e.acc = .rws ∨ e.ty = .blob ∨ k = K.commitControl ∨ k = K.discard) then some Status.stageLocked
  else if s.committing = true ∧ (e.acc = .rws ∨ k = K.discard) then some Status.commitBusy
  else if e.acc = .cmd ∧ s.cmdRead k = Status.inProgress then some Status.busy
  else none

/-- Orders 1 to 3 of R479. -/
def State.writeEntry (s : State) (idx sub : Nat) : Nat ⊕ Entry :=
  if s.ctl.serving = false ∨ s.faults.stalled = true then .inl Status.notReady
  else if sub = 0 then .inl (if (topSub s.mfg idx).isSome then Status.readOnly else Status.noEntry)
  else if present s.mfg idx sub = false then .inl Status.noEntry
  else
    match findEntry idx sub with
    | none => .inl Status.noEntry
    | some e => if e.acc = .ro then .inl Status.readOnly else .inr e

/-! ### The effect of a write -/

/-- A value joins the staging set (R61): the first staged write makes its session the owner. -/
def State.stageReg (s : State) (sess k v : Nat) : State :=
  { s with ctl := { s.ctl with staged := SMap.put (SMap.erase s.ctl.staged k) k v, owner := sess } }

/-- A BLOB joins the staging set (R61). -/
def State.stageBlob (s : State) (sess k : Nat) (d : List Byte) : State :=
  { s with ctl := { s.ctl with stagedBlobs := SMap.put (SMap.erase s.ctl.stagedBlobs k) k d, owner := sess } }

/-- An RW value takes effect (R7): the level of a general output drives the output while the function owns it (R285). -/
def State.putReg (s : State) (k v : Nat) : State :=
  let s := s.setReg k v
  if k / 256 = 0x0F02 ∧ s.flag (K.generalOutputEnable (k % 256 - 1)) = true ∧ (s.dirOut (k % 256 - 1)).rest = false then
    s.cmdOut (k % 256 - 1) (v != 0)
  else s

/-- An RW BLOB takes effect (R7). A parameter set is written only while it is not in force and no switch is pending
(R108). -/
def State.putBlob (s : State) (k : Nat) (d : List Byte) : Nat × State :=
  let i := k / 256
  let n := k % 256 - 1
  if 0x0610 ≤ i ∧ i ≤ 0x0614 then
    let x := s.pctx (n % 16)
    if x.active = n / 16 then (Status.contextState, s)
    else if x.switch ≠ [] then (Status.busy, s)
    else (Status.ok, s.setBlob k d)
  else (Status.ok, s.setBlob k d)

/-- A whole BLOB value is written (R71, R479): orders 9 to 11 and the effect. -/
def State.takeBlob (s : State) (e : Entry) (sess k : Nat) (d : List Byte) : Nat × State :=
  match s.blobStatusOf k d with
  | some st => (st, s)
  | none =>
    if e.acc = .rws then (Status.ok, s.stageBlob sess k d)
    else if k = K.planUploadData then s.uploadData d
    else if k = K.blobUploadData then s.blobData d
    else s.putBlob k d

/-- The unfinished BLOB of a session and an entry (R71). -/
def State.partOf (s : State) (sess k : Nat) : Option Partial :=
  s.ctl.parts.find? fun (p : Partial) => p.session == sess && p.key == k

/-- Replaces the unfinished BLOB of a session and an entry. -/
def State.setPart (s : State) (sess k : Nat) (d : Option (List Byte)) : State :=
  let rest := s.ctl.parts.filter (fun (p : Partial) => !(p.session == sess && p.key == k))
  { s with ctl := { s.ctl with
      parts := match d with
        | some x => rest ++ [({ session := sess, key := k, data := x } : Partial)]
        | none => rest } }

/-- One BLOB segment (R71, R479). DESIGN CHOICE (log entry 85): R71 drops the partial value for SEGMENT_ORDER, and a segment
refused by LENGTH_MISMATCH or by orders 5 to 8 leaves it as it was. -/
def State.writeSegment (s : State) (e : Entry) (sess k off : Nat) (last : Bool) (d : List Byte) : Nat × State :=
  match if off = 0 then some [] else ((s.partOf sess k).map fun p => p.data) with
  | none => (Status.segmentOrder, s.setPart sess k none)
  | some have' =>
    if have'.length ≠ off then (Status.segmentOrder, s.setPart sess k none)
    else
      let v := have' ++ d
      if 65536 < v.length ∨ (last = true ∧ s.blobLengthOk k v = false) then (Status.lengthMismatch, s)
      else
        match s.writeGate e sess k with
        | some st => (st, s)
        | none =>
          if last then (s.setPart sess k none).takeBlob e sess k v
          else (Status.ok, s.setPart sess k (some v))

/-- One written value of an entry (R71, R479): `cmd` carries out a CMD entry's action for a session, a key and a value. -/
def State.writeValue (s : State) (cmd : State → Nat → Nat → Nat → Nat × State) (sess idx sub off : Nat) (last : Bool)
    (d : List Byte) : Nat × State :=
  match s.writeEntry idx sub with
  | .inl st => (st, s)
  | .inr e =>
    let k := 256 * idx + sub
    match e.ty.size with
    | none => s.writeSegment e sess k off last d
    | some n =>
      if d.length ≠ n ∨ off ≠ 0 then (Status.lengthMismatch, s)
      else
        match s.writeGate e sess k with
        | some st => (st, s)
        | none =>
          let v := leNat d
          match if e.acc = .cmd then none else e.valueStatus v with
          | some st => (st, s)
          | none =>
            if fixedSub k = true then (Status.valueRange, s)
            else if e.acc = .cmd then cmd s sess k v
            else if e.acc = .rws then (Status.ok, s.stageReg sess k v)
            else (Status.ok, s.putReg k v)

end Sys2Proof.Machine
end

