-- ==== Sys2Proof/Machine/CommitChecks.lean ====
section
/-! DEFINITION. The commit checks (R63): what a commit would leave in force, and every failure of the six steps with its
conflict record (R65 to R68). -/

namespace Sys2Proof.Machine

/-! ### Conflict records (R68) -/

/-- A failure of a commit check: the step that found it and what its conflict record says (R68). -/
structure Fail where
  step : Nat
  status : Nat
  cls : Nat := 0
  num : Nat := 0
  fa : Nat := 0xFF
  ka : Nat
  fb : Nat := 0
  kb : Nat := 0
  also : List Nat := []               -- further entries that the check compares
  deriving DecidableEq, Repr

/-- Whether an entry is staged. -/
def State.isStaged (s : State) (k : Nat) : Bool :=
  (SMap.find? s.ctl.staged k).isSome || (SMap.find? s.ctl.stagedBlobs k).isSome

/-- The function code that a failure names for an entry: that of its claim, 0xFF for an entry of no function. -/
def Fail.fn (f : Fail) (k : Nat) : Nat := if k = f.ka then f.fa else if k = f.kb then f.fb else 0xFF

/-- The lowest of some entries. -/
def lowestKey : List Nat → Option Nat
  | [] => none
  | k :: r => some (r.foldl min k)

/-- Entry A is a staged one among the entries that the check compares, the one with the lower index and subindex where
several or none are staged; entry B is the lowest other staged one, else the other one that the check names (R68). -/
def Fail.order (f : Fail) (s : State) : Fail :=
  let named := if f.kb = 0 then [f.ka] else [f.ka, f.kb]
  let staged := (named ++ f.also).filter s.isStaged
  let a := (lowestKey staged).getD (named.foldl min f.ka)
  let other := (named.filter fun k => k != a).headD 0
  let b := if other = 0 then 0 else (lowestKey (staged.filter fun k => k != a)).getD other
  { f with fa := f.fn a, ka := a, fb := if b = 0 then 0 else f.fn b, kb := b }

/-- The 16 bytes of a conflict record (R68). -/
def Fail.bytes (f : Fail) : List Byte :=
  leBytes 2 f.status ++ leBytes 1 f.cls ++ leBytes 1 0 ++ leBytes 2 f.num ++ leBytes 1 f.fa ++ leBytes 1 f.fb ++
    leBytes 2 (f.ka / 256) ++ leBytes 1 (f.ka % 256) ++ leBytes 1 0 ++
    leBytes 2 (f.kb / 256) ++ leBytes 1 (f.kb % 256) ++ leBytes 1 0

/-- One failure of a step that concerns an entry, a second one where `kb` is not 0, and the further ones that the check
compares, when a condition holds. -/
def failIf (bad : Bool) (step status ka : Nat) (kb : Nat := 0) (num : Nat := 0) (also : List Nat := []) : List Fail :=
  if bad then [{ step, status, num, ka, fb := if kb = 0 then 0 else 0xFF, kb, also }] else []

/-- A failure of step 1. -/
def rangeIf (bad : Bool) (ka : Nat) (kb : Nat := 0) (also : List Nat := []) : List Fail :=
  failIf bad 1 Status.valueRange ka kb 0 also

/-! ### The values that would be in force (R61, R63) -/

/-- The plan that a context runs once its slot number takes effect: none for a slot whose state, digest, signature or
format fails, which step 5 reports. -/
def State.planFrom (s : State) (slot : Nat) : Option Plan :=
  if slot = 0xFF ∨ (s.imageStatus slot).isSome = true then none else some (parsePlan slot (s.planSlot slot).data)

/-- The contexts whose slot number a commit changes. -/
def State.freshCtxs (s : State) : List Nat :=
  (List.range 16).filter fun c => match SMap.find? s.ctl.staged (K.contextPlanSlot c) with
    | some v => v != s.reg (K.contextPlanSlot c)
    | none => false

/-- Whether the outgoing real-time plan still has stripes to process (R233). -/
def State.outgoing (s : State) : Bool :=
  s.rtPlan.isSome && (s.freshCtxs.contains 0) && (s.ctx 0).st != .stopped && (s.ctx 0).st != .gloved &&
    (s.pipe.stripes != [] || s.engine.period.isSome)

/-- Whether a commit waits for a stripe's first line, as the table of R64 says. -/
def State.commitWaits (s : State) : Bool := s.rtPlan.isSome && s.belt.st == .forward

/-- Sets a context's plan without its scratch. -/
def State.givePlan (s t : State) (keep : Bool) (c : Nat) : State :=
  let t := t.setCtx c { t.ctx c with plan := s.planFrom (t.reg (K.contextPlanSlot c)) }
  let mine := SMap.get (0, 0) t.memory.scratch c
  let rest := SMap.erase t.memory.scratch c
  { t with memory := { t.memory with scratch := if c = 0 ∧ keep = true then SMap.set (0, 0) rest 16 mine else rest } }

/-- The staged values in force, with the plans that they name; the plans' scratch is not placed yet. -/
def State.after (s : State) (keep : Bool) : State :=
  let t := s.ctl.staged.foldl (fun t p => t.setReg p.1 p.2) s
  let t := s.ctl.stagedBlobs.foldl (fun t p => t.setBlob p.1 p.2) t
  s.freshCtxs.foldl (fun t c => s.givePlan t keep c) t

/-- Places the scratch of a context's plan (R312). -/
def State.giveScratch (t : State) (c : Nat) : State :=
  match (t.ctx c).plan with
  | none => t
  | some p => { t with memory := { t.memory with
      scratch := SMap.set (0, 0) t.memory.scratch c ((t.placeScratch p).getD (0, 0)) } }

/-- Whether the values would leave a plan of the real-time context in force (R21, R480). -/
def State.rtCommitted (t : State) : Bool := t.reg (K.contextPlanSlot 0) != 0xFF

/-! ### Step 1: ranges across entries -/

/-- The time unit (R16, R21, R24). -/
def State.checkBelt (t : State) : List Fail :=
  let src := t.reg K.beltSource
  let p := t.reg K.encoderSamplePeriod
  let offs := (List.range 16).map fun i => (t.sreg 32 (K.streamViewOffset i), i)
  let low := offs.foldl (fun (m : Int × Nat) o => if o.1 < m.1 then o else m) (0, 0)
  rangeIf (decide (src ≤ 1) && decide (p < t.encTransfer src + t.reg (K.encoderMonoflop src))) K.encoderSamplePeriod
    (K.encoderClockRate src) [K.beltSource, K.encoderMonoflop src, K.encoderWordLength src, K.encoderDoubleRead src,
      K.encoderDataDelay src] ++
  rangeIf (decide (t.reg K.encoderHoldover < 2 * p)) K.encoderHoldover K.encoderSamplePeriod ++
  rangeIf (t.reg K.maxBeltSpeed == 0 && t.rtCommitted) (K.contextPlanSlot 0) K.maxBeltSpeed ++
  rangeIf (decide ((t.reg K.lineOriginPosition : Int) + low.1 < 0)) K.lineOriginPosition (K.streamViewOffset low.2) ++
  rangeIf (t.linePeriodBelow (t.reg K.triggerMinInterval)) K.linePitch K.triggerMinInterval [K.maxBeltSpeed]

/-- Streams that are enabled (R82). -/
def State.enabledStreams (t : State) : List Nat := (List.range 16).filter fun i => t.reg (K.streamLinks i) != 0

/-- The camera intake (R82, R94). -/
def State.checkIntake (t : State) : List Fail :=
  let pitch := t.reg K.linePitch
  let on := t.enabledStreams
  (on.flatMap fun i =>
    let m := (t.streamLinkList i).length
    rangeIf (m != 1 && m != 2 && m != 4) (K.streamLinks i) ++
    rangeIf (t.reg (K.streamAcqStartAddress i) == 0) (K.streamLinks i) (K.streamAcqStartAddress i) ++
    rangeIf (t.reg (K.streamAcqStopAddress i) == 0) (K.streamLinks i) (K.streamAcqStopAddress i) ++
    rangeIf (decide (16 * 10 ^ 9 * pitch < t.payloadNum i)) (K.streamWidth i) K.maxBeltSpeed
      [K.streamPixelFormat i, K.linePitch, K.streamLinks i] ++
    rangeIf (!t.payloadFits i (t.lowestRateMax i)) (K.streamLinks i) (K.streamWidth i)
      ([K.streamPixelFormat i, K.linePitch, K.maxBeltSpeed] ++ (t.streamLinkList i).map K.linkRateMax) ++
    rangeIf (t.linePeriodBelow (if t.lowestRateMax i ≤ 5 then 3840 else 1920)) K.linePitch (K.streamLinks i)
      (K.maxBeltSpeed :: (t.streamLinkList i).map K.linkRateMax)) ++
  rangeIf (decide (128 * 10 ^ 9 * pitch < (on.map fun i => t.payloadNum i).sum)) K.linePitch K.maxBeltSpeed
    (on.flatMap fun i => [K.streamWidth i, K.streamPixelFormat i, K.streamLinks i]) ++
  (List.range t.mfg.part.links).flatMap fun l =>
    rangeIf (t.flag (K.cameraPowerEnable l) && t.reg (K.linkTest l) != 0) (K.cameraPowerEnable l) (K.linkTest l)

/-- Streams with a pipeline assigned (R99). -/
def State.pipedStreams (t : State) : List Nat := (List.range 16).filter fun i => t.reg (K.streamPipeline i) != 0xFF

/-- PCLK cycles of one stripe period at MaxBeltSpeed (R100). -/
def State.pipeBudget (t : State) : Nat :=
  t.stripeS * t.reg K.linePitch * 500000000 / (65536 * t.reg K.maxBeltSpeed)

/-- Pipeline buffers of a stream context (R102). -/
def State.buffersOf (t : State) (i : Nat) : Nat :=
  2 * ceilDiv (t.stripeS * t.reg (K.streamWidth i) * bitsPerPixel (t.reg (K.streamPixelFormat i))) (8 * 1048576)

/-- Whether tiles, by first column and width, cover columns 0 to `w` − 1 exactly once (R112). -/
def coversOnce (tiles : List (Nat × Nat)) (w : Nat) : Bool :=
  ((tiles.mergeSort fun a b => decide (a.1 ≤ b.1)).foldl (fun (m : Option Nat) x =>
    if m = some x.1 then some (x.1 + x.2) else none) (some 0)) == some w

/-- Pipelines and their buffers (R99, R100, R102). -/
def State.checkPipelines (t : State) : List Fail :=
  let on := t.pipedStreams
  (on.flatMap fun i =>
    let bank := t.reg (K.streamPipeline i) / 4
    let first := t.reg (K.streamBufferFirst i)
    rangeIf ((t.streamLinkList i).any fun l => l / 12 != bank) (K.streamLinks i) (K.streamPipeline i) ++
    rangeIf (first == 0xFF) (K.streamPipeline i) (K.streamBufferFirst i) ++
    rangeIf (first != 0xFF && first / 32 != bank) (K.streamPipeline i) (K.streamBufferFirst i)) ++
  ((List.range 16).flatMap fun i =>
    rangeIf (t.reg (K.streamPipeline i) == 0xFF && t.reg (K.tileColumns i) != 0) (K.streamPipeline i) (K.tileColumns i)) ++
  ((List.range 8).flatMap fun p =>
    let mine := on.filter fun i => t.reg (K.streamPipeline i) == p
    (match mine.drop 4 with
      | i :: _ => rangeIf true (K.streamPipeline i)
      | [] => []) ++
    match mine with
    | i :: _ => rangeIf (t.reg K.maxBeltSpeed != 0 && decide (t.pipeBudget < t.serviceCycles p t.stripeS))
        (K.streamPipeline i) K.maxBeltSpeed (K.linePitch :: K.contextPlanSlot 0 :: mine.flatMap fun i =>
          [K.streamPipeline i, K.streamWidth i, K.streamPixelFormat i])
    | [] => []) ++
  rangeIf (t.reg K.jpegHistoryCount != 0 && decide (31 < t.reg K.jpegHistoryFirst)) K.jpegHistoryFirst K.jpegHistoryCount

/-- Line offsets of a mesh that lie outside their range (R111), whatever its stream does. -/
def State.checkOffsets (t : State) : List Fail :=
  (List.range 16).flatMap fun i =>
    let mesh := t.blob (K.meshTable i)
    rangeIf ((List.range (mesh.length / 8)).any fun k =>
      decide ((meshPoint mesh k).2 < -4096) || decide (4095 < (meshPoint mesh k).2)) (K.meshTable i)

/-- Tiles and meshes (R111, R112, R114, R480): while a stream has a pipeline assigned, every stream's tile is checked. -/
def State.checkTiles (t : State) : List Fail :=
  let on := t.pipedStreams
  let f := t.reg K.stripeFold
  let w := t.reg K.stripeWidth
  let tiled := on.filter t.contributes
  t.checkOffsets ++
  if on = [] then rangeIf t.rtCommitted (K.contextPlanSlot 0)
  else
    ((List.range 16).flatMap fun i =>
      rangeIf (t.reg (K.tileFirstColumn i) % (16 * f) != 0) (K.tileFirstColumn i) K.stripeFold ++
      rangeIf (t.reg (K.tileColumns i) % (16 * f) != 0) (K.tileColumns i) K.stripeFold ++
      rangeIf (t.reg (K.tileColumns i) % t.reg (K.meshStep i) != 0) (K.tileColumns i) (K.meshStep i)) ++
    (tiled.flatMap fun i =>
      rangeIf ((t.blob (K.meshTable i)).length != (t.reg (K.tileColumns i) / t.reg (K.meshStep i) + 1) * 8)
        (K.meshTable i) (K.tileColumns i)) ++
    rangeIf (!coversOnce (tiled.map fun i => (t.reg (K.tileFirstColumn i), t.reg (K.tileColumns i))) w)
      ((on.map K.tileColumns).headD 0) K.stripeWidth ++
    (match tiled with
      | a :: r => r.flatMap fun i =>
          rangeIf (planesOf (t.reg (K.streamPixelFormat i)) != planesOf (t.reg (K.streamPixelFormat a)))
            (K.streamPixelFormat i) (K.streamPixelFormat a)
      | [] => []) ++
    rangeIf (w % (64 * f) != 0) K.stripeWidth K.stripeFold ++
    rangeIf (t.rtCommitted && tiled.isEmpty) (K.contextPlanSlot 0) ((on.map K.tileColumns).headD 0)

/-- The mask-row height Lm of the real-time plan (R240). -/
def State.maskLm (t : State) (p : Plan) : Nat := p.stripeLines / max 1 (p.maskRows (t.heads p))

/-- Tracks (R261). -/
def State.checkTracks (t : State) : List Fail :=
  let margins := t.reg K.leadMargin + t.reg K.trailMargin
  rangeIf (decide (1152 < t.reg K.valveChannelBase + t.reg K.valveChannelCount)) K.valveChannelBase K.valveChannelCount ++
  (match t.rtPlan with
    | some p => rangeIf (decide (65535 * 65536 <
        (t.heads p).maxRows * t.maskLm p * t.reg K.linePitch + margins * 65536)) K.leadMargin (K.contextPlanSlot 0)
        [K.trailMargin, K.linePitch]
    | none => []) ++
  rangeIf (decide (65535 < t.reg K.noTrackLength + margins)) K.leadMargin K.noTrackLength [K.trailMargin]

/-- Valve types in use on the channels of a list. -/
def State.typesIn (t : State) (chans : List Nat) : List Nat := ((chans.filter t.chanEnabled).map t.chanType).eraseDups

/-- The channels of a valve-link port. -/
def portChans (p : Nat) : List Nat := (List.range 256).map fun i => 128 + 256 * p + i

/-- Valves and valve links (R275, R298). -/
def State.checkValves (t : State) : List Fail :=
  ((t.typesIn (List.range 1152)).flatMap fun v =>
    rangeIf (decide (t.reg (K.valveMaxOnTime v) < t.reg (K.valveMinOnTime v))) (K.valveMinOnTime v) (K.valveMaxOnTime v)) ++
  ((List.range 4).flatMap fun p =>
    rangeIf (decide (2 < (t.typesIn (portChans p)).length)) K.channelValveType) ++
  match t.rtPlan with
  | some p =>
    let apart := min (t.maskLm p * t.reg K.linePitch) (t.reg K.noTrackLength * 65536)
    rangeIf (decide (apart * 1000000 ≤ 65536 * t.reg K.maxBeltSpeed * 3)) K.maxBeltSpeed K.noTrackLength
      [K.linePitch, K.contextPlanSlot 0]
  | none => []

/-- Encoder channels (R301, R302). -/
def State.checkEncoders (t : State) : List Fail :=
  (List.range 2).flatMap fun c =>
    rangeIf (decide (16 * t.encT c < t.reg (K.encoderDataDelay c))) (K.encoderClockRate c) (K.encoderDataDelay c) ++
    rangeIf (decide (t.encBits c < 12)) (K.encoderWordLength c) (K.encoderStatusBits c)

/-- Knot ranges and routes (R334, R350). -/
def State.checkKnots (t : State) : List Fail :=
  let lo := fun c => t.reg (K.knotBase c)
  let n := fun c => t.reg (K.knotCount c)
  ((List.range 16).flatMap fun c =>
    rangeIf (decide (65536 < lo c + n c)) (K.knotBase c) (K.knotCount c) ++
    ((List.range 16).filter fun d => decide (c < d)).flatMap fun d =>
      rangeIf (!apart (lo c, n c) (lo d, n d)) (K.knotBase c) (K.knotBase d)) ++
  match t.groupPlan with
  | none => []
  | some (c, p) => ((List.range p.modules).filter fun m => m != p.member).flatMap fun m =>
      let r := t.reg (K.routeTable m)
      rangeIf (decide (r ≤ 3) && !t.flag (K.tetherPortEnable r)) (K.contextPlanSlot c) (K.routeTable m)

/-- IPv4 addresses (R391). -/
def State.checkNet (t : State) : List Fail :=
  let a := fun p => t.reg (K.ipv4Address p)
  rangeIf (a 0 == a 1 && a 0 != 0) (K.ipv4Address 0) (K.ipv4Address 1) ++
  (List.range 2).flatMap fun p =>
    let size := 2 ^ (32 - t.reg (K.ipv4Prefix p))
    let g := t.reg (K.ipv4Gateway p)
    rangeIf (g != 0 && g / size != a p / size) (K.ipv4Address p) (K.ipv4Gateway p)

/-- The banks that may count an event (R443). -/
def eventBanks (e : Nat) : List Nat :=
  if e = 0 then [0, 1, 2, 3]
  else if [0x0101, 0x0102, 0x0103, 0x0104, 0x0105, 0x0201, 0x0202, 0x0301, 0x0302, 0x0401, 0x0402, 0x0501, 0x0502,
      0x0601, 0x0602, 0x0603].contains e then [0, 1]
  else if [0x0701, 0x0702, 0x0703].contains e then [2, 3]
  else if [0x0801, 0x0802, 0x0901, 0x0A01].contains e then [2]
  else []

/-- Counters (R443, R444). -/
def State.checkCounters (t : State) : List Fail :=
  (List.range 32).flatMap fun n =>
    rangeIf (!(eventBanks (t.reg (K.counterEvent n))).contains (n / 8)) (K.counterEvent n) ++
    rangeIf (decide (t.reg (K.counterAddressHigh n) < t.reg (K.counterAddressLow n))) (K.counterAddressLow n)
      (K.counterAddressHigh n)

/-- Step 1 (R63). -/
def State.stepRanges (t : State) : List Fail :=
  t.checkBelt ++ t.checkIntake ++ t.checkPipelines ++ t.checkTiles ++ t.checkTracks ++ t.checkValves ++ t.checkEncoders ++
    t.checkKnots ++ t.checkNet ++ t.checkCounters

/-! ### Step 2: belt state -/

/-- Whether the belt stands for a change that needs it to (R31). -/
def State.beltStands (s : State) : Bool := s.belt.st == .stopped || s.belt.st == .lost || s.belt.st == .noSource

/-- Entries that change only while the belt stands (R31, R84, R103, R309). -/
def State.needsStop (s : State) (k : Nat) : Bool :=
  let i := k / 256
  let n := k % 256 - 1
  k == K.beltSource || k == K.beltDirectionInvert || k == K.beltStartPosition || k == K.linePitch ||
    k == K.lineOriginPosition || i == 0x0207 || (decide (0x1001 ≤ i) && decide (i ≤ 0x1009) && s.reg K.beltSource == n) ||
    (decide (0x0501 ≤ i) && decide (i ≤ 0x0504) && s.readStreams.contains n) || (decide (0x0601 ≤ i) && decide (i ≤ 0x0606)) ||
    i == 0x0607 || k == K.jpegHistoryFirst || k == K.jpegHistoryCount || k == K.jpegHistoryScale

/-- Keys of the entries that a commit changes, lowest first. -/
def State.changedKeys (s : State) : List Nat :=
  ((s.ctl.staged.filter fun p => p.2 != s.reg p.1).map (·.1) ++
    (s.ctl.stagedBlobs.filter fun p => p.2 != s.blob p.1).map (·.1)).mergeSort fun a b => decide (a ≤ b)

/-- Step 2 (R31, R84, R103, R233). -/
def State.stepBelt (s t : State) : List Fail :=
  if s.beltStands then []
  else
    ((s.changedKeys.filter s.needsStop).flatMap fun k => failIf true 2 Status.beltMoving k) ++
    match s.rtPlan, t.rtPlan with
    | some p, some q =>
      if s.freshCtxs.contains 0 then
        failIf (!s.regionsClear q p) 2 Status.beltMoving (K.contextPlanSlot 0) ++
        failIf (p.stripeLines != q.stripeLines || p.batch != q.batch) 2 Status.beltMoving (K.contextPlanSlot 0)
      else []
    | _, _ => []

/-! ### Step 3: the assembly (R39, R82, R99) -/

/-- Step 3. The pipeline level that pipelines 4 to 7 require is that of the parts with IO1. -/
def State.stepAssembly (t : State) : List Fail :=
  ((List.range 16).flatMap fun i =>
    (((t.streamLinkList i).filter fun l => decide (t.mfg.part.links ≤ l)).flatMap fun l =>
      failIf true 3 Status.assemblyMismatch (K.streamLinks i) 0 l) ++
    failIf (decide (4 ≤ t.reg (K.streamPipeline i)) && t.reg (K.streamPipeline i) != 0xFF && t.mfg.part.ioDies == 1) 3
      Status.assemblyMismatch (K.streamPipeline i) 0 2) ++
  (List.range 16).flatMap fun c => match (t.ctx c).plan with
    | some p =>
      let d := (t.memHead p).2.1
      failIf (d != t.mfg.part.memDies) 3 Status.assemblyMismatch (K.contextPlanSlot c) 0 (8 * d)
    | none => []

/-! ### Step 4: ownership (R65, R66, R306) -/

/-- Claims on a resource: function codes and the entries that make them. -/
def State.claims (t : State) (cls n : Nat) : List (Nat × Nat) :=
  let claim := fun (b : Bool) (fn k : Nat) => if b then [(fn, k)] else []
  let src := t.reg K.beltSource
  match cls with
  | 1 =>
    claim (t.reg (K.inputMode n) != 0) 0x01 (K.inputMode n) ++
    (if n < 8 then
      let m := t.reg (K.fastCounterMode (n / 2))
      claim (m != 0 && (n % 2 == 0 || decide (2 ≤ m))) 0x02 (K.fastCounterMode (n / 2))
     else []) ++
    claim (src == 2 && decide (n < 2)) 0x03 K.beltSource
  | 2 =>
    claim (t.chanEnabled n) 0x04 K.channelValveType ++ claim (t.flag (K.generalOutputEnable n)) 0x05 (K.generalOutputEnable n) ++
    claim (t.reg K.aliveDirectOutput == n) 0x06 K.aliveDirectOutput
  | 3 => claim (src == n) 0x03 K.beltSource ++ claim (t.flag (K.auxEnable n)) 0x07 (K.auxEnable n)
  | 4 =>
    ((List.range 16).flatMap fun i => claim ((t.streamLinkList i).contains n) 0x08 (K.streamLinks i)) ++
    claim (decide (n < t.mfg.part.links) && t.reg (K.linkTest n) != 0) 0x09 (K.linkTest n)
  | 5 =>
    (t.pipedStreams.flatMap fun i =>
      let f := t.reg (K.streamBufferFirst i)
      claim (f != 0xFF && decide (f ≤ n) && decide (n < f + t.buffersOf i)) 0x0A (K.streamBufferFirst i)) ++
    (let f := t.reg K.jpegHistoryFirst
     claim (decide (f ≤ n) && decide (n < f + t.reg K.jpegHistoryCount)) 0x0B K.jpegHistoryFirst)
  | 6 => claim (t.vlOwned n) 0x04 K.channelValveType ++ claim (t.reg (K.valveLinkTest n) != 0) 0x0C (K.valveLinkTest n)
  | 7 => claim (t.flag (K.tetherPortEnable n)) 0x0D (K.tetherPortEnable n) ++
      claim (t.reg (K.tetherTest n) != 0) 0x0E (K.tetherTest n)
  | _ => []

/-- Step 4: the first claim on each resource against every further one. -/
def State.stepOwners (t : State) : List Fail :=
  [(1, 32), (2, 128), (3, 2), (4, 24), (5, 64), (6, 4), (7, 4)].flatMap fun (cls, count) =>
    (List.range count).flatMap fun n =>
      match t.claims cls n with
      | (fa, ka) :: rest => rest.map fun (fb, kb) =>
          { step := 4, status := Status.resourceConflict, cls, num := n, fa, ka, fb, kb }
      | [] => []

/-! ### Step 5: plan images and capacities (R102, R224, R236, R334) -/

/-- The second entry of a plan's failure. -/
def planFailKey (st : Nat) : Nat :=
  if st = Status.deadline then K.maxBeltSpeed else if st = Status.crossingMode then K.crossingMode
  else if st = Status.detkeyMismatch then K.detKey else 0

/-- The entries beside a plan's slot on which a failure of it may rest: those of the rates, budgets and latencies of
context 0 (R225, R226, R240, R260, R261). -/
def planFailAlso (c : Nat) : List Nat :=
  if c = 0 then
    [K.maxBeltSpeed, K.linePitch, K.dieTransportNs, K.crossingMode, K.detKey, K.ejectorDistance, K.leadMargin, K.trailMargin,
      K.workListMaxWait, K.directRecordLimit, K.armLead, K.stripeWidth, K.stripeFold, K.stripeBlock] ++
    ((List.range 16).flatMap fun i => [K.streamPipeline i, K.lateLines i, K.meshTable i, K.streamViewOffset i, K.streamWidth i,
      K.streamPixelFormat i, K.noiseReductionEnable i, K.tileColumns i])
  else [K.crossingMode, K.detKey]

/-- The failures of the plans that would be in force; DieCount is step 3's. -/
def State.checkPlans (s t : State) : List Fail :=
  let fresh := s.freshCtxs
  (List.range 16).flatMap fun c =>
    let slot := t.reg (K.contextPlanSlot c)
    if slot = 0xFF then []
    else
      let placed := (fresh.filter fun d => decide (d < c)).foldl (fun t d => t.giveScratch d) t
      ((placed.planFailures c slot (fresh.contains c)).filter fun st => st != Status.assemblyMismatch).flatMap fun st =>
        failIf true 5 st (K.contextPlanSlot c) (planFailKey st) 0 (planFailAlso c)

/-- Changes of a context that its state does not admit (R236, R334, R412). -/
def State.checkCtxs (s : State) : List Fail :=
  (List.range 16).flatMap fun c =>
    let x := s.ctx c
    let plan := s.freshCtxs.contains c
    let range := s.changedKeys.filter fun k => k == K.knotBase c || k == K.knotCount c
    failIf (plan && x.st == .gloved) 5 Status.contextGloved (K.contextPlanSlot c) ++
    failIf (plan && c != 0 && (x.st == .ready || x.st == .running)) 5 Status.contextState (K.contextPlanSlot c) ++
    if x.st = .empty then [] else range.flatMap fun k =>
      failIf true 5 (if x.st = .gloved then Status.contextGloved else Status.contextState) k

/-- Buffer ranges that run past their bank (R102). -/
def State.checkBuffers (t : State) : List Fail :=
  (t.pipedStreams.flatMap fun i =>
    let f := t.reg (K.streamBufferFirst i)
    failIf (f != 0xFF && decide (32 * (f / 32) + 32 < f + t.buffersOf i)) 5 Status.capacity (K.streamBufferFirst i)) ++
  failIf (t.reg K.jpegHistoryCount != 0 && decide (t.reg K.jpegHistoryFirst ≤ 31) &&
    decide (32 < t.reg K.jpegHistoryFirst + t.reg K.jpegHistoryCount)) 5 Status.capacity K.jpegHistoryFirst
    K.jpegHistoryCount

/-! ### Step 6: budgets (R42, R94) -/

/-- Step 6. -/
def State.stepBudgets (t : State) : List Fail :=
  let on := t.poweredLinks
  failIf t.powerOver 6 Status.powerBudget (K.contextPlanSlot 0) K.maxBeltSpeed 0
    (K.linePitch :: (List.range 16).map K.contextPlanSlot) ++
  failIf (decide (96000 < (on.map fun l => t.reg (K.cameraPowerLimit l)).sum)) 6 Status.cameraPower
    ((on.map K.cameraPowerEnable).headD 0) 0 0 (on.flatMap fun l => [K.cameraPowerEnable l, K.cameraPowerLimit l])

/-- Every failure of a commit, in check order (R63). -/
def State.commitFailures (s : State) : List Fail :=
  let t := s.after (s.rtPlan.isSome && s.freshCtxs.contains 0 && (s.outgoing || s.commitWaits))
  let placed := s.freshCtxs.foldl (fun t c => t.giveScratch c) t
  (t.stepRanges ++ s.stepBelt t ++ t.stepAssembly ++ t.stepOwners ++ s.checkPlans t ++ s.checkCtxs ++ t.checkBuffers ++
    placed.stepBudgets).map fun f => f.order s

end Sys2Proof.Machine
end

