-- ==== Sys2Proof/Machine/Faults.lean ====
section
/-! DEFINITION. Hang detection, the end of a teardown, ContextReset, whole-device recovery and the fault logs (R409 to
R425). -/

namespace Sys2Proof.Machine

/-! ### Hang detection (R409 to R411) -/

/-- What a fault charged to a context names of the work on a die: the step of a background context, else the slot. -/
def State.workDetail (s : State) (die c : Nat) : Nat :=
  let n := match (s.ctx c).run with
    | some r => r.step
    | none => match s.engine.period with
      | some per => SMap.get 0 per.slot die - 1
      | none => 0
  die + 65536 * n

/-- FREEZE_LIMIT (R409): a die has been frozen for HangFreezeLimit consecutive cycles. -/
def State.freezeLimit (s : State) (die cyc : Nat) : State :=
  match SMap.get 0 s.engine.frozen die with
  | 0 => s
  | f + 1 =>
    let c := SMap.get 0 s.engine.frozenCtx die
    if cyc < f + s.reg K.hangFreezeLimit then s
    else s.raiseCtx FCode.freezeLimit .context Unit.fault c (s.workDetail die c)

/-- FREEZE_LIMIT (R409). -/
def execFreezeLimit (die cyc : Nat) (s : State) : Host.Outcome State Fault Refusal :=
  guardUnit (decide (die < 2)) die (s.freezeLimit die cyc)

/-- The cycle up to which a die has run: frozen cycles do not count (R136, R410). -/
def State.ranTo (s : State) (die cyc : Nat) : Nat :=
  match SMap.get 0 s.engine.frozen die with
  | 0 => cyc
  | f + 1 => min cyc f

/-- The context whose slot of the running period misses its checkpoint on a die (R410): a slot has run its Length plus
CheckpointMargin. -/
def State.lateSlot (s : State) (die cyc : Nat) : Option Nat :=
  match s.rtPlan, s.engine.period, s.runPlan 0 with
  | some _, some per, some p =>
    match SMap.get 0 per.slot die with
    | 0 => none
    | n + 1 =>
      let x := p.slots.getD n {}
      if per.start + per.frozenOn die + x.start + x.len + s.reg K.checkpointMargin ≤ s.ranTo die cyc then
        some (SMap.get 0 s.engine.openTo die - 1)
      else none
  | _, _, _ => none

/-- The background context whose step misses its end on a die (R410). -/
def State.lateStep (s : State) (die cyc : Nat) : Option Nat :=
  (List.range 16).find? fun c => match (s.ctx c).run, (s.ctx c).plan with
    | some r, some p => r.die == die && decide (r.start + p.stepCycles r.step + s.reg K.checkpointMargin ≤ s.ranTo die cyc)
    | _, _ => false

/-- CHECKPOINT_LATE (R410). -/
def State.checkpointLate (s : State) (die cyc : Nat) : State :=
  match (s.lateStep die cyc).or (s.lateSlot die cyc) with
  | none => s
  | some c => s.raiseCtx FCode.checkpointLate .context Unit.fault c (s.workDetail die c)

/-- CHECKPOINT_LATE (R410). -/
def execCheckpointLate (die cyc : Nat) (s : State) : Host.Outcome State Fault Refusal :=
  guardUnit (decide (die < 2)) die (s.checkpointLate die cyc)

/-- A fault of scope DEVICE (R408, R431): before readiness there is nothing to recover, and the start-up begins again
(R466). -/
def State.deviceFault (s : State) (code : Nat) (detail : Nat := 0) : State :=
  if s.supplies.inReset || s.boot.halted then s
  else
    let s := s.faultWake
    if s.boot.ready then s.raiseDevice code Unit.fault detail
    else (s.noteFault code .device Unit.fault 0xFF detail).2.enterReset code

/-- CONTROL_STALL (R411). -/
def execControlStall (s : State) : Host.Outcome State Fault Refusal := .next (s.deviceFault FCode.controlStall)

/-- HELPER_HALTED (R411). -/
def execHelperHalted (helper : Nat) (s : State) : Host.Outcome State Fault Refusal :=
  guardUnit (decide (1 ≤ helper) && decide (helper ≤ 4)) helper (s.deviceFault FCode.helperHalted helper)

/-- A fault of scope RESET that the fault unit declares (R408, R411, R431). Only a power cycle leaves HALTED (R458). -/
def State.resetFault (s : State) (code : Nat) : State :=
  if s.supplies.inReset || s.boot.halted then s else s.faultWake.raiseReset code Unit.fault

/-- TIME_UNIT_HALTED (R411). -/
def execTimeUnitHalted (s : State) : Host.Outcome State Fault Refusal := .next (s.resetFault FCode.timeUnitHalted)

/-- EJECTION_UNIT_HALTED (R411). -/
def execEjectionUnitHalted (s : State) : Host.Outcome State Fault Refusal := .next (s.resetFault FCode.ejectionUnitHalted)

/-- DIE_TRANSPORT (R407): path 4 needs the second IO die. -/
def execDieTransport (path : Nat) (s : State) : Host.Outcome State Fault Refusal :=
  guardUnit (decide (1 ≤ path) && (decide (path ≤ 3) || (path == 4 && s.mfg.part.ioDies == 2))) path
    (s.deviceFault FCode.dieTransport path)

/-! ### The end of a teardown (R412, R414, R415) -/

/-- A context leaves GLOVED or STOPPED to resume (R414, R345): context 0 with the first stripe that begins from now on,
and until its first period each die is one unbounded OPEN slot. -/
def State.resumeCtx (s : State) (c : Nat) : State :=
  let s := (s.setCtx c { s.ctx c with st := if (s.ctx c).plan.isSome then .idle else .empty }).restartKnots c
  let s := if c = 0 then
      { s with engine := { s.engine with unbound := true }, belt := { s.belt with streamStart := true } }
    else s
  s.trackReady

/-- A group that lost a member forms again after the reset of its context (R355). -/
def State.reformGroup (s : State) (c : Nat) : State :=
  match s.groupPlan with
  | some (g, _) => if g = c ∧ s.knots.group.st = .degraded then s.startForm else s
  | none => s

/-- What ContextReset of a context reads once its teardown, or the recovery that took it over, is done: OK, or where the
context is left STOPPED the status of the check that fails (R413, R422). -/
def State.resetStatus (s : State) (c : Nat) : Nat :=
  if (s.ctx c).st = .stopped then ((s.ctx c).plan.bind fun p => s.recheckPlan c p).getD Status.contextState else Status.ok

/-- The row of 500 µs of a teardown (R412): the context leaves GLOVED. -/
def State.teardownEnd (s : State) (c : Nat) : State :=
  match SMap.find? s.faults.torn c with
  | none => s
  | some t0 =>
    if s.tick < t0.start + 125000 then s
    else
      let s := s.finishTeardownWork c
      let t := (SMap.find? s.faults.torn c).getD t0
      let s := { s with faults := { s.faults with torn := SMap.erase s.faults.torn c } }
      let s := s.bump (K.contextFaults c)
      let s := if t.stop then (s.setCtx c { s.ctx c with st := .stopped }).trackReady
               else (s.bump (K.contextRestarts c)).resumeCtx c
      let s := if t.cmd then s.cmdSet K.contextReset (s.resetStatus c) else s
      if t.stop then s else s.reformGroup c

/-- TEARDOWN_END (R412). -/
def execTeardownEnd (ctx : Nat) (s : State) : Host.Outcome State Fault Refusal :=
  guardUnit (decide (ctx < 16)) ctx (s.teardownEnd ctx)

/-! ### ContextReset (R413) -/

/-- The group stop that the reset of a group context sends first (R356, R413). -/
def State.tellGroup (s : State) (c : Nat) : State :=
  match s.groupPlan with
  | some (g, _) =>
    if g = c then s.others.foldl (fun (s : State) d => s.send (.groupMsg d none)) s else s
  | none => s

/-- ContextReset (R413, R422, R431). -/
def State.contextResetCmd (s : State) (c : Nat) : Nat × State :=
  if 15 < c then (Status.valueRange, s)
  else if 2 ≤ s.power.st.code then (Status.powerState, s)
  else match (s.ctx c).st with
    | .empty => (Status.noContext, s)
    | .gloved =>
      match SMap.find? s.faults.torn c with
      | some t =>
        if t.start = s.tick ∧ t.cmd = false then
          let (st, s) := s.cmdBegin K.contextReset
          (st, { s with faults := { s.faults with torn := SMap.put (SMap.erase s.faults.torn c) c { t with cmd := true } } })
        else (Status.contextGloved, s)
      | none => (Status.contextGloved, s)
    | .stopped =>
      match (s.ctx c).plan.bind fun p => s.recheckPlan c p with
      | some st => (Status.ok, s.cmdSet K.contextReset st)
      | none => ((s.resumeCtx c).reformGroup c).cmdOk K.contextReset
    | _ =>
      let (st, s) := s.cmdBegin K.contextReset
      let s := s.tellGroup c
      let (r, s) := s.noteFault FCode.contextReset .context Unit.fault c
      let dummy : Rec := s.faultRec FCode.contextReset .context Unit.fault c s.pos 0 0
      (st, s.startTeardown c { start := s.tick, code := FCode.contextReset, stop := false, counted := false, cmd := true
                               fault := r.getD dummy, suppress := r.isNone })

/-- CONTEXT_RESET (R413). -/
def execContextReset (sess ctx : Nat) (s : State) : Host.Outcome State Fault Refusal :=
  .next (s.runCmd sess K.contextReset fun s => s.contextResetCmd ctx)

/-! ### Whole-device recovery (R419 to R421) -/

/-- DeviceRecover (R419, R431). -/
def State.deviceRecoverCmd (s : State) : Nat × State :=
  if 2 ≤ s.power.st.code then (Status.powerState, s)
  else
    let (st, s) := s.cmdBegin K.deviceRecover
    (st, s.deviceFault FCode.recoveryCommanded)

/-- DEVICE_RECOVER (R419). -/
def execDeviceRecover (sess : Nat) (s : State) : Host.Outcome State Fault Refusal :=
  .next (s.runCmd sess K.deviceRecover fun s => s.deviceRecoverCmd)

/-- Phase 4 (R419): the compute dies are reset and their SRAM cleared, the memory links and the tethers train again, the
pipelines are reset; what crosses from CD0 to the time unit is discarded (R36). Memory contents and scratch stay (R420). -/
def State.resetDies (s : State) : State :=
  let s := { s with
    engine := { s.engine with act := [], reel := [], lineBuf := [], scales := [], halo := [], parity := [], partSat := []
                              units := [], lastMac := [], lanes := [], frozen := [], frozenCtx := [], starving := [],
                              openTo := [], openEnd := [], lastEnd := 0, active := [] }
    tracks := { s.tracks with crossing := [], originMsg := [] }
    memory := { s.memory with poison := [], links := [], newGrid := true }
    perf := { s.perf with tags := [] } }
  let s := s.presetBanks.resetPipes
  { s with knots := { s.knots with ports := s.knots.ports.map fun (p : Nat × TPort) =>
      (p.1, if p.2.st = .up then { st := .training, since := s.tick } else p.2) } }

/-- Phase 5 for one context (R419): a plan that fails a check leaves its context STOPPED; another restarts (R415). -/
def State.reapply (s : State) (c : Nat) : State :=
  match (s.ctx c).plan with
  | none => s
  | some p =>
    let bad := s.planFailures c p.slot false != []
    let s := (s.setCtx c { s.ctx c with st := if bad then .stopped else .idle }).bindPlan c p
    let s := if bad then s else s.bump (K.contextRestarts c)
    if c = 0 then
      { s with engine := { s.engine with unbound := true }, belt := { s.belt with streamStart := true } }
    else s

/-- DeviceRecover that waited for the recovery reads OK. -/
def State.endRecover (s : State) : State :=
  if s.cmdRead K.deviceRecover = Status.inProgress then s.cmdSet K.deviceRecover Status.ok else s

/-- Phase 6 (R419): the records kept, then the RECOVERY record. -/
def State.recoveryRecs (s : State) (recs : List Rec) (cause ms : Nat) : State :=
  let s := s.emitAll recs
  s.emit (s.recAt RType.recovery Unit.fault (cause + 65536 * ms + 2 ^ 48 * min 255 s.recentRecoveries))

/-- Phases 3 to 6 (R419): the recovery ends. -/
def State.recoveryResume (s : State) : State :=
  match s.faults.recovery with
  | none => s
  | some v =>
    let s := (s.writeSample 0).writeSample 1
    let s := s.loadBlobs.resetDies.noteTraining 135
    let s := (List.range 16).foldl (fun s c => s.reapply c) s
    let recs := match s.faults.recovery with
      | some w => w.records
      | none => v.records
    let ms := min (2 ^ 32 - 1) ((s.tick - v.start) * 4 / 1000000)
    let s := { s with
      host := { s.host with fetching := true }
      faults := { s.faults with recovery := none, stalled := false }
      ctl := { s.ctl with serving := true } }
    let s := (s.setReg K.bootState 1).setReg K.lastRecoveryTime ms
    let s := s.recoveryRecs recs v.cause ms
    let s := match v.reset with
      | some c => s.cmdSet K.contextReset (s.resetStatus c)
      | none => s
    s.endRecover.trackReady

/-- RECOVERY_RESUME (R419). -/
def execRecoveryResume (s : State) : Host.Outcome State Fault Refusal := .next s.recoveryResume

/-! ### The fault logs (R425, R474) -/

/-- FAULT_LOG_CLEAR (R425). -/
def execFaultLogClear (sess : Nat) (s : State) : Host.Outcome State Fault Refusal :=
  .next (s.runCmd sess K.faultLogClear fun s =>
    (({ s with faults := { s.faults with log := [] } } : State).logEmptied 1).cmdOk K.faultLogClear)

/-- FAULT_LOG_NV_CLEAR (R425). -/
def execFaultLogNvClear (sess : Nat) (s : State) : Host.Outcome State Fault Refusal :=
  .next (s.runCmd sess K.faultLogNvClear fun s =>
    (({ s with faults := { s.faults with nv := [] } } : State).logEmptied 2).cmdOk K.faultLogNvClear)

end Sys2Proof.Machine
end

