-- ==== Sys2Proof/Machine/ValveLinks.lean ====
section
/-! DEFINITION. The commands of the valve-link ports (R288 to R300). In `Output.valveFrame` the type 0 with no payload
stands for the ECHO character. -/

namespace Sys2Proof.Machine

/-! ### PRBS-31 (R291, R300; R359 for the tethers) -/

/-- One bit of the sequence of x^31 + x^28 + 1 (log entry 24): the bit and the register after it. -/
def prbsBit (r : Nat) : Nat × Nat :=
  let b := (r / 2 ^ 30 + r / 2 ^ 27) % 2
  (b, (2 * r + b) % 2 ^ 31)

/-- Eight bits, the first one least significant. -/
def prbsByte : Nat → Nat → Nat × Nat
  | 0, r => (0, r)
  | n + 1, r =>
    let (b, r) := prbsBit r
    let (v, r) := prbsByte n r
    (b + 2 * v, r)

/-- `n` bytes of the sequence, and the register after them. -/
def prbsBytes : Nat → Nat → List Byte × Nat
  | 0, r => ([], r)
  | n + 1, r =>
    let (v, r) := prbsByte 8 r
    let (l, r) := prbsBytes n r
    (BitVec.ofNat 8 v :: l, r)

/-- Bits in which two byte lists differ. -/
def bitDiff (a b : List Byte) : Nat :=
  ((List.range (max a.length b.length)).map fun i =>
    ((List.range 8).filter fun k => (a.getD i 0).getLsbD k != (b.getD i 0).getLsbD k).length).sum

/-! ### Receiving frames (R290) -/

/-- A frame is discarded and counted (R290, 0x0F18, 0x0F19). -/
def State.vlDiscard (s : State) (p : Nat) (f : VlFrame) : State :=
  (s.bump (K.valveLinkCodeErrors p) f.codeErrors).bump (K.valveLinkCrcErrors p)

/-- Takes a frame of a type and a payload length, or discards it (R290); in reset nothing is received. -/
def State.vlTake (s : State) (p : Nat) (f : VlFrame) (typ : Nat) (len : Nat → Bool) (body : State → State) : State :=
  if s.supplies.inReset then s
  else if f.codeErrors != 0 || !f.crcOk || f.badLength || f.typ != typ || !len f.payload.length then s.vlDiscard p f
  else body s

/-- VALVE_LINK_FRAME_DISCARDED (R290). -/
def execValveLinkFrameDiscarded (port : Nat) (f : VlFrame) (s : State) : Host.Outcome State Fault Refusal :=
  guardUnit (decide (port < 4)) port (if s.supplies.inReset then s else s.vlDiscard port f)

/-! ### Bring-up (R288, R296) -/

/-- A port gains lock: bring-up goes on with IDENT, while the IO dies are on (R288, R427). -/
def State.vlGained (s : State) (p : Nat) : State :=
  let x := s.vl p
  if s.timeRuns = false then s
  else if x.st = .down ∨ x.st = .lost then s.setVl p { x with lock := true, st := .ident, since := s.tick }
  else s.setVl p { x with lock := true }

/-- VALVE_LINK_LOCK_GAINED (R288). -/
def execValveLinkLockGained (port : Nat) (s : State) : Host.Outcome State Fault Refusal :=
  guardUnit (decide (port < 4)) port (s.vlGained port)

/-- Whether a port is in bring-up or working, so that a loss takes it to LOST (R296, R297). -/
def VlSt.live : VlSt → Bool
  | .ident | .measuring | .ready | .arming | .active => true
  | _ => false

def State.vlLockLost (s : State) (p : Nat) : State :=
  let x := s.vl p
  let s := s.setVl p { x with lock := false }
  if x.st.live then s.vlLose p else s

/-- VALVE_LINK_LOCK_LOST (R297). -/
def execValveLinkLockLost (port : Nat) (s : State) : Host.Outcome State Fault Refusal :=
  guardUnit (decide (port < 4)) port (s.vlLockLost port)

/-- Sends an ECHO character (R289, R296). -/
def State.vlEcho (s : State) (p : Nat) : State :=
  let s := s.setVl p { s.vl p with echoSent := some s.tick, rtt := none }
  if s.vlSends p then s.send (.valveFrame p 0 []) else s

/-- The valves of a port's enabled channels (R296). -/
def State.vlValves (s : State) (p : Nat) : List Nat := (List.range 256).filter fun i => s.chanEnabled (128 + 256 * p + i)

/-- The check of R296 that an IDENT fails, in the order of the text. -/
def State.identFail (s : State) (p : Nat) (d : List Byte) : Option Nat :=
  if leAt d 4 1 ≠ 1 then some 1
  else if 300 < leAt d 8 2 then some 2
  else if leAt d 10 2 < s.reg (K.armRequired p) then some 4
  else if (s.vlValves p).any fun v => decide (leAt d 6 2 ≤ v) then some 5
  else none

/-- An IDENT frame in IDENT, or in LOST with the lock kept, where the port returns through IDENT (R296, R297). In a later
state it tells of a keep-alive loss, which discarded every tag: the control sequence starts at 0x00 again and the edges
within ArmLead are armed anew (R293, R294; log entry 106). -/
def State.vlIdent (s : State) (p : Nat) (d : List Byte) : State :=
  let x := s.vl p
  let s := (s.setVl p { x with ident := d, latency := leAt d 8 2, valves := leAt d 6 2, capacity := leAt d 10 2 }).setBlob
    (K.driverIdent p) d
  if x.st = .ident ∨ (x.st = .lost ∧ x.lock = true) then
    match s.identFail p d with
    | some c => s.vlFail p c
    | none =>
      (s.setVl p { s.vl p with st := .measuring, since := s.tick, lastStatus := s.tick, echoes := [], ctlSeq := 0
                               ackSeq := none, unacked := [], tags := [] }).vlEcho p
  else if x.st.live then
    (s.setVl p { s.vl p with ctlSeq := 0, ackSeq := none, unacked := [], tags := [] }).armPass p
  else s

/-- VALVE_LINK_IDENT (R296). -/
def execValveLinkIdent (port : Nat) (f : VlFrame) (s : State) : Host.Outcome State Fault Refusal :=
  guardUnit (decide (port < 4)) port (s.vlTake port f 0x81 (· == 16) fun s => s.vlIdent port f.payload)

def State.vlIdentTimeout (s : State) (p : Nat) : State :=
  let x := s.vl p
  if x.st = .ident ∧ x.since + 2500000 ≤ s.tick then s.vlFail p 6 else s

/-- IDENT_TIMEOUT (R296). -/
def execIdentTimeout (port : Nat) (s : State) : Host.Outcome State Fault Refusal :=
  guardUnit (decide (port < 4)) port (s.vlIdentTimeout port)

def State.vlRetry (s : State) (p : Nat) : State :=
  let x := s.vl p
  if x.st = .failed ∧ x.since + 250000000 ≤ s.tick then
    s.setVl p { x with st := if x.lock then .ident else .down, since := s.tick }
  else s

/-- VALVE_LINK_BRINGUP_RETRY (R296). -/
def execValveLinkBringupRetry (port : Nat) (s : State) : Host.Outcome State Fault Refusal :=
  guardUnit (decide (port < 4)) port (s.vlRetry port)

/-! ### The cable delay (R296) -/

/-- An ECHO returns: its round trip waits for the driver's EchoTurnaround. -/
def State.vlEchoBack (s : State) (p : Nat) : State :=
  let x := s.vl p
  match x.echoSent with
  | some t => s.setVl p { x with echoSent := none, rtt := some (4 * (s.tick - t)) }
  | none => s

/-- VALVE_LINK_ECHO (R296). -/
def execValveLinkEcho (port : Nat) (s : State) : Host.Outcome State Fault Refusal :=
  guardUnit (decide (port < 4)) port (s.vlEchoBack port)

/-- Eight exchanges are complete: CableDelay, or FAILED above 550 ns. MEASURING ends in READY, or in ARMING where the
ejection unit owns the port. -/
def State.vlMeasured (s : State) (p : Nat) : State :=
  let x := s.vl p
  let d := x.echoes.foldl max 0
  let s := s.setVl p { x with echoes := [], cableDelay := d, lastMeasure := s.tick }
  if 550 < d then s.vlFail p 3
  else
    let s := s.setReg (K.cableDelay p) d
    if x.st = .measuring then
      if s.vlOwned p then (s.setVl p { s.vl p with st := .arming, since := s.tick }).armPass p
      else s.setVl p { s.vl p with st := .ready, since := s.tick }
    else s

/-- A STATUS ends an exchange with its EchoTurnaround (R291, R296). -/
def State.vlTurnaround (s : State) (p turn : Nat) : State :=
  let x := s.vl p
  match x.rtt with
  | some r =>
    if turn = 0xFFFF then s
    else
      let s := s.setVl p { x with rtt := none, echoes := x.echoes ++ [(r - turn) / 2] }
      if (s.vl p).echoes.length < 8 then s.vlEcho p else s.vlMeasured p
  | none => s

def State.vlRemeasure (s : State) (p : Nat) : State :=
  let x := s.vl p
  if x.st = .active ∧ x.lastMeasure + 25000000 ≤ s.tick ∧ x.echoSent.isNone ∧ x.rtt.isNone then
    (s.setVl p { x with echoes := [], lastMeasure := s.tick }).vlEcho p
  else s

/-- CABLE_DELAY_REMEASURE (R296). -/
def execCableDelayRemeasure (port : Nat) (s : State) : Host.Outcome State Fault Refusal :=
  guardUnit (decide (port < 4)) port (s.vlRemeasure port)

/-! ### STATUS, keep-alives and control frames (R291, R294, R296) -/

/-- Control frames that an AckSeq does not yet cover: it is the last control sequence accepted. -/
def ackFrames (ack : Nat) (l : List CtlFrame) : List CtlFrame :=
  if l.any fun f => f.seq == ack then ((l.dropWhile fun f => f.seq != ack).drop 1) else l

def State.vlStatus (s : State) (p : Nat) (d : List Byte) : State :=
  let x := s.vl p
  let s := s.setVl p { x with lastStatus := s.tick, ackSeq := some (leAt d 1 1), unacked := ackFrames (leAt d 1 1) x.unacked }
  let s := if bitOf (leAt d 2 1) 2 then s.bump (K.unknownTagReports p) else s
  let s := s.vlTurnaround p (leAt d 6 2)
  let x := s.vl p
  if x.st = .arming ∧ x.unacked = [] then s.setVl p { x with st := .active, since := s.tick, lastMeasure := s.tick } else s

/-- VALVE_LINK_STATUS (R291). -/
def execValveLinkStatus (port : Nat) (f : VlFrame) (s : State) : Host.Outcome State Fault Refusal :=
  guardUnit (decide (port < 4)) port (s.vlTake port f 0x82 (· == 8) fun s => s.vlStatus port f.payload)

/-- No valid STATUS for 1 ms (R296). A port in IDENT waits for IDENT under its own limit. -/
def State.vlStatusTimeout (s : State) (p : Nat) : State :=
  let x := s.vl p
  if x.st.live = true ∧ x.st ≠ .ident ∧ x.lastStatus + 250000 ≤ s.tick then s.vlLose p else s

/-- STATUS_TIMEOUT (R296). -/
def execStatusTimeout (port : Nat) (s : State) : Host.Outcome State Fault Refusal :=
  guardUnit (decide (port < 4)) port (s.vlStatusTimeout port)

/-- Whether KEEPALIVE carries OUTPUTS_ENABLE: the port reads ACTIVE, and the device is in RUN or READY (R296, R427). -/
def State.outputsEnable (s : State) (p : Nat) : Bool :=
  (s.vl p).st == .active && s.outputsLive

/-- KEEPALIVE every KeepAlivePeriod (R291); strobed tags whose stamps can no longer come are forgotten (R291, R293). -/
def State.vlKeepalive (s : State) (p : Nat) : State :=
  let x := s.vl p
  let k := s.reg K.keepAlivePeriod
  if x.kaSent + k * 250 ≤ s.tick ∧ s.timeRuns = true then
    let s := s.setVl p { x with
      kaSeq := (x.kaSeq + 1) % 256, kaSent := s.tick
      tags := x.tags.filter fun t => match t.strobed with
        | some n => decide (s.localTime < n + 300000)
        | none => true }
    s.vlFrame p 0x01 x.kaSeq (leBytes 1 (bitNat (s.outputsEnable p)) ++ leBytes 1 0 ++ leBytes 2 k)
  else s

/-- VALVE_LINK_KEEPALIVE (R291). -/
def execValveLinkKeepalive (port : Nat) (s : State) : Host.Outcome State Fault Refusal :=
  guardUnit (decide (port < 4)) port (s.vlKeepalive port)

/-- AckSeq has not reached a control frame 200 µs after it was sent: it and every later one go out again (R294). -/
def State.vlResend (s : State) (p : Nat) : State :=
  let x := s.vl p
  let late := x.unacked.dropWhile fun f => decide (s.tick < f.sent + 50000)
  if late = [] then s
  else
    let s := (s.setVl p { x with unacked := (x.unacked.takeWhile fun f => decide (s.tick < f.sent + 50000)) ++
                            late.map fun f => { f with sent := s.tick } }).bump (K.armRetransmissions p)
    late.foldl (fun s f => s.vlFrame p f.typ f.seq f.payload) s

/-- CONTROL_FRAME_RETRANSMIT (R294). -/
def execControlFrameRetransmit (port : Nat) (s : State) : Host.Outcome State Fault Refusal :=
  guardUnit (decide (port < 4)) port (s.vlResend port)

/-! ### Strobes, stamps and driver faults (R289, R291, R292, R299) -/

/-- The strobe that goes next: the lowest priority number, then the earliest (R289). -/
def nextStrobe : List StrobeReq → Option StrobeReq
  | [] => none
  | q :: r => match nextStrobe r with
    | some b => if b.prio < q.prio then some b else some q
    | none => some q

/-- The delay of a strobe that leaves at `ts` for a compare at `tc`, both in ns (R292); it is never below 0. -/
def State.strobeDelay (s : State) (p ts tc : Nat) : Nat :=
  let x := s.vl p
  let d : Int := 4000 - ((ts : Int) - tc) - x.cableDelay - x.latency
  ((d.toNat + 2) / 4) * 4

/-- A strobe leaves: the tick is the departure of its last bit. ALL_OFF goes with Delay 0 (R295). -/
def State.vlStrobeOut (s : State) (p : Nat) : State :=
  let x := s.vl p
  match nextStrobe x.strobes with
  | none => s
  | some q =>
    let ts := s.localTime
    let x := { x with
      strobes := x.strobes.erase q
      tags := x.tags.map fun t => if t.tag = q.tag ∧ t.strobed.isNone then { t with strobed := some ts } else t }
    let s := s.setVl p x
    if s.vlSends p then
      (s.bump (K.strobesSent p)).send (.strobe p q.tag (if q.tag = 0x3FFF then 0 else s.strobeDelay p ts (4 * q.tc)))
    else s

/-- STROBE (R292). -/
def execStrobe (port : Nat) (s : State) : Host.Outcome State Fault Refusal :=
  guardUnit (decide (port < 4)) port (s.vlStrobeOut port)

/-- The stamp of each entry is t_s + CableDelay + Measured (R299). -/
def State.vlStamps (s : State) (p : Nat) (d : List Byte) : State :=
  (List.range (d.length / 6)).foldl (fun s i =>
    let x := s.vl p
    match x.tags.find? fun t => t.tag == leAt d (6 * i) 2 && t.strobed.isSome with
    | some t => s.stampEdge (128 + 256 * p + leAt d (6 * i + 2) 1) (leAt d (6 * i + 3) 1 == 1)
        (t.strobed.getD 0 + x.cableDelay + leAt d (6 * i + 4) 2)
    | none => s) s

/-- EDGE_STAMP (R299). -/
def execEdgeStamp (port : Nat) (f : VlFrame) (s : State) : Host.Outcome State Fault Refusal :=
  guardUnit (decide (port < 4)) port
    (s.vlTake port f 0x83 (fun n => n % 6 == 0 && decide (6 ≤ n) && decide (n ≤ 48)) fun s => s.vlStamps port f.payload)

/-- The valves that a group mask and its valve masks name (R291). -/
def maskValves (d : List Byte) (gm off : Nat) : List Nat :=
  let groups := (List.range 8).filter fun g => bitOf gm g
  ((List.range groups.length).map fun i =>
    ((List.range 32).filter fun b => bitOf (leAt d (off + 4 * i) 4) b).map fun b => 32 * groups.getD i 0 + b).flatten

/-- A FAULT frame that names a valve raises DRIVER_FAULT (R291, R407). -/
def State.vlFaultFrame (s : State) (p : Nat) (d : List Byte) : State :=
  match maskValves d (leAt d 1 1) 4 with
  | [] => s
  | v :: _ => s.report FCode.driverFault Unit.valveLinks (p + 256 * leAt d 0 1 + 65536 * v)

/-- DRIVER_FAULT (R291). -/
def execDriverFault (port : Nat) (f : VlFrame) (s : State) : Host.Outcome State Fault Refusal :=
  guardUnit (decide (port < 4)) port
    (s.vlTake port f 0x84 (fun n => n == 4 + 4 * ((List.range 8).filter fun g => bitOf (leAt f.payload 1 1) g).length)
      fun s => s.vlFaultFrame port f.payload)

/-! ### The remote-echo test (R300) -/

/-- The next TEST frame: PRBS-31 continued from the previous one. -/
def State.vlTestSend (s : State) (p : Nat) : State :=
  let x := s.vl p
  if s.reg (K.valveLinkTest p) = 2 ∧ x.st = .test then
    let (d, r) := prbsBytes 32 x.prbs
    let s := s.setVl p { x with testOut := d, prbs := r, testSeq := (x.testSeq + 1) % 256 }
    s.vlFrame p 0x05 x.testSeq d
  else s

/-- TEST_FRAME_SEND (R300). -/
def execTestFrameSend (port : Nat) (s : State) : Host.Outcome State Fault Refusal :=
  guardUnit (decide (port < 4)) port (s.vlTestSend port)

def State.vlTestEcho (s : State) (p : Nat) (d : List Byte) : State :=
  if s.reg (K.valveLinkTest p) = 2 then s.bump (K.valveLinkTestErrors p) (bitDiff d (s.vl p).testOut) else s

/-- TEST_ECHO (R300). -/
def execTestEcho (port : Nat) (f : VlFrame) (s : State) : Host.Outcome State Fault Refusal :=
  guardUnit (decide (port < 4)) port (s.vlTake port f 0x85 (· == 32) fun s => s.vlTestEcho port f.payload)

end Sys2Proof.Machine
end

