-- ==== Sys2Proof/Machine/Commit.lean ====
section
/-! DEFINITION. Commits: COMMIT, CHECK_ONLY, DISCARD, the end of the checks, the commit instant, and what the instant
does to every unit whose values change (R7, R31, R61 to R68, R84, R233, R264, R282, R285, R296, R300, R336, R451). In
the effects below `s` is the state before the instant and `t` the state that the effect continues. -/

namespace Sys2Proof.Machine

/-! ### The time unit (R14, R31, R64, R233) -/

/-- Effects on the source (R13, R14, R20). -/
def State.fxSource (s t : State) : State :=
  let src := t.reg K.beltSource
  if s.reg K.beltSource ≠ src then
    let t := t.setBeltSt .noSource .stopped
    { t with belt := { t.belt with fresh := true, rebase := false, latch := none, win := [], v := 0, spNum := 0, spDen := 1
                                   isOver := false, sinceLost := false, quad := 0, simBase := 0, simTick := s.tick } }
  else
    let t := if s.reg K.simulatedSpeed = t.reg K.simulatedSpeed then t
      else { t with belt := { t.belt with simBase := s.simCount, simTick := s.tick } }
    if src ≤ 1 ∧ (s.reg (K.encoderWordLength src) ≠ t.reg (K.encoderWordLength src) ∨
        s.reg (K.encoderStatusBits src) ≠ t.reg (K.encoderStatusBits src) ∨
        s.reg (K.encoderCoding src) ≠ t.reg (K.encoderCoding src)) then
      { t with belt := { t.belt with rebase := true } }
    else t

/-- The greatest next line among enabled streams of a list. -/
def State.topLine (t : State) (l : List Nat) : Nat :=
  (l.filter fun i => t.reg (K.streamLinks i) != 0).foldl (fun m i => max m (t.nextLine i)) 0

/-- Drops begun stripes whose numbers the next stripes will take again (log entry 46). -/
def State.dropAgain (t : State) : State :=
  { t with pipe := { t.pipe with stripes := t.pipe.stripes.filter (fun p => decide (p.1 < t.belt.stripe))
                                 passing := t.pipe.passing.filter (fun p => decide (p.num < t.belt.stripe)) } }

/-- The stream that runs has no line beyond its last trigger (R110): the stripes begun so far read the rows from there on
as rows beyond E (R185). -/
def State.endStripes (t : State) : State :=
  { t with pipe := { t.pipe with stripes := t.pipe.stripes.map fun (p : Nat × Stripe) =>
      (p.1, { p.2 with endLines := some (p.2.endLines.getD t.realLines) }) } }

/-- A change of geometry (R31): the stripes begun earlier keep their lines and stamps and close under R110, and lines and
stripes are numbered anew from the emitted IBP on (log entry 46). -/
def State.fxGeometry (s t : State) : State :=
  if s.reg K.linePitch = t.reg K.linePitch ∧ s.reg K.lineOriginPosition = t.reg K.lineOriginPosition ∧
      ((List.range 16).all fun i => s.reg (K.streamViewOffset i) == t.reg (K.streamViewOffset i)) = true then t
  else
    let t := (t.endStripes.newNumbering (s.reg K.lineOriginPosition, s.reg K.linePitch)).recomputeLines
    let t : State := { t with intake := { t.intake with streams := t.intake.streams.map fun (p : Nat × Stream) =>
      (p.1, { p.2 with highest := none }) } }
    { t with belt := { t.belt with
      stripe := t.stripeAhead, streamStart := true, lineFloor := t.topLine (List.range 16) } }

/-- The stripe that begins next under a real-time plan that has come into force (R184, R233). -/
def State.fxStripes (s t : State) : State :=
  let S := t.stripeS
  if s.freshCtxs.contains 0 = false then t
  else if t.rtPlan.isNone ∧ s.stripeS = S then t
  else
    let read := t.readStreams.filter fun i => t.reg (K.streamLinks i) != 0
    let floor := max (t.topLine read) (if s.rtPlan.isSome then s.belt.stripe * s.stripeS else 0)
    let t : State := { t with belt := { t.belt with
      stripe := if read = [] then max t.stripeAhead (ceilDiv floor S) else ceilDiv floor S
      streamStart := true, lineFloor := floor } }
    t.dropAgain

/-! ### Plans (R233, R236, R336) -/

/-- A background context takes or loses its plan (R236). -/
def State.fxContext (t : State) (c : Nat) : State :=
  let x := t.ctx c
  t.setCtx c { x with st := if x.plan.isSome then .idle else .empty, jobs := [], nextStep := 0, run := none }

/-- Context 0 takes or loses its plan (R233, R418); `keep` says that the outgoing plan still has stripes to process. -/
def State.fxZero (s t : State) (keep : Bool) : State :=
  let x := t.ctx 0
  let st : CtxSt := match x.st with
    | .gloved => .gloved
    | .running => if keep then .running else if x.plan.isSome then .idle else .empty
    | .ready => if x.plan.isNone then .empty else if keep then .ready else .idle
    | _ => if x.plan.isSome then .idle else .empty
  let t := t.setCtx 0 { x with st }
  let t := if keep then t.keepScales else t.freeScales 16
  let t : State := { t with
    engine := { t.engine with
      old := if keep then s.rtPlan else none
      oldLast := if keep then t.belt.stripe else 0
      period := if keep then t.engine.period.map (fun (p : Period) => { p with old := true }) else none
      nextPeriod := if keep then t.engine.nextPeriod else t.belt.stripe }
    tracks := if keep then t.tracks else { t.tracks with
      table := [], sums := [], regions := [], heldRecs := [], list := [], overs := [], markedFrom := none, cutNext := false } }
  if x.plan.isNone then t.closeGap else t

/-- The contexts whose plans change, their knots, and the group (R233, R236, R336, R352). -/
def State.fxPlans (s t : State) (keep : Bool) : State :=
  let fresh := s.freshCtxs
  let t := fresh.foldl (fun t c => if c = 0 then s.fxZero t keep else t.fxContext c) t
  let t := fresh.foldl (fun t c => match (t.ctx c).plan with
    | some p => t.bindPlan c p
    | none => t.freeScales c) t
  if s.groupPlan = t.groupPlan then t else t.startForm

/-! ### Streams and camera links (R65, R84, R85, R86, R94, R95, R108) -/

/-- A stream is disabled, or its links are moved away (R84, step 1): lines of begun stripes and of their lookahead that
no trigger was issued for are missing, and the drain of step 2 begins. -/
def State.beginDrain (s t : State) (i : Nat) : State :=
  let mine := (t.pipe.stripes.filter fun p => p.2.need.contains i && !p.2.closed.contains i).flatMap fun p =>
    (List.range (t.heightOf p.1 + p.2.look i)).map fun l => p.1 * t.heightOf p.1 + l
  let x := t.stream i
  let left := mine.filter fun n => decide (x.first ≤ n) && (SMap.find? x.lines n).isNone
  let t := left.foldl (fun t n => t.markMissing i n) t
  let t := match x.due with
    | some (n, _) => t.markMissing i n
    | none => t
  t.setStream i { t.stream i with due := none, drainAt := some s.tick, stopAddr := s.reg (K.streamAcqStopAddress i) }

/-- Whether a staged entry concerns a stream: its own entries, or those of its links (R86). -/
def State.touches (s t : State) (i : Nat) : Bool :=
  s.ctl.staged.any fun p =>
    let x := p.1 / 256
    let n := p.1 % 256 - 1
    (decide (0x0501 ≤ x) && decide (x ≤ 0x0510) && n == i) ||
      (decide (0x0401 ≤ x) && decide (x ≤ 0x0404) && (t.streamLinkList i).contains n)

/-- Entries of a stream's parameter sets (R108). -/
def paramKeys (i : Nat) : List Nat :=
  [0, 16].flatMap fun o => [K.blackLevel (o + i), K.defectColumns (o + i), K.flatFieldGain0 (o + i),
    K.flatFieldGain1 (o + i), K.flatFieldGain2 (o + i)]

/-- A change of a stream's width or pixel format (R108): both sets take their defaults, and stages 6 and 7 start anew. -/
def State.fxFormat (s t : State) (i : Nat) : State :=
  if s.reg (K.streamWidth i) = t.reg (K.streamWidth i) ∧ s.reg (K.streamPixelFormat i) = t.reg (K.streamPixelFormat i) then t
  else
    let t := (paramKeys i).foldl (fun t k => t.setBlob k []) t
    t.setPctx i { t.pctx i with prev := none, last := none, window := [], first := none }

/-- A stream at the commit instant: it stops, starts, or is brought up again (R25, R84, R86). -/
def State.fxStream (s t : State) (i : Nat) : State :=
  let was := s.reg (K.streamLinks i)
  let now := t.reg (K.streamLinks i)
  if was = now then
    if now ≠ 0 ∧ (t.stream i).st = .failed ∧ s.touches t i = true then t.startStream i else t
  else if was ≠ 0 then s.beginDrain t i
  else
    let t := t.moveNextLine i (t.lineAhead i)
    if (t.stream i).drainAt.isSome then t
    else (t.setStream i { t.stream i with st := .starting }).startFree i

/-- A link's power switch and test (R65, R86, R95): a link that a stream leaves goes to its test when the stream has drained
(R84). DESIGN CHOICE (log entry 100): power enabled on a link of a running stream brings the stream up again from step 1. -/
def State.fxLink (s t : State) (l : Nat) : State :=
  let t := match s.flag (K.cameraPowerEnable l), t.flag (K.cameraPowerEnable l) with
    | true, false => t.setCam l { t.cam l with powered := false }
    | false, true => match t.linkStream l with
      | some i => if (t.stream i).drainAt.isSome then t else t.startStream i
      | none => t
    | _, _ => t
  match s.reg (K.linkTest l) != 0, t.reg (K.linkTest l) != 0 with
  | false, true => if (t.linkStream l).isSome then t else t.testLink l
  | true, false => t.idleLink l
  | _, _ => t

/-- The camera intake at the commit instant. -/
def State.fxIntake (s t : State) : State :=
  let t := (List.range 16).foldl (fun t i => s.fxFormat t i) t
  let t := (List.range s.mfg.part.links).foldl (fun t l => s.fxLink t l) t
  let t := (List.range 16).foldl (fun t i => s.fxStream t i) t
  if s.reg K.jpegHistoryFirst = t.reg K.jpegHistoryFirst ∧ s.reg K.jpegHistoryCount = t.reg K.jpegHistoryCount ∧
      s.reg K.jpegHistoryScale = t.reg K.jpegHistoryScale then t
  else { t with pipe := { t.pipe with history := [] } }

/-! ### Channels, outputs and valve links (R65, R264, R276, R285, R296, R298, R300) -/

/-- The function that owns a direct output; 0 none (R66, R306). -/
def State.outOwner (s : State) (o : Nat) : Nat :=
  if s.chanEnabled o then 0x04 else if s.flag (K.generalOutputEnable o) then 0x05
  else if s.reg K.aliveDirectOutput = o then 0x06 else 0

/-- A channel that is disabled: its pulses are dropped and it closes; a test pulse on it ends (R264, R276). -/
def State.fxChannel (s t : State) (ch : Nat) : State :=
  if s.chanEnabled ch = false ∨ t.chanEnabled ch = true then t
  else
    let t := match t.eject.test with
      | some x => if x.channel = ch then t.endTest Status.valueRange else t
      | none => t
    let t := t.setPulses ch []
    if t.eject.chanOn.contains ch then
      let t := if ch < 128 then t.cmdOut ch false
        else if t.canDrive ch then
          let (tag, t) := t.vlAddTag (chanPort ch) 2 (t.tick : Int) 0 true [chanValve ch]
          t.vlStrobe (chanPort ch) 3 tag
        else t
      t.markOn ch false
    else t

/-- An output whose owner changes goes to its idle state for a tick (R65). -/
def State.fxOutput (s t : State) (o : Nat) : State :=
  let t := if s.reg (K.openLoadDetect o) = t.reg (K.openLoadDetect o) then t
    else t.setOut o { t.dirOut o with testFrom := s.tick }
  if s.outOwner o = t.outOwner o then t
  else t.setOut o { t.dirOut o with cmd := false, cmdTick := s.tick, checked := true, driven := false
                                    rest := t.outOwner o != 0 }

/-- ArmRequired of a port (R298, R260). -/
def State.armNeed (t : State) (p : Nat) : Nat :=
  let types := (t.typesIn (portChans p)).length
  let chans := ((portChans p).filter t.chanEnabled).length
  let rate := match t.rtPlan with
    | some q => ceilDiv (2 * types * ((t.heads q).listLen + t.reg K.directRecordLimit) * t.reg K.maxBeltSpeed * 65536 *
        t.reg K.armLead) (q.stripeLines * t.reg K.linePitch * 10 ^ 6)
    | none => 0
  rate + 2 * chans + 16

/-- A valve-link port: its owner, its test and ArmRequired (R296, R298, R300). -/
def State.fxPort (s t : State) (p : Nat) : State :=
  let t := t.setReg (K.armRequired p) (min 65535 (t.armNeed p))
  let x := t.vl p
  let test := fun (u : State) => u.reg (K.valveLinkTest p) != 0
  if test t && !test s then
    t.setVl p { x with st := .test, since := s.tick, tags := [], strobes := [], unacked := [], echoes := [], echoSent := none
                       rtt := none }
  else if test s && !test t then t.setVl p { x with st := if x.lock then .ident else .down, since := s.tick }
  else if !s.vlOwned p && t.vlOwned p && x.st == .ready then (t.setVl p { x with st := .arming, since := s.tick }).armPass p
  else if s.vlOwned p && !t.vlOwned p && (x.st == .arming || x.st == .active) then
    (t.setVl p { x with st := .ready, since := s.tick, tags := [], strobes := [] }).vlControl p 0x03
      (leBytes 2 0x3FFF ++ leBytes 2 0)
  else t

/-- The ejection unit, the outputs and the valve links at the commit instant. -/
def State.fxOutputs (s t : State) : State :=
  let t := if s.blob K.channelValveType = t.blob K.channelValveType then t
    else ((List.range 1152).foldl (fun t ch => s.fxChannel t ch) t).tallyPulses
  let t := (List.range 128).foldl (fun t o => s.fxOutput t o) t
  (List.range 4).foldl (fun t p => s.fxPort t p) t

/-! ### Inputs and encoder channels (R280, R282, R305) -/

/-- A field input whose mode changes: its level is read anew, without an edge. -/
def State.fxInput (s t : State) (n : Nat) : State :=
  if s.reg (K.inputMode n) = t.reg (K.inputMode n) then t
  else
    let x := t.input n
    (t.setInput n { x with level := x.raw, cand := none }).setReg K.inputLevels (putBit (t.reg K.inputLevels) n x.raw)

/-- A fast counter that starts to count (R65, R282). -/
def State.fxFast (s t : State) (c : Nat) : State :=
  let owner := fun (u : State) =>
    if c = 0 ∧ u.reg K.beltSource = 2 then 0x03 else if u.reg (K.fastCounterMode c) ≠ 0 then 0x02 else 0
  if owner t = 0 ∨ owner s = owner t then t
  else
    let t := if t.reg (K.fastCounterMode c) = 0 then t else t.setReg (K.fastCounterValue c) 0
    let f : FastIn := { a := (t.input (2 * c)).raw, b := (t.input (2 * c + 1)).raw }
    { t with field := { t.field with fast := SMap.set {} t.field.fast c f } }

/-- Whether a commit changes the format of a channel's word (R14, 0x1002 to 0x1004). -/
def State.formatMoves (s t : State) (c : Nat) : Bool :=
  [K.encoderWordLength c, K.encoderStatusBits c, K.encoderCoding c].any fun k => s.reg k != t.reg k

/-- An encoder channel: the auxiliary input starts at 0, it takes the first word of a new format as its reference (R14), and
EncoderState follows its use (R305, 0x1010). -/
def State.fxEncoder (s t : State) (c : Nat) : State :=
  let t := if s.flag (K.auxEnable c) = false ∧ t.flag (K.auxEnable c) = true then
      ((t.setEnc c { t.enc c with wPrev := none, win := [], lastAux := s.tick }).setReg (K.auxPosition c) 0).setReg
        (K.auxSpeed c) 0
    else if s.formatMoves t c then t.setEnc c { t.enc c with wPrev := none }
    else t
  if s.encUsed c = t.encUsed c ∨ (t.enc c).supplyTripped = true then t
  else t.setReg (K.encoderState c) (bitNat (t.encUsed c))

/-- Field inputs, fast counters and encoder channels at the commit instant. -/
def State.fxInputs (s t : State) : State :=
  let t := (List.range 32).foldl (fun t n => s.fxInput t n) t
  let t := (List.range 4).foldl (fun t c => s.fxFast t c) t
  (List.range 2).foldl (fun t c => s.fxEncoder t c) t

/-! ### Counters and the rest (R403, R442, R450, R451) -/

/-- Programmable counters whose configuration changes take their presets, and a snapshot of the same tick still finds what
they held; the LFSRs are seeded; the peaks start anew. -/
def State.fxCounters (s t : State) : State :=
  let t := (List.range 32).foldl (fun t n =>
    if [K.counterEvent n, K.counterContextFilter n, K.counterMasterFilter n, K.counterAddressLow n, K.counterAddressHigh n,
        K.counterPreset n, K.counterOverflowRecord n].all fun k => s.reg k == t.reg k then t
    else t.setCounter (n / 8) (n % 8) { t.counter (n / 8) (n % 8) with value := t.reg (K.counterPreset n), overCount := 0 }) t
  let seed := t.reg K.sampleSeed
  let t : State := { t with perf := { t.perf with before := some (s.tick, s.perf.counters), lfsr := SMap.set 1 (SMap.set 1 t.perf.lfsr 0 seed) 1 seed } }
  if s.reg K.bandwidthWindow = t.reg K.bandwidthWindow then t else t.clearPeaks

/-- Zeroes the entries that count or keep a maximum since the last commit (R476). -/
def State.zeroSinceCommit (t : State) : State :=
  let t := (allEntries.filter fun e => e.clr == .commit || e.clr == .statCommit).foldl (fun t e => t.zeroEntry e) t
  { t with engine := { t.engine with minSlack := none } }

/-! ### The commit instant (R64) -/

/-- The staged values in force with the plans' scratch placed, and nothing staged any more. -/
def State.takeStaged (s : State) : State :=
  let t := s.freshCtxs.foldl (fun t c => t.giveScratch c) (s.after s.outgoing)
  { t with ctl := { t.ctl with staged := [], stagedBlobs := [], owner := 0, phase := .idle } }

/-- All staged values take effect together (R64), at a time that LastCommitTime records. -/
def State.applyCommit (s : State) (time : Nat) : State :=
  let keep := s.outgoing
  let t := s.takeStaged
  let t := (((t.bump K.configGeneration).setReg K.lastCommitPosition s.pos).setReg K.lastCommitTime time).zeroSinceCommit
  let t := s.fxGeometry (s.fxSource t)
  let t := s.fxPlans (s.fxStripes t) keep
  let t := s.fxInputs (s.fxOutputs (s.fxIntake t))
  let t := s.fxCounters t
  let t := (t.retrack fun k => s.reg k != t.reg k).settlePorts s
  let t := if s.reg (K.eventRoute (RType.boot - 1)) = t.reg (K.eventRoute (RType.boot - 1)) then t else t.releaseBoot
  (t.reviewPlans.cmdSet K.commitControl Status.ok).trackReady

/-! ### The commands -/

/-- CommitControl: 0x01 Commit or 0x02 CheckOnly (R62, R428). A Commit with nothing staged is OK and changes nothing. -/
def State.commitCmd (s : State) (checkOnly : Bool) : Nat × State :=
  if s.power.st ≠ .run ∧ s.power.st ≠ .ready then (Status.powerState, s)
  else if s.committing then (Status.busy, s)
  else if checkOnly = false ∧ s.ctl.staged = [] ∧ s.ctl.stagedBlobs = [] then s.cmdOk K.commitControl
  else
    let s : State := { s with ctl := { s.ctl with phase := .checking checkOnly } }
    let (st, s) := s.cmdBegin K.commitControl
    (st, if checkOnly then s else s.autoWake.trackReady)

/-- COMMIT (R62). -/
def execCommit (sess : Nat) (s : State) : Host.Outcome State Fault Refusal :=
  .next (s.runCmd sess K.commitControl fun s => s.commitCmd false)

/-- CHECK_ONLY (R62). -/
def execCheckOnly (sess : Nat) (s : State) : Host.Outcome State Fault Refusal :=
  .next (s.runCmd sess K.commitControl fun s => s.commitCmd true)

/-- Discard (R61): every staged value is dropped. -/
def State.discardCmd (s : State) : Nat × State :=
  ({ s with ctl := { s.ctl with staged := [], stagedBlobs := [], owner := 0 } } : State).cmdOk K.discard

/-- DISCARD (R62). -/
def execDiscard (sess : Nat) (s : State) : Host.Outcome State Fault Refusal :=
  .next (s.runCmd sess K.discard fun s => s.discardCmd)

/-- Writes what the checks found (R63, R68): the first failing status, the number of failures and the first eight. -/
def State.noteChecks (s : State) (fs : List Fail) : State :=
  let st := match fs with
    | f :: _ => f.status
    | [] => Status.ok
  ((s.setReg K.lastCommitStatus st).setReg K.conflictCount (min 65535 fs.length)).setBlob K.conflictLog
    ((fs.take 8).flatMap Fail.bytes)

/-- The action of CommitControl ends with a status. -/
def State.commitOver (s : State) (st : Nat) : State :=
  (({ s with ctl := { s.ctl with phase := .idle } } : State).cmdSet K.commitControl st).trackReady

/-- A commit takes effect at the end of its checks: LastCommitTime is a firmware timestamp, 0 to 5 µs late (R402). -/
def State.commitNow (s : State) : State :=
  let (late, s) := s.takeFree
  s.applyCommit (s.t64At (s.localTime + late % 5001))

/-- The checks end (R62 to R64): a failed commit releases the staging set to any session and keeps its values; one that
passes takes effect now, or waits for a stripe's first line. -/
def State.checksEnd (s : State) : State :=
  match s.ctl.phase with
  | .checking checkOnly =>
    if checkOnly = false ∧ s.ctl.staged = [] ∧ s.ctl.stagedBlobs = [] then s.commitOver Status.ok
    else
      let fs := s.commitFailures
      let t := s.noteChecks fs
      let st := match fs with
        | f :: _ => f.status
        | [] => Status.ok
      if checkOnly then t.commitOver st
      else if st ≠ Status.ok then ({ t with ctl := { t.ctl with owner := 0 } } : State).commitOver st
      else if s.commitWaits then { t with ctl := { t.ctl with phase := .waiting } }
      else t.commitNow
  | _ => s

/-- COMMIT_CHECKS_END (R63). -/
def execCommitChecksEnd (s : State) : Host.Outcome State Fault Refusal := .next s.checksEnd

/-- The stripe that begins next. -/
def State.nextStripe (s : State) : Nat := max s.belt.stripe (ceilDiv s.belt.lineFloor s.stripeS)

/-- Whether the first line of the next stripe is reached at the emitted IBP (R24, R28, R64): on some stream that the plan
reads, or at the reference position where none is enabled. -/
def State.stripeDue (s : State) : Bool :=
  let n := s.nextStripe * s.stripeS
  let read := s.liveReads
  s.comparesRun &&
    if read = [] then decide (s.linePos n ≤ s.belt.ibp)
    else read.any fun i => decide (s.trigPos i n ≤ s.belt.ibp) && decide (s.nextLine i ≤ n)

/-- A commit that waits takes effect at the trigger of the next stripe's first line (R64). -/
def State.commitIfDue (s : State) : State :=
  match s.ctl.phase with
  | .waiting =>
    if s.ctl.staged = [] ∧ s.ctl.stagedBlobs = [] then s.commitOver Status.ok
    else if s.stripeDue then s.applyCommit s.t64 else s
  | _ => s

/-- COMMIT_INSTANT (R64). -/
def execCommitInstant (s : State) : Host.Outcome State Fault Refusal := .next (s.formIbp.commitIfDue)

end Sys2Proof.Machine
end

