-- ==== Sys2Proof/Machine/Commands.lean ====
section
/-! DEFINITION. The ways into the dictionary: one written value, BDP over UDP, and the host mailboxes (R69 to R76, R385,
R479). -/

namespace Sys2Proof.Machine

/-! ### CMD entries by key (R7) -/

/-- The action of a CMD entry for a value in its stated set (R479, orders 10 and 11). -/
def State.cmdBody (s : State) (sess k v : Nat) : Nat × State :=
  if k = K.commitControl then s.commitCmd (v == 2)
  else if k = K.discard then s.discardCmd
  else if k = K.beltReorigin then s.reoriginCmd v
  else if k = K.fieldBankReset then s.bankResetCmd v
  else if k = K.powerTarget then
    s.powerTarget sess (if v = 0 then .run else if v = 1 then .ready else if v = 2 then .doze else if v = 3 then .retain else .standby)
  else if k = K.replanNow then s.replanNowCmd
  else if k = K.eyeScan then s.eyeScanCmd v
  else if k = K.cameraRegCommand then s.cameraRegCmd (v == 2)
  else if k = K.streamRestart then s.streamRestartCmd v
  else if k = K.paramSetSwitch then s.paramSwitchCmd v
  else if k = K.arrayRetest then s.retestCmd v
  else if k = K.arrayRetire then s.retireCmd v
  else if k = K.arrayRestore then s.restoreCmd v
  else if k = K.planUploadBegin then s.uploadBegin v
  else if k = K.planUploadEnd then s.uploadEnd v
  else if k = K.planSlotClear then s.slotClear v
  else if k = K.flush then s.flushCmd
  else if k = K.contextReset then s.contextResetCmd v
  else if k = K.uncorrectableLogClear then s.badLogClear
  else if k = K.sensorSupplyReset then (s.setReg K.sensorSupplyState 0).cmdOk K.sensorSupplyReset
  else if k = K.aliveControl then (if v = 1 then (s.aliveStopFor 1).cmdOk K.aliveControl else s.aliveStartCmd)
  else if k = K.outputFaultClear then s.faultClearCmd v
  else if k = K.encoderSupplyReset then s.encResetCmd v
  else if k = K.valveTestPulse then s.testPulseCmd v
  else if k = K.fireErrorClear then s.fireErrorClearCmd
  else if k = K.faultLogClear then (({ s with faults := { s.faults with log := [] } } : State).logEmptied 1).cmdOk k
  else if k = K.faultLogNvClear then (({ s with faults := { s.faults with nv := [] } } : State).logEmptied 2).cmdOk k
  else if k = K.deviceRecover then s.deviceRecoverCmd
  else if k = K.counterControl then
    (if v = 1 then s.setRunning true else if v = 2 then s.setRunning false else if v = 3 then s.clearCounters
      else s.snapshot).sendAction K.counterControl
  else if k = K.bandwidthClear then s.clearPeaks.cmdOk K.bandwidthClear
  else if k = K.sampleLogClear then (({ s with perf := { s.perf with log := [] } } : State).logEmptied 4).cmdOk k
  else if k = K.blobUploadBegin then s.blobBegin v
  else if k = K.blobUploadEnd then s.blobEnd v
  else if k = K.blobSlotClear then s.blobClear v
  else if k = K.attestRequest then s.attestCmd
  else if k = K.statisticsClear then s.statisticsCmd v
  else (Status.noEntry, s)

/-- A value outside the set that a CMD entry states is refused before its action (R479, orders 9 and 10). -/
def State.cmdByKey (s : State) (sess k v : Nat) : Nat × State :=
  match (entryOfKey k).bind fun e => e.valueStatus v with
  | some st => (st, s)
  | none => s.cmdBody sess k v

/-- One written value (R71, R479). -/
def State.put (s : State) (sess idx sub off : Nat) (last : Bool) (d : List Byte) : Nat × State :=
  s.writeValue State.cmdByKey sess idx sub off last d

/-! ### One write as a command of its own -/

/-- DICTIONARY_WRITE: a whole value for an entry, with the status it answers (R479). -/
def State.dictWrite (s : State) (sess idx sub : Nat) (val : List Byte) : State :=
  let (st, s) := s.put sess idx sub 0 true val
  s.answer sess (256 * idx + sub) st

/-- DICTIONARY_WRITE (R479). -/
def execDictionaryWrite (sess idx sub : Nat) (val : List Byte) (s : State) : Host.Outcome State Fault Refusal :=
  .next (s.dictWrite sess idx sub val)

/-- GENERAL_OUTPUT_LEVEL: a write of one output's GeneralOutputLevel (R285). -/
def execGeneralOutputLevel (sess out level : Nat) (s : State) : Host.Outcome State Fault Refusal :=
  guardUnit (decide (out < 128)) out (s.dictWrite sess 0x0F02 (out + 1) (leBytes 1 level))

/-! ### BDP frames (R70, R71, R73) -/

/-- An item of a BDP frame (R70). -/
structure BdpItem where
  idx : Nat
  sub : Nat
  flags : Nat
  off : Nat
  len : Nat                           -- ValueLength
  value : List Byte := []
  deriving DecidableEq, Repr

/-- `n` items that fill the rest of a frame exactly; a WRITE carries their values, padded to a multiple of 4 bytes. -/
def parseItems (write : Bool) : Nat → List Byte → Option (List BdpItem)
  | 0, d => if d = [] then some [] else none
  | n + 1, d =>
    let len := beAt d 8 2
    let body := if write then ceilDiv len 4 * 4 else 0
    if d.length < 12 + body ∨ 4 ≤ beAt d 3 1 then none
    else
      let x : BdpItem := { idx := beAt d 0 2, sub := beAt d 2 1, flags := beAt d 3 1, off := beAt d 4 4, len
                           value := if write then (d.drop 12).take len else [] }
      (parseItems write n (d.drop (12 + body))).map fun r => x :: r

/-- Opcode of a frame. -/
def bdpOp (d : List Byte) : Nat := beAt d 8 1

/-- Session that a frame names. -/
def bdpSession (d : List Byte) : Nat := beAt d 4 2

/-- Sequence of a frame. -/
def bdpSeq (d : List Byte) : Nat := beAt d 6 2

/-- The response to a frame: its header with Version 0x01, RESPONSE set and the status (R70, R73). -/
def bdpReply (d : List Byte) (sess seq status count : Nat) (items : List Byte) : List Byte :=
  beBytes 2 0x4244 ++ beBytes 1 1 ++ beBytes 1 0x80 ++ beBytes 2 sess ++ beBytes 2 seq ++ beBytes 1 (bdpOp d) ++
    beBytes 1 count ++ beBytes 2 items.length ++ beBytes 2 status ++ beBytes 2 0 ++ items

/-- A response without items. -/
def bdpStatus (d : List Byte) (status : Nat) : List Byte := bdpReply d (bdpSession d) (bdpSeq d) status 0 []

/-- DESIGN CHOICE (log entry 85): RESPONSE set in a request is not named reserved, and the frame is served as a request.
Why a frame with the right Magic is answered with FRAME_FORMAT (R73), else its items: `most` is the greatest number
of items. -/
def bdpItems (d : List Byte) (most : Nat) : Option (List BdpItem) :=
  let n := beAt d 9 1
  let op := bdpOp d
  if d.length < 16 ∨ beAt d 2 1 ≠ 1 ∨ beAt d 3 1 % 64 ≠ 0 ∨ beAt d 14 2 ≠ 0 ∨ beAt d 10 2 + 16 ≠ d.length ∨ most < n then none
  else if op = 3 ∨ op = 4 then parseItems (op == 4) n (d.drop 16)
  else if op = 1 ∨ op = 2 ∨ op = 5 then (if n = 0 ∧ d.length = 16 then some [] else none)
  else some []

/-- An item header of a response, with its value padded. -/
def BdpItem.reply (x : BdpItem) (st : Nat) (v : List Byte) : List Byte :=
  beBytes 2 x.idx ++ beBytes 1 x.sub ++ beBytes 1 x.flags ++ beBytes 4 x.off ++ beBytes 2 v.length ++ beBytes 2 st ++
    fitBytes (ceilDiv v.length 4 * 4) v

/-- Runs one item of a READ or a WRITE (R71). -/
def State.runItem (s : State) (sess : Nat) (write : Bool) (x : BdpItem) : Nat × List Byte × State :=
  if write then
    let (st, s) := s.put sess x.idx x.sub x.off (bitOf x.flags 1) x.value
    (st, [], s)
  else
    let (st, v) := s.readItem x.idx x.sub x.off x.len (bitOf x.flags 0)
    (st, v, s)

/-- Runs items in order: a failing item does not stop later ones. Answers the first status that is not OK and the
items of the response. -/
def State.runItems (s : State) (sess : Nat) (write : Bool) (l : List BdpItem) : Nat × List Byte × State :=
  l.foldl (fun (a : Nat × List Byte × State) x =>
    let (st, v, s) := a.2.2.runItem sess write x
    (if a.1 = Status.ok then st else a.1, a.2.1 ++ x.reply st v, s)) (Status.ok, [], s)

/-- Carries out a request of a session and answers its response (R71, R73). -/
def State.bdpExecute (s : State) (d : List Byte) (items : List BdpItem) : List Byte × State :=
  if bdpOp d = 3 ∨ bdpOp d = 4 then
    let (st, r, s) := s.runItems (bdpSession d) (bdpOp d == 4) items
    (bdpReply d (bdpSession d) (bdpSeq d) st items.length r, s)
  else (bdpStatus d Status.ok, s)

/-- A request of a session by its Sequence (R72): the response, and the session as it is afterwards. -/
def State.bdpRequest (s : State) (x : Session) (d : List Byte) (items : List BdpItem) : List Byte × Session × State :=
  if bdpSeq d = (x.seq + 1) % 65536 then
    let (r, s) := s.bdpExecute d items
    (r, { x with seq := bdpSeq d, kept := r }, s)
  else if bdpSeq d = x.seq ∧ x.kept ≠ [] then (x.kept, x, s.bump K.bdpRetransmissions)
  else (bdpStatus d Status.sequenceError, x, s.bump K.bdpSequenceErrors)

/-! ### Sessions over UDP (R69, R72, R73) -/

/-- The number that OPEN assigns: the lowest from the turn on that is not in use, from 0x0001 to 0xFFEF (R72). -/
def State.freeSession (s : State) : Nat :=
  (((List.range 9).map fun i => (s.ctl.nextSession - 1 + i) % 0xFFEF + 1).find? fun n =>
    s.ctl.sessions.all fun x => x.num != n).getD 1

/-- OPEN (R72, R479). -/
def State.bdpOpen (s : State) (d : List Byte) : List Byte × State :=
  if s.ctl.serving = false ∨ s.faults.stalled = true then (bdpStatus d Status.notReady, s)
  else if 8 ≤ s.ctl.sessions.length then (bdpStatus d Status.sessionsFull, s)
  else
    let n := s.freeSession
    let r := bdpReply d n 0 Status.ok 0 []
    (r, { s with ctl := { s.ctl with
      nextSession := n % 0xFFEF + 1
      sessions := s.ctl.sessions ++ [({ num := n, seq := 0, kept := r, last := s.tick } : Session)] } })

/-- A session ends (R73): its staged and unfinished values go. -/
def State.closeSession (s : State) (n : Nat) : State :=
  let s := s.dropSession n
  { s with ctl := { s.ctl with sessions := s.ctl.sessions.filter fun x => x.num != n } }

/-- A frame of an open session: it holds the session open, and an executed CLOSE ends it (R72, R73). DESIGN CHOICE (log entry
85): every well-formed frame of an open session with a known opcode is a valid one that renews the time-out, also one with a
wrong Sequence or a retransmission; a frame answered with FRAME_FORMAT or OPCODE_UNKNOWN renews nothing. -/
def State.bdpInSession (s : State) (x : Session) (d : List Byte) (items : List BdpItem) : List Byte × State :=
  let fresh := decide (bdpSeq d = (x.seq + 1) % 65536)
  let (r, y, s) := s.bdpRequest x d items
  let y := { y with last := s.tick }
  let s : State := { s with ctl := { s.ctl with
    sessions := s.ctl.sessions.map (fun (z : Session) => if z.num = x.num then y else z) } }
  (r, if bdpOp d = 2 ∧ fresh = true then s.closeSession x.num else s)

/-- The answer to a frame with the right Magic that came over UDP (R71 to R73). -/
def State.bdpAnswer (s : State) (d : List Byte) : List Byte × State :=
  match bdpItems d 32 with
  | none => (bdpStatus d Status.frameFormat, s)
  | some items =>
    if bdpOp d = 0 ∨ 5 < bdpOp d then (bdpStatus d Status.opcodeUnknown, s)
    else if bdpOp d = 1 then s.bdpOpen d
    else
      match s.ctl.sessions.find? fun x => x.num == bdpSession d with
      | none => (bdpStatus d Status.sessionUnknown, s)
      | some x => s.bdpInSession x d items

/-- Whether a source address lies in the allowed network (R69). -/
def State.bdpAllows (s : State) (src : Nat) : Bool :=
  let size := 2 ^ (32 - s.reg K.bdpAllowedPrefix)
  src / size == s.reg K.bdpAllowedNetwork / size

/-- A datagram for BdpUdpPort (R69, R390): it is dropped, or answered to its source; one for another port is a frame that no
unit takes. -/
def State.datagram (s : State) (g : Datagram) : State :=
  if s.ipv4 g.eth = 0 ∨ g.dport ≠ s.reg K.bdpUdpPort ∨ bitOf (s.reg K.bdpEnable) g.eth = false then s.frameDrop g.eth
  else
    let s := s.frameIn g.eth (s.frameLen g.eth (28 + g.payload.length))
    if 1472 < g.payload.length ∨ s.bdpAllows g.src = false ∨ beAt g.payload 0 2 ≠ 0x4244 ∨ g.payload.length < 2 then
      s.bump K.bdpFramesDropped
    else
      let (r, s) := (s.wake 1 [.doze]).bdpAnswer g.payload
      (s.send (.bdp g.eth g.src g.sport r)).portBytes false (0x64 + g.eth) (s.frameLen g.eth (28 + r.length))

/-- BDP_OPEN (R72). -/
def execBdpOpen (d : Datagram) (s : State) : Host.Outcome State Fault Refusal := s.onEth d.eth fun s => s.datagram d

/-- BDP_CLOSE (R73). -/
def execBdpClose (d : Datagram) (s : State) : Host.Outcome State Fault Refusal := s.onEth d.eth fun s => s.datagram d

/-- BDP_READ (R71). -/
def execBdpRead (d : Datagram) (s : State) : Host.Outcome State Fault Refusal := s.onEth d.eth fun s => s.datagram d

/-- BDP_WRITE (R71). -/
def execBdpWrite (d : Datagram) (s : State) : Host.Outcome State Fault Refusal := s.onEth d.eth fun s => s.datagram d

/-- BDP_KEEPALIVE (R73). -/
def execBdpKeepalive (d : Datagram) (s : State) : Host.Outcome State Fault Refusal := s.onEth d.eth fun s => s.datagram d

/-- BDP_OPCODE_UNKNOWN (R73). -/
def execBdpOpcodeUnknown (d : Datagram) (s : State) : Host.Outcome State Fault Refusal := s.onEth d.eth fun s => s.datagram d

/-- BDP_FRAME_MALFORMED (R73). -/
def execBdpFrameMalformed (d : Datagram) (s : State) : Host.Outcome State Fault Refusal := s.onEth d.eth fun s => s.datagram d

/-- No valid frame of a session has arrived for BdpSessionTimeout (R73). -/
def State.sessionTimeout (s : State) (n : Nat) : State :=
  if s.ctl.sessions.any fun x => x.num == n && decide (x.last + s.reg K.bdpSessionTimeout * 250000 ≤ s.tick) then
    s.closeSession n
  else s

/-- BDP_SESSION_TIMEOUT (R73). -/
def execBdpSessionTimeout (num : Nat) (s : State) : Host.Outcome State Fault Refusal := .next (s.sessionTimeout num)

/-! ### Mailboxes (R75, R385) -/

/-- The answer to a mailbox message (R75): OPEN, CLOSE and KEEPALIVE are OK without effect, and a message of another
session is not known here. -/
def State.mbxAnswer (s : State) (port : Nat) (d : List Byte) : List Byte × State :=
  match bdpItems d 128 with
  | none => (bdpStatus d Status.frameFormat, s)
  | some items =>
    if bdpOp d = 0 ∨ 5 < bdpOp d then (bdpStatus d Status.opcodeUnknown, s)
    else if bdpOp d = 1 ∨ ((bdpOp d = 2 ∨ bdpOp d = 5) ∧ bdpSession d = mbxSession port) then (bdpStatus d Status.ok, s)
    else if bdpSession d ≠ mbxSession port then (bdpStatus d Status.sessionUnknown, s)
    else
      let none' : Session := { num := mbxSession port, seq := 0, kept := [], last := 0 }
      let (r, y, s) := s.bdpRequest (SMap.get none' s.ctl.mbx port) d items
      (r, { s with ctl := { s.ctl with mbx := SMap.set none' s.ctl.mbx port y } })

/-- A message with a wrong Magic is dropped (R73): it leaves no response. The response buffer holds 4,096 bytes (R75);
DESIGN CHOICE (log entry 85): what a longer response has beyond them is lost. -/
def State.mailbox (s : State) (port : Nat) (d : List Byte) (intr : Bool) : State :=
  if beAt d 0 2 ≠ 0x4244 then s.setPort port { s.port port with mbxReady := false }
  else
    let (r, s) := s.mbxAnswer port d
    let s := s.setPort port { s.port port with mbxReady := true, mbxResp := r.take 4096 }
    if intr then s.send (.msix port 64) else s

/-- HWIN_MBX_DOORBELL (R385). -/
def State.mbxDoorbell (s : State) (port val : Nat) : State :=
  let h := s.port port
  let n := bits val 12 0
  if h.mbxBusy then s.hwinError port Status.busy 0 0x0400
  else if n < 16 ∨ 4096 < n then s.hwinError port Status.lengthMismatch 0 0x0400
  else (s.wake 1 [.doze]).mailbox port (SMap.getList 0 h.mbxReq 0 n) (bitOf val 16)

/-- HWIN_MBX_DOORBELL (R385). -/
def execHwinMbxDoorbell (port val : Nat) (s : State) : Host.Outcome State Fault Refusal :=
  s.inWindow port fun s => s.mbxDoorbell port val

end Sys2Proof.Machine
end

