-- ==== Sys2Proof/Machine/Jpeg.lean ====
section
/-! DEFINITION. The JPEG engine (R117 to R122, R384). The coding itself is that of ISO/IEC 10918-1, which the spec does
not contain: markers and Huffman coding are taken from it, encoded bytes and the samples of decoded blocks are free
functions (log entry 3). -/

namespace Sys2Proof.Machine

/-! ### Encoding (R118, R384) -/

/-- The samples of a request's box in the history, none when a line of it has left (R118). -/
def State.boxSamples (s : State) (e : EncReq) : Option (List Byte) :=
  let d := max 1 (s.reg K.jpegHistoryScale)
  let i := ((List.range 16).find? fun i => s.contributes i).getD 0
  let p := planesOf (s.reg (K.streamPixelFormat i))
  let rows := (List.range (e.lastLine / d + 1 - e.firstLine / d)).map fun k => SMap.find? s.pipe.history (e.firstLine / d + k)
  if rows.all Option.isSome then
    some ((rows.filterMap id).map fun r =>
      bytesAt r (e.colLeft / d * p) ((e.colRight / d + 1 - e.colLeft / d) * p)).flatten
  else none

/-- A marker segment: the marker, the length and the content. -/
def jpegSeg (m : Nat) (b : List Byte) : List Byte := leBytes 1 0xFF ++ leBytes 1 m ++ beBytes 2 (b.length + 2) ++ b

/-- An encoded image (R118): quantisation tables by quality, a restart interval of one MCU row, and a restart marker between
one MCU row and the next. `planes` are the samples of each component, `sub` JpegSubsampling. The order of the segments is the
model's (DESIGN CHOICE, log entry 3). -/
def jpegImage (planes : List (List Byte)) (w h quality sub : Nat) : List Byte :=
  let grey := planes.length == 1
  let mw := if grey || sub == 0 then 8 else 16
  let mh := if !grey && sub == 2 then 16 else 8
  let n := planes.length
  let table := fun (c : Bool) => leBytes 1 (bitNat c) ++ (List.range 64).map (Config.jpegQuant quality c)
  let comp := fun (k : Nat) => leBytes 1 (k + 1) ++
    leBytes 1 (if k = 0 then 16 * (mw / 8) + mh / 8 else 0x11) ++ leBytes 1 (min k 1)
  let rows := ceilDiv h mh
  leBytes 2 0xD8FF ++ jpegSeg 0xDB (if grey then table false else table false ++ table true) ++
    jpegSeg 0xC4 (Config.jpegHuffman grey) ++ jpegSeg 0xDD (beBytes 2 (ceilDiv w mw)) ++
    jpegSeg 0xC0 (leBytes 1 8 ++ beBytes 2 h ++ beBytes 2 w ++ leBytes 1 n ++ ((List.range n).map comp).flatten) ++
    jpegSeg 0xDA (leBytes 1 n ++ ((List.range n).map fun k => leBytes 1 (k + 1) ++ leBytes 1 (0x11 * min k 1)).flatten ++
      [0, 63, 0]) ++
    ((List.range rows).map fun r =>
      Config.jpegRow (planes.map fun p => bytesAt p (r * mh * w) (min mh (h - r * mh) * w)) w quality sub ++
        (if r + 1 < rows then leBytes 1 0xFF ++ leBytes 1 (0xD0 + r % 8) else [])).flatten ++ leBytes 2 0xD9FF

/-- The encoded image of a request: grey, or YCbCr from the RGB samples of the box (R118). -/
def State.encoded (s : State) (e : EncReq) (samples : List Byte) : List Byte :=
  let d := max 1 (s.reg K.jpegHistoryScale)
  let w := e.colRight / d + 1 - e.colLeft / d
  let h := e.lastLine / d + 1 - e.firstLine / d
  let i := ((List.range 16).find? fun i => s.contributes i).getD 0
  let planes := if planesOf (s.reg (K.streamPixelFormat i)) = 1 then [samples]
    else (List.range 3).map fun k => (List.range (w * h)).map fun n =>
      Config.ycbcr (samples.getD (3 * n) 0) (samples.getD (3 * n + 1) 0) (samples.getD (3 * n + 2) 0) k
  jpegImage planes w h (s.reg K.jpegQuality) (s.reg K.jpegSubsampling)

/-- An encoded image goes to the pool of the port that holds the queue of type 0x16, with its record; or it is dropped
(R384). -/
def State.deliverImage (s : State) (fire : Nat) (d : List Byte) : State :=
  let q := s.reg (K.eventRoute (RType.jpegImage - 1))
  let e := s.queue q
  match e.port with
  | some p =>
    let h := s.port p
    match (List.range h.imgSlots).find? fun n => !h.imgUsed.contains n with
    | some n =>
      if q = 0xFF ∨ e.st ≠ .enabled ∨ h.imgSize < d.length then s.bump K.imagesDropped
      else
        let used := (h.imgUsed.filter fun x => decide (x < n)) ++ [n] ++ h.imgUsed.filter fun x => decide (n < x)
        let s := (s.setPort p { h with imgUsed := used, imgWritten := h.imgWritten + 1 }).hostWrite p
          (h.imgBase + n * h.imgSize) d
        s.emit (s.recPos RType.jpegImage Unit.jpeg fire (n + 65536 * d.length) 0)
    | none => s.bump K.imagesDropped
  | none => s.bump K.imagesDropped

/-- The encode core ends the oldest request (R118). -/
def State.encodeDone (s : State) : State :=
  match s.pipe.encQueue with
  | [] => s
  | e :: rest =>
    let s := { s with pipe := { s.pipe with encQueue := rest } }
    match s.boxSamples e with
    | none => s.bump K.encodesSkipped
    | some d => (s.bump K.encodesCompleted).deliverImage e.pos (s.encoded e d)

/-- JPEG_ENCODE_DONE (R118). -/
def execJpegEncodeDone (s : State) : Host.Outcome State Fault Refusal := .next s.encodeDone

/-! ### The headers of a compressed image (R120) -/

/-- The marker segments from the first one up to and including SOS, each with its content, and what follows SOS. -/
def jpegSegs : Nat → List Byte → List (Nat × List Byte) × List Byte
  | 0, _ => ([], [])
  | n + 1, 0xFF#8 :: 0xFF#8 :: r => jpegSegs n (0xFF#8 :: r)
  | n + 1, 0xFF#8 :: m :: a :: b :: r =>
    let len := a.toNat * 256 + b.toNat
    let mk := m.toNat
    if mk < 0xC0 ∨ (0xD0 ≤ mk ∧ mk ≤ 0xD9) ∨ len < 2 ∨ r.length < len - 2 then ([], [])
    else
      let body := r.take (len - 2)
      let rest := r.drop (len - 2)
      if mk = 0xDA then ([(mk, body)], rest)
      else
        let (l, e) := jpegSegs n rest
        ((mk, body) :: l, e)
  | _ + 1, _ => ([], [])

/-- The markers after the first scan's header, stuffed bytes and restart markers apart. -/
def jpegLater : Nat → List Byte → List Nat
  | 0, _ => []
  | n + 1, 0xFF#8 :: m :: r =>
    let mk := m.toNat
    if mk = 0 ∨ (0xD0 ≤ mk ∧ mk ≤ 0xD7) then jpegLater n r
    else if mk = 0xFF then jpegLater n (m :: r)
    else if mk = 0xD9 then [mk]
    else mk :: jpegLater n (r.drop (beAt r 0 2))
  | n + 1, _ :: r => jpegLater n r
  | _ + 1, [] => []

/-- Quantisation tables that a DQT segment defines: destination, and its 64 entries in coding order, of 8 or 16 bits. -/
def dqtTables : Nat → List Byte → List (Nat × List Nat)
  | 0, _ => []
  | _ + 1, [] => []
  | n + 1, b :: r =>
    let w := if b.toNat / 16 = 0 then 1 else 2
    (bits b.toNat 3 0, (List.range 64).map fun i => beAt r (w * i) w) :: dqtTables n (r.drop (64 * w))

/-- A Huffman table: how many codes of each length from 1 to 16 there are, and their symbols in code order. -/
structure Huff where
  counts : List Nat := []
  syms : List Nat := []
  deriving DecidableEq, Repr

/-- Huffman tables that a DHT segment defines: class × 16 + destination, and the table. -/
def dhtTables : Nat → List Byte → List (Nat × Huff)
  | 0, _ => []
  | _ + 1, [] => []
  | n + 1, b :: r =>
    let counts := (r.take 16).map BitVec.toNat
    (b.toNat, { counts, syms := ((r.drop 16).take counts.sum).map BitVec.toNat }) :: dhtTables n (r.drop (16 + counts.sum))

/-- What the headers claim (R120): dimensions, and each component's horizontal and vertical sampling. -/
structure JpegHead where
  marker : Bool := false              -- check 0x01 fails
  width : Nat := 0
  height : Nat := 0
  comps : List (Nat × Nat) := []
  rest : List Byte := []              -- what follows the SOS header
  scan : List (Nat × Nat × Nat) := [] -- per component of the scan: its place in the frame, its DC and its AC table
  quant : List (Nat × List Nat) := [] -- quantisation tables, by destination
  huff : List (Nat × Huff) := []      -- Huffman tables, by class × 16 + destination
  qsel : List Nat := []               -- per component of the frame, its quantisation table
  restart : Nat := 0                  -- restart interval in MCUs; 0 none
  deriving DecidableEq, Repr

/-- Whether a marker is SOF1 to SOF15: 0xC1 to 0xCF but DHT, JPG and DAC. -/
def otherSof (m : Nat) : Bool := decide (0xC1 ≤ m) && decide (m ≤ 0xCF) && m != 0xC4 && m != 0xC8 && m != 0xCC

/-- Reads the headers of a compressed image (R120). A frame whose samples are not 8 bits wide breaks R117's baseline
coding and counts as check 0x01 (log entry 3). -/
def parseJpeg (d : List Byte) : JpegHead :=
  let n := d.length
  let (segs, rest) := jpegSegs n (d.drop 2)
  let soi := beAt d 0 2 == 0xFFD8
  let body := fun (m : Nat) => ((segs.find? fun x => x.1 == m).map (·.2)).getD []
  let has := fun (m : Nat) => segs.any fun x => x.1 == m
  let f := body 0xC0
  let nc := leAt f 5 1
  let comps := (List.range nc).map fun i => (leAt f (6 + 3 * i) 3)
  let sos := body 0xDA
  let ns := leAt sos 0 1
  let scan := (List.range ns).map fun i => leAt sos (1 + 2 * i) 2
  let q := ((segs.filter fun x => x.1 == 0xDB).map fun x => dqtTables n x.2).flatten.reverse
  let h := ((segs.filter fun x => x.1 == 0xC4).map fun x => dhtTables n x.2).flatten.reverse
  let later := jpegLater rest.length rest
  let tables := (comps.all fun c => q.any fun x => x.1 == c / 65536) &&
    scan.all fun c => (h.any fun x => x.1 == c / 4096) && h.any fun x => x.1 == 16 + c / 256 % 16
  let bad := !soi || !has 0xC0 || !has 0xDA || !tables || leAt f 0 1 != 8 ||
    (segs.any fun x => otherSof x.1) || later.any fun m => otherSof m || m == 0xDA
  { marker := bad, width := beAt f 3 2, height := beAt f 1 2
    comps := comps.map fun c => (c / 256 % 256 / 16, c / 256 % 16), rest, quant := q, huff := h
    scan := scan.map fun c => ((comps.findIdx? fun d => d % 256 == c % 256).getD nc, c / 4096, c / 256 % 16)
    qsel := comps.map fun c => c / 65536, restart := beAt (body 0xDD) 0 2 }

/-- Sampling that R117 admits: grey, or 4:4:4, 4:2:2 or 4:2:0 by the ratio of the first component's factors to those of
the others. -/
def JpegHead.samplingOk (j : JpegHead) : Bool :=
  match j.comps with
  | [_] => true
  | [a, b, c] => b == c && b.1 != 0 && b.2 != 0 && decide (a.1 ≤ 4) && decide (a.2 ≤ 4) &&
      (a == b || a == (2 * b.1, b.2) || a == (2 * b.1, 2 * b.2))
  | _ => false

/-- Width and height of an MCU in blocks of its first component, and the blocks of an MCU. One component alone is not
interleaved: its MCU is one block. -/
def JpegHead.mcu (j : JpegHead) : Nat × Nat × Nat :=
  match j.comps with
  | [(h, v), b, c] => (h, v, h * v + b.1 * b.2 + c.1 * c.2)
  | _ => (1, 1, 1)

/-- The 8 × 8 blocks of one row of MCUs. -/
def JpegHead.rowBlocks (j : JpegHead) : Nat :=
  let (h, _, n) := j.mcu
  ceilDiv j.width (8 * h) * n

/-- The 8 × 8 blocks of the MCU-padded image (R120). -/
def JpegHead.blocks (j : JpegHead) : Nat :=
  let (_, v, _) := j.mcu
  j.rowBlocks * ceilDiv j.height (8 * v)

/-- The cause of the first check that fails before decoding (R120). -/
def JpegHead.cause (j : JpegHead) (ew eh : Nat) : Option Nat :=
  if j.marker then some 1
  else if j.width = 0 ∨ 16384 < j.width ∨ j.height = 0 ∨ 16384 < j.height then some 2
  else if (ew ≠ 0 ∧ ew ≠ j.width) ∨ (eh ≠ 0 ∧ eh ≠ j.height) then some 3
  else if j.samplingOk = false then some 4
  else if j.rest.length < ceilDiv j.blocks 4 then some 5
  else none

/-! ### Entropy-coded data (R117, R120 cause 0x06): the Huffman coding of baseline frames (PRESUMED from the standard,
log entry 3) -/

/-- The bits of the data up to the first marker that is no restart marker, cut at the restart markers: the bits before
each marker with its number, and those after the last one. -/
def jpegCuts : Nat → List Byte → List Bool → List (List Bool × Nat) × List Bool
  | 0, _, acc => ([], acc)
  | _ + 1, [], acc => ([], acc)
  | n + 1, 0xFF#8 :: 0#8 :: r, acc => jpegCuts n r (acc ++ List.replicate 8 true)
  | n + 1, 0xFF#8 :: m :: r, acc =>
    if m = 0xFF#8 then jpegCuts n (m :: r) acc
    else if 0xD0 ≤ m.toNat ∧ m.toNat ≤ 0xD7 then
      let (l, e) := jpegCuts n r []
      ((acc, m.toNat - 0xD0) :: l, e)
    else ([], acc)
  | n + 1, b :: r, acc => jpegCuts n r (acc ++ [7, 6, 5, 4, 3, 2, 1, 0].map fun i => b.getLsbD i)

/-- Takes one symbol: `code` the bits read, `first` the first code of their length and `at'` its place among the symbols.
None where no code fits or the bits end. -/
def huffSym (syms : List Nat) : List Nat → Nat → Nat → Nat → List Bool → Option (Nat × List Bool)
  | n :: counts, code, first, at', b :: r =>
    let code := 2 * code + bitNat b
    if first ≤ code ∧ code < first + n then (syms[at' + (code - first)]?).map fun s => (s, r)
    else huffSym syms counts code (2 * (first + n)) (at' + n) r
  | _, _, _, _, _ => none

/-- One symbol of a table. -/
def Huff.sym (h : Huff) (l : List Bool) : Option (Nat × List Bool) := huffSym h.syms h.counts 0 0 0 l

/-- A value of `n` bits: below half its range it stands for a negative number. -/
def jpegValue (n : Nat) (l : List Bool) : Option (Int × List Bool) :=
  if l.length < n then none
  else
    let v := (l.take n).foldl (fun v b => 2 * v + bitNat b) 0
    some (if n ≠ 0 ∧ v < 2 ^ (n - 1) then (v : Int) - (2 ^ n - 1) else v, l.drop n)

/-- The coefficients of a block from place `k` on, up to its end; `fuel` bounds the symbols. -/
def acCoeffs (h : Huff) : Nat → Nat → List Bool → Option (List (Nat × Int) × List Bool)
  | 0, _, l => some ([], l)
  | n + 1, k, l =>
    if 63 < k then some ([], l)
    else match h.sym l with
      | none => none
      | some (rs, l) =>
        if rs % 16 = 0 then if rs = 0xF0 then acCoeffs h n (k + 16) l else some ([], l)
        else
          let k := k + rs / 16
          if 63 < k then none
          else match jpegValue (rs % 16) l with
            | none => none
            | some (v, l) => (acCoeffs h n (k + 1) l).map fun x => ((k, v) :: x.1, x.2)

/-- One block: its DC coefficient after the prediction, then the others in coding order, each times its table's entry. -/
def jpegBlock (dc ac : Huff) (q : List Nat) (pred : Int) (l : List Bool) : Option (Int × List Int × List Bool) :=
  match dc.sym l with
  | none => none
  | some (t, l) =>
    if 11 < t then none
    else match jpegValue t l with
      | none => none
      | some (d, l) =>
        (acCoeffs ac 64 1 l).map fun x =>
          (pred + d, (List.range 64).map fun k =>
            (q.getD k 0 : Int) * (if k = 0 then pred + d else ((x.1.find? fun y => y.1 == k).map (·.2)).getD 0), x.2)

/-- The component of each block of an MCU, in coding order. -/
def JpegHead.mcuBlocks (j : JpegHead) : List (Nat × Nat × Nat) :=
  match j.comps with
  | [_] => j.scan
  | cs => (j.scan.map fun x => let c := cs.getD x.1 (0, 0); List.replicate (c.1 * c.2) x).flatten

/-- The blocks of one MCU, with the prediction of each component. -/
def JpegHead.mcuData (j : JpegHead) (pred : SMap Int) (l : List Bool) : Option (SMap Int × List (List Int) × List Bool) :=
  j.mcuBlocks.foldl (fun st x => match st with
    | none => none
    | some (pred, out, l) =>
      let table := fun (k : Nat) => ((j.huff.find? fun h => h.1 == k).map (·.2)).getD {}
      let q := ((j.quant.find? fun q => q.1 == j.qsel.getD x.1 0).map (·.2)).getD []
      (jpegBlock (table x.2.1) (table (16 + x.2.2)) q (SMap.get 0 pred x.1) l).map fun r =>
        (SMap.set 0 pred x.1 r.1, out ++ [r.2.1], r.2.2)) (some (pred, [], l))

/-- A run of MCUs without a restart marker: their blocks and the bits left. -/
def JpegHead.mcuRun (j : JpegHead) : Nat → SMap Int → List Bool → Option (List (List Int) × List Bool)
  | 0, _, l => some ([], l)
  | n + 1, pred, l =>
    match j.mcuData pred l with
    | none => none
    | some (pred, out, l) => (j.mcuRun n pred l).map fun x => (out ++ x.1, x.2)

/-- The restart intervals one after another: `k` is the number that the next restart marker has to carry. Bits beyond the
padding of a byte before a marker put it out of sequence. -/
def JpegHead.intervals (j : JpegHead) (last : List Bool) : Nat → Nat → List (List Bool × Nat) → Option (List (List Int))
  | mcus, k, (l, m) :: cuts =>
    if mcus = 0 then some []
    else if j.restart = 0 ∨ mcus ≤ j.restart then (j.mcuRun mcus [] l).map (·.1)
    else match j.mcuRun j.restart [] l with
      | none => none
      | some (out, left) =>
        if 8 ≤ left.length ∨ m ≠ k % 8 then none
        else (j.intervals last (mcus - j.restart) (k + 1) cuts).map fun x => out ++ x
  | mcus, _, [] =>
    if j.restart ≠ 0 ∧ j.restart < mcus then none else (j.mcuRun mcus [] last).map (·.1)

/-- The MCUs of the image. -/
def JpegHead.mcus (j : JpegHead) : Nat :=
  let (h, v, _) := j.mcu
  ceilDiv j.width (8 * h) * ceilDiv j.height (8 * v)

/-- The dequantised blocks of an image, none where its entropy-coded data fails (R120 cause 0x06): an invalid code, a restart
marker out of sequence, or data that end before the last MCU, as they do where the scan lacks a component. -/
def JpegHead.blockData (j : JpegHead) : Option (List (List Int)) :=
  if j.scan.length ≠ j.comps.length ∨ (j.scan.any fun x => decide (j.comps.length ≤ x.1)) = true then none
  else
    let (cuts, last) := jpegCuts (j.rest.length + 1) j.rest []
    j.intervals last j.mcus 0 cuts

/-! ### Decoding (R119 to R122) -/

/-- Bytes of an image in an output layout (R119): interleaved, C16 or C32. -/
def decodeBytes (layout w h n : Nat) : Nat := w * h * (if layout = 0 then n else 16 * layout)

/-- The bytes of a decoded image (R119): interleaved samples, or blocks of 16 or 32 channels, whose channels beyond the
image's components the spec leaves open (log entry 3). A sample is a free function of the dequantised blocks: the spec
gives no inverse transform. -/
def decodedImage (layout w h n : Nat) (d : List (List Int)) : List Byte :=
  let k := if layout = 0 then n else 16 * layout
  (List.range (decodeBytes layout w h n)).map fun i =>
    if i % k < n then Config.jpegSample d (i / k * n + i % k) else Config.jpegSample d (w * h * n + i)

/-- Whether a destination in an activation store is one that R376 admits for a context. -/
def State.storeOk (s : State) (ctx die off len : Nat) : Bool :=
  off % 2 == 0 && match (s.ctx ctx).plan with
    | some p => p.tensors.any fun x => x.die == die && decide (x.off ≤ off) && decide (off + len ≤ x.off + x.len)
    | none => false

/-- Writes an image to the destination of a request (R119). -/
def State.placeImage (s : State) (r : DecReq) (d : List Byte) : State :=
  let die := leAt r.body 3 1
  let at' := leAt r.body 16 8
  if d = [] then s
  else if die = 0xFF then
    match (s.ring r.ring).port with
    | some p => s.hostWrite p at' d
    | none => s
  else if s.storeOk (s.ring r.ring).ctx die at' d.length ∨ r.ring = noRing then
    ((s.land die 2 at' d false).portBytes true (0x60 + die) d.length).countStore die (s.ring r.ring).ctx 7 at' d.length
  else s

/-- A request is rejected or abandoned (R122): its substitute is written where it declared its dimensions. Where the
headers claim neither 1 nor 3 components, an interleaved substitute has a free number of the two (log entry 3). -/
def State.decodeFails (s : State) (r : DecReq) (status : Nat) : State :=
  let ew := leAt r.body 4 2
  let eh := leAt r.body 6 2
  let layout := leAt r.body 2 1
  let claimed := (parseJpeg r.data).comps.length
  let (f, s) := s.takeFree
  let n := if claimed = 1 ∨ claimed = 3 then claimed else 1 + 2 * (f % 2)
  let s := if ew ≠ 0 ∧ eh ≠ 0 then
      s.placeImage r (List.replicate (decodeBytes layout ew eh n) (BitVec.ofNat 8 (s.reg K.decodeSubstituteValue)))
    else s
  let s := if status = Status.timeout then s.bump K.decodesAbandoned else s.bump K.decodesRejected
  s.finishCmd r.ring r.index status

/-- A request is rejected under R120 with a cause. -/
def State.decodeRejected (s : State) (r : DecReq) (cause : Nat) : State :=
  (s.setReg K.lastRejectCause cause).decodeFails r Status.imageFormat

/-- JPEG_DECODE (R119, R120): the descriptor, the headers, the destination; then the queue of its decoder context. -/
def State.jpegDecode (s : State) (ring : Nat) (c : RingCmd) (data : List Byte) : State :=
  let b := c.body
  let ctx := (s.ring ring).ctx
  let die := leAt b 3 1
  let len := leAt b 24 4
  let s := s.startCmd ring c.index
  if 3 < leAt b 1 1 ∨ leAt b 2 1 % 4 = 3 ∨ (1 < die ∧ die ≠ 0xFF) ∨ len = 0 ∨ 16777216 < len then
    s.finishCmd ring c.index Status.descriptorInvalid
  else if die ≠ 0xFF ∧ (ctx = 0 ∨ (s.ctx ctx).st = .running) then s.finishCmd ring c.index Status.contextState
  else
    let d := fitBytes len data
    let s := s.portBytes true (0x62 + (s.ring ring).port.getD 0) len
    let j := parseJpeg d
    let due := if leAt b 32 8 = 0 then s.pos + s.reg K.decodeDeadlineDefault else leAt b 32 8
    let r : DecReq := { ring, index := c.index, body := b, data := d, deadline := due, width := j.width, height := j.height }
    match j.cause (leAt b 4 2) (leAt b 6 2) with
    | some k => s.decodeRejected r k
    | none =>
      if die ≠ 0xFF ∧ s.storeOk ctx die (leAt b 16 8) (decodeBytes (leAt b 2 1) j.width j.height j.comps.length) = false then
        s.finishCmd ring c.index Status.valueRange
      else
        let q := SMap.get [] s.pipe.decode (leAt b 1 1)
        { s with pipe := { s.pipe with decode := SMap.set [] s.pipe.decode (leAt b 1 1) (q ++ [r]) } }

/-- JPEG_DECODE (R119): on a HELD ring the read of the image pauses, and the command does not start (R386). -/
def execJpegDecode (ring : Nat) (data : List Byte) (s : State) : Host.Outcome State Fault Refusal :=
  s.ringRow ring 0x40 fun c s => if (s.ring ring).st = .held then s else s.jpegDecode ring c data

/-- Requests whose command was discarded meanwhile (R412) leave the queues. -/
def State.pruneDecodes (s : State) : State :=
  let live := fun (r : DecReq) => r.ring == noRing || (s.ring r.ring).cmds.any fun c => c.index == r.index && c.st == .started
  let l := s.pipe.decode.map fun (p : Nat × List DecReq) => (p.1, p.2.filter live)
  { s with pipe := { s.pipe with decode := l.filter (fun p => p.2 != []) } }

/-- The decoder context that the core serves: the first with work, from its turn on (R121). -/
def State.decServed (s : State) : Option Nat :=
  ((List.range 4).map fun k => (s.pipe.decTurn + k) % 4).find? fun c => SMap.get [] s.pipe.decode c != []

/-- Sets the queue of a decoder context. -/
def State.setDecode (s : State) (c : Nat) (l : List DecReq) : State :=
  { s with pipe := { s.pipe with decode := SMap.set [] s.pipe.decode c l } }

/-- PCLK cycles until the core leaves a request: the rest of its MCU row, at one sample a cycle, or 4,096 (R117, R121). -/
def DecReq.slice (r : DecReq) (j : JpegHead) : Nat :=
  let row := max 1 (j.rowBlocks * 64)
  min 4096 (row - r.used % row)

/-- The turn goes to the next context with work (R121). -/
def State.nextTurn (s : State) (c : Nat) : State :=
  let s := { s with pipe := { s.pipe with decTurn := (c + 1) % 4 } }
  { s with pipe := { s.pipe with decTurn := s.decServed.getD c } }

/-- Whether a request is abandoned (R121): the emitted IBP has reached its deadline, or it has used its core time. -/
def State.decLate (s : State) (r : DecReq) : Bool :=
  decide (r.deadline ≤ s.pos) || decide (s.reg K.decodeCycleLimit ≤ r.used)

/-- The core leaves a context after an MCU row or 4,096 cycles, whichever comes first (R117, R121). -/
def State.decodeSwitch (s : State) : State :=
  let s := s.pruneDecodes
  match s.decServed with
  | none => s
  | some c =>
    match SMap.get [] s.pipe.decode c with
    | [] => s
    | r :: rest => (s.setDecode c ({ r with used := r.used + r.slice (parseJpeg r.data) } :: rest)).nextTurn c

/-- DECODE_CONTEXT_SWITCH (R121). -/
def execDecodeContextSwitch (s : State) : Host.Outcome State Fault Refusal := .next s.decodeSwitch

/-- The decode that the core serves ends (R122), fails on its entropy-coded data (R120), or is abandoned with the cycles
of its last slice (R121); then the turn passes on. -/
def State.decodeDone (s : State) : State :=
  let s := s.pruneDecodes
  match s.decServed with
  | none => s
  | some c =>
    match SMap.get [] s.pipe.decode c with
    | [] => s
    | r :: rest =>
      let s := (s.setDecode c rest).nextTurn c
      let j := parseJpeg r.data
      if s.decLate { r with used := r.used + r.slice j } then s.decodeFails r Status.timeout
      else match j.blockData with
        | none => s.decodeRejected r 6
        | some blocks =>
          let d := decodedImage (leAt r.body 2 1) r.width r.height j.comps.length blocks
          ((s.placeImage r d).bump K.decodesCompleted).finishCmd r.ring r.index Status.ok
            (r.width + 65536 * r.height + 2 ^ 32 * (d.length % 2 ^ 32))

/-- JPEG_DECODE_DONE (R122). -/
def execJpegDecodeDone (s : State) : Host.Outcome State Fault Refusal := .next s.decodeDone

/-- A decode whose deadline the emitted IBP has reached, or that has used its core time, is abandoned (R121). -/
def State.decodeAbandon (s : State) : State :=
  let s := s.pruneDecodes
  match s.pipe.decode.findSome? fun p => (p.2.find? fun r => s.decLate r).map fun r => (p.1, r) with
  | none => s
  | some (c, r) =>
    (s.setDecode c ((SMap.get [] s.pipe.decode c).filter fun x => x != r)).decodeFails r Status.timeout

/-- JPEG_DECODE_ABANDONED (R121). -/
def execJpegDecodeAbandoned (s : State) : Host.Outcome State Fault Refusal := .next s.decodeAbandon

end Sys2Proof.Machine
end

