-- ==== Sys2Proof/Machine/Tick.lean ====
section
/-! DEFINITION. TCLK_TICK: what the time unit and the units on its clock do within one tick, in the order of R19, and the
work that is bounded by ticks alone (R18, R19, R24 to R28, R65, R109, R265, R270, R272, R282, R295, R412, R417). The
command ends the tick in progress (log entry 22). -/

namespace Sys2Proof.Machine

/-! ### Stripes (R28, R64, R184, R414, R416) -/

/-- Whether an entry belongs to the generation that a stripe is processed under (R64): the streams, the pipelines, and the
decision parameters. -/
def inGeneration (k : Nat) : Bool :=
  let x := k / 256
  x / 256 == 5 || x / 256 == 6 || (decide (0x0A02 ≤ x) && decide (x ≤ 0x0A05)) || x == 0x0824

/-- Whether context 0 processes the stripe that begins now (R414, R419). -/
def State.processes (s : State) : Bool :=
  s.rtPlan.isSome && (s.ctx 0).st != .gloved && (s.ctx 0).st != .stopped && s.faults.recovery.isNone

/-- A stripe begins at the trigger of its first line (R64, R184, R414, R416, R418). A stream start gives FallbackOrigin its
value until the first track step after it: what an earlier step sent comes to nothing. -/
def State.beginStripe (s : State) (j : Nat) : State :=
  if s.processes then
    let st : Stripe :=
      { num := j, gen := s.reg K.configGeneration, need := s.liveReads, start := s.belt.streamStart
        vals := s.regs.filter fun p => inGeneration p.1
        mesh := (List.range 16).foldl (fun m i => SMap.set [] m i (s.blob (K.meshTable i))) [] }
    let s := s.setStripe st
    let s := if st.start then
        ({ s with
          belt := { s.belt with startStripe := j }
          tracks := { s.tracks with originMsg := [] } } : State).setReg K.fallbackOrigin (s.stripePos j)
      else s
    let gap : Option Gap := s.faults.gap.map fun g => { g with closeAt := some (g.closeAt.getD (s.stripePos j)) }
    { s with belt := { s.belt with stripe := j + 1, streamStart := false }, faults := { s.faults with gap } }
  else
    { s with
      belt := { s.belt with stripe := j + 1 }
      pipe := { s.pipe with passing := s.pipe.passing ++ [{ num := j, height := s.stripeS, need := s.liveReads }] } }

/-- Begins every stripe up to one whose first line is due. -/
def State.beginTo (s : State) (j : Nat) : State :=
  let a := s.nextStripe
  (List.range (j + 1 - a)).foldl (fun s i => s.beginStripe (a + i)) s

/-- Stripes where no stream is waited for (R28): without a REALTIME plan each is complete once the emitted IBP reaches
its last line; with one, each begins once the IBP reaches its first line, whatever the belt does. -/
def State.freeStripes (s : State) : State :=
  if s.rtPlan.isNone then
    let a := s.stripeAhead
    if s.belt.stripe < a then
      ({ s with belt := { s.belt with stripe := a } } : State).setReg K.currentStripe ((a - 1) % 2 ^ 48)
    else s
  else
    let base := s.linePos (lineKey s.belt.era 0)
    if s.liveReads = [] ∧ base ≤ s.belt.ibp then
      s.beginTo (lineKey s.belt.era ((s.belt.ibp - base) / s.reg K.linePitch) / s.stripeS)
    else s

/-! ### Line triggers (R24 to R26) -/

/-- A line of a stream falls due (R24, R26): it is suppressed when a later line of the same tick follows it, or when it
comes too soon after the stream's previous trigger; else it is triggered. -/
def State.lineDue (s : State) (i n : Nat) (last : Bool) : State :=
  let s := if s.liveReads.contains i then s.beginTo (n / s.stripeS) else s
  let s := s.setReg (K.streamNextLine i) ((n + 1) % 2 ^ 48)
  let soon : Bool := match SMap.get 0 s.belt.lastTrig i with
    | 0 => false
    | t + 1 => decide (4 * (s.tick - t) < s.reg K.triggerMinInterval)
  if !last || soon then (s.bump K.suppressedTriggers).markMissing i n false
  else
    ({ s with belt := { s.belt with lastTrig := SMap.set 0 s.belt.lastTrig i (s.tick + 1) } } : State).triggerLine i n

/-- Every line of a stream whose trigger position the emitted IBP has reached (R24, R26). -/
def State.triggerStream (s : State) (i : Nat) : State :=
  let a := s.nextLine i
  let b := s.lineAhead i
  if s.reg (K.streamLinks i) = 0 then s
  else (List.range (b - a)).foldl (fun s k => s.lineDue i (a + k) (a + k + 1 == b)) s

/-- Step 3 of R19 for the lines: a commit that waits takes effect first, at the trigger of the stripe's first line (R64). -/
def State.triggerPass (s : State) : State :=
  let s := s.commitIfDue
  let s := if s.comparesRun then (List.range 16).foldl (fun s i => s.triggerStream i) s else s
  s.freeStripes

/-! ### Valve events (R265, R268 to R272, R295) -/

/-- Step 3 of R19 for the valve events. -/
def State.valvePass (s : State) (prev : Nat) : State :=
  let s := if s.comparesRun then (s.eject.pulses.map (·.1)).foldl (fun s ch => s.tickChan ch) s else s.channelsOff
  ([0, 1, 2, 3].foldl (fun s p => s.armPass p) (s.refPass prev)).tallyPulses

/-! ### Fast counters (R13, R282) -/

/-- The level of a fast input as counted: a new level counts once the terminal has held it for two ticks. -/
def State.fastLevel (s : State) (n : Nat) (old : Bool) : Bool :=
  let x := s.input n
  if x.raw ≠ old ∧ x.rawSince < s.tick then x.raw else old

/-- The step of a fast counter and whether both quadrature inputs changed at once (R282). -/
def fastStep (mode : Nat) (a b a' b' : Bool) : Int × Bool :=
  let rise := a' && !a
  match mode with
  | 1 => (if rise then 1 else 0, false)
  | 2 => (if rise then (if b' then 1 else -1) else 0, false)
  | 3 =>
    if a ≠ a' ∧ b ≠ b' then (0, true)
    else if a ≠ a' then (if a' = b' then -1 else 1, false)
    else if b ≠ b' then (if a' = b' then 1 else -1, false)
    else (0, false)
  | _ => (0, false)

/-- One fast counter in one tick; BeltSource 0x02 counts inputs 0 and 1 in its own counter (R13, R282). -/
def State.fastTick (s : State) (c : Nat) : State :=
  let belt := c == 0 && s.reg K.beltSource == 2
  let mode := if belt then 3 else s.reg (K.fastCounterMode c)
  if mode = 0 then s
  else
    let f : FastIn := SMap.get {} s.field.fast c
    let a' := s.fastLevel (2 * c) f.a
    let b' := s.fastLevel (2 * c + 1) f.b
    let r := fastStep mode f.a f.b a' b'
    let s := if r.2 then s.bump (K.fastCounterEdgeErrors c) else s
    let s : State := { s with field := { s.field with fast := SMap.set {} s.field.fast c { a := a', b := b' } } }
    let go := fun (v : Nat) => (((v : Int) + r.1) % 2 ^ 32).toNat
    if belt then { s with belt := { s.belt with quad := go s.belt.quad } }
    else s.setReg (K.fastCounterValue c) (go (s.reg (K.fastCounterValue c)))

/-! ### Outputs that rest (R65, R285) -/

/-- An output that rested for a whole tick takes what its owner commands. -/
def State.restEnd (s : State) (o : Nat) : State :=
  let x := s.dirOut o
  if x.rest = true ∧ x.cmdTick < s.tick then
    let level := if s.chanEnabled o then s.eject.chanOn.contains o
      else if s.flag (K.generalOutputEnable o) then s.flag (K.generalOutputLevel o)
      else s.aliveOut == some o && s.field.alive.level
    (s.setOut o { x with rest := false }).cmdOut o level
  else s

/-! ### Teardowns (R412, R452) -/

/-- The rows of 100 µs and 300 µs of the teardowns in progress: a tag that was cut short leaves its sample, and the
commands and jobs complete. -/
def State.teardownPass (s : State) : State :=
  let s := [0, 1].foldl (fun s d => match SMap.find? s.perf.tags d with
    | some t =>
      let due : Bool := match SMap.find? s.faults.torn t.ctx with
        | some x => decide (x.start + 25000 ≤ s.tick)
        | none => true
      if bitOf t.flags 2 && due then s.writeSample d else s
    | none => s) s
  s.faults.torn.foldl (fun s p => if p.2.start + 75000 ≤ s.tick then s.finishTeardownWork p.1 else s) s

/-! ### The tick -/

/-- What the units on TCLK do in the tick in progress. -/
def State.runTick (s : State) : State :=
  let prev := s.belt.ibpPrev
  let s := (s.formIbp.triggerPass).valvePass prev
  let s := [0, 1, 2, 3].foldl (fun s c => s.fastTick c) s
  let s := (s.field.outs.map (·.1)).foldl (fun s o => s.restEnd o) s
  let s := (List.range 16).foldl (fun s i => s.pruneLines i) s.closePass
  let s := (s.gapPass.teardownPass).endActions.tryForm
  s

/-- TCLK_TICK: the tick in progress ends. Time counts on whatever the power state (R429, R441). -/
def State.tclkTick (s : State) : State :=
  if s.timeRuns then s.runTick.nextTick else { s with tick := s.tick + 1 }

/-- TCLK_TICK (R19). -/
def execTclkTick (s : State) : Host.Outcome State Fault Refusal := .next s.tclkTick

end Sys2Proof.Machine
end

