-- ==== Sys2Proof/Machine/Dispatch.lean ====
section
/-! DEFINITION. The effect of each command: one arm per constructor, each a direct call of that command's own meaning. -/

namespace Sys2Proof.Machine

/-- The effect of a command on everything but the queue. -/
def exec (i : Instr) (s : State) : Host.Outcome State Fault Refusal :=
  match i with
  | .encoderSampleLatch => Sys2Proof.Machine.execEncoderSampleLatch s
  | .sampleComplete r => Sys2Proof.Machine.execSampleComplete r s
  | .holdoverEntry => Sys2Proof.Machine.execHoldoverEntry s
  | .beltLost => Sys2Proof.Machine.execBeltLost s
  | .tclkTick => Sys2Proof.Machine.execTclkTick s
  | .beltReorigin sess val => Sys2Proof.Machine.execBeltReorigin sess val s
  | .timeCopyUpdate => Sys2Proof.Machine.execTimeCopyUpdate s
  | .bdpOpen d => Sys2Proof.Machine.execBdpOpen d s
  | .bdpClose d => Sys2Proof.Machine.execBdpClose d s
  | .bdpRead d => Sys2Proof.Machine.execBdpRead d s
  | .bdpWrite d => Sys2Proof.Machine.execBdpWrite d s
  | .bdpKeepalive d => Sys2Proof.Machine.execBdpKeepalive d s
  | .bdpOpcodeUnknown d => Sys2Proof.Machine.execBdpOpcodeUnknown d s
  | .bdpFrameMalformed d => Sys2Proof.Machine.execBdpFrameMalformed d s
  | .bdpSessionTimeout num => Sys2Proof.Machine.execBdpSessionTimeout num s
  | .dictionaryWrite sess idx sub val => Sys2Proof.Machine.execDictionaryWrite sess idx sub val s
  | .commit sess => Sys2Proof.Machine.execCommit sess s
  | .checkOnly sess => Sys2Proof.Machine.execCheckOnly sess s
  | .commitChecksEnd => Sys2Proof.Machine.execCommitChecksEnd s
  | .commitInstant => Sys2Proof.Machine.execCommitInstant s
  | .discard sess => Sys2Proof.Machine.execDiscard sess s
  | .fieldBankReset sess bank => Sys2Proof.Machine.execFieldBankReset sess bank s
  | .fieldBankTrip bank ma => Sys2Proof.Machine.execFieldBankTrip bank ma s
  | .fieldBankSupplyChange bank mv => Sys2Proof.Machine.execFieldBankSupplyChange bank mv s
  | .cameraSupplyChange mv => Sys2Proof.Machine.execCameraSupplyChange mv s
  | .logicSupplyDip mv => Sys2Proof.Machine.execLogicSupplyDip mv s
  | .powerFail mv => Sys2Proof.Machine.execPowerFail mv s
  | .softStartDone link => Sys2Proof.Machine.execSoftStartDone link s
  | .loadSenseRetry link ohms => Sys2Proof.Machine.execLoadSenseRetry link ohms s
  | .cameraBootTimeExpiry link => Sys2Proof.Machine.execCameraBootTimeExpiry link s
  | .wordLockGained link => Sys2Proof.Machine.execWordLockGained link s
  | .wordLockLost link => Sys2Proof.Machine.execWordLockLost link s
  | .retrainTimeout link => Sys2Proof.Machine.execRetrainTimeout link s
  | .identificationRetry stream => Sys2Proof.Machine.execIdentificationRetry stream s
  | .rateLockTimeout link => Sys2Proof.Machine.execRateLockTimeout link s
  | .connectionTestEnd link errors => Sys2Proof.Machine.execConnectionTestEnd link errors s
  | .controlAcknowledgment link ack => Sys2Proof.Machine.execControlAcknowledgment link ack s
  | .controlAckTimeout link => Sys2Proof.Machine.execControlAckTimeout link s
  | .triggerPacket stream => Sys2Proof.Machine.execTriggerPacket stream s
  | .streamPacket stream p => Sys2Proof.Machine.execStreamPacket stream p s
  | .eventPacket stream e => Sys2Proof.Machine.execEventPacket stream e s
  | .heartbeatTimeout stream => Sys2Proof.Machine.execHeartbeatTimeout stream s
  | .streamDisableDrainEnd stream => Sys2Proof.Machine.execStreamDisableDrainEnd stream s
  | .cameraPowerOverload link mw => Sys2Proof.Machine.execCameraPowerOverload link mw s
  | .cameraPowerFastTrip link mw => Sys2Proof.Machine.execCameraPowerFastTrip link mw s
  | .eyeScan sess link => Sys2Proof.Machine.execEyeScan sess link s
  | .eyeScanDone map width height => Sys2Proof.Machine.execEyeScanDone map width height s
  | .streamRestart sess stream => Sys2Proof.Machine.execStreamRestart sess stream s
  | .cameraRegRead sess => Sys2Proof.Machine.execCameraRegRead sess s
  | .cameraRegWrite sess => Sys2Proof.Machine.execCameraRegWrite sess s
  | .pipelineStripeStart pipe corrupt => Sys2Proof.Machine.execPipelineStripeStart pipe corrupt s
  | .stripeReady stripe cyc => Sys2Proof.Machine.execStripeReady stripe cyc s
  | .paramSetSwitch sess stream => Sys2Proof.Machine.execParamSetSwitch sess stream s
  | .paramSetTakesForce stream => Sys2Proof.Machine.execParamSetTakesForce stream s
  | .jpegEncodeDone => Sys2Proof.Machine.execJpegEncodeDone s
  | .jpegDecode ring data => Sys2Proof.Machine.execJpegDecode ring data s
  | .decodeContextSwitch => Sys2Proof.Machine.execDecodeContextSwitch s
  | .jpegDecodeDone => Sys2Proof.Machine.execJpegDecodeDone s
  | .jpegDecodeAbandoned => Sys2Proof.Machine.execJpegDecodeAbandoned s
  | .kernelStart ctx kernel cyc obs => Sys2Proof.Machine.execKernelStart ctx kernel cyc obs s
  | .kernelEnd ctx kernel cyc => Sys2Proof.Machine.execKernelEnd ctx kernel cyc s
  | .substitutionChange => Sys2Proof.Machine.execSubstitutionChange s
  | .arrayRetest sess code => Sys2Proof.Machine.execArrayRetest sess code s
  | .arrayRetestDone pass => Sys2Proof.Machine.execArrayRetestDone pass s
  | .arrayRetire sess code => Sys2Proof.Machine.execArrayRetire sess code s
  | .arrayRestore sess code => Sys2Proof.Machine.execArrayRestore sess code s
  | .planUploadBegin sess length => Sys2Proof.Machine.execPlanUploadBegin sess length s
  | .planUploadData sess data => Sys2Proof.Machine.execPlanUploadData sess data s
  | .planUploadEnd sess slot => Sys2Proof.Machine.execPlanUploadEnd sess slot s
  | .planSlotClear sess slot => Sys2Proof.Machine.execPlanSlotClear sess slot s
  | .periodStart cyc => Sys2Proof.Machine.execPeriodStart cyc s
  | .emptyPeriod cyc => Sys2Proof.Machine.execEmptyPeriod cyc s
  | .slotStart die slot cyc => Sys2Proof.Machine.execSlotStart die slot cyc s
  | .periodEnd cyc => Sys2Proof.Machine.execPeriodEnd cyc s
  | .stepStart ctx cyc => Sys2Proof.Machine.execStepStart ctx cyc s
  | .stepEnd ctx cyc => Sys2Proof.Machine.execStepEnd ctx cyc s
  | .flush sess => Sys2Proof.Machine.execFlush sess s
  | .decisionRecordTakeUp => Sys2Proof.Machine.execDecisionRecordTakeUp s
  | .fallbackOriginReceive => Sys2Proof.Machine.execFallbackOriginReceive s
  | .minOnTimeClose chan => Sys2Proof.Machine.execMinOnTimeClose chan s
  | .maxOnTimeExpiry chan => Sys2Proof.Machine.execMaxOnTimeExpiry chan s
  | .splitReopen chan => Sys2Proof.Machine.execSplitReopen chan s
  | .valveTestPulse sess val => Sys2Proof.Machine.execValveTestPulse sess val s
  | .testPulseEnd => Sys2Proof.Machine.execTestPulseEnd s
  | .fireErrorClear sess => Sys2Proof.Machine.execFireErrorClear sess s
  | .readbackEdge out level => Sys2Proof.Machine.execReadbackEdge out level s
  | .inputRawEdge input level => Sys2Proof.Machine.execInputRawEdge input level s
  | .inputFilterExpiry input => Sys2Proof.Machine.execInputFilterExpiry input s
  | .pulseWindowEnd input level => Sys2Proof.Machine.execPulseWindowEnd input level s
  | .sensorSupplyTrip ma => Sys2Proof.Machine.execSensorSupplyTrip ma s
  | .sensorSupplyReset sess => Sys2Proof.Machine.execSensorSupplyReset sess s
  | .outputReadbackCheck out => Sys2Proof.Machine.execOutputReadbackCheck out s
  | .currentLimitExpiry out => Sys2Proof.Machine.execCurrentLimitExpiry out s
  | .externalVoltageDetect out => Sys2Proof.Machine.execExternalVoltageDetect out s
  | .externalVoltageClear out => Sys2Proof.Machine.execExternalVoltageClear out s
  | .openLoadDetect out => Sys2Proof.Machine.execOpenLoadDetect out s
  | .outputFaultClear sess out => Sys2Proof.Machine.execOutputFaultClear sess out s
  | .generalOutputLevel sess out level => Sys2Proof.Machine.execGeneralOutputLevel sess out level s
  | .aliveHalfPeriod => Sys2Proof.Machine.execAliveHalfPeriod s
  | .aliveStop sess => Sys2Proof.Machine.execAliveStop sess s
  | .aliveStart sess => Sys2Proof.Machine.execAliveStart sess s
  | .valveLinkLockGained port => Sys2Proof.Machine.execValveLinkLockGained port s
  | .valveLinkLockLost port => Sys2Proof.Machine.execValveLinkLockLost port s
  | .valveLinkKeepalive port => Sys2Proof.Machine.execValveLinkKeepalive port s
  | .strobe port => Sys2Proof.Machine.execStrobe port s
  | .valveLinkIdent port f => Sys2Proof.Machine.execValveLinkIdent port f s
  | .valveLinkEcho port => Sys2Proof.Machine.execValveLinkEcho port s
  | .valveLinkStatus port f => Sys2Proof.Machine.execValveLinkStatus port f s
  | .edgeStamp port f => Sys2Proof.Machine.execEdgeStamp port f s
  | .driverFault port f => Sys2Proof.Machine.execDriverFault port f s
  | .testEcho port f => Sys2Proof.Machine.execTestEcho port f s
  | .testFrameSend port => Sys2Proof.Machine.execTestFrameSend port s
  | .controlFrameRetransmit port => Sys2Proof.Machine.execControlFrameRetransmit port s
  | .identTimeout port => Sys2Proof.Machine.execIdentTimeout port s
  | .statusTimeout port => Sys2Proof.Machine.execStatusTimeout port s
  | .cableDelayRemeasure port => Sys2Proof.Machine.execCableDelayRemeasure port s
  | .valveLinkBringupRetry port => Sys2Proof.Machine.execValveLinkBringupRetry port s
  | .encoderSupplyTrip chan ma => Sys2Proof.Machine.execEncoderSupplyTrip chan ma s
  | .encoderSupplyReset sess chan => Sys2Proof.Machine.execEncoderSupplyReset sess chan s
  | .auxSample chan r => Sys2Proof.Machine.execAuxSample chan r s
  | .linkSlotStart link slot cyc => Sys2Proof.Machine.execLinkSlotStart link slot cyc s
  | .memoryRead link f => Sys2Proof.Machine.execMemoryRead link f s
  | .memoryWrite link f => Sys2Proof.Machine.execMemoryWrite link f s
  | .refresh link f => Sys2Proof.Machine.execRefresh link f s
  | .scrub link f => Sys2Proof.Machine.execScrub link f s
  | .recal link cyc => Sys2Proof.Machine.execRecal link cyc s
  | .nop link f => Sys2Proof.Machine.execNop link f s
  | .replay link f => Sys2Proof.Machine.execReplay link f s
  | .upstreamFrameLanded link f => Sys2Proof.Machine.execUpstreamFrameLanded link f s
  | .nakResend link f => Sys2Proof.Machine.execNakResend link f s
  | .recalOverdue link cyc => Sys2Proof.Machine.execRecalOverdue link cyc s
  | .externalTransfer link slot write addr data => Sys2Proof.Machine.execExternalTransfer link slot write addr data s
  | .uncorrectableLogClear sess => Sys2Proof.Machine.execUncorrectableLogClear sess s
  | .planKnotAction action cyc => Sys2Proof.Machine.execPlanKnotAction action cyc s
  | .knotWaitTimeout waiter => Sys2Proof.Machine.execKnotWaitTimeout waiter s
  | .fenceRelease ring => Sys2Proof.Machine.execFenceRelease ring s
  | .tetherPortTrained port => Sys2Proof.Machine.execTetherPortTrained port s
  | .operand port p => Sys2Proof.Machine.execOperand port p s
  | .tetherWrite port p => Sys2Proof.Machine.execTetherWrite port p s
  | .readReq port p => Sys2Proof.Machine.execReadReq port p s
  | .readComp port p => Sys2Proof.Machine.execReadComp port p s
  | .knotOp port p => Sys2Proof.Machine.execKnotOp port p s
  | .knotReply port p => Sys2Proof.Machine.execKnotReply port p s
  | .errorComp port p => Sys2Proof.Machine.execErrorComp port p s
  | .tetherHeartbeat port p => Sys2Proof.Machine.execTetherHeartbeat port p s
  | .hello port p h => Sys2Proof.Machine.execHello port p h s
  | .ack port p => Sys2Proof.Machine.execAck port p s
  | .tetherRetransmit port => Sys2Proof.Machine.execTetherRetransmit port s
  | .tetherHeartbeatSend port => Sys2Proof.Machine.execTetherHeartbeatSend port s
  | .memberLost member => Sys2Proof.Machine.execMemberLost member s
  | .helloTimeout member => Sys2Proof.Machine.execHelloTimeout member s
  | .groupFormationRetry => Sys2Proof.Machine.execGroupFormationRetry s
  | .tetherDelayRemeasure => Sys2Proof.Machine.execTetherDelayRemeasure s
  | .tunnelUp port => Sys2Proof.Machine.execTunnelUp port s
  | .tunnelLost port => Sys2Proof.Machine.execTunnelLost port s
  | .tunnelHoldExpiry port => Sys2Proof.Machine.execTunnelHoldExpiry port s
  | .functionLevelReset port => Sys2Proof.Machine.execFunctionLevelReset port s
  | .hwinRegisterWrite port offset val => Sys2Proof.Machine.execHwinRegisterWrite port offset val s
  | .hwinErrorClear port val => Sys2Proof.Machine.execHwinErrorClear port val s
  | .ringEnable port => Sys2Proof.Machine.execRingEnable port s
  | .ringDisable port => Sys2Proof.Machine.execRingDisable port s
  | .hwinRingDoorbell port val => Sys2Proof.Machine.execHwinRingDoorbell port val s
  | .evqEnable port => Sys2Proof.Machine.execEvqEnable port s
  | .evqDisable port => Sys2Proof.Machine.execEvqDisable port s
  | .hwinEvqHead port val => Sys2Proof.Machine.execHwinEvqHead port val s
  | .evqTimeThreshold queue => Sys2Proof.Machine.execEvqTimeThreshold queue s
  | .hwinImgRelease port val => Sys2Proof.Machine.execHwinImgRelease port val s
  | .hwinMbxDoorbell port val => Sys2Proof.Machine.execHwinMbxDoorbell port val s
  | .hwinPortAdopt port val => Sys2Proof.Machine.execHwinPortAdopt port val s
  | .ringFetch entry => Sys2Proof.Machine.execRingFetch entry s
  | .ringCommandComplete ring => Sys2Proof.Machine.execRingCommandComplete ring s
  | .ringNop ring => Sys2Proof.Machine.execRingNop ring s
  | .copyToDevice ring data => Sys2Proof.Machine.execCopyToDevice ring data s
  | .copyFromDevice ring => Sys2Proof.Machine.execCopyFromDevice ring s
  | .planLoad ring data => Sys2Proof.Machine.execPlanLoad ring data s
  | .jobSubmit ring => Sys2Proof.Machine.execJobSubmit ring s
  | .knotAdd ring => Sys2Proof.Machine.execKnotAdd ring s
  | .knotSub ring => Sys2Proof.Machine.execKnotSub ring s
  | .knotWait ring => Sys2Proof.Machine.execKnotWait ring s
  | .knotRead ring => Sys2Proof.Machine.execKnotRead ring s
  | .knotInit ring => Sys2Proof.Machine.execKnotInit ring s
  | .fence ring => Sys2Proof.Machine.execFence ring s
  | .portLinkChange eth up rate => Sys2Proof.Machine.execPortLinkChange eth up rate s
  | .arpRequest eth ip mac target => Sys2Proof.Machine.execArpRequest eth ip mac target s
  | .arpReply eth sender target => Sys2Proof.Machine.execArpReply eth sender target s
  | .arpCacheExpiry eth ip => Sys2Proof.Machine.execArpCacheExpiry eth ip s
  | .icmpEchoRequest eth src dst data => Sys2Proof.Machine.execIcmpEchoRequest eth src dst data s
  | .sync m => Sys2Proof.Machine.execSync m s
  | .followUp m => Sys2Proof.Machine.execFollowUp m s
  | .delayResp m => Sys2Proof.Machine.execDelayResp m s
  | .pdelayReq m => Sys2Proof.Machine.execPdelayReq m s
  | .pdelayResp m => Sys2Proof.Machine.execPdelayResp m s
  | .pdelayRespFollowUp m => Sys2Proof.Machine.execPdelayRespFollowUp m s
  | .announce eth a => Sys2Proof.Machine.execAnnounce eth a s
  | .delayReqSend domain => Sys2Proof.Machine.execDelayReqSend domain s
  | .pdelayReqSend eth => Sys2Proof.Machine.execPdelayReqSend eth s
  | .syncLossTimeout domain => Sys2Proof.Machine.execSyncLossTimeout domain s
  | .domainRevert => Sys2Proof.Machine.execDomainRevert s
  | .slewComplete => Sys2Proof.Machine.execSlewComplete s
  | .holdoverLimitExpiry => Sys2Proof.Machine.execHoldoverLimitExpiry s
  | .freezeLimit die cyc => Sys2Proof.Machine.execFreezeLimit die cyc s
  | .checkpointLate die cyc => Sys2Proof.Machine.execCheckpointLate die cyc s
  | .controlStall => Sys2Proof.Machine.execControlStall s
  | .helperHalted helper => Sys2Proof.Machine.execHelperHalted helper s
  | .timeUnitHalted => Sys2Proof.Machine.execTimeUnitHalted s
  | .ejectionUnitHalted => Sys2Proof.Machine.execEjectionUnitHalted s
  | .dieTransport path => Sys2Proof.Machine.execDieTransport path s
  | .teardownEnd ctx => Sys2Proof.Machine.execTeardownEnd ctx s
  | .contextReset sess ctx => Sys2Proof.Machine.execContextReset sess ctx s
  | .deviceRecover sess => Sys2Proof.Machine.execDeviceRecover sess s
  | .recoveryResume => Sys2Proof.Machine.execRecoveryResume s
  | .faultLogClear sess => Sys2Proof.Machine.execFaultLogClear sess s
  | .faultLogNvClear sess => Sys2Proof.Machine.execFaultLogNvClear sess s
  | .powerTargetRun sess => Sys2Proof.Machine.execPowerTargetRun sess s
  | .powerTargetReady sess => Sys2Proof.Machine.execPowerTargetReady sess s
  | .powerTargetDoze sess => Sys2Proof.Machine.execPowerTargetDoze sess s
  | .powerTargetRetain sess => Sys2Proof.Machine.execPowerTargetRetain sess s
  | .powerTargetStandby sess => Sys2Proof.Machine.execPowerTargetStandby sess s
  | .powerTransitionDone => Sys2Proof.Machine.execPowerTransitionDone s
  | .autoReadyEntry => Sys2Proof.Machine.execAutoReadyEntry s
  | .wakeEvent source => Sys2Proof.Machine.execWakeEvent source s
  | .wakeTimerExpiry => Sys2Proof.Machine.execWakeTimerExpiry s
  | .temperatureSample t => Sys2Proof.Machine.execTemperatureSample t s
  | .ageingMonitorUpdate slow margin => Sys2Proof.Machine.execAgeingMonitorUpdate slow margin s
  | .cclkStepDone cyc => Sys2Proof.Machine.execCclkStepDone cyc s
  | .replanNow sess => Sys2Proof.Machine.execReplanNow sess s
  | .counterStart sess => Sys2Proof.Machine.execCounterStart sess s
  | .counterStop sess => Sys2Proof.Machine.execCounterStop sess s
  | .counterClear sess => Sys2Proof.Machine.execCounterClear sess s
  | .counterSnapshot sess => Sys2Proof.Machine.execCounterSnapshot sess s
  | .shadowRefresh cyc0 cyc1 => Sys2Proof.Machine.execShadowRefresh cyc0 cyc1 s
  | .bandwidthWindowEnd => Sys2Proof.Machine.execBandwidthWindowEnd s
  | .bandwidthClear sess => Sys2Proof.Machine.execBandwidthClear sess s
  | .sampleLogClear sess => Sys2Proof.Machine.execSampleLogClear sess s
  | .startUp cause fails => Sys2Proof.Machine.execStartUp cause fails s
  | .readiness => Sys2Proof.Machine.execReadiness s
  | .blobUploadBegin sess length => Sys2Proof.Machine.execBlobUploadBegin sess length s
  | .blobUploadData sess data => Sys2Proof.Machine.execBlobUploadData sess data s
  | .blobUploadEnd sess slot => Sys2Proof.Machine.execBlobUploadEnd sess slot s
  | .blobSlotClear sess slot => Sys2Proof.Machine.execBlobSlotClear sess slot s
  | .attestRequest sess => Sys2Proof.Machine.execAttestRequest sess s
  | .attestReportReady => Sys2Proof.Machine.execAttestReportReady s
  | .statisticsClear sess val => Sys2Proof.Machine.execStatisticsClear sess val s
  | .usb4LinkChange port up rate => Sys2Proof.Machine.execUsb4LinkChange port up rate s
  | .downstreamCrcFailure link f => Sys2Proof.Machine.execDownstreamCrcFailure link f s
  | .tetherPacketDiscarded port p => Sys2Proof.Machine.execTetherPacketDiscarded port p s
  | .valveLinkFrameDiscarded port f => Sys2Proof.Machine.execValveLinkFrameDiscarded port f s
  | .unsupportedPacket link => Sys2Proof.Machine.execUnsupportedPacket link s
  | .ethernetFrameDropped eth => Sys2Proof.Machine.execEthernetFrameDropped eth s
  | .ptpMessageIgnored eth => Sys2Proof.Machine.execPtpMessageIgnored eth s
  | .groupStop port p => Sys2Proof.Machine.execGroupStop port p s
  | .member0Bc bc => Sys2Proof.Machine.execMember0Bc bc s
  | .linkTestPattern link errors => Sys2Proof.Machine.execLinkTestPattern link errors s
  | .tetherTestPattern port errors => Sys2Proof.Machine.execTetherTestPattern port errors s

end Sys2Proof.Machine
end

