-- ==== Sys2Proof/WellFormed.lean ====
section
/-! DEFINITION. When a command is well formed on an assembly: every unit that it names is one the assembly carries (R1,
R38, R39, R48), every number fits the field that spells it, and a BDP row carries a frame of its own opcode (R70 to R73).
The rows' meanings do not rest on it: they stop by name on a unit that is absent, and answer what a value is refused with. -/

namespace Sys2Proof

open Machine

/-- A datagram with the Magic of BDP that a port's BDP server takes up (R69, R70). -/
def bdpFrame (d : Datagram) : Bool :=
  decide (d.eth < 2) && decide (2 ≤ d.payload.length) && decide (d.payload.length ≤ 1472) && beAt d.payload 0 2 == 0x4244

/-- Whether a command is well formed on an assembly. -/
def Instr.wf (a : Part) : Instr → Bool
  | .encoderSampleLatch => true
  | .sampleComplete _ => true
  | .holdoverEntry => true
  | .beltLost => true
  | .tclkTick => true
  | .beltReorigin sess val => decide (sess < 65536) && decide (val < 2 ^ 64)
  | .timeCopyUpdate => true
  | .bdpOpen d => bdpFrame d && (bdpItems d.payload 32).isSome && bdpOp d.payload == 1
  | .bdpClose d => bdpFrame d && (bdpItems d.payload 32).isSome && bdpOp d.payload == 2
  | .bdpRead d => bdpFrame d && (bdpItems d.payload 32).isSome && bdpOp d.payload == 3
  | .bdpWrite d => bdpFrame d && (bdpItems d.payload 32).isSome && bdpOp d.payload == 4
  | .bdpKeepalive d => bdpFrame d && (bdpItems d.payload 32).isSome && bdpOp d.payload == 5
  | .bdpOpcodeUnknown d => bdpFrame d && (bdpItems d.payload 32).isSome && decide (bdpOp d.payload = 0 ∨ 5 < bdpOp d.payload)
  | .bdpFrameMalformed d => bdpFrame d && (bdpItems d.payload 32).isNone
  | .bdpSessionTimeout num => decide (num < 65536)
  | .dictionaryWrite sess idx sub _ => decide (sess < 65536) && decide (idx < 65536) && decide (sub < 256)
  | .commit sess => decide (sess < 65536)
  | .checkOnly sess => decide (sess < 65536)
  | .commitChecksEnd => true
  | .commitInstant => true
  | .discard sess => decide (sess < 65536)
  | .fieldBankReset sess bank => decide (sess < 65536) && decide (bank < 256)
  | .fieldBankTrip bank _ => decide (bank < 4)
  | .fieldBankSupplyChange bank _ => decide (bank < 4)
  | .cameraSupplyChange _ => true
  | .logicSupplyDip _ => true
  | .powerFail _ => true
  | .softStartDone link => decide (link < a.links)
  | .loadSenseRetry link _ => decide (link < a.links)
  | .cameraBootTimeExpiry link => decide (link < a.links)
  | .wordLockGained link => decide (link < a.links)
  | .wordLockLost link => decide (link < a.links)
  | .retrainTimeout link => decide (link < a.links)
  | .identificationRetry stream => decide (stream < 16)
  | .rateLockTimeout link => decide (link < a.links)
  | .connectionTestEnd link _ => decide (link < a.links)
  | .controlAcknowledgment link _ => decide (link < a.links)
  | .controlAckTimeout link => decide (link < a.links)
  | .triggerPacket stream => decide (stream < 16)
  | .streamPacket stream p => decide (stream < 16) && decide (p.link < a.links)
  | .eventPacket stream _ => decide (stream < 16)
  | .heartbeatTimeout stream => decide (stream < 16)
  | .streamDisableDrainEnd stream => decide (stream < 16)
  | .cameraPowerOverload link _ => decide (link < a.links)
  | .cameraPowerFastTrip link _ => decide (link < a.links)
  | .eyeScan sess link => decide (sess < 65536) && decide (link < 256)
  | .eyeScanDone _ width height => decide (width < 65) && decide (height < 65)
  | .streamRestart sess stream => decide (sess < 65536) && decide (stream < 256)
  | .cameraRegRead sess => decide (sess < 65536)
  | .cameraRegWrite sess => decide (sess < 65536)
  | .pipelineStripeStart pipe _ => decide (pipe < 4 * a.ioDies)
  | .stripeReady _ _ => true
  | .paramSetSwitch sess stream => decide (sess < 65536) && decide (stream < 256)
  | .paramSetTakesForce stream => decide (stream < 16)
  | .jpegEncodeDone => true
  | .jpegDecode ring _ => decide (ring < 16384)
  | .decodeContextSwitch => true
  | .jpegDecodeDone => true
  | .jpegDecodeAbandoned => true
  | .kernelStart ctx _ _ _ => decide (ctx < 16)
  | .kernelEnd ctx _ _ => decide (ctx < 16)
  | .substitutionChange => true
  | .arrayRetest sess code => decide (sess < 65536) && decide (code < 65536)
  | .arrayRetestDone _ => true
  | .arrayRetire sess code => decide (sess < 65536) && decide (code < 65536)
  | .arrayRestore sess code => decide (sess < 65536) && decide (code < 65536)
  | .planUploadBegin sess length => decide (sess < 65536) && decide (length < 2 ^ 32)
  | .planUploadData sess _ => decide (sess < 65536)
  | .planUploadEnd sess slot => decide (sess < 65536) && decide (slot < 256)
  | .planSlotClear sess slot => decide (sess < 65536) && decide (slot < 256)
  | .periodStart _ => true
  | .emptyPeriod _ => true
  | .slotStart die _ _ => decide (die < 2)
  | .periodEnd _ => true
  | .stepStart ctx _ => decide (ctx < 16)
  | .stepEnd ctx _ => decide (ctx < 16)
  | .flush sess => decide (sess < 65536)
  | .decisionRecordTakeUp => true
  | .fallbackOriginReceive => true
  | .minOnTimeClose chan => decide (chan < 1152)
  | .maxOnTimeExpiry chan => decide (chan < 1152)
  | .splitReopen chan => decide (chan < 1152)
  | .valveTestPulse sess val => decide (sess < 65536) && decide (val < 2 ^ 32)
  | .testPulseEnd => true
  | .fireErrorClear sess => decide (sess < 65536)
  | .readbackEdge out _ => decide (out < 128)
  | .inputRawEdge input _ => decide (input < 32)
  | .inputFilterExpiry input => decide (input < 32)
  | .pulseWindowEnd input _ => decide (input < 32)
  | .sensorSupplyTrip _ => true
  | .sensorSupplyReset sess => decide (sess < 65536)
  | .outputReadbackCheck out => decide (out < 128)
  | .currentLimitExpiry out => decide (out < 128)
  | .externalVoltageDetect out => decide (out < 128)
  | .externalVoltageClear out => decide (out < 128)
  | .openLoadDetect out => decide (out < 128)
  | .outputFaultClear sess out => decide (sess < 65536) && decide (out < 256)
  | .generalOutputLevel sess out level => decide (sess < 65536) && decide (out < 128) && decide (level < 256)
  | .aliveHalfPeriod => true
  | .aliveStop sess => decide (sess < 65536)
  | .aliveStart sess => decide (sess < 65536)
  | .valveLinkLockGained port => decide (port < 4)
  | .valveLinkLockLost port => decide (port < 4)
  | .valveLinkKeepalive port => decide (port < 4)
  | .strobe port => decide (port < 4)
  | .valveLinkIdent port _ => decide (port < 4)
  | .valveLinkEcho port => decide (port < 4)
  | .valveLinkStatus port _ => decide (port < 4)
  | .edgeStamp port _ => decide (port < 4)
  | .driverFault port _ => decide (port < 4)
  | .testEcho port _ => decide (port < 4)
  | .testFrameSend port => decide (port < 4)
  | .controlFrameRetransmit port => decide (port < 4)
  | .identTimeout port => decide (port < 4)
  | .statusTimeout port => decide (port < 4)
  | .cableDelayRemeasure port => decide (port < 4)
  | .valveLinkBringupRetry port => decide (port < 4)
  | .encoderSupplyTrip chan _ => decide (chan < 2)
  | .encoderSupplyReset sess chan => decide (sess < 65536) && decide (chan < 256)
  | .auxSample chan _ => decide (chan < 2)
  | .linkSlotStart link _ _ => decide (link / 16 < a.memDies)
  | .memoryRead link _ => decide (link / 16 < a.memDies)
  | .memoryWrite link _ => decide (link / 16 < a.memDies)
  | .refresh link _ => decide (link / 16 < a.memDies)
  | .scrub link _ => decide (link / 16 < a.memDies)
  | .recal link _ => decide (link / 16 < a.memDies)
  | .nop link _ => decide (link / 16 < a.memDies)
  | .replay link _ => decide (link / 16 < a.memDies)
  | .upstreamFrameLanded link _ => decide (link / 16 < a.memDies)
  | .nakResend link _ => decide (link / 16 < a.memDies)
  | .recalOverdue link _ => decide (link / 16 < a.memDies)
  | .externalTransfer link _ _ _ _ => decide (link / 16 < a.memDies)
  | .uncorrectableLogClear sess => decide (sess < 65536)
  | .planKnotAction _ _ => true
  | .knotWaitTimeout _ => true
  | .fenceRelease ring => decide (ring < 16384)
  | .tetherPortTrained port => decide (port < 4)
  | .operand port _ => decide (port < 4)
  | .tetherWrite port _ => decide (port < 4)
  | .readReq port _ => decide (port < 4)
  | .readComp port _ => decide (port < 4)
  | .knotOp port _ => decide (port < 4)
  | .knotReply port _ => decide (port < 4)
  | .errorComp port _ => decide (port < 4)
  | .tetherHeartbeat port _ => decide (port < 4)
  | .hello port _ _ => decide (port < 4)
  | .ack port _ => decide (port < 4)
  | .tetherRetransmit port => decide (port < 4)
  | .tetherHeartbeatSend port => decide (port < 4)
  | .memberLost member => decide (member < 8)
  | .helloTimeout member => decide (member < 8)
  | .groupFormationRetry => true
  | .tetherDelayRemeasure => true
  | .tunnelUp port => decide (port < 2)
  | .tunnelLost port => decide (port < 2)
  | .tunnelHoldExpiry port => decide (port < 2)
  | .functionLevelReset port => decide (port < 2)
  | .hwinRegisterWrite port offset val => decide (port < 2) && decide (offset < 65536) && decide (val < 2 ^ 64)
  | .hwinErrorClear port val => decide (port < 2) && decide (val < 2 ^ 64)
  | .ringEnable port => decide (port < 2)
  | .ringDisable port => decide (port < 2)
  | .hwinRingDoorbell port val => decide (port < 2) && decide (val < 2 ^ 64)
  | .evqEnable port => decide (port < 2)
  | .evqDisable port => decide (port < 2)
  | .hwinEvqHead port val => decide (port < 2) && decide (val < 2 ^ 64)
  | .evqTimeThreshold queue => decide (queue < 64)
  | .hwinImgRelease port val => decide (port < 2) && decide (val < 2 ^ 64)
  | .hwinMbxDoorbell port val => decide (port < 2) && decide (val < 2 ^ 64)
  | .hwinPortAdopt port val => decide (port < 2) && decide (val < 2 ^ 64)
  | .ringFetch entry => entry.length == 64
  | .ringCommandComplete ring => decide (ring < 16384)
  | .ringNop ring => decide (ring < 16384)
  | .copyToDevice ring _ => decide (ring < 16384)
  | .copyFromDevice ring => decide (ring < 16384)
  | .planLoad ring _ => decide (ring < 16384)
  | .jobSubmit ring => decide (ring < 16384)
  | .knotAdd ring => decide (ring < 16384)
  | .knotSub ring => decide (ring < 16384)
  | .knotWait ring => decide (ring < 16384)
  | .knotRead ring => decide (ring < 16384)
  | .knotInit ring => decide (ring < 16384)
  | .fence ring => decide (ring < 16384)
  | .portLinkChange eth _ _ => decide (eth < 2)
  | .arpRequest eth ip mac target => decide (eth < 2) && decide (ip < 2 ^ 32) && decide (mac < 2 ^ 48) && decide (target < 2 ^ 32)
  | .arpReply eth sender target => decide (eth < 2) && decide (sender.ip < 2 ^ 32) && decide (sender.mac < 2 ^ 48) && decide (target < 2 ^ 32)
  | .arpCacheExpiry eth ip => decide (eth < 2) && decide (ip < 2 ^ 32)
  | .icmpEchoRequest eth src dst _ => decide (eth < 2) && decide (src < 2 ^ 32) && decide (dst < 2 ^ 32)
  | .sync m => decide (m.eth < 2) && decide (m.transport < 2)
  | .followUp m => decide (m.eth < 2) && decide (m.transport < 2)
  | .delayResp m => decide (m.eth < 2) && decide (m.transport < 2)
  | .pdelayReq m => decide (m.eth < 2) && decide (m.transport < 2)
  | .pdelayResp m => decide (m.eth < 2) && decide (m.transport < 2)
  | .pdelayRespFollowUp m => decide (m.eth < 2) && decide (m.transport < 2)
  | .announce eth a => decide (eth < 2) && decide (a.transport < 2)
  | .delayReqSend domain => decide (domain < 2)
  | .pdelayReqSend eth => decide (eth < 2)
  | .syncLossTimeout domain => decide (domain < 2)
  | .domainRevert => true
  | .slewComplete => true
  | .holdoverLimitExpiry => true
  | .freezeLimit die _ => decide (die < 2)
  | .checkpointLate die _ => decide (die < 2)
  | .controlStall => true
  | .helperHalted helper => decide (1 ≤ helper) && decide (helper ≤ 4)
  | .timeUnitHalted => true
  | .ejectionUnitHalted => true
  | .dieTransport path => decide (1 ≤ path) && decide (path ≤ 2 + a.ioDies)
  | .teardownEnd ctx => decide (ctx < 16)
  | .contextReset sess ctx => decide (sess < 65536) && decide (ctx < 256)
  | .deviceRecover sess => decide (sess < 65536)
  | .recoveryResume => true
  | .faultLogClear sess => decide (sess < 65536)
  | .faultLogNvClear sess => decide (sess < 65536)
  | .powerTargetRun sess => decide (sess < 65536)
  | .powerTargetReady sess => decide (sess < 65536)
  | .powerTargetDoze sess => decide (sess < 65536)
  | .powerTargetRetain sess => decide (sess < 65536)
  | .powerTargetStandby sess => decide (sess < 65536)
  | .powerTransitionDone => true
  | .autoReadyEntry => true
  | .wakeEvent source => decide (source < 5)
  | .wakeTimerExpiry => true
  | .temperatureSample _ => true
  | .ageingMonitorUpdate _ _ => true
  | .cclkStepDone _ => true
  | .replanNow sess => decide (sess < 65536)
  | .counterStart sess => decide (sess < 65536)
  | .counterStop sess => decide (sess < 65536)
  | .counterClear sess => decide (sess < 65536)
  | .counterSnapshot sess => decide (sess < 65536)
  | .shadowRefresh _ _ => true
  | .bandwidthWindowEnd => true
  | .bandwidthClear sess => decide (sess < 65536)
  | .sampleLogClear sess => decide (sess < 65536)
  | .startUp _ _ => true
  | .readiness => true
  | .blobUploadBegin sess length => decide (sess < 65536) && decide (length < 2 ^ 32)
  | .blobUploadData sess _ => decide (sess < 65536)
  | .blobUploadEnd sess slot => decide (sess < 65536) && decide (slot < 256)
  | .blobSlotClear sess slot => decide (sess < 65536) && decide (slot < 256)
  | .attestRequest sess => decide (sess < 65536)
  | .attestReportReady => true
  | .statisticsClear sess val => decide (sess < 65536) && decide (val < 65536)
  | .usb4LinkChange port _ _ => decide (port < 2)
  | .downstreamCrcFailure link _ => decide (link / 16 < a.memDies)
  | .tetherPacketDiscarded port _ => decide (port < 4)
  | .valveLinkFrameDiscarded port _ => decide (port < 4)
  | .unsupportedPacket link => decide (link < a.links)
  | .ethernetFrameDropped eth => decide (eth < 2)
  | .ptpMessageIgnored eth => decide (eth < 2)
  | .groupStop port _ => decide (port < 4)
  | .member0Bc bc => decide (bc < 2 ^ 48)
  | .linkTestPattern link _ => decide (link < a.links)
  | .tetherTestPattern port _ => decide (port < 4)

end Sys2Proof
end

