-- ==== Sys2Proof/Safety.lean ====
section
/-! DEFINITION. What claims about runs are stated in: the canonical form of the tables, what a command changes and what it
leaves unchanged, and queues of well-formed commands. -/

namespace Sys2Proof.Machine

/-- The tables of dictionary values and the bytes of the memory-side dies are in their one canonical form: numbers
strictly rising, and nothing listed that an unlisted number would read as (R5, R323). Equal contents are then equal data. -/
def State.canon (s : State) : Prop :=
  SMap.wf (defaultOf s.mfg) s.regs = true ∧ SMap.wf (blobDefault s.mfg) s.blobs = true ∧
    SMap.wf (fun _ => (0 : Byte)) s.memory.cells = true

/-- The areas of the state, as its fields list them. The fixed-size dictionary values are not among them: `Entries` says
which of those a command may change. What manufacture wrote and the waiting commands never change (R459, R461). -/
inductive Area
  | tick | freeN | blobs | ctl | belt | supplies | intake | pipe | engine | tracks | eject | field | memory | knots | host
  | net | faults | power | perf | boot | out
  deriving DecidableEq, Repr

/-- An area holds the same in both states. -/
def Area.same (s t : State) : Area → Prop
  | .tick => t.tick = s.tick
  | .freeN => t.freeN = s.freeN
  | .blobs => t.blobs = s.blobs
  | .ctl => t.ctl = s.ctl
  | .belt => t.belt = s.belt
  | .supplies => t.supplies = s.supplies
  | .intake => t.intake = s.intake
  | .pipe => t.pipe = s.pipe
  | .engine => t.engine = s.engine
  | .tracks => t.tracks = s.tracks
  | .eject => t.eject = s.eject
  | .field => t.field = s.field
  | .memory => t.memory = s.memory
  | .knots => t.knots = s.knots
  | .host => t.host = s.host
  | .net => t.net = s.net
  | .faults => t.faults = s.faults
  | .power => t.power = s.power
  | .perf => t.perf = s.perf
  | .boot => t.boot = s.boot
  | .out => t.out = s.out

/-- Which fixed-size dictionary values a command may change: every one, or those listed. A number below 65,536 is an index
and stands for all its subindices; any other is the key of one entry (R5). -/
inductive Entries
  | all
  | only (l : List Nat)
  deriving DecidableEq, Repr

/-- Whether the value of an entry key may change. -/
def Entries.has : Entries → Nat → Bool
  | .all, _ => true
  | .only l, k => l.any fun i =>
    (decide (k / 256 < 65536) && k / 256 == i) || (k / 256 == i / 256 && k % 256 == i % 256)

/-- The frame of a command: from `s` to `t` nothing changes but the areas of `G` and the dictionary values of `E`, and
the tables keep their canonical form. -/
structure Changes (G : List Area) (E : Entries) (s t : State) : Prop where
  mfg : t.mfg = s.mfg
  pending : t.pending = s.pending
  canon : s.canon → t.canon
  entries : ∀ k, E.has k = false → t.reg k = s.reg k
  areas : ∀ g, G.contains g = false → g.same s t

/-- Every waiting command is well formed on the assembly. -/
def State.queueWf (s : State) : Prop := ∀ c ∈ s.pending, c.wf s.mfg.part = true

/-- The invariant of every run: the tables are in canonical form, and every waiting command is well formed. -/
def Inv (s : State) : Prop := s.canon ∧ s.queueWf

end Sys2Proof.Machine
end

