-- ==== Sys2Proof/Certificates/Slice0/Obligations.lean ====
section
/-! DEFINITION. The statements for the provers. -/

open Sys2Proof Sys2Proof.Machine

/-- A step takes the command at the front of the queue and runs it on the state with the rest of the queue. -/
def Obligations.StepRunsFront : Prop :=
  ∀ (c : Instr) (rest : List Instr) (s : State),
    step { s with pending := c :: rest } = exec c { s with pending := rest }

/-- A step on an empty queue changes nothing (the model's choice, log entry 7), and reset leaves the queue empty. -/
def Obligations.StepIdles : Prop :=
  (∀ s : State, s.pending = [] → step s = .next s) ∧ State.reset.pending = []

/-- Every EncoderSamplePeriod the time unit latches the word of the source (R13, R16): the quadrature counter of source 2, the
simulated counter of source 3; an encoder channel's word comes with the sample. -/
def Obligations.SourceIsLatched : Prop :=
  ∀ (s : State),
      s.timeRuns = true →
      (s.belt.lastLatch.all fun l => decide (s.reg K.encoderSamplePeriod ≤ 4 * (s.tick - l))) = true →
      exec .encoderSampleLatch s = .next { s with belt := { s.belt with
        latch := some { tick := s.tick
                        word := if s.reg K.beltSource = 2 then s.belt.quad
                          else if s.reg K.beltSource = 3 then s.simCount else 0 }
        lastLatch := some s.tick } }

/-- A sample that its channel did not flag moves BC48 by the difference that R14 unwraps (R14 to R16). -/
def Obligations.SampleMovesTheCount : Prop :=
  ∀ (s : State) (r : EncRead) (l : Latch),
      s.belt.latch = some l →
      2 ≤ s.reg K.beltSource →
      s.belt.fresh = false →
      s.belt.rebase = false →
      s.belt.reorigin = none →
      s.belt.saturated = false →
      s.belt.st ≠ .lost →
      s.flag K.beltDirectionInvert = false →
      (unwrap 32 l.word s.belt.wPrev).natAbs ≤ s.reg K.maxStepPerSample →
      0 ≤ s.belt.bc + unwrap 32 l.word s.belt.wPrev →
      s.belt.bc + unwrap 32 l.word s.belt.wPrev < 2 ^ 48 - 1 →
      ∃ t, exec (.sampleComplete r) s = .next t ∧ t.belt.bc = s.belt.bc + unwrap 32 l.word s.belt.wPrev ∧
        t.belt.wPrev = l.word ∧ t.belt.latch = none ∧ t.belt.rejected = 0 ∧ t.belt.lastValid = s.tick ∧
        t.reg K.lastSampleWord = l.word ∧
        Changes [.freeN, .ctl, .belt, .intake, .pipe, .engine, .tracks, .eject, .field, .memory, .knots, .host,
          .faults, .power, .perf, .out] (.only [0x0208, 0x0509, 0x0804, 0x0F10, 0x100F, 0x1010, 0x1011, 0x1012, 0x1013,
          0x1205, 0x1402, 0x1703, K.lastSampleTime, K.lastSampleWord, K.samplesRejected, K.overspeedEvents,
          K.positionSaturations, K.reverseSamplesDiscarded, K.lastWakeCause, K.tracksDiscarded, K.pulsesPending,
          K.pulsesPeak, K.channelsOn, K.recordsUnrouted, K.faultLogOverwritten, K.faultRecordsSuppressed,
          K.fallbackGapOpen]) s t

/-- The time unit without valid samples (R16): HOLDOVER after two sample periods, LOST after EncoderHoldover. -/
def Obligations.BeltLossesAreTaken : Prop :=
  (∀ (s : State),
      s.belt.st = .forward ∨ s.belt.st = .reverse ∨ s.belt.st = .stopped →
      2 * s.reg K.encoderSamplePeriod < 4 * (s.tick - s.belt.lastValid) →
      ∃ t, exec .holdoverEntry s = .next t ∧ t.belt.st = .holdover ∧ t.belt.follow = s.belt.follow ∧
        t.belt.ibp = s.belt.ibp ∧ t.belt.bc = s.belt.bc ∧
        t.reg K.holdoverEntries = (s.reg K.holdoverEntries + 1) % 2 ^ 32 ∧ Changes [.freeN, .ctl, .belt, .eject,
          .field, .power, .out] (.only [0x0F10, K.holdoverEntries, K.lastWakeCause, K.channelsOn]) s t) ∧
  (∀ (s : State),
      s.belt.st ≠ .lost →
      s.belt.st ≠ .noSource →
      s.reg K.encoderHoldover < 4 * (s.tick - s.belt.lastValid) →
      ∃ t, exec .beltLost s = .next t ∧ t.belt.st = .lost ∧ t.belt.v = 0 ∧ t.belt.spNum = 0 ∧ t.belt.ibp = s.belt.ibp ∧
        t.belt.bc = s.belt.bc ∧ t.reg K.beltLostEvents = (s.reg K.beltLostEvents + 1) % 2 ^ 32 ∧ Changes [.freeN, .ctl,
          .belt, .eject, .field, .host, .faults, .power, .perf, .out] (.only [0x0F10, 0x1205, 0x1402, 0x1703,
          K.beltLostEvents, K.lastWakeCause, K.channelsOn, K.recordsUnrouted, K.faultLogOverwritten,
          K.faultRecordsSuppressed]) s t)

/-- The tick in progress ends (R19, R392); the oldest correction word lands, and T64 is formed with it (R393). -/
def Obligations.TimeMovesOn : Prop :=
  (∀ (s : State),
      s.timeRuns = false →
      exec .tclkTick s = .next { s with tick := s.tick + 1 }) ∧
  (∀ (s : State),
      s.timeRuns = true →
      ∃ t, exec .tclkTick s = .next t ∧ t.tick = s.tick + 1 ∧ t.belt.ibpPrev = s.runTick.belt.ibp ∧ t.belt.ibp =
        t.ibpNow ∧
        Changes [.tick, .freeN, .blobs, .ctl, .belt, .intake, .pipe, .engine, .tracks, .eject, .field, .memory, .knots,
          .host, .net, .faults, .power, .perf, .out] (.all) s t) ∧
  (∀ (s : State) (w : CorrWord) (rest : List CorrWord),
      s.net.crossing = w :: rest →
      exec .timeCopyUpdate s = .next { s with net := { s.net with word := w, crossing := rest } })

/-- BeltReorigin (R30): the value waits for the next valid sample. -/
def Obligations.ReoriginWaits : Prop :=
  (∀ (s : State) (sess v : Nat),
      s.gate sess K.beltReorigin = none →
      v < 2 ^ 48 →
      s.belt.st = .stopped ∨ s.belt.st = .noSource →
      exec (.beltReorigin sess v) s = .next
        ((({ s with belt := { s.belt with reorigin := some v } } : State).cmdSet K.beltReorigin Status.ok).answer sess
          K.beltReorigin Status.ok)) ∧
  (∀ (s : State) (sess v : Nat),
      s.gate sess K.beltReorigin = none →
      v < 2 ^ 48 →
      s.belt.st = .forward ∨ s.belt.st = .reverse ∨ s.belt.st = .holdover ∨ s.belt.st = .lost →
      exec (.beltReorigin sess v) s = .next (s.answer sess K.beltReorigin Status.beltMoving))

/-- The field banks (R45, R47). -/
def Obligations.FieldBanksFollowTheirSupply : Prop :=
  (∀ (s : State) (bank ma : Nat),
      bank < 4 →
      s.reg (K.fieldBankTripCurrent bank) < ma →
      SMap.get 0 s.supplies.fuseOpen bank = 0 →
      s.supplies.inReset = false →
      ∃ t, exec (.fieldBankTrip bank ma) s = .next t ∧ t.bankState bank = 2 ∧
        SMap.get 0 t.supplies.fuseOpen bank = s.tick + 250000001 ∧
        (∀ b, b ≠ bank → t.bankState b = s.bankState b) ∧
        t.reg (K.fieldBankTrips bank) = (s.reg (K.fieldBankTrips bank) + 1) % 2 ^ 32 ∧ Changes [.freeN, .supplies,
          .field, .host, .faults, .perf, .out] (.only [0x0306, 0x1205, 0x1402, 0x1703, K.recordsUnrouted,
          K.faultLogOverwritten, K.faultRecordsSuppressed]) s t) ∧
  (∀ (s : State) (sess bank : Nat),
      s.gate sess K.fieldBankReset = none →
      bank < 4 →
      SMap.get 0 s.supplies.fuseOpen bank ≤ s.tick + 1 →
      exec (.fieldBankReset sess bank) s = .next ((({ s with supplies := { s.supplies with
        fuseOpen := SMap.set 0 s.supplies.fuseOpen bank 0 } } : State).cmdSet K.fieldBankReset Status.ok).answer sess
          K.fieldBankReset Status.ok)) ∧
  (∀ (s : State) (sess bank : Nat),
      s.gate sess K.fieldBankReset = none →
      bank < 4 →
      s.tick + 1 < SMap.get 0 s.supplies.fuseOpen bank →
      exec (.fieldBankReset sess bank) s = .next (s.answer sess K.fieldBankReset Status.bankRetryWait)) ∧
  (∀ (s : State) (bank : Nat) (mv : Int),
      bank < 4 →
      ∃ t, exec (.fieldBankSupplyChange bank mv) s = .next t ∧ SMap.get 0 t.supplies.bankMv bank = mv.toNat ∧
        (2 + bank ∈ t.supplies.reversed ↔ mv < 0) ∧
        (mv < 0 → (∀ b, t.bankOn b = false) ∧ ∀ o ∈ t.field.outs, o.2.driven = false) ∧
        (∀ b, b ≠ bank → t.bankState b = s.bankState b) ∧
        (SMap.get 0 s.supplies.fuseOpen bank = 0 → t.bankState bank = if mv < 18000 then 0 else 1) ∧
        Changes [.supplies, .field] (.only []) s t)

/-- The camera input and the logic input (R44, R46). -/
def Obligations.SupplyLossStopsTheModule : Prop :=
  (∀ (s : State) (mv : Int),
      ∃ t, exec (.cameraSupplyChange mv) s = .next t ∧ t.supplies = { s.supplies with
          cameraMv := mv.toNat
          reversed := if mv < 0 then s.supplies.reversed.filter (· != 1) ++ [1] else s.supplies.reversed.filter (· !=
            1) } ∧
        (mv < 20000 → ∀ l, l < 24 → (t.cam l).powered = false) ∧ Changes [.ctl, .supplies, .intake, .field] (.only
          [0x0405, 0x0509, 0x050B]) s t) ∧
  (∀ (s : State) (mv : Int),
      0 ≤ mv →
      mv < 19200 →
      exec (.logicSupplyDip mv) s = .next { s with supplies := { s.supplies with
        logicLow := s.supplies.logicLow.or (some s.tick)
        logicMin := if s.supplies.logicLow.isSome then min s.supplies.logicMin mv.toNat else mv.toNat
        logicOk := none
        reversed := s.supplies.reversed.filter (· != 0) } }) ∧
  (∀ (s : State) (mv : Int),
      mv < 0 →
      ∃ t, exec (.logicSupplyDip mv) s = .next t ∧ 0 ∈ t.supplies.reversed ∧ (∀ b, t.bankOn b = false) ∧
        (∀ o ∈ t.field.outs, o.2.driven = false) ∧ t.field.alive.level = false ∧ Changes [.supplies, .field] (.only [])
          s t) ∧
  (∀ (s : State) (mv t0 : Nat),
      s.supplies.logicLow = some t0 →
      t0 + 250000 < s.tick →
      s.supplies.inReset = false ∨ s.power.st = .standby →
      ∃ t, exec (.powerFail mv) s = .next t ∧ t0 + 750000 ≤ t.tick ∧ t.supplies.inReset = true ∧ t.supplies.resetDue =
        some FCode.powerFail ∧
        t.ctl.serving = false ∧ t.boot.step = 2 ∧ (∃ e ∈ t.faults.nv, e.code = FCode.powerFail) ∧
        t.reg K.bootCount = s.reg K.bootCount ∧ Changes [.tick, .freeN, .blobs, .ctl, .belt, .supplies, .intake, .pipe,
          .engine, .tracks, .eject, .field, .memory, .knots, .host, .net, .faults, .power, .perf, .boot, .out] (.all) s t)

/-- A link with camera power goes from the load sense over the soft start and the boot time to DISCOVERY (R85, R86, R93). -/
def Obligations.LinkPowersUp : Prop :=
  (∀ (s : State) (l ohms : Nat),
      s.hasLink l = true →
      (s.cam l).st = .powering →
      (s.cam l).step = .sense →
      ∃ t, exec (.loadSenseRetry l ohms) s = .next t ∧
        (2000 ≤ ohms ∧ ohms ≤ 30000 → t.reg (K.linkFailCause l) = 0 ∧
          t.cam l = { s.cam l with step := .softStart, powered := true, since := s.tick }) ∧
        (¬ (2000 ≤ ohms ∧ ohms ≤ 30000) → t.reg (K.linkFailCause l) = 1 ∧
          t.cam l = { s.cam l with st := .powerFault, step := .none, since := s.tick }) ∧
        (∀ m, m ≠ l → t.cam m = s.cam m) ∧ Changes [.intake] (.only [0x0405, 0x0407]) s t) ∧
  (∀ (s : State) (l : Nat),
      s.hasLink l = true →
      (s.cam l).st = .powering →
      (s.cam l).step = .softStart →
      (s.cam l).since + 5000000 ≤ s.tick →
      ∃ t, exec (.softStartDone l) s = .next t ∧ t.cam l = { s.cam l with step := .boot, since := s.tick } ∧
        (∀ m, m ≠ l → t.cam m = s.cam m) ∧ Changes [.intake] (.only [0x0405]) s t) ∧
  (∀ (s : State) (l : Nat),
      s.hasLink l = true →
      (s.cam l).st = .powering →
      (s.cam l).step = .boot →
      (s.cam l).since + s.reg K.cameraBootTime * 250000 ≤ s.tick →
      ∃ t, exec (.cameraBootTimeExpiry l) s = .next t ∧ (t.cam l).st = .discovery ∧ (t.cam l).lock = false ∧
        t.reg (K.linkRate l) = 1 ∧ (∀ m, m ≠ l → t.cam m = s.cam m) ∧ Changes [.ctl, .intake] (.only [0x0405, 0x0406])
          s t)

/-- Lock loss and retraining (R87, R92), and the rate that does not lock (R86). -/
def Obligations.LinkLockIsKept : Prop :=
  (∀ (s : State) (l : Nat),
      s.hasLink l = true →
      (s.cam l).st = .up →
      ∃ t, exec (.wordLockLost l) s = .next t ∧
        t.cam l = { s.cam l with st := .retraining, lock := false, since := s.tick } ∧
        (∀ m, m ≠ l → t.cam m = s.cam m) ∧
        (∀ i, s.linkStream l = some i → (s.stream i).st = .ready ∨ (s.stream i).st = .streaming →
          (t.stream i).st = .resync ∧ t.reg (K.streamResyncs i) = (s.reg (K.streamResyncs i) + 1) % 2 ^ 32) ∧
        t.reg (K.lockLosses l) = (s.reg (K.lockLosses l) + 1) % 2 ^ 32 ∧
        t.reg (K.retrains l) = (s.reg (K.retrains l) + 1) % 2 ^ 32 ∧ Changes [.freeN, .intake, .perf, .out] (.only
          [0x0405, 0x040D, 0x040E, 0x0509, 0x050B, 0x050C]) s t) ∧
  (∀ (s : State) (l i : Nat),
      s.hasLink l = true →
      (s.cam l).st = .retraining →
      s.linkStream l = some i →
      (s.stream i).st ≠ .resync →
      s.tick ≤ (s.cam l).since + 2500000 →
      ∃ t, exec (.wordLockGained l) s = .next t ∧
        t.cam l = { s.cam l with st := .up, lock := true, badRetrains := 0 } ∧
        (∀ m, m ≠ l → t.cam m = s.cam m) ∧ Changes [.freeN, .ctl, .intake, .perf, .out] (.only [0x0405, 0x0509, 0x050B,
          0x050C]) s t) ∧
  (∀ (s : State) (l : Nat),
      s.hasLink l = true →
      (s.cam l).st = .retraining →
      (s.cam l).since + 2500000 ≤ s.tick →
      ∃ t, exec (.retrainTimeout l) s = .next t ∧
        ((s.cam l).badRetrains < 2 → t.cam l = { s.cam l with badRetrains := (s.cam l).badRetrains + 1, since := s.tick
          } ∧
          t.reg (K.retrains l) = (s.reg (K.retrains l) + 1) % 2 ^ 32) ∧
        (2 ≤ (s.cam l).badRetrains → (t.cam l).st = .discovery ∧ (t.cam l).badRetrains = 0 ∧
          ∀ i, s.linkStream l = some i → (t.stream i).st = .starting) ∧ Changes [.ctl, .intake] (.only [0x0405, 0x0406,
            0x040E, 0x0509]) s t) ∧
  (∀ (s : State) (l i : Nat),
      s.hasLink l = true →
      (s.cam l).st = .configuring →
      (s.cam l).switching = true →
      (s.cam l).lock = false →
      (s.cam l).since + 25000000 ≤ s.tick →
      s.linkStream l = some i →
      ((s.stream i).links.all fun m => s.flag (K.linkRateFallback m)) = false →
      ∃ t, exec (.rateLockTimeout l) s = .next t ∧ (t.stream i).st = .failed ∧
        (∀ m ∈ (s.stream i).links, (t.cam m).st = .failed ∧ t.reg (K.linkFailCause m) = 5) ∧ Changes [.freeN, .ctl,
          .intake, .perf, .out] (.only [0x0405, 0x0407, 0x0509]) s t)

/-- Identification (R86), the connection test (R86) and the answers to control commands (R88, R92). -/
def Obligations.LinkIdentifiesAndAnswers : Prop :=
  (∀ (s : State) (i : Nat),
      i < 16 →
      (s.stream i).st = .starting →
      (s.stream i).links ≠ [] →
      ((s.stream i).links.all fun l => s.reg (K.linkFailCause l) == 3) = true →
      (s.stream i).identAt + 250000000 ≤ s.tick →
      ∃ t, exec (.identificationRetry i) s = .next t ∧ 
        (∀ l ∈ (s.stream i).links, (t.cam l).st = .configuring ∧ (t.cam l).ident = none ∧
          (t.cam l).ctl.map (·.op) = [CtlOp.ident]) ∧ Changes [.freeN, .ctl, .intake, .perf, .out] (.only [0x0405]) s t) ∧
  (∀ (s : State) (l i errors : Nat),
      s.hasLink l = true →
      (s.cam l).st = .testing →
      (s.cam l).tested = false →
      (s.cam l).since + s.reg K.connectionTestTime * 250000 ≤ s.tick →
      s.linkStream l = some i →
      ∃ t, exec (.connectionTestEnd l errors) s = .next t ∧
        (((s.stream i).links.all fun m => m == l || (s.cam m).tested) = false →
          t.cam l = { s.cam l with testErrors := errors, tested := true } ∧ t.stream i = s.stream i) ∧
        (((s.stream i).links.all fun m => m == l ||
            ((s.cam m).tested && decide ((s.cam m).testErrors ≤ s.reg K.connectionTestErrorLimit))) = true →
          errors ≤ s.reg K.connectionTestErrorLimit →
          (t.cam (s.stream i).master).ctl.map (·.op) = (s.cam (s.stream i).master).ctl.map (·.op) ++ [CtlOp.testOff]) ∧
        Changes [.freeN, .ctl, .intake, .perf, .out] (.only [0x0405, 0x0407, 0x0509]) s t) ∧
  (∀ (s : State) (l i : Nat) (c : CtlCmd) (rest : List CtlCmd) (a : CtlAck),
      s.hasLink l = true →
      (s.cam l).ctl = c :: rest →
      a.crcOk = true →
      a.tag = none ∨ a.tag = some c.tag →
      a.code = 0 →
      c.op = .regRead →
      s.linkStream l = some i →
      ∃ t, exec (.controlAcknowledgment l a) s = .next t ∧ (t.cam l).ctl = rest ∧ t.blob K.cameraRegData = a.data ∧
        t.cmdRead K.cameraRegCommand = Status.ok ∧ Changes [.freeN, .blobs, .ctl, .intake, .pipe, .host, .perf, .out]
          (.only [0x0405, 0x0406, 0x0407, 0x040C, 0x0509, 0x0615, 0x0616, 0x1205, K.recordsUnrouted]) s t) ∧
  (∀ (s : State) (l : Nat) (c : CtlCmd) (rest : List CtlCmd) (a : CtlAck),
      s.hasLink l = true →
      (s.cam l).ctl = c :: rest →
      a.crcOk = false →
      c.tries < 4 →
      ∃ t, exec (.controlAcknowledgment l a) s = .next t ∧
        (t.cam l).ctl = { c with tries := c.tries + 1, sentAt := s.tick } :: rest ∧
        t.reg (K.crcErrors l) = (s.reg (K.crcErrors l) + 1) % 2 ^ 32 ∧ Changes [.freeN, .blobs, .ctl, .intake, .pipe,
          .host, .perf, .out] (.only [0x0405, 0x0406, 0x0407, 0x040C, 0x0509, 0x0615, 0x0616, 0x1205,
          K.recordsUnrouted]) s t) ∧
  (∀ (s : State) (l : Nat) (c : CtlCmd) (rest : List CtlCmd),
      s.hasLink l = true →
      (s.cam l).ctl = c :: rest →
      c.tries < 4 →
      c.sentAt + 50000000 ≤ s.tick →
      ∃ t, exec (.controlAckTimeout l) s = .next t ∧
        (t.cam l).ctl = { c with tries := c.tries + 1, sentAt := s.tick } :: rest ∧
        t.reg (K.crcErrors l) = (s.reg (K.crcErrors l) + 1) % 2 ^ 32 ∧ Changes [.freeN, .ctl, .intake, .perf, .out]
          (.only [0x0405, 0x0407, 0x040C, 0x0509]) s t)

/-- One trigger packet and one stream packet (R88 to R91). -/
def Obligations.TriggersAndLinesArePaired : Prop :=
  (∀ (s : State) (i n t0 : Nat),
      i < 16 →
      (s.stream i).due = some (n, t0) →
      (s.stream i).trigs.length < s.reg (K.lineLagLimit i) →
      ∃ t, exec (.triggerPacket i) s = .next t ∧ (t.stream i).due = none ∧
        (t.stream i).trigs = (s.stream i).trigs ++ [n] ∧
        (SMap.find? (t.stream i).lines n).map (·.st) = some LineSt.sent ∧ Changes [.freeN, .intake, .perf, .out] (.only
          [0x0405, 0x0509, 0x050B, 0x050C]) s t) ∧
  (∀ (s : State) (i : Nat) (p : Packet),
      i < 16 →
      s.hasLink p.link = true →
      (s.stream i).st ≠ .ready →
      (s.stream i).st ≠ .streaming →
      exec (.streamPacket i p) s = .next s) ∧
  (∀ (s : State) (i n : Nat) (p : Packet),
      i < 16 →
      s.hasLink p.link = true →
      (s.stream i).st = .ready ∨ (s.stream i).st = .streaming →
      (s.stream i).nextTag = some n →
      p.tag ≠ n →
      (s.stream i).hold = [] →
      p.tag < 256 →
      ∃ t, exec (.streamPacket i p) s = .next t ∧ t.stream i = { s.stream i with hold := [p] } ∧
        Changes [.freeN, .intake, .perf, .out] (.only [0x0405, 0x040B, 0x040C, 0x0509, 0x050A, 0x050B, 0x050C]) s t) ∧
  (∀ (s : State) (i n : Nat) (p : Packet),
      i < 16 →
      s.hasLink p.link = true →
      (s.stream i).st = .streaming →
      (s.stream i).nextTag = some p.tag →
      (s.stream i).hold = [] →
      p.parts = [PktPart.lineEnd] →
      p.crcOk = true →
      p.codeError = false →
      p.size ≤ s.reg (K.streamPacketSizeMax i) →
      (s.stream i).cur = some n →
      (s.stream i).curBad = false →
      (s.stream i).curData.length = s.lineBytes i →
      (SMap.find? (s.stream i).lines n).map (·.st) = some LineSt.begun →
      ∃ t, exec (.streamPacket i p) s = .next t ∧ (t.stream i).cur = none ∧
        (SMap.find? (t.stream i).lines n).map (fun l => (l.st, l.data)) = some (LineSt.delivered, (s.stream i).curData) ∧
        t.reg (K.linesDelivered i) = (s.reg (K.linesDelivered i) + 1) % 2 ^ 64 ∧ Changes [.freeN, .intake, .perf, .out]
          (.only [0x0405, 0x040B, 0x040C, 0x0509, 0x050A, 0x050B, 0x050C]) s t)

/-- Event packets, heartbeats, the power limits of a link (R92, R93) and its test (R95). -/
def Obligations.CameraEventsAndPower : Prop :=
  (∀ (s : State) (i : Nat) (e : CamEvent),
      i < 16 →
      e.crcOk = false →
      exec (.eventPacket i e) s = .next (s.bump (K.crcErrors (s.stream i).master))) ∧
  (∀ (s : State) (i : Nat) (e : CamEvent),
      i < 16 →
      e.crcOk = true →
      e.heartbeat = false →
      exec (.eventPacket i e) s =
        .next (s.emit (s.recAt RType.intake Unit.intake (leAt e.data 0 8) 0xFF (i + 48)))) ∧
  (∀ (s : State) (i : Nat),
      i < 16 →
      s.reg (K.heartbeatTimeout i) ≠ 0 →
      (s.stream i).st = .ready ∨ (s.stream i).st = .streaming →
      (s.stream i).heard + s.reg (K.heartbeatTimeout i) * 250000 ≤ s.tick →
      ∃ t, exec (.heartbeatTimeout i) s = .next t ∧ t.stream i = { s.stream i with heard := s.tick } ∧
        t.reg (K.heartbeatMisses i) = (s.reg (K.heartbeatMisses i) + 1) % 2 ^ 32 ∧ Changes [.intake, .host, .perf,
          .out] (.only [0x0509, 0x0510, 0x1205, K.recordsUnrouted]) s t) ∧
  (∀ (s : State) (l mw : Nat),
      s.hasLink l = true →
      (s.cam l).powered = true →
      s.reg (K.cameraPowerLimit l) < mw →
      ∃ t, exec (.cameraPowerOverload l mw) s = .next t ∧
        t.cam l = { s.cam l with st := .powerFault, powered := false, lock := false, ctl := [] } ∧
        t.reg (K.linkFailCause l) = 2 ∧ t.reg (K.powerTrips l) = (s.reg (K.powerTrips l) + 1) % 2 ^ 32 ∧
        Changes [.freeN, .ctl, .intake, .host, .faults, .perf, .out] (.only [0x0405, 0x0407, 0x040F, 0x0509, 0x1205,
          0x1402, 0x1703, K.recordsUnrouted, K.faultLogOverwritten, K.faultRecordsSuppressed]) s t) ∧
  (∀ (s : State) (l mw : Nat),
      s.hasLink l = true →
      (s.cam l).powered = true →
      14000 < mw →
      ∃ t, exec (.cameraPowerFastTrip l mw) s = .next t ∧
        t.cam l = { s.cam l with st := .powerFault, powered := false, lock := false, ctl := [] } ∧
        t.reg (K.linkFailCause l) = 2 ∧ t.reg (K.powerTrips l) = (s.reg (K.powerTrips l) + 1) % 2 ^ 32 ∧
        Changes [.freeN, .ctl, .intake, .host, .faults, .perf, .out] (.only [0x0405, 0x0407, 0x040F, 0x0509, 0x1205,
          0x1402, 0x1703, K.recordsUnrouted, K.faultLogOverwritten, K.faultRecordsSuppressed]) s t) ∧
  (∀ (s : State) (l : Nat),
      s.hasLink l = true →
      exec (.unsupportedPacket l) s = .next (s.bump (K.codeErrors l))) ∧
  (∀ (s : State) (l errors : Nat),
      s.hasLink l = true →
      exec (.linkTestPattern l errors) s =
        .next (if (s.cam l).st = .loopback then s.bump (K.linkTestErrors l) errors else s))

/-- Commands on streams, links and cameras (R62, R84, R86, R96, R98). -/
def Obligations.CameraCommandsRun : Prop :=
  (∀ (s : State) (sess i : Nat),
      s.gate sess K.streamRestart = none →
      i < 16 →
      (s.stream i).st = .failed →
      ∃ t, exec (.streamRestart sess i) s = .next t ∧ (t.stream i).st = .starting ∧
        (t.stream i).links = s.streamLinkList i ∧ t.cmdRead K.streamRestart = Status.ok ∧ Changes [.ctl, .intake, .out]
          (.only [0x0405, 0x0406, 0x0407, 0x0509]) s t) ∧
  (∀ (s : State) (sess i : Nat),
      s.gate sess K.streamRestart = none →
      i < 16 →
      (s.stream i).st ≠ .failed →
      exec (.streamRestart sess i) s = .next (s.answer sess K.streamRestart Status.contextState)) ∧
  (∀ (s : State) (i t0 : Nat),
      i < 16 →
      (s.stream i).drainAt = some t0 →
      t0 + 250000 ≤ s.tick →
      s.streamLinkList i = [] →
      ∃ t, exec (.streamDisableDrainEnd i) s = .next t ∧ (t.stream i).st = .off ∧ (t.stream i).drainAt = none ∧
        (t.stream i).highest = (s.stream i).highest ∧ Changes [.freeN, .ctl, .intake, .perf, .out] (.only [0x0405,
          0x0406, 0x0407, 0x0509, 0x050B]) s t) ∧
  (∀ (s : State) (sess l : Nat),
      s.gate sess K.eyeScan = none →
      s.hasLink l = true →
      (s.cam l).st = .up ∨ (s.cam l).st = .loopback →
      ∃ t, exec (.eyeScan sess l) s = .next t ∧ t.intake = { s.intake with scan := some {
          link := l
          start := s.tick
          dwell := s.reg K.eyeScanDwell
          rate := if (s.cam l).st = .loopback then s.reg (K.linkRateMax l) else s.reg (K.linkRate l) } } ∧
        t.cmdRead K.eyeScan = Status.inProgress ∧ Changes [.ctl, .intake, .out] (.only []) s t) ∧
  (∀ (s : State) (map : List Byte) (w h : Nat) (c : EyeScan),
      s.intake.scan = some c →
      (s.cam c.link).st = .up →
      4096 * c.dwell * 1000000 ≤ 4 * (s.tick - c.start) * laneRate c.rate →
      w = eyeWidthOf (fitBytes 8192 map) →
      h = eyeHeightOf (fitBytes 8192 map) →
      ∃ t, exec (.eyeScanDone map w h) s = .next t ∧ t.intake.scan = none ∧ t.blob K.eyeMap = fitBytes 8192 map ∧
        t.reg K.eyeWidth = w ∧ t.reg K.eyeHeight = h ∧ t.cmdRead K.eyeScan = Status.ok ∧ Changes [.blobs, .ctl,
          .intake] (.only [K.eyeWidth, K.eyeHeight]) s t) ∧
  (∀ (s : State) (sess i m : Nat),
      s.gate sess K.cameraRegCommand = none →
      s.reg K.cameraRegStream = i →
      (s.stream i).st ≠ .off →
      (s.stream i).st ≠ .failed →
      (s.stream i).links ≠ [] →
      (s.stream i).master = m →
      ∃ t, exec (.cameraRegRead sess) s = .next t ∧ t.cmdRead K.cameraRegCommand = Status.inProgress ∧
        (t.cam m).ctl = (s.cam m).ctl ++
          [{ tag := (s.cam m).tag, sentAt := s.tick, op := .regRead
             addr := s.reg K.cameraRegAddress, data := [] }] ∧
        Changes [.freeN, .ctl, .intake, .perf, .out] (.only [0x0405]) s t) ∧
  (∀ (s : State) (sess i m : Nat),
      s.gate sess K.cameraRegCommand = none →
      s.reg K.cameraRegStream = i →
      (s.stream i).st ≠ .off →
      (s.stream i).st ≠ .failed →
      (s.stream i).links ≠ [] →
      (s.stream i).master = m →
      ∃ t, exec (.cameraRegWrite sess) s = .next t ∧ t.cmdRead K.cameraRegCommand = Status.inProgress ∧
        (t.cam m).ctl = (s.cam m).ctl ++
          [{ tag := (s.cam m).tag, sentAt := s.tick, op := .regWrite
             addr := s.reg K.cameraRegAddress, data := s.blob K.cameraRegData }] ∧
        Changes [.freeN, .ctl, .intake, .perf, .out] (.only [0x0405]) s t)

/-- The pipelines and the parameter sets (R101, R108, R116). -/
def Obligations.PipelinesFillStripes : Prop :=
  (∀ (s : State) (i : Nat) (corrupt : List Nat) (st : Stripe) (rest : SMap Stripe) (plan : Plan),
      s.genReg st (K.streamPipeline i) < 4 * s.mfg.part.ioDies →
      SMap.get 0 s.pipe.busy (s.genReg st (K.streamPipeline i)) ≤ s.tick →
      s.power.st = .run →
      s.pipe.stripes = (st.num, st) :: rest →
      i < 16 →
      st.closed = [i] →
      st.written = [] →
      st.dropped = false →
      s.engine.old = none →
      s.rtPlan = some plan →
      s.engine.heldBufs = [] →
      ∃ t, exec (.pipelineStripeStart (s.genReg st (K.streamPipeline i)) corrupt) s = .next t ∧
        SMap.get 0 t.pipe.busy (s.genReg st (K.streamPipeline i)) = s.tick + ceilDiv
          (plan.stripeLines * s.genReg st (K.streamWidth i) * planesOf (s.genReg st (K.streamPixelFormat i)) / 4 +
            1024) 2 ∧
        (SMap.find? t.pipe.stripes st.num).map (·.written) = some [i] ∧ Changes [.freeN, .intake, .pipe, .engine,
          .host, .perf, .out] (.only [0x0509, 0x0615, 0x0619, 0x061B, 0x1205, K.stripeOverruns, K.recordsUnrouted]) s t) ∧
  (∀ (s : State) (st : Stripe) (cyc : Nat),
      SMap.find? s.pipe.stripes st.num = some st →
      st.ready = false →
      st.need ≠ [] →
      (st.need.all fun i => st.written.contains i) = true →
      st.doneAt ≤ s.tick →
      ∃ t, exec (.stripeReady st.num cyc) s = .next t ∧
        SMap.find? t.pipe.stripes st.num = some { st with ready := true, readyCyc := cyc } ∧ Changes [.freeN, .ctl,
          .pipe, .engine, .host, .power, .perf, .out] (.only [0x1205, K.recordsUnrouted]) s t) ∧
  (∀ (s : State) (sess i : Nat),
      s.gate sess K.paramSetSwitch = none →
      i < 16 →
      (s.pctx i).switch = [] →
      ∃ t, exec (.paramSetSwitch sess i) s = .next t ∧
        t.pctx i = { s.pctx i with
          switch := [(s.reg (K.streamNextLine i) + s.reg (K.cameraSettingDelay i), 1 - (s.pctx i).active)] } ∧
        (∀ j, j ≠ i → t.pctx j = s.pctx j) ∧ t.cmdRead K.paramSetSwitch = Status.ok ∧ Changes [.ctl, .pipe, .out]
          (.only [0x0615]) s t) ∧
  (∀ (s : State) (i l v : Nat) (rest : List (Nat × Nat)),
      i < 16 →
      (s.pctx i).switch = (l, v) :: rest →
      l < s.reg (K.streamNextLine i) →
      ∃ t, exec (.paramSetTakesForce i) s = .next t ∧ (t.pctx i).active = v ∧ (t.pctx i).switch = rest ∧
        t.reg (K.paramSwitches i) = (s.reg (K.paramSwitches i) + 1) % 2 ^ 32 ∧ Changes [.pipe, .host, .perf, .out]
          (.only [0x0615, 0x061C, 0x1205, K.recordsUnrouted]) s t)

/-- The JPEG engine (R118, R120 to R122). -/
def Obligations.JpegWorkIsDone : Prop :=
  (∀ (s : State) (e : EncReq) (rest : List EncReq),
      s.pipe.encQueue = e :: rest →
      ∃ t, exec .jpegEncodeDone s = .next t ∧ t.pipe = { s.pipe with encQueue := rest } ∧
        t.reg K.encodesSkipped = (s.reg K.encodesSkipped + if s.boxSamples e = none then 1 else 0) % 2 ^ 32 ∧
        t.reg K.encodesCompleted = (s.reg K.encodesCompleted + if s.boxSamples e = none then 0 else 1) % 2 ^ 32 ∧
        Changes [.pipe, .host, .perf, .out] (.only [0x1205, K.encodesCompleted, K.encodesSkipped, K.imagesDropped,
          K.recordsUnrouted]) s t) ∧
  (∀ (s : State) (c : Nat) (r : DecReq) (rest : List DecReq),
      s.pruneDecodes = s →
      s.decServed = some c →
      SMap.get [] s.pipe.decode c = r :: rest →
      ∃ t, exec .decodeContextSwitch s = .next t ∧
        SMap.get [] t.pipe.decode c = { r with used := r.used + r.slice (parseJpeg r.data) } :: rest ∧
        t.pipe.encQueue = s.pipe.encQueue ∧ Changes [.pipe] (.only []) s t) ∧
  (∀ (s : State) (c : Nat) (r : DecReq) (rest : List DecReq),
      s.pruneDecodes = s →
      s.decServed = some c →
      SMap.get [] s.pipe.decode c = r :: rest →
      s.decLate { r with used := r.used + r.slice (parseJpeg r.data) } = false →
      ∃ t, exec .jpegDecodeDone s = .next t ∧ SMap.get [] t.pipe.decode c = rest ∧
        t.reg K.decodesCompleted =
          (s.reg K.decodesCompleted + if (parseJpeg r.data).blockData = none then 0 else 1) % 2 ^ 32 ∧
        t.reg K.decodesRejected =
          (s.reg K.decodesRejected + if (parseJpeg r.data).blockData = none then 1 else 0) % 2 ^ 32 ∧
        t.reg K.decodesAbandoned = s.reg K.decodesAbandoned ∧
        ((parseJpeg r.data).blockData = none → t.reg K.lastRejectCause = 6) ∧ Changes [.freeN, .pipe, .engine, .memory,
          .host, .perf, .out] (.only [0x1205, K.decodesCompleted, K.decodesRejected, K.decodesAbandoned,
          K.lastRejectCause, K.commandsCompleted, K.recordsUnrouted]) s t) ∧
  (∀ (s : State) (c : Nat) (r : DecReq) (rest : List DecReq),
      s.pruneDecodes = s →
      s.decServed = some c →
      SMap.get [] s.pipe.decode c = r :: rest →
      s.decLate { r with used := r.used + r.slice (parseJpeg r.data) } = true →
      ∃ t, exec .jpegDecodeDone s = .next t ∧ SMap.get [] t.pipe.decode c = rest ∧
        t.reg K.decodesAbandoned = (s.reg K.decodesAbandoned + 1) % 2 ^ 32 ∧
        t.reg K.decodesCompleted = s.reg K.decodesCompleted ∧ t.reg K.decodesRejected = s.reg K.decodesRejected ∧
        Changes [.freeN, .pipe, .engine, .memory, .host, .perf, .out] (.only [0x1205, K.decodesCompleted,
          K.decodesRejected, K.decodesAbandoned, K.lastRejectCause, K.commandsCompleted, K.recordsUnrouted]) s t) ∧
  (∀ (s : State) (c : Nat) (r : DecReq) (rest : List DecReq) (more : SMap (List DecReq)),
      s.pruneDecodes = s →
      s.pipe.decode = (c, r :: rest) :: more →
      r.deadline ≤ s.pos →
      ∃ t, exec .jpegDecodeAbandoned s = .next t ∧ r ∉ SMap.get [] t.pipe.decode c ∧
        t.reg K.decodesAbandoned = (s.reg K.decodesAbandoned + 1) % 2 ^ 32 ∧
        t.reg K.decodesRejected = s.reg K.decodesRejected ∧ Changes [.freeN, .pipe, .engine, .memory, .host, .perf,
          .out] (.only [0x1205, K.decodesRejected, K.decodesAbandoned, K.commandsCompleted, K.recordsUnrouted]) s t)

/-- The states of the arrays (R140 to R145, R150). -/
def Obligations.ArraysAreTestedAndReplaced : Prop :=
  (∀ (s : State) (sess code : Nat),
      s.gate sess K.arrayRetest = none →
      code % 128 < 50 →
      s.engine.retest = none →
      s.arrayAt (code / 128) (code % 128) = .retired →
      ∃ t, exec (.arrayRetest sess code) s = .next t ∧
        t.engine = { s.engine with retest := some (code / 128 * 64 + code % 128, s.tick) } ∧
        t.cmdRead K.arrayRetest = Status.inProgress ∧ Changes [.ctl, .engine, .out] (.only []) s t) ∧
  (∀ (s : State) (k t0 : Nat),
      s.engine.retest = some (k, t0) →
      400000000 ≤ (s.tick - t0) * s.engine.cclk →
      ∃ t, exec (.arrayRetestDone true) s = .next t ∧ t.engine.retest = none ∧ k ∈ t.engine.passed ∧
        t.reg K.lastRetestResult = 0 ∧ t.cmdRead K.arrayRetest = Status.ok ∧
        (s.arrayAt (k / 64) (k % 64) = .suspect → t.arrayAt (k / 64) (k % 64) = .ok) ∧ Changes [.freeN, .blobs, .ctl,
          .belt, .pipe, .engine, .tracks, .eject, .memory, .knots, .host, .faults, .perf, .out] (.only [0x0804, 0x0808,
          0x1205, 0x1402, 0x1703, K.lastRetestResult, K.decisionsIssued, K.fallbackDecisions, K.waitersInUse,
          K.waitersPeak, K.ownerResetReleases, K.knotDumpContext, K.pulsesPending, K.pulsesPeak, K.pulsesScheduled,
          K.pulsesMerged, K.storeFullRefused, K.lateDecisions, K.missedDecisions, K.disabledChannelRequests,
          K.commandsCompleted, K.recordsUnrouted, K.faultLogOverwritten, K.faultRecordsSuppressed, K.fallbackGapOpen,
          K.gapRecords]) s t) ∧
  (∀ (s : State) (sess code : Nat),
      s.gate sess K.arrayRetire = none →
      code % 128 < 50 →
      s.engine.retest = none →
      s.sound (code / 128) (code % 128) = true →
      s.waitsRetire (code / 128) (code % 128) = false →
      s.engine.pendRestore = [] →
      ((List.range 16).all fun c => (s.ctx c).plan.isNone) = true →
      ∃ t, exec (.arrayRetire sess code) s = .next t ∧ t.arrayAt (code / 128) (code % 128) = .retired ∧
        t.cmdRead K.arrayRetire = Status.ok ∧ Changes [.freeN, .blobs, .ctl, .belt, .pipe, .engine, .tracks, .eject,
          .memory, .knots, .host, .faults, .perf, .out] (.only [0x0804, 0x0808, 0x1205, 0x1402, 0x1703,
          K.decisionsIssued, K.fallbackDecisions, K.waitersInUse, K.waitersPeak, K.ownerResetReleases,
          K.knotDumpContext, K.pulsesPending, K.pulsesPeak, K.pulsesScheduled, K.pulsesMerged, K.storeFullRefused,
          K.lateDecisions, K.missedDecisions, K.disabledChannelRequests, K.commandsCompleted, K.recordsUnrouted,
          K.faultLogOverwritten, K.faultRecordsSuppressed, K.fallbackGapOpen, K.gapRecords]) s t) ∧
  (∀ (s : State) (die n cause : Nat),
      n < 48 →
      s.engine.pendRetire = [(die * 64 + n, cause)] →
      s.engine.pendRestore = [] →
      s.sound die (48 + spareOf n) = true →
      s.served die (spareOf n) = none →
      ((List.range 16).all fun c => (s.ctx c).plan.isNone) = true →
      ∃ t, exec .substitutionChange s = .next t ∧ t.served die (spareOf n) = some n ∧ t.engine.pendRetire = [] ∧
        t.engine.arrays = SMap.set .ok s.engine.arrays (die * 64 + n) .retired ∧
        t.reg (K.substitutions die) = (s.reg (K.substitutions die) + 1) % 2 ^ 32 ∧ Changes [.freeN, .blobs, .ctl,
          .belt, .pipe, .engine, .tracks, .eject, .memory, .knots, .host, .faults, .perf, .out] (.only [0x0804, 0x0808,
          0x1205, 0x1402, 0x1703, K.decisionsIssued, K.fallbackDecisions, K.waitersInUse, K.waitersPeak,
          K.ownerResetReleases, K.knotDumpContext, K.pulsesPending, K.pulsesPeak, K.pulsesScheduled, K.pulsesMerged,
          K.storeFullRefused, K.lateDecisions, K.missedDecisions, K.disabledChannelRequests, K.commandsCompleted,
          K.recordsUnrouted, K.faultLogOverwritten, K.faultRecordsSuppressed, K.fallbackGapOpen, K.gapRecords]) s t) ∧
  (∀ (s : State) (sess code : Nat),
      s.gate sess K.arrayRestore = none →
      code % 128 < 50 →
      s.engine.retest = none →
      s.arrayAt (code / 128) (code % 128) = .retired →
      s.engine.passed.contains (code / 128 * 64 + code % 128) = true →
      s.stripeRuns = false →
      s.engine.pendRetire = [] →
      s.engine.pendRestore = [] →
      ((List.range 16).all fun c => (s.ctx c).plan.isNone) = true →
      ∃ t, exec (.arrayRestore sess code) s = .next t ∧ t.arrayAt (code / 128) (code % 128) = .ok ∧
        t.cmdRead K.arrayRestore = Status.ok ∧ Changes [.freeN, .blobs, .ctl, .belt, .pipe, .engine, .tracks, .eject,
          .memory, .knots, .host, .faults, .perf, .out] (.only [0x0804, 0x0808, 0x1205, 0x1402, 0x1703,
          K.decisionsIssued, K.fallbackDecisions, K.waitersInUse, K.waitersPeak, K.ownerResetReleases,
          K.knotDumpContext, K.pulsesPending, K.pulsesPeak, K.pulsesScheduled, K.pulsesMerged, K.storeFullRefused,
          K.lateDecisions, K.missedDecisions, K.disabledChannelRequests, K.commandsCompleted, K.recordsUnrouted,
          K.faultLogOverwritten, K.faultRecordsSuppressed, K.fallbackGapOpen, K.gapRecords]) s t)

/-- The plan slots (R214, R244, R311). -/
def Obligations.PlanSlotsAreFilled : Prop :=
  (∀ (s : State) (sess length n base : Nat),
      s.gate sess K.planUploadBegin = none →
      8576 ≤ length →
      s.reg K.planUploadSlot = n →
      s.slotState n ≠ 1 →
      s.slotState n ≠ 3 →
      s.engine.upload = none →
      length ≤ s.memFree →
      placeRange (s.takenRanges n) (ceilDiv length (4096 * s.mfg.part.memDies) * 4096) = some base →
      ∃ t, exec (.planUploadBegin sess length) s = .next t ∧ t.planSlot n = { st := 1, length, base } ∧
        (∀ m, m ≠ n → t.planSlot m = s.planSlot m) ∧ t.engine.upload = some n ∧ t.reg K.planUploadOffset = 0 ∧
        t.blob (K.planSlotDigest n) = [] ∧ t.cmdRead K.planUploadBegin = Status.ok ∧ Changes [.blobs, .ctl, .engine,
          .out] (.only [K.planUploadOffset]) s t) ∧
  (∀ (s : State) (sess n : Nat) (d : List Byte),
      s.gate sess K.planUploadData = none →
      d ≠ [] →
      d.length ≤ 65536 →
      s.engine.upload = some n →
      s.reg K.planUploadOffset + d.length ≤ (s.planSlot n).length →
      ∃ t, exec (.planUploadData sess d) s = .next t ∧
        t.planSlot n = { s.planSlot n with
          data := layBytes (s.planSlot n).data (s.reg K.planUploadOffset) d
          spans := addSpan (s.planSlot n).spans (s.reg K.planUploadOffset) (s.reg K.planUploadOffset + d.length) } ∧
        (∀ m, m ≠ n → t.planSlot m = s.planSlot m) ∧
        t.reg K.planUploadOffset = s.reg K.planUploadOffset + d.length ∧ Changes [.engine, .out] (.only
          [K.planUploadOffset]) s t) ∧
  (∀ (s : State) (sess n : Nat),
      s.gate sess K.planUploadEnd = none →
      n < 32 →
      s.engine.upload = some n →
      covers (s.planSlot n).spans (s.planSlot n).length = true →
      ∃ t, exec (.planUploadEnd sess n) s = .next t ∧ t.planSlot n = { s.planSlot n with st := 2, spans := [] } ∧
        (∀ m, m ≠ n → t.planSlot m = s.planSlot m) ∧ t.engine.upload = none ∧
        t.blob (K.planSlotDigest n) = Sha3.sha512 (s.planSlot n).data ∧ t.cmdRead K.planUploadEnd = Status.ok ∧
        Changes [.blobs, .ctl, .engine, .out] (.only []) s t) ∧
  (∀ (s : State) (sess n : Nat),
      s.gate sess K.planSlotClear = none →
      n < 32 →
      s.slotState n ≠ 3 →
      ∃ t, exec (.planSlotClear sess n) s = .next t ∧ t.planSlot n = {} ∧
        (∀ m, m ≠ n → t.planSlot m = s.planSlot m) ∧ t.engine.upload ≠ some n ∧ t.blob (K.planSlotDigest n) = [] ∧
        t.cmdRead K.planSlotClear = Status.ok ∧ Changes [.blobs, .ctl, .engine, .out] (.only []) s t)

/-- The start and the end of a kernel (R221, R228). -/
def Obligations.KernelsStartAndEnd : Prop :=
  (∀ (s : State) (n cyc : Nat) (obs : KernelObs) (r : Ready) (per : Period),
      s.feed cyc = s →
      s.kernelAt 0 n = some r →
      s.engine.period = some per →
      (s.ctx 0).st = .running →
      s.isFrozen r.k.die = false →
      per.ran.contains n = false →
      r.due ≤ cyc →
      (s.starvedAt r cyc).isNone = true →
      SMap.find? s.engine.starving (1 - r.k.die) = none →
      r.w.layer.op = 1 →
      11 < r.k.unit →
      bitOf r.k.flags 2 = false →
      r.w.layer.decision = false →
      ∃ t, exec (.kernelStart 0 n cyc obs) s = .next t ∧ t.engine.period = some { per with ran := per.ran ++ [n] } ∧
        t.memory = s.memory ∧ t.engine.act = s.engine.act ∧ Changes [.freeN, .blobs, .ctl, .belt, .pipe, .engine,
          .tracks, .eject, .memory, .knots, .host, .faults, .perf, .out] (.only [0x0804, 0x0805, 0x0808, 0x0820,
          0x0821, 0x0823, 0x0841, 0x0842, 0x0843, 0x0860, 0x0861, 0x1205, 0x1402, 0x1703, K.encodesSkipped,
          K.tracksPeak, K.joins, K.joinsRefused, K.merges, K.decisionsIssued, K.fallbackDecisions, K.noTrackDecisions,
          K.degradedObjects, K.overlengthTracks, K.smallObjectsDropped, K.listWaitFallbacks, K.directRecordsDeferred,
          K.emptyListEntries, K.outsideValveRange, K.waitersInUse, K.waitersPeak, K.ownerResetReleases,
          K.knotDumpContext, K.pulsesPending, K.pulsesPeak, K.pulsesScheduled, K.pulsesMerged, K.storeFullRefused,
          K.lateDecisions, K.missedDecisions, K.disabledChannelRequests, K.commandsCompleted, K.recordsUnrouted,
          K.faultLogOverwritten, K.faultRecordsSuppressed, K.fallbackGapOpen, K.gapRecords, K.samplesDropped]) s t) ∧
  (∀ (s : State) (n cyc : Nat) (obs : KernelObs) (p : Plan) (k : Kernel) (per : Period),
      s.runPlan 0 = some p →
      p.kernels[n]? = some k →
      s.engine.period = some per →
      cyc < per.start + k.start →
      exec (.kernelStart 0 n cyc obs) s = .next (s.feed cyc)) ∧
  (∀ (s : State) (n cyc : Nat) (p : Plan) (k : Kernel) (per : Period),
      s.feed cyc = s →
      s.isFrozen k.die = false →
      s.runPlan 0 = some p →
      p.kernels[n]? = some k →
      s.engine.period = some per →
      per.ran.contains n = true →
      per.done.contains n = false →
      per.start + k.start + k.cycles + per.frozenOn k.die ≤ cyc →
      SMap.find? s.perf.tags k.die = none →
      ∃ t, exec (.kernelEnd 0 n cyc) s = .next t ∧ t.engine.period = some { per with done := per.done ++ [n] } ∧
        (bitOf k.flags 0 = false → t.engine.heldBufs = s.engine.heldBufs) ∧ Changes [.engine, .host, .faults, .perf,
          .out] (.only [0x0804, 0x1205, 0x1703, K.recordsUnrouted, K.faultLogOverwritten, K.samplesTaken]) s t)

/-- The arithmetic of the arrays (R130) and the rounding (R154). -/
def Obligations.NumbersAreBoundedAndRounded : Prop :=
  (∀ (l : List (Int × Int)),
      l.length ≤ 64 →
      (l.all fun p => decide (-128 ≤ p.1 ∧ p.1 ≤ 127 ∧ -128 ≤ p.2 ∧ p.2 ≤ 127)) = true →
      -1040384 ≤ passSum l ∧ passSum l ≤ 1048576) ∧
  (∀ (l : List (Int × Int)),
      l.length ≤ 128 →
      (l.all fun p => decide (-8 ≤ p.1 ∧ p.1 ≤ 7 ∧ -128 ≤ p.2 ∧ p.2 ≤ 127)) = true →
      -131072 ≤ passSum l ∧ passSum l ≤ 131072) ∧
  (∀ (a b : Int),
      (satAdd a b).1 = max (-2147483648) (min 2147483647 (a + b)) ∧
        ((satAdd a b).2 = true ↔ a + b < -2147483648 ∨ 2147483647 < a + b)) ∧
  (∀ (neg : Bool) (n d : Nat) (i : Int),
      0 < d →
      (Flt.fin neg n d).toInt = some i →
      (2 * i.natAbs - 1) * d ≤ 2 * n ∧ 2 * n < (2 * i.natAbs + 1) * d ∧
        (i ≠ 0 → (decide (i < 0)) = neg))

/-- Periods start and end (R228, R229, R231). -/
def Obligations.PeriodsStartAndEnd : Prop :=
  (∀ (s : State) (n : NextPeriod) (cyc : Nat),
      s.nextDue = some n →
      s.mayRun = true →
      n.due.getD (max cyc s.engine.lastEnd) ≤ cyc →
      s.engine.lastEnd ≤ cyc →
      s.engine.pendRetire = [] →
      s.engine.pendRestore = [] →
      ∃ t, exec (.periodStart cyc) s = .next t ∧ (t.ctx 0).st = .running ∧
        t.engine.period = some { k := n.first / max 1 n.plan.batch, first := n.first, upto := n.upto, start := cyc
                                 due := n.due.getD (max cyc s.engine.lastEnd), flush := n.flush
                                 late := decide (n.due.getD (max cyc s.engine.lastEnd) < cyc), old := n.old } ∧
        Changes [.freeN, .blobs, .ctl, .belt, .pipe, .engine, .tracks, .eject, .memory, .knots, .host, .faults, .power,
          .perf, .out] (.only [0x0804, 0x0808, 0x0844, 0x1205, 0x1402, 0x1703, K.minObservedSlack, K.decisionsIssued,
          K.fallbackDecisions, K.waitersInUse, K.waitersPeak, K.ownerResetReleases, K.knotDumpContext, K.pulsesPending,
          K.pulsesPeak, K.pulsesScheduled, K.pulsesMerged, K.storeFullRefused, K.lateDecisions, K.missedDecisions,
          K.disabledChannelRequests, K.commandsCompleted, K.recordsUnrouted, K.faultLogOverwritten,
          K.faultRecordsSuppressed, K.fallbackGapOpen, K.gapRecords]) s t) ∧
  (∀ (s : State) (cyc : Nat),
      s.mayRun = true →
      s.rtPlan.isSome = true →
      s.belt.st = .stopped ∨ s.belt.st = .lost ∨ s.belt.st = .noSource →
      s.nextDue.isNone = true →
      s.engine.unbound = false →
      s.engine.lastEnd ≤ cyc →
      ∃ t, exec (.emptyPeriod cyc) s = .next t ∧ (t.ctx 0).st = .running ∧
        t.engine.period = some { k := 0, first := s.engine.nextPeriod, start := cyc, due := cyc, empty := true } ∧
        t.pipe = s.pipe ∧ Changes [.engine, .memory, .knots, .power] (.only []) s t) ∧
  (∀ (s : State) (cyc : Nat) (per : Period) (p : Plan),
      s.engine.period = some per →
      s.runPlan 0 = some p →
      s.isFrozen 0 = false →
      s.isFrozen 1 = false →
      per.empty = true →
      s.feed cyc = s →
      per.start + p.periodCycles + (max (per.frozenOn 0) (per.frozenOn 1) - p.retryReserve) ≤ cyc →
      ∃ t, exec (.periodEnd cyc) s = .next t ∧ t.engine.period = none ∧ t.engine.lastEnd = cyc ∧
        t.reg K.emptyPeriods = (s.reg K.emptyPeriods + 1) % 2 ^ 64 ∧ t.reg K.periodsRun = s.reg K.periodsRun ∧
        t.pipe = s.pipe ∧ Changes [.freeN, .ctl, .pipe, .engine, .tracks, .memory, .knots, .host, .faults, .power,
          .perf, .out] (.only [0x0317, 0x0804, 0x0809, 0x0825, 0x0863, 0x1205, K.computeEnergyPerOp, K.voltageSteps,
          K.clockSteps, K.periodsRun, K.periodsSlipped, K.maxSlipCycles, K.maxFrozenPerPeriod, K.emptyPeriods,
          K.waitersInUse, K.waitersPeak, K.knotOps, K.knotSaturations, K.frozenRefusals, K.knotOpsRefused,
          K.commandsCompleted, K.recordsUnrouted]) s t) ∧
  (∀ (s : State) (cyc : Nat) (per : Period) (p : Plan),
      s.engine.period = some per →
      s.runPlan 0 = some p →
      s.isFrozen 0 = false →
      s.isFrozen 1 = false →
      per.empty = false →
      s.feed cyc = s →
      per.start + p.periodCycles + (max (per.frozenOn 0) (per.frozenOn 1) - p.retryReserve) ≤ cyc →
      ∃ t, exec (.periodEnd cyc) s = .next t ∧ t.engine.period = none ∧ t.engine.lastEnd = cyc ∧
        t.reg K.periodsRun = (s.reg K.periodsRun + 1) % 2 ^ 64 ∧ t.engine.nextPeriod = per.first + max 1 p.batch ∧
        t.pipe.stripes = (s.pipe.stripes.filter fun x => decide (per.upto ≤ x.1)) ∧ Changes [.freeN, .ctl, .pipe,
          .engine, .tracks, .memory, .knots, .host, .faults, .power, .perf, .out] (.only [0x0317, 0x0804, 0x0809,
          0x0825, 0x0863, 0x1205, K.computeEnergyPerOp, K.voltageSteps, K.clockSteps, K.periodsRun, K.periodsSlipped,
          K.maxSlipCycles, K.maxFrozenPerPeriod, K.emptyPeriods, K.waitersInUse, K.waitersPeak, K.knotOps,
          K.knotSaturations, K.frozenRefusals, K.knotOpsRefused, K.commandsCompleted, K.recordsUnrouted]) s t)

/-- Slots, steps and flushes (R222, R228, R232, R236, R237). -/
def Obligations.SlotsAndStepsRun : Prop :=
  (∀ (s : State) (die n cyc : Nat) (per : Period) (p : Plan) (x : PSlot),
      die < 2 →
      s.engine.period = some per →
      s.runPlan 0 = some p →
      p.slots[n]? = some x →
      bitOf x.dieMask die = true →
      s.isFrozen die = false →
      s.feed cyc = s →
      SMap.get 0 per.slot die ≤ n →
      per.start + x.start + per.frozenOn die ≤ cyc →
      ∃ t, exec (.slotStart die n cyc) s = .next t ∧
        t.engine.period = some { per with slot := SMap.set 0 per.slot die (n + 1) } ∧ Changes [.engine, .knots, .host,
          .faults, .power, .perf, .out] (.only [0x0804, 0x0822, 0x1205, K.waitersInUse, K.waitersPeak, K.knotOps,
          K.knotSaturations, K.frozenRefusals, K.knotOpsRefused, K.commandsCompleted, K.recordsUnrouted]) s t) ∧
  (∀ (s : State) (c cyc : Nat) (p : Plan) (n : Nat),
      0 < c →
      c < 16 →
      (s.ctx c).plan = some p →
      p.steps[(s.ctx c).nextStep]? = some n →
      (s.ctx c).st = .ready →
      (s.ctx c).jobs ≠ [] →
      (s.ctx c).run = none →
      s.knots.held = [] →
      s.stepWaits c n = false →
      s.rtPlan = none →
      s.engine.old = none →
      s.openChoice (p.stepDie n) 65534 = some c →
      s.dieBusy (p.stepDie n) = false →
      s.isFrozen (p.stepDie n) = false →
      s.faults.torn = [] →
      s.power.st = .run →
      s.power.clock = none →
      s.faults.recovery = none →
      ∃ t, exec (.stepStart c cyc) s = .next t ∧ (t.ctx c).st = .running ∧
        (t.ctx c).run = some { step := n, die := p.stepDie n, start := cyc } ∧ Changes [.engine, .knots, .host, .power,
          .perf, .out] (.only [0x1205, K.waitersInUse, K.waitersPeak, K.knotOps, K.knotSaturations, K.frozenRefusals,
          K.knotOpsRefused, K.commandsCompleted, K.recordsUnrouted]) s t) ∧
  (∀ (s : State) (c cyc : Nat) (p : Plan) (r : StepRun) (j : Job) (rest : List Job),
      c < 16 →
      (s.ctx c).plan = some p →
      (s.ctx c).run = some r →
      (s.ctx c).jobs = j :: rest →
      s.isFrozen (p.stepDie r.step) = false →
      s.feed cyc = s →
      r.start + p.stepCycles r.step ≤ cyc →
      ∃ t, exec (.stepEnd c cyc) s = .next t ∧ (t.ctx c).run = none ∧
        t.reg (K.contextStepsRun c) = (s.reg (K.contextStepsRun c) + 1) % 2 ^ 64 ∧
        t.reg (K.contextOpenCycles c) = (s.reg (K.contextOpenCycles c) + p.stepCycles r.step) % 2 ^ 64 ∧ Changes
          [.engine, .knots, .host, .faults, .power, .perf, .out] (.only [0x0804, 0x0913, 0x0914, 0x1205,
          K.waitersInUse, K.waitersPeak, K.knotOps, K.knotSaturations, K.frozenRefusals, K.knotOpsRefused,
          K.commandsCompleted, K.recordsUnrouted]) s t) ∧
  (∀ (s : State) (sess : Nat) (p : Plan) (n : Nat),
      s.gate sess K.flush = none →
      s.rtPlan = some p →
      s.belt.st = .stopped ∨ s.belt.st = .lost ∨ s.belt.st = .noSource →
      s.engine.flushAction = false →
      p.flush ≠ 0 →
      s.lastTriggered = some n →
      s.belt.streamStart = false →
      ∃ t, exec (.flush sess) s = .next t ∧ t.cmdRead K.flush = Status.inProgress ∧
        t.engine.flush = some { left := p.flush, stripe := n / p.stripeLines + 1
                                lines := n + 1 - s.belt.startStripe * p.stripeLines
                                resume := n / p.stripeLines + 1 + p.flush } ∧
        t.belt.stripe = n / p.stripeLines + 1 + p.flush ∧ t.belt.streamStart = true ∧
        t.belt.lineFloor = (n / p.stripeLines + 1 + p.flush) * p.stripeLines ∧ Changes [.ctl, .belt, .intake, .pipe,
          .engine, .power, .out] (.only [0x0208, 0x0509, 0x061A, K.currentStripe]) s t)

/-- From a decision record to the pulses (R258, R265, R267, R268), and FallbackOrigin (R416). -/
def Obligations.DecisionsBecomePulses : Prop :=
  (∀ (s : State) (r : Rec) (rest : List Rec),
      s.tracks.crossing = r :: rest →
      bitOf r.flags 0 = false →
      ∃ t, exec .decisionRecordTakeUp s = .next t ∧ t.tracks = { s.tracks with crossing := rest } ∧
        t.eject = s.eject ∧ Changes [.tracks, .eject, .host, .perf, .out] (.only [0x1205, K.pulsesPending,
          K.pulsesPeak, K.pulsesScheduled, K.pulsesMerged, K.storeFullRefused, K.lateDecisions, K.missedDecisions,
          K.disabledChannelRequests, K.recordsUnrouted]) s t) ∧
  (∀ (s : State) (r : Rec) (rest : List Rec) (c : Nat),
      s.tracks.crossing = r :: rest →
      bitOf r.flags 0 = true →
      s.recChannels r.payload = [c] →
      s.chanEnabled c = true →
      s.pulses c = [] →
      s.comparesRun = false →
      s.pulseCount < 32768 →
      ∃ t, exec .decisionRecordTakeUp s = .next t ∧ t.tracks = { s.tracks with crossing := rest } ∧
        t.pulses c = [{ openPos := r.pos * 65536, closePos := (r.pos + bits r.payload 63 48) * 65536 }] ∧
        (∀ d, d ≠ c → t.pulses d = s.pulses d) ∧
        t.reg K.pulsesScheduled = (s.reg K.pulsesScheduled + 1) % 2 ^ 64 ∧ Changes [.tracks, .eject, .host, .perf,
          .out] (.only [0x1205, K.pulsesPending, K.pulsesPeak, K.pulsesScheduled, K.pulsesMerged, K.storeFullRefused,
          K.lateDecisions, K.missedDecisions, K.disabledChannelRequests, K.recordsUnrouted]) s t) ∧
  (∀ (s : State) (ch t0 : Nat) (p : Pulse) (rest : List Pulse),
      ch < 1152 →
      s.pulses ch = p :: rest →
      p.deferred = some t0 →
      t0 ≤ s.tick →
      ∃ t, exec (.minOnTimeClose ch) s = .next t ∧ t.pulses ch = rest ∧ ch ∉ t.eject.chanOn ∧
        (∀ d, d ≠ ch → t.pulses d = s.pulses d) ∧ Changes [.eject, .field, .host, .perf, .out] (.only [0x0F10, 0x1205,
          K.pulsesPending, K.pulsesPeak, K.channelsOn, K.outputNotDriven, K.recordsUnrouted]) s t) ∧
  (∀ (s : State) (ch : Nat) (p : Pulse) (rest : List Pulse),
      ch < 1152 →
      s.pulses ch = p :: rest →
      p.on = true →
      s.maxOnTick ch p.onTick ≤ s.tick →
      (s.belt.ibp : Int) < s.closeCmp ch p →
      ∃ t, exec (.maxOnTimeExpiry ch) s = .next t ∧ ch ∉ t.eject.chanOn ∧
        t.pulses ch = { p with on := false, deferred := none, split := some (s.tick +
          (s.latOff ch + s.reg (K.valveMinOffTime (s.chanType ch)) - s.latOn ch + 3) / 4) } :: rest ∧
        Changes [.eject, .field, .host, .perf, .out] (.only [0x0F10, 0x1205, K.pulsesPending, K.pulsesPeak,
          K.channelsOn, K.outputNotDriven, K.recordsUnrouted]) s t) ∧
  (∀ (s : State) (ch t0 : Nat) (p : Pulse) (rest : List Pulse),
      ch < 1152 →
      s.pulses ch = p :: rest →
      p.split = some t0 →
      t0 ≤ s.tick →
      (s.belt.ibp : Int) < s.closeCmp ch p →
      ∃ t, exec (.splitReopen ch) s = .next t ∧
        (t.pulses ch).map (fun q => (q.on, q.split)) = (true, none) :: rest.map (fun q => (q.on, q.split)) ∧
        t.reg K.pulsesSplit = (s.reg K.pulsesSplit + 1) % 2 ^ 32 ∧ Changes [.eject, .field, .host, .perf, .out] (.only
          [0x0F10, 0x1205, K.pulsesPending, K.pulsesPeak, K.channelsOn, K.pulsesSplit, K.outputNotDriven,
          K.recordsUnrouted]) s t) ∧
  (∀ (s : State) (p : Nat) (rest : List Nat),
      s.tracks.originMsg = p :: rest →
      exec .fallbackOriginReceive s =
        .next (({ s with tracks := { s.tracks with originMsg := rest } } : State).setReg K.fallbackOrigin p))

/-- Test pulses (R276), the measured edges (R272) and the readback (R286). -/
def Obligations.TestPulsesAndFireErrors : Prop :=
  (∀ (s : State) (sess v : Nat),
      s.gate sess K.valveTestPulse = none →
      bits v 15 0 ≤ 1151 →
      1 ≤ bits v 31 16 →
      bits v 31 16 ≤ 1000 →
      s.belt.st = .stopped ∨ s.belt.st = .noSource →
      s.chanEnabled (bits v 15 0) = true →
      ∃ t, exec (.valveTestPulse sess v) s = .next t ∧
        t.eject.test = some { channel := bits v 15 0, start := s.tick, length := bits v 31 16 * 250000 } ∧
        t.eject.pulses = s.eject.pulses ∧ t.cmdRead K.valveTestPulse = Status.inProgress ∧ Changes [.ctl, .eject,
          .field, .host, .perf, .out] (.only [0x0F10, 0x1205, K.channelsOn, K.outputNotDriven, K.recordsUnrouted]) s t) ∧
  (∀ (s : State) (p : TestPulse),
      s.eject.test = some p →
      p.start + p.length ≤ s.tick →
      ∃ t, exec .testPulseEnd s = .next t ∧ t.eject.test = none ∧ p.channel ∉ t.eject.chanOn ∧
        t.eject.pulses = s.eject.pulses ∧ t.cmdRead K.valveTestPulse = Status.ok ∧ Changes [.ctl, .eject, .field, .out]
          (.only [0x0F10, K.channelsOn]) s t) ∧
  (∀ (s : State) (sess : Nat),
      s.gate sess K.fireErrorClear = none →
      ∃ t, exec (.fireErrorClear sess) s = .next t ∧ t.reg K.fireEdgesMeasured = 0 ∧ t.reg K.fireEdgesOutside = 0 ∧
        t.reg K.fireErrorMin = 0 ∧ t.reg K.fireErrorMax = 0 ∧ t.cmdRead K.fireErrorClear = Status.ok ∧
        Changes [.ctl, .out] (.only [K.fireEdgesMeasured, K.fireEdgesOutside, K.fireErrorMin, K.fireErrorMax]) s t) ∧
  (∀ (s : State) (o : Nat) (level : Bool),
      o < 128 →
      (s.dirOut o).readback ≠ level →
      ∃ t, exec (.readbackEdge o level) s = .next t ∧
        t.dirOut o = { s.dirOut o with readback := level, rbSince := s.tick, openLoad := (s.dirOut o).openLoad && level
          } ∧
        (∀ m, m ≠ o → t.dirOut m = s.dirOut m) ∧ t.eject.pulses = s.eject.pulses ∧ Changes [.eject, .field] (.only
          [K.fireEdgesMeasured, K.fireEdgesOutside, K.fireErrorMin, K.fireErrorMax]) s t)

/-- The field inputs (R280, R281) and the sensor supply (R283). -/
def Obligations.InputsAreRead : Prop :=
  (∀ (s : State) (n : Nat) (level : Bool),
      n < 32 →
      s.timeRuns = true →
      (s.input n).raw ≠ level →
      (s.input n).level ≠ level →
      s.reg (K.inputMode n) = 0 →
      ∃ t, exec (.inputRawEdge n level) s = .next t ∧ (t.input n).raw = level ∧ (t.input n).level = level ∧
        t.reg K.inputLevels = putBit (s.reg K.inputLevels) n level ∧
        t.reg (K.inputEdgeCount n) = (s.reg (K.inputEdgeCount n) + 1) % 2 ^ 32 ∧
        (∀ m, m ≠ n → t.input m = s.input m) ∧ Changes [.freeN, .ctl, .field, .host, .power, .perf, .out] (.only
          [0x0E06, 0x0E0A, 0x0E0B, 0x0E0E, 0x1205, K.lastWakeCause, K.inputLevels, K.recordsUnrouted]) s t) ∧
  (∀ (s : State) (n : Nat) (level : Bool),
      n < 32 →
      s.timeRuns = true →
      (s.input n).raw ≠ level →
      (s.input n).level ≠ level →
      s.reg (K.inputMode n) = 1 →
      ∃ t, exec (.inputRawEdge n level) s = .next t ∧
        t.input n = { s.input n with raw := level, rawSince := s.tick, cand := some s.tick, candIbp := s.belt.ibp
                                     candFc := s.fastCounts } ∧
        t.reg K.inputLevels = s.reg K.inputLevels ∧ Changes [.freeN, .ctl, .field, .host, .power, .perf, .out] (.only
          [0x0E06, 0x0E0A, 0x0E0B, 0x0E0E, 0x1205, K.lastWakeCause, K.inputLevels, K.recordsUnrouted]) s t) ∧
  (∀ (s : State) (n : Nat) (level : Bool),
      n < 32 →
      s.timeRuns = false →
      (s.input n).raw ≠ level →
      ∃ t, exec (.inputRawEdge n level) s = .next t ∧ (t.input n).raw = level ∧ (t.input n).level = (s.input n).level ∧
        Changes [.field] (.only []) s t) ∧
  (∀ (s : State) (n t0 : Nat),
      n < 32 →
      (s.input n).cand = some t0 →
      s.reg (K.inputMode n) = 1 →
      t0 < s.tick →
      s.reg (K.inputFilter n) ≤ 4 * (s.tick - t0) →
      ∃ t, exec (.inputFilterExpiry n) s = .next t ∧ (t.input n).level = (s.input n).raw ∧ (t.input n).cand = none ∧
        t.reg K.inputLevels = putBit (s.reg K.inputLevels) n (s.input n).raw ∧
        t.reg (K.inputEdgeCount n) = (s.reg (K.inputEdgeCount n) + 1) % 2 ^ 32 ∧ Changes [.freeN, .ctl, .field, .host,
          .power, .perf, .out] (.only [0x0E06, 0x0E0A, 0x0E0B, 0x0E0E, 0x1205, K.lastWakeCause, K.inputLevels,
          K.recordsUnrouted]) s t) ∧
  (∀ (s : State) (n : Nat) (level : Bool),
      n < 32 →
      s.power.st ≠ .retain →
      s.power.st ≠ .standby →
      (s.input n).level ≠ level →
      s.reg (K.inputMode n) = 2 →
      s.windowDue n = true →
      ∃ t, exec (.pulseWindowEnd n level) s = .next t ∧ (t.input n).level = level ∧
        t.reg K.inputLevels = putBit (s.reg K.inputLevels) n level ∧ Changes [.freeN, .ctl, .field, .host, .power,
          .perf, .out] (.only [0x0E06, 0x0E0A, 0x0E0B, 0x0E0E, 0x1205, K.lastWakeCause, K.inputLevels,
          K.recordsUnrouted]) s t) ∧
  (∀ (s : State) (ma : Nat),
      1000 < ma →
      s.reg K.sensorSupplyState = 0 →
      ∃ t, exec (.sensorSupplyTrip ma) s = .next t ∧ t.reg K.sensorSupplyState = 1 ∧
        t.reg K.sensorSupplyTrips = (s.reg K.sensorSupplyTrips + 1) % 2 ^ 32 ∧ Changes [.freeN, .host, .faults, .perf,
          .out] (.only [0x1205, 0x1402, 0x1703, K.sensorSupplyState, K.sensorSupplyTrips, K.recordsUnrouted,
          K.faultLogOverwritten, K.faultRecordsSuppressed]) s t) ∧
  (∀ (s : State) (sess : Nat),
      s.gate sess K.sensorSupplyReset = none →
      ∃ t, exec (.sensorSupplyReset sess) s = .next t ∧ t.reg K.sensorSupplyState = 0 ∧
        t.cmdRead K.sensorSupplyReset = Status.ok ∧ Changes [.ctl, .out] (.only [K.sensorSupplyState]) s t)

/-- What the readback of the direct outputs detects (R284, R286). -/
def Obligations.OutputFaultsAreDetected : Prop :=
  (∀ (s : State) (o : Nat),
      o < 128 →
      (s.dirOut o).cmd = true →
      (s.dirOut o).checked = false →
      (s.dirOut o).driven = true →
      (s.dirOut o).readback = false →
      (s.dirOut o).cmdTick + 2500 ≤ s.tick →
      ∃ t, exec (.outputReadbackCheck o) s = .next t ∧
        t.dirOut o = { s.dirOut o with checked := true, overload := true, driven := false } ∧
        (∀ m, m ≠ o → t.dirOut m = s.dirOut m) ∧
        t.reg (K.outputFaults o) = (s.reg (K.outputFaults o) + 1) % 2 ^ 32 ∧ Changes [.freeN, .field, .host, .faults,
          .perf, .out] (.only [0x0F06, 0x1205, 0x1402, 0x1703, K.recordsUnrouted, K.faultLogOverwritten,
          K.faultRecordsSuppressed]) s t) ∧
  (∀ (s : State) (o : Nat),
      o < 128 →
      (s.dirOut o).driven = true →
      ∃ t, exec (.currentLimitExpiry o) s = .next t ∧
        t.dirOut o = { s.dirOut o with overload := true, driven := false } ∧
        t.reg (K.outputFaults o) = (s.reg (K.outputFaults o) + 1) % 2 ^ 32 ∧ Changes [.freeN, .field, .host, .faults,
          .perf, .out] (.only [0x0F06, 0x1205, 0x1402, 0x1703, K.recordsUnrouted, K.faultLogOverwritten,
          K.faultRecordsSuppressed]) s t) ∧
  (∀ (s : State) (o : Nat),
      o < 128 →
      (s.dirOut o).cmd = false →
      (s.dirOut o).readback = true →
      (s.dirOut o).external = false →
      (s.dirOut o).cmdTick + 25000 ≤ s.tick →
      ∃ t, exec (.externalVoltageDetect o) s = .next t ∧ t.dirOut o = { s.dirOut o with external := true } ∧
        t.reg (K.outputFaults o) = (s.reg (K.outputFaults o) + 1) % 2 ^ 32 ∧ Changes [.freeN, .field, .host, .faults,
          .perf, .out] (.only [0x0F06, 0x1205, 0x1402, 0x1703, K.recordsUnrouted, K.faultLogOverwritten,
          K.faultRecordsSuppressed]) s t) ∧
  (∀ (s : State) (o : Nat),
      o < 128 →
      (s.dirOut o).external = true →
      (s.dirOut o).readback = false →
      (s.dirOut o).rbSince + 25000000 ≤ s.tick →
      exec (.externalVoltageClear o) s = .next (s.setOut o { s.dirOut o with external := false })) ∧
  (∀ (s : State) (o : Nat),
      o < 128 →
      (s.dirOut o).driven = false →
      (s.dirOut o).readback = true →
      (s.dirOut o).openLoad = false →
      s.flag (K.openLoadDetect o) = true →
      max (s.dirOut o).rbSince (max (s.dirOut o).cmdTick (s.dirOut o).testFrom) + 12500000 ≤ s.tick →
      ∃ t, exec (.openLoadDetect o) s = .next t ∧ t.dirOut o = { s.dirOut o with openLoad := true } ∧
        t.reg (K.outputFaults o) = (s.reg (K.outputFaults o) + 1) % 2 ^ 32 ∧ Changes [.freeN, .field, .host, .faults,
          .perf, .out] (.only [0x0F06, 0x1205, 0x1402, 0x1703, K.recordsUnrouted, K.faultLogOverwritten,
          K.faultRecordsSuppressed]) s t) ∧
  (∀ (s : State) (sess o : Nat),
      s.gate sess K.outputFaultClear = none →
      o < 128 →
      ∃ t, exec (.outputFaultClear sess o) s = .next t ∧ t.dirOut o = { s.dirOut o with overload := false } ∧
        (∀ m, m ≠ o → t.dirOut m = s.dirOut m) ∧ t.cmdRead K.outputFaultClear = Status.ok ∧ Changes [.ctl, .field,
          .out] (.only []) s t) ∧
  (∀ (s : State) (sess : Nat),
      s.gate sess K.outputFaultClear = none →
      ∃ t, exec (.outputFaultClear sess 255) s = .next t ∧ (∀ o, o < 128 → (t.dirOut o).overload = false) ∧
        t.cmdRead K.outputFaultClear = Status.ok ∧ Changes [.ctl, .field, .out] (.only []) s t)

/-- ALIVE_OUT (R287) and the general outputs (R285). -/
def Obligations.AliveAndGeneralOutputs : Prop :=
  (∀ (s : State),
      s.field.alive.running = true →
      s.field.alive.edge + 125000 ≤ s.tick →
      ∃ t, exec .aliveHalfPeriod s = .next t ∧
        t.field.alive = { s.field.alive with level := !s.field.alive.level, edge := s.tick } ∧ Changes [.field] (.only
          [K.aliveState]) s t) ∧
  (∀ (s : State) (sess : Nat),
      s.gate sess K.aliveControl = none →
      ∃ t, exec (.aliveStop sess) s = .next t ∧ t.field.alive.running = false ∧ t.field.alive.level = false ∧
        1 ∈ t.field.alive.causes ∧ t.reg K.aliveState = 0 ∧ t.cmdRead K.aliveControl = Status.ok ∧ Changes [.ctl,
          .field, .out] (.only [K.aliveState, K.aliveStopCause]) s t) ∧
  (∀ (s : State) (sess : Nat),
      s.gate sess K.aliveControl = none →
      s.field.alive.causes = [1] →
      s.field.alive.running = false →
      ∃ t, exec (.aliveStart sess) s = .next t ∧
        t.field.alive = { running := true, level := true, edge := s.tick, causes := [] } ∧ t.reg K.aliveState = 1 ∧
        t.reg K.aliveStopCause = 0 ∧ t.cmdRead K.aliveControl = Status.ok ∧ Changes [.ctl, .field, .out] (.only
          [K.aliveState, K.aliveStopCause]) s t) ∧
  (∀ (s : State) (sess : Nat),
      s.gate sess K.aliveControl = none →
      (s.field.alive.causes.any (· != 1)) = true →
      exec (.aliveStart sess) s = .next (s.answer sess K.aliveControl Status.contextState)) ∧
  (∀ (s : State) (sess o level : Nat),
      o < 128 →
      level ≤ 1 →
      s.ctl.serving = true →
      s.faults.stalled = false →
      s.flag (K.generalOutputEnable o) = true →
      (s.dirOut o).rest = false →
      ∃ t, exec (.generalOutputLevel sess o level) s = .next t ∧ t.reg (K.generalOutputLevel o) = level ∧
        (t.dirOut o).cmd = decide (level ≠ 0) ∧ (∀ m, m ≠ o → t.dirOut m = s.dirOut m) ∧ Changes [.freeN, .blobs, .ctl,
          .belt, .supplies, .intake, .pipe, .engine, .tracks, .eject, .field, .memory, .knots, .host, .net, .faults,
          .power, .perf, .boot, .out] (.all) s t)

/-- The encoder channels (R303 to R305). -/
def Obligations.EncodersAreSuppliedAndRead : Prop :=
  (∀ (s : State) (c ma : Nat),
      c < 2 →
      s.reg (K.encoderSupply c) ≠ 0 →
      s.encLimit c < ma →
      (s.enc c).supplyTripped = false →
      ∃ t, exec (.encoderSupplyTrip c ma) s = .next t ∧ t.enc c = { s.enc c with supplyTripped := true } ∧
        (∀ d, d ≠ c → t.enc d = s.enc d) ∧ t.reg (K.encoderState c) = 2 ∧
        t.reg (K.encoderSupplyTrips c) = (s.reg (K.encoderSupplyTrips c) + 1) % 2 ^ 32 ∧ Changes [.freeN, .field,
          .host, .faults, .perf, .out] (.only [0x1010, 0x1014, 0x1205, 0x1402, 0x1703, K.recordsUnrouted,
          K.faultLogOverwritten, K.faultRecordsSuppressed]) s t) ∧
  (∀ (s : State) (sess c : Nat),
      s.gate sess K.encoderSupplyReset = none →
      c < 2 →
      (s.enc c).supplyTripped = true →
      ∃ t, exec (.encoderSupplyReset sess c) s = .next t ∧ t.enc c = { s.enc c with supplyTripped := false } ∧
        (∀ d, d ≠ c → t.enc d = s.enc d) ∧ t.reg (K.encoderState c) = bitNat (s.encUsed c) ∧
        t.cmdRead K.encoderSupplyReset = Status.ok ∧ Changes [.ctl, .field, .out] (.only [0x1010]) s t) ∧
  (∀ (s : State) (c : Nat) (r : EncRead),
      c < 2 →
      s.flag (K.auxEnable c) = true →
      (s.enc c).lastAux + s.reg (K.auxSamplePeriod c) / 4 ≤ s.tick →
      s.timeRuns = true →
      (s.encCheck c r).1 = false →
      (s.enc c).wPrev = none →
      ∃ t, exec (.auxSample c r) s = .next t ∧
        t.reg (K.auxPosition c) = (if (s.enc c).win = [] then 0 else s.reg (K.auxPosition c)) ∧
        (t.enc c).wPrev = some (s.encPosition c r) ∧ (t.enc c).lastAux = s.tick ∧ Changes [.field] (.only [0x100D,
          0x100E, 0x100F, 0x1010, 0x1011, 0x1012, 0x1013]) s t) ∧
  (∀ (s : State) (c w : Nat) (r : EncRead),
      c < 2 →
      s.flag (K.auxEnable c) = true →
      (s.enc c).lastAux + s.reg (K.auxSamplePeriod c) / 4 ≤ s.tick →
      s.timeRuns = true →
      (s.encCheck c r).1 = false →
      (s.enc c).wPrev = some w →
      (unwrap (s.encBits c) (s.encPosition c r) w).natAbs ≤ 2 ^ (s.encBits c - 2) →
      ∃ t, exec (.auxSample c r) s = .next t ∧
        t.reg (K.auxPosition c) = unsigned 64 (signed 64 (s.reg (K.auxPosition c)) + unwrap (s.encBits c)
          (s.encPosition c r) w) ∧
        (t.enc c).wPrev = some (s.encPosition c r) ∧ Changes [.field] (.only [0x100D, 0x100E, 0x100F, 0x1010, 0x1011,
          0x1012, 0x1013]) s t)

/-- How a valve link comes up (R291, R296). -/
def Obligations.ValveLinkComesUp : Prop :=
  (∀ (s : State) (p : Nat),
      p < 4 →
      s.timeRuns = true →
      (s.vl p).st = .down →
      ∃ t, exec (.valveLinkLockGained p) s = .next t ∧
        t.vl p = { s.vl p with lock := true, st := .ident, since := s.tick } ∧
        (∀ q, q ≠ p → t.vl q = s.vl q) ∧ Changes [.field] (.only [0x0F10]) s t) ∧
  (∀ (s : State) (p : Nat) (f : VlFrame),
      p < 4 →
      s.supplies.inReset = false →
      f.codeErrors = 0 →
      f.crcOk = true →
      f.badLength = false →
      f.typ = 0x81 →
      f.payload.length = 16 →
      (s.vl p).st = .ident →
      s.identFail p f.payload = none →
      ∃ t, exec (.valveLinkIdent p f) s = .next t ∧ (t.vl p).st = .measuring ∧ (t.vl p).ident = f.payload ∧
        (t.vl p).echoSent = some s.tick ∧ (t.vl p).unacked = [] ∧ t.blob (K.driverIdent p) = f.payload ∧
        Changes [.blobs, .field, .out] (.only [0x0F10, 0x0F11, 0x0F18, 0x0F19]) s t) ∧
  (∀ (s : State) (p t0 : Nat),
      p < 4 →
      (s.vl p).echoSent = some t0 →
      ∃ t, exec (.valveLinkEcho p) s = .next t ∧
        t.vl p = { s.vl p with echoSent := none, rtt := some (4 * (s.tick - t0)) } ∧ Changes [.field] (.only [0x0F10])
          s t) ∧
  (∀ (s : State) (p : Nat) (f : VlFrame),
      p < 4 →
      s.supplies.inReset = false →
      f.codeErrors = 0 →
      f.crcOk = true →
      f.badLength = false →
      f.typ = 0x82 →
      f.payload.length = 8 →
      (s.vl p).st = .arming →
      (s.vl p).unacked = [] →
      (s.vl p).rtt = none →
      ∃ t, exec (.valveLinkStatus p f) s = .next t ∧ (t.vl p).st = .active ∧ (t.vl p).lastStatus = s.tick ∧
        (t.vl p).ackSeq = some (leAt f.payload 1 1) ∧ Changes [.field, .out] (.only [0x0F10, 0x0F11, 0x0F13, 0x0F18,
          0x0F19, 0x0F1C]) s t) ∧
  (∀ (s : State) (p : Nat),
      p < 4 →
      (s.vl p).st = .ident →
      (s.vl p).since + 2500000 ≤ s.tick →
      ∃ t, exec (.identTimeout p) s = .next t ∧ (t.vl p).st = .failed ∧ t.reg (K.valveLinkFailCause p) = 6 ∧
        (∀ q, q ≠ p → t.vl q = s.vl q) ∧ Changes [.field] (.only [0x0F10, 0x0F11]) s t) ∧
  (∀ (s : State) (p : Nat),
      p < 4 →
      (s.vl p).st = .failed →
      (s.vl p).lock = true →
      (s.vl p).since + 250000000 ≤ s.tick →
      ∃ t, exec (.valveLinkBringupRetry p) s = .next t ∧ t.vl p = { s.vl p with st := .ident, since := s.tick } ∧
        (∀ q, q ≠ p → t.vl q = s.vl q) ∧ Changes [.field] (.only [0x0F10]) s t)

/-- Losses, keep-alives, control frames and measurements of a valve link (R290 to R297). -/
def Obligations.ValveLinkIsKept : Prop :=
  (∀ (s : State) (p : Nat),
      p < 4 →
      (s.vl p).st.live = true →
      ∃ t, exec (.valveLinkLockLost p) s = .next t ∧ (t.vl p).st = .lost ∧ (t.vl p).lock = false ∧ (t.vl p).tags = [] ∧
        t.reg (K.driverLosses p) = (s.reg (K.driverLosses p) + 1) % 2 ^ 32 ∧ Changes [.freeN, .field, .host, .faults,
          .perf, .out] (.only [0x0F10, 0x0F1A, 0x1205, 0x1402, 0x1703, K.recordsUnrouted, K.faultLogOverwritten,
          K.faultRecordsSuppressed]) s t) ∧
  (∀ (s : State) (p : Nat),
      p < 4 →
      (s.vl p).st = .active →
      (s.vl p).lastStatus + 250000 ≤ s.tick →
      ∃ t, exec (.statusTimeout p) s = .next t ∧ (t.vl p).st = .lost ∧ (t.vl p).tags = [] ∧
        t.reg (K.driverLosses p) = (s.reg (K.driverLosses p) + 1) % 2 ^ 32 ∧ Changes [.freeN, .field, .host, .faults,
          .perf, .out] (.only [0x0F10, 0x0F1A, 0x1205, 0x1402, 0x1703, K.recordsUnrouted, K.faultLogOverwritten,
          K.faultRecordsSuppressed]) s t) ∧
  (∀ (s : State) (p : Nat),
      p < 4 →
      (s.vl p).kaSent + s.reg K.keepAlivePeriod * 250 ≤ s.tick →
      s.timeRuns = true →
      ∃ t, exec (.valveLinkKeepalive p) s = .next t ∧ (t.vl p).kaSeq = ((s.vl p).kaSeq + 1) % 256 ∧
        (t.vl p).kaSent = s.tick ∧ (t.vl p).st = (s.vl p).st ∧ Changes [.field, .out] (.only [0x0F10]) s t) ∧
  (∀ (s : State) (p : Nat) (f : CtlFrame),
      p < 4 →
      (s.vl p).unacked = [f] →
      f.sent + 50000 ≤ s.tick →
      ∃ t, exec (.controlFrameRetransmit p) s = .next t ∧ (t.vl p).unacked = [{ f with sent := s.tick }] ∧
        t.reg (K.armRetransmissions p) = (s.reg (K.armRetransmissions p) + 1) % 2 ^ 32 ∧
        Changes [.field, .out] (.only [0x0F10, 0x0F1B]) s t) ∧
  (∀ (s : State) (p : Nat),
      p < 4 →
      (s.vl p).st = .active →
      (s.vl p).lastMeasure + 25000000 ≤ s.tick →
      (s.vl p).echoSent = none →
      (s.vl p).rtt = none →
      ∃ t, exec (.cableDelayRemeasure p) s = .next t ∧
        t.vl p = { s.vl p with echoes := [], lastMeasure := s.tick, echoSent := some s.tick } ∧ Changes [.field, .out]
          (.only [0x0F10]) s t)

/-- The frames of a valve link (R290 to R292, R295, R300). -/
def Obligations.ValveFramesAreHandled : Prop :=
  (∀ (s : State) (p : Nat) (q : StrobeReq),
      p < 4 →
      (s.vl p).strobes = [q] →
      s.vlSends p = true →
      ∃ t, exec (.strobe p) s = .next t ∧ (t.vl p).strobes = [] ∧
        (t.vl p).tags = ((s.vl p).tags.map fun u =>
          if u.tag = q.tag ∧ u.strobed = none then { u with strobed := some s.localTime } else u) ∧
        t.reg (K.strobesSent p) = (s.reg (K.strobesSent p) + 1) % 2 ^ 64 ∧ Changes [.field, .out] (.only [0x0F10,
          0x0F1D]) s t) ∧
  (∀ (s : State) (p : Nat) (f : VlFrame),
      p < 4 →
      s.supplies.inReset = false →
      f.codeErrors = 0 →
      f.crcOk = true →
      f.badLength = false →
      f.typ = 0x83 →
      f.payload.length = 6 →
      (s.vl p).tags = [] →
      exec (.edgeStamp p f) s = .next s) ∧
  (∀ (s : State) (p t0 : Nat) (f : VlFrame) (g : Tag),
      p < 4 →
      s.supplies.inReset = false →
      f.codeErrors = 0 →
      f.crcOk = true →
      f.badLength = false →
      f.typ = 0x83 →
      f.payload.length = 6 →
      (s.vl p).tags = [g] →
      g.tag = leAt f.payload 0 2 →
      g.strobed = some t0 →
      exec (.edgeStamp p f) s = .next (s.stampEdge (128 + 256 * p + leAt f.payload 2 1) (leAt f.payload 3 1 == 1)
        (t0 + (s.vl p).cableDelay + leAt f.payload 4 2))) ∧
  (∀ (s : State) (p v : Nat) (f : VlFrame) (rest : List Nat),
      p < 4 →
      s.supplies.inReset = false →
      f.codeErrors = 0 →
      f.crcOk = true →
      f.badLength = false →
      f.typ = 0x84 →
      f.payload.length = 4 + 4 * ((List.range 8).filter fun g => bitOf (leAt f.payload 1 1) g).length →
      maskValves f.payload (leAt f.payload 1 1) 4 = v :: rest →
      exec (.driverFault p f) s =
        .next (s.report FCode.driverFault Unit.valveLinks (p + 256 * leAt f.payload 0 1 + 65536 * v))) ∧
  (∀ (s : State) (p : Nat),
      p < 4 →
      s.reg (K.valveLinkTest p) = 2 →
      (s.vl p).st = .test →
      ∃ t, exec (.testFrameSend p) s = .next t ∧ (t.vl p).testOut = (prbsBytes 32 (s.vl p).prbs).1 ∧
        (t.vl p).prbs = (prbsBytes 32 (s.vl p).prbs).2 ∧ (t.vl p).testSeq = ((s.vl p).testSeq + 1) % 256 ∧
        Changes [.field, .out] (.only [0x0F10]) s t) ∧
  (∀ (s : State) (p : Nat) (f : VlFrame),
      p < 4 →
      s.supplies.inReset = false →
      f.codeErrors = 0 →
      f.crcOk = true →
      f.badLength = false →
      f.typ = 0x85 →
      f.payload.length = 32 →
      s.reg (K.valveLinkTest p) = 2 →
      exec (.testEcho p f) s = .next (s.bump (K.valveLinkTestErrors p) (bitDiff f.payload (s.vl p).testOut))) ∧
  (∀ (s : State) (p : Nat) (f : VlFrame),
      p < 4 →
      s.supplies.inReset = false →
      ∃ t, exec (.valveLinkFrameDiscarded p f) s = .next t ∧ t.vl p = s.vl p ∧
        t.reg (K.valveLinkCrcErrors p) = (s.reg (K.valveLinkCrcErrors p) + 1) % 2 ^ 32 ∧
        t.reg (K.valveLinkCodeErrors p) = (s.reg (K.valveLinkCodeErrors p) + f.codeErrors) % 2 ^ 32 ∧
        Changes [] (.only [0x0F18, 0x0F19]) s t)

/-- What the memory die does with a downstream frame (R314, R315, R319 to R321, R323). -/
def Obligations.MemoryDieServesFrames : Prop :=
  (∀ (s : State) (l : Nat) (f : DownFrame),
      s.hasMlink l = true →
      (s.mlink l).st = .up →
      f.crcOk 2 = true →
      f.opOk = true →
      f.seq % 256 = (s.mlink l).dieDown →
      (f.reserved = true ∨ (s.mlink l).writes = []) →
      ∃ t, exec (.memoryWrite l f) s = .next t ∧ (t.mlink l).dieDown = ((s.mlink l).dieDown + 1) % 256 ∧ (t.mlink
        l).dieUp = ((s.mlink l).dieUp + 1) % 256 ∧
        (t.mlink l).writes = (s.mlink l).writes ++ [(f.addr, f.slots)] ∧
        t.memory.cells = s.memory.cells ∧ Changes [.freeN, .blobs, .ctl, .belt, .pipe, .engine, .tracks, .eject,
          .memory, .knots, .host, .faults, .perf, .out] (.only [0x0804, 0x0B0C, 0x1205, 0x1402, 0x1703,
          K.decisionsIssued, K.fallbackDecisions, K.waitersInUse, K.waitersPeak, K.ownerResetReleases,
          K.knotDumpContext, K.pulsesPending, K.pulsesPeak, K.pulsesScheduled, K.pulsesMerged, K.storeFullRefused,
          K.lateDecisions, K.missedDecisions, K.disabledChannelRequests, K.commandsCompleted, K.recordsUnrouted,
          K.faultLogOverwritten, K.faultRecordsSuppressed, K.fallbackGapOpen, K.gapRecords]) s t) ∧
  (∀ (s : State) (l a n : Nat) (rest : List (Nat × Nat)) (f : DownFrame),
      s.hasMlink l = true →
      (s.mlink l).st = .up →
      f.crcOk 0 = true →
      f.opOk = true →
      f.seq % 256 = (s.mlink l).dieDown →
      f.reserved = false →
      f.replay = none →
      (s.mlink l).writes = (a, n) :: rest →
      a + 150 ≤ 2 ^ 33 →
      ∃ t, exec (.nop l f) s = .next t ∧ (t.mlink l).dieDown = ((s.mlink l).dieDown + 1) % 256 ∧ (t.mlink l).dieUp =
        ((s.mlink l).dieUp + 1) % 256 ∧
        (t.mlink l).writes = (if n ≤ 1 then rest else (a + 150, n - 1) :: rest) ∧
        (∀ m o, o < 2 ^ 33 → t.memByte m o = if m = linkDie l ∧ a ≤ o ∧ o < a + 150 ∧ s.slotAt o = none
          then (fitBytes 150 f.data).getD (o - a) 0 else s.memByte m o) ∧ Changes [.freeN, .blobs, .ctl, .belt, .pipe,
            .engine, .tracks, .eject, .memory, .knots, .host, .faults, .perf, .out] (.only [0x0804, 0x0B0C, 0x1205,
            0x1402, 0x1703, K.decisionsIssued, K.fallbackDecisions, K.waitersInUse, K.waitersPeak,
            K.ownerResetReleases, K.knotDumpContext, K.pulsesPending, K.pulsesPeak, K.pulsesScheduled, K.pulsesMerged,
            K.storeFullRefused, K.lateDecisions, K.missedDecisions, K.disabledChannelRequests, K.commandsCompleted,
            K.recordsUnrouted, K.faultLogOverwritten, K.faultRecordsSuppressed, K.fallbackGapOpen, K.gapRecords]) s t) ∧
  (∀ (s : State) (l : Nat) (f : DownFrame),
      s.hasMlink l = true →
      (s.mlink l).st = .up →
      f.crcOk 1 = true →
      f.opOk = true →
      f.seq % 256 = (s.mlink l).dieDown →
      (f.reserved = true ∨ (s.mlink l).writes = []) →
      f.replay = none →
      (s.mlink l).queue = [] →
      ∃ t, exec (.memoryRead l f) s = .next t ∧ (t.mlink l).dieDown = ((s.mlink l).dieDown + 1) % 256 ∧ (t.mlink
        l).dieUp = ((s.mlink l).dieUp + 1) % 256 ∧
        (t.mlink l).queue = (List.range f.slots).map (fun i => (6, s.memRead (linkDie l) (f.addr + 150 * i) 150)) ∧
        t.memory.cells = s.memory.cells ∧ Changes [.freeN, .blobs, .ctl, .belt, .pipe, .engine, .tracks, .eject,
          .memory, .knots, .host, .faults, .perf, .out] (.only [0x0804, 0x0B0C, 0x1205, 0x1402, 0x1703,
          K.decisionsIssued, K.fallbackDecisions, K.waitersInUse, K.waitersPeak, K.ownerResetReleases,
          K.knotDumpContext, K.pulsesPending, K.pulsesPeak, K.pulsesScheduled, K.pulsesMerged, K.storeFullRefused,
          K.lateDecisions, K.missedDecisions, K.disabledChannelRequests, K.commandsCompleted, K.recordsUnrouted,
          K.faultLogOverwritten, K.faultRecordsSuppressed, K.fallbackGapOpen, K.gapRecords]) s t) ∧
  (∀ (s : State) (l : Nat) (f : DownFrame),
      s.hasMlink l = true →
      (s.mlink l).st = .up →
      f.crcOk 3 = true →
      f.opOk = true →
      f.seq % 256 = (s.mlink l).dieDown →
      ∃ t, exec (.refresh l f) s = .next t ∧ (t.mlink l).dieDown = ((s.mlink l).dieDown + 1) % 256 ∧ (t.mlink l).dieUp
        = ((s.mlink l).dieUp + 1) % 256 ∧
        SMap.get 0 t.memory.refresh (linkDie l) = (SMap.get 0 s.memory.refresh (linkDie l) + 1) % 262144 ∧
        t.memory.cells = s.memory.cells ∧ Changes [.freeN, .blobs, .ctl, .belt, .pipe, .engine, .tracks, .eject,
          .memory, .knots, .host, .faults, .perf, .out] (.only [0x0804, 0x0B0C, 0x1205, 0x1402, 0x1703,
          K.decisionsIssued, K.fallbackDecisions, K.waitersInUse, K.waitersPeak, K.ownerResetReleases,
          K.knotDumpContext, K.pulsesPending, K.pulsesPeak, K.pulsesScheduled, K.pulsesMerged, K.storeFullRefused,
          K.lateDecisions, K.missedDecisions, K.disabledChannelRequests, K.commandsCompleted, K.recordsUnrouted,
          K.faultLogOverwritten, K.faultRecordsSuppressed, K.fallbackGapOpen, K.gapRecords]) s t) ∧
  (∀ (s : State) (l : Nat) (f : DownFrame),
      s.hasMlink l = true →
      (s.mlink l).st = .up →
      f.crcOk 4 = true →
      f.opOk = true →
      f.seq % 256 = (s.mlink l).dieDown →
      s.badIn (linkDie l) (512 * SMap.get 0 s.memory.scrub (linkDie l)) 512 f.bad = [] →
      ∃ t, exec (.scrub l f) s = .next t ∧ (t.mlink l).dieDown = ((s.mlink l).dieDown + 1) % 256 ∧ (t.mlink l).dieUp =
        ((s.mlink l).dieUp + 1) % 256 ∧
        SMap.get 0 t.memory.scrub (linkDie l) = (SMap.get 0 s.memory.scrub (linkDie l) + 1) % 16777216 ∧
        t.reg (K.correctedSymbols (linkDie l)) = (s.reg (K.correctedSymbols (linkDie l)) + f.corrected) % 2 ^ 64 ∧
        t.memory.cells = s.memory.cells ∧ Changes [.freeN, .blobs, .ctl, .belt, .pipe, .engine, .tracks, .eject,
          .memory, .knots, .host, .faults, .perf, .out] (.only [0x0804, 0x0B07, 0x0B09, 0x0B0A, 0x0B0C, 0x1205, 0x1402,
          0x1703, K.decisionsIssued, K.fallbackDecisions, K.waitersInUse, K.waitersPeak, K.ownerResetReleases,
          K.knotDumpContext, K.pulsesPending, K.pulsesPeak, K.pulsesScheduled, K.pulsesMerged, K.storeFullRefused,
          K.lateDecisions, K.missedDecisions, K.disabledChannelRequests, K.commandsCompleted, K.recordsUnrouted,
          K.faultLogOverwritten, K.faultRecordsSuppressed, K.fallbackGapOpen, K.gapRecords]) s t) ∧
  (∀ (s : State) (l : Nat) (f : DownFrame),
      s.hasMlink l = true →
      (s.mlink l).st = .up →
      f.crcOk 0 = true →
      f.opOk = true →
      f.seq % 256 = (s.mlink l).dieDown →
      (f.reserved = true ∨ (s.mlink l).writes = []) →
      ∃ t, exec (.nop l f) s = .next t ∧ (t.mlink l).dieDown = ((s.mlink l).dieDown + 1) % 256 ∧ (t.mlink l).dieUp =
        ((s.mlink l).dieUp + 1) % 256 ∧ t.memory.cells = s.memory.cells ∧ Changes [.freeN, .blobs, .ctl, .belt, .pipe,
        .engine, .tracks, .eject, .memory, .knots, .host, .faults, .perf, .out] (.only [0x0804, 0x0B0C, 0x1205, 0x1402,
        0x1703, K.decisionsIssued, K.fallbackDecisions, K.waitersInUse, K.waitersPeak, K.ownerResetReleases,
        K.knotDumpContext, K.pulsesPending, K.pulsesPeak, K.pulsesScheduled, K.pulsesMerged, K.storeFullRefused,
        K.lateDecisions, K.missedDecisions, K.disabledChannelRequests, K.commandsCompleted, K.recordsUnrouted,
        K.faultLogOverwritten, K.faultRecordsSuppressed, K.fallbackGapOpen, K.gapRecords]) s t) ∧
  (∀ (s : State) (l q : Nat) (f : DownFrame),
      s.hasMlink l = true →
      (s.mlink l).st = .up →
      f.crcOk 0 = true →
      f.opOk = true →
      f.seq % 256 = (s.mlink l).dieDown →
      (f.reserved = true ∨ (s.mlink l).writes = []) →
      f.replay = some q →
      (((s.mlink l).upKept.map fun k => k.1 % 128).contains (q % 128)) = true →
      ∃ t, exec (.replay l f) s = .next t ∧ (t.mlink l).dieDown = ((s.mlink l).dieDown + 1) % 256 ∧ (t.mlink l).dieUp =
        ((s.mlink l).dieUp + 1) % 256 ∧ (t.mlink l).st = .up ∧ t.memory.cells = s.memory.cells ∧
        Changes [.freeN, .blobs, .ctl, .belt, .pipe, .engine, .tracks, .eject, .memory, .knots, .host, .faults, .perf,
          .out] (.only [0x0804, 0x0B0C, 0x1205, 0x1402, 0x1703, K.decisionsIssued, K.fallbackDecisions, K.waitersInUse,
          K.waitersPeak, K.ownerResetReleases, K.knotDumpContext, K.pulsesPending, K.pulsesPeak, K.pulsesScheduled,
          K.pulsesMerged, K.storeFullRefused, K.lateDecisions, K.missedDecisions, K.disabledChannelRequests,
          K.commandsCompleted, K.recordsUnrouted, K.faultLogOverwritten, K.faultRecordsSuppressed, K.fallbackGapOpen,
          K.gapRecords]) s t) ∧
  (∀ (s : State) (l : Nat) (f : DownFrame),
      s.hasMlink l = true →
      (s.mlink l).st = .up →
      ∃ t, exec (.downstreamCrcFailure l f) s = .next t ∧ (t.mlink l).dieDown = (s.mlink l).dieDown ∧
        (t.mlink l).dieUp = ((s.mlink l).dieUp + 1) % 256 ∧ t.memory.cells = s.memory.cells ∧
        Changes [.memory, .out] (.only []) s t)

/-- The links between the compute dies and the memory (R318 to R328). -/
def Obligations.MemoryLinksRun : Prop :=
  (∀ (s : State) (l : Nat) (f : UpFrame),
      s.hasMlink l = true →
      (s.mlink l).st = .up →
      f.seq % 256 = (s.mlink l).upSeq →
      f.crcOk = true →
      f.valid = false →
      ∃ t, exec (.upstreamFrameLanded l f) s = .next t ∧
        t.mlink l = { s.mlink l with upSeq := ((s.mlink l).upSeq + 1) % 256, upFails := 0 } ∧
        Changes [.freeN, .blobs, .ctl, .belt, .pipe, .engine, .tracks, .eject, .memory, .knots, .host, .faults, .perf,
          .out] (.only [0x0804, 0x0B04, 0x0B06, 0x0B07, 0x0B08, 0x0B0C, 0x1205, 0x1402, 0x1703, K.decisionsIssued,
          K.fallbackDecisions, K.waitersInUse, K.waitersPeak, K.ownerResetReleases, K.knotDumpContext, K.pulsesPending,
          K.pulsesPeak, K.pulsesScheduled, K.pulsesMerged, K.storeFullRefused, K.lateDecisions, K.missedDecisions,
          K.disabledChannelRequests, K.commandsCompleted, K.recordsUnrouted, K.faultLogOverwritten,
          K.faultRecordsSuppressed, K.fallbackGapOpen, K.gapRecords]) s t) ∧
  (∀ (s : State) (l : Nat) (f : UpFrame) (r : MReq),
      s.hasMlink l = true →
      (s.mlink l).st = .up →
      f.seq % 256 = (s.mlink l).upSeq →
      f.crcOk = true →
      f.valid = true →
      (s.mlink l).reads = [r] →
      r.count = 1 →
      r.kind = 2 →
      s.badIn (linkDie l) r.addr 150 f.bad = [] →
      (s.ctx r.ctx).st ≠ .gloved →
      r.dest + 150 ≤ 2 ^ 26 →
      ∃ t, exec (.upstreamFrameLanded l f) s = .next t ∧ (t.mlink l).reads = [] ∧
        (∀ i, i < 150 → SMap.get 0 t.engine.act (actKey (linkCompute l) (r.dest + i)) = (fitBytes 150 f.data).getD i 0) ∧
        Changes [.freeN, .blobs, .ctl, .belt, .pipe, .engine, .tracks, .eject, .memory, .knots, .host, .faults, .perf,
          .out] (.only [0x0804, 0x0B04, 0x0B06, 0x0B07, 0x0B08, 0x0B0C, 0x1205, 0x1402, 0x1703, K.decisionsIssued,
          K.fallbackDecisions, K.waitersInUse, K.waitersPeak, K.ownerResetReleases, K.knotDumpContext, K.pulsesPending,
          K.pulsesPeak, K.pulsesScheduled, K.pulsesMerged, K.storeFullRefused, K.lateDecisions, K.missedDecisions,
          K.disabledChannelRequests, K.commandsCompleted, K.recordsUnrouted, K.faultLogOverwritten,
          K.faultRecordsSuppressed, K.fallbackGapOpen, K.gapRecords]) s t) ∧
  (∀ (s : State) (l q : Nat) (f : UpFrame) (m : MSent),
      s.hasMlink l = true →
      (s.mlink l).st = .up →
      f.seq % 256 = (s.mlink l).upSeq →
      f.crcOk = true →
      f.valid = false →
      f.nak = some q →
      (s.mlink l).downKept = [m] →
      m.seq = q % 256 →
      (s.mlink l).downFails = 0 →
      (s.mlink l).lag + 8 ≤ 64 →
      ∃ t, exec (.nakResend l f) s = .next t ∧ (t.mlink l).lag = (s.mlink l).lag + 8 ∧ (t.mlink l).downFails = 1 ∧
        (t.mlink l).nakSeq = q % 256 ∧ (t.mlink l).st = .up ∧
        t.reg (K.downstreamRetries (linkDie l)) = (s.reg (K.downstreamRetries (linkDie l)) + 1) % 2 ^ 32 ∧
        Changes [.freeN, .blobs, .ctl, .belt, .pipe, .engine, .tracks, .eject, .memory, .knots, .host, .faults, .perf,
          .out] (.only [0x0804, 0x0B04, 0x0B05, 0x0B06, 0x0B07, 0x0B08, 0x0B0C, 0x1205, 0x1402, 0x1703,
          K.decisionsIssued, K.fallbackDecisions, K.waitersInUse, K.waitersPeak, K.ownerResetReleases,
          K.knotDumpContext, K.pulsesPending, K.pulsesPeak, K.pulsesScheduled, K.pulsesMerged, K.storeFullRefused,
          K.lateDecisions, K.missedDecisions, K.disabledChannelRequests, K.commandsCompleted, K.recordsUnrouted,
          K.faultLogOverwritten, K.faultRecordsSuppressed, K.fallbackGapOpen, K.gapRecords]) s t) ∧
  (∀ (s : State) (l k cyc : Nat),
      s.hasMlink l = true →
      s.knots.held = [] →
      (s.mlink l).st = .up →
      s.isFrozen (linkCompute l) = false →
      s.power.clock = none →
      s.schedules (linkCompute l) = [] →
      s.gridBase (linkCompute l) + 16 * k ≤ cyc →
      s.feed cyc = s →
      (s.mlink l).lastSlot ≤ s.gridBase (linkCompute l) + 16 * k →
      ∃ t, exec (.linkSlotStart l k cyc) s = .next t ∧
        (t.mlink l).lastSlot = s.gridBase (linkCompute l) + 16 * k + 1 ∧
        (t.mlink l).downSeq = ((s.mlink l).downSeq + 1) % 256 ∧
        (t.mlink l).lag = (if k % 64 = 63 then (s.mlink l).lag else (s.mlink l).lag - 1) ∧ Changes [.freeN, .engine,
          .memory, .knots, .host, .faults, .perf, .out] (.only [0x0804, 0x1205, K.waitersInUse, K.waitersPeak,
          K.knotOps, K.knotSaturations, K.frozenRefusals, K.knotOpsRefused, K.commandsCompleted, K.recordsUnrouted]) s
          t) ∧
  (∀ (s : State) (l cyc : Nat),
      s.hasMlink l = true →
      (s.mlink l).st = .up →
      (s.mlink l).lag = 0 →
      s.window l cyc = true →
      ∃ t, exec (.recal l cyc) s = .next t ∧ (t.mlink l).lastRecal = cyc ∧ (t.mlink l).recalAt = some s.tick ∧
        (t.mlink l).overdue = false ∧ (t.mlink l).downSeq = ((s.mlink l).downSeq + 1) % 256 ∧ Changes [.memory, .perf,
          .out] (.only []) s t) ∧
  (∀ (s : State) (l cyc : Nat),
      s.hasMlink l = true →
      (s.mlink l).st = .up →
      (s.mlink l).overdue = false →
      (s.mlink l).lastRecal + s.reg K.recalInterval < cyc →
      ∃ t, exec (.recalOverdue l cyc) s = .next t ∧ t.mlink l = { s.mlink l with overdue := true } ∧
        t.reg (K.recalOverdue (linkDie l)) = (s.reg (K.recalOverdue (linkDie l)) + 1) % 2 ^ 32 ∧ Changes [.memory]
          (.only [0x0B0B]) s t) ∧
  (∀ (s : State) (l k addr : Nat) (d : List Byte),
      s.hasMlink l = true →
      (s.mlink l).st = .up →
      s.power.clock = none →
      (s.mlink l).lag = 0 →
      d ≠ [] →
      d.length ≤ 2400 →
      k % 64 ≠ 63 →
      s.schedules (linkCompute l) = [] →
      addr % 2 = 0 →
      addr + d.length ≤ 2 ^ 33 →
      s.guarded addr (addr + d.length) = false →
      ∃ t, exec (.externalTransfer l k true addr d) s = .next t ∧
        (∀ m o, o < 2 ^ 33 → t.memByte m o = if m = linkDie l ∧ addr ≤ o ∧ o < addr + d.length ∧ s.slotAt o = none
          then d.getD (o - addr) 0 else s.memByte m o) ∧ Changes [.memory, .host, .perf, .out] (.only [0x1205,
            K.recordsUnrouted]) s t) ∧
  (∀ (s : State) (sess : Nat),
      s.gate sess K.uncorrectableLogClear = none →
      ∃ t, exec (.uncorrectableLogClear sess) s = .next t ∧ t.memory = { s.memory with log := [] } ∧
        t.cmdRead K.uncorrectableLogClear = Status.ok ∧ Changes [.ctl, .memory, .faults, .out] (.only [0x1703]) s t)

/-- The knot commands (R335, R338 to R341). -/
def Obligations.KnotsCountAndRelease : Prop :=
  (∀ (s : State) (r : Nat) (c : RingCmd),
      r < 16384 →
      (s.ring r).st = .running →
      (s.ring r).cmds = [c] →
      c.st = .fetched →
      c.opcode = 0x50 →
      bitOf (leAt c.body 1 1) 2 = false →
      s.knotRefusal (leAt c.body 4 2) (leAt c.body 8 4) false (s.ring r).ctx = none →
      -2147483648 ≤ (s.knot (leAt c.body 4 2)).count + leAt c.body 8 4 →
      (s.knot (leAt c.body 4 2)).count + leAt c.body 8 4 ≤ 2147483647 →
      ∀ w ∈ s.knots.waiters, w.knot = leAt c.body 4 2 → (s.knot (leAt c.body 4 2)).count + leAt c.body 8 4 < (w.n : Int) →
      ∃ t, exec (.knotAdd r) s = .next t ∧
        t.knot (leAt c.body 4 2) = { s.knot (leAt c.body 4 2) with
          count := (s.knot (leAt c.body 4 2)).count + leAt c.body 8 4 } ∧
        (∀ k, k ≠ leAt c.body 4 2 → t.knot k = s.knot k) ∧ t.knots.waiters = s.knots.waiters ∧ t.reg K.knotOps = (s.reg
          K.knotOps + 1) % 2 ^ 64 ∧ (t.ring r).cmds = [] ∧ (t.ring r).completed = ((s.ring r).completed + 1) % 2 ^ 32 ∧
        (t.ring r).lastStatus = Status.ok ∧
        (.hostWrite ((s.ring r).port.getD 0) ((s.ring r).entryAddr c.index + 0x30)
          ((s.ring r).completion c (Status.ok) (t.knotResult (leAt c.body 4 2)))) ∈ t.out ∧ Changes [.knots, .host,
            .perf, .out] (.only [0x1205, K.waitersInUse, K.waitersPeak, K.knotOps, K.knotSaturations, K.frozenRefusals,
            K.commandsCompleted, K.recordsUnrouted]) s t) ∧
  (∀ (s : State) (r : Nat) (c : RingCmd),
      r < 16384 →
      (s.ring r).st = .running →
      (s.ring r).cmds = [c] →
      c.st = .fetched →
      c.opcode = 0x51 →
      bitOf (leAt c.body 1 1) 2 = false →
      s.knotRefusal (leAt c.body 4 2) (leAt c.body 8 4) false (s.ring r).ctx = none →
      -2147483648 ≤ (s.knot (leAt c.body 4 2)).count - leAt c.body 8 4 →
      (s.knot (leAt c.body 4 2)).count - leAt c.body 8 4 ≤ 2147483647 →
      ∀ w ∈ s.knots.waiters, w.knot = leAt c.body 4 2 → (s.knot (leAt c.body 4 2)).count - leAt c.body 8 4 < (w.n : Int) →
      ∃ t, exec (.knotSub r) s = .next t ∧
        t.knot (leAt c.body 4 2) = { s.knot (leAt c.body 4 2) with
          count := (s.knot (leAt c.body 4 2)).count - leAt c.body 8 4 } ∧
        (∀ k, k ≠ leAt c.body 4 2 → t.knot k = s.knot k) ∧ t.knots.waiters = s.knots.waiters ∧ t.reg K.knotOps = (s.reg
          K.knotOps + 1) % 2 ^ 64 ∧ (t.ring r).cmds = [] ∧ (t.ring r).completed = ((s.ring r).completed + 1) % 2 ^ 32 ∧
        (t.ring r).lastStatus = Status.ok ∧
        (.hostWrite ((s.ring r).port.getD 0) ((s.ring r).entryAddr c.index + 0x30)
          ((s.ring r).completion c (Status.ok) (t.knotResult (leAt c.body 4 2)))) ∈ t.out ∧ Changes [.knots, .host,
            .perf, .out] (.only [0x1205, K.waitersInUse, K.waitersPeak, K.knotOps, K.knotSaturations, K.frozenRefusals,
            K.commandsCompleted, K.recordsUnrouted]) s t) ∧
  (∀ (s : State) (r : Nat) (c : RingCmd),
      r < 16384 →
      (s.ring r).st = .running →
      (s.ring r).cmds = [c] →
      c.st = .fetched →
      c.opcode = 0x50 →
      bitOf (leAt c.body 1 1) 2 = false →
      s.knotRefusal (leAt c.body 4 2) (leAt c.body 8 4) false (s.ring r).ctx = none →
      2147483647 < (s.knot (leAt c.body 4 2)).count + leAt c.body 8 4 →
      ∀ w ∈ s.knots.waiters, w.knot = leAt c.body 4 2 → 2147483647 < (w.n : Int) →
      ∃ t, exec (.knotAdd r) s = .next t ∧
        t.knot (leAt c.body 4 2) = { s.knot (leAt c.body 4 2) with count := 2147483647, overflow := true } ∧
        (∀ k, k ≠ leAt c.body 4 2 → t.knot k = s.knot k) ∧ t.knots.waiters = s.knots.waiters ∧ t.reg K.knotSaturations
          = (s.reg K.knotSaturations + 1) % 2 ^ 32 ∧ t.reg K.knotOps = (s.reg K.knotOps + 1) % 2 ^ 64 ∧ (t.ring r).cmds
          = [] ∧ (t.ring r).completed = ((s.ring r).completed + 1) % 2 ^ 32 ∧
        (t.ring r).lastStatus = Status.saturated ∧
        (.hostWrite ((s.ring r).port.getD 0) ((s.ring r).entryAddr c.index + 0x30)
          ((s.ring r).completion c (Status.saturated) (t.knotResult (leAt c.body 4 2)))) ∈ t.out ∧ Changes [.knots,
            .host, .perf, .out] (.only [0x1205, K.waitersInUse, K.waitersPeak, K.knotOps, K.knotSaturations,
            K.frozenRefusals, K.commandsCompleted, K.recordsUnrouted]) s t) ∧
  (∀ (s : State) (r : Nat) (c : RingCmd),
      r < 16384 →
      (s.ring r).st = .running →
      (s.ring r).cmds = [c] →
      c.st = .fetched →
      c.opcode = 0x51 →
      bitOf (leAt c.body 1 1) 2 = false →
      s.knotRefusal (leAt c.body 4 2) (leAt c.body 8 4) false (s.ring r).ctx = none →
      -2147483648 > (s.knot (leAt c.body 4 2)).count - leAt c.body 8 4 →
      ∀ w ∈ s.knots.waiters, w.knot = leAt c.body 4 2 → -2147483648 < (w.n : Int) →
      ∃ t, exec (.knotSub r) s = .next t ∧
        t.knot (leAt c.body 4 2) = { s.knot (leAt c.body 4 2) with count := -2147483648, underflow := true } ∧
        (∀ k, k ≠ leAt c.body 4 2 → t.knot k = s.knot k) ∧ t.knots.waiters = s.knots.waiters ∧ t.reg K.knotSaturations
          = (s.reg K.knotSaturations + 1) % 2 ^ 32 ∧ t.reg K.knotOps = (s.reg K.knotOps + 1) % 2 ^ 64 ∧ (t.ring r).cmds
          = [] ∧ (t.ring r).completed = ((s.ring r).completed + 1) % 2 ^ 32 ∧
        (t.ring r).lastStatus = Status.saturated ∧
        (.hostWrite ((s.ring r).port.getD 0) ((s.ring r).entryAddr c.index + 0x30)
          ((s.ring r).completion c (Status.saturated) (t.knotResult (leAt c.body 4 2)))) ∈ t.out ∧ Changes [.knots,
            .host, .perf, .out] (.only [0x1205, K.waitersInUse, K.waitersPeak, K.knotOps, K.knotSaturations,
            K.frozenRefusals, K.commandsCompleted, K.recordsUnrouted]) s t) ∧
  (∀ (s : State) (r q : Nat) (c d : RingCmd) (w : Waiter),
      r < 16384 →
      (s.ring r).st = .running →
      (s.ring r).cmds = [c] →
      c.st = .fetched →
      c.opcode = 0x50 →
      bitOf (leAt c.body 1 1) 2 = false →
      s.knotRefusal (leAt c.body 4 2) (leAt c.body 8 4) false (s.ring r).ctx = none →
      (s.knot (leAt c.body 4 2)).count + leAt c.body 8 4 ≤ 2147483647 →
      s.knots.waiters = [w] →
      w.knot = leAt c.body 4 2 →
      w.issuer = .ring q d.index →
      q ≠ r →
      (s.ring q).st = .running →
      (s.ring q).cmds = [d] →
      (w.n : Int) ≤ (s.knot (leAt c.body 4 2)).count + leAt c.body 8 4 →
      ∃ t, exec (.knotAdd r) s = .next t ∧ t.knots.waiters = [] ∧
        t.knot (leAt c.body 4 2) = { s.knot (leAt c.body 4 2) with
          count := (s.knot (leAt c.body 4 2)).count + leAt c.body 8 4 - (if w.subtract then w.n else 0) } ∧
        (∀ k, k ≠ leAt c.body 4 2 → t.knot k = s.knot k) ∧ (t.ring q).cmds = [] ∧ (t.ring q).completed = ((s.ring
          q).completed + 1) % 2 ^ 32 ∧
        (t.ring q).lastStatus = Status.ok ∧ t.reg K.knotOps = (s.reg K.knotOps + 1) % 2 ^ 64 ∧ (t.ring r).cmds = [] ∧
          (t.ring r).completed = ((s.ring r).completed + 1) % 2 ^ 32 ∧
        (t.ring r).lastStatus = Status.ok ∧
        (.hostWrite ((s.ring r).port.getD 0) ((s.ring r).entryAddr c.index + 0x30)
          ((s.ring r).completion c (Status.ok) (t.knotResult (leAt c.body 4 2)))) ∈ t.out ∧ Changes [.knots, .host,
            .perf, .out] (.only [0x1205, K.waitersInUse, K.waitersPeak, K.knotOps, K.knotSaturations, K.frozenRefusals,
            K.commandsCompleted, K.recordsUnrouted]) s t) ∧
  (∀ (s : State) (r : Nat) (c : RingCmd),
      r < 16384 →
      (s.ring r).st = .running →
      (s.ring r).cmds = [c] →
      c.st = .fetched →
      c.opcode = 0x52 →
      bitOf (leAt c.body 1 1) 2 = false →
      s.knotRefusal (leAt c.body 4 2) (leAt c.body 8 4) false (s.ring r).ctx = none →
      (leAt c.body 8 4 : Int) ≤ (s.knot (leAt c.body 4 2)).count →
      ∀ w ∈ s.knots.waiters, w.knot = leAt c.body 4 2 → w.subtract = false →
      ∃ t, exec (.knotWait r) s = .next t ∧
        t.knot (leAt c.body 4 2) = { s.knot (leAt c.body 4 2) with
          count := (s.knot (leAt c.body 4 2)).count - (if bitOf (leAt c.body 1 1) 0 then leAt c.body 8 4 else 0) } ∧
        (∀ k, k ≠ leAt c.body 4 2 → t.knot k = s.knot k) ∧ t.knots.waiters = s.knots.waiters ∧ t.reg K.knotOps = (s.reg
          K.knotOps + 1) % 2 ^ 64 ∧ (t.ring r).cmds = [] ∧ (t.ring r).completed = ((s.ring r).completed + 1) % 2 ^ 32 ∧
        (t.ring r).lastStatus = Status.ok ∧
        (.hostWrite ((s.ring r).port.getD 0) ((s.ring r).entryAddr c.index + 0x30)
          ((s.ring r).completion c (Status.ok) (t.knotResult (leAt c.body 4 2)))) ∈ t.out ∧ Changes [.knots, .host,
            .perf, .out] (.only [0x1205, K.waitersInUse, K.waitersPeak, K.knotOps, K.knotSaturations, K.frozenRefusals,
            K.commandsCompleted, K.recordsUnrouted]) s t) ∧
  (∀ (s : State) (r : Nat) (c : RingCmd),
      r < 16384 →
      (s.ring r).st = .running →
      (s.ring r).cmds = [c] →
      c.st = .fetched →
      c.opcode = 0x52 →
      bitOf (leAt c.body 1 1) 2 = false →
      s.knotRefusal (leAt c.body 4 2) (leAt c.body 8 4) false (s.ring r).ctx = none →
      (s.knot (leAt c.body 4 2)).count < leAt c.body 8 4 →
      s.knots.waiters.length < s.reg K.waiterCapacity →
      ∃ t, exec (.knotWait r) s = .next t ∧ t.knots.words = s.knots.words ∧
        t.knots.waiters = s.knots.waiters ++
          [{ knot := leAt c.body 4 2, issuer := .ring r c.index, ctx := (s.ring r).ctx, n := leAt c.body 8 4
             subtract := bitOf (leAt c.body 1 1) 0, since := s.tick, timeout := leAt c.body 12 4 }] ∧
        t.reg K.knotOps = (s.reg K.knotOps + 1) % 2 ^ 64 ∧ (t.ring r).cmds = [{ c with st := .started }] ∧ Changes
          [.knots, .host, .perf, .out] (.only [0x1205, K.waitersInUse, K.waitersPeak, K.knotOps, K.knotSaturations,
          K.frozenRefusals, K.commandsCompleted, K.recordsUnrouted]) s t) ∧
  (∀ (s : State) (r : Nat) (c : RingCmd),
      r < 16384 →
      (s.ring r).st = .running →
      (s.ring r).cmds = [c] →
      c.st = .fetched →
      c.opcode = 0x53 →
      bitOf (leAt c.body 1 1) 2 = false →
      ∃ t, exec (.knotRead r) s = .next t ∧ t.knots = s.knots ∧
        t.reg K.knotOps = (s.reg K.knotOps + 1) % 2 ^ 64 ∧ (t.ring r).cmds = [] ∧ (t.ring r).completed = ((s.ring
          r).completed + 1) % 2 ^ 32 ∧
        (t.ring r).lastStatus = Status.ok ∧
        (.hostWrite ((s.ring r).port.getD 0) ((s.ring r).entryAddr c.index + 0x30)
          ((s.ring r).completion c (Status.ok) (t.knotResult (leAt c.body 4 2)))) ∈ t.out ∧ Changes [.knots, .host,
            .perf, .out] (.only [0x1205, K.waitersInUse, K.waitersPeak, K.knotOps, K.knotSaturations, K.frozenRefusals,
            K.commandsCompleted, K.recordsUnrouted]) s t) ∧
  (∀ (s : State) (r : Nat) (c : RingCmd),
      r < 16384 →
      (s.ring r).st = .running →
      (s.ring r).cmds = [c] →
      c.st = .fetched →
      c.opcode = 0x54 →
      bitOf (leAt c.body 1 1) 2 = false →
      s.knotOwner (leAt c.body 4 2) = some (s.ring r).ctx →
      ∀ w ∈ s.knots.waiters, w.knot = leAt c.body 4 2 → signed 32 (leAt c.body 8 4) < (w.n : Int) →
      ∃ t, exec (.knotInit r) s = .next t ∧
        t.knot (leAt c.body 4 2) = { count := signed 32 (leAt c.body 8 4), gen := ((s.knot (leAt c.body 4 2)).gen + 1)
          % 65536 } ∧
        (∀ k, k ≠ leAt c.body 4 2 → t.knot k = s.knot k) ∧ t.knots.waiters = s.knots.waiters ∧ t.reg K.knotOps = (s.reg
          K.knotOps + 1) % 2 ^ 64 ∧ (t.ring r).cmds = [] ∧ (t.ring r).completed = ((s.ring r).completed + 1) % 2 ^ 32 ∧
        (t.ring r).lastStatus = Status.ok ∧
        (.hostWrite ((s.ring r).port.getD 0) ((s.ring r).entryAddr c.index + 0x30)
          ((s.ring r).completion c (Status.ok) (t.knotResult (leAt c.body 4 2)))) ∈ t.out ∧ Changes [.knots, .host,
            .perf, .out] (.only [0x1205, K.waitersInUse, K.waitersPeak, K.knotOps, K.knotSaturations, K.frozenRefusals,
            K.commandsCompleted, K.recordsUnrouted]) s t) ∧
  (∀ (s : State) (r st : Nat) (c : RingCmd),
      r < 16384 →
      (s.ring r).st = .running →
      (s.ring r).cmds = [c] →
      c.st = .fetched →
      c.opcode = 0x50 →
      bitOf (leAt c.body 1 1) 2 = false →
      s.knotRefusal (leAt c.body 4 2) (leAt c.body 8 4) false (s.ring r).ctx = some st →
      ∃ t, exec (.knotAdd r) s = .next t ∧ t.knots = s.knots ∧ (t.ring r).cmds = [] ∧ (t.ring r).completed = ((s.ring
        r).completed + 1) % 2 ^ 32 ∧
        (t.ring r).lastStatus = st ∧
        (.hostWrite ((s.ring r).port.getD 0) ((s.ring r).entryAddr c.index + 0x30)
          ((s.ring r).completion c (st) (t.knotResult (leAt c.body 4 2)))) ∈ t.out ∧ Changes [.knots, .host, .perf,
            .out] (.only [0x1205, K.waitersInUse, K.waitersPeak, K.knotOps, K.knotSaturations, K.frozenRefusals,
            K.commandsCompleted, K.recordsUnrouted]) s t) ∧
  (∀ (s : State) (r st : Nat) (c : RingCmd),
      r < 16384 →
      (s.ring r).st = .running →
      (s.ring r).cmds = [c] →
      c.st = .fetched →
      c.opcode = 0x51 →
      bitOf (leAt c.body 1 1) 2 = false →
      s.knotRefusal (leAt c.body 4 2) (leAt c.body 8 4) false (s.ring r).ctx = some st →
      ∃ t, exec (.knotSub r) s = .next t ∧ t.knots = s.knots ∧ (t.ring r).cmds = [] ∧ (t.ring r).completed = ((s.ring
        r).completed + 1) % 2 ^ 32 ∧
        (t.ring r).lastStatus = st ∧
        (.hostWrite ((s.ring r).port.getD 0) ((s.ring r).entryAddr c.index + 0x30)
          ((s.ring r).completion c (st) (t.knotResult (leAt c.body 4 2)))) ∈ t.out ∧ Changes [.knots, .host, .perf,
            .out] (.only [0x1205, K.waitersInUse, K.waitersPeak, K.knotOps, K.knotSaturations, K.frozenRefusals,
            K.commandsCompleted, K.recordsUnrouted]) s t) ∧
  (∀ (s : State) (r st : Nat) (c : RingCmd),
      r < 16384 →
      (s.ring r).st = .running →
      (s.ring r).cmds = [c] →
      c.st = .fetched →
      c.opcode = 0x52 →
      bitOf (leAt c.body 1 1) 2 = false →
      s.knotRefusal (leAt c.body 4 2) (leAt c.body 8 4) false (s.ring r).ctx = some st →
      ∃ t, exec (.knotWait r) s = .next t ∧ t.knots = s.knots ∧ (t.ring r).cmds = [] ∧ (t.ring r).completed = ((s.ring
        r).completed + 1) % 2 ^ 32 ∧
        (t.ring r).lastStatus = st ∧
        (.hostWrite ((s.ring r).port.getD 0) ((s.ring r).entryAddr c.index + 0x30)
          ((s.ring r).completion c (st) (t.knotResult (leAt c.body 4 2)))) ∈ t.out ∧ Changes [.knots, .host, .perf,
            .out] (.only [0x1205, K.waitersInUse, K.waitersPeak, K.knotOps, K.knotSaturations, K.frozenRefusals,
            K.commandsCompleted, K.recordsUnrouted]) s t) ∧
  (∀ (s : State) (r st : Nat) (c : RingCmd),
      r < 16384 →
      (s.ring r).st = .running →
      (s.ring r).cmds = [c] →
      c.st = .fetched →
      c.opcode = 0x54 →
      bitOf (leAt c.body 1 1) 2 = false →
      s.knotRefusal (leAt c.body 4 2) 0 true (s.ring r).ctx = some st →
      ∃ t, exec (.knotInit r) s = .next t ∧ t.knots = s.knots ∧ (t.ring r).cmds = [] ∧ (t.ring r).completed = ((s.ring
        r).completed + 1) % 2 ^ 32 ∧
        (t.ring r).lastStatus = st ∧
        (.hostWrite ((s.ring r).port.getD 0) ((s.ring r).entryAddr c.index + 0x30)
          ((s.ring r).completion c (st) (t.knotResult (leAt c.body 4 2)))) ∈ t.out ∧ Changes [.knots, .host, .perf,
            .out] (.only [0x1205, K.waitersInUse, K.waitersPeak, K.knotOps, K.knotSaturations, K.frozenRefusals,
            K.commandsCompleted, K.recordsUnrouted]) s t)

/-- Knot actions of a plan (R344), wait timeouts (R340) and fences (R342). -/
def Obligations.PlanKnotActionsAndFences : Prop :=
  (∀ (s : State) (n cyc : Nat) (per : Period) (p : Plan) (a : KnotAct),
      s.engine.period = some per →
      s.runPlan 0 = some p →
      (p.knotActs (s.image p))[n]? = some a →
      a.kind = 1 →
      a.flags = 0 →
      per.empty = false →
      per.acted.contains n = false →
      per.start + a.cycle + per.frozenOn a.die ≤ cyc →
      s.isFrozen a.die = false →
      (s.knotOwner a.knot).isSome = true →
      (s.knot a.knot).frozen = false →
      1 ≤ a.value →
      a.value ≤ 2147483647 →
      -2147483648 ≤ (s.knot a.knot).count + a.value →
      (s.knot a.knot).count + a.value ≤ 2147483647 →
      s.hasWaiter a.knot = false →
      ∃ t, exec (.planKnotAction n cyc) s = .next t ∧ t.engine.period = some { per with acted := per.acted ++ [n] } ∧
        t.knot a.knot = { s.knot a.knot with count := (s.knot a.knot).count + a.value } ∧
        (∀ k, k ≠ a.knot → t.knot k = s.knot k) ∧ Changes [.engine, .knots, .host, .perf, .out] (.only [0x1205,
          K.waitersInUse, K.waitersPeak, K.knotOps, K.knotSaturations, K.frozenRefusals, K.knotOpsRefused,
          K.commandsCompleted, K.recordsUnrouted]) s t) ∧
  (∀ (s : State) (w : Waiter) (r : Nat) (c : RingCmd),
      s.knots.waiters = [w] →
      w.issuer = .ring r c.index →
      w.timeout ≠ 0 →
      w.timeout * 1000 ≤ (s.tick - w.since) * 4 →
      (s.ring r).st = .running →
      (s.ring r).cmds = [c] →
      ∃ t, exec (.knotWaitTimeout 0) s = .next t ∧ t.knots.waiters = [] ∧ t.knots.words = s.knots.words ∧
        t.reg K.waitTimeouts = (s.reg K.waitTimeouts + 1) % 2 ^ 32 ∧ (t.ring r).cmds = [] ∧ (t.ring r).completed =
          ((s.ring r).completed + 1) % 2 ^ 32 ∧
        (t.ring r).lastStatus = Status.timeout ∧ Changes [.knots, .host, .perf, .out] (.only [0x1205, K.waitersInUse,
          K.waitersPeak, K.waitTimeouts, K.commandsCompleted, K.recordsUnrouted]) s t) ∧
  (∀ (s : State) (r : Nat) (c : RingCmd),
      r < 16384 →
      (s.ring r).st = .running →
      (s.ring r).cmds = [c] →
      c.st = .fetched →
      c.opcode = 0x55 →
      ∃ t, exec (.fence r) s = .next t ∧ (t.ring r) = { s.ring r with cmds := [{ c with st := .started }] } ∧ Changes
        [.host] (.only []) s t) ∧
  (∀ (s : State) (r : Nat) (c : RingCmd),
      r < 16384 →
      (s.ring r).st = .running →
      (s.ring r).cmds = [c] →
      c.st = .started →
      c.opcode = 0x55 →
      c.fencing = false →
      ∃ t, exec (.fenceRelease r) s = .next t ∧ (t.ring r).cmds = [] ∧ (t.ring r).completed = ((s.ring r).completed +
        1) % 2 ^ 32 ∧
        (t.ring r).lastStatus = Status.ok ∧ Changes [.knots, .host, .perf, .out] (.only [0x1205, K.waitersInUse,
          K.waitersPeak, K.knotOps, K.knotSaturations, K.frozenRefusals, K.commandsCompleted, K.recordsUnrouted]) s t)

/-- What a tether packet does (R348 to R350, R353, R354, R357). -/
def Obligations.TetherPacketsAct : Prop :=
  (∀ (s : State) (q : Nat) (p : TPacket),
      q < 4 →
      (s.tport q).st = .up →
      p.crcOk 0x01 = true →
      p.typeOk = true →
      p.reservedOk = true →
      p.seq = (s.tport q).rxSeq →
      p.dest = s.ownMember →
      s.engine.period = none →
      ∃ t, exec (.operand q p) s = .next t ∧ (t.tport q).rxSeq = ((s.tport q).rxSeq + 1) % 65536 ∧ t.engine = s.engine
        ∧ t.knots.group.st = s.knots.group.st ∧
        Changes [.freeN, .blobs, .ctl, .belt, .pipe, .engine, .tracks, .eject, .memory, .knots, .host, .faults, .perf,
          .out] (.only [0x0804, 0x0D08, 0x1205, 0x1402, 0x1703, K.decisionsIssued, K.fallbackDecisions, K.waitersInUse,
          K.waitersPeak, K.ownerResetReleases, K.knotDumpContext, K.groupState, K.groupFailCause, K.groupSkews,
          K.pulsesPending, K.pulsesPeak, K.pulsesScheduled, K.pulsesMerged, K.storeFullRefused, K.lateDecisions,
          K.missedDecisions, K.disabledChannelRequests, K.commandsCompleted, K.recordsUnrouted, K.faultLogOverwritten,
          K.faultRecordsSuppressed, K.fallbackGapOpen, K.gapRecords]) s t) ∧
  (∀ (s : State) (q : Nat) (p : TPacket) (per : Period),
      q < 4 →
      (s.tport q).st = .up →
      p.crcOk 0x01 = true →
      p.typeOk = true →
      p.reservedOk = true →
      p.seq = (s.tport q).rxSeq →
      p.dest = s.ownMember →
      s.engine.period = some per →
      s.groupPlan.isSome = true →
      per.empty = false →
      p.tag ≠ per.k % 2 ^ 32 →
      ∃ t, exec (.operand q p) s = .next t ∧ (t.tport q).rxSeq = ((s.tport q).rxSeq + 1) % 65536 ∧ t.knots.group.st =
        .failed ∧ t.knots.group.cause = 5 ∧
        t.reg K.groupSkews = (s.reg K.groupSkews + 1) % 2 ^ 32 ∧ Changes [.freeN, .blobs, .ctl, .belt, .pipe, .engine,
          .tracks, .eject, .memory, .knots, .host, .faults, .perf, .out] (.only [0x0804, 0x0D08, 0x1205, 0x1402,
          0x1703, K.decisionsIssued, K.fallbackDecisions, K.waitersInUse, K.waitersPeak, K.ownerResetReleases,
          K.knotDumpContext, K.groupState, K.groupFailCause, K.groupSkews, K.pulsesPending, K.pulsesPeak,
          K.pulsesScheduled, K.pulsesMerged, K.storeFullRefused, K.lateDecisions, K.missedDecisions,
          K.disabledChannelRequests, K.commandsCompleted, K.recordsUnrouted, K.faultLogOverwritten,
          K.faultRecordsSuppressed, K.fallbackGapOpen, K.gapRecords]) s t) ∧
  (∀ (s : State) (q : Nat) (p : TPacket),
      q < 4 →
      (s.tport q).st = .up →
      p.crcOk 0x02 = true →
      p.typeOk = true →
      p.reservedOk = true →
      p.seq = (s.tport q).rxSeq →
      p.dest = s.ownMember →
      (s.ctx p.ctx).st ≠ .gloved →
      ∃ t, exec (.tetherWrite q p) s = .next t ∧ (t.tport q).rxSeq = ((s.tport q).rxSeq + 1) % 65536 ∧ SMap.getList 0
        t.knots.inbox p.arg p.body.length = p.body ∧
        (∀ a, a < p.arg ∨ p.arg + p.body.length ≤ a → SMap.get 0 t.knots.inbox a = SMap.get 0 s.knots.inbox a) ∧
          Changes [.knots, .perf, .out] (.only [0x0D08, K.tetherErrorCompletions]) s t) ∧
  (∀ (s : State) (q : Nat) (p : TPacket),
      q < 4 →
      (s.tport q).st = .up →
      p.crcOk 0x02 = true →
      p.typeOk = true →
      p.reservedOk = true →
      p.seq = (s.tport q).rxSeq →
      p.dest = s.ownMember →
      (s.ctx p.ctx).st = .gloved →
      ∃ t, exec (.tetherWrite q p) s = .next t ∧ (t.tport q).rxSeq = ((s.tport q).rxSeq + 1) % 65536 ∧ t.knots.inbox =
        s.knots.inbox ∧
        t.reg K.tetherErrorCompletions = (s.reg K.tetherErrorCompletions + 1) % 2 ^ 32 ∧ Changes [.knots, .perf, .out]
          (.only [0x0D08, K.tetherErrorCompletions]) s t) ∧
  (∀ (s : State) (q : Nat) (p : TPacket),
      q < 4 →
      (s.tport q).st = .up →
      p.crcOk 0x03 = true →
      p.typeOk = true →
      p.reservedOk = true →
      p.seq = (s.tport q).rxSeq →
      p.dest = s.ownMember →
      (s.ctx p.ctx).st ≠ .gloved →
      s.reg (K.routeTable p.src) = q →
      ∃ t, exec (.readReq q p) s = .next t ∧ (t.tport q).rxSeq = ((s.tport q).rxSeq + 1) % 65536 ∧ (t.tport q).txSeq =
        ((s.tport q).txSeq + 1) % 65536 ∧ t.knots.inbox = s.knots.inbox ∧
        Changes [.knots, .perf, .out] (.only [0x0D08, K.tetherErrorCompletions]) s t) ∧
  (∀ (s : State) (q r : Nat) (p : TPacket) (x : TReq) (c : RingCmd),
      q < 4 →
      (s.tport q).st = .up →
      p.crcOk 0x04 = true →
      p.typeOk = true →
      p.reservedOk = true →
      p.seq = (s.tport q).rxSeq →
      p.dest = s.ownMember →
      s.knots.requests = [x] →
      x.tag = p.tag →
      x.member = p.src →
      x.ctx = p.ctx →
      x.issuer = .ring r c.index →
      (s.ring r).st = .running →
      (s.ring r).cmds = [c] →
      ∃ t, exec (.readComp q p) s = .next t ∧ (t.tport q).rxSeq = ((s.tport q).rxSeq + 1) % 65536 ∧ t.knots.requests =
        [] ∧ (t.ring r).cmds = [] ∧ (t.ring r).completed = ((s.ring r).completed + 1) % 2 ^ 32 ∧
        (t.ring r).lastStatus = Status.ok ∧
        Changes [.knots, .host, .perf, .out] (.only [0x0D08, 0x1205, K.knotOpsRefused, K.commandsCompleted,
          K.recordsUnrouted]) s t) ∧
  (∀ (s : State) (q r : Nat) (p : TPacket) (x : TReq) (c : RingCmd),
      q < 4 →
      (s.tport q).st = .up →
      p.crcOk 0x06 = true →
      p.typeOk = true →
      p.reservedOk = true →
      p.seq = (s.tport q).rxSeq →
      p.dest = s.ownMember →
      s.knots.requests = [x] →
      x.tag = p.tag →
      x.member = p.src →
      x.ctx = p.ctx →
      x.issuer = .ring r c.index →
      (s.ring r).st = .running →
      (s.ring r).cmds = [c] →
      ∃ t, exec (.knotReply q p) s = .next t ∧ (t.tport q).rxSeq = ((s.tport q).rxSeq + 1) % 65536 ∧ t.knots.requests =
        [] ∧
        (t.ring r).cmds = [] ∧ (t.ring r).completed = ((s.ring r).completed + 1) % 2 ^ 32 ∧
        (t.ring r).lastStatus = p.arg % 65536 ∧ Changes [.knots, .host, .perf, .out] (.only [0x0D08, 0x1205,
          K.knotOpsRefused, K.commandsCompleted, K.recordsUnrouted]) s t) ∧
  (∀ (s : State) (q r : Nat) (p : TPacket) (x : TReq) (c : RingCmd),
      q < 4 →
      (s.tport q).st = .up →
      p.crcOk 0x07 = true →
      p.typeOk = true →
      p.reservedOk = true →
      p.seq = (s.tport q).rxSeq →
      p.dest = s.ownMember →
      s.knots.requests = [x] →
      x.tag = p.tag →
      x.member = p.src →
      x.ctx = p.ctx →
      x.issuer = .ring r c.index →
      (s.ring r).st = .running →
      (s.ring r).cmds = [c] →
      ∃ t, exec (.errorComp q p) s = .next t ∧ (t.tport q).rxSeq = ((s.tport q).rxSeq + 1) % 65536 ∧ t.knots.requests =
        [] ∧
        (t.ring r).cmds = [] ∧ (t.ring r).completed = ((s.ring r).completed + 1) % 2 ^ 32 ∧
        (t.ring r).lastStatus = Status.tetherError ∧ Changes [.knots, .host, .perf, .out] (.only [0x0D08, 0x1205,
          K.knotOpsRefused, K.commandsCompleted, K.recordsUnrouted]) s t) ∧
  (∀ (s : State) (q : Nat) (p : TPacket),
      q < 4 →
      (s.tport q).st = .up →
      p.crcOk 0x05 = true →
      p.typeOk = true →
      p.reservedOk = true →
      p.seq = (s.tport q).rxSeq →
      p.dest = s.ownMember →
      (s.ctx p.ctx).st ≠ .gloved →
      leAt p.body 0 1 = 0x50 →
      s.reg (K.routeTable p.src) = q →
      (s.knotOwner (leAt p.body 4 2)).isSome = true →
      (s.knot (leAt p.body 4 2)).frozen = false →
      1 ≤ leAt p.body 8 4 →
      leAt p.body 8 4 ≤ 2147483647 →
      -2147483648 ≤ (s.knot (leAt p.body 4 2)).count + leAt p.body 8 4 →
      (s.knot (leAt p.body 4 2)).count + leAt p.body 8 4 ≤ 2147483647 →
      s.hasWaiter (leAt p.body 4 2) = false →
      ∃ t, exec (.knotOp q p) s = .next t ∧ (t.tport q).rxSeq = ((s.tport q).rxSeq + 1) % 65536 ∧ (t.tport q).txSeq =
        ((s.tport q).txSeq + 1) % 65536 ∧
        t.knot (leAt p.body 4 2) = { s.knot (leAt p.body 4 2) with
          count := (s.knot (leAt p.body 4 2)).count + leAt p.body 8 4 } ∧
        (∀ k, k ≠ leAt p.body 4 2 → t.knot k = s.knot k) ∧ Changes [.knots, .host, .perf, .out] (.only [0x0D08, 0x1205,
          K.waitersInUse, K.waitersPeak, K.knotOps, K.knotSaturations, K.frozenRefusals, K.tetherErrorCompletions,
          K.commandsCompleted, K.recordsUnrouted]) s t) ∧
  (∀ (s : State) (q : Nat) (p : TPacket),
      q < 4 →
      (s.tport q).st = .up →
      p.crcOk 0x08 = true →
      p.typeOk = true →
      p.reservedOk = true →
      p.seq = (s.tport q).rxSeq →
      p.dest = s.ownMember →
      ∃ t, exec (.tetherHeartbeat q p) s = .next t ∧ (t.tport q).rxSeq = ((s.tport q).rxSeq + 1) % 65536 ∧ (t.tport
        q).txSeq = (s.tport q).txSeq ∧
        (t.tport q).lastTx = s.tick ∧ Changes [.knots, .perf, .out] (.only [0x0D08]) s t) ∧
  (∀ (s : State) (q : Nat) (p : TPacket) (n : Nat),
      q < 4 →
      (s.tport q).st = .up →
      p.crcOk 0x08 = true →
      p.typeOk = true →
      p.reservedOk = true →
      p.seq = (s.tport q).rxSeq →
      p.dest ≠ s.ownMember →
      s.reg (K.routeTable p.dest) = n →
      n < 4 →
      n ≠ q →
      (s.tport n).st = .up →
      ∃ t, exec (.tetherHeartbeat q p) s = .next t ∧ (t.tport q).rxSeq = ((s.tport q).rxSeq + 1) % 65536 ∧
        (t.tport n).txSeq = ((s.tport n).txSeq + 1) % 65536 ∧ Changes [.knots, .perf, .out] (.only [0x0D08]) s t) ∧
  (∀ (s : State) (q : Nat) (p : TPacket),
      q < 4 →
      (s.tport q).st = .up →
      p.crcOk 0x0A = true →
      p.typeOk = true →
      p.reservedOk = true →
      ∃ t, exec (.ack q p) s = .next t ∧ (t.tport q).rxSeq = (s.tport q).rxSeq ∧
        (t.tport q).window = (s.tport q).window.filter (fun x => decide (32768 ≤ (p.ackSeq + 65536 - x.seq) % 65536)) ∧
        Changes [.knots, .perf, .out] (.only [0x0D08]) s t) ∧
  (∀ (s : State) (q : Nat) (p : TPacket),
      q < 4 →
      (s.tport q).st = .up →
      ∃ t, exec (.tetherPacketDiscarded q p) s = .next t ∧ t.knots = s.knots ∧
        t.reg (K.tetherCrcErrors q) = (s.reg (K.tetherCrcErrors q) + 1) % 2 ^ 32 ∧ Changes [.knots, .perf, .out] (.only
          [0x0D08]) s t)

/-- Tether ports, groups and their loss (R347, R349, R352, R353, R355, R356, R359). -/
def Obligations.TetherGroupsAndPortsRun : Prop :=
  (∀ (s : State) (q : Nat),
      q < 4 →
      (s.tport q).st = .training →
      s.reg (K.tetherTest q) = 0 →
      s.flag (K.tetherPortEnable q) = true →
      s.knots.group.st = .none →
      ∃ t, exec (.tetherPortTrained q) s = .next t ∧ t.tport q = { st := .up, lastTx := s.tick } ∧
        (∀ n, n ≠ q → t.tport n = s.tport n) ∧ Changes [.knots, .perf, .out] (.only []) s t) ∧
  (∀ (s : State) (q : Nat),
      q < 4 →
      (s.tport q).st = .training →
      s.reg (K.tetherTest q) ≠ 0 →
      s.knots.group.st = .none →
      ∃ t, exec (.tetherPortTrained q) s = .next t ∧ (t.tport q).st = .test ∧
        (∀ n, n ≠ q → t.tport n = s.tport n) ∧ Changes [.knots, .perf, .out] (.only []) s t) ∧
  (∀ (s : State) (q : Nat) (x : TSent),
      q < 4 →
      (s.tport q).st = .up →
      (s.tport q).window = [x] →
      x.sent + 500 ≤ s.tick →
      x.sends < 3 →
      ∃ t, exec (.tetherRetransmit q) s = .next t ∧
        (t.tport q).window = [{ x with sends := x.sends + 1, sent := s.tick }] ∧ (t.tport q).st = .up ∧
        t.reg (K.tetherRetransmissions q) = (s.reg (K.tetherRetransmissions q) + 1) % 2 ^ 32 ∧ Changes [.knots, .perf,
          .out] (.only [0x0D09]) s t) ∧
  (∀ (s : State) (q : Nat) (x : TSent),
      q < 4 →
      (s.tport q).st = .up →
      (s.tport q).window = [x] →
      x.sent + 500 ≤ s.tick →
      3 ≤ x.sends →
      ∃ t, exec (.tetherRetransmit q) s = .next t ∧ t.tport q = { s.tport q with st := .failed, window := [] } ∧
        Changes [.knots, .perf, .out] (.only [0x0D09]) s t) ∧
  (∀ (s : State) (q : Nat),
      q < 4 →
      (s.tport q).st = .up →
      (s.tport q).lastTx + 2500 ≤ s.tick →
      ∃ t, exec (.tetherHeartbeatSend q) s = .next t ∧ (t.tport q).lastTx = s.tick ∧ (t.tport q).st = .up ∧
        (t.tport q).rxSeq = (s.tport q).rxSeq ∧ Changes [.knots, .perf, .out] (.only []) s t) ∧
  (∀ (s : State) (q n : Nat),
      q < 4 →
      (s.tport q).st = .test →
      ∃ t, exec (.tetherTestPattern q n) s = .next t ∧ t.knots = s.knots ∧
        t.reg (K.tetherTestErrors q) = (s.reg (K.tetherTestErrors q) + n) % 2 ^ 32 ∧ Changes [] (.only [0x0D07]) s t) ∧
  (∀ (s : State) (q c sent : Nat) (p : TPacket) (h : HelloPath) (pl : Plan),
      q < 4 →
      (s.tport q).st = .up →
      p.crcOk 0x09 = true →
      p.typeOk = true →
      p.reservedOk = true →
      p.seq = (s.tport q).rxSeq →
      p.dest = s.ownMember →
      s.groupPlan = some (c, pl) →
      s.others = [p.src] →
      s.knots.group.st = .forming →
      s.knots.group.bcSent = true →
      SMap.find? s.knots.group.helloSent p.src = some (sent + 1) →
      s.helloCheck pl p.src (((s.tick - sent) * 4 - h.turnaround) / 2) h.hops (parseHello p.body) = none →
      ∃ t, exec (.hello q p h) s = .next t ∧ (t.tport q).rxSeq = ((s.tport q).rxSeq + 1) % 65536 ∧ t.knots.group.st =
        .formed ∧ t.knots.group.agreed.contains p.src = true ∧
        t.reg (K.tetherDelay p.src) = min (2 ^ 32 - 1) (((s.tick - sent) * 4 - h.turnaround) / 2) ∧
        t.reg K.groupState = GroupSt.formed.code ∧ Changes [.knots, .perf, .out] (.only [0x0D05, 0x0D08, K.groupState,
          K.groupFailCause, K.membersSeen]) s t) ∧
  (∀ (s : State) (q c sent : Nat) (p : TPacket) (h : HelloPath) (pl : Plan),
      q < 4 →
      (s.tport q).st = .up →
      p.crcOk 0x09 = true →
      p.typeOk = true →
      p.reservedOk = true →
      p.seq = (s.tport q).rxSeq →
      p.dest = s.ownMember →
      s.groupPlan = some (c, pl) →
      s.knots.group.st = .forming →
      SMap.find? s.knots.group.helloSent p.src = some (sent + 1) →
      (parseHello p.body).modules ≠ pl.modules →
      ∃ t, exec (.hello q p h) s = .next t ∧ (t.tport q).rxSeq = ((s.tport q).rxSeq + 1) % 65536 ∧ t.knots.group.st =
        .failed ∧ t.knots.group.cause = 2 ∧
        t.reg K.groupFailCause = 2 ∧ Changes [.knots, .perf, .out] (.only [0x0D05, 0x0D08, K.groupState,
          K.groupFailCause, K.membersSeen]) s t) ∧
  (∀ (s : State) (m sent : Nat),
      m < 8 →
      s.knots.group.st = .forming →
      SMap.find? s.knots.group.helloSent m = some (sent + 1) →
      sent + 25000000 ≤ s.tick →
      s.knots.group.agreed.contains m = false →
      ∃ t, exec (.helloTimeout m) s = .next t ∧ t.knots.group.st = .failed ∧ t.knots.group.cause = 1 ∧
        t.reg K.groupState = GroupSt.failed.code ∧ Changes [.knots] (.only [K.groupState, K.groupFailCause,
          K.membersSeen]) s t) ∧
  (∀ (s : State) (c : Nat) (pl : Plan),
      s.groupPlan = some (c, pl) →
      s.knots.group.st = .failed →
      s.knots.group.since + 250000000 ≤ s.tick →
      ∃ t, exec .groupFormationRetry s = .next t ∧ t.knots.group.st = .forming ∧ t.knots.group.since = s.tick ∧
        t.knots.group.agreed = [] ∧ t.reg K.membersSeen = 0 ∧ Changes [.knots, .perf, .out] (.only [K.groupState,
          K.groupFailCause, K.membersSeen]) s t) ∧
  (∀ (s : State),
      s.knots.group.st = .formed →
      s.knots.group.lastMeasure + 25000000 ≤ s.tick →
      ∃ t, exec .tetherDelayRemeasure s = .next t ∧ t.knots.group.st = .formed ∧ t.knots.group.lastMeasure = s.tick ∧
        (∀ d, d ∈ s.others → SMap.get 0 t.knots.group.helloSent d = s.tick + 1) ∧ Changes [.knots, .perf, .out] (.only
          []) s t) ∧
  (∀ (s : State) (bc : Nat),
      s.knots.group.st = .forming →
      s.ownMember ≠ 0 →
      s.belt.st = .stopped →
      s.others.all (fun d => s.knots.group.agreed.contains d) = true →
      ∃ t, exec (.member0Bc bc) s = .next t ∧ t.belt = { s.belt with reorigin := some (bc % 2 ^ 48) } ∧
        t.knots.group.bcSent = true ∧ t.knots.group.st = .formed ∧ Changes [.belt, .knots, .out] (.only [K.groupState,
          K.groupFailCause]) s t) ∧
  (∀ (s : State) (m c last : Nat) (pl : Plan),
      m < 8 →
      s.groupPlan = some (c, pl) →
      s.knots.group.st = .formed →
      s.others.contains m = true →
      s.knots.group.lost = [] →
      SMap.find? s.knots.group.lastHeard m = some last →
      last + 25000 ≤ s.tick →
      (s.ctx c).st = .running →
      s.faults.torn = [] →
      s.faults.recovery = none →
      ∃ t, exec (.memberLost m) s = .next t ∧ t.knots.group.st = .degraded ∧ t.knots.group.cause = 6 ∧
        t.knots.group.lost = [m] ∧ t.reg (K.memberLosses m) = (s.reg (K.memberLosses m) + 1) % 2 ^ 32 ∧
        (t.ctx c).st = .gloved ∧ Changes [.freeN, .blobs, .ctl, .belt, .pipe, .engine, .tracks, .eject, .memory,
          .knots, .host, .faults, .perf, .out] (.only [0x0804, 0x0D0A, 0x1205, 0x1402, 0x1703, K.decisionsIssued,
          K.fallbackDecisions, K.waitersInUse, K.waitersPeak, K.ownerResetReleases, K.knotOpsRefused,
          K.knotDumpContext, K.groupState, K.groupFailCause, K.membersSeen, K.pulsesPending, K.pulsesPeak,
          K.pulsesScheduled, K.pulsesMerged, K.storeFullRefused, K.lateDecisions, K.missedDecisions,
          K.disabledChannelRequests, K.commandsCompleted, K.recordsUnrouted, K.faultLogOverwritten,
          K.faultRecordsSuppressed, K.fallbackGapOpen, K.gapRecords]) s t) ∧
  (∀ (s : State) (q c : Nat) (p : TPacket) (pl : Plan),
      q < 4 →
      s.groupPlan = some (c, pl) →
      (s.ctx c).st = .running →
      s.faults.torn = [] →
      s.faults.recovery = none →
      ∃ t, exec (.groupStop q p) s = .next t ∧ (t.ctx c).st = .gloved ∧ t.knots.group.st = s.knots.group.st ∧
        Changes [.freeN, .blobs, .ctl, .belt, .pipe, .engine, .tracks, .eject, .memory, .knots, .host, .faults, .perf,
          .out] (.only [0x0804, 0x1205, 0x1402, 0x1703, K.decisionsIssued, K.fallbackDecisions, K.waitersInUse,
          K.waitersPeak, K.ownerResetReleases, K.knotDumpContext, K.pulsesPending, K.pulsesPeak, K.pulsesScheduled,
          K.pulsesMerged, K.storeFullRefused, K.lateDecisions, K.missedDecisions, K.disabledChannelRequests,
          K.commandsCompleted, K.recordsUnrouted, K.faultLogOverwritten, K.faultRecordsSuppressed, K.fallbackGapOpen,
          K.gapRecords]) s t)

/-- Host ports and their tunnels (R364, R367, R386, R387). -/
def Obligations.HostPortsFollowTheirTunnel : Prop :=
  (∀ (s : State) (w r : Nat),
      w < 2 →
      s.usbOn = true →
      (s.port w).st = .noLink →
      ∃ t, exec (.usb4LinkChange w true r) s = .next t ∧ t.port w = { s.port w with st := .noTunnel } ∧
        t.reg (K.hostLinkRate w) = (if r = 1 then 1 else 2) ∧ Changes [.host] (.only [0x1202]) s t) ∧
  (∀ (s : State) (w r : Nat),
      w < 2 →
      s.usbOn = true →
      (s.port w).st = .noTunnel →
      ∃ t, exec (.usb4LinkChange w false r) s = .next t ∧ t.port w = { s.port w with st := .noLink } ∧
        t.reg (K.hostLinkRate w) = 0 ∧ Changes [.host] (.only [0x1202]) s t) ∧
  (∀ (s : State) (w : Nat),
      w < 2 →
      s.usbOn = true →
      (s.port w).st = .noTunnel →
      s.reg (K.hostLinkRate w) ≠ 0 →
      s.host.rings = [] →
      s.host.queues = [] →
      ∃ t, exec (.tunnelUp w) s = .next t ∧ t.port w = { s.port w with st := .up } ∧ Changes [.pipe, .engine, .knots,
        .host, .perf, .out] (.only [0x1205, K.waitersInUse, K.waitersPeak, K.commandsCompleted, K.recordsUnrouted]) s t) ∧
  (∀ (s : State) (w r : Nat) (x : Ring),
      w < 2 →
      s.usbOn = true →
      (s.port w).st = .lost →
      s.reg (K.hostLinkRate w) ≠ 0 →
      s.tick - (s.port w).lostAt < s.reg K.tunnelHoldTime * 250000 →
      s.host.rings = [(r, x)] →
      x.port = some w →
      x.st = .held →
      x.cmds = [] →
      x.disabling = false →
      s.host.queues = [] →
      ∃ t, exec (.tunnelUp w) s = .next t ∧ (t.port w).st = .up ∧ t.ring r = { x with st := .running } ∧ Changes
        [.pipe, .engine, .knots, .host, .perf, .out] (.only [0x1205, K.waitersInUse, K.waitersPeak,
        K.commandsCompleted, K.recordsUnrouted]) s t) ∧
  (∀ (s : State) (w r q : Nat) (x : Ring) (e : EvQueue),
      w < 2 →
      (s.port w).st = .up →
      s.host.rings = [(r, x)] →
      x.port = some w →
      x.st = .running →
      s.host.queues = [(q, e)] →
      e.port = some w →
      e.st = .enabled →
      ∃ t, exec (.tunnelLost w) s = .next t ∧ (t.port w).st = .lost ∧ (t.port w).lostAt = s.tick ∧
        (t.port w).mbxResp = [] ∧ (t.port w).mbxReady = false ∧
        t.ring r = { x with st := .held } ∧ t.queue q = { e with st := .held } ∧
        t.reg (K.tunnelLosses w) = (s.reg (K.tunnelLosses w) + 1) % 2 ^ 32 ∧ Changes [.ctl, .host] (.only [0x1202]) s t) ∧
  (∀ (s : State) (w r q : Nat) (x : Ring) (e : EvQueue),
      w < 2 →
      (s.port w).st = .lost →
      s.reg K.tunnelHoldTime * 250000 ≤ s.tick - (s.port w).lostAt →
      s.host.rings = [(r, x)] →
      x.port = some w →
      x.st = .held →
      x.disabling = false →
      s.host.queues = [(q, e)] →
      e.port = some w →
      e.st = .held →
      ∃ t, exec (.tunnelHoldExpiry w) s = .next t ∧ (t.port w).st = .detached ∧ (t.port w).imgConfig = 0 ∧
        (t.port w).imgUsed = [] ∧ t.ring r = { x with st := .stopped, cmds := [] } ∧
        t.queue q = { e with st := .disabled, held := [] } ∧
        t.reg (K.evqRecordsDropped q) = (s.reg (K.evqRecordsDropped q) + e.held.length) % 2 ^ 32 ∧ Changes [.pipe,
          .engine, .knots, .host, .perf, .out] (.only [0x1205, K.waitersInUse, K.waitersPeak, K.commandsCompleted,
          K.recordsUnrouted]) s t) ∧
  (∀ (s : State) (w r : Nat) (x : Ring),
      w < 2 →
      s.usbOn = true →
      (s.port w).st = .up →
      s.host.rings = [(r, x)] →
      x.port = some w →
      x.st = .running →
      x.disabling = false →
      s.host.queues = [] →
      ∃ t, exec (.functionLevelReset w) s = .next t ∧ (t.port w).st = .detached ∧ (t.port w).mbxReady = false ∧
        t.ring r = { x with st := .stopped, cmds := [] } ∧ Changes [.ctl, .pipe, .engine, .knots, .host, .perf, .out]
          (.only [0x1205, K.waitersInUse, K.waitersPeak, K.commandsCompleted, K.recordsUnrouted]) s t) ∧
  (∀ (s : State) (w v r : Nat) (x : Ring),
      w < 2 →
      (s.port w).st = .up →
      s.usbOn = true →
      v % 2 ≠ w →
      (s.port (v % 2)).st = .detached →
      s.host.rings = [(r, x)] →
      x.port = some (v % 2) →
      ∃ t, exec (.hwinPortAdopt w v) s = .next t ∧ t.ring r = { x with port := some w } ∧ t.port w = s.port w ∧
        Changes [.host, .out] (.only []) s t) ∧
  (∀ (s : State) (w v : Nat),
      w < 2 →
      (s.port w).st = .up →
      s.usbOn = true →
      v % 2 = w ∨ (s.port (v % 2)).st ≠ .detached →
      ∃ t, exec (.hwinPortAdopt w v) s = .next t ∧ t.host.rings = s.host.rings ∧ t.host.queues = s.host.queues ∧
        (t.port w).errStatus = Status.contextState ∧ (t.port w).errCount = min 65535 ((s.port w).errCount + 1) ∧
        Changes [.host, .out] (.only []) s t) ∧
  (∀ (s : State) (w v : Nat),
      w < 2 →
      (s.port w).st ≠ .up →
      exec (.ringEnable w) s = .next s ∧ exec (.ringDisable w) s = .next s ∧ exec (.hwinRingDoorbell w v) s = .next s ∧
        exec (.evqEnable w) s = .next s ∧ exec (.hwinErrorClear w v) s = .next s ∧ exec (.hwinPortAdopt w v) s = .next s)

/-- Rings, queues, pool and mailbox of a port (R370, R372, R373, R378, R379, R381, R385). -/
def Obligations.RingsAndQueuesAreServed : Prop :=
  (∀ (s : State) (w v : Nat),
      w < 2 →
      (s.port w).st = .up →
      s.usbOn = true →
      (s.ring (s.port w).ringSel).st = .disabled →
      (s.ring (s.port w).ringSel).port = none →
      bits v 5 0 = 0 →
      ∃ t, exec (.hwinRegisterWrite w 0x0108 v) s = .next t ∧
        t.ring (s.port w).ringSel = { s.ring (s.port w).ringSel with base := v % 2 ^ 64 } ∧ Changes [.host, .out]
          (.only []) s t) ∧
  (∀ (s : State) (w v : Nat),
      w < 2 →
      (s.port w).st = .up →
      s.usbOn = true →
      (s.ring (s.port w).ringSel).st = .running →
      ∃ t, exec (.hwinRegisterWrite w 0x0108 v) s = .next t ∧ t.host.rings = s.host.rings ∧
        t.port w = { s.port w with
          errStatus := Status.contextState
          errUnit := (s.port w).ringSel
          errOffset := 0x0108
          errCount := min 65535 ((s.port w).errCount + 1) } ∧ Changes [.host, .out] (.only []) s t) ∧
  (∀ (s : State) (w v : Nat),
      w < 2 →
      (s.port w).st = .up →
      s.usbOn = true →
      ∃ t, exec (.hwinErrorClear w v) s = .next t ∧
        t.port w = { s.port w with errStatus := 0, errUnit := 0, errOffset := 0, errCount := 0 } ∧ Changes [.host]
          (.only []) s t) ∧
  (∀ (s : State) (w n : Nat),
      w < 2 →
      (s.port w).st = .up →
      s.usbOn = true →
      (s.port w).ringSel = n →
      (s.ring n).st = .stopped →
      (s.ring n).port = some w →
      (s.ring n).base ≠ 0 →
      ∃ t, exec (.ringEnable w) s = .next t ∧
        t.ring n = { s.ring n with
          st := .running, port := some w, fetched := 0, completed := 0, tail := 0, cmds := [], disabling := false } ∧
        Changes [.host, .out] (.only []) s t) ∧
  (∀ (s : State) (w n : Nat),
      w < 2 →
      (s.port w).st = .up →
      s.usbOn = true →
      (s.port w).ringSel = n →
      (s.ring n).st = .disabled →
      (s.ring n).port = none →
      (s.ring n).base = 0 →
      ∃ t, exec (.ringEnable w) s = .next t ∧ t.ring n = s.ring n ∧ (t.port w).errStatus = Status.valueRange ∧
        (t.port w).errOffset = 0x0118 ∧ Changes [.host, .out] (.only []) s t) ∧
  (∀ (s : State) (w n : Nat),
      w < 2 →
      (s.port w).st = .up →
      s.usbOn = true →
      (s.port w).ringSel = n →
      (s.ring n).port = some w →
      (s.ring n).cmds = [] →
      ∃ t, exec (.ringDisable w) s = .next t ∧ t.ring n = { s.ring n with st := .disabled, port := none, disabling :=
        false } ∧
        Changes [.host, .out] (.only []) s t) ∧
  (∀ (s : State) (w v n tail : Nat),
      w < 2 →
      (s.port w).st = .up →
      s.usbOn = true →
      s.power.st = .run →
      s.power.trans = none →
      n = bits v 13 0 →
      tail = bits v 63 32 →
      (s.ring n).st = .running →
      (s.ring n).port = some w →
      (tail + 2 ^ 32 - (s.ring n).tail) % 2 ^ 32 ≠ 0 →
      (tail + 2 ^ 32 - (s.ring n).tail) % 2 ^ 32 ≤ 2 ^ (s.ring n).log2 →
      (tail + 2 ^ 32 - (s.ring n).completed) % 2 ^ 32 ≤ 2 ^ (s.ring n).log2 →
      ∃ t, exec (.hwinRingDoorbell w v) s = .next t ∧ t.ring n = { s.ring n with tail := tail } ∧
        t.reg K.doorbellsRefused = s.reg K.doorbellsRefused ∧ Changes [.freeN, .ctl, .host, .power, .out] (.only
          [K.lastWakeCause, K.doorbellsRefused]) s t) ∧
  (∀ (s : State) (w v n tail : Nat),
      w < 2 →
      (s.port w).st = .up →
      s.usbOn = true →
      s.power.st = .run →
      s.power.trans = none →
      n = bits v 13 0 →
      tail = bits v 63 32 →
      (s.ring n).st = .running →
      (s.ring n).port = some w →
      tail = (s.ring n).tail →
      (s.ring n).tail < 2 ^ 32 →
      ∃ t, exec (.hwinRingDoorbell w v) s = .next t ∧ t.ring n = s.ring n ∧ (t.port w).errStatus = Status.ringFull ∧
        t.reg K.doorbellsRefused = (s.reg K.doorbellsRefused + 1) % 2 ^ 32 ∧ Changes [.freeN, .ctl, .host, .power,
          .out] (.only [K.lastWakeCause, K.doorbellsRefused]) s t) ∧
  (∀ (s : State) (w n : Nat),
      w < 2 →
      (s.port w).st = .up →
      s.usbOn = true →
      (s.port w).evqSel = n →
      (s.queue n).st = .disabled →
      (s.queue n).port = none →
      s.host.bootRec = none →
      ∃ t, exec (.evqEnable w) s = .next t ∧
        t.queue n = { base := (s.queue n).base, config := (s.queue n).config, st := .enabled, port := some w } ∧
        Changes [.host, .perf, .out] (.only [0x1205, K.recordsUnrouted]) s t) ∧
  (∀ (s : State) (w n : Nat),
      w < 2 →
      (s.port w).st = .up →
      s.usbOn = true →
      (s.port w).evqSel = n →
      (s.queue n).port = some w →
      n < 64 →
      ∃ t, exec (.evqDisable w) s = .next t ∧ t.queue n = { s.queue n with st := .disabled, port := none, held := [] } ∧
        t.reg (K.evqRecordsDropped n) = (s.reg (K.evqRecordsDropped n) + (s.queue n).held.length) % 2 ^ 32 ∧
        Changes [.host, .out] (.only [0x1205]) s t) ∧
  (∀ (s : State) (w v n : Nat),
      w < 2 →
      (s.port w).st = .up →
      s.usbOn = true →
      n = bits v 5 0 →
      (s.queue n).port = some w →
      (s.queue n).held = [] →
      (s.queue n).dropped = 0 →
      (s.queue n).unsig = 0 →
      ((s.queue n).written + 2 ^ 32 - bits v 63 32) % 2 ^ 32 ≤ ((s.queue n).written + 2 ^ 32 - (s.queue n).head) % 2 ^
        32 →
      ∃ t, exec (.hwinEvqHead w v) s = .next t ∧ t.queue n = { s.queue n with head := bits v 63 32, armed := true } ∧
        Changes [.host, .perf, .out] (.only [0x1205, K.recordsUnrouted]) s t) ∧
  (∀ (s : State) (w v n : Nat),
      w < 2 →
      (s.port w).st = .up →
      s.usbOn = true →
      n = bits v 5 0 →
      (s.queue n).port = some w →
      ((s.queue n).written + 2 ^ 32 - (s.queue n).head) % 2 ^ 32 < ((s.queue n).written + 2 ^ 32 - bits v 63 32) % 2 ^
        32 →
      ∃ t, exec (.hwinEvqHead w v) s = .next t ∧ t.queue n = s.queue n ∧ (t.port w).errStatus = Status.valueRange ∧
        Changes [.host, .perf, .out] (.only [0x1205, K.recordsUnrouted]) s t) ∧
  (∀ (s : State) (n w : Nat),
      n < 64 →
      (s.queue n).st = .enabled →
      (s.queue n).port = some w →
      bitOf (s.queue n).config 8 = true →
      (s.queue n).armed = true →
      0 < (s.queue n).unsig →
      bits (s.queue n).config 63 32 * 1000 ≤ (s.tick - (s.queue n).oldest) * 4 →
      ∃ t, exec (.evqTimeThreshold n) s = .next t ∧ t.queue n = { s.queue n with armed := false, unsig := 0 } ∧
        t.out = s.out ++ [.msix w n] ∧ Changes [.host, .out] (.only []) s t) ∧
  (∀ (s : State) (w v : Nat),
      w < 2 →
      (s.port w).st = .up →
      s.usbOn = true →
      ∃ t, exec (.hwinImgRelease w v) s = .next t ∧
        t.port w = { s.port w with imgUsed := (s.port w).imgUsed.filter (fun x => x != bits v 11 0) } ∧
        Changes [.host] (.only []) s t) ∧
  (∀ (s : State) (w v : Nat),
      w < 2 →
      (s.port w).st = .up →
      s.usbOn = true →
      bits v 12 0 < 16 →
      (s.port w).mbxBusy = false →
      ∃ t, exec (.hwinMbxDoorbell w v) s = .next t ∧ (t.port w).errStatus = Status.lengthMismatch ∧
        (t.port w).mbxResp = (s.port w).mbxResp ∧ t.regs = s.regs ∧ t.ctl = s.ctl) ∧
  (∀ (s : State) (w v : Nat),
      w < 2 →
      (s.port w).st = .up →
      s.usbOn = true →
      s.power.trans = none →
      s.power.st ≠ .doze →
      16 ≤ bits v 12 0 →
      bits v 12 0 ≤ 4096 →
      (s.port w).mbxBusy = false →
      bitOf v 16 = false →
      beAt (SMap.getList 0 (s.port w).mbxReq 0 (bits v 12 0)) 0 2 = 0x4244 →
      (bdpItems (SMap.getList 0 (s.port w).mbxReq 0 (bits v 12 0)) 128).isSome = true →
      bdpOp (SMap.getList 0 (s.port w).mbxReq 0 (bits v 12 0)) = 1 →
      ∃ t, exec (.hwinMbxDoorbell w v) s = .next t ∧ (t.port w).mbxReady = true ∧ (t.port w).errStatus = (s.port
        w).errStatus ∧
        (t.port w).mbxResp = bdpStatus (SMap.getList 0 (s.port w).mbxReq 0 (bits v 12 0)) Status.ok ∧
        t.regs = s.regs ∧ t.ctl = s.ctl) ∧
  (∀ (s : State) (e : List Byte) (n : Nat) (c : RingCmd),
      s.fetchTurn = some n →
      s.host.fetching = true →
      s.supplies.inReset = false →
      c = { index := (s.ring n).fetched, id := leAt e 0 4, notify := bitOf (leAt e 4 1) 0, badReserved := decide (1 <
        leAt e 4 1) || leAt e 5 3 != 0, body := bytesAt e 8 40 } →
      s.fetchStatus (s.ring n).ctx c = none →
      ∃ t, exec (.ringFetch e) s = .next t ∧
        t.ring n = { s.ring n with fetched := ((s.ring n).fetched + 1) % 2 ^ 32, cmds := (s.ring n).cmds ++ [c] } ∧
        t.host.nextRing = n + 1 ∧ Changes [.host, .perf, .out] (.only [0x1205, K.commandsCompleted, K.recordsUnrouted])
          s t) ∧
  (∀ (s : State) (e : List Byte) (n : Nat) (c : RingCmd),
      s.fetchTurn = some n →
      s.host.fetching = true →
      s.supplies.inReset = false →
      (s.ring n).cmds = [] →
      c = { index := (s.ring n).fetched, id := leAt e 0 4, notify := bitOf (leAt e 4 1) 0, badReserved := decide (1 <
        leAt e 4 1) || leAt e 5 3 != 0, body := bytesAt e 8 40 } →
      (s.ctx (s.ring n).ctx).st ≠ .gloved →
      opKnown c.opcode = false →
      (s.ring n).st = .running →
      ∃ t, exec (.ringFetch e) s = .next t ∧ (t.ring n).cmds = [] ∧
        (t.ring n).fetched = ((s.ring n).fetched + 1) % 2 ^ 32 ∧ (t.ring n).completed = ((s.ring n).completed + 1) % 2
          ^ 32 ∧
        (t.ring n).lastStatus = Status.descriptorInvalid ∧ Changes [.host, .perf, .out] (.only [0x1205,
          K.commandsCompleted, K.recordsUnrouted]) s t)

/-- The commands of the rings other than knot commands (R119, R121, R373, R375 to R377). -/
def Obligations.RingCommandsRun : Prop :=
  (∀ (s : State) (r : Nat) (c : RingCmd),
      r < 16384 →
      (s.ring r).st = .running →
      (s.ring r).cmds = [c] →
      c.st = .fetched →
      c.opcode = 0x00 →
      ∃ t, exec (.ringNop r) s = .next t ∧ (t.ring r).cmds = [] ∧ (t.ring r).completed = ((s.ring r).completed + 1) % 2
        ^ 32 ∧
        (t.ring r).lastStatus = Status.ok ∧
        t.reg K.commandsCompleted = (s.reg K.commandsCompleted + 1) % 2 ^ 64 ∧ Changes [.host, .perf, .out] (.only
          [0x1205, K.commandsCompleted, K.recordsUnrouted]) s t) ∧
  (∀ (s : State) (r : Nat) (d : List Byte) (c : RingCmd) (x : CopySite),
      r < 16384 →
      (s.ring r).st = .running →
      (s.ring r).cmds = [c] →
      c.st = .fetched →
      c.opcode = 0x20 →
      s.copySite (s.ring r).ctx c.body = some x →
      x.scratch = true →
      (s.ring r).ctx ≠ 0 →
      (s.ctx (s.ring r).ctx).st ≠ .running →
      ∃ t m, exec (.copyToDevice r d) s = .next t ∧ m % 2 = 0 ∧ m ≤ leAt c.body 4 4 ∧
        (t.ring r).cmds = [{ c with st := .started, data := fitBytes (leAt c.body 4 4) d, moved := m }] ∧
        (t.ring r).completed = (s.ring r).completed ∧ Changes [.freeN, .engine, .memory, .host, .perf, .out] (.only
          [0x1205, K.commandsCompleted, K.recordsUnrouted]) s t) ∧
  (∀ (s : State) (r : Nat) (d : List Byte) (c : RingCmd) (x : CopySite),
      r < 16384 →
      (s.ring r).st = .running →
      (s.ring r).cmds = [c] →
      c.st = .fetched →
      c.opcode = 0x20 →
      s.copySite (s.ring r).ctx c.body = some x →
      (s.ctx (s.ring r).ctx).st = .running →
      ∃ t, exec (.copyToDevice r d) s = .next t ∧ (t.ring r).cmds = [] ∧ (t.ring r).completed = ((s.ring r).completed +
        1) % 2 ^ 32 ∧
        (t.ring r).lastStatus = Status.contextState ∧
        t.memory = s.memory ∧ t.engine = s.engine ∧ Changes [.freeN, .engine, .memory, .host, .perf, .out] (.only
          [0x1205, K.commandsCompleted, K.recordsUnrouted]) s t) ∧
  (∀ (s : State) (r : Nat) (c : RingCmd) (x : CopySite),
      r < 16384 →
      (s.ring r).st = .running →
      (s.ring r).cmds = [c] →
      c.st = .fetched →
      c.opcode = 0x21 →
      s.copySite (s.ring r).ctx c.body = some x →
      x.scratch = true →
      ∃ t m, exec (.copyFromDevice r) s = .next t ∧ m % 2 = 0 ∧ m ≤ leAt c.body 4 4 ∧
        (t.ring r).cmds = [{ c with st := .started, data := [], moved := m }] ∧ t.memory = s.memory ∧
        Changes [.freeN, .host, .perf, .out] (.only [0x1205, K.commandsCompleted, K.recordsUnrouted]) s t) ∧
  (∀ (s : State) (r : Nat) (c : RingCmd) (x : CopySite),
      r < 16384 →
      (s.ring r).st = .running →
      (s.ring r).cmds = [c] →
      c.st = .started →
      c.opcode = 0x20 →
      s.copySite (s.ring r).ctx c.body = some x →
      x.scratch = true →
      c.moved = 0 →
      c.data.length = leAt c.body 4 4 →
      ∃ t, exec (.ringCommandComplete r) s = .next t ∧ (t.ring r).cmds = [] ∧ (t.ring r).completed = ((s.ring
        r).completed + 1) % 2 ^ 32 ∧
        (t.ring r).lastStatus = Status.ok ∧
        (∀ o, o < 2 ^ 33 → t.memByte x.die o = if x.off ≤ o ∧ o < x.off + c.data.length ∧ s.slotAt o = none
          then c.data.getD (o - x.off) 0 else s.memByte x.die o) ∧ Changes [.freeN, .blobs, .engine, .memory, .host,
            .perf, .out] (.only [0x1205, K.commandsCompleted, K.recordsUnrouted]) s t) ∧
  (∀ (s : State) (r n len base : Nat) (d : List Byte) (c : RingCmd),
      r < 16384 →
      (s.ring r).st = .running →
      (s.ring r).cmds = [c] →
      c.st = .fetched →
      c.opcode = 0x30 →
      n = leAt c.body 1 1 →
      len = leAt c.body 8 8 →
      n < 32 →
      8576 ≤ len →
      s.slotState n ≠ 1 →
      s.slotState n ≠ 3 →
      s.engine.upload = none →
      len ≤ s.memFree →
      placeRange (s.takenRanges n) (ceilDiv len (4096 * s.mfg.part.memDies) * 4096) = some base →
      ∃ t m, exec (.planLoad r d) s = .next t ∧ m % 2 = 0 ∧ m ≤ len ∧
        (t.ring r).cmds = [{ c with st := .started, data := fitBytes len d, moved := m }] ∧
        t.engine.upload = some n ∧ (t.planSlot n).st = 1 ∧ (t.planSlot n).length = len ∧
        (t.planSlot n).data = (fitBytes len d).take m ∧ Changes [.freeN, .blobs, .engine, .host, .perf, .out] (.only
          [0x1205, K.commandsCompleted, K.recordsUnrouted]) s t) ∧
  (∀ (s : State) (r : Nat) (c : RingCmd) (p : Plan),
      r < 16384 →
      (s.ring r).st = .running →
      (s.ring r).cmds = [c] →
      c.st = .fetched →
      c.opcode = 0x31 →
      (s.ctx (s.ring r).ctx).plan = some p →
      p.cls ≠ 0 →
      (s.ctx (s.ring r).ctx).st = .idle →
      (s.ctx (s.ring r).ctx).jobs = [] →
      ∃ t, exec (.jobSubmit r) s = .next t ∧
        t.ctx (s.ring r).ctx = { s.ctx (s.ring r).ctx with
          jobs := [{ ring := r, index := c.index, tag := leAt c.body 4 4 }]
          nextStep := 0
          st := .ready } ∧
        (t.ring r).cmds = [{ c with st := .started }] ∧ Changes [.freeN, .ctl, .engine, .knots, .host, .power, .perf,
          .out] (.only [0x1205, K.waitersInUse, K.waitersPeak, K.knotOps, K.frozenRefusals, K.knotOpsRefused,
          K.commandsCompleted, K.recordsUnrouted]) s t) ∧
  (∀ (s : State) (r : Nat) (d : List Byte) (c : RingCmd),
      r < 16384 →
      (s.ring r).st = .running →
      (s.ring r).cmds = [c] →
      c.st = .fetched →
      c.opcode = 0x40 →
      leAt c.body 1 1 ≤ 3 →
      leAt c.body 2 1 % 4 ≠ 3 →
      leAt c.body 3 1 = 0xFF →
      1 ≤ leAt c.body 24 4 →
      leAt c.body 24 4 ≤ 16777216 →
      leAt c.body 32 8 ≠ 0 →
      (parseJpeg (fitBytes (leAt c.body 24 4) d)).cause (leAt c.body 4 2) (leAt c.body 6 2) = none →
      ∃ t, exec (.jpegDecode r d) s = .next t ∧ (t.ring r).cmds = [{ c with st := .started }] ∧
        SMap.get [] t.pipe.decode (leAt c.body 1 1) = SMap.get [] s.pipe.decode (leAt c.body 1 1) ++
          [{ ring := r
             index := c.index
             body := c.body
             data := fitBytes (leAt c.body 24 4) d
             deadline := leAt c.body 32 8
             width := (parseJpeg (fitBytes (leAt c.body 24 4) d)).width
             height := (parseJpeg (fitBytes (leAt c.body 24 4) d)).height }] ∧ Changes [.freeN, .pipe, .engine,
               .memory, .host, .perf, .out] (.only [0x1205, K.decodesRejected, K.decodesAbandoned, K.lastRejectCause,
               K.commandsCompleted, K.recordsUnrouted]) s t) ∧
  (∀ (s : State) (r : Nat) (d : List Byte) (c : RingCmd),
      r < 16384 →
      (s.ring r).st = .running →
      (s.ring r).cmds = [c] →
      c.st = .fetched →
      c.opcode = 0x40 →
      leAt c.body 2 1 % 4 = 3 →
      ∃ t, exec (.jpegDecode r d) s = .next t ∧ (t.ring r).cmds = [] ∧ (t.ring r).completed = ((s.ring r).completed +
        1) % 2 ^ 32 ∧
        (t.ring r).lastStatus = Status.descriptorInvalid ∧ t.pipe = s.pipe ∧
        Changes [.freeN, .pipe, .engine, .memory, .host, .perf, .out] (.only [0x1205, K.decodesRejected,
          K.decodesAbandoned, K.lastRejectCause, K.commandsCompleted, K.recordsUnrouted]) s t)

/-- The network ports (R389 to R391, R403). -/
def Obligations.NetworkPortsAnswer : Prop :=
  (∀ (s : State) (e r : Nat),
      e < 2 →
      s.usbOn = true →
      s.flag (K.portEnable e) = true →
      ∃ t, exec (.portLinkChange e true r) s = .next t ∧ t.reg (K.portLinkState e) = 1 ∧
        t.reg (K.portLinkRate e) = (if r = 1 then 1 else 2) ∧ Changes [] (.only [0x1303, 0x1306, 0x1311]) s t) ∧
  (∀ (s : State) (e r : Nat),
      e < 2 →
      s.reg (K.portLinkState e) = 1 →
      ∃ t, exec (.portLinkChange e false r) s = .next t ∧ t.reg (K.portLinkState e) = 0 ∧ t.reg (K.portLinkRate e) = 0 ∧
        t.reg (K.linkLosses e) = (s.reg (K.linkLosses e) + 1) % 2 ^ 32 ∧ Changes [] (.only [0x1303, 0x1306, 0x1311]) s
          t) ∧
  (∀ (s : State) (e ip mac a : Nat),
      e < 2 →
      s.ethOn e = true →
      a = s.reg (K.ipv4Address e) →
      a ≠ 0 →
      ∃ t, exec (.arpRequest e ip mac a) s = .next t ∧ t.out = s.out ++ [.arp e ip mac] ∧ t.reg (K.framesReceived e) =
        (s.reg (K.framesReceived e) + 1) % 2 ^ 64 ∧
        Changes [.perf, .out] (.only [0x1306]) s t) ∧
  (∀ (s : State) (e ip mac a : Nat),
      e < 2 →
      s.ethOn e = true →
      a ≠ s.reg (K.ipv4Address e) →
      ∃ t, exec (.arpRequest e ip mac a) s = .next t ∧ t.out = s.out ∧ t.reg (K.framesDropped e) = (s.reg
        (K.framesDropped e) + 1) % 2 ^ 32 ∧ Changes [.perf, .out] (.only [0x1306]) s t) ∧
  (∀ (s : State) (e a : Nat) (h : ArpHost),
      e < 2 →
      s.ethOn e = true →
      a = s.reg (K.ipv4Address e) →
      a ≠ 0 →
      ∃ t, exec (.arpReply e h a) s = .next t ∧
        (t.ethPort e).arp = ((h.ip, h.mac, s.tick) :: (s.ethPort e).arp.filter (fun x => x.1 != h.ip)).take 64 ∧
        t.reg (K.framesReceived e) = (s.reg (K.framesReceived e) + 1) % 2 ^ 64 ∧ Changes [.net, .perf] (.only [0x1306])
          s t) ∧
  (∀ (s : State) (e a : Nat) (h : ArpHost),
      e < 2 →
      s.ethOn e = true →
      a ≠ s.reg (K.ipv4Address e) →
      ∃ t, exec (.arpReply e h a) s = .next t ∧ t.net = s.net ∧ t.reg (K.framesDropped e) = (s.reg (K.framesDropped e)
        + 1) % 2 ^ 32 ∧ Changes [.net, .perf] (.only [0x1306]) s t) ∧
  (∀ (s : State) (e ip mac at0 : Nat),
      e < 2 →
      (s.ethPort e).arp = [(ip, mac, at0)] →
      at0 + 75000000000 ≤ s.tick →
      ∃ t, exec (.arpCacheExpiry e ip) s = .next t ∧ (t.ethPort e).arp = [] ∧ Changes [.net] (.only []) s t) ∧
  (∀ (s : State) (e src dst : Nat) (d : List Byte),
      e < 2 →
      s.ethOn e = true →
      dst = s.reg (K.ipv4Address e) →
      dst ≠ 0 →
      (s.ethPort e).icmpCount < 100 →
      s.tick < (s.ethPort e).icmpTick + 250000000 →
      (s.ethPort e).icmpCount ≠ 0 →
      ∃ t, exec (.icmpEchoRequest e src dst d) s = .next t ∧ t.out = s.out ++ [.icmp e src d] ∧
        t.ethPort e = { s.ethPort e with icmpCount := (s.ethPort e).icmpCount + 1 } ∧ t.reg (K.framesReceived e) =
          (s.reg (K.framesReceived e) + 1) % 2 ^ 64 ∧ Changes [.net, .perf, .out] (.only [0x1306]) s t) ∧
  (∀ (s : State) (e src dst : Nat) (d : List Byte),
      e < 2 →
      s.ethOn e = true →
      100 ≤ (s.ethPort e).icmpCount →
      s.tick < (s.ethPort e).icmpTick + 250000000 →
      ∃ t, exec (.icmpEchoRequest e src dst d) s = .next t ∧ t.out = s.out ∧ t.net = s.net ∧ t.reg (K.framesDropped e)
        = (s.reg (K.framesDropped e) + 1) % 2 ^ 32 ∧ Changes [.net, .perf, .out] (.only [0x1306]) s t) ∧
  (∀ (s : State) (e : Nat),
      e < 2 →
      s.ethOn e = true →
      ∃ t, exec (.ethernetFrameDropped e) s = .next t ∧ t.reg (K.framesDropped e) = (s.reg (K.framesDropped e) + 1) % 2
        ^ 32 ∧ Changes [] (.only [0x1306]) s t)

/-- PTP messages and what they measure (R395 to R398). -/
def Obligations.PtpExchangesAreMeasured : Prop :=
  (∀ (s : State) (d : Nat) (m : PtpMsg),
      m.eth < 2 →
      s.ethOn m.eth = true →
      s.ptpCarried m.eth m.transport = true →
      s.domainsFrom m = [d] →
      m.twoStep = true →
      (s.domain d).st ≠ .holdover →
      ∃ t, exec (.sync m) s = .next t ∧
        t.domain d = { s.domain d with
          lastSync := s.tick
          syncSeq := m.seq
          cs := m.corr
          t1 := m.origin
          t2 := (s.domain d).corr.time (s.rxStamp m)
          waitFollow := true } ∧ Changes [.freeN, .host, .net, .perf, .out] (.only [0x1205, 0x1306, 0x1313, 0x1315,
            K.recordsUnrouted, K.domainSwitches, K.timeSteps, K.timeHoldoverEntries]) s t) ∧
  (∀ (s : State) (d : Nat) (m : PtpMsg) (off : Int),
      m.eth < 2 →
      s.ethOn m.eth = true →
      s.ptpCarried m.eth m.transport = true →
      s.domainsFrom m = [d] →
      m.twoStep = false →
      s.reg (K.delayMechanism m.eth) = 0 →
      off = (s.domain d).corr.time (s.rxStamp m) - m.origin - m.corr - s.sreg 32 (K.domainMeanPathDelay d) -
          s.sreg 32 (K.portDelayAsymmetry m.eth) →
      (s.domain d).st = .locked →
      (off).natAbs < s.reg K.lockThreshold →
      (off).natAbs < s.reg K.stepThreshold →
      ∃ t, exec (.sync m) s = .next t ∧ t.reg (K.domainOffset d) = unsigned 64 off ∧ (t.domain d).st = .locked ∧
        (t.domain d).bad = 0 ∧ (t.domain d).big = 0 ∧ (t.domain d).lastSync = s.tick ∧
        -858993 ≤ (t.domain d).corr.rate ∧ (t.domain d).corr.rate ≤ 858993 ∧ Changes [.freeN, .host, .net, .perf, .out]
          (.only [0x1205, 0x1306, 0x1313, 0x1315, K.recordsUnrouted, K.domainSwitches, K.timeSteps,
          K.timeHoldoverEntries]) s t) ∧
  (∀ (s : State) (d : Nat) (m : PtpMsg) (off : Int),
      m.eth < 2 →
      s.ethOn m.eth = true →
      s.ptpCarried m.eth m.transport = true →
      s.domainsFrom m = [d] →
      (s.domain d).waitFollow = true →
      (s.domain d).syncSeq = m.seq →
      s.reg (K.delayMechanism m.eth) = 0 →
      off = (s.domain d).t2 - m.origin - ((s.domain d).cs + m.corr) - s.sreg 32 (K.domainMeanPathDelay d) -
          s.sreg 32 (K.portDelayAsymmetry m.eth) →
      (s.domain d).st = .locked →
      (off).natAbs < s.reg K.lockThreshold →
      (off).natAbs < s.reg K.stepThreshold →
      ∃ t, exec (.followUp m) s = .next t ∧ t.reg (K.domainOffset d) = unsigned 64 off ∧ (t.domain d).st = .locked ∧
        (t.domain d).waitFollow = false ∧ (t.domain d).bad = 0 ∧
        -858993 ≤ (t.domain d).corr.rate ∧ (t.domain d).corr.rate ≤ 858993 ∧ Changes [.freeN, .host, .net, .perf, .out]
          (.only [0x1205, 0x1306, 0x1313, 0x1315, K.recordsUnrouted, K.domainSwitches, K.timeSteps,
          K.timeHoldoverEntries]) s t) ∧
  (∀ (s : State) (d : Nat) (m : PtpMsg),
      m.eth < 2 →
      s.ethOn m.eth = true →
      s.ptpCarried m.eth m.transport = true →
      s.domainsFrom m = [d] →
      (s.domain d).waitFollow = false →
      ∃ t, exec (.followUp m) s = .next t ∧ t.net = s.net ∧
        t.reg (K.ptpMessagesIgnored m.eth) = (s.reg (K.ptpMessagesIgnored m.eth) + 1) % 2 ^ 32 ∧ Changes [.freeN,
          .host, .net, .perf, .out] (.only [0x1205, 0x1306, 0x1313, 0x1315, K.recordsUnrouted, K.domainSwitches,
          K.timeSteps, K.timeHoldoverEntries]) s t) ∧
  (∀ (s : State) (d : Nat) (m : PtpMsg) (sum : Int),
      m.eth < 2 →
      s.ethOn m.eth = true →
      s.ptpCarried m.eth m.transport = true →
      s.domainsFrom m = [d] →
      (s.domain d).reqOut = true →
      (s.domain d).reqSeq = m.seq →
      m.reqSource = s.reg K.clockIdentity →
      m.reqPort = m.eth + 1 →
      s.reg (K.delayMechanism m.eth) = 0 →
      sum = ((s.domain d).t2 - (s.domain d).t1 - (s.domain d).cs) + (m.origin - (s.domain d).t3 - m.corr) →
      (∃ t, exec (.delayResp m) s = .next t ∧ (t.domain d).reqOut = false ∧ (t.domain d).reqInterval = m.interval ∧
        (t.reg (K.domainMeanPathDelay d) = unsigned 32 (sum / 2) ∨
          t.reg (K.domainMeanPathDelay d) = unsigned 32 ((sum + 1) / 2)) ∧ Changes [.freeN, .net, .perf] (.only
            [0x1306, 0x1313, 0x1315]) s t)) ∧
  (∀ (s : State) (m : PtpMsg),
      m.eth < 2 →
      s.ethOn m.eth = true →
      s.ptpCarried m.eth m.transport = true →
      s.reg (K.delayMechanism m.eth) = 1 →
      ∃ t, exec (.pdelayReq m) s = .next t ∧ t.net = s.net ∧
        t.out = s.out ++ [.ptp m.eth 3 m.seq (s.rxStamp m).toNat, .ptp m.eth 4 m.seq (s.txStamp m.eth).toNat] ∧
        Changes [.freeN, .perf, .out] (.only [0x1306, 0x1315]) s t) ∧
  (∀ (s : State) (m : PtpMsg),
      m.eth < 2 →
      s.ethOn m.eth = true →
      s.ptpCarried m.eth m.transport = true →
      s.reg (K.delayMechanism m.eth) = 0 →
      ∃ t, exec (.pdelayReq m) s = .next t ∧ t.net = s.net ∧ t.out = s.out ∧
        t.reg (K.ptpMessagesIgnored m.eth) = (s.reg (K.ptpMessagesIgnored m.eth) + 1) % 2 ^ 32 ∧ Changes [.freeN,
          .perf, .out] (.only [0x1306, 0x1315]) s t) ∧
  (∀ (s : State) (m : PtpMsg),
      m.eth < 2 →
      s.ethOn m.eth = true →
      s.ptpCarried m.eth m.transport = true →
      s.answersPd m = true →
      m.twoStep = true →
      ∃ t, exec (.pdelayResp m) s = .next t ∧
        t.ethPort m.eth = { s.ethPort m.eth with pdT2 := m.origin, pdT4 := s.rxStamp m, pdCorr := m.corr } ∧
        Changes [.freeN, .net, .perf] (.only [0x1306, 0x1315]) s t) ∧
  (∀ (s : State) (m : PtpMsg) (sum : Int),
      m.eth < 2 →
      s.ethOn m.eth = true →
      s.ptpCarried m.eth m.transport = true →
      s.answersPd m = true →
      sum = (s.ethPort m.eth).pdT4 - (s.ethPort m.eth).pdT1 - (m.origin - (s.ethPort m.eth).pdT2) -
          ((s.ethPort m.eth).pdCorr + m.corr) →
      ∃ t, exec (.pdelayRespFollowUp m) s = .next t ∧ (t.ethPort m.eth).pdWait = false ∧
        ((t.ethPort m.eth).linkDelay = sum / 2 ∨ (t.ethPort m.eth).linkDelay = (sum + 1) / 2) ∧ Changes [.freeN, .net,
          .perf] (.only [0x1306, 0x1315]) s t) ∧
  (∀ (s : State) (d e : Nat) (a : Announce),
      d < 2 →
      (s.domain d).master = some (e, a) →
      (s.domain d).st = .locked →
      s.flag (K.ptpDomainEnable d) = true →
      s.reg (K.delayMechanism e) = 0 →
      s.ethOn e = true →
      s.ptpOn e = true →
      (s.domain d).reqDue ≤ s.tick →
      ∃ t, exec (.delayReqSend d) s = .next t ∧ (t.domain d).reqOut = true ∧
        (t.domain d).reqSeq = ((s.domain d).reqSeq + 1) % 65536 ∧ (t.domain d).t3 = (s.domain d).corr.time (s.txStamp e) ∧
        t.out = s.out ++ [.ptp e 1 (((s.domain d).reqSeq + 1) % 65536) (s.txStamp e).toNat] ∧ Changes [.freeN, .net,
          .perf, .out] (.only []) s t) ∧
  (∀ (s : State) (e : Nat),
      e < 2 →
      s.ethOn e = true →
      s.ptpOn e = true →
      s.reg (K.delayMechanism e) = 1 →
      (s.ethPort e).pdDue ≤ s.tick →
      ∃ t, exec (.pdelayReqSend e) s = .next t ∧ (t.ethPort e).pdWait = true ∧ (t.ethPort e).pdT1 = s.txStamp e ∧
        (t.ethPort e).pdSeq = ((s.ethPort e).pdSeq + 1) % 65536 ∧
        t.out = s.out ++ [.ptp e 2 (((s.ethPort e).pdSeq + 1) % 65536) (s.txStamp e).toNat] ∧ Changes [.freeN, .net,
          .perf, .out] (.only []) s t) ∧
  (∀ (s : State) (m : PtpMsg),
      m.eth < 2 →
      s.ethOn m.eth = true →
      m.transport ≠ s.reg (K.ptpTransport m.eth) →
      ∃ t, exec (.sync m) s = .next t ∧ t.net = s.net ∧ t.reg (K.framesDropped m.eth) = (s.reg (K.framesDropped m.eth)
        + 1) % 2 ^ 32 ∧ Changes [.freeN, .host, .net, .perf, .out] (.only [0x1205, 0x1306, 0x1313, 0x1315,
        K.recordsUnrouted, K.domainSwitches, K.timeSteps, K.timeHoldoverEntries]) s t) ∧
  (∀ (s : State) (e : Nat),
      e < 2 →
      s.ethOn e = true →
      s.ptpOn e = true →
      ∃ t, exec (.ptpMessageIgnored e) s = .next t ∧ t.net = s.net ∧ t.reg (K.framesReceived e) = (s.reg
        (K.framesReceived e) + 1) % 2 ^ 64 ∧
        t.reg (K.ptpMessagesIgnored e) = (s.reg (K.ptpMessagesIgnored e) + 1) % 2 ^ 32 ∧ Changes [.freeN, .perf] (.only
          [0x1306, 0x1315]) s t)

/-- Masters, domains and the timescale (R393, R395, R398 to R400). -/
def Obligations.TimeDomainsAreChosen : Prop :=
  (∀ (s : State) (e d : Nat) (a : Announce),
      e < 2 →
      s.ethOn e = true →
      s.ptpCarried e a.transport = true →
      a.sender ≠ s.reg K.clockIdentity →
      [0, 1].filter (fun x => s.flag (K.ptpDomainEnable x) && s.reg (K.ptpDomainNumber x) == a.domain) = [d] →
      (s.domain d).foreign = [] →
      a.clockClass ≤ s.reg K.maxClockClass →
      (s.domain d).st = .listening →
      ∃ t, exec (.announce e a) s = .next t ∧ (t.domain d).st = .acquiring ∧ (t.domain d).master = some (e, a) ∧
        (t.domain d).stepped = false ∧ (t.domain d).lastSync = s.tick ∧ t.reg (K.domainGrandmaster d) = a.grandmaster ∧
        t.reg (K.domainClockClass d) = a.clockClass ∧ t.reg (K.domainPort d) = e ∧ Changes [.freeN, .host, .net, .perf,
          .out] (.only [0x1205, 0x1306, 0x1313, 0x1315, K.recordsUnrouted, K.domainSwitches, K.timeSteps,
          K.timeHoldoverEntries]) s t) ∧
  (∀ (s : State) (e d : Nat) (a : Announce),
      e < 2 →
      s.ethOn e = true →
      s.ptpCarried e a.transport = true →
      a.sender ≠ s.reg K.clockIdentity →
      [0, 1].filter (fun x => s.flag (K.ptpDomainEnable x) && s.reg (K.ptpDomainNumber x) == a.domain) = [d] →
      (s.domain d).foreign = [] →
      s.reg K.maxClockClass < a.clockClass →
      ∃ t, exec (.announce e a) s = .next t ∧ (t.domain d).st = .unusable ∧ (t.domain d).master = some (e, a) ∧
        t.reg (K.domainClockClass d) = a.clockClass ∧ Changes [.freeN, .host, .net, .perf, .out] (.only [0x1205,
          0x1306, 0x1313, 0x1315, K.recordsUnrouted, K.domainSwitches, K.timeSteps, K.timeHoldoverEntries]) s t) ∧
  (∀ (s : State) (d : Nat),
      d < 2 →
      (s.domain d).st = .locked →
      s.reg K.syncLossTimeout * 250000 ≤ s.tick - (s.domain d).lastSync →
      ∃ t, exec (.syncLossTimeout d) s = .next t ∧ (t.domain d).st = .holdover ∧ Changes [.freeN, .host, .net, .perf,
        .out] (.only [0x1205, K.recordsUnrouted, K.domainSwitches, K.timeSteps, K.timeHoldoverEntries]) s t) ∧
  (∀ (s : State),
      s.net.selected = none →
      s.domSt 0 = .locked →
      ∃ t, exec .domainRevert s = .next t ∧ t.net.selected = some 0 ∧ t.net.timeSt = 1 ∧ t.net.everLocked = true ∧
        t.net.dom = s.net.dom ∧ t.reg K.timeSteps = (s.reg K.timeSteps + 1) % 2 ^ 32 ∧ Changes [.freeN, .host, .net,
          .perf, .out] (.only [0x1205, K.recordsUnrouted, K.domainSwitches, K.timeSteps, K.timeHoldoverEntries]) s t) ∧
  (∀ (s : State) (d : Nat),
      d < 2 →
      s.net.selected = some d →
      s.domSt d = .locked →
      s.flag K.domainRevertive = true →
      s.reg K.timeDomainPreferred = 1 - d →
      s.domSt (1 - d) = .locked →
      (s.domain (1 - d)).lockedSince + 15000000000 ≤ s.tick →
      ∃ t, exec .domainRevert s = .next t ∧ t.net.selected = some (1 - d) ∧ t.net.timeSt = 1 ∧ t.net.dom = s.net.dom ∧
        t.reg K.domainSwitches = (s.reg K.domainSwitches + 1) % 2 ^ 32 ∧ Changes [.freeN, .host, .net, .perf, .out]
          (.only [0x1205, K.recordsUnrouted, K.domainSwitches, K.timeSteps, K.timeHoldoverEntries]) s t) ∧
  (∀ (s : State) (d start dur : Nat) (delta : Int),
      s.net.selected = some d →
      s.net.slew = some (start, delta, dur) →
      start + dur ≤ s.localTime →
      ∃ t, exec .slewComplete s = .next t ∧ t.net.slew = none ∧ t.net.selected = some d ∧
        t.net.crossing = s.net.crossing ++ [(s.domain d).corr] ∧ Changes [.net] (.only []) s t) ∧
  (∀ (s : State),
      s.net.timeSt = 2 →
      s.reg K.holdoverLimit * 250000000 ≤ s.tick - s.net.holdAt →
      ∃ t, exec .holdoverLimitExpiry s = .next t ∧ t.net = { s.net with timeSt := 0 } ∧ Changes [.host, .net, .perf,
        .out] (.only [0x1205, K.recordsUnrouted]) s t)

/-- Faults of a context and its teardown (R409, R410, R412, R413, R415). -/
def Obligations.ContextsAreTornDown : Prop :=
  (∀ (s : State) (die cyc f c : Nat),
      die < 2 →
      SMap.get 0 s.engine.frozen die = f + 1 →
      SMap.get 0 s.engine.frozenCtx die = c →
      f + s.reg K.hangFreezeLimit ≤ cyc →
      (s.ctx c).st = .running →
      s.faults.torn = [] →
      s.faults.recovery = none →
      ∃ t, exec (.freezeLimit die cyc) s = .next t ∧ (t.ctx c).st = .gloved ∧ (t.ctx c).run = none ∧
        SMap.get 0 t.engine.frozen die = 0 ∧ (SMap.find? t.faults.torn c).isSome = true ∧ Changes [.freeN, .blobs,
          .ctl, .belt, .pipe, .engine, .tracks, .eject, .memory, .knots, .host, .faults, .perf, .out] (.only [0x0804,
          0x1205, 0x1402, 0x1703, K.decisionsIssued, K.fallbackDecisions, K.waitersInUse, K.waitersPeak,
          K.ownerResetReleases, K.knotDumpContext, K.pulsesPending, K.pulsesPeak, K.pulsesScheduled, K.pulsesMerged,
          K.storeFullRefused, K.lateDecisions, K.missedDecisions, K.disabledChannelRequests, K.commandsCompleted,
          K.recordsUnrouted, K.faultLogOverwritten, K.faultRecordsSuppressed, K.fallbackGapOpen, K.gapRecords]) s t) ∧
  (∀ (s : State) (die cyc c : Nat),
      die < 2 →
      s.lateStep die cyc = some c →
      (s.ctx c).st = .running →
      s.faults.torn = [] →
      s.faults.recovery = none →
      ∃ t, exec (.checkpointLate die cyc) s = .next t ∧ (t.ctx c).st = .gloved ∧ (t.ctx c).run = none ∧
        (SMap.find? t.faults.torn c).isSome = true ∧ Changes [.freeN, .blobs, .ctl, .belt, .pipe, .engine, .tracks,
          .eject, .memory, .knots, .host, .faults, .perf, .out] (.only [0x0804, 0x1205, 0x1402, 0x1703,
          K.decisionsIssued, K.fallbackDecisions, K.waitersInUse, K.waitersPeak, K.ownerResetReleases,
          K.knotDumpContext, K.pulsesPending, K.pulsesPeak, K.pulsesScheduled, K.pulsesMerged, K.storeFullRefused,
          K.lateDecisions, K.missedDecisions, K.disabledChannelRequests, K.commandsCompleted, K.recordsUnrouted,
          K.faultLogOverwritten, K.faultRecordsSuppressed, K.fallbackGapOpen, K.gapRecords]) s t) ∧
  (∀ (s : State) (sess c : Nat),
      s.gate sess K.contextReset = none →
      c < 16 →
      s.power.st = .run →
      (s.ctx c).st = .running →
      s.faults.torn = [] →
      s.faults.recovery = none →
      ∃ t, exec (.contextReset sess c) s = .next t ∧ (t.ctx c).st = .gloved ∧ (t.ctx c).run = none ∧
        t.cmdRead K.contextReset = Status.inProgress ∧ (SMap.find? t.faults.torn c).isSome = true ∧
        t.reg K.knotDumpContext = c ∧ Changes [.freeN, .blobs, .ctl, .belt, .pipe, .engine, .tracks, .eject, .memory,
          .knots, .host, .faults, .power, .perf, .out] (.only [0x0804, 0x1205, 0x1402, 0x1703, K.decisionsIssued,
          K.fallbackDecisions, K.waitersInUse, K.waitersPeak, K.ownerResetReleases, K.knotDumpContext, K.groupState,
          K.groupFailCause, K.membersSeen, K.pulsesPending, K.pulsesPeak, K.pulsesScheduled, K.pulsesMerged,
          K.storeFullRefused, K.lateDecisions, K.missedDecisions, K.disabledChannelRequests, K.commandsCompleted,
          K.recordsUnrouted, K.faultLogOverwritten, K.faultRecordsSuppressed, K.fallbackGapOpen, K.gapRecords]) s t) ∧
  (∀ (s : State) (sess c : Nat),
      s.gate sess K.contextReset = none →
      15 < c →
      exec (.contextReset sess c) s = .next (s.answer sess K.contextReset Status.valueRange)) ∧
  (∀ (s : State) (sess c : Nat),
      s.gate sess K.contextReset = none →
      c < 16 →
      s.power.st = .run →
      (s.ctx c).st = .empty →
      exec (.contextReset sess c) s = .next (s.answer sess K.contextReset Status.noContext)) ∧
  (∀ (s : State) (c : Nat) (x : Teardown) (p : Plan),
      c < 16 →
      SMap.find? s.faults.torn c = some x →
      x.start + 125000 ≤ s.tick →
      x.stop = false →
      x.cmd = true →
      (s.ctx c).plan = some p →
      ∃ t, exec (.teardownEnd c) s = .next t ∧ (t.ctx c).st = .idle ∧ SMap.find? t.faults.torn c = none ∧
        t.reg (K.contextFaults c) = (s.reg (K.contextFaults c) + 1) % 2 ^ 32 ∧
        t.reg (K.contextRestarts c) = (s.reg (K.contextRestarts c) + 1) % 2 ^ 32 ∧
        t.cmdRead K.contextReset = Status.ok ∧ Changes [.ctl, .belt, .engine, .knots, .host, .faults, .power, .perf,
          .out] (.only [0x1205, 0x1405, K.waitersInUse, K.waitersPeak, K.groupState, K.groupFailCause, K.membersSeen,
          K.commandsCompleted, K.recordsUnrouted]) s t) ∧
  (∀ (s : State) (c : Nat) (x : Teardown),
      c < 16 →
      SMap.find? s.faults.torn c = some x →
      x.start + 125000 ≤ s.tick →
      x.stop = true →
      x.cmd = false →
      ∃ t, exec (.teardownEnd c) s = .next t ∧ (t.ctx c).st = .stopped ∧ (t.ctx c).jobs = (if x.recSent then (s.ctx
        c).jobs else []) ∧
        t.reg (K.contextFaults c) = (s.reg (K.contextFaults c) + 1) % 2 ^ 32 ∧
        t.reg (K.contextRestarts c) = s.reg (K.contextRestarts c) ∧ Changes [.ctl, .belt, .engine, .knots, .host,
          .faults, .power, .perf, .out] (.only [0x1205, 0x1405, K.waitersInUse, K.waitersPeak, K.groupState,
          K.groupFailCause, K.membersSeen, K.commandsCompleted, K.recordsUnrouted]) s t) ∧
  (∀ (s : State) (sess : Nat),
      s.gate sess K.faultLogClear = none →
      ∃ t, exec (.faultLogClear sess) s = .next t ∧ t.faults.log = [] ∧ t.faults.nv = s.faults.nv ∧
        t.cmdRead K.faultLogClear = Status.ok ∧ Changes [.ctl, .faults, .out] (.only [0x1703]) s t) ∧
  (∀ (s : State) (sess : Nat),
      s.gate sess K.faultLogNvClear = none →
      ∃ t, exec (.faultLogNvClear sess) s = .next t ∧ t.faults.nv = [] ∧ t.faults.log = s.faults.log ∧
        t.cmdRead K.faultLogNvClear = Status.ok ∧ Changes [.ctl, .faults, .out] (.only [0x1703]) s t)

/-- Whole-device recovery and reset (R408, R411, R419 to R421). -/
def Obligations.DeviceFaultsRecoverOrReset : Prop :=
  (∀ (s : State),
      s.supplies.inReset = false →
      s.power.st = .run →
      s.boot.ready = true →
      s.recentRecoveries < s.reg K.recoveryLimit →
      s.ctl.phase = .idle →
      s.faults.recovery = none →
      ∃ t, exec .controlStall s = .next t ∧ t.reg K.bootState = 3 ∧
        t.reg K.lastRecoveryCause = FCode.controlStall ∧ t.ctl.serving = false ∧ t.host.fetching = false ∧
          t.knots.waiters = [] ∧
        (t.faults.recovery.map fun v => (v.start, v.cause)) = some (s.tick, FCode.controlStall) ∧ t.faults.torn = [] ∧
        (∀ c, c < 16 → (t.ctx c).st = if (s.ctx c).st = .empty then .empty else .gloved) ∧
        Changes [.freeN, .blobs, .ctl, .belt, .supplies, .intake, .pipe, .engine, .tracks, .eject, .field, .memory,
          .knots, .host, .net, .faults, .power, .perf, .boot, .out] (.all) s t) ∧
  (∀ (s : State) (h : Nat),
      s.supplies.inReset = false →
      s.power.st = .run →
      s.boot.ready = true →
      s.recentRecoveries < s.reg K.recoveryLimit →
      s.ctl.phase = .idle →
      s.faults.recovery = none →
      1 ≤ h →
      h ≤ 4 →
      ∃ t, exec (.helperHalted h) s = .next t ∧ t.reg K.bootState = 3 ∧
        t.reg K.lastRecoveryCause = FCode.helperHalted ∧ t.ctl.serving = false ∧ t.host.fetching = false ∧
          t.knots.waiters = [] ∧
        (t.faults.recovery.map fun v => (v.start, v.cause)) = some (s.tick, FCode.helperHalted) ∧ t.faults.torn = [] ∧
        (∀ c, c < 16 → (t.ctx c).st = if (s.ctx c).st = .empty then .empty else .gloved) ∧
        Changes [.freeN, .blobs, .ctl, .belt, .supplies, .intake, .pipe, .engine, .tracks, .eject, .field, .memory,
          .knots, .host, .net, .faults, .power, .perf, .boot, .out] (.all) s t) ∧
  (∀ (s : State) (p : Nat),
      s.supplies.inReset = false →
      s.power.st = .run →
      s.boot.ready = true →
      s.recentRecoveries < s.reg K.recoveryLimit →
      s.ctl.phase = .idle →
      s.faults.recovery = none →
      1 ≤ p →
      p ≤ 3 →
      ∃ t, exec (.dieTransport p) s = .next t ∧ t.reg K.bootState = 3 ∧
        t.reg K.lastRecoveryCause = FCode.dieTransport ∧ t.ctl.serving = false ∧ t.host.fetching = false ∧
          t.knots.waiters = [] ∧
        (t.faults.recovery.map fun v => (v.start, v.cause)) = some (s.tick, FCode.dieTransport) ∧ t.faults.torn = [] ∧
        (∀ c, c < 16 → (t.ctx c).st = if (s.ctx c).st = .empty then .empty else .gloved) ∧
        Changes [.freeN, .blobs, .ctl, .belt, .supplies, .intake, .pipe, .engine, .tracks, .eject, .field, .memory,
          .knots, .host, .net, .faults, .power, .perf, .boot, .out] (.all) s t) ∧
  (∀ (s : State) (sess : Nat),
      s.supplies.inReset = false →
      s.power.st = .run →
      s.boot.ready = true →
      s.recentRecoveries < s.reg K.recoveryLimit →
      s.ctl.phase = .idle →
      s.faults.recovery = none →
      s.gate sess K.deviceRecover = none →
      ∃ t, exec (.deviceRecover sess) s = .next t ∧ t.reg K.bootState = 3 ∧
        t.reg K.lastRecoveryCause = FCode.recoveryCommanded ∧ t.ctl.serving = false ∧ t.host.fetching = false ∧
          t.knots.waiters = [] ∧
        (t.faults.recovery.map fun v => (v.start, v.cause)) = some (s.tick, FCode.recoveryCommanded) ∧ t.faults.torn =
          [] ∧
        (∀ c, c < 16 → (t.ctx c).st = if (s.ctx c).st = .empty then .empty else .gloved) ∧
        t.cmdRead K.deviceRecover = Status.inProgress ∧ Changes [.freeN, .blobs, .ctl, .belt, .supplies, .intake,
          .pipe, .engine, .tracks, .eject, .field, .memory, .knots, .host, .net, .faults, .power, .perf, .boot, .out]
          (.all) s t) ∧
  (∀ (s : State),
      s.supplies.inReset = false →
      s.power.st = .run →
      s.boot.ready = true →
      s.reg K.recoveryLimit ≤ s.recentRecoveries →
      ∃ t, exec .controlStall s = .next t ∧ t.supplies.inReset = true ∧ t.boot.ready = false ∧
        t.ctl = { serving := false } ∧ t.engine = {} ∧ t.tracks = {} ∧ t.reg K.bootCount = s.reg K.bootCount ∧
        t.mfg = s.mfg ∧ t.pending = s.pending ∧ t.tick = s.tick) ∧
  (∀ (s : State),
      s.supplies.inReset = false →
      s.power.st = .run →
      ∃ t, exec .timeUnitHalted s = .next t ∧ t.supplies.inReset = true ∧ t.boot.ready = false ∧
        t.ctl = { serving := false } ∧ t.engine = {} ∧ t.tracks = {} ∧ t.reg K.bootCount = s.reg K.bootCount ∧
        t.mfg = s.mfg ∧ t.pending = s.pending ∧ t.tick = s.tick) ∧
  (∀ (s : State),
      s.supplies.inReset = false →
      s.power.st = .run →
      ∃ t, exec .ejectionUnitHalted s = .next t ∧ t.supplies.inReset = true ∧ t.boot.ready = false ∧
        t.ctl = { serving := false } ∧ t.engine = {} ∧ t.tracks = {} ∧ t.reg K.bootCount = s.reg K.bootCount ∧
        t.mfg = s.mfg ∧ t.pending = s.pending ∧ t.tick = s.tick) ∧
  (∀ (s : State),
      s.supplies.inReset = true →
      exec .controlStall s = .next s ∧ exec .timeUnitHalted s = .next s ∧ exec .ejectionUnitHalted s = .next s) ∧
  (∀ (s : State) (v : Recovery),
      s.faults.recovery = some v →
      ∃ t, exec .recoveryResume s = .next t ∧ t.ctl.serving = true ∧ t.reg K.bootState = 1 ∧ t.host.fetching = true ∧
        t.faults.stalled = false ∧ t.reg K.lastRecoveryTime = min (2 ^ 32 - 1) ((s.tick - v.start) * 4 / 1000000) ∧
        Changes [.freeN, .ctl, .belt, .pipe, .engine, .tracks, .memory, .knots, .host, .faults, .power, .perf, .boot,
          .out] (.only [0x1205, 0x1402, 0x1405, 0x1502, 0x1703, K.lastTrainingTime, K.waitersInUse, K.waitersPeak,
          K.commandsCompleted, K.recordsUnrouted, K.faultLogOverwritten, K.faultRecordsSuppressed, K.lastRecoveryTime,
          K.samplesTaken, K.bootState]) s t)

/-- Power states (R427 to R430, R432). -/
def Obligations.PowerStatesAreEnteredAndLeft : Prop :=
  (∀ (s : State) (sess : Nat),
      s.gate sess K.powerTarget = none →
      s.power.st = .run →
      s.power.trans = none →
      ∃ t, exec (.powerTargetRun sess) s = .next t ∧ t.power = s.power ∧ t.cmdRead K.powerTarget = Status.ok ∧
        Changes [.freeN, .ctl, .power, .out] (.only [K.lastWakeCause]) s t) ∧
  (∀ (s : State) (sess : Nat),
      s.gate sess K.powerTarget = none →
      s.power.st = .ready →
      s.power.trans = none →
      ∃ t, exec (.powerTargetRun sess) s = .next t ∧
        t.power = { s.power with trans := some { target := .run, cause := 1, start := s.tick }, readySince := none } ∧
        t.reg K.lastWakeCause = 0xFE ∧ t.cmdRead K.powerTarget = Status.inProgress ∧ Changes [.freeN, .ctl, .power,
          .out] (.only [K.lastWakeCause]) s t) ∧
  (∀ (s : State) (sess : Nat),
      s.gate sess K.powerTarget = none →
      s.power.st = .run →
      s.power.trans = none →
      s.entryOk sess .ready = true →
      ∃ t, exec (.powerTargetReady sess) s = .next t ∧
        t.power = { s.power with trans := some { target := .ready, cause := 1, start := s.tick }, readySince := none } ∧
        t.cmdRead K.powerTarget = Status.inProgress ∧ Changes [.freeN, .ctl, .power, .out] (.only [K.lastWakeCause]) s
          t) ∧
  (∀ (s : State) (sess : Nat),
      s.gate sess K.powerTarget = none →
      s.power.st = .run →
      s.power.trans = none →
      s.entryOk sess .doze = true →
      ∃ t, exec (.powerTargetDoze sess) s = .next t ∧
        t.power = { s.power with trans := some { target := .doze, cause := 1, start := s.tick }, readySince := none } ∧
        t.cmdRead K.powerTarget = Status.inProgress ∧ Changes [.freeN, .ctl, .power, .out] (.only [K.lastWakeCause]) s
          t) ∧
  (∀ (s : State) (sess : Nat),
      s.gate sess K.powerTarget = none →
      s.power.st = .run →
      s.power.trans = none →
      s.entryOk sess .retain = true →
      ∃ t, exec (.powerTargetRetain sess) s = .next t ∧
        t.power = { s.power with trans := some { target := .retain, cause := 1, start := s.tick }, readySince := none } ∧
        t.cmdRead K.powerTarget = Status.inProgress ∧ Changes [.freeN, .ctl, .power, .out] (.only [K.lastWakeCause]) s
          t) ∧
  (∀ (s : State) (sess : Nat),
      s.gate sess K.powerTarget = none →
      s.power.st = .run →
      s.power.trans = none →
      s.entryOk sess .standby = true →
      ∃ t, exec (.powerTargetStandby sess) s = .next t ∧
        t.power = { s.power with trans := some { target := .standby, cause := 1, start := s.tick }, readySince := none } ∧
        t.cmdRead K.powerTarget = Status.inProgress ∧ Changes [.freeN, .ctl, .power, .out] (.only [K.lastWakeCause]) s
          t) ∧
  (∀ (s : State) (sess : Nat),
      s.gate sess K.powerTarget = none →
      s.power.st = .run →
      s.power.trans = none →
      s.belt.st = .forward →
      (s.ctx 0).st ≠ .empty →
      exec (.powerTargetReady sess) s = .next (s.answer sess K.powerTarget Status.powerState) ∧
        exec (.powerTargetDoze sess) s = .next (s.answer sess K.powerTarget Status.powerState) ∧
        exec (.powerTargetRetain sess) s = .next (s.answer sess K.powerTarget Status.powerState) ∧
        exec (.powerTargetStandby sess) s = .next (s.answer sess K.powerTarget Status.powerState)) ∧
  (∀ (s : State) (x : Transition),
      s.power.trans = some x →
      x.target = .ready →
      x.cause = 1 →
      s.power.st = .run →
      s.power.heldBells = [] →
      ∃ t, exec .powerTransitionDone s = .next t ∧ t.cmdRead K.powerTarget = Status.ok ∧
        t.power = { s.power with st := .ready, trans := none, entered := s.tick, readySince := none } ∧
        t.engine = s.engine ∧ t.field = s.field ∧ Changes [.freeN, .blobs, .ctl, .belt, .supplies, .intake, .pipe,
          .engine, .tracks, .eject, .field, .memory, .knots, .host, .net, .faults, .power, .perf, .boot, .out] (.all) s
          t) ∧
  (∀ (s : State) (x : Transition),
      s.power.trans = some x →
      x.target = .doze →
      s.power.st = .ready →
      ∃ t, exec .powerTransitionDone s = .next t ∧ t.power.st = .doze ∧ t.power.trans = none ∧
        (∀ o, (t.dirOut o).driven = false) ∧ t.field.alive.running = false ∧ t.engine = s.engine ∧
        Changes [.freeN, .blobs, .ctl, .belt, .supplies, .intake, .pipe, .engine, .tracks, .eject, .field, .memory,
          .knots, .host, .net, .faults, .power, .perf, .boot, .out] (.all) s t) ∧
  (∀ (s : State) (x : Transition),
      s.power.trans = some x →
      x.target = .standby →
      s.power.st = .retain →
      ∃ t, exec .powerTransitionDone s = .next t ∧ t.power = { st := .standby, entered := s.tick } ∧
        t.supplies.inReset = true ∧ t.supplies.resetDue = none ∧ t.engine = {} ∧ t.memory = {} ∧
        t.reg K.wakeSources = s.reg K.wakeSources ∧ t.reg K.wakeInputMask = s.reg K.wakeInputMask ∧
        t.reg K.wakeTimer = s.reg K.wakeTimer ∧ Changes [.freeN, .blobs, .ctl, .belt, .supplies, .intake, .pipe,
          .engine, .tracks, .eject, .field, .memory, .knots, .host, .net, .faults, .power, .perf, .boot, .out] (.all) s
          t) ∧
  (∀ (s : State) (since : Nat),
      s.power.readySince = some since →
      s.flag K.autoReady = true →
      s.power.st = .run →
      s.power.trans = none →
      s.readyOk = true →
      s.reg K.autoReadyDelay * 250000 ≤ s.tick - since →
      ∃ t, exec .autoReadyEntry s = .next t ∧
        t.power = { s.power with trans := some { target := .ready, cause := 2, start := s.tick }, readySince := none } ∧
        Changes [.freeN, .ctl, .power] (.only []) s t) ∧
  (∀ (s : State) (n : Nat),
      bitOf (s.reg K.wakeSources) n = true →
      n = 2 ∨ n = 4 →
      s.power.st = .retain →
      s.power.trans = none →
      s.flag K.autoReady = false →
      ∃ t, exec (.wakeEvent n) s = .next t ∧
        t.power = { s.power with trans := some { target := .run, cause := 3, start := s.tick }, readySince := none } ∧
        t.reg K.lastWakeCause = n ∧ Changes [.freeN, .ctl, .power] (.only [K.lastWakeCause]) s t) ∧
  (∀ (s : State) (n : Nat),
      bitOf (s.reg K.wakeSources) n = false →
      exec (.wakeEvent n) s = .next s) ∧
  (∀ (s : State),
      s.reg K.wakeTimer ≠ 0 →
      s.reg K.wakeTimer * 250000000 ≤ s.tick - s.power.entered →
      bitOf (s.reg K.wakeSources) 3 = true →
      s.power.st = .standby →
      s.power.trans = none →
      ∃ t, exec .wakeTimerExpiry s = .next t ∧
        t.power = { s.power with trans := some { target := .run, cause := 3, start := s.tick }, readySince := none } ∧
        t.reg K.lastWakeCause = 3 ∧ Changes [.freeN, .ctl, .power] (.only [K.lastWakeCause]) s t)

/-- Temperature, ageing and the clock (R434 to R438). -/
def Obligations.TemperatureAndClockAreFollowed : Prop :=
  (∀ (s : State) (x : TempSample) (a b : Int) (l : List Int),
      x.dies = a :: b :: l →
      x.dies.all (fun d => decide (-32768 ≤ d ∧ d < 1050)) = true →
      s.supplies.inReset = false →
      s.power.st = .run →
      s.power.throttleTemp = false →
      s.sreg 16 K.throttleTemperature ≤ a →
      s.diesFitted.all (fun d => decide (d < x.dies.length)) = true →
      ∃ t, exec (.temperatureSample x) s = .next t ∧ t.reg (K.dieTemperature 0) = unsigned 16 a ∧
        t.reg (K.dieTemperature 1) = unsigned 16 b ∧ t.reg K.logicInputVoltage = min 65535 x.logicMv ∧
        t.reg K.logicInputPower = min 65535 x.logicW ∧ t.power.throttleTemp = true ∧ t.reg K.throttleState = 1 ∧
        t.supplies = s.supplies ∧ Changes [.freeN, .blobs, .ctl, .belt, .supplies, .intake, .pipe, .engine, .tracks,
          .eject, .field, .memory, .knots, .host, .net, .faults, .power, .perf, .boot, .out] (.all) s t) ∧
  (∀ (s : State) (x : TempSample) (a : Int) (l : List Int),
      x.dies = a :: l →
      1050 ≤ a →
      a < 32768 →
      s.supplies.inReset = false →
      s.power.st = .run →
      ∃ t, exec (.temperatureSample x) s = .next t ∧ t.supplies.inReset = true ∧ t.boot.ready = false ∧
        t.ctl = { serving := false } ∧ t.engine = {} ∧ t.tracks = {} ∧ t.reg K.bootCount = s.reg K.bootCount ∧
        t.mfg = s.mfg ∧ t.pending = s.pending ∧ t.tick = s.tick ∧ Changes [.freeN, .blobs, .ctl, .belt, .supplies,
          .intake, .pipe, .engine, .tracks, .eject, .field, .memory, .knots, .host, .net, .faults, .power, .perf,
          .boot, .out] (.all) s t) ∧
  (∀ (s : State) (slow : List Nat) (m0 m1 : Int) (m : List Int),
      s.supplies.inReset = false →
      s.power.st = .run →
      (s.ctx 0).plan.isSome = true →
      m0 < s.reg K.marginTarget →
      -32768 ≤ m0 →
      ∃ t, exec (.ageingMonitorUpdate slow (m0 :: m1 :: m)) s = .next t ∧ t.reg (K.timingMargin 0) = unsigned 16 m0 ∧
        t.reg (K.timingMargin 1) = unsigned 16 m1 ∧ t.reg K.replanPending = 1 ∧ t.power = s.power ∧ t.engine = s.engine ∧
        Changes [.host, .power, .perf, .out] (.only [0x0315, 0x0316, 0x0317, 0x1205, K.computeEnergyPerOp,
          K.replanPending, K.voltageSteps, K.clockSteps, K.recordsUnrouted]) s t) ∧
  (∀ (s : State) (sess : Nat),
      s.gate sess K.replanNow = none →
      s.power.st = .run →
      s.power.clock = none →
      s.alwaysReplan = true →
      s.voltageRoom 0 = true →
      s.voltageRoom 1 = true →
      ∃ t, exec (.replanNow sess) s = .next t ∧ t.reg (K.coreVoltage 0) = s.reg (K.coreVoltage 0) + 5 ∧
        t.reg (K.coreVoltage 1) = s.reg (K.coreVoltage 1) + 5 ∧ t.reg K.voltageSteps = (s.reg K.voltageSteps + 1 + 1) %
          2 ^ 32 ∧
        t.power = { s.power with replanNow := false } ∧ t.cmdRead K.replanNow = Status.ok ∧ Changes [.ctl, .host,
          .power, .perf, .out] (.only [0x0317, 0x1205, K.computeEnergyPerOp, K.voltageSteps, K.clockSteps,
          K.recordsUnrouted]) s t) ∧
  (∀ (s : State) (sess : Nat),
      s.gate sess K.replanNow = none →
      s.power.st = .run →
      s.power.clock = none →
      s.alwaysReplan = true →
      s.voltageRoom 0 = false →
      s.voltageRoom 1 = false →
      s.mayStepClock = true →
      s.reg K.minCoreClock + 10 ≤ s.engine.cclk →
      ∃ t, exec (.replanNow sess) s = .next t ∧
        t.power.clock = some { start := s.tick, die := 0, mhz := s.engine.cclk - 10 } ∧ t.engine = s.engine ∧
        t.reg K.clockSteps = (s.reg K.clockSteps + 1) % 2 ^ 32 ∧ t.cmdRead K.replanNow = Status.ok ∧ Changes [.ctl,
          .host, .power, .perf, .out] (.only [0x0317, 0x1205, K.computeEnergyPerOp, K.voltageSteps, K.clockSteps,
          K.recordsUnrouted]) s t) ∧
  (∀ (s : State) (cyc : Nat) (k : ClockStep),
      s.power.clock = some k →
      ∃ t, exec (.cclkStepDone cyc) s = .next t ∧ t.power.clock = none ∧ t.engine.cclk = k.mhz ∧
        t.reg K.coreClock = k.mhz ∧ Changes [.freeN, .engine, .host, .power, .perf, .out] (.only [0x1205,
          K.computeEnergyPerOp, K.coreClock, K.periodBudget, K.slackCycles, K.decisionLatencyBound,
          K.decisionLatencyBoundUs, K.predictedComputePower, K.deadlineAtRisk, K.powerAtRisk, K.lastTrainingTime,
          K.recordsUnrouted]) s t)

/-- Performance counters and clears (R446, R448, R450, R455, R477). -/
def Obligations.CountersAndClears : Prop :=
  (∀ (s : State) (sess : Nat),
      s.gate sess K.counterControl = none →
      ∃ t, exec (.counterStart sess) s = .next t ∧ t.perf.running = true ∧ t.reg K.countersRunning = 1 ∧
        t.perf.counters = s.perf.counters ∧ t.perf.action = s.perf.action ++ [(K.counterControl, s.tick)] ∧ t.cmdRead
          K.counterControl = Status.inProgress ∧ Changes [.ctl, .perf, .out] (.only [K.countersRunning]) s t) ∧
  (∀ (s : State) (sess : Nat),
      s.gate sess K.counterControl = none →
      ∃ t, exec (.counterStop sess) s = .next t ∧ t.perf.running = false ∧ t.reg K.countersRunning = 0 ∧
        t.perf.counters = s.perf.counters ∧ t.perf.action = s.perf.action ++ [(K.counterControl, s.tick)] ∧ t.cmdRead
          K.counterControl = Status.inProgress ∧ Changes [.ctl, .perf, .out] (.only [K.countersRunning]) s t) ∧
  (∀ (s : State) (sess : Nat),
      s.gate sess K.counterControl = none →
      ∃ t, exec (.counterClear sess) s = .next t ∧
        (∀ b i, b < 4 → i < 8 → t.counter b i =
          { s.counter b i with value := s.reg (K.counterPreset (8 * b + i)), overCount := 0 }) ∧ t.perf.action =
            s.perf.action ++ [(K.counterControl, s.tick)] ∧ t.cmdRead K.counterControl = Status.inProgress ∧ Changes
            [.ctl, .perf, .out] (.only []) s t) ∧
  (∀ (s : State) (sess : Nat),
      s.gate sess K.counterControl = none →
      ∃ t, exec (.counterSnapshot sess) s = .next t ∧ t.perf.counters = s.perf.counters ∧
        t.reg K.snapshotCount = (s.reg K.snapshotCount + 1) % 2 ^ 32 ∧ t.perf.action = s.perf.action ++
          [(K.counterControl, s.tick)] ∧ t.cmdRead K.counterControl = Status.inProgress ∧ Changes [.freeN, .blobs,
          .ctl, .perf, .out] (.only [K.snapshotCount]) s t) ∧
  (∀ (s : State) (a b : Nat),
      ∃ t, exec (.shadowRefresh a b) s = .next t ∧ t.perf = s.perf ∧
        (∀ n i, n ∈ s.banks → i < 8 → t.reg (K.counterValue (8 * n + i)) = (s.counter n i).value ∧
          t.reg (K.counterOverflows (8 * n + i)) = (s.counter n i).overCount) ∧
        t.reg (K.cycleCount 0) = a % 2 ^ 64 ∧ t.reg (K.cycleCount 1) = b % 2 ^ 64 ∧
        t.reg (K.cycleCount 2) = 2 * s.tick % 2 ^ 64 ∧ Changes [] (.only [0x1502, 0x150A, 0x150B]) s t) ∧
  (∀ (s : State),
      s.tick % (2 ^ s.reg K.bandwidthWindow * 250) = 0 →
      ∃ t, exec .bandwidthWindowEnd s = .next t ∧
        t.perf = { s.perf with bytesIn := [], bytesOut := [] } ∧
        (∀ p, p < 0x82 → t.reg (K.portBytesIn p) = SMap.get 0 s.perf.bytesIn p ∧
          t.reg (K.portBytesOut p) = SMap.get 0 s.perf.bytesOut p ∧
          t.reg (K.portPeakIn p) = max (s.reg (K.portPeakIn p)) (SMap.get 0 s.perf.bytesIn p)) ∧
        Changes [.perf] (.only [0x1511, 0x1512, 0x1513, 0x1514]) s t) ∧
  (∀ (s : State) (sess : Nat),
      s.gate sess K.bandwidthClear = none →
      ∃ t, exec (.bandwidthClear sess) s = .next t ∧
        (∀ p, p < 0x82 → t.reg (K.portPeakIn p) = 0 ∧ t.reg (K.portPeakOut p) = 0) ∧
        t.cmdRead K.bandwidthClear = Status.ok ∧ Changes [.ctl, .out] (.only [0x1513, 0x1514]) s t) ∧
  (∀ (s : State) (sess : Nat),
      s.gate sess K.sampleLogClear = none →
      ∃ t, exec (.sampleLogClear sess) s = .next t ∧
        t.perf = { s.perf with log := [] } ∧ t.cmdRead K.sampleLogClear = Status.ok ∧ Changes [.ctl, .faults, .perf,
          .out] (.only [0x1703]) s t) ∧
  (∀ (s : State) (sess v : Nat),
      s.gate sess K.statisticsClear = none →
      v = 0xFFFF ∨ (v % 256 = 0 ∧ 0x0200 ≤ v ∧ v ≤ 0x1700) →
      ∃ t, exec (.statisticsClear sess v) s = .next t ∧
        t.reg K.clearGeneration = (s.reg K.clearGeneration + 1) % 2 ^ 32 ∧ t.reg K.lastClearRange = v ∧
        t.reg K.lastClearPosition = s.pos ∧ t.cmdRead K.statisticsClear = Status.inProgress ∧ t.perf.counters =
          s.perf.counters ∧
        ((v = 0xFFFF ∨ v = 0x1300) → t.reg (K.framesDropped 0) = 0) ∧ Changes [.ctl, .perf, .out] (.all) s t) ∧
  (∀ (s : State) (sess v : Nat),
      s.gate sess K.statisticsClear = none →
      v ≠ 0xFFFF →
      v % 256 ≠ 0 ∨ v < 0x0200 ∨ 0x1700 < v →
      exec (.statisticsClear sess v) s = .next (s.answer sess K.statisticsClear Status.valueRange))

/-- Start-up, blobs and attestation (R457, R458, R463, R464, R466, R468). -/
def Obligations.ModuleStartsUpAndReports : Prop :=
  (∀ (s : State) (cause : Nat),
      s.startOk cause = true →
      s.mfg.arrayOk = true →
      cause ≠ 3 →
      ∃ t, exec (.startUp cause []) s = .next t ∧ t.supplies.inReset = false ∧ t.supplies.resetDue = none ∧ t.tick = 0 ∧
        t.boot.step = 8 ∧ t.boot.ready = false ∧ t.ctl.serving = false ∧
        t.reg K.resetCause = (if cause = 4 then 4 else s.powerCause) ∧
        t.reg K.resetFaultCode = (if cause = 4 then s.supplies.resetDue.getD 0 else 0) ∧
        t.reg K.bootCount = min 65535 (s.reg K.bootCount + 1) ∧ t.belt = {} ∧ t.memory = { newGrid := true } ∧ Changes
          [.tick, .freeN, .blobs, .ctl, .belt, .supplies, .intake, .pipe, .engine, .tracks, .eject, .field, .memory,
          .knots, .host, .net, .faults, .power, .perf, .boot, .out] (.all) s t) ∧
  (∀ (s : State) (cause : Nat),
      s.startOk cause = true →
      s.mfg.arrayOk = false →
      ∃ t, exec (.startUp cause []) s = .next t ∧ t.boot.halted = true ∧ t.reg K.bootState = 2 ∧ t.reg K.bootFailStep =
        2 ∧
        t.ctl.serving = false ∧ Changes [.tick, .freeN, .blobs, .ctl, .belt, .supplies, .intake, .pipe, .engine,
          .tracks, .eject, .field, .memory, .knots, .host, .net, .faults, .power, .perf, .boot, .out] (.all) s t) ∧
  (∀ (s : State),
      s.supplies.inReset = false →
      s.boot.halted = false →
      s.boot.ready = false →
      s.boot.step = 8 →
      s.faults.lateFull = false →
      ∃ t, exec .readiness s = .next t ∧ t.boot.ready = true ∧ t.boot.step = 9 ∧ t.ctl.serving = true ∧
        t.reg K.bootState = 1 ∧ t.reg K.lastStartUpTime = min (2 ^ 32 - 1) ((s.tick - s.boot.startAt) * 4 / 1000000) ∧
        t.belt = s.belt ∧ t.engine = s.engine ∧ Changes [.freeN, .ctl, .field, .host, .faults, .perf, .boot, .out]
          (.only [0x1205, K.aliveState, K.recordsUnrouted, K.bootState, K.lastStartUpTime]) s t) ∧
  (∀ (s : State) (sess n : Nat),
      s.gate sess K.blobUploadBegin = none →
      4792 ≤ n →
      n ≤ 1048576 →
      s.boot.upload = none →
      ∃ t, exec (.blobUploadBegin sess n) s = .next t ∧
        t.boot = { s.boot with upload := some { slot := s.reg K.blobUploadSlot, length := n } } ∧
        t.reg K.blobUploadOffset = 0 ∧ t.cmdRead K.blobUploadBegin = Status.ok ∧ Changes [.ctl, .boot, .out] (.only
          [K.blobUploadOffset]) s t) ∧
  (∀ (s : State) (sess : Nat) (d : List Byte) (u : BlobUpload),
      s.gate sess K.blobUploadData = none →
      d ≠ [] →
      d.length ≤ 65536 →
      s.boot.upload = some u →
      s.reg K.blobUploadOffset + d.length ≤ u.length →
      ∃ t, exec (.blobUploadData sess d) s = .next t ∧
        t.boot.upload = some { u with
          data := layBytes u.data (s.reg K.blobUploadOffset) d
          spans := addSpan u.spans (s.reg K.blobUploadOffset) (s.reg K.blobUploadOffset + d.length) } ∧
        t.reg K.blobUploadOffset = s.reg K.blobUploadOffset + d.length ∧ Changes [.boot, .out] (.only
          [K.blobUploadOffset]) s t) ∧
  (∀ (s : State) (sess n : Nat) (u : BlobUpload),
      s.gate sess K.blobUploadEnd = none →
      n < 16 →
      s.boot.upload = some u →
      u.slot = n →
      covers u.spans u.length = true →
      ∃ t, exec (.blobUploadEnd sess n) s = .next t ∧ t.boot.upload = none ∧
        (s.blobStatus u.data = none → t.blobSlot n = { s.blobSlot n with st := 3, status := 0, data := u.data } ∧
          t.cmdRead K.blobUploadEnd = Status.ok) ∧
        (∀ e, s.blobStatus u.data = some e → t.boot.slots = s.boot.slots ∧ t.cmdRead K.blobUploadEnd = e) ∧
        Changes [.ctl, .boot, .out] (.only []) s t) ∧
  (∀ (s : State) (sess n : Nat),
      s.gate sess K.blobSlotClear = none →
      n < 16 →
      ∃ t, exec (.blobSlotClear sess n) s = .next t ∧ t.blobSlot n = { s.blobSlot n with st := 0, status := 0, data :=
        [] } ∧
        (∀ m, m ≠ n → t.blobSlot m = s.blobSlot m) ∧ t.cmdRead K.blobSlotClear = Status.ok ∧ Changes [.ctl, .boot,
          .out] (.only []) s t) ∧
  (∀ (s : State) (sess : Nat),
      s.gate sess K.attestRequest = none →
      s.boot.ready = true →
      s.deviceKeyOk = true →
      ∃ t, exec (.attestRequest sess) s = .next t ∧
        t.boot = { s.boot with attest := some (s.blob K.attestNonce, s.pos, s.t64, s.tick) } ∧
        t.cmdRead K.attestRequest = Status.inProgress ∧ Changes [.ctl, .boot, .out] (.only []) s t) ∧
  (∀ (s : State) (nonce : List Byte) (pos time at0 : Nat),
      s.boot.attest = some (nonce, pos, time, at0) →
      ∃ t, exec .attestReportReady s = .next t ∧ t.boot = { s.boot with attest := none } ∧
        t.reg K.reportCounter = (s.reg K.reportCounter + 1) % 2 ^ 32 ∧ t.cmdRead K.attestRequest = Status.ok ∧
        (t.blob K.attestReport).take (t.reportBody nonce pos time).length = t.reportBody nonce pos time ∧ Changes
          [.blobs, .ctl, .boot] (.only [K.reportCounter]) s t)

/-- BDP over UDP (R69, R71 to R73). -/
def Obligations.BdpFramesAreAnswered : Prop :=
  (∀ (s : State) (d : Datagram),
      d.eth < 2 →
      d.dport = s.reg K.bdpUdpPort →
      s.ethOn d.eth = true →
      s.reg (K.ipv4Address d.eth) ≠ 0 →
      bitOf (s.reg K.bdpEnable) d.eth = true →
      d.payload.length ≤ 1472 →
      s.bdpAllows d.src = true →
      2 ≤ d.payload.length →
      beAt d.payload 0 2 = 0x4244 →
      s.power.trans = none →
      s.power.st ≠ .doze →
      (bdpItems d.payload 32).isSome = true →
      bdpOp d.payload = 1 →
      s.ctl.serving = true →
      s.faults.stalled = false →
      s.ctl.sessions.length < 8 →
      ∃ t, exec (.bdpOpen d) s = .next t ∧
        t.ctl = { s.ctl with
          nextSession := s.freeSession % 0xFFEF + 1
          sessions := s.ctl.sessions ++ [{ num := s.freeSession
                                           seq := 0
                                           kept := bdpReply d.payload s.freeSession 0 Status.ok 0 []
                                           last := s.tick }] } ∧
        t.out = s.out ++ [.bdp d.eth d.src d.sport (bdpReply d.payload s.freeSession 0 Status.ok 0 [])] ∧ Changes
          [.ctl, .perf, .out] (.only [0x1306]) s t) ∧
  (∀ (s : State) (d : Datagram),
      d.eth < 2 →
      d.dport = s.reg K.bdpUdpPort →
      s.ethOn d.eth = true →
      s.reg (K.ipv4Address d.eth) ≠ 0 →
      bitOf (s.reg K.bdpEnable) d.eth = true →
      d.payload.length ≤ 1472 →
      s.bdpAllows d.src = true →
      2 ≤ d.payload.length →
      beAt d.payload 0 2 = 0x4244 →
      s.power.trans = none →
      s.power.st ≠ .doze →
      (bdpItems d.payload 32).isSome = true →
      bdpOp d.payload = 1 →
      s.ctl.serving = true →
      s.faults.stalled = false →
      8 ≤ s.ctl.sessions.length →
      ∃ t, exec (.bdpOpen d) s = .next t ∧ t.ctl = s.ctl ∧ t.out = s.out ++ [.bdp d.eth d.src d.sport (bdpStatus
        d.payload Status.sessionsFull)] ∧ Changes [.perf, .out] (.only [0x1306]) s t) ∧
  (∀ (s : State) (d : Datagram) (x : Session) (i : BdpItem),
      d.eth < 2 →
      d.dport = s.reg K.bdpUdpPort →
      s.ethOn d.eth = true →
      s.reg (K.ipv4Address d.eth) ≠ 0 →
      bitOf (s.reg K.bdpEnable) d.eth = true →
      d.payload.length ≤ 1472 →
      s.bdpAllows d.src = true →
      2 ≤ d.payload.length →
      beAt d.payload 0 2 = 0x4244 →
      s.power.trans = none →
      s.power.st ≠ .doze →
      (bdpItems d.payload 32).isSome = true →
      bdpOp d.payload = 3 →
      s.ctl.sessions = [x] →
      x.num = bdpSession d.payload →
      bdpSeq d.payload = (x.seq + 1) % 65536 →
      x.num ≠ 0 →
      bdpItems d.payload 32 = some [i] →
      i.idx = 0x0120 →
      i.sub = 3 →
      i.flags = 0 →
      i.off = 0 →
      i.len = 4 →
      s.ctl.serving = true →
      s.faults.stalled = false →
      ∃ t r, exec (.bdpRead d) s = .next t ∧
        r = bdpReply d.payload x.num (bdpSeq d.payload) Status.ok 1 (i.reply Status.ok (leBytes 4 (s.reg
          K.bdpSessionTimeout))) ∧
        t.ctl = { s.ctl with sessions := [{ x with seq := bdpSeq d.payload, kept := r, last := s.tick }] } ∧
        t.out = s.out ++ [.bdp d.eth d.src d.sport (r)] ∧ Changes [.ctl, .perf, .out] (.only [0x1306]) s t) ∧
  (∀ (s : State) (d : Datagram) (x : Session) (i : BdpItem),
      d.eth < 2 →
      d.dport = s.reg K.bdpUdpPort →
      s.ethOn d.eth = true →
      s.reg (K.ipv4Address d.eth) ≠ 0 →
      bitOf (s.reg K.bdpEnable) d.eth = true →
      d.payload.length ≤ 1472 →
      s.bdpAllows d.src = true →
      2 ≤ d.payload.length →
      beAt d.payload 0 2 = 0x4244 →
      s.power.trans = none →
      s.power.st ≠ .doze →
      (bdpItems d.payload 32).isSome = true →
      bdpOp d.payload = 4 →
      s.ctl.sessions = [x] →
      x.num = bdpSession d.payload →
      bdpSeq d.payload = (x.seq + 1) % 65536 →
      x.num ≠ 0 →
      bdpItems d.payload 32 = some [i] →
      i.idx = 0x0120 →
      i.sub = 3 →
      i.off = 0 →
      i.value.length = 4 →
      500 ≤ leNat i.value →
      leNat i.value ≤ 600000 →
      s.ctl.serving = true →
      s.faults.stalled = false →
      s.ctl.owner = 0 →
      s.ctl.phase = .idle →
      ∃ t r, exec (.bdpWrite d) s = .next t ∧
        r = bdpReply d.payload x.num (bdpSeq d.payload) Status.ok 1 (i.reply Status.ok []) ∧
        SMap.find? t.ctl.staged K.bdpSessionTimeout = some (leNat i.value) ∧ t.ctl.owner = x.num ∧
        t.ctl.sessions = [{ x with seq := bdpSeq d.payload, kept := r, last := s.tick }] ∧
        t.reg K.bdpSessionTimeout = s.reg K.bdpSessionTimeout ∧ t.out = s.out ++ [.bdp d.eth d.src d.sport (r)] ∧
          Changes [.ctl, .perf, .out] (.only [0x1306]) s t) ∧
  (∀ (s : State) (d : Datagram) (x : Session),
      d.eth < 2 →
      d.dport = s.reg K.bdpUdpPort →
      s.ethOn d.eth = true →
      s.reg (K.ipv4Address d.eth) ≠ 0 →
      bitOf (s.reg K.bdpEnable) d.eth = true →
      d.payload.length ≤ 1472 →
      s.bdpAllows d.src = true →
      2 ≤ d.payload.length →
      beAt d.payload 0 2 = 0x4244 →
      s.power.trans = none →
      s.power.st ≠ .doze →
      (bdpItems d.payload 32).isSome = true →
      bdpOp d.payload = 5 →
      s.ctl.sessions = [x] →
      x.num = bdpSession d.payload →
      bdpSeq d.payload = (x.seq + 1) % 65536 →
      x.num ≠ 0 →
      ∃ t r, exec (.bdpKeepalive d) s = .next t ∧ r = bdpReply d.payload x.num (bdpSeq d.payload) Status.ok 0 [] ∧
        t.ctl = { s.ctl with sessions := [{ x with seq := bdpSeq d.payload, kept := r, last := s.tick }] } ∧
        t.out = s.out ++ [.bdp d.eth d.src d.sport (r)] ∧ Changes [.ctl, .perf, .out] (.only [0x1306]) s t) ∧
  (∀ (s : State) (d : Datagram) (x : Session),
      d.eth < 2 →
      d.dport = s.reg K.bdpUdpPort →
      s.ethOn d.eth = true →
      s.reg (K.ipv4Address d.eth) ≠ 0 →
      bitOf (s.reg K.bdpEnable) d.eth = true →
      d.payload.length ≤ 1472 →
      s.bdpAllows d.src = true →
      2 ≤ d.payload.length →
      beAt d.payload 0 2 = 0x4244 →
      s.power.trans = none →
      (bdpItems d.payload 32).isSome = true →
      bdpOp d.payload = 5 →
      s.ctl.sessions = [x] →
      x.num = bdpSession d.payload →
      bdpSeq d.payload = (x.seq + 1) % 65536 →
      x.num ≠ 0 →
      s.power.st = .doze →
      bitOf (s.reg K.wakeSources) 1 = true →
      ∃ t r, exec (.bdpKeepalive d) s = .next t ∧ r = bdpReply d.payload x.num (bdpSeq d.payload) Status.ok 0 [] ∧
        t.power.trans = some { target := if s.flag K.autoReady then .ready else .run, cause := 3, start := s.tick } ∧
        t.reg K.lastWakeCause = 1 ∧ t.out = s.out ++ [.bdp d.eth d.src d.sport (r)] ∧ Changes [.freeN, .blobs, .ctl,
          .belt, .supplies, .intake, .pipe, .engine, .tracks, .eject, .field, .memory, .knots, .host, .net, .faults,
          .power, .perf, .boot, .out] (.all) s t) ∧
  (∀ (s : State) (d : Datagram) (x : Session),
      d.eth < 2 →
      d.dport = s.reg K.bdpUdpPort →
      s.ethOn d.eth = true →
      s.reg (K.ipv4Address d.eth) ≠ 0 →
      bitOf (s.reg K.bdpEnable) d.eth = true →
      d.payload.length ≤ 1472 →
      s.bdpAllows d.src = true →
      2 ≤ d.payload.length →
      beAt d.payload 0 2 = 0x4244 →
      s.power.trans = none →
      s.power.st ≠ .doze →
      (bdpItems d.payload 32).isSome = true →
      bdpOp d.payload = 2 →
      s.ctl.sessions = [x] →
      x.num = bdpSession d.payload →
      bdpSeq d.payload = (x.seq + 1) % 65536 →
      x.num ≠ 0 →
      s.ctl.owner = x.num →
      ∃ t, exec (.bdpClose d) s = .next t ∧ t.ctl.sessions = [] ∧ t.ctl.staged = [] ∧ t.ctl.stagedBlobs = [] ∧
        t.ctl.owner = 0 ∧ t.out = s.out ++ [.bdp d.eth d.src d.sport (bdpStatus d.payload Status.ok)] ∧ Changes [.ctl,
          .perf, .out] (.only [0x1306]) s t) ∧
  (∀ (s : State) (d : Datagram) (x : Session),
      d.eth < 2 →
      d.dport = s.reg K.bdpUdpPort →
      s.ethOn d.eth = true →
      s.reg (K.ipv4Address d.eth) ≠ 0 →
      bitOf (s.reg K.bdpEnable) d.eth = true →
      d.payload.length ≤ 1472 →
      s.bdpAllows d.src = true →
      2 ≤ d.payload.length →
      beAt d.payload 0 2 = 0x4244 →
      s.power.trans = none →
      s.power.st ≠ .doze →
      (bdpItems d.payload 32).isSome = true →
      bdpOp d.payload = 4 →
      s.ctl.sessions = [x] →
      x.num = bdpSession d.payload →
      bdpSeq d.payload = x.seq →
      x.seq < 65536 →
      x.kept ≠ [] →
      ∃ t, exec (.bdpWrite d) s = .next t ∧ t.ctl = { s.ctl with sessions := [{ x with last := s.tick }] } ∧
        t.reg K.bdpRetransmissions = (s.reg K.bdpRetransmissions + 1) % 2 ^ 32 ∧ t.out = s.out ++ [.bdp d.eth d.src
          d.sport (x.kept)] ∧
        Changes [.ctl, .perf, .out] (.only [0x1306, K.bdpRetransmissions]) s t) ∧
  (∀ (s : State) (d : Datagram),
      d.eth < 2 →
      d.dport = s.reg K.bdpUdpPort →
      s.ethOn d.eth = true →
      s.reg (K.ipv4Address d.eth) ≠ 0 →
      bitOf (s.reg K.bdpEnable) d.eth = true →
      d.payload.length ≤ 1472 →
      s.bdpAllows d.src = true →
      2 ≤ d.payload.length →
      beAt d.payload 0 2 = 0x4244 →
      s.power.trans = none →
      s.power.st ≠ .doze →
      (bdpItems d.payload 32).isSome = true →
      bdpOp d.payload = 3 →
      s.ctl.sessions = [] →
      ∃ t, exec (.bdpRead d) s = .next t ∧ t.ctl = s.ctl ∧ t.out = s.out ++ [.bdp d.eth d.src d.sport (bdpStatus
        d.payload Status.sessionUnknown)] ∧ Changes [.perf, .out] (.only [0x1306]) s t) ∧
  (∀ (s : State) (d : Datagram),
      d.eth < 2 →
      d.dport = s.reg K.bdpUdpPort →
      s.ethOn d.eth = true →
      s.reg (K.ipv4Address d.eth) ≠ 0 →
      bitOf (s.reg K.bdpEnable) d.eth = true →
      d.payload.length ≤ 1472 →
      s.bdpAllows d.src = true →
      2 ≤ d.payload.length →
      beAt d.payload 0 2 = 0x4244 →
      s.power.trans = none →
      s.power.st ≠ .doze →
      (bdpItems d.payload 32).isSome = true →
      bdpOp d.payload = 0 ∨ 5 < bdpOp d.payload →
      ∃ t, exec (.bdpOpcodeUnknown d) s = .next t ∧ t.ctl = s.ctl ∧ t.out = s.out ++ [.bdp d.eth d.src d.sport
        (bdpStatus d.payload Status.opcodeUnknown)] ∧ Changes [.perf, .out] (.only [0x1306]) s t) ∧
  (∀ (s : State) (d : Datagram),
      d.eth < 2 →
      d.dport = s.reg K.bdpUdpPort →
      s.ethOn d.eth = true →
      s.reg (K.ipv4Address d.eth) ≠ 0 →
      bitOf (s.reg K.bdpEnable) d.eth = true →
      d.payload.length ≤ 1472 →
      s.bdpAllows d.src = true →
      2 ≤ d.payload.length →
      beAt d.payload 0 2 = 0x4244 →
      s.power.trans = none →
      s.power.st ≠ .doze →
      bdpItems d.payload 32 = none →
      ∃ t, exec (.bdpFrameMalformed d) s = .next t ∧ t.ctl = s.ctl ∧ t.out = s.out ++ [.bdp d.eth d.src d.sport
        (bdpStatus d.payload Status.frameFormat)] ∧ Changes [.perf, .out] (.only [0x1306]) s t) ∧
  (∀ (s : State) (d : Datagram),
      d.eth < 2 →
      d.dport = s.reg K.bdpUdpPort →
      s.ethOn d.eth = true →
      s.reg (K.ipv4Address d.eth) ≠ 0 →
      bitOf (s.reg K.bdpEnable) d.eth = true →
      s.bdpAllows d.src = false ∨ beAt d.payload 0 2 ≠ 0x4244 →
      ∃ t, exec (.bdpFrameMalformed d) s = .next t ∧ t.ctl = s.ctl ∧ t.out = s.out ∧
        t.reg K.bdpFramesDropped = (s.reg K.bdpFramesDropped + 1) % 2 ^ 32 ∧
        Changes [.perf] (.only [0x1306, K.bdpFramesDropped]) s t) ∧
  (∀ (s : State) (n : Nat) (x : Session),
      s.ctl.sessions = [x] →
      x.num = n →
      n ≠ 0 →
      x.last + s.reg K.bdpSessionTimeout * 250000 ≤ s.tick →
      s.ctl.owner = n →
      ∃ t, exec (.bdpSessionTimeout n) s = .next t ∧ t.ctl.sessions = [] ∧ t.ctl.staged = [] ∧ t.ctl.owner = 0 ∧
        Changes [.ctl] (.only []) s t)

/-- A dictionary write (R7, R61, R62, R479). -/
def Obligations.WritesAreCheckedInOrder : Prop :=
  (∀ (s : State) (sess idx sub n : Nat) (v : List Byte) (e : Entry),
      s.ctl.serving = true →
      s.faults.stalled = false →
      sub ≠ 0 →
      present s.mfg idx sub = true →
      findEntry idx sub = some e →
      e.acc = .rws →
      e.ty.size = some n →
      v.length = n →
      s.writeGate e sess (256 * idx + sub) = none →
      e.valueStatus (leNat v) = none →
      fixedSub (256 * idx + sub) = false →
      ∃ t, exec (.dictionaryWrite sess idx sub v) s = .next t ∧
        SMap.find? t.ctl.staged (256 * idx + sub) = some (leNat v) ∧ t.ctl.owner = sess ∧
        (∀ k, k ≠ 256 * idx + sub → SMap.find? t.ctl.staged k = SMap.find? s.ctl.staged k) ∧
        t.out = s.out ++ [.status sess (256 * idx + sub) Status.ok] ∧ Changes [.ctl, .out] (.only []) s t) ∧
  (∀ (s : State) (sess idx sub n : Nat) (v : List Byte) (e : Entry),
      s.ctl.serving = true →
      s.faults.stalled = false →
      sub ≠ 0 →
      present s.mfg idx sub = true →
      findEntry idx sub = some e →
      e.acc = .rw →
      e.ty.size = some n →
      v.length = n →
      s.writeGate e sess (256 * idx + sub) = none →
      e.valueStatus (leNat v) = none →
      fixedSub (256 * idx + sub) = false →
      idx ≠ 0x0F02 →
      ∃ t, exec (.dictionaryWrite sess idx sub v) s = .next t ∧ t.reg (256 * idx + sub) = leNat v ∧
        t.out = s.out ++ [.status sess (256 * idx + sub) Status.ok] ∧ Changes [.out] (.only [256 * idx + sub]) s t) ∧
  (∀ (s : State) (sess idx sub : Nat) (v : List Byte),
      s.ctl.serving = false ∨ s.faults.stalled = true →
      exec (.dictionaryWrite sess idx sub v) s = .next (s.answer sess (256 * idx + sub) Status.notReady)) ∧
  (∀ (s : State) (sess idx sub : Nat) (v : List Byte),
      s.ctl.serving = true →
      s.faults.stalled = false →
      sub ≠ 0 →
      present s.mfg idx sub = false →
      exec (.dictionaryWrite sess idx sub v) s = .next (s.answer sess (256 * idx + sub) Status.noEntry)) ∧
  (∀ (s : State) (sess idx sub : Nat) (v : List Byte) (e : Entry),
      s.ctl.serving = true →
      s.faults.stalled = false →
      sub ≠ 0 →
      present s.mfg idx sub = true →
      findEntry idx sub = some e →
      e.acc = .ro →
      exec (.dictionaryWrite sess idx sub v) s = .next (s.answer sess (256 * idx + sub) Status.readOnly)) ∧
  (∀ (s : State) (sess idx sub n : Nat) (v : List Byte) (e : Entry),
      s.ctl.serving = true →
      s.faults.stalled = false →
      sub ≠ 0 →
      present s.mfg idx sub = true →
      findEntry idx sub = some e →
      e.acc ≠ .ro →
      e.ty.size = some n →
      v.length ≠ n →
      exec (.dictionaryWrite sess idx sub v) s = .next (s.answer sess (256 * idx + sub) Status.lengthMismatch)) ∧
  (∀ (s : State) (sess idx sub n : Nat) (v : List Byte) (e : Entry),
      s.ctl.serving = true →
      s.faults.stalled = false →
      sub ≠ 0 →
      present s.mfg idx sub = true →
      findEntry idx sub = some e →
      e.acc ≠ .ro →
      e.ty.size = some n →
      v.length = n →
      e.expert = true →
      s.flag (expertKey idx) = false →
      exec (.dictionaryWrite sess idx sub v) s = .next (s.answer sess (256 * idx + sub) Status.expertLocked)) ∧
  (∀ (s : State) (sess idx sub n : Nat) (v : List Byte) (e : Entry),
      s.ctl.serving = true →
      s.faults.stalled = false →
      sub ≠ 0 →
      present s.mfg idx sub = true →
      findEntry idx sub = some e →
      e.acc = .rws →
      e.ty.size = some n →
      v.length = n →
      e.expert = false →
      s.ctl.owner ≠ 0 →
      s.ctl.owner ≠ sess →
      exec (.dictionaryWrite sess idx sub v) s = .next (s.answer sess (256 * idx + sub) Status.stageLocked)) ∧
  (∀ (s : State) (sess idx sub n : Nat) (v : List Byte) (e : Entry),
      s.ctl.serving = true →
      s.faults.stalled = false →
      sub ≠ 0 →
      present s.mfg idx sub = true →
      findEntry idx sub = some e →
      e.acc = .rws →
      e.ty.size = some n →
      v.length = n →
      e.expert = false →
      s.ctl.owner = 0 ∨ s.ctl.owner = sess →
      s.committing = true →
      exec (.dictionaryWrite sess idx sub v) s = .next (s.answer sess (256 * idx + sub) Status.commitBusy)) ∧
  (∀ (s : State) (sess idx sub n st : Nat) (v : List Byte) (e : Entry),
      s.ctl.serving = true →
      s.faults.stalled = false →
      sub ≠ 0 →
      present s.mfg idx sub = true →
      findEntry idx sub = some e →
      e.acc = .rws ∨ e.acc = .rw →
      e.ty.size = some n →
      v.length = n →
      s.writeGate e sess (256 * idx + sub) = none →
      e.valueStatus (leNat v) = some st →
      exec (.dictionaryWrite sess idx sub v) s = .next (s.answer sess (256 * idx + sub) st))

/-- Commits (R61 to R64). -/
def Obligations.CommitsApplyTogether : Prop :=
  (∀ (s : State) (sess : Nat),
      s.gate sess K.commitControl = none →
      s.power.st = .run ∨ s.power.st = .ready →
      s.ctl.phase = .idle →
      s.ctl.staged = [] →
      s.ctl.stagedBlobs = [] →
      ∃ t, exec (.commit sess) s = .next t ∧ t.cmdRead K.commitControl = Status.ok ∧ t.ctl.phase = .idle ∧
        t.ctl.staged = [] ∧ t.ctl.stagedBlobs = [] ∧ t.ctl.owner = s.ctl.owner ∧
        t.out = s.out ++ [.status sess K.commitControl Status.ok] ∧ Changes [.ctl, .out] (.only []) s t) ∧
  (∀ (s : State) (sess : Nat),
      s.gate sess K.commitControl = none →
      s.power.st = .run ∨ s.power.st = .ready →
      s.ctl.phase = .idle →
      s.ctl.staged ≠ [] ∨ s.ctl.stagedBlobs ≠ [] →
      ∃ t, exec (.commit sess) s = .next t ∧ t.cmdRead K.commitControl = Status.inProgress ∧
        t.ctl.phase = .checking false ∧ t.ctl.staged = s.ctl.staged ∧ t.ctl.stagedBlobs = s.ctl.stagedBlobs ∧
        t.ctl.owner = s.ctl.owner ∧ Changes [.freeN, .ctl, .power, .out] (.only []) s t) ∧
  (∀ (s : State) (sess : Nat),
      s.gate sess K.commitControl = none →
      s.power.st = .run ∨ s.power.st = .ready →
      s.ctl.phase = .idle →
      ∃ t, exec (.checkOnly sess) s = .next t ∧ t.cmdRead K.commitControl = Status.inProgress ∧
        t.ctl.phase = .checking true ∧ t.ctl.staged = s.ctl.staged ∧ t.ctl.stagedBlobs = s.ctl.stagedBlobs ∧
        t.ctl.owner = s.ctl.owner ∧ Changes [.freeN, .ctl, .power, .out] (.only []) s t) ∧
  (∀ (s : State) (sess : Nat),
      s.gate sess K.discard = none →
      ∃ t, exec (.discard sess) s = .next t ∧ t.ctl.staged = [] ∧ t.ctl.stagedBlobs = [] ∧ t.ctl.owner = 0 ∧
        t.ctl.phase = s.ctl.phase ∧ t.cmdRead K.discard = Status.ok ∧
        t.out = s.out ++ [.status sess K.discard Status.ok] ∧ Changes [.ctl, .out] (.only []) s t) ∧
  (∀ (s : State),
      s.ctl.phase = .checking true →
      ∃ t, exec .commitChecksEnd s = .next t ∧ t.ctl.phase = .idle ∧ t.ctl.staged = s.ctl.staged ∧
        t.ctl.stagedBlobs = s.ctl.stagedBlobs ∧ t.ctl.owner = s.ctl.owner ∧
        t.cmdRead K.commitControl = (s.commitFailures.head?.map Fail.status).getD Status.ok ∧
        t.reg K.lastCommitStatus = (s.commitFailures.head?.map Fail.status).getD Status.ok ∧
        t.reg K.conflictCount = min 65535 s.commitFailures.length ∧
        t.blob K.conflictLog = (s.commitFailures.take 8).flatMap Fail.bytes ∧
        (∀ k, k ≠ K.conflictLog → t.blob k = s.blob k) ∧ Changes [.ctl, .power, .blobs] (.only [K.lastCommitStatus,
          K.conflictCount]) s t) ∧
  (∀ (s : State) (f : Fail),
      s.ctl.phase = .checking false →
      s.ctl.staged ≠ [] ∨ s.ctl.stagedBlobs ≠ [] →
      s.commitFailures.head? = some f →
      f.status ≠ Status.ok →
      ∃ t, exec .commitChecksEnd s = .next t ∧ t.ctl.phase = .idle ∧ t.ctl.owner = 0 ∧ t.ctl.staged = s.ctl.staged ∧
        t.ctl.stagedBlobs = s.ctl.stagedBlobs ∧ t.cmdRead K.commitControl = f.status ∧
        t.reg K.lastCommitStatus = f.status ∧ t.reg K.conflictCount = min 65535 s.commitFailures.length ∧
        t.blob K.conflictLog = (s.commitFailures.take 8).flatMap Fail.bytes ∧
        (∀ k, k ≠ K.conflictLog → t.blob k = s.blob k) ∧ Changes [.ctl, .power, .blobs] (.only [K.lastCommitStatus,
          K.conflictCount]) s t) ∧
  (∀ (s : State),
      s.ctl.phase = .checking false →
      s.ctl.staged ≠ [] ∨ s.ctl.stagedBlobs ≠ [] →
      s.commitFailures = [] →
      s.commitWaits = true →
      ∃ t, exec .commitChecksEnd s = .next t ∧ t.ctl.phase = .waiting ∧ t.ctl.staged = s.ctl.staged ∧
        t.ctl.stagedBlobs = s.ctl.stagedBlobs ∧ t.ctl.owner = s.ctl.owner ∧
        t.cmdRead K.commitControl = s.cmdRead K.commitControl ∧ t.reg K.lastCommitStatus = Status.ok ∧
        t.reg K.conflictCount = 0 ∧ t.blob K.conflictLog = [] ∧
        (∀ k, k ≠ K.conflictLog → t.blob k = s.blob k) ∧ Changes [.ctl, .blobs] (.only [K.lastCommitStatus,
          K.conflictCount]) s t) ∧
  (∀ (s : State),
      s.ctl.phase = .checking false →
      s.ctl.staged ≠ [] ∨ s.ctl.stagedBlobs ≠ [] →
      s.commitFailures = [] →
      s.commitWaits = false →
      ∃ t, exec .commitChecksEnd s = .next t ∧ t.ctl.phase = .idle ∧ t.ctl.staged = [] ∧ t.ctl.stagedBlobs = [] ∧
        t.ctl.owner = 0 ∧
        t.cmdRead K.commitControl = Status.ok ∧
        t.reg K.configGeneration = (s.reg K.configGeneration + 1) % 2 ^ 32 ∧
        t.reg K.lastCommitPosition = s.pos ∧ (∃ late, late ≤ 5000 ∧
        t.reg K.lastCommitTime = s.t64At (s.localTime + late)) ∧
        (∀ idx sub e, findEntry idx sub = some e → e.acc = .rws → sub < 256 →
          t.reg (256 * idx + sub) = s.ctl.staged.foldl (fun v p => if p.1 = 256 * idx + sub then p.2 else v)
            (s.reg (256 * idx + sub))) ∧
        Changes [.freeN, .blobs, .ctl, .belt, .intake, .pipe, .engine, .tracks, .eject, .field, .memory, .knots, .host,
          .net, .faults, .power, .perf, .out] (.all) s t) ∧
  (∀ (s : State),
      s.ctl.phase = .waiting →
      s.ctl.staged ≠ [] ∨ s.ctl.stagedBlobs ≠ [] →
      s.formIbp.stripeDue = true →
      ∃ t, exec .commitInstant s = .next t ∧ t.ctl.phase = .idle ∧ t.ctl.staged = [] ∧ t.ctl.stagedBlobs = [] ∧
        t.ctl.owner = 0 ∧
        t.cmdRead K.commitControl = Status.ok ∧
        t.reg K.configGeneration = (s.reg K.configGeneration + 1) % 2 ^ 32 ∧
        t.reg K.lastCommitPosition = s.formIbp.pos ∧ t.reg K.lastCommitTime = s.formIbp.t64 ∧
        (∀ idx sub e, findEntry idx sub = some e → e.acc = .rws → sub < 256 →
          t.reg (256 * idx + sub) = s.ctl.staged.foldl (fun v p => if p.1 = 256 * idx + sub then p.2 else v)
            (s.reg (256 * idx + sub))) ∧
        Changes [.freeN, .blobs, .ctl, .belt, .intake, .pipe, .engine, .tracks, .eject, .field, .memory, .knots, .host,
          .net, .faults, .power, .perf, .out] (.all) s t) ∧
  (∀ (s : State),
      s.ctl.phase = .waiting →
      s.ctl.staged ≠ [] ∨ s.ctl.stagedBlobs ≠ [] →
      s.formIbp.stripeDue = false →
      exec .commitInstant s = .next s.formIbp) ∧
  (∀ (s : State),
      s.ctl.phase = .checking false →
      s.ctl.staged = [] →
      s.ctl.stagedBlobs = [] →
      ∃ t, exec .commitChecksEnd s = .next t ∧ t.ctl.phase = .idle ∧ t.cmdRead K.commitControl = Status.ok ∧
        Changes [.ctl, .power] (.only []) s t)

/-- What reset leaves: every entry at its default (R60), time at 0 (R392), start-up before step 2 (R457). Values that no rule states are the model's choice (log entries 5 and 6). -/
def Obligations.ResetState : Prop :=
  State.reset.pending = [] ∧ State.reset.tick = 0 ∧ State.reset.localTime = 0 ∧
    (∀ k, State.reset.reg k = defaultOf State.reset.mfg k) ∧ State.reset.regs = [] ∧ State.reset.blobs = [] ∧
    State.reset.ctl = { serving := false } ∧ State.reset.supplies = { inReset := true } ∧
    State.reset.boot = { step := 2, ready := false } ∧ State.reset.faults = {} ∧ State.reset.out = [] ∧
    State.reset.belt = {} ∧ State.reset.intake = {} ∧ State.reset.pipe = {} ∧ State.reset.engine = {} ∧
    State.reset.tracks = {} ∧ State.reset.eject = {} ∧ State.reset.field = {} ∧ State.reset.memory = {} ∧
    State.reset.knots = {} ∧ State.reset.host = {} ∧ State.reset.net = {} ∧ State.reset.power = {} ∧
    State.reset.perf = {} ∧ State.reset.mfg = {} ∧ State.reset.freeN = 0

/-- The invariant of InvariantKept holds at reset. -/
def Obligations.InvariantAtReset : Prop :=
  Inv State.reset

/-- The canonical form of the three tables and the well-formedness of the queue are kept by every step, and no command changes what manufacture wrote. -/
def Obligations.InvariantKept : Prop :=
  ∀ s t : State, Inv s → step s = .next t → Inv t ∧ t.mfg = s.mfg

/-- No command that names only units the assembly carries ends in a fault or a refusal, and each step takes one command from the queue. -/
def Obligations.WellFormedCommandsRun : Prop :=
  ∀ (s : State) (c : Instr), c.wf s.mfg.part = true →
    (∃ t, exec c s = .next t ∧ t.mfg = s.mfg ∧ t.pending = s.pending ∧ (s.canon → t.canon)) ∧
    (∃ u, step { s with pending := c :: s.pending } = .next u ∧ u.pending = s.pending)

/-- Commands that name an absent unit stop by name (the model's choice, log entry 4). The units are those of R1, R38, R39, R48 and R310. -/
def Obligations.AbsentUnitsStop : Prop :=
  (∀ (s : State) (n : Nat),
      s.mfg.part.links ≤ n →
      (exec (.softStartDone n) s = .fault (.absentUnit n)) ∧
        (∀ (x0 : Nat), exec (.loadSenseRetry n x0) s = .fault (.absentUnit n)) ∧
        (exec (.cameraBootTimeExpiry n) s = .fault (.absentUnit n)) ∧
        (exec (.wordLockGained n) s = .fault (.absentUnit n)) ∧
        (exec (.wordLockLost n) s = .fault (.absentUnit n)) ∧
        (exec (.retrainTimeout n) s = .fault (.absentUnit n)) ∧
        (exec (.rateLockTimeout n) s = .fault (.absentUnit n)) ∧
        (∀ (x0 : Nat), exec (.connectionTestEnd n x0) s = .fault (.absentUnit n)) ∧
        (∀ (x0 : CtlAck), exec (.controlAcknowledgment n x0) s = .fault (.absentUnit n)) ∧
        (exec (.controlAckTimeout n) s = .fault (.absentUnit n)) ∧
        (∀ (x0 : Nat), exec (.cameraPowerOverload n x0) s = .fault (.absentUnit n)) ∧
        (∀ (x0 : Nat), exec (.cameraPowerFastTrip n x0) s = .fault (.absentUnit n)) ∧
        (exec (.unsupportedPacket n) s = .fault (.absentUnit n)) ∧
        (∀ (x0 : Nat), exec (.linkTestPattern n x0) s = .fault (.absentUnit n))) ∧
  (∀ (s : State) (n : Nat),
      s.mfg.part.memDies ≤ n / 16 →
      (∀ (x0 : Nat) (x1 : Nat), exec (.linkSlotStart n x0 x1) s = .fault (.absentUnit n)) ∧
        (∀ (x0 : DownFrame), exec (.memoryRead n x0) s = .fault (.absentUnit n)) ∧
        (∀ (x0 : DownFrame), exec (.memoryWrite n x0) s = .fault (.absentUnit n)) ∧
        (∀ (x0 : DownFrame), exec (.refresh n x0) s = .fault (.absentUnit n)) ∧
        (∀ (x0 : DownFrame), exec (.scrub n x0) s = .fault (.absentUnit n)) ∧
        (∀ (x0 : Nat), exec (.recal n x0) s = .fault (.absentUnit n)) ∧
        (∀ (x0 : DownFrame), exec (.nop n x0) s = .fault (.absentUnit n)) ∧
        (∀ (x0 : DownFrame), exec (.replay n x0) s = .fault (.absentUnit n)) ∧
        (∀ (x0 : UpFrame), exec (.upstreamFrameLanded n x0) s = .fault (.absentUnit n)) ∧
        (∀ (x0 : UpFrame), exec (.nakResend n x0) s = .fault (.absentUnit n)) ∧
        (∀ (x0 : Nat), exec (.recalOverdue n x0) s = .fault (.absentUnit n)) ∧
        (∀ (x0 : Nat) (x1 : Bool) (x2 : Nat) (x3 : List Byte), exec (.externalTransfer n x0 x1 x2 x3) s = .fault
          (.absentUnit n)) ∧
        (∀ (x0 : DownFrame), exec (.downstreamCrcFailure n x0) s = .fault (.absentUnit n))) ∧
  (∀ (s : State) (n : Nat),
      4 ≤ n →
      (exec (.tetherPortTrained n) s = .fault (.absentUnit n)) ∧
        (exec (.tetherRetransmit n) s = .fault (.absentUnit n)) ∧
        (exec (.tetherHeartbeatSend n) s = .fault (.absentUnit n)) ∧
        (∀ (x0 : TPacket), exec (.groupStop n x0) s = .fault (.absentUnit n)) ∧
        (∀ (x0 : Nat), exec (.tetherTestPattern n x0) s = .fault (.absentUnit n)) ∧
        (∀ (x0 : TPacket), exec (.operand n x0) s = .fault (.absentUnit n)) ∧
        (∀ (x0 : TPacket), exec (.tetherWrite n x0) s = .fault (.absentUnit n)) ∧
        (∀ (x0 : TPacket), exec (.readReq n x0) s = .fault (.absentUnit n)) ∧
        (∀ (x0 : TPacket), exec (.readComp n x0) s = .fault (.absentUnit n)) ∧
        (∀ (x0 : TPacket), exec (.knotOp n x0) s = .fault (.absentUnit n)) ∧
        (∀ (x0 : TPacket), exec (.knotReply n x0) s = .fault (.absentUnit n)) ∧
        (∀ (x0 : TPacket), exec (.errorComp n x0) s = .fault (.absentUnit n)) ∧
        (∀ (x0 : TPacket), exec (.tetherHeartbeat n x0) s = .fault (.absentUnit n)) ∧
        (∀ (x0 : TPacket) (x1 : HelloPath), exec (.hello n x0 x1) s = .fault (.absentUnit n)) ∧
        (∀ (x0 : TPacket), exec (.ack n x0) s = .fault (.absentUnit n)) ∧
        (∀ (x0 : TPacket), exec (.tetherPacketDiscarded n x0) s = .fault (.absentUnit n))) ∧
  (∀ (s : State) (n : Nat),
      4 ≤ n →
      (∀ (x0 : VlFrame), exec (.edgeStamp n x0) s = .fault (.absentUnit n)) ∧
        (∀ (x0 : VlFrame), exec (.driverFault n x0) s = .fault (.absentUnit n))) ∧
  (∀ (s : State) (n : Nat),
      2 ≤ n →
      (exec (.tunnelUp n) s = .fault (.absentUnit n)) ∧
        (exec (.tunnelLost n) s = .fault (.absentUnit n)) ∧
        (exec (.tunnelHoldExpiry n) s = .fault (.absentUnit n)) ∧
        (exec (.functionLevelReset n) s = .fault (.absentUnit n)) ∧
        (∀ (x0 : Bool) (x1 : Nat), exec (.usb4LinkChange n x0 x1) s = .fault (.absentUnit n)) ∧
        (∀ (x0 : Nat) (x1 : Nat), exec (.hwinRegisterWrite n x0 x1) s = .fault (.absentUnit n)) ∧
        (∀ (x0 : Nat), exec (.hwinErrorClear n x0) s = .fault (.absentUnit n)) ∧
        (exec (.ringEnable n) s = .fault (.absentUnit n)) ∧
        (exec (.ringDisable n) s = .fault (.absentUnit n)) ∧
        (∀ (x0 : Nat), exec (.hwinRingDoorbell n x0) s = .fault (.absentUnit n)) ∧
        (exec (.evqEnable n) s = .fault (.absentUnit n)) ∧
        (exec (.evqDisable n) s = .fault (.absentUnit n)) ∧
        (∀ (x0 : Nat), exec (.hwinEvqHead n x0) s = .fault (.absentUnit n)) ∧
        (∀ (x0 : Nat), exec (.hwinImgRelease n x0) s = .fault (.absentUnit n)) ∧
        (∀ (x0 : Nat), exec (.hwinMbxDoorbell n x0) s = .fault (.absentUnit n)) ∧
        (∀ (x0 : Nat), exec (.hwinPortAdopt n x0) s = .fault (.absentUnit n))) ∧
  (∀ (s : State) (n : Nat),
      2 ≤ n →
      (∀ (x0 : Bool) (x1 : Nat), exec (.portLinkChange n x0 x1) s = .fault (.absentUnit n)) ∧
        (∀ (x0 : Nat), exec (.arpCacheExpiry n x0) s = .fault (.absentUnit n)) ∧
        (exec (.pdelayReqSend n) s = .fault (.absentUnit n)) ∧
        (∀ (x0 : Nat) (x1 : Nat) (x2 : Nat), exec (.arpRequest n x0 x1 x2) s = .fault (.absentUnit n)) ∧
        (∀ (x0 : ArpHost) (x1 : Nat), exec (.arpReply n x0 x1) s = .fault (.absentUnit n)) ∧
        (∀ (x0 : Nat) (x1 : Nat) (x2 : List Byte), exec (.icmpEchoRequest n x0 x1 x2) s = .fault (.absentUnit n)) ∧
        (exec (.ethernetFrameDropped n) s = .fault (.absentUnit n)) ∧
        (∀ (x0 : Announce), exec (.announce n x0) s = .fault (.absentUnit n)) ∧
        (exec (.ptpMessageIgnored n) s = .fault (.absentUnit n))) ∧
  (∀ (s : State) (n : Nat),
      2 ≤ n →
      (∀ (x0 : Datagram), x0.eth = n → exec (.bdpOpen x0) s = .fault (.absentUnit n)) ∧
        (∀ (x0 : Datagram), x0.eth = n → exec (.bdpClose x0) s = .fault (.absentUnit n)) ∧
        (∀ (x0 : Datagram), x0.eth = n → exec (.bdpRead x0) s = .fault (.absentUnit n)) ∧
        (∀ (x0 : Datagram), x0.eth = n → exec (.bdpWrite x0) s = .fault (.absentUnit n)) ∧
        (∀ (x0 : Datagram), x0.eth = n → exec (.bdpKeepalive x0) s = .fault (.absentUnit n)) ∧
        (∀ (x0 : Datagram), x0.eth = n → exec (.bdpOpcodeUnknown x0) s = .fault (.absentUnit n)) ∧
        (∀ (x0 : Datagram), x0.eth = n → exec (.bdpFrameMalformed x0) s = .fault (.absentUnit n))) ∧
  (∀ (s : State) (n : Nat),
      2 ≤ n →
      (∀ (x0 : PtpMsg), x0.eth = n → exec (.sync x0) s = .fault (.absentUnit n)) ∧
        (∀ (x0 : PtpMsg), x0.eth = n → exec (.followUp x0) s = .fault (.absentUnit n)) ∧
        (∀ (x0 : PtpMsg), x0.eth = n → exec (.delayResp x0) s = .fault (.absentUnit n)) ∧
        (∀ (x0 : PtpMsg), x0.eth = n → exec (.pdelayReq x0) s = .fault (.absentUnit n)) ∧
        (∀ (x0 : PtpMsg), x0.eth = n → exec (.pdelayResp x0) s = .fault (.absentUnit n)) ∧
        (∀ (x0 : PtpMsg), x0.eth = n → exec (.pdelayRespFollowUp x0) s = .fault (.absentUnit n))) ∧
  (∀ (s : State) (n : Nat),
      16384 ≤ n →
      (exec (.fenceRelease n) s = .fault (.absentUnit n)) ∧
        (exec (.ringCommandComplete n) s = .fault (.absentUnit n)) ∧
        (∀ (x0 : List Byte), exec (.jpegDecode n x0) s = .fault (.absentUnit n)) ∧
        (exec (.ringNop n) s = .fault (.absentUnit n)) ∧
        (∀ (x0 : List Byte), exec (.copyToDevice n x0) s = .fault (.absentUnit n)) ∧
        (exec (.copyFromDevice n) s = .fault (.absentUnit n)) ∧
        (∀ (x0 : List Byte), exec (.planLoad n x0) s = .fault (.absentUnit n)) ∧
        (exec (.jobSubmit n) s = .fault (.absentUnit n)) ∧
        (exec (.knotAdd n) s = .fault (.absentUnit n)) ∧
        (exec (.knotSub n) s = .fault (.absentUnit n)) ∧
        (exec (.knotWait n) s = .fault (.absentUnit n)) ∧
        (exec (.knotRead n) s = .fault (.absentUnit n)) ∧
        (exec (.knotInit n) s = .fault (.absentUnit n)) ∧
        (exec (.fence n) s = .fault (.absentUnit n))) ∧
  (∀ (s : State) (n : Nat),
      64 ≤ n →
      (exec (.evqTimeThreshold n) s = .fault (.absentUnit n))) ∧
  (∀ (s : State) (n : Nat),
      16 ≤ n →
      (exec (.identificationRetry n) s = .fault (.absentUnit n)) ∧
        (exec (.triggerPacket n) s = .fault (.absentUnit n)) ∧
        (∀ (x0 : CamEvent), exec (.eventPacket n x0) s = .fault (.absentUnit n)) ∧
        (exec (.heartbeatTimeout n) s = .fault (.absentUnit n)) ∧
        (exec (.streamDisableDrainEnd n) s = .fault (.absentUnit n)) ∧
        (exec (.paramSetTakesForce n) s = .fault (.absentUnit n))) ∧
  (∀ (s : State) (i : Nat) (p : Packet),
      16 ≤ i ∨ s.mfg.part.links ≤ p.link →
      exec (.streamPacket i p) s = .fault (.absentUnit p.link)) ∧
  (∀ (s : State) (n : Nat),
      4 ≤ n →
      (∀ (x0 : Nat), exec (.fieldBankTrip n x0) s = .fault (.absentUnit n)) ∧
        (∀ (x0 : Int), exec (.fieldBankSupplyChange n x0) s = .fault (.absentUnit n))) ∧
  (∀ (s : State) (n : Nat),
      1152 ≤ n →
      (exec (.minOnTimeClose n) s = .fault (.absentUnit n)) ∧
        (exec (.maxOnTimeExpiry n) s = .fault (.absentUnit n)) ∧
        (exec (.splitReopen n) s = .fault (.absentUnit n))) ∧
  (∀ (s : State) (n : Nat),
      2 ≤ n →
      (∀ (x0 : Nat), exec (.encoderSupplyTrip n x0) s = .fault (.absentUnit n)) ∧
        (∀ (x0 : EncRead), exec (.auxSample n x0) s = .fault (.absentUnit n))) ∧
  (∀ (s : State) (n : Nat),
      16 ≤ n →
      (∀ (x0 : Nat) (x1 : Nat) (x2 : KernelObs), exec (.kernelStart n x0 x1 x2) s = .fault (.absentUnit n)) ∧
        (∀ (x0 : Nat) (x1 : Nat), exec (.kernelEnd n x0 x1) s = .fault (.absentUnit n)) ∧
        (∀ (x0 : Nat), exec (.stepStart n x0) s = .fault (.absentUnit n)) ∧
        (∀ (x0 : Nat), exec (.stepEnd n x0) s = .fault (.absentUnit n)) ∧
        (exec (.teardownEnd n) s = .fault (.absentUnit n))) ∧
  (∀ (s : State) (n : Nat),
      2 ≤ n →
      (∀ (x0 : Nat) (x1 : Nat), exec (.slotStart n x0 x1) s = .fault (.absentUnit n)) ∧
        (∀ (x0 : Nat), exec (.freezeLimit n x0) s = .fault (.absentUnit n)) ∧
        (∀ (x0 : Nat), exec (.checkpointLate n x0) s = .fault (.absentUnit n))) ∧
  (∀ (s : State) (n : Nat),
      2 ≤ n →
      (exec (.delayReqSend n) s = .fault (.absentUnit n)) ∧
        (exec (.syncLossTimeout n) s = .fault (.absentUnit n))) ∧
  (∀ (s : State) (n : Nat),
      32 ≤ n →
      (∀ (x0 : Bool), exec (.inputRawEdge n x0) s = .fault (.absentUnit n)) ∧
        (exec (.inputFilterExpiry n) s = .fault (.absentUnit n)) ∧
        (∀ (x0 : Bool), exec (.pulseWindowEnd n x0) s = .fault (.absentUnit n))) ∧
  (∀ (s : State) (n : Nat),
      128 ≤ n →
      (∀ (x0 : Bool), exec (.readbackEdge n x0) s = .fault (.absentUnit n)) ∧
        (exec (.outputReadbackCheck n) s = .fault (.absentUnit n)) ∧
        (exec (.currentLimitExpiry n) s = .fault (.absentUnit n)) ∧
        (exec (.externalVoltageDetect n) s = .fault (.absentUnit n)) ∧
        (exec (.externalVoltageClear n) s = .fault (.absentUnit n)) ∧
        (exec (.openLoadDetect n) s = .fault (.absentUnit n)) ∧
        (∀ (x0 : Nat) (x1 : Nat), exec (.generalOutputLevel x0 n x1) s = .fault (.absentUnit n))) ∧
  (∀ (s : State) (n : Nat),
      8 ≤ n →
      (exec (.memberLost n) s = .fault (.absentUnit n)) ∧
        (exec (.helloTimeout n) s = .fault (.absentUnit n))) ∧
  (∀ (s : State) (n : Nat),
      4 * s.mfg.part.ioDies ≤ n →
      (∀ (x0 : List Nat), exec (.pipelineStripeStart n x0) s = .fault (.absentUnit n))) ∧
  (∀ (s : State) (n : Nat),
      n = 0 ∨ 4 < n →
      (exec (.helperHalted n) s = .fault (.absentUnit n))) ∧
  (∀ (s : State) (n : Nat),
      n = 0 ∨ 2 + s.mfg.part.ioDies < n →
      (exec (.dieTransport n) s = .fault (.absentUnit n)))

/-- R379: the head of an event queue, the writes that are refused, and when the queue is full. `bits v 5 0` is the queue that a write names and `bits v 63 32` its value (R368). -/
def Obligations.QueueHeadsMove : Prop :=
  (∀ (s : State) (w v n : Nat),
      w < 2 →
      (s.port w).st = .up →
      s.usbOn = true →
      n = bits v 5 0 →
      (s.queue n).port = some w →
      ((s.queue n).written + 2 ^ 32 - bits v 63 32) % 2 ^ 32 ≤ ((s.queue n).written + 2 ^ 32 - (s.queue n).head) % 2 ^
        32 →
      ∃ t, exec (.hwinEvqHead w v) s = .next t ∧ (t.queue n).head = bits v 63 32 ∧
        (t.port w).errStatus = (s.port w).errStatus) ∧
  (∀ (s : State) (w v n : Nat),
      w < 2 →
      (s.port w).st = .up →
      s.usbOn = true →
      n = bits v 5 0 →
      (s.queue n).port = some w →
      ¬((s.queue n).written + 2 ^ 32 - bits v 63 32) % 2 ^ 32 ≤ ((s.queue n).written + 2 ^ 32 - (s.queue n).head) % 2 ^
        32 →
      ∃ t, exec (.hwinEvqHead w v) s = .next t ∧ t.queue n = s.queue n ∧ (t.port w).errStatus = Status.valueRange) ∧
  (∀ (q : EvQueue),
      (q.full = true ↔ (q.written + 2 ^ 32 - q.head) % 2 ^ 32 = 2 ^ bits q.config 4 0))

/-- R406: what every rule that raises a fault shares. A fault whose note answers no record issues none. -/
def Obligations.FaultRecordsAreLimited : Prop :=
  (∀ (s : State) (code : Nat) (scope : Scope) (src ctx detail : Nat),
      0x0100 ≤ code →
      code < 0x0B00 →
      logOnlyFaults.contains code = false →
      (if SMap.get 0 s.faults.rateSec code = s.localTime / 1000000000 then SMap.get 0 s.faults.rateCount code else 0) <
        1000 →
      (∃ r, (s.noteFault code scope src ctx detail).1 = some r ∧ r.typ = RType.fault ∧ r.payload = code + 65536 *
        detail) ∧
        SMap.get 0 (s.noteFault code scope src ctx detail).2.faults.rateSec code = s.localTime / 1000000000 ∧
        SMap.get 0 (s.noteFault code scope src ctx detail).2.faults.rateCount code =
          (if SMap.get 0 s.faults.rateSec code = s.localTime / 1000000000 then SMap.get 0 s.faults.rateCount code else
            0) + 1 ∧
        (s.noteFault code scope src ctx detail).2.reg K.faultRecordsSuppressed = s.reg K.faultRecordsSuppressed) ∧
  (∀ (s : State) (code : Nat) (scope : Scope) (src ctx detail : Nat),
      0x0100 ≤ code →
      code < 0x0B00 →
      logOnlyFaults.contains code = false →
      SMap.get 0 s.faults.rateSec code = s.localTime / 1000000000 →
      1000 ≤ SMap.get 0 s.faults.rateCount code →
      (s.noteFault code scope src ctx detail).1 = none ∧
        (s.noteFault code scope src ctx detail).2.reg K.faultRecordsSuppressed =
          (s.reg K.faultRecordsSuppressed + 1) % 2 ^ 32) ∧
  (∀ (s : State) (code : Nat) (scope : Scope) (src ctx detail : Nat),
      logOnlyFaults.contains code = true →
      (s.noteFault code scope src ctx detail).1 = none) ∧
  (∀ (s : State) (code : Nat) (scope : Scope) (src ctx detail : Nat),
      0x0100 ≤ code →
      code < 0x0B00 →
      (∃ e, (s.noteFault code scope src ctx detail).2.faults.log.getLast? = some e ∧ e.code = code ∧ e.src = src ∧
          e.ctx = ctx ∧ e.detail = detail) ∧
        (s.noteFault code scope src ctx detail).2.reg (K.faultCount (code / 256 - 1)) =
          (s.reg (K.faultCount (code / 256 - 1)) + 1) % 2 ^ 32) ∧
  (∀ (s : State) (code src detail : Nat) (scope : Scope) (ctx : Nat),
      0x0100 ≤ code →
      code < 0x0B00 →
      s.faults.recovery = none →
      (s.noteFault code scope src ctx detail).1 = none →
      s.report code src detail scope ctx = (s.noteFault code scope src ctx detail).2)
end

