-- ==== Sys2Proof/Laws/SMap.lean ====
section
/-! SUPPORT. Laws of the sparse tables: a read after a write, and that every write keeps the canonical form. -/

-- one theorem after another: see NOTES.md
set_option Elab.async false

namespace Sys2Proof.Machine.SMap

variable {α : Type}

theorem find?_erase_self (m : SMap α) (k : Nat) : find? (erase m k) k = none := by
  induction m with
  | nil => rfl
  | cons p r ih =>
    obtain ⟨a, v⟩ := p
    by_cases h : a = k
    · simpa [erase, h] using ih
    · have h' : ¬k = a := fun e => h e.symm
      simpa [erase, h, find?, h'] using ih

theorem find?_erase_ne (m : SMap α) {k j : Nat} (h : j ≠ k) : find? (erase m k) j = find? m j := by
  induction m with
  | nil => rfl
  | cons p r ih =>
    obtain ⟨a, v⟩ := p
    by_cases hk : a = k
    · subst hk
      simpa [erase, find?, h] using ih
    · by_cases hj : j = a
      · simp [erase, hk, find?, hj]
      · simpa [erase, hk, find?, hj] using ih

theorem find?_put (m : SMap α) (k j : Nat) (v : α) : find? (put m k v) j = if j = k then some v else find? m j := by
  induction m with
  | nil => simp [put, find?]
  | cons p r ih =>
    obtain ⟨a, w⟩ := p
    simp only [put]
    split
    · simp only [find?]
    · split
      · rename_i h1 h2
        subst h2
        simp only [find?]
        split <;> rfl
      · rename_i h1 h2
        simp only [find?, ih]
        split
        · rename_i h3
          have : j ≠ k := by omega
          simp [this]
        · rfl

/-- A read after a write. -/
theorem get_set [DecidableEq α] (d e : α) (m : SMap α) (k j : Nat) (v : α) :
    get e (set d m k v) j = if j = k then (if v = d then e else v) else get e m j := by
  unfold set get
  by_cases hv : v = d
  · rw [if_pos hv]
    by_cases hj : j = k
    · subst hj; simp [find?_erase_self, hv]
    · simp [find?_erase_ne _ hj, hj]
  · rw [if_neg hv, find?_put]
    by_cases hj : j = k
    · simp [hj, hv]
    · simp [find?_erase_ne _ hj, hj]

@[simp] theorem get_set_self [DecidableEq α] (d : α) (m : SMap α) (k : Nat) (v : α) : get d (set d m k v) k = v := by
  rw [get_set]; by_cases h : v = d <;> simp [h]

theorem get_set_ne [DecidableEq α] (d e : α) (m : SMap α) {k j : Nat} (v : α) (h : j ≠ k) :
    get e (set d m k v) j = get e m j := by
  rw [get_set, if_neg h]

/-- Every listed number lies above `k`. -/
def above (k : Nat) (m : SMap α) : Prop := ∀ p ∈ m, k < p.1

theorem sorted_cons (k : Nat) (v : α) (r : SMap α) : sorted ((k, v) :: r) = true ↔ above k r ∧ sorted r = true := by
  simp [sorted, above]

theorem above_erase {j : Nat} {m : SMap α} (k : Nat) (h : above j m) : above j (erase m k) :=
  fun p hp => h p ((List.mem_filter.1 hp).1)

theorem sorted_erase {m : SMap α} (k : Nat) (h : sorted m = true) : sorted (erase m k) = true := by
  induction m with
  | nil => rfl
  | cons p r ih =>
    obtain ⟨a, v⟩ := p
    rw [sorted_cons] at h
    by_cases ha : a = k
    · simpa [erase, ha] using ih h.2
    · have := ih h.2
      have h2 := above_erase k h.1
      have he : erase ((a, v) :: r) k = (a, v) :: erase r k := by simp [erase, ha]
      rw [he, sorted_cons]
      exact ⟨h2, this⟩

theorem above_put {j k : Nat} {m : SMap α} (v : α) (h : above j m) (hk : j < k) : above j (put m k v) := by
  induction m with
  | nil => intro p hp; simp [put] at hp; subst hp; exact hk
  | cons q r ih =>
    obtain ⟨a, w⟩ := q
    have ha : j < a := h (a, w) (by simp)
    have hr : above j r := fun p hp => h p (by simp [hp])
    simp only [put]
    split
    · intro p hp
      simp only [List.mem_cons] at hp
      rcases hp with rfl | rfl | hp
      · exact hk
      · exact ha
      · exact hr p hp
    · split
      · intro p hp
        simp only [List.mem_cons] at hp
        rcases hp with rfl | hp
        · exact hk
        · exact hr p hp
      · intro p hp
        simp only [List.mem_cons] at hp
        rcases hp with rfl | hp
        · exact ha
        · exact ih hr p hp

theorem sorted_put {m : SMap α} (k : Nat) (v : α) (h : sorted m = true) : sorted (put m k v) = true := by
  induction m with
  | nil => simp [put, sorted]
  | cons q r ih =>
    obtain ⟨a, w⟩ := q
    rw [sorted_cons] at h
    simp only [put]
    split
    · rename_i hk
      rw [sorted_cons, sorted_cons]
      refine ⟨fun p hp => ?_, h⟩
      simp only [List.mem_cons] at hp
      rcases hp with rfl | hp
      · exact hk
      · exact Nat.lt_trans hk (h.1 p hp)
    · split
      · rename_i hk
        subst hk
        rw [sorted_cons]; exact h
      · rw [sorted_cons]
        exact ⟨above_put v h.1 (by omega), ih h.2⟩

theorem mem_put {m : SMap α} {k : Nat} {v : α} {p : Nat × α} (h : p ∈ put m k v) : p = (k, v) ∨ p ∈ m := by
  induction m with
  | nil => simp [put] at h; exact .inl h
  | cons q r ih =>
    obtain ⟨a, w⟩ := q
    simp only [put] at h
    split at h
    · simpa using h
    · split at h
      · rcases List.mem_cons.1 h with rfl | h
        · exact .inl rfl
        · exact .inr (by simp [h])
      · rcases List.mem_cons.1 h with rfl | h
        · exact .inr (by simp)
        · rcases ih h with h | h
          · exact .inl h
          · exact .inr (by simp [h])

theorem wf_nil [DecidableEq α] (d : Nat → α) : wf d ([] : SMap α) = true := rfl

/-- A write keeps the canonical form. -/
theorem wf_set [DecidableEq α] {d : Nat → α} {m : SMap α} (k : Nat) (v : α) (h : wf d m = true) :
    wf d (set (d k) m k v) = true := by
  have herase : wf d (erase m k) = true := by
    simp only [wf, Bool.and_eq_true, List.all_eq_true] at h ⊢
    exact ⟨sorted_erase k h.1, fun p hp => h.2 p ((List.mem_filter.1 hp).1)⟩
  unfold set
  split
  · exact herase
  · rename_i hv
    simp only [wf, Bool.and_eq_true, List.all_eq_true] at herase ⊢
    refine ⟨sorted_put k v herase.1, fun p hp => ?_⟩
    rcases mem_put hp with rfl | hp
    · simpa using hv
    · exact herase.2 p hp

end Sys2Proof.Machine.SMap
end

