-- ==== Sys2Proof/Laws/Changes.lean ====
section
/-! SUPPORT. Laws of frames: how the changes of one operation compose with those of the next. -/

-- one theorem after another: see NOTES.md
set_option Elab.async false

namespace Sys2Proof.Machine

/-! ### Lists of areas and entries -/

/-- Every area of the one list stands in the other. -/
def Area.sub (A B : List Area) : Bool := A.all fun g => B.contains g

/-- What the one may change, the other may. -/
def Entries.le (A B : Entries) : Prop := ∀ k, B.has k = false → A.has k = false

/-- The same, where both lists are written out. -/
def Entries.sub : Entries → Entries → Bool
  | _, .all => true
  | .all, .only _ => false
  | .only l, .only l' => l.all fun i => l'.contains i || (decide (256 ≤ i / 256) && decide (i / 256 < 65536) &&
      l'.contains (i / 256))

theorem Entries.has_iff {l : List Nat} {k : Nat} :
    (Entries.only l).has k = true ↔ (k / 256 < 65536 ∧ k / 256 ∈ l) ∨ k ∈ l := by
  simp only [Entries.has, List.any_eq_true, Bool.or_eq_true, Bool.and_eq_true, decide_eq_true_eq, beq_iff_eq]
  constructor
  · rintro ⟨i, hi, ⟨h1, rfl⟩ | ⟨h1, h2⟩⟩
    · exact .inl ⟨h1, hi⟩
    · have : k = i := by omega
      exact .inr (this ▸ hi)
  · rintro (⟨h1, h2⟩ | h)
    · exact ⟨_, h2, .inl ⟨h1, rfl⟩⟩
    · exact ⟨_, h, .inr ⟨rfl, rfl⟩⟩

theorem Entries.le_only {l l' : List Nat} (h : ∀ i ∈ l, i ∈ l' ∨ (256 ≤ i / 256 ∧ i / 256 < 65536 ∧ i / 256 ∈ l')) :
    (Entries.only l).le (.only l') := by
  intro k hk
  rw [← Bool.not_eq_true, Entries.has_iff] at hk ⊢
  rintro (⟨hb, hm⟩ | hm)
  · rcases h _ hm with h | ⟨h0, _, _⟩
    · exact hk (.inl ⟨hb, h⟩)
    · omega
  · rcases h _ hm with h | ⟨_, h1, h2⟩
    · exact hk (.inr h)
    · exact hk (.inl ⟨h1, h2⟩)

theorem Entries.le_of_sub {A B : Entries} (h : A.sub B = true) : A.le B := by
  cases B with
  | all => intro k hk; cases hk
  | only l' =>
    cases A with
    | all => cases h
    | only l =>
      apply Entries.le_only
      simpa [Entries.sub, List.all_eq_true, and_assoc] using h

@[simp] theorem Entries.has_none (k : Nat) : (Entries.only []).has k = false := by simp [Entries.has]

theorem Entries.le_has {A B : Entries} (h : A.le B) {k : Nat} (hk : B.has k = false) : A.has k = false := h k hk

theorem Entries.le_trans {A B C : Entries} (h1 : A.le B) (h2 : B.le C) : A.le C := fun k hk => h1 k (h2 k hk)

theorem Area.sub_trans {A B C : List Area} (h1 : Area.sub A B = true) (h2 : Area.sub B C = true) :
    Area.sub A C = true := by
  simp only [Area.sub, List.all_eq_true] at *
  intro g hg
  have := h1 g hg
  exact h2 g (by simpa using this)

namespace Changes

variable {G G' : List Area} {E E' : Entries} {s t u : State}

theorem refl : Changes G E s s := by
  refine ⟨rfl, rfl, id, fun _ _ => rfl, fun g _ => ?_⟩
  cases g <;> rfl

/-- What two operations change, one after the other. -/
theorem trans (h1 : Changes G E s t) (h2 : Changes G E t u) : Changes G E s u := by
  refine ⟨h2.mfg.trans h1.mfg, h2.pending.trans h1.pending, fun h => h2.canon (h1.canon h),
    fun k hk => (h2.entries k hk).trans (h1.entries k hk), fun g hg => ?_⟩
  have a := h1.areas g hg
  have b := h2.areas g hg
  cases g <;> exact Eq.trans b a

/-- What changes less changes no more. -/
theorem mono (h : Changes G' E' s t) (hG : Area.sub G' G = true) (hE : E'.le E) : Changes G E s t := by
  refine ⟨h.mfg, h.pending, h.canon, fun k hk => h.entries k (Entries.le_has hE hk), fun g hg => h.areas g ?_⟩
  cases hc : G'.contains g with
  | false => rfl
  | true =>
    have := List.all_eq_true.1 hG g (by simpa using hc)
    rw [this] at hg
    cases hg

/-- An operation after others. -/
theorem andThen (h1 : Changes G E s t) (h2 : Changes G' E' t u) (hG : Area.sub G' G = true) (hE : E'.le E) :
    Changes G E s u :=
  h1.trans (h2.mono hG hE)

theorem ite {c : Prop} [Decidable c] (h1 : c → Changes G E s t) (h2 : ¬c → Changes G E s u) :
    Changes G E s (if c then t else u) := by
  split
  · exact h1 ‹_›
  · exact h2 ‹_›

/-- A loop whose every round changes no more than this. -/
theorem foldl {α : Type} {f : State → α → State} (l : List α) (h1 : Changes G E s t)
    (h : ∀ s x, Changes G E s (f s x)) : Changes G E s (l.foldl f t) := by
  induction l generalizing t with
  | nil => exact h1
  | cons x r ih => exact ih (h1.trans (h t x))

theorem foldl_fst {α β : Type} {f : State × β → α → State × β} (l : List α) {a : State × β}
    (h1 : Changes G E s a.1) (h : ∀ a x, Changes G E a.1 (f a x).1) : Changes G E s (l.foldl f a).1 := by
  induction l generalizing a with
  | nil => exact h1
  | cons x r ih => exact ih (h1.trans (h a x))

theorem foldl_snd {α β : Type} {f : β × State → α → β × State} (l : List α) {a : β × State}
    (h1 : Changes G E s a.2) (h : ∀ a x, Changes G E a.2 (f a x).2) : Changes G E s (l.foldl f a).2 := by
  induction l generalizing a with
  | nil => exact h1
  | cons x r ih => exact ih (h1.trans (h a x))

theorem ite_fst {β : Type} {c : Prop} [Decidable c] {p q : State × β} (h1 : c → Changes G E s p.1)
    (h2 : ¬c → Changes G E s q.1) : Changes G E s (if c then p else q).1 := by
  split
  · exact h1 ‹_›
  · exact h2 ‹_›

theorem ite_snd {β : Type} {c : Prop} [Decidable c] {p q : β × State} (h1 : c → Changes G E s p.2)
    (h2 : ¬c → Changes G E s q.2) : Changes G E s (if c then p else q).2 := by
  split
  · exact h1 ‹_›
  · exact h2 ‹_›

theorem ite_snd_snd {β γ : Type} {c : Prop} [Decidable c] {p q : β × γ × State} (h1 : c → Changes G E s p.2.2)
    (h2 : ¬c → Changes G E s q.2.2) : Changes G E s (if c then p else q).2.2 := by
  split
  · exact h1 ‹_›
  · exact h2 ‹_›

theorem of_snd {α : Type} {p : α × State} {a : α} (e : p = (a, t)) (h : Changes G E s p.2) : Changes G E s t := by
  subst e; exact h

/-- A record update after other operations: every area that it writes stands in the list. -/
theorem update (h : Changes G E s t) {tick freeN : Nat} {ctl : Ctl} {belt : Belt} {supplies : Supplies} {intake : Intake}
    {pipe : Pipe} {engine : Engine} {tracks : Tracks} {eject : Eject} {field : Field} {memory : Memory} {knots : Knots}
    {host : HostLink} {net : Net} {faults : FaultUnit} {power : Power} {perf : Perf} {boot : Boot} {out : List Output}
    (h1 : tick = t.tick ∨ G.contains .tick = true := by first | with_reducible exact .inl rfl | with_unfolding_all exact .inr rfl)
    (h2 : freeN = t.freeN ∨ G.contains .freeN = true := by first | with_reducible exact .inl rfl | with_unfolding_all exact .inr rfl)
    (h3 : ctl = t.ctl ∨ G.contains .ctl = true := by first | with_reducible exact .inl rfl | with_unfolding_all exact .inr rfl)
    (h4 : belt = t.belt ∨ G.contains .belt = true := by first | with_reducible exact .inl rfl | with_unfolding_all exact .inr rfl)
    (h5 : supplies = t.supplies ∨ G.contains .supplies = true := by first | with_reducible exact .inl rfl | with_unfolding_all exact .inr rfl)
    (h6 : intake = t.intake ∨ G.contains .intake = true := by first | with_reducible exact .inl rfl | with_unfolding_all exact .inr rfl)
    (h7 : pipe = t.pipe ∨ G.contains .pipe = true := by first | with_reducible exact .inl rfl | with_unfolding_all exact .inr rfl)
    (h8 : engine = t.engine ∨ G.contains .engine = true := by first | with_reducible exact .inl rfl | with_unfolding_all exact .inr rfl)
    (h9 : tracks = t.tracks ∨ G.contains .tracks = true := by first | with_reducible exact .inl rfl | with_unfolding_all exact .inr rfl)
    (h10 : eject = t.eject ∨ G.contains .eject = true := by first | with_reducible exact .inl rfl | with_unfolding_all exact .inr rfl)
    (h11 : field = t.field ∨ G.contains .field = true := by first | with_reducible exact .inl rfl | with_unfolding_all exact .inr rfl)
    (h12 : memory = t.memory ∨ G.contains .memory = true := by first | with_reducible exact .inl rfl | with_unfolding_all exact .inr rfl)
    (h13 : knots = t.knots ∨ G.contains .knots = true := by first | with_reducible exact .inl rfl | with_unfolding_all exact .inr rfl)
    (h14 : host = t.host ∨ G.contains .host = true := by first | with_reducible exact .inl rfl | with_unfolding_all exact .inr rfl)
    (h15 : net = t.net ∨ G.contains .net = true := by first | with_reducible exact .inl rfl | with_unfolding_all exact .inr rfl)
    (h16 : faults = t.faults ∨ G.contains .faults = true := by first | with_reducible exact .inl rfl | with_unfolding_all exact .inr rfl)
    (h17 : power = t.power ∨ G.contains .power = true := by first | with_reducible exact .inl rfl | with_unfolding_all exact .inr rfl)
    (h18 : perf = t.perf ∨ G.contains .perf = true := by first | with_reducible exact .inl rfl | with_unfolding_all exact .inr rfl)
    (h19 : boot = t.boot ∨ G.contains .boot = true := by first | with_reducible exact .inl rfl | with_unfolding_all exact .inr rfl)
    (h20 : out = t.out ∨ G.contains .out = true := by first | with_reducible exact .inl rfl | with_unfolding_all exact .inr rfl)
    (hm : memory.cells = t.memory.cells := by with_reducible rfl) :
    Changes G E s { pending := t.pending, tick, freeN, mfg := t.mfg, regs := t.regs, blobs := t.blobs, ctl, belt, supplies,
                    intake, pipe, engine, tracks, eject, field, memory, knots, host, net, faults, power, perf, boot,
                    out } := by
  refine h.trans ⟨rfl, rfl, ?_, fun _ _ => rfl, fun g hg => ?_⟩
  · intro hc
    refine ⟨hc.1, hc.2.1, ?_⟩
    show SMap.wf _ memory.cells = true
    rw [hm]
    exact hc.2.2
  · cases g <;> simp_all [Area.same]

/-- The same, for updates whose old value is dear to compare. -/
theorem updateIn (h : Changes G E s t) {tick freeN : Nat} {ctl : Ctl} {belt : Belt} {supplies : Supplies} {intake : Intake}
    {pipe : Pipe} {engine : Engine} {tracks : Tracks} {eject : Eject} {field : Field} {memory : Memory} {knots : Knots}
    {host : HostLink} {net : Net} {faults : FaultUnit} {power : Power} {perf : Perf} {boot : Boot} {out : List Output}
    (h1 : tick = t.tick ∨ G.contains .tick = true := by first | exact .inr rfl | with_reducible exact .inl rfl)
    (h2 : freeN = t.freeN ∨ G.contains .freeN = true := by first | exact .inr rfl | with_reducible exact .inl rfl)
    (h3 : ctl = t.ctl ∨ G.contains .ctl = true := by first | exact .inr rfl | with_reducible exact .inl rfl)
    (h4 : belt = t.belt ∨ G.contains .belt = true := by first | exact .inr rfl | with_reducible exact .inl rfl)
    (h5 : supplies = t.supplies ∨ G.contains .supplies = true := by first | exact .inr rfl | with_reducible exact .inl rfl)
    (h6 : intake = t.intake ∨ G.contains .intake = true := by first | exact .inr rfl | with_reducible exact .inl rfl)
    (h7 : pipe = t.pipe ∨ G.contains .pipe = true := by first | exact .inr rfl | with_reducible exact .inl rfl)
    (h8 : engine = t.engine ∨ G.contains .engine = true := by first | exact .inr rfl | with_reducible exact .inl rfl)
    (h9 : tracks = t.tracks ∨ G.contains .tracks = true := by first | exact .inr rfl | with_reducible exact .inl rfl)
    (h10 : eject = t.eject ∨ G.contains .eject = true := by first | exact .inr rfl | with_reducible exact .inl rfl)
    (h11 : field = t.field ∨ G.contains .field = true := by first | exact .inr rfl | with_reducible exact .inl rfl)
    (h12 : memory = t.memory ∨ G.contains .memory = true := by first | exact .inr rfl | with_reducible exact .inl rfl)
    (h13 : knots = t.knots ∨ G.contains .knots = true := by first | exact .inr rfl | with_reducible exact .inl rfl)
    (h14 : host = t.host ∨ G.contains .host = true := by first | exact .inr rfl | with_reducible exact .inl rfl)
    (h15 : net = t.net ∨ G.contains .net = true := by first | exact .inr rfl | with_reducible exact .inl rfl)
    (h16 : faults = t.faults ∨ G.contains .faults = true := by first | exact .inr rfl | with_reducible exact .inl rfl)
    (h17 : power = t.power ∨ G.contains .power = true := by first | exact .inr rfl | with_reducible exact .inl rfl)
    (h18 : perf = t.perf ∨ G.contains .perf = true := by first | exact .inr rfl | with_reducible exact .inl rfl)
    (h19 : boot = t.boot ∨ G.contains .boot = true := by first | exact .inr rfl | with_reducible exact .inl rfl)
    (h20 : out = t.out ∨ G.contains .out = true := by first | exact .inr rfl | with_reducible exact .inl rfl)
    (hm : memory.cells = t.memory.cells := by with_reducible rfl) :
    Changes G E s { pending := t.pending, tick, freeN, mfg := t.mfg, regs := t.regs, blobs := t.blobs, ctl, belt, supplies,
                    intake, pipe, engine, tracks, eject, field, memory, knots, host, net, faults, power, perf, boot,
                    out } :=
  update h h1 h2 h3 h4 h5 h6 h7 h8 h9 h10 h11 h12 h13 h14 h15 h16 h17 h18 h19 h20 hm

/-- A state that reads the same. -/
theorem eq (h : Changes G E s t) (e : u = t) : Changes G E s u := e ▸ h

end Changes

/-! ### The operations that write the tables -/

theorem State.setReg_reg (s : State) (k v j : Nat) : (s.setReg k v).reg j = if j = k then v else s.reg j := by
  unfold State.setReg State.reg
  by_cases h : j = k
  · subst h; simp
  · simp [SMap.get_set_ne _ _ _ _ h, h]

theorem State.setReg_changes (s : State) (k v : Nat) : Changes [] (.only [k]) s (s.setReg k v) := by
  refine ⟨rfl, rfl, fun h => ⟨SMap.wf_set k v h.1, h.2⟩, fun j hj => ?_, fun g _ => by cases g <;> rfl⟩
  rw [State.setReg_reg]
  split
  · rename_i e
    subst e
    simp [Entries.has] at hj
  · rfl

theorem State.setBlob_changes (s : State) (k : Nat) (v : List Byte) : Changes [.blobs] (.only []) s (s.setBlob k v) := by
  refine ⟨rfl, rfl, fun h => ⟨h.1, SMap.wf_set k v h.2.1, h.2.2⟩, fun _ _ => rfl, fun g hg => ?_⟩
  cases g <;> first | rfl | cases hg

theorem SMap.wf_foldl_set {α β : Type} [DecidableEq α] {d : Nat → α} (key : β → Nat) (val : β → α) (l : List β)
    {m : SMap α} (h : wf d m = true) : wf d (l.foldl (fun m x => set (d (key x)) m (key x) (val x)) m) = true := by
  induction l generalizing m with
  | nil => exact h
  | cons x r ih => exact ih (wf_set _ _ h)

theorem State.memWrite_changes (s : State) (die off : Nat) (d : List Byte) :
    Changes [.memory] (.only []) s (s.memWrite die off d) := by
  refine ⟨rfl, rfl, fun h => ⟨h.1, h.2.1, ?_⟩, fun _ _ => rfl, fun g hg => ?_⟩
  · exact SMap.wf_foldl_set (d := fun _ => (0 : Byte)) (fun x : Byte × Nat => die * 2 ^ 33 + off + x.2) (fun x => x.1) _ h.2.2
  · cases g <;> first | rfl | cases hg

theorem State.enterReset_changes (s : State) (code : Nat) :
    Changes [.blobs, .ctl, .belt, .supplies, .intake, .pipe, .engine, .tracks, .eject, .field, .memory, .knots, .host, .net,
      .faults, .power, .perf, .boot] .all s (s.enterReset code) := by
  refine ⟨rfl, rfl, fun _ => ⟨?_, rfl, rfl⟩, fun k hk => (by cases hk), fun g hg => ?_⟩
  · exact SMap.wf_foldl_set (d := defaultOf s.mfg) (fun k : Nat => k) (fun k => s.reg k) _ (SMap.wf_nil _)
  · cases g <;> first | rfl | cases hg

end Sys2Proof.Machine
end

