-- ==== Sys2Proof/Laws/Keys.lean ====
section
/-! SUPPORT. The index that each entry name stands for, whatever the place in the array (R5). -/

-- one theorem after another: see NOTES.md
set_option Elab.async false

namespace Sys2Proof.Machine.K

theorem index_eq (a x : Nat) : (256 * a + x % 256) / 256 = a := by omega

@[simp] theorem streamViewOffset_index (n : Nat) : streamViewOffset n / 256 = 0x0207 := index_eq 0x0207 (n + 1)
@[simp] theorem streamNextLine_index (n : Nat) : streamNextLine n / 256 = 0x0208 := index_eq 0x0208 (n + 1)
@[simp] theorem fieldBankTripCurrent_index (n : Nat) : fieldBankTripCurrent n / 256 = 0x0303 := index_eq 0x0303 (n + 1)
@[simp] theorem fieldBankState_index (n : Nat) : fieldBankState n / 256 = 0x0304 := index_eq 0x0304 (n + 1)
@[simp] theorem fieldBankTrips_index (n : Nat) : fieldBankTrips n / 256 = 0x0306 := index_eq 0x0306 (n + 1)
@[simp] theorem linkRateMax_index (n : Nat) : linkRateMax n / 256 = 0x0401 := index_eq 0x0401 (n + 1)
@[simp] theorem linkRateFallback_index (n : Nat) : linkRateFallback n / 256 = 0x0402 := index_eq 0x0402 (n + 1)
@[simp] theorem cameraPowerEnable_index (n : Nat) : cameraPowerEnable n / 256 = 0x0403 := index_eq 0x0403 (n + 1)
@[simp] theorem cameraPowerLimit_index (n : Nat) : cameraPowerLimit n / 256 = 0x0404 := index_eq 0x0404 (n + 1)
@[simp] theorem linkState_index (n : Nat) : linkState n / 256 = 0x0405 := index_eq 0x0405 (n + 1)
@[simp] theorem linkRate_index (n : Nat) : linkRate n / 256 = 0x0406 := index_eq 0x0406 (n + 1)
@[simp] theorem linkFailCause_index (n : Nat) : linkFailCause n / 256 = 0x0407 := index_eq 0x0407 (n + 1)
@[simp] theorem linkTest_index (n : Nat) : linkTest n / 256 = 0x0408 := index_eq 0x0408 (n + 1)
@[simp] theorem linkTestErrors_index (n : Nat) : linkTestErrors n / 256 = 0x0409 := index_eq 0x0409 (n + 1)
@[simp] theorem codeErrors_index (n : Nat) : codeErrors n / 256 = 0x040B := index_eq 0x040B (n + 1)
@[simp] theorem crcErrors_index (n : Nat) : crcErrors n / 256 = 0x040C := index_eq 0x040C (n + 1)
@[simp] theorem lockLosses_index (n : Nat) : lockLosses n / 256 = 0x040D := index_eq 0x040D (n + 1)
@[simp] theorem retrains_index (n : Nat) : retrains n / 256 = 0x040E := index_eq 0x040E (n + 1)
@[simp] theorem powerTrips_index (n : Nat) : powerTrips n / 256 = 0x040F := index_eq 0x040F (n + 1)
@[simp] theorem linkPowerDraw_index (n : Nat) : linkPowerDraw n / 256 = 0x0411 := index_eq 0x0411 (n + 1)
@[simp] theorem streamLinks_index (n : Nat) : streamLinks n / 256 = 0x0501 := index_eq 0x0501 (n + 1)
@[simp] theorem streamWidth_index (n : Nat) : streamWidth n / 256 = 0x0502 := index_eq 0x0502 (n + 1)
@[simp] theorem streamPixelFormat_index (n : Nat) : streamPixelFormat n / 256 = 0x0503 := index_eq 0x0503 (n + 1)
@[simp] theorem streamFrameLines_index (n : Nat) : streamFrameLines n / 256 = 0x0504 := index_eq 0x0504 (n + 1)
@[simp] theorem streamPacketSizeMax_index (n : Nat) : streamPacketSizeMax n / 256 = 0x0505 := index_eq 0x0505 (n + 1)
@[simp] theorem lineLagLimit_index (n : Nat) : lineLagLimit n / 256 = 0x0506 := index_eq 0x0506 (n + 1)
@[simp] theorem streamAcqStartAddress_index (n : Nat) : streamAcqStartAddress n / 256 = 0x0507 := index_eq 0x0507 (n + 1)
@[simp] theorem streamAcqStopAddress_index (n : Nat) : streamAcqStopAddress n / 256 = 0x0508 := index_eq 0x0508 (n + 1)
@[simp] theorem streamState_index (n : Nat) : streamState n / 256 = 0x0509 := index_eq 0x0509 (n + 1)
@[simp] theorem linesDelivered_index (n : Nat) : linesDelivered n / 256 = 0x050A := index_eq 0x050A (n + 1)
@[simp] theorem linesMissing_index (n : Nat) : linesMissing n / 256 = 0x050B := index_eq 0x050B (n + 1)
@[simp] theorem streamResyncs_index (n : Nat) : streamResyncs n / 256 = 0x050C := index_eq 0x050C (n + 1)
@[simp] theorem triggersUplinkBusy_index (n : Nat) : triggersUplinkBusy n / 256 = 0x050D := index_eq 0x050D (n + 1)
@[simp] theorem streamPixelRate_index (n : Nat) : streamPixelRate n / 256 = 0x050E := index_eq 0x050E (n + 1)
@[simp] theorem heartbeatTimeout_index (n : Nat) : heartbeatTimeout n / 256 = 0x0510 := index_eq 0x0510 (n + 1)
@[simp] theorem heartbeatMisses_index (n : Nat) : heartbeatMisses n / 256 = 0x0510 := index_eq 0x0510 (n + 17)
@[simp] theorem streamPipeline_index (n : Nat) : streamPipeline n / 256 = 0x0601 := index_eq 0x0601 (n + 1)
@[simp] theorem streamBufferFirst_index (n : Nat) : streamBufferFirst n / 256 = 0x0602 := index_eq 0x0602 (n + 1)
@[simp] theorem meshStep_index (n : Nat) : meshStep n / 256 = 0x0603 := index_eq 0x0603 (n + 1)
@[simp] theorem tileFirstColumn_index (n : Nat) : tileFirstColumn n / 256 = 0x0604 := index_eq 0x0604 (n + 1)
@[simp] theorem tileColumns_index (n : Nat) : tileColumns n / 256 = 0x0605 := index_eq 0x0605 (n + 1)
@[simp] theorem meshTable_index (n : Nat) : meshTable n / 256 = 0x0606 := index_eq 0x0606 (n + 1)
@[simp] theorem noiseReductionEnable_index (n : Nat) : noiseReductionEnable n / 256 = 0x0608 := index_eq 0x0608 (n + 1)
@[simp] theorem spatialThreshold_index (n : Nat) : spatialThreshold n / 256 = 0x0609 := index_eq 0x0609 (n + 1)
@[simp] theorem temporalStrength_index (n : Nat) : temporalStrength n / 256 = 0x060A := index_eq 0x060A (n + 1)
@[simp] theorem temporalThreshold_index (n : Nat) : temporalThreshold n / 256 = 0x060B := index_eq 0x060B (n + 1)
@[simp] theorem lineSubstitute_index (n : Nat) : lineSubstitute n / 256 = 0x060C := index_eq 0x060C (n + 1)
@[simp] theorem substituteValue_index (n : Nat) : substituteValue n / 256 = 0x060D := index_eq 0x060D (n + 1)
@[simp] theorem lateLines_index (n : Nat) : lateLines n / 256 = 0x060E := index_eq 0x060E (n + 1)
@[simp] theorem cameraSettingDelay_index (n : Nat) : cameraSettingDelay n / 256 = 0x060F := index_eq 0x060F (n + 1)
@[simp] theorem blackLevel_index (n : Nat) : blackLevel n / 256 = 0x0610 := index_eq 0x0610 (n + 1)
@[simp] theorem defectColumns_index (n : Nat) : defectColumns n / 256 = 0x0611 := index_eq 0x0611 (n + 1)
@[simp] theorem flatFieldGain0_index (n : Nat) : flatFieldGain0 n / 256 = 0x0612 := index_eq 0x0612 (n + 1)
@[simp] theorem flatFieldGain1_index (n : Nat) : flatFieldGain1 n / 256 = 0x0613 := index_eq 0x0613 (n + 1)
@[simp] theorem flatFieldGain2_index (n : Nat) : flatFieldGain2 n / 256 = 0x0614 := index_eq 0x0614 (n + 1)
@[simp] theorem activeParamSet_index (n : Nat) : activeParamSet n / 256 = 0x0615 := index_eq 0x0615 (n + 1)
@[simp] theorem paramSetOnWrite_index (n : Nat) : paramSetOnWrite n / 256 = 0x0616 := index_eq 0x0616 (n + 1)
@[simp] theorem pipelineServiceCycles_index (n : Nat) : pipelineServiceCycles n / 256 = 0x0618 := index_eq 0x0618 (n + 1)
@[simp] theorem linesSubstituted_index (n : Nat) : linesSubstituted n / 256 = 0x0619 := index_eq 0x0619 (n + 1)
@[simp] theorem linesLate_index (n : Nat) : linesLate n / 256 = 0x061A := index_eq 0x061A (n + 1)
@[simp] theorem linesCorrupt_index (n : Nat) : linesCorrupt n / 256 = 0x061B := index_eq 0x061B (n + 1)
@[simp] theorem paramSwitches_index (n : Nat) : paramSwitches n / 256 = 0x061C := index_eq 0x061C (n + 1)
@[simp] theorem arrayHealth_index (n : Nat) : arrayHealth n / 256 = 0x0801 := index_eq 0x0801 (n + 1)
@[simp] theorem spareState_index (n : Nat) : spareState n / 256 = 0x0802 := index_eq 0x0802 (n + 1)
@[simp] theorem healthyArrays_index (n : Nat) : healthyArrays n / 256 = 0x0803 := index_eq 0x0803 (n + 1)
@[simp] theorem freezeCycles_index (n : Nat) : freezeCycles n / 256 = 0x0804 := index_eq 0x0804 (n + 1)
@[simp] theorem freezeRuns_index (n : Nat) : freezeRuns n / 256 = 0x0804 := index_eq 0x0804 (n + 3)
@[simp] theorem checkMismatches_index (n : Nat) : checkMismatches n / 256 = 0x0805 := index_eq 0x0805 (n + 1)
@[simp] theorem accumulatorSaturations_index (n : Nat) : accumulatorSaturations n / 256 = 0x0805 := index_eq 0x0805 (n + 3)
@[simp] theorem substitutions_index (n : Nat) : substitutions n / 256 = 0x0808 := index_eq 0x0808 (n + 1)
@[simp] theorem arrayActivity_index (n : Nat) : arrayActivity n / 256 = 0x0809 := index_eq 0x0809 (n + 1)
@[simp] theorem scaleSkewFaults_index (n : Nat) : scaleSkewFaults n / 256 = 0x0820 := index_eq 0x0820 (n + 1)
@[simp] theorem lastSkewLayer_index (n : Nat) : lastSkewLayer n / 256 = 0x0820 := index_eq 0x0820 (n + 3)
@[simp] theorem clippedValues_index (n : Nat) : clippedValues n / 256 = 0x0821 := index_eq 0x0821 (n + 1)
@[simp] theorem nanCodes_index (n : Nat) : nanCodes n / 256 = 0x0821 := index_eq 0x0821 (n + 3)
@[simp] theorem wideReruns_index (n : Nat) : wideReruns n / 256 = 0x0822 := index_eq 0x0822 (n + 1)
@[simp] theorem rerunsMasked_index (n : Nat) : rerunsMasked n / 256 = 0x0822 := index_eq 0x0822 (n + 3)
@[simp] theorem flatChannels_index (n : Nat) : flatChannels n / 256 = 0x0823 := index_eq 0x0823 (n + 1)
@[simp] theorem maxClipShare_index (n : Nat) : maxClipShare n / 256 = 0x0825 := index_eq 0x0825 (n + 1)
@[simp] theorem lineBufferAllotted_index (n : Nat) : lineBufferAllotted n / 256 = 0x0840 := index_eq 0x0840 (n + 1)
@[simp] theorem maskedRows_index (n : Nat) : maskedRows n / 256 = 0x0841 := index_eq 0x0841 (n + 1)
@[simp] theorem paddedTapWords_index (n : Nat) : paddedTapWords n / 256 = 0x0842 := index_eq 0x0842 (n + 1)
@[simp] theorem lineBufferParityErrors_index (n : Nat) : lineBufferParityErrors n / 256 = 0x0843 := index_eq 0x0843 (n + 1)
@[simp] theorem streamStarts_index (n : Nat) : streamStarts n / 256 = 0x0844 := index_eq 0x0844 (n + 1)
@[simp] theorem vectorCheckMismatches_index (n : Nat) : vectorCheckMismatches n / 256 = 0x0860 := index_eq 0x0860 (n + 1)
@[simp] theorem softmaxNanRows_index (n : Nat) : softmaxNanRows n / 256 = 0x0861 := index_eq 0x0861 (n + 1)
@[simp] theorem vectorActivity_index (n : Nat) : vectorActivity n / 256 = 0x0863 := index_eq 0x0863 (n + 1)
@[simp] theorem planSlotState_index (n : Nat) : planSlotState n / 256 = 0x0901 := index_eq 0x0901 (n + 1)
@[simp] theorem planSlotDigest_index (n : Nat) : planSlotDigest n / 256 = 0x0902 := index_eq 0x0902 (n + 1)
@[simp] theorem contextPlanSlot_index (n : Nat) : contextPlanSlot n / 256 = 0x0910 := index_eq 0x0910 (n + 1)
@[simp] theorem contextPriority_index (n : Nat) : contextPriority n / 256 = 0x0911 := index_eq 0x0911 (n + 1)
@[simp] theorem contextState_index (n : Nat) : contextState n / 256 = 0x0912 := index_eq 0x0912 (n + 1)
@[simp] theorem contextOpenCycles_index (n : Nat) : contextOpenCycles n / 256 = 0x0913 := index_eq 0x0913 (n + 1)
@[simp] theorem contextStepsRun_index (n : Nat) : contextStepsRun n / 256 = 0x0914 := index_eq 0x0914 (n + 1)
@[simp] theorem classAction_index (n : Nat) : classAction n / 256 = 0x0A04 := index_eq 0x0A04 (n + 1)
@[simp] theorem classMinConfidence_index (n : Nat) : classMinConfidence n / 256 = 0x0A05 := index_eq 0x0A05 (n + 1)
@[simp] theorem valveOpenDelay_index (n : Nat) : valveOpenDelay n / 256 = 0x1101 := index_eq 0x1101 (n + 1)
@[simp] theorem valveCloseDelay_index (n : Nat) : valveCloseDelay n / 256 = 0x1102 := index_eq 0x1102 (n + 1)
@[simp] theorem valveMinOnTime_index (n : Nat) : valveMinOnTime n / 256 = 0x1103 := index_eq 0x1103 (n + 1)
@[simp] theorem valveMaxOnTime_index (n : Nat) : valveMaxOnTime n / 256 = 0x1104 := index_eq 0x1104 (n + 1)
@[simp] theorem valveMinOffTime_index (n : Nat) : valveMinOffTime n / 256 = 0x1105 := index_eq 0x1105 (n + 1)
@[simp] theorem directOnLatency_index (n : Nat) : directOnLatency n / 256 = 0x1107 := index_eq 0x1107 (n + 1)
@[simp] theorem directOffLatency_index (n : Nat) : directOffLatency n / 256 = 0x1108 := index_eq 0x1108 (n + 1)
@[simp] theorem inputMode_index (n : Nat) : inputMode n / 256 = 0x0E01 := index_eq 0x0E01 (n + 1)
@[simp] theorem inputFilter_index (n : Nat) : inputFilter n / 256 = 0x0E02 := index_eq 0x0E02 (n + 1)
@[simp] theorem inputEdgeEvents_index (n : Nat) : inputEdgeEvents n / 256 = 0x0E03 := index_eq 0x0E03 (n + 1)
@[simp] theorem inputEdgeCount_index (n : Nat) : inputEdgeCount n / 256 = 0x0E06 := index_eq 0x0E06 (n + 1)
@[simp] theorem fastCounterMode_index (n : Nat) : fastCounterMode n / 256 = 0x0E07 := index_eq 0x0E07 (n + 1)
@[simp] theorem fastCounterValue_index (n : Nat) : fastCounterValue n / 256 = 0x0E08 := index_eq 0x0E08 (n + 1)
@[simp] theorem fastCounterLatchInput_index (n : Nat) : fastCounterLatchInput n / 256 = 0x0E09 := index_eq 0x0E09 (n + 1)
@[simp] theorem fastCounterLatched_index (n : Nat) : fastCounterLatched n / 256 = 0x0E0A := index_eq 0x0E0A (n + 1)
@[simp] theorem fastCounterLatchPosition_index (n : Nat) : fastCounterLatchPosition n / 256 = 0x0E0B := index_eq 0x0E0B (n + 1)
@[simp] theorem fastCounterEdgeErrors_index (n : Nat) : fastCounterEdgeErrors n / 256 = 0x0E0C := index_eq 0x0E0C (n + 1)
@[simp] theorem inputRecordsSuppressed_index (n : Nat) : inputRecordsSuppressed n / 256 = 0x0E0E := index_eq 0x0E0E (n + 1)
@[simp] theorem generalOutputEnable_index (n : Nat) : generalOutputEnable n / 256 = 0x0F01 := index_eq 0x0F01 (n + 1)
@[simp] theorem generalOutputLevel_index (n : Nat) : generalOutputLevel n / 256 = 0x0F02 := index_eq 0x0F02 (n + 1)
@[simp] theorem outputState_index (n : Nat) : outputState n / 256 = 0x0F04 := index_eq 0x0F04 (n + 1)
@[simp] theorem openLoadDetect_index (n : Nat) : openLoadDetect n / 256 = 0x0F05 := index_eq 0x0F05 (n + 1)
@[simp] theorem outputFaults_index (n : Nat) : outputFaults n / 256 = 0x0F06 := index_eq 0x0F06 (n + 1)
@[simp] theorem outputReadback_index (n : Nat) : outputReadback n / 256 = 0x0F08 := index_eq 0x0F08 (n + 1)
@[simp] theorem valveLinkState_index (n : Nat) : valveLinkState n / 256 = 0x0F10 := index_eq 0x0F10 (n + 1)
@[simp] theorem valveLinkFailCause_index (n : Nat) : valveLinkFailCause n / 256 = 0x0F11 := index_eq 0x0F11 (n + 1)
@[simp] theorem driverIdent_index (n : Nat) : driverIdent n / 256 = 0x0F12 := index_eq 0x0F12 (n + 1)
@[simp] theorem cableDelay_index (n : Nat) : cableDelay n / 256 = 0x0F13 := index_eq 0x0F13 (n + 1)
@[simp] theorem armRequired_index (n : Nat) : armRequired n / 256 = 0x0F15 := index_eq 0x0F15 (n + 1)
@[simp] theorem valveLinkTest_index (n : Nat) : valveLinkTest n / 256 = 0x0F16 := index_eq 0x0F16 (n + 1)
@[simp] theorem valveLinkTestErrors_index (n : Nat) : valveLinkTestErrors n / 256 = 0x0F17 := index_eq 0x0F17 (n + 1)
@[simp] theorem valveLinkCodeErrors_index (n : Nat) : valveLinkCodeErrors n / 256 = 0x0F18 := index_eq 0x0F18 (n + 1)
@[simp] theorem valveLinkCrcErrors_index (n : Nat) : valveLinkCrcErrors n / 256 = 0x0F19 := index_eq 0x0F19 (n + 1)
@[simp] theorem driverLosses_index (n : Nat) : driverLosses n / 256 = 0x0F1A := index_eq 0x0F1A (n + 1)
@[simp] theorem armRetransmissions_index (n : Nat) : armRetransmissions n / 256 = 0x0F1B := index_eq 0x0F1B (n + 1)
@[simp] theorem unknownTagReports_index (n : Nat) : unknownTagReports n / 256 = 0x0F1C := index_eq 0x0F1C (n + 1)
@[simp] theorem strobesSent_index (n : Nat) : strobesSent n / 256 = 0x0F1D := index_eq 0x0F1D (n + 1)
@[simp] theorem encoderSupply_index (n : Nat) : encoderSupply n / 256 = 0x1001 := index_eq 0x1001 (n + 1)
@[simp] theorem encoderWordLength_index (n : Nat) : encoderWordLength n / 256 = 0x1002 := index_eq 0x1002 (n + 1)
@[simp] theorem encoderStatusBits_index (n : Nat) : encoderStatusBits n / 256 = 0x1003 := index_eq 0x1003 (n + 1)
@[simp] theorem encoderCoding_index (n : Nat) : encoderCoding n / 256 = 0x1004 := index_eq 0x1004 (n + 1)
@[simp] theorem encoderClockRate_index (n : Nat) : encoderClockRate n / 256 = 0x1005 := index_eq 0x1005 (n + 1)
@[simp] theorem encoderMonoflop_index (n : Nat) : encoderMonoflop n / 256 = 0x1006 := index_eq 0x1006 (n + 1)
@[simp] theorem encoderDataDelay_index (n : Nat) : encoderDataDelay n / 256 = 0x1007 := index_eq 0x1007 (n + 1)
@[simp] theorem encoderStatusMask_index (n : Nat) : encoderStatusMask n / 256 = 0x1008 := index_eq 0x1008 (n + 1)
@[simp] theorem encoderDoubleRead_index (n : Nat) : encoderDoubleRead n / 256 = 0x1009 := index_eq 0x1009 (n + 1)
@[simp] theorem auxEnable_index (n : Nat) : auxEnable n / 256 = 0x100A := index_eq 0x100A (n + 1)
@[simp] theorem auxSamplePeriod_index (n : Nat) : auxSamplePeriod n / 256 = 0x100B := index_eq 0x100B (n + 1)
@[simp] theorem auxSpeedWindow_index (n : Nat) : auxSpeedWindow n / 256 = 0x100C := index_eq 0x100C (n + 1)
@[simp] theorem auxPosition_index (n : Nat) : auxPosition n / 256 = 0x100D := index_eq 0x100D (n + 1)
@[simp] theorem auxSpeed_index (n : Nat) : auxSpeed n / 256 = 0x100E := index_eq 0x100E (n + 1)
@[simp] theorem encoderRawWord_index (n : Nat) : encoderRawWord n / 256 = 0x100F := index_eq 0x100F (n + 1)
@[simp] theorem encoderState_index (n : Nat) : encoderState n / 256 = 0x1010 := index_eq 0x1010 (n + 1)
@[simp] theorem wireDisagreements_index (n : Nat) : wireDisagreements n / 256 = 0x1011 := index_eq 0x1011 (n + 1)
@[simp] theorem framingErrors_index (n : Nat) : framingErrors n / 256 = 0x1012 := index_eq 0x1012 (n + 1)
@[simp] theorem statusRejects_index (n : Nat) : statusRejects n / 256 = 0x1013 := index_eq 0x1013 (n + 1)
@[simp] theorem encoderSupplyTrips_index (n : Nat) : encoderSupplyTrips n / 256 = 0x1014 := index_eq 0x1014 (n + 1)
@[simp] theorem memoryDieState_index (n : Nat) : memoryDieState n / 256 = 0x0B01 := index_eq 0x0B01 (n + 1)
@[simp] theorem linkStates_index (n : Nat) : linkStates n / 256 = 0x0B02 := index_eq 0x0B02 (n + 1)
@[simp] theorem upstreamRetries_index (n : Nat) : upstreamRetries n / 256 = 0x0B04 := index_eq 0x0B04 (n + 1)
@[simp] theorem downstreamRetries_index (n : Nat) : downstreamRetries n / 256 = 0x0B05 := index_eq 0x0B05 (n + 1)
@[simp] theorem maxLinkLag_index (n : Nat) : maxLinkLag n / 256 = 0x0B06 := index_eq 0x0B06 (n + 1)
@[simp] theorem correctedSymbols_index (n : Nat) : correctedSymbols n / 256 = 0x0B07 := index_eq 0x0B07 (n + 1)
@[simp] theorem uncorrectableReads_index (n : Nat) : uncorrectableReads n / 256 = 0x0B08 := index_eq 0x0B08 (n + 1)
@[simp] theorem scrubPasses_index (n : Nat) : scrubPasses n / 256 = 0x0B09 := index_eq 0x0B09 (n + 1)
@[simp] theorem scrubUncorrectable_index (n : Nat) : scrubUncorrectable n / 256 = 0x0B0A := index_eq 0x0B0A (n + 1)
@[simp] theorem recalOverdue_index (n : Nat) : recalOverdue n / 256 = 0x0B0B := index_eq 0x0B0B (n + 1)
@[simp] theorem linkFailures_index (n : Nat) : linkFailures n / 256 = 0x0B0C := index_eq 0x0B0C (n + 1)
@[simp] theorem knotBase_index (n : Nat) : knotBase n / 256 = 0x0C01 := index_eq 0x0C01 (n + 1)
@[simp] theorem knotCount_index (n : Nat) : knotCount n / 256 = 0x0C02 := index_eq 0x0C02 (n + 1)
@[simp] theorem tetherPortEnable_index (n : Nat) : tetherPortEnable n / 256 = 0x0D01 := index_eq 0x0D01 (n + 1)
@[simp] theorem routeTable_index (n : Nat) : routeTable n / 256 = 0x0D02 := index_eq 0x0D02 (n + 1)
@[simp] theorem tetherPortState_index (n : Nat) : tetherPortState n / 256 = 0x0D04 := index_eq 0x0D04 (n + 1)
@[simp] theorem tetherDelay_index (n : Nat) : tetherDelay n / 256 = 0x0D05 := index_eq 0x0D05 (n + 1)
@[simp] theorem tetherTest_index (n : Nat) : tetherTest n / 256 = 0x0D06 := index_eq 0x0D06 (n + 1)
@[simp] theorem tetherTestErrors_index (n : Nat) : tetherTestErrors n / 256 = 0x0D07 := index_eq 0x0D07 (n + 1)
@[simp] theorem tetherCrcErrors_index (n : Nat) : tetherCrcErrors n / 256 = 0x0D08 := index_eq 0x0D08 (n + 1)
@[simp] theorem tetherRetransmissions_index (n : Nat) : tetherRetransmissions n / 256 = 0x0D09 := index_eq 0x0D09 (n + 1)
@[simp] theorem memberLosses_index (n : Nat) : memberLosses n / 256 = 0x0D0A := index_eq 0x0D0A (n + 1)
@[simp] theorem hostPortState_index (n : Nat) : hostPortState n / 256 = 0x1202 := index_eq 0x1202 (n + 1)
@[simp] theorem tunnelLosses_index (n : Nat) : tunnelLosses n / 256 = 0x1202 := index_eq 0x1202 (n + 3)
@[simp] theorem hostLinkRate_index (n : Nat) : hostLinkRate n / 256 = 0x1202 := index_eq 0x1202 (n + 5)
@[simp] theorem eventRoute_index (n : Nat) : eventRoute n / 256 = 0x1204 := index_eq 0x1204 (n + 1)
@[simp] theorem evqRecordsDropped_index (n : Nat) : evqRecordsDropped n / 256 = 0x1205 := index_eq 0x1205 (n + 1)
@[simp] theorem macAddress_index (n : Nat) : macAddress n / 256 = 0x1301 := index_eq 0x1301 (n + 1)
@[simp] theorem portEnable_index (n : Nat) : portEnable n / 256 = 0x1302 := index_eq 0x1302 (n + 1)
@[simp] theorem portLinkState_index (n : Nat) : portLinkState n / 256 = 0x1303 := index_eq 0x1303 (n + 1)
@[simp] theorem portLinkRate_index (n : Nat) : portLinkRate n / 256 = 0x1303 := index_eq 0x1303 (n + 3)
@[simp] theorem ipv4Address_index (n : Nat) : ipv4Address n / 256 = 0x1304 := index_eq 0x1304 (n + 1)
@[simp] theorem ipv4Prefix_index (n : Nat) : ipv4Prefix n / 256 = 0x1304 := index_eq 0x1304 (n + 3)
@[simp] theorem ipv4Gateway_index (n : Nat) : ipv4Gateway n / 256 = 0x1304 := index_eq 0x1304 (n + 5)
@[simp] theorem vlanId_index (n : Nat) : vlanId n / 256 = 0x1305 := index_eq 0x1305 (n + 1)
@[simp] theorem framesReceived_index (n : Nat) : framesReceived n / 256 = 0x1306 := index_eq 0x1306 (n + 1)
@[simp] theorem framesDropped_index (n : Nat) : framesDropped n / 256 = 0x1306 := index_eq 0x1306 (n + 3)
@[simp] theorem linkLosses_index (n : Nat) : linkLosses n / 256 = 0x1306 := index_eq 0x1306 (n + 5)
@[simp] theorem ptpDomainEnable_index (n : Nat) : ptpDomainEnable n / 256 = 0x1310 := index_eq 0x1310 (n + 1)
@[simp] theorem ptpDomainNumber_index (n : Nat) : ptpDomainNumber n / 256 = 0x1310 := index_eq 0x1310 (n + 3)
@[simp] theorem ptpTransport_index (n : Nat) : ptpTransport n / 256 = 0x1311 := index_eq 0x1311 (n + 1)
@[simp] theorem delayMechanism_index (n : Nat) : delayMechanism n / 256 = 0x1311 := index_eq 0x1311 (n + 3)
@[simp] theorem portDelayAsymmetry_index (n : Nat) : portDelayAsymmetry n / 256 = 0x1311 := index_eq 0x1311 (n + 5)
@[simp] theorem ingressLatency_index (n : Nat) : ingressLatency n / 256 = 0x1311 := index_eq 0x1311 (n + 7)
@[simp] theorem egressLatency_index (n : Nat) : egressLatency n / 256 = 0x1311 := index_eq 0x1311 (n + 9)
@[simp] theorem logPdelayInterval_index (n : Nat) : logPdelayInterval n / 256 = 0x1311 := index_eq 0x1311 (n + 11)
@[simp] theorem domainState_index (n : Nat) : domainState n / 256 = 0x1313 := index_eq 0x1313 (n + 1)
@[simp] theorem domainOffset_index (n : Nat) : domainOffset n / 256 = 0x1313 := index_eq 0x1313 (n + 3)
@[simp] theorem domainMeanPathDelay_index (n : Nat) : domainMeanPathDelay n / 256 = 0x1313 := index_eq 0x1313 (n + 5)
@[simp] theorem domainGrandmaster_index (n : Nat) : domainGrandmaster n / 256 = 0x1313 := index_eq 0x1313 (n + 7)
@[simp] theorem domainClockClass_index (n : Nat) : domainClockClass n / 256 = 0x1313 := index_eq 0x1313 (n + 9)
@[simp] theorem domainPort_index (n : Nat) : domainPort n / 256 = 0x1313 := index_eq 0x1313 (n + 11)
@[simp] theorem ptpMessagesIgnored_index (n : Nat) : ptpMessagesIgnored n / 256 = 0x1315 := index_eq 0x1315 (n + 1)
@[simp] theorem faultCount_index (n : Nat) : faultCount n / 256 = 0x1402 := index_eq 0x1402 (n + 1)
@[simp] theorem contextFaults_index (n : Nat) : contextFaults n / 256 = 0x1405 := index_eq 0x1405 (n + 1)
@[simp] theorem contextRestarts_index (n : Nat) : contextRestarts n / 256 = 0x1405 := index_eq 0x1405 (n + 17)
@[simp] theorem dieTemperature_index (n : Nat) : dieTemperature n / 256 = 0x0312 := index_eq 0x0312 (n + 1)
@[simp] theorem fieldBankVoltage_index (n : Nat) : fieldBankVoltage n / 256 = 0x0314 := index_eq 0x0314 (n + 4)
@[simp] theorem ageingSlowdown_index (n : Nat) : ageingSlowdown n / 256 = 0x0315 := index_eq 0x0315 (n + 1)
@[simp] theorem timingMargin_index (n : Nat) : timingMargin n / 256 = 0x0316 := index_eq 0x0316 (n + 1)
@[simp] theorem coreVoltage_index (n : Nat) : coreVoltage n / 256 = 0x0317 := index_eq 0x0317 (n + 1)
@[simp] theorem coreVoltageTrim_index (n : Nat) : coreVoltageTrim n / 256 = 0x0317 := index_eq 0x0317 (n + 3)
@[simp] theorem cycleCount_index (n : Nat) : cycleCount n / 256 = 0x1502 := index_eq 0x1502 (n + 1)
@[simp] theorem counterEvent_index (n : Nat) : counterEvent n / 256 = 0x1503 := index_eq 0x1503 (n + 1)
@[simp] theorem counterContextFilter_index (n : Nat) : counterContextFilter n / 256 = 0x1504 := index_eq 0x1504 (n + 1)
@[simp] theorem counterMasterFilter_index (n : Nat) : counterMasterFilter n / 256 = 0x1505 := index_eq 0x1505 (n + 1)
@[simp] theorem counterAddressLow_index (n : Nat) : counterAddressLow n / 256 = 0x1506 := index_eq 0x1506 (n + 1)
@[simp] theorem counterAddressHigh_index (n : Nat) : counterAddressHigh n / 256 = 0x1507 := index_eq 0x1507 (n + 1)
@[simp] theorem counterPreset_index (n : Nat) : counterPreset n / 256 = 0x1508 := index_eq 0x1508 (n + 1)
@[simp] theorem counterOverflowRecord_index (n : Nat) : counterOverflowRecord n / 256 = 0x1509 := index_eq 0x1509 (n + 1)
@[simp] theorem counterValue_index (n : Nat) : counterValue n / 256 = 0x150A := index_eq 0x150A (n + 1)
@[simp] theorem counterOverflows_index (n : Nat) : counterOverflows n / 256 = 0x150B := index_eq 0x150B (n + 1)
@[simp] theorem portBytesIn_index (n : Nat) : portBytesIn n / 256 = 0x1511 := index_eq 0x1511 (n + 1)
@[simp] theorem portBytesOut_index (n : Nat) : portBytesOut n / 256 = 0x1512 := index_eq 0x1512 (n + 1)
@[simp] theorem portPeakIn_index (n : Nat) : portPeakIn n / 256 = 0x1513 := index_eq 0x1513 (n + 1)
@[simp] theorem portPeakOut_index (n : Nat) : portPeakOut n / 256 = 0x1514 := index_eq 0x1514 (n + 1)
@[simp] theorem blobSlotState_index (n : Nat) : blobSlotState n / 256 = 0x1602 := index_eq 0x1602 (n + 1)
@[simp] theorem blobSlotStatus_index (n : Nat) : blobSlotStatus n / 256 = 0x1603 := index_eq 0x1603 (n + 1)
@[simp] theorem blobSlotInfo_index (n : Nat) : blobSlotInfo n / 256 = 0x1604 := index_eq 0x1604 (n + 1)
@[simp] theorem logOverwrites_index (n : Nat) : logOverwrites n / 256 = 0x1703 := index_eq 0x1703 (n + 1)
@[simp] theorem beltSource_index : beltSource / 256 = 0x0201 := rfl
@[simp] theorem beltDirectionInvert_index : beltDirectionInvert / 256 = 0x0201 := rfl
@[simp] theorem bcLength_index : bcLength / 256 = 0x0201 := rfl
@[simp] theorem simulatedSpeed_index : simulatedSpeed / 256 = 0x0201 := rfl
@[simp] theorem beltStartPosition_index : beltStartPosition / 256 = 0x0201 := rfl
@[simp] theorem encoderSamplePeriod_index : encoderSamplePeriod / 256 = 0x0202 := rfl
@[simp] theorem maxStepPerSample_index : maxStepPerSample / 256 = 0x0202 := rfl
@[simp] theorem encoderHoldover_index : encoderHoldover / 256 = 0x0202 := rfl
@[simp] theorem speedWindow_index : speedWindow / 256 = 0x0203 := rfl
@[simp] theorem stopThreshold_index : stopThreshold / 256 = 0x0203 := rfl
@[simp] theorem maxBeltSpeed_index : maxBeltSpeed / 256 = 0x0203 := rfl
@[simp] theorem beltPosition_index : beltPosition / 256 = 0x0204 := rfl
@[simp] theorem beltPositionFraction_index : beltPositionFraction / 256 = 0x0204 := rfl
@[simp] theorem beltSpeed_index : beltSpeed / 256 = 0x0204 := rfl
@[simp] theorem beltSpeedMetres_index : beltSpeedMetres / 256 = 0x0204 := rfl
@[simp] theorem beltState_index : beltState / 256 = 0x0204 := rfl
@[simp] theorem lastSampleTime_index : lastSampleTime / 256 = 0x0204 := rfl
@[simp] theorem lastSampleWord_index : lastSampleWord / 256 = 0x0204 := rfl
@[simp] theorem beltReorigin_index : beltReorigin / 256 = 0x0205 := rfl
@[simp] theorem linePitch_index : linePitch / 256 = 0x0206 := rfl
@[simp] theorem lineOriginPosition_index : lineOriginPosition / 256 = 0x0206 := rfl
@[simp] theorem triggerMinInterval_index : triggerMinInterval / 256 = 0x0206 := rfl
@[simp] theorem stripeLines_index : stripeLines / 256 = 0x0209 := rfl
@[simp] theorem currentStripe_index : currentStripe / 256 = 0x0209 := rfl
@[simp] theorem crossingMode_index : crossingMode / 256 = 0x020A := rfl
@[simp] theorem dieTransportNs_index : dieTransportNs / 256 = 0x020A := rfl
@[simp] theorem samplesRejected_index : samplesRejected / 256 = 0x020B := rfl
@[simp] theorem holdoverEntries_index : holdoverEntries / 256 = 0x020B := rfl
@[simp] theorem beltLostEvents_index : beltLostEvents / 256 = 0x020B := rfl
@[simp] theorem overspeedEvents_index : overspeedEvents / 256 = 0x020B := rfl
@[simp] theorem suppressedTriggers_index : suppressedTriggers / 256 = 0x020B := rfl
@[simp] theorem positionSaturations_index : positionSaturations / 256 = 0x020B := rfl
@[simp] theorem reverseSamplesDiscarded_index : reverseSamplesDiscarded / 256 = 0x020B := rfl
@[simp] theorem partNumber_index : partNumber / 256 = 0x0301 := rfl
@[simp] theorem assemblyCode_index : assemblyCode / 256 = 0x0301 := rfl
@[simp] theorem computeDieCount_index : computeDieCount / 256 = 0x0301 := rfl
@[simp] theorem memoryDieCount_index : memoryDieCount / 256 = 0x0301 := rfl
@[simp] theorem ioDieCount_index : ioDieCount / 256 = 0x0301 := rfl
@[simp] theorem memoryCapacity_index : memoryCapacity / 256 = 0x0301 := rfl
@[simp] theorem cameraLinksFitted_index : cameraLinksFitted / 256 = 0x0301 := rfl
@[simp] theorem pipelineLevel_index : pipelineLevel / 256 = 0x0301 := rfl
@[simp] theorem tetherPortCount_index : tetherPortCount / 256 = 0x0301 := rfl
@[simp] theorem logicPowerCeiling_index : logicPowerCeiling / 256 = 0x0302 := rfl
@[simp] theorem computePowerAllotment_index : computePowerAllotment / 256 = 0x0302 := rfl
@[simp] theorem cameraPowerBudget_index : cameraPowerBudget / 256 = 0x0302 := rfl
@[simp] theorem computeEnergyPerOp_index : computeEnergyPerOp / 256 = 0x0302 := rfl
@[simp] theorem fieldBankReset_index : fieldBankReset / 256 = 0x0305 := rfl
@[simp] theorem vendorName_index : vendorName / 256 = 0x0101 := rfl
@[simp] theorem productFamily_index : productFamily / 256 = 0x0101 := rfl
@[simp] theorem serialNumber_index : serialNumber / 256 = 0x0101 := rfl
@[simp] theorem manufactureDate_index : manufactureDate / 256 = 0x0101 := rfl
@[simp] theorem detKey_index : detKey / 256 = 0x0101 := rfl
@[simp] theorem romRevision_index : romRevision / 256 = 0x0101 := rfl
@[simp] theorem computeStepping_index : computeStepping / 256 = 0x0101 := rfl
@[simp] theorem memoryStepping_index : memoryStepping / 256 = 0x0101 := rfl
@[simp] theorem ioStepping_index : ioStepping / 256 = 0x0101 := rfl
@[simp] theorem trimValues_index : trimValues / 256 = 0x0101 := rfl
@[simp] theorem spareArrayMap_index : spareArrayMap / 256 = 0x0101 := rfl
@[simp] theorem commitControl_index : commitControl / 256 = 0x0110 := rfl
@[simp] theorem discard_index : discard / 256 = 0x0110 := rfl
@[simp] theorem stageOwner_index : stageOwner / 256 = 0x0110 := rfl
@[simp] theorem stagedCount_index : stagedCount / 256 = 0x0110 := rfl
@[simp] theorem configGeneration_index : configGeneration / 256 = 0x0110 := rfl
@[simp] theorem lastCommitStatus_index : lastCommitStatus / 256 = 0x0110 := rfl
@[simp] theorem conflictCount_index : conflictCount / 256 = 0x0110 := rfl
@[simp] theorem conflictLog_index : conflictLog / 256 = 0x0110 := rfl
@[simp] theorem lastCommitPosition_index : lastCommitPosition / 256 = 0x0110 := rfl
@[simp] theorem lastCommitTime_index : lastCommitTime / 256 = 0x0110 := rfl
@[simp] theorem bdpEnable_index : bdpEnable / 256 = 0x0120 := rfl
@[simp] theorem bdpUdpPort_index : bdpUdpPort / 256 = 0x0120 := rfl
@[simp] theorem bdpSessionTimeout_index : bdpSessionTimeout / 256 = 0x0120 := rfl
@[simp] theorem bdpAllowedNetwork_index : bdpAllowedNetwork / 256 = 0x0120 := rfl
@[simp] theorem bdpAllowedPrefix_index : bdpAllowedPrefix / 256 = 0x0120 := rfl
@[simp] theorem bdpSessionsOpen_index : bdpSessionsOpen / 256 = 0x0120 := rfl
@[simp] theorem bdpFramesDropped_index : bdpFramesDropped / 256 = 0x0120 := rfl
@[simp] theorem bdpSequenceErrors_index : bdpSequenceErrors / 256 = 0x0120 := rfl
@[simp] theorem bdpRetransmissions_index : bdpRetransmissions / 256 = 0x0120 := rfl
@[simp] theorem eyeScan_index : eyeScan / 256 = 0x040A := rfl
@[simp] theorem eyeScanDwell_index : eyeScanDwell / 256 = 0x040A := rfl
@[simp] theorem eyeWidth_index : eyeWidth / 256 = 0x040A := rfl
@[simp] theorem eyeHeight_index : eyeHeight / 256 = 0x040A := rfl
@[simp] theorem eyeMap_index : eyeMap / 256 = 0x040A := rfl
@[simp] theorem cameraBootTime_index : cameraBootTime / 256 = 0x0410 := rfl
@[simp] theorem connectionTestTime_index : connectionTestTime / 256 = 0x0410 := rfl
@[simp] theorem connectionTestErrorLimit_index : connectionTestErrorLimit / 256 = 0x0410 := rfl
@[simp] theorem cameraPowerDraw_index : cameraPowerDraw / 256 = 0x0410 := rfl
@[simp] theorem cameraPowerAllotted_index : cameraPowerAllotted / 256 = 0x0410 := rfl
@[simp] theorem totalPixelRate_index : totalPixelRate / 256 = 0x050F := rfl
@[simp] theorem cameraRegStream_index : cameraRegStream / 256 = 0x0511 := rfl
@[simp] theorem cameraRegAddress_index : cameraRegAddress / 256 = 0x0511 := rfl
@[simp] theorem cameraRegData_index : cameraRegData / 256 = 0x0511 := rfl
@[simp] theorem cameraRegCommand_index : cameraRegCommand / 256 = 0x0511 := rfl
@[simp] theorem streamRestart_index : streamRestart / 256 = 0x0512 := rfl
@[simp] theorem stripeWidth_index : stripeWidth / 256 = 0x0607 := rfl
@[simp] theorem stripeFold_index : stripeFold / 256 = 0x0607 := rfl
@[simp] theorem stripeBlock_index : stripeBlock / 256 = 0x0607 := rfl
@[simp] theorem paramSetSwitch_index : paramSetSwitch / 256 = 0x0617 := rfl
@[simp] theorem jpegHistoryFirst_index : jpegHistoryFirst / 256 = 0x0620 := rfl
@[simp] theorem jpegHistoryCount_index : jpegHistoryCount / 256 = 0x0620 := rfl
@[simp] theorem jpegHistoryScale_index : jpegHistoryScale / 256 = 0x0620 := rfl
@[simp] theorem jpegQuality_index : jpegQuality / 256 = 0x0620 := rfl
@[simp] theorem jpegSubsampling_index : jpegSubsampling / 256 = 0x0620 := rfl
@[simp] theorem decodeCycleLimit_index : decodeCycleLimit / 256 = 0x0621 := rfl
@[simp] theorem decodeDeadlineDefault_index : decodeDeadlineDefault / 256 = 0x0621 := rfl
@[simp] theorem decodeSubstituteValue_index : decodeSubstituteValue / 256 = 0x0621 := rfl
@[simp] theorem encodesCompleted_index : encodesCompleted / 256 = 0x0622 := rfl
@[simp] theorem encodesSkipped_index : encodesSkipped / 256 = 0x0622 := rfl
@[simp] theorem decodesCompleted_index : decodesCompleted / 256 = 0x0622 := rfl
@[simp] theorem decodesRejected_index : decodesRejected / 256 = 0x0622 := rfl
@[simp] theorem decodesAbandoned_index : decodesAbandoned / 256 = 0x0622 := rfl
@[simp] theorem lastRejectCause_index : lastRejectCause / 256 = 0x0622 := rfl
@[simp] theorem checkErrorLimit_index : checkErrorLimit / 256 = 0x0806 := rfl
@[simp] theorem checkErrorWindow_index : checkErrorWindow / 256 = 0x0806 := rfl
@[simp] theorem arrayRetest_index : arrayRetest / 256 = 0x0807 := rfl
@[simp] theorem arrayRetire_index : arrayRetire / 256 = 0x0807 := rfl
@[simp] theorem arrayRestore_index : arrayRestore / 256 = 0x0807 := rfl
@[simp] theorem lastRetestResult_index : lastRetestResult / 256 = 0x0807 := rfl
@[simp] theorem clipLimitMode_index : clipLimitMode / 256 = 0x0824 := rfl
@[simp] theorem lineBufferSize_index : lineBufferSize / 256 = 0x0840 := rfl
@[simp] theorem activationTables_index : activationTables / 256 = 0x0862 := rfl
@[simp] theorem planUploadSlot_index : planUploadSlot / 256 = 0x0903 := rfl
@[simp] theorem planUploadBegin_index : planUploadBegin / 256 = 0x0903 := rfl
@[simp] theorem planUploadOffset_index : planUploadOffset / 256 = 0x0903 := rfl
@[simp] theorem planUploadData_index : planUploadData / 256 = 0x0903 := rfl
@[simp] theorem planUploadEnd_index : planUploadEnd / 256 = 0x0903 := rfl
@[simp] theorem planSlotClear_index : planSlotClear / 256 = 0x0903 := rfl
@[simp] theorem flush_index : flush / 256 = 0x0904 := rfl
@[simp] theorem periodBudget_index : periodBudget / 256 = 0x0905 := rfl
@[simp] theorem slackCycles_index : slackCycles / 256 = 0x0905 := rfl
@[simp] theorem decisionLatencyBound_index : decisionLatencyBound / 256 = 0x0905 := rfl
@[simp] theorem decisionLatencyBoundUs_index : decisionLatencyBoundUs / 256 = 0x0905 := rfl
@[simp] theorem predictedComputePower_index : predictedComputePower / 256 = 0x0905 := rfl
@[simp] theorem deadlineAtRisk_index : deadlineAtRisk / 256 = 0x0905 := rfl
@[simp] theorem powerAtRisk_index : powerAtRisk / 256 = 0x0905 := rfl
@[simp] theorem periodsRun_index : periodsRun / 256 = 0x0906 := rfl
@[simp] theorem periodsSlipped_index : periodsSlipped / 256 = 0x0906 := rfl
@[simp] theorem maxSlipCycles_index : maxSlipCycles / 256 = 0x0906 := rfl
@[simp] theorem maxFrozenPerPeriod_index : maxFrozenPerPeriod / 256 = 0x0906 := rfl
@[simp] theorem stripeOverruns_index : stripeOverruns / 256 = 0x0906 := rfl
@[simp] theorem minObservedSlack_index : minObservedSlack / 256 = 0x0906 := rfl
@[simp] theorem emptyPeriods_index : emptyPeriods / 256 = 0x0906 := rfl
@[simp] theorem retryReserveMin_index : retryReserveMin / 256 = 0x0907 := rfl
@[simp] theorem contextReset_index : contextReset / 256 = 0x0915 := rfl
@[simp] theorem trackCapacity_index : trackCapacity / 256 = 0x0A01 := rfl
@[simp] theorem workListLength_index : workListLength / 256 = 0x0A01 := rfl
@[simp] theorem maskRows_index : maskRows / 256 = 0x0A01 := rfl
@[simp] theorem maskWidth_index : maskWidth / 256 = 0x0A01 := rfl
@[simp] theorem classCount_index : classCount / 256 = 0x0A01 := rfl
@[simp] theorem ejectorDistance_index : ejectorDistance / 256 = 0x0A02 := rfl
@[simp] theorem leadMargin_index : leadMargin / 256 = 0x0A02 := rfl
@[simp] theorem trailMargin_index : trailMargin / 256 = 0x0A02 := rfl
@[simp] theorem valveColumnOrigin_index : valveColumnOrigin / 256 = 0x0A02 := rfl
@[simp] theorem valveColumnPitch_index : valveColumnPitch / 256 = 0x0A02 := rfl
@[simp] theorem valveChannelBase_index : valveChannelBase / 256 = 0x0A02 := rfl
@[simp] theorem valveChannelCount_index : valveChannelCount / 256 = 0x0A02 := rfl
@[simp] theorem valveGranule_index : valveGranule / 256 = 0x0A02 := rfl
@[simp] theorem fallbackAction_index : fallbackAction / 256 = 0x0A03 := rfl
@[simp] theorem noTrackAction_index : noTrackAction / 256 = 0x0A03 := rfl
@[simp] theorem degradedAction_index : degradedAction / 256 = 0x0A03 := rfl
@[simp] theorem overlengthAction_index : overlengthAction / 256 = 0x0A03 := rfl
@[simp] theorem degradedShare_index : degradedShare / 256 = 0x0A03 := rfl
@[simp] theorem noTrackLength_index : noTrackLength / 256 = 0x0A03 := rfl
@[simp] theorem workListMaxWait_index : workListMaxWait / 256 = 0x0A03 := rfl
@[simp] theorem directRecordLimit_index : directRecordLimit / 256 = 0x0A03 := rfl
@[simp] theorem tracksOpen_index : tracksOpen / 256 = 0x0A06 := rfl
@[simp] theorem tracksClosed_index : tracksClosed / 256 = 0x0A06 := rfl
@[simp] theorem tracksPeak_index : tracksPeak / 256 = 0x0A06 := rfl
@[simp] theorem trackTable_index : trackTable / 256 = 0x0A06 := rfl
@[simp] theorem joins_index : joins / 256 = 0x0A07 := rfl
@[simp] theorem joinsRefused_index : joinsRefused / 256 = 0x0A07 := rfl
@[simp] theorem merges_index : merges / 256 = 0x0A07 := rfl
@[simp] theorem decisionsIssued_index : decisionsIssued / 256 = 0x0A07 := rfl
@[simp] theorem fallbackDecisions_index : fallbackDecisions / 256 = 0x0A07 := rfl
@[simp] theorem noTrackDecisions_index : noTrackDecisions / 256 = 0x0A07 := rfl
@[simp] theorem degradedObjects_index : degradedObjects / 256 = 0x0A07 := rfl
@[simp] theorem overlengthTracks_index : overlengthTracks / 256 = 0x0A07 := rfl
@[simp] theorem smallObjectsDropped_index : smallObjectsDropped / 256 = 0x0A07 := rfl
@[simp] theorem listWaitFallbacks_index : listWaitFallbacks / 256 = 0x0A07 := rfl
@[simp] theorem directRecordsDeferred_index : directRecordsDeferred / 256 = 0x0A07 := rfl
@[simp] theorem tracksDiscarded_index : tracksDiscarded / 256 = 0x0A07 := rfl
@[simp] theorem emptyListEntries_index : emptyListEntries / 256 = 0x0A07 := rfl
@[simp] theorem outsideValveRange_index : outsideValveRange / 256 = 0x0A07 := rfl
@[simp] theorem channelValveType_index : channelValveType / 256 = 0x1106 := rfl
@[simp] theorem valveLinkLatency_index : valveLinkLatency / 256 = 0x1109 := rfl
@[simp] theorem pulsesPending_index : pulsesPending / 256 = 0x110A := rfl
@[simp] theorem pulsesPeak_index : pulsesPeak / 256 = 0x110A := rfl
@[simp] theorem channelsOn_index : channelsOn / 256 = 0x110A := rfl
@[simp] theorem pulsesScheduled_index : pulsesScheduled / 256 = 0x110A := rfl
@[simp] theorem pulsesMerged_index : pulsesMerged / 256 = 0x110A := rfl
@[simp] theorem pulsesSplit_index : pulsesSplit / 256 = 0x110A := rfl
@[simp] theorem storeFullRefused_index : storeFullRefused / 256 = 0x110A := rfl
@[simp] theorem lateDecisions_index : lateDecisions / 256 = 0x110A := rfl
@[simp] theorem missedDecisions_index : missedDecisions / 256 = 0x110A := rfl
@[simp] theorem pulsesInterrupted_index : pulsesInterrupted / 256 = 0x110A := rfl
@[simp] theorem pulsesMissed_index : pulsesMissed / 256 = 0x110A := rfl
@[simp] theorem outputNotDriven_index : outputNotDriven / 256 = 0x110A := rfl
@[simp] theorem disabledChannelRequests_index : disabledChannelRequests / 256 = 0x110A := rfl
@[simp] theorem valveTestPulse_index : valveTestPulse / 256 = 0x110B := rfl
@[simp] theorem fireEdgesMeasured_index : fireEdgesMeasured / 256 = 0x110C := rfl
@[simp] theorem fireEdgesOutside_index : fireEdgesOutside / 256 = 0x110C := rfl
@[simp] theorem fireErrorMin_index : fireErrorMin / 256 = 0x110C := rfl
@[simp] theorem fireErrorMax_index : fireErrorMax / 256 = 0x110C := rfl
@[simp] theorem fireErrorClear_index : fireErrorClear / 256 = 0x110C := rfl
@[simp] theorem inputLevels_index : inputLevels / 256 = 0x0E04 := rfl
@[simp] theorem pulsePeriod_index : pulsePeriod / 256 = 0x0E05 := rfl
@[simp] theorem sensorSupplyState_index : sensorSupplyState / 256 = 0x0E0D := rfl
@[simp] theorem sensorSupplyReset_index : sensorSupplyReset / 256 = 0x0E0D := rfl
@[simp] theorem sensorSupplyTrips_index : sensorSupplyTrips / 256 = 0x0E0D := rfl
@[simp] theorem aliveDirectOutput_index : aliveDirectOutput / 256 = 0x0F03 := rfl
@[simp] theorem aliveState_index : aliveState / 256 = 0x0F03 := rfl
@[simp] theorem aliveControl_index : aliveControl / 256 = 0x0F03 := rfl
@[simp] theorem aliveStopCause_index : aliveStopCause / 256 = 0x0F03 := rfl
@[simp] theorem outputFaultClear_index : outputFaultClear / 256 = 0x0F07 := rfl
@[simp] theorem keepAlivePeriod_index : keepAlivePeriod / 256 = 0x0F14 := rfl
@[simp] theorem armLead_index : armLead / 256 = 0x0F14 := rfl
@[simp] theorem encoderSupplyReset_index : encoderSupplyReset / 256 = 0x1015 := rfl
@[simp] theorem memoryReserved_index : memoryReserved / 256 = 0x0B03 := rfl
@[simp] theorem memoryFree_index : memoryFree / 256 = 0x0B03 := rfl
@[simp] theorem scratchAllotted_index : scratchAllotted / 256 = 0x0B03 := rfl
@[simp] theorem memoryMinClock_index : memoryMinClock / 256 = 0x0B03 := rfl
@[simp] theorem recalInterval_index : recalInterval / 256 = 0x0B03 := rfl
@[simp] theorem uncorrectableLog_index : uncorrectableLog / 256 = 0x0B0D := rfl
@[simp] theorem uncorrectableLogClear_index : uncorrectableLogClear / 256 = 0x0B0D := rfl
@[simp] theorem scrubEnable_index : scrubEnable / 256 = 0x0B0E := rfl
@[simp] theorem lastTrainingTime_index : lastTrainingTime / 256 = 0x0B0F := rfl
@[simp] theorem knotSelect_index : knotSelect / 256 = 0x0C03 := rfl
@[simp] theorem knotWord_index : knotWord / 256 = 0x0C03 := rfl
@[simp] theorem waitersInUse_index : waitersInUse / 256 = 0x0C04 := rfl
@[simp] theorem waiterCapacity_index : waiterCapacity / 256 = 0x0C04 := rfl
@[simp] theorem waitersPeak_index : waitersPeak / 256 = 0x0C04 := rfl
@[simp] theorem knotOps_index : knotOps / 256 = 0x0C05 := rfl
@[simp] theorem knotSaturations_index : knotSaturations / 256 = 0x0C05 := rfl
@[simp] theorem waitTimeouts_index : waitTimeouts / 256 = 0x0C05 := rfl
@[simp] theorem ownerResetReleases_index : ownerResetReleases / 256 = 0x0C05 := rfl
@[simp] theorem frozenRefusals_index : frozenRefusals / 256 = 0x0C05 := rfl
@[simp] theorem knotOpsRefused_index : knotOpsRefused / 256 = 0x0C05 := rfl
@[simp] theorem knotDump_index : knotDump / 256 = 0x0C06 := rfl
@[simp] theorem knotDumpContext_index : knotDumpContext / 256 = 0x0C06 := rfl
@[simp] theorem groupState_index : groupState / 256 = 0x0D03 := rfl
@[simp] theorem groupFailCause_index : groupFailCause / 256 = 0x0D03 := rfl
@[simp] theorem membersSeen_index : membersSeen / 256 = 0x0D03 := rfl
@[simp] theorem tetherErrorCompletions_index : tetherErrorCompletions / 256 = 0x0D0B := rfl
@[simp] theorem groupSkews_index : groupSkews / 256 = 0x0D0B := rfl
@[simp] theorem pciVendorId_index : pciVendorId / 256 = 0x1201 := rfl
@[simp] theorem pciDeviceId_index : pciDeviceId / 256 = 0x1201 := rfl
@[simp] theorem pciSubsystemId_index : pciSubsystemId / 256 = 0x1201 := rfl
@[simp] theorem tunnelHoldTime_index : tunnelHoldTime / 256 = 0x1203 := rfl
@[simp] theorem ringsEnabled_index : ringsEnabled / 256 = 0x1206 := rfl
@[simp] theorem queuesEnabled_index : queuesEnabled / 256 = 0x1206 := rfl
@[simp] theorem commandsCompleted_index : commandsCompleted / 256 = 0x1206 := rfl
@[simp] theorem doorbellsRefused_index : doorbellsRefused / 256 = 0x1206 := rfl
@[simp] theorem imagesDropped_index : imagesDropped / 256 = 0x1206 := rfl
@[simp] theorem recordsUnrouted_index : recordsUnrouted / 256 = 0x1206 := rfl
@[simp] theorem clockIdentity_index : clockIdentity / 256 = 0x1301 := rfl
@[simp] theorem timeDomainPreferred_index : timeDomainPreferred / 256 = 0x1312 := rfl
@[simp] theorem domainRevertive_index : domainRevertive / 256 = 0x1312 := rfl
@[simp] theorem maxClockClass_index : maxClockClass / 256 = 0x1312 := rfl
@[simp] theorem lockThreshold_index : lockThreshold / 256 = 0x1312 := rfl
@[simp] theorem stepThreshold_index : stepThreshold / 256 = 0x1312 := rfl
@[simp] theorem syncLossTimeout_index : syncLossTimeout / 256 = 0x1312 := rfl
@[simp] theorem switchStepLimit_index : switchStepLimit / 256 = 0x1312 := rfl
@[simp] theorem holdoverLimit_index : holdoverLimit / 256 = 0x1312 := rfl
@[simp] theorem selectedDomain_index : selectedDomain / 256 = 0x1314 := rfl
@[simp] theorem timeState_index : timeState / 256 = 0x1314 := rfl
@[simp] theorem localTime_index : localTime / 256 = 0x1314 := rfl
@[simp] theorem domainSwitches_index : domainSwitches / 256 = 0x1314 := rfl
@[simp] theorem timeSteps_index : timeSteps / 256 = 0x1314 := rfl
@[simp] theorem timeHoldoverEntries_index : timeHoldoverEntries / 256 = 0x1314 := rfl
@[simp] theorem faultLog_index : faultLog / 256 = 0x1401 := rfl
@[simp] theorem faultLogNv_index : faultLogNv / 256 = 0x1401 := rfl
@[simp] theorem faultLogClear_index : faultLogClear / 256 = 0x1401 := rfl
@[simp] theorem faultLogNvClear_index : faultLogNvClear / 256 = 0x1401 := rfl
@[simp] theorem faultLogOverwritten_index : faultLogOverwritten / 256 = 0x1401 := rfl
@[simp] theorem bootCount_index : bootCount / 256 = 0x1401 := rfl
@[simp] theorem faultRecordsSuppressed_index : faultRecordsSuppressed / 256 = 0x1402 := rfl
@[simp] theorem hangFreezeLimit_index : hangFreezeLimit / 256 = 0x1403 := rfl
@[simp] theorem checkpointMargin_index : checkpointMargin / 256 = 0x1403 := rfl
@[simp] theorem restartLimit_index : restartLimit / 256 = 0x1403 := rfl
@[simp] theorem restartWindow_index : restartWindow / 256 = 0x1403 := rfl
@[simp] theorem recoveryLimit_index : recoveryLimit / 256 = 0x1403 := rfl
@[simp] theorem recoveryWindow_index : recoveryWindow / 256 = 0x1403 := rfl
@[simp] theorem deviceRecover_index : deviceRecover / 256 = 0x1404 := rfl
@[simp] theorem recoveries_index : recoveries / 256 = 0x1404 := rfl
@[simp] theorem lastRecoveryTime_index : lastRecoveryTime / 256 = 0x1404 := rfl
@[simp] theorem lastRecoveryCause_index : lastRecoveryCause / 256 = 0x1404 := rfl
@[simp] theorem fallbackGapOpen_index : fallbackGapOpen / 256 = 0x1406 := rfl
@[simp] theorem fallbackOrigin_index : fallbackOrigin / 256 = 0x1406 := rfl
@[simp] theorem gapRecords_index : gapRecords / 256 = 0x1406 := rfl
@[simp] theorem powerState_index : powerState / 256 = 0x0311 := rfl
@[simp] theorem powerTarget_index : powerTarget / 256 = 0x0311 := rfl
@[simp] theorem autoReady_index : autoReady / 256 = 0x0311 := rfl
@[simp] theorem autoReadyDelay_index : autoReadyDelay / 256 = 0x0311 := rfl
@[simp] theorem wakeSources_index : wakeSources / 256 = 0x0311 := rfl
@[simp] theorem wakeInputMask_index : wakeInputMask / 256 = 0x0311 := rfl
@[simp] theorem wakeTimer_index : wakeTimer / 256 = 0x0311 := rfl
@[simp] theorem lastWakeCause_index : lastWakeCause / 256 = 0x0311 := rfl
@[simp] theorem throttleTemperature_index : throttleTemperature / 256 = 0x0313 := rfl
@[simp] theorem thermalHysteresis_index : thermalHysteresis / 256 = 0x0313 := rfl
@[simp] theorem throttleState_index : throttleState / 256 = 0x0313 := rfl
@[simp] theorem throttleEvents_index : throttleEvents / 256 = 0x0313 := rfl
@[simp] theorem logicInputVoltage_index : logicInputVoltage / 256 = 0x0314 := rfl
@[simp] theorem logicInputPower_index : logicInputPower / 256 = 0x0314 := rfl
@[simp] theorem cameraInputVoltage_index : cameraInputVoltage / 256 = 0x0314 := rfl
@[simp] theorem voltageHeadroom_index : voltageHeadroom / 256 = 0x0317 := rfl
@[simp] theorem coreClock_index : coreClock / 256 = 0x0318 := rfl
@[simp] theorem minCoreClock_index : minCoreClock / 256 = 0x0318 := rfl
@[simp] theorem marginTarget_index : marginTarget / 256 = 0x0318 := rfl
@[simp] theorem replanNow_index : replanNow / 256 = 0x0318 := rfl
@[simp] theorem replanPending_index : replanPending / 256 = 0x0318 := rfl
@[simp] theorem voltageSteps_index : voltageSteps / 256 = 0x0318 := rfl
@[simp] theorem clockSteps_index : clockSteps / 256 = 0x0318 := rfl
@[simp] theorem counterControl_index : counterControl / 256 = 0x1501 := rfl
@[simp] theorem countersRunning_index : countersRunning / 256 = 0x1501 := rfl
@[simp] theorem snapshotCount_index : snapshotCount / 256 = 0x1501 := rfl
@[simp] theorem snapshot_index : snapshot / 256 = 0x1501 := rfl
@[simp] theorem bandwidthWindow_index : bandwidthWindow / 256 = 0x1510 := rfl
@[simp] theorem bandwidthClear_index : bandwidthClear / 256 = 0x1510 := rfl
@[simp] theorem sampleEnable_index : sampleEnable / 256 = 0x1520 := rfl
@[simp] theorem sampleInterval_index : sampleInterval / 256 = 0x1520 := rfl
@[simp] theorem sampleSeed_index : sampleSeed / 256 = 0x1520 := rfl
@[simp] theorem sampleUnitMask_index : sampleUnitMask / 256 = 0x1520 := rfl
@[simp] theorem sampleContextMask_index : sampleContextMask / 256 = 0x1520 := rfl
@[simp] theorem samplesTaken_index : samplesTaken / 256 = 0x1520 := rfl
@[simp] theorem samplesDropped_index : samplesDropped / 256 = 0x1520 := rfl
@[simp] theorem sampleLog_index : sampleLog / 256 = 0x1520 := rfl
@[simp] theorem sampleLogClear_index : sampleLogClear / 256 = 0x1520 := rfl
@[simp] theorem bootState_index : bootState / 256 = 0x1601 := rfl
@[simp] theorem bootStep_index : bootStep / 256 = 0x1601 := rfl
@[simp] theorem bootFailStep_index : bootFailStep / 256 = 0x1601 := rfl
@[simp] theorem resetCause_index : resetCause / 256 = 0x1601 := rfl
@[simp] theorem resetFaultCode_index : resetFaultCode / 256 = 0x1601 := rfl
@[simp] theorem lastStartUpTime_index : lastStartUpTime / 256 = 0x1601 := rfl
@[simp] theorem blobUploadSlot_index : blobUploadSlot / 256 = 0x1605 := rfl
@[simp] theorem blobUploadBegin_index : blobUploadBegin / 256 = 0x1605 := rfl
@[simp] theorem blobUploadOffset_index : blobUploadOffset / 256 = 0x1605 := rfl
@[simp] theorem blobUploadData_index : blobUploadData / 256 = 0x1605 := rfl
@[simp] theorem blobUploadEnd_index : blobUploadEnd / 256 = 0x1605 := rfl
@[simp] theorem blobSlotClear_index : blobSlotClear / 256 = 0x1605 := rfl
@[simp] theorem vendorKeyCount_index : vendorKeyCount / 256 = 0x1606 := rfl
@[simp] theorem acceptedKeys_index : acceptedKeys / 256 = 0x1606 := rfl
@[simp] theorem planVersionMin_index : planVersionMin / 256 = 0x1606 := rfl
@[simp] theorem attestationCertificate_index : attestationCertificate / 256 = 0x1607 := rfl
@[simp] theorem deviceKeyId_index : deviceKeyId / 256 = 0x1607 := rfl
@[simp] theorem attestNonce_index : attestNonce / 256 = 0x1607 := rfl
@[simp] theorem attestRequest_index : attestRequest / 256 = 0x1607 := rfl
@[simp] theorem attestReport_index : attestReport / 256 = 0x1607 := rfl
@[simp] theorem reportCounter_index : reportCounter / 256 = 0x1607 := rfl
@[simp] theorem selfTestFailures_index : selfTestFailures / 256 = 0x1608 := rfl
@[simp] theorem selfTestLog_index : selfTestLog / 256 = 0x1608 := rfl
@[simp] theorem statisticsClear_index : statisticsClear / 256 = 0x1701 := rfl
@[simp] theorem clearGeneration_index : clearGeneration / 256 = 0x1701 := rfl
@[simp] theorem lastClearRange_index : lastClearRange / 256 = 0x1701 := rfl
@[simp] theorem lastClearPosition_index : lastClearPosition / 256 = 0x1701 := rfl
@[simp] theorem lastClearTime_index : lastClearTime / 256 = 0x1701 := rfl
@[simp] theorem logFullInterval_index : logFullInterval / 256 = 0x1702 := rfl

end Sys2Proof.Machine.K
end

