-- ==== Sys2Proof/Laws/FrameOps.lean ====
section
/-! SUPPORT. What each operation of Machine/Ops.lean changes and what it leaves unchanged. -/

-- one theorem after another: see NOTES.md
set_option Elab.async false

namespace Sys2Proof.Machine

theorem guardUnit_next {ok : Bool} {n : Nat} {f t : State} (h : guardUnit ok n f = .next t) : f = t := by
  unfold guardUnit at h
  split at h
  · injection h
  · cases h

theorem State.bump_changes (s : State) (k n : Nat) :
    Changes [] (.only [k]) s (State.bump s k n) := by
  unfold State.bump
  repeat' ((try with_reducible conv => arg 4; whnf); first
    | with_reducible apply Changes.refl
    | ((with_reducible show Area.sub _ _ = true); rfl)
    | ((with_reducible apply Entries.le_of_sub); rfl)
    | ((with_reducible apply Entries.le_only); simp; done)
    | intro _
    | with_reducible apply Changes.andThen ?_ (State.setReg_changes _ _ _ ) ?_ ?_)

theorem State.setQueue_changes (s : State) (q : Nat) (e : EvQueue) :
    Changes [.host] (.only []) s (State.setQueue s q e) := by
  unfold State.setQueue
  repeat' ((try with_reducible conv => arg 4; whnf); first
    | with_reducible apply Changes.refl
    | ((conv => arg 4; arg 24); with_reducible refine Changes.update ?_))

theorem State.portBytes_changes (s : State) (inward : Bool) (port n : Nat) :
    Changes [.perf] (.only []) s (State.portBytes s inward port n) := by
  unfold State.portBytes
  repeat' ((try with_reducible conv => arg 4; whnf); first
    | with_reducible apply Changes.refl
    | intro _
    | with_reducible apply Changes.ite
    | ((conv => arg 4; arg 24); with_reducible refine Changes.update ?_)
    | split)

theorem State.send_changes (s : State) (o : Output) :
    Changes [.out] (.only []) s (State.send s o) := by
  unfold State.send
  repeat' ((try with_reducible conv => arg 4; whnf); first
    | with_reducible apply Changes.refl
    | ((conv => arg 4; arg 24); with_reducible refine Changes.update ?_))

theorem State.hostWrite_changes (s : State) (port addr : Nat) (data : List Byte) :
    Changes [.perf, .out] (.only []) s (State.hostWrite s port addr data) := by
  unfold State.hostWrite
  repeat' ((try with_reducible conv => arg 4; whnf); first
    | with_reducible apply Changes.refl
    | ((with_reducible show Area.sub _ _ = true); rfl)
    | ((with_reducible apply Entries.le_of_sub); rfl)
    | ((with_reducible apply Entries.le_only); simp; done)
    | intro _
    | with_reducible apply Changes.andThen ?_ (State.portBytes_changes _ _ _ _ ) ?_ ?_
    | with_reducible apply Changes.andThen ?_ (State.send_changes _ _ ) ?_ ?_)

theorem State.signal_changes (s : State) (q : Nat) :
    Changes [.host, .out] (.only []) s (State.signal s q) := by
  unfold State.signal
  repeat' ((try with_reducible conv => arg 4; whnf); first
    | with_reducible apply Changes.refl
    | ((with_reducible show Area.sub _ _ = true); rfl)
    | ((with_reducible apply Entries.le_of_sub); rfl)
    | ((with_reducible apply Entries.le_only); simp; done)
    | intro _
    | with_reducible apply Changes.ite
    | with_reducible apply Changes.andThen ?_ (State.setQueue_changes _ _ _ ) ?_ ?_
    | with_reducible apply Changes.andThen ?_ (State.send_changes _ _ ) ?_ ?_
    | split)

theorem State.writeRec_changes (s : State) (q : Nat) (r : Rec) :
    Changes [.host, .perf, .out] (.only []) s (State.writeRec s q r) := by
  unfold State.writeRec
  repeat' ((try with_reducible conv => arg 4; whnf); first
    | with_reducible apply Changes.refl
    | ((with_reducible show Area.sub _ _ = true); rfl)
    | ((with_reducible apply Entries.le_of_sub); rfl)
    | ((with_reducible apply Entries.le_only); simp; done)
    | intro _
    | with_reducible apply Changes.ite
    | with_reducible apply Changes.andThen ?_ (State.setQueue_changes _ _ _ ) ?_ ?_
    | with_reducible apply Changes.andThen ?_ (State.hostWrite_changes _ _ _ _ ) ?_ ?_
    | with_reducible apply Changes.andThen ?_ (State.signal_changes _ _ ) ?_ ?_
    | split)

theorem State.setCounter_changes (s : State) (b i : Nat) (c : Counter) :
    Changes [.perf] (.only []) s (State.setCounter s b i c) := by
  unfold State.setCounter
  repeat' ((try with_reducible conv => arg 4; whnf); first
    | with_reducible apply Changes.refl
    | ((conv => arg 4; arg 24); with_reducible refine Changes.update ?_))

theorem State.countOne_changes (s : State) (b i ev n : Nat) :
    Changes [.perf] (.only []) s (State.countOne s b i ev n).1 := by
  unfold State.countOne
  repeat' ((try with_reducible conv => arg 4; arg 1; whnf); first
    | with_reducible apply Changes.refl
    | dsimp only
    | ((with_reducible show Area.sub _ _ = true); rfl)
    | ((with_reducible apply Entries.le_of_sub); rfl)
    | ((with_reducible apply Entries.le_only); simp; done)
    | intro _
    | with_reducible apply Changes.ite
    | with_reducible apply Changes.ite_fst
    | with_reducible apply Changes.andThen ?_ (State.setCounter_changes _ _ _ _ ) ?_ ?_
    | split)

theorem State.countEv_changes (s : State) (b ev n f ctx master addr : Nat) :
    Changes [.perf] (.only []) s (State.countEv s b ev n f ctx master addr).1 := by
  unfold State.countEv
  repeat' ((try with_reducible conv => arg 4; arg 1; whnf); first
    | with_reducible apply Changes.refl
    | dsimp only
    | ((with_reducible show Area.sub _ _ = true); rfl)
    | ((with_reducible apply Entries.le_of_sub); rfl)
    | ((with_reducible apply Entries.le_only); simp; done)
    | intro _
    | with_reducible apply Changes.ite
    | with_reducible apply Changes.ite_fst
    | with_reducible apply Changes.foldl
    | with_reducible apply Changes.foldl_fst
    | with_reducible apply Changes.andThen ?_ (State.countOne_changes _ _ _ _ _ ) ?_ ?_
    | split)

theorem State.routeRec_changes (s : State) (q : Nat) (r : Rec) :
    Changes [.host, .perf, .out] (.only [0x1205, K.recordsUnrouted]) s (State.routeRec s q r).1 := by
  unfold State.routeRec
  repeat' ((try with_reducible conv => arg 4; arg 1; whnf); first
    | with_reducible apply Changes.refl
    | dsimp only
    | ((with_reducible show Area.sub _ _ = true); rfl)
    | ((with_reducible apply Entries.le_of_sub); rfl)
    | ((with_reducible apply Entries.le_only); simp; done)
    | intro _
    | with_reducible apply Changes.ite
    | with_reducible apply Changes.ite_snd
    | with_reducible apply Changes.ite_fst
    | with_reducible apply Changes.ite_snd_snd
    | with_reducible apply Changes.foldl
    | with_reducible apply Changes.foldl_snd
    | with_reducible apply Changes.foldl_fst
    | with_reducible apply Changes.andThen ?_ (State.bump_changes _ _ _ ) ?_ ?_
    | with_reducible apply Changes.andThen ?_ (State.setQueue_changes _ _ _ ) ?_ ?_
    | with_reducible apply Changes.andThen ?_ (State.writeRec_changes _ _ _ ) ?_ ?_
    | with_reducible apply Changes.andThen ?_ (State.countEv_changes _ _ _ _ _ _ _ _ ) ?_ ?_
    | ((conv => arg 4; arg 24); with_reducible refine Changes.update ?_)
    | split
    | with_reducible refine Changes.of_snd (by assumption) ?_)

theorem State.emitLoop_changes (n : Nat) (rs : List Rec) (s : State) :
    Changes [.host, .perf, .out] (.only [0x1205, K.recordsUnrouted]) s (State.emitLoop n rs s) := by
  induction n generalizing rs s with
  | zero => exact Changes.refl
  | succ n ih =>
    cases rs with
    | nil => exact Changes.refl
    | cons r rest =>
      unfold State.emitLoop
      with_reducible apply Changes.ite
      · exact fun _ => ih _ _
      · exact fun _ => (State.routeRec_changes s _ r).trans (ih _ _)

theorem State.emitAll_changes (s : State) (rs : List Rec) :
    Changes [.host, .perf, .out] (.only [0x1205, K.recordsUnrouted]) s (State.emitAll s rs) := by
  unfold State.emitAll
  repeat' ((try with_reducible conv => arg 4; whnf); first
    | with_reducible apply Changes.refl
    | ((with_reducible show Area.sub _ _ = true); rfl)
    | ((with_reducible apply Entries.le_of_sub); rfl)
    | ((with_reducible apply Entries.le_only); simp; done)
    | intro _
    | with_reducible apply Changes.ite
    | with_reducible apply Changes.ite_snd
    | with_reducible apply Changes.ite_fst
    | with_reducible apply Changes.ite_snd_snd
    | with_reducible apply Changes.foldl
    | with_reducible apply Changes.foldl_snd
    | with_reducible apply Changes.foldl_fst
    | with_reducible apply Changes.andThen ?_ (State.emitLoop_changes _ _ _ ) ?_ ?_
    | ((conv => arg 4; arg 24); with_reducible refine Changes.update ?_)
    | split
    | with_reducible refine Changes.of_snd (by assumption) ?_)

theorem State.emit_changes (s : State) (r : Rec) :
    Changes [.host, .perf, .out] (.only [0x1205, K.recordsUnrouted]) s (State.emit s r) := by
  unfold State.emit
  repeat' ((try with_reducible conv => arg 4; whnf); first
    | with_reducible apply Changes.refl
    | ((with_reducible show Area.sub _ _ = true); rfl)
    | ((with_reducible apply Entries.le_of_sub); rfl)
    | ((with_reducible apply Entries.le_only); simp; done)
    | intro _
    | with_reducible apply Changes.andThen ?_ (State.emitAll_changes _ _ ) ?_ ?_)

theorem State.issueFault_changes (s : State) (r : Option Rec) :
    Changes [.host, .faults, .perf, .out] (.only [0x1205, K.recordsUnrouted]) s (State.issueFault s r) := by
  unfold State.issueFault
  repeat' ((try with_reducible conv => arg 4; whnf); first
    | with_reducible apply Changes.refl
    | ((with_reducible show Area.sub _ _ = true); rfl)
    | ((with_reducible apply Entries.le_of_sub); rfl)
    | ((with_reducible apply Entries.le_only); simp; done)
    | intro _
    | with_reducible apply Changes.andThen ?_ (State.emit_changes _ _ ) ?_ ?_
    | ((conv => arg 4; arg 24); with_reducible refine Changes.update ?_)
    | split)

theorem State.rateOk_changes (s : State) (code : Nat) :
    Changes [.faults] (.only []) s (State.rateOk s code).2 := by
  unfold State.rateOk
  repeat' ((try with_reducible conv => arg 4; arg 1; whnf); first
    | with_reducible apply Changes.refl
    | dsimp only
    | intro _
    | with_reducible apply Changes.ite
    | with_reducible apply Changes.ite_snd
    | ((conv => arg 4; arg 24); with_reducible refine Changes.update ?_)
    | split)

theorem State.bumpSat_changes (s : State) (k n : Nat) :
    Changes [] (.only [k]) s (State.bumpSat s k n) := by
  unfold State.bumpSat
  repeat' ((try with_reducible conv => arg 4; whnf); first
    | with_reducible apply Changes.refl
    | ((with_reducible show Area.sub _ _ = true); rfl)
    | ((with_reducible apply Entries.le_of_sub); rfl)
    | ((with_reducible apply Entries.le_only); simp; done)
    | intro _
    | with_reducible apply Changes.andThen ?_ (State.setReg_changes _ _ _ ) ?_ ?_)

theorem State.overwrote_changes (s : State) (log : Nat) (silent : Bool) :
    Changes [.host, .faults, .perf, .out] (.only [0x1205, 0x1703, K.recordsUnrouted, K.faultLogOverwritten]) s (State.overwrote s log silent) := by
  unfold State.overwrote
  repeat' ((try with_reducible conv => arg 4; whnf); first
    | with_reducible apply Changes.refl
    | ((with_reducible show Area.sub _ _ = true); rfl)
    | ((with_reducible apply Entries.le_of_sub); rfl)
    | ((with_reducible apply Entries.le_only); simp; done)
    | intro _
    | with_reducible apply Changes.ite
    | with_reducible apply Changes.ite_snd
    | with_reducible apply Changes.ite_fst
    | with_reducible apply Changes.ite_snd_snd
    | with_reducible apply Changes.foldl
    | with_reducible apply Changes.foldl_snd
    | with_reducible apply Changes.foldl_fst
    | with_reducible apply Changes.andThen ?_ (State.bump_changes _ _ _ ) ?_ ?_
    | with_reducible apply Changes.andThen ?_ (State.bumpSat_changes _ _ _ ) ?_ ?_
    | with_reducible apply Changes.andThen ?_ (State.emit_changes _ _ ) ?_ ?_
    | ((conv => arg 4; arg 24); with_reducible refine Changes.update ?_)
    | split
    | with_reducible refine Changes.of_snd (by assumption) ?_)

theorem State.logFaultNv_changes (s : State) (e : FaultEntry) (silent : Bool) :
    Changes [.host, .faults, .perf, .out] (.only [0x1205, 0x1703, K.recordsUnrouted, K.faultLogOverwritten]) s (State.logFaultNv s e silent) := by
  unfold State.logFaultNv
  repeat' ((try with_reducible conv => arg 4; whnf); first
    | with_reducible apply Changes.refl
    | ((with_reducible show Area.sub _ _ = true); rfl)
    | ((with_reducible apply Entries.le_of_sub); rfl)
    | ((with_reducible apply Entries.le_only); simp; done)
    | intro _
    | with_reducible apply Changes.ite
    | with_reducible apply Changes.andThen ?_ (State.overwrote_changes _ _ _ ) ?_ ?_
    | ((conv => arg 4; arg 24); with_reducible refine Changes.update ?_)
    | split)

theorem State.takeFree_changes (s : State) :
    Changes [.freeN] (.only []) s (State.takeFree s).2 := by
  unfold State.takeFree
  repeat' ((try with_reducible conv => arg 4; arg 1; whnf); first
    | with_reducible apply Changes.refl
    | dsimp only
    | ((conv => arg 4; arg 24); with_reducible refine Changes.update ?_))

theorem State.logFault_changes (s : State) (e : FaultEntry) :
    Changes [.host, .faults, .perf, .out] (.only [0x1205, 0x1703, K.recordsUnrouted, K.faultLogOverwritten]) s (State.logFault s e) := by
  unfold State.logFault
  repeat' ((try with_reducible conv => arg 4; whnf); first
    | with_reducible apply Changes.refl
    | ((with_reducible show Area.sub _ _ = true); rfl)
    | ((with_reducible apply Entries.le_of_sub); rfl)
    | ((with_reducible apply Entries.le_only); simp; done)
    | intro _
    | with_reducible apply Changes.ite
    | with_reducible apply Changes.andThen ?_ (State.overwrote_changes _ _ _ ) ?_ ?_
    | ((conv => arg 4; arg 24); with_reducible refine Changes.update ?_)
    | split)

theorem State.noteFault_changes (s : State) (code : Nat) (scope : Scope) (src ctx detail : Nat) (p : (Option Nat)) :
    Changes [.freeN, .host, .faults, .perf, .out] (.only [0x1205, 0x1402, 0x1703, K.recordsUnrouted, K.faultLogOverwritten, K.faultRecordsSuppressed]) s (State.noteFault s code scope src ctx detail p).2 := by
  unfold State.noteFault
  repeat' ((try with_reducible conv => arg 4; arg 1; whnf); first
    | with_reducible apply Changes.refl
    | dsimp only
    | ((with_reducible show Area.sub _ _ = true); rfl)
    | ((with_reducible apply Entries.le_of_sub); rfl)
    | ((with_reducible apply Entries.le_only); simp; done)
    | intro _
    | with_reducible apply Changes.ite
    | with_reducible apply Changes.ite_snd
    | with_reducible apply Changes.andThen ?_ (State.bump_changes _ _ _ ) ?_ ?_
    | with_reducible apply Changes.andThen ?_ (State.rateOk_changes _ _ ) ?_ ?_
    | with_reducible apply Changes.andThen ?_ (State.logFaultNv_changes _ _ _ ) ?_ ?_
    | with_reducible apply Changes.andThen ?_ (State.takeFree_changes _ ) ?_ ?_
    | with_reducible apply Changes.andThen ?_ (State.logFault_changes _ _ ) ?_ ?_
    | split)

theorem State.report_changes (s : State) (code src detail : Nat) (scope : Scope) (ctx : Nat) (p : (Option Nat)) :
    Changes [.freeN, .host, .faults, .perf, .out] (.only [0x1205, 0x1402, 0x1703, K.recordsUnrouted, K.faultLogOverwritten, K.faultRecordsSuppressed]) s (State.report s code src detail scope ctx p) := by
  unfold State.report
  repeat' ((try with_reducible conv => arg 4; whnf); first
    | with_reducible apply Changes.refl
    | ((with_reducible show Area.sub _ _ = true); rfl)
    | ((with_reducible apply Entries.le_of_sub); rfl)
    | ((with_reducible apply Entries.le_only); simp; done)
    | intro _
    | with_reducible apply Changes.andThen ?_ (State.issueFault_changes _ _ ) ?_ ?_
    | with_reducible apply Changes.andThen ?_ (State.noteFault_changes _ _ _ _ _ _ _ ) ?_ ?_
    | split)

theorem State.count_changes (s : State) (b ev n f ctx master addr : Nat) :
    Changes [.host, .perf, .out] (.only [0x1205, K.recordsUnrouted]) s (State.count s b ev n f ctx master addr) := by
  unfold State.count
  repeat' ((try with_reducible conv => arg 4; whnf); first
    | with_reducible apply Changes.refl
    | ((with_reducible show Area.sub _ _ = true); rfl)
    | ((with_reducible apply Entries.le_of_sub); rfl)
    | ((with_reducible apply Entries.le_only); simp; done)
    | intro _
    | with_reducible apply Changes.andThen ?_ (State.countEv_changes _ _ _ _ _ _ _ _ ) ?_ ?_
    | with_reducible apply Changes.andThen ?_ (State.emitAll_changes _ _ ) ?_ ?_
    | split)

theorem State.peak_changes (s : State) (k v : Nat) :
    Changes [] (.only [k]) s (State.peak s k v) := by
  unfold State.peak
  repeat' ((try with_reducible conv => arg 4; whnf); first
    | with_reducible apply Changes.refl
    | ((with_reducible show Area.sub _ _ = true); rfl)
    | ((with_reducible apply Entries.le_of_sub); rfl)
    | ((with_reducible apply Entries.le_only); simp; done)
    | intro _
    | with_reducible apply Changes.ite
    | with_reducible apply Changes.andThen ?_ (State.setReg_changes _ _ _ ) ?_ ?_
    | split)

theorem guardUnit_changes (ok : Bool) (n : Nat) (f : State) {u : State} (h : guardUnit ok n f = .next u) :
    Changes [] (.only []) f u := by
  unfold guardUnit at h
  try (have h := guardUnit_next h)
  try injection h with h
  subst h
  repeat' ((try with_reducible conv => arg 4; whnf); first
    | with_reducible apply Changes.refl
    | ((with_reducible show Area.sub _ _ = true); rfl)
    | ((with_reducible apply Entries.le_of_sub); rfl)
    | ((with_reducible apply Entries.le_only); simp; done)
    | intro _
    | with_reducible apply Changes.ite
    | split)

theorem State.logEmptied_changes (s : State) (log : Nat) :
    Changes [.faults] (.only [0x1703]) s (State.logEmptied s log) := by
  unfold State.logEmptied
  repeat' ((try with_reducible conv => arg 4; whnf); first
    | with_reducible apply Changes.refl
    | ((with_reducible show Area.sub _ _ = true); rfl)
    | ((with_reducible apply Entries.le_of_sub); rfl)
    | ((with_reducible apply Entries.le_only); simp; done)
    | intro _
    | with_reducible apply Changes.ite
    | with_reducible apply Changes.ite_snd
    | with_reducible apply Changes.ite_fst
    | with_reducible apply Changes.ite_snd_snd
    | with_reducible apply Changes.foldl
    | with_reducible apply Changes.foldl_snd
    | with_reducible apply Changes.foldl_fst
    | with_reducible apply Changes.andThen ?_ (State.setReg_changes _ _ _ ) ?_ ?_
    | ((conv => arg 4; arg 24); with_reducible refine Changes.update ?_)
    | split
    | with_reducible refine Changes.of_snd (by assumption) ?_)

theorem State.countStore_changes (s : State) (die ctx master off n : Nat) :
    Changes [.freeN, .host, .perf, .out] (.only [0x1205, K.recordsUnrouted]) s (State.countStore s die ctx master off n) := by
  unfold State.countStore
  repeat' ((try with_reducible conv => arg 4; whnf); first
    | with_reducible apply Changes.refl
    | ((with_reducible show Area.sub _ _ = true); rfl)
    | ((with_reducible apply Entries.le_of_sub); rfl)
    | ((with_reducible apply Entries.le_only); simp; done)
    | intro _
    | with_reducible apply Changes.ite
    | with_reducible apply Changes.andThen ?_ (State.takeFree_changes _ ) ?_ ?_
    | with_reducible apply Changes.andThen ?_ (State.count_changes _ _ _ _ _ _ _ _ ) ?_ ?_
    | split)

theorem State.setPort_changes (s : State) (p : Nat) (h : HostPort) :
    Changes [.host] (.only []) s (State.setPort s p h) := by
  unfold State.setPort
  repeat' ((try with_reducible conv => arg 4; whnf); first
    | with_reducible apply Changes.refl
    | ((conv => arg 4; arg 24); with_reducible refine Changes.update ?_))

theorem State.drainQueue_changes (q x1 : Nat) (x2 : State) :
    Changes [.host, .perf, .out] (.only [0x1205, K.recordsUnrouted]) x2 (State.drainQueue q x1 x2) := by
  induction x1 generalizing x2 with
  | zero => exact Changes.refl
  | succ n ih =>
  unfold State.drainQueue
  repeat' ((try with_reducible conv => arg 4; whnf); first
    | with_reducible apply Changes.refl
    | (with_reducible apply Changes.trans ?_ (ih _))
    | ((with_reducible show Area.sub _ _ = true); rfl)
    | ((with_reducible apply Entries.le_of_sub); rfl)
    | ((with_reducible apply Entries.le_only); simp; done)
    | intro _
    | with_reducible apply Changes.ite
    | with_reducible apply Changes.andThen ?_ (State.setQueue_changes _ _ _ ) ?_ ?_
    | with_reducible apply Changes.andThen ?_ (State.writeRec_changes _ _ _ ) ?_ ?_
    | with_reducible apply Changes.andThen ?_ (State.countEv_changes _ _ _ _ _ _ _ _ ) ?_ ?_
    | with_reducible apply Changes.andThen ?_ (State.emitAll_changes _ _ ) ?_ ?_
    | split)

theorem State.noteTraining_changes (s : State) (most : Nat) :
    Changes [.freeN] (.only [K.lastTrainingTime]) s (State.noteTraining s most) := by
  unfold State.noteTraining
  repeat' ((try with_reducible conv => arg 4; whnf); first
    | with_reducible apply Changes.refl
    | ((with_reducible show Area.sub _ _ = true); rfl)
    | ((with_reducible apply Entries.le_of_sub); rfl)
    | ((with_reducible apply Entries.le_only); simp; done)
    | intro _
    | with_reducible apply Changes.andThen ?_ (State.setReg_changes _ _ _ ) ?_ ?_
    | with_reducible apply Changes.andThen ?_ (State.takeFree_changes _ ) ?_ ?_
    | split)

end Sys2Proof.Machine
end

