-- ==== Sys2Proof/Laws/FrameFieldOps.lean ====
section
/-! SUPPORT. What each operation of Machine/FieldOps.lean changes and what it leaves unchanged. -/

-- one theorem after another: see NOTES.md
set_option Elab.async false

namespace Sys2Proof.Machine

theorem State.setVl_changes (s : State) (p : Nat) (x : VLink) :
    Changes [.field] (.only [0x0F10]) s (State.setVl s p x) := by
  unfold State.setVl
  repeat' ((try with_reducible conv => arg 4; whnf); first
    | with_reducible apply Changes.refl
    | ((with_reducible show Area.sub _ _ = true); rfl)
    | ((with_reducible apply Entries.le_of_sub); rfl)
    | ((with_reducible apply Entries.le_only); simp; done)
    | intro _
    | with_reducible apply Changes.andThen ?_ (State.setReg_changes _ _ _ ) ?_ ?_
    | ((conv => arg 4; arg 24); with_reducible refine Changes.update ?_))

theorem State.setOut_changes (s : State) (o : Nat) (x : DirOut) :
    Changes [.field] (.only []) s (State.setOut s o x) := by
  unfold State.setOut
  repeat' ((try with_reducible conv => arg 4; whnf); first
    | with_reducible apply Changes.refl
    | ((conv => arg 4; arg 24); with_reducible refine Changes.update ?_))

theorem State.cmdOut_changes (s : State) (o : Nat) (on : Bool) :
    Changes [.field] (.only []) s (State.cmdOut s o on) := by
  unfold State.cmdOut
  repeat' ((try with_reducible conv => arg 4; whnf); first
    | with_reducible apply Changes.refl
    | ((with_reducible show Area.sub _ _ = true); rfl)
    | ((with_reducible apply Entries.le_of_sub); rfl)
    | ((with_reducible apply Entries.le_only); simp; done)
    | intro _
    | with_reducible apply Changes.andThen ?_ (State.setOut_changes _ _ _ ) ?_ ?_)

theorem State.vlStrobe_changes (s : State) (p prio tag : Nat) :
    Changes [.field] (.only [0x0F10]) s (State.vlStrobe s p prio tag) := by
  unfold State.vlStrobe
  repeat' ((try with_reducible conv => arg 4; whnf); first
    | with_reducible apply Changes.refl
    | ((with_reducible show Area.sub _ _ = true); rfl)
    | ((with_reducible apply Entries.le_of_sub); rfl)
    | ((with_reducible apply Entries.le_only); simp; done)
    | intro _
    | with_reducible apply Changes.andThen ?_ (State.setVl_changes _ _ _ ) ?_ ?_)

theorem State.vlFrame_changes (s : State) (p typ seq : Nat) (payload : List Byte) :
    Changes [.out] (.only []) s (State.vlFrame s p typ seq payload) := by
  unfold State.vlFrame
  repeat' ((try with_reducible conv => arg 4; whnf); first
    | with_reducible apply Changes.refl
    | ((with_reducible show Area.sub _ _ = true); rfl)
    | ((with_reducible apply Entries.le_of_sub); rfl)
    | ((with_reducible apply Entries.le_only); simp; done)
    | intro _
    | with_reducible apply Changes.ite
    | with_reducible apply Changes.andThen ?_ (State.send_changes _ _ ) ?_ ?_
    | split)

theorem State.vlControl_changes (s : State) (p typ : Nat) (payload : List Byte) :
    Changes [.field, .out] (.only [0x0F10]) s (State.vlControl s p typ payload) := by
  unfold State.vlControl
  repeat' ((try with_reducible conv => arg 4; whnf); first
    | with_reducible apply Changes.refl
    | ((with_reducible show Area.sub _ _ = true); rfl)
    | ((with_reducible apply Entries.le_of_sub); rfl)
    | ((with_reducible apply Entries.le_only); simp; done)
    | intro _
    | with_reducible apply Changes.andThen ?_ (State.vlFrame_changes _ _ _ _ _ ) ?_ ?_
    | with_reducible apply Changes.andThen ?_ (State.setVl_changes _ _ _ ) ?_ ?_)

theorem State.vlArm_changes (s : State) (p tag edge : Nat) (vs : List Nat) :
    Changes [.field, .out] (.only [0x0F10]) s (State.vlArm s p tag edge vs) := by
  unfold State.vlArm
  repeat' ((try with_reducible conv => arg 4; whnf); first
    | with_reducible apply Changes.refl
    | ((with_reducible show Area.sub _ _ = true); rfl)
    | ((with_reducible apply Entries.le_of_sub); rfl)
    | ((with_reducible apply Entries.le_only); simp; done)
    | intro _
    | with_reducible apply Changes.andThen ?_ (State.vlControl_changes _ _ _ _ ) ?_ ?_)

theorem State.vlAddTag_changes (s : State) (p edge : Nat) (pos : Int) (vt : Nat) (moved : Bool) (vs : List Nat) :
    Changes [.field, .out] (.only [0x0F10]) s (State.vlAddTag s p edge pos vt moved vs).2 := by
  unfold State.vlAddTag
  repeat' ((try with_reducible conv => arg 4; arg 1; whnf); first
    | with_reducible apply Changes.refl
    | dsimp only
    | ((with_reducible show Area.sub _ _ = true); rfl)
    | ((with_reducible apply Entries.le_of_sub); rfl)
    | ((with_reducible apply Entries.le_only); simp; done)
    | intro _
    | with_reducible apply Changes.ite
    | with_reducible apply Changes.ite_snd
    | with_reducible apply Changes.andThen ?_ (State.setVl_changes _ _ _ ) ?_ ?_
    | with_reducible apply Changes.andThen ?_ (State.vlArm_changes _ _ _ _ _ ) ?_ ?_
    | split)

theorem State.aliveCause_changes (s : State) (causes : List Nat) :
    Changes [.field] (.only [K.aliveStopCause]) s (State.aliveCause s causes) := by
  unfold State.aliveCause
  repeat' ((try with_reducible conv => arg 4; whnf); first
    | with_reducible apply Changes.refl
    | ((with_reducible show Area.sub _ _ = true); rfl)
    | ((with_reducible apply Entries.le_of_sub); rfl)
    | ((with_reducible apply Entries.le_only); simp; done)
    | intro _
    | with_reducible apply Changes.foldl
    | with_reducible apply Changes.andThen ?_ (State.setReg_changes _ _ _ ) ?_ ?_
    | ((conv => arg 4; arg 24); with_reducible refine Changes.update ?_))

theorem State.setAlive_changes (s : State) (running level : Bool) :
    Changes [.field] (.only [K.aliveState]) s (State.setAlive s running level) := by
  unfold State.setAlive
  repeat' ((try with_reducible conv => arg 4; whnf); first
    | with_reducible apply Changes.refl
    | ((with_reducible show Area.sub _ _ = true); rfl)
    | ((with_reducible apply Entries.le_of_sub); rfl)
    | ((with_reducible apply Entries.le_only); simp; done)
    | intro _
    | with_reducible apply Changes.andThen ?_ (State.setReg_changes _ _ _ ) ?_ ?_
    | with_reducible apply Changes.andThen ?_ (State.cmdOut_changes _ _ _ ) ?_ ?_
    | ((conv => arg 4; arg 24); with_reducible refine Changes.update ?_)
    | split)

theorem State.aliveStopFor_changes (s : State) (c : Nat) :
    Changes [.field] (.only [K.aliveState, K.aliveStopCause]) s (State.aliveStopFor s c) := by
  unfold State.aliveStopFor
  repeat' ((try with_reducible conv => arg 4; whnf); first
    | with_reducible apply Changes.refl
    | ((with_reducible show Area.sub _ _ = true); rfl)
    | ((with_reducible apply Entries.le_of_sub); rfl)
    | ((with_reducible apply Entries.le_only); simp; done)
    | intro _
    | with_reducible apply Changes.ite
    | with_reducible apply Changes.andThen ?_ (State.aliveCause_changes _ _ ) ?_ ?_
    | with_reducible apply Changes.andThen ?_ (State.setAlive_changes _ _ _ ) ?_ ?_
    | split)

theorem State.aliveClear_changes (s : State) (c : Nat) :
    Changes [.field] (.only [K.aliveState, K.aliveStopCause]) s (State.aliveClear s c) := by
  unfold State.aliveClear
  repeat' ((try with_reducible conv => arg 4; whnf); first
    | with_reducible apply Changes.refl
    | ((with_reducible show Area.sub _ _ = true); rfl)
    | ((with_reducible apply Entries.le_of_sub); rfl)
    | ((with_reducible apply Entries.le_only); simp; done)
    | intro _
    | with_reducible apply Changes.ite
    | with_reducible apply Changes.andThen ?_ (State.aliveCause_changes _ _ ) ?_ ?_
    | with_reducible apply Changes.andThen ?_ (State.setAlive_changes _ _ _ ) ?_ ?_
    | split)

theorem State.bankOff_changes (s : State) (b : Nat) :
    Changes [.field] (.only []) s (State.bankOff s b) := by
  unfold State.bankOff
  repeat' ((try with_reducible conv => arg 4; whnf); first
    | with_reducible apply Changes.refl
    | intro _
    | with_reducible apply Changes.ite
    | ((conv => arg 4; arg 24); with_reducible refine Changes.update ?_)
    | split)

theorem State.vlFail_changes (s : State) (p cause : Nat) :
    Changes [.field] (.only [0x0F10, 0x0F11]) s (State.vlFail s p cause) := by
  unfold State.vlFail
  repeat' ((try with_reducible conv => arg 4; whnf); first
    | with_reducible apply Changes.refl
    | ((with_reducible show Area.sub _ _ = true); rfl)
    | ((with_reducible apply Entries.le_of_sub); rfl)
    | ((with_reducible apply Entries.le_only); simp; done)
    | intro _
    | with_reducible apply Changes.andThen ?_ (State.setReg_changes _ _ _ ) ?_ ?_
    | with_reducible apply Changes.andThen ?_ (State.setVl_changes _ _ _ ) ?_ ?_)

theorem State.vlPrune_changes (s : State) (p : Nat) (keep : Tag → Nat → Bool) :
    Changes [.field, .out] (.only [0x0F10]) s (State.vlPrune s p keep) := by
  unfold State.vlPrune
  repeat' ((try with_reducible conv => arg 4; whnf); first
    | with_reducible apply Changes.refl
    | ((with_reducible show Area.sub _ _ = true); rfl)
    | ((with_reducible apply Entries.le_of_sub); rfl)
    | ((with_reducible apply Entries.le_only); simp; done)
    | intro _
    | with_reducible apply Changes.ite
    | with_reducible apply Changes.foldl
    | with_reducible apply Changes.andThen ?_ (State.setVl_changes _ _ _ ) ?_ ?_
    | with_reducible apply Changes.andThen ?_ (State.vlArm_changes _ _ _ _ _ ) ?_ ?_
    | split)

theorem State.vlAllOff_changes (s : State) (p : Nat) :
    Changes [.field] (.only [0x0F10]) s (State.vlAllOff s p) := by
  unfold State.vlAllOff
  repeat' ((try with_reducible conv => arg 4; whnf); first
    | with_reducible apply Changes.refl
    | ((with_reducible show Area.sub _ _ = true); rfl)
    | ((with_reducible apply Entries.le_of_sub); rfl)
    | ((with_reducible apply Entries.le_only); simp; done)
    | intro _
    | with_reducible apply Changes.andThen ?_ (State.vlStrobe_changes _ _ _ _ ) ?_ ?_)

theorem State.vlLose_changes (s : State) (p : Nat) :
    Changes [.freeN, .field, .host, .faults, .perf, .out] (.only [0x0F10, 0x0F1A, 0x1205, 0x1402, 0x1703, K.recordsUnrouted, K.faultLogOverwritten, K.faultRecordsSuppressed]) s (State.vlLose s p) := by
  unfold State.vlLose
  repeat' ((try with_reducible conv => arg 4; whnf); first
    | with_reducible apply Changes.refl
    | ((with_reducible show Area.sub _ _ = true); rfl)
    | ((with_reducible apply Entries.le_of_sub); rfl)
    | ((with_reducible apply Entries.le_only); simp; done)
    | intro _
    | with_reducible apply Changes.andThen ?_ (State.bump_changes _ _ _ ) ?_ ?_
    | with_reducible apply Changes.andThen ?_ (State.setVl_changes _ _ _ ) ?_ ?_
    | with_reducible apply Changes.andThen ?_ (State.report_changes _ _ _ _ _ _ _ ) ?_ ?_)

end Sys2Proof.Machine
end

