-- ==== Sys2Proof/Laws/FrameEjectOps.lean ====
section
/-! SUPPORT. What each operation of Machine/EjectOps.lean changes and what it leaves unchanged. -/

-- one theorem after another: see NOTES.md
set_option Elab.async false

namespace Sys2Proof.Machine

theorem State.setPulses_changes (s : State) (ch : Nat) (l : List Pulse) :
    Changes [.eject] (.only []) s (State.setPulses s ch l) := by
  unfold State.setPulses
  repeat' ((try with_reducible conv => arg 4; whnf); first
    | with_reducible apply Changes.refl
    | ((conv => arg 4; arg 24); with_reducible refine Changes.update ?_))

theorem State.tallyPulses_changes (s : State) :
    Changes [] (.only [K.pulsesPending, K.pulsesPeak]) s (State.tallyPulses s) := by
  unfold State.tallyPulses
  repeat' ((try with_reducible conv => arg 4; whnf); first
    | with_reducible apply Changes.refl
    | ((with_reducible show Area.sub _ _ = true); rfl)
    | ((with_reducible apply Entries.le_of_sub); rfl)
    | ((with_reducible apply Entries.le_only); simp; done)
    | intro _
    | with_reducible apply Changes.andThen ?_ (State.setReg_changes _ _ _ ) ?_ ?_
    | with_reducible apply Changes.andThen ?_ (State.peak_changes _ _ _ ) ?_ ?_)

theorem State.takeUpDecision_changes (s : State) (d : Decision) :
    Changes [.eject, .host, .perf, .out] (.only [0x1205, K.pulsesPending, K.pulsesPeak, K.pulsesScheduled, K.pulsesMerged, K.storeFullRefused, K.lateDecisions, K.missedDecisions, K.disabledChannelRequests, K.recordsUnrouted]) s (State.takeUpDecision s d) := by
  unfold State.takeUpDecision
  repeat' ((try with_reducible conv => arg 4; whnf); first
    | with_reducible apply Changes.refl
    | ((with_reducible show Area.sub _ _ = true); rfl)
    | ((with_reducible apply Entries.le_of_sub); rfl)
    | ((with_reducible apply Entries.le_only); simp; done)
    | intro _
    | with_reducible apply Changes.ite
    | with_reducible apply Changes.foldl
    | with_reducible apply Changes.andThen ?_ (State.setPulses_changes _ _ _ ) ?_ ?_
    | with_reducible apply Changes.andThen ?_ (State.bump_changes _ _ _ ) ?_ ?_
    | with_reducible apply Changes.andThen ?_ (State.tallyPulses_changes _ ) ?_ ?_
    | with_reducible apply Changes.andThen ?_ (State.emit_changes _ _ ) ?_ ?_
    | split)

theorem State.setChanOn_changes (s : State) (l : List Nat) :
    Changes [.eject] (.only [K.channelsOn]) s (State.setChanOn s l) := by
  unfold State.setChanOn
  repeat' ((try with_reducible conv => arg 4; whnf); first
    | with_reducible apply Changes.refl
    | ((with_reducible show Area.sub _ _ = true); rfl)
    | ((with_reducible apply Entries.le_of_sub); rfl)
    | ((with_reducible apply Entries.le_only); simp; done)
    | intro _
    | with_reducible apply Changes.andThen ?_ (State.setReg_changes _ _ _ ) ?_ ?_
    | ((conv => arg 4; arg 24); with_reducible refine Changes.update ?_))

theorem State.markOn_changes (s : State) (ch : Nat) (on : Bool) :
    Changes [.eject] (.only [K.channelsOn]) s (State.markOn s ch on) := by
  unfold State.markOn
  repeat' ((try with_reducible conv => arg 4; whnf); first
    | with_reducible apply Changes.refl
    | ((with_reducible show Area.sub _ _ = true); rfl)
    | ((with_reducible apply Entries.le_of_sub); rfl)
    | ((with_reducible apply Entries.le_only); simp; done)
    | intro _
    | with_reducible apply Changes.ite
    | with_reducible apply Changes.andThen ?_ (State.setChanOn_changes _ _ ) ?_ ?_
    | split)

theorem State.setRef_changes (s : State) (ch : Nat) (level : Bool) (r : Option EdgeRef) :
    Changes [.eject] (.only []) s (State.setRef s ch level r) := by
  unfold State.setRef
  repeat' ((try with_reducible conv => arg 4; whnf); first
    | with_reducible apply Changes.refl
    | ((conv => arg 4; arg 24); with_reducible refine Changes.update ?_))

theorem State.endTest_changes (s : State) (status : Nat) :
    Changes [.ctl, .eject, .field, .out] (.only [0x0F10, K.channelsOn]) s (State.endTest s status) := by
  unfold State.endTest
  repeat' ((try with_reducible conv => arg 4; whnf); first
    | with_reducible apply Changes.refl
    | ((with_reducible show Area.sub _ _ = true); rfl)
    | ((with_reducible apply Entries.le_of_sub); rfl)
    | ((with_reducible apply Entries.le_only); simp; done)
    | intro _
    | with_reducible apply Changes.ite
    | with_reducible apply Changes.andThen ?_ (State.cmdOut_changes _ _ _ ) ?_ ?_
    | with_reducible apply Changes.andThen ?_ (State.vlStrobe_changes _ _ _ _ ) ?_ ?_
    | with_reducible apply Changes.andThen ?_ (State.markOn_changes _ _ _ ) ?_ ?_
    | with_reducible apply Changes.andThen ?_ (State.setRef_changes _ _ _ _ ) ?_ ?_
    | with_reducible apply Changes.andThen ?_ (State.vlAddTag_changes _ _ _ _ _ _ _ ) ?_ ?_
    | ((conv => arg 4; arg 24); with_reducible refine Changes.update ?_)
    | split)

theorem State.armPass_changes (s : State) (p : Nat) :
    Changes [.field, .out] (.only [0x0F10]) s (State.armPass s p) := by
  unfold State.armPass
  repeat' ((try with_reducible conv => arg 4; whnf); first
    | with_reducible apply Changes.refl
    | ((with_reducible show Area.sub _ _ = true); rfl)
    | ((with_reducible apply Entries.le_of_sub); rfl)
    | ((with_reducible apply Entries.le_only); simp; done)
    | intro _
    | with_reducible apply Changes.ite
    | with_reducible apply Changes.foldl
    | with_reducible apply Changes.andThen ?_ (State.vlPrune_changes _ _ _ ) ?_ ?_
    | with_reducible apply Changes.andThen ?_ (State.vlAddTag_changes _ _ _ _ _ _ _ ) ?_ ?_
    | split)

theorem State.switchChan_changes (s : State) (ch : Nat) (on : Bool) (base : Int) (moved : Bool) :
    Changes [.eject, .field, .host, .perf, .out] (.only [0x0F10, 0x1205, K.channelsOn, K.recordsUnrouted]) s (State.switchChan s ch on base moved) := by
  unfold State.switchChan
  repeat' ((try with_reducible conv => arg 4; whnf); first
    | with_reducible apply Changes.refl
    | ((with_reducible show Area.sub _ _ = true); rfl)
    | ((with_reducible apply Entries.le_of_sub); rfl)
    | ((with_reducible apply Entries.le_only); simp; done)
    | intro _
    | with_reducible apply Changes.ite
    | with_reducible apply Changes.andThen ?_ (State.cmdOut_changes _ _ _ ) ?_ ?_
    | with_reducible apply Changes.andThen ?_ (State.vlStrobe_changes _ _ _ _ ) ?_ ?_
    | with_reducible apply Changes.andThen ?_ (State.markOn_changes _ _ _ ) ?_ ?_
    | with_reducible apply Changes.andThen ?_ (State.setRef_changes _ _ _ _ ) ?_ ?_
    | with_reducible apply Changes.andThen ?_ (State.vlAddTag_changes _ _ _ _ _ _ _ ) ?_ ?_
    | with_reducible apply Changes.andThen ?_ (State.count_changes _ _ _ _ _ _ _ _ ) ?_ ?_
    | split)

theorem State.driveEdge_changes (s : State) (ch : Nat) (on : Bool) (p : Pulse) (moved : Bool) :
    Changes [.eject, .field, .host, .perf, .out] (.only [0x0F10, 0x1205, K.channelsOn, K.outputNotDriven, K.recordsUnrouted]) s (State.driveEdge s ch on p moved).2 := by
  unfold State.driveEdge
  repeat' ((try with_reducible conv => arg 4; arg 1; whnf); first
    | with_reducible apply Changes.refl
    | dsimp only
    | ((with_reducible show Area.sub _ _ = true); rfl)
    | ((with_reducible apply Entries.le_of_sub); rfl)
    | ((with_reducible apply Entries.le_only); simp; done)
    | intro _
    | with_reducible apply Changes.ite
    | with_reducible apply Changes.ite_snd
    | with_reducible apply Changes.andThen ?_ (State.bump_changes _ _ _ ) ?_ ?_
    | with_reducible apply Changes.andThen ?_ (State.switchChan_changes _ _ _ _ _ ) ?_ ?_
    | with_reducible apply Changes.andThen ?_ (State.cmdOut_changes _ _ _ ) ?_ ?_
    | with_reducible apply Changes.andThen ?_ (State.markOn_changes _ _ _ ) ?_ ?_
    | split)

theorem State.tickChan_changes (s : State) (ch : Nat) :
    Changes [.eject, .field, .host, .perf, .out] (.only [0x0F10, 0x1205, K.channelsOn, K.pulsesMerged, K.pulsesMissed, K.outputNotDriven, K.recordsUnrouted]) s (State.tickChan s ch) := by
  unfold State.tickChan
  repeat' ((try with_reducible conv => arg 4; whnf); first
    | with_reducible apply Changes.refl
    | ((with_reducible show Area.sub _ _ = true); rfl)
    | ((with_reducible apply Entries.le_of_sub); rfl)
    | ((with_reducible apply Entries.le_only); simp; done)
    | intro _
    | with_reducible apply Changes.ite
    | with_reducible apply Changes.andThen ?_ (State.setPulses_changes _ _ _ ) ?_ ?_
    | with_reducible apply Changes.andThen ?_ (State.bump_changes _ _ _ ) ?_ ?_
    | with_reducible apply Changes.andThen ?_ (State.driveEdge_changes _ _ _ _ _ ) ?_ ?_
    | split)

theorem State.channelsOff_changes (s : State) :
    Changes [.eject, .field] (.only [0x0F10, K.pulsesPending, K.pulsesPeak, K.channelsOn, K.pulsesInterrupted]) s (State.channelsOff s) := by
  unfold State.channelsOff
  repeat' ((try with_reducible conv => arg 4; whnf); first
    | with_reducible apply Changes.refl
    | ((with_reducible show Area.sub _ _ = true); rfl)
    | ((with_reducible apply Entries.le_of_sub); rfl)
    | ((with_reducible apply Entries.le_only); simp; done)
    | intro _
    | with_reducible apply Changes.ite
    | with_reducible apply Changes.foldl
    | with_reducible apply Changes.andThen ?_ (State.setPulses_changes _ _ _ ) ?_ ?_
    | with_reducible apply Changes.andThen ?_ (State.bump_changes _ _ _ ) ?_ ?_
    | with_reducible apply Changes.andThen ?_ (State.cmdOut_changes _ _ _ ) ?_ ?_
    | with_reducible apply Changes.andThen ?_ (State.tallyPulses_changes _ ) ?_ ?_
    | with_reducible apply Changes.andThen ?_ (State.markOn_changes _ _ _ ) ?_ ?_
    | with_reducible apply Changes.andThen ?_ (State.setRef_changes _ _ _ _ ) ?_ ?_
    | with_reducible apply Changes.andThen ?_ (State.vlAllOff_changes _ _ ) ?_ ?_
    | split)

theorem State.measure_changes (s : State) (err : Int) :
    Changes [] (.only [K.fireEdgesMeasured, K.fireEdgesOutside, K.fireErrorMin, K.fireErrorMax]) s (State.measure s err) := by
  unfold State.measure
  repeat' ((try with_reducible conv => arg 4; whnf); first
    | with_reducible apply Changes.refl
    | ((with_reducible show Area.sub _ _ = true); rfl)
    | ((with_reducible apply Entries.le_of_sub); rfl)
    | ((with_reducible apply Entries.le_only); simp; done)
    | intro _
    | with_reducible apply Changes.ite
    | with_reducible apply Changes.andThen ?_ (State.setReg_changes _ _ _ ) ?_ ?_
    | with_reducible apply Changes.andThen ?_ (State.bump_changes _ _ _ ) ?_ ?_
    | split)

theorem State.settleRefs_changes (s : State) :
    Changes [.eject] (.only [K.fireEdgesMeasured, K.fireEdgesOutside, K.fireErrorMin, K.fireErrorMax]) s (State.settleRefs s) := by
  unfold State.settleRefs
  repeat' ((try with_reducible conv => arg 4; whnf); first
    | with_reducible apply Changes.refl
    | ((with_reducible show Area.sub _ _ = true); rfl)
    | ((with_reducible apply Entries.le_of_sub); rfl)
    | ((with_reducible apply Entries.le_only); simp; done)
    | intro _
    | with_reducible apply Changes.foldl
    | with_reducible apply Changes.andThen ?_ (State.measure_changes _ _ ) ?_ ?_
    | ((conv => arg 4; arg 24); with_reducible refine Changes.update ?_))

theorem State.refPass_changes (s : State) (prev : Nat) :
    Changes [.eject] (.only [K.fireEdgesMeasured, K.fireEdgesOutside, K.fireErrorMin, K.fireErrorMax]) s (State.refPass s prev) := by
  unfold State.refPass
  repeat' ((try with_reducible conv => arg 4; whnf); first
    | with_reducible apply Changes.refl
    | ((with_reducible show Area.sub _ _ = true); rfl)
    | ((with_reducible apply Entries.le_of_sub); rfl)
    | ((with_reducible apply Entries.le_only); simp; done)
    | intro _
    | with_reducible apply Changes.ite
    | with_reducible apply Changes.andThen ?_ (State.settleRefs_changes _ ) ?_ ?_
    | ((conv => arg 4; arg 24); with_reducible refine Changes.update ?_)
    | split)

theorem State.discardPulses_changes (s : State) :
    Changes [.eject, .field, .out] (.only [0x0F10, K.pulsesPending, K.pulsesPeak, K.channelsOn]) s (State.discardPulses s) := by
  unfold State.discardPulses
  repeat' ((try with_reducible conv => arg 4; whnf); first
    | with_reducible apply Changes.refl
    | ((with_reducible show Area.sub _ _ = true); rfl)
    | ((with_reducible apply Entries.le_of_sub); rfl)
    | ((with_reducible apply Entries.le_only); simp; done)
    | intro _
    | with_reducible apply Changes.ite
    | with_reducible apply Changes.foldl
    | with_reducible apply Changes.andThen ?_ (State.cmdOut_changes _ _ _ ) ?_ ?_
    | with_reducible apply Changes.andThen ?_ (State.setVl_changes _ _ _ ) ?_ ?_
    | with_reducible apply Changes.andThen ?_ (State.tallyPulses_changes _ ) ?_ ?_
    | with_reducible apply Changes.andThen ?_ (State.markOn_changes _ _ _ ) ?_ ?_
    | with_reducible apply Changes.andThen ?_ (State.vlControl_changes _ _ _ _ ) ?_ ?_
    | ((conv => arg 4; arg 24); with_reducible refine Changes.update ?_)
    | split)

theorem State.stampEdge_changes (s : State) (ch : Nat) (level : Bool) (ns : Nat) :
    Changes [.eject] (.only [K.fireEdgesMeasured, K.fireEdgesOutside, K.fireErrorMin, K.fireErrorMax]) s (State.stampEdge s ch level ns) := by
  unfold State.stampEdge
  repeat' ((try with_reducible conv => arg 4; whnf); first
    | with_reducible apply Changes.refl
    | ((with_reducible show Area.sub _ _ = true); rfl)
    | ((with_reducible apply Entries.le_of_sub); rfl)
    | ((with_reducible apply Entries.le_only); simp; done)
    | intro _
    | with_reducible apply Changes.ite
    | with_reducible apply Changes.andThen ?_ (State.settleRefs_changes _ ) ?_ ?_
    | ((conv => arg 4; arg 24); with_reducible refine Changes.update ?_)
    | split)

end Sys2Proof.Machine
end

