-- ==== Sys2Proof/Laws/FrameRingOps.lean ====
section
/-! SUPPORT. What each operation of Machine/RingOps.lean changes and what it leaves unchanged. -/

-- one theorem after another: see NOTES.md
set_option Elab.async false

namespace Sys2Proof.Machine

theorem State.breakLoad_changes (s : State) (n : Option Nat) :
    Changes [.engine] (.only []) s (State.breakLoad s n) := by
  unfold State.breakLoad
  repeat' ((try with_reducible conv => arg 4; whnf); first
    | with_reducible apply Changes.refl
    | intro _
    | with_reducible apply Changes.ite
    | ((conv => arg 4; arg 24); with_reducible refine Changes.update ?_)
    | split)

theorem State.setRing_changes (s : State) (r : Nat) (x : Ring) :
    Changes [.host] (.only []) s (State.setRing s r x) := by
  unfold State.setRing
  repeat' ((try with_reducible conv => arg 4; whnf); first
    | with_reducible apply Changes.refl
    | ((conv => arg 4; arg 24); with_reducible refine Changes.update ?_))

theorem State.completeHead_changes (s : State) (ring : Nat) (c : RingCmd) (status result : Nat) :
    Changes [.host, .perf, .out] (.only [0x1205, K.commandsCompleted, K.recordsUnrouted]) s (State.completeHead s ring c status result) := by
  unfold State.completeHead
  repeat' ((try with_reducible conv => arg 4; whnf); first
    | with_reducible apply Changes.refl
    | ((with_reducible show Area.sub _ _ = true); rfl)
    | ((with_reducible apply Entries.le_of_sub); rfl)
    | ((with_reducible apply Entries.le_only); simp; done)
    | intro _
    | with_reducible apply Changes.ite
    | with_reducible apply Changes.andThen ?_ (State.bump_changes _ _ _ ) ?_ ?_
    | with_reducible apply Changes.andThen ?_ (State.routeRec_changes _ _ _ ) ?_ ?_
    | with_reducible apply Changes.andThen ?_ (State.hostWrite_changes _ _ _ _ ) ?_ ?_
    | with_reducible apply Changes.andThen ?_ (State.setRing_changes _ _ _ ) ?_ ?_
    | with_reducible apply Changes.andThen ?_ (State.count_changes _ _ _ _ _ _ _ _ ) ?_ ?_
    | with_reducible apply Changes.andThen ?_ (State.emitAll_changes _ _ ) ?_ ?_
    | split)

theorem State.flushRing_changes (ring x1 : Nat) (x2 : State) :
    Changes [.host, .perf, .out] (.only [0x1205, K.commandsCompleted, K.recordsUnrouted]) x2 (State.flushRing ring x1 x2) := by
  induction x1 generalizing x2 with
  | zero => exact Changes.refl
  | succ n ih =>
  unfold State.flushRing
  repeat' ((try with_reducible conv => arg 4; whnf); first
    | with_reducible apply Changes.refl
    | (with_reducible apply Changes.trans ?_ (ih _))
    | ((with_reducible show Area.sub _ _ = true); rfl)
    | ((with_reducible apply Entries.le_of_sub); rfl)
    | ((with_reducible apply Entries.le_only); simp; done)
    | intro _
    | with_reducible apply Changes.ite
    | with_reducible apply Changes.andThen ?_ (State.setRing_changes _ _ _ ) ?_ ?_
    | with_reducible apply Changes.andThen ?_ (State.completeHead_changes _ _ _ _ _ ) ?_ ?_
    | split)

theorem State.flush_changes (s : State) (ring : Nat) :
    Changes [.host, .perf, .out] (.only [0x1205, K.commandsCompleted, K.recordsUnrouted]) s (State.flush s ring) := by
  unfold State.flush
  repeat' ((try with_reducible conv => arg 4; whnf); first
    | with_reducible apply Changes.refl
    | ((with_reducible show Area.sub _ _ = true); rfl)
    | ((with_reducible apply Entries.le_of_sub); rfl)
    | ((with_reducible apply Entries.le_only); simp; done)
    | intro _
    | with_reducible apply Changes.andThen ?_ (State.flushRing_changes _ _ _ ) ?_ ?_)

theorem State.finishWhere_changes (s : State) (ctx : Nat) (p : RingCmd → Bool) (status : Nat) :
    Changes [.engine, .host, .perf, .out] (.only [0x1205, K.commandsCompleted, K.recordsUnrouted]) s (State.finishWhere s ctx p status) := by
  unfold State.finishWhere
  repeat' ((try with_reducible conv => arg 4; whnf); first
    | with_reducible apply Changes.refl
    | ((with_reducible show Area.sub _ _ = true); rfl)
    | ((with_reducible apply Entries.le_of_sub); rfl)
    | ((with_reducible apply Entries.le_only); simp; done)
    | intro _
    | with_reducible apply Changes.ite
    | with_reducible apply Changes.foldl
    | with_reducible apply Changes.andThen ?_ (State.breakLoad_changes _ _ ) ?_ ?_
    | with_reducible apply Changes.andThen ?_ (State.setRing_changes _ _ _ ) ?_ ?_
    | with_reducible apply Changes.andThen ?_ (State.flush_changes _ _ ) ?_ ?_
    | split)

theorem State.markDone_changes (s : State) (ring index status result : Nat) :
    Changes [.host] (.only []) s (State.markDone s ring index status result) := by
  unfold State.markDone
  repeat' ((try with_reducible conv => arg 4; whnf); first
    | with_reducible apply Changes.refl
    | ((with_reducible show Area.sub _ _ = true); rfl)
    | ((with_reducible apply Entries.le_of_sub); rfl)
    | ((with_reducible apply Entries.le_only); simp; done)
    | intro _
    | with_reducible apply Changes.ite
    | with_reducible apply Changes.andThen ?_ (State.setRing_changes _ _ _ ) ?_ ?_
    | split)

theorem State.finishCmd_changes (s : State) (ring index status result : Nat) :
    Changes [.host, .perf, .out] (.only [0x1205, K.commandsCompleted, K.recordsUnrouted]) s (State.finishCmd s ring index status result) := by
  unfold State.finishCmd
  repeat' ((try with_reducible conv => arg 4; whnf); first
    | with_reducible apply Changes.refl
    | ((with_reducible show Area.sub _ _ = true); rfl)
    | ((with_reducible apply Entries.le_of_sub); rfl)
    | ((with_reducible apply Entries.le_only); simp; done)
    | intro _
    | with_reducible apply Changes.andThen ?_ (State.markDone_changes _ _ _ _ _ ) ?_ ?_
    | with_reducible apply Changes.andThen ?_ (State.flush_changes _ _ ) ?_ ?_)

theorem State.startCmd_changes (s : State) (ring index : Nat) :
    Changes [.host] (.only []) s (State.startCmd s ring index) := by
  unfold State.startCmd
  repeat' ((try with_reducible conv => arg 4; whnf); first
    | with_reducible apply Changes.refl
    | ((with_reducible show Area.sub _ _ = true); rfl)
    | ((with_reducible apply Entries.le_of_sub); rfl)
    | ((with_reducible apply Entries.le_only); simp; done)
    | intro _
    | with_reducible apply Changes.ite
    | with_reducible apply Changes.andThen ?_ (State.setRing_changes _ _ _ ) ?_ ?_
    | split)

end Sys2Proof.Machine
end

