-- ==== Sys2Proof/Laws/FrameKnotOps.lean ====
section
/-! SUPPORT. What each operation of Machine/KnotOps.lean changes and what it leaves unchanged. -/

-- one theorem after another: see NOTES.md
set_option Elab.async false

namespace Sys2Proof.Machine

theorem State.setCtx_changes (s : State) (c : Nat) (x : Context) :
    Changes [.engine] (.only []) s (State.setCtx s c x) := by
  unfold State.setCtx
  repeat' ((try with_reducible conv => arg 4; whnf); first
    | with_reducible apply Changes.refl
    | ((conv => arg 4; arg 24); with_reducible refine Changes.update ?_))

theorem State.setTport_changes (s : State) (p : Nat) (x : TPort) :
    Changes [.knots] (.only []) s (State.setTport s p x) := by
  unfold State.setTport
  repeat' ((try with_reducible conv => arg 4; whnf); first
    | with_reducible apply Changes.refl
    | ((conv => arg 4; arg 24); with_reducible refine Changes.update ?_))

theorem State.sendFrom_changes (s : State) (src port dest typ ctx : Nat) (fenced : Bool) (tag arg : Nat) (body : List Byte) :
    Changes [.knots, .perf, .out] (.only []) s (State.sendFrom s src port dest typ ctx fenced tag arg body) := by
  unfold State.sendFrom
  repeat' ((try with_reducible conv => arg 4; whnf); first
    | with_reducible apply Changes.refl
    | ((with_reducible show Area.sub _ _ = true); rfl)
    | ((with_reducible apply Entries.le_of_sub); rfl)
    | ((with_reducible apply Entries.le_only); simp; done)
    | intro _
    | with_reducible apply Changes.ite
    | with_reducible apply Changes.andThen ?_ (State.portBytes_changes _ _ _ _ ) ?_ ?_
    | with_reducible apply Changes.andThen ?_ (State.setTport_changes _ _ _ ) ?_ ?_
    | with_reducible apply Changes.andThen ?_ (State.send_changes _ _ ) ?_ ?_
    | split)

theorem State.sendOn_changes (s : State) (port dest typ ctx : Nat) (fenced : Bool) (tag arg : Nat) (body : List Byte) :
    Changes [.knots, .perf, .out] (.only []) s (State.sendOn s port dest typ ctx fenced tag arg body) := by
  unfold State.sendOn
  repeat' ((try with_reducible conv => arg 4; whnf); first
    | with_reducible apply Changes.refl
    | ((with_reducible show Area.sub _ _ = true); rfl)
    | ((with_reducible apply Entries.le_of_sub); rfl)
    | ((with_reducible apply Entries.le_only); simp; done)
    | intro _
    | with_reducible apply Changes.andThen ?_ (State.sendFrom_changes _ _ _ _ _ _ _ _ _ _ ) ?_ ?_)

theorem State.sendTo_changes (s : State) (dest typ ctx : Nat) (fenced : Bool) (tag arg : Nat) (body : List Byte) :
    Changes [.knots, .perf, .out] (.only []) s (State.sendTo s dest typ ctx fenced tag arg body) := by
  unfold State.sendTo
  repeat' ((try with_reducible conv => arg 4; whnf); first
    | with_reducible apply Changes.refl
    | ((with_reducible show Area.sub _ _ = true); rfl)
    | ((with_reducible apply Entries.le_of_sub); rfl)
    | ((with_reducible apply Entries.le_only); simp; done)
    | intro _
    | with_reducible apply Changes.ite
    | with_reducible apply Changes.andThen ?_ (State.sendOn_changes _ _ _ _ _ _ _ _ _ ) ?_ ?_
    | split)

theorem State.notify_changes (s : State) (i : Issuer) (k status : Nat) :
    Changes [.knots, .host, .perf, .out] (.only [0x1205, K.commandsCompleted, K.recordsUnrouted]) s (State.notify s i k status) := by
  unfold State.notify
  repeat' ((try with_reducible conv => arg 4; whnf); first
    | with_reducible apply Changes.refl
    | ((with_reducible show Area.sub _ _ = true); rfl)
    | ((with_reducible apply Entries.le_of_sub); rfl)
    | ((with_reducible apply Entries.le_only); simp; done)
    | intro _
    | with_reducible apply Changes.andThen ?_ (State.sendTo_changes _ _ _ _ _ _ _ _ ) ?_ ?_
    | with_reducible apply Changes.andThen ?_ (State.finishCmd_changes _ _ _ _ _ ) ?_ ?_
    | split)

theorem State.setWaiters_changes (s : State) (l : List Waiter) :
    Changes [.knots] (.only [K.waitersInUse, K.waitersPeak]) s (State.setWaiters s l) := by
  unfold State.setWaiters
  repeat' ((try with_reducible conv => arg 4; whnf); first
    | with_reducible apply Changes.refl
    | ((with_reducible show Area.sub _ _ = true); rfl)
    | ((with_reducible apply Entries.le_of_sub); rfl)
    | ((with_reducible apply Entries.le_only); simp; done)
    | intro _
    | with_reducible apply Changes.andThen ?_ (State.setReg_changes _ _ _ ) ?_ ?_
    | with_reducible apply Changes.andThen ?_ (State.peak_changes _ _ _ ) ?_ ?_
    | ((conv => arg 4; arg 24); with_reducible refine Changes.update ?_))

theorem State.setKnot_changes (s : State) (k : Nat) (w : Knot) :
    Changes [.knots] (.only []) s (State.setKnot s k w) := by
  unfold State.setKnot
  repeat' ((try with_reducible conv => arg 4; whnf); first
    | with_reducible apply Changes.refl
    | ((conv => arg 4; arg 24); with_reducible refine Changes.update ?_))

theorem State.releaseQueue_changes (k x1 : Nat) (x2 : State) :
    Changes [.knots, .host, .perf, .out] (.only [0x1205, K.waitersInUse, K.waitersPeak, K.commandsCompleted, K.recordsUnrouted]) x2 (State.releaseQueue k x1 x2) := by
  induction x1 generalizing x2 with
  | zero => exact Changes.refl
  | succ n ih =>
  unfold State.releaseQueue
  repeat' ((try with_reducible conv => arg 4; whnf); first
    | with_reducible apply Changes.refl
    | (with_reducible apply Changes.trans ?_ (ih _))
    | ((with_reducible show Area.sub _ _ = true); rfl)
    | ((with_reducible apply Entries.le_of_sub); rfl)
    | ((with_reducible apply Entries.le_only); simp; done)
    | intro _
    | with_reducible apply Changes.ite
    | with_reducible apply Changes.andThen ?_ (State.notify_changes _ _ _ _ ) ?_ ?_
    | with_reducible apply Changes.andThen ?_ (State.setWaiters_changes _ _ ) ?_ ?_
    | with_reducible apply Changes.andThen ?_ (State.setKnot_changes _ _ _ ) ?_ ?_
    | split)

theorem State.settleQueues_changes (s : State) (ks : List Nat) :
    Changes [.knots, .host, .perf, .out] (.only [0x1205, K.waitersInUse, K.waitersPeak, K.commandsCompleted, K.recordsUnrouted]) s (State.settleQueues s ks) := by
  unfold State.settleQueues
  repeat' ((try with_reducible conv => arg 4; whnf); first
    | with_reducible apply Changes.refl
    | ((with_reducible show Area.sub _ _ = true); rfl)
    | ((with_reducible apply Entries.le_of_sub); rfl)
    | ((with_reducible apply Entries.le_only); simp; done)
    | intro _
    | with_reducible apply Changes.foldl
    | with_reducible apply Changes.andThen ?_ (State.releaseQueue_changes _ _ _ ) ?_ ?_)

theorem State.knotTeardown_changes (s : State) (c reason : Nat) :
    Changes [.freeN, .blobs, .knots, .host, .perf, .out] (.only [0x1205, K.waitersInUse, K.waitersPeak, K.ownerResetReleases, K.knotDumpContext, K.commandsCompleted, K.recordsUnrouted]) s (State.knotTeardown s c reason) := by
  unfold State.knotTeardown
  repeat' ((try with_reducible conv => arg 4; whnf); first
    | with_reducible apply Changes.refl
    | ((with_reducible show Area.sub _ _ = true); rfl)
    | ((with_reducible apply Entries.le_of_sub); rfl)
    | ((with_reducible apply Entries.le_only); simp; done)
    | intro _
    | with_reducible apply Changes.foldl
    | with_reducible apply Changes.andThen ?_ (State.notify_changes _ _ _ _ ) ?_ ?_
    | with_reducible apply Changes.andThen ?_ (State.setReg_changes _ _ _ ) ?_ ?_
    | with_reducible apply Changes.andThen ?_ (State.bump_changes _ _ _ ) ?_ ?_
    | with_reducible apply Changes.andThen ?_ (State.setBlob_changes _ _ _ ) ?_ ?_
    | with_reducible apply Changes.andThen ?_ (State.settleQueues_changes _ _ ) ?_ ?_
    | with_reducible apply Changes.andThen ?_ (State.setWaiters_changes _ _ ) ?_ ?_
    | with_reducible apply Changes.andThen ?_ (State.takeFree_changes _ ) ?_ ?_
    | ((conv => arg 4; arg 24); with_reducible refine Changes.update ?_)
    | split)

theorem State.releasePlain_changes (s : State) (k : Nat) :
    Changes [.knots, .host, .perf, .out] (.only [0x1205, K.waitersInUse, K.waitersPeak, K.commandsCompleted, K.recordsUnrouted]) s (State.releasePlain s k) := by
  unfold State.releasePlain
  repeat' ((try with_reducible conv => arg 4; whnf); first
    | with_reducible apply Changes.refl
    | ((with_reducible show Area.sub _ _ = true); rfl)
    | ((with_reducible apply Entries.le_of_sub); rfl)
    | ((with_reducible apply Entries.le_only); simp; done)
    | intro _
    | with_reducible apply Changes.ite
    | with_reducible apply Changes.foldl
    | with_reducible apply Changes.andThen ?_ (State.notify_changes _ _ _ _ ) ?_ ?_
    | with_reducible apply Changes.andThen ?_ (State.setWaiters_changes _ _ ) ?_ ?_
    | split)

theorem State.evalWaiters_changes (s : State) (k : Nat) :
    Changes [.knots, .host, .perf, .out] (.only [0x1205, K.waitersInUse, K.waitersPeak, K.commandsCompleted, K.recordsUnrouted]) s (State.evalWaiters s k) := by
  unfold State.evalWaiters
  repeat' ((try with_reducible conv => arg 4; whnf); first
    | with_reducible apply Changes.refl
    | ((with_reducible show Area.sub _ _ = true); rfl)
    | ((with_reducible apply Entries.le_of_sub); rfl)
    | ((with_reducible apply Entries.le_only); simp; done)
    | intro _
    | with_reducible apply Changes.andThen ?_ (State.releasePlain_changes _ _ ) ?_ ?_
    | with_reducible apply Changes.andThen ?_ (State.releaseQueue_changes _ _ _ ) ?_ ?_)

theorem State.initKnot_changes (s : State) (k : Nat) (v : Int) :
    Changes [.knots] (.only []) s (State.initKnot s k v) := by
  unfold State.initKnot
  repeat' ((try with_reducible conv => arg 4; whnf); first
    | with_reducible apply Changes.refl
    | ((with_reducible show Area.sub _ _ = true); rfl)
    | ((with_reducible apply Entries.le_of_sub); rfl)
    | ((with_reducible apply Entries.le_only); simp; done)
    | intro _
    | with_reducible apply Changes.andThen ?_ (State.setKnot_changes _ _ _ ) ?_ ?_)

theorem State.countKnotOp_changes (s : State) (ctx : Nat) :
    Changes [.host, .perf, .out] (.only [0x1205, K.knotOps, K.recordsUnrouted]) s (State.countKnotOp s ctx) := by
  unfold State.countKnotOp
  repeat' ((try with_reducible conv => arg 4; whnf); first
    | with_reducible apply Changes.refl
    | ((with_reducible show Area.sub _ _ = true); rfl)
    | ((with_reducible apply Entries.le_of_sub); rfl)
    | ((with_reducible apply Entries.le_only); simp; done)
    | intro _
    | with_reducible apply Changes.andThen ?_ (State.bump_changes _ _ _ ) ?_ ?_
    | with_reducible apply Changes.andThen ?_ (State.count_changes _ _ _ _ _ _ _ _ ) ?_ ?_)

theorem State.knotInitOp_changes (s : State) (k : Nat) (v : Int) (ctx : Nat) :
    Changes [.knots, .host, .perf, .out] (.only [0x1205, K.waitersInUse, K.waitersPeak, K.knotOps, K.commandsCompleted, K.recordsUnrouted]) s (State.knotInitOp s k v ctx).2 := by
  unfold State.knotInitOp
  repeat' ((try with_reducible conv => arg 4; arg 1; whnf); first
    | with_reducible apply Changes.refl
    | dsimp only
    | ((with_reducible show Area.sub _ _ = true); rfl)
    | ((with_reducible apply Entries.le_of_sub); rfl)
    | ((with_reducible apply Entries.le_only); simp; done)
    | intro _
    | with_reducible apply Changes.andThen ?_ (State.evalWaiters_changes _ _ ) ?_ ?_
    | with_reducible apply Changes.andThen ?_ (State.initKnot_changes _ _ _ ) ?_ ?_
    | with_reducible apply Changes.andThen ?_ (State.countKnotOp_changes _ _ ) ?_ ?_
    | split)

theorem State.noteFrozen_changes (s : State) (st : Nat) :
    Changes [] (.only [K.frozenRefusals]) s (State.noteFrozen s st) := by
  unfold State.noteFrozen
  repeat' ((try with_reducible conv => arg 4; whnf); first
    | with_reducible apply Changes.refl
    | ((with_reducible show Area.sub _ _ = true); rfl)
    | ((with_reducible apply Entries.le_of_sub); rfl)
    | ((with_reducible apply Entries.le_only); simp; done)
    | intro _
    | with_reducible apply Changes.ite
    | with_reducible apply Changes.andThen ?_ (State.bump_changes _ _ _ ) ?_ ?_
    | split)

theorem State.knotWaitOp_changes (s : State) (k n ctx : Nat) (subtract : Bool) (timeout : Nat) (i : Issuer) :
    Changes [.knots, .host, .perf, .out] (.only [0x1205, K.waitersInUse, K.waitersPeak, K.knotOps, K.frozenRefusals, K.recordsUnrouted]) s (State.knotWaitOp s k n ctx subtract timeout i).2 := by
  unfold State.knotWaitOp
  repeat' ((try with_reducible conv => arg 4; arg 1; whnf); first
    | with_reducible apply Changes.refl
    | dsimp only
    | ((with_reducible show Area.sub _ _ = true); rfl)
    | ((with_reducible apply Entries.le_of_sub); rfl)
    | ((with_reducible apply Entries.le_only); simp; done)
    | intro _
    | with_reducible apply Changes.ite
    | with_reducible apply Changes.ite_snd
    | with_reducible apply Changes.andThen ?_ (State.noteFrozen_changes _ _ ) ?_ ?_
    | with_reducible apply Changes.andThen ?_ (State.setWaiters_changes _ _ ) ?_ ?_
    | with_reducible apply Changes.andThen ?_ (State.setKnot_changes _ _ _ ) ?_ ?_
    | with_reducible apply Changes.andThen ?_ (State.countKnotOp_changes _ _ ) ?_ ?_
    | split)

theorem State.saturate_changes (s : State) (k ctx : Nat) (isOver : Bool) (operand : Nat) :
    Changes [.knots, .host, .perf, .out] (.only [0x1205, K.knotSaturations, K.recordsUnrouted]) s (State.saturate s k ctx isOver operand) := by
  unfold State.saturate
  repeat' ((try with_reducible conv => arg 4; whnf); first
    | with_reducible apply Changes.refl
    | ((with_reducible show Area.sub _ _ = true); rfl)
    | ((with_reducible apply Entries.le_of_sub); rfl)
    | ((with_reducible apply Entries.le_only); simp; done)
    | intro _
    | with_reducible apply Changes.ite
    | with_reducible apply Changes.andThen ?_ (State.bump_changes _ _ _ ) ?_ ?_
    | with_reducible apply Changes.andThen ?_ (State.setKnot_changes _ _ _ ) ?_ ?_
    | with_reducible apply Changes.andThen ?_ (State.emit_changes _ _ ) ?_ ?_
    | split)

theorem State.knotAdd_changes (s : State) (k v ctx : Nat) (sub : Bool) :
    Changes [.knots, .host, .perf, .out] (.only [0x1205, K.waitersInUse, K.waitersPeak, K.knotOps, K.knotSaturations, K.frozenRefusals, K.commandsCompleted, K.recordsUnrouted]) s (State.knotAdd s k v ctx sub).2 := by
  unfold State.knotAdd
  repeat' ((try with_reducible conv => arg 4; arg 1; whnf); first
    | with_reducible apply Changes.refl
    | dsimp only
    | ((with_reducible show Area.sub _ _ = true); rfl)
    | ((with_reducible apply Entries.le_of_sub); rfl)
    | ((with_reducible apply Entries.le_only); simp; done)
    | intro _
    | with_reducible apply Changes.ite
    | with_reducible apply Changes.ite_snd
    | with_reducible apply Changes.andThen ?_ (State.evalWaiters_changes _ _ ) ?_ ?_
    | with_reducible apply Changes.andThen ?_ (State.noteFrozen_changes _ _ ) ?_ ?_
    | with_reducible apply Changes.andThen ?_ (State.saturate_changes _ _ _ _ _ ) ?_ ?_
    | with_reducible apply Changes.andThen ?_ (State.setKnot_changes _ _ _ ) ?_ ?_
    | with_reducible apply Changes.andThen ?_ (State.countKnotOp_changes _ _ ) ?_ ?_
    | split)

theorem State.initRange_changes (s : State) (c : Nat) (inits : SMap Int) :
    Changes [.knots] (.only []) s (State.initRange s c inits) := by
  unfold State.initRange
  repeat' ((try with_reducible conv => arg 4; whnf); first
    | with_reducible apply Changes.refl
    | ((conv => arg 4; arg 24); with_reducible refine Changes.update ?_))

end Sys2Proof.Machine
end

