-- ==== Sys2Proof/Laws/FrameFaultOps.lean ====
section
/-! SUPPORT. What each operation of Machine/FaultOps.lean changes and what it leaves unchanged. -/

-- one theorem after another: see NOTES.md
set_option Elab.async false

namespace Sys2Proof.Machine

theorem State.clearJob_changes (s : State) (c : Nat) :
    Changes [.engine] (.only []) s (State.clearJob s c) := by
  unfold State.clearJob
  repeat' ((try with_reducible conv => arg 4; whnf); first
    | with_reducible apply Changes.refl
    | ((conv => arg 4; arg 24); with_reducible refine Changes.update ?_))

theorem State.unfreeze_changes (s : State) (die : Nat) :
    Changes [.engine, .host, .faults, .perf, .out] (.only [0x0804, 0x1205, K.recordsUnrouted]) s (State.unfreeze s die) := by
  unfold State.unfreeze
  repeat' ((try with_reducible conv => arg 4; whnf); first
    | with_reducible apply Changes.refl
    | ((with_reducible show Area.sub _ _ = true); rfl)
    | ((with_reducible apply Entries.le_of_sub); rfl)
    | ((with_reducible apply Entries.le_only); simp; done)
    | intro _
    | with_reducible apply Changes.ite
    | with_reducible apply Changes.andThen ?_ (State.bump_changes _ _ _ ) ?_ ?_
    | with_reducible apply Changes.andThen ?_ (State.count_changes _ _ _ _ _ _ _ _ ) ?_ ?_
    | ((conv => arg 4; arg 24); with_reducible refine Changes.update ?_)
    | split)

theorem State.dropWork_changes (s : State) (c : Nat) :
    Changes [.ctl, .belt, .pipe, .engine, .tracks, .memory, .knots, .host, .faults, .perf, .out] (.only [0x0804, 0x1205, K.recordsUnrouted]) s (State.dropWork s c) := by
  unfold State.dropWork
  repeat' ((try with_reducible conv => arg 4; whnf); first
    | with_reducible apply Changes.refl
    | ((with_reducible show Area.sub _ _ = true); rfl)
    | ((with_reducible apply Entries.le_of_sub); rfl)
    | ((with_reducible apply Entries.le_only); simp; done)
    | intro _
    | with_reducible apply Changes.ite
    | with_reducible apply Changes.foldl
    | with_reducible apply Changes.andThen ?_ (State.clearJob_changes _ _ ) ?_ ?_
    | with_reducible apply Changes.andThen ?_ (State.unfreeze_changes _ _ ) ?_ ?_
    | with_reducible apply Changes.andThen ?_ (State.setCtx_changes _ _ _ ) ?_ ?_
    | ((conv => arg 4; arg 24); with_reducible refine Changes.update ?_)
    | split)

theorem State.gapRecord_changes (s : State) (start r : Nat) :
    Changes [.eject, .host, .perf, .out] (.only [0x1205, K.decisionsIssued, K.fallbackDecisions, K.pulsesPending, K.pulsesPeak, K.pulsesScheduled, K.pulsesMerged, K.storeFullRefused, K.lateDecisions, K.missedDecisions, K.disabledChannelRequests, K.recordsUnrouted, K.gapRecords]) s (State.gapRecord s start r) := by
  unfold State.gapRecord
  repeat' ((try with_reducible conv => arg 4; whnf); first
    | with_reducible apply Changes.refl
    | ((with_reducible show Area.sub _ _ = true); rfl)
    | ((with_reducible apply Entries.le_of_sub); rfl)
    | ((with_reducible apply Entries.le_only); simp; done)
    | intro _
    | with_reducible apply Changes.ite
    | with_reducible apply Changes.andThen ?_ (State.bump_changes _ _ _ ) ?_ ?_
    | with_reducible apply Changes.andThen ?_ (State.takeUpDecision_changes _ _ ) ?_ ?_
    | with_reducible apply Changes.andThen ?_ (State.emit_changes _ _ ) ?_ ?_
    | split)

theorem State.gapSegment_changes (s : State) (start : Nat) :
    Changes [.eject, .host, .perf, .out] (.only [0x1205, K.decisionsIssued, K.fallbackDecisions, K.pulsesPending, K.pulsesPeak, K.pulsesScheduled, K.pulsesMerged, K.storeFullRefused, K.lateDecisions, K.missedDecisions, K.disabledChannelRequests, K.recordsUnrouted, K.gapRecords]) s (State.gapSegment s start) := by
  unfold State.gapSegment
  repeat' ((try with_reducible conv => arg 4; whnf); first
    | with_reducible apply Changes.refl
    | ((with_reducible show Area.sub _ _ = true); rfl)
    | ((with_reducible apply Entries.le_of_sub); rfl)
    | ((with_reducible apply Entries.le_only); simp; done)
    | intro _
    | with_reducible apply Changes.foldl
    | with_reducible apply Changes.andThen ?_ (State.gapRecord_changes _ _ _ ) ?_ ?_)

theorem State.closeGap_changes (s : State) :
    Changes [.faults] (.only [K.fallbackGapOpen]) s (State.closeGap s) := by
  unfold State.closeGap
  repeat' ((try with_reducible conv => arg 4; whnf); first
    | with_reducible apply Changes.refl
    | ((with_reducible show Area.sub _ _ = true); rfl)
    | ((with_reducible apply Entries.le_of_sub); rfl)
    | ((with_reducible apply Entries.le_only); simp; done)
    | intro _
    | with_reducible apply Changes.andThen ?_ (State.setReg_changes _ _ _ ) ?_ ?_
    | ((conv => arg 4; arg 24); with_reducible refine Changes.update ?_))

theorem State.gapLoop_changes (x0 : Nat) (x1 : State) :
    Changes [.eject, .host, .faults, .perf, .out] (.only [0x1205, K.decisionsIssued, K.fallbackDecisions, K.pulsesPending, K.pulsesPeak, K.pulsesScheduled, K.pulsesMerged, K.storeFullRefused, K.lateDecisions, K.missedDecisions, K.disabledChannelRequests, K.recordsUnrouted, K.fallbackGapOpen, K.gapRecords]) x1 (State.gapLoop x0 x1) := by
  induction x0 generalizing x1 with
  | zero => exact Changes.refl
  | succ n ih =>
  unfold State.gapLoop
  repeat' ((try with_reducible conv => arg 4; whnf); first
    | with_reducible apply Changes.refl
    | (with_reducible apply Changes.trans ?_ (ih _))
    | ((with_reducible show Area.sub _ _ = true); rfl)
    | ((with_reducible apply Entries.le_of_sub); rfl)
    | ((with_reducible apply Entries.le_only); simp; done)
    | intro _
    | with_reducible apply Changes.ite
    | with_reducible apply Changes.andThen ?_ (State.gapSegment_changes _ _ ) ?_ ?_
    | with_reducible apply Changes.andThen ?_ (State.closeGap_changes _ ) ?_ ?_
    | ((conv => arg 4; arg 24); with_reducible refine Changes.update ?_)
    | split)

theorem State.gapPass_changes (s : State) :
    Changes [.eject, .host, .faults, .perf, .out] (.only [0x1205, K.decisionsIssued, K.fallbackDecisions, K.pulsesPending, K.pulsesPeak, K.pulsesScheduled, K.pulsesMerged, K.storeFullRefused, K.lateDecisions, K.missedDecisions, K.disabledChannelRequests, K.recordsUnrouted, K.fallbackGapOpen, K.gapRecords]) s (State.gapPass s) := by
  unfold State.gapPass
  repeat' ((try with_reducible conv => arg 4; whnf); first
    | with_reducible apply Changes.refl
    | ((with_reducible show Area.sub _ _ = true); rfl)
    | ((with_reducible apply Entries.le_of_sub); rfl)
    | ((with_reducible apply Entries.le_only); simp; done)
    | intro _
    | with_reducible apply Changes.andThen ?_ (State.gapLoop_changes _ _ ) ?_ ?_
    | split)

theorem State.openGap_changes (s : State) :
    Changes [.eject, .host, .faults, .perf, .out] (.only [0x1205, K.decisionsIssued, K.fallbackDecisions, K.pulsesPending, K.pulsesPeak, K.pulsesScheduled, K.pulsesMerged, K.storeFullRefused, K.lateDecisions, K.missedDecisions, K.disabledChannelRequests, K.recordsUnrouted, K.fallbackGapOpen, K.gapRecords]) s (State.openGap s) := by
  unfold State.openGap
  repeat' ((try with_reducible conv => arg 4; whnf); first
    | with_reducible apply Changes.refl
    | ((with_reducible show Area.sub _ _ = true); rfl)
    | ((with_reducible apply Entries.le_of_sub); rfl)
    | ((with_reducible apply Entries.le_only); simp; done)
    | intro _
    | with_reducible apply Changes.ite
    | with_reducible apply Changes.andThen ?_ (State.setReg_changes _ _ _ ) ?_ ?_
    | with_reducible apply Changes.andThen ?_ (State.gapPass_changes _ ) ?_ ?_
    | ((conv => arg 4; arg 24); with_reducible refine Changes.update ?_)
    | split)

theorem State.startTeardown_changes (s : State) (c : Nat) (t : Teardown) :
    Changes [.freeN, .blobs, .ctl, .belt, .pipe, .engine, .tracks, .eject, .memory, .knots, .host, .faults, .perf, .out] (.only [0x0804, 0x1205, K.decisionsIssued, K.fallbackDecisions, K.waitersInUse, K.waitersPeak, K.ownerResetReleases, K.knotDumpContext, K.pulsesPending, K.pulsesPeak, K.pulsesScheduled, K.pulsesMerged, K.storeFullRefused, K.lateDecisions, K.missedDecisions, K.disabledChannelRequests, K.commandsCompleted, K.recordsUnrouted, K.fallbackGapOpen, K.gapRecords]) s (State.startTeardown s c t) := by
  unfold State.startTeardown
  repeat' ((try with_reducible conv => arg 4; whnf); first
    | with_reducible apply Changes.refl
    | ((with_reducible show Area.sub _ _ = true); rfl)
    | ((with_reducible apply Entries.le_of_sub); rfl)
    | ((with_reducible apply Entries.le_only); simp; done)
    | intro _
    | with_reducible apply Changes.ite
    | with_reducible apply Changes.andThen ?_ (State.dropWork_changes _ _ ) ?_ ?_
    | with_reducible apply Changes.andThen ?_ (State.finishWhere_changes _ _ _ _ ) ?_ ?_
    | with_reducible apply Changes.andThen ?_ (State.openGap_changes _ ) ?_ ?_
    | with_reducible apply Changes.andThen ?_ (State.knotTeardown_changes _ _ _ ) ?_ ?_
    | with_reducible apply Changes.andThen ?_ (State.setCtx_changes _ _ _ ) ?_ ?_
    | ((conv => arg 4; arg 24); with_reducible refine Changes.update ?_)
    | split)

theorem State.raiseCtx_changes (s : State) (code : Nat) (scope : Scope) (src c detail : Nat) :
    Changes [.freeN, .blobs, .ctl, .belt, .pipe, .engine, .tracks, .eject, .memory, .knots, .host, .faults, .perf, .out] (.only [0x0804, 0x1205, 0x1402, 0x1703, K.decisionsIssued, K.fallbackDecisions, K.waitersInUse, K.waitersPeak, K.ownerResetReleases, K.knotDumpContext, K.pulsesPending, K.pulsesPeak, K.pulsesScheduled, K.pulsesMerged, K.storeFullRefused, K.lateDecisions, K.missedDecisions, K.disabledChannelRequests, K.commandsCompleted, K.recordsUnrouted, K.faultLogOverwritten, K.faultRecordsSuppressed, K.fallbackGapOpen, K.gapRecords]) s (State.raiseCtx s code scope src c detail) := by
  unfold State.raiseCtx
  repeat' ((try with_reducible conv => arg 4; whnf); first
    | with_reducible apply Changes.refl
    | ((with_reducible show Area.sub _ _ = true); rfl)
    | ((with_reducible apply Entries.le_of_sub); rfl)
    | ((with_reducible apply Entries.le_only); simp; done)
    | intro _
    | with_reducible apply Changes.ite
    | with_reducible apply Changes.andThen ?_ (State.startTeardown_changes _ _ _ ) ?_ ?_
    | with_reducible apply Changes.andThen ?_ (State.issueFault_changes _ _ ) ?_ ?_
    | with_reducible apply Changes.andThen ?_ (State.noteFault_changes _ _ _ _ _ _ _ ) ?_ ?_
    | ((conv => arg 4; arg 24); with_reducible refine Changes.update ?_)
    | split)

theorem State.quiesceCtx_changes (s : State) (c : Nat) :
    Changes [.ctl, .belt, .pipe, .engine, .tracks, .memory, .knots, .host, .faults, .perf, .out] (.only [0x0804, 0x1205, 0x1405, K.commandsCompleted, K.recordsUnrouted]) s (State.quiesceCtx s c) := by
  unfold State.quiesceCtx
  repeat' ((try with_reducible conv => arg 4; whnf); first
    | with_reducible apply Changes.refl
    | ((with_reducible show Area.sub _ _ = true); rfl)
    | ((with_reducible apply Entries.le_of_sub); rfl)
    | ((with_reducible apply Entries.le_only); simp; done)
    | intro _
    | with_reducible apply Changes.ite
    | with_reducible apply Changes.andThen ?_ (State.bump_changes _ _ _ ) ?_ ?_
    | with_reducible apply Changes.andThen ?_ (State.dropWork_changes _ _ ) ?_ ?_
    | with_reducible apply Changes.andThen ?_ (State.finishWhere_changes _ _ _ _ ) ?_ ?_
    | with_reducible apply Changes.andThen ?_ (State.setCtx_changes _ _ _ ) ?_ ?_
    | split)

theorem State.startRecovery_changes (s : State) (code : Nat) (r : Option Rec) :
    Changes [.freeN, .ctl, .belt, .pipe, .engine, .tracks, .eject, .memory, .knots, .host, .faults, .perf, .out] (.only [0x0804, 0x1205, 0x1405, K.decisionsIssued, K.fallbackDecisions, K.waitersInUse, K.waitersPeak, K.pulsesPending, K.pulsesPeak, K.pulsesScheduled, K.pulsesMerged, K.storeFullRefused, K.lateDecisions, K.missedDecisions, K.disabledChannelRequests, K.commandsCompleted, K.recordsUnrouted, K.recoveries, K.lastRecoveryCause, K.fallbackGapOpen, K.gapRecords, K.bootState]) s (State.startRecovery s code r) := by
  unfold State.startRecovery
  repeat' ((try with_reducible conv => arg 4; whnf); first
    | with_reducible apply Changes.refl
    | ((with_reducible show Area.sub _ _ = true); rfl)
    | ((with_reducible apply Entries.le_of_sub); rfl)
    | ((with_reducible apply Entries.le_only); simp; done)
    | intro _
    | with_reducible apply Changes.ite
    | with_reducible apply Changes.foldl
    | with_reducible apply Changes.andThen ?_ (State.notify_changes _ _ _ _ ) ?_ ?_
    | with_reducible apply Changes.andThen ?_ (State.setReg_changes _ _ _ ) ?_ ?_
    | with_reducible apply Changes.andThen ?_ (State.bump_changes _ _ _ ) ?_ ?_
    | with_reducible apply Changes.andThen ?_ (State.setWaiters_changes _ _ ) ?_ ?_
    | with_reducible apply Changes.andThen ?_ (State.openGap_changes _ ) ?_ ?_
    | with_reducible apply Changes.andThen ?_ (State.takeFree_changes _ ) ?_ ?_
    | with_reducible apply Changes.andThen ?_ (State.quiesceCtx_changes _ _ ) ?_ ?_
    | with_reducible apply Changes.andThen ?_ (State.emitAll_changes _ _ ) ?_ ?_
    | ((conv => arg 4; arg 24); refine Changes.updateIn ?_)
    | split)

theorem State.raiseReset_changes (s : State) (code src detail : Nat) :
    Changes [.freeN, .blobs, .ctl, .belt, .supplies, .intake, .pipe, .engine, .tracks, .eject, .field, .memory, .knots, .host, .net, .faults, .power, .perf, .boot, .out] (.all) s (State.raiseReset s code src detail) := by
  unfold State.raiseReset
  repeat' ((try with_reducible conv => arg 4; whnf); first
    | with_reducible apply Changes.refl
    | ((with_reducible show Area.sub _ _ = true); rfl)
    | ((with_reducible apply Entries.le_of_sub); rfl)
    | ((with_reducible apply Entries.le_only); simp; done)
    | intro _
    | with_reducible apply Changes.andThen ?_ (State.issueFault_changes _ _ ) ?_ ?_
    | with_reducible apply Changes.andThen ?_ (State.enterReset_changes _ _ ) ?_ ?_
    | with_reducible apply Changes.andThen ?_ (State.noteFault_changes _ _ _ _ _ _ _ ) ?_ ?_
    | split)

theorem State.raiseDevice_changes (s : State) (code src detail : Nat) :
    Changes [.freeN, .blobs, .ctl, .belt, .supplies, .intake, .pipe, .engine, .tracks, .eject, .field, .memory, .knots, .host, .net, .faults, .power, .perf, .boot, .out] (.all) s (State.raiseDevice s code src detail) := by
  unfold State.raiseDevice
  repeat' ((try with_reducible conv => arg 4; whnf); first
    | with_reducible apply Changes.refl
    | ((with_reducible show Area.sub _ _ = true); rfl)
    | ((with_reducible apply Entries.le_of_sub); rfl)
    | ((with_reducible apply Entries.le_only); simp; done)
    | intro _
    | with_reducible apply Changes.ite
    | with_reducible apply Changes.andThen ?_ (State.noteFault_changes _ _ _ _ _ _ _ ) ?_ ?_
    | with_reducible apply Changes.andThen ?_ (State.startRecovery_changes _ _ _ ) ?_ ?_
    | with_reducible apply Changes.andThen ?_ (State.raiseReset_changes _ _ _ _ ) ?_ ?_
    | split)

theorem State.finishTeardownWork_changes (s : State) (c : Nat) :
    Changes [.engine, .host, .faults, .perf, .out] (.only [0x1205, K.commandsCompleted, K.recordsUnrouted]) s (State.finishTeardownWork s c) := by
  unfold State.finishTeardownWork
  repeat' ((try with_reducible conv => arg 4; whnf); first
    | with_reducible apply Changes.refl
    | ((with_reducible show Area.sub _ _ = true); rfl)
    | ((with_reducible apply Entries.le_of_sub); rfl)
    | ((with_reducible apply Entries.le_only); simp; done)
    | intro _
    | with_reducible apply Changes.ite
    | with_reducible apply Changes.andThen ?_ (State.finishWhere_changes _ _ _ _ ) ?_ ?_
    | with_reducible apply Changes.andThen ?_ (State.setCtx_changes _ _ _ ) ?_ ?_
    | with_reducible apply Changes.andThen ?_ (State.emit_changes _ _ ) ?_ ?_
    | ((conv => arg 4; arg 24); with_reducible refine Changes.update ?_)
    | split)

end Sys2Proof.Machine
end

