-- ==== Sys2Proof/Laws/FrameCmd.lean ====
section
/-! SUPPORT. What each operation of Machine/Cmd.lean changes and what it leaves unchanged. -/

-- one theorem after another: see NOTES.md
set_option Elab.async false

namespace Sys2Proof.Machine

theorem State.cmdSet_changes (s : State) (k st : Nat) :
    Changes [.ctl] (.only []) s (State.cmdSet s k st) := by
  unfold State.cmdSet
  repeat' ((try with_reducible conv => arg 4; whnf); first
    | with_reducible apply Changes.refl
    | ((conv => arg 4; arg 24); with_reducible refine Changes.update ?_))

theorem State.cmdOk_changes (s : State) (k : Nat) :
    Changes [.ctl] (.only []) s (State.cmdOk s k).2 := by
  unfold State.cmdOk
  repeat' ((try with_reducible conv => arg 4; arg 1; whnf); first
    | with_reducible apply Changes.refl
    | dsimp only
    | ((with_reducible show Area.sub _ _ = true); rfl)
    | ((with_reducible apply Entries.le_of_sub); rfl)
    | ((with_reducible apply Entries.le_only); simp; done)
    | intro _
    | with_reducible apply Changes.andThen ?_ (State.cmdSet_changes _ _ _ ) ?_ ?_)

theorem State.answer_changes (s : State) (sess k st : Nat) :
    Changes [.out] (.only []) s (State.answer s sess k st) := by
  unfold State.answer
  repeat' ((try with_reducible conv => arg 4; whnf); first
    | with_reducible apply Changes.refl
    | ((with_reducible show Area.sub _ _ = true); rfl)
    | ((with_reducible apply Entries.le_of_sub); rfl)
    | ((with_reducible apply Entries.le_only); simp; done)
    | intro _
    | with_reducible apply Changes.andThen ?_ (State.send_changes _ _ ) ?_ ?_)

theorem State.command_changes {G : List Area} {E : Entries} (s : State) (sess k : Nat) (body : State → Nat × State)
    (hf : ∀ s, Changes G E s (body s).2) (hG : Area.sub [] G = true) (hE : Entries.le (.only []) E) :
    Changes G E s (State.command s sess k body).2 := by
  unfold State.command
  repeat' ((try with_reducible conv => arg 4; arg 1; whnf); first
    | with_reducible apply Changes.refl
    | dsimp only
    | ((with_reducible show Area.sub _ _ = true); rfl)
    | ((with_reducible apply Entries.le_of_sub); rfl)
    | ((with_reducible apply Entries.le_only); simp; done)
    | exact Area.sub_trans rfl hG
    | exact Entries.le_trans (Entries.le_of_sub rfl) hE
    | exact Entries.le_trans (Entries.le_only (by simp)) hE
    | intro _
    | (with_reducible apply Changes.trans ?_ (hf _))
    | split)

theorem State.runCmd_changes {G : List Area} {E : Entries} (s : State) (sess k : Nat) (body : State → Nat × State)
    (hf : ∀ s, Changes G E s (body s).2) (hG : Area.sub [.out] G = true) (hE : Entries.le (.only []) E) :
    Changes G E s (State.runCmd s sess k body) := by
  unfold State.runCmd
  repeat' ((try with_reducible conv => arg 4; whnf); first
    | with_reducible apply Changes.refl
    | ((with_reducible show Area.sub _ _ = true); rfl)
    | ((with_reducible apply Entries.le_of_sub); rfl)
    | ((with_reducible apply Entries.le_only); simp; done)
    | exact Area.sub_trans rfl hG
    | exact Entries.le_trans (Entries.le_of_sub rfl) hE
    | exact Entries.le_trans (Entries.le_only (by simp)) hE
    | intro _
    | with_reducible apply Changes.ite
    | with_reducible apply Changes.ite_snd
    | with_reducible apply Changes.ite_fst
    | with_reducible apply Changes.ite_snd_snd
    | with_reducible apply Changes.foldl
    | with_reducible apply Changes.foldl_snd
    | with_reducible apply Changes.foldl_fst
    | (with_reducible apply Changes.trans ?_ (hf _))
    | with_reducible apply Changes.andThen ?_ (State.answer_changes _ _ _ _ ) ?_ ?_
    | with_reducible apply Changes.trans ?_ (State.command_changes _ _ _ _  ?_ ?_ ?_)
    | ((conv => arg 4; arg 24); with_reducible refine Changes.update ?_)
    | split
    | with_reducible refine Changes.of_snd (by assumption) ?_)

theorem State.cmdBegin_changes (s : State) (k : Nat) :
    Changes [.ctl] (.only []) s (State.cmdBegin s k).2 := by
  unfold State.cmdBegin
  repeat' ((try with_reducible conv => arg 4; arg 1; whnf); first
    | with_reducible apply Changes.refl
    | dsimp only
    | ((with_reducible show Area.sub _ _ = true); rfl)
    | ((with_reducible apply Entries.le_of_sub); rfl)
    | ((with_reducible apply Entries.le_only); simp; done)
    | intro _
    | with_reducible apply Changes.andThen ?_ (State.cmdSet_changes _ _ _ ) ?_ ?_)

end Sys2Proof.Machine
end

