-- ==== Sys2Proof/Laws/FrameIntakeOps.lean ====
section
/-! SUPPORT. What each operation of Machine/IntakeOps.lean changes and what it leaves unchanged. -/

-- one theorem after another: see NOTES.md
set_option Elab.async false

namespace Sys2Proof.Machine

theorem State.setStream_changes (s : State) (i : Nat) (x : Stream) :
    Changes [.intake] (.only [0x0509]) s (State.setStream s i x) := by
  unfold State.setStream
  repeat' ((try with_reducible conv => arg 4; whnf); first
    | with_reducible apply Changes.refl
    | ((with_reducible show Area.sub _ _ = true); rfl)
    | ((with_reducible apply Entries.le_of_sub); rfl)
    | ((with_reducible apply Entries.le_only); simp; done)
    | intro _
    | with_reducible apply Changes.andThen ?_ (State.setReg_changes _ _ _ ) ?_ ?_
    | ((conv => arg 4; arg 24); with_reducible refine Changes.update ?_))

theorem State.setLine_changes (s : State) (i n : Nat) (l : Line) :
    Changes [.intake] (.only [0x0509]) s (State.setLine s i n l) := by
  unfold State.setLine
  repeat' ((try with_reducible conv => arg 4; whnf); first
    | with_reducible apply Changes.refl
    | ((with_reducible show Area.sub _ _ = true); rfl)
    | ((with_reducible apply Entries.le_of_sub); rfl)
    | ((with_reducible apply Entries.le_only); simp; done)
    | intro _
    | with_reducible apply Changes.ite
    | with_reducible apply Changes.andThen ?_ (State.setStream_changes _ _ _ ) ?_ ?_
    | split)

theorem State.markMissing_changes (s : State) (i n : Nat) (counted slip : Bool) :
    Changes [.intake] (.only [0x0509, 0x050B]) s (State.markMissing s i n counted slip) := by
  unfold State.markMissing
  repeat' ((try with_reducible conv => arg 4; whnf); first
    | with_reducible apply Changes.refl
    | ((with_reducible show Area.sub _ _ = true); rfl)
    | ((with_reducible apply Entries.le_of_sub); rfl)
    | ((with_reducible apply Entries.le_only); simp; done)
    | intro _
    | with_reducible apply Changes.ite
    | with_reducible apply Changes.andThen ?_ (State.bump_changes _ _ _ ) ?_ ?_
    | with_reducible apply Changes.andThen ?_ (State.setLine_changes _ _ _ _ ) ?_ ?_
    | split)

theorem State.missIncomplete_changes (s : State) (i : Nat) (slip : Bool) :
    Changes [.intake] (.only [0x0509, 0x050B]) s (State.missIncomplete s i slip) := by
  unfold State.missIncomplete
  repeat' ((try with_reducible conv => arg 4; whnf); first
    | with_reducible apply Changes.refl
    | ((with_reducible show Area.sub _ _ = true); rfl)
    | ((with_reducible apply Entries.le_of_sub); rfl)
    | ((with_reducible apply Entries.le_only); simp; done)
    | intro _
    | with_reducible apply Changes.foldl
    | with_reducible apply Changes.andThen ?_ (State.markMissing_changes _ _ _ _ _ ) ?_ ?_)

theorem State.setCam_changes (s : State) (l : Nat) (x : CamLink) :
    Changes [.intake] (.only [0x0405]) s (State.setCam s l x) := by
  unfold State.setCam
  repeat' ((try with_reducible conv => arg 4; whnf); first
    | with_reducible apply Changes.refl
    | ((with_reducible show Area.sub _ _ = true); rfl)
    | ((with_reducible apply Entries.le_of_sub); rfl)
    | ((with_reducible apply Entries.le_only); simp; done)
    | intro _
    | with_reducible apply Changes.andThen ?_ (State.setReg_changes _ _ _ ) ?_ ?_
    | ((conv => arg 4; arg 24); with_reducible refine Changes.update ?_))

theorem State.dropCtl_changes (s : State) (l : Nat) :
    Changes [.ctl, .intake] (.only [0x0405]) s (State.dropCtl s l) := by
  unfold State.dropCtl
  repeat' ((try with_reducible conv => arg 4; whnf); first
    | with_reducible apply Changes.refl
    | ((with_reducible show Area.sub _ _ = true); rfl)
    | ((with_reducible apply Entries.le_of_sub); rfl)
    | ((with_reducible apply Entries.le_only); simp; done)
    | intro _
    | with_reducible apply Changes.ite
    | with_reducible apply Changes.andThen ?_ (State.cmdSet_changes _ _ _ ) ?_ ?_
    | with_reducible apply Changes.andThen ?_ (State.setCam_changes _ _ _ ) ?_ ?_
    | split)

theorem State.idleLink_changes (s : State) (l : Nat) :
    Changes [.ctl, .intake] (.only [0x0405, 0x0406, 0x0407]) s (State.idleLink s l) := by
  unfold State.idleLink
  repeat' ((try with_reducible conv => arg 4; whnf); first
    | with_reducible apply Changes.refl
    | ((with_reducible show Area.sub _ _ = true); rfl)
    | ((with_reducible apply Entries.le_of_sub); rfl)
    | ((with_reducible apply Entries.le_only); simp; done)
    | intro _
    | with_reducible apply Changes.andThen ?_ (State.setReg_changes _ _ _ ) ?_ ?_
    | with_reducible apply Changes.andThen ?_ (State.dropCtl_changes _ _ ) ?_ ?_
    | with_reducible apply Changes.andThen ?_ (State.setCam_changes _ _ _ ) ?_ ?_)

theorem State.toDiscovery_changes (s : State) (l : Nat) :
    Changes [.ctl, .intake] (.only [0x0405, 0x0406]) s (State.toDiscovery s l) := by
  unfold State.toDiscovery
  repeat' ((try with_reducible conv => arg 4; whnf); first
    | with_reducible apply Changes.refl
    | ((with_reducible show Area.sub _ _ = true); rfl)
    | ((with_reducible apply Entries.le_of_sub); rfl)
    | ((with_reducible apply Entries.le_only); simp; done)
    | intro _
    | with_reducible apply Changes.andThen ?_ (State.setReg_changes _ _ _ ) ?_ ?_
    | with_reducible apply Changes.andThen ?_ (State.dropCtl_changes _ _ ) ?_ ?_
    | with_reducible apply Changes.andThen ?_ (State.setCam_changes _ _ _ ) ?_ ?_)

theorem State.startLink_changes (s : State) (l : Nat) :
    Changes [.ctl, .intake] (.only [0x0405, 0x0406, 0x0407]) s (State.startLink s l) := by
  unfold State.startLink
  repeat' ((try with_reducible conv => arg 4; whnf); first
    | with_reducible apply Changes.refl
    | ((with_reducible show Area.sub _ _ = true); rfl)
    | ((with_reducible apply Entries.le_of_sub); rfl)
    | ((with_reducible apply Entries.le_only); simp; done)
    | intro _
    | with_reducible apply Changes.ite
    | with_reducible apply Changes.andThen ?_ (State.setReg_changes _ _ _ ) ?_ ?_
    | with_reducible apply Changes.andThen ?_ (State.toDiscovery_changes _ _ ) ?_ ?_
    | with_reducible apply Changes.andThen ?_ (State.dropCtl_changes _ _ ) ?_ ?_
    | with_reducible apply Changes.andThen ?_ (State.setCam_changes _ _ _ ) ?_ ?_
    | split)

theorem State.startStream_changes (s : State) (i : Nat) :
    Changes [.ctl, .intake] (.only [0x0405, 0x0406, 0x0407, 0x0509]) s (State.startStream s i) := by
  unfold State.startStream
  repeat' ((try with_reducible conv => arg 4; whnf); first
    | with_reducible apply Changes.refl
    | ((with_reducible show Area.sub _ _ = true); rfl)
    | ((with_reducible apply Entries.le_of_sub); rfl)
    | ((with_reducible apply Entries.le_only); simp; done)
    | intro _
    | with_reducible apply Changes.foldl
    | with_reducible apply Changes.andThen ?_ (State.startLink_changes _ _ ) ?_ ?_
    | with_reducible apply Changes.andThen ?_ (State.setStream_changes _ _ _ ) ?_ ?_)

theorem State.setPctx_changes (s : State) (i : Nat) (x : PipeCtx) :
    Changes [.pipe] (.only [0x0615]) s (State.setPctx s i x) := by
  unfold State.setPctx
  repeat' ((try with_reducible conv => arg 4; whnf); first
    | with_reducible apply Changes.refl
    | ((with_reducible show Area.sub _ _ = true); rfl)
    | ((with_reducible apply Entries.le_of_sub); rfl)
    | ((with_reducible apply Entries.le_only); simp; done)
    | intro _
    | with_reducible apply Changes.andThen ?_ (State.setReg_changes _ _ _ ) ?_ ?_
    | ((conv => arg 4; arg 24); with_reducible refine Changes.update ?_))

theorem State.scheduleSwitch_changes (s : State) (i line : Nat) :
    Changes [.pipe] (.only [0x0615]) s (State.scheduleSwitch s i line) := by
  unfold State.scheduleSwitch
  repeat' ((try with_reducible conv => arg 4; whnf); first
    | with_reducible apply Changes.refl
    | ((with_reducible show Area.sub _ _ = true); rfl)
    | ((with_reducible apply Entries.le_of_sub); rfl)
    | ((with_reducible apply Entries.le_only); simp; done)
    | intro _
    | with_reducible apply Changes.andThen ?_ (State.setPctx_changes _ _ _ ) ?_ ?_
    | split)

theorem State.sendUplink_changes (s : State) (l tag op addr : Nat) (data : List Byte) :
    Changes [.freeN, .perf, .out] (.only []) s (State.sendUplink s l tag op addr data) := by
  unfold State.sendUplink
  repeat' ((try with_reducible conv => arg 4; whnf); first
    | with_reducible apply Changes.refl
    | ((with_reducible show Area.sub _ _ = true); rfl)
    | ((with_reducible apply Entries.le_of_sub); rfl)
    | ((with_reducible apply Entries.le_only); simp; done)
    | intro _
    | with_reducible apply Changes.andThen ?_ (State.portBytes_changes _ _ _ _ ) ?_ ?_
    | with_reducible apply Changes.andThen ?_ (State.takeFree_changes _ ) ?_ ?_
    | with_reducible apply Changes.andThen ?_ (State.send_changes _ _ ) ?_ ?_
    | split)

theorem State.camCtl_changes (s : State) (l : Nat) (op : CtlOp) (addr : Nat) (data : (List Byte)) :
    Changes [.freeN, .intake, .perf, .out] (.only [0x0405]) s (State.camCtl s l op addr data) := by
  unfold State.camCtl
  repeat' ((try with_reducible conv => arg 4; whnf); first
    | with_reducible apply Changes.refl
    | ((with_reducible show Area.sub _ _ = true); rfl)
    | ((with_reducible apply Entries.le_of_sub); rfl)
    | ((with_reducible apply Entries.le_only); simp; done)
    | intro _
    | with_reducible apply Changes.andThen ?_ (State.sendUplink_changes _ _ _ _ _ _ ) ?_ ?_
    | with_reducible apply Changes.andThen ?_ (State.setCam_changes _ _ _ ) ?_ ?_)

theorem State.resync_changes (s : State) (i : Nat) (send : Bool) :
    Changes [.freeN, .intake, .perf, .out] (.only [0x0405, 0x0509, 0x050B, 0x050C]) s (State.resync s i send) := by
  unfold State.resync
  repeat' ((try with_reducible conv => arg 4; whnf); first
    | with_reducible apply Changes.refl
    | ((with_reducible show Area.sub _ _ = true); rfl)
    | ((with_reducible apply Entries.le_of_sub); rfl)
    | ((with_reducible apply Entries.le_only); simp; done)
    | intro _
    | with_reducible apply Changes.ite
    | with_reducible apply Changes.andThen ?_ (State.bump_changes _ _ _ ) ?_ ?_
    | with_reducible apply Changes.andThen ?_ (State.setStream_changes _ _ _ ) ?_ ?_
    | with_reducible apply Changes.andThen ?_ (State.missIncomplete_changes _ _ _ ) ?_ ?_
    | with_reducible apply Changes.andThen ?_ (State.camCtl_changes _ _ _ _ _ ) ?_ ?_
    | with_reducible apply Changes.andThen ?_ (State.markMissing_changes _ _ _ _ _ ) ?_ ?_
    | split)

theorem State.failLink_changes (s : State) (l cause : Nat) :
    Changes [.ctl, .intake] (.only [0x0405, 0x0407]) s (State.failLink s l cause) := by
  unfold State.failLink
  repeat' ((try with_reducible conv => arg 4; whnf); first
    | with_reducible apply Changes.refl
    | ((with_reducible show Area.sub _ _ = true); rfl)
    | ((with_reducible apply Entries.le_of_sub); rfl)
    | ((with_reducible apply Entries.le_only); simp; done)
    | intro _
    | with_reducible apply Changes.andThen ?_ (State.setReg_changes _ _ _ ) ?_ ?_
    | with_reducible apply Changes.andThen ?_ (State.dropCtl_changes _ _ ) ?_ ?_
    | with_reducible apply Changes.andThen ?_ (State.setCam_changes _ _ _ ) ?_ ?_)

theorem State.stopStream_changes (s : State) (i : Nat) :
    Changes [.intake] (.only [0x0509]) s (State.stopStream s i) := by
  unfold State.stopStream
  repeat' ((try with_reducible conv => arg 4; whnf); first
    | with_reducible apply Changes.refl
    | ((with_reducible show Area.sub _ _ = true); rfl)
    | ((with_reducible apply Entries.le_of_sub); rfl)
    | ((with_reducible apply Entries.le_only); simp; done)
    | intro _
    | with_reducible apply Changes.andThen ?_ (State.setStream_changes _ _ _ ) ?_ ?_)

theorem State.ctlFailed_changes (s : State) (l : Nat) (c : CtlCmd) (status : Nat) :
    Changes [.ctl, .intake] (.only [0x0405, 0x0407, 0x0509]) s (State.ctlFailed s l c status) := by
  unfold State.ctlFailed
  repeat' ((try with_reducible conv => arg 4; whnf); first
    | with_reducible apply Changes.refl
    | ((with_reducible show Area.sub _ _ = true); rfl)
    | ((with_reducible apply Entries.le_of_sub); rfl)
    | ((with_reducible apply Entries.le_only); simp; done)
    | intro _
    | with_reducible apply Changes.andThen ?_ (State.failLink_changes _ _ _ ) ?_ ?_
    | with_reducible apply Changes.andThen ?_ (State.stopStream_changes _ _ ) ?_ ?_
    | with_reducible apply Changes.andThen ?_ (State.cmdSet_changes _ _ _ ) ?_ ?_
    | split)

theorem State.ctlResend_changes (s : State) (l : Nat) :
    Changes [.freeN, .ctl, .intake, .perf, .out] (.only [0x0405, 0x0407, 0x0509]) s (State.ctlResend s l) := by
  unfold State.ctlResend
  repeat' ((try with_reducible conv => arg 4; whnf); first
    | with_reducible apply Changes.refl
    | ((with_reducible show Area.sub _ _ = true); rfl)
    | ((with_reducible apply Entries.le_of_sub); rfl)
    | ((with_reducible apply Entries.le_only); simp; done)
    | intro _
    | with_reducible apply Changes.ite
    | with_reducible apply Changes.andThen ?_ (State.ctlFailed_changes _ _ _ _ ) ?_ ?_
    | with_reducible apply Changes.andThen ?_ (State.sendUplink_changes _ _ _ _ _ _ ) ?_ ?_
    | with_reducible apply Changes.andThen ?_ (State.setCam_changes _ _ _ ) ?_ ?_
    | split)

theorem State.tryRate_changes (s : State) (i r : Nat) :
    Changes [.freeN, .intake, .perf, .out] (.only [0x0405, 0x0509]) s (State.tryRate s i r) := by
  unfold State.tryRate
  repeat' ((try with_reducible conv => arg 4; whnf); first
    | with_reducible apply Changes.refl
    | ((with_reducible show Area.sub _ _ = true); rfl)
    | ((with_reducible apply Entries.le_of_sub); rfl)
    | ((with_reducible apply Entries.le_only); simp; done)
    | intro _
    | with_reducible apply Changes.foldl
    | with_reducible apply Changes.andThen ?_ (State.setStream_changes _ _ _ ) ?_ ?_
    | with_reducible apply Changes.andThen ?_ (State.camCtl_changes _ _ _ _ _ ) ?_ ?_
    | with_reducible apply Changes.andThen ?_ (State.setCam_changes _ _ _ ) ?_ ?_)

theorem State.failStream_changes (s : State) (i cause : Nat) :
    Changes [.ctl, .intake] (.only [0x0405, 0x0407, 0x0509]) s (State.failStream s i cause) := by
  unfold State.failStream
  repeat' ((try with_reducible conv => arg 4; whnf); first
    | with_reducible apply Changes.refl
    | ((with_reducible show Area.sub _ _ = true); rfl)
    | ((with_reducible apply Entries.le_of_sub); rfl)
    | ((with_reducible apply Entries.le_only); simp; done)
    | intro _
    | with_reducible apply Changes.foldl
    | with_reducible apply Changes.andThen ?_ (State.failLink_changes _ _ _ ) ?_ ?_
    | with_reducible apply Changes.andThen ?_ (State.stopStream_changes _ _ ) ?_ ?_)

theorem State.intakeRec_changes (s : State) (i kind payload : Nat) :
    Changes [.host, .perf, .out] (.only [0x1205, K.recordsUnrouted]) s (State.intakeRec s i kind payload) := by
  unfold State.intakeRec
  repeat' ((try with_reducible conv => arg 4; whnf); first
    | with_reducible apply Changes.refl
    | ((with_reducible show Area.sub _ _ = true); rfl)
    | ((with_reducible apply Entries.le_of_sub); rfl)
    | ((with_reducible apply Entries.le_only); simp; done)
    | intro _
    | with_reducible apply Changes.andThen ?_ (State.emit_changes _ _ ) ?_ ?_)

theorem State.identified_changes (s : State) (i : Nat) :
    Changes [.freeN, .ctl, .intake, .host, .perf, .out] (.only [0x0405, 0x0407, 0x0509, 0x1205, K.recordsUnrouted]) s (State.identified s i) := by
  unfold State.identified
  repeat' ((try with_reducible conv => arg 4; whnf); first
    | with_reducible apply Changes.refl
    | ((with_reducible show Area.sub _ _ = true); rfl)
    | ((with_reducible apply Entries.le_of_sub); rfl)
    | ((with_reducible apply Entries.le_only); simp; done)
    | intro _
    | with_reducible apply Changes.ite
    | with_reducible apply Changes.foldl
    | with_reducible apply Changes.andThen ?_ (State.setReg_changes _ _ _ ) ?_ ?_
    | with_reducible apply Changes.andThen ?_ (State.setStream_changes _ _ _ ) ?_ ?_
    | with_reducible apply Changes.andThen ?_ (State.camCtl_changes _ _ _ _ _ ) ?_ ?_
    | with_reducible apply Changes.andThen ?_ (State.failStream_changes _ _ _ ) ?_ ?_
    | with_reducible apply Changes.andThen ?_ (State.intakeRec_changes _ _ _ _ ) ?_ ?_
    | split)

theorem State.startAcq_changes (s : State) (i : Nat) :
    Changes [.freeN, .intake, .perf, .out] (.only [0x0405]) s (State.startAcq s i) := by
  unfold State.startAcq
  repeat' ((try with_reducible conv => arg 4; whnf); first
    | with_reducible apply Changes.refl
    | ((with_reducible show Area.sub _ _ = true); rfl)
    | ((with_reducible apply Entries.le_of_sub); rfl)
    | ((with_reducible apply Entries.le_only); simp; done)
    | intro _
    | with_reducible apply Changes.andThen ?_ (State.camCtl_changes _ _ _ _ _ ) ?_ ?_)

theorem State.acked_changes (s : State) (l : Nat) (c : CtlCmd) (a : CtlAck) :
    Changes [.freeN, .blobs, .ctl, .intake, .pipe, .host, .perf, .out] (.only [0x0405, 0x0406, 0x0407, 0x0509, 0x0615, 0x0616, 0x1205, K.recordsUnrouted]) s (State.acked s l c a) := by
  unfold State.acked
  repeat' ((try with_reducible conv => arg 4; whnf); first
    | with_reducible apply Changes.refl
    | ((with_reducible show Area.sub _ _ = true); rfl)
    | ((with_reducible apply Entries.le_of_sub); rfl)
    | ((with_reducible apply Entries.le_only); simp; done)
    | intro _
    | with_reducible apply Changes.ite
    | with_reducible apply Changes.foldl
    | with_reducible apply Changes.andThen ?_ (State.setReg_changes _ _ _ ) ?_ ?_
    | with_reducible apply Changes.andThen ?_ (State.setBlob_changes _ _ _ ) ?_ ?_
    | with_reducible apply Changes.andThen ?_ (State.setStream_changes _ _ _ ) ?_ ?_
    | with_reducible apply Changes.andThen ?_ (State.tryRate_changes _ _ _ ) ?_ ?_
    | with_reducible apply Changes.andThen ?_ (State.identified_changes _ _ ) ?_ ?_
    | with_reducible apply Changes.andThen ?_ (State.scheduleSwitch_changes _ _ _ ) ?_ ?_
    | with_reducible apply Changes.andThen ?_ (State.camCtl_changes _ _ _ _ _ ) ?_ ?_
    | with_reducible apply Changes.andThen ?_ (State.failStream_changes _ _ _ ) ?_ ?_
    | with_reducible apply Changes.andThen ?_ (State.cmdSet_changes _ _ _ ) ?_ ?_
    | with_reducible apply Changes.andThen ?_ (State.startAcq_changes _ _ ) ?_ ?_
    | with_reducible apply Changes.andThen ?_ (State.setCam_changes _ _ _ ) ?_ ?_
    | split)

theorem State.identify_changes (s : State) (i : Nat) :
    Changes [.freeN, .ctl, .intake, .perf, .out] (.only [0x0405]) s (State.identify s i) := by
  unfold State.identify
  repeat' ((try with_reducible conv => arg 4; whnf); first
    | with_reducible apply Changes.refl
    | ((with_reducible show Area.sub _ _ = true); rfl)
    | ((with_reducible apply Entries.le_of_sub); rfl)
    | ((with_reducible apply Entries.le_only); simp; done)
    | intro _
    | with_reducible apply Changes.foldl
    | with_reducible apply Changes.andThen ?_ (State.camCtl_changes _ _ _ _ _ ) ?_ ?_
    | with_reducible apply Changes.andThen ?_ (State.dropCtl_changes _ _ ) ?_ ?_
    | with_reducible apply Changes.andThen ?_ (State.setCam_changes _ _ _ ) ?_ ?_)

theorem State.rateFailed_changes (s : State) (i : Nat) :
    Changes [.freeN, .ctl, .intake, .perf, .out] (.only [0x0405, 0x0407, 0x0509]) s (State.rateFailed s i) := by
  unfold State.rateFailed
  repeat' ((try with_reducible conv => arg 4; whnf); first
    | with_reducible apply Changes.refl
    | ((with_reducible show Area.sub _ _ = true); rfl)
    | ((with_reducible apply Entries.le_of_sub); rfl)
    | ((with_reducible apply Entries.le_only); simp; done)
    | intro _
    | with_reducible apply Changes.ite
    | with_reducible apply Changes.andThen ?_ (State.tryRate_changes _ _ _ ) ?_ ?_
    | with_reducible apply Changes.andThen ?_ (State.failStream_changes _ _ _ ) ?_ ?_
    | split)

theorem State.breakLine_changes (s : State) (i : Nat) :
    Changes [.intake] (.only [0x0509, 0x050B]) s (State.breakLine s i) := by
  unfold State.breakLine
  repeat' ((try with_reducible conv => arg 4; whnf); first
    | with_reducible apply Changes.refl
    | ((with_reducible show Area.sub _ _ = true); rfl)
    | ((with_reducible apply Entries.le_of_sub); rfl)
    | ((with_reducible apply Entries.le_only); simp; done)
    | intro _
    | with_reducible apply Changes.andThen ?_ (State.setStream_changes _ _ _ ) ?_ ?_
    | with_reducible apply Changes.andThen ?_ (State.markMissing_changes _ _ _ _ _ ) ?_ ?_
    | split)

theorem State.losePacket_changes (s : State) (i t : Nat) :
    Changes [.freeN, .intake] (.only [0x040C, 0x0509, 0x050B]) s (State.losePacket s i t) := by
  unfold State.losePacket
  repeat' ((try with_reducible conv => arg 4; whnf); first
    | with_reducible apply Changes.refl
    | ((with_reducible show Area.sub _ _ = true); rfl)
    | ((with_reducible apply Entries.le_of_sub); rfl)
    | ((with_reducible apply Entries.le_only); simp; done)
    | intro _
    | with_reducible apply Changes.foldl
    | with_reducible apply Changes.andThen ?_ (State.bump_changes _ _ _ ) ?_ ?_
    | with_reducible apply Changes.andThen ?_ (State.breakLine_changes _ _ ) ?_ ?_
    | with_reducible apply Changes.andThen ?_ (State.setStream_changes _ _ _ ) ?_ ?_
    | with_reducible apply Changes.andThen ?_ (State.markMissing_changes _ _ _ _ _ ) ?_ ?_
    | with_reducible apply Changes.andThen ?_ (State.takeFree_changes _ ) ?_ ?_
    | split)

theorem State.endLine_changes (s : State) (i : Nat) :
    Changes [.intake] (.only [0x0509, 0x050A, 0x050B]) s (State.endLine s i) := by
  unfold State.endLine
  repeat' ((try with_reducible conv => arg 4; whnf); first
    | with_reducible apply Changes.refl
    | ((with_reducible show Area.sub _ _ = true); rfl)
    | ((with_reducible apply Entries.le_of_sub); rfl)
    | ((with_reducible apply Entries.le_only); simp; done)
    | intro _
    | with_reducible apply Changes.ite
    | with_reducible apply Changes.andThen ?_ (State.bump_changes _ _ _ ) ?_ ?_
    | with_reducible apply Changes.andThen ?_ (State.setStream_changes _ _ _ ) ?_ ?_
    | with_reducible apply Changes.andThen ?_ (State.setLine_changes _ _ _ _ ) ?_ ?_
    | with_reducible apply Changes.andThen ?_ (State.markMissing_changes _ _ _ _ _ ) ?_ ?_
    | split)

theorem State.takePart_changes (s : State) (i : Nat) (bad : Bool) (p : PktPart) :
    Changes [.freeN, .intake, .perf, .out] (.only [0x0405, 0x0509, 0x050A, 0x050B, 0x050C]) s (State.takePart s i bad p) := by
  unfold State.takePart
  repeat' ((try with_reducible conv => arg 4; whnf); first
    | with_reducible apply Changes.refl
    | ((with_reducible show Area.sub _ _ = true); rfl)
    | ((with_reducible apply Entries.le_of_sub); rfl)
    | ((with_reducible apply Entries.le_only); simp; done)
    | intro _
    | with_reducible apply Changes.ite
    | with_reducible apply Changes.andThen ?_ (State.endLine_changes _ _ ) ?_ ?_
    | with_reducible apply Changes.andThen ?_ (State.breakLine_changes _ _ ) ?_ ?_
    | with_reducible apply Changes.andThen ?_ (State.setStream_changes _ _ _ ) ?_ ?_
    | with_reducible apply Changes.andThen ?_ (State.setLine_changes _ _ _ _ ) ?_ ?_
    | with_reducible apply Changes.andThen ?_ (State.resync_changes _ _ _ ) ?_ ?_
    | split)

theorem State.takePacket_changes (s : State) (i : Nat) (p : Packet) :
    Changes [.freeN, .intake, .perf, .out] (.only [0x0405, 0x040B, 0x040C, 0x0509, 0x050A, 0x050B, 0x050C]) s (State.takePacket s i p) := by
  unfold State.takePacket
  repeat' ((try with_reducible conv => arg 4; whnf); first
    | with_reducible apply Changes.refl
    | ((with_reducible show Area.sub _ _ = true); rfl)
    | ((with_reducible apply Entries.le_of_sub); rfl)
    | ((with_reducible apply Entries.le_only); simp; done)
    | intro _
    | with_reducible apply Changes.ite
    | with_reducible apply Changes.foldl
    | with_reducible apply Changes.andThen ?_ (State.bump_changes _ _ _ ) ?_ ?_
    | with_reducible apply Changes.andThen ?_ (State.setStream_changes _ _ _ ) ?_ ?_
    | with_reducible apply Changes.andThen ?_ (State.portBytes_changes _ _ _ _ ) ?_ ?_
    | with_reducible apply Changes.andThen ?_ (State.takePart_changes _ _ _ _ ) ?_ ?_
    | split)

theorem State.takeHeld_changes (i x1 : Nat) (x2 : State) :
    Changes [.freeN, .intake, .perf, .out] (.only [0x0405, 0x040B, 0x040C, 0x0509, 0x050A, 0x050B, 0x050C]) x2 (State.takeHeld i x1 x2) := by
  induction x1 generalizing x2 with
  | zero => exact Changes.refl
  | succ n ih =>
  unfold State.takeHeld
  repeat' ((try with_reducible conv => arg 4; whnf); first
    | with_reducible apply Changes.refl
    | (with_reducible apply Changes.trans ?_ (ih _))
    | ((with_reducible show Area.sub _ _ = true); rfl)
    | ((with_reducible apply Entries.le_of_sub); rfl)
    | ((with_reducible apply Entries.le_only); simp; done)
    | intro _
    | with_reducible apply Changes.ite
    | with_reducible apply Changes.andThen ?_ (State.setStream_changes _ _ _ ) ?_ ?_
    | with_reducible apply Changes.andThen ?_ (State.losePacket_changes _ _ _ ) ?_ ?_
    | with_reducible apply Changes.andThen ?_ (State.takePacket_changes _ _ _ ) ?_ ?_
    | split)

theorem State.testLink_changes (s : State) (l : Nat) :
    Changes [.ctl, .intake] (.only [0x0405, 0x0406]) s (State.testLink s l) := by
  unfold State.testLink
  repeat' ((try with_reducible conv => arg 4; whnf); first
    | with_reducible apply Changes.refl
    | ((with_reducible show Area.sub _ _ = true); rfl)
    | ((with_reducible apply Entries.le_of_sub); rfl)
    | ((with_reducible apply Entries.le_only); simp; done)
    | intro _
    | with_reducible apply Changes.andThen ?_ (State.setReg_changes _ _ _ ) ?_ ?_
    | with_reducible apply Changes.andThen ?_ (State.dropCtl_changes _ _ ) ?_ ?_
    | with_reducible apply Changes.andThen ?_ (State.setCam_changes _ _ _ ) ?_ ?_)

theorem State.triggerLine_changes (s : State) (i n : Nat) :
    Changes [.intake] (.only [0x0509, 0x050B, 0x050D]) s (State.triggerLine s i n) := by
  unfold State.triggerLine
  repeat' ((try with_reducible conv => arg 4; whnf); first
    | with_reducible apply Changes.refl
    | ((with_reducible show Area.sub _ _ = true); rfl)
    | ((with_reducible apply Entries.le_of_sub); rfl)
    | ((with_reducible apply Entries.le_only); simp; done)
    | intro _
    | with_reducible apply Changes.ite
    | with_reducible apply Changes.andThen ?_ (State.bump_changes _ _ _ ) ?_ ?_
    | with_reducible apply Changes.andThen ?_ (State.setStream_changes _ _ _ ) ?_ ?_
    | with_reducible apply Changes.andThen ?_ (State.markMissing_changes _ _ _ _ _ ) ?_ ?_
    | split)

theorem State.powerTrip_changes (s : State) (l mw : Nat) :
    Changes [.freeN, .ctl, .intake, .host, .faults, .perf, .out] (.only [0x0405, 0x0407, 0x040F, 0x0509, 0x1205, 0x1402, 0x1703, K.recordsUnrouted, K.faultLogOverwritten, K.faultRecordsSuppressed]) s (State.powerTrip s l mw) := by
  unfold State.powerTrip
  repeat' ((try with_reducible conv => arg 4; whnf); first
    | with_reducible apply Changes.refl
    | ((with_reducible show Area.sub _ _ = true); rfl)
    | ((with_reducible apply Entries.le_of_sub); rfl)
    | ((with_reducible apply Entries.le_only); simp; done)
    | intro _
    | with_reducible apply Changes.andThen ?_ (State.setReg_changes _ _ _ ) ?_ ?_
    | with_reducible apply Changes.andThen ?_ (State.bump_changes _ _ _ ) ?_ ?_
    | with_reducible apply Changes.andThen ?_ (State.stopStream_changes _ _ ) ?_ ?_
    | with_reducible apply Changes.andThen ?_ (State.report_changes _ _ _ _ _ _ _ ) ?_ ?_
    | with_reducible apply Changes.andThen ?_ (State.dropCtl_changes _ _ ) ?_ ?_
    | with_reducible apply Changes.andThen ?_ (State.setCam_changes _ _ _ ) ?_ ?_
    | split)

end Sys2Proof.Machine
end

