-- ==== Sys2Proof/Laws/FramePowerOps.lean ====
section
/-! SUPPORT. What each operation of Machine/PowerOps.lean changes and what it leaves unchanged. -/

-- one theorem after another: see NOTES.md
set_option Elab.async false

namespace Sys2Proof.Machine

theorem State.beginTransition_changes (s : State) (target : PowerSt) (cause : Nat) :
    Changes [.freeN, .ctl, .power] (.only []) s (State.beginTransition s target cause) := by
  unfold State.beginTransition
  repeat' ((try with_reducible conv => arg 4; whnf); first
    | with_reducible apply Changes.refl
    | ((with_reducible show Area.sub _ _ = true); rfl)
    | ((with_reducible apply Entries.le_of_sub); rfl)
    | ((with_reducible apply Entries.le_only); simp; done)
    | intro _
    | with_reducible apply Changes.ite
    | with_reducible apply Changes.andThen ?_ (State.cmdSet_changes _ _ _ ) ?_ ?_
    | with_reducible apply Changes.andThen ?_ (State.takeFree_changes _ ) ?_ ?_
    | ((conv => arg 4; arg 24); with_reducible refine Changes.update ?_)
    | split)

theorem State.wake_changes (s : State) (bit : Nat) (from' : List PowerSt) :
    Changes [.freeN, .ctl, .power] (.only [K.lastWakeCause]) s (State.wake s bit from') := by
  unfold State.wake
  repeat' ((try with_reducible conv => arg 4; whnf); first
    | with_reducible apply Changes.refl
    | ((with_reducible show Area.sub _ _ = true); rfl)
    | ((with_reducible apply Entries.le_of_sub); rfl)
    | ((with_reducible apply Entries.le_only); simp; done)
    | intro _
    | with_reducible apply Changes.ite
    | with_reducible apply Changes.andThen ?_ (State.setReg_changes _ _ _ ) ?_ ?_
    | with_reducible apply Changes.andThen ?_ (State.beginTransition_changes _ _ _ ) ?_ ?_
    | split)

theorem State.autoWake_changes (s : State) :
    Changes [.freeN, .ctl, .power] (.only []) s (State.autoWake s) := by
  unfold State.autoWake
  repeat' ((try with_reducible conv => arg 4; whnf); first
    | with_reducible apply Changes.refl
    | ((with_reducible show Area.sub _ _ = true); rfl)
    | ((with_reducible apply Entries.le_of_sub); rfl)
    | ((with_reducible apply Entries.le_only); simp; done)
    | intro _
    | with_reducible apply Changes.ite
    | with_reducible apply Changes.andThen ?_ (State.beginTransition_changes _ _ _ ) ?_ ?_
    | split)

theorem State.trackReady_changes (s : State) :
    Changes [.power] (.only []) s (State.trackReady s) := by
  unfold State.trackReady
  repeat' ((try with_reducible conv => arg 4; whnf); first
    | with_reducible apply Changes.refl
    | intro _
    | with_reducible apply Changes.ite
    | ((conv => arg 4; arg 24); with_reducible refine Changes.update ?_)
    | split)

theorem State.setEnergy_changes (s : State) :
    Changes [] (.only [K.computeEnergyPerOp]) s (State.setEnergy s) := by
  unfold State.setEnergy
  repeat' ((try with_reducible conv => arg 4; whnf); first
    | with_reducible apply Changes.refl
    | ((with_reducible show Area.sub _ _ = true); rfl)
    | ((with_reducible apply Entries.le_of_sub); rfl)
    | ((with_reducible apply Entries.le_only); simp; done)
    | intro _
    | with_reducible apply Changes.ite
    | with_reducible apply Changes.andThen ?_ (State.setReg_changes _ _ _ ) ?_ ?_
    | split)

theorem State.replanRec_changes (s : State) (die action : Nat) :
    Changes [.host, .perf, .out] (.only [0x1205, K.recordsUnrouted]) s (State.replanRec s die action) := by
  unfold State.replanRec
  repeat' ((try with_reducible conv => arg 4; whnf); first
    | with_reducible apply Changes.refl
    | ((with_reducible show Area.sub _ _ = true); rfl)
    | ((with_reducible apply Entries.le_of_sub); rfl)
    | ((with_reducible apply Entries.le_only); simp; done)
    | intro _
    | with_reducible apply Changes.andThen ?_ (State.emit_changes _ _ ) ?_ ?_)

theorem State.replanDie_changes (s : State) (die : Nat) :
    Changes [.host, .power, .perf, .out] (.only [0x0317, 0x1205, K.computeEnergyPerOp, K.voltageSteps, K.clockSteps, K.recordsUnrouted]) s (State.replanDie s die) := by
  unfold State.replanDie
  repeat' ((try with_reducible conv => arg 4; whnf); first
    | with_reducible apply Changes.refl
    | ((with_reducible show Area.sub _ _ = true); rfl)
    | ((with_reducible apply Entries.le_of_sub); rfl)
    | ((with_reducible apply Entries.le_only); simp; done)
    | intro _
    | with_reducible apply Changes.ite
    | with_reducible apply Changes.andThen ?_ (State.setReg_changes _ _ _ ) ?_ ?_
    | with_reducible apply Changes.andThen ?_ (State.bump_changes _ _ _ ) ?_ ?_
    | with_reducible apply Changes.andThen ?_ (State.setEnergy_changes _ ) ?_ ?_
    | with_reducible apply Changes.andThen ?_ (State.replanRec_changes _ _ _ ) ?_ ?_
    | ((conv => arg 4; arg 24); with_reducible refine Changes.update ?_)
    | split)

theorem State.replanPoint_changes (s : State) :
    Changes [.host, .power, .perf, .out] (.only [0x0317, 0x1205, K.computeEnergyPerOp, K.voltageSteps, K.clockSteps, K.recordsUnrouted]) s (State.replanPoint s) := by
  unfold State.replanPoint
  repeat' ((try with_reducible conv => arg 4; whnf); first
    | with_reducible apply Changes.refl
    | ((with_reducible show Area.sub _ _ = true); rfl)
    | ((with_reducible apply Entries.le_of_sub); rfl)
    | ((with_reducible apply Entries.le_only); simp; done)
    | intro _
    | with_reducible apply Changes.ite
    | with_reducible apply Changes.foldl
    | with_reducible apply Changes.andThen ?_ (State.replanDie_changes _ _ ) ?_ ?_
    | ((conv => arg 4; arg 24); with_reducible refine Changes.update ?_)
    | split)

theorem State.presetBanks_changes (s : State) :
    Changes [.perf] (.only [0x1502]) s (State.presetBanks s) := by
  unfold State.presetBanks
  repeat' ((try with_reducible conv => arg 4; whnf); first
    | with_reducible apply Changes.refl
    | ((with_reducible show Area.sub _ _ = true); rfl)
    | ((with_reducible apply Entries.le_of_sub); rfl)
    | ((with_reducible apply Entries.le_only); simp; done)
    | intro _
    | with_reducible apply Changes.foldl
    | with_reducible apply Changes.andThen ?_ (State.setReg_changes _ _ _ ) ?_ ?_
    | with_reducible apply Changes.andThen ?_ (State.setCounter_changes _ _ _ _ ) ?_ ?_)

theorem State.resetPipes_changes (s : State) :
    Changes [.pipe] (.only []) s (State.resetPipes s) := by
  unfold State.resetPipes
  repeat' ((try with_reducible conv => arg 4; whnf); first
    | with_reducible apply Changes.refl
    | ((conv => arg 4; arg 24); with_reducible refine Changes.update ?_))

end Sys2Proof.Machine
end

