-- ==== Sys2Proof/Laws/FrameBeltOps.lean ====
section
/-! SUPPORT. What each operation of Machine/BeltOps.lean changes and what it leaves unchanged. -/

-- one theorem after another: see NOTES.md
set_option Elab.async false

namespace Sys2Proof.Machine

theorem State.setBeltSt_changes (s : State) (st : BeltSt) (follow : Dir) :
    Changes [.freeN, .ctl, .belt, .eject, .field, .power, .out] (.only [0x0F10, K.lastWakeCause, K.channelsOn]) s (State.setBeltSt s st follow) := by
  unfold State.setBeltSt
  repeat' ((try with_reducible conv => arg 4; whnf); first
    | with_reducible apply Changes.refl
    | ((with_reducible show Area.sub _ _ = true); rfl)
    | ((with_reducible apply Entries.le_of_sub); rfl)
    | ((with_reducible apply Entries.le_only); simp; done)
    | intro _
    | with_reducible apply Changes.ite
    | with_reducible apply Changes.andThen ?_ (State.endTest_changes _ _ ) ?_ ?_
    | with_reducible apply Changes.andThen ?_ (State.wake_changes _ _ _ ) ?_ ?_
    | with_reducible apply Changes.andThen ?_ (State.autoWake_changes _ ) ?_ ?_
    | ((conv => arg 4; arg 24); with_reducible refine Changes.update ?_)
    | split)

theorem State.setEnc_changes (s : State) (c : Nat) (x : EncChan) :
    Changes [.field] (.only []) s (State.setEnc s c x) := by
  unfold State.setEnc
  repeat' ((try with_reducible conv => arg 4; whnf); first
    | with_reducible apply Changes.refl
    | ((conv => arg 4; arg 24); with_reducible refine Changes.update ?_))

theorem State.moveNextLine_changes (s : State) (i n : Nat) :
    Changes [.intake] (.only [0x0208, 0x0509]) s (State.moveNextLine s i n) := by
  unfold State.moveNextLine
  repeat' ((try with_reducible conv => arg 4; whnf); first
    | with_reducible apply Changes.refl
    | ((with_reducible show Area.sub _ _ = true); rfl)
    | ((with_reducible apply Entries.le_of_sub); rfl)
    | ((with_reducible apply Entries.le_only); simp; done)
    | intro _
    | with_reducible apply Changes.andThen ?_ (State.setReg_changes _ _ _ ) ?_ ?_
    | with_reducible apply Changes.andThen ?_ (State.setStream_changes _ _ _ ) ?_ ?_)

theorem State.newNumbering_changes (s : State) (g : Nat × Nat) :
    Changes [.belt] (.only []) s (State.newNumbering s g) := by
  unfold State.newNumbering
  repeat' ((try with_reducible conv => arg 4; whnf); first
    | with_reducible apply Changes.refl
    | ((conv => arg 4; arg 24); with_reducible refine Changes.update ?_))

theorem State.recomputeLines_changes (s : State) :
    Changes [.intake] (.only [0x0208, 0x0509]) s (State.recomputeLines s) := by
  unfold State.recomputeLines
  repeat' ((try with_reducible conv => arg 4; whnf); first
    | with_reducible apply Changes.refl
    | ((with_reducible show Area.sub _ _ = true); rfl)
    | ((with_reducible apply Entries.le_of_sub); rfl)
    | ((with_reducible apply Entries.le_only); simp; done)
    | intro _
    | with_reducible apply Changes.foldl
    | with_reducible apply Changes.andThen ?_ (State.moveNextLine_changes _ _ _ ) ?_ ?_)

theorem State.formIbp_changes (s : State) :
    Changes [.belt] (.only []) s (State.formIbp s) := by
  unfold State.formIbp
  repeat' ((try with_reducible conv => arg 4; whnf); first
    | with_reducible apply Changes.refl
    | ((conv => arg 4; arg 24); with_reducible refine Changes.update ?_))

theorem State.nextTick_changes (s : State) :
    Changes [.tick, .belt] (.only []) s (State.nextTick s) := by
  unfold State.nextTick
  repeat' ((try with_reducible conv => arg 4; whnf); first
    | with_reducible apply Changes.refl
    | ((with_reducible show Area.sub _ _ = true); rfl)
    | ((with_reducible apply Entries.le_of_sub); rfl)
    | ((with_reducible apply Entries.le_only); simp; done)
    | intro _
    | with_reducible apply Changes.andThen ?_ (State.formIbp_changes _ ) ?_ ?_
    | ((conv => arg 4; arg 24); with_reducible refine Changes.update ?_))

theorem State.encCheck_changes (s : State) (c : Nat) (r : EncRead) :
    Changes [.field] (.only [0x100F, 0x1010, 0x1011, 0x1012, 0x1013]) s (State.encCheck s c r).2 := by
  unfold State.encCheck
  repeat' ((try with_reducible conv => arg 4; arg 1; whnf); first
    | with_reducible apply Changes.refl
    | dsimp only
    | ((with_reducible show Area.sub _ _ = true); rfl)
    | ((with_reducible apply Entries.le_of_sub); rfl)
    | ((with_reducible apply Entries.le_only); simp; done)
    | intro _
    | with_reducible apply Changes.ite
    | with_reducible apply Changes.ite_snd
    | with_reducible apply Changes.andThen ?_ (State.setReg_changes _ _ _ ) ?_ ?_
    | with_reducible apply Changes.andThen ?_ (State.bump_changes _ _ _ ) ?_ ?_
    | with_reducible apply Changes.andThen ?_ (State.setEnc_changes _ _ _ ) ?_ ?_
    | split)

theorem State.dropStream_changes (s : State) :
    Changes [.ctl, .belt, .pipe, .engine, .tracks, .memory, .knots, .host, .faults, .perf, .out] (.only [0x0804, 0x1205, K.tracksDiscarded, K.recordsUnrouted]) s (State.dropStream s) := by
  unfold State.dropStream
  repeat' ((try with_reducible conv => arg 4; whnf); first
    | with_reducible apply Changes.refl
    | ((with_reducible show Area.sub _ _ = true); rfl)
    | ((with_reducible apply Entries.le_of_sub); rfl)
    | ((with_reducible apply Entries.le_only); simp; done)
    | intro _
    | with_reducible apply Changes.ite
    | with_reducible apply Changes.andThen ?_ (State.bump_changes _ _ _ ) ?_ ?_
    | with_reducible apply Changes.andThen ?_ (State.dropWork_changes _ _ ) ?_ ?_
    | with_reducible apply Changes.andThen ?_ (State.setCtx_changes _ _ _ ) ?_ ?_
    | split)

theorem State.setOrigin_changes (s : State) (bc : Nat) :
    Changes [.ctl, .belt, .intake, .pipe, .engine, .tracks, .eject, .field, .memory, .knots, .host, .faults, .perf, .out] (.only [0x0208, 0x0509, 0x0804, 0x0F10, 0x1205, K.tracksDiscarded, K.pulsesPending, K.pulsesPeak, K.channelsOn, K.recordsUnrouted, K.fallbackGapOpen]) s (State.setOrigin s bc) := by
  unfold State.setOrigin
  repeat' ((try with_reducible conv => arg 4; whnf); first
    | with_reducible apply Changes.refl
    | ((with_reducible show Area.sub _ _ = true); rfl)
    | ((with_reducible apply Entries.le_of_sub); rfl)
    | ((with_reducible apply Entries.le_only); simp; done)
    | intro _
    | with_reducible apply Changes.foldl
    | with_reducible apply Changes.andThen ?_ (State.discardPulses_changes _ ) ?_ ?_
    | with_reducible apply Changes.andThen ?_ (State.closeGap_changes _ ) ?_ ?_
    | with_reducible apply Changes.andThen ?_ (State.newNumbering_changes _ _ ) ?_ ?_
    | with_reducible apply Changes.andThen ?_ (State.dropStream_changes _ ) ?_ ?_
    | with_reducible apply Changes.andThen ?_ (State.recomputeLines_changes _ ) ?_ ?_
    | ((conv => arg 4; arg 24); refine Changes.updateIn ?_))

end Sys2Proof.Machine
end

