-- ==== Sys2Proof/Laws/FrameBelt.lean ====
section
/-! SUPPORT. What each operation of Machine/Belt.lean changes and what it leaves unchanged. -/

-- one theorem after another: see NOTES.md
set_option Elab.async false

namespace Sys2Proof.Machine

theorem State.reoriginCmd_changes (s : State) (v : Nat) :
    Changes [.ctl, .belt] (.only []) s (State.reoriginCmd s v).2 := by
  unfold State.reoriginCmd
  repeat' ((try with_reducible conv => arg 4; arg 1; whnf); first
    | with_reducible apply Changes.refl
    | dsimp only
    | ((with_reducible show Area.sub _ _ = true); rfl)
    | ((with_reducible apply Entries.le_of_sub); rfl)
    | ((with_reducible apply Entries.le_only); simp; done)
    | intro _
    | with_reducible apply Changes.ite
    | with_reducible apply Changes.ite_snd
    | with_reducible apply Changes.andThen ?_ (State.cmdOk_changes _ _ ) ?_ ?_
    | ((conv => arg 4; arg 24); with_reducible refine Changes.update ?_)
    | split)

theorem State.enterLost_changes (s : State) :
    Changes [.freeN, .ctl, .belt, .eject, .field, .host, .faults, .power, .perf, .out] (.only [0x0F10, 0x1205, 0x1402, 0x1703, K.beltLostEvents, K.lastWakeCause, K.channelsOn, K.recordsUnrouted, K.faultLogOverwritten, K.faultRecordsSuppressed]) s (State.enterLost s) := by
  unfold State.enterLost
  repeat' ((try with_reducible conv => arg 4; whnf); first
    | with_reducible apply Changes.refl
    | ((with_reducible show Area.sub _ _ = true); rfl)
    | ((with_reducible apply Entries.le_of_sub); rfl)
    | ((with_reducible apply Entries.le_only); simp; done)
    | intro _
    | with_reducible apply Changes.ite
    | with_reducible apply Changes.andThen ?_ (State.bump_changes _ _ _ ) ?_ ?_
    | with_reducible apply Changes.andThen ?_ (State.trackReady_changes _ ) ?_ ?_
    | with_reducible apply Changes.andThen ?_ (State.setBeltSt_changes _ _ _ ) ?_ ?_
    | with_reducible apply Changes.andThen ?_ (State.report_changes _ _ _ _ _ _ _ ) ?_ ?_
    | with_reducible apply Changes.andThen ?_ (State.emit_changes _ _ ) ?_ ?_
    | ((conv => arg 4; arg 24); with_reducible refine Changes.update ?_)
    | split)

theorem execBeltLost_changes (s : State) {u : State} (h : execBeltLost s = .next u) :
    Changes [.freeN, .ctl, .belt, .eject, .field, .host, .faults, .power, .perf, .out] (.only [0x0F10, 0x1205, 0x1402, 0x1703, K.beltLostEvents, K.lastWakeCause, K.channelsOn, K.recordsUnrouted, K.faultLogOverwritten, K.faultRecordsSuppressed]) s u := by
  unfold execBeltLost at h
  try (have h := guardUnit_next h)
  try injection h with h
  subst h
  repeat' ((try with_reducible conv => arg 4; whnf); first
    | with_reducible apply Changes.refl
    | ((with_reducible show Area.sub _ _ = true); rfl)
    | ((with_reducible apply Entries.le_of_sub); rfl)
    | ((with_reducible apply Entries.le_only); simp; done)
    | intro _
    | with_reducible apply Changes.andThen ?_ (State.enterLost_changes _ ) ?_ ?_)

theorem execBeltReorigin_changes (sess val : Nat) (s : State) {u : State} (h : execBeltReorigin sess val s = .next u) :
    Changes [.ctl, .belt, .out] (.only []) s u := by
  unfold execBeltReorigin at h
  try (have h := guardUnit_next h)
  try injection h with h
  subst h
  repeat' ((try with_reducible conv => arg 4; whnf); first
    | with_reducible apply Changes.refl
    | ((with_reducible show Area.sub _ _ = true); rfl)
    | ((with_reducible apply Entries.le_of_sub); rfl)
    | ((with_reducible apply Entries.le_only); simp; done)
    | intro _
    | with_reducible apply Changes.andThen ?_ (State.reoriginCmd_changes _ _ ) ?_ ?_
    | with_reducible apply Changes.trans ?_ (State.runCmd_changes _ _ _ _  ?_ ?_ ?_))

theorem State.sampleLatch_changes (s : State) :
    Changes [.belt] (.only []) s (State.sampleLatch s) := by
  unfold State.sampleLatch
  repeat' ((try with_reducible conv => arg 4; whnf); first
    | with_reducible apply Changes.refl
    | intro _
    | with_reducible apply Changes.ite
    | ((conv => arg 4; arg 24); with_reducible refine Changes.update ?_)
    | split)

theorem execEncoderSampleLatch_changes (s : State) {u : State} (h : execEncoderSampleLatch s = .next u) :
    Changes [.belt] (.only []) s u := by
  unfold execEncoderSampleLatch at h
  try (have h := guardUnit_next h)
  try injection h with h
  subst h
  repeat' ((try with_reducible conv => arg 4; whnf); first
    | with_reducible apply Changes.refl
    | ((with_reducible show Area.sub _ _ = true); rfl)
    | ((with_reducible apply Entries.le_of_sub); rfl)
    | ((with_reducible apply Entries.le_only); simp; done)
    | intro _
    | with_reducible apply Changes.andThen ?_ (State.sampleLatch_changes _ ) ?_ ?_)

theorem State.rejectSample_changes (s : State) :
    Changes [.belt] (.only [K.samplesRejected]) s (State.rejectSample s) := by
  unfold State.rejectSample
  repeat' ((try with_reducible conv => arg 4; whnf); first
    | with_reducible apply Changes.refl
    | ((with_reducible show Area.sub _ _ = true); rfl)
    | ((with_reducible apply Entries.le_of_sub); rfl)
    | ((with_reducible apply Entries.le_only); simp; done)
    | intro _
    | with_reducible apply Changes.andThen ?_ (State.bump_changes _ _ _ ) ?_ ?_
    | ((conv => arg 4; arg 24); with_reducible refine Changes.update ?_))

theorem State.moveBc_changes (s : State) (d : Int) :
    Changes [.belt] (.only [K.positionSaturations, K.reverseSamplesDiscarded]) s (State.moveBc s d).2 := by
  unfold State.moveBc
  repeat' ((try with_reducible conv => arg 4; arg 1; whnf); first
    | with_reducible apply Changes.refl
    | dsimp only
    | ((with_reducible show Area.sub _ _ = true); rfl)
    | ((with_reducible apply Entries.le_of_sub); rfl)
    | ((with_reducible apply Entries.le_only); simp; done)
    | intro _
    | with_reducible apply Changes.ite
    | with_reducible apply Changes.ite_snd
    | with_reducible apply Changes.andThen ?_ (State.bump_changes _ _ _ ) ?_ ?_
    | ((conv => arg 4; arg 24); with_reducible refine Changes.update ?_)
    | split)

theorem State.sampleTaken_changes (s : State) (tl word : Nat) (lost sat : Bool) :
    Changes [.freeN, .ctl, .belt, .eject, .field, .host, .faults, .power, .perf, .out] (.only [0x0F10, 0x1205, 0x1402, 0x1703, K.lastSampleTime, K.overspeedEvents, K.lastWakeCause, K.channelsOn, K.recordsUnrouted, K.faultLogOverwritten, K.faultRecordsSuppressed]) s (State.sampleTaken s tl word lost sat) := by
  unfold State.sampleTaken
  repeat' ((try with_reducible conv => arg 4; whnf); first
    | with_reducible apply Changes.refl
    | ((with_reducible show Area.sub _ _ = true); rfl)
    | ((with_reducible apply Entries.le_of_sub); rfl)
    | ((with_reducible apply Entries.le_only); simp; done)
    | intro _
    | with_reducible apply Changes.ite
    | with_reducible apply Changes.andThen ?_ (State.setReg_changes _ _ _ ) ?_ ?_
    | with_reducible apply Changes.andThen ?_ (State.bump_changes _ _ _ ) ?_ ?_
    | with_reducible apply Changes.andThen ?_ (State.trackReady_changes _ ) ?_ ?_
    | with_reducible apply Changes.andThen ?_ (State.setBeltSt_changes _ _ _ ) ?_ ?_
    | with_reducible apply Changes.andThen ?_ (State.formIbp_changes _ ) ?_ ?_
    | with_reducible apply Changes.andThen ?_ (State.report_changes _ _ _ _ _ _ _ ) ?_ ?_
    | with_reducible apply Changes.andThen ?_ (State.emit_changes _ _ ) ?_ ?_
    | ((conv => arg 4; arg 24); with_reducible refine Changes.update ?_)
    | split)

theorem State.takeSample_changes (s : State) (tl word : Nat) :
    Changes [.freeN, .ctl, .belt, .intake, .pipe, .engine, .tracks, .eject, .field, .memory, .knots, .host, .faults, .power, .perf, .out] (.only [0x0208, 0x0509, 0x0804, 0x0F10, 0x1205, 0x1402, 0x1703, K.lastSampleTime, K.samplesRejected, K.overspeedEvents, K.positionSaturations, K.reverseSamplesDiscarded, K.lastWakeCause, K.tracksDiscarded, K.pulsesPending, K.pulsesPeak, K.channelsOn, K.recordsUnrouted, K.faultLogOverwritten, K.faultRecordsSuppressed, K.fallbackGapOpen]) s (State.takeSample s tl word) := by
  unfold State.takeSample
  repeat' ((try with_reducible conv => arg 4; whnf); first
    | with_reducible apply Changes.refl
    | ((with_reducible show Area.sub _ _ = true); rfl)
    | ((with_reducible apply Entries.le_of_sub); rfl)
    | ((with_reducible apply Entries.le_only); simp; done)
    | intro _
    | with_reducible apply Changes.ite
    | with_reducible apply Changes.andThen ?_ (State.moveBc_changes _ _ ) ?_ ?_
    | with_reducible apply Changes.andThen ?_ (State.sampleTaken_changes _ _ _ _ _ ) ?_ ?_
    | with_reducible apply Changes.andThen ?_ (State.rejectSample_changes _ ) ?_ ?_
    | with_reducible apply Changes.andThen ?_ (State.setOrigin_changes _ _ ) ?_ ?_
    | split)

theorem State.completeSample_changes (s : State) (r : EncRead) :
    Changes [.freeN, .ctl, .belt, .intake, .pipe, .engine, .tracks, .eject, .field, .memory, .knots, .host, .faults, .power, .perf, .out] (.only [0x0208, 0x0509, 0x0804, 0x0F10, 0x100F, 0x1010, 0x1011, 0x1012, 0x1013, 0x1205, 0x1402, 0x1703, K.lastSampleTime, K.lastSampleWord, K.samplesRejected, K.overspeedEvents, K.positionSaturations, K.reverseSamplesDiscarded, K.lastWakeCause, K.tracksDiscarded, K.pulsesPending, K.pulsesPeak, K.channelsOn, K.recordsUnrouted, K.faultLogOverwritten, K.faultRecordsSuppressed, K.fallbackGapOpen]) s (State.completeSample s r) := by
  unfold State.completeSample
  repeat' ((try with_reducible conv => arg 4; whnf); first
    | with_reducible apply Changes.refl
    | ((with_reducible show Area.sub _ _ = true); rfl)
    | ((with_reducible apply Entries.le_of_sub); rfl)
    | ((with_reducible apply Entries.le_only); simp; done)
    | intro _
    | with_reducible apply Changes.ite
    | with_reducible apply Changes.andThen ?_ (State.setReg_changes _ _ _ ) ?_ ?_
    | with_reducible apply Changes.andThen ?_ (State.encCheck_changes _ _ _ ) ?_ ?_
    | with_reducible apply Changes.andThen ?_ (State.rejectSample_changes _ ) ?_ ?_
    | with_reducible apply Changes.andThen ?_ (State.takeSample_changes _ _ _ ) ?_ ?_
    | ((conv => arg 4; arg 24); with_reducible refine Changes.update ?_)
    | split)

theorem execSampleComplete_changes (r : EncRead) (s : State) {u : State} (h : execSampleComplete r s = .next u) :
    Changes [.freeN, .ctl, .belt, .intake, .pipe, .engine, .tracks, .eject, .field, .memory, .knots, .host, .faults, .power, .perf, .out] (.only [0x0208, 0x0509, 0x0804, 0x0F10, 0x100F, 0x1010, 0x1011, 0x1012, 0x1013, 0x1205, 0x1402, 0x1703, K.lastSampleTime, K.lastSampleWord, K.samplesRejected, K.overspeedEvents, K.positionSaturations, K.reverseSamplesDiscarded, K.lastWakeCause, K.tracksDiscarded, K.pulsesPending, K.pulsesPeak, K.channelsOn, K.recordsUnrouted, K.faultLogOverwritten, K.faultRecordsSuppressed, K.fallbackGapOpen]) s u := by
  unfold execSampleComplete at h
  try (have h := guardUnit_next h)
  try injection h with h
  subst h
  repeat' ((try with_reducible conv => arg 4; whnf); first
    | with_reducible apply Changes.refl
    | ((with_reducible show Area.sub _ _ = true); rfl)
    | ((with_reducible apply Entries.le_of_sub); rfl)
    | ((with_reducible apply Entries.le_only); simp; done)
    | intro _
    | with_reducible apply Changes.andThen ?_ (State.completeSample_changes _ _ ) ?_ ?_)

theorem State.enterHoldover_changes (s : State) :
    Changes [.freeN, .ctl, .belt, .eject, .field, .power, .out] (.only [0x0F10, K.holdoverEntries, K.lastWakeCause, K.channelsOn]) s (State.enterHoldover s) := by
  unfold State.enterHoldover
  repeat' ((try with_reducible conv => arg 4; whnf); first
    | with_reducible apply Changes.refl
    | ((with_reducible show Area.sub _ _ = true); rfl)
    | ((with_reducible apply Entries.le_of_sub); rfl)
    | ((with_reducible apply Entries.le_only); simp; done)
    | intro _
    | with_reducible apply Changes.ite
    | with_reducible apply Changes.andThen ?_ (State.bump_changes _ _ _ ) ?_ ?_
    | with_reducible apply Changes.andThen ?_ (State.trackReady_changes _ ) ?_ ?_
    | with_reducible apply Changes.andThen ?_ (State.setBeltSt_changes _ _ _ ) ?_ ?_
    | split)

theorem execHoldoverEntry_changes (s : State) {u : State} (h : execHoldoverEntry s = .next u) :
    Changes [.freeN, .ctl, .belt, .eject, .field, .power, .out] (.only [0x0F10, K.holdoverEntries, K.lastWakeCause, K.channelsOn]) s u := by
  unfold execHoldoverEntry at h
  try (have h := guardUnit_next h)
  try injection h with h
  subst h
  repeat' ((try with_reducible conv => arg 4; whnf); first
    | with_reducible apply Changes.refl
    | ((with_reducible show Area.sub _ _ = true); rfl)
    | ((with_reducible apply Entries.le_of_sub); rfl)
    | ((with_reducible apply Entries.le_only); simp; done)
    | intro _
    | with_reducible apply Changes.andThen ?_ (State.enterHoldover_changes _ ) ?_ ?_)

end Sys2Proof.Machine
end

