-- ==== Sys2Proof/Laws/FrameArrayOps.lean ====
section
/-! SUPPORT. What each operation of Machine/ArrayOps.lean changes and what it leaves unchanged. -/

-- one theorem after another: see NOTES.md
set_option Elab.async false

namespace Sys2Proof.Machine

theorem State.setArray_changes (s : State) (die n : Nat) (x : ArraySt) :
    Changes [.engine] (.only []) s (State.setArray s die n x) := by
  unfold State.setArray
  repeat' ((try with_reducible conv => arg 4; whnf); first
    | with_reducible apply Changes.refl
    | ((conv => arg 4; arg 24); with_reducible refine Changes.update ?_))

theorem State.clearSuspects_changes (s : State) (j : Nat) :
    Changes [.engine] (.only []) s (State.clearSuspects s j) := by
  unfold State.clearSuspects
  repeat' ((try with_reducible conv => arg 4; whnf); first
    | with_reducible apply Changes.refl
    | ((with_reducible show Area.sub _ _ = true); rfl)
    | ((with_reducible apply Entries.le_of_sub); rfl)
    | ((with_reducible apply Entries.le_only); simp; done)
    | intro _
    | with_reducible apply Changes.ite
    | with_reducible apply Changes.foldl
    | with_reducible apply Changes.andThen ?_ (State.setArray_changes _ _ _ _ ) ?_ ?_
    | ((conv => arg 4; arg 24); with_reducible refine Changes.update ?_)
    | split)

theorem State.unsuspect_changes (s : State) (die n : Nat) :
    Changes [.engine] (.only []) s (State.unsuspect s die n) := by
  unfold State.unsuspect
  repeat' ((try with_reducible conv => arg 4; whnf); first
    | with_reducible apply Changes.refl
    | ((with_reducible show Area.sub _ _ = true); rfl)
    | ((with_reducible apply Entries.le_of_sub); rfl)
    | ((with_reducible apply Entries.le_only); simp; done)
    | intro _
    | with_reducible apply Changes.ite
    | with_reducible apply Changes.andThen ?_ (State.setArray_changes _ _ _ _ ) ?_ ?_
    | ((conv => arg 4; arg 24); with_reducible refine Changes.update ?_)
    | split)

theorem State.setServed_changes (s : State) (die sp : Nat) (n : Option Nat) :
    Changes [.engine] (.only []) s (State.setServed s die sp n) := by
  unfold State.setServed
  repeat' ((try with_reducible conv => arg 4; whnf); first
    | with_reducible apply Changes.refl
    | ((conv => arg 4; arg 24); with_reducible refine Changes.update ?_))

theorem State.applyRestore_changes (s : State) (die n : Nat) :
    Changes [.engine, .host, .perf, .out] (.only [0x1205, K.recordsUnrouted]) s (State.applyRestore s die n) := by
  unfold State.applyRestore
  repeat' ((try with_reducible conv => arg 4; whnf); first
    | with_reducible apply Changes.refl
    | ((with_reducible show Area.sub _ _ = true); rfl)
    | ((with_reducible apply Entries.le_of_sub); rfl)
    | ((with_reducible apply Entries.le_only); simp; done)
    | intro _
    | with_reducible apply Changes.ite
    | with_reducible apply Changes.andThen ?_ (State.unsuspect_changes _ _ _ ) ?_ ?_
    | with_reducible apply Changes.andThen ?_ (State.setArray_changes _ _ _ _ ) ?_ ?_
    | with_reducible apply Changes.andThen ?_ (State.setServed_changes _ _ _ _ ) ?_ ?_
    | with_reducible apply Changes.andThen ?_ (State.emit_changes _ _ ) ?_ ?_
    | split)

theorem State.applyRetire_changes (s : State) (die n : Nat) :
    Changes [.engine, .host, .perf, .out] (.only [0x0808, 0x1205, K.recordsUnrouted]) s (State.applyRetire s die n) := by
  unfold State.applyRetire
  repeat' ((try with_reducible conv => arg 4; whnf); first
    | with_reducible apply Changes.refl
    | ((with_reducible show Area.sub _ _ = true); rfl)
    | ((with_reducible apply Entries.le_of_sub); rfl)
    | ((with_reducible apply Entries.le_only); simp; done)
    | intro _
    | with_reducible apply Changes.ite
    | with_reducible apply Changes.andThen ?_ (State.bump_changes _ _ _ ) ?_ ?_
    | with_reducible apply Changes.andThen ?_ (State.setArray_changes _ _ _ _ ) ?_ ?_
    | with_reducible apply Changes.andThen ?_ (State.setServed_changes _ _ _ _ ) ?_ ?_
    | with_reducible apply Changes.andThen ?_ (State.emit_changes _ _ ) ?_ ?_
    | split)

theorem State.checkCapacity_changes (s : State) :
    Changes [.freeN, .blobs, .ctl, .belt, .pipe, .engine, .tracks, .eject, .memory, .knots, .host, .faults, .perf, .out] (.only [0x0804, 0x1205, 0x1402, 0x1703, K.decisionsIssued, K.fallbackDecisions, K.waitersInUse, K.waitersPeak, K.ownerResetReleases, K.knotDumpContext, K.pulsesPending, K.pulsesPeak, K.pulsesScheduled, K.pulsesMerged, K.storeFullRefused, K.lateDecisions, K.missedDecisions, K.disabledChannelRequests, K.commandsCompleted, K.recordsUnrouted, K.faultLogOverwritten, K.faultRecordsSuppressed, K.fallbackGapOpen, K.gapRecords]) s (State.checkCapacity s) := by
  unfold State.checkCapacity
  repeat' ((try with_reducible conv => arg 4; whnf); first
    | with_reducible apply Changes.refl
    | ((with_reducible show Area.sub _ _ = true); rfl)
    | ((with_reducible apply Entries.le_of_sub); rfl)
    | ((with_reducible apply Entries.le_only); simp; done)
    | intro _
    | with_reducible apply Changes.ite
    | with_reducible apply Changes.foldl
    | with_reducible apply Changes.andThen ?_ (State.raiseCtx_changes _ _ _ _ _ _ ) ?_ ?_
    | split)

theorem State.boundary_changes (s : State) :
    Changes [.freeN, .blobs, .ctl, .belt, .pipe, .engine, .tracks, .eject, .memory, .knots, .host, .faults, .perf, .out] (.only [0x0804, 0x0808, 0x1205, 0x1402, 0x1703, K.decisionsIssued, K.fallbackDecisions, K.waitersInUse, K.waitersPeak, K.ownerResetReleases, K.knotDumpContext, K.pulsesPending, K.pulsesPeak, K.pulsesScheduled, K.pulsesMerged, K.storeFullRefused, K.lateDecisions, K.missedDecisions, K.disabledChannelRequests, K.commandsCompleted, K.recordsUnrouted, K.faultLogOverwritten, K.faultRecordsSuppressed, K.fallbackGapOpen, K.gapRecords]) s (State.boundary s) := by
  unfold State.boundary
  repeat' ((try with_reducible conv => arg 4; whnf); first
    | with_reducible apply Changes.refl
    | ((with_reducible show Area.sub _ _ = true); rfl)
    | ((with_reducible apply Entries.le_of_sub); rfl)
    | ((with_reducible apply Entries.le_only); simp; done)
    | intro _
    | with_reducible apply Changes.ite
    | with_reducible apply Changes.foldl
    | with_reducible apply Changes.andThen ?_ (State.applyRestore_changes _ _ _ ) ?_ ?_
    | with_reducible apply Changes.andThen ?_ (State.applyRetire_changes _ _ _ ) ?_ ?_
    | with_reducible apply Changes.andThen ?_ (State.checkCapacity_changes _ ) ?_ ?_
    | ((conv => arg 4; arg 24); with_reducible refine Changes.update ?_)
    | split)

theorem State.noteRetire_changes (s : State) (die n cause : Nat) :
    Changes [.freeN, .host, .faults, .perf, .out] (.only [0x1205, 0x1402, 0x1703, K.recordsUnrouted, K.faultLogOverwritten, K.faultRecordsSuppressed]) s (State.noteRetire s die n cause) := by
  unfold State.noteRetire
  repeat' ((try with_reducible conv => arg 4; whnf); first
    | with_reducible apply Changes.refl
    | ((with_reducible show Area.sub _ _ = true); rfl)
    | ((with_reducible apply Entries.le_of_sub); rfl)
    | ((with_reducible apply Entries.le_only); simp; done)
    | intro _
    | with_reducible apply Changes.andThen ?_ (State.report_changes _ _ _ _ _ _ _ ) ?_ ?_
    | with_reducible apply Changes.andThen ?_ (State.emit_changes _ _ ) ?_ ?_)

theorem State.retire_changes (s : State) (die n cause : Nat) :
    Changes [.freeN, .blobs, .ctl, .belt, .pipe, .engine, .tracks, .eject, .memory, .knots, .host, .faults, .perf, .out] (.only [0x0804, 0x0808, 0x1205, 0x1402, 0x1703, K.decisionsIssued, K.fallbackDecisions, K.waitersInUse, K.waitersPeak, K.ownerResetReleases, K.knotDumpContext, K.pulsesPending, K.pulsesPeak, K.pulsesScheduled, K.pulsesMerged, K.storeFullRefused, K.lateDecisions, K.missedDecisions, K.disabledChannelRequests, K.commandsCompleted, K.recordsUnrouted, K.faultLogOverwritten, K.faultRecordsSuppressed, K.fallbackGapOpen, K.gapRecords]) s (State.retire s die n cause) := by
  unfold State.retire
  repeat' ((try with_reducible conv => arg 4; whnf); first
    | with_reducible apply Changes.refl
    | ((with_reducible show Area.sub _ _ = true); rfl)
    | ((with_reducible apply Entries.le_of_sub); rfl)
    | ((with_reducible apply Entries.le_only); simp; done)
    | intro _
    | with_reducible apply Changes.ite
    | with_reducible apply Changes.andThen ?_ (State.boundary_changes _ ) ?_ ?_
    | with_reducible apply Changes.andThen ?_ (State.noteRetire_changes _ _ _ _ ) ?_ ?_
    | ((conv => arg 4; arg 24); with_reducible refine Changes.update ?_)
    | split)

theorem State.arrayMiss_changes (s : State) (die n stripe : Nat) :
    Changes [.freeN, .blobs, .ctl, .belt, .pipe, .engine, .tracks, .eject, .memory, .knots, .host, .faults, .perf, .out] (.only [0x0804, 0x0808, 0x1205, 0x1402, 0x1703, K.decisionsIssued, K.fallbackDecisions, K.waitersInUse, K.waitersPeak, K.ownerResetReleases, K.knotDumpContext, K.pulsesPending, K.pulsesPeak, K.pulsesScheduled, K.pulsesMerged, K.storeFullRefused, K.lateDecisions, K.missedDecisions, K.disabledChannelRequests, K.commandsCompleted, K.recordsUnrouted, K.faultLogOverwritten, K.faultRecordsSuppressed, K.fallbackGapOpen, K.gapRecords]) s (State.arrayMiss s die n stripe) := by
  unfold State.arrayMiss
  repeat' ((try with_reducible conv => arg 4; whnf); first
    | with_reducible apply Changes.refl
    | ((with_reducible show Area.sub _ _ = true); rfl)
    | ((with_reducible apply Entries.le_of_sub); rfl)
    | ((with_reducible apply Entries.le_only); simp; done)
    | intro _
    | with_reducible apply Changes.ite
    | with_reducible apply Changes.andThen ?_ (State.retire_changes _ _ _ _ ) ?_ ?_
    | with_reducible apply Changes.andThen ?_ (State.setArray_changes _ _ _ _ ) ?_ ?_
    | ((conv => arg 4; arg 24); with_reducible refine Changes.update ?_)
    | split)

theorem State.arrayCmd_changes {G : List Area} {E : Entries} (s : State) (code : Nat) (body : Nat → Nat → Nat × State)
    (hf : ∀ a0 a1, Changes G E s (body a0 a1).2) (hG : Area.sub [] G = true) (hE : Entries.le (.only []) E) :
    Changes G E s (State.arrayCmd s code body).2 := by
  unfold State.arrayCmd
  repeat' ((try with_reducible conv => arg 4; arg 1; whnf); first
    | with_reducible apply Changes.refl
    | dsimp only
    | ((with_reducible show Area.sub _ _ = true); rfl)
    | ((with_reducible apply Entries.le_of_sub); rfl)
    | ((with_reducible apply Entries.le_only); simp; done)
    | exact Area.sub_trans rfl hG
    | exact Entries.le_trans (Entries.le_of_sub rfl) hE
    | exact Entries.le_trans (Entries.le_only (by simp)) hE
    | intro _
    | with_reducible apply Changes.ite
    | with_reducible apply Changes.ite_snd
    | (with_reducible apply Changes.trans ?_ (hf _ _))
    | split)

theorem State.retireCmd_changes (s : State) (code : Nat) :
    Changes [.freeN, .blobs, .ctl, .belt, .pipe, .engine, .tracks, .eject, .memory, .knots, .host, .faults, .perf, .out] (.only [0x0804, 0x0808, 0x1205, 0x1402, 0x1703, K.decisionsIssued, K.fallbackDecisions, K.waitersInUse, K.waitersPeak, K.ownerResetReleases, K.knotDumpContext, K.pulsesPending, K.pulsesPeak, K.pulsesScheduled, K.pulsesMerged, K.storeFullRefused, K.lateDecisions, K.missedDecisions, K.disabledChannelRequests, K.commandsCompleted, K.recordsUnrouted, K.faultLogOverwritten, K.faultRecordsSuppressed, K.fallbackGapOpen, K.gapRecords]) s (State.retireCmd s code).2 := by
  unfold State.retireCmd
  repeat' ((try with_reducible conv => arg 4; arg 1; whnf); first
    | with_reducible apply Changes.refl
    | dsimp only
    | ((with_reducible show Area.sub _ _ = true); rfl)
    | ((with_reducible apply Entries.le_of_sub); rfl)
    | ((with_reducible apply Entries.le_only); simp; done)
    | intro _
    | with_reducible apply Changes.ite
    | with_reducible apply Changes.ite_snd
    | with_reducible apply Changes.trans ?_ (State.arrayCmd_changes _ _ _  ?_ ?_ ?_)
    | with_reducible apply Changes.andThen ?_ (State.retire_changes _ _ _ _ ) ?_ ?_
    | with_reducible apply Changes.andThen ?_ (State.cmdOk_changes _ _ ) ?_ ?_
    | split)

theorem State.retestCmd_changes (s : State) (code : Nat) :
    Changes [.ctl, .engine] (.only []) s (State.retestCmd s code).2 := by
  unfold State.retestCmd
  repeat' ((try with_reducible conv => arg 4; arg 1; whnf); first
    | with_reducible apply Changes.refl
    | dsimp only
    | ((with_reducible show Area.sub _ _ = true); rfl)
    | ((with_reducible apply Entries.le_of_sub); rfl)
    | ((with_reducible apply Entries.le_only); simp; done)
    | intro _
    | with_reducible apply Changes.ite
    | with_reducible apply Changes.ite_snd
    | with_reducible apply Changes.trans ?_ (State.arrayCmd_changes _ _ _  ?_ ?_ ?_)
    | with_reducible apply Changes.andThen ?_ (State.cmdBegin_changes _ _ ) ?_ ?_
    | ((conv => arg 4; arg 24); with_reducible refine Changes.update ?_)
    | split)

theorem State.restoreCmd_changes (s : State) (code : Nat) :
    Changes [.freeN, .blobs, .ctl, .belt, .pipe, .engine, .tracks, .eject, .memory, .knots, .host, .faults, .perf, .out] (.only [0x0804, 0x0808, 0x1205, 0x1402, 0x1703, K.decisionsIssued, K.fallbackDecisions, K.waitersInUse, K.waitersPeak, K.ownerResetReleases, K.knotDumpContext, K.pulsesPending, K.pulsesPeak, K.pulsesScheduled, K.pulsesMerged, K.storeFullRefused, K.lateDecisions, K.missedDecisions, K.disabledChannelRequests, K.commandsCompleted, K.recordsUnrouted, K.faultLogOverwritten, K.faultRecordsSuppressed, K.fallbackGapOpen, K.gapRecords]) s (State.restoreCmd s code).2 := by
  unfold State.restoreCmd
  repeat' ((try with_reducible conv => arg 4; arg 1; whnf); first
    | with_reducible apply Changes.refl
    | dsimp only
    | ((with_reducible show Area.sub _ _ = true); rfl)
    | ((with_reducible apply Entries.le_of_sub); rfl)
    | ((with_reducible apply Entries.le_only); simp; done)
    | intro _
    | with_reducible apply Changes.ite
    | with_reducible apply Changes.ite_snd
    | with_reducible apply Changes.trans ?_ (State.arrayCmd_changes _ _ _  ?_ ?_ ?_)
    | with_reducible apply Changes.andThen ?_ (State.cmdOk_changes _ _ ) ?_ ?_
    | with_reducible apply Changes.andThen ?_ (State.boundary_changes _ ) ?_ ?_
    | ((conv => arg 4; arg 24); with_reducible refine Changes.update ?_)
    | split)

theorem execSubstitutionChange_changes (s : State) {u : State} (h : execSubstitutionChange s = .next u) :
    Changes [.freeN, .blobs, .ctl, .belt, .pipe, .engine, .tracks, .eject, .memory, .knots, .host, .faults, .perf, .out] (.only [0x0804, 0x0808, 0x1205, 0x1402, 0x1703, K.decisionsIssued, K.fallbackDecisions, K.waitersInUse, K.waitersPeak, K.ownerResetReleases, K.knotDumpContext, K.pulsesPending, K.pulsesPeak, K.pulsesScheduled, K.pulsesMerged, K.storeFullRefused, K.lateDecisions, K.missedDecisions, K.disabledChannelRequests, K.commandsCompleted, K.recordsUnrouted, K.faultLogOverwritten, K.faultRecordsSuppressed, K.fallbackGapOpen, K.gapRecords]) s u := by
  unfold execSubstitutionChange at h
  try (have h := guardUnit_next h)
  try injection h with h
  subst h
  repeat' ((try with_reducible conv => arg 4; whnf); first
    | with_reducible apply Changes.refl
    | ((with_reducible show Area.sub _ _ = true); rfl)
    | ((with_reducible apply Entries.le_of_sub); rfl)
    | ((with_reducible apply Entries.le_only); simp; done)
    | intro _
    | with_reducible apply Changes.andThen ?_ (State.boundary_changes _ ) ?_ ?_)

theorem State.retestDone_changes (s : State) (pass : Bool) :
    Changes [.freeN, .blobs, .ctl, .belt, .pipe, .engine, .tracks, .eject, .memory, .knots, .host, .faults, .perf, .out] (.only [0x0804, 0x0808, 0x1205, 0x1402, 0x1703, K.lastRetestResult, K.decisionsIssued, K.fallbackDecisions, K.waitersInUse, K.waitersPeak, K.ownerResetReleases, K.knotDumpContext, K.pulsesPending, K.pulsesPeak, K.pulsesScheduled, K.pulsesMerged, K.storeFullRefused, K.lateDecisions, K.missedDecisions, K.disabledChannelRequests, K.commandsCompleted, K.recordsUnrouted, K.faultLogOverwritten, K.faultRecordsSuppressed, K.fallbackGapOpen, K.gapRecords]) s (State.retestDone s pass) := by
  unfold State.retestDone
  repeat' ((try with_reducible conv => arg 4; whnf); first
    | with_reducible apply Changes.refl
    | ((with_reducible show Area.sub _ _ = true); rfl)
    | ((with_reducible apply Entries.le_of_sub); rfl)
    | ((with_reducible apply Entries.le_only); simp; done)
    | intro _
    | with_reducible apply Changes.ite
    | with_reducible apply Changes.andThen ?_ (State.setReg_changes _ _ _ ) ?_ ?_
    | with_reducible apply Changes.andThen ?_ (State.retire_changes _ _ _ _ ) ?_ ?_
    | with_reducible apply Changes.andThen ?_ (State.setArray_changes _ _ _ _ ) ?_ ?_
    | with_reducible apply Changes.andThen ?_ (State.cmdSet_changes _ _ _ ) ?_ ?_
    | ((conv => arg 4; arg 24); with_reducible refine Changes.update ?_)
    | split)

theorem execArrayRetestDone_changes (pass : Bool) (s : State) {u : State} (h : execArrayRetestDone pass s = .next u) :
    Changes [.freeN, .blobs, .ctl, .belt, .pipe, .engine, .tracks, .eject, .memory, .knots, .host, .faults, .perf, .out] (.only [0x0804, 0x0808, 0x1205, 0x1402, 0x1703, K.lastRetestResult, K.decisionsIssued, K.fallbackDecisions, K.waitersInUse, K.waitersPeak, K.ownerResetReleases, K.knotDumpContext, K.pulsesPending, K.pulsesPeak, K.pulsesScheduled, K.pulsesMerged, K.storeFullRefused, K.lateDecisions, K.missedDecisions, K.disabledChannelRequests, K.commandsCompleted, K.recordsUnrouted, K.faultLogOverwritten, K.faultRecordsSuppressed, K.fallbackGapOpen, K.gapRecords]) s u := by
  unfold execArrayRetestDone at h
  try (have h := guardUnit_next h)
  try injection h with h
  subst h
  repeat' ((try with_reducible conv => arg 4; whnf); first
    | with_reducible apply Changes.refl
    | ((with_reducible show Area.sub _ _ = true); rfl)
    | ((with_reducible apply Entries.le_of_sub); rfl)
    | ((with_reducible apply Entries.le_only); simp; done)
    | intro _
    | with_reducible apply Changes.andThen ?_ (State.retestDone_changes _ _ ) ?_ ?_)

theorem execArrayRetire_changes (sess code : Nat) (s : State) {u : State} (h : execArrayRetire sess code s = .next u) :
    Changes [.freeN, .blobs, .ctl, .belt, .pipe, .engine, .tracks, .eject, .memory, .knots, .host, .faults, .perf, .out] (.only [0x0804, 0x0808, 0x1205, 0x1402, 0x1703, K.decisionsIssued, K.fallbackDecisions, K.waitersInUse, K.waitersPeak, K.ownerResetReleases, K.knotDumpContext, K.pulsesPending, K.pulsesPeak, K.pulsesScheduled, K.pulsesMerged, K.storeFullRefused, K.lateDecisions, K.missedDecisions, K.disabledChannelRequests, K.commandsCompleted, K.recordsUnrouted, K.faultLogOverwritten, K.faultRecordsSuppressed, K.fallbackGapOpen, K.gapRecords]) s u := by
  unfold execArrayRetire at h
  try (have h := guardUnit_next h)
  try injection h with h
  subst h
  repeat' ((try with_reducible conv => arg 4; whnf); first
    | with_reducible apply Changes.refl
    | ((with_reducible show Area.sub _ _ = true); rfl)
    | ((with_reducible apply Entries.le_of_sub); rfl)
    | ((with_reducible apply Entries.le_only); simp; done)
    | intro _
    | with_reducible apply Changes.andThen ?_ (State.retireCmd_changes _ _ ) ?_ ?_
    | with_reducible apply Changes.trans ?_ (State.runCmd_changes _ _ _ _  ?_ ?_ ?_))

theorem State.bootArrays_changes (s : State) :
    Changes [.engine] (.only []) s (State.bootArrays s) := by
  unfold State.bootArrays
  repeat' ((try with_reducible conv => arg 4; whnf); first
    | with_reducible apply Changes.refl
    | ((with_reducible show Area.sub _ _ = true); rfl)
    | ((with_reducible apply Entries.le_of_sub); rfl)
    | ((with_reducible apply Entries.le_only); simp; done)
    | intro _
    | with_reducible apply Changes.ite
    | with_reducible apply Changes.foldl
    | with_reducible apply Changes.andThen ?_ (State.setArray_changes _ _ _ _ ) ?_ ?_
    | with_reducible apply Changes.andThen ?_ (State.setServed_changes _ _ _ _ ) ?_ ?_
    | split)

theorem execArrayRestore_changes (sess code : Nat) (s : State) {u : State} (h : execArrayRestore sess code s = .next u) :
    Changes [.freeN, .blobs, .ctl, .belt, .pipe, .engine, .tracks, .eject, .memory, .knots, .host, .faults, .perf, .out] (.only [0x0804, 0x0808, 0x1205, 0x1402, 0x1703, K.decisionsIssued, K.fallbackDecisions, K.waitersInUse, K.waitersPeak, K.ownerResetReleases, K.knotDumpContext, K.pulsesPending, K.pulsesPeak, K.pulsesScheduled, K.pulsesMerged, K.storeFullRefused, K.lateDecisions, K.missedDecisions, K.disabledChannelRequests, K.commandsCompleted, K.recordsUnrouted, K.faultLogOverwritten, K.faultRecordsSuppressed, K.fallbackGapOpen, K.gapRecords]) s u := by
  unfold execArrayRestore at h
  try (have h := guardUnit_next h)
  try injection h with h
  subst h
  repeat' ((try with_reducible conv => arg 4; whnf); first
    | with_reducible apply Changes.refl
    | ((with_reducible show Area.sub _ _ = true); rfl)
    | ((with_reducible apply Entries.le_of_sub); rfl)
    | ((with_reducible apply Entries.le_only); simp; done)
    | intro _
    | with_reducible apply Changes.trans ?_ (State.runCmd_changes _ _ _ _  ?_ ?_ ?_)
    | with_reducible apply Changes.andThen ?_ (State.restoreCmd_changes _ _ ) ?_ ?_)

theorem execArrayRetest_changes (sess code : Nat) (s : State) {u : State} (h : execArrayRetest sess code s = .next u) :
    Changes [.ctl, .engine, .out] (.only []) s u := by
  unfold execArrayRetest at h
  try (have h := guardUnit_next h)
  try injection h with h
  subst h
  repeat' ((try with_reducible conv => arg 4; whnf); first
    | with_reducible apply Changes.refl
    | ((with_reducible show Area.sub _ _ = true); rfl)
    | ((with_reducible apply Entries.le_of_sub); rfl)
    | ((with_reducible apply Entries.le_only); simp; done)
    | intro _
    | with_reducible apply Changes.andThen ?_ (State.retestCmd_changes _ _ ) ?_ ?_
    | with_reducible apply Changes.trans ?_ (State.runCmd_changes _ _ _ _  ?_ ?_ ?_))

end Sys2Proof.Machine
end

