-- ==== Sys2Proof/Laws/FrameEngineOps.lean ====
section
/-! SUPPORT. What each operation of Machine/EngineOps.lean changes and what it leaves unchanged. -/

-- one theorem after another: see NOTES.md
set_option Elab.async false

namespace Sys2Proof.Machine

theorem State.actWrite_changes (s : State) (die off : Nat) (d : List Byte) :
    Changes [.engine] (.only []) s (State.actWrite s die off d) := by
  unfold State.actWrite
  repeat' ((try with_reducible conv => arg 4; whnf); first
    | with_reducible apply Changes.refl
    | ((conv => arg 4; arg 24); with_reducible refine Changes.update ?_))

theorem State.setElem_changes (s : State) (t : Tensor) (row col ch v : Nat) :
    Changes [.engine] (.only []) s (State.setElem s t row col ch v) := by
  unfold State.setElem
  repeat' ((try with_reducible conv => arg 4; whnf); first
    | with_reducible apply Changes.refl
    | ((with_reducible show Area.sub _ _ = true); rfl)
    | ((with_reducible apply Entries.le_of_sub); rfl)
    | ((with_reducible apply Entries.le_only); simp; done)
    | intro _
    | with_reducible apply Changes.andThen ?_ (State.actWrite_changes _ _ _ _ ) ?_ ?_)

theorem State.writeForms_changes (s : State) (w : Work) (row col ch v : Nat) (n : Tally) :
    Changes [.engine] (.only []) s (State.writeForms s w row col ch v n).1 := by
  unfold State.writeForms
  repeat' ((try with_reducible conv => arg 4; arg 1; whnf); first
    | with_reducible apply Changes.refl
    | dsimp only
    | ((with_reducible show Area.sub _ _ = true); rfl)
    | ((with_reducible apply Entries.le_of_sub); rfl)
    | ((with_reducible apply Entries.le_only); simp; done)
    | intro _
    | with_reducible apply Changes.ite
    | with_reducible apply Changes.ite_fst
    | with_reducible apply Changes.andThen ?_ (State.setElem_changes _ _ _ _ _ _ ) ?_ ?_
    | split)

theorem State.writeChans_changes (s : State) (w : Work) (row col : Nat) (chans vals : List Nat) (n : Tally) :
    Changes [.engine] (.only []) s (State.writeChans s w row col chans vals n).1 := by
  unfold State.writeChans
  repeat' ((try with_reducible conv => arg 4; arg 1; whnf); first
    | with_reducible apply Changes.refl
    | dsimp only
    | ((with_reducible show Area.sub _ _ = true); rfl)
    | ((with_reducible apply Entries.le_of_sub); rfl)
    | ((with_reducible apply Entries.le_only); simp; done)
    | intro _
    | with_reducible apply Changes.foldl
    | with_reducible apply Changes.foldl_fst
    | with_reducible apply Changes.andThen ?_ (State.writeForms_changes _ _ _ _ _ _ _ ) ?_ ?_)

end Sys2Proof.Machine
end

