-- ==== Sys2Proof/Laws/FrameKernelOps.lean ====
section
/-! SUPPORT. What each operation of Machine/KernelOps.lean changes and what it leaves unchanged. -/

-- one theorem after another: see NOTES.md
set_option Elab.async false

namespace Sys2Proof.Machine

theorem State.markRow_changes (s : State) (die t stripe row : Nat) :
    Changes [.engine] (.only []) s (State.markRow s die t stripe row) := by
  unfold State.markRow
  repeat' ((try with_reducible conv => arg 4; whnf); first
    | with_reducible apply Changes.refl
    | intro _
    | with_reducible apply Changes.ite
    | ((conv => arg 4; arg 24); with_reducible refine Changes.update ?_)
    | split)

theorem State.abortLayer_changes (s : State) (w : Work) :
    Changes [.engine] (.only []) s (State.abortLayer s w) := by
  unfold State.abortLayer
  repeat' ((try with_reducible conv => arg 4; whnf); first
    | with_reducible apply Changes.refl
    | ((with_reducible show Area.sub _ _ = true); rfl)
    | ((with_reducible apply Entries.le_of_sub); rfl)
    | ((with_reducible apply Entries.le_only); simp; done)
    | intro _
    | with_reducible apply Changes.ite
    | with_reducible apply Changes.foldl
    | with_reducible apply Changes.andThen ?_ (State.markRow_changes _ _ _ _ _ ) ?_ ?_
    | ((conv => arg 4; arg 24); with_reducible refine Changes.update ?_)
    | split)

theorem State.addLanes_changes (s : State) (d least most : Nat) :
    Changes [.engine] (.only []) s (State.addLanes s d least most) := by
  unfold State.addLanes
  repeat' ((try with_reducible conv => arg 4; whnf); first
    | with_reducible apply Changes.refl
    | ((conv => arg 4; arg 24); with_reducible refine Changes.update ?_)
    | split)

theorem State.countFree_changes (s : State) (b ev most f ctx : Nat) :
    Changes [.freeN, .host, .perf, .out] (.only [0x1205, K.recordsUnrouted]) s (State.countFree s b ev most f ctx) := by
  unfold State.countFree
  repeat' ((try with_reducible conv => arg 4; whnf); first
    | with_reducible apply Changes.refl
    | ((with_reducible show Area.sub _ _ = true); rfl)
    | ((with_reducible apply Entries.le_of_sub); rfl)
    | ((with_reducible apply Entries.le_only); simp; done)
    | intro _
    | with_reducible apply Changes.ite
    | with_reducible apply Changes.andThen ?_ (State.takeFree_changes _ ) ?_ ?_
    | with_reducible apply Changes.andThen ?_ (State.count_changes _ _ _ _ _ _ _ _ ) ?_ ?_
    | split)

theorem State.rampArrays_changes (s : State) (w : Work) (k : Kernel) (base ctx : Nat) :
    Changes [.engine, .host, .perf, .out] (.only [0x1205, K.recordsUnrouted]) s (State.rampArrays s w k base ctx) := by
  unfold State.rampArrays
  repeat' ((try with_reducible conv => arg 4; whnf); first
    | with_reducible apply Changes.refl
    | ((with_reducible show Area.sub _ _ = true); rfl)
    | ((with_reducible apply Entries.le_of_sub); rfl)
    | ((with_reducible apply Entries.le_only); simp; done)
    | intro _
    | with_reducible apply Changes.foldl
    | with_reducible apply Changes.andThen ?_ (State.count_changes _ _ _ _ _ _ _ _ ) ?_ ?_
    | ((conv => arg 4; arg 24); with_reducible refine Changes.update ?_)
    | split)

theorem State.countKernel_changes (s : State) (w : Work) (k : Kernel) (base ctx : Nat) :
    Changes [.freeN, .engine, .host, .perf, .out] (.only [0x0842, 0x1205, K.recordsUnrouted]) s (State.countKernel s w k base ctx) := by
  unfold State.countKernel
  repeat' ((try with_reducible conv => arg 4; whnf); first
    | with_reducible apply Changes.refl
    | ((with_reducible show Area.sub _ _ = true); rfl)
    | ((with_reducible apply Entries.le_of_sub); rfl)
    | ((with_reducible apply Entries.le_only); simp; done)
    | intro _
    | with_reducible apply Changes.ite
    | with_reducible apply Changes.andThen ?_ (State.bump_changes _ _ _ ) ?_ ?_
    | with_reducible apply Changes.andThen ?_ (State.addLanes_changes _ _ _ _ ) ?_ ?_
    | with_reducible apply Changes.andThen ?_ (State.countFree_changes _ _ _ _ _ _ ) ?_ ?_
    | with_reducible apply Changes.andThen ?_ (State.rampArrays_changes _ _ _ _ _ ) ?_ ?_
    | with_reducible apply Changes.andThen ?_ (State.count_changes _ _ _ _ _ _ _ _ ) ?_ ?_
    | ((conv => arg 4; arg 24); with_reducible refine Changes.update ?_)
    | split)

theorem State.saveCarry_changes (s : State) (w : Work) :
    Changes [.engine] (.only []) s (State.saveCarry s w) := by
  unfold State.saveCarry
  repeat' ((try with_reducible conv => arg 4; whnf); first
    | with_reducible apply Changes.refl
    | intro _
    | with_reducible apply Changes.ite
    | with_reducible apply Changes.foldl
    | ((conv => arg 4; arg 24); with_reducible refine Changes.update ?_)
    | split)

theorem State.elemPosition_changes (s : State) (w : Work) (tab : List Byte) (n : Tally) (row col : Nat) :
    Changes [.engine] (.only []) s (State.elemPosition s w tab n row col).1 := by
  unfold State.elemPosition
  repeat' ((try with_reducible conv => arg 4; arg 1; whnf); first
    | with_reducible apply Changes.refl
    | dsimp only
    | ((with_reducible show Area.sub _ _ = true); rfl)
    | ((with_reducible apply Entries.le_of_sub); rfl)
    | ((with_reducible apply Entries.le_only); simp; done)
    | intro _
    | with_reducible apply Changes.andThen ?_ (State.writeChans_changes _ _ _ _ _ _ _ ) ?_ ?_)

theorem State.normPosition_changes (s : State) (w : Work) (n : Tally) (row col : Nat) :
    Changes [.engine] (.only []) s (State.normPosition s w n row col).1 := by
  unfold State.normPosition
  repeat' ((try with_reducible conv => arg 4; arg 1; whnf); first
    | with_reducible apply Changes.refl
    | dsimp only
    | ((with_reducible show Area.sub _ _ = true); rfl)
    | ((with_reducible apply Entries.le_of_sub); rfl)
    | ((with_reducible apply Entries.le_only); simp; done)
    | intro _
    | with_reducible apply Changes.andThen ?_ (State.writeChans_changes _ _ _ _ _ _ _ ) ?_ ?_)

theorem State.softPosition_changes (s : State) (w : Work) (tab : List Byte) (n : Tally) (row col : Nat) :
    Changes [.engine] (.only [0x0861]) s (State.softPosition s w tab n row col).1 := by
  unfold State.softPosition
  repeat' ((try with_reducible conv => arg 4; arg 1; whnf); first
    | with_reducible apply Changes.refl
    | dsimp only
    | ((with_reducible show Area.sub _ _ = true); rfl)
    | ((with_reducible apply Entries.le_of_sub); rfl)
    | ((with_reducible apply Entries.le_only); simp; done)
    | intro _
    | with_reducible apply Changes.ite
    | with_reducible apply Changes.ite_fst
    | with_reducible apply Changes.andThen ?_ (State.bump_changes _ _ _ ) ?_ ?_
    | with_reducible apply Changes.andThen ?_ (State.writeChans_changes _ _ _ _ _ _ _ ) ?_ ?_
    | split)

theorem State.argPosition_changes (s : State) (w : Work) (n : Tally) (row col : Nat) :
    Changes [.engine] (.only [0x0861]) s (State.argPosition s w n row col).1 := by
  unfold State.argPosition
  repeat' ((try with_reducible conv => arg 4; arg 1; whnf); first
    | with_reducible apply Changes.refl
    | dsimp only
    | ((with_reducible show Area.sub _ _ = true); rfl)
    | ((with_reducible apply Entries.le_of_sub); rfl)
    | ((with_reducible apply Entries.le_only); simp; done)
    | intro _
    | with_reducible apply Changes.ite
    | with_reducible apply Changes.ite_fst
    | with_reducible apply Changes.andThen ?_ (State.bump_changes _ _ _ ) ?_ ?_
    | with_reducible apply Changes.andThen ?_ (State.setElem_changes _ _ _ _ _ _ ) ?_ ?_
    | split)

theorem State.overPositions_changes {G : List Area} {E : Entries} (s : State) (w : Work) (k : Kernel) (mute : Bool) (body : State → Tally → Nat → Nat → State × Tally) (n : Tally)
    (hf : ∀ s a1 a2 a3, Changes G E s (body s a1 a2 a3).1) (hG : Area.sub [.engine] G = true) (hE : Entries.le (.only [0x0841]) E) :
    Changes G E s (State.overPositions s w k mute body n).1 := by
  unfold State.overPositions
  repeat' ((try with_reducible conv => arg 4; arg 1; whnf); first
    | with_reducible apply Changes.refl
    | dsimp only
    | ((with_reducible show Area.sub _ _ = true); rfl)
    | ((with_reducible apply Entries.le_of_sub); rfl)
    | ((with_reducible apply Entries.le_only); simp; done)
    | exact Area.sub_trans rfl hG
    | exact Entries.le_trans (Entries.le_of_sub rfl) hE
    | exact Entries.le_trans (Entries.le_only (by simp)) hE
    | intro _
    | with_reducible apply Changes.ite
    | with_reducible apply Changes.ite_snd
    | with_reducible apply Changes.ite_fst
    | with_reducible apply Changes.ite_snd_snd
    | with_reducible apply Changes.foldl
    | with_reducible apply Changes.foldl_snd
    | with_reducible apply Changes.foldl_fst
    | (with_reducible apply Changes.trans ?_ (hf _ _ _ _))
    | with_reducible apply Changes.andThen ?_ (State.bump_changes _ _ _ ) ?_ ?_
    | with_reducible apply Changes.andThen ?_ (State.markRow_changes _ _ _ _ _ ) ?_ ?_
    | ((conv => arg 4; arg 24); with_reducible refine Changes.update ?_)
    | split
    | with_reducible refine Changes.of_snd (by assumption) ?_)

theorem State.macPosition_changes (s : State) (w : Work) (tab : List Byte) (n : Tally) (row col : Nat) :
    Changes [.engine] (.only []) s (State.macPosition s w tab n row col).1 := by
  unfold State.macPosition
  repeat' ((try with_reducible conv => arg 4; arg 1; whnf); first
    | with_reducible apply Changes.refl
    | dsimp only
    | ((with_reducible show Area.sub _ _ = true); rfl)
    | ((with_reducible apply Entries.le_of_sub); rfl)
    | ((with_reducible apply Entries.le_only); simp; done)
    | intro _
    | with_reducible apply Changes.ite
    | with_reducible apply Changes.ite_fst
    | with_reducible apply Changes.andThen ?_ (State.writeChans_changes _ _ _ _ _ _ _ ) ?_ ?_
    | split)

theorem State.tally_changes (s : State) (w : Work) (batch ctx : Nat) (n : Tally) :
    Changes [.engine, .host, .perf, .out] (.only [0x0805, 0x0821, 0x1205, K.recordsUnrouted]) s (State.tally s w batch ctx n) := by
  unfold State.tally
  repeat' ((try with_reducible conv => arg 4; whnf); first
    | with_reducible apply Changes.refl
    | ((with_reducible show Area.sub _ _ = true); rfl)
    | ((with_reducible apply Entries.le_of_sub); rfl)
    | ((with_reducible apply Entries.le_only); simp; done)
    | intro _
    | with_reducible apply Changes.ite
    | with_reducible apply Changes.andThen ?_ (State.bump_changes _ _ _ ) ?_ ?_
    | with_reducible apply Changes.andThen ?_ (State.count_changes _ _ _ _ _ _ _ _ ) ?_ ?_
    | ((conv => arg 4; arg 24); with_reducible refine Changes.update ?_)
    | split)

theorem State.writeRaw_changes (s : State) (w : Work) (row col ch : Nat) (x : Sum) :
    Changes [.engine] (.only []) s (State.writeRaw s w row col ch x) := by
  unfold State.writeRaw
  repeat' ((try with_reducible conv => arg 4; whnf); first
    | with_reducible apply Changes.refl
    | ((with_reducible show Area.sub _ _ = true); rfl)
    | ((with_reducible apply Entries.le_of_sub); rfl)
    | ((with_reducible apply Entries.le_only); simp; done)
    | intro _
    | with_reducible apply Changes.ite
    | with_reducible apply Changes.andThen ?_ (State.setElem_changes _ _ _ _ _ _ ) ?_ ?_
    | ((conv => arg 4; arg 24); with_reducible refine Changes.update ?_)
    | split)

theorem State.arrayPosition_changes (s : State) (w : Work) (tab : List Byte) (k : Kernel) (n : Tally) (row col : Nat) :
    Changes [.engine] (.only []) s (State.arrayPosition s w tab k n row col).1 := by
  unfold State.arrayPosition
  repeat' ((try with_reducible conv => arg 4; arg 1; whnf); first
    | with_reducible apply Changes.refl
    | dsimp only
    | ((with_reducible show Area.sub _ _ = true); rfl)
    | ((with_reducible apply Entries.le_of_sub); rfl)
    | ((with_reducible apply Entries.le_only); simp; done)
    | intro _
    | with_reducible apply Changes.ite
    | with_reducible apply Changes.ite_fst
    | with_reducible apply Changes.foldl
    | with_reducible apply Changes.foldl_fst
    | with_reducible apply Changes.andThen ?_ (State.writeRaw_changes _ _ _ _ _ _ ) ?_ ?_
    | with_reducible apply Changes.andThen ?_ (State.writeChans_changes _ _ _ _ _ _ _ ) ?_ ?_
    | split)

theorem State.computeTile_changes (s : State) (w : Work) (k : Kernel) (i : Nat) :
    Changes [.engine] (.only []) s (State.computeTile s w k i) := by
  unfold State.computeTile
  repeat' ((try with_reducible conv => arg 4; whnf); first
    | with_reducible apply Changes.refl
    | intro _
    | with_reducible apply Changes.ite
    | with_reducible apply Changes.foldl
    | ((conv => arg 4; arg 24); with_reducible refine Changes.update ?_)
    | split)

theorem State.overTiles_changes (s : State) (w : Work) (tab : List Byte) (k : Kernel) (mute : Bool) :
    Changes [.engine] (.only [0x0841]) s (State.overTiles s w tab k mute).1 := by
  unfold State.overTiles
  repeat' ((try with_reducible conv => arg 4; arg 1; whnf); first
    | with_reducible apply Changes.refl
    | dsimp only
    | ((with_reducible show Area.sub _ _ = true); rfl)
    | ((with_reducible apply Entries.le_of_sub); rfl)
    | ((with_reducible apply Entries.le_only); simp; done)
    | intro _
    | with_reducible apply Changes.foldl
    | with_reducible apply Changes.foldl_fst
    | with_reducible apply Changes.andThen ?_ (State.arrayPosition_changes _ _ _ _ _ _ _ ) ?_ ?_
    | with_reducible apply Changes.trans ?_ (State.overPositions_changes _ _ _ _ _ _  ?_ ?_ ?_)
    | with_reducible apply Changes.andThen ?_ (State.computeTile_changes _ _ _ _ ) ?_ ?_)

theorem State.codePosition_changes (s : State) (w : Work) (n : Tally) (row col : Nat) :
    Changes [.engine] (.only []) s (State.codePosition s w n row col).1 := by
  unfold State.codePosition
  repeat' ((try with_reducible conv => arg 4; arg 1; whnf); first
    | with_reducible apply Changes.refl
    | dsimp only
    | ((with_reducible show Area.sub _ _ = true); rfl)
    | ((with_reducible apply Entries.le_of_sub); rfl)
    | ((with_reducible apply Entries.le_only); simp; done)
    | intro _
    | with_reducible apply Changes.ite
    | with_reducible apply Changes.ite_fst
    | with_reducible apply Changes.foldl
    | with_reducible apply Changes.foldl_fst
    | with_reducible apply Changes.andThen ?_ (State.setElem_changes _ _ _ _ _ _ ) ?_ ?_
    | split)

theorem State.affineQuant_changes (s : State) (w : Work) (k : Kernel) (mute : Bool) :
    Changes [.engine] (.only [0x0823]) s (State.affineQuant s w k mute).1 := by
  unfold State.affineQuant
  repeat' ((try with_reducible conv => arg 4; arg 1; whnf); first
    | with_reducible apply Changes.refl
    | dsimp only
    | ((with_reducible show Area.sub _ _ = true); rfl)
    | ((with_reducible apply Entries.le_of_sub); rfl)
    | ((with_reducible apply Entries.le_only); simp; done)
    | intro _
    | with_reducible apply Changes.ite
    | with_reducible apply Changes.ite_fst
    | with_reducible apply Changes.foldl
    | with_reducible apply Changes.foldl_fst
    | with_reducible apply Changes.andThen ?_ (State.bump_changes _ _ _ ) ?_ ?_
    | with_reducible apply Changes.andThen ?_ (State.markRow_changes _ _ _ _ _ ) ?_ ?_
    | with_reducible apply Changes.andThen ?_ (State.actWrite_changes _ _ _ _ ) ?_ ?_
    | with_reducible apply Changes.andThen ?_ (State.setElem_changes _ _ _ _ _ _ ) ?_ ?_
    | split)

theorem State.runWork_changes (s : State) (w : Work) (k : Kernel) (batch ctx : Nat) (mute : Bool) :
    Changes [.engine, .host, .perf, .out] (.only [0x0805, 0x0821, 0x0823, 0x0841, 0x0861, 0x1205, K.recordsUnrouted]) s (State.runWork s w k batch ctx mute) := by
  unfold State.runWork
  repeat' ((try with_reducible conv => arg 4; whnf); first
    | with_reducible apply Changes.refl
    | ((with_reducible show Area.sub _ _ = true); rfl)
    | ((with_reducible apply Entries.le_of_sub); rfl)
    | ((with_reducible apply Entries.le_only); simp; done)
    | intro _
    | with_reducible apply Changes.ite
    | with_reducible apply Changes.andThen ?_ (State.elemPosition_changes _ _ _ _ _ _ ) ?_ ?_
    | with_reducible apply Changes.andThen ?_ (State.normPosition_changes _ _ _ _ _ ) ?_ ?_
    | with_reducible apply Changes.andThen ?_ (State.softPosition_changes _ _ _ _ _ _ ) ?_ ?_
    | with_reducible apply Changes.andThen ?_ (State.argPosition_changes _ _ _ _ _ ) ?_ ?_
    | with_reducible apply Changes.trans ?_ (State.overPositions_changes _ _ _ _ _ _  ?_ ?_ ?_)
    | with_reducible apply Changes.andThen ?_ (State.macPosition_changes _ _ _ _ _ _ ) ?_ ?_
    | with_reducible apply Changes.andThen ?_ (State.tally_changes _ _ _ _ _ ) ?_ ?_
    | with_reducible apply Changes.andThen ?_ (State.overTiles_changes _ _ _ _ _ ) ?_ ?_
    | with_reducible apply Changes.andThen ?_ (State.codePosition_changes _ _ _ _ _ ) ?_ ?_
    | with_reducible apply Changes.andThen ?_ (State.affineQuant_changes _ _ _ _ ) ?_ ?_
    | split)

end Sys2Proof.Machine
end

