-- ==== Sys2Proof/Laws/FrameTrackOps.lean ====
section
/-! SUPPORT. What each operation of Machine/TrackOps.lean changes and what it leaves unchanged. -/

-- one theorem after another: see NOTES.md
set_option Elab.async false

namespace Sys2Proof.Machine

theorem State.addFeatures_changes (s : State) (x : StepOf) (i r : Nat) (run : Run) :
    Changes [.tracks] (.only []) s (State.addFeatures s x i r run) := by
  unfold State.addFeatures
  repeat' ((try with_reducible conv => arg 4; whnf); first
    | with_reducible apply Changes.refl
    | intro _
    | with_reducible apply Changes.foldl
    | ((conv => arg 4; arg 24); with_reducible refine Changes.update ?_))

theorem State.storeTable_changes (s : State) (x : StepOf) :
    Changes [.engine] (.only []) s (State.storeTable s x) := by
  unfold State.storeTable
  repeat' ((try with_reducible conv => arg 4; whnf); first
    | with_reducible apply Changes.refl
    | ((with_reducible show Area.sub _ _ = true); rfl)
    | ((with_reducible apply Entries.le_of_sub); rfl)
    | ((with_reducible apply Entries.le_only); simp; done)
    | intro _
    | with_reducible apply Changes.foldl
    | with_reducible apply Changes.andThen ?_ (State.actWrite_changes _ _ _ _ ) ?_ ?_)

theorem State.setTrack_changes (s : State) (i : Nat) (t : Track) :
    Changes [.tracks] (.only []) s (State.setTrack s i t) := by
  unfold State.setTrack
  repeat' ((try with_reducible conv => arg 4; whnf); first
    | with_reducible apply Changes.refl
    | ((conv => arg 4; arg 24); with_reducible refine Changes.update ?_))

theorem State.freeTrack_changes (s : State) (i : Nat) :
    Changes [.tracks] (.only []) s (State.freeTrack s i) := by
  unfold State.freeTrack
  repeat' ((try with_reducible conv => arg 4; whnf); first
    | with_reducible apply Changes.refl
    | ((with_reducible show Area.sub _ _ = true); rfl)
    | ((with_reducible apply Entries.le_of_sub); rfl)
    | ((with_reducible apply Entries.le_only); simp; done)
    | intro _
    | with_reducible apply Changes.andThen ?_ (State.setTrack_changes _ _ _ ) ?_ ?_
    | ((conv => arg 4; arg 24); with_reducible refine Changes.update ?_))

theorem State.decisionRec_changes (s : State) (j start len lo hi cls conf : Nat) (eject : Bool) (flags : Nat) :
    Changes [] (.only [K.fallbackDecisions, K.noTrackDecisions, K.listWaitFallbacks, K.outsideValveRange]) s (State.decisionRec s j start len lo hi cls conf eject flags).1 := by
  unfold State.decisionRec
  repeat' ((try with_reducible conv => arg 4; arg 1; whnf); first
    | with_reducible apply Changes.refl
    | dsimp only
    | ((with_reducible show Area.sub _ _ = true); rfl)
    | ((with_reducible apply Entries.le_of_sub); rfl)
    | ((with_reducible apply Entries.le_only); simp; done)
    | intro _
    | with_reducible apply Changes.ite
    | with_reducible apply Changes.ite_fst
    | with_reducible apply Changes.andThen ?_ (State.bump_changes _ _ _ ) ?_ ?_
    | split)

theorem State.trackRec_changes (s : State) (x : StepOf) (t : Track) (cls conf : Nat) (eject image : Bool) :
    Changes [] (.only [K.fallbackDecisions, K.noTrackDecisions, K.listWaitFallbacks, K.outsideValveRange]) s (State.trackRec s x t cls conf eject image).1 := by
  unfold State.trackRec
  repeat' ((try with_reducible conv => arg 4; arg 1; whnf); first
    | with_reducible apply Changes.refl
    | dsimp only
    | ((with_reducible show Area.sub _ _ = true); rfl)
    | ((with_reducible apply Entries.le_of_sub); rfl)
    | ((with_reducible apply Entries.le_only); simp; done)
    | intro _
    | with_reducible apply Changes.andThen ?_ (State.decisionRec_changes _ _ _ _ _ _ _ _ _ _ ) ?_ ?_)

theorem State.setRegions_changes (s : State) (l : List Region) :
    Changes [.tracks] (.only []) s (State.setRegions s l) := by
  unfold State.setRegions
  repeat' ((try with_reducible conv => arg 4; whnf); first
    | with_reducible apply Changes.refl
    | ((conv => arg 4; arg 24); with_reducible refine Changes.update ?_))

theorem State.mergeTracks_changes (s : State) (ids : List Nat) :
    Changes [.tracks] (.only [K.merges]) s (State.mergeTracks s ids).2 := by
  unfold State.mergeTracks
  repeat' ((try with_reducible conv => arg 4; arg 1; whnf); first
    | with_reducible apply Changes.refl
    | dsimp only
    | ((with_reducible show Area.sub _ _ = true); rfl)
    | ((with_reducible apply Entries.le_of_sub); rfl)
    | ((with_reducible apply Entries.le_only); simp; done)
    | intro _
    | with_reducible apply Changes.ite
    | with_reducible apply Changes.ite_snd
    | with_reducible apply Changes.foldl
    | with_reducible apply Changes.foldl_snd
    | with_reducible apply Changes.andThen ?_ (State.bump_changes _ _ _ ) ?_ ?_
    | with_reducible apply Changes.andThen ?_ (State.freeTrack_changes _ _ ) ?_ ?_
    | with_reducible apply Changes.andThen ?_ (State.setTrack_changes _ _ _ ) ?_ ?_
    | ((conv => arg 4; arg 24); with_reducible refine Changes.update ?_)
    | split)

theorem State.extend_changes (s : State) (x : StepOf) (i r : Nat) (run : Run) :
    Changes [.tracks] (.only []) s (State.extend s x i r run) := by
  unfold State.extend
  repeat' ((try with_reducible conv => arg 4; whnf); first
    | with_reducible apply Changes.refl
    | ((with_reducible show Area.sub _ _ = true); rfl)
    | ((with_reducible apply Entries.le_of_sub); rfl)
    | ((with_reducible apply Entries.le_only); simp; done)
    | intro _
    | with_reducible apply Changes.andThen ?_ (State.addFeatures_changes _ _ _ _ _ ) ?_ ?_
    | with_reducible apply Changes.andThen ?_ (State.setTrack_changes _ _ _ ) ?_ ?_)

theorem State.takeRun_changes (s : State) (x : StepOf) (r : Nat) (run : Run) :
    Changes [.tracks] (.only [K.merges]) s (State.takeRun s x r run).1 := by
  unfold State.takeRun
  repeat' ((try with_reducible conv => arg 4; arg 1; whnf); first
    | with_reducible apply Changes.refl
    | dsimp only
    | ((with_reducible show Area.sub _ _ = true); rfl)
    | ((with_reducible apply Entries.le_of_sub); rfl)
    | ((with_reducible apply Entries.le_only); simp; done)
    | intro _
    | with_reducible apply Changes.ite
    | with_reducible apply Changes.ite_fst
    | with_reducible apply Changes.foldl
    | with_reducible apply Changes.foldl_fst
    | with_reducible apply Changes.andThen ?_ (State.setRegions_changes _ _ ) ?_ ?_
    | with_reducible apply Changes.andThen ?_ (State.mergeTracks_changes _ _ ) ?_ ?_
    | with_reducible apply Changes.andThen ?_ (State.extend_changes _ _ _ _ _ ) ?_ ?_
    | split)

theorem State.issueDecision_changes (s : State) (r : Rec) :
    Changes [.tracks, .host, .perf, .out] (.only [0x1205, K.decisionsIssued, K.recordsUnrouted]) s (State.issueDecision s r) := by
  unfold State.issueDecision
  repeat' ((try with_reducible conv => arg 4; whnf); first
    | with_reducible apply Changes.refl
    | ((with_reducible show Area.sub _ _ = true); rfl)
    | ((with_reducible apply Entries.le_of_sub); rfl)
    | ((with_reducible apply Entries.le_only); simp; done)
    | intro _
    | with_reducible apply Changes.andThen ?_ (State.bump_changes _ _ _ ) ?_ ?_
    | with_reducible apply Changes.andThen ?_ (State.emit_changes _ _ ) ?_ ?_
    | ((conv => arg 4; arg 24); with_reducible refine Changes.update ?_))

theorem State.requestEncode_changes (s : State) (x : StepOf) (i fire : Nat) (t : Track) :
    Changes [.pipe] (.only [K.encodesSkipped]) s (State.requestEncode s x i fire t) := by
  unfold State.requestEncode
  repeat' ((try with_reducible conv => arg 4; whnf); first
    | with_reducible apply Changes.refl
    | ((with_reducible show Area.sub _ _ = true); rfl)
    | ((with_reducible apply Entries.le_of_sub); rfl)
    | ((with_reducible apply Entries.le_only); simp; done)
    | intro _
    | with_reducible apply Changes.ite
    | with_reducible apply Changes.andThen ?_ (State.bump_changes _ _ _ ) ?_ ?_
    | ((conv => arg 4; arg 24); with_reducible refine Changes.update ?_)
    | split)

theorem State.decideRow_changes (s : State) (x : StepOf) (w : Work) (n : Nat) :
    Changes [.pipe, .tracks, .host, .perf, .out] (.only [0x1205, K.encodesSkipped, K.decisionsIssued, K.fallbackDecisions, K.noTrackDecisions, K.listWaitFallbacks, K.outsideValveRange, K.recordsUnrouted]) s (State.decideRow s x w n) := by
  unfold State.decideRow
  repeat' ((try with_reducible conv => arg 4; whnf); first
    | with_reducible apply Changes.refl
    | ((with_reducible show Area.sub _ _ = true); rfl)
    | ((with_reducible apply Entries.le_of_sub); rfl)
    | ((with_reducible apply Entries.le_only); simp; done)
    | intro _
    | with_reducible apply Changes.ite
    | with_reducible apply Changes.andThen ?_ (State.trackRec_changes _ _ _ _ _ _ _ ) ?_ ?_
    | with_reducible apply Changes.andThen ?_ (State.issueDecision_changes _ _ ) ?_ ?_
    | with_reducible apply Changes.andThen ?_ (State.requestEncode_changes _ _ _ _ _ ) ?_ ?_
    | split)

theorem State.runDecisions_changes (s : State) (w : Work) (k : Kernel) :
    Changes [.pipe, .tracks, .host, .perf, .out] (.only [0x1205, K.encodesSkipped, K.decisionsIssued, K.fallbackDecisions, K.noTrackDecisions, K.listWaitFallbacks, K.outsideValveRange, K.recordsUnrouted]) s (State.runDecisions s w k) := by
  unfold State.runDecisions
  repeat' ((try with_reducible conv => arg 4; whnf); first
    | with_reducible apply Changes.refl
    | ((with_reducible show Area.sub _ _ = true); rfl)
    | ((with_reducible apply Entries.le_of_sub); rfl)
    | ((with_reducible apply Entries.le_only); simp; done)
    | intro _
    | with_reducible apply Changes.foldl
    | with_reducible apply Changes.andThen ?_ (State.decideRow_changes _ _ _ _ ) ?_ ?_)

theorem State.closeTrack_changes (s : State) (x : StepOf) (i trailing flags : Nat) (isOver : Bool) :
    Changes [.tracks] (.only [K.degradedObjects, K.smallObjectsDropped]) s (State.closeTrack s x i trailing flags isOver) := by
  unfold State.closeTrack
  repeat' ((try with_reducible conv => arg 4; whnf); first
    | with_reducible apply Changes.refl
    | ((with_reducible show Area.sub _ _ = true); rfl)
    | ((with_reducible apply Entries.le_of_sub); rfl)
    | ((with_reducible apply Entries.le_only); simp; done)
    | intro _
    | with_reducible apply Changes.ite
    | with_reducible apply Changes.andThen ?_ (State.bump_changes _ _ _ ) ?_ ?_
    | with_reducible apply Changes.andThen ?_ (State.freeTrack_changes _ _ ) ?_ ?_
    | with_reducible apply Changes.andThen ?_ (State.setTrack_changes _ _ _ ) ?_ ?_
    | ((conv => arg 4; arg 24); with_reducible refine Changes.update ?_)
    | split)

theorem State.endStream_changes (s : State) (x : StepOf) (pos flags : Nat) :
    Changes [.tracks] (.only [K.degradedObjects, K.smallObjectsDropped]) s (State.endStream s x pos flags) := by
  unfold State.endStream
  repeat' ((try with_reducible conv => arg 4; whnf); first
    | with_reducible apply Changes.refl
    | ((with_reducible show Area.sub _ _ = true); rfl)
    | ((with_reducible apply Entries.le_of_sub); rfl)
    | ((with_reducible apply Entries.le_only); simp; done)
    | intro _
    | with_reducible apply Changes.foldl
    | with_reducible apply Changes.andThen ?_ (State.setRegions_changes _ _ ) ?_ ?_
    | with_reducible apply Changes.andThen ?_ (State.closeTrack_changes _ _ _ _ _ _ ) ?_ ?_)

theorem State.direct_changes (s : State) (r : Rec) :
    Changes [.tracks] (.only []) s (State.direct s r) := by
  unfold State.direct
  repeat' ((try with_reducible conv => arg 4; whnf); first
    | with_reducible apply Changes.refl
    | ((conv => arg 4; arg 24); with_reducible refine Changes.update ?_))

theorem State.listWait_changes (s : State) (x : StepOf) (i : Nat) :
    Changes [.tracks] (.only [K.fallbackDecisions, K.noTrackDecisions, K.listWaitFallbacks, K.outsideValveRange]) s (State.listWait s x i) := by
  unfold State.listWait
  repeat' ((try with_reducible conv => arg 4; whnf); first
    | with_reducible apply Changes.refl
    | ((with_reducible show Area.sub _ _ = true); rfl)
    | ((with_reducible apply Entries.le_of_sub); rfl)
    | ((with_reducible apply Entries.le_only); simp; done)
    | intro _
    | with_reducible apply Changes.andThen ?_ (State.trackRec_changes _ _ _ _ _ _ _ ) ?_ ?_
    | with_reducible apply Changes.andThen ?_ (State.direct_changes _ _ ) ?_ ?_
    | with_reducible apply Changes.andThen ?_ (State.freeTrack_changes _ _ ) ?_ ?_
    | split)

theorem State.coverRegion_changes (x : StepOf) (rowEnd lo hi x4 : Nat) (x5 : State) (x6 : Region) :
    Changes [.tracks] (.only [K.fallbackDecisions, K.noTrackDecisions, K.listWaitFallbacks, K.outsideValveRange]) x5 (State.coverRegion x rowEnd lo hi x4 x5 x6).1 := by
  induction x4 generalizing x5 x6 with
  | zero => exact Changes.refl
  | succ n ih =>
  unfold State.coverRegion
  repeat' ((try with_reducible conv => arg 4; arg 1; whnf); first
    | with_reducible apply Changes.refl
    | (with_reducible apply Changes.trans ?_ (ih _ _))
    | dsimp only
    | ((with_reducible show Area.sub _ _ = true); rfl)
    | ((with_reducible apply Entries.le_of_sub); rfl)
    | ((with_reducible apply Entries.le_only); simp; done)
    | intro _
    | with_reducible apply Changes.ite
    | with_reducible apply Changes.ite_fst
    | with_reducible apply Changes.andThen ?_ (State.direct_changes _ _ ) ?_ ?_
    | with_reducible apply Changes.andThen ?_ (State.decisionRec_changes _ _ _ _ _ _ _ _ _ _ ) ?_ ?_
    | split)

theorem State.regionRow_changes (s : State) (x : StepOf) (r : Nat) (g : Region) :
    Changes [.tracks] (.only [K.fallbackDecisions, K.noTrackDecisions, K.listWaitFallbacks, K.outsideValveRange]) s (State.regionRow s x r g).1 := by
  unfold State.regionRow
  repeat' ((try with_reducible conv => arg 4; arg 1; whnf); first
    | with_reducible apply Changes.refl
    | dsimp only
    | ((with_reducible show Area.sub _ _ = true); rfl)
    | ((with_reducible apply Entries.le_of_sub); rfl)
    | ((with_reducible apply Entries.le_only); simp; done)
    | intro _
    | with_reducible apply Changes.ite
    | with_reducible apply Changes.ite_fst
    | with_reducible apply Changes.foldl
    | with_reducible apply Changes.foldl_fst
    | with_reducible apply Changes.andThen ?_ (State.coverRegion_changes _ _ _ _ _ _ _ ) ?_ ?_
    | split)

theorem State.markedRow_changes (s : State) (x : StepOf) (r : Nat) :
    Changes [.tracks] (.only [K.fallbackDecisions, K.noTrackDecisions, K.listWaitFallbacks, K.outsideValveRange]) s (State.markedRow s x r) := by
  unfold State.markedRow
  repeat' ((try with_reducible conv => arg 4; whnf); first
    | with_reducible apply Changes.refl
    | ((with_reducible show Area.sub _ _ = true); rfl)
    | ((with_reducible apply Entries.le_of_sub); rfl)
    | ((with_reducible apply Entries.le_only); simp; done)
    | intro _
    | with_reducible apply Changes.foldl
    | with_reducible apply Changes.andThen ?_ (State.setRegions_changes _ _ ) ?_ ?_
    | with_reducible apply Changes.andThen ?_ (State.regionRow_changes _ _ _ _ ) ?_ ?_
    | with_reducible apply Changes.andThen ?_ (State.setTrack_changes _ _ _ ) ?_ ?_
    | ((conv => arg 4; arg 24); with_reducible refine Changes.update ?_)
    | split)

theorem State.join_changes (s : State) (x : StepOf) (r : Nat) (featureMarked : Bool) (run : Run) (cont : Bool) :
    Changes [.tracks, .host, .perf, .out] (.only [0x1205, K.joins, K.joinsRefused, K.fallbackDecisions, K.noTrackDecisions, K.degradedObjects, K.overlengthTracks, K.smallObjectsDropped, K.listWaitFallbacks, K.outsideValveRange, K.recordsUnrouted]) s (State.join s x r featureMarked run cont) := by
  unfold State.join
  repeat' ((try with_reducible conv => arg 4; whnf); first
    | with_reducible apply Changes.refl
    | ((with_reducible show Area.sub _ _ = true); rfl)
    | ((with_reducible apply Entries.le_of_sub); rfl)
    | ((with_reducible apply Entries.le_only); simp; done)
    | intro _
    | with_reducible apply Changes.ite
    | with_reducible apply Changes.andThen ?_ (State.setRegions_changes _ _ ) ?_ ?_
    | with_reducible apply Changes.andThen ?_ (State.bump_changes _ _ _ ) ?_ ?_
    | with_reducible apply Changes.andThen ?_ (State.addFeatures_changes _ _ _ _ _ ) ?_ ?_
    | with_reducible apply Changes.andThen ?_ (State.regionRow_changes _ _ _ _ ) ?_ ?_
    | with_reducible apply Changes.andThen ?_ (State.setTrack_changes _ _ _ ) ?_ ?_
    | with_reducible apply Changes.andThen ?_ (State.closeTrack_changes _ _ _ _ _ _ ) ?_ ?_
    | with_reducible apply Changes.andThen ?_ (State.emit_changes _ _ ) ?_ ?_
    | ((conv => arg 4; arg 24); with_reducible refine Changes.update ?_)
    | split)

theorem State.endRow_changes (s : State) (x : StepOf) (r : Nat) (featureMarked : Bool) :
    Changes [.tracks] (.only [K.fallbackDecisions, K.noTrackDecisions, K.degradedObjects, K.overlengthTracks, K.smallObjectsDropped, K.listWaitFallbacks, K.outsideValveRange]) s (State.endRow s x r featureMarked) := by
  unfold State.endRow
  repeat' ((try with_reducible conv => arg 4; whnf); first
    | with_reducible apply Changes.refl
    | ((with_reducible show Area.sub _ _ = true); rfl)
    | ((with_reducible apply Entries.le_of_sub); rfl)
    | ((with_reducible apply Entries.le_only); simp; done)
    | intro _
    | with_reducible apply Changes.ite
    | with_reducible apply Changes.foldl
    | with_reducible apply Changes.andThen ?_ (State.setRegions_changes _ _ ) ?_ ?_
    | with_reducible apply Changes.andThen ?_ (State.bump_changes _ _ _ ) ?_ ?_
    | with_reducible apply Changes.andThen ?_ (State.regionRow_changes _ _ _ _ ) ?_ ?_
    | with_reducible apply Changes.andThen ?_ (State.setTrack_changes _ _ _ ) ?_ ?_
    | with_reducible apply Changes.andThen ?_ (State.closeTrack_changes _ _ _ _ _ _ ) ?_ ?_
    | split)

theorem State.maskRow_changes (s : State) (x : StepOf) (r : Nat) :
    Changes [.tracks, .host, .perf, .out] (.only [0x1205, K.joins, K.joinsRefused, K.merges, K.fallbackDecisions, K.noTrackDecisions, K.degradedObjects, K.overlengthTracks, K.smallObjectsDropped, K.listWaitFallbacks, K.outsideValveRange, K.recordsUnrouted]) s (State.maskRow s x r) := by
  unfold State.maskRow
  repeat' ((try with_reducible conv => arg 4; whnf); first
    | with_reducible apply Changes.refl
    | ((with_reducible show Area.sub _ _ = true); rfl)
    | ((with_reducible apply Entries.le_of_sub); rfl)
    | ((with_reducible apply Entries.le_only); simp; done)
    | intro _
    | with_reducible apply Changes.ite
    | with_reducible apply Changes.ite_snd
    | with_reducible apply Changes.ite_fst
    | with_reducible apply Changes.ite_snd_snd
    | with_reducible apply Changes.foldl
    | with_reducible apply Changes.foldl_snd
    | with_reducible apply Changes.foldl_fst
    | with_reducible apply Changes.andThen ?_ (State.endStream_changes _ _ _ _ ) ?_ ?_
    | with_reducible apply Changes.andThen ?_ (State.markedRow_changes _ _ _ ) ?_ ?_
    | with_reducible apply Changes.andThen ?_ (State.takeRun_changes _ _ _ _ ) ?_ ?_
    | with_reducible apply Changes.andThen ?_ (State.join_changes _ _ _ _ _ _ ) ?_ ?_
    | with_reducible apply Changes.andThen ?_ (State.endRow_changes _ _ _ _ ) ?_ ?_
    | ((conv => arg 4; arg 24); with_reducible refine Changes.update ?_)
    | split
    | with_reducible refine Changes.of_snd (by assumption) ?_)

theorem State.waitStep_changes (s : State) (x : StepOf) :
    Changes [.tracks] (.only [K.fallbackDecisions, K.noTrackDecisions, K.listWaitFallbacks, K.outsideValveRange]) s (State.waitStep s x) := by
  unfold State.waitStep
  repeat' ((try with_reducible conv => arg 4; whnf); first
    | with_reducible apply Changes.refl
    | ((with_reducible show Area.sub _ _ = true); rfl)
    | ((with_reducible apply Entries.le_of_sub); rfl)
    | ((with_reducible apply Entries.le_only); simp; done)
    | intro _
    | with_reducible apply Changes.ite
    | with_reducible apply Changes.foldl
    | with_reducible apply Changes.andThen ?_ (State.listWait_changes _ _ _ ) ?_ ?_
    | with_reducible apply Changes.andThen ?_ (State.setTrack_changes _ _ _ ) ?_ ?_
    | split)

theorem State.writeDirect_changes (s : State) (x : StepOf) (old : Nat) :
    Changes [.tracks, .host, .perf, .out] (.only [0x1205, K.decisionsIssued, K.directRecordsDeferred, K.recordsUnrouted]) s (State.writeDirect s x old) := by
  unfold State.writeDirect
  repeat' ((try with_reducible conv => arg 4; whnf); first
    | with_reducible apply Changes.refl
    | ((with_reducible show Area.sub _ _ = true); rfl)
    | ((with_reducible apply Entries.le_of_sub); rfl)
    | ((with_reducible apply Entries.le_only); simp; done)
    | intro _
    | with_reducible apply Changes.foldl
    | with_reducible apply Changes.andThen ?_ (State.bump_changes _ _ _ ) ?_ ?_
    | with_reducible apply Changes.andThen ?_ (State.issueDecision_changes _ _ ) ?_ ?_
    | ((conv => arg 4; arg 24); with_reducible refine Changes.update ?_))

theorem State.gatherStep_changes (s : State) (x : StepOf) (batch : Nat) :
    Changes [.engine, .host, .perf, .out] (.only [0x0805, 0x0821, 0x1205, K.recordsUnrouted]) s (State.gatherStep s x batch) := by
  unfold State.gatherStep
  repeat' ((try with_reducible conv => arg 4; whnf); first
    | with_reducible apply Changes.refl
    | ((with_reducible show Area.sub _ _ = true); rfl)
    | ((with_reducible apply Entries.le_of_sub); rfl)
    | ((with_reducible apply Entries.le_only); simp; done)
    | intro _
    | with_reducible apply Changes.ite
    | with_reducible apply Changes.ite_snd
    | with_reducible apply Changes.ite_fst
    | with_reducible apply Changes.ite_snd_snd
    | with_reducible apply Changes.foldl
    | with_reducible apply Changes.foldl_snd
    | with_reducible apply Changes.foldl_fst
    | with_reducible apply Changes.andThen ?_ (State.writeChans_changes _ _ _ _ _ _ _ ) ?_ ?_
    | with_reducible apply Changes.andThen ?_ (State.tally_changes _ _ _ _ _ ) ?_ ?_
    | ((conv => arg 4; arg 24); with_reducible refine Changes.update ?_)
    | split
    | with_reducible refine Changes.of_snd (by assumption) ?_)

theorem State.listStep_changes (s : State) (x : StepOf) :
    Changes [.engine, .tracks] (.only [K.emptyListEntries]) s (State.listStep s x) := by
  unfold State.listStep
  repeat' ((try with_reducible conv => arg 4; whnf); first
    | with_reducible apply Changes.refl
    | ((with_reducible show Area.sub _ _ = true); rfl)
    | ((with_reducible apply Entries.le_of_sub); rfl)
    | ((with_reducible apply Entries.le_only); simp; done)
    | intro _
    | with_reducible apply Changes.foldl
    | with_reducible apply Changes.andThen ?_ (State.bump_changes _ _ _ ) ?_ ?_
    | with_reducible apply Changes.andThen ?_ (State.actWrite_changes _ _ _ _ ) ?_ ?_
    | with_reducible apply Changes.andThen ?_ (State.setTrack_changes _ _ _ ) ?_ ?_
    | ((conv => arg 4; arg 24); with_reducible refine Changes.update ?_)
    | split)

theorem State.trackStep_changes (s : State) (w : Work) (batch : Nat) (last : Bool) :
    Changes [.engine, .tracks, .host, .perf, .out] (.only [0x0805, 0x0821, 0x1205, K.tracksPeak, K.joins, K.joinsRefused, K.merges, K.decisionsIssued, K.fallbackDecisions, K.noTrackDecisions, K.degradedObjects, K.overlengthTracks, K.smallObjectsDropped, K.listWaitFallbacks, K.directRecordsDeferred, K.emptyListEntries, K.outsideValveRange, K.recordsUnrouted]) s (State.trackStep s w batch last) := by
  unfold State.trackStep
  repeat' ((try with_reducible conv => arg 4; whnf); first
    | with_reducible apply Changes.refl
    | ((with_reducible show Area.sub _ _ = true); rfl)
    | ((with_reducible apply Entries.le_of_sub); rfl)
    | ((with_reducible apply Entries.le_only); simp; done)
    | intro _
    | with_reducible apply Changes.ite
    | with_reducible apply Changes.foldl
    | with_reducible apply Changes.andThen ?_ (State.endStream_changes _ _ _ _ ) ?_ ?_
    | with_reducible apply Changes.andThen ?_ (State.listWait_changes _ _ _ ) ?_ ?_
    | with_reducible apply Changes.andThen ?_ (State.maskRow_changes _ _ _ ) ?_ ?_
    | with_reducible apply Changes.andThen ?_ (State.waitStep_changes _ _ ) ?_ ?_
    | with_reducible apply Changes.andThen ?_ (State.peak_changes _ _ _ ) ?_ ?_
    | with_reducible apply Changes.andThen ?_ (State.writeDirect_changes _ _ _ ) ?_ ?_
    | with_reducible apply Changes.andThen ?_ (State.freeTrack_changes _ _ ) ?_ ?_
    | with_reducible apply Changes.andThen ?_ (State.gatherStep_changes _ _ _ ) ?_ ?_
    | with_reducible apply Changes.andThen ?_ (State.listStep_changes _ _ ) ?_ ?_
    | with_reducible apply Changes.andThen ?_ (State.storeTable_changes _ _ ) ?_ ?_
    | ((conv => arg 4; arg 24); refine Changes.updateIn ?_)
    | split)

end Sys2Proof.Machine
end

