-- ==== Sys2Proof/Laws/FrameKernels.lean ====
section
/-! SUPPORT. What each operation of Machine/Kernels.lean changes and what it leaves unchanged. -/

-- one theorem after another: see NOTES.md
set_option Elab.async false

namespace Sys2Proof.Machine

theorem State.freeze_changes (s : State) (die c n at' cyc : Nat) :
    Changes [.engine, .faults] (.only [0x0804]) s (State.freeze s die c n at' cyc) := by
  unfold State.freeze
  repeat' ((try with_reducible conv => arg 4; whnf); first
    | with_reducible apply Changes.refl
    | ((with_reducible show Area.sub _ _ = true); rfl)
    | ((with_reducible apply Entries.le_of_sub); rfl)
    | ((with_reducible apply Entries.le_only); simp; done)
    | intro _
    | with_reducible apply Changes.ite
    | with_reducible apply Changes.andThen ?_ (State.bump_changes _ _ _ ) ?_ ?_
    | ((conv => arg 4; arg 24); with_reducible refine Changes.update ?_)
    | split)

theorem State.feed_changes (s : State) (cyc : Nat) :
    Changes [.engine, .faults] (.only [0x0804]) s (State.feed s cyc) := by
  unfold State.feed
  repeat' ((try with_reducible conv => arg 4; whnf); first
    | with_reducible apply Changes.refl
    | ((with_reducible show Area.sub _ _ = true); rfl)
    | ((with_reducible apply Entries.le_of_sub); rfl)
    | ((with_reducible apply Entries.le_only); simp; done)
    | intro _
    | with_reducible apply Changes.ite
    | with_reducible apply Changes.foldl
    | with_reducible apply Changes.andThen ?_ (State.freeze_changes _ _ _ _ _ _ ) ?_ ?_
    | split)

theorem State.takePoison_changes (s : State) (w : Work) (k : Kernel) (c : Nat) :
    Changes [.freeN, .engine, .host, .faults, .perf, .out] (.only [0x1205, 0x1402, 0x1703, K.recordsUnrouted, K.faultLogOverwritten, K.faultRecordsSuppressed]) s (State.takePoison s w k c) := by
  unfold State.takePoison
  repeat' ((try with_reducible conv => arg 4; whnf); first
    | with_reducible apply Changes.refl
    | ((with_reducible show Area.sub _ _ = true); rfl)
    | ((with_reducible apply Entries.le_of_sub); rfl)
    | ((with_reducible apply Entries.le_only); simp; done)
    | intro _
    | with_reducible apply Changes.ite
    | with_reducible apply Changes.andThen ?_ (State.abortLayer_changes _ _ ) ?_ ?_
    | with_reducible apply Changes.andThen ?_ (State.report_changes _ _ _ _ _ _ _ ) ?_ ?_
    | with_reducible apply Changes.andThen ?_ (State.setCtx_changes _ _ _ ) ?_ ?_
    | split)

theorem State.layerFault_changes (s : State) (w : Work) (c code detail : Nat) :
    Changes [.freeN, .engine, .host, .faults, .perf, .out] (.only [0x1205, 0x1402, 0x1703, K.recordsUnrouted, K.faultLogOverwritten, K.faultRecordsSuppressed]) s (State.layerFault s w c code detail) := by
  unfold State.layerFault
  repeat' ((try with_reducible conv => arg 4; whnf); first
    | with_reducible apply Changes.refl
    | ((with_reducible show Area.sub _ _ = true); rfl)
    | ((with_reducible apply Entries.le_of_sub); rfl)
    | ((with_reducible apply Entries.le_only); simp; done)
    | intro _
    | with_reducible apply Changes.andThen ?_ (State.abortLayer_changes _ _ ) ?_ ?_
    | with_reducible apply Changes.andThen ?_ (State.report_changes _ _ _ _ _ _ _ ) ?_ ?_)

theorem State.checkAdds_changes (s : State) (w : Work) (k : Kernel) (c : Nat) :
    Changes [.freeN, .engine, .host, .faults, .perf, .out] (.only [0x0860, 0x1205, 0x1402, 0x1703, K.recordsUnrouted, K.faultLogOverwritten, K.faultRecordsSuppressed]) s (State.checkAdds s w k c) := by
  unfold State.checkAdds
  repeat' ((try with_reducible conv => arg 4; whnf); first
    | with_reducible apply Changes.refl
    | ((with_reducible show Area.sub _ _ = true); rfl)
    | ((with_reducible apply Entries.le_of_sub); rfl)
    | ((with_reducible apply Entries.le_only); simp; done)
    | intro _
    | with_reducible apply Changes.ite
    | with_reducible apply Changes.foldl
    | with_reducible apply Changes.andThen ?_ (State.bump_changes _ _ _ ) ?_ ?_
    | with_reducible apply Changes.andThen ?_ (State.layerFault_changes _ _ _ _ _ ) ?_ ?_
    | split)

theorem State.settleFreeze_changes (s : State) (d : Nat) :
    Changes [.engine, .host, .faults, .perf, .out] (.only [0x0804, 0x1205, K.recordsUnrouted]) s (State.settleFreeze s d) := by
  unfold State.settleFreeze
  repeat' ((try with_reducible conv => arg 4; whnf); first
    | with_reducible apply Changes.refl
    | ((with_reducible show Area.sub _ _ = true); rfl)
    | ((with_reducible apply Entries.le_of_sub); rfl)
    | ((with_reducible apply Entries.le_only); simp; done)
    | intro _
    | with_reducible apply Changes.ite
    | with_reducible apply Changes.andThen ?_ (State.unfreeze_changes _ _ ) ?_ ?_
    | split)

theorem State.writeSample_changes (s : State) (d : Nat) :
    Changes [.host, .faults, .perf, .out] (.only [0x1205, 0x1703, K.recordsUnrouted, K.faultLogOverwritten, K.samplesTaken]) s (State.writeSample s d) := by
  unfold State.writeSample
  repeat' ((try with_reducible conv => arg 4; whnf); first
    | with_reducible apply Changes.refl
    | ((with_reducible show Area.sub _ _ = true); rfl)
    | ((with_reducible apply Entries.le_of_sub); rfl)
    | ((with_reducible apply Entries.le_only); simp; done)
    | intro _
    | with_reducible apply Changes.ite
    | with_reducible apply Changes.andThen ?_ (State.bump_changes _ _ _ ) ?_ ?_
    | with_reducible apply Changes.andThen ?_ (State.overwrote_changes _ _ _ ) ?_ ?_
    | with_reducible apply Changes.andThen ?_ (State.emit_changes _ _ ) ?_ ?_
    | ((conv => arg 4; arg 24); with_reducible refine Changes.update ?_)
    | split)

theorem State.kernelStop_changes (s : State) (c n cyc : Nat) :
    Changes [.engine, .host, .faults, .perf, .out] (.only [0x1205, 0x1703, K.recordsUnrouted, K.faultLogOverwritten, K.samplesTaken]) s (State.kernelStop s c n cyc) := by
  unfold State.kernelStop
  repeat' ((try with_reducible conv => arg 4; whnf); first
    | with_reducible apply Changes.refl
    | ((with_reducible show Area.sub _ _ = true); rfl)
    | ((with_reducible apply Entries.le_of_sub); rfl)
    | ((with_reducible apply Entries.le_only); simp; done)
    | intro _
    | with_reducible apply Changes.ite
    | with_reducible apply Changes.andThen ?_ (State.writeSample_changes _ _ ) ?_ ?_
    | ((conv => arg 4; arg 24); with_reducible refine Changes.update ?_)
    | split)

theorem State.endKernel_changes (s : State) (c n cyc : Nat) :
    Changes [.engine, .host, .faults, .perf, .out] (.only [0x0804, 0x1205, 0x1703, K.recordsUnrouted, K.faultLogOverwritten, K.samplesTaken]) s (State.endKernel s c n cyc) := by
  unfold State.endKernel
  repeat' ((try with_reducible conv => arg 4; whnf); first
    | with_reducible apply Changes.refl
    | ((with_reducible show Area.sub _ _ = true); rfl)
    | ((with_reducible apply Entries.le_of_sub); rfl)
    | ((with_reducible apply Entries.le_only); simp; done)
    | intro _
    | with_reducible apply Changes.andThen ?_ (State.feed_changes _ _ ) ?_ ?_
    | with_reducible apply Changes.andThen ?_ (State.kernelStop_changes _ _ _ _ ) ?_ ?_)

theorem execKernelEnd_changes (ctx kernel cyc : Nat) (s : State) {u : State} (h : execKernelEnd ctx kernel cyc s = .next u) :
    Changes [.engine, .host, .faults, .perf, .out] (.only [0x0804, 0x1205, 0x1703, K.recordsUnrouted, K.faultLogOverwritten, K.samplesTaken]) s u := by
  unfold execKernelEnd at h
  try (have h := guardUnit_next h)
  try injection h with h
  subst h
  repeat' ((try with_reducible conv => arg 4; whnf); first
    | with_reducible apply Changes.refl
    | ((with_reducible show Area.sub _ _ = true); rfl)
    | ((with_reducible apply Entries.le_of_sub); rfl)
    | ((with_reducible apply Entries.le_only); simp; done)
    | intro _
    | with_reducible apply Changes.andThen ?_ (State.endKernel_changes _ _ _ _ ) ?_ ?_)

theorem State.sendHalo_changes (s : State) (w : Work) (k : Kernel) :
    Changes [.engine] (.only []) s (State.sendHalo s w k) := by
  unfold State.sendHalo
  repeat' ((try with_reducible conv => arg 4; whnf); first
    | with_reducible apply Changes.refl
    | ((conv => arg 4; arg 24); with_reducible refine Changes.update ?_)
    | split)

theorem State.computeKernel_changes (s : State) (r : Ready) (c : Nat) (mute : Bool) :
    Changes [.pipe, .engine, .tracks, .host, .perf, .out] (.only [0x0805, 0x0821, 0x0823, 0x0841, 0x0861, 0x1205, K.encodesSkipped, K.tracksPeak, K.joins, K.joinsRefused, K.merges, K.decisionsIssued, K.fallbackDecisions, K.noTrackDecisions, K.degradedObjects, K.overlengthTracks, K.smallObjectsDropped, K.listWaitFallbacks, K.directRecordsDeferred, K.emptyListEntries, K.outsideValveRange, K.recordsUnrouted]) s (State.computeKernel s r c mute) := by
  unfold State.computeKernel
  repeat' ((try with_reducible conv => arg 4; whnf); first
    | with_reducible apply Changes.refl
    | ((with_reducible show Area.sub _ _ = true); rfl)
    | ((with_reducible apply Entries.le_of_sub); rfl)
    | ((with_reducible apply Entries.le_only); simp; done)
    | intro _
    | with_reducible apply Changes.ite
    | with_reducible apply Changes.andThen ?_ (State.saveCarry_changes _ _ ) ?_ ?_
    | with_reducible apply Changes.andThen ?_ (State.runWork_changes _ _ _ _ _ _ ) ?_ ?_
    | with_reducible apply Changes.andThen ?_ (State.runDecisions_changes _ _ _ ) ?_ ?_
    | with_reducible apply Changes.andThen ?_ (State.trackStep_changes _ _ _ _ ) ?_ ?_
    | with_reducible apply Changes.andThen ?_ (State.sendHalo_changes _ _ _ ) ?_ ?_
    | split)

theorem State.noteStart_changes (s : State) (c n : Nat) :
    Changes [.engine] (.only []) s (State.noteStart s c n) := by
  unfold State.noteStart
  repeat' ((try with_reducible conv => arg 4; whnf); first
    | with_reducible apply Changes.refl
    | ((with_reducible show Area.sub _ _ = true); rfl)
    | ((with_reducible apply Entries.le_of_sub); rfl)
    | ((with_reducible apply Entries.le_only); simp; done)
    | intro _
    | with_reducible apply Changes.ite
    | with_reducible apply Changes.andThen ?_ (State.setCtx_changes _ _ _ ) ?_ ?_
    | ((conv => arg 4; arg 24); with_reducible refine Changes.update ?_)
    | split)

theorem State.tagKernel_changes (s : State) (r : Ready) (c n cyc : Nat) (noRow noWrite : Bool) :
    Changes [.freeN, .perf] (.only [K.samplesDropped]) s (State.tagKernel s r c n cyc noRow noWrite) := by
  unfold State.tagKernel
  repeat' ((try with_reducible conv => arg 4; whnf); first
    | with_reducible apply Changes.refl
    | ((with_reducible show Area.sub _ _ = true); rfl)
    | ((with_reducible apply Entries.le_of_sub); rfl)
    | ((with_reducible apply Entries.le_only); simp; done)
    | intro _
    | with_reducible apply Changes.ite
    | with_reducible apply Changes.foldl
    | with_reducible apply Changes.andThen ?_ (State.bump_changes _ _ _ ) ?_ ?_
    | with_reducible apply Changes.andThen ?_ (State.takeFree_changes _ ) ?_ ?_
    | ((conv => arg 4; arg 24); with_reducible refine Changes.update ?_)
    | split)

theorem State.skewFound_changes (s : State) (w : Work) (c arr : Nat) (k : Skew) :
    Changes [.freeN, .engine, .host, .faults, .perf, .out] (.only [0x0820, 0x1205, 0x1402, 0x1703, K.recordsUnrouted, K.faultLogOverwritten, K.faultRecordsSuppressed]) s (State.skewFound s w c arr k) := by
  unfold State.skewFound
  repeat' ((try with_reducible conv => arg 4; whnf); first
    | with_reducible apply Changes.refl
    | ((with_reducible show Area.sub _ _ = true); rfl)
    | ((with_reducible apply Entries.le_of_sub); rfl)
    | ((with_reducible apply Entries.le_only); simp; done)
    | intro _
    | with_reducible apply Changes.ite
    | with_reducible apply Changes.andThen ?_ (State.setReg_changes _ _ _ ) ?_ ?_
    | with_reducible apply Changes.andThen ?_ (State.bump_changes _ _ _ ) ?_ ?_
    | with_reducible apply Changes.andThen ?_ (State.abortLayer_changes _ _ ) ?_ ?_
    | with_reducible apply Changes.andThen ?_ (State.layerFault_changes _ _ _ _ _ ) ?_ ?_
    | ((conv => arg 4; arg 24); with_reducible refine Changes.update ?_)
    | split)

theorem State.checkScales_changes (s : State) (w : Work) (k : Kernel) (c : Nat) :
    Changes [.freeN, .engine, .host, .faults, .perf, .out] (.only [0x0820, 0x1205, 0x1402, 0x1703, K.recordsUnrouted, K.faultLogOverwritten, K.faultRecordsSuppressed]) s (State.checkScales s w k c) := by
  unfold State.checkScales
  repeat' ((try with_reducible conv => arg 4; whnf); first
    | with_reducible apply Changes.refl
    | ((with_reducible show Area.sub _ _ = true); rfl)
    | ((with_reducible apply Entries.le_of_sub); rfl)
    | ((with_reducible apply Entries.le_only); simp; done)
    | intro _
    | with_reducible apply Changes.andThen ?_ (State.skewFound_changes _ _ _ _ _ ) ?_ ?_
    | split)

theorem State.checkParity_changes (s : State) (w : Work) (k : Kernel) (c : Nat) :
    Changes [.freeN, .engine, .host, .faults, .perf, .out] (.only [0x0843, 0x1205, 0x1402, 0x1703, K.recordsUnrouted, K.faultLogOverwritten, K.faultRecordsSuppressed]) s (State.checkParity s w k c) := by
  unfold State.checkParity
  repeat' ((try with_reducible conv => arg 4; whnf); first
    | with_reducible apply Changes.refl
    | ((with_reducible show Area.sub _ _ = true); rfl)
    | ((with_reducible apply Entries.le_of_sub); rfl)
    | ((with_reducible apply Entries.le_only); simp; done)
    | intro _
    | with_reducible apply Changes.ite
    | with_reducible apply Changes.andThen ?_ (State.bump_changes _ _ _ ) ?_ ?_
    | with_reducible apply Changes.andThen ?_ (State.layerFault_changes _ _ _ _ _ ) ?_ ?_
    | ((conv => arg 4; arg 24); with_reducible refine Changes.update ?_)
    | split)

theorem State.checkArrays_changes (s : State) (w : Work) (k : Kernel) (c : Nat) :
    Changes [.freeN, .blobs, .ctl, .belt, .pipe, .engine, .tracks, .eject, .memory, .knots, .host, .faults, .perf, .out] (.only [0x0804, 0x0805, 0x0808, 0x1205, 0x1402, 0x1703, K.decisionsIssued, K.fallbackDecisions, K.waitersInUse, K.waitersPeak, K.ownerResetReleases, K.knotDumpContext, K.pulsesPending, K.pulsesPeak, K.pulsesScheduled, K.pulsesMerged, K.storeFullRefused, K.lateDecisions, K.missedDecisions, K.disabledChannelRequests, K.commandsCompleted, K.recordsUnrouted, K.faultLogOverwritten, K.faultRecordsSuppressed, K.fallbackGapOpen, K.gapRecords]) s (State.checkArrays s w k c) := by
  unfold State.checkArrays
  repeat' ((try with_reducible conv => arg 4; whnf); first
    | with_reducible apply Changes.refl
    | ((with_reducible show Area.sub _ _ = true); rfl)
    | ((with_reducible apply Entries.le_of_sub); rfl)
    | ((with_reducible apply Entries.le_only); simp; done)
    | intro _
    | with_reducible apply Changes.ite
    | with_reducible apply Changes.foldl
    | with_reducible apply Changes.andThen ?_ (State.bump_changes _ _ _ ) ?_ ?_
    | with_reducible apply Changes.andThen ?_ (State.arrayMiss_changes _ _ _ _ ) ?_ ?_
    | with_reducible apply Changes.andThen ?_ (State.layerFault_changes _ _ _ _ _ ) ?_ ?_
    | with_reducible apply Changes.andThen ?_ (State.count_changes _ _ _ _ _ _ _ _ ) ?_ ?_
    | split)

theorem State.checkKernel_changes (s : State) (w : Work) (k : Kernel) (c : Nat) :
    Changes [.freeN, .blobs, .ctl, .belt, .pipe, .engine, .tracks, .eject, .memory, .knots, .host, .faults, .perf, .out] (.only [0x0804, 0x0805, 0x0808, 0x0820, 0x0843, 0x0860, 0x1205, 0x1402, 0x1703, K.decisionsIssued, K.fallbackDecisions, K.waitersInUse, K.waitersPeak, K.ownerResetReleases, K.knotDumpContext, K.pulsesPending, K.pulsesPeak, K.pulsesScheduled, K.pulsesMerged, K.storeFullRefused, K.lateDecisions, K.missedDecisions, K.disabledChannelRequests, K.commandsCompleted, K.recordsUnrouted, K.faultLogOverwritten, K.faultRecordsSuppressed, K.fallbackGapOpen, K.gapRecords]) s (State.checkKernel s w k c) := by
  unfold State.checkKernel
  repeat' ((try with_reducible conv => arg 4; whnf); first
    | with_reducible apply Changes.refl
    | ((with_reducible show Area.sub _ _ = true); rfl)
    | ((with_reducible apply Entries.le_of_sub); rfl)
    | ((with_reducible apply Entries.le_only); simp; done)
    | intro _
    | with_reducible apply Changes.andThen ?_ (State.checkScales_changes _ _ _ _ ) ?_ ?_
    | with_reducible apply Changes.andThen ?_ (State.checkAdds_changes _ _ _ _ ) ?_ ?_
    | with_reducible apply Changes.andThen ?_ (State.checkParity_changes _ _ _ _ ) ?_ ?_
    | with_reducible apply Changes.andThen ?_ (State.checkArrays_changes _ _ _ _ ) ?_ ?_)

theorem State.kernelGo_changes (s : State) (c n cyc : Nat) (obs : KernelObs) :
    Changes [.freeN, .blobs, .ctl, .belt, .pipe, .engine, .tracks, .eject, .memory, .knots, .host, .faults, .perf, .out] (.only [0x0804, 0x0805, 0x0808, 0x0820, 0x0821, 0x0823, 0x0841, 0x0842, 0x0843, 0x0860, 0x0861, 0x1205, 0x1402, 0x1703, K.encodesSkipped, K.tracksPeak, K.joins, K.joinsRefused, K.merges, K.decisionsIssued, K.fallbackDecisions, K.noTrackDecisions, K.degradedObjects, K.overlengthTracks, K.smallObjectsDropped, K.listWaitFallbacks, K.directRecordsDeferred, K.emptyListEntries, K.outsideValveRange, K.waitersInUse, K.waitersPeak, K.ownerResetReleases, K.knotDumpContext, K.pulsesPending, K.pulsesPeak, K.pulsesScheduled, K.pulsesMerged, K.storeFullRefused, K.lateDecisions, K.missedDecisions, K.disabledChannelRequests, K.commandsCompleted, K.recordsUnrouted, K.faultLogOverwritten, K.faultRecordsSuppressed, K.fallbackGapOpen, K.gapRecords, K.samplesDropped]) s (State.kernelGo s c n cyc obs) := by
  unfold State.kernelGo
  repeat' ((try with_reducible conv => arg 4; whnf); first
    | with_reducible apply Changes.refl
    | ((with_reducible show Area.sub _ _ = true); rfl)
    | ((with_reducible apply Entries.le_of_sub); rfl)
    | ((with_reducible apply Entries.le_only); simp; done)
    | intro _
    | with_reducible apply Changes.ite
    | with_reducible apply Changes.andThen ?_ (State.countKernel_changes _ _ _ _ _ ) ?_ ?_
    | with_reducible apply Changes.andThen ?_ (State.freeze_changes _ _ _ _ _ _ ) ?_ ?_
    | with_reducible apply Changes.andThen ?_ (State.takePoison_changes _ _ _ _ ) ?_ ?_
    | with_reducible apply Changes.andThen ?_ (State.computeKernel_changes _ _ _ _ ) ?_ ?_
    | with_reducible apply Changes.andThen ?_ (State.noteStart_changes _ _ _ ) ?_ ?_
    | with_reducible apply Changes.andThen ?_ (State.settleFreeze_changes _ _ ) ?_ ?_
    | with_reducible apply Changes.andThen ?_ (State.tagKernel_changes _ _ _ _ _ _ _ ) ?_ ?_
    | with_reducible apply Changes.andThen ?_ (State.checkKernel_changes _ _ _ _ ) ?_ ?_
    | split)

theorem State.startKernel_changes (s : State) (c n cyc : Nat) (obs : KernelObs) :
    Changes [.freeN, .blobs, .ctl, .belt, .pipe, .engine, .tracks, .eject, .memory, .knots, .host, .faults, .perf, .out] (.only [0x0804, 0x0805, 0x0808, 0x0820, 0x0821, 0x0823, 0x0841, 0x0842, 0x0843, 0x0860, 0x0861, 0x1205, 0x1402, 0x1703, K.encodesSkipped, K.tracksPeak, K.joins, K.joinsRefused, K.merges, K.decisionsIssued, K.fallbackDecisions, K.noTrackDecisions, K.degradedObjects, K.overlengthTracks, K.smallObjectsDropped, K.listWaitFallbacks, K.directRecordsDeferred, K.emptyListEntries, K.outsideValveRange, K.waitersInUse, K.waitersPeak, K.ownerResetReleases, K.knotDumpContext, K.pulsesPending, K.pulsesPeak, K.pulsesScheduled, K.pulsesMerged, K.storeFullRefused, K.lateDecisions, K.missedDecisions, K.disabledChannelRequests, K.commandsCompleted, K.recordsUnrouted, K.faultLogOverwritten, K.faultRecordsSuppressed, K.fallbackGapOpen, K.gapRecords, K.samplesDropped]) s (State.startKernel s c n cyc obs) := by
  unfold State.startKernel
  repeat' ((try with_reducible conv => arg 4; whnf); first
    | with_reducible apply Changes.refl
    | ((with_reducible show Area.sub _ _ = true); rfl)
    | ((with_reducible apply Entries.le_of_sub); rfl)
    | ((with_reducible apply Entries.le_only); simp; done)
    | intro _
    | with_reducible apply Changes.andThen ?_ (State.feed_changes _ _ ) ?_ ?_
    | with_reducible apply Changes.andThen ?_ (State.kernelGo_changes _ _ _ _ _ ) ?_ ?_)

theorem execKernelStart_changes (ctx kernel cyc : Nat) (obs : KernelObs) (s : State) {u : State} (h : execKernelStart ctx kernel cyc obs s = .next u) :
    Changes [.freeN, .blobs, .ctl, .belt, .pipe, .engine, .tracks, .eject, .memory, .knots, .host, .faults, .perf, .out] (.only [0x0804, 0x0805, 0x0808, 0x0820, 0x0821, 0x0823, 0x0841, 0x0842, 0x0843, 0x0860, 0x0861, 0x1205, 0x1402, 0x1703, K.encodesSkipped, K.tracksPeak, K.joins, K.joinsRefused, K.merges, K.decisionsIssued, K.fallbackDecisions, K.noTrackDecisions, K.degradedObjects, K.overlengthTracks, K.smallObjectsDropped, K.listWaitFallbacks, K.directRecordsDeferred, K.emptyListEntries, K.outsideValveRange, K.waitersInUse, K.waitersPeak, K.ownerResetReleases, K.knotDumpContext, K.pulsesPending, K.pulsesPeak, K.pulsesScheduled, K.pulsesMerged, K.storeFullRefused, K.lateDecisions, K.missedDecisions, K.disabledChannelRequests, K.commandsCompleted, K.recordsUnrouted, K.faultLogOverwritten, K.faultRecordsSuppressed, K.fallbackGapOpen, K.gapRecords, K.samplesDropped]) s u := by
  unfold execKernelStart at h
  try (have h := guardUnit_next h)
  try injection h with h
  subst h
  repeat' ((try with_reducible conv => arg 4; whnf); first
    | with_reducible apply Changes.refl
    | ((with_reducible show Area.sub _ _ = true); rfl)
    | ((with_reducible apply Entries.le_of_sub); rfl)
    | ((with_reducible apply Entries.le_only); simp; done)
    | intro _
    | with_reducible apply Changes.andThen ?_ (State.startKernel_changes _ _ _ _ _ ) ?_ ?_)

end Sys2Proof.Machine
end

