-- ==== Sys2Proof/Laws/FramePlanImage.lean ====
section
/-! SUPPORT. What each operation of Machine/PlanImage.lean changes and what it leaves unchanged. -/

-- one theorem after another: see NOTES.md
set_option Elab.async false

namespace Sys2Proof.Machine

theorem State.freeScales_changes (s : State) (c : Nat) :
    Changes [.engine] (.only []) s (State.freeScales s c) := by
  unfold State.freeScales
  repeat' ((try with_reducible conv => arg 4; whnf); first
    | with_reducible apply Changes.refl
    | ((conv => arg 4; arg 24); with_reducible refine Changes.update ?_))

theorem State.setSlot_changes (s : State) (n : Nat) (x : PlanSlot) :
    Changes [.engine] (.only []) s (State.setSlot s n x) := by
  unfold State.setSlot
  repeat' ((try with_reducible conv => arg 4; whnf); first
    | with_reducible apply Changes.refl
    | ((conv => arg 4; arg 24); with_reducible refine Changes.update ?_))

theorem State.fillScales_changes (s : State) (c : Nat) (p : Plan) :
    Changes [.engine] (.only []) s (State.fillScales s c p) := by
  unfold State.fillScales
  repeat' ((try with_reducible conv => arg 4; whnf); first
    | with_reducible apply Changes.refl
    | intro _
    | with_reducible apply Changes.foldl
    | ((conv => arg 4; arg 24); with_reducible refine Changes.update ?_))

theorem State.keepScales_changes (s : State) :
    Changes [.engine] (.only []) s (State.keepScales s) := by
  unfold State.keepScales
  repeat' ((try with_reducible conv => arg 4; whnf); first
    | with_reducible apply Changes.refl
    | intro _
    | with_reducible apply Changes.foldl
    | ((conv => arg 4; arg 24); with_reducible refine Changes.update ?_))

end Sys2Proof.Machine
end

