-- ==== Sys2Proof/Laws/FramePlanKnots.lean ====
section
/-! SUPPORT. What each operation of Machine/PlanKnots.lean changes and what it leaves unchanged. -/

-- one theorem after another: see NOTES.md
set_option Elab.async false

namespace Sys2Proof.Machine

theorem State.remoteKnot_changes (s : State) (c : Nat) (i : Issuer) (m : Nat) (body : List Byte) :
    Changes [.knots, .perf, .out] (.only []) s (State.remoteKnot s c i m body).2 := by
  unfold State.remoteKnot
  repeat' ((try with_reducible conv => arg 4; arg 1; whnf); first
    | with_reducible apply Changes.refl
    | dsimp only
    | ((with_reducible show Area.sub _ _ = true); rfl)
    | ((with_reducible apply Entries.le_of_sub); rfl)
    | ((with_reducible apply Entries.le_only); simp; done)
    | intro _
    | with_reducible apply Changes.ite
    | with_reducible apply Changes.ite_snd
    | with_reducible apply Changes.andThen ?_ (State.sendTo_changes _ _ _ _ _ _ _ _ ) ?_ ?_
    | ((conv => arg 4; arg 24); with_reducible refine Changes.update ?_)
    | split)

theorem State.opRefused_changes (s : State) (c knot value st : Nat) :
    Changes [.host, .perf, .out] (.only [0x1205, K.knotOpsRefused, K.recordsUnrouted]) s (State.opRefused s c knot value st) := by
  unfold State.opRefused
  repeat' ((try with_reducible conv => arg 4; whnf); first
    | with_reducible apply Changes.refl
    | ((with_reducible show Area.sub _ _ = true); rfl)
    | ((with_reducible apply Entries.le_of_sub); rfl)
    | ((with_reducible apply Entries.le_only); simp; done)
    | intro _
    | with_reducible apply Changes.ite
    | with_reducible apply Changes.andThen ?_ (State.bump_changes _ _ _ ) ?_ ?_
    | with_reducible apply Changes.andThen ?_ (State.emit_changes _ _ ) ?_ ?_
    | split)

theorem State.actRefused_changes (s : State) (c : Nat) (a : KnotAct) (st : Nat) :
    Changes [.host, .perf, .out] (.only [0x1205, K.knotOpsRefused, K.recordsUnrouted]) s (State.actRefused s c a st) := by
  unfold State.actRefused
  repeat' ((try with_reducible conv => arg 4; whnf); first
    | with_reducible apply Changes.refl
    | ((with_reducible show Area.sub _ _ = true); rfl)
    | ((with_reducible apply Entries.le_of_sub); rfl)
    | ((with_reducible apply Entries.le_only); simp; done)
    | intro _
    | with_reducible apply Changes.andThen ?_ (State.opRefused_changes _ _ _ _ _ ) ?_ ?_)

theorem State.signalAct_changes (s : State) (c : Nat) (i : Issuer) (a : KnotAct) :
    Changes [.knots, .host, .perf, .out] (.only [0x1205, K.waitersInUse, K.waitersPeak, K.knotOps, K.knotSaturations, K.frozenRefusals, K.knotOpsRefused, K.commandsCompleted, K.recordsUnrouted]) s (State.signalAct s c i a) := by
  unfold State.signalAct
  repeat' ((try with_reducible conv => arg 4; whnf); first
    | with_reducible apply Changes.refl
    | ((with_reducible show Area.sub _ _ = true); rfl)
    | ((with_reducible apply Entries.le_of_sub); rfl)
    | ((with_reducible apply Entries.le_only); simp; done)
    | intro _
    | with_reducible apply Changes.ite
    | with_reducible apply Changes.ite_snd
    | with_reducible apply Changes.ite_fst
    | with_reducible apply Changes.ite_snd_snd
    | with_reducible apply Changes.foldl
    | with_reducible apply Changes.foldl_snd
    | with_reducible apply Changes.foldl_fst
    | with_reducible apply Changes.andThen ?_ (State.remoteKnot_changes _ _ _ _ _ ) ?_ ?_
    | with_reducible apply Changes.andThen ?_ (State.actRefused_changes _ _ _ _ ) ?_ ?_
    | with_reducible apply Changes.andThen ?_ (State.knotAdd_changes _ _ _ _ _ ) ?_ ?_
    | ((conv => arg 4; arg 24); with_reducible refine Changes.update ?_)
    | split
    | with_reducible refine Changes.of_snd (by assumption) ?_)

theorem State.planAction_changes (s : State) (n cyc : Nat) :
    Changes [.engine, .knots, .host, .perf, .out] (.only [0x1205, K.waitersInUse, K.waitersPeak, K.knotOps, K.knotSaturations, K.frozenRefusals, K.knotOpsRefused, K.commandsCompleted, K.recordsUnrouted]) s (State.planAction s n cyc) := by
  unfold State.planAction
  repeat' ((try with_reducible conv => arg 4; whnf); first
    | with_reducible apply Changes.refl
    | ((with_reducible show Area.sub _ _ = true); rfl)
    | ((with_reducible apply Entries.le_of_sub); rfl)
    | ((with_reducible apply Entries.le_only); simp; done)
    | intro _
    | with_reducible apply Changes.ite
    | with_reducible apply Changes.andThen ?_ (State.signalAct_changes _ _ _ _ ) ?_ ?_
    | ((conv => arg 4; arg 24); with_reducible refine Changes.update ?_)
    | split)

theorem State.releaseHeld_changes (s : State) (cyc : Nat) :
    Changes [.knots, .host, .perf, .out] (.only [0x1205, K.waitersInUse, K.waitersPeak, K.knotOps, K.knotSaturations, K.frozenRefusals, K.knotOpsRefused, K.commandsCompleted, K.recordsUnrouted]) s (State.releaseHeld s cyc) := by
  unfold State.releaseHeld
  repeat' ((try with_reducible conv => arg 4; whnf); first
    | with_reducible apply Changes.refl
    | ((with_reducible show Area.sub _ _ = true); rfl)
    | ((with_reducible apply Entries.le_of_sub); rfl)
    | ((with_reducible apply Entries.le_only); simp; done)
    | intro _
    | with_reducible apply Changes.ite
    | with_reducible apply Changes.foldl
    | with_reducible apply Changes.andThen ?_ (State.signalAct_changes _ _ _ _ ) ?_ ?_
    | ((conv => arg 4; arg 24); with_reducible refine Changes.update ?_)
    | split)

theorem State.restartKnots_changes (s : State) (c : Nat) :
    Changes [.knots, .host, .perf, .out] (.only [0x1205, K.waitersInUse, K.waitersPeak, K.commandsCompleted, K.recordsUnrouted]) s (State.restartKnots s c) := by
  unfold State.restartKnots
  repeat' ((try with_reducible conv => arg 4; whnf); first
    | with_reducible apply Changes.refl
    | ((with_reducible show Area.sub _ _ = true); rfl)
    | ((with_reducible apply Entries.le_of_sub); rfl)
    | ((with_reducible apply Entries.le_only); simp; done)
    | intro _
    | with_reducible apply Changes.foldl
    | with_reducible apply Changes.andThen ?_ (State.evalWaiters_changes _ _ ) ?_ ?_
    | with_reducible apply Changes.andThen ?_ (State.initKnot_changes _ _ _ ) ?_ ?_
    | split)

theorem State.initKnotsOf_changes (s : State) (c : Nat) (p : Plan) :
    Changes [.knots, .host, .perf, .out] (.only [0x1205, K.waitersInUse, K.waitersPeak, K.commandsCompleted, K.recordsUnrouted]) s (State.initKnotsOf s c p) := by
  unfold State.initKnotsOf
  repeat' ((try with_reducible conv => arg 4; whnf); first
    | with_reducible apply Changes.refl
    | ((with_reducible show Area.sub _ _ = true); rfl)
    | ((with_reducible apply Entries.le_of_sub); rfl)
    | ((with_reducible apply Entries.le_only); simp; done)
    | intro _
    | with_reducible apply Changes.foldl
    | with_reducible apply Changes.andThen ?_ (State.evalWaiters_changes _ _ ) ?_ ?_
    | with_reducible apply Changes.andThen ?_ (State.initRange_changes _ _ _ ) ?_ ?_)

theorem State.bindPlan_changes (s : State) (c : Nat) (p : Plan) :
    Changes [.engine, .knots, .host, .perf, .out] (.only [0x1205, K.waitersInUse, K.waitersPeak, K.commandsCompleted, K.recordsUnrouted]) s (State.bindPlan s c p) := by
  unfold State.bindPlan
  repeat' ((try with_reducible conv => arg 4; whnf); first
    | with_reducible apply Changes.refl
    | ((with_reducible show Area.sub _ _ = true); rfl)
    | ((with_reducible apply Entries.le_of_sub); rfl)
    | ((with_reducible apply Entries.le_only); simp; done)
    | intro _
    | with_reducible apply Changes.andThen ?_ (State.fillScales_changes _ _ _ ) ?_ ?_
    | with_reducible apply Changes.andThen ?_ (State.initKnotsOf_changes _ _ _ ) ?_ ?_)

theorem State.placeWaits_changes (s : State) (c n : Nat) :
    Changes [.knots, .host, .perf, .out] (.only [0x1205, K.waitersInUse, K.waitersPeak, K.knotOps, K.frozenRefusals, K.knotOpsRefused, K.recordsUnrouted]) s (State.placeWaits s c n) := by
  unfold State.placeWaits
  repeat' ((try with_reducible conv => arg 4; whnf); first
    | with_reducible apply Changes.refl
    | ((with_reducible show Area.sub _ _ = true); rfl)
    | ((with_reducible apply Entries.le_of_sub); rfl)
    | ((with_reducible apply Entries.le_only); simp; done)
    | intro _
    | with_reducible apply Changes.ite
    | with_reducible apply Changes.foldl
    | with_reducible apply Changes.andThen ?_ (State.remoteKnot_changes _ _ _ _ _ ) ?_ ?_
    | with_reducible apply Changes.andThen ?_ (State.actRefused_changes _ _ _ _ ) ?_ ?_
    | with_reducible apply Changes.andThen ?_ (State.knotWaitOp_changes _ _ _ _ _ _ _ ) ?_ ?_
    | split)

theorem State.prepareStep_changes (s : State) (c : Nat) :
    Changes [.knots, .host, .perf, .out] (.only [0x1205, K.waitersInUse, K.waitersPeak, K.knotOps, K.frozenRefusals, K.knotOpsRefused, K.recordsUnrouted]) s (State.prepareStep s c) := by
  unfold State.prepareStep
  repeat' ((try with_reducible conv => arg 4; whnf); first
    | with_reducible apply Changes.refl
    | ((with_reducible show Area.sub _ _ = true); rfl)
    | ((with_reducible apply Entries.le_of_sub); rfl)
    | ((with_reducible apply Entries.le_only); simp; done)
    | intro _
    | with_reducible apply Changes.andThen ?_ (State.placeWaits_changes _ _ _ ) ?_ ?_
    | split)

theorem State.endSignals_changes (s : State) (c n base cyc : Nat) :
    Changes [.knots, .host, .perf, .out] (.only [0x1205, K.waitersInUse, K.waitersPeak, K.knotOps, K.knotSaturations, K.frozenRefusals, K.knotOpsRefused, K.commandsCompleted, K.recordsUnrouted]) s (State.endSignals s c n base cyc) := by
  unfold State.endSignals
  repeat' ((try with_reducible conv => arg 4; whnf); first
    | with_reducible apply Changes.refl
    | ((with_reducible show Area.sub _ _ = true); rfl)
    | ((with_reducible apply Entries.le_of_sub); rfl)
    | ((with_reducible apply Entries.le_only); simp; done)
    | intro _
    | with_reducible apply Changes.ite
    | with_reducible apply Changes.foldl
    | with_reducible apply Changes.andThen ?_ (State.signalAct_changes _ _ _ _ ) ?_ ?_
    | ((conv => arg 4; arg 24); with_reducible refine Changes.update ?_)
    | split)

theorem execPlanKnotAction_changes (action cyc : Nat) (s : State) {u : State} (h : execPlanKnotAction action cyc s = .next u) :
    Changes [.engine, .knots, .host, .perf, .out] (.only [0x1205, K.waitersInUse, K.waitersPeak, K.knotOps, K.knotSaturations, K.frozenRefusals, K.knotOpsRefused, K.commandsCompleted, K.recordsUnrouted]) s u := by
  unfold execPlanKnotAction at h
  try (have h := guardUnit_next h)
  try injection h with h
  subst h
  repeat' ((try with_reducible conv => arg 4; whnf); first
    | with_reducible apply Changes.refl
    | ((with_reducible show Area.sub _ _ = true); rfl)
    | ((with_reducible apply Entries.le_of_sub); rfl)
    | ((with_reducible apply Entries.le_only); simp; done)
    | intro _
    | with_reducible apply Changes.andThen ?_ (State.planAction_changes _ _ _ ) ?_ ?_)

end Sys2Proof.Machine
end

