-- ==== Sys2Proof/Laws/FrameMemory.lean ====
section
/-! SUPPORT. What each operation of Machine/Memory.lean changes and what it leaves unchanged. -/

-- one theorem after another: see NOTES.md
set_option Elab.async false

namespace Sys2Proof.Machine

theorem State.setMlink_changes (s : State) (l : Nat) (x : MLink) :
    Changes [.memory] (.only []) s (State.setMlink s l x) := by
  unfold State.setMlink
  repeat' ((try with_reducible conv => arg 4; whnf); first
    | with_reducible apply Changes.refl
    | ((conv => arg 4; arg 24); with_reducible refine Changes.update ?_))

theorem State.noteYoung_changes (s : State) (die off n : Nat) :
    Changes [.memory] (.only []) s (State.noteYoung s die off n) := by
  unfold State.noteYoung
  repeat' ((try with_reducible conv => arg 4; whnf); first
    | with_reducible apply Changes.refl
    | ((conv => arg 4; arg 24); with_reducible refine Changes.update ?_))

theorem State.landWrite_changes (s : State) (l : Nat) (payload : List Byte) :
    Changes [.memory] (.only []) s (State.landWrite s l payload) := by
  unfold State.landWrite
  repeat' ((try with_reducible conv => arg 4; whnf); first
    | with_reducible apply Changes.refl
    | ((with_reducible show Area.sub _ _ = true); rfl)
    | ((with_reducible apply Entries.le_of_sub); rfl)
    | ((with_reducible apply Entries.le_only); simp; done)
    | intro _
    | with_reducible apply Changes.ite
    | with_reducible apply Changes.andThen ?_ (State.setMlink_changes _ _ _ ) ?_ ?_
    | with_reducible apply Changes.andThen ?_ (State.noteYoung_changes _ _ _ _ ) ?_ ?_
    | with_reducible apply Changes.andThen ?_ (State.memWrite_changes _ _ _ _ ) ?_ ?_
    | split)

theorem State.failMlink_changes (s : State) (l cause : Nat) :
    Changes [.freeN, .blobs, .ctl, .belt, .pipe, .engine, .tracks, .eject, .memory, .knots, .host, .faults, .perf, .out] (.only [0x0804, 0x0B0C, 0x1205, 0x1402, 0x1703, K.decisionsIssued, K.fallbackDecisions, K.waitersInUse, K.waitersPeak, K.ownerResetReleases, K.knotDumpContext, K.pulsesPending, K.pulsesPeak, K.pulsesScheduled, K.pulsesMerged, K.storeFullRefused, K.lateDecisions, K.missedDecisions, K.disabledChannelRequests, K.commandsCompleted, K.recordsUnrouted, K.faultLogOverwritten, K.faultRecordsSuppressed, K.fallbackGapOpen, K.gapRecords]) s (State.failMlink s l cause) := by
  unfold State.failMlink
  repeat' ((try with_reducible conv => arg 4; whnf); first
    | with_reducible apply Changes.refl
    | ((with_reducible show Area.sub _ _ = true); rfl)
    | ((with_reducible apply Entries.le_of_sub); rfl)
    | ((with_reducible apply Entries.le_only); simp; done)
    | intro _
    | with_reducible apply Changes.ite
    | with_reducible apply Changes.foldl
    | with_reducible apply Changes.andThen ?_ (State.bump_changes _ _ _ ) ?_ ?_
    | with_reducible apply Changes.andThen ?_ (State.setMlink_changes _ _ _ ) ?_ ?_
    | with_reducible apply Changes.andThen ?_ (State.report_changes _ _ _ _ _ _ _ ) ?_ ?_
    | with_reducible apply Changes.andThen ?_ (State.raiseCtx_changes _ _ _ _ _ _ ) ?_ ?_
    | split)

theorem State.emitUp_changes (s : State) (l seq : Nat) (nak : Option Nat) (data : List Byte) (resent : Bool) :
    Changes [.out] (.only []) s (State.emitUp s l seq nak data resent) := by
  unfold State.emitUp
  repeat' ((try with_reducible conv => arg 4; whnf); first
    | with_reducible apply Changes.refl
    | ((with_reducible show Area.sub _ _ = true); rfl)
    | ((with_reducible apply Entries.le_of_sub); rfl)
    | ((with_reducible apply Entries.le_only); simp; done)
    | intro _
    | with_reducible apply Changes.andThen ?_ (State.send_changes _ _ ) ?_ ?_)

theorem State.takeReplay_changes (s : State) (l seq : Nat) :
    Changes [.freeN, .blobs, .ctl, .belt, .pipe, .engine, .tracks, .eject, .memory, .knots, .host, .faults, .perf, .out] (.only [0x0804, 0x0B0C, 0x1205, 0x1402, 0x1703, K.decisionsIssued, K.fallbackDecisions, K.waitersInUse, K.waitersPeak, K.ownerResetReleases, K.knotDumpContext, K.pulsesPending, K.pulsesPeak, K.pulsesScheduled, K.pulsesMerged, K.storeFullRefused, K.lateDecisions, K.missedDecisions, K.disabledChannelRequests, K.commandsCompleted, K.recordsUnrouted, K.faultLogOverwritten, K.faultRecordsSuppressed, K.fallbackGapOpen, K.gapRecords]) s (State.takeReplay s l seq) := by
  unfold State.takeReplay
  repeat' ((try with_reducible conv => arg 4; whnf); first
    | with_reducible apply Changes.refl
    | ((with_reducible show Area.sub _ _ = true); rfl)
    | ((with_reducible apply Entries.le_of_sub); rfl)
    | ((with_reducible apply Entries.le_only); simp; done)
    | intro _
    | with_reducible apply Changes.foldl
    | with_reducible apply Changes.andThen ?_ (State.failMlink_changes _ _ _ ) ?_ ?_
    | with_reducible apply Changes.andThen ?_ (State.emitUp_changes _ _ _ _ _ _ ) ?_ ?_
    | split)

theorem State.sendUp_changes (s : State) (l : Nat) (reserved : Bool) :
    Changes [.memory, .out] (.only []) s (State.sendUp s l reserved) := by
  unfold State.sendUp
  repeat' ((try with_reducible conv => arg 4; whnf); first
    | with_reducible apply Changes.refl
    | ((with_reducible show Area.sub _ _ = true); rfl)
    | ((with_reducible apply Entries.le_of_sub); rfl)
    | ((with_reducible apply Entries.le_only); simp; done)
    | intro _
    | with_reducible apply Changes.ite
    | with_reducible apply Changes.andThen ?_ (State.setMlink_changes _ _ _ ) ?_ ?_
    | with_reducible apply Changes.andThen ?_ (State.emitUp_changes _ _ _ _ _ _ ) ?_ ?_
    | split)

theorem State.downFailure_changes (s : State) (l : Nat) :
    Changes [.memory, .out] (.only []) s (State.downFailure s l) := by
  unfold State.downFailure
  repeat' ((try with_reducible conv => arg 4; whnf); first
    | with_reducible apply Changes.refl
    | ((with_reducible show Area.sub _ _ = true); rfl)
    | ((with_reducible apply Entries.le_of_sub); rfl)
    | ((with_reducible apply Entries.le_only); simp; done)
    | intro _
    | with_reducible apply Changes.andThen ?_ (State.setMlink_changes _ _ _ ) ?_ ?_
    | with_reducible apply Changes.andThen ?_ (State.sendUp_changes _ _ _ ) ?_ ?_)

theorem State.takeDown_changes {G : List Area} {E : Entries} (s : State) (l op : Nat) (f : DownFrame) (body : State → State)
    (hf : ∀ s, Changes G E s (body s)) (hG : Area.sub [.freeN, .blobs, .ctl, .belt, .pipe, .engine, .tracks, .eject, .memory, .knots, .host, .faults, .perf, .out] G = true) (hE : Entries.le (.only [0x0804, 0x0B0C, 0x1205, 0x1402, 0x1703, K.decisionsIssued, K.fallbackDecisions, K.waitersInUse, K.waitersPeak, K.ownerResetReleases, K.knotDumpContext, K.pulsesPending, K.pulsesPeak, K.pulsesScheduled, K.pulsesMerged, K.storeFullRefused, K.lateDecisions, K.missedDecisions, K.disabledChannelRequests, K.commandsCompleted, K.recordsUnrouted, K.faultLogOverwritten, K.faultRecordsSuppressed, K.fallbackGapOpen, K.gapRecords]) E) :
    Changes G E s (State.takeDown s l op f body) := by
  unfold State.takeDown
  repeat' ((try with_reducible conv => arg 4; whnf); first
    | with_reducible apply Changes.refl
    | ((with_reducible show Area.sub _ _ = true); rfl)
    | ((with_reducible apply Entries.le_of_sub); rfl)
    | ((with_reducible apply Entries.le_only); simp; done)
    | exact Area.sub_trans rfl hG
    | exact Entries.le_trans (Entries.le_of_sub rfl) hE
    | exact Entries.le_trans (Entries.le_only (by simp)) hE
    | intro _
    | with_reducible apply Changes.ite
    | (with_reducible apply Changes.trans ?_ (hf _))
    | with_reducible apply Changes.andThen ?_ (State.landWrite_changes _ _ _ ) ?_ ?_
    | with_reducible apply Changes.andThen ?_ (State.setMlink_changes _ _ _ ) ?_ ?_
    | with_reducible apply Changes.andThen ?_ (State.takeReplay_changes _ _ _ ) ?_ ?_
    | with_reducible apply Changes.andThen ?_ (State.downFailure_changes _ _ ) ?_ ?_
    | with_reducible apply Changes.andThen ?_ (State.sendUp_changes _ _ _ ) ?_ ?_
    | split)

theorem State.dieWrite_changes (s : State) (l : Nat) (f : DownFrame) :
    Changes [.memory] (.only []) s (State.dieWrite s l f) := by
  unfold State.dieWrite
  repeat' ((try with_reducible conv => arg 4; whnf); first
    | with_reducible apply Changes.refl
    | ((with_reducible show Area.sub _ _ = true); rfl)
    | ((with_reducible apply Entries.le_of_sub); rfl)
    | ((with_reducible apply Entries.le_only); simp; done)
    | intro _
    | with_reducible apply Changes.andThen ?_ (State.setMlink_changes _ _ _ ) ?_ ?_)

theorem execMemoryWrite_changes (link : Nat) (f : DownFrame) (s : State) {u : State} (h : execMemoryWrite link f s = .next u) :
    Changes [.freeN, .blobs, .ctl, .belt, .pipe, .engine, .tracks, .eject, .memory, .knots, .host, .faults, .perf, .out] (.only [0x0804, 0x0B0C, 0x1205, 0x1402, 0x1703, K.decisionsIssued, K.fallbackDecisions, K.waitersInUse, K.waitersPeak, K.ownerResetReleases, K.knotDumpContext, K.pulsesPending, K.pulsesPeak, K.pulsesScheduled, K.pulsesMerged, K.storeFullRefused, K.lateDecisions, K.missedDecisions, K.disabledChannelRequests, K.commandsCompleted, K.recordsUnrouted, K.faultLogOverwritten, K.faultRecordsSuppressed, K.fallbackGapOpen, K.gapRecords]) s u := by
  unfold execMemoryWrite at h
  try (have h := guardUnit_next h)
  try injection h with h
  subst h
  repeat' ((try with_reducible conv => arg 4; whnf); first
    | with_reducible apply Changes.refl
    | ((with_reducible show Area.sub _ _ = true); rfl)
    | ((with_reducible apply Entries.le_of_sub); rfl)
    | ((with_reducible apply Entries.le_only); simp; done)
    | intro _
    | with_reducible apply Changes.trans ?_ (State.takeDown_changes _ _ _ _ _  ?_ ?_ ?_)
    | with_reducible apply Changes.andThen ?_ (State.dieWrite_changes _ _ _ ) ?_ ?_)

theorem State.noteBad_changes (s : State) (l source w : Nat) (scope : Scope) (c : Nat) (p : Option Nat) :
    Changes [.freeN, .memory, .host, .faults, .perf, .out] (.only [0x1205, 0x1402, 0x1703, K.recordsUnrouted, K.faultLogOverwritten, K.faultRecordsSuppressed]) s (State.noteBad s l source w scope c p) := by
  unfold State.noteBad
  repeat' ((try with_reducible conv => arg 4; whnf); first
    | with_reducible apply Changes.refl
    | ((with_reducible show Area.sub _ _ = true); rfl)
    | ((with_reducible apply Entries.le_of_sub); rfl)
    | ((with_reducible apply Entries.le_only); simp; done)
    | intro _
    | with_reducible apply Changes.ite
    | with_reducible apply Changes.andThen ?_ (State.overwrote_changes _ _ _ ) ?_ ?_
    | with_reducible apply Changes.andThen ?_ (State.report_changes _ _ _ _ _ _ _ ) ?_ ?_
    | ((conv => arg 4; arg 24); with_reducible refine Changes.update ?_)
    | split)

theorem State.dieScrub_changes (s : State) (l : Nat) (f : DownFrame) :
    Changes [.freeN, .memory, .host, .faults, .perf, .out] (.only [0x0B07, 0x0B09, 0x0B0A, 0x1205, 0x1402, 0x1703, K.recordsUnrouted, K.faultLogOverwritten, K.faultRecordsSuppressed]) s (State.dieScrub s l f) := by
  unfold State.dieScrub
  repeat' ((try with_reducible conv => arg 4; whnf); first
    | with_reducible apply Changes.refl
    | ((with_reducible show Area.sub _ _ = true); rfl)
    | ((with_reducible apply Entries.le_of_sub); rfl)
    | ((with_reducible apply Entries.le_only); simp; done)
    | intro _
    | with_reducible apply Changes.ite
    | with_reducible apply Changes.foldl
    | with_reducible apply Changes.andThen ?_ (State.bump_changes _ _ _ ) ?_ ?_
    | with_reducible apply Changes.andThen ?_ (State.noteBad_changes _ _ _ _ _ _ _ ) ?_ ?_
    | ((conv => arg 4; arg 24); with_reducible refine Changes.update ?_)
    | split)

theorem State.land_changes (s : State) (die kind dest : Nat) (data : List Byte) (poison : Bool) :
    Changes [.engine, .memory] (.only []) s (State.land s die kind dest data poison) := by
  unfold State.land
  repeat' ((try with_reducible conv => arg 4; whnf); first
    | with_reducible apply Changes.refl
    | ((with_reducible show Area.sub _ _ = true); rfl)
    | ((with_reducible apply Entries.le_of_sub); rfl)
    | ((with_reducible apply Entries.le_only); simp; done)
    | intro _
    | with_reducible apply Changes.ite
    | with_reducible apply Changes.foldl
    | with_reducible apply Changes.andThen ?_ (State.actWrite_changes _ _ _ _ ) ?_ ?_
    | ((conv => arg 4; arg 24); with_reducible refine Changes.update ?_)
    | split)

theorem State.badLogClear_changes (s : State) :
    Changes [.ctl, .memory, .faults] (.only [0x1703]) s (State.badLogClear s).2 := by
  unfold State.badLogClear
  repeat' ((try with_reducible conv => arg 4; arg 1; whnf); first
    | with_reducible apply Changes.refl
    | dsimp only
    | ((with_reducible show Area.sub _ _ = true); rfl)
    | ((with_reducible apply Entries.le_of_sub); rfl)
    | ((with_reducible apply Entries.le_only); simp; done)
    | intro _
    | with_reducible apply Changes.andThen ?_ (State.cmdOk_changes _ _ ) ?_ ?_
    | with_reducible apply Changes.andThen ?_ (State.logEmptied_changes _ _ ) ?_ ?_
    | ((conv => arg 4; arg 24); with_reducible refine Changes.update ?_))

theorem State.addLag_changes (s : State) (l : Nat) :
    Changes [.freeN, .blobs, .ctl, .belt, .pipe, .engine, .tracks, .eject, .memory, .knots, .host, .faults, .perf, .out] (.only [0x0804, 0x0B06, 0x0B0C, 0x1205, 0x1402, 0x1703, K.decisionsIssued, K.fallbackDecisions, K.waitersInUse, K.waitersPeak, K.ownerResetReleases, K.knotDumpContext, K.pulsesPending, K.pulsesPeak, K.pulsesScheduled, K.pulsesMerged, K.storeFullRefused, K.lateDecisions, K.missedDecisions, K.disabledChannelRequests, K.commandsCompleted, K.recordsUnrouted, K.faultLogOverwritten, K.faultRecordsSuppressed, K.fallbackGapOpen, K.gapRecords]) s (State.addLag s l) := by
  unfold State.addLag
  repeat' ((try with_reducible conv => arg 4; whnf); first
    | with_reducible apply Changes.refl
    | ((with_reducible show Area.sub _ _ = true); rfl)
    | ((with_reducible apply Entries.le_of_sub); rfl)
    | ((with_reducible apply Entries.le_only); simp; done)
    | intro _
    | with_reducible apply Changes.ite
    | with_reducible apply Changes.andThen ?_ (State.setMlink_changes _ _ _ ) ?_ ?_
    | with_reducible apply Changes.andThen ?_ (State.peak_changes _ _ _ ) ?_ ?_
    | with_reducible apply Changes.andThen ?_ (State.failMlink_changes _ _ _ ) ?_ ?_
    | with_reducible apply Changes.andThen ?_ (State.count_changes _ _ _ _ _ _ _ _ ) ?_ ?_
    | split)

theorem State.takeNak_changes (s : State) (l seq : Nat) :
    Changes [.freeN, .blobs, .ctl, .belt, .pipe, .engine, .tracks, .eject, .memory, .knots, .host, .faults, .perf, .out] (.only [0x0804, 0x0B05, 0x0B06, 0x0B0C, 0x1205, 0x1402, 0x1703, K.decisionsIssued, K.fallbackDecisions, K.waitersInUse, K.waitersPeak, K.ownerResetReleases, K.knotDumpContext, K.pulsesPending, K.pulsesPeak, K.pulsesScheduled, K.pulsesMerged, K.storeFullRefused, K.lateDecisions, K.missedDecisions, K.disabledChannelRequests, K.commandsCompleted, K.recordsUnrouted, K.faultLogOverwritten, K.faultRecordsSuppressed, K.fallbackGapOpen, K.gapRecords]) s (State.takeNak s l seq) := by
  unfold State.takeNak
  repeat' ((try with_reducible conv => arg 4; whnf); first
    | with_reducible apply Changes.refl
    | ((with_reducible show Area.sub _ _ = true); rfl)
    | ((with_reducible apply Entries.le_of_sub); rfl)
    | ((with_reducible apply Entries.le_only); simp; done)
    | intro _
    | with_reducible apply Changes.ite
    | with_reducible apply Changes.foldl
    | with_reducible apply Changes.andThen ?_ (State.bump_changes _ _ _ ) ?_ ?_
    | with_reducible apply Changes.andThen ?_ (State.setMlink_changes _ _ _ ) ?_ ?_
    | with_reducible apply Changes.andThen ?_ (State.addLag_changes _ _ ) ?_ ?_
    | with_reducible apply Changes.andThen ?_ (State.failMlink_changes _ _ _ ) ?_ ?_
    | with_reducible apply Changes.andThen ?_ (State.send_changes _ _ ) ?_ ?_
    | split)

theorem State.dieRead_changes (s : State) (l : Nat) (f : DownFrame) :
    Changes [.memory] (.only []) s (State.dieRead s l f) := by
  unfold State.dieRead
  repeat' ((try with_reducible conv => arg 4; whnf); first
    | with_reducible apply Changes.refl
    | ((with_reducible show Area.sub _ _ = true); rfl)
    | ((with_reducible apply Entries.le_of_sub); rfl)
    | ((with_reducible apply Entries.le_only); simp; done)
    | intro _
    | with_reducible apply Changes.andThen ?_ (State.setMlink_changes _ _ _ ) ?_ ?_)

theorem State.recalLate_changes (s : State) (l cyc : Nat) :
    Changes [.memory] (.only [0x0B0B]) s (State.recalLate s l cyc) := by
  unfold State.recalLate
  repeat' ((try with_reducible conv => arg 4; whnf); first
    | with_reducible apply Changes.refl
    | ((with_reducible show Area.sub _ _ = true); rfl)
    | ((with_reducible apply Entries.le_of_sub); rfl)
    | ((with_reducible apply Entries.le_only); simp; done)
    | intro _
    | with_reducible apply Changes.ite
    | with_reducible apply Changes.andThen ?_ (State.bump_changes _ _ _ ) ?_ ?_
    | with_reducible apply Changes.andThen ?_ (State.setMlink_changes _ _ _ ) ?_ ?_
    | split)

theorem execRecalOverdue_changes (link cyc : Nat) (s : State) {u : State} (h : execRecalOverdue link cyc s = .next u) :
    Changes [.memory] (.only [0x0B0B]) s u := by
  unfold execRecalOverdue at h
  try (have h := guardUnit_next h)
  try injection h with h
  subst h
  repeat' ((try with_reducible conv => arg 4; whnf); first
    | with_reducible apply Changes.refl
    | ((with_reducible show Area.sub _ _ = true); rfl)
    | ((with_reducible apply Entries.le_of_sub); rfl)
    | ((with_reducible apply Entries.le_only); simp; done)
    | intro _
    | with_reducible apply Changes.ite
    | with_reducible apply Changes.ite_snd
    | with_reducible apply Changes.ite_fst
    | with_reducible apply Changes.ite_snd_snd
    | with_reducible apply Changes.foldl
    | with_reducible apply Changes.foldl_snd
    | with_reducible apply Changes.foldl_fst
    | with_reducible apply Changes.andThen ?_ (State.recalLate_changes _ _ _ ) ?_ ?_
    | ((conv => arg 4; arg 24); with_reducible refine Changes.update ?_)
    | split
    | with_reducible refine Changes.of_snd (by assumption) ?_)

theorem execDownstreamCrcFailure_changes (link : Nat) (x1 : DownFrame) (s : State) {u : State} (h : execDownstreamCrcFailure link x1 s = .next u) :
    Changes [.memory, .out] (.only []) s u := by
  unfold execDownstreamCrcFailure at h
  try (have h := guardUnit_next h)
  try injection h with h
  subst h
  repeat' ((try with_reducible conv => arg 4; whnf); first
    | with_reducible apply Changes.refl
    | ((with_reducible show Area.sub _ _ = true); rfl)
    | ((with_reducible apply Entries.le_of_sub); rfl)
    | ((with_reducible apply Entries.le_only); simp; done)
    | intro _
    | with_reducible apply Changes.ite
    | with_reducible apply Changes.ite_snd
    | with_reducible apply Changes.ite_fst
    | with_reducible apply Changes.ite_snd_snd
    | with_reducible apply Changes.foldl
    | with_reducible apply Changes.foldl_snd
    | with_reducible apply Changes.foldl_fst
    | with_reducible apply Changes.andThen ?_ (State.downFailure_changes _ _ ) ?_ ?_
    | ((conv => arg 4; arg 24); with_reducible refine Changes.update ?_)
    | split
    | with_reducible refine Changes.of_snd (by assumption) ?_)

theorem State.sendDown_changes (s : State) (l op addr count : Nat) (data : (List (List Byte))) (replay : (Option Nat)) (reserved : Bool) :
    Changes [.memory, .perf, .out] (.only []) s (State.sendDown s l op addr count data replay reserved) := by
  unfold State.sendDown
  repeat' ((try with_reducible conv => arg 4; whnf); first
    | with_reducible apply Changes.refl
    | ((with_reducible show Area.sub _ _ = true); rfl)
    | ((with_reducible apply Entries.le_of_sub); rfl)
    | ((with_reducible apply Entries.le_only); simp; done)
    | intro _
    | with_reducible apply Changes.ite
    | with_reducible apply Changes.andThen ?_ (State.setMlink_changes _ _ _ ) ?_ ?_
    | with_reducible apply Changes.andThen ?_ (State.portBytes_changes _ _ _ _ ) ?_ ?_
    | with_reducible apply Changes.andThen ?_ (State.send_changes _ _ ) ?_ ?_
    | split)

theorem State.landRead_changes (s : State) (l : Nat) (f : UpFrame) :
    Changes [.freeN, .engine, .memory, .host, .faults, .perf, .out] (.only [0x0B07, 0x0B08, 0x1205, 0x1402, 0x1703, K.recordsUnrouted, K.faultLogOverwritten, K.faultRecordsSuppressed]) s (State.landRead s l f) := by
  unfold State.landRead
  repeat' ((try with_reducible conv => arg 4; whnf); first
    | with_reducible apply Changes.refl
    | ((with_reducible show Area.sub _ _ = true); rfl)
    | ((with_reducible apply Entries.le_of_sub); rfl)
    | ((with_reducible apply Entries.le_only); simp; done)
    | intro _
    | with_reducible apply Changes.ite
    | with_reducible apply Changes.foldl
    | with_reducible apply Changes.andThen ?_ (State.bump_changes _ _ _ ) ?_ ?_
    | with_reducible apply Changes.andThen ?_ (State.setMlink_changes _ _ _ ) ?_ ?_
    | with_reducible apply Changes.andThen ?_ (State.land_changes _ _ _ _ _ _ ) ?_ ?_
    | with_reducible apply Changes.andThen ?_ (State.portBytes_changes _ _ _ _ ) ?_ ?_
    | with_reducible apply Changes.andThen ?_ (State.countStore_changes _ _ _ _ _ _ ) ?_ ?_
    | with_reducible apply Changes.andThen ?_ (State.noteBad_changes _ _ _ _ _ _ _ ) ?_ ?_
    | with_reducible apply Changes.andThen ?_ (State.count_changes _ _ _ _ _ _ _ _ ) ?_ ?_
    | split)

theorem State.landFrame_changes (s : State) (l : Nat) (f : UpFrame) :
    Changes [.freeN, .blobs, .ctl, .belt, .pipe, .engine, .tracks, .eject, .memory, .knots, .host, .faults, .perf, .out] (.only [0x0804, 0x0B04, 0x0B06, 0x0B07, 0x0B08, 0x0B0C, 0x1205, 0x1402, 0x1703, K.decisionsIssued, K.fallbackDecisions, K.waitersInUse, K.waitersPeak, K.ownerResetReleases, K.knotDumpContext, K.pulsesPending, K.pulsesPeak, K.pulsesScheduled, K.pulsesMerged, K.storeFullRefused, K.lateDecisions, K.missedDecisions, K.disabledChannelRequests, K.commandsCompleted, K.recordsUnrouted, K.faultLogOverwritten, K.faultRecordsSuppressed, K.fallbackGapOpen, K.gapRecords]) s (State.landFrame s l f) := by
  unfold State.landFrame
  repeat' ((try with_reducible conv => arg 4; whnf); first
    | with_reducible apply Changes.refl
    | ((with_reducible show Area.sub _ _ = true); rfl)
    | ((with_reducible apply Entries.le_of_sub); rfl)
    | ((with_reducible apply Entries.le_only); simp; done)
    | intro _
    | with_reducible apply Changes.ite
    | with_reducible apply Changes.andThen ?_ (State.bump_changes _ _ _ ) ?_ ?_
    | with_reducible apply Changes.andThen ?_ (State.setMlink_changes _ _ _ ) ?_ ?_
    | with_reducible apply Changes.andThen ?_ (State.addLag_changes _ _ ) ?_ ?_
    | with_reducible apply Changes.andThen ?_ (State.settleFreeze_changes _ _ ) ?_ ?_
    | with_reducible apply Changes.andThen ?_ (State.failMlink_changes _ _ _ ) ?_ ?_
    | with_reducible apply Changes.andThen ?_ (State.sendDown_changes _ _ _ _ _ _ _ _ ) ?_ ?_
    | with_reducible apply Changes.andThen ?_ (State.landRead_changes _ _ _ ) ?_ ?_
    | split)

theorem execUpstreamFrameLanded_changes (link : Nat) (f : UpFrame) (s : State) {u : State} (h : execUpstreamFrameLanded link f s = .next u) :
    Changes [.freeN, .blobs, .ctl, .belt, .pipe, .engine, .tracks, .eject, .memory, .knots, .host, .faults, .perf, .out] (.only [0x0804, 0x0B04, 0x0B06, 0x0B07, 0x0B08, 0x0B0C, 0x1205, 0x1402, 0x1703, K.decisionsIssued, K.fallbackDecisions, K.waitersInUse, K.waitersPeak, K.ownerResetReleases, K.knotDumpContext, K.pulsesPending, K.pulsesPeak, K.pulsesScheduled, K.pulsesMerged, K.storeFullRefused, K.lateDecisions, K.missedDecisions, K.disabledChannelRequests, K.commandsCompleted, K.recordsUnrouted, K.faultLogOverwritten, K.faultRecordsSuppressed, K.fallbackGapOpen, K.gapRecords]) s u := by
  unfold execUpstreamFrameLanded at h
  try (have h := guardUnit_next h)
  try injection h with h
  subst h
  repeat' ((try with_reducible conv => arg 4; whnf); first
    | with_reducible apply Changes.refl
    | ((with_reducible show Area.sub _ _ = true); rfl)
    | ((with_reducible apply Entries.le_of_sub); rfl)
    | ((with_reducible apply Entries.le_only); simp; done)
    | intro _
    | with_reducible apply Changes.andThen ?_ (State.landFrame_changes _ _ _ ) ?_ ?_)

theorem execNakResend_changes (link : Nat) (f : UpFrame) (s : State) {u : State} (h : execNakResend link f s = .next u) :
    Changes [.freeN, .blobs, .ctl, .belt, .pipe, .engine, .tracks, .eject, .memory, .knots, .host, .faults, .perf, .out] (.only [0x0804, 0x0B04, 0x0B05, 0x0B06, 0x0B07, 0x0B08, 0x0B0C, 0x1205, 0x1402, 0x1703, K.decisionsIssued, K.fallbackDecisions, K.waitersInUse, K.waitersPeak, K.ownerResetReleases, K.knotDumpContext, K.pulsesPending, K.pulsesPeak, K.pulsesScheduled, K.pulsesMerged, K.storeFullRefused, K.lateDecisions, K.missedDecisions, K.disabledChannelRequests, K.commandsCompleted, K.recordsUnrouted, K.faultLogOverwritten, K.faultRecordsSuppressed, K.fallbackGapOpen, K.gapRecords]) s u := by
  unfold execNakResend at h
  try (have h := guardUnit_next h)
  try injection h with h
  subst h
  repeat' ((try with_reducible conv => arg 4; whnf); first
    | with_reducible apply Changes.refl
    | ((with_reducible show Area.sub _ _ = true); rfl)
    | ((with_reducible apply Entries.le_of_sub); rfl)
    | ((with_reducible apply Entries.le_only); simp; done)
    | intro _
    | with_reducible apply Changes.ite
    | with_reducible apply Changes.andThen ?_ (State.landFrame_changes _ _ _ ) ?_ ?_
    | with_reducible apply Changes.andThen ?_ (State.takeNak_changes _ _ _ ) ?_ ?_
    | split)

theorem State.recalibrate_changes (s : State) (l cyc : Nat) :
    Changes [.memory, .perf, .out] (.only []) s (State.recalibrate s l cyc) := by
  unfold State.recalibrate
  repeat' ((try with_reducible conv => arg 4; whnf); first
    | with_reducible apply Changes.refl
    | ((with_reducible show Area.sub _ _ = true); rfl)
    | ((with_reducible apply Entries.le_of_sub); rfl)
    | ((with_reducible apply Entries.le_only); simp; done)
    | intro _
    | with_reducible apply Changes.ite
    | with_reducible apply Changes.andThen ?_ (State.setMlink_changes _ _ _ ) ?_ ?_
    | with_reducible apply Changes.andThen ?_ (State.sendDown_changes _ _ _ _ _ _ _ _ ) ?_ ?_
    | split)

theorem execRecal_changes (link cyc : Nat) (s : State) {u : State} (h : execRecal link cyc s = .next u) :
    Changes [.memory, .perf, .out] (.only []) s u := by
  unfold execRecal at h
  try (have h := guardUnit_next h)
  try injection h with h
  subst h
  repeat' ((try with_reducible conv => arg 4; whnf); first
    | with_reducible apply Changes.refl
    | ((with_reducible show Area.sub _ _ = true); rfl)
    | ((with_reducible apply Entries.le_of_sub); rfl)
    | ((with_reducible apply Entries.le_only); simp; done)
    | intro _
    | with_reducible apply Changes.andThen ?_ (State.recalibrate_changes _ _ _ ) ?_ ?_)

theorem State.countLag_changes (s : State) (l : Nat) :
    Changes [.host, .perf, .out] (.only [0x1205, K.recordsUnrouted]) s (State.countLag s l) := by
  unfold State.countLag
  repeat' ((try with_reducible conv => arg 4; whnf); first
    | with_reducible apply Changes.refl
    | ((with_reducible show Area.sub _ _ = true); rfl)
    | ((with_reducible apply Entries.le_of_sub); rfl)
    | ((with_reducible apply Entries.le_only); simp; done)
    | intro _
    | with_reducible apply Changes.ite
    | with_reducible apply Changes.andThen ?_ (State.count_changes _ _ _ _ _ _ _ _ ) ?_ ?_
    | split)

theorem State.startGrid_changes (s : State) (k cyc : Nat) :
    Changes [.memory] (.only []) s (State.startGrid s k cyc) := by
  unfold State.startGrid
  repeat' ((try with_reducible conv => arg 4; whnf); first
    | with_reducible apply Changes.refl
    | intro _
    | with_reducible apply Changes.ite
    | ((conv => arg 4; arg 24); with_reducible refine Changes.update ?_)
    | split)

theorem State.issueEntry_changes (s : State) (c : Nat) (e : MemEntry) :
    Changes [.freeN, .memory, .host, .perf, .out] (.only [0x1205, K.recordsUnrouted]) s (State.issueEntry s c e) := by
  unfold State.issueEntry
  repeat' ((try with_reducible conv => arg 4; whnf); first
    | with_reducible apply Changes.refl
    | ((with_reducible show Area.sub _ _ = true); rfl)
    | ((with_reducible apply Entries.le_of_sub); rfl)
    | ((with_reducible apply Entries.le_only); simp; done)
    | intro _
    | with_reducible apply Changes.ite
    | with_reducible apply Changes.andThen ?_ (State.setMlink_changes _ _ _ ) ?_ ?_
    | with_reducible apply Changes.andThen ?_ (State.portBytes_changes _ _ _ _ ) ?_ ?_
    | with_reducible apply Changes.andThen ?_ (State.countStore_changes _ _ _ _ _ _ ) ?_ ?_
    | with_reducible apply Changes.andThen ?_ (State.sendDown_changes _ _ _ _ _ _ _ _ ) ?_ ?_
    | with_reducible apply Changes.andThen ?_ (State.count_changes _ _ _ _ _ _ _ _ ) ?_ ?_
    | split)

theorem State.linkSlot_changes (s : State) (l k cyc : Nat) :
    Changes [.freeN, .engine, .memory, .knots, .host, .faults, .perf, .out] (.only [0x0804, 0x1205, K.waitersInUse, K.waitersPeak, K.knotOps, K.knotSaturations, K.frozenRefusals, K.knotOpsRefused, K.commandsCompleted, K.recordsUnrouted]) s (State.linkSlot s l k cyc) := by
  unfold State.linkSlot
  repeat' ((try with_reducible conv => arg 4; whnf); first
    | with_reducible apply Changes.refl
    | ((with_reducible show Area.sub _ _ = true); rfl)
    | ((with_reducible apply Entries.le_of_sub); rfl)
    | ((with_reducible apply Entries.le_only); simp; done)
    | intro _
    | with_reducible apply Changes.ite
    | with_reducible apply Changes.andThen ?_ (State.feed_changes _ _ ) ?_ ?_
    | with_reducible apply Changes.andThen ?_ (State.countLag_changes _ _ ) ?_ ?_
    | with_reducible apply Changes.andThen ?_ (State.setMlink_changes _ _ _ ) ?_ ?_
    | with_reducible apply Changes.andThen ?_ (State.releaseHeld_changes _ _ ) ?_ ?_
    | with_reducible apply Changes.andThen ?_ (State.startGrid_changes _ _ _ ) ?_ ?_
    | with_reducible apply Changes.andThen ?_ (State.sendDown_changes _ _ _ _ _ _ _ _ ) ?_ ?_
    | with_reducible apply Changes.andThen ?_ (State.issueEntry_changes _ _ _ ) ?_ ?_
    | split)

theorem execLinkSlotStart_changes (link slot cyc : Nat) (s : State) {u : State} (h : execLinkSlotStart link slot cyc s = .next u) :
    Changes [.freeN, .engine, .memory, .knots, .host, .faults, .perf, .out] (.only [0x0804, 0x1205, K.waitersInUse, K.waitersPeak, K.knotOps, K.knotSaturations, K.frozenRefusals, K.knotOpsRefused, K.commandsCompleted, K.recordsUnrouted]) s u := by
  unfold execLinkSlotStart at h
  try (have h := guardUnit_next h)
  try injection h with h
  subst h
  repeat' ((try with_reducible conv => arg 4; whnf); first
    | with_reducible apply Changes.refl
    | ((with_reducible show Area.sub _ _ = true); rfl)
    | ((with_reducible apply Entries.le_of_sub); rfl)
    | ((with_reducible apply Entries.le_only); simp; done)
    | intro _
    | with_reducible apply Changes.andThen ?_ (State.linkSlot_changes _ _ _ _ ) ?_ ?_)

theorem execReplay_changes (link : Nat) (f : DownFrame) (s : State) {u : State} (h : execReplay link f s = .next u) :
    Changes [.freeN, .blobs, .ctl, .belt, .pipe, .engine, .tracks, .eject, .memory, .knots, .host, .faults, .perf, .out] (.only [0x0804, 0x0B0C, 0x1205, 0x1402, 0x1703, K.decisionsIssued, K.fallbackDecisions, K.waitersInUse, K.waitersPeak, K.ownerResetReleases, K.knotDumpContext, K.pulsesPending, K.pulsesPeak, K.pulsesScheduled, K.pulsesMerged, K.storeFullRefused, K.lateDecisions, K.missedDecisions, K.disabledChannelRequests, K.commandsCompleted, K.recordsUnrouted, K.faultLogOverwritten, K.faultRecordsSuppressed, K.fallbackGapOpen, K.gapRecords]) s u := by
  unfold execReplay at h
  try (have h := guardUnit_next h)
  try injection h with h
  subst h
  repeat' ((try with_reducible conv => arg 4; whnf); first
    | with_reducible apply Changes.refl
    | ((with_reducible show Area.sub _ _ = true); rfl)
    | ((with_reducible apply Entries.le_of_sub); rfl)
    | ((with_reducible apply Entries.le_only); simp; done)
    | intro _
    | with_reducible apply Changes.trans ?_ (State.takeDown_changes _ _ _ _ _  ?_ ?_ ?_))

theorem execScrub_changes (link : Nat) (f : DownFrame) (s : State) {u : State} (h : execScrub link f s = .next u) :
    Changes [.freeN, .blobs, .ctl, .belt, .pipe, .engine, .tracks, .eject, .memory, .knots, .host, .faults, .perf, .out] (.only [0x0804, 0x0B07, 0x0B09, 0x0B0A, 0x0B0C, 0x1205, 0x1402, 0x1703, K.decisionsIssued, K.fallbackDecisions, K.waitersInUse, K.waitersPeak, K.ownerResetReleases, K.knotDumpContext, K.pulsesPending, K.pulsesPeak, K.pulsesScheduled, K.pulsesMerged, K.storeFullRefused, K.lateDecisions, K.missedDecisions, K.disabledChannelRequests, K.commandsCompleted, K.recordsUnrouted, K.faultLogOverwritten, K.faultRecordsSuppressed, K.fallbackGapOpen, K.gapRecords]) s u := by
  unfold execScrub at h
  try (have h := guardUnit_next h)
  try injection h with h
  subst h
  repeat' ((try with_reducible conv => arg 4; whnf); first
    | with_reducible apply Changes.refl
    | ((with_reducible show Area.sub _ _ = true); rfl)
    | ((with_reducible apply Entries.le_of_sub); rfl)
    | ((with_reducible apply Entries.le_only); simp; done)
    | intro _
    | with_reducible apply Changes.andThen ?_ (State.dieScrub_changes _ _ _ ) ?_ ?_
    | with_reducible apply Changes.trans ?_ (State.takeDown_changes _ _ _ _ _  ?_ ?_ ?_))

theorem execUncorrectableLogClear_changes (sess : Nat) (s : State) {u : State} (h : execUncorrectableLogClear sess s = .next u) :
    Changes [.ctl, .memory, .faults, .out] (.only [0x1703]) s u := by
  unfold execUncorrectableLogClear at h
  try (have h := guardUnit_next h)
  try injection h with h
  subst h
  repeat' ((try with_reducible conv => arg 4; whnf); first
    | with_reducible apply Changes.refl
    | ((with_reducible show Area.sub _ _ = true); rfl)
    | ((with_reducible apply Entries.le_of_sub); rfl)
    | ((with_reducible apply Entries.le_only); simp; done)
    | intro _
    | with_reducible apply Changes.andThen ?_ (State.badLogClear_changes _ ) ?_ ?_
    | with_reducible apply Changes.trans ?_ (State.runCmd_changes _ _ _ _  ?_ ?_ ?_))

theorem State.external_changes (s : State) (l k : Nat) (write : Bool) (addr : Nat) (data : List Byte) :
    Changes [.memory, .host, .perf, .out] (.only [0x1205, K.recordsUnrouted]) s (State.external s l k write addr data) := by
  unfold State.external
  repeat' ((try with_reducible conv => arg 4; whnf); first
    | with_reducible apply Changes.refl
    | ((with_reducible show Area.sub _ _ = true); rfl)
    | ((with_reducible apply Entries.le_of_sub); rfl)
    | ((with_reducible apply Entries.le_only); simp; done)
    | intro _
    | with_reducible apply Changes.ite
    | with_reducible apply Changes.andThen ?_ (State.setMlink_changes _ _ _ ) ?_ ?_
    | with_reducible apply Changes.andThen ?_ (State.memWrite_changes _ _ _ _ ) ?_ ?_
    | with_reducible apply Changes.andThen ?_ (State.sendDown_changes _ _ _ _ _ _ _ _ ) ?_ ?_
    | with_reducible apply Changes.andThen ?_ (State.count_changes _ _ _ _ _ _ _ _ ) ?_ ?_
    | split)

theorem execExternalTransfer_changes (link slot : Nat) (write : Bool) (addr : Nat) (data : List Byte) (s : State) {u : State} (h : execExternalTransfer link slot write addr data s = .next u) :
    Changes [.memory, .host, .perf, .out] (.only [0x1205, K.recordsUnrouted]) s u := by
  unfold execExternalTransfer at h
  try (have h := guardUnit_next h)
  try injection h with h
  subst h
  repeat' ((try with_reducible conv => arg 4; whnf); first
    | with_reducible apply Changes.refl
    | ((with_reducible show Area.sub _ _ = true); rfl)
    | ((with_reducible apply Entries.le_of_sub); rfl)
    | ((with_reducible apply Entries.le_only); simp; done)
    | intro _
    | with_reducible apply Changes.andThen ?_ (State.external_changes _ _ _ _ _ _ ) ?_ ?_)

theorem execNop_changes (link : Nat) (f : DownFrame) (s : State) {u : State} (h : execNop link f s = .next u) :
    Changes [.freeN, .blobs, .ctl, .belt, .pipe, .engine, .tracks, .eject, .memory, .knots, .host, .faults, .perf, .out] (.only [0x0804, 0x0B0C, 0x1205, 0x1402, 0x1703, K.decisionsIssued, K.fallbackDecisions, K.waitersInUse, K.waitersPeak, K.ownerResetReleases, K.knotDumpContext, K.pulsesPending, K.pulsesPeak, K.pulsesScheduled, K.pulsesMerged, K.storeFullRefused, K.lateDecisions, K.missedDecisions, K.disabledChannelRequests, K.commandsCompleted, K.recordsUnrouted, K.faultLogOverwritten, K.faultRecordsSuppressed, K.fallbackGapOpen, K.gapRecords]) s u := by
  unfold execNop at h
  try (have h := guardUnit_next h)
  try injection h with h
  subst h
  repeat' ((try with_reducible conv => arg 4; whnf); first
    | with_reducible apply Changes.refl
    | ((with_reducible show Area.sub _ _ = true); rfl)
    | ((with_reducible apply Entries.le_of_sub); rfl)
    | ((with_reducible apply Entries.le_only); simp; done)
    | intro _
    | with_reducible apply Changes.trans ?_ (State.takeDown_changes _ _ _ _ _  ?_ ?_ ?_))

theorem execMemoryRead_changes (link : Nat) (f : DownFrame) (s : State) {u : State} (h : execMemoryRead link f s = .next u) :
    Changes [.freeN, .blobs, .ctl, .belt, .pipe, .engine, .tracks, .eject, .memory, .knots, .host, .faults, .perf, .out] (.only [0x0804, 0x0B0C, 0x1205, 0x1402, 0x1703, K.decisionsIssued, K.fallbackDecisions, K.waitersInUse, K.waitersPeak, K.ownerResetReleases, K.knotDumpContext, K.pulsesPending, K.pulsesPeak, K.pulsesScheduled, K.pulsesMerged, K.storeFullRefused, K.lateDecisions, K.missedDecisions, K.disabledChannelRequests, K.commandsCompleted, K.recordsUnrouted, K.faultLogOverwritten, K.faultRecordsSuppressed, K.fallbackGapOpen, K.gapRecords]) s u := by
  unfold execMemoryRead at h
  try (have h := guardUnit_next h)
  try injection h with h
  subst h
  repeat' ((try with_reducible conv => arg 4; whnf); first
    | with_reducible apply Changes.refl
    | ((with_reducible show Area.sub _ _ = true); rfl)
    | ((with_reducible apply Entries.le_of_sub); rfl)
    | ((with_reducible apply Entries.le_only); simp; done)
    | intro _
    | with_reducible apply Changes.andThen ?_ (State.dieRead_changes _ _ _ ) ?_ ?_
    | with_reducible apply Changes.trans ?_ (State.takeDown_changes _ _ _ _ _  ?_ ?_ ?_))

theorem State.dieRefresh_changes (s : State) (m : Nat) :
    Changes [.memory] (.only []) s (State.dieRefresh s m) := by
  unfold State.dieRefresh
  repeat' ((try with_reducible conv => arg 4; whnf); first
    | with_reducible apply Changes.refl
    | ((conv => arg 4; arg 24); with_reducible refine Changes.update ?_))

theorem execRefresh_changes (link : Nat) (f : DownFrame) (s : State) {u : State} (h : execRefresh link f s = .next u) :
    Changes [.freeN, .blobs, .ctl, .belt, .pipe, .engine, .tracks, .eject, .memory, .knots, .host, .faults, .perf, .out] (.only [0x0804, 0x0B0C, 0x1205, 0x1402, 0x1703, K.decisionsIssued, K.fallbackDecisions, K.waitersInUse, K.waitersPeak, K.ownerResetReleases, K.knotDumpContext, K.pulsesPending, K.pulsesPeak, K.pulsesScheduled, K.pulsesMerged, K.storeFullRefused, K.lateDecisions, K.missedDecisions, K.disabledChannelRequests, K.commandsCompleted, K.recordsUnrouted, K.faultLogOverwritten, K.faultRecordsSuppressed, K.fallbackGapOpen, K.gapRecords]) s u := by
  unfold execRefresh at h
  try (have h := guardUnit_next h)
  try injection h with h
  subst h
  repeat' ((try with_reducible conv => arg 4; whnf); first
    | with_reducible apply Changes.refl
    | ((with_reducible show Area.sub _ _ = true); rfl)
    | ((with_reducible apply Entries.le_of_sub); rfl)
    | ((with_reducible apply Entries.le_only); simp; done)
    | intro _
    | with_reducible apply Changes.andThen ?_ (State.dieRefresh_changes _ _ ) ?_ ?_
    | with_reducible apply Changes.trans ?_ (State.takeDown_changes _ _ _ _ _  ?_ ?_ ?_))

end Sys2Proof.Machine
end

