-- ==== Sys2Proof/Laws/FramePlanSlots.lean ====
section
/-! SUPPORT. What each operation of Machine/PlanSlots.lean changes and what it leaves unchanged. -/

-- one theorem after another: see NOTES.md
set_option Elab.async false

namespace Sys2Proof.Machine

theorem State.openSlot_changes (s : State) (n length : Nat) :
    Changes [.blobs, .engine] (.only []) s (State.openSlot s n length).2 := by
  unfold State.openSlot
  repeat' ((try with_reducible conv => arg 4; arg 1; whnf); first
    | with_reducible apply Changes.refl
    | dsimp only
    | ((with_reducible show Area.sub _ _ = true); rfl)
    | ((with_reducible apply Entries.le_of_sub); rfl)
    | ((with_reducible apply Entries.le_only); simp; done)
    | intro _
    | with_reducible apply Changes.ite
    | with_reducible apply Changes.ite_snd
    | with_reducible apply Changes.andThen ?_ (State.setBlob_changes _ _ _ ) ?_ ?_
    | with_reducible apply Changes.andThen ?_ (State.setSlot_changes _ _ _ ) ?_ ?_
    | ((conv => arg 4; arg 24); with_reducible refine Changes.update ?_)
    | split)

theorem State.uploadBegin_changes (s : State) (length : Nat) :
    Changes [.blobs, .ctl, .engine] (.only [K.planUploadOffset]) s (State.uploadBegin s length).2 := by
  unfold State.uploadBegin
  repeat' ((try with_reducible conv => arg 4; arg 1; whnf); first
    | with_reducible apply Changes.refl
    | dsimp only
    | ((with_reducible show Area.sub _ _ = true); rfl)
    | ((with_reducible apply Entries.le_of_sub); rfl)
    | ((with_reducible apply Entries.le_only); simp; done)
    | intro _
    | with_reducible apply Changes.ite
    | with_reducible apply Changes.ite_snd
    | with_reducible apply Changes.andThen ?_ (State.setReg_changes _ _ _ ) ?_ ?_
    | with_reducible apply Changes.andThen ?_ (State.cmdOk_changes _ _ ) ?_ ?_
    | with_reducible apply Changes.andThen ?_ (State.openSlot_changes _ _ _ ) ?_ ?_
    | split)

theorem State.slotClear_changes (s : State) (n : Nat) :
    Changes [.blobs, .ctl, .engine] (.only []) s (State.slotClear s n).2 := by
  unfold State.slotClear
  repeat' ((try with_reducible conv => arg 4; arg 1; whnf); first
    | with_reducible apply Changes.refl
    | dsimp only
    | ((with_reducible show Area.sub _ _ = true); rfl)
    | ((with_reducible apply Entries.le_of_sub); rfl)
    | ((with_reducible apply Entries.le_only); simp; done)
    | intro _
    | with_reducible apply Changes.ite
    | with_reducible apply Changes.ite_snd
    | with_reducible apply Changes.andThen ?_ (State.setBlob_changes _ _ _ ) ?_ ?_
    | with_reducible apply Changes.andThen ?_ (State.cmdOk_changes _ _ ) ?_ ?_
    | with_reducible apply Changes.andThen ?_ (State.setSlot_changes _ _ _ ) ?_ ?_
    | ((conv => arg 4; arg 24); with_reducible refine Changes.update ?_)
    | split)

theorem State.closeSlot_changes (s : State) (n : Nat) :
    Changes [.blobs, .engine] (.only []) s (State.closeSlot s n) := by
  unfold State.closeSlot
  repeat' ((try with_reducible conv => arg 4; whnf); first
    | with_reducible apply Changes.refl
    | ((with_reducible show Area.sub _ _ = true); rfl)
    | ((with_reducible apply Entries.le_of_sub); rfl)
    | ((with_reducible apply Entries.le_only); simp; done)
    | intro _
    | with_reducible apply Changes.andThen ?_ (State.setBlob_changes _ _ _ ) ?_ ?_
    | with_reducible apply Changes.andThen ?_ (State.setSlot_changes _ _ _ ) ?_ ?_
    | ((conv => arg 4; arg 24); with_reducible refine Changes.update ?_))

theorem State.uploadEnd_changes (s : State) (n : Nat) :
    Changes [.blobs, .ctl, .engine] (.only []) s (State.uploadEnd s n).2 := by
  unfold State.uploadEnd
  repeat' ((try with_reducible conv => arg 4; arg 1; whnf); first
    | with_reducible apply Changes.refl
    | dsimp only
    | ((with_reducible show Area.sub _ _ = true); rfl)
    | ((with_reducible apply Entries.le_of_sub); rfl)
    | ((with_reducible apply Entries.le_only); simp; done)
    | intro _
    | with_reducible apply Changes.ite
    | with_reducible apply Changes.ite_snd
    | with_reducible apply Changes.andThen ?_ (State.cmdOk_changes _ _ ) ?_ ?_
    | with_reducible apply Changes.andThen ?_ (State.closeSlot_changes _ _ ) ?_ ?_
    | split)

theorem State.uploadData_changes (s : State) (d : List Byte) :
    Changes [.engine] (.only [K.planUploadOffset]) s (State.uploadData s d).2 := by
  unfold State.uploadData
  repeat' ((try with_reducible conv => arg 4; arg 1; whnf); first
    | with_reducible apply Changes.refl
    | dsimp only
    | ((with_reducible show Area.sub _ _ = true); rfl)
    | ((with_reducible apply Entries.le_of_sub); rfl)
    | ((with_reducible apply Entries.le_only); simp; done)
    | intro _
    | with_reducible apply Changes.ite
    | with_reducible apply Changes.ite_snd
    | with_reducible apply Changes.andThen ?_ (State.setReg_changes _ _ _ ) ?_ ?_
    | with_reducible apply Changes.andThen ?_ (State.setSlot_changes _ _ _ ) ?_ ?_
    | split)

theorem execPlanUploadEnd_changes (sess slot : Nat) (s : State) {u : State} (h : execPlanUploadEnd sess slot s = .next u) :
    Changes [.blobs, .ctl, .engine, .out] (.only []) s u := by
  unfold execPlanUploadEnd at h
  try (have h := guardUnit_next h)
  try injection h with h
  subst h
  repeat' ((try with_reducible conv => arg 4; whnf); first
    | with_reducible apply Changes.refl
    | ((with_reducible show Area.sub _ _ = true); rfl)
    | ((with_reducible apply Entries.le_of_sub); rfl)
    | ((with_reducible apply Entries.le_only); simp; done)
    | intro _
    | with_reducible apply Changes.andThen ?_ (State.uploadEnd_changes _ _ ) ?_ ?_
    | with_reducible apply Changes.trans ?_ (State.runCmd_changes _ _ _ _  ?_ ?_ ?_))

theorem execPlanUploadData_changes (sess : Nat) (data : List Byte) (s : State) {u : State} (h : execPlanUploadData sess data s = .next u) :
    Changes [.engine, .out] (.only [K.planUploadOffset]) s u := by
  unfold execPlanUploadData at h
  try (have h := guardUnit_next h)
  try injection h with h
  subst h
  repeat' ((try with_reducible conv => arg 4; whnf); first
    | with_reducible apply Changes.refl
    | ((with_reducible show Area.sub _ _ = true); rfl)
    | ((with_reducible apply Entries.le_of_sub); rfl)
    | ((with_reducible apply Entries.le_only); simp; done)
    | intro _
    | with_reducible apply Changes.andThen ?_ (State.uploadData_changes _ _ ) ?_ ?_
    | with_reducible apply Changes.trans ?_ (State.runCmd_changes _ _ _ _  ?_ ?_ ?_))

theorem execPlanUploadBegin_changes (sess length : Nat) (s : State) {u : State} (h : execPlanUploadBegin sess length s = .next u) :
    Changes [.blobs, .ctl, .engine, .out] (.only [K.planUploadOffset]) s u := by
  unfold execPlanUploadBegin at h
  try (have h := guardUnit_next h)
  try injection h with h
  subst h
  repeat' ((try with_reducible conv => arg 4; whnf); first
    | with_reducible apply Changes.refl
    | ((with_reducible show Area.sub _ _ = true); rfl)
    | ((with_reducible apply Entries.le_of_sub); rfl)
    | ((with_reducible apply Entries.le_only); simp; done)
    | intro _
    | with_reducible apply Changes.andThen ?_ (State.uploadBegin_changes _ _ ) ?_ ?_
    | with_reducible apply Changes.trans ?_ (State.runCmd_changes _ _ _ _  ?_ ?_ ?_))

theorem execPlanSlotClear_changes (sess slot : Nat) (s : State) {u : State} (h : execPlanSlotClear sess slot s = .next u) :
    Changes [.blobs, .ctl, .engine, .out] (.only []) s u := by
  unfold execPlanSlotClear at h
  try (have h := guardUnit_next h)
  try injection h with h
  subst h
  repeat' ((try with_reducible conv => arg 4; whnf); first
    | with_reducible apply Changes.refl
    | ((with_reducible show Area.sub _ _ = true); rfl)
    | ((with_reducible apply Entries.le_of_sub); rfl)
    | ((with_reducible apply Entries.le_only); simp; done)
    | intro _
    | with_reducible apply Changes.andThen ?_ (State.slotClear_changes _ _ ) ?_ ?_
    | with_reducible apply Changes.trans ?_ (State.runCmd_changes _ _ _ _  ?_ ?_ ?_))

end Sys2Proof.Machine
end

