-- ==== Sys2Proof/Laws/FrameHostOps.lean ====
section
/-! SUPPORT. What each operation of Machine/HostOps.lean changes and what it leaves unchanged. -/

-- one theorem after another: see NOTES.md
set_option Elab.async false

namespace Sys2Proof.Machine

theorem State.runNext_changes {G : List Area} {E : Entries} (s : State) (ring op : Nat) (f : RingCmd → State → State)
    (hf : ∀ a0 s, Changes G E s (f a0 s)) (hG : Area.sub [] G = true) (hE : Entries.le (.only []) E) :
    Changes G E s (State.runNext s ring op f) := by
  unfold State.runNext
  repeat' ((try with_reducible conv => arg 4; whnf); first
    | with_reducible apply Changes.refl
    | ((with_reducible show Area.sub _ _ = true); rfl)
    | ((with_reducible apply Entries.le_of_sub); rfl)
    | ((with_reducible apply Entries.le_only); simp; done)
    | exact Area.sub_trans rfl hG
    | exact Entries.le_trans (Entries.le_of_sub rfl) hE
    | exact Entries.le_trans (Entries.le_only (by simp)) hE
    | intro _
    | with_reducible apply Changes.ite
    | (with_reducible apply Changes.trans ?_ (hf _ _))
    | split)

theorem State.ringRow_changes {G : List Area} {E : Entries} {s t : State} {ring op : Nat} {f : RingCmd → State → State}
    (hf : ∀ c s, Changes G E s (f c s)) (hG : Area.sub [] G = true)
    (hE : Entries.le (.only []) E) (h : State.ringRow s ring op f = .next t) : Changes G E s t := by
  have h := guardUnit_next h
  subst h
  exact State.runNext_changes _ _ _ _ hf hG hE

theorem State.setFencing_changes (s : State) (ring index : Nat) (on : Bool) :
    Changes [.host] (.only []) s (State.setFencing s ring index on) := by
  unfold State.setFencing
  repeat' ((try with_reducible conv => arg 4; whnf); first
    | with_reducible apply Changes.refl
    | ((with_reducible show Area.sub _ _ = true); rfl)
    | ((with_reducible apply Entries.le_of_sub); rfl)
    | ((with_reducible apply Entries.le_only); simp; done)
    | intro _
    | with_reducible apply Changes.ite
    | with_reducible apply Changes.andThen ?_ (State.setRing_changes _ _ _ ) ?_ ?_
    | split)

theorem State.knotCmd_changes (s : State) (ring : Nat) (c : RingCmd) :
    Changes [.knots, .host, .perf, .out] (.only [0x1205, K.waitersInUse, K.waitersPeak, K.knotOps, K.knotSaturations, K.frozenRefusals, K.commandsCompleted, K.recordsUnrouted]) s (State.knotCmd s ring c) := by
  unfold State.knotCmd
  repeat' ((try with_reducible conv => arg 4; whnf); first
    | with_reducible apply Changes.refl
    | ((with_reducible show Area.sub _ _ = true); rfl)
    | ((with_reducible apply Entries.le_of_sub); rfl)
    | ((with_reducible apply Entries.le_only); simp; done)
    | intro _
    | with_reducible apply Changes.ite
    | with_reducible apply Changes.ite_snd
    | with_reducible apply Changes.ite_fst
    | with_reducible apply Changes.ite_snd_snd
    | with_reducible apply Changes.foldl
    | with_reducible apply Changes.foldl_snd
    | with_reducible apply Changes.foldl_fst
    | with_reducible apply Changes.andThen ?_ (State.remoteKnot_changes _ _ _ _ _ ) ?_ ?_
    | with_reducible apply Changes.andThen ?_ (State.notify_changes _ _ _ _ ) ?_ ?_
    | with_reducible apply Changes.andThen ?_ (State.finishCmd_changes _ _ _ _ _ ) ?_ ?_
    | with_reducible apply Changes.andThen ?_ (State.knotInitOp_changes _ _ _ _ ) ?_ ?_
    | with_reducible apply Changes.andThen ?_ (State.knotWaitOp_changes _ _ _ _ _ _ _ ) ?_ ?_
    | with_reducible apply Changes.andThen ?_ (State.knotAdd_changes _ _ _ _ _ ) ?_ ?_
    | with_reducible apply Changes.andThen ?_ (State.countKnotOp_changes _ _ ) ?_ ?_
    | ((conv => arg 4; arg 24); with_reducible refine Changes.update ?_)
    | split
    | with_reducible refine Changes.of_snd (by assumption) ?_)

theorem State.startKnot_changes (s : State) (ring : Nat) (c : RingCmd) :
    Changes [.knots, .host, .perf, .out] (.only [0x1205, K.waitersInUse, K.waitersPeak, K.knotOps, K.knotSaturations, K.frozenRefusals, K.commandsCompleted, K.recordsUnrouted]) s (State.startKnot s ring c) := by
  unfold State.startKnot
  repeat' ((try with_reducible conv => arg 4; whnf); first
    | with_reducible apply Changes.refl
    | ((with_reducible show Area.sub _ _ = true); rfl)
    | ((with_reducible apply Entries.le_of_sub); rfl)
    | ((with_reducible apply Entries.le_only); simp; done)
    | intro _
    | with_reducible apply Changes.ite
    | with_reducible apply Changes.andThen ?_ (State.startCmd_changes _ _ _ ) ?_ ?_
    | with_reducible apply Changes.andThen ?_ (State.setFencing_changes _ _ _ _ ) ?_ ?_
    | with_reducible apply Changes.andThen ?_ (State.knotCmd_changes _ _ _ ) ?_ ?_
    | split)

theorem State.disableQueue_changes (s : State) (q : Nat) (unbind : Bool) :
    Changes [.host] (.only [0x1205]) s (State.disableQueue s q unbind) := by
  unfold State.disableQueue
  repeat' ((try with_reducible conv => arg 4; whnf); first
    | with_reducible apply Changes.refl
    | ((with_reducible show Area.sub _ _ = true); rfl)
    | ((with_reducible apply Entries.le_of_sub); rfl)
    | ((with_reducible apply Entries.le_only); simp; done)
    | intro _
    | with_reducible apply Changes.ite
    | with_reducible apply Changes.andThen ?_ (State.bump_changes _ _ _ ) ?_ ?_
    | with_reducible apply Changes.andThen ?_ (State.setQueue_changes _ _ _ ) ?_ ?_
    | split)

theorem State.readSite_changes (s : State) (x : CopySite) (ctx o n : Nat) :
    Changes [.freeN, .host, .perf, .out] (.only [0x1205, K.recordsUnrouted]) s (State.readSite s x ctx o n).2 := by
  unfold State.readSite
  repeat' ((try with_reducible conv => arg 4; arg 1; whnf); first
    | with_reducible apply Changes.refl
    | dsimp only
    | ((with_reducible show Area.sub _ _ = true); rfl)
    | ((with_reducible apply Entries.le_of_sub); rfl)
    | ((with_reducible apply Entries.le_only); simp; done)
    | intro _
    | with_reducible apply Changes.ite
    | with_reducible apply Changes.ite_snd
    | with_reducible apply Changes.andThen ?_ (State.portBytes_changes _ _ _ _ ) ?_ ?_
    | with_reducible apply Changes.andThen ?_ (State.countStore_changes _ _ _ _ _ _ ) ?_ ?_
    | split)

theorem State.moveOut_changes (s : State) (ring : Nat) (c : RingCmd) (x : CopySite) (o n : Nat) :
    Changes [.freeN, .host, .perf, .out] (.only [0x1205, K.recordsUnrouted]) s (State.moveOut s ring c x o n) := by
  unfold State.moveOut
  repeat' ((try with_reducible conv => arg 4; whnf); first
    | with_reducible apply Changes.refl
    | ((with_reducible show Area.sub _ _ = true); rfl)
    | ((with_reducible apply Entries.le_of_sub); rfl)
    | ((with_reducible apply Entries.le_only); simp; done)
    | intro _
    | with_reducible apply Changes.ite
    | with_reducible apply Changes.andThen ?_ (State.hostWrite_changes _ _ _ _ ) ?_ ?_
    | with_reducible apply Changes.andThen ?_ (State.readSite_changes _ _ _ _ _ ) ?_ ?_
    | split)

theorem State.setTransfer_changes (s : State) (ring index : Nat) (d : List Byte) (moved : Nat) :
    Changes [.host] (.only []) s (State.setTransfer s ring index d moved) := by
  unfold State.setTransfer
  repeat' ((try with_reducible conv => arg 4; whnf); first
    | with_reducible apply Changes.refl
    | ((with_reducible show Area.sub _ _ = true); rfl)
    | ((with_reducible apply Entries.le_of_sub); rfl)
    | ((with_reducible apply Entries.le_only); simp; done)
    | intro _
    | with_reducible apply Changes.ite
    | with_reducible apply Changes.andThen ?_ (State.setRing_changes _ _ _ ) ?_ ?_
    | split)

theorem State.progress_changes (s : State) (ring len : Nat) :
    Changes [.freeN] (.only []) s (State.progress s ring len).2 := by
  unfold State.progress
  repeat' ((try with_reducible conv => arg 4; arg 1; whnf); first
    | with_reducible apply Changes.refl
    | dsimp only
    | ((with_reducible show Area.sub _ _ = true); rfl)
    | ((with_reducible apply Entries.le_of_sub); rfl)
    | ((with_reducible apply Entries.le_only); simp; done)
    | intro _
    | with_reducible apply Changes.ite
    | with_reducible apply Changes.ite_snd
    | with_reducible apply Changes.andThen ?_ (State.takeFree_changes _ ) ?_ ?_
    | split)

theorem State.copyOut_changes (s : State) (ring : Nat) (c : RingCmd) :
    Changes [.freeN, .host, .perf, .out] (.only [0x1205, K.commandsCompleted, K.recordsUnrouted]) s (State.copyOut s ring c) := by
  unfold State.copyOut
  repeat' ((try with_reducible conv => arg 4; whnf); first
    | with_reducible apply Changes.refl
    | ((with_reducible show Area.sub _ _ = true); rfl)
    | ((with_reducible apply Entries.le_of_sub); rfl)
    | ((with_reducible apply Entries.le_only); simp; done)
    | intro _
    | with_reducible apply Changes.andThen ?_ (State.startCmd_changes _ _ _ ) ?_ ?_
    | with_reducible apply Changes.andThen ?_ (State.finishCmd_changes _ _ _ _ _ ) ?_ ?_
    | with_reducible apply Changes.andThen ?_ (State.moveOut_changes _ _ _ _ _ _ ) ?_ ?_
    | with_reducible apply Changes.andThen ?_ (State.setTransfer_changes _ _ _ _ _ ) ?_ ?_
    | with_reducible apply Changes.andThen ?_ (State.progress_changes _ _ _ ) ?_ ?_
    | split)

theorem State.dropSession_changes (s : State) (sess : Nat) :
    Changes [.ctl] (.only []) s (State.dropSession s sess) := by
  unfold State.dropSession
  repeat' ((try with_reducible conv => arg 4; whnf); first
    | with_reducible apply Changes.refl
    | intro _
    | with_reducible apply Changes.ite
    | ((conv => arg 4; arg 24); with_reducible refine Changes.update ?_)
    | split)

theorem State.loseTunnel_changes (s : State) (port : Nat) :
    Changes [.ctl, .host] (.only []) s (State.loseTunnel s port) := by
  unfold State.loseTunnel
  repeat' ((try with_reducible conv => arg 4; whnf); first
    | with_reducible apply Changes.refl
    | ((with_reducible show Area.sub _ _ = true); rfl)
    | ((with_reducible apply Entries.le_of_sub); rfl)
    | ((with_reducible apply Entries.le_only); simp; done)
    | intro _
    | with_reducible apply Changes.ite
    | with_reducible apply Changes.foldl
    | with_reducible apply Changes.andThen ?_ (State.setQueue_changes _ _ _ ) ?_ ?_
    | with_reducible apply Changes.andThen ?_ (State.setPort_changes _ _ _ ) ?_ ?_
    | with_reducible apply Changes.andThen ?_ (State.dropSession_changes _ _ ) ?_ ?_
    | with_reducible apply Changes.andThen ?_ (State.setRing_changes _ _ _ ) ?_ ?_
    | split)

theorem State.hwinError_changes (s : State) (port status unit off : Nat) :
    Changes [.host, .out] (.only []) s (State.hwinError s port status unit off) := by
  unfold State.hwinError
  repeat' ((try with_reducible conv => arg 4; whnf); first
    | with_reducible apply Changes.refl
    | ((with_reducible show Area.sub _ _ = true); rfl)
    | ((with_reducible apply Entries.le_of_sub); rfl)
    | ((with_reducible apply Entries.le_only); simp; done)
    | intro _
    | with_reducible apply Changes.ite
    | with_reducible apply Changes.andThen ?_ (State.setPort_changes _ _ _ ) ?_ ?_
    | with_reducible apply Changes.andThen ?_ (State.send_changes _ _ ) ?_ ?_
    | split)

theorem State.inWindow_changes {G : List Area} {E : Entries} {s t : State} {port : Nat} {f : State → State}
    (hf : ∀ s, Changes G E s (f s)) (_ : Area.sub [] G = true) (_ : Entries.le (.only []) E)
    (h : State.inWindow s port f = .next t) : Changes G E s t := by
  have h := guardUnit_next h
  subst h
  exact Changes.ite (fun _ => hf s) (fun _ => Changes.refl)

theorem State.releaseBoot_changes (s : State) :
    Changes [.host, .perf, .out] (.only [0x1205, K.recordsUnrouted]) s (State.releaseBoot s) := by
  unfold State.releaseBoot
  repeat' ((try with_reducible conv => arg 4; whnf); first
    | with_reducible apply Changes.refl
    | ((with_reducible show Area.sub _ _ = true); rfl)
    | ((with_reducible apply Entries.le_of_sub); rfl)
    | ((with_reducible apply Entries.le_only); simp; done)
    | intro _
    | with_reducible apply Changes.ite
    | with_reducible apply Changes.andThen ?_ (State.setQueue_changes _ _ _ ) ?_ ?_
    | with_reducible apply Changes.andThen ?_ (State.drainQueue_changes _ _ _ ) ?_ ?_
    | ((conv => arg 4; arg 24); with_reducible refine Changes.update ?_)
    | split)

theorem State.writeSite_changes (s : State) (x : CopySite) (ctx o : Nat) (d : List Byte) :
    Changes [.freeN, .engine, .memory, .host, .perf, .out] (.only [0x1205, K.recordsUnrouted]) s (State.writeSite s x ctx o d) := by
  unfold State.writeSite
  repeat' ((try with_reducible conv => arg 4; whnf); first
    | with_reducible apply Changes.refl
    | ((with_reducible show Area.sub _ _ = true); rfl)
    | ((with_reducible apply Entries.le_of_sub); rfl)
    | ((with_reducible apply Entries.le_only); simp; done)
    | intro _
    | with_reducible apply Changes.ite
    | with_reducible apply Changes.andThen ?_ (State.land_changes _ _ _ _ _ _ ) ?_ ?_
    | with_reducible apply Changes.andThen ?_ (State.portBytes_changes _ _ _ _ ) ?_ ?_
    | with_reducible apply Changes.andThen ?_ (State.countStore_changes _ _ _ _ _ _ ) ?_ ?_
    | with_reducible apply Changes.andThen ?_ (State.memWrite_changes _ _ _ _ ) ?_ ?_
    | split)

theorem State.startIn_changes (s : State) (ring : Nat) (c : RingCmd) (x : CopySite) (data : List Byte) :
    Changes [.freeN, .engine, .memory, .host, .perf, .out] (.only [0x1205, K.recordsUnrouted]) s (State.startIn s ring c x data) := by
  unfold State.startIn
  repeat' ((try with_reducible conv => arg 4; whnf); first
    | with_reducible apply Changes.refl
    | ((with_reducible show Area.sub _ _ = true); rfl)
    | ((with_reducible apply Entries.le_of_sub); rfl)
    | ((with_reducible apply Entries.le_only); simp; done)
    | intro _
    | with_reducible apply Changes.andThen ?_ (State.portBytes_changes _ _ _ _ ) ?_ ?_
    | with_reducible apply Changes.andThen ?_ (State.setTransfer_changes _ _ _ _ _ ) ?_ ?_
    | with_reducible apply Changes.andThen ?_ (State.progress_changes _ _ _ ) ?_ ?_
    | with_reducible apply Changes.andThen ?_ (State.writeSite_changes _ _ _ _ _ ) ?_ ?_
    | split)

theorem State.copyIn_changes (s : State) (ring : Nat) (c : RingCmd) (data : List Byte) :
    Changes [.freeN, .engine, .memory, .host, .perf, .out] (.only [0x1205, K.commandsCompleted, K.recordsUnrouted]) s (State.copyIn s ring c data) := by
  unfold State.copyIn
  repeat' ((try with_reducible conv => arg 4; whnf); first
    | with_reducible apply Changes.refl
    | ((with_reducible show Area.sub _ _ = true); rfl)
    | ((with_reducible apply Entries.le_of_sub); rfl)
    | ((with_reducible apply Entries.le_only); simp; done)
    | intro _
    | with_reducible apply Changes.ite
    | with_reducible apply Changes.andThen ?_ (State.startCmd_changes _ _ _ ) ?_ ?_
    | with_reducible apply Changes.andThen ?_ (State.finishCmd_changes _ _ _ _ _ ) ?_ ?_
    | with_reducible apply Changes.andThen ?_ (State.startIn_changes _ _ _ _ _ ) ?_ ?_
    | split)

theorem State.fenceRelease_changes (s : State) (ring : Nat) :
    Changes [.knots, .host, .perf, .out] (.only [0x1205, K.waitersInUse, K.waitersPeak, K.knotOps, K.knotSaturations, K.frozenRefusals, K.commandsCompleted, K.recordsUnrouted]) s (State.fenceRelease s ring) := by
  unfold State.fenceRelease
  repeat' ((try with_reducible conv => arg 4; whnf); first
    | with_reducible apply Changes.refl
    | ((with_reducible show Area.sub _ _ = true); rfl)
    | ((with_reducible apply Entries.le_of_sub); rfl)
    | ((with_reducible apply Entries.le_only); simp; done)
    | intro _
    | with_reducible apply Changes.ite
    | with_reducible apply Changes.andThen ?_ (State.finishCmd_changes _ _ _ _ _ ) ?_ ?_
    | with_reducible apply Changes.andThen ?_ (State.setFencing_changes _ _ _ _ ) ?_ ?_
    | with_reducible apply Changes.andThen ?_ (State.knotCmd_changes _ _ _ ) ?_ ?_
    | split)

theorem State.regainTunnel_changes (s : State) (port : Nat) :
    Changes [.host, .perf, .out] (.only [0x1205, K.commandsCompleted, K.recordsUnrouted]) s (State.regainTunnel s port) := by
  unfold State.regainTunnel
  repeat' ((try with_reducible conv => arg 4; whnf); first
    | with_reducible apply Changes.refl
    | ((with_reducible show Area.sub _ _ = true); rfl)
    | ((with_reducible apply Entries.le_of_sub); rfl)
    | ((with_reducible apply Entries.le_only); simp; done)
    | intro _
    | with_reducible apply Changes.ite
    | with_reducible apply Changes.foldl
    | with_reducible apply Changes.andThen ?_ (State.setQueue_changes _ _ _ ) ?_ ?_
    | with_reducible apply Changes.andThen ?_ (State.setPort_changes _ _ _ ) ?_ ?_
    | with_reducible apply Changes.andThen ?_ (State.releaseBoot_changes _ ) ?_ ?_
    | with_reducible apply Changes.andThen ?_ (State.drainQueue_changes _ _ _ ) ?_ ?_
    | with_reducible apply Changes.andThen ?_ (State.setRing_changes _ _ _ ) ?_ ?_
    | with_reducible apply Changes.andThen ?_ (State.signal_changes _ _ ) ?_ ?_
    | with_reducible apply Changes.andThen ?_ (State.flush_changes _ _ ) ?_ ?_
    | split)

theorem State.orphan_changes (s : State) (ring : Nat) :
    Changes [.pipe, .engine, .knots, .host, .perf, .out] (.only [0x1205, K.waitersInUse, K.waitersPeak, K.commandsCompleted, K.recordsUnrouted]) s (State.orphan s ring) := by
  unfold State.orphan
  repeat' ((try with_reducible conv => arg 4; whnf); first
    | with_reducible apply Changes.refl
    | ((with_reducible show Area.sub _ _ = true); rfl)
    | ((with_reducible apply Entries.le_of_sub); rfl)
    | ((with_reducible apply Entries.le_only); simp; done)
    | intro _
    | with_reducible apply Changes.ite
    | with_reducible apply Changes.andThen ?_ (State.settleQueues_changes _ _ ) ?_ ?_
    | with_reducible apply Changes.andThen ?_ (State.setWaiters_changes _ _ ) ?_ ?_
    | with_reducible apply Changes.andThen ?_ (State.breakLoad_changes _ _ ) ?_ ?_
    | ((conv => arg 4; arg 24); with_reducible refine Changes.update ?_)
    | split)

theorem State.stopRing_changes (s : State) (ring : Nat) :
    Changes [.pipe, .engine, .knots, .host, .perf, .out] (.only [0x1205, K.waitersInUse, K.waitersPeak, K.commandsCompleted, K.recordsUnrouted]) s (State.stopRing s ring) := by
  unfold State.stopRing
  repeat' ((try with_reducible conv => arg 4; whnf); first
    | with_reducible apply Changes.refl
    | ((with_reducible show Area.sub _ _ = true); rfl)
    | ((with_reducible apply Entries.le_of_sub); rfl)
    | ((with_reducible apply Entries.le_only); simp; done)
    | intro _
    | with_reducible apply Changes.ite
    | with_reducible apply Changes.andThen ?_ (State.orphan_changes _ _ ) ?_ ?_
    | with_reducible apply Changes.andThen ?_ (State.setRing_changes _ _ _ ) ?_ ?_
    | split)

theorem State.detach_changes (s : State) (port : Nat) :
    Changes [.pipe, .engine, .knots, .host, .perf, .out] (.only [0x1205, K.waitersInUse, K.waitersPeak, K.commandsCompleted, K.recordsUnrouted]) s (State.detach s port) := by
  unfold State.detach
  repeat' ((try with_reducible conv => arg 4; whnf); first
    | with_reducible apply Changes.refl
    | ((with_reducible show Area.sub _ _ = true); rfl)
    | ((with_reducible apply Entries.le_of_sub); rfl)
    | ((with_reducible apply Entries.le_only); simp; done)
    | intro _
    | with_reducible apply Changes.ite
    | with_reducible apply Changes.foldl
    | with_reducible apply Changes.andThen ?_ (State.setPort_changes _ _ _ ) ?_ ?_
    | with_reducible apply Changes.andThen ?_ (State.stopRing_changes _ _ ) ?_ ?_
    | with_reducible apply Changes.andThen ?_ (State.disableQueue_changes _ _ _ ) ?_ ?_
    | split)

theorem State.endTransfer_changes (s : State) (ring : Nat) (c : RingCmd) :
    Changes [.freeN, .blobs, .engine, .memory, .host, .perf, .out] (.only [0x1205, K.commandsCompleted, K.recordsUnrouted]) s (State.endTransfer s ring c) := by
  unfold State.endTransfer
  repeat' ((try with_reducible conv => arg 4; whnf); first
    | with_reducible apply Changes.refl
    | ((with_reducible show Area.sub _ _ = true); rfl)
    | ((with_reducible apply Entries.le_of_sub); rfl)
    | ((with_reducible apply Entries.le_only); simp; done)
    | intro _
    | with_reducible apply Changes.ite
    | with_reducible apply Changes.andThen ?_ (State.setSlot_changes _ _ _ ) ?_ ?_
    | with_reducible apply Changes.andThen ?_ (State.finishCmd_changes _ _ _ _ _ ) ?_ ?_
    | with_reducible apply Changes.andThen ?_ (State.moveOut_changes _ _ _ _ _ _ ) ?_ ?_
    | with_reducible apply Changes.andThen ?_ (State.writeSite_changes _ _ _ _ _ ) ?_ ?_
    | with_reducible apply Changes.andThen ?_ (State.closeSlot_changes _ _ ) ?_ ?_
    | split)

theorem State.jobSubmit_changes (s : State) (ring : Nat) (c : RingCmd) :
    Changes [.freeN, .ctl, .engine, .knots, .host, .power, .perf, .out] (.only [0x1205, K.waitersInUse, K.waitersPeak, K.knotOps, K.frozenRefusals, K.knotOpsRefused, K.commandsCompleted, K.recordsUnrouted]) s (State.jobSubmit s ring c) := by
  unfold State.jobSubmit
  repeat' ((try with_reducible conv => arg 4; whnf); first
    | with_reducible apply Changes.refl
    | ((with_reducible show Area.sub _ _ = true); rfl)
    | ((with_reducible apply Entries.le_of_sub); rfl)
    | ((with_reducible apply Entries.le_only); simp; done)
    | intro _
    | with_reducible apply Changes.ite
    | with_reducible apply Changes.andThen ?_ (State.prepareStep_changes _ _ ) ?_ ?_
    | with_reducible apply Changes.andThen ?_ (State.trackReady_changes _ ) ?_ ?_
    | with_reducible apply Changes.andThen ?_ (State.startCmd_changes _ _ _ ) ?_ ?_
    | with_reducible apply Changes.andThen ?_ (State.finishCmd_changes _ _ _ _ _ ) ?_ ?_
    | with_reducible apply Changes.andThen ?_ (State.autoWake_changes _ ) ?_ ?_
    | with_reducible apply Changes.andThen ?_ (State.setCtx_changes _ _ _ ) ?_ ?_
    | split)

theorem State.hwinWrite_changes (s : State) (port off val : Nat) :
    Changes [.host] (.only []) s (State.hwinWrite s port off val).2 := by
  unfold State.hwinWrite
  repeat' ((try with_reducible conv => arg 4; arg 1; whnf); first
    | with_reducible apply Changes.refl
    | dsimp only
    | ((with_reducible show Area.sub _ _ = true); rfl)
    | ((with_reducible apply Entries.le_of_sub); rfl)
    | ((with_reducible apply Entries.le_only); simp; done)
    | intro _
    | with_reducible apply Changes.ite
    | with_reducible apply Changes.ite_snd
    | with_reducible apply Changes.andThen ?_ (State.setQueue_changes _ _ _ ) ?_ ?_
    | with_reducible apply Changes.andThen ?_ (State.setPort_changes _ _ _ ) ?_ ?_
    | with_reducible apply Changes.andThen ?_ (State.setRing_changes _ _ _ ) ?_ ?_
    | split)

theorem State.planLoad_changes (s : State) (ring : Nat) (c : RingCmd) (data : List Byte) :
    Changes [.freeN, .blobs, .engine, .host, .perf, .out] (.only [0x1205, K.commandsCompleted, K.recordsUnrouted]) s (State.planLoad s ring c data) := by
  unfold State.planLoad
  repeat' ((try with_reducible conv => arg 4; whnf); first
    | with_reducible apply Changes.refl
    | ((with_reducible show Area.sub _ _ = true); rfl)
    | ((with_reducible apply Entries.le_of_sub); rfl)
    | ((with_reducible apply Entries.le_only); simp; done)
    | intro _
    | with_reducible apply Changes.ite
    | with_reducible apply Changes.andThen ?_ (State.openSlot_changes _ _ _ ) ?_ ?_
    | with_reducible apply Changes.andThen ?_ (State.portBytes_changes _ _ _ _ ) ?_ ?_
    | with_reducible apply Changes.andThen ?_ (State.startCmd_changes _ _ _ ) ?_ ?_
    | with_reducible apply Changes.andThen ?_ (State.setSlot_changes _ _ _ ) ?_ ?_
    | with_reducible apply Changes.andThen ?_ (State.finishCmd_changes _ _ _ _ _ ) ?_ ?_
    | with_reducible apply Changes.andThen ?_ (State.setTransfer_changes _ _ _ _ _ ) ?_ ?_
    | with_reducible apply Changes.andThen ?_ (State.progress_changes _ _ _ ) ?_ ?_
    | split)

end Sys2Proof.Machine
end

