-- ==== Sys2Proof/Laws/FrameBoot.lean ====
section
/-! SUPPORT. What each operation of Machine/Boot.lean changes and what it leaves unchanged. -/

-- one theorem after another: see NOTES.md
set_option Elab.async false

namespace Sys2Proof.Machine

theorem State.setBlobSlot_changes (s : State) (n : Nat) (x : BlobSlot) :
    Changes [.boot] (.only []) s (State.setBlobSlot s n x) := by
  unfold State.setBlobSlot
  repeat' ((try with_reducible conv => arg 4; whnf); first
    | with_reducible apply Changes.refl
    | ((conv => arg 4; arg 24); with_reducible refine Changes.update ?_))

theorem State.blobEnd_changes (s : State) (n : Nat) :
    Changes [.ctl, .boot] (.only []) s (State.blobEnd s n).2 := by
  unfold State.blobEnd
  repeat' ((try with_reducible conv => arg 4; arg 1; whnf); first
    | with_reducible apply Changes.refl
    | dsimp only
    | ((with_reducible show Area.sub _ _ = true); rfl)
    | ((with_reducible apply Entries.le_of_sub); rfl)
    | ((with_reducible apply Entries.le_only); simp; done)
    | intro _
    | with_reducible apply Changes.ite
    | with_reducible apply Changes.ite_snd
    | with_reducible apply Changes.andThen ?_ (State.cmdOk_changes _ _ ) ?_ ?_
    | with_reducible apply Changes.andThen ?_ (State.setBlobSlot_changes _ _ _ ) ?_ ?_
    | with_reducible apply Changes.andThen ?_ (State.cmdSet_changes _ _ _ ) ?_ ?_
    | ((conv => arg 4; arg 24); with_reducible refine Changes.update ?_)
    | split)

theorem State.blobClear_changes (s : State) (n : Nat) :
    Changes [.ctl, .boot] (.only []) s (State.blobClear s n).2 := by
  unfold State.blobClear
  repeat' ((try with_reducible conv => arg 4; arg 1; whnf); first
    | with_reducible apply Changes.refl
    | dsimp only
    | ((with_reducible show Area.sub _ _ = true); rfl)
    | ((with_reducible apply Entries.le_of_sub); rfl)
    | ((with_reducible apply Entries.le_only); simp; done)
    | intro _
    | with_reducible apply Changes.ite
    | with_reducible apply Changes.ite_snd
    | with_reducible apply Changes.andThen ?_ (State.cmdOk_changes _ _ ) ?_ ?_
    | with_reducible apply Changes.andThen ?_ (State.setBlobSlot_changes _ _ _ ) ?_ ?_
    | split)

theorem State.attestCmd_changes (s : State) :
    Changes [.ctl, .boot] (.only []) s (State.attestCmd s).2 := by
  unfold State.attestCmd
  repeat' ((try with_reducible conv => arg 4; arg 1; whnf); first
    | with_reducible apply Changes.refl
    | dsimp only
    | ((with_reducible show Area.sub _ _ = true); rfl)
    | ((with_reducible apply Entries.le_of_sub); rfl)
    | ((with_reducible apply Entries.le_only); simp; done)
    | intro _
    | with_reducible apply Changes.ite
    | with_reducible apply Changes.ite_snd
    | with_reducible apply Changes.andThen ?_ (State.cmdBegin_changes _ _ ) ?_ ?_
    | ((conv => arg 4; arg 24); with_reducible refine Changes.update ?_)
    | split)

theorem State.blobBegin_changes (s : State) (length : Nat) :
    Changes [.ctl, .boot] (.only [K.blobUploadOffset]) s (State.blobBegin s length).2 := by
  unfold State.blobBegin
  repeat' ((try with_reducible conv => arg 4; arg 1; whnf); first
    | with_reducible apply Changes.refl
    | dsimp only
    | ((with_reducible show Area.sub _ _ = true); rfl)
    | ((with_reducible apply Entries.le_of_sub); rfl)
    | ((with_reducible apply Entries.le_only); simp; done)
    | intro _
    | with_reducible apply Changes.ite
    | with_reducible apply Changes.ite_snd
    | with_reducible apply Changes.andThen ?_ (State.setReg_changes _ _ _ ) ?_ ?_
    | with_reducible apply Changes.andThen ?_ (State.cmdOk_changes _ _ ) ?_ ?_
    | ((conv => arg 4; arg 24); with_reducible refine Changes.update ?_)
    | split)

theorem State.blobData_changes (s : State) (d : List Byte) :
    Changes [.boot] (.only [K.blobUploadOffset]) s (State.blobData s d).2 := by
  unfold State.blobData
  repeat' ((try with_reducible conv => arg 4; arg 1; whnf); first
    | with_reducible apply Changes.refl
    | dsimp only
    | ((with_reducible show Area.sub _ _ = true); rfl)
    | ((with_reducible apply Entries.le_of_sub); rfl)
    | ((with_reducible apply Entries.le_only); simp; done)
    | intro _
    | with_reducible apply Changes.ite
    | with_reducible apply Changes.ite_snd
    | with_reducible apply Changes.andThen ?_ (State.setReg_changes _ _ _ ) ?_ ?_
    | ((conv => arg 4; arg 24); with_reducible refine Changes.update ?_)
    | split)

theorem execBlobUploadEnd_changes (sess slot : Nat) (s : State) {u : State} (h : execBlobUploadEnd sess slot s = .next u) :
    Changes [.ctl, .boot, .out] (.only []) s u := by
  unfold execBlobUploadEnd at h
  try (have h := guardUnit_next h)
  try injection h with h
  subst h
  repeat' ((try with_reducible conv => arg 4; whnf); first
    | with_reducible apply Changes.refl
    | ((with_reducible show Area.sub _ _ = true); rfl)
    | ((with_reducible apply Entries.le_of_sub); rfl)
    | ((with_reducible apply Entries.le_only); simp; done)
    | intro _
    | with_reducible apply Changes.andThen ?_ (State.blobEnd_changes _ _ ) ?_ ?_
    | with_reducible apply Changes.trans ?_ (State.runCmd_changes _ _ _ _  ?_ ?_ ?_))

theorem execBlobUploadBegin_changes (sess length : Nat) (s : State) {u : State} (h : execBlobUploadBegin sess length s = .next u) :
    Changes [.ctl, .boot, .out] (.only [K.blobUploadOffset]) s u := by
  unfold execBlobUploadBegin at h
  try (have h := guardUnit_next h)
  try injection h with h
  subst h
  repeat' ((try with_reducible conv => arg 4; whnf); first
    | with_reducible apply Changes.refl
    | ((with_reducible show Area.sub _ _ = true); rfl)
    | ((with_reducible apply Entries.le_of_sub); rfl)
    | ((with_reducible apply Entries.le_only); simp; done)
    | intro _
    | with_reducible apply Changes.andThen ?_ (State.blobBegin_changes _ _ ) ?_ ?_
    | with_reducible apply Changes.trans ?_ (State.runCmd_changes _ _ _ _  ?_ ?_ ?_))

theorem State.attestReady_changes (s : State) :
    Changes [.blobs, .ctl, .boot] (.only [K.reportCounter]) s (State.attestReady s) := by
  unfold State.attestReady
  repeat' ((try with_reducible conv => arg 4; whnf); first
    | with_reducible apply Changes.refl
    | ((with_reducible show Area.sub _ _ = true); rfl)
    | ((with_reducible apply Entries.le_of_sub); rfl)
    | ((with_reducible apply Entries.le_only); simp; done)
    | intro _
    | with_reducible apply Changes.andThen ?_ (State.bump_changes _ _ _ ) ?_ ?_
    | with_reducible apply Changes.andThen ?_ (State.setBlob_changes _ _ _ ) ?_ ?_
    | with_reducible apply Changes.andThen ?_ (State.cmdSet_changes _ _ _ ) ?_ ?_
    | ((conv => arg 4; arg 24); with_reducible refine Changes.update ?_)
    | split)

theorem execAttestReportReady_changes (s : State) {u : State} (h : execAttestReportReady s = .next u) :
    Changes [.blobs, .ctl, .boot] (.only [K.reportCounter]) s u := by
  unfold execAttestReportReady at h
  try (have h := guardUnit_next h)
  try injection h with h
  subst h
  repeat' ((try with_reducible conv => arg 4; whnf); first
    | with_reducible apply Changes.refl
    | ((with_reducible show Area.sub _ _ = true); rfl)
    | ((with_reducible apply Entries.le_of_sub); rfl)
    | ((with_reducible apply Entries.le_only); simp; done)
    | intro _
    | with_reducible apply Changes.andThen ?_ (State.attestReady_changes _ ) ?_ ?_)

theorem execAttestRequest_changes (sess : Nat) (s : State) {u : State} (h : execAttestRequest sess s = .next u) :
    Changes [.ctl, .boot, .out] (.only []) s u := by
  unfold execAttestRequest at h
  try (have h := guardUnit_next h)
  try injection h with h
  subst h
  repeat' ((try with_reducible conv => arg 4; whnf); first
    | with_reducible apply Changes.refl
    | ((with_reducible show Area.sub _ _ = true); rfl)
    | ((with_reducible apply Entries.le_of_sub); rfl)
    | ((with_reducible apply Entries.le_only); simp; done)
    | intro _
    | with_reducible apply Changes.andThen ?_ (State.attestCmd_changes _ ) ?_ ?_
    | with_reducible apply Changes.trans ?_ (State.runCmd_changes _ _ _ _  ?_ ?_ ?_))

theorem State.readiness_changes (s : State) :
    Changes [.freeN, .ctl, .field, .host, .faults, .perf, .boot, .out] (.only [0x1205, K.aliveState, K.recordsUnrouted, K.bootState, K.lastStartUpTime]) s (State.readiness s) := by
  unfold State.readiness
  repeat' ((try with_reducible conv => arg 4; whnf); first
    | with_reducible apply Changes.refl
    | ((with_reducible show Area.sub _ _ = true); rfl)
    | ((with_reducible apply Entries.le_of_sub); rfl)
    | ((with_reducible apply Entries.le_only); simp; done)
    | intro _
    | with_reducible apply Changes.ite
    | with_reducible apply Changes.andThen ?_ (State.setReg_changes _ _ _ ) ?_ ?_
    | with_reducible apply Changes.andThen ?_ (State.releaseBoot_changes _ ) ?_ ?_
    | with_reducible apply Changes.andThen ?_ (State.setAlive_changes _ _ _ ) ?_ ?_
    | with_reducible apply Changes.andThen ?_ (State.takeFree_changes _ ) ?_ ?_
    | with_reducible apply Changes.andThen ?_ (State.emit_changes _ _ ) ?_ ?_
    | ((conv => arg 4; arg 24); with_reducible refine Changes.update ?_)
    | split)

theorem execReadiness_changes (s : State) {u : State} (h : execReadiness s = .next u) :
    Changes [.freeN, .ctl, .field, .host, .faults, .perf, .boot, .out] (.only [0x1205, K.aliveState, K.recordsUnrouted, K.bootState, K.lastStartUpTime]) s u := by
  unfold execReadiness at h
  try (have h := guardUnit_next h)
  try injection h with h
  subst h
  repeat' ((try with_reducible conv => arg 4; whnf); first
    | with_reducible apply Changes.refl
    | ((with_reducible show Area.sub _ _ = true); rfl)
    | ((with_reducible apply Entries.le_of_sub); rfl)
    | ((with_reducible apply Entries.le_only); simp; done)
    | intro _
    | with_reducible apply Changes.andThen ?_ (State.readiness_changes _ ) ?_ ?_)

theorem State.loadBlob_changes (s : State) (n : Nat) :
    Changes [.freeN, .host, .faults, .perf, .boot, .out] (.only [0x1205, 0x1402, 0x1703, K.recordsUnrouted, K.faultLogOverwritten, K.faultRecordsSuppressed]) s (State.loadBlob s n) := by
  unfold State.loadBlob
  repeat' ((try with_reducible conv => arg 4; whnf); first
    | with_reducible apply Changes.refl
    | ((with_reducible show Area.sub _ _ = true); rfl)
    | ((with_reducible apply Entries.le_of_sub); rfl)
    | ((with_reducible apply Entries.le_only); simp; done)
    | intro _
    | with_reducible apply Changes.andThen ?_ (State.setBlobSlot_changes _ _ _ ) ?_ ?_
    | with_reducible apply Changes.andThen ?_ (State.report_changes _ _ _ _ _ _ _ ) ?_ ?_
    | ((conv => arg 4; arg 24); with_reducible refine Changes.update ?_)
    | split)

theorem State.loadBlobs_changes (s : State) :
    Changes [.freeN, .host, .faults, .perf, .boot, .out] (.only [0x1205, 0x1402, 0x1703, K.recordsUnrouted, K.faultLogOverwritten, K.faultRecordsSuppressed]) s (State.loadBlobs s) := by
  unfold State.loadBlobs
  repeat' ((try with_reducible conv => arg 4; whnf); first
    | with_reducible apply Changes.refl
    | ((with_reducible show Area.sub _ _ = true); rfl)
    | ((with_reducible apply Entries.le_of_sub); rfl)
    | ((with_reducible apply Entries.le_only); simp; done)
    | intro _
    | with_reducible apply Changes.foldl
    | with_reducible apply Changes.andThen ?_ (State.loadBlob_changes _ _ ) ?_ ?_
    | ((conv => arg 4; arg 24); with_reducible refine Changes.update ?_))

theorem execBlobSlotClear_changes (sess slot : Nat) (s : State) {u : State} (h : execBlobSlotClear sess slot s = .next u) :
    Changes [.ctl, .boot, .out] (.only []) s u := by
  unfold execBlobSlotClear at h
  try (have h := guardUnit_next h)
  try injection h with h
  subst h
  repeat' ((try with_reducible conv => arg 4; whnf); first
    | with_reducible apply Changes.refl
    | ((with_reducible show Area.sub _ _ = true); rfl)
    | ((with_reducible apply Entries.le_of_sub); rfl)
    | ((with_reducible apply Entries.le_only); simp; done)
    | intro _
    | with_reducible apply Changes.andThen ?_ (State.blobClear_changes _ _ ) ?_ ?_
    | with_reducible apply Changes.trans ?_ (State.runCmd_changes _ _ _ _  ?_ ?_ ?_))

theorem State.selfFail_changes (s : State) (f : TestFail) :
    Changes [.freeN, .blobs, .ctl, .belt, .pipe, .engine, .tracks, .eject, .memory, .knots, .host, .faults, .perf, .boot, .out] (.only [0x0804, 0x0808, 0x0B0C, 0x1205, 0x1402, 0x1703, K.decisionsIssued, K.fallbackDecisions, K.waitersInUse, K.waitersPeak, K.ownerResetReleases, K.knotDumpContext, K.pulsesPending, K.pulsesPeak, K.pulsesScheduled, K.pulsesMerged, K.storeFullRefused, K.lateDecisions, K.missedDecisions, K.disabledChannelRequests, K.commandsCompleted, K.recordsUnrouted, K.faultLogOverwritten, K.faultRecordsSuppressed, K.fallbackGapOpen, K.gapRecords]) s (State.selfFail s f) := by
  unfold State.selfFail
  repeat' ((try with_reducible conv => arg 4; whnf); first
    | with_reducible apply Changes.refl
    | ((with_reducible show Area.sub _ _ = true); rfl)
    | ((with_reducible apply Entries.le_of_sub); rfl)
    | ((with_reducible apply Entries.le_only); simp; done)
    | intro _
    | with_reducible apply Changes.ite
    | with_reducible apply Changes.foldl
    | with_reducible apply Changes.andThen ?_ (State.report_changes _ _ _ _ _ _ _ ) ?_ ?_
    | with_reducible apply Changes.andThen ?_ (State.noteRetire_changes _ _ _ _ ) ?_ ?_
    | with_reducible apply Changes.andThen ?_ (State.applyRetire_changes _ _ _ ) ?_ ?_
    | with_reducible apply Changes.andThen ?_ (State.setArray_changes _ _ _ _ ) ?_ ?_
    | with_reducible apply Changes.andThen ?_ (State.failMlink_changes _ _ _ ) ?_ ?_
    | ((conv => arg 4; arg 24); with_reducible refine Changes.update ?_)
    | split)

theorem State.chooseClock_changes (s : State) :
    Changes [.freeN, .engine] (.only [0x0317, K.computeEnergyPerOp, K.coreClock]) s (State.chooseClock s) := by
  unfold State.chooseClock
  repeat' ((try with_reducible conv => arg 4; whnf); first
    | with_reducible apply Changes.refl
    | ((with_reducible show Area.sub _ _ = true); rfl)
    | ((with_reducible apply Entries.le_of_sub); rfl)
    | ((with_reducible apply Entries.le_only); simp; done)
    | intro _
    | with_reducible apply Changes.ite
    | with_reducible apply Changes.andThen ?_ (State.setReg_changes _ _ _ ) ?_ ?_
    | with_reducible apply Changes.andThen ?_ (State.setEnergy_changes _ ) ?_ ?_
    | with_reducible apply Changes.andThen ?_ (State.takeFree_changes _ ) ?_ ?_
    | ((conv => arg 4; arg 24); with_reducible refine Changes.update ?_)
    | split)

theorem State.startUp_changes (s : State) (cause : Nat) (fails : List TestFail) :
    Changes [.tick, .freeN, .blobs, .ctl, .belt, .supplies, .intake, .pipe, .engine, .tracks, .eject, .field, .memory, .knots, .host, .net, .faults, .power, .perf, .boot, .out] (.all) s (State.startUp s cause fails) := by
  unfold State.startUp
  repeat' ((try with_reducible conv => arg 4; whnf); first
    | with_reducible apply Changes.refl
    | ((with_reducible show Area.sub _ _ = true); rfl)
    | ((with_reducible apply Entries.le_of_sub); rfl)
    | ((with_reducible apply Entries.le_only); simp; done)
    | intro _
    | with_reducible apply Changes.ite
    | with_reducible apply Changes.foldl
    | with_reducible apply Changes.andThen ?_ (State.setReg_changes _ _ _ ) ?_ ?_
    | with_reducible apply Changes.andThen ?_ (State.selfFail_changes _ _ ) ?_ ?_
    | with_reducible apply Changes.andThen ?_ (State.noteTraining_changes _ _ ) ?_ ?_
    | with_reducible apply Changes.andThen ?_ (State.enterReset_changes _ _ ) ?_ ?_
    | with_reducible apply Changes.andThen ?_ (State.bootArrays_changes _ ) ?_ ?_
    | with_reducible apply Changes.andThen ?_ (State.chooseClock_changes _ ) ?_ ?_
    | with_reducible apply Changes.andThen ?_ (State.loadBlobs_changes _ ) ?_ ?_
    | with_reducible apply Changes.andThen ?_ (State.emit_changes _ _ ) ?_ ?_
    | ((conv => arg 4; arg 24); with_reducible refine Changes.update ?_)
    | split)

theorem execStartUp_changes (cause : Nat) (fails : List TestFail) (s : State) {u : State} (h : execStartUp cause fails s = .next u) :
    Changes [.tick, .freeN, .blobs, .ctl, .belt, .supplies, .intake, .pipe, .engine, .tracks, .eject, .field, .memory, .knots, .host, .net, .faults, .power, .perf, .boot, .out] (.all) s u := by
  unfold execStartUp at h
  try (have h := guardUnit_next h)
  try injection h with h
  subst h
  repeat' ((try with_reducible conv => arg 4; whnf); first
    | with_reducible apply Changes.refl
    | ((with_reducible show Area.sub _ _ = true); rfl)
    | ((with_reducible apply Entries.le_of_sub); rfl)
    | ((with_reducible apply Entries.le_only); simp; done)
    | intro _
    | with_reducible apply Changes.andThen ?_ (State.startUp_changes _ _ _ ) ?_ ?_)

theorem execBlobUploadData_changes (sess : Nat) (data : List Byte) (s : State) {u : State} (h : execBlobUploadData sess data s = .next u) :
    Changes [.boot, .out] (.only [K.blobUploadOffset]) s u := by
  unfold execBlobUploadData at h
  try (have h := guardUnit_next h)
  try injection h with h
  subst h
  repeat' ((try with_reducible conv => arg 4; whnf); first
    | with_reducible apply Changes.refl
    | ((with_reducible show Area.sub _ _ = true); rfl)
    | ((with_reducible apply Entries.le_of_sub); rfl)
    | ((with_reducible apply Entries.le_only); simp; done)
    | intro _
    | with_reducible apply Changes.andThen ?_ (State.blobData_changes _ _ ) ?_ ?_
    | with_reducible apply Changes.trans ?_ (State.runCmd_changes _ _ _ _  ?_ ?_ ?_))

end Sys2Proof.Machine
end

