-- ==== Sys2Proof/Laws/FrameAccess.lean ====
section
/-! SUPPORT. What each operation of Machine/Access.lean changes and what it leaves unchanged. -/

-- one theorem after another: see NOTES.md
set_option Elab.async false

namespace Sys2Proof.Machine

theorem State.putReg_changes (s : State) (k v : Nat) :
    Changes [.field] (.only [k]) s (State.putReg s k v) := by
  unfold State.putReg
  repeat' ((try with_reducible conv => arg 4; whnf); first
    | with_reducible apply Changes.refl
    | ((with_reducible show Area.sub _ _ = true); rfl)
    | ((with_reducible apply Entries.le_of_sub); rfl)
    | ((with_reducible apply Entries.le_only); simp; done)
    | intro _
    | with_reducible apply Changes.ite
    | with_reducible apply Changes.andThen ?_ (State.setReg_changes _ _ _ ) ?_ ?_
    | with_reducible apply Changes.andThen ?_ (State.cmdOut_changes _ _ _ ) ?_ ?_
    | split)

theorem State.setPart_changes (s : State) (sess k : Nat) (d : Option (List Byte)) :
    Changes [.ctl] (.only []) s (State.setPart s sess k d) := by
  unfold State.setPart
  repeat' ((try with_reducible conv => arg 4; whnf); first
    | with_reducible apply Changes.refl
    | ((conv => arg 4; arg 24); with_reducible refine Changes.update ?_)
    | split)

theorem State.stageBlob_changes (s : State) (sess k : Nat) (d : List Byte) :
    Changes [.ctl] (.only []) s (State.stageBlob s sess k d) := by
  unfold State.stageBlob
  repeat' ((try with_reducible conv => arg 4; whnf); first
    | with_reducible apply Changes.refl
    | ((conv => arg 4; arg 24); with_reducible refine Changes.update ?_))

theorem State.putBlob_changes (s : State) (k : Nat) (d : List Byte) :
    Changes [.blobs] (.only []) s (State.putBlob s k d).2 := by
  unfold State.putBlob
  repeat' ((try with_reducible conv => arg 4; arg 1; whnf); first
    | with_reducible apply Changes.refl
    | dsimp only
    | ((with_reducible show Area.sub _ _ = true); rfl)
    | ((with_reducible apply Entries.le_of_sub); rfl)
    | ((with_reducible apply Entries.le_only); simp; done)
    | intro _
    | with_reducible apply Changes.ite
    | with_reducible apply Changes.ite_snd
    | with_reducible apply Changes.andThen ?_ (State.setBlob_changes _ _ _ ) ?_ ?_
    | split)

theorem State.takeBlob_changes (s : State) (e : Entry) (sess k : Nat) (d : List Byte) :
    Changes [.blobs, .ctl, .engine, .boot] (.only [K.planUploadOffset, K.blobUploadOffset]) s (State.takeBlob s e sess k d).2 := by
  unfold State.takeBlob
  repeat' ((try with_reducible conv => arg 4; arg 1; whnf); first
    | with_reducible apply Changes.refl
    | dsimp only
    | ((with_reducible show Area.sub _ _ = true); rfl)
    | ((with_reducible apply Entries.le_of_sub); rfl)
    | ((with_reducible apply Entries.le_only); simp; done)
    | intro _
    | with_reducible apply Changes.ite
    | with_reducible apply Changes.ite_snd
    | with_reducible apply Changes.andThen ?_ (State.stageBlob_changes _ _ _ _ ) ?_ ?_
    | with_reducible apply Changes.andThen ?_ (State.blobData_changes _ _ ) ?_ ?_
    | with_reducible apply Changes.andThen ?_ (State.uploadData_changes _ _ ) ?_ ?_
    | with_reducible apply Changes.andThen ?_ (State.putBlob_changes _ _ _ ) ?_ ?_
    | split)

theorem State.writeSegment_changes (s : State) (e : Entry) (sess k off : Nat) (last : Bool) (d : List Byte) :
    Changes [.blobs, .ctl, .engine, .boot] (.only [K.planUploadOffset, K.blobUploadOffset]) s (State.writeSegment s e sess k off last d).2 := by
  unfold State.writeSegment
  repeat' ((try with_reducible conv => arg 4; arg 1; whnf); first
    | with_reducible apply Changes.refl
    | dsimp only
    | ((with_reducible show Area.sub _ _ = true); rfl)
    | ((with_reducible apply Entries.le_of_sub); rfl)
    | ((with_reducible apply Entries.le_only); simp; done)
    | intro _
    | with_reducible apply Changes.ite
    | with_reducible apply Changes.ite_snd
    | with_reducible apply Changes.andThen ?_ (State.setPart_changes _ _ _ _ ) ?_ ?_
    | with_reducible apply Changes.andThen ?_ (State.takeBlob_changes _ _ _ _ _ ) ?_ ?_
    | split)

theorem State.stageReg_changes (s : State) (sess k v : Nat) :
    Changes [.ctl] (.only []) s (State.stageReg s sess k v) := by
  unfold State.stageReg
  repeat' ((try with_reducible conv => arg 4; whnf); first
    | with_reducible apply Changes.refl
    | ((conv => arg 4; arg 24); with_reducible refine Changes.update ?_))

theorem State.writeValue_changes {G : List Area} {E : Entries} (s : State) (cmd : State → Nat → Nat → Nat → Nat × State) (sess idx sub off : Nat) (last : Bool) (d : List Byte)
    (hf : ∀ s a1 a2 a3, Changes G E s (cmd s a1 a2 a3).2) (hG : Area.sub [.blobs, .ctl, .engine, .field, .boot] G = true) (hE : Entries.le (.all) E) :
    Changes G E s (State.writeValue s cmd sess idx sub off last d).2 := by
  unfold State.writeValue
  repeat' ((try with_reducible conv => arg 4; arg 1; whnf); first
    | with_reducible apply Changes.refl
    | dsimp only
    | ((with_reducible show Area.sub _ _ = true); rfl)
    | ((with_reducible apply Entries.le_of_sub); rfl)
    | ((with_reducible apply Entries.le_only); simp; done)
    | exact Area.sub_trans rfl hG
    | exact Entries.le_trans (Entries.le_of_sub rfl) hE
    | exact Entries.le_trans (Entries.le_only (by simp)) hE
    | intro _
    | with_reducible apply Changes.ite
    | with_reducible apply Changes.ite_snd
    | (with_reducible apply Changes.trans ?_ (hf _ _ _ _))
    | with_reducible apply Changes.andThen ?_ (State.putReg_changes _ _ _ ) ?_ ?_
    | with_reducible apply Changes.andThen ?_ (State.writeSegment_changes _ _ _ _ _ _ _ ) ?_ ?_
    | with_reducible apply Changes.andThen ?_ (State.stageReg_changes _ _ _ _ ) ?_ ?_
    | split)

end Sys2Proof.Machine
end

