-- ==== Sys2Proof/Laws/FrameCommitChecks.lean ====
section
/-! SUPPORT. What each operation of Machine/CommitChecks.lean changes and what it leaves unchanged. -/

-- one theorem after another: see NOTES.md
set_option Elab.async false

namespace Sys2Proof.Machine

theorem State.giveScratch_changes (t : State) (c : Nat) :
    Changes [.memory] (.only []) t (State.giveScratch t c) := by
  unfold State.giveScratch
  repeat' ((try with_reducible conv => arg 4; whnf); first
    | with_reducible apply Changes.refl
    | ((conv => arg 4; arg 24); with_reducible refine Changes.update ?_)
    | split)

theorem State.givePlan_changes (s t : State) (keep : Bool) (c : Nat) :
    Changes [.engine, .memory] (.only []) t (State.givePlan s t keep c) := by
  unfold State.givePlan
  exact Changes.update ((State.setCtx_changes _ _ _).mono rfl (Entries.le_of_sub rfl))

theorem State.after_changes (s : State) (keep : Bool) :
    Changes [.blobs, .engine, .memory] (.all) s (State.after s keep) := by
  unfold State.after
  repeat' ((try with_reducible conv => arg 4; whnf); first
    | with_reducible apply Changes.refl
    | ((with_reducible show Area.sub _ _ = true); rfl)
    | ((with_reducible apply Entries.le_of_sub); rfl)
    | ((with_reducible apply Entries.le_only); simp; done)
    | intro _
    | with_reducible apply Changes.foldl
    | with_reducible apply Changes.andThen ?_ (State.setReg_changes _ _ _ ) ?_ ?_
    | with_reducible apply Changes.andThen ?_ (State.setBlob_changes _ _ _ ) ?_ ?_
    | with_reducible apply Changes.andThen ?_ (State.givePlan_changes _ _ _ _ ) ?_ ?_)

end Sys2Proof.Machine
end

