-- ==== Sys2Proof/Laws/FrameCounters.lean ====
section
/-! SUPPORT. What each operation of Machine/Counters.lean changes and what it leaves unchanged. -/

-- one theorem after another: see NOTES.md
set_option Elab.async false

namespace Sys2Proof.Machine

theorem State.setRunning_changes (s : State) (on : Bool) :
    Changes [.perf] (.only [K.countersRunning]) s (State.setRunning s on) := by
  unfold State.setRunning
  repeat' ((try with_reducible conv => arg 4; whnf); first
    | with_reducible apply Changes.refl
    | ((with_reducible show Area.sub _ _ = true); rfl)
    | ((with_reducible apply Entries.le_of_sub); rfl)
    | ((with_reducible apply Entries.le_only); simp; done)
    | intro _
    | with_reducible apply Changes.andThen ?_ (State.setReg_changes _ _ _ ) ?_ ?_
    | ((conv => arg 4; arg 24); with_reducible refine Changes.update ?_))

theorem State.cyclesNow_changes (s : State) (b : Nat) :
    Changes [.freeN] (.only []) s (State.cyclesNow s b).2 := by
  unfold State.cyclesNow
  repeat' ((try with_reducible conv => arg 4; arg 1; whnf); first
    | with_reducible apply Changes.refl
    | dsimp only
    | ((with_reducible show Area.sub _ _ = true); rfl)
    | ((with_reducible apply Entries.le_of_sub); rfl)
    | ((with_reducible apply Entries.le_only); simp; done)
    | intro _
    | with_reducible apply Changes.ite
    | with_reducible apply Changes.ite_snd
    | with_reducible apply Changes.andThen ?_ (State.takeFree_changes _ ) ?_ ?_
    | split)

theorem State.bankPart_changes (s : State) (b : Nat) :
    Changes [.freeN] (.only []) s (State.bankPart s b).2 := by
  unfold State.bankPart
  repeat' ((try with_reducible conv => arg 4; arg 1; whnf); first
    | with_reducible apply Changes.refl
    | dsimp only
    | ((with_reducible show Area.sub _ _ = true); rfl)
    | ((with_reducible apply Entries.le_of_sub); rfl)
    | ((with_reducible apply Entries.le_only); simp; done)
    | intro _
    | with_reducible apply Changes.andThen ?_ (State.cyclesNow_changes _ _ ) ?_ ?_
    | split)

theorem State.snapshot_changes (s : State) :
    Changes [.freeN, .blobs] (.only [K.snapshotCount]) s (State.snapshot s) := by
  unfold State.snapshot
  repeat' ((try with_reducible conv => arg 4; whnf); first
    | with_reducible apply Changes.refl
    | ((with_reducible show Area.sub _ _ = true); rfl)
    | ((with_reducible apply Entries.le_of_sub); rfl)
    | ((with_reducible apply Entries.le_only); simp; done)
    | intro _
    | with_reducible apply Changes.ite
    | with_reducible apply Changes.ite_snd
    | with_reducible apply Changes.ite_fst
    | with_reducible apply Changes.ite_snd_snd
    | with_reducible apply Changes.foldl
    | with_reducible apply Changes.foldl_snd
    | with_reducible apply Changes.foldl_fst
    | with_reducible apply Changes.andThen ?_ (State.bump_changes _ _ _ ) ?_ ?_
    | with_reducible apply Changes.andThen ?_ (State.setBlob_changes _ _ _ ) ?_ ?_
    | with_reducible apply Changes.andThen ?_ (State.bankPart_changes _ _ ) ?_ ?_
    | ((conv => arg 4; arg 24); with_reducible refine Changes.update ?_)
    | split
    | with_reducible refine Changes.of_snd (by assumption) ?_)

theorem State.zeroEntry_changes (s : State) (e : Entry) :
    Changes [] (.all) s (State.zeroEntry s e) := by
  unfold State.zeroEntry
  repeat' ((try with_reducible conv => arg 4; whnf); first
    | with_reducible apply Changes.refl
    | ((with_reducible show Area.sub _ _ = true); rfl)
    | ((with_reducible apply Entries.le_of_sub); rfl)
    | ((with_reducible apply Entries.le_only); simp; done)
    | intro _
    | with_reducible apply Changes.foldl
    | with_reducible apply Changes.andThen ?_ (State.setReg_changes _ _ _ ) ?_ ?_)

theorem State.clearStats_changes (s : State) (v : Nat) :
    Changes [] (.all) s (State.clearStats s v) := by
  unfold State.clearStats
  repeat' ((try with_reducible conv => arg 4; whnf); first
    | with_reducible apply Changes.refl
    | ((with_reducible show Area.sub _ _ = true); rfl)
    | ((with_reducible apply Entries.le_of_sub); rfl)
    | ((with_reducible apply Entries.le_only); simp; done)
    | intro _
    | with_reducible apply Changes.ite
    | with_reducible apply Changes.foldl
    | with_reducible apply Changes.andThen ?_ (State.zeroEntry_changes _ _ ) ?_ ?_
    | split)

theorem State.sendAction_changes (s : State) (k : Nat) :
    Changes [.ctl, .perf] (.only []) s (State.sendAction s k).2 := by
  unfold State.sendAction
  repeat' ((try with_reducible conv => arg 4; arg 1; whnf); first
    | with_reducible apply Changes.refl
    | dsimp only
    | ((with_reducible show Area.sub _ _ = true); rfl)
    | ((with_reducible apply Entries.le_of_sub); rfl)
    | ((with_reducible apply Entries.le_only); simp; done)
    | intro _
    | with_reducible apply Changes.andThen ?_ (State.cmdBegin_changes _ _ ) ?_ ?_
    | ((conv => arg 4; arg 24); with_reducible refine Changes.update ?_)
    | split)

theorem State.statisticsCmd_changes (s : State) (v : Nat) :
    Changes [.ctl, .perf] (.all) s (State.statisticsCmd s v).2 := by
  unfold State.statisticsCmd
  repeat' ((try with_reducible conv => arg 4; arg 1; whnf); first
    | with_reducible apply Changes.refl
    | dsimp only
    | ((with_reducible show Area.sub _ _ = true); rfl)
    | ((with_reducible apply Entries.le_of_sub); rfl)
    | ((with_reducible apply Entries.le_only); simp; done)
    | intro _
    | with_reducible apply Changes.ite
    | with_reducible apply Changes.ite_snd
    | with_reducible apply Changes.andThen ?_ (State.setReg_changes _ _ _ ) ?_ ?_
    | with_reducible apply Changes.andThen ?_ (State.bump_changes _ _ _ ) ?_ ?_
    | with_reducible apply Changes.andThen ?_ (State.clearStats_changes _ _ ) ?_ ?_
    | with_reducible apply Changes.andThen ?_ (State.sendAction_changes _ _ ) ?_ ?_
    | split)

theorem State.clearPeaks_changes (s : State) :
    Changes [] (.only [0x1513, 0x1514]) s (State.clearPeaks s) := by
  unfold State.clearPeaks
  repeat' ((try with_reducible conv => arg 4; whnf); first
    | with_reducible apply Changes.refl
    | ((with_reducible show Area.sub _ _ = true); rfl)
    | ((with_reducible apply Entries.le_of_sub); rfl)
    | ((with_reducible apply Entries.le_only); simp; done)
    | intro _
    | with_reducible apply Changes.foldl
    | with_reducible apply Changes.andThen ?_ (State.setReg_changes _ _ _ ) ?_ ?_)

theorem State.clearCounters_changes (s : State) :
    Changes [.perf] (.only []) s (State.clearCounters s) := by
  unfold State.clearCounters
  repeat' ((try with_reducible conv => arg 4; whnf); first
    | with_reducible apply Changes.refl
    | ((with_reducible show Area.sub _ _ = true); rfl)
    | ((with_reducible apply Entries.le_of_sub); rfl)
    | ((with_reducible apply Entries.le_only); simp; done)
    | intro _
    | with_reducible apply Changes.foldl
    | with_reducible apply Changes.andThen ?_ (State.setCounter_changes _ _ _ _ ) ?_ ?_)

theorem execCounterClear_changes (sess : Nat) (s : State) {u : State} (h : execCounterClear sess s = .next u) :
    Changes [.ctl, .perf, .out] (.only []) s u := by
  unfold execCounterClear at h
  try (have h := guardUnit_next h)
  try injection h with h
  subst h
  repeat' ((try with_reducible conv => arg 4; whnf); first
    | with_reducible apply Changes.refl
    | ((with_reducible show Area.sub _ _ = true); rfl)
    | ((with_reducible apply Entries.le_of_sub); rfl)
    | ((with_reducible apply Entries.le_only); simp; done)
    | intro _
    | with_reducible apply Changes.andThen ?_ (State.clearCounters_changes _ ) ?_ ?_
    | with_reducible apply Changes.andThen ?_ (State.sendAction_changes _ _ ) ?_ ?_
    | with_reducible apply Changes.trans ?_ (State.runCmd_changes _ _ _ _  ?_ ?_ ?_))

theorem execCounterStop_changes (sess : Nat) (s : State) {u : State} (h : execCounterStop sess s = .next u) :
    Changes [.ctl, .perf, .out] (.only [K.countersRunning]) s u := by
  unfold execCounterStop at h
  try (have h := guardUnit_next h)
  try injection h with h
  subst h
  repeat' ((try with_reducible conv => arg 4; whnf); first
    | with_reducible apply Changes.refl
    | ((with_reducible show Area.sub _ _ = true); rfl)
    | ((with_reducible apply Entries.le_of_sub); rfl)
    | ((with_reducible apply Entries.le_only); simp; done)
    | intro _
    | with_reducible apply Changes.andThen ?_ (State.setRunning_changes _ _ ) ?_ ?_
    | with_reducible apply Changes.andThen ?_ (State.sendAction_changes _ _ ) ?_ ?_
    | with_reducible apply Changes.trans ?_ (State.runCmd_changes _ _ _ _  ?_ ?_ ?_))

theorem execBandwidthClear_changes (sess : Nat) (s : State) {u : State} (h : execBandwidthClear sess s = .next u) :
    Changes [.ctl, .out] (.only [0x1513, 0x1514]) s u := by
  unfold execBandwidthClear at h
  try (have h := guardUnit_next h)
  try injection h with h
  subst h
  repeat' ((try with_reducible conv => arg 4; whnf); first
    | with_reducible apply Changes.refl
    | ((with_reducible show Area.sub _ _ = true); rfl)
    | ((with_reducible apply Entries.le_of_sub); rfl)
    | ((with_reducible apply Entries.le_only); simp; done)
    | intro _
    | with_reducible apply Changes.andThen ?_ (State.cmdOk_changes _ _ ) ?_ ?_
    | with_reducible apply Changes.andThen ?_ (State.clearPeaks_changes _ ) ?_ ?_
    | with_reducible apply Changes.trans ?_ (State.runCmd_changes _ _ _ _  ?_ ?_ ?_))

theorem State.refreshShadow_changes (s : State) (cyc0 cyc1 : Nat) :
    Changes [] (.only [0x1502, 0x150A, 0x150B]) s (State.refreshShadow s cyc0 cyc1) := by
  unfold State.refreshShadow
  repeat' ((try with_reducible conv => arg 4; whnf); first
    | with_reducible apply Changes.refl
    | ((with_reducible show Area.sub _ _ = true); rfl)
    | ((with_reducible apply Entries.le_of_sub); rfl)
    | ((with_reducible apply Entries.le_only); simp; done)
    | intro _
    | with_reducible apply Changes.ite
    | with_reducible apply Changes.foldl
    | with_reducible apply Changes.andThen ?_ (State.setReg_changes _ _ _ ) ?_ ?_
    | split)

theorem execShadowRefresh_changes (cyc0 cyc1 : Nat) (s : State) {u : State} (h : execShadowRefresh cyc0 cyc1 s = .next u) :
    Changes [] (.only [0x1502, 0x150A, 0x150B]) s u := by
  unfold execShadowRefresh at h
  try (have h := guardUnit_next h)
  try injection h with h
  subst h
  repeat' ((try with_reducible conv => arg 4; whnf); first
    | with_reducible apply Changes.refl
    | ((with_reducible show Area.sub _ _ = true); rfl)
    | ((with_reducible apply Entries.le_of_sub); rfl)
    | ((with_reducible apply Entries.le_only); simp; done)
    | intro _
    | with_reducible apply Changes.andThen ?_ (State.refreshShadow_changes _ _ _ ) ?_ ?_)

theorem execStatisticsClear_changes (sess val : Nat) (s : State) {u : State} (h : execStatisticsClear sess val s = .next u) :
    Changes [.ctl, .perf, .out] (.all) s u := by
  unfold execStatisticsClear at h
  try (have h := guardUnit_next h)
  try injection h with h
  subst h
  repeat' ((try with_reducible conv => arg 4; whnf); first
    | with_reducible apply Changes.refl
    | ((with_reducible show Area.sub _ _ = true); rfl)
    | ((with_reducible apply Entries.le_of_sub); rfl)
    | ((with_reducible apply Entries.le_only); simp; done)
    | intro _
    | with_reducible apply Changes.andThen ?_ (State.statisticsCmd_changes _ _ ) ?_ ?_
    | with_reducible apply Changes.trans ?_ (State.runCmd_changes _ _ _ _  ?_ ?_ ?_))

theorem State.endActions_changes (s : State) :
    Changes [.ctl, .perf] (.only []) s (State.endActions s) := by
  unfold State.endActions
  repeat' ((try with_reducible conv => arg 4; whnf); first
    | with_reducible apply Changes.refl
    | ((with_reducible show Area.sub _ _ = true); rfl)
    | ((with_reducible apply Entries.le_of_sub); rfl)
    | ((with_reducible apply Entries.le_only); simp; done)
    | intro _
    | with_reducible apply Changes.ite
    | with_reducible apply Changes.foldl
    | with_reducible apply Changes.andThen ?_ (State.cmdSet_changes _ _ _ ) ?_ ?_
    | ((conv => arg 4; arg 24); with_reducible refine Changes.update ?_)
    | split)

theorem execCounterStart_changes (sess : Nat) (s : State) {u : State} (h : execCounterStart sess s = .next u) :
    Changes [.ctl, .perf, .out] (.only [K.countersRunning]) s u := by
  unfold execCounterStart at h
  try (have h := guardUnit_next h)
  try injection h with h
  subst h
  repeat' ((try with_reducible conv => arg 4; whnf); first
    | with_reducible apply Changes.refl
    | ((with_reducible show Area.sub _ _ = true); rfl)
    | ((with_reducible apply Entries.le_of_sub); rfl)
    | ((with_reducible apply Entries.le_only); simp; done)
    | intro _
    | with_reducible apply Changes.andThen ?_ (State.setRunning_changes _ _ ) ?_ ?_
    | with_reducible apply Changes.andThen ?_ (State.sendAction_changes _ _ ) ?_ ?_
    | with_reducible apply Changes.trans ?_ (State.runCmd_changes _ _ _ _  ?_ ?_ ?_))

theorem execSampleLogClear_changes (sess : Nat) (s : State) {u : State} (h : execSampleLogClear sess s = .next u) :
    Changes [.ctl, .faults, .perf, .out] (.only [0x1703]) s u := by
  unfold execSampleLogClear at h
  try (have h := guardUnit_next h)
  try injection h with h
  subst h
  repeat' ((try with_reducible conv => arg 4; whnf); first
    | with_reducible apply Changes.refl
    | ((with_reducible show Area.sub _ _ = true); rfl)
    | ((with_reducible apply Entries.le_of_sub); rfl)
    | ((with_reducible apply Entries.le_only); simp; done)
    | intro _
    | with_reducible apply Changes.andThen ?_ (State.cmdOk_changes _ _ ) ?_ ?_
    | with_reducible apply Changes.andThen ?_ (State.logEmptied_changes _ _ ) ?_ ?_
    | with_reducible apply Changes.trans ?_ (State.runCmd_changes _ _ _ _  ?_ ?_ ?_)
    | ((conv => arg 4; arg 24); with_reducible refine Changes.update ?_))

theorem execCounterSnapshot_changes (sess : Nat) (s : State) {u : State} (h : execCounterSnapshot sess s = .next u) :
    Changes [.freeN, .blobs, .ctl, .perf, .out] (.only [K.snapshotCount]) s u := by
  unfold execCounterSnapshot at h
  try (have h := guardUnit_next h)
  try injection h with h
  subst h
  repeat' ((try with_reducible conv => arg 4; whnf); first
    | with_reducible apply Changes.refl
    | ((with_reducible show Area.sub _ _ = true); rfl)
    | ((with_reducible apply Entries.le_of_sub); rfl)
    | ((with_reducible apply Entries.le_only); simp; done)
    | intro _
    | with_reducible apply Changes.andThen ?_ (State.snapshot_changes _ ) ?_ ?_
    | with_reducible apply Changes.andThen ?_ (State.sendAction_changes _ _ ) ?_ ?_
    | with_reducible apply Changes.trans ?_ (State.runCmd_changes _ _ _ _  ?_ ?_ ?_))

theorem State.windowEnd_changes (s : State) :
    Changes [.perf] (.only [0x1511, 0x1512, 0x1513, 0x1514]) s (State.windowEnd s) := by
  unfold State.windowEnd
  repeat' ((try with_reducible conv => arg 4; whnf); first
    | with_reducible apply Changes.refl
    | ((with_reducible show Area.sub _ _ = true); rfl)
    | ((with_reducible apply Entries.le_of_sub); rfl)
    | ((with_reducible apply Entries.le_only); simp; done)
    | intro _
    | with_reducible apply Changes.ite
    | with_reducible apply Changes.foldl
    | with_reducible apply Changes.andThen ?_ (State.setReg_changes _ _ _ ) ?_ ?_
    | with_reducible apply Changes.andThen ?_ (State.peak_changes _ _ _ ) ?_ ?_
    | ((conv => arg 4; arg 24); refine Changes.updateIn ?_)
    | split)

theorem execBandwidthWindowEnd_changes (s : State) {u : State} (h : execBandwidthWindowEnd s = .next u) :
    Changes [.perf] (.only [0x1511, 0x1512, 0x1513, 0x1514]) s u := by
  unfold execBandwidthWindowEnd at h
  try (have h := guardUnit_next h)
  try injection h with h
  subst h
  repeat' ((try with_reducible conv => arg 4; whnf); first
    | with_reducible apply Changes.refl
    | ((with_reducible show Area.sub _ _ = true); rfl)
    | ((with_reducible apply Entries.le_of_sub); rfl)
    | ((with_reducible apply Entries.le_only); simp; done)
    | intro _
    | with_reducible apply Changes.andThen ?_ (State.windowEnd_changes _ ) ?_ ?_)

end Sys2Proof.Machine
end

