-- ==== Sys2Proof/Laws/FrameField.lean ====
section
/-! SUPPORT. What each operation of Machine/Field.lean changes and what it leaves unchanged. -/

-- one theorem after another: see NOTES.md
set_option Elab.async false

namespace Sys2Proof.Machine

theorem State.encResetCmd_changes (s : State) (c : Nat) :
    Changes [.ctl, .field] (.only [0x1010]) s (State.encResetCmd s c).2 := by
  unfold State.encResetCmd
  repeat' ((try with_reducible conv => arg 4; arg 1; whnf); first
    | with_reducible apply Changes.refl
    | dsimp only
    | ((with_reducible show Area.sub _ _ = true); rfl)
    | ((with_reducible apply Entries.le_of_sub); rfl)
    | ((with_reducible apply Entries.le_only); simp; done)
    | intro _
    | with_reducible apply Changes.ite
    | with_reducible apply Changes.ite_snd
    | with_reducible apply Changes.andThen ?_ (State.setReg_changes _ _ _ ) ?_ ?_
    | with_reducible apply Changes.andThen ?_ (State.cmdOk_changes _ _ ) ?_ ?_
    | with_reducible apply Changes.andThen ?_ (State.setEnc_changes _ _ _ ) ?_ ?_
    | split)

theorem State.faultClearCmd_changes (s : State) (o : Nat) :
    Changes [.ctl, .field] (.only []) s (State.faultClearCmd s o).2 := by
  unfold State.faultClearCmd
  repeat' ((try with_reducible conv => arg 4; arg 1; whnf); first
    | with_reducible apply Changes.refl
    | dsimp only
    | ((with_reducible show Area.sub _ _ = true); rfl)
    | ((with_reducible apply Entries.le_of_sub); rfl)
    | ((with_reducible apply Entries.le_only); simp; done)
    | intro _
    | with_reducible apply Changes.ite
    | with_reducible apply Changes.ite_snd
    | with_reducible apply Changes.foldl
    | with_reducible apply Changes.foldl_snd
    | with_reducible apply Changes.andThen ?_ (State.cmdOk_changes _ _ ) ?_ ?_
    | with_reducible apply Changes.andThen ?_ (State.setOut_changes _ _ _ ) ?_ ?_
    | split)

theorem State.aliveStartCmd_changes (s : State) :
    Changes [.ctl, .field] (.only [K.aliveState, K.aliveStopCause]) s (State.aliveStartCmd s).2 := by
  unfold State.aliveStartCmd
  repeat' ((try with_reducible conv => arg 4; arg 1; whnf); first
    | with_reducible apply Changes.refl
    | dsimp only
    | ((with_reducible show Area.sub _ _ = true); rfl)
    | ((with_reducible apply Entries.le_of_sub); rfl)
    | ((with_reducible apply Entries.le_only); simp; done)
    | intro _
    | with_reducible apply Changes.ite
    | with_reducible apply Changes.ite_snd
    | with_reducible apply Changes.andThen ?_ (State.cmdOk_changes _ _ ) ?_ ?_
    | with_reducible apply Changes.andThen ?_ (State.aliveClear_changes _ _ ) ?_ ?_
    | split)

theorem State.outFault_changes (s : State) (o code : Nat) :
    Changes [.freeN, .host, .faults, .perf, .out] (.only [0x0F06, 0x1205, 0x1402, 0x1703, K.recordsUnrouted, K.faultLogOverwritten, K.faultRecordsSuppressed]) s (State.outFault s o code) := by
  unfold State.outFault
  repeat' ((try with_reducible conv => arg 4; whnf); first
    | with_reducible apply Changes.refl
    | ((with_reducible show Area.sub _ _ = true); rfl)
    | ((with_reducible apply Entries.le_of_sub); rfl)
    | ((with_reducible apply Entries.le_only); simp; done)
    | intro _
    | with_reducible apply Changes.andThen ?_ (State.bump_changes _ _ _ ) ?_ ?_
    | with_reducible apply Changes.andThen ?_ (State.report_changes _ _ _ _ _ _ _ ) ?_ ?_)

theorem State.overload_changes (s : State) (o : Nat) :
    Changes [.freeN, .field, .host, .faults, .perf, .out] (.only [0x0F06, 0x1205, 0x1402, 0x1703, K.recordsUnrouted, K.faultLogOverwritten, K.faultRecordsSuppressed]) s (State.overload s o) := by
  unfold State.overload
  repeat' ((try with_reducible conv => arg 4; whnf); first
    | with_reducible apply Changes.refl
    | ((with_reducible show Area.sub _ _ = true); rfl)
    | ((with_reducible apply Entries.le_of_sub); rfl)
    | ((with_reducible apply Entries.le_only); simp; done)
    | intro _
    | with_reducible apply Changes.andThen ?_ (State.setOut_changes _ _ _ ) ?_ ?_
    | with_reducible apply Changes.andThen ?_ (State.outFault_changes _ _ _ ) ?_ ?_)

theorem State.currentLimit_changes (s : State) (o : Nat) :
    Changes [.freeN, .field, .host, .faults, .perf, .out] (.only [0x0F06, 0x1205, 0x1402, 0x1703, K.recordsUnrouted, K.faultLogOverwritten, K.faultRecordsSuppressed]) s (State.currentLimit s o) := by
  unfold State.currentLimit
  repeat' ((try with_reducible conv => arg 4; whnf); first
    | with_reducible apply Changes.refl
    | ((with_reducible show Area.sub _ _ = true); rfl)
    | ((with_reducible apply Entries.le_of_sub); rfl)
    | ((with_reducible apply Entries.le_only); simp; done)
    | intro _
    | with_reducible apply Changes.ite
    | with_reducible apply Changes.andThen ?_ (State.overload_changes _ _ ) ?_ ?_
    | split)

theorem execOutputFaultClear_changes (sess out : Nat) (s : State) {u : State} (h : execOutputFaultClear sess out s = .next u) :
    Changes [.ctl, .field, .out] (.only []) s u := by
  unfold execOutputFaultClear at h
  try (have h := guardUnit_next h)
  try injection h with h
  subst h
  repeat' ((try with_reducible conv => arg 4; whnf); first
    | with_reducible apply Changes.refl
    | ((with_reducible show Area.sub _ _ = true); rfl)
    | ((with_reducible apply Entries.le_of_sub); rfl)
    | ((with_reducible apply Entries.le_only); simp; done)
    | intro _
    | with_reducible apply Changes.andThen ?_ (State.faultClearCmd_changes _ _ ) ?_ ?_
    | with_reducible apply Changes.trans ?_ (State.runCmd_changes _ _ _ _  ?_ ?_ ?_))

theorem execAliveStop_changes (sess : Nat) (s : State) {u : State} (h : execAliveStop sess s = .next u) :
    Changes [.ctl, .field, .out] (.only [K.aliveState, K.aliveStopCause]) s u := by
  unfold execAliveStop at h
  try (have h := guardUnit_next h)
  try injection h with h
  subst h
  repeat' ((try with_reducible conv => arg 4; whnf); first
    | with_reducible apply Changes.refl
    | ((with_reducible show Area.sub _ _ = true); rfl)
    | ((with_reducible apply Entries.le_of_sub); rfl)
    | ((with_reducible apply Entries.le_only); simp; done)
    | intro _
    | with_reducible apply Changes.andThen ?_ (State.cmdOk_changes _ _ ) ?_ ?_
    | with_reducible apply Changes.andThen ?_ (State.aliveStopFor_changes _ _ ) ?_ ?_
    | with_reducible apply Changes.trans ?_ (State.runCmd_changes _ _ _ _  ?_ ?_ ?_))

theorem State.encTrip_changes (s : State) (c ma : Nat) :
    Changes [.freeN, .field, .host, .faults, .perf, .out] (.only [0x1010, 0x1014, 0x1205, 0x1402, 0x1703, K.recordsUnrouted, K.faultLogOverwritten, K.faultRecordsSuppressed]) s (State.encTrip s c ma) := by
  unfold State.encTrip
  repeat' ((try with_reducible conv => arg 4; whnf); first
    | with_reducible apply Changes.refl
    | ((with_reducible show Area.sub _ _ = true); rfl)
    | ((with_reducible apply Entries.le_of_sub); rfl)
    | ((with_reducible apply Entries.le_only); simp; done)
    | intro _
    | with_reducible apply Changes.ite
    | with_reducible apply Changes.andThen ?_ (State.setReg_changes _ _ _ ) ?_ ?_
    | with_reducible apply Changes.andThen ?_ (State.bump_changes _ _ _ ) ?_ ?_
    | with_reducible apply Changes.andThen ?_ (State.report_changes _ _ _ _ _ _ _ ) ?_ ?_
    | with_reducible apply Changes.andThen ?_ (State.setEnc_changes _ _ _ ) ?_ ?_
    | split)

theorem execEncoderSupplyTrip_changes (chan ma : Nat) (s : State) {u : State} (h : execEncoderSupplyTrip chan ma s = .next u) :
    Changes [.freeN, .field, .host, .faults, .perf, .out] (.only [0x1010, 0x1014, 0x1205, 0x1402, 0x1703, K.recordsUnrouted, K.faultLogOverwritten, K.faultRecordsSuppressed]) s u := by
  unfold execEncoderSupplyTrip at h
  try (have h := guardUnit_next h)
  try injection h with h
  subst h
  repeat' ((try with_reducible conv => arg 4; whnf); first
    | with_reducible apply Changes.refl
    | ((with_reducible show Area.sub _ _ = true); rfl)
    | ((with_reducible apply Entries.le_of_sub); rfl)
    | ((with_reducible apply Entries.le_only); simp; done)
    | intro _
    | with_reducible apply Changes.andThen ?_ (State.encTrip_changes _ _ _ ) ?_ ?_)

theorem execAliveStart_changes (sess : Nat) (s : State) {u : State} (h : execAliveStart sess s = .next u) :
    Changes [.ctl, .field, .out] (.only [K.aliveState, K.aliveStopCause]) s u := by
  unfold execAliveStart at h
  try (have h := guardUnit_next h)
  try injection h with h
  subst h
  repeat' ((try with_reducible conv => arg 4; whnf); first
    | with_reducible apply Changes.refl
    | ((with_reducible show Area.sub _ _ = true); rfl)
    | ((with_reducible apply Entries.le_of_sub); rfl)
    | ((with_reducible apply Entries.le_only); simp; done)
    | intro _
    | with_reducible apply Changes.andThen ?_ (State.aliveStartCmd_changes _ ) ?_ ?_
    | with_reducible apply Changes.trans ?_ (State.runCmd_changes _ _ _ _  ?_ ?_ ?_))

theorem State.setInput_changes (s : State) (n : Nat) (x : Input) :
    Changes [.field] (.only []) s (State.setInput s n x) := by
  unfold State.setInput
  repeat' ((try with_reducible conv => arg 4; whnf); first
    | with_reducible apply Changes.refl
    | ((conv => arg 4; arg 24); with_reducible refine Changes.update ?_))

theorem State.sensorTrip_changes (s : State) (ma : Nat) :
    Changes [.freeN, .host, .faults, .perf, .out] (.only [0x1205, 0x1402, 0x1703, K.sensorSupplyState, K.sensorSupplyTrips, K.recordsUnrouted, K.faultLogOverwritten, K.faultRecordsSuppressed]) s (State.sensorTrip s ma) := by
  unfold State.sensorTrip
  repeat' ((try with_reducible conv => arg 4; whnf); first
    | with_reducible apply Changes.refl
    | ((with_reducible show Area.sub _ _ = true); rfl)
    | ((with_reducible apply Entries.le_of_sub); rfl)
    | ((with_reducible apply Entries.le_only); simp; done)
    | intro _
    | with_reducible apply Changes.ite
    | with_reducible apply Changes.andThen ?_ (State.setReg_changes _ _ _ ) ?_ ?_
    | with_reducible apply Changes.andThen ?_ (State.bump_changes _ _ _ ) ?_ ?_
    | with_reducible apply Changes.andThen ?_ (State.report_changes _ _ _ _ _ _ _ ) ?_ ?_
    | split)

theorem execSensorSupplyTrip_changes (ma : Nat) (s : State) {u : State} (h : execSensorSupplyTrip ma s = .next u) :
    Changes [.freeN, .host, .faults, .perf, .out] (.only [0x1205, 0x1402, 0x1703, K.sensorSupplyState, K.sensorSupplyTrips, K.recordsUnrouted, K.faultLogOverwritten, K.faultRecordsSuppressed]) s u := by
  unfold execSensorSupplyTrip at h
  try (have h := guardUnit_next h)
  try injection h with h
  subst h
  repeat' ((try with_reducible conv => arg 4; whnf); first
    | with_reducible apply Changes.refl
    | ((with_reducible show Area.sub _ _ = true); rfl)
    | ((with_reducible apply Entries.le_of_sub); rfl)
    | ((with_reducible apply Entries.le_only); simp; done)
    | intro _
    | with_reducible apply Changes.andThen ?_ (State.sensorTrip_changes _ _ ) ?_ ?_)

theorem State.readbackCheck_changes (s : State) (o : Nat) :
    Changes [.freeN, .field, .host, .faults, .perf, .out] (.only [0x0F06, 0x1205, 0x1402, 0x1703, K.recordsUnrouted, K.faultLogOverwritten, K.faultRecordsSuppressed]) s (State.readbackCheck s o) := by
  unfold State.readbackCheck
  repeat' ((try with_reducible conv => arg 4; whnf); first
    | with_reducible apply Changes.refl
    | ((with_reducible show Area.sub _ _ = true); rfl)
    | ((with_reducible apply Entries.le_of_sub); rfl)
    | ((with_reducible apply Entries.le_only); simp; done)
    | intro _
    | with_reducible apply Changes.ite
    | with_reducible apply Changes.andThen ?_ (State.overload_changes _ _ ) ?_ ?_
    | with_reducible apply Changes.andThen ?_ (State.setOut_changes _ _ _ ) ?_ ?_
    | split)

theorem execOutputReadbackCheck_changes (out : Nat) (s : State) {u : State} (h : execOutputReadbackCheck out s = .next u) :
    Changes [.freeN, .field, .host, .faults, .perf, .out] (.only [0x0F06, 0x1205, 0x1402, 0x1703, K.recordsUnrouted, K.faultLogOverwritten, K.faultRecordsSuppressed]) s u := by
  unfold execOutputReadbackCheck at h
  try (have h := guardUnit_next h)
  try injection h with h
  subst h
  repeat' ((try with_reducible conv => arg 4; whnf); first
    | with_reducible apply Changes.refl
    | ((with_reducible show Area.sub _ _ = true); rfl)
    | ((with_reducible apply Entries.le_of_sub); rfl)
    | ((with_reducible apply Entries.le_only); simp; done)
    | intro _
    | with_reducible apply Changes.andThen ?_ (State.readbackCheck_changes _ _ ) ?_ ?_)

theorem State.externalDetect_changes (s : State) (o : Nat) :
    Changes [.freeN, .field, .host, .faults, .perf, .out] (.only [0x0F06, 0x1205, 0x1402, 0x1703, K.recordsUnrouted, K.faultLogOverwritten, K.faultRecordsSuppressed]) s (State.externalDetect s o) := by
  unfold State.externalDetect
  repeat' ((try with_reducible conv => arg 4; whnf); first
    | with_reducible apply Changes.refl
    | ((with_reducible show Area.sub _ _ = true); rfl)
    | ((with_reducible apply Entries.le_of_sub); rfl)
    | ((with_reducible apply Entries.le_only); simp; done)
    | intro _
    | with_reducible apply Changes.ite
    | with_reducible apply Changes.andThen ?_ (State.setOut_changes _ _ _ ) ?_ ?_
    | with_reducible apply Changes.andThen ?_ (State.outFault_changes _ _ _ ) ?_ ?_
    | split)

theorem execExternalVoltageDetect_changes (out : Nat) (s : State) {u : State} (h : execExternalVoltageDetect out s = .next u) :
    Changes [.freeN, .field, .host, .faults, .perf, .out] (.only [0x0F06, 0x1205, 0x1402, 0x1703, K.recordsUnrouted, K.faultLogOverwritten, K.faultRecordsSuppressed]) s u := by
  unfold execExternalVoltageDetect at h
  try (have h := guardUnit_next h)
  try injection h with h
  subst h
  repeat' ((try with_reducible conv => arg 4; whnf); first
    | with_reducible apply Changes.refl
    | ((with_reducible show Area.sub _ _ = true); rfl)
    | ((with_reducible apply Entries.le_of_sub); rfl)
    | ((with_reducible apply Entries.le_only); simp; done)
    | intro _
    | with_reducible apply Changes.andThen ?_ (State.externalDetect_changes _ _ ) ?_ ?_)

theorem State.inputEdge_changes (s : State) (n : Nat) (level : Bool) (tick ibp : Nat) (fc : List Nat) :
    Changes [.freeN, .ctl, .field, .host, .power, .perf, .out] (.only [0x0E06, 0x0E0A, 0x0E0B, 0x0E0E, 0x1205, K.lastWakeCause, K.inputLevels, K.recordsUnrouted]) s (State.inputEdge s n level tick ibp fc) := by
  unfold State.inputEdge
  repeat' ((try with_reducible conv => arg 4; whnf); first
    | with_reducible apply Changes.refl
    | ((with_reducible show Area.sub _ _ = true); rfl)
    | ((with_reducible apply Entries.le_of_sub); rfl)
    | ((with_reducible apply Entries.le_only); simp; done)
    | intro _
    | with_reducible apply Changes.ite
    | with_reducible apply Changes.foldl
    | with_reducible apply Changes.andThen ?_ (State.setReg_changes _ _ _ ) ?_ ?_
    | with_reducible apply Changes.andThen ?_ (State.bump_changes _ _ _ ) ?_ ?_
    | with_reducible apply Changes.andThen ?_ (State.setInput_changes _ _ _ ) ?_ ?_
    | with_reducible apply Changes.andThen ?_ (State.wake_changes _ _ _ ) ?_ ?_
    | with_reducible apply Changes.andThen ?_ (State.emit_changes _ _ ) ?_ ?_
    | split)

theorem State.wakeWindow_changes (s : State) (n : Nat) (level : Bool) :
    Changes [.freeN, .ctl, .field, .power] (.only [K.lastWakeCause]) s (State.wakeWindow s n level) := by
  unfold State.wakeWindow
  repeat' ((try with_reducible conv => arg 4; whnf); first
    | with_reducible apply Changes.refl
    | ((with_reducible show Area.sub _ _ = true); rfl)
    | ((with_reducible apply Entries.le_of_sub); rfl)
    | ((with_reducible apply Entries.le_only); simp; done)
    | intro _
    | with_reducible apply Changes.ite
    | with_reducible apply Changes.andThen ?_ (State.setInput_changes _ _ _ ) ?_ ?_
    | with_reducible apply Changes.andThen ?_ (State.wake_changes _ _ _ ) ?_ ?_
    | split)

theorem State.pulseWindow_changes (s : State) (n : Nat) (level : Bool) :
    Changes [.freeN, .ctl, .field, .host, .power, .perf, .out] (.only [0x0E06, 0x0E0A, 0x0E0B, 0x0E0E, 0x1205, K.lastWakeCause, K.inputLevels, K.recordsUnrouted]) s (State.pulseWindow s n level) := by
  unfold State.pulseWindow
  repeat' ((try with_reducible conv => arg 4; whnf); first
    | with_reducible apply Changes.refl
    | ((with_reducible show Area.sub _ _ = true); rfl)
    | ((with_reducible apply Entries.le_of_sub); rfl)
    | ((with_reducible apply Entries.le_only); simp; done)
    | intro _
    | with_reducible apply Changes.ite
    | with_reducible apply Changes.andThen ?_ (State.setInput_changes _ _ _ ) ?_ ?_
    | with_reducible apply Changes.andThen ?_ (State.inputEdge_changes _ _ _ _ _ _ ) ?_ ?_
    | with_reducible apply Changes.andThen ?_ (State.wakeWindow_changes _ _ _ ) ?_ ?_
    | split)

theorem execPulseWindowEnd_changes (input : Nat) (level : Bool) (s : State) {u : State} (h : execPulseWindowEnd input level s = .next u) :
    Changes [.freeN, .ctl, .field, .host, .power, .perf, .out] (.only [0x0E06, 0x0E0A, 0x0E0B, 0x0E0E, 0x1205, K.lastWakeCause, K.inputLevels, K.recordsUnrouted]) s u := by
  unfold execPulseWindowEnd at h
  try (have h := guardUnit_next h)
  try injection h with h
  subst h
  repeat' ((try with_reducible conv => arg 4; whnf); first
    | with_reducible apply Changes.refl
    | ((with_reducible show Area.sub _ _ = true); rfl)
    | ((with_reducible apply Entries.le_of_sub); rfl)
    | ((with_reducible apply Entries.le_only); simp; done)
    | intro _
    | with_reducible apply Changes.andThen ?_ (State.pulseWindow_changes _ _ _ ) ?_ ?_)

theorem State.rawEdge_changes (s : State) (n : Nat) (level : Bool) :
    Changes [.freeN, .ctl, .field, .host, .power, .perf, .out] (.only [0x0E06, 0x0E0A, 0x0E0B, 0x0E0E, 0x1205, K.lastWakeCause, K.inputLevels, K.recordsUnrouted]) s (State.rawEdge s n level) := by
  unfold State.rawEdge
  repeat' ((try with_reducible conv => arg 4; whnf); first
    | with_reducible apply Changes.refl
    | ((with_reducible show Area.sub _ _ = true); rfl)
    | ((with_reducible apply Entries.le_of_sub); rfl)
    | ((with_reducible apply Entries.le_only); simp; done)
    | intro _
    | with_reducible apply Changes.ite
    | with_reducible apply Changes.andThen ?_ (State.setInput_changes _ _ _ ) ?_ ?_
    | with_reducible apply Changes.andThen ?_ (State.inputEdge_changes _ _ _ _ _ _ ) ?_ ?_
    | split)

theorem execInputRawEdge_changes (input : Nat) (level : Bool) (s : State) {u : State} (h : execInputRawEdge input level s = .next u) :
    Changes [.freeN, .ctl, .field, .host, .power, .perf, .out] (.only [0x0E06, 0x0E0A, 0x0E0B, 0x0E0E, 0x1205, K.lastWakeCause, K.inputLevels, K.recordsUnrouted]) s u := by
  unfold execInputRawEdge at h
  try (have h := guardUnit_next h)
  try injection h with h
  subst h
  repeat' ((try with_reducible conv => arg 4; whnf); first
    | with_reducible apply Changes.refl
    | ((with_reducible show Area.sub _ _ = true); rfl)
    | ((with_reducible apply Entries.le_of_sub); rfl)
    | ((with_reducible apply Entries.le_only); simp; done)
    | intro _
    | with_reducible apply Changes.andThen ?_ (State.rawEdge_changes _ _ _ ) ?_ ?_)

theorem State.auxTake_changes (s : State) (c w : Nat) :
    Changes [.field] (.only [0x100D, 0x100E]) s (State.auxTake s c w) := by
  unfold State.auxTake
  repeat' ((try with_reducible conv => arg 4; whnf); first
    | with_reducible apply Changes.refl
    | ((with_reducible show Area.sub _ _ = true); rfl)
    | ((with_reducible apply Entries.le_of_sub); rfl)
    | ((with_reducible apply Entries.le_only); simp; done)
    | intro _
    | with_reducible apply Changes.ite
    | with_reducible apply Changes.andThen ?_ (State.setReg_changes _ _ _ ) ?_ ?_
    | with_reducible apply Changes.andThen ?_ (State.setEnc_changes _ _ _ ) ?_ ?_
    | split)

theorem State.auxSample_changes (s : State) (c : Nat) (r : EncRead) :
    Changes [.field] (.only [0x100D, 0x100E, 0x100F, 0x1010, 0x1011, 0x1012, 0x1013]) s (State.auxSample s c r) := by
  unfold State.auxSample
  repeat' ((try with_reducible conv => arg 4; whnf); first
    | with_reducible apply Changes.refl
    | ((with_reducible show Area.sub _ _ = true); rfl)
    | ((with_reducible apply Entries.le_of_sub); rfl)
    | ((with_reducible apply Entries.le_only); simp; done)
    | intro _
    | with_reducible apply Changes.ite
    | with_reducible apply Changes.andThen ?_ (State.auxTake_changes _ _ _ ) ?_ ?_
    | with_reducible apply Changes.andThen ?_ (State.encCheck_changes _ _ _ ) ?_ ?_
    | with_reducible apply Changes.andThen ?_ (State.setEnc_changes _ _ _ ) ?_ ?_
    | split)

theorem execAuxSample_changes (chan : Nat) (r : EncRead) (s : State) {u : State} (h : execAuxSample chan r s = .next u) :
    Changes [.field] (.only [0x100D, 0x100E, 0x100F, 0x1010, 0x1011, 0x1012, 0x1013]) s u := by
  unfold execAuxSample at h
  try (have h := guardUnit_next h)
  try injection h with h
  subst h
  repeat' ((try with_reducible conv => arg 4; whnf); first
    | with_reducible apply Changes.refl
    | ((with_reducible show Area.sub _ _ = true); rfl)
    | ((with_reducible apply Entries.le_of_sub); rfl)
    | ((with_reducible apply Entries.le_only); simp; done)
    | intro _
    | with_reducible apply Changes.andThen ?_ (State.auxSample_changes _ _ _ ) ?_ ?_)

theorem State.openLoadCheck_changes (s : State) (o : Nat) :
    Changes [.freeN, .field, .host, .faults, .perf, .out] (.only [0x0F06, 0x1205, 0x1402, 0x1703, K.recordsUnrouted, K.faultLogOverwritten, K.faultRecordsSuppressed]) s (State.openLoadCheck s o) := by
  unfold State.openLoadCheck
  repeat' ((try with_reducible conv => arg 4; whnf); first
    | with_reducible apply Changes.refl
    | ((with_reducible show Area.sub _ _ = true); rfl)
    | ((with_reducible apply Entries.le_of_sub); rfl)
    | ((with_reducible apply Entries.le_only); simp; done)
    | intro _
    | with_reducible apply Changes.ite
    | with_reducible apply Changes.andThen ?_ (State.setOut_changes _ _ _ ) ?_ ?_
    | with_reducible apply Changes.andThen ?_ (State.outFault_changes _ _ _ ) ?_ ?_
    | split)

theorem execOpenLoadDetect_changes (out : Nat) (s : State) {u : State} (h : execOpenLoadDetect out s = .next u) :
    Changes [.freeN, .field, .host, .faults, .perf, .out] (.only [0x0F06, 0x1205, 0x1402, 0x1703, K.recordsUnrouted, K.faultLogOverwritten, K.faultRecordsSuppressed]) s u := by
  unfold execOpenLoadDetect at h
  try (have h := guardUnit_next h)
  try injection h with h
  subst h
  repeat' ((try with_reducible conv => arg 4; whnf); first
    | with_reducible apply Changes.refl
    | ((with_reducible show Area.sub _ _ = true); rfl)
    | ((with_reducible apply Entries.le_of_sub); rfl)
    | ((with_reducible apply Entries.le_only); simp; done)
    | intro _
    | with_reducible apply Changes.andThen ?_ (State.openLoadCheck_changes _ _ ) ?_ ?_)

theorem execCurrentLimitExpiry_changes (out : Nat) (s : State) {u : State} (h : execCurrentLimitExpiry out s = .next u) :
    Changes [.freeN, .field, .host, .faults, .perf, .out] (.only [0x0F06, 0x1205, 0x1402, 0x1703, K.recordsUnrouted, K.faultLogOverwritten, K.faultRecordsSuppressed]) s u := by
  unfold execCurrentLimitExpiry at h
  try (have h := guardUnit_next h)
  try injection h with h
  subst h
  repeat' ((try with_reducible conv => arg 4; whnf); first
    | with_reducible apply Changes.refl
    | ((with_reducible show Area.sub _ _ = true); rfl)
    | ((with_reducible apply Entries.le_of_sub); rfl)
    | ((with_reducible apply Entries.le_only); simp; done)
    | intro _
    | with_reducible apply Changes.andThen ?_ (State.currentLimit_changes _ _ ) ?_ ?_)

theorem State.filterExpiry_changes (s : State) (n : Nat) :
    Changes [.freeN, .ctl, .field, .host, .power, .perf, .out] (.only [0x0E06, 0x0E0A, 0x0E0B, 0x0E0E, 0x1205, K.lastWakeCause, K.inputLevels, K.recordsUnrouted]) s (State.filterExpiry s n) := by
  unfold State.filterExpiry
  repeat' ((try with_reducible conv => arg 4; whnf); first
    | with_reducible apply Changes.refl
    | ((with_reducible show Area.sub _ _ = true); rfl)
    | ((with_reducible apply Entries.le_of_sub); rfl)
    | ((with_reducible apply Entries.le_only); simp; done)
    | intro _
    | with_reducible apply Changes.ite
    | with_reducible apply Changes.andThen ?_ (State.inputEdge_changes _ _ _ _ _ _ ) ?_ ?_
    | split)

theorem execInputFilterExpiry_changes (input : Nat) (s : State) {u : State} (h : execInputFilterExpiry input s = .next u) :
    Changes [.freeN, .ctl, .field, .host, .power, .perf, .out] (.only [0x0E06, 0x0E0A, 0x0E0B, 0x0E0E, 0x1205, K.lastWakeCause, K.inputLevels, K.recordsUnrouted]) s u := by
  unfold execInputFilterExpiry at h
  try (have h := guardUnit_next h)
  try injection h with h
  subst h
  repeat' ((try with_reducible conv => arg 4; whnf); first
    | with_reducible apply Changes.refl
    | ((with_reducible show Area.sub _ _ = true); rfl)
    | ((with_reducible apply Entries.le_of_sub); rfl)
    | ((with_reducible apply Entries.le_only); simp; done)
    | intro _
    | with_reducible apply Changes.andThen ?_ (State.filterExpiry_changes _ _ ) ?_ ?_)

theorem State.aliveHalf_changes (s : State) :
    Changes [.field] (.only [K.aliveState]) s (State.aliveHalf s) := by
  unfold State.aliveHalf
  repeat' ((try with_reducible conv => arg 4; whnf); first
    | with_reducible apply Changes.refl
    | ((with_reducible show Area.sub _ _ = true); rfl)
    | ((with_reducible apply Entries.le_of_sub); rfl)
    | ((with_reducible apply Entries.le_only); simp; done)
    | intro _
    | with_reducible apply Changes.ite
    | with_reducible apply Changes.andThen ?_ (State.setAlive_changes _ _ _ ) ?_ ?_
    | split)

theorem execAliveHalfPeriod_changes (s : State) {u : State} (h : execAliveHalfPeriod s = .next u) :
    Changes [.field] (.only [K.aliveState]) s u := by
  unfold execAliveHalfPeriod at h
  try (have h := guardUnit_next h)
  try injection h with h
  subst h
  repeat' ((try with_reducible conv => arg 4; whnf); first
    | with_reducible apply Changes.refl
    | ((with_reducible show Area.sub _ _ = true); rfl)
    | ((with_reducible apply Entries.le_of_sub); rfl)
    | ((with_reducible apply Entries.le_only); simp; done)
    | intro _
    | with_reducible apply Changes.andThen ?_ (State.aliveHalf_changes _ ) ?_ ?_)

theorem State.externalClear_changes (s : State) (o : Nat) :
    Changes [.field] (.only []) s (State.externalClear s o) := by
  unfold State.externalClear
  repeat' ((try with_reducible conv => arg 4; whnf); first
    | with_reducible apply Changes.refl
    | ((with_reducible show Area.sub _ _ = true); rfl)
    | ((with_reducible apply Entries.le_of_sub); rfl)
    | ((with_reducible apply Entries.le_only); simp; done)
    | intro _
    | with_reducible apply Changes.ite
    | with_reducible apply Changes.andThen ?_ (State.setOut_changes _ _ _ ) ?_ ?_
    | split)

theorem execExternalVoltageClear_changes (out : Nat) (s : State) {u : State} (h : execExternalVoltageClear out s = .next u) :
    Changes [.field] (.only []) s u := by
  unfold execExternalVoltageClear at h
  try (have h := guardUnit_next h)
  try injection h with h
  subst h
  repeat' ((try with_reducible conv => arg 4; whnf); first
    | with_reducible apply Changes.refl
    | ((with_reducible show Area.sub _ _ = true); rfl)
    | ((with_reducible apply Entries.le_of_sub); rfl)
    | ((with_reducible apply Entries.le_only); simp; done)
    | intro _
    | with_reducible apply Changes.andThen ?_ (State.externalClear_changes _ _ ) ?_ ?_)

theorem State.readbackEdge_changes (s : State) (o : Nat) (level : Bool) :
    Changes [.eject, .field] (.only [K.fireEdgesMeasured, K.fireEdgesOutside, K.fireErrorMin, K.fireErrorMax]) s (State.readbackEdge s o level) := by
  unfold State.readbackEdge
  repeat' ((try with_reducible conv => arg 4; whnf); first
    | with_reducible apply Changes.refl
    | ((with_reducible show Area.sub _ _ = true); rfl)
    | ((with_reducible apply Entries.le_of_sub); rfl)
    | ((with_reducible apply Entries.le_only); simp; done)
    | intro _
    | with_reducible apply Changes.ite
    | with_reducible apply Changes.andThen ?_ (State.stampEdge_changes _ _ _ _ ) ?_ ?_
    | with_reducible apply Changes.andThen ?_ (State.setOut_changes _ _ _ ) ?_ ?_
    | split)

theorem execReadbackEdge_changes (out : Nat) (level : Bool) (s : State) {u : State} (h : execReadbackEdge out level s = .next u) :
    Changes [.eject, .field] (.only [K.fireEdgesMeasured, K.fireEdgesOutside, K.fireErrorMin, K.fireErrorMax]) s u := by
  unfold execReadbackEdge at h
  try (have h := guardUnit_next h)
  try injection h with h
  subst h
  repeat' ((try with_reducible conv => arg 4; whnf); first
    | with_reducible apply Changes.refl
    | ((with_reducible show Area.sub _ _ = true); rfl)
    | ((with_reducible apply Entries.le_of_sub); rfl)
    | ((with_reducible apply Entries.le_only); simp; done)
    | intro _
    | with_reducible apply Changes.andThen ?_ (State.readbackEdge_changes _ _ _ ) ?_ ?_)

theorem execSensorSupplyReset_changes (sess : Nat) (s : State) {u : State} (h : execSensorSupplyReset sess s = .next u) :
    Changes [.ctl, .out] (.only [K.sensorSupplyState]) s u := by
  unfold execSensorSupplyReset at h
  try (have h := guardUnit_next h)
  try injection h with h
  subst h
  repeat' ((try with_reducible conv => arg 4; whnf); first
    | with_reducible apply Changes.refl
    | ((with_reducible show Area.sub _ _ = true); rfl)
    | ((with_reducible apply Entries.le_of_sub); rfl)
    | ((with_reducible apply Entries.le_only); simp; done)
    | intro _
    | with_reducible apply Changes.andThen ?_ (State.setReg_changes _ _ _ ) ?_ ?_
    | with_reducible apply Changes.andThen ?_ (State.cmdOk_changes _ _ ) ?_ ?_
    | with_reducible apply Changes.trans ?_ (State.runCmd_changes _ _ _ _  ?_ ?_ ?_))

theorem execEncoderSupplyReset_changes (sess chan : Nat) (s : State) {u : State} (h : execEncoderSupplyReset sess chan s = .next u) :
    Changes [.ctl, .field, .out] (.only [0x1010]) s u := by
  unfold execEncoderSupplyReset at h
  try (have h := guardUnit_next h)
  try injection h with h
  subst h
  repeat' ((try with_reducible conv => arg 4; whnf); first
    | with_reducible apply Changes.refl
    | ((with_reducible show Area.sub _ _ = true); rfl)
    | ((with_reducible apply Entries.le_of_sub); rfl)
    | ((with_reducible apply Entries.le_only); simp; done)
    | intro _
    | with_reducible apply Changes.andThen ?_ (State.encResetCmd_changes _ _ ) ?_ ?_
    | with_reducible apply Changes.trans ?_ (State.runCmd_changes _ _ _ _  ?_ ?_ ?_))

end Sys2Proof.Machine
end

