-- ==== Sys2Proof/Laws/FrameIntake.lean ====
section
/-! SUPPORT. What each operation of Machine/Intake.lean changes and what it leaves unchanged. -/

-- one theorem after another: see NOTES.md
set_option Elab.async false

namespace Sys2Proof.Machine

theorem State.eyeScanCmd_changes (s : State) (l : Nat) :
    Changes [.ctl, .intake] (.only []) s (State.eyeScanCmd s l).2 := by
  unfold State.eyeScanCmd
  repeat' ((try with_reducible conv => arg 4; arg 1; whnf); first
    | with_reducible apply Changes.refl
    | dsimp only
    | ((with_reducible show Area.sub _ _ = true); rfl)
    | ((with_reducible apply Entries.le_of_sub); rfl)
    | ((with_reducible apply Entries.le_only); simp; done)
    | intro _
    | with_reducible apply Changes.ite
    | with_reducible apply Changes.ite_snd
    | with_reducible apply Changes.andThen ?_ (State.cmdBegin_changes _ _ ) ?_ ?_
    | ((conv => arg 4; arg 24); with_reducible refine Changes.update ?_)
    | split)

theorem State.streamRestartCmd_changes (s : State) (i : Nat) :
    Changes [.ctl, .intake] (.only [0x0405, 0x0406, 0x0407, 0x0509]) s (State.streamRestartCmd s i).2 := by
  unfold State.streamRestartCmd
  repeat' ((try with_reducible conv => arg 4; arg 1; whnf); first
    | with_reducible apply Changes.refl
    | dsimp only
    | ((with_reducible show Area.sub _ _ = true); rfl)
    | ((with_reducible apply Entries.le_of_sub); rfl)
    | ((with_reducible apply Entries.le_only); simp; done)
    | intro _
    | with_reducible apply Changes.ite
    | with_reducible apply Changes.ite_snd
    | with_reducible apply Changes.andThen ?_ (State.cmdOk_changes _ _ ) ?_ ?_
    | with_reducible apply Changes.andThen ?_ (State.startStream_changes _ _ ) ?_ ?_
    | split)

theorem State.cameraRegCmd_changes (s : State) (write : Bool) :
    Changes [.freeN, .ctl, .intake, .perf, .out] (.only [0x0405]) s (State.cameraRegCmd s write).2 := by
  unfold State.cameraRegCmd
  repeat' ((try with_reducible conv => arg 4; arg 1; whnf); first
    | with_reducible apply Changes.refl
    | dsimp only
    | ((with_reducible show Area.sub _ _ = true); rfl)
    | ((with_reducible apply Entries.le_of_sub); rfl)
    | ((with_reducible apply Entries.le_only); simp; done)
    | intro _
    | with_reducible apply Changes.ite
    | with_reducible apply Changes.ite_snd
    | with_reducible apply Changes.andThen ?_ (State.camCtl_changes _ _ _ _ _ ) ?_ ?_
    | with_reducible apply Changes.andThen ?_ (State.cmdBegin_changes _ _ ) ?_ ?_
    | split)

theorem State.controlAck_changes (s : State) (l : Nat) (a : CtlAck) :
    Changes [.freeN, .blobs, .ctl, .intake, .pipe, .host, .perf, .out] (.only [0x0405, 0x0406, 0x0407, 0x040C, 0x0509, 0x0615, 0x0616, 0x1205, K.recordsUnrouted]) s (State.controlAck s l a) := by
  unfold State.controlAck
  repeat' ((try with_reducible conv => arg 4; whnf); first
    | with_reducible apply Changes.refl
    | ((with_reducible show Area.sub _ _ = true); rfl)
    | ((with_reducible apply Entries.le_of_sub); rfl)
    | ((with_reducible apply Entries.le_only); simp; done)
    | intro _
    | with_reducible apply Changes.ite
    | with_reducible apply Changes.andThen ?_ (State.bump_changes _ _ _ ) ?_ ?_
    | with_reducible apply Changes.andThen ?_ (State.ctlResend_changes _ _ ) ?_ ?_
    | with_reducible apply Changes.andThen ?_ (State.acked_changes _ _ _ _ ) ?_ ?_
    | with_reducible apply Changes.andThen ?_ (State.ctlFailed_changes _ _ _ _ ) ?_ ?_
    | with_reducible apply Changes.andThen ?_ (State.setCam_changes _ _ _ ) ?_ ?_
    | split)

theorem State.startFree_changes (s : State) (i : Nat) :
    Changes [.ctl, .intake] (.only [0x0405, 0x0406, 0x0407, 0x0509]) s (State.startFree s i) := by
  unfold State.startFree
  repeat' ((try with_reducible conv => arg 4; whnf); first
    | with_reducible apply Changes.refl
    | ((with_reducible show Area.sub _ _ = true); rfl)
    | ((with_reducible apply Entries.le_of_sub); rfl)
    | ((with_reducible apply Entries.le_only); simp; done)
    | intro _
    | with_reducible apply Changes.ite
    | with_reducible apply Changes.andThen ?_ (State.startStream_changes _ _ ) ?_ ?_
    | split)

theorem State.identRetry_changes (s : State) (i : Nat) :
    Changes [.freeN, .ctl, .intake, .perf, .out] (.only [0x0405]) s (State.identRetry s i) := by
  unfold State.identRetry
  repeat' ((try with_reducible conv => arg 4; whnf); first
    | with_reducible apply Changes.refl
    | ((with_reducible show Area.sub _ _ = true); rfl)
    | ((with_reducible apply Entries.le_of_sub); rfl)
    | ((with_reducible apply Entries.le_only); simp; done)
    | intro _
    | with_reducible apply Changes.ite
    | with_reducible apply Changes.andThen ?_ (State.identify_changes _ _ ) ?_ ?_
    | split)

theorem execIdentificationRetry_changes (stream : Nat) (s : State) {u : State} (h : execIdentificationRetry stream s = .next u) :
    Changes [.freeN, .ctl, .intake, .perf, .out] (.only [0x0405]) s u := by
  unfold execIdentificationRetry at h
  try (have h := guardUnit_next h)
  try injection h with h
  subst h
  repeat' ((try with_reducible conv => arg 4; whnf); first
    | with_reducible apply Changes.refl
    | ((with_reducible show Area.sub _ _ = true); rfl)
    | ((with_reducible apply Entries.le_of_sub); rfl)
    | ((with_reducible apply Entries.le_only); simp; done)
    | intro _
    | with_reducible apply Changes.andThen ?_ (State.identRetry_changes _ _ ) ?_ ?_)

theorem execCameraRegRead_changes (sess : Nat) (s : State) {u : State} (h : execCameraRegRead sess s = .next u) :
    Changes [.freeN, .ctl, .intake, .perf, .out] (.only [0x0405]) s u := by
  unfold execCameraRegRead at h
  try (have h := guardUnit_next h)
  try injection h with h
  subst h
  repeat' ((try with_reducible conv => arg 4; whnf); first
    | with_reducible apply Changes.refl
    | ((with_reducible show Area.sub _ _ = true); rfl)
    | ((with_reducible apply Entries.le_of_sub); rfl)
    | ((with_reducible apply Entries.le_only); simp; done)
    | intro _
    | with_reducible apply Changes.andThen ?_ (State.cameraRegCmd_changes _ _ ) ?_ ?_
    | with_reducible apply Changes.trans ?_ (State.runCmd_changes _ _ _ _  ?_ ?_ ?_))

theorem State.controlAckTimeout_changes (s : State) (l : Nat) :
    Changes [.freeN, .ctl, .intake, .perf, .out] (.only [0x0405, 0x0407, 0x040C, 0x0509]) s (State.controlAckTimeout s l) := by
  unfold State.controlAckTimeout
  repeat' ((try with_reducible conv => arg 4; whnf); first
    | with_reducible apply Changes.refl
    | ((with_reducible show Area.sub _ _ = true); rfl)
    | ((with_reducible apply Entries.le_of_sub); rfl)
    | ((with_reducible apply Entries.le_only); simp; done)
    | intro _
    | with_reducible apply Changes.ite
    | with_reducible apply Changes.andThen ?_ (State.bump_changes _ _ _ ) ?_ ?_
    | with_reducible apply Changes.andThen ?_ (State.ctlResend_changes _ _ ) ?_ ?_
    | split)

theorem execControlAckTimeout_changes (link : Nat) (s : State) {u : State} (h : execControlAckTimeout link s = .next u) :
    Changes [.freeN, .ctl, .intake, .perf, .out] (.only [0x0405, 0x0407, 0x040C, 0x0509]) s u := by
  unfold execControlAckTimeout at h
  try (have h := guardUnit_next h)
  try injection h with h
  subst h
  repeat' ((try with_reducible conv => arg 4; whnf); first
    | with_reducible apply Changes.refl
    | ((with_reducible show Area.sub _ _ = true); rfl)
    | ((with_reducible apply Entries.le_of_sub); rfl)
    | ((with_reducible apply Entries.le_only); simp; done)
    | intro _
    | with_reducible apply Changes.andThen ?_ (State.controlAckTimeout_changes _ _ ) ?_ ?_)

theorem State.rateLockTimeout_changes (s : State) (l : Nat) :
    Changes [.freeN, .ctl, .intake, .perf, .out] (.only [0x0405, 0x0407, 0x0509]) s (State.rateLockTimeout s l) := by
  unfold State.rateLockTimeout
  repeat' ((try with_reducible conv => arg 4; whnf); first
    | with_reducible apply Changes.refl
    | ((with_reducible show Area.sub _ _ = true); rfl)
    | ((with_reducible apply Entries.le_of_sub); rfl)
    | ((with_reducible apply Entries.le_only); simp; done)
    | intro _
    | with_reducible apply Changes.ite
    | with_reducible apply Changes.andThen ?_ (State.rateFailed_changes _ _ ) ?_ ?_
    | split)

theorem execRateLockTimeout_changes (link : Nat) (s : State) {u : State} (h : execRateLockTimeout link s = .next u) :
    Changes [.freeN, .ctl, .intake, .perf, .out] (.only [0x0405, 0x0407, 0x0509]) s u := by
  unfold execRateLockTimeout at h
  try (have h := guardUnit_next h)
  try injection h with h
  subst h
  repeat' ((try with_reducible conv => arg 4; whnf); first
    | with_reducible apply Changes.refl
    | ((with_reducible show Area.sub _ _ = true); rfl)
    | ((with_reducible apply Entries.le_of_sub); rfl)
    | ((with_reducible apply Entries.le_only); simp; done)
    | intro _
    | with_reducible apply Changes.andThen ?_ (State.rateLockTimeout_changes _ _ ) ?_ ?_)

theorem State.linkTestBits_changes (s : State) (l errors : Nat) :
    Changes [] (.only [0x0409]) s (State.linkTestBits s l errors) := by
  unfold State.linkTestBits
  repeat' ((try with_reducible conv => arg 4; whnf); first
    | with_reducible apply Changes.refl
    | ((with_reducible show Area.sub _ _ = true); rfl)
    | ((with_reducible apply Entries.le_of_sub); rfl)
    | ((with_reducible apply Entries.le_only); simp; done)
    | intro _
    | with_reducible apply Changes.ite
    | with_reducible apply Changes.andThen ?_ (State.bump_changes _ _ _ ) ?_ ?_
    | split)

theorem execLinkTestPattern_changes (link errors : Nat) (s : State) {u : State} (h : execLinkTestPattern link errors s = .next u) :
    Changes [] (.only [0x0409]) s u := by
  unfold execLinkTestPattern at h
  try (have h := guardUnit_next h)
  try injection h with h
  subst h
  repeat' ((try with_reducible conv => arg 4; whnf); first
    | with_reducible apply Changes.refl
    | ((with_reducible show Area.sub _ _ = true); rfl)
    | ((with_reducible apply Entries.le_of_sub); rfl)
    | ((with_reducible apply Entries.le_only); simp; done)
    | intro _
    | with_reducible apply Changes.andThen ?_ (State.linkTestBits_changes _ _ _ ) ?_ ?_)

theorem State.streamPacket_changes (s : State) (i : Nat) (p : Packet) :
    Changes [.freeN, .intake, .perf, .out] (.only [0x0405, 0x040B, 0x040C, 0x0509, 0x050A, 0x050B, 0x050C]) s (State.streamPacket s i p) := by
  unfold State.streamPacket
  repeat' ((try with_reducible conv => arg 4; whnf); first
    | with_reducible apply Changes.refl
    | ((with_reducible show Area.sub _ _ = true); rfl)
    | ((with_reducible apply Entries.le_of_sub); rfl)
    | ((with_reducible apply Entries.le_only); simp; done)
    | intro _
    | with_reducible apply Changes.ite
    | with_reducible apply Changes.andThen ?_ (State.setStream_changes _ _ _ ) ?_ ?_
    | with_reducible apply Changes.andThen ?_ (State.takeHeld_changes _ _ _ ) ?_ ?_
    | with_reducible apply Changes.andThen ?_ (State.takePacket_changes _ _ _ ) ?_ ?_
    | split)

theorem execStreamPacket_changes (stream : Nat) (p : Packet) (s : State) {u : State} (h : execStreamPacket stream p s = .next u) :
    Changes [.freeN, .intake, .perf, .out] (.only [0x0405, 0x040B, 0x040C, 0x0509, 0x050A, 0x050B, 0x050C]) s u := by
  unfold execStreamPacket at h
  try (have h := guardUnit_next h)
  try injection h with h
  subst h
  repeat' ((try with_reducible conv => arg 4; whnf); first
    | with_reducible apply Changes.refl
    | ((with_reducible show Area.sub _ _ = true); rfl)
    | ((with_reducible apply Entries.le_of_sub); rfl)
    | ((with_reducible apply Entries.le_only); simp; done)
    | intro _
    | with_reducible apply Changes.andThen ?_ (State.streamPacket_changes _ _ _ ) ?_ ?_)

theorem State.lockGained_changes (s : State) (l : Nat) :
    Changes [.freeN, .ctl, .intake, .perf, .out] (.only [0x0405, 0x0509, 0x050B, 0x050C]) s (State.lockGained s l) := by
  unfold State.lockGained
  repeat' ((try with_reducible conv => arg 4; whnf); first
    | with_reducible apply Changes.refl
    | ((with_reducible show Area.sub _ _ = true); rfl)
    | ((with_reducible apply Entries.le_of_sub); rfl)
    | ((with_reducible apply Entries.le_only); simp; done)
    | intro _
    | with_reducible apply Changes.ite
    | with_reducible apply Changes.andThen ?_ (State.identify_changes _ _ ) ?_ ?_
    | with_reducible apply Changes.andThen ?_ (State.camCtl_changes _ _ _ _ _ ) ?_ ?_
    | with_reducible apply Changes.andThen ?_ (State.resync_changes _ _ _ ) ?_ ?_
    | with_reducible apply Changes.andThen ?_ (State.setCam_changes _ _ _ ) ?_ ?_
    | split)

theorem execWordLockGained_changes (link : Nat) (s : State) {u : State} (h : execWordLockGained link s = .next u) :
    Changes [.freeN, .ctl, .intake, .perf, .out] (.only [0x0405, 0x0509, 0x050B, 0x050C]) s u := by
  unfold execWordLockGained at h
  try (have h := guardUnit_next h)
  try injection h with h
  subst h
  repeat' ((try with_reducible conv => arg 4; whnf); first
    | with_reducible apply Changes.refl
    | ((with_reducible show Area.sub _ _ = true); rfl)
    | ((with_reducible apply Entries.le_of_sub); rfl)
    | ((with_reducible apply Entries.le_only); simp; done)
    | intro _
    | with_reducible apply Changes.andThen ?_ (State.lockGained_changes _ _ ) ?_ ?_)

theorem State.retrainTimeout_changes (s : State) (l : Nat) :
    Changes [.ctl, .intake] (.only [0x0405, 0x0406, 0x040E, 0x0509]) s (State.retrainTimeout s l) := by
  unfold State.retrainTimeout
  repeat' ((try with_reducible conv => arg 4; whnf); first
    | with_reducible apply Changes.refl
    | ((with_reducible show Area.sub _ _ = true); rfl)
    | ((with_reducible apply Entries.le_of_sub); rfl)
    | ((with_reducible apply Entries.le_only); simp; done)
    | intro _
    | with_reducible apply Changes.ite
    | with_reducible apply Changes.andThen ?_ (State.bump_changes _ _ _ ) ?_ ?_
    | with_reducible apply Changes.andThen ?_ (State.setStream_changes _ _ _ ) ?_ ?_
    | with_reducible apply Changes.andThen ?_ (State.toDiscovery_changes _ _ ) ?_ ?_
    | with_reducible apply Changes.andThen ?_ (State.setCam_changes _ _ _ ) ?_ ?_
    | split)

theorem execRetrainTimeout_changes (link : Nat) (s : State) {u : State} (h : execRetrainTimeout link s = .next u) :
    Changes [.ctl, .intake] (.only [0x0405, 0x0406, 0x040E, 0x0509]) s u := by
  unfold execRetrainTimeout at h
  try (have h := guardUnit_next h)
  try injection h with h
  subst h
  repeat' ((try with_reducible conv => arg 4; whnf); first
    | with_reducible apply Changes.refl
    | ((with_reducible show Area.sub _ _ = true); rfl)
    | ((with_reducible apply Entries.le_of_sub); rfl)
    | ((with_reducible apply Entries.le_only); simp; done)
    | intro _
    | with_reducible apply Changes.andThen ?_ (State.retrainTimeout_changes _ _ ) ?_ ?_)

theorem State.bootTimeExpiry_changes (s : State) (l : Nat) :
    Changes [.ctl, .intake] (.only [0x0405, 0x0406]) s (State.bootTimeExpiry s l) := by
  unfold State.bootTimeExpiry
  repeat' ((try with_reducible conv => arg 4; whnf); first
    | with_reducible apply Changes.refl
    | ((with_reducible show Area.sub _ _ = true); rfl)
    | ((with_reducible apply Entries.le_of_sub); rfl)
    | ((with_reducible apply Entries.le_only); simp; done)
    | intro _
    | with_reducible apply Changes.ite
    | with_reducible apply Changes.andThen ?_ (State.toDiscovery_changes _ _ ) ?_ ?_
    | split)

theorem execCameraBootTimeExpiry_changes (link : Nat) (s : State) {u : State} (h : execCameraBootTimeExpiry link s = .next u) :
    Changes [.ctl, .intake] (.only [0x0405, 0x0406]) s u := by
  unfold execCameraBootTimeExpiry at h
  try (have h := guardUnit_next h)
  try injection h with h
  subst h
  repeat' ((try with_reducible conv => arg 4; whnf); first
    | with_reducible apply Changes.refl
    | ((with_reducible show Area.sub _ _ = true); rfl)
    | ((with_reducible apply Entries.le_of_sub); rfl)
    | ((with_reducible apply Entries.le_only); simp; done)
    | intro _
    | with_reducible apply Changes.andThen ?_ (State.bootTimeExpiry_changes _ _ ) ?_ ?_)

theorem State.powerFastTrip_changes (s : State) (l mw : Nat) :
    Changes [.freeN, .ctl, .intake, .host, .faults, .perf, .out] (.only [0x0405, 0x0407, 0x040F, 0x0509, 0x1205, 0x1402, 0x1703, K.recordsUnrouted, K.faultLogOverwritten, K.faultRecordsSuppressed]) s (State.powerFastTrip s l mw) := by
  unfold State.powerFastTrip
  repeat' ((try with_reducible conv => arg 4; whnf); first
    | with_reducible apply Changes.refl
    | ((with_reducible show Area.sub _ _ = true); rfl)
    | ((with_reducible apply Entries.le_of_sub); rfl)
    | ((with_reducible apply Entries.le_only); simp; done)
    | intro _
    | with_reducible apply Changes.ite
    | with_reducible apply Changes.andThen ?_ (State.powerTrip_changes _ _ _ ) ?_ ?_
    | split)

theorem execCameraPowerFastTrip_changes (link mw : Nat) (s : State) {u : State} (h : execCameraPowerFastTrip link mw s = .next u) :
    Changes [.freeN, .ctl, .intake, .host, .faults, .perf, .out] (.only [0x0405, 0x0407, 0x040F, 0x0509, 0x1205, 0x1402, 0x1703, K.recordsUnrouted, K.faultLogOverwritten, K.faultRecordsSuppressed]) s u := by
  unfold execCameraPowerFastTrip at h
  try (have h := guardUnit_next h)
  try injection h with h
  subst h
  repeat' ((try with_reducible conv => arg 4; whnf); first
    | with_reducible apply Changes.refl
    | ((with_reducible show Area.sub _ _ = true); rfl)
    | ((with_reducible apply Entries.le_of_sub); rfl)
    | ((with_reducible apply Entries.le_only); simp; done)
    | intro _
    | with_reducible apply Changes.andThen ?_ (State.powerFastTrip_changes _ _ _ ) ?_ ?_)

theorem execCameraRegWrite_changes (sess : Nat) (s : State) {u : State} (h : execCameraRegWrite sess s = .next u) :
    Changes [.freeN, .ctl, .intake, .perf, .out] (.only [0x0405]) s u := by
  unfold execCameraRegWrite at h
  try (have h := guardUnit_next h)
  try injection h with h
  subst h
  repeat' ((try with_reducible conv => arg 4; whnf); first
    | with_reducible apply Changes.refl
    | ((with_reducible show Area.sub _ _ = true); rfl)
    | ((with_reducible apply Entries.le_of_sub); rfl)
    | ((with_reducible apply Entries.le_only); simp; done)
    | intro _
    | with_reducible apply Changes.andThen ?_ (State.cameraRegCmd_changes _ _ ) ?_ ?_
    | with_reducible apply Changes.trans ?_ (State.runCmd_changes _ _ _ _  ?_ ?_ ?_))

theorem State.loadSense_changes (s : State) (l ohms : Nat) :
    Changes [.intake] (.only [0x0405, 0x0407]) s (State.loadSense s l ohms) := by
  unfold State.loadSense
  repeat' ((try with_reducible conv => arg 4; whnf); first
    | with_reducible apply Changes.refl
    | ((with_reducible show Area.sub _ _ = true); rfl)
    | ((with_reducible apply Entries.le_of_sub); rfl)
    | ((with_reducible apply Entries.le_only); simp; done)
    | intro _
    | with_reducible apply Changes.ite
    | with_reducible apply Changes.andThen ?_ (State.setReg_changes _ _ _ ) ?_ ?_
    | with_reducible apply Changes.andThen ?_ (State.setCam_changes _ _ _ ) ?_ ?_
    | split)

theorem execLoadSenseRetry_changes (link ohms : Nat) (s : State) {u : State} (h : execLoadSenseRetry link ohms s = .next u) :
    Changes [.intake] (.only [0x0405, 0x0407]) s u := by
  unfold execLoadSenseRetry at h
  try (have h := guardUnit_next h)
  try injection h with h
  subst h
  repeat' ((try with_reducible conv => arg 4; whnf); first
    | with_reducible apply Changes.refl
    | ((with_reducible show Area.sub _ _ = true); rfl)
    | ((with_reducible apply Entries.le_of_sub); rfl)
    | ((with_reducible apply Entries.le_only); simp; done)
    | intro _
    | with_reducible apply Changes.andThen ?_ (State.loadSense_changes _ _ _ ) ?_ ?_)

theorem State.eyeScanEnd_changes (s : State) (map : List Byte) (width height : Nat) :
    Changes [.blobs, .ctl, .intake] (.only [K.eyeWidth, K.eyeHeight]) s (State.eyeScanEnd s map width height) := by
  unfold State.eyeScanEnd
  repeat' ((try with_reducible conv => arg 4; whnf); first
    | with_reducible apply Changes.refl
    | ((with_reducible show Area.sub _ _ = true); rfl)
    | ((with_reducible apply Entries.le_of_sub); rfl)
    | ((with_reducible apply Entries.le_only); simp; done)
    | intro _
    | with_reducible apply Changes.ite
    | with_reducible apply Changes.andThen ?_ (State.setReg_changes _ _ _ ) ?_ ?_
    | with_reducible apply Changes.andThen ?_ (State.setBlob_changes _ _ _ ) ?_ ?_
    | with_reducible apply Changes.andThen ?_ (State.cmdSet_changes _ _ _ ) ?_ ?_
    | ((conv => arg 4; arg 24); with_reducible refine Changes.update ?_)
    | split)

theorem execEyeScanDone_changes (map : List Byte) (width height : Nat) (s : State) {u : State} (h : execEyeScanDone map width height s = .next u) :
    Changes [.blobs, .ctl, .intake] (.only [K.eyeWidth, K.eyeHeight]) s u := by
  unfold execEyeScanDone at h
  try (have h := guardUnit_next h)
  try injection h with h
  subst h
  repeat' ((try with_reducible conv => arg 4; whnf); first
    | with_reducible apply Changes.refl
    | ((with_reducible show Area.sub _ _ = true); rfl)
    | ((with_reducible apply Entries.le_of_sub); rfl)
    | ((with_reducible apply Entries.le_only); simp; done)
    | intro _
    | with_reducible apply Changes.andThen ?_ (State.eyeScanEnd_changes _ _ _ _ ) ?_ ?_)

theorem State.drainEnd_changes (s : State) (i : Nat) :
    Changes [.freeN, .ctl, .intake, .perf, .out] (.only [0x0405, 0x0406, 0x0407, 0x0509, 0x050B]) s (State.drainEnd s i) := by
  unfold State.drainEnd
  repeat' ((try with_reducible conv => arg 4; whnf); first
    | with_reducible apply Changes.refl
    | ((with_reducible show Area.sub _ _ = true); rfl)
    | ((with_reducible apply Entries.le_of_sub); rfl)
    | ((with_reducible apply Entries.le_only); simp; done)
    | intro _
    | with_reducible apply Changes.ite
    | with_reducible apply Changes.foldl
    | with_reducible apply Changes.andThen ?_ (State.testLink_changes _ _ ) ?_ ?_
    | with_reducible apply Changes.andThen ?_ (State.idleLink_changes _ _ ) ?_ ?_
    | with_reducible apply Changes.andThen ?_ (State.setStream_changes _ _ _ ) ?_ ?_
    | with_reducible apply Changes.andThen ?_ (State.missIncomplete_changes _ _ _ ) ?_ ?_
    | with_reducible apply Changes.andThen ?_ (State.startFree_changes _ _ ) ?_ ?_
    | with_reducible apply Changes.andThen ?_ (State.sendUplink_changes _ _ _ _ _ _ ) ?_ ?_
    | split)

theorem execStreamDisableDrainEnd_changes (stream : Nat) (s : State) {u : State} (h : execStreamDisableDrainEnd stream s = .next u) :
    Changes [.freeN, .ctl, .intake, .perf, .out] (.only [0x0405, 0x0406, 0x0407, 0x0509, 0x050B]) s u := by
  unfold execStreamDisableDrainEnd at h
  try (have h := guardUnit_next h)
  try injection h with h
  subst h
  repeat' ((try with_reducible conv => arg 4; whnf); first
    | with_reducible apply Changes.refl
    | ((with_reducible show Area.sub _ _ = true); rfl)
    | ((with_reducible apply Entries.le_of_sub); rfl)
    | ((with_reducible apply Entries.le_only); simp; done)
    | intro _
    | with_reducible apply Changes.andThen ?_ (State.drainEnd_changes _ _ ) ?_ ?_)

theorem execControlAcknowledgment_changes (link : Nat) (ack : CtlAck) (s : State) {u : State} (h : execControlAcknowledgment link ack s = .next u) :
    Changes [.freeN, .blobs, .ctl, .intake, .pipe, .host, .perf, .out] (.only [0x0405, 0x0406, 0x0407, 0x040C, 0x0509, 0x0615, 0x0616, 0x1205, K.recordsUnrouted]) s u := by
  unfold execControlAcknowledgment at h
  try (have h := guardUnit_next h)
  try injection h with h
  subst h
  repeat' ((try with_reducible conv => arg 4; whnf); first
    | with_reducible apply Changes.refl
    | ((with_reducible show Area.sub _ _ = true); rfl)
    | ((with_reducible apply Entries.le_of_sub); rfl)
    | ((with_reducible apply Entries.le_only); simp; done)
    | intro _
    | with_reducible apply Changes.andThen ?_ (State.controlAck_changes _ _ _ ) ?_ ?_)

theorem State.connectionTestEnd_changes (s : State) (l errors : Nat) :
    Changes [.freeN, .ctl, .intake, .perf, .out] (.only [0x0405, 0x0407, 0x0509]) s (State.connectionTestEnd s l errors) := by
  unfold State.connectionTestEnd
  repeat' ((try with_reducible conv => arg 4; whnf); first
    | with_reducible apply Changes.refl
    | ((with_reducible show Area.sub _ _ = true); rfl)
    | ((with_reducible apply Entries.le_of_sub); rfl)
    | ((with_reducible apply Entries.le_only); simp; done)
    | intro _
    | with_reducible apply Changes.ite
    | with_reducible apply Changes.andThen ?_ (State.camCtl_changes _ _ _ _ _ ) ?_ ?_
    | with_reducible apply Changes.andThen ?_ (State.rateFailed_changes _ _ ) ?_ ?_
    | with_reducible apply Changes.andThen ?_ (State.setCam_changes _ _ _ ) ?_ ?_
    | split)

theorem execConnectionTestEnd_changes (link errors : Nat) (s : State) {u : State} (h : execConnectionTestEnd link errors s = .next u) :
    Changes [.freeN, .ctl, .intake, .perf, .out] (.only [0x0405, 0x0407, 0x0509]) s u := by
  unfold execConnectionTestEnd at h
  try (have h := guardUnit_next h)
  try injection h with h
  subst h
  repeat' ((try with_reducible conv => arg 4; whnf); first
    | with_reducible apply Changes.refl
    | ((with_reducible show Area.sub _ _ = true); rfl)
    | ((with_reducible apply Entries.le_of_sub); rfl)
    | ((with_reducible apply Entries.le_only); simp; done)
    | intro _
    | with_reducible apply Changes.andThen ?_ (State.connectionTestEnd_changes _ _ _ ) ?_ ?_)

theorem State.lockLost_changes (s : State) (l : Nat) :
    Changes [.freeN, .intake, .perf, .out] (.only [0x0405, 0x040D, 0x040E, 0x0509, 0x050B, 0x050C]) s (State.lockLost s l) := by
  unfold State.lockLost
  repeat' ((try with_reducible conv => arg 4; whnf); first
    | with_reducible apply Changes.refl
    | ((with_reducible show Area.sub _ _ = true); rfl)
    | ((with_reducible apply Entries.le_of_sub); rfl)
    | ((with_reducible apply Entries.le_only); simp; done)
    | intro _
    | with_reducible apply Changes.ite
    | with_reducible apply Changes.andThen ?_ (State.bump_changes _ _ _ ) ?_ ?_
    | with_reducible apply Changes.andThen ?_ (State.resync_changes _ _ _ ) ?_ ?_
    | with_reducible apply Changes.andThen ?_ (State.setCam_changes _ _ _ ) ?_ ?_
    | split)

theorem execWordLockLost_changes (link : Nat) (s : State) {u : State} (h : execWordLockLost link s = .next u) :
    Changes [.freeN, .intake, .perf, .out] (.only [0x0405, 0x040D, 0x040E, 0x0509, 0x050B, 0x050C]) s u := by
  unfold execWordLockLost at h
  try (have h := guardUnit_next h)
  try injection h with h
  subst h
  repeat' ((try with_reducible conv => arg 4; whnf); first
    | with_reducible apply Changes.refl
    | ((with_reducible show Area.sub _ _ = true); rfl)
    | ((with_reducible apply Entries.le_of_sub); rfl)
    | ((with_reducible apply Entries.le_only); simp; done)
    | intro _
    | with_reducible apply Changes.andThen ?_ (State.lockLost_changes _ _ ) ?_ ?_)

theorem State.eventPacket_changes (s : State) (i : Nat) (e : CamEvent) :
    Changes [.intake, .host, .perf, .out] (.only [0x040C, 0x0509, 0x1205, K.recordsUnrouted]) s (State.eventPacket s i e) := by
  unfold State.eventPacket
  repeat' ((try with_reducible conv => arg 4; whnf); first
    | with_reducible apply Changes.refl
    | ((with_reducible show Area.sub _ _ = true); rfl)
    | ((with_reducible apply Entries.le_of_sub); rfl)
    | ((with_reducible apply Entries.le_only); simp; done)
    | intro _
    | with_reducible apply Changes.ite
    | with_reducible apply Changes.andThen ?_ (State.bump_changes _ _ _ ) ?_ ?_
    | with_reducible apply Changes.andThen ?_ (State.setStream_changes _ _ _ ) ?_ ?_
    | with_reducible apply Changes.andThen ?_ (State.intakeRec_changes _ _ _ _ ) ?_ ?_
    | split)

theorem execEventPacket_changes (stream : Nat) (e : CamEvent) (s : State) {u : State} (h : execEventPacket stream e s = .next u) :
    Changes [.intake, .host, .perf, .out] (.only [0x040C, 0x0509, 0x1205, K.recordsUnrouted]) s u := by
  unfold execEventPacket at h
  try (have h := guardUnit_next h)
  try injection h with h
  subst h
  repeat' ((try with_reducible conv => arg 4; whnf); first
    | with_reducible apply Changes.refl
    | ((with_reducible show Area.sub _ _ = true); rfl)
    | ((with_reducible apply Entries.le_of_sub); rfl)
    | ((with_reducible apply Entries.le_only); simp; done)
    | intro _
    | with_reducible apply Changes.andThen ?_ (State.eventPacket_changes _ _ _ ) ?_ ?_)

theorem State.softStartDone_changes (s : State) (l : Nat) :
    Changes [.intake] (.only [0x0405]) s (State.softStartDone s l) := by
  unfold State.softStartDone
  repeat' ((try with_reducible conv => arg 4; whnf); first
    | with_reducible apply Changes.refl
    | ((with_reducible show Area.sub _ _ = true); rfl)
    | ((with_reducible apply Entries.le_of_sub); rfl)
    | ((with_reducible apply Entries.le_only); simp; done)
    | intro _
    | with_reducible apply Changes.ite
    | with_reducible apply Changes.andThen ?_ (State.setCam_changes _ _ _ ) ?_ ?_
    | split)

theorem execSoftStartDone_changes (link : Nat) (s : State) {u : State} (h : execSoftStartDone link s = .next u) :
    Changes [.intake] (.only [0x0405]) s u := by
  unfold execSoftStartDone at h
  try (have h := guardUnit_next h)
  try injection h with h
  subst h
  repeat' ((try with_reducible conv => arg 4; whnf); first
    | with_reducible apply Changes.refl
    | ((with_reducible show Area.sub _ _ = true); rfl)
    | ((with_reducible apply Entries.le_of_sub); rfl)
    | ((with_reducible apply Entries.le_only); simp; done)
    | intro _
    | with_reducible apply Changes.andThen ?_ (State.softStartDone_changes _ _ ) ?_ ?_)

theorem execEyeScan_changes (sess link : Nat) (s : State) {u : State} (h : execEyeScan sess link s = .next u) :
    Changes [.ctl, .intake, .out] (.only []) s u := by
  unfold execEyeScan at h
  try (have h := guardUnit_next h)
  try injection h with h
  subst h
  repeat' ((try with_reducible conv => arg 4; whnf); first
    | with_reducible apply Changes.refl
    | ((with_reducible show Area.sub _ _ = true); rfl)
    | ((with_reducible apply Entries.le_of_sub); rfl)
    | ((with_reducible apply Entries.le_only); simp; done)
    | intro _
    | with_reducible apply Changes.andThen ?_ (State.eyeScanCmd_changes _ _ ) ?_ ?_
    | with_reducible apply Changes.trans ?_ (State.runCmd_changes _ _ _ _  ?_ ?_ ?_))

theorem State.powerOverload_changes (s : State) (l mw : Nat) :
    Changes [.freeN, .ctl, .intake, .host, .faults, .perf, .out] (.only [0x0405, 0x0407, 0x040F, 0x0509, 0x1205, 0x1402, 0x1703, K.recordsUnrouted, K.faultLogOverwritten, K.faultRecordsSuppressed]) s (State.powerOverload s l mw) := by
  unfold State.powerOverload
  repeat' ((try with_reducible conv => arg 4; whnf); first
    | with_reducible apply Changes.refl
    | ((with_reducible show Area.sub _ _ = true); rfl)
    | ((with_reducible apply Entries.le_of_sub); rfl)
    | ((with_reducible apply Entries.le_only); simp; done)
    | intro _
    | with_reducible apply Changes.ite
    | with_reducible apply Changes.andThen ?_ (State.powerTrip_changes _ _ _ ) ?_ ?_
    | split)

theorem execCameraPowerOverload_changes (link mw : Nat) (s : State) {u : State} (h : execCameraPowerOverload link mw s = .next u) :
    Changes [.freeN, .ctl, .intake, .host, .faults, .perf, .out] (.only [0x0405, 0x0407, 0x040F, 0x0509, 0x1205, 0x1402, 0x1703, K.recordsUnrouted, K.faultLogOverwritten, K.faultRecordsSuppressed]) s u := by
  unfold execCameraPowerOverload at h
  try (have h := guardUnit_next h)
  try injection h with h
  subst h
  repeat' ((try with_reducible conv => arg 4; whnf); first
    | with_reducible apply Changes.refl
    | ((with_reducible show Area.sub _ _ = true); rfl)
    | ((with_reducible apply Entries.le_of_sub); rfl)
    | ((with_reducible apply Entries.le_only); simp; done)
    | intro _
    | with_reducible apply Changes.andThen ?_ (State.powerOverload_changes _ _ _ ) ?_ ?_)

theorem execStreamRestart_changes (sess stream : Nat) (s : State) {u : State} (h : execStreamRestart sess stream s = .next u) :
    Changes [.ctl, .intake, .out] (.only [0x0405, 0x0406, 0x0407, 0x0509]) s u := by
  unfold execStreamRestart at h
  try (have h := guardUnit_next h)
  try injection h with h
  subst h
  repeat' ((try with_reducible conv => arg 4; whnf); first
    | with_reducible apply Changes.refl
    | ((with_reducible show Area.sub _ _ = true); rfl)
    | ((with_reducible apply Entries.le_of_sub); rfl)
    | ((with_reducible apply Entries.le_only); simp; done)
    | intro _
    | with_reducible apply Changes.andThen ?_ (State.streamRestartCmd_changes _ _ ) ?_ ?_
    | with_reducible apply Changes.trans ?_ (State.runCmd_changes _ _ _ _  ?_ ?_ ?_))

theorem State.heartbeatLate_changes (s : State) (i : Nat) :
    Changes [.intake, .host, .perf, .out] (.only [0x0509, 0x0510, 0x1205, K.recordsUnrouted]) s (State.heartbeatLate s i) := by
  unfold State.heartbeatLate
  repeat' ((try with_reducible conv => arg 4; whnf); first
    | with_reducible apply Changes.refl
    | ((with_reducible show Area.sub _ _ = true); rfl)
    | ((with_reducible apply Entries.le_of_sub); rfl)
    | ((with_reducible apply Entries.le_only); simp; done)
    | intro _
    | with_reducible apply Changes.ite
    | with_reducible apply Changes.andThen ?_ (State.bump_changes _ _ _ ) ?_ ?_
    | with_reducible apply Changes.andThen ?_ (State.setStream_changes _ _ _ ) ?_ ?_
    | with_reducible apply Changes.andThen ?_ (State.intakeRec_changes _ _ _ _ ) ?_ ?_
    | split)

theorem execHeartbeatTimeout_changes (stream : Nat) (s : State) {u : State} (h : execHeartbeatTimeout stream s = .next u) :
    Changes [.intake, .host, .perf, .out] (.only [0x0509, 0x0510, 0x1205, K.recordsUnrouted]) s u := by
  unfold execHeartbeatTimeout at h
  try (have h := guardUnit_next h)
  try injection h with h
  subst h
  repeat' ((try with_reducible conv => arg 4; whnf); first
    | with_reducible apply Changes.refl
    | ((with_reducible show Area.sub _ _ = true); rfl)
    | ((with_reducible apply Entries.le_of_sub); rfl)
    | ((with_reducible apply Entries.le_only); simp; done)
    | intro _
    | with_reducible apply Changes.andThen ?_ (State.heartbeatLate_changes _ _ ) ?_ ?_)

theorem execUnsupportedPacket_changes (link : Nat) (s : State) {u : State} (h : execUnsupportedPacket link s = .next u) :
    Changes [] (.only [0x040B]) s u := by
  unfold execUnsupportedPacket at h
  try (have h := guardUnit_next h)
  try injection h with h
  subst h
  repeat' ((try with_reducible conv => arg 4; whnf); first
    | with_reducible apply Changes.refl
    | ((with_reducible show Area.sub _ _ = true); rfl)
    | ((with_reducible apply Entries.le_of_sub); rfl)
    | ((with_reducible apply Entries.le_only); simp; done)
    | intro _
    | with_reducible apply Changes.andThen ?_ (State.bump_changes _ _ _ ) ?_ ?_)

theorem State.triggerPacket_changes (s : State) (i : Nat) :
    Changes [.freeN, .intake, .perf, .out] (.only [0x0405, 0x0509, 0x050B, 0x050C]) s (State.triggerPacket s i) := by
  unfold State.triggerPacket
  repeat' ((try with_reducible conv => arg 4; whnf); first
    | with_reducible apply Changes.refl
    | ((with_reducible show Area.sub _ _ = true); rfl)
    | ((with_reducible apply Entries.le_of_sub); rfl)
    | ((with_reducible apply Entries.le_only); simp; done)
    | intro _
    | with_reducible apply Changes.ite
    | with_reducible apply Changes.andThen ?_ (State.setStream_changes _ _ _ ) ?_ ?_
    | with_reducible apply Changes.andThen ?_ (State.setLine_changes _ _ _ _ ) ?_ ?_
    | with_reducible apply Changes.andThen ?_ (State.portBytes_changes _ _ _ _ ) ?_ ?_
    | with_reducible apply Changes.andThen ?_ (State.resync_changes _ _ _ ) ?_ ?_
    | with_reducible apply Changes.andThen ?_ (State.send_changes _ _ ) ?_ ?_
    | split)

theorem execTriggerPacket_changes (stream : Nat) (s : State) {u : State} (h : execTriggerPacket stream s = .next u) :
    Changes [.freeN, .intake, .perf, .out] (.only [0x0405, 0x0509, 0x050B, 0x050C]) s u := by
  unfold execTriggerPacket at h
  try (have h := guardUnit_next h)
  try injection h with h
  subst h
  repeat' ((try with_reducible conv => arg 4; whnf); first
    | with_reducible apply Changes.refl
    | ((with_reducible show Area.sub _ _ = true); rfl)
    | ((with_reducible apply Entries.le_of_sub); rfl)
    | ((with_reducible apply Entries.le_only); simp; done)
    | intro _
    | with_reducible apply Changes.andThen ?_ (State.triggerPacket_changes _ _ ) ?_ ?_)

end Sys2Proof.Machine
end

