-- ==== Sys2Proof/Laws/FrameNetwork.lean ====
section
/-! SUPPORT. What each operation of Machine/Network.lean changes and what it leaves unchanged. -/

-- one theorem after another: see NOTES.md
set_option Elab.async false

namespace Sys2Proof.Machine

theorem State.onEth_changes {G : List Area} {E : Entries} {s t : State} {p : Nat} {f : State → State}
    (hf : ∀ s, Changes G E s (f s)) (_ : Area.sub [] G = true) (_ : Entries.le (.only []) E)
    (h : State.onEth s p f = .next t) : Changes G E s t := by
  have h := guardUnit_next h
  subst h
  exact Changes.ite (fun _ => hf s) (fun _ => Changes.refl)

theorem State.setEth_changes (s : State) (p : Nat) (x : EthPort) :
    Changes [.net] (.only []) s (State.setEth s p x) := by
  unfold State.setEth
  repeat' ((try with_reducible conv => arg 4; whnf); first
    | with_reducible apply Changes.refl
    | ((conv => arg 4; arg 24); with_reducible refine Changes.update ?_))

theorem State.frameIn_changes (s : State) (p n : Nat) :
    Changes [.perf] (.only [0x1306]) s (State.frameIn s p n) := by
  unfold State.frameIn
  repeat' ((try with_reducible conv => arg 4; whnf); first
    | with_reducible apply Changes.refl
    | ((with_reducible show Area.sub _ _ = true); rfl)
    | ((with_reducible apply Entries.le_of_sub); rfl)
    | ((with_reducible apply Entries.le_only); simp; done)
    | intro _
    | with_reducible apply Changes.andThen ?_ (State.bump_changes _ _ _ ) ?_ ?_
    | with_reducible apply Changes.andThen ?_ (State.portBytes_changes _ _ _ _ ) ?_ ?_)

theorem State.frameDrop_changes (s : State) (p : Nat) :
    Changes [] (.only [0x1306]) s (State.frameDrop s p) := by
  unfold State.frameDrop
  repeat' ((try with_reducible conv => arg 4; whnf); first
    | with_reducible apply Changes.refl
    | ((with_reducible show Area.sub _ _ = true); rfl)
    | ((with_reducible apply Entries.le_of_sub); rfl)
    | ((with_reducible apply Entries.le_only); simp; done)
    | intro _
    | with_reducible apply Changes.andThen ?_ (State.bump_changes _ _ _ ) ?_ ?_)

theorem State.arpReply_changes (s : State) (p : Nat) (h : ArpHost) (target : Nat) :
    Changes [.net, .perf] (.only [0x1306]) s (State.arpReply s p h target) := by
  unfold State.arpReply
  repeat' ((try with_reducible conv => arg 4; whnf); first
    | with_reducible apply Changes.refl
    | ((with_reducible show Area.sub _ _ = true); rfl)
    | ((with_reducible apply Entries.le_of_sub); rfl)
    | ((with_reducible apply Entries.le_only); simp; done)
    | intro _
    | with_reducible apply Changes.ite
    | with_reducible apply Changes.andThen ?_ (State.setEth_changes _ _ _ ) ?_ ?_
    | with_reducible apply Changes.andThen ?_ (State.frameIn_changes _ _ _ ) ?_ ?_
    | with_reducible apply Changes.andThen ?_ (State.frameDrop_changes _ _ ) ?_ ?_
    | split)

theorem execArpReply_changes (eth : Nat) (sender : ArpHost) (target : Nat) (s : State) {u : State} (h : execArpReply eth sender target s = .next u) :
    Changes [.net, .perf] (.only [0x1306]) s u := by
  unfold execArpReply at h
  refine State.onEth_changes ?_ ?_ ?_ h
  repeat' ((try with_reducible conv => arg 4; whnf); first
    | with_reducible apply Changes.refl
    | ((with_reducible show Area.sub _ _ = true); rfl)
    | ((with_reducible apply Entries.le_of_sub); rfl)
    | ((with_reducible apply Entries.le_only); simp; done)
    | intro _
    | with_reducible apply Changes.andThen ?_ (State.arpReply_changes _ _ _ _ ) ?_ ?_)

theorem State.takeTrims_changes (s : State) (p rate : Nat) :
    Changes [] (.only [0x1311]) s (State.takeTrims s p rate) := by
  unfold State.takeTrims
  repeat' ((try with_reducible conv => arg 4; whnf); first
    | with_reducible apply Changes.refl
    | ((with_reducible show Area.sub _ _ = true); rfl)
    | ((with_reducible apply Entries.le_of_sub); rfl)
    | ((with_reducible apply Entries.le_only); simp; done)
    | intro _
    | with_reducible apply Changes.andThen ?_ (State.setReg_changes _ _ _ ) ?_ ?_)

theorem State.portLink_changes (s : State) (p : Nat) (up : Bool) (rate : Nat) :
    Changes [] (.only [0x1303, 0x1306, 0x1311]) s (State.portLink s p up rate) := by
  unfold State.portLink
  repeat' ((try with_reducible conv => arg 4; whnf); first
    | with_reducible apply Changes.refl
    | ((with_reducible show Area.sub _ _ = true); rfl)
    | ((with_reducible apply Entries.le_of_sub); rfl)
    | ((with_reducible apply Entries.le_only); simp; done)
    | intro _
    | with_reducible apply Changes.ite
    | with_reducible apply Changes.andThen ?_ (State.setReg_changes _ _ _ ) ?_ ?_
    | with_reducible apply Changes.andThen ?_ (State.bump_changes _ _ _ ) ?_ ?_
    | with_reducible apply Changes.andThen ?_ (State.takeTrims_changes _ _ _ ) ?_ ?_
    | split)

theorem State.setDomain_changes (s : State) (d : Nat) (x : Domain) :
    Changes [.net] (.only []) s (State.setDomain s d x) := by
  unfold State.setDomain
  repeat' ((try with_reducible conv => arg 4; whnf); first
    | with_reducible apply Changes.refl
    | ((conv => arg 4; arg 24); with_reducible refine Changes.update ?_))

theorem State.formWord_changes (s : State) (w : CorrWord) :
    Changes [.net] (.only []) s (State.formWord s w) := by
  unfold State.formWord
  repeat' ((try with_reducible conv => arg 4; whnf); first
    | with_reducible apply Changes.refl
    | ((conv => arg 4; arg 24); with_reducible refine Changes.update ?_))

theorem State.followDomain_changes (s : State) (d : Nat) :
    Changes [.net] (.only []) s (State.followDomain s d) := by
  unfold State.followDomain
  repeat' ((try with_reducible conv => arg 4; whnf); first
    | with_reducible apply Changes.refl
    | ((with_reducible show Area.sub _ _ = true); rfl)
    | ((with_reducible apply Entries.le_of_sub); rfl)
    | ((with_reducible apply Entries.le_only); simp; done)
    | intro _
    | with_reducible apply Changes.andThen ?_ (State.formWord_changes _ _ ) ?_ ?_
    | split)

theorem State.timeRec_changes (s : State) (cause : Nat) (delta : Int) :
    Changes [.host, .perf, .out] (.only [0x1205, K.recordsUnrouted]) s (State.timeRec s cause delta) := by
  unfold State.timeRec
  repeat' ((try with_reducible conv => arg 4; whnf); first
    | with_reducible apply Changes.refl
    | ((with_reducible show Area.sub _ _ = true); rfl)
    | ((with_reducible apply Entries.le_of_sub); rfl)
    | ((with_reducible apply Entries.le_only); simp; done)
    | intro _
    | with_reducible apply Changes.andThen ?_ (State.emit_changes _ _ ) ?_ ?_)

theorem State.switchTo_changes (s : State) (d cause : Nat) :
    Changes [.host, .net, .perf, .out] (.only [0x1205, K.recordsUnrouted, K.domainSwitches, K.timeSteps]) s (State.switchTo s d cause) := by
  unfold State.switchTo
  repeat' ((try with_reducible conv => arg 4; whnf); first
    | with_reducible apply Changes.refl
    | ((with_reducible show Area.sub _ _ = true); rfl)
    | ((with_reducible apply Entries.le_of_sub); rfl)
    | ((with_reducible apply Entries.le_only); simp; done)
    | intro _
    | with_reducible apply Changes.ite
    | with_reducible apply Changes.andThen ?_ (State.followDomain_changes _ _ ) ?_ ?_
    | with_reducible apply Changes.andThen ?_ (State.bump_changes _ _ _ ) ?_ ?_
    | with_reducible apply Changes.andThen ?_ (State.timeRec_changes _ _ _ ) ?_ ?_
    | ((conv => arg 4; arg 24); with_reducible refine Changes.update ?_)
    | split)

theorem State.chooseTime_changes (s : State) :
    Changes [.freeN, .host, .net, .perf, .out] (.only [0x1205, K.recordsUnrouted, K.domainSwitches, K.timeSteps, K.timeHoldoverEntries]) s (State.chooseTime s) := by
  unfold State.chooseTime
  repeat' ((try with_reducible conv => arg 4; whnf); first
    | with_reducible apply Changes.refl
    | ((with_reducible show Area.sub _ _ = true); rfl)
    | ((with_reducible apply Entries.le_of_sub); rfl)
    | ((with_reducible apply Entries.le_only); simp; done)
    | intro _
    | with_reducible apply Changes.ite
    | with_reducible apply Changes.andThen ?_ (State.followDomain_changes _ _ ) ?_ ?_
    | with_reducible apply Changes.andThen ?_ (State.bump_changes _ _ _ ) ?_ ?_
    | with_reducible apply Changes.andThen ?_ (State.timeRec_changes _ _ _ ) ?_ ?_
    | with_reducible apply Changes.andThen ?_ (State.switchTo_changes _ _ _ ) ?_ ?_
    | with_reducible apply Changes.andThen ?_ (State.takeFree_changes _ ) ?_ ?_
    | ((conv => arg 4; arg 24); with_reducible refine Changes.update ?_)
    | split)

theorem State.unlock_changes (s : State) (d : Nat) (st : DomSt) :
    Changes [.freeN, .host, .net, .perf, .out] (.only [0x1205, K.recordsUnrouted, K.domainSwitches, K.timeSteps, K.timeHoldoverEntries]) s (State.unlock s d st) := by
  unfold State.unlock
  repeat' ((try with_reducible conv => arg 4; whnf); first
    | with_reducible apply Changes.refl
    | ((with_reducible show Area.sub _ _ = true); rfl)
    | ((with_reducible apply Entries.le_of_sub); rfl)
    | ((with_reducible apply Entries.le_only); simp; done)
    | intro _
    | with_reducible apply Changes.ite
    | with_reducible apply Changes.andThen ?_ (State.setDomain_changes _ _ _ ) ?_ ?_
    | with_reducible apply Changes.andThen ?_ (State.followDomain_changes _ _ ) ?_ ?_
    | with_reducible apply Changes.andThen ?_ (State.chooseTime_changes _ ) ?_ ?_
    | split)

theorem State.ptpIgnored_changes (s : State) (p : Nat) :
    Changes [] (.only [0x1315]) s (State.ptpIgnored s p) := by
  unfold State.ptpIgnored
  repeat' ((try with_reducible conv => arg 4; whnf); first
    | with_reducible apply Changes.refl
    | ((with_reducible show Area.sub _ _ = true); rfl)
    | ((with_reducible apply Entries.le_of_sub); rfl)
    | ((with_reducible apply Entries.le_only); simp; done)
    | intro _
    | with_reducible apply Changes.andThen ?_ (State.bump_changes _ _ _ ) ?_ ?_)

theorem State.servo_changes (s : State) (d : Nat) :
    Changes [.freeN, .net] (.only []) s (State.servo s d) := by
  unfold State.servo
  repeat' ((try with_reducible conv => arg 4; whnf); first
    | with_reducible apply Changes.refl
    | ((with_reducible show Area.sub _ _ = true); rfl)
    | ((with_reducible apply Entries.le_of_sub); rfl)
    | ((with_reducible apply Entries.le_only); simp; done)
    | intro _
    | with_reducible apply Changes.ite
    | with_reducible apply Changes.andThen ?_ (State.setDomain_changes _ _ _ ) ?_ ?_
    | with_reducible apply Changes.andThen ?_ (State.followDomain_changes _ _ ) ?_ ?_
    | with_reducible apply Changes.andThen ?_ (State.takeFree_changes _ ) ?_ ?_
    | split)

theorem State.stepDomain_changes (s : State) (d : Nat) (off : Int) :
    Changes [.host, .net, .perf, .out] (.only [0x1205, K.recordsUnrouted, K.timeSteps]) s (State.stepDomain s d off) := by
  unfold State.stepDomain
  repeat' ((try with_reducible conv => arg 4; whnf); first
    | with_reducible apply Changes.refl
    | ((with_reducible show Area.sub _ _ = true); rfl)
    | ((with_reducible apply Entries.le_of_sub); rfl)
    | ((with_reducible apply Entries.le_only); simp; done)
    | intro _
    | with_reducible apply Changes.ite
    | with_reducible apply Changes.andThen ?_ (State.setDomain_changes _ _ _ ) ?_ ?_
    | with_reducible apply Changes.andThen ?_ (State.followDomain_changes _ _ ) ?_ ?_
    | with_reducible apply Changes.andThen ?_ (State.bump_changes _ _ _ ) ?_ ?_
    | with_reducible apply Changes.andThen ?_ (State.timeRec_changes _ _ _ ) ?_ ?_
    | split)

theorem State.syncDone_changes (s : State) (d p : Nat) :
    Changes [.freeN, .host, .net, .perf, .out] (.only [0x1205, 0x1313, K.recordsUnrouted, K.domainSwitches, K.timeSteps, K.timeHoldoverEntries]) s (State.syncDone s d p) := by
  unfold State.syncDone
  repeat' ((try with_reducible conv => arg 4; whnf); first
    | with_reducible apply Changes.refl
    | ((with_reducible show Area.sub _ _ = true); rfl)
    | ((with_reducible apply Entries.le_of_sub); rfl)
    | ((with_reducible apply Entries.le_only); simp; done)
    | intro _
    | with_reducible apply Changes.ite
    | with_reducible apply Changes.andThen ?_ (State.setDomain_changes _ _ _ ) ?_ ?_
    | with_reducible apply Changes.andThen ?_ (State.setReg_changes _ _ _ ) ?_ ?_
    | with_reducible apply Changes.andThen ?_ (State.servo_changes _ _ ) ?_ ?_
    | with_reducible apply Changes.andThen ?_ (State.unlock_changes _ _ _ ) ?_ ?_
    | with_reducible apply Changes.andThen ?_ (State.stepDomain_changes _ _ _ ) ?_ ?_
    | with_reducible apply Changes.andThen ?_ (State.chooseTime_changes _ ) ?_ ?_
    | split)

theorem State.takeSync_changes (s : State) (d : Nat) (m : PtpMsg) :
    Changes [.freeN, .host, .net, .perf, .out] (.only [0x1205, 0x1313, K.recordsUnrouted, K.domainSwitches, K.timeSteps, K.timeHoldoverEntries]) s (State.takeSync s d m) := by
  unfold State.takeSync
  repeat' ((try with_reducible conv => arg 4; whnf); first
    | with_reducible apply Changes.refl
    | ((with_reducible show Area.sub _ _ = true); rfl)
    | ((with_reducible apply Entries.le_of_sub); rfl)
    | ((with_reducible apply Entries.le_only); simp; done)
    | intro _
    | with_reducible apply Changes.ite
    | with_reducible apply Changes.ite_snd
    | with_reducible apply Changes.ite_fst
    | with_reducible apply Changes.ite_snd_snd
    | with_reducible apply Changes.foldl
    | with_reducible apply Changes.foldl_snd
    | with_reducible apply Changes.foldl_fst
    | with_reducible apply Changes.andThen ?_ (State.setDomain_changes _ _ _ ) ?_ ?_
    | with_reducible apply Changes.andThen ?_ (State.syncDone_changes _ _ _ ) ?_ ?_
    | ((conv => arg 4; arg 24); with_reducible refine Changes.update ?_)
    | split
    | with_reducible refine Changes.of_snd (by assumption) ?_)

theorem State.onPtp_changes {G : List Area} {E : Entries} {s t : State} {p q : Nat} {f : State → State}
    (hf : ∀ s, Changes G E s (f s)) (hG : Area.sub [.freeN, .perf] G = true) (hE : Entries.le (.only [0x1306]) E)
    (h : State.onPtp s p q f = .next t) : Changes G E s t := by
  refine State.onEth_changes ?_ rfl (Entries.le_trans (Entries.le_of_sub rfl) hE) h
  intro s
  refine Changes.ite (fun _ => ?_) fun _ =>
    (State.frameDrop_changes _ _).mono (Area.sub_trans rfl hG) (Entries.le_trans (Entries.le_of_sub rfl) hE)
  with_reducible conv => arg 4; whnf
  exact (((State.takeFree_changes s).mono (Area.sub_trans rfl hG) (Entries.le_trans (Entries.le_of_sub rfl) hE)).andThen
    (State.frameIn_changes _ _ _) (Area.sub_trans rfl hG) (Entries.le_trans (Entries.le_of_sub rfl) hE)).trans (hf _)

theorem execSync_changes (m : PtpMsg) (s : State) {u : State} (h : execSync m s = .next u) :
    Changes [.freeN, .host, .net, .perf, .out] (.only [0x1205, 0x1306, 0x1313, 0x1315, K.recordsUnrouted, K.domainSwitches, K.timeSteps, K.timeHoldoverEntries]) s u := by
  unfold execSync at h
  refine State.onPtp_changes ?_ ?_ ?_ h
  repeat' ((try with_reducible conv => arg 4; whnf); first
    | with_reducible apply Changes.refl
    | ((with_reducible show Area.sub _ _ = true); rfl)
    | ((with_reducible apply Entries.le_of_sub); rfl)
    | ((with_reducible apply Entries.le_only); simp; done)
    | intro _
    | with_reducible apply Changes.ite
    | with_reducible apply Changes.ite_snd
    | with_reducible apply Changes.ite_fst
    | with_reducible apply Changes.ite_snd_snd
    | with_reducible apply Changes.foldl
    | with_reducible apply Changes.foldl_snd
    | with_reducible apply Changes.foldl_fst
    | with_reducible apply Changes.andThen ?_ (State.ptpIgnored_changes _ _ ) ?_ ?_
    | with_reducible apply Changes.andThen ?_ (State.takeSync_changes _ _ _ ) ?_ ?_
    | ((conv => arg 4; arg 24); with_reducible refine Changes.update ?_)
    | split
    | with_reducible refine Changes.of_snd (by assumption) ?_)

theorem State.holdLimit_changes (s : State) :
    Changes [.host, .net, .perf, .out] (.only [0x1205, K.recordsUnrouted]) s (State.holdLimit s) := by
  unfold State.holdLimit
  repeat' ((try with_reducible conv => arg 4; whnf); first
    | with_reducible apply Changes.refl
    | ((with_reducible show Area.sub _ _ = true); rfl)
    | ((with_reducible apply Entries.le_of_sub); rfl)
    | ((with_reducible apply Entries.le_only); simp; done)
    | intro _
    | with_reducible apply Changes.ite
    | with_reducible apply Changes.andThen ?_ (State.timeRec_changes _ _ _ ) ?_ ?_
    | ((conv => arg 4; arg 24); with_reducible refine Changes.update ?_)
    | split)

theorem execHoldoverLimitExpiry_changes (s : State) {u : State} (h : execHoldoverLimitExpiry s = .next u) :
    Changes [.host, .net, .perf, .out] (.only [0x1205, K.recordsUnrouted]) s u := by
  unfold execHoldoverLimitExpiry at h
  try (have h := guardUnit_next h)
  try injection h with h
  subst h
  repeat' ((try with_reducible conv => arg 4; whnf); first
    | with_reducible apply Changes.refl
    | ((with_reducible show Area.sub _ _ = true); rfl)
    | ((with_reducible apply Entries.le_of_sub); rfl)
    | ((with_reducible apply Entries.le_only); simp; done)
    | intro _
    | with_reducible apply Changes.andThen ?_ (State.holdLimit_changes _ ) ?_ ?_)

theorem State.halve_changes (s : State) (x : Int) :
    Changes [.freeN] (.only []) s (State.halve s x).2 := by
  unfold State.halve
  repeat' ((try with_reducible conv => arg 4; arg 1; whnf); first
    | with_reducible apply Changes.refl
    | dsimp only
    | ((with_reducible show Area.sub _ _ = true); rfl)
    | ((with_reducible apply Entries.le_of_sub); rfl)
    | ((with_reducible apply Entries.le_only); simp; done)
    | intro _
    | with_reducible apply Changes.andThen ?_ (State.takeFree_changes _ ) ?_ ?_
    | split)

theorem State.linkDelay_changes (s : State) (p : Nat) (turn : Int) :
    Changes [.freeN, .net] (.only []) s (State.linkDelay s p turn) := by
  unfold State.linkDelay
  repeat' ((try with_reducible conv => arg 4; whnf); first
    | with_reducible apply Changes.refl
    | ((with_reducible show Area.sub _ _ = true); rfl)
    | ((with_reducible apply Entries.le_of_sub); rfl)
    | ((with_reducible apply Entries.le_only); simp; done)
    | intro _
    | with_reducible apply Changes.andThen ?_ (State.setEth_changes _ _ _ ) ?_ ?_
    | with_reducible apply Changes.andThen ?_ (State.halve_changes _ _ ) ?_ ?_
    | split)

theorem State.pdelayFollow_changes (s : State) (m : PtpMsg) :
    Changes [.freeN, .net] (.only [0x1315]) s (State.pdelayFollow s m) := by
  unfold State.pdelayFollow
  repeat' ((try with_reducible conv => arg 4; whnf); first
    | with_reducible apply Changes.refl
    | ((with_reducible show Area.sub _ _ = true); rfl)
    | ((with_reducible apply Entries.le_of_sub); rfl)
    | ((with_reducible apply Entries.le_only); simp; done)
    | intro _
    | with_reducible apply Changes.ite
    | with_reducible apply Changes.ite_snd
    | with_reducible apply Changes.ite_fst
    | with_reducible apply Changes.ite_snd_snd
    | with_reducible apply Changes.foldl
    | with_reducible apply Changes.foldl_snd
    | with_reducible apply Changes.foldl_fst
    | with_reducible apply Changes.andThen ?_ (State.linkDelay_changes _ _ _ ) ?_ ?_
    | with_reducible apply Changes.andThen ?_ (State.ptpIgnored_changes _ _ ) ?_ ?_
    | with_reducible apply Changes.andThen ?_ (State.setEth_changes _ _ _ ) ?_ ?_
    | ((conv => arg 4; arg 24); with_reducible refine Changes.update ?_)
    | split
    | with_reducible refine Changes.of_snd (by assumption) ?_)

theorem execPdelayRespFollowUp_changes (m : PtpMsg) (s : State) {u : State} (h : execPdelayRespFollowUp m s = .next u) :
    Changes [.freeN, .net, .perf] (.only [0x1306, 0x1315]) s u := by
  unfold execPdelayRespFollowUp at h
  refine State.onPtp_changes ?_ ?_ ?_ h
  repeat' ((try with_reducible conv => arg 4; whnf); first
    | with_reducible apply Changes.refl
    | ((with_reducible show Area.sub _ _ = true); rfl)
    | ((with_reducible apply Entries.le_of_sub); rfl)
    | ((with_reducible apply Entries.le_only); simp; done)
    | intro _
    | with_reducible apply Changes.ite
    | with_reducible apply Changes.ite_snd
    | with_reducible apply Changes.ite_fst
    | with_reducible apply Changes.ite_snd_snd
    | with_reducible apply Changes.foldl
    | with_reducible apply Changes.foldl_snd
    | with_reducible apply Changes.foldl_fst
    | with_reducible apply Changes.andThen ?_ (State.pdelayFollow_changes _ _ ) ?_ ?_
    | ((conv => arg 4; arg 24); with_reducible refine Changes.update ?_)
    | split
    | with_reducible refine Changes.of_snd (by assumption) ?_)

theorem State.sendPtp_changes (s : State) (p kind seq : Nat) (t : Int) :
    Changes [.freeN, .perf, .out] (.only []) s (State.sendPtp s p kind seq t) := by
  unfold State.sendPtp
  repeat' ((try with_reducible conv => arg 4; whnf); first
    | with_reducible apply Changes.refl
    | ((with_reducible show Area.sub _ _ = true); rfl)
    | ((with_reducible apply Entries.le_of_sub); rfl)
    | ((with_reducible apply Entries.le_only); simp; done)
    | intro _
    | with_reducible apply Changes.andThen ?_ (State.portBytes_changes _ _ _ _ ) ?_ ?_
    | with_reducible apply Changes.andThen ?_ (State.takeFree_changes _ ) ?_ ?_
    | with_reducible apply Changes.andThen ?_ (State.send_changes _ _ ) ?_ ?_
    | split)

theorem State.pdelayReq_changes (s : State) (m : PtpMsg) :
    Changes [.freeN, .perf, .out] (.only [0x1315]) s (State.pdelayReq s m) := by
  unfold State.pdelayReq
  repeat' ((try with_reducible conv => arg 4; whnf); first
    | with_reducible apply Changes.refl
    | ((with_reducible show Area.sub _ _ = true); rfl)
    | ((with_reducible apply Entries.le_of_sub); rfl)
    | ((with_reducible apply Entries.le_only); simp; done)
    | intro _
    | with_reducible apply Changes.ite
    | with_reducible apply Changes.ite_snd
    | with_reducible apply Changes.ite_fst
    | with_reducible apply Changes.ite_snd_snd
    | with_reducible apply Changes.foldl
    | with_reducible apply Changes.foldl_snd
    | with_reducible apply Changes.foldl_fst
    | with_reducible apply Changes.andThen ?_ (State.ptpIgnored_changes _ _ ) ?_ ?_
    | with_reducible apply Changes.andThen ?_ (State.sendPtp_changes _ _ _ _ _ ) ?_ ?_
    | ((conv => arg 4; arg 24); with_reducible refine Changes.update ?_)
    | split
    | with_reducible refine Changes.of_snd (by assumption) ?_)

theorem execPdelayReq_changes (m : PtpMsg) (s : State) {u : State} (h : execPdelayReq m s = .next u) :
    Changes [.freeN, .perf, .out] (.only [0x1306, 0x1315]) s u := by
  unfold execPdelayReq at h
  refine State.onPtp_changes ?_ ?_ ?_ h
  repeat' ((try with_reducible conv => arg 4; whnf); first
    | with_reducible apply Changes.refl
    | ((with_reducible show Area.sub _ _ = true); rfl)
    | ((with_reducible apply Entries.le_of_sub); rfl)
    | ((with_reducible apply Entries.le_only); simp; done)
    | intro _
    | with_reducible apply Changes.ite
    | with_reducible apply Changes.ite_snd
    | with_reducible apply Changes.ite_fst
    | with_reducible apply Changes.ite_snd_snd
    | with_reducible apply Changes.foldl
    | with_reducible apply Changes.foldl_snd
    | with_reducible apply Changes.foldl_fst
    | with_reducible apply Changes.andThen ?_ (State.pdelayReq_changes _ _ ) ?_ ?_
    | ((conv => arg 4; arg 24); with_reducible refine Changes.update ?_)
    | split
    | with_reducible refine Changes.of_snd (by assumption) ?_)

theorem execPortLinkChange_changes (eth : Nat) (up : Bool) (rate : Nat) (s : State) {u : State} (h : execPortLinkChange eth up rate s = .next u) :
    Changes [] (.only [0x1303, 0x1306, 0x1311]) s u := by
  unfold execPortLinkChange at h
  try (have h := guardUnit_next h)
  try injection h with h
  subst h
  repeat' ((try with_reducible conv => arg 4; whnf); first
    | with_reducible apply Changes.refl
    | ((with_reducible show Area.sub _ _ = true); rfl)
    | ((with_reducible apply Entries.le_of_sub); rfl)
    | ((with_reducible apply Entries.le_only); simp; done)
    | intro _
    | with_reducible apply Changes.andThen ?_ (State.portLink_changes _ _ _ _ ) ?_ ?_)

theorem State.landWord_changes (s : State) :
    Changes [.net] (.only []) s (State.landWord s) := by
  unfold State.landWord
  repeat' ((try with_reducible conv => arg 4; whnf); first
    | with_reducible apply Changes.refl
    | ((conv => arg 4; arg 24); with_reducible refine Changes.update ?_)
    | split)

theorem execTimeCopyUpdate_changes (s : State) {u : State} (h : execTimeCopyUpdate s = .next u) :
    Changes [.net] (.only []) s u := by
  unfold execTimeCopyUpdate at h
  try (have h := guardUnit_next h)
  try injection h with h
  subst h
  repeat' ((try with_reducible conv => arg 4; whnf); first
    | with_reducible apply Changes.refl
    | ((with_reducible show Area.sub _ _ = true); rfl)
    | ((with_reducible apply Entries.le_of_sub); rfl)
    | ((with_reducible apply Entries.le_only); simp; done)
    | intro _
    | with_reducible apply Changes.andThen ?_ (State.landWord_changes _ ) ?_ ?_)

theorem State.slewDone_changes (s : State) :
    Changes [.net] (.only []) s (State.slewDone s) := by
  unfold State.slewDone
  repeat' ((try with_reducible conv => arg 4; whnf); first
    | with_reducible apply Changes.refl
    | ((with_reducible show Area.sub _ _ = true); rfl)
    | ((with_reducible apply Entries.le_of_sub); rfl)
    | ((with_reducible apply Entries.le_only); simp; done)
    | intro _
    | with_reducible apply Changes.ite
    | with_reducible apply Changes.andThen ?_ (State.followDomain_changes _ _ ) ?_ ?_
    | ((conv => arg 4; arg 24); with_reducible refine Changes.update ?_)
    | split)

theorem execSlewComplete_changes (s : State) {u : State} (h : execSlewComplete s = .next u) :
    Changes [.net] (.only []) s u := by
  unfold execSlewComplete at h
  try (have h := guardUnit_next h)
  try injection h with h
  subst h
  repeat' ((try with_reducible conv => arg 4; whnf); first
    | with_reducible apply Changes.refl
    | ((with_reducible show Area.sub _ _ = true); rfl)
    | ((with_reducible apply Entries.le_of_sub); rfl)
    | ((with_reducible apply Entries.le_only); simp; done)
    | intro _
    | with_reducible apply Changes.andThen ?_ (State.slewDone_changes _ ) ?_ ?_)

theorem State.retrack_changes (s : State) (changed : Nat → Bool) :
    Changes [.freeN, .host, .net, .perf, .out] (.only [0x1205, 0x1303, 0x1306, 0x1311, 0x1313, K.recordsUnrouted, K.domainSwitches, K.timeSteps, K.timeHoldoverEntries]) s (State.retrack s changed) := by
  unfold State.retrack
  repeat' ((try with_reducible conv => arg 4; whnf); first
    | with_reducible apply Changes.refl
    | ((with_reducible show Area.sub _ _ = true); rfl)
    | ((with_reducible apply Entries.le_of_sub); rfl)
    | ((with_reducible apply Entries.le_only); simp; done)
    | intro _
    | with_reducible apply Changes.ite
    | with_reducible apply Changes.foldl
    | with_reducible apply Changes.andThen ?_ (State.setDomain_changes _ _ _ ) ?_ ?_
    | with_reducible apply Changes.andThen ?_ (State.setReg_changes _ _ _ ) ?_ ?_
    | with_reducible apply Changes.andThen ?_ (State.portLink_changes _ _ _ _ ) ?_ ?_
    | with_reducible apply Changes.andThen ?_ (State.chooseTime_changes _ ) ?_ ?_
    | split)

theorem State.arpExpiry_changes (s : State) (p ip : Nat) :
    Changes [.net] (.only []) s (State.arpExpiry s p ip) := by
  unfold State.arpExpiry
  repeat' ((try with_reducible conv => arg 4; whnf); first
    | with_reducible apply Changes.refl
    | ((with_reducible show Area.sub _ _ = true); rfl)
    | ((with_reducible apply Entries.le_of_sub); rfl)
    | ((with_reducible apply Entries.le_only); simp; done)
    | intro _
    | with_reducible apply Changes.andThen ?_ (State.setEth_changes _ _ _ ) ?_ ?_)

theorem execArpCacheExpiry_changes (eth ip : Nat) (s : State) {u : State} (h : execArpCacheExpiry eth ip s = .next u) :
    Changes [.net] (.only []) s u := by
  unfold execArpCacheExpiry at h
  try (have h := guardUnit_next h)
  try injection h with h
  subst h
  repeat' ((try with_reducible conv => arg 4; whnf); first
    | with_reducible apply Changes.refl
    | ((with_reducible show Area.sub _ _ = true); rfl)
    | ((with_reducible apply Entries.le_of_sub); rfl)
    | ((with_reducible apply Entries.le_only); simp; done)
    | intro _
    | with_reducible apply Changes.andThen ?_ (State.arpExpiry_changes _ _ _ ) ?_ ?_)

theorem State.pdelaySend_changes (s : State) (p : Nat) :
    Changes [.freeN, .net, .perf, .out] (.only []) s (State.pdelaySend s p) := by
  unfold State.pdelaySend
  repeat' ((try with_reducible conv => arg 4; whnf); first
    | with_reducible apply Changes.refl
    | ((with_reducible show Area.sub _ _ = true); rfl)
    | ((with_reducible apply Entries.le_of_sub); rfl)
    | ((with_reducible apply Entries.le_only); simp; done)
    | intro _
    | with_reducible apply Changes.ite
    | with_reducible apply Changes.andThen ?_ (State.setEth_changes _ _ _ ) ?_ ?_
    | with_reducible apply Changes.andThen ?_ (State.sendPtp_changes _ _ _ _ _ ) ?_ ?_
    | split)

theorem execPdelayReqSend_changes (eth : Nat) (s : State) {u : State} (h : execPdelayReqSend eth s = .next u) :
    Changes [.freeN, .net, .perf, .out] (.only []) s u := by
  unfold execPdelayReqSend at h
  try (have h := guardUnit_next h)
  try injection h with h
  subst h
  repeat' ((try with_reducible conv => arg 4; whnf); first
    | with_reducible apply Changes.refl
    | ((with_reducible show Area.sub _ _ = true); rfl)
    | ((with_reducible apply Entries.le_of_sub); rfl)
    | ((with_reducible apply Entries.le_only); simp; done)
    | intro _
    | with_reducible apply Changes.andThen ?_ (State.pdelaySend_changes _ _ ) ?_ ?_)

theorem State.delayReq_changes (s : State) (d : Nat) :
    Changes [.freeN, .net, .perf, .out] (.only []) s (State.delayReq s d) := by
  unfold State.delayReq
  repeat' ((try with_reducible conv => arg 4; whnf); first
    | with_reducible apply Changes.refl
    | ((with_reducible show Area.sub _ _ = true); rfl)
    | ((with_reducible apply Entries.le_of_sub); rfl)
    | ((with_reducible apply Entries.le_only); simp; done)
    | intro _
    | with_reducible apply Changes.ite
    | with_reducible apply Changes.andThen ?_ (State.setDomain_changes _ _ _ ) ?_ ?_
    | with_reducible apply Changes.andThen ?_ (State.sendPtp_changes _ _ _ _ _ ) ?_ ?_
    | with_reducible apply Changes.andThen ?_ (State.takeFree_changes _ ) ?_ ?_
    | split)

theorem execDelayReqSend_changes (domain : Nat) (s : State) {u : State} (h : execDelayReqSend domain s = .next u) :
    Changes [.freeN, .net, .perf, .out] (.only []) s u := by
  unfold execDelayReqSend at h
  try (have h := guardUnit_next h)
  try injection h with h
  subst h
  repeat' ((try with_reducible conv => arg 4; whnf); first
    | with_reducible apply Changes.refl
    | ((with_reducible show Area.sub _ _ = true); rfl)
    | ((with_reducible apply Entries.le_of_sub); rfl)
    | ((with_reducible apply Entries.le_only); simp; done)
    | intro _
    | with_reducible apply Changes.andThen ?_ (State.delayReq_changes _ _ ) ?_ ?_)

theorem State.takeDelayResp_changes (s : State) (d : Nat) (m : PtpMsg) :
    Changes [.freeN, .net] (.only [0x1313]) s (State.takeDelayResp s d m) := by
  unfold State.takeDelayResp
  repeat' ((try with_reducible conv => arg 4; whnf); first
    | with_reducible apply Changes.refl
    | ((with_reducible show Area.sub _ _ = true); rfl)
    | ((with_reducible apply Entries.le_of_sub); rfl)
    | ((with_reducible apply Entries.le_only); simp; done)
    | intro _
    | with_reducible apply Changes.ite
    | with_reducible apply Changes.ite_snd
    | with_reducible apply Changes.ite_fst
    | with_reducible apply Changes.ite_snd_snd
    | with_reducible apply Changes.foldl
    | with_reducible apply Changes.foldl_snd
    | with_reducible apply Changes.foldl_fst
    | with_reducible apply Changes.andThen ?_ (State.setDomain_changes _ _ _ ) ?_ ?_
    | with_reducible apply Changes.andThen ?_ (State.setReg_changes _ _ _ ) ?_ ?_
    | with_reducible apply Changes.andThen ?_ (State.halve_changes _ _ ) ?_ ?_
    | ((conv => arg 4; arg 24); with_reducible refine Changes.update ?_)
    | split
    | with_reducible refine Changes.of_snd (by assumption) ?_)

theorem execDelayResp_changes (m : PtpMsg) (s : State) {u : State} (h : execDelayResp m s = .next u) :
    Changes [.freeN, .net, .perf] (.only [0x1306, 0x1313, 0x1315]) s u := by
  unfold execDelayResp at h
  refine State.onPtp_changes ?_ ?_ ?_ h
  repeat' ((try with_reducible conv => arg 4; whnf); first
    | with_reducible apply Changes.refl
    | ((with_reducible show Area.sub _ _ = true); rfl)
    | ((with_reducible apply Entries.le_of_sub); rfl)
    | ((with_reducible apply Entries.le_only); simp; done)
    | intro _
    | with_reducible apply Changes.ite
    | with_reducible apply Changes.ite_snd
    | with_reducible apply Changes.ite_fst
    | with_reducible apply Changes.ite_snd_snd
    | with_reducible apply Changes.foldl
    | with_reducible apply Changes.foldl_snd
    | with_reducible apply Changes.foldl_fst
    | with_reducible apply Changes.andThen ?_ (State.ptpIgnored_changes _ _ ) ?_ ?_
    | with_reducible apply Changes.andThen ?_ (State.takeDelayResp_changes _ _ _ ) ?_ ?_
    | ((conv => arg 4; arg 24); with_reducible refine Changes.update ?_)
    | split
    | with_reducible refine Changes.of_snd (by assumption) ?_)

theorem State.icmpEcho_changes (s : State) (p src dst : Nat) (data : List Byte) :
    Changes [.net, .perf, .out] (.only [0x1306]) s (State.icmpEcho s p src dst data) := by
  unfold State.icmpEcho
  repeat' ((try with_reducible conv => arg 4; whnf); first
    | with_reducible apply Changes.refl
    | ((with_reducible show Area.sub _ _ = true); rfl)
    | ((with_reducible apply Entries.le_of_sub); rfl)
    | ((with_reducible apply Entries.le_only); simp; done)
    | intro _
    | with_reducible apply Changes.ite
    | with_reducible apply Changes.andThen ?_ (State.setEth_changes _ _ _ ) ?_ ?_
    | with_reducible apply Changes.andThen ?_ (State.frameIn_changes _ _ _ ) ?_ ?_
    | with_reducible apply Changes.andThen ?_ (State.portBytes_changes _ _ _ _ ) ?_ ?_
    | with_reducible apply Changes.andThen ?_ (State.frameDrop_changes _ _ ) ?_ ?_
    | with_reducible apply Changes.andThen ?_ (State.send_changes _ _ ) ?_ ?_
    | split)

theorem execIcmpEchoRequest_changes (eth src dst : Nat) (data : List Byte) (s : State) {u : State} (h : execIcmpEchoRequest eth src dst data s = .next u) :
    Changes [.net, .perf, .out] (.only [0x1306]) s u := by
  unfold execIcmpEchoRequest at h
  refine State.onEth_changes ?_ ?_ ?_ h
  repeat' ((try with_reducible conv => arg 4; whnf); first
    | with_reducible apply Changes.refl
    | ((with_reducible show Area.sub _ _ = true); rfl)
    | ((with_reducible apply Entries.le_of_sub); rfl)
    | ((with_reducible apply Entries.le_only); simp; done)
    | intro _
    | with_reducible apply Changes.andThen ?_ (State.icmpEcho_changes _ _ _ _ _ ) ?_ ?_)

theorem State.syncLoss_changes (s : State) (d : Nat) :
    Changes [.freeN, .host, .net, .perf, .out] (.only [0x1205, K.recordsUnrouted, K.domainSwitches, K.timeSteps, K.timeHoldoverEntries]) s (State.syncLoss s d) := by
  unfold State.syncLoss
  repeat' ((try with_reducible conv => arg 4; whnf); first
    | with_reducible apply Changes.refl
    | ((with_reducible show Area.sub _ _ = true); rfl)
    | ((with_reducible apply Entries.le_of_sub); rfl)
    | ((with_reducible apply Entries.le_only); simp; done)
    | intro _
    | with_reducible apply Changes.ite
    | with_reducible apply Changes.andThen ?_ (State.unlock_changes _ _ _ ) ?_ ?_
    | split)

theorem execSyncLossTimeout_changes (domain : Nat) (s : State) {u : State} (h : execSyncLossTimeout domain s = .next u) :
    Changes [.freeN, .host, .net, .perf, .out] (.only [0x1205, K.recordsUnrouted, K.domainSwitches, K.timeSteps, K.timeHoldoverEntries]) s u := by
  unfold execSyncLossTimeout at h
  try (have h := guardUnit_next h)
  try injection h with h
  subst h
  repeat' ((try with_reducible conv => arg 4; whnf); first
    | with_reducible apply Changes.refl
    | ((with_reducible show Area.sub _ _ = true); rfl)
    | ((with_reducible apply Entries.le_of_sub); rfl)
    | ((with_reducible apply Entries.le_only); simp; done)
    | intro _
    | with_reducible apply Changes.andThen ?_ (State.syncLoss_changes _ _ ) ?_ ?_)

theorem State.arpRequest_changes (s : State) (p ip mac target : Nat) :
    Changes [.perf, .out] (.only [0x1306]) s (State.arpRequest s p ip mac target) := by
  unfold State.arpRequest
  repeat' ((try with_reducible conv => arg 4; whnf); first
    | with_reducible apply Changes.refl
    | ((with_reducible show Area.sub _ _ = true); rfl)
    | ((with_reducible apply Entries.le_of_sub); rfl)
    | ((with_reducible apply Entries.le_only); simp; done)
    | intro _
    | with_reducible apply Changes.ite
    | with_reducible apply Changes.andThen ?_ (State.frameIn_changes _ _ _ ) ?_ ?_
    | with_reducible apply Changes.andThen ?_ (State.portBytes_changes _ _ _ _ ) ?_ ?_
    | with_reducible apply Changes.andThen ?_ (State.frameDrop_changes _ _ ) ?_ ?_
    | with_reducible apply Changes.andThen ?_ (State.send_changes _ _ ) ?_ ?_
    | split)

theorem execArpRequest_changes (eth ip mac target : Nat) (s : State) {u : State} (h : execArpRequest eth ip mac target s = .next u) :
    Changes [.perf, .out] (.only [0x1306]) s u := by
  unfold execArpRequest at h
  refine State.onEth_changes ?_ ?_ ?_ h
  repeat' ((try with_reducible conv => arg 4; whnf); first
    | with_reducible apply Changes.refl
    | ((with_reducible show Area.sub _ _ = true); rfl)
    | ((with_reducible apply Entries.le_of_sub); rfl)
    | ((with_reducible apply Entries.le_only); simp; done)
    | intro _
    | with_reducible apply Changes.ite
    | with_reducible apply Changes.ite_snd
    | with_reducible apply Changes.ite_fst
    | with_reducible apply Changes.ite_snd_snd
    | with_reducible apply Changes.foldl
    | with_reducible apply Changes.foldl_snd
    | with_reducible apply Changes.foldl_fst
    | with_reducible apply Changes.andThen ?_ (State.arpRequest_changes _ _ _ _ _ ) ?_ ?_
    | ((conv => arg 4; arg 24); with_reducible refine Changes.update ?_)
    | split
    | with_reducible refine Changes.of_snd (by assumption) ?_)

theorem execPtpMessageIgnored_changes (eth : Nat) (s : State) {u : State} (h : execPtpMessageIgnored eth s = .next u) :
    Changes [.freeN, .perf] (.only [0x1306, 0x1315]) s u := by
  unfold execPtpMessageIgnored at h
  refine State.onPtp_changes ?_ ?_ ?_ h
  repeat' ((try with_reducible conv => arg 4; whnf); first
    | with_reducible apply Changes.refl
    | ((with_reducible show Area.sub _ _ = true); rfl)
    | ((with_reducible apply Entries.le_of_sub); rfl)
    | ((with_reducible apply Entries.le_only); simp; done)
    | intro _
    | with_reducible apply Changes.ite
    | with_reducible apply Changes.ite_snd
    | with_reducible apply Changes.ite_fst
    | with_reducible apply Changes.ite_snd_snd
    | with_reducible apply Changes.foldl
    | with_reducible apply Changes.foldl_snd
    | with_reducible apply Changes.foldl_fst
    | with_reducible apply Changes.andThen ?_ (State.ptpIgnored_changes _ _ ) ?_ ?_
    | ((conv => arg 4; arg 24); with_reducible refine Changes.update ?_)
    | split
    | with_reducible refine Changes.of_snd (by assumption) ?_)

theorem execDomainRevert_changes (s : State) {u : State} (h : execDomainRevert s = .next u) :
    Changes [.freeN, .host, .net, .perf, .out] (.only [0x1205, K.recordsUnrouted, K.domainSwitches, K.timeSteps, K.timeHoldoverEntries]) s u := by
  unfold execDomainRevert at h
  try (have h := guardUnit_next h)
  try injection h with h
  subst h
  repeat' ((try with_reducible conv => arg 4; whnf); first
    | with_reducible apply Changes.refl
    | ((with_reducible show Area.sub _ _ = true); rfl)
    | ((with_reducible apply Entries.le_of_sub); rfl)
    | ((with_reducible apply Entries.le_only); simp; done)
    | intro _
    | with_reducible apply Changes.andThen ?_ (State.chooseTime_changes _ ) ?_ ?_)

theorem State.pdelayResp_changes (s : State) (m : PtpMsg) :
    Changes [.freeN, .net] (.only [0x1315]) s (State.pdelayResp s m) := by
  unfold State.pdelayResp
  repeat' ((try with_reducible conv => arg 4; whnf); first
    | with_reducible apply Changes.refl
    | ((with_reducible show Area.sub _ _ = true); rfl)
    | ((with_reducible apply Entries.le_of_sub); rfl)
    | ((with_reducible apply Entries.le_only); simp; done)
    | intro _
    | with_reducible apply Changes.ite
    | with_reducible apply Changes.ite_snd
    | with_reducible apply Changes.ite_fst
    | with_reducible apply Changes.ite_snd_snd
    | with_reducible apply Changes.foldl
    | with_reducible apply Changes.foldl_snd
    | with_reducible apply Changes.foldl_fst
    | with_reducible apply Changes.andThen ?_ (State.linkDelay_changes _ _ _ ) ?_ ?_
    | with_reducible apply Changes.andThen ?_ (State.ptpIgnored_changes _ _ ) ?_ ?_
    | with_reducible apply Changes.andThen ?_ (State.setEth_changes _ _ _ ) ?_ ?_
    | ((conv => arg 4; arg 24); with_reducible refine Changes.update ?_)
    | split
    | with_reducible refine Changes.of_snd (by assumption) ?_)

theorem execPdelayResp_changes (m : PtpMsg) (s : State) {u : State} (h : execPdelayResp m s = .next u) :
    Changes [.freeN, .net, .perf] (.only [0x1306, 0x1315]) s u := by
  unfold execPdelayResp at h
  refine State.onPtp_changes ?_ ?_ ?_ h
  repeat' ((try with_reducible conv => arg 4; whnf); first
    | with_reducible apply Changes.refl
    | ((with_reducible show Area.sub _ _ = true); rfl)
    | ((with_reducible apply Entries.le_of_sub); rfl)
    | ((with_reducible apply Entries.le_only); simp; done)
    | intro _
    | with_reducible apply Changes.ite
    | with_reducible apply Changes.ite_snd
    | with_reducible apply Changes.ite_fst
    | with_reducible apply Changes.ite_snd_snd
    | with_reducible apply Changes.foldl
    | with_reducible apply Changes.foldl_snd
    | with_reducible apply Changes.foldl_fst
    | with_reducible apply Changes.andThen ?_ (State.pdelayResp_changes _ _ ) ?_ ?_
    | ((conv => arg 4; arg 24); with_reducible refine Changes.update ?_)
    | split
    | with_reducible refine Changes.of_snd (by assumption) ?_)

theorem execEthernetFrameDropped_changes (eth : Nat) (s : State) {u : State} (h : execEthernetFrameDropped eth s = .next u) :
    Changes [] (.only [0x1306]) s u := by
  unfold execEthernetFrameDropped at h
  refine State.onEth_changes ?_ ?_ ?_ h
  repeat' ((try with_reducible conv => arg 4; whnf); first
    | with_reducible apply Changes.refl
    | ((with_reducible show Area.sub _ _ = true); rfl)
    | ((with_reducible apply Entries.le_of_sub); rfl)
    | ((with_reducible apply Entries.le_only); simp; done)
    | intro _
    | with_reducible apply Changes.andThen ?_ (State.frameDrop_changes _ _ ) ?_ ?_)

theorem State.takeFollow_changes (s : State) (d : Nat) (m : PtpMsg) :
    Changes [.freeN, .host, .net, .perf, .out] (.only [0x1205, 0x1313, K.recordsUnrouted, K.domainSwitches, K.timeSteps, K.timeHoldoverEntries]) s (State.takeFollow s d m) := by
  unfold State.takeFollow
  repeat' ((try with_reducible conv => arg 4; whnf); first
    | with_reducible apply Changes.refl
    | ((with_reducible show Area.sub _ _ = true); rfl)
    | ((with_reducible apply Entries.le_of_sub); rfl)
    | ((with_reducible apply Entries.le_only); simp; done)
    | intro _
    | with_reducible apply Changes.ite
    | with_reducible apply Changes.ite_snd
    | with_reducible apply Changes.ite_fst
    | with_reducible apply Changes.ite_snd_snd
    | with_reducible apply Changes.foldl
    | with_reducible apply Changes.foldl_snd
    | with_reducible apply Changes.foldl_fst
    | with_reducible apply Changes.andThen ?_ (State.setDomain_changes _ _ _ ) ?_ ?_
    | with_reducible apply Changes.andThen ?_ (State.syncDone_changes _ _ _ ) ?_ ?_
    | ((conv => arg 4; arg 24); with_reducible refine Changes.update ?_)
    | split
    | with_reducible refine Changes.of_snd (by assumption) ?_)

theorem execFollowUp_changes (m : PtpMsg) (s : State) {u : State} (h : execFollowUp m s = .next u) :
    Changes [.freeN, .host, .net, .perf, .out] (.only [0x1205, 0x1306, 0x1313, 0x1315, K.recordsUnrouted, K.domainSwitches, K.timeSteps, K.timeHoldoverEntries]) s u := by
  unfold execFollowUp at h
  refine State.onPtp_changes ?_ ?_ ?_ h
  repeat' ((try with_reducible conv => arg 4; whnf); first
    | with_reducible apply Changes.refl
    | ((with_reducible show Area.sub _ _ = true); rfl)
    | ((with_reducible apply Entries.le_of_sub); rfl)
    | ((with_reducible apply Entries.le_only); simp; done)
    | intro _
    | with_reducible apply Changes.ite
    | with_reducible apply Changes.ite_snd
    | with_reducible apply Changes.ite_fst
    | with_reducible apply Changes.ite_snd_snd
    | with_reducible apply Changes.foldl
    | with_reducible apply Changes.foldl_snd
    | with_reducible apply Changes.foldl_fst
    | with_reducible apply Changes.andThen ?_ (State.ptpIgnored_changes _ _ ) ?_ ?_
    | with_reducible apply Changes.andThen ?_ (State.takeFollow_changes _ _ _ ) ?_ ?_
    | ((conv => arg 4; arg 24); with_reducible refine Changes.update ?_)
    | split
    | with_reducible refine Changes.of_snd (by assumption) ?_)

theorem State.takeAnnounce_changes (s : State) (d p : Nat) (a : Announce) :
    Changes [.freeN, .host, .net, .perf, .out] (.only [0x1205, 0x1313, K.recordsUnrouted, K.domainSwitches, K.timeSteps, K.timeHoldoverEntries]) s (State.takeAnnounce s d p a) := by
  unfold State.takeAnnounce
  repeat' ((try with_reducible conv => arg 4; whnf); first
    | with_reducible apply Changes.refl
    | ((with_reducible show Area.sub _ _ = true); rfl)
    | ((with_reducible apply Entries.le_of_sub); rfl)
    | ((with_reducible apply Entries.le_only); simp; done)
    | intro _
    | with_reducible apply Changes.ite
    | with_reducible apply Changes.ite_snd
    | with_reducible apply Changes.ite_fst
    | with_reducible apply Changes.ite_snd_snd
    | with_reducible apply Changes.foldl
    | with_reducible apply Changes.foldl_snd
    | with_reducible apply Changes.foldl_fst
    | with_reducible apply Changes.andThen ?_ (State.setDomain_changes _ _ _ ) ?_ ?_
    | with_reducible apply Changes.andThen ?_ (State.setReg_changes _ _ _ ) ?_ ?_
    | with_reducible apply Changes.andThen ?_ (State.unlock_changes _ _ _ ) ?_ ?_
    | ((conv => arg 4; arg 24); with_reducible refine Changes.update ?_)
    | split
    | with_reducible refine Changes.of_snd (by assumption) ?_)

theorem execAnnounce_changes (eth : Nat) (a : Announce) (s : State) {u : State} (h : execAnnounce eth a s = .next u) :
    Changes [.freeN, .host, .net, .perf, .out] (.only [0x1205, 0x1306, 0x1313, 0x1315, K.recordsUnrouted, K.domainSwitches, K.timeSteps, K.timeHoldoverEntries]) s u := by
  unfold execAnnounce at h
  refine State.onPtp_changes ?_ ?_ ?_ h
  repeat' ((try with_reducible conv => arg 4; whnf); first
    | with_reducible apply Changes.refl
    | ((with_reducible show Area.sub _ _ = true); rfl)
    | ((with_reducible apply Entries.le_of_sub); rfl)
    | ((with_reducible apply Entries.le_only); simp; done)
    | intro _
    | with_reducible apply Changes.ite
    | with_reducible apply Changes.ite_snd
    | with_reducible apply Changes.ite_fst
    | with_reducible apply Changes.ite_snd_snd
    | with_reducible apply Changes.foldl
    | with_reducible apply Changes.foldl_snd
    | with_reducible apply Changes.foldl_fst
    | with_reducible apply Changes.andThen ?_ (State.ptpIgnored_changes _ _ ) ?_ ?_
    | with_reducible apply Changes.andThen ?_ (State.takeAnnounce_changes _ _ _ _ ) ?_ ?_
    | ((conv => arg 4; arg 24); with_reducible refine Changes.update ?_)
    | split
    | with_reducible refine Changes.of_snd (by assumption) ?_)

end Sys2Proof.Machine
end

