-- ==== Sys2Proof/Laws/FramePlanBudget.lean ====
section
/-! SUPPORT. What each operation of Machine/PlanBudget.lean changes and what it leaves unchanged. -/

-- one theorem after another: see NOTES.md
set_option Elab.async false

namespace Sys2Proof.Machine

theorem State.reviewPlans_changes (s : State) :
    Changes [.host, .perf, .out] (.only [0x1205, K.periodBudget, K.slackCycles, K.decisionLatencyBound, K.decisionLatencyBoundUs, K.predictedComputePower, K.deadlineAtRisk, K.powerAtRisk, K.recordsUnrouted]) s (State.reviewPlans s) := by
  unfold State.reviewPlans
  repeat' ((try with_reducible conv => arg 4; whnf); first
    | with_reducible apply Changes.refl
    | ((with_reducible show Area.sub _ _ = true); rfl)
    | ((with_reducible apply Entries.le_of_sub); rfl)
    | ((with_reducible apply Entries.le_only); simp; done)
    | intro _
    | with_reducible apply Changes.ite
    | with_reducible apply Changes.andThen ?_ (State.setReg_changes _ _ _ ) ?_ ?_
    | with_reducible apply Changes.andThen ?_ (State.emit_changes _ _ ) ?_ ?_
    | split)

end Sys2Proof.Machine
end

