-- ==== Sys2Proof/Laws/FrameTethers.lean ====
section
/-! SUPPORT. What each operation of Machine/Tethers.lean changes and what it leaves unchanged. -/

-- one theorem after another: see NOTES.md
set_option Elab.async false

namespace Sys2Proof.Machine

theorem State.ackWindow_changes (s : State) (port ack : Nat) :
    Changes [.knots] (.only []) s (State.ackWindow s port ack) := by
  unfold State.ackWindow
  repeat' ((try with_reducible conv => arg 4; whnf); first
    | with_reducible apply Changes.refl
    | ((with_reducible show Area.sub _ _ = true); rfl)
    | ((with_reducible apply Entries.le_of_sub); rfl)
    | ((with_reducible apply Entries.le_only); simp; done)
    | intro _
    | with_reducible apply Changes.andThen ?_ (State.setTport_changes _ _ _ ) ?_ ?_)

theorem State.relay_changes (s : State) (typ : Nat) (p : TPacket) :
    Changes [.knots, .perf, .out] (.only []) s (State.relay s typ p) := by
  unfold State.relay
  repeat' ((try with_reducible conv => arg 4; whnf); first
    | with_reducible apply Changes.refl
    | ((with_reducible show Area.sub _ _ = true); rfl)
    | ((with_reducible apply Entries.le_of_sub); rfl)
    | ((with_reducible apply Entries.le_only); simp; done)
    | intro _
    | with_reducible apply Changes.ite
    | with_reducible apply Changes.andThen ?_ (State.sendFrom_changes _ _ _ _ _ _ _ _ _ _ ) ?_ ?_
    | split)

theorem State.heard_changes (s : State) (m : Nat) :
    Changes [.knots] (.only []) s (State.heard s m) := by
  unfold State.heard
  repeat' ((try with_reducible conv => arg 4; whnf); first
    | with_reducible apply Changes.refl
    | intro _
    | with_reducible apply Changes.ite
    | ((conv => arg 4; arg 24); with_reducible refine Changes.update ?_)
    | split)

theorem State.sendAck_changes (s : State) (port dest : Nat) :
    Changes [.knots, .perf, .out] (.only []) s (State.sendAck s port dest) := by
  unfold State.sendAck
  repeat' ((try with_reducible conv => arg 4; whnf); first
    | with_reducible apply Changes.refl
    | ((with_reducible show Area.sub _ _ = true); rfl)
    | ((with_reducible apply Entries.le_of_sub); rfl)
    | ((with_reducible apply Entries.le_only); simp; done)
    | intro _
    | with_reducible apply Changes.andThen ?_ (State.portBytes_changes _ _ _ _ ) ?_ ?_
    | with_reducible apply Changes.andThen ?_ (State.setTport_changes _ _ _ ) ?_ ?_
    | with_reducible apply Changes.andThen ?_ (State.send_changes _ _ ) ?_ ?_)

theorem State.receive_changes {G : List Area} {E : Entries} (s : State) (port typ : Nat) (p : TPacket) (body : State → State)
    (hf : ∀ s, Changes G E s (body s)) (hG : Area.sub [.knots, .perf, .out] G = true) (hE : Entries.le (.only [0x0D08]) E) :
    Changes G E s (State.receive s port typ p body) := by
  unfold State.receive
  repeat' ((try with_reducible conv => arg 4; whnf); first
    | with_reducible apply Changes.refl
    | ((with_reducible show Area.sub _ _ = true); rfl)
    | ((with_reducible apply Entries.le_of_sub); rfl)
    | ((with_reducible apply Entries.le_only); simp; done)
    | exact Area.sub_trans rfl hG
    | exact Entries.le_trans (Entries.le_of_sub rfl) hE
    | exact Entries.le_trans (Entries.le_only (by simp)) hE
    | intro _
    | with_reducible apply Changes.ite
    | with_reducible apply Changes.ite_snd
    | with_reducible apply Changes.ite_fst
    | with_reducible apply Changes.ite_snd_snd
    | with_reducible apply Changes.foldl
    | with_reducible apply Changes.foldl_snd
    | with_reducible apply Changes.foldl_fst
    | (with_reducible apply Changes.trans ?_ (hf _))
    | with_reducible apply Changes.andThen ?_ (State.bump_changes _ _ _ ) ?_ ?_
    | with_reducible apply Changes.andThen ?_ (State.ackWindow_changes _ _ _ ) ?_ ?_
    | with_reducible apply Changes.andThen ?_ (State.portBytes_changes _ _ _ _ ) ?_ ?_
    | with_reducible apply Changes.andThen ?_ (State.relay_changes _ _ _ ) ?_ ?_
    | with_reducible apply Changes.andThen ?_ (State.heard_changes _ _ ) ?_ ?_
    | with_reducible apply Changes.andThen ?_ (State.sendAck_changes _ _ _ ) ?_ ?_
    | with_reducible apply Changes.andThen ?_ (State.setTport_changes _ _ _ ) ?_ ?_
    | ((conv => arg 4; arg 24); with_reducible refine Changes.update ?_)
    | split
    | with_reducible refine Changes.of_snd (by assumption) ?_)

theorem State.waitTimeout_changes (s : State) (n : Nat) :
    Changes [.knots, .host, .perf, .out] (.only [0x1205, K.waitersInUse, K.waitersPeak, K.waitTimeouts, K.commandsCompleted, K.recordsUnrouted]) s (State.waitTimeout s n) := by
  unfold State.waitTimeout
  repeat' ((try with_reducible conv => arg 4; whnf); first
    | with_reducible apply Changes.refl
    | ((with_reducible show Area.sub _ _ = true); rfl)
    | ((with_reducible apply Entries.le_of_sub); rfl)
    | ((with_reducible apply Entries.le_only); simp; done)
    | intro _
    | with_reducible apply Changes.ite
    | with_reducible apply Changes.andThen ?_ (State.notify_changes _ _ _ _ ) ?_ ?_
    | with_reducible apply Changes.andThen ?_ (State.bump_changes _ _ _ ) ?_ ?_
    | with_reducible apply Changes.andThen ?_ (State.setWaiters_changes _ _ ) ?_ ?_
    | with_reducible apply Changes.andThen ?_ (State.releaseQueue_changes _ _ _ ) ?_ ?_
    | split)

theorem execKnotWaitTimeout_changes (waiter : Nat) (s : State) {u : State} (h : execKnotWaitTimeout waiter s = .next u) :
    Changes [.knots, .host, .perf, .out] (.only [0x1205, K.waitersInUse, K.waitersPeak, K.waitTimeouts, K.commandsCompleted, K.recordsUnrouted]) s u := by
  unfold execKnotWaitTimeout at h
  try (have h := guardUnit_next h)
  try injection h with h
  subst h
  repeat' ((try with_reducible conv => arg 4; whnf); first
    | with_reducible apply Changes.refl
    | ((with_reducible show Area.sub _ _ = true); rfl)
    | ((with_reducible apply Entries.le_of_sub); rfl)
    | ((with_reducible apply Entries.le_only); simp; done)
    | intro _
    | with_reducible apply Changes.andThen ?_ (State.waitTimeout_changes _ _ ) ?_ ?_)

theorem State.onPacket_changes {G : List Area} {E : Entries} {s t : State} {port typ : Nat} {p : TPacket}
    {body : State → State} (hf : ∀ s, Changes G E s (body s)) (hG : Area.sub [.knots, .perf, .out] G = true)
    (hE : Entries.le (.only [0x0D08]) E) (h : State.onPacket s port typ p body = .next t) : Changes G E s t := by
  have h := guardUnit_next h
  subst h
  exact State.receive_changes _ _ _ _ _ hf hG hE

theorem State.answered_changes (s : State) (p : TPacket) :
    Changes [.knots] (.only []) s (State.answered s p).2 := by
  unfold State.answered
  repeat' ((try with_reducible conv => arg 4; arg 1; whnf); first
    | with_reducible apply Changes.refl
    | dsimp only
    | ((conv => arg 4; arg 24); with_reducible refine Changes.update ?_)
    | split)

theorem State.endRequest_changes (s : State) (r : TReq) (status result : Nat) :
    Changes [.knots, .host, .perf, .out] (.only [0x1205, K.knotOpsRefused, K.commandsCompleted, K.recordsUnrouted]) s (State.endRequest s r status result) := by
  unfold State.endRequest
  repeat' ((try with_reducible conv => arg 4; whnf); first
    | with_reducible apply Changes.refl
    | ((with_reducible show Area.sub _ _ = true); rfl)
    | ((with_reducible apply Entries.le_of_sub); rfl)
    | ((with_reducible apply Entries.le_only); simp; done)
    | intro _
    | with_reducible apply Changes.andThen ?_ (State.opRefused_changes _ _ _ _ _ ) ?_ ?_
    | with_reducible apply Changes.andThen ?_ (State.sendTo_changes _ _ _ _ _ _ _ _ ) ?_ ?_
    | with_reducible apply Changes.andThen ?_ (State.finishCmd_changes _ _ _ _ _ ) ?_ ?_
    | split)

theorem State.complete_changes (s : State) (p : TPacket) (status result : Nat) :
    Changes [.knots, .host, .perf, .out] (.only [0x1205, K.knotOpsRefused, K.commandsCompleted, K.recordsUnrouted]) s (State.complete s p status result) := by
  unfold State.complete
  repeat' ((try with_reducible conv => arg 4; whnf); first
    | with_reducible apply Changes.refl
    | ((with_reducible show Area.sub _ _ = true); rfl)
    | ((with_reducible apply Entries.le_of_sub); rfl)
    | ((with_reducible apply Entries.le_only); simp; done)
    | intro _
    | with_reducible apply Changes.ite
    | with_reducible apply Changes.ite_snd
    | with_reducible apply Changes.ite_fst
    | with_reducible apply Changes.ite_snd_snd
    | with_reducible apply Changes.foldl
    | with_reducible apply Changes.foldl_snd
    | with_reducible apply Changes.foldl_fst
    | with_reducible apply Changes.andThen ?_ (State.answered_changes _ _ ) ?_ ?_
    | with_reducible apply Changes.andThen ?_ (State.endRequest_changes _ _ _ _ ) ?_ ?_
    | ((conv => arg 4; arg 24); with_reducible refine Changes.update ?_)
    | split
    | with_reducible refine Changes.of_snd (by assumption) ?_)

theorem execReadComp_changes (port : Nat) (p : TPacket) (s : State) {u : State} (h : execReadComp port p s = .next u) :
    Changes [.knots, .host, .perf, .out] (.only [0x0D08, 0x1205, K.knotOpsRefused, K.commandsCompleted, K.recordsUnrouted]) s u := by
  unfold execReadComp at h
  refine State.onPacket_changes ?_ ?_ ?_ h
  repeat' ((try with_reducible conv => arg 4; whnf); first
    | with_reducible apply Changes.refl
    | ((with_reducible show Area.sub _ _ = true); rfl)
    | ((with_reducible apply Entries.le_of_sub); rfl)
    | ((with_reducible apply Entries.le_only); simp; done)
    | intro _
    | with_reducible apply Changes.andThen ?_ (State.complete_changes _ _ _ _ ) ?_ ?_)

theorem State.sendHello_changes (s : State) (d : Nat) (asked : Bool) :
    Changes [.knots, .perf, .out] (.only []) s (State.sendHello s d asked) := by
  unfold State.sendHello
  repeat' ((try with_reducible conv => arg 4; whnf); first
    | with_reducible apply Changes.refl
    | ((with_reducible show Area.sub _ _ = true); rfl)
    | ((with_reducible apply Entries.le_of_sub); rfl)
    | ((with_reducible apply Entries.le_only); simp; done)
    | intro _
    | with_reducible apply Changes.ite
    | with_reducible apply Changes.andThen ?_ (State.sendTo_changes _ _ _ _ _ _ _ _ ) ?_ ?_
    | ((conv => arg 4; arg 24); with_reducible refine Changes.update ?_)
    | split)

theorem State.setGroup_changes (s : State) (g : Group) :
    Changes [.knots] (.only [K.groupState, K.groupFailCause]) s (State.setGroup s g) := by
  unfold State.setGroup
  repeat' ((try with_reducible conv => arg 4; whnf); first
    | with_reducible apply Changes.refl
    | ((with_reducible show Area.sub _ _ = true); rfl)
    | ((with_reducible apply Entries.le_of_sub); rfl)
    | ((with_reducible apply Entries.le_only); simp; done)
    | intro _
    | with_reducible apply Changes.andThen ?_ (State.setReg_changes _ _ _ ) ?_ ?_
    | ((conv => arg 4; arg 24); with_reducible refine Changes.update ?_))

theorem State.tryForm_changes (s : State) :
    Changes [.knots, .out] (.only [K.groupState, K.groupFailCause]) s (State.tryForm s) := by
  unfold State.tryForm
  repeat' ((try with_reducible conv => arg 4; whnf); first
    | with_reducible apply Changes.refl
    | ((with_reducible show Area.sub _ _ = true); rfl)
    | ((with_reducible apply Entries.le_of_sub); rfl)
    | ((with_reducible apply Entries.le_only); simp; done)
    | intro _
    | with_reducible apply Changes.ite
    | with_reducible apply Changes.foldl
    | with_reducible apply Changes.andThen ?_ (State.setGroup_changes _ _ ) ?_ ?_
    | with_reducible apply Changes.andThen ?_ (State.send_changes _ _ ) ?_ ?_
    | ((conv => arg 4; arg 24); with_reducible refine Changes.update ?_)
    | split)

theorem State.groupFail_changes (s : State) (cause : Nat) :
    Changes [.knots] (.only [K.groupState, K.groupFailCause]) s (State.groupFail s cause) := by
  unfold State.groupFail
  repeat' ((try with_reducible conv => arg 4; whnf); first
    | with_reducible apply Changes.refl
    | ((with_reducible show Area.sub _ _ = true); rfl)
    | ((with_reducible apply Entries.le_of_sub); rfl)
    | ((with_reducible apply Entries.le_only); simp; done)
    | intro _
    | with_reducible apply Changes.andThen ?_ (State.setGroup_changes _ _ ) ?_ ?_)

theorem State.takeHello_changes (s : State) (m : TPacket) (h : HelloPath) :
    Changes [.knots, .perf, .out] (.only [0x0D05, K.groupState, K.groupFailCause, K.membersSeen]) s (State.takeHello s m h) := by
  unfold State.takeHello
  repeat' ((try with_reducible conv => arg 4; whnf); first
    | with_reducible apply Changes.refl
    | ((with_reducible show Area.sub _ _ = true); rfl)
    | ((with_reducible apply Entries.le_of_sub); rfl)
    | ((with_reducible apply Entries.le_only); simp; done)
    | intro _
    | with_reducible apply Changes.ite
    | with_reducible apply Changes.andThen ?_ (State.setReg_changes _ _ _ ) ?_ ?_
    | with_reducible apply Changes.andThen ?_ (State.sendHello_changes _ _ _ ) ?_ ?_
    | with_reducible apply Changes.andThen ?_ (State.tryForm_changes _ ) ?_ ?_
    | with_reducible apply Changes.andThen ?_ (State.groupFail_changes _ _ ) ?_ ?_
    | ((conv => arg 4; arg 24); with_reducible refine Changes.update ?_)
    | split)

theorem State.sendHellos_changes (s : State) :
    Changes [.knots, .perf, .out] (.only []) s (State.sendHellos s) := by
  unfold State.sendHellos
  repeat' ((try with_reducible conv => arg 4; whnf); first
    | with_reducible apply Changes.refl
    | ((with_reducible show Area.sub _ _ = true); rfl)
    | ((with_reducible apply Entries.le_of_sub); rfl)
    | ((with_reducible apply Entries.le_only); simp; done)
    | intro _
    | with_reducible apply Changes.ite
    | with_reducible apply Changes.foldl
    | with_reducible apply Changes.andThen ?_ (State.sendHello_changes _ _ _ ) ?_ ?_
    | split)

theorem State.portTrained_changes (s : State) (port : Nat) :
    Changes [.knots, .perf, .out] (.only []) s (State.portTrained s port) := by
  unfold State.portTrained
  repeat' ((try with_reducible conv => arg 4; whnf); first
    | with_reducible apply Changes.refl
    | ((with_reducible show Area.sub _ _ = true); rfl)
    | ((with_reducible apply Entries.le_of_sub); rfl)
    | ((with_reducible apply Entries.le_only); simp; done)
    | intro _
    | with_reducible apply Changes.ite
    | with_reducible apply Changes.andThen ?_ (State.sendHellos_changes _ ) ?_ ?_
    | with_reducible apply Changes.andThen ?_ (State.setTport_changes _ _ _ ) ?_ ?_
    | split)

theorem State.startForm_changes (s : State) :
    Changes [.knots, .perf, .out] (.only [K.groupState, K.groupFailCause, K.membersSeen]) s (State.startForm s) := by
  unfold State.startForm
  repeat' ((try with_reducible conv => arg 4; whnf); first
    | with_reducible apply Changes.refl
    | ((with_reducible show Area.sub _ _ = true); rfl)
    | ((with_reducible apply Entries.le_of_sub); rfl)
    | ((with_reducible apply Entries.le_only); simp; done)
    | intro _
    | with_reducible apply Changes.andThen ?_ (State.setReg_changes _ _ _ ) ?_ ?_
    | with_reducible apply Changes.andThen ?_ (State.setGroup_changes _ _ ) ?_ ?_
    | with_reducible apply Changes.andThen ?_ (State.sendHellos_changes _ ) ?_ ?_
    | split)

theorem State.resend_changes (s : State) (port : Nat) :
    Changes [.knots, .perf, .out] (.only [0x0D09]) s (State.resend s port) := by
  unfold State.resend
  repeat' ((try with_reducible conv => arg 4; whnf); first
    | with_reducible apply Changes.refl
    | ((with_reducible show Area.sub _ _ = true); rfl)
    | ((with_reducible apply Entries.le_of_sub); rfl)
    | ((with_reducible apply Entries.le_only); simp; done)
    | intro _
    | with_reducible apply Changes.ite
    | with_reducible apply Changes.foldl
    | with_reducible apply Changes.andThen ?_ (State.bump_changes _ _ _ ) ?_ ?_
    | with_reducible apply Changes.andThen ?_ (State.portBytes_changes _ _ _ _ ) ?_ ?_
    | with_reducible apply Changes.andThen ?_ (State.setTport_changes _ _ _ ) ?_ ?_
    | with_reducible apply Changes.andThen ?_ (State.send_changes _ _ ) ?_ ?_
    | split)

theorem State.remeasure_changes (s : State) :
    Changes [.knots, .perf, .out] (.only []) s (State.remeasure s) := by
  unfold State.remeasure
  repeat' ((try with_reducible conv => arg 4; whnf); first
    | with_reducible apply Changes.refl
    | ((with_reducible show Area.sub _ _ = true); rfl)
    | ((with_reducible apply Entries.le_of_sub); rfl)
    | ((with_reducible apply Entries.le_only); simp; done)
    | intro _
    | with_reducible apply Changes.ite
    | with_reducible apply Changes.foldl
    | with_reducible apply Changes.andThen ?_ (State.sendHello_changes _ _ _ ) ?_ ?_
    | ((conv => arg 4; arg 24); with_reducible refine Changes.update ?_)
    | split)

theorem execTetherDelayRemeasure_changes (s : State) {u : State} (h : execTetherDelayRemeasure s = .next u) :
    Changes [.knots, .perf, .out] (.only []) s u := by
  unfold execTetherDelayRemeasure at h
  try (have h := guardUnit_next h)
  try injection h with h
  subst h
  repeat' ((try with_reducible conv => arg 4; whnf); first
    | with_reducible apply Changes.refl
    | ((with_reducible show Area.sub _ _ = true); rfl)
    | ((with_reducible apply Entries.le_of_sub); rfl)
    | ((with_reducible apply Entries.le_only); simp; done)
    | intro _
    | with_reducible apply Changes.andThen ?_ (State.remeasure_changes _ ) ?_ ?_)

theorem execTetherPortTrained_changes (port : Nat) (s : State) {u : State} (h : execTetherPortTrained port s = .next u) :
    Changes [.knots, .perf, .out] (.only []) s u := by
  unfold execTetherPortTrained at h
  try (have h := guardUnit_next h)
  try injection h with h
  subst h
  repeat' ((try with_reducible conv => arg 4; whnf); first
    | with_reducible apply Changes.refl
    | ((with_reducible show Area.sub _ _ = true); rfl)
    | ((with_reducible apply Entries.le_of_sub); rfl)
    | ((with_reducible apply Entries.le_only); simp; done)
    | intro _
    | with_reducible apply Changes.andThen ?_ (State.portTrained_changes _ _ ) ?_ ?_)

theorem State.settlePorts_changes (s old : State) :
    Changes [.knots] (.only []) s (State.settlePorts s old) := by
  unfold State.settlePorts
  repeat' ((try with_reducible conv => arg 4; whnf); first
    | with_reducible apply Changes.refl
    | ((with_reducible show Area.sub _ _ = true); rfl)
    | ((with_reducible apply Entries.le_of_sub); rfl)
    | ((with_reducible apply Entries.le_only); simp; done)
    | intro _
    | with_reducible apply Changes.ite
    | with_reducible apply Changes.foldl
    | with_reducible apply Changes.andThen ?_ (State.setTport_changes _ _ _ ) ?_ ?_
    | split)

theorem execKnotReply_changes (port : Nat) (p : TPacket) (s : State) {u : State} (h : execKnotReply port p s = .next u) :
    Changes [.knots, .host, .perf, .out] (.only [0x0D08, 0x1205, K.knotOpsRefused, K.commandsCompleted, K.recordsUnrouted]) s u := by
  unfold execKnotReply at h
  refine State.onPacket_changes ?_ ?_ ?_ h
  repeat' ((try with_reducible conv => arg 4; whnf); first
    | with_reducible apply Changes.refl
    | ((with_reducible show Area.sub _ _ = true); rfl)
    | ((with_reducible apply Entries.le_of_sub); rfl)
    | ((with_reducible apply Entries.le_only); simp; done)
    | intro _
    | with_reducible apply Changes.andThen ?_ (State.complete_changes _ _ _ _ ) ?_ ?_)

theorem State.remoteOp_changes (s : State) (p : TPacket) :
    Changes [.knots, .host, .perf, .out] (.only [0x1205, K.waitersInUse, K.waitersPeak, K.knotOps, K.knotSaturations, K.frozenRefusals, K.commandsCompleted, K.recordsUnrouted]) s (State.remoteOp s p) := by
  unfold State.remoteOp
  repeat' ((try with_reducible conv => arg 4; whnf); first
    | with_reducible apply Changes.refl
    | ((with_reducible show Area.sub _ _ = true); rfl)
    | ((with_reducible apply Entries.le_of_sub); rfl)
    | ((with_reducible apply Entries.le_only); simp; done)
    | intro _
    | with_reducible apply Changes.ite
    | with_reducible apply Changes.ite_snd
    | with_reducible apply Changes.ite_fst
    | with_reducible apply Changes.ite_snd_snd
    | with_reducible apply Changes.foldl
    | with_reducible apply Changes.foldl_snd
    | with_reducible apply Changes.foldl_fst
    | with_reducible apply Changes.andThen ?_ (State.notify_changes _ _ _ _ ) ?_ ?_
    | with_reducible apply Changes.andThen ?_ (State.knotWaitOp_changes _ _ _ _ _ _ _ ) ?_ ?_
    | with_reducible apply Changes.andThen ?_ (State.knotAdd_changes _ _ _ _ _ ) ?_ ?_
    | with_reducible apply Changes.andThen ?_ (State.countKnotOp_changes _ _ ) ?_ ?_
    | ((conv => arg 4; arg 24); with_reducible refine Changes.update ?_)
    | split
    | with_reducible refine Changes.of_snd (by assumption) ?_)

theorem State.unlessGloved_changes {G : List Area} {E : Entries} (s : State) (p : TPacket) (tag : Nat) (body : State → State)
    (hf : ∀ s, Changes G E s (body s)) (hG : Area.sub [.knots, .perf, .out] G = true) (hE : Entries.le (.only [K.tetherErrorCompletions]) E) :
    Changes G E s (State.unlessGloved s p tag body) := by
  unfold State.unlessGloved
  repeat' ((try with_reducible conv => arg 4; whnf); first
    | with_reducible apply Changes.refl
    | ((with_reducible show Area.sub _ _ = true); rfl)
    | ((with_reducible apply Entries.le_of_sub); rfl)
    | ((with_reducible apply Entries.le_only); simp; done)
    | exact Area.sub_trans rfl hG
    | exact Entries.le_trans (Entries.le_of_sub rfl) hE
    | exact Entries.le_trans (Entries.le_only (by simp)) hE
    | intro _
    | with_reducible apply Changes.ite
    | (with_reducible apply Changes.trans ?_ (hf _))
    | with_reducible apply Changes.andThen ?_ (State.bump_changes _ _ _ ) ?_ ?_
    | with_reducible apply Changes.andThen ?_ (State.sendTo_changes _ _ _ _ _ _ _ _ ) ?_ ?_
    | split)

theorem execKnotOp_changes (port : Nat) (p : TPacket) (s : State) {u : State} (h : execKnotOp port p s = .next u) :
    Changes [.knots, .host, .perf, .out] (.only [0x0D08, 0x1205, K.waitersInUse, K.waitersPeak, K.knotOps, K.knotSaturations, K.frozenRefusals, K.tetherErrorCompletions, K.commandsCompleted, K.recordsUnrouted]) s u := by
  unfold execKnotOp at h
  refine State.onPacket_changes ?_ ?_ ?_ h
  repeat' ((try with_reducible conv => arg 4; whnf); first
    | with_reducible apply Changes.refl
    | ((with_reducible show Area.sub _ _ = true); rfl)
    | ((with_reducible apply Entries.le_of_sub); rfl)
    | ((with_reducible apply Entries.le_only); simp; done)
    | intro _
    | with_reducible apply Changes.andThen ?_ (State.remoteOp_changes _ _ ) ?_ ?_
    | with_reducible apply Changes.trans ?_ (State.unlessGloved_changes _ _ _ _  ?_ ?_ ?_))

theorem execTetherPacketDiscarded_changes (port : Nat) (p : TPacket) (s : State) {u : State} (h : execTetherPacketDiscarded port p s = .next u) :
    Changes [.knots, .perf, .out] (.only [0x0D08]) s u := by
  unfold execTetherPacketDiscarded at h
  refine State.onPacket_changes ?_ ?_ ?_ h
  repeat' ((try with_reducible conv => arg 4; whnf); first
    | exact Changes.refl (s := _) (G := _)
    | with_reducible apply Changes.refl
    | ((with_reducible show Area.sub _ _ = true); rfl)
    | ((with_reducible apply Entries.le_of_sub); rfl)
    | ((with_reducible apply Entries.le_only); simp; done)
    | intro _
    | with_reducible apply Changes.ite
    | with_reducible apply Changes.ite_snd
    | with_reducible apply Changes.ite_fst
    | with_reducible apply Changes.ite_snd_snd
    | with_reducible apply Changes.foldl
    | with_reducible apply Changes.foldl_snd
    | with_reducible apply Changes.foldl_fst
    | ((conv => arg 4; arg 24); with_reducible refine Changes.update ?_)
    | split
    | with_reducible refine Changes.of_snd (by assumption) ?_)

theorem State.stopGroup_changes (s : State) (code detail : Nat) (tell : Bool) :
    Changes [.freeN, .blobs, .ctl, .belt, .pipe, .engine, .tracks, .eject, .memory, .knots, .host, .faults, .perf, .out] (.only [0x0804, 0x1205, 0x1402, 0x1703, K.decisionsIssued, K.fallbackDecisions, K.waitersInUse, K.waitersPeak, K.ownerResetReleases, K.knotDumpContext, K.pulsesPending, K.pulsesPeak, K.pulsesScheduled, K.pulsesMerged, K.storeFullRefused, K.lateDecisions, K.missedDecisions, K.disabledChannelRequests, K.commandsCompleted, K.recordsUnrouted, K.faultLogOverwritten, K.faultRecordsSuppressed, K.fallbackGapOpen, K.gapRecords]) s (State.stopGroup s code detail tell) := by
  unfold State.stopGroup
  repeat' ((try with_reducible conv => arg 4; whnf); first
    | with_reducible apply Changes.refl
    | ((with_reducible show Area.sub _ _ = true); rfl)
    | ((with_reducible apply Entries.le_of_sub); rfl)
    | ((with_reducible apply Entries.le_only); simp; done)
    | intro _
    | with_reducible apply Changes.ite
    | with_reducible apply Changes.foldl
    | with_reducible apply Changes.andThen ?_ (State.send_changes _ _ ) ?_ ?_
    | with_reducible apply Changes.andThen ?_ (State.raiseCtx_changes _ _ _ _ _ _ ) ?_ ?_
    | split)

theorem State.takeOperand_changes (s : State) (p : TPacket) :
    Changes [.freeN, .blobs, .ctl, .belt, .pipe, .engine, .tracks, .eject, .memory, .knots, .host, .faults, .perf, .out] (.only [0x0804, 0x1205, 0x1402, 0x1703, K.decisionsIssued, K.fallbackDecisions, K.waitersInUse, K.waitersPeak, K.ownerResetReleases, K.knotDumpContext, K.groupState, K.groupFailCause, K.groupSkews, K.pulsesPending, K.pulsesPeak, K.pulsesScheduled, K.pulsesMerged, K.storeFullRefused, K.lateDecisions, K.missedDecisions, K.disabledChannelRequests, K.commandsCompleted, K.recordsUnrouted, K.faultLogOverwritten, K.faultRecordsSuppressed, K.fallbackGapOpen, K.gapRecords]) s (State.takeOperand s p) := by
  unfold State.takeOperand
  repeat' ((try with_reducible conv => arg 4; whnf); first
    | with_reducible apply Changes.refl
    | ((with_reducible show Area.sub _ _ = true); rfl)
    | ((with_reducible apply Entries.le_of_sub); rfl)
    | ((with_reducible apply Entries.le_only); simp; done)
    | intro _
    | with_reducible apply Changes.ite
    | with_reducible apply Changes.andThen ?_ (State.bump_changes _ _ _ ) ?_ ?_
    | with_reducible apply Changes.andThen ?_ (State.stopGroup_changes _ _ _ _ ) ?_ ?_
    | with_reducible apply Changes.andThen ?_ (State.groupFail_changes _ _ ) ?_ ?_
    | ((conv => arg 4; arg 24); with_reducible refine Changes.update ?_)
    | split)

theorem execOperand_changes (port : Nat) (p : TPacket) (s : State) {u : State} (h : execOperand port p s = .next u) :
    Changes [.freeN, .blobs, .ctl, .belt, .pipe, .engine, .tracks, .eject, .memory, .knots, .host, .faults, .perf, .out] (.only [0x0804, 0x0D08, 0x1205, 0x1402, 0x1703, K.decisionsIssued, K.fallbackDecisions, K.waitersInUse, K.waitersPeak, K.ownerResetReleases, K.knotDumpContext, K.groupState, K.groupFailCause, K.groupSkews, K.pulsesPending, K.pulsesPeak, K.pulsesScheduled, K.pulsesMerged, K.storeFullRefused, K.lateDecisions, K.missedDecisions, K.disabledChannelRequests, K.commandsCompleted, K.recordsUnrouted, K.faultLogOverwritten, K.faultRecordsSuppressed, K.fallbackGapOpen, K.gapRecords]) s u := by
  unfold execOperand at h
  refine State.onPacket_changes ?_ ?_ ?_ h
  repeat' ((try with_reducible conv => arg 4; whnf); first
    | with_reducible apply Changes.refl
    | ((with_reducible show Area.sub _ _ = true); rfl)
    | ((with_reducible apply Entries.le_of_sub); rfl)
    | ((with_reducible apply Entries.le_only); simp; done)
    | intro _
    | with_reducible apply Changes.andThen ?_ (State.takeOperand_changes _ _ ) ?_ ?_)

theorem execTetherWrite_changes (port : Nat) (p : TPacket) (s : State) {u : State} (h : execTetherWrite port p s = .next u) :
    Changes [.knots, .perf, .out] (.only [0x0D08, K.tetherErrorCompletions]) s u := by
  unfold execTetherWrite at h
  refine State.onPacket_changes ?_ ?_ ?_ h
  repeat' ((try with_reducible conv => arg 4; whnf); first
    | with_reducible apply Changes.refl
    | ((with_reducible show Area.sub _ _ = true); rfl)
    | ((with_reducible apply Entries.le_of_sub); rfl)
    | ((with_reducible apply Entries.le_only); simp; done)
    | intro _
    | with_reducible apply Changes.trans ?_ (State.unlessGloved_changes _ _ _ _  ?_ ?_ ?_)
    | ((conv => arg 4; arg 24); with_reducible refine Changes.update ?_))

theorem State.helloLate_changes (s : State) (m : Nat) :
    Changes [.knots] (.only [K.groupState, K.groupFailCause, K.membersSeen]) s (State.helloLate s m) := by
  unfold State.helloLate
  repeat' ((try with_reducible conv => arg 4; whnf); first
    | with_reducible apply Changes.refl
    | ((with_reducible show Area.sub _ _ = true); rfl)
    | ((with_reducible apply Entries.le_of_sub); rfl)
    | ((with_reducible apply Entries.le_only); simp; done)
    | intro _
    | with_reducible apply Changes.ite
    | with_reducible apply Changes.andThen ?_ (State.setReg_changes _ _ _ ) ?_ ?_
    | with_reducible apply Changes.andThen ?_ (State.groupFail_changes _ _ ) ?_ ?_
    | split)

theorem execHelloTimeout_changes (member : Nat) (s : State) {u : State} (h : execHelloTimeout member s = .next u) :
    Changes [.knots] (.only [K.groupState, K.groupFailCause, K.membersSeen]) s u := by
  unfold execHelloTimeout at h
  try (have h := guardUnit_next h)
  try injection h with h
  subst h
  repeat' ((try with_reducible conv => arg 4; whnf); first
    | with_reducible apply Changes.refl
    | ((with_reducible show Area.sub _ _ = true); rfl)
    | ((with_reducible apply Entries.le_of_sub); rfl)
    | ((with_reducible apply Entries.le_only); simp; done)
    | intro _
    | with_reducible apply Changes.andThen ?_ (State.helloLate_changes _ _ ) ?_ ?_)

theorem execTetherRetransmit_changes (port : Nat) (s : State) {u : State} (h : execTetherRetransmit port s = .next u) :
    Changes [.knots, .perf, .out] (.only [0x0D09]) s u := by
  unfold execTetherRetransmit at h
  try (have h := guardUnit_next h)
  try injection h with h
  subst h
  repeat' ((try with_reducible conv => arg 4; whnf); first
    | with_reducible apply Changes.refl
    | ((with_reducible show Area.sub _ _ = true); rfl)
    | ((with_reducible apply Entries.le_of_sub); rfl)
    | ((with_reducible apply Entries.le_only); simp; done)
    | intro _
    | with_reducible apply Changes.andThen ?_ (State.resend_changes _ _ ) ?_ ?_)

theorem execGroupFormationRetry_changes (s : State) {u : State} (h : execGroupFormationRetry s = .next u) :
    Changes [.knots, .perf, .out] (.only [K.groupState, K.groupFailCause, K.membersSeen]) s u := by
  unfold execGroupFormationRetry at h
  try (have h := guardUnit_next h)
  try injection h with h
  subst h
  repeat' ((try with_reducible conv => arg 4; whnf); first
    | with_reducible apply Changes.refl
    | ((with_reducible show Area.sub _ _ = true); rfl)
    | ((with_reducible apply Entries.le_of_sub); rfl)
    | ((with_reducible apply Entries.le_only); simp; done)
    | intro _
    | with_reducible apply Changes.ite
    | with_reducible apply Changes.andThen ?_ (State.startForm_changes _ ) ?_ ?_
    | split)

theorem State.takeBc_changes (s : State) (bc : Nat) :
    Changes [.belt, .knots, .out] (.only [K.groupState, K.groupFailCause]) s (State.takeBc s bc) := by
  unfold State.takeBc
  repeat' ((try with_reducible conv => arg 4; whnf); first
    | with_reducible apply Changes.refl
    | ((with_reducible show Area.sub _ _ = true); rfl)
    | ((with_reducible apply Entries.le_of_sub); rfl)
    | ((with_reducible apply Entries.le_only); simp; done)
    | intro _
    | with_reducible apply Changes.ite
    | with_reducible apply Changes.andThen ?_ (State.tryForm_changes _ ) ?_ ?_
    | ((conv => arg 4; arg 24); with_reducible refine Changes.update ?_)
    | split)

theorem execMember0Bc_changes (bc : Nat) (s : State) {u : State} (h : execMember0Bc bc s = .next u) :
    Changes [.belt, .knots, .out] (.only [K.groupState, K.groupFailCause]) s u := by
  unfold execMember0Bc at h
  try (have h := guardUnit_next h)
  try injection h with h
  subst h
  repeat' ((try with_reducible conv => arg 4; whnf); first
    | with_reducible apply Changes.refl
    | ((with_reducible show Area.sub _ _ = true); rfl)
    | ((with_reducible apply Entries.le_of_sub); rfl)
    | ((with_reducible apply Entries.le_only); simp; done)
    | intro _
    | with_reducible apply Changes.andThen ?_ (State.takeBc_changes _ _ ) ?_ ?_)

theorem execGroupStop_changes (port : Nat) (p : TPacket) (s : State) {u : State} (h : execGroupStop port p s = .next u) :
    Changes [.freeN, .blobs, .ctl, .belt, .pipe, .engine, .tracks, .eject, .memory, .knots, .host, .faults, .perf, .out] (.only [0x0804, 0x1205, 0x1402, 0x1703, K.decisionsIssued, K.fallbackDecisions, K.waitersInUse, K.waitersPeak, K.ownerResetReleases, K.knotDumpContext, K.pulsesPending, K.pulsesPeak, K.pulsesScheduled, K.pulsesMerged, K.storeFullRefused, K.lateDecisions, K.missedDecisions, K.disabledChannelRequests, K.commandsCompleted, K.recordsUnrouted, K.faultLogOverwritten, K.faultRecordsSuppressed, K.fallbackGapOpen, K.gapRecords]) s u := by
  unfold execGroupStop at h
  try (have h := guardUnit_next h)
  try injection h with h
  subst h
  repeat' ((try with_reducible conv => arg 4; whnf); first
    | with_reducible apply Changes.refl
    | ((with_reducible show Area.sub _ _ = true); rfl)
    | ((with_reducible apply Entries.le_of_sub); rfl)
    | ((with_reducible apply Entries.le_only); simp; done)
    | intro _
    | with_reducible apply Changes.andThen ?_ (State.stopGroup_changes _ _ _ _ ) ?_ ?_
    | with_reducible apply Changes.andThen ?_ (State.heard_changes _ _ ) ?_ ?_)

theorem execTetherHeartbeat_changes (port : Nat) (p : TPacket) (s : State) {u : State} (h : execTetherHeartbeat port p s = .next u) :
    Changes [.knots, .perf, .out] (.only [0x0D08]) s u := by
  unfold execTetherHeartbeat at h
  refine State.onPacket_changes ?_ ?_ ?_ h
  repeat' ((try with_reducible conv => arg 4; whnf); first
    | exact Changes.refl (s := _) (G := _)
    | with_reducible apply Changes.refl
    | ((with_reducible show Area.sub _ _ = true); rfl)
    | ((with_reducible apply Entries.le_of_sub); rfl)
    | ((with_reducible apply Entries.le_only); simp; done)
    | intro _
    | with_reducible apply Changes.ite
    | with_reducible apply Changes.ite_snd
    | with_reducible apply Changes.ite_fst
    | with_reducible apply Changes.ite_snd_snd
    | with_reducible apply Changes.foldl
    | with_reducible apply Changes.foldl_snd
    | with_reducible apply Changes.foldl_fst
    | ((conv => arg 4; arg 24); with_reducible refine Changes.update ?_)
    | split
    | with_reducible refine Changes.of_snd (by assumption) ?_)

theorem execErrorComp_changes (port : Nat) (p : TPacket) (s : State) {u : State} (h : execErrorComp port p s = .next u) :
    Changes [.knots, .host, .perf, .out] (.only [0x0D08, 0x1205, K.knotOpsRefused, K.commandsCompleted, K.recordsUnrouted]) s u := by
  unfold execErrorComp at h
  refine State.onPacket_changes ?_ ?_ ?_ h
  repeat' ((try with_reducible conv => arg 4; whnf); first
    | with_reducible apply Changes.refl
    | ((with_reducible show Area.sub _ _ = true); rfl)
    | ((with_reducible apply Entries.le_of_sub); rfl)
    | ((with_reducible apply Entries.le_only); simp; done)
    | intro _
    | with_reducible apply Changes.andThen ?_ (State.complete_changes _ _ _ _ ) ?_ ?_)

theorem execReadReq_changes (port : Nat) (p : TPacket) (s : State) {u : State} (h : execReadReq port p s = .next u) :
    Changes [.knots, .perf, .out] (.only [0x0D08, K.tetherErrorCompletions]) s u := by
  unfold execReadReq at h
  refine State.onPacket_changes ?_ ?_ ?_ h
  repeat' ((try with_reducible conv => arg 4; whnf); first
    | with_reducible apply Changes.refl
    | ((with_reducible show Area.sub _ _ = true); rfl)
    | ((with_reducible apply Entries.le_of_sub); rfl)
    | ((with_reducible apply Entries.le_only); simp; done)
    | intro _
    | with_reducible apply Changes.andThen ?_ (State.sendTo_changes _ _ _ _ _ _ _ _ ) ?_ ?_
    | with_reducible apply Changes.trans ?_ (State.unlessGloved_changes _ _ _ _  ?_ ?_ ?_))

theorem execAck_changes (port : Nat) (p : TPacket) (s : State) {u : State} (h : execAck port p s = .next u) :
    Changes [.knots, .perf, .out] (.only [0x0D08]) s u := by
  unfold execAck at h
  refine State.onPacket_changes ?_ ?_ ?_ h
  repeat' ((try with_reducible conv => arg 4; whnf); first
    | exact Changes.refl (s := _) (G := _)
    | with_reducible apply Changes.refl
    | ((with_reducible show Area.sub _ _ = true); rfl)
    | ((with_reducible apply Entries.le_of_sub); rfl)
    | ((with_reducible apply Entries.le_only); simp; done)
    | intro _
    | with_reducible apply Changes.ite
    | with_reducible apply Changes.ite_snd
    | with_reducible apply Changes.ite_fst
    | with_reducible apply Changes.ite_snd_snd
    | with_reducible apply Changes.foldl
    | with_reducible apply Changes.foldl_snd
    | with_reducible apply Changes.foldl_fst
    | ((conv => arg 4; arg 24); with_reducible refine Changes.update ?_)
    | split
    | with_reducible refine Changes.of_snd (by assumption) ?_)

theorem State.loseMember_changes (s : State) (m : Nat) :
    Changes [.freeN, .blobs, .ctl, .belt, .pipe, .engine, .tracks, .eject, .memory, .knots, .host, .faults, .perf, .out] (.only [0x0804, 0x0D0A, 0x1205, 0x1402, 0x1703, K.decisionsIssued, K.fallbackDecisions, K.waitersInUse, K.waitersPeak, K.ownerResetReleases, K.knotOpsRefused, K.knotDumpContext, K.groupState, K.groupFailCause, K.membersSeen, K.pulsesPending, K.pulsesPeak, K.pulsesScheduled, K.pulsesMerged, K.storeFullRefused, K.lateDecisions, K.missedDecisions, K.disabledChannelRequests, K.commandsCompleted, K.recordsUnrouted, K.faultLogOverwritten, K.faultRecordsSuppressed, K.fallbackGapOpen, K.gapRecords]) s (State.loseMember s m) := by
  unfold State.loseMember
  repeat' ((try with_reducible conv => arg 4; whnf); first
    | with_reducible apply Changes.refl
    | ((with_reducible show Area.sub _ _ = true); rfl)
    | ((with_reducible apply Entries.le_of_sub); rfl)
    | ((with_reducible apply Entries.le_only); simp; done)
    | intro _
    | with_reducible apply Changes.ite
    | with_reducible apply Changes.foldl
    | with_reducible apply Changes.andThen ?_ (State.setReg_changes _ _ _ ) ?_ ?_
    | with_reducible apply Changes.andThen ?_ (State.bump_changes _ _ _ ) ?_ ?_
    | with_reducible apply Changes.andThen ?_ (State.settleQueues_changes _ _ ) ?_ ?_
    | with_reducible apply Changes.andThen ?_ (State.setGroup_changes _ _ ) ?_ ?_
    | with_reducible apply Changes.andThen ?_ (State.stopGroup_changes _ _ _ _ ) ?_ ?_
    | with_reducible apply Changes.andThen ?_ (State.setWaiters_changes _ _ ) ?_ ?_
    | with_reducible apply Changes.andThen ?_ (State.emit_changes _ _ ) ?_ ?_
    | with_reducible apply Changes.andThen ?_ (State.endRequest_changes _ _ _ _ ) ?_ ?_
    | ((conv => arg 4; arg 24); with_reducible refine Changes.update ?_)
    | split)

theorem execMemberLost_changes (member : Nat) (s : State) {u : State} (h : execMemberLost member s = .next u) :
    Changes [.freeN, .blobs, .ctl, .belt, .pipe, .engine, .tracks, .eject, .memory, .knots, .host, .faults, .perf, .out] (.only [0x0804, 0x0D0A, 0x1205, 0x1402, 0x1703, K.decisionsIssued, K.fallbackDecisions, K.waitersInUse, K.waitersPeak, K.ownerResetReleases, K.knotOpsRefused, K.knotDumpContext, K.groupState, K.groupFailCause, K.membersSeen, K.pulsesPending, K.pulsesPeak, K.pulsesScheduled, K.pulsesMerged, K.storeFullRefused, K.lateDecisions, K.missedDecisions, K.disabledChannelRequests, K.commandsCompleted, K.recordsUnrouted, K.faultLogOverwritten, K.faultRecordsSuppressed, K.fallbackGapOpen, K.gapRecords]) s u := by
  unfold execMemberLost at h
  try (have h := guardUnit_next h)
  try injection h with h
  subst h
  repeat' ((try with_reducible conv => arg 4; whnf); first
    | with_reducible apply Changes.refl
    | ((with_reducible show Area.sub _ _ = true); rfl)
    | ((with_reducible apply Entries.le_of_sub); rfl)
    | ((with_reducible apply Entries.le_only); simp; done)
    | intro _
    | with_reducible apply Changes.andThen ?_ (State.loseMember_changes _ _ ) ?_ ?_)

theorem execTetherTestPattern_changes (port errors : Nat) (s : State) {u : State} (h : execTetherTestPattern port errors s = .next u) :
    Changes [] (.only [0x0D07]) s u := by
  unfold execTetherTestPattern at h
  try (have h := guardUnit_next h)
  try injection h with h
  subst h
  repeat' ((try with_reducible conv => arg 4; whnf); first
    | with_reducible apply Changes.refl
    | ((with_reducible show Area.sub _ _ = true); rfl)
    | ((with_reducible apply Entries.le_of_sub); rfl)
    | ((with_reducible apply Entries.le_only); simp; done)
    | intro _
    | with_reducible apply Changes.ite
    | with_reducible apply Changes.andThen ?_ (State.bump_changes _ _ _ ) ?_ ?_
    | split)

theorem State.heartbeat_changes (s : State) (port : Nat) :
    Changes [.knots, .perf, .out] (.only []) s (State.heartbeat s port) := by
  unfold State.heartbeat
  repeat' ((try with_reducible conv => arg 4; whnf); first
    | with_reducible apply Changes.refl
    | ((with_reducible show Area.sub _ _ = true); rfl)
    | ((with_reducible apply Entries.le_of_sub); rfl)
    | ((with_reducible apply Entries.le_only); simp; done)
    | intro _
    | with_reducible apply Changes.ite
    | with_reducible apply Changes.foldl
    | with_reducible apply Changes.andThen ?_ (State.sendOn_changes _ _ _ _ _ _ _ _ _ ) ?_ ?_
    | split)

theorem execTetherHeartbeatSend_changes (port : Nat) (s : State) {u : State} (h : execTetherHeartbeatSend port s = .next u) :
    Changes [.knots, .perf, .out] (.only []) s u := by
  unfold execTetherHeartbeatSend at h
  try (have h := guardUnit_next h)
  try injection h with h
  subst h
  repeat' ((try with_reducible conv => arg 4; whnf); first
    | with_reducible apply Changes.refl
    | ((with_reducible show Area.sub _ _ = true); rfl)
    | ((with_reducible apply Entries.le_of_sub); rfl)
    | ((with_reducible apply Entries.le_only); simp; done)
    | intro _
    | with_reducible apply Changes.andThen ?_ (State.heartbeat_changes _ _ ) ?_ ?_)

theorem execHello_changes (port : Nat) (p : TPacket) (h : HelloPath) (s : State) {u : State} (h : execHello port p h s = .next u) :
    Changes [.knots, .perf, .out] (.only [0x0D05, 0x0D08, K.groupState, K.groupFailCause, K.membersSeen]) s u := by
  unfold execHello at h
  refine State.onPacket_changes ?_ ?_ ?_ h
  repeat' ((try with_reducible conv => arg 4; whnf); first
    | with_reducible apply Changes.refl
    | ((with_reducible show Area.sub _ _ = true); rfl)
    | ((with_reducible apply Entries.le_of_sub); rfl)
    | ((with_reducible apply Entries.le_only); simp; done)
    | intro _
    | with_reducible apply Changes.andThen ?_ (State.takeHello_changes _ _ _ ) ?_ ?_)

end Sys2Proof.Machine
end

