-- ==== Sys2Proof/Laws/FrameCommit.lean ====
section
/-! SUPPORT. What each operation of Machine/Commit.lean changes and what it leaves unchanged. -/

-- one theorem after another: see NOTES.md
set_option Elab.async false

namespace Sys2Proof.Machine

theorem State.discardCmd_changes (s : State) :
    Changes [.ctl] (.only []) s (State.discardCmd s).2 := by
  unfold State.discardCmd
  repeat' ((try with_reducible conv => arg 4; arg 1; whnf); first
    | with_reducible apply Changes.refl
    | dsimp only
    | ((with_reducible show Area.sub _ _ = true); rfl)
    | ((with_reducible apply Entries.le_of_sub); rfl)
    | ((with_reducible apply Entries.le_only); simp; done)
    | intro _
    | with_reducible apply Changes.andThen ?_ (State.cmdOk_changes _ _ ) ?_ ?_
    | ((conv => arg 4; arg 24); with_reducible refine Changes.update ?_))

theorem execDiscard_changes (sess : Nat) (s : State) {u : State} (h : execDiscard sess s = .next u) :
    Changes [.ctl, .out] (.only []) s u := by
  unfold execDiscard at h
  try (have h := guardUnit_next h)
  try injection h with h
  subst h
  repeat' ((try with_reducible conv => arg 4; whnf); first
    | with_reducible apply Changes.refl
    | ((with_reducible show Area.sub _ _ = true); rfl)
    | ((with_reducible apply Entries.le_of_sub); rfl)
    | ((with_reducible apply Entries.le_only); simp; done)
    | intro _
    | with_reducible apply Changes.andThen ?_ (State.discardCmd_changes _ ) ?_ ?_
    | with_reducible apply Changes.trans ?_ (State.runCmd_changes _ _ _ _  ?_ ?_ ?_))

theorem State.fxSource_changes (s t : State) :
    Changes [.freeN, .ctl, .belt, .eject, .field, .power, .out] (.only [0x0F10, K.lastWakeCause, K.channelsOn]) t (State.fxSource s t) := by
  unfold State.fxSource
  repeat' ((try with_reducible conv => arg 4; whnf); first
    | with_reducible apply Changes.refl
    | ((with_reducible show Area.sub _ _ = true); rfl)
    | ((with_reducible apply Entries.le_of_sub); rfl)
    | ((with_reducible apply Entries.le_only); simp; done)
    | intro _
    | with_reducible apply Changes.ite
    | with_reducible apply Changes.andThen ?_ (State.setBeltSt_changes _ _ _ ) ?_ ?_
    | ((conv => arg 4; arg 24); with_reducible refine Changes.update ?_)
    | split)

theorem State.commitCmd_changes (s : State) (checkOnly : Bool) :
    Changes [.freeN, .ctl, .power] (.only []) s (State.commitCmd s checkOnly).2 := by
  unfold State.commitCmd
  repeat' ((try with_reducible conv => arg 4; arg 1; whnf); first
    | with_reducible apply Changes.refl
    | dsimp only
    | ((with_reducible show Area.sub _ _ = true); rfl)
    | ((with_reducible apply Entries.le_of_sub); rfl)
    | ((with_reducible apply Entries.le_only); simp; done)
    | intro _
    | with_reducible apply Changes.ite
    | with_reducible apply Changes.ite_snd
    | with_reducible apply Changes.andThen ?_ (State.cmdOk_changes _ _ ) ?_ ?_
    | with_reducible apply Changes.andThen ?_ (State.trackReady_changes _ ) ?_ ?_
    | with_reducible apply Changes.andThen ?_ (State.autoWake_changes _ ) ?_ ?_
    | with_reducible apply Changes.andThen ?_ (State.cmdBegin_changes _ _ ) ?_ ?_
    | ((conv => arg 4; arg 24); with_reducible refine Changes.update ?_)
    | split)

theorem State.beginDrain_changes (s t : State) (i : Nat) :
    Changes [.intake] (.only [0x0509, 0x050B]) t (State.beginDrain s t i) := by
  unfold State.beginDrain
  repeat' ((try with_reducible conv => arg 4; whnf); first
    | with_reducible apply Changes.refl
    | ((with_reducible show Area.sub _ _ = true); rfl)
    | ((with_reducible apply Entries.le_of_sub); rfl)
    | ((with_reducible apply Entries.le_only); simp; done)
    | intro _
    | with_reducible apply Changes.foldl
    | with_reducible apply Changes.andThen ?_ (State.setStream_changes _ _ _ ) ?_ ?_
    | with_reducible apply Changes.andThen ?_ (State.markMissing_changes _ _ _ _ _ ) ?_ ?_
    | split)

theorem State.fxStream_changes (s t : State) (i : Nat) :
    Changes [.ctl, .intake] (.only [0x0208, 0x0405, 0x0406, 0x0407, 0x0509, 0x050B]) t (State.fxStream s t i) := by
  unfold State.fxStream
  repeat' ((try with_reducible conv => arg 4; whnf); first
    | with_reducible apply Changes.refl
    | ((with_reducible show Area.sub _ _ = true); rfl)
    | ((with_reducible apply Entries.le_of_sub); rfl)
    | ((with_reducible apply Entries.le_only); simp; done)
    | intro _
    | with_reducible apply Changes.ite
    | with_reducible apply Changes.andThen ?_ (State.beginDrain_changes _ _ _ ) ?_ ?_
    | with_reducible apply Changes.andThen ?_ (State.setStream_changes _ _ _ ) ?_ ?_
    | with_reducible apply Changes.andThen ?_ (State.startFree_changes _ _ ) ?_ ?_
    | with_reducible apply Changes.andThen ?_ (State.startStream_changes _ _ ) ?_ ?_
    | with_reducible apply Changes.andThen ?_ (State.moveNextLine_changes _ _ _ ) ?_ ?_
    | split)

theorem State.noteChecks_changes (s : State) (fs : List Fail) :
    Changes [.blobs] (.only [K.lastCommitStatus, K.conflictCount]) s (State.noteChecks s fs) := by
  unfold State.noteChecks
  repeat' ((try with_reducible conv => arg 4; whnf); first
    | with_reducible apply Changes.refl
    | ((with_reducible show Area.sub _ _ = true); rfl)
    | ((with_reducible apply Entries.le_of_sub); rfl)
    | ((with_reducible apply Entries.le_only); simp; done)
    | intro _
    | with_reducible apply Changes.andThen ?_ (State.setReg_changes _ _ _ ) ?_ ?_
    | with_reducible apply Changes.andThen ?_ (State.setBlob_changes _ _ _ ) ?_ ?_
    | split)

theorem State.takeStaged_changes (s : State) :
    Changes [.blobs, .ctl, .engine, .memory] (.all) s (State.takeStaged s) := by
  unfold State.takeStaged
  repeat' ((try with_reducible conv => arg 4; whnf); first
    | with_reducible apply Changes.refl
    | ((with_reducible show Area.sub _ _ = true); rfl)
    | ((with_reducible apply Entries.le_of_sub); rfl)
    | ((with_reducible apply Entries.le_only); simp; done)
    | intro _
    | with_reducible apply Changes.foldl
    | with_reducible apply Changes.andThen ?_ (State.giveScratch_changes _ _ ) ?_ ?_
    | with_reducible apply Changes.andThen ?_ (State.after_changes _ _ ) ?_ ?_
    | ((conv => arg 4; arg 24); with_reducible refine Changes.update ?_))

theorem State.endStripes_changes (t : State) :
    Changes [.pipe] (.only []) t (State.endStripes t) := by
  unfold State.endStripes
  repeat' ((try with_reducible conv => arg 4; whnf); first
    | with_reducible apply Changes.refl
    | ((conv => arg 4; arg 24); with_reducible refine Changes.update ?_))

theorem State.fxGeometry_changes (s t : State) :
    Changes [.belt, .intake, .pipe] (.only [0x0208, 0x0509]) t (State.fxGeometry s t) := by
  unfold State.fxGeometry
  repeat' ((try with_reducible conv => arg 4; whnf); first
    | with_reducible apply Changes.refl
    | ((with_reducible show Area.sub _ _ = true); rfl)
    | ((with_reducible apply Entries.le_of_sub); rfl)
    | ((with_reducible apply Entries.le_only); simp; done)
    | intro _
    | with_reducible apply Changes.ite
    | with_reducible apply Changes.andThen ?_ (State.newNumbering_changes _ _ ) ?_ ?_
    | with_reducible apply Changes.andThen ?_ (State.recomputeLines_changes _ ) ?_ ?_
    | with_reducible apply Changes.andThen ?_ (State.endStripes_changes _ ) ?_ ?_
    | ((conv => arg 4; arg 24); refine Changes.updateIn ?_)
    | split)

theorem State.fxEncoder_changes (s t : State) (c : Nat) :
    Changes [.field] (.only [0x100D, 0x100E, 0x1010]) t (State.fxEncoder s t c) := by
  unfold State.fxEncoder
  repeat' ((try with_reducible conv => arg 4; whnf); first
    | with_reducible apply Changes.refl
    | ((with_reducible show Area.sub _ _ = true); rfl)
    | ((with_reducible apply Entries.le_of_sub); rfl)
    | ((with_reducible apply Entries.le_only); simp; done)
    | intro _
    | with_reducible apply Changes.ite
    | with_reducible apply Changes.andThen ?_ (State.setReg_changes _ _ _ ) ?_ ?_
    | with_reducible apply Changes.andThen ?_ (State.setEnc_changes _ _ _ ) ?_ ?_
    | split)

theorem State.fxInput_changes (s t : State) (n : Nat) :
    Changes [.field] (.only [K.inputLevels]) t (State.fxInput s t n) := by
  unfold State.fxInput
  repeat' ((try with_reducible conv => arg 4; whnf); first
    | with_reducible apply Changes.refl
    | ((with_reducible show Area.sub _ _ = true); rfl)
    | ((with_reducible apply Entries.le_of_sub); rfl)
    | ((with_reducible apply Entries.le_only); simp; done)
    | intro _
    | with_reducible apply Changes.ite
    | with_reducible apply Changes.andThen ?_ (State.setReg_changes _ _ _ ) ?_ ?_
    | with_reducible apply Changes.andThen ?_ (State.setInput_changes _ _ _ ) ?_ ?_
    | split)

theorem State.fxFast_changes (s t : State) (c : Nat) :
    Changes [.field] (.only [0x0E08]) t (State.fxFast s t c) := by
  unfold State.fxFast
  repeat' ((try with_reducible conv => arg 4; whnf); first
    | with_reducible apply Changes.refl
    | ((with_reducible show Area.sub _ _ = true); rfl)
    | ((with_reducible apply Entries.le_of_sub); rfl)
    | ((with_reducible apply Entries.le_only); simp; done)
    | intro _
    | with_reducible apply Changes.ite
    | with_reducible apply Changes.andThen ?_ (State.setReg_changes _ _ _ ) ?_ ?_
    | ((conv => arg 4; arg 24); with_reducible refine Changes.update ?_)
    | split)

theorem State.fxInputs_changes (s t : State) :
    Changes [.field] (.only [0x0E08, 0x100D, 0x100E, 0x1010, K.inputLevels]) t (State.fxInputs s t) := by
  unfold State.fxInputs
  repeat' ((try with_reducible conv => arg 4; whnf); first
    | with_reducible apply Changes.refl
    | ((with_reducible show Area.sub _ _ = true); rfl)
    | ((with_reducible apply Entries.le_of_sub); rfl)
    | ((with_reducible apply Entries.le_only); simp; done)
    | intro _
    | with_reducible apply Changes.foldl
    | with_reducible apply Changes.andThen ?_ (State.fxEncoder_changes _ _ _ ) ?_ ?_
    | with_reducible apply Changes.andThen ?_ (State.fxInput_changes _ _ _ ) ?_ ?_
    | with_reducible apply Changes.andThen ?_ (State.fxFast_changes _ _ _ ) ?_ ?_)

theorem State.fxChannel_changes (s t : State) (ch : Nat) :
    Changes [.ctl, .eject, .field, .out] (.only [0x0F10, K.channelsOn]) t (State.fxChannel s t ch) := by
  unfold State.fxChannel
  repeat' ((try with_reducible conv => arg 4; whnf); first
    | with_reducible apply Changes.refl
    | ((with_reducible show Area.sub _ _ = true); rfl)
    | ((with_reducible apply Entries.le_of_sub); rfl)
    | ((with_reducible apply Entries.le_only); simp; done)
    | intro _
    | with_reducible apply Changes.ite
    | with_reducible apply Changes.andThen ?_ (State.setPulses_changes _ _ _ ) ?_ ?_
    | with_reducible apply Changes.andThen ?_ (State.endTest_changes _ _ ) ?_ ?_
    | with_reducible apply Changes.andThen ?_ (State.cmdOut_changes _ _ _ ) ?_ ?_
    | with_reducible apply Changes.andThen ?_ (State.vlStrobe_changes _ _ _ _ ) ?_ ?_
    | with_reducible apply Changes.andThen ?_ (State.markOn_changes _ _ _ ) ?_ ?_
    | with_reducible apply Changes.andThen ?_ (State.vlAddTag_changes _ _ _ _ _ _ _ ) ?_ ?_
    | split)

theorem State.fxPort_changes (s t : State) (p : Nat) :
    Changes [.field, .out] (.only [0x0F10, 0x0F15]) t (State.fxPort s t p) := by
  unfold State.fxPort
  repeat' ((try with_reducible conv => arg 4; whnf); first
    | with_reducible apply Changes.refl
    | ((with_reducible show Area.sub _ _ = true); rfl)
    | ((with_reducible apply Entries.le_of_sub); rfl)
    | ((with_reducible apply Entries.le_only); simp; done)
    | intro _
    | with_reducible apply Changes.ite
    | with_reducible apply Changes.andThen ?_ (State.setReg_changes _ _ _ ) ?_ ?_
    | with_reducible apply Changes.andThen ?_ (State.setVl_changes _ _ _ ) ?_ ?_
    | with_reducible apply Changes.andThen ?_ (State.armPass_changes _ _ ) ?_ ?_
    | with_reducible apply Changes.andThen ?_ (State.vlControl_changes _ _ _ _ ) ?_ ?_
    | split)

theorem State.fxOutput_changes (s t : State) (o : Nat) :
    Changes [.field] (.only []) t (State.fxOutput s t o) := by
  unfold State.fxOutput
  repeat' ((try with_reducible conv => arg 4; whnf); first
    | with_reducible apply Changes.refl
    | ((with_reducible show Area.sub _ _ = true); rfl)
    | ((with_reducible apply Entries.le_of_sub); rfl)
    | ((with_reducible apply Entries.le_only); simp; done)
    | intro _
    | with_reducible apply Changes.ite
    | with_reducible apply Changes.andThen ?_ (State.setOut_changes _ _ _ ) ?_ ?_
    | split)

theorem State.fxOutputs_changes (s t : State) :
    Changes [.ctl, .eject, .field, .out] (.only [0x0F10, 0x0F15, K.pulsesPending, K.pulsesPeak, K.channelsOn]) t (State.fxOutputs s t) := by
  unfold State.fxOutputs
  repeat' ((try with_reducible conv => arg 4; whnf); first
    | with_reducible apply Changes.refl
    | ((with_reducible show Area.sub _ _ = true); rfl)
    | ((with_reducible apply Entries.le_of_sub); rfl)
    | ((with_reducible apply Entries.le_only); simp; done)
    | intro _
    | with_reducible apply Changes.ite
    | with_reducible apply Changes.foldl
    | with_reducible apply Changes.andThen ?_ (State.tallyPulses_changes _ ) ?_ ?_
    | with_reducible apply Changes.andThen ?_ (State.fxChannel_changes _ _ _ ) ?_ ?_
    | with_reducible apply Changes.andThen ?_ (State.fxPort_changes _ _ _ ) ?_ ?_
    | with_reducible apply Changes.andThen ?_ (State.fxOutput_changes _ _ _ ) ?_ ?_
    | split)

theorem State.fxFormat_changes (s t : State) (i : Nat) :
    Changes [.blobs, .pipe] (.only [0x0615]) t (State.fxFormat s t i) := by
  unfold State.fxFormat
  repeat' ((try with_reducible conv => arg 4; whnf); first
    | with_reducible apply Changes.refl
    | ((with_reducible show Area.sub _ _ = true); rfl)
    | ((with_reducible apply Entries.le_of_sub); rfl)
    | ((with_reducible apply Entries.le_only); simp; done)
    | intro _
    | with_reducible apply Changes.ite
    | with_reducible apply Changes.foldl
    | with_reducible apply Changes.andThen ?_ (State.setBlob_changes _ _ _ ) ?_ ?_
    | with_reducible apply Changes.andThen ?_ (State.setPctx_changes _ _ _ ) ?_ ?_
    | split)

theorem State.fxLink_changes (s t : State) (l : Nat) :
    Changes [.ctl, .intake] (.only [0x0405, 0x0406, 0x0407, 0x0509]) t (State.fxLink s t l) := by
  unfold State.fxLink
  repeat' ((try with_reducible conv => arg 4; whnf); first
    | with_reducible apply Changes.refl
    | ((with_reducible show Area.sub _ _ = true); rfl)
    | ((with_reducible apply Entries.le_of_sub); rfl)
    | ((with_reducible apply Entries.le_only); simp; done)
    | intro _
    | with_reducible apply Changes.ite
    | with_reducible apply Changes.andThen ?_ (State.testLink_changes _ _ ) ?_ ?_
    | with_reducible apply Changes.andThen ?_ (State.idleLink_changes _ _ ) ?_ ?_
    | with_reducible apply Changes.andThen ?_ (State.startStream_changes _ _ ) ?_ ?_
    | with_reducible apply Changes.andThen ?_ (State.setCam_changes _ _ _ ) ?_ ?_
    | split)

theorem State.fxIntake_changes (s t : State) :
    Changes [.blobs, .ctl, .intake, .pipe] (.only [0x0208, 0x0405, 0x0406, 0x0407, 0x0509, 0x050B, 0x0615]) t (State.fxIntake s t) := by
  unfold State.fxIntake
  repeat' ((try with_reducible conv => arg 4; whnf); first
    | with_reducible apply Changes.refl
    | ((with_reducible show Area.sub _ _ = true); rfl)
    | ((with_reducible apply Entries.le_of_sub); rfl)
    | ((with_reducible apply Entries.le_only); simp; done)
    | intro _
    | with_reducible apply Changes.ite
    | with_reducible apply Changes.foldl
    | with_reducible apply Changes.andThen ?_ (State.fxFormat_changes _ _ _ ) ?_ ?_
    | with_reducible apply Changes.andThen ?_ (State.fxLink_changes _ _ _ ) ?_ ?_
    | with_reducible apply Changes.andThen ?_ (State.fxStream_changes _ _ _ ) ?_ ?_
    | ((conv => arg 4; arg 24); with_reducible refine Changes.update ?_)
    | split)

theorem State.dropAgain_changes (t : State) :
    Changes [.pipe] (.only []) t (State.dropAgain t) := by
  unfold State.dropAgain
  repeat' ((try with_reducible conv => arg 4; whnf); first
    | with_reducible apply Changes.refl
    | ((conv => arg 4; arg 24); with_reducible refine Changes.update ?_))

theorem State.fxStripes_changes (s t : State) :
    Changes [.belt, .pipe] (.only []) t (State.fxStripes s t) := by
  unfold State.fxStripes
  repeat' ((try with_reducible conv => arg 4; whnf); first
    | with_reducible apply Changes.refl
    | ((with_reducible show Area.sub _ _ = true); rfl)
    | ((with_reducible apply Entries.le_of_sub); rfl)
    | ((with_reducible apply Entries.le_only); simp; done)
    | intro _
    | with_reducible apply Changes.ite
    | with_reducible apply Changes.andThen ?_ (State.dropAgain_changes _ ) ?_ ?_
    | ((conv => arg 4; arg 24); with_reducible refine Changes.update ?_)
    | split)

theorem State.fxContext_changes (t : State) (c : Nat) :
    Changes [.engine] (.only []) t (State.fxContext t c) := by
  unfold State.fxContext
  repeat' ((try with_reducible conv => arg 4; whnf); first
    | with_reducible apply Changes.refl
    | ((with_reducible show Area.sub _ _ = true); rfl)
    | ((with_reducible apply Entries.le_of_sub); rfl)
    | ((with_reducible apply Entries.le_only); simp; done)
    | intro _
    | with_reducible apply Changes.ite
    | with_reducible apply Changes.andThen ?_ (State.setCtx_changes _ _ _ ) ?_ ?_
    | split)

theorem State.fxZero_changes (s t : State) (keep : Bool) :
    Changes [.engine, .tracks, .faults] (.only [K.fallbackGapOpen]) t (State.fxZero s t keep) := by
  unfold State.fxZero
  repeat' ((try with_reducible conv => arg 4; whnf); first
    | with_reducible apply Changes.refl
    | ((with_reducible show Area.sub _ _ = true); rfl)
    | ((with_reducible apply Entries.le_of_sub); rfl)
    | ((with_reducible apply Entries.le_only); simp; done)
    | intro _
    | with_reducible apply Changes.ite
    | with_reducible apply Changes.andThen ?_ (State.keepScales_changes _ ) ?_ ?_
    | with_reducible apply Changes.andThen ?_ (State.closeGap_changes _ ) ?_ ?_
    | with_reducible apply Changes.andThen ?_ (State.freeScales_changes _ _ ) ?_ ?_
    | with_reducible apply Changes.andThen ?_ (State.setCtx_changes _ _ _ ) ?_ ?_
    | ((conv => arg 4; arg 24); with_reducible refine Changes.update ?_)
    | split)

theorem State.fxPlans_changes (s t : State) (keep : Bool) :
    Changes [.engine, .tracks, .knots, .host, .faults, .perf, .out] (.only [0x1205, K.waitersInUse, K.waitersPeak, K.groupState, K.groupFailCause, K.membersSeen, K.commandsCompleted, K.recordsUnrouted, K.fallbackGapOpen]) t (State.fxPlans s t keep) := by
  unfold State.fxPlans
  repeat' ((try with_reducible conv => arg 4; whnf); first
    | with_reducible apply Changes.refl
    | ((with_reducible show Area.sub _ _ = true); rfl)
    | ((with_reducible apply Entries.le_of_sub); rfl)
    | ((with_reducible apply Entries.le_only); simp; done)
    | intro _
    | with_reducible apply Changes.ite
    | with_reducible apply Changes.foldl
    | with_reducible apply Changes.andThen ?_ (State.bindPlan_changes _ _ _ ) ?_ ?_
    | with_reducible apply Changes.andThen ?_ (State.fxContext_changes _ _ ) ?_ ?_
    | with_reducible apply Changes.andThen ?_ (State.freeScales_changes _ _ ) ?_ ?_
    | with_reducible apply Changes.andThen ?_ (State.startForm_changes _ ) ?_ ?_
    | with_reducible apply Changes.andThen ?_ (State.fxZero_changes _ _ _ ) ?_ ?_
    | split)

theorem State.zeroSinceCommit_changes (t : State) :
    Changes [.engine] (.all) t (State.zeroSinceCommit t) := by
  unfold State.zeroSinceCommit
  repeat' ((try with_reducible conv => arg 4; whnf); first
    | with_reducible apply Changes.refl
    | ((with_reducible show Area.sub _ _ = true); rfl)
    | ((with_reducible apply Entries.le_of_sub); rfl)
    | ((with_reducible apply Entries.le_only); simp; done)
    | intro _
    | with_reducible apply Changes.foldl
    | with_reducible apply Changes.andThen ?_ (State.zeroEntry_changes _ _ ) ?_ ?_
    | ((conv => arg 4; arg 24); with_reducible refine Changes.update ?_))

theorem State.fxCounters_changes (s t : State) :
    Changes [.perf] (.only [0x1513, 0x1514]) t (State.fxCounters s t) := by
  unfold State.fxCounters
  repeat' ((try with_reducible conv => arg 4; whnf); first
    | with_reducible apply Changes.refl
    | ((with_reducible show Area.sub _ _ = true); rfl)
    | ((with_reducible apply Entries.le_of_sub); rfl)
    | ((with_reducible apply Entries.le_only); simp; done)
    | intro _
    | with_reducible apply Changes.ite
    | with_reducible apply Changes.foldl
    | with_reducible apply Changes.andThen ?_ (State.setCounter_changes _ _ _ _ ) ?_ ?_
    | with_reducible apply Changes.andThen ?_ (State.clearPeaks_changes _ ) ?_ ?_
    | ((conv => arg 4; arg 24); with_reducible refine Changes.update ?_)
    | split)

theorem State.applyCommit_changes (s : State) (time : Nat) :
    Changes [.freeN, .blobs, .ctl, .belt, .intake, .pipe, .engine, .tracks, .eject, .field, .memory, .knots, .host, .net, .faults, .power, .perf, .out] (.all) s (State.applyCommit s time) := by
  unfold State.applyCommit
  repeat' ((try with_reducible conv => arg 4; whnf); first
    | with_reducible apply Changes.refl
    | ((with_reducible show Area.sub _ _ = true); rfl)
    | ((with_reducible apply Entries.le_of_sub); rfl)
    | ((with_reducible apply Entries.le_only); simp; done)
    | intro _
    | with_reducible apply Changes.ite
    | with_reducible apply Changes.andThen ?_ (State.takeStaged_changes _ ) ?_ ?_
    | with_reducible apply Changes.andThen ?_ (State.setReg_changes _ _ _ ) ?_ ?_
    | with_reducible apply Changes.andThen ?_ (State.bump_changes _ _ _ ) ?_ ?_
    | with_reducible apply Changes.andThen ?_ (State.fxSource_changes _ _ ) ?_ ?_
    | with_reducible apply Changes.andThen ?_ (State.releaseBoot_changes _ ) ?_ ?_
    | with_reducible apply Changes.andThen ?_ (State.trackReady_changes _ ) ?_ ?_
    | with_reducible apply Changes.andThen ?_ (State.fxGeometry_changes _ _ ) ?_ ?_
    | with_reducible apply Changes.andThen ?_ (State.settlePorts_changes _ _ ) ?_ ?_
    | with_reducible apply Changes.andThen ?_ (State.fxInputs_changes _ _ ) ?_ ?_
    | with_reducible apply Changes.andThen ?_ (State.fxOutputs_changes _ _ ) ?_ ?_
    | with_reducible apply Changes.andThen ?_ (State.fxIntake_changes _ _ ) ?_ ?_
    | with_reducible apply Changes.andThen ?_ (State.fxStripes_changes _ _ ) ?_ ?_
    | with_reducible apply Changes.andThen ?_ (State.cmdSet_changes _ _ _ ) ?_ ?_
    | with_reducible apply Changes.andThen ?_ (State.fxPlans_changes _ _ _ ) ?_ ?_
    | with_reducible apply Changes.andThen ?_ (State.reviewPlans_changes _ ) ?_ ?_
    | with_reducible apply Changes.andThen ?_ (State.zeroSinceCommit_changes _ ) ?_ ?_
    | with_reducible apply Changes.andThen ?_ (State.retrack_changes _ _ ) ?_ ?_
    | with_reducible apply Changes.andThen ?_ (State.fxCounters_changes _ _ ) ?_ ?_
    | split)

theorem State.commitNow_changes (s : State) :
    Changes [.freeN, .blobs, .ctl, .belt, .intake, .pipe, .engine, .tracks, .eject, .field, .memory, .knots, .host, .net, .faults, .power, .perf, .out] (.all) s (State.commitNow s) := by
  unfold State.commitNow
  repeat' ((try with_reducible conv => arg 4; whnf); first
    | with_reducible apply Changes.refl
    | ((with_reducible show Area.sub _ _ = true); rfl)
    | ((with_reducible apply Entries.le_of_sub); rfl)
    | ((with_reducible apply Entries.le_only); simp; done)
    | intro _
    | with_reducible apply Changes.andThen ?_ (State.applyCommit_changes _ _ ) ?_ ?_
    | with_reducible apply Changes.andThen ?_ (State.takeFree_changes _ ) ?_ ?_
    | split)

theorem State.commitOver_changes (s : State) (st : Nat) :
    Changes [.ctl, .power] (.only []) s (State.commitOver s st) := by
  unfold State.commitOver
  repeat' ((try with_reducible conv => arg 4; whnf); first
    | with_reducible apply Changes.refl
    | ((with_reducible show Area.sub _ _ = true); rfl)
    | ((with_reducible apply Entries.le_of_sub); rfl)
    | ((with_reducible apply Entries.le_only); simp; done)
    | intro _
    | with_reducible apply Changes.andThen ?_ (State.trackReady_changes _ ) ?_ ?_
    | with_reducible apply Changes.andThen ?_ (State.cmdSet_changes _ _ _ ) ?_ ?_
    | ((conv => arg 4; arg 24); with_reducible refine Changes.update ?_))

theorem State.checksEnd_changes (s : State) :
    Changes [.freeN, .blobs, .ctl, .belt, .intake, .pipe, .engine, .tracks, .eject, .field, .memory, .knots, .host, .net, .faults, .power, .perf, .out] (.all) s (State.checksEnd s) := by
  unfold State.checksEnd
  repeat' ((try with_reducible conv => arg 4; whnf); first
    | with_reducible apply Changes.refl
    | ((with_reducible show Area.sub _ _ = true); rfl)
    | ((with_reducible apply Entries.le_of_sub); rfl)
    | ((with_reducible apply Entries.le_only); simp; done)
    | intro _
    | with_reducible apply Changes.ite
    | with_reducible apply Changes.andThen ?_ (State.noteChecks_changes _ _ ) ?_ ?_
    | with_reducible apply Changes.andThen ?_ (State.commitNow_changes _ ) ?_ ?_
    | with_reducible apply Changes.andThen ?_ (State.commitOver_changes _ _ ) ?_ ?_
    | ((conv => arg 4; arg 24); with_reducible refine Changes.update ?_)
    | split)

theorem execCommitChecksEnd_changes (s : State) {u : State} (h : execCommitChecksEnd s = .next u) :
    Changes [.freeN, .blobs, .ctl, .belt, .intake, .pipe, .engine, .tracks, .eject, .field, .memory, .knots, .host, .net, .faults, .power, .perf, .out] (.all) s u := by
  unfold execCommitChecksEnd at h
  try (have h := guardUnit_next h)
  try injection h with h
  subst h
  repeat' ((try with_reducible conv => arg 4; whnf); first
    | with_reducible apply Changes.refl
    | ((with_reducible show Area.sub _ _ = true); rfl)
    | ((with_reducible apply Entries.le_of_sub); rfl)
    | ((with_reducible apply Entries.le_only); simp; done)
    | intro _
    | with_reducible apply Changes.andThen ?_ (State.checksEnd_changes _ ) ?_ ?_)

theorem State.commitIfDue_changes (s : State) :
    Changes [.freeN, .blobs, .ctl, .belt, .intake, .pipe, .engine, .tracks, .eject, .field, .memory, .knots, .host, .net, .faults, .power, .perf, .out] (.all) s (State.commitIfDue s) := by
  unfold State.commitIfDue
  repeat' ((try with_reducible conv => arg 4; whnf); first
    | with_reducible apply Changes.refl
    | ((with_reducible show Area.sub _ _ = true); rfl)
    | ((with_reducible apply Entries.le_of_sub); rfl)
    | ((with_reducible apply Entries.le_only); simp; done)
    | intro _
    | with_reducible apply Changes.ite
    | with_reducible apply Changes.andThen ?_ (State.applyCommit_changes _ _ ) ?_ ?_
    | with_reducible apply Changes.andThen ?_ (State.commitOver_changes _ _ ) ?_ ?_
    | split)

theorem execCommitInstant_changes (s : State) {u : State} (h : execCommitInstant s = .next u) :
    Changes [.freeN, .blobs, .ctl, .belt, .intake, .pipe, .engine, .tracks, .eject, .field, .memory, .knots, .host, .net, .faults, .power, .perf, .out] (.all) s u := by
  unfold execCommitInstant at h
  try (have h := guardUnit_next h)
  try injection h with h
  subst h
  repeat' ((try with_reducible conv => arg 4; whnf); first
    | with_reducible apply Changes.refl
    | ((with_reducible show Area.sub _ _ = true); rfl)
    | ((with_reducible apply Entries.le_of_sub); rfl)
    | ((with_reducible apply Entries.le_only); simp; done)
    | intro _
    | with_reducible apply Changes.andThen ?_ (State.formIbp_changes _ ) ?_ ?_
    | with_reducible apply Changes.andThen ?_ (State.commitIfDue_changes _ ) ?_ ?_)

theorem execCheckOnly_changes (sess : Nat) (s : State) {u : State} (h : execCheckOnly sess s = .next u) :
    Changes [.freeN, .ctl, .power, .out] (.only []) s u := by
  unfold execCheckOnly at h
  try (have h := guardUnit_next h)
  try injection h with h
  subst h
  repeat' ((try with_reducible conv => arg 4; whnf); first
    | with_reducible apply Changes.refl
    | ((with_reducible show Area.sub _ _ = true); rfl)
    | ((with_reducible apply Entries.le_of_sub); rfl)
    | ((with_reducible apply Entries.le_only); simp; done)
    | intro _
    | with_reducible apply Changes.andThen ?_ (State.commitCmd_changes _ _ ) ?_ ?_
    | with_reducible apply Changes.trans ?_ (State.runCmd_changes _ _ _ _  ?_ ?_ ?_))

theorem execCommit_changes (sess : Nat) (s : State) {u : State} (h : execCommit sess s = .next u) :
    Changes [.freeN, .ctl, .power, .out] (.only []) s u := by
  unfold execCommit at h
  try (have h := guardUnit_next h)
  try injection h with h
  subst h
  repeat' ((try with_reducible conv => arg 4; whnf); first
    | with_reducible apply Changes.refl
    | ((with_reducible show Area.sub _ _ = true); rfl)
    | ((with_reducible apply Entries.le_of_sub); rfl)
    | ((with_reducible apply Entries.le_only); simp; done)
    | intro _
    | with_reducible apply Changes.andThen ?_ (State.commitCmd_changes _ _ ) ?_ ?_
    | with_reducible apply Changes.trans ?_ (State.runCmd_changes _ _ _ _  ?_ ?_ ?_))

end Sys2Proof.Machine
end

