-- ==== Sys2Proof/Laws/FrameEject.lean ====
section
/-! SUPPORT. What each operation of Machine/Eject.lean changes and what it leaves unchanged. -/

-- one theorem after another: see NOTES.md
set_option Elab.async false

namespace Sys2Proof.Machine

theorem State.fireErrorClearCmd_changes (s : State) :
    Changes [.ctl] (.only [K.fireEdgesMeasured, K.fireEdgesOutside, K.fireErrorMin, K.fireErrorMax]) s (State.fireErrorClearCmd s).2 := by
  unfold State.fireErrorClearCmd
  repeat' ((try with_reducible conv => arg 4; arg 1; whnf); first
    | with_reducible apply Changes.refl
    | dsimp only
    | ((with_reducible show Area.sub _ _ = true); rfl)
    | ((with_reducible apply Entries.le_of_sub); rfl)
    | ((with_reducible apply Entries.le_only); simp; done)
    | intro _
    | with_reducible apply Changes.andThen ?_ (State.setReg_changes _ _ _ ) ?_ ?_
    | with_reducible apply Changes.andThen ?_ (State.cmdOk_changes _ _ ) ?_ ?_)

theorem State.beginTest_changes (s : State) (ch ms : Nat) :
    Changes [.eject, .field, .host, .perf, .out] (.only [0x0F10, 0x1205, K.channelsOn, K.outputNotDriven, K.recordsUnrouted]) s (State.beginTest s ch ms) := by
  unfold State.beginTest
  repeat' ((try with_reducible conv => arg 4; whnf); first
    | with_reducible apply Changes.refl
    | ((with_reducible show Area.sub _ _ = true); rfl)
    | ((with_reducible apply Entries.le_of_sub); rfl)
    | ((with_reducible apply Entries.le_only); simp; done)
    | intro _
    | with_reducible apply Changes.ite
    | with_reducible apply Changes.andThen ?_ (State.bump_changes _ _ _ ) ?_ ?_
    | with_reducible apply Changes.andThen ?_ (State.cmdOut_changes _ _ _ ) ?_ ?_
    | with_reducible apply Changes.andThen ?_ (State.vlStrobe_changes _ _ _ _ ) ?_ ?_
    | with_reducible apply Changes.andThen ?_ (State.markOn_changes _ _ _ ) ?_ ?_
    | with_reducible apply Changes.andThen ?_ (State.setRef_changes _ _ _ _ ) ?_ ?_
    | with_reducible apply Changes.andThen ?_ (State.vlAddTag_changes _ _ _ _ _ _ _ ) ?_ ?_
    | with_reducible apply Changes.andThen ?_ (State.count_changes _ _ _ _ _ _ _ _ ) ?_ ?_
    | ((conv => arg 4; arg 24); with_reducible refine Changes.update ?_)
    | split)

theorem State.testPulseCmd_changes (s : State) (v : Nat) :
    Changes [.ctl, .eject, .field, .host, .perf, .out] (.only [0x0F10, 0x1205, K.channelsOn, K.outputNotDriven, K.recordsUnrouted]) s (State.testPulseCmd s v).2 := by
  unfold State.testPulseCmd
  repeat' ((try with_reducible conv => arg 4; arg 1; whnf); first
    | with_reducible apply Changes.refl
    | dsimp only
    | ((with_reducible show Area.sub _ _ = true); rfl)
    | ((with_reducible apply Entries.le_of_sub); rfl)
    | ((with_reducible apply Entries.le_only); simp; done)
    | intro _
    | with_reducible apply Changes.ite
    | with_reducible apply Changes.ite_snd
    | with_reducible apply Changes.andThen ?_ (State.beginTest_changes _ _ _ ) ?_ ?_
    | with_reducible apply Changes.andThen ?_ (State.cmdBegin_changes _ _ ) ?_ ?_
    | split)

theorem State.takeUpNext_changes (s : State) :
    Changes [.tracks, .eject, .host, .perf, .out] (.only [0x1205, K.pulsesPending, K.pulsesPeak, K.pulsesScheduled, K.pulsesMerged, K.storeFullRefused, K.lateDecisions, K.missedDecisions, K.disabledChannelRequests, K.recordsUnrouted]) s (State.takeUpNext s) := by
  unfold State.takeUpNext
  repeat' ((try with_reducible conv => arg 4; whnf); first
    | with_reducible apply Changes.refl
    | ((with_reducible show Area.sub _ _ = true); rfl)
    | ((with_reducible apply Entries.le_of_sub); rfl)
    | ((with_reducible apply Entries.le_only); simp; done)
    | intro _
    | with_reducible apply Changes.andThen ?_ (State.takeUpDecision_changes _ _ ) ?_ ?_
    | ((conv => arg 4; arg 24); with_reducible refine Changes.update ?_)
    | split)

theorem execDecisionRecordTakeUp_changes (s : State) {u : State} (h : execDecisionRecordTakeUp s = .next u) :
    Changes [.tracks, .eject, .host, .perf, .out] (.only [0x1205, K.pulsesPending, K.pulsesPeak, K.pulsesScheduled, K.pulsesMerged, K.storeFullRefused, K.lateDecisions, K.missedDecisions, K.disabledChannelRequests, K.recordsUnrouted]) s u := by
  unfold execDecisionRecordTakeUp at h
  try (have h := guardUnit_next h)
  try injection h with h
  subst h
  repeat' ((try with_reducible conv => arg 4; whnf); first
    | with_reducible apply Changes.refl
    | ((with_reducible show Area.sub _ _ = true); rfl)
    | ((with_reducible apply Entries.le_of_sub); rfl)
    | ((with_reducible apply Entries.le_only); simp; done)
    | intro _
    | with_reducible apply Changes.andThen ?_ (State.takeUpNext_changes _ ) ?_ ?_)

theorem execValveTestPulse_changes (sess val : Nat) (s : State) {u : State} (h : execValveTestPulse sess val s = .next u) :
    Changes [.ctl, .eject, .field, .host, .perf, .out] (.only [0x0F10, 0x1205, K.channelsOn, K.outputNotDriven, K.recordsUnrouted]) s u := by
  unfold execValveTestPulse at h
  try (have h := guardUnit_next h)
  try injection h with h
  subst h
  repeat' ((try with_reducible conv => arg 4; whnf); first
    | with_reducible apply Changes.refl
    | ((with_reducible show Area.sub _ _ = true); rfl)
    | ((with_reducible apply Entries.le_of_sub); rfl)
    | ((with_reducible apply Entries.le_only); simp; done)
    | intro _
    | with_reducible apply Changes.andThen ?_ (State.testPulseCmd_changes _ _ ) ?_ ?_
    | with_reducible apply Changes.trans ?_ (State.runCmd_changes _ _ _ _  ?_ ?_ ?_))

theorem State.splitReopen_changes (s : State) (ch : Nat) :
    Changes [.eject, .field, .host, .perf, .out] (.only [0x0F10, 0x1205, K.pulsesPending, K.pulsesPeak, K.channelsOn, K.pulsesSplit, K.outputNotDriven, K.recordsUnrouted]) s (State.splitReopen s ch) := by
  unfold State.splitReopen
  repeat' ((try with_reducible conv => arg 4; whnf); first
    | with_reducible apply Changes.refl
    | ((with_reducible show Area.sub _ _ = true); rfl)
    | ((with_reducible apply Entries.le_of_sub); rfl)
    | ((with_reducible apply Entries.le_only); simp; done)
    | intro _
    | with_reducible apply Changes.ite
    | with_reducible apply Changes.andThen ?_ (State.setPulses_changes _ _ _ ) ?_ ?_
    | with_reducible apply Changes.andThen ?_ (State.bump_changes _ _ _ ) ?_ ?_
    | with_reducible apply Changes.andThen ?_ (State.tallyPulses_changes _ ) ?_ ?_
    | with_reducible apply Changes.andThen ?_ (State.driveEdge_changes _ _ _ _ _ ) ?_ ?_
    | split)

theorem execSplitReopen_changes (chan : Nat) (s : State) {u : State} (h : execSplitReopen chan s = .next u) :
    Changes [.eject, .field, .host, .perf, .out] (.only [0x0F10, 0x1205, K.pulsesPending, K.pulsesPeak, K.channelsOn, K.pulsesSplit, K.outputNotDriven, K.recordsUnrouted]) s u := by
  unfold execSplitReopen at h
  try (have h := guardUnit_next h)
  try injection h with h
  subst h
  repeat' ((try with_reducible conv => arg 4; whnf); first
    | with_reducible apply Changes.refl
    | ((with_reducible show Area.sub _ _ = true); rfl)
    | ((with_reducible apply Entries.le_of_sub); rfl)
    | ((with_reducible apply Entries.le_only); simp; done)
    | intro _
    | with_reducible apply Changes.andThen ?_ (State.splitReopen_changes _ _ ) ?_ ?_)

theorem execFireErrorClear_changes (sess : Nat) (s : State) {u : State} (h : execFireErrorClear sess s = .next u) :
    Changes [.ctl, .out] (.only [K.fireEdgesMeasured, K.fireEdgesOutside, K.fireErrorMin, K.fireErrorMax]) s u := by
  unfold execFireErrorClear at h
  try (have h := guardUnit_next h)
  try injection h with h
  subst h
  repeat' ((try with_reducible conv => arg 4; whnf); first
    | with_reducible apply Changes.refl
    | ((with_reducible show Area.sub _ _ = true); rfl)
    | ((with_reducible apply Entries.le_of_sub); rfl)
    | ((with_reducible apply Entries.le_only); simp; done)
    | intro _
    | with_reducible apply Changes.andThen ?_ (State.fireErrorClearCmd_changes _ ) ?_ ?_
    | with_reducible apply Changes.trans ?_ (State.runCmd_changes _ _ _ _  ?_ ?_ ?_))

theorem State.maxOnExpiry_changes (s : State) (ch : Nat) :
    Changes [.eject, .field, .host, .perf, .out] (.only [0x0F10, 0x1205, K.pulsesPending, K.pulsesPeak, K.channelsOn, K.outputNotDriven, K.recordsUnrouted]) s (State.maxOnExpiry s ch) := by
  unfold State.maxOnExpiry
  repeat' ((try with_reducible conv => arg 4; whnf); first
    | with_reducible apply Changes.refl
    | ((with_reducible show Area.sub _ _ = true); rfl)
    | ((with_reducible apply Entries.le_of_sub); rfl)
    | ((with_reducible apply Entries.le_only); simp; done)
    | intro _
    | with_reducible apply Changes.ite
    | with_reducible apply Changes.andThen ?_ (State.setPulses_changes _ _ _ ) ?_ ?_
    | with_reducible apply Changes.andThen ?_ (State.tallyPulses_changes _ ) ?_ ?_
    | with_reducible apply Changes.andThen ?_ (State.driveEdge_changes _ _ _ _ _ ) ?_ ?_
    | split)

theorem execMaxOnTimeExpiry_changes (chan : Nat) (s : State) {u : State} (h : execMaxOnTimeExpiry chan s = .next u) :
    Changes [.eject, .field, .host, .perf, .out] (.only [0x0F10, 0x1205, K.pulsesPending, K.pulsesPeak, K.channelsOn, K.outputNotDriven, K.recordsUnrouted]) s u := by
  unfold execMaxOnTimeExpiry at h
  try (have h := guardUnit_next h)
  try injection h with h
  subst h
  repeat' ((try with_reducible conv => arg 4; whnf); first
    | with_reducible apply Changes.refl
    | ((with_reducible show Area.sub _ _ = true); rfl)
    | ((with_reducible apply Entries.le_of_sub); rfl)
    | ((with_reducible apply Entries.le_only); simp; done)
    | intro _
    | with_reducible apply Changes.andThen ?_ (State.maxOnExpiry_changes _ _ ) ?_ ?_)

theorem State.minOnClose_changes (s : State) (ch : Nat) :
    Changes [.eject, .field, .host, .perf, .out] (.only [0x0F10, 0x1205, K.pulsesPending, K.pulsesPeak, K.channelsOn, K.outputNotDriven, K.recordsUnrouted]) s (State.minOnClose s ch) := by
  unfold State.minOnClose
  repeat' ((try with_reducible conv => arg 4; whnf); first
    | with_reducible apply Changes.refl
    | ((with_reducible show Area.sub _ _ = true); rfl)
    | ((with_reducible apply Entries.le_of_sub); rfl)
    | ((with_reducible apply Entries.le_only); simp; done)
    | intro _
    | with_reducible apply Changes.ite
    | with_reducible apply Changes.andThen ?_ (State.setPulses_changes _ _ _ ) ?_ ?_
    | with_reducible apply Changes.andThen ?_ (State.tallyPulses_changes _ ) ?_ ?_
    | with_reducible apply Changes.andThen ?_ (State.driveEdge_changes _ _ _ _ _ ) ?_ ?_
    | split)

theorem execMinOnTimeClose_changes (chan : Nat) (s : State) {u : State} (h : execMinOnTimeClose chan s = .next u) :
    Changes [.eject, .field, .host, .perf, .out] (.only [0x0F10, 0x1205, K.pulsesPending, K.pulsesPeak, K.channelsOn, K.outputNotDriven, K.recordsUnrouted]) s u := by
  unfold execMinOnTimeClose at h
  try (have h := guardUnit_next h)
  try injection h with h
  subst h
  repeat' ((try with_reducible conv => arg 4; whnf); first
    | with_reducible apply Changes.refl
    | ((with_reducible show Area.sub _ _ = true); rfl)
    | ((with_reducible apply Entries.le_of_sub); rfl)
    | ((with_reducible apply Entries.le_only); simp; done)
    | intro _
    | with_reducible apply Changes.andThen ?_ (State.minOnClose_changes _ _ ) ?_ ?_)

theorem State.testPulseEnd_changes (s : State) :
    Changes [.ctl, .eject, .field, .out] (.only [0x0F10, K.channelsOn]) s (State.testPulseEnd s) := by
  unfold State.testPulseEnd
  repeat' ((try with_reducible conv => arg 4; whnf); first
    | with_reducible apply Changes.refl
    | ((with_reducible show Area.sub _ _ = true); rfl)
    | ((with_reducible apply Entries.le_of_sub); rfl)
    | ((with_reducible apply Entries.le_only); simp; done)
    | intro _
    | with_reducible apply Changes.ite
    | with_reducible apply Changes.andThen ?_ (State.endTest_changes _ _ ) ?_ ?_
    | split)

theorem execTestPulseEnd_changes (s : State) {u : State} (h : execTestPulseEnd s = .next u) :
    Changes [.ctl, .eject, .field, .out] (.only [0x0F10, K.channelsOn]) s u := by
  unfold execTestPulseEnd at h
  try (have h := guardUnit_next h)
  try injection h with h
  subst h
  repeat' ((try with_reducible conv => arg 4; whnf); first
    | with_reducible apply Changes.refl
    | ((with_reducible show Area.sub _ _ = true); rfl)
    | ((with_reducible apply Entries.le_of_sub); rfl)
    | ((with_reducible apply Entries.le_only); simp; done)
    | intro _
    | with_reducible apply Changes.andThen ?_ (State.testPulseEnd_changes _ ) ?_ ?_)

theorem State.takeOrigin_changes (s : State) :
    Changes [.tracks] (.only [K.fallbackOrigin]) s (State.takeOrigin s) := by
  unfold State.takeOrigin
  repeat' ((try with_reducible conv => arg 4; whnf); first
    | with_reducible apply Changes.refl
    | ((with_reducible show Area.sub _ _ = true); rfl)
    | ((with_reducible apply Entries.le_of_sub); rfl)
    | ((with_reducible apply Entries.le_only); simp; done)
    | intro _
    | with_reducible apply Changes.andThen ?_ (State.setReg_changes _ _ _ ) ?_ ?_
    | ((conv => arg 4; arg 24); with_reducible refine Changes.update ?_)
    | split)

theorem execFallbackOriginReceive_changes (s : State) {u : State} (h : execFallbackOriginReceive s = .next u) :
    Changes [.tracks] (.only [K.fallbackOrigin]) s u := by
  unfold execFallbackOriginReceive at h
  try (have h := guardUnit_next h)
  try injection h with h
  subst h
  repeat' ((try with_reducible conv => arg 4; whnf); first
    | with_reducible apply Changes.refl
    | ((with_reducible show Area.sub _ _ = true); rfl)
    | ((with_reducible apply Entries.le_of_sub); rfl)
    | ((with_reducible apply Entries.le_only); simp; done)
    | intro _
    | with_reducible apply Changes.andThen ?_ (State.takeOrigin_changes _ ) ?_ ?_)

end Sys2Proof.Machine
end

