-- ==== Sys2Proof/Laws/FrameHost.lean ====
section
/-! SUPPORT. What each operation of Machine/Host.lean changes and what it leaves unchanged. -/

-- one theorem after another: see NOTES.md
set_option Elab.async false

namespace Sys2Proof.Machine

theorem execKnotInit_changes (ring : Nat) (s : State) {u : State} (h : execKnotInit ring s = .next u) :
    Changes [.knots, .host, .perf, .out] (.only [0x1205, K.waitersInUse, K.waitersPeak, K.knotOps, K.knotSaturations, K.frozenRefusals, K.commandsCompleted, K.recordsUnrouted]) s u := by
  unfold execKnotInit at h
  refine State.ringRow_changes ?_ ?_ ?_ h
  repeat' ((try with_reducible conv => arg 4; whnf); first
    | with_reducible apply Changes.refl
    | ((with_reducible show Area.sub _ _ = true); rfl)
    | ((with_reducible apply Entries.le_of_sub); rfl)
    | ((with_reducible apply Entries.le_only); simp; done)
    | intro _
    | with_reducible apply Changes.andThen ?_ (State.startKnot_changes _ _ _ ) ?_ ?_)

theorem execCopyFromDevice_changes (ring : Nat) (s : State) {u : State} (h : execCopyFromDevice ring s = .next u) :
    Changes [.freeN, .host, .perf, .out] (.only [0x1205, K.commandsCompleted, K.recordsUnrouted]) s u := by
  unfold execCopyFromDevice at h
  refine State.ringRow_changes ?_ ?_ ?_ h
  repeat' ((try with_reducible conv => arg 4; whnf); first
    | with_reducible apply Changes.refl
    | ((with_reducible show Area.sub _ _ = true); rfl)
    | ((with_reducible apply Entries.le_of_sub); rfl)
    | ((with_reducible apply Entries.le_only); simp; done)
    | intro _
    | with_reducible apply Changes.andThen ?_ (State.copyOut_changes _ _ _ ) ?_ ?_)

theorem State.ringBell_changes (s : State) (port n tail : Nat) :
    Changes [.host, .out] (.only [K.doorbellsRefused]) s (State.ringBell s port n tail) := by
  unfold State.ringBell
  repeat' ((try with_reducible conv => arg 4; whnf); first
    | with_reducible apply Changes.refl
    | ((with_reducible show Area.sub _ _ = true); rfl)
    | ((with_reducible apply Entries.le_of_sub); rfl)
    | ((with_reducible apply Entries.le_only); simp; done)
    | intro _
    | with_reducible apply Changes.ite
    | with_reducible apply Changes.andThen ?_ (State.bump_changes _ _ _ ) ?_ ?_
    | with_reducible apply Changes.andThen ?_ (State.setRing_changes _ _ _ ) ?_ ?_
    | with_reducible apply Changes.andThen ?_ (State.hwinError_changes _ _ _ _ _ ) ?_ ?_
    | split)

theorem execKnotWait_changes (ring : Nat) (s : State) {u : State} (h : execKnotWait ring s = .next u) :
    Changes [.knots, .host, .perf, .out] (.only [0x1205, K.waitersInUse, K.waitersPeak, K.knotOps, K.knotSaturations, K.frozenRefusals, K.commandsCompleted, K.recordsUnrouted]) s u := by
  unfold execKnotWait at h
  refine State.ringRow_changes ?_ ?_ ?_ h
  repeat' ((try with_reducible conv => arg 4; whnf); first
    | with_reducible apply Changes.refl
    | ((with_reducible show Area.sub _ _ = true); rfl)
    | ((with_reducible apply Entries.le_of_sub); rfl)
    | ((with_reducible apply Entries.le_only); simp; done)
    | intro _
    | with_reducible apply Changes.andThen ?_ (State.startKnot_changes _ _ _ ) ?_ ?_)

theorem State.fetch_changes (s : State) (entry : List Byte) :
    Changes [.host, .perf, .out] (.only [0x1205, K.commandsCompleted, K.recordsUnrouted]) s (State.fetch s entry) := by
  unfold State.fetch
  repeat' ((try with_reducible conv => arg 4; whnf); first
    | with_reducible apply Changes.refl
    | ((with_reducible show Area.sub _ _ = true); rfl)
    | ((with_reducible apply Entries.le_of_sub); rfl)
    | ((with_reducible apply Entries.le_only); simp; done)
    | intro _
    | with_reducible apply Changes.ite
    | with_reducible apply Changes.andThen ?_ (State.portBytes_changes _ _ _ _ ) ?_ ?_
    | with_reducible apply Changes.andThen ?_ (State.finishCmd_changes _ _ _ _ _ ) ?_ ?_
    | with_reducible apply Changes.andThen ?_ (State.setRing_changes _ _ _ ) ?_ ?_
    | ((conv => arg 4; arg 24); with_reducible refine Changes.update ?_)
    | split)

theorem execRingFetch_changes (entry : List Byte) (s : State) {u : State} (h : execRingFetch entry s = .next u) :
    Changes [.host, .perf, .out] (.only [0x1205, K.commandsCompleted, K.recordsUnrouted]) s u := by
  unfold execRingFetch at h
  try (have h := guardUnit_next h)
  try injection h with h
  subst h
  repeat' ((try with_reducible conv => arg 4; whnf); first
    | with_reducible apply Changes.refl
    | ((with_reducible show Area.sub _ _ = true); rfl)
    | ((with_reducible apply Entries.le_of_sub); rfl)
    | ((with_reducible apply Entries.le_only); simp; done)
    | intro _
    | with_reducible apply Changes.andThen ?_ (State.fetch_changes _ _ ) ?_ ?_)

theorem State.adopt_changes (s : State) (port val : Nat) :
    Changes [.host, .out] (.only []) s (State.adopt s port val) := by
  unfold State.adopt
  repeat' ((try with_reducible conv => arg 4; whnf); first
    | with_reducible apply Changes.refl
    | ((with_reducible show Area.sub _ _ = true); rfl)
    | ((with_reducible apply Entries.le_of_sub); rfl)
    | ((with_reducible apply Entries.le_only); simp; done)
    | intro _
    | with_reducible apply Changes.ite
    | with_reducible apply Changes.foldl
    | with_reducible apply Changes.andThen ?_ (State.setQueue_changes _ _ _ ) ?_ ?_
    | with_reducible apply Changes.andThen ?_ (State.setRing_changes _ _ _ ) ?_ ?_
    | with_reducible apply Changes.andThen ?_ (State.hwinError_changes _ _ _ _ _ ) ?_ ?_
    | split)

theorem State.ringDisable_changes (s : State) (port : Nat) :
    Changes [.host, .out] (.only []) s (State.ringDisable s port) := by
  unfold State.ringDisable
  repeat' ((try with_reducible conv => arg 4; whnf); first
    | with_reducible apply Changes.refl
    | ((with_reducible show Area.sub _ _ = true); rfl)
    | ((with_reducible apply Entries.le_of_sub); rfl)
    | ((with_reducible apply Entries.le_only); simp; done)
    | intro _
    | with_reducible apply Changes.ite
    | with_reducible apply Changes.andThen ?_ (State.setRing_changes _ _ _ ) ?_ ?_
    | with_reducible apply Changes.andThen ?_ (State.hwinError_changes _ _ _ _ _ ) ?_ ?_
    | split)

theorem execFence_changes (ring : Nat) (s : State) {u : State} (h : execFence ring s = .next u) :
    Changes [.host] (.only []) s u := by
  unfold execFence at h
  refine State.ringRow_changes ?_ ?_ ?_ h
  repeat' ((try with_reducible conv => arg 4; whnf); first
    | with_reducible apply Changes.refl
    | ((with_reducible show Area.sub _ _ = true); rfl)
    | ((with_reducible apply Entries.le_of_sub); rfl)
    | ((with_reducible apply Entries.le_only); simp; done)
    | intro _
    | with_reducible apply Changes.andThen ?_ (State.startCmd_changes _ _ _ ) ?_ ?_)

theorem State.ringEnable_changes (s : State) (port : Nat) :
    Changes [.host, .out] (.only []) s (State.ringEnable s port) := by
  unfold State.ringEnable
  repeat' ((try with_reducible conv => arg 4; whnf); first
    | with_reducible apply Changes.refl
    | ((with_reducible show Area.sub _ _ = true); rfl)
    | ((with_reducible apply Entries.le_of_sub); rfl)
    | ((with_reducible apply Entries.le_only); simp; done)
    | intro _
    | with_reducible apply Changes.ite
    | with_reducible apply Changes.andThen ?_ (State.setRing_changes _ _ _ ) ?_ ?_
    | with_reducible apply Changes.andThen ?_ (State.hwinError_changes _ _ _ _ _ ) ?_ ?_
    | split)

theorem execRingEnable_changes (port : Nat) (s : State) {u : State} (h : execRingEnable port s = .next u) :
    Changes [.host, .out] (.only []) s u := by
  unfold execRingEnable at h
  refine State.inWindow_changes ?_ ?_ ?_ h
  repeat' ((try with_reducible conv => arg 4; whnf); first
    | with_reducible apply Changes.refl
    | ((with_reducible show Area.sub _ _ = true); rfl)
    | ((with_reducible apply Entries.le_of_sub); rfl)
    | ((with_reducible apply Entries.le_only); simp; done)
    | intro _
    | with_reducible apply Changes.andThen ?_ (State.ringEnable_changes _ _ ) ?_ ?_)

theorem execHwinPortAdopt_changes (port val : Nat) (s : State) {u : State} (h : execHwinPortAdopt port val s = .next u) :
    Changes [.host, .out] (.only []) s u := by
  unfold execHwinPortAdopt at h
  refine State.inWindow_changes ?_ ?_ ?_ h
  repeat' ((try with_reducible conv => arg 4; whnf); first
    | with_reducible apply Changes.refl
    | ((with_reducible show Area.sub _ _ = true); rfl)
    | ((with_reducible apply Entries.le_of_sub); rfl)
    | ((with_reducible apply Entries.le_only); simp; done)
    | intro _
    | with_reducible apply Changes.andThen ?_ (State.adopt_changes _ _ _ ) ?_ ?_)

theorem State.linkChange_changes (s : State) (port : Nat) (up : Bool) (rate : Nat) :
    Changes [.host] (.only [0x1202]) s (State.linkChange s port up rate) := by
  unfold State.linkChange
  repeat' ((try with_reducible conv => arg 4; whnf); first
    | with_reducible apply Changes.refl
    | ((with_reducible show Area.sub _ _ = true); rfl)
    | ((with_reducible apply Entries.le_of_sub); rfl)
    | ((with_reducible apply Entries.le_only); simp; done)
    | intro _
    | with_reducible apply Changes.ite
    | with_reducible apply Changes.andThen ?_ (State.setReg_changes _ _ _ ) ?_ ?_
    | with_reducible apply Changes.andThen ?_ (State.setPort_changes _ _ _ ) ?_ ?_
    | split)

theorem execUsb4LinkChange_changes (port : Nat) (up : Bool) (rate : Nat) (s : State) {u : State} (h : execUsb4LinkChange port up rate s = .next u) :
    Changes [.host] (.only [0x1202]) s u := by
  unfold execUsb4LinkChange at h
  try (have h := guardUnit_next h)
  try injection h with h
  subst h
  repeat' ((try with_reducible conv => arg 4; whnf); first
    | with_reducible apply Changes.refl
    | ((with_reducible show Area.sub _ _ = true); rfl)
    | ((with_reducible apply Entries.le_of_sub); rfl)
    | ((with_reducible apply Entries.le_only); simp; done)
    | intro _
    | with_reducible apply Changes.andThen ?_ (State.linkChange_changes _ _ _ _ ) ?_ ?_)

theorem State.evqDisable_changes (s : State) (port : Nat) :
    Changes [.host, .out] (.only [0x1205]) s (State.evqDisable s port) := by
  unfold State.evqDisable
  repeat' ((try with_reducible conv => arg 4; whnf); first
    | with_reducible apply Changes.refl
    | ((with_reducible show Area.sub _ _ = true); rfl)
    | ((with_reducible apply Entries.le_of_sub); rfl)
    | ((with_reducible apply Entries.le_only); simp; done)
    | intro _
    | with_reducible apply Changes.ite
    | with_reducible apply Changes.andThen ?_ (State.disableQueue_changes _ _ _ ) ?_ ?_
    | with_reducible apply Changes.andThen ?_ (State.hwinError_changes _ _ _ _ _ ) ?_ ?_
    | split)

theorem execEvqDisable_changes (port : Nat) (s : State) {u : State} (h : execEvqDisable port s = .next u) :
    Changes [.host, .out] (.only [0x1205]) s u := by
  unfold execEvqDisable at h
  refine State.inWindow_changes ?_ ?_ ?_ h
  repeat' ((try with_reducible conv => arg 4; whnf); first
    | with_reducible apply Changes.refl
    | ((with_reducible show Area.sub _ _ = true); rfl)
    | ((with_reducible apply Entries.le_of_sub); rfl)
    | ((with_reducible apply Entries.le_only); simp; done)
    | intro _
    | with_reducible apply Changes.andThen ?_ (State.evqDisable_changes _ _ ) ?_ ?_)

theorem execEvqTimeThreshold_changes (queue : Nat) (s : State) {u : State} (h : execEvqTimeThreshold queue s = .next u) :
    Changes [.host, .out] (.only []) s u := by
  unfold execEvqTimeThreshold at h
  try (have h := guardUnit_next h)
  try injection h with h
  subst h
  repeat' ((try with_reducible conv => arg 4; whnf); first
    | with_reducible apply Changes.refl
    | ((with_reducible show Area.sub _ _ = true); rfl)
    | ((with_reducible apply Entries.le_of_sub); rfl)
    | ((with_reducible apply Entries.le_only); simp; done)
    | intro _
    | with_reducible apply Changes.andThen ?_ (State.signal_changes _ _ ) ?_ ?_)

theorem execCopyToDevice_changes (ring : Nat) (data : List Byte) (s : State) {u : State} (h : execCopyToDevice ring data s = .next u) :
    Changes [.freeN, .engine, .memory, .host, .perf, .out] (.only [0x1205, K.commandsCompleted, K.recordsUnrouted]) s u := by
  unfold execCopyToDevice at h
  refine State.ringRow_changes ?_ ?_ ?_ h
  repeat' ((try with_reducible conv => arg 4; whnf); first
    | with_reducible apply Changes.refl
    | ((with_reducible show Area.sub _ _ = true); rfl)
    | ((with_reducible apply Entries.le_of_sub); rfl)
    | ((with_reducible apply Entries.le_only); simp; done)
    | intro _
    | with_reducible apply Changes.andThen ?_ (State.copyIn_changes _ _ _ _ ) ?_ ?_)

theorem execFenceRelease_changes (ring : Nat) (s : State) {u : State} (h : execFenceRelease ring s = .next u) :
    Changes [.knots, .host, .perf, .out] (.only [0x1205, K.waitersInUse, K.waitersPeak, K.knotOps, K.knotSaturations, K.frozenRefusals, K.commandsCompleted, K.recordsUnrouted]) s u := by
  unfold execFenceRelease at h
  try (have h := guardUnit_next h)
  try injection h with h
  subst h
  repeat' ((try with_reducible conv => arg 4; whnf); first
    | with_reducible apply Changes.refl
    | ((with_reducible show Area.sub _ _ = true); rfl)
    | ((with_reducible apply Entries.le_of_sub); rfl)
    | ((with_reducible apply Entries.le_only); simp; done)
    | intro _
    | with_reducible apply Changes.andThen ?_ (State.fenceRelease_changes _ _ ) ?_ ?_)

theorem execRingNop_changes (ring : Nat) (s : State) {u : State} (h : execRingNop ring s = .next u) :
    Changes [.host, .perf, .out] (.only [0x1205, K.commandsCompleted, K.recordsUnrouted]) s u := by
  unfold execRingNop at h
  refine State.ringRow_changes ?_ ?_ ?_ h
  repeat' ((try with_reducible conv => arg 4; whnf); first
    | with_reducible apply Changes.refl
    | ((with_reducible show Area.sub _ _ = true); rfl)
    | ((with_reducible apply Entries.le_of_sub); rfl)
    | ((with_reducible apply Entries.le_only); simp; done)
    | intro _
    | with_reducible apply Changes.andThen ?_ (State.finishCmd_changes _ _ _ _ _ ) ?_ ?_)

theorem State.tunnelUp_changes (s : State) (port : Nat) :
    Changes [.pipe, .engine, .knots, .host, .perf, .out] (.only [0x1205, K.waitersInUse, K.waitersPeak, K.commandsCompleted, K.recordsUnrouted]) s (State.tunnelUp s port) := by
  unfold State.tunnelUp
  repeat' ((try with_reducible conv => arg 4; whnf); first
    | with_reducible apply Changes.refl
    | ((with_reducible show Area.sub _ _ = true); rfl)
    | ((with_reducible apply Entries.le_of_sub); rfl)
    | ((with_reducible apply Entries.le_only); simp; done)
    | intro _
    | with_reducible apply Changes.ite
    | with_reducible apply Changes.andThen ?_ (State.regainTunnel_changes _ _ ) ?_ ?_
    | with_reducible apply Changes.andThen ?_ (State.detach_changes _ _ ) ?_ ?_
    | split)

theorem execTunnelUp_changes (port : Nat) (s : State) {u : State} (h : execTunnelUp port s = .next u) :
    Changes [.pipe, .engine, .knots, .host, .perf, .out] (.only [0x1205, K.waitersInUse, K.waitersPeak, K.commandsCompleted, K.recordsUnrouted]) s u := by
  unfold execTunnelUp at h
  try (have h := guardUnit_next h)
  try injection h with h
  subst h
  repeat' ((try with_reducible conv => arg 4; whnf); first
    | with_reducible apply Changes.refl
    | ((with_reducible show Area.sub _ _ = true); rfl)
    | ((with_reducible apply Entries.le_of_sub); rfl)
    | ((with_reducible apply Entries.le_only); simp; done)
    | intro _
    | with_reducible apply Changes.andThen ?_ (State.tunnelUp_changes _ _ ) ?_ ?_)

theorem State.holdExpiry_changes (s : State) (port : Nat) :
    Changes [.pipe, .engine, .knots, .host, .perf, .out] (.only [0x1205, K.waitersInUse, K.waitersPeak, K.commandsCompleted, K.recordsUnrouted]) s (State.holdExpiry s port) := by
  unfold State.holdExpiry
  repeat' ((try with_reducible conv => arg 4; whnf); first
    | with_reducible apply Changes.refl
    | ((with_reducible show Area.sub _ _ = true); rfl)
    | ((with_reducible apply Entries.le_of_sub); rfl)
    | ((with_reducible apply Entries.le_only); simp; done)
    | intro _
    | with_reducible apply Changes.ite
    | with_reducible apply Changes.andThen ?_ (State.detach_changes _ _ ) ?_ ?_
    | split)

theorem execTunnelHoldExpiry_changes (port : Nat) (s : State) {u : State} (h : execTunnelHoldExpiry port s = .next u) :
    Changes [.pipe, .engine, .knots, .host, .perf, .out] (.only [0x1205, K.waitersInUse, K.waitersPeak, K.commandsCompleted, K.recordsUnrouted]) s u := by
  unfold execTunnelHoldExpiry at h
  try (have h := guardUnit_next h)
  try injection h with h
  subst h
  repeat' ((try with_reducible conv => arg 4; whnf); first
    | with_reducible apply Changes.refl
    | ((with_reducible show Area.sub _ _ = true); rfl)
    | ((with_reducible apply Entries.le_of_sub); rfl)
    | ((with_reducible apply Entries.le_only); simp; done)
    | intro _
    | with_reducible apply Changes.andThen ?_ (State.holdExpiry_changes _ _ ) ?_ ?_)

theorem State.imgRelease_changes (s : State) (port val : Nat) :
    Changes [.host] (.only []) s (State.imgRelease s port val) := by
  unfold State.imgRelease
  repeat' ((try with_reducible conv => arg 4; whnf); first
    | with_reducible apply Changes.refl
    | ((with_reducible show Area.sub _ _ = true); rfl)
    | ((with_reducible apply Entries.le_of_sub); rfl)
    | ((with_reducible apply Entries.le_only); simp; done)
    | intro _
    | with_reducible apply Changes.andThen ?_ (State.setPort_changes _ _ _ ) ?_ ?_)

theorem execHwinImgRelease_changes (port val : Nat) (s : State) {u : State} (h : execHwinImgRelease port val s = .next u) :
    Changes [.host] (.only []) s u := by
  unfold execHwinImgRelease at h
  refine State.inWindow_changes ?_ ?_ ?_ h
  repeat' ((try with_reducible conv => arg 4; whnf); first
    | with_reducible apply Changes.refl
    | ((with_reducible show Area.sub _ _ = true); rfl)
    | ((with_reducible apply Entries.le_of_sub); rfl)
    | ((with_reducible apply Entries.le_only); simp; done)
    | intro _
    | with_reducible apply Changes.andThen ?_ (State.imgRelease_changes _ _ _ ) ?_ ?_)

theorem State.doorbell_changes (s : State) (port val : Nat) :
    Changes [.freeN, .ctl, .host, .power, .out] (.only [K.lastWakeCause, K.doorbellsRefused]) s (State.doorbell s port val) := by
  unfold State.doorbell
  repeat' ((try with_reducible conv => arg 4; whnf); first
    | with_reducible apply Changes.refl
    | ((with_reducible show Area.sub _ _ = true); rfl)
    | ((with_reducible apply Entries.le_of_sub); rfl)
    | ((with_reducible apply Entries.le_only); simp; done)
    | intro _
    | with_reducible apply Changes.ite
    | with_reducible apply Changes.andThen ?_ (State.wake_changes _ _ _ ) ?_ ?_
    | with_reducible apply Changes.andThen ?_ (State.autoWake_changes _ ) ?_ ?_
    | with_reducible apply Changes.andThen ?_ (State.ringBell_changes _ _ _ _ ) ?_ ?_
    | ((conv => arg 4; arg 24); with_reducible refine Changes.update ?_)
    | split)

theorem execHwinRingDoorbell_changes (port val : Nat) (s : State) {u : State} (h : execHwinRingDoorbell port val s = .next u) :
    Changes [.freeN, .ctl, .host, .power, .out] (.only [K.lastWakeCause, K.doorbellsRefused]) s u := by
  unfold execHwinRingDoorbell at h
  refine State.inWindow_changes ?_ ?_ ?_ h
  repeat' ((try with_reducible conv => arg 4; whnf); first
    | with_reducible apply Changes.refl
    | ((with_reducible show Area.sub _ _ = true); rfl)
    | ((with_reducible apply Entries.le_of_sub); rfl)
    | ((with_reducible apply Entries.le_only); simp; done)
    | intro _
    | with_reducible apply Changes.andThen ?_ (State.doorbell_changes _ _ _ ) ?_ ?_)

theorem execKnotSub_changes (ring : Nat) (s : State) {u : State} (h : execKnotSub ring s = .next u) :
    Changes [.knots, .host, .perf, .out] (.only [0x1205, K.waitersInUse, K.waitersPeak, K.knotOps, K.knotSaturations, K.frozenRefusals, K.commandsCompleted, K.recordsUnrouted]) s u := by
  unfold execKnotSub at h
  refine State.ringRow_changes ?_ ?_ ?_ h
  repeat' ((try with_reducible conv => arg 4; whnf); first
    | with_reducible apply Changes.refl
    | ((with_reducible show Area.sub _ _ = true); rfl)
    | ((with_reducible apply Entries.le_of_sub); rfl)
    | ((with_reducible apply Entries.le_only); simp; done)
    | intro _
    | with_reducible apply Changes.andThen ?_ (State.startKnot_changes _ _ _ ) ?_ ?_)

theorem State.cmdComplete_changes (s : State) (ring : Nat) :
    Changes [.freeN, .blobs, .engine, .memory, .host, .perf, .out] (.only [0x1205, K.commandsCompleted, K.recordsUnrouted]) s (State.cmdComplete s ring) := by
  unfold State.cmdComplete
  repeat' ((try with_reducible conv => arg 4; whnf); first
    | with_reducible apply Changes.refl
    | ((with_reducible show Area.sub _ _ = true); rfl)
    | ((with_reducible apply Entries.le_of_sub); rfl)
    | ((with_reducible apply Entries.le_only); simp; done)
    | intro _
    | with_reducible apply Changes.ite
    | with_reducible apply Changes.andThen ?_ (State.endTransfer_changes _ _ _ ) ?_ ?_
    | split)

theorem execRingCommandComplete_changes (ring : Nat) (s : State) {u : State} (h : execRingCommandComplete ring s = .next u) :
    Changes [.freeN, .blobs, .engine, .memory, .host, .perf, .out] (.only [0x1205, K.commandsCompleted, K.recordsUnrouted]) s u := by
  unfold execRingCommandComplete at h
  try (have h := guardUnit_next h)
  try injection h with h
  subst h
  repeat' ((try with_reducible conv => arg 4; whnf); first
    | with_reducible apply Changes.refl
    | ((with_reducible show Area.sub _ _ = true); rfl)
    | ((with_reducible apply Entries.le_of_sub); rfl)
    | ((with_reducible apply Entries.le_only); simp; done)
    | intro _
    | with_reducible apply Changes.andThen ?_ (State.cmdComplete_changes _ _ ) ?_ ?_)

theorem State.evqEnable_changes (s : State) (port : Nat) :
    Changes [.host, .perf, .out] (.only [0x1205, K.recordsUnrouted]) s (State.evqEnable s port) := by
  unfold State.evqEnable
  repeat' ((try with_reducible conv => arg 4; whnf); first
    | with_reducible apply Changes.refl
    | ((with_reducible show Area.sub _ _ = true); rfl)
    | ((with_reducible apply Entries.le_of_sub); rfl)
    | ((with_reducible apply Entries.le_only); simp; done)
    | intro _
    | with_reducible apply Changes.ite
    | with_reducible apply Changes.andThen ?_ (State.setQueue_changes _ _ _ ) ?_ ?_
    | with_reducible apply Changes.andThen ?_ (State.releaseBoot_changes _ ) ?_ ?_
    | with_reducible apply Changes.andThen ?_ (State.hwinError_changes _ _ _ _ _ ) ?_ ?_
    | split)

theorem execEvqEnable_changes (port : Nat) (s : State) {u : State} (h : execEvqEnable port s = .next u) :
    Changes [.host, .perf, .out] (.only [0x1205, K.recordsUnrouted]) s u := by
  unfold execEvqEnable at h
  refine State.inWindow_changes ?_ ?_ ?_ h
  repeat' ((try with_reducible conv => arg 4; whnf); first
    | with_reducible apply Changes.refl
    | ((with_reducible show Area.sub _ _ = true); rfl)
    | ((with_reducible apply Entries.le_of_sub); rfl)
    | ((with_reducible apply Entries.le_only); simp; done)
    | intro _
    | with_reducible apply Changes.andThen ?_ (State.evqEnable_changes _ _ ) ?_ ?_)

theorem execKnotRead_changes (ring : Nat) (s : State) {u : State} (h : execKnotRead ring s = .next u) :
    Changes [.knots, .host, .perf, .out] (.only [0x1205, K.waitersInUse, K.waitersPeak, K.knotOps, K.knotSaturations, K.frozenRefusals, K.commandsCompleted, K.recordsUnrouted]) s u := by
  unfold execKnotRead at h
  refine State.ringRow_changes ?_ ?_ ?_ h
  repeat' ((try with_reducible conv => arg 4; whnf); first
    | with_reducible apply Changes.refl
    | ((with_reducible show Area.sub _ _ = true); rfl)
    | ((with_reducible apply Entries.le_of_sub); rfl)
    | ((with_reducible apply Entries.le_only); simp; done)
    | intro _
    | with_reducible apply Changes.andThen ?_ (State.startKnot_changes _ _ _ ) ?_ ?_)

theorem execJobSubmit_changes (ring : Nat) (s : State) {u : State} (h : execJobSubmit ring s = .next u) :
    Changes [.freeN, .ctl, .engine, .knots, .host, .power, .perf, .out] (.only [0x1205, K.waitersInUse, K.waitersPeak, K.knotOps, K.frozenRefusals, K.knotOpsRefused, K.commandsCompleted, K.recordsUnrouted]) s u := by
  unfold execJobSubmit at h
  refine State.ringRow_changes ?_ ?_ ?_ h
  repeat' ((try with_reducible conv => arg 4; whnf); first
    | with_reducible apply Changes.refl
    | ((with_reducible show Area.sub _ _ = true); rfl)
    | ((with_reducible apply Entries.le_of_sub); rfl)
    | ((with_reducible apply Entries.le_only); simp; done)
    | intro _
    | with_reducible apply Changes.andThen ?_ (State.jobSubmit_changes _ _ _ ) ?_ ?_)

theorem State.hwinRegister_changes (s : State) (port off val : Nat) :
    Changes [.host, .out] (.only []) s (State.hwinRegister s port off val) := by
  unfold State.hwinRegister
  repeat' ((try with_reducible conv => arg 4; whnf); first
    | with_reducible apply Changes.refl
    | ((with_reducible show Area.sub _ _ = true); rfl)
    | ((with_reducible apply Entries.le_of_sub); rfl)
    | ((with_reducible apply Entries.le_only); simp; done)
    | intro _
    | with_reducible apply Changes.ite
    | with_reducible apply Changes.ite_snd
    | with_reducible apply Changes.ite_fst
    | with_reducible apply Changes.ite_snd_snd
    | with_reducible apply Changes.foldl
    | with_reducible apply Changes.foldl_snd
    | with_reducible apply Changes.foldl_fst
    | with_reducible apply Changes.andThen ?_ (State.hwinError_changes _ _ _ _ _ ) ?_ ?_
    | with_reducible apply Changes.andThen ?_ (State.hwinWrite_changes _ _ _ _ ) ?_ ?_
    | ((conv => arg 4; arg 24); with_reducible refine Changes.update ?_)
    | split
    | with_reducible refine Changes.of_snd (by assumption) ?_)

theorem execHwinRegisterWrite_changes (port offset val : Nat) (s : State) {u : State} (h : execHwinRegisterWrite port offset val s = .next u) :
    Changes [.host, .out] (.only []) s u := by
  unfold execHwinRegisterWrite at h
  refine State.inWindow_changes ?_ ?_ ?_ h
  repeat' ((try with_reducible conv => arg 4; whnf); first
    | with_reducible apply Changes.refl
    | ((with_reducible show Area.sub _ _ = true); rfl)
    | ((with_reducible apply Entries.le_of_sub); rfl)
    | ((with_reducible apply Entries.le_only); simp; done)
    | intro _
    | with_reducible apply Changes.andThen ?_ (State.hwinRegister_changes _ _ _ _ ) ?_ ?_)

theorem State.tunnelLost_changes (s : State) (port : Nat) :
    Changes [.ctl, .host] (.only [0x1202]) s (State.tunnelLost s port) := by
  unfold State.tunnelLost
  repeat' ((try with_reducible conv => arg 4; whnf); first
    | with_reducible apply Changes.refl
    | ((with_reducible show Area.sub _ _ = true); rfl)
    | ((with_reducible apply Entries.le_of_sub); rfl)
    | ((with_reducible apply Entries.le_only); simp; done)
    | intro _
    | with_reducible apply Changes.ite
    | with_reducible apply Changes.andThen ?_ (State.bump_changes _ _ _ ) ?_ ?_
    | with_reducible apply Changes.andThen ?_ (State.setPort_changes _ _ _ ) ?_ ?_
    | with_reducible apply Changes.andThen ?_ (State.loseTunnel_changes _ _ ) ?_ ?_
    | split)

theorem execTunnelLost_changes (port : Nat) (s : State) {u : State} (h : execTunnelLost port s = .next u) :
    Changes [.ctl, .host] (.only [0x1202]) s u := by
  unfold execTunnelLost at h
  try (have h := guardUnit_next h)
  try injection h with h
  subst h
  repeat' ((try with_reducible conv => arg 4; whnf); first
    | with_reducible apply Changes.refl
    | ((with_reducible show Area.sub _ _ = true); rfl)
    | ((with_reducible apply Entries.le_of_sub); rfl)
    | ((with_reducible apply Entries.le_only); simp; done)
    | intro _
    | with_reducible apply Changes.andThen ?_ (State.tunnelLost_changes _ _ ) ?_ ?_)

theorem execRingDisable_changes (port : Nat) (s : State) {u : State} (h : execRingDisable port s = .next u) :
    Changes [.host, .out] (.only []) s u := by
  unfold execRingDisable at h
  refine State.inWindow_changes ?_ ?_ ?_ h
  repeat' ((try with_reducible conv => arg 4; whnf); first
    | with_reducible apply Changes.refl
    | ((with_reducible show Area.sub _ _ = true); rfl)
    | ((with_reducible apply Entries.le_of_sub); rfl)
    | ((with_reducible apply Entries.le_only); simp; done)
    | intro _
    | with_reducible apply Changes.andThen ?_ (State.ringDisable_changes _ _ ) ?_ ?_)

theorem State.evqHead_changes (s : State) (port val : Nat) :
    Changes [.host, .perf, .out] (.only [0x1205, K.recordsUnrouted]) s (State.evqHead s port val) := by
  unfold State.evqHead
  repeat' ((try with_reducible conv => arg 4; whnf); first
    | with_reducible apply Changes.refl
    | ((with_reducible show Area.sub _ _ = true); rfl)
    | ((with_reducible apply Entries.le_of_sub); rfl)
    | ((with_reducible apply Entries.le_only); simp; done)
    | intro _
    | with_reducible apply Changes.ite
    | with_reducible apply Changes.andThen ?_ (State.setQueue_changes _ _ _ ) ?_ ?_
    | with_reducible apply Changes.andThen ?_ (State.drainQueue_changes _ _ _ ) ?_ ?_
    | with_reducible apply Changes.andThen ?_ (State.hwinError_changes _ _ _ _ _ ) ?_ ?_
    | with_reducible apply Changes.andThen ?_ (State.signal_changes _ _ ) ?_ ?_
    | split)

theorem execHwinEvqHead_changes (port val : Nat) (s : State) {u : State} (h : execHwinEvqHead port val s = .next u) :
    Changes [.host, .perf, .out] (.only [0x1205, K.recordsUnrouted]) s u := by
  unfold execHwinEvqHead at h
  refine State.inWindow_changes ?_ ?_ ?_ h
  repeat' ((try with_reducible conv => arg 4; whnf); first
    | with_reducible apply Changes.refl
    | ((with_reducible show Area.sub _ _ = true); rfl)
    | ((with_reducible apply Entries.le_of_sub); rfl)
    | ((with_reducible apply Entries.le_only); simp; done)
    | intro _
    | with_reducible apply Changes.andThen ?_ (State.evqHead_changes _ _ _ ) ?_ ?_)

theorem State.hwinErrorClear_changes (s : State) (port : Nat) :
    Changes [.host] (.only []) s (State.hwinErrorClear s port) := by
  unfold State.hwinErrorClear
  repeat' ((try with_reducible conv => arg 4; whnf); first
    | with_reducible apply Changes.refl
    | ((with_reducible show Area.sub _ _ = true); rfl)
    | ((with_reducible apply Entries.le_of_sub); rfl)
    | ((with_reducible apply Entries.le_only); simp; done)
    | intro _
    | with_reducible apply Changes.andThen ?_ (State.setPort_changes _ _ _ ) ?_ ?_)

theorem execHwinErrorClear_changes (port _val : Nat) (s : State) {u : State} (h : execHwinErrorClear port _val s = .next u) :
    Changes [.host] (.only []) s u := by
  unfold execHwinErrorClear at h
  refine State.inWindow_changes ?_ ?_ ?_ h
  repeat' ((try with_reducible conv => arg 4; whnf); first
    | with_reducible apply Changes.refl
    | ((with_reducible show Area.sub _ _ = true); rfl)
    | ((with_reducible apply Entries.le_of_sub); rfl)
    | ((with_reducible apply Entries.le_only); simp; done)
    | intro _
    | with_reducible apply Changes.andThen ?_ (State.hwinErrorClear_changes _ _ ) ?_ ?_)

theorem execKnotAdd_changes (ring : Nat) (s : State) {u : State} (h : execKnotAdd ring s = .next u) :
    Changes [.knots, .host, .perf, .out] (.only [0x1205, K.waitersInUse, K.waitersPeak, K.knotOps, K.knotSaturations, K.frozenRefusals, K.commandsCompleted, K.recordsUnrouted]) s u := by
  unfold execKnotAdd at h
  refine State.ringRow_changes ?_ ?_ ?_ h
  repeat' ((try with_reducible conv => arg 4; whnf); first
    | with_reducible apply Changes.refl
    | ((with_reducible show Area.sub _ _ = true); rfl)
    | ((with_reducible apply Entries.le_of_sub); rfl)
    | ((with_reducible apply Entries.le_only); simp; done)
    | intro _
    | with_reducible apply Changes.andThen ?_ (State.startKnot_changes _ _ _ ) ?_ ?_)

theorem State.levelReset_changes (s : State) (port : Nat) :
    Changes [.ctl, .pipe, .engine, .knots, .host, .perf, .out] (.only [0x1205, K.waitersInUse, K.waitersPeak, K.commandsCompleted, K.recordsUnrouted]) s (State.levelReset s port) := by
  unfold State.levelReset
  repeat' ((try with_reducible conv => arg 4; whnf); first
    | with_reducible apply Changes.refl
    | ((with_reducible show Area.sub _ _ = true); rfl)
    | ((with_reducible apply Entries.le_of_sub); rfl)
    | ((with_reducible apply Entries.le_only); simp; done)
    | intro _
    | with_reducible apply Changes.ite
    | with_reducible apply Changes.andThen ?_ (State.loseTunnel_changes _ _ ) ?_ ?_
    | with_reducible apply Changes.andThen ?_ (State.detach_changes _ _ ) ?_ ?_
    | split)

theorem execFunctionLevelReset_changes (port : Nat) (s : State) {u : State} (h : execFunctionLevelReset port s = .next u) :
    Changes [.ctl, .pipe, .engine, .knots, .host, .perf, .out] (.only [0x1205, K.waitersInUse, K.waitersPeak, K.commandsCompleted, K.recordsUnrouted]) s u := by
  unfold execFunctionLevelReset at h
  try (have h := guardUnit_next h)
  try injection h with h
  subst h
  repeat' ((try with_reducible conv => arg 4; whnf); first
    | with_reducible apply Changes.refl
    | ((with_reducible show Area.sub _ _ = true); rfl)
    | ((with_reducible apply Entries.le_of_sub); rfl)
    | ((with_reducible apply Entries.le_only); simp; done)
    | intro _
    | with_reducible apply Changes.andThen ?_ (State.levelReset_changes _ _ ) ?_ ?_)

theorem execPlanLoad_changes (ring : Nat) (data : List Byte) (s : State) {u : State} (h : execPlanLoad ring data s = .next u) :
    Changes [.freeN, .blobs, .engine, .host, .perf, .out] (.only [0x1205, K.commandsCompleted, K.recordsUnrouted]) s u := by
  unfold execPlanLoad at h
  refine State.ringRow_changes ?_ ?_ ?_ h
  repeat' ((try with_reducible conv => arg 4; whnf); first
    | with_reducible apply Changes.refl
    | ((with_reducible show Area.sub _ _ = true); rfl)
    | ((with_reducible apply Entries.le_of_sub); rfl)
    | ((with_reducible apply Entries.le_only); simp; done)
    | intro _
    | with_reducible apply Changes.andThen ?_ (State.planLoad_changes _ _ _ _ ) ?_ ?_)

end Sys2Proof.Machine
end

