-- ==== Sys2Proof/Laws/FramePower.lean ====
section
/-! SUPPORT. What each operation of Machine/Power.lean changes and what it leaves unchanged. -/

-- one theorem after another: see NOTES.md
set_option Elab.async false

namespace Sys2Proof.Machine

theorem State.dropCrossings_changes (s : State) :
    Changes [.tracks, .net] (.only []) s (State.dropCrossings s) := by
  unfold State.dropCrossings
  repeat' ((try with_reducible conv => arg 4; whnf); first
    | with_reducible apply Changes.refl
    | ((conv => arg 4; arg 24); with_reducible refine Changes.update ?_))

theorem State.enterRetain_changes (s : State) :
    Changes [.ctl, .tracks, .field, .host, .net] (.only [0x0F10, 0x1202, 0x1303, 0x1306, 0x1311]) s (State.enterRetain s) := by
  unfold State.enterRetain
  repeat' ((try with_reducible conv => arg 4; whnf); first
    | with_reducible apply Changes.refl
    | ((with_reducible show Area.sub _ _ = true); rfl)
    | ((with_reducible apply Entries.le_of_sub); rfl)
    | ((with_reducible apply Entries.le_only); simp; done)
    | intro _
    | with_reducible apply Changes.ite
    | with_reducible apply Changes.foldl
    | with_reducible apply Changes.andThen ?_ (State.setReg_changes _ _ _ ) ?_ ?_
    | with_reducible apply Changes.andThen ?_ (State.bump_changes _ _ _ ) ?_ ?_
    | with_reducible apply Changes.andThen ?_ (State.setPort_changes _ _ _ ) ?_ ?_
    | with_reducible apply Changes.andThen ?_ (State.dropCrossings_changes _ ) ?_ ?_
    | with_reducible apply Changes.andThen ?_ (State.setVl_changes _ _ _ ) ?_ ?_
    | with_reducible apply Changes.andThen ?_ (State.dropSession_changes _ _ ) ?_ ?_
    | with_reducible apply Changes.andThen ?_ (State.loseTunnel_changes _ _ ) ?_ ?_
    | with_reducible apply Changes.andThen ?_ (State.portLink_changes _ _ _ _ ) ?_ ?_
    | ((conv => arg 4; arg 24); refine Changes.updateIn ?_)
    | split)

theorem State.powerTarget_changes (s : State) (sess : Nat) (t : PowerSt) :
    Changes [.freeN, .ctl, .power] (.only [K.lastWakeCause]) s (State.powerTarget s sess t).2 := by
  unfold State.powerTarget
  repeat' ((try with_reducible conv => arg 4; arg 1; whnf); first
    | with_reducible apply Changes.refl
    | dsimp only
    | ((with_reducible show Area.sub _ _ = true); rfl)
    | ((with_reducible apply Entries.le_of_sub); rfl)
    | ((with_reducible apply Entries.le_only); simp; done)
    | intro _
    | with_reducible apply Changes.ite
    | with_reducible apply Changes.ite_snd
    | with_reducible apply Changes.andThen ?_ (State.setReg_changes _ _ _ ) ?_ ?_
    | with_reducible apply Changes.andThen ?_ (State.cmdOk_changes _ _ ) ?_ ?_
    | with_reducible apply Changes.andThen ?_ (State.beginTransition_changes _ _ _ ) ?_ ?_
    | with_reducible apply Changes.andThen ?_ (State.cmdBegin_changes _ _ ) ?_ ?_
    | split)

theorem State.enterDoze_changes (s : State) :
    Changes [.ctl, .intake, .field] (.only [0x0405, 0x0406, 0x0407, 0x0509, K.aliveState, K.aliveStopCause]) s (State.enterDoze s) := by
  unfold State.enterDoze
  repeat' ((try with_reducible conv => arg 4; whnf); first
    | with_reducible apply Changes.refl
    | ((with_reducible show Area.sub _ _ = true); rfl)
    | ((with_reducible apply Entries.le_of_sub); rfl)
    | ((with_reducible apply Entries.le_only); simp; done)
    | intro _
    | with_reducible apply Changes.ite
    | with_reducible apply Changes.foldl
    | with_reducible apply Changes.andThen ?_ (State.idleLink_changes _ _ ) ?_ ?_
    | with_reducible apply Changes.andThen ?_ (State.setStream_changes _ _ _ ) ?_ ?_
    | with_reducible apply Changes.andThen ?_ (State.aliveStopFor_changes _ _ ) ?_ ?_
    | ((conv => arg 4; arg 24); refine Changes.updateIn ?_)
    | split)

theorem State.goDown_changes (s : State) (old new : PowerSt) :
    Changes [.ctl, .intake, .tracks, .field, .host, .net] (.only [0x0405, 0x0406, 0x0407, 0x0509, 0x0F10, 0x1202, 0x1303, 0x1306, 0x1311, K.aliveState, K.aliveStopCause]) s (State.goDown s old new) := by
  unfold State.goDown
  repeat' ((try with_reducible conv => arg 4; whnf); first
    | with_reducible apply Changes.refl
    | ((with_reducible show Area.sub _ _ = true); rfl)
    | ((with_reducible apply Entries.le_of_sub); rfl)
    | ((with_reducible apply Entries.le_only); simp; done)
    | intro _
    | with_reducible apply Changes.ite
    | with_reducible apply Changes.andThen ?_ (State.enterRetain_changes _ ) ?_ ?_
    | with_reducible apply Changes.andThen ?_ (State.enterDoze_changes _ ) ?_ ?_
    | split)

theorem State.takeBells_changes (s : State) :
    Changes [.host, .power, .out] (.only [K.doorbellsRefused]) s (State.takeBells s) := by
  unfold State.takeBells
  repeat' ((try with_reducible conv => arg 4; whnf); first
    | with_reducible apply Changes.refl
    | ((with_reducible show Area.sub _ _ = true); rfl)
    | ((with_reducible apply Entries.le_of_sub); rfl)
    | ((with_reducible apply Entries.le_only); simp; done)
    | intro _
    | with_reducible apply Changes.ite
    | with_reducible apply Changes.ite_snd
    | with_reducible apply Changes.ite_fst
    | with_reducible apply Changes.ite_snd_snd
    | with_reducible apply Changes.foldl
    | with_reducible apply Changes.foldl_snd
    | with_reducible apply Changes.foldl_fst
    | with_reducible apply Changes.andThen ?_ (State.ringBell_changes _ _ _ _ ) ?_ ?_
    | ((conv => arg 4; arg 24); with_reducible refine Changes.update ?_)
    | split
    | with_reducible refine Changes.of_snd (by assumption) ?_)

theorem State.rereadInputs_changes (s : State) :
    Changes [.field] (.only [K.inputLevels]) s (State.rereadInputs s) := by
  unfold State.rereadInputs
  repeat' ((try with_reducible conv => arg 4; whnf); first
    | with_reducible apply Changes.refl
    | ((with_reducible show Area.sub _ _ = true); rfl)
    | ((with_reducible apply Entries.le_of_sub); rfl)
    | ((with_reducible apply Entries.le_only); simp; done)
    | intro _
    | with_reducible apply Changes.ite
    | with_reducible apply Changes.foldl
    | with_reducible apply Changes.andThen ?_ (State.setReg_changes _ _ _ ) ?_ ?_
    | ((conv => arg 4; arg 24); with_reducible refine Changes.update ?_)
    | split)

theorem State.leaveRetain_changes (s : State) :
    Changes [.freeN, .ctl, .belt, .pipe, .engine, .tracks, .eject, .field, .memory, .knots, .host, .net, .faults, .power, .perf, .out] (.only [0x0804, 0x0F10, 0x1205, 0x1502, K.lastWakeCause, K.waitersInUse, K.waitersPeak, K.inputLevels, K.channelsOn, K.commandsCompleted, K.recordsUnrouted]) s (State.leaveRetain s) := by
  unfold State.leaveRetain
  repeat' ((try with_reducible conv => arg 4; whnf); first
    | with_reducible apply Changes.refl
    | ((with_reducible show Area.sub _ _ = true); rfl)
    | ((with_reducible apply Entries.le_of_sub); rfl)
    | ((with_reducible apply Entries.le_only); simp; done)
    | intro _
    | with_reducible apply Changes.ite
    | with_reducible apply Changes.ite_snd
    | with_reducible apply Changes.ite_fst
    | with_reducible apply Changes.ite_snd_snd
    | with_reducible apply Changes.foldl
    | with_reducible apply Changes.foldl_snd
    | with_reducible apply Changes.foldl_fst
    | with_reducible apply Changes.andThen ?_ (State.presetBanks_changes _ ) ?_ ?_
    | with_reducible apply Changes.andThen ?_ (State.resetPipes_changes _ ) ?_ ?_
    | with_reducible apply Changes.andThen ?_ (State.dropCrossings_changes _ ) ?_ ?_
    | with_reducible apply Changes.andThen ?_ (State.dropWork_changes _ _ ) ?_ ?_
    | with_reducible apply Changes.andThen ?_ (State.setBeltSt_changes _ _ _ ) ?_ ?_
    | with_reducible apply Changes.andThen ?_ (State.bindPlan_changes _ _ _ ) ?_ ?_
    | with_reducible apply Changes.andThen ?_ (State.setCtx_changes _ _ _ ) ?_ ?_
    | with_reducible apply Changes.andThen ?_ (State.rereadInputs_changes _ ) ?_ ?_
    | ((conv => arg 4; arg 24); refine Changes.updateIn ?_)
    | split
    | with_reducible refine Changes.of_snd (by assumption) ?_)

theorem State.leaveDoze_changes (s : State) :
    Changes [.ctl, .intake, .field] (.only [0x0405, 0x0406, 0x0407, 0x0509, K.aliveState, K.aliveStopCause]) s (State.leaveDoze s) := by
  unfold State.leaveDoze
  repeat' ((try with_reducible conv => arg 4; whnf); first
    | with_reducible apply Changes.refl
    | ((with_reducible show Area.sub _ _ = true); rfl)
    | ((with_reducible apply Entries.le_of_sub); rfl)
    | ((with_reducible apply Entries.le_only); simp; done)
    | intro _
    | with_reducible apply Changes.ite
    | with_reducible apply Changes.foldl
    | with_reducible apply Changes.andThen ?_ (State.startStream_changes _ _ ) ?_ ?_
    | with_reducible apply Changes.andThen ?_ (State.aliveClear_changes _ _ ) ?_ ?_
    | ((conv => arg 4; arg 24); with_reducible refine Changes.update ?_)
    | split)

theorem State.goUp_changes (s : State) (old new : PowerSt) :
    Changes [.freeN, .ctl, .belt, .intake, .pipe, .engine, .tracks, .eject, .field, .memory, .knots, .host, .net, .faults, .power, .perf, .out] (.only [0x0405, 0x0406, 0x0407, 0x0509, 0x0804, 0x0F10, 0x1205, 0x1502, K.lastWakeCause, K.waitersInUse, K.waitersPeak, K.inputLevels, K.aliveState, K.aliveStopCause, K.channelsOn, K.commandsCompleted, K.recordsUnrouted]) s (State.goUp s old new) := by
  unfold State.goUp
  repeat' ((try with_reducible conv => arg 4; whnf); first
    | with_reducible apply Changes.refl
    | ((with_reducible show Area.sub _ _ = true); rfl)
    | ((with_reducible apply Entries.le_of_sub); rfl)
    | ((with_reducible apply Entries.le_only); simp; done)
    | intro _
    | with_reducible apply Changes.ite
    | with_reducible apply Changes.andThen ?_ (State.leaveRetain_changes _ ) ?_ ?_
    | with_reducible apply Changes.andThen ?_ (State.leaveDoze_changes _ ) ?_ ?_
    | split)

theorem State.enterStandby_changes (s : State) :
    Changes [.blobs, .ctl, .belt, .supplies, .intake, .pipe, .engine, .tracks, .eject, .field, .memory, .knots, .host, .net, .faults, .power, .perf, .boot] (.all) s (State.enterStandby s) := by
  unfold State.enterStandby
  repeat' ((try with_reducible conv => arg 4; whnf); first
    | with_reducible apply Changes.refl
    | ((with_reducible show Area.sub _ _ = true); rfl)
    | ((with_reducible apply Entries.le_of_sub); rfl)
    | ((with_reducible apply Entries.le_only); simp; done)
    | intro _
    | with_reducible apply Changes.foldl
    | with_reducible apply Changes.andThen ?_ (State.setReg_changes _ _ _ ) ?_ ?_
    | with_reducible apply Changes.andThen ?_ (State.enterReset_changes _ _ ) ?_ ?_
    | ((conv => arg 4; arg 24); with_reducible refine Changes.update ?_))

theorem State.powerRec_changes (s : State) (new old : PowerSt) (cause start : Nat) :
    Changes [.host, .perf, .out] (.only [0x1205, K.recordsUnrouted]) s (State.powerRec s new old cause start) := by
  unfold State.powerRec
  repeat' ((try with_reducible conv => arg 4; whnf); first
    | with_reducible apply Changes.refl
    | ((with_reducible show Area.sub _ _ = true); rfl)
    | ((with_reducible apply Entries.le_of_sub); rfl)
    | ((with_reducible apply Entries.le_only); simp; done)
    | intro _
    | with_reducible apply Changes.andThen ?_ (State.emit_changes _ _ ) ?_ ?_)

theorem State.transDone_changes (s : State) :
    Changes [.freeN, .blobs, .ctl, .belt, .supplies, .intake, .pipe, .engine, .tracks, .eject, .field, .memory, .knots, .host, .net, .faults, .power, .perf, .boot, .out] (.all) s (State.transDone s) := by
  unfold State.transDone
  repeat' ((try with_reducible conv => arg 4; whnf); first
    | with_reducible apply Changes.refl
    | ((with_reducible show Area.sub _ _ = true); rfl)
    | ((with_reducible apply Entries.le_of_sub); rfl)
    | ((with_reducible apply Entries.le_only); simp; done)
    | intro _
    | with_reducible apply Changes.ite
    | with_reducible apply Changes.andThen ?_ (State.goDown_changes _ _ _ ) ?_ ?_
    | with_reducible apply Changes.andThen ?_ (State.trackReady_changes _ ) ?_ ?_
    | with_reducible apply Changes.andThen ?_ (State.takeBells_changes _ ) ?_ ?_
    | with_reducible apply Changes.andThen ?_ (State.goUp_changes _ _ _ ) ?_ ?_
    | with_reducible apply Changes.andThen ?_ (State.autoWake_changes _ ) ?_ ?_
    | with_reducible apply Changes.andThen ?_ (State.enterStandby_changes _ ) ?_ ?_
    | with_reducible apply Changes.andThen ?_ (State.cmdSet_changes _ _ _ ) ?_ ?_
    | with_reducible apply Changes.andThen ?_ (State.powerRec_changes _ _ _ _ _ ) ?_ ?_
    | ((conv => arg 4; arg 24); with_reducible refine Changes.update ?_)
    | split)

theorem State.faultWake_changes (s : State) :
    Changes [.freeN, .blobs, .ctl, .belt, .supplies, .intake, .pipe, .engine, .tracks, .eject, .field, .memory, .knots, .host, .net, .faults, .power, .perf, .boot, .out] (.all) s (State.faultWake s) := by
  unfold State.faultWake
  repeat' ((try with_reducible conv => arg 4; whnf); first
    | with_reducible apply Changes.refl
    | ((with_reducible show Area.sub _ _ = true); rfl)
    | ((with_reducible apply Entries.le_of_sub); rfl)
    | ((with_reducible apply Entries.le_only); simp; done)
    | intro _
    | with_reducible apply Changes.ite
    | with_reducible apply Changes.andThen ?_ (State.transDone_changes _ ) ?_ ?_
    | ((conv => arg 4; arg 24); with_reducible refine Changes.update ?_)
    | split)

theorem State.replanNowCmd_changes (s : State) :
    Changes [.ctl, .host, .power, .perf, .out] (.only [0x0317, 0x1205, K.computeEnergyPerOp, K.voltageSteps, K.clockSteps, K.recordsUnrouted]) s (State.replanNowCmd s).2 := by
  unfold State.replanNowCmd
  repeat' ((try with_reducible conv => arg 4; arg 1; whnf); first
    | with_reducible apply Changes.refl
    | dsimp only
    | ((with_reducible show Area.sub _ _ = true); rfl)
    | ((with_reducible apply Entries.le_of_sub); rfl)
    | ((with_reducible apply Entries.le_only); simp; done)
    | intro _
    | with_reducible apply Changes.ite
    | with_reducible apply Changes.ite_snd
    | with_reducible apply Changes.andThen ?_ (State.cmdOk_changes _ _ ) ?_ ?_
    | with_reducible apply Changes.andThen ?_ (State.replanPoint_changes _ ) ?_ ?_
    | ((conv => arg 4; arg 24); with_reducible refine Changes.update ?_)
    | split)

theorem State.wakeTimer_changes (s : State) :
    Changes [.freeN, .ctl, .power] (.only [K.lastWakeCause]) s (State.wakeTimer s) := by
  unfold State.wakeTimer
  repeat' ((try with_reducible conv => arg 4; whnf); first
    | with_reducible apply Changes.refl
    | ((with_reducible show Area.sub _ _ = true); rfl)
    | ((with_reducible apply Entries.le_of_sub); rfl)
    | ((with_reducible apply Entries.le_only); simp; done)
    | intro _
    | with_reducible apply Changes.ite
    | with_reducible apply Changes.andThen ?_ (State.wake_changes _ _ _ ) ?_ ?_
    | split)

theorem State.autoReady_changes (s : State) :
    Changes [.freeN, .ctl, .power] (.only []) s (State.autoReady s) := by
  unfold State.autoReady
  repeat' ((try with_reducible conv => arg 4; whnf); first
    | with_reducible apply Changes.refl
    | ((with_reducible show Area.sub _ _ = true); rfl)
    | ((with_reducible apply Entries.le_of_sub); rfl)
    | ((with_reducible apply Entries.le_only); simp; done)
    | intro _
    | with_reducible apply Changes.ite
    | with_reducible apply Changes.andThen ?_ (State.beginTransition_changes _ _ _ ) ?_ ?_
    | split)

theorem execAutoReadyEntry_changes (s : State) {u : State} (h : execAutoReadyEntry s = .next u) :
    Changes [.freeN, .ctl, .power] (.only []) s u := by
  unfold execAutoReadyEntry at h
  try (have h := guardUnit_next h)
  try injection h with h
  subst h
  repeat' ((try with_reducible conv => arg 4; whnf); first
    | with_reducible apply Changes.refl
    | ((with_reducible show Area.sub _ _ = true); rfl)
    | ((with_reducible apply Entries.le_of_sub); rfl)
    | ((with_reducible apply Entries.le_only); simp; done)
    | intro _
    | with_reducible apply Changes.andThen ?_ (State.autoReady_changes _ ) ?_ ?_)

theorem State.clockDone_changes (s : State) (cyc : Nat) :
    Changes [.freeN, .engine, .host, .power, .perf, .out] (.only [0x1205, K.computeEnergyPerOp, K.coreClock, K.periodBudget, K.slackCycles, K.decisionLatencyBound, K.decisionLatencyBoundUs, K.predictedComputePower, K.deadlineAtRisk, K.powerAtRisk, K.lastTrainingTime, K.recordsUnrouted]) s (State.clockDone s cyc) := by
  unfold State.clockDone
  repeat' ((try with_reducible conv => arg 4; whnf); first
    | with_reducible apply Changes.refl
    | ((with_reducible show Area.sub _ _ = true); rfl)
    | ((with_reducible apply Entries.le_of_sub); rfl)
    | ((with_reducible apply Entries.le_only); simp; done)
    | intro _
    | with_reducible apply Changes.ite
    | with_reducible apply Changes.andThen ?_ (State.setReg_changes _ _ _ ) ?_ ?_
    | with_reducible apply Changes.andThen ?_ (State.noteTraining_changes _ _ ) ?_ ?_
    | with_reducible apply Changes.andThen ?_ (State.setEnergy_changes _ ) ?_ ?_
    | with_reducible apply Changes.andThen ?_ (State.replanRec_changes _ _ _ ) ?_ ?_
    | with_reducible apply Changes.andThen ?_ (State.reviewPlans_changes _ ) ?_ ?_
    | ((conv => arg 4; arg 24); with_reducible refine Changes.update ?_)
    | split)

theorem execCclkStepDone_changes (cyc : Nat) (s : State) {u : State} (h : execCclkStepDone cyc s = .next u) :
    Changes [.freeN, .engine, .host, .power, .perf, .out] (.only [0x1205, K.computeEnergyPerOp, K.coreClock, K.periodBudget, K.slackCycles, K.decisionLatencyBound, K.decisionLatencyBoundUs, K.predictedComputePower, K.deadlineAtRisk, K.powerAtRisk, K.lastTrainingTime, K.recordsUnrouted]) s u := by
  unfold execCclkStepDone at h
  try (have h := guardUnit_next h)
  try injection h with h
  subst h
  repeat' ((try with_reducible conv => arg 4; whnf); first
    | with_reducible apply Changes.refl
    | ((with_reducible show Area.sub _ _ = true); rfl)
    | ((with_reducible apply Entries.le_of_sub); rfl)
    | ((with_reducible apply Entries.le_only); simp; done)
    | intro _
    | with_reducible apply Changes.andThen ?_ (State.clockDone_changes _ _ ) ?_ ?_)

theorem execPowerTargetRun_changes (sess : Nat) (s : State) {u : State} (h : execPowerTargetRun sess s = .next u) :
    Changes [.freeN, .ctl, .power, .out] (.only [K.lastWakeCause]) s u := by
  unfold execPowerTargetRun at h
  try (have h := guardUnit_next h)
  try injection h with h
  subst h
  repeat' ((try with_reducible conv => arg 4; whnf); first
    | with_reducible apply Changes.refl
    | ((with_reducible show Area.sub _ _ = true); rfl)
    | ((with_reducible apply Entries.le_of_sub); rfl)
    | ((with_reducible apply Entries.le_only); simp; done)
    | intro _
    | with_reducible apply Changes.andThen ?_ (State.powerTarget_changes _ _ _ ) ?_ ?_
    | with_reducible apply Changes.trans ?_ (State.runCmd_changes _ _ _ _  ?_ ?_ ?_))

theorem execWakeTimerExpiry_changes (s : State) {u : State} (h : execWakeTimerExpiry s = .next u) :
    Changes [.freeN, .ctl, .power] (.only [K.lastWakeCause]) s u := by
  unfold execWakeTimerExpiry at h
  try (have h := guardUnit_next h)
  try injection h with h
  subst h
  repeat' ((try with_reducible conv => arg 4; whnf); first
    | with_reducible apply Changes.refl
    | ((with_reducible show Area.sub _ _ = true); rfl)
    | ((with_reducible apply Entries.le_of_sub); rfl)
    | ((with_reducible apply Entries.le_only); simp; done)
    | intro _
    | with_reducible apply Changes.andThen ?_ (State.wakeTimer_changes _ ) ?_ ?_)

theorem execPowerTransitionDone_changes (s : State) {u : State} (h : execPowerTransitionDone s = .next u) :
    Changes [.freeN, .blobs, .ctl, .belt, .supplies, .intake, .pipe, .engine, .tracks, .eject, .field, .memory, .knots, .host, .net, .faults, .power, .perf, .boot, .out] (.all) s u := by
  unfold execPowerTransitionDone at h
  try (have h := guardUnit_next h)
  try injection h with h
  subst h
  repeat' ((try with_reducible conv => arg 4; whnf); first
    | with_reducible apply Changes.refl
    | ((with_reducible show Area.sub _ _ = true); rfl)
    | ((with_reducible apply Entries.le_of_sub); rfl)
    | ((with_reducible apply Entries.le_only); simp; done)
    | intro _
    | with_reducible apply Changes.andThen ?_ (State.transDone_changes _ ) ?_ ?_)

theorem execReplanNow_changes (sess : Nat) (s : State) {u : State} (h : execReplanNow sess s = .next u) :
    Changes [.ctl, .host, .power, .perf, .out] (.only [0x0317, 0x1205, K.computeEnergyPerOp, K.voltageSteps, K.clockSteps, K.recordsUnrouted]) s u := by
  unfold execReplanNow at h
  try (have h := guardUnit_next h)
  try injection h with h
  subst h
  repeat' ((try with_reducible conv => arg 4; whnf); first
    | with_reducible apply Changes.refl
    | ((with_reducible show Area.sub _ _ = true); rfl)
    | ((with_reducible apply Entries.le_of_sub); rfl)
    | ((with_reducible apply Entries.le_only); simp; done)
    | intro _
    | with_reducible apply Changes.andThen ?_ (State.replanNowCmd_changes _ ) ?_ ?_
    | with_reducible apply Changes.trans ?_ (State.runCmd_changes _ _ _ _  ?_ ?_ ?_))

theorem State.thermalRec_changes (s : State) (die : Nat) (on : Bool) (cause temp : Nat) :
    Changes [.host, .perf, .out] (.only [0x1205, K.recordsUnrouted]) s (State.thermalRec s die on cause temp) := by
  unfold State.thermalRec
  repeat' ((try with_reducible conv => arg 4; whnf); first
    | with_reducible apply Changes.refl
    | ((with_reducible show Area.sub _ _ = true); rfl)
    | ((with_reducible apply Entries.le_of_sub); rfl)
    | ((with_reducible apply Entries.le_only); simp; done)
    | intro _
    | with_reducible apply Changes.andThen ?_ (State.emit_changes _ _ ) ?_ ?_)

theorem State.setThrottle_changes (s : State) (cause die temp : Nat) (on : Bool) :
    Changes [.freeN, .host, .power, .perf, .out] (.only [0x1205, K.throttleState, K.throttleEvents, K.recordsUnrouted]) s (State.setThrottle s cause die temp on) := by
  unfold State.setThrottle
  repeat' ((try with_reducible conv => arg 4; whnf); first
    | with_reducible apply Changes.refl
    | ((with_reducible show Area.sub _ _ = true); rfl)
    | ((with_reducible apply Entries.le_of_sub); rfl)
    | ((with_reducible apply Entries.le_only); simp; done)
    | intro _
    | with_reducible apply Changes.ite
    | with_reducible apply Changes.andThen ?_ (State.setReg_changes _ _ _ ) ?_ ?_
    | with_reducible apply Changes.andThen ?_ (State.bump_changes _ _ _ ) ?_ ?_
    | with_reducible apply Changes.andThen ?_ (State.thermalRec_changes _ _ _ _ _ ) ?_ ?_
    | with_reducible apply Changes.andThen ?_ (State.takeFree_changes _ ) ?_ ?_
    | ((conv => arg 4; arg 24); with_reducible refine Changes.update ?_)
    | split)

theorem State.throttleByPower_changes (s : State) :
    Changes [.freeN, .host, .power, .perf, .out] (.only [0x1205, K.throttleState, K.throttleEvents, K.recordsUnrouted]) s (State.throttleByPower s) := by
  unfold State.throttleByPower
  repeat' ((try with_reducible conv => arg 4; whnf); first
    | with_reducible apply Changes.refl
    | ((with_reducible show Area.sub _ _ = true); rfl)
    | ((with_reducible apply Entries.le_of_sub); rfl)
    | ((with_reducible apply Entries.le_only); simp; done)
    | intro _
    | with_reducible apply Changes.ite
    | with_reducible apply Changes.andThen ?_ (State.setThrottle_changes _ _ _ _ _ ) ?_ ?_
    | ((conv => arg 4; arg 24); with_reducible refine Changes.update ?_)
    | split)

theorem State.throttleByTemp_changes (s : State) :
    Changes [.freeN, .host, .power, .perf, .out] (.only [0x1205, K.throttleState, K.throttleEvents, K.recordsUnrouted]) s (State.throttleByTemp s) := by
  unfold State.throttleByTemp
  repeat' ((try with_reducible conv => arg 4; whnf); first
    | with_reducible apply Changes.refl
    | ((with_reducible show Area.sub _ _ = true); rfl)
    | ((with_reducible apply Entries.le_of_sub); rfl)
    | ((with_reducible apply Entries.le_only); simp; done)
    | intro _
    | with_reducible apply Changes.ite
    | with_reducible apply Changes.andThen ?_ (State.setThrottle_changes _ _ _ _ _ ) ?_ ?_
    | with_reducible apply Changes.andThen ?_ (State.takeFree_changes _ ) ?_ ?_
    | split)

theorem State.readSensors_changes (s : State) (t : TempSample) :
    Changes [] (.only [0x0312, 0x0314, K.logicInputVoltage, K.logicInputPower, K.cameraInputVoltage]) s (State.readSensors s t) := by
  unfold State.readSensors
  repeat' ((try with_reducible conv => arg 4; whnf); first
    | with_reducible apply Changes.refl
    | ((with_reducible show Area.sub _ _ = true); rfl)
    | ((with_reducible apply Entries.le_of_sub); rfl)
    | ((with_reducible apply Entries.le_only); simp; done)
    | intro _
    | with_reducible apply Changes.foldl
    | with_reducible apply Changes.andThen ?_ (State.setReg_changes _ _ _ ) ?_ ?_
    | split)

theorem State.tempSample_changes (s : State) (t : TempSample) :
    Changes [.freeN, .blobs, .ctl, .belt, .supplies, .intake, .pipe, .engine, .tracks, .eject, .field, .memory, .knots, .host, .net, .faults, .power, .perf, .boot, .out] (.all) s (State.tempSample s t) := by
  unfold State.tempSample
  repeat' ((try with_reducible conv => arg 4; whnf); first
    | with_reducible apply Changes.refl
    | ((with_reducible show Area.sub _ _ = true); rfl)
    | ((with_reducible apply Entries.le_of_sub); rfl)
    | ((with_reducible apply Entries.le_only); simp; done)
    | intro _
    | with_reducible apply Changes.ite
    | with_reducible apply Changes.andThen ?_ (State.throttleByPower_changes _ ) ?_ ?_
    | with_reducible apply Changes.andThen ?_ (State.throttleByTemp_changes _ ) ?_ ?_
    | with_reducible apply Changes.andThen ?_ (State.faultWake_changes _ ) ?_ ?_
    | with_reducible apply Changes.andThen ?_ (State.raiseReset_changes _ _ _ _ ) ?_ ?_
    | with_reducible apply Changes.andThen ?_ (State.readSensors_changes _ _ ) ?_ ?_
    | split)

theorem execTemperatureSample_changes (t : TempSample) (s : State) {u : State} (h : execTemperatureSample t s = .next u) :
    Changes [.freeN, .blobs, .ctl, .belt, .supplies, .intake, .pipe, .engine, .tracks, .eject, .field, .memory, .knots, .host, .net, .faults, .power, .perf, .boot, .out] (.all) s u := by
  unfold execTemperatureSample at h
  try (have h := guardUnit_next h)
  try injection h with h
  subst h
  repeat' ((try with_reducible conv => arg 4; whnf); first
    | with_reducible apply Changes.refl
    | ((with_reducible show Area.sub _ _ = true); rfl)
    | ((with_reducible apply Entries.le_of_sub); rfl)
    | ((with_reducible apply Entries.le_only); simp; done)
    | intro _
    | with_reducible apply Changes.andThen ?_ (State.tempSample_changes _ _ ) ?_ ?_)

theorem State.setPending_changes (s : State) :
    Changes [] (.only [K.replanPending]) s (State.setPending s) := by
  unfold State.setPending
  repeat' ((try with_reducible conv => arg 4; whnf); first
    | with_reducible apply Changes.refl
    | ((with_reducible show Area.sub _ _ = true); rfl)
    | ((with_reducible apply Entries.le_of_sub); rfl)
    | ((with_reducible apply Entries.le_only); simp; done)
    | intro _
    | with_reducible apply Changes.andThen ?_ (State.setReg_changes _ _ _ ) ?_ ?_)

theorem State.ageing_changes (s : State) (slow : List Nat) (margin : List Int) :
    Changes [.host, .power, .perf, .out] (.only [0x0315, 0x0316, 0x0317, 0x1205, K.computeEnergyPerOp, K.replanPending, K.voltageSteps, K.clockSteps, K.recordsUnrouted]) s (State.ageing s slow margin) := by
  unfold State.ageing
  repeat' ((try with_reducible conv => arg 4; whnf); first
    | with_reducible apply Changes.refl
    | ((with_reducible show Area.sub _ _ = true); rfl)
    | ((with_reducible apply Entries.le_of_sub); rfl)
    | ((with_reducible apply Entries.le_only); simp; done)
    | intro _
    | with_reducible apply Changes.ite
    | with_reducible apply Changes.foldl
    | with_reducible apply Changes.andThen ?_ (State.setReg_changes _ _ _ ) ?_ ?_
    | with_reducible apply Changes.andThen ?_ (State.setPending_changes _ ) ?_ ?_
    | with_reducible apply Changes.andThen ?_ (State.replanPoint_changes _ ) ?_ ?_
    | split)

theorem execAgeingMonitorUpdate_changes (slow : List Nat) (margin : List Int) (s : State) {u : State} (h : execAgeingMonitorUpdate slow margin s = .next u) :
    Changes [.host, .power, .perf, .out] (.only [0x0315, 0x0316, 0x0317, 0x1205, K.computeEnergyPerOp, K.replanPending, K.voltageSteps, K.clockSteps, K.recordsUnrouted]) s u := by
  unfold execAgeingMonitorUpdate at h
  try (have h := guardUnit_next h)
  try injection h with h
  subst h
  repeat' ((try with_reducible conv => arg 4; whnf); first
    | with_reducible apply Changes.refl
    | ((with_reducible show Area.sub _ _ = true); rfl)
    | ((with_reducible apply Entries.le_of_sub); rfl)
    | ((with_reducible apply Entries.le_only); simp; done)
    | intro _
    | with_reducible apply Changes.andThen ?_ (State.ageing_changes _ _ _ ) ?_ ?_)

theorem execPowerTargetStandby_changes (sess : Nat) (s : State) {u : State} (h : execPowerTargetStandby sess s = .next u) :
    Changes [.freeN, .ctl, .power, .out] (.only [K.lastWakeCause]) s u := by
  unfold execPowerTargetStandby at h
  try (have h := guardUnit_next h)
  try injection h with h
  subst h
  repeat' ((try with_reducible conv => arg 4; whnf); first
    | with_reducible apply Changes.refl
    | ((with_reducible show Area.sub _ _ = true); rfl)
    | ((with_reducible apply Entries.le_of_sub); rfl)
    | ((with_reducible apply Entries.le_only); simp; done)
    | intro _
    | with_reducible apply Changes.andThen ?_ (State.powerTarget_changes _ _ _ ) ?_ ?_
    | with_reducible apply Changes.trans ?_ (State.runCmd_changes _ _ _ _  ?_ ?_ ?_))

theorem execPowerTargetDoze_changes (sess : Nat) (s : State) {u : State} (h : execPowerTargetDoze sess s = .next u) :
    Changes [.freeN, .ctl, .power, .out] (.only [K.lastWakeCause]) s u := by
  unfold execPowerTargetDoze at h
  try (have h := guardUnit_next h)
  try injection h with h
  subst h
  repeat' ((try with_reducible conv => arg 4; whnf); first
    | with_reducible apply Changes.refl
    | ((with_reducible show Area.sub _ _ = true); rfl)
    | ((with_reducible apply Entries.le_of_sub); rfl)
    | ((with_reducible apply Entries.le_only); simp; done)
    | intro _
    | with_reducible apply Changes.andThen ?_ (State.powerTarget_changes _ _ _ ) ?_ ?_
    | with_reducible apply Changes.trans ?_ (State.runCmd_changes _ _ _ _  ?_ ?_ ?_))

theorem execPowerTargetRetain_changes (sess : Nat) (s : State) {u : State} (h : execPowerTargetRetain sess s = .next u) :
    Changes [.freeN, .ctl, .power, .out] (.only [K.lastWakeCause]) s u := by
  unfold execPowerTargetRetain at h
  try (have h := guardUnit_next h)
  try injection h with h
  subst h
  repeat' ((try with_reducible conv => arg 4; whnf); first
    | with_reducible apply Changes.refl
    | ((with_reducible show Area.sub _ _ = true); rfl)
    | ((with_reducible apply Entries.le_of_sub); rfl)
    | ((with_reducible apply Entries.le_only); simp; done)
    | intro _
    | with_reducible apply Changes.andThen ?_ (State.powerTarget_changes _ _ _ ) ?_ ?_
    | with_reducible apply Changes.trans ?_ (State.runCmd_changes _ _ _ _  ?_ ?_ ?_))

theorem execWakeEvent_changes (source : Nat) (s : State) {u : State} (h : execWakeEvent source s = .next u) :
    Changes [.freeN, .ctl, .power] (.only [K.lastWakeCause]) s u := by
  unfold execWakeEvent at h
  try (have h := guardUnit_next h)
  try injection h with h
  subst h
  repeat' ((try with_reducible conv => arg 4; whnf); first
    | with_reducible apply Changes.refl
    | ((with_reducible show Area.sub _ _ = true); rfl)
    | ((with_reducible apply Entries.le_of_sub); rfl)
    | ((with_reducible apply Entries.le_only); simp; done)
    | intro _
    | with_reducible apply Changes.andThen ?_ (State.wake_changes _ _ _ ) ?_ ?_)

theorem execPowerTargetReady_changes (sess : Nat) (s : State) {u : State} (h : execPowerTargetReady sess s = .next u) :
    Changes [.freeN, .ctl, .power, .out] (.only [K.lastWakeCause]) s u := by
  unfold execPowerTargetReady at h
  try (have h := guardUnit_next h)
  try injection h with h
  subst h
  repeat' ((try with_reducible conv => arg 4; whnf); first
    | with_reducible apply Changes.refl
    | ((with_reducible show Area.sub _ _ = true); rfl)
    | ((with_reducible apply Entries.le_of_sub); rfl)
    | ((with_reducible apply Entries.le_only); simp; done)
    | intro _
    | with_reducible apply Changes.andThen ?_ (State.powerTarget_changes _ _ _ ) ?_ ?_
    | with_reducible apply Changes.trans ?_ (State.runCmd_changes _ _ _ _  ?_ ?_ ?_))

end Sys2Proof.Machine
end

