-- ==== Sys2Proof/Laws/FrameFaults.lean ====
section
/-! SUPPORT. What each operation of Machine/Faults.lean changes and what it leaves unchanged. -/

-- one theorem after another: see NOTES.md
set_option Elab.async false

namespace Sys2Proof.Machine

theorem execFaultLogClear_changes (sess : Nat) (s : State) {u : State} (h : execFaultLogClear sess s = .next u) :
    Changes [.ctl, .faults, .out] (.only [0x1703]) s u := by
  unfold execFaultLogClear at h
  try (have h := guardUnit_next h)
  try injection h with h
  subst h
  repeat' ((try with_reducible conv => arg 4; whnf); first
    | with_reducible apply Changes.refl
    | ((with_reducible show Area.sub _ _ = true); rfl)
    | ((with_reducible apply Entries.le_of_sub); rfl)
    | ((with_reducible apply Entries.le_only); simp; done)
    | intro _
    | with_reducible apply Changes.andThen ?_ (State.cmdOk_changes _ _ ) ?_ ?_
    | with_reducible apply Changes.andThen ?_ (State.logEmptied_changes _ _ ) ?_ ?_
    | with_reducible apply Changes.trans ?_ (State.runCmd_changes _ _ _ _  ?_ ?_ ?_)
    | ((conv => arg 4; arg 24); with_reducible refine Changes.update ?_))

theorem State.tellGroup_changes (s : State) (c : Nat) :
    Changes [.out] (.only []) s (State.tellGroup s c) := by
  unfold State.tellGroup
  repeat' ((try with_reducible conv => arg 4; whnf); first
    | with_reducible apply Changes.refl
    | ((with_reducible show Area.sub _ _ = true); rfl)
    | ((with_reducible apply Entries.le_of_sub); rfl)
    | ((with_reducible apply Entries.le_only); simp; done)
    | intro _
    | with_reducible apply Changes.ite
    | with_reducible apply Changes.foldl
    | with_reducible apply Changes.andThen ?_ (State.send_changes _ _ ) ?_ ?_
    | split)

theorem State.resumeCtx_changes (s : State) (c : Nat) :
    Changes [.belt, .engine, .knots, .host, .power, .perf, .out] (.only [0x1205, K.waitersInUse, K.waitersPeak, K.commandsCompleted, K.recordsUnrouted]) s (State.resumeCtx s c) := by
  unfold State.resumeCtx
  repeat' ((try with_reducible conv => arg 4; whnf); first
    | with_reducible apply Changes.refl
    | ((with_reducible show Area.sub _ _ = true); rfl)
    | ((with_reducible apply Entries.le_of_sub); rfl)
    | ((with_reducible apply Entries.le_only); simp; done)
    | intro _
    | with_reducible apply Changes.ite
    | with_reducible apply Changes.andThen ?_ (State.restartKnots_changes _ _ ) ?_ ?_
    | with_reducible apply Changes.andThen ?_ (State.trackReady_changes _ ) ?_ ?_
    | with_reducible apply Changes.andThen ?_ (State.setCtx_changes _ _ _ ) ?_ ?_
    | ((conv => arg 4; arg 24); with_reducible refine Changes.update ?_)
    | split)

theorem State.reformGroup_changes (s : State) (c : Nat) :
    Changes [.knots, .perf, .out] (.only [K.groupState, K.groupFailCause, K.membersSeen]) s (State.reformGroup s c) := by
  unfold State.reformGroup
  repeat' ((try with_reducible conv => arg 4; whnf); first
    | with_reducible apply Changes.refl
    | ((with_reducible show Area.sub _ _ = true); rfl)
    | ((with_reducible apply Entries.le_of_sub); rfl)
    | ((with_reducible apply Entries.le_only); simp; done)
    | intro _
    | with_reducible apply Changes.ite
    | with_reducible apply Changes.andThen ?_ (State.startForm_changes _ ) ?_ ?_
    | split)

theorem State.contextResetCmd_changes (s : State) (c : Nat) :
    Changes [.freeN, .blobs, .ctl, .belt, .pipe, .engine, .tracks, .eject, .memory, .knots, .host, .faults, .power, .perf, .out] (.only [0x0804, 0x1205, 0x1402, 0x1703, K.decisionsIssued, K.fallbackDecisions, K.waitersInUse, K.waitersPeak, K.ownerResetReleases, K.knotDumpContext, K.groupState, K.groupFailCause, K.membersSeen, K.pulsesPending, K.pulsesPeak, K.pulsesScheduled, K.pulsesMerged, K.storeFullRefused, K.lateDecisions, K.missedDecisions, K.disabledChannelRequests, K.commandsCompleted, K.recordsUnrouted, K.faultLogOverwritten, K.faultRecordsSuppressed, K.fallbackGapOpen, K.gapRecords]) s (State.contextResetCmd s c).2 := by
  unfold State.contextResetCmd
  repeat' ((try with_reducible conv => arg 4; arg 1; whnf); first
    | with_reducible apply Changes.refl
    | dsimp only
    | ((with_reducible show Area.sub _ _ = true); rfl)
    | ((with_reducible apply Entries.le_of_sub); rfl)
    | ((with_reducible apply Entries.le_only); simp; done)
    | intro _
    | with_reducible apply Changes.ite
    | with_reducible apply Changes.ite_snd
    | with_reducible apply Changes.andThen ?_ (State.cmdOk_changes _ _ ) ?_ ?_
    | with_reducible apply Changes.andThen ?_ (State.startTeardown_changes _ _ _ ) ?_ ?_
    | with_reducible apply Changes.andThen ?_ (State.tellGroup_changes _ _ ) ?_ ?_
    | with_reducible apply Changes.andThen ?_ (State.resumeCtx_changes _ _ ) ?_ ?_
    | with_reducible apply Changes.andThen ?_ (State.noteFault_changes _ _ _ _ _ _ _ ) ?_ ?_
    | with_reducible apply Changes.andThen ?_ (State.cmdSet_changes _ _ _ ) ?_ ?_
    | with_reducible apply Changes.andThen ?_ (State.reformGroup_changes _ _ ) ?_ ?_
    | with_reducible apply Changes.andThen ?_ (State.cmdBegin_changes _ _ ) ?_ ?_
    | ((conv => arg 4; arg 24); with_reducible refine Changes.update ?_)
    | split)

theorem State.deviceFault_changes (s : State) (code detail : Nat) :
    Changes [.freeN, .blobs, .ctl, .belt, .supplies, .intake, .pipe, .engine, .tracks, .eject, .field, .memory, .knots, .host, .net, .faults, .power, .perf, .boot, .out] (.all) s (State.deviceFault s code detail) := by
  unfold State.deviceFault
  repeat' ((try with_reducible conv => arg 4; whnf); first
    | with_reducible apply Changes.refl
    | ((with_reducible show Area.sub _ _ = true); rfl)
    | ((with_reducible apply Entries.le_of_sub); rfl)
    | ((with_reducible apply Entries.le_only); simp; done)
    | intro _
    | with_reducible apply Changes.ite
    | with_reducible apply Changes.andThen ?_ (State.enterReset_changes _ _ ) ?_ ?_
    | with_reducible apply Changes.andThen ?_ (State.noteFault_changes _ _ _ _ _ _ _ ) ?_ ?_
    | with_reducible apply Changes.andThen ?_ (State.faultWake_changes _ ) ?_ ?_
    | with_reducible apply Changes.andThen ?_ (State.raiseDevice_changes _ _ _ _ ) ?_ ?_
    | split)

theorem State.deviceRecoverCmd_changes (s : State) :
    Changes [.freeN, .blobs, .ctl, .belt, .supplies, .intake, .pipe, .engine, .tracks, .eject, .field, .memory, .knots, .host, .net, .faults, .power, .perf, .boot, .out] (.all) s (State.deviceRecoverCmd s).2 := by
  unfold State.deviceRecoverCmd
  repeat' ((try with_reducible conv => arg 4; arg 1; whnf); first
    | with_reducible apply Changes.refl
    | dsimp only
    | ((with_reducible show Area.sub _ _ = true); rfl)
    | ((with_reducible apply Entries.le_of_sub); rfl)
    | ((with_reducible apply Entries.le_only); simp; done)
    | intro _
    | with_reducible apply Changes.ite
    | with_reducible apply Changes.ite_snd
    | with_reducible apply Changes.andThen ?_ (State.deviceFault_changes _ _ _ ) ?_ ?_
    | with_reducible apply Changes.andThen ?_ (State.cmdBegin_changes _ _ ) ?_ ?_
    | split)

theorem State.teardownEnd_changes (s : State) (c : Nat) :
    Changes [.ctl, .belt, .engine, .knots, .host, .faults, .power, .perf, .out] (.only [0x1205, 0x1405, K.waitersInUse, K.waitersPeak, K.groupState, K.groupFailCause, K.membersSeen, K.commandsCompleted, K.recordsUnrouted]) s (State.teardownEnd s c) := by
  unfold State.teardownEnd
  repeat' ((try with_reducible conv => arg 4; whnf); first
    | with_reducible apply Changes.refl
    | ((with_reducible show Area.sub _ _ = true); rfl)
    | ((with_reducible apply Entries.le_of_sub); rfl)
    | ((with_reducible apply Entries.le_only); simp; done)
    | intro _
    | with_reducible apply Changes.ite
    | with_reducible apply Changes.andThen ?_ (State.finishTeardownWork_changes _ _ ) ?_ ?_
    | with_reducible apply Changes.andThen ?_ (State.bump_changes _ _ _ ) ?_ ?_
    | with_reducible apply Changes.andThen ?_ (State.trackReady_changes _ ) ?_ ?_
    | with_reducible apply Changes.andThen ?_ (State.resumeCtx_changes _ _ ) ?_ ?_
    | with_reducible apply Changes.andThen ?_ (State.cmdSet_changes _ _ _ ) ?_ ?_
    | with_reducible apply Changes.andThen ?_ (State.setCtx_changes _ _ _ ) ?_ ?_
    | with_reducible apply Changes.andThen ?_ (State.reformGroup_changes _ _ ) ?_ ?_
    | ((conv => arg 4; arg 24); with_reducible refine Changes.update ?_)
    | split)

theorem execTeardownEnd_changes (ctx : Nat) (s : State) {u : State} (h : execTeardownEnd ctx s = .next u) :
    Changes [.ctl, .belt, .engine, .knots, .host, .faults, .power, .perf, .out] (.only [0x1205, 0x1405, K.waitersInUse, K.waitersPeak, K.groupState, K.groupFailCause, K.membersSeen, K.commandsCompleted, K.recordsUnrouted]) s u := by
  unfold execTeardownEnd at h
  try (have h := guardUnit_next h)
  try injection h with h
  subst h
  repeat' ((try with_reducible conv => arg 4; whnf); first
    | with_reducible apply Changes.refl
    | ((with_reducible show Area.sub _ _ = true); rfl)
    | ((with_reducible apply Entries.le_of_sub); rfl)
    | ((with_reducible apply Entries.le_only); simp; done)
    | intro _
    | with_reducible apply Changes.andThen ?_ (State.teardownEnd_changes _ _ ) ?_ ?_)

theorem execControlStall_changes (s : State) {u : State} (h : execControlStall s = .next u) :
    Changes [.freeN, .blobs, .ctl, .belt, .supplies, .intake, .pipe, .engine, .tracks, .eject, .field, .memory, .knots, .host, .net, .faults, .power, .perf, .boot, .out] (.all) s u := by
  unfold execControlStall at h
  try (have h := guardUnit_next h)
  try injection h with h
  subst h
  repeat' ((try with_reducible conv => arg 4; whnf); first
    | with_reducible apply Changes.refl
    | ((with_reducible show Area.sub _ _ = true); rfl)
    | ((with_reducible apply Entries.le_of_sub); rfl)
    | ((with_reducible apply Entries.le_only); simp; done)
    | intro _
    | with_reducible apply Changes.andThen ?_ (State.deviceFault_changes _ _ _ ) ?_ ?_)

theorem execDeviceRecover_changes (sess : Nat) (s : State) {u : State} (h : execDeviceRecover sess s = .next u) :
    Changes [.freeN, .blobs, .ctl, .belt, .supplies, .intake, .pipe, .engine, .tracks, .eject, .field, .memory, .knots, .host, .net, .faults, .power, .perf, .boot, .out] (.all) s u := by
  unfold execDeviceRecover at h
  try (have h := guardUnit_next h)
  try injection h with h
  subst h
  repeat' ((try with_reducible conv => arg 4; whnf); first
    | with_reducible apply Changes.refl
    | ((with_reducible show Area.sub _ _ = true); rfl)
    | ((with_reducible apply Entries.le_of_sub); rfl)
    | ((with_reducible apply Entries.le_only); simp; done)
    | intro _
    | with_reducible apply Changes.andThen ?_ (State.deviceRecoverCmd_changes _ ) ?_ ?_
    | with_reducible apply Changes.trans ?_ (State.runCmd_changes _ _ _ _  ?_ ?_ ?_))

theorem execHelperHalted_changes (helper : Nat) (s : State) {u : State} (h : execHelperHalted helper s = .next u) :
    Changes [.freeN, .blobs, .ctl, .belt, .supplies, .intake, .pipe, .engine, .tracks, .eject, .field, .memory, .knots, .host, .net, .faults, .power, .perf, .boot, .out] (.all) s u := by
  unfold execHelperHalted at h
  try (have h := guardUnit_next h)
  try injection h with h
  subst h
  repeat' ((try with_reducible conv => arg 4; whnf); first
    | with_reducible apply Changes.refl
    | ((with_reducible show Area.sub _ _ = true); rfl)
    | ((with_reducible apply Entries.le_of_sub); rfl)
    | ((with_reducible apply Entries.le_only); simp; done)
    | intro _
    | with_reducible apply Changes.andThen ?_ (State.deviceFault_changes _ _ _ ) ?_ ?_)

theorem State.endRecover_changes (s : State) :
    Changes [.ctl] (.only []) s (State.endRecover s) := by
  unfold State.endRecover
  repeat' ((try with_reducible conv => arg 4; whnf); first
    | with_reducible apply Changes.refl
    | ((with_reducible show Area.sub _ _ = true); rfl)
    | ((with_reducible apply Entries.le_of_sub); rfl)
    | ((with_reducible apply Entries.le_only); simp; done)
    | intro _
    | with_reducible apply Changes.ite
    | with_reducible apply Changes.andThen ?_ (State.cmdSet_changes _ _ _ ) ?_ ?_
    | split)

theorem State.recoveryRecs_changes (s : State) (recs : List Rec) (cause ms : Nat) :
    Changes [.host, .perf, .out] (.only [0x1205, K.recordsUnrouted]) s (State.recoveryRecs s recs cause ms) := by
  unfold State.recoveryRecs
  repeat' ((try with_reducible conv => arg 4; whnf); first
    | with_reducible apply Changes.refl
    | ((with_reducible show Area.sub _ _ = true); rfl)
    | ((with_reducible apply Entries.le_of_sub); rfl)
    | ((with_reducible apply Entries.le_only); simp; done)
    | intro _
    | with_reducible apply Changes.andThen ?_ (State.emitAll_changes _ _ ) ?_ ?_
    | with_reducible apply Changes.andThen ?_ (State.emit_changes _ _ ) ?_ ?_)

theorem State.reapply_changes (s : State) (c : Nat) :
    Changes [.belt, .engine, .knots, .host, .perf, .out] (.only [0x1205, 0x1405, K.waitersInUse, K.waitersPeak, K.commandsCompleted, K.recordsUnrouted]) s (State.reapply s c) := by
  unfold State.reapply
  repeat' ((try with_reducible conv => arg 4; whnf); first
    | with_reducible apply Changes.refl
    | ((with_reducible show Area.sub _ _ = true); rfl)
    | ((with_reducible apply Entries.le_of_sub); rfl)
    | ((with_reducible apply Entries.le_only); simp; done)
    | intro _
    | with_reducible apply Changes.ite
    | with_reducible apply Changes.andThen ?_ (State.bump_changes _ _ _ ) ?_ ?_
    | with_reducible apply Changes.andThen ?_ (State.bindPlan_changes _ _ _ ) ?_ ?_
    | with_reducible apply Changes.andThen ?_ (State.setCtx_changes _ _ _ ) ?_ ?_
    | ((conv => arg 4; arg 24); refine Changes.updateIn ?_)
    | split)

theorem State.resetDies_changes (s : State) :
    Changes [.pipe, .engine, .tracks, .memory, .knots, .perf] (.only [0x1502]) s (State.resetDies s) := by
  unfold State.resetDies
  repeat' ((try with_reducible conv => arg 4; whnf); first
    | with_reducible apply Changes.refl
    | ((with_reducible show Area.sub _ _ = true); rfl)
    | ((with_reducible apply Entries.le_of_sub); rfl)
    | ((with_reducible apply Entries.le_only); simp; done)
    | intro _
    | with_reducible apply Changes.ite
    | with_reducible apply Changes.andThen ?_ (State.presetBanks_changes _ ) ?_ ?_
    | with_reducible apply Changes.andThen ?_ (State.resetPipes_changes _ ) ?_ ?_
    | ((conv => arg 4; arg 24); with_reducible refine Changes.update ?_)
    | split)

theorem State.recoveryResume_changes (s : State) :
    Changes [.freeN, .ctl, .belt, .pipe, .engine, .tracks, .memory, .knots, .host, .faults, .power, .perf, .boot, .out] (.only [0x1205, 0x1402, 0x1405, 0x1502, 0x1703, K.lastTrainingTime, K.waitersInUse, K.waitersPeak, K.commandsCompleted, K.recordsUnrouted, K.faultLogOverwritten, K.faultRecordsSuppressed, K.lastRecoveryTime, K.samplesTaken, K.bootState]) s (State.recoveryResume s) := by
  unfold State.recoveryResume
  repeat' ((try with_reducible conv => arg 4; whnf); first
    | with_reducible apply Changes.refl
    | ((with_reducible show Area.sub _ _ = true); rfl)
    | ((with_reducible apply Entries.le_of_sub); rfl)
    | ((with_reducible apply Entries.le_only); simp; done)
    | intro _
    | with_reducible apply Changes.foldl
    | with_reducible apply Changes.andThen ?_ (State.setReg_changes _ _ _ ) ?_ ?_
    | with_reducible apply Changes.andThen ?_ (State.endRecover_changes _ ) ?_ ?_
    | with_reducible apply Changes.andThen ?_ (State.noteTraining_changes _ _ ) ?_ ?_
    | with_reducible apply Changes.andThen ?_ (State.writeSample_changes _ _ ) ?_ ?_
    | with_reducible apply Changes.andThen ?_ (State.trackReady_changes _ ) ?_ ?_
    | with_reducible apply Changes.andThen ?_ (State.recoveryRecs_changes _ _ _ _ ) ?_ ?_
    | with_reducible apply Changes.andThen ?_ (State.cmdSet_changes _ _ _ ) ?_ ?_
    | with_reducible apply Changes.andThen ?_ (State.reapply_changes _ _ ) ?_ ?_
    | with_reducible apply Changes.andThen ?_ (State.loadBlobs_changes _ ) ?_ ?_
    | with_reducible apply Changes.andThen ?_ (State.resetDies_changes _ ) ?_ ?_
    | ((conv => arg 4; arg 24); refine Changes.updateIn ?_)
    | split)

theorem execRecoveryResume_changes (s : State) {u : State} (h : execRecoveryResume s = .next u) :
    Changes [.freeN, .ctl, .belt, .pipe, .engine, .tracks, .memory, .knots, .host, .faults, .power, .perf, .boot, .out] (.only [0x1205, 0x1402, 0x1405, 0x1502, 0x1703, K.lastTrainingTime, K.waitersInUse, K.waitersPeak, K.commandsCompleted, K.recordsUnrouted, K.faultLogOverwritten, K.faultRecordsSuppressed, K.lastRecoveryTime, K.samplesTaken, K.bootState]) s u := by
  unfold execRecoveryResume at h
  try (have h := guardUnit_next h)
  try injection h with h
  subst h
  repeat' ((try with_reducible conv => arg 4; whnf); first
    | with_reducible apply Changes.refl
    | ((with_reducible show Area.sub _ _ = true); rfl)
    | ((with_reducible apply Entries.le_of_sub); rfl)
    | ((with_reducible apply Entries.le_only); simp; done)
    | intro _
    | with_reducible apply Changes.andThen ?_ (State.recoveryResume_changes _ ) ?_ ?_)

theorem execContextReset_changes (sess ctx : Nat) (s : State) {u : State} (h : execContextReset sess ctx s = .next u) :
    Changes [.freeN, .blobs, .ctl, .belt, .pipe, .engine, .tracks, .eject, .memory, .knots, .host, .faults, .power, .perf, .out] (.only [0x0804, 0x1205, 0x1402, 0x1703, K.decisionsIssued, K.fallbackDecisions, K.waitersInUse, K.waitersPeak, K.ownerResetReleases, K.knotDumpContext, K.groupState, K.groupFailCause, K.membersSeen, K.pulsesPending, K.pulsesPeak, K.pulsesScheduled, K.pulsesMerged, K.storeFullRefused, K.lateDecisions, K.missedDecisions, K.disabledChannelRequests, K.commandsCompleted, K.recordsUnrouted, K.faultLogOverwritten, K.faultRecordsSuppressed, K.fallbackGapOpen, K.gapRecords]) s u := by
  unfold execContextReset at h
  try (have h := guardUnit_next h)
  try injection h with h
  subst h
  repeat' ((try with_reducible conv => arg 4; whnf); first
    | with_reducible apply Changes.refl
    | ((with_reducible show Area.sub _ _ = true); rfl)
    | ((with_reducible apply Entries.le_of_sub); rfl)
    | ((with_reducible apply Entries.le_only); simp; done)
    | intro _
    | with_reducible apply Changes.andThen ?_ (State.contextResetCmd_changes _ _ ) ?_ ?_
    | with_reducible apply Changes.trans ?_ (State.runCmd_changes _ _ _ _  ?_ ?_ ?_))

theorem State.resetFault_changes (s : State) (code : Nat) :
    Changes [.freeN, .blobs, .ctl, .belt, .supplies, .intake, .pipe, .engine, .tracks, .eject, .field, .memory, .knots, .host, .net, .faults, .power, .perf, .boot, .out] (.all) s (State.resetFault s code) := by
  unfold State.resetFault
  repeat' ((try with_reducible conv => arg 4; whnf); first
    | with_reducible apply Changes.refl
    | ((with_reducible show Area.sub _ _ = true); rfl)
    | ((with_reducible apply Entries.le_of_sub); rfl)
    | ((with_reducible apply Entries.le_only); simp; done)
    | intro _
    | with_reducible apply Changes.ite
    | with_reducible apply Changes.andThen ?_ (State.faultWake_changes _ ) ?_ ?_
    | with_reducible apply Changes.andThen ?_ (State.raiseReset_changes _ _ _ _ ) ?_ ?_
    | split)

theorem execEjectionUnitHalted_changes (s : State) {u : State} (h : execEjectionUnitHalted s = .next u) :
    Changes [.freeN, .blobs, .ctl, .belt, .supplies, .intake, .pipe, .engine, .tracks, .eject, .field, .memory, .knots, .host, .net, .faults, .power, .perf, .boot, .out] (.all) s u := by
  unfold execEjectionUnitHalted at h
  try (have h := guardUnit_next h)
  try injection h with h
  subst h
  repeat' ((try with_reducible conv => arg 4; whnf); first
    | with_reducible apply Changes.refl
    | ((with_reducible show Area.sub _ _ = true); rfl)
    | ((with_reducible apply Entries.le_of_sub); rfl)
    | ((with_reducible apply Entries.le_only); simp; done)
    | intro _
    | with_reducible apply Changes.andThen ?_ (State.resetFault_changes _ _ ) ?_ ?_)

theorem execFaultLogNvClear_changes (sess : Nat) (s : State) {u : State} (h : execFaultLogNvClear sess s = .next u) :
    Changes [.ctl, .faults, .out] (.only [0x1703]) s u := by
  unfold execFaultLogNvClear at h
  try (have h := guardUnit_next h)
  try injection h with h
  subst h
  repeat' ((try with_reducible conv => arg 4; whnf); first
    | with_reducible apply Changes.refl
    | ((with_reducible show Area.sub _ _ = true); rfl)
    | ((with_reducible apply Entries.le_of_sub); rfl)
    | ((with_reducible apply Entries.le_only); simp; done)
    | intro _
    | with_reducible apply Changes.andThen ?_ (State.cmdOk_changes _ _ ) ?_ ?_
    | with_reducible apply Changes.andThen ?_ (State.logEmptied_changes _ _ ) ?_ ?_
    | with_reducible apply Changes.trans ?_ (State.runCmd_changes _ _ _ _  ?_ ?_ ?_)
    | ((conv => arg 4; arg 24); with_reducible refine Changes.update ?_))

theorem execTimeUnitHalted_changes (s : State) {u : State} (h : execTimeUnitHalted s = .next u) :
    Changes [.freeN, .blobs, .ctl, .belt, .supplies, .intake, .pipe, .engine, .tracks, .eject, .field, .memory, .knots, .host, .net, .faults, .power, .perf, .boot, .out] (.all) s u := by
  unfold execTimeUnitHalted at h
  try (have h := guardUnit_next h)
  try injection h with h
  subst h
  repeat' ((try with_reducible conv => arg 4; whnf); first
    | with_reducible apply Changes.refl
    | ((with_reducible show Area.sub _ _ = true); rfl)
    | ((with_reducible apply Entries.le_of_sub); rfl)
    | ((with_reducible apply Entries.le_only); simp; done)
    | intro _
    | with_reducible apply Changes.andThen ?_ (State.resetFault_changes _ _ ) ?_ ?_)

theorem State.checkpointLate_changes (s : State) (die cyc : Nat) :
    Changes [.freeN, .blobs, .ctl, .belt, .pipe, .engine, .tracks, .eject, .memory, .knots, .host, .faults, .perf, .out] (.only [0x0804, 0x1205, 0x1402, 0x1703, K.decisionsIssued, K.fallbackDecisions, K.waitersInUse, K.waitersPeak, K.ownerResetReleases, K.knotDumpContext, K.pulsesPending, K.pulsesPeak, K.pulsesScheduled, K.pulsesMerged, K.storeFullRefused, K.lateDecisions, K.missedDecisions, K.disabledChannelRequests, K.commandsCompleted, K.recordsUnrouted, K.faultLogOverwritten, K.faultRecordsSuppressed, K.fallbackGapOpen, K.gapRecords]) s (State.checkpointLate s die cyc) := by
  unfold State.checkpointLate
  repeat' ((try with_reducible conv => arg 4; whnf); first
    | with_reducible apply Changes.refl
    | ((with_reducible show Area.sub _ _ = true); rfl)
    | ((with_reducible apply Entries.le_of_sub); rfl)
    | ((with_reducible apply Entries.le_only); simp; done)
    | intro _
    | with_reducible apply Changes.andThen ?_ (State.raiseCtx_changes _ _ _ _ _ _ ) ?_ ?_
    | split)

theorem execCheckpointLate_changes (die cyc : Nat) (s : State) {u : State} (h : execCheckpointLate die cyc s = .next u) :
    Changes [.freeN, .blobs, .ctl, .belt, .pipe, .engine, .tracks, .eject, .memory, .knots, .host, .faults, .perf, .out] (.only [0x0804, 0x1205, 0x1402, 0x1703, K.decisionsIssued, K.fallbackDecisions, K.waitersInUse, K.waitersPeak, K.ownerResetReleases, K.knotDumpContext, K.pulsesPending, K.pulsesPeak, K.pulsesScheduled, K.pulsesMerged, K.storeFullRefused, K.lateDecisions, K.missedDecisions, K.disabledChannelRequests, K.commandsCompleted, K.recordsUnrouted, K.faultLogOverwritten, K.faultRecordsSuppressed, K.fallbackGapOpen, K.gapRecords]) s u := by
  unfold execCheckpointLate at h
  try (have h := guardUnit_next h)
  try injection h with h
  subst h
  repeat' ((try with_reducible conv => arg 4; whnf); first
    | with_reducible apply Changes.refl
    | ((with_reducible show Area.sub _ _ = true); rfl)
    | ((with_reducible apply Entries.le_of_sub); rfl)
    | ((with_reducible apply Entries.le_only); simp; done)
    | intro _
    | with_reducible apply Changes.andThen ?_ (State.checkpointLate_changes _ _ _ ) ?_ ?_)

theorem execDieTransport_changes (path : Nat) (s : State) {u : State} (h : execDieTransport path s = .next u) :
    Changes [.freeN, .blobs, .ctl, .belt, .supplies, .intake, .pipe, .engine, .tracks, .eject, .field, .memory, .knots, .host, .net, .faults, .power, .perf, .boot, .out] (.all) s u := by
  unfold execDieTransport at h
  try (have h := guardUnit_next h)
  try injection h with h
  subst h
  repeat' ((try with_reducible conv => arg 4; whnf); first
    | with_reducible apply Changes.refl
    | ((with_reducible show Area.sub _ _ = true); rfl)
    | ((with_reducible apply Entries.le_of_sub); rfl)
    | ((with_reducible apply Entries.le_only); simp; done)
    | intro _
    | with_reducible apply Changes.andThen ?_ (State.deviceFault_changes _ _ _ ) ?_ ?_)

theorem State.freezeLimit_changes (s : State) (die cyc : Nat) :
    Changes [.freeN, .blobs, .ctl, .belt, .pipe, .engine, .tracks, .eject, .memory, .knots, .host, .faults, .perf, .out] (.only [0x0804, 0x1205, 0x1402, 0x1703, K.decisionsIssued, K.fallbackDecisions, K.waitersInUse, K.waitersPeak, K.ownerResetReleases, K.knotDumpContext, K.pulsesPending, K.pulsesPeak, K.pulsesScheduled, K.pulsesMerged, K.storeFullRefused, K.lateDecisions, K.missedDecisions, K.disabledChannelRequests, K.commandsCompleted, K.recordsUnrouted, K.faultLogOverwritten, K.faultRecordsSuppressed, K.fallbackGapOpen, K.gapRecords]) s (State.freezeLimit s die cyc) := by
  unfold State.freezeLimit
  repeat' ((try with_reducible conv => arg 4; whnf); first
    | with_reducible apply Changes.refl
    | ((with_reducible show Area.sub _ _ = true); rfl)
    | ((with_reducible apply Entries.le_of_sub); rfl)
    | ((with_reducible apply Entries.le_only); simp; done)
    | intro _
    | with_reducible apply Changes.ite
    | with_reducible apply Changes.andThen ?_ (State.raiseCtx_changes _ _ _ _ _ _ ) ?_ ?_
    | split)

theorem execFreezeLimit_changes (die cyc : Nat) (s : State) {u : State} (h : execFreezeLimit die cyc s = .next u) :
    Changes [.freeN, .blobs, .ctl, .belt, .pipe, .engine, .tracks, .eject, .memory, .knots, .host, .faults, .perf, .out] (.only [0x0804, 0x1205, 0x1402, 0x1703, K.decisionsIssued, K.fallbackDecisions, K.waitersInUse, K.waitersPeak, K.ownerResetReleases, K.knotDumpContext, K.pulsesPending, K.pulsesPeak, K.pulsesScheduled, K.pulsesMerged, K.storeFullRefused, K.lateDecisions, K.missedDecisions, K.disabledChannelRequests, K.commandsCompleted, K.recordsUnrouted, K.faultLogOverwritten, K.faultRecordsSuppressed, K.fallbackGapOpen, K.gapRecords]) s u := by
  unfold execFreezeLimit at h
  try (have h := guardUnit_next h)
  try injection h with h
  subst h
  repeat' ((try with_reducible conv => arg 4; whnf); first
    | with_reducible apply Changes.refl
    | ((with_reducible show Area.sub _ _ = true); rfl)
    | ((with_reducible apply Entries.le_of_sub); rfl)
    | ((with_reducible apply Entries.le_only); simp; done)
    | intro _
    | with_reducible apply Changes.andThen ?_ (State.freezeLimit_changes _ _ _ ) ?_ ?_)

end Sys2Proof.Machine
end

