-- ==== Sys2Proof/Laws/FramePipeOps.lean ====
section
/-! SUPPORT. What each operation of Machine/PipeOps.lean changes and what it leaves unchanged. -/

-- one theorem after another: see NOTES.md
set_option Elab.async false

namespace Sys2Proof.Machine

theorem State.pruneLines_changes (s : State) (i : Nat) :
    Changes [.intake] (.only [0x0509]) s (State.pruneLines s i) := by
  unfold State.pruneLines
  repeat' ((try with_reducible conv => arg 4; whnf); first
    | with_reducible apply Changes.refl
    | ((with_reducible show Area.sub _ _ = true); rfl)
    | ((with_reducible apply Entries.le_of_sub); rfl)
    | ((with_reducible apply Entries.le_only); simp; done)
    | intro _
    | with_reducible apply Changes.ite
    | with_reducible apply Changes.foldl
    | with_reducible apply Changes.andThen ?_ (State.setStream_changes _ _ _ ) ?_ ?_
    | split)

theorem State.setStripe_changes (s : State) (st : Stripe) :
    Changes [.pipe] (.only []) s (State.setStripe s st) := by
  unfold State.setStripe
  repeat' ((try with_reducible conv => arg 4; whnf); first
    | with_reducible apply Changes.refl
    | ((conv => arg 4; arg 24); with_reducible refine Changes.update ?_))

theorem State.closeStripe_changes (s : State) (st : Stripe) (S i : Nat) :
    Changes [.intake, .pipe] (.only [0x0509, 0x061A]) s (State.closeStripe s st S i) := by
  unfold State.closeStripe
  repeat' ((try with_reducible conv => arg 4; whnf); first
    | with_reducible apply Changes.refl
    | ((with_reducible show Area.sub _ _ = true); rfl)
    | ((with_reducible apply Entries.le_of_sub); rfl)
    | ((with_reducible apply Entries.le_only); simp; done)
    | intro _
    | with_reducible apply Changes.ite
    | with_reducible apply Changes.foldl
    | with_reducible apply Changes.andThen ?_ (State.bump_changes _ _ _ ) ?_ ?_
    | with_reducible apply Changes.andThen ?_ (State.setLine_changes _ _ _ _ ) ?_ ?_
    | with_reducible apply Changes.andThen ?_ (State.setStripe_changes _ _ ) ?_ ?_
    | split)

theorem State.passingPass_changes (s : State) :
    Changes [.pipe] (.only [K.currentStripe]) s (State.passingPass s) := by
  unfold State.passingPass
  repeat' ((try with_reducible conv => arg 4; whnf); first
    | with_reducible apply Changes.refl
    | ((with_reducible show Area.sub _ _ = true); rfl)
    | ((with_reducible apply Entries.le_of_sub); rfl)
    | ((with_reducible apply Entries.le_only); simp; done)
    | intro _
    | with_reducible apply Changes.foldl
    | with_reducible apply Changes.andThen ?_ (State.setReg_changes _ _ _ ) ?_ ?_
    | ((conv => arg 4; arg 24); with_reducible refine Changes.update ?_))

theorem State.closePass_changes (s : State) :
    Changes [.intake, .pipe] (.only [0x0509, 0x061A, K.currentStripe]) s (State.closePass s) := by
  unfold State.closePass
  repeat' ((try with_reducible conv => arg 4; whnf); first
    | with_reducible apply Changes.refl
    | ((with_reducible show Area.sub _ _ = true); rfl)
    | ((with_reducible apply Entries.le_of_sub); rfl)
    | ((with_reducible apply Entries.le_only); simp; done)
    | intro _
    | with_reducible apply Changes.ite
    | with_reducible apply Changes.foldl
    | with_reducible apply Changes.andThen ?_ (State.setReg_changes _ _ _ ) ?_ ?_
    | with_reducible apply Changes.andThen ?_ (State.closeStripe_changes _ _ _ _ ) ?_ ?_
    | with_reducible apply Changes.andThen ?_ (State.setStripe_changes _ _ ) ?_ ?_
    | with_reducible apply Changes.andThen ?_ (State.passingPass_changes _ ) ?_ ?_
    | split)

theorem State.keepHistory_changes (s : State) (st : Stripe) (i S : Nat) (lines : List (List Byte)) :
    Changes [.pipe] (.only []) s (State.keepHistory s st i S lines) := by
  unfold State.keepHistory
  repeat' ((try with_reducible conv => arg 4; whnf); first
    | with_reducible apply Changes.refl
    | intro _
    | with_reducible apply Changes.ite
    | with_reducible apply Changes.foldl
    | ((conv => arg 4; arg 24); with_reducible refine Changes.update ?_)
    | split)

end Sys2Proof.Machine
end

