-- ==== Sys2Proof/Laws/FramePeriods.lean ====
section
/-! SUPPORT. What each operation of Machine/Periods.lean changes and what it leaves unchanged. -/

-- one theorem after another: see NOTES.md
set_option Elab.async false

namespace Sys2Proof.Machine

theorem State.noteSlip_changes (s : State) (p : Plan) (per : Period) (f : Nat) :
    Changes [.host, .perf, .out] (.only [0x1205, K.periodsSlipped, K.maxSlipCycles, K.recordsUnrouted]) s (State.noteSlip s p per f) := by
  unfold State.noteSlip
  repeat' ((try with_reducible conv => arg 4; whnf); first
    | with_reducible apply Changes.refl
    | ((with_reducible show Area.sub _ _ = true); rfl)
    | ((with_reducible apply Entries.le_of_sub); rfl)
    | ((with_reducible apply Entries.le_only); simp; done)
    | intro _
    | with_reducible apply Changes.ite
    | with_reducible apply Changes.andThen ?_ (State.bump_changes _ _ _ ) ?_ ?_
    | with_reducible apply Changes.andThen ?_ (State.peak_changes _ _ _ ) ?_ ?_
    | with_reducible apply Changes.andThen ?_ (State.emit_changes _ _ ) ?_ ?_
    | split)

theorem State.retireOld_changes (s : State) :
    Changes [.engine, .tracks, .memory] (.only []) s (State.retireOld s) := by
  unfold State.retireOld
  repeat' ((try with_reducible conv => arg 4; whnf); first
    | with_reducible apply Changes.refl
    | ((with_reducible show Area.sub _ _ = true); rfl)
    | ((with_reducible apply Entries.le_of_sub); rfl)
    | ((with_reducible apply Entries.le_only); simp; done)
    | intro _
    | with_reducible apply Changes.ite
    | with_reducible apply Changes.foldl
    | with_reducible apply Changes.andThen ?_ (State.freeTrack_changes _ _ ) ?_ ?_
    | with_reducible apply Changes.andThen ?_ (State.freeScales_changes _ _ ) ?_ ?_
    | ((conv => arg 4; arg 24); with_reducible refine Changes.update ?_)
    | split)

theorem State.flushOn_changes (s : State) (per : Period) (p : Plan) :
    Changes [.ctl, .engine] (.only []) s (State.flushOn s per p) := by
  unfold State.flushOn
  repeat' ((try with_reducible conv => arg 4; whnf); first
    | with_reducible apply Changes.refl
    | ((with_reducible show Area.sub _ _ = true); rfl)
    | ((with_reducible apply Entries.le_of_sub); rfl)
    | ((with_reducible apply Entries.le_only); simp; done)
    | intro _
    | with_reducible apply Changes.ite
    | with_reducible apply Changes.andThen ?_ (State.cmdSet_changes _ _ _ ) ?_ ?_
    | ((conv => arg 4; arg 24); with_reducible refine Changes.update ?_)
    | split)

theorem State.closeOpen_changes (s : State) (die : Nat) :
    Changes [.engine, .power] (.only []) s (State.closeOpen s die) := by
  unfold State.closeOpen
  repeat' ((try with_reducible conv => arg 4; whnf); first
    | with_reducible apply Changes.refl
    | ((with_reducible show Area.sub _ _ = true); rfl)
    | ((with_reducible apply Entries.le_of_sub); rfl)
    | ((with_reducible apply Entries.le_only); simp; done)
    | intro _
    | with_reducible apply Changes.ite
    | with_reducible apply Changes.andThen ?_ (State.trackReady_changes _ ) ?_ ?_
    | with_reducible apply Changes.andThen ?_ (State.setCtx_changes _ _ _ ) ?_ ?_
    | ((conv => arg 4; arg 24); with_reducible refine Changes.update ?_)
    | split)

theorem State.settleZero_changes (s : State) :
    Changes [.engine, .power] (.only []) s (State.settleZero s) := by
  unfold State.settleZero
  repeat' ((try with_reducible conv => arg 4; whnf); first
    | with_reducible apply Changes.refl
    | ((with_reducible show Area.sub _ _ = true); rfl)
    | ((with_reducible apply Entries.le_of_sub); rfl)
    | ((with_reducible apply Entries.le_only); simp; done)
    | intro _
    | with_reducible apply Changes.ite
    | with_reducible apply Changes.andThen ?_ (State.trackReady_changes _ ) ?_ ?_
    | with_reducible apply Changes.andThen ?_ (State.setCtx_changes _ _ _ ) ?_ ?_
    | split)

theorem State.periodFigures_changes (s : State) (p : Plan) (cycles : Nat) :
    Changes [.freeN] (.only [0x0809, 0x0825, 0x0863]) s (State.periodFigures s p cycles) := by
  unfold State.periodFigures
  repeat' ((try with_reducible conv => arg 4; whnf); first
    | with_reducible apply Changes.refl
    | ((with_reducible show Area.sub _ _ = true); rfl)
    | ((with_reducible apply Entries.le_of_sub); rfl)
    | ((with_reducible apply Entries.le_only); simp; done)
    | intro _
    | with_reducible apply Changes.ite
    | with_reducible apply Changes.ite_snd
    | with_reducible apply Changes.ite_fst
    | with_reducible apply Changes.ite_snd_snd
    | with_reducible apply Changes.foldl
    | with_reducible apply Changes.foldl_snd
    | with_reducible apply Changes.foldl_fst
    | with_reducible apply Changes.andThen ?_ (State.setReg_changes _ _ _ ) ?_ ?_
    | with_reducible apply Changes.andThen ?_ (State.takeFree_changes _ ) ?_ ?_
    | ((conv => arg 4; arg 24); with_reducible refine Changes.update ?_)
    | split
    | with_reducible refine Changes.of_snd (by assumption) ?_)

theorem State.periodStop_changes (s : State) (cyc : Nat) :
    Changes [.freeN, .ctl, .pipe, .engine, .tracks, .memory, .knots, .host, .power, .perf, .out] (.only [0x0317, 0x0809, 0x0825, 0x0863, 0x1205, K.computeEnergyPerOp, K.voltageSteps, K.clockSteps, K.periodsRun, K.periodsSlipped, K.maxSlipCycles, K.maxFrozenPerPeriod, K.emptyPeriods, K.waitersInUse, K.waitersPeak, K.knotOps, K.knotSaturations, K.frozenRefusals, K.knotOpsRefused, K.commandsCompleted, K.recordsUnrouted]) s (State.periodStop s cyc) := by
  unfold State.periodStop
  repeat' ((try with_reducible conv => arg 4; whnf); first
    | with_reducible apply Changes.refl
    | ((with_reducible show Area.sub _ _ = true); rfl)
    | ((with_reducible apply Entries.le_of_sub); rfl)
    | ((with_reducible apply Entries.le_only); simp; done)
    | intro _
    | with_reducible apply Changes.ite
    | with_reducible apply Changes.ite_snd
    | with_reducible apply Changes.ite_fst
    | with_reducible apply Changes.ite_snd_snd
    | with_reducible apply Changes.foldl
    | with_reducible apply Changes.foldl_snd
    | with_reducible apply Changes.foldl_fst
    | with_reducible apply Changes.andThen ?_ (State.noteSlip_changes _ _ _ _ ) ?_ ?_
    | with_reducible apply Changes.andThen ?_ (State.bump_changes _ _ _ ) ?_ ?_
    | with_reducible apply Changes.andThen ?_ (State.retireOld_changes _ ) ?_ ?_
    | with_reducible apply Changes.andThen ?_ (State.flushOn_changes _ _ _ ) ?_ ?_
    | with_reducible apply Changes.andThen ?_ (State.closeOpen_changes _ _ ) ?_ ?_
    | with_reducible apply Changes.andThen ?_ (State.settleZero_changes _ ) ?_ ?_
    | with_reducible apply Changes.andThen ?_ (State.clearSuspects_changes _ _ ) ?_ ?_
    | with_reducible apply Changes.andThen ?_ (State.releaseHeld_changes _ _ ) ?_ ?_
    | with_reducible apply Changes.andThen ?_ (State.peak_changes _ _ _ ) ?_ ?_
    | with_reducible apply Changes.andThen ?_ (State.replanPoint_changes _ ) ?_ ?_
    | with_reducible apply Changes.andThen ?_ (State.periodFigures_changes _ _ _ ) ?_ ?_
    | ((conv => arg 4; arg 24); with_reducible refine Changes.update ?_)
    | split
    | with_reducible refine Changes.of_snd (by assumption) ?_)

theorem State.streamFrom_changes (s : State) (stripe line : Nat) :
    Changes [.belt, .intake] (.only [0x0208, 0x0509]) s (State.streamFrom s stripe line) := by
  unfold State.streamFrom
  repeat' ((try with_reducible conv => arg 4; whnf); first
    | with_reducible apply Changes.refl
    | ((with_reducible show Area.sub _ _ = true); rfl)
    | ((with_reducible apply Entries.le_of_sub); rfl)
    | ((with_reducible apply Entries.le_only); simp; done)
    | intro _
    | with_reducible apply Changes.foldl
    | with_reducible apply Changes.andThen ?_ (State.moveNextLine_changes _ _ _ ) ?_ ?_
    | ((conv => arg 4; arg 24); refine Changes.updateIn ?_))

theorem State.beginFlush_changes (s : State) (f : FlushRun) :
    Changes [.intake, .pipe, .engine] (.only [0x0509, 0x061A, K.currentStripe]) s (State.beginFlush s f) := by
  unfold State.beginFlush
  repeat' ((try with_reducible conv => arg 4; whnf); first
    | with_reducible apply Changes.refl
    | ((with_reducible show Area.sub _ _ = true); rfl)
    | ((with_reducible apply Entries.le_of_sub); rfl)
    | ((with_reducible apply Entries.le_only); simp; done)
    | intro _
    | with_reducible apply Changes.ite
    | with_reducible apply Changes.andThen ?_ (State.closePass_changes _ ) ?_ ?_
    | with_reducible apply Changes.andThen ?_ (State.setCtx_changes _ _ _ ) ?_ ?_
    | ((conv => arg 4; arg 24); with_reducible refine Changes.update ?_)
    | split)

theorem State.flushCmd_changes (s : State) :
    Changes [.ctl, .belt, .intake, .pipe, .engine, .power] (.only [0x0208, 0x0509, 0x061A, K.currentStripe]) s (State.flushCmd s).2 := by
  unfold State.flushCmd
  repeat' ((try with_reducible conv => arg 4; arg 1; whnf); first
    | with_reducible apply Changes.refl
    | dsimp only
    | ((with_reducible show Area.sub _ _ = true); rfl)
    | ((with_reducible apply Entries.le_of_sub); rfl)
    | ((with_reducible apply Entries.le_only); simp; done)
    | intro _
    | with_reducible apply Changes.ite
    | with_reducible apply Changes.ite_snd
    | with_reducible apply Changes.andThen ?_ (State.trackReady_changes _ ) ?_ ?_
    | with_reducible apply Changes.andThen ?_ (State.cmdSet_changes _ _ _ ) ?_ ?_
    | with_reducible apply Changes.andThen ?_ (State.streamFrom_changes _ _ _ ) ?_ ?_
    | with_reducible apply Changes.andThen ?_ (State.beginFlush_changes _ _ ) ?_ ?_
    | with_reducible apply Changes.andThen ?_ (State.cmdBegin_changes _ _ ) ?_ ?_
    | ((conv => arg 4; arg 24); refine Changes.updateIn ?_)
    | split)

theorem State.decideReruns_changes (s : State) (p : Plan) (per : Period) (die l : Nat) :
    Changes [.engine] (.only [0x0822]) s (State.decideReruns s p per die l) := by
  unfold State.decideReruns
  repeat' ((try with_reducible conv => arg 4; whnf); first
    | with_reducible apply Changes.refl
    | ((with_reducible show Area.sub _ _ = true); rfl)
    | ((with_reducible apply Entries.le_of_sub); rfl)
    | ((with_reducible apply Entries.le_only); simp; done)
    | intro _
    | with_reducible apply Changes.ite
    | with_reducible apply Changes.ite_snd
    | with_reducible apply Changes.ite_fst
    | with_reducible apply Changes.ite_snd_snd
    | with_reducible apply Changes.foldl
    | with_reducible apply Changes.foldl_snd
    | with_reducible apply Changes.foldl_fst
    | with_reducible apply Changes.andThen ?_ (State.bump_changes _ _ _ ) ?_ ?_
    | ((conv => arg 4; arg 24); with_reducible refine Changes.update ?_)
    | split
    | with_reducible refine Changes.of_snd (by assumption) ?_)

theorem State.slotGo_changes (s : State) (die n cyc : Nat) :
    Changes [.engine, .knots, .host, .power, .perf, .out] (.only [0x0822, 0x1205, K.waitersInUse, K.waitersPeak, K.knotOps, K.knotSaturations, K.frozenRefusals, K.knotOpsRefused, K.commandsCompleted, K.recordsUnrouted]) s (State.slotGo s die n cyc) := by
  unfold State.slotGo
  repeat' ((try with_reducible conv => arg 4; whnf); first
    | with_reducible apply Changes.refl
    | ((with_reducible show Area.sub _ _ = true); rfl)
    | ((with_reducible apply Entries.le_of_sub); rfl)
    | ((with_reducible apply Entries.le_only); simp; done)
    | intro _
    | with_reducible apply Changes.ite
    | with_reducible apply Changes.ite_snd
    | with_reducible apply Changes.ite_fst
    | with_reducible apply Changes.ite_snd_snd
    | with_reducible apply Changes.foldl
    | with_reducible apply Changes.foldl_snd
    | with_reducible apply Changes.foldl_fst
    | with_reducible apply Changes.andThen ?_ (State.closeOpen_changes _ _ ) ?_ ?_
    | with_reducible apply Changes.andThen ?_ (State.decideReruns_changes _ _ _ _ _ ) ?_ ?_
    | with_reducible apply Changes.andThen ?_ (State.releaseHeld_changes _ _ ) ?_ ?_
    | with_reducible apply Changes.andThen ?_ (State.setCtx_changes _ _ _ ) ?_ ?_
    | ((conv => arg 4; arg 24); with_reducible refine Changes.update ?_)
    | split
    | with_reducible refine Changes.of_snd (by assumption) ?_)

theorem State.slotStart_changes (s : State) (die n cyc : Nat) :
    Changes [.engine, .knots, .host, .faults, .power, .perf, .out] (.only [0x0804, 0x0822, 0x1205, K.waitersInUse, K.waitersPeak, K.knotOps, K.knotSaturations, K.frozenRefusals, K.knotOpsRefused, K.commandsCompleted, K.recordsUnrouted]) s (State.slotStart s die n cyc) := by
  unfold State.slotStart
  repeat' ((try with_reducible conv => arg 4; whnf); first
    | with_reducible apply Changes.refl
    | ((with_reducible show Area.sub _ _ = true); rfl)
    | ((with_reducible apply Entries.le_of_sub); rfl)
    | ((with_reducible apply Entries.le_only); simp; done)
    | intro _
    | with_reducible apply Changes.andThen ?_ (State.feed_changes _ _ ) ?_ ?_
    | with_reducible apply Changes.andThen ?_ (State.slotGo_changes _ _ _ _ ) ?_ ?_)

theorem execSlotStart_changes (die slot cyc : Nat) (s : State) {u : State} (h : execSlotStart die slot cyc s = .next u) :
    Changes [.engine, .knots, .host, .faults, .power, .perf, .out] (.only [0x0804, 0x0822, 0x1205, K.waitersInUse, K.waitersPeak, K.knotOps, K.knotSaturations, K.frozenRefusals, K.knotOpsRefused, K.commandsCompleted, K.recordsUnrouted]) s u := by
  unfold execSlotStart at h
  try (have h := guardUnit_next h)
  try injection h with h
  subst h
  repeat' ((try with_reducible conv => arg 4; whnf); first
    | with_reducible apply Changes.refl
    | ((with_reducible show Area.sub _ _ = true); rfl)
    | ((with_reducible apply Entries.le_of_sub); rfl)
    | ((with_reducible apply Entries.le_only); simp; done)
    | intro _
    | with_reducible apply Changes.ite
    | with_reducible apply Changes.ite_snd
    | with_reducible apply Changes.ite_fst
    | with_reducible apply Changes.ite_snd_snd
    | with_reducible apply Changes.foldl
    | with_reducible apply Changes.foldl_snd
    | with_reducible apply Changes.foldl_fst
    | with_reducible apply Changes.andThen ?_ (State.slotStart_changes _ _ _ _ ) ?_ ?_
    | ((conv => arg 4; arg 24); with_reducible refine Changes.update ?_)
    | split
    | with_reducible refine Changes.of_snd (by assumption) ?_)

theorem State.endJob_changes (s : State) (c : Nat) (j : Job) :
    Changes [.engine, .knots, .host, .perf, .out] (.only [0x1205, K.waitersInUse, K.waitersPeak, K.knotOps, K.frozenRefusals, K.knotOpsRefused, K.commandsCompleted, K.recordsUnrouted]) s (State.endJob s c j) := by
  unfold State.endJob
  repeat' ((try with_reducible conv => arg 4; whnf); first
    | with_reducible apply Changes.refl
    | ((with_reducible show Area.sub _ _ = true); rfl)
    | ((with_reducible apply Entries.le_of_sub); rfl)
    | ((with_reducible apply Entries.le_only); simp; done)
    | intro _
    | with_reducible apply Changes.ite
    | with_reducible apply Changes.andThen ?_ (State.prepareStep_changes _ _ ) ?_ ?_
    | with_reducible apply Changes.andThen ?_ (State.clearJob_changes _ _ ) ?_ ?_
    | with_reducible apply Changes.andThen ?_ (State.finishCmd_changes _ _ _ _ _ ) ?_ ?_
    | with_reducible apply Changes.andThen ?_ (State.setCtx_changes _ _ _ ) ?_ ?_
    | split)

theorem State.stepStop_changes (s : State) (c cyc : Nat) :
    Changes [.engine, .knots, .host, .power, .perf, .out] (.only [0x0913, 0x0914, 0x1205, K.waitersInUse, K.waitersPeak, K.knotOps, K.knotSaturations, K.frozenRefusals, K.knotOpsRefused, K.commandsCompleted, K.recordsUnrouted]) s (State.stepStop s c cyc) := by
  unfold State.stepStop
  repeat' ((try with_reducible conv => arg 4; whnf); first
    | with_reducible apply Changes.refl
    | ((with_reducible show Area.sub _ _ = true); rfl)
    | ((with_reducible apply Entries.le_of_sub); rfl)
    | ((with_reducible apply Entries.le_only); simp; done)
    | intro _
    | with_reducible apply Changes.ite
    | with_reducible apply Changes.andThen ?_ (State.bump_changes _ _ _ ) ?_ ?_
    | with_reducible apply Changes.andThen ?_ (State.prepareStep_changes _ _ ) ?_ ?_
    | with_reducible apply Changes.andThen ?_ (State.trackReady_changes _ ) ?_ ?_
    | with_reducible apply Changes.andThen ?_ (State.endSignals_changes _ _ _ _ _ ) ?_ ?_
    | with_reducible apply Changes.andThen ?_ (State.setCtx_changes _ _ _ ) ?_ ?_
    | with_reducible apply Changes.andThen ?_ (State.endJob_changes _ _ _ ) ?_ ?_
    | split)

theorem State.stepEnd_changes (s : State) (c cyc : Nat) :
    Changes [.engine, .knots, .host, .faults, .power, .perf, .out] (.only [0x0804, 0x0913, 0x0914, 0x1205, K.waitersInUse, K.waitersPeak, K.knotOps, K.knotSaturations, K.frozenRefusals, K.knotOpsRefused, K.commandsCompleted, K.recordsUnrouted]) s (State.stepEnd s c cyc) := by
  unfold State.stepEnd
  repeat' ((try with_reducible conv => arg 4; whnf); first
    | with_reducible apply Changes.refl
    | ((with_reducible show Area.sub _ _ = true); rfl)
    | ((with_reducible apply Entries.le_of_sub); rfl)
    | ((with_reducible apply Entries.le_only); simp; done)
    | intro _
    | with_reducible apply Changes.andThen ?_ (State.feed_changes _ _ ) ?_ ?_
    | with_reducible apply Changes.andThen ?_ (State.stepStop_changes _ _ _ ) ?_ ?_)

theorem execStepEnd_changes (ctx cyc : Nat) (s : State) {u : State} (h : execStepEnd ctx cyc s = .next u) :
    Changes [.engine, .knots, .host, .faults, .power, .perf, .out] (.only [0x0804, 0x0913, 0x0914, 0x1205, K.waitersInUse, K.waitersPeak, K.knotOps, K.knotSaturations, K.frozenRefusals, K.knotOpsRefused, K.commandsCompleted, K.recordsUnrouted]) s u := by
  unfold execStepEnd at h
  try (have h := guardUnit_next h)
  try injection h with h
  subst h
  repeat' ((try with_reducible conv => arg 4; whnf); first
    | with_reducible apply Changes.refl
    | ((with_reducible show Area.sub _ _ = true); rfl)
    | ((with_reducible apply Entries.le_of_sub); rfl)
    | ((with_reducible apply Entries.le_only); simp; done)
    | intro _
    | with_reducible apply Changes.andThen ?_ (State.stepEnd_changes _ _ _ ) ?_ ?_)

theorem State.periodEnd_changes (s : State) (cyc : Nat) :
    Changes [.freeN, .ctl, .pipe, .engine, .tracks, .memory, .knots, .host, .faults, .power, .perf, .out] (.only [0x0317, 0x0804, 0x0809, 0x0825, 0x0863, 0x1205, K.computeEnergyPerOp, K.voltageSteps, K.clockSteps, K.periodsRun, K.periodsSlipped, K.maxSlipCycles, K.maxFrozenPerPeriod, K.emptyPeriods, K.waitersInUse, K.waitersPeak, K.knotOps, K.knotSaturations, K.frozenRefusals, K.knotOpsRefused, K.commandsCompleted, K.recordsUnrouted]) s (State.periodEnd s cyc) := by
  unfold State.periodEnd
  repeat' ((try with_reducible conv => arg 4; whnf); first
    | with_reducible apply Changes.refl
    | ((with_reducible show Area.sub _ _ = true); rfl)
    | ((with_reducible apply Entries.le_of_sub); rfl)
    | ((with_reducible apply Entries.le_only); simp; done)
    | intro _
    | with_reducible apply Changes.andThen ?_ (State.feed_changes _ _ ) ?_ ?_
    | with_reducible apply Changes.andThen ?_ (State.periodStop_changes _ _ ) ?_ ?_)

theorem execPeriodEnd_changes (cyc : Nat) (s : State) {u : State} (h : execPeriodEnd cyc s = .next u) :
    Changes [.freeN, .ctl, .pipe, .engine, .tracks, .memory, .knots, .host, .faults, .power, .perf, .out] (.only [0x0317, 0x0804, 0x0809, 0x0825, 0x0863, 0x1205, K.computeEnergyPerOp, K.voltageSteps, K.clockSteps, K.periodsRun, K.periodsSlipped, K.maxSlipCycles, K.maxFrozenPerPeriod, K.emptyPeriods, K.waitersInUse, K.waitersPeak, K.knotOps, K.knotSaturations, K.frozenRefusals, K.knotOpsRefused, K.commandsCompleted, K.recordsUnrouted]) s u := by
  unfold execPeriodEnd at h
  try (have h := guardUnit_next h)
  try injection h with h
  subst h
  repeat' ((try with_reducible conv => arg 4; whnf); first
    | with_reducible apply Changes.refl
    | ((with_reducible show Area.sub _ _ = true); rfl)
    | ((with_reducible apply Entries.le_of_sub); rfl)
    | ((with_reducible apply Entries.le_only); simp; done)
    | intro _
    | with_reducible apply Changes.ite
    | with_reducible apply Changes.ite_snd
    | with_reducible apply Changes.ite_fst
    | with_reducible apply Changes.ite_snd_snd
    | with_reducible apply Changes.foldl
    | with_reducible apply Changes.foldl_snd
    | with_reducible apply Changes.foldl_fst
    | with_reducible apply Changes.andThen ?_ (State.periodEnd_changes _ _ ) ?_ ?_
    | ((conv => arg 4; arg 24); with_reducible refine Changes.update ?_)
    | split
    | with_reducible refine Changes.of_snd (by assumption) ?_)

theorem State.stepStart_changes (s : State) (c cyc : Nat) :
    Changes [.engine, .knots, .host, .power, .perf, .out] (.only [0x1205, K.waitersInUse, K.waitersPeak, K.knotOps, K.knotSaturations, K.frozenRefusals, K.knotOpsRefused, K.commandsCompleted, K.recordsUnrouted]) s (State.stepStart s c cyc) := by
  unfold State.stepStart
  repeat' ((try with_reducible conv => arg 4; whnf); first
    | with_reducible apply Changes.refl
    | ((with_reducible show Area.sub _ _ = true); rfl)
    | ((with_reducible apply Entries.le_of_sub); rfl)
    | ((with_reducible apply Entries.le_only); simp; done)
    | intro _
    | with_reducible apply Changes.ite
    | with_reducible apply Changes.andThen ?_ (State.trackReady_changes _ ) ?_ ?_
    | with_reducible apply Changes.andThen ?_ (State.releaseHeld_changes _ _ ) ?_ ?_
    | with_reducible apply Changes.andThen ?_ (State.setCtx_changes _ _ _ ) ?_ ?_
    | split)

theorem execStepStart_changes (ctx cyc : Nat) (s : State) {u : State} (h : execStepStart ctx cyc s = .next u) :
    Changes [.engine, .knots, .host, .power, .perf, .out] (.only [0x1205, K.waitersInUse, K.waitersPeak, K.knotOps, K.knotSaturations, K.frozenRefusals, K.knotOpsRefused, K.commandsCompleted, K.recordsUnrouted]) s u := by
  unfold execStepStart at h
  try (have h := guardUnit_next h)
  try injection h with h
  subst h
  repeat' ((try with_reducible conv => arg 4; whnf); first
    | with_reducible apply Changes.refl
    | ((with_reducible show Area.sub _ _ = true); rfl)
    | ((with_reducible apply Entries.le_of_sub); rfl)
    | ((with_reducible apply Entries.le_only); simp; done)
    | intro _
    | with_reducible apply Changes.andThen ?_ (State.stepStart_changes _ _ _ ) ?_ ?_)

theorem State.streamStarts_changes (s : State) (n : NextPeriod) :
    Changes [.engine] (.only [0x0844]) s (State.streamStarts s n) := by
  unfold State.streamStarts
  repeat' ((try with_reducible conv => arg 4; whnf); first
    | with_reducible apply Changes.refl
    | ((with_reducible show Area.sub _ _ = true); rfl)
    | ((with_reducible apply Entries.le_of_sub); rfl)
    | ((with_reducible apply Entries.le_only); simp; done)
    | intro _
    | with_reducible apply Changes.ite
    | with_reducible apply Changes.foldl
    | with_reducible apply Changes.andThen ?_ (State.bump_changes _ _ _ ) ?_ ?_
    | ((conv => arg 4; arg 24); with_reducible refine Changes.update ?_)
    | split)

theorem State.runZero_changes (s : State) (p : Period) :
    Changes [.engine, .memory, .knots, .power] (.only []) s (State.runZero s p) := by
  unfold State.runZero
  repeat' ((try with_reducible conv => arg 4; whnf); first
    | with_reducible apply Changes.refl
    | ((with_reducible show Area.sub _ _ = true); rfl)
    | ((with_reducible apply Entries.le_of_sub); rfl)
    | ((with_reducible apply Entries.le_only); simp; done)
    | intro _
    | with_reducible apply Changes.andThen ?_ (State.trackReady_changes _ ) ?_ ?_
    | with_reducible apply Changes.andThen ?_ (State.setCtx_changes _ _ _ ) ?_ ?_
    | ((conv => arg 4; arg 24); with_reducible refine Changes.update ?_))

theorem State.periodGo_changes (s : State) (n : NextPeriod) (due cyc : Nat) :
    Changes [.engine, .memory, .knots, .power] (.only [0x0844, K.minObservedSlack]) s (State.periodGo s n due cyc) := by
  unfold State.periodGo
  repeat' ((try with_reducible conv => arg 4; whnf); first
    | with_reducible apply Changes.refl
    | ((with_reducible show Area.sub _ _ = true); rfl)
    | ((with_reducible apply Entries.le_of_sub); rfl)
    | ((with_reducible apply Entries.le_only); simp; done)
    | intro _
    | with_reducible apply Changes.ite
    | with_reducible apply Changes.andThen ?_ (State.setReg_changes _ _ _ ) ?_ ?_
    | with_reducible apply Changes.andThen ?_ (State.streamStarts_changes _ _ ) ?_ ?_
    | with_reducible apply Changes.andThen ?_ (State.runZero_changes _ _ ) ?_ ?_
    | ((conv => arg 4; arg 24); with_reducible refine Changes.update ?_)
    | split)

theorem State.periodStart_changes (s : State) (cyc : Nat) :
    Changes [.freeN, .blobs, .ctl, .belt, .pipe, .engine, .tracks, .eject, .memory, .knots, .host, .faults, .power, .perf, .out] (.only [0x0804, 0x0808, 0x0844, 0x1205, 0x1402, 0x1703, K.minObservedSlack, K.decisionsIssued, K.fallbackDecisions, K.waitersInUse, K.waitersPeak, K.ownerResetReleases, K.knotDumpContext, K.pulsesPending, K.pulsesPeak, K.pulsesScheduled, K.pulsesMerged, K.storeFullRefused, K.lateDecisions, K.missedDecisions, K.disabledChannelRequests, K.commandsCompleted, K.recordsUnrouted, K.faultLogOverwritten, K.faultRecordsSuppressed, K.fallbackGapOpen, K.gapRecords]) s (State.periodStart s cyc) := by
  unfold State.periodStart
  repeat' ((try with_reducible conv => arg 4; whnf); first
    | with_reducible apply Changes.refl
    | ((with_reducible show Area.sub _ _ = true); rfl)
    | ((with_reducible apply Entries.le_of_sub); rfl)
    | ((with_reducible apply Entries.le_only); simp; done)
    | intro _
    | with_reducible apply Changes.ite
    | with_reducible apply Changes.andThen ?_ (State.periodGo_changes _ _ _ _ ) ?_ ?_
    | with_reducible apply Changes.andThen ?_ (State.boundary_changes _ ) ?_ ?_
    | split)

theorem execPeriodStart_changes (cyc : Nat) (s : State) {u : State} (h : execPeriodStart cyc s = .next u) :
    Changes [.freeN, .blobs, .ctl, .belt, .pipe, .engine, .tracks, .eject, .memory, .knots, .host, .faults, .power, .perf, .out] (.only [0x0804, 0x0808, 0x0844, 0x1205, 0x1402, 0x1703, K.minObservedSlack, K.decisionsIssued, K.fallbackDecisions, K.waitersInUse, K.waitersPeak, K.ownerResetReleases, K.knotDumpContext, K.pulsesPending, K.pulsesPeak, K.pulsesScheduled, K.pulsesMerged, K.storeFullRefused, K.lateDecisions, K.missedDecisions, K.disabledChannelRequests, K.commandsCompleted, K.recordsUnrouted, K.faultLogOverwritten, K.faultRecordsSuppressed, K.fallbackGapOpen, K.gapRecords]) s u := by
  unfold execPeriodStart at h
  try (have h := guardUnit_next h)
  try injection h with h
  subst h
  repeat' ((try with_reducible conv => arg 4; whnf); first
    | with_reducible apply Changes.refl
    | ((with_reducible show Area.sub _ _ = true); rfl)
    | ((with_reducible apply Entries.le_of_sub); rfl)
    | ((with_reducible apply Entries.le_only); simp; done)
    | intro _
    | with_reducible apply Changes.andThen ?_ (State.periodStart_changes _ _ ) ?_ ?_)

theorem State.emptyStart_changes (s : State) (cyc : Nat) :
    Changes [.engine, .memory, .knots, .power] (.only []) s (State.emptyStart s cyc) := by
  unfold State.emptyStart
  repeat' ((try with_reducible conv => arg 4; whnf); first
    | with_reducible apply Changes.refl
    | ((with_reducible show Area.sub _ _ = true); rfl)
    | ((with_reducible apply Entries.le_of_sub); rfl)
    | ((with_reducible apply Entries.le_only); simp; done)
    | intro _
    | with_reducible apply Changes.ite
    | with_reducible apply Changes.andThen ?_ (State.runZero_changes _ _ ) ?_ ?_
    | split)

theorem execEmptyPeriod_changes (cyc : Nat) (s : State) {u : State} (h : execEmptyPeriod cyc s = .next u) :
    Changes [.engine, .memory, .knots, .power] (.only []) s u := by
  unfold execEmptyPeriod at h
  try (have h := guardUnit_next h)
  try injection h with h
  subst h
  repeat' ((try with_reducible conv => arg 4; whnf); first
    | with_reducible apply Changes.refl
    | ((with_reducible show Area.sub _ _ = true); rfl)
    | ((with_reducible apply Entries.le_of_sub); rfl)
    | ((with_reducible apply Entries.le_only); simp; done)
    | intro _
    | with_reducible apply Changes.andThen ?_ (State.emptyStart_changes _ _ ) ?_ ?_)

theorem execFlush_changes (sess : Nat) (s : State) {u : State} (h : execFlush sess s = .next u) :
    Changes [.ctl, .belt, .intake, .pipe, .engine, .power, .out] (.only [0x0208, 0x0509, 0x061A, K.currentStripe]) s u := by
  unfold execFlush at h
  try (have h := guardUnit_next h)
  try injection h with h
  subst h
  repeat' ((try with_reducible conv => arg 4; whnf); first
    | with_reducible apply Changes.refl
    | ((with_reducible show Area.sub _ _ = true); rfl)
    | ((with_reducible apply Entries.le_of_sub); rfl)
    | ((with_reducible apply Entries.le_only); simp; done)
    | intro _
    | with_reducible apply Changes.andThen ?_ (State.flushCmd_changes _ ) ?_ ?_
    | with_reducible apply Changes.trans ?_ (State.runCmd_changes _ _ _ _  ?_ ?_ ?_))

end Sys2Proof.Machine
end

