-- ==== Sys2Proof/Laws/FramePipeline.lean ====
section
/-! SUPPORT. What each operation of Machine/Pipeline.lean changes and what it leaves unchanged. -/

-- one theorem after another: see NOTES.md
set_option Elab.async false

namespace Sys2Proof.Machine

theorem State.paramSwitchCmd_changes (s : State) (i : Nat) :
    Changes [.ctl, .pipe] (.only [0x0615]) s (State.paramSwitchCmd s i).2 := by
  unfold State.paramSwitchCmd
  repeat' ((try with_reducible conv => arg 4; arg 1; whnf); first
    | with_reducible apply Changes.refl
    | dsimp only
    | ((with_reducible show Area.sub _ _ = true); rfl)
    | ((with_reducible apply Entries.le_of_sub); rfl)
    | ((with_reducible apply Entries.le_only); simp; done)
    | intro _
    | with_reducible apply Changes.ite
    | with_reducible apply Changes.ite_snd
    | with_reducible apply Changes.andThen ?_ (State.cmdOk_changes _ _ ) ?_ ?_
    | with_reducible apply Changes.andThen ?_ (State.scheduleSwitch_changes _ _ _ ) ?_ ?_
    | split)

theorem State.overrun_changes (s : State) (st : Stripe) (n : Nat) :
    Changes [.pipe, .engine, .host, .perf, .out] (.only [0x1205, K.stripeOverruns, K.recordsUnrouted]) s (State.overrun s st n) := by
  unfold State.overrun
  repeat' ((try with_reducible conv => arg 4; whnf); first
    | with_reducible apply Changes.refl
    | ((with_reducible show Area.sub _ _ = true); rfl)
    | ((with_reducible apply Entries.le_of_sub); rfl)
    | ((with_reducible apply Entries.le_only); simp; done)
    | intro _
    | with_reducible apply Changes.andThen ?_ (State.bump_changes _ _ _ ) ?_ ?_
    | with_reducible apply Changes.andThen ?_ (State.setStripe_changes _ _ ) ?_ ?_
    | with_reducible apply Changes.andThen ?_ (State.emit_changes _ _ ) ?_ ?_
    | ((conv => arg 4; arg 24); with_reducible refine Changes.update ?_))

theorem State.runTile_changes (s : State) (st : Stripe) (i pipe : Nat) (corrupt : List Nat) :
    Changes [.freeN, .intake, .pipe, .engine, .host, .perf, .out] (.only [0x0509, 0x0615, 0x0619, 0x061B, 0x1205, K.stripeOverruns, K.recordsUnrouted]) s (State.runTile s st i pipe corrupt) := by
  unfold State.runTile
  repeat' ((try with_reducible conv => arg 4; whnf); first
    | with_reducible apply Changes.refl
    | ((with_reducible show Area.sub _ _ = true); rfl)
    | ((with_reducible apply Entries.le_of_sub); rfl)
    | ((with_reducible apply Entries.le_only); simp; done)
    | intro _
    | with_reducible apply Changes.ite
    | with_reducible apply Changes.foldl
    | with_reducible apply Changes.andThen ?_ (State.bump_changes _ _ _ ) ?_ ?_
    | with_reducible apply Changes.andThen ?_ (State.setPctx_changes _ _ _ ) ?_ ?_
    | with_reducible apply Changes.andThen ?_ (State.overrun_changes _ _ _ ) ?_ ?_
    | with_reducible apply Changes.andThen ?_ (State.portBytes_changes _ _ _ _ ) ?_ ?_
    | with_reducible apply Changes.andThen ?_ (State.countStore_changes _ _ _ _ _ _ ) ?_ ?_
    | with_reducible apply Changes.andThen ?_ (State.setStripe_changes _ _ ) ?_ ?_
    | with_reducible apply Changes.andThen ?_ (State.keepHistory_changes _ _ _ _ _ ) ?_ ?_
    | with_reducible apply Changes.andThen ?_ (State.pruneLines_changes _ _ ) ?_ ?_
    | with_reducible apply Changes.andThen ?_ (State.count_changes _ _ _ _ _ _ _ _ ) ?_ ?_
    | ((conv => arg 4; arg 24); with_reducible refine Changes.update ?_)
    | split)

theorem State.pipelineStart_changes (s : State) (pipe : Nat) (corrupt : List Nat) :
    Changes [.freeN, .intake, .pipe, .engine, .host, .perf, .out] (.only [0x0509, 0x0615, 0x0619, 0x061B, 0x1205, K.stripeOverruns, K.recordsUnrouted]) s (State.pipelineStart s pipe corrupt) := by
  unfold State.pipelineStart
  repeat' ((try with_reducible conv => arg 4; whnf); first
    | with_reducible apply Changes.refl
    | ((with_reducible show Area.sub _ _ = true); rfl)
    | ((with_reducible apply Entries.le_of_sub); rfl)
    | ((with_reducible apply Entries.le_only); simp; done)
    | intro _
    | with_reducible apply Changes.ite
    | with_reducible apply Changes.andThen ?_ (State.runTile_changes _ _ _ _ _ ) ?_ ?_
    | split)

theorem execPipelineStripeStart_changes (pipe : Nat) (corrupt : List Nat) (s : State) {u : State} (h : execPipelineStripeStart pipe corrupt s = .next u) :
    Changes [.freeN, .intake, .pipe, .engine, .host, .perf, .out] (.only [0x0509, 0x0615, 0x0619, 0x061B, 0x1205, K.stripeOverruns, K.recordsUnrouted]) s u := by
  unfold execPipelineStripeStart at h
  try (have h := guardUnit_next h)
  try injection h with h
  subst h
  repeat' ((try with_reducible conv => arg 4; whnf); first
    | with_reducible apply Changes.refl
    | ((with_reducible show Area.sub _ _ = true); rfl)
    | ((with_reducible apply Entries.le_of_sub); rfl)
    | ((with_reducible apply Entries.le_only); simp; done)
    | intro _
    | with_reducible apply Changes.andThen ?_ (State.pipelineStart_changes _ _ _ ) ?_ ?_)

theorem State.stripeReady_changes (s : State) (j cyc : Nat) :
    Changes [.freeN, .ctl, .pipe, .engine, .host, .power, .perf, .out] (.only [0x1205, K.recordsUnrouted]) s (State.stripeReady s j cyc) := by
  unfold State.stripeReady
  repeat' ((try with_reducible conv => arg 4; whnf); first
    | with_reducible apply Changes.refl
    | ((with_reducible show Area.sub _ _ = true); rfl)
    | ((with_reducible apply Entries.le_of_sub); rfl)
    | ((with_reducible apply Entries.le_only); simp; done)
    | intro _
    | with_reducible apply Changes.ite
    | with_reducible apply Changes.andThen ?_ (State.trackReady_changes _ ) ?_ ?_
    | with_reducible apply Changes.andThen ?_ (State.portBytes_changes _ _ _ _ ) ?_ ?_
    | with_reducible apply Changes.andThen ?_ (State.autoWake_changes _ ) ?_ ?_
    | with_reducible apply Changes.andThen ?_ (State.countStore_changes _ _ _ _ _ _ ) ?_ ?_
    | with_reducible apply Changes.andThen ?_ (State.setStripe_changes _ _ ) ?_ ?_
    | with_reducible apply Changes.andThen ?_ (State.setCtx_changes _ _ _ ) ?_ ?_
    | ((conv => arg 4; arg 24); with_reducible refine Changes.update ?_)
    | split)

theorem execStripeReady_changes (stripe cyc : Nat) (s : State) {u : State} (h : execStripeReady stripe cyc s = .next u) :
    Changes [.freeN, .ctl, .pipe, .engine, .host, .power, .perf, .out] (.only [0x1205, K.recordsUnrouted]) s u := by
  unfold execStripeReady at h
  try (have h := guardUnit_next h)
  try injection h with h
  subst h
  repeat' ((try with_reducible conv => arg 4; whnf); first
    | with_reducible apply Changes.refl
    | ((with_reducible show Area.sub _ _ = true); rfl)
    | ((with_reducible apply Entries.le_of_sub); rfl)
    | ((with_reducible apply Entries.le_only); simp; done)
    | intro _
    | with_reducible apply Changes.andThen ?_ (State.stripeReady_changes _ _ _ ) ?_ ?_)

theorem execParamSetSwitch_changes (sess stream : Nat) (s : State) {u : State} (h : execParamSetSwitch sess stream s = .next u) :
    Changes [.ctl, .pipe, .out] (.only [0x0615]) s u := by
  unfold execParamSetSwitch at h
  try (have h := guardUnit_next h)
  try injection h with h
  subst h
  repeat' ((try with_reducible conv => arg 4; whnf); first
    | with_reducible apply Changes.refl
    | ((with_reducible show Area.sub _ _ = true); rfl)
    | ((with_reducible apply Entries.le_of_sub); rfl)
    | ((with_reducible apply Entries.le_only); simp; done)
    | intro _
    | with_reducible apply Changes.andThen ?_ (State.paramSwitchCmd_changes _ _ ) ?_ ?_
    | with_reducible apply Changes.trans ?_ (State.runCmd_changes _ _ _ _  ?_ ?_ ?_))

theorem State.paramTakesForce_changes (s : State) (i : Nat) :
    Changes [.pipe, .host, .perf, .out] (.only [0x0615, 0x061C, 0x1205, K.recordsUnrouted]) s (State.paramTakesForce s i) := by
  unfold State.paramTakesForce
  repeat' ((try with_reducible conv => arg 4; whnf); first
    | with_reducible apply Changes.refl
    | ((with_reducible show Area.sub _ _ = true); rfl)
    | ((with_reducible apply Entries.le_of_sub); rfl)
    | ((with_reducible apply Entries.le_only); simp; done)
    | intro _
    | with_reducible apply Changes.ite
    | with_reducible apply Changes.andThen ?_ (State.bump_changes _ _ _ ) ?_ ?_
    | with_reducible apply Changes.andThen ?_ (State.setPctx_changes _ _ _ ) ?_ ?_
    | with_reducible apply Changes.andThen ?_ (State.emit_changes _ _ ) ?_ ?_
    | split)

theorem execParamSetTakesForce_changes (stream : Nat) (s : State) {u : State} (h : execParamSetTakesForce stream s = .next u) :
    Changes [.pipe, .host, .perf, .out] (.only [0x0615, 0x061C, 0x1205, K.recordsUnrouted]) s u := by
  unfold execParamSetTakesForce at h
  try (have h := guardUnit_next h)
  try injection h with h
  subst h
  repeat' ((try with_reducible conv => arg 4; whnf); first
    | with_reducible apply Changes.refl
    | ((with_reducible show Area.sub _ _ = true); rfl)
    | ((with_reducible apply Entries.le_of_sub); rfl)
    | ((with_reducible apply Entries.le_only); simp; done)
    | intro _
    | with_reducible apply Changes.andThen ?_ (State.paramTakesForce_changes _ _ ) ?_ ?_)

end Sys2Proof.Machine
end

