-- ==== Sys2Proof/Laws/FrameSupplies.lean ====
section
/-! SUPPORT. What each operation of Machine/Supplies.lean changes and what it leaves unchanged. -/

-- one theorem after another: see NOTES.md
set_option Elab.async false

namespace Sys2Proof.Machine

theorem State.setPolarity_changes (s : State) (u : Nat) (reversed : Bool) :
    Changes [.supplies, .field] (.only []) s (State.setPolarity s u reversed) := by
  unfold State.setPolarity
  repeat' ((try with_reducible conv => arg 4; whnf); first
    | with_reducible apply Changes.refl
    | intro _
    | with_reducible apply Changes.ite
    | ((conv => arg 4; arg 24); with_reducible refine Changes.update ?_)
    | split)

theorem State.powerLost_changes (s : State) (l : Nat) :
    Changes [.ctl, .intake] (.only [0x0405, 0x0509, 0x050B]) s (State.powerLost s l) := by
  unfold State.powerLost
  repeat' ((try with_reducible conv => arg 4; whnf); first
    | with_reducible apply Changes.refl
    | ((with_reducible show Area.sub _ _ = true); rfl)
    | ((with_reducible apply Entries.le_of_sub); rfl)
    | ((with_reducible apply Entries.le_only); simp; done)
    | intro _
    | with_reducible apply Changes.ite
    | with_reducible apply Changes.andThen ?_ (State.setStream_changes _ _ _ ) ?_ ?_
    | with_reducible apply Changes.andThen ?_ (State.missIncomplete_changes _ _ _ ) ?_ ?_
    | with_reducible apply Changes.andThen ?_ (State.markMissing_changes _ _ _ _ _ ) ?_ ?_
    | with_reducible apply Changes.andThen ?_ (State.dropCtl_changes _ _ ) ?_ ?_
    | with_reducible apply Changes.andThen ?_ (State.setCam_changes _ _ _ ) ?_ ?_
    | split)

theorem State.cameraSupply_changes (s : State) (mv : Int) :
    Changes [.ctl, .supplies, .intake, .field] (.only [0x0405, 0x0509, 0x050B]) s (State.cameraSupply s mv) := by
  unfold State.cameraSupply
  repeat' ((try with_reducible conv => arg 4; whnf); first
    | with_reducible apply Changes.refl
    | ((with_reducible show Area.sub _ _ = true); rfl)
    | ((with_reducible apply Entries.le_of_sub); rfl)
    | ((with_reducible apply Entries.le_only); simp; done)
    | intro _
    | with_reducible apply Changes.ite
    | with_reducible apply Changes.foldl
    | with_reducible apply Changes.andThen ?_ (State.setPolarity_changes _ _ _ ) ?_ ?_
    | with_reducible apply Changes.andThen ?_ (State.powerLost_changes _ _ ) ?_ ?_
    | with_reducible apply Changes.andThen ?_ (State.setCam_changes _ _ _ ) ?_ ?_
    | ((conv => arg 4; arg 24); with_reducible refine Changes.update ?_)
    | split)

theorem execCameraSupplyChange_changes (mv : Int) (s : State) {u : State} (h : execCameraSupplyChange mv s = .next u) :
    Changes [.ctl, .supplies, .intake, .field] (.only [0x0405, 0x0509, 0x050B]) s u := by
  unfold execCameraSupplyChange at h
  try (have h := guardUnit_next h)
  try injection h with h
  subst h
  repeat' ((try with_reducible conv => arg 4; whnf); first
    | with_reducible apply Changes.refl
    | ((with_reducible show Area.sub _ _ = true); rfl)
    | ((with_reducible apply Entries.le_of_sub); rfl)
    | ((with_reducible apply Entries.le_only); simp; done)
    | intro _
    | with_reducible apply Changes.andThen ?_ (State.cameraSupply_changes _ _ ) ?_ ?_)

theorem State.bankResetCmd_changes (s : State) (b : Nat) :
    Changes [.ctl, .supplies] (.only []) s (State.bankResetCmd s b).2 := by
  unfold State.bankResetCmd
  repeat' ((try with_reducible conv => arg 4; arg 1; whnf); first
    | with_reducible apply Changes.refl
    | dsimp only
    | ((with_reducible show Area.sub _ _ = true); rfl)
    | ((with_reducible apply Entries.le_of_sub); rfl)
    | ((with_reducible apply Entries.le_only); simp; done)
    | intro _
    | with_reducible apply Changes.ite
    | with_reducible apply Changes.ite_snd
    | with_reducible apply Changes.andThen ?_ (State.cmdOk_changes _ _ ) ?_ ?_
    | ((conv => arg 4; arg 24); with_reducible refine Changes.update ?_)
    | split)

theorem State.bankTrip_changes (s : State) (b ma : Nat) :
    Changes [.freeN, .supplies, .field, .host, .faults, .perf, .out] (.only [0x0306, 0x1205, 0x1402, 0x1703, K.recordsUnrouted, K.faultLogOverwritten, K.faultRecordsSuppressed]) s (State.bankTrip s b ma) := by
  unfold State.bankTrip
  repeat' ((try with_reducible conv => arg 4; whnf); first
    | with_reducible apply Changes.refl
    | ((with_reducible show Area.sub _ _ = true); rfl)
    | ((with_reducible apply Entries.le_of_sub); rfl)
    | ((with_reducible apply Entries.le_only); simp; done)
    | intro _
    | with_reducible apply Changes.ite
    | with_reducible apply Changes.andThen ?_ (State.bump_changes _ _ _ ) ?_ ?_
    | with_reducible apply Changes.andThen ?_ (State.bankOff_changes _ _ ) ?_ ?_
    | with_reducible apply Changes.andThen ?_ (State.report_changes _ _ _ _ _ _ _ ) ?_ ?_
    | ((conv => arg 4; arg 24); with_reducible refine Changes.update ?_)
    | split)

theorem execFieldBankTrip_changes (bank ma : Nat) (s : State) {u : State} (h : execFieldBankTrip bank ma s = .next u) :
    Changes [.freeN, .supplies, .field, .host, .faults, .perf, .out] (.only [0x0306, 0x1205, 0x1402, 0x1703, K.recordsUnrouted, K.faultLogOverwritten, K.faultRecordsSuppressed]) s u := by
  unfold execFieldBankTrip at h
  try (have h := guardUnit_next h)
  try injection h with h
  subst h
  repeat' ((try with_reducible conv => arg 4; whnf); first
    | with_reducible apply Changes.refl
    | ((with_reducible show Area.sub _ _ = true); rfl)
    | ((with_reducible apply Entries.le_of_sub); rfl)
    | ((with_reducible apply Entries.le_only); simp; done)
    | intro _
    | with_reducible apply Changes.andThen ?_ (State.bankTrip_changes _ _ _ ) ?_ ?_)

theorem State.logicDip_changes (s : State) (mv : Int) :
    Changes [.supplies, .field] (.only []) s (State.logicDip s mv) := by
  unfold State.logicDip
  repeat' ((try with_reducible conv => arg 4; whnf); first
    | with_reducible apply Changes.refl
    | ((with_reducible show Area.sub _ _ = true); rfl)
    | ((with_reducible apply Entries.le_of_sub); rfl)
    | ((with_reducible apply Entries.le_only); simp; done)
    | intro _
    | with_reducible apply Changes.ite
    | with_reducible apply Changes.andThen ?_ (State.setPolarity_changes _ _ _ ) ?_ ?_
    | ((conv => arg 4; arg 24); with_reducible refine Changes.update ?_)
    | split)

theorem execLogicSupplyDip_changes (mv : Int) (s : State) {u : State} (h : execLogicSupplyDip mv s = .next u) :
    Changes [.supplies, .field] (.only []) s u := by
  unfold execLogicSupplyDip at h
  try (have h := guardUnit_next h)
  try injection h with h
  subst h
  repeat' ((try with_reducible conv => arg 4; whnf); first
    | with_reducible apply Changes.refl
    | ((with_reducible show Area.sub _ _ = true); rfl)
    | ((with_reducible apply Entries.le_of_sub); rfl)
    | ((with_reducible apply Entries.le_only); simp; done)
    | intro _
    | with_reducible apply Changes.andThen ?_ (State.logicDip_changes _ _ ) ?_ ?_)

theorem State.outputsOff_changes (s : State) :
    Changes [.field] (.only [K.aliveState]) s (State.outputsOff s) := by
  unfold State.outputsOff
  repeat' ((try with_reducible conv => arg 4; whnf); first
    | with_reducible apply Changes.refl
    | ((with_reducible show Area.sub _ _ = true); rfl)
    | ((with_reducible apply Entries.le_of_sub); rfl)
    | ((with_reducible apply Entries.le_only); simp; done)
    | intro _
    | with_reducible apply Changes.andThen ?_ (State.setAlive_changes _ _ _ ) ?_ ?_
    | ((conv => arg 4; arg 24); with_reducible refine Changes.update ?_))

theorem State.powerFail_changes (s : State) (mv : Nat) :
    Changes [.tick, .freeN, .blobs, .ctl, .belt, .supplies, .intake, .pipe, .engine, .tracks, .eject, .field, .memory, .knots, .host, .net, .faults, .power, .perf, .boot, .out] (.all) s (State.powerFail s mv) := by
  unfold State.powerFail
  repeat' ((try with_reducible conv => arg 4; whnf); first
    | with_reducible apply Changes.refl
    | ((with_reducible show Area.sub _ _ = true); rfl)
    | ((with_reducible apply Entries.le_of_sub); rfl)
    | ((with_reducible apply Entries.le_only); simp; done)
    | intro _
    | with_reducible apply Changes.ite
    | with_reducible apply Changes.andThen ?_ (State.enterReset_changes _ _ ) ?_ ?_
    | with_reducible apply Changes.andThen ?_ (State.noteFault_changes _ _ _ _ _ _ _ ) ?_ ?_
    | with_reducible apply Changes.andThen ?_ (State.outputsOff_changes _ ) ?_ ?_
    | ((conv => arg 4; arg 24); with_reducible refine Changes.update ?_)
    | split)

theorem execPowerFail_changes (mv : Nat) (s : State) {u : State} (h : execPowerFail mv s = .next u) :
    Changes [.tick, .freeN, .blobs, .ctl, .belt, .supplies, .intake, .pipe, .engine, .tracks, .eject, .field, .memory, .knots, .host, .net, .faults, .power, .perf, .boot, .out] (.all) s u := by
  unfold execPowerFail at h
  try (have h := guardUnit_next h)
  try injection h with h
  subst h
  repeat' ((try with_reducible conv => arg 4; whnf); first
    | with_reducible apply Changes.refl
    | ((with_reducible show Area.sub _ _ = true); rfl)
    | ((with_reducible apply Entries.le_of_sub); rfl)
    | ((with_reducible apply Entries.le_only); simp; done)
    | intro _
    | with_reducible apply Changes.andThen ?_ (State.powerFail_changes _ _ ) ?_ ?_)

theorem execFieldBankReset_changes (sess bank : Nat) (s : State) {u : State} (h : execFieldBankReset sess bank s = .next u) :
    Changes [.ctl, .supplies, .out] (.only []) s u := by
  unfold execFieldBankReset at h
  try (have h := guardUnit_next h)
  try injection h with h
  subst h
  repeat' ((try with_reducible conv => arg 4; whnf); first
    | with_reducible apply Changes.refl
    | ((with_reducible show Area.sub _ _ = true); rfl)
    | ((with_reducible apply Entries.le_of_sub); rfl)
    | ((with_reducible apply Entries.le_only); simp; done)
    | intro _
    | with_reducible apply Changes.andThen ?_ (State.bankResetCmd_changes _ _ ) ?_ ?_
    | with_reducible apply Changes.trans ?_ (State.runCmd_changes _ _ _ _  ?_ ?_ ?_))

theorem State.bankSupply_changes (s : State) (b : Nat) (mv : Int) :
    Changes [.supplies, .field] (.only []) s (State.bankSupply s b mv) := by
  unfold State.bankSupply
  repeat' ((try with_reducible conv => arg 4; whnf); first
    | with_reducible apply Changes.refl
    | ((with_reducible show Area.sub _ _ = true); rfl)
    | ((with_reducible apply Entries.le_of_sub); rfl)
    | ((with_reducible apply Entries.le_only); simp; done)
    | intro _
    | with_reducible apply Changes.ite
    | with_reducible apply Changes.andThen ?_ (State.setPolarity_changes _ _ _ ) ?_ ?_
    | with_reducible apply Changes.andThen ?_ (State.bankOff_changes _ _ ) ?_ ?_
    | ((conv => arg 4; arg 24); with_reducible refine Changes.update ?_)
    | split)

theorem execFieldBankSupplyChange_changes (bank : Nat) (mv : Int) (s : State) {u : State} (h : execFieldBankSupplyChange bank mv s = .next u) :
    Changes [.supplies, .field] (.only []) s u := by
  unfold execFieldBankSupplyChange at h
  try (have h := guardUnit_next h)
  try injection h with h
  subst h
  repeat' ((try with_reducible conv => arg 4; whnf); first
    | with_reducible apply Changes.refl
    | ((with_reducible show Area.sub _ _ = true); rfl)
    | ((with_reducible apply Entries.le_of_sub); rfl)
    | ((with_reducible apply Entries.le_only); simp; done)
    | intro _
    | with_reducible apply Changes.andThen ?_ (State.bankSupply_changes _ _ _ ) ?_ ?_)

end Sys2Proof.Machine
end

