-- ==== Sys2Proof/Laws/FrameCommands.lean ====
section
/-! SUPPORT. What each operation of Machine/Commands.lean changes and what it leaves unchanged. -/

-- one theorem after another: see NOTES.md
set_option Elab.async false

namespace Sys2Proof.Machine

theorem State.cmdBody_changes (s : State) (sess k v : Nat) :
    Changes [.freeN, .blobs, .ctl, .belt, .supplies, .intake, .pipe, .engine, .tracks, .eject, .field, .memory, .knots, .host, .net, .faults, .power, .perf, .boot, .out] (.all) s (State.cmdBody s sess k v).2 := by
  unfold State.cmdBody
  repeat' ((try with_reducible conv => arg 4; arg 1; whnf); first
    | with_reducible apply Changes.refl
    | dsimp only
    | ((with_reducible show Area.sub _ _ = true); rfl)
    | ((with_reducible apply Entries.le_of_sub); rfl)
    | ((with_reducible apply Entries.le_only); simp; done)
    | intro _
    | with_reducible apply Changes.ite
    | with_reducible apply Changes.ite_snd
    | with_reducible apply Changes.andThen ?_ (State.eyeScanCmd_changes _ _ ) ?_ ?_
    | with_reducible apply Changes.andThen ?_ (State.setReg_changes _ _ _ ) ?_ ?_
    | with_reducible apply Changes.andThen ?_ (State.reoriginCmd_changes _ _ ) ?_ ?_
    | with_reducible apply Changes.andThen ?_ (State.blobEnd_changes _ _ ) ?_ ?_
    | with_reducible apply Changes.andThen ?_ (State.cmdOk_changes _ _ ) ?_ ?_
    | with_reducible apply Changes.andThen ?_ (State.contextResetCmd_changes _ _ ) ?_ ?_
    | with_reducible apply Changes.andThen ?_ (State.uploadBegin_changes _ _ ) ?_ ?_
    | with_reducible apply Changes.andThen ?_ (State.fireErrorClearCmd_changes _ ) ?_ ?_
    | with_reducible apply Changes.andThen ?_ (State.encResetCmd_changes _ _ ) ?_ ?_
    | with_reducible apply Changes.andThen ?_ (State.flushCmd_changes _ ) ?_ ?_
    | with_reducible apply Changes.andThen ?_ (State.powerTarget_changes _ _ _ ) ?_ ?_
    | with_reducible apply Changes.andThen ?_ (State.testPulseCmd_changes _ _ ) ?_ ?_
    | with_reducible apply Changes.andThen ?_ (State.logEmptied_changes _ _ ) ?_ ?_
    | with_reducible apply Changes.andThen ?_ (State.slotClear_changes _ _ ) ?_ ?_
    | with_reducible apply Changes.andThen ?_ (State.uploadEnd_changes _ _ ) ?_ ?_
    | with_reducible apply Changes.andThen ?_ (State.deviceRecoverCmd_changes _ ) ?_ ?_
    | with_reducible apply Changes.andThen ?_ (State.blobClear_changes _ _ ) ?_ ?_
    | with_reducible apply Changes.andThen ?_ (State.commitCmd_changes _ _ ) ?_ ?_
    | with_reducible apply Changes.andThen ?_ (State.paramSwitchCmd_changes _ _ ) ?_ ?_
    | with_reducible apply Changes.andThen ?_ (State.discardCmd_changes _ ) ?_ ?_
    | with_reducible apply Changes.andThen ?_ (State.streamRestartCmd_changes _ _ ) ?_ ?_
    | with_reducible apply Changes.andThen ?_ (State.bankResetCmd_changes _ _ ) ?_ ?_
    | with_reducible apply Changes.andThen ?_ (State.replanNowCmd_changes _ ) ?_ ?_
    | with_reducible apply Changes.andThen ?_ (State.setRunning_changes _ _ ) ?_ ?_
    | with_reducible apply Changes.andThen ?_ (State.snapshot_changes _ ) ?_ ?_
    | with_reducible apply Changes.andThen ?_ (State.statisticsCmd_changes _ _ ) ?_ ?_
    | with_reducible apply Changes.andThen ?_ (State.aliveStopFor_changes _ _ ) ?_ ?_
    | with_reducible apply Changes.andThen ?_ (State.retireCmd_changes _ _ ) ?_ ?_
    | with_reducible apply Changes.andThen ?_ (State.faultClearCmd_changes _ _ ) ?_ ?_
    | with_reducible apply Changes.andThen ?_ (State.clearPeaks_changes _ ) ?_ ?_
    | with_reducible apply Changes.andThen ?_ (State.attestCmd_changes _ ) ?_ ?_
    | with_reducible apply Changes.andThen ?_ (State.badLogClear_changes _ ) ?_ ?_
    | with_reducible apply Changes.andThen ?_ (State.blobBegin_changes _ _ ) ?_ ?_
    | with_reducible apply Changes.andThen ?_ (State.aliveStartCmd_changes _ ) ?_ ?_
    | with_reducible apply Changes.andThen ?_ (State.clearCounters_changes _ ) ?_ ?_
    | with_reducible apply Changes.andThen ?_ (State.sendAction_changes _ _ ) ?_ ?_
    | with_reducible apply Changes.andThen ?_ (State.cameraRegCmd_changes _ _ ) ?_ ?_
    | with_reducible apply Changes.andThen ?_ (State.retestCmd_changes _ _ ) ?_ ?_
    | with_reducible apply Changes.andThen ?_ (State.restoreCmd_changes _ _ ) ?_ ?_
    | ((conv => arg 4; arg 24); with_reducible refine Changes.update ?_)
    | split)

theorem State.cmdByKey_changes (s : State) (sess k v : Nat) :
    Changes [.freeN, .blobs, .ctl, .belt, .supplies, .intake, .pipe, .engine, .tracks, .eject, .field, .memory, .knots, .host, .net, .faults, .power, .perf, .boot, .out] (.all) s (State.cmdByKey s sess k v).2 := by
  unfold State.cmdByKey
  repeat' ((try with_reducible conv => arg 4; arg 1; whnf); first
    | with_reducible apply Changes.refl
    | dsimp only
    | ((with_reducible show Area.sub _ _ = true); rfl)
    | ((with_reducible apply Entries.le_of_sub); rfl)
    | ((with_reducible apply Entries.le_only); simp; done)
    | intro _
    | with_reducible apply Changes.andThen ?_ (State.cmdBody_changes _ _ _ _ ) ?_ ?_
    | split)

theorem State.put_changes (s : State) (sess idx sub off : Nat) (last : Bool) (d : List Byte) :
    Changes [.freeN, .blobs, .ctl, .belt, .supplies, .intake, .pipe, .engine, .tracks, .eject, .field, .memory, .knots, .host, .net, .faults, .power, .perf, .boot, .out] (.all) s (State.put s sess idx sub off last d).2 := by
  unfold State.put
  repeat' ((try with_reducible conv => arg 4; arg 1; whnf); first
    | with_reducible apply Changes.refl
    | dsimp only
    | ((with_reducible show Area.sub _ _ = true); rfl)
    | ((with_reducible apply Entries.le_of_sub); rfl)
    | ((with_reducible apply Entries.le_only); simp; done)
    | intro _
    | with_reducible apply Changes.andThen ?_ (State.cmdByKey_changes _ _ _ _ ) ?_ ?_
    | with_reducible apply Changes.trans ?_ (State.writeValue_changes _ _ _ _ _ _ _ _  ?_ ?_ ?_))

theorem State.dictWrite_changes (s : State) (sess idx sub : Nat) (val : List Byte) :
    Changes [.freeN, .blobs, .ctl, .belt, .supplies, .intake, .pipe, .engine, .tracks, .eject, .field, .memory, .knots, .host, .net, .faults, .power, .perf, .boot, .out] (.all) s (State.dictWrite s sess idx sub val) := by
  unfold State.dictWrite
  repeat' ((try with_reducible conv => arg 4; whnf); first
    | with_reducible apply Changes.refl
    | ((with_reducible show Area.sub _ _ = true); rfl)
    | ((with_reducible apply Entries.le_of_sub); rfl)
    | ((with_reducible apply Entries.le_only); simp; done)
    | intro _
    | with_reducible apply Changes.andThen ?_ (State.answer_changes _ _ _ _ ) ?_ ?_
    | with_reducible apply Changes.andThen ?_ (State.put_changes _ _ _ _ _ _ _ ) ?_ ?_
    | split)

theorem execDictionaryWrite_changes (sess idx sub : Nat) (val : List Byte) (s : State) {u : State} (h : execDictionaryWrite sess idx sub val s = .next u) :
    Changes [.freeN, .blobs, .ctl, .belt, .supplies, .intake, .pipe, .engine, .tracks, .eject, .field, .memory, .knots, .host, .net, .faults, .power, .perf, .boot, .out] (.all) s u := by
  unfold execDictionaryWrite at h
  try (have h := guardUnit_next h)
  try injection h with h
  subst h
  repeat' ((try with_reducible conv => arg 4; whnf); first
    | with_reducible apply Changes.refl
    | ((with_reducible show Area.sub _ _ = true); rfl)
    | ((with_reducible apply Entries.le_of_sub); rfl)
    | ((with_reducible apply Entries.le_only); simp; done)
    | intro _
    | with_reducible apply Changes.andThen ?_ (State.dictWrite_changes _ _ _ _ _ ) ?_ ?_)

theorem State.bdpOpen_changes (s : State) (d : List Byte) :
    Changes [.ctl] (.only []) s (State.bdpOpen s d).2 := by
  unfold State.bdpOpen
  repeat' ((try with_reducible conv => arg 4; arg 1; whnf); first
    | with_reducible apply Changes.refl
    | dsimp only
    | intro _
    | with_reducible apply Changes.ite
    | with_reducible apply Changes.ite_snd
    | ((conv => arg 4; arg 24); with_reducible refine Changes.update ?_)
    | split)

theorem State.runItem_changes (s : State) (sess : Nat) (write : Bool) (x : BdpItem) :
    Changes [.freeN, .blobs, .ctl, .belt, .supplies, .intake, .pipe, .engine, .tracks, .eject, .field, .memory, .knots, .host, .net, .faults, .power, .perf, .boot, .out] (.all) s (State.runItem s sess write x).2.2 := by
  unfold State.runItem
  repeat' ((try with_reducible conv => arg 4; arg 1; arg 1; whnf); first
    | with_reducible apply Changes.refl
    | dsimp only
    | ((with_reducible show Area.sub _ _ = true); rfl)
    | ((with_reducible apply Entries.le_of_sub); rfl)
    | ((with_reducible apply Entries.le_only); simp; done)
    | intro _
    | with_reducible apply Changes.ite
    | with_reducible apply Changes.ite_snd
    | with_reducible apply Changes.ite_snd_snd
    | with_reducible apply Changes.andThen ?_ (State.put_changes _ _ _ _ _ _ _ ) ?_ ?_
    | split)

theorem State.runItems_changes (s : State) (sess : Nat) (write : Bool) (l : List BdpItem) :
    Changes [.freeN, .blobs, .ctl, .belt, .supplies, .intake, .pipe, .engine, .tracks, .eject, .field, .memory, .knots, .host, .net, .faults, .power, .perf, .boot, .out] (.all) s (State.runItems s sess write l).2.2 := by
  unfold State.runItems
  suffices H : ∀ a : Nat × List Byte × State, Changes [.freeN, .blobs, .ctl, .belt, .supplies, .intake, .pipe, .engine, .tracks, .eject, .field, .memory, .knots, .host, .net, .faults, .power, .perf, .boot, .out] (.all) s a.2.2 →
      Changes [.freeN, .blobs, .ctl, .belt, .supplies, .intake, .pipe, .engine, .tracks, .eject, .field, .memory, .knots, .host, .net, .faults, .power, .perf, .boot, .out] (.all) s (l.foldl (fun (a : Nat × List Byte × State) x =>
        let (st, v, s) := a.2.2.runItem sess write x
        (if a.1 = Status.ok then st else a.1, a.2.1 ++ x.reply st v, s)) a).2.2 from H _ Changes.refl
  induction l with
  | nil => exact fun a h => h
  | cons x r ih => exact fun a h => ih _ (h.andThen (State.runItem_changes _ _ _ _) rfl (Entries.le_of_sub rfl))

theorem State.bdpExecute_changes (s : State) (d : List Byte) (items : List BdpItem) :
    Changes [.freeN, .blobs, .ctl, .belt, .supplies, .intake, .pipe, .engine, .tracks, .eject, .field, .memory, .knots, .host, .net, .faults, .power, .perf, .boot, .out] (.all) s (State.bdpExecute s d items).2 := by
  unfold State.bdpExecute
  repeat' ((try with_reducible conv => arg 4; arg 1; whnf); first
    | with_reducible apply Changes.refl
    | dsimp only
    | ((with_reducible show Area.sub _ _ = true); rfl)
    | ((with_reducible apply Entries.le_of_sub); rfl)
    | ((with_reducible apply Entries.le_only); simp; done)
    | intro _
    | with_reducible apply Changes.ite
    | with_reducible apply Changes.ite_snd
    | with_reducible apply Changes.andThen ?_ (State.runItems_changes _ _ _ _ ) ?_ ?_
    | split)

theorem State.bdpRequest_changes (s : State) (x : Session) (d : List Byte) (items : List BdpItem) :
    Changes [.freeN, .blobs, .ctl, .belt, .supplies, .intake, .pipe, .engine, .tracks, .eject, .field, .memory, .knots, .host, .net, .faults, .power, .perf, .boot, .out] (.all) s (State.bdpRequest s x d items).2.2 := by
  unfold State.bdpRequest
  repeat' ((try with_reducible conv => arg 4; arg 1; arg 1; whnf); first
    | with_reducible apply Changes.refl
    | dsimp only
    | ((with_reducible show Area.sub _ _ = true); rfl)
    | ((with_reducible apply Entries.le_of_sub); rfl)
    | ((with_reducible apply Entries.le_only); simp; done)
    | intro _
    | with_reducible apply Changes.ite
    | with_reducible apply Changes.ite_snd
    | with_reducible apply Changes.ite_snd_snd
    | with_reducible apply Changes.andThen ?_ (State.bump_changes _ _ _ ) ?_ ?_
    | with_reducible apply Changes.andThen ?_ (State.bdpExecute_changes _ _ _ ) ?_ ?_
    | split)

theorem State.closeSession_changes (s : State) (n : Nat) :
    Changes [.ctl] (.only []) s (State.closeSession s n) := by
  unfold State.closeSession
  repeat' ((try with_reducible conv => arg 4; whnf); first
    | with_reducible apply Changes.refl
    | ((with_reducible show Area.sub _ _ = true); rfl)
    | ((with_reducible apply Entries.le_of_sub); rfl)
    | ((with_reducible apply Entries.le_only); simp; done)
    | intro _
    | with_reducible apply Changes.andThen ?_ (State.dropSession_changes _ _ ) ?_ ?_
    | ((conv => arg 4; arg 24); with_reducible refine Changes.update ?_))

theorem State.bdpInSession_changes (s : State) (x : Session) (d : List Byte) (items : List BdpItem) :
    Changes [.freeN, .blobs, .ctl, .belt, .supplies, .intake, .pipe, .engine, .tracks, .eject, .field, .memory, .knots, .host, .net, .faults, .power, .perf, .boot, .out] (.all) s (State.bdpInSession s x d items).2 := by
  unfold State.bdpInSession
  repeat' ((try with_reducible conv => arg 4; arg 1; whnf); first
    | with_reducible apply Changes.refl
    | dsimp only
    | ((with_reducible show Area.sub _ _ = true); rfl)
    | ((with_reducible apply Entries.le_of_sub); rfl)
    | ((with_reducible apply Entries.le_only); simp; done)
    | intro _
    | with_reducible apply Changes.ite
    | with_reducible apply Changes.ite_snd
    | with_reducible apply Changes.andThen ?_ (State.bdpRequest_changes _ _ _ _ ) ?_ ?_
    | with_reducible apply Changes.andThen ?_ (State.closeSession_changes _ _ ) ?_ ?_
    | ((conv => arg 4; arg 24); with_reducible refine Changes.update ?_)
    | split)

theorem State.bdpAnswer_changes (s : State) (d : List Byte) :
    Changes [.freeN, .blobs, .ctl, .belt, .supplies, .intake, .pipe, .engine, .tracks, .eject, .field, .memory, .knots, .host, .net, .faults, .power, .perf, .boot, .out] (.all) s (State.bdpAnswer s d).2 := by
  unfold State.bdpAnswer
  repeat' ((try with_reducible conv => arg 4; arg 1; whnf); first
    | with_reducible apply Changes.refl
    | dsimp only
    | ((with_reducible show Area.sub _ _ = true); rfl)
    | ((with_reducible apply Entries.le_of_sub); rfl)
    | ((with_reducible apply Entries.le_only); simp; done)
    | intro _
    | with_reducible apply Changes.ite
    | with_reducible apply Changes.ite_snd
    | with_reducible apply Changes.andThen ?_ (State.bdpOpen_changes _ _ ) ?_ ?_
    | with_reducible apply Changes.andThen ?_ (State.bdpInSession_changes _ _ _ _ ) ?_ ?_
    | split)

theorem State.datagram_changes (s : State) (g : Datagram) :
    Changes [.freeN, .blobs, .ctl, .belt, .supplies, .intake, .pipe, .engine, .tracks, .eject, .field, .memory, .knots, .host, .net, .faults, .power, .perf, .boot, .out] (.all) s (State.datagram s g) := by
  unfold State.datagram
  repeat' ((try with_reducible conv => arg 4; whnf); first
    | with_reducible apply Changes.refl
    | ((with_reducible show Area.sub _ _ = true); rfl)
    | ((with_reducible apply Entries.le_of_sub); rfl)
    | ((with_reducible apply Entries.le_only); simp; done)
    | intro _
    | with_reducible apply Changes.ite
    | with_reducible apply Changes.andThen ?_ (State.bump_changes _ _ _ ) ?_ ?_
    | with_reducible apply Changes.andThen ?_ (State.wake_changes _ _ _ ) ?_ ?_
    | with_reducible apply Changes.andThen ?_ (State.frameIn_changes _ _ _ ) ?_ ?_
    | with_reducible apply Changes.andThen ?_ (State.portBytes_changes _ _ _ _ ) ?_ ?_
    | with_reducible apply Changes.andThen ?_ (State.bdpAnswer_changes _ _ ) ?_ ?_
    | with_reducible apply Changes.andThen ?_ (State.frameDrop_changes _ _ ) ?_ ?_
    | with_reducible apply Changes.andThen ?_ (State.send_changes _ _ ) ?_ ?_
    | split)

theorem State.mbxAnswer_changes (s : State) (port : Nat) (d : List Byte) :
    Changes [.freeN, .blobs, .ctl, .belt, .supplies, .intake, .pipe, .engine, .tracks, .eject, .field, .memory, .knots, .host, .net, .faults, .power, .perf, .boot, .out] (.all) s (State.mbxAnswer s port d).2 := by
  unfold State.mbxAnswer
  repeat' ((try with_reducible conv => arg 4; arg 1; whnf); first
    | with_reducible apply Changes.refl
    | dsimp only
    | ((with_reducible show Area.sub _ _ = true); rfl)
    | ((with_reducible apply Entries.le_of_sub); rfl)
    | ((with_reducible apply Entries.le_only); simp; done)
    | intro _
    | with_reducible apply Changes.ite
    | with_reducible apply Changes.ite_snd
    | with_reducible apply Changes.andThen ?_ (State.bdpRequest_changes _ _ _ _ ) ?_ ?_
    | ((conv => arg 4; arg 24); with_reducible refine Changes.update ?_)
    | split)

theorem State.mailbox_changes (s : State) (port : Nat) (d : List Byte) (intr : Bool) :
    Changes [.freeN, .blobs, .ctl, .belt, .supplies, .intake, .pipe, .engine, .tracks, .eject, .field, .memory, .knots, .host, .net, .faults, .power, .perf, .boot, .out] (.all) s (State.mailbox s port d intr) := by
  unfold State.mailbox
  repeat' ((try with_reducible conv => arg 4; whnf); first
    | with_reducible apply Changes.refl
    | ((with_reducible show Area.sub _ _ = true); rfl)
    | ((with_reducible apply Entries.le_of_sub); rfl)
    | ((with_reducible apply Entries.le_only); simp; done)
    | intro _
    | with_reducible apply Changes.ite
    | with_reducible apply Changes.andThen ?_ (State.setPort_changes _ _ _ ) ?_ ?_
    | with_reducible apply Changes.andThen ?_ (State.mbxAnswer_changes _ _ _ ) ?_ ?_
    | with_reducible apply Changes.andThen ?_ (State.send_changes _ _ ) ?_ ?_
    | split)

theorem State.mbxDoorbell_changes (s : State) (port val : Nat) :
    Changes [.freeN, .blobs, .ctl, .belt, .supplies, .intake, .pipe, .engine, .tracks, .eject, .field, .memory, .knots, .host, .net, .faults, .power, .perf, .boot, .out] (.all) s (State.mbxDoorbell s port val) := by
  unfold State.mbxDoorbell
  repeat' ((try with_reducible conv => arg 4; whnf); first
    | with_reducible apply Changes.refl
    | ((with_reducible show Area.sub _ _ = true); rfl)
    | ((with_reducible apply Entries.le_of_sub); rfl)
    | ((with_reducible apply Entries.le_only); simp; done)
    | intro _
    | with_reducible apply Changes.ite
    | with_reducible apply Changes.andThen ?_ (State.mailbox_changes _ _ _ _ ) ?_ ?_
    | with_reducible apply Changes.andThen ?_ (State.wake_changes _ _ _ ) ?_ ?_
    | with_reducible apply Changes.andThen ?_ (State.hwinError_changes _ _ _ _ _ ) ?_ ?_
    | split)

theorem execHwinMbxDoorbell_changes (port val : Nat) (s : State) {u : State} (h : execHwinMbxDoorbell port val s = .next u) :
    Changes [.freeN, .blobs, .ctl, .belt, .supplies, .intake, .pipe, .engine, .tracks, .eject, .field, .memory, .knots, .host, .net, .faults, .power, .perf, .boot, .out] (.all) s u := by
  unfold execHwinMbxDoorbell at h
  refine State.inWindow_changes ?_ ?_ ?_ h
  repeat' ((try with_reducible conv => arg 4; whnf); first
    | with_reducible apply Changes.refl
    | ((with_reducible show Area.sub _ _ = true); rfl)
    | ((with_reducible apply Entries.le_of_sub); rfl)
    | ((with_reducible apply Entries.le_only); simp; done)
    | intro _
    | with_reducible apply Changes.andThen ?_ (State.mbxDoorbell_changes _ _ _ ) ?_ ?_)

theorem execBdpOpcodeUnknown_changes (d : Datagram) (s : State) {u : State} (h : execBdpOpcodeUnknown d s = .next u) :
    Changes [.freeN, .blobs, .ctl, .belt, .supplies, .intake, .pipe, .engine, .tracks, .eject, .field, .memory, .knots, .host, .net, .faults, .power, .perf, .boot, .out] (.all) s u := by
  unfold execBdpOpcodeUnknown at h
  refine State.onEth_changes ?_ ?_ ?_ h
  repeat' ((try with_reducible conv => arg 4; whnf); first
    | with_reducible apply Changes.refl
    | ((with_reducible show Area.sub _ _ = true); rfl)
    | ((with_reducible apply Entries.le_of_sub); rfl)
    | ((with_reducible apply Entries.le_only); simp; done)
    | intro _
    | with_reducible apply Changes.andThen ?_ (State.datagram_changes _ _ ) ?_ ?_)

theorem execBdpRead_changes (d : Datagram) (s : State) {u : State} (h : execBdpRead d s = .next u) :
    Changes [.freeN, .blobs, .ctl, .belt, .supplies, .intake, .pipe, .engine, .tracks, .eject, .field, .memory, .knots, .host, .net, .faults, .power, .perf, .boot, .out] (.all) s u := by
  unfold execBdpRead at h
  refine State.onEth_changes ?_ ?_ ?_ h
  repeat' ((try with_reducible conv => arg 4; whnf); first
    | with_reducible apply Changes.refl
    | ((with_reducible show Area.sub _ _ = true); rfl)
    | ((with_reducible apply Entries.le_of_sub); rfl)
    | ((with_reducible apply Entries.le_only); simp; done)
    | intro _
    | with_reducible apply Changes.andThen ?_ (State.datagram_changes _ _ ) ?_ ?_)

theorem execBdpFrameMalformed_changes (d : Datagram) (s : State) {u : State} (h : execBdpFrameMalformed d s = .next u) :
    Changes [.freeN, .blobs, .ctl, .belt, .supplies, .intake, .pipe, .engine, .tracks, .eject, .field, .memory, .knots, .host, .net, .faults, .power, .perf, .boot, .out] (.all) s u := by
  unfold execBdpFrameMalformed at h
  refine State.onEth_changes ?_ ?_ ?_ h
  repeat' ((try with_reducible conv => arg 4; whnf); first
    | with_reducible apply Changes.refl
    | ((with_reducible show Area.sub _ _ = true); rfl)
    | ((with_reducible apply Entries.le_of_sub); rfl)
    | ((with_reducible apply Entries.le_only); simp; done)
    | intro _
    | with_reducible apply Changes.andThen ?_ (State.datagram_changes _ _ ) ?_ ?_)

theorem execBdpWrite_changes (d : Datagram) (s : State) {u : State} (h : execBdpWrite d s = .next u) :
    Changes [.freeN, .blobs, .ctl, .belt, .supplies, .intake, .pipe, .engine, .tracks, .eject, .field, .memory, .knots, .host, .net, .faults, .power, .perf, .boot, .out] (.all) s u := by
  unfold execBdpWrite at h
  refine State.onEth_changes ?_ ?_ ?_ h
  repeat' ((try with_reducible conv => arg 4; whnf); first
    | with_reducible apply Changes.refl
    | ((with_reducible show Area.sub _ _ = true); rfl)
    | ((with_reducible apply Entries.le_of_sub); rfl)
    | ((with_reducible apply Entries.le_only); simp; done)
    | intro _
    | with_reducible apply Changes.andThen ?_ (State.datagram_changes _ _ ) ?_ ?_)

theorem execBdpKeepalive_changes (d : Datagram) (s : State) {u : State} (h : execBdpKeepalive d s = .next u) :
    Changes [.freeN, .blobs, .ctl, .belt, .supplies, .intake, .pipe, .engine, .tracks, .eject, .field, .memory, .knots, .host, .net, .faults, .power, .perf, .boot, .out] (.all) s u := by
  unfold execBdpKeepalive at h
  refine State.onEth_changes ?_ ?_ ?_ h
  repeat' ((try with_reducible conv => arg 4; whnf); first
    | with_reducible apply Changes.refl
    | ((with_reducible show Area.sub _ _ = true); rfl)
    | ((with_reducible apply Entries.le_of_sub); rfl)
    | ((with_reducible apply Entries.le_only); simp; done)
    | intro _
    | with_reducible apply Changes.andThen ?_ (State.datagram_changes _ _ ) ?_ ?_)

theorem execBdpOpen_changes (d : Datagram) (s : State) {u : State} (h : execBdpOpen d s = .next u) :
    Changes [.freeN, .blobs, .ctl, .belt, .supplies, .intake, .pipe, .engine, .tracks, .eject, .field, .memory, .knots, .host, .net, .faults, .power, .perf, .boot, .out] (.all) s u := by
  unfold execBdpOpen at h
  refine State.onEth_changes ?_ ?_ ?_ h
  repeat' ((try with_reducible conv => arg 4; whnf); first
    | with_reducible apply Changes.refl
    | ((with_reducible show Area.sub _ _ = true); rfl)
    | ((with_reducible apply Entries.le_of_sub); rfl)
    | ((with_reducible apply Entries.le_only); simp; done)
    | intro _
    | with_reducible apply Changes.andThen ?_ (State.datagram_changes _ _ ) ?_ ?_)

theorem execGeneralOutputLevel_changes (sess out level : Nat) (s : State) {u : State} (h : execGeneralOutputLevel sess out level s = .next u) :
    Changes [.freeN, .blobs, .ctl, .belt, .supplies, .intake, .pipe, .engine, .tracks, .eject, .field, .memory, .knots, .host, .net, .faults, .power, .perf, .boot, .out] (.all) s u := by
  unfold execGeneralOutputLevel at h
  try (have h := guardUnit_next h)
  try injection h with h
  subst h
  repeat' ((try with_reducible conv => arg 4; whnf); first
    | with_reducible apply Changes.refl
    | ((with_reducible show Area.sub _ _ = true); rfl)
    | ((with_reducible apply Entries.le_of_sub); rfl)
    | ((with_reducible apply Entries.le_only); simp; done)
    | intro _
    | with_reducible apply Changes.andThen ?_ (State.dictWrite_changes _ _ _ _ _ ) ?_ ?_)

theorem execBdpClose_changes (d : Datagram) (s : State) {u : State} (h : execBdpClose d s = .next u) :
    Changes [.freeN, .blobs, .ctl, .belt, .supplies, .intake, .pipe, .engine, .tracks, .eject, .field, .memory, .knots, .host, .net, .faults, .power, .perf, .boot, .out] (.all) s u := by
  unfold execBdpClose at h
  refine State.onEth_changes ?_ ?_ ?_ h
  repeat' ((try with_reducible conv => arg 4; whnf); first
    | with_reducible apply Changes.refl
    | ((with_reducible show Area.sub _ _ = true); rfl)
    | ((with_reducible apply Entries.le_of_sub); rfl)
    | ((with_reducible apply Entries.le_only); simp; done)
    | intro _
    | with_reducible apply Changes.andThen ?_ (State.datagram_changes _ _ ) ?_ ?_)

theorem State.sessionTimeout_changes (s : State) (n : Nat) :
    Changes [.ctl] (.only []) s (State.sessionTimeout s n) := by
  unfold State.sessionTimeout
  repeat' ((try with_reducible conv => arg 4; whnf); first
    | with_reducible apply Changes.refl
    | ((with_reducible show Area.sub _ _ = true); rfl)
    | ((with_reducible apply Entries.le_of_sub); rfl)
    | ((with_reducible apply Entries.le_only); simp; done)
    | intro _
    | with_reducible apply Changes.ite
    | with_reducible apply Changes.andThen ?_ (State.closeSession_changes _ _ ) ?_ ?_
    | split)

theorem execBdpSessionTimeout_changes (num : Nat) (s : State) {u : State} (h : execBdpSessionTimeout num s = .next u) :
    Changes [.ctl] (.only []) s u := by
  unfold execBdpSessionTimeout at h
  try (have h := guardUnit_next h)
  try injection h with h
  subst h
  repeat' ((try with_reducible conv => arg 4; whnf); first
    | with_reducible apply Changes.refl
    | ((with_reducible show Area.sub _ _ = true); rfl)
    | ((with_reducible apply Entries.le_of_sub); rfl)
    | ((with_reducible apply Entries.le_only); simp; done)
    | intro _
    | with_reducible apply Changes.andThen ?_ (State.sessionTimeout_changes _ _ ) ?_ ?_)

end Sys2Proof.Machine
end

