-- ==== Sys2Proof/Laws/FrameJpeg.lean ====
section
/-! SUPPORT. What each operation of Machine/Jpeg.lean changes and what it leaves unchanged. -/

-- one theorem after another: see NOTES.md
set_option Elab.async false

namespace Sys2Proof.Machine

theorem State.setDecode_changes (s : State) (c : Nat) (l : List DecReq) :
    Changes [.pipe] (.only []) s (State.setDecode s c l) := by
  unfold State.setDecode
  repeat' ((try with_reducible conv => arg 4; whnf); first
    | with_reducible apply Changes.refl
    | ((conv => arg 4; arg 24); with_reducible refine Changes.update ?_))

theorem State.nextTurn_changes (s : State) (c : Nat) :
    Changes [.pipe] (.only []) s (State.nextTurn s c) := by
  unfold State.nextTurn
  repeat' ((try with_reducible conv => arg 4; whnf); first
    | with_reducible apply Changes.refl
    | ((conv => arg 4; arg 24); with_reducible refine Changes.update ?_))

theorem State.pruneDecodes_changes (s : State) :
    Changes [.pipe] (.only []) s (State.pruneDecodes s) := by
  unfold State.pruneDecodes
  repeat' ((try with_reducible conv => arg 4; whnf); first
    | with_reducible apply Changes.refl
    | ((conv => arg 4; arg 24); with_reducible refine Changes.update ?_))

theorem State.decodeSwitch_changes (s : State) :
    Changes [.pipe] (.only []) s (State.decodeSwitch s) := by
  unfold State.decodeSwitch
  repeat' ((try with_reducible conv => arg 4; whnf); first
    | with_reducible apply Changes.refl
    | ((with_reducible show Area.sub _ _ = true); rfl)
    | ((with_reducible apply Entries.le_of_sub); rfl)
    | ((with_reducible apply Entries.le_only); simp; done)
    | intro _
    | with_reducible apply Changes.andThen ?_ (State.setDecode_changes _ _ _ ) ?_ ?_
    | with_reducible apply Changes.andThen ?_ (State.nextTurn_changes _ _ ) ?_ ?_
    | with_reducible apply Changes.andThen ?_ (State.pruneDecodes_changes _ ) ?_ ?_
    | split)

theorem State.placeImage_changes (s : State) (r : DecReq) (d : List Byte) :
    Changes [.freeN, .engine, .memory, .host, .perf, .out] (.only [0x1205, K.recordsUnrouted]) s (State.placeImage s r d) := by
  unfold State.placeImage
  repeat' ((try with_reducible conv => arg 4; whnf); first
    | with_reducible apply Changes.refl
    | ((with_reducible show Area.sub _ _ = true); rfl)
    | ((with_reducible apply Entries.le_of_sub); rfl)
    | ((with_reducible apply Entries.le_only); simp; done)
    | intro _
    | with_reducible apply Changes.ite
    | with_reducible apply Changes.andThen ?_ (State.land_changes _ _ _ _ _ _ ) ?_ ?_
    | with_reducible apply Changes.andThen ?_ (State.portBytes_changes _ _ _ _ ) ?_ ?_
    | with_reducible apply Changes.andThen ?_ (State.countStore_changes _ _ _ _ _ _ ) ?_ ?_
    | with_reducible apply Changes.andThen ?_ (State.hostWrite_changes _ _ _ _ ) ?_ ?_
    | split)

theorem State.decodeFails_changes (s : State) (r : DecReq) (status : Nat) :
    Changes [.freeN, .engine, .memory, .host, .perf, .out] (.only [0x1205, K.decodesRejected, K.decodesAbandoned, K.commandsCompleted, K.recordsUnrouted]) s (State.decodeFails s r status) := by
  unfold State.decodeFails
  repeat' ((try with_reducible conv => arg 4; whnf); first
    | with_reducible apply Changes.refl
    | ((with_reducible show Area.sub _ _ = true); rfl)
    | ((with_reducible apply Entries.le_of_sub); rfl)
    | ((with_reducible apply Entries.le_only); simp; done)
    | intro _
    | with_reducible apply Changes.ite
    | with_reducible apply Changes.andThen ?_ (State.bump_changes _ _ _ ) ?_ ?_
    | with_reducible apply Changes.andThen ?_ (State.finishCmd_changes _ _ _ _ _ ) ?_ ?_
    | with_reducible apply Changes.andThen ?_ (State.placeImage_changes _ _ _ ) ?_ ?_
    | with_reducible apply Changes.andThen ?_ (State.takeFree_changes _ ) ?_ ?_
    | split)

theorem State.decodeRejected_changes (s : State) (r : DecReq) (cause : Nat) :
    Changes [.freeN, .engine, .memory, .host, .perf, .out] (.only [0x1205, K.decodesRejected, K.decodesAbandoned, K.lastRejectCause, K.commandsCompleted, K.recordsUnrouted]) s (State.decodeRejected s r cause) := by
  unfold State.decodeRejected
  repeat' ((try with_reducible conv => arg 4; whnf); first
    | with_reducible apply Changes.refl
    | ((with_reducible show Area.sub _ _ = true); rfl)
    | ((with_reducible apply Entries.le_of_sub); rfl)
    | ((with_reducible apply Entries.le_only); simp; done)
    | intro _
    | with_reducible apply Changes.andThen ?_ (State.setReg_changes _ _ _ ) ?_ ?_
    | with_reducible apply Changes.andThen ?_ (State.decodeFails_changes _ _ _ ) ?_ ?_)

theorem State.jpegDecode_changes (s : State) (ring : Nat) (c : RingCmd) (data : List Byte) :
    Changes [.freeN, .pipe, .engine, .memory, .host, .perf, .out] (.only [0x1205, K.decodesRejected, K.decodesAbandoned, K.lastRejectCause, K.commandsCompleted, K.recordsUnrouted]) s (State.jpegDecode s ring c data) := by
  unfold State.jpegDecode
  repeat' ((try with_reducible conv => arg 4; whnf); first
    | with_reducible apply Changes.refl
    | ((with_reducible show Area.sub _ _ = true); rfl)
    | ((with_reducible apply Entries.le_of_sub); rfl)
    | ((with_reducible apply Entries.le_only); simp; done)
    | intro _
    | with_reducible apply Changes.ite
    | with_reducible apply Changes.andThen ?_ (State.portBytes_changes _ _ _ _ ) ?_ ?_
    | with_reducible apply Changes.andThen ?_ (State.startCmd_changes _ _ _ ) ?_ ?_
    | with_reducible apply Changes.andThen ?_ (State.finishCmd_changes _ _ _ _ _ ) ?_ ?_
    | with_reducible apply Changes.andThen ?_ (State.decodeRejected_changes _ _ _ ) ?_ ?_
    | ((conv => arg 4; arg 24); with_reducible refine Changes.update ?_)
    | split)

theorem State.decodeDone_changes (s : State) :
    Changes [.freeN, .pipe, .engine, .memory, .host, .perf, .out] (.only [0x1205, K.decodesCompleted, K.decodesRejected, K.decodesAbandoned, K.lastRejectCause, K.commandsCompleted, K.recordsUnrouted]) s (State.decodeDone s) := by
  unfold State.decodeDone
  repeat' ((try with_reducible conv => arg 4; whnf); first
    | with_reducible apply Changes.refl
    | ((with_reducible show Area.sub _ _ = true); rfl)
    | ((with_reducible apply Entries.le_of_sub); rfl)
    | ((with_reducible apply Entries.le_only); simp; done)
    | intro _
    | with_reducible apply Changes.ite
    | with_reducible apply Changes.andThen ?_ (State.bump_changes _ _ _ ) ?_ ?_
    | with_reducible apply Changes.andThen ?_ (State.setDecode_changes _ _ _ ) ?_ ?_
    | with_reducible apply Changes.andThen ?_ (State.nextTurn_changes _ _ ) ?_ ?_
    | with_reducible apply Changes.andThen ?_ (State.finishCmd_changes _ _ _ _ _ ) ?_ ?_
    | with_reducible apply Changes.andThen ?_ (State.pruneDecodes_changes _ ) ?_ ?_
    | with_reducible apply Changes.andThen ?_ (State.decodeFails_changes _ _ _ ) ?_ ?_
    | with_reducible apply Changes.andThen ?_ (State.placeImage_changes _ _ _ ) ?_ ?_
    | with_reducible apply Changes.andThen ?_ (State.decodeRejected_changes _ _ _ ) ?_ ?_
    | split)

theorem execJpegDecodeDone_changes (s : State) {u : State} (h : execJpegDecodeDone s = .next u) :
    Changes [.freeN, .pipe, .engine, .memory, .host, .perf, .out] (.only [0x1205, K.decodesCompleted, K.decodesRejected, K.decodesAbandoned, K.lastRejectCause, K.commandsCompleted, K.recordsUnrouted]) s u := by
  unfold execJpegDecodeDone at h
  try (have h := guardUnit_next h)
  try injection h with h
  subst h
  repeat' ((try with_reducible conv => arg 4; whnf); first
    | with_reducible apply Changes.refl
    | ((with_reducible show Area.sub _ _ = true); rfl)
    | ((with_reducible apply Entries.le_of_sub); rfl)
    | ((with_reducible apply Entries.le_only); simp; done)
    | intro _
    | with_reducible apply Changes.andThen ?_ (State.decodeDone_changes _ ) ?_ ?_)

theorem execDecodeContextSwitch_changes (s : State) {u : State} (h : execDecodeContextSwitch s = .next u) :
    Changes [.pipe] (.only []) s u := by
  unfold execDecodeContextSwitch at h
  try (have h := guardUnit_next h)
  try injection h with h
  subst h
  repeat' ((try with_reducible conv => arg 4; whnf); first
    | with_reducible apply Changes.refl
    | ((with_reducible show Area.sub _ _ = true); rfl)
    | ((with_reducible apply Entries.le_of_sub); rfl)
    | ((with_reducible apply Entries.le_only); simp; done)
    | intro _
    | with_reducible apply Changes.andThen ?_ (State.decodeSwitch_changes _ ) ?_ ?_)

theorem execJpegDecode_changes (ring : Nat) (data : List Byte) (s : State) {u : State} (h : execJpegDecode ring data s = .next u) :
    Changes [.freeN, .pipe, .engine, .memory, .host, .perf, .out] (.only [0x1205, K.decodesRejected, K.decodesAbandoned, K.lastRejectCause, K.commandsCompleted, K.recordsUnrouted]) s u := by
  unfold execJpegDecode at h
  refine State.ringRow_changes ?_ ?_ ?_ h
  repeat' ((try with_reducible conv => arg 4; whnf); first
    | with_reducible apply Changes.refl
    | ((with_reducible show Area.sub _ _ = true); rfl)
    | ((with_reducible apply Entries.le_of_sub); rfl)
    | ((with_reducible apply Entries.le_only); simp; done)
    | intro _
    | with_reducible apply Changes.ite
    | with_reducible apply Changes.andThen ?_ (State.jpegDecode_changes _ _ _ _ ) ?_ ?_
    | split)

theorem State.decodeAbandon_changes (s : State) :
    Changes [.freeN, .pipe, .engine, .memory, .host, .perf, .out] (.only [0x1205, K.decodesRejected, K.decodesAbandoned, K.commandsCompleted, K.recordsUnrouted]) s (State.decodeAbandon s) := by
  unfold State.decodeAbandon
  repeat' ((try with_reducible conv => arg 4; whnf); first
    | with_reducible apply Changes.refl
    | ((with_reducible show Area.sub _ _ = true); rfl)
    | ((with_reducible apply Entries.le_of_sub); rfl)
    | ((with_reducible apply Entries.le_only); simp; done)
    | intro _
    | with_reducible apply Changes.andThen ?_ (State.setDecode_changes _ _ _ ) ?_ ?_
    | with_reducible apply Changes.andThen ?_ (State.pruneDecodes_changes _ ) ?_ ?_
    | with_reducible apply Changes.andThen ?_ (State.decodeFails_changes _ _ _ ) ?_ ?_
    | split)

theorem execJpegDecodeAbandoned_changes (s : State) {u : State} (h : execJpegDecodeAbandoned s = .next u) :
    Changes [.freeN, .pipe, .engine, .memory, .host, .perf, .out] (.only [0x1205, K.decodesRejected, K.decodesAbandoned, K.commandsCompleted, K.recordsUnrouted]) s u := by
  unfold execJpegDecodeAbandoned at h
  try (have h := guardUnit_next h)
  try injection h with h
  subst h
  repeat' ((try with_reducible conv => arg 4; whnf); first
    | with_reducible apply Changes.refl
    | ((with_reducible show Area.sub _ _ = true); rfl)
    | ((with_reducible apply Entries.le_of_sub); rfl)
    | ((with_reducible apply Entries.le_only); simp; done)
    | intro _
    | with_reducible apply Changes.andThen ?_ (State.decodeAbandon_changes _ ) ?_ ?_)

theorem State.deliverImage_changes (s : State) (fire : Nat) (d : List Byte) :
    Changes [.host, .perf, .out] (.only [0x1205, K.imagesDropped, K.recordsUnrouted]) s (State.deliverImage s fire d) := by
  unfold State.deliverImage
  repeat' ((try with_reducible conv => arg 4; whnf); first
    | with_reducible apply Changes.refl
    | ((with_reducible show Area.sub _ _ = true); rfl)
    | ((with_reducible apply Entries.le_of_sub); rfl)
    | ((with_reducible apply Entries.le_only); simp; done)
    | intro _
    | with_reducible apply Changes.ite
    | with_reducible apply Changes.andThen ?_ (State.bump_changes _ _ _ ) ?_ ?_
    | with_reducible apply Changes.andThen ?_ (State.setPort_changes _ _ _ ) ?_ ?_
    | with_reducible apply Changes.andThen ?_ (State.hostWrite_changes _ _ _ _ ) ?_ ?_
    | with_reducible apply Changes.andThen ?_ (State.emit_changes _ _ ) ?_ ?_
    | split)

theorem State.encodeDone_changes (s : State) :
    Changes [.pipe, .host, .perf, .out] (.only [0x1205, K.encodesCompleted, K.encodesSkipped, K.imagesDropped, K.recordsUnrouted]) s (State.encodeDone s) := by
  unfold State.encodeDone
  repeat' ((try with_reducible conv => arg 4; whnf); first
    | with_reducible apply Changes.refl
    | ((with_reducible show Area.sub _ _ = true); rfl)
    | ((with_reducible apply Entries.le_of_sub); rfl)
    | ((with_reducible apply Entries.le_only); simp; done)
    | intro _
    | with_reducible apply Changes.andThen ?_ (State.bump_changes _ _ _ ) ?_ ?_
    | with_reducible apply Changes.andThen ?_ (State.deliverImage_changes _ _ _ ) ?_ ?_
    | ((conv => arg 4; arg 24); with_reducible refine Changes.update ?_)
    | split)

theorem execJpegEncodeDone_changes (s : State) {u : State} (h : execJpegEncodeDone s = .next u) :
    Changes [.pipe, .host, .perf, .out] (.only [0x1205, K.encodesCompleted, K.encodesSkipped, K.imagesDropped, K.recordsUnrouted]) s u := by
  unfold execJpegEncodeDone at h
  try (have h := guardUnit_next h)
  try injection h with h
  subst h
  repeat' ((try with_reducible conv => arg 4; whnf); first
    | with_reducible apply Changes.refl
    | ((with_reducible show Area.sub _ _ = true); rfl)
    | ((with_reducible apply Entries.le_of_sub); rfl)
    | ((with_reducible apply Entries.le_only); simp; done)
    | intro _
    | with_reducible apply Changes.andThen ?_ (State.encodeDone_changes _ ) ?_ ?_)

end Sys2Proof.Machine
end

