-- ==== Sys2Proof/Laws/FrameTick.lean ====
section
/-! SUPPORT. What each operation of Machine/Tick.lean changes and what it leaves unchanged. -/

-- one theorem after another: see NOTES.md
set_option Elab.async false

namespace Sys2Proof.Machine

theorem State.fastTick_changes (s : State) (c : Nat) :
    Changes [.belt, .field] (.only [0x0E08, 0x0E0C]) s (State.fastTick s c) := by
  unfold State.fastTick
  repeat' ((try with_reducible conv => arg 4; whnf); first
    | with_reducible apply Changes.refl
    | ((with_reducible show Area.sub _ _ = true); rfl)
    | ((with_reducible apply Entries.le_of_sub); rfl)
    | ((with_reducible apply Entries.le_only); simp; done)
    | intro _
    | with_reducible apply Changes.ite
    | with_reducible apply Changes.andThen ?_ (State.setReg_changes _ _ _ ) ?_ ?_
    | with_reducible apply Changes.andThen ?_ (State.bump_changes _ _ _ ) ?_ ?_
    | ((conv => arg 4; arg 24); with_reducible refine Changes.update ?_)
    | split)

theorem State.valvePass_changes (s : State) (prev : Nat) :
    Changes [.eject, .field, .host, .perf, .out] (.only [0x0F10, 0x1205, K.pulsesPending, K.pulsesPeak, K.channelsOn, K.pulsesMerged, K.pulsesInterrupted, K.pulsesMissed, K.outputNotDriven, K.fireEdgesMeasured, K.fireEdgesOutside, K.fireErrorMin, K.fireErrorMax, K.recordsUnrouted]) s (State.valvePass s prev) := by
  unfold State.valvePass
  repeat' ((try with_reducible conv => arg 4; whnf); first
    | with_reducible apply Changes.refl
    | ((with_reducible show Area.sub _ _ = true); rfl)
    | ((with_reducible apply Entries.le_of_sub); rfl)
    | ((with_reducible apply Entries.le_only); simp; done)
    | intro _
    | with_reducible apply Changes.ite
    | with_reducible apply Changes.foldl
    | with_reducible apply Changes.andThen ?_ (State.tickChan_changes _ _ ) ?_ ?_
    | with_reducible apply Changes.andThen ?_ (State.channelsOff_changes _ ) ?_ ?_
    | with_reducible apply Changes.andThen ?_ (State.tallyPulses_changes _ ) ?_ ?_
    | with_reducible apply Changes.andThen ?_ (State.refPass_changes _ _ ) ?_ ?_
    | with_reducible apply Changes.andThen ?_ (State.armPass_changes _ _ ) ?_ ?_
    | split)

theorem State.teardownPass_changes (s : State) :
    Changes [.engine, .host, .faults, .perf, .out] (.only [0x1205, 0x1703, K.commandsCompleted, K.recordsUnrouted, K.faultLogOverwritten, K.samplesTaken]) s (State.teardownPass s) := by
  unfold State.teardownPass
  repeat' ((try with_reducible conv => arg 4; whnf); first
    | with_reducible apply Changes.refl
    | ((with_reducible show Area.sub _ _ = true); rfl)
    | ((with_reducible apply Entries.le_of_sub); rfl)
    | ((with_reducible apply Entries.le_only); simp; done)
    | intro _
    | with_reducible apply Changes.ite
    | with_reducible apply Changes.foldl
    | with_reducible apply Changes.andThen ?_ (State.finishTeardownWork_changes _ _ ) ?_ ?_
    | with_reducible apply Changes.andThen ?_ (State.writeSample_changes _ _ ) ?_ ?_
    | split)

theorem State.restEnd_changes (s : State) (o : Nat) :
    Changes [.field] (.only []) s (State.restEnd s o) := by
  unfold State.restEnd
  repeat' ((try with_reducible conv => arg 4; whnf); first
    | with_reducible apply Changes.refl
    | ((with_reducible show Area.sub _ _ = true); rfl)
    | ((with_reducible apply Entries.le_of_sub); rfl)
    | ((with_reducible apply Entries.le_only); simp; done)
    | intro _
    | with_reducible apply Changes.ite
    | with_reducible apply Changes.andThen ?_ (State.cmdOut_changes _ _ _ ) ?_ ?_
    | with_reducible apply Changes.andThen ?_ (State.setOut_changes _ _ _ ) ?_ ?_
    | split)

theorem State.beginStripe_changes (s : State) (j : Nat) :
    Changes [.belt, .pipe, .tracks, .faults] (.only [K.fallbackOrigin]) s (State.beginStripe s j) := by
  unfold State.beginStripe
  repeat' ((try with_reducible conv => arg 4; whnf); first
    | with_reducible apply Changes.refl
    | ((with_reducible show Area.sub _ _ = true); rfl)
    | ((with_reducible apply Entries.le_of_sub); rfl)
    | ((with_reducible apply Entries.le_only); simp; done)
    | intro _
    | with_reducible apply Changes.ite
    | with_reducible apply Changes.foldl
    | with_reducible apply Changes.andThen ?_ (State.setReg_changes _ _ _ ) ?_ ?_
    | with_reducible apply Changes.andThen ?_ (State.setStripe_changes _ _ ) ?_ ?_
    | ((conv => arg 4; arg 24); with_reducible refine Changes.update ?_)
    | split)

theorem State.beginTo_changes (s : State) (j : Nat) :
    Changes [.belt, .pipe, .tracks, .faults] (.only [K.fallbackOrigin]) s (State.beginTo s j) := by
  unfold State.beginTo
  repeat' ((try with_reducible conv => arg 4; whnf); first
    | with_reducible apply Changes.refl
    | ((with_reducible show Area.sub _ _ = true); rfl)
    | ((with_reducible apply Entries.le_of_sub); rfl)
    | ((with_reducible apply Entries.le_only); simp; done)
    | intro _
    | with_reducible apply Changes.foldl
    | with_reducible apply Changes.andThen ?_ (State.beginStripe_changes _ _ ) ?_ ?_)

theorem State.lineDue_changes (s : State) (i n : Nat) (last : Bool) :
    Changes [.belt, .intake, .pipe, .tracks, .faults] (.only [0x0208, 0x0509, 0x050B, 0x050D, K.suppressedTriggers, K.fallbackOrigin]) s (State.lineDue s i n last) := by
  unfold State.lineDue
  repeat' ((try with_reducible conv => arg 4; whnf); first
    | with_reducible apply Changes.refl
    | ((with_reducible show Area.sub _ _ = true); rfl)
    | ((with_reducible apply Entries.le_of_sub); rfl)
    | ((with_reducible apply Entries.le_only); simp; done)
    | intro _
    | with_reducible apply Changes.ite
    | with_reducible apply Changes.andThen ?_ (State.setReg_changes _ _ _ ) ?_ ?_
    | with_reducible apply Changes.andThen ?_ (State.bump_changes _ _ _ ) ?_ ?_
    | with_reducible apply Changes.andThen ?_ (State.beginTo_changes _ _ ) ?_ ?_
    | with_reducible apply Changes.andThen ?_ (State.triggerLine_changes _ _ _ ) ?_ ?_
    | with_reducible apply Changes.andThen ?_ (State.markMissing_changes _ _ _ _ _ ) ?_ ?_
    | ((conv => arg 4; arg 24); with_reducible refine Changes.update ?_)
    | split)

theorem State.triggerStream_changes (s : State) (i : Nat) :
    Changes [.belt, .intake, .pipe, .tracks, .faults] (.only [0x0208, 0x0509, 0x050B, 0x050D, K.suppressedTriggers, K.fallbackOrigin]) s (State.triggerStream s i) := by
  unfold State.triggerStream
  repeat' ((try with_reducible conv => arg 4; whnf); first
    | with_reducible apply Changes.refl
    | ((with_reducible show Area.sub _ _ = true); rfl)
    | ((with_reducible apply Entries.le_of_sub); rfl)
    | ((with_reducible apply Entries.le_only); simp; done)
    | intro _
    | with_reducible apply Changes.ite
    | with_reducible apply Changes.foldl
    | with_reducible apply Changes.andThen ?_ (State.lineDue_changes _ _ _ _ ) ?_ ?_
    | split)

theorem State.freeStripes_changes (s : State) :
    Changes [.belt, .pipe, .tracks, .faults] (.only [K.currentStripe, K.fallbackOrigin]) s (State.freeStripes s) := by
  unfold State.freeStripes
  repeat' ((try with_reducible conv => arg 4; whnf); first
    | with_reducible apply Changes.refl
    | ((with_reducible show Area.sub _ _ = true); rfl)
    | ((with_reducible apply Entries.le_of_sub); rfl)
    | ((with_reducible apply Entries.le_only); simp; done)
    | intro _
    | with_reducible apply Changes.ite
    | with_reducible apply Changes.andThen ?_ (State.setReg_changes _ _ _ ) ?_ ?_
    | with_reducible apply Changes.andThen ?_ (State.beginTo_changes _ _ ) ?_ ?_
    | ((conv => arg 4; arg 24); with_reducible refine Changes.update ?_)
    | split)

theorem State.triggerPass_changes (s : State) :
    Changes [.freeN, .blobs, .ctl, .belt, .intake, .pipe, .engine, .tracks, .eject, .field, .memory, .knots, .host, .net, .faults, .power, .perf, .out] (.all) s (State.triggerPass s) := by
  unfold State.triggerPass
  repeat' ((try with_reducible conv => arg 4; whnf); first
    | with_reducible apply Changes.refl
    | ((with_reducible show Area.sub _ _ = true); rfl)
    | ((with_reducible apply Entries.le_of_sub); rfl)
    | ((with_reducible apply Entries.le_only); simp; done)
    | intro _
    | with_reducible apply Changes.ite
    | with_reducible apply Changes.foldl
    | with_reducible apply Changes.andThen ?_ (State.triggerStream_changes _ _ ) ?_ ?_
    | with_reducible apply Changes.andThen ?_ (State.freeStripes_changes _ ) ?_ ?_
    | with_reducible apply Changes.andThen ?_ (State.commitIfDue_changes _ ) ?_ ?_
    | split)

theorem State.runTick_changes (s : State) :
    Changes [.freeN, .blobs, .ctl, .belt, .intake, .pipe, .engine, .tracks, .eject, .field, .memory, .knots, .host, .net, .faults, .power, .perf, .out] (.all) s (State.runTick s) := by
  unfold State.runTick
  repeat' ((try with_reducible conv => arg 4; whnf); first
    | with_reducible apply Changes.refl
    | ((with_reducible show Area.sub _ _ = true); rfl)
    | ((with_reducible apply Entries.le_of_sub); rfl)
    | ((with_reducible apply Entries.le_only); simp; done)
    | intro _
    | with_reducible apply Changes.foldl
    | with_reducible apply Changes.andThen ?_ (State.closePass_changes _ ) ?_ ?_
    | with_reducible apply Changes.andThen ?_ (State.valvePass_changes _ _ ) ?_ ?_
    | with_reducible apply Changes.andThen ?_ (State.gapPass_changes _ ) ?_ ?_
    | with_reducible apply Changes.andThen ?_ (State.teardownPass_changes _ ) ?_ ?_
    | with_reducible apply Changes.andThen ?_ (State.endActions_changes _ ) ?_ ?_
    | with_reducible apply Changes.andThen ?_ (State.fastTick_changes _ _ ) ?_ ?_
    | with_reducible apply Changes.andThen ?_ (State.formIbp_changes _ ) ?_ ?_
    | with_reducible apply Changes.andThen ?_ (State.tryForm_changes _ ) ?_ ?_
    | with_reducible apply Changes.andThen ?_ (State.restEnd_changes _ _ ) ?_ ?_
    | with_reducible apply Changes.andThen ?_ (State.triggerPass_changes _ ) ?_ ?_
    | with_reducible apply Changes.andThen ?_ (State.pruneLines_changes _ _ ) ?_ ?_)

theorem State.tclkTick_changes (s : State) :
    Changes [.tick, .freeN, .blobs, .ctl, .belt, .intake, .pipe, .engine, .tracks, .eject, .field, .memory, .knots, .host, .net, .faults, .power, .perf, .out] (.all) s (State.tclkTick s) := by
  unfold State.tclkTick
  repeat' ((try with_reducible conv => arg 4; whnf); first
    | with_reducible apply Changes.refl
    | ((with_reducible show Area.sub _ _ = true); rfl)
    | ((with_reducible apply Entries.le_of_sub); rfl)
    | ((with_reducible apply Entries.le_only); simp; done)
    | intro _
    | with_reducible apply Changes.ite
    | with_reducible apply Changes.andThen ?_ (State.runTick_changes _ ) ?_ ?_
    | with_reducible apply Changes.andThen ?_ (State.nextTick_changes _ ) ?_ ?_
    | ((conv => arg 4; arg 24); with_reducible refine Changes.update ?_)
    | split)

theorem execTclkTick_changes (s : State) {u : State} (h : execTclkTick s = .next u) :
    Changes [.tick, .freeN, .blobs, .ctl, .belt, .intake, .pipe, .engine, .tracks, .eject, .field, .memory, .knots, .host, .net, .faults, .power, .perf, .out] (.all) s u := by
  unfold execTclkTick at h
  try (have h := guardUnit_next h)
  try injection h with h
  subst h
  repeat' ((try with_reducible conv => arg 4; whnf); first
    | with_reducible apply Changes.refl
    | ((with_reducible show Area.sub _ _ = true); rfl)
    | ((with_reducible apply Entries.le_of_sub); rfl)
    | ((with_reducible apply Entries.le_only); simp; done)
    | intro _
    | with_reducible apply Changes.andThen ?_ (State.tclkTick_changes _ ) ?_ ?_)

end Sys2Proof.Machine
end

