-- ==== Sys2Proof/Laws/FrameValveLinks.lean ====
section
/-! SUPPORT. What each operation of Machine/ValveLinks.lean changes and what it leaves unchanged. -/

-- one theorem after another: see NOTES.md
set_option Elab.async false

namespace Sys2Proof.Machine

theorem State.vlGained_changes (s : State) (p : Nat) :
    Changes [.field] (.only [0x0F10]) s (State.vlGained s p) := by
  unfold State.vlGained
  repeat' ((try with_reducible conv => arg 4; whnf); first
    | with_reducible apply Changes.refl
    | ((with_reducible show Area.sub _ _ = true); rfl)
    | ((with_reducible apply Entries.le_of_sub); rfl)
    | ((with_reducible apply Entries.le_only); simp; done)
    | intro _
    | with_reducible apply Changes.ite
    | with_reducible apply Changes.andThen ?_ (State.setVl_changes _ _ _ ) ?_ ?_
    | split)

theorem execValveLinkLockGained_changes (port : Nat) (s : State) {u : State} (h : execValveLinkLockGained port s = .next u) :
    Changes [.field] (.only [0x0F10]) s u := by
  unfold execValveLinkLockGained at h
  try (have h := guardUnit_next h)
  try injection h with h
  subst h
  repeat' ((try with_reducible conv => arg 4; whnf); first
    | with_reducible apply Changes.refl
    | ((with_reducible show Area.sub _ _ = true); rfl)
    | ((with_reducible apply Entries.le_of_sub); rfl)
    | ((with_reducible apply Entries.le_only); simp; done)
    | intro _
    | with_reducible apply Changes.andThen ?_ (State.vlGained_changes _ _ ) ?_ ?_)

theorem State.vlStrobeOut_changes (s : State) (p : Nat) :
    Changes [.field, .out] (.only [0x0F10, 0x0F1D]) s (State.vlStrobeOut s p) := by
  unfold State.vlStrobeOut
  repeat' ((try with_reducible conv => arg 4; whnf); first
    | with_reducible apply Changes.refl
    | ((with_reducible show Area.sub _ _ = true); rfl)
    | ((with_reducible apply Entries.le_of_sub); rfl)
    | ((with_reducible apply Entries.le_only); simp; done)
    | intro _
    | with_reducible apply Changes.ite
    | with_reducible apply Changes.andThen ?_ (State.bump_changes _ _ _ ) ?_ ?_
    | with_reducible apply Changes.andThen ?_ (State.setVl_changes _ _ _ ) ?_ ?_
    | with_reducible apply Changes.andThen ?_ (State.send_changes _ _ ) ?_ ?_
    | split)

theorem State.vlEcho_changes (s : State) (p : Nat) :
    Changes [.field, .out] (.only [0x0F10]) s (State.vlEcho s p) := by
  unfold State.vlEcho
  repeat' ((try with_reducible conv => arg 4; whnf); first
    | with_reducible apply Changes.refl
    | ((with_reducible show Area.sub _ _ = true); rfl)
    | ((with_reducible apply Entries.le_of_sub); rfl)
    | ((with_reducible apply Entries.le_only); simp; done)
    | intro _
    | with_reducible apply Changes.ite
    | with_reducible apply Changes.andThen ?_ (State.setVl_changes _ _ _ ) ?_ ?_
    | with_reducible apply Changes.andThen ?_ (State.send_changes _ _ ) ?_ ?_
    | split)

theorem State.vlRemeasure_changes (s : State) (p : Nat) :
    Changes [.field, .out] (.only [0x0F10]) s (State.vlRemeasure s p) := by
  unfold State.vlRemeasure
  repeat' ((try with_reducible conv => arg 4; whnf); first
    | with_reducible apply Changes.refl
    | ((with_reducible show Area.sub _ _ = true); rfl)
    | ((with_reducible apply Entries.le_of_sub); rfl)
    | ((with_reducible apply Entries.le_only); simp; done)
    | intro _
    | with_reducible apply Changes.ite
    | with_reducible apply Changes.andThen ?_ (State.setVl_changes _ _ _ ) ?_ ?_
    | with_reducible apply Changes.andThen ?_ (State.vlEcho_changes _ _ ) ?_ ?_
    | split)

theorem execCableDelayRemeasure_changes (port : Nat) (s : State) {u : State} (h : execCableDelayRemeasure port s = .next u) :
    Changes [.field, .out] (.only [0x0F10]) s u := by
  unfold execCableDelayRemeasure at h
  try (have h := guardUnit_next h)
  try injection h with h
  subst h
  repeat' ((try with_reducible conv => arg 4; whnf); first
    | with_reducible apply Changes.refl
    | ((with_reducible show Area.sub _ _ = true); rfl)
    | ((with_reducible apply Entries.le_of_sub); rfl)
    | ((with_reducible apply Entries.le_only); simp; done)
    | intro _
    | with_reducible apply Changes.andThen ?_ (State.vlRemeasure_changes _ _ ) ?_ ?_)

theorem State.vlMeasured_changes (s : State) (p : Nat) :
    Changes [.field, .out] (.only [0x0F10, 0x0F11, 0x0F13]) s (State.vlMeasured s p) := by
  unfold State.vlMeasured
  repeat' ((try with_reducible conv => arg 4; whnf); first
    | with_reducible apply Changes.refl
    | ((with_reducible show Area.sub _ _ = true); rfl)
    | ((with_reducible apply Entries.le_of_sub); rfl)
    | ((with_reducible apply Entries.le_only); simp; done)
    | intro _
    | with_reducible apply Changes.ite
    | with_reducible apply Changes.foldl
    | with_reducible apply Changes.andThen ?_ (State.setReg_changes _ _ _ ) ?_ ?_
    | with_reducible apply Changes.andThen ?_ (State.setVl_changes _ _ _ ) ?_ ?_
    | with_reducible apply Changes.andThen ?_ (State.vlFail_changes _ _ _ ) ?_ ?_
    | with_reducible apply Changes.andThen ?_ (State.armPass_changes _ _ ) ?_ ?_
    | split)

theorem State.vlTurnaround_changes (s : State) (p turn : Nat) :
    Changes [.field, .out] (.only [0x0F10, 0x0F11, 0x0F13]) s (State.vlTurnaround s p turn) := by
  unfold State.vlTurnaround
  repeat' ((try with_reducible conv => arg 4; whnf); first
    | with_reducible apply Changes.refl
    | ((with_reducible show Area.sub _ _ = true); rfl)
    | ((with_reducible apply Entries.le_of_sub); rfl)
    | ((with_reducible apply Entries.le_only); simp; done)
    | intro _
    | with_reducible apply Changes.ite
    | with_reducible apply Changes.andThen ?_ (State.setVl_changes _ _ _ ) ?_ ?_
    | with_reducible apply Changes.andThen ?_ (State.vlMeasured_changes _ _ ) ?_ ?_
    | with_reducible apply Changes.andThen ?_ (State.vlEcho_changes _ _ ) ?_ ?_
    | split)

theorem State.vlStatus_changes (s : State) (p : Nat) (d : List Byte) :
    Changes [.field, .out] (.only [0x0F10, 0x0F11, 0x0F13, 0x0F1C]) s (State.vlStatus s p d) := by
  unfold State.vlStatus
  repeat' ((try with_reducible conv => arg 4; whnf); first
    | with_reducible apply Changes.refl
    | ((with_reducible show Area.sub _ _ = true); rfl)
    | ((with_reducible apply Entries.le_of_sub); rfl)
    | ((with_reducible apply Entries.le_only); simp; done)
    | intro _
    | with_reducible apply Changes.ite
    | with_reducible apply Changes.andThen ?_ (State.bump_changes _ _ _ ) ?_ ?_
    | with_reducible apply Changes.andThen ?_ (State.setVl_changes _ _ _ ) ?_ ?_
    | with_reducible apply Changes.andThen ?_ (State.vlTurnaround_changes _ _ _ ) ?_ ?_
    | split)

theorem State.vlDiscard_changes (s : State) (p : Nat) (f : VlFrame) :
    Changes [] (.only [0x0F18, 0x0F19]) s (State.vlDiscard s p f) := by
  unfold State.vlDiscard
  repeat' ((try with_reducible conv => arg 4; whnf); first
    | with_reducible apply Changes.refl
    | ((with_reducible show Area.sub _ _ = true); rfl)
    | ((with_reducible apply Entries.le_of_sub); rfl)
    | ((with_reducible apply Entries.le_only); simp; done)
    | intro _
    | with_reducible apply Changes.andThen ?_ (State.bump_changes _ _ _ ) ?_ ?_)

theorem State.vlTake_changes {G : List Area} {E : Entries} (s : State) (p : Nat) (f : VlFrame) (typ : Nat) (len : Nat → Bool) (body : State → State)
    (hf : ∀ s, Changes G E s (body s)) (hG : Area.sub [] G = true) (hE : Entries.le (.only [0x0F18, 0x0F19]) E) :
    Changes G E s (State.vlTake s p f typ len body) := by
  unfold State.vlTake
  repeat' ((try with_reducible conv => arg 4; whnf); first
    | with_reducible apply Changes.refl
    | ((with_reducible show Area.sub _ _ = true); rfl)
    | ((with_reducible apply Entries.le_of_sub); rfl)
    | ((with_reducible apply Entries.le_only); simp; done)
    | exact Area.sub_trans rfl hG
    | exact Entries.le_trans (Entries.le_of_sub rfl) hE
    | exact Entries.le_trans (Entries.le_only (by simp)) hE
    | intro _
    | with_reducible apply Changes.ite
    | with_reducible apply Changes.ite_snd
    | with_reducible apply Changes.ite_fst
    | with_reducible apply Changes.ite_snd_snd
    | with_reducible apply Changes.foldl
    | with_reducible apply Changes.foldl_snd
    | with_reducible apply Changes.foldl_fst
    | (with_reducible apply Changes.trans ?_ (hf _))
    | with_reducible apply Changes.andThen ?_ (State.vlDiscard_changes _ _ _ ) ?_ ?_
    | ((conv => arg 4; arg 24); with_reducible refine Changes.update ?_)
    | split
    | with_reducible refine Changes.of_snd (by assumption) ?_)

theorem execValveLinkStatus_changes (port : Nat) (f : VlFrame) (s : State) {u : State} (h : execValveLinkStatus port f s = .next u) :
    Changes [.field, .out] (.only [0x0F10, 0x0F11, 0x0F13, 0x0F18, 0x0F19, 0x0F1C]) s u := by
  unfold execValveLinkStatus at h
  try (have h := guardUnit_next h)
  try injection h with h
  subst h
  repeat' ((try with_reducible conv => arg 4; whnf); first
    | with_reducible apply Changes.refl
    | ((with_reducible show Area.sub _ _ = true); rfl)
    | ((with_reducible apply Entries.le_of_sub); rfl)
    | ((with_reducible apply Entries.le_only); simp; done)
    | intro _
    | with_reducible apply Changes.andThen ?_ (State.vlStatus_changes _ _ _ ) ?_ ?_
    | with_reducible apply Changes.trans ?_ (State.vlTake_changes _ _ _ _ _ _  ?_ ?_ ?_))

theorem execStrobe_changes (port : Nat) (s : State) {u : State} (h : execStrobe port s = .next u) :
    Changes [.field, .out] (.only [0x0F10, 0x0F1D]) s u := by
  unfold execStrobe at h
  try (have h := guardUnit_next h)
  try injection h with h
  subst h
  repeat' ((try with_reducible conv => arg 4; whnf); first
    | with_reducible apply Changes.refl
    | ((with_reducible show Area.sub _ _ = true); rfl)
    | ((with_reducible apply Entries.le_of_sub); rfl)
    | ((with_reducible apply Entries.le_only); simp; done)
    | intro _
    | with_reducible apply Changes.andThen ?_ (State.vlStrobeOut_changes _ _ ) ?_ ?_)

theorem State.vlFaultFrame_changes (s : State) (p : Nat) (d : List Byte) :
    Changes [.freeN, .host, .faults, .perf, .out] (.only [0x1205, 0x1402, 0x1703, K.recordsUnrouted, K.faultLogOverwritten, K.faultRecordsSuppressed]) s (State.vlFaultFrame s p d) := by
  unfold State.vlFaultFrame
  repeat' ((try with_reducible conv => arg 4; whnf); first
    | with_reducible apply Changes.refl
    | ((with_reducible show Area.sub _ _ = true); rfl)
    | ((with_reducible apply Entries.le_of_sub); rfl)
    | ((with_reducible apply Entries.le_only); simp; done)
    | intro _
    | with_reducible apply Changes.andThen ?_ (State.report_changes _ _ _ _ _ _ _ ) ?_ ?_
    | split)

theorem execDriverFault_changes (port : Nat) (f : VlFrame) (s : State) {u : State} (h : execDriverFault port f s = .next u) :
    Changes [.freeN, .host, .faults, .perf, .out] (.only [0x0F18, 0x0F19, 0x1205, 0x1402, 0x1703, K.recordsUnrouted, K.faultLogOverwritten, K.faultRecordsSuppressed]) s u := by
  unfold execDriverFault at h
  try (have h := guardUnit_next h)
  try injection h with h
  subst h
  repeat' ((try with_reducible conv => arg 4; whnf); first
    | with_reducible apply Changes.refl
    | ((with_reducible show Area.sub _ _ = true); rfl)
    | ((with_reducible apply Entries.le_of_sub); rfl)
    | ((with_reducible apply Entries.le_only); simp; done)
    | intro _
    | with_reducible apply Changes.andThen ?_ (State.vlFaultFrame_changes _ _ _ ) ?_ ?_
    | with_reducible apply Changes.trans ?_ (State.vlTake_changes _ _ _ _ _ _  ?_ ?_ ?_))

theorem State.vlResend_changes (s : State) (p : Nat) :
    Changes [.field, .out] (.only [0x0F10, 0x0F1B]) s (State.vlResend s p) := by
  unfold State.vlResend
  repeat' ((try with_reducible conv => arg 4; whnf); first
    | with_reducible apply Changes.refl
    | ((with_reducible show Area.sub _ _ = true); rfl)
    | ((with_reducible apply Entries.le_of_sub); rfl)
    | ((with_reducible apply Entries.le_only); simp; done)
    | intro _
    | with_reducible apply Changes.ite
    | with_reducible apply Changes.foldl
    | with_reducible apply Changes.andThen ?_ (State.bump_changes _ _ _ ) ?_ ?_
    | with_reducible apply Changes.andThen ?_ (State.vlFrame_changes _ _ _ _ _ ) ?_ ?_
    | with_reducible apply Changes.andThen ?_ (State.setVl_changes _ _ _ ) ?_ ?_
    | split)

theorem execControlFrameRetransmit_changes (port : Nat) (s : State) {u : State} (h : execControlFrameRetransmit port s = .next u) :
    Changes [.field, .out] (.only [0x0F10, 0x0F1B]) s u := by
  unfold execControlFrameRetransmit at h
  try (have h := guardUnit_next h)
  try injection h with h
  subst h
  repeat' ((try with_reducible conv => arg 4; whnf); first
    | with_reducible apply Changes.refl
    | ((with_reducible show Area.sub _ _ = true); rfl)
    | ((with_reducible apply Entries.le_of_sub); rfl)
    | ((with_reducible apply Entries.le_only); simp; done)
    | intro _
    | with_reducible apply Changes.andThen ?_ (State.vlResend_changes _ _ ) ?_ ?_)

theorem State.vlIdentTimeout_changes (s : State) (p : Nat) :
    Changes [.field] (.only [0x0F10, 0x0F11]) s (State.vlIdentTimeout s p) := by
  unfold State.vlIdentTimeout
  repeat' ((try with_reducible conv => arg 4; whnf); first
    | with_reducible apply Changes.refl
    | ((with_reducible show Area.sub _ _ = true); rfl)
    | ((with_reducible apply Entries.le_of_sub); rfl)
    | ((with_reducible apply Entries.le_only); simp; done)
    | intro _
    | with_reducible apply Changes.ite
    | with_reducible apply Changes.andThen ?_ (State.vlFail_changes _ _ _ ) ?_ ?_
    | split)

theorem execIdentTimeout_changes (port : Nat) (s : State) {u : State} (h : execIdentTimeout port s = .next u) :
    Changes [.field] (.only [0x0F10, 0x0F11]) s u := by
  unfold execIdentTimeout at h
  try (have h := guardUnit_next h)
  try injection h with h
  subst h
  repeat' ((try with_reducible conv => arg 4; whnf); first
    | with_reducible apply Changes.refl
    | ((with_reducible show Area.sub _ _ = true); rfl)
    | ((with_reducible apply Entries.le_of_sub); rfl)
    | ((with_reducible apply Entries.le_only); simp; done)
    | intro _
    | with_reducible apply Changes.andThen ?_ (State.vlIdentTimeout_changes _ _ ) ?_ ?_)

theorem State.vlStatusTimeout_changes (s : State) (p : Nat) :
    Changes [.freeN, .field, .host, .faults, .perf, .out] (.only [0x0F10, 0x0F1A, 0x1205, 0x1402, 0x1703, K.recordsUnrouted, K.faultLogOverwritten, K.faultRecordsSuppressed]) s (State.vlStatusTimeout s p) := by
  unfold State.vlStatusTimeout
  repeat' ((try with_reducible conv => arg 4; whnf); first
    | with_reducible apply Changes.refl
    | ((with_reducible show Area.sub _ _ = true); rfl)
    | ((with_reducible apply Entries.le_of_sub); rfl)
    | ((with_reducible apply Entries.le_only); simp; done)
    | intro _
    | with_reducible apply Changes.ite
    | with_reducible apply Changes.andThen ?_ (State.vlLose_changes _ _ ) ?_ ?_
    | split)

theorem execStatusTimeout_changes (port : Nat) (s : State) {u : State} (h : execStatusTimeout port s = .next u) :
    Changes [.freeN, .field, .host, .faults, .perf, .out] (.only [0x0F10, 0x0F1A, 0x1205, 0x1402, 0x1703, K.recordsUnrouted, K.faultLogOverwritten, K.faultRecordsSuppressed]) s u := by
  unfold execStatusTimeout at h
  try (have h := guardUnit_next h)
  try injection h with h
  subst h
  repeat' ((try with_reducible conv => arg 4; whnf); first
    | with_reducible apply Changes.refl
    | ((with_reducible show Area.sub _ _ = true); rfl)
    | ((with_reducible apply Entries.le_of_sub); rfl)
    | ((with_reducible apply Entries.le_only); simp; done)
    | intro _
    | with_reducible apply Changes.andThen ?_ (State.vlStatusTimeout_changes _ _ ) ?_ ?_)

theorem State.vlTestSend_changes (s : State) (p : Nat) :
    Changes [.field, .out] (.only [0x0F10]) s (State.vlTestSend s p) := by
  unfold State.vlTestSend
  repeat' ((try with_reducible conv => arg 4; whnf); first
    | with_reducible apply Changes.refl
    | ((with_reducible show Area.sub _ _ = true); rfl)
    | ((with_reducible apply Entries.le_of_sub); rfl)
    | ((with_reducible apply Entries.le_only); simp; done)
    | intro _
    | with_reducible apply Changes.ite
    | with_reducible apply Changes.andThen ?_ (State.vlFrame_changes _ _ _ _ _ ) ?_ ?_
    | with_reducible apply Changes.andThen ?_ (State.setVl_changes _ _ _ ) ?_ ?_
    | split)

theorem execTestFrameSend_changes (port : Nat) (s : State) {u : State} (h : execTestFrameSend port s = .next u) :
    Changes [.field, .out] (.only [0x0F10]) s u := by
  unfold execTestFrameSend at h
  try (have h := guardUnit_next h)
  try injection h with h
  subst h
  repeat' ((try with_reducible conv => arg 4; whnf); first
    | with_reducible apply Changes.refl
    | ((with_reducible show Area.sub _ _ = true); rfl)
    | ((with_reducible apply Entries.le_of_sub); rfl)
    | ((with_reducible apply Entries.le_only); simp; done)
    | intro _
    | with_reducible apply Changes.andThen ?_ (State.vlTestSend_changes _ _ ) ?_ ?_)

theorem State.vlIdent_changes (s : State) (p : Nat) (d : List Byte) :
    Changes [.blobs, .field, .out] (.only [0x0F10, 0x0F11]) s (State.vlIdent s p d) := by
  unfold State.vlIdent
  repeat' ((try with_reducible conv => arg 4; whnf); first
    | with_reducible apply Changes.refl
    | ((with_reducible show Area.sub _ _ = true); rfl)
    | ((with_reducible apply Entries.le_of_sub); rfl)
    | ((with_reducible apply Entries.le_only); simp; done)
    | intro _
    | with_reducible apply Changes.ite
    | with_reducible apply Changes.andThen ?_ (State.setBlob_changes _ _ _ ) ?_ ?_
    | with_reducible apply Changes.andThen ?_ (State.setVl_changes _ _ _ ) ?_ ?_
    | with_reducible apply Changes.andThen ?_ (State.vlFail_changes _ _ _ ) ?_ ?_
    | with_reducible apply Changes.andThen ?_ (State.armPass_changes _ _ ) ?_ ?_
    | with_reducible apply Changes.andThen ?_ (State.vlEcho_changes _ _ ) ?_ ?_
    | split)

theorem execValveLinkIdent_changes (port : Nat) (f : VlFrame) (s : State) {u : State} (h : execValveLinkIdent port f s = .next u) :
    Changes [.blobs, .field, .out] (.only [0x0F10, 0x0F11, 0x0F18, 0x0F19]) s u := by
  unfold execValveLinkIdent at h
  try (have h := guardUnit_next h)
  try injection h with h
  subst h
  repeat' ((try with_reducible conv => arg 4; whnf); first
    | with_reducible apply Changes.refl
    | ((with_reducible show Area.sub _ _ = true); rfl)
    | ((with_reducible apply Entries.le_of_sub); rfl)
    | ((with_reducible apply Entries.le_only); simp; done)
    | intro _
    | with_reducible apply Changes.andThen ?_ (State.vlIdent_changes _ _ _ ) ?_ ?_
    | with_reducible apply Changes.trans ?_ (State.vlTake_changes _ _ _ _ _ _  ?_ ?_ ?_))

theorem State.vlLockLost_changes (s : State) (p : Nat) :
    Changes [.freeN, .field, .host, .faults, .perf, .out] (.only [0x0F10, 0x0F1A, 0x1205, 0x1402, 0x1703, K.recordsUnrouted, K.faultLogOverwritten, K.faultRecordsSuppressed]) s (State.vlLockLost s p) := by
  unfold State.vlLockLost
  repeat' ((try with_reducible conv => arg 4; whnf); first
    | with_reducible apply Changes.refl
    | ((with_reducible show Area.sub _ _ = true); rfl)
    | ((with_reducible apply Entries.le_of_sub); rfl)
    | ((with_reducible apply Entries.le_only); simp; done)
    | intro _
    | with_reducible apply Changes.ite
    | with_reducible apply Changes.andThen ?_ (State.vlLose_changes _ _ ) ?_ ?_
    | with_reducible apply Changes.andThen ?_ (State.setVl_changes _ _ _ ) ?_ ?_
    | split)

theorem execValveLinkLockLost_changes (port : Nat) (s : State) {u : State} (h : execValveLinkLockLost port s = .next u) :
    Changes [.freeN, .field, .host, .faults, .perf, .out] (.only [0x0F10, 0x0F1A, 0x1205, 0x1402, 0x1703, K.recordsUnrouted, K.faultLogOverwritten, K.faultRecordsSuppressed]) s u := by
  unfold execValveLinkLockLost at h
  try (have h := guardUnit_next h)
  try injection h with h
  subst h
  repeat' ((try with_reducible conv => arg 4; whnf); first
    | with_reducible apply Changes.refl
    | ((with_reducible show Area.sub _ _ = true); rfl)
    | ((with_reducible apply Entries.le_of_sub); rfl)
    | ((with_reducible apply Entries.le_only); simp; done)
    | intro _
    | with_reducible apply Changes.andThen ?_ (State.vlLockLost_changes _ _ ) ?_ ?_)

theorem State.vlRetry_changes (s : State) (p : Nat) :
    Changes [.field] (.only [0x0F10]) s (State.vlRetry s p) := by
  unfold State.vlRetry
  repeat' ((try with_reducible conv => arg 4; whnf); first
    | with_reducible apply Changes.refl
    | ((with_reducible show Area.sub _ _ = true); rfl)
    | ((with_reducible apply Entries.le_of_sub); rfl)
    | ((with_reducible apply Entries.le_only); simp; done)
    | intro _
    | with_reducible apply Changes.ite
    | with_reducible apply Changes.andThen ?_ (State.setVl_changes _ _ _ ) ?_ ?_
    | split)

theorem execValveLinkBringupRetry_changes (port : Nat) (s : State) {u : State} (h : execValveLinkBringupRetry port s = .next u) :
    Changes [.field] (.only [0x0F10]) s u := by
  unfold execValveLinkBringupRetry at h
  try (have h := guardUnit_next h)
  try injection h with h
  subst h
  repeat' ((try with_reducible conv => arg 4; whnf); first
    | with_reducible apply Changes.refl
    | ((with_reducible show Area.sub _ _ = true); rfl)
    | ((with_reducible apply Entries.le_of_sub); rfl)
    | ((with_reducible apply Entries.le_only); simp; done)
    | intro _
    | with_reducible apply Changes.andThen ?_ (State.vlRetry_changes _ _ ) ?_ ?_)

theorem execValveLinkFrameDiscarded_changes (port : Nat) (f : VlFrame) (s : State) {u : State} (h : execValveLinkFrameDiscarded port f s = .next u) :
    Changes [] (.only [0x0F18, 0x0F19]) s u := by
  unfold execValveLinkFrameDiscarded at h
  try (have h := guardUnit_next h)
  try injection h with h
  subst h
  repeat' ((try with_reducible conv => arg 4; whnf); first
    | with_reducible apply Changes.refl
    | ((with_reducible show Area.sub _ _ = true); rfl)
    | ((with_reducible apply Entries.le_of_sub); rfl)
    | ((with_reducible apply Entries.le_only); simp; done)
    | intro _
    | with_reducible apply Changes.ite
    | with_reducible apply Changes.andThen ?_ (State.vlDiscard_changes _ _ _ ) ?_ ?_
    | split)

theorem State.vlKeepalive_changes (s : State) (p : Nat) :
    Changes [.field, .out] (.only [0x0F10]) s (State.vlKeepalive s p) := by
  unfold State.vlKeepalive
  repeat' ((try with_reducible conv => arg 4; whnf); first
    | with_reducible apply Changes.refl
    | ((with_reducible show Area.sub _ _ = true); rfl)
    | ((with_reducible apply Entries.le_of_sub); rfl)
    | ((with_reducible apply Entries.le_only); simp; done)
    | intro _
    | with_reducible apply Changes.ite
    | with_reducible apply Changes.andThen ?_ (State.vlFrame_changes _ _ _ _ _ ) ?_ ?_
    | with_reducible apply Changes.andThen ?_ (State.setVl_changes _ _ _ ) ?_ ?_
    | split)

theorem execValveLinkKeepalive_changes (port : Nat) (s : State) {u : State} (h : execValveLinkKeepalive port s = .next u) :
    Changes [.field, .out] (.only [0x0F10]) s u := by
  unfold execValveLinkKeepalive at h
  try (have h := guardUnit_next h)
  try injection h with h
  subst h
  repeat' ((try with_reducible conv => arg 4; whnf); first
    | with_reducible apply Changes.refl
    | ((with_reducible show Area.sub _ _ = true); rfl)
    | ((with_reducible apply Entries.le_of_sub); rfl)
    | ((with_reducible apply Entries.le_only); simp; done)
    | intro _
    | with_reducible apply Changes.andThen ?_ (State.vlKeepalive_changes _ _ ) ?_ ?_)

theorem State.vlEchoBack_changes (s : State) (p : Nat) :
    Changes [.field] (.only [0x0F10]) s (State.vlEchoBack s p) := by
  unfold State.vlEchoBack
  repeat' ((try with_reducible conv => arg 4; whnf); first
    | with_reducible apply Changes.refl
    | ((with_reducible show Area.sub _ _ = true); rfl)
    | ((with_reducible apply Entries.le_of_sub); rfl)
    | ((with_reducible apply Entries.le_only); simp; done)
    | intro _
    | with_reducible apply Changes.andThen ?_ (State.setVl_changes _ _ _ ) ?_ ?_
    | split)

theorem execValveLinkEcho_changes (port : Nat) (s : State) {u : State} (h : execValveLinkEcho port s = .next u) :
    Changes [.field] (.only [0x0F10]) s u := by
  unfold execValveLinkEcho at h
  try (have h := guardUnit_next h)
  try injection h with h
  subst h
  repeat' ((try with_reducible conv => arg 4; whnf); first
    | with_reducible apply Changes.refl
    | ((with_reducible show Area.sub _ _ = true); rfl)
    | ((with_reducible apply Entries.le_of_sub); rfl)
    | ((with_reducible apply Entries.le_only); simp; done)
    | intro _
    | with_reducible apply Changes.andThen ?_ (State.vlEchoBack_changes _ _ ) ?_ ?_)

theorem State.vlStamps_changes (s : State) (p : Nat) (d : List Byte) :
    Changes [.eject] (.only [K.fireEdgesMeasured, K.fireEdgesOutside, K.fireErrorMin, K.fireErrorMax]) s (State.vlStamps s p d) := by
  unfold State.vlStamps
  repeat' ((try with_reducible conv => arg 4; whnf); first
    | with_reducible apply Changes.refl
    | ((with_reducible show Area.sub _ _ = true); rfl)
    | ((with_reducible apply Entries.le_of_sub); rfl)
    | ((with_reducible apply Entries.le_only); simp; done)
    | intro _
    | with_reducible apply Changes.foldl
    | with_reducible apply Changes.andThen ?_ (State.stampEdge_changes _ _ _ _ ) ?_ ?_
    | split)

theorem execEdgeStamp_changes (port : Nat) (f : VlFrame) (s : State) {u : State} (h : execEdgeStamp port f s = .next u) :
    Changes [.eject] (.only [0x0F18, 0x0F19, K.fireEdgesMeasured, K.fireEdgesOutside, K.fireErrorMin, K.fireErrorMax]) s u := by
  unfold execEdgeStamp at h
  try (have h := guardUnit_next h)
  try injection h with h
  subst h
  repeat' ((try with_reducible conv => arg 4; whnf); first
    | with_reducible apply Changes.refl
    | ((with_reducible show Area.sub _ _ = true); rfl)
    | ((with_reducible apply Entries.le_of_sub); rfl)
    | ((with_reducible apply Entries.le_only); simp; done)
    | intro _
    | with_reducible apply Changes.andThen ?_ (State.vlStamps_changes _ _ _ ) ?_ ?_
    | with_reducible apply Changes.trans ?_ (State.vlTake_changes _ _ _ _ _ _  ?_ ?_ ?_))

theorem State.vlTestEcho_changes (s : State) (p : Nat) (d : List Byte) :
    Changes [] (.only [0x0F17]) s (State.vlTestEcho s p d) := by
  unfold State.vlTestEcho
  repeat' ((try with_reducible conv => arg 4; whnf); first
    | with_reducible apply Changes.refl
    | ((with_reducible show Area.sub _ _ = true); rfl)
    | ((with_reducible apply Entries.le_of_sub); rfl)
    | ((with_reducible apply Entries.le_only); simp; done)
    | intro _
    | with_reducible apply Changes.ite
    | with_reducible apply Changes.andThen ?_ (State.bump_changes _ _ _ ) ?_ ?_
    | split)

theorem execTestEcho_changes (port : Nat) (f : VlFrame) (s : State) {u : State} (h : execTestEcho port f s = .next u) :
    Changes [] (.only [0x0F17, 0x0F18, 0x0F19]) s u := by
  unfold execTestEcho at h
  try (have h := guardUnit_next h)
  try injection h with h
  subst h
  repeat' ((try with_reducible conv => arg 4; whnf); first
    | with_reducible apply Changes.refl
    | ((with_reducible show Area.sub _ _ = true); rfl)
    | ((with_reducible apply Entries.le_of_sub); rfl)
    | ((with_reducible apply Entries.le_only); simp; done)
    | intro _
    | with_reducible apply Changes.andThen ?_ (State.vlTestEcho_changes _ _ _ ) ?_ ?_
    | with_reducible apply Changes.trans ?_ (State.vlTake_changes _ _ _ _ _ _  ?_ ?_ ?_))

end Sys2Proof.Machine
end

