-- ==== Sys2Proof/Laws/State.lean ====
section
/-! SUPPORT. What the shared operations leave unchanged, area by area and entry by entry, as rewriting laws: a read of an
area or of an entry that an operation does not write goes past it. The setters' own fields stand in Laws/Reads.lean. -/

-- one theorem after another: see NOTES.md
set_option Elab.async false

namespace Sys2Proof.Machine

@[simp] theorem State.setReg_same (s : State) (k v : Nat) :
    (State.setReg s k v).mfg = s.mfg ∧ (State.setReg s k v).pending = s.pending ∧ (State.setReg s k v).tick = s.tick ∧ (State.setReg s k v).freeN = s.freeN ∧ (State.setReg s k v).blobs = s.blobs ∧ (State.setReg s k v).ctl = s.ctl ∧ (State.setReg s k v).belt = s.belt ∧ (State.setReg s k v).supplies = s.supplies ∧ (State.setReg s k v).intake = s.intake ∧ (State.setReg s k v).pipe = s.pipe ∧ (State.setReg s k v).engine = s.engine ∧ (State.setReg s k v).tracks = s.tracks ∧ (State.setReg s k v).eject = s.eject ∧ (State.setReg s k v).field = s.field ∧ (State.setReg s k v).memory = s.memory ∧ (State.setReg s k v).knots = s.knots ∧ (State.setReg s k v).host = s.host ∧ (State.setReg s k v).net = s.net ∧ (State.setReg s k v).faults = s.faults ∧ (State.setReg s k v).power = s.power ∧ (State.setReg s k v).perf = s.perf ∧ (State.setReg s k v).boot = s.boot ∧ (State.setReg s k v).out = s.out :=
  have h := State.setReg_changes s k v
  ⟨h.mfg, h.pending, h.areas .tick rfl, h.areas .freeN rfl, h.areas .blobs rfl, h.areas .ctl rfl, h.areas .belt rfl, h.areas .supplies rfl, h.areas .intake rfl, h.areas .pipe rfl, h.areas .engine rfl, h.areas .tracks rfl, h.areas .eject rfl, h.areas .field rfl, h.areas .memory rfl, h.areas .knots rfl, h.areas .host rfl, h.areas .net rfl, h.areas .faults rfl, h.areas .power rfl, h.areas .perf rfl, h.areas .boot rfl, h.areas .out rfl⟩

@[simp] theorem State.setStream_same (s : State) (i : Nat) (x : Stream) :
    (State.setStream s i x).mfg = s.mfg ∧ (State.setStream s i x).pending = s.pending ∧ (State.setStream s i x).tick = s.tick ∧ (State.setStream s i x).freeN = s.freeN ∧ (State.setStream s i x).blobs = s.blobs ∧ (State.setStream s i x).ctl = s.ctl ∧ (State.setStream s i x).belt = s.belt ∧ (State.setStream s i x).supplies = s.supplies ∧ (State.setStream s i x).pipe = s.pipe ∧ (State.setStream s i x).engine = s.engine ∧ (State.setStream s i x).tracks = s.tracks ∧ (State.setStream s i x).eject = s.eject ∧ (State.setStream s i x).field = s.field ∧ (State.setStream s i x).memory = s.memory ∧ (State.setStream s i x).knots = s.knots ∧ (State.setStream s i x).host = s.host ∧ (State.setStream s i x).net = s.net ∧ (State.setStream s i x).faults = s.faults ∧ (State.setStream s i x).power = s.power ∧ (State.setStream s i x).perf = s.perf ∧ (State.setStream s i x).boot = s.boot ∧ (State.setStream s i x).out = s.out :=
  have h := State.setStream_changes s i x
  ⟨h.mfg, h.pending, h.areas .tick rfl, h.areas .freeN rfl, h.areas .blobs rfl, h.areas .ctl rfl, h.areas .belt rfl, h.areas .supplies rfl, h.areas .pipe rfl, h.areas .engine rfl, h.areas .tracks rfl, h.areas .eject rfl, h.areas .field rfl, h.areas .memory rfl, h.areas .knots rfl, h.areas .host rfl, h.areas .net rfl, h.areas .faults rfl, h.areas .power rfl, h.areas .perf rfl, h.areas .boot rfl, h.areas .out rfl⟩

@[simp] theorem State.setStream_reg (s : State) (i : Nat) (x : Stream) (j : Nat) (h : (Entries.only [0x0509]).has j = false) : (State.setStream s i x).reg j = s.reg j :=
  (State.setStream_changes s i x).entries j h

@[simp] theorem State.pruneLines_same (s : State) (i : Nat) :
    (State.pruneLines s i).mfg = s.mfg ∧ (State.pruneLines s i).pending = s.pending ∧ (State.pruneLines s i).tick = s.tick ∧ (State.pruneLines s i).freeN = s.freeN ∧ (State.pruneLines s i).blobs = s.blobs ∧ (State.pruneLines s i).ctl = s.ctl ∧ (State.pruneLines s i).belt = s.belt ∧ (State.pruneLines s i).supplies = s.supplies ∧ (State.pruneLines s i).pipe = s.pipe ∧ (State.pruneLines s i).engine = s.engine ∧ (State.pruneLines s i).tracks = s.tracks ∧ (State.pruneLines s i).eject = s.eject ∧ (State.pruneLines s i).field = s.field ∧ (State.pruneLines s i).memory = s.memory ∧ (State.pruneLines s i).knots = s.knots ∧ (State.pruneLines s i).host = s.host ∧ (State.pruneLines s i).net = s.net ∧ (State.pruneLines s i).faults = s.faults ∧ (State.pruneLines s i).power = s.power ∧ (State.pruneLines s i).perf = s.perf ∧ (State.pruneLines s i).boot = s.boot ∧ (State.pruneLines s i).out = s.out :=
  have h := State.pruneLines_changes s i
  ⟨h.mfg, h.pending, h.areas .tick rfl, h.areas .freeN rfl, h.areas .blobs rfl, h.areas .ctl rfl, h.areas .belt rfl, h.areas .supplies rfl, h.areas .pipe rfl, h.areas .engine rfl, h.areas .tracks rfl, h.areas .eject rfl, h.areas .field rfl, h.areas .memory rfl, h.areas .knots rfl, h.areas .host rfl, h.areas .net rfl, h.areas .faults rfl, h.areas .power rfl, h.areas .perf rfl, h.areas .boot rfl, h.areas .out rfl⟩

@[simp] theorem State.pruneLines_reg (s : State) (i : Nat) (j : Nat) (h : (Entries.only [0x0509]).has j = false) : (State.pruneLines s i).reg j = s.reg j :=
  (State.pruneLines_changes s i).entries j h

@[simp] theorem State.setMlink_same (s : State) (l : Nat) (x : MLink) :
    (State.setMlink s l x).mfg = s.mfg ∧ (State.setMlink s l x).pending = s.pending ∧ (State.setMlink s l x).tick = s.tick ∧ (State.setMlink s l x).freeN = s.freeN ∧ (State.setMlink s l x).blobs = s.blobs ∧ (State.setMlink s l x).ctl = s.ctl ∧ (State.setMlink s l x).belt = s.belt ∧ (State.setMlink s l x).supplies = s.supplies ∧ (State.setMlink s l x).intake = s.intake ∧ (State.setMlink s l x).pipe = s.pipe ∧ (State.setMlink s l x).engine = s.engine ∧ (State.setMlink s l x).tracks = s.tracks ∧ (State.setMlink s l x).eject = s.eject ∧ (State.setMlink s l x).field = s.field ∧ (State.setMlink s l x).knots = s.knots ∧ (State.setMlink s l x).host = s.host ∧ (State.setMlink s l x).net = s.net ∧ (State.setMlink s l x).faults = s.faults ∧ (State.setMlink s l x).power = s.power ∧ (State.setMlink s l x).perf = s.perf ∧ (State.setMlink s l x).boot = s.boot ∧ (State.setMlink s l x).out = s.out :=
  have h := State.setMlink_changes s l x
  ⟨h.mfg, h.pending, h.areas .tick rfl, h.areas .freeN rfl, h.areas .blobs rfl, h.areas .ctl rfl, h.areas .belt rfl, h.areas .supplies rfl, h.areas .intake rfl, h.areas .pipe rfl, h.areas .engine rfl, h.areas .tracks rfl, h.areas .eject rfl, h.areas .field rfl, h.areas .knots rfl, h.areas .host rfl, h.areas .net rfl, h.areas .faults rfl, h.areas .power rfl, h.areas .perf rfl, h.areas .boot rfl, h.areas .out rfl⟩

@[simp] theorem State.setMlink_reg (s : State) (l : Nat) (x : MLink) (k : Nat) : (State.setMlink s l x).reg k = s.reg k :=
  (State.setMlink_changes s l x).entries k (Entries.has_none k)

@[simp] theorem State.noteYoung_same (s : State) (die off n : Nat) :
    (State.noteYoung s die off n).mfg = s.mfg ∧ (State.noteYoung s die off n).pending = s.pending ∧ (State.noteYoung s die off n).tick = s.tick ∧ (State.noteYoung s die off n).freeN = s.freeN ∧ (State.noteYoung s die off n).blobs = s.blobs ∧ (State.noteYoung s die off n).ctl = s.ctl ∧ (State.noteYoung s die off n).belt = s.belt ∧ (State.noteYoung s die off n).supplies = s.supplies ∧ (State.noteYoung s die off n).intake = s.intake ∧ (State.noteYoung s die off n).pipe = s.pipe ∧ (State.noteYoung s die off n).engine = s.engine ∧ (State.noteYoung s die off n).tracks = s.tracks ∧ (State.noteYoung s die off n).eject = s.eject ∧ (State.noteYoung s die off n).field = s.field ∧ (State.noteYoung s die off n).knots = s.knots ∧ (State.noteYoung s die off n).host = s.host ∧ (State.noteYoung s die off n).net = s.net ∧ (State.noteYoung s die off n).faults = s.faults ∧ (State.noteYoung s die off n).power = s.power ∧ (State.noteYoung s die off n).perf = s.perf ∧ (State.noteYoung s die off n).boot = s.boot ∧ (State.noteYoung s die off n).out = s.out :=
  have h := State.noteYoung_changes s die off n
  ⟨h.mfg, h.pending, h.areas .tick rfl, h.areas .freeN rfl, h.areas .blobs rfl, h.areas .ctl rfl, h.areas .belt rfl, h.areas .supplies rfl, h.areas .intake rfl, h.areas .pipe rfl, h.areas .engine rfl, h.areas .tracks rfl, h.areas .eject rfl, h.areas .field rfl, h.areas .knots rfl, h.areas .host rfl, h.areas .net rfl, h.areas .faults rfl, h.areas .power rfl, h.areas .perf rfl, h.areas .boot rfl, h.areas .out rfl⟩

@[simp] theorem State.noteYoung_reg (s : State) (die off n : Nat) (k : Nat) : (State.noteYoung s die off n).reg k = s.reg k :=
  (State.noteYoung_changes s die off n).entries k (Entries.has_none k)

@[simp] theorem State.bump_same (s : State) (k n : Nat) :
    (State.bump s k n).mfg = s.mfg ∧ (State.bump s k n).pending = s.pending ∧ (State.bump s k n).tick = s.tick ∧ (State.bump s k n).freeN = s.freeN ∧ (State.bump s k n).blobs = s.blobs ∧ (State.bump s k n).ctl = s.ctl ∧ (State.bump s k n).belt = s.belt ∧ (State.bump s k n).supplies = s.supplies ∧ (State.bump s k n).intake = s.intake ∧ (State.bump s k n).pipe = s.pipe ∧ (State.bump s k n).engine = s.engine ∧ (State.bump s k n).tracks = s.tracks ∧ (State.bump s k n).eject = s.eject ∧ (State.bump s k n).field = s.field ∧ (State.bump s k n).memory = s.memory ∧ (State.bump s k n).knots = s.knots ∧ (State.bump s k n).host = s.host ∧ (State.bump s k n).net = s.net ∧ (State.bump s k n).faults = s.faults ∧ (State.bump s k n).power = s.power ∧ (State.bump s k n).perf = s.perf ∧ (State.bump s k n).boot = s.boot ∧ (State.bump s k n).out = s.out :=
  have h := State.bump_changes s k n
  ⟨h.mfg, h.pending, h.areas .tick rfl, h.areas .freeN rfl, h.areas .blobs rfl, h.areas .ctl rfl, h.areas .belt rfl, h.areas .supplies rfl, h.areas .intake rfl, h.areas .pipe rfl, h.areas .engine rfl, h.areas .tracks rfl, h.areas .eject rfl, h.areas .field rfl, h.areas .memory rfl, h.areas .knots rfl, h.areas .host rfl, h.areas .net rfl, h.areas .faults rfl, h.areas .power rfl, h.areas .perf rfl, h.areas .boot rfl, h.areas .out rfl⟩

@[simp] theorem State.setQueue_same (s : State) (q : Nat) (e : EvQueue) :
    (State.setQueue s q e).mfg = s.mfg ∧ (State.setQueue s q e).pending = s.pending ∧ (State.setQueue s q e).tick = s.tick ∧ (State.setQueue s q e).freeN = s.freeN ∧ (State.setQueue s q e).blobs = s.blobs ∧ (State.setQueue s q e).ctl = s.ctl ∧ (State.setQueue s q e).belt = s.belt ∧ (State.setQueue s q e).supplies = s.supplies ∧ (State.setQueue s q e).intake = s.intake ∧ (State.setQueue s q e).pipe = s.pipe ∧ (State.setQueue s q e).engine = s.engine ∧ (State.setQueue s q e).tracks = s.tracks ∧ (State.setQueue s q e).eject = s.eject ∧ (State.setQueue s q e).field = s.field ∧ (State.setQueue s q e).memory = s.memory ∧ (State.setQueue s q e).knots = s.knots ∧ (State.setQueue s q e).net = s.net ∧ (State.setQueue s q e).faults = s.faults ∧ (State.setQueue s q e).power = s.power ∧ (State.setQueue s q e).perf = s.perf ∧ (State.setQueue s q e).boot = s.boot ∧ (State.setQueue s q e).out = s.out :=
  have h := State.setQueue_changes s q e
  ⟨h.mfg, h.pending, h.areas .tick rfl, h.areas .freeN rfl, h.areas .blobs rfl, h.areas .ctl rfl, h.areas .belt rfl, h.areas .supplies rfl, h.areas .intake rfl, h.areas .pipe rfl, h.areas .engine rfl, h.areas .tracks rfl, h.areas .eject rfl, h.areas .field rfl, h.areas .memory rfl, h.areas .knots rfl, h.areas .net rfl, h.areas .faults rfl, h.areas .power rfl, h.areas .perf rfl, h.areas .boot rfl, h.areas .out rfl⟩

@[simp] theorem State.setQueue_reg (s : State) (q : Nat) (e : EvQueue) (k : Nat) : (State.setQueue s q e).reg k = s.reg k :=
  (State.setQueue_changes s q e).entries k (Entries.has_none k)

@[simp] theorem State.portBytes_same (s : State) (inward : Bool) (port n : Nat) :
    (State.portBytes s inward port n).mfg = s.mfg ∧ (State.portBytes s inward port n).pending = s.pending ∧ (State.portBytes s inward port n).tick = s.tick ∧ (State.portBytes s inward port n).freeN = s.freeN ∧ (State.portBytes s inward port n).blobs = s.blobs ∧ (State.portBytes s inward port n).ctl = s.ctl ∧ (State.portBytes s inward port n).belt = s.belt ∧ (State.portBytes s inward port n).supplies = s.supplies ∧ (State.portBytes s inward port n).intake = s.intake ∧ (State.portBytes s inward port n).pipe = s.pipe ∧ (State.portBytes s inward port n).engine = s.engine ∧ (State.portBytes s inward port n).tracks = s.tracks ∧ (State.portBytes s inward port n).eject = s.eject ∧ (State.portBytes s inward port n).field = s.field ∧ (State.portBytes s inward port n).memory = s.memory ∧ (State.portBytes s inward port n).knots = s.knots ∧ (State.portBytes s inward port n).host = s.host ∧ (State.portBytes s inward port n).net = s.net ∧ (State.portBytes s inward port n).faults = s.faults ∧ (State.portBytes s inward port n).power = s.power ∧ (State.portBytes s inward port n).boot = s.boot ∧ (State.portBytes s inward port n).out = s.out :=
  have h := State.portBytes_changes s inward port n
  ⟨h.mfg, h.pending, h.areas .tick rfl, h.areas .freeN rfl, h.areas .blobs rfl, h.areas .ctl rfl, h.areas .belt rfl, h.areas .supplies rfl, h.areas .intake rfl, h.areas .pipe rfl, h.areas .engine rfl, h.areas .tracks rfl, h.areas .eject rfl, h.areas .field rfl, h.areas .memory rfl, h.areas .knots rfl, h.areas .host rfl, h.areas .net rfl, h.areas .faults rfl, h.areas .power rfl, h.areas .boot rfl, h.areas .out rfl⟩

@[simp] theorem State.portBytes_reg (s : State) (inward : Bool) (port n : Nat) (k : Nat) : (State.portBytes s inward port n).reg k = s.reg k :=
  (State.portBytes_changes s inward port n).entries k (Entries.has_none k)

@[simp] theorem State.send_same (s : State) (o : Output) :
    (State.send s o).mfg = s.mfg ∧ (State.send s o).pending = s.pending ∧ (State.send s o).tick = s.tick ∧ (State.send s o).freeN = s.freeN ∧ (State.send s o).blobs = s.blobs ∧ (State.send s o).ctl = s.ctl ∧ (State.send s o).belt = s.belt ∧ (State.send s o).supplies = s.supplies ∧ (State.send s o).intake = s.intake ∧ (State.send s o).pipe = s.pipe ∧ (State.send s o).engine = s.engine ∧ (State.send s o).tracks = s.tracks ∧ (State.send s o).eject = s.eject ∧ (State.send s o).field = s.field ∧ (State.send s o).memory = s.memory ∧ (State.send s o).knots = s.knots ∧ (State.send s o).host = s.host ∧ (State.send s o).net = s.net ∧ (State.send s o).faults = s.faults ∧ (State.send s o).power = s.power ∧ (State.send s o).perf = s.perf ∧ (State.send s o).boot = s.boot :=
  have h := State.send_changes s o
  ⟨h.mfg, h.pending, h.areas .tick rfl, h.areas .freeN rfl, h.areas .blobs rfl, h.areas .ctl rfl, h.areas .belt rfl, h.areas .supplies rfl, h.areas .intake rfl, h.areas .pipe rfl, h.areas .engine rfl, h.areas .tracks rfl, h.areas .eject rfl, h.areas .field rfl, h.areas .memory rfl, h.areas .knots rfl, h.areas .host rfl, h.areas .net rfl, h.areas .faults rfl, h.areas .power rfl, h.areas .perf rfl, h.areas .boot rfl⟩

@[simp] theorem State.send_reg (s : State) (o : Output) (k : Nat) : (State.send s o).reg k = s.reg k :=
  (State.send_changes s o).entries k (Entries.has_none k)

@[simp] theorem State.hostWrite_same (s : State) (port addr : Nat) (data : List Byte) :
    (State.hostWrite s port addr data).mfg = s.mfg ∧ (State.hostWrite s port addr data).pending = s.pending ∧ (State.hostWrite s port addr data).tick = s.tick ∧ (State.hostWrite s port addr data).freeN = s.freeN ∧ (State.hostWrite s port addr data).blobs = s.blobs ∧ (State.hostWrite s port addr data).ctl = s.ctl ∧ (State.hostWrite s port addr data).belt = s.belt ∧ (State.hostWrite s port addr data).supplies = s.supplies ∧ (State.hostWrite s port addr data).intake = s.intake ∧ (State.hostWrite s port addr data).pipe = s.pipe ∧ (State.hostWrite s port addr data).engine = s.engine ∧ (State.hostWrite s port addr data).tracks = s.tracks ∧ (State.hostWrite s port addr data).eject = s.eject ∧ (State.hostWrite s port addr data).field = s.field ∧ (State.hostWrite s port addr data).memory = s.memory ∧ (State.hostWrite s port addr data).knots = s.knots ∧ (State.hostWrite s port addr data).host = s.host ∧ (State.hostWrite s port addr data).net = s.net ∧ (State.hostWrite s port addr data).faults = s.faults ∧ (State.hostWrite s port addr data).power = s.power ∧ (State.hostWrite s port addr data).boot = s.boot :=
  have h := State.hostWrite_changes s port addr data
  ⟨h.mfg, h.pending, h.areas .tick rfl, h.areas .freeN rfl, h.areas .blobs rfl, h.areas .ctl rfl, h.areas .belt rfl, h.areas .supplies rfl, h.areas .intake rfl, h.areas .pipe rfl, h.areas .engine rfl, h.areas .tracks rfl, h.areas .eject rfl, h.areas .field rfl, h.areas .memory rfl, h.areas .knots rfl, h.areas .host rfl, h.areas .net rfl, h.areas .faults rfl, h.areas .power rfl, h.areas .boot rfl⟩

@[simp] theorem State.hostWrite_reg (s : State) (port addr : Nat) (data : List Byte) (k : Nat) : (State.hostWrite s port addr data).reg k = s.reg k :=
  (State.hostWrite_changes s port addr data).entries k (Entries.has_none k)

@[simp] theorem State.signal_same (s : State) (q : Nat) :
    (State.signal s q).mfg = s.mfg ∧ (State.signal s q).pending = s.pending ∧ (State.signal s q).tick = s.tick ∧ (State.signal s q).freeN = s.freeN ∧ (State.signal s q).blobs = s.blobs ∧ (State.signal s q).ctl = s.ctl ∧ (State.signal s q).belt = s.belt ∧ (State.signal s q).supplies = s.supplies ∧ (State.signal s q).intake = s.intake ∧ (State.signal s q).pipe = s.pipe ∧ (State.signal s q).engine = s.engine ∧ (State.signal s q).tracks = s.tracks ∧ (State.signal s q).eject = s.eject ∧ (State.signal s q).field = s.field ∧ (State.signal s q).memory = s.memory ∧ (State.signal s q).knots = s.knots ∧ (State.signal s q).net = s.net ∧ (State.signal s q).faults = s.faults ∧ (State.signal s q).power = s.power ∧ (State.signal s q).perf = s.perf ∧ (State.signal s q).boot = s.boot :=
  have h := State.signal_changes s q
  ⟨h.mfg, h.pending, h.areas .tick rfl, h.areas .freeN rfl, h.areas .blobs rfl, h.areas .ctl rfl, h.areas .belt rfl, h.areas .supplies rfl, h.areas .intake rfl, h.areas .pipe rfl, h.areas .engine rfl, h.areas .tracks rfl, h.areas .eject rfl, h.areas .field rfl, h.areas .memory rfl, h.areas .knots rfl, h.areas .net rfl, h.areas .faults rfl, h.areas .power rfl, h.areas .perf rfl, h.areas .boot rfl⟩

@[simp] theorem State.signal_reg (s : State) (q : Nat) (k : Nat) : (State.signal s q).reg k = s.reg k :=
  (State.signal_changes s q).entries k (Entries.has_none k)

@[simp] theorem State.writeRec_same (s : State) (q : Nat) (r : Rec) :
    (State.writeRec s q r).mfg = s.mfg ∧ (State.writeRec s q r).pending = s.pending ∧ (State.writeRec s q r).tick = s.tick ∧ (State.writeRec s q r).freeN = s.freeN ∧ (State.writeRec s q r).blobs = s.blobs ∧ (State.writeRec s q r).ctl = s.ctl ∧ (State.writeRec s q r).belt = s.belt ∧ (State.writeRec s q r).supplies = s.supplies ∧ (State.writeRec s q r).intake = s.intake ∧ (State.writeRec s q r).pipe = s.pipe ∧ (State.writeRec s q r).engine = s.engine ∧ (State.writeRec s q r).tracks = s.tracks ∧ (State.writeRec s q r).eject = s.eject ∧ (State.writeRec s q r).field = s.field ∧ (State.writeRec s q r).memory = s.memory ∧ (State.writeRec s q r).knots = s.knots ∧ (State.writeRec s q r).net = s.net ∧ (State.writeRec s q r).faults = s.faults ∧ (State.writeRec s q r).power = s.power ∧ (State.writeRec s q r).boot = s.boot :=
  have h := State.writeRec_changes s q r
  ⟨h.mfg, h.pending, h.areas .tick rfl, h.areas .freeN rfl, h.areas .blobs rfl, h.areas .ctl rfl, h.areas .belt rfl, h.areas .supplies rfl, h.areas .intake rfl, h.areas .pipe rfl, h.areas .engine rfl, h.areas .tracks rfl, h.areas .eject rfl, h.areas .field rfl, h.areas .memory rfl, h.areas .knots rfl, h.areas .net rfl, h.areas .faults rfl, h.areas .power rfl, h.areas .boot rfl⟩

@[simp] theorem State.writeRec_reg (s : State) (q : Nat) (r : Rec) (k : Nat) : (State.writeRec s q r).reg k = s.reg k :=
  (State.writeRec_changes s q r).entries k (Entries.has_none k)

@[simp] theorem State.setCounter_same (s : State) (b i : Nat) (c : Counter) :
    (State.setCounter s b i c).mfg = s.mfg ∧ (State.setCounter s b i c).pending = s.pending ∧ (State.setCounter s b i c).tick = s.tick ∧ (State.setCounter s b i c).freeN = s.freeN ∧ (State.setCounter s b i c).blobs = s.blobs ∧ (State.setCounter s b i c).ctl = s.ctl ∧ (State.setCounter s b i c).belt = s.belt ∧ (State.setCounter s b i c).supplies = s.supplies ∧ (State.setCounter s b i c).intake = s.intake ∧ (State.setCounter s b i c).pipe = s.pipe ∧ (State.setCounter s b i c).engine = s.engine ∧ (State.setCounter s b i c).tracks = s.tracks ∧ (State.setCounter s b i c).eject = s.eject ∧ (State.setCounter s b i c).field = s.field ∧ (State.setCounter s b i c).memory = s.memory ∧ (State.setCounter s b i c).knots = s.knots ∧ (State.setCounter s b i c).host = s.host ∧ (State.setCounter s b i c).net = s.net ∧ (State.setCounter s b i c).faults = s.faults ∧ (State.setCounter s b i c).power = s.power ∧ (State.setCounter s b i c).boot = s.boot ∧ (State.setCounter s b i c).out = s.out :=
  have h := State.setCounter_changes s b i c
  ⟨h.mfg, h.pending, h.areas .tick rfl, h.areas .freeN rfl, h.areas .blobs rfl, h.areas .ctl rfl, h.areas .belt rfl, h.areas .supplies rfl, h.areas .intake rfl, h.areas .pipe rfl, h.areas .engine rfl, h.areas .tracks rfl, h.areas .eject rfl, h.areas .field rfl, h.areas .memory rfl, h.areas .knots rfl, h.areas .host rfl, h.areas .net rfl, h.areas .faults rfl, h.areas .power rfl, h.areas .boot rfl, h.areas .out rfl⟩

@[simp] theorem State.setCounter_reg (s : State) (b i : Nat) (c : Counter) (k : Nat) : (State.setCounter s b i c).reg k = s.reg k :=
  (State.setCounter_changes s b i c).entries k (Entries.has_none k)

@[simp] theorem State.countEv_same (s : State) (b ev n f ctx master addr : Nat) :
    (State.countEv s b ev n f ctx master addr).1.mfg = s.mfg ∧ (State.countEv s b ev n f ctx master addr).1.pending = s.pending ∧ (State.countEv s b ev n f ctx master addr).1.tick = s.tick ∧ (State.countEv s b ev n f ctx master addr).1.freeN = s.freeN ∧ (State.countEv s b ev n f ctx master addr).1.blobs = s.blobs ∧ (State.countEv s b ev n f ctx master addr).1.ctl = s.ctl ∧ (State.countEv s b ev n f ctx master addr).1.belt = s.belt ∧ (State.countEv s b ev n f ctx master addr).1.supplies = s.supplies ∧ (State.countEv s b ev n f ctx master addr).1.intake = s.intake ∧ (State.countEv s b ev n f ctx master addr).1.pipe = s.pipe ∧ (State.countEv s b ev n f ctx master addr).1.engine = s.engine ∧ (State.countEv s b ev n f ctx master addr).1.tracks = s.tracks ∧ (State.countEv s b ev n f ctx master addr).1.eject = s.eject ∧ (State.countEv s b ev n f ctx master addr).1.field = s.field ∧ (State.countEv s b ev n f ctx master addr).1.memory = s.memory ∧ (State.countEv s b ev n f ctx master addr).1.knots = s.knots ∧ (State.countEv s b ev n f ctx master addr).1.host = s.host ∧ (State.countEv s b ev n f ctx master addr).1.net = s.net ∧ (State.countEv s b ev n f ctx master addr).1.faults = s.faults ∧ (State.countEv s b ev n f ctx master addr).1.power = s.power ∧ (State.countEv s b ev n f ctx master addr).1.boot = s.boot ∧ (State.countEv s b ev n f ctx master addr).1.out = s.out :=
  have h := State.countEv_changes s b ev n f ctx master addr
  ⟨h.mfg, h.pending, h.areas .tick rfl, h.areas .freeN rfl, h.areas .blobs rfl, h.areas .ctl rfl, h.areas .belt rfl, h.areas .supplies rfl, h.areas .intake rfl, h.areas .pipe rfl, h.areas .engine rfl, h.areas .tracks rfl, h.areas .eject rfl, h.areas .field rfl, h.areas .memory rfl, h.areas .knots rfl, h.areas .host rfl, h.areas .net rfl, h.areas .faults rfl, h.areas .power rfl, h.areas .boot rfl, h.areas .out rfl⟩

@[simp] theorem State.countEv_reg (s : State) (b ev n f ctx master addr : Nat) (k : Nat) : (State.countEv s b ev n f ctx master addr).1.reg k = s.reg k :=
  (State.countEv_changes s b ev n f ctx master addr).entries k (Entries.has_none k)

@[simp] theorem State.routeRec_same (s : State) (q : Nat) (r : Rec) :
    (State.routeRec s q r).1.mfg = s.mfg ∧ (State.routeRec s q r).1.pending = s.pending ∧ (State.routeRec s q r).1.tick = s.tick ∧ (State.routeRec s q r).1.freeN = s.freeN ∧ (State.routeRec s q r).1.blobs = s.blobs ∧ (State.routeRec s q r).1.ctl = s.ctl ∧ (State.routeRec s q r).1.belt = s.belt ∧ (State.routeRec s q r).1.supplies = s.supplies ∧ (State.routeRec s q r).1.intake = s.intake ∧ (State.routeRec s q r).1.pipe = s.pipe ∧ (State.routeRec s q r).1.engine = s.engine ∧ (State.routeRec s q r).1.tracks = s.tracks ∧ (State.routeRec s q r).1.eject = s.eject ∧ (State.routeRec s q r).1.field = s.field ∧ (State.routeRec s q r).1.memory = s.memory ∧ (State.routeRec s q r).1.knots = s.knots ∧ (State.routeRec s q r).1.net = s.net ∧ (State.routeRec s q r).1.faults = s.faults ∧ (State.routeRec s q r).1.power = s.power ∧ (State.routeRec s q r).1.boot = s.boot :=
  have h := State.routeRec_changes s q r
  ⟨h.mfg, h.pending, h.areas .tick rfl, h.areas .freeN rfl, h.areas .blobs rfl, h.areas .ctl rfl, h.areas .belt rfl, h.areas .supplies rfl, h.areas .intake rfl, h.areas .pipe rfl, h.areas .engine rfl, h.areas .tracks rfl, h.areas .eject rfl, h.areas .field rfl, h.areas .memory rfl, h.areas .knots rfl, h.areas .net rfl, h.areas .faults rfl, h.areas .power rfl, h.areas .boot rfl⟩

@[simp] theorem State.routeRec_reg (s : State) (q : Nat) (r : Rec) (j : Nat) (h : (Entries.only [0x1205, K.recordsUnrouted]).has j = false) : (State.routeRec s q r).1.reg j = s.reg j :=
  (State.routeRec_changes s q r).entries j h

@[simp] theorem State.emitAll_same (s : State) (rs : List Rec) :
    (State.emitAll s rs).mfg = s.mfg ∧ (State.emitAll s rs).pending = s.pending ∧ (State.emitAll s rs).tick = s.tick ∧ (State.emitAll s rs).freeN = s.freeN ∧ (State.emitAll s rs).blobs = s.blobs ∧ (State.emitAll s rs).ctl = s.ctl ∧ (State.emitAll s rs).belt = s.belt ∧ (State.emitAll s rs).supplies = s.supplies ∧ (State.emitAll s rs).intake = s.intake ∧ (State.emitAll s rs).pipe = s.pipe ∧ (State.emitAll s rs).engine = s.engine ∧ (State.emitAll s rs).tracks = s.tracks ∧ (State.emitAll s rs).eject = s.eject ∧ (State.emitAll s rs).field = s.field ∧ (State.emitAll s rs).memory = s.memory ∧ (State.emitAll s rs).knots = s.knots ∧ (State.emitAll s rs).net = s.net ∧ (State.emitAll s rs).faults = s.faults ∧ (State.emitAll s rs).power = s.power ∧ (State.emitAll s rs).boot = s.boot :=
  have h := State.emitAll_changes s rs
  ⟨h.mfg, h.pending, h.areas .tick rfl, h.areas .freeN rfl, h.areas .blobs rfl, h.areas .ctl rfl, h.areas .belt rfl, h.areas .supplies rfl, h.areas .intake rfl, h.areas .pipe rfl, h.areas .engine rfl, h.areas .tracks rfl, h.areas .eject rfl, h.areas .field rfl, h.areas .memory rfl, h.areas .knots rfl, h.areas .net rfl, h.areas .faults rfl, h.areas .power rfl, h.areas .boot rfl⟩

@[simp] theorem State.emitAll_reg (s : State) (rs : List Rec) (j : Nat) (h : (Entries.only [0x1205, K.recordsUnrouted]).has j = false) : (State.emitAll s rs).reg j = s.reg j :=
  (State.emitAll_changes s rs).entries j h

@[simp] theorem State.emit_same (s : State) (r : Rec) :
    (State.emit s r).mfg = s.mfg ∧ (State.emit s r).pending = s.pending ∧ (State.emit s r).tick = s.tick ∧ (State.emit s r).freeN = s.freeN ∧ (State.emit s r).blobs = s.blobs ∧ (State.emit s r).ctl = s.ctl ∧ (State.emit s r).belt = s.belt ∧ (State.emit s r).supplies = s.supplies ∧ (State.emit s r).intake = s.intake ∧ (State.emit s r).pipe = s.pipe ∧ (State.emit s r).engine = s.engine ∧ (State.emit s r).tracks = s.tracks ∧ (State.emit s r).eject = s.eject ∧ (State.emit s r).field = s.field ∧ (State.emit s r).memory = s.memory ∧ (State.emit s r).knots = s.knots ∧ (State.emit s r).net = s.net ∧ (State.emit s r).faults = s.faults ∧ (State.emit s r).power = s.power ∧ (State.emit s r).boot = s.boot :=
  have h := State.emit_changes s r
  ⟨h.mfg, h.pending, h.areas .tick rfl, h.areas .freeN rfl, h.areas .blobs rfl, h.areas .ctl rfl, h.areas .belt rfl, h.areas .supplies rfl, h.areas .intake rfl, h.areas .pipe rfl, h.areas .engine rfl, h.areas .tracks rfl, h.areas .eject rfl, h.areas .field rfl, h.areas .memory rfl, h.areas .knots rfl, h.areas .net rfl, h.areas .faults rfl, h.areas .power rfl, h.areas .boot rfl⟩

@[simp] theorem State.emit_reg (s : State) (r : Rec) (j : Nat) (h : (Entries.only [0x1205, K.recordsUnrouted]).has j = false) : (State.emit s r).reg j = s.reg j :=
  (State.emit_changes s r).entries j h

@[simp] theorem State.issueFault_same (s : State) (r : Option Rec) :
    (State.issueFault s r).mfg = s.mfg ∧ (State.issueFault s r).pending = s.pending ∧ (State.issueFault s r).tick = s.tick ∧ (State.issueFault s r).freeN = s.freeN ∧ (State.issueFault s r).blobs = s.blobs ∧ (State.issueFault s r).ctl = s.ctl ∧ (State.issueFault s r).belt = s.belt ∧ (State.issueFault s r).supplies = s.supplies ∧ (State.issueFault s r).intake = s.intake ∧ (State.issueFault s r).pipe = s.pipe ∧ (State.issueFault s r).engine = s.engine ∧ (State.issueFault s r).tracks = s.tracks ∧ (State.issueFault s r).eject = s.eject ∧ (State.issueFault s r).field = s.field ∧ (State.issueFault s r).memory = s.memory ∧ (State.issueFault s r).knots = s.knots ∧ (State.issueFault s r).net = s.net ∧ (State.issueFault s r).power = s.power ∧ (State.issueFault s r).boot = s.boot :=
  have h := State.issueFault_changes s r
  ⟨h.mfg, h.pending, h.areas .tick rfl, h.areas .freeN rfl, h.areas .blobs rfl, h.areas .ctl rfl, h.areas .belt rfl, h.areas .supplies rfl, h.areas .intake rfl, h.areas .pipe rfl, h.areas .engine rfl, h.areas .tracks rfl, h.areas .eject rfl, h.areas .field rfl, h.areas .memory rfl, h.areas .knots rfl, h.areas .net rfl, h.areas .power rfl, h.areas .boot rfl⟩

@[simp] theorem State.issueFault_reg (s : State) (r : Option Rec) (j : Nat) (h : (Entries.only [0x1205, K.recordsUnrouted]).has j = false) : (State.issueFault s r).reg j = s.reg j :=
  (State.issueFault_changes s r).entries j h

@[simp] theorem State.rateOk_same (s : State) (code : Nat) :
    (State.rateOk s code).2.mfg = s.mfg ∧ (State.rateOk s code).2.pending = s.pending ∧ (State.rateOk s code).2.tick = s.tick ∧ (State.rateOk s code).2.freeN = s.freeN ∧ (State.rateOk s code).2.blobs = s.blobs ∧ (State.rateOk s code).2.ctl = s.ctl ∧ (State.rateOk s code).2.belt = s.belt ∧ (State.rateOk s code).2.supplies = s.supplies ∧ (State.rateOk s code).2.intake = s.intake ∧ (State.rateOk s code).2.pipe = s.pipe ∧ (State.rateOk s code).2.engine = s.engine ∧ (State.rateOk s code).2.tracks = s.tracks ∧ (State.rateOk s code).2.eject = s.eject ∧ (State.rateOk s code).2.field = s.field ∧ (State.rateOk s code).2.memory = s.memory ∧ (State.rateOk s code).2.knots = s.knots ∧ (State.rateOk s code).2.host = s.host ∧ (State.rateOk s code).2.net = s.net ∧ (State.rateOk s code).2.power = s.power ∧ (State.rateOk s code).2.perf = s.perf ∧ (State.rateOk s code).2.boot = s.boot ∧ (State.rateOk s code).2.out = s.out :=
  have h := State.rateOk_changes s code
  ⟨h.mfg, h.pending, h.areas .tick rfl, h.areas .freeN rfl, h.areas .blobs rfl, h.areas .ctl rfl, h.areas .belt rfl, h.areas .supplies rfl, h.areas .intake rfl, h.areas .pipe rfl, h.areas .engine rfl, h.areas .tracks rfl, h.areas .eject rfl, h.areas .field rfl, h.areas .memory rfl, h.areas .knots rfl, h.areas .host rfl, h.areas .net rfl, h.areas .power rfl, h.areas .perf rfl, h.areas .boot rfl, h.areas .out rfl⟩

@[simp] theorem State.rateOk_reg (s : State) (code : Nat) (k : Nat) : (State.rateOk s code).2.reg k = s.reg k :=
  (State.rateOk_changes s code).entries k (Entries.has_none k)

@[simp] theorem State.overwrote_same (s : State) (log : Nat) (silent : Bool) :
    (State.overwrote s log silent).mfg = s.mfg ∧ (State.overwrote s log silent).pending = s.pending ∧ (State.overwrote s log silent).tick = s.tick ∧ (State.overwrote s log silent).freeN = s.freeN ∧ (State.overwrote s log silent).blobs = s.blobs ∧ (State.overwrote s log silent).ctl = s.ctl ∧ (State.overwrote s log silent).belt = s.belt ∧ (State.overwrote s log silent).supplies = s.supplies ∧ (State.overwrote s log silent).intake = s.intake ∧ (State.overwrote s log silent).pipe = s.pipe ∧ (State.overwrote s log silent).engine = s.engine ∧ (State.overwrote s log silent).tracks = s.tracks ∧ (State.overwrote s log silent).eject = s.eject ∧ (State.overwrote s log silent).field = s.field ∧ (State.overwrote s log silent).memory = s.memory ∧ (State.overwrote s log silent).knots = s.knots ∧ (State.overwrote s log silent).net = s.net ∧ (State.overwrote s log silent).power = s.power ∧ (State.overwrote s log silent).boot = s.boot :=
  have h := State.overwrote_changes s log silent
  ⟨h.mfg, h.pending, h.areas .tick rfl, h.areas .freeN rfl, h.areas .blobs rfl, h.areas .ctl rfl, h.areas .belt rfl, h.areas .supplies rfl, h.areas .intake rfl, h.areas .pipe rfl, h.areas .engine rfl, h.areas .tracks rfl, h.areas .eject rfl, h.areas .field rfl, h.areas .memory rfl, h.areas .knots rfl, h.areas .net rfl, h.areas .power rfl, h.areas .boot rfl⟩

@[simp] theorem State.overwrote_reg (s : State) (log : Nat) (silent : Bool) (j : Nat) (h : (Entries.only [0x1205, 0x1703, K.recordsUnrouted, K.faultLogOverwritten]).has j = false) : (State.overwrote s log silent).reg j = s.reg j :=
  (State.overwrote_changes s log silent).entries j h

@[simp] theorem State.takeFree_same (s : State) :
    (State.takeFree s).2.mfg = s.mfg ∧ (State.takeFree s).2.pending = s.pending ∧ (State.takeFree s).2.tick = s.tick ∧ (State.takeFree s).2.blobs = s.blobs ∧ (State.takeFree s).2.ctl = s.ctl ∧ (State.takeFree s).2.belt = s.belt ∧ (State.takeFree s).2.supplies = s.supplies ∧ (State.takeFree s).2.intake = s.intake ∧ (State.takeFree s).2.pipe = s.pipe ∧ (State.takeFree s).2.engine = s.engine ∧ (State.takeFree s).2.tracks = s.tracks ∧ (State.takeFree s).2.eject = s.eject ∧ (State.takeFree s).2.field = s.field ∧ (State.takeFree s).2.memory = s.memory ∧ (State.takeFree s).2.knots = s.knots ∧ (State.takeFree s).2.host = s.host ∧ (State.takeFree s).2.net = s.net ∧ (State.takeFree s).2.faults = s.faults ∧ (State.takeFree s).2.power = s.power ∧ (State.takeFree s).2.perf = s.perf ∧ (State.takeFree s).2.boot = s.boot ∧ (State.takeFree s).2.out = s.out :=
  have h := State.takeFree_changes s
  ⟨h.mfg, h.pending, h.areas .tick rfl, h.areas .blobs rfl, h.areas .ctl rfl, h.areas .belt rfl, h.areas .supplies rfl, h.areas .intake rfl, h.areas .pipe rfl, h.areas .engine rfl, h.areas .tracks rfl, h.areas .eject rfl, h.areas .field rfl, h.areas .memory rfl, h.areas .knots rfl, h.areas .host rfl, h.areas .net rfl, h.areas .faults rfl, h.areas .power rfl, h.areas .perf rfl, h.areas .boot rfl, h.areas .out rfl⟩

@[simp] theorem State.takeFree_reg (s : State) (k : Nat) : (State.takeFree s).2.reg k = s.reg k :=
  (State.takeFree_changes s).entries k (Entries.has_none k)

@[simp] theorem State.noteFault_same (s : State) (code : Nat) (scope : Scope) (src ctx detail : Nat) (p : (Option Nat)) :
    (State.noteFault s code scope src ctx detail p).2.mfg = s.mfg ∧ (State.noteFault s code scope src ctx detail p).2.pending = s.pending ∧ (State.noteFault s code scope src ctx detail p).2.tick = s.tick ∧ (State.noteFault s code scope src ctx detail p).2.blobs = s.blobs ∧ (State.noteFault s code scope src ctx detail p).2.ctl = s.ctl ∧ (State.noteFault s code scope src ctx detail p).2.belt = s.belt ∧ (State.noteFault s code scope src ctx detail p).2.supplies = s.supplies ∧ (State.noteFault s code scope src ctx detail p).2.intake = s.intake ∧ (State.noteFault s code scope src ctx detail p).2.pipe = s.pipe ∧ (State.noteFault s code scope src ctx detail p).2.engine = s.engine ∧ (State.noteFault s code scope src ctx detail p).2.tracks = s.tracks ∧ (State.noteFault s code scope src ctx detail p).2.eject = s.eject ∧ (State.noteFault s code scope src ctx detail p).2.field = s.field ∧ (State.noteFault s code scope src ctx detail p).2.memory = s.memory ∧ (State.noteFault s code scope src ctx detail p).2.knots = s.knots ∧ (State.noteFault s code scope src ctx detail p).2.net = s.net ∧ (State.noteFault s code scope src ctx detail p).2.power = s.power ∧ (State.noteFault s code scope src ctx detail p).2.boot = s.boot :=
  have h := State.noteFault_changes s code scope src ctx detail p
  ⟨h.mfg, h.pending, h.areas .tick rfl, h.areas .blobs rfl, h.areas .ctl rfl, h.areas .belt rfl, h.areas .supplies rfl, h.areas .intake rfl, h.areas .pipe rfl, h.areas .engine rfl, h.areas .tracks rfl, h.areas .eject rfl, h.areas .field rfl, h.areas .memory rfl, h.areas .knots rfl, h.areas .net rfl, h.areas .power rfl, h.areas .boot rfl⟩

@[simp] theorem State.noteFault_reg (s : State) (code : Nat) (scope : Scope) (src ctx detail : Nat) (p : (Option Nat)) (j : Nat) (h : (Entries.only [0x1205, 0x1402, 0x1703, K.recordsUnrouted, K.faultLogOverwritten, K.faultRecordsSuppressed]).has j = false) : (State.noteFault s code scope src ctx detail p).2.reg j = s.reg j :=
  (State.noteFault_changes s code scope src ctx detail p).entries j h

@[simp] theorem State.report_same (s : State) (code src detail : Nat) (scope : Scope) (ctx : Nat) (p : (Option Nat)) :
    (State.report s code src detail scope ctx p).mfg = s.mfg ∧ (State.report s code src detail scope ctx p).pending = s.pending ∧ (State.report s code src detail scope ctx p).tick = s.tick ∧ (State.report s code src detail scope ctx p).blobs = s.blobs ∧ (State.report s code src detail scope ctx p).ctl = s.ctl ∧ (State.report s code src detail scope ctx p).belt = s.belt ∧ (State.report s code src detail scope ctx p).supplies = s.supplies ∧ (State.report s code src detail scope ctx p).intake = s.intake ∧ (State.report s code src detail scope ctx p).pipe = s.pipe ∧ (State.report s code src detail scope ctx p).engine = s.engine ∧ (State.report s code src detail scope ctx p).tracks = s.tracks ∧ (State.report s code src detail scope ctx p).eject = s.eject ∧ (State.report s code src detail scope ctx p).field = s.field ∧ (State.report s code src detail scope ctx p).memory = s.memory ∧ (State.report s code src detail scope ctx p).knots = s.knots ∧ (State.report s code src detail scope ctx p).net = s.net ∧ (State.report s code src detail scope ctx p).power = s.power ∧ (State.report s code src detail scope ctx p).boot = s.boot :=
  have h := State.report_changes s code src detail scope ctx p
  ⟨h.mfg, h.pending, h.areas .tick rfl, h.areas .blobs rfl, h.areas .ctl rfl, h.areas .belt rfl, h.areas .supplies rfl, h.areas .intake rfl, h.areas .pipe rfl, h.areas .engine rfl, h.areas .tracks rfl, h.areas .eject rfl, h.areas .field rfl, h.areas .memory rfl, h.areas .knots rfl, h.areas .net rfl, h.areas .power rfl, h.areas .boot rfl⟩

@[simp] theorem State.report_reg (s : State) (code src detail : Nat) (scope : Scope) (ctx : Nat) (p : (Option Nat)) (j : Nat) (h : (Entries.only [0x1205, 0x1402, 0x1703, K.recordsUnrouted, K.faultLogOverwritten, K.faultRecordsSuppressed]).has j = false) : (State.report s code src detail scope ctx p).reg j = s.reg j :=
  (State.report_changes s code src detail scope ctx p).entries j h

@[simp] theorem State.clearJob_same (s : State) (c : Nat) :
    (State.clearJob s c).mfg = s.mfg ∧ (State.clearJob s c).pending = s.pending ∧ (State.clearJob s c).tick = s.tick ∧ (State.clearJob s c).freeN = s.freeN ∧ (State.clearJob s c).blobs = s.blobs ∧ (State.clearJob s c).ctl = s.ctl ∧ (State.clearJob s c).belt = s.belt ∧ (State.clearJob s c).supplies = s.supplies ∧ (State.clearJob s c).intake = s.intake ∧ (State.clearJob s c).pipe = s.pipe ∧ (State.clearJob s c).tracks = s.tracks ∧ (State.clearJob s c).eject = s.eject ∧ (State.clearJob s c).field = s.field ∧ (State.clearJob s c).memory = s.memory ∧ (State.clearJob s c).knots = s.knots ∧ (State.clearJob s c).host = s.host ∧ (State.clearJob s c).net = s.net ∧ (State.clearJob s c).faults = s.faults ∧ (State.clearJob s c).power = s.power ∧ (State.clearJob s c).perf = s.perf ∧ (State.clearJob s c).boot = s.boot ∧ (State.clearJob s c).out = s.out :=
  have h := State.clearJob_changes s c
  ⟨h.mfg, h.pending, h.areas .tick rfl, h.areas .freeN rfl, h.areas .blobs rfl, h.areas .ctl rfl, h.areas .belt rfl, h.areas .supplies rfl, h.areas .intake rfl, h.areas .pipe rfl, h.areas .tracks rfl, h.areas .eject rfl, h.areas .field rfl, h.areas .memory rfl, h.areas .knots rfl, h.areas .host rfl, h.areas .net rfl, h.areas .faults rfl, h.areas .power rfl, h.areas .perf rfl, h.areas .boot rfl, h.areas .out rfl⟩

@[simp] theorem State.clearJob_reg (s : State) (c : Nat) (k : Nat) : (State.clearJob s c).reg k = s.reg k :=
  (State.clearJob_changes s c).entries k (Entries.has_none k)

@[simp] theorem State.count_same (s : State) (b ev n f ctx master addr : Nat) :
    (State.count s b ev n f ctx master addr).mfg = s.mfg ∧ (State.count s b ev n f ctx master addr).pending = s.pending ∧ (State.count s b ev n f ctx master addr).tick = s.tick ∧ (State.count s b ev n f ctx master addr).freeN = s.freeN ∧ (State.count s b ev n f ctx master addr).blobs = s.blobs ∧ (State.count s b ev n f ctx master addr).ctl = s.ctl ∧ (State.count s b ev n f ctx master addr).belt = s.belt ∧ (State.count s b ev n f ctx master addr).supplies = s.supplies ∧ (State.count s b ev n f ctx master addr).intake = s.intake ∧ (State.count s b ev n f ctx master addr).pipe = s.pipe ∧ (State.count s b ev n f ctx master addr).engine = s.engine ∧ (State.count s b ev n f ctx master addr).tracks = s.tracks ∧ (State.count s b ev n f ctx master addr).eject = s.eject ∧ (State.count s b ev n f ctx master addr).field = s.field ∧ (State.count s b ev n f ctx master addr).memory = s.memory ∧ (State.count s b ev n f ctx master addr).knots = s.knots ∧ (State.count s b ev n f ctx master addr).net = s.net ∧ (State.count s b ev n f ctx master addr).faults = s.faults ∧ (State.count s b ev n f ctx master addr).power = s.power ∧ (State.count s b ev n f ctx master addr).boot = s.boot :=
  have h := State.count_changes s b ev n f ctx master addr
  ⟨h.mfg, h.pending, h.areas .tick rfl, h.areas .freeN rfl, h.areas .blobs rfl, h.areas .ctl rfl, h.areas .belt rfl, h.areas .supplies rfl, h.areas .intake rfl, h.areas .pipe rfl, h.areas .engine rfl, h.areas .tracks rfl, h.areas .eject rfl, h.areas .field rfl, h.areas .memory rfl, h.areas .knots rfl, h.areas .net rfl, h.areas .faults rfl, h.areas .power rfl, h.areas .boot rfl⟩

@[simp] theorem State.count_reg (s : State) (b ev n f ctx master addr : Nat) (j : Nat) (h : (Entries.only [0x1205, K.recordsUnrouted]).has j = false) : (State.count s b ev n f ctx master addr).reg j = s.reg j :=
  (State.count_changes s b ev n f ctx master addr).entries j h

@[simp] theorem State.unfreeze_same (s : State) (die : Nat) :
    (State.unfreeze s die).mfg = s.mfg ∧ (State.unfreeze s die).pending = s.pending ∧ (State.unfreeze s die).tick = s.tick ∧ (State.unfreeze s die).freeN = s.freeN ∧ (State.unfreeze s die).blobs = s.blobs ∧ (State.unfreeze s die).ctl = s.ctl ∧ (State.unfreeze s die).belt = s.belt ∧ (State.unfreeze s die).supplies = s.supplies ∧ (State.unfreeze s die).intake = s.intake ∧ (State.unfreeze s die).pipe = s.pipe ∧ (State.unfreeze s die).tracks = s.tracks ∧ (State.unfreeze s die).eject = s.eject ∧ (State.unfreeze s die).field = s.field ∧ (State.unfreeze s die).memory = s.memory ∧ (State.unfreeze s die).knots = s.knots ∧ (State.unfreeze s die).net = s.net ∧ (State.unfreeze s die).power = s.power ∧ (State.unfreeze s die).boot = s.boot :=
  have h := State.unfreeze_changes s die
  ⟨h.mfg, h.pending, h.areas .tick rfl, h.areas .freeN rfl, h.areas .blobs rfl, h.areas .ctl rfl, h.areas .belt rfl, h.areas .supplies rfl, h.areas .intake rfl, h.areas .pipe rfl, h.areas .tracks rfl, h.areas .eject rfl, h.areas .field rfl, h.areas .memory rfl, h.areas .knots rfl, h.areas .net rfl, h.areas .power rfl, h.areas .boot rfl⟩

@[simp] theorem State.unfreeze_reg (s : State) (die : Nat) (j : Nat) (h : (Entries.only [0x0804, 0x1205, K.recordsUnrouted]).has j = false) : (State.unfreeze s die).reg j = s.reg j :=
  (State.unfreeze_changes s die).entries j h

@[simp] theorem State.setCtx_same (s : State) (c : Nat) (x : Context) :
    (State.setCtx s c x).mfg = s.mfg ∧ (State.setCtx s c x).pending = s.pending ∧ (State.setCtx s c x).tick = s.tick ∧ (State.setCtx s c x).freeN = s.freeN ∧ (State.setCtx s c x).blobs = s.blobs ∧ (State.setCtx s c x).ctl = s.ctl ∧ (State.setCtx s c x).belt = s.belt ∧ (State.setCtx s c x).supplies = s.supplies ∧ (State.setCtx s c x).intake = s.intake ∧ (State.setCtx s c x).pipe = s.pipe ∧ (State.setCtx s c x).tracks = s.tracks ∧ (State.setCtx s c x).eject = s.eject ∧ (State.setCtx s c x).field = s.field ∧ (State.setCtx s c x).memory = s.memory ∧ (State.setCtx s c x).knots = s.knots ∧ (State.setCtx s c x).host = s.host ∧ (State.setCtx s c x).net = s.net ∧ (State.setCtx s c x).faults = s.faults ∧ (State.setCtx s c x).power = s.power ∧ (State.setCtx s c x).perf = s.perf ∧ (State.setCtx s c x).boot = s.boot ∧ (State.setCtx s c x).out = s.out :=
  have h := State.setCtx_changes s c x
  ⟨h.mfg, h.pending, h.areas .tick rfl, h.areas .freeN rfl, h.areas .blobs rfl, h.areas .ctl rfl, h.areas .belt rfl, h.areas .supplies rfl, h.areas .intake rfl, h.areas .pipe rfl, h.areas .tracks rfl, h.areas .eject rfl, h.areas .field rfl, h.areas .memory rfl, h.areas .knots rfl, h.areas .host rfl, h.areas .net rfl, h.areas .faults rfl, h.areas .power rfl, h.areas .perf rfl, h.areas .boot rfl, h.areas .out rfl⟩

@[simp] theorem State.setCtx_reg (s : State) (c : Nat) (x : Context) (k : Nat) : (State.setCtx s c x).reg k = s.reg k :=
  (State.setCtx_changes s c x).entries k (Entries.has_none k)

@[simp] theorem State.dropWork_same (s : State) (c : Nat) :
    (State.dropWork s c).mfg = s.mfg ∧ (State.dropWork s c).pending = s.pending ∧ (State.dropWork s c).tick = s.tick ∧ (State.dropWork s c).freeN = s.freeN ∧ (State.dropWork s c).blobs = s.blobs ∧ (State.dropWork s c).supplies = s.supplies ∧ (State.dropWork s c).intake = s.intake ∧ (State.dropWork s c).eject = s.eject ∧ (State.dropWork s c).field = s.field ∧ (State.dropWork s c).net = s.net ∧ (State.dropWork s c).power = s.power ∧ (State.dropWork s c).boot = s.boot :=
  have h := State.dropWork_changes s c
  ⟨h.mfg, h.pending, h.areas .tick rfl, h.areas .freeN rfl, h.areas .blobs rfl, h.areas .supplies rfl, h.areas .intake rfl, h.areas .eject rfl, h.areas .field rfl, h.areas .net rfl, h.areas .power rfl, h.areas .boot rfl⟩

@[simp] theorem State.dropWork_reg (s : State) (c : Nat) (j : Nat) (h : (Entries.only [0x0804, 0x1205, K.recordsUnrouted]).has j = false) : (State.dropWork s c).reg j = s.reg j :=
  (State.dropWork_changes s c).entries j h

@[simp] theorem State.breakLoad_same (s : State) (n : Option Nat) :
    (State.breakLoad s n).mfg = s.mfg ∧ (State.breakLoad s n).pending = s.pending ∧ (State.breakLoad s n).tick = s.tick ∧ (State.breakLoad s n).freeN = s.freeN ∧ (State.breakLoad s n).blobs = s.blobs ∧ (State.breakLoad s n).ctl = s.ctl ∧ (State.breakLoad s n).belt = s.belt ∧ (State.breakLoad s n).supplies = s.supplies ∧ (State.breakLoad s n).intake = s.intake ∧ (State.breakLoad s n).pipe = s.pipe ∧ (State.breakLoad s n).tracks = s.tracks ∧ (State.breakLoad s n).eject = s.eject ∧ (State.breakLoad s n).field = s.field ∧ (State.breakLoad s n).memory = s.memory ∧ (State.breakLoad s n).knots = s.knots ∧ (State.breakLoad s n).host = s.host ∧ (State.breakLoad s n).net = s.net ∧ (State.breakLoad s n).faults = s.faults ∧ (State.breakLoad s n).power = s.power ∧ (State.breakLoad s n).perf = s.perf ∧ (State.breakLoad s n).boot = s.boot ∧ (State.breakLoad s n).out = s.out :=
  have h := State.breakLoad_changes s n
  ⟨h.mfg, h.pending, h.areas .tick rfl, h.areas .freeN rfl, h.areas .blobs rfl, h.areas .ctl rfl, h.areas .belt rfl, h.areas .supplies rfl, h.areas .intake rfl, h.areas .pipe rfl, h.areas .tracks rfl, h.areas .eject rfl, h.areas .field rfl, h.areas .memory rfl, h.areas .knots rfl, h.areas .host rfl, h.areas .net rfl, h.areas .faults rfl, h.areas .power rfl, h.areas .perf rfl, h.areas .boot rfl, h.areas .out rfl⟩

@[simp] theorem State.breakLoad_reg (s : State) (n : Option Nat) (k : Nat) : (State.breakLoad s n).reg k = s.reg k :=
  (State.breakLoad_changes s n).entries k (Entries.has_none k)

@[simp] theorem State.setRing_same (s : State) (r : Nat) (x : Ring) :
    (State.setRing s r x).mfg = s.mfg ∧ (State.setRing s r x).pending = s.pending ∧ (State.setRing s r x).tick = s.tick ∧ (State.setRing s r x).freeN = s.freeN ∧ (State.setRing s r x).blobs = s.blobs ∧ (State.setRing s r x).ctl = s.ctl ∧ (State.setRing s r x).belt = s.belt ∧ (State.setRing s r x).supplies = s.supplies ∧ (State.setRing s r x).intake = s.intake ∧ (State.setRing s r x).pipe = s.pipe ∧ (State.setRing s r x).engine = s.engine ∧ (State.setRing s r x).tracks = s.tracks ∧ (State.setRing s r x).eject = s.eject ∧ (State.setRing s r x).field = s.field ∧ (State.setRing s r x).memory = s.memory ∧ (State.setRing s r x).knots = s.knots ∧ (State.setRing s r x).net = s.net ∧ (State.setRing s r x).faults = s.faults ∧ (State.setRing s r x).power = s.power ∧ (State.setRing s r x).perf = s.perf ∧ (State.setRing s r x).boot = s.boot ∧ (State.setRing s r x).out = s.out :=
  have h := State.setRing_changes s r x
  ⟨h.mfg, h.pending, h.areas .tick rfl, h.areas .freeN rfl, h.areas .blobs rfl, h.areas .ctl rfl, h.areas .belt rfl, h.areas .supplies rfl, h.areas .intake rfl, h.areas .pipe rfl, h.areas .engine rfl, h.areas .tracks rfl, h.areas .eject rfl, h.areas .field rfl, h.areas .memory rfl, h.areas .knots rfl, h.areas .net rfl, h.areas .faults rfl, h.areas .power rfl, h.areas .perf rfl, h.areas .boot rfl, h.areas .out rfl⟩

@[simp] theorem State.setRing_reg (s : State) (r : Nat) (x : Ring) (k : Nat) : (State.setRing s r x).reg k = s.reg k :=
  (State.setRing_changes s r x).entries k (Entries.has_none k)

@[simp] theorem State.flush_same (s : State) (ring : Nat) :
    (State.flush s ring).mfg = s.mfg ∧ (State.flush s ring).pending = s.pending ∧ (State.flush s ring).tick = s.tick ∧ (State.flush s ring).freeN = s.freeN ∧ (State.flush s ring).blobs = s.blobs ∧ (State.flush s ring).ctl = s.ctl ∧ (State.flush s ring).belt = s.belt ∧ (State.flush s ring).supplies = s.supplies ∧ (State.flush s ring).intake = s.intake ∧ (State.flush s ring).pipe = s.pipe ∧ (State.flush s ring).engine = s.engine ∧ (State.flush s ring).tracks = s.tracks ∧ (State.flush s ring).eject = s.eject ∧ (State.flush s ring).field = s.field ∧ (State.flush s ring).memory = s.memory ∧ (State.flush s ring).knots = s.knots ∧ (State.flush s ring).net = s.net ∧ (State.flush s ring).faults = s.faults ∧ (State.flush s ring).power = s.power ∧ (State.flush s ring).boot = s.boot :=
  have h := State.flush_changes s ring
  ⟨h.mfg, h.pending, h.areas .tick rfl, h.areas .freeN rfl, h.areas .blobs rfl, h.areas .ctl rfl, h.areas .belt rfl, h.areas .supplies rfl, h.areas .intake rfl, h.areas .pipe rfl, h.areas .engine rfl, h.areas .tracks rfl, h.areas .eject rfl, h.areas .field rfl, h.areas .memory rfl, h.areas .knots rfl, h.areas .net rfl, h.areas .faults rfl, h.areas .power rfl, h.areas .boot rfl⟩

@[simp] theorem State.flush_reg (s : State) (ring : Nat) (j : Nat) (h : (Entries.only [0x1205, K.commandsCompleted, K.recordsUnrouted]).has j = false) : (State.flush s ring).reg j = s.reg j :=
  (State.flush_changes s ring).entries j h

@[simp] theorem State.finishWhere_same (s : State) (ctx : Nat) (p : RingCmd → Bool) (status : Nat) :
    (State.finishWhere s ctx p status).mfg = s.mfg ∧ (State.finishWhere s ctx p status).pending = s.pending ∧ (State.finishWhere s ctx p status).tick = s.tick ∧ (State.finishWhere s ctx p status).freeN = s.freeN ∧ (State.finishWhere s ctx p status).blobs = s.blobs ∧ (State.finishWhere s ctx p status).ctl = s.ctl ∧ (State.finishWhere s ctx p status).belt = s.belt ∧ (State.finishWhere s ctx p status).supplies = s.supplies ∧ (State.finishWhere s ctx p status).intake = s.intake ∧ (State.finishWhere s ctx p status).pipe = s.pipe ∧ (State.finishWhere s ctx p status).tracks = s.tracks ∧ (State.finishWhere s ctx p status).eject = s.eject ∧ (State.finishWhere s ctx p status).field = s.field ∧ (State.finishWhere s ctx p status).memory = s.memory ∧ (State.finishWhere s ctx p status).knots = s.knots ∧ (State.finishWhere s ctx p status).net = s.net ∧ (State.finishWhere s ctx p status).faults = s.faults ∧ (State.finishWhere s ctx p status).power = s.power ∧ (State.finishWhere s ctx p status).boot = s.boot :=
  have h := State.finishWhere_changes s ctx p status
  ⟨h.mfg, h.pending, h.areas .tick rfl, h.areas .freeN rfl, h.areas .blobs rfl, h.areas .ctl rfl, h.areas .belt rfl, h.areas .supplies rfl, h.areas .intake rfl, h.areas .pipe rfl, h.areas .tracks rfl, h.areas .eject rfl, h.areas .field rfl, h.areas .memory rfl, h.areas .knots rfl, h.areas .net rfl, h.areas .faults rfl, h.areas .power rfl, h.areas .boot rfl⟩

@[simp] theorem State.finishWhere_reg (s : State) (ctx : Nat) (p : RingCmd → Bool) (status : Nat) (j : Nat) (h : (Entries.only [0x1205, K.commandsCompleted, K.recordsUnrouted]).has j = false) : (State.finishWhere s ctx p status).reg j = s.reg j :=
  (State.finishWhere_changes s ctx p status).entries j h

@[simp] theorem State.setPulses_same (s : State) (ch : Nat) (l : List Pulse) :
    (State.setPulses s ch l).mfg = s.mfg ∧ (State.setPulses s ch l).pending = s.pending ∧ (State.setPulses s ch l).tick = s.tick ∧ (State.setPulses s ch l).freeN = s.freeN ∧ (State.setPulses s ch l).blobs = s.blobs ∧ (State.setPulses s ch l).ctl = s.ctl ∧ (State.setPulses s ch l).belt = s.belt ∧ (State.setPulses s ch l).supplies = s.supplies ∧ (State.setPulses s ch l).intake = s.intake ∧ (State.setPulses s ch l).pipe = s.pipe ∧ (State.setPulses s ch l).engine = s.engine ∧ (State.setPulses s ch l).tracks = s.tracks ∧ (State.setPulses s ch l).field = s.field ∧ (State.setPulses s ch l).memory = s.memory ∧ (State.setPulses s ch l).knots = s.knots ∧ (State.setPulses s ch l).host = s.host ∧ (State.setPulses s ch l).net = s.net ∧ (State.setPulses s ch l).faults = s.faults ∧ (State.setPulses s ch l).power = s.power ∧ (State.setPulses s ch l).perf = s.perf ∧ (State.setPulses s ch l).boot = s.boot ∧ (State.setPulses s ch l).out = s.out :=
  have h := State.setPulses_changes s ch l
  ⟨h.mfg, h.pending, h.areas .tick rfl, h.areas .freeN rfl, h.areas .blobs rfl, h.areas .ctl rfl, h.areas .belt rfl, h.areas .supplies rfl, h.areas .intake rfl, h.areas .pipe rfl, h.areas .engine rfl, h.areas .tracks rfl, h.areas .field rfl, h.areas .memory rfl, h.areas .knots rfl, h.areas .host rfl, h.areas .net rfl, h.areas .faults rfl, h.areas .power rfl, h.areas .perf rfl, h.areas .boot rfl, h.areas .out rfl⟩

@[simp] theorem State.setPulses_reg (s : State) (ch : Nat) (l : List Pulse) (k : Nat) : (State.setPulses s ch l).reg k = s.reg k :=
  (State.setPulses_changes s ch l).entries k (Entries.has_none k)

@[simp] theorem State.peak_same (s : State) (k v : Nat) :
    (State.peak s k v).mfg = s.mfg ∧ (State.peak s k v).pending = s.pending ∧ (State.peak s k v).tick = s.tick ∧ (State.peak s k v).freeN = s.freeN ∧ (State.peak s k v).blobs = s.blobs ∧ (State.peak s k v).ctl = s.ctl ∧ (State.peak s k v).belt = s.belt ∧ (State.peak s k v).supplies = s.supplies ∧ (State.peak s k v).intake = s.intake ∧ (State.peak s k v).pipe = s.pipe ∧ (State.peak s k v).engine = s.engine ∧ (State.peak s k v).tracks = s.tracks ∧ (State.peak s k v).eject = s.eject ∧ (State.peak s k v).field = s.field ∧ (State.peak s k v).memory = s.memory ∧ (State.peak s k v).knots = s.knots ∧ (State.peak s k v).host = s.host ∧ (State.peak s k v).net = s.net ∧ (State.peak s k v).faults = s.faults ∧ (State.peak s k v).power = s.power ∧ (State.peak s k v).perf = s.perf ∧ (State.peak s k v).boot = s.boot ∧ (State.peak s k v).out = s.out :=
  have h := State.peak_changes s k v
  ⟨h.mfg, h.pending, h.areas .tick rfl, h.areas .freeN rfl, h.areas .blobs rfl, h.areas .ctl rfl, h.areas .belt rfl, h.areas .supplies rfl, h.areas .intake rfl, h.areas .pipe rfl, h.areas .engine rfl, h.areas .tracks rfl, h.areas .eject rfl, h.areas .field rfl, h.areas .memory rfl, h.areas .knots rfl, h.areas .host rfl, h.areas .net rfl, h.areas .faults rfl, h.areas .power rfl, h.areas .perf rfl, h.areas .boot rfl, h.areas .out rfl⟩

@[simp] theorem State.tallyPulses_same (s : State) :
    (State.tallyPulses s).mfg = s.mfg ∧ (State.tallyPulses s).pending = s.pending ∧ (State.tallyPulses s).tick = s.tick ∧ (State.tallyPulses s).freeN = s.freeN ∧ (State.tallyPulses s).blobs = s.blobs ∧ (State.tallyPulses s).ctl = s.ctl ∧ (State.tallyPulses s).belt = s.belt ∧ (State.tallyPulses s).supplies = s.supplies ∧ (State.tallyPulses s).intake = s.intake ∧ (State.tallyPulses s).pipe = s.pipe ∧ (State.tallyPulses s).engine = s.engine ∧ (State.tallyPulses s).tracks = s.tracks ∧ (State.tallyPulses s).eject = s.eject ∧ (State.tallyPulses s).field = s.field ∧ (State.tallyPulses s).memory = s.memory ∧ (State.tallyPulses s).knots = s.knots ∧ (State.tallyPulses s).host = s.host ∧ (State.tallyPulses s).net = s.net ∧ (State.tallyPulses s).faults = s.faults ∧ (State.tallyPulses s).power = s.power ∧ (State.tallyPulses s).perf = s.perf ∧ (State.tallyPulses s).boot = s.boot ∧ (State.tallyPulses s).out = s.out :=
  have h := State.tallyPulses_changes s
  ⟨h.mfg, h.pending, h.areas .tick rfl, h.areas .freeN rfl, h.areas .blobs rfl, h.areas .ctl rfl, h.areas .belt rfl, h.areas .supplies rfl, h.areas .intake rfl, h.areas .pipe rfl, h.areas .engine rfl, h.areas .tracks rfl, h.areas .eject rfl, h.areas .field rfl, h.areas .memory rfl, h.areas .knots rfl, h.areas .host rfl, h.areas .net rfl, h.areas .faults rfl, h.areas .power rfl, h.areas .perf rfl, h.areas .boot rfl, h.areas .out rfl⟩

@[simp] theorem State.tallyPulses_reg (s : State) (j : Nat) (h : (Entries.only [K.pulsesPending, K.pulsesPeak]).has j = false) : (State.tallyPulses s).reg j = s.reg j :=
  (State.tallyPulses_changes s).entries j h

@[simp] theorem State.takeUpDecision_same (s : State) (d : Decision) :
    (State.takeUpDecision s d).mfg = s.mfg ∧ (State.takeUpDecision s d).pending = s.pending ∧ (State.takeUpDecision s d).tick = s.tick ∧ (State.takeUpDecision s d).freeN = s.freeN ∧ (State.takeUpDecision s d).blobs = s.blobs ∧ (State.takeUpDecision s d).ctl = s.ctl ∧ (State.takeUpDecision s d).belt = s.belt ∧ (State.takeUpDecision s d).supplies = s.supplies ∧ (State.takeUpDecision s d).intake = s.intake ∧ (State.takeUpDecision s d).pipe = s.pipe ∧ (State.takeUpDecision s d).engine = s.engine ∧ (State.takeUpDecision s d).tracks = s.tracks ∧ (State.takeUpDecision s d).field = s.field ∧ (State.takeUpDecision s d).memory = s.memory ∧ (State.takeUpDecision s d).knots = s.knots ∧ (State.takeUpDecision s d).net = s.net ∧ (State.takeUpDecision s d).faults = s.faults ∧ (State.takeUpDecision s d).power = s.power ∧ (State.takeUpDecision s d).boot = s.boot :=
  have h := State.takeUpDecision_changes s d
  ⟨h.mfg, h.pending, h.areas .tick rfl, h.areas .freeN rfl, h.areas .blobs rfl, h.areas .ctl rfl, h.areas .belt rfl, h.areas .supplies rfl, h.areas .intake rfl, h.areas .pipe rfl, h.areas .engine rfl, h.areas .tracks rfl, h.areas .field rfl, h.areas .memory rfl, h.areas .knots rfl, h.areas .net rfl, h.areas .faults rfl, h.areas .power rfl, h.areas .boot rfl⟩

@[simp] theorem State.takeUpDecision_reg (s : State) (d : Decision) (j : Nat) (h : (Entries.only [0x1205, K.pulsesPending, K.pulsesPeak, K.pulsesScheduled, K.pulsesMerged, K.storeFullRefused, K.lateDecisions, K.missedDecisions, K.disabledChannelRequests, K.recordsUnrouted]).has j = false) : (State.takeUpDecision s d).reg j = s.reg j :=
  (State.takeUpDecision_changes s d).entries j h

@[simp] theorem State.closeGap_same (s : State) :
    (State.closeGap s).mfg = s.mfg ∧ (State.closeGap s).pending = s.pending ∧ (State.closeGap s).tick = s.tick ∧ (State.closeGap s).freeN = s.freeN ∧ (State.closeGap s).blobs = s.blobs ∧ (State.closeGap s).ctl = s.ctl ∧ (State.closeGap s).belt = s.belt ∧ (State.closeGap s).supplies = s.supplies ∧ (State.closeGap s).intake = s.intake ∧ (State.closeGap s).pipe = s.pipe ∧ (State.closeGap s).engine = s.engine ∧ (State.closeGap s).tracks = s.tracks ∧ (State.closeGap s).eject = s.eject ∧ (State.closeGap s).field = s.field ∧ (State.closeGap s).memory = s.memory ∧ (State.closeGap s).knots = s.knots ∧ (State.closeGap s).host = s.host ∧ (State.closeGap s).net = s.net ∧ (State.closeGap s).power = s.power ∧ (State.closeGap s).perf = s.perf ∧ (State.closeGap s).boot = s.boot ∧ (State.closeGap s).out = s.out :=
  have h := State.closeGap_changes s
  ⟨h.mfg, h.pending, h.areas .tick rfl, h.areas .freeN rfl, h.areas .blobs rfl, h.areas .ctl rfl, h.areas .belt rfl, h.areas .supplies rfl, h.areas .intake rfl, h.areas .pipe rfl, h.areas .engine rfl, h.areas .tracks rfl, h.areas .eject rfl, h.areas .field rfl, h.areas .memory rfl, h.areas .knots rfl, h.areas .host rfl, h.areas .net rfl, h.areas .power rfl, h.areas .perf rfl, h.areas .boot rfl, h.areas .out rfl⟩

@[simp] theorem State.closeGap_reg (s : State) (j : Nat) (h : (Entries.only [K.fallbackGapOpen]).has j = false) : (State.closeGap s).reg j = s.reg j :=
  (State.closeGap_changes s).entries j h

@[simp] theorem State.gapPass_same (s : State) :
    (State.gapPass s).mfg = s.mfg ∧ (State.gapPass s).pending = s.pending ∧ (State.gapPass s).tick = s.tick ∧ (State.gapPass s).freeN = s.freeN ∧ (State.gapPass s).blobs = s.blobs ∧ (State.gapPass s).ctl = s.ctl ∧ (State.gapPass s).belt = s.belt ∧ (State.gapPass s).supplies = s.supplies ∧ (State.gapPass s).intake = s.intake ∧ (State.gapPass s).pipe = s.pipe ∧ (State.gapPass s).engine = s.engine ∧ (State.gapPass s).tracks = s.tracks ∧ (State.gapPass s).field = s.field ∧ (State.gapPass s).memory = s.memory ∧ (State.gapPass s).knots = s.knots ∧ (State.gapPass s).net = s.net ∧ (State.gapPass s).power = s.power ∧ (State.gapPass s).boot = s.boot :=
  have h := State.gapPass_changes s
  ⟨h.mfg, h.pending, h.areas .tick rfl, h.areas .freeN rfl, h.areas .blobs rfl, h.areas .ctl rfl, h.areas .belt rfl, h.areas .supplies rfl, h.areas .intake rfl, h.areas .pipe rfl, h.areas .engine rfl, h.areas .tracks rfl, h.areas .field rfl, h.areas .memory rfl, h.areas .knots rfl, h.areas .net rfl, h.areas .power rfl, h.areas .boot rfl⟩

@[simp] theorem State.gapPass_reg (s : State) (j : Nat) (h : (Entries.only [0x1205, K.decisionsIssued, K.fallbackDecisions, K.pulsesPending, K.pulsesPeak, K.pulsesScheduled, K.pulsesMerged, K.storeFullRefused, K.lateDecisions, K.missedDecisions, K.disabledChannelRequests, K.recordsUnrouted, K.fallbackGapOpen, K.gapRecords]).has j = false) : (State.gapPass s).reg j = s.reg j :=
  (State.gapPass_changes s).entries j h

@[simp] theorem State.openGap_same (s : State) :
    (State.openGap s).mfg = s.mfg ∧ (State.openGap s).pending = s.pending ∧ (State.openGap s).tick = s.tick ∧ (State.openGap s).freeN = s.freeN ∧ (State.openGap s).blobs = s.blobs ∧ (State.openGap s).ctl = s.ctl ∧ (State.openGap s).belt = s.belt ∧ (State.openGap s).supplies = s.supplies ∧ (State.openGap s).intake = s.intake ∧ (State.openGap s).pipe = s.pipe ∧ (State.openGap s).engine = s.engine ∧ (State.openGap s).tracks = s.tracks ∧ (State.openGap s).field = s.field ∧ (State.openGap s).memory = s.memory ∧ (State.openGap s).knots = s.knots ∧ (State.openGap s).net = s.net ∧ (State.openGap s).power = s.power ∧ (State.openGap s).boot = s.boot :=
  have h := State.openGap_changes s
  ⟨h.mfg, h.pending, h.areas .tick rfl, h.areas .freeN rfl, h.areas .blobs rfl, h.areas .ctl rfl, h.areas .belt rfl, h.areas .supplies rfl, h.areas .intake rfl, h.areas .pipe rfl, h.areas .engine rfl, h.areas .tracks rfl, h.areas .field rfl, h.areas .memory rfl, h.areas .knots rfl, h.areas .net rfl, h.areas .power rfl, h.areas .boot rfl⟩

@[simp] theorem State.openGap_reg (s : State) (j : Nat) (h : (Entries.only [0x1205, K.decisionsIssued, K.fallbackDecisions, K.pulsesPending, K.pulsesPeak, K.pulsesScheduled, K.pulsesMerged, K.storeFullRefused, K.lateDecisions, K.missedDecisions, K.disabledChannelRequests, K.recordsUnrouted, K.fallbackGapOpen, K.gapRecords]).has j = false) : (State.openGap s).reg j = s.reg j :=
  (State.openGap_changes s).entries j h

@[simp] theorem State.setTport_same (s : State) (p : Nat) (x : TPort) :
    (State.setTport s p x).mfg = s.mfg ∧ (State.setTport s p x).pending = s.pending ∧ (State.setTport s p x).tick = s.tick ∧ (State.setTport s p x).freeN = s.freeN ∧ (State.setTport s p x).blobs = s.blobs ∧ (State.setTport s p x).ctl = s.ctl ∧ (State.setTport s p x).belt = s.belt ∧ (State.setTport s p x).supplies = s.supplies ∧ (State.setTport s p x).intake = s.intake ∧ (State.setTport s p x).pipe = s.pipe ∧ (State.setTport s p x).engine = s.engine ∧ (State.setTport s p x).tracks = s.tracks ∧ (State.setTport s p x).eject = s.eject ∧ (State.setTport s p x).field = s.field ∧ (State.setTport s p x).memory = s.memory ∧ (State.setTport s p x).host = s.host ∧ (State.setTport s p x).net = s.net ∧ (State.setTport s p x).faults = s.faults ∧ (State.setTport s p x).power = s.power ∧ (State.setTport s p x).perf = s.perf ∧ (State.setTport s p x).boot = s.boot ∧ (State.setTport s p x).out = s.out :=
  have h := State.setTport_changes s p x
  ⟨h.mfg, h.pending, h.areas .tick rfl, h.areas .freeN rfl, h.areas .blobs rfl, h.areas .ctl rfl, h.areas .belt rfl, h.areas .supplies rfl, h.areas .intake rfl, h.areas .pipe rfl, h.areas .engine rfl, h.areas .tracks rfl, h.areas .eject rfl, h.areas .field rfl, h.areas .memory rfl, h.areas .host rfl, h.areas .net rfl, h.areas .faults rfl, h.areas .power rfl, h.areas .perf rfl, h.areas .boot rfl, h.areas .out rfl⟩

@[simp] theorem State.setTport_reg (s : State) (p : Nat) (x : TPort) (k : Nat) : (State.setTport s p x).reg k = s.reg k :=
  (State.setTport_changes s p x).entries k (Entries.has_none k)

@[simp] theorem State.sendFrom_same (s : State) (src port dest typ ctx : Nat) (fenced : Bool) (tag arg : Nat) (body : List Byte) :
    (State.sendFrom s src port dest typ ctx fenced tag arg body).mfg = s.mfg ∧ (State.sendFrom s src port dest typ ctx fenced tag arg body).pending = s.pending ∧ (State.sendFrom s src port dest typ ctx fenced tag arg body).tick = s.tick ∧ (State.sendFrom s src port dest typ ctx fenced tag arg body).freeN = s.freeN ∧ (State.sendFrom s src port dest typ ctx fenced tag arg body).blobs = s.blobs ∧ (State.sendFrom s src port dest typ ctx fenced tag arg body).ctl = s.ctl ∧ (State.sendFrom s src port dest typ ctx fenced tag arg body).belt = s.belt ∧ (State.sendFrom s src port dest typ ctx fenced tag arg body).supplies = s.supplies ∧ (State.sendFrom s src port dest typ ctx fenced tag arg body).intake = s.intake ∧ (State.sendFrom s src port dest typ ctx fenced tag arg body).pipe = s.pipe ∧ (State.sendFrom s src port dest typ ctx fenced tag arg body).engine = s.engine ∧ (State.sendFrom s src port dest typ ctx fenced tag arg body).tracks = s.tracks ∧ (State.sendFrom s src port dest typ ctx fenced tag arg body).eject = s.eject ∧ (State.sendFrom s src port dest typ ctx fenced tag arg body).field = s.field ∧ (State.sendFrom s src port dest typ ctx fenced tag arg body).memory = s.memory ∧ (State.sendFrom s src port dest typ ctx fenced tag arg body).host = s.host ∧ (State.sendFrom s src port dest typ ctx fenced tag arg body).net = s.net ∧ (State.sendFrom s src port dest typ ctx fenced tag arg body).faults = s.faults ∧ (State.sendFrom s src port dest typ ctx fenced tag arg body).power = s.power ∧ (State.sendFrom s src port dest typ ctx fenced tag arg body).boot = s.boot :=
  have h := State.sendFrom_changes s src port dest typ ctx fenced tag arg body
  ⟨h.mfg, h.pending, h.areas .tick rfl, h.areas .freeN rfl, h.areas .blobs rfl, h.areas .ctl rfl, h.areas .belt rfl, h.areas .supplies rfl, h.areas .intake rfl, h.areas .pipe rfl, h.areas .engine rfl, h.areas .tracks rfl, h.areas .eject rfl, h.areas .field rfl, h.areas .memory rfl, h.areas .host rfl, h.areas .net rfl, h.areas .faults rfl, h.areas .power rfl, h.areas .boot rfl⟩

@[simp] theorem State.sendFrom_reg (s : State) (src port dest typ ctx : Nat) (fenced : Bool) (tag arg : Nat) (body : List Byte) (k : Nat) : (State.sendFrom s src port dest typ ctx fenced tag arg body).reg k = s.reg k :=
  (State.sendFrom_changes s src port dest typ ctx fenced tag arg body).entries k (Entries.has_none k)

@[simp] theorem State.sendOn_same (s : State) (port dest typ ctx : Nat) (fenced : Bool) (tag arg : Nat) (body : List Byte) :
    (State.sendOn s port dest typ ctx fenced tag arg body).mfg = s.mfg ∧ (State.sendOn s port dest typ ctx fenced tag arg body).pending = s.pending ∧ (State.sendOn s port dest typ ctx fenced tag arg body).tick = s.tick ∧ (State.sendOn s port dest typ ctx fenced tag arg body).freeN = s.freeN ∧ (State.sendOn s port dest typ ctx fenced tag arg body).blobs = s.blobs ∧ (State.sendOn s port dest typ ctx fenced tag arg body).ctl = s.ctl ∧ (State.sendOn s port dest typ ctx fenced tag arg body).belt = s.belt ∧ (State.sendOn s port dest typ ctx fenced tag arg body).supplies = s.supplies ∧ (State.sendOn s port dest typ ctx fenced tag arg body).intake = s.intake ∧ (State.sendOn s port dest typ ctx fenced tag arg body).pipe = s.pipe ∧ (State.sendOn s port dest typ ctx fenced tag arg body).engine = s.engine ∧ (State.sendOn s port dest typ ctx fenced tag arg body).tracks = s.tracks ∧ (State.sendOn s port dest typ ctx fenced tag arg body).eject = s.eject ∧ (State.sendOn s port dest typ ctx fenced tag arg body).field = s.field ∧ (State.sendOn s port dest typ ctx fenced tag arg body).memory = s.memory ∧ (State.sendOn s port dest typ ctx fenced tag arg body).host = s.host ∧ (State.sendOn s port dest typ ctx fenced tag arg body).net = s.net ∧ (State.sendOn s port dest typ ctx fenced tag arg body).faults = s.faults ∧ (State.sendOn s port dest typ ctx fenced tag arg body).power = s.power ∧ (State.sendOn s port dest typ ctx fenced tag arg body).boot = s.boot :=
  have h := State.sendOn_changes s port dest typ ctx fenced tag arg body
  ⟨h.mfg, h.pending, h.areas .tick rfl, h.areas .freeN rfl, h.areas .blobs rfl, h.areas .ctl rfl, h.areas .belt rfl, h.areas .supplies rfl, h.areas .intake rfl, h.areas .pipe rfl, h.areas .engine rfl, h.areas .tracks rfl, h.areas .eject rfl, h.areas .field rfl, h.areas .memory rfl, h.areas .host rfl, h.areas .net rfl, h.areas .faults rfl, h.areas .power rfl, h.areas .boot rfl⟩

@[simp] theorem State.sendOn_reg (s : State) (port dest typ ctx : Nat) (fenced : Bool) (tag arg : Nat) (body : List Byte) (k : Nat) : (State.sendOn s port dest typ ctx fenced tag arg body).reg k = s.reg k :=
  (State.sendOn_changes s port dest typ ctx fenced tag arg body).entries k (Entries.has_none k)

@[simp] theorem State.sendTo_same (s : State) (dest typ ctx : Nat) (fenced : Bool) (tag arg : Nat) (body : List Byte) :
    (State.sendTo s dest typ ctx fenced tag arg body).mfg = s.mfg ∧ (State.sendTo s dest typ ctx fenced tag arg body).pending = s.pending ∧ (State.sendTo s dest typ ctx fenced tag arg body).tick = s.tick ∧ (State.sendTo s dest typ ctx fenced tag arg body).freeN = s.freeN ∧ (State.sendTo s dest typ ctx fenced tag arg body).blobs = s.blobs ∧ (State.sendTo s dest typ ctx fenced tag arg body).ctl = s.ctl ∧ (State.sendTo s dest typ ctx fenced tag arg body).belt = s.belt ∧ (State.sendTo s dest typ ctx fenced tag arg body).supplies = s.supplies ∧ (State.sendTo s dest typ ctx fenced tag arg body).intake = s.intake ∧ (State.sendTo s dest typ ctx fenced tag arg body).pipe = s.pipe ∧ (State.sendTo s dest typ ctx fenced tag arg body).engine = s.engine ∧ (State.sendTo s dest typ ctx fenced tag arg body).tracks = s.tracks ∧ (State.sendTo s dest typ ctx fenced tag arg body).eject = s.eject ∧ (State.sendTo s dest typ ctx fenced tag arg body).field = s.field ∧ (State.sendTo s dest typ ctx fenced tag arg body).memory = s.memory ∧ (State.sendTo s dest typ ctx fenced tag arg body).host = s.host ∧ (State.sendTo s dest typ ctx fenced tag arg body).net = s.net ∧ (State.sendTo s dest typ ctx fenced tag arg body).faults = s.faults ∧ (State.sendTo s dest typ ctx fenced tag arg body).power = s.power ∧ (State.sendTo s dest typ ctx fenced tag arg body).boot = s.boot :=
  have h := State.sendTo_changes s dest typ ctx fenced tag arg body
  ⟨h.mfg, h.pending, h.areas .tick rfl, h.areas .freeN rfl, h.areas .blobs rfl, h.areas .ctl rfl, h.areas .belt rfl, h.areas .supplies rfl, h.areas .intake rfl, h.areas .pipe rfl, h.areas .engine rfl, h.areas .tracks rfl, h.areas .eject rfl, h.areas .field rfl, h.areas .memory rfl, h.areas .host rfl, h.areas .net rfl, h.areas .faults rfl, h.areas .power rfl, h.areas .boot rfl⟩

@[simp] theorem State.sendTo_reg (s : State) (dest typ ctx : Nat) (fenced : Bool) (tag arg : Nat) (body : List Byte) (k : Nat) : (State.sendTo s dest typ ctx fenced tag arg body).reg k = s.reg k :=
  (State.sendTo_changes s dest typ ctx fenced tag arg body).entries k (Entries.has_none k)

@[simp] theorem State.finishCmd_same (s : State) (ring index status result : Nat) :
    (State.finishCmd s ring index status result).mfg = s.mfg ∧ (State.finishCmd s ring index status result).pending = s.pending ∧ (State.finishCmd s ring index status result).tick = s.tick ∧ (State.finishCmd s ring index status result).freeN = s.freeN ∧ (State.finishCmd s ring index status result).blobs = s.blobs ∧ (State.finishCmd s ring index status result).ctl = s.ctl ∧ (State.finishCmd s ring index status result).belt = s.belt ∧ (State.finishCmd s ring index status result).supplies = s.supplies ∧ (State.finishCmd s ring index status result).intake = s.intake ∧ (State.finishCmd s ring index status result).pipe = s.pipe ∧ (State.finishCmd s ring index status result).engine = s.engine ∧ (State.finishCmd s ring index status result).tracks = s.tracks ∧ (State.finishCmd s ring index status result).eject = s.eject ∧ (State.finishCmd s ring index status result).field = s.field ∧ (State.finishCmd s ring index status result).memory = s.memory ∧ (State.finishCmd s ring index status result).knots = s.knots ∧ (State.finishCmd s ring index status result).net = s.net ∧ (State.finishCmd s ring index status result).faults = s.faults ∧ (State.finishCmd s ring index status result).power = s.power ∧ (State.finishCmd s ring index status result).boot = s.boot :=
  have h := State.finishCmd_changes s ring index status result
  ⟨h.mfg, h.pending, h.areas .tick rfl, h.areas .freeN rfl, h.areas .blobs rfl, h.areas .ctl rfl, h.areas .belt rfl, h.areas .supplies rfl, h.areas .intake rfl, h.areas .pipe rfl, h.areas .engine rfl, h.areas .tracks rfl, h.areas .eject rfl, h.areas .field rfl, h.areas .memory rfl, h.areas .knots rfl, h.areas .net rfl, h.areas .faults rfl, h.areas .power rfl, h.areas .boot rfl⟩

@[simp] theorem State.finishCmd_reg (s : State) (ring index status result : Nat) (j : Nat) (h : (Entries.only [0x1205, K.commandsCompleted, K.recordsUnrouted]).has j = false) : (State.finishCmd s ring index status result).reg j = s.reg j :=
  (State.finishCmd_changes s ring index status result).entries j h

@[simp] theorem State.notify_same (s : State) (i : Issuer) (k status : Nat) :
    (State.notify s i k status).mfg = s.mfg ∧ (State.notify s i k status).pending = s.pending ∧ (State.notify s i k status).tick = s.tick ∧ (State.notify s i k status).freeN = s.freeN ∧ (State.notify s i k status).blobs = s.blobs ∧ (State.notify s i k status).ctl = s.ctl ∧ (State.notify s i k status).belt = s.belt ∧ (State.notify s i k status).supplies = s.supplies ∧ (State.notify s i k status).intake = s.intake ∧ (State.notify s i k status).pipe = s.pipe ∧ (State.notify s i k status).engine = s.engine ∧ (State.notify s i k status).tracks = s.tracks ∧ (State.notify s i k status).eject = s.eject ∧ (State.notify s i k status).field = s.field ∧ (State.notify s i k status).memory = s.memory ∧ (State.notify s i k status).net = s.net ∧ (State.notify s i k status).faults = s.faults ∧ (State.notify s i k status).power = s.power ∧ (State.notify s i k status).boot = s.boot :=
  have h := State.notify_changes s i k status
  ⟨h.mfg, h.pending, h.areas .tick rfl, h.areas .freeN rfl, h.areas .blobs rfl, h.areas .ctl rfl, h.areas .belt rfl, h.areas .supplies rfl, h.areas .intake rfl, h.areas .pipe rfl, h.areas .engine rfl, h.areas .tracks rfl, h.areas .eject rfl, h.areas .field rfl, h.areas .memory rfl, h.areas .net rfl, h.areas .faults rfl, h.areas .power rfl, h.areas .boot rfl⟩

@[simp] theorem State.notify_reg (s : State) (i : Issuer) (k status : Nat) (j : Nat) (h : (Entries.only [0x1205, K.commandsCompleted, K.recordsUnrouted]).has j = false) : (State.notify s i k status).reg j = s.reg j :=
  (State.notify_changes s i k status).entries j h

@[simp] theorem State.setBlob_same (s : State) (k : Nat) (v : List Byte) :
    (State.setBlob s k v).mfg = s.mfg ∧ (State.setBlob s k v).pending = s.pending ∧ (State.setBlob s k v).tick = s.tick ∧ (State.setBlob s k v).freeN = s.freeN ∧ (State.setBlob s k v).ctl = s.ctl ∧ (State.setBlob s k v).belt = s.belt ∧ (State.setBlob s k v).supplies = s.supplies ∧ (State.setBlob s k v).intake = s.intake ∧ (State.setBlob s k v).pipe = s.pipe ∧ (State.setBlob s k v).engine = s.engine ∧ (State.setBlob s k v).tracks = s.tracks ∧ (State.setBlob s k v).eject = s.eject ∧ (State.setBlob s k v).field = s.field ∧ (State.setBlob s k v).memory = s.memory ∧ (State.setBlob s k v).knots = s.knots ∧ (State.setBlob s k v).host = s.host ∧ (State.setBlob s k v).net = s.net ∧ (State.setBlob s k v).faults = s.faults ∧ (State.setBlob s k v).power = s.power ∧ (State.setBlob s k v).perf = s.perf ∧ (State.setBlob s k v).boot = s.boot ∧ (State.setBlob s k v).out = s.out :=
  have h := State.setBlob_changes s k v
  ⟨h.mfg, h.pending, h.areas .tick rfl, h.areas .freeN rfl, h.areas .ctl rfl, h.areas .belt rfl, h.areas .supplies rfl, h.areas .intake rfl, h.areas .pipe rfl, h.areas .engine rfl, h.areas .tracks rfl, h.areas .eject rfl, h.areas .field rfl, h.areas .memory rfl, h.areas .knots rfl, h.areas .host rfl, h.areas .net rfl, h.areas .faults rfl, h.areas .power rfl, h.areas .perf rfl, h.areas .boot rfl, h.areas .out rfl⟩

@[simp] theorem State.setBlob_reg (s : State) (k : Nat) (v : List Byte) (j : Nat) : (State.setBlob s k v).reg j = s.reg j :=
  (State.setBlob_changes s k v).entries j (Entries.has_none j)

@[simp] theorem State.setWaiters_same (s : State) (l : List Waiter) :
    (State.setWaiters s l).mfg = s.mfg ∧ (State.setWaiters s l).pending = s.pending ∧ (State.setWaiters s l).tick = s.tick ∧ (State.setWaiters s l).freeN = s.freeN ∧ (State.setWaiters s l).blobs = s.blobs ∧ (State.setWaiters s l).ctl = s.ctl ∧ (State.setWaiters s l).belt = s.belt ∧ (State.setWaiters s l).supplies = s.supplies ∧ (State.setWaiters s l).intake = s.intake ∧ (State.setWaiters s l).pipe = s.pipe ∧ (State.setWaiters s l).engine = s.engine ∧ (State.setWaiters s l).tracks = s.tracks ∧ (State.setWaiters s l).eject = s.eject ∧ (State.setWaiters s l).field = s.field ∧ (State.setWaiters s l).memory = s.memory ∧ (State.setWaiters s l).host = s.host ∧ (State.setWaiters s l).net = s.net ∧ (State.setWaiters s l).faults = s.faults ∧ (State.setWaiters s l).power = s.power ∧ (State.setWaiters s l).perf = s.perf ∧ (State.setWaiters s l).boot = s.boot ∧ (State.setWaiters s l).out = s.out :=
  have h := State.setWaiters_changes s l
  ⟨h.mfg, h.pending, h.areas .tick rfl, h.areas .freeN rfl, h.areas .blobs rfl, h.areas .ctl rfl, h.areas .belt rfl, h.areas .supplies rfl, h.areas .intake rfl, h.areas .pipe rfl, h.areas .engine rfl, h.areas .tracks rfl, h.areas .eject rfl, h.areas .field rfl, h.areas .memory rfl, h.areas .host rfl, h.areas .net rfl, h.areas .faults rfl, h.areas .power rfl, h.areas .perf rfl, h.areas .boot rfl, h.areas .out rfl⟩

@[simp] theorem State.setWaiters_reg (s : State) (l : List Waiter) (j : Nat) (h : (Entries.only [K.waitersInUse, K.waitersPeak]).has j = false) : (State.setWaiters s l).reg j = s.reg j :=
  (State.setWaiters_changes s l).entries j h

@[simp] theorem State.setKnot_same (s : State) (k : Nat) (w : Knot) :
    (State.setKnot s k w).mfg = s.mfg ∧ (State.setKnot s k w).pending = s.pending ∧ (State.setKnot s k w).tick = s.tick ∧ (State.setKnot s k w).freeN = s.freeN ∧ (State.setKnot s k w).blobs = s.blobs ∧ (State.setKnot s k w).ctl = s.ctl ∧ (State.setKnot s k w).belt = s.belt ∧ (State.setKnot s k w).supplies = s.supplies ∧ (State.setKnot s k w).intake = s.intake ∧ (State.setKnot s k w).pipe = s.pipe ∧ (State.setKnot s k w).engine = s.engine ∧ (State.setKnot s k w).tracks = s.tracks ∧ (State.setKnot s k w).eject = s.eject ∧ (State.setKnot s k w).field = s.field ∧ (State.setKnot s k w).memory = s.memory ∧ (State.setKnot s k w).host = s.host ∧ (State.setKnot s k w).net = s.net ∧ (State.setKnot s k w).faults = s.faults ∧ (State.setKnot s k w).power = s.power ∧ (State.setKnot s k w).perf = s.perf ∧ (State.setKnot s k w).boot = s.boot ∧ (State.setKnot s k w).out = s.out :=
  have h := State.setKnot_changes s k w
  ⟨h.mfg, h.pending, h.areas .tick rfl, h.areas .freeN rfl, h.areas .blobs rfl, h.areas .ctl rfl, h.areas .belt rfl, h.areas .supplies rfl, h.areas .intake rfl, h.areas .pipe rfl, h.areas .engine rfl, h.areas .tracks rfl, h.areas .eject rfl, h.areas .field rfl, h.areas .memory rfl, h.areas .host rfl, h.areas .net rfl, h.areas .faults rfl, h.areas .power rfl, h.areas .perf rfl, h.areas .boot rfl, h.areas .out rfl⟩

@[simp] theorem State.setKnot_reg (s : State) (k : Nat) (w : Knot) (j : Nat) : (State.setKnot s k w).reg j = s.reg j :=
  (State.setKnot_changes s k w).entries j (Entries.has_none j)

@[simp] theorem State.releaseQueue_same (k x1 : Nat) (x2 : State) :
    (State.releaseQueue k x1 x2).mfg = x2.mfg ∧ (State.releaseQueue k x1 x2).pending = x2.pending ∧ (State.releaseQueue k x1 x2).tick = x2.tick ∧ (State.releaseQueue k x1 x2).freeN = x2.freeN ∧ (State.releaseQueue k x1 x2).blobs = x2.blobs ∧ (State.releaseQueue k x1 x2).ctl = x2.ctl ∧ (State.releaseQueue k x1 x2).belt = x2.belt ∧ (State.releaseQueue k x1 x2).supplies = x2.supplies ∧ (State.releaseQueue k x1 x2).intake = x2.intake ∧ (State.releaseQueue k x1 x2).pipe = x2.pipe ∧ (State.releaseQueue k x1 x2).engine = x2.engine ∧ (State.releaseQueue k x1 x2).tracks = x2.tracks ∧ (State.releaseQueue k x1 x2).eject = x2.eject ∧ (State.releaseQueue k x1 x2).field = x2.field ∧ (State.releaseQueue k x1 x2).memory = x2.memory ∧ (State.releaseQueue k x1 x2).net = x2.net ∧ (State.releaseQueue k x1 x2).faults = x2.faults ∧ (State.releaseQueue k x1 x2).power = x2.power ∧ (State.releaseQueue k x1 x2).boot = x2.boot :=
  have h := State.releaseQueue_changes k x1 x2
  ⟨h.mfg, h.pending, h.areas .tick rfl, h.areas .freeN rfl, h.areas .blobs rfl, h.areas .ctl rfl, h.areas .belt rfl, h.areas .supplies rfl, h.areas .intake rfl, h.areas .pipe rfl, h.areas .engine rfl, h.areas .tracks rfl, h.areas .eject rfl, h.areas .field rfl, h.areas .memory rfl, h.areas .net rfl, h.areas .faults rfl, h.areas .power rfl, h.areas .boot rfl⟩

@[simp] theorem State.releaseQueue_reg (k x1 : Nat) (x2 : State) (j : Nat) (h : (Entries.only [0x1205, K.waitersInUse, K.waitersPeak, K.commandsCompleted, K.recordsUnrouted]).has j = false) : (State.releaseQueue k x1 x2).reg j = x2.reg j :=
  (State.releaseQueue_changes k x1 x2).entries j h

@[simp] theorem State.settleQueues_same (s : State) (ks : List Nat) :
    (State.settleQueues s ks).mfg = s.mfg ∧ (State.settleQueues s ks).pending = s.pending ∧ (State.settleQueues s ks).tick = s.tick ∧ (State.settleQueues s ks).freeN = s.freeN ∧ (State.settleQueues s ks).blobs = s.blobs ∧ (State.settleQueues s ks).ctl = s.ctl ∧ (State.settleQueues s ks).belt = s.belt ∧ (State.settleQueues s ks).supplies = s.supplies ∧ (State.settleQueues s ks).intake = s.intake ∧ (State.settleQueues s ks).pipe = s.pipe ∧ (State.settleQueues s ks).engine = s.engine ∧ (State.settleQueues s ks).tracks = s.tracks ∧ (State.settleQueues s ks).eject = s.eject ∧ (State.settleQueues s ks).field = s.field ∧ (State.settleQueues s ks).memory = s.memory ∧ (State.settleQueues s ks).net = s.net ∧ (State.settleQueues s ks).faults = s.faults ∧ (State.settleQueues s ks).power = s.power ∧ (State.settleQueues s ks).boot = s.boot :=
  have h := State.settleQueues_changes s ks
  ⟨h.mfg, h.pending, h.areas .tick rfl, h.areas .freeN rfl, h.areas .blobs rfl, h.areas .ctl rfl, h.areas .belt rfl, h.areas .supplies rfl, h.areas .intake rfl, h.areas .pipe rfl, h.areas .engine rfl, h.areas .tracks rfl, h.areas .eject rfl, h.areas .field rfl, h.areas .memory rfl, h.areas .net rfl, h.areas .faults rfl, h.areas .power rfl, h.areas .boot rfl⟩

@[simp] theorem State.settleQueues_reg (s : State) (ks : List Nat) (j : Nat) (h : (Entries.only [0x1205, K.waitersInUse, K.waitersPeak, K.commandsCompleted, K.recordsUnrouted]).has j = false) : (State.settleQueues s ks).reg j = s.reg j :=
  (State.settleQueues_changes s ks).entries j h

@[simp] theorem State.emitUp_same (s : State) (l seq : Nat) (nak : Option Nat) (data : List Byte) (resent : Bool) :
    (State.emitUp s l seq nak data resent).mfg = s.mfg ∧ (State.emitUp s l seq nak data resent).pending = s.pending ∧ (State.emitUp s l seq nak data resent).tick = s.tick ∧ (State.emitUp s l seq nak data resent).freeN = s.freeN ∧ (State.emitUp s l seq nak data resent).blobs = s.blobs ∧ (State.emitUp s l seq nak data resent).ctl = s.ctl ∧ (State.emitUp s l seq nak data resent).belt = s.belt ∧ (State.emitUp s l seq nak data resent).supplies = s.supplies ∧ (State.emitUp s l seq nak data resent).intake = s.intake ∧ (State.emitUp s l seq nak data resent).pipe = s.pipe ∧ (State.emitUp s l seq nak data resent).engine = s.engine ∧ (State.emitUp s l seq nak data resent).tracks = s.tracks ∧ (State.emitUp s l seq nak data resent).eject = s.eject ∧ (State.emitUp s l seq nak data resent).field = s.field ∧ (State.emitUp s l seq nak data resent).memory = s.memory ∧ (State.emitUp s l seq nak data resent).knots = s.knots ∧ (State.emitUp s l seq nak data resent).host = s.host ∧ (State.emitUp s l seq nak data resent).net = s.net ∧ (State.emitUp s l seq nak data resent).faults = s.faults ∧ (State.emitUp s l seq nak data resent).power = s.power ∧ (State.emitUp s l seq nak data resent).perf = s.perf ∧ (State.emitUp s l seq nak data resent).boot = s.boot :=
  have h := State.emitUp_changes s l seq nak data resent
  ⟨h.mfg, h.pending, h.areas .tick rfl, h.areas .freeN rfl, h.areas .blobs rfl, h.areas .ctl rfl, h.areas .belt rfl, h.areas .supplies rfl, h.areas .intake rfl, h.areas .pipe rfl, h.areas .engine rfl, h.areas .tracks rfl, h.areas .eject rfl, h.areas .field rfl, h.areas .memory rfl, h.areas .knots rfl, h.areas .host rfl, h.areas .net rfl, h.areas .faults rfl, h.areas .power rfl, h.areas .perf rfl, h.areas .boot rfl⟩

@[simp] theorem State.emitUp_reg (s : State) (l seq : Nat) (nak : Option Nat) (data : List Byte) (resent : Bool) (k : Nat) : (State.emitUp s l seq nak data resent).reg k = s.reg k :=
  (State.emitUp_changes s l seq nak data resent).entries k (Entries.has_none k)

@[simp] theorem State.sendUp_same (s : State) (l : Nat) (reserved : Bool) :
    (State.sendUp s l reserved).mfg = s.mfg ∧ (State.sendUp s l reserved).pending = s.pending ∧ (State.sendUp s l reserved).tick = s.tick ∧ (State.sendUp s l reserved).freeN = s.freeN ∧ (State.sendUp s l reserved).blobs = s.blobs ∧ (State.sendUp s l reserved).ctl = s.ctl ∧ (State.sendUp s l reserved).belt = s.belt ∧ (State.sendUp s l reserved).supplies = s.supplies ∧ (State.sendUp s l reserved).intake = s.intake ∧ (State.sendUp s l reserved).pipe = s.pipe ∧ (State.sendUp s l reserved).engine = s.engine ∧ (State.sendUp s l reserved).tracks = s.tracks ∧ (State.sendUp s l reserved).eject = s.eject ∧ (State.sendUp s l reserved).field = s.field ∧ (State.sendUp s l reserved).knots = s.knots ∧ (State.sendUp s l reserved).host = s.host ∧ (State.sendUp s l reserved).net = s.net ∧ (State.sendUp s l reserved).faults = s.faults ∧ (State.sendUp s l reserved).power = s.power ∧ (State.sendUp s l reserved).perf = s.perf ∧ (State.sendUp s l reserved).boot = s.boot :=
  have h := State.sendUp_changes s l reserved
  ⟨h.mfg, h.pending, h.areas .tick rfl, h.areas .freeN rfl, h.areas .blobs rfl, h.areas .ctl rfl, h.areas .belt rfl, h.areas .supplies rfl, h.areas .intake rfl, h.areas .pipe rfl, h.areas .engine rfl, h.areas .tracks rfl, h.areas .eject rfl, h.areas .field rfl, h.areas .knots rfl, h.areas .host rfl, h.areas .net rfl, h.areas .faults rfl, h.areas .power rfl, h.areas .perf rfl, h.areas .boot rfl⟩

@[simp] theorem State.sendUp_reg (s : State) (l : Nat) (reserved : Bool) (k : Nat) : (State.sendUp s l reserved).reg k = s.reg k :=
  (State.sendUp_changes s l reserved).entries k (Entries.has_none k)

@[simp] theorem State.downFailure_same (s : State) (l : Nat) :
    (State.downFailure s l).mfg = s.mfg ∧ (State.downFailure s l).pending = s.pending ∧ (State.downFailure s l).tick = s.tick ∧ (State.downFailure s l).freeN = s.freeN ∧ (State.downFailure s l).blobs = s.blobs ∧ (State.downFailure s l).ctl = s.ctl ∧ (State.downFailure s l).belt = s.belt ∧ (State.downFailure s l).supplies = s.supplies ∧ (State.downFailure s l).intake = s.intake ∧ (State.downFailure s l).pipe = s.pipe ∧ (State.downFailure s l).engine = s.engine ∧ (State.downFailure s l).tracks = s.tracks ∧ (State.downFailure s l).eject = s.eject ∧ (State.downFailure s l).field = s.field ∧ (State.downFailure s l).knots = s.knots ∧ (State.downFailure s l).host = s.host ∧ (State.downFailure s l).net = s.net ∧ (State.downFailure s l).faults = s.faults ∧ (State.downFailure s l).power = s.power ∧ (State.downFailure s l).perf = s.perf ∧ (State.downFailure s l).boot = s.boot :=
  have h := State.downFailure_changes s l
  ⟨h.mfg, h.pending, h.areas .tick rfl, h.areas .freeN rfl, h.areas .blobs rfl, h.areas .ctl rfl, h.areas .belt rfl, h.areas .supplies rfl, h.areas .intake rfl, h.areas .pipe rfl, h.areas .engine rfl, h.areas .tracks rfl, h.areas .eject rfl, h.areas .field rfl, h.areas .knots rfl, h.areas .host rfl, h.areas .net rfl, h.areas .faults rfl, h.areas .power rfl, h.areas .perf rfl, h.areas .boot rfl⟩

@[simp] theorem State.downFailure_reg (s : State) (l : Nat) (k : Nat) : (State.downFailure s l).reg k = s.reg k :=
  (State.downFailure_changes s l).entries k (Entries.has_none k)

@[simp] theorem State.heard_same (s : State) (m : Nat) :
    (State.heard s m).mfg = s.mfg ∧ (State.heard s m).pending = s.pending ∧ (State.heard s m).tick = s.tick ∧ (State.heard s m).freeN = s.freeN ∧ (State.heard s m).blobs = s.blobs ∧ (State.heard s m).ctl = s.ctl ∧ (State.heard s m).belt = s.belt ∧ (State.heard s m).supplies = s.supplies ∧ (State.heard s m).intake = s.intake ∧ (State.heard s m).pipe = s.pipe ∧ (State.heard s m).engine = s.engine ∧ (State.heard s m).tracks = s.tracks ∧ (State.heard s m).eject = s.eject ∧ (State.heard s m).field = s.field ∧ (State.heard s m).memory = s.memory ∧ (State.heard s m).host = s.host ∧ (State.heard s m).net = s.net ∧ (State.heard s m).faults = s.faults ∧ (State.heard s m).power = s.power ∧ (State.heard s m).perf = s.perf ∧ (State.heard s m).boot = s.boot ∧ (State.heard s m).out = s.out :=
  have h := State.heard_changes s m
  ⟨h.mfg, h.pending, h.areas .tick rfl, h.areas .freeN rfl, h.areas .blobs rfl, h.areas .ctl rfl, h.areas .belt rfl, h.areas .supplies rfl, h.areas .intake rfl, h.areas .pipe rfl, h.areas .engine rfl, h.areas .tracks rfl, h.areas .eject rfl, h.areas .field rfl, h.areas .memory rfl, h.areas .host rfl, h.areas .net rfl, h.areas .faults rfl, h.areas .power rfl, h.areas .perf rfl, h.areas .boot rfl, h.areas .out rfl⟩

@[simp] theorem State.heard_reg (s : State) (m : Nat) (k : Nat) : (State.heard s m).reg k = s.reg k :=
  (State.heard_changes s m).entries k (Entries.has_none k)

@[simp] theorem State.setVl_same (s : State) (p : Nat) (x : VLink) :
    (State.setVl s p x).mfg = s.mfg ∧ (State.setVl s p x).pending = s.pending ∧ (State.setVl s p x).tick = s.tick ∧ (State.setVl s p x).freeN = s.freeN ∧ (State.setVl s p x).blobs = s.blobs ∧ (State.setVl s p x).ctl = s.ctl ∧ (State.setVl s p x).belt = s.belt ∧ (State.setVl s p x).supplies = s.supplies ∧ (State.setVl s p x).intake = s.intake ∧ (State.setVl s p x).pipe = s.pipe ∧ (State.setVl s p x).engine = s.engine ∧ (State.setVl s p x).tracks = s.tracks ∧ (State.setVl s p x).eject = s.eject ∧ (State.setVl s p x).memory = s.memory ∧ (State.setVl s p x).knots = s.knots ∧ (State.setVl s p x).host = s.host ∧ (State.setVl s p x).net = s.net ∧ (State.setVl s p x).faults = s.faults ∧ (State.setVl s p x).power = s.power ∧ (State.setVl s p x).perf = s.perf ∧ (State.setVl s p x).boot = s.boot ∧ (State.setVl s p x).out = s.out :=
  have h := State.setVl_changes s p x
  ⟨h.mfg, h.pending, h.areas .tick rfl, h.areas .freeN rfl, h.areas .blobs rfl, h.areas .ctl rfl, h.areas .belt rfl, h.areas .supplies rfl, h.areas .intake rfl, h.areas .pipe rfl, h.areas .engine rfl, h.areas .tracks rfl, h.areas .eject rfl, h.areas .memory rfl, h.areas .knots rfl, h.areas .host rfl, h.areas .net rfl, h.areas .faults rfl, h.areas .power rfl, h.areas .perf rfl, h.areas .boot rfl, h.areas .out rfl⟩

@[simp] theorem State.setVl_reg (s : State) (p : Nat) (x : VLink) (j : Nat) (h : (Entries.only [0x0F10]).has j = false) : (State.setVl s p x).reg j = s.reg j :=
  (State.setVl_changes s p x).entries j h

@[simp] theorem State.cmdSet_same (s : State) (k st : Nat) :
    (State.cmdSet s k st).mfg = s.mfg ∧ (State.cmdSet s k st).pending = s.pending ∧ (State.cmdSet s k st).tick = s.tick ∧ (State.cmdSet s k st).freeN = s.freeN ∧ (State.cmdSet s k st).blobs = s.blobs ∧ (State.cmdSet s k st).belt = s.belt ∧ (State.cmdSet s k st).supplies = s.supplies ∧ (State.cmdSet s k st).intake = s.intake ∧ (State.cmdSet s k st).pipe = s.pipe ∧ (State.cmdSet s k st).engine = s.engine ∧ (State.cmdSet s k st).tracks = s.tracks ∧ (State.cmdSet s k st).eject = s.eject ∧ (State.cmdSet s k st).field = s.field ∧ (State.cmdSet s k st).memory = s.memory ∧ (State.cmdSet s k st).knots = s.knots ∧ (State.cmdSet s k st).host = s.host ∧ (State.cmdSet s k st).net = s.net ∧ (State.cmdSet s k st).faults = s.faults ∧ (State.cmdSet s k st).power = s.power ∧ (State.cmdSet s k st).perf = s.perf ∧ (State.cmdSet s k st).boot = s.boot ∧ (State.cmdSet s k st).out = s.out :=
  have h := State.cmdSet_changes s k st
  ⟨h.mfg, h.pending, h.areas .tick rfl, h.areas .freeN rfl, h.areas .blobs rfl, h.areas .belt rfl, h.areas .supplies rfl, h.areas .intake rfl, h.areas .pipe rfl, h.areas .engine rfl, h.areas .tracks rfl, h.areas .eject rfl, h.areas .field rfl, h.areas .memory rfl, h.areas .knots rfl, h.areas .host rfl, h.areas .net rfl, h.areas .faults rfl, h.areas .power rfl, h.areas .perf rfl, h.areas .boot rfl, h.areas .out rfl⟩

@[simp] theorem State.cmdSet_reg (s : State) (k st : Nat) (j : Nat) : (State.cmdSet s k st).reg j = s.reg j :=
  (State.cmdSet_changes s k st).entries j (Entries.has_none j)

@[simp] theorem State.cmdOk_same (s : State) (k : Nat) :
    (State.cmdOk s k).2.mfg = s.mfg ∧ (State.cmdOk s k).2.pending = s.pending ∧ (State.cmdOk s k).2.tick = s.tick ∧ (State.cmdOk s k).2.freeN = s.freeN ∧ (State.cmdOk s k).2.blobs = s.blobs ∧ (State.cmdOk s k).2.belt = s.belt ∧ (State.cmdOk s k).2.supplies = s.supplies ∧ (State.cmdOk s k).2.intake = s.intake ∧ (State.cmdOk s k).2.pipe = s.pipe ∧ (State.cmdOk s k).2.engine = s.engine ∧ (State.cmdOk s k).2.tracks = s.tracks ∧ (State.cmdOk s k).2.eject = s.eject ∧ (State.cmdOk s k).2.field = s.field ∧ (State.cmdOk s k).2.memory = s.memory ∧ (State.cmdOk s k).2.knots = s.knots ∧ (State.cmdOk s k).2.host = s.host ∧ (State.cmdOk s k).2.net = s.net ∧ (State.cmdOk s k).2.faults = s.faults ∧ (State.cmdOk s k).2.power = s.power ∧ (State.cmdOk s k).2.perf = s.perf ∧ (State.cmdOk s k).2.boot = s.boot ∧ (State.cmdOk s k).2.out = s.out :=
  have h := State.cmdOk_changes s k
  ⟨h.mfg, h.pending, h.areas .tick rfl, h.areas .freeN rfl, h.areas .blobs rfl, h.areas .belt rfl, h.areas .supplies rfl, h.areas .intake rfl, h.areas .pipe rfl, h.areas .engine rfl, h.areas .tracks rfl, h.areas .eject rfl, h.areas .field rfl, h.areas .memory rfl, h.areas .knots rfl, h.areas .host rfl, h.areas .net rfl, h.areas .faults rfl, h.areas .power rfl, h.areas .perf rfl, h.areas .boot rfl, h.areas .out rfl⟩

@[simp] theorem State.cmdOk_reg (s : State) (k : Nat) (j : Nat) : (State.cmdOk s k).2.reg j = s.reg j :=
  (State.cmdOk_changes s k).entries j (Entries.has_none j)

@[simp] theorem State.discardCmd_same (s : State) :
    (State.discardCmd s).2.mfg = s.mfg ∧ (State.discardCmd s).2.pending = s.pending ∧ (State.discardCmd s).2.tick = s.tick ∧ (State.discardCmd s).2.freeN = s.freeN ∧ (State.discardCmd s).2.blobs = s.blobs ∧ (State.discardCmd s).2.belt = s.belt ∧ (State.discardCmd s).2.supplies = s.supplies ∧ (State.discardCmd s).2.intake = s.intake ∧ (State.discardCmd s).2.pipe = s.pipe ∧ (State.discardCmd s).2.engine = s.engine ∧ (State.discardCmd s).2.tracks = s.tracks ∧ (State.discardCmd s).2.eject = s.eject ∧ (State.discardCmd s).2.field = s.field ∧ (State.discardCmd s).2.memory = s.memory ∧ (State.discardCmd s).2.knots = s.knots ∧ (State.discardCmd s).2.host = s.host ∧ (State.discardCmd s).2.net = s.net ∧ (State.discardCmd s).2.faults = s.faults ∧ (State.discardCmd s).2.power = s.power ∧ (State.discardCmd s).2.perf = s.perf ∧ (State.discardCmd s).2.boot = s.boot ∧ (State.discardCmd s).2.out = s.out :=
  have h := State.discardCmd_changes s
  ⟨h.mfg, h.pending, h.areas .tick rfl, h.areas .freeN rfl, h.areas .blobs rfl, h.areas .belt rfl, h.areas .supplies rfl, h.areas .intake rfl, h.areas .pipe rfl, h.areas .engine rfl, h.areas .tracks rfl, h.areas .eject rfl, h.areas .field rfl, h.areas .memory rfl, h.areas .knots rfl, h.areas .host rfl, h.areas .net rfl, h.areas .faults rfl, h.areas .power rfl, h.areas .perf rfl, h.areas .boot rfl, h.areas .out rfl⟩

@[simp] theorem State.discardCmd_reg (s : State) (k : Nat) : (State.discardCmd s).2.reg k = s.reg k :=
  (State.discardCmd_changes s).entries k (Entries.has_none k)

@[simp] theorem State.answer_same (s : State) (sess k st : Nat) :
    (State.answer s sess k st).mfg = s.mfg ∧ (State.answer s sess k st).pending = s.pending ∧ (State.answer s sess k st).tick = s.tick ∧ (State.answer s sess k st).freeN = s.freeN ∧ (State.answer s sess k st).blobs = s.blobs ∧ (State.answer s sess k st).ctl = s.ctl ∧ (State.answer s sess k st).belt = s.belt ∧ (State.answer s sess k st).supplies = s.supplies ∧ (State.answer s sess k st).intake = s.intake ∧ (State.answer s sess k st).pipe = s.pipe ∧ (State.answer s sess k st).engine = s.engine ∧ (State.answer s sess k st).tracks = s.tracks ∧ (State.answer s sess k st).eject = s.eject ∧ (State.answer s sess k st).field = s.field ∧ (State.answer s sess k st).memory = s.memory ∧ (State.answer s sess k st).knots = s.knots ∧ (State.answer s sess k st).host = s.host ∧ (State.answer s sess k st).net = s.net ∧ (State.answer s sess k st).faults = s.faults ∧ (State.answer s sess k st).power = s.power ∧ (State.answer s sess k st).perf = s.perf ∧ (State.answer s sess k st).boot = s.boot :=
  have h := State.answer_changes s sess k st
  ⟨h.mfg, h.pending, h.areas .tick rfl, h.areas .freeN rfl, h.areas .blobs rfl, h.areas .ctl rfl, h.areas .belt rfl, h.areas .supplies rfl, h.areas .intake rfl, h.areas .pipe rfl, h.areas .engine rfl, h.areas .tracks rfl, h.areas .eject rfl, h.areas .field rfl, h.areas .memory rfl, h.areas .knots rfl, h.areas .host rfl, h.areas .net rfl, h.areas .faults rfl, h.areas .power rfl, h.areas .perf rfl, h.areas .boot rfl⟩

@[simp] theorem State.answer_reg (s : State) (sess k st : Nat) (j : Nat) : (State.answer s sess k st).reg j = s.reg j :=
  (State.answer_changes s sess k st).entries j (Entries.has_none j)

@[simp] theorem State.startCmd_same (s : State) (ring index : Nat) :
    (State.startCmd s ring index).mfg = s.mfg ∧ (State.startCmd s ring index).pending = s.pending ∧ (State.startCmd s ring index).tick = s.tick ∧ (State.startCmd s ring index).freeN = s.freeN ∧ (State.startCmd s ring index).blobs = s.blobs ∧ (State.startCmd s ring index).ctl = s.ctl ∧ (State.startCmd s ring index).belt = s.belt ∧ (State.startCmd s ring index).supplies = s.supplies ∧ (State.startCmd s ring index).intake = s.intake ∧ (State.startCmd s ring index).pipe = s.pipe ∧ (State.startCmd s ring index).engine = s.engine ∧ (State.startCmd s ring index).tracks = s.tracks ∧ (State.startCmd s ring index).eject = s.eject ∧ (State.startCmd s ring index).field = s.field ∧ (State.startCmd s ring index).memory = s.memory ∧ (State.startCmd s ring index).knots = s.knots ∧ (State.startCmd s ring index).net = s.net ∧ (State.startCmd s ring index).faults = s.faults ∧ (State.startCmd s ring index).power = s.power ∧ (State.startCmd s ring index).perf = s.perf ∧ (State.startCmd s ring index).boot = s.boot ∧ (State.startCmd s ring index).out = s.out :=
  have h := State.startCmd_changes s ring index
  ⟨h.mfg, h.pending, h.areas .tick rfl, h.areas .freeN rfl, h.areas .blobs rfl, h.areas .ctl rfl, h.areas .belt rfl, h.areas .supplies rfl, h.areas .intake rfl, h.areas .pipe rfl, h.areas .engine rfl, h.areas .tracks rfl, h.areas .eject rfl, h.areas .field rfl, h.areas .memory rfl, h.areas .knots rfl, h.areas .net rfl, h.areas .faults rfl, h.areas .power rfl, h.areas .perf rfl, h.areas .boot rfl, h.areas .out rfl⟩

@[simp] theorem State.startCmd_reg (s : State) (ring index : Nat) (k : Nat) : (State.startCmd s ring index).reg k = s.reg k :=
  (State.startCmd_changes s ring index).entries k (Entries.has_none k)

@[simp] theorem State.setFencing_same (s : State) (ring index : Nat) (on : Bool) :
    (State.setFencing s ring index on).mfg = s.mfg ∧ (State.setFencing s ring index on).pending = s.pending ∧ (State.setFencing s ring index on).tick = s.tick ∧ (State.setFencing s ring index on).freeN = s.freeN ∧ (State.setFencing s ring index on).blobs = s.blobs ∧ (State.setFencing s ring index on).ctl = s.ctl ∧ (State.setFencing s ring index on).belt = s.belt ∧ (State.setFencing s ring index on).supplies = s.supplies ∧ (State.setFencing s ring index on).intake = s.intake ∧ (State.setFencing s ring index on).pipe = s.pipe ∧ (State.setFencing s ring index on).engine = s.engine ∧ (State.setFencing s ring index on).tracks = s.tracks ∧ (State.setFencing s ring index on).eject = s.eject ∧ (State.setFencing s ring index on).field = s.field ∧ (State.setFencing s ring index on).memory = s.memory ∧ (State.setFencing s ring index on).knots = s.knots ∧ (State.setFencing s ring index on).net = s.net ∧ (State.setFencing s ring index on).faults = s.faults ∧ (State.setFencing s ring index on).power = s.power ∧ (State.setFencing s ring index on).perf = s.perf ∧ (State.setFencing s ring index on).boot = s.boot ∧ (State.setFencing s ring index on).out = s.out :=
  have h := State.setFencing_changes s ring index on
  ⟨h.mfg, h.pending, h.areas .tick rfl, h.areas .freeN rfl, h.areas .blobs rfl, h.areas .ctl rfl, h.areas .belt rfl, h.areas .supplies rfl, h.areas .intake rfl, h.areas .pipe rfl, h.areas .engine rfl, h.areas .tracks rfl, h.areas .eject rfl, h.areas .field rfl, h.areas .memory rfl, h.areas .knots rfl, h.areas .net rfl, h.areas .faults rfl, h.areas .power rfl, h.areas .perf rfl, h.areas .boot rfl, h.areas .out rfl⟩

@[simp] theorem State.setFencing_reg (s : State) (ring index : Nat) (on : Bool) (k : Nat) : (State.setFencing s ring index on).reg k = s.reg k :=
  (State.setFencing_changes s ring index on).entries k (Entries.has_none k)

@[simp] theorem State.remoteKnot_same (s : State) (c : Nat) (i : Issuer) (m : Nat) (body : List Byte) :
    (State.remoteKnot s c i m body).2.mfg = s.mfg ∧ (State.remoteKnot s c i m body).2.pending = s.pending ∧ (State.remoteKnot s c i m body).2.tick = s.tick ∧ (State.remoteKnot s c i m body).2.freeN = s.freeN ∧ (State.remoteKnot s c i m body).2.blobs = s.blobs ∧ (State.remoteKnot s c i m body).2.ctl = s.ctl ∧ (State.remoteKnot s c i m body).2.belt = s.belt ∧ (State.remoteKnot s c i m body).2.supplies = s.supplies ∧ (State.remoteKnot s c i m body).2.intake = s.intake ∧ (State.remoteKnot s c i m body).2.pipe = s.pipe ∧ (State.remoteKnot s c i m body).2.engine = s.engine ∧ (State.remoteKnot s c i m body).2.tracks = s.tracks ∧ (State.remoteKnot s c i m body).2.eject = s.eject ∧ (State.remoteKnot s c i m body).2.field = s.field ∧ (State.remoteKnot s c i m body).2.memory = s.memory ∧ (State.remoteKnot s c i m body).2.host = s.host ∧ (State.remoteKnot s c i m body).2.net = s.net ∧ (State.remoteKnot s c i m body).2.faults = s.faults ∧ (State.remoteKnot s c i m body).2.power = s.power ∧ (State.remoteKnot s c i m body).2.boot = s.boot :=
  have h := State.remoteKnot_changes s c i m body
  ⟨h.mfg, h.pending, h.areas .tick rfl, h.areas .freeN rfl, h.areas .blobs rfl, h.areas .ctl rfl, h.areas .belt rfl, h.areas .supplies rfl, h.areas .intake rfl, h.areas .pipe rfl, h.areas .engine rfl, h.areas .tracks rfl, h.areas .eject rfl, h.areas .field rfl, h.areas .memory rfl, h.areas .host rfl, h.areas .net rfl, h.areas .faults rfl, h.areas .power rfl, h.areas .boot rfl⟩

@[simp] theorem State.remoteKnot_reg (s : State) (c : Nat) (i : Issuer) (m : Nat) (body : List Byte) (k : Nat) : (State.remoteKnot s c i m body).2.reg k = s.reg k :=
  (State.remoteKnot_changes s c i m body).entries k (Entries.has_none k)

@[simp] theorem State.evalWaiters_same (s : State) (k : Nat) :
    (State.evalWaiters s k).mfg = s.mfg ∧ (State.evalWaiters s k).pending = s.pending ∧ (State.evalWaiters s k).tick = s.tick ∧ (State.evalWaiters s k).freeN = s.freeN ∧ (State.evalWaiters s k).blobs = s.blobs ∧ (State.evalWaiters s k).ctl = s.ctl ∧ (State.evalWaiters s k).belt = s.belt ∧ (State.evalWaiters s k).supplies = s.supplies ∧ (State.evalWaiters s k).intake = s.intake ∧ (State.evalWaiters s k).pipe = s.pipe ∧ (State.evalWaiters s k).engine = s.engine ∧ (State.evalWaiters s k).tracks = s.tracks ∧ (State.evalWaiters s k).eject = s.eject ∧ (State.evalWaiters s k).field = s.field ∧ (State.evalWaiters s k).memory = s.memory ∧ (State.evalWaiters s k).net = s.net ∧ (State.evalWaiters s k).faults = s.faults ∧ (State.evalWaiters s k).power = s.power ∧ (State.evalWaiters s k).boot = s.boot :=
  have h := State.evalWaiters_changes s k
  ⟨h.mfg, h.pending, h.areas .tick rfl, h.areas .freeN rfl, h.areas .blobs rfl, h.areas .ctl rfl, h.areas .belt rfl, h.areas .supplies rfl, h.areas .intake rfl, h.areas .pipe rfl, h.areas .engine rfl, h.areas .tracks rfl, h.areas .eject rfl, h.areas .field rfl, h.areas .memory rfl, h.areas .net rfl, h.areas .faults rfl, h.areas .power rfl, h.areas .boot rfl⟩

@[simp] theorem State.evalWaiters_reg (s : State) (k : Nat) (j : Nat) (h : (Entries.only [0x1205, K.waitersInUse, K.waitersPeak, K.commandsCompleted, K.recordsUnrouted]).has j = false) : (State.evalWaiters s k).reg j = s.reg j :=
  (State.evalWaiters_changes s k).entries j h

@[simp] theorem State.initKnot_same (s : State) (k : Nat) (v : Int) :
    (State.initKnot s k v).mfg = s.mfg ∧ (State.initKnot s k v).pending = s.pending ∧ (State.initKnot s k v).tick = s.tick ∧ (State.initKnot s k v).freeN = s.freeN ∧ (State.initKnot s k v).blobs = s.blobs ∧ (State.initKnot s k v).ctl = s.ctl ∧ (State.initKnot s k v).belt = s.belt ∧ (State.initKnot s k v).supplies = s.supplies ∧ (State.initKnot s k v).intake = s.intake ∧ (State.initKnot s k v).pipe = s.pipe ∧ (State.initKnot s k v).engine = s.engine ∧ (State.initKnot s k v).tracks = s.tracks ∧ (State.initKnot s k v).eject = s.eject ∧ (State.initKnot s k v).field = s.field ∧ (State.initKnot s k v).memory = s.memory ∧ (State.initKnot s k v).host = s.host ∧ (State.initKnot s k v).net = s.net ∧ (State.initKnot s k v).faults = s.faults ∧ (State.initKnot s k v).power = s.power ∧ (State.initKnot s k v).perf = s.perf ∧ (State.initKnot s k v).boot = s.boot ∧ (State.initKnot s k v).out = s.out :=
  have h := State.initKnot_changes s k v
  ⟨h.mfg, h.pending, h.areas .tick rfl, h.areas .freeN rfl, h.areas .blobs rfl, h.areas .ctl rfl, h.areas .belt rfl, h.areas .supplies rfl, h.areas .intake rfl, h.areas .pipe rfl, h.areas .engine rfl, h.areas .tracks rfl, h.areas .eject rfl, h.areas .field rfl, h.areas .memory rfl, h.areas .host rfl, h.areas .net rfl, h.areas .faults rfl, h.areas .power rfl, h.areas .perf rfl, h.areas .boot rfl, h.areas .out rfl⟩

@[simp] theorem State.initKnot_reg (s : State) (k : Nat) (v : Int) (j : Nat) : (State.initKnot s k v).reg j = s.reg j :=
  (State.initKnot_changes s k v).entries j (Entries.has_none j)

@[simp] theorem State.countKnotOp_same (s : State) (ctx : Nat) :
    (State.countKnotOp s ctx).mfg = s.mfg ∧ (State.countKnotOp s ctx).pending = s.pending ∧ (State.countKnotOp s ctx).tick = s.tick ∧ (State.countKnotOp s ctx).freeN = s.freeN ∧ (State.countKnotOp s ctx).blobs = s.blobs ∧ (State.countKnotOp s ctx).ctl = s.ctl ∧ (State.countKnotOp s ctx).belt = s.belt ∧ (State.countKnotOp s ctx).supplies = s.supplies ∧ (State.countKnotOp s ctx).intake = s.intake ∧ (State.countKnotOp s ctx).pipe = s.pipe ∧ (State.countKnotOp s ctx).engine = s.engine ∧ (State.countKnotOp s ctx).tracks = s.tracks ∧ (State.countKnotOp s ctx).eject = s.eject ∧ (State.countKnotOp s ctx).field = s.field ∧ (State.countKnotOp s ctx).memory = s.memory ∧ (State.countKnotOp s ctx).knots = s.knots ∧ (State.countKnotOp s ctx).net = s.net ∧ (State.countKnotOp s ctx).faults = s.faults ∧ (State.countKnotOp s ctx).power = s.power ∧ (State.countKnotOp s ctx).boot = s.boot :=
  have h := State.countKnotOp_changes s ctx
  ⟨h.mfg, h.pending, h.areas .tick rfl, h.areas .freeN rfl, h.areas .blobs rfl, h.areas .ctl rfl, h.areas .belt rfl, h.areas .supplies rfl, h.areas .intake rfl, h.areas .pipe rfl, h.areas .engine rfl, h.areas .tracks rfl, h.areas .eject rfl, h.areas .field rfl, h.areas .memory rfl, h.areas .knots rfl, h.areas .net rfl, h.areas .faults rfl, h.areas .power rfl, h.areas .boot rfl⟩

@[simp] theorem State.countKnotOp_reg (s : State) (ctx : Nat) (j : Nat) (h : (Entries.only [0x1205, K.knotOps, K.recordsUnrouted]).has j = false) : (State.countKnotOp s ctx).reg j = s.reg j :=
  (State.countKnotOp_changes s ctx).entries j h

@[simp] theorem State.noteFrozen_same (s : State) (st : Nat) :
    (State.noteFrozen s st).mfg = s.mfg ∧ (State.noteFrozen s st).pending = s.pending ∧ (State.noteFrozen s st).tick = s.tick ∧ (State.noteFrozen s st).freeN = s.freeN ∧ (State.noteFrozen s st).blobs = s.blobs ∧ (State.noteFrozen s st).ctl = s.ctl ∧ (State.noteFrozen s st).belt = s.belt ∧ (State.noteFrozen s st).supplies = s.supplies ∧ (State.noteFrozen s st).intake = s.intake ∧ (State.noteFrozen s st).pipe = s.pipe ∧ (State.noteFrozen s st).engine = s.engine ∧ (State.noteFrozen s st).tracks = s.tracks ∧ (State.noteFrozen s st).eject = s.eject ∧ (State.noteFrozen s st).field = s.field ∧ (State.noteFrozen s st).memory = s.memory ∧ (State.noteFrozen s st).knots = s.knots ∧ (State.noteFrozen s st).host = s.host ∧ (State.noteFrozen s st).net = s.net ∧ (State.noteFrozen s st).faults = s.faults ∧ (State.noteFrozen s st).power = s.power ∧ (State.noteFrozen s st).perf = s.perf ∧ (State.noteFrozen s st).boot = s.boot ∧ (State.noteFrozen s st).out = s.out :=
  have h := State.noteFrozen_changes s st
  ⟨h.mfg, h.pending, h.areas .tick rfl, h.areas .freeN rfl, h.areas .blobs rfl, h.areas .ctl rfl, h.areas .belt rfl, h.areas .supplies rfl, h.areas .intake rfl, h.areas .pipe rfl, h.areas .engine rfl, h.areas .tracks rfl, h.areas .eject rfl, h.areas .field rfl, h.areas .memory rfl, h.areas .knots rfl, h.areas .host rfl, h.areas .net rfl, h.areas .faults rfl, h.areas .power rfl, h.areas .perf rfl, h.areas .boot rfl, h.areas .out rfl⟩

@[simp] theorem State.noteFrozen_reg (s : State) (st : Nat) (j : Nat) (h : (Entries.only [K.frozenRefusals]).has j = false) : (State.noteFrozen s st).reg j = s.reg j :=
  (State.noteFrozen_changes s st).entries j h

@[simp] theorem State.knotWaitOp_same (s : State) (k n ctx : Nat) (subtract : Bool) (timeout : Nat) (i : Issuer) :
    (State.knotWaitOp s k n ctx subtract timeout i).2.mfg = s.mfg ∧ (State.knotWaitOp s k n ctx subtract timeout i).2.pending = s.pending ∧ (State.knotWaitOp s k n ctx subtract timeout i).2.tick = s.tick ∧ (State.knotWaitOp s k n ctx subtract timeout i).2.freeN = s.freeN ∧ (State.knotWaitOp s k n ctx subtract timeout i).2.blobs = s.blobs ∧ (State.knotWaitOp s k n ctx subtract timeout i).2.ctl = s.ctl ∧ (State.knotWaitOp s k n ctx subtract timeout i).2.belt = s.belt ∧ (State.knotWaitOp s k n ctx subtract timeout i).2.supplies = s.supplies ∧ (State.knotWaitOp s k n ctx subtract timeout i).2.intake = s.intake ∧ (State.knotWaitOp s k n ctx subtract timeout i).2.pipe = s.pipe ∧ (State.knotWaitOp s k n ctx subtract timeout i).2.engine = s.engine ∧ (State.knotWaitOp s k n ctx subtract timeout i).2.tracks = s.tracks ∧ (State.knotWaitOp s k n ctx subtract timeout i).2.eject = s.eject ∧ (State.knotWaitOp s k n ctx subtract timeout i).2.field = s.field ∧ (State.knotWaitOp s k n ctx subtract timeout i).2.memory = s.memory ∧ (State.knotWaitOp s k n ctx subtract timeout i).2.net = s.net ∧ (State.knotWaitOp s k n ctx subtract timeout i).2.faults = s.faults ∧ (State.knotWaitOp s k n ctx subtract timeout i).2.power = s.power ∧ (State.knotWaitOp s k n ctx subtract timeout i).2.boot = s.boot :=
  have h := State.knotWaitOp_changes s k n ctx subtract timeout i
  ⟨h.mfg, h.pending, h.areas .tick rfl, h.areas .freeN rfl, h.areas .blobs rfl, h.areas .ctl rfl, h.areas .belt rfl, h.areas .supplies rfl, h.areas .intake rfl, h.areas .pipe rfl, h.areas .engine rfl, h.areas .tracks rfl, h.areas .eject rfl, h.areas .field rfl, h.areas .memory rfl, h.areas .net rfl, h.areas .faults rfl, h.areas .power rfl, h.areas .boot rfl⟩

@[simp] theorem State.knotWaitOp_reg (s : State) (k n ctx : Nat) (subtract : Bool) (timeout : Nat) (i : Issuer) (j : Nat) (h : (Entries.only [0x1205, K.waitersInUse, K.waitersPeak, K.knotOps, K.frozenRefusals, K.recordsUnrouted]).has j = false) : (State.knotWaitOp s k n ctx subtract timeout i).2.reg j = s.reg j :=
  (State.knotWaitOp_changes s k n ctx subtract timeout i).entries j h

@[simp] theorem State.knotAdd_same (s : State) (k v ctx : Nat) (sub : Bool) :
    (State.knotAdd s k v ctx sub).2.mfg = s.mfg ∧ (State.knotAdd s k v ctx sub).2.pending = s.pending ∧ (State.knotAdd s k v ctx sub).2.tick = s.tick ∧ (State.knotAdd s k v ctx sub).2.freeN = s.freeN ∧ (State.knotAdd s k v ctx sub).2.blobs = s.blobs ∧ (State.knotAdd s k v ctx sub).2.ctl = s.ctl ∧ (State.knotAdd s k v ctx sub).2.belt = s.belt ∧ (State.knotAdd s k v ctx sub).2.supplies = s.supplies ∧ (State.knotAdd s k v ctx sub).2.intake = s.intake ∧ (State.knotAdd s k v ctx sub).2.pipe = s.pipe ∧ (State.knotAdd s k v ctx sub).2.engine = s.engine ∧ (State.knotAdd s k v ctx sub).2.tracks = s.tracks ∧ (State.knotAdd s k v ctx sub).2.eject = s.eject ∧ (State.knotAdd s k v ctx sub).2.field = s.field ∧ (State.knotAdd s k v ctx sub).2.memory = s.memory ∧ (State.knotAdd s k v ctx sub).2.net = s.net ∧ (State.knotAdd s k v ctx sub).2.faults = s.faults ∧ (State.knotAdd s k v ctx sub).2.power = s.power ∧ (State.knotAdd s k v ctx sub).2.boot = s.boot :=
  have h := State.knotAdd_changes s k v ctx sub
  ⟨h.mfg, h.pending, h.areas .tick rfl, h.areas .freeN rfl, h.areas .blobs rfl, h.areas .ctl rfl, h.areas .belt rfl, h.areas .supplies rfl, h.areas .intake rfl, h.areas .pipe rfl, h.areas .engine rfl, h.areas .tracks rfl, h.areas .eject rfl, h.areas .field rfl, h.areas .memory rfl, h.areas .net rfl, h.areas .faults rfl, h.areas .power rfl, h.areas .boot rfl⟩

@[simp] theorem State.knotAdd_reg (s : State) (k v ctx : Nat) (sub : Bool) (j : Nat) (h : (Entries.only [0x1205, K.waitersInUse, K.waitersPeak, K.knotOps, K.knotSaturations, K.frozenRefusals, K.commandsCompleted, K.recordsUnrouted]).has j = false) : (State.knotAdd s k v ctx sub).2.reg j = s.reg j :=
  (State.knotAdd_changes s k v ctx sub).entries j h

@[simp] theorem State.knotCmd_same (s : State) (ring : Nat) (c : RingCmd) :
    (State.knotCmd s ring c).mfg = s.mfg ∧ (State.knotCmd s ring c).pending = s.pending ∧ (State.knotCmd s ring c).tick = s.tick ∧ (State.knotCmd s ring c).freeN = s.freeN ∧ (State.knotCmd s ring c).blobs = s.blobs ∧ (State.knotCmd s ring c).ctl = s.ctl ∧ (State.knotCmd s ring c).belt = s.belt ∧ (State.knotCmd s ring c).supplies = s.supplies ∧ (State.knotCmd s ring c).intake = s.intake ∧ (State.knotCmd s ring c).pipe = s.pipe ∧ (State.knotCmd s ring c).engine = s.engine ∧ (State.knotCmd s ring c).tracks = s.tracks ∧ (State.knotCmd s ring c).eject = s.eject ∧ (State.knotCmd s ring c).field = s.field ∧ (State.knotCmd s ring c).memory = s.memory ∧ (State.knotCmd s ring c).net = s.net ∧ (State.knotCmd s ring c).faults = s.faults ∧ (State.knotCmd s ring c).power = s.power ∧ (State.knotCmd s ring c).boot = s.boot :=
  have h := State.knotCmd_changes s ring c
  ⟨h.mfg, h.pending, h.areas .tick rfl, h.areas .freeN rfl, h.areas .blobs rfl, h.areas .ctl rfl, h.areas .belt rfl, h.areas .supplies rfl, h.areas .intake rfl, h.areas .pipe rfl, h.areas .engine rfl, h.areas .tracks rfl, h.areas .eject rfl, h.areas .field rfl, h.areas .memory rfl, h.areas .net rfl, h.areas .faults rfl, h.areas .power rfl, h.areas .boot rfl⟩

@[simp] theorem State.knotCmd_reg (s : State) (ring : Nat) (c : RingCmd) (j : Nat) (h : (Entries.only [0x1205, K.waitersInUse, K.waitersPeak, K.knotOps, K.knotSaturations, K.frozenRefusals, K.commandsCompleted, K.recordsUnrouted]).has j = false) : (State.knotCmd s ring c).reg j = s.reg j :=
  (State.knotCmd_changes s ring c).entries j h

@[simp] theorem State.startKnot_same (s : State) (ring : Nat) (c : RingCmd) :
    (State.startKnot s ring c).mfg = s.mfg ∧ (State.startKnot s ring c).pending = s.pending ∧ (State.startKnot s ring c).tick = s.tick ∧ (State.startKnot s ring c).freeN = s.freeN ∧ (State.startKnot s ring c).blobs = s.blobs ∧ (State.startKnot s ring c).ctl = s.ctl ∧ (State.startKnot s ring c).belt = s.belt ∧ (State.startKnot s ring c).supplies = s.supplies ∧ (State.startKnot s ring c).intake = s.intake ∧ (State.startKnot s ring c).pipe = s.pipe ∧ (State.startKnot s ring c).engine = s.engine ∧ (State.startKnot s ring c).tracks = s.tracks ∧ (State.startKnot s ring c).eject = s.eject ∧ (State.startKnot s ring c).field = s.field ∧ (State.startKnot s ring c).memory = s.memory ∧ (State.startKnot s ring c).net = s.net ∧ (State.startKnot s ring c).faults = s.faults ∧ (State.startKnot s ring c).power = s.power ∧ (State.startKnot s ring c).boot = s.boot :=
  have h := State.startKnot_changes s ring c
  ⟨h.mfg, h.pending, h.areas .tick rfl, h.areas .freeN rfl, h.areas .blobs rfl, h.areas .ctl rfl, h.areas .belt rfl, h.areas .supplies rfl, h.areas .intake rfl, h.areas .pipe rfl, h.areas .engine rfl, h.areas .tracks rfl, h.areas .eject rfl, h.areas .field rfl, h.areas .memory rfl, h.areas .net rfl, h.areas .faults rfl, h.areas .power rfl, h.areas .boot rfl⟩

@[simp] theorem State.startKnot_reg (s : State) (ring : Nat) (c : RingCmd) (j : Nat) (h : (Entries.only [0x1205, K.waitersInUse, K.waitersPeak, K.knotOps, K.knotSaturations, K.frozenRefusals, K.commandsCompleted, K.recordsUnrouted]).has j = false) : (State.startKnot s ring c).reg j = s.reg j :=
  (State.startKnot_changes s ring c).entries j h

@[simp] theorem State.answered_same (s : State) (p : TPacket) :
    (State.answered s p).2.mfg = s.mfg ∧ (State.answered s p).2.pending = s.pending ∧ (State.answered s p).2.tick = s.tick ∧ (State.answered s p).2.freeN = s.freeN ∧ (State.answered s p).2.blobs = s.blobs ∧ (State.answered s p).2.ctl = s.ctl ∧ (State.answered s p).2.belt = s.belt ∧ (State.answered s p).2.supplies = s.supplies ∧ (State.answered s p).2.intake = s.intake ∧ (State.answered s p).2.pipe = s.pipe ∧ (State.answered s p).2.engine = s.engine ∧ (State.answered s p).2.tracks = s.tracks ∧ (State.answered s p).2.eject = s.eject ∧ (State.answered s p).2.field = s.field ∧ (State.answered s p).2.memory = s.memory ∧ (State.answered s p).2.host = s.host ∧ (State.answered s p).2.net = s.net ∧ (State.answered s p).2.faults = s.faults ∧ (State.answered s p).2.power = s.power ∧ (State.answered s p).2.perf = s.perf ∧ (State.answered s p).2.boot = s.boot ∧ (State.answered s p).2.out = s.out :=
  have h := State.answered_changes s p
  ⟨h.mfg, h.pending, h.areas .tick rfl, h.areas .freeN rfl, h.areas .blobs rfl, h.areas .ctl rfl, h.areas .belt rfl, h.areas .supplies rfl, h.areas .intake rfl, h.areas .pipe rfl, h.areas .engine rfl, h.areas .tracks rfl, h.areas .eject rfl, h.areas .field rfl, h.areas .memory rfl, h.areas .host rfl, h.areas .net rfl, h.areas .faults rfl, h.areas .power rfl, h.areas .perf rfl, h.areas .boot rfl, h.areas .out rfl⟩

@[simp] theorem State.answered_reg (s : State) (p : TPacket) (k : Nat) : (State.answered s p).2.reg k = s.reg k :=
  (State.answered_changes s p).entries k (Entries.has_none k)

@[simp] theorem State.opRefused_same (s : State) (c knot value st : Nat) :
    (State.opRefused s c knot value st).mfg = s.mfg ∧ (State.opRefused s c knot value st).pending = s.pending ∧ (State.opRefused s c knot value st).tick = s.tick ∧ (State.opRefused s c knot value st).freeN = s.freeN ∧ (State.opRefused s c knot value st).blobs = s.blobs ∧ (State.opRefused s c knot value st).ctl = s.ctl ∧ (State.opRefused s c knot value st).belt = s.belt ∧ (State.opRefused s c knot value st).supplies = s.supplies ∧ (State.opRefused s c knot value st).intake = s.intake ∧ (State.opRefused s c knot value st).pipe = s.pipe ∧ (State.opRefused s c knot value st).engine = s.engine ∧ (State.opRefused s c knot value st).tracks = s.tracks ∧ (State.opRefused s c knot value st).eject = s.eject ∧ (State.opRefused s c knot value st).field = s.field ∧ (State.opRefused s c knot value st).memory = s.memory ∧ (State.opRefused s c knot value st).knots = s.knots ∧ (State.opRefused s c knot value st).net = s.net ∧ (State.opRefused s c knot value st).faults = s.faults ∧ (State.opRefused s c knot value st).power = s.power ∧ (State.opRefused s c knot value st).boot = s.boot :=
  have h := State.opRefused_changes s c knot value st
  ⟨h.mfg, h.pending, h.areas .tick rfl, h.areas .freeN rfl, h.areas .blobs rfl, h.areas .ctl rfl, h.areas .belt rfl, h.areas .supplies rfl, h.areas .intake rfl, h.areas .pipe rfl, h.areas .engine rfl, h.areas .tracks rfl, h.areas .eject rfl, h.areas .field rfl, h.areas .memory rfl, h.areas .knots rfl, h.areas .net rfl, h.areas .faults rfl, h.areas .power rfl, h.areas .boot rfl⟩

@[simp] theorem State.opRefused_reg (s : State) (c knot value st : Nat) (j : Nat) (h : (Entries.only [0x1205, K.knotOpsRefused, K.recordsUnrouted]).has j = false) : (State.opRefused s c knot value st).reg j = s.reg j :=
  (State.opRefused_changes s c knot value st).entries j h

@[simp] theorem State.endRequest_same (s : State) (r : TReq) (status result : Nat) :
    (State.endRequest s r status result).mfg = s.mfg ∧ (State.endRequest s r status result).pending = s.pending ∧ (State.endRequest s r status result).tick = s.tick ∧ (State.endRequest s r status result).freeN = s.freeN ∧ (State.endRequest s r status result).blobs = s.blobs ∧ (State.endRequest s r status result).ctl = s.ctl ∧ (State.endRequest s r status result).belt = s.belt ∧ (State.endRequest s r status result).supplies = s.supplies ∧ (State.endRequest s r status result).intake = s.intake ∧ (State.endRequest s r status result).pipe = s.pipe ∧ (State.endRequest s r status result).engine = s.engine ∧ (State.endRequest s r status result).tracks = s.tracks ∧ (State.endRequest s r status result).eject = s.eject ∧ (State.endRequest s r status result).field = s.field ∧ (State.endRequest s r status result).memory = s.memory ∧ (State.endRequest s r status result).net = s.net ∧ (State.endRequest s r status result).faults = s.faults ∧ (State.endRequest s r status result).power = s.power ∧ (State.endRequest s r status result).boot = s.boot :=
  have h := State.endRequest_changes s r status result
  ⟨h.mfg, h.pending, h.areas .tick rfl, h.areas .freeN rfl, h.areas .blobs rfl, h.areas .ctl rfl, h.areas .belt rfl, h.areas .supplies rfl, h.areas .intake rfl, h.areas .pipe rfl, h.areas .engine rfl, h.areas .tracks rfl, h.areas .eject rfl, h.areas .field rfl, h.areas .memory rfl, h.areas .net rfl, h.areas .faults rfl, h.areas .power rfl, h.areas .boot rfl⟩

@[simp] theorem State.endRequest_reg (s : State) (r : TReq) (status result : Nat) (j : Nat) (h : (Entries.only [0x1205, K.knotOpsRefused, K.commandsCompleted, K.recordsUnrouted]).has j = false) : (State.endRequest s r status result).reg j = s.reg j :=
  (State.endRequest_changes s r status result).entries j h

@[simp] theorem State.complete_same (s : State) (p : TPacket) (status result : Nat) :
    (State.complete s p status result).mfg = s.mfg ∧ (State.complete s p status result).pending = s.pending ∧ (State.complete s p status result).tick = s.tick ∧ (State.complete s p status result).freeN = s.freeN ∧ (State.complete s p status result).blobs = s.blobs ∧ (State.complete s p status result).ctl = s.ctl ∧ (State.complete s p status result).belt = s.belt ∧ (State.complete s p status result).supplies = s.supplies ∧ (State.complete s p status result).intake = s.intake ∧ (State.complete s p status result).pipe = s.pipe ∧ (State.complete s p status result).engine = s.engine ∧ (State.complete s p status result).tracks = s.tracks ∧ (State.complete s p status result).eject = s.eject ∧ (State.complete s p status result).field = s.field ∧ (State.complete s p status result).memory = s.memory ∧ (State.complete s p status result).net = s.net ∧ (State.complete s p status result).faults = s.faults ∧ (State.complete s p status result).power = s.power ∧ (State.complete s p status result).boot = s.boot :=
  have h := State.complete_changes s p status result
  ⟨h.mfg, h.pending, h.areas .tick rfl, h.areas .freeN rfl, h.areas .blobs rfl, h.areas .ctl rfl, h.areas .belt rfl, h.areas .supplies rfl, h.areas .intake rfl, h.areas .pipe rfl, h.areas .engine rfl, h.areas .tracks rfl, h.areas .eject rfl, h.areas .field rfl, h.areas .memory rfl, h.areas .net rfl, h.areas .faults rfl, h.areas .power rfl, h.areas .boot rfl⟩

@[simp] theorem State.complete_reg (s : State) (p : TPacket) (status result : Nat) (j : Nat) (h : (Entries.only [0x1205, K.knotOpsRefused, K.commandsCompleted, K.recordsUnrouted]).has j = false) : (State.complete s p status result).reg j = s.reg j :=
  (State.complete_changes s p status result).entries j h

@[simp] theorem State.disableQueue_same (s : State) (q : Nat) (unbind : Bool) :
    (State.disableQueue s q unbind).mfg = s.mfg ∧ (State.disableQueue s q unbind).pending = s.pending ∧ (State.disableQueue s q unbind).tick = s.tick ∧ (State.disableQueue s q unbind).freeN = s.freeN ∧ (State.disableQueue s q unbind).blobs = s.blobs ∧ (State.disableQueue s q unbind).ctl = s.ctl ∧ (State.disableQueue s q unbind).belt = s.belt ∧ (State.disableQueue s q unbind).supplies = s.supplies ∧ (State.disableQueue s q unbind).intake = s.intake ∧ (State.disableQueue s q unbind).pipe = s.pipe ∧ (State.disableQueue s q unbind).engine = s.engine ∧ (State.disableQueue s q unbind).tracks = s.tracks ∧ (State.disableQueue s q unbind).eject = s.eject ∧ (State.disableQueue s q unbind).field = s.field ∧ (State.disableQueue s q unbind).memory = s.memory ∧ (State.disableQueue s q unbind).knots = s.knots ∧ (State.disableQueue s q unbind).net = s.net ∧ (State.disableQueue s q unbind).faults = s.faults ∧ (State.disableQueue s q unbind).power = s.power ∧ (State.disableQueue s q unbind).perf = s.perf ∧ (State.disableQueue s q unbind).boot = s.boot ∧ (State.disableQueue s q unbind).out = s.out :=
  have h := State.disableQueue_changes s q unbind
  ⟨h.mfg, h.pending, h.areas .tick rfl, h.areas .freeN rfl, h.areas .blobs rfl, h.areas .ctl rfl, h.areas .belt rfl, h.areas .supplies rfl, h.areas .intake rfl, h.areas .pipe rfl, h.areas .engine rfl, h.areas .tracks rfl, h.areas .eject rfl, h.areas .field rfl, h.areas .memory rfl, h.areas .knots rfl, h.areas .net rfl, h.areas .faults rfl, h.areas .power rfl, h.areas .perf rfl, h.areas .boot rfl, h.areas .out rfl⟩

@[simp] theorem State.disableQueue_reg (s : State) (q : Nat) (unbind : Bool) (j : Nat) (h : (Entries.only [0x1205]).has j = false) : (State.disableQueue s q unbind).reg j = s.reg j :=
  (State.disableQueue_changes s q unbind).entries j h

@[simp] theorem State.actRefused_same (s : State) (c : Nat) (a : KnotAct) (st : Nat) :
    (State.actRefused s c a st).mfg = s.mfg ∧ (State.actRefused s c a st).pending = s.pending ∧ (State.actRefused s c a st).tick = s.tick ∧ (State.actRefused s c a st).freeN = s.freeN ∧ (State.actRefused s c a st).blobs = s.blobs ∧ (State.actRefused s c a st).ctl = s.ctl ∧ (State.actRefused s c a st).belt = s.belt ∧ (State.actRefused s c a st).supplies = s.supplies ∧ (State.actRefused s c a st).intake = s.intake ∧ (State.actRefused s c a st).pipe = s.pipe ∧ (State.actRefused s c a st).engine = s.engine ∧ (State.actRefused s c a st).tracks = s.tracks ∧ (State.actRefused s c a st).eject = s.eject ∧ (State.actRefused s c a st).field = s.field ∧ (State.actRefused s c a st).memory = s.memory ∧ (State.actRefused s c a st).knots = s.knots ∧ (State.actRefused s c a st).net = s.net ∧ (State.actRefused s c a st).faults = s.faults ∧ (State.actRefused s c a st).power = s.power ∧ (State.actRefused s c a st).boot = s.boot :=
  have h := State.actRefused_changes s c a st
  ⟨h.mfg, h.pending, h.areas .tick rfl, h.areas .freeN rfl, h.areas .blobs rfl, h.areas .ctl rfl, h.areas .belt rfl, h.areas .supplies rfl, h.areas .intake rfl, h.areas .pipe rfl, h.areas .engine rfl, h.areas .tracks rfl, h.areas .eject rfl, h.areas .field rfl, h.areas .memory rfl, h.areas .knots rfl, h.areas .net rfl, h.areas .faults rfl, h.areas .power rfl, h.areas .boot rfl⟩

@[simp] theorem State.actRefused_reg (s : State) (c : Nat) (a : KnotAct) (st : Nat) (j : Nat) (h : (Entries.only [0x1205, K.knotOpsRefused, K.recordsUnrouted]).has j = false) : (State.actRefused s c a st).reg j = s.reg j :=
  (State.actRefused_changes s c a st).entries j h

@[simp] theorem State.signalAct_same (s : State) (c : Nat) (i : Issuer) (a : KnotAct) :
    (State.signalAct s c i a).mfg = s.mfg ∧ (State.signalAct s c i a).pending = s.pending ∧ (State.signalAct s c i a).tick = s.tick ∧ (State.signalAct s c i a).freeN = s.freeN ∧ (State.signalAct s c i a).blobs = s.blobs ∧ (State.signalAct s c i a).ctl = s.ctl ∧ (State.signalAct s c i a).belt = s.belt ∧ (State.signalAct s c i a).supplies = s.supplies ∧ (State.signalAct s c i a).intake = s.intake ∧ (State.signalAct s c i a).pipe = s.pipe ∧ (State.signalAct s c i a).engine = s.engine ∧ (State.signalAct s c i a).tracks = s.tracks ∧ (State.signalAct s c i a).eject = s.eject ∧ (State.signalAct s c i a).field = s.field ∧ (State.signalAct s c i a).memory = s.memory ∧ (State.signalAct s c i a).net = s.net ∧ (State.signalAct s c i a).faults = s.faults ∧ (State.signalAct s c i a).power = s.power ∧ (State.signalAct s c i a).boot = s.boot :=
  have h := State.signalAct_changes s c i a
  ⟨h.mfg, h.pending, h.areas .tick rfl, h.areas .freeN rfl, h.areas .blobs rfl, h.areas .ctl rfl, h.areas .belt rfl, h.areas .supplies rfl, h.areas .intake rfl, h.areas .pipe rfl, h.areas .engine rfl, h.areas .tracks rfl, h.areas .eject rfl, h.areas .field rfl, h.areas .memory rfl, h.areas .net rfl, h.areas .faults rfl, h.areas .power rfl, h.areas .boot rfl⟩

@[simp] theorem State.signalAct_reg (s : State) (c : Nat) (i : Issuer) (a : KnotAct) (j : Nat) (h : (Entries.only [0x1205, K.waitersInUse, K.waitersPeak, K.knotOps, K.knotSaturations, K.frozenRefusals, K.knotOpsRefused, K.commandsCompleted, K.recordsUnrouted]).has j = false) : (State.signalAct s c i a).reg j = s.reg j :=
  (State.signalAct_changes s c i a).entries j h

@[simp] theorem State.setEth_same (s : State) (p : Nat) (x : EthPort) :
    (State.setEth s p x).mfg = s.mfg ∧ (State.setEth s p x).pending = s.pending ∧ (State.setEth s p x).tick = s.tick ∧ (State.setEth s p x).freeN = s.freeN ∧ (State.setEth s p x).blobs = s.blobs ∧ (State.setEth s p x).ctl = s.ctl ∧ (State.setEth s p x).belt = s.belt ∧ (State.setEth s p x).supplies = s.supplies ∧ (State.setEth s p x).intake = s.intake ∧ (State.setEth s p x).pipe = s.pipe ∧ (State.setEth s p x).engine = s.engine ∧ (State.setEth s p x).tracks = s.tracks ∧ (State.setEth s p x).eject = s.eject ∧ (State.setEth s p x).field = s.field ∧ (State.setEth s p x).memory = s.memory ∧ (State.setEth s p x).knots = s.knots ∧ (State.setEth s p x).host = s.host ∧ (State.setEth s p x).faults = s.faults ∧ (State.setEth s p x).power = s.power ∧ (State.setEth s p x).perf = s.perf ∧ (State.setEth s p x).boot = s.boot ∧ (State.setEth s p x).out = s.out :=
  have h := State.setEth_changes s p x
  ⟨h.mfg, h.pending, h.areas .tick rfl, h.areas .freeN rfl, h.areas .blobs rfl, h.areas .ctl rfl, h.areas .belt rfl, h.areas .supplies rfl, h.areas .intake rfl, h.areas .pipe rfl, h.areas .engine rfl, h.areas .tracks rfl, h.areas .eject rfl, h.areas .field rfl, h.areas .memory rfl, h.areas .knots rfl, h.areas .host rfl, h.areas .faults rfl, h.areas .power rfl, h.areas .perf rfl, h.areas .boot rfl, h.areas .out rfl⟩

@[simp] theorem State.setEth_reg (s : State) (p : Nat) (x : EthPort) (k : Nat) : (State.setEth s p x).reg k = s.reg k :=
  (State.setEth_changes s p x).entries k (Entries.has_none k)

@[simp] theorem State.frameIn_same (s : State) (p n : Nat) :
    (State.frameIn s p n).mfg = s.mfg ∧ (State.frameIn s p n).pending = s.pending ∧ (State.frameIn s p n).tick = s.tick ∧ (State.frameIn s p n).freeN = s.freeN ∧ (State.frameIn s p n).blobs = s.blobs ∧ (State.frameIn s p n).ctl = s.ctl ∧ (State.frameIn s p n).belt = s.belt ∧ (State.frameIn s p n).supplies = s.supplies ∧ (State.frameIn s p n).intake = s.intake ∧ (State.frameIn s p n).pipe = s.pipe ∧ (State.frameIn s p n).engine = s.engine ∧ (State.frameIn s p n).tracks = s.tracks ∧ (State.frameIn s p n).eject = s.eject ∧ (State.frameIn s p n).field = s.field ∧ (State.frameIn s p n).memory = s.memory ∧ (State.frameIn s p n).knots = s.knots ∧ (State.frameIn s p n).host = s.host ∧ (State.frameIn s p n).net = s.net ∧ (State.frameIn s p n).faults = s.faults ∧ (State.frameIn s p n).power = s.power ∧ (State.frameIn s p n).boot = s.boot ∧ (State.frameIn s p n).out = s.out :=
  have h := State.frameIn_changes s p n
  ⟨h.mfg, h.pending, h.areas .tick rfl, h.areas .freeN rfl, h.areas .blobs rfl, h.areas .ctl rfl, h.areas .belt rfl, h.areas .supplies rfl, h.areas .intake rfl, h.areas .pipe rfl, h.areas .engine rfl, h.areas .tracks rfl, h.areas .eject rfl, h.areas .field rfl, h.areas .memory rfl, h.areas .knots rfl, h.areas .host rfl, h.areas .net rfl, h.areas .faults rfl, h.areas .power rfl, h.areas .boot rfl, h.areas .out rfl⟩

@[simp] theorem State.frameIn_reg (s : State) (p n : Nat) (j : Nat) (h : (Entries.only [0x1306]).has j = false) : (State.frameIn s p n).reg j = s.reg j :=
  (State.frameIn_changes s p n).entries j h

@[simp] theorem State.frameDrop_same (s : State) (p : Nat) :
    (State.frameDrop s p).mfg = s.mfg ∧ (State.frameDrop s p).pending = s.pending ∧ (State.frameDrop s p).tick = s.tick ∧ (State.frameDrop s p).freeN = s.freeN ∧ (State.frameDrop s p).blobs = s.blobs ∧ (State.frameDrop s p).ctl = s.ctl ∧ (State.frameDrop s p).belt = s.belt ∧ (State.frameDrop s p).supplies = s.supplies ∧ (State.frameDrop s p).intake = s.intake ∧ (State.frameDrop s p).pipe = s.pipe ∧ (State.frameDrop s p).engine = s.engine ∧ (State.frameDrop s p).tracks = s.tracks ∧ (State.frameDrop s p).eject = s.eject ∧ (State.frameDrop s p).field = s.field ∧ (State.frameDrop s p).memory = s.memory ∧ (State.frameDrop s p).knots = s.knots ∧ (State.frameDrop s p).host = s.host ∧ (State.frameDrop s p).net = s.net ∧ (State.frameDrop s p).faults = s.faults ∧ (State.frameDrop s p).power = s.power ∧ (State.frameDrop s p).perf = s.perf ∧ (State.frameDrop s p).boot = s.boot ∧ (State.frameDrop s p).out = s.out :=
  have h := State.frameDrop_changes s p
  ⟨h.mfg, h.pending, h.areas .tick rfl, h.areas .freeN rfl, h.areas .blobs rfl, h.areas .ctl rfl, h.areas .belt rfl, h.areas .supplies rfl, h.areas .intake rfl, h.areas .pipe rfl, h.areas .engine rfl, h.areas .tracks rfl, h.areas .eject rfl, h.areas .field rfl, h.areas .memory rfl, h.areas .knots rfl, h.areas .host rfl, h.areas .net rfl, h.areas .faults rfl, h.areas .power rfl, h.areas .perf rfl, h.areas .boot rfl, h.areas .out rfl⟩

@[simp] theorem State.frameDrop_reg (s : State) (p : Nat) (j : Nat) (h : (Entries.only [0x1306]).has j = false) : (State.frameDrop s p).reg j = s.reg j :=
  (State.frameDrop_changes s p).entries j h

@[simp] theorem State.sendHello_same (s : State) (d : Nat) (asked : Bool) :
    (State.sendHello s d asked).mfg = s.mfg ∧ (State.sendHello s d asked).pending = s.pending ∧ (State.sendHello s d asked).tick = s.tick ∧ (State.sendHello s d asked).freeN = s.freeN ∧ (State.sendHello s d asked).blobs = s.blobs ∧ (State.sendHello s d asked).ctl = s.ctl ∧ (State.sendHello s d asked).belt = s.belt ∧ (State.sendHello s d asked).supplies = s.supplies ∧ (State.sendHello s d asked).intake = s.intake ∧ (State.sendHello s d asked).pipe = s.pipe ∧ (State.sendHello s d asked).engine = s.engine ∧ (State.sendHello s d asked).tracks = s.tracks ∧ (State.sendHello s d asked).eject = s.eject ∧ (State.sendHello s d asked).field = s.field ∧ (State.sendHello s d asked).memory = s.memory ∧ (State.sendHello s d asked).host = s.host ∧ (State.sendHello s d asked).net = s.net ∧ (State.sendHello s d asked).faults = s.faults ∧ (State.sendHello s d asked).power = s.power ∧ (State.sendHello s d asked).boot = s.boot :=
  have h := State.sendHello_changes s d asked
  ⟨h.mfg, h.pending, h.areas .tick rfl, h.areas .freeN rfl, h.areas .blobs rfl, h.areas .ctl rfl, h.areas .belt rfl, h.areas .supplies rfl, h.areas .intake rfl, h.areas .pipe rfl, h.areas .engine rfl, h.areas .tracks rfl, h.areas .eject rfl, h.areas .field rfl, h.areas .memory rfl, h.areas .host rfl, h.areas .net rfl, h.areas .faults rfl, h.areas .power rfl, h.areas .boot rfl⟩

@[simp] theorem State.sendHello_reg (s : State) (d : Nat) (asked : Bool) (k : Nat) : (State.sendHello s d asked).reg k = s.reg k :=
  (State.sendHello_changes s d asked).entries k (Entries.has_none k)

@[simp] theorem State.setGroup_same (s : State) (g : Group) :
    (State.setGroup s g).mfg = s.mfg ∧ (State.setGroup s g).pending = s.pending ∧ (State.setGroup s g).tick = s.tick ∧ (State.setGroup s g).freeN = s.freeN ∧ (State.setGroup s g).blobs = s.blobs ∧ (State.setGroup s g).ctl = s.ctl ∧ (State.setGroup s g).belt = s.belt ∧ (State.setGroup s g).supplies = s.supplies ∧ (State.setGroup s g).intake = s.intake ∧ (State.setGroup s g).pipe = s.pipe ∧ (State.setGroup s g).engine = s.engine ∧ (State.setGroup s g).tracks = s.tracks ∧ (State.setGroup s g).eject = s.eject ∧ (State.setGroup s g).field = s.field ∧ (State.setGroup s g).memory = s.memory ∧ (State.setGroup s g).host = s.host ∧ (State.setGroup s g).net = s.net ∧ (State.setGroup s g).faults = s.faults ∧ (State.setGroup s g).power = s.power ∧ (State.setGroup s g).perf = s.perf ∧ (State.setGroup s g).boot = s.boot ∧ (State.setGroup s g).out = s.out :=
  have h := State.setGroup_changes s g
  ⟨h.mfg, h.pending, h.areas .tick rfl, h.areas .freeN rfl, h.areas .blobs rfl, h.areas .ctl rfl, h.areas .belt rfl, h.areas .supplies rfl, h.areas .intake rfl, h.areas .pipe rfl, h.areas .engine rfl, h.areas .tracks rfl, h.areas .eject rfl, h.areas .field rfl, h.areas .memory rfl, h.areas .host rfl, h.areas .net rfl, h.areas .faults rfl, h.areas .power rfl, h.areas .perf rfl, h.areas .boot rfl, h.areas .out rfl⟩

@[simp] theorem State.setGroup_reg (s : State) (g : Group) (j : Nat) (h : (Entries.only [K.groupState, K.groupFailCause]).has j = false) : (State.setGroup s g).reg j = s.reg j :=
  (State.setGroup_changes s g).entries j h

@[simp] theorem State.tryForm_same (s : State) :
    (State.tryForm s).mfg = s.mfg ∧ (State.tryForm s).pending = s.pending ∧ (State.tryForm s).tick = s.tick ∧ (State.tryForm s).freeN = s.freeN ∧ (State.tryForm s).blobs = s.blobs ∧ (State.tryForm s).ctl = s.ctl ∧ (State.tryForm s).belt = s.belt ∧ (State.tryForm s).supplies = s.supplies ∧ (State.tryForm s).intake = s.intake ∧ (State.tryForm s).pipe = s.pipe ∧ (State.tryForm s).engine = s.engine ∧ (State.tryForm s).tracks = s.tracks ∧ (State.tryForm s).eject = s.eject ∧ (State.tryForm s).field = s.field ∧ (State.tryForm s).memory = s.memory ∧ (State.tryForm s).host = s.host ∧ (State.tryForm s).net = s.net ∧ (State.tryForm s).faults = s.faults ∧ (State.tryForm s).power = s.power ∧ (State.tryForm s).perf = s.perf ∧ (State.tryForm s).boot = s.boot :=
  have h := State.tryForm_changes s
  ⟨h.mfg, h.pending, h.areas .tick rfl, h.areas .freeN rfl, h.areas .blobs rfl, h.areas .ctl rfl, h.areas .belt rfl, h.areas .supplies rfl, h.areas .intake rfl, h.areas .pipe rfl, h.areas .engine rfl, h.areas .tracks rfl, h.areas .eject rfl, h.areas .field rfl, h.areas .memory rfl, h.areas .host rfl, h.areas .net rfl, h.areas .faults rfl, h.areas .power rfl, h.areas .perf rfl, h.areas .boot rfl⟩

@[simp] theorem State.tryForm_reg (s : State) (j : Nat) (h : (Entries.only [K.groupState, K.groupFailCause]).has j = false) : (State.tryForm s).reg j = s.reg j :=
  (State.tryForm_changes s).entries j h

@[simp] theorem State.groupFail_same (s : State) (cause : Nat) :
    (State.groupFail s cause).mfg = s.mfg ∧ (State.groupFail s cause).pending = s.pending ∧ (State.groupFail s cause).tick = s.tick ∧ (State.groupFail s cause).freeN = s.freeN ∧ (State.groupFail s cause).blobs = s.blobs ∧ (State.groupFail s cause).ctl = s.ctl ∧ (State.groupFail s cause).belt = s.belt ∧ (State.groupFail s cause).supplies = s.supplies ∧ (State.groupFail s cause).intake = s.intake ∧ (State.groupFail s cause).pipe = s.pipe ∧ (State.groupFail s cause).engine = s.engine ∧ (State.groupFail s cause).tracks = s.tracks ∧ (State.groupFail s cause).eject = s.eject ∧ (State.groupFail s cause).field = s.field ∧ (State.groupFail s cause).memory = s.memory ∧ (State.groupFail s cause).host = s.host ∧ (State.groupFail s cause).net = s.net ∧ (State.groupFail s cause).faults = s.faults ∧ (State.groupFail s cause).power = s.power ∧ (State.groupFail s cause).perf = s.perf ∧ (State.groupFail s cause).boot = s.boot ∧ (State.groupFail s cause).out = s.out :=
  have h := State.groupFail_changes s cause
  ⟨h.mfg, h.pending, h.areas .tick rfl, h.areas .freeN rfl, h.areas .blobs rfl, h.areas .ctl rfl, h.areas .belt rfl, h.areas .supplies rfl, h.areas .intake rfl, h.areas .pipe rfl, h.areas .engine rfl, h.areas .tracks rfl, h.areas .eject rfl, h.areas .field rfl, h.areas .memory rfl, h.areas .host rfl, h.areas .net rfl, h.areas .faults rfl, h.areas .power rfl, h.areas .perf rfl, h.areas .boot rfl, h.areas .out rfl⟩

@[simp] theorem State.groupFail_reg (s : State) (cause : Nat) (j : Nat) (h : (Entries.only [K.groupState, K.groupFailCause]).has j = false) : (State.groupFail s cause).reg j = s.reg j :=
  (State.groupFail_changes s cause).entries j h

@[simp] theorem State.setOut_same (s : State) (o : Nat) (x : DirOut) :
    (State.setOut s o x).mfg = s.mfg ∧ (State.setOut s o x).pending = s.pending ∧ (State.setOut s o x).tick = s.tick ∧ (State.setOut s o x).freeN = s.freeN ∧ (State.setOut s o x).blobs = s.blobs ∧ (State.setOut s o x).ctl = s.ctl ∧ (State.setOut s o x).belt = s.belt ∧ (State.setOut s o x).supplies = s.supplies ∧ (State.setOut s o x).intake = s.intake ∧ (State.setOut s o x).pipe = s.pipe ∧ (State.setOut s o x).engine = s.engine ∧ (State.setOut s o x).tracks = s.tracks ∧ (State.setOut s o x).eject = s.eject ∧ (State.setOut s o x).memory = s.memory ∧ (State.setOut s o x).knots = s.knots ∧ (State.setOut s o x).host = s.host ∧ (State.setOut s o x).net = s.net ∧ (State.setOut s o x).faults = s.faults ∧ (State.setOut s o x).power = s.power ∧ (State.setOut s o x).perf = s.perf ∧ (State.setOut s o x).boot = s.boot ∧ (State.setOut s o x).out = s.out :=
  have h := State.setOut_changes s o x
  ⟨h.mfg, h.pending, h.areas .tick rfl, h.areas .freeN rfl, h.areas .blobs rfl, h.areas .ctl rfl, h.areas .belt rfl, h.areas .supplies rfl, h.areas .intake rfl, h.areas .pipe rfl, h.areas .engine rfl, h.areas .tracks rfl, h.areas .eject rfl, h.areas .memory rfl, h.areas .knots rfl, h.areas .host rfl, h.areas .net rfl, h.areas .faults rfl, h.areas .power rfl, h.areas .perf rfl, h.areas .boot rfl, h.areas .out rfl⟩

@[simp] theorem State.setOut_reg (s : State) (o : Nat) (x : DirOut) (k : Nat) : (State.setOut s o x).reg k = s.reg k :=
  (State.setOut_changes s o x).entries k (Entries.has_none k)

@[simp] theorem State.cmdOut_same (s : State) (o : Nat) (on : Bool) :
    (State.cmdOut s o on).mfg = s.mfg ∧ (State.cmdOut s o on).pending = s.pending ∧ (State.cmdOut s o on).tick = s.tick ∧ (State.cmdOut s o on).freeN = s.freeN ∧ (State.cmdOut s o on).blobs = s.blobs ∧ (State.cmdOut s o on).ctl = s.ctl ∧ (State.cmdOut s o on).belt = s.belt ∧ (State.cmdOut s o on).supplies = s.supplies ∧ (State.cmdOut s o on).intake = s.intake ∧ (State.cmdOut s o on).pipe = s.pipe ∧ (State.cmdOut s o on).engine = s.engine ∧ (State.cmdOut s o on).tracks = s.tracks ∧ (State.cmdOut s o on).eject = s.eject ∧ (State.cmdOut s o on).memory = s.memory ∧ (State.cmdOut s o on).knots = s.knots ∧ (State.cmdOut s o on).host = s.host ∧ (State.cmdOut s o on).net = s.net ∧ (State.cmdOut s o on).faults = s.faults ∧ (State.cmdOut s o on).power = s.power ∧ (State.cmdOut s o on).perf = s.perf ∧ (State.cmdOut s o on).boot = s.boot ∧ (State.cmdOut s o on).out = s.out :=
  have h := State.cmdOut_changes s o on
  ⟨h.mfg, h.pending, h.areas .tick rfl, h.areas .freeN rfl, h.areas .blobs rfl, h.areas .ctl rfl, h.areas .belt rfl, h.areas .supplies rfl, h.areas .intake rfl, h.areas .pipe rfl, h.areas .engine rfl, h.areas .tracks rfl, h.areas .eject rfl, h.areas .memory rfl, h.areas .knots rfl, h.areas .host rfl, h.areas .net rfl, h.areas .faults rfl, h.areas .power rfl, h.areas .perf rfl, h.areas .boot rfl, h.areas .out rfl⟩

@[simp] theorem State.cmdOut_reg (s : State) (o : Nat) (on : Bool) (k : Nat) : (State.cmdOut s o on).reg k = s.reg k :=
  (State.cmdOut_changes s o on).entries k (Entries.has_none k)

@[simp] theorem State.vlStrobe_same (s : State) (p prio tag : Nat) :
    (State.vlStrobe s p prio tag).mfg = s.mfg ∧ (State.vlStrobe s p prio tag).pending = s.pending ∧ (State.vlStrobe s p prio tag).tick = s.tick ∧ (State.vlStrobe s p prio tag).freeN = s.freeN ∧ (State.vlStrobe s p prio tag).blobs = s.blobs ∧ (State.vlStrobe s p prio tag).ctl = s.ctl ∧ (State.vlStrobe s p prio tag).belt = s.belt ∧ (State.vlStrobe s p prio tag).supplies = s.supplies ∧ (State.vlStrobe s p prio tag).intake = s.intake ∧ (State.vlStrobe s p prio tag).pipe = s.pipe ∧ (State.vlStrobe s p prio tag).engine = s.engine ∧ (State.vlStrobe s p prio tag).tracks = s.tracks ∧ (State.vlStrobe s p prio tag).eject = s.eject ∧ (State.vlStrobe s p prio tag).memory = s.memory ∧ (State.vlStrobe s p prio tag).knots = s.knots ∧ (State.vlStrobe s p prio tag).host = s.host ∧ (State.vlStrobe s p prio tag).net = s.net ∧ (State.vlStrobe s p prio tag).faults = s.faults ∧ (State.vlStrobe s p prio tag).power = s.power ∧ (State.vlStrobe s p prio tag).perf = s.perf ∧ (State.vlStrobe s p prio tag).boot = s.boot ∧ (State.vlStrobe s p prio tag).out = s.out :=
  have h := State.vlStrobe_changes s p prio tag
  ⟨h.mfg, h.pending, h.areas .tick rfl, h.areas .freeN rfl, h.areas .blobs rfl, h.areas .ctl rfl, h.areas .belt rfl, h.areas .supplies rfl, h.areas .intake rfl, h.areas .pipe rfl, h.areas .engine rfl, h.areas .tracks rfl, h.areas .eject rfl, h.areas .memory rfl, h.areas .knots rfl, h.areas .host rfl, h.areas .net rfl, h.areas .faults rfl, h.areas .power rfl, h.areas .perf rfl, h.areas .boot rfl, h.areas .out rfl⟩

@[simp] theorem State.vlStrobe_reg (s : State) (p prio tag : Nat) (j : Nat) (h : (Entries.only [0x0F10]).has j = false) : (State.vlStrobe s p prio tag).reg j = s.reg j :=
  (State.vlStrobe_changes s p prio tag).entries j h

@[simp] theorem State.markOn_same (s : State) (ch : Nat) (on : Bool) :
    (State.markOn s ch on).mfg = s.mfg ∧ (State.markOn s ch on).pending = s.pending ∧ (State.markOn s ch on).tick = s.tick ∧ (State.markOn s ch on).freeN = s.freeN ∧ (State.markOn s ch on).blobs = s.blobs ∧ (State.markOn s ch on).ctl = s.ctl ∧ (State.markOn s ch on).belt = s.belt ∧ (State.markOn s ch on).supplies = s.supplies ∧ (State.markOn s ch on).intake = s.intake ∧ (State.markOn s ch on).pipe = s.pipe ∧ (State.markOn s ch on).engine = s.engine ∧ (State.markOn s ch on).tracks = s.tracks ∧ (State.markOn s ch on).field = s.field ∧ (State.markOn s ch on).memory = s.memory ∧ (State.markOn s ch on).knots = s.knots ∧ (State.markOn s ch on).host = s.host ∧ (State.markOn s ch on).net = s.net ∧ (State.markOn s ch on).faults = s.faults ∧ (State.markOn s ch on).power = s.power ∧ (State.markOn s ch on).perf = s.perf ∧ (State.markOn s ch on).boot = s.boot ∧ (State.markOn s ch on).out = s.out :=
  have h := State.markOn_changes s ch on
  ⟨h.mfg, h.pending, h.areas .tick rfl, h.areas .freeN rfl, h.areas .blobs rfl, h.areas .ctl rfl, h.areas .belt rfl, h.areas .supplies rfl, h.areas .intake rfl, h.areas .pipe rfl, h.areas .engine rfl, h.areas .tracks rfl, h.areas .field rfl, h.areas .memory rfl, h.areas .knots rfl, h.areas .host rfl, h.areas .net rfl, h.areas .faults rfl, h.areas .power rfl, h.areas .perf rfl, h.areas .boot rfl, h.areas .out rfl⟩

@[simp] theorem State.markOn_reg (s : State) (ch : Nat) (on : Bool) (j : Nat) (h : (Entries.only [K.channelsOn]).has j = false) : (State.markOn s ch on).reg j = s.reg j :=
  (State.markOn_changes s ch on).entries j h

@[simp] theorem State.setRef_same (s : State) (ch : Nat) (level : Bool) (r : Option EdgeRef) :
    (State.setRef s ch level r).mfg = s.mfg ∧ (State.setRef s ch level r).pending = s.pending ∧ (State.setRef s ch level r).tick = s.tick ∧ (State.setRef s ch level r).freeN = s.freeN ∧ (State.setRef s ch level r).blobs = s.blobs ∧ (State.setRef s ch level r).ctl = s.ctl ∧ (State.setRef s ch level r).belt = s.belt ∧ (State.setRef s ch level r).supplies = s.supplies ∧ (State.setRef s ch level r).intake = s.intake ∧ (State.setRef s ch level r).pipe = s.pipe ∧ (State.setRef s ch level r).engine = s.engine ∧ (State.setRef s ch level r).tracks = s.tracks ∧ (State.setRef s ch level r).field = s.field ∧ (State.setRef s ch level r).memory = s.memory ∧ (State.setRef s ch level r).knots = s.knots ∧ (State.setRef s ch level r).host = s.host ∧ (State.setRef s ch level r).net = s.net ∧ (State.setRef s ch level r).faults = s.faults ∧ (State.setRef s ch level r).power = s.power ∧ (State.setRef s ch level r).perf = s.perf ∧ (State.setRef s ch level r).boot = s.boot ∧ (State.setRef s ch level r).out = s.out :=
  have h := State.setRef_changes s ch level r
  ⟨h.mfg, h.pending, h.areas .tick rfl, h.areas .freeN rfl, h.areas .blobs rfl, h.areas .ctl rfl, h.areas .belt rfl, h.areas .supplies rfl, h.areas .intake rfl, h.areas .pipe rfl, h.areas .engine rfl, h.areas .tracks rfl, h.areas .field rfl, h.areas .memory rfl, h.areas .knots rfl, h.areas .host rfl, h.areas .net rfl, h.areas .faults rfl, h.areas .power rfl, h.areas .perf rfl, h.areas .boot rfl, h.areas .out rfl⟩

@[simp] theorem State.setRef_reg (s : State) (ch : Nat) (level : Bool) (r : Option EdgeRef) (k : Nat) : (State.setRef s ch level r).reg k = s.reg k :=
  (State.setRef_changes s ch level r).entries k (Entries.has_none k)

@[simp] theorem State.vlFrame_same (s : State) (p typ seq : Nat) (payload : List Byte) :
    (State.vlFrame s p typ seq payload).mfg = s.mfg ∧ (State.vlFrame s p typ seq payload).pending = s.pending ∧ (State.vlFrame s p typ seq payload).tick = s.tick ∧ (State.vlFrame s p typ seq payload).freeN = s.freeN ∧ (State.vlFrame s p typ seq payload).blobs = s.blobs ∧ (State.vlFrame s p typ seq payload).ctl = s.ctl ∧ (State.vlFrame s p typ seq payload).belt = s.belt ∧ (State.vlFrame s p typ seq payload).supplies = s.supplies ∧ (State.vlFrame s p typ seq payload).intake = s.intake ∧ (State.vlFrame s p typ seq payload).pipe = s.pipe ∧ (State.vlFrame s p typ seq payload).engine = s.engine ∧ (State.vlFrame s p typ seq payload).tracks = s.tracks ∧ (State.vlFrame s p typ seq payload).eject = s.eject ∧ (State.vlFrame s p typ seq payload).field = s.field ∧ (State.vlFrame s p typ seq payload).memory = s.memory ∧ (State.vlFrame s p typ seq payload).knots = s.knots ∧ (State.vlFrame s p typ seq payload).host = s.host ∧ (State.vlFrame s p typ seq payload).net = s.net ∧ (State.vlFrame s p typ seq payload).faults = s.faults ∧ (State.vlFrame s p typ seq payload).power = s.power ∧ (State.vlFrame s p typ seq payload).perf = s.perf ∧ (State.vlFrame s p typ seq payload).boot = s.boot :=
  have h := State.vlFrame_changes s p typ seq payload
  ⟨h.mfg, h.pending, h.areas .tick rfl, h.areas .freeN rfl, h.areas .blobs rfl, h.areas .ctl rfl, h.areas .belt rfl, h.areas .supplies rfl, h.areas .intake rfl, h.areas .pipe rfl, h.areas .engine rfl, h.areas .tracks rfl, h.areas .eject rfl, h.areas .field rfl, h.areas .memory rfl, h.areas .knots rfl, h.areas .host rfl, h.areas .net rfl, h.areas .faults rfl, h.areas .power rfl, h.areas .perf rfl, h.areas .boot rfl⟩

@[simp] theorem State.vlFrame_reg (s : State) (p typ seq : Nat) (payload : List Byte) (k : Nat) : (State.vlFrame s p typ seq payload).reg k = s.reg k :=
  (State.vlFrame_changes s p typ seq payload).entries k (Entries.has_none k)

@[simp] theorem State.vlControl_same (s : State) (p typ : Nat) (payload : List Byte) :
    (State.vlControl s p typ payload).mfg = s.mfg ∧ (State.vlControl s p typ payload).pending = s.pending ∧ (State.vlControl s p typ payload).tick = s.tick ∧ (State.vlControl s p typ payload).freeN = s.freeN ∧ (State.vlControl s p typ payload).blobs = s.blobs ∧ (State.vlControl s p typ payload).ctl = s.ctl ∧ (State.vlControl s p typ payload).belt = s.belt ∧ (State.vlControl s p typ payload).supplies = s.supplies ∧ (State.vlControl s p typ payload).intake = s.intake ∧ (State.vlControl s p typ payload).pipe = s.pipe ∧ (State.vlControl s p typ payload).engine = s.engine ∧ (State.vlControl s p typ payload).tracks = s.tracks ∧ (State.vlControl s p typ payload).eject = s.eject ∧ (State.vlControl s p typ payload).memory = s.memory ∧ (State.vlControl s p typ payload).knots = s.knots ∧ (State.vlControl s p typ payload).host = s.host ∧ (State.vlControl s p typ payload).net = s.net ∧ (State.vlControl s p typ payload).faults = s.faults ∧ (State.vlControl s p typ payload).power = s.power ∧ (State.vlControl s p typ payload).perf = s.perf ∧ (State.vlControl s p typ payload).boot = s.boot :=
  have h := State.vlControl_changes s p typ payload
  ⟨h.mfg, h.pending, h.areas .tick rfl, h.areas .freeN rfl, h.areas .blobs rfl, h.areas .ctl rfl, h.areas .belt rfl, h.areas .supplies rfl, h.areas .intake rfl, h.areas .pipe rfl, h.areas .engine rfl, h.areas .tracks rfl, h.areas .eject rfl, h.areas .memory rfl, h.areas .knots rfl, h.areas .host rfl, h.areas .net rfl, h.areas .faults rfl, h.areas .power rfl, h.areas .perf rfl, h.areas .boot rfl⟩

@[simp] theorem State.vlControl_reg (s : State) (p typ : Nat) (payload : List Byte) (j : Nat) (h : (Entries.only [0x0F10]).has j = false) : (State.vlControl s p typ payload).reg j = s.reg j :=
  (State.vlControl_changes s p typ payload).entries j h

@[simp] theorem State.vlArm_same (s : State) (p tag edge : Nat) (vs : List Nat) :
    (State.vlArm s p tag edge vs).mfg = s.mfg ∧ (State.vlArm s p tag edge vs).pending = s.pending ∧ (State.vlArm s p tag edge vs).tick = s.tick ∧ (State.vlArm s p tag edge vs).freeN = s.freeN ∧ (State.vlArm s p tag edge vs).blobs = s.blobs ∧ (State.vlArm s p tag edge vs).ctl = s.ctl ∧ (State.vlArm s p tag edge vs).belt = s.belt ∧ (State.vlArm s p tag edge vs).supplies = s.supplies ∧ (State.vlArm s p tag edge vs).intake = s.intake ∧ (State.vlArm s p tag edge vs).pipe = s.pipe ∧ (State.vlArm s p tag edge vs).engine = s.engine ∧ (State.vlArm s p tag edge vs).tracks = s.tracks ∧ (State.vlArm s p tag edge vs).eject = s.eject ∧ (State.vlArm s p tag edge vs).memory = s.memory ∧ (State.vlArm s p tag edge vs).knots = s.knots ∧ (State.vlArm s p tag edge vs).host = s.host ∧ (State.vlArm s p tag edge vs).net = s.net ∧ (State.vlArm s p tag edge vs).faults = s.faults ∧ (State.vlArm s p tag edge vs).power = s.power ∧ (State.vlArm s p tag edge vs).perf = s.perf ∧ (State.vlArm s p tag edge vs).boot = s.boot :=
  have h := State.vlArm_changes s p tag edge vs
  ⟨h.mfg, h.pending, h.areas .tick rfl, h.areas .freeN rfl, h.areas .blobs rfl, h.areas .ctl rfl, h.areas .belt rfl, h.areas .supplies rfl, h.areas .intake rfl, h.areas .pipe rfl, h.areas .engine rfl, h.areas .tracks rfl, h.areas .eject rfl, h.areas .memory rfl, h.areas .knots rfl, h.areas .host rfl, h.areas .net rfl, h.areas .faults rfl, h.areas .power rfl, h.areas .perf rfl, h.areas .boot rfl⟩

@[simp] theorem State.vlArm_reg (s : State) (p tag edge : Nat) (vs : List Nat) (j : Nat) (h : (Entries.only [0x0F10]).has j = false) : (State.vlArm s p tag edge vs).reg j = s.reg j :=
  (State.vlArm_changes s p tag edge vs).entries j h

@[simp] theorem State.vlAddTag_same (s : State) (p edge : Nat) (pos : Int) (vt : Nat) (moved : Bool) (vs : List Nat) :
    (State.vlAddTag s p edge pos vt moved vs).2.mfg = s.mfg ∧ (State.vlAddTag s p edge pos vt moved vs).2.pending = s.pending ∧ (State.vlAddTag s p edge pos vt moved vs).2.tick = s.tick ∧ (State.vlAddTag s p edge pos vt moved vs).2.freeN = s.freeN ∧ (State.vlAddTag s p edge pos vt moved vs).2.blobs = s.blobs ∧ (State.vlAddTag s p edge pos vt moved vs).2.ctl = s.ctl ∧ (State.vlAddTag s p edge pos vt moved vs).2.belt = s.belt ∧ (State.vlAddTag s p edge pos vt moved vs).2.supplies = s.supplies ∧ (State.vlAddTag s p edge pos vt moved vs).2.intake = s.intake ∧ (State.vlAddTag s p edge pos vt moved vs).2.pipe = s.pipe ∧ (State.vlAddTag s p edge pos vt moved vs).2.engine = s.engine ∧ (State.vlAddTag s p edge pos vt moved vs).2.tracks = s.tracks ∧ (State.vlAddTag s p edge pos vt moved vs).2.eject = s.eject ∧ (State.vlAddTag s p edge pos vt moved vs).2.memory = s.memory ∧ (State.vlAddTag s p edge pos vt moved vs).2.knots = s.knots ∧ (State.vlAddTag s p edge pos vt moved vs).2.host = s.host ∧ (State.vlAddTag s p edge pos vt moved vs).2.net = s.net ∧ (State.vlAddTag s p edge pos vt moved vs).2.faults = s.faults ∧ (State.vlAddTag s p edge pos vt moved vs).2.power = s.power ∧ (State.vlAddTag s p edge pos vt moved vs).2.perf = s.perf ∧ (State.vlAddTag s p edge pos vt moved vs).2.boot = s.boot :=
  have h := State.vlAddTag_changes s p edge pos vt moved vs
  ⟨h.mfg, h.pending, h.areas .tick rfl, h.areas .freeN rfl, h.areas .blobs rfl, h.areas .ctl rfl, h.areas .belt rfl, h.areas .supplies rfl, h.areas .intake rfl, h.areas .pipe rfl, h.areas .engine rfl, h.areas .tracks rfl, h.areas .eject rfl, h.areas .memory rfl, h.areas .knots rfl, h.areas .host rfl, h.areas .net rfl, h.areas .faults rfl, h.areas .power rfl, h.areas .perf rfl, h.areas .boot rfl⟩

@[simp] theorem State.vlAddTag_reg (s : State) (p edge : Nat) (pos : Int) (vt : Nat) (moved : Bool) (vs : List Nat) (j : Nat) (h : (Entries.only [0x0F10]).has j = false) : (State.vlAddTag s p edge pos vt moved vs).2.reg j = s.reg j :=
  (State.vlAddTag_changes s p edge pos vt moved vs).entries j h

@[simp] theorem State.endTest_same (s : State) (status : Nat) :
    (State.endTest s status).mfg = s.mfg ∧ (State.endTest s status).pending = s.pending ∧ (State.endTest s status).tick = s.tick ∧ (State.endTest s status).freeN = s.freeN ∧ (State.endTest s status).blobs = s.blobs ∧ (State.endTest s status).belt = s.belt ∧ (State.endTest s status).supplies = s.supplies ∧ (State.endTest s status).intake = s.intake ∧ (State.endTest s status).pipe = s.pipe ∧ (State.endTest s status).engine = s.engine ∧ (State.endTest s status).tracks = s.tracks ∧ (State.endTest s status).memory = s.memory ∧ (State.endTest s status).knots = s.knots ∧ (State.endTest s status).host = s.host ∧ (State.endTest s status).net = s.net ∧ (State.endTest s status).faults = s.faults ∧ (State.endTest s status).power = s.power ∧ (State.endTest s status).perf = s.perf ∧ (State.endTest s status).boot = s.boot :=
  have h := State.endTest_changes s status
  ⟨h.mfg, h.pending, h.areas .tick rfl, h.areas .freeN rfl, h.areas .blobs rfl, h.areas .belt rfl, h.areas .supplies rfl, h.areas .intake rfl, h.areas .pipe rfl, h.areas .engine rfl, h.areas .tracks rfl, h.areas .memory rfl, h.areas .knots rfl, h.areas .host rfl, h.areas .net rfl, h.areas .faults rfl, h.areas .power rfl, h.areas .perf rfl, h.areas .boot rfl⟩

@[simp] theorem State.endTest_reg (s : State) (status : Nat) (j : Nat) (h : (Entries.only [0x0F10, K.channelsOn]).has j = false) : (State.endTest s status).reg j = s.reg j :=
  (State.endTest_changes s status).entries j h

@[simp] theorem State.beginTransition_same (s : State) (target : PowerSt) (cause : Nat) :
    (State.beginTransition s target cause).mfg = s.mfg ∧ (State.beginTransition s target cause).pending = s.pending ∧ (State.beginTransition s target cause).tick = s.tick ∧ (State.beginTransition s target cause).blobs = s.blobs ∧ (State.beginTransition s target cause).belt = s.belt ∧ (State.beginTransition s target cause).supplies = s.supplies ∧ (State.beginTransition s target cause).intake = s.intake ∧ (State.beginTransition s target cause).pipe = s.pipe ∧ (State.beginTransition s target cause).engine = s.engine ∧ (State.beginTransition s target cause).tracks = s.tracks ∧ (State.beginTransition s target cause).eject = s.eject ∧ (State.beginTransition s target cause).field = s.field ∧ (State.beginTransition s target cause).memory = s.memory ∧ (State.beginTransition s target cause).knots = s.knots ∧ (State.beginTransition s target cause).host = s.host ∧ (State.beginTransition s target cause).net = s.net ∧ (State.beginTransition s target cause).faults = s.faults ∧ (State.beginTransition s target cause).perf = s.perf ∧ (State.beginTransition s target cause).boot = s.boot ∧ (State.beginTransition s target cause).out = s.out :=
  have h := State.beginTransition_changes s target cause
  ⟨h.mfg, h.pending, h.areas .tick rfl, h.areas .blobs rfl, h.areas .belt rfl, h.areas .supplies rfl, h.areas .intake rfl, h.areas .pipe rfl, h.areas .engine rfl, h.areas .tracks rfl, h.areas .eject rfl, h.areas .field rfl, h.areas .memory rfl, h.areas .knots rfl, h.areas .host rfl, h.areas .net rfl, h.areas .faults rfl, h.areas .perf rfl, h.areas .boot rfl, h.areas .out rfl⟩

@[simp] theorem State.beginTransition_reg (s : State) (target : PowerSt) (cause : Nat) (k : Nat) : (State.beginTransition s target cause).reg k = s.reg k :=
  (State.beginTransition_changes s target cause).entries k (Entries.has_none k)

@[simp] theorem State.wake_same (s : State) (bit : Nat) (from' : List PowerSt) :
    (State.wake s bit from').mfg = s.mfg ∧ (State.wake s bit from').pending = s.pending ∧ (State.wake s bit from').tick = s.tick ∧ (State.wake s bit from').blobs = s.blobs ∧ (State.wake s bit from').belt = s.belt ∧ (State.wake s bit from').supplies = s.supplies ∧ (State.wake s bit from').intake = s.intake ∧ (State.wake s bit from').pipe = s.pipe ∧ (State.wake s bit from').engine = s.engine ∧ (State.wake s bit from').tracks = s.tracks ∧ (State.wake s bit from').eject = s.eject ∧ (State.wake s bit from').field = s.field ∧ (State.wake s bit from').memory = s.memory ∧ (State.wake s bit from').knots = s.knots ∧ (State.wake s bit from').host = s.host ∧ (State.wake s bit from').net = s.net ∧ (State.wake s bit from').faults = s.faults ∧ (State.wake s bit from').perf = s.perf ∧ (State.wake s bit from').boot = s.boot ∧ (State.wake s bit from').out = s.out :=
  have h := State.wake_changes s bit from'
  ⟨h.mfg, h.pending, h.areas .tick rfl, h.areas .blobs rfl, h.areas .belt rfl, h.areas .supplies rfl, h.areas .intake rfl, h.areas .pipe rfl, h.areas .engine rfl, h.areas .tracks rfl, h.areas .eject rfl, h.areas .field rfl, h.areas .memory rfl, h.areas .knots rfl, h.areas .host rfl, h.areas .net rfl, h.areas .faults rfl, h.areas .perf rfl, h.areas .boot rfl, h.areas .out rfl⟩

@[simp] theorem State.wake_reg (s : State) (bit : Nat) (from' : List PowerSt) (j : Nat) (h : (Entries.only [K.lastWakeCause]).has j = false) : (State.wake s bit from').reg j = s.reg j :=
  (State.wake_changes s bit from').entries j h

@[simp] theorem State.autoWake_same (s : State) :
    (State.autoWake s).mfg = s.mfg ∧ (State.autoWake s).pending = s.pending ∧ (State.autoWake s).tick = s.tick ∧ (State.autoWake s).blobs = s.blobs ∧ (State.autoWake s).belt = s.belt ∧ (State.autoWake s).supplies = s.supplies ∧ (State.autoWake s).intake = s.intake ∧ (State.autoWake s).pipe = s.pipe ∧ (State.autoWake s).engine = s.engine ∧ (State.autoWake s).tracks = s.tracks ∧ (State.autoWake s).eject = s.eject ∧ (State.autoWake s).field = s.field ∧ (State.autoWake s).memory = s.memory ∧ (State.autoWake s).knots = s.knots ∧ (State.autoWake s).host = s.host ∧ (State.autoWake s).net = s.net ∧ (State.autoWake s).faults = s.faults ∧ (State.autoWake s).perf = s.perf ∧ (State.autoWake s).boot = s.boot ∧ (State.autoWake s).out = s.out :=
  have h := State.autoWake_changes s
  ⟨h.mfg, h.pending, h.areas .tick rfl, h.areas .blobs rfl, h.areas .belt rfl, h.areas .supplies rfl, h.areas .intake rfl, h.areas .pipe rfl, h.areas .engine rfl, h.areas .tracks rfl, h.areas .eject rfl, h.areas .field rfl, h.areas .memory rfl, h.areas .knots rfl, h.areas .host rfl, h.areas .net rfl, h.areas .faults rfl, h.areas .perf rfl, h.areas .boot rfl, h.areas .out rfl⟩

@[simp] theorem State.autoWake_reg (s : State) (k : Nat) : (State.autoWake s).reg k = s.reg k :=
  (State.autoWake_changes s).entries k (Entries.has_none k)

@[simp] theorem State.setBeltSt_same (s : State) (st : BeltSt) (follow : Dir) :
    (State.setBeltSt s st follow).mfg = s.mfg ∧ (State.setBeltSt s st follow).pending = s.pending ∧ (State.setBeltSt s st follow).tick = s.tick ∧ (State.setBeltSt s st follow).blobs = s.blobs ∧ (State.setBeltSt s st follow).supplies = s.supplies ∧ (State.setBeltSt s st follow).intake = s.intake ∧ (State.setBeltSt s st follow).pipe = s.pipe ∧ (State.setBeltSt s st follow).engine = s.engine ∧ (State.setBeltSt s st follow).tracks = s.tracks ∧ (State.setBeltSt s st follow).memory = s.memory ∧ (State.setBeltSt s st follow).knots = s.knots ∧ (State.setBeltSt s st follow).host = s.host ∧ (State.setBeltSt s st follow).net = s.net ∧ (State.setBeltSt s st follow).faults = s.faults ∧ (State.setBeltSt s st follow).perf = s.perf ∧ (State.setBeltSt s st follow).boot = s.boot :=
  have h := State.setBeltSt_changes s st follow
  ⟨h.mfg, h.pending, h.areas .tick rfl, h.areas .blobs rfl, h.areas .supplies rfl, h.areas .intake rfl, h.areas .pipe rfl, h.areas .engine rfl, h.areas .tracks rfl, h.areas .memory rfl, h.areas .knots rfl, h.areas .host rfl, h.areas .net rfl, h.areas .faults rfl, h.areas .perf rfl, h.areas .boot rfl⟩

@[simp] theorem State.setBeltSt_reg (s : State) (st : BeltSt) (follow : Dir) (j : Nat) (h : (Entries.only [0x0F10, K.lastWakeCause, K.channelsOn]).has j = false) : (State.setBeltSt s st follow).reg j = s.reg j :=
  (State.setBeltSt_changes s st follow).entries j h

@[simp] theorem State.freeze_same (s : State) (die c n at' cyc : Nat) :
    (State.freeze s die c n at' cyc).mfg = s.mfg ∧ (State.freeze s die c n at' cyc).pending = s.pending ∧ (State.freeze s die c n at' cyc).tick = s.tick ∧ (State.freeze s die c n at' cyc).freeN = s.freeN ∧ (State.freeze s die c n at' cyc).blobs = s.blobs ∧ (State.freeze s die c n at' cyc).ctl = s.ctl ∧ (State.freeze s die c n at' cyc).belt = s.belt ∧ (State.freeze s die c n at' cyc).supplies = s.supplies ∧ (State.freeze s die c n at' cyc).intake = s.intake ∧ (State.freeze s die c n at' cyc).pipe = s.pipe ∧ (State.freeze s die c n at' cyc).tracks = s.tracks ∧ (State.freeze s die c n at' cyc).eject = s.eject ∧ (State.freeze s die c n at' cyc).field = s.field ∧ (State.freeze s die c n at' cyc).memory = s.memory ∧ (State.freeze s die c n at' cyc).knots = s.knots ∧ (State.freeze s die c n at' cyc).host = s.host ∧ (State.freeze s die c n at' cyc).net = s.net ∧ (State.freeze s die c n at' cyc).power = s.power ∧ (State.freeze s die c n at' cyc).perf = s.perf ∧ (State.freeze s die c n at' cyc).boot = s.boot ∧ (State.freeze s die c n at' cyc).out = s.out :=
  have h := State.freeze_changes s die c n at' cyc
  ⟨h.mfg, h.pending, h.areas .tick rfl, h.areas .freeN rfl, h.areas .blobs rfl, h.areas .ctl rfl, h.areas .belt rfl, h.areas .supplies rfl, h.areas .intake rfl, h.areas .pipe rfl, h.areas .tracks rfl, h.areas .eject rfl, h.areas .field rfl, h.areas .memory rfl, h.areas .knots rfl, h.areas .host rfl, h.areas .net rfl, h.areas .power rfl, h.areas .perf rfl, h.areas .boot rfl, h.areas .out rfl⟩

@[simp] theorem State.freeze_reg (s : State) (die c n at' cyc : Nat) (j : Nat) (h : (Entries.only [0x0804]).has j = false) : (State.freeze s die c n at' cyc).reg j = s.reg j :=
  (State.freeze_changes s die c n at' cyc).entries j h

@[simp] theorem State.addFeatures_same (s : State) (x : StepOf) (i r : Nat) (run : Run) :
    (State.addFeatures s x i r run).mfg = s.mfg ∧ (State.addFeatures s x i r run).pending = s.pending ∧ (State.addFeatures s x i r run).tick = s.tick ∧ (State.addFeatures s x i r run).freeN = s.freeN ∧ (State.addFeatures s x i r run).blobs = s.blobs ∧ (State.addFeatures s x i r run).ctl = s.ctl ∧ (State.addFeatures s x i r run).belt = s.belt ∧ (State.addFeatures s x i r run).supplies = s.supplies ∧ (State.addFeatures s x i r run).intake = s.intake ∧ (State.addFeatures s x i r run).pipe = s.pipe ∧ (State.addFeatures s x i r run).engine = s.engine ∧ (State.addFeatures s x i r run).eject = s.eject ∧ (State.addFeatures s x i r run).field = s.field ∧ (State.addFeatures s x i r run).memory = s.memory ∧ (State.addFeatures s x i r run).knots = s.knots ∧ (State.addFeatures s x i r run).host = s.host ∧ (State.addFeatures s x i r run).net = s.net ∧ (State.addFeatures s x i r run).faults = s.faults ∧ (State.addFeatures s x i r run).power = s.power ∧ (State.addFeatures s x i r run).perf = s.perf ∧ (State.addFeatures s x i r run).boot = s.boot ∧ (State.addFeatures s x i r run).out = s.out :=
  have h := State.addFeatures_changes s x i r run
  ⟨h.mfg, h.pending, h.areas .tick rfl, h.areas .freeN rfl, h.areas .blobs rfl, h.areas .ctl rfl, h.areas .belt rfl, h.areas .supplies rfl, h.areas .intake rfl, h.areas .pipe rfl, h.areas .engine rfl, h.areas .eject rfl, h.areas .field rfl, h.areas .memory rfl, h.areas .knots rfl, h.areas .host rfl, h.areas .net rfl, h.areas .faults rfl, h.areas .power rfl, h.areas .perf rfl, h.areas .boot rfl, h.areas .out rfl⟩

@[simp] theorem State.addFeatures_reg (s : State) (x : StepOf) (i r : Nat) (run : Run) (k : Nat) : (State.addFeatures s x i r run).reg k = s.reg k :=
  (State.addFeatures_changes s x i r run).entries k (Entries.has_none k)

@[simp] theorem State.setDecode_same (s : State) (c : Nat) (l : List DecReq) :
    (State.setDecode s c l).mfg = s.mfg ∧ (State.setDecode s c l).pending = s.pending ∧ (State.setDecode s c l).tick = s.tick ∧ (State.setDecode s c l).freeN = s.freeN ∧ (State.setDecode s c l).blobs = s.blobs ∧ (State.setDecode s c l).ctl = s.ctl ∧ (State.setDecode s c l).belt = s.belt ∧ (State.setDecode s c l).supplies = s.supplies ∧ (State.setDecode s c l).intake = s.intake ∧ (State.setDecode s c l).engine = s.engine ∧ (State.setDecode s c l).tracks = s.tracks ∧ (State.setDecode s c l).eject = s.eject ∧ (State.setDecode s c l).field = s.field ∧ (State.setDecode s c l).memory = s.memory ∧ (State.setDecode s c l).knots = s.knots ∧ (State.setDecode s c l).host = s.host ∧ (State.setDecode s c l).net = s.net ∧ (State.setDecode s c l).faults = s.faults ∧ (State.setDecode s c l).power = s.power ∧ (State.setDecode s c l).perf = s.perf ∧ (State.setDecode s c l).boot = s.boot ∧ (State.setDecode s c l).out = s.out :=
  have h := State.setDecode_changes s c l
  ⟨h.mfg, h.pending, h.areas .tick rfl, h.areas .freeN rfl, h.areas .blobs rfl, h.areas .ctl rfl, h.areas .belt rfl, h.areas .supplies rfl, h.areas .intake rfl, h.areas .engine rfl, h.areas .tracks rfl, h.areas .eject rfl, h.areas .field rfl, h.areas .memory rfl, h.areas .knots rfl, h.areas .host rfl, h.areas .net rfl, h.areas .faults rfl, h.areas .power rfl, h.areas .perf rfl, h.areas .boot rfl, h.areas .out rfl⟩

@[simp] theorem State.setDecode_reg (s : State) (c : Nat) (l : List DecReq) (k : Nat) : (State.setDecode s c l).reg k = s.reg k :=
  (State.setDecode_changes s c l).entries k (Entries.has_none k)

@[simp] theorem State.nextTurn_same (s : State) (c : Nat) :
    (State.nextTurn s c).mfg = s.mfg ∧ (State.nextTurn s c).pending = s.pending ∧ (State.nextTurn s c).tick = s.tick ∧ (State.nextTurn s c).freeN = s.freeN ∧ (State.nextTurn s c).blobs = s.blobs ∧ (State.nextTurn s c).ctl = s.ctl ∧ (State.nextTurn s c).belt = s.belt ∧ (State.nextTurn s c).supplies = s.supplies ∧ (State.nextTurn s c).intake = s.intake ∧ (State.nextTurn s c).engine = s.engine ∧ (State.nextTurn s c).tracks = s.tracks ∧ (State.nextTurn s c).eject = s.eject ∧ (State.nextTurn s c).field = s.field ∧ (State.nextTurn s c).memory = s.memory ∧ (State.nextTurn s c).knots = s.knots ∧ (State.nextTurn s c).host = s.host ∧ (State.nextTurn s c).net = s.net ∧ (State.nextTurn s c).faults = s.faults ∧ (State.nextTurn s c).power = s.power ∧ (State.nextTurn s c).perf = s.perf ∧ (State.nextTurn s c).boot = s.boot ∧ (State.nextTurn s c).out = s.out :=
  have h := State.nextTurn_changes s c
  ⟨h.mfg, h.pending, h.areas .tick rfl, h.areas .freeN rfl, h.areas .blobs rfl, h.areas .ctl rfl, h.areas .belt rfl, h.areas .supplies rfl, h.areas .intake rfl, h.areas .engine rfl, h.areas .tracks rfl, h.areas .eject rfl, h.areas .field rfl, h.areas .memory rfl, h.areas .knots rfl, h.areas .host rfl, h.areas .net rfl, h.areas .faults rfl, h.areas .power rfl, h.areas .perf rfl, h.areas .boot rfl, h.areas .out rfl⟩

@[simp] theorem State.nextTurn_reg (s : State) (c : Nat) (k : Nat) : (State.nextTurn s c).reg k = s.reg k :=
  (State.nextTurn_changes s c).entries k (Entries.has_none k)

@[simp] theorem State.pruneDecodes_same (s : State) :
    (State.pruneDecodes s).mfg = s.mfg ∧ (State.pruneDecodes s).pending = s.pending ∧ (State.pruneDecodes s).tick = s.tick ∧ (State.pruneDecodes s).freeN = s.freeN ∧ (State.pruneDecodes s).blobs = s.blobs ∧ (State.pruneDecodes s).ctl = s.ctl ∧ (State.pruneDecodes s).belt = s.belt ∧ (State.pruneDecodes s).supplies = s.supplies ∧ (State.pruneDecodes s).intake = s.intake ∧ (State.pruneDecodes s).engine = s.engine ∧ (State.pruneDecodes s).tracks = s.tracks ∧ (State.pruneDecodes s).eject = s.eject ∧ (State.pruneDecodes s).field = s.field ∧ (State.pruneDecodes s).memory = s.memory ∧ (State.pruneDecodes s).knots = s.knots ∧ (State.pruneDecodes s).host = s.host ∧ (State.pruneDecodes s).net = s.net ∧ (State.pruneDecodes s).faults = s.faults ∧ (State.pruneDecodes s).power = s.power ∧ (State.pruneDecodes s).perf = s.perf ∧ (State.pruneDecodes s).boot = s.boot ∧ (State.pruneDecodes s).out = s.out :=
  have h := State.pruneDecodes_changes s
  ⟨h.mfg, h.pending, h.areas .tick rfl, h.areas .freeN rfl, h.areas .blobs rfl, h.areas .ctl rfl, h.areas .belt rfl, h.areas .supplies rfl, h.areas .intake rfl, h.areas .engine rfl, h.areas .tracks rfl, h.areas .eject rfl, h.areas .field rfl, h.areas .memory rfl, h.areas .knots rfl, h.areas .host rfl, h.areas .net rfl, h.areas .faults rfl, h.areas .power rfl, h.areas .perf rfl, h.areas .boot rfl, h.areas .out rfl⟩

@[simp] theorem State.pruneDecodes_reg (s : State) (k : Nat) : (State.pruneDecodes s).reg k = s.reg k :=
  (State.pruneDecodes_changes s).entries k (Entries.has_none k)

@[simp] theorem State.logEmptied_same (s : State) (log : Nat) :
    (State.logEmptied s log).mfg = s.mfg ∧ (State.logEmptied s log).pending = s.pending ∧ (State.logEmptied s log).tick = s.tick ∧ (State.logEmptied s log).freeN = s.freeN ∧ (State.logEmptied s log).blobs = s.blobs ∧ (State.logEmptied s log).ctl = s.ctl ∧ (State.logEmptied s log).belt = s.belt ∧ (State.logEmptied s log).supplies = s.supplies ∧ (State.logEmptied s log).intake = s.intake ∧ (State.logEmptied s log).pipe = s.pipe ∧ (State.logEmptied s log).engine = s.engine ∧ (State.logEmptied s log).tracks = s.tracks ∧ (State.logEmptied s log).eject = s.eject ∧ (State.logEmptied s log).field = s.field ∧ (State.logEmptied s log).memory = s.memory ∧ (State.logEmptied s log).knots = s.knots ∧ (State.logEmptied s log).host = s.host ∧ (State.logEmptied s log).net = s.net ∧ (State.logEmptied s log).power = s.power ∧ (State.logEmptied s log).perf = s.perf ∧ (State.logEmptied s log).boot = s.boot ∧ (State.logEmptied s log).out = s.out :=
  have h := State.logEmptied_changes s log
  ⟨h.mfg, h.pending, h.areas .tick rfl, h.areas .freeN rfl, h.areas .blobs rfl, h.areas .ctl rfl, h.areas .belt rfl, h.areas .supplies rfl, h.areas .intake rfl, h.areas .pipe rfl, h.areas .engine rfl, h.areas .tracks rfl, h.areas .eject rfl, h.areas .field rfl, h.areas .memory rfl, h.areas .knots rfl, h.areas .host rfl, h.areas .net rfl, h.areas .power rfl, h.areas .perf rfl, h.areas .boot rfl, h.areas .out rfl⟩

@[simp] theorem State.logEmptied_reg (s : State) (log : Nat) (j : Nat) (h : (Entries.only [0x1703]).has j = false) : (State.logEmptied s log).reg j = s.reg j :=
  (State.logEmptied_changes s log).entries j h

@[simp] theorem State.noteBad_same (s : State) (l source w : Nat) (scope : Scope) (c : Nat) (p : Option Nat) :
    (State.noteBad s l source w scope c p).mfg = s.mfg ∧ (State.noteBad s l source w scope c p).pending = s.pending ∧ (State.noteBad s l source w scope c p).tick = s.tick ∧ (State.noteBad s l source w scope c p).blobs = s.blobs ∧ (State.noteBad s l source w scope c p).ctl = s.ctl ∧ (State.noteBad s l source w scope c p).belt = s.belt ∧ (State.noteBad s l source w scope c p).supplies = s.supplies ∧ (State.noteBad s l source w scope c p).intake = s.intake ∧ (State.noteBad s l source w scope c p).pipe = s.pipe ∧ (State.noteBad s l source w scope c p).engine = s.engine ∧ (State.noteBad s l source w scope c p).tracks = s.tracks ∧ (State.noteBad s l source w scope c p).eject = s.eject ∧ (State.noteBad s l source w scope c p).field = s.field ∧ (State.noteBad s l source w scope c p).knots = s.knots ∧ (State.noteBad s l source w scope c p).net = s.net ∧ (State.noteBad s l source w scope c p).power = s.power ∧ (State.noteBad s l source w scope c p).boot = s.boot :=
  have h := State.noteBad_changes s l source w scope c p
  ⟨h.mfg, h.pending, h.areas .tick rfl, h.areas .blobs rfl, h.areas .ctl rfl, h.areas .belt rfl, h.areas .supplies rfl, h.areas .intake rfl, h.areas .pipe rfl, h.areas .engine rfl, h.areas .tracks rfl, h.areas .eject rfl, h.areas .field rfl, h.areas .knots rfl, h.areas .net rfl, h.areas .power rfl, h.areas .boot rfl⟩

@[simp] theorem State.noteBad_reg (s : State) (l source w : Nat) (scope : Scope) (c : Nat) (p : Option Nat) (j : Nat) (h : (Entries.only [0x1205, 0x1402, 0x1703, K.recordsUnrouted, K.faultLogOverwritten, K.faultRecordsSuppressed]).has j = false) : (State.noteBad s l source w scope c p).reg j = s.reg j :=
  (State.noteBad_changes s l source w scope c p).entries j h

@[simp] theorem State.actWrite_same (s : State) (die off : Nat) (d : List Byte) :
    (State.actWrite s die off d).mfg = s.mfg ∧ (State.actWrite s die off d).pending = s.pending ∧ (State.actWrite s die off d).tick = s.tick ∧ (State.actWrite s die off d).freeN = s.freeN ∧ (State.actWrite s die off d).blobs = s.blobs ∧ (State.actWrite s die off d).ctl = s.ctl ∧ (State.actWrite s die off d).belt = s.belt ∧ (State.actWrite s die off d).supplies = s.supplies ∧ (State.actWrite s die off d).intake = s.intake ∧ (State.actWrite s die off d).pipe = s.pipe ∧ (State.actWrite s die off d).tracks = s.tracks ∧ (State.actWrite s die off d).eject = s.eject ∧ (State.actWrite s die off d).field = s.field ∧ (State.actWrite s die off d).memory = s.memory ∧ (State.actWrite s die off d).knots = s.knots ∧ (State.actWrite s die off d).host = s.host ∧ (State.actWrite s die off d).net = s.net ∧ (State.actWrite s die off d).faults = s.faults ∧ (State.actWrite s die off d).power = s.power ∧ (State.actWrite s die off d).perf = s.perf ∧ (State.actWrite s die off d).boot = s.boot ∧ (State.actWrite s die off d).out = s.out :=
  have h := State.actWrite_changes s die off d
  ⟨h.mfg, h.pending, h.areas .tick rfl, h.areas .freeN rfl, h.areas .blobs rfl, h.areas .ctl rfl, h.areas .belt rfl, h.areas .supplies rfl, h.areas .intake rfl, h.areas .pipe rfl, h.areas .tracks rfl, h.areas .eject rfl, h.areas .field rfl, h.areas .memory rfl, h.areas .knots rfl, h.areas .host rfl, h.areas .net rfl, h.areas .faults rfl, h.areas .power rfl, h.areas .perf rfl, h.areas .boot rfl, h.areas .out rfl⟩

@[simp] theorem State.actWrite_reg (s : State) (die off : Nat) (d : List Byte) (k : Nat) : (State.actWrite s die off d).reg k = s.reg k :=
  (State.actWrite_changes s die off d).entries k (Entries.has_none k)

@[simp] theorem State.land_same (s : State) (die kind dest : Nat) (data : List Byte) (poison : Bool) :
    (State.land s die kind dest data poison).mfg = s.mfg ∧ (State.land s die kind dest data poison).pending = s.pending ∧ (State.land s die kind dest data poison).tick = s.tick ∧ (State.land s die kind dest data poison).freeN = s.freeN ∧ (State.land s die kind dest data poison).blobs = s.blobs ∧ (State.land s die kind dest data poison).ctl = s.ctl ∧ (State.land s die kind dest data poison).belt = s.belt ∧ (State.land s die kind dest data poison).supplies = s.supplies ∧ (State.land s die kind dest data poison).intake = s.intake ∧ (State.land s die kind dest data poison).pipe = s.pipe ∧ (State.land s die kind dest data poison).tracks = s.tracks ∧ (State.land s die kind dest data poison).eject = s.eject ∧ (State.land s die kind dest data poison).field = s.field ∧ (State.land s die kind dest data poison).knots = s.knots ∧ (State.land s die kind dest data poison).host = s.host ∧ (State.land s die kind dest data poison).net = s.net ∧ (State.land s die kind dest data poison).faults = s.faults ∧ (State.land s die kind dest data poison).power = s.power ∧ (State.land s die kind dest data poison).perf = s.perf ∧ (State.land s die kind dest data poison).boot = s.boot ∧ (State.land s die kind dest data poison).out = s.out :=
  have h := State.land_changes s die kind dest data poison
  ⟨h.mfg, h.pending, h.areas .tick rfl, h.areas .freeN rfl, h.areas .blobs rfl, h.areas .ctl rfl, h.areas .belt rfl, h.areas .supplies rfl, h.areas .intake rfl, h.areas .pipe rfl, h.areas .tracks rfl, h.areas .eject rfl, h.areas .field rfl, h.areas .knots rfl, h.areas .host rfl, h.areas .net rfl, h.areas .faults rfl, h.areas .power rfl, h.areas .perf rfl, h.areas .boot rfl, h.areas .out rfl⟩

@[simp] theorem State.land_reg (s : State) (die kind dest : Nat) (data : List Byte) (poison : Bool) (k : Nat) : (State.land s die kind dest data poison).reg k = s.reg k :=
  (State.land_changes s die kind dest data poison).entries k (Entries.has_none k)

@[simp] theorem State.countStore_same (s : State) (die ctx master off n : Nat) :
    (State.countStore s die ctx master off n).mfg = s.mfg ∧ (State.countStore s die ctx master off n).pending = s.pending ∧ (State.countStore s die ctx master off n).tick = s.tick ∧ (State.countStore s die ctx master off n).blobs = s.blobs ∧ (State.countStore s die ctx master off n).ctl = s.ctl ∧ (State.countStore s die ctx master off n).belt = s.belt ∧ (State.countStore s die ctx master off n).supplies = s.supplies ∧ (State.countStore s die ctx master off n).intake = s.intake ∧ (State.countStore s die ctx master off n).pipe = s.pipe ∧ (State.countStore s die ctx master off n).engine = s.engine ∧ (State.countStore s die ctx master off n).tracks = s.tracks ∧ (State.countStore s die ctx master off n).eject = s.eject ∧ (State.countStore s die ctx master off n).field = s.field ∧ (State.countStore s die ctx master off n).memory = s.memory ∧ (State.countStore s die ctx master off n).knots = s.knots ∧ (State.countStore s die ctx master off n).net = s.net ∧ (State.countStore s die ctx master off n).faults = s.faults ∧ (State.countStore s die ctx master off n).power = s.power ∧ (State.countStore s die ctx master off n).boot = s.boot :=
  have h := State.countStore_changes s die ctx master off n
  ⟨h.mfg, h.pending, h.areas .tick rfl, h.areas .blobs rfl, h.areas .ctl rfl, h.areas .belt rfl, h.areas .supplies rfl, h.areas .intake rfl, h.areas .pipe rfl, h.areas .engine rfl, h.areas .tracks rfl, h.areas .eject rfl, h.areas .field rfl, h.areas .memory rfl, h.areas .knots rfl, h.areas .net rfl, h.areas .faults rfl, h.areas .power rfl, h.areas .boot rfl⟩

@[simp] theorem State.countStore_reg (s : State) (die ctx master off n : Nat) (j : Nat) (h : (Entries.only [0x1205, K.recordsUnrouted]).has j = false) : (State.countStore s die ctx master off n).reg j = s.reg j :=
  (State.countStore_changes s die ctx master off n).entries j h

@[simp] theorem State.placeImage_same (s : State) (r : DecReq) (d : List Byte) :
    (State.placeImage s r d).mfg = s.mfg ∧ (State.placeImage s r d).pending = s.pending ∧ (State.placeImage s r d).tick = s.tick ∧ (State.placeImage s r d).blobs = s.blobs ∧ (State.placeImage s r d).ctl = s.ctl ∧ (State.placeImage s r d).belt = s.belt ∧ (State.placeImage s r d).supplies = s.supplies ∧ (State.placeImage s r d).intake = s.intake ∧ (State.placeImage s r d).pipe = s.pipe ∧ (State.placeImage s r d).tracks = s.tracks ∧ (State.placeImage s r d).eject = s.eject ∧ (State.placeImage s r d).field = s.field ∧ (State.placeImage s r d).knots = s.knots ∧ (State.placeImage s r d).net = s.net ∧ (State.placeImage s r d).faults = s.faults ∧ (State.placeImage s r d).power = s.power ∧ (State.placeImage s r d).boot = s.boot :=
  have h := State.placeImage_changes s r d
  ⟨h.mfg, h.pending, h.areas .tick rfl, h.areas .blobs rfl, h.areas .ctl rfl, h.areas .belt rfl, h.areas .supplies rfl, h.areas .intake rfl, h.areas .pipe rfl, h.areas .tracks rfl, h.areas .eject rfl, h.areas .field rfl, h.areas .knots rfl, h.areas .net rfl, h.areas .faults rfl, h.areas .power rfl, h.areas .boot rfl⟩

@[simp] theorem State.placeImage_reg (s : State) (r : DecReq) (d : List Byte) (j : Nat) (h : (Entries.only [0x1205, K.recordsUnrouted]).has j = false) : (State.placeImage s r d).reg j = s.reg j :=
  (State.placeImage_changes s r d).entries j h

@[simp] theorem State.decodeFails_same (s : State) (r : DecReq) (status : Nat) :
    (State.decodeFails s r status).mfg = s.mfg ∧ (State.decodeFails s r status).pending = s.pending ∧ (State.decodeFails s r status).tick = s.tick ∧ (State.decodeFails s r status).blobs = s.blobs ∧ (State.decodeFails s r status).ctl = s.ctl ∧ (State.decodeFails s r status).belt = s.belt ∧ (State.decodeFails s r status).supplies = s.supplies ∧ (State.decodeFails s r status).intake = s.intake ∧ (State.decodeFails s r status).pipe = s.pipe ∧ (State.decodeFails s r status).tracks = s.tracks ∧ (State.decodeFails s r status).eject = s.eject ∧ (State.decodeFails s r status).field = s.field ∧ (State.decodeFails s r status).knots = s.knots ∧ (State.decodeFails s r status).net = s.net ∧ (State.decodeFails s r status).faults = s.faults ∧ (State.decodeFails s r status).power = s.power ∧ (State.decodeFails s r status).boot = s.boot :=
  have h := State.decodeFails_changes s r status
  ⟨h.mfg, h.pending, h.areas .tick rfl, h.areas .blobs rfl, h.areas .ctl rfl, h.areas .belt rfl, h.areas .supplies rfl, h.areas .intake rfl, h.areas .pipe rfl, h.areas .tracks rfl, h.areas .eject rfl, h.areas .field rfl, h.areas .knots rfl, h.areas .net rfl, h.areas .faults rfl, h.areas .power rfl, h.areas .boot rfl⟩

@[simp] theorem State.decodeFails_reg (s : State) (r : DecReq) (status : Nat) (j : Nat) (h : (Entries.only [0x1205, K.decodesRejected, K.decodesAbandoned, K.commandsCompleted, K.recordsUnrouted]).has j = false) : (State.decodeFails s r status).reg j = s.reg j :=
  (State.decodeFails_changes s r status).entries j h

@[simp] theorem State.decodeRejected_same (s : State) (r : DecReq) (cause : Nat) :
    (State.decodeRejected s r cause).mfg = s.mfg ∧ (State.decodeRejected s r cause).pending = s.pending ∧ (State.decodeRejected s r cause).tick = s.tick ∧ (State.decodeRejected s r cause).blobs = s.blobs ∧ (State.decodeRejected s r cause).ctl = s.ctl ∧ (State.decodeRejected s r cause).belt = s.belt ∧ (State.decodeRejected s r cause).supplies = s.supplies ∧ (State.decodeRejected s r cause).intake = s.intake ∧ (State.decodeRejected s r cause).pipe = s.pipe ∧ (State.decodeRejected s r cause).tracks = s.tracks ∧ (State.decodeRejected s r cause).eject = s.eject ∧ (State.decodeRejected s r cause).field = s.field ∧ (State.decodeRejected s r cause).knots = s.knots ∧ (State.decodeRejected s r cause).net = s.net ∧ (State.decodeRejected s r cause).faults = s.faults ∧ (State.decodeRejected s r cause).power = s.power ∧ (State.decodeRejected s r cause).boot = s.boot :=
  have h := State.decodeRejected_changes s r cause
  ⟨h.mfg, h.pending, h.areas .tick rfl, h.areas .blobs rfl, h.areas .ctl rfl, h.areas .belt rfl, h.areas .supplies rfl, h.areas .intake rfl, h.areas .pipe rfl, h.areas .tracks rfl, h.areas .eject rfl, h.areas .field rfl, h.areas .knots rfl, h.areas .net rfl, h.areas .faults rfl, h.areas .power rfl, h.areas .boot rfl⟩

@[simp] theorem State.decodeRejected_reg (s : State) (r : DecReq) (cause : Nat) (j : Nat) (h : (Entries.only [0x1205, K.decodesRejected, K.decodesAbandoned, K.lastRejectCause, K.commandsCompleted, K.recordsUnrouted]).has j = false) : (State.decodeRejected s r cause).reg j = s.reg j :=
  (State.decodeRejected_changes s r cause).entries j h

@[simp] theorem State.setPolarity_same (s : State) (u : Nat) (reversed : Bool) :
    (State.setPolarity s u reversed).mfg = s.mfg ∧ (State.setPolarity s u reversed).pending = s.pending ∧ (State.setPolarity s u reversed).tick = s.tick ∧ (State.setPolarity s u reversed).freeN = s.freeN ∧ (State.setPolarity s u reversed).blobs = s.blobs ∧ (State.setPolarity s u reversed).ctl = s.ctl ∧ (State.setPolarity s u reversed).belt = s.belt ∧ (State.setPolarity s u reversed).intake = s.intake ∧ (State.setPolarity s u reversed).pipe = s.pipe ∧ (State.setPolarity s u reversed).engine = s.engine ∧ (State.setPolarity s u reversed).tracks = s.tracks ∧ (State.setPolarity s u reversed).eject = s.eject ∧ (State.setPolarity s u reversed).memory = s.memory ∧ (State.setPolarity s u reversed).knots = s.knots ∧ (State.setPolarity s u reversed).host = s.host ∧ (State.setPolarity s u reversed).net = s.net ∧ (State.setPolarity s u reversed).faults = s.faults ∧ (State.setPolarity s u reversed).power = s.power ∧ (State.setPolarity s u reversed).perf = s.perf ∧ (State.setPolarity s u reversed).boot = s.boot ∧ (State.setPolarity s u reversed).out = s.out :=
  have h := State.setPolarity_changes s u reversed
  ⟨h.mfg, h.pending, h.areas .tick rfl, h.areas .freeN rfl, h.areas .blobs rfl, h.areas .ctl rfl, h.areas .belt rfl, h.areas .intake rfl, h.areas .pipe rfl, h.areas .engine rfl, h.areas .tracks rfl, h.areas .eject rfl, h.areas .memory rfl, h.areas .knots rfl, h.areas .host rfl, h.areas .net rfl, h.areas .faults rfl, h.areas .power rfl, h.areas .perf rfl, h.areas .boot rfl, h.areas .out rfl⟩

@[simp] theorem State.setPolarity_reg (s : State) (u : Nat) (reversed : Bool) (k : Nat) : (State.setPolarity s u reversed).reg k = s.reg k :=
  (State.setPolarity_changes s u reversed).entries k (Entries.has_none k)

@[simp] theorem State.setLine_same (s : State) (i n : Nat) (l : Line) :
    (State.setLine s i n l).mfg = s.mfg ∧ (State.setLine s i n l).pending = s.pending ∧ (State.setLine s i n l).tick = s.tick ∧ (State.setLine s i n l).freeN = s.freeN ∧ (State.setLine s i n l).blobs = s.blobs ∧ (State.setLine s i n l).ctl = s.ctl ∧ (State.setLine s i n l).belt = s.belt ∧ (State.setLine s i n l).supplies = s.supplies ∧ (State.setLine s i n l).pipe = s.pipe ∧ (State.setLine s i n l).engine = s.engine ∧ (State.setLine s i n l).tracks = s.tracks ∧ (State.setLine s i n l).eject = s.eject ∧ (State.setLine s i n l).field = s.field ∧ (State.setLine s i n l).memory = s.memory ∧ (State.setLine s i n l).knots = s.knots ∧ (State.setLine s i n l).host = s.host ∧ (State.setLine s i n l).net = s.net ∧ (State.setLine s i n l).faults = s.faults ∧ (State.setLine s i n l).power = s.power ∧ (State.setLine s i n l).perf = s.perf ∧ (State.setLine s i n l).boot = s.boot ∧ (State.setLine s i n l).out = s.out :=
  have h := State.setLine_changes s i n l
  ⟨h.mfg, h.pending, h.areas .tick rfl, h.areas .freeN rfl, h.areas .blobs rfl, h.areas .ctl rfl, h.areas .belt rfl, h.areas .supplies rfl, h.areas .pipe rfl, h.areas .engine rfl, h.areas .tracks rfl, h.areas .eject rfl, h.areas .field rfl, h.areas .memory rfl, h.areas .knots rfl, h.areas .host rfl, h.areas .net rfl, h.areas .faults rfl, h.areas .power rfl, h.areas .perf rfl, h.areas .boot rfl, h.areas .out rfl⟩

@[simp] theorem State.setLine_reg (s : State) (i n : Nat) (l : Line) (j : Nat) (h : (Entries.only [0x0509]).has j = false) : (State.setLine s i n l).reg j = s.reg j :=
  (State.setLine_changes s i n l).entries j h

@[simp] theorem State.markMissing_same (s : State) (i n : Nat) (counted slip : Bool) :
    (State.markMissing s i n counted slip).mfg = s.mfg ∧ (State.markMissing s i n counted slip).pending = s.pending ∧ (State.markMissing s i n counted slip).tick = s.tick ∧ (State.markMissing s i n counted slip).freeN = s.freeN ∧ (State.markMissing s i n counted slip).blobs = s.blobs ∧ (State.markMissing s i n counted slip).ctl = s.ctl ∧ (State.markMissing s i n counted slip).belt = s.belt ∧ (State.markMissing s i n counted slip).supplies = s.supplies ∧ (State.markMissing s i n counted slip).pipe = s.pipe ∧ (State.markMissing s i n counted slip).engine = s.engine ∧ (State.markMissing s i n counted slip).tracks = s.tracks ∧ (State.markMissing s i n counted slip).eject = s.eject ∧ (State.markMissing s i n counted slip).field = s.field ∧ (State.markMissing s i n counted slip).memory = s.memory ∧ (State.markMissing s i n counted slip).knots = s.knots ∧ (State.markMissing s i n counted slip).host = s.host ∧ (State.markMissing s i n counted slip).net = s.net ∧ (State.markMissing s i n counted slip).faults = s.faults ∧ (State.markMissing s i n counted slip).power = s.power ∧ (State.markMissing s i n counted slip).perf = s.perf ∧ (State.markMissing s i n counted slip).boot = s.boot ∧ (State.markMissing s i n counted slip).out = s.out :=
  have h := State.markMissing_changes s i n counted slip
  ⟨h.mfg, h.pending, h.areas .tick rfl, h.areas .freeN rfl, h.areas .blobs rfl, h.areas .ctl rfl, h.areas .belt rfl, h.areas .supplies rfl, h.areas .pipe rfl, h.areas .engine rfl, h.areas .tracks rfl, h.areas .eject rfl, h.areas .field rfl, h.areas .memory rfl, h.areas .knots rfl, h.areas .host rfl, h.areas .net rfl, h.areas .faults rfl, h.areas .power rfl, h.areas .perf rfl, h.areas .boot rfl, h.areas .out rfl⟩

@[simp] theorem State.markMissing_reg (s : State) (i n : Nat) (counted slip : Bool) (j : Nat) (h : (Entries.only [0x0509, 0x050B]).has j = false) : (State.markMissing s i n counted slip).reg j = s.reg j :=
  (State.markMissing_changes s i n counted slip).entries j h

@[simp] theorem State.missIncomplete_same (s : State) (i : Nat) (slip : Bool) :
    (State.missIncomplete s i slip).mfg = s.mfg ∧ (State.missIncomplete s i slip).pending = s.pending ∧ (State.missIncomplete s i slip).tick = s.tick ∧ (State.missIncomplete s i slip).freeN = s.freeN ∧ (State.missIncomplete s i slip).blobs = s.blobs ∧ (State.missIncomplete s i slip).ctl = s.ctl ∧ (State.missIncomplete s i slip).belt = s.belt ∧ (State.missIncomplete s i slip).supplies = s.supplies ∧ (State.missIncomplete s i slip).pipe = s.pipe ∧ (State.missIncomplete s i slip).engine = s.engine ∧ (State.missIncomplete s i slip).tracks = s.tracks ∧ (State.missIncomplete s i slip).eject = s.eject ∧ (State.missIncomplete s i slip).field = s.field ∧ (State.missIncomplete s i slip).memory = s.memory ∧ (State.missIncomplete s i slip).knots = s.knots ∧ (State.missIncomplete s i slip).host = s.host ∧ (State.missIncomplete s i slip).net = s.net ∧ (State.missIncomplete s i slip).faults = s.faults ∧ (State.missIncomplete s i slip).power = s.power ∧ (State.missIncomplete s i slip).perf = s.perf ∧ (State.missIncomplete s i slip).boot = s.boot ∧ (State.missIncomplete s i slip).out = s.out :=
  have h := State.missIncomplete_changes s i slip
  ⟨h.mfg, h.pending, h.areas .tick rfl, h.areas .freeN rfl, h.areas .blobs rfl, h.areas .ctl rfl, h.areas .belt rfl, h.areas .supplies rfl, h.areas .pipe rfl, h.areas .engine rfl, h.areas .tracks rfl, h.areas .eject rfl, h.areas .field rfl, h.areas .memory rfl, h.areas .knots rfl, h.areas .host rfl, h.areas .net rfl, h.areas .faults rfl, h.areas .power rfl, h.areas .perf rfl, h.areas .boot rfl, h.areas .out rfl⟩

@[simp] theorem State.missIncomplete_reg (s : State) (i : Nat) (slip : Bool) (j : Nat) (h : (Entries.only [0x0509, 0x050B]).has j = false) : (State.missIncomplete s i slip).reg j = s.reg j :=
  (State.missIncomplete_changes s i slip).entries j h

@[simp] theorem State.setCam_same (s : State) (l : Nat) (x : CamLink) :
    (State.setCam s l x).mfg = s.mfg ∧ (State.setCam s l x).pending = s.pending ∧ (State.setCam s l x).tick = s.tick ∧ (State.setCam s l x).freeN = s.freeN ∧ (State.setCam s l x).blobs = s.blobs ∧ (State.setCam s l x).ctl = s.ctl ∧ (State.setCam s l x).belt = s.belt ∧ (State.setCam s l x).supplies = s.supplies ∧ (State.setCam s l x).pipe = s.pipe ∧ (State.setCam s l x).engine = s.engine ∧ (State.setCam s l x).tracks = s.tracks ∧ (State.setCam s l x).eject = s.eject ∧ (State.setCam s l x).field = s.field ∧ (State.setCam s l x).memory = s.memory ∧ (State.setCam s l x).knots = s.knots ∧ (State.setCam s l x).host = s.host ∧ (State.setCam s l x).net = s.net ∧ (State.setCam s l x).faults = s.faults ∧ (State.setCam s l x).power = s.power ∧ (State.setCam s l x).perf = s.perf ∧ (State.setCam s l x).boot = s.boot ∧ (State.setCam s l x).out = s.out :=
  have h := State.setCam_changes s l x
  ⟨h.mfg, h.pending, h.areas .tick rfl, h.areas .freeN rfl, h.areas .blobs rfl, h.areas .ctl rfl, h.areas .belt rfl, h.areas .supplies rfl, h.areas .pipe rfl, h.areas .engine rfl, h.areas .tracks rfl, h.areas .eject rfl, h.areas .field rfl, h.areas .memory rfl, h.areas .knots rfl, h.areas .host rfl, h.areas .net rfl, h.areas .faults rfl, h.areas .power rfl, h.areas .perf rfl, h.areas .boot rfl, h.areas .out rfl⟩

@[simp] theorem State.setCam_reg (s : State) (l : Nat) (x : CamLink) (j : Nat) (h : (Entries.only [0x0405]).has j = false) : (State.setCam s l x).reg j = s.reg j :=
  (State.setCam_changes s l x).entries j h

@[simp] theorem State.dropCtl_same (s : State) (l : Nat) :
    (State.dropCtl s l).mfg = s.mfg ∧ (State.dropCtl s l).pending = s.pending ∧ (State.dropCtl s l).tick = s.tick ∧ (State.dropCtl s l).freeN = s.freeN ∧ (State.dropCtl s l).blobs = s.blobs ∧ (State.dropCtl s l).belt = s.belt ∧ (State.dropCtl s l).supplies = s.supplies ∧ (State.dropCtl s l).pipe = s.pipe ∧ (State.dropCtl s l).engine = s.engine ∧ (State.dropCtl s l).tracks = s.tracks ∧ (State.dropCtl s l).eject = s.eject ∧ (State.dropCtl s l).field = s.field ∧ (State.dropCtl s l).memory = s.memory ∧ (State.dropCtl s l).knots = s.knots ∧ (State.dropCtl s l).host = s.host ∧ (State.dropCtl s l).net = s.net ∧ (State.dropCtl s l).faults = s.faults ∧ (State.dropCtl s l).power = s.power ∧ (State.dropCtl s l).perf = s.perf ∧ (State.dropCtl s l).boot = s.boot ∧ (State.dropCtl s l).out = s.out :=
  have h := State.dropCtl_changes s l
  ⟨h.mfg, h.pending, h.areas .tick rfl, h.areas .freeN rfl, h.areas .blobs rfl, h.areas .belt rfl, h.areas .supplies rfl, h.areas .pipe rfl, h.areas .engine rfl, h.areas .tracks rfl, h.areas .eject rfl, h.areas .field rfl, h.areas .memory rfl, h.areas .knots rfl, h.areas .host rfl, h.areas .net rfl, h.areas .faults rfl, h.areas .power rfl, h.areas .perf rfl, h.areas .boot rfl, h.areas .out rfl⟩

@[simp] theorem State.dropCtl_reg (s : State) (l : Nat) (j : Nat) (h : (Entries.only [0x0405]).has j = false) : (State.dropCtl s l).reg j = s.reg j :=
  (State.dropCtl_changes s l).entries j h

@[simp] theorem State.setTrack_same (s : State) (i : Nat) (t : Track) :
    (State.setTrack s i t).mfg = s.mfg ∧ (State.setTrack s i t).pending = s.pending ∧ (State.setTrack s i t).tick = s.tick ∧ (State.setTrack s i t).freeN = s.freeN ∧ (State.setTrack s i t).blobs = s.blobs ∧ (State.setTrack s i t).ctl = s.ctl ∧ (State.setTrack s i t).belt = s.belt ∧ (State.setTrack s i t).supplies = s.supplies ∧ (State.setTrack s i t).intake = s.intake ∧ (State.setTrack s i t).pipe = s.pipe ∧ (State.setTrack s i t).engine = s.engine ∧ (State.setTrack s i t).eject = s.eject ∧ (State.setTrack s i t).field = s.field ∧ (State.setTrack s i t).memory = s.memory ∧ (State.setTrack s i t).knots = s.knots ∧ (State.setTrack s i t).host = s.host ∧ (State.setTrack s i t).net = s.net ∧ (State.setTrack s i t).faults = s.faults ∧ (State.setTrack s i t).power = s.power ∧ (State.setTrack s i t).perf = s.perf ∧ (State.setTrack s i t).boot = s.boot ∧ (State.setTrack s i t).out = s.out :=
  have h := State.setTrack_changes s i t
  ⟨h.mfg, h.pending, h.areas .tick rfl, h.areas .freeN rfl, h.areas .blobs rfl, h.areas .ctl rfl, h.areas .belt rfl, h.areas .supplies rfl, h.areas .intake rfl, h.areas .pipe rfl, h.areas .engine rfl, h.areas .eject rfl, h.areas .field rfl, h.areas .memory rfl, h.areas .knots rfl, h.areas .host rfl, h.areas .net rfl, h.areas .faults rfl, h.areas .power rfl, h.areas .perf rfl, h.areas .boot rfl, h.areas .out rfl⟩

@[simp] theorem State.setTrack_reg (s : State) (i : Nat) (t : Track) (k : Nat) : (State.setTrack s i t).reg k = s.reg k :=
  (State.setTrack_changes s i t).entries k (Entries.has_none k)

@[simp] theorem State.freeTrack_same (s : State) (i : Nat) :
    (State.freeTrack s i).mfg = s.mfg ∧ (State.freeTrack s i).pending = s.pending ∧ (State.freeTrack s i).tick = s.tick ∧ (State.freeTrack s i).freeN = s.freeN ∧ (State.freeTrack s i).blobs = s.blobs ∧ (State.freeTrack s i).ctl = s.ctl ∧ (State.freeTrack s i).belt = s.belt ∧ (State.freeTrack s i).supplies = s.supplies ∧ (State.freeTrack s i).intake = s.intake ∧ (State.freeTrack s i).pipe = s.pipe ∧ (State.freeTrack s i).engine = s.engine ∧ (State.freeTrack s i).eject = s.eject ∧ (State.freeTrack s i).field = s.field ∧ (State.freeTrack s i).memory = s.memory ∧ (State.freeTrack s i).knots = s.knots ∧ (State.freeTrack s i).host = s.host ∧ (State.freeTrack s i).net = s.net ∧ (State.freeTrack s i).faults = s.faults ∧ (State.freeTrack s i).power = s.power ∧ (State.freeTrack s i).perf = s.perf ∧ (State.freeTrack s i).boot = s.boot ∧ (State.freeTrack s i).out = s.out :=
  have h := State.freeTrack_changes s i
  ⟨h.mfg, h.pending, h.areas .tick rfl, h.areas .freeN rfl, h.areas .blobs rfl, h.areas .ctl rfl, h.areas .belt rfl, h.areas .supplies rfl, h.areas .intake rfl, h.areas .pipe rfl, h.areas .engine rfl, h.areas .eject rfl, h.areas .field rfl, h.areas .memory rfl, h.areas .knots rfl, h.areas .host rfl, h.areas .net rfl, h.areas .faults rfl, h.areas .power rfl, h.areas .perf rfl, h.areas .boot rfl, h.areas .out rfl⟩

@[simp] theorem State.freeTrack_reg (s : State) (i : Nat) (k : Nat) : (State.freeTrack s i).reg k = s.reg k :=
  (State.freeTrack_changes s i).entries k (Entries.has_none k)

@[simp] theorem State.freeScales_same (s : State) (c : Nat) :
    (State.freeScales s c).mfg = s.mfg ∧ (State.freeScales s c).pending = s.pending ∧ (State.freeScales s c).tick = s.tick ∧ (State.freeScales s c).freeN = s.freeN ∧ (State.freeScales s c).blobs = s.blobs ∧ (State.freeScales s c).ctl = s.ctl ∧ (State.freeScales s c).belt = s.belt ∧ (State.freeScales s c).supplies = s.supplies ∧ (State.freeScales s c).intake = s.intake ∧ (State.freeScales s c).pipe = s.pipe ∧ (State.freeScales s c).tracks = s.tracks ∧ (State.freeScales s c).eject = s.eject ∧ (State.freeScales s c).field = s.field ∧ (State.freeScales s c).memory = s.memory ∧ (State.freeScales s c).knots = s.knots ∧ (State.freeScales s c).host = s.host ∧ (State.freeScales s c).net = s.net ∧ (State.freeScales s c).faults = s.faults ∧ (State.freeScales s c).power = s.power ∧ (State.freeScales s c).perf = s.perf ∧ (State.freeScales s c).boot = s.boot ∧ (State.freeScales s c).out = s.out :=
  have h := State.freeScales_changes s c
  ⟨h.mfg, h.pending, h.areas .tick rfl, h.areas .freeN rfl, h.areas .blobs rfl, h.areas .ctl rfl, h.areas .belt rfl, h.areas .supplies rfl, h.areas .intake rfl, h.areas .pipe rfl, h.areas .tracks rfl, h.areas .eject rfl, h.areas .field rfl, h.areas .memory rfl, h.areas .knots rfl, h.areas .host rfl, h.areas .net rfl, h.areas .faults rfl, h.areas .power rfl, h.areas .perf rfl, h.areas .boot rfl, h.areas .out rfl⟩

@[simp] theorem State.freeScales_reg (s : State) (c : Nat) (k : Nat) : (State.freeScales s c).reg k = s.reg k :=
  (State.freeScales_changes s c).entries k (Entries.has_none k)

@[simp] theorem State.trackReady_same (s : State) :
    (State.trackReady s).mfg = s.mfg ∧ (State.trackReady s).pending = s.pending ∧ (State.trackReady s).tick = s.tick ∧ (State.trackReady s).freeN = s.freeN ∧ (State.trackReady s).blobs = s.blobs ∧ (State.trackReady s).ctl = s.ctl ∧ (State.trackReady s).belt = s.belt ∧ (State.trackReady s).supplies = s.supplies ∧ (State.trackReady s).intake = s.intake ∧ (State.trackReady s).pipe = s.pipe ∧ (State.trackReady s).engine = s.engine ∧ (State.trackReady s).tracks = s.tracks ∧ (State.trackReady s).eject = s.eject ∧ (State.trackReady s).field = s.field ∧ (State.trackReady s).memory = s.memory ∧ (State.trackReady s).knots = s.knots ∧ (State.trackReady s).host = s.host ∧ (State.trackReady s).net = s.net ∧ (State.trackReady s).faults = s.faults ∧ (State.trackReady s).perf = s.perf ∧ (State.trackReady s).boot = s.boot ∧ (State.trackReady s).out = s.out :=
  have h := State.trackReady_changes s
  ⟨h.mfg, h.pending, h.areas .tick rfl, h.areas .freeN rfl, h.areas .blobs rfl, h.areas .ctl rfl, h.areas .belt rfl, h.areas .supplies rfl, h.areas .intake rfl, h.areas .pipe rfl, h.areas .engine rfl, h.areas .tracks rfl, h.areas .eject rfl, h.areas .field rfl, h.areas .memory rfl, h.areas .knots rfl, h.areas .host rfl, h.areas .net rfl, h.areas .faults rfl, h.areas .perf rfl, h.areas .boot rfl, h.areas .out rfl⟩

@[simp] theorem State.trackReady_reg (s : State) (k : Nat) : (State.trackReady s).reg k = s.reg k :=
  (State.trackReady_changes s).entries k (Entries.has_none k)

@[simp] theorem State.closeOpen_same (s : State) (die : Nat) :
    (State.closeOpen s die).mfg = s.mfg ∧ (State.closeOpen s die).pending = s.pending ∧ (State.closeOpen s die).tick = s.tick ∧ (State.closeOpen s die).freeN = s.freeN ∧ (State.closeOpen s die).blobs = s.blobs ∧ (State.closeOpen s die).ctl = s.ctl ∧ (State.closeOpen s die).belt = s.belt ∧ (State.closeOpen s die).supplies = s.supplies ∧ (State.closeOpen s die).intake = s.intake ∧ (State.closeOpen s die).pipe = s.pipe ∧ (State.closeOpen s die).tracks = s.tracks ∧ (State.closeOpen s die).eject = s.eject ∧ (State.closeOpen s die).field = s.field ∧ (State.closeOpen s die).memory = s.memory ∧ (State.closeOpen s die).knots = s.knots ∧ (State.closeOpen s die).host = s.host ∧ (State.closeOpen s die).net = s.net ∧ (State.closeOpen s die).faults = s.faults ∧ (State.closeOpen s die).perf = s.perf ∧ (State.closeOpen s die).boot = s.boot ∧ (State.closeOpen s die).out = s.out :=
  have h := State.closeOpen_changes s die
  ⟨h.mfg, h.pending, h.areas .tick rfl, h.areas .freeN rfl, h.areas .blobs rfl, h.areas .ctl rfl, h.areas .belt rfl, h.areas .supplies rfl, h.areas .intake rfl, h.areas .pipe rfl, h.areas .tracks rfl, h.areas .eject rfl, h.areas .field rfl, h.areas .memory rfl, h.areas .knots rfl, h.areas .host rfl, h.areas .net rfl, h.areas .faults rfl, h.areas .perf rfl, h.areas .boot rfl, h.areas .out rfl⟩

@[simp] theorem State.closeOpen_reg (s : State) (die : Nat) (k : Nat) : (State.closeOpen s die).reg k = s.reg k :=
  (State.closeOpen_changes s die).entries k (Entries.has_none k)

@[simp] theorem State.setArray_same (s : State) (die n : Nat) (x : ArraySt) :
    (State.setArray s die n x).mfg = s.mfg ∧ (State.setArray s die n x).pending = s.pending ∧ (State.setArray s die n x).tick = s.tick ∧ (State.setArray s die n x).freeN = s.freeN ∧ (State.setArray s die n x).blobs = s.blobs ∧ (State.setArray s die n x).ctl = s.ctl ∧ (State.setArray s die n x).belt = s.belt ∧ (State.setArray s die n x).supplies = s.supplies ∧ (State.setArray s die n x).intake = s.intake ∧ (State.setArray s die n x).pipe = s.pipe ∧ (State.setArray s die n x).tracks = s.tracks ∧ (State.setArray s die n x).eject = s.eject ∧ (State.setArray s die n x).field = s.field ∧ (State.setArray s die n x).memory = s.memory ∧ (State.setArray s die n x).knots = s.knots ∧ (State.setArray s die n x).host = s.host ∧ (State.setArray s die n x).net = s.net ∧ (State.setArray s die n x).faults = s.faults ∧ (State.setArray s die n x).power = s.power ∧ (State.setArray s die n x).perf = s.perf ∧ (State.setArray s die n x).boot = s.boot ∧ (State.setArray s die n x).out = s.out :=
  have h := State.setArray_changes s die n x
  ⟨h.mfg, h.pending, h.areas .tick rfl, h.areas .freeN rfl, h.areas .blobs rfl, h.areas .ctl rfl, h.areas .belt rfl, h.areas .supplies rfl, h.areas .intake rfl, h.areas .pipe rfl, h.areas .tracks rfl, h.areas .eject rfl, h.areas .field rfl, h.areas .memory rfl, h.areas .knots rfl, h.areas .host rfl, h.areas .net rfl, h.areas .faults rfl, h.areas .power rfl, h.areas .perf rfl, h.areas .boot rfl, h.areas .out rfl⟩

@[simp] theorem State.setArray_reg (s : State) (die n : Nat) (x : ArraySt) (k : Nat) : (State.setArray s die n x).reg k = s.reg k :=
  (State.setArray_changes s die n x).entries k (Entries.has_none k)

@[simp] theorem State.releaseHeld_same (s : State) (cyc : Nat) :
    (State.releaseHeld s cyc).mfg = s.mfg ∧ (State.releaseHeld s cyc).pending = s.pending ∧ (State.releaseHeld s cyc).tick = s.tick ∧ (State.releaseHeld s cyc).freeN = s.freeN ∧ (State.releaseHeld s cyc).blobs = s.blobs ∧ (State.releaseHeld s cyc).ctl = s.ctl ∧ (State.releaseHeld s cyc).belt = s.belt ∧ (State.releaseHeld s cyc).supplies = s.supplies ∧ (State.releaseHeld s cyc).intake = s.intake ∧ (State.releaseHeld s cyc).pipe = s.pipe ∧ (State.releaseHeld s cyc).engine = s.engine ∧ (State.releaseHeld s cyc).tracks = s.tracks ∧ (State.releaseHeld s cyc).eject = s.eject ∧ (State.releaseHeld s cyc).field = s.field ∧ (State.releaseHeld s cyc).memory = s.memory ∧ (State.releaseHeld s cyc).net = s.net ∧ (State.releaseHeld s cyc).faults = s.faults ∧ (State.releaseHeld s cyc).power = s.power ∧ (State.releaseHeld s cyc).boot = s.boot :=
  have h := State.releaseHeld_changes s cyc
  ⟨h.mfg, h.pending, h.areas .tick rfl, h.areas .freeN rfl, h.areas .blobs rfl, h.areas .ctl rfl, h.areas .belt rfl, h.areas .supplies rfl, h.areas .intake rfl, h.areas .pipe rfl, h.areas .engine rfl, h.areas .tracks rfl, h.areas .eject rfl, h.areas .field rfl, h.areas .memory rfl, h.areas .net rfl, h.areas .faults rfl, h.areas .power rfl, h.areas .boot rfl⟩

@[simp] theorem State.releaseHeld_reg (s : State) (cyc : Nat) (j : Nat) (h : (Entries.only [0x1205, K.waitersInUse, K.waitersPeak, K.knotOps, K.knotSaturations, K.frozenRefusals, K.knotOpsRefused, K.commandsCompleted, K.recordsUnrouted]).has j = false) : (State.releaseHeld s cyc).reg j = s.reg j :=
  (State.releaseHeld_changes s cyc).entries j h

@[simp] theorem State.setEnergy_same (s : State) :
    (State.setEnergy s).mfg = s.mfg ∧ (State.setEnergy s).pending = s.pending ∧ (State.setEnergy s).tick = s.tick ∧ (State.setEnergy s).freeN = s.freeN ∧ (State.setEnergy s).blobs = s.blobs ∧ (State.setEnergy s).ctl = s.ctl ∧ (State.setEnergy s).belt = s.belt ∧ (State.setEnergy s).supplies = s.supplies ∧ (State.setEnergy s).intake = s.intake ∧ (State.setEnergy s).pipe = s.pipe ∧ (State.setEnergy s).engine = s.engine ∧ (State.setEnergy s).tracks = s.tracks ∧ (State.setEnergy s).eject = s.eject ∧ (State.setEnergy s).field = s.field ∧ (State.setEnergy s).memory = s.memory ∧ (State.setEnergy s).knots = s.knots ∧ (State.setEnergy s).host = s.host ∧ (State.setEnergy s).net = s.net ∧ (State.setEnergy s).faults = s.faults ∧ (State.setEnergy s).power = s.power ∧ (State.setEnergy s).perf = s.perf ∧ (State.setEnergy s).boot = s.boot ∧ (State.setEnergy s).out = s.out :=
  have h := State.setEnergy_changes s
  ⟨h.mfg, h.pending, h.areas .tick rfl, h.areas .freeN rfl, h.areas .blobs rfl, h.areas .ctl rfl, h.areas .belt rfl, h.areas .supplies rfl, h.areas .intake rfl, h.areas .pipe rfl, h.areas .engine rfl, h.areas .tracks rfl, h.areas .eject rfl, h.areas .field rfl, h.areas .memory rfl, h.areas .knots rfl, h.areas .host rfl, h.areas .net rfl, h.areas .faults rfl, h.areas .power rfl, h.areas .perf rfl, h.areas .boot rfl, h.areas .out rfl⟩

@[simp] theorem State.setEnergy_reg (s : State) (j : Nat) (h : (Entries.only [K.computeEnergyPerOp]).has j = false) : (State.setEnergy s).reg j = s.reg j :=
  (State.setEnergy_changes s).entries j h

@[simp] theorem State.replanRec_same (s : State) (die action : Nat) :
    (State.replanRec s die action).mfg = s.mfg ∧ (State.replanRec s die action).pending = s.pending ∧ (State.replanRec s die action).tick = s.tick ∧ (State.replanRec s die action).freeN = s.freeN ∧ (State.replanRec s die action).blobs = s.blobs ∧ (State.replanRec s die action).ctl = s.ctl ∧ (State.replanRec s die action).belt = s.belt ∧ (State.replanRec s die action).supplies = s.supplies ∧ (State.replanRec s die action).intake = s.intake ∧ (State.replanRec s die action).pipe = s.pipe ∧ (State.replanRec s die action).engine = s.engine ∧ (State.replanRec s die action).tracks = s.tracks ∧ (State.replanRec s die action).eject = s.eject ∧ (State.replanRec s die action).field = s.field ∧ (State.replanRec s die action).memory = s.memory ∧ (State.replanRec s die action).knots = s.knots ∧ (State.replanRec s die action).net = s.net ∧ (State.replanRec s die action).faults = s.faults ∧ (State.replanRec s die action).power = s.power ∧ (State.replanRec s die action).boot = s.boot :=
  have h := State.replanRec_changes s die action
  ⟨h.mfg, h.pending, h.areas .tick rfl, h.areas .freeN rfl, h.areas .blobs rfl, h.areas .ctl rfl, h.areas .belt rfl, h.areas .supplies rfl, h.areas .intake rfl, h.areas .pipe rfl, h.areas .engine rfl, h.areas .tracks rfl, h.areas .eject rfl, h.areas .field rfl, h.areas .memory rfl, h.areas .knots rfl, h.areas .net rfl, h.areas .faults rfl, h.areas .power rfl, h.areas .boot rfl⟩

@[simp] theorem State.replanRec_reg (s : State) (die action : Nat) (j : Nat) (h : (Entries.only [0x1205, K.recordsUnrouted]).has j = false) : (State.replanRec s die action).reg j = s.reg j :=
  (State.replanRec_changes s die action).entries j h

@[simp] theorem State.replanPoint_same (s : State) :
    (State.replanPoint s).mfg = s.mfg ∧ (State.replanPoint s).pending = s.pending ∧ (State.replanPoint s).tick = s.tick ∧ (State.replanPoint s).freeN = s.freeN ∧ (State.replanPoint s).blobs = s.blobs ∧ (State.replanPoint s).ctl = s.ctl ∧ (State.replanPoint s).belt = s.belt ∧ (State.replanPoint s).supplies = s.supplies ∧ (State.replanPoint s).intake = s.intake ∧ (State.replanPoint s).pipe = s.pipe ∧ (State.replanPoint s).engine = s.engine ∧ (State.replanPoint s).tracks = s.tracks ∧ (State.replanPoint s).eject = s.eject ∧ (State.replanPoint s).field = s.field ∧ (State.replanPoint s).memory = s.memory ∧ (State.replanPoint s).knots = s.knots ∧ (State.replanPoint s).net = s.net ∧ (State.replanPoint s).faults = s.faults ∧ (State.replanPoint s).boot = s.boot :=
  have h := State.replanPoint_changes s
  ⟨h.mfg, h.pending, h.areas .tick rfl, h.areas .freeN rfl, h.areas .blobs rfl, h.areas .ctl rfl, h.areas .belt rfl, h.areas .supplies rfl, h.areas .intake rfl, h.areas .pipe rfl, h.areas .engine rfl, h.areas .tracks rfl, h.areas .eject rfl, h.areas .field rfl, h.areas .memory rfl, h.areas .knots rfl, h.areas .net rfl, h.areas .faults rfl, h.areas .boot rfl⟩

@[simp] theorem State.replanPoint_reg (s : State) (j : Nat) (h : (Entries.only [0x0317, 0x1205, K.computeEnergyPerOp, K.voltageSteps, K.clockSteps, K.recordsUnrouted]).has j = false) : (State.replanPoint s).reg j = s.reg j :=
  (State.replanPoint_changes s).entries j h

@[simp] theorem State.decisionRec_same (s : State) (j start len lo hi cls conf : Nat) (eject : Bool) (flags : Nat) :
    (State.decisionRec s j start len lo hi cls conf eject flags).1.mfg = s.mfg ∧ (State.decisionRec s j start len lo hi cls conf eject flags).1.pending = s.pending ∧ (State.decisionRec s j start len lo hi cls conf eject flags).1.tick = s.tick ∧ (State.decisionRec s j start len lo hi cls conf eject flags).1.freeN = s.freeN ∧ (State.decisionRec s j start len lo hi cls conf eject flags).1.blobs = s.blobs ∧ (State.decisionRec s j start len lo hi cls conf eject flags).1.ctl = s.ctl ∧ (State.decisionRec s j start len lo hi cls conf eject flags).1.belt = s.belt ∧ (State.decisionRec s j start len lo hi cls conf eject flags).1.supplies = s.supplies ∧ (State.decisionRec s j start len lo hi cls conf eject flags).1.intake = s.intake ∧ (State.decisionRec s j start len lo hi cls conf eject flags).1.pipe = s.pipe ∧ (State.decisionRec s j start len lo hi cls conf eject flags).1.engine = s.engine ∧ (State.decisionRec s j start len lo hi cls conf eject flags).1.tracks = s.tracks ∧ (State.decisionRec s j start len lo hi cls conf eject flags).1.eject = s.eject ∧ (State.decisionRec s j start len lo hi cls conf eject flags).1.field = s.field ∧ (State.decisionRec s j start len lo hi cls conf eject flags).1.memory = s.memory ∧ (State.decisionRec s j start len lo hi cls conf eject flags).1.knots = s.knots ∧ (State.decisionRec s j start len lo hi cls conf eject flags).1.host = s.host ∧ (State.decisionRec s j start len lo hi cls conf eject flags).1.net = s.net ∧ (State.decisionRec s j start len lo hi cls conf eject flags).1.faults = s.faults ∧ (State.decisionRec s j start len lo hi cls conf eject flags).1.power = s.power ∧ (State.decisionRec s j start len lo hi cls conf eject flags).1.perf = s.perf ∧ (State.decisionRec s j start len lo hi cls conf eject flags).1.boot = s.boot ∧ (State.decisionRec s j start len lo hi cls conf eject flags).1.out = s.out :=
  have h := State.decisionRec_changes s j start len lo hi cls conf eject flags
  ⟨h.mfg, h.pending, h.areas .tick rfl, h.areas .freeN rfl, h.areas .blobs rfl, h.areas .ctl rfl, h.areas .belt rfl, h.areas .supplies rfl, h.areas .intake rfl, h.areas .pipe rfl, h.areas .engine rfl, h.areas .tracks rfl, h.areas .eject rfl, h.areas .field rfl, h.areas .memory rfl, h.areas .knots rfl, h.areas .host rfl, h.areas .net rfl, h.areas .faults rfl, h.areas .power rfl, h.areas .perf rfl, h.areas .boot rfl, h.areas .out rfl⟩

@[simp] theorem State.decisionRec_reg (s : State) (j start len lo hi cls conf : Nat) (eject : Bool) (flags : Nat) (j : Nat) (h : (Entries.only [K.fallbackDecisions, K.noTrackDecisions, K.listWaitFallbacks, K.outsideValveRange]).has j = false) : (State.decisionRec s j start len lo hi cls conf eject flags).1.reg j = s.reg j :=
  (State.decisionRec_changes s j start len lo hi cls conf eject flags).entries j h

@[simp] theorem State.moveOut_same (s : State) (ring : Nat) (c : RingCmd) (x : CopySite) (o n : Nat) :
    (State.moveOut s ring c x o n).mfg = s.mfg ∧ (State.moveOut s ring c x o n).pending = s.pending ∧ (State.moveOut s ring c x o n).tick = s.tick ∧ (State.moveOut s ring c x o n).blobs = s.blobs ∧ (State.moveOut s ring c x o n).ctl = s.ctl ∧ (State.moveOut s ring c x o n).belt = s.belt ∧ (State.moveOut s ring c x o n).supplies = s.supplies ∧ (State.moveOut s ring c x o n).intake = s.intake ∧ (State.moveOut s ring c x o n).pipe = s.pipe ∧ (State.moveOut s ring c x o n).engine = s.engine ∧ (State.moveOut s ring c x o n).tracks = s.tracks ∧ (State.moveOut s ring c x o n).eject = s.eject ∧ (State.moveOut s ring c x o n).field = s.field ∧ (State.moveOut s ring c x o n).memory = s.memory ∧ (State.moveOut s ring c x o n).knots = s.knots ∧ (State.moveOut s ring c x o n).net = s.net ∧ (State.moveOut s ring c x o n).faults = s.faults ∧ (State.moveOut s ring c x o n).power = s.power ∧ (State.moveOut s ring c x o n).boot = s.boot :=
  have h := State.moveOut_changes s ring c x o n
  ⟨h.mfg, h.pending, h.areas .tick rfl, h.areas .blobs rfl, h.areas .ctl rfl, h.areas .belt rfl, h.areas .supplies rfl, h.areas .intake rfl, h.areas .pipe rfl, h.areas .engine rfl, h.areas .tracks rfl, h.areas .eject rfl, h.areas .field rfl, h.areas .memory rfl, h.areas .knots rfl, h.areas .net rfl, h.areas .faults rfl, h.areas .power rfl, h.areas .boot rfl⟩

@[simp] theorem State.moveOut_reg (s : State) (ring : Nat) (c : RingCmd) (x : CopySite) (o n : Nat) (j : Nat) (h : (Entries.only [0x1205, K.recordsUnrouted]).has j = false) : (State.moveOut s ring c x o n).reg j = s.reg j :=
  (State.moveOut_changes s ring c x o n).entries j h

@[simp] theorem State.setTransfer_same (s : State) (ring index : Nat) (d : List Byte) (moved : Nat) :
    (State.setTransfer s ring index d moved).mfg = s.mfg ∧ (State.setTransfer s ring index d moved).pending = s.pending ∧ (State.setTransfer s ring index d moved).tick = s.tick ∧ (State.setTransfer s ring index d moved).freeN = s.freeN ∧ (State.setTransfer s ring index d moved).blobs = s.blobs ∧ (State.setTransfer s ring index d moved).ctl = s.ctl ∧ (State.setTransfer s ring index d moved).belt = s.belt ∧ (State.setTransfer s ring index d moved).supplies = s.supplies ∧ (State.setTransfer s ring index d moved).intake = s.intake ∧ (State.setTransfer s ring index d moved).pipe = s.pipe ∧ (State.setTransfer s ring index d moved).engine = s.engine ∧ (State.setTransfer s ring index d moved).tracks = s.tracks ∧ (State.setTransfer s ring index d moved).eject = s.eject ∧ (State.setTransfer s ring index d moved).field = s.field ∧ (State.setTransfer s ring index d moved).memory = s.memory ∧ (State.setTransfer s ring index d moved).knots = s.knots ∧ (State.setTransfer s ring index d moved).net = s.net ∧ (State.setTransfer s ring index d moved).faults = s.faults ∧ (State.setTransfer s ring index d moved).power = s.power ∧ (State.setTransfer s ring index d moved).perf = s.perf ∧ (State.setTransfer s ring index d moved).boot = s.boot ∧ (State.setTransfer s ring index d moved).out = s.out :=
  have h := State.setTransfer_changes s ring index d moved
  ⟨h.mfg, h.pending, h.areas .tick rfl, h.areas .freeN rfl, h.areas .blobs rfl, h.areas .ctl rfl, h.areas .belt rfl, h.areas .supplies rfl, h.areas .intake rfl, h.areas .pipe rfl, h.areas .engine rfl, h.areas .tracks rfl, h.areas .eject rfl, h.areas .field rfl, h.areas .memory rfl, h.areas .knots rfl, h.areas .net rfl, h.areas .faults rfl, h.areas .power rfl, h.areas .perf rfl, h.areas .boot rfl, h.areas .out rfl⟩

@[simp] theorem State.setTransfer_reg (s : State) (ring index : Nat) (d : List Byte) (moved : Nat) (k : Nat) : (State.setTransfer s ring index d moved).reg k = s.reg k :=
  (State.setTransfer_changes s ring index d moved).entries k (Entries.has_none k)

@[simp] theorem State.progress_same (s : State) (ring len : Nat) :
    (State.progress s ring len).2.mfg = s.mfg ∧ (State.progress s ring len).2.pending = s.pending ∧ (State.progress s ring len).2.tick = s.tick ∧ (State.progress s ring len).2.blobs = s.blobs ∧ (State.progress s ring len).2.ctl = s.ctl ∧ (State.progress s ring len).2.belt = s.belt ∧ (State.progress s ring len).2.supplies = s.supplies ∧ (State.progress s ring len).2.intake = s.intake ∧ (State.progress s ring len).2.pipe = s.pipe ∧ (State.progress s ring len).2.engine = s.engine ∧ (State.progress s ring len).2.tracks = s.tracks ∧ (State.progress s ring len).2.eject = s.eject ∧ (State.progress s ring len).2.field = s.field ∧ (State.progress s ring len).2.memory = s.memory ∧ (State.progress s ring len).2.knots = s.knots ∧ (State.progress s ring len).2.host = s.host ∧ (State.progress s ring len).2.net = s.net ∧ (State.progress s ring len).2.faults = s.faults ∧ (State.progress s ring len).2.power = s.power ∧ (State.progress s ring len).2.perf = s.perf ∧ (State.progress s ring len).2.boot = s.boot ∧ (State.progress s ring len).2.out = s.out :=
  have h := State.progress_changes s ring len
  ⟨h.mfg, h.pending, h.areas .tick rfl, h.areas .blobs rfl, h.areas .ctl rfl, h.areas .belt rfl, h.areas .supplies rfl, h.areas .intake rfl, h.areas .pipe rfl, h.areas .engine rfl, h.areas .tracks rfl, h.areas .eject rfl, h.areas .field rfl, h.areas .memory rfl, h.areas .knots rfl, h.areas .host rfl, h.areas .net rfl, h.areas .faults rfl, h.areas .power rfl, h.areas .perf rfl, h.areas .boot rfl, h.areas .out rfl⟩

@[simp] theorem State.progress_reg (s : State) (ring len : Nat) (k : Nat) : (State.progress s ring len).2.reg k = s.reg k :=
  (State.progress_changes s ring len).entries k (Entries.has_none k)

@[simp] theorem State.sendHellos_same (s : State) :
    (State.sendHellos s).mfg = s.mfg ∧ (State.sendHellos s).pending = s.pending ∧ (State.sendHellos s).tick = s.tick ∧ (State.sendHellos s).freeN = s.freeN ∧ (State.sendHellos s).blobs = s.blobs ∧ (State.sendHellos s).ctl = s.ctl ∧ (State.sendHellos s).belt = s.belt ∧ (State.sendHellos s).supplies = s.supplies ∧ (State.sendHellos s).intake = s.intake ∧ (State.sendHellos s).pipe = s.pipe ∧ (State.sendHellos s).engine = s.engine ∧ (State.sendHellos s).tracks = s.tracks ∧ (State.sendHellos s).eject = s.eject ∧ (State.sendHellos s).field = s.field ∧ (State.sendHellos s).memory = s.memory ∧ (State.sendHellos s).host = s.host ∧ (State.sendHellos s).net = s.net ∧ (State.sendHellos s).faults = s.faults ∧ (State.sendHellos s).power = s.power ∧ (State.sendHellos s).boot = s.boot :=
  have h := State.sendHellos_changes s
  ⟨h.mfg, h.pending, h.areas .tick rfl, h.areas .freeN rfl, h.areas .blobs rfl, h.areas .ctl rfl, h.areas .belt rfl, h.areas .supplies rfl, h.areas .intake rfl, h.areas .pipe rfl, h.areas .engine rfl, h.areas .tracks rfl, h.areas .eject rfl, h.areas .field rfl, h.areas .memory rfl, h.areas .host rfl, h.areas .net rfl, h.areas .faults rfl, h.areas .power rfl, h.areas .boot rfl⟩

@[simp] theorem State.sendHellos_reg (s : State) (k : Nat) : (State.sendHellos s).reg k = s.reg k :=
  (State.sendHellos_changes s).entries k (Entries.has_none k)

@[simp] theorem State.setPort_same (s : State) (p : Nat) (h : HostPort) :
    (State.setPort s p h).mfg = s.mfg ∧ (State.setPort s p h).pending = s.pending ∧ (State.setPort s p h).tick = s.tick ∧ (State.setPort s p h).freeN = s.freeN ∧ (State.setPort s p h).blobs = s.blobs ∧ (State.setPort s p h).ctl = s.ctl ∧ (State.setPort s p h).belt = s.belt ∧ (State.setPort s p h).supplies = s.supplies ∧ (State.setPort s p h).intake = s.intake ∧ (State.setPort s p h).pipe = s.pipe ∧ (State.setPort s p h).engine = s.engine ∧ (State.setPort s p h).tracks = s.tracks ∧ (State.setPort s p h).eject = s.eject ∧ (State.setPort s p h).field = s.field ∧ (State.setPort s p h).memory = s.memory ∧ (State.setPort s p h).knots = s.knots ∧ (State.setPort s p h).net = s.net ∧ (State.setPort s p h).faults = s.faults ∧ (State.setPort s p h).power = s.power ∧ (State.setPort s p h).perf = s.perf ∧ (State.setPort s p h).boot = s.boot ∧ (State.setPort s p h).out = s.out :=
  have h := State.setPort_changes s p h
  ⟨h.mfg, h.pending, h.areas .tick rfl, h.areas .freeN rfl, h.areas .blobs rfl, h.areas .ctl rfl, h.areas .belt rfl, h.areas .supplies rfl, h.areas .intake rfl, h.areas .pipe rfl, h.areas .engine rfl, h.areas .tracks rfl, h.areas .eject rfl, h.areas .field rfl, h.areas .memory rfl, h.areas .knots rfl, h.areas .net rfl, h.areas .faults rfl, h.areas .power rfl, h.areas .perf rfl, h.areas .boot rfl, h.areas .out rfl⟩

@[simp] theorem State.setPort_reg (s : State) (p : Nat) (h : HostPort) (k : Nat) : (State.setPort s p h).reg k = s.reg k :=
  (State.setPort_changes s p h).entries k (Entries.has_none k)

@[simp] theorem State.dropCrossings_same (s : State) :
    (State.dropCrossings s).mfg = s.mfg ∧ (State.dropCrossings s).pending = s.pending ∧ (State.dropCrossings s).tick = s.tick ∧ (State.dropCrossings s).freeN = s.freeN ∧ (State.dropCrossings s).blobs = s.blobs ∧ (State.dropCrossings s).ctl = s.ctl ∧ (State.dropCrossings s).belt = s.belt ∧ (State.dropCrossings s).supplies = s.supplies ∧ (State.dropCrossings s).intake = s.intake ∧ (State.dropCrossings s).pipe = s.pipe ∧ (State.dropCrossings s).engine = s.engine ∧ (State.dropCrossings s).eject = s.eject ∧ (State.dropCrossings s).field = s.field ∧ (State.dropCrossings s).memory = s.memory ∧ (State.dropCrossings s).knots = s.knots ∧ (State.dropCrossings s).host = s.host ∧ (State.dropCrossings s).faults = s.faults ∧ (State.dropCrossings s).power = s.power ∧ (State.dropCrossings s).perf = s.perf ∧ (State.dropCrossings s).boot = s.boot ∧ (State.dropCrossings s).out = s.out :=
  have h := State.dropCrossings_changes s
  ⟨h.mfg, h.pending, h.areas .tick rfl, h.areas .freeN rfl, h.areas .blobs rfl, h.areas .ctl rfl, h.areas .belt rfl, h.areas .supplies rfl, h.areas .intake rfl, h.areas .pipe rfl, h.areas .engine rfl, h.areas .eject rfl, h.areas .field rfl, h.areas .memory rfl, h.areas .knots rfl, h.areas .host rfl, h.areas .faults rfl, h.areas .power rfl, h.areas .perf rfl, h.areas .boot rfl, h.areas .out rfl⟩

@[simp] theorem State.dropCrossings_reg (s : State) (k : Nat) : (State.dropCrossings s).reg k = s.reg k :=
  (State.dropCrossings_changes s).entries k (Entries.has_none k)

@[simp] theorem State.dropSession_same (s : State) (sess : Nat) :
    (State.dropSession s sess).mfg = s.mfg ∧ (State.dropSession s sess).pending = s.pending ∧ (State.dropSession s sess).tick = s.tick ∧ (State.dropSession s sess).freeN = s.freeN ∧ (State.dropSession s sess).blobs = s.blobs ∧ (State.dropSession s sess).belt = s.belt ∧ (State.dropSession s sess).supplies = s.supplies ∧ (State.dropSession s sess).intake = s.intake ∧ (State.dropSession s sess).pipe = s.pipe ∧ (State.dropSession s sess).engine = s.engine ∧ (State.dropSession s sess).tracks = s.tracks ∧ (State.dropSession s sess).eject = s.eject ∧ (State.dropSession s sess).field = s.field ∧ (State.dropSession s sess).memory = s.memory ∧ (State.dropSession s sess).knots = s.knots ∧ (State.dropSession s sess).host = s.host ∧ (State.dropSession s sess).net = s.net ∧ (State.dropSession s sess).faults = s.faults ∧ (State.dropSession s sess).power = s.power ∧ (State.dropSession s sess).perf = s.perf ∧ (State.dropSession s sess).boot = s.boot ∧ (State.dropSession s sess).out = s.out :=
  have h := State.dropSession_changes s sess
  ⟨h.mfg, h.pending, h.areas .tick rfl, h.areas .freeN rfl, h.areas .blobs rfl, h.areas .belt rfl, h.areas .supplies rfl, h.areas .intake rfl, h.areas .pipe rfl, h.areas .engine rfl, h.areas .tracks rfl, h.areas .eject rfl, h.areas .field rfl, h.areas .memory rfl, h.areas .knots rfl, h.areas .host rfl, h.areas .net rfl, h.areas .faults rfl, h.areas .power rfl, h.areas .perf rfl, h.areas .boot rfl, h.areas .out rfl⟩

@[simp] theorem State.dropSession_reg (s : State) (sess : Nat) (k : Nat) : (State.dropSession s sess).reg k = s.reg k :=
  (State.dropSession_changes s sess).entries k (Entries.has_none k)

@[simp] theorem State.loseTunnel_same (s : State) (port : Nat) :
    (State.loseTunnel s port).mfg = s.mfg ∧ (State.loseTunnel s port).pending = s.pending ∧ (State.loseTunnel s port).tick = s.tick ∧ (State.loseTunnel s port).freeN = s.freeN ∧ (State.loseTunnel s port).blobs = s.blobs ∧ (State.loseTunnel s port).belt = s.belt ∧ (State.loseTunnel s port).supplies = s.supplies ∧ (State.loseTunnel s port).intake = s.intake ∧ (State.loseTunnel s port).pipe = s.pipe ∧ (State.loseTunnel s port).engine = s.engine ∧ (State.loseTunnel s port).tracks = s.tracks ∧ (State.loseTunnel s port).eject = s.eject ∧ (State.loseTunnel s port).field = s.field ∧ (State.loseTunnel s port).memory = s.memory ∧ (State.loseTunnel s port).knots = s.knots ∧ (State.loseTunnel s port).net = s.net ∧ (State.loseTunnel s port).faults = s.faults ∧ (State.loseTunnel s port).power = s.power ∧ (State.loseTunnel s port).perf = s.perf ∧ (State.loseTunnel s port).boot = s.boot ∧ (State.loseTunnel s port).out = s.out :=
  have h := State.loseTunnel_changes s port
  ⟨h.mfg, h.pending, h.areas .tick rfl, h.areas .freeN rfl, h.areas .blobs rfl, h.areas .belt rfl, h.areas .supplies rfl, h.areas .intake rfl, h.areas .pipe rfl, h.areas .engine rfl, h.areas .tracks rfl, h.areas .eject rfl, h.areas .field rfl, h.areas .memory rfl, h.areas .knots rfl, h.areas .net rfl, h.areas .faults rfl, h.areas .power rfl, h.areas .perf rfl, h.areas .boot rfl, h.areas .out rfl⟩

@[simp] theorem State.loseTunnel_reg (s : State) (port : Nat) (k : Nat) : (State.loseTunnel s port).reg k = s.reg k :=
  (State.loseTunnel_changes s port).entries k (Entries.has_none k)

@[simp] theorem State.portLink_same (s : State) (p : Nat) (up : Bool) (rate : Nat) :
    (State.portLink s p up rate).mfg = s.mfg ∧ (State.portLink s p up rate).pending = s.pending ∧ (State.portLink s p up rate).tick = s.tick ∧ (State.portLink s p up rate).freeN = s.freeN ∧ (State.portLink s p up rate).blobs = s.blobs ∧ (State.portLink s p up rate).ctl = s.ctl ∧ (State.portLink s p up rate).belt = s.belt ∧ (State.portLink s p up rate).supplies = s.supplies ∧ (State.portLink s p up rate).intake = s.intake ∧ (State.portLink s p up rate).pipe = s.pipe ∧ (State.portLink s p up rate).engine = s.engine ∧ (State.portLink s p up rate).tracks = s.tracks ∧ (State.portLink s p up rate).eject = s.eject ∧ (State.portLink s p up rate).field = s.field ∧ (State.portLink s p up rate).memory = s.memory ∧ (State.portLink s p up rate).knots = s.knots ∧ (State.portLink s p up rate).host = s.host ∧ (State.portLink s p up rate).net = s.net ∧ (State.portLink s p up rate).faults = s.faults ∧ (State.portLink s p up rate).power = s.power ∧ (State.portLink s p up rate).perf = s.perf ∧ (State.portLink s p up rate).boot = s.boot ∧ (State.portLink s p up rate).out = s.out :=
  have h := State.portLink_changes s p up rate
  ⟨h.mfg, h.pending, h.areas .tick rfl, h.areas .freeN rfl, h.areas .blobs rfl, h.areas .ctl rfl, h.areas .belt rfl, h.areas .supplies rfl, h.areas .intake rfl, h.areas .pipe rfl, h.areas .engine rfl, h.areas .tracks rfl, h.areas .eject rfl, h.areas .field rfl, h.areas .memory rfl, h.areas .knots rfl, h.areas .host rfl, h.areas .net rfl, h.areas .faults rfl, h.areas .power rfl, h.areas .perf rfl, h.areas .boot rfl, h.areas .out rfl⟩

@[simp] theorem State.portLink_reg (s : State) (p : Nat) (up : Bool) (rate : Nat) (j : Nat) (h : (Entries.only [0x1303, 0x1306, 0x1311]).has j = false) : (State.portLink s p up rate).reg j = s.reg j :=
  (State.portLink_changes s p up rate).entries j h

@[simp] theorem State.setServed_same (s : State) (die sp : Nat) (n : Option Nat) :
    (State.setServed s die sp n).mfg = s.mfg ∧ (State.setServed s die sp n).pending = s.pending ∧ (State.setServed s die sp n).tick = s.tick ∧ (State.setServed s die sp n).freeN = s.freeN ∧ (State.setServed s die sp n).blobs = s.blobs ∧ (State.setServed s die sp n).ctl = s.ctl ∧ (State.setServed s die sp n).belt = s.belt ∧ (State.setServed s die sp n).supplies = s.supplies ∧ (State.setServed s die sp n).intake = s.intake ∧ (State.setServed s die sp n).pipe = s.pipe ∧ (State.setServed s die sp n).tracks = s.tracks ∧ (State.setServed s die sp n).eject = s.eject ∧ (State.setServed s die sp n).field = s.field ∧ (State.setServed s die sp n).memory = s.memory ∧ (State.setServed s die sp n).knots = s.knots ∧ (State.setServed s die sp n).host = s.host ∧ (State.setServed s die sp n).net = s.net ∧ (State.setServed s die sp n).faults = s.faults ∧ (State.setServed s die sp n).power = s.power ∧ (State.setServed s die sp n).perf = s.perf ∧ (State.setServed s die sp n).boot = s.boot ∧ (State.setServed s die sp n).out = s.out :=
  have h := State.setServed_changes s die sp n
  ⟨h.mfg, h.pending, h.areas .tick rfl, h.areas .freeN rfl, h.areas .blobs rfl, h.areas .ctl rfl, h.areas .belt rfl, h.areas .supplies rfl, h.areas .intake rfl, h.areas .pipe rfl, h.areas .tracks rfl, h.areas .eject rfl, h.areas .field rfl, h.areas .memory rfl, h.areas .knots rfl, h.areas .host rfl, h.areas .net rfl, h.areas .faults rfl, h.areas .power rfl, h.areas .perf rfl, h.areas .boot rfl, h.areas .out rfl⟩

@[simp] theorem State.setServed_reg (s : State) (die sp : Nat) (n : Option Nat) (k : Nat) : (State.setServed s die sp n).reg k = s.reg k :=
  (State.setServed_changes s die sp n).entries k (Entries.has_none k)

@[simp] theorem State.applyRetire_same (s : State) (die n : Nat) :
    (State.applyRetire s die n).mfg = s.mfg ∧ (State.applyRetire s die n).pending = s.pending ∧ (State.applyRetire s die n).tick = s.tick ∧ (State.applyRetire s die n).freeN = s.freeN ∧ (State.applyRetire s die n).blobs = s.blobs ∧ (State.applyRetire s die n).ctl = s.ctl ∧ (State.applyRetire s die n).belt = s.belt ∧ (State.applyRetire s die n).supplies = s.supplies ∧ (State.applyRetire s die n).intake = s.intake ∧ (State.applyRetire s die n).pipe = s.pipe ∧ (State.applyRetire s die n).tracks = s.tracks ∧ (State.applyRetire s die n).eject = s.eject ∧ (State.applyRetire s die n).field = s.field ∧ (State.applyRetire s die n).memory = s.memory ∧ (State.applyRetire s die n).knots = s.knots ∧ (State.applyRetire s die n).net = s.net ∧ (State.applyRetire s die n).faults = s.faults ∧ (State.applyRetire s die n).power = s.power ∧ (State.applyRetire s die n).boot = s.boot :=
  have h := State.applyRetire_changes s die n
  ⟨h.mfg, h.pending, h.areas .tick rfl, h.areas .freeN rfl, h.areas .blobs rfl, h.areas .ctl rfl, h.areas .belt rfl, h.areas .supplies rfl, h.areas .intake rfl, h.areas .pipe rfl, h.areas .tracks rfl, h.areas .eject rfl, h.areas .field rfl, h.areas .memory rfl, h.areas .knots rfl, h.areas .net rfl, h.areas .faults rfl, h.areas .power rfl, h.areas .boot rfl⟩

@[simp] theorem State.applyRetire_reg (s : State) (die n : Nat) (j : Nat) (h : (Entries.only [0x0808, 0x1205, K.recordsUnrouted]).has j = false) : (State.applyRetire s die n).reg j = s.reg j :=
  (State.applyRetire_changes s die n).entries j h

@[simp] theorem State.noteRetire_same (s : State) (die n cause : Nat) :
    (State.noteRetire s die n cause).mfg = s.mfg ∧ (State.noteRetire s die n cause).pending = s.pending ∧ (State.noteRetire s die n cause).tick = s.tick ∧ (State.noteRetire s die n cause).blobs = s.blobs ∧ (State.noteRetire s die n cause).ctl = s.ctl ∧ (State.noteRetire s die n cause).belt = s.belt ∧ (State.noteRetire s die n cause).supplies = s.supplies ∧ (State.noteRetire s die n cause).intake = s.intake ∧ (State.noteRetire s die n cause).pipe = s.pipe ∧ (State.noteRetire s die n cause).engine = s.engine ∧ (State.noteRetire s die n cause).tracks = s.tracks ∧ (State.noteRetire s die n cause).eject = s.eject ∧ (State.noteRetire s die n cause).field = s.field ∧ (State.noteRetire s die n cause).memory = s.memory ∧ (State.noteRetire s die n cause).knots = s.knots ∧ (State.noteRetire s die n cause).net = s.net ∧ (State.noteRetire s die n cause).power = s.power ∧ (State.noteRetire s die n cause).boot = s.boot :=
  have h := State.noteRetire_changes s die n cause
  ⟨h.mfg, h.pending, h.areas .tick rfl, h.areas .blobs rfl, h.areas .ctl rfl, h.areas .belt rfl, h.areas .supplies rfl, h.areas .intake rfl, h.areas .pipe rfl, h.areas .engine rfl, h.areas .tracks rfl, h.areas .eject rfl, h.areas .field rfl, h.areas .memory rfl, h.areas .knots rfl, h.areas .net rfl, h.areas .power rfl, h.areas .boot rfl⟩

@[simp] theorem State.noteRetire_reg (s : State) (die n cause : Nat) (j : Nat) (h : (Entries.only [0x1205, 0x1402, 0x1703, K.recordsUnrouted, K.faultLogOverwritten, K.faultRecordsSuppressed]).has j = false) : (State.noteRetire s die n cause).reg j = s.reg j :=
  (State.noteRetire_changes s die n cause).entries j h

@[simp] theorem State.cmdBegin_same (s : State) (k : Nat) :
    (State.cmdBegin s k).2.mfg = s.mfg ∧ (State.cmdBegin s k).2.pending = s.pending ∧ (State.cmdBegin s k).2.tick = s.tick ∧ (State.cmdBegin s k).2.freeN = s.freeN ∧ (State.cmdBegin s k).2.blobs = s.blobs ∧ (State.cmdBegin s k).2.belt = s.belt ∧ (State.cmdBegin s k).2.supplies = s.supplies ∧ (State.cmdBegin s k).2.intake = s.intake ∧ (State.cmdBegin s k).2.pipe = s.pipe ∧ (State.cmdBegin s k).2.engine = s.engine ∧ (State.cmdBegin s k).2.tracks = s.tracks ∧ (State.cmdBegin s k).2.eject = s.eject ∧ (State.cmdBegin s k).2.field = s.field ∧ (State.cmdBegin s k).2.memory = s.memory ∧ (State.cmdBegin s k).2.knots = s.knots ∧ (State.cmdBegin s k).2.host = s.host ∧ (State.cmdBegin s k).2.net = s.net ∧ (State.cmdBegin s k).2.faults = s.faults ∧ (State.cmdBegin s k).2.power = s.power ∧ (State.cmdBegin s k).2.perf = s.perf ∧ (State.cmdBegin s k).2.boot = s.boot ∧ (State.cmdBegin s k).2.out = s.out :=
  have h := State.cmdBegin_changes s k
  ⟨h.mfg, h.pending, h.areas .tick rfl, h.areas .freeN rfl, h.areas .blobs rfl, h.areas .belt rfl, h.areas .supplies rfl, h.areas .intake rfl, h.areas .pipe rfl, h.areas .engine rfl, h.areas .tracks rfl, h.areas .eject rfl, h.areas .field rfl, h.areas .memory rfl, h.areas .knots rfl, h.areas .host rfl, h.areas .net rfl, h.areas .faults rfl, h.areas .power rfl, h.areas .perf rfl, h.areas .boot rfl, h.areas .out rfl⟩

@[simp] theorem State.cmdBegin_reg (s : State) (k : Nat) (j : Nat) : (State.cmdBegin s k).2.reg j = s.reg j :=
  (State.cmdBegin_changes s k).entries j (Entries.has_none j)

@[simp] theorem State.eyeScanCmd_same (s : State) (l : Nat) :
    (State.eyeScanCmd s l).2.mfg = s.mfg ∧ (State.eyeScanCmd s l).2.pending = s.pending ∧ (State.eyeScanCmd s l).2.tick = s.tick ∧ (State.eyeScanCmd s l).2.freeN = s.freeN ∧ (State.eyeScanCmd s l).2.blobs = s.blobs ∧ (State.eyeScanCmd s l).2.belt = s.belt ∧ (State.eyeScanCmd s l).2.supplies = s.supplies ∧ (State.eyeScanCmd s l).2.pipe = s.pipe ∧ (State.eyeScanCmd s l).2.engine = s.engine ∧ (State.eyeScanCmd s l).2.tracks = s.tracks ∧ (State.eyeScanCmd s l).2.eject = s.eject ∧ (State.eyeScanCmd s l).2.field = s.field ∧ (State.eyeScanCmd s l).2.memory = s.memory ∧ (State.eyeScanCmd s l).2.knots = s.knots ∧ (State.eyeScanCmd s l).2.host = s.host ∧ (State.eyeScanCmd s l).2.net = s.net ∧ (State.eyeScanCmd s l).2.faults = s.faults ∧ (State.eyeScanCmd s l).2.power = s.power ∧ (State.eyeScanCmd s l).2.perf = s.perf ∧ (State.eyeScanCmd s l).2.boot = s.boot ∧ (State.eyeScanCmd s l).2.out = s.out :=
  have h := State.eyeScanCmd_changes s l
  ⟨h.mfg, h.pending, h.areas .tick rfl, h.areas .freeN rfl, h.areas .blobs rfl, h.areas .belt rfl, h.areas .supplies rfl, h.areas .pipe rfl, h.areas .engine rfl, h.areas .tracks rfl, h.areas .eject rfl, h.areas .field rfl, h.areas .memory rfl, h.areas .knots rfl, h.areas .host rfl, h.areas .net rfl, h.areas .faults rfl, h.areas .power rfl, h.areas .perf rfl, h.areas .boot rfl, h.areas .out rfl⟩

@[simp] theorem State.eyeScanCmd_reg (s : State) (l : Nat) (k : Nat) : (State.eyeScanCmd s l).2.reg k = s.reg k :=
  (State.eyeScanCmd_changes s l).entries k (Entries.has_none k)

@[simp] theorem State.reoriginCmd_same (s : State) (v : Nat) :
    (State.reoriginCmd s v).2.mfg = s.mfg ∧ (State.reoriginCmd s v).2.pending = s.pending ∧ (State.reoriginCmd s v).2.tick = s.tick ∧ (State.reoriginCmd s v).2.freeN = s.freeN ∧ (State.reoriginCmd s v).2.blobs = s.blobs ∧ (State.reoriginCmd s v).2.supplies = s.supplies ∧ (State.reoriginCmd s v).2.intake = s.intake ∧ (State.reoriginCmd s v).2.pipe = s.pipe ∧ (State.reoriginCmd s v).2.engine = s.engine ∧ (State.reoriginCmd s v).2.tracks = s.tracks ∧ (State.reoriginCmd s v).2.eject = s.eject ∧ (State.reoriginCmd s v).2.field = s.field ∧ (State.reoriginCmd s v).2.memory = s.memory ∧ (State.reoriginCmd s v).2.knots = s.knots ∧ (State.reoriginCmd s v).2.host = s.host ∧ (State.reoriginCmd s v).2.net = s.net ∧ (State.reoriginCmd s v).2.faults = s.faults ∧ (State.reoriginCmd s v).2.power = s.power ∧ (State.reoriginCmd s v).2.perf = s.perf ∧ (State.reoriginCmd s v).2.boot = s.boot ∧ (State.reoriginCmd s v).2.out = s.out :=
  have h := State.reoriginCmd_changes s v
  ⟨h.mfg, h.pending, h.areas .tick rfl, h.areas .freeN rfl, h.areas .blobs rfl, h.areas .supplies rfl, h.areas .intake rfl, h.areas .pipe rfl, h.areas .engine rfl, h.areas .tracks rfl, h.areas .eject rfl, h.areas .field rfl, h.areas .memory rfl, h.areas .knots rfl, h.areas .host rfl, h.areas .net rfl, h.areas .faults rfl, h.areas .power rfl, h.areas .perf rfl, h.areas .boot rfl, h.areas .out rfl⟩

@[simp] theorem State.reoriginCmd_reg (s : State) (v : Nat) (k : Nat) : (State.reoriginCmd s v).2.reg k = s.reg k :=
  (State.reoriginCmd_changes s v).entries k (Entries.has_none k)

@[simp] theorem State.setBlobSlot_same (s : State) (n : Nat) (x : BlobSlot) :
    (State.setBlobSlot s n x).mfg = s.mfg ∧ (State.setBlobSlot s n x).pending = s.pending ∧ (State.setBlobSlot s n x).tick = s.tick ∧ (State.setBlobSlot s n x).freeN = s.freeN ∧ (State.setBlobSlot s n x).blobs = s.blobs ∧ (State.setBlobSlot s n x).ctl = s.ctl ∧ (State.setBlobSlot s n x).belt = s.belt ∧ (State.setBlobSlot s n x).supplies = s.supplies ∧ (State.setBlobSlot s n x).intake = s.intake ∧ (State.setBlobSlot s n x).pipe = s.pipe ∧ (State.setBlobSlot s n x).engine = s.engine ∧ (State.setBlobSlot s n x).tracks = s.tracks ∧ (State.setBlobSlot s n x).eject = s.eject ∧ (State.setBlobSlot s n x).field = s.field ∧ (State.setBlobSlot s n x).memory = s.memory ∧ (State.setBlobSlot s n x).knots = s.knots ∧ (State.setBlobSlot s n x).host = s.host ∧ (State.setBlobSlot s n x).net = s.net ∧ (State.setBlobSlot s n x).faults = s.faults ∧ (State.setBlobSlot s n x).power = s.power ∧ (State.setBlobSlot s n x).perf = s.perf ∧ (State.setBlobSlot s n x).out = s.out :=
  have h := State.setBlobSlot_changes s n x
  ⟨h.mfg, h.pending, h.areas .tick rfl, h.areas .freeN rfl, h.areas .blobs rfl, h.areas .ctl rfl, h.areas .belt rfl, h.areas .supplies rfl, h.areas .intake rfl, h.areas .pipe rfl, h.areas .engine rfl, h.areas .tracks rfl, h.areas .eject rfl, h.areas .field rfl, h.areas .memory rfl, h.areas .knots rfl, h.areas .host rfl, h.areas .net rfl, h.areas .faults rfl, h.areas .power rfl, h.areas .perf rfl, h.areas .out rfl⟩

@[simp] theorem State.setBlobSlot_reg (s : State) (n : Nat) (x : BlobSlot) (k : Nat) : (State.setBlobSlot s n x).reg k = s.reg k :=
  (State.setBlobSlot_changes s n x).entries k (Entries.has_none k)

@[simp] theorem State.blobEnd_same (s : State) (n : Nat) :
    (State.blobEnd s n).2.mfg = s.mfg ∧ (State.blobEnd s n).2.pending = s.pending ∧ (State.blobEnd s n).2.tick = s.tick ∧ (State.blobEnd s n).2.freeN = s.freeN ∧ (State.blobEnd s n).2.blobs = s.blobs ∧ (State.blobEnd s n).2.belt = s.belt ∧ (State.blobEnd s n).2.supplies = s.supplies ∧ (State.blobEnd s n).2.intake = s.intake ∧ (State.blobEnd s n).2.pipe = s.pipe ∧ (State.blobEnd s n).2.engine = s.engine ∧ (State.blobEnd s n).2.tracks = s.tracks ∧ (State.blobEnd s n).2.eject = s.eject ∧ (State.blobEnd s n).2.field = s.field ∧ (State.blobEnd s n).2.memory = s.memory ∧ (State.blobEnd s n).2.knots = s.knots ∧ (State.blobEnd s n).2.host = s.host ∧ (State.blobEnd s n).2.net = s.net ∧ (State.blobEnd s n).2.faults = s.faults ∧ (State.blobEnd s n).2.power = s.power ∧ (State.blobEnd s n).2.perf = s.perf ∧ (State.blobEnd s n).2.out = s.out :=
  have h := State.blobEnd_changes s n
  ⟨h.mfg, h.pending, h.areas .tick rfl, h.areas .freeN rfl, h.areas .blobs rfl, h.areas .belt rfl, h.areas .supplies rfl, h.areas .intake rfl, h.areas .pipe rfl, h.areas .engine rfl, h.areas .tracks rfl, h.areas .eject rfl, h.areas .field rfl, h.areas .memory rfl, h.areas .knots rfl, h.areas .host rfl, h.areas .net rfl, h.areas .faults rfl, h.areas .power rfl, h.areas .perf rfl, h.areas .out rfl⟩

@[simp] theorem State.blobEnd_reg (s : State) (n : Nat) (k : Nat) : (State.blobEnd s n).2.reg k = s.reg k :=
  (State.blobEnd_changes s n).entries k (Entries.has_none k)

@[simp] theorem State.resumeCtx_same (s : State) (c : Nat) :
    (State.resumeCtx s c).mfg = s.mfg ∧ (State.resumeCtx s c).pending = s.pending ∧ (State.resumeCtx s c).tick = s.tick ∧ (State.resumeCtx s c).freeN = s.freeN ∧ (State.resumeCtx s c).blobs = s.blobs ∧ (State.resumeCtx s c).ctl = s.ctl ∧ (State.resumeCtx s c).supplies = s.supplies ∧ (State.resumeCtx s c).intake = s.intake ∧ (State.resumeCtx s c).pipe = s.pipe ∧ (State.resumeCtx s c).tracks = s.tracks ∧ (State.resumeCtx s c).eject = s.eject ∧ (State.resumeCtx s c).field = s.field ∧ (State.resumeCtx s c).memory = s.memory ∧ (State.resumeCtx s c).net = s.net ∧ (State.resumeCtx s c).faults = s.faults ∧ (State.resumeCtx s c).boot = s.boot :=
  have h := State.resumeCtx_changes s c
  ⟨h.mfg, h.pending, h.areas .tick rfl, h.areas .freeN rfl, h.areas .blobs rfl, h.areas .ctl rfl, h.areas .supplies rfl, h.areas .intake rfl, h.areas .pipe rfl, h.areas .tracks rfl, h.areas .eject rfl, h.areas .field rfl, h.areas .memory rfl, h.areas .net rfl, h.areas .faults rfl, h.areas .boot rfl⟩

@[simp] theorem State.resumeCtx_reg (s : State) (c : Nat) (j : Nat) (h : (Entries.only [0x1205, K.waitersInUse, K.waitersPeak, K.commandsCompleted, K.recordsUnrouted]).has j = false) : (State.resumeCtx s c).reg j = s.reg j :=
  (State.resumeCtx_changes s c).entries j h

@[simp] theorem State.startForm_same (s : State) :
    (State.startForm s).mfg = s.mfg ∧ (State.startForm s).pending = s.pending ∧ (State.startForm s).tick = s.tick ∧ (State.startForm s).freeN = s.freeN ∧ (State.startForm s).blobs = s.blobs ∧ (State.startForm s).ctl = s.ctl ∧ (State.startForm s).belt = s.belt ∧ (State.startForm s).supplies = s.supplies ∧ (State.startForm s).intake = s.intake ∧ (State.startForm s).pipe = s.pipe ∧ (State.startForm s).engine = s.engine ∧ (State.startForm s).tracks = s.tracks ∧ (State.startForm s).eject = s.eject ∧ (State.startForm s).field = s.field ∧ (State.startForm s).memory = s.memory ∧ (State.startForm s).host = s.host ∧ (State.startForm s).net = s.net ∧ (State.startForm s).faults = s.faults ∧ (State.startForm s).power = s.power ∧ (State.startForm s).boot = s.boot :=
  have h := State.startForm_changes s
  ⟨h.mfg, h.pending, h.areas .tick rfl, h.areas .freeN rfl, h.areas .blobs rfl, h.areas .ctl rfl, h.areas .belt rfl, h.areas .supplies rfl, h.areas .intake rfl, h.areas .pipe rfl, h.areas .engine rfl, h.areas .tracks rfl, h.areas .eject rfl, h.areas .field rfl, h.areas .memory rfl, h.areas .host rfl, h.areas .net rfl, h.areas .faults rfl, h.areas .power rfl, h.areas .boot rfl⟩

@[simp] theorem State.startForm_reg (s : State) (j : Nat) (h : (Entries.only [K.groupState, K.groupFailCause, K.membersSeen]).has j = false) : (State.startForm s).reg j = s.reg j :=
  (State.startForm_changes s).entries j h

@[simp] theorem State.reformGroup_same (s : State) (c : Nat) :
    (State.reformGroup s c).mfg = s.mfg ∧ (State.reformGroup s c).pending = s.pending ∧ (State.reformGroup s c).tick = s.tick ∧ (State.reformGroup s c).freeN = s.freeN ∧ (State.reformGroup s c).blobs = s.blobs ∧ (State.reformGroup s c).ctl = s.ctl ∧ (State.reformGroup s c).belt = s.belt ∧ (State.reformGroup s c).supplies = s.supplies ∧ (State.reformGroup s c).intake = s.intake ∧ (State.reformGroup s c).pipe = s.pipe ∧ (State.reformGroup s c).engine = s.engine ∧ (State.reformGroup s c).tracks = s.tracks ∧ (State.reformGroup s c).eject = s.eject ∧ (State.reformGroup s c).field = s.field ∧ (State.reformGroup s c).memory = s.memory ∧ (State.reformGroup s c).host = s.host ∧ (State.reformGroup s c).net = s.net ∧ (State.reformGroup s c).faults = s.faults ∧ (State.reformGroup s c).power = s.power ∧ (State.reformGroup s c).boot = s.boot :=
  have h := State.reformGroup_changes s c
  ⟨h.mfg, h.pending, h.areas .tick rfl, h.areas .freeN rfl, h.areas .blobs rfl, h.areas .ctl rfl, h.areas .belt rfl, h.areas .supplies rfl, h.areas .intake rfl, h.areas .pipe rfl, h.areas .engine rfl, h.areas .tracks rfl, h.areas .eject rfl, h.areas .field rfl, h.areas .memory rfl, h.areas .host rfl, h.areas .net rfl, h.areas .faults rfl, h.areas .power rfl, h.areas .boot rfl⟩

@[simp] theorem State.reformGroup_reg (s : State) (c : Nat) (j : Nat) (h : (Entries.only [K.groupState, K.groupFailCause, K.membersSeen]).has j = false) : (State.reformGroup s c).reg j = s.reg j :=
  (State.reformGroup_changes s c).entries j h

@[simp] theorem State.setSlot_same (s : State) (n : Nat) (x : PlanSlot) :
    (State.setSlot s n x).mfg = s.mfg ∧ (State.setSlot s n x).pending = s.pending ∧ (State.setSlot s n x).tick = s.tick ∧ (State.setSlot s n x).freeN = s.freeN ∧ (State.setSlot s n x).blobs = s.blobs ∧ (State.setSlot s n x).ctl = s.ctl ∧ (State.setSlot s n x).belt = s.belt ∧ (State.setSlot s n x).supplies = s.supplies ∧ (State.setSlot s n x).intake = s.intake ∧ (State.setSlot s n x).pipe = s.pipe ∧ (State.setSlot s n x).tracks = s.tracks ∧ (State.setSlot s n x).eject = s.eject ∧ (State.setSlot s n x).field = s.field ∧ (State.setSlot s n x).memory = s.memory ∧ (State.setSlot s n x).knots = s.knots ∧ (State.setSlot s n x).host = s.host ∧ (State.setSlot s n x).net = s.net ∧ (State.setSlot s n x).faults = s.faults ∧ (State.setSlot s n x).power = s.power ∧ (State.setSlot s n x).perf = s.perf ∧ (State.setSlot s n x).boot = s.boot ∧ (State.setSlot s n x).out = s.out :=
  have h := State.setSlot_changes s n x
  ⟨h.mfg, h.pending, h.areas .tick rfl, h.areas .freeN rfl, h.areas .blobs rfl, h.areas .ctl rfl, h.areas .belt rfl, h.areas .supplies rfl, h.areas .intake rfl, h.areas .pipe rfl, h.areas .tracks rfl, h.areas .eject rfl, h.areas .field rfl, h.areas .memory rfl, h.areas .knots rfl, h.areas .host rfl, h.areas .net rfl, h.areas .faults rfl, h.areas .power rfl, h.areas .perf rfl, h.areas .boot rfl, h.areas .out rfl⟩

@[simp] theorem State.setSlot_reg (s : State) (n : Nat) (x : PlanSlot) (k : Nat) : (State.setSlot s n x).reg k = s.reg k :=
  (State.setSlot_changes s n x).entries k (Entries.has_none k)

@[simp] theorem State.openSlot_same (s : State) (n length : Nat) :
    (State.openSlot s n length).2.mfg = s.mfg ∧ (State.openSlot s n length).2.pending = s.pending ∧ (State.openSlot s n length).2.tick = s.tick ∧ (State.openSlot s n length).2.freeN = s.freeN ∧ (State.openSlot s n length).2.ctl = s.ctl ∧ (State.openSlot s n length).2.belt = s.belt ∧ (State.openSlot s n length).2.supplies = s.supplies ∧ (State.openSlot s n length).2.intake = s.intake ∧ (State.openSlot s n length).2.pipe = s.pipe ∧ (State.openSlot s n length).2.tracks = s.tracks ∧ (State.openSlot s n length).2.eject = s.eject ∧ (State.openSlot s n length).2.field = s.field ∧ (State.openSlot s n length).2.memory = s.memory ∧ (State.openSlot s n length).2.knots = s.knots ∧ (State.openSlot s n length).2.host = s.host ∧ (State.openSlot s n length).2.net = s.net ∧ (State.openSlot s n length).2.faults = s.faults ∧ (State.openSlot s n length).2.power = s.power ∧ (State.openSlot s n length).2.perf = s.perf ∧ (State.openSlot s n length).2.boot = s.boot ∧ (State.openSlot s n length).2.out = s.out :=
  have h := State.openSlot_changes s n length
  ⟨h.mfg, h.pending, h.areas .tick rfl, h.areas .freeN rfl, h.areas .ctl rfl, h.areas .belt rfl, h.areas .supplies rfl, h.areas .intake rfl, h.areas .pipe rfl, h.areas .tracks rfl, h.areas .eject rfl, h.areas .field rfl, h.areas .memory rfl, h.areas .knots rfl, h.areas .host rfl, h.areas .net rfl, h.areas .faults rfl, h.areas .power rfl, h.areas .perf rfl, h.areas .boot rfl, h.areas .out rfl⟩

@[simp] theorem State.openSlot_reg (s : State) (n length : Nat) (k : Nat) : (State.openSlot s n length).2.reg k = s.reg k :=
  (State.openSlot_changes s n length).entries k (Entries.has_none k)

@[simp] theorem State.uploadBegin_same (s : State) (length : Nat) :
    (State.uploadBegin s length).2.mfg = s.mfg ∧ (State.uploadBegin s length).2.pending = s.pending ∧ (State.uploadBegin s length).2.tick = s.tick ∧ (State.uploadBegin s length).2.freeN = s.freeN ∧ (State.uploadBegin s length).2.belt = s.belt ∧ (State.uploadBegin s length).2.supplies = s.supplies ∧ (State.uploadBegin s length).2.intake = s.intake ∧ (State.uploadBegin s length).2.pipe = s.pipe ∧ (State.uploadBegin s length).2.tracks = s.tracks ∧ (State.uploadBegin s length).2.eject = s.eject ∧ (State.uploadBegin s length).2.field = s.field ∧ (State.uploadBegin s length).2.memory = s.memory ∧ (State.uploadBegin s length).2.knots = s.knots ∧ (State.uploadBegin s length).2.host = s.host ∧ (State.uploadBegin s length).2.net = s.net ∧ (State.uploadBegin s length).2.faults = s.faults ∧ (State.uploadBegin s length).2.power = s.power ∧ (State.uploadBegin s length).2.perf = s.perf ∧ (State.uploadBegin s length).2.boot = s.boot ∧ (State.uploadBegin s length).2.out = s.out :=
  have h := State.uploadBegin_changes s length
  ⟨h.mfg, h.pending, h.areas .tick rfl, h.areas .freeN rfl, h.areas .belt rfl, h.areas .supplies rfl, h.areas .intake rfl, h.areas .pipe rfl, h.areas .tracks rfl, h.areas .eject rfl, h.areas .field rfl, h.areas .memory rfl, h.areas .knots rfl, h.areas .host rfl, h.areas .net rfl, h.areas .faults rfl, h.areas .power rfl, h.areas .perf rfl, h.areas .boot rfl, h.areas .out rfl⟩

@[simp] theorem State.uploadBegin_reg (s : State) (length : Nat) (j : Nat) (h : (Entries.only [K.planUploadOffset]).has j = false) : (State.uploadBegin s length).2.reg j = s.reg j :=
  (State.uploadBegin_changes s length).entries j h

@[simp] theorem State.fireErrorClearCmd_same (s : State) :
    (State.fireErrorClearCmd s).2.mfg = s.mfg ∧ (State.fireErrorClearCmd s).2.pending = s.pending ∧ (State.fireErrorClearCmd s).2.tick = s.tick ∧ (State.fireErrorClearCmd s).2.freeN = s.freeN ∧ (State.fireErrorClearCmd s).2.blobs = s.blobs ∧ (State.fireErrorClearCmd s).2.belt = s.belt ∧ (State.fireErrorClearCmd s).2.supplies = s.supplies ∧ (State.fireErrorClearCmd s).2.intake = s.intake ∧ (State.fireErrorClearCmd s).2.pipe = s.pipe ∧ (State.fireErrorClearCmd s).2.engine = s.engine ∧ (State.fireErrorClearCmd s).2.tracks = s.tracks ∧ (State.fireErrorClearCmd s).2.eject = s.eject ∧ (State.fireErrorClearCmd s).2.field = s.field ∧ (State.fireErrorClearCmd s).2.memory = s.memory ∧ (State.fireErrorClearCmd s).2.knots = s.knots ∧ (State.fireErrorClearCmd s).2.host = s.host ∧ (State.fireErrorClearCmd s).2.net = s.net ∧ (State.fireErrorClearCmd s).2.faults = s.faults ∧ (State.fireErrorClearCmd s).2.power = s.power ∧ (State.fireErrorClearCmd s).2.perf = s.perf ∧ (State.fireErrorClearCmd s).2.boot = s.boot ∧ (State.fireErrorClearCmd s).2.out = s.out :=
  have h := State.fireErrorClearCmd_changes s
  ⟨h.mfg, h.pending, h.areas .tick rfl, h.areas .freeN rfl, h.areas .blobs rfl, h.areas .belt rfl, h.areas .supplies rfl, h.areas .intake rfl, h.areas .pipe rfl, h.areas .engine rfl, h.areas .tracks rfl, h.areas .eject rfl, h.areas .field rfl, h.areas .memory rfl, h.areas .knots rfl, h.areas .host rfl, h.areas .net rfl, h.areas .faults rfl, h.areas .power rfl, h.areas .perf rfl, h.areas .boot rfl, h.areas .out rfl⟩

@[simp] theorem State.fireErrorClearCmd_reg (s : State) (j : Nat) (h : (Entries.only [K.fireEdgesMeasured, K.fireEdgesOutside, K.fireErrorMin, K.fireErrorMax]).has j = false) : (State.fireErrorClearCmd s).2.reg j = s.reg j :=
  (State.fireErrorClearCmd_changes s).entries j h

@[simp] theorem State.setEnc_same (s : State) (c : Nat) (x : EncChan) :
    (State.setEnc s c x).mfg = s.mfg ∧ (State.setEnc s c x).pending = s.pending ∧ (State.setEnc s c x).tick = s.tick ∧ (State.setEnc s c x).freeN = s.freeN ∧ (State.setEnc s c x).blobs = s.blobs ∧ (State.setEnc s c x).ctl = s.ctl ∧ (State.setEnc s c x).belt = s.belt ∧ (State.setEnc s c x).supplies = s.supplies ∧ (State.setEnc s c x).intake = s.intake ∧ (State.setEnc s c x).pipe = s.pipe ∧ (State.setEnc s c x).engine = s.engine ∧ (State.setEnc s c x).tracks = s.tracks ∧ (State.setEnc s c x).eject = s.eject ∧ (State.setEnc s c x).memory = s.memory ∧ (State.setEnc s c x).knots = s.knots ∧ (State.setEnc s c x).host = s.host ∧ (State.setEnc s c x).net = s.net ∧ (State.setEnc s c x).faults = s.faults ∧ (State.setEnc s c x).power = s.power ∧ (State.setEnc s c x).perf = s.perf ∧ (State.setEnc s c x).boot = s.boot ∧ (State.setEnc s c x).out = s.out :=
  have h := State.setEnc_changes s c x
  ⟨h.mfg, h.pending, h.areas .tick rfl, h.areas .freeN rfl, h.areas .blobs rfl, h.areas .ctl rfl, h.areas .belt rfl, h.areas .supplies rfl, h.areas .intake rfl, h.areas .pipe rfl, h.areas .engine rfl, h.areas .tracks rfl, h.areas .eject rfl, h.areas .memory rfl, h.areas .knots rfl, h.areas .host rfl, h.areas .net rfl, h.areas .faults rfl, h.areas .power rfl, h.areas .perf rfl, h.areas .boot rfl, h.areas .out rfl⟩

@[simp] theorem State.setEnc_reg (s : State) (c : Nat) (x : EncChan) (k : Nat) : (State.setEnc s c x).reg k = s.reg k :=
  (State.setEnc_changes s c x).entries k (Entries.has_none k)

@[simp] theorem State.encResetCmd_same (s : State) (c : Nat) :
    (State.encResetCmd s c).2.mfg = s.mfg ∧ (State.encResetCmd s c).2.pending = s.pending ∧ (State.encResetCmd s c).2.tick = s.tick ∧ (State.encResetCmd s c).2.freeN = s.freeN ∧ (State.encResetCmd s c).2.blobs = s.blobs ∧ (State.encResetCmd s c).2.belt = s.belt ∧ (State.encResetCmd s c).2.supplies = s.supplies ∧ (State.encResetCmd s c).2.intake = s.intake ∧ (State.encResetCmd s c).2.pipe = s.pipe ∧ (State.encResetCmd s c).2.engine = s.engine ∧ (State.encResetCmd s c).2.tracks = s.tracks ∧ (State.encResetCmd s c).2.eject = s.eject ∧ (State.encResetCmd s c).2.memory = s.memory ∧ (State.encResetCmd s c).2.knots = s.knots ∧ (State.encResetCmd s c).2.host = s.host ∧ (State.encResetCmd s c).2.net = s.net ∧ (State.encResetCmd s c).2.faults = s.faults ∧ (State.encResetCmd s c).2.power = s.power ∧ (State.encResetCmd s c).2.perf = s.perf ∧ (State.encResetCmd s c).2.boot = s.boot ∧ (State.encResetCmd s c).2.out = s.out :=
  have h := State.encResetCmd_changes s c
  ⟨h.mfg, h.pending, h.areas .tick rfl, h.areas .freeN rfl, h.areas .blobs rfl, h.areas .belt rfl, h.areas .supplies rfl, h.areas .intake rfl, h.areas .pipe rfl, h.areas .engine rfl, h.areas .tracks rfl, h.areas .eject rfl, h.areas .memory rfl, h.areas .knots rfl, h.areas .host rfl, h.areas .net rfl, h.areas .faults rfl, h.areas .power rfl, h.areas .perf rfl, h.areas .boot rfl, h.areas .out rfl⟩

@[simp] theorem State.encResetCmd_reg (s : State) (c : Nat) (j : Nat) (h : (Entries.only [0x1010]).has j = false) : (State.encResetCmd s c).2.reg j = s.reg j :=
  (State.encResetCmd_changes s c).entries j h

@[simp] theorem State.moveNextLine_same (s : State) (i n : Nat) :
    (State.moveNextLine s i n).mfg = s.mfg ∧ (State.moveNextLine s i n).pending = s.pending ∧ (State.moveNextLine s i n).tick = s.tick ∧ (State.moveNextLine s i n).freeN = s.freeN ∧ (State.moveNextLine s i n).blobs = s.blobs ∧ (State.moveNextLine s i n).ctl = s.ctl ∧ (State.moveNextLine s i n).belt = s.belt ∧ (State.moveNextLine s i n).supplies = s.supplies ∧ (State.moveNextLine s i n).pipe = s.pipe ∧ (State.moveNextLine s i n).engine = s.engine ∧ (State.moveNextLine s i n).tracks = s.tracks ∧ (State.moveNextLine s i n).eject = s.eject ∧ (State.moveNextLine s i n).field = s.field ∧ (State.moveNextLine s i n).memory = s.memory ∧ (State.moveNextLine s i n).knots = s.knots ∧ (State.moveNextLine s i n).host = s.host ∧ (State.moveNextLine s i n).net = s.net ∧ (State.moveNextLine s i n).faults = s.faults ∧ (State.moveNextLine s i n).power = s.power ∧ (State.moveNextLine s i n).perf = s.perf ∧ (State.moveNextLine s i n).boot = s.boot ∧ (State.moveNextLine s i n).out = s.out :=
  have h := State.moveNextLine_changes s i n
  ⟨h.mfg, h.pending, h.areas .tick rfl, h.areas .freeN rfl, h.areas .blobs rfl, h.areas .ctl rfl, h.areas .belt rfl, h.areas .supplies rfl, h.areas .pipe rfl, h.areas .engine rfl, h.areas .tracks rfl, h.areas .eject rfl, h.areas .field rfl, h.areas .memory rfl, h.areas .knots rfl, h.areas .host rfl, h.areas .net rfl, h.areas .faults rfl, h.areas .power rfl, h.areas .perf rfl, h.areas .boot rfl, h.areas .out rfl⟩

@[simp] theorem State.moveNextLine_reg (s : State) (i n : Nat) (j : Nat) (h : (Entries.only [0x0208, 0x0509]).has j = false) : (State.moveNextLine s i n).reg j = s.reg j :=
  (State.moveNextLine_changes s i n).entries j h

@[simp] theorem State.setStripe_same (s : State) (st : Stripe) :
    (State.setStripe s st).mfg = s.mfg ∧ (State.setStripe s st).pending = s.pending ∧ (State.setStripe s st).tick = s.tick ∧ (State.setStripe s st).freeN = s.freeN ∧ (State.setStripe s st).blobs = s.blobs ∧ (State.setStripe s st).ctl = s.ctl ∧ (State.setStripe s st).belt = s.belt ∧ (State.setStripe s st).supplies = s.supplies ∧ (State.setStripe s st).intake = s.intake ∧ (State.setStripe s st).engine = s.engine ∧ (State.setStripe s st).tracks = s.tracks ∧ (State.setStripe s st).eject = s.eject ∧ (State.setStripe s st).field = s.field ∧ (State.setStripe s st).memory = s.memory ∧ (State.setStripe s st).knots = s.knots ∧ (State.setStripe s st).host = s.host ∧ (State.setStripe s st).net = s.net ∧ (State.setStripe s st).faults = s.faults ∧ (State.setStripe s st).power = s.power ∧ (State.setStripe s st).perf = s.perf ∧ (State.setStripe s st).boot = s.boot ∧ (State.setStripe s st).out = s.out :=
  have h := State.setStripe_changes s st
  ⟨h.mfg, h.pending, h.areas .tick rfl, h.areas .freeN rfl, h.areas .blobs rfl, h.areas .ctl rfl, h.areas .belt rfl, h.areas .supplies rfl, h.areas .intake rfl, h.areas .engine rfl, h.areas .tracks rfl, h.areas .eject rfl, h.areas .field rfl, h.areas .memory rfl, h.areas .knots rfl, h.areas .host rfl, h.areas .net rfl, h.areas .faults rfl, h.areas .power rfl, h.areas .perf rfl, h.areas .boot rfl, h.areas .out rfl⟩

@[simp] theorem State.setStripe_reg (s : State) (st : Stripe) (k : Nat) : (State.setStripe s st).reg k = s.reg k :=
  (State.setStripe_changes s st).entries k (Entries.has_none k)

@[simp] theorem State.closePass_same (s : State) :
    (State.closePass s).mfg = s.mfg ∧ (State.closePass s).pending = s.pending ∧ (State.closePass s).tick = s.tick ∧ (State.closePass s).freeN = s.freeN ∧ (State.closePass s).blobs = s.blobs ∧ (State.closePass s).ctl = s.ctl ∧ (State.closePass s).belt = s.belt ∧ (State.closePass s).supplies = s.supplies ∧ (State.closePass s).engine = s.engine ∧ (State.closePass s).tracks = s.tracks ∧ (State.closePass s).eject = s.eject ∧ (State.closePass s).field = s.field ∧ (State.closePass s).memory = s.memory ∧ (State.closePass s).knots = s.knots ∧ (State.closePass s).host = s.host ∧ (State.closePass s).net = s.net ∧ (State.closePass s).faults = s.faults ∧ (State.closePass s).power = s.power ∧ (State.closePass s).perf = s.perf ∧ (State.closePass s).boot = s.boot ∧ (State.closePass s).out = s.out :=
  have h := State.closePass_changes s
  ⟨h.mfg, h.pending, h.areas .tick rfl, h.areas .freeN rfl, h.areas .blobs rfl, h.areas .ctl rfl, h.areas .belt rfl, h.areas .supplies rfl, h.areas .engine rfl, h.areas .tracks rfl, h.areas .eject rfl, h.areas .field rfl, h.areas .memory rfl, h.areas .knots rfl, h.areas .host rfl, h.areas .net rfl, h.areas .faults rfl, h.areas .power rfl, h.areas .perf rfl, h.areas .boot rfl, h.areas .out rfl⟩

@[simp] theorem State.closePass_reg (s : State) (j : Nat) (h : (Entries.only [0x0509, 0x061A, K.currentStripe]).has j = false) : (State.closePass s).reg j = s.reg j :=
  (State.closePass_changes s).entries j h

@[simp] theorem State.flushCmd_same (s : State) :
    (State.flushCmd s).2.mfg = s.mfg ∧ (State.flushCmd s).2.pending = s.pending ∧ (State.flushCmd s).2.tick = s.tick ∧ (State.flushCmd s).2.freeN = s.freeN ∧ (State.flushCmd s).2.blobs = s.blobs ∧ (State.flushCmd s).2.supplies = s.supplies ∧ (State.flushCmd s).2.tracks = s.tracks ∧ (State.flushCmd s).2.eject = s.eject ∧ (State.flushCmd s).2.field = s.field ∧ (State.flushCmd s).2.memory = s.memory ∧ (State.flushCmd s).2.knots = s.knots ∧ (State.flushCmd s).2.host = s.host ∧ (State.flushCmd s).2.net = s.net ∧ (State.flushCmd s).2.faults = s.faults ∧ (State.flushCmd s).2.perf = s.perf ∧ (State.flushCmd s).2.boot = s.boot ∧ (State.flushCmd s).2.out = s.out :=
  have h := State.flushCmd_changes s
  ⟨h.mfg, h.pending, h.areas .tick rfl, h.areas .freeN rfl, h.areas .blobs rfl, h.areas .supplies rfl, h.areas .tracks rfl, h.areas .eject rfl, h.areas .field rfl, h.areas .memory rfl, h.areas .knots rfl, h.areas .host rfl, h.areas .net rfl, h.areas .faults rfl, h.areas .perf rfl, h.areas .boot rfl, h.areas .out rfl⟩

@[simp] theorem State.flushCmd_reg (s : State) (j : Nat) (h : (Entries.only [0x0208, 0x0509, 0x061A, K.currentStripe]).has j = false) : (State.flushCmd s).2.reg j = s.reg j :=
  (State.flushCmd_changes s).entries j h

@[simp] theorem State.powerTarget_same (s : State) (sess : Nat) (t : PowerSt) :
    (State.powerTarget s sess t).2.mfg = s.mfg ∧ (State.powerTarget s sess t).2.pending = s.pending ∧ (State.powerTarget s sess t).2.tick = s.tick ∧ (State.powerTarget s sess t).2.blobs = s.blobs ∧ (State.powerTarget s sess t).2.belt = s.belt ∧ (State.powerTarget s sess t).2.supplies = s.supplies ∧ (State.powerTarget s sess t).2.intake = s.intake ∧ (State.powerTarget s sess t).2.pipe = s.pipe ∧ (State.powerTarget s sess t).2.engine = s.engine ∧ (State.powerTarget s sess t).2.tracks = s.tracks ∧ (State.powerTarget s sess t).2.eject = s.eject ∧ (State.powerTarget s sess t).2.field = s.field ∧ (State.powerTarget s sess t).2.memory = s.memory ∧ (State.powerTarget s sess t).2.knots = s.knots ∧ (State.powerTarget s sess t).2.host = s.host ∧ (State.powerTarget s sess t).2.net = s.net ∧ (State.powerTarget s sess t).2.faults = s.faults ∧ (State.powerTarget s sess t).2.perf = s.perf ∧ (State.powerTarget s sess t).2.boot = s.boot ∧ (State.powerTarget s sess t).2.out = s.out :=
  have h := State.powerTarget_changes s sess t
  ⟨h.mfg, h.pending, h.areas .tick rfl, h.areas .blobs rfl, h.areas .belt rfl, h.areas .supplies rfl, h.areas .intake rfl, h.areas .pipe rfl, h.areas .engine rfl, h.areas .tracks rfl, h.areas .eject rfl, h.areas .field rfl, h.areas .memory rfl, h.areas .knots rfl, h.areas .host rfl, h.areas .net rfl, h.areas .faults rfl, h.areas .perf rfl, h.areas .boot rfl, h.areas .out rfl⟩

@[simp] theorem State.powerTarget_reg (s : State) (sess : Nat) (t : PowerSt) (j : Nat) (h : (Entries.only [K.lastWakeCause]).has j = false) : (State.powerTarget s sess t).2.reg j = s.reg j :=
  (State.powerTarget_changes s sess t).entries j h

@[simp] theorem State.testPulseCmd_same (s : State) (v : Nat) :
    (State.testPulseCmd s v).2.mfg = s.mfg ∧ (State.testPulseCmd s v).2.pending = s.pending ∧ (State.testPulseCmd s v).2.tick = s.tick ∧ (State.testPulseCmd s v).2.freeN = s.freeN ∧ (State.testPulseCmd s v).2.blobs = s.blobs ∧ (State.testPulseCmd s v).2.belt = s.belt ∧ (State.testPulseCmd s v).2.supplies = s.supplies ∧ (State.testPulseCmd s v).2.intake = s.intake ∧ (State.testPulseCmd s v).2.pipe = s.pipe ∧ (State.testPulseCmd s v).2.engine = s.engine ∧ (State.testPulseCmd s v).2.tracks = s.tracks ∧ (State.testPulseCmd s v).2.memory = s.memory ∧ (State.testPulseCmd s v).2.knots = s.knots ∧ (State.testPulseCmd s v).2.net = s.net ∧ (State.testPulseCmd s v).2.faults = s.faults ∧ (State.testPulseCmd s v).2.power = s.power ∧ (State.testPulseCmd s v).2.boot = s.boot :=
  have h := State.testPulseCmd_changes s v
  ⟨h.mfg, h.pending, h.areas .tick rfl, h.areas .freeN rfl, h.areas .blobs rfl, h.areas .belt rfl, h.areas .supplies rfl, h.areas .intake rfl, h.areas .pipe rfl, h.areas .engine rfl, h.areas .tracks rfl, h.areas .memory rfl, h.areas .knots rfl, h.areas .net rfl, h.areas .faults rfl, h.areas .power rfl, h.areas .boot rfl⟩

@[simp] theorem State.testPulseCmd_reg (s : State) (v : Nat) (j : Nat) (h : (Entries.only [0x0F10, 0x1205, K.channelsOn, K.outputNotDriven, K.recordsUnrouted]).has j = false) : (State.testPulseCmd s v).2.reg j = s.reg j :=
  (State.testPulseCmd_changes s v).entries j h

@[simp] theorem State.slotClear_same (s : State) (n : Nat) :
    (State.slotClear s n).2.mfg = s.mfg ∧ (State.slotClear s n).2.pending = s.pending ∧ (State.slotClear s n).2.tick = s.tick ∧ (State.slotClear s n).2.freeN = s.freeN ∧ (State.slotClear s n).2.belt = s.belt ∧ (State.slotClear s n).2.supplies = s.supplies ∧ (State.slotClear s n).2.intake = s.intake ∧ (State.slotClear s n).2.pipe = s.pipe ∧ (State.slotClear s n).2.tracks = s.tracks ∧ (State.slotClear s n).2.eject = s.eject ∧ (State.slotClear s n).2.field = s.field ∧ (State.slotClear s n).2.memory = s.memory ∧ (State.slotClear s n).2.knots = s.knots ∧ (State.slotClear s n).2.host = s.host ∧ (State.slotClear s n).2.net = s.net ∧ (State.slotClear s n).2.faults = s.faults ∧ (State.slotClear s n).2.power = s.power ∧ (State.slotClear s n).2.perf = s.perf ∧ (State.slotClear s n).2.boot = s.boot ∧ (State.slotClear s n).2.out = s.out :=
  have h := State.slotClear_changes s n
  ⟨h.mfg, h.pending, h.areas .tick rfl, h.areas .freeN rfl, h.areas .belt rfl, h.areas .supplies rfl, h.areas .intake rfl, h.areas .pipe rfl, h.areas .tracks rfl, h.areas .eject rfl, h.areas .field rfl, h.areas .memory rfl, h.areas .knots rfl, h.areas .host rfl, h.areas .net rfl, h.areas .faults rfl, h.areas .power rfl, h.areas .perf rfl, h.areas .boot rfl, h.areas .out rfl⟩

@[simp] theorem State.slotClear_reg (s : State) (n : Nat) (k : Nat) : (State.slotClear s n).2.reg k = s.reg k :=
  (State.slotClear_changes s n).entries k (Entries.has_none k)

@[simp] theorem State.closeSlot_same (s : State) (n : Nat) :
    (State.closeSlot s n).mfg = s.mfg ∧ (State.closeSlot s n).pending = s.pending ∧ (State.closeSlot s n).tick = s.tick ∧ (State.closeSlot s n).freeN = s.freeN ∧ (State.closeSlot s n).ctl = s.ctl ∧ (State.closeSlot s n).belt = s.belt ∧ (State.closeSlot s n).supplies = s.supplies ∧ (State.closeSlot s n).intake = s.intake ∧ (State.closeSlot s n).pipe = s.pipe ∧ (State.closeSlot s n).tracks = s.tracks ∧ (State.closeSlot s n).eject = s.eject ∧ (State.closeSlot s n).field = s.field ∧ (State.closeSlot s n).memory = s.memory ∧ (State.closeSlot s n).knots = s.knots ∧ (State.closeSlot s n).host = s.host ∧ (State.closeSlot s n).net = s.net ∧ (State.closeSlot s n).faults = s.faults ∧ (State.closeSlot s n).power = s.power ∧ (State.closeSlot s n).perf = s.perf ∧ (State.closeSlot s n).boot = s.boot ∧ (State.closeSlot s n).out = s.out :=
  have h := State.closeSlot_changes s n
  ⟨h.mfg, h.pending, h.areas .tick rfl, h.areas .freeN rfl, h.areas .ctl rfl, h.areas .belt rfl, h.areas .supplies rfl, h.areas .intake rfl, h.areas .pipe rfl, h.areas .tracks rfl, h.areas .eject rfl, h.areas .field rfl, h.areas .memory rfl, h.areas .knots rfl, h.areas .host rfl, h.areas .net rfl, h.areas .faults rfl, h.areas .power rfl, h.areas .perf rfl, h.areas .boot rfl, h.areas .out rfl⟩

@[simp] theorem State.closeSlot_reg (s : State) (n : Nat) (k : Nat) : (State.closeSlot s n).reg k = s.reg k :=
  (State.closeSlot_changes s n).entries k (Entries.has_none k)

@[simp] theorem State.uploadEnd_same (s : State) (n : Nat) :
    (State.uploadEnd s n).2.mfg = s.mfg ∧ (State.uploadEnd s n).2.pending = s.pending ∧ (State.uploadEnd s n).2.tick = s.tick ∧ (State.uploadEnd s n).2.freeN = s.freeN ∧ (State.uploadEnd s n).2.belt = s.belt ∧ (State.uploadEnd s n).2.supplies = s.supplies ∧ (State.uploadEnd s n).2.intake = s.intake ∧ (State.uploadEnd s n).2.pipe = s.pipe ∧ (State.uploadEnd s n).2.tracks = s.tracks ∧ (State.uploadEnd s n).2.eject = s.eject ∧ (State.uploadEnd s n).2.field = s.field ∧ (State.uploadEnd s n).2.memory = s.memory ∧ (State.uploadEnd s n).2.knots = s.knots ∧ (State.uploadEnd s n).2.host = s.host ∧ (State.uploadEnd s n).2.net = s.net ∧ (State.uploadEnd s n).2.faults = s.faults ∧ (State.uploadEnd s n).2.power = s.power ∧ (State.uploadEnd s n).2.perf = s.perf ∧ (State.uploadEnd s n).2.boot = s.boot ∧ (State.uploadEnd s n).2.out = s.out :=
  have h := State.uploadEnd_changes s n
  ⟨h.mfg, h.pending, h.areas .tick rfl, h.areas .freeN rfl, h.areas .belt rfl, h.areas .supplies rfl, h.areas .intake rfl, h.areas .pipe rfl, h.areas .tracks rfl, h.areas .eject rfl, h.areas .field rfl, h.areas .memory rfl, h.areas .knots rfl, h.areas .host rfl, h.areas .net rfl, h.areas .faults rfl, h.areas .power rfl, h.areas .perf rfl, h.areas .boot rfl, h.areas .out rfl⟩

@[simp] theorem State.uploadEnd_reg (s : State) (n : Nat) (k : Nat) : (State.uploadEnd s n).2.reg k = s.reg k :=
  (State.uploadEnd_changes s n).entries k (Entries.has_none k)

@[simp] theorem State.idleLink_same (s : State) (l : Nat) :
    (State.idleLink s l).mfg = s.mfg ∧ (State.idleLink s l).pending = s.pending ∧ (State.idleLink s l).tick = s.tick ∧ (State.idleLink s l).freeN = s.freeN ∧ (State.idleLink s l).blobs = s.blobs ∧ (State.idleLink s l).belt = s.belt ∧ (State.idleLink s l).supplies = s.supplies ∧ (State.idleLink s l).pipe = s.pipe ∧ (State.idleLink s l).engine = s.engine ∧ (State.idleLink s l).tracks = s.tracks ∧ (State.idleLink s l).eject = s.eject ∧ (State.idleLink s l).field = s.field ∧ (State.idleLink s l).memory = s.memory ∧ (State.idleLink s l).knots = s.knots ∧ (State.idleLink s l).host = s.host ∧ (State.idleLink s l).net = s.net ∧ (State.idleLink s l).faults = s.faults ∧ (State.idleLink s l).power = s.power ∧ (State.idleLink s l).perf = s.perf ∧ (State.idleLink s l).boot = s.boot ∧ (State.idleLink s l).out = s.out :=
  have h := State.idleLink_changes s l
  ⟨h.mfg, h.pending, h.areas .tick rfl, h.areas .freeN rfl, h.areas .blobs rfl, h.areas .belt rfl, h.areas .supplies rfl, h.areas .pipe rfl, h.areas .engine rfl, h.areas .tracks rfl, h.areas .eject rfl, h.areas .field rfl, h.areas .memory rfl, h.areas .knots rfl, h.areas .host rfl, h.areas .net rfl, h.areas .faults rfl, h.areas .power rfl, h.areas .perf rfl, h.areas .boot rfl, h.areas .out rfl⟩

@[simp] theorem State.idleLink_reg (s : State) (l : Nat) (j : Nat) (h : (Entries.only [0x0405, 0x0406, 0x0407]).has j = false) : (State.idleLink s l).reg j = s.reg j :=
  (State.idleLink_changes s l).entries j h

@[simp] theorem State.aliveCause_same (s : State) (causes : List Nat) :
    (State.aliveCause s causes).mfg = s.mfg ∧ (State.aliveCause s causes).pending = s.pending ∧ (State.aliveCause s causes).tick = s.tick ∧ (State.aliveCause s causes).freeN = s.freeN ∧ (State.aliveCause s causes).blobs = s.blobs ∧ (State.aliveCause s causes).ctl = s.ctl ∧ (State.aliveCause s causes).belt = s.belt ∧ (State.aliveCause s causes).supplies = s.supplies ∧ (State.aliveCause s causes).intake = s.intake ∧ (State.aliveCause s causes).pipe = s.pipe ∧ (State.aliveCause s causes).engine = s.engine ∧ (State.aliveCause s causes).tracks = s.tracks ∧ (State.aliveCause s causes).eject = s.eject ∧ (State.aliveCause s causes).memory = s.memory ∧ (State.aliveCause s causes).knots = s.knots ∧ (State.aliveCause s causes).host = s.host ∧ (State.aliveCause s causes).net = s.net ∧ (State.aliveCause s causes).faults = s.faults ∧ (State.aliveCause s causes).power = s.power ∧ (State.aliveCause s causes).perf = s.perf ∧ (State.aliveCause s causes).boot = s.boot ∧ (State.aliveCause s causes).out = s.out :=
  have h := State.aliveCause_changes s causes
  ⟨h.mfg, h.pending, h.areas .tick rfl, h.areas .freeN rfl, h.areas .blobs rfl, h.areas .ctl rfl, h.areas .belt rfl, h.areas .supplies rfl, h.areas .intake rfl, h.areas .pipe rfl, h.areas .engine rfl, h.areas .tracks rfl, h.areas .eject rfl, h.areas .memory rfl, h.areas .knots rfl, h.areas .host rfl, h.areas .net rfl, h.areas .faults rfl, h.areas .power rfl, h.areas .perf rfl, h.areas .boot rfl, h.areas .out rfl⟩

@[simp] theorem State.aliveCause_reg (s : State) (causes : List Nat) (j : Nat) (h : (Entries.only [K.aliveStopCause]).has j = false) : (State.aliveCause s causes).reg j = s.reg j :=
  (State.aliveCause_changes s causes).entries j h

@[simp] theorem State.setAlive_same (s : State) (running level : Bool) :
    (State.setAlive s running level).mfg = s.mfg ∧ (State.setAlive s running level).pending = s.pending ∧ (State.setAlive s running level).tick = s.tick ∧ (State.setAlive s running level).freeN = s.freeN ∧ (State.setAlive s running level).blobs = s.blobs ∧ (State.setAlive s running level).ctl = s.ctl ∧ (State.setAlive s running level).belt = s.belt ∧ (State.setAlive s running level).supplies = s.supplies ∧ (State.setAlive s running level).intake = s.intake ∧ (State.setAlive s running level).pipe = s.pipe ∧ (State.setAlive s running level).engine = s.engine ∧ (State.setAlive s running level).tracks = s.tracks ∧ (State.setAlive s running level).eject = s.eject ∧ (State.setAlive s running level).memory = s.memory ∧ (State.setAlive s running level).knots = s.knots ∧ (State.setAlive s running level).host = s.host ∧ (State.setAlive s running level).net = s.net ∧ (State.setAlive s running level).faults = s.faults ∧ (State.setAlive s running level).power = s.power ∧ (State.setAlive s running level).perf = s.perf ∧ (State.setAlive s running level).boot = s.boot ∧ (State.setAlive s running level).out = s.out :=
  have h := State.setAlive_changes s running level
  ⟨h.mfg, h.pending, h.areas .tick rfl, h.areas .freeN rfl, h.areas .blobs rfl, h.areas .ctl rfl, h.areas .belt rfl, h.areas .supplies rfl, h.areas .intake rfl, h.areas .pipe rfl, h.areas .engine rfl, h.areas .tracks rfl, h.areas .eject rfl, h.areas .memory rfl, h.areas .knots rfl, h.areas .host rfl, h.areas .net rfl, h.areas .faults rfl, h.areas .power rfl, h.areas .perf rfl, h.areas .boot rfl, h.areas .out rfl⟩

@[simp] theorem State.setAlive_reg (s : State) (running level : Bool) (j : Nat) (h : (Entries.only [K.aliveState]).has j = false) : (State.setAlive s running level).reg j = s.reg j :=
  (State.setAlive_changes s running level).entries j h

@[simp] theorem State.aliveStopFor_same (s : State) (c : Nat) :
    (State.aliveStopFor s c).mfg = s.mfg ∧ (State.aliveStopFor s c).pending = s.pending ∧ (State.aliveStopFor s c).tick = s.tick ∧ (State.aliveStopFor s c).freeN = s.freeN ∧ (State.aliveStopFor s c).blobs = s.blobs ∧ (State.aliveStopFor s c).ctl = s.ctl ∧ (State.aliveStopFor s c).belt = s.belt ∧ (State.aliveStopFor s c).supplies = s.supplies ∧ (State.aliveStopFor s c).intake = s.intake ∧ (State.aliveStopFor s c).pipe = s.pipe ∧ (State.aliveStopFor s c).engine = s.engine ∧ (State.aliveStopFor s c).tracks = s.tracks ∧ (State.aliveStopFor s c).eject = s.eject ∧ (State.aliveStopFor s c).memory = s.memory ∧ (State.aliveStopFor s c).knots = s.knots ∧ (State.aliveStopFor s c).host = s.host ∧ (State.aliveStopFor s c).net = s.net ∧ (State.aliveStopFor s c).faults = s.faults ∧ (State.aliveStopFor s c).power = s.power ∧ (State.aliveStopFor s c).perf = s.perf ∧ (State.aliveStopFor s c).boot = s.boot ∧ (State.aliveStopFor s c).out = s.out :=
  have h := State.aliveStopFor_changes s c
  ⟨h.mfg, h.pending, h.areas .tick rfl, h.areas .freeN rfl, h.areas .blobs rfl, h.areas .ctl rfl, h.areas .belt rfl, h.areas .supplies rfl, h.areas .intake rfl, h.areas .pipe rfl, h.areas .engine rfl, h.areas .tracks rfl, h.areas .eject rfl, h.areas .memory rfl, h.areas .knots rfl, h.areas .host rfl, h.areas .net rfl, h.areas .faults rfl, h.areas .power rfl, h.areas .perf rfl, h.areas .boot rfl, h.areas .out rfl⟩

@[simp] theorem State.aliveStopFor_reg (s : State) (c : Nat) (j : Nat) (h : (Entries.only [K.aliveState, K.aliveStopCause]).has j = false) : (State.aliveStopFor s c).reg j = s.reg j :=
  (State.aliveStopFor_changes s c).entries j h

@[simp] theorem State.hwinError_same (s : State) (port status unit off : Nat) :
    (State.hwinError s port status unit off).mfg = s.mfg ∧ (State.hwinError s port status unit off).pending = s.pending ∧ (State.hwinError s port status unit off).tick = s.tick ∧ (State.hwinError s port status unit off).freeN = s.freeN ∧ (State.hwinError s port status unit off).blobs = s.blobs ∧ (State.hwinError s port status unit off).ctl = s.ctl ∧ (State.hwinError s port status unit off).belt = s.belt ∧ (State.hwinError s port status unit off).supplies = s.supplies ∧ (State.hwinError s port status unit off).intake = s.intake ∧ (State.hwinError s port status unit off).pipe = s.pipe ∧ (State.hwinError s port status unit off).engine = s.engine ∧ (State.hwinError s port status unit off).tracks = s.tracks ∧ (State.hwinError s port status unit off).eject = s.eject ∧ (State.hwinError s port status unit off).field = s.field ∧ (State.hwinError s port status unit off).memory = s.memory ∧ (State.hwinError s port status unit off).knots = s.knots ∧ (State.hwinError s port status unit off).net = s.net ∧ (State.hwinError s port status unit off).faults = s.faults ∧ (State.hwinError s port status unit off).power = s.power ∧ (State.hwinError s port status unit off).perf = s.perf ∧ (State.hwinError s port status unit off).boot = s.boot :=
  have h := State.hwinError_changes s port status unit off
  ⟨h.mfg, h.pending, h.areas .tick rfl, h.areas .freeN rfl, h.areas .blobs rfl, h.areas .ctl rfl, h.areas .belt rfl, h.areas .supplies rfl, h.areas .intake rfl, h.areas .pipe rfl, h.areas .engine rfl, h.areas .tracks rfl, h.areas .eject rfl, h.areas .field rfl, h.areas .memory rfl, h.areas .knots rfl, h.areas .net rfl, h.areas .faults rfl, h.areas .power rfl, h.areas .perf rfl, h.areas .boot rfl⟩

@[simp] theorem State.hwinError_reg (s : State) (port status unit off : Nat) (k : Nat) : (State.hwinError s port status unit off).reg k = s.reg k :=
  (State.hwinError_changes s port status unit off).entries k (Entries.has_none k)

@[simp] theorem State.ringBell_same (s : State) (port n tail : Nat) :
    (State.ringBell s port n tail).mfg = s.mfg ∧ (State.ringBell s port n tail).pending = s.pending ∧ (State.ringBell s port n tail).tick = s.tick ∧ (State.ringBell s port n tail).freeN = s.freeN ∧ (State.ringBell s port n tail).blobs = s.blobs ∧ (State.ringBell s port n tail).ctl = s.ctl ∧ (State.ringBell s port n tail).belt = s.belt ∧ (State.ringBell s port n tail).supplies = s.supplies ∧ (State.ringBell s port n tail).intake = s.intake ∧ (State.ringBell s port n tail).pipe = s.pipe ∧ (State.ringBell s port n tail).engine = s.engine ∧ (State.ringBell s port n tail).tracks = s.tracks ∧ (State.ringBell s port n tail).eject = s.eject ∧ (State.ringBell s port n tail).field = s.field ∧ (State.ringBell s port n tail).memory = s.memory ∧ (State.ringBell s port n tail).knots = s.knots ∧ (State.ringBell s port n tail).net = s.net ∧ (State.ringBell s port n tail).faults = s.faults ∧ (State.ringBell s port n tail).power = s.power ∧ (State.ringBell s port n tail).perf = s.perf ∧ (State.ringBell s port n tail).boot = s.boot :=
  have h := State.ringBell_changes s port n tail
  ⟨h.mfg, h.pending, h.areas .tick rfl, h.areas .freeN rfl, h.areas .blobs rfl, h.areas .ctl rfl, h.areas .belt rfl, h.areas .supplies rfl, h.areas .intake rfl, h.areas .pipe rfl, h.areas .engine rfl, h.areas .tracks rfl, h.areas .eject rfl, h.areas .field rfl, h.areas .memory rfl, h.areas .knots rfl, h.areas .net rfl, h.areas .faults rfl, h.areas .power rfl, h.areas .perf rfl, h.areas .boot rfl⟩

@[simp] theorem State.ringBell_reg (s : State) (port n tail : Nat) (j : Nat) (h : (Entries.only [K.doorbellsRefused]).has j = false) : (State.ringBell s port n tail).reg j = s.reg j :=
  (State.ringBell_changes s port n tail).entries j h

@[simp] theorem State.presetBanks_same (s : State) :
    (State.presetBanks s).mfg = s.mfg ∧ (State.presetBanks s).pending = s.pending ∧ (State.presetBanks s).tick = s.tick ∧ (State.presetBanks s).freeN = s.freeN ∧ (State.presetBanks s).blobs = s.blobs ∧ (State.presetBanks s).ctl = s.ctl ∧ (State.presetBanks s).belt = s.belt ∧ (State.presetBanks s).supplies = s.supplies ∧ (State.presetBanks s).intake = s.intake ∧ (State.presetBanks s).pipe = s.pipe ∧ (State.presetBanks s).engine = s.engine ∧ (State.presetBanks s).tracks = s.tracks ∧ (State.presetBanks s).eject = s.eject ∧ (State.presetBanks s).field = s.field ∧ (State.presetBanks s).memory = s.memory ∧ (State.presetBanks s).knots = s.knots ∧ (State.presetBanks s).host = s.host ∧ (State.presetBanks s).net = s.net ∧ (State.presetBanks s).faults = s.faults ∧ (State.presetBanks s).power = s.power ∧ (State.presetBanks s).boot = s.boot ∧ (State.presetBanks s).out = s.out :=
  have h := State.presetBanks_changes s
  ⟨h.mfg, h.pending, h.areas .tick rfl, h.areas .freeN rfl, h.areas .blobs rfl, h.areas .ctl rfl, h.areas .belt rfl, h.areas .supplies rfl, h.areas .intake rfl, h.areas .pipe rfl, h.areas .engine rfl, h.areas .tracks rfl, h.areas .eject rfl, h.areas .field rfl, h.areas .memory rfl, h.areas .knots rfl, h.areas .host rfl, h.areas .net rfl, h.areas .faults rfl, h.areas .power rfl, h.areas .boot rfl, h.areas .out rfl⟩

@[simp] theorem State.presetBanks_reg (s : State) (j : Nat) (h : (Entries.only [0x1502]).has j = false) : (State.presetBanks s).reg j = s.reg j :=
  (State.presetBanks_changes s).entries j h

@[simp] theorem State.resetPipes_same (s : State) :
    (State.resetPipes s).mfg = s.mfg ∧ (State.resetPipes s).pending = s.pending ∧ (State.resetPipes s).tick = s.tick ∧ (State.resetPipes s).freeN = s.freeN ∧ (State.resetPipes s).blobs = s.blobs ∧ (State.resetPipes s).ctl = s.ctl ∧ (State.resetPipes s).belt = s.belt ∧ (State.resetPipes s).supplies = s.supplies ∧ (State.resetPipes s).intake = s.intake ∧ (State.resetPipes s).engine = s.engine ∧ (State.resetPipes s).tracks = s.tracks ∧ (State.resetPipes s).eject = s.eject ∧ (State.resetPipes s).field = s.field ∧ (State.resetPipes s).memory = s.memory ∧ (State.resetPipes s).knots = s.knots ∧ (State.resetPipes s).host = s.host ∧ (State.resetPipes s).net = s.net ∧ (State.resetPipes s).faults = s.faults ∧ (State.resetPipes s).power = s.power ∧ (State.resetPipes s).perf = s.perf ∧ (State.resetPipes s).boot = s.boot ∧ (State.resetPipes s).out = s.out :=
  have h := State.resetPipes_changes s
  ⟨h.mfg, h.pending, h.areas .tick rfl, h.areas .freeN rfl, h.areas .blobs rfl, h.areas .ctl rfl, h.areas .belt rfl, h.areas .supplies rfl, h.areas .intake rfl, h.areas .engine rfl, h.areas .tracks rfl, h.areas .eject rfl, h.areas .field rfl, h.areas .memory rfl, h.areas .knots rfl, h.areas .host rfl, h.areas .net rfl, h.areas .faults rfl, h.areas .power rfl, h.areas .perf rfl, h.areas .boot rfl, h.areas .out rfl⟩

@[simp] theorem State.resetPipes_reg (s : State) (k : Nat) : (State.resetPipes s).reg k = s.reg k :=
  (State.resetPipes_changes s).entries k (Entries.has_none k)

@[simp] theorem State.fillScales_same (s : State) (c : Nat) (p : Plan) :
    (State.fillScales s c p).mfg = s.mfg ∧ (State.fillScales s c p).pending = s.pending ∧ (State.fillScales s c p).tick = s.tick ∧ (State.fillScales s c p).freeN = s.freeN ∧ (State.fillScales s c p).blobs = s.blobs ∧ (State.fillScales s c p).ctl = s.ctl ∧ (State.fillScales s c p).belt = s.belt ∧ (State.fillScales s c p).supplies = s.supplies ∧ (State.fillScales s c p).intake = s.intake ∧ (State.fillScales s c p).pipe = s.pipe ∧ (State.fillScales s c p).tracks = s.tracks ∧ (State.fillScales s c p).eject = s.eject ∧ (State.fillScales s c p).field = s.field ∧ (State.fillScales s c p).memory = s.memory ∧ (State.fillScales s c p).knots = s.knots ∧ (State.fillScales s c p).host = s.host ∧ (State.fillScales s c p).net = s.net ∧ (State.fillScales s c p).faults = s.faults ∧ (State.fillScales s c p).power = s.power ∧ (State.fillScales s c p).perf = s.perf ∧ (State.fillScales s c p).boot = s.boot ∧ (State.fillScales s c p).out = s.out :=
  have h := State.fillScales_changes s c p
  ⟨h.mfg, h.pending, h.areas .tick rfl, h.areas .freeN rfl, h.areas .blobs rfl, h.areas .ctl rfl, h.areas .belt rfl, h.areas .supplies rfl, h.areas .intake rfl, h.areas .pipe rfl, h.areas .tracks rfl, h.areas .eject rfl, h.areas .field rfl, h.areas .memory rfl, h.areas .knots rfl, h.areas .host rfl, h.areas .net rfl, h.areas .faults rfl, h.areas .power rfl, h.areas .perf rfl, h.areas .boot rfl, h.areas .out rfl⟩

@[simp] theorem State.fillScales_reg (s : State) (c : Nat) (p : Plan) (k : Nat) : (State.fillScales s c p).reg k = s.reg k :=
  (State.fillScales_changes s c p).entries k (Entries.has_none k)

@[simp] theorem State.initRange_same (s : State) (c : Nat) (inits : SMap Int) :
    (State.initRange s c inits).mfg = s.mfg ∧ (State.initRange s c inits).pending = s.pending ∧ (State.initRange s c inits).tick = s.tick ∧ (State.initRange s c inits).freeN = s.freeN ∧ (State.initRange s c inits).blobs = s.blobs ∧ (State.initRange s c inits).ctl = s.ctl ∧ (State.initRange s c inits).belt = s.belt ∧ (State.initRange s c inits).supplies = s.supplies ∧ (State.initRange s c inits).intake = s.intake ∧ (State.initRange s c inits).pipe = s.pipe ∧ (State.initRange s c inits).engine = s.engine ∧ (State.initRange s c inits).tracks = s.tracks ∧ (State.initRange s c inits).eject = s.eject ∧ (State.initRange s c inits).field = s.field ∧ (State.initRange s c inits).memory = s.memory ∧ (State.initRange s c inits).host = s.host ∧ (State.initRange s c inits).net = s.net ∧ (State.initRange s c inits).faults = s.faults ∧ (State.initRange s c inits).power = s.power ∧ (State.initRange s c inits).perf = s.perf ∧ (State.initRange s c inits).boot = s.boot ∧ (State.initRange s c inits).out = s.out :=
  have h := State.initRange_changes s c inits
  ⟨h.mfg, h.pending, h.areas .tick rfl, h.areas .freeN rfl, h.areas .blobs rfl, h.areas .ctl rfl, h.areas .belt rfl, h.areas .supplies rfl, h.areas .intake rfl, h.areas .pipe rfl, h.areas .engine rfl, h.areas .tracks rfl, h.areas .eject rfl, h.areas .field rfl, h.areas .memory rfl, h.areas .host rfl, h.areas .net rfl, h.areas .faults rfl, h.areas .power rfl, h.areas .perf rfl, h.areas .boot rfl, h.areas .out rfl⟩

@[simp] theorem State.initRange_reg (s : State) (c : Nat) (inits : SMap Int) (k : Nat) : (State.initRange s c inits).reg k = s.reg k :=
  (State.initRange_changes s c inits).entries k (Entries.has_none k)

@[simp] theorem State.bindPlan_same (s : State) (c : Nat) (p : Plan) :
    (State.bindPlan s c p).mfg = s.mfg ∧ (State.bindPlan s c p).pending = s.pending ∧ (State.bindPlan s c p).tick = s.tick ∧ (State.bindPlan s c p).freeN = s.freeN ∧ (State.bindPlan s c p).blobs = s.blobs ∧ (State.bindPlan s c p).ctl = s.ctl ∧ (State.bindPlan s c p).belt = s.belt ∧ (State.bindPlan s c p).supplies = s.supplies ∧ (State.bindPlan s c p).intake = s.intake ∧ (State.bindPlan s c p).pipe = s.pipe ∧ (State.bindPlan s c p).tracks = s.tracks ∧ (State.bindPlan s c p).eject = s.eject ∧ (State.bindPlan s c p).field = s.field ∧ (State.bindPlan s c p).memory = s.memory ∧ (State.bindPlan s c p).net = s.net ∧ (State.bindPlan s c p).faults = s.faults ∧ (State.bindPlan s c p).power = s.power ∧ (State.bindPlan s c p).boot = s.boot :=
  have h := State.bindPlan_changes s c p
  ⟨h.mfg, h.pending, h.areas .tick rfl, h.areas .freeN rfl, h.areas .blobs rfl, h.areas .ctl rfl, h.areas .belt rfl, h.areas .supplies rfl, h.areas .intake rfl, h.areas .pipe rfl, h.areas .tracks rfl, h.areas .eject rfl, h.areas .field rfl, h.areas .memory rfl, h.areas .net rfl, h.areas .faults rfl, h.areas .power rfl, h.areas .boot rfl⟩

@[simp] theorem State.bindPlan_reg (s : State) (c : Nat) (p : Plan) (j : Nat) (h : (Entries.only [0x1205, K.waitersInUse, K.waitersPeak, K.commandsCompleted, K.recordsUnrouted]).has j = false) : (State.bindPlan s c p).reg j = s.reg j :=
  (State.bindPlan_changes s c p).entries j h

@[simp] theorem State.toDiscovery_same (s : State) (l : Nat) :
    (State.toDiscovery s l).mfg = s.mfg ∧ (State.toDiscovery s l).pending = s.pending ∧ (State.toDiscovery s l).tick = s.tick ∧ (State.toDiscovery s l).freeN = s.freeN ∧ (State.toDiscovery s l).blobs = s.blobs ∧ (State.toDiscovery s l).belt = s.belt ∧ (State.toDiscovery s l).supplies = s.supplies ∧ (State.toDiscovery s l).pipe = s.pipe ∧ (State.toDiscovery s l).engine = s.engine ∧ (State.toDiscovery s l).tracks = s.tracks ∧ (State.toDiscovery s l).eject = s.eject ∧ (State.toDiscovery s l).field = s.field ∧ (State.toDiscovery s l).memory = s.memory ∧ (State.toDiscovery s l).knots = s.knots ∧ (State.toDiscovery s l).host = s.host ∧ (State.toDiscovery s l).net = s.net ∧ (State.toDiscovery s l).faults = s.faults ∧ (State.toDiscovery s l).power = s.power ∧ (State.toDiscovery s l).perf = s.perf ∧ (State.toDiscovery s l).boot = s.boot ∧ (State.toDiscovery s l).out = s.out :=
  have h := State.toDiscovery_changes s l
  ⟨h.mfg, h.pending, h.areas .tick rfl, h.areas .freeN rfl, h.areas .blobs rfl, h.areas .belt rfl, h.areas .supplies rfl, h.areas .pipe rfl, h.areas .engine rfl, h.areas .tracks rfl, h.areas .eject rfl, h.areas .field rfl, h.areas .memory rfl, h.areas .knots rfl, h.areas .host rfl, h.areas .net rfl, h.areas .faults rfl, h.areas .power rfl, h.areas .perf rfl, h.areas .boot rfl, h.areas .out rfl⟩

@[simp] theorem State.toDiscovery_reg (s : State) (l : Nat) (j : Nat) (h : (Entries.only [0x0405, 0x0406]).has j = false) : (State.toDiscovery s l).reg j = s.reg j :=
  (State.toDiscovery_changes s l).entries j h

@[simp] theorem State.startStream_same (s : State) (i : Nat) :
    (State.startStream s i).mfg = s.mfg ∧ (State.startStream s i).pending = s.pending ∧ (State.startStream s i).tick = s.tick ∧ (State.startStream s i).freeN = s.freeN ∧ (State.startStream s i).blobs = s.blobs ∧ (State.startStream s i).belt = s.belt ∧ (State.startStream s i).supplies = s.supplies ∧ (State.startStream s i).pipe = s.pipe ∧ (State.startStream s i).engine = s.engine ∧ (State.startStream s i).tracks = s.tracks ∧ (State.startStream s i).eject = s.eject ∧ (State.startStream s i).field = s.field ∧ (State.startStream s i).memory = s.memory ∧ (State.startStream s i).knots = s.knots ∧ (State.startStream s i).host = s.host ∧ (State.startStream s i).net = s.net ∧ (State.startStream s i).faults = s.faults ∧ (State.startStream s i).power = s.power ∧ (State.startStream s i).perf = s.perf ∧ (State.startStream s i).boot = s.boot ∧ (State.startStream s i).out = s.out :=
  have h := State.startStream_changes s i
  ⟨h.mfg, h.pending, h.areas .tick rfl, h.areas .freeN rfl, h.areas .blobs rfl, h.areas .belt rfl, h.areas .supplies rfl, h.areas .pipe rfl, h.areas .engine rfl, h.areas .tracks rfl, h.areas .eject rfl, h.areas .field rfl, h.areas .memory rfl, h.areas .knots rfl, h.areas .host rfl, h.areas .net rfl, h.areas .faults rfl, h.areas .power rfl, h.areas .perf rfl, h.areas .boot rfl, h.areas .out rfl⟩

@[simp] theorem State.startStream_reg (s : State) (i : Nat) (j : Nat) (h : (Entries.only [0x0405, 0x0406, 0x0407, 0x0509]).has j = false) : (State.startStream s i).reg j = s.reg j :=
  (State.startStream_changes s i).entries j h

@[simp] theorem State.aliveClear_same (s : State) (c : Nat) :
    (State.aliveClear s c).mfg = s.mfg ∧ (State.aliveClear s c).pending = s.pending ∧ (State.aliveClear s c).tick = s.tick ∧ (State.aliveClear s c).freeN = s.freeN ∧ (State.aliveClear s c).blobs = s.blobs ∧ (State.aliveClear s c).ctl = s.ctl ∧ (State.aliveClear s c).belt = s.belt ∧ (State.aliveClear s c).supplies = s.supplies ∧ (State.aliveClear s c).intake = s.intake ∧ (State.aliveClear s c).pipe = s.pipe ∧ (State.aliveClear s c).engine = s.engine ∧ (State.aliveClear s c).tracks = s.tracks ∧ (State.aliveClear s c).eject = s.eject ∧ (State.aliveClear s c).memory = s.memory ∧ (State.aliveClear s c).knots = s.knots ∧ (State.aliveClear s c).host = s.host ∧ (State.aliveClear s c).net = s.net ∧ (State.aliveClear s c).faults = s.faults ∧ (State.aliveClear s c).power = s.power ∧ (State.aliveClear s c).perf = s.perf ∧ (State.aliveClear s c).boot = s.boot ∧ (State.aliveClear s c).out = s.out :=
  have h := State.aliveClear_changes s c
  ⟨h.mfg, h.pending, h.areas .tick rfl, h.areas .freeN rfl, h.areas .blobs rfl, h.areas .ctl rfl, h.areas .belt rfl, h.areas .supplies rfl, h.areas .intake rfl, h.areas .pipe rfl, h.areas .engine rfl, h.areas .tracks rfl, h.areas .eject rfl, h.areas .memory rfl, h.areas .knots rfl, h.areas .host rfl, h.areas .net rfl, h.areas .faults rfl, h.areas .power rfl, h.areas .perf rfl, h.areas .boot rfl, h.areas .out rfl⟩

@[simp] theorem State.aliveClear_reg (s : State) (c : Nat) (j : Nat) (h : (Entries.only [K.aliveState, K.aliveStopCause]).has j = false) : (State.aliveClear s c).reg j = s.reg j :=
  (State.aliveClear_changes s c).entries j h

@[simp] theorem State.blobClear_same (s : State) (n : Nat) :
    (State.blobClear s n).2.mfg = s.mfg ∧ (State.blobClear s n).2.pending = s.pending ∧ (State.blobClear s n).2.tick = s.tick ∧ (State.blobClear s n).2.freeN = s.freeN ∧ (State.blobClear s n).2.blobs = s.blobs ∧ (State.blobClear s n).2.belt = s.belt ∧ (State.blobClear s n).2.supplies = s.supplies ∧ (State.blobClear s n).2.intake = s.intake ∧ (State.blobClear s n).2.pipe = s.pipe ∧ (State.blobClear s n).2.engine = s.engine ∧ (State.blobClear s n).2.tracks = s.tracks ∧ (State.blobClear s n).2.eject = s.eject ∧ (State.blobClear s n).2.field = s.field ∧ (State.blobClear s n).2.memory = s.memory ∧ (State.blobClear s n).2.knots = s.knots ∧ (State.blobClear s n).2.host = s.host ∧ (State.blobClear s n).2.net = s.net ∧ (State.blobClear s n).2.faults = s.faults ∧ (State.blobClear s n).2.power = s.power ∧ (State.blobClear s n).2.perf = s.perf ∧ (State.blobClear s n).2.out = s.out :=
  have h := State.blobClear_changes s n
  ⟨h.mfg, h.pending, h.areas .tick rfl, h.areas .freeN rfl, h.areas .blobs rfl, h.areas .belt rfl, h.areas .supplies rfl, h.areas .intake rfl, h.areas .pipe rfl, h.areas .engine rfl, h.areas .tracks rfl, h.areas .eject rfl, h.areas .field rfl, h.areas .memory rfl, h.areas .knots rfl, h.areas .host rfl, h.areas .net rfl, h.areas .faults rfl, h.areas .power rfl, h.areas .perf rfl, h.areas .out rfl⟩

@[simp] theorem State.blobClear_reg (s : State) (n : Nat) (k : Nat) : (State.blobClear s n).2.reg k = s.reg k :=
  (State.blobClear_changes s n).entries k (Entries.has_none k)

@[simp] theorem State.commitCmd_same (s : State) (checkOnly : Bool) :
    (State.commitCmd s checkOnly).2.mfg = s.mfg ∧ (State.commitCmd s checkOnly).2.pending = s.pending ∧ (State.commitCmd s checkOnly).2.tick = s.tick ∧ (State.commitCmd s checkOnly).2.blobs = s.blobs ∧ (State.commitCmd s checkOnly).2.belt = s.belt ∧ (State.commitCmd s checkOnly).2.supplies = s.supplies ∧ (State.commitCmd s checkOnly).2.intake = s.intake ∧ (State.commitCmd s checkOnly).2.pipe = s.pipe ∧ (State.commitCmd s checkOnly).2.engine = s.engine ∧ (State.commitCmd s checkOnly).2.tracks = s.tracks ∧ (State.commitCmd s checkOnly).2.eject = s.eject ∧ (State.commitCmd s checkOnly).2.field = s.field ∧ (State.commitCmd s checkOnly).2.memory = s.memory ∧ (State.commitCmd s checkOnly).2.knots = s.knots ∧ (State.commitCmd s checkOnly).2.host = s.host ∧ (State.commitCmd s checkOnly).2.net = s.net ∧ (State.commitCmd s checkOnly).2.faults = s.faults ∧ (State.commitCmd s checkOnly).2.perf = s.perf ∧ (State.commitCmd s checkOnly).2.boot = s.boot ∧ (State.commitCmd s checkOnly).2.out = s.out :=
  have h := State.commitCmd_changes s checkOnly
  ⟨h.mfg, h.pending, h.areas .tick rfl, h.areas .blobs rfl, h.areas .belt rfl, h.areas .supplies rfl, h.areas .intake rfl, h.areas .pipe rfl, h.areas .engine rfl, h.areas .tracks rfl, h.areas .eject rfl, h.areas .field rfl, h.areas .memory rfl, h.areas .knots rfl, h.areas .host rfl, h.areas .net rfl, h.areas .faults rfl, h.areas .perf rfl, h.areas .boot rfl, h.areas .out rfl⟩

@[simp] theorem State.commitCmd_reg (s : State) (checkOnly : Bool) (k : Nat) : (State.commitCmd s checkOnly).2.reg k = s.reg k :=
  (State.commitCmd_changes s checkOnly).entries k (Entries.has_none k)

@[simp] theorem State.setPctx_same (s : State) (i : Nat) (x : PipeCtx) :
    (State.setPctx s i x).mfg = s.mfg ∧ (State.setPctx s i x).pending = s.pending ∧ (State.setPctx s i x).tick = s.tick ∧ (State.setPctx s i x).freeN = s.freeN ∧ (State.setPctx s i x).blobs = s.blobs ∧ (State.setPctx s i x).ctl = s.ctl ∧ (State.setPctx s i x).belt = s.belt ∧ (State.setPctx s i x).supplies = s.supplies ∧ (State.setPctx s i x).intake = s.intake ∧ (State.setPctx s i x).engine = s.engine ∧ (State.setPctx s i x).tracks = s.tracks ∧ (State.setPctx s i x).eject = s.eject ∧ (State.setPctx s i x).field = s.field ∧ (State.setPctx s i x).memory = s.memory ∧ (State.setPctx s i x).knots = s.knots ∧ (State.setPctx s i x).host = s.host ∧ (State.setPctx s i x).net = s.net ∧ (State.setPctx s i x).faults = s.faults ∧ (State.setPctx s i x).power = s.power ∧ (State.setPctx s i x).perf = s.perf ∧ (State.setPctx s i x).boot = s.boot ∧ (State.setPctx s i x).out = s.out :=
  have h := State.setPctx_changes s i x
  ⟨h.mfg, h.pending, h.areas .tick rfl, h.areas .freeN rfl, h.areas .blobs rfl, h.areas .ctl rfl, h.areas .belt rfl, h.areas .supplies rfl, h.areas .intake rfl, h.areas .engine rfl, h.areas .tracks rfl, h.areas .eject rfl, h.areas .field rfl, h.areas .memory rfl, h.areas .knots rfl, h.areas .host rfl, h.areas .net rfl, h.areas .faults rfl, h.areas .power rfl, h.areas .perf rfl, h.areas .boot rfl, h.areas .out rfl⟩

@[simp] theorem State.setPctx_reg (s : State) (i : Nat) (x : PipeCtx) (j : Nat) (h : (Entries.only [0x0615]).has j = false) : (State.setPctx s i x).reg j = s.reg j :=
  (State.setPctx_changes s i x).entries j h

@[simp] theorem State.scheduleSwitch_same (s : State) (i line : Nat) :
    (State.scheduleSwitch s i line).mfg = s.mfg ∧ (State.scheduleSwitch s i line).pending = s.pending ∧ (State.scheduleSwitch s i line).tick = s.tick ∧ (State.scheduleSwitch s i line).freeN = s.freeN ∧ (State.scheduleSwitch s i line).blobs = s.blobs ∧ (State.scheduleSwitch s i line).ctl = s.ctl ∧ (State.scheduleSwitch s i line).belt = s.belt ∧ (State.scheduleSwitch s i line).supplies = s.supplies ∧ (State.scheduleSwitch s i line).intake = s.intake ∧ (State.scheduleSwitch s i line).engine = s.engine ∧ (State.scheduleSwitch s i line).tracks = s.tracks ∧ (State.scheduleSwitch s i line).eject = s.eject ∧ (State.scheduleSwitch s i line).field = s.field ∧ (State.scheduleSwitch s i line).memory = s.memory ∧ (State.scheduleSwitch s i line).knots = s.knots ∧ (State.scheduleSwitch s i line).host = s.host ∧ (State.scheduleSwitch s i line).net = s.net ∧ (State.scheduleSwitch s i line).faults = s.faults ∧ (State.scheduleSwitch s i line).power = s.power ∧ (State.scheduleSwitch s i line).perf = s.perf ∧ (State.scheduleSwitch s i line).boot = s.boot ∧ (State.scheduleSwitch s i line).out = s.out :=
  have h := State.scheduleSwitch_changes s i line
  ⟨h.mfg, h.pending, h.areas .tick rfl, h.areas .freeN rfl, h.areas .blobs rfl, h.areas .ctl rfl, h.areas .belt rfl, h.areas .supplies rfl, h.areas .intake rfl, h.areas .engine rfl, h.areas .tracks rfl, h.areas .eject rfl, h.areas .field rfl, h.areas .memory rfl, h.areas .knots rfl, h.areas .host rfl, h.areas .net rfl, h.areas .faults rfl, h.areas .power rfl, h.areas .perf rfl, h.areas .boot rfl, h.areas .out rfl⟩

@[simp] theorem State.scheduleSwitch_reg (s : State) (i line : Nat) (j : Nat) (h : (Entries.only [0x0615]).has j = false) : (State.scheduleSwitch s i line).reg j = s.reg j :=
  (State.scheduleSwitch_changes s i line).entries j h

@[simp] theorem State.paramSwitchCmd_same (s : State) (i : Nat) :
    (State.paramSwitchCmd s i).2.mfg = s.mfg ∧ (State.paramSwitchCmd s i).2.pending = s.pending ∧ (State.paramSwitchCmd s i).2.tick = s.tick ∧ (State.paramSwitchCmd s i).2.freeN = s.freeN ∧ (State.paramSwitchCmd s i).2.blobs = s.blobs ∧ (State.paramSwitchCmd s i).2.belt = s.belt ∧ (State.paramSwitchCmd s i).2.supplies = s.supplies ∧ (State.paramSwitchCmd s i).2.intake = s.intake ∧ (State.paramSwitchCmd s i).2.engine = s.engine ∧ (State.paramSwitchCmd s i).2.tracks = s.tracks ∧ (State.paramSwitchCmd s i).2.eject = s.eject ∧ (State.paramSwitchCmd s i).2.field = s.field ∧ (State.paramSwitchCmd s i).2.memory = s.memory ∧ (State.paramSwitchCmd s i).2.knots = s.knots ∧ (State.paramSwitchCmd s i).2.host = s.host ∧ (State.paramSwitchCmd s i).2.net = s.net ∧ (State.paramSwitchCmd s i).2.faults = s.faults ∧ (State.paramSwitchCmd s i).2.power = s.power ∧ (State.paramSwitchCmd s i).2.perf = s.perf ∧ (State.paramSwitchCmd s i).2.boot = s.boot ∧ (State.paramSwitchCmd s i).2.out = s.out :=
  have h := State.paramSwitchCmd_changes s i
  ⟨h.mfg, h.pending, h.areas .tick rfl, h.areas .freeN rfl, h.areas .blobs rfl, h.areas .belt rfl, h.areas .supplies rfl, h.areas .intake rfl, h.areas .engine rfl, h.areas .tracks rfl, h.areas .eject rfl, h.areas .field rfl, h.areas .memory rfl, h.areas .knots rfl, h.areas .host rfl, h.areas .net rfl, h.areas .faults rfl, h.areas .power rfl, h.areas .perf rfl, h.areas .boot rfl, h.areas .out rfl⟩

@[simp] theorem State.paramSwitchCmd_reg (s : State) (i : Nat) (j : Nat) (h : (Entries.only [0x0615]).has j = false) : (State.paramSwitchCmd s i).2.reg j = s.reg j :=
  (State.paramSwitchCmd_changes s i).entries j h

@[simp] theorem State.streamRestartCmd_same (s : State) (i : Nat) :
    (State.streamRestartCmd s i).2.mfg = s.mfg ∧ (State.streamRestartCmd s i).2.pending = s.pending ∧ (State.streamRestartCmd s i).2.tick = s.tick ∧ (State.streamRestartCmd s i).2.freeN = s.freeN ∧ (State.streamRestartCmd s i).2.blobs = s.blobs ∧ (State.streamRestartCmd s i).2.belt = s.belt ∧ (State.streamRestartCmd s i).2.supplies = s.supplies ∧ (State.streamRestartCmd s i).2.pipe = s.pipe ∧ (State.streamRestartCmd s i).2.engine = s.engine ∧ (State.streamRestartCmd s i).2.tracks = s.tracks ∧ (State.streamRestartCmd s i).2.eject = s.eject ∧ (State.streamRestartCmd s i).2.field = s.field ∧ (State.streamRestartCmd s i).2.memory = s.memory ∧ (State.streamRestartCmd s i).2.knots = s.knots ∧ (State.streamRestartCmd s i).2.host = s.host ∧ (State.streamRestartCmd s i).2.net = s.net ∧ (State.streamRestartCmd s i).2.faults = s.faults ∧ (State.streamRestartCmd s i).2.power = s.power ∧ (State.streamRestartCmd s i).2.perf = s.perf ∧ (State.streamRestartCmd s i).2.boot = s.boot ∧ (State.streamRestartCmd s i).2.out = s.out :=
  have h := State.streamRestartCmd_changes s i
  ⟨h.mfg, h.pending, h.areas .tick rfl, h.areas .freeN rfl, h.areas .blobs rfl, h.areas .belt rfl, h.areas .supplies rfl, h.areas .pipe rfl, h.areas .engine rfl, h.areas .tracks rfl, h.areas .eject rfl, h.areas .field rfl, h.areas .memory rfl, h.areas .knots rfl, h.areas .host rfl, h.areas .net rfl, h.areas .faults rfl, h.areas .power rfl, h.areas .perf rfl, h.areas .boot rfl, h.areas .out rfl⟩

@[simp] theorem State.streamRestartCmd_reg (s : State) (i : Nat) (j : Nat) (h : (Entries.only [0x0405, 0x0406, 0x0407, 0x0509]).has j = false) : (State.streamRestartCmd s i).2.reg j = s.reg j :=
  (State.streamRestartCmd_changes s i).entries j h

@[simp] theorem State.bankResetCmd_same (s : State) (b : Nat) :
    (State.bankResetCmd s b).2.mfg = s.mfg ∧ (State.bankResetCmd s b).2.pending = s.pending ∧ (State.bankResetCmd s b).2.tick = s.tick ∧ (State.bankResetCmd s b).2.freeN = s.freeN ∧ (State.bankResetCmd s b).2.blobs = s.blobs ∧ (State.bankResetCmd s b).2.belt = s.belt ∧ (State.bankResetCmd s b).2.intake = s.intake ∧ (State.bankResetCmd s b).2.pipe = s.pipe ∧ (State.bankResetCmd s b).2.engine = s.engine ∧ (State.bankResetCmd s b).2.tracks = s.tracks ∧ (State.bankResetCmd s b).2.eject = s.eject ∧ (State.bankResetCmd s b).2.field = s.field ∧ (State.bankResetCmd s b).2.memory = s.memory ∧ (State.bankResetCmd s b).2.knots = s.knots ∧ (State.bankResetCmd s b).2.host = s.host ∧ (State.bankResetCmd s b).2.net = s.net ∧ (State.bankResetCmd s b).2.faults = s.faults ∧ (State.bankResetCmd s b).2.power = s.power ∧ (State.bankResetCmd s b).2.perf = s.perf ∧ (State.bankResetCmd s b).2.boot = s.boot ∧ (State.bankResetCmd s b).2.out = s.out :=
  have h := State.bankResetCmd_changes s b
  ⟨h.mfg, h.pending, h.areas .tick rfl, h.areas .freeN rfl, h.areas .blobs rfl, h.areas .belt rfl, h.areas .intake rfl, h.areas .pipe rfl, h.areas .engine rfl, h.areas .tracks rfl, h.areas .eject rfl, h.areas .field rfl, h.areas .memory rfl, h.areas .knots rfl, h.areas .host rfl, h.areas .net rfl, h.areas .faults rfl, h.areas .power rfl, h.areas .perf rfl, h.areas .boot rfl, h.areas .out rfl⟩

@[simp] theorem State.bankResetCmd_reg (s : State) (b : Nat) (k : Nat) : (State.bankResetCmd s b).2.reg k = s.reg k :=
  (State.bankResetCmd_changes s b).entries k (Entries.has_none k)

@[simp] theorem State.replanNowCmd_same (s : State) :
    (State.replanNowCmd s).2.mfg = s.mfg ∧ (State.replanNowCmd s).2.pending = s.pending ∧ (State.replanNowCmd s).2.tick = s.tick ∧ (State.replanNowCmd s).2.freeN = s.freeN ∧ (State.replanNowCmd s).2.blobs = s.blobs ∧ (State.replanNowCmd s).2.belt = s.belt ∧ (State.replanNowCmd s).2.supplies = s.supplies ∧ (State.replanNowCmd s).2.intake = s.intake ∧ (State.replanNowCmd s).2.pipe = s.pipe ∧ (State.replanNowCmd s).2.engine = s.engine ∧ (State.replanNowCmd s).2.tracks = s.tracks ∧ (State.replanNowCmd s).2.eject = s.eject ∧ (State.replanNowCmd s).2.field = s.field ∧ (State.replanNowCmd s).2.memory = s.memory ∧ (State.replanNowCmd s).2.knots = s.knots ∧ (State.replanNowCmd s).2.net = s.net ∧ (State.replanNowCmd s).2.faults = s.faults ∧ (State.replanNowCmd s).2.boot = s.boot :=
  have h := State.replanNowCmd_changes s
  ⟨h.mfg, h.pending, h.areas .tick rfl, h.areas .freeN rfl, h.areas .blobs rfl, h.areas .belt rfl, h.areas .supplies rfl, h.areas .intake rfl, h.areas .pipe rfl, h.areas .engine rfl, h.areas .tracks rfl, h.areas .eject rfl, h.areas .field rfl, h.areas .memory rfl, h.areas .knots rfl, h.areas .net rfl, h.areas .faults rfl, h.areas .boot rfl⟩

@[simp] theorem State.replanNowCmd_reg (s : State) (j : Nat) (h : (Entries.only [0x0317, 0x1205, K.computeEnergyPerOp, K.voltageSteps, K.clockSteps, K.recordsUnrouted]).has j = false) : (State.replanNowCmd s).2.reg j = s.reg j :=
  (State.replanNowCmd_changes s).entries j h

@[simp] theorem State.setRunning_same (s : State) (on : Bool) :
    (State.setRunning s on).mfg = s.mfg ∧ (State.setRunning s on).pending = s.pending ∧ (State.setRunning s on).tick = s.tick ∧ (State.setRunning s on).freeN = s.freeN ∧ (State.setRunning s on).blobs = s.blobs ∧ (State.setRunning s on).ctl = s.ctl ∧ (State.setRunning s on).belt = s.belt ∧ (State.setRunning s on).supplies = s.supplies ∧ (State.setRunning s on).intake = s.intake ∧ (State.setRunning s on).pipe = s.pipe ∧ (State.setRunning s on).engine = s.engine ∧ (State.setRunning s on).tracks = s.tracks ∧ (State.setRunning s on).eject = s.eject ∧ (State.setRunning s on).field = s.field ∧ (State.setRunning s on).memory = s.memory ∧ (State.setRunning s on).knots = s.knots ∧ (State.setRunning s on).host = s.host ∧ (State.setRunning s on).net = s.net ∧ (State.setRunning s on).faults = s.faults ∧ (State.setRunning s on).power = s.power ∧ (State.setRunning s on).boot = s.boot ∧ (State.setRunning s on).out = s.out :=
  have h := State.setRunning_changes s on
  ⟨h.mfg, h.pending, h.areas .tick rfl, h.areas .freeN rfl, h.areas .blobs rfl, h.areas .ctl rfl, h.areas .belt rfl, h.areas .supplies rfl, h.areas .intake rfl, h.areas .pipe rfl, h.areas .engine rfl, h.areas .tracks rfl, h.areas .eject rfl, h.areas .field rfl, h.areas .memory rfl, h.areas .knots rfl, h.areas .host rfl, h.areas .net rfl, h.areas .faults rfl, h.areas .power rfl, h.areas .boot rfl, h.areas .out rfl⟩

@[simp] theorem State.setRunning_reg (s : State) (on : Bool) (j : Nat) (h : (Entries.only [K.countersRunning]).has j = false) : (State.setRunning s on).reg j = s.reg j :=
  (State.setRunning_changes s on).entries j h

@[simp] theorem State.snapshot_same (s : State) :
    (State.snapshot s).mfg = s.mfg ∧ (State.snapshot s).pending = s.pending ∧ (State.snapshot s).tick = s.tick ∧ (State.snapshot s).ctl = s.ctl ∧ (State.snapshot s).belt = s.belt ∧ (State.snapshot s).supplies = s.supplies ∧ (State.snapshot s).intake = s.intake ∧ (State.snapshot s).pipe = s.pipe ∧ (State.snapshot s).engine = s.engine ∧ (State.snapshot s).tracks = s.tracks ∧ (State.snapshot s).eject = s.eject ∧ (State.snapshot s).field = s.field ∧ (State.snapshot s).memory = s.memory ∧ (State.snapshot s).knots = s.knots ∧ (State.snapshot s).host = s.host ∧ (State.snapshot s).net = s.net ∧ (State.snapshot s).faults = s.faults ∧ (State.snapshot s).power = s.power ∧ (State.snapshot s).perf = s.perf ∧ (State.snapshot s).boot = s.boot ∧ (State.snapshot s).out = s.out :=
  have h := State.snapshot_changes s
  ⟨h.mfg, h.pending, h.areas .tick rfl, h.areas .ctl rfl, h.areas .belt rfl, h.areas .supplies rfl, h.areas .intake rfl, h.areas .pipe rfl, h.areas .engine rfl, h.areas .tracks rfl, h.areas .eject rfl, h.areas .field rfl, h.areas .memory rfl, h.areas .knots rfl, h.areas .host rfl, h.areas .net rfl, h.areas .faults rfl, h.areas .power rfl, h.areas .perf rfl, h.areas .boot rfl, h.areas .out rfl⟩

@[simp] theorem State.snapshot_reg (s : State) (j : Nat) (h : (Entries.only [K.snapshotCount]).has j = false) : (State.snapshot s).reg j = s.reg j :=
  (State.snapshot_changes s).entries j h

@[simp] theorem State.zeroEntry_same (s : State) (e : Entry) :
    (State.zeroEntry s e).mfg = s.mfg ∧ (State.zeroEntry s e).pending = s.pending ∧ (State.zeroEntry s e).tick = s.tick ∧ (State.zeroEntry s e).freeN = s.freeN ∧ (State.zeroEntry s e).blobs = s.blobs ∧ (State.zeroEntry s e).ctl = s.ctl ∧ (State.zeroEntry s e).belt = s.belt ∧ (State.zeroEntry s e).supplies = s.supplies ∧ (State.zeroEntry s e).intake = s.intake ∧ (State.zeroEntry s e).pipe = s.pipe ∧ (State.zeroEntry s e).engine = s.engine ∧ (State.zeroEntry s e).tracks = s.tracks ∧ (State.zeroEntry s e).eject = s.eject ∧ (State.zeroEntry s e).field = s.field ∧ (State.zeroEntry s e).memory = s.memory ∧ (State.zeroEntry s e).knots = s.knots ∧ (State.zeroEntry s e).host = s.host ∧ (State.zeroEntry s e).net = s.net ∧ (State.zeroEntry s e).faults = s.faults ∧ (State.zeroEntry s e).power = s.power ∧ (State.zeroEntry s e).perf = s.perf ∧ (State.zeroEntry s e).boot = s.boot ∧ (State.zeroEntry s e).out = s.out :=
  have h := State.zeroEntry_changes s e
  ⟨h.mfg, h.pending, h.areas .tick rfl, h.areas .freeN rfl, h.areas .blobs rfl, h.areas .ctl rfl, h.areas .belt rfl, h.areas .supplies rfl, h.areas .intake rfl, h.areas .pipe rfl, h.areas .engine rfl, h.areas .tracks rfl, h.areas .eject rfl, h.areas .field rfl, h.areas .memory rfl, h.areas .knots rfl, h.areas .host rfl, h.areas .net rfl, h.areas .faults rfl, h.areas .power rfl, h.areas .perf rfl, h.areas .boot rfl, h.areas .out rfl⟩

@[simp] theorem State.sendAction_same (s : State) (k : Nat) :
    (State.sendAction s k).2.mfg = s.mfg ∧ (State.sendAction s k).2.pending = s.pending ∧ (State.sendAction s k).2.tick = s.tick ∧ (State.sendAction s k).2.freeN = s.freeN ∧ (State.sendAction s k).2.blobs = s.blobs ∧ (State.sendAction s k).2.belt = s.belt ∧ (State.sendAction s k).2.supplies = s.supplies ∧ (State.sendAction s k).2.intake = s.intake ∧ (State.sendAction s k).2.pipe = s.pipe ∧ (State.sendAction s k).2.engine = s.engine ∧ (State.sendAction s k).2.tracks = s.tracks ∧ (State.sendAction s k).2.eject = s.eject ∧ (State.sendAction s k).2.field = s.field ∧ (State.sendAction s k).2.memory = s.memory ∧ (State.sendAction s k).2.knots = s.knots ∧ (State.sendAction s k).2.host = s.host ∧ (State.sendAction s k).2.net = s.net ∧ (State.sendAction s k).2.faults = s.faults ∧ (State.sendAction s k).2.power = s.power ∧ (State.sendAction s k).2.boot = s.boot ∧ (State.sendAction s k).2.out = s.out :=
  have h := State.sendAction_changes s k
  ⟨h.mfg, h.pending, h.areas .tick rfl, h.areas .freeN rfl, h.areas .blobs rfl, h.areas .belt rfl, h.areas .supplies rfl, h.areas .intake rfl, h.areas .pipe rfl, h.areas .engine rfl, h.areas .tracks rfl, h.areas .eject rfl, h.areas .field rfl, h.areas .memory rfl, h.areas .knots rfl, h.areas .host rfl, h.areas .net rfl, h.areas .faults rfl, h.areas .power rfl, h.areas .boot rfl, h.areas .out rfl⟩

@[simp] theorem State.sendAction_reg (s : State) (k : Nat) (j : Nat) : (State.sendAction s k).2.reg j = s.reg j :=
  (State.sendAction_changes s k).entries j (Entries.has_none j)

@[simp] theorem State.statisticsCmd_same (s : State) (v : Nat) :
    (State.statisticsCmd s v).2.mfg = s.mfg ∧ (State.statisticsCmd s v).2.pending = s.pending ∧ (State.statisticsCmd s v).2.tick = s.tick ∧ (State.statisticsCmd s v).2.freeN = s.freeN ∧ (State.statisticsCmd s v).2.blobs = s.blobs ∧ (State.statisticsCmd s v).2.belt = s.belt ∧ (State.statisticsCmd s v).2.supplies = s.supplies ∧ (State.statisticsCmd s v).2.intake = s.intake ∧ (State.statisticsCmd s v).2.pipe = s.pipe ∧ (State.statisticsCmd s v).2.engine = s.engine ∧ (State.statisticsCmd s v).2.tracks = s.tracks ∧ (State.statisticsCmd s v).2.eject = s.eject ∧ (State.statisticsCmd s v).2.field = s.field ∧ (State.statisticsCmd s v).2.memory = s.memory ∧ (State.statisticsCmd s v).2.knots = s.knots ∧ (State.statisticsCmd s v).2.host = s.host ∧ (State.statisticsCmd s v).2.net = s.net ∧ (State.statisticsCmd s v).2.faults = s.faults ∧ (State.statisticsCmd s v).2.power = s.power ∧ (State.statisticsCmd s v).2.boot = s.boot ∧ (State.statisticsCmd s v).2.out = s.out :=
  have h := State.statisticsCmd_changes s v
  ⟨h.mfg, h.pending, h.areas .tick rfl, h.areas .freeN rfl, h.areas .blobs rfl, h.areas .belt rfl, h.areas .supplies rfl, h.areas .intake rfl, h.areas .pipe rfl, h.areas .engine rfl, h.areas .tracks rfl, h.areas .eject rfl, h.areas .field rfl, h.areas .memory rfl, h.areas .knots rfl, h.areas .host rfl, h.areas .net rfl, h.areas .faults rfl, h.areas .power rfl, h.areas .boot rfl, h.areas .out rfl⟩

@[simp] theorem State.faultClearCmd_same (s : State) (o : Nat) :
    (State.faultClearCmd s o).2.mfg = s.mfg ∧ (State.faultClearCmd s o).2.pending = s.pending ∧ (State.faultClearCmd s o).2.tick = s.tick ∧ (State.faultClearCmd s o).2.freeN = s.freeN ∧ (State.faultClearCmd s o).2.blobs = s.blobs ∧ (State.faultClearCmd s o).2.belt = s.belt ∧ (State.faultClearCmd s o).2.supplies = s.supplies ∧ (State.faultClearCmd s o).2.intake = s.intake ∧ (State.faultClearCmd s o).2.pipe = s.pipe ∧ (State.faultClearCmd s o).2.engine = s.engine ∧ (State.faultClearCmd s o).2.tracks = s.tracks ∧ (State.faultClearCmd s o).2.eject = s.eject ∧ (State.faultClearCmd s o).2.memory = s.memory ∧ (State.faultClearCmd s o).2.knots = s.knots ∧ (State.faultClearCmd s o).2.host = s.host ∧ (State.faultClearCmd s o).2.net = s.net ∧ (State.faultClearCmd s o).2.faults = s.faults ∧ (State.faultClearCmd s o).2.power = s.power ∧ (State.faultClearCmd s o).2.perf = s.perf ∧ (State.faultClearCmd s o).2.boot = s.boot ∧ (State.faultClearCmd s o).2.out = s.out :=
  have h := State.faultClearCmd_changes s o
  ⟨h.mfg, h.pending, h.areas .tick rfl, h.areas .freeN rfl, h.areas .blobs rfl, h.areas .belt rfl, h.areas .supplies rfl, h.areas .intake rfl, h.areas .pipe rfl, h.areas .engine rfl, h.areas .tracks rfl, h.areas .eject rfl, h.areas .memory rfl, h.areas .knots rfl, h.areas .host rfl, h.areas .net rfl, h.areas .faults rfl, h.areas .power rfl, h.areas .perf rfl, h.areas .boot rfl, h.areas .out rfl⟩

@[simp] theorem State.faultClearCmd_reg (s : State) (o : Nat) (k : Nat) : (State.faultClearCmd s o).2.reg k = s.reg k :=
  (State.faultClearCmd_changes s o).entries k (Entries.has_none k)

@[simp] theorem State.clearPeaks_same (s : State) :
    (State.clearPeaks s).mfg = s.mfg ∧ (State.clearPeaks s).pending = s.pending ∧ (State.clearPeaks s).tick = s.tick ∧ (State.clearPeaks s).freeN = s.freeN ∧ (State.clearPeaks s).blobs = s.blobs ∧ (State.clearPeaks s).ctl = s.ctl ∧ (State.clearPeaks s).belt = s.belt ∧ (State.clearPeaks s).supplies = s.supplies ∧ (State.clearPeaks s).intake = s.intake ∧ (State.clearPeaks s).pipe = s.pipe ∧ (State.clearPeaks s).engine = s.engine ∧ (State.clearPeaks s).tracks = s.tracks ∧ (State.clearPeaks s).eject = s.eject ∧ (State.clearPeaks s).field = s.field ∧ (State.clearPeaks s).memory = s.memory ∧ (State.clearPeaks s).knots = s.knots ∧ (State.clearPeaks s).host = s.host ∧ (State.clearPeaks s).net = s.net ∧ (State.clearPeaks s).faults = s.faults ∧ (State.clearPeaks s).power = s.power ∧ (State.clearPeaks s).perf = s.perf ∧ (State.clearPeaks s).boot = s.boot ∧ (State.clearPeaks s).out = s.out :=
  have h := State.clearPeaks_changes s
  ⟨h.mfg, h.pending, h.areas .tick rfl, h.areas .freeN rfl, h.areas .blobs rfl, h.areas .ctl rfl, h.areas .belt rfl, h.areas .supplies rfl, h.areas .intake rfl, h.areas .pipe rfl, h.areas .engine rfl, h.areas .tracks rfl, h.areas .eject rfl, h.areas .field rfl, h.areas .memory rfl, h.areas .knots rfl, h.areas .host rfl, h.areas .net rfl, h.areas .faults rfl, h.areas .power rfl, h.areas .perf rfl, h.areas .boot rfl, h.areas .out rfl⟩

@[simp] theorem State.clearPeaks_reg (s : State) (j : Nat) (h : (Entries.only [0x1513, 0x1514]).has j = false) : (State.clearPeaks s).reg j = s.reg j :=
  (State.clearPeaks_changes s).entries j h

@[simp] theorem State.attestCmd_same (s : State) :
    (State.attestCmd s).2.mfg = s.mfg ∧ (State.attestCmd s).2.pending = s.pending ∧ (State.attestCmd s).2.tick = s.tick ∧ (State.attestCmd s).2.freeN = s.freeN ∧ (State.attestCmd s).2.blobs = s.blobs ∧ (State.attestCmd s).2.belt = s.belt ∧ (State.attestCmd s).2.supplies = s.supplies ∧ (State.attestCmd s).2.intake = s.intake ∧ (State.attestCmd s).2.pipe = s.pipe ∧ (State.attestCmd s).2.engine = s.engine ∧ (State.attestCmd s).2.tracks = s.tracks ∧ (State.attestCmd s).2.eject = s.eject ∧ (State.attestCmd s).2.field = s.field ∧ (State.attestCmd s).2.memory = s.memory ∧ (State.attestCmd s).2.knots = s.knots ∧ (State.attestCmd s).2.host = s.host ∧ (State.attestCmd s).2.net = s.net ∧ (State.attestCmd s).2.faults = s.faults ∧ (State.attestCmd s).2.power = s.power ∧ (State.attestCmd s).2.perf = s.perf ∧ (State.attestCmd s).2.out = s.out :=
  have h := State.attestCmd_changes s
  ⟨h.mfg, h.pending, h.areas .tick rfl, h.areas .freeN rfl, h.areas .blobs rfl, h.areas .belt rfl, h.areas .supplies rfl, h.areas .intake rfl, h.areas .pipe rfl, h.areas .engine rfl, h.areas .tracks rfl, h.areas .eject rfl, h.areas .field rfl, h.areas .memory rfl, h.areas .knots rfl, h.areas .host rfl, h.areas .net rfl, h.areas .faults rfl, h.areas .power rfl, h.areas .perf rfl, h.areas .out rfl⟩

@[simp] theorem State.attestCmd_reg (s : State) (k : Nat) : (State.attestCmd s).2.reg k = s.reg k :=
  (State.attestCmd_changes s).entries k (Entries.has_none k)

@[simp] theorem State.badLogClear_same (s : State) :
    (State.badLogClear s).2.mfg = s.mfg ∧ (State.badLogClear s).2.pending = s.pending ∧ (State.badLogClear s).2.tick = s.tick ∧ (State.badLogClear s).2.freeN = s.freeN ∧ (State.badLogClear s).2.blobs = s.blobs ∧ (State.badLogClear s).2.belt = s.belt ∧ (State.badLogClear s).2.supplies = s.supplies ∧ (State.badLogClear s).2.intake = s.intake ∧ (State.badLogClear s).2.pipe = s.pipe ∧ (State.badLogClear s).2.engine = s.engine ∧ (State.badLogClear s).2.tracks = s.tracks ∧ (State.badLogClear s).2.eject = s.eject ∧ (State.badLogClear s).2.field = s.field ∧ (State.badLogClear s).2.knots = s.knots ∧ (State.badLogClear s).2.host = s.host ∧ (State.badLogClear s).2.net = s.net ∧ (State.badLogClear s).2.power = s.power ∧ (State.badLogClear s).2.perf = s.perf ∧ (State.badLogClear s).2.boot = s.boot ∧ (State.badLogClear s).2.out = s.out :=
  have h := State.badLogClear_changes s
  ⟨h.mfg, h.pending, h.areas .tick rfl, h.areas .freeN rfl, h.areas .blobs rfl, h.areas .belt rfl, h.areas .supplies rfl, h.areas .intake rfl, h.areas .pipe rfl, h.areas .engine rfl, h.areas .tracks rfl, h.areas .eject rfl, h.areas .field rfl, h.areas .knots rfl, h.areas .host rfl, h.areas .net rfl, h.areas .power rfl, h.areas .perf rfl, h.areas .boot rfl, h.areas .out rfl⟩

@[simp] theorem State.badLogClear_reg (s : State) (j : Nat) (h : (Entries.only [0x1703]).has j = false) : (State.badLogClear s).2.reg j = s.reg j :=
  (State.badLogClear_changes s).entries j h

@[simp] theorem State.blobBegin_same (s : State) (length : Nat) :
    (State.blobBegin s length).2.mfg = s.mfg ∧ (State.blobBegin s length).2.pending = s.pending ∧ (State.blobBegin s length).2.tick = s.tick ∧ (State.blobBegin s length).2.freeN = s.freeN ∧ (State.blobBegin s length).2.blobs = s.blobs ∧ (State.blobBegin s length).2.belt = s.belt ∧ (State.blobBegin s length).2.supplies = s.supplies ∧ (State.blobBegin s length).2.intake = s.intake ∧ (State.blobBegin s length).2.pipe = s.pipe ∧ (State.blobBegin s length).2.engine = s.engine ∧ (State.blobBegin s length).2.tracks = s.tracks ∧ (State.blobBegin s length).2.eject = s.eject ∧ (State.blobBegin s length).2.field = s.field ∧ (State.blobBegin s length).2.memory = s.memory ∧ (State.blobBegin s length).2.knots = s.knots ∧ (State.blobBegin s length).2.host = s.host ∧ (State.blobBegin s length).2.net = s.net ∧ (State.blobBegin s length).2.faults = s.faults ∧ (State.blobBegin s length).2.power = s.power ∧ (State.blobBegin s length).2.perf = s.perf ∧ (State.blobBegin s length).2.out = s.out :=
  have h := State.blobBegin_changes s length
  ⟨h.mfg, h.pending, h.areas .tick rfl, h.areas .freeN rfl, h.areas .blobs rfl, h.areas .belt rfl, h.areas .supplies rfl, h.areas .intake rfl, h.areas .pipe rfl, h.areas .engine rfl, h.areas .tracks rfl, h.areas .eject rfl, h.areas .field rfl, h.areas .memory rfl, h.areas .knots rfl, h.areas .host rfl, h.areas .net rfl, h.areas .faults rfl, h.areas .power rfl, h.areas .perf rfl, h.areas .out rfl⟩

@[simp] theorem State.blobBegin_reg (s : State) (length : Nat) (j : Nat) (h : (Entries.only [K.blobUploadOffset]).has j = false) : (State.blobBegin s length).2.reg j = s.reg j :=
  (State.blobBegin_changes s length).entries j h

@[simp] theorem State.aliveStartCmd_same (s : State) :
    (State.aliveStartCmd s).2.mfg = s.mfg ∧ (State.aliveStartCmd s).2.pending = s.pending ∧ (State.aliveStartCmd s).2.tick = s.tick ∧ (State.aliveStartCmd s).2.freeN = s.freeN ∧ (State.aliveStartCmd s).2.blobs = s.blobs ∧ (State.aliveStartCmd s).2.belt = s.belt ∧ (State.aliveStartCmd s).2.supplies = s.supplies ∧ (State.aliveStartCmd s).2.intake = s.intake ∧ (State.aliveStartCmd s).2.pipe = s.pipe ∧ (State.aliveStartCmd s).2.engine = s.engine ∧ (State.aliveStartCmd s).2.tracks = s.tracks ∧ (State.aliveStartCmd s).2.eject = s.eject ∧ (State.aliveStartCmd s).2.memory = s.memory ∧ (State.aliveStartCmd s).2.knots = s.knots ∧ (State.aliveStartCmd s).2.host = s.host ∧ (State.aliveStartCmd s).2.net = s.net ∧ (State.aliveStartCmd s).2.faults = s.faults ∧ (State.aliveStartCmd s).2.power = s.power ∧ (State.aliveStartCmd s).2.perf = s.perf ∧ (State.aliveStartCmd s).2.boot = s.boot ∧ (State.aliveStartCmd s).2.out = s.out :=
  have h := State.aliveStartCmd_changes s
  ⟨h.mfg, h.pending, h.areas .tick rfl, h.areas .freeN rfl, h.areas .blobs rfl, h.areas .belt rfl, h.areas .supplies rfl, h.areas .intake rfl, h.areas .pipe rfl, h.areas .engine rfl, h.areas .tracks rfl, h.areas .eject rfl, h.areas .memory rfl, h.areas .knots rfl, h.areas .host rfl, h.areas .net rfl, h.areas .faults rfl, h.areas .power rfl, h.areas .perf rfl, h.areas .boot rfl, h.areas .out rfl⟩

@[simp] theorem State.aliveStartCmd_reg (s : State) (j : Nat) (h : (Entries.only [K.aliveState, K.aliveStopCause]).has j = false) : (State.aliveStartCmd s).2.reg j = s.reg j :=
  (State.aliveStartCmd_changes s).entries j h

@[simp] theorem State.clearCounters_same (s : State) :
    (State.clearCounters s).mfg = s.mfg ∧ (State.clearCounters s).pending = s.pending ∧ (State.clearCounters s).tick = s.tick ∧ (State.clearCounters s).freeN = s.freeN ∧ (State.clearCounters s).blobs = s.blobs ∧ (State.clearCounters s).ctl = s.ctl ∧ (State.clearCounters s).belt = s.belt ∧ (State.clearCounters s).supplies = s.supplies ∧ (State.clearCounters s).intake = s.intake ∧ (State.clearCounters s).pipe = s.pipe ∧ (State.clearCounters s).engine = s.engine ∧ (State.clearCounters s).tracks = s.tracks ∧ (State.clearCounters s).eject = s.eject ∧ (State.clearCounters s).field = s.field ∧ (State.clearCounters s).memory = s.memory ∧ (State.clearCounters s).knots = s.knots ∧ (State.clearCounters s).host = s.host ∧ (State.clearCounters s).net = s.net ∧ (State.clearCounters s).faults = s.faults ∧ (State.clearCounters s).power = s.power ∧ (State.clearCounters s).boot = s.boot ∧ (State.clearCounters s).out = s.out :=
  have h := State.clearCounters_changes s
  ⟨h.mfg, h.pending, h.areas .tick rfl, h.areas .freeN rfl, h.areas .blobs rfl, h.areas .ctl rfl, h.areas .belt rfl, h.areas .supplies rfl, h.areas .intake rfl, h.areas .pipe rfl, h.areas .engine rfl, h.areas .tracks rfl, h.areas .eject rfl, h.areas .field rfl, h.areas .memory rfl, h.areas .knots rfl, h.areas .host rfl, h.areas .net rfl, h.areas .faults rfl, h.areas .power rfl, h.areas .boot rfl, h.areas .out rfl⟩

@[simp] theorem State.clearCounters_reg (s : State) (k : Nat) : (State.clearCounters s).reg k = s.reg k :=
  (State.clearCounters_changes s).entries k (Entries.has_none k)

@[simp] theorem State.sendUplink_same (s : State) (l tag op addr : Nat) (data : List Byte) :
    (State.sendUplink s l tag op addr data).mfg = s.mfg ∧ (State.sendUplink s l tag op addr data).pending = s.pending ∧ (State.sendUplink s l tag op addr data).tick = s.tick ∧ (State.sendUplink s l tag op addr data).blobs = s.blobs ∧ (State.sendUplink s l tag op addr data).ctl = s.ctl ∧ (State.sendUplink s l tag op addr data).belt = s.belt ∧ (State.sendUplink s l tag op addr data).supplies = s.supplies ∧ (State.sendUplink s l tag op addr data).intake = s.intake ∧ (State.sendUplink s l tag op addr data).pipe = s.pipe ∧ (State.sendUplink s l tag op addr data).engine = s.engine ∧ (State.sendUplink s l tag op addr data).tracks = s.tracks ∧ (State.sendUplink s l tag op addr data).eject = s.eject ∧ (State.sendUplink s l tag op addr data).field = s.field ∧ (State.sendUplink s l tag op addr data).memory = s.memory ∧ (State.sendUplink s l tag op addr data).knots = s.knots ∧ (State.sendUplink s l tag op addr data).host = s.host ∧ (State.sendUplink s l tag op addr data).net = s.net ∧ (State.sendUplink s l tag op addr data).faults = s.faults ∧ (State.sendUplink s l tag op addr data).power = s.power ∧ (State.sendUplink s l tag op addr data).boot = s.boot :=
  have h := State.sendUplink_changes s l tag op addr data
  ⟨h.mfg, h.pending, h.areas .tick rfl, h.areas .blobs rfl, h.areas .ctl rfl, h.areas .belt rfl, h.areas .supplies rfl, h.areas .intake rfl, h.areas .pipe rfl, h.areas .engine rfl, h.areas .tracks rfl, h.areas .eject rfl, h.areas .field rfl, h.areas .memory rfl, h.areas .knots rfl, h.areas .host rfl, h.areas .net rfl, h.areas .faults rfl, h.areas .power rfl, h.areas .boot rfl⟩

@[simp] theorem State.sendUplink_reg (s : State) (l tag op addr : Nat) (data : List Byte) (k : Nat) : (State.sendUplink s l tag op addr data).reg k = s.reg k :=
  (State.sendUplink_changes s l tag op addr data).entries k (Entries.has_none k)

@[simp] theorem State.camCtl_same (s : State) (l : Nat) (op : CtlOp) (addr : Nat) (data : (List Byte)) :
    (State.camCtl s l op addr data).mfg = s.mfg ∧ (State.camCtl s l op addr data).pending = s.pending ∧ (State.camCtl s l op addr data).tick = s.tick ∧ (State.camCtl s l op addr data).blobs = s.blobs ∧ (State.camCtl s l op addr data).ctl = s.ctl ∧ (State.camCtl s l op addr data).belt = s.belt ∧ (State.camCtl s l op addr data).supplies = s.supplies ∧ (State.camCtl s l op addr data).pipe = s.pipe ∧ (State.camCtl s l op addr data).engine = s.engine ∧ (State.camCtl s l op addr data).tracks = s.tracks ∧ (State.camCtl s l op addr data).eject = s.eject ∧ (State.camCtl s l op addr data).field = s.field ∧ (State.camCtl s l op addr data).memory = s.memory ∧ (State.camCtl s l op addr data).knots = s.knots ∧ (State.camCtl s l op addr data).host = s.host ∧ (State.camCtl s l op addr data).net = s.net ∧ (State.camCtl s l op addr data).faults = s.faults ∧ (State.camCtl s l op addr data).power = s.power ∧ (State.camCtl s l op addr data).boot = s.boot :=
  have h := State.camCtl_changes s l op addr data
  ⟨h.mfg, h.pending, h.areas .tick rfl, h.areas .blobs rfl, h.areas .ctl rfl, h.areas .belt rfl, h.areas .supplies rfl, h.areas .pipe rfl, h.areas .engine rfl, h.areas .tracks rfl, h.areas .eject rfl, h.areas .field rfl, h.areas .memory rfl, h.areas .knots rfl, h.areas .host rfl, h.areas .net rfl, h.areas .faults rfl, h.areas .power rfl, h.areas .boot rfl⟩

@[simp] theorem State.camCtl_reg (s : State) (l : Nat) (op : CtlOp) (addr : Nat) (data : (List Byte)) (j : Nat) (h : (Entries.only [0x0405]).has j = false) : (State.camCtl s l op addr data).reg j = s.reg j :=
  (State.camCtl_changes s l op addr data).entries j h

@[simp] theorem State.cameraRegCmd_same (s : State) (write : Bool) :
    (State.cameraRegCmd s write).2.mfg = s.mfg ∧ (State.cameraRegCmd s write).2.pending = s.pending ∧ (State.cameraRegCmd s write).2.tick = s.tick ∧ (State.cameraRegCmd s write).2.blobs = s.blobs ∧ (State.cameraRegCmd s write).2.belt = s.belt ∧ (State.cameraRegCmd s write).2.supplies = s.supplies ∧ (State.cameraRegCmd s write).2.pipe = s.pipe ∧ (State.cameraRegCmd s write).2.engine = s.engine ∧ (State.cameraRegCmd s write).2.tracks = s.tracks ∧ (State.cameraRegCmd s write).2.eject = s.eject ∧ (State.cameraRegCmd s write).2.field = s.field ∧ (State.cameraRegCmd s write).2.memory = s.memory ∧ (State.cameraRegCmd s write).2.knots = s.knots ∧ (State.cameraRegCmd s write).2.host = s.host ∧ (State.cameraRegCmd s write).2.net = s.net ∧ (State.cameraRegCmd s write).2.faults = s.faults ∧ (State.cameraRegCmd s write).2.power = s.power ∧ (State.cameraRegCmd s write).2.boot = s.boot :=
  have h := State.cameraRegCmd_changes s write
  ⟨h.mfg, h.pending, h.areas .tick rfl, h.areas .blobs rfl, h.areas .belt rfl, h.areas .supplies rfl, h.areas .pipe rfl, h.areas .engine rfl, h.areas .tracks rfl, h.areas .eject rfl, h.areas .field rfl, h.areas .memory rfl, h.areas .knots rfl, h.areas .host rfl, h.areas .net rfl, h.areas .faults rfl, h.areas .power rfl, h.areas .boot rfl⟩

@[simp] theorem State.cameraRegCmd_reg (s : State) (write : Bool) (j : Nat) (h : (Entries.only [0x0405]).has j = false) : (State.cameraRegCmd s write).2.reg j = s.reg j :=
  (State.cameraRegCmd_changes s write).entries j h

@[simp] theorem State.retestCmd_same (s : State) (code : Nat) :
    (State.retestCmd s code).2.mfg = s.mfg ∧ (State.retestCmd s code).2.pending = s.pending ∧ (State.retestCmd s code).2.tick = s.tick ∧ (State.retestCmd s code).2.freeN = s.freeN ∧ (State.retestCmd s code).2.blobs = s.blobs ∧ (State.retestCmd s code).2.belt = s.belt ∧ (State.retestCmd s code).2.supplies = s.supplies ∧ (State.retestCmd s code).2.intake = s.intake ∧ (State.retestCmd s code).2.pipe = s.pipe ∧ (State.retestCmd s code).2.tracks = s.tracks ∧ (State.retestCmd s code).2.eject = s.eject ∧ (State.retestCmd s code).2.field = s.field ∧ (State.retestCmd s code).2.memory = s.memory ∧ (State.retestCmd s code).2.knots = s.knots ∧ (State.retestCmd s code).2.host = s.host ∧ (State.retestCmd s code).2.net = s.net ∧ (State.retestCmd s code).2.faults = s.faults ∧ (State.retestCmd s code).2.power = s.power ∧ (State.retestCmd s code).2.perf = s.perf ∧ (State.retestCmd s code).2.boot = s.boot ∧ (State.retestCmd s code).2.out = s.out :=
  have h := State.retestCmd_changes s code
  ⟨h.mfg, h.pending, h.areas .tick rfl, h.areas .freeN rfl, h.areas .blobs rfl, h.areas .belt rfl, h.areas .supplies rfl, h.areas .intake rfl, h.areas .pipe rfl, h.areas .tracks rfl, h.areas .eject rfl, h.areas .field rfl, h.areas .memory rfl, h.areas .knots rfl, h.areas .host rfl, h.areas .net rfl, h.areas .faults rfl, h.areas .power rfl, h.areas .perf rfl, h.areas .boot rfl, h.areas .out rfl⟩

@[simp] theorem State.retestCmd_reg (s : State) (code : Nat) (k : Nat) : (State.retestCmd s code).2.reg k = s.reg k :=
  (State.retestCmd_changes s code).entries k (Entries.has_none k)

@[simp] theorem State.setPart_same (s : State) (sess k : Nat) (d : Option (List Byte)) :
    (State.setPart s sess k d).mfg = s.mfg ∧ (State.setPart s sess k d).pending = s.pending ∧ (State.setPart s sess k d).tick = s.tick ∧ (State.setPart s sess k d).freeN = s.freeN ∧ (State.setPart s sess k d).blobs = s.blobs ∧ (State.setPart s sess k d).belt = s.belt ∧ (State.setPart s sess k d).supplies = s.supplies ∧ (State.setPart s sess k d).intake = s.intake ∧ (State.setPart s sess k d).pipe = s.pipe ∧ (State.setPart s sess k d).engine = s.engine ∧ (State.setPart s sess k d).tracks = s.tracks ∧ (State.setPart s sess k d).eject = s.eject ∧ (State.setPart s sess k d).field = s.field ∧ (State.setPart s sess k d).memory = s.memory ∧ (State.setPart s sess k d).knots = s.knots ∧ (State.setPart s sess k d).host = s.host ∧ (State.setPart s sess k d).net = s.net ∧ (State.setPart s sess k d).faults = s.faults ∧ (State.setPart s sess k d).power = s.power ∧ (State.setPart s sess k d).perf = s.perf ∧ (State.setPart s sess k d).boot = s.boot ∧ (State.setPart s sess k d).out = s.out :=
  have h := State.setPart_changes s sess k d
  ⟨h.mfg, h.pending, h.areas .tick rfl, h.areas .freeN rfl, h.areas .blobs rfl, h.areas .belt rfl, h.areas .supplies rfl, h.areas .intake rfl, h.areas .pipe rfl, h.areas .engine rfl, h.areas .tracks rfl, h.areas .eject rfl, h.areas .field rfl, h.areas .memory rfl, h.areas .knots rfl, h.areas .host rfl, h.areas .net rfl, h.areas .faults rfl, h.areas .power rfl, h.areas .perf rfl, h.areas .boot rfl, h.areas .out rfl⟩

@[simp] theorem State.setPart_reg (s : State) (sess k : Nat) (d : Option (List Byte)) (j : Nat) : (State.setPart s sess k d).reg j = s.reg j :=
  (State.setPart_changes s sess k d).entries j (Entries.has_none j)

@[simp] theorem State.stageBlob_same (s : State) (sess k : Nat) (d : List Byte) :
    (State.stageBlob s sess k d).mfg = s.mfg ∧ (State.stageBlob s sess k d).pending = s.pending ∧ (State.stageBlob s sess k d).tick = s.tick ∧ (State.stageBlob s sess k d).freeN = s.freeN ∧ (State.stageBlob s sess k d).blobs = s.blobs ∧ (State.stageBlob s sess k d).belt = s.belt ∧ (State.stageBlob s sess k d).supplies = s.supplies ∧ (State.stageBlob s sess k d).intake = s.intake ∧ (State.stageBlob s sess k d).pipe = s.pipe ∧ (State.stageBlob s sess k d).engine = s.engine ∧ (State.stageBlob s sess k d).tracks = s.tracks ∧ (State.stageBlob s sess k d).eject = s.eject ∧ (State.stageBlob s sess k d).field = s.field ∧ (State.stageBlob s sess k d).memory = s.memory ∧ (State.stageBlob s sess k d).knots = s.knots ∧ (State.stageBlob s sess k d).host = s.host ∧ (State.stageBlob s sess k d).net = s.net ∧ (State.stageBlob s sess k d).faults = s.faults ∧ (State.stageBlob s sess k d).power = s.power ∧ (State.stageBlob s sess k d).perf = s.perf ∧ (State.stageBlob s sess k d).boot = s.boot ∧ (State.stageBlob s sess k d).out = s.out :=
  have h := State.stageBlob_changes s sess k d
  ⟨h.mfg, h.pending, h.areas .tick rfl, h.areas .freeN rfl, h.areas .blobs rfl, h.areas .belt rfl, h.areas .supplies rfl, h.areas .intake rfl, h.areas .pipe rfl, h.areas .engine rfl, h.areas .tracks rfl, h.areas .eject rfl, h.areas .field rfl, h.areas .memory rfl, h.areas .knots rfl, h.areas .host rfl, h.areas .net rfl, h.areas .faults rfl, h.areas .power rfl, h.areas .perf rfl, h.areas .boot rfl, h.areas .out rfl⟩

@[simp] theorem State.stageBlob_reg (s : State) (sess k : Nat) (d : List Byte) (j : Nat) : (State.stageBlob s sess k d).reg j = s.reg j :=
  (State.stageBlob_changes s sess k d).entries j (Entries.has_none j)

@[simp] theorem State.blobData_same (s : State) (d : List Byte) :
    (State.blobData s d).2.mfg = s.mfg ∧ (State.blobData s d).2.pending = s.pending ∧ (State.blobData s d).2.tick = s.tick ∧ (State.blobData s d).2.freeN = s.freeN ∧ (State.blobData s d).2.blobs = s.blobs ∧ (State.blobData s d).2.ctl = s.ctl ∧ (State.blobData s d).2.belt = s.belt ∧ (State.blobData s d).2.supplies = s.supplies ∧ (State.blobData s d).2.intake = s.intake ∧ (State.blobData s d).2.pipe = s.pipe ∧ (State.blobData s d).2.engine = s.engine ∧ (State.blobData s d).2.tracks = s.tracks ∧ (State.blobData s d).2.eject = s.eject ∧ (State.blobData s d).2.field = s.field ∧ (State.blobData s d).2.memory = s.memory ∧ (State.blobData s d).2.knots = s.knots ∧ (State.blobData s d).2.host = s.host ∧ (State.blobData s d).2.net = s.net ∧ (State.blobData s d).2.faults = s.faults ∧ (State.blobData s d).2.power = s.power ∧ (State.blobData s d).2.perf = s.perf ∧ (State.blobData s d).2.out = s.out :=
  have h := State.blobData_changes s d
  ⟨h.mfg, h.pending, h.areas .tick rfl, h.areas .freeN rfl, h.areas .blobs rfl, h.areas .ctl rfl, h.areas .belt rfl, h.areas .supplies rfl, h.areas .intake rfl, h.areas .pipe rfl, h.areas .engine rfl, h.areas .tracks rfl, h.areas .eject rfl, h.areas .field rfl, h.areas .memory rfl, h.areas .knots rfl, h.areas .host rfl, h.areas .net rfl, h.areas .faults rfl, h.areas .power rfl, h.areas .perf rfl, h.areas .out rfl⟩

@[simp] theorem State.blobData_reg (s : State) (d : List Byte) (j : Nat) (h : (Entries.only [K.blobUploadOffset]).has j = false) : (State.blobData s d).2.reg j = s.reg j :=
  (State.blobData_changes s d).entries j h

@[simp] theorem State.uploadData_same (s : State) (d : List Byte) :
    (State.uploadData s d).2.mfg = s.mfg ∧ (State.uploadData s d).2.pending = s.pending ∧ (State.uploadData s d).2.tick = s.tick ∧ (State.uploadData s d).2.freeN = s.freeN ∧ (State.uploadData s d).2.blobs = s.blobs ∧ (State.uploadData s d).2.ctl = s.ctl ∧ (State.uploadData s d).2.belt = s.belt ∧ (State.uploadData s d).2.supplies = s.supplies ∧ (State.uploadData s d).2.intake = s.intake ∧ (State.uploadData s d).2.pipe = s.pipe ∧ (State.uploadData s d).2.tracks = s.tracks ∧ (State.uploadData s d).2.eject = s.eject ∧ (State.uploadData s d).2.field = s.field ∧ (State.uploadData s d).2.memory = s.memory ∧ (State.uploadData s d).2.knots = s.knots ∧ (State.uploadData s d).2.host = s.host ∧ (State.uploadData s d).2.net = s.net ∧ (State.uploadData s d).2.faults = s.faults ∧ (State.uploadData s d).2.power = s.power ∧ (State.uploadData s d).2.perf = s.perf ∧ (State.uploadData s d).2.boot = s.boot ∧ (State.uploadData s d).2.out = s.out :=
  have h := State.uploadData_changes s d
  ⟨h.mfg, h.pending, h.areas .tick rfl, h.areas .freeN rfl, h.areas .blobs rfl, h.areas .ctl rfl, h.areas .belt rfl, h.areas .supplies rfl, h.areas .intake rfl, h.areas .pipe rfl, h.areas .tracks rfl, h.areas .eject rfl, h.areas .field rfl, h.areas .memory rfl, h.areas .knots rfl, h.areas .host rfl, h.areas .net rfl, h.areas .faults rfl, h.areas .power rfl, h.areas .perf rfl, h.areas .boot rfl, h.areas .out rfl⟩

@[simp] theorem State.uploadData_reg (s : State) (d : List Byte) (j : Nat) (h : (Entries.only [K.planUploadOffset]).has j = false) : (State.uploadData s d).2.reg j = s.reg j :=
  (State.uploadData_changes s d).entries j h

@[simp] theorem State.stageReg_same (s : State) (sess k v : Nat) :
    (State.stageReg s sess k v).mfg = s.mfg ∧ (State.stageReg s sess k v).pending = s.pending ∧ (State.stageReg s sess k v).tick = s.tick ∧ (State.stageReg s sess k v).freeN = s.freeN ∧ (State.stageReg s sess k v).blobs = s.blobs ∧ (State.stageReg s sess k v).belt = s.belt ∧ (State.stageReg s sess k v).supplies = s.supplies ∧ (State.stageReg s sess k v).intake = s.intake ∧ (State.stageReg s sess k v).pipe = s.pipe ∧ (State.stageReg s sess k v).engine = s.engine ∧ (State.stageReg s sess k v).tracks = s.tracks ∧ (State.stageReg s sess k v).eject = s.eject ∧ (State.stageReg s sess k v).field = s.field ∧ (State.stageReg s sess k v).memory = s.memory ∧ (State.stageReg s sess k v).knots = s.knots ∧ (State.stageReg s sess k v).host = s.host ∧ (State.stageReg s sess k v).net = s.net ∧ (State.stageReg s sess k v).faults = s.faults ∧ (State.stageReg s sess k v).power = s.power ∧ (State.stageReg s sess k v).perf = s.perf ∧ (State.stageReg s sess k v).boot = s.boot ∧ (State.stageReg s sess k v).out = s.out :=
  have h := State.stageReg_changes s sess k v
  ⟨h.mfg, h.pending, h.areas .tick rfl, h.areas .freeN rfl, h.areas .blobs rfl, h.areas .belt rfl, h.areas .supplies rfl, h.areas .intake rfl, h.areas .pipe rfl, h.areas .engine rfl, h.areas .tracks rfl, h.areas .eject rfl, h.areas .field rfl, h.areas .memory rfl, h.areas .knots rfl, h.areas .host rfl, h.areas .net rfl, h.areas .faults rfl, h.areas .power rfl, h.areas .perf rfl, h.areas .boot rfl, h.areas .out rfl⟩

@[simp] theorem State.stageReg_reg (s : State) (sess k v : Nat) (j : Nat) : (State.stageReg s sess k v).reg j = s.reg j :=
  (State.stageReg_changes s sess k v).entries j (Entries.has_none j)

@[simp] theorem State.setDomain_same (s : State) (d : Nat) (x : Domain) :
    (State.setDomain s d x).mfg = s.mfg ∧ (State.setDomain s d x).pending = s.pending ∧ (State.setDomain s d x).tick = s.tick ∧ (State.setDomain s d x).freeN = s.freeN ∧ (State.setDomain s d x).blobs = s.blobs ∧ (State.setDomain s d x).ctl = s.ctl ∧ (State.setDomain s d x).belt = s.belt ∧ (State.setDomain s d x).supplies = s.supplies ∧ (State.setDomain s d x).intake = s.intake ∧ (State.setDomain s d x).pipe = s.pipe ∧ (State.setDomain s d x).engine = s.engine ∧ (State.setDomain s d x).tracks = s.tracks ∧ (State.setDomain s d x).eject = s.eject ∧ (State.setDomain s d x).field = s.field ∧ (State.setDomain s d x).memory = s.memory ∧ (State.setDomain s d x).knots = s.knots ∧ (State.setDomain s d x).host = s.host ∧ (State.setDomain s d x).faults = s.faults ∧ (State.setDomain s d x).power = s.power ∧ (State.setDomain s d x).perf = s.perf ∧ (State.setDomain s d x).boot = s.boot ∧ (State.setDomain s d x).out = s.out :=
  have h := State.setDomain_changes s d x
  ⟨h.mfg, h.pending, h.areas .tick rfl, h.areas .freeN rfl, h.areas .blobs rfl, h.areas .ctl rfl, h.areas .belt rfl, h.areas .supplies rfl, h.areas .intake rfl, h.areas .pipe rfl, h.areas .engine rfl, h.areas .tracks rfl, h.areas .eject rfl, h.areas .field rfl, h.areas .memory rfl, h.areas .knots rfl, h.areas .host rfl, h.areas .faults rfl, h.areas .power rfl, h.areas .perf rfl, h.areas .boot rfl, h.areas .out rfl⟩

@[simp] theorem State.setDomain_reg (s : State) (d : Nat) (x : Domain) (k : Nat) : (State.setDomain s d x).reg k = s.reg k :=
  (State.setDomain_changes s d x).entries k (Entries.has_none k)

@[simp] theorem State.formWord_same (s : State) (w : CorrWord) :
    (State.formWord s w).mfg = s.mfg ∧ (State.formWord s w).pending = s.pending ∧ (State.formWord s w).tick = s.tick ∧ (State.formWord s w).freeN = s.freeN ∧ (State.formWord s w).blobs = s.blobs ∧ (State.formWord s w).ctl = s.ctl ∧ (State.formWord s w).belt = s.belt ∧ (State.formWord s w).supplies = s.supplies ∧ (State.formWord s w).intake = s.intake ∧ (State.formWord s w).pipe = s.pipe ∧ (State.formWord s w).engine = s.engine ∧ (State.formWord s w).tracks = s.tracks ∧ (State.formWord s w).eject = s.eject ∧ (State.formWord s w).field = s.field ∧ (State.formWord s w).memory = s.memory ∧ (State.formWord s w).knots = s.knots ∧ (State.formWord s w).host = s.host ∧ (State.formWord s w).faults = s.faults ∧ (State.formWord s w).power = s.power ∧ (State.formWord s w).perf = s.perf ∧ (State.formWord s w).boot = s.boot ∧ (State.formWord s w).out = s.out :=
  have h := State.formWord_changes s w
  ⟨h.mfg, h.pending, h.areas .tick rfl, h.areas .freeN rfl, h.areas .blobs rfl, h.areas .ctl rfl, h.areas .belt rfl, h.areas .supplies rfl, h.areas .intake rfl, h.areas .pipe rfl, h.areas .engine rfl, h.areas .tracks rfl, h.areas .eject rfl, h.areas .field rfl, h.areas .memory rfl, h.areas .knots rfl, h.areas .host rfl, h.areas .faults rfl, h.areas .power rfl, h.areas .perf rfl, h.areas .boot rfl, h.areas .out rfl⟩

@[simp] theorem State.formWord_reg (s : State) (w : CorrWord) (k : Nat) : (State.formWord s w).reg k = s.reg k :=
  (State.formWord_changes s w).entries k (Entries.has_none k)

@[simp] theorem State.followDomain_same (s : State) (d : Nat) :
    (State.followDomain s d).mfg = s.mfg ∧ (State.followDomain s d).pending = s.pending ∧ (State.followDomain s d).tick = s.tick ∧ (State.followDomain s d).freeN = s.freeN ∧ (State.followDomain s d).blobs = s.blobs ∧ (State.followDomain s d).ctl = s.ctl ∧ (State.followDomain s d).belt = s.belt ∧ (State.followDomain s d).supplies = s.supplies ∧ (State.followDomain s d).intake = s.intake ∧ (State.followDomain s d).pipe = s.pipe ∧ (State.followDomain s d).engine = s.engine ∧ (State.followDomain s d).tracks = s.tracks ∧ (State.followDomain s d).eject = s.eject ∧ (State.followDomain s d).field = s.field ∧ (State.followDomain s d).memory = s.memory ∧ (State.followDomain s d).knots = s.knots ∧ (State.followDomain s d).host = s.host ∧ (State.followDomain s d).faults = s.faults ∧ (State.followDomain s d).power = s.power ∧ (State.followDomain s d).perf = s.perf ∧ (State.followDomain s d).boot = s.boot ∧ (State.followDomain s d).out = s.out :=
  have h := State.followDomain_changes s d
  ⟨h.mfg, h.pending, h.areas .tick rfl, h.areas .freeN rfl, h.areas .blobs rfl, h.areas .ctl rfl, h.areas .belt rfl, h.areas .supplies rfl, h.areas .intake rfl, h.areas .pipe rfl, h.areas .engine rfl, h.areas .tracks rfl, h.areas .eject rfl, h.areas .field rfl, h.areas .memory rfl, h.areas .knots rfl, h.areas .host rfl, h.areas .faults rfl, h.areas .power rfl, h.areas .perf rfl, h.areas .boot rfl, h.areas .out rfl⟩

@[simp] theorem State.followDomain_reg (s : State) (d : Nat) (k : Nat) : (State.followDomain s d).reg k = s.reg k :=
  (State.followDomain_changes s d).entries k (Entries.has_none k)

@[simp] theorem State.timeRec_same (s : State) (cause : Nat) (delta : Int) :
    (State.timeRec s cause delta).mfg = s.mfg ∧ (State.timeRec s cause delta).pending = s.pending ∧ (State.timeRec s cause delta).tick = s.tick ∧ (State.timeRec s cause delta).freeN = s.freeN ∧ (State.timeRec s cause delta).blobs = s.blobs ∧ (State.timeRec s cause delta).ctl = s.ctl ∧ (State.timeRec s cause delta).belt = s.belt ∧ (State.timeRec s cause delta).supplies = s.supplies ∧ (State.timeRec s cause delta).intake = s.intake ∧ (State.timeRec s cause delta).pipe = s.pipe ∧ (State.timeRec s cause delta).engine = s.engine ∧ (State.timeRec s cause delta).tracks = s.tracks ∧ (State.timeRec s cause delta).eject = s.eject ∧ (State.timeRec s cause delta).field = s.field ∧ (State.timeRec s cause delta).memory = s.memory ∧ (State.timeRec s cause delta).knots = s.knots ∧ (State.timeRec s cause delta).net = s.net ∧ (State.timeRec s cause delta).faults = s.faults ∧ (State.timeRec s cause delta).power = s.power ∧ (State.timeRec s cause delta).boot = s.boot :=
  have h := State.timeRec_changes s cause delta
  ⟨h.mfg, h.pending, h.areas .tick rfl, h.areas .freeN rfl, h.areas .blobs rfl, h.areas .ctl rfl, h.areas .belt rfl, h.areas .supplies rfl, h.areas .intake rfl, h.areas .pipe rfl, h.areas .engine rfl, h.areas .tracks rfl, h.areas .eject rfl, h.areas .field rfl, h.areas .memory rfl, h.areas .knots rfl, h.areas .net rfl, h.areas .faults rfl, h.areas .power rfl, h.areas .boot rfl⟩

@[simp] theorem State.timeRec_reg (s : State) (cause : Nat) (delta : Int) (j : Nat) (h : (Entries.only [0x1205, K.recordsUnrouted]).has j = false) : (State.timeRec s cause delta).reg j = s.reg j :=
  (State.timeRec_changes s cause delta).entries j h

@[simp] theorem State.chooseTime_same (s : State) :
    (State.chooseTime s).mfg = s.mfg ∧ (State.chooseTime s).pending = s.pending ∧ (State.chooseTime s).tick = s.tick ∧ (State.chooseTime s).blobs = s.blobs ∧ (State.chooseTime s).ctl = s.ctl ∧ (State.chooseTime s).belt = s.belt ∧ (State.chooseTime s).supplies = s.supplies ∧ (State.chooseTime s).intake = s.intake ∧ (State.chooseTime s).pipe = s.pipe ∧ (State.chooseTime s).engine = s.engine ∧ (State.chooseTime s).tracks = s.tracks ∧ (State.chooseTime s).eject = s.eject ∧ (State.chooseTime s).field = s.field ∧ (State.chooseTime s).memory = s.memory ∧ (State.chooseTime s).knots = s.knots ∧ (State.chooseTime s).faults = s.faults ∧ (State.chooseTime s).power = s.power ∧ (State.chooseTime s).boot = s.boot :=
  have h := State.chooseTime_changes s
  ⟨h.mfg, h.pending, h.areas .tick rfl, h.areas .blobs rfl, h.areas .ctl rfl, h.areas .belt rfl, h.areas .supplies rfl, h.areas .intake rfl, h.areas .pipe rfl, h.areas .engine rfl, h.areas .tracks rfl, h.areas .eject rfl, h.areas .field rfl, h.areas .memory rfl, h.areas .knots rfl, h.areas .faults rfl, h.areas .power rfl, h.areas .boot rfl⟩

@[simp] theorem State.chooseTime_reg (s : State) (j : Nat) (h : (Entries.only [0x1205, K.recordsUnrouted, K.domainSwitches, K.timeSteps, K.timeHoldoverEntries]).has j = false) : (State.chooseTime s).reg j = s.reg j :=
  (State.chooseTime_changes s).entries j h

@[simp] theorem State.unlock_same (s : State) (d : Nat) (st : DomSt) :
    (State.unlock s d st).mfg = s.mfg ∧ (State.unlock s d st).pending = s.pending ∧ (State.unlock s d st).tick = s.tick ∧ (State.unlock s d st).blobs = s.blobs ∧ (State.unlock s d st).ctl = s.ctl ∧ (State.unlock s d st).belt = s.belt ∧ (State.unlock s d st).supplies = s.supplies ∧ (State.unlock s d st).intake = s.intake ∧ (State.unlock s d st).pipe = s.pipe ∧ (State.unlock s d st).engine = s.engine ∧ (State.unlock s d st).tracks = s.tracks ∧ (State.unlock s d st).eject = s.eject ∧ (State.unlock s d st).field = s.field ∧ (State.unlock s d st).memory = s.memory ∧ (State.unlock s d st).knots = s.knots ∧ (State.unlock s d st).faults = s.faults ∧ (State.unlock s d st).power = s.power ∧ (State.unlock s d st).boot = s.boot :=
  have h := State.unlock_changes s d st
  ⟨h.mfg, h.pending, h.areas .tick rfl, h.areas .blobs rfl, h.areas .ctl rfl, h.areas .belt rfl, h.areas .supplies rfl, h.areas .intake rfl, h.areas .pipe rfl, h.areas .engine rfl, h.areas .tracks rfl, h.areas .eject rfl, h.areas .field rfl, h.areas .memory rfl, h.areas .knots rfl, h.areas .faults rfl, h.areas .power rfl, h.areas .boot rfl⟩

@[simp] theorem State.unlock_reg (s : State) (d : Nat) (st : DomSt) (j : Nat) (h : (Entries.only [0x1205, K.recordsUnrouted, K.domainSwitches, K.timeSteps, K.timeHoldoverEntries]).has j = false) : (State.unlock s d st).reg j = s.reg j :=
  (State.unlock_changes s d st).entries j h

@[simp] theorem State.resync_same (s : State) (i : Nat) (send : Bool) :
    (State.resync s i send).mfg = s.mfg ∧ (State.resync s i send).pending = s.pending ∧ (State.resync s i send).tick = s.tick ∧ (State.resync s i send).blobs = s.blobs ∧ (State.resync s i send).ctl = s.ctl ∧ (State.resync s i send).belt = s.belt ∧ (State.resync s i send).supplies = s.supplies ∧ (State.resync s i send).pipe = s.pipe ∧ (State.resync s i send).engine = s.engine ∧ (State.resync s i send).tracks = s.tracks ∧ (State.resync s i send).eject = s.eject ∧ (State.resync s i send).field = s.field ∧ (State.resync s i send).memory = s.memory ∧ (State.resync s i send).knots = s.knots ∧ (State.resync s i send).host = s.host ∧ (State.resync s i send).net = s.net ∧ (State.resync s i send).faults = s.faults ∧ (State.resync s i send).power = s.power ∧ (State.resync s i send).boot = s.boot :=
  have h := State.resync_changes s i send
  ⟨h.mfg, h.pending, h.areas .tick rfl, h.areas .blobs rfl, h.areas .ctl rfl, h.areas .belt rfl, h.areas .supplies rfl, h.areas .pipe rfl, h.areas .engine rfl, h.areas .tracks rfl, h.areas .eject rfl, h.areas .field rfl, h.areas .memory rfl, h.areas .knots rfl, h.areas .host rfl, h.areas .net rfl, h.areas .faults rfl, h.areas .power rfl, h.areas .boot rfl⟩

@[simp] theorem State.resync_reg (s : State) (i : Nat) (send : Bool) (j : Nat) (h : (Entries.only [0x0405, 0x0509, 0x050B, 0x050C]).has j = false) : (State.resync s i send).reg j = s.reg j :=
  (State.resync_changes s i send).entries j h

@[simp] theorem State.trackRec_same (s : State) (x : StepOf) (t : Track) (cls conf : Nat) (eject image : Bool) :
    (State.trackRec s x t cls conf eject image).1.mfg = s.mfg ∧ (State.trackRec s x t cls conf eject image).1.pending = s.pending ∧ (State.trackRec s x t cls conf eject image).1.tick = s.tick ∧ (State.trackRec s x t cls conf eject image).1.freeN = s.freeN ∧ (State.trackRec s x t cls conf eject image).1.blobs = s.blobs ∧ (State.trackRec s x t cls conf eject image).1.ctl = s.ctl ∧ (State.trackRec s x t cls conf eject image).1.belt = s.belt ∧ (State.trackRec s x t cls conf eject image).1.supplies = s.supplies ∧ (State.trackRec s x t cls conf eject image).1.intake = s.intake ∧ (State.trackRec s x t cls conf eject image).1.pipe = s.pipe ∧ (State.trackRec s x t cls conf eject image).1.engine = s.engine ∧ (State.trackRec s x t cls conf eject image).1.tracks = s.tracks ∧ (State.trackRec s x t cls conf eject image).1.eject = s.eject ∧ (State.trackRec s x t cls conf eject image).1.field = s.field ∧ (State.trackRec s x t cls conf eject image).1.memory = s.memory ∧ (State.trackRec s x t cls conf eject image).1.knots = s.knots ∧ (State.trackRec s x t cls conf eject image).1.host = s.host ∧ (State.trackRec s x t cls conf eject image).1.net = s.net ∧ (State.trackRec s x t cls conf eject image).1.faults = s.faults ∧ (State.trackRec s x t cls conf eject image).1.power = s.power ∧ (State.trackRec s x t cls conf eject image).1.perf = s.perf ∧ (State.trackRec s x t cls conf eject image).1.boot = s.boot ∧ (State.trackRec s x t cls conf eject image).1.out = s.out :=
  have h := State.trackRec_changes s x t cls conf eject image
  ⟨h.mfg, h.pending, h.areas .tick rfl, h.areas .freeN rfl, h.areas .blobs rfl, h.areas .ctl rfl, h.areas .belt rfl, h.areas .supplies rfl, h.areas .intake rfl, h.areas .pipe rfl, h.areas .engine rfl, h.areas .tracks rfl, h.areas .eject rfl, h.areas .field rfl, h.areas .memory rfl, h.areas .knots rfl, h.areas .host rfl, h.areas .net rfl, h.areas .faults rfl, h.areas .power rfl, h.areas .perf rfl, h.areas .boot rfl, h.areas .out rfl⟩

@[simp] theorem State.trackRec_reg (s : State) (x : StepOf) (t : Track) (cls conf : Nat) (eject image : Bool) (j : Nat) (h : (Entries.only [K.fallbackDecisions, K.noTrackDecisions, K.listWaitFallbacks, K.outsideValveRange]).has j = false) : (State.trackRec s x t cls conf eject image).1.reg j = s.reg j :=
  (State.trackRec_changes s x t cls conf eject image).entries j h

@[simp] theorem State.feed_same (s : State) (cyc : Nat) :
    (State.feed s cyc).mfg = s.mfg ∧ (State.feed s cyc).pending = s.pending ∧ (State.feed s cyc).tick = s.tick ∧ (State.feed s cyc).freeN = s.freeN ∧ (State.feed s cyc).blobs = s.blobs ∧ (State.feed s cyc).ctl = s.ctl ∧ (State.feed s cyc).belt = s.belt ∧ (State.feed s cyc).supplies = s.supplies ∧ (State.feed s cyc).intake = s.intake ∧ (State.feed s cyc).pipe = s.pipe ∧ (State.feed s cyc).tracks = s.tracks ∧ (State.feed s cyc).eject = s.eject ∧ (State.feed s cyc).field = s.field ∧ (State.feed s cyc).memory = s.memory ∧ (State.feed s cyc).knots = s.knots ∧ (State.feed s cyc).host = s.host ∧ (State.feed s cyc).net = s.net ∧ (State.feed s cyc).power = s.power ∧ (State.feed s cyc).perf = s.perf ∧ (State.feed s cyc).boot = s.boot ∧ (State.feed s cyc).out = s.out :=
  have h := State.feed_changes s cyc
  ⟨h.mfg, h.pending, h.areas .tick rfl, h.areas .freeN rfl, h.areas .blobs rfl, h.areas .ctl rfl, h.areas .belt rfl, h.areas .supplies rfl, h.areas .intake rfl, h.areas .pipe rfl, h.areas .tracks rfl, h.areas .eject rfl, h.areas .field rfl, h.areas .memory rfl, h.areas .knots rfl, h.areas .host rfl, h.areas .net rfl, h.areas .power rfl, h.areas .perf rfl, h.areas .boot rfl, h.areas .out rfl⟩

@[simp] theorem State.feed_reg (s : State) (cyc : Nat) (j : Nat) (h : (Entries.only [0x0804]).has j = false) : (State.feed s cyc).reg j = s.reg j :=
  (State.feed_changes s cyc).entries j h

@[simp] theorem State.bankOff_same (s : State) (b : Nat) :
    (State.bankOff s b).mfg = s.mfg ∧ (State.bankOff s b).pending = s.pending ∧ (State.bankOff s b).tick = s.tick ∧ (State.bankOff s b).freeN = s.freeN ∧ (State.bankOff s b).blobs = s.blobs ∧ (State.bankOff s b).ctl = s.ctl ∧ (State.bankOff s b).belt = s.belt ∧ (State.bankOff s b).supplies = s.supplies ∧ (State.bankOff s b).intake = s.intake ∧ (State.bankOff s b).pipe = s.pipe ∧ (State.bankOff s b).engine = s.engine ∧ (State.bankOff s b).tracks = s.tracks ∧ (State.bankOff s b).eject = s.eject ∧ (State.bankOff s b).memory = s.memory ∧ (State.bankOff s b).knots = s.knots ∧ (State.bankOff s b).host = s.host ∧ (State.bankOff s b).net = s.net ∧ (State.bankOff s b).faults = s.faults ∧ (State.bankOff s b).power = s.power ∧ (State.bankOff s b).perf = s.perf ∧ (State.bankOff s b).boot = s.boot ∧ (State.bankOff s b).out = s.out :=
  have h := State.bankOff_changes s b
  ⟨h.mfg, h.pending, h.areas .tick rfl, h.areas .freeN rfl, h.areas .blobs rfl, h.areas .ctl rfl, h.areas .belt rfl, h.areas .supplies rfl, h.areas .intake rfl, h.areas .pipe rfl, h.areas .engine rfl, h.areas .tracks rfl, h.areas .eject rfl, h.areas .memory rfl, h.areas .knots rfl, h.areas .host rfl, h.areas .net rfl, h.areas .faults rfl, h.areas .power rfl, h.areas .perf rfl, h.areas .boot rfl, h.areas .out rfl⟩

@[simp] theorem State.bankOff_reg (s : State) (b : Nat) (k : Nat) : (State.bankOff s b).reg k = s.reg k :=
  (State.bankOff_changes s b).entries k (Entries.has_none k)

@[simp] theorem State.bdpOpen_same (s : State) (d : List Byte) :
    (State.bdpOpen s d).2.mfg = s.mfg ∧ (State.bdpOpen s d).2.pending = s.pending ∧ (State.bdpOpen s d).2.tick = s.tick ∧ (State.bdpOpen s d).2.freeN = s.freeN ∧ (State.bdpOpen s d).2.blobs = s.blobs ∧ (State.bdpOpen s d).2.belt = s.belt ∧ (State.bdpOpen s d).2.supplies = s.supplies ∧ (State.bdpOpen s d).2.intake = s.intake ∧ (State.bdpOpen s d).2.pipe = s.pipe ∧ (State.bdpOpen s d).2.engine = s.engine ∧ (State.bdpOpen s d).2.tracks = s.tracks ∧ (State.bdpOpen s d).2.eject = s.eject ∧ (State.bdpOpen s d).2.field = s.field ∧ (State.bdpOpen s d).2.memory = s.memory ∧ (State.bdpOpen s d).2.knots = s.knots ∧ (State.bdpOpen s d).2.host = s.host ∧ (State.bdpOpen s d).2.net = s.net ∧ (State.bdpOpen s d).2.faults = s.faults ∧ (State.bdpOpen s d).2.power = s.power ∧ (State.bdpOpen s d).2.perf = s.perf ∧ (State.bdpOpen s d).2.boot = s.boot ∧ (State.bdpOpen s d).2.out = s.out :=
  have h := State.bdpOpen_changes s d
  ⟨h.mfg, h.pending, h.areas .tick rfl, h.areas .freeN rfl, h.areas .blobs rfl, h.areas .belt rfl, h.areas .supplies rfl, h.areas .intake rfl, h.areas .pipe rfl, h.areas .engine rfl, h.areas .tracks rfl, h.areas .eject rfl, h.areas .field rfl, h.areas .memory rfl, h.areas .knots rfl, h.areas .host rfl, h.areas .net rfl, h.areas .faults rfl, h.areas .power rfl, h.areas .perf rfl, h.areas .boot rfl, h.areas .out rfl⟩

@[simp] theorem State.bdpOpen_reg (s : State) (d : List Byte) (k : Nat) : (State.bdpOpen s d).2.reg k = s.reg k :=
  (State.bdpOpen_changes s d).entries k (Entries.has_none k)

@[simp] theorem State.closeSession_same (s : State) (n : Nat) :
    (State.closeSession s n).mfg = s.mfg ∧ (State.closeSession s n).pending = s.pending ∧ (State.closeSession s n).tick = s.tick ∧ (State.closeSession s n).freeN = s.freeN ∧ (State.closeSession s n).blobs = s.blobs ∧ (State.closeSession s n).belt = s.belt ∧ (State.closeSession s n).supplies = s.supplies ∧ (State.closeSession s n).intake = s.intake ∧ (State.closeSession s n).pipe = s.pipe ∧ (State.closeSession s n).engine = s.engine ∧ (State.closeSession s n).tracks = s.tracks ∧ (State.closeSession s n).eject = s.eject ∧ (State.closeSession s n).field = s.field ∧ (State.closeSession s n).memory = s.memory ∧ (State.closeSession s n).knots = s.knots ∧ (State.closeSession s n).host = s.host ∧ (State.closeSession s n).net = s.net ∧ (State.closeSession s n).faults = s.faults ∧ (State.closeSession s n).power = s.power ∧ (State.closeSession s n).perf = s.perf ∧ (State.closeSession s n).boot = s.boot ∧ (State.closeSession s n).out = s.out :=
  have h := State.closeSession_changes s n
  ⟨h.mfg, h.pending, h.areas .tick rfl, h.areas .freeN rfl, h.areas .blobs rfl, h.areas .belt rfl, h.areas .supplies rfl, h.areas .intake rfl, h.areas .pipe rfl, h.areas .engine rfl, h.areas .tracks rfl, h.areas .eject rfl, h.areas .field rfl, h.areas .memory rfl, h.areas .knots rfl, h.areas .host rfl, h.areas .net rfl, h.areas .faults rfl, h.areas .power rfl, h.areas .perf rfl, h.areas .boot rfl, h.areas .out rfl⟩

@[simp] theorem State.closeSession_reg (s : State) (n : Nat) (k : Nat) : (State.closeSession s n).reg k = s.reg k :=
  (State.closeSession_changes s n).entries k (Entries.has_none k)

@[simp] theorem State.markRow_same (s : State) (die t stripe row : Nat) :
    (State.markRow s die t stripe row).mfg = s.mfg ∧ (State.markRow s die t stripe row).pending = s.pending ∧ (State.markRow s die t stripe row).tick = s.tick ∧ (State.markRow s die t stripe row).freeN = s.freeN ∧ (State.markRow s die t stripe row).blobs = s.blobs ∧ (State.markRow s die t stripe row).ctl = s.ctl ∧ (State.markRow s die t stripe row).belt = s.belt ∧ (State.markRow s die t stripe row).supplies = s.supplies ∧ (State.markRow s die t stripe row).intake = s.intake ∧ (State.markRow s die t stripe row).pipe = s.pipe ∧ (State.markRow s die t stripe row).tracks = s.tracks ∧ (State.markRow s die t stripe row).eject = s.eject ∧ (State.markRow s die t stripe row).field = s.field ∧ (State.markRow s die t stripe row).memory = s.memory ∧ (State.markRow s die t stripe row).knots = s.knots ∧ (State.markRow s die t stripe row).host = s.host ∧ (State.markRow s die t stripe row).net = s.net ∧ (State.markRow s die t stripe row).faults = s.faults ∧ (State.markRow s die t stripe row).power = s.power ∧ (State.markRow s die t stripe row).perf = s.perf ∧ (State.markRow s die t stripe row).boot = s.boot ∧ (State.markRow s die t stripe row).out = s.out :=
  have h := State.markRow_changes s die t stripe row
  ⟨h.mfg, h.pending, h.areas .tick rfl, h.areas .freeN rfl, h.areas .blobs rfl, h.areas .ctl rfl, h.areas .belt rfl, h.areas .supplies rfl, h.areas .intake rfl, h.areas .pipe rfl, h.areas .tracks rfl, h.areas .eject rfl, h.areas .field rfl, h.areas .memory rfl, h.areas .knots rfl, h.areas .host rfl, h.areas .net rfl, h.areas .faults rfl, h.areas .power rfl, h.areas .perf rfl, h.areas .boot rfl, h.areas .out rfl⟩

@[simp] theorem State.markRow_reg (s : State) (die t stripe row : Nat) (k : Nat) : (State.markRow s die t stripe row).reg k = s.reg k :=
  (State.markRow_changes s die t stripe row).entries k (Entries.has_none k)

@[simp] theorem State.abortLayer_same (s : State) (w : Work) :
    (State.abortLayer s w).mfg = s.mfg ∧ (State.abortLayer s w).pending = s.pending ∧ (State.abortLayer s w).tick = s.tick ∧ (State.abortLayer s w).freeN = s.freeN ∧ (State.abortLayer s w).blobs = s.blobs ∧ (State.abortLayer s w).ctl = s.ctl ∧ (State.abortLayer s w).belt = s.belt ∧ (State.abortLayer s w).supplies = s.supplies ∧ (State.abortLayer s w).intake = s.intake ∧ (State.abortLayer s w).pipe = s.pipe ∧ (State.abortLayer s w).tracks = s.tracks ∧ (State.abortLayer s w).eject = s.eject ∧ (State.abortLayer s w).field = s.field ∧ (State.abortLayer s w).memory = s.memory ∧ (State.abortLayer s w).knots = s.knots ∧ (State.abortLayer s w).host = s.host ∧ (State.abortLayer s w).net = s.net ∧ (State.abortLayer s w).faults = s.faults ∧ (State.abortLayer s w).power = s.power ∧ (State.abortLayer s w).perf = s.perf ∧ (State.abortLayer s w).boot = s.boot ∧ (State.abortLayer s w).out = s.out :=
  have h := State.abortLayer_changes s w
  ⟨h.mfg, h.pending, h.areas .tick rfl, h.areas .freeN rfl, h.areas .blobs rfl, h.areas .ctl rfl, h.areas .belt rfl, h.areas .supplies rfl, h.areas .intake rfl, h.areas .pipe rfl, h.areas .tracks rfl, h.areas .eject rfl, h.areas .field rfl, h.areas .memory rfl, h.areas .knots rfl, h.areas .host rfl, h.areas .net rfl, h.areas .faults rfl, h.areas .power rfl, h.areas .perf rfl, h.areas .boot rfl, h.areas .out rfl⟩

@[simp] theorem State.abortLayer_reg (s : State) (w : Work) (k : Nat) : (State.abortLayer s w).reg k = s.reg k :=
  (State.abortLayer_changes s w).entries k (Entries.has_none k)

@[simp] theorem State.failLink_same (s : State) (l cause : Nat) :
    (State.failLink s l cause).mfg = s.mfg ∧ (State.failLink s l cause).pending = s.pending ∧ (State.failLink s l cause).tick = s.tick ∧ (State.failLink s l cause).freeN = s.freeN ∧ (State.failLink s l cause).blobs = s.blobs ∧ (State.failLink s l cause).belt = s.belt ∧ (State.failLink s l cause).supplies = s.supplies ∧ (State.failLink s l cause).pipe = s.pipe ∧ (State.failLink s l cause).engine = s.engine ∧ (State.failLink s l cause).tracks = s.tracks ∧ (State.failLink s l cause).eject = s.eject ∧ (State.failLink s l cause).field = s.field ∧ (State.failLink s l cause).memory = s.memory ∧ (State.failLink s l cause).knots = s.knots ∧ (State.failLink s l cause).host = s.host ∧ (State.failLink s l cause).net = s.net ∧ (State.failLink s l cause).faults = s.faults ∧ (State.failLink s l cause).power = s.power ∧ (State.failLink s l cause).perf = s.perf ∧ (State.failLink s l cause).boot = s.boot ∧ (State.failLink s l cause).out = s.out :=
  have h := State.failLink_changes s l cause
  ⟨h.mfg, h.pending, h.areas .tick rfl, h.areas .freeN rfl, h.areas .blobs rfl, h.areas .belt rfl, h.areas .supplies rfl, h.areas .pipe rfl, h.areas .engine rfl, h.areas .tracks rfl, h.areas .eject rfl, h.areas .field rfl, h.areas .memory rfl, h.areas .knots rfl, h.areas .host rfl, h.areas .net rfl, h.areas .faults rfl, h.areas .power rfl, h.areas .perf rfl, h.areas .boot rfl, h.areas .out rfl⟩

@[simp] theorem State.failLink_reg (s : State) (l cause : Nat) (j : Nat) (h : (Entries.only [0x0405, 0x0407]).has j = false) : (State.failLink s l cause).reg j = s.reg j :=
  (State.failLink_changes s l cause).entries j h

@[simp] theorem State.stopStream_same (s : State) (i : Nat) :
    (State.stopStream s i).mfg = s.mfg ∧ (State.stopStream s i).pending = s.pending ∧ (State.stopStream s i).tick = s.tick ∧ (State.stopStream s i).freeN = s.freeN ∧ (State.stopStream s i).blobs = s.blobs ∧ (State.stopStream s i).ctl = s.ctl ∧ (State.stopStream s i).belt = s.belt ∧ (State.stopStream s i).supplies = s.supplies ∧ (State.stopStream s i).pipe = s.pipe ∧ (State.stopStream s i).engine = s.engine ∧ (State.stopStream s i).tracks = s.tracks ∧ (State.stopStream s i).eject = s.eject ∧ (State.stopStream s i).field = s.field ∧ (State.stopStream s i).memory = s.memory ∧ (State.stopStream s i).knots = s.knots ∧ (State.stopStream s i).host = s.host ∧ (State.stopStream s i).net = s.net ∧ (State.stopStream s i).faults = s.faults ∧ (State.stopStream s i).power = s.power ∧ (State.stopStream s i).perf = s.perf ∧ (State.stopStream s i).boot = s.boot ∧ (State.stopStream s i).out = s.out :=
  have h := State.stopStream_changes s i
  ⟨h.mfg, h.pending, h.areas .tick rfl, h.areas .freeN rfl, h.areas .blobs rfl, h.areas .ctl rfl, h.areas .belt rfl, h.areas .supplies rfl, h.areas .pipe rfl, h.areas .engine rfl, h.areas .tracks rfl, h.areas .eject rfl, h.areas .field rfl, h.areas .memory rfl, h.areas .knots rfl, h.areas .host rfl, h.areas .net rfl, h.areas .faults rfl, h.areas .power rfl, h.areas .perf rfl, h.areas .boot rfl, h.areas .out rfl⟩

@[simp] theorem State.stopStream_reg (s : State) (i : Nat) (j : Nat) (h : (Entries.only [0x0509]).has j = false) : (State.stopStream s i).reg j = s.reg j :=
  (State.stopStream_changes s i).entries j h

@[simp] theorem State.ctlFailed_same (s : State) (l : Nat) (c : CtlCmd) (status : Nat) :
    (State.ctlFailed s l c status).mfg = s.mfg ∧ (State.ctlFailed s l c status).pending = s.pending ∧ (State.ctlFailed s l c status).tick = s.tick ∧ (State.ctlFailed s l c status).freeN = s.freeN ∧ (State.ctlFailed s l c status).blobs = s.blobs ∧ (State.ctlFailed s l c status).belt = s.belt ∧ (State.ctlFailed s l c status).supplies = s.supplies ∧ (State.ctlFailed s l c status).pipe = s.pipe ∧ (State.ctlFailed s l c status).engine = s.engine ∧ (State.ctlFailed s l c status).tracks = s.tracks ∧ (State.ctlFailed s l c status).eject = s.eject ∧ (State.ctlFailed s l c status).field = s.field ∧ (State.ctlFailed s l c status).memory = s.memory ∧ (State.ctlFailed s l c status).knots = s.knots ∧ (State.ctlFailed s l c status).host = s.host ∧ (State.ctlFailed s l c status).net = s.net ∧ (State.ctlFailed s l c status).faults = s.faults ∧ (State.ctlFailed s l c status).power = s.power ∧ (State.ctlFailed s l c status).perf = s.perf ∧ (State.ctlFailed s l c status).boot = s.boot ∧ (State.ctlFailed s l c status).out = s.out :=
  have h := State.ctlFailed_changes s l c status
  ⟨h.mfg, h.pending, h.areas .tick rfl, h.areas .freeN rfl, h.areas .blobs rfl, h.areas .belt rfl, h.areas .supplies rfl, h.areas .pipe rfl, h.areas .engine rfl, h.areas .tracks rfl, h.areas .eject rfl, h.areas .field rfl, h.areas .memory rfl, h.areas .knots rfl, h.areas .host rfl, h.areas .net rfl, h.areas .faults rfl, h.areas .power rfl, h.areas .perf rfl, h.areas .boot rfl, h.areas .out rfl⟩

@[simp] theorem State.ctlFailed_reg (s : State) (l : Nat) (c : CtlCmd) (status : Nat) (j : Nat) (h : (Entries.only [0x0405, 0x0407, 0x0509]).has j = false) : (State.ctlFailed s l c status).reg j = s.reg j :=
  (State.ctlFailed_changes s l c status).entries j h

@[simp] theorem State.ctlResend_same (s : State) (l : Nat) :
    (State.ctlResend s l).mfg = s.mfg ∧ (State.ctlResend s l).pending = s.pending ∧ (State.ctlResend s l).tick = s.tick ∧ (State.ctlResend s l).blobs = s.blobs ∧ (State.ctlResend s l).belt = s.belt ∧ (State.ctlResend s l).supplies = s.supplies ∧ (State.ctlResend s l).pipe = s.pipe ∧ (State.ctlResend s l).engine = s.engine ∧ (State.ctlResend s l).tracks = s.tracks ∧ (State.ctlResend s l).eject = s.eject ∧ (State.ctlResend s l).field = s.field ∧ (State.ctlResend s l).memory = s.memory ∧ (State.ctlResend s l).knots = s.knots ∧ (State.ctlResend s l).host = s.host ∧ (State.ctlResend s l).net = s.net ∧ (State.ctlResend s l).faults = s.faults ∧ (State.ctlResend s l).power = s.power ∧ (State.ctlResend s l).boot = s.boot :=
  have h := State.ctlResend_changes s l
  ⟨h.mfg, h.pending, h.areas .tick rfl, h.areas .blobs rfl, h.areas .belt rfl, h.areas .supplies rfl, h.areas .pipe rfl, h.areas .engine rfl, h.areas .tracks rfl, h.areas .eject rfl, h.areas .field rfl, h.areas .memory rfl, h.areas .knots rfl, h.areas .host rfl, h.areas .net rfl, h.areas .faults rfl, h.areas .power rfl, h.areas .boot rfl⟩

@[simp] theorem State.ctlResend_reg (s : State) (l : Nat) (j : Nat) (h : (Entries.only [0x0405, 0x0407, 0x0509]).has j = false) : (State.ctlResend s l).reg j = s.reg j :=
  (State.ctlResend_changes s l).entries j h

@[simp] theorem State.tryRate_same (s : State) (i r : Nat) :
    (State.tryRate s i r).mfg = s.mfg ∧ (State.tryRate s i r).pending = s.pending ∧ (State.tryRate s i r).tick = s.tick ∧ (State.tryRate s i r).blobs = s.blobs ∧ (State.tryRate s i r).ctl = s.ctl ∧ (State.tryRate s i r).belt = s.belt ∧ (State.tryRate s i r).supplies = s.supplies ∧ (State.tryRate s i r).pipe = s.pipe ∧ (State.tryRate s i r).engine = s.engine ∧ (State.tryRate s i r).tracks = s.tracks ∧ (State.tryRate s i r).eject = s.eject ∧ (State.tryRate s i r).field = s.field ∧ (State.tryRate s i r).memory = s.memory ∧ (State.tryRate s i r).knots = s.knots ∧ (State.tryRate s i r).host = s.host ∧ (State.tryRate s i r).net = s.net ∧ (State.tryRate s i r).faults = s.faults ∧ (State.tryRate s i r).power = s.power ∧ (State.tryRate s i r).boot = s.boot :=
  have h := State.tryRate_changes s i r
  ⟨h.mfg, h.pending, h.areas .tick rfl, h.areas .blobs rfl, h.areas .ctl rfl, h.areas .belt rfl, h.areas .supplies rfl, h.areas .pipe rfl, h.areas .engine rfl, h.areas .tracks rfl, h.areas .eject rfl, h.areas .field rfl, h.areas .memory rfl, h.areas .knots rfl, h.areas .host rfl, h.areas .net rfl, h.areas .faults rfl, h.areas .power rfl, h.areas .boot rfl⟩

@[simp] theorem State.tryRate_reg (s : State) (i r : Nat) (j : Nat) (h : (Entries.only [0x0405, 0x0509]).has j = false) : (State.tryRate s i r).reg j = s.reg j :=
  (State.tryRate_changes s i r).entries j h

@[simp] theorem State.failStream_same (s : State) (i cause : Nat) :
    (State.failStream s i cause).mfg = s.mfg ∧ (State.failStream s i cause).pending = s.pending ∧ (State.failStream s i cause).tick = s.tick ∧ (State.failStream s i cause).freeN = s.freeN ∧ (State.failStream s i cause).blobs = s.blobs ∧ (State.failStream s i cause).belt = s.belt ∧ (State.failStream s i cause).supplies = s.supplies ∧ (State.failStream s i cause).pipe = s.pipe ∧ (State.failStream s i cause).engine = s.engine ∧ (State.failStream s i cause).tracks = s.tracks ∧ (State.failStream s i cause).eject = s.eject ∧ (State.failStream s i cause).field = s.field ∧ (State.failStream s i cause).memory = s.memory ∧ (State.failStream s i cause).knots = s.knots ∧ (State.failStream s i cause).host = s.host ∧ (State.failStream s i cause).net = s.net ∧ (State.failStream s i cause).faults = s.faults ∧ (State.failStream s i cause).power = s.power ∧ (State.failStream s i cause).perf = s.perf ∧ (State.failStream s i cause).boot = s.boot ∧ (State.failStream s i cause).out = s.out :=
  have h := State.failStream_changes s i cause
  ⟨h.mfg, h.pending, h.areas .tick rfl, h.areas .freeN rfl, h.areas .blobs rfl, h.areas .belt rfl, h.areas .supplies rfl, h.areas .pipe rfl, h.areas .engine rfl, h.areas .tracks rfl, h.areas .eject rfl, h.areas .field rfl, h.areas .memory rfl, h.areas .knots rfl, h.areas .host rfl, h.areas .net rfl, h.areas .faults rfl, h.areas .power rfl, h.areas .perf rfl, h.areas .boot rfl, h.areas .out rfl⟩

@[simp] theorem State.failStream_reg (s : State) (i cause : Nat) (j : Nat) (h : (Entries.only [0x0405, 0x0407, 0x0509]).has j = false) : (State.failStream s i cause).reg j = s.reg j :=
  (State.failStream_changes s i cause).entries j h

@[simp] theorem State.intakeRec_same (s : State) (i kind payload : Nat) :
    (State.intakeRec s i kind payload).mfg = s.mfg ∧ (State.intakeRec s i kind payload).pending = s.pending ∧ (State.intakeRec s i kind payload).tick = s.tick ∧ (State.intakeRec s i kind payload).freeN = s.freeN ∧ (State.intakeRec s i kind payload).blobs = s.blobs ∧ (State.intakeRec s i kind payload).ctl = s.ctl ∧ (State.intakeRec s i kind payload).belt = s.belt ∧ (State.intakeRec s i kind payload).supplies = s.supplies ∧ (State.intakeRec s i kind payload).intake = s.intake ∧ (State.intakeRec s i kind payload).pipe = s.pipe ∧ (State.intakeRec s i kind payload).engine = s.engine ∧ (State.intakeRec s i kind payload).tracks = s.tracks ∧ (State.intakeRec s i kind payload).eject = s.eject ∧ (State.intakeRec s i kind payload).field = s.field ∧ (State.intakeRec s i kind payload).memory = s.memory ∧ (State.intakeRec s i kind payload).knots = s.knots ∧ (State.intakeRec s i kind payload).net = s.net ∧ (State.intakeRec s i kind payload).faults = s.faults ∧ (State.intakeRec s i kind payload).power = s.power ∧ (State.intakeRec s i kind payload).boot = s.boot :=
  have h := State.intakeRec_changes s i kind payload
  ⟨h.mfg, h.pending, h.areas .tick rfl, h.areas .freeN rfl, h.areas .blobs rfl, h.areas .ctl rfl, h.areas .belt rfl, h.areas .supplies rfl, h.areas .intake rfl, h.areas .pipe rfl, h.areas .engine rfl, h.areas .tracks rfl, h.areas .eject rfl, h.areas .field rfl, h.areas .memory rfl, h.areas .knots rfl, h.areas .net rfl, h.areas .faults rfl, h.areas .power rfl, h.areas .boot rfl⟩

@[simp] theorem State.intakeRec_reg (s : State) (i kind payload : Nat) (j : Nat) (h : (Entries.only [0x1205, K.recordsUnrouted]).has j = false) : (State.intakeRec s i kind payload).reg j = s.reg j :=
  (State.intakeRec_changes s i kind payload).entries j h

@[simp] theorem State.layerFault_same (s : State) (w : Work) (c code detail : Nat) :
    (State.layerFault s w c code detail).mfg = s.mfg ∧ (State.layerFault s w c code detail).pending = s.pending ∧ (State.layerFault s w c code detail).tick = s.tick ∧ (State.layerFault s w c code detail).blobs = s.blobs ∧ (State.layerFault s w c code detail).ctl = s.ctl ∧ (State.layerFault s w c code detail).belt = s.belt ∧ (State.layerFault s w c code detail).supplies = s.supplies ∧ (State.layerFault s w c code detail).intake = s.intake ∧ (State.layerFault s w c code detail).pipe = s.pipe ∧ (State.layerFault s w c code detail).tracks = s.tracks ∧ (State.layerFault s w c code detail).eject = s.eject ∧ (State.layerFault s w c code detail).field = s.field ∧ (State.layerFault s w c code detail).memory = s.memory ∧ (State.layerFault s w c code detail).knots = s.knots ∧ (State.layerFault s w c code detail).net = s.net ∧ (State.layerFault s w c code detail).power = s.power ∧ (State.layerFault s w c code detail).boot = s.boot :=
  have h := State.layerFault_changes s w c code detail
  ⟨h.mfg, h.pending, h.areas .tick rfl, h.areas .blobs rfl, h.areas .ctl rfl, h.areas .belt rfl, h.areas .supplies rfl, h.areas .intake rfl, h.areas .pipe rfl, h.areas .tracks rfl, h.areas .eject rfl, h.areas .field rfl, h.areas .memory rfl, h.areas .knots rfl, h.areas .net rfl, h.areas .power rfl, h.areas .boot rfl⟩

@[simp] theorem State.layerFault_reg (s : State) (w : Work) (c code detail : Nat) (j : Nat) (h : (Entries.only [0x1205, 0x1402, 0x1703, K.recordsUnrouted, K.faultLogOverwritten, K.faultRecordsSuppressed]).has j = false) : (State.layerFault s w c code detail).reg j = s.reg j :=
  (State.layerFault_changes s w c code detail).entries j h

@[simp] theorem State.startFree_same (s : State) (i : Nat) :
    (State.startFree s i).mfg = s.mfg ∧ (State.startFree s i).pending = s.pending ∧ (State.startFree s i).tick = s.tick ∧ (State.startFree s i).freeN = s.freeN ∧ (State.startFree s i).blobs = s.blobs ∧ (State.startFree s i).belt = s.belt ∧ (State.startFree s i).supplies = s.supplies ∧ (State.startFree s i).pipe = s.pipe ∧ (State.startFree s i).engine = s.engine ∧ (State.startFree s i).tracks = s.tracks ∧ (State.startFree s i).eject = s.eject ∧ (State.startFree s i).field = s.field ∧ (State.startFree s i).memory = s.memory ∧ (State.startFree s i).knots = s.knots ∧ (State.startFree s i).host = s.host ∧ (State.startFree s i).net = s.net ∧ (State.startFree s i).faults = s.faults ∧ (State.startFree s i).power = s.power ∧ (State.startFree s i).perf = s.perf ∧ (State.startFree s i).boot = s.boot ∧ (State.startFree s i).out = s.out :=
  have h := State.startFree_changes s i
  ⟨h.mfg, h.pending, h.areas .tick rfl, h.areas .freeN rfl, h.areas .blobs rfl, h.areas .belt rfl, h.areas .supplies rfl, h.areas .pipe rfl, h.areas .engine rfl, h.areas .tracks rfl, h.areas .eject rfl, h.areas .field rfl, h.areas .memory rfl, h.areas .knots rfl, h.areas .host rfl, h.areas .net rfl, h.areas .faults rfl, h.areas .power rfl, h.areas .perf rfl, h.areas .boot rfl, h.areas .out rfl⟩

@[simp] theorem State.startFree_reg (s : State) (i : Nat) (j : Nat) (h : (Entries.only [0x0405, 0x0406, 0x0407, 0x0509]).has j = false) : (State.startFree s i).reg j = s.reg j :=
  (State.startFree_changes s i).entries j h

@[simp] theorem State.outFault_same (s : State) (o code : Nat) :
    (State.outFault s o code).mfg = s.mfg ∧ (State.outFault s o code).pending = s.pending ∧ (State.outFault s o code).tick = s.tick ∧ (State.outFault s o code).blobs = s.blobs ∧ (State.outFault s o code).ctl = s.ctl ∧ (State.outFault s o code).belt = s.belt ∧ (State.outFault s o code).supplies = s.supplies ∧ (State.outFault s o code).intake = s.intake ∧ (State.outFault s o code).pipe = s.pipe ∧ (State.outFault s o code).engine = s.engine ∧ (State.outFault s o code).tracks = s.tracks ∧ (State.outFault s o code).eject = s.eject ∧ (State.outFault s o code).field = s.field ∧ (State.outFault s o code).memory = s.memory ∧ (State.outFault s o code).knots = s.knots ∧ (State.outFault s o code).net = s.net ∧ (State.outFault s o code).power = s.power ∧ (State.outFault s o code).boot = s.boot :=
  have h := State.outFault_changes s o code
  ⟨h.mfg, h.pending, h.areas .tick rfl, h.areas .blobs rfl, h.areas .ctl rfl, h.areas .belt rfl, h.areas .supplies rfl, h.areas .intake rfl, h.areas .pipe rfl, h.areas .engine rfl, h.areas .tracks rfl, h.areas .eject rfl, h.areas .field rfl, h.areas .memory rfl, h.areas .knots rfl, h.areas .net rfl, h.areas .power rfl, h.areas .boot rfl⟩

@[simp] theorem State.outFault_reg (s : State) (o code : Nat) (j : Nat) (h : (Entries.only [0x0F06, 0x1205, 0x1402, 0x1703, K.recordsUnrouted, K.faultLogOverwritten, K.faultRecordsSuppressed]).has j = false) : (State.outFault s o code).reg j = s.reg j :=
  (State.outFault_changes s o code).entries j h

@[simp] theorem State.overload_same (s : State) (o : Nat) :
    (State.overload s o).mfg = s.mfg ∧ (State.overload s o).pending = s.pending ∧ (State.overload s o).tick = s.tick ∧ (State.overload s o).blobs = s.blobs ∧ (State.overload s o).ctl = s.ctl ∧ (State.overload s o).belt = s.belt ∧ (State.overload s o).supplies = s.supplies ∧ (State.overload s o).intake = s.intake ∧ (State.overload s o).pipe = s.pipe ∧ (State.overload s o).engine = s.engine ∧ (State.overload s o).tracks = s.tracks ∧ (State.overload s o).eject = s.eject ∧ (State.overload s o).memory = s.memory ∧ (State.overload s o).knots = s.knots ∧ (State.overload s o).net = s.net ∧ (State.overload s o).power = s.power ∧ (State.overload s o).boot = s.boot :=
  have h := State.overload_changes s o
  ⟨h.mfg, h.pending, h.areas .tick rfl, h.areas .blobs rfl, h.areas .ctl rfl, h.areas .belt rfl, h.areas .supplies rfl, h.areas .intake rfl, h.areas .pipe rfl, h.areas .engine rfl, h.areas .tracks rfl, h.areas .eject rfl, h.areas .memory rfl, h.areas .knots rfl, h.areas .net rfl, h.areas .power rfl, h.areas .boot rfl⟩

@[simp] theorem State.overload_reg (s : State) (o : Nat) (j : Nat) (h : (Entries.only [0x0F06, 0x1205, 0x1402, 0x1703, K.recordsUnrouted, K.faultLogOverwritten, K.faultRecordsSuppressed]).has j = false) : (State.overload s o).reg j = s.reg j :=
  (State.overload_changes s o).entries j h

@[simp] theorem State.setRegions_same (s : State) (l : List Region) :
    (State.setRegions s l).mfg = s.mfg ∧ (State.setRegions s l).pending = s.pending ∧ (State.setRegions s l).tick = s.tick ∧ (State.setRegions s l).freeN = s.freeN ∧ (State.setRegions s l).blobs = s.blobs ∧ (State.setRegions s l).ctl = s.ctl ∧ (State.setRegions s l).belt = s.belt ∧ (State.setRegions s l).supplies = s.supplies ∧ (State.setRegions s l).intake = s.intake ∧ (State.setRegions s l).pipe = s.pipe ∧ (State.setRegions s l).engine = s.engine ∧ (State.setRegions s l).eject = s.eject ∧ (State.setRegions s l).field = s.field ∧ (State.setRegions s l).memory = s.memory ∧ (State.setRegions s l).knots = s.knots ∧ (State.setRegions s l).host = s.host ∧ (State.setRegions s l).net = s.net ∧ (State.setRegions s l).faults = s.faults ∧ (State.setRegions s l).power = s.power ∧ (State.setRegions s l).perf = s.perf ∧ (State.setRegions s l).boot = s.boot ∧ (State.setRegions s l).out = s.out :=
  have h := State.setRegions_changes s l
  ⟨h.mfg, h.pending, h.areas .tick rfl, h.areas .freeN rfl, h.areas .blobs rfl, h.areas .ctl rfl, h.areas .belt rfl, h.areas .supplies rfl, h.areas .intake rfl, h.areas .pipe rfl, h.areas .engine rfl, h.areas .eject rfl, h.areas .field rfl, h.areas .memory rfl, h.areas .knots rfl, h.areas .host rfl, h.areas .net rfl, h.areas .faults rfl, h.areas .power rfl, h.areas .perf rfl, h.areas .boot rfl, h.areas .out rfl⟩

@[simp] theorem State.setRegions_reg (s : State) (l : List Region) (k : Nat) : (State.setRegions s l).reg k = s.reg k :=
  (State.setRegions_changes s l).entries k (Entries.has_none k)

@[simp] theorem State.ptpIgnored_same (s : State) (p : Nat) :
    (State.ptpIgnored s p).mfg = s.mfg ∧ (State.ptpIgnored s p).pending = s.pending ∧ (State.ptpIgnored s p).tick = s.tick ∧ (State.ptpIgnored s p).freeN = s.freeN ∧ (State.ptpIgnored s p).blobs = s.blobs ∧ (State.ptpIgnored s p).ctl = s.ctl ∧ (State.ptpIgnored s p).belt = s.belt ∧ (State.ptpIgnored s p).supplies = s.supplies ∧ (State.ptpIgnored s p).intake = s.intake ∧ (State.ptpIgnored s p).pipe = s.pipe ∧ (State.ptpIgnored s p).engine = s.engine ∧ (State.ptpIgnored s p).tracks = s.tracks ∧ (State.ptpIgnored s p).eject = s.eject ∧ (State.ptpIgnored s p).field = s.field ∧ (State.ptpIgnored s p).memory = s.memory ∧ (State.ptpIgnored s p).knots = s.knots ∧ (State.ptpIgnored s p).host = s.host ∧ (State.ptpIgnored s p).net = s.net ∧ (State.ptpIgnored s p).faults = s.faults ∧ (State.ptpIgnored s p).power = s.power ∧ (State.ptpIgnored s p).perf = s.perf ∧ (State.ptpIgnored s p).boot = s.boot ∧ (State.ptpIgnored s p).out = s.out :=
  have h := State.ptpIgnored_changes s p
  ⟨h.mfg, h.pending, h.areas .tick rfl, h.areas .freeN rfl, h.areas .blobs rfl, h.areas .ctl rfl, h.areas .belt rfl, h.areas .supplies rfl, h.areas .intake rfl, h.areas .pipe rfl, h.areas .engine rfl, h.areas .tracks rfl, h.areas .eject rfl, h.areas .field rfl, h.areas .memory rfl, h.areas .knots rfl, h.areas .host rfl, h.areas .net rfl, h.areas .faults rfl, h.areas .power rfl, h.areas .perf rfl, h.areas .boot rfl, h.areas .out rfl⟩

@[simp] theorem State.ptpIgnored_reg (s : State) (p : Nat) (j : Nat) (h : (Entries.only [0x1315]).has j = false) : (State.ptpIgnored s p).reg j = s.reg j :=
  (State.ptpIgnored_changes s p).entries j h

@[simp] theorem State.syncDone_same (s : State) (d p : Nat) :
    (State.syncDone s d p).mfg = s.mfg ∧ (State.syncDone s d p).pending = s.pending ∧ (State.syncDone s d p).tick = s.tick ∧ (State.syncDone s d p).blobs = s.blobs ∧ (State.syncDone s d p).ctl = s.ctl ∧ (State.syncDone s d p).belt = s.belt ∧ (State.syncDone s d p).supplies = s.supplies ∧ (State.syncDone s d p).intake = s.intake ∧ (State.syncDone s d p).pipe = s.pipe ∧ (State.syncDone s d p).engine = s.engine ∧ (State.syncDone s d p).tracks = s.tracks ∧ (State.syncDone s d p).eject = s.eject ∧ (State.syncDone s d p).field = s.field ∧ (State.syncDone s d p).memory = s.memory ∧ (State.syncDone s d p).knots = s.knots ∧ (State.syncDone s d p).faults = s.faults ∧ (State.syncDone s d p).power = s.power ∧ (State.syncDone s d p).boot = s.boot :=
  have h := State.syncDone_changes s d p
  ⟨h.mfg, h.pending, h.areas .tick rfl, h.areas .blobs rfl, h.areas .ctl rfl, h.areas .belt rfl, h.areas .supplies rfl, h.areas .intake rfl, h.areas .pipe rfl, h.areas .engine rfl, h.areas .tracks rfl, h.areas .eject rfl, h.areas .field rfl, h.areas .memory rfl, h.areas .knots rfl, h.areas .faults rfl, h.areas .power rfl, h.areas .boot rfl⟩

@[simp] theorem State.syncDone_reg (s : State) (d p : Nat) (j : Nat) (h : (Entries.only [0x1205, 0x1313, K.recordsUnrouted, K.domainSwitches, K.timeSteps, K.timeHoldoverEntries]).has j = false) : (State.syncDone s d p).reg j = s.reg j :=
  (State.syncDone_changes s d p).entries j h

@[simp] theorem State.finishTeardownWork_same (s : State) (c : Nat) :
    (State.finishTeardownWork s c).mfg = s.mfg ∧ (State.finishTeardownWork s c).pending = s.pending ∧ (State.finishTeardownWork s c).tick = s.tick ∧ (State.finishTeardownWork s c).freeN = s.freeN ∧ (State.finishTeardownWork s c).blobs = s.blobs ∧ (State.finishTeardownWork s c).ctl = s.ctl ∧ (State.finishTeardownWork s c).belt = s.belt ∧ (State.finishTeardownWork s c).supplies = s.supplies ∧ (State.finishTeardownWork s c).intake = s.intake ∧ (State.finishTeardownWork s c).pipe = s.pipe ∧ (State.finishTeardownWork s c).tracks = s.tracks ∧ (State.finishTeardownWork s c).eject = s.eject ∧ (State.finishTeardownWork s c).field = s.field ∧ (State.finishTeardownWork s c).memory = s.memory ∧ (State.finishTeardownWork s c).knots = s.knots ∧ (State.finishTeardownWork s c).net = s.net ∧ (State.finishTeardownWork s c).power = s.power ∧ (State.finishTeardownWork s c).boot = s.boot :=
  have h := State.finishTeardownWork_changes s c
  ⟨h.mfg, h.pending, h.areas .tick rfl, h.areas .freeN rfl, h.areas .blobs rfl, h.areas .ctl rfl, h.areas .belt rfl, h.areas .supplies rfl, h.areas .intake rfl, h.areas .pipe rfl, h.areas .tracks rfl, h.areas .eject rfl, h.areas .field rfl, h.areas .memory rfl, h.areas .knots rfl, h.areas .net rfl, h.areas .power rfl, h.areas .boot rfl⟩

@[simp] theorem State.finishTeardownWork_reg (s : State) (c : Nat) (j : Nat) (h : (Entries.only [0x1205, K.commandsCompleted, K.recordsUnrouted]).has j = false) : (State.finishTeardownWork s c).reg j = s.reg j :=
  (State.finishTeardownWork_changes s c).entries j h

@[simp] theorem State.giveScratch_same (t : State) (c : Nat) :
    (State.giveScratch t c).mfg = t.mfg ∧ (State.giveScratch t c).pending = t.pending ∧ (State.giveScratch t c).tick = t.tick ∧ (State.giveScratch t c).freeN = t.freeN ∧ (State.giveScratch t c).blobs = t.blobs ∧ (State.giveScratch t c).ctl = t.ctl ∧ (State.giveScratch t c).belt = t.belt ∧ (State.giveScratch t c).supplies = t.supplies ∧ (State.giveScratch t c).intake = t.intake ∧ (State.giveScratch t c).pipe = t.pipe ∧ (State.giveScratch t c).engine = t.engine ∧ (State.giveScratch t c).tracks = t.tracks ∧ (State.giveScratch t c).eject = t.eject ∧ (State.giveScratch t c).field = t.field ∧ (State.giveScratch t c).knots = t.knots ∧ (State.giveScratch t c).host = t.host ∧ (State.giveScratch t c).net = t.net ∧ (State.giveScratch t c).faults = t.faults ∧ (State.giveScratch t c).power = t.power ∧ (State.giveScratch t c).perf = t.perf ∧ (State.giveScratch t c).boot = t.boot ∧ (State.giveScratch t c).out = t.out :=
  have h := State.giveScratch_changes t c
  ⟨h.mfg, h.pending, h.areas .tick rfl, h.areas .freeN rfl, h.areas .blobs rfl, h.areas .ctl rfl, h.areas .belt rfl, h.areas .supplies rfl, h.areas .intake rfl, h.areas .pipe rfl, h.areas .engine rfl, h.areas .tracks rfl, h.areas .eject rfl, h.areas .field rfl, h.areas .knots rfl, h.areas .host rfl, h.areas .net rfl, h.areas .faults rfl, h.areas .power rfl, h.areas .perf rfl, h.areas .boot rfl, h.areas .out rfl⟩

@[simp] theorem State.giveScratch_reg (t : State) (c : Nat) (k : Nat) : (State.giveScratch t c).reg k = t.reg k :=
  (State.giveScratch_changes t c).entries k (Entries.has_none k)

@[simp] theorem State.vlEcho_same (s : State) (p : Nat) :
    (State.vlEcho s p).mfg = s.mfg ∧ (State.vlEcho s p).pending = s.pending ∧ (State.vlEcho s p).tick = s.tick ∧ (State.vlEcho s p).freeN = s.freeN ∧ (State.vlEcho s p).blobs = s.blobs ∧ (State.vlEcho s p).ctl = s.ctl ∧ (State.vlEcho s p).belt = s.belt ∧ (State.vlEcho s p).supplies = s.supplies ∧ (State.vlEcho s p).intake = s.intake ∧ (State.vlEcho s p).pipe = s.pipe ∧ (State.vlEcho s p).engine = s.engine ∧ (State.vlEcho s p).tracks = s.tracks ∧ (State.vlEcho s p).eject = s.eject ∧ (State.vlEcho s p).memory = s.memory ∧ (State.vlEcho s p).knots = s.knots ∧ (State.vlEcho s p).host = s.host ∧ (State.vlEcho s p).net = s.net ∧ (State.vlEcho s p).faults = s.faults ∧ (State.vlEcho s p).power = s.power ∧ (State.vlEcho s p).perf = s.perf ∧ (State.vlEcho s p).boot = s.boot :=
  have h := State.vlEcho_changes s p
  ⟨h.mfg, h.pending, h.areas .tick rfl, h.areas .freeN rfl, h.areas .blobs rfl, h.areas .ctl rfl, h.areas .belt rfl, h.areas .supplies rfl, h.areas .intake rfl, h.areas .pipe rfl, h.areas .engine rfl, h.areas .tracks rfl, h.areas .eject rfl, h.areas .memory rfl, h.areas .knots rfl, h.areas .host rfl, h.areas .net rfl, h.areas .faults rfl, h.areas .power rfl, h.areas .perf rfl, h.areas .boot rfl⟩

@[simp] theorem State.vlEcho_reg (s : State) (p : Nat) (j : Nat) (h : (Entries.only [0x0F10]).has j = false) : (State.vlEcho s p).reg j = s.reg j :=
  (State.vlEcho_changes s p).entries j h

@[simp] theorem State.vlFail_same (s : State) (p cause : Nat) :
    (State.vlFail s p cause).mfg = s.mfg ∧ (State.vlFail s p cause).pending = s.pending ∧ (State.vlFail s p cause).tick = s.tick ∧ (State.vlFail s p cause).freeN = s.freeN ∧ (State.vlFail s p cause).blobs = s.blobs ∧ (State.vlFail s p cause).ctl = s.ctl ∧ (State.vlFail s p cause).belt = s.belt ∧ (State.vlFail s p cause).supplies = s.supplies ∧ (State.vlFail s p cause).intake = s.intake ∧ (State.vlFail s p cause).pipe = s.pipe ∧ (State.vlFail s p cause).engine = s.engine ∧ (State.vlFail s p cause).tracks = s.tracks ∧ (State.vlFail s p cause).eject = s.eject ∧ (State.vlFail s p cause).memory = s.memory ∧ (State.vlFail s p cause).knots = s.knots ∧ (State.vlFail s p cause).host = s.host ∧ (State.vlFail s p cause).net = s.net ∧ (State.vlFail s p cause).faults = s.faults ∧ (State.vlFail s p cause).power = s.power ∧ (State.vlFail s p cause).perf = s.perf ∧ (State.vlFail s p cause).boot = s.boot ∧ (State.vlFail s p cause).out = s.out :=
  have h := State.vlFail_changes s p cause
  ⟨h.mfg, h.pending, h.areas .tick rfl, h.areas .freeN rfl, h.areas .blobs rfl, h.areas .ctl rfl, h.areas .belt rfl, h.areas .supplies rfl, h.areas .intake rfl, h.areas .pipe rfl, h.areas .engine rfl, h.areas .tracks rfl, h.areas .eject rfl, h.areas .memory rfl, h.areas .knots rfl, h.areas .host rfl, h.areas .net rfl, h.areas .faults rfl, h.areas .power rfl, h.areas .perf rfl, h.areas .boot rfl, h.areas .out rfl⟩

@[simp] theorem State.vlFail_reg (s : State) (p cause : Nat) (j : Nat) (h : (Entries.only [0x0F10, 0x0F11]).has j = false) : (State.vlFail s p cause).reg j = s.reg j :=
  (State.vlFail_changes s p cause).entries j h

@[simp] theorem State.armPass_same (s : State) (p : Nat) :
    (State.armPass s p).mfg = s.mfg ∧ (State.armPass s p).pending = s.pending ∧ (State.armPass s p).tick = s.tick ∧ (State.armPass s p).freeN = s.freeN ∧ (State.armPass s p).blobs = s.blobs ∧ (State.armPass s p).ctl = s.ctl ∧ (State.armPass s p).belt = s.belt ∧ (State.armPass s p).supplies = s.supplies ∧ (State.armPass s p).intake = s.intake ∧ (State.armPass s p).pipe = s.pipe ∧ (State.armPass s p).engine = s.engine ∧ (State.armPass s p).tracks = s.tracks ∧ (State.armPass s p).eject = s.eject ∧ (State.armPass s p).memory = s.memory ∧ (State.armPass s p).knots = s.knots ∧ (State.armPass s p).host = s.host ∧ (State.armPass s p).net = s.net ∧ (State.armPass s p).faults = s.faults ∧ (State.armPass s p).power = s.power ∧ (State.armPass s p).perf = s.perf ∧ (State.armPass s p).boot = s.boot :=
  have h := State.armPass_changes s p
  ⟨h.mfg, h.pending, h.areas .tick rfl, h.areas .freeN rfl, h.areas .blobs rfl, h.areas .ctl rfl, h.areas .belt rfl, h.areas .supplies rfl, h.areas .intake rfl, h.areas .pipe rfl, h.areas .engine rfl, h.areas .tracks rfl, h.areas .eject rfl, h.areas .memory rfl, h.areas .knots rfl, h.areas .host rfl, h.areas .net rfl, h.areas .faults rfl, h.areas .power rfl, h.areas .perf rfl, h.areas .boot rfl⟩

@[simp] theorem State.armPass_reg (s : State) (p : Nat) (j : Nat) (h : (Entries.only [0x0F10]).has j = false) : (State.armPass s p).reg j = s.reg j :=
  (State.armPass_changes s p).entries j h

@[simp] theorem State.vlDiscard_same (s : State) (p : Nat) (f : VlFrame) :
    (State.vlDiscard s p f).mfg = s.mfg ∧ (State.vlDiscard s p f).pending = s.pending ∧ (State.vlDiscard s p f).tick = s.tick ∧ (State.vlDiscard s p f).freeN = s.freeN ∧ (State.vlDiscard s p f).blobs = s.blobs ∧ (State.vlDiscard s p f).ctl = s.ctl ∧ (State.vlDiscard s p f).belt = s.belt ∧ (State.vlDiscard s p f).supplies = s.supplies ∧ (State.vlDiscard s p f).intake = s.intake ∧ (State.vlDiscard s p f).pipe = s.pipe ∧ (State.vlDiscard s p f).engine = s.engine ∧ (State.vlDiscard s p f).tracks = s.tracks ∧ (State.vlDiscard s p f).eject = s.eject ∧ (State.vlDiscard s p f).field = s.field ∧ (State.vlDiscard s p f).memory = s.memory ∧ (State.vlDiscard s p f).knots = s.knots ∧ (State.vlDiscard s p f).host = s.host ∧ (State.vlDiscard s p f).net = s.net ∧ (State.vlDiscard s p f).faults = s.faults ∧ (State.vlDiscard s p f).power = s.power ∧ (State.vlDiscard s p f).perf = s.perf ∧ (State.vlDiscard s p f).boot = s.boot ∧ (State.vlDiscard s p f).out = s.out :=
  have h := State.vlDiscard_changes s p f
  ⟨h.mfg, h.pending, h.areas .tick rfl, h.areas .freeN rfl, h.areas .blobs rfl, h.areas .ctl rfl, h.areas .belt rfl, h.areas .supplies rfl, h.areas .intake rfl, h.areas .pipe rfl, h.areas .engine rfl, h.areas .tracks rfl, h.areas .eject rfl, h.areas .field rfl, h.areas .memory rfl, h.areas .knots rfl, h.areas .host rfl, h.areas .net rfl, h.areas .faults rfl, h.areas .power rfl, h.areas .perf rfl, h.areas .boot rfl, h.areas .out rfl⟩

@[simp] theorem State.vlDiscard_reg (s : State) (p : Nat) (f : VlFrame) (j : Nat) (h : (Entries.only [0x0F18, 0x0F19]).has j = false) : (State.vlDiscard s p f).reg j = s.reg j :=
  (State.vlDiscard_changes s p f).entries j h

@[simp] theorem State.identify_same (s : State) (i : Nat) :
    (State.identify s i).mfg = s.mfg ∧ (State.identify s i).pending = s.pending ∧ (State.identify s i).tick = s.tick ∧ (State.identify s i).blobs = s.blobs ∧ (State.identify s i).belt = s.belt ∧ (State.identify s i).supplies = s.supplies ∧ (State.identify s i).pipe = s.pipe ∧ (State.identify s i).engine = s.engine ∧ (State.identify s i).tracks = s.tracks ∧ (State.identify s i).eject = s.eject ∧ (State.identify s i).field = s.field ∧ (State.identify s i).memory = s.memory ∧ (State.identify s i).knots = s.knots ∧ (State.identify s i).host = s.host ∧ (State.identify s i).net = s.net ∧ (State.identify s i).faults = s.faults ∧ (State.identify s i).power = s.power ∧ (State.identify s i).boot = s.boot :=
  have h := State.identify_changes s i
  ⟨h.mfg, h.pending, h.areas .tick rfl, h.areas .blobs rfl, h.areas .belt rfl, h.areas .supplies rfl, h.areas .pipe rfl, h.areas .engine rfl, h.areas .tracks rfl, h.areas .eject rfl, h.areas .field rfl, h.areas .memory rfl, h.areas .knots rfl, h.areas .host rfl, h.areas .net rfl, h.areas .faults rfl, h.areas .power rfl, h.areas .boot rfl⟩

@[simp] theorem State.identify_reg (s : State) (i : Nat) (j : Nat) (h : (Entries.only [0x0405]).has j = false) : (State.identify s i).reg j = s.reg j :=
  (State.identify_changes s i).entries j h

@[simp] theorem State.rateFailed_same (s : State) (i : Nat) :
    (State.rateFailed s i).mfg = s.mfg ∧ (State.rateFailed s i).pending = s.pending ∧ (State.rateFailed s i).tick = s.tick ∧ (State.rateFailed s i).blobs = s.blobs ∧ (State.rateFailed s i).belt = s.belt ∧ (State.rateFailed s i).supplies = s.supplies ∧ (State.rateFailed s i).pipe = s.pipe ∧ (State.rateFailed s i).engine = s.engine ∧ (State.rateFailed s i).tracks = s.tracks ∧ (State.rateFailed s i).eject = s.eject ∧ (State.rateFailed s i).field = s.field ∧ (State.rateFailed s i).memory = s.memory ∧ (State.rateFailed s i).knots = s.knots ∧ (State.rateFailed s i).host = s.host ∧ (State.rateFailed s i).net = s.net ∧ (State.rateFailed s i).faults = s.faults ∧ (State.rateFailed s i).power = s.power ∧ (State.rateFailed s i).boot = s.boot :=
  have h := State.rateFailed_changes s i
  ⟨h.mfg, h.pending, h.areas .tick rfl, h.areas .blobs rfl, h.areas .belt rfl, h.areas .supplies rfl, h.areas .pipe rfl, h.areas .engine rfl, h.areas .tracks rfl, h.areas .eject rfl, h.areas .field rfl, h.areas .memory rfl, h.areas .knots rfl, h.areas .host rfl, h.areas .net rfl, h.areas .faults rfl, h.areas .power rfl, h.areas .boot rfl⟩

@[simp] theorem State.rateFailed_reg (s : State) (i : Nat) (j : Nat) (h : (Entries.only [0x0405, 0x0407, 0x0509]).has j = false) : (State.rateFailed s i).reg j = s.reg j :=
  (State.rateFailed_changes s i).entries j h

@[simp] theorem State.halve_same (s : State) (x : Int) :
    (State.halve s x).2.mfg = s.mfg ∧ (State.halve s x).2.pending = s.pending ∧ (State.halve s x).2.tick = s.tick ∧ (State.halve s x).2.blobs = s.blobs ∧ (State.halve s x).2.ctl = s.ctl ∧ (State.halve s x).2.belt = s.belt ∧ (State.halve s x).2.supplies = s.supplies ∧ (State.halve s x).2.intake = s.intake ∧ (State.halve s x).2.pipe = s.pipe ∧ (State.halve s x).2.engine = s.engine ∧ (State.halve s x).2.tracks = s.tracks ∧ (State.halve s x).2.eject = s.eject ∧ (State.halve s x).2.field = s.field ∧ (State.halve s x).2.memory = s.memory ∧ (State.halve s x).2.knots = s.knots ∧ (State.halve s x).2.host = s.host ∧ (State.halve s x).2.net = s.net ∧ (State.halve s x).2.faults = s.faults ∧ (State.halve s x).2.power = s.power ∧ (State.halve s x).2.perf = s.perf ∧ (State.halve s x).2.boot = s.boot ∧ (State.halve s x).2.out = s.out :=
  have h := State.halve_changes s x
  ⟨h.mfg, h.pending, h.areas .tick rfl, h.areas .blobs rfl, h.areas .ctl rfl, h.areas .belt rfl, h.areas .supplies rfl, h.areas .intake rfl, h.areas .pipe rfl, h.areas .engine rfl, h.areas .tracks rfl, h.areas .eject rfl, h.areas .field rfl, h.areas .memory rfl, h.areas .knots rfl, h.areas .host rfl, h.areas .net rfl, h.areas .faults rfl, h.areas .power rfl, h.areas .perf rfl, h.areas .boot rfl, h.areas .out rfl⟩

@[simp] theorem State.halve_reg (s : State) (x : Int) (k : Nat) : (State.halve s x).2.reg k = s.reg k :=
  (State.halve_changes s x).entries k (Entries.has_none k)

@[simp] theorem State.linkDelay_same (s : State) (p : Nat) (turn : Int) :
    (State.linkDelay s p turn).mfg = s.mfg ∧ (State.linkDelay s p turn).pending = s.pending ∧ (State.linkDelay s p turn).tick = s.tick ∧ (State.linkDelay s p turn).blobs = s.blobs ∧ (State.linkDelay s p turn).ctl = s.ctl ∧ (State.linkDelay s p turn).belt = s.belt ∧ (State.linkDelay s p turn).supplies = s.supplies ∧ (State.linkDelay s p turn).intake = s.intake ∧ (State.linkDelay s p turn).pipe = s.pipe ∧ (State.linkDelay s p turn).engine = s.engine ∧ (State.linkDelay s p turn).tracks = s.tracks ∧ (State.linkDelay s p turn).eject = s.eject ∧ (State.linkDelay s p turn).field = s.field ∧ (State.linkDelay s p turn).memory = s.memory ∧ (State.linkDelay s p turn).knots = s.knots ∧ (State.linkDelay s p turn).host = s.host ∧ (State.linkDelay s p turn).faults = s.faults ∧ (State.linkDelay s p turn).power = s.power ∧ (State.linkDelay s p turn).perf = s.perf ∧ (State.linkDelay s p turn).boot = s.boot ∧ (State.linkDelay s p turn).out = s.out :=
  have h := State.linkDelay_changes s p turn
  ⟨h.mfg, h.pending, h.areas .tick rfl, h.areas .blobs rfl, h.areas .ctl rfl, h.areas .belt rfl, h.areas .supplies rfl, h.areas .intake rfl, h.areas .pipe rfl, h.areas .engine rfl, h.areas .tracks rfl, h.areas .eject rfl, h.areas .field rfl, h.areas .memory rfl, h.areas .knots rfl, h.areas .host rfl, h.areas .faults rfl, h.areas .power rfl, h.areas .perf rfl, h.areas .boot rfl, h.areas .out rfl⟩

@[simp] theorem State.linkDelay_reg (s : State) (p : Nat) (turn : Int) (k : Nat) : (State.linkDelay s p turn).reg k = s.reg k :=
  (State.linkDelay_changes s p turn).entries k (Entries.has_none k)

@[simp] theorem State.prepareStep_same (s : State) (c : Nat) :
    (State.prepareStep s c).mfg = s.mfg ∧ (State.prepareStep s c).pending = s.pending ∧ (State.prepareStep s c).tick = s.tick ∧ (State.prepareStep s c).freeN = s.freeN ∧ (State.prepareStep s c).blobs = s.blobs ∧ (State.prepareStep s c).ctl = s.ctl ∧ (State.prepareStep s c).belt = s.belt ∧ (State.prepareStep s c).supplies = s.supplies ∧ (State.prepareStep s c).intake = s.intake ∧ (State.prepareStep s c).pipe = s.pipe ∧ (State.prepareStep s c).engine = s.engine ∧ (State.prepareStep s c).tracks = s.tracks ∧ (State.prepareStep s c).eject = s.eject ∧ (State.prepareStep s c).field = s.field ∧ (State.prepareStep s c).memory = s.memory ∧ (State.prepareStep s c).net = s.net ∧ (State.prepareStep s c).faults = s.faults ∧ (State.prepareStep s c).power = s.power ∧ (State.prepareStep s c).boot = s.boot :=
  have h := State.prepareStep_changes s c
  ⟨h.mfg, h.pending, h.areas .tick rfl, h.areas .freeN rfl, h.areas .blobs rfl, h.areas .ctl rfl, h.areas .belt rfl, h.areas .supplies rfl, h.areas .intake rfl, h.areas .pipe rfl, h.areas .engine rfl, h.areas .tracks rfl, h.areas .eject rfl, h.areas .field rfl, h.areas .memory rfl, h.areas .net rfl, h.areas .faults rfl, h.areas .power rfl, h.areas .boot rfl⟩

@[simp] theorem State.prepareStep_reg (s : State) (c : Nat) (j : Nat) (h : (Entries.only [0x1205, K.waitersInUse, K.waitersPeak, K.knotOps, K.frozenRefusals, K.knotOpsRefused, K.recordsUnrouted]).has j = false) : (State.prepareStep s c).reg j = s.reg j :=
  (State.prepareStep_changes s c).entries j h

@[simp] theorem State.sendPtp_same (s : State) (p kind seq : Nat) (t : Int) :
    (State.sendPtp s p kind seq t).mfg = s.mfg ∧ (State.sendPtp s p kind seq t).pending = s.pending ∧ (State.sendPtp s p kind seq t).tick = s.tick ∧ (State.sendPtp s p kind seq t).blobs = s.blobs ∧ (State.sendPtp s p kind seq t).ctl = s.ctl ∧ (State.sendPtp s p kind seq t).belt = s.belt ∧ (State.sendPtp s p kind seq t).supplies = s.supplies ∧ (State.sendPtp s p kind seq t).intake = s.intake ∧ (State.sendPtp s p kind seq t).pipe = s.pipe ∧ (State.sendPtp s p kind seq t).engine = s.engine ∧ (State.sendPtp s p kind seq t).tracks = s.tracks ∧ (State.sendPtp s p kind seq t).eject = s.eject ∧ (State.sendPtp s p kind seq t).field = s.field ∧ (State.sendPtp s p kind seq t).memory = s.memory ∧ (State.sendPtp s p kind seq t).knots = s.knots ∧ (State.sendPtp s p kind seq t).host = s.host ∧ (State.sendPtp s p kind seq t).net = s.net ∧ (State.sendPtp s p kind seq t).faults = s.faults ∧ (State.sendPtp s p kind seq t).power = s.power ∧ (State.sendPtp s p kind seq t).boot = s.boot :=
  have h := State.sendPtp_changes s p kind seq t
  ⟨h.mfg, h.pending, h.areas .tick rfl, h.areas .blobs rfl, h.areas .ctl rfl, h.areas .belt rfl, h.areas .supplies rfl, h.areas .intake rfl, h.areas .pipe rfl, h.areas .engine rfl, h.areas .tracks rfl, h.areas .eject rfl, h.areas .field rfl, h.areas .memory rfl, h.areas .knots rfl, h.areas .host rfl, h.areas .net rfl, h.areas .faults rfl, h.areas .power rfl, h.areas .boot rfl⟩

@[simp] theorem State.sendPtp_reg (s : State) (p kind seq : Nat) (t : Int) (k : Nat) : (State.sendPtp s p kind seq t).reg k = s.reg k :=
  (State.sendPtp_changes s p kind seq t).entries k (Entries.has_none k)

@[simp] theorem State.landWord_same (s : State) :
    (State.landWord s).mfg = s.mfg ∧ (State.landWord s).pending = s.pending ∧ (State.landWord s).tick = s.tick ∧ (State.landWord s).freeN = s.freeN ∧ (State.landWord s).blobs = s.blobs ∧ (State.landWord s).ctl = s.ctl ∧ (State.landWord s).belt = s.belt ∧ (State.landWord s).supplies = s.supplies ∧ (State.landWord s).intake = s.intake ∧ (State.landWord s).pipe = s.pipe ∧ (State.landWord s).engine = s.engine ∧ (State.landWord s).tracks = s.tracks ∧ (State.landWord s).eject = s.eject ∧ (State.landWord s).field = s.field ∧ (State.landWord s).memory = s.memory ∧ (State.landWord s).knots = s.knots ∧ (State.landWord s).host = s.host ∧ (State.landWord s).faults = s.faults ∧ (State.landWord s).power = s.power ∧ (State.landWord s).perf = s.perf ∧ (State.landWord s).boot = s.boot ∧ (State.landWord s).out = s.out :=
  have h := State.landWord_changes s
  ⟨h.mfg, h.pending, h.areas .tick rfl, h.areas .freeN rfl, h.areas .blobs rfl, h.areas .ctl rfl, h.areas .belt rfl, h.areas .supplies rfl, h.areas .intake rfl, h.areas .pipe rfl, h.areas .engine rfl, h.areas .tracks rfl, h.areas .eject rfl, h.areas .field rfl, h.areas .memory rfl, h.areas .knots rfl, h.areas .host rfl, h.areas .faults rfl, h.areas .power rfl, h.areas .perf rfl, h.areas .boot rfl, h.areas .out rfl⟩

@[simp] theorem State.landWord_reg (s : State) (k : Nat) : (State.landWord s).reg k = s.reg k :=
  (State.landWord_changes s).entries k (Entries.has_none k)

@[simp] theorem State.driveEdge_same (s : State) (ch : Nat) (on : Bool) (p : Pulse) (moved : Bool) :
    (State.driveEdge s ch on p moved).2.mfg = s.mfg ∧ (State.driveEdge s ch on p moved).2.pending = s.pending ∧ (State.driveEdge s ch on p moved).2.tick = s.tick ∧ (State.driveEdge s ch on p moved).2.freeN = s.freeN ∧ (State.driveEdge s ch on p moved).2.blobs = s.blobs ∧ (State.driveEdge s ch on p moved).2.ctl = s.ctl ∧ (State.driveEdge s ch on p moved).2.belt = s.belt ∧ (State.driveEdge s ch on p moved).2.supplies = s.supplies ∧ (State.driveEdge s ch on p moved).2.intake = s.intake ∧ (State.driveEdge s ch on p moved).2.pipe = s.pipe ∧ (State.driveEdge s ch on p moved).2.engine = s.engine ∧ (State.driveEdge s ch on p moved).2.tracks = s.tracks ∧ (State.driveEdge s ch on p moved).2.memory = s.memory ∧ (State.driveEdge s ch on p moved).2.knots = s.knots ∧ (State.driveEdge s ch on p moved).2.net = s.net ∧ (State.driveEdge s ch on p moved).2.faults = s.faults ∧ (State.driveEdge s ch on p moved).2.power = s.power ∧ (State.driveEdge s ch on p moved).2.boot = s.boot :=
  have h := State.driveEdge_changes s ch on p moved
  ⟨h.mfg, h.pending, h.areas .tick rfl, h.areas .freeN rfl, h.areas .blobs rfl, h.areas .ctl rfl, h.areas .belt rfl, h.areas .supplies rfl, h.areas .intake rfl, h.areas .pipe rfl, h.areas .engine rfl, h.areas .tracks rfl, h.areas .memory rfl, h.areas .knots rfl, h.areas .net rfl, h.areas .faults rfl, h.areas .power rfl, h.areas .boot rfl⟩

@[simp] theorem State.driveEdge_reg (s : State) (ch : Nat) (on : Bool) (p : Pulse) (moved : Bool) (j : Nat) (h : (Entries.only [0x0F10, 0x1205, K.channelsOn, K.outputNotDriven, K.recordsUnrouted]).has j = false) : (State.driveEdge s ch on p moved).2.reg j = s.reg j :=
  (State.driveEdge_changes s ch on p moved).entries j h

@[simp] theorem State.keepHistory_same (s : State) (st : Stripe) (i S : Nat) (lines : List (List Byte)) :
    (State.keepHistory s st i S lines).mfg = s.mfg ∧ (State.keepHistory s st i S lines).pending = s.pending ∧ (State.keepHistory s st i S lines).tick = s.tick ∧ (State.keepHistory s st i S lines).freeN = s.freeN ∧ (State.keepHistory s st i S lines).blobs = s.blobs ∧ (State.keepHistory s st i S lines).ctl = s.ctl ∧ (State.keepHistory s st i S lines).belt = s.belt ∧ (State.keepHistory s st i S lines).supplies = s.supplies ∧ (State.keepHistory s st i S lines).intake = s.intake ∧ (State.keepHistory s st i S lines).engine = s.engine ∧ (State.keepHistory s st i S lines).tracks = s.tracks ∧ (State.keepHistory s st i S lines).eject = s.eject ∧ (State.keepHistory s st i S lines).field = s.field ∧ (State.keepHistory s st i S lines).memory = s.memory ∧ (State.keepHistory s st i S lines).knots = s.knots ∧ (State.keepHistory s st i S lines).host = s.host ∧ (State.keepHistory s st i S lines).net = s.net ∧ (State.keepHistory s st i S lines).faults = s.faults ∧ (State.keepHistory s st i S lines).power = s.power ∧ (State.keepHistory s st i S lines).perf = s.perf ∧ (State.keepHistory s st i S lines).boot = s.boot ∧ (State.keepHistory s st i S lines).out = s.out :=
  have h := State.keepHistory_changes s st i S lines
  ⟨h.mfg, h.pending, h.areas .tick rfl, h.areas .freeN rfl, h.areas .blobs rfl, h.areas .ctl rfl, h.areas .belt rfl, h.areas .supplies rfl, h.areas .intake rfl, h.areas .engine rfl, h.areas .tracks rfl, h.areas .eject rfl, h.areas .field rfl, h.areas .memory rfl, h.areas .knots rfl, h.areas .host rfl, h.areas .net rfl, h.areas .faults rfl, h.areas .power rfl, h.areas .perf rfl, h.areas .boot rfl, h.areas .out rfl⟩

@[simp] theorem State.keepHistory_reg (s : State) (st : Stripe) (i S : Nat) (lines : List (List Byte)) (k : Nat) : (State.keepHistory s st i S lines).reg k = s.reg k :=
  (State.keepHistory_changes s st i S lines).entries k (Entries.has_none k)

@[simp] theorem State.breakLine_same (s : State) (i : Nat) :
    (State.breakLine s i).mfg = s.mfg ∧ (State.breakLine s i).pending = s.pending ∧ (State.breakLine s i).tick = s.tick ∧ (State.breakLine s i).freeN = s.freeN ∧ (State.breakLine s i).blobs = s.blobs ∧ (State.breakLine s i).ctl = s.ctl ∧ (State.breakLine s i).belt = s.belt ∧ (State.breakLine s i).supplies = s.supplies ∧ (State.breakLine s i).pipe = s.pipe ∧ (State.breakLine s i).engine = s.engine ∧ (State.breakLine s i).tracks = s.tracks ∧ (State.breakLine s i).eject = s.eject ∧ (State.breakLine s i).field = s.field ∧ (State.breakLine s i).memory = s.memory ∧ (State.breakLine s i).knots = s.knots ∧ (State.breakLine s i).host = s.host ∧ (State.breakLine s i).net = s.net ∧ (State.breakLine s i).faults = s.faults ∧ (State.breakLine s i).power = s.power ∧ (State.breakLine s i).perf = s.perf ∧ (State.breakLine s i).boot = s.boot ∧ (State.breakLine s i).out = s.out :=
  have h := State.breakLine_changes s i
  ⟨h.mfg, h.pending, h.areas .tick rfl, h.areas .freeN rfl, h.areas .blobs rfl, h.areas .ctl rfl, h.areas .belt rfl, h.areas .supplies rfl, h.areas .pipe rfl, h.areas .engine rfl, h.areas .tracks rfl, h.areas .eject rfl, h.areas .field rfl, h.areas .memory rfl, h.areas .knots rfl, h.areas .host rfl, h.areas .net rfl, h.areas .faults rfl, h.areas .power rfl, h.areas .perf rfl, h.areas .boot rfl, h.areas .out rfl⟩

@[simp] theorem State.breakLine_reg (s : State) (i : Nat) (j : Nat) (h : (Entries.only [0x0509, 0x050B]).has j = false) : (State.breakLine s i).reg j = s.reg j :=
  (State.breakLine_changes s i).entries j h

@[simp] theorem State.takePacket_same (s : State) (i : Nat) (p : Packet) :
    (State.takePacket s i p).mfg = s.mfg ∧ (State.takePacket s i p).pending = s.pending ∧ (State.takePacket s i p).tick = s.tick ∧ (State.takePacket s i p).blobs = s.blobs ∧ (State.takePacket s i p).ctl = s.ctl ∧ (State.takePacket s i p).belt = s.belt ∧ (State.takePacket s i p).supplies = s.supplies ∧ (State.takePacket s i p).pipe = s.pipe ∧ (State.takePacket s i p).engine = s.engine ∧ (State.takePacket s i p).tracks = s.tracks ∧ (State.takePacket s i p).eject = s.eject ∧ (State.takePacket s i p).field = s.field ∧ (State.takePacket s i p).memory = s.memory ∧ (State.takePacket s i p).knots = s.knots ∧ (State.takePacket s i p).host = s.host ∧ (State.takePacket s i p).net = s.net ∧ (State.takePacket s i p).faults = s.faults ∧ (State.takePacket s i p).power = s.power ∧ (State.takePacket s i p).boot = s.boot :=
  have h := State.takePacket_changes s i p
  ⟨h.mfg, h.pending, h.areas .tick rfl, h.areas .blobs rfl, h.areas .ctl rfl, h.areas .belt rfl, h.areas .supplies rfl, h.areas .pipe rfl, h.areas .engine rfl, h.areas .tracks rfl, h.areas .eject rfl, h.areas .field rfl, h.areas .memory rfl, h.areas .knots rfl, h.areas .host rfl, h.areas .net rfl, h.areas .faults rfl, h.areas .power rfl, h.areas .boot rfl⟩

@[simp] theorem State.takePacket_reg (s : State) (i : Nat) (p : Packet) (j : Nat) (h : (Entries.only [0x0405, 0x040B, 0x040C, 0x0509, 0x050A, 0x050B, 0x050C]).has j = false) : (State.takePacket s i p).reg j = s.reg j :=
  (State.takePacket_changes s i p).entries j h

@[simp] theorem State.sampleLatch_same (s : State) :
    (State.sampleLatch s).mfg = s.mfg ∧ (State.sampleLatch s).pending = s.pending ∧ (State.sampleLatch s).tick = s.tick ∧ (State.sampleLatch s).freeN = s.freeN ∧ (State.sampleLatch s).blobs = s.blobs ∧ (State.sampleLatch s).ctl = s.ctl ∧ (State.sampleLatch s).supplies = s.supplies ∧ (State.sampleLatch s).intake = s.intake ∧ (State.sampleLatch s).pipe = s.pipe ∧ (State.sampleLatch s).engine = s.engine ∧ (State.sampleLatch s).tracks = s.tracks ∧ (State.sampleLatch s).eject = s.eject ∧ (State.sampleLatch s).field = s.field ∧ (State.sampleLatch s).memory = s.memory ∧ (State.sampleLatch s).knots = s.knots ∧ (State.sampleLatch s).host = s.host ∧ (State.sampleLatch s).net = s.net ∧ (State.sampleLatch s).faults = s.faults ∧ (State.sampleLatch s).power = s.power ∧ (State.sampleLatch s).perf = s.perf ∧ (State.sampleLatch s).boot = s.boot ∧ (State.sampleLatch s).out = s.out :=
  have h := State.sampleLatch_changes s
  ⟨h.mfg, h.pending, h.areas .tick rfl, h.areas .freeN rfl, h.areas .blobs rfl, h.areas .ctl rfl, h.areas .supplies rfl, h.areas .intake rfl, h.areas .pipe rfl, h.areas .engine rfl, h.areas .tracks rfl, h.areas .eject rfl, h.areas .field rfl, h.areas .memory rfl, h.areas .knots rfl, h.areas .host rfl, h.areas .net rfl, h.areas .faults rfl, h.areas .power rfl, h.areas .perf rfl, h.areas .boot rfl, h.areas .out rfl⟩

@[simp] theorem State.sampleLatch_reg (s : State) (k : Nat) : (State.sampleLatch s).reg k = s.reg k :=
  (State.sampleLatch_changes s).entries k (Entries.has_none k)

@[simp] theorem State.drainQueue_same (q x1 : Nat) (x2 : State) :
    (State.drainQueue q x1 x2).mfg = x2.mfg ∧ (State.drainQueue q x1 x2).pending = x2.pending ∧ (State.drainQueue q x1 x2).tick = x2.tick ∧ (State.drainQueue q x1 x2).freeN = x2.freeN ∧ (State.drainQueue q x1 x2).blobs = x2.blobs ∧ (State.drainQueue q x1 x2).ctl = x2.ctl ∧ (State.drainQueue q x1 x2).belt = x2.belt ∧ (State.drainQueue q x1 x2).supplies = x2.supplies ∧ (State.drainQueue q x1 x2).intake = x2.intake ∧ (State.drainQueue q x1 x2).pipe = x2.pipe ∧ (State.drainQueue q x1 x2).engine = x2.engine ∧ (State.drainQueue q x1 x2).tracks = x2.tracks ∧ (State.drainQueue q x1 x2).eject = x2.eject ∧ (State.drainQueue q x1 x2).field = x2.field ∧ (State.drainQueue q x1 x2).memory = x2.memory ∧ (State.drainQueue q x1 x2).knots = x2.knots ∧ (State.drainQueue q x1 x2).net = x2.net ∧ (State.drainQueue q x1 x2).faults = x2.faults ∧ (State.drainQueue q x1 x2).power = x2.power ∧ (State.drainQueue q x1 x2).boot = x2.boot :=
  have h := State.drainQueue_changes q x1 x2
  ⟨h.mfg, h.pending, h.areas .tick rfl, h.areas .freeN rfl, h.areas .blobs rfl, h.areas .ctl rfl, h.areas .belt rfl, h.areas .supplies rfl, h.areas .intake rfl, h.areas .pipe rfl, h.areas .engine rfl, h.areas .tracks rfl, h.areas .eject rfl, h.areas .field rfl, h.areas .memory rfl, h.areas .knots rfl, h.areas .net rfl, h.areas .faults rfl, h.areas .power rfl, h.areas .boot rfl⟩

@[simp] theorem State.drainQueue_reg (q x1 : Nat) (x2 : State) (j : Nat) (h : (Entries.only [0x1205, K.recordsUnrouted]).has j = false) : (State.drainQueue q x1 x2).reg j = x2.reg j :=
  (State.drainQueue_changes q x1 x2).entries j h

@[simp] theorem State.releaseBoot_same (s : State) :
    (State.releaseBoot s).mfg = s.mfg ∧ (State.releaseBoot s).pending = s.pending ∧ (State.releaseBoot s).tick = s.tick ∧ (State.releaseBoot s).freeN = s.freeN ∧ (State.releaseBoot s).blobs = s.blobs ∧ (State.releaseBoot s).ctl = s.ctl ∧ (State.releaseBoot s).belt = s.belt ∧ (State.releaseBoot s).supplies = s.supplies ∧ (State.releaseBoot s).intake = s.intake ∧ (State.releaseBoot s).pipe = s.pipe ∧ (State.releaseBoot s).engine = s.engine ∧ (State.releaseBoot s).tracks = s.tracks ∧ (State.releaseBoot s).eject = s.eject ∧ (State.releaseBoot s).field = s.field ∧ (State.releaseBoot s).memory = s.memory ∧ (State.releaseBoot s).knots = s.knots ∧ (State.releaseBoot s).net = s.net ∧ (State.releaseBoot s).faults = s.faults ∧ (State.releaseBoot s).power = s.power ∧ (State.releaseBoot s).boot = s.boot :=
  have h := State.releaseBoot_changes s
  ⟨h.mfg, h.pending, h.areas .tick rfl, h.areas .freeN rfl, h.areas .blobs rfl, h.areas .ctl rfl, h.areas .belt rfl, h.areas .supplies rfl, h.areas .intake rfl, h.areas .pipe rfl, h.areas .engine rfl, h.areas .tracks rfl, h.areas .eject rfl, h.areas .field rfl, h.areas .memory rfl, h.areas .knots rfl, h.areas .net rfl, h.areas .faults rfl, h.areas .power rfl, h.areas .boot rfl⟩

@[simp] theorem State.releaseBoot_reg (s : State) (j : Nat) (h : (Entries.only [0x1205, K.recordsUnrouted]).has j = false) : (State.releaseBoot s).reg j = s.reg j :=
  (State.releaseBoot_changes s).entries j h

@[simp] theorem State.newNumbering_same (s : State) (g : Nat × Nat) :
    (State.newNumbering s g).mfg = s.mfg ∧ (State.newNumbering s g).pending = s.pending ∧ (State.newNumbering s g).tick = s.tick ∧ (State.newNumbering s g).freeN = s.freeN ∧ (State.newNumbering s g).blobs = s.blobs ∧ (State.newNumbering s g).ctl = s.ctl ∧ (State.newNumbering s g).supplies = s.supplies ∧ (State.newNumbering s g).intake = s.intake ∧ (State.newNumbering s g).pipe = s.pipe ∧ (State.newNumbering s g).engine = s.engine ∧ (State.newNumbering s g).tracks = s.tracks ∧ (State.newNumbering s g).eject = s.eject ∧ (State.newNumbering s g).field = s.field ∧ (State.newNumbering s g).memory = s.memory ∧ (State.newNumbering s g).knots = s.knots ∧ (State.newNumbering s g).host = s.host ∧ (State.newNumbering s g).net = s.net ∧ (State.newNumbering s g).faults = s.faults ∧ (State.newNumbering s g).power = s.power ∧ (State.newNumbering s g).perf = s.perf ∧ (State.newNumbering s g).boot = s.boot ∧ (State.newNumbering s g).out = s.out :=
  have h := State.newNumbering_changes s g
  ⟨h.mfg, h.pending, h.areas .tick rfl, h.areas .freeN rfl, h.areas .blobs rfl, h.areas .ctl rfl, h.areas .supplies rfl, h.areas .intake rfl, h.areas .pipe rfl, h.areas .engine rfl, h.areas .tracks rfl, h.areas .eject rfl, h.areas .field rfl, h.areas .memory rfl, h.areas .knots rfl, h.areas .host rfl, h.areas .net rfl, h.areas .faults rfl, h.areas .power rfl, h.areas .perf rfl, h.areas .boot rfl, h.areas .out rfl⟩

@[simp] theorem State.newNumbering_reg (s : State) (g : Nat × Nat) (k : Nat) : (State.newNumbering s g).reg k = s.reg k :=
  (State.newNumbering_changes s g).entries k (Entries.has_none k)

@[simp] theorem State.recomputeLines_same (s : State) :
    (State.recomputeLines s).mfg = s.mfg ∧ (State.recomputeLines s).pending = s.pending ∧ (State.recomputeLines s).tick = s.tick ∧ (State.recomputeLines s).freeN = s.freeN ∧ (State.recomputeLines s).blobs = s.blobs ∧ (State.recomputeLines s).ctl = s.ctl ∧ (State.recomputeLines s).belt = s.belt ∧ (State.recomputeLines s).supplies = s.supplies ∧ (State.recomputeLines s).pipe = s.pipe ∧ (State.recomputeLines s).engine = s.engine ∧ (State.recomputeLines s).tracks = s.tracks ∧ (State.recomputeLines s).eject = s.eject ∧ (State.recomputeLines s).field = s.field ∧ (State.recomputeLines s).memory = s.memory ∧ (State.recomputeLines s).knots = s.knots ∧ (State.recomputeLines s).host = s.host ∧ (State.recomputeLines s).net = s.net ∧ (State.recomputeLines s).faults = s.faults ∧ (State.recomputeLines s).power = s.power ∧ (State.recomputeLines s).perf = s.perf ∧ (State.recomputeLines s).boot = s.boot ∧ (State.recomputeLines s).out = s.out :=
  have h := State.recomputeLines_changes s
  ⟨h.mfg, h.pending, h.areas .tick rfl, h.areas .freeN rfl, h.areas .blobs rfl, h.areas .ctl rfl, h.areas .belt rfl, h.areas .supplies rfl, h.areas .pipe rfl, h.areas .engine rfl, h.areas .tracks rfl, h.areas .eject rfl, h.areas .field rfl, h.areas .memory rfl, h.areas .knots rfl, h.areas .host rfl, h.areas .net rfl, h.areas .faults rfl, h.areas .power rfl, h.areas .perf rfl, h.areas .boot rfl, h.areas .out rfl⟩

@[simp] theorem State.recomputeLines_reg (s : State) (j : Nat) (h : (Entries.only [0x0208, 0x0509]).has j = false) : (State.recomputeLines s).reg j = s.reg j :=
  (State.recomputeLines_changes s).entries j h

@[simp] theorem State.endStripes_same (t : State) :
    (State.endStripes t).mfg = t.mfg ∧ (State.endStripes t).pending = t.pending ∧ (State.endStripes t).tick = t.tick ∧ (State.endStripes t).freeN = t.freeN ∧ (State.endStripes t).blobs = t.blobs ∧ (State.endStripes t).ctl = t.ctl ∧ (State.endStripes t).belt = t.belt ∧ (State.endStripes t).supplies = t.supplies ∧ (State.endStripes t).intake = t.intake ∧ (State.endStripes t).engine = t.engine ∧ (State.endStripes t).tracks = t.tracks ∧ (State.endStripes t).eject = t.eject ∧ (State.endStripes t).field = t.field ∧ (State.endStripes t).memory = t.memory ∧ (State.endStripes t).knots = t.knots ∧ (State.endStripes t).host = t.host ∧ (State.endStripes t).net = t.net ∧ (State.endStripes t).faults = t.faults ∧ (State.endStripes t).power = t.power ∧ (State.endStripes t).perf = t.perf ∧ (State.endStripes t).boot = t.boot ∧ (State.endStripes t).out = t.out :=
  have h := State.endStripes_changes t
  ⟨h.mfg, h.pending, h.areas .tick rfl, h.areas .freeN rfl, h.areas .blobs rfl, h.areas .ctl rfl, h.areas .belt rfl, h.areas .supplies rfl, h.areas .intake rfl, h.areas .engine rfl, h.areas .tracks rfl, h.areas .eject rfl, h.areas .field rfl, h.areas .memory rfl, h.areas .knots rfl, h.areas .host rfl, h.areas .net rfl, h.areas .faults rfl, h.areas .power rfl, h.areas .perf rfl, h.areas .boot rfl, h.areas .out rfl⟩

@[simp] theorem State.endStripes_reg (t : State) (k : Nat) : (State.endStripes t).reg k = t.reg k :=
  (State.endStripes_changes t).entries k (Entries.has_none k)

@[simp] theorem State.setInput_same (s : State) (n : Nat) (x : Input) :
    (State.setInput s n x).mfg = s.mfg ∧ (State.setInput s n x).pending = s.pending ∧ (State.setInput s n x).tick = s.tick ∧ (State.setInput s n x).freeN = s.freeN ∧ (State.setInput s n x).blobs = s.blobs ∧ (State.setInput s n x).ctl = s.ctl ∧ (State.setInput s n x).belt = s.belt ∧ (State.setInput s n x).supplies = s.supplies ∧ (State.setInput s n x).intake = s.intake ∧ (State.setInput s n x).pipe = s.pipe ∧ (State.setInput s n x).engine = s.engine ∧ (State.setInput s n x).tracks = s.tracks ∧ (State.setInput s n x).eject = s.eject ∧ (State.setInput s n x).memory = s.memory ∧ (State.setInput s n x).knots = s.knots ∧ (State.setInput s n x).host = s.host ∧ (State.setInput s n x).net = s.net ∧ (State.setInput s n x).faults = s.faults ∧ (State.setInput s n x).power = s.power ∧ (State.setInput s n x).perf = s.perf ∧ (State.setInput s n x).boot = s.boot ∧ (State.setInput s n x).out = s.out :=
  have h := State.setInput_changes s n x
  ⟨h.mfg, h.pending, h.areas .tick rfl, h.areas .freeN rfl, h.areas .blobs rfl, h.areas .ctl rfl, h.areas .belt rfl, h.areas .supplies rfl, h.areas .intake rfl, h.areas .pipe rfl, h.areas .engine rfl, h.areas .tracks rfl, h.areas .eject rfl, h.areas .memory rfl, h.areas .knots rfl, h.areas .host rfl, h.areas .net rfl, h.areas .faults rfl, h.areas .power rfl, h.areas .perf rfl, h.areas .boot rfl, h.areas .out rfl⟩

@[simp] theorem State.setInput_reg (s : State) (n : Nat) (x : Input) (k : Nat) : (State.setInput s n x).reg k = s.reg k :=
  (State.setInput_changes s n x).entries k (Entries.has_none k)

@[simp] theorem State.testLink_same (s : State) (l : Nat) :
    (State.testLink s l).mfg = s.mfg ∧ (State.testLink s l).pending = s.pending ∧ (State.testLink s l).tick = s.tick ∧ (State.testLink s l).freeN = s.freeN ∧ (State.testLink s l).blobs = s.blobs ∧ (State.testLink s l).belt = s.belt ∧ (State.testLink s l).supplies = s.supplies ∧ (State.testLink s l).pipe = s.pipe ∧ (State.testLink s l).engine = s.engine ∧ (State.testLink s l).tracks = s.tracks ∧ (State.testLink s l).eject = s.eject ∧ (State.testLink s l).field = s.field ∧ (State.testLink s l).memory = s.memory ∧ (State.testLink s l).knots = s.knots ∧ (State.testLink s l).host = s.host ∧ (State.testLink s l).net = s.net ∧ (State.testLink s l).faults = s.faults ∧ (State.testLink s l).power = s.power ∧ (State.testLink s l).perf = s.perf ∧ (State.testLink s l).boot = s.boot ∧ (State.testLink s l).out = s.out :=
  have h := State.testLink_changes s l
  ⟨h.mfg, h.pending, h.areas .tick rfl, h.areas .freeN rfl, h.areas .blobs rfl, h.areas .belt rfl, h.areas .supplies rfl, h.areas .pipe rfl, h.areas .engine rfl, h.areas .tracks rfl, h.areas .eject rfl, h.areas .field rfl, h.areas .memory rfl, h.areas .knots rfl, h.areas .host rfl, h.areas .net rfl, h.areas .faults rfl, h.areas .power rfl, h.areas .perf rfl, h.areas .boot rfl, h.areas .out rfl⟩

@[simp] theorem State.testLink_reg (s : State) (l : Nat) (j : Nat) (h : (Entries.only [0x0405, 0x0406]).has j = false) : (State.testLink s l).reg j = s.reg j :=
  (State.testLink_changes s l).entries j h

@[simp] theorem State.dropAgain_same (t : State) :
    (State.dropAgain t).mfg = t.mfg ∧ (State.dropAgain t).pending = t.pending ∧ (State.dropAgain t).tick = t.tick ∧ (State.dropAgain t).freeN = t.freeN ∧ (State.dropAgain t).blobs = t.blobs ∧ (State.dropAgain t).ctl = t.ctl ∧ (State.dropAgain t).belt = t.belt ∧ (State.dropAgain t).supplies = t.supplies ∧ (State.dropAgain t).intake = t.intake ∧ (State.dropAgain t).engine = t.engine ∧ (State.dropAgain t).tracks = t.tracks ∧ (State.dropAgain t).eject = t.eject ∧ (State.dropAgain t).field = t.field ∧ (State.dropAgain t).memory = t.memory ∧ (State.dropAgain t).knots = t.knots ∧ (State.dropAgain t).host = t.host ∧ (State.dropAgain t).net = t.net ∧ (State.dropAgain t).faults = t.faults ∧ (State.dropAgain t).power = t.power ∧ (State.dropAgain t).perf = t.perf ∧ (State.dropAgain t).boot = t.boot ∧ (State.dropAgain t).out = t.out :=
  have h := State.dropAgain_changes t
  ⟨h.mfg, h.pending, h.areas .tick rfl, h.areas .freeN rfl, h.areas .blobs rfl, h.areas .ctl rfl, h.areas .belt rfl, h.areas .supplies rfl, h.areas .intake rfl, h.areas .engine rfl, h.areas .tracks rfl, h.areas .eject rfl, h.areas .field rfl, h.areas .memory rfl, h.areas .knots rfl, h.areas .host rfl, h.areas .net rfl, h.areas .faults rfl, h.areas .power rfl, h.areas .perf rfl, h.areas .boot rfl, h.areas .out rfl⟩

@[simp] theorem State.dropAgain_reg (t : State) (k : Nat) : (State.dropAgain t).reg k = t.reg k :=
  (State.dropAgain_changes t).entries k (Entries.has_none k)

@[simp] theorem State.keepScales_same (s : State) :
    (State.keepScales s).mfg = s.mfg ∧ (State.keepScales s).pending = s.pending ∧ (State.keepScales s).tick = s.tick ∧ (State.keepScales s).freeN = s.freeN ∧ (State.keepScales s).blobs = s.blobs ∧ (State.keepScales s).ctl = s.ctl ∧ (State.keepScales s).belt = s.belt ∧ (State.keepScales s).supplies = s.supplies ∧ (State.keepScales s).intake = s.intake ∧ (State.keepScales s).pipe = s.pipe ∧ (State.keepScales s).tracks = s.tracks ∧ (State.keepScales s).eject = s.eject ∧ (State.keepScales s).field = s.field ∧ (State.keepScales s).memory = s.memory ∧ (State.keepScales s).knots = s.knots ∧ (State.keepScales s).host = s.host ∧ (State.keepScales s).net = s.net ∧ (State.keepScales s).faults = s.faults ∧ (State.keepScales s).power = s.power ∧ (State.keepScales s).perf = s.perf ∧ (State.keepScales s).boot = s.boot ∧ (State.keepScales s).out = s.out :=
  have h := State.keepScales_changes s
  ⟨h.mfg, h.pending, h.areas .tick rfl, h.areas .freeN rfl, h.areas .blobs rfl, h.areas .ctl rfl, h.areas .belt rfl, h.areas .supplies rfl, h.areas .intake rfl, h.areas .pipe rfl, h.areas .tracks rfl, h.areas .eject rfl, h.areas .field rfl, h.areas .memory rfl, h.areas .knots rfl, h.areas .host rfl, h.areas .net rfl, h.areas .faults rfl, h.areas .power rfl, h.areas .perf rfl, h.areas .boot rfl, h.areas .out rfl⟩

@[simp] theorem State.keepScales_reg (s : State) (k : Nat) : (State.keepScales s).reg k = s.reg k :=
  (State.keepScales_changes s).entries k (Entries.has_none k)

@[simp] theorem State.reviewPlans_same (s : State) :
    (State.reviewPlans s).mfg = s.mfg ∧ (State.reviewPlans s).pending = s.pending ∧ (State.reviewPlans s).tick = s.tick ∧ (State.reviewPlans s).freeN = s.freeN ∧ (State.reviewPlans s).blobs = s.blobs ∧ (State.reviewPlans s).ctl = s.ctl ∧ (State.reviewPlans s).belt = s.belt ∧ (State.reviewPlans s).supplies = s.supplies ∧ (State.reviewPlans s).intake = s.intake ∧ (State.reviewPlans s).pipe = s.pipe ∧ (State.reviewPlans s).engine = s.engine ∧ (State.reviewPlans s).tracks = s.tracks ∧ (State.reviewPlans s).eject = s.eject ∧ (State.reviewPlans s).field = s.field ∧ (State.reviewPlans s).memory = s.memory ∧ (State.reviewPlans s).knots = s.knots ∧ (State.reviewPlans s).net = s.net ∧ (State.reviewPlans s).faults = s.faults ∧ (State.reviewPlans s).power = s.power ∧ (State.reviewPlans s).boot = s.boot :=
  have h := State.reviewPlans_changes s
  ⟨h.mfg, h.pending, h.areas .tick rfl, h.areas .freeN rfl, h.areas .blobs rfl, h.areas .ctl rfl, h.areas .belt rfl, h.areas .supplies rfl, h.areas .intake rfl, h.areas .pipe rfl, h.areas .engine rfl, h.areas .tracks rfl, h.areas .eject rfl, h.areas .field rfl, h.areas .memory rfl, h.areas .knots rfl, h.areas .net rfl, h.areas .faults rfl, h.areas .power rfl, h.areas .boot rfl⟩

@[simp] theorem State.reviewPlans_reg (s : State) (j : Nat) (h : (Entries.only [0x1205, K.periodBudget, K.slackCycles, K.decisionLatencyBound, K.decisionLatencyBoundUs, K.predictedComputePower, K.deadlineAtRisk, K.powerAtRisk, K.recordsUnrouted]).has j = false) : (State.reviewPlans s).reg j = s.reg j :=
  (State.reviewPlans_changes s).entries j h

@[simp] theorem State.commitOver_same (s : State) (st : Nat) :
    (State.commitOver s st).mfg = s.mfg ∧ (State.commitOver s st).pending = s.pending ∧ (State.commitOver s st).tick = s.tick ∧ (State.commitOver s st).freeN = s.freeN ∧ (State.commitOver s st).blobs = s.blobs ∧ (State.commitOver s st).belt = s.belt ∧ (State.commitOver s st).supplies = s.supplies ∧ (State.commitOver s st).intake = s.intake ∧ (State.commitOver s st).pipe = s.pipe ∧ (State.commitOver s st).engine = s.engine ∧ (State.commitOver s st).tracks = s.tracks ∧ (State.commitOver s st).eject = s.eject ∧ (State.commitOver s st).field = s.field ∧ (State.commitOver s st).memory = s.memory ∧ (State.commitOver s st).knots = s.knots ∧ (State.commitOver s st).host = s.host ∧ (State.commitOver s st).net = s.net ∧ (State.commitOver s st).faults = s.faults ∧ (State.commitOver s st).perf = s.perf ∧ (State.commitOver s st).boot = s.boot ∧ (State.commitOver s st).out = s.out :=
  have h := State.commitOver_changes s st
  ⟨h.mfg, h.pending, h.areas .tick rfl, h.areas .freeN rfl, h.areas .blobs rfl, h.areas .belt rfl, h.areas .supplies rfl, h.areas .intake rfl, h.areas .pipe rfl, h.areas .engine rfl, h.areas .tracks rfl, h.areas .eject rfl, h.areas .field rfl, h.areas .memory rfl, h.areas .knots rfl, h.areas .host rfl, h.areas .net rfl, h.areas .faults rfl, h.areas .perf rfl, h.areas .boot rfl, h.areas .out rfl⟩

@[simp] theorem State.commitOver_reg (s : State) (st : Nat) (k : Nat) : (State.commitOver s st).reg k = s.reg k :=
  (State.commitOver_changes s st).entries k (Entries.has_none k)

@[simp] theorem State.settleFreeze_same (s : State) (d : Nat) :
    (State.settleFreeze s d).mfg = s.mfg ∧ (State.settleFreeze s d).pending = s.pending ∧ (State.settleFreeze s d).tick = s.tick ∧ (State.settleFreeze s d).freeN = s.freeN ∧ (State.settleFreeze s d).blobs = s.blobs ∧ (State.settleFreeze s d).ctl = s.ctl ∧ (State.settleFreeze s d).belt = s.belt ∧ (State.settleFreeze s d).supplies = s.supplies ∧ (State.settleFreeze s d).intake = s.intake ∧ (State.settleFreeze s d).pipe = s.pipe ∧ (State.settleFreeze s d).tracks = s.tracks ∧ (State.settleFreeze s d).eject = s.eject ∧ (State.settleFreeze s d).field = s.field ∧ (State.settleFreeze s d).memory = s.memory ∧ (State.settleFreeze s d).knots = s.knots ∧ (State.settleFreeze s d).net = s.net ∧ (State.settleFreeze s d).power = s.power ∧ (State.settleFreeze s d).boot = s.boot :=
  have h := State.settleFreeze_changes s d
  ⟨h.mfg, h.pending, h.areas .tick rfl, h.areas .freeN rfl, h.areas .blobs rfl, h.areas .ctl rfl, h.areas .belt rfl, h.areas .supplies rfl, h.areas .intake rfl, h.areas .pipe rfl, h.areas .tracks rfl, h.areas .eject rfl, h.areas .field rfl, h.areas .memory rfl, h.areas .knots rfl, h.areas .net rfl, h.areas .power rfl, h.areas .boot rfl⟩

@[simp] theorem State.settleFreeze_reg (s : State) (d : Nat) (j : Nat) (h : (Entries.only [0x0804, 0x1205, K.recordsUnrouted]).has j = false) : (State.settleFreeze s d).reg j = s.reg j :=
  (State.settleFreeze_changes s d).entries j h

@[simp] theorem State.sendDown_same (s : State) (l op addr count : Nat) (data : (List (List Byte))) (replay : (Option Nat)) (reserved : Bool) :
    (State.sendDown s l op addr count data replay reserved).mfg = s.mfg ∧ (State.sendDown s l op addr count data replay reserved).pending = s.pending ∧ (State.sendDown s l op addr count data replay reserved).tick = s.tick ∧ (State.sendDown s l op addr count data replay reserved).freeN = s.freeN ∧ (State.sendDown s l op addr count data replay reserved).blobs = s.blobs ∧ (State.sendDown s l op addr count data replay reserved).ctl = s.ctl ∧ (State.sendDown s l op addr count data replay reserved).belt = s.belt ∧ (State.sendDown s l op addr count data replay reserved).supplies = s.supplies ∧ (State.sendDown s l op addr count data replay reserved).intake = s.intake ∧ (State.sendDown s l op addr count data replay reserved).pipe = s.pipe ∧ (State.sendDown s l op addr count data replay reserved).engine = s.engine ∧ (State.sendDown s l op addr count data replay reserved).tracks = s.tracks ∧ (State.sendDown s l op addr count data replay reserved).eject = s.eject ∧ (State.sendDown s l op addr count data replay reserved).field = s.field ∧ (State.sendDown s l op addr count data replay reserved).knots = s.knots ∧ (State.sendDown s l op addr count data replay reserved).host = s.host ∧ (State.sendDown s l op addr count data replay reserved).net = s.net ∧ (State.sendDown s l op addr count data replay reserved).faults = s.faults ∧ (State.sendDown s l op addr count data replay reserved).power = s.power ∧ (State.sendDown s l op addr count data replay reserved).boot = s.boot :=
  have h := State.sendDown_changes s l op addr count data replay reserved
  ⟨h.mfg, h.pending, h.areas .tick rfl, h.areas .freeN rfl, h.areas .blobs rfl, h.areas .ctl rfl, h.areas .belt rfl, h.areas .supplies rfl, h.areas .intake rfl, h.areas .pipe rfl, h.areas .engine rfl, h.areas .tracks rfl, h.areas .eject rfl, h.areas .field rfl, h.areas .knots rfl, h.areas .host rfl, h.areas .net rfl, h.areas .faults rfl, h.areas .power rfl, h.areas .boot rfl⟩

@[simp] theorem State.sendDown_reg (s : State) (l op addr count : Nat) (data : (List (List Byte))) (replay : (Option Nat)) (reserved : Bool) (k : Nat) : (State.sendDown s l op addr count data replay reserved).reg k = s.reg k :=
  (State.sendDown_changes s l op addr count data replay reserved).entries k (Entries.has_none k)

@[simp] theorem State.noteTraining_same (s : State) (most : Nat) :
    (State.noteTraining s most).mfg = s.mfg ∧ (State.noteTraining s most).pending = s.pending ∧ (State.noteTraining s most).tick = s.tick ∧ (State.noteTraining s most).blobs = s.blobs ∧ (State.noteTraining s most).ctl = s.ctl ∧ (State.noteTraining s most).belt = s.belt ∧ (State.noteTraining s most).supplies = s.supplies ∧ (State.noteTraining s most).intake = s.intake ∧ (State.noteTraining s most).pipe = s.pipe ∧ (State.noteTraining s most).engine = s.engine ∧ (State.noteTraining s most).tracks = s.tracks ∧ (State.noteTraining s most).eject = s.eject ∧ (State.noteTraining s most).field = s.field ∧ (State.noteTraining s most).memory = s.memory ∧ (State.noteTraining s most).knots = s.knots ∧ (State.noteTraining s most).host = s.host ∧ (State.noteTraining s most).net = s.net ∧ (State.noteTraining s most).faults = s.faults ∧ (State.noteTraining s most).power = s.power ∧ (State.noteTraining s most).perf = s.perf ∧ (State.noteTraining s most).boot = s.boot ∧ (State.noteTraining s most).out = s.out :=
  have h := State.noteTraining_changes s most
  ⟨h.mfg, h.pending, h.areas .tick rfl, h.areas .blobs rfl, h.areas .ctl rfl, h.areas .belt rfl, h.areas .supplies rfl, h.areas .intake rfl, h.areas .pipe rfl, h.areas .engine rfl, h.areas .tracks rfl, h.areas .eject rfl, h.areas .field rfl, h.areas .memory rfl, h.areas .knots rfl, h.areas .host rfl, h.areas .net rfl, h.areas .faults rfl, h.areas .power rfl, h.areas .perf rfl, h.areas .boot rfl, h.areas .out rfl⟩

@[simp] theorem State.noteTraining_reg (s : State) (most : Nat) (j : Nat) (h : (Entries.only [K.lastTrainingTime]).has j = false) : (State.noteTraining s most).reg j = s.reg j :=
  (State.noteTraining_changes s most).entries j h

@[simp] theorem State.settleRefs_same (s : State) :
    (State.settleRefs s).mfg = s.mfg ∧ (State.settleRefs s).pending = s.pending ∧ (State.settleRefs s).tick = s.tick ∧ (State.settleRefs s).freeN = s.freeN ∧ (State.settleRefs s).blobs = s.blobs ∧ (State.settleRefs s).ctl = s.ctl ∧ (State.settleRefs s).belt = s.belt ∧ (State.settleRefs s).supplies = s.supplies ∧ (State.settleRefs s).intake = s.intake ∧ (State.settleRefs s).pipe = s.pipe ∧ (State.settleRefs s).engine = s.engine ∧ (State.settleRefs s).tracks = s.tracks ∧ (State.settleRefs s).field = s.field ∧ (State.settleRefs s).memory = s.memory ∧ (State.settleRefs s).knots = s.knots ∧ (State.settleRefs s).host = s.host ∧ (State.settleRefs s).net = s.net ∧ (State.settleRefs s).faults = s.faults ∧ (State.settleRefs s).power = s.power ∧ (State.settleRefs s).perf = s.perf ∧ (State.settleRefs s).boot = s.boot ∧ (State.settleRefs s).out = s.out :=
  have h := State.settleRefs_changes s
  ⟨h.mfg, h.pending, h.areas .tick rfl, h.areas .freeN rfl, h.areas .blobs rfl, h.areas .ctl rfl, h.areas .belt rfl, h.areas .supplies rfl, h.areas .intake rfl, h.areas .pipe rfl, h.areas .engine rfl, h.areas .tracks rfl, h.areas .field rfl, h.areas .memory rfl, h.areas .knots rfl, h.areas .host rfl, h.areas .net rfl, h.areas .faults rfl, h.areas .power rfl, h.areas .perf rfl, h.areas .boot rfl, h.areas .out rfl⟩

@[simp] theorem State.settleRefs_reg (s : State) (j : Nat) (h : (Entries.only [K.fireEdgesMeasured, K.fireEdgesOutside, K.fireErrorMin, K.fireErrorMax]).has j = false) : (State.settleRefs s).reg j = s.reg j :=
  (State.settleRefs_changes s).entries j h

@[simp] theorem State.writeSample_same (s : State) (d : Nat) :
    (State.writeSample s d).mfg = s.mfg ∧ (State.writeSample s d).pending = s.pending ∧ (State.writeSample s d).tick = s.tick ∧ (State.writeSample s d).freeN = s.freeN ∧ (State.writeSample s d).blobs = s.blobs ∧ (State.writeSample s d).ctl = s.ctl ∧ (State.writeSample s d).belt = s.belt ∧ (State.writeSample s d).supplies = s.supplies ∧ (State.writeSample s d).intake = s.intake ∧ (State.writeSample s d).pipe = s.pipe ∧ (State.writeSample s d).engine = s.engine ∧ (State.writeSample s d).tracks = s.tracks ∧ (State.writeSample s d).eject = s.eject ∧ (State.writeSample s d).field = s.field ∧ (State.writeSample s d).memory = s.memory ∧ (State.writeSample s d).knots = s.knots ∧ (State.writeSample s d).net = s.net ∧ (State.writeSample s d).power = s.power ∧ (State.writeSample s d).boot = s.boot :=
  have h := State.writeSample_changes s d
  ⟨h.mfg, h.pending, h.areas .tick rfl, h.areas .freeN rfl, h.areas .blobs rfl, h.areas .ctl rfl, h.areas .belt rfl, h.areas .supplies rfl, h.areas .intake rfl, h.areas .pipe rfl, h.areas .engine rfl, h.areas .tracks rfl, h.areas .eject rfl, h.areas .field rfl, h.areas .memory rfl, h.areas .knots rfl, h.areas .net rfl, h.areas .power rfl, h.areas .boot rfl⟩

@[simp] theorem State.writeSample_reg (s : State) (d : Nat) (j : Nat) (h : (Entries.only [0x1205, 0x1703, K.recordsUnrouted, K.faultLogOverwritten, K.samplesTaken]).has j = false) : (State.writeSample s d).reg j = s.reg j :=
  (State.writeSample_changes s d).entries j h

@[simp] theorem State.formIbp_same (s : State) :
    (State.formIbp s).mfg = s.mfg ∧ (State.formIbp s).pending = s.pending ∧ (State.formIbp s).tick = s.tick ∧ (State.formIbp s).freeN = s.freeN ∧ (State.formIbp s).blobs = s.blobs ∧ (State.formIbp s).ctl = s.ctl ∧ (State.formIbp s).supplies = s.supplies ∧ (State.formIbp s).intake = s.intake ∧ (State.formIbp s).pipe = s.pipe ∧ (State.formIbp s).engine = s.engine ∧ (State.formIbp s).tracks = s.tracks ∧ (State.formIbp s).eject = s.eject ∧ (State.formIbp s).field = s.field ∧ (State.formIbp s).memory = s.memory ∧ (State.formIbp s).knots = s.knots ∧ (State.formIbp s).host = s.host ∧ (State.formIbp s).net = s.net ∧ (State.formIbp s).faults = s.faults ∧ (State.formIbp s).power = s.power ∧ (State.formIbp s).perf = s.perf ∧ (State.formIbp s).boot = s.boot ∧ (State.formIbp s).out = s.out :=
  have h := State.formIbp_changes s
  ⟨h.mfg, h.pending, h.areas .tick rfl, h.areas .freeN rfl, h.areas .blobs rfl, h.areas .ctl rfl, h.areas .supplies rfl, h.areas .intake rfl, h.areas .pipe rfl, h.areas .engine rfl, h.areas .tracks rfl, h.areas .eject rfl, h.areas .field rfl, h.areas .memory rfl, h.areas .knots rfl, h.areas .host rfl, h.areas .net rfl, h.areas .faults rfl, h.areas .power rfl, h.areas .perf rfl, h.areas .boot rfl, h.areas .out rfl⟩

@[simp] theorem State.formIbp_reg (s : State) (k : Nat) : (State.formIbp s).reg k = s.reg k :=
  (State.formIbp_changes s).entries k (Entries.has_none k)

@[simp] theorem State.beginTo_same (s : State) (j : Nat) :
    (State.beginTo s j).mfg = s.mfg ∧ (State.beginTo s j).pending = s.pending ∧ (State.beginTo s j).tick = s.tick ∧ (State.beginTo s j).freeN = s.freeN ∧ (State.beginTo s j).blobs = s.blobs ∧ (State.beginTo s j).ctl = s.ctl ∧ (State.beginTo s j).supplies = s.supplies ∧ (State.beginTo s j).intake = s.intake ∧ (State.beginTo s j).engine = s.engine ∧ (State.beginTo s j).eject = s.eject ∧ (State.beginTo s j).field = s.field ∧ (State.beginTo s j).memory = s.memory ∧ (State.beginTo s j).knots = s.knots ∧ (State.beginTo s j).host = s.host ∧ (State.beginTo s j).net = s.net ∧ (State.beginTo s j).power = s.power ∧ (State.beginTo s j).perf = s.perf ∧ (State.beginTo s j).boot = s.boot ∧ (State.beginTo s j).out = s.out :=
  have h := State.beginTo_changes s j
  ⟨h.mfg, h.pending, h.areas .tick rfl, h.areas .freeN rfl, h.areas .blobs rfl, h.areas .ctl rfl, h.areas .supplies rfl, h.areas .intake rfl, h.areas .engine rfl, h.areas .eject rfl, h.areas .field rfl, h.areas .memory rfl, h.areas .knots rfl, h.areas .host rfl, h.areas .net rfl, h.areas .power rfl, h.areas .perf rfl, h.areas .boot rfl, h.areas .out rfl⟩

@[simp] theorem State.beginTo_reg (s : State) (j : Nat) (j : Nat) (h : (Entries.only [K.fallbackOrigin]).has j = false) : (State.beginTo s j).reg j = s.reg j :=
  (State.beginTo_changes s j).entries j h

@[simp] theorem State.startGrid_same (s : State) (k cyc : Nat) :
    (State.startGrid s k cyc).mfg = s.mfg ∧ (State.startGrid s k cyc).pending = s.pending ∧ (State.startGrid s k cyc).tick = s.tick ∧ (State.startGrid s k cyc).freeN = s.freeN ∧ (State.startGrid s k cyc).blobs = s.blobs ∧ (State.startGrid s k cyc).ctl = s.ctl ∧ (State.startGrid s k cyc).belt = s.belt ∧ (State.startGrid s k cyc).supplies = s.supplies ∧ (State.startGrid s k cyc).intake = s.intake ∧ (State.startGrid s k cyc).pipe = s.pipe ∧ (State.startGrid s k cyc).engine = s.engine ∧ (State.startGrid s k cyc).tracks = s.tracks ∧ (State.startGrid s k cyc).eject = s.eject ∧ (State.startGrid s k cyc).field = s.field ∧ (State.startGrid s k cyc).knots = s.knots ∧ (State.startGrid s k cyc).host = s.host ∧ (State.startGrid s k cyc).net = s.net ∧ (State.startGrid s k cyc).faults = s.faults ∧ (State.startGrid s k cyc).power = s.power ∧ (State.startGrid s k cyc).perf = s.perf ∧ (State.startGrid s k cyc).boot = s.boot ∧ (State.startGrid s k cyc).out = s.out :=
  have h := State.startGrid_changes s k cyc
  ⟨h.mfg, h.pending, h.areas .tick rfl, h.areas .freeN rfl, h.areas .blobs rfl, h.areas .ctl rfl, h.areas .belt rfl, h.areas .supplies rfl, h.areas .intake rfl, h.areas .pipe rfl, h.areas .engine rfl, h.areas .tracks rfl, h.areas .eject rfl, h.areas .field rfl, h.areas .knots rfl, h.areas .host rfl, h.areas .net rfl, h.areas .faults rfl, h.areas .power rfl, h.areas .perf rfl, h.areas .boot rfl, h.areas .out rfl⟩

@[simp] theorem State.startGrid_reg (s : State) (k cyc : Nat) (j : Nat) : (State.startGrid s k cyc).reg j = s.reg j :=
  (State.startGrid_changes s k cyc).entries j (Entries.has_none j)

@[simp] theorem State.vlLose_same (s : State) (p : Nat) :
    (State.vlLose s p).mfg = s.mfg ∧ (State.vlLose s p).pending = s.pending ∧ (State.vlLose s p).tick = s.tick ∧ (State.vlLose s p).blobs = s.blobs ∧ (State.vlLose s p).ctl = s.ctl ∧ (State.vlLose s p).belt = s.belt ∧ (State.vlLose s p).supplies = s.supplies ∧ (State.vlLose s p).intake = s.intake ∧ (State.vlLose s p).pipe = s.pipe ∧ (State.vlLose s p).engine = s.engine ∧ (State.vlLose s p).tracks = s.tracks ∧ (State.vlLose s p).eject = s.eject ∧ (State.vlLose s p).memory = s.memory ∧ (State.vlLose s p).knots = s.knots ∧ (State.vlLose s p).net = s.net ∧ (State.vlLose s p).power = s.power ∧ (State.vlLose s p).boot = s.boot :=
  have h := State.vlLose_changes s p
  ⟨h.mfg, h.pending, h.areas .tick rfl, h.areas .blobs rfl, h.areas .ctl rfl, h.areas .belt rfl, h.areas .supplies rfl, h.areas .intake rfl, h.areas .pipe rfl, h.areas .engine rfl, h.areas .tracks rfl, h.areas .eject rfl, h.areas .memory rfl, h.areas .knots rfl, h.areas .net rfl, h.areas .power rfl, h.areas .boot rfl⟩

@[simp] theorem State.vlLose_reg (s : State) (p : Nat) (j : Nat) (h : (Entries.only [0x0F10, 0x0F1A, 0x1205, 0x1402, 0x1703, K.recordsUnrouted, K.faultLogOverwritten, K.faultRecordsSuppressed]).has j = false) : (State.vlLose s p).reg j = s.reg j :=
  (State.vlLose_changes s p).entries j h

@[simp] theorem State.powerTrip_same (s : State) (l mw : Nat) :
    (State.powerTrip s l mw).mfg = s.mfg ∧ (State.powerTrip s l mw).pending = s.pending ∧ (State.powerTrip s l mw).tick = s.tick ∧ (State.powerTrip s l mw).blobs = s.blobs ∧ (State.powerTrip s l mw).belt = s.belt ∧ (State.powerTrip s l mw).supplies = s.supplies ∧ (State.powerTrip s l mw).pipe = s.pipe ∧ (State.powerTrip s l mw).engine = s.engine ∧ (State.powerTrip s l mw).tracks = s.tracks ∧ (State.powerTrip s l mw).eject = s.eject ∧ (State.powerTrip s l mw).field = s.field ∧ (State.powerTrip s l mw).memory = s.memory ∧ (State.powerTrip s l mw).knots = s.knots ∧ (State.powerTrip s l mw).net = s.net ∧ (State.powerTrip s l mw).power = s.power ∧ (State.powerTrip s l mw).boot = s.boot :=
  have h := State.powerTrip_changes s l mw
  ⟨h.mfg, h.pending, h.areas .tick rfl, h.areas .blobs rfl, h.areas .belt rfl, h.areas .supplies rfl, h.areas .pipe rfl, h.areas .engine rfl, h.areas .tracks rfl, h.areas .eject rfl, h.areas .field rfl, h.areas .memory rfl, h.areas .knots rfl, h.areas .net rfl, h.areas .power rfl, h.areas .boot rfl⟩

@[simp] theorem State.powerTrip_reg (s : State) (l mw : Nat) (j : Nat) (h : (Entries.only [0x0405, 0x0407, 0x040F, 0x0509, 0x1205, 0x1402, 0x1703, K.recordsUnrouted, K.faultLogOverwritten, K.faultRecordsSuppressed]).has j = false) : (State.powerTrip s l mw).reg j = s.reg j :=
  (State.powerTrip_changes s l mw).entries j h

@[simp] theorem State.writeSite_same (s : State) (x : CopySite) (ctx o : Nat) (d : List Byte) :
    (State.writeSite s x ctx o d).mfg = s.mfg ∧ (State.writeSite s x ctx o d).pending = s.pending ∧ (State.writeSite s x ctx o d).tick = s.tick ∧ (State.writeSite s x ctx o d).blobs = s.blobs ∧ (State.writeSite s x ctx o d).ctl = s.ctl ∧ (State.writeSite s x ctx o d).belt = s.belt ∧ (State.writeSite s x ctx o d).supplies = s.supplies ∧ (State.writeSite s x ctx o d).intake = s.intake ∧ (State.writeSite s x ctx o d).pipe = s.pipe ∧ (State.writeSite s x ctx o d).tracks = s.tracks ∧ (State.writeSite s x ctx o d).eject = s.eject ∧ (State.writeSite s x ctx o d).field = s.field ∧ (State.writeSite s x ctx o d).knots = s.knots ∧ (State.writeSite s x ctx o d).net = s.net ∧ (State.writeSite s x ctx o d).faults = s.faults ∧ (State.writeSite s x ctx o d).power = s.power ∧ (State.writeSite s x ctx o d).boot = s.boot :=
  have h := State.writeSite_changes s x ctx o d
  ⟨h.mfg, h.pending, h.areas .tick rfl, h.areas .blobs rfl, h.areas .ctl rfl, h.areas .belt rfl, h.areas .supplies rfl, h.areas .intake rfl, h.areas .pipe rfl, h.areas .tracks rfl, h.areas .eject rfl, h.areas .field rfl, h.areas .knots rfl, h.areas .net rfl, h.areas .faults rfl, h.areas .power rfl, h.areas .boot rfl⟩

@[simp] theorem State.writeSite_reg (s : State) (x : CopySite) (ctx o : Nat) (d : List Byte) (j : Nat) (h : (Entries.only [0x1205, K.recordsUnrouted]).has j = false) : (State.writeSite s x ctx o d).reg j = s.reg j :=
  (State.writeSite_changes s x ctx o d).entries j h

@[simp] theorem State.loadBlobs_same (s : State) :
    (State.loadBlobs s).mfg = s.mfg ∧ (State.loadBlobs s).pending = s.pending ∧ (State.loadBlobs s).tick = s.tick ∧ (State.loadBlobs s).blobs = s.blobs ∧ (State.loadBlobs s).ctl = s.ctl ∧ (State.loadBlobs s).belt = s.belt ∧ (State.loadBlobs s).supplies = s.supplies ∧ (State.loadBlobs s).intake = s.intake ∧ (State.loadBlobs s).pipe = s.pipe ∧ (State.loadBlobs s).engine = s.engine ∧ (State.loadBlobs s).tracks = s.tracks ∧ (State.loadBlobs s).eject = s.eject ∧ (State.loadBlobs s).field = s.field ∧ (State.loadBlobs s).memory = s.memory ∧ (State.loadBlobs s).knots = s.knots ∧ (State.loadBlobs s).net = s.net ∧ (State.loadBlobs s).power = s.power :=
  have h := State.loadBlobs_changes s
  ⟨h.mfg, h.pending, h.areas .tick rfl, h.areas .blobs rfl, h.areas .ctl rfl, h.areas .belt rfl, h.areas .supplies rfl, h.areas .intake rfl, h.areas .pipe rfl, h.areas .engine rfl, h.areas .tracks rfl, h.areas .eject rfl, h.areas .field rfl, h.areas .memory rfl, h.areas .knots rfl, h.areas .net rfl, h.areas .power rfl⟩

@[simp] theorem State.loadBlobs_reg (s : State) (j : Nat) (h : (Entries.only [0x1205, 0x1402, 0x1703, K.recordsUnrouted, K.faultLogOverwritten, K.faultRecordsSuppressed]).has j = false) : (State.loadBlobs s).reg j = s.reg j :=
  (State.loadBlobs_changes s).entries j h

@[simp] theorem State.detach_same (s : State) (port : Nat) :
    (State.detach s port).mfg = s.mfg ∧ (State.detach s port).pending = s.pending ∧ (State.detach s port).tick = s.tick ∧ (State.detach s port).freeN = s.freeN ∧ (State.detach s port).blobs = s.blobs ∧ (State.detach s port).ctl = s.ctl ∧ (State.detach s port).belt = s.belt ∧ (State.detach s port).supplies = s.supplies ∧ (State.detach s port).intake = s.intake ∧ (State.detach s port).tracks = s.tracks ∧ (State.detach s port).eject = s.eject ∧ (State.detach s port).field = s.field ∧ (State.detach s port).memory = s.memory ∧ (State.detach s port).net = s.net ∧ (State.detach s port).faults = s.faults ∧ (State.detach s port).power = s.power ∧ (State.detach s port).boot = s.boot :=
  have h := State.detach_changes s port
  ⟨h.mfg, h.pending, h.areas .tick rfl, h.areas .freeN rfl, h.areas .blobs rfl, h.areas .ctl rfl, h.areas .belt rfl, h.areas .supplies rfl, h.areas .intake rfl, h.areas .tracks rfl, h.areas .eject rfl, h.areas .field rfl, h.areas .memory rfl, h.areas .net rfl, h.areas .faults rfl, h.areas .power rfl, h.areas .boot rfl⟩

@[simp] theorem State.detach_reg (s : State) (port : Nat) (j : Nat) (h : (Entries.only [0x1205, K.waitersInUse, K.waitersPeak, K.commandsCompleted, K.recordsUnrouted]).has j = false) : (State.detach s port).reg j = s.reg j :=
  (State.detach_changes s port).entries j h

@[simp] theorem State.setThrottle_same (s : State) (cause die temp : Nat) (on : Bool) :
    (State.setThrottle s cause die temp on).mfg = s.mfg ∧ (State.setThrottle s cause die temp on).pending = s.pending ∧ (State.setThrottle s cause die temp on).tick = s.tick ∧ (State.setThrottle s cause die temp on).blobs = s.blobs ∧ (State.setThrottle s cause die temp on).ctl = s.ctl ∧ (State.setThrottle s cause die temp on).belt = s.belt ∧ (State.setThrottle s cause die temp on).supplies = s.supplies ∧ (State.setThrottle s cause die temp on).intake = s.intake ∧ (State.setThrottle s cause die temp on).pipe = s.pipe ∧ (State.setThrottle s cause die temp on).engine = s.engine ∧ (State.setThrottle s cause die temp on).tracks = s.tracks ∧ (State.setThrottle s cause die temp on).eject = s.eject ∧ (State.setThrottle s cause die temp on).field = s.field ∧ (State.setThrottle s cause die temp on).memory = s.memory ∧ (State.setThrottle s cause die temp on).knots = s.knots ∧ (State.setThrottle s cause die temp on).net = s.net ∧ (State.setThrottle s cause die temp on).faults = s.faults ∧ (State.setThrottle s cause die temp on).boot = s.boot :=
  have h := State.setThrottle_changes s cause die temp on
  ⟨h.mfg, h.pending, h.areas .tick rfl, h.areas .blobs rfl, h.areas .ctl rfl, h.areas .belt rfl, h.areas .supplies rfl, h.areas .intake rfl, h.areas .pipe rfl, h.areas .engine rfl, h.areas .tracks rfl, h.areas .eject rfl, h.areas .field rfl, h.areas .memory rfl, h.areas .knots rfl, h.areas .net rfl, h.areas .faults rfl, h.areas .boot rfl⟩

@[simp] theorem State.setThrottle_reg (s : State) (cause die temp : Nat) (on : Bool) (j : Nat) (h : (Entries.only [0x1205, K.throttleState, K.throttleEvents, K.recordsUnrouted]).has j = false) : (State.setThrottle s cause die temp on).reg j = s.reg j :=
  (State.setThrottle_changes s cause die temp on).entries j h

@[simp] theorem State.inputEdge_same (s : State) (n : Nat) (level : Bool) (tick ibp : Nat) (fc : List Nat) :
    (State.inputEdge s n level tick ibp fc).mfg = s.mfg ∧ (State.inputEdge s n level tick ibp fc).pending = s.pending ∧ (State.inputEdge s n level tick ibp fc).tick = s.tick ∧ (State.inputEdge s n level tick ibp fc).blobs = s.blobs ∧ (State.inputEdge s n level tick ibp fc).belt = s.belt ∧ (State.inputEdge s n level tick ibp fc).supplies = s.supplies ∧ (State.inputEdge s n level tick ibp fc).intake = s.intake ∧ (State.inputEdge s n level tick ibp fc).pipe = s.pipe ∧ (State.inputEdge s n level tick ibp fc).engine = s.engine ∧ (State.inputEdge s n level tick ibp fc).tracks = s.tracks ∧ (State.inputEdge s n level tick ibp fc).eject = s.eject ∧ (State.inputEdge s n level tick ibp fc).memory = s.memory ∧ (State.inputEdge s n level tick ibp fc).knots = s.knots ∧ (State.inputEdge s n level tick ibp fc).net = s.net ∧ (State.inputEdge s n level tick ibp fc).faults = s.faults ∧ (State.inputEdge s n level tick ibp fc).boot = s.boot :=
  have h := State.inputEdge_changes s n level tick ibp fc
  ⟨h.mfg, h.pending, h.areas .tick rfl, h.areas .blobs rfl, h.areas .belt rfl, h.areas .supplies rfl, h.areas .intake rfl, h.areas .pipe rfl, h.areas .engine rfl, h.areas .tracks rfl, h.areas .eject rfl, h.areas .memory rfl, h.areas .knots rfl, h.areas .net rfl, h.areas .faults rfl, h.areas .boot rfl⟩

@[simp] theorem State.inputEdge_reg (s : State) (n : Nat) (level : Bool) (tick ibp : Nat) (fc : List Nat) (j : Nat) (h : (Entries.only [0x0E06, 0x0E0A, 0x0E0B, 0x0E0E, 0x1205, K.lastWakeCause, K.inputLevels, K.recordsUnrouted]).has j = false) : (State.inputEdge s n level tick ibp fc).reg j = s.reg j :=
  (State.inputEdge_changes s n level tick ibp fc).entries j h

@[simp] theorem State.runZero_same (s : State) (p : Period) :
    (State.runZero s p).mfg = s.mfg ∧ (State.runZero s p).pending = s.pending ∧ (State.runZero s p).tick = s.tick ∧ (State.runZero s p).freeN = s.freeN ∧ (State.runZero s p).blobs = s.blobs ∧ (State.runZero s p).ctl = s.ctl ∧ (State.runZero s p).belt = s.belt ∧ (State.runZero s p).supplies = s.supplies ∧ (State.runZero s p).intake = s.intake ∧ (State.runZero s p).pipe = s.pipe ∧ (State.runZero s p).tracks = s.tracks ∧ (State.runZero s p).eject = s.eject ∧ (State.runZero s p).field = s.field ∧ (State.runZero s p).host = s.host ∧ (State.runZero s p).net = s.net ∧ (State.runZero s p).faults = s.faults ∧ (State.runZero s p).perf = s.perf ∧ (State.runZero s p).boot = s.boot ∧ (State.runZero s p).out = s.out :=
  have h := State.runZero_changes s p
  ⟨h.mfg, h.pending, h.areas .tick rfl, h.areas .freeN rfl, h.areas .blobs rfl, h.areas .ctl rfl, h.areas .belt rfl, h.areas .supplies rfl, h.areas .intake rfl, h.areas .pipe rfl, h.areas .tracks rfl, h.areas .eject rfl, h.areas .field rfl, h.areas .host rfl, h.areas .net rfl, h.areas .faults rfl, h.areas .perf rfl, h.areas .boot rfl, h.areas .out rfl⟩

@[simp] theorem State.runZero_reg (s : State) (p : Period) (k : Nat) : (State.runZero s p).reg k = s.reg k :=
  (State.runZero_changes s p).entries k (Entries.has_none k)

@[simp] theorem State.encCheck_same (s : State) (c : Nat) (r : EncRead) :
    (State.encCheck s c r).2.mfg = s.mfg ∧ (State.encCheck s c r).2.pending = s.pending ∧ (State.encCheck s c r).2.tick = s.tick ∧ (State.encCheck s c r).2.freeN = s.freeN ∧ (State.encCheck s c r).2.blobs = s.blobs ∧ (State.encCheck s c r).2.ctl = s.ctl ∧ (State.encCheck s c r).2.belt = s.belt ∧ (State.encCheck s c r).2.supplies = s.supplies ∧ (State.encCheck s c r).2.intake = s.intake ∧ (State.encCheck s c r).2.pipe = s.pipe ∧ (State.encCheck s c r).2.engine = s.engine ∧ (State.encCheck s c r).2.tracks = s.tracks ∧ (State.encCheck s c r).2.eject = s.eject ∧ (State.encCheck s c r).2.memory = s.memory ∧ (State.encCheck s c r).2.knots = s.knots ∧ (State.encCheck s c r).2.host = s.host ∧ (State.encCheck s c r).2.net = s.net ∧ (State.encCheck s c r).2.faults = s.faults ∧ (State.encCheck s c r).2.power = s.power ∧ (State.encCheck s c r).2.perf = s.perf ∧ (State.encCheck s c r).2.boot = s.boot ∧ (State.encCheck s c r).2.out = s.out :=
  have h := State.encCheck_changes s c r
  ⟨h.mfg, h.pending, h.areas .tick rfl, h.areas .freeN rfl, h.areas .blobs rfl, h.areas .ctl rfl, h.areas .belt rfl, h.areas .supplies rfl, h.areas .intake rfl, h.areas .pipe rfl, h.areas .engine rfl, h.areas .tracks rfl, h.areas .eject rfl, h.areas .memory rfl, h.areas .knots rfl, h.areas .host rfl, h.areas .net rfl, h.areas .faults rfl, h.areas .power rfl, h.areas .perf rfl, h.areas .boot rfl, h.areas .out rfl⟩

@[simp] theorem State.encCheck_reg (s : State) (c : Nat) (r : EncRead) (j : Nat) (h : (Entries.only [0x100F, 0x1010, 0x1011, 0x1012, 0x1013]).has j = false) : (State.encCheck s c r).2.reg j = s.reg j :=
  (State.encCheck_changes s c r).entries j h

@[simp] theorem State.rejectSample_same (s : State) :
    (State.rejectSample s).mfg = s.mfg ∧ (State.rejectSample s).pending = s.pending ∧ (State.rejectSample s).tick = s.tick ∧ (State.rejectSample s).freeN = s.freeN ∧ (State.rejectSample s).blobs = s.blobs ∧ (State.rejectSample s).ctl = s.ctl ∧ (State.rejectSample s).supplies = s.supplies ∧ (State.rejectSample s).intake = s.intake ∧ (State.rejectSample s).pipe = s.pipe ∧ (State.rejectSample s).engine = s.engine ∧ (State.rejectSample s).tracks = s.tracks ∧ (State.rejectSample s).eject = s.eject ∧ (State.rejectSample s).field = s.field ∧ (State.rejectSample s).memory = s.memory ∧ (State.rejectSample s).knots = s.knots ∧ (State.rejectSample s).host = s.host ∧ (State.rejectSample s).net = s.net ∧ (State.rejectSample s).faults = s.faults ∧ (State.rejectSample s).power = s.power ∧ (State.rejectSample s).perf = s.perf ∧ (State.rejectSample s).boot = s.boot ∧ (State.rejectSample s).out = s.out :=
  have h := State.rejectSample_changes s
  ⟨h.mfg, h.pending, h.areas .tick rfl, h.areas .freeN rfl, h.areas .blobs rfl, h.areas .ctl rfl, h.areas .supplies rfl, h.areas .intake rfl, h.areas .pipe rfl, h.areas .engine rfl, h.areas .tracks rfl, h.areas .eject rfl, h.areas .field rfl, h.areas .memory rfl, h.areas .knots rfl, h.areas .host rfl, h.areas .net rfl, h.areas .faults rfl, h.areas .power rfl, h.areas .perf rfl, h.areas .boot rfl, h.areas .out rfl⟩

@[simp] theorem State.rejectSample_reg (s : State) (j : Nat) (h : (Entries.only [K.samplesRejected]).has j = false) : (State.rejectSample s).reg j = s.reg j :=
  (State.rejectSample_changes s).entries j h

@[simp] theorem State.stampEdge_same (s : State) (ch : Nat) (level : Bool) (ns : Nat) :
    (State.stampEdge s ch level ns).mfg = s.mfg ∧ (State.stampEdge s ch level ns).pending = s.pending ∧ (State.stampEdge s ch level ns).tick = s.tick ∧ (State.stampEdge s ch level ns).freeN = s.freeN ∧ (State.stampEdge s ch level ns).blobs = s.blobs ∧ (State.stampEdge s ch level ns).ctl = s.ctl ∧ (State.stampEdge s ch level ns).belt = s.belt ∧ (State.stampEdge s ch level ns).supplies = s.supplies ∧ (State.stampEdge s ch level ns).intake = s.intake ∧ (State.stampEdge s ch level ns).pipe = s.pipe ∧ (State.stampEdge s ch level ns).engine = s.engine ∧ (State.stampEdge s ch level ns).tracks = s.tracks ∧ (State.stampEdge s ch level ns).field = s.field ∧ (State.stampEdge s ch level ns).memory = s.memory ∧ (State.stampEdge s ch level ns).knots = s.knots ∧ (State.stampEdge s ch level ns).host = s.host ∧ (State.stampEdge s ch level ns).net = s.net ∧ (State.stampEdge s ch level ns).faults = s.faults ∧ (State.stampEdge s ch level ns).power = s.power ∧ (State.stampEdge s ch level ns).perf = s.perf ∧ (State.stampEdge s ch level ns).boot = s.boot ∧ (State.stampEdge s ch level ns).out = s.out :=
  have h := State.stampEdge_changes s ch level ns
  ⟨h.mfg, h.pending, h.areas .tick rfl, h.areas .freeN rfl, h.areas .blobs rfl, h.areas .ctl rfl, h.areas .belt rfl, h.areas .supplies rfl, h.areas .intake rfl, h.areas .pipe rfl, h.areas .engine rfl, h.areas .tracks rfl, h.areas .field rfl, h.areas .memory rfl, h.areas .knots rfl, h.areas .host rfl, h.areas .net rfl, h.areas .faults rfl, h.areas .power rfl, h.areas .perf rfl, h.areas .boot rfl, h.areas .out rfl⟩

@[simp] theorem State.stampEdge_reg (s : State) (ch : Nat) (level : Bool) (ns : Nat) (j : Nat) (h : (Entries.only [K.fireEdgesMeasured, K.fireEdgesOutside, K.fireErrorMin, K.fireErrorMax]).has j = false) : (State.stampEdge s ch level ns).reg j = s.reg j :=
  (State.stampEdge_changes s ch level ns).entries j h

@[simp] theorem State.dieRefresh_same (s : State) (m : Nat) :
    (State.dieRefresh s m).mfg = s.mfg ∧ (State.dieRefresh s m).pending = s.pending ∧ (State.dieRefresh s m).tick = s.tick ∧ (State.dieRefresh s m).freeN = s.freeN ∧ (State.dieRefresh s m).blobs = s.blobs ∧ (State.dieRefresh s m).ctl = s.ctl ∧ (State.dieRefresh s m).belt = s.belt ∧ (State.dieRefresh s m).supplies = s.supplies ∧ (State.dieRefresh s m).intake = s.intake ∧ (State.dieRefresh s m).pipe = s.pipe ∧ (State.dieRefresh s m).engine = s.engine ∧ (State.dieRefresh s m).tracks = s.tracks ∧ (State.dieRefresh s m).eject = s.eject ∧ (State.dieRefresh s m).field = s.field ∧ (State.dieRefresh s m).knots = s.knots ∧ (State.dieRefresh s m).host = s.host ∧ (State.dieRefresh s m).net = s.net ∧ (State.dieRefresh s m).faults = s.faults ∧ (State.dieRefresh s m).power = s.power ∧ (State.dieRefresh s m).perf = s.perf ∧ (State.dieRefresh s m).boot = s.boot ∧ (State.dieRefresh s m).out = s.out :=
  have h := State.dieRefresh_changes s m
  ⟨h.mfg, h.pending, h.areas .tick rfl, h.areas .freeN rfl, h.areas .blobs rfl, h.areas .ctl rfl, h.areas .belt rfl, h.areas .supplies rfl, h.areas .intake rfl, h.areas .pipe rfl, h.areas .engine rfl, h.areas .tracks rfl, h.areas .eject rfl, h.areas .field rfl, h.areas .knots rfl, h.areas .host rfl, h.areas .net rfl, h.areas .faults rfl, h.areas .power rfl, h.areas .perf rfl, h.areas .boot rfl, h.areas .out rfl⟩

@[simp] theorem State.dieRefresh_reg (s : State) (m : Nat) (k : Nat) : (State.dieRefresh s m).reg k = s.reg k :=
  (State.dieRefresh_changes s m).entries k (Entries.has_none k)

@[simp] theorem State.addLanes_same (s : State) (d least most : Nat) :
    (State.addLanes s d least most).mfg = s.mfg ∧ (State.addLanes s d least most).pending = s.pending ∧ (State.addLanes s d least most).tick = s.tick ∧ (State.addLanes s d least most).freeN = s.freeN ∧ (State.addLanes s d least most).blobs = s.blobs ∧ (State.addLanes s d least most).ctl = s.ctl ∧ (State.addLanes s d least most).belt = s.belt ∧ (State.addLanes s d least most).supplies = s.supplies ∧ (State.addLanes s d least most).intake = s.intake ∧ (State.addLanes s d least most).pipe = s.pipe ∧ (State.addLanes s d least most).tracks = s.tracks ∧ (State.addLanes s d least most).eject = s.eject ∧ (State.addLanes s d least most).field = s.field ∧ (State.addLanes s d least most).memory = s.memory ∧ (State.addLanes s d least most).knots = s.knots ∧ (State.addLanes s d least most).host = s.host ∧ (State.addLanes s d least most).net = s.net ∧ (State.addLanes s d least most).faults = s.faults ∧ (State.addLanes s d least most).power = s.power ∧ (State.addLanes s d least most).perf = s.perf ∧ (State.addLanes s d least most).boot = s.boot ∧ (State.addLanes s d least most).out = s.out :=
  have h := State.addLanes_changes s d least most
  ⟨h.mfg, h.pending, h.areas .tick rfl, h.areas .freeN rfl, h.areas .blobs rfl, h.areas .ctl rfl, h.areas .belt rfl, h.areas .supplies rfl, h.areas .intake rfl, h.areas .pipe rfl, h.areas .tracks rfl, h.areas .eject rfl, h.areas .field rfl, h.areas .memory rfl, h.areas .knots rfl, h.areas .host rfl, h.areas .net rfl, h.areas .faults rfl, h.areas .power rfl, h.areas .perf rfl, h.areas .boot rfl, h.areas .out rfl⟩

@[simp] theorem State.addLanes_reg (s : State) (d least most : Nat) (k : Nat) : (State.addLanes s d least most).reg k = s.reg k :=
  (State.addLanes_changes s d least most).entries k (Entries.has_none k)

@[simp] theorem State.saveCarry_same (s : State) (w : Work) :
    (State.saveCarry s w).mfg = s.mfg ∧ (State.saveCarry s w).pending = s.pending ∧ (State.saveCarry s w).tick = s.tick ∧ (State.saveCarry s w).freeN = s.freeN ∧ (State.saveCarry s w).blobs = s.blobs ∧ (State.saveCarry s w).ctl = s.ctl ∧ (State.saveCarry s w).belt = s.belt ∧ (State.saveCarry s w).supplies = s.supplies ∧ (State.saveCarry s w).intake = s.intake ∧ (State.saveCarry s w).pipe = s.pipe ∧ (State.saveCarry s w).tracks = s.tracks ∧ (State.saveCarry s w).eject = s.eject ∧ (State.saveCarry s w).field = s.field ∧ (State.saveCarry s w).memory = s.memory ∧ (State.saveCarry s w).knots = s.knots ∧ (State.saveCarry s w).host = s.host ∧ (State.saveCarry s w).net = s.net ∧ (State.saveCarry s w).faults = s.faults ∧ (State.saveCarry s w).power = s.power ∧ (State.saveCarry s w).perf = s.perf ∧ (State.saveCarry s w).boot = s.boot ∧ (State.saveCarry s w).out = s.out :=
  have h := State.saveCarry_changes s w
  ⟨h.mfg, h.pending, h.areas .tick rfl, h.areas .freeN rfl, h.areas .blobs rfl, h.areas .ctl rfl, h.areas .belt rfl, h.areas .supplies rfl, h.areas .intake rfl, h.areas .pipe rfl, h.areas .tracks rfl, h.areas .eject rfl, h.areas .field rfl, h.areas .memory rfl, h.areas .knots rfl, h.areas .host rfl, h.areas .net rfl, h.areas .faults rfl, h.areas .power rfl, h.areas .perf rfl, h.areas .boot rfl, h.areas .out rfl⟩

@[simp] theorem State.saveCarry_reg (s : State) (w : Work) (k : Nat) : (State.saveCarry s w).reg k = s.reg k :=
  (State.saveCarry_changes s w).entries k (Entries.has_none k)

@[simp] theorem State.setElem_same (s : State) (t : Tensor) (row col ch v : Nat) :
    (State.setElem s t row col ch v).mfg = s.mfg ∧ (State.setElem s t row col ch v).pending = s.pending ∧ (State.setElem s t row col ch v).tick = s.tick ∧ (State.setElem s t row col ch v).freeN = s.freeN ∧ (State.setElem s t row col ch v).blobs = s.blobs ∧ (State.setElem s t row col ch v).ctl = s.ctl ∧ (State.setElem s t row col ch v).belt = s.belt ∧ (State.setElem s t row col ch v).supplies = s.supplies ∧ (State.setElem s t row col ch v).intake = s.intake ∧ (State.setElem s t row col ch v).pipe = s.pipe ∧ (State.setElem s t row col ch v).tracks = s.tracks ∧ (State.setElem s t row col ch v).eject = s.eject ∧ (State.setElem s t row col ch v).field = s.field ∧ (State.setElem s t row col ch v).memory = s.memory ∧ (State.setElem s t row col ch v).knots = s.knots ∧ (State.setElem s t row col ch v).host = s.host ∧ (State.setElem s t row col ch v).net = s.net ∧ (State.setElem s t row col ch v).faults = s.faults ∧ (State.setElem s t row col ch v).power = s.power ∧ (State.setElem s t row col ch v).perf = s.perf ∧ (State.setElem s t row col ch v).boot = s.boot ∧ (State.setElem s t row col ch v).out = s.out :=
  have h := State.setElem_changes s t row col ch v
  ⟨h.mfg, h.pending, h.areas .tick rfl, h.areas .freeN rfl, h.areas .blobs rfl, h.areas .ctl rfl, h.areas .belt rfl, h.areas .supplies rfl, h.areas .intake rfl, h.areas .pipe rfl, h.areas .tracks rfl, h.areas .eject rfl, h.areas .field rfl, h.areas .memory rfl, h.areas .knots rfl, h.areas .host rfl, h.areas .net rfl, h.areas .faults rfl, h.areas .power rfl, h.areas .perf rfl, h.areas .boot rfl, h.areas .out rfl⟩

@[simp] theorem State.setElem_reg (s : State) (t : Tensor) (row col ch v : Nat) (k : Nat) : (State.setElem s t row col ch v).reg k = s.reg k :=
  (State.setElem_changes s t row col ch v).entries k (Entries.has_none k)

@[simp] theorem State.writeChans_same (s : State) (w : Work) (row col : Nat) (chans vals : List Nat) (n : Tally) :
    (State.writeChans s w row col chans vals n).1.mfg = s.mfg ∧ (State.writeChans s w row col chans vals n).1.pending = s.pending ∧ (State.writeChans s w row col chans vals n).1.tick = s.tick ∧ (State.writeChans s w row col chans vals n).1.freeN = s.freeN ∧ (State.writeChans s w row col chans vals n).1.blobs = s.blobs ∧ (State.writeChans s w row col chans vals n).1.ctl = s.ctl ∧ (State.writeChans s w row col chans vals n).1.belt = s.belt ∧ (State.writeChans s w row col chans vals n).1.supplies = s.supplies ∧ (State.writeChans s w row col chans vals n).1.intake = s.intake ∧ (State.writeChans s w row col chans vals n).1.pipe = s.pipe ∧ (State.writeChans s w row col chans vals n).1.tracks = s.tracks ∧ (State.writeChans s w row col chans vals n).1.eject = s.eject ∧ (State.writeChans s w row col chans vals n).1.field = s.field ∧ (State.writeChans s w row col chans vals n).1.memory = s.memory ∧ (State.writeChans s w row col chans vals n).1.knots = s.knots ∧ (State.writeChans s w row col chans vals n).1.host = s.host ∧ (State.writeChans s w row col chans vals n).1.net = s.net ∧ (State.writeChans s w row col chans vals n).1.faults = s.faults ∧ (State.writeChans s w row col chans vals n).1.power = s.power ∧ (State.writeChans s w row col chans vals n).1.perf = s.perf ∧ (State.writeChans s w row col chans vals n).1.boot = s.boot ∧ (State.writeChans s w row col chans vals n).1.out = s.out :=
  have h := State.writeChans_changes s w row col chans vals n
  ⟨h.mfg, h.pending, h.areas .tick rfl, h.areas .freeN rfl, h.areas .blobs rfl, h.areas .ctl rfl, h.areas .belt rfl, h.areas .supplies rfl, h.areas .intake rfl, h.areas .pipe rfl, h.areas .tracks rfl, h.areas .eject rfl, h.areas .field rfl, h.areas .memory rfl, h.areas .knots rfl, h.areas .host rfl, h.areas .net rfl, h.areas .faults rfl, h.areas .power rfl, h.areas .perf rfl, h.areas .boot rfl, h.areas .out rfl⟩

@[simp] theorem State.writeChans_reg (s : State) (w : Work) (row col : Nat) (chans vals : List Nat) (n : Tally) (k : Nat) : (State.writeChans s w row col chans vals n).1.reg k = s.reg k :=
  (State.writeChans_changes s w row col chans vals n).entries k (Entries.has_none k)

@[simp] theorem State.tally_same (s : State) (w : Work) (batch ctx : Nat) (n : Tally) :
    (State.tally s w batch ctx n).mfg = s.mfg ∧ (State.tally s w batch ctx n).pending = s.pending ∧ (State.tally s w batch ctx n).tick = s.tick ∧ (State.tally s w batch ctx n).freeN = s.freeN ∧ (State.tally s w batch ctx n).blobs = s.blobs ∧ (State.tally s w batch ctx n).ctl = s.ctl ∧ (State.tally s w batch ctx n).belt = s.belt ∧ (State.tally s w batch ctx n).supplies = s.supplies ∧ (State.tally s w batch ctx n).intake = s.intake ∧ (State.tally s w batch ctx n).pipe = s.pipe ∧ (State.tally s w batch ctx n).tracks = s.tracks ∧ (State.tally s w batch ctx n).eject = s.eject ∧ (State.tally s w batch ctx n).field = s.field ∧ (State.tally s w batch ctx n).memory = s.memory ∧ (State.tally s w batch ctx n).knots = s.knots ∧ (State.tally s w batch ctx n).net = s.net ∧ (State.tally s w batch ctx n).faults = s.faults ∧ (State.tally s w batch ctx n).power = s.power ∧ (State.tally s w batch ctx n).boot = s.boot :=
  have h := State.tally_changes s w batch ctx n
  ⟨h.mfg, h.pending, h.areas .tick rfl, h.areas .freeN rfl, h.areas .blobs rfl, h.areas .ctl rfl, h.areas .belt rfl, h.areas .supplies rfl, h.areas .intake rfl, h.areas .pipe rfl, h.areas .tracks rfl, h.areas .eject rfl, h.areas .field rfl, h.areas .memory rfl, h.areas .knots rfl, h.areas .net rfl, h.areas .faults rfl, h.areas .power rfl, h.areas .boot rfl⟩

@[simp] theorem State.tally_reg (s : State) (w : Work) (batch ctx : Nat) (n : Tally) (j : Nat) (h : (Entries.only [0x0805, 0x0821, 0x1205, K.recordsUnrouted]).has j = false) : (State.tally s w batch ctx n).reg j = s.reg j :=
  (State.tally_changes s w batch ctx n).entries j h

@[simp] theorem State.computeTile_same (s : State) (w : Work) (k : Kernel) (i : Nat) :
    (State.computeTile s w k i).mfg = s.mfg ∧ (State.computeTile s w k i).pending = s.pending ∧ (State.computeTile s w k i).tick = s.tick ∧ (State.computeTile s w k i).freeN = s.freeN ∧ (State.computeTile s w k i).blobs = s.blobs ∧ (State.computeTile s w k i).ctl = s.ctl ∧ (State.computeTile s w k i).belt = s.belt ∧ (State.computeTile s w k i).supplies = s.supplies ∧ (State.computeTile s w k i).intake = s.intake ∧ (State.computeTile s w k i).pipe = s.pipe ∧ (State.computeTile s w k i).tracks = s.tracks ∧ (State.computeTile s w k i).eject = s.eject ∧ (State.computeTile s w k i).field = s.field ∧ (State.computeTile s w k i).memory = s.memory ∧ (State.computeTile s w k i).knots = s.knots ∧ (State.computeTile s w k i).host = s.host ∧ (State.computeTile s w k i).net = s.net ∧ (State.computeTile s w k i).faults = s.faults ∧ (State.computeTile s w k i).power = s.power ∧ (State.computeTile s w k i).perf = s.perf ∧ (State.computeTile s w k i).boot = s.boot ∧ (State.computeTile s w k i).out = s.out :=
  have h := State.computeTile_changes s w k i
  ⟨h.mfg, h.pending, h.areas .tick rfl, h.areas .freeN rfl, h.areas .blobs rfl, h.areas .ctl rfl, h.areas .belt rfl, h.areas .supplies rfl, h.areas .intake rfl, h.areas .pipe rfl, h.areas .tracks rfl, h.areas .eject rfl, h.areas .field rfl, h.areas .memory rfl, h.areas .knots rfl, h.areas .host rfl, h.areas .net rfl, h.areas .faults rfl, h.areas .power rfl, h.areas .perf rfl, h.areas .boot rfl, h.areas .out rfl⟩

@[simp] theorem State.computeTile_reg (s : State) (w : Work) (k : Kernel) (i : Nat) (j : Nat) : (State.computeTile s w k i).reg j = s.reg j :=
  (State.computeTile_changes s w k i).entries j (Entries.has_none j)

@[simp] theorem State.issueDecision_same (s : State) (r : Rec) :
    (State.issueDecision s r).mfg = s.mfg ∧ (State.issueDecision s r).pending = s.pending ∧ (State.issueDecision s r).tick = s.tick ∧ (State.issueDecision s r).freeN = s.freeN ∧ (State.issueDecision s r).blobs = s.blobs ∧ (State.issueDecision s r).ctl = s.ctl ∧ (State.issueDecision s r).belt = s.belt ∧ (State.issueDecision s r).supplies = s.supplies ∧ (State.issueDecision s r).intake = s.intake ∧ (State.issueDecision s r).pipe = s.pipe ∧ (State.issueDecision s r).engine = s.engine ∧ (State.issueDecision s r).eject = s.eject ∧ (State.issueDecision s r).field = s.field ∧ (State.issueDecision s r).memory = s.memory ∧ (State.issueDecision s r).knots = s.knots ∧ (State.issueDecision s r).net = s.net ∧ (State.issueDecision s r).faults = s.faults ∧ (State.issueDecision s r).power = s.power ∧ (State.issueDecision s r).boot = s.boot :=
  have h := State.issueDecision_changes s r
  ⟨h.mfg, h.pending, h.areas .tick rfl, h.areas .freeN rfl, h.areas .blobs rfl, h.areas .ctl rfl, h.areas .belt rfl, h.areas .supplies rfl, h.areas .intake rfl, h.areas .pipe rfl, h.areas .engine rfl, h.areas .eject rfl, h.areas .field rfl, h.areas .memory rfl, h.areas .knots rfl, h.areas .net rfl, h.areas .faults rfl, h.areas .power rfl, h.areas .boot rfl⟩

@[simp] theorem State.issueDecision_reg (s : State) (r : Rec) (j : Nat) (h : (Entries.only [0x1205, K.decisionsIssued, K.recordsUnrouted]).has j = false) : (State.issueDecision s r).reg j = s.reg j :=
  (State.issueDecision_changes s r).entries j h

@[simp] theorem State.closeTrack_same (s : State) (x : StepOf) (i trailing flags : Nat) (isOver : Bool) :
    (State.closeTrack s x i trailing flags isOver).mfg = s.mfg ∧ (State.closeTrack s x i trailing flags isOver).pending = s.pending ∧ (State.closeTrack s x i trailing flags isOver).tick = s.tick ∧ (State.closeTrack s x i trailing flags isOver).freeN = s.freeN ∧ (State.closeTrack s x i trailing flags isOver).blobs = s.blobs ∧ (State.closeTrack s x i trailing flags isOver).ctl = s.ctl ∧ (State.closeTrack s x i trailing flags isOver).belt = s.belt ∧ (State.closeTrack s x i trailing flags isOver).supplies = s.supplies ∧ (State.closeTrack s x i trailing flags isOver).intake = s.intake ∧ (State.closeTrack s x i trailing flags isOver).pipe = s.pipe ∧ (State.closeTrack s x i trailing flags isOver).engine = s.engine ∧ (State.closeTrack s x i trailing flags isOver).eject = s.eject ∧ (State.closeTrack s x i trailing flags isOver).field = s.field ∧ (State.closeTrack s x i trailing flags isOver).memory = s.memory ∧ (State.closeTrack s x i trailing flags isOver).knots = s.knots ∧ (State.closeTrack s x i trailing flags isOver).host = s.host ∧ (State.closeTrack s x i trailing flags isOver).net = s.net ∧ (State.closeTrack s x i trailing flags isOver).faults = s.faults ∧ (State.closeTrack s x i trailing flags isOver).power = s.power ∧ (State.closeTrack s x i trailing flags isOver).perf = s.perf ∧ (State.closeTrack s x i trailing flags isOver).boot = s.boot ∧ (State.closeTrack s x i trailing flags isOver).out = s.out :=
  have h := State.closeTrack_changes s x i trailing flags isOver
  ⟨h.mfg, h.pending, h.areas .tick rfl, h.areas .freeN rfl, h.areas .blobs rfl, h.areas .ctl rfl, h.areas .belt rfl, h.areas .supplies rfl, h.areas .intake rfl, h.areas .pipe rfl, h.areas .engine rfl, h.areas .eject rfl, h.areas .field rfl, h.areas .memory rfl, h.areas .knots rfl, h.areas .host rfl, h.areas .net rfl, h.areas .faults rfl, h.areas .power rfl, h.areas .perf rfl, h.areas .boot rfl, h.areas .out rfl⟩

@[simp] theorem State.closeTrack_reg (s : State) (x : StepOf) (i trailing flags : Nat) (isOver : Bool) (j : Nat) (h : (Entries.only [K.degradedObjects, K.smallObjectsDropped]).has j = false) : (State.closeTrack s x i trailing flags isOver).reg j = s.reg j :=
  (State.closeTrack_changes s x i trailing flags isOver).entries j h

@[simp] theorem State.endStream_same (s : State) (x : StepOf) (pos flags : Nat) :
    (State.endStream s x pos flags).mfg = s.mfg ∧ (State.endStream s x pos flags).pending = s.pending ∧ (State.endStream s x pos flags).tick = s.tick ∧ (State.endStream s x pos flags).freeN = s.freeN ∧ (State.endStream s x pos flags).blobs = s.blobs ∧ (State.endStream s x pos flags).ctl = s.ctl ∧ (State.endStream s x pos flags).belt = s.belt ∧ (State.endStream s x pos flags).supplies = s.supplies ∧ (State.endStream s x pos flags).intake = s.intake ∧ (State.endStream s x pos flags).pipe = s.pipe ∧ (State.endStream s x pos flags).engine = s.engine ∧ (State.endStream s x pos flags).eject = s.eject ∧ (State.endStream s x pos flags).field = s.field ∧ (State.endStream s x pos flags).memory = s.memory ∧ (State.endStream s x pos flags).knots = s.knots ∧ (State.endStream s x pos flags).host = s.host ∧ (State.endStream s x pos flags).net = s.net ∧ (State.endStream s x pos flags).faults = s.faults ∧ (State.endStream s x pos flags).power = s.power ∧ (State.endStream s x pos flags).perf = s.perf ∧ (State.endStream s x pos flags).boot = s.boot ∧ (State.endStream s x pos flags).out = s.out :=
  have h := State.endStream_changes s x pos flags
  ⟨h.mfg, h.pending, h.areas .tick rfl, h.areas .freeN rfl, h.areas .blobs rfl, h.areas .ctl rfl, h.areas .belt rfl, h.areas .supplies rfl, h.areas .intake rfl, h.areas .pipe rfl, h.areas .engine rfl, h.areas .eject rfl, h.areas .field rfl, h.areas .memory rfl, h.areas .knots rfl, h.areas .host rfl, h.areas .net rfl, h.areas .faults rfl, h.areas .power rfl, h.areas .perf rfl, h.areas .boot rfl, h.areas .out rfl⟩

@[simp] theorem State.endStream_reg (s : State) (x : StepOf) (pos flags : Nat) (j : Nat) (h : (Entries.only [K.degradedObjects, K.smallObjectsDropped]).has j = false) : (State.endStream s x pos flags).reg j = s.reg j :=
  (State.endStream_changes s x pos flags).entries j h

@[simp] theorem State.direct_same (s : State) (r : Rec) :
    (State.direct s r).mfg = s.mfg ∧ (State.direct s r).pending = s.pending ∧ (State.direct s r).tick = s.tick ∧ (State.direct s r).freeN = s.freeN ∧ (State.direct s r).blobs = s.blobs ∧ (State.direct s r).ctl = s.ctl ∧ (State.direct s r).belt = s.belt ∧ (State.direct s r).supplies = s.supplies ∧ (State.direct s r).intake = s.intake ∧ (State.direct s r).pipe = s.pipe ∧ (State.direct s r).engine = s.engine ∧ (State.direct s r).eject = s.eject ∧ (State.direct s r).field = s.field ∧ (State.direct s r).memory = s.memory ∧ (State.direct s r).knots = s.knots ∧ (State.direct s r).host = s.host ∧ (State.direct s r).net = s.net ∧ (State.direct s r).faults = s.faults ∧ (State.direct s r).power = s.power ∧ (State.direct s r).perf = s.perf ∧ (State.direct s r).boot = s.boot ∧ (State.direct s r).out = s.out :=
  have h := State.direct_changes s r
  ⟨h.mfg, h.pending, h.areas .tick rfl, h.areas .freeN rfl, h.areas .blobs rfl, h.areas .ctl rfl, h.areas .belt rfl, h.areas .supplies rfl, h.areas .intake rfl, h.areas .pipe rfl, h.areas .engine rfl, h.areas .eject rfl, h.areas .field rfl, h.areas .memory rfl, h.areas .knots rfl, h.areas .host rfl, h.areas .net rfl, h.areas .faults rfl, h.areas .power rfl, h.areas .perf rfl, h.areas .boot rfl, h.areas .out rfl⟩

@[simp] theorem State.direct_reg (s : State) (r : Rec) (k : Nat) : (State.direct s r).reg k = s.reg k :=
  (State.direct_changes s r).entries k (Entries.has_none k)

@[simp] theorem State.listWait_same (s : State) (x : StepOf) (i : Nat) :
    (State.listWait s x i).mfg = s.mfg ∧ (State.listWait s x i).pending = s.pending ∧ (State.listWait s x i).tick = s.tick ∧ (State.listWait s x i).freeN = s.freeN ∧ (State.listWait s x i).blobs = s.blobs ∧ (State.listWait s x i).ctl = s.ctl ∧ (State.listWait s x i).belt = s.belt ∧ (State.listWait s x i).supplies = s.supplies ∧ (State.listWait s x i).intake = s.intake ∧ (State.listWait s x i).pipe = s.pipe ∧ (State.listWait s x i).engine = s.engine ∧ (State.listWait s x i).eject = s.eject ∧ (State.listWait s x i).field = s.field ∧ (State.listWait s x i).memory = s.memory ∧ (State.listWait s x i).knots = s.knots ∧ (State.listWait s x i).host = s.host ∧ (State.listWait s x i).net = s.net ∧ (State.listWait s x i).faults = s.faults ∧ (State.listWait s x i).power = s.power ∧ (State.listWait s x i).perf = s.perf ∧ (State.listWait s x i).boot = s.boot ∧ (State.listWait s x i).out = s.out :=
  have h := State.listWait_changes s x i
  ⟨h.mfg, h.pending, h.areas .tick rfl, h.areas .freeN rfl, h.areas .blobs rfl, h.areas .ctl rfl, h.areas .belt rfl, h.areas .supplies rfl, h.areas .intake rfl, h.areas .pipe rfl, h.areas .engine rfl, h.areas .eject rfl, h.areas .field rfl, h.areas .memory rfl, h.areas .knots rfl, h.areas .host rfl, h.areas .net rfl, h.areas .faults rfl, h.areas .power rfl, h.areas .perf rfl, h.areas .boot rfl, h.areas .out rfl⟩

@[simp] theorem State.listWait_reg (s : State) (x : StepOf) (i : Nat) (j : Nat) (h : (Entries.only [K.fallbackDecisions, K.noTrackDecisions, K.listWaitFallbacks, K.outsideValveRange]).has j = false) : (State.listWait s x i).reg j = s.reg j :=
  (State.listWait_changes s x i).entries j h

@[simp] theorem State.regionRow_same (s : State) (x : StepOf) (r : Nat) (g : Region) :
    (State.regionRow s x r g).1.mfg = s.mfg ∧ (State.regionRow s x r g).1.pending = s.pending ∧ (State.regionRow s x r g).1.tick = s.tick ∧ (State.regionRow s x r g).1.freeN = s.freeN ∧ (State.regionRow s x r g).1.blobs = s.blobs ∧ (State.regionRow s x r g).1.ctl = s.ctl ∧ (State.regionRow s x r g).1.belt = s.belt ∧ (State.regionRow s x r g).1.supplies = s.supplies ∧ (State.regionRow s x r g).1.intake = s.intake ∧ (State.regionRow s x r g).1.pipe = s.pipe ∧ (State.regionRow s x r g).1.engine = s.engine ∧ (State.regionRow s x r g).1.eject = s.eject ∧ (State.regionRow s x r g).1.field = s.field ∧ (State.regionRow s x r g).1.memory = s.memory ∧ (State.regionRow s x r g).1.knots = s.knots ∧ (State.regionRow s x r g).1.host = s.host ∧ (State.regionRow s x r g).1.net = s.net ∧ (State.regionRow s x r g).1.faults = s.faults ∧ (State.regionRow s x r g).1.power = s.power ∧ (State.regionRow s x r g).1.perf = s.perf ∧ (State.regionRow s x r g).1.boot = s.boot ∧ (State.regionRow s x r g).1.out = s.out :=
  have h := State.regionRow_changes s x r g
  ⟨h.mfg, h.pending, h.areas .tick rfl, h.areas .freeN rfl, h.areas .blobs rfl, h.areas .ctl rfl, h.areas .belt rfl, h.areas .supplies rfl, h.areas .intake rfl, h.areas .pipe rfl, h.areas .engine rfl, h.areas .eject rfl, h.areas .field rfl, h.areas .memory rfl, h.areas .knots rfl, h.areas .host rfl, h.areas .net rfl, h.areas .faults rfl, h.areas .power rfl, h.areas .perf rfl, h.areas .boot rfl, h.areas .out rfl⟩

@[simp] theorem State.regionRow_reg (s : State) (x : StepOf) (r : Nat) (g : Region) (j : Nat) (h : (Entries.only [K.fallbackDecisions, K.noTrackDecisions, K.listWaitFallbacks, K.outsideValveRange]).has j = false) : (State.regionRow s x r g).1.reg j = s.reg j :=
  (State.regionRow_changes s x r g).entries j h

@[simp] theorem State.sendHalo_same (s : State) (w : Work) (k : Kernel) :
    (State.sendHalo s w k).mfg = s.mfg ∧ (State.sendHalo s w k).pending = s.pending ∧ (State.sendHalo s w k).tick = s.tick ∧ (State.sendHalo s w k).freeN = s.freeN ∧ (State.sendHalo s w k).blobs = s.blobs ∧ (State.sendHalo s w k).ctl = s.ctl ∧ (State.sendHalo s w k).belt = s.belt ∧ (State.sendHalo s w k).supplies = s.supplies ∧ (State.sendHalo s w k).intake = s.intake ∧ (State.sendHalo s w k).pipe = s.pipe ∧ (State.sendHalo s w k).tracks = s.tracks ∧ (State.sendHalo s w k).eject = s.eject ∧ (State.sendHalo s w k).field = s.field ∧ (State.sendHalo s w k).memory = s.memory ∧ (State.sendHalo s w k).knots = s.knots ∧ (State.sendHalo s w k).host = s.host ∧ (State.sendHalo s w k).net = s.net ∧ (State.sendHalo s w k).faults = s.faults ∧ (State.sendHalo s w k).power = s.power ∧ (State.sendHalo s w k).perf = s.perf ∧ (State.sendHalo s w k).boot = s.boot ∧ (State.sendHalo s w k).out = s.out :=
  have h := State.sendHalo_changes s w k
  ⟨h.mfg, h.pending, h.areas .tick rfl, h.areas .freeN rfl, h.areas .blobs rfl, h.areas .ctl rfl, h.areas .belt rfl, h.areas .supplies rfl, h.areas .intake rfl, h.areas .pipe rfl, h.areas .tracks rfl, h.areas .eject rfl, h.areas .field rfl, h.areas .memory rfl, h.areas .knots rfl, h.areas .host rfl, h.areas .net rfl, h.areas .faults rfl, h.areas .power rfl, h.areas .perf rfl, h.areas .boot rfl, h.areas .out rfl⟩

@[simp] theorem State.sendHalo_reg (s : State) (w : Work) (k : Kernel) (j : Nat) : (State.sendHalo s w k).reg j = s.reg j :=
  (State.sendHalo_changes s w k).entries j (Entries.has_none j)

end Sys2Proof.Machine
end

