-- ==== Sys2Proof/Laws/Widths.lean ====
section
/-! SUPPORT. The widths of the counters that stand alone in their entries (R471). -/

-- one theorem after another: see NOTES.md
set_option Elab.async false

namespace Sys2Proof.Machine.K

@[simp] theorem samplesRejected_width : counterWidth samplesRejected = 32 := by decide
@[simp] theorem holdoverEntries_width : counterWidth holdoverEntries = 32 := by decide
@[simp] theorem beltLostEvents_width : counterWidth beltLostEvents = 32 := by decide
@[simp] theorem overspeedEvents_width : counterWidth overspeedEvents = 32 := by decide
@[simp] theorem suppressedTriggers_width : counterWidth suppressedTriggers = 32 := by decide
@[simp] theorem positionSaturations_width : counterWidth positionSaturations = 32 := by decide
@[simp] theorem reverseSamplesDiscarded_width : counterWidth reverseSamplesDiscarded = 32 := by decide
@[simp] theorem bdpFramesDropped_width : counterWidth bdpFramesDropped = 32 := by decide
@[simp] theorem bdpSequenceErrors_width : counterWidth bdpSequenceErrors = 32 := by decide
@[simp] theorem bdpRetransmissions_width : counterWidth bdpRetransmissions = 32 := by decide
@[simp] theorem encodesCompleted_width : counterWidth encodesCompleted = 32 := by decide
@[simp] theorem encodesSkipped_width : counterWidth encodesSkipped = 32 := by decide
@[simp] theorem decodesCompleted_width : counterWidth decodesCompleted = 32 := by decide
@[simp] theorem decodesRejected_width : counterWidth decodesRejected = 32 := by decide
@[simp] theorem decodesAbandoned_width : counterWidth decodesAbandoned = 32 := by decide
@[simp] theorem periodsRun_width : counterWidth periodsRun = 64 := by decide
@[simp] theorem periodsSlipped_width : counterWidth periodsSlipped = 32 := by decide
@[simp] theorem maxSlipCycles_width : counterWidth maxSlipCycles = 32 := by decide
@[simp] theorem maxFrozenPerPeriod_width : counterWidth maxFrozenPerPeriod = 32 := by decide
@[simp] theorem stripeOverruns_width : counterWidth stripeOverruns = 32 := by decide
@[simp] theorem emptyPeriods_width : counterWidth emptyPeriods = 64 := by decide
@[simp] theorem tracksPeak_width : counterWidth tracksPeak = 16 := by decide
@[simp] theorem joinsRefused_width : counterWidth joinsRefused = 32 := by decide
@[simp] theorem merges_width : counterWidth merges = 32 := by decide
@[simp] theorem decisionsIssued_width : counterWidth decisionsIssued = 64 := by decide
@[simp] theorem fallbackDecisions_width : counterWidth fallbackDecisions = 32 := by decide
@[simp] theorem noTrackDecisions_width : counterWidth noTrackDecisions = 32 := by decide
@[simp] theorem degradedObjects_width : counterWidth degradedObjects = 32 := by decide
@[simp] theorem overlengthTracks_width : counterWidth overlengthTracks = 32 := by decide
@[simp] theorem smallObjectsDropped_width : counterWidth smallObjectsDropped = 32 := by decide
@[simp] theorem listWaitFallbacks_width : counterWidth listWaitFallbacks = 32 := by decide
@[simp] theorem directRecordsDeferred_width : counterWidth directRecordsDeferred = 32 := by decide
@[simp] theorem tracksDiscarded_width : counterWidth tracksDiscarded = 32 := by decide
@[simp] theorem emptyListEntries_width : counterWidth emptyListEntries = 64 := by decide
@[simp] theorem outsideValveRange_width : counterWidth outsideValveRange = 32 := by decide
@[simp] theorem pulsesPeak_width : counterWidth pulsesPeak = 16 := by decide
@[simp] theorem pulsesScheduled_width : counterWidth pulsesScheduled = 64 := by decide
@[simp] theorem pulsesMerged_width : counterWidth pulsesMerged = 32 := by decide
@[simp] theorem pulsesSplit_width : counterWidth pulsesSplit = 32 := by decide
@[simp] theorem storeFullRefused_width : counterWidth storeFullRefused = 32 := by decide
@[simp] theorem lateDecisions_width : counterWidth lateDecisions = 32 := by decide
@[simp] theorem missedDecisions_width : counterWidth missedDecisions = 32 := by decide
@[simp] theorem pulsesInterrupted_width : counterWidth pulsesInterrupted = 32 := by decide
@[simp] theorem pulsesMissed_width : counterWidth pulsesMissed = 32 := by decide
@[simp] theorem outputNotDriven_width : counterWidth outputNotDriven = 32 := by decide
@[simp] theorem disabledChannelRequests_width : counterWidth disabledChannelRequests = 32 := by decide
@[simp] theorem fireEdgesMeasured_width : counterWidth fireEdgesMeasured = 64 := by decide
@[simp] theorem fireEdgesOutside_width : counterWidth fireEdgesOutside = 32 := by decide
@[simp] theorem sensorSupplyTrips_width : counterWidth sensorSupplyTrips = 32 := by decide
@[simp] theorem waitersPeak_width : counterWidth waitersPeak = 16 := by decide
@[simp] theorem knotOps_width : counterWidth knotOps = 64 := by decide
@[simp] theorem knotSaturations_width : counterWidth knotSaturations = 32 := by decide
@[simp] theorem waitTimeouts_width : counterWidth waitTimeouts = 32 := by decide
@[simp] theorem ownerResetReleases_width : counterWidth ownerResetReleases = 32 := by decide
@[simp] theorem frozenRefusals_width : counterWidth frozenRefusals = 32 := by decide
@[simp] theorem knotOpsRefused_width : counterWidth knotOpsRefused = 32 := by decide
@[simp] theorem tetherErrorCompletions_width : counterWidth tetherErrorCompletions = 32 := by decide
@[simp] theorem groupSkews_width : counterWidth groupSkews = 32 := by decide
@[simp] theorem commandsCompleted_width : counterWidth commandsCompleted = 64 := by decide
@[simp] theorem doorbellsRefused_width : counterWidth doorbellsRefused = 32 := by decide
@[simp] theorem imagesDropped_width : counterWidth imagesDropped = 32 := by decide
@[simp] theorem recordsUnrouted_width : counterWidth recordsUnrouted = 32 := by decide
@[simp] theorem domainSwitches_width : counterWidth domainSwitches = 32 := by decide
@[simp] theorem timeSteps_width : counterWidth timeSteps = 32 := by decide
@[simp] theorem timeHoldoverEntries_width : counterWidth timeHoldoverEntries = 32 := by decide
@[simp] theorem faultLogOverwritten_width : counterWidth faultLogOverwritten = 32 := by decide
@[simp] theorem faultRecordsSuppressed_width : counterWidth faultRecordsSuppressed = 32 := by decide
@[simp] theorem recoveries_width : counterWidth recoveries = 32 := by decide
@[simp] theorem gapRecords_width : counterWidth gapRecords = 32 := by decide
@[simp] theorem throttleEvents_width : counterWidth throttleEvents = 32 := by decide
@[simp] theorem voltageSteps_width : counterWidth voltageSteps = 32 := by decide
@[simp] theorem clockSteps_width : counterWidth clockSteps = 32 := by decide
@[simp] theorem selfTestFailures_width : counterWidth selfTestFailures = 16 := by decide

end Sys2Proof.Machine.K
end

