-- ==== Sys2Proof/Laws/Reads.lean ====
section
/-! SUPPORT. What reads back after the setters: the value set at its own number, and the value before at every other. -/

-- one theorem after another: see NOTES.md
set_option Elab.async false

namespace Sys2Proof.Machine

@[simp] theorem Entries.has_all (k : Nat) : Entries.all.has k = true := rfl

@[simp] theorem Entries.has_only (l : List Nat) (k : Nat) : (Entries.only l).has k = l.any fun i =>
    (decide (k / 256 < 65536) && k / 256 == i) || (k / 256 == i / 256 && k % 256 == i % 256) := rfl

/-! ### Record updates: what a read finds that rests on areas an update leaves alone -/

@[simp] theorem State.reg_update (s : State) {mfg' : Mfg} (hm : mfg' = s.mfg) (k : Nat) {pending' : List Instr} {tick' : Nat} {freeN' : Nat} {blobs' : SMap (List Byte)} {ctl' : Ctl} {belt' : Belt} {supplies' : Supplies} {intake' : Intake} {pipe' : Pipe} {engine' : Engine} {tracks' : Tracks} {eject' : Eject} {field' : Field} {memory' : Memory} {knots' : Knots} {host' : HostLink} {net' : Net} {faults' : FaultUnit} {power' : Power} {perf' : Perf} {boot' : Boot} {out' : List Output} :
    ({ pending := pending', tick := tick', freeN := freeN', mfg := mfg', regs := s.regs, blobs := blobs', ctl := ctl', belt := belt', supplies := supplies', intake := intake', pipe := pipe', engine := engine', tracks := tracks', eject := eject', field := field', memory := memory', knots := knots', host := host', net := net', faults := faults', power := power', perf := perf', boot := boot', out := out' } : State).reg k = s.reg k := by subst hm; rfl

@[simp] theorem State.flag_update (s : State) {mfg' : Mfg} (hm : mfg' = s.mfg) (k : Nat) {pending' : List Instr} {tick' : Nat} {freeN' : Nat} {blobs' : SMap (List Byte)} {ctl' : Ctl} {belt' : Belt} {supplies' : Supplies} {intake' : Intake} {pipe' : Pipe} {engine' : Engine} {tracks' : Tracks} {eject' : Eject} {field' : Field} {memory' : Memory} {knots' : Knots} {host' : HostLink} {net' : Net} {faults' : FaultUnit} {power' : Power} {perf' : Perf} {boot' : Boot} {out' : List Output} :
    ({ pending := pending', tick := tick', freeN := freeN', mfg := mfg', regs := s.regs, blobs := blobs', ctl := ctl', belt := belt', supplies := supplies', intake := intake', pipe := pipe', engine := engine', tracks := tracks', eject := eject', field := field', memory := memory', knots := knots', host := host', net := net', faults := faults', power := power', perf := perf', boot := boot', out := out' } : State).flag k = s.flag k := by subst hm; rfl

@[simp] theorem State.sreg_update (s : State) {mfg' : Mfg} (hm : mfg' = s.mfg) (w k : Nat) {pending' : List Instr} {tick' : Nat} {freeN' : Nat} {blobs' : SMap (List Byte)} {ctl' : Ctl} {belt' : Belt} {supplies' : Supplies} {intake' : Intake} {pipe' : Pipe} {engine' : Engine} {tracks' : Tracks} {eject' : Eject} {field' : Field} {memory' : Memory} {knots' : Knots} {host' : HostLink} {net' : Net} {faults' : FaultUnit} {power' : Power} {perf' : Perf} {boot' : Boot} {out' : List Output} :
    ({ pending := pending', tick := tick', freeN := freeN', mfg := mfg', regs := s.regs, blobs := blobs', ctl := ctl', belt := belt', supplies := supplies', intake := intake', pipe := pipe', engine := engine', tracks := tracks', eject := eject', field := field', memory := memory', knots := knots', host := host', net := net', faults := faults', power := power', perf := perf', boot := boot', out := out' } : State).sreg w k = s.sreg w k := by subst hm; rfl

@[simp] theorem State.blob_update (s : State) {mfg' : Mfg} (hm : mfg' = s.mfg) (k : Nat) {pending' : List Instr} {tick' : Nat} {freeN' : Nat} {regs' : SMap Nat} {ctl' : Ctl} {belt' : Belt} {supplies' : Supplies} {intake' : Intake} {pipe' : Pipe} {engine' : Engine} {tracks' : Tracks} {eject' : Eject} {field' : Field} {memory' : Memory} {knots' : Knots} {host' : HostLink} {net' : Net} {faults' : FaultUnit} {power' : Power} {perf' : Perf} {boot' : Boot} {out' : List Output} :
    ({ pending := pending', tick := tick', freeN := freeN', mfg := mfg', regs := regs', blobs := s.blobs, ctl := ctl', belt := belt', supplies := supplies', intake := intake', pipe := pipe', engine := engine', tracks := tracks', eject := eject', field := field', memory := memory', knots := knots', host := host', net := net', faults := faults', power := power', perf := perf', boot := boot', out := out' } : State).blob k = s.blob k := by subst hm; rfl

@[simp] theorem State.ctx_update (s : State) (c : Nat) {pending' : List Instr} {tick' : Nat} {freeN' : Nat} {mfg' : Mfg} {regs' : SMap Nat} {blobs' : SMap (List Byte)} {ctl' : Ctl} {belt' : Belt} {supplies' : Supplies} {intake' : Intake} {pipe' : Pipe} {tracks' : Tracks} {eject' : Eject} {field' : Field} {memory' : Memory} {knots' : Knots} {host' : HostLink} {net' : Net} {faults' : FaultUnit} {power' : Power} {perf' : Perf} {boot' : Boot} {out' : List Output} :
    ({ pending := pending', tick := tick', freeN := freeN', mfg := mfg', regs := regs', blobs := blobs', ctl := ctl', belt := belt', supplies := supplies', intake := intake', pipe := pipe', engine := s.engine, tracks := tracks', eject := eject', field := field', memory := memory', knots := knots', host := host', net := net', faults := faults', power := power', perf := perf', boot := boot', out := out' } : State).ctx c = s.ctx c := rfl

@[simp] theorem State.planSlot_update (s : State) (n : Nat) {pending' : List Instr} {tick' : Nat} {freeN' : Nat} {mfg' : Mfg} {regs' : SMap Nat} {blobs' : SMap (List Byte)} {ctl' : Ctl} {belt' : Belt} {supplies' : Supplies} {intake' : Intake} {pipe' : Pipe} {tracks' : Tracks} {eject' : Eject} {field' : Field} {memory' : Memory} {knots' : Knots} {host' : HostLink} {net' : Net} {faults' : FaultUnit} {power' : Power} {perf' : Perf} {boot' : Boot} {out' : List Output} :
    ({ pending := pending', tick := tick', freeN := freeN', mfg := mfg', regs := regs', blobs := blobs', ctl := ctl', belt := belt', supplies := supplies', intake := intake', pipe := pipe', engine := s.engine, tracks := tracks', eject := eject', field := field', memory := memory', knots := knots', host := host', net := net', faults := faults', power := power', perf := perf', boot := boot', out := out' } : State).planSlot n = s.planSlot n := rfl

@[simp] theorem State.cam_update (s : State) (n : Nat) {pending' : List Instr} {tick' : Nat} {freeN' : Nat} {mfg' : Mfg} {regs' : SMap Nat} {blobs' : SMap (List Byte)} {ctl' : Ctl} {belt' : Belt} {supplies' : Supplies} {pipe' : Pipe} {engine' : Engine} {tracks' : Tracks} {eject' : Eject} {field' : Field} {memory' : Memory} {knots' : Knots} {host' : HostLink} {net' : Net} {faults' : FaultUnit} {power' : Power} {perf' : Perf} {boot' : Boot} {out' : List Output} :
    ({ pending := pending', tick := tick', freeN := freeN', mfg := mfg', regs := regs', blobs := blobs', ctl := ctl', belt := belt', supplies := supplies', intake := s.intake, pipe := pipe', engine := engine', tracks := tracks', eject := eject', field := field', memory := memory', knots := knots', host := host', net := net', faults := faults', power := power', perf := perf', boot := boot', out := out' } : State).cam n = s.cam n := rfl

@[simp] theorem State.stream_update (s : State) (n : Nat) {pending' : List Instr} {tick' : Nat} {freeN' : Nat} {mfg' : Mfg} {regs' : SMap Nat} {blobs' : SMap (List Byte)} {ctl' : Ctl} {belt' : Belt} {supplies' : Supplies} {pipe' : Pipe} {engine' : Engine} {tracks' : Tracks} {eject' : Eject} {field' : Field} {memory' : Memory} {knots' : Knots} {host' : HostLink} {net' : Net} {faults' : FaultUnit} {power' : Power} {perf' : Perf} {boot' : Boot} {out' : List Output} :
    ({ pending := pending', tick := tick', freeN := freeN', mfg := mfg', regs := regs', blobs := blobs', ctl := ctl', belt := belt', supplies := supplies', intake := s.intake, pipe := pipe', engine := engine', tracks := tracks', eject := eject', field := field', memory := memory', knots := knots', host := host', net := net', faults := faults', power := power', perf := perf', boot := boot', out := out' } : State).stream n = s.stream n := rfl

@[simp] theorem State.enc_update (s : State) (n : Nat) {pending' : List Instr} {tick' : Nat} {freeN' : Nat} {mfg' : Mfg} {regs' : SMap Nat} {blobs' : SMap (List Byte)} {ctl' : Ctl} {belt' : Belt} {supplies' : Supplies} {intake' : Intake} {pipe' : Pipe} {engine' : Engine} {tracks' : Tracks} {eject' : Eject} {memory' : Memory} {knots' : Knots} {host' : HostLink} {net' : Net} {faults' : FaultUnit} {power' : Power} {perf' : Perf} {boot' : Boot} {out' : List Output} :
    ({ pending := pending', tick := tick', freeN := freeN', mfg := mfg', regs := regs', blobs := blobs', ctl := ctl', belt := belt', supplies := supplies', intake := intake', pipe := pipe', engine := engine', tracks := tracks', eject := eject', field := s.field, memory := memory', knots := knots', host := host', net := net', faults := faults', power := power', perf := perf', boot := boot', out := out' } : State).enc n = s.enc n := rfl

@[simp] theorem State.input_update (s : State) (n : Nat) {pending' : List Instr} {tick' : Nat} {freeN' : Nat} {mfg' : Mfg} {regs' : SMap Nat} {blobs' : SMap (List Byte)} {ctl' : Ctl} {belt' : Belt} {supplies' : Supplies} {intake' : Intake} {pipe' : Pipe} {engine' : Engine} {tracks' : Tracks} {eject' : Eject} {memory' : Memory} {knots' : Knots} {host' : HostLink} {net' : Net} {faults' : FaultUnit} {power' : Power} {perf' : Perf} {boot' : Boot} {out' : List Output} :
    ({ pending := pending', tick := tick', freeN := freeN', mfg := mfg', regs := regs', blobs := blobs', ctl := ctl', belt := belt', supplies := supplies', intake := intake', pipe := pipe', engine := engine', tracks := tracks', eject := eject', field := s.field, memory := memory', knots := knots', host := host', net := net', faults := faults', power := power', perf := perf', boot := boot', out := out' } : State).input n = s.input n := rfl

@[simp] theorem State.dirOut_update (s : State) (n : Nat) {pending' : List Instr} {tick' : Nat} {freeN' : Nat} {mfg' : Mfg} {regs' : SMap Nat} {blobs' : SMap (List Byte)} {ctl' : Ctl} {belt' : Belt} {supplies' : Supplies} {intake' : Intake} {pipe' : Pipe} {engine' : Engine} {tracks' : Tracks} {eject' : Eject} {memory' : Memory} {knots' : Knots} {host' : HostLink} {net' : Net} {faults' : FaultUnit} {power' : Power} {perf' : Perf} {boot' : Boot} {out' : List Output} :
    ({ pending := pending', tick := tick', freeN := freeN', mfg := mfg', regs := regs', blobs := blobs', ctl := ctl', belt := belt', supplies := supplies', intake := intake', pipe := pipe', engine := engine', tracks := tracks', eject := eject', field := s.field, memory := memory', knots := knots', host := host', net := net', faults := faults', power := power', perf := perf', boot := boot', out := out' } : State).dirOut n = s.dirOut n := rfl

@[simp] theorem State.vl_update (s : State) (n : Nat) {pending' : List Instr} {tick' : Nat} {freeN' : Nat} {mfg' : Mfg} {regs' : SMap Nat} {blobs' : SMap (List Byte)} {ctl' : Ctl} {belt' : Belt} {supplies' : Supplies} {intake' : Intake} {pipe' : Pipe} {engine' : Engine} {tracks' : Tracks} {eject' : Eject} {memory' : Memory} {knots' : Knots} {host' : HostLink} {net' : Net} {faults' : FaultUnit} {power' : Power} {perf' : Perf} {boot' : Boot} {out' : List Output} :
    ({ pending := pending', tick := tick', freeN := freeN', mfg := mfg', regs := regs', blobs := blobs', ctl := ctl', belt := belt', supplies := supplies', intake := intake', pipe := pipe', engine := engine', tracks := tracks', eject := eject', field := s.field, memory := memory', knots := knots', host := host', net := net', faults := faults', power := power', perf := perf', boot := boot', out := out' } : State).vl n = s.vl n := rfl

@[simp] theorem State.pctx_update (s : State) (n : Nat) {pending' : List Instr} {tick' : Nat} {freeN' : Nat} {mfg' : Mfg} {regs' : SMap Nat} {blobs' : SMap (List Byte)} {ctl' : Ctl} {belt' : Belt} {supplies' : Supplies} {intake' : Intake} {engine' : Engine} {tracks' : Tracks} {eject' : Eject} {field' : Field} {memory' : Memory} {knots' : Knots} {host' : HostLink} {net' : Net} {faults' : FaultUnit} {power' : Power} {perf' : Perf} {boot' : Boot} {out' : List Output} :
    ({ pending := pending', tick := tick', freeN := freeN', mfg := mfg', regs := regs', blobs := blobs', ctl := ctl', belt := belt', supplies := supplies', intake := intake', pipe := s.pipe, engine := engine', tracks := tracks', eject := eject', field := field', memory := memory', knots := knots', host := host', net := net', faults := faults', power := power', perf := perf', boot := boot', out := out' } : State).pctx n = s.pctx n := rfl

@[simp] theorem State.port_update (s : State) (n : Nat) {pending' : List Instr} {tick' : Nat} {freeN' : Nat} {mfg' : Mfg} {regs' : SMap Nat} {blobs' : SMap (List Byte)} {ctl' : Ctl} {belt' : Belt} {supplies' : Supplies} {intake' : Intake} {pipe' : Pipe} {engine' : Engine} {tracks' : Tracks} {eject' : Eject} {field' : Field} {memory' : Memory} {knots' : Knots} {net' : Net} {faults' : FaultUnit} {power' : Power} {perf' : Perf} {boot' : Boot} {out' : List Output} :
    ({ pending := pending', tick := tick', freeN := freeN', mfg := mfg', regs := regs', blobs := blobs', ctl := ctl', belt := belt', supplies := supplies', intake := intake', pipe := pipe', engine := engine', tracks := tracks', eject := eject', field := field', memory := memory', knots := knots', host := s.host, net := net', faults := faults', power := power', perf := perf', boot := boot', out := out' } : State).port n = s.port n := rfl

@[simp] theorem State.queue_update (s : State) (n : Nat) {pending' : List Instr} {tick' : Nat} {freeN' : Nat} {mfg' : Mfg} {regs' : SMap Nat} {blobs' : SMap (List Byte)} {ctl' : Ctl} {belt' : Belt} {supplies' : Supplies} {intake' : Intake} {pipe' : Pipe} {engine' : Engine} {tracks' : Tracks} {eject' : Eject} {field' : Field} {memory' : Memory} {knots' : Knots} {net' : Net} {faults' : FaultUnit} {power' : Power} {perf' : Perf} {boot' : Boot} {out' : List Output} :
    ({ pending := pending', tick := tick', freeN := freeN', mfg := mfg', regs := regs', blobs := blobs', ctl := ctl', belt := belt', supplies := supplies', intake := intake', pipe := pipe', engine := engine', tracks := tracks', eject := eject', field := field', memory := memory', knots := knots', host := s.host, net := net', faults := faults', power := power', perf := perf', boot := boot', out := out' } : State).queue n = s.queue n := rfl

@[simp] theorem State.ring_update (s : State) (n : Nat) {pending' : List Instr} {tick' : Nat} {freeN' : Nat} {mfg' : Mfg} {regs' : SMap Nat} {blobs' : SMap (List Byte)} {ctl' : Ctl} {belt' : Belt} {supplies' : Supplies} {intake' : Intake} {pipe' : Pipe} {engine' : Engine} {tracks' : Tracks} {eject' : Eject} {field' : Field} {memory' : Memory} {knots' : Knots} {net' : Net} {faults' : FaultUnit} {power' : Power} {perf' : Perf} {boot' : Boot} {out' : List Output} :
    ({ pending := pending', tick := tick', freeN := freeN', mfg := mfg', regs := regs', blobs := blobs', ctl := ctl', belt := belt', supplies := supplies', intake := intake', pipe := pipe', engine := engine', tracks := tracks', eject := eject', field := field', memory := memory', knots := knots', host := s.host, net := net', faults := faults', power := power', perf := perf', boot := boot', out := out' } : State).ring n = s.ring n := rfl

@[simp] theorem State.knot_update (s : State) (n : Nat) {pending' : List Instr} {tick' : Nat} {freeN' : Nat} {mfg' : Mfg} {regs' : SMap Nat} {blobs' : SMap (List Byte)} {ctl' : Ctl} {belt' : Belt} {supplies' : Supplies} {intake' : Intake} {pipe' : Pipe} {engine' : Engine} {tracks' : Tracks} {eject' : Eject} {field' : Field} {memory' : Memory} {host' : HostLink} {net' : Net} {faults' : FaultUnit} {power' : Power} {perf' : Perf} {boot' : Boot} {out' : List Output} :
    ({ pending := pending', tick := tick', freeN := freeN', mfg := mfg', regs := regs', blobs := blobs', ctl := ctl', belt := belt', supplies := supplies', intake := intake', pipe := pipe', engine := engine', tracks := tracks', eject := eject', field := field', memory := memory', knots := s.knots, host := host', net := net', faults := faults', power := power', perf := perf', boot := boot', out := out' } : State).knot n = s.knot n := rfl

@[simp] theorem State.tport_update (s : State) (n : Nat) {pending' : List Instr} {tick' : Nat} {freeN' : Nat} {mfg' : Mfg} {regs' : SMap Nat} {blobs' : SMap (List Byte)} {ctl' : Ctl} {belt' : Belt} {supplies' : Supplies} {intake' : Intake} {pipe' : Pipe} {engine' : Engine} {tracks' : Tracks} {eject' : Eject} {field' : Field} {memory' : Memory} {host' : HostLink} {net' : Net} {faults' : FaultUnit} {power' : Power} {perf' : Perf} {boot' : Boot} {out' : List Output} :
    ({ pending := pending', tick := tick', freeN := freeN', mfg := mfg', regs := regs', blobs := blobs', ctl := ctl', belt := belt', supplies := supplies', intake := intake', pipe := pipe', engine := engine', tracks := tracks', eject := eject', field := field', memory := memory', knots := s.knots, host := host', net := net', faults := faults', power := power', perf := perf', boot := boot', out := out' } : State).tport n = s.tport n := rfl

@[simp] theorem State.mlink_update (s : State) (n : Nat) {pending' : List Instr} {tick' : Nat} {freeN' : Nat} {mfg' : Mfg} {regs' : SMap Nat} {blobs' : SMap (List Byte)} {ctl' : Ctl} {belt' : Belt} {supplies' : Supplies} {intake' : Intake} {pipe' : Pipe} {engine' : Engine} {tracks' : Tracks} {eject' : Eject} {field' : Field} {knots' : Knots} {host' : HostLink} {net' : Net} {faults' : FaultUnit} {power' : Power} {perf' : Perf} {boot' : Boot} {out' : List Output} :
    ({ pending := pending', tick := tick', freeN := freeN', mfg := mfg', regs := regs', blobs := blobs', ctl := ctl', belt := belt', supplies := supplies', intake := intake', pipe := pipe', engine := engine', tracks := tracks', eject := eject', field := field', memory := s.memory, knots := knots', host := host', net := net', faults := faults', power := power', perf := perf', boot := boot', out := out' } : State).mlink n = s.mlink n := rfl

@[simp] theorem State.ethPort_update (s : State) (n : Nat) {pending' : List Instr} {tick' : Nat} {freeN' : Nat} {mfg' : Mfg} {regs' : SMap Nat} {blobs' : SMap (List Byte)} {ctl' : Ctl} {belt' : Belt} {supplies' : Supplies} {intake' : Intake} {pipe' : Pipe} {engine' : Engine} {tracks' : Tracks} {eject' : Eject} {field' : Field} {memory' : Memory} {knots' : Knots} {host' : HostLink} {faults' : FaultUnit} {power' : Power} {perf' : Perf} {boot' : Boot} {out' : List Output} :
    ({ pending := pending', tick := tick', freeN := freeN', mfg := mfg', regs := regs', blobs := blobs', ctl := ctl', belt := belt', supplies := supplies', intake := intake', pipe := pipe', engine := engine', tracks := tracks', eject := eject', field := field', memory := memory', knots := knots', host := host', net := s.net, faults := faults', power := power', perf := perf', boot := boot', out := out' } : State).ethPort n = s.ethPort n := rfl

@[simp] theorem State.domain_update (s : State) (n : Nat) {pending' : List Instr} {tick' : Nat} {freeN' : Nat} {mfg' : Mfg} {regs' : SMap Nat} {blobs' : SMap (List Byte)} {ctl' : Ctl} {belt' : Belt} {supplies' : Supplies} {intake' : Intake} {pipe' : Pipe} {engine' : Engine} {tracks' : Tracks} {eject' : Eject} {field' : Field} {memory' : Memory} {knots' : Knots} {host' : HostLink} {faults' : FaultUnit} {power' : Power} {perf' : Perf} {boot' : Boot} {out' : List Output} :
    ({ pending := pending', tick := tick', freeN := freeN', mfg := mfg', regs := regs', blobs := blobs', ctl := ctl', belt := belt', supplies := supplies', intake := intake', pipe := pipe', engine := engine', tracks := tracks', eject := eject', field := field', memory := memory', knots := knots', host := host', net := s.net, faults := faults', power := power', perf := perf', boot := boot', out := out' } : State).domain n = s.domain n := rfl

@[simp] theorem State.track_update (s : State) (n : Nat) {pending' : List Instr} {tick' : Nat} {freeN' : Nat} {mfg' : Mfg} {regs' : SMap Nat} {blobs' : SMap (List Byte)} {ctl' : Ctl} {belt' : Belt} {supplies' : Supplies} {intake' : Intake} {pipe' : Pipe} {engine' : Engine} {eject' : Eject} {field' : Field} {memory' : Memory} {knots' : Knots} {host' : HostLink} {net' : Net} {faults' : FaultUnit} {power' : Power} {perf' : Perf} {boot' : Boot} {out' : List Output} :
    ({ pending := pending', tick := tick', freeN := freeN', mfg := mfg', regs := regs', blobs := blobs', ctl := ctl', belt := belt', supplies := supplies', intake := intake', pipe := pipe', engine := engine', tracks := s.tracks, eject := eject', field := field', memory := memory', knots := knots', host := host', net := net', faults := faults', power := power', perf := perf', boot := boot', out := out' } : State).track n = s.track n := rfl

@[simp] theorem State.cmdRead_update (s : State) (k : Nat) {pending' : List Instr} {tick' : Nat} {freeN' : Nat} {mfg' : Mfg} {regs' : SMap Nat} {blobs' : SMap (List Byte)} {belt' : Belt} {supplies' : Supplies} {intake' : Intake} {pipe' : Pipe} {engine' : Engine} {tracks' : Tracks} {eject' : Eject} {field' : Field} {memory' : Memory} {knots' : Knots} {host' : HostLink} {net' : Net} {faults' : FaultUnit} {power' : Power} {perf' : Perf} {boot' : Boot} {out' : List Output} :
    ({ pending := pending', tick := tick', freeN := freeN', mfg := mfg', regs := regs', blobs := blobs', ctl := s.ctl, belt := belt', supplies := supplies', intake := intake', pipe := pipe', engine := engine', tracks := tracks', eject := eject', field := field', memory := memory', knots := knots', host := host', net := net', faults := faults', power := power', perf := perf', boot := boot', out := out' } : State).cmdRead k = s.cmdRead k := rfl

@[simp] theorem State.gate_update (s : State) {mfg' : Mfg} (hm : mfg' = s.mfg) (sess k : Nat) {pending' : List Instr} {tick' : Nat} {freeN' : Nat} {blobs' : SMap (List Byte)} {belt' : Belt} {supplies' : Supplies} {intake' : Intake} {pipe' : Pipe} {engine' : Engine} {tracks' : Tracks} {eject' : Eject} {field' : Field} {memory' : Memory} {knots' : Knots} {host' : HostLink} {net' : Net} {power' : Power} {perf' : Perf} {boot' : Boot} {out' : List Output} :
    ({ pending := pending', tick := tick', freeN := freeN', mfg := mfg', regs := s.regs, blobs := blobs', ctl := s.ctl, belt := belt', supplies := supplies', intake := intake', pipe := pipe', engine := engine', tracks := tracks', eject := eject', field := field', memory := memory', knots := knots', host := host', net := net', faults := s.faults, power := power', perf := perf', boot := boot', out := out' } : State).gate sess k = s.gate sess k := by subst hm; rfl

@[simp] theorem State.localTime_update (s : State)  {pending' : List Instr} {freeN' : Nat} {mfg' : Mfg} {regs' : SMap Nat} {blobs' : SMap (List Byte)} {ctl' : Ctl} {belt' : Belt} {supplies' : Supplies} {intake' : Intake} {pipe' : Pipe} {engine' : Engine} {tracks' : Tracks} {eject' : Eject} {field' : Field} {memory' : Memory} {knots' : Knots} {host' : HostLink} {net' : Net} {faults' : FaultUnit} {power' : Power} {perf' : Perf} {boot' : Boot} {out' : List Output} :
    ({ pending := pending', tick := s.tick, freeN := freeN', mfg := mfg', regs := regs', blobs := blobs', ctl := ctl', belt := belt', supplies := supplies', intake := intake', pipe := pipe', engine := engine', tracks := tracks', eject := eject', field := field', memory := memory', knots := knots', host := host', net := net', faults := faults', power := power', perf := perf', boot := boot', out := out' } : State).localTime  = s.localTime  := rfl

@[simp] theorem State.pos_update (s : State)  {pending' : List Instr} {tick' : Nat} {freeN' : Nat} {mfg' : Mfg} {regs' : SMap Nat} {blobs' : SMap (List Byte)} {ctl' : Ctl} {supplies' : Supplies} {intake' : Intake} {pipe' : Pipe} {engine' : Engine} {tracks' : Tracks} {eject' : Eject} {field' : Field} {memory' : Memory} {knots' : Knots} {host' : HostLink} {net' : Net} {faults' : FaultUnit} {power' : Power} {perf' : Perf} {boot' : Boot} {out' : List Output} :
    ({ pending := pending', tick := tick', freeN := freeN', mfg := mfg', regs := regs', blobs := blobs', ctl := ctl', belt := s.belt, supplies := supplies', intake := intake', pipe := pipe', engine := engine', tracks := tracks', eject := eject', field := field', memory := memory', knots := knots', host := host', net := net', faults := faults', power := power', perf := perf', boot := boot', out := out' } : State).pos  = s.pos  := rfl

@[simp] theorem State.timeRuns_update (s : State)  {pending' : List Instr} {tick' : Nat} {freeN' : Nat} {mfg' : Mfg} {regs' : SMap Nat} {blobs' : SMap (List Byte)} {ctl' : Ctl} {belt' : Belt} {intake' : Intake} {pipe' : Pipe} {engine' : Engine} {tracks' : Tracks} {eject' : Eject} {field' : Field} {memory' : Memory} {knots' : Knots} {host' : HostLink} {net' : Net} {faults' : FaultUnit} {perf' : Perf} {out' : List Output} :
    ({ pending := pending', tick := tick', freeN := freeN', mfg := mfg', regs := regs', blobs := blobs', ctl := ctl', belt := belt', supplies := s.supplies, intake := intake', pipe := pipe', engine := engine', tracks := tracks', eject := eject', field := field', memory := memory', knots := knots', host := host', net := net', faults := faults', power := s.power, perf := perf', boot := s.boot, out := out' } : State).timeRuns  = s.timeRuns  := rfl

@[simp] theorem State.committing_update (s : State)  {pending' : List Instr} {tick' : Nat} {freeN' : Nat} {mfg' : Mfg} {regs' : SMap Nat} {blobs' : SMap (List Byte)} {belt' : Belt} {supplies' : Supplies} {intake' : Intake} {pipe' : Pipe} {engine' : Engine} {tracks' : Tracks} {eject' : Eject} {field' : Field} {memory' : Memory} {knots' : Knots} {host' : HostLink} {net' : Net} {faults' : FaultUnit} {power' : Power} {perf' : Perf} {boot' : Boot} {out' : List Output} :
    ({ pending := pending', tick := tick', freeN := freeN', mfg := mfg', regs := regs', blobs := blobs', ctl := s.ctl, belt := belt', supplies := supplies', intake := intake', pipe := pipe', engine := engine', tracks := tracks', eject := eject', field := field', memory := memory', knots := knots', host := host', net := net', faults := faults', power := power', perf := perf', boot := boot', out := out' } : State).committing  = s.committing  := rfl

/-! ### Dictionary values -/

@[simp] theorem State.setReg_get (s : State) (k v : Nat) : (s.setReg k v).reg k = v := by simp [State.setReg_reg]

theorem State.setReg_ne (s : State) {k j : Nat} (v : Nat) (h : j ≠ k) : (s.setReg k v).reg j = s.reg j := by
  simp [State.setReg_reg, h]

theorem State.bump_reg (s : State) (k n j : Nat) :
    (s.bump k n).reg j = if j = k then (s.reg k + n) % 2 ^ counterWidth k else s.reg j := State.setReg_reg ..

theorem State.bumpSat_reg (s : State) (k n j : Nat) :
    (s.bumpSat k n).reg j = if j = k then min (2 ^ counterWidth k - 1) (s.reg k + n) else s.reg j := State.setReg_reg ..

theorem State.peak_reg (s : State) (k v j : Nat) :
    (s.peak k v).reg j = if j = k then max (s.reg k) v else s.reg j := by
  unfold State.peak
  split
  · rw [State.setReg_reg]; split <;> omega
  · split
    · rename_i h; subst h; omega
    · rfl

@[simp] theorem State.setBlob_get (s : State) (k : Nat) (v : List Byte) : (s.setBlob k v).blob k = v := by
  simp [State.setBlob, State.blob]

/-! ### Numbered units -/

theorem State.setEnc_enc (s : State) (c : Nat) (x : EncChan) (d : Nat) :
    (s.setEnc c x).enc d = if d = c then x else s.enc d := by
  simp only [State.setEnc, State.enc, SMap.get_set]; repeat' split
  all_goals simp_all

theorem State.setCtx_ctx (s : State) (c : Nat) (x : Context) (d : Nat) :
    (s.setCtx c x).ctx d = if d = c then x else s.ctx d := by
  simp only [State.setCtx, State.ctx, SMap.get_set]; repeat' split
  all_goals simp_all

theorem State.setPort_port (s : State) (c : Nat) (x : HostPort) (d : Nat) :
    (s.setPort c x).port d = if d = c then x else s.port d := by
  simp only [State.setPort, State.port, SMap.get_set]; repeat' split
  all_goals simp_all

theorem State.setQueue_queue (s : State) (c : Nat) (x : EvQueue) (d : Nat) :
    (s.setQueue c x).queue d = if d = c then x else s.queue d := by
  simp only [State.setQueue, State.queue, SMap.get_set]; repeat' split
  all_goals simp_all

theorem State.setRing_ring (s : State) (c : Nat) (x : Ring) (d : Nat) :
    (s.setRing c x).ring d = if d = c then x else s.ring d := by
  simp only [State.setRing, State.ring, SMap.get_set]; repeat' split
  all_goals simp_all

theorem State.setKnot_knot (s : State) (c : Nat) (x : Knot) (d : Nat) :
    (s.setKnot c x).knot d = if d = c then x else s.knot d := by
  simp only [State.setKnot, State.knot, SMap.get_set]; repeat' split
  all_goals simp_all

theorem State.setCam_cam (s : State) (c : Nat) (x : CamLink) (d : Nat) :
    (s.setCam c x).cam d = if d = c then x else s.cam d := by
  simp only [State.setCam, State.cam, SMap.get_set, State.setReg_same]; repeat' split
  all_goals simp_all

theorem State.setStream_stream (s : State) (c : Nat) (x : Stream) (d : Nat) :
    (s.setStream c x).stream d = if d = c then x else s.stream d := by
  simp only [State.setStream, State.stream, SMap.get_set, State.setReg_same]; repeat' split
  all_goals simp_all

theorem State.setPctx_pctx (s : State) (c : Nat) (x : PipeCtx) (d : Nat) :
    (s.setPctx c x).pctx d = if d = c then x else s.pctx d := by
  simp only [State.setPctx, State.pctx, SMap.get_set, State.setReg_same]; repeat' split
  all_goals simp_all

theorem State.setOut_dirOut (s : State) (c : Nat) (x : DirOut) (d : Nat) :
    (s.setOut c x).dirOut d = if d = c then x else s.dirOut d := by
  simp only [State.setOut, State.dirOut, SMap.get_set]; repeat' split
  all_goals simp_all

theorem State.setInput_input (s : State) (c : Nat) (x : Input) (d : Nat) :
    (s.setInput c x).input d = if d = c then x else s.input d := by
  simp only [State.setInput, State.input, SMap.get_set]; repeat' split
  all_goals simp_all

theorem State.setVl_vl (s : State) (c : Nat) (x : VLink) (d : Nat) :
    (s.setVl c x).vl d = if d = c then x else s.vl d := by
  simp only [State.setVl, State.vl, SMap.get_set, State.setReg_same]; repeat' split
  all_goals simp_all

theorem State.setMlink_mlink (s : State) (c : Nat) (x : MLink) (d : Nat) :
    (s.setMlink c x).mlink d = if d = c then x else s.mlink d := by
  simp only [State.setMlink, State.mlink, SMap.get_set]; repeat' split
  all_goals simp_all

theorem State.setTport_tport (s : State) (c : Nat) (x : TPort) (d : Nat) :
    (s.setTport c x).tport d = if d = c then x else s.tport d := by
  simp only [State.setTport, State.tport, SMap.get_set]; repeat' split
  all_goals simp_all

theorem State.setEth_ethPort (s : State) (c : Nat) (x : EthPort) (d : Nat) :
    (s.setEth c x).ethPort d = if d = c then x else s.ethPort d := by
  simp only [State.setEth, State.ethPort, SMap.get_set]; repeat' split
  all_goals simp_all

theorem State.setDomain_domain (s : State) (c : Nat) (x : Domain) (d : Nat) :
    (s.setDomain c x).domain d = if d = c then x else s.domain d := by
  simp only [State.setDomain, State.domain, SMap.get_set]; repeat' split
  all_goals simp_all

theorem State.setTrack_track (s : State) (c : Nat) (x : Track) (d : Nat) :
    (s.setTrack c x).track d = if d = c then x else s.track d := by
  simp only [State.setTrack, State.track, SMap.get_set]; repeat' split
  all_goals simp_all

theorem State.setSlot_planSlot (s : State) (c : Nat) (x : PlanSlot) (d : Nat) :
    (s.setSlot c x).planSlot d = if d = c then x else s.planSlot d := by
  simp only [State.setSlot, State.planSlot, SMap.get_set]; repeat' split
  all_goals simp_all

/-! ### Commands through the dictionary (R7, R479) -/

@[simp] theorem State.cmdSet_cmdRead (s : State) (k v : Nat) : (s.cmdSet k v).cmdRead k = v := by
  simp [State.cmdSet, State.cmdRead]

/-- The write of a CMD entry that passes the shared checks: the body's effect, and the status that it answers. -/
theorem State.runCmd_ok {s : State} {sess k : Nat} {body : State → Nat × State} (h : s.gate sess k = none) :
    s.runCmd sess k body = (body s).2.answer sess k (body s).1 := by
  simp [State.runCmd, State.command, h]

end Sys2Proof.Machine
end

