-- ==== Sys2Proof/Laws/Belt.lean ====
section
/-! SUPPORT. What the shared operations of the time unit do to its own fields. -/

-- one theorem after another: see NOTES.md
set_option Elab.async false

namespace Sys2Proof.Machine

/-- All that a change of BeltState does to the time unit. -/
theorem State.setBeltSt_belt (s : State) (st : BeltSt) (d : Dir) :
    (s.setBeltSt st d).belt = { s.belt with
      st, follow := d
      restart := s.belt.restart || ((decide (s.belt.follow ≠ d) || s.belt.st == .lost || s.belt.st == .noSource) &&
        st != .lost && st != .holdover) } := by
  unfold State.setBeltSt
  simp only []
  repeat' split
  all_goals simp [Bool.and_assoc]

/-- All that forming the emitted IBP does. -/
theorem State.formIbp_belt (s : State) : s.formIbp = { s with belt := { s.belt with ibp := s.ibpNow } } := rfl

theorem State.formIbp_bc (s : State) :
    s.formIbp.belt.bc = s.belt.bc ∧ s.formIbp.belt.wPrev = s.belt.wPrev ∧ s.formIbp.belt.latch = s.belt.latch ∧
      s.formIbp.belt.rejected = s.belt.rejected ∧ s.formIbp.belt.lastValid = s.belt.lastValid := by
  simp [State.formIbp_belt]

/-- What a valid sample leaves in the time unit. -/
theorem State.sampleTaken_belt (s : State) (tl word : Nat) (lost sat : Bool) :
    (s.sampleTaken tl word lost sat).belt.bc = s.belt.bc ∧ (s.sampleTaken tl word lost sat).belt.wPrev = word ∧
      (s.sampleTaken tl word lost sat).belt.latch = s.belt.latch ∧
      (s.sampleTaken tl word lost sat).belt.rejected = 0 ∧
      (s.sampleTaken tl word lost sat).belt.lastValid = s.tick := by
  unfold State.sampleTaken
  simp only []
  repeat' split
  all_goals simp [State.formIbp_bc, State.setBeltSt_belt]

end Sys2Proof.Machine
end

