-- ==== Sys2Proof/Laws/Intake.lean ====
section
/-! SUPPORT. What the shared operations of the intake do to the links and the streams. -/

-- one theorem after another: see NOTES.md
set_option Elab.async false

namespace Sys2Proof.Machine

/-- A stream's write leaves every link. -/
@[simp] theorem State.setStream_cam (s : State) (i : Nat) (x : Stream) (l : Nat) : (s.setStream i x).cam l = s.cam l := by
  simp [State.setStream, State.cam]

/-- A link's write leaves every stream. -/
@[simp] theorem State.setCam_stream (s : State) (l : Nat) (x : CamLink) (i : Nat) :
    (s.setCam l x).stream i = s.stream i := by
  simp [State.setCam, State.stream]

@[simp] theorem State.setReg_cam (s : State) (k v l : Nat) : (s.setReg k v).cam l = s.cam l := by simp [State.cam]
@[simp] theorem State.setReg_stream (s : State) (k v l : Nat) : (s.setReg k v).stream l = s.stream l := by
  simp [State.stream]
@[simp] theorem State.bump_cam (s : State) (k n l : Nat) : (s.bump k n).cam l = s.cam l := by simp [State.cam]
@[simp] theorem State.bump_stream (s : State) (k n l : Nat) : (s.bump k n).stream l = s.stream l := by
  simp [State.stream]

@[simp] theorem State.setLine_cam (s : State) (i n : Nat) (x : Line) (l : Nat) : (s.setLine i n x).cam l = s.cam l := by
  unfold State.setLine
  simp only []
  split
  · rfl
  · exact State.setStream_cam ..

/-- Marking a line missing leaves every link. -/
@[simp] theorem State.markMissing_cam (s : State) (i n : Nat) (c slip : Bool) (l : Nat) :
    (s.markMissing i n c slip).cam l = s.cam l := by
  unfold State.markMissing
  simp only []
  repeat' split
  all_goals simp

/-- A fold whose step leaves a view leaves it. -/
theorem foldl_view {α β : Type} (v : State → β) (f : State → α → State) (L : List α) (s : State)
    (h : ∀ s x, v (f s x) = v s) : v (L.foldl f s) = v s := by
  induction L generalizing s with
  | nil => rfl
  | cons x r ih => rw [List.foldl_cons, ih, h]

@[simp] theorem State.missIncomplete_cam (s : State) (i : Nat) (c : Bool) (l : Nat) :
    (s.missIncomplete i c).cam l = s.cam l := by
  unfold State.missIncomplete
  rw [foldl_view (fun s => s.cam l) _ _ _ (fun s x => State.markMissing_cam ..)]

/-- What a line's write leaves of its stream. -/
theorem State.setLine_stream (s : State) (i n : Nat) (x : Line) (j : Nat) :
    ((s.setLine i n x).stream j).st = (s.stream j).st := by
  unfold State.setLine
  simp only []
  split
  · rfl
  · rw [State.setStream_stream]
    split
    · rename_i h; rw [h]
    · rfl

theorem State.markMissing_st (s : State) (i n : Nat) (c slip : Bool) (j : Nat) :
    ((s.markMissing i n c slip).stream j).st = (s.stream j).st := by
  unfold State.markMissing
  simp only []
  repeat' split
  all_goals simp [State.setLine_stream]

theorem State.missIncomplete_st (s : State) (i : Nat) (c : Bool) (j : Nat) :
    ((s.missIncomplete i c).stream j).st = (s.stream j).st := by
  unfold State.missIncomplete
  rw [foldl_view (fun s => (s.stream j).st) _ _ _ (fun s x => State.markMissing_st ..)]

/-- A resync that sends nothing leaves every link. -/
@[simp] theorem State.resync_cam (s : State) (i l : Nat) : (s.resync i false).cam l = s.cam l := by
  unfold State.resync
  simp only []
  repeat' split
  all_goals simp_all

/-- A stream that is up is put into RESYNC. -/
theorem State.resync_st (s : State) (i : Nat) (h : (s.stream i).st = .ready ∨ (s.stream i).st = .streaming) :
    ((s.resync i false).stream i).st = .resync := by
  unfold State.resync
  simp only [h, if_true]
  repeat' split
  all_goals simp_all [State.missIncomplete_st, State.markMissing_st, State.setStream_stream]

/-- A control command that is sent joins the commands of its link. -/
theorem State.camCtl_cam (s : State) (l : Nat) (op : CtlOp) (a : Nat) (d : List Byte) (m : Nat) :
    (s.camCtl l op a d).cam m =
      if m = l then { s.cam l with tag := ((s.cam l).tag + 1) % 256
                                   ctl := (s.cam l).ctl ++ [{ tag := (s.cam l).tag, op, addr := a, data := d, sentAt := s.tick }] }
      else s.cam m := by
  unfold State.camCtl
  simp only []
  have h : ∀ (s : State) j t o e b, (s.sendUplink j t o e b).cam m = s.cam m := fun s j t o e b => by
    have e1 : (s.sendUplink j t o e b).intake = s.intake := (State.sendUplink_changes s j t o e b).areas .intake rfl
    simp [State.cam, e1]
  rw [h, State.setCam_cam]

end Sys2Proof.Machine
end

