-- ==== Sys2Proof/Laws/PerInstr.lean ====
section
/-! SUPPORT. What holds of every command as syntax, one lemma a command: a command that is well formed on the smallest
assembly is well formed on every assembly. -/

-- one theorem after another: see NOTES.md
set_option Elab.async false

namespace Sys2Proof.Laws.SmallestPart
open Sys2Proof Sys2Proof.Machine

/-- Units that the BRL-7121 carries, every other assembly carries too (R1). -/
def Statement (i : Instr) : Prop := i.wf .brl7121 = true → ∀ p : Part, i.wf p = true

theorem links_le (p : Part) : Part.links .brl7121 ≤ p.links := by cases p <;> decide

theorem memDies_le (p : Part) : Part.memDies .brl7121 ≤ p.memDies := by cases p <;> decide

theorem ioDies_le (p : Part) : Part.ioDies .brl7121 ≤ p.ioDies := by cases p <;> decide

theorem encoderSampleLatch : Statement .encoderSampleLatch := fun hw _ => hw

theorem sampleComplete (r : EncRead) : Statement (.sampleComplete r) := fun hw _ => hw

theorem holdoverEntry : Statement .holdoverEntry := fun hw _ => hw

theorem beltLost : Statement .beltLost := fun hw _ => hw

theorem tclkTick : Statement .tclkTick := fun hw _ => hw

theorem beltReorigin (sess : Nat) (val : Nat) : Statement (.beltReorigin sess val) := fun hw _ => hw

theorem timeCopyUpdate : Statement .timeCopyUpdate := fun hw _ => hw

theorem bdpOpen (d : Datagram) : Statement (.bdpOpen d) := fun hw _ => hw

theorem bdpClose (d : Datagram) : Statement (.bdpClose d) := fun hw _ => hw

theorem bdpRead (d : Datagram) : Statement (.bdpRead d) := fun hw _ => hw

theorem bdpWrite (d : Datagram) : Statement (.bdpWrite d) := fun hw _ => hw

theorem bdpKeepalive (d : Datagram) : Statement (.bdpKeepalive d) := fun hw _ => hw

theorem bdpOpcodeUnknown (d : Datagram) : Statement (.bdpOpcodeUnknown d) := fun hw _ => hw

theorem bdpFrameMalformed (d : Datagram) : Statement (.bdpFrameMalformed d) := fun hw _ => hw

theorem bdpSessionTimeout (num : Nat) : Statement (.bdpSessionTimeout num) := fun hw _ => hw

theorem dictionaryWrite (sess : Nat) (idx : Nat) (sub : Nat) (val : List Byte) : Statement (.dictionaryWrite sess idx sub val) := fun hw _ => hw

theorem commit (sess : Nat) : Statement (.commit sess) := fun hw _ => hw

theorem checkOnly (sess : Nat) : Statement (.checkOnly sess) := fun hw _ => hw

theorem commitChecksEnd : Statement .commitChecksEnd := fun hw _ => hw

theorem commitInstant : Statement .commitInstant := fun hw _ => hw

theorem discard (sess : Nat) : Statement (.discard sess) := fun hw _ => hw

theorem fieldBankReset (sess : Nat) (bank : Nat) : Statement (.fieldBankReset sess bank) := fun hw _ => hw

theorem fieldBankTrip (bank : Nat) (ma : Nat) : Statement (.fieldBankTrip bank ma) := fun hw _ => hw

theorem fieldBankSupplyChange (bank : Nat) (mv : Int) : Statement (.fieldBankSupplyChange bank mv) := fun hw _ => hw

theorem cameraSupplyChange (mv : Int) : Statement (.cameraSupplyChange mv) := fun hw _ => hw

theorem logicSupplyDip (mv : Int) : Statement (.logicSupplyDip mv) := fun hw _ => hw

theorem powerFail (mv : Nat) : Statement (.powerFail mv) := fun hw _ => hw

theorem softStartDone (link : Nat) : Statement (.softStartDone link) := by
  intro hw p
  have h1 := links_le p
  have h2 := memDies_le p
  have h3 := ioDies_le p
  simp only [Instr.wf, Bool.and_eq_true, decide_eq_true_eq] at hw ⊢
  omega

theorem loadSenseRetry (link : Nat) (ohms : Nat) : Statement (.loadSenseRetry link ohms) := by
  intro hw p
  have h1 := links_le p
  have h2 := memDies_le p
  have h3 := ioDies_le p
  simp only [Instr.wf, Bool.and_eq_true, decide_eq_true_eq] at hw ⊢
  omega

theorem cameraBootTimeExpiry (link : Nat) : Statement (.cameraBootTimeExpiry link) := by
  intro hw p
  have h1 := links_le p
  have h2 := memDies_le p
  have h3 := ioDies_le p
  simp only [Instr.wf, Bool.and_eq_true, decide_eq_true_eq] at hw ⊢
  omega

theorem wordLockGained (link : Nat) : Statement (.wordLockGained link) := by
  intro hw p
  have h1 := links_le p
  have h2 := memDies_le p
  have h3 := ioDies_le p
  simp only [Instr.wf, Bool.and_eq_true, decide_eq_true_eq] at hw ⊢
  omega

theorem wordLockLost (link : Nat) : Statement (.wordLockLost link) := by
  intro hw p
  have h1 := links_le p
  have h2 := memDies_le p
  have h3 := ioDies_le p
  simp only [Instr.wf, Bool.and_eq_true, decide_eq_true_eq] at hw ⊢
  omega

theorem retrainTimeout (link : Nat) : Statement (.retrainTimeout link) := by
  intro hw p
  have h1 := links_le p
  have h2 := memDies_le p
  have h3 := ioDies_le p
  simp only [Instr.wf, Bool.and_eq_true, decide_eq_true_eq] at hw ⊢
  omega

theorem identificationRetry (stream : Nat) : Statement (.identificationRetry stream) := fun hw _ => hw

theorem rateLockTimeout (link : Nat) : Statement (.rateLockTimeout link) := by
  intro hw p
  have h1 := links_le p
  have h2 := memDies_le p
  have h3 := ioDies_le p
  simp only [Instr.wf, Bool.and_eq_true, decide_eq_true_eq] at hw ⊢
  omega

theorem connectionTestEnd (link : Nat) (errors : Nat) : Statement (.connectionTestEnd link errors) := by
  intro hw p
  have h1 := links_le p
  have h2 := memDies_le p
  have h3 := ioDies_le p
  simp only [Instr.wf, Bool.and_eq_true, decide_eq_true_eq] at hw ⊢
  omega

theorem controlAcknowledgment (link : Nat) (ack : CtlAck) : Statement (.controlAcknowledgment link ack) := by
  intro hw p
  have h1 := links_le p
  have h2 := memDies_le p
  have h3 := ioDies_le p
  simp only [Instr.wf, Bool.and_eq_true, decide_eq_true_eq] at hw ⊢
  omega

theorem controlAckTimeout (link : Nat) : Statement (.controlAckTimeout link) := by
  intro hw p
  have h1 := links_le p
  have h2 := memDies_le p
  have h3 := ioDies_le p
  simp only [Instr.wf, Bool.and_eq_true, decide_eq_true_eq] at hw ⊢
  omega

theorem triggerPacket (stream : Nat) : Statement (.triggerPacket stream) := fun hw _ => hw

theorem streamPacket (stream : Nat) (p : Packet) : Statement (.streamPacket stream p) := by
  intro hw p
  have h1 := links_le p
  have h2 := memDies_le p
  have h3 := ioDies_le p
  simp only [Instr.wf, Bool.and_eq_true, decide_eq_true_eq] at hw ⊢
  omega

theorem eventPacket (stream : Nat) (e : CamEvent) : Statement (.eventPacket stream e) := fun hw _ => hw

theorem heartbeatTimeout (stream : Nat) : Statement (.heartbeatTimeout stream) := fun hw _ => hw

theorem streamDisableDrainEnd (stream : Nat) : Statement (.streamDisableDrainEnd stream) := fun hw _ => hw

theorem cameraPowerOverload (link : Nat) (mw : Nat) : Statement (.cameraPowerOverload link mw) := by
  intro hw p
  have h1 := links_le p
  have h2 := memDies_le p
  have h3 := ioDies_le p
  simp only [Instr.wf, Bool.and_eq_true, decide_eq_true_eq] at hw ⊢
  omega

theorem cameraPowerFastTrip (link : Nat) (mw : Nat) : Statement (.cameraPowerFastTrip link mw) := by
  intro hw p
  have h1 := links_le p
  have h2 := memDies_le p
  have h3 := ioDies_le p
  simp only [Instr.wf, Bool.and_eq_true, decide_eq_true_eq] at hw ⊢
  omega

theorem eyeScan (sess : Nat) (link : Nat) : Statement (.eyeScan sess link) := fun hw _ => hw

theorem eyeScanDone (map : List Byte) (width : Nat) (height : Nat) : Statement (.eyeScanDone map width height) := fun hw _ => hw

theorem streamRestart (sess : Nat) (stream : Nat) : Statement (.streamRestart sess stream) := fun hw _ => hw

theorem cameraRegRead (sess : Nat) : Statement (.cameraRegRead sess) := fun hw _ => hw

theorem cameraRegWrite (sess : Nat) : Statement (.cameraRegWrite sess) := fun hw _ => hw

theorem pipelineStripeStart (pipe : Nat) (corrupt : List Nat) : Statement (.pipelineStripeStart pipe corrupt) := by
  intro hw p
  have h1 := links_le p
  have h2 := memDies_le p
  have h3 := ioDies_le p
  simp only [Instr.wf, Bool.and_eq_true, decide_eq_true_eq] at hw ⊢
  omega

theorem stripeReady (stripe : Nat) (cyc : Nat) : Statement (.stripeReady stripe cyc) := fun hw _ => hw

theorem paramSetSwitch (sess : Nat) (stream : Nat) : Statement (.paramSetSwitch sess stream) := fun hw _ => hw

theorem paramSetTakesForce (stream : Nat) : Statement (.paramSetTakesForce stream) := fun hw _ => hw

theorem jpegEncodeDone : Statement .jpegEncodeDone := fun hw _ => hw

theorem jpegDecode (ring : Nat) (data : List Byte) : Statement (.jpegDecode ring data) := fun hw _ => hw

theorem decodeContextSwitch : Statement .decodeContextSwitch := fun hw _ => hw

theorem jpegDecodeDone : Statement .jpegDecodeDone := fun hw _ => hw

theorem jpegDecodeAbandoned : Statement .jpegDecodeAbandoned := fun hw _ => hw

theorem kernelStart (ctx : Nat) (kernel : Nat) (cyc : Nat) (obs : KernelObs) : Statement (.kernelStart ctx kernel cyc obs) := fun hw _ => hw

theorem kernelEnd (ctx : Nat) (kernel : Nat) (cyc : Nat) : Statement (.kernelEnd ctx kernel cyc) := fun hw _ => hw

theorem substitutionChange : Statement .substitutionChange := fun hw _ => hw

theorem arrayRetest (sess : Nat) (code : Nat) : Statement (.arrayRetest sess code) := fun hw _ => hw

theorem arrayRetestDone (pass : Bool) : Statement (.arrayRetestDone pass) := fun hw _ => hw

theorem arrayRetire (sess : Nat) (code : Nat) : Statement (.arrayRetire sess code) := fun hw _ => hw

theorem arrayRestore (sess : Nat) (code : Nat) : Statement (.arrayRestore sess code) := fun hw _ => hw

theorem planUploadBegin (sess : Nat) (length : Nat) : Statement (.planUploadBegin sess length) := fun hw _ => hw

theorem planUploadData (sess : Nat) (data : List Byte) : Statement (.planUploadData sess data) := fun hw _ => hw

theorem planUploadEnd (sess : Nat) (slot : Nat) : Statement (.planUploadEnd sess slot) := fun hw _ => hw

theorem planSlotClear (sess : Nat) (slot : Nat) : Statement (.planSlotClear sess slot) := fun hw _ => hw

theorem periodStart (cyc : Nat) : Statement (.periodStart cyc) := fun hw _ => hw

theorem emptyPeriod (cyc : Nat) : Statement (.emptyPeriod cyc) := fun hw _ => hw

theorem slotStart (die : Nat) (slot : Nat) (cyc : Nat) : Statement (.slotStart die slot cyc) := fun hw _ => hw

theorem periodEnd (cyc : Nat) : Statement (.periodEnd cyc) := fun hw _ => hw

theorem stepStart (ctx : Nat) (cyc : Nat) : Statement (.stepStart ctx cyc) := fun hw _ => hw

theorem stepEnd (ctx : Nat) (cyc : Nat) : Statement (.stepEnd ctx cyc) := fun hw _ => hw

theorem flush (sess : Nat) : Statement (.flush sess) := fun hw _ => hw

theorem decisionRecordTakeUp : Statement .decisionRecordTakeUp := fun hw _ => hw

theorem fallbackOriginReceive : Statement .fallbackOriginReceive := fun hw _ => hw

theorem minOnTimeClose (chan : Nat) : Statement (.minOnTimeClose chan) := fun hw _ => hw

theorem maxOnTimeExpiry (chan : Nat) : Statement (.maxOnTimeExpiry chan) := fun hw _ => hw

theorem splitReopen (chan : Nat) : Statement (.splitReopen chan) := fun hw _ => hw

theorem valveTestPulse (sess : Nat) (val : Nat) : Statement (.valveTestPulse sess val) := fun hw _ => hw

theorem testPulseEnd : Statement .testPulseEnd := fun hw _ => hw

theorem fireErrorClear (sess : Nat) : Statement (.fireErrorClear sess) := fun hw _ => hw

theorem readbackEdge (out : Nat) (level : Bool) : Statement (.readbackEdge out level) := fun hw _ => hw

theorem inputRawEdge (input : Nat) (level : Bool) : Statement (.inputRawEdge input level) := fun hw _ => hw

theorem inputFilterExpiry (input : Nat) : Statement (.inputFilterExpiry input) := fun hw _ => hw

theorem pulseWindowEnd (input : Nat) (level : Bool) : Statement (.pulseWindowEnd input level) := fun hw _ => hw

theorem sensorSupplyTrip (ma : Nat) : Statement (.sensorSupplyTrip ma) := fun hw _ => hw

theorem sensorSupplyReset (sess : Nat) : Statement (.sensorSupplyReset sess) := fun hw _ => hw

theorem outputReadbackCheck (out : Nat) : Statement (.outputReadbackCheck out) := fun hw _ => hw

theorem currentLimitExpiry (out : Nat) : Statement (.currentLimitExpiry out) := fun hw _ => hw

theorem externalVoltageDetect (out : Nat) : Statement (.externalVoltageDetect out) := fun hw _ => hw

theorem externalVoltageClear (out : Nat) : Statement (.externalVoltageClear out) := fun hw _ => hw

theorem openLoadDetect (out : Nat) : Statement (.openLoadDetect out) := fun hw _ => hw

theorem outputFaultClear (sess : Nat) (out : Nat) : Statement (.outputFaultClear sess out) := fun hw _ => hw

theorem generalOutputLevel (sess : Nat) (out : Nat) (level : Nat) : Statement (.generalOutputLevel sess out level) := fun hw _ => hw

theorem aliveHalfPeriod : Statement .aliveHalfPeriod := fun hw _ => hw

theorem aliveStop (sess : Nat) : Statement (.aliveStop sess) := fun hw _ => hw

theorem aliveStart (sess : Nat) : Statement (.aliveStart sess) := fun hw _ => hw

theorem valveLinkLockGained (port : Nat) : Statement (.valveLinkLockGained port) := fun hw _ => hw

theorem valveLinkLockLost (port : Nat) : Statement (.valveLinkLockLost port) := fun hw _ => hw

theorem valveLinkKeepalive (port : Nat) : Statement (.valveLinkKeepalive port) := fun hw _ => hw

theorem strobe (port : Nat) : Statement (.strobe port) := fun hw _ => hw

theorem valveLinkIdent (port : Nat) (f : VlFrame) : Statement (.valveLinkIdent port f) := fun hw _ => hw

theorem valveLinkEcho (port : Nat) : Statement (.valveLinkEcho port) := fun hw _ => hw

theorem valveLinkStatus (port : Nat) (f : VlFrame) : Statement (.valveLinkStatus port f) := fun hw _ => hw

theorem edgeStamp (port : Nat) (f : VlFrame) : Statement (.edgeStamp port f) := fun hw _ => hw

theorem driverFault (port : Nat) (f : VlFrame) : Statement (.driverFault port f) := fun hw _ => hw

theorem testEcho (port : Nat) (f : VlFrame) : Statement (.testEcho port f) := fun hw _ => hw

theorem testFrameSend (port : Nat) : Statement (.testFrameSend port) := fun hw _ => hw

theorem controlFrameRetransmit (port : Nat) : Statement (.controlFrameRetransmit port) := fun hw _ => hw

theorem identTimeout (port : Nat) : Statement (.identTimeout port) := fun hw _ => hw

theorem statusTimeout (port : Nat) : Statement (.statusTimeout port) := fun hw _ => hw

theorem cableDelayRemeasure (port : Nat) : Statement (.cableDelayRemeasure port) := fun hw _ => hw

theorem valveLinkBringupRetry (port : Nat) : Statement (.valveLinkBringupRetry port) := fun hw _ => hw

theorem encoderSupplyTrip (chan : Nat) (ma : Nat) : Statement (.encoderSupplyTrip chan ma) := fun hw _ => hw

theorem encoderSupplyReset (sess : Nat) (chan : Nat) : Statement (.encoderSupplyReset sess chan) := fun hw _ => hw

theorem auxSample (chan : Nat) (r : EncRead) : Statement (.auxSample chan r) := fun hw _ => hw

theorem linkSlotStart (link : Nat) (slot : Nat) (cyc : Nat) : Statement (.linkSlotStart link slot cyc) := by
  intro hw p
  have h1 := links_le p
  have h2 := memDies_le p
  have h3 := ioDies_le p
  simp only [Instr.wf, Bool.and_eq_true, decide_eq_true_eq] at hw ⊢
  omega

theorem memoryRead (link : Nat) (f : DownFrame) : Statement (.memoryRead link f) := by
  intro hw p
  have h1 := links_le p
  have h2 := memDies_le p
  have h3 := ioDies_le p
  simp only [Instr.wf, Bool.and_eq_true, decide_eq_true_eq] at hw ⊢
  omega

theorem memoryWrite (link : Nat) (f : DownFrame) : Statement (.memoryWrite link f) := by
  intro hw p
  have h1 := links_le p
  have h2 := memDies_le p
  have h3 := ioDies_le p
  simp only [Instr.wf, Bool.and_eq_true, decide_eq_true_eq] at hw ⊢
  omega

theorem refresh (link : Nat) (f : DownFrame) : Statement (.refresh link f) := by
  intro hw p
  have h1 := links_le p
  have h2 := memDies_le p
  have h3 := ioDies_le p
  simp only [Instr.wf, Bool.and_eq_true, decide_eq_true_eq] at hw ⊢
  omega

theorem scrub (link : Nat) (f : DownFrame) : Statement (.scrub link f) := by
  intro hw p
  have h1 := links_le p
  have h2 := memDies_le p
  have h3 := ioDies_le p
  simp only [Instr.wf, Bool.and_eq_true, decide_eq_true_eq] at hw ⊢
  omega

theorem recal (link : Nat) (cyc : Nat) : Statement (.recal link cyc) := by
  intro hw p
  have h1 := links_le p
  have h2 := memDies_le p
  have h3 := ioDies_le p
  simp only [Instr.wf, Bool.and_eq_true, decide_eq_true_eq] at hw ⊢
  omega

theorem nop (link : Nat) (f : DownFrame) : Statement (.nop link f) := by
  intro hw p
  have h1 := links_le p
  have h2 := memDies_le p
  have h3 := ioDies_le p
  simp only [Instr.wf, Bool.and_eq_true, decide_eq_true_eq] at hw ⊢
  omega

theorem replay (link : Nat) (f : DownFrame) : Statement (.replay link f) := by
  intro hw p
  have h1 := links_le p
  have h2 := memDies_le p
  have h3 := ioDies_le p
  simp only [Instr.wf, Bool.and_eq_true, decide_eq_true_eq] at hw ⊢
  omega

theorem upstreamFrameLanded (link : Nat) (f : UpFrame) : Statement (.upstreamFrameLanded link f) := by
  intro hw p
  have h1 := links_le p
  have h2 := memDies_le p
  have h3 := ioDies_le p
  simp only [Instr.wf, Bool.and_eq_true, decide_eq_true_eq] at hw ⊢
  omega

theorem nakResend (link : Nat) (f : UpFrame) : Statement (.nakResend link f) := by
  intro hw p
  have h1 := links_le p
  have h2 := memDies_le p
  have h3 := ioDies_le p
  simp only [Instr.wf, Bool.and_eq_true, decide_eq_true_eq] at hw ⊢
  omega

theorem recalOverdue (link : Nat) (cyc : Nat) : Statement (.recalOverdue link cyc) := by
  intro hw p
  have h1 := links_le p
  have h2 := memDies_le p
  have h3 := ioDies_le p
  simp only [Instr.wf, Bool.and_eq_true, decide_eq_true_eq] at hw ⊢
  omega

theorem externalTransfer (link : Nat) (slot : Nat) (write : Bool) (addr : Nat) (data : List Byte) : Statement (.externalTransfer link slot write addr data) := by
  intro hw p
  have h1 := links_le p
  have h2 := memDies_le p
  have h3 := ioDies_le p
  simp only [Instr.wf, Bool.and_eq_true, decide_eq_true_eq] at hw ⊢
  omega

theorem uncorrectableLogClear (sess : Nat) : Statement (.uncorrectableLogClear sess) := fun hw _ => hw

theorem planKnotAction (action : Nat) (cyc : Nat) : Statement (.planKnotAction action cyc) := fun hw _ => hw

theorem knotWaitTimeout (waiter : Nat) : Statement (.knotWaitTimeout waiter) := fun hw _ => hw

theorem fenceRelease (ring : Nat) : Statement (.fenceRelease ring) := fun hw _ => hw

theorem tetherPortTrained (port : Nat) : Statement (.tetherPortTrained port) := fun hw _ => hw

theorem operand (port : Nat) (p : TPacket) : Statement (.operand port p) := fun hw _ => hw

theorem tetherWrite (port : Nat) (p : TPacket) : Statement (.tetherWrite port p) := fun hw _ => hw

theorem readReq (port : Nat) (p : TPacket) : Statement (.readReq port p) := fun hw _ => hw

theorem readComp (port : Nat) (p : TPacket) : Statement (.readComp port p) := fun hw _ => hw

theorem knotOp (port : Nat) (p : TPacket) : Statement (.knotOp port p) := fun hw _ => hw

theorem knotReply (port : Nat) (p : TPacket) : Statement (.knotReply port p) := fun hw _ => hw

theorem errorComp (port : Nat) (p : TPacket) : Statement (.errorComp port p) := fun hw _ => hw

theorem tetherHeartbeat (port : Nat) (p : TPacket) : Statement (.tetherHeartbeat port p) := fun hw _ => hw

theorem hello (port : Nat) (p : TPacket) (h : HelloPath) : Statement (.hello port p h) := fun hw _ => hw

theorem ack (port : Nat) (p : TPacket) : Statement (.ack port p) := fun hw _ => hw

theorem tetherRetransmit (port : Nat) : Statement (.tetherRetransmit port) := fun hw _ => hw

theorem tetherHeartbeatSend (port : Nat) : Statement (.tetherHeartbeatSend port) := fun hw _ => hw

theorem memberLost (member : Nat) : Statement (.memberLost member) := fun hw _ => hw

theorem helloTimeout (member : Nat) : Statement (.helloTimeout member) := fun hw _ => hw

theorem groupFormationRetry : Statement .groupFormationRetry := fun hw _ => hw

theorem tetherDelayRemeasure : Statement .tetherDelayRemeasure := fun hw _ => hw

theorem tunnelUp (port : Nat) : Statement (.tunnelUp port) := fun hw _ => hw

theorem tunnelLost (port : Nat) : Statement (.tunnelLost port) := fun hw _ => hw

theorem tunnelHoldExpiry (port : Nat) : Statement (.tunnelHoldExpiry port) := fun hw _ => hw

theorem functionLevelReset (port : Nat) : Statement (.functionLevelReset port) := fun hw _ => hw

theorem hwinRegisterWrite (port : Nat) (offset : Nat) (val : Nat) : Statement (.hwinRegisterWrite port offset val) := fun hw _ => hw

theorem hwinErrorClear (port : Nat) (val : Nat) : Statement (.hwinErrorClear port val) := fun hw _ => hw

theorem ringEnable (port : Nat) : Statement (.ringEnable port) := fun hw _ => hw

theorem ringDisable (port : Nat) : Statement (.ringDisable port) := fun hw _ => hw

theorem hwinRingDoorbell (port : Nat) (val : Nat) : Statement (.hwinRingDoorbell port val) := fun hw _ => hw

theorem evqEnable (port : Nat) : Statement (.evqEnable port) := fun hw _ => hw

theorem evqDisable (port : Nat) : Statement (.evqDisable port) := fun hw _ => hw

theorem hwinEvqHead (port : Nat) (val : Nat) : Statement (.hwinEvqHead port val) := fun hw _ => hw

theorem evqTimeThreshold (queue : Nat) : Statement (.evqTimeThreshold queue) := fun hw _ => hw

theorem hwinImgRelease (port : Nat) (val : Nat) : Statement (.hwinImgRelease port val) := fun hw _ => hw

theorem hwinMbxDoorbell (port : Nat) (val : Nat) : Statement (.hwinMbxDoorbell port val) := fun hw _ => hw

theorem hwinPortAdopt (port : Nat) (val : Nat) : Statement (.hwinPortAdopt port val) := fun hw _ => hw

theorem ringFetch (entry : List Byte) : Statement (.ringFetch entry) := fun hw _ => hw

theorem ringCommandComplete (ring : Nat) : Statement (.ringCommandComplete ring) := fun hw _ => hw

theorem ringNop (ring : Nat) : Statement (.ringNop ring) := fun hw _ => hw

theorem copyToDevice (ring : Nat) (data : List Byte) : Statement (.copyToDevice ring data) := fun hw _ => hw

theorem copyFromDevice (ring : Nat) : Statement (.copyFromDevice ring) := fun hw _ => hw

theorem planLoad (ring : Nat) (data : List Byte) : Statement (.planLoad ring data) := fun hw _ => hw

theorem jobSubmit (ring : Nat) : Statement (.jobSubmit ring) := fun hw _ => hw

theorem knotAdd (ring : Nat) : Statement (.knotAdd ring) := fun hw _ => hw

theorem knotSub (ring : Nat) : Statement (.knotSub ring) := fun hw _ => hw

theorem knotWait (ring : Nat) : Statement (.knotWait ring) := fun hw _ => hw

theorem knotRead (ring : Nat) : Statement (.knotRead ring) := fun hw _ => hw

theorem knotInit (ring : Nat) : Statement (.knotInit ring) := fun hw _ => hw

theorem fence (ring : Nat) : Statement (.fence ring) := fun hw _ => hw

theorem portLinkChange (eth : Nat) (up : Bool) (rate : Nat) : Statement (.portLinkChange eth up rate) := fun hw _ => hw

theorem arpRequest (eth : Nat) (ip : Nat) (mac : Nat) (target : Nat) : Statement (.arpRequest eth ip mac target) := fun hw _ => hw

theorem arpReply (eth : Nat) (sender : ArpHost) (target : Nat) : Statement (.arpReply eth sender target) := fun hw _ => hw

theorem arpCacheExpiry (eth : Nat) (ip : Nat) : Statement (.arpCacheExpiry eth ip) := fun hw _ => hw

theorem icmpEchoRequest (eth : Nat) (src : Nat) (dst : Nat) (data : List Byte) : Statement (.icmpEchoRequest eth src dst data) := fun hw _ => hw

theorem sync (m : PtpMsg) : Statement (.sync m) := fun hw _ => hw

theorem followUp (m : PtpMsg) : Statement (.followUp m) := fun hw _ => hw

theorem delayResp (m : PtpMsg) : Statement (.delayResp m) := fun hw _ => hw

theorem pdelayReq (m : PtpMsg) : Statement (.pdelayReq m) := fun hw _ => hw

theorem pdelayResp (m : PtpMsg) : Statement (.pdelayResp m) := fun hw _ => hw

theorem pdelayRespFollowUp (m : PtpMsg) : Statement (.pdelayRespFollowUp m) := fun hw _ => hw

theorem announce (eth : Nat) (a : Announce) : Statement (.announce eth a) := fun hw _ => hw

theorem delayReqSend (domain : Nat) : Statement (.delayReqSend domain) := fun hw _ => hw

theorem pdelayReqSend (eth : Nat) : Statement (.pdelayReqSend eth) := fun hw _ => hw

theorem syncLossTimeout (domain : Nat) : Statement (.syncLossTimeout domain) := fun hw _ => hw

theorem domainRevert : Statement .domainRevert := fun hw _ => hw

theorem slewComplete : Statement .slewComplete := fun hw _ => hw

theorem holdoverLimitExpiry : Statement .holdoverLimitExpiry := fun hw _ => hw

theorem freezeLimit (die : Nat) (cyc : Nat) : Statement (.freezeLimit die cyc) := fun hw _ => hw

theorem checkpointLate (die : Nat) (cyc : Nat) : Statement (.checkpointLate die cyc) := fun hw _ => hw

theorem controlStall : Statement .controlStall := fun hw _ => hw

theorem helperHalted (helper : Nat) : Statement (.helperHalted helper) := fun hw _ => hw

theorem timeUnitHalted : Statement .timeUnitHalted := fun hw _ => hw

theorem ejectionUnitHalted : Statement .ejectionUnitHalted := fun hw _ => hw

theorem dieTransport (path : Nat) : Statement (.dieTransport path) := by
  intro hw p
  have h1 := links_le p
  have h2 := memDies_le p
  have h3 := ioDies_le p
  simp only [Instr.wf, Bool.and_eq_true, decide_eq_true_eq] at hw ⊢
  omega

theorem teardownEnd (ctx : Nat) : Statement (.teardownEnd ctx) := fun hw _ => hw

theorem contextReset (sess : Nat) (ctx : Nat) : Statement (.contextReset sess ctx) := fun hw _ => hw

theorem deviceRecover (sess : Nat) : Statement (.deviceRecover sess) := fun hw _ => hw

theorem recoveryResume : Statement .recoveryResume := fun hw _ => hw

theorem faultLogClear (sess : Nat) : Statement (.faultLogClear sess) := fun hw _ => hw

theorem faultLogNvClear (sess : Nat) : Statement (.faultLogNvClear sess) := fun hw _ => hw

theorem powerTargetRun (sess : Nat) : Statement (.powerTargetRun sess) := fun hw _ => hw

theorem powerTargetReady (sess : Nat) : Statement (.powerTargetReady sess) := fun hw _ => hw

theorem powerTargetDoze (sess : Nat) : Statement (.powerTargetDoze sess) := fun hw _ => hw

theorem powerTargetRetain (sess : Nat) : Statement (.powerTargetRetain sess) := fun hw _ => hw

theorem powerTargetStandby (sess : Nat) : Statement (.powerTargetStandby sess) := fun hw _ => hw

theorem powerTransitionDone : Statement .powerTransitionDone := fun hw _ => hw

theorem autoReadyEntry : Statement .autoReadyEntry := fun hw _ => hw

theorem wakeEvent (source : Nat) : Statement (.wakeEvent source) := fun hw _ => hw

theorem wakeTimerExpiry : Statement .wakeTimerExpiry := fun hw _ => hw

theorem temperatureSample (t : TempSample) : Statement (.temperatureSample t) := fun hw _ => hw

theorem ageingMonitorUpdate (slow : List Nat) (margin : List Int) : Statement (.ageingMonitorUpdate slow margin) := fun hw _ => hw

theorem cclkStepDone (cyc : Nat) : Statement (.cclkStepDone cyc) := fun hw _ => hw

theorem replanNow (sess : Nat) : Statement (.replanNow sess) := fun hw _ => hw

theorem counterStart (sess : Nat) : Statement (.counterStart sess) := fun hw _ => hw

theorem counterStop (sess : Nat) : Statement (.counterStop sess) := fun hw _ => hw

theorem counterClear (sess : Nat) : Statement (.counterClear sess) := fun hw _ => hw

theorem counterSnapshot (sess : Nat) : Statement (.counterSnapshot sess) := fun hw _ => hw

theorem shadowRefresh (cyc0 : Nat) (cyc1 : Nat) : Statement (.shadowRefresh cyc0 cyc1) := fun hw _ => hw

theorem bandwidthWindowEnd : Statement .bandwidthWindowEnd := fun hw _ => hw

theorem bandwidthClear (sess : Nat) : Statement (.bandwidthClear sess) := fun hw _ => hw

theorem sampleLogClear (sess : Nat) : Statement (.sampleLogClear sess) := fun hw _ => hw

theorem startUp (cause : Nat) (fails : List TestFail) : Statement (.startUp cause fails) := fun hw _ => hw

theorem readiness : Statement .readiness := fun hw _ => hw

theorem blobUploadBegin (sess : Nat) (length : Nat) : Statement (.blobUploadBegin sess length) := fun hw _ => hw

theorem blobUploadData (sess : Nat) (data : List Byte) : Statement (.blobUploadData sess data) := fun hw _ => hw

theorem blobUploadEnd (sess : Nat) (slot : Nat) : Statement (.blobUploadEnd sess slot) := fun hw _ => hw

theorem blobSlotClear (sess : Nat) (slot : Nat) : Statement (.blobSlotClear sess slot) := fun hw _ => hw

theorem attestRequest (sess : Nat) : Statement (.attestRequest sess) := fun hw _ => hw

theorem attestReportReady : Statement .attestReportReady := fun hw _ => hw

theorem statisticsClear (sess : Nat) (val : Nat) : Statement (.statisticsClear sess val) := fun hw _ => hw

theorem usb4LinkChange (port : Nat) (up : Bool) (rate : Nat) : Statement (.usb4LinkChange port up rate) := fun hw _ => hw

theorem downstreamCrcFailure (link : Nat) (f : DownFrame) : Statement (.downstreamCrcFailure link f) := by
  intro hw p
  have h1 := links_le p
  have h2 := memDies_le p
  have h3 := ioDies_le p
  simp only [Instr.wf, Bool.and_eq_true, decide_eq_true_eq] at hw ⊢
  omega

theorem tetherPacketDiscarded (port : Nat) (p : TPacket) : Statement (.tetherPacketDiscarded port p) := fun hw _ => hw

theorem valveLinkFrameDiscarded (port : Nat) (f : VlFrame) : Statement (.valveLinkFrameDiscarded port f) := fun hw _ => hw

theorem unsupportedPacket (link : Nat) : Statement (.unsupportedPacket link) := by
  intro hw p
  have h1 := links_le p
  have h2 := memDies_le p
  have h3 := ioDies_le p
  simp only [Instr.wf, Bool.and_eq_true, decide_eq_true_eq] at hw ⊢
  omega

theorem ethernetFrameDropped (eth : Nat) : Statement (.ethernetFrameDropped eth) := fun hw _ => hw

theorem ptpMessageIgnored (eth : Nat) : Statement (.ptpMessageIgnored eth) := fun hw _ => hw

theorem groupStop (port : Nat) (p : TPacket) : Statement (.groupStop port p) := fun hw _ => hw

theorem member0Bc (bc : Nat) : Statement (.member0Bc bc) := fun hw _ => hw

theorem linkTestPattern (link : Nat) (errors : Nat) : Statement (.linkTestPattern link errors) := by
  intro hw p
  have h1 := links_le p
  have h2 := memDies_le p
  have h3 := ioDies_le p
  simp only [Instr.wf, Bool.and_eq_true, decide_eq_true_eq] at hw ⊢
  omega

theorem tetherTestPattern (port : Nat) (errors : Nat) : Statement (.tetherTestPattern port errors) := fun hw _ => hw

end Sys2Proof.Laws.SmallestPart
end

