-- ==== Sys2Proof/Tests/Slice0.lean ====
section
/-! SUPPORT. The model's own tests, each about one step on a small state: what ill-formed commands are refused for, a
state that meets the hypotheses of each statement, and single steps with results taken from the spec. -/

namespace Sys2Proof.Tests
-- one theorem after another: each evaluation needs its own memory
set_option Elab.async false
open Sys2Proof Sys2Proof.Machine

/-- An assembly with both I/O dies and all memory dies, served and awake. -/
def on : State := { mfg := { part := .brl7162 }, ctl := { serving := true } }

/-- A downstream frame with the CRC that its opcode and its fields give it (R317). -/
def goodDown (op : Nat) (f : DownFrame) : DownFrame :=
  { f with crc := frameCrc f.data (downTrailer op f.seq f.count f.addr f.replay) }

theorem goodDown_crcOk (op : Nat) (f : DownFrame) : (goodDown op f).crcOk op = true := by
  simp [goodDown, DownFrame.crcOk]

/-- An upstream frame with the CRC that its fields give it (R317). -/
def goodUp (f : UpFrame) : UpFrame :=
  let status := upStatus (f.corrected != 0) (f.bad != []) f.nak.isSome f.resent
  { f with crc := frameCrc (if f.valid then f.data else []) (upTrailer f.seq status f.nak f.corrected) }

theorem goodUp_crcOk (f : UpFrame) : (goodUp f).crcOk = true := by
  simp only [goodUp, UpFrame.crcOk]
  exact beq_self_eq_true _

/-- A valve-link frame with the CRC that its fields give it (R290). -/
def goodVl (f : VlFrame) : VlFrame := { f with crc := crc16 0x1021 (vlBody f.typ f.seq f.payload) }

theorem goodVl_crcOk (f : VlFrame) : (goodVl f).crcOk = true := by simp [goodVl, VlFrame.crcOk]

/-- A tether packet with the CRC that its type and fields give it (R348). -/
def goodT (typ : Nat) (p : TPacket) : TPacket :=
  { p with crc := crc32 (tetherBytes typ p.src p.dest p.ctx p.fenced p.seq p.ackSeq p.tag p.arg p.body) }

theorem goodT_crcOk (typ : Nat) (p : TPacket) : (goodT typ p).crcOk typ = true := by simp [goodT, TPacket.crcOk]

/-- The HELLO payload of member 0 of a group of 2 (R352), with the digest of an empty section as FIPS 202 gives it. -/
def helloOf0 (detKey : Nat) : List Byte :=
  leBytes 8 0 ++ [2, 0] ++ leBytes 4 detKey ++ leBytes 7 0 ++
    [166, 159, 115, 204, 162, 58, 154, 197, 200, 181, 103, 220, 24, 90, 117, 110, 151, 201, 130, 22, 79, 226, 88, 89, 224, 209, 220, 193, 71, 92, 128, 166,
     21, 178, 18, 58, 241, 245, 249, 76, 17, 227, 233, 64, 44, 58, 197, 88, 245, 0, 25, 157, 149, 182, 211, 227, 1, 117, 133, 134, 40, 29, 205, 38]
theorem witness_SourceIsLatched_1 : ∃ (s : State), (s.timeRuns = true) ∧
      ((s.belt.lastLatch.all fun l => decide (s.reg K.encoderSamplePeriod ≤ 4 * (s.tick - l))) = true) :=
  ⟨on, by decide⟩

theorem witness_SampleMovesTheCount_1 : ∃ (s : State) (r : EncRead) (l : Latch), (s.belt.latch = some l) ∧
      (2 ≤ s.reg K.beltSource) ∧
      (s.belt.fresh = false) ∧
      (s.belt.rebase = false) ∧
      (s.belt.reorigin = none) ∧
      (s.belt.saturated = false) ∧
      (s.belt.st ≠ .lost) ∧
      (s.flag K.beltDirectionInvert = false) ∧
      ((unwrap 32 l.word s.belt.wPrev).natAbs ≤ s.reg K.maxStepPerSample) ∧
      (0 ≤ s.belt.bc + unwrap 32 l.word s.belt.wPrev) ∧
      (s.belt.bc + unwrap 32 l.word s.belt.wPrev < 2 ^ 48 - 1) :=
  ⟨{ on with regs := [(K.beltSource, 2)], belt := { fresh := false, st := .stopped, bc := 100, wPrev := 7, latch := some { tick := 0, word := 9 } } }, { bits := 0 }, { tick := 0, word := 9 }, by decide⟩

theorem witness_BeltLossesAreTaken_1 : ∃ (s : State), (s.belt.st = .forward ∨ s.belt.st = .reverse ∨ s.belt.st = .stopped) ∧
      (2 * s.reg K.encoderSamplePeriod < 4 * (s.tick - s.belt.lastValid)) :=
  ⟨{ on with tick := 100000, belt := { st := .forward } }, by decide⟩

theorem witness_BeltLossesAreTaken_2 : ∃ (s : State), (s.belt.st ≠ .lost) ∧
      (s.belt.st ≠ .noSource) ∧
      (s.reg K.encoderHoldover < 4 * (s.tick - s.belt.lastValid)) :=
  ⟨{ on with tick := 10 ^ 12, belt := { st := .forward } }, by decide⟩

theorem witness_TimeMovesOn_1 : ∃ (s : State), (s.timeRuns = false) :=
  ⟨{ on with supplies := { inReset := true } }, by decide⟩

theorem witness_TimeMovesOn_2 : ∃ (s : State), (s.timeRuns = true) :=
  ⟨on, by decide⟩

theorem witness_TimeMovesOn_3 : ∃ (s : State) (w : CorrWord) (rest : List CorrWord), (s.net.crossing = w :: rest) :=
  ⟨{ on with net := { crossing := [{}] } }, {}, [], by decide⟩

theorem witness_ReoriginWaits_1 : ∃ (s : State) (sess v : Nat), (s.gate sess K.beltReorigin = none) ∧
      (v < 2 ^ 48) ∧
      (s.belt.st = .stopped ∨ s.belt.st = .noSource) :=
  ⟨on, 0, 5, by decide⟩

theorem witness_ReoriginWaits_2 : ∃ (s : State) (sess v : Nat), (s.gate sess K.beltReorigin = none) ∧
      (v < 2 ^ 48) ∧
      (s.belt.st = .forward ∨ s.belt.st = .reverse ∨ s.belt.st = .holdover ∨ s.belt.st = .lost) :=
  ⟨{ on with belt := { st := .forward } }, 0, 5, by decide⟩

theorem witness_FieldBanksFollowTheirSupply_1 : ∃ (s : State) (bank ma : Nat), (bank < 4) ∧
      (s.reg (K.fieldBankTripCurrent bank) < ma) ∧
      (SMap.get 0 s.supplies.fuseOpen bank = 0) ∧
      (s.supplies.inReset = false) :=
  ⟨on, 1, 20000, by decide⟩

theorem witness_FieldBanksFollowTheirSupply_2 : ∃ (s : State) (sess bank : Nat), (s.gate sess K.fieldBankReset = none) ∧
      (bank < 4) ∧
      (SMap.get 0 s.supplies.fuseOpen bank ≤ s.tick + 1) :=
  ⟨on, 0, 2, by decide⟩

theorem witness_FieldBanksFollowTheirSupply_3 : ∃ (s : State) (sess bank : Nat), (s.gate sess K.fieldBankReset = none) ∧
      (bank < 4) ∧
      (s.tick + 1 < SMap.get 0 s.supplies.fuseOpen bank) :=
  ⟨{ on with supplies := { fuseOpen := [(2, 9)] } }, 0, 2, by decide⟩

theorem witness_FieldBanksFollowTheirSupply_4 : ∃ (s : State) (bank : Nat) (mv : Int), (bank < 4) :=
  ⟨on, 2, 24000, by decide⟩

theorem witness_SupplyLossStopsTheModule_2 : ∃ (s : State) (mv : Int), (0 ≤ mv) ∧
      (mv < 19200) :=
  ⟨on, 19000, by decide⟩

theorem witness_SupplyLossStopsTheModule_3 : ∃ (s : State) (mv : Int), (mv < 0) :=
  ⟨on, -1, by decide⟩

theorem witness_SupplyLossStopsTheModule_4 : ∃ (s : State) (mv t0 : Nat), (s.supplies.logicLow = some t0) ∧
      (t0 + 250000 < s.tick) ∧
      (s.supplies.inReset = false ∨ s.power.st = .standby) :=
  ⟨{ on with tick := 300000, supplies := { logicLow := some 0 } }, 18000, 0, by decide⟩

theorem witness_LinkPowersUp_1 : ∃ (s : State) (l ohms : Nat), (s.hasLink l = true) ∧
      ((s.cam l).st = .powering) ∧
      ((s.cam l).step = .sense) :=
  ⟨{ on with intake := { links := [(3, { st := .powering, step := .sense })] } }, 3, 4700, by decide⟩

theorem witness_LinkPowersUp_2 : ∃ (s : State) (l : Nat), (s.hasLink l = true) ∧
      ((s.cam l).st = .powering) ∧
      ((s.cam l).step = .softStart) ∧
      ((s.cam l).since + 5000000 ≤ s.tick) :=
  ⟨{ on with tick := 5000000, intake := { links := [(3, { st := .powering, step := .softStart })] } }, 3, by decide⟩

theorem witness_LinkPowersUp_3 : ∃ (s : State) (l : Nat), (s.hasLink l = true) ∧
      ((s.cam l).st = .powering) ∧
      ((s.cam l).step = .boot) ∧
      ((s.cam l).since + s.reg K.cameraBootTime * 250000 ≤ s.tick) :=
  ⟨{ on with tick := 5000000000, intake := { links := [(3, { st := .powering, step := .boot })] } }, 3, by decide⟩

theorem witness_LinkLockIsKept_1 : ∃ (s : State) (l : Nat), (s.hasLink l = true) ∧
      ((s.cam l).st = .up) :=
  ⟨{ on with intake := { links := [(3, { st := .up, lock := true })] } }, 3, by decide⟩

theorem witness_LinkLockIsKept_2 : ∃ (s : State) (l i : Nat), (s.hasLink l = true) ∧
      ((s.cam l).st = .retraining) ∧
      (s.linkStream l = some i) ∧
      ((s.stream i).st ≠ .resync) ∧
      (s.tick ≤ (s.cam l).since + 2500000) :=
  ⟨{ on with intake := { links := [(3, { st := .retraining })], streams := [(2, { links := [3] })] } }, 3, 2, by decide⟩

theorem witness_LinkLockIsKept_3 : ∃ (s : State) (l : Nat), (s.hasLink l = true) ∧
      ((s.cam l).st = .retraining) ∧
      ((s.cam l).since + 2500000 ≤ s.tick) :=
  ⟨{ on with tick := 2500000, intake := { links := [(3, { st := .retraining })] } }, 3, by decide⟩

theorem witness_LinkLockIsKept_4 : ∃ (s : State) (l i : Nat), (s.hasLink l = true) ∧
      ((s.cam l).st = .configuring) ∧
      ((s.cam l).switching = true) ∧
      ((s.cam l).lock = false) ∧
      ((s.cam l).since + 25000000 ≤ s.tick) ∧
      (s.linkStream l = some i) ∧
      (((s.stream i).links.all fun m => s.flag (K.linkRateFallback m)) = false) :=
  ⟨{ on with tick := 25000000, regs := [(K.linkRateFallback 3, 0)], intake := { links := [(3, { st := .configuring, switching := true })], streams := [(2, { links := [3] })] } }, 3, 2, by decide⟩

theorem witness_LinkIdentifiesAndAnswers_1 : ∃ (s : State) (i : Nat), (i < 16) ∧
      ((s.stream i).st = .starting) ∧
      ((s.stream i).links ≠ []) ∧
      (((s.stream i).links.all fun l => s.reg (K.linkFailCause l) == 3) = true) ∧
      ((s.stream i).identAt + 250000000 ≤ s.tick) :=
  ⟨{ on with tick := 250000000, regs := [(K.linkFailCause 3, 3)], intake := { streams := [(2, { st := .starting, links := [3] })] } }, 2, by decide⟩

theorem witness_LinkIdentifiesAndAnswers_2 : ∃ (s : State) (l i errors : Nat), (s.hasLink l = true) ∧
      ((s.cam l).st = .testing) ∧
      ((s.cam l).tested = false) ∧
      ((s.cam l).since + s.reg K.connectionTestTime * 250000 ≤ s.tick) ∧
      (s.linkStream l = some i) :=
  ⟨{ on with tick := 2500000000, intake := { links := [(3, { st := .testing })], streams := [(2, { links := [3] })] } }, 3, 2, 0, by decide⟩

theorem witness_LinkIdentifiesAndAnswers_3 : ∃ (s : State) (l i : Nat) (c : CtlCmd) (rest : List CtlCmd) (a : CtlAck), (s.hasLink l = true) ∧
      ((s.cam l).ctl = c :: rest) ∧
      (a.crcOk = true) ∧
      (a.tag = none ∨ a.tag = some c.tag) ∧
      (a.code = 0) ∧
      (c.op = .regRead) ∧
      (s.linkStream l = some i) :=
  ⟨{ on with intake := { links := [(3, { ctl := [{ tag := 0, op := .regRead, sentAt := 0 }] })], streams := [(2, { links := [3] })] } }, 3, 2, { tag := 0, op := .regRead, sentAt := 0 }, [], { tag := some 0, crcOk := true, data := [7] }, by decide⟩

theorem witness_LinkIdentifiesAndAnswers_4 : ∃ (s : State) (l : Nat) (c : CtlCmd) (rest : List CtlCmd) (a : CtlAck), (s.hasLink l = true) ∧
      ((s.cam l).ctl = c :: rest) ∧
      (a.crcOk = false) ∧
      (c.tries < 4) :=
  ⟨{ on with intake := { links := [(3, { ctl := [{ tag := 0, op := .regRead, sentAt := 0 }] })] } }, 3, { tag := 0, op := .regRead, sentAt := 0 }, [], { tag := some 0, crcOk := false }, by decide⟩

theorem witness_LinkIdentifiesAndAnswers_5 : ∃ (s : State) (l : Nat) (c : CtlCmd) (rest : List CtlCmd), (s.hasLink l = true) ∧
      ((s.cam l).ctl = c :: rest) ∧
      (c.tries < 4) ∧
      (c.sentAt + 50000000 ≤ s.tick) :=
  ⟨{ on with tick := 50000000, intake := { links := [(3, { ctl := [{ tag := 0, op := .regRead, sentAt := 0 }] })] } }, 3, { tag := 0, op := .regRead, sentAt := 0 }, [], by decide⟩

theorem witness_TriggersAndLinesArePaired_1 : ∃ (s : State) (i n t0 : Nat), (i < 16) ∧
      ((s.stream i).due = some (n, t0)) ∧
      ((s.stream i).trigs.length < s.reg (K.lineLagLimit i)) :=
  ⟨{ on with intake := { streams := [(2, { st := .ready, due := some (9, 0) })] } }, 2, 9, 0, by decide⟩

theorem witness_TriggersAndLinesArePaired_2 : ∃ (s : State) (i : Nat) (p : Packet), (i < 16) ∧
      (s.hasLink p.link = true) ∧
      ((s.stream i).st ≠ .ready) ∧
      ((s.stream i).st ≠ .streaming) :=
  ⟨on, 2, { link := 3, tag := 0, size := 64, crcOk := true, codeError := false, parts := [] }, by decide⟩

theorem witness_TriggersAndLinesArePaired_3 : ∃ (s : State) (i n : Nat) (p : Packet), (i < 16) ∧
      (s.hasLink p.link = true) ∧
      ((s.stream i).st = .ready ∨ (s.stream i).st = .streaming) ∧
      ((s.stream i).nextTag = some n) ∧
      (p.tag ≠ n) ∧
      ((s.stream i).hold = []) ∧
      (p.tag < 256) :=
  ⟨{ on with intake := { streams := [(2, { st := .ready, nextTag := some 4 })] } }, 2, 4, { link := 3, tag := 7, size := 64, crcOk := true, codeError := false, parts := [] }, by decide⟩

theorem witness_TriggersAndLinesArePaired_4 : ∃ (s : State) (i n : Nat) (p : Packet), (i < 16) ∧
      (s.hasLink p.link = true) ∧
      ((s.stream i).st = .streaming) ∧
      ((s.stream i).nextTag = some p.tag) ∧
      ((s.stream i).hold = []) ∧
      (p.parts = [PktPart.lineEnd]) ∧
      (p.crcOk = true) ∧
      (p.codeError = false) ∧
      (p.size ≤ s.reg (K.streamPacketSizeMax i)) ∧
      ((s.stream i).cur = some n) ∧
      ((s.stream i).curBad = false) ∧
      ((s.stream i).curData.length = s.lineBytes i) ∧
      ((SMap.find? (s.stream i).lines n).map (·.st) = some LineSt.begun) :=
  ⟨{ on with regs := [(K.streamWidth 2, 2)], intake := { streams := [(2, { st := .streaming, nextTag := some 4, cur := some 9, curData := [1, 2], lines := [(9, { st := .begun })] })] } }, 2, 9, { link := 3, tag := 4, size := 64, crcOk := true, codeError := false, parts := [.lineEnd] }, by decide⟩

theorem witness_CameraEventsAndPower_1 : ∃ (s : State) (i : Nat) (e : CamEvent), (i < 16) ∧
      (e.crcOk = false) :=
  ⟨on, 2, { heartbeat := false, crcOk := false }, by decide⟩

theorem witness_CameraEventsAndPower_2 : ∃ (s : State) (i : Nat) (e : CamEvent), (i < 16) ∧
      (e.crcOk = true) ∧
      (e.heartbeat = false) :=
  ⟨on, 2, { heartbeat := false }, by decide⟩

theorem witness_CameraEventsAndPower_3 : ∃ (s : State) (i : Nat), (i < 16) ∧
      (s.reg (K.heartbeatTimeout i) ≠ 0) ∧
      ((s.stream i).st = .ready ∨ (s.stream i).st = .streaming) ∧
      ((s.stream i).heard + s.reg (K.heartbeatTimeout i) * 250000 ≤ s.tick) :=
  ⟨{ on with tick := 250000, regs := [(K.heartbeatTimeout 2, 1)], intake := { streams := [(2, { st := .ready })] } }, 2, by decide⟩

theorem witness_CameraEventsAndPower_4 : ∃ (s : State) (l mw : Nat), (s.hasLink l = true) ∧
      ((s.cam l).powered = true) ∧
      (s.reg (K.cameraPowerLimit l) < mw) :=
  ⟨{ on with intake := { links := [(3, { powered := true })] } }, 3, 20000, by decide⟩

theorem witness_CameraEventsAndPower_5 : ∃ (s : State) (l mw : Nat), (s.hasLink l = true) ∧
      ((s.cam l).powered = true) ∧
      (14000 < mw) :=
  ⟨{ on with intake := { links := [(3, { powered := true })] } }, 3, 20000, by decide⟩

theorem witness_CameraEventsAndPower_6 : ∃ (s : State) (l : Nat), (s.hasLink l = true) :=
  ⟨on, 3, by decide⟩

theorem witness_CameraEventsAndPower_7 : ∃ (s : State) (l errors : Nat), (s.hasLink l = true) :=
  ⟨on, 3, 5, by decide⟩

theorem witness_CameraCommandsRun_1 : ∃ (s : State) (sess i : Nat), (s.gate sess K.streamRestart = none) ∧
      (i < 16) ∧
      ((s.stream i).st = .failed) :=
  ⟨{ on with regs := [(K.streamLinks 2, 8)], intake := { streams := [(2, { st := .failed })] } }, 0, 2, by decide⟩

theorem witness_CameraCommandsRun_2 : ∃ (s : State) (sess i : Nat), (s.gate sess K.streamRestart = none) ∧
      (i < 16) ∧
      ((s.stream i).st ≠ .failed) :=
  ⟨on, 0, 2, by decide⟩

theorem witness_CameraCommandsRun_3 : ∃ (s : State) (i t0 : Nat), (i < 16) ∧
      ((s.stream i).drainAt = some t0) ∧
      (t0 + 250000 ≤ s.tick) ∧
      (s.streamLinkList i = []) :=
  ⟨{ on with tick := 250000, intake := { streams := [(2, { st := .ready, drainAt := some 0, links := [3] })] } }, 2, 0, by decide⟩

theorem witness_CameraCommandsRun_4 : ∃ (s : State) (sess l : Nat), (s.gate sess K.eyeScan = none) ∧
      (s.hasLink l = true) ∧
      ((s.cam l).st = .up ∨ (s.cam l).st = .loopback) :=
  ⟨{ on with regs := [(0x040001, 1)], intake := { links := [(3, { st := .up })] } }, 0, 3, by decide⟩

theorem witness_CameraCommandsRun_5 : ∃ (s : State) (map : List Byte) (w h : Nat) (c : EyeScan), (s.intake.scan = some c) ∧
      ((s.cam c.link).st = .up) ∧
      (4096 * c.dwell * 1000000 ≤ 4 * (s.tick - c.start) * laneRate c.rate) ∧
      (w = eyeWidthOf (fitBytes 8192 map)) ∧
      (h = eyeHeightOf (fitBytes 8192 map)) :=
  ⟨{ on with tick := 10000000000, intake := { links := [(3, { st := .up })], scan := some { link := 3, start := 0, rate := 1 } } }, [], eyeWidthOf (fitBytes 8192 []), eyeHeightOf (fitBytes 8192 []), { link := 3, start := 0, rate := 1 }, by decide, by decide, by decide, rfl, rfl⟩

theorem witness_CameraCommandsRun_6 : ∃ (s : State) (sess i m : Nat), (s.gate sess K.cameraRegCommand = none) ∧
      (s.reg K.cameraRegStream = i) ∧
      ((s.stream i).st ≠ .off) ∧
      ((s.stream i).st ≠ .failed) ∧
      ((s.stream i).links ≠ []) ∧
      ((s.stream i).master = m) :=
  ⟨{ on with regs := [(0x050001, 1)], intake := { streams := [(0, { st := .ready, links := [3], master := 3 })] } }, 0, 0, 3, by decide⟩

theorem witness_CameraCommandsRun_7 : ∃ (s : State) (sess i m : Nat), (s.gate sess K.cameraRegCommand = none) ∧
      (s.reg K.cameraRegStream = i) ∧
      ((s.stream i).st ≠ .off) ∧
      ((s.stream i).st ≠ .failed) ∧
      ((s.stream i).links ≠ []) ∧
      ((s.stream i).master = m) :=
  ⟨{ on with regs := [(0x050001, 1)], intake := { streams := [(0, { st := .ready, links := [3], master := 3 })] } }, 0, 0, 3, by decide⟩

theorem witness_PipelinesFillStripes_1 : ∃ (s : State) (i : Nat) (corrupt : List Nat) (st : Stripe) (rest : SMap Stripe) (plan : Plan), (s.genReg st (K.streamPipeline i) < 4 * s.mfg.part.ioDies) ∧
      (SMap.get 0 s.pipe.busy (s.genReg st (K.streamPipeline i)) ≤ s.tick) ∧
      (s.power.st = .run) ∧
      (s.pipe.stripes = (st.num, st) :: rest) ∧
      (i < 16) ∧
      (st.closed = [i]) ∧
      (st.written = []) ∧
      (st.dropped = false) ∧
      (s.engine.old = none) ∧
      (s.rtPlan = some plan) ∧
      (s.engine.heldBufs = []) :=
  ⟨{ on with regs := [(K.streamWidth 2, 16)], pipe := { stripes := [(5, { num := 5, closed := [2], vals := [(K.streamWidth 2, 16), (K.streamPipeline 2, 1)] })] }, engine := { ctxs := [(0, { plan := some { stripeLines := 8, buffers := [(0, 64)] } })] } }, 2, [], { num := 5, closed := [2], vals := [(K.streamWidth 2, 16), (K.streamPipeline 2, 1)] }, [], { stripeLines := 8, buffers := [(0, 64)] }, by decide⟩

theorem witness_PipelinesFillStripes_2 : ∃ (s : State) (st : Stripe) (cyc : Nat), (SMap.find? s.pipe.stripes st.num = some st) ∧
      (st.ready = false) ∧
      (st.need ≠ []) ∧
      ((st.need.all fun i => st.written.contains i) = true) ∧
      (st.doneAt ≤ s.tick) :=
  ⟨{ on with pipe := { stripes := [(5, { num := 5, need := [2], written := [2] })] } }, { num := 5, need := [2], written := [2] }, 77, by decide⟩

theorem witness_PipelinesFillStripes_3 : ∃ (s : State) (sess i : Nat), (s.gate sess K.paramSetSwitch = none) ∧
      (i < 16) ∧
      ((s.pctx i).switch = []) :=
  ⟨on, 0, 2, by decide⟩

theorem witness_PipelinesFillStripes_4 : ∃ (s : State) (i l v : Nat) (rest : List (Nat × Nat)), (i < 16) ∧
      ((s.pctx i).switch = (l, v) :: rest) ∧
      (l < s.reg (K.streamNextLine i)) :=
  ⟨{ on with regs := [(K.streamNextLine 2, 9)], pipe := { ctxs := [(2, { switch := [(8, 1)] })] } }, 2, 8, 1, [], by decide⟩

theorem witness_JpegWorkIsDone_1 : ∃ (s : State) (e : EncReq) (rest : List EncReq), (s.pipe.encQueue = e :: rest) :=
  ⟨{ on with pipe := { encQueue := [{ pos := 0, track := 0, firstLine := 0, lastLine := 7, colLeft := 0, colRight := 7 }] } }, { pos := 0, track := 0, firstLine := 0, lastLine := 7, colLeft := 0, colRight := 7 }, [], by decide⟩

theorem witness_JpegWorkIsDone_2 : ∃ (s : State) (c : Nat) (r : DecReq) (rest : List DecReq), (s.pruneDecodes = s) ∧
      (s.decServed = some c) ∧
      (SMap.get [] s.pipe.decode c = r :: rest) :=
  ⟨{ on with host := { rings := [(3, { st := .running, cmds := [{ index := 0, id := 9, notify := false, badReserved := false, body := [], st := .started }] })] }, pipe := { decode := [(1, [{ ring := 3, index := 0, body := [], data := [], deadline := 5 }])] } }, 1, { ring := 3, index := 0, body := [], data := [], deadline := 5 }, [], by decide⟩

theorem witness_JpegWorkIsDone_3 : ∃ (s : State) (c : Nat) (r : DecReq) (rest : List DecReq), (s.pruneDecodes = s) ∧
      (s.decServed = some c) ∧
      (SMap.get [] s.pipe.decode c = r :: rest) ∧
      (s.decLate { r with used := r.used + r.slice (parseJpeg r.data) } = false) :=
  ⟨{ on with host := { rings := [(3, { st := .running, cmds := [{ index := 0, id := 9, notify := false, badReserved := false, body := [], st := .started }] })] }, pipe := { decode := [(1, [{ ring := 3, index := 0, body := [], data := [], deadline := 5 }])] } }, 1, { ring := 3, index := 0, body := [], data := [], deadline := 5 }, [], by decide⟩

theorem witness_JpegWorkIsDone_4 : ∃ (s : State) (c : Nat) (r : DecReq) (rest : List DecReq), (s.pruneDecodes = s) ∧
      (s.decServed = some c) ∧
      (SMap.get [] s.pipe.decode c = r :: rest) ∧
      (s.decLate { r with used := r.used + r.slice (parseJpeg r.data) } = true) :=
  ⟨{ on with host := { rings := [(3, { st := .running, cmds := [{ index := 0, id := 9, notify := false, badReserved := false, body := [], st := .started }] })] }, pipe := { decode := [(1, [{ ring := 3, index := 0, body := [], data := [], deadline := 0 }])] } }, 1, { ring := 3, index := 0, body := [], data := [], deadline := 0 }, [], by decide⟩

theorem witness_JpegWorkIsDone_5 : ∃ (s : State) (c : Nat) (r : DecReq) (rest : List DecReq) (more : SMap (List DecReq)), (s.pruneDecodes = s) ∧
      (s.pipe.decode = (c, r :: rest) :: more) ∧
      (r.deadline ≤ s.pos) :=
  ⟨{ on with host := { rings := [(3, { st := .running, cmds := [{ index := 0, id := 9, notify := false, badReserved := false, body := [], st := .started }] })] }, pipe := { decode := [(1, [{ ring := 3, index := 0, body := [], data := [], deadline := 0 }])] } }, 1, { ring := 3, index := 0, body := [], data := [], deadline := 0 }, [], [], by decide⟩

theorem witness_ArraysAreTestedAndReplaced_1 : ∃ (s : State) (sess code : Nat), (s.gate sess K.arrayRetest = none) ∧
      (code % 128 < 50) ∧
      (s.engine.retest = none) ∧
      (s.arrayAt (code / 128) (code % 128) = .retired) :=
  ⟨{ on with regs := [(0x080001, 1)], engine := { arrays := [(5, .retired)] } }, 0, 5, by decide⟩

theorem witness_ArraysAreTestedAndReplaced_2 : ∃ (s : State) (k t0 : Nat), (s.engine.retest = some (k, t0)) ∧
      (400000000 ≤ (s.tick - t0) * s.engine.cclk) :=
  ⟨{ on with tick := 1000000, engine := { arrays := [(5, .suspect)], retest := some (5, 0) } }, 5, 0, by decide⟩

theorem witness_ArraysAreTestedAndReplaced_3 : ∃ (s : State) (sess code : Nat), (s.gate sess K.arrayRetire = none) ∧
      (code % 128 < 50) ∧
      (s.engine.retest = none) ∧
      (s.sound (code / 128) (code % 128) = true) ∧
      (s.waitsRetire (code / 128) (code % 128) = false) ∧
      (s.engine.pendRestore = []) ∧
      (((List.range 16).all fun c => (s.ctx c).plan.isNone) = true) :=
  ⟨{ on with regs := [(0x080001, 1)] }, 0, 5, by decide⟩

theorem witness_ArraysAreTestedAndReplaced_4 : ∃ (s : State) (die n cause : Nat), (n < 48) ∧
      (s.engine.pendRetire = [(die * 64 + n, cause)]) ∧
      (s.engine.pendRestore = []) ∧
      (s.sound die (48 + spareOf n) = true) ∧
      (s.served die (spareOf n) = none) ∧
      (((List.range 16).all fun c => (s.ctx c).plan.isNone) = true) :=
  ⟨{ on with engine := { arrays := [(5, .suspect)], pendRetire := [(5, 1)] } }, 0, 5, 1, by decide⟩

theorem witness_ArraysAreTestedAndReplaced_5 : ∃ (s : State) (sess code : Nat), (s.gate sess K.arrayRestore = none) ∧
      (code % 128 < 50) ∧
      (s.engine.retest = none) ∧
      (s.arrayAt (code / 128) (code % 128) = .retired) ∧
      (s.engine.passed.contains (code / 128 * 64 + code % 128) = true) ∧
      (s.stripeRuns = false) ∧
      (s.engine.pendRetire = []) ∧
      (s.engine.pendRestore = []) ∧
      (((List.range 16).all fun c => (s.ctx c).plan.isNone) = true) :=
  ⟨{ on with regs := [(0x080001, 1)], engine := { arrays := [(5, .retired)], passed := [5] } }, 0, 5, by decide⟩

theorem witness_PlanSlotsAreFilled_1 : ∃ (s : State) (sess length n base : Nat), (s.gate sess K.planUploadBegin = none) ∧
      (8576 ≤ length) ∧
      (s.reg K.planUploadSlot = n) ∧
      (s.slotState n ≠ 1) ∧
      (s.slotState n ≠ 3) ∧
      (s.engine.upload = none) ∧
      (length ≤ s.memFree) ∧
      (placeRange (s.takenRanges n) (ceilDiv length (4096 * s.mfg.part.memDies) * 4096) = some base) :=
  ⟨on, 0, 10000, 0, 0, by
    refine ⟨by decide, by decide, by decide, by decide, by decide, by decide, by decide, ?_⟩
    rw [show on.takenRanges 0 = [] from rfl]
    simp [placeRange]
    decide⟩

theorem witness_PlanSlotsAreFilled_2 : ∃ (s : State) (sess n : Nat) (d : List Byte), (s.gate sess K.planUploadData = none) ∧
      (d ≠ []) ∧
      (d.length ≤ 65536) ∧
      (s.engine.upload = some n) ∧
      (s.reg K.planUploadOffset + d.length ≤ (s.planSlot n).length) :=
  ⟨{ on with engine := { slots := [(3, { st := 1, length := 9000 })], upload := some 3 } }, 0, 3, [7, 8], by decide⟩

theorem witness_PlanSlotsAreFilled_3 : ∃ (s : State) (sess n : Nat), (s.gate sess K.planUploadEnd = none) ∧
      (n < 32) ∧
      (s.engine.upload = some n) ∧
      (covers (s.planSlot n).spans (s.planSlot n).length = true) :=
  ⟨{ on with engine := { slots := [(3, { st := 1, length := 9000, spans := [(0, 9000)] })], upload := some 3 } }, 0, 3, by decide⟩

theorem witness_PlanSlotsAreFilled_4 : ∃ (s : State) (sess n : Nat), (s.gate sess K.planSlotClear = none) ∧
      (n < 32) ∧
      (s.slotState n ≠ 3) :=
  ⟨{ on with engine := { slots := [(3, { st := 1, length := 9000 })], upload := some 3 } }, 0, 3, by decide⟩

theorem witness_KernelsStartAndEnd_1 : ∃ (s : State) (n cyc : Nat) (obs : KernelObs) (r : Ready) (per : Period), (s.feed cyc = s) ∧
      (s.kernelAt 0 n = some r) ∧
      (s.engine.period = some per) ∧
      ((s.ctx 0).st = .running) ∧
      (s.isFrozen r.k.die = false) ∧
      (per.ran.contains n = false) ∧
      (r.due ≤ cyc) ∧
      ((s.starvedAt r cyc).isNone = true) ∧
      (SMap.find? s.engine.starving (1 - r.k.die) = none) ∧
      (r.w.layer.op = 1) ∧
      (11 < r.k.unit) ∧
      (bitOf r.k.flags 2 = false) ∧
      (r.w.layer.decision = false) :=
  ⟨{ on with engine := { ctxs := [(0, { st := .running, plan := some { stripeLines := 8, layers := [{ op := 1 }], kernels := [{ unit := 16, flags := 2 }] } })], period := some { k := 0, first := 0, start := 0, due := 0 } } }, 0, 5, {}, { plan := { stripeLines := 8, layers := [{ op := 1 }], kernels := [{ unit := 16, flags := 2 }] }, k := { unit := 16, flags := 2 }, w := { plan := { stripeLines := 8, layers := [{ op := 1 }], kernels := [{ unit := 16, flags := 2 }] }, img := [], memDies := 0, stripe := 0, start := 0, lines := none, die := 0, layer := { op := 1 }, rerun := false }, batch := 0, mute := false, due := 0, from' := 0 }, { k := 0, first := 0, start := 0, due := 0 }, by decide +kernel, by rfl, rfl, rfl, by decide, by decide, by decide, by decide, by decide, by decide, by decide, by decide, by decide⟩

theorem witness_KernelsStartAndEnd_2 : ∃ (s : State) (n cyc : Nat) (obs : KernelObs) (p : Plan) (k : Kernel) (per : Period), (s.runPlan 0 = some p) ∧
      (p.kernels[n]? = some k) ∧
      (s.engine.period = some per) ∧
      (cyc < per.start + k.start) :=
  ⟨{ on with engine := { ctxs := [(0, { st := .running, plan := some { stripeLines := 8, kernels := [{ flags := 2, start := 9 }] } })], period := some { k := 0, first := 0, start := 0, due := 0 } } }, 0, 5, {}, { stripeLines := 8, kernels := [{ flags := 2, start := 9 }] }, { flags := 2, start := 9 }, { k := 0, first := 0, start := 0, due := 0 }, by decide⟩

theorem witness_KernelsStartAndEnd_3 : ∃ (s : State) (n cyc : Nat) (p : Plan) (k : Kernel) (per : Period), (s.feed cyc = s) ∧
      (s.isFrozen k.die = false) ∧
      (s.runPlan 0 = some p) ∧
      (p.kernels[n]? = some k) ∧
      (s.engine.period = some per) ∧
      (per.ran.contains n = true) ∧
      (per.done.contains n = false) ∧
      (per.start + k.start + k.cycles + per.frozenOn k.die ≤ cyc) ∧
      (SMap.find? s.perf.tags k.die = none) :=
  ⟨{ on with engine := { ctxs := [(0, { st := .running, plan := some { stripeLines := 8, kernels := [{ cycles := 4 }] } })], period := some { k := 0, first := 0, start := 0, due := 0, ran := [0] } } }, 0, 5, { stripeLines := 8, kernels := [{ cycles := 4 }] }, { cycles := 4 }, { k := 0, first := 0, start := 0, due := 0, ran := [0] }, by decide⟩

theorem witness_NumbersAreBoundedAndRounded_1 : ∃ (l : List (Int × Int)), (l.length ≤ 64) ∧
      ((l.all fun p => decide (-128 ≤ p.1 ∧ p.1 ≤ 127 ∧ -128 ≤ p.2 ∧ p.2 ≤ 127)) = true) :=
  ⟨[(127, -128), (-128, -128)], by decide⟩

theorem witness_NumbersAreBoundedAndRounded_2 : ∃ (l : List (Int × Int)), (l.length ≤ 128) ∧
      ((l.all fun p => decide (-8 ≤ p.1 ∧ p.1 ≤ 7 ∧ -128 ≤ p.2 ∧ p.2 ≤ 127)) = true) :=
  ⟨[(7, -128), (-8, -128)], by decide⟩

theorem witness_NumbersAreBoundedAndRounded_4 : ∃ (neg : Bool) (n d : Nat) (i : Int), (0 < d) ∧
      ((Flt.fin neg n d).toInt = some i) :=
  ⟨false, 5, 2, 3, by decide⟩

set_option maxRecDepth 20000 in
theorem witness_PeriodsStartAndEnd_1 : ∃ (s : State) (n : NextPeriod) (cyc : Nat), (s.nextDue = some n) ∧
      (s.mayRun = true) ∧
      (n.due.getD (max cyc s.engine.lastEnd) ≤ cyc) ∧
      (s.engine.lastEnd ≤ cyc) ∧
      (s.engine.pendRetire = []) ∧
      (s.engine.pendRestore = []) :=
  ⟨{ on with pipe := { stripes := [(0, { num := 0, ready := true, readyCyc := 5 })] }, engine := { ctxs := [(0, { st := .ready, plan := some { stripeLines := 8, periodCycles := 100, flush := 2, slots := [{ kind := 1, dieMask := 3 }] } })] } }, { plan := { stripeLines := 8, periodCycles := 100, flush := 2, slots := [{ kind := 1, dieMask := 3 }] }, first := 0, upto := 1, old := false, flush := false, due := some 5 }, 7, by decide +kernel, by decide⟩

theorem witness_PeriodsStartAndEnd_2 : ∃ (s : State) (cyc : Nat), (s.mayRun = true) ∧
      (s.rtPlan.isSome = true) ∧
      (s.belt.st = .stopped ∨ s.belt.st = .lost ∨ s.belt.st = .noSource) ∧
      (s.nextDue.isNone = true) ∧
      (s.engine.unbound = false) ∧
      (s.engine.lastEnd ≤ cyc) :=
  ⟨{ on with belt := { st := .stopped }, engine := { ctxs := [(0, { st := .idle, plan := some { stripeLines := 8, periodCycles := 100, flush := 2, slots := [{ kind := 1, dieMask := 3 }] } })] } }, 7, by decide⟩

theorem witness_PeriodsStartAndEnd_3 : ∃ (s : State) (cyc : Nat) (per : Period) (p : Plan), (s.engine.period = some per) ∧
      (s.runPlan 0 = some p) ∧
      (s.isFrozen 0 = false) ∧
      (s.isFrozen 1 = false) ∧
      (per.empty = true) ∧
      (s.feed cyc = s) ∧
      (per.start + p.periodCycles + (max (per.frozenOn 0) (per.frozenOn 1) - p.retryReserve) ≤ cyc) :=
  ⟨{ on with engine := { ctxs := [(0, { st := .running, plan := some { stripeLines := 8, periodCycles := 100, flush := 2, slots := [{ kind := 1, dieMask := 3 }] } })], period := some { k := 0, first := 0, start := 0, due := 0, empty := true } } }, 100, { k := 0, first := 0, start := 0, due := 0, empty := true }, { stripeLines := 8, periodCycles := 100, flush := 2, slots := [{ kind := 1, dieMask := 3 }] }, by decide⟩

theorem witness_PeriodsStartAndEnd_4 : ∃ (s : State) (cyc : Nat) (per : Period) (p : Plan), (s.engine.period = some per) ∧
      (s.runPlan 0 = some p) ∧
      (s.isFrozen 0 = false) ∧
      (s.isFrozen 1 = false) ∧
      (per.empty = false) ∧
      (s.feed cyc = s) ∧
      (per.start + p.periodCycles + (max (per.frozenOn 0) (per.frozenOn 1) - p.retryReserve) ≤ cyc) :=
  ⟨{ on with pipe := { stripes := [(0, { num := 0, ready := true })] }, engine := { ctxs := [(0, { st := .running, plan := some { stripeLines := 8, periodCycles := 100, flush := 2, slots := [{ kind := 1, dieMask := 3 }] } })], period := some { k := 0, first := 0, upto := 1, start := 0, due := 0 } } }, 100, { k := 0, first := 0, upto := 1, start := 0, due := 0 }, { stripeLines := 8, periodCycles := 100, flush := 2, slots := [{ kind := 1, dieMask := 3 }] }, by decide⟩

theorem witness_SlotsAndStepsRun_1 : ∃ (s : State) (die n cyc : Nat) (per : Period) (p : Plan) (x : PSlot), (die < 2) ∧
      (s.engine.period = some per) ∧
      (s.runPlan 0 = some p) ∧
      (p.slots[n]? = some x) ∧
      (bitOf x.dieMask die = true) ∧
      (s.isFrozen die = false) ∧
      (s.feed cyc = s) ∧
      (SMap.get 0 per.slot die ≤ n) ∧
      (per.start + x.start + per.frozenOn die ≤ cyc) :=
  ⟨{ on with engine := { ctxs := [(0, { st := .running, plan := some { stripeLines := 8, periodCycles := 100, flush := 2, slots := [{ kind := 1, dieMask := 3 }] } })], period := some { k := 0, first := 0, start := 0, due := 0 } } }, 1, 0, 3, { k := 0, first := 0, start := 0, due := 0 }, { stripeLines := 8, periodCycles := 100, flush := 2, slots := [{ kind := 1, dieMask := 3 }] }, { kind := 1, dieMask := 3 }, by decide⟩

theorem witness_SlotsAndStepsRun_2 : ∃ (s : State) (c cyc : Nat) (p : Plan) (n : Nat), (0 < c) ∧
      (c < 16) ∧
      ((s.ctx c).plan = some p) ∧
      (p.steps[(s.ctx c).nextStep]? = some n) ∧
      ((s.ctx c).st = .ready) ∧
      ((s.ctx c).jobs ≠ []) ∧
      ((s.ctx c).run = none) ∧
      (s.knots.held = []) ∧
      (s.stepWaits c n = false) ∧
      (s.rtPlan = none) ∧
      (s.engine.old = none) ∧
      (s.openChoice (p.stepDie n) 65534 = some c) ∧
      (s.dieBusy (p.stepDie n) = false) ∧
      (s.isFrozen (p.stepDie n) = false) ∧
      (s.faults.torn = []) ∧
      (s.power.st = .run) ∧
      (s.power.clock = none) ∧
      (s.faults.recovery = none) :=
  ⟨{ on with engine := { ctxs := [(4, { st := .ready, plan := some { cls := 1, kernels := [{ cycles := 9 }] }, jobs := [{ ring := 0, index := 0, tag := 0 }] })] } }, 4, 7, { cls := 1, kernels := [{ cycles := 9 }] }, 0, by
    have h : Plan.steps { cls := 1, kernels := [{ cycles := 9 }] } = [0] := by simp [Plan.steps, List.eraseDups, List.eraseDupsBy, List.eraseDupsBy.loop]
    refine ⟨by decide, by decide, rfl, ?_, rfl, by decide, rfl, rfl, by decide, by decide, rfl, ?_, by decide, by decide, rfl, rfl, rfl, rfl⟩
    · rw [h]; rfl
    · have g : ∀ c, State.stepPending { on with engine := { ctxs := [(4, { st := .ready, plan := some { cls := 1, kernels := [{ cycles := 9 }] }, jobs := [{ ring := 0, index := 0, tag := 0 }] })] } } c 0 = if c = 4 then some 0 else none := by
        intro c; by_cases e : c = 4
        · subst e; simp [State.stepPending, State.ctx, SMap.get, SMap.find?, h, Plan.stepDie, State.stepWaits, on]
        · unfold State.stepPending; simp [State.ctx, SMap.get, SMap.find?, e, Ne.symm e]
      have d : Plan.stepDie { cls := 1, kernels := [{ cycles := 9 }] } 0 = 0 := by decide
      rw [d]; unfold State.openChoice; rw [if_neg (by decide)]
      simp only [g]
      rfl⟩

theorem witness_SlotsAndStepsRun_3 : ∃ (s : State) (c cyc : Nat) (p : Plan) (r : StepRun) (j : Job) (rest : List Job), (c < 16) ∧
      ((s.ctx c).plan = some p) ∧
      ((s.ctx c).run = some r) ∧
      ((s.ctx c).jobs = j :: rest) ∧
      (s.isFrozen (p.stepDie r.step) = false) ∧
      (s.feed cyc = s) ∧
      (r.start + p.stepCycles r.step ≤ cyc) :=
  ⟨{ on with engine := { ctxs := [(4, { st := .running, plan := some { cls := 1, kernels := [{ cycles := 9 }] }, jobs := [{ ring := 0, index := 0, tag := 0 }], run := some { step := 0, start := 1 } })] } }, 4, 10, { cls := 1, kernels := [{ cycles := 9 }] }, { step := 0, start := 1 }, { ring := 0, index := 0, tag := 0 }, [], by decide⟩

theorem witness_SlotsAndStepsRun_4 : ∃ (s : State) (sess : Nat) (p : Plan) (n : Nat), (s.gate sess K.flush = none) ∧
      (s.rtPlan = some p) ∧
      (s.belt.st = .stopped ∨ s.belt.st = .lost ∨ s.belt.st = .noSource) ∧
      (s.engine.flushAction = false) ∧
      (p.flush ≠ 0) ∧
      (s.lastTriggered = some n) ∧
      (s.belt.streamStart = false) :=
  ⟨{ on with belt := { st := .stopped, streamStart := false }, regs := [(K.tileColumns 0, 8), (K.streamPipeline 0, 0)], intake := { streams := [(0, { highest := some 20 })] }, engine := { ctxs := [(0, { st := .idle, plan := some { stripeLines := 8, periodCycles := 100, flush := 2, slots := [{ kind := 1, dieMask := 3 }] } })] } }, 0, { stripeLines := 8, periodCycles := 100, flush := 2, slots := [{ kind := 1, dieMask := 3 }] }, 20, by decide⟩

theorem witness_DecisionsBecomePulses_1 : ∃ (s : State) (r : Rec) (rest : List Rec), (s.tracks.crossing = r :: rest) ∧
      (bitOf r.flags 0 = false) :=
  ⟨{ on with tracks := { crossing := [{ typ := 1, src := 0, ctx := 0, flags := 0, pos := 9, time := 0, payload := 0 }] } }, { typ := 1, src := 0, ctx := 0, flags := 0, pos := 9, time := 0, payload := 0 }, [], by decide⟩

theorem witness_DecisionsBecomePulses_2 : ∃ (s : State) (r : Rec) (rest : List Rec) (c : Nat), (s.tracks.crossing = r :: rest) ∧
      (bitOf r.flags 0 = true) ∧
      (s.recChannels r.payload = [c]) ∧
      (s.chanEnabled c = true) ∧
      (s.pulses c = []) ∧
      (s.comparesRun = false) ∧
      (s.pulseCount < 32768) :=
  ⟨{ on with regs := [(K.valveChannelCount, 64), (K.valveGranule, 1)], blobs := [(K.channelValveType, [0xFF, 0, 0xFF])], tracks := { crossing := [{ typ := 1, src := 0, ctx := 0, flags := 1, pos := 9, time := 0, payload := 20 * 2 ^ 48 + 1 * 2 ^ 21 + 1 }] } }, { typ := 1, src := 0, ctx := 0, flags := 1, pos := 9, time := 0, payload := 20 * 2 ^ 48 + 1 * 2 ^ 21 + 1 }, [], 1, by decide⟩

theorem witness_DecisionsBecomePulses_3 : ∃ (s : State) (ch t0 : Nat) (p : Pulse) (rest : List Pulse), (ch < 1152) ∧
      (s.pulses ch = p :: rest) ∧
      (p.deferred = some t0) ∧
      (t0 ≤ s.tick) :=
  ⟨{ on with eject := { pulses := [(1, [{ openPos := 0, closePos := 5, on := true, deferred := some 0 }])], chanOn := [1] } }, 1, 0, { openPos := 0, closePos := 5, on := true, deferred := some 0 }, [], by decide⟩

theorem witness_DecisionsBecomePulses_4 : ∃ (s : State) (ch : Nat) (p : Pulse) (rest : List Pulse), (ch < 1152) ∧
      (s.pulses ch = p :: rest) ∧
      (p.on = true) ∧
      (s.maxOnTick ch p.onTick ≤ s.tick) ∧
      ((s.belt.ibp : Int) < s.closeCmp ch p) :=
  ⟨{ on with tick := 2 ^ 40, eject := { pulses := [(1, [{ openPos := 0, closePos := 5000000, on := true }])], chanOn := [1] } }, 1, { openPos := 0, closePos := 5000000, on := true }, [], by decide⟩

theorem witness_DecisionsBecomePulses_5 : ∃ (s : State) (ch t0 : Nat) (p : Pulse) (rest : List Pulse), (ch < 1152) ∧
      (s.pulses ch = p :: rest) ∧
      (p.split = some t0) ∧
      (t0 ≤ s.tick) ∧
      ((s.belt.ibp : Int) < s.closeCmp ch p) :=
  ⟨{ on with tick := 100, eject := { pulses := [(1, [{ openPos := 0, closePos := 5000000, split := some 7 }])] } }, 1, 7, { openPos := 0, closePos := 5000000, split := some 7 }, [], by decide⟩

theorem witness_DecisionsBecomePulses_6 : ∃ (s : State) (p : Nat) (rest : List Nat), (s.tracks.originMsg = p :: rest) :=
  ⟨{ on with tracks := { originMsg := [44] } }, 44, [], by decide⟩

theorem witness_TestPulsesAndFireErrors_1 : ∃ (s : State) (sess v : Nat), (s.gate sess K.valveTestPulse = none) ∧
      (bits v 15 0 ≤ 1151) ∧
      (1 ≤ bits v 31 16) ∧
      (bits v 31 16 ≤ 1000) ∧
      (s.belt.st = .stopped ∨ s.belt.st = .noSource) ∧
      (s.chanEnabled (bits v 15 0) = true) :=
  ⟨{ on with belt := { st := .stopped }, blobs := [(K.channelValveType, [0xFF, 0])] }, 0, 5 * 65536 + 1, by decide⟩

theorem witness_TestPulsesAndFireErrors_2 : ∃ (s : State) (p : TestPulse), (s.eject.test = some p) ∧
      (p.start + p.length ≤ s.tick) :=
  ⟨{ on with tick := 500, eject := { test := some { channel := 1, start := 0, length := 400 }, chanOn := [1] } }, { channel := 1, start := 0, length := 400 }, by decide⟩

theorem witness_TestPulsesAndFireErrors_3 : ∃ (s : State) (sess : Nat), (s.gate sess K.fireErrorClear = none) :=
  ⟨on, 0, by decide⟩

theorem witness_TestPulsesAndFireErrors_4 : ∃ (s : State) (o : Nat) (level : Bool), (o < 128) ∧
      ((s.dirOut o).readback ≠ level) :=
  ⟨on, 7, true, by decide⟩

theorem witness_InputsAreRead_1 : ∃ (s : State) (n : Nat) (level : Bool), (n < 32) ∧
      (s.timeRuns = true) ∧
      ((s.input n).raw ≠ level) ∧
      ((s.input n).level ≠ level) ∧
      (s.reg (K.inputMode n) = 0) :=
  ⟨{ on with regs := [(K.inputMode 3, 0)] }, 3, true, by decide⟩

theorem witness_InputsAreRead_2 : ∃ (s : State) (n : Nat) (level : Bool), (n < 32) ∧
      (s.timeRuns = true) ∧
      ((s.input n).raw ≠ level) ∧
      ((s.input n).level ≠ level) ∧
      (s.reg (K.inputMode n) = 1) :=
  ⟨{ on with regs := [(K.inputMode 3, 1)] }, 3, true, by decide⟩

theorem witness_InputsAreRead_3 : ∃ (s : State) (n : Nat) (level : Bool), (n < 32) ∧
      (s.timeRuns = false) ∧
      ((s.input n).raw ≠ level) :=
  ⟨{ on with power := { st := .retain } }, 3, true, by decide⟩

theorem witness_InputsAreRead_4 : ∃ (s : State) (n t0 : Nat), (n < 32) ∧
      ((s.input n).cand = some t0) ∧
      (s.reg (K.inputMode n) = 1) ∧
      (t0 < s.tick) ∧
      (s.reg (K.inputFilter n) ≤ 4 * (s.tick - t0)) :=
  ⟨{ on with tick := 2500000, regs := [(K.inputMode 3, 1)], field := { inputs := [(3, { raw := true, cand := some 0 })] } }, 3, 0, by decide⟩

theorem witness_InputsAreRead_5 : ∃ (s : State) (n : Nat) (level : Bool), (n < 32) ∧
      (s.power.st ≠ .retain) ∧
      (s.power.st ≠ .standby) ∧
      ((s.input n).level ≠ level) ∧
      (s.reg (K.inputMode n) = 2) ∧
      (s.windowDue n = true) :=
  ⟨{ on with tick := 1000, regs := [(K.inputMode 3, 2)] }, 3, true, by decide⟩

theorem witness_InputsAreRead_6 : ∃ (s : State) (ma : Nat), (1000 < ma) ∧
      (s.reg K.sensorSupplyState = 0) :=
  ⟨on, 1200, by decide⟩

theorem witness_InputsAreRead_7 : ∃ (s : State) (sess : Nat), (s.gate sess K.sensorSupplyReset = none) :=
  ⟨on, 0, by decide⟩

theorem witness_OutputFaultsAreDetected_1 : ∃ (s : State) (o : Nat), (o < 128) ∧
      ((s.dirOut o).cmd = true) ∧
      ((s.dirOut o).checked = false) ∧
      ((s.dirOut o).driven = true) ∧
      ((s.dirOut o).readback = false) ∧
      ((s.dirOut o).cmdTick + 2500 ≤ s.tick) :=
  ⟨{ on with tick := 2500, field := { outs := [(7, { cmd := true, checked := false, driven := true })] } }, 7, by decide⟩

theorem witness_OutputFaultsAreDetected_2 : ∃ (s : State) (o : Nat), (o < 128) ∧
      ((s.dirOut o).driven = true) :=
  ⟨{ on with field := { outs := [(7, { driven := true })] } }, 7, by decide⟩

theorem witness_OutputFaultsAreDetected_3 : ∃ (s : State) (o : Nat), (o < 128) ∧
      ((s.dirOut o).cmd = false) ∧
      ((s.dirOut o).readback = true) ∧
      ((s.dirOut o).external = false) ∧
      ((s.dirOut o).cmdTick + 25000 ≤ s.tick) :=
  ⟨{ on with tick := 25000, field := { outs := [(7, { readback := true })] } }, 7, by decide⟩

theorem witness_OutputFaultsAreDetected_4 : ∃ (s : State) (o : Nat), (o < 128) ∧
      ((s.dirOut o).external = true) ∧
      ((s.dirOut o).readback = false) ∧
      ((s.dirOut o).rbSince + 25000000 ≤ s.tick) :=
  ⟨{ on with tick := 25000000, field := { outs := [(7, { external := true })] } }, 7, by decide⟩

theorem witness_OutputFaultsAreDetected_5 : ∃ (s : State) (o : Nat), (o < 128) ∧
      ((s.dirOut o).driven = false) ∧
      ((s.dirOut o).readback = true) ∧
      ((s.dirOut o).openLoad = false) ∧
      (s.flag (K.openLoadDetect o) = true) ∧
      (max (s.dirOut o).rbSince (max (s.dirOut o).cmdTick (s.dirOut o).testFrom) + 12500000 ≤ s.tick) :=
  ⟨{ on with tick := 12500000, regs := [(K.openLoadDetect 7, 1)], field := { outs := [(7, { readback := true })] } }, 7, by decide⟩

theorem witness_OutputFaultsAreDetected_6 : ∃ (s : State) (sess o : Nat), (s.gate sess K.outputFaultClear = none) ∧
      (o < 128) :=
  ⟨{ on with field := { outs := [(7, { overload := true })] } }, 0, 7, by decide⟩

theorem witness_OutputFaultsAreDetected_7 : ∃ (s : State) (sess : Nat), (s.gate sess K.outputFaultClear = none) :=
  ⟨on, 0, by decide⟩

theorem witness_AliveAndGeneralOutputs_1 : ∃ (s : State), (s.field.alive.running = true) ∧
      (s.field.alive.edge + 125000 ≤ s.tick) :=
  ⟨{ on with tick := 125000, field := { alive := { running := true } } }, by decide⟩

theorem witness_AliveAndGeneralOutputs_2 : ∃ (s : State) (sess : Nat), (s.gate sess K.aliveControl = none) :=
  ⟨on, 0, by decide⟩

theorem witness_AliveAndGeneralOutputs_3 : ∃ (s : State) (sess : Nat), (s.gate sess K.aliveControl = none) ∧
      (s.field.alive.causes = [1]) ∧
      (s.field.alive.running = false) :=
  ⟨{ on with field := { alive := { causes := [1] } } }, 0, by decide⟩

theorem witness_AliveAndGeneralOutputs_4 : ∃ (s : State) (sess : Nat), (s.gate sess K.aliveControl = none) ∧
      ((s.field.alive.causes.any (· != 1)) = true) :=
  ⟨{ on with field := { alive := { causes := [1, 2] } } }, 0, by decide⟩

theorem witness_AliveAndGeneralOutputs_5 : ∃ (s : State) (sess o level : Nat), (o < 128) ∧
      (level ≤ 1) ∧
      (s.ctl.serving = true) ∧
      (s.faults.stalled = false) ∧
      (s.flag (K.generalOutputEnable o) = true) ∧
      ((s.dirOut o).rest = false) :=
  ⟨{ on with regs := [(K.generalOutputEnable 7, 1)] }, 0, 7, 1, by decide⟩

theorem witness_EncodersAreSuppliedAndRead_1 : ∃ (s : State) (c ma : Nat), (c < 2) ∧
      (s.reg (K.encoderSupply c) ≠ 0) ∧
      (s.encLimit c < ma) ∧
      ((s.enc c).supplyTripped = false) :=
  ⟨{ on with regs := [(K.encoderSupply 1, 1)] }, 1, 900, by decide⟩

theorem witness_EncodersAreSuppliedAndRead_2 : ∃ (s : State) (sess c : Nat), (s.gate sess K.encoderSupplyReset = none) ∧
      (c < 2) ∧
      ((s.enc c).supplyTripped = true) :=
  ⟨{ on with field := { enc := [(1, { supplyTripped := true })] } }, 0, 1, by decide⟩

theorem witness_EncodersAreSuppliedAndRead_3 : ∃ (s : State) (c : Nat) (r : EncRead), (c < 2) ∧
      (s.flag (K.auxEnable c) = true) ∧
      ((s.enc c).lastAux + s.reg (K.auxSamplePeriod c) / 4 ≤ s.tick) ∧
      (s.timeRuns = true) ∧
      ((s.encCheck c r).1 = false) ∧
      ((s.enc c).wPrev = none) :=
  ⟨{ on with tick := 1000000, regs := [(K.auxEnable 1, 1)] }, 1, { bits := 0 }, by decide⟩

theorem witness_EncodersAreSuppliedAndRead_4 : ∃ (s : State) (c w : Nat) (r : EncRead), (c < 2) ∧
      (s.flag (K.auxEnable c) = true) ∧
      ((s.enc c).lastAux + s.reg (K.auxSamplePeriod c) / 4 ≤ s.tick) ∧
      (s.timeRuns = true) ∧
      ((s.encCheck c r).1 = false) ∧
      ((s.enc c).wPrev = some w) ∧
      ((unwrap (s.encBits c) (s.encPosition c r) w).natAbs ≤ 2 ^ (s.encBits c - 2)) :=
  ⟨{ on with tick := 1000000, regs := [(K.auxEnable 1, 1)], field := { enc := [(1, { wPrev := some 0 })] } }, 1, 0, { bits := 0 }, by decide⟩

theorem witness_ValveLinkComesUp_1 : ∃ (s : State) (p : Nat), (p < 4) ∧
      (s.timeRuns = true) ∧
      ((s.vl p).st = .down) :=
  ⟨on, 2, by decide⟩

theorem witness_ValveLinkComesUp_2 : ∃ (s : State) (p : Nat) (f : VlFrame), (p < 4) ∧
      (s.supplies.inReset = false) ∧
      (f.codeErrors = 0) ∧
      (f.crcOk = true) ∧
      (f.badLength = false) ∧
      (f.typ = 0x81) ∧
      (f.payload.length = 16) ∧
      ((s.vl p).st = .ident) ∧
      (s.identFail p f.payload = none) :=
  ⟨{ on with tick := 300000000, field := { vl := [(2, { lock := true, st := .ident })] } }, 2, (goodVl { typ := 0x81, payload := [0, 0, 0, 0, 1, 0, 16, 0, 100, 0, 255, 255, 0, 0, 0, 0] }), by decide, by decide, by decide, goodVl_crcOk _, by decide, by decide, by decide, by decide, by decide⟩

theorem witness_ValveLinkComesUp_3 : ∃ (s : State) (p t0 : Nat), (p < 4) ∧
      ((s.vl p).echoSent = some t0) :=
  ⟨{ on with tick := 300000000, field := { vl := [(2, { st := .measuring, echoSent := some 299999900 })] } }, 2, 299999900, by decide⟩

theorem witness_ValveLinkComesUp_4 : ∃ (s : State) (p : Nat) (f : VlFrame), (p < 4) ∧
      (s.supplies.inReset = false) ∧
      (f.codeErrors = 0) ∧
      (f.crcOk = true) ∧
      (f.badLength = false) ∧
      (f.typ = 0x82) ∧
      (f.payload.length = 8) ∧
      ((s.vl p).st = .arming) ∧
      ((s.vl p).unacked = []) ∧
      ((s.vl p).rtt = none) :=
  ⟨{ on with tick := 300000000, field := { vl := [(2, { st := .arming })] } }, 2, (goodVl { typ := 0x82, payload := [0, 0, 0, 0, 0, 0, 0, 0] }), by decide, by decide, by decide, goodVl_crcOk _, by decide, by decide, by decide, by decide, by decide, by decide⟩

theorem witness_ValveLinkComesUp_5 : ∃ (s : State) (p : Nat), (p < 4) ∧
      ((s.vl p).st = .ident) ∧
      ((s.vl p).since + 2500000 ≤ s.tick) :=
  ⟨{ on with tick := 300000000, field := { vl := [(2, { st := .ident })] } }, 2, by decide⟩

theorem witness_ValveLinkComesUp_6 : ∃ (s : State) (p : Nat), (p < 4) ∧
      ((s.vl p).st = .failed) ∧
      ((s.vl p).lock = true) ∧
      ((s.vl p).since + 250000000 ≤ s.tick) :=
  ⟨{ on with tick := 300000000, field := { vl := [(2, { st := .failed, lock := true })] } }, 2, by decide⟩

theorem witness_ValveLinkIsKept_1 : ∃ (s : State) (p : Nat), (p < 4) ∧
      ((s.vl p).st.live = true) :=
  ⟨{ on with tick := 300000000, field := { vl := [(2, { st := .active, lock := true })] } }, 2, by decide⟩

theorem witness_ValveLinkIsKept_2 : ∃ (s : State) (p : Nat), (p < 4) ∧
      ((s.vl p).st = .active) ∧
      ((s.vl p).lastStatus + 250000 ≤ s.tick) :=
  ⟨{ on with tick := 300000000, field := { vl := [(2, { st := .active, lock := true })] } }, 2, by decide⟩

theorem witness_ValveLinkIsKept_3 : ∃ (s : State) (p : Nat), (p < 4) ∧
      ((s.vl p).kaSent + s.reg K.keepAlivePeriod * 250 ≤ s.tick) ∧
      (s.timeRuns = true) :=
  ⟨{ on with tick := 300000000, field := { vl := [(2, { st := .active })] } }, 2, by decide⟩

theorem witness_ValveLinkIsKept_4 : ∃ (s : State) (p : Nat) (f : CtlFrame), (p < 4) ∧
      ((s.vl p).unacked = [f]) ∧
      (f.sent + 50000 ≤ s.tick) :=
  ⟨{ on with tick := 300000000, field := { vl := [(2, { st := .active, unacked := [{ seq := 4, typ := 2, payload := [], sent := 0 }] })] } }, 2, { seq := 4, typ := 2, payload := [], sent := 0 }, by decide⟩

theorem witness_ValveLinkIsKept_5 : ∃ (s : State) (p : Nat), (p < 4) ∧
      ((s.vl p).st = .active) ∧
      ((s.vl p).lastMeasure + 25000000 ≤ s.tick) ∧
      ((s.vl p).echoSent = none) ∧
      ((s.vl p).rtt = none) :=
  ⟨{ on with tick := 300000000, field := { vl := [(2, { st := .active })] } }, 2, by decide⟩

theorem witness_ValveFramesAreHandled_1 : ∃ (s : State) (p : Nat) (q : StrobeReq), (p < 4) ∧
      ((s.vl p).strobes = [q]) ∧
      (s.vlSends p = true) :=
  ⟨{ on with tick := 300000000, field := { vl := [(2, { st := .active, strobes := [{ prio := 2, tag := 5, tc := 100 }], tags := [{ tag := 5, edge := 1, pos := 0, valves := [1] }] })] } }, 2, { prio := 2, tag := 5, tc := 100 }, by decide⟩

theorem witness_ValveFramesAreHandled_2 : ∃ (s : State) (p : Nat) (f : VlFrame), (p < 4) ∧
      (s.supplies.inReset = false) ∧
      (f.codeErrors = 0) ∧
      (f.crcOk = true) ∧
      (f.badLength = false) ∧
      (f.typ = 0x83) ∧
      (f.payload.length = 6) ∧
      ((s.vl p).tags = []) :=
  ⟨{ on with tick := 300000000, field := { vl := [(2, { st := .active })] } }, 2, (goodVl { typ := 0x83, payload := [0, 0, 0, 0, 0, 0] }), by decide, by decide, by decide, goodVl_crcOk _, by decide, by decide, by decide, by decide⟩

theorem witness_ValveFramesAreHandled_3 : ∃ (s : State) (p t0 : Nat) (f : VlFrame) (g : Tag), (p < 4) ∧
      (s.supplies.inReset = false) ∧
      (f.codeErrors = 0) ∧
      (f.crcOk = true) ∧
      (f.badLength = false) ∧
      (f.typ = 0x83) ∧
      (f.payload.length = 6) ∧
      ((s.vl p).tags = [g]) ∧
      (g.tag = leAt f.payload 0 2) ∧
      (g.strobed = some t0) :=
  ⟨{ on with tick := 300000000, field := { vl := [(2, { st := .active, tags := [{ tag := 0, edge := 1, pos := 0, valves := [1], strobed := some 9 }] })] } }, 2, 9, (goodVl { typ := 0x83, payload := [0, 0, 0, 0, 0, 0] }), { tag := 0, edge := 1, pos := 0, valves := [1], strobed := some 9 }, by decide, by decide, by decide, goodVl_crcOk _, by decide, by decide, by decide, by decide, by decide, by decide⟩

theorem witness_ValveFramesAreHandled_4 : ∃ (s : State) (p v : Nat) (f : VlFrame) (rest : List Nat), (p < 4) ∧
      (s.supplies.inReset = false) ∧
      (f.codeErrors = 0) ∧
      (f.crcOk = true) ∧
      (f.badLength = false) ∧
      (f.typ = 0x84) ∧
      (f.payload.length = 4 + 4 * ((List.range 8).filter fun g => bitOf (leAt f.payload 1 1) g).length) ∧
      (maskValves f.payload (leAt f.payload 1 1) 4 = v :: rest) :=
  ⟨on, 2, 0, (goodVl { typ := 0x84, payload := [0, 1, 0, 0, 1, 0, 0, 0] }), [], by decide, by decide, by decide, goodVl_crcOk _, by decide, by decide, by decide, by decide⟩

theorem witness_ValveFramesAreHandled_5 : ∃ (s : State) (p : Nat), (p < 4) ∧
      (s.reg (K.valveLinkTest p) = 2) ∧
      ((s.vl p).st = .test) :=
  ⟨{ on with regs := [(K.valveLinkTest 2, 2)], field := { vl := [(2, { st := .test })] } }, 2, by decide⟩

theorem witness_ValveFramesAreHandled_6 : ∃ (s : State) (p : Nat) (f : VlFrame), (p < 4) ∧
      (s.supplies.inReset = false) ∧
      (f.codeErrors = 0) ∧
      (f.crcOk = true) ∧
      (f.badLength = false) ∧
      (f.typ = 0x85) ∧
      (f.payload.length = 32) ∧
      (s.reg (K.valveLinkTest p) = 2) :=
  ⟨{ on with regs := [(K.valveLinkTest 2, 2)] }, 2, (goodVl { typ := 0x85, payload := List.replicate 32 0 }), by decide, by decide, by decide, goodVl_crcOk _, by decide, by decide, by decide, by decide⟩

theorem witness_ValveFramesAreHandled_7 : ∃ (s : State) (p : Nat) (f : VlFrame), (p < 4) ∧
      (s.supplies.inReset = false) :=
  ⟨on, 2, { typ := 0x82, payload := [] }, by decide⟩

theorem witness_MemoryDieServesFrames_1 : ∃ (s : State) (l : Nat) (f : DownFrame), (s.hasMlink l = true) ∧
      ((s.mlink l).st = .up) ∧
      (f.crcOk 2 = true) ∧
      (f.opOk = true) ∧
      (f.seq % 256 = (s.mlink l).dieDown) ∧
      ((f.reserved = true ∨ (s.mlink l).writes = [])) :=
  ⟨on, 3, (goodDown 2 { seq := 0, addr := 64, count := 1 }), by decide, by decide, goodDown_crcOk _ _, by decide, by decide, by decide⟩

theorem witness_MemoryDieServesFrames_2 : ∃ (s : State) (l a n : Nat) (rest : List (Nat × Nat)) (f : DownFrame), (s.hasMlink l = true) ∧
      ((s.mlink l).st = .up) ∧
      (f.crcOk 0 = true) ∧
      (f.opOk = true) ∧
      (f.seq % 256 = (s.mlink l).dieDown) ∧
      (f.reserved = false) ∧
      (f.replay = none) ∧
      ((s.mlink l).writes = (a, n) :: rest) ∧
      (a + 150 ≤ 2 ^ 33) :=
  ⟨{ on with memory := { links := [(3, { writes := [(64, 1)] })] } }, 3, 64, 1, [], (goodDown 0 { seq := 0, data := [7, 8] }), by decide, by decide, goodDown_crcOk _ _, by decide, by decide, by decide, by decide, by decide, by decide⟩

theorem witness_MemoryDieServesFrames_3 : ∃ (s : State) (l : Nat) (f : DownFrame), (s.hasMlink l = true) ∧
      ((s.mlink l).st = .up) ∧
      (f.crcOk 1 = true) ∧
      (f.opOk = true) ∧
      (f.seq % 256 = (s.mlink l).dieDown) ∧
      ((f.reserved = true ∨ (s.mlink l).writes = [])) ∧
      (f.replay = none) ∧
      ((s.mlink l).queue = []) :=
  ⟨on, 3, (goodDown 1 { seq := 0, addr := 64, count := 2 }), by decide, by decide, goodDown_crcOk _ _, by decide, by decide, by decide, by decide, by decide⟩

theorem witness_MemoryDieServesFrames_4 : ∃ (s : State) (l : Nat) (f : DownFrame), (s.hasMlink l = true) ∧
      ((s.mlink l).st = .up) ∧
      (f.crcOk 3 = true) ∧
      (f.opOk = true) ∧
      (f.seq % 256 = (s.mlink l).dieDown) :=
  ⟨on, 3, (goodDown 3 { seq := 0 }), by decide, by decide, goodDown_crcOk _ _, by decide, by decide⟩

theorem witness_MemoryDieServesFrames_5 : ∃ (s : State) (l : Nat) (f : DownFrame), (s.hasMlink l = true) ∧
      ((s.mlink l).st = .up) ∧
      (f.crcOk 4 = true) ∧
      (f.opOk = true) ∧
      (f.seq % 256 = (s.mlink l).dieDown) ∧
      (s.badIn (linkDie l) (512 * SMap.get 0 s.memory.scrub (linkDie l)) 512 f.bad = []) :=
  ⟨on, 3, (goodDown 4 { seq := 0, corrected := 2 }), by decide, by decide, goodDown_crcOk _ _, by decide, by decide, by decide⟩

theorem witness_MemoryDieServesFrames_6 : ∃ (s : State) (l : Nat) (f : DownFrame), (s.hasMlink l = true) ∧
      ((s.mlink l).st = .up) ∧
      (f.crcOk 0 = true) ∧
      (f.opOk = true) ∧
      (f.seq % 256 = (s.mlink l).dieDown) ∧
      ((f.reserved = true ∨ (s.mlink l).writes = [])) :=
  ⟨on, 3, (goodDown 0 { seq := 0 }), by decide, by decide, goodDown_crcOk _ _, by decide, by decide, by decide⟩

theorem witness_MemoryDieServesFrames_7 : ∃ (s : State) (l q : Nat) (f : DownFrame), (s.hasMlink l = true) ∧
      ((s.mlink l).st = .up) ∧
      (f.crcOk 0 = true) ∧
      (f.opOk = true) ∧
      (f.seq % 256 = (s.mlink l).dieDown) ∧
      ((f.reserved = true ∨ (s.mlink l).writes = [])) ∧
      (f.replay = some q) ∧
      ((((s.mlink l).upKept.map fun k => k.1 % 128).contains (q % 128)) = true) :=
  ⟨{ on with memory := { links := [(3, { upKept := [(5, [1])] })] } }, 3, 5, (goodDown 0 { seq := 0, replay := some 5 }), by decide, by decide, goodDown_crcOk _ _, by decide, by decide, by decide, by decide, by decide⟩

theorem witness_MemoryDieServesFrames_8 : ∃ (s : State) (l : Nat) (f : DownFrame), (s.hasMlink l = true) ∧
      ((s.mlink l).st = .up) :=
  ⟨on, 3, { seq := 0 }, by decide⟩

theorem witness_MemoryLinksRun_1 : ∃ (s : State) (l : Nat) (f : UpFrame), (s.hasMlink l = true) ∧
      ((s.mlink l).st = .up) ∧
      (f.seq % 256 = (s.mlink l).upSeq) ∧
      (f.crcOk = true) ∧
      (f.valid = false) :=
  ⟨on, 3, (goodUp { seq := 0, valid := false }), by decide, by decide, by decide, goodUp_crcOk _, by decide⟩

theorem witness_MemoryLinksRun_2 : ∃ (s : State) (l : Nat) (f : UpFrame) (r : MReq), (s.hasMlink l = true) ∧
      ((s.mlink l).st = .up) ∧
      (f.seq % 256 = (s.mlink l).upSeq) ∧
      (f.crcOk = true) ∧
      (f.valid = true) ∧
      ((s.mlink l).reads = [r]) ∧
      (r.count = 1) ∧
      (r.kind = 2) ∧
      (s.badIn (linkDie l) r.addr 150 f.bad = []) ∧
      ((s.ctx r.ctx).st ≠ .gloved) ∧
      (r.dest + 150 ≤ 2 ^ 26) :=
  ⟨{ on with memory := { links := [(3, { reads := [{ addr := 64, count := 1, dest := 640, kind := 2 }] })] } }, 3, (goodUp { seq := 0, valid := true, data := [9] }), { addr := 64, count := 1, dest := 640, kind := 2 }, by decide, by decide, by decide, goodUp_crcOk _, by decide, by decide, by decide, by decide, by decide, by decide, by decide⟩

theorem witness_MemoryLinksRun_3 : ∃ (s : State) (l q : Nat) (f : UpFrame) (m : MSent), (s.hasMlink l = true) ∧
      ((s.mlink l).st = .up) ∧
      (f.seq % 256 = (s.mlink l).upSeq) ∧
      (f.crcOk = true) ∧
      (f.valid = false) ∧
      (f.nak = some q) ∧
      ((s.mlink l).downKept = [m]) ∧
      (m.seq = q % 256) ∧
      ((s.mlink l).downFails = 0) ∧
      ((s.mlink l).lag + 8 ≤ 64) :=
  ⟨{ on with memory := { links := [(3, { downKept := [{ seq := 5, op := 0, addr := 0, count := 0, data := [] }] })] } }, 3, 5, (goodUp { seq := 0, valid := false, nak := some 5 }), { seq := 5, op := 0, addr := 0, count := 0, data := [] }, by decide, by decide, by decide, goodUp_crcOk _, by decide, by decide, by decide, by decide, by decide, by decide⟩

theorem witness_MemoryLinksRun_4 : ∃ (s : State) (l k cyc : Nat), (s.hasMlink l = true) ∧
      (s.knots.held = []) ∧
      ((s.mlink l).st = .up) ∧
      (s.isFrozen (linkCompute l) = false) ∧
      (s.power.clock = none) ∧
      (s.schedules (linkCompute l) = []) ∧
      (s.gridBase (linkCompute l) + 16 * k ≤ cyc) ∧
      (s.feed cyc = s) ∧
      ((s.mlink l).lastSlot ≤ s.gridBase (linkCompute l) + 16 * k) :=
  ⟨on, 3, 4, 100, by decide⟩

theorem witness_MemoryLinksRun_5 : ∃ (s : State) (l cyc : Nat), (s.hasMlink l = true) ∧
      ((s.mlink l).st = .up) ∧
      ((s.mlink l).lag = 0) ∧
      (s.window l cyc = true) :=
  ⟨on, 3, 100, by decide⟩

theorem witness_MemoryLinksRun_6 : ∃ (s : State) (l cyc : Nat), (s.hasMlink l = true) ∧
      ((s.mlink l).st = .up) ∧
      ((s.mlink l).overdue = false) ∧
      ((s.mlink l).lastRecal + s.reg K.recalInterval < cyc) :=
  ⟨on, 3, 2 ^ 50, by decide⟩

theorem witness_MemoryLinksRun_7 : ∃ (s : State) (l k addr : Nat) (d : List Byte), (s.hasMlink l = true) ∧
      ((s.mlink l).st = .up) ∧
      (s.power.clock = none) ∧
      ((s.mlink l).lag = 0) ∧
      (d ≠ []) ∧
      (d.length ≤ 2400) ∧
      (k % 64 ≠ 63) ∧
      (s.schedules (linkCompute l) = []) ∧
      (addr % 2 = 0) ∧
      (addr + d.length ≤ 2 ^ 33) ∧
      (s.guarded addr (addr + d.length) = false) :=
  ⟨on, 3, 4, 64, [7, 8], by decide⟩

theorem witness_MemoryLinksRun_8 : ∃ (s : State) (sess : Nat), (s.gate sess K.uncorrectableLogClear = none) :=
  ⟨on, 0, by decide⟩

theorem witness_KnotsCountAndRelease_1 : ∃ (s : State) (r : Nat) (c : RingCmd), (r < 16384) ∧
      ((s.ring r).st = .running) ∧
      ((s.ring r).cmds = [c]) ∧
      (c.st = .fetched) ∧
      (c.opcode = 0x50) ∧
      (bitOf (leAt c.body 1 1) 2 = false) ∧
      (s.knotRefusal (leAt c.body 4 2) (leAt c.body 8 4) false (s.ring r).ctx = none) ∧
      (-2147483648 ≤ (s.knot (leAt c.body 4 2)).count + leAt c.body 8 4) ∧
      ((s.knot (leAt c.body 4 2)).count + leAt c.body 8 4 ≤ 2147483647) ∧
      (∀ w ∈ s.knots.waiters, w.knot = leAt c.body 4 2 → (s.knot (leAt c.body 4 2)).count + leAt c.body 8 4 < (w.n : Int)) :=
  ⟨{ on with regs := [(K.knotBase 4, 0), (K.knotCount 4, 100)], engine := { ctxs := [(4, { st := .idle })] }, host := { rings := [(3, { st := .running, ctx := 4, cmds := [{ index := 0, id := 9, notify := false, badReserved := false, body := [80, 0, 0, 0, 7, 0, 0, 0, 5, 0, 0, 0] }] })] }, knots := { words := [(7, { count := 3 })], waiters := [{ knot := 7, issuer := .ring 5 0, ctx := 4, n := 1000, subtract := true, since := 0, timeout := 0 }] } }, 3, { index := 0, id := 9, notify := false, badReserved := false, body := [80, 0, 0, 0, 7, 0, 0, 0, 5, 0, 0, 0] }, by decide⟩

theorem witness_KnotsCountAndRelease_2 : ∃ (s : State) (r : Nat) (c : RingCmd), (r < 16384) ∧
      ((s.ring r).st = .running) ∧
      ((s.ring r).cmds = [c]) ∧
      (c.st = .fetched) ∧
      (c.opcode = 0x51) ∧
      (bitOf (leAt c.body 1 1) 2 = false) ∧
      (s.knotRefusal (leAt c.body 4 2) (leAt c.body 8 4) false (s.ring r).ctx = none) ∧
      (-2147483648 ≤ (s.knot (leAt c.body 4 2)).count - leAt c.body 8 4) ∧
      ((s.knot (leAt c.body 4 2)).count - leAt c.body 8 4 ≤ 2147483647) ∧
      (∀ w ∈ s.knots.waiters, w.knot = leAt c.body 4 2 → (s.knot (leAt c.body 4 2)).count - leAt c.body 8 4 < (w.n : Int)) :=
  ⟨{ on with regs := [(K.knotBase 4, 0), (K.knotCount 4, 100)], engine := { ctxs := [(4, { st := .idle })] }, host := { rings := [(3, { st := .running, ctx := 4, cmds := [{ index := 0, id := 9, notify := false, badReserved := false, body := [81, 0, 0, 0, 7, 0, 0, 0, 5, 0, 0, 0] }] })] }, knots := { words := [(7, { count := 3 })], waiters := [{ knot := 7, issuer := .ring 5 0, ctx := 4, n := 1000, subtract := true, since := 0, timeout := 0 }] } }, 3, { index := 0, id := 9, notify := false, badReserved := false, body := [81, 0, 0, 0, 7, 0, 0, 0, 5, 0, 0, 0] }, by decide⟩

theorem witness_KnotsCountAndRelease_3 : ∃ (s : State) (r : Nat) (c : RingCmd), (r < 16384) ∧
      ((s.ring r).st = .running) ∧
      ((s.ring r).cmds = [c]) ∧
      (c.st = .fetched) ∧
      (c.opcode = 0x50) ∧
      (bitOf (leAt c.body 1 1) 2 = false) ∧
      (s.knotRefusal (leAt c.body 4 2) (leAt c.body 8 4) false (s.ring r).ctx = none) ∧
      (2147483647 < (s.knot (leAt c.body 4 2)).count + leAt c.body 8 4) ∧
      (∀ w ∈ s.knots.waiters, w.knot = leAt c.body 4 2 → 2147483647 < (w.n : Int)) :=
  ⟨{ on with regs := [(K.knotBase 4, 0), (K.knotCount 4, 100)], engine := { ctxs := [(4, { st := .idle })] }, host := { rings := [(3, { st := .running, ctx := 4, cmds := [{ index := 0, id := 9, notify := false, badReserved := false, body := [80, 0, 0, 0, 7, 0, 0, 0, 5, 0, 0, 0] }] })] }, knots := { words := [(7, { count := 2147483647 })] } }, 3, { index := 0, id := 9, notify := false, badReserved := false, body := [80, 0, 0, 0, 7, 0, 0, 0, 5, 0, 0, 0] }, by decide⟩

theorem witness_KnotsCountAndRelease_4 : ∃ (s : State) (r : Nat) (c : RingCmd), (r < 16384) ∧
      ((s.ring r).st = .running) ∧
      ((s.ring r).cmds = [c]) ∧
      (c.st = .fetched) ∧
      (c.opcode = 0x51) ∧
      (bitOf (leAt c.body 1 1) 2 = false) ∧
      (s.knotRefusal (leAt c.body 4 2) (leAt c.body 8 4) false (s.ring r).ctx = none) ∧
      (-2147483648 > (s.knot (leAt c.body 4 2)).count - leAt c.body 8 4) ∧
      (∀ w ∈ s.knots.waiters, w.knot = leAt c.body 4 2 → -2147483648 < (w.n : Int)) :=
  ⟨{ on with regs := [(K.knotBase 4, 0), (K.knotCount 4, 100)], engine := { ctxs := [(4, { st := .idle })] }, host := { rings := [(3, { st := .running, ctx := 4, cmds := [{ index := 0, id := 9, notify := false, badReserved := false, body := [81, 0, 0, 0, 7, 0, 0, 0, 5, 0, 0, 0] }] })] }, knots := { words := [(7, { count := -2147483647 })] } }, 3, { index := 0, id := 9, notify := false, badReserved := false, body := [81, 0, 0, 0, 7, 0, 0, 0, 5, 0, 0, 0] }, by decide⟩

theorem witness_KnotsCountAndRelease_5 : ∃ (s : State) (r q : Nat) (c d : RingCmd) (w : Waiter), (r < 16384) ∧
      ((s.ring r).st = .running) ∧
      ((s.ring r).cmds = [c]) ∧
      (c.st = .fetched) ∧
      (c.opcode = 0x50) ∧
      (bitOf (leAt c.body 1 1) 2 = false) ∧
      (s.knotRefusal (leAt c.body 4 2) (leAt c.body 8 4) false (s.ring r).ctx = none) ∧
      ((s.knot (leAt c.body 4 2)).count + leAt c.body 8 4 ≤ 2147483647) ∧
      (s.knots.waiters = [w]) ∧
      (w.knot = leAt c.body 4 2) ∧
      (w.issuer = .ring q d.index) ∧
      (q ≠ r) ∧
      ((s.ring q).st = .running) ∧
      ((s.ring q).cmds = [d]) ∧
      ((w.n : Int) ≤ (s.knot (leAt c.body 4 2)).count + leAt c.body 8 4) :=
  ⟨{ on with regs := [(K.knotBase 4, 0), (K.knotCount 4, 100)], engine := { ctxs := [(4, { st := .idle })] }, host := { rings := [(3, { st := .running, ctx := 4, cmds := [{ index := 0, id := 9, notify := false, badReserved := false, body := [80, 0, 0, 0, 7, 0, 0, 0, 5, 0, 0, 0] }] }), (5, { st := .running, ctx := 4, cmds := [{ index := 0, id := 9, notify := false, badReserved := false, body := [82, 0, 0, 0, 7, 0, 0, 0, 5, 0, 0, 0], st := .started }] })] }, knots := { words := [(7, { count := 996 })], waiters := [{ knot := 7, issuer := .ring 5 0, ctx := 4, n := 1000, subtract := true, since := 0, timeout := 0 }] } }, 3, 5, { index := 0, id := 9, notify := false, badReserved := false, body := [80, 0, 0, 0, 7, 0, 0, 0, 5, 0, 0, 0] }, { index := 0, id := 9, notify := false, badReserved := false, body := [82, 0, 0, 0, 7, 0, 0, 0, 5, 0, 0, 0], st := .started }, { knot := 7, issuer := .ring 5 0, ctx := 4, n := 1000, subtract := true, since := 0, timeout := 0 }, by decide⟩

theorem witness_KnotsCountAndRelease_6 : ∃ (s : State) (r : Nat) (c : RingCmd), (r < 16384) ∧
      ((s.ring r).st = .running) ∧
      ((s.ring r).cmds = [c]) ∧
      (c.st = .fetched) ∧
      (c.opcode = 0x52) ∧
      (bitOf (leAt c.body 1 1) 2 = false) ∧
      (s.knotRefusal (leAt c.body 4 2) (leAt c.body 8 4) false (s.ring r).ctx = none) ∧
      ((leAt c.body 8 4 : Int) ≤ (s.knot (leAt c.body 4 2)).count) ∧
      (∀ w ∈ s.knots.waiters, w.knot = leAt c.body 4 2 → w.subtract = false) :=
  ⟨{ on with regs := [(K.knotBase 4, 0), (K.knotCount 4, 100)], engine := { ctxs := [(4, { st := .idle })] }, host := { rings := [(3, { st := .running, ctx := 4, cmds := [{ index := 0, id := 9, notify := false, badReserved := false, body := [82, 0, 0, 0, 7, 0, 0, 0, 5, 0, 0, 0] }] })] }, knots := { words := [(7, { count := 9 })] } }, 3, { index := 0, id := 9, notify := false, badReserved := false, body := [82, 0, 0, 0, 7, 0, 0, 0, 5, 0, 0, 0] }, by decide⟩

theorem witness_KnotsCountAndRelease_7 : ∃ (s : State) (r : Nat) (c : RingCmd), (r < 16384) ∧
      ((s.ring r).st = .running) ∧
      ((s.ring r).cmds = [c]) ∧
      (c.st = .fetched) ∧
      (c.opcode = 0x52) ∧
      (bitOf (leAt c.body 1 1) 2 = false) ∧
      (s.knotRefusal (leAt c.body 4 2) (leAt c.body 8 4) false (s.ring r).ctx = none) ∧
      ((s.knot (leAt c.body 4 2)).count < leAt c.body 8 4) ∧
      (s.knots.waiters.length < s.reg K.waiterCapacity) :=
  ⟨{ on with regs := [(K.knotBase 4, 0), (K.knotCount 4, 100)], engine := { ctxs := [(4, { st := .idle })] }, host := { rings := [(3, { st := .running, ctx := 4, cmds := [{ index := 0, id := 9, notify := false, badReserved := false, body := [82, 0, 0, 0, 7, 0, 0, 0, 5, 0, 0, 0] }] })] }, knots := { words := [(7, { count := 2 })] } }, 3, { index := 0, id := 9, notify := false, badReserved := false, body := [82, 0, 0, 0, 7, 0, 0, 0, 5, 0, 0, 0] }, by decide⟩

theorem witness_KnotsCountAndRelease_8 : ∃ (s : State) (r : Nat) (c : RingCmd), (r < 16384) ∧
      ((s.ring r).st = .running) ∧
      ((s.ring r).cmds = [c]) ∧
      (c.st = .fetched) ∧
      (c.opcode = 0x53) ∧
      (bitOf (leAt c.body 1 1) 2 = false) :=
  ⟨{ on with regs := [(K.knotBase 4, 0), (K.knotCount 4, 100)], engine := { ctxs := [(4, { st := .idle })] }, host := { rings := [(3, { st := .running, ctx := 4, cmds := [{ index := 0, id := 9, notify := false, badReserved := false, body := [83, 0, 0, 0, 7, 0, 0, 0, 5, 0, 0, 0] }] })] }, knots := { words := [(7, { count := 2 })] } }, 3, { index := 0, id := 9, notify := false, badReserved := false, body := [83, 0, 0, 0, 7, 0, 0, 0, 5, 0, 0, 0] }, by decide⟩

theorem witness_KnotsCountAndRelease_9 : ∃ (s : State) (r : Nat) (c : RingCmd), (r < 16384) ∧
      ((s.ring r).st = .running) ∧
      ((s.ring r).cmds = [c]) ∧
      (c.st = .fetched) ∧
      (c.opcode = 0x54) ∧
      (bitOf (leAt c.body 1 1) 2 = false) ∧
      (s.knotOwner (leAt c.body 4 2) = some (s.ring r).ctx) ∧
      (∀ w ∈ s.knots.waiters, w.knot = leAt c.body 4 2 → signed 32 (leAt c.body 8 4) < (w.n : Int)) :=
  ⟨{ on with regs := [(K.knotBase 4, 0), (K.knotCount 4, 100)], engine := { ctxs := [(4, { st := .idle })] }, host := { rings := [(3, { st := .running, ctx := 4, cmds := [{ index := 0, id := 9, notify := false, badReserved := false, body := [84, 0, 0, 0, 7, 0, 0, 0, 5, 0, 0, 0] }] })] }, knots := { words := [(7, { count := 2, frozen := true })] } }, 3, { index := 0, id := 9, notify := false, badReserved := false, body := [84, 0, 0, 0, 7, 0, 0, 0, 5, 0, 0, 0] }, by decide⟩

theorem witness_KnotsCountAndRelease_10 : ∃ (s : State) (r st : Nat) (c : RingCmd), (r < 16384) ∧
      ((s.ring r).st = .running) ∧
      ((s.ring r).cmds = [c]) ∧
      (c.st = .fetched) ∧
      (c.opcode = 0x50) ∧
      (bitOf (leAt c.body 1 1) 2 = false) ∧
      (s.knotRefusal (leAt c.body 4 2) (leAt c.body 8 4) false (s.ring r).ctx = some st) :=
  ⟨{ on with regs := [(K.knotBase 4, 0), (K.knotCount 4, 100)], engine := { ctxs := [(4, { st := .idle })] }, host := { rings := [(3, { st := .running, ctx := 4, cmds := [{ index := 0, id := 9, notify := false, badReserved := false, body := [80, 0, 0, 0, 7, 0, 0, 0, 5, 0, 0, 0] }] })] }, knots := { words := [(7, { count := 3, frozen := true })] } }, 3, Status.knotFrozen, { index := 0, id := 9, notify := false, badReserved := false, body := [80, 0, 0, 0, 7, 0, 0, 0, 5, 0, 0, 0] }, by decide⟩

theorem witness_KnotsCountAndRelease_11 : ∃ (s : State) (r st : Nat) (c : RingCmd), (r < 16384) ∧
      ((s.ring r).st = .running) ∧
      ((s.ring r).cmds = [c]) ∧
      (c.st = .fetched) ∧
      (c.opcode = 0x51) ∧
      (bitOf (leAt c.body 1 1) 2 = false) ∧
      (s.knotRefusal (leAt c.body 4 2) (leAt c.body 8 4) false (s.ring r).ctx = some st) :=
  ⟨{ on with regs := [(K.knotBase 4, 0), (K.knotCount 4, 100)], engine := { ctxs := [(4, { st := .idle })] }, host := { rings := [(3, { st := .running, ctx := 4, cmds := [{ index := 0, id := 9, notify := false, badReserved := false, body := [81, 0, 0, 0, 7, 0, 0, 0, 5, 0, 0, 0] }] })] }, knots := { words := [(7, { count := 3, frozen := true })] } }, 3, Status.knotFrozen, { index := 0, id := 9, notify := false, badReserved := false, body := [81, 0, 0, 0, 7, 0, 0, 0, 5, 0, 0, 0] }, by decide⟩

theorem witness_KnotsCountAndRelease_12 : ∃ (s : State) (r st : Nat) (c : RingCmd), (r < 16384) ∧
      ((s.ring r).st = .running) ∧
      ((s.ring r).cmds = [c]) ∧
      (c.st = .fetched) ∧
      (c.opcode = 0x52) ∧
      (bitOf (leAt c.body 1 1) 2 = false) ∧
      (s.knotRefusal (leAt c.body 4 2) (leAt c.body 8 4) false (s.ring r).ctx = some st) :=
  ⟨{ on with regs := [(K.knotBase 4, 0), (K.knotCount 4, 100)], engine := { ctxs := [(4, { st := .idle })] }, host := { rings := [(3, { st := .running, ctx := 4, cmds := [{ index := 0, id := 9, notify := false, badReserved := false, body := [82, 0, 0, 0, 7, 0, 0, 0, 5, 0, 0, 0] }] })] }, knots := { words := [(7, { count := 3, frozen := true })] } }, 3, Status.knotFrozen, { index := 0, id := 9, notify := false, badReserved := false, body := [82, 0, 0, 0, 7, 0, 0, 0, 5, 0, 0, 0] }, by decide⟩

theorem witness_KnotsCountAndRelease_13 : ∃ (s : State) (r st : Nat) (c : RingCmd), (r < 16384) ∧
      ((s.ring r).st = .running) ∧
      ((s.ring r).cmds = [c]) ∧
      (c.st = .fetched) ∧
      (c.opcode = 0x54) ∧
      (bitOf (leAt c.body 1 1) 2 = false) ∧
      (s.knotRefusal (leAt c.body 4 2) 0 true (s.ring r).ctx = some st) :=
  ⟨{ on with regs := [(K.knotBase 4, 0), (K.knotCount 4, 100)], engine := { ctxs := [(4, { st := .idle })] }, host := { rings := [(3, { st := .running, ctx := 5, cmds := [{ index := 0, id := 9, notify := false, badReserved := false, body := [84, 0, 0, 0, 7, 0, 0, 0, 5, 0, 0, 0] }] })] }, knots := { words := [(7, { count := 3 })] } }, 3, Status.contextState, { index := 0, id := 9, notify := false, badReserved := false, body := [84, 0, 0, 0, 7, 0, 0, 0, 5, 0, 0, 0] }, by decide⟩

theorem witness_PlanKnotActionsAndFences_1 : ∃ (s : State) (n cyc : Nat) (per : Period) (p : Plan) (a : KnotAct), (s.engine.period = some per) ∧
      (s.runPlan 0 = some p) ∧
      ((p.knotActs (s.image p))[n]? = some a) ∧
      (a.kind = 1) ∧
      (a.flags = 0) ∧
      (per.empty = false) ∧
      (per.acted.contains n = false) ∧
      (per.start + a.cycle + per.frozenOn a.die ≤ cyc) ∧
      (s.isFrozen a.die = false) ∧
      ((s.knotOwner a.knot).isSome = true) ∧
      ((s.knot a.knot).frozen = false) ∧
      (1 ≤ a.value) ∧
      (a.value ≤ 2147483647) ∧
      (-2147483648 ≤ (s.knot a.knot).count + a.value) ∧
      ((s.knot a.knot).count + a.value ≤ 2147483647) ∧
      (s.hasWaiter a.knot = false) :=
  ⟨{ on with regs := [(K.knotCount 0, 100)], engine := { slots := [(0, { st := 2, length := 32, data := [0, 0, 0, 0, 1, 0, 0, 0, 0, 0, 0, 0, 0, 0, 0, 0, 5, 0, 0, 0, 0, 0, 1, 0, 7, 0, 0, 0, 3, 0, 0, 0] })], ctxs := [(0, { st := .running, plan := some { stripeLines := 8, sections := [{ typ := 0x0C }] } })], period := some { k := 0, first := 0, start := 0, due := 0 } } }, 0, 6, { k := 0, first := 0, start := 0, due := 0 }, { stripeLines := 8, sections := [{ typ := 0x0C }] }, { cycle := 5, step := 0, kind := 1, flags := 0, knot := 7, member := 0, die := 0, value := 3 }, by decide⟩

theorem witness_PlanKnotActionsAndFences_2 : ∃ (s : State) (w : Waiter) (r : Nat) (c : RingCmd), (s.knots.waiters = [w]) ∧
      (w.issuer = .ring r c.index) ∧
      (w.timeout ≠ 0) ∧
      (w.timeout * 1000 ≤ (s.tick - w.since) * 4) ∧
      ((s.ring r).st = .running) ∧
      ((s.ring r).cmds = [c]) :=
  ⟨{ on with tick := 1000, host := { rings := [(3, { st := .running, cmds := [{ index := 0, id := 9, notify := false, badReserved := false, body := [0x52], st := .started }] })] }, knots := { waiters := [{ knot := 7, issuer := .ring 3 0, ctx := 4, n := 1, subtract := false, since := 0, timeout := 2 }] } }, { knot := 7, issuer := .ring 3 0, ctx := 4, n := 1, subtract := false, since := 0, timeout := 2 }, 3, { index := 0, id := 9, notify := false, badReserved := false, body := [0x52], st := .started }, by decide⟩

theorem witness_PlanKnotActionsAndFences_3 : ∃ (s : State) (r : Nat) (c : RingCmd), (r < 16384) ∧
      ((s.ring r).st = .running) ∧
      ((s.ring r).cmds = [c]) ∧
      (c.st = .fetched) ∧
      (c.opcode = 0x55) :=
  ⟨{ on with host := { rings := [(3, { st := .running, cmds := [{ index := 0, id := 9, notify := false, badReserved := false, body := [0x55] }] })] } }, 3, { index := 0, id := 9, notify := false, badReserved := false, body := [0x55] }, by decide⟩

theorem witness_PlanKnotActionsAndFences_4 : ∃ (s : State) (r : Nat) (c : RingCmd), (r < 16384) ∧
      ((s.ring r).st = .running) ∧
      ((s.ring r).cmds = [c]) ∧
      (c.st = .started) ∧
      (c.opcode = 0x55) ∧
      (c.fencing = false) :=
  ⟨{ on with host := { rings := [(3, { st := .running, cmds := [{ index := 0, id := 9, notify := false, badReserved := false, body := [0x55], st := .started }] })] } }, 3, { index := 0, id := 9, notify := false, badReserved := false, body := [0x55], st := .started }, by decide⟩

theorem witness_TetherPacketsAct_1 : ∃ (s : State) (q : Nat) (p : TPacket), (q < 4) ∧
      ((s.tport q).st = .up) ∧
      (p.crcOk 0x01 = true) ∧
      (p.typeOk = true) ∧
      (p.reservedOk = true) ∧
      (p.seq = (s.tport q).rxSeq) ∧
      (p.dest = s.ownMember) ∧
      (s.engine.period = none) :=
  ⟨{ on with knots := { ports := [(2, { st := .up })] } }, 2, goodT 0x01 { seq := 0, src := 3, dest := 0 }, by decide, by decide, goodT_crcOk _ _, by decide, by decide, by decide, by decide, by decide⟩

theorem witness_TetherPacketsAct_2 : ∃ (s : State) (q : Nat) (p : TPacket) (per : Period), (q < 4) ∧
      ((s.tport q).st = .up) ∧
      (p.crcOk 0x01 = true) ∧
      (p.typeOk = true) ∧
      (p.reservedOk = true) ∧
      (p.seq = (s.tport q).rxSeq) ∧
      (p.dest = s.ownMember) ∧
      (s.engine.period = some per) ∧
      (s.groupPlan.isSome = true) ∧
      (per.empty = false) ∧
      (p.tag ≠ per.k % 2 ^ 32) :=
  ⟨{ on with knots := { ports := [(2, { st := .up })] }, engine := { ctxs := [(1, { st := .running, plan := some { modules := 2 } })], period := some { k := 4, first := 0, start := 0, due := 0 } } }, 2, goodT 0x01 { seq := 0, src := 3, dest := 0 }, { k := 4, first := 0, start := 0, due := 0 }, by decide, by decide, goodT_crcOk _ _, by decide, by decide, by decide, by decide, by decide, by decide, by decide, by decide⟩

theorem witness_TetherPacketsAct_3 : ∃ (s : State) (q : Nat) (p : TPacket), (q < 4) ∧
      ((s.tport q).st = .up) ∧
      (p.crcOk 0x02 = true) ∧
      (p.typeOk = true) ∧
      (p.reservedOk = true) ∧
      (p.seq = (s.tport q).rxSeq) ∧
      (p.dest = s.ownMember) ∧
      ((s.ctx p.ctx).st ≠ .gloved) :=
  ⟨{ on with knots := { ports := [(2, { st := .up })] } }, 2, goodT 0x02 { seq := 0, src := 3, dest := 0, arg := 64, body := [1, 2] }, by decide, by decide, goodT_crcOk _ _, by decide, by decide, by decide, by decide, by decide⟩

theorem witness_TetherPacketsAct_4 : ∃ (s : State) (q : Nat) (p : TPacket), (q < 4) ∧
      ((s.tport q).st = .up) ∧
      (p.crcOk 0x02 = true) ∧
      (p.typeOk = true) ∧
      (p.reservedOk = true) ∧
      (p.seq = (s.tport q).rxSeq) ∧
      (p.dest = s.ownMember) ∧
      ((s.ctx p.ctx).st = .gloved) :=
  ⟨{ on with knots := { ports := [(2, { st := .up })] }, engine := { ctxs := [(0, { st := .gloved })] } }, 2, goodT 0x02 { seq := 0, src := 3, dest := 0, arg := 64, body := [1, 2] }, by decide, by decide, goodT_crcOk _ _, by decide, by decide, by decide, by decide, by decide⟩

theorem witness_TetherPacketsAct_5 : ∃ (s : State) (q : Nat) (p : TPacket), (q < 4) ∧
      ((s.tport q).st = .up) ∧
      (p.crcOk 0x03 = true) ∧
      (p.typeOk = true) ∧
      (p.reservedOk = true) ∧
      (p.seq = (s.tport q).rxSeq) ∧
      (p.dest = s.ownMember) ∧
      ((s.ctx p.ctx).st ≠ .gloved) ∧
      (s.reg (K.routeTable p.src) = q) :=
  ⟨{ on with regs := [(K.routeTable 3, 2)], knots := { ports := [(2, { st := .up })] } }, 2, goodT 0x03 { seq := 0, src := 3, dest := 0, arg := 64 }, by decide, by decide, goodT_crcOk _ _, by decide, by decide, by decide, by decide, by decide, by decide⟩

theorem witness_TetherPacketsAct_6 : ∃ (s : State) (q r : Nat) (p : TPacket) (x : TReq) (c : RingCmd), (q < 4) ∧
      ((s.tport q).st = .up) ∧
      (p.crcOk 0x04 = true) ∧
      (p.typeOk = true) ∧
      (p.reservedOk = true) ∧
      (p.seq = (s.tport q).rxSeq) ∧
      (p.dest = s.ownMember) ∧
      (s.knots.requests = [x]) ∧
      (x.tag = p.tag) ∧
      (x.member = p.src) ∧
      (x.ctx = p.ctx) ∧
      (x.issuer = .ring r c.index) ∧
      ((s.ring r).st = .running) ∧
      ((s.ring r).cmds = [c]) :=
  ⟨{ on with knots := { ports := [(2, { st := .up })], requests := [{ tag := 7, member := 3, issuer := .ring 5 0, ctx := 0, typ := 5 }] }, host := { rings := [(5, { st := .running, cmds := [{ index := 0, id := 9, notify := false, badReserved := false, body := [80], st := .started }] })] } }, 2, 5, goodT 0x04 { seq := 0, src := 3, dest := 0, tag := 7 }, { tag := 7, member := 3, issuer := .ring 5 0, ctx := 0, typ := 5 }, { index := 0, id := 9, notify := false, badReserved := false, body := [80], st := .started }, by decide, by decide, goodT_crcOk _ _, by decide, by decide, by decide, by decide, by decide, by decide, by decide, by decide, by decide, by decide, by decide⟩

theorem witness_TetherPacketsAct_7 : ∃ (s : State) (q r : Nat) (p : TPacket) (x : TReq) (c : RingCmd), (q < 4) ∧
      ((s.tport q).st = .up) ∧
      (p.crcOk 0x06 = true) ∧
      (p.typeOk = true) ∧
      (p.reservedOk = true) ∧
      (p.seq = (s.tport q).rxSeq) ∧
      (p.dest = s.ownMember) ∧
      (s.knots.requests = [x]) ∧
      (x.tag = p.tag) ∧
      (x.member = p.src) ∧
      (x.ctx = p.ctx) ∧
      (x.issuer = .ring r c.index) ∧
      ((s.ring r).st = .running) ∧
      ((s.ring r).cmds = [c]) :=
  ⟨{ on with knots := { ports := [(2, { st := .up })], requests := [{ tag := 7, member := 3, issuer := .ring 5 0, ctx := 0, typ := 5 }] }, host := { rings := [(5, { st := .running, cmds := [{ index := 0, id := 9, notify := false, badReserved := false, body := [80], st := .started }] })] } }, 2, 5, goodT 0x06 { seq := 0, src := 3, dest := 0, tag := 7 }, { tag := 7, member := 3, issuer := .ring 5 0, ctx := 0, typ := 5 }, { index := 0, id := 9, notify := false, badReserved := false, body := [80], st := .started }, by decide, by decide, goodT_crcOk _ _, by decide, by decide, by decide, by decide, by decide, by decide, by decide, by decide, by decide, by decide, by decide⟩

theorem witness_TetherPacketsAct_8 : ∃ (s : State) (q r : Nat) (p : TPacket) (x : TReq) (c : RingCmd), (q < 4) ∧
      ((s.tport q).st = .up) ∧
      (p.crcOk 0x07 = true) ∧
      (p.typeOk = true) ∧
      (p.reservedOk = true) ∧
      (p.seq = (s.tport q).rxSeq) ∧
      (p.dest = s.ownMember) ∧
      (s.knots.requests = [x]) ∧
      (x.tag = p.tag) ∧
      (x.member = p.src) ∧
      (x.ctx = p.ctx) ∧
      (x.issuer = .ring r c.index) ∧
      ((s.ring r).st = .running) ∧
      ((s.ring r).cmds = [c]) :=
  ⟨{ on with knots := { ports := [(2, { st := .up })], requests := [{ tag := 7, member := 3, issuer := .ring 5 0, ctx := 0, typ := 5 }] }, host := { rings := [(5, { st := .running, cmds := [{ index := 0, id := 9, notify := false, badReserved := false, body := [80], st := .started }] })] } }, 2, 5, goodT 0x07 { seq := 0, src := 3, dest := 0, tag := 7 }, { tag := 7, member := 3, issuer := .ring 5 0, ctx := 0, typ := 5 }, { index := 0, id := 9, notify := false, badReserved := false, body := [80], st := .started }, by decide, by decide, goodT_crcOk _ _, by decide, by decide, by decide, by decide, by decide, by decide, by decide, by decide, by decide, by decide, by decide⟩

theorem witness_TetherPacketsAct_9 : ∃ (s : State) (q : Nat) (p : TPacket), (q < 4) ∧
      ((s.tport q).st = .up) ∧
      (p.crcOk 0x05 = true) ∧
      (p.typeOk = true) ∧
      (p.reservedOk = true) ∧
      (p.seq = (s.tport q).rxSeq) ∧
      (p.dest = s.ownMember) ∧
      ((s.ctx p.ctx).st ≠ .gloved) ∧
      (leAt p.body 0 1 = 0x50) ∧
      (s.reg (K.routeTable p.src) = q) ∧
      ((s.knotOwner (leAt p.body 4 2)).isSome = true) ∧
      ((s.knot (leAt p.body 4 2)).frozen = false) ∧
      (1 ≤ leAt p.body 8 4) ∧
      (leAt p.body 8 4 ≤ 2147483647) ∧
      (-2147483648 ≤ (s.knot (leAt p.body 4 2)).count + leAt p.body 8 4) ∧
      ((s.knot (leAt p.body 4 2)).count + leAt p.body 8 4 ≤ 2147483647) ∧
      (s.hasWaiter (leAt p.body 4 2) = false) :=
  ⟨{ on with regs := [(K.knotCount 0, 100), (K.routeTable 3, 2)], engine := { ctxs := [(0, { st := .idle })] }, knots := { ports := [(2, { st := .up })] } }, 2, goodT 0x05 { seq := 0, src := 3, dest := 0, body := [80, 0, 0, 0, 7, 0, 0, 0, 5, 0, 0, 0] }, by decide, by decide, goodT_crcOk _ _, by decide, by decide, by decide, by decide, by decide, by decide, by decide, by decide, by decide, by decide, by decide, by decide, by decide, by decide⟩

theorem witness_TetherPacketsAct_10 : ∃ (s : State) (q : Nat) (p : TPacket), (q < 4) ∧
      ((s.tport q).st = .up) ∧
      (p.crcOk 0x08 = true) ∧
      (p.typeOk = true) ∧
      (p.reservedOk = true) ∧
      (p.seq = (s.tport q).rxSeq) ∧
      (p.dest = s.ownMember) :=
  ⟨{ on with knots := { ports := [(2, { st := .up })] } }, 2, goodT 0x08 { seq := 0, src := 3, dest := 0 }, by decide, by decide, goodT_crcOk _ _, by decide, by decide, by decide, by decide⟩

theorem witness_TetherPacketsAct_11 : ∃ (s : State) (q : Nat) (p : TPacket) (n : Nat), (q < 4) ∧
      ((s.tport q).st = .up) ∧
      (p.crcOk 0x08 = true) ∧
      (p.typeOk = true) ∧
      (p.reservedOk = true) ∧
      (p.seq = (s.tport q).rxSeq) ∧
      (p.dest ≠ s.ownMember) ∧
      (s.reg (K.routeTable p.dest) = n) ∧
      (n < 4) ∧
      (n ≠ q) ∧
      ((s.tport n).st = .up) :=
  ⟨{ on with regs := [(K.routeTable 5, 1)], knots := { ports := [(1, { st := .up }), (2, { st := .up })] } }, 2, goodT 0x08 { seq := 0, src := 3, dest := 5 }, 1, by decide, by decide, goodT_crcOk _ _, by decide, by decide, by decide, by decide, by decide, by decide, by decide, by decide⟩

theorem witness_TetherPacketsAct_12 : ∃ (s : State) (q : Nat) (p : TPacket), (q < 4) ∧
      ((s.tport q).st = .up) ∧
      (p.crcOk 0x0A = true) ∧
      (p.typeOk = true) ∧
      (p.reservedOk = true) :=
  ⟨{ on with knots := { ports := [(2, { st := .up, window := [{ seq := 0, typ := 2, dest := 3, body := [], sent := 0 }] })] } }, 2, goodT 0x0A { seq := 0, src := 3, dest := 0 }, by decide, by decide, goodT_crcOk _ _, by decide, by decide⟩

theorem witness_TetherPacketsAct_13 : ∃ (s : State) (q : Nat) (p : TPacket), (q < 4) ∧
      ((s.tport q).st = .up) :=
  ⟨{ on with knots := { ports := [(2, { st := .up })] } }, 2, { seq := 0, src := 3, dest := 0 }, by decide⟩

theorem witness_TetherGroupsAndPortsRun_1 : ∃ (s : State) (q : Nat), (q < 4) ∧
      ((s.tport q).st = .training) ∧
      (s.reg (K.tetherTest q) = 0) ∧
      (s.flag (K.tetherPortEnable q) = true) ∧
      (s.knots.group.st = .none) :=
  ⟨{ on with regs := [(K.tetherPortEnable 2, 1)], knots := { ports := [(2, { st := .training })] } }, 2, by decide⟩

theorem witness_TetherGroupsAndPortsRun_2 : ∃ (s : State) (q : Nat), (q < 4) ∧
      ((s.tport q).st = .training) ∧
      (s.reg (K.tetherTest q) ≠ 0) ∧
      (s.knots.group.st = .none) :=
  ⟨{ on with regs := [(K.tetherTest 2, 1)], knots := { ports := [(2, { st := .training })] } }, 2, by decide⟩

theorem witness_TetherGroupsAndPortsRun_3 : ∃ (s : State) (q : Nat) (x : TSent), (q < 4) ∧
      ((s.tport q).st = .up) ∧
      ((s.tport q).window = [x]) ∧
      (x.sent + 500 ≤ s.tick) ∧
      (x.sends < 3) :=
  ⟨{ on with tick := 500, knots := { ports := [(2, { st := .up, window := [{ seq := 0, typ := 2, dest := 3, body := [], sent := 0 }] })] } }, 2, { seq := 0, typ := 2, dest := 3, body := [], sent := 0 }, by decide⟩

theorem witness_TetherGroupsAndPortsRun_4 : ∃ (s : State) (q : Nat) (x : TSent), (q < 4) ∧
      ((s.tport q).st = .up) ∧
      ((s.tport q).window = [x]) ∧
      (x.sent + 500 ≤ s.tick) ∧
      (3 ≤ x.sends) :=
  ⟨{ on with tick := 500, knots := { ports := [(2, { st := .up, window := [{ seq := 0, typ := 2, dest := 3, body := [], sent := 0, sends := 3 }] })] } }, 2, { seq := 0, typ := 2, dest := 3, body := [], sent := 0, sends := 3 }, by decide⟩

theorem witness_TetherGroupsAndPortsRun_5 : ∃ (s : State) (q : Nat), (q < 4) ∧
      ((s.tport q).st = .up) ∧
      ((s.tport q).lastTx + 2500 ≤ s.tick) :=
  ⟨{ on with tick := 2500, knots := { ports := [(2, { st := .up })] } }, 2, by decide⟩

theorem witness_TetherGroupsAndPortsRun_6 : ∃ (s : State) (q n : Nat), (q < 4) ∧
      ((s.tport q).st = .test) :=
  ⟨{ on with knots := { ports := [(2, { st := .test })] } }, 2, 5, by decide⟩

theorem witness_TetherGroupsAndPortsRun_7 : ∃ (s : State) (q c sent : Nat) (p : TPacket) (h : HelloPath) (pl : Plan), (q < 4) ∧
      ((s.tport q).st = .up) ∧
      (p.crcOk 0x09 = true) ∧
      (p.typeOk = true) ∧
      (p.reservedOk = true) ∧
      (p.seq = (s.tport q).rxSeq) ∧
      (p.dest = s.ownMember) ∧
      (s.groupPlan = some (c, pl)) ∧
      (s.others = [p.src]) ∧
      (s.knots.group.st = .forming) ∧
      (s.knots.group.bcSent = true) ∧
      (SMap.find? s.knots.group.helloSent p.src = some (sent + 1)) ∧
      (s.helloCheck pl p.src (((s.tick - sent) * 4 - h.turnaround) / 2) h.hops (parseHello p.body) = none) :=
  ⟨{ on with engine := { ctxs := [(1, { st := .running, plan := some { modules := 2, member := 1, sections := [{ typ := 13, count := 0, off := 0 }] } })] }, knots := { ports := [(2, { st := .up })], group := { ctx := 1, st := .forming, bcSent := true, helloSent := [(0, 1)] } }, tick := 25 }, 2, 1, 0, goodT 0x09 { seq := 0, src := 0, dest := 1, body := helloOf0 (on.reg K.detKey) }, { turnaround := 100, hops := 0 }, { modules := 2, member := 1, sections := [{ typ := 13, count := 0, off := 0 }] }, by decide, by decide, goodT_crcOk _ _, by decide, by decide, by decide, by decide, by decide, by decide, by decide,
    by decide, by decide, by decide +kernel⟩

theorem witness_TetherGroupsAndPortsRun_8 : ∃ (s : State) (q c sent : Nat) (p : TPacket) (h : HelloPath) (pl : Plan), (q < 4) ∧
      ((s.tport q).st = .up) ∧
      (p.crcOk 0x09 = true) ∧
      (p.typeOk = true) ∧
      (p.reservedOk = true) ∧
      (p.seq = (s.tport q).rxSeq) ∧
      (p.dest = s.ownMember) ∧
      (s.groupPlan = some (c, pl)) ∧
      (s.knots.group.st = .forming) ∧
      (SMap.find? s.knots.group.helloSent p.src = some (sent + 1)) ∧
      ((parseHello p.body).modules ≠ pl.modules) :=
  ⟨{ on with engine := { ctxs := [(1, { st := .running, plan := some { modules := 2, member := 1 } })] }, knots := { ports := [(2, { st := .up })], group := { ctx := 1, st := .forming, helloSent := [(0, 1)] } }, tick := 25 }, 2, 1, 0, goodT 0x09 { seq := 0, src := 0, dest := 1, body := leBytes 8 0 ++ [3] }, { hops := 0 }, { modules := 2, member := 1 }, by decide, by decide, goodT_crcOk _ _, by decide, by decide, by decide, by decide, by decide, by decide, by decide, by decide⟩

theorem witness_TetherGroupsAndPortsRun_9 : ∃ (s : State) (m sent : Nat), (m < 8) ∧
      (s.knots.group.st = .forming) ∧
      (SMap.find? s.knots.group.helloSent m = some (sent + 1)) ∧
      (sent + 25000000 ≤ s.tick) ∧
      (s.knots.group.agreed.contains m = false) :=
  ⟨{ on with engine := { ctxs := [(1, { st := .running, plan := some { modules := 2, member := 1 } })] }, knots := { ports := [(2, { st := .up })], group := { ctx := 1, st := .forming, helloSent := [(0, 1)] } }, tick := 25000000 }, 0, 0, by decide⟩

theorem witness_TetherGroupsAndPortsRun_10 : ∃ (s : State) (c : Nat) (pl : Plan), (s.groupPlan = some (c, pl)) ∧
      (s.knots.group.st = .failed) ∧
      (s.knots.group.since + 250000000 ≤ s.tick) :=
  ⟨{ on with engine := { ctxs := [(1, { st := .running, plan := some { modules := 2, member := 1 } })] }, knots := { ports := [(2, { st := .up })], group := { ctx := 1, st := .failed } }, tick := 250000000 }, 1, { modules := 2, member := 1 }, by decide⟩

theorem witness_TetherGroupsAndPortsRun_11 : ∃ (s : State), (s.knots.group.st = .formed) ∧
      (s.knots.group.lastMeasure + 25000000 ≤ s.tick) :=
  ⟨{ on with engine := { ctxs := [(1, { st := .running, plan := some { modules := 2, member := 1 } })] }, knots := { ports := [(2, { st := .up })], group := { ctx := 1, st := .formed } }, tick := 25000000 }, by decide⟩

theorem witness_TetherGroupsAndPortsRun_12 : ∃ (s : State) (bc : Nat), (s.knots.group.st = .forming) ∧
      (s.ownMember ≠ 0) ∧
      (s.belt.st = .stopped) ∧
      (s.others.all (fun d => s.knots.group.agreed.contains d) = true) :=
  ⟨{ on with engine := { ctxs := [(1, { st := .running, plan := some { modules := 2, member := 1 } })] }, knots := { ports := [(2, { st := .up })], group := { ctx := 1, st := .forming, agreed := [0] } }, belt := { st := .stopped } }, 99, by decide⟩

theorem witness_TetherGroupsAndPortsRun_13 : ∃ (s : State) (m c last : Nat) (pl : Plan), (m < 8) ∧
      (s.groupPlan = some (c, pl)) ∧
      (s.knots.group.st = .formed) ∧
      (s.others.contains m = true) ∧
      (s.knots.group.lost = []) ∧
      (SMap.find? s.knots.group.lastHeard m = some last) ∧
      (last + 25000 ≤ s.tick) ∧
      ((s.ctx c).st = .running) ∧
      (s.faults.torn = []) ∧
      (s.faults.recovery = none) :=
  ⟨{ on with engine := { ctxs := [(1, { st := .running, plan := some { modules := 2, member := 1 } })] }, knots := { ports := [(2, { st := .up })], group := { ctx := 1, st := .formed, lastHeard := [(0, 0)] } }, tick := 25000 }, 0, 1, 0, { modules := 2, member := 1 }, by decide⟩

theorem witness_TetherGroupsAndPortsRun_14 : ∃ (s : State) (q c : Nat) (p : TPacket) (pl : Plan), (q < 4) ∧
      (s.groupPlan = some (c, pl)) ∧
      ((s.ctx c).st = .running) ∧
      (s.faults.torn = []) ∧
      (s.faults.recovery = none) :=
  ⟨{ on with engine := { ctxs := [(1, { st := .running, plan := some { modules := 2, member := 1 } })] }, knots := { ports := [(2, { st := .up })], group := { ctx := 1, st := .formed } } }, 2, 1, { seq := 0, src := 0, dest := 1 }, { modules := 2, member := 1 }, by decide⟩

theorem witness_HostPortsFollowTheirTunnel_1 : ∃ (s : State) (w r : Nat), (w < 2) ∧
      (s.usbOn = true) ∧
      ((s.port w).st = .noLink) :=
  ⟨on, 1, 2, by decide⟩

theorem witness_HostPortsFollowTheirTunnel_2 : ∃ (s : State) (w r : Nat), (w < 2) ∧
      (s.usbOn = true) ∧
      ((s.port w).st = .noTunnel) :=
  ⟨{ on with host := { ports := [(1, { st := .noTunnel })] } }, 1, 0, by decide⟩

theorem witness_HostPortsFollowTheirTunnel_3 : ∃ (s : State) (w : Nat), (w < 2) ∧
      (s.usbOn = true) ∧
      ((s.port w).st = .noTunnel) ∧
      (s.reg (K.hostLinkRate w) ≠ 0) ∧
      (s.host.rings = []) ∧
      (s.host.queues = []) :=
  ⟨{ on with regs := [(K.hostLinkRate 1, 2)], host := { ports := [(1, { st := .noTunnel })] } }, 1, by decide⟩

theorem witness_HostPortsFollowTheirTunnel_4 : ∃ (s : State) (w r : Nat) (x : Ring), (w < 2) ∧
      (s.usbOn = true) ∧
      ((s.port w).st = .lost) ∧
      (s.reg (K.hostLinkRate w) ≠ 0) ∧
      (s.tick - (s.port w).lostAt < s.reg K.tunnelHoldTime * 250000) ∧
      (s.host.rings = [(r, x)]) ∧
      (x.port = some w) ∧
      (x.st = .held) ∧
      (x.cmds = []) ∧
      (x.disabling = false) ∧
      (s.host.queues = []) :=
  ⟨{ on with regs := [(K.hostLinkRate 1, 2)], host := { ports := [(1, { st := .lost })], rings := [(5, { st := .held, port := some 1, tail := 3 })] } }, 1, 5, { st := .held, port := some 1, tail := 3 }, by decide⟩

theorem witness_HostPortsFollowTheirTunnel_5 : ∃ (s : State) (w r q : Nat) (x : Ring) (e : EvQueue), (w < 2) ∧
      ((s.port w).st = .up) ∧
      (s.host.rings = [(r, x)]) ∧
      (x.port = some w) ∧
      (x.st = .running) ∧
      (s.host.queues = [(q, e)]) ∧
      (e.port = some w) ∧
      (e.st = .enabled) :=
  ⟨{ on with host := { ports := [(1, { st := .up, mbxReady := true })], rings := [(5, { st := .running, port := some 1 })], queues := [(6, { st := .enabled, port := some 1 })] } }, 1, 5, 6, { st := .running, port := some 1 }, { st := .enabled, port := some 1 }, by decide⟩

theorem witness_HostPortsFollowTheirTunnel_6 : ∃ (s : State) (w r q : Nat) (x : Ring) (e : EvQueue), (w < 2) ∧
      ((s.port w).st = .lost) ∧
      (s.reg K.tunnelHoldTime * 250000 ≤ s.tick - (s.port w).lostAt) ∧
      (s.host.rings = [(r, x)]) ∧
      (x.port = some w) ∧
      (x.st = .held) ∧
      (x.disabling = false) ∧
      (s.host.queues = [(q, e)]) ∧
      (e.port = some w) ∧
      (e.st = .held) :=
  ⟨{ on with host := { ports := [(1, { st := .lost })], rings := [(5, { st := .held, port := some 1, cmds := [{ index := 0, id := 9, notify := false, badReserved := false, body := [0] }] })], queues := [(6, { st := .held, port := some 1, held := [{ typ := 1, src := 7, pos := 0, time := 0, payload := 0 }] })] }, tick := 25000000 }, 1, 5, 6, { st := .held, port := some 1, cmds := [{ index := 0, id := 9, notify := false, badReserved := false, body := [0] }] }, { st := .held, port := some 1, held := [{ typ := 1, src := 7, pos := 0, time := 0, payload := 0 }] }, by decide⟩

theorem witness_HostPortsFollowTheirTunnel_7 : ∃ (s : State) (w r : Nat) (x : Ring), (w < 2) ∧
      (s.usbOn = true) ∧
      ((s.port w).st = .up) ∧
      (s.host.rings = [(r, x)]) ∧
      (x.port = some w) ∧
      (x.st = .running) ∧
      (x.disabling = false) ∧
      (s.host.queues = []) :=
  ⟨{ on with host := { ports := [(1, { st := .up, mbxReady := true })], rings := [(5, { st := .running, port := some 1 })] } }, 1, 5, { st := .running, port := some 1 }, by decide⟩

theorem witness_HostPortsFollowTheirTunnel_8 : ∃ (s : State) (w v r : Nat) (x : Ring), (w < 2) ∧
      ((s.port w).st = .up) ∧
      (s.usbOn = true) ∧
      (v % 2 ≠ w) ∧
      ((s.port (v % 2)).st = .detached) ∧
      (s.host.rings = [(r, x)]) ∧
      (x.port = some (v % 2)) :=
  ⟨{ on with host := { ports := [(0, { st := .detached }), (1, { st := .up })], rings := [(5, { st := .stopped, port := some 0 })] } }, 1, 0, 5, { st := .stopped, port := some 0 }, by decide⟩

theorem witness_HostPortsFollowTheirTunnel_9 : ∃ (s : State) (w v : Nat), (w < 2) ∧
      ((s.port w).st = .up) ∧
      (s.usbOn = true) ∧
      (v % 2 = w ∨ (s.port (v % 2)).st ≠ .detached) :=
  ⟨{ on with host := { ports := [(1, { st := .up })] } }, 1, 1, by decide⟩

theorem witness_HostPortsFollowTheirTunnel_10 : ∃ (s : State) (w v : Nat), (w < 2) ∧
      ((s.port w).st ≠ .up) :=
  ⟨on, 1, 3, by decide⟩

theorem witness_RingsAndQueuesAreServed_1 : ∃ (s : State) (w v : Nat), (w < 2) ∧
      ((s.port w).st = .up) ∧
      (s.usbOn = true) ∧
      ((s.ring (s.port w).ringSel).st = .disabled) ∧
      ((s.ring (s.port w).ringSel).port = none) ∧
      (bits v 5 0 = 0) :=
  ⟨{ on with host := { ports := [(1, { st := .up })] } }, 1, 640, by decide⟩

theorem witness_RingsAndQueuesAreServed_2 : ∃ (s : State) (w v : Nat), (w < 2) ∧
      ((s.port w).st = .up) ∧
      (s.usbOn = true) ∧
      ((s.ring (s.port w).ringSel).st = .running) :=
  ⟨{ on with host := { ports := [(1, { st := .up })], rings := [(0, { st := .running, port := some 1 })] } }, 1, 640, by decide⟩

theorem witness_RingsAndQueuesAreServed_3 : ∃ (s : State) (w v : Nat), (w < 2) ∧
      ((s.port w).st = .up) ∧
      (s.usbOn = true) :=
  ⟨{ on with host := { ports := [(1, { st := .up, errStatus := 5, errCount := 2 })] } }, 1, 0, by decide⟩

theorem witness_RingsAndQueuesAreServed_4 : ∃ (s : State) (w n : Nat), (w < 2) ∧
      ((s.port w).st = .up) ∧
      (s.usbOn = true) ∧
      ((s.port w).ringSel = n) ∧
      ((s.ring n).st = .stopped) ∧
      ((s.ring n).port = some w) ∧
      ((s.ring n).base ≠ 0) :=
  ⟨{ on with host := { ports := [(1, { st := .up, ringSel := 4 })], rings := [(4, { st := .stopped, port := some 1, base := 64, tail := 7 })] } }, 1, 4, by decide⟩

theorem witness_RingsAndQueuesAreServed_5 : ∃ (s : State) (w n : Nat), (w < 2) ∧
      ((s.port w).st = .up) ∧
      (s.usbOn = true) ∧
      ((s.port w).ringSel = n) ∧
      ((s.ring n).st = .disabled) ∧
      ((s.ring n).port = none) ∧
      ((s.ring n).base = 0) :=
  ⟨{ on with host := { ports := [(1, { st := .up, ringSel := 4 })] } }, 1, 4, by decide⟩

theorem witness_RingsAndQueuesAreServed_6 : ∃ (s : State) (w n : Nat), (w < 2) ∧
      ((s.port w).st = .up) ∧
      (s.usbOn = true) ∧
      ((s.port w).ringSel = n) ∧
      ((s.ring n).port = some w) ∧
      ((s.ring n).cmds = []) :=
  ⟨{ on with host := { ports := [(1, { st := .up, ringSel := 4 })], rings := [(4, { st := .running, port := some 1, base := 64 })] } }, 1, 4, by decide⟩

theorem witness_RingsAndQueuesAreServed_7 : ∃ (s : State) (w v n tail : Nat), (w < 2) ∧
      ((s.port w).st = .up) ∧
      (s.usbOn = true) ∧
      (s.power.st = .run) ∧
      (s.power.trans = none) ∧
      (n = bits v 13 0) ∧
      (tail = bits v 63 32) ∧
      ((s.ring n).st = .running) ∧
      ((s.ring n).port = some w) ∧
      ((tail + 2 ^ 32 - (s.ring n).tail) % 2 ^ 32 ≠ 0) ∧
      ((tail + 2 ^ 32 - (s.ring n).tail) % 2 ^ 32 ≤ 2 ^ (s.ring n).log2) ∧
      ((tail + 2 ^ 32 - (s.ring n).completed) % 2 ^ 32 ≤ 2 ^ (s.ring n).log2) :=
  ⟨{ on with host := { ports := [(1, { st := .up })], rings := [(4, { st := .running, port := some 1, base := 64, log2 := 4 })] } }, 1, 3 * 2 ^ 32 + 4, 4, 3, by decide⟩

theorem witness_RingsAndQueuesAreServed_8 : ∃ (s : State) (w v n tail : Nat), (w < 2) ∧
      ((s.port w).st = .up) ∧
      (s.usbOn = true) ∧
      (s.power.st = .run) ∧
      (s.power.trans = none) ∧
      (n = bits v 13 0) ∧
      (tail = bits v 63 32) ∧
      ((s.ring n).st = .running) ∧
      ((s.ring n).port = some w) ∧
      (tail = (s.ring n).tail) ∧
      ((s.ring n).tail < 2 ^ 32) :=
  ⟨{ on with host := { ports := [(1, { st := .up })], rings := [(4, { st := .running, port := some 1, base := 64, log2 := 4 })] } }, 1, 4, 4, 0, by decide⟩

theorem witness_RingsAndQueuesAreServed_9 : ∃ (s : State) (w n : Nat), (w < 2) ∧
      ((s.port w).st = .up) ∧
      (s.usbOn = true) ∧
      ((s.port w).evqSel = n) ∧
      ((s.queue n).st = .disabled) ∧
      ((s.queue n).port = none) ∧
      (s.host.bootRec = none) :=
  ⟨{ on with host := { ports := [(1, { st := .up, evqSel := 4 })], queues := [(4, { base := 4096, written := 9 })] } }, 1, 4, by decide⟩

theorem witness_RingsAndQueuesAreServed_10 : ∃ (s : State) (w n : Nat), (w < 2) ∧
      ((s.port w).st = .up) ∧
      (s.usbOn = true) ∧
      ((s.port w).evqSel = n) ∧
      ((s.queue n).port = some w) ∧
      (n < 64) :=
  ⟨{ on with host := { ports := [(1, { st := .up, evqSel := 4 })], queues := [(4, { st := .enabled, port := some 1, base := 4096, written := 9 })] } }, 1, 4, by decide⟩

theorem witness_RingsAndQueuesAreServed_11 : ∃ (s : State) (w v n : Nat), (w < 2) ∧
      ((s.port w).st = .up) ∧
      (s.usbOn = true) ∧
      (n = bits v 5 0) ∧
      ((s.queue n).port = some w) ∧
      ((s.queue n).held = []) ∧
      ((s.queue n).dropped = 0) ∧
      ((s.queue n).unsig = 0) ∧
      (((s.queue n).written + 2 ^ 32 - bits v 63 32) % 2 ^ 32 ≤ ((s.queue n).written + 2 ^ 32 - (s.queue n).head) % 2 ^ 32) :=
  ⟨{ on with host := { ports := [(1, { st := .up })], queues := [(4, { st := .enabled, port := some 1, written := 9, armed := false })] } }, 1, 8 * 2 ^ 32 + 4, 4, by decide⟩

theorem witness_RingsAndQueuesAreServed_12 : ∃ (s : State) (w v n : Nat), (w < 2) ∧
      ((s.port w).st = .up) ∧
      (s.usbOn = true) ∧
      (n = bits v 5 0) ∧
      ((s.queue n).port = some w) ∧
      (((s.queue n).written + 2 ^ 32 - (s.queue n).head) % 2 ^ 32 < ((s.queue n).written + 2 ^ 32 - bits v 63 32) % 2 ^ 32) :=
  ⟨{ on with host := { ports := [(1, { st := .up })], queues := [(4, { st := .enabled, port := some 1, written := 9, head := 9 })] } }, 1, 8 * 2 ^ 32 + 4, 4, by decide⟩

theorem witness_RingsAndQueuesAreServed_13 : ∃ (s : State) (n w : Nat), (n < 64) ∧
      ((s.queue n).st = .enabled) ∧
      ((s.queue n).port = some w) ∧
      (bitOf (s.queue n).config 8 = true) ∧
      ((s.queue n).armed = true) ∧
      (0 < (s.queue n).unsig) ∧
      (bits (s.queue n).config 63 32 * 1000 ≤ (s.tick - (s.queue n).oldest) * 4) :=
  ⟨{ on with host := { queues := [(4, { st := .enabled, port := some 1, config := 0x00090108, unsig := 2 })] } }, 4, 1, by decide⟩

theorem witness_RingsAndQueuesAreServed_14 : ∃ (s : State) (w v : Nat), (w < 2) ∧
      ((s.port w).st = .up) ∧
      (s.usbOn = true) :=
  ⟨{ on with host := { ports := [(1, { st := .up, imgUsed := [2, 3] })] } }, 1, 3, by decide⟩

theorem witness_RingsAndQueuesAreServed_15 : ∃ (s : State) (w v : Nat), (w < 2) ∧
      ((s.port w).st = .up) ∧
      (s.usbOn = true) ∧
      (bits v 12 0 < 16) ∧
      ((s.port w).mbxBusy = false) :=
  ⟨{ on with host := { ports := [(1, { st := .up })] } }, 1, 3, by decide⟩

theorem witness_RingsAndQueuesAreServed_16 : ∃ (s : State) (w v : Nat), (w < 2) ∧
      ((s.port w).st = .up) ∧
      (s.usbOn = true) ∧
      (s.power.trans = none) ∧
      (s.power.st ≠ .doze) ∧
      (16 ≤ bits v 12 0) ∧
      (bits v 12 0 ≤ 4096) ∧
      ((s.port w).mbxBusy = false) ∧
      (bitOf v 16 = false) ∧
      (beAt (SMap.getList 0 (s.port w).mbxReq 0 (bits v 12 0)) 0 2 = 0x4244) ∧
      ((bdpItems (SMap.getList 0 (s.port w).mbxReq 0 (bits v 12 0)) 128).isSome = true) ∧
      (bdpOp (SMap.getList 0 (s.port w).mbxReq 0 (bits v 12 0)) = 1) :=
  ⟨{ on with host := { ports := [(1, { st := .up, mbxReq := [(0, 0x42), (1, 0x44), (2, 1), (8, 1)] })] } }, 1, 16, by decide⟩

theorem witness_RingsAndQueuesAreServed_17 : ∃ (s : State) (e : List Byte) (n : Nat) (c : RingCmd), (s.fetchTurn = some n) ∧
      (s.host.fetching = true) ∧
      (s.supplies.inReset = false) ∧
      (c = { index := (s.ring n).fetched, id := leAt e 0 4, notify := bitOf (leAt e 4 1) 0, badReserved := decide (1 < leAt e 4 1) || leAt e 5 3 != 0, body := bytesAt e 8 40 }) ∧
      (s.fetchStatus (s.ring n).ctx c = none) :=
  ⟨{ on with host := { ports := [(1, { st := .up })], rings := [(4, { st := .running, port := some 1, tail := 1 })] } }, List.replicate 48 0, 4, { index := 0, id := 0, notify := false, badReserved := false, body := List.replicate 40 0 }, by decide⟩

theorem witness_RingsAndQueuesAreServed_18 : ∃ (s : State) (e : List Byte) (n : Nat) (c : RingCmd), (s.fetchTurn = some n) ∧
      (s.host.fetching = true) ∧
      (s.supplies.inReset = false) ∧
      ((s.ring n).cmds = []) ∧
      (c = { index := (s.ring n).fetched, id := leAt e 0 4, notify := bitOf (leAt e 4 1) 0, badReserved := decide (1 < leAt e 4 1) || leAt e 5 3 != 0, body := bytesAt e 8 40 }) ∧
      ((s.ctx (s.ring n).ctx).st ≠ .gloved) ∧
      (opKnown c.opcode = false) ∧
      ((s.ring n).st = .running) :=
  ⟨{ on with host := { ports := [(1, { st := .up })], rings := [(4, { st := .running, port := some 1, tail := 1 })] } }, List.replicate 48 9, 4, { index := 0, id := 0x09090909, notify := true, badReserved := true, body := List.replicate 40 9 }, by decide⟩

theorem witness_RingCommandsRun_1 : ∃ (s : State) (r : Nat) (c : RingCmd), (r < 16384) ∧
      ((s.ring r).st = .running) ∧
      ((s.ring r).cmds = [c]) ∧
      (c.st = .fetched) ∧
      (c.opcode = 0x00) :=
  ⟨{ on with engine := {  }, host := { rings := [(3, { st := .running, ctx := 4, cmds := [{ index := 0, id := 9, notify := false, badReserved := false, body := [0] }] })] } }, 3, { index := 0, id := 9, notify := false, badReserved := false, body := [0] }, by decide⟩

theorem witness_RingCommandsRun_2 : ∃ (s : State) (r : Nat) (d : List Byte) (c : RingCmd) (x : CopySite), (r < 16384) ∧
      ((s.ring r).st = .running) ∧
      ((s.ring r).cmds = [c]) ∧
      (c.st = .fetched) ∧
      (c.opcode = 0x20) ∧
      (s.copySite (s.ring r).ctx c.body = some x) ∧
      (x.scratch = true) ∧
      ((s.ring r).ctx ≠ 0) ∧
      ((s.ctx (s.ring r).ctx).st ≠ .running) :=
  ⟨{ on with engine := { ctxs := [(4, { st := .idle })] }, host := { rings := [(3, { st := .running, ctx := 4, cmds := [{ index := 0, id := 9, notify := false, badReserved := false, body := [0x20, 2, 1, 0, 4, 0, 0, 0, 0, 0, 0, 0, 0, 0, 0, 0, 2, 0, 0, 0, 0, 0, 0, 0] }] })] }, memory := { scratch := [(4, (4096, 64))] } }, 3, [1, 2, 3, 4], { index := 0, id := 9, notify := false, badReserved := false, body := [0x20, 2, 1, 0, 4, 0, 0, 0, 0, 0, 0, 0, 0, 0, 0, 0, 2, 0, 0, 0, 0, 0, 0, 0] }, { scratch := true, die := 1, off := 4098 }, by decide⟩

theorem witness_RingCommandsRun_3 : ∃ (s : State) (r : Nat) (d : List Byte) (c : RingCmd) (x : CopySite), (r < 16384) ∧
      ((s.ring r).st = .running) ∧
      ((s.ring r).cmds = [c]) ∧
      (c.st = .fetched) ∧
      (c.opcode = 0x20) ∧
      (s.copySite (s.ring r).ctx c.body = some x) ∧
      ((s.ctx (s.ring r).ctx).st = .running) :=
  ⟨{ on with engine := { ctxs := [(4, { st := .running })] }, host := { rings := [(3, { st := .running, ctx := 4, cmds := [{ index := 0, id := 9, notify := false, badReserved := false, body := [0x20, 2, 1, 0, 4, 0, 0, 0, 0, 0, 0, 0, 0, 0, 0, 0, 2, 0, 0, 0, 0, 0, 0, 0] }] })] }, memory := { scratch := [(4, (4096, 64))] } }, 3, [1, 2, 3, 4], { index := 0, id := 9, notify := false, badReserved := false, body := [0x20, 2, 1, 0, 4, 0, 0, 0, 0, 0, 0, 0, 0, 0, 0, 0, 2, 0, 0, 0, 0, 0, 0, 0] }, { scratch := true, die := 1, off := 4098 }, by decide⟩

theorem witness_RingCommandsRun_4 : ∃ (s : State) (r : Nat) (c : RingCmd) (x : CopySite), (r < 16384) ∧
      ((s.ring r).st = .running) ∧
      ((s.ring r).cmds = [c]) ∧
      (c.st = .fetched) ∧
      (c.opcode = 0x21) ∧
      (s.copySite (s.ring r).ctx c.body = some x) ∧
      (x.scratch = true) :=
  ⟨{ on with engine := { ctxs := [(4, { st := .idle })] }, host := { rings := [(3, { st := .running, ctx := 4, cmds := [{ index := 0, id := 9, notify := false, badReserved := false, body := [0x21, 2, 1, 0, 4, 0, 0, 0, 0, 0, 0, 0, 0, 0, 0, 0, 2, 0, 0, 0, 0, 0, 0, 0] }] })] }, memory := { scratch := [(4, (4096, 64))] } }, 3, { index := 0, id := 9, notify := false, badReserved := false, body := [0x21, 2, 1, 0, 4, 0, 0, 0, 0, 0, 0, 0, 0, 0, 0, 0, 2, 0, 0, 0, 0, 0, 0, 0] }, { scratch := true, die := 1, off := 4098 }, by decide⟩

theorem witness_RingCommandsRun_5 : ∃ (s : State) (r : Nat) (c : RingCmd) (x : CopySite), (r < 16384) ∧
      ((s.ring r).st = .running) ∧
      ((s.ring r).cmds = [c]) ∧
      (c.st = .started) ∧
      (c.opcode = 0x20) ∧
      (s.copySite (s.ring r).ctx c.body = some x) ∧
      (x.scratch = true) ∧
      (c.moved = 0) ∧
      (c.data.length = leAt c.body 4 4) :=
  ⟨{ on with engine := { ctxs := [(4, { st := .idle })] }, host := { rings := [(3, { st := .running, ctx := 4, cmds := [{ index := 0, id := 9, notify := false, badReserved := false, body := [0x20, 2, 1, 0, 4, 0, 0, 0, 0, 0, 0, 0, 0, 0, 0, 0, 2, 0, 0, 0, 0, 0, 0, 0], st := .started, data := [1, 2, 3, 4] }] })] }, memory := { scratch := [(4, (4096, 64))] } }, 3, { index := 0, id := 9, notify := false, badReserved := false, body := [0x20, 2, 1, 0, 4, 0, 0, 0, 0, 0, 0, 0, 0, 0, 0, 0, 2, 0, 0, 0, 0, 0, 0, 0], st := .started, data := [1, 2, 3, 4] }, { scratch := true, die := 1, off := 4098 }, by decide⟩

theorem witness_RingCommandsRun_6 : ∃ (s : State) (r n len base : Nat) (d : List Byte) (c : RingCmd), (r < 16384) ∧
      ((s.ring r).st = .running) ∧
      ((s.ring r).cmds = [c]) ∧
      (c.st = .fetched) ∧
      (c.opcode = 0x30) ∧
      (n = leAt c.body 1 1) ∧
      (len = leAt c.body 8 8) ∧
      (n < 32) ∧
      (8576 ≤ len) ∧
      (s.slotState n ≠ 1) ∧
      (s.slotState n ≠ 3) ∧
      (s.engine.upload = none) ∧
      (len ≤ s.memFree) ∧
      (placeRange (s.takenRanges n) (ceilDiv len (4096 * s.mfg.part.memDies) * 4096) = some base) :=
  ⟨{ on with engine := { ctxs := [(4, { st := .idle })] }, host := { rings := [(3, { st := .running, ctx := 4, cmds := [{ index := 0, id := 9, notify := false, badReserved := false, body := [0x30, 5, 0, 0, 0, 0, 0, 0, 128, 0x21, 0, 0, 0, 0, 0, 0] }] })] } }, 3, 5, 8576, 0, [1, 2], { index := 0, id := 9, notify := false, badReserved := false, body := [0x30, 5, 0, 0, 0, 0, 0, 0, 128, 0x21, 0, 0, 0, 0, 0, 0] }, by
    refine ⟨by decide, by decide, by decide, by decide, by decide, by decide, by decide, by decide, by decide, by decide,
      by decide, by decide, by decide, ?_⟩
    rw [show State.takenRanges _ 5 = [] from rfl]
    simp [placeRange]
    decide⟩

theorem witness_RingCommandsRun_7 : ∃ (s : State) (r : Nat) (c : RingCmd) (p : Plan), (r < 16384) ∧
      ((s.ring r).st = .running) ∧
      ((s.ring r).cmds = [c]) ∧
      (c.st = .fetched) ∧
      (c.opcode = 0x31) ∧
      ((s.ctx (s.ring r).ctx).plan = some p) ∧
      (p.cls ≠ 0) ∧
      ((s.ctx (s.ring r).ctx).st = .idle) ∧
      ((s.ctx (s.ring r).ctx).jobs = []) :=
  ⟨{ on with engine := { ctxs := [(4, { st := .idle, plan := some { cls := 1 } })] }, host := { rings := [(3, { st := .running, ctx := 4, cmds := [{ index := 0, id := 9, notify := false, badReserved := false, body := [0x31] }] })] } }, 3, { index := 0, id := 9, notify := false, badReserved := false, body := [0x31] }, { cls := 1 }, by decide⟩

set_option maxRecDepth 20000 in
theorem witness_RingCommandsRun_8 : ∃ (s : State) (r : Nat) (d : List Byte) (c : RingCmd), (r < 16384) ∧
      ((s.ring r).st = .running) ∧
      ((s.ring r).cmds = [c]) ∧
      (c.st = .fetched) ∧
      (c.opcode = 0x40) ∧
      (leAt c.body 1 1 ≤ 3) ∧
      (leAt c.body 2 1 % 4 ≠ 3) ∧
      (leAt c.body 3 1 = 0xFF) ∧
      (1 ≤ leAt c.body 24 4) ∧
      (leAt c.body 24 4 ≤ 16777216) ∧
      (leAt c.body 32 8 ≠ 0) ∧
      ((parseJpeg (fitBytes (leAt c.body 24 4) d)).cause (leAt c.body 4 2) (leAt c.body 6 2) = none) :=
  ⟨{ on with engine := {  }, host := { rings := [(3, { st := .running, ctx := 4, cmds := [{ index := 0, id := 9, notify := false, badReserved := false, body := [0x40, 1, 0, 0xFF, 0, 0, 0, 0, 0, 0, 0, 0, 0, 0, 0, 0, 0, 0, 0, 0, 0, 0, 0, 0, 133, 0, 0, 0, 0, 0, 0, 0, 0, 0, 0, 0, 0, 0, 0, 1] }] })] } }, 3, ([0xFF, 0xD8, 0xFF, 0xDB, 0, 0x43, 0] ++ List.replicate 64 1 ++ [0xFF, 0xC0, 0, 0x0B, 8, 0, 8, 0, 8, 1, 1, 0x11, 0] ++ [0xFF, 0xC4, 0, 0x24, 0] ++ List.replicate 16 0 ++ [0x10] ++ List.replicate 16 0 ++ [0xFF, 0xDA, 0, 8, 1, 1, 0, 0, 0x3F, 0, 0, 0xFF, 0xD9]), { index := 0, id := 9, notify := false, badReserved := false, body := [0x40, 1, 0, 0xFF, 0, 0, 0, 0, 0, 0, 0, 0, 0, 0, 0, 0, 0, 0, 0, 0, 0, 0, 0, 0, 133, 0, 0, 0, 0, 0, 0, 0, 0, 0, 0, 0, 0, 0, 0, 1] }, by decide⟩

theorem witness_RingCommandsRun_9 : ∃ (s : State) (r : Nat) (d : List Byte) (c : RingCmd), (r < 16384) ∧
      ((s.ring r).st = .running) ∧
      ((s.ring r).cmds = [c]) ∧
      (c.st = .fetched) ∧
      (c.opcode = 0x40) ∧
      (leAt c.body 2 1 % 4 = 3) :=
  ⟨{ on with engine := {  }, host := { rings := [(3, { st := .running, ctx := 4, cmds := [{ index := 0, id := 9, notify := false, badReserved := false, body := [0x40, 0, 3] }] })] } }, 3, [], { index := 0, id := 9, notify := false, badReserved := false, body := [0x40, 0, 3] }, by decide⟩

theorem witness_NetworkPortsAnswer_1 : ∃ (s : State) (e r : Nat), (e < 2) ∧
      (s.usbOn = true) ∧
      (s.flag (K.portEnable e) = true) :=
  ⟨on, 1, 2, by decide⟩

theorem witness_NetworkPortsAnswer_2 : ∃ (s : State) (e r : Nat), (e < 2) ∧
      (s.reg (K.portLinkState e) = 1) :=
  ⟨{ on with regs := [(K.portLinkState 1, 1)] }, 1, 2, by decide⟩

theorem witness_NetworkPortsAnswer_3 : ∃ (s : State) (e ip mac a : Nat), (e < 2) ∧
      (s.ethOn e = true) ∧
      (a = s.reg (K.ipv4Address e)) ∧
      (a ≠ 0) :=
  ⟨{ on with regs := [(K.portLinkState 1, 1), (K.ipv4Address 1, 77)] }, 1, 5, 6, 77, by decide⟩

theorem witness_NetworkPortsAnswer_4 : ∃ (s : State) (e ip mac a : Nat), (e < 2) ∧
      (s.ethOn e = true) ∧
      (a ≠ s.reg (K.ipv4Address e)) :=
  ⟨{ on with regs := [(K.portLinkState 1, 1), (K.ipv4Address 1, 77)] }, 1, 5, 6, 78, by decide⟩

theorem witness_NetworkPortsAnswer_5 : ∃ (s : State) (e a : Nat) (h : ArpHost), (e < 2) ∧
      (s.ethOn e = true) ∧
      (a = s.reg (K.ipv4Address e)) ∧
      (a ≠ 0) :=
  ⟨{ on with regs := [(K.portLinkState 1, 1), (K.ipv4Address 1, 77)] }, 1, 77, { ip := 5, mac := 6 }, by decide⟩

theorem witness_NetworkPortsAnswer_6 : ∃ (s : State) (e a : Nat) (h : ArpHost), (e < 2) ∧
      (s.ethOn e = true) ∧
      (a ≠ s.reg (K.ipv4Address e)) :=
  ⟨{ on with regs := [(K.portLinkState 1, 1), (K.ipv4Address 1, 77)] }, 1, 78, { ip := 5, mac := 6 }, by decide⟩

theorem witness_NetworkPortsAnswer_7 : ∃ (s : State) (e ip mac at0 : Nat), (e < 2) ∧
      ((s.ethPort e).arp = [(ip, mac, at0)]) ∧
      (at0 + 75000000000 ≤ s.tick) :=
  ⟨{ on with tick := 75000000000, net := { eth := [(1, { arp := [(5, 6, 0)] })] } }, 1, 5, 6, 0, by decide⟩

theorem witness_NetworkPortsAnswer_8 : ∃ (s : State) (e src dst : Nat) (d : List Byte), (e < 2) ∧
      (s.ethOn e = true) ∧
      (dst = s.reg (K.ipv4Address e)) ∧
      (dst ≠ 0) ∧
      ((s.ethPort e).icmpCount < 100) ∧
      (s.tick < (s.ethPort e).icmpTick + 250000000) ∧
      ((s.ethPort e).icmpCount ≠ 0) :=
  ⟨{ on with regs := [(K.portLinkState 1, 1), (K.ipv4Address 1, 77)], net := { eth := [(1, { icmpCount := 99 })] } }, 1, 5, 77, [1], by decide⟩

theorem witness_NetworkPortsAnswer_9 : ∃ (s : State) (e src dst : Nat) (d : List Byte), (e < 2) ∧
      (s.ethOn e = true) ∧
      (100 ≤ (s.ethPort e).icmpCount) ∧
      (s.tick < (s.ethPort e).icmpTick + 250000000) :=
  ⟨{ on with regs := [(K.portLinkState 1, 1), (K.ipv4Address 1, 77)], net := { eth := [(1, { icmpCount := 100 })] } }, 1, 5, 77, [1], by decide⟩

theorem witness_NetworkPortsAnswer_10 : ∃ (s : State) (e : Nat), (e < 2) ∧
      (s.ethOn e = true) :=
  ⟨{ on with regs := [(K.portLinkState 1, 1)] }, 1, by decide⟩

theorem witness_PtpExchangesAreMeasured_1 : ∃ (s : State) (d : Nat) (m : PtpMsg), (m.eth < 2) ∧
      (s.ethOn m.eth = true) ∧
      (s.ptpCarried m.eth m.transport = true) ∧
      (s.domainsFrom m = [d]) ∧
      (m.twoStep = true) ∧
      ((s.domain d).st ≠ .holdover) :=
  ⟨{ on with regs := [(K.portLinkState 1, 1), (K.ipv4Address 1, 77)], net := { dom := [(0, { st := .locked, master := some (1, { domain := 0, priority1 := 1, clockClass := 6, accuracy := 1, variance := 1, priority2 := 1, grandmaster := 7, stepsRemoved := 0, sender := 7, senderPort := 1 }) })] } }, 0, { eth := 1, domain := 0, source := 7, sourcePort := 1, seq := 3, twoStep := true }, by decide⟩

theorem witness_PtpExchangesAreMeasured_2 : ∃ (s : State) (d : Nat) (m : PtpMsg) (off : Int), (m.eth < 2) ∧
      (s.ethOn m.eth = true) ∧
      (s.ptpCarried m.eth m.transport = true) ∧
      (s.domainsFrom m = [d]) ∧
      (m.twoStep = false) ∧
      (s.reg (K.delayMechanism m.eth) = 0) ∧
      (off = (s.domain d).corr.time (s.rxStamp m) - m.origin - m.corr - s.sreg 32 (K.domainMeanPathDelay d) -
          s.sreg 32 (K.portDelayAsymmetry m.eth)) ∧
      ((s.domain d).st = .locked) ∧
      ((off).natAbs < s.reg K.lockThreshold) ∧
      ((off).natAbs < s.reg K.stepThreshold) :=
  ⟨{ on with regs := [(K.portLinkState 1, 1), (K.ipv4Address 1, 77)], net := { dom := [(0, { st := .locked, master := some (1, { domain := 0, priority1 := 1, clockClass := 6, accuracy := 1, variance := 1, priority2 := 1, grandmaster := 7, stepsRemoved := 0, sender := 7, senderPort := 1 }) })] } }, 0, { eth := 1, domain := 0, source := 7, sourcePort := 1, seq := 3, origin := -5 }, 5, by decide⟩

theorem witness_PtpExchangesAreMeasured_3 : ∃ (s : State) (d : Nat) (m : PtpMsg) (off : Int), (m.eth < 2) ∧
      (s.ethOn m.eth = true) ∧
      (s.ptpCarried m.eth m.transport = true) ∧
      (s.domainsFrom m = [d]) ∧
      ((s.domain d).waitFollow = true) ∧
      ((s.domain d).syncSeq = m.seq) ∧
      (s.reg (K.delayMechanism m.eth) = 0) ∧
      (off = (s.domain d).t2 - m.origin - ((s.domain d).cs + m.corr) - s.sreg 32 (K.domainMeanPathDelay d) -
          s.sreg 32 (K.portDelayAsymmetry m.eth)) ∧
      ((s.domain d).st = .locked) ∧
      ((off).natAbs < s.reg K.lockThreshold) ∧
      ((off).natAbs < s.reg K.stepThreshold) :=
  ⟨{ on with regs := [(K.portLinkState 1, 1), (K.ipv4Address 1, 77)], net := { dom := [(0, { st := .locked, waitFollow := true, syncSeq := 3, master := some (1, { domain := 0, priority1 := 1, clockClass := 6, accuracy := 1, variance := 1, priority2 := 1, grandmaster := 7, stepsRemoved := 0, sender := 7, senderPort := 1 }) })] } }, 0, { eth := 1, domain := 0, source := 7, sourcePort := 1, seq := 3, origin := -5 }, 5, by decide⟩

theorem witness_PtpExchangesAreMeasured_4 : ∃ (s : State) (d : Nat) (m : PtpMsg), (m.eth < 2) ∧
      (s.ethOn m.eth = true) ∧
      (s.ptpCarried m.eth m.transport = true) ∧
      (s.domainsFrom m = [d]) ∧
      ((s.domain d).waitFollow = false) :=
  ⟨{ on with regs := [(K.portLinkState 1, 1), (K.ipv4Address 1, 77)], net := { dom := [(0, { st := .locked, master := some (1, { domain := 0, priority1 := 1, clockClass := 6, accuracy := 1, variance := 1, priority2 := 1, grandmaster := 7, stepsRemoved := 0, sender := 7, senderPort := 1 }) })] } }, 0, { eth := 1, domain := 0, source := 7, sourcePort := 1, seq := 3, origin := -5 }, by decide⟩

theorem witness_PtpExchangesAreMeasured_5 : ∃ (s : State) (d : Nat) (m : PtpMsg) (sum : Int), (m.eth < 2) ∧
      (s.ethOn m.eth = true) ∧
      (s.ptpCarried m.eth m.transport = true) ∧
      (s.domainsFrom m = [d]) ∧
      ((s.domain d).reqOut = true) ∧
      ((s.domain d).reqSeq = m.seq) ∧
      (m.reqSource = s.reg K.clockIdentity) ∧
      (m.reqPort = m.eth + 1) ∧
      (s.reg (K.delayMechanism m.eth) = 0) ∧
      (sum = ((s.domain d).t2 - (s.domain d).t1 - (s.domain d).cs) + (m.origin - (s.domain d).t3 - m.corr)) :=
  ⟨{ on with regs := [(K.portLinkState 1, 1), (K.ipv4Address 1, 77)], net := { dom := [(0, { st := .locked, reqOut := true, reqSeq := 3, master := some (1, { domain := 0, priority1 := 1, clockClass := 6, accuracy := 1, variance := 1, priority2 := 1, grandmaster := 7, stepsRemoved := 0, sender := 7, senderPort := 1 }) })] } }, 0, { eth := 1, domain := 0, source := 7, sourcePort := 1, seq := 3, origin := 40, reqPort := 2, reqSource := (on.reg K.clockIdentity) }, 40, by decide⟩

theorem witness_PtpExchangesAreMeasured_6 : ∃ (s : State) (m : PtpMsg), (m.eth < 2) ∧
      (s.ethOn m.eth = true) ∧
      (s.ptpCarried m.eth m.transport = true) ∧
      (s.reg (K.delayMechanism m.eth) = 1) :=
  ⟨{ on with regs := [(K.portLinkState 1, 1), (K.ipv4Address 1, 77), (K.delayMechanism 1, 1)] }, { eth := 1, domain := 0, source := 7, sourcePort := 1, seq := 3, rx := 9 }, by decide⟩

theorem witness_PtpExchangesAreMeasured_7 : ∃ (s : State) (m : PtpMsg), (m.eth < 2) ∧
      (s.ethOn m.eth = true) ∧
      (s.ptpCarried m.eth m.transport = true) ∧
      (s.reg (K.delayMechanism m.eth) = 0) :=
  ⟨{ on with regs := [(K.portLinkState 1, 1), (K.ipv4Address 1, 77)] }, { eth := 1, domain := 0, source := 7, sourcePort := 1, seq := 3, rx := 9 }, by decide⟩

theorem witness_PtpExchangesAreMeasured_8 : ∃ (s : State) (m : PtpMsg), (m.eth < 2) ∧
      (s.ethOn m.eth = true) ∧
      (s.ptpCarried m.eth m.transport = true) ∧
      (s.answersPd m = true) ∧
      (m.twoStep = true) :=
  ⟨{ on with regs := [(K.portLinkState 1, 1), (K.ipv4Address 1, 77), (K.delayMechanism 1, 1)], net := { eth := [(1, { pdSeq := 3, pdWait := true })] } }, { eth := 1, domain := 0, source := 7, sourcePort := 1, seq := 3, twoStep := true, reqPort := 2, reqSource := (on.reg K.clockIdentity) }, by decide⟩

theorem witness_PtpExchangesAreMeasured_9 : ∃ (s : State) (m : PtpMsg) (sum : Int), (m.eth < 2) ∧
      (s.ethOn m.eth = true) ∧
      (s.ptpCarried m.eth m.transport = true) ∧
      (s.answersPd m = true) ∧
      (sum = (s.ethPort m.eth).pdT4 - (s.ethPort m.eth).pdT1 - (m.origin - (s.ethPort m.eth).pdT2) -
          ((s.ethPort m.eth).pdCorr + m.corr)) :=
  ⟨{ on with regs := [(K.portLinkState 1, 1), (K.ipv4Address 1, 77), (K.delayMechanism 1, 1)], net := { eth := [(1, { pdSeq := 3, pdWait := true, pdT4 := 90, pdT2 := 10 })] } }, { eth := 1, domain := 0, source := 7, sourcePort := 1, seq := 3, origin := 20, reqPort := 2, reqSource := (on.reg K.clockIdentity) }, 80, by decide⟩

theorem witness_PtpExchangesAreMeasured_10 : ∃ (s : State) (d e : Nat) (a : Announce), (d < 2) ∧
      ((s.domain d).master = some (e, a)) ∧
      ((s.domain d).st = .locked) ∧
      (s.flag (K.ptpDomainEnable d) = true) ∧
      (s.reg (K.delayMechanism e) = 0) ∧
      (s.ethOn e = true) ∧
      (s.ptpOn e = true) ∧
      ((s.domain d).reqDue ≤ s.tick) :=
  ⟨{ on with regs := [(K.portLinkState 1, 1), (K.ipv4Address 1, 77)], net := { dom := [(0, { st := .locked, master := some (1, { domain := 0, priority1 := 1, clockClass := 6, accuracy := 1, variance := 1, priority2 := 1, grandmaster := 7, stepsRemoved := 0, sender := 7, senderPort := 1 }) })] } }, 0, 1, { domain := 0, priority1 := 1, clockClass := 6, accuracy := 1, variance := 1, priority2 := 1, grandmaster := 7, stepsRemoved := 0, sender := 7, senderPort := 1 }, by decide⟩

theorem witness_PtpExchangesAreMeasured_11 : ∃ (s : State) (e : Nat), (e < 2) ∧
      (s.ethOn e = true) ∧
      (s.ptpOn e = true) ∧
      (s.reg (K.delayMechanism e) = 1) ∧
      ((s.ethPort e).pdDue ≤ s.tick) :=
  ⟨{ on with regs := [(K.portLinkState 1, 1), (K.ipv4Address 1, 77), (K.delayMechanism 1, 1)] }, 1, by decide⟩

theorem witness_PtpExchangesAreMeasured_12 : ∃ (s : State) (m : PtpMsg), (m.eth < 2) ∧
      (s.ethOn m.eth = true) ∧
      (m.transport ≠ s.reg (K.ptpTransport m.eth)) :=
  ⟨{ on with regs := [(K.portLinkState 1, 1), (K.ipv4Address 1, 77)] }, { eth := 1, domain := 0, source := 7, sourcePort := 1, seq := 3, transport := 1 }, by decide⟩

theorem witness_PtpExchangesAreMeasured_13 : ∃ (s : State) (e : Nat), (e < 2) ∧
      (s.ethOn e = true) ∧
      (s.ptpOn e = true) :=
  ⟨{ on with regs := [(K.portLinkState 1, 1), (K.ipv4Address 1, 77)] }, 1, by decide⟩

theorem witness_TimeDomainsAreChosen_1 : ∃ (s : State) (e d : Nat) (a : Announce), (e < 2) ∧
      (s.ethOn e = true) ∧
      (s.ptpCarried e a.transport = true) ∧
      (a.sender ≠ s.reg K.clockIdentity) ∧
      ([0, 1].filter (fun x => s.flag (K.ptpDomainEnable x) && s.reg (K.ptpDomainNumber x) == a.domain) = [d]) ∧
      ((s.domain d).foreign = []) ∧
      (a.clockClass ≤ s.reg K.maxClockClass) ∧
      ((s.domain d).st = .listening) :=
  ⟨{ on with regs := [(K.portLinkState 1, 1), (K.ipv4Address 1, 77)] }, 1, 0, { domain := 0, priority1 := 1, clockClass := 6, accuracy := 1, variance := 1, priority2 := 1, grandmaster := 70, stepsRemoved := 0, sender := 70, senderPort := 1 }, by decide⟩

theorem witness_TimeDomainsAreChosen_2 : ∃ (s : State) (e d : Nat) (a : Announce), (e < 2) ∧
      (s.ethOn e = true) ∧
      (s.ptpCarried e a.transport = true) ∧
      (a.sender ≠ s.reg K.clockIdentity) ∧
      ([0, 1].filter (fun x => s.flag (K.ptpDomainEnable x) && s.reg (K.ptpDomainNumber x) == a.domain) = [d]) ∧
      ((s.domain d).foreign = []) ∧
      (s.reg K.maxClockClass < a.clockClass) :=
  ⟨{ on with regs := [(K.portLinkState 1, 1), (K.ipv4Address 1, 77)] }, 1, 0, { domain := 0, priority1 := 1, clockClass := 249, accuracy := 1, variance := 1, priority2 := 1, grandmaster := 70, stepsRemoved := 0, sender := 70, senderPort := 1 }, by decide⟩

theorem witness_TimeDomainsAreChosen_3 : ∃ (s : State) (d : Nat), (d < 2) ∧
      ((s.domain d).st = .locked) ∧
      (s.reg K.syncLossTimeout * 250000 ≤ s.tick - (s.domain d).lastSync) :=
  ⟨{ on with tick := 250000000, net := { dom := [(0, { st := .locked })] } }, 0, by decide⟩

theorem witness_TimeDomainsAreChosen_4 : ∃ (s : State), (s.net.selected = none) ∧
      (s.domSt 0 = .locked) :=
  ⟨{ on with net := { dom := [(0, { st := .locked })] } }, by decide⟩

theorem witness_TimeDomainsAreChosen_5 : ∃ (s : State) (d : Nat), (d < 2) ∧
      (s.net.selected = some d) ∧
      (s.domSt d = .locked) ∧
      (s.flag K.domainRevertive = true) ∧
      (s.reg K.timeDomainPreferred = 1 - d) ∧
      (s.domSt (1 - d) = .locked) ∧
      ((s.domain (1 - d)).lockedSince + 15000000000 ≤ s.tick) :=
  ⟨{ on with tick := 15000000000, regs := [(K.ptpDomainEnable 1, 1), (K.domainRevertive, 1)], net := { selected := some 1, dom := [(0, { st := .locked }), (1, { st := .locked })] } }, 1, by decide⟩

theorem witness_TimeDomainsAreChosen_6 : ∃ (s : State) (d start dur : Nat) (delta : Int), (s.net.selected = some d) ∧
      (s.net.slew = some (start, delta, dur)) ∧
      (start + dur ≤ s.localTime) :=
  ⟨{ on with tick := 100, net := { selected := some 1, slew := some (0, 5, 10) } }, 1, 0, 10, 5, by decide⟩

theorem witness_TimeDomainsAreChosen_7 : ∃ (s : State), (s.net.timeSt = 2) ∧
      (s.reg K.holdoverLimit * 250000000 ≤ s.tick - s.net.holdAt) :=
  ⟨{ on with tick := 75000000000, net := { timeSt := 2 } }, by decide⟩

theorem witness_ContextsAreTornDown_1 : ∃ (s : State) (die cyc f c : Nat), (die < 2) ∧
      (SMap.get 0 s.engine.frozen die = f + 1) ∧
      (SMap.get 0 s.engine.frozenCtx die = c) ∧
      (f + s.reg K.hangFreezeLimit ≤ cyc) ∧
      ((s.ctx c).st = .running) ∧
      (s.faults.torn = []) ∧
      (s.faults.recovery = none) :=
  ⟨{ on with engine := { ctxs := [(3, { st := .running, plan := some { cls := 1 } })], frozen := [(1, 1)], frozenCtx := [(1, 3)] } }, 1, 1000000000, 0, 3, by decide⟩

theorem witness_ContextsAreTornDown_2 : ∃ (s : State) (die cyc c : Nat), (die < 2) ∧
      (s.lateStep die cyc = some c) ∧
      ((s.ctx c).st = .running) ∧
      (s.faults.torn = []) ∧
      (s.faults.recovery = none) :=
  ⟨{ on with engine := { ctxs := [(3, { st := .running, plan := some { cls := 1 }, run := some { step := 0, start := 0, die := 1 } })] } }, 1, 1000000000, 3, by decide⟩

theorem witness_ContextsAreTornDown_3 : ∃ (s : State) (sess c : Nat), (s.gate sess K.contextReset = none) ∧
      (c < 16) ∧
      (s.power.st = .run) ∧
      ((s.ctx c).st = .running) ∧
      (s.faults.torn = []) ∧
      (s.faults.recovery = none) :=
  ⟨{ on with engine := { ctxs := [(3, { st := .running, plan := some { cls := 1 } })] } }, 0, 3, by decide⟩

theorem witness_ContextsAreTornDown_4 : ∃ (s : State) (sess c : Nat), (s.gate sess K.contextReset = none) ∧
      (15 < c) :=
  ⟨on, 0, 16, by decide⟩

theorem witness_ContextsAreTornDown_5 : ∃ (s : State) (sess c : Nat), (s.gate sess K.contextReset = none) ∧
      (c < 16) ∧
      (s.power.st = .run) ∧
      ((s.ctx c).st = .empty) :=
  ⟨on, 0, 15, by decide⟩

theorem witness_ContextsAreTornDown_6 : ∃ (s : State) (c : Nat) (x : Teardown) (p : Plan), (c < 16) ∧
      (SMap.find? s.faults.torn c = some x) ∧
      (x.start + 125000 ≤ s.tick) ∧
      (x.stop = false) ∧
      (x.cmd = true) ∧
      ((s.ctx c).plan = some p) :=
  ⟨{ on with tick := 125000, engine := { ctxs := [(3, { st := .gloved, plan := some { cls := 1 } })] }, faults := { torn := [(3, { start := 0, code := 0x0601, stop := false, counted := true, cmd := true, fault := { typ := 4, src := 16, pos := 0, time := 0 } })] } }, 3, { start := 0, code := 0x0601, stop := false, counted := true, cmd := true, fault := { typ := 4, src := 16, pos := 0, time := 0 } }, { cls := 1 }, by decide⟩

theorem witness_ContextsAreTornDown_7 : ∃ (s : State) (c : Nat) (x : Teardown), (c < 16) ∧
      (SMap.find? s.faults.torn c = some x) ∧
      (x.start + 125000 ≤ s.tick) ∧
      (x.stop = true) ∧
      (x.cmd = false) :=
  ⟨{ on with tick := 125000, engine := { ctxs := [(3, { st := .gloved, plan := some { cls := 1 } })] }, faults := { torn := [(3, { start := 0, code := 0x0601, stop := true, counted := true, cmd := false, fault := { typ := 4, src := 16, pos := 0, time := 0 } })] } }, 3, { start := 0, code := 0x0601, stop := true, counted := true, cmd := false, fault := { typ := 4, src := 16, pos := 0, time := 0 } }, by decide⟩

theorem witness_ContextsAreTornDown_8 : ∃ (s : State) (sess : Nat), (s.gate sess K.faultLogClear = none) :=
  ⟨{ on with faults := { log := [{ code := 0x0601, scope := 3, ctx := 3, src := 16, pos := 0, time := 0, detail := 0, boot := 0, flags := 0 }] } }, 0, by decide⟩

theorem witness_ContextsAreTornDown_9 : ∃ (s : State) (sess : Nat), (s.gate sess K.faultLogNvClear = none) :=
  ⟨{ on with regs := [(0x140001, 1)], faults := { nv := [{ code := 0x0601, scope := 3, ctx := 3, src := 16, pos := 0, time := 0, detail := 0, boot := 0, flags := 0 }] } }, 0, by decide⟩

theorem witness_DeviceFaultsRecoverOrReset_1 : ∃ (s : State), (s.supplies.inReset = false) ∧
      (s.power.st = .run) ∧
      (s.boot.ready = true) ∧
      (s.recentRecoveries < s.reg K.recoveryLimit) ∧
      (s.ctl.phase = .idle) ∧
      (s.faults.recovery = none) :=
  ⟨{ on with boot := { ready := true }, engine := { ctxs := [(3, { st := .running })] } }, by decide⟩

theorem witness_DeviceFaultsRecoverOrReset_2 : ∃ (s : State) (h : Nat), (s.supplies.inReset = false) ∧
      (s.power.st = .run) ∧
      (s.boot.ready = true) ∧
      (s.recentRecoveries < s.reg K.recoveryLimit) ∧
      (s.ctl.phase = .idle) ∧
      (s.faults.recovery = none) ∧
      (1 ≤ h) ∧
      (h ≤ 4) :=
  ⟨{ on with boot := { ready := true }, engine := { ctxs := [(3, { st := .running })] } }, 4, by decide⟩

theorem witness_DeviceFaultsRecoverOrReset_3 : ∃ (s : State) (p : Nat), (s.supplies.inReset = false) ∧
      (s.power.st = .run) ∧
      (s.boot.ready = true) ∧
      (s.recentRecoveries < s.reg K.recoveryLimit) ∧
      (s.ctl.phase = .idle) ∧
      (s.faults.recovery = none) ∧
      (1 ≤ p) ∧
      (p ≤ 3) :=
  ⟨{ on with boot := { ready := true }, engine := { ctxs := [(3, { st := .running })] } }, 3, by decide⟩

theorem witness_DeviceFaultsRecoverOrReset_4 : ∃ (s : State) (sess : Nat), (s.supplies.inReset = false) ∧
      (s.power.st = .run) ∧
      (s.boot.ready = true) ∧
      (s.recentRecoveries < s.reg K.recoveryLimit) ∧
      (s.ctl.phase = .idle) ∧
      (s.faults.recovery = none) ∧
      (s.gate sess K.deviceRecover = none) :=
  ⟨{ on with regs := [(0x140001, 1)], boot := { ready := true }, engine := { ctxs := [(3, { st := .running })] } }, 0, by decide⟩

theorem witness_DeviceFaultsRecoverOrReset_5 : ∃ (s : State), (s.supplies.inReset = false) ∧
      (s.power.st = .run) ∧
      (s.boot.ready = true) ∧
      (s.reg K.recoveryLimit ≤ s.recentRecoveries) :=
  ⟨{ on with boot := { ready := true }, faults := { recoveries := [0, 0, 0, 0, 0, 0, 0, 0, 0, 0] } }, by decide⟩

theorem witness_DeviceFaultsRecoverOrReset_6 : ∃ (s : State), (s.supplies.inReset = false) ∧
      (s.power.st = .run) :=
  ⟨on, by decide⟩

theorem witness_DeviceFaultsRecoverOrReset_7 : ∃ (s : State), (s.supplies.inReset = false) ∧
      (s.power.st = .run) :=
  ⟨on, by decide⟩

theorem witness_DeviceFaultsRecoverOrReset_8 : ∃ (s : State), (s.supplies.inReset = true) :=
  ⟨{ on with supplies := { inReset := true } }, by decide⟩

theorem witness_DeviceFaultsRecoverOrReset_9 : ∃ (s : State) (v : Recovery), (s.faults.recovery = some v) :=
  ⟨{ on with ctl := { serving := false }, tick := 250000, faults := { stalled := true, recovery := some { start := 0, cause := 0x0801 } } }, { start := 0, cause := 0x0801 }, by decide⟩

theorem witness_PowerStatesAreEnteredAndLeft_1 : ∃ (s : State) (sess : Nat), (s.gate sess K.powerTarget = none) ∧
      (s.power.st = .run) ∧
      (s.power.trans = none) :=
  ⟨on, 0, by decide⟩

theorem witness_PowerStatesAreEnteredAndLeft_2 : ∃ (s : State) (sess : Nat), (s.gate sess K.powerTarget = none) ∧
      (s.power.st = .ready) ∧
      (s.power.trans = none) :=
  ⟨{ on with power := { st := .ready } }, 0, by decide⟩

theorem witness_PowerStatesAreEnteredAndLeft_3 : ∃ (s : State) (sess : Nat), (s.gate sess K.powerTarget = none) ∧
      (s.power.st = .run) ∧
      (s.power.trans = none) ∧
      (s.entryOk sess .ready = true) :=
  ⟨on, 0, by decide⟩

theorem witness_PowerStatesAreEnteredAndLeft_4 : ∃ (s : State) (sess : Nat), (s.gate sess K.powerTarget = none) ∧
      (s.power.st = .run) ∧
      (s.power.trans = none) ∧
      (s.entryOk sess .doze = true) :=
  ⟨on, 0, by decide⟩

theorem witness_PowerStatesAreEnteredAndLeft_5 : ∃ (s : State) (sess : Nat), (s.gate sess K.powerTarget = none) ∧
      (s.power.st = .run) ∧
      (s.power.trans = none) ∧
      (s.entryOk sess .retain = true) :=
  ⟨on, 0, by decide⟩

theorem witness_PowerStatesAreEnteredAndLeft_6 : ∃ (s : State) (sess : Nat), (s.gate sess K.powerTarget = none) ∧
      (s.power.st = .run) ∧
      (s.power.trans = none) ∧
      (s.entryOk sess .standby = true) :=
  ⟨on, 0, by decide⟩

theorem witness_PowerStatesAreEnteredAndLeft_7 : ∃ (s : State) (sess : Nat), (s.gate sess K.powerTarget = none) ∧
      (s.power.st = .run) ∧
      (s.power.trans = none) ∧
      (s.belt.st = .forward) ∧
      ((s.ctx 0).st ≠ .empty) :=
  ⟨{ on with belt := { st := .forward }, engine := { ctxs := [(0, { st := .idle, plan := some {} })] } }, 0, by decide⟩

theorem witness_PowerStatesAreEnteredAndLeft_8 : ∃ (s : State) (x : Transition), (s.power.trans = some x) ∧
      (x.target = .ready) ∧
      (x.cause = 1) ∧
      (s.power.st = .run) ∧
      (s.power.heldBells = []) :=
  ⟨{ on with tick := 50, power := { st := .run, trans := some { target := .ready, cause := 1, start := 0 } } }, { target := .ready, cause := 1, start := 0 }, by decide⟩

theorem witness_PowerStatesAreEnteredAndLeft_9 : ∃ (s : State) (x : Transition), (s.power.trans = some x) ∧
      (x.target = .doze) ∧
      (s.power.st = .ready) :=
  ⟨{ on with tick := 50, power := { st := .ready, trans := some { target := .doze, cause := 1, start := 0 } }, field := { outs := [(3, { cmd := true, driven := true })], alive := { running := true } } }, { target := .doze, cause := 1, start := 0 }, by decide⟩

theorem witness_PowerStatesAreEnteredAndLeft_10 : ∃ (s : State) (x : Transition), (s.power.trans = some x) ∧
      (x.target = .standby) ∧
      (s.power.st = .retain) :=
  ⟨{ on with tick := 50, power := { st := .retain, trans := some { target := .standby, cause := 1, start := 0 } } }, { target := .standby, cause := 1, start := 0 }, by decide⟩

theorem witness_PowerStatesAreEnteredAndLeft_11 : ∃ (s : State) (since : Nat), (s.power.readySince = some since) ∧
      (s.flag K.autoReady = true) ∧
      (s.power.st = .run) ∧
      (s.power.trans = none) ∧
      (s.readyOk = true) ∧
      (s.reg K.autoReadyDelay * 250000 ≤ s.tick - since) :=
  ⟨{ on with tick := 100000000000, regs := [(K.autoReady, 1)], power := { readySince := some 0 } }, 0, by decide⟩

theorem witness_PowerStatesAreEnteredAndLeft_12 : ∃ (s : State) (n : Nat), (bitOf (s.reg K.wakeSources) n = true) ∧
      (n = 2 ∨ n = 4) ∧
      (s.power.st = .retain) ∧
      (s.power.trans = none) ∧
      (s.flag K.autoReady = false) :=
  ⟨{ on with regs := [(K.autoReady, 0), (K.wakeSources, 0x14)], power := { st := .retain } }, 4, by decide⟩

theorem witness_PowerStatesAreEnteredAndLeft_13 : ∃ (s : State) (n : Nat), (bitOf (s.reg K.wakeSources) n = false) :=
  ⟨{ on with regs := [(K.wakeSources, 4)], power := { st := .retain } }, 4, by decide⟩

theorem witness_PowerStatesAreEnteredAndLeft_14 : ∃ (s : State), (s.reg K.wakeTimer ≠ 0) ∧
      (s.reg K.wakeTimer * 250000000 ≤ s.tick - s.power.entered) ∧
      (bitOf (s.reg K.wakeSources) 3 = true) ∧
      (s.power.st = .standby) ∧
      (s.power.trans = none) :=
  ⟨{ on with tick := 250000000, regs := [(K.wakeSources, 8), (K.wakeTimer, 1)], power := { st := .standby } }, by decide⟩

theorem witness_TemperatureAndClockAreFollowed_1 : ∃ (s : State) (x : TempSample) (a b : Int) (l : List Int), (x.dies = a :: b :: l) ∧
      (x.dies.all (fun d => decide (-32768 ≤ d ∧ d < 1050)) = true) ∧
      (s.supplies.inReset = false) ∧
      (s.power.st = .run) ∧
      (s.power.throttleTemp = false) ∧
      (s.sreg 16 K.throttleTemperature ≤ a) ∧
      (s.diesFitted.all (fun d => decide (d < x.dies.length)) = true) :=
  ⟨on, { dies := [1000, 900, 500, 500, 500, 500, 500, 500, 500, 500], logicMv := 24000, logicW := 300 }, 1000, 900, [500, 500, 500, 500, 500, 500, 500, 500], by decide⟩

theorem witness_TemperatureAndClockAreFollowed_2 : ∃ (s : State) (x : TempSample) (a : Int) (l : List Int), (x.dies = a :: l) ∧
      (1050 ≤ a) ∧
      (a < 32768) ∧
      (s.supplies.inReset = false) ∧
      (s.power.st = .run) :=
  ⟨on, { dies := [1050, 900], logicMv := 24000, logicW := 300 }, 1050, [900], by decide⟩

theorem witness_TemperatureAndClockAreFollowed_3 : ∃ (s : State) (slow : List Nat) (m0 m1 : Int) (m : List Int), (s.supplies.inReset = false) ∧
      (s.power.st = .run) ∧
      ((s.ctx 0).plan.isSome = true) ∧
      (m0 < s.reg K.marginTarget) ∧
      (-32768 ≤ m0) :=
  ⟨{ on with engine := { ctxs := [(0, { st := .idle, plan := some {} })] } }, [1], -5, 4000, [], by decide⟩

theorem witness_TemperatureAndClockAreFollowed_4 : ∃ (s : State) (sess : Nat), (s.gate sess K.replanNow = none) ∧
      (s.power.st = .run) ∧
      (s.power.clock = none) ∧
      (s.alwaysReplan = true) ∧
      (s.voltageRoom 0 = true) ∧
      (s.voltageRoom 1 = true) :=
  ⟨{ on with regs := [(0x031001, 1)] }, 0, by decide⟩

theorem witness_TemperatureAndClockAreFollowed_5 : ∃ (s : State) (sess : Nat), (s.gate sess K.replanNow = none) ∧
      (s.power.st = .run) ∧
      (s.power.clock = none) ∧
      (s.alwaysReplan = true) ∧
      (s.voltageRoom 0 = false) ∧
      (s.voltageRoom 1 = false) ∧
      (s.mayStepClock = true) ∧
      (s.reg K.minCoreClock + 10 ≤ s.engine.cclk) :=
  ⟨{ on with regs := [(0x031001, 1), (K.voltageHeadroom, 0)], engine := { cclk := 800 } }, 0, by decide⟩

theorem witness_TemperatureAndClockAreFollowed_6 : ∃ (s : State) (cyc : Nat) (k : ClockStep), (s.power.clock = some k) :=
  ⟨{ on with power := { clock := some { start := 0, die := 0, mhz := 790 } }, engine := { cclk := 800 } }, 7, { start := 0, die := 0, mhz := 790 }, by decide⟩

theorem witness_CountersAndClears_1 : ∃ (s : State) (sess : Nat), (s.gate sess K.counterControl = none) :=
  ⟨on, 0, by decide⟩

theorem witness_CountersAndClears_2 : ∃ (s : State) (sess : Nat), (s.gate sess K.counterControl = none) :=
  ⟨on, 0, by decide⟩

theorem witness_CountersAndClears_3 : ∃ (s : State) (sess : Nat), (s.gate sess K.counterControl = none) :=
  ⟨on, 0, by decide⟩

theorem witness_CountersAndClears_4 : ∃ (s : State) (sess : Nat), (s.gate sess K.counterControl = none) :=
  ⟨on, 0, by decide⟩

theorem witness_CountersAndClears_6 : ∃ (s : State), (s.tick % (2 ^ s.reg K.bandwidthWindow * 250) = 0) :=
  ⟨{ on with perf := { bytesIn := [(3, 9)] } }, by decide⟩

theorem witness_CountersAndClears_7 : ∃ (s : State) (sess : Nat), (s.gate sess K.bandwidthClear = none) :=
  ⟨on, 0, by decide⟩

theorem witness_CountersAndClears_8 : ∃ (s : State) (sess : Nat), (s.gate sess K.sampleLogClear = none) :=
  ⟨{ on with perf := { log := [[1]] } }, 0, by decide⟩

theorem witness_CountersAndClears_9 : ∃ (s : State) (sess v : Nat), (s.gate sess K.statisticsClear = none) ∧
      (v = 0xFFFF ∨ (v % 256 = 0 ∧ 0x0200 ≤ v ∧ v ≤ 0x1700)) :=
  ⟨{ on with regs := [(K.framesDropped 0, 7)] }, 0, 0x1300, by decide⟩

theorem witness_CountersAndClears_10 : ∃ (s : State) (sess v : Nat), (s.gate sess K.statisticsClear = none) ∧
      (v ≠ 0xFFFF) ∧
      (v % 256 ≠ 0 ∨ v < 0x0200 ∨ 0x1700 < v) :=
  ⟨on, 0, 0x1800, by decide⟩

theorem witness_ModuleStartsUpAndReports_1 : ∃ (s : State) (cause : Nat), (s.startOk cause = true) ∧
      (s.mfg.arrayOk = true) ∧
      (cause ≠ 3) :=
  ⟨State.reset, 1, by decide⟩

theorem witness_ModuleStartsUpAndReports_2 : ∃ (s : State) (cause : Nat), (s.startOk cause = true) ∧
      (s.mfg.arrayOk = false) :=
  ⟨{ State.reset with mfg := { State.reset.mfg with arrayOk := false } }, 1, by decide⟩

theorem witness_ModuleStartsUpAndReports_3 : ∃ (s : State), (s.supplies.inReset = false) ∧
      (s.boot.halted = false) ∧
      (s.boot.ready = false) ∧
      (s.boot.step = 8) ∧
      (s.faults.lateFull = false) :=
  ⟨{ on with ctl := { serving := false }, tick := 250000, boot := { step := 8, ready := false } }, by decide⟩

theorem witness_ModuleStartsUpAndReports_4 : ∃ (s : State) (sess n : Nat), (s.gate sess K.blobUploadBegin = none) ∧
      (4792 ≤ n) ∧
      (n ≤ 1048576) ∧
      (s.boot.upload = none) :=
  ⟨{ on with regs := [(0x160001, 1)] }, 0, 4792, by decide⟩

theorem witness_ModuleStartsUpAndReports_5 : ∃ (s : State) (sess : Nat) (d : List Byte) (u : BlobUpload), (s.gate sess K.blobUploadData = none) ∧
      (d ≠ []) ∧
      (d.length ≤ 65536) ∧
      (s.boot.upload = some u) ∧
      (s.reg K.blobUploadOffset + d.length ≤ u.length) :=
  ⟨{ on with regs := [(0x160001, 1)], boot := { upload := some { slot := 2, length := 5000 } } }, 0, [1, 2], { slot := 2, length := 5000 }, by decide⟩

theorem witness_ModuleStartsUpAndReports_6 : ∃ (s : State) (sess n : Nat) (u : BlobUpload), (s.gate sess K.blobUploadEnd = none) ∧
      (n < 16) ∧
      (s.boot.upload = some u) ∧
      (u.slot = n) ∧
      (covers u.spans u.length = true) :=
  ⟨{ on with regs := [(0x160001, 1)], boot := { upload := some { slot := 2, length := 5000, spans := [(0, 5000)] } } }, 0, 2, { slot := 2, length := 5000, spans := [(0, 5000)] }, by decide⟩

theorem witness_ModuleStartsUpAndReports_7 : ∃ (s : State) (sess n : Nat), (s.gate sess K.blobSlotClear = none) ∧
      (n < 16) :=
  ⟨{ on with regs := [(0x160001, 1)], boot := { slots := [(2, { st := 3, data := [1] })] } }, 0, 2, by decide⟩

theorem witness_ModuleStartsUpAndReports_8 : ∃ (s : State) (sess : Nat), (s.gate sess K.attestRequest = none) ∧
      (s.boot.ready = true) ∧
      (s.deviceKeyOk = true) :=
  ⟨{ on with mfg := { part := .brl7162, deviceKeyId := bytesAt (on.blob K.attestationCertificate) 0x20 16 } }, 0, by decide⟩

theorem witness_ModuleStartsUpAndReports_9 : ∃ (s : State) (nonce : List Byte) (pos time at0 : Nat), (s.boot.attest = some (nonce, pos, time, at0)) :=
  ⟨{ on with boot := { attest := some ([1], 7, 8, 0) } }, [1], 7, 8, 0, by decide⟩

theorem witness_BdpFramesAreAnswered_1 : ∃ (s : State) (d : Datagram), (d.eth < 2) ∧
      (d.dport = s.reg K.bdpUdpPort) ∧
      (s.ethOn d.eth = true) ∧
      (s.reg (K.ipv4Address d.eth) ≠ 0) ∧
      (bitOf (s.reg K.bdpEnable) d.eth = true) ∧
      (d.payload.length ≤ 1472) ∧
      (s.bdpAllows d.src = true) ∧
      (2 ≤ d.payload.length) ∧
      (beAt d.payload 0 2 = 0x4244) ∧
      (s.power.trans = none) ∧
      (s.power.st ≠ .doze) ∧
      ((bdpItems d.payload 32).isSome = true) ∧
      (bdpOp d.payload = 1) ∧
      (s.ctl.serving = true) ∧
      (s.faults.stalled = false) ∧
      (s.ctl.sessions.length < 8) :=
  ⟨{ on with regs := [(K.portLinkState 1, 1), (K.ipv4Address 1, 77)], ctl := { serving := true } }, { eth := 1, src := 5, sport := 9, payload := [0x42, 0x44, 1, 0, 0, 0, 0, 0, 1, 0, 0, 0, 0, 0, 0, 0] }, by decide⟩

theorem witness_BdpFramesAreAnswered_2 : ∃ (s : State) (d : Datagram), (d.eth < 2) ∧
      (d.dport = s.reg K.bdpUdpPort) ∧
      (s.ethOn d.eth = true) ∧
      (s.reg (K.ipv4Address d.eth) ≠ 0) ∧
      (bitOf (s.reg K.bdpEnable) d.eth = true) ∧
      (d.payload.length ≤ 1472) ∧
      (s.bdpAllows d.src = true) ∧
      (2 ≤ d.payload.length) ∧
      (beAt d.payload 0 2 = 0x4244) ∧
      (s.power.trans = none) ∧
      (s.power.st ≠ .doze) ∧
      ((bdpItems d.payload 32).isSome = true) ∧
      (bdpOp d.payload = 1) ∧
      (s.ctl.serving = true) ∧
      (s.faults.stalled = false) ∧
      (8 ≤ s.ctl.sessions.length) :=
  ⟨{ on with regs := [(K.portLinkState 1, 1), (K.ipv4Address 1, 77)], ctl := { serving := true, sessions := List.replicate 8 { num := 3, seq := 4, kept := [1], last := 0 } } }, { eth := 1, src := 5, sport := 9, payload := [0x42, 0x44, 1, 0, 0, 0, 0, 0, 1, 0, 0, 0, 0, 0, 0, 0] }, by decide⟩

theorem witness_BdpFramesAreAnswered_3 : ∃ (s : State) (d : Datagram) (x : Session) (i : BdpItem), (d.eth < 2) ∧
      (d.dport = s.reg K.bdpUdpPort) ∧
      (s.ethOn d.eth = true) ∧
      (s.reg (K.ipv4Address d.eth) ≠ 0) ∧
      (bitOf (s.reg K.bdpEnable) d.eth = true) ∧
      (d.payload.length ≤ 1472) ∧
      (s.bdpAllows d.src = true) ∧
      (2 ≤ d.payload.length) ∧
      (beAt d.payload 0 2 = 0x4244) ∧
      (s.power.trans = none) ∧
      (s.power.st ≠ .doze) ∧
      ((bdpItems d.payload 32).isSome = true) ∧
      (bdpOp d.payload = 3) ∧
      (s.ctl.sessions = [x]) ∧
      (x.num = bdpSession d.payload) ∧
      (bdpSeq d.payload = (x.seq + 1) % 65536) ∧
      (x.num ≠ 0) ∧
      (bdpItems d.payload 32 = some [i]) ∧
      (i.idx = 0x0120) ∧
      (i.sub = 3) ∧
      (i.flags = 0) ∧
      (i.off = 0) ∧
      (i.len = 4) ∧
      (s.ctl.serving = true) ∧
      (s.faults.stalled = false) :=
  ⟨{ on with regs := [(K.portLinkState 1, 1), (K.ipv4Address 1, 77)], ctl := { serving := true, sessions := [{ num := 3, seq := 4, kept := [1], last := 0 }] } }, { eth := 1, src := 5, sport := 9, payload := [0x42, 0x44, 1, 0, 0, 3, 0, 5, 3, 1, 0, 12, 0, 0, 0, 0, 1, 0x20, 3, 0, 0, 0, 0, 0, 0, 4, 0, 0] }, { num := 3, seq := 4, kept := [1], last := 0 }, { idx := 0x0120, sub := 3, flags := 0, off := 0, len := 4 }, by decide⟩

theorem witness_BdpFramesAreAnswered_4 : ∃ (s : State) (d : Datagram) (x : Session) (i : BdpItem), (d.eth < 2) ∧
      (d.dport = s.reg K.bdpUdpPort) ∧
      (s.ethOn d.eth = true) ∧
      (s.reg (K.ipv4Address d.eth) ≠ 0) ∧
      (bitOf (s.reg K.bdpEnable) d.eth = true) ∧
      (d.payload.length ≤ 1472) ∧
      (s.bdpAllows d.src = true) ∧
      (2 ≤ d.payload.length) ∧
      (beAt d.payload 0 2 = 0x4244) ∧
      (s.power.trans = none) ∧
      (s.power.st ≠ .doze) ∧
      ((bdpItems d.payload 32).isSome = true) ∧
      (bdpOp d.payload = 4) ∧
      (s.ctl.sessions = [x]) ∧
      (x.num = bdpSession d.payload) ∧
      (bdpSeq d.payload = (x.seq + 1) % 65536) ∧
      (x.num ≠ 0) ∧
      (bdpItems d.payload 32 = some [i]) ∧
      (i.idx = 0x0120) ∧
      (i.sub = 3) ∧
      (i.off = 0) ∧
      (i.value.length = 4) ∧
      (500 ≤ leNat i.value) ∧
      (leNat i.value ≤ 600000) ∧
      (s.ctl.serving = true) ∧
      (s.faults.stalled = false) ∧
      (s.ctl.owner = 0) ∧
      (s.ctl.phase = .idle) :=
  ⟨{ on with regs := [(K.portLinkState 1, 1), (K.ipv4Address 1, 77)], ctl := { serving := true, sessions := [{ num := 3, seq := 4, kept := [1], last := 0 }] } }, { eth := 1, src := 5, sport := 9, payload := [0x42, 0x44, 1, 0, 0, 3, 0, 5, 4, 1, 0, 16, 0, 0, 0, 0, 1, 0x20, 3, 0, 0, 0, 0, 0, 0, 4, 0, 0, 0, 4, 0, 0] }, { num := 3, seq := 4, kept := [1], last := 0 }, { idx := 0x0120, sub := 3, flags := 0, off := 0, len := 4, value := [0, 4, 0, 0] }, by decide⟩

theorem witness_BdpFramesAreAnswered_5 : ∃ (s : State) (d : Datagram) (x : Session), (d.eth < 2) ∧
      (d.dport = s.reg K.bdpUdpPort) ∧
      (s.ethOn d.eth = true) ∧
      (s.reg (K.ipv4Address d.eth) ≠ 0) ∧
      (bitOf (s.reg K.bdpEnable) d.eth = true) ∧
      (d.payload.length ≤ 1472) ∧
      (s.bdpAllows d.src = true) ∧
      (2 ≤ d.payload.length) ∧
      (beAt d.payload 0 2 = 0x4244) ∧
      (s.power.trans = none) ∧
      (s.power.st ≠ .doze) ∧
      ((bdpItems d.payload 32).isSome = true) ∧
      (bdpOp d.payload = 5) ∧
      (s.ctl.sessions = [x]) ∧
      (x.num = bdpSession d.payload) ∧
      (bdpSeq d.payload = (x.seq + 1) % 65536) ∧
      (x.num ≠ 0) :=
  ⟨{ on with regs := [(K.portLinkState 1, 1), (K.ipv4Address 1, 77)], ctl := { serving := true, sessions := [{ num := 3, seq := 4, kept := [1], last := 0 }] } }, { eth := 1, src := 5, sport := 9, payload := [0x42, 0x44, 1, 0, 0, 3, 0, 5, 5, 0, 0, 0, 0, 0, 0, 0] }, { num := 3, seq := 4, kept := [1], last := 0 }, by decide⟩

theorem witness_BdpFramesAreAnswered_6 : ∃ (s : State) (d : Datagram) (x : Session), (d.eth < 2) ∧
      (d.dport = s.reg K.bdpUdpPort) ∧
      (s.ethOn d.eth = true) ∧
      (s.reg (K.ipv4Address d.eth) ≠ 0) ∧
      (bitOf (s.reg K.bdpEnable) d.eth = true) ∧
      (d.payload.length ≤ 1472) ∧
      (s.bdpAllows d.src = true) ∧
      (2 ≤ d.payload.length) ∧
      (beAt d.payload 0 2 = 0x4244) ∧
      (s.power.trans = none) ∧
      ((bdpItems d.payload 32).isSome = true) ∧
      (bdpOp d.payload = 5) ∧
      (s.ctl.sessions = [x]) ∧
      (x.num = bdpSession d.payload) ∧
      (bdpSeq d.payload = (x.seq + 1) % 65536) ∧
      (x.num ≠ 0) ∧
      (s.power.st = .doze) ∧
      (bitOf (s.reg K.wakeSources) 1 = true) :=
  ⟨{ on with power := { st := .doze }, regs := [(K.portLinkState 1, 1), (K.ipv4Address 1, 77), (K.wakeSources, 2)], ctl := { serving := true, sessions := [{ num := 3, seq := 4, kept := [1], last := 0 }] } }, { eth := 1, src := 5, sport := 9, payload := [0x42, 0x44, 1, 0, 0, 3, 0, 5, 5, 0, 0, 0, 0, 0, 0, 0] }, { num := 3, seq := 4, kept := [1], last := 0 }, by decide⟩

theorem witness_BdpFramesAreAnswered_7 : ∃ (s : State) (d : Datagram) (x : Session), (d.eth < 2) ∧
      (d.dport = s.reg K.bdpUdpPort) ∧
      (s.ethOn d.eth = true) ∧
      (s.reg (K.ipv4Address d.eth) ≠ 0) ∧
      (bitOf (s.reg K.bdpEnable) d.eth = true) ∧
      (d.payload.length ≤ 1472) ∧
      (s.bdpAllows d.src = true) ∧
      (2 ≤ d.payload.length) ∧
      (beAt d.payload 0 2 = 0x4244) ∧
      (s.power.trans = none) ∧
      (s.power.st ≠ .doze) ∧
      ((bdpItems d.payload 32).isSome = true) ∧
      (bdpOp d.payload = 2) ∧
      (s.ctl.sessions = [x]) ∧
      (x.num = bdpSession d.payload) ∧
      (bdpSeq d.payload = (x.seq + 1) % 65536) ∧
      (x.num ≠ 0) ∧
      (s.ctl.owner = x.num) :=
  ⟨{ on with regs := [(K.portLinkState 1, 1), (K.ipv4Address 1, 77)], ctl := { serving := true, sessions := [{ num := 3, seq := 4, kept := [1], last := 0 }], owner := 3, staged := [(K.bdpSessionTimeout, 900)] } }, { eth := 1, src := 5, sport := 9, payload := [0x42, 0x44, 1, 0, 0, 3, 0, 5, 2, 0, 0, 0, 0, 0, 0, 0] }, { num := 3, seq := 4, kept := [1], last := 0 }, by decide⟩

theorem witness_BdpFramesAreAnswered_8 : ∃ (s : State) (d : Datagram) (x : Session), (d.eth < 2) ∧
      (d.dport = s.reg K.bdpUdpPort) ∧
      (s.ethOn d.eth = true) ∧
      (s.reg (K.ipv4Address d.eth) ≠ 0) ∧
      (bitOf (s.reg K.bdpEnable) d.eth = true) ∧
      (d.payload.length ≤ 1472) ∧
      (s.bdpAllows d.src = true) ∧
      (2 ≤ d.payload.length) ∧
      (beAt d.payload 0 2 = 0x4244) ∧
      (s.power.trans = none) ∧
      (s.power.st ≠ .doze) ∧
      ((bdpItems d.payload 32).isSome = true) ∧
      (bdpOp d.payload = 4) ∧
      (s.ctl.sessions = [x]) ∧
      (x.num = bdpSession d.payload) ∧
      (bdpSeq d.payload = x.seq) ∧
      (x.seq < 65536) ∧
      (x.kept ≠ []) :=
  ⟨{ on with regs := [(K.portLinkState 1, 1), (K.ipv4Address 1, 77)], ctl := { serving := true, sessions := [{ num := 3, seq := 4, kept := [1], last := 0 }] } }, { eth := 1, src := 5, sport := 9, payload := [0x42, 0x44, 1, 0, 0, 3, 0, 4, 4, 1, 0, 16, 0, 0, 0, 0, 1, 0x20, 3, 0, 0, 0, 0, 0, 0, 4, 0, 0, 0, 4, 0, 0] }, { num := 3, seq := 4, kept := [1], last := 0 }, by decide⟩

theorem witness_BdpFramesAreAnswered_9 : ∃ (s : State) (d : Datagram), (d.eth < 2) ∧
      (d.dport = s.reg K.bdpUdpPort) ∧
      (s.ethOn d.eth = true) ∧
      (s.reg (K.ipv4Address d.eth) ≠ 0) ∧
      (bitOf (s.reg K.bdpEnable) d.eth = true) ∧
      (d.payload.length ≤ 1472) ∧
      (s.bdpAllows d.src = true) ∧
      (2 ≤ d.payload.length) ∧
      (beAt d.payload 0 2 = 0x4244) ∧
      (s.power.trans = none) ∧
      (s.power.st ≠ .doze) ∧
      ((bdpItems d.payload 32).isSome = true) ∧
      (bdpOp d.payload = 3) ∧
      (s.ctl.sessions = []) :=
  ⟨{ on with regs := [(K.portLinkState 1, 1), (K.ipv4Address 1, 77)], ctl := { serving := true } }, { eth := 1, src := 5, sport := 9, payload := [0x42, 0x44, 1, 0, 0, 3, 0, 5, 3, 0, 0, 0, 0, 0, 0, 0] }, by decide⟩

theorem witness_BdpFramesAreAnswered_10 : ∃ (s : State) (d : Datagram), (d.eth < 2) ∧
      (d.dport = s.reg K.bdpUdpPort) ∧
      (s.ethOn d.eth = true) ∧
      (s.reg (K.ipv4Address d.eth) ≠ 0) ∧
      (bitOf (s.reg K.bdpEnable) d.eth = true) ∧
      (d.payload.length ≤ 1472) ∧
      (s.bdpAllows d.src = true) ∧
      (2 ≤ d.payload.length) ∧
      (beAt d.payload 0 2 = 0x4244) ∧
      (s.power.trans = none) ∧
      (s.power.st ≠ .doze) ∧
      ((bdpItems d.payload 32).isSome = true) ∧
      (bdpOp d.payload = 0 ∨ 5 < bdpOp d.payload) :=
  ⟨{ on with regs := [(K.portLinkState 1, 1), (K.ipv4Address 1, 77)], ctl := { serving := true } }, { eth := 1, src := 5, sport := 9, payload := [0x42, 0x44, 1, 0, 0, 3, 0, 5, 6, 0, 0, 0, 0, 0, 0, 0] }, by decide⟩

theorem witness_BdpFramesAreAnswered_11 : ∃ (s : State) (d : Datagram), (d.eth < 2) ∧
      (d.dport = s.reg K.bdpUdpPort) ∧
      (s.ethOn d.eth = true) ∧
      (s.reg (K.ipv4Address d.eth) ≠ 0) ∧
      (bitOf (s.reg K.bdpEnable) d.eth = true) ∧
      (d.payload.length ≤ 1472) ∧
      (s.bdpAllows d.src = true) ∧
      (2 ≤ d.payload.length) ∧
      (beAt d.payload 0 2 = 0x4244) ∧
      (s.power.trans = none) ∧
      (s.power.st ≠ .doze) ∧
      (bdpItems d.payload 32 = none) :=
  ⟨{ on with regs := [(K.portLinkState 1, 1), (K.ipv4Address 1, 77)], ctl := { serving := true } }, { eth := 1, src := 5, sport := 9, payload := [0x42, 0x44, 2, 0, 0, 3, 0, 5, 3, 0, 0, 0, 0, 0, 0, 0] }, by decide⟩

theorem witness_BdpFramesAreAnswered_12 : ∃ (s : State) (d : Datagram), (d.eth < 2) ∧
      (d.dport = s.reg K.bdpUdpPort) ∧
      (s.ethOn d.eth = true) ∧
      (s.reg (K.ipv4Address d.eth) ≠ 0) ∧
      (bitOf (s.reg K.bdpEnable) d.eth = true) ∧
      (s.bdpAllows d.src = false ∨ beAt d.payload 0 2 ≠ 0x4244) :=
  ⟨{ on with regs := [(K.portLinkState 1, 1), (K.ipv4Address 1, 77)], ctl := { serving := true } }, { eth := 1, src := 5, sport := 9, payload := [1, 2] }, by decide⟩

theorem witness_BdpFramesAreAnswered_13 : ∃ (s : State) (n : Nat) (x : Session), (s.ctl.sessions = [x]) ∧
      (x.num = n) ∧
      (n ≠ 0) ∧
      (x.last + s.reg K.bdpSessionTimeout * 250000 ≤ s.tick) ∧
      (s.ctl.owner = n) :=
  ⟨{ on with tick := 2000000000, regs := [(K.portLinkState 1, 1), (K.ipv4Address 1, 77)], ctl := { serving := true, sessions := [{ num := 3, seq := 4, kept := [1], last := 0 }], owner := 3, staged := [(K.bdpSessionTimeout, 900)] } }, 3, { num := 3, seq := 4, kept := [1], last := 0 }, by decide⟩

theorem witness_WritesAreCheckedInOrder_1 : ∃ (s : State) (sess idx sub n : Nat) (v : List Byte) (e : Entry), (s.ctl.serving = true) ∧
      (s.faults.stalled = false) ∧
      (sub ≠ 0) ∧
      (present s.mfg idx sub = true) ∧
      (findEntry idx sub = some e) ∧
      (e.acc = .rws) ∧
      (e.ty.size = some n) ∧
      (v.length = n) ∧
      (s.writeGate e sess (256 * idx + sub) = none) ∧
      (e.valueStatus (leNat v) = none) ∧
      (fixedSub (256 * idx + sub) = false) :=
  ⟨on, 3, 0x0120, 3, 4, [0, 4, 0, 0], ⟨0x0120, 3, 3, .u32, .rws, false, 5000, .range 500 600000, .no⟩, by decide⟩

theorem witness_WritesAreCheckedInOrder_2 : ∃ (s : State) (sess idx sub n : Nat) (v : List Byte) (e : Entry), (s.ctl.serving = true) ∧
      (s.faults.stalled = false) ∧
      (sub ≠ 0) ∧
      (present s.mfg idx sub = true) ∧
      (findEntry idx sub = some e) ∧
      (e.acc = .rw) ∧
      (e.ty.size = some n) ∧
      (v.length = n) ∧
      (s.writeGate e sess (256 * idx + sub) = none) ∧
      (e.valueStatus (leNat v) = none) ∧
      (fixedSub (256 * idx + sub) = false) ∧
      (idx ≠ 0x0F02) :=
  ⟨on, 3, 0x0B00, 1, 1, [1], ⟨0x0B00, 1, 1, .bool, .rw, false, 0, .any, .no⟩, by decide⟩

theorem witness_WritesAreCheckedInOrder_3 : ∃ (s : State) (sess idx sub : Nat) (v : List Byte), (s.ctl.serving = false ∨ s.faults.stalled = true) :=
  ⟨State.reset, 3, 0x0120, 3, [], by decide⟩

theorem witness_WritesAreCheckedInOrder_4 : ∃ (s : State) (sess idx sub : Nat) (v : List Byte), (s.ctl.serving = true) ∧
      (s.faults.stalled = false) ∧
      (sub ≠ 0) ∧
      (present s.mfg idx sub = false) :=
  ⟨on, 3, 0x0199, 3, [], by decide⟩

theorem witness_WritesAreCheckedInOrder_5 : ∃ (s : State) (sess idx sub : Nat) (v : List Byte) (e : Entry), (s.ctl.serving = true) ∧
      (s.faults.stalled = false) ∧
      (sub ≠ 0) ∧
      (present s.mfg idx sub = true) ∧
      (findEntry idx sub = some e) ∧
      (e.acc = .ro) :=
  ⟨on, 3, 0x0120, 6, [1], ⟨0x0120, 6, 6, .u8, .ro, false, 0, .any, .no⟩, by decide⟩

theorem witness_WritesAreCheckedInOrder_6 : ∃ (s : State) (sess idx sub n : Nat) (v : List Byte) (e : Entry), (s.ctl.serving = true) ∧
      (s.faults.stalled = false) ∧
      (sub ≠ 0) ∧
      (present s.mfg idx sub = true) ∧
      (findEntry idx sub = some e) ∧
      (e.acc ≠ .ro) ∧
      (e.ty.size = some n) ∧
      (v.length ≠ n) :=
  ⟨on, 3, 0x0120, 3, 4, [1], ⟨0x0120, 3, 3, .u32, .rws, false, 5000, .range 500 600000, .no⟩, by decide⟩

theorem witness_WritesAreCheckedInOrder_7 : ∃ (s : State) (sess idx sub n : Nat) (v : List Byte) (e : Entry), (s.ctl.serving = true) ∧
      (s.faults.stalled = false) ∧
      (sub ≠ 0) ∧
      (present s.mfg idx sub = true) ∧
      (findEntry idx sub = some e) ∧
      (e.acc ≠ .ro) ∧
      (e.ty.size = some n) ∧
      (v.length = n) ∧
      (e.expert = true) ∧
      (s.flag (expertKey idx) = false) :=
  ⟨on, 3, 0x0120, 2, 2, [1, 2], ⟨0x0120, 2, 2, .u16, .rws, true, 30710, .range 1024 65535, .no⟩, by decide⟩

theorem witness_WritesAreCheckedInOrder_8 : ∃ (s : State) (sess idx sub n : Nat) (v : List Byte) (e : Entry), (s.ctl.serving = true) ∧
      (s.faults.stalled = false) ∧
      (sub ≠ 0) ∧
      (present s.mfg idx sub = true) ∧
      (findEntry idx sub = some e) ∧
      (e.acc = .rws) ∧
      (e.ty.size = some n) ∧
      (v.length = n) ∧
      (e.expert = false) ∧
      (s.ctl.owner ≠ 0) ∧
      (s.ctl.owner ≠ sess) :=
  ⟨{ on with ctl := { serving := true, owner := 4 } }, 3, 0x0120, 3, 4, [0, 4, 0, 0], ⟨0x0120, 3, 3, .u32, .rws, false, 5000, .range 500 600000, .no⟩, by decide⟩

theorem witness_WritesAreCheckedInOrder_9 : ∃ (s : State) (sess idx sub n : Nat) (v : List Byte) (e : Entry), (s.ctl.serving = true) ∧
      (s.faults.stalled = false) ∧
      (sub ≠ 0) ∧
      (present s.mfg idx sub = true) ∧
      (findEntry idx sub = some e) ∧
      (e.acc = .rws) ∧
      (e.ty.size = some n) ∧
      (v.length = n) ∧
      (e.expert = false) ∧
      (s.ctl.owner = 0 ∨ s.ctl.owner = sess) ∧
      (s.committing = true) :=
  ⟨{ on with ctl := { serving := true, owner := 3, phase := .waiting } }, 3, 0x0120, 3, 4, [0, 4, 0, 0], ⟨0x0120, 3, 3, .u32, .rws, false, 5000, .range 500 600000, .no⟩, by decide⟩

theorem witness_WritesAreCheckedInOrder_10 : ∃ (s : State) (sess idx sub n st : Nat) (v : List Byte) (e : Entry), (s.ctl.serving = true) ∧
      (s.faults.stalled = false) ∧
      (sub ≠ 0) ∧
      (present s.mfg idx sub = true) ∧
      (findEntry idx sub = some e) ∧
      (e.acc = .rws ∨ e.acc = .rw) ∧
      (e.ty.size = some n) ∧
      (v.length = n) ∧
      (s.writeGate e sess (256 * idx + sub) = none) ∧
      (e.valueStatus (leNat v) = some st) :=
  ⟨on, 3, 0x0120, 3, 4, Status.valueRange, [1, 0, 0, 0], ⟨0x0120, 3, 3, .u32, .rws, false, 5000, .range 500 600000, .no⟩, by decide⟩

theorem witness_CommitsApplyTogether_1 : ∃ (s : State) (sess : Nat), (s.gate sess K.commitControl = none) ∧
      (s.power.st = .run ∨ s.power.st = .ready) ∧
      (s.ctl.phase = .idle) ∧
      (s.ctl.staged = []) ∧
      (s.ctl.stagedBlobs = []) :=
  ⟨on, 0, by decide⟩

theorem witness_CommitsApplyTogether_2 : ∃ (s : State) (sess : Nat), (s.gate sess K.commitControl = none) ∧
      (s.power.st = .run ∨ s.power.st = .ready) ∧
      (s.ctl.phase = .idle) ∧
      (s.ctl.staged ≠ [] ∨ s.ctl.stagedBlobs ≠ []) :=
  ⟨{ on with ctl := { serving := true, staged := [(K.bdpSessionTimeout, 900)] } }, 0, by decide⟩

theorem witness_CommitsApplyTogether_3 : ∃ (s : State) (sess : Nat), (s.gate sess K.commitControl = none) ∧
      (s.power.st = .run ∨ s.power.st = .ready) ∧
      (s.ctl.phase = .idle) :=
  ⟨{ on with ctl := { serving := true, staged := [(K.bdpSessionTimeout, 900)] } }, 0, by decide⟩

theorem witness_CommitsApplyTogether_4 : ∃ (s : State) (sess : Nat), (s.gate sess K.discard = none) :=
  ⟨{ on with ctl := { serving := true, owner := 3, staged := [(K.bdpSessionTimeout, 900)] } }, 3, by decide⟩

theorem witness_CommitsApplyTogether_5 : ∃ (s : State), (s.ctl.phase = .checking true) :=
  ⟨{ on with ctl := { serving := true, phase := .checking true, staged := [(K.bdpSessionTimeout, 900)] } }, by decide⟩

set_option maxRecDepth 20000 in
theorem witness_CommitsApplyTogether_6 : ∃ (s : State) (f : Fail), (s.ctl.phase = .checking false) ∧
      (s.ctl.staged ≠ [] ∨ s.ctl.stagedBlobs ≠ []) ∧
      (s.commitFailures.head? = some f) ∧
      (f.status ≠ Status.ok) :=
  ⟨{ on with ctl := { serving := true, owner := 3, phase := .checking false, staged := [(K.encoderSamplePeriod, 10)] } }, { step := 1, status := 261, cls := 0, num := 0, fa := 255, ka := 131585, fb := 255, kb := 1049857, also := [131329, 1050113, 1049089, 1050881, 1050369] }, by decide⟩

set_option maxRecDepth 20000 in
theorem witness_CommitsApplyTogether_7 : ∃ (s : State), (s.ctl.phase = .checking false) ∧
      (s.ctl.staged ≠ [] ∨ s.ctl.stagedBlobs ≠ []) ∧
      (s.commitFailures = []) ∧
      (s.commitWaits = true) :=
  ⟨{ on with belt := { st := .forward }, regs := [(K.contextPlanSlot 0, 0)], engine := { ctxs := [(0, { st := .running, plan := some {} })] }, ctl := { serving := true, phase := .checking false, staged := [(K.contextPlanSlot 0, 0xFF)] } }, by decide +kernel⟩

set_option maxRecDepth 20000 in
theorem witness_CommitsApplyTogether_8 : ∃ (s : State), (s.ctl.phase = .checking false) ∧
      (s.ctl.staged ≠ [] ∨ s.ctl.stagedBlobs ≠ []) ∧
      (s.commitFailures = []) ∧
      (s.commitWaits = false) :=
  ⟨{ on with ctl := { serving := true, phase := .checking false, staged := [(K.bdpSessionTimeout, 900)] } }, by decide⟩

set_option maxRecDepth 20000 in
theorem witness_CommitsApplyTogether_9 : ∃ (s : State), (s.ctl.phase = .waiting) ∧
      (s.ctl.staged ≠ [] ∨ s.ctl.stagedBlobs ≠ []) ∧
      (s.formIbp.stripeDue = true) :=
  ⟨{ on with belt := { st := .forward }, regs := [(K.contextPlanSlot 0, 0)], engine := { ctxs := [(0, { st := .running, plan := some {} })] }, ctl := { serving := true, phase := .waiting, staged := [(K.contextPlanSlot 0, 0xFF)] } }, by decide +kernel⟩

set_option maxRecDepth 20000 in
theorem witness_CommitsApplyTogether_10 : ∃ (s : State), (s.ctl.phase = .waiting) ∧
      (s.ctl.staged ≠ [] ∨ s.ctl.stagedBlobs ≠ []) ∧
      (s.formIbp.stripeDue = false) :=
  ⟨{ on with ctl := { serving := true, phase := .waiting, staged := [(K.contextPlanSlot 0, 0xFF)] } }, by decide +kernel⟩

theorem witness_CommitsApplyTogether_11 : ∃ (s : State), (s.ctl.phase = .checking false) ∧
      (s.ctl.staged = []) ∧
      (s.ctl.stagedBlobs = []) :=
  ⟨{ on with ctl := { serving := true, phase := .checking false } }, by decide⟩

theorem witness_AbsentUnitsStop_1 : ∃ (s : State) (n : Nat), (s.mfg.part.links ≤ n) :=
  ⟨{ on with mfg := { part := .brl7121 } }, 12, by decide⟩

theorem witness_AbsentUnitsStop_2 : ∃ (s : State) (n : Nat), (s.mfg.part.memDies ≤ n / 16) :=
  ⟨{ on with mfg := { part := .brl7121 } }, 32, by decide⟩

theorem witness_AbsentUnitsStop_3 : ∃ (s : State) (n : Nat), (4 ≤ n) :=
  ⟨on, 4, by decide⟩

theorem witness_AbsentUnitsStop_4 : ∃ (s : State) (n : Nat), (4 ≤ n) :=
  ⟨on, 4, by decide⟩

theorem witness_AbsentUnitsStop_5 : ∃ (s : State) (n : Nat), (2 ≤ n) :=
  ⟨on, 2, by decide⟩

theorem witness_AbsentUnitsStop_6 : ∃ (s : State) (n : Nat), (2 ≤ n) :=
  ⟨on, 2, by decide⟩

theorem witness_AbsentUnitsStop_7 : ∃ (s : State) (n : Nat), (2 ≤ n) :=
  ⟨on, 2, by decide⟩

theorem witness_AbsentUnitsStop_8 : ∃ (s : State) (n : Nat), (2 ≤ n) :=
  ⟨on, 2, by decide⟩

theorem witness_AbsentUnitsStop_9 : ∃ (s : State) (n : Nat), (16384 ≤ n) :=
  ⟨on, 16384, by decide⟩

theorem witness_AbsentUnitsStop_10 : ∃ (s : State) (n : Nat), (64 ≤ n) :=
  ⟨on, 64, by decide⟩

theorem witness_AbsentUnitsStop_11 : ∃ (s : State) (n : Nat), (16 ≤ n) :=
  ⟨on, 16, by decide⟩

theorem witness_AbsentUnitsStop_12 : ∃ (s : State) (i : Nat) (p : Packet), (16 ≤ i ∨ s.mfg.part.links ≤ p.link) :=
  ⟨on, 16, { link := 0, tag := 0, size := 0, crcOk := true, codeError := false, parts := [] }, by decide⟩

theorem witness_AbsentUnitsStop_13 : ∃ (s : State) (n : Nat), (4 ≤ n) :=
  ⟨on, 4, by decide⟩

theorem witness_AbsentUnitsStop_14 : ∃ (s : State) (n : Nat), (1152 ≤ n) :=
  ⟨on, 1152, by decide⟩

theorem witness_AbsentUnitsStop_15 : ∃ (s : State) (n : Nat), (2 ≤ n) :=
  ⟨on, 2, by decide⟩

theorem witness_AbsentUnitsStop_16 : ∃ (s : State) (n : Nat), (16 ≤ n) :=
  ⟨on, 16, by decide⟩

theorem witness_AbsentUnitsStop_17 : ∃ (s : State) (n : Nat), (2 ≤ n) :=
  ⟨on, 2, by decide⟩

theorem witness_AbsentUnitsStop_18 : ∃ (s : State) (n : Nat), (2 ≤ n) :=
  ⟨on, 2, by decide⟩

theorem witness_AbsentUnitsStop_19 : ∃ (s : State) (n : Nat), (32 ≤ n) :=
  ⟨on, 32, by decide⟩

theorem witness_AbsentUnitsStop_20 : ∃ (s : State) (n : Nat), (128 ≤ n) :=
  ⟨on, 128, by decide⟩

theorem witness_AbsentUnitsStop_21 : ∃ (s : State) (n : Nat), (8 ≤ n) :=
  ⟨on, 8, by decide⟩

theorem witness_AbsentUnitsStop_22 : ∃ (s : State) (n : Nat), (4 * s.mfg.part.ioDies ≤ n) :=
  ⟨{ on with mfg := { part := .brl7121 } }, 4, by decide⟩

theorem witness_AbsentUnitsStop_23 : ∃ (s : State) (n : Nat), (n = 0 ∨ 4 < n) :=
  ⟨on, 5, by decide⟩

theorem witness_AbsentUnitsStop_24 : ∃ (s : State) (n : Nat), (n = 0 ∨ 2 + s.mfg.part.ioDies < n) :=
  ⟨{ on with mfg := { part := .brl7121 } }, 4, by decide⟩

theorem witness_QueueHeadsMove_1 : ∃ (s : State) (w v n : Nat), (w < 2) ∧
      ((s.port w).st = .up) ∧
      (s.usbOn = true) ∧
      (n = bits v 5 0) ∧
      ((s.queue n).port = some w) ∧
      (((s.queue n).written + 2 ^ 32 - bits v 63 32) % 2 ^ 32 ≤ ((s.queue n).written + 2 ^ 32 - (s.queue n).head) % 2 ^ 32) :=
  ⟨{ on with host := { ports := [(1, { st := .up })], queues := [(4, { st := .enabled, port := some 1, written := 9, head := 9 })] } }, 1, 9 * 2 ^ 32 + 4, 4, by decide⟩

theorem witness_QueueHeadsMove_2 : ∃ (s : State) (w v n : Nat), (w < 2) ∧
      ((s.port w).st = .up) ∧
      (s.usbOn = true) ∧
      (n = bits v 5 0) ∧
      ((s.queue n).port = some w) ∧
      (¬((s.queue n).written + 2 ^ 32 - bits v 63 32) % 2 ^ 32 ≤ ((s.queue n).written + 2 ^ 32 - (s.queue n).head) % 2 ^ 32) :=
  ⟨{ on with host := { ports := [(1, { st := .up })], queues := [(4, { st := .enabled, port := some 1, written := 9, head := 9 })] } }, 1, 10 * 2 ^ 32 + 4, 4, by decide⟩

theorem witness_FaultRecordsAreLimited_1 : ∃ (s : State) (code : Nat) (scope : Scope) (src ctx detail : Nat), (0x0100 ≤ code) ∧
      (code < 0x0B00) ∧
      (logOnlyFaults.contains code = false) ∧
      ((if SMap.get 0 s.faults.rateSec code = s.localTime / 1000000000 then SMap.get 0 s.faults.rateCount code else 0) < 1000) :=
  ⟨on, 0x0103, .report, 1, 0, 7, by decide⟩

theorem witness_FaultRecordsAreLimited_2 : ∃ (s : State) (code : Nat) (scope : Scope) (src ctx detail : Nat), (0x0100 ≤ code) ∧
      (code < 0x0B00) ∧
      (logOnlyFaults.contains code = false) ∧
      (SMap.get 0 s.faults.rateSec code = s.localTime / 1000000000) ∧
      (1000 ≤ SMap.get 0 s.faults.rateCount code) :=
  ⟨{ on with faults := { rateSec := [(0x0103, 0)], rateCount := [(0x0103, 1000)] } }, 0x0103, .report, 1, 0, 7, by decide⟩

theorem witness_FaultRecordsAreLimited_3 : ∃ (s : State) (code : Nat) (scope : Scope) (src ctx detail : Nat), (logOnlyFaults.contains code = true) :=
  ⟨on, 0x0201, .reset, 1, 0, 7, by decide⟩

theorem witness_FaultRecordsAreLimited_4 : ∃ (s : State) (code : Nat) (scope : Scope) (src ctx detail : Nat), (0x0100 ≤ code) ∧
      (code < 0x0B00) :=
  ⟨on, 0x0103, .report, 1, 0, 7, by decide⟩

theorem witness_FaultRecordsAreLimited_5 : ∃ (s : State) (code src detail : Nat) (scope : Scope) (ctx : Nat), (0x0100 ≤ code) ∧
      (code < 0x0B00) ∧
      (s.faults.recovery = none) ∧
      ((s.noteFault code scope src ctx detail).1 = none) :=
  ⟨{ on with faults := { rateSec := [(0x0103, 0)], rateCount := [(0x0103, 1000)] } }, 0x0103, 1, 7, .report, 0, by decide⟩

/-- Commands whose operand breaks the bound 65536 are not well formed (on the smallest assembly). -/
theorem test_wf_below_65536_1 :
    ([.beltReorigin 65536 0,
      .bdpSessionTimeout 65536,
      .dictionaryWrite 65536 0 0 [],
      .dictionaryWrite 0 65536 0 [],
      .commit 65536,
      .checkOnly 65536,
      .discard 65536,
      .fieldBankReset 65536 0,
      .eyeScan 65536 0,
      .streamRestart 65536 0,
      .cameraRegRead 65536,
      .cameraRegWrite 65536,
      .paramSetSwitch 65536 0,
      .arrayRetest 65536 0,
      .arrayRetest 0 65536,
      .arrayRetire 65536 0,
      .arrayRetire 0 65536,
      .arrayRestore 65536 0,
      .arrayRestore 0 65536,
      .planUploadBegin 65536 0,
      .planUploadData 65536 [],
      .planUploadEnd 65536 0,
      .planSlotClear 65536 0,
      .flush 65536,
      .valveTestPulse 65536 0,
      .fireErrorClear 65536,
      .sensorSupplyReset 65536,
      .outputFaultClear 65536 0,
      .generalOutputLevel 65536 0 0,
      .aliveStop 65536,
      .aliveStart 65536,
      .encoderSupplyReset 65536 0,
      .uncorrectableLogClear 65536,
      .hwinRegisterWrite 0 65536 0,
      .contextReset 65536 0,
      .deviceRecover 65536,
      .faultLogClear 65536,
      .faultLogNvClear 65536,
      .powerTargetRun 65536,
      .powerTargetReady 65536] : List Instr).all (fun c => !c.wf .brl7121) = true := by decide

/-- Commands whose operand breaks the bound 65536 are not well formed (on the smallest assembly). -/
theorem test_wf_below_65536_2 :
    ([.powerTargetDoze 65536,
      .powerTargetRetain 65536,
      .powerTargetStandby 65536,
      .replanNow 65536,
      .counterStart 65536,
      .counterStop 65536,
      .counterClear 65536,
      .counterSnapshot 65536,
      .bandwidthClear 65536,
      .sampleLogClear 65536,
      .blobUploadBegin 65536 0,
      .blobUploadData 65536 [],
      .blobUploadEnd 65536 0,
      .blobSlotClear 65536 0,
      .attestRequest 65536,
      .statisticsClear 65536 0,
      .statisticsClear 0 65536] : List Instr).all (fun c => !c.wf .brl7121) = true := by decide

/-- Commands whose operand breaks the bound 2 ^ 64 are not well formed (on the smallest assembly). -/
theorem test_wf_below_2_to_64 :
    ([.beltReorigin 0 18446744073709551616,
      .hwinRegisterWrite 0 0 18446744073709551616,
      .hwinErrorClear 0 18446744073709551616,
      .hwinRingDoorbell 0 18446744073709551616,
      .hwinEvqHead 0 18446744073709551616,
      .hwinImgRelease 0 18446744073709551616,
      .hwinMbxDoorbell 0 18446744073709551616,
      .hwinPortAdopt 0 18446744073709551616] : List Instr).all (fun c => !c.wf .brl7121) = true := by decide

/-- Commands whose operand breaks the bound 256 are not well formed (on the smallest assembly). -/
theorem test_wf_below_256 :
    ([.dictionaryWrite 0 0 256 [],
      .fieldBankReset 0 256,
      .eyeScan 0 256,
      .streamRestart 0 256,
      .paramSetSwitch 0 256,
      .planUploadEnd 0 256,
      .planSlotClear 0 256,
      .outputFaultClear 0 256,
      .generalOutputLevel 0 0 256,
      .encoderSupplyReset 0 256,
      .contextReset 0 256,
      .blobUploadEnd 0 256,
      .blobSlotClear 0 256] : List Instr).all (fun c => !c.wf .brl7121) = true := by decide

/-- Commands whose operand breaks the bound 4 are not well formed (on the smallest assembly). -/
theorem test_wf_below_4 :
    ([.fieldBankTrip 4 0,
      .fieldBankSupplyChange 4 0,
      .valveLinkLockGained 4,
      .valveLinkLockLost 4,
      .valveLinkKeepalive 4,
      .strobe 4,
      .valveLinkIdent 4 { typ := 0, payload := [] },
      .valveLinkEcho 4,
      .valveLinkStatus 4 { typ := 0, payload := [] },
      .edgeStamp 4 { typ := 0, payload := [] },
      .driverFault 4 { typ := 0, payload := [] },
      .testEcho 4 { typ := 0, payload := [] },
      .testFrameSend 4,
      .controlFrameRetransmit 4,
      .identTimeout 4,
      .statusTimeout 4,
      .cableDelayRemeasure 4,
      .valveLinkBringupRetry 4,
      .tetherPortTrained 4,
      .operand 4 { seq := 0, src := 1, dest := 0 },
      .tetherWrite 4 { seq := 0, src := 1, dest := 0 },
      .readReq 4 { seq := 0, src := 1, dest := 0 },
      .readComp 4 { seq := 0, src := 1, dest := 0 },
      .knotOp 4 { seq := 0, src := 1, dest := 0 },
      .knotReply 4 { seq := 0, src := 1, dest := 0 },
      .errorComp 4 { seq := 0, src := 1, dest := 0 },
      .tetherHeartbeat 4 { seq := 0, src := 1, dest := 0 },
      .hello 4 { seq := 0, src := 1, dest := 0 } {},
      .ack 4 { seq := 0, src := 1, dest := 0 },
      .tetherRetransmit 4,
      .tetherHeartbeatSend 4,
      .tetherPacketDiscarded 4 { seq := 0, src := 1, dest := 0 },
      .valveLinkFrameDiscarded 4 { typ := 0, payload := [] },
      .groupStop 4 { seq := 0, src := 1, dest := 0 },
      .tetherTestPattern 4 0] : List Instr).all (fun c => !c.wf .brl7121) = true := by decide

/-- Commands whose operand breaks the bound a.links are not well formed (on the smallest assembly). -/
theorem test_wf_below_a_links :
    ([.softStartDone 12,
      .loadSenseRetry 12 0,
      .cameraBootTimeExpiry 12,
      .wordLockGained 12,
      .wordLockLost 12,
      .retrainTimeout 12,
      .rateLockTimeout 12,
      .connectionTestEnd 12 0,
      .controlAcknowledgment 12 {},
      .controlAckTimeout 12,
      .streamPacket 0 { tag := 0, link := 12, size := 0, crcOk := true, codeError := false, parts := [] },
      .cameraPowerOverload 12 0,
      .cameraPowerFastTrip 12 0,
      .unsupportedPacket 12,
      .linkTestPattern 12 0] : List Instr).all (fun c => !c.wf .brl7121) = true := by decide

/-- Commands whose operand breaks the bound 16 are not well formed (on the smallest assembly). -/
theorem test_wf_streams_contexts :
    ([.identificationRetry 16,
      .triggerPacket 16,
      .streamPacket 16 { tag := 0, link := 0, size := 0, crcOk := true, codeError := false, parts := [] },
      .eventPacket 16 { heartbeat := true },
      .heartbeatTimeout 16,
      .streamDisableDrainEnd 16,
      .paramSetTakesForce 16,
      .kernelStart 16 0 0 {},
      .kernelEnd 16 0 0,
      .stepStart 16 0,
      .stepEnd 16 0,
      .teardownEnd 16] : List Instr).all (fun c => !c.wf .brl7121) = true := by decide

/-- Commands whose operand breaks the bound 65 are not well formed (on the smallest assembly). -/
theorem test_wf_below_65 :
    ([.eyeScanDone [] 65 0,
      .eyeScanDone [] 0 65] : List Instr).all (fun c => !c.wf .brl7121) = true := by decide

/-- Commands whose operand breaks the bound 4 * a.ioDies are not well formed (on the smallest assembly). -/
theorem test_wf_below_4_times_a_ioDies :
    ([.pipelineStripeStart 4 []] : List Instr).all (fun c => !c.wf .brl7121) = true := by decide

/-- Commands whose operand breaks the bound 16384 are not well formed (on the smallest assembly). -/
theorem test_wf_below_16384 :
    ([.jpegDecode 16384 [],
      .fenceRelease 16384,
      .ringCommandComplete 16384,
      .ringNop 16384,
      .copyToDevice 16384 [],
      .copyFromDevice 16384,
      .planLoad 16384 [],
      .jobSubmit 16384,
      .knotAdd 16384,
      .knotSub 16384,
      .knotWait 16384,
      .knotRead 16384,
      .knotInit 16384,
      .fence 16384] : List Instr).all (fun c => !c.wf .brl7121) = true := by decide

/-- Commands whose operand breaks the bound 2 ^ 32 are not well formed (on the smallest assembly). -/
theorem test_wf_below_2_to_32 :
    ([.planUploadBegin 0 4294967296,
      .valveTestPulse 0 4294967296,
      .arpRequest 0 4294967296 0 0,
      .arpRequest 0 0 0 4294967296,
      .arpReply 0 { ip := 4294967296, mac := 0 } 0,
      .arpReply 0 { ip := 0, mac := 0 } 4294967296,
      .arpCacheExpiry 0 4294967296,
      .icmpEchoRequest 0 4294967296 0 [],
      .icmpEchoRequest 0 0 4294967296 [],
      .blobUploadBegin 0 4294967296] : List Instr).all (fun c => !c.wf .brl7121) = true := by decide

/-- Commands whose operand breaks the bound 2 are not well formed (on the smallest assembly). -/
theorem test_wf_below_2_1 :
    ([.slotStart 2 0 0,
      .encoderSupplyTrip 2 0,
      .auxSample 2 { bits := 0 },
      .tunnelUp 2,
      .tunnelLost 2,
      .tunnelHoldExpiry 2,
      .functionLevelReset 2,
      .hwinRegisterWrite 2 0 0,
      .hwinErrorClear 2 0,
      .ringEnable 2,
      .ringDisable 2,
      .hwinRingDoorbell 2 0,
      .evqEnable 2,
      .evqDisable 2,
      .hwinEvqHead 2 0,
      .hwinImgRelease 2 0,
      .hwinMbxDoorbell 2 0,
      .hwinPortAdopt 2 0,
      .portLinkChange 2 true 0,
      .arpRequest 2 0 0 0,
      .arpReply 2 { ip := 0, mac := 0 } 0,
      .arpCacheExpiry 2 0,
      .icmpEchoRequest 2 0 0 [],
      .sync { eth := 2, domain := 0, source := 0, sourcePort := 0, seq := 0, transport := 0 },
      .sync { eth := 0, domain := 0, source := 0, sourcePort := 0, seq := 0, transport := 2 },
      .followUp { eth := 2, domain := 0, source := 0, sourcePort := 0, seq := 0, transport := 0 },
      .followUp { eth := 0, domain := 0, source := 0, sourcePort := 0, seq := 0, transport := 2 },
      .delayResp { eth := 2, domain := 0, source := 0, sourcePort := 0, seq := 0, transport := 0 },
      .delayResp { eth := 0, domain := 0, source := 0, sourcePort := 0, seq := 0, transport := 2 },
      .pdelayReq { eth := 2, domain := 0, source := 0, sourcePort := 0, seq := 0, transport := 0 },
      .pdelayReq { eth := 0, domain := 0, source := 0, sourcePort := 0, seq := 0, transport := 2 },
      .pdelayResp { eth := 2, domain := 0, source := 0, sourcePort := 0, seq := 0, transport := 0 },
      .pdelayResp { eth := 0, domain := 0, source := 0, sourcePort := 0, seq := 0, transport := 2 },
      .pdelayRespFollowUp { eth := 2, domain := 0, source := 0, sourcePort := 0, seq := 0, transport := 0 },
      .pdelayRespFollowUp { eth := 0, domain := 0, source := 0, sourcePort := 0, seq := 0, transport := 2 },
      .announce 2 { domain := 0, priority1 := 0, clockClass := 0, accuracy := 0, variance := 0, priority2 := 0, grandmaster := 0, stepsRemoved := 0, sender := 0, senderPort := 0, transport := 0 },
      .announce 0 { domain := 0, priority1 := 0, clockClass := 0, accuracy := 0, variance := 0, priority2 := 0, grandmaster := 0, stepsRemoved := 0, sender := 0, senderPort := 0, transport := 2 },
      .delayReqSend 2,
      .pdelayReqSend 2,
      .syncLossTimeout 2] : List Instr).all (fun c => !c.wf .brl7121) = true := by decide

/-- Commands whose operand breaks the bound 2 are not well formed (on the smallest assembly). -/
theorem test_wf_below_2_2 :
    ([.freezeLimit 2 0,
      .checkpointLate 2 0,
      .usb4LinkChange 2 true 0,
      .ethernetFrameDropped 2,
      .ptpMessageIgnored 2] : List Instr).all (fun c => !c.wf .brl7121) = true := by decide

/-- Commands whose operand breaks the bound 1152 are not well formed (on the smallest assembly). -/
theorem test_wf_below_1152 :
    ([.minOnTimeClose 1152,
      .maxOnTimeExpiry 1152,
      .splitReopen 1152] : List Instr).all (fun c => !c.wf .brl7121) = true := by decide

/-- Commands whose operand breaks the bound 128 are not well formed (on the smallest assembly). -/
theorem test_wf_below_128 :
    ([.readbackEdge 128 true,
      .outputReadbackCheck 128,
      .currentLimitExpiry 128,
      .externalVoltageDetect 128,
      .externalVoltageClear 128,
      .openLoadDetect 128,
      .generalOutputLevel 0 128 0] : List Instr).all (fun c => !c.wf .brl7121) = true := by decide

/-- Commands whose operand breaks the bound 32 are not well formed (on the smallest assembly). -/
theorem test_wf_below_32 :
    ([.inputRawEdge 32 true,
      .inputFilterExpiry 32,
      .pulseWindowEnd 32 true] : List Instr).all (fun c => !c.wf .brl7121) = true := by decide

/-- Commands whose operand breaks the bound a.memDies are not well formed (on the smallest assembly). -/
theorem test_wf_below_a_memDies :
    ([.linkSlotStart 32 0 0,
      .memoryRead 32 { seq := 0 },
      .memoryWrite 32 { seq := 0 },
      .refresh 32 { seq := 0 },
      .scrub 32 { seq := 0 },
      .recal 32 0,
      .nop 32 { seq := 0 },
      .replay 32 { seq := 0 },
      .upstreamFrameLanded 32 { seq := 0 },
      .nakResend 32 { seq := 0 },
      .recalOverdue 32 0,
      .externalTransfer 32 0 true 0 [],
      .downstreamCrcFailure 32 { seq := 0 }] : List Instr).all (fun c => !c.wf .brl7121) = true := by decide

/-- Commands whose operand breaks the bound 8 are not well formed (on the smallest assembly). -/
theorem test_wf_below_8 :
    ([.memberLost 8,
      .helloTimeout 8] : List Instr).all (fun c => !c.wf .brl7121) = true := by decide

/-- Commands whose operand breaks the bound 64 are not well formed (on the smallest assembly). -/
theorem test_wf_below_64 :
    ([.evqTimeThreshold 64] : List Instr).all (fun c => !c.wf .brl7121) = true := by decide

/-- Commands whose operand breaks the bound entry are not well formed (on the smallest assembly). -/
theorem test_wf_below_entry :
    ([.ringFetch []] : List Instr).all (fun c => !c.wf .brl7121) = true := by decide

/-- Commands whose operand breaks the bound 2 ^ 48 are not well formed (on the smallest assembly). -/
theorem test_wf_below_2_to_48 :
    ([.arpRequest 0 0 281474976710656 0,
      .arpReply 0 { ip := 0, mac := 281474976710656 } 0,
      .member0Bc 281474976710656] : List Instr).all (fun c => !c.wf .brl7121) = true := by decide

/-- Commands whose operand breaks the bound ≥1 helper are not well formed (on the smallest assembly). -/
theorem test_wf_helper_low :
    ([.helperHalted 0] : List Instr).all (fun c => !c.wf .brl7121) = true := by decide

/-- Commands whose operand breaks the bound ≤ 4 are not well formed (on the smallest assembly). -/
theorem test_wf_helper :
    ([.helperHalted 5] : List Instr).all (fun c => !c.wf .brl7121) = true := by decide

/-- Commands whose operand breaks the bound ≥1 path are not well formed (on the smallest assembly). -/
theorem test_wf_path_low :
    ([.dieTransport 0] : List Instr).all (fun c => !c.wf .brl7121) = true := by decide

/-- Commands whose operand breaks the bound ≤ 2 + a.ioDies are not well formed (on the smallest assembly). -/
theorem test_wf_below_2_a_ioDies :
    ([.dieTransport 4] : List Instr).all (fun c => !c.wf .brl7121) = true := by decide

/-- Commands whose operand breaks the bound 5 are not well formed (on the smallest assembly). -/
theorem test_wf_below_5 :
    ([.wakeEvent 5] : List Instr).all (fun c => !c.wf .brl7121) = true := by decide

/-- A BDP frame without items: the 16-byte header of R70 with an opcode. -/
def bdpHeader (eth op : Nat) : Datagram :=
  { eth, src := 1, sport := 2, payload := [0x42, 0x44, 1, 0, 0, 0, 0, 1, BitVec.ofNat 8 op, 0, 0, 0, 0, 0, 0, 0] }

/-- The frames of R70 are well formed as the row of their opcode, and as no other row. -/
theorem test_wf_bdp_rows :
    (Instr.bdpOpen (bdpHeader 1 1)).wf .brl7121 = true ∧ (Instr.bdpClose (bdpHeader 1 2)).wf .brl7121 = true ∧
      (Instr.bdpRead (bdpHeader 1 3)).wf .brl7121 = true ∧ (Instr.bdpWrite (bdpHeader 1 4)).wf .brl7121 = true ∧
      (Instr.bdpKeepalive (bdpHeader 1 5)).wf .brl7121 = true ∧
      (Instr.bdpOpcodeUnknown (bdpHeader 1 6)).wf .brl7121 = true ∧
      (Instr.bdpFrameMalformed { bdpHeader 1 3 with payload := [0x42, 0x44, 1] }).wf .brl7121 = true := by decide

/-- A frame on an absent port, of another magic, of another opcode or with a sound header where the row is that of a
malformed one is not well formed. -/
theorem test_wf_bdp_ill_formed :
    ([.bdpOpen (bdpHeader 2 1), .bdpOpen (bdpHeader 1 2), .bdpClose (bdpHeader 1 1), .bdpRead (bdpHeader 1 4),
      .bdpWrite (bdpHeader 1 3), .bdpKeepalive (bdpHeader 1 1), .bdpOpcodeUnknown (bdpHeader 1 5),
      .bdpFrameMalformed (bdpHeader 1 3), .bdpOpen { bdpHeader 1 1 with payload := [0x42] },
      .bdpFrameMalformed { bdpHeader 1 1 with payload := [0x42, 0x45, 1] }] : List Instr).all
        (fun c => !c.wf .brl7121) = true := by decide

/-! ### Shared operations, with results worked out from the rules -/

/-- R14: the word 5 after 0xFFFFFFFE is 7 counts on; the way back is 7 counts back. -/
theorem test_unwrap : unwrap 32 5 0xFFFFFFFE = 7 ∧ unwrap 32 0xFFFFFFFE 5 = -7 := by decide

/-- R302: the Gray word 1101 is binary 1001. -/
theorem test_gray : grayDecode 4 0b1101 = 0b1001 := by decide

/-- R104: ties go away from zero. -/
theorem test_round : roundDiv 5 2 = 3 ∧ roundDiv (-5) 2 = -3 ∧ roundDiv 4 3 = 1 := by decide

/-- R152: 1 + 2^-24 lies halfway between two binary32 values and goes away from zero; a subnormal result is zero. -/
theorem test_f32_ties_away : f32add 0x3F800000 0x33800000 = 0x3F800001 ∧ f32mul 0x00800000 0x3F000000 = 0 := by decide

/-- R311: with two dies, image offset 3 × 4,096 + 5 lies one stride up, at offset 4,096 + 5 of its die. -/
theorem test_die_offset : dieOffset (3 * 4096 + 5) 2 = 4096 + 5 := by decide

/-- R310: link code 0x2B is MD2.L11, which joins CD1. -/
theorem test_link_code : linkDie 0x2B = 2 ∧ linkCompute 0x2B = 1 := by decide

/-- R471: a 32-bit counter wraps to 0. -/
theorem test_counter_wraps :
    (({ on with regs := [(K.samplesRejected, 2 ^ 32 - 1)] } : State).bump K.samplesRejected).reg K.samplesRejected = 0 := by
  decide

/-- R10: a record is 32 bytes, the Sequence first and the payload last, both little-endian. -/
theorem test_record_bytes :
    ({ typ := 4, src := 1, pos := 7, time := 9, payload := 0x0103 } : Rec).bytes 2 =
      [2, 0, 0, 0, 4, 1, 0xFF, 0, 7, 0, 0, 0, 0, 0, 0, 0, 9, 0, 0, 0, 0, 0, 0, 0, 3, 1, 0, 0, 0, 0, 0, 0] := by decide

/-- R23 to R24: line 3 with LinePitch 2.5 bc from origin 100 stands at 107.5 bc. -/
theorem test_line_position :
    ({ on with regs := [(K.linePitch, 163840), (K.lineOriginPosition, 100)] } : State).linePos 3 = 100 * 65536 + 7 * 65536 + 32768 := by
  decide

/-- R1: AssemblyCode reads the part that manufacture wrote. -/
theorem test_assembly_code : State.reset.reg K.assemblyCode = 0x62 := by decide

/-- The table gives the rows of this block no bits: no word spells a command. -/
theorem test_no_word : decodeTableWord 32 0 = none ∧ (on.withFetchWord 32 0).pending = [] := by decide

/-- A step takes one command from the front of the queue (R16 gives the row its effect). -/
theorem test_step_takes_one :
    (match step { on with pending := [.beltLost, .encoderSampleLatch] } with
     | .next t => t.pending
     | _ => []) = [.encoderSampleLatch] := by decide

end Sys2Proof.Tests
end

section
/-! PROOFS. The statements on every command and every step (InvariantAtReset, InvariantKept, WellFormedCommandsRun,
AbsentUnitsStop), on BeltReorigin and on the checks of a dictionary write. Every row either runs or stands behind one guard
on the unit that it names, and every row has a frame (Laws/Frame*); the statements on commands rest on these two facts. -/

namespace Sys2Proof.Machine

/-! ### Guards on the units that an assembly carries -/

theorem guardUnit_carried {ok : Bool} (h : ok = true) (n : Nat) (f : State) : guardUnit ok n f = .next f := by
  simp [guardUnit, h]

theorem guardUnit_absent {ok : Bool} (h : ok = false) (n : Nat) (f : State) :
    guardUnit ok n f = .fault (.absentUnit n) := by
  simp [guardUnit, h]

/-- The units of a kind are numbered from 0: a number past the last names none. -/
theorem guardUnit_of_le {m k : Nat} (h : m ≤ k) (n : Nat) (f : State) :
    guardUnit (decide (k < m)) n f = .fault (.absentUnit n) :=
  guardUnit_absent (decide_eq_false (Nat.not_lt.2 h)) n f

/-- The die-to-die paths of an assembly: three, and a fourth with the second I/O die (R407). -/
theorem dieTransport_guard (p : Part) (n : Nat) :
    (decide (1 ≤ n) && (decide (n ≤ 3) || (n == 4 && p.ioDies == 2))) =
      (decide (1 ≤ n) && decide (n ≤ 2 + p.ioDies)) := by
  have hdies : p.ioDies = 1 ∨ p.ioDies = 2 := by cases p <;> decide
  rw [Bool.eq_iff_iff]
  simp only [Bool.and_eq_true, Bool.or_eq_true, decide_eq_true_eq, beq_iff_eq]
  omega

/-- Every row has a frame. -/
theorem exec_changes {c : Instr} {s t : State} (h : exec c s = .next t) : ∃ G E, Changes G E s t := by
  cases c with
  | encoderSampleLatch => exact ⟨_, _, execEncoderSampleLatch_changes s h⟩
  | sampleComplete r => exact ⟨_, _, execSampleComplete_changes r s h⟩
  | holdoverEntry => exact ⟨_, _, execHoldoverEntry_changes s h⟩
  | beltLost => exact ⟨_, _, execBeltLost_changes s h⟩
  | tclkTick => exact ⟨_, _, execTclkTick_changes s h⟩
  | beltReorigin sess val => exact ⟨_, _, execBeltReorigin_changes sess val s h⟩
  | timeCopyUpdate => exact ⟨_, _, execTimeCopyUpdate_changes s h⟩
  | bdpOpen d => exact ⟨_, _, execBdpOpen_changes d s h⟩
  | bdpClose d => exact ⟨_, _, execBdpClose_changes d s h⟩
  | bdpRead d => exact ⟨_, _, execBdpRead_changes d s h⟩
  | bdpWrite d => exact ⟨_, _, execBdpWrite_changes d s h⟩
  | bdpKeepalive d => exact ⟨_, _, execBdpKeepalive_changes d s h⟩
  | bdpOpcodeUnknown d => exact ⟨_, _, execBdpOpcodeUnknown_changes d s h⟩
  | bdpFrameMalformed d => exact ⟨_, _, execBdpFrameMalformed_changes d s h⟩
  | bdpSessionTimeout num => exact ⟨_, _, execBdpSessionTimeout_changes num s h⟩
  | dictionaryWrite sess idx sub val => exact ⟨_, _, execDictionaryWrite_changes sess idx sub val s h⟩
  | commit sess => exact ⟨_, _, execCommit_changes sess s h⟩
  | checkOnly sess => exact ⟨_, _, execCheckOnly_changes sess s h⟩
  | commitChecksEnd => exact ⟨_, _, execCommitChecksEnd_changes s h⟩
  | commitInstant => exact ⟨_, _, execCommitInstant_changes s h⟩
  | discard sess => exact ⟨_, _, execDiscard_changes sess s h⟩
  | fieldBankReset sess bank => exact ⟨_, _, execFieldBankReset_changes sess bank s h⟩
  | fieldBankTrip bank ma => exact ⟨_, _, execFieldBankTrip_changes bank ma s h⟩
  | fieldBankSupplyChange bank mv => exact ⟨_, _, execFieldBankSupplyChange_changes bank mv s h⟩
  | cameraSupplyChange mv => exact ⟨_, _, execCameraSupplyChange_changes mv s h⟩
  | logicSupplyDip mv => exact ⟨_, _, execLogicSupplyDip_changes mv s h⟩
  | powerFail mv => exact ⟨_, _, execPowerFail_changes mv s h⟩
  | softStartDone link => exact ⟨_, _, execSoftStartDone_changes link s h⟩
  | loadSenseRetry link ohms => exact ⟨_, _, execLoadSenseRetry_changes link ohms s h⟩
  | cameraBootTimeExpiry link => exact ⟨_, _, execCameraBootTimeExpiry_changes link s h⟩
  | wordLockGained link => exact ⟨_, _, execWordLockGained_changes link s h⟩
  | wordLockLost link => exact ⟨_, _, execWordLockLost_changes link s h⟩
  | retrainTimeout link => exact ⟨_, _, execRetrainTimeout_changes link s h⟩
  | identificationRetry stream => exact ⟨_, _, execIdentificationRetry_changes stream s h⟩
  | rateLockTimeout link => exact ⟨_, _, execRateLockTimeout_changes link s h⟩
  | connectionTestEnd link errors => exact ⟨_, _, execConnectionTestEnd_changes link errors s h⟩
  | controlAcknowledgment link ack => exact ⟨_, _, execControlAcknowledgment_changes link ack s h⟩
  | controlAckTimeout link => exact ⟨_, _, execControlAckTimeout_changes link s h⟩
  | triggerPacket stream => exact ⟨_, _, execTriggerPacket_changes stream s h⟩
  | streamPacket stream p => exact ⟨_, _, execStreamPacket_changes stream p s h⟩
  | eventPacket stream e => exact ⟨_, _, execEventPacket_changes stream e s h⟩
  | heartbeatTimeout stream => exact ⟨_, _, execHeartbeatTimeout_changes stream s h⟩
  | streamDisableDrainEnd stream => exact ⟨_, _, execStreamDisableDrainEnd_changes stream s h⟩
  | cameraPowerOverload link mw => exact ⟨_, _, execCameraPowerOverload_changes link mw s h⟩
  | cameraPowerFastTrip link mw => exact ⟨_, _, execCameraPowerFastTrip_changes link mw s h⟩
  | eyeScan sess link => exact ⟨_, _, execEyeScan_changes sess link s h⟩
  | eyeScanDone map width height => exact ⟨_, _, execEyeScanDone_changes map width height s h⟩
  | streamRestart sess stream => exact ⟨_, _, execStreamRestart_changes sess stream s h⟩
  | cameraRegRead sess => exact ⟨_, _, execCameraRegRead_changes sess s h⟩
  | cameraRegWrite sess => exact ⟨_, _, execCameraRegWrite_changes sess s h⟩
  | pipelineStripeStart pipe corrupt => exact ⟨_, _, execPipelineStripeStart_changes pipe corrupt s h⟩
  | stripeReady stripe cyc => exact ⟨_, _, execStripeReady_changes stripe cyc s h⟩
  | paramSetSwitch sess stream => exact ⟨_, _, execParamSetSwitch_changes sess stream s h⟩
  | paramSetTakesForce stream => exact ⟨_, _, execParamSetTakesForce_changes stream s h⟩
  | jpegEncodeDone => exact ⟨_, _, execJpegEncodeDone_changes s h⟩
  | jpegDecode ring data => exact ⟨_, _, execJpegDecode_changes ring data s h⟩
  | decodeContextSwitch => exact ⟨_, _, execDecodeContextSwitch_changes s h⟩
  | jpegDecodeDone => exact ⟨_, _, execJpegDecodeDone_changes s h⟩
  | jpegDecodeAbandoned => exact ⟨_, _, execJpegDecodeAbandoned_changes s h⟩
  | kernelStart ctx kernel cyc obs => exact ⟨_, _, execKernelStart_changes ctx kernel cyc obs s h⟩
  | kernelEnd ctx kernel cyc => exact ⟨_, _, execKernelEnd_changes ctx kernel cyc s h⟩
  | substitutionChange => exact ⟨_, _, execSubstitutionChange_changes s h⟩
  | arrayRetest sess code => exact ⟨_, _, execArrayRetest_changes sess code s h⟩
  | arrayRetestDone pass => exact ⟨_, _, execArrayRetestDone_changes pass s h⟩
  | arrayRetire sess code => exact ⟨_, _, execArrayRetire_changes sess code s h⟩
  | arrayRestore sess code => exact ⟨_, _, execArrayRestore_changes sess code s h⟩
  | planUploadBegin sess length => exact ⟨_, _, execPlanUploadBegin_changes sess length s h⟩
  | planUploadData sess data => exact ⟨_, _, execPlanUploadData_changes sess data s h⟩
  | planUploadEnd sess slot => exact ⟨_, _, execPlanUploadEnd_changes sess slot s h⟩
  | planSlotClear sess slot => exact ⟨_, _, execPlanSlotClear_changes sess slot s h⟩
  | periodStart cyc => exact ⟨_, _, execPeriodStart_changes cyc s h⟩
  | emptyPeriod cyc => exact ⟨_, _, execEmptyPeriod_changes cyc s h⟩
  | slotStart die slot cyc => exact ⟨_, _, execSlotStart_changes die slot cyc s h⟩
  | periodEnd cyc => exact ⟨_, _, execPeriodEnd_changes cyc s h⟩
  | stepStart ctx cyc => exact ⟨_, _, execStepStart_changes ctx cyc s h⟩
  | stepEnd ctx cyc => exact ⟨_, _, execStepEnd_changes ctx cyc s h⟩
  | flush sess => exact ⟨_, _, execFlush_changes sess s h⟩
  | decisionRecordTakeUp => exact ⟨_, _, execDecisionRecordTakeUp_changes s h⟩
  | fallbackOriginReceive => exact ⟨_, _, execFallbackOriginReceive_changes s h⟩
  | minOnTimeClose chan => exact ⟨_, _, execMinOnTimeClose_changes chan s h⟩
  | maxOnTimeExpiry chan => exact ⟨_, _, execMaxOnTimeExpiry_changes chan s h⟩
  | splitReopen chan => exact ⟨_, _, execSplitReopen_changes chan s h⟩
  | valveTestPulse sess val => exact ⟨_, _, execValveTestPulse_changes sess val s h⟩
  | testPulseEnd => exact ⟨_, _, execTestPulseEnd_changes s h⟩
  | fireErrorClear sess => exact ⟨_, _, execFireErrorClear_changes sess s h⟩
  | readbackEdge out level => exact ⟨_, _, execReadbackEdge_changes out level s h⟩
  | inputRawEdge input level => exact ⟨_, _, execInputRawEdge_changes input level s h⟩
  | inputFilterExpiry input => exact ⟨_, _, execInputFilterExpiry_changes input s h⟩
  | pulseWindowEnd input level => exact ⟨_, _, execPulseWindowEnd_changes input level s h⟩
  | sensorSupplyTrip ma => exact ⟨_, _, execSensorSupplyTrip_changes ma s h⟩
  | sensorSupplyReset sess => exact ⟨_, _, execSensorSupplyReset_changes sess s h⟩
  | outputReadbackCheck out => exact ⟨_, _, execOutputReadbackCheck_changes out s h⟩
  | currentLimitExpiry out => exact ⟨_, _, execCurrentLimitExpiry_changes out s h⟩
  | externalVoltageDetect out => exact ⟨_, _, execExternalVoltageDetect_changes out s h⟩
  | externalVoltageClear out => exact ⟨_, _, execExternalVoltageClear_changes out s h⟩
  | openLoadDetect out => exact ⟨_, _, execOpenLoadDetect_changes out s h⟩
  | outputFaultClear sess out => exact ⟨_, _, execOutputFaultClear_changes sess out s h⟩
  | generalOutputLevel sess out level => exact ⟨_, _, execGeneralOutputLevel_changes sess out level s h⟩
  | aliveHalfPeriod => exact ⟨_, _, execAliveHalfPeriod_changes s h⟩
  | aliveStop sess => exact ⟨_, _, execAliveStop_changes sess s h⟩
  | aliveStart sess => exact ⟨_, _, execAliveStart_changes sess s h⟩
  | valveLinkLockGained port => exact ⟨_, _, execValveLinkLockGained_changes port s h⟩
  | valveLinkLockLost port => exact ⟨_, _, execValveLinkLockLost_changes port s h⟩
  | valveLinkKeepalive port => exact ⟨_, _, execValveLinkKeepalive_changes port s h⟩
  | strobe port => exact ⟨_, _, execStrobe_changes port s h⟩
  | valveLinkIdent port f => exact ⟨_, _, execValveLinkIdent_changes port f s h⟩
  | valveLinkEcho port => exact ⟨_, _, execValveLinkEcho_changes port s h⟩
  | valveLinkStatus port f => exact ⟨_, _, execValveLinkStatus_changes port f s h⟩
  | edgeStamp port f => exact ⟨_, _, execEdgeStamp_changes port f s h⟩
  | driverFault port f => exact ⟨_, _, execDriverFault_changes port f s h⟩
  | testEcho port f => exact ⟨_, _, execTestEcho_changes port f s h⟩
  | testFrameSend port => exact ⟨_, _, execTestFrameSend_changes port s h⟩
  | controlFrameRetransmit port => exact ⟨_, _, execControlFrameRetransmit_changes port s h⟩
  | identTimeout port => exact ⟨_, _, execIdentTimeout_changes port s h⟩
  | statusTimeout port => exact ⟨_, _, execStatusTimeout_changes port s h⟩
  | cableDelayRemeasure port => exact ⟨_, _, execCableDelayRemeasure_changes port s h⟩
  | valveLinkBringupRetry port => exact ⟨_, _, execValveLinkBringupRetry_changes port s h⟩
  | encoderSupplyTrip chan ma => exact ⟨_, _, execEncoderSupplyTrip_changes chan ma s h⟩
  | encoderSupplyReset sess chan => exact ⟨_, _, execEncoderSupplyReset_changes sess chan s h⟩
  | auxSample chan r => exact ⟨_, _, execAuxSample_changes chan r s h⟩
  | linkSlotStart link slot cyc => exact ⟨_, _, execLinkSlotStart_changes link slot cyc s h⟩
  | memoryRead link f => exact ⟨_, _, execMemoryRead_changes link f s h⟩
  | memoryWrite link f => exact ⟨_, _, execMemoryWrite_changes link f s h⟩
  | refresh link f => exact ⟨_, _, execRefresh_changes link f s h⟩
  | scrub link f => exact ⟨_, _, execScrub_changes link f s h⟩
  | recal link cyc => exact ⟨_, _, execRecal_changes link cyc s h⟩
  | nop link f => exact ⟨_, _, execNop_changes link f s h⟩
  | replay link f => exact ⟨_, _, execReplay_changes link f s h⟩
  | upstreamFrameLanded link f => exact ⟨_, _, execUpstreamFrameLanded_changes link f s h⟩
  | nakResend link f => exact ⟨_, _, execNakResend_changes link f s h⟩
  | recalOverdue link cyc => exact ⟨_, _, execRecalOverdue_changes link cyc s h⟩
  | externalTransfer link slot write addr data =>
    exact ⟨_, _, execExternalTransfer_changes link slot write addr data s h⟩
  | uncorrectableLogClear sess => exact ⟨_, _, execUncorrectableLogClear_changes sess s h⟩
  | planKnotAction action cyc => exact ⟨_, _, execPlanKnotAction_changes action cyc s h⟩
  | knotWaitTimeout waiter => exact ⟨_, _, execKnotWaitTimeout_changes waiter s h⟩
  | fenceRelease ring => exact ⟨_, _, execFenceRelease_changes ring s h⟩
  | tetherPortTrained port => exact ⟨_, _, execTetherPortTrained_changes port s h⟩
  | operand port p => exact ⟨_, _, execOperand_changes port p s h⟩
  | tetherWrite port p => exact ⟨_, _, execTetherWrite_changes port p s h⟩
  | readReq port p => exact ⟨_, _, execReadReq_changes port p s h⟩
  | readComp port p => exact ⟨_, _, execReadComp_changes port p s h⟩
  | knotOp port p => exact ⟨_, _, execKnotOp_changes port p s h⟩
  | knotReply port p => exact ⟨_, _, execKnotReply_changes port p s h⟩
  | errorComp port p => exact ⟨_, _, execErrorComp_changes port p s h⟩
  | tetherHeartbeat port p => exact ⟨_, _, execTetherHeartbeat_changes port p s h⟩
  | hello port p path => exact ⟨_, _, execHello_changes port p path s h⟩
  | ack port p => exact ⟨_, _, execAck_changes port p s h⟩
  | tetherRetransmit port => exact ⟨_, _, execTetherRetransmit_changes port s h⟩
  | tetherHeartbeatSend port => exact ⟨_, _, execTetherHeartbeatSend_changes port s h⟩
  | memberLost member => exact ⟨_, _, execMemberLost_changes member s h⟩
  | helloTimeout member => exact ⟨_, _, execHelloTimeout_changes member s h⟩
  | groupFormationRetry => exact ⟨_, _, execGroupFormationRetry_changes s h⟩
  | tetherDelayRemeasure => exact ⟨_, _, execTetherDelayRemeasure_changes s h⟩
  | tunnelUp port => exact ⟨_, _, execTunnelUp_changes port s h⟩
  | tunnelLost port => exact ⟨_, _, execTunnelLost_changes port s h⟩
  | tunnelHoldExpiry port => exact ⟨_, _, execTunnelHoldExpiry_changes port s h⟩
  | functionLevelReset port => exact ⟨_, _, execFunctionLevelReset_changes port s h⟩
  | hwinRegisterWrite port offset val => exact ⟨_, _, execHwinRegisterWrite_changes port offset val s h⟩
  | hwinErrorClear port val => exact ⟨_, _, execHwinErrorClear_changes port val s h⟩
  | ringEnable port => exact ⟨_, _, execRingEnable_changes port s h⟩
  | ringDisable port => exact ⟨_, _, execRingDisable_changes port s h⟩
  | hwinRingDoorbell port val => exact ⟨_, _, execHwinRingDoorbell_changes port val s h⟩
  | evqEnable port => exact ⟨_, _, execEvqEnable_changes port s h⟩
  | evqDisable port => exact ⟨_, _, execEvqDisable_changes port s h⟩
  | hwinEvqHead port val => exact ⟨_, _, execHwinEvqHead_changes port val s h⟩
  | evqTimeThreshold queue => exact ⟨_, _, execEvqTimeThreshold_changes queue s h⟩
  | hwinImgRelease port val => exact ⟨_, _, execHwinImgRelease_changes port val s h⟩
  | hwinMbxDoorbell port val => exact ⟨_, _, execHwinMbxDoorbell_changes port val s h⟩
  | hwinPortAdopt port val => exact ⟨_, _, execHwinPortAdopt_changes port val s h⟩
  | ringFetch entry => exact ⟨_, _, execRingFetch_changes entry s h⟩
  | ringCommandComplete ring => exact ⟨_, _, execRingCommandComplete_changes ring s h⟩
  | ringNop ring => exact ⟨_, _, execRingNop_changes ring s h⟩
  | copyToDevice ring data => exact ⟨_, _, execCopyToDevice_changes ring data s h⟩
  | copyFromDevice ring => exact ⟨_, _, execCopyFromDevice_changes ring s h⟩
  | planLoad ring data => exact ⟨_, _, execPlanLoad_changes ring data s h⟩
  | jobSubmit ring => exact ⟨_, _, execJobSubmit_changes ring s h⟩
  | knotAdd ring => exact ⟨_, _, execKnotAdd_changes ring s h⟩
  | knotSub ring => exact ⟨_, _, execKnotSub_changes ring s h⟩
  | knotWait ring => exact ⟨_, _, execKnotWait_changes ring s h⟩
  | knotRead ring => exact ⟨_, _, execKnotRead_changes ring s h⟩
  | knotInit ring => exact ⟨_, _, execKnotInit_changes ring s h⟩
  | fence ring => exact ⟨_, _, execFence_changes ring s h⟩
  | portLinkChange eth up rate => exact ⟨_, _, execPortLinkChange_changes eth up rate s h⟩
  | arpRequest eth ip mac target => exact ⟨_, _, execArpRequest_changes eth ip mac target s h⟩
  | arpReply eth sender target => exact ⟨_, _, execArpReply_changes eth sender target s h⟩
  | arpCacheExpiry eth ip => exact ⟨_, _, execArpCacheExpiry_changes eth ip s h⟩
  | icmpEchoRequest eth src dst data => exact ⟨_, _, execIcmpEchoRequest_changes eth src dst data s h⟩
  | sync m => exact ⟨_, _, execSync_changes m s h⟩
  | followUp m => exact ⟨_, _, execFollowUp_changes m s h⟩
  | delayResp m => exact ⟨_, _, execDelayResp_changes m s h⟩
  | pdelayReq m => exact ⟨_, _, execPdelayReq_changes m s h⟩
  | pdelayResp m => exact ⟨_, _, execPdelayResp_changes m s h⟩
  | pdelayRespFollowUp m => exact ⟨_, _, execPdelayRespFollowUp_changes m s h⟩
  | announce eth a => exact ⟨_, _, execAnnounce_changes eth a s h⟩
  | delayReqSend domain => exact ⟨_, _, execDelayReqSend_changes domain s h⟩
  | pdelayReqSend eth => exact ⟨_, _, execPdelayReqSend_changes eth s h⟩
  | syncLossTimeout domain => exact ⟨_, _, execSyncLossTimeout_changes domain s h⟩
  | domainRevert => exact ⟨_, _, execDomainRevert_changes s h⟩
  | slewComplete => exact ⟨_, _, execSlewComplete_changes s h⟩
  | holdoverLimitExpiry => exact ⟨_, _, execHoldoverLimitExpiry_changes s h⟩
  | freezeLimit die cyc => exact ⟨_, _, execFreezeLimit_changes die cyc s h⟩
  | checkpointLate die cyc => exact ⟨_, _, execCheckpointLate_changes die cyc s h⟩
  | controlStall => exact ⟨_, _, execControlStall_changes s h⟩
  | helperHalted helper => exact ⟨_, _, execHelperHalted_changes helper s h⟩
  | timeUnitHalted => exact ⟨_, _, execTimeUnitHalted_changes s h⟩
  | ejectionUnitHalted => exact ⟨_, _, execEjectionUnitHalted_changes s h⟩
  | dieTransport path => exact ⟨_, _, execDieTransport_changes path s h⟩
  | teardownEnd ctx => exact ⟨_, _, execTeardownEnd_changes ctx s h⟩
  | contextReset sess ctx => exact ⟨_, _, execContextReset_changes sess ctx s h⟩
  | deviceRecover sess => exact ⟨_, _, execDeviceRecover_changes sess s h⟩
  | recoveryResume => exact ⟨_, _, execRecoveryResume_changes s h⟩
  | faultLogClear sess => exact ⟨_, _, execFaultLogClear_changes sess s h⟩
  | faultLogNvClear sess => exact ⟨_, _, execFaultLogNvClear_changes sess s h⟩
  | powerTargetRun sess => exact ⟨_, _, execPowerTargetRun_changes sess s h⟩
  | powerTargetReady sess => exact ⟨_, _, execPowerTargetReady_changes sess s h⟩
  | powerTargetDoze sess => exact ⟨_, _, execPowerTargetDoze_changes sess s h⟩
  | powerTargetRetain sess => exact ⟨_, _, execPowerTargetRetain_changes sess s h⟩
  | powerTargetStandby sess => exact ⟨_, _, execPowerTargetStandby_changes sess s h⟩
  | powerTransitionDone => exact ⟨_, _, execPowerTransitionDone_changes s h⟩
  | autoReadyEntry => exact ⟨_, _, execAutoReadyEntry_changes s h⟩
  | wakeEvent source => exact ⟨_, _, execWakeEvent_changes source s h⟩
  | wakeTimerExpiry => exact ⟨_, _, execWakeTimerExpiry_changes s h⟩
  | temperatureSample t => exact ⟨_, _, execTemperatureSample_changes t s h⟩
  | ageingMonitorUpdate slow margin => exact ⟨_, _, execAgeingMonitorUpdate_changes slow margin s h⟩
  | cclkStepDone cyc => exact ⟨_, _, execCclkStepDone_changes cyc s h⟩
  | replanNow sess => exact ⟨_, _, execReplanNow_changes sess s h⟩
  | counterStart sess => exact ⟨_, _, execCounterStart_changes sess s h⟩
  | counterStop sess => exact ⟨_, _, execCounterStop_changes sess s h⟩
  | counterClear sess => exact ⟨_, _, execCounterClear_changes sess s h⟩
  | counterSnapshot sess => exact ⟨_, _, execCounterSnapshot_changes sess s h⟩
  | shadowRefresh cyc0 cyc1 => exact ⟨_, _, execShadowRefresh_changes cyc0 cyc1 s h⟩
  | bandwidthWindowEnd => exact ⟨_, _, execBandwidthWindowEnd_changes s h⟩
  | bandwidthClear sess => exact ⟨_, _, execBandwidthClear_changes sess s h⟩
  | sampleLogClear sess => exact ⟨_, _, execSampleLogClear_changes sess s h⟩
  | startUp cause fails => exact ⟨_, _, execStartUp_changes cause fails s h⟩
  | readiness => exact ⟨_, _, execReadiness_changes s h⟩
  | blobUploadBegin sess length => exact ⟨_, _, execBlobUploadBegin_changes sess length s h⟩
  | blobUploadData sess data => exact ⟨_, _, execBlobUploadData_changes sess data s h⟩
  | blobUploadEnd sess slot => exact ⟨_, _, execBlobUploadEnd_changes sess slot s h⟩
  | blobSlotClear sess slot => exact ⟨_, _, execBlobSlotClear_changes sess slot s h⟩
  | attestRequest sess => exact ⟨_, _, execAttestRequest_changes sess s h⟩
  | attestReportReady => exact ⟨_, _, execAttestReportReady_changes s h⟩
  | statisticsClear sess val => exact ⟨_, _, execStatisticsClear_changes sess val s h⟩
  | usb4LinkChange port up rate => exact ⟨_, _, execUsb4LinkChange_changes port up rate s h⟩
  | downstreamCrcFailure link f => exact ⟨_, _, execDownstreamCrcFailure_changes link f s h⟩
  | tetherPacketDiscarded port p => exact ⟨_, _, execTetherPacketDiscarded_changes port p s h⟩
  | valveLinkFrameDiscarded port f => exact ⟨_, _, execValveLinkFrameDiscarded_changes port f s h⟩
  | unsupportedPacket link => exact ⟨_, _, execUnsupportedPacket_changes link s h⟩
  | ethernetFrameDropped eth => exact ⟨_, _, execEthernetFrameDropped_changes eth s h⟩
  | ptpMessageIgnored eth => exact ⟨_, _, execPtpMessageIgnored_changes eth s h⟩
  | groupStop port p => exact ⟨_, _, execGroupStop_changes port p s h⟩
  | member0Bc bc => exact ⟨_, _, execMember0Bc_changes bc s h⟩
  | linkTestPattern link errors => exact ⟨_, _, execLinkTestPattern_changes link errors s h⟩
  | tetherTestPattern port errors => exact ⟨_, _, execTetherTestPattern_changes port errors s h⟩

/-- Every unit that a well-formed command names is carried, so no guard stops it. -/
theorem exec_next_of_wf {c : Instr} {s : State} (hw : c.wf s.mfg.part = true) : ∃ t, exec c s = .next t := by
  cases c with
  | encoderSampleLatch | sampleComplete | holdoverEntry | beltLost | tclkTick | beltReorigin | timeCopyUpdate
  | bdpSessionTimeout | dictionaryWrite | commit | checkOnly | commitChecksEnd | commitInstant | discard
  | fieldBankReset | cameraSupplyChange | logicSupplyDip | powerFail | eyeScan | eyeScanDone | streamRestart
  | cameraRegRead | cameraRegWrite | stripeReady | paramSetSwitch | jpegEncodeDone | decodeContextSwitch
  | jpegDecodeDone | jpegDecodeAbandoned | substitutionChange | arrayRetest | arrayRetestDone | arrayRetire
  | arrayRestore | planUploadBegin | planUploadData | planUploadEnd | planSlotClear | periodStart | emptyPeriod
  | periodEnd | flush | decisionRecordTakeUp | fallbackOriginReceive | valveTestPulse | testPulseEnd
  | fireErrorClear | sensorSupplyTrip | sensorSupplyReset | outputFaultClear | aliveHalfPeriod | aliveStop
  | aliveStart | encoderSupplyReset | uncorrectableLogClear | planKnotAction | knotWaitTimeout | groupFormationRetry
  | tetherDelayRemeasure | ringFetch | domainRevert | slewComplete | holdoverLimitExpiry | controlStall
  | timeUnitHalted | ejectionUnitHalted | contextReset | deviceRecover | recoveryResume | faultLogClear
  | faultLogNvClear | powerTargetRun | powerTargetReady | powerTargetDoze | powerTargetRetain | powerTargetStandby
  | powerTransitionDone | autoReadyEntry | wakeEvent | wakeTimerExpiry | temperatureSample | ageingMonitorUpdate
  | cclkStepDone | replanNow | counterStart | counterStop | counterClear | counterSnapshot | shadowRefresh
  | bandwidthWindowEnd | bandwidthClear | sampleLogClear | startUp | readiness | blobUploadBegin | blobUploadData
  | blobUploadEnd | blobSlotClear | attestRequest | attestReportReady | statisticsClear | member0Bc =>
    exact ⟨_, rfl⟩
  | fieldBankTrip | fieldBankSupplyChange | softStartDone | loadSenseRetry | cameraBootTimeExpiry | wordLockGained
  | wordLockLost | retrainTimeout | identificationRetry | rateLockTimeout | connectionTestEnd
  | controlAcknowledgment | controlAckTimeout | triggerPacket | eventPacket | heartbeatTimeout
  | streamDisableDrainEnd | cameraPowerOverload | cameraPowerFastTrip | pipelineStripeStart | paramSetTakesForce
  | jpegDecode | kernelStart | kernelEnd | slotStart | stepStart | stepEnd | minOnTimeClose | maxOnTimeExpiry
  | splitReopen | readbackEdge | inputRawEdge | inputFilterExpiry | pulseWindowEnd | outputReadbackCheck
  | currentLimitExpiry | externalVoltageDetect | externalVoltageClear | openLoadDetect | valveLinkLockGained
  | valveLinkLockLost | valveLinkKeepalive | strobe | valveLinkIdent | valveLinkEcho | valveLinkStatus | edgeStamp
  | driverFault | testEcho | testFrameSend | controlFrameRetransmit | identTimeout | statusTimeout
  | cableDelayRemeasure | valveLinkBringupRetry | encoderSupplyTrip | auxSample | linkSlotStart | memoryRead
  | memoryWrite | refresh | scrub | recal | nop | replay | upstreamFrameLanded | nakResend | recalOverdue
  | externalTransfer | fenceRelease | tetherPortTrained | operand | tetherWrite | readReq | readComp | knotOp
  | knotReply | errorComp | tetherHeartbeat | hello | ack | tetherRetransmit | tetherHeartbeatSend | memberLost
  | helloTimeout | tunnelUp | tunnelLost | tunnelHoldExpiry | functionLevelReset | ringEnable | ringDisable
  | evqEnable | evqDisable | evqTimeThreshold | ringCommandComplete | ringNop | copyToDevice | copyFromDevice
  | planLoad | jobSubmit | knotAdd | knotSub | knotWait | knotRead | knotInit | fence | portLinkChange
  | delayReqSend | pdelayReqSend | syncLossTimeout | freezeLimit | checkpointLate | teardownEnd | usb4LinkChange
  | downstreamCrcFailure | tetherPacketDiscarded | valveLinkFrameDiscarded | unsupportedPacket
  | ethernetFrameDropped | ptpMessageIgnored | groupStop | linkTestPattern | tetherTestPattern =>
    exact ⟨_, guardUnit_carried hw _ _⟩
  | bdpOpen | bdpClose | bdpRead | bdpWrite | bdpKeepalive | bdpOpcodeUnknown | bdpFrameMalformed
  | hwinRegisterWrite | hwinErrorClear | hwinRingDoorbell | hwinEvqHead | hwinImgRelease | hwinMbxDoorbell
  | hwinPortAdopt | arpRequest | arpReply | arpCacheExpiry | icmpEchoRequest | sync | followUp | delayResp
  | pdelayReq | pdelayResp | pdelayRespFollowUp | announce =>
    simp only [Instr.wf, bdpFrame, Bool.and_eq_true, and_assoc] at hw
    exact ⟨_, guardUnit_carried hw.1 _ _⟩
  | streamPacket | helperHalted => exact ⟨_, guardUnit_carried hw _ _⟩
  | generalOutputLevel =>
    simp only [Instr.wf, Bool.and_eq_true] at hw
    exact ⟨_, guardUnit_carried hw.1.2 _ _⟩
  | dieTransport path => exact ⟨_, guardUnit_carried ((dieTransport_guard s.mfg.part path).trans hw) _ _⟩

/-! ### Steps -/

/-- A step idles, or takes one command from the front of the queue. -/
theorem step_cases {s t : State} (h : step s = .next t) :
    (s.pending = [] ∧ t = s) ∨ ∃ c rest, s.pending = c :: rest ∧ exec c { s with pending := rest } = .next t := by
  unfold step at h
  split at h
  case h_1 hq =>
    injection h with h
    exact .inl ⟨hq, h.symm⟩
  case h_2 c rest hq => exact .inr ⟨c, rest, hq, h⟩

theorem step_mfg {s t : State} (h : step s = .next t) : t.mfg = s.mfg := by
  obtain ⟨-, rfl⟩ | ⟨c, rest, -, he⟩ := step_cases h
  · rfl
  · obtain ⟨G, E, hc⟩ := exec_changes he
    exact hc.mfg

theorem step_canon {s t : State} (h : step s = .next t) (hs : s.canon) : t.canon := by
  obtain ⟨-, rfl⟩ | ⟨c, rest, -, he⟩ := step_cases h
  · exact hs
  · obtain ⟨G, E, hc⟩ := exec_changes he
    exact hc.canon hs

/-- What waits after a step waited before it. -/
theorem step_pending_subset {s t : State} (h : step s = .next t) : t.pending ⊆ s.pending := by
  obtain ⟨-, rfl⟩ | ⟨c, rest, hq, he⟩ := step_cases h
  · exact List.Subset.refl _
  · obtain ⟨G, E, hc⟩ := exec_changes he
    rw [hq, hc.pending]
    exact List.subset_cons_self c rest

theorem step_queueWf {s t : State} (h : step s = .next t) (hs : s.queueWf) : t.queueWf := by
  intro c hc
  rw [step_mfg h]
  exact hs c (step_pending_subset h hc)

/-- A step takes the command at the front of the queue. -/
theorem step_cons (c : Instr) (s : State) : step { s with pending := c :: s.pending } = exec c s := rfl

/-! ### BeltReorigin (R30) -/

theorem State.reoriginCmd_halted {s : State} {v : Nat} (hv : v < 2 ^ 48)
    (hst : s.belt.st = .stopped ∨ s.belt.st = .noSource) :
    s.reoriginCmd v = ({ s with belt := { s.belt with reorigin := some v } } : State).cmdOk K.beltReorigin := by
  unfold State.reoriginCmd
  rw [if_neg (Nat.not_le.2 hv), if_neg fun ⟨hstopped, hsource⟩ => hst.elim hstopped hsource]

theorem State.reoriginCmd_moving {s : State} {v : Nat} (hv : v < 2 ^ 48)
    (hst : s.belt.st ≠ .stopped ∧ s.belt.st ≠ .noSource) : s.reoriginCmd v = (Status.beltMoving, s) := by
  unfold State.reoriginCmd
  rw [if_neg (Nat.not_le.2 hv), if_pos hst]

theorem exec_beltReorigin {s : State} {sess : Nat} (v : Nat) (hg : s.gate sess K.beltReorigin = none) :
    exec (.beltReorigin sess v) s =
      .next ((s.reoriginCmd v).2.answer sess K.beltReorigin (s.reoriginCmd v).1) :=
  congrArg Host.Outcome.next (State.runCmd_ok hg)

/-! ### The row of an entry (R5) -/

theorem findEntry_some {idx sub : Nat} {e : Entry} (h : findEntry idx sub = some e) :
    e ∈ entriesOf (idx / 256) ∧ e.idx = idx ∧ e.lo ≤ sub ∧ sub ≤ e.hi := by
  unfold findEntry at h
  have hp := List.find?_some h
  simp only [Bool.and_eq_true, beq_iff_eq, decide_eq_true_eq, and_assoc] at hp
  exact ⟨List.mem_of_find?_eq_some h, hp⟩

/-- A subindex is one byte (R5). -/
theorem hi_lt_of_mem_entriesOf {hi : Nat} {e : Entry} (h : e ∈ entriesOf hi) : e.hi < 256 := by
  have hall : (entriesOf hi).all (fun e => decide (e.hi < 256)) = true := by
    unfold entriesOf
    split <;> rfl
  simpa using List.all_eq_true.1 hall e h

theorem key_div_of_findEntry {idx sub : Nat} {e : Entry} (h : findEntry idx sub = some e) :
    (256 * idx + sub) / 256 = idx := by
  obtain ⟨hmem, -, -, hsub⟩ := findEntry_some h
  have hhi := hi_lt_of_mem_entriesOf hmem
  omega

/-! ### The checks of a dictionary write, in the order of R479 -/

theorem State.writeEntry_notReady {s : State} {idx sub : Nat} (h : s.ctl.serving = false ∨ s.faults.stalled = true) :
    s.writeEntry idx sub = .inl Status.notReady := by
  unfold State.writeEntry
  rw [if_pos h]

section
variable {s : State} {idx sub : Nat} (hserving : s.ctl.serving = true) (hstalled : s.faults.stalled = false)
  (hsub : sub ≠ 0)
include hserving hstalled hsub

theorem State.writeEntry_absent (hpresent : present s.mfg idx sub = false) :
    s.writeEntry idx sub = .inl Status.noEntry := by
  unfold State.writeEntry
  rw [if_neg (by simp [hserving, hstalled]), if_neg hsub, if_pos hpresent]

variable {e : Entry} (hpresent : present s.mfg idx sub = true) (he : findEntry idx sub = some e)
include hpresent he

theorem State.writeEntry_readOnly (hacc : e.acc = .ro) : s.writeEntry idx sub = .inl Status.readOnly := by
  simp [State.writeEntry, hserving, hstalled, hsub, hpresent, he, hacc]

theorem State.writeEntry_writable (hacc : e.acc ≠ .ro) : s.writeEntry idx sub = .inr e := by
  simp [State.writeEntry, hserving, hstalled, hsub, hpresent, he, hacc]

end

theorem State.writeGate_expert {s : State} {e : Entry} (sess k : Nat) (hexpert : e.expert = true)
    (hflag : s.flag (expertKey e.idx) = false) : s.writeGate e sess k = some Status.expertLocked := by
  unfold State.writeGate
  rw [if_pos ⟨hexpert, hflag⟩]

theorem State.writeGate_otherOwner {s : State} {e : Entry} {sess : Nat} (k : Nat) (hexpert : e.expert = false)
    (hacc : e.acc = .rws) (hzero : s.ctl.owner ≠ 0) (howner : s.ctl.owner ≠ sess) :
    s.writeGate e sess k = some Status.stageLocked := by
  unfold State.writeGate
  rw [if_neg (by simp [hexpert]), if_pos ⟨⟨hzero, howner⟩, .inl hacc⟩]

theorem State.writeGate_committing {s : State} {e : Entry} {sess : Nat} (k : Nat) (hexpert : e.expert = false)
    (hacc : e.acc = .rws) (howner : s.ctl.owner = 0 ∨ s.ctl.owner = sess) (hcommit : s.committing = true) :
    s.writeGate e sess k = some Status.commitBusy := by
  unfold State.writeGate
  rw [if_neg (by simp [hexpert]), if_neg fun ⟨⟨hzero, hother⟩, _⟩ => howner.elim hzero hother,
    if_pos ⟨hcommit, .inl hacc⟩]

/-! ### One written value -/

theorem State.put_refused {s : State} {idx sub st : Nat} (sess : Nat) (v : List Byte)
    (h : s.writeEntry idx sub = .inl st) : s.put sess idx sub 0 true v = (st, s) := by
  simp only [State.put, State.writeValue, h]

section
variable {s : State} {idx sub n : Nat} {e : Entry} {v : List Byte} (sess : Nat)
  (hentry : s.writeEntry idx sub = .inr e) (hsize : e.ty.size = some n)
include hentry hsize

theorem State.put_length (hlen : v.length ≠ n) : s.put sess idx sub 0 true v = (Status.lengthMismatch, s) := by
  simp only [State.put, State.writeValue, hentry, hsize]
  rw [if_pos (.inl hlen)]

variable (hlen : v.length = n)
include hlen

theorem State.put_gate {st : Nat} (hgate : s.writeGate e sess (256 * idx + sub) = some st) :
    s.put sess idx sub 0 true v = (st, s) := by
  simp [State.put, State.writeValue, hentry, hsize, hlen, hgate]

variable (hgate : s.writeGate e sess (256 * idx + sub) = none)
include hgate

theorem State.put_value {st : Nat} (hacc : e.acc ≠ .cmd) (hvalue : e.valueStatus (leNat v) = some st) :
    s.put sess idx sub 0 true v = (st, s) := by
  simp [State.put, State.writeValue, hentry, hsize, hlen, hgate, hacc, hvalue]

variable (hvalue : e.valueStatus (leNat v) = none) (hfixed : fixedSub (256 * idx + sub) = false)
include hvalue hfixed

theorem State.put_staged (hacc : e.acc = .rws) :
    s.put sess idx sub 0 true v = (Status.ok, s.stageReg sess (256 * idx + sub) (leNat v)) := by
  simp [State.put, State.writeValue, hentry, hsize, hlen, hgate, hacc, hvalue, hfixed]

theorem State.put_stored (hacc : e.acc = .rw) :
    s.put sess idx sub 0 true v = (Status.ok, s.putReg (256 * idx + sub) (leNat v)) := by
  simp [State.put, State.writeValue, hentry, hsize, hlen, hgate, hacc, hvalue, hfixed]

end

/-- Only the level of a general output acts beyond its own entry (R285). -/
theorem State.putReg_setReg (s : State) {k : Nat} (v : Nat) (h : k / 256 ≠ 0x0F02) : s.putReg k v = s.setReg k v := by
  simp [State.putReg, h]

theorem State.stageReg_staged (s : State) (sess k v j : Nat) :
    SMap.find? (s.stageReg sess k v).ctl.staged j = if j = k then some v else SMap.find? s.ctl.staged j := by
  simp only [State.stageReg, SMap.find?_put]
  split
  · rfl
  · exact SMap.find?_erase_ne _ ‹_›

theorem exec_dictionaryWrite {s t : State} {sess idx sub st : Nat} {v : List Byte}
    (h : s.put sess idx sub 0 true v = (st, t)) :
    exec (.dictionaryWrite sess idx sub v) s = .next (t.answer sess (256 * idx + sub) st) := by
  show Host.Outcome.next (s.dictWrite sess idx sub v) = _
  rw [State.dictWrite, h]

end Sys2Proof.Machine

open Sys2Proof Sys2Proof.Machine

/-- Settles O56: a step that answers a next state is an idle one or runs the front command, and every command's frame
keeps the canonical form, the rest of the queue and what manufacture wrote. -/
theorem invariantKept : Obligations.InvariantKept := by
  intro s t ⟨hcanon, hqueue⟩ hstep
  exact ⟨⟨step_canon hstep hcanon, step_queueWf hstep hqueue⟩, step_mfg hstep⟩

/-- Settles O57: a well-formed command passes its guard on every unit, and its frame says the rest. -/
theorem wellFormedCommandsRun : Obligations.WellFormedCommandsRun := by
  intro s c hw
  obtain ⟨t, ht⟩ := exec_next_of_wf hw
  obtain ⟨G, E, hc⟩ := exec_changes ht
  exact ⟨⟨t, ht, hc.mfg, hc.pending, hc.canon⟩, t, (step_cons c s).trans ht, hc.pending⟩

/-- Settles O7, by the two answers of BeltReorigin's own body after the shared checks. -/
theorem reoriginWaits : Obligations.ReoriginWaits := by
  refine ⟨fun s sess v hg hv hst => ?_, fun s sess v hg hv hst => ?_⟩
  · rw [exec_beltReorigin v hg, State.reoriginCmd_halted hv hst]
    rfl
  · have hmoves : s.belt.st ≠ .stopped ∧ s.belt.st ≠ .noSource := by
      constructor <;> intro h <;> simp [h] at hst
    rw [exec_beltReorigin v hg, State.reoriginCmd_moving hv hmoves]

/-- Settles O52: each check's answer is that of its own lemma, and a write that passes them all is staged or stored. -/
theorem writesAreCheckedInOrder : Obligations.WritesAreCheckedInOrder := by
  refine ⟨?staged, ?stored, ?notReady, ?absent, ?readOnly, ?length, ?expert, ?otherOwner, ?committing, ?value⟩
  case staged =>
    intro s sess idx sub n v e hserving hstalled hsub hpresent he hacc hsize hlen hgate hvalue hfixed
    have hentry := State.writeEntry_writable hserving hstalled hsub hpresent he (by simp [hacc])
    refine ⟨_, exec_dictionaryWrite (State.put_staged sess hentry hsize hlen hgate hvalue hfixed hacc),
      ?_, ?_, ?_, ?_, ?_⟩
    · simp [State.stageReg_staged]
    · simp [State.stageReg]
    · intro k hk
      simp [State.stageReg_staged, hk]
    · simp [State.answer, State.send]
    · exact (State.stageReg_changes ..).mono rfl (Entries.le_of_sub rfl) |>.andThen (State.answer_changes ..) rfl
        (Entries.le_of_sub rfl)
  case stored =>
    intro s sess idx sub n v e hserving hstalled hsub hpresent he hacc hsize hlen hgate hvalue hfixed hidx
    have hentry := State.writeEntry_writable hserving hstalled hsub hpresent he (by simp [hacc])
    have hput := State.put_stored sess hentry hsize hlen hgate hvalue hfixed hacc
    rw [State.putReg_setReg _ _ (by rwa [key_div_of_findEntry he])] at hput
    refine ⟨_, exec_dictionaryWrite hput, ?_, ?_, ?_⟩
    · simp
    · simp [State.answer, State.send]
    · exact (State.setReg_changes ..).mono rfl (fun _ h => h) |>.andThen (State.answer_changes ..) rfl
        (Entries.le_of_sub rfl)
  case notReady =>
    intro s sess idx sub v h
    exact exec_dictionaryWrite (State.put_refused sess v (State.writeEntry_notReady h))
  case absent =>
    intro s sess idx sub v hserving hstalled hsub hpresent
    exact exec_dictionaryWrite (State.put_refused sess v (State.writeEntry_absent hserving hstalled hsub hpresent))
  case readOnly =>
    intro s sess idx sub v e hserving hstalled hsub hpresent he hacc
    exact exec_dictionaryWrite
      (State.put_refused sess v (State.writeEntry_readOnly hserving hstalled hsub hpresent he hacc))
  case length =>
    intro s sess idx sub n v e hserving hstalled hsub hpresent he hacc hsize hlen
    have hentry := State.writeEntry_writable hserving hstalled hsub hpresent he hacc
    exact exec_dictionaryWrite (State.put_length sess hentry hsize hlen)
  case expert =>
    intro s sess idx sub n v e hserving hstalled hsub hpresent he hacc hsize hlen hexpert hflag
    have hentry := State.writeEntry_writable hserving hstalled hsub hpresent he hacc
    obtain ⟨-, hidx, -, -⟩ := findEntry_some he
    exact exec_dictionaryWrite (State.put_gate sess hentry hsize hlen
      (State.writeGate_expert sess _ hexpert (by rwa [hidx])))
  case otherOwner =>
    intro s sess idx sub n v e hserving hstalled hsub hpresent he hacc hsize hlen hexpert hzero howner
    have hentry := State.writeEntry_writable hserving hstalled hsub hpresent he (by simp [hacc])
    exact exec_dictionaryWrite (State.put_gate sess hentry hsize hlen
      (State.writeGate_otherOwner _ hexpert hacc hzero howner))
  case committing =>
    intro s sess idx sub n v e hserving hstalled hsub hpresent he hacc hsize hlen hexpert howner hcommit
    have hentry := State.writeEntry_writable hserving hstalled hsub hpresent he (by simp [hacc])
    exact exec_dictionaryWrite (State.put_gate sess hentry hsize hlen
      (State.writeGate_committing _ hexpert hacc howner hcommit))
  case value =>
    intro s sess idx sub n st v e hserving hstalled hsub hpresent he hacc hsize hlen hgate hvalue
    have hentry := State.writeEntry_writable hserving hstalled hsub hpresent he (by rcases hacc with h | h <;> simp [h])
    exact exec_dictionaryWrite (State.put_value sess hentry hsize hlen hgate
      (by rcases hacc with h | h <;> simp [h]) hvalue)

/-- Settles O55: at reset the tables are empty and no command waits. -/
theorem invariantAtReset : Obligations.InvariantAtReset :=
  ⟨⟨SMap.wf_nil _, SMap.wf_nil _, SMap.wf_nil _⟩, fun _ hc => absurd hc List.not_mem_nil⟩

/-- Settles O58: every row of a kind of unit stands behind the guard on that unit's number. -/
theorem absentUnitsStop : Obligations.AbsentUnitsStop := by
  refine ⟨?cameraLinks, ?memoryLinks, ?tetherPorts, ?valveLinks, ?hostPorts, ?ethPorts, ?bdpPorts, ?ptpPorts, ?rings,
    ?queues, ?streams, ?streamPackets, ?banks, ?channels, ?encoders, ?contexts, ?computeDies, ?timeDomains, ?inputs,
    ?outputs, ?members, ?pipelines, ?helpers, ?diePaths⟩
  case cameraLinks | memoryLinks | tetherPorts | valveLinks | hostPorts | ethPorts | rings | queues | streams | banks |
      channels | encoders | contexts | computeDies | timeDomains | inputs | outputs | members | pipelines =>
    intro s n hn
    and_intros <;> intros <;> exact guardUnit_of_le hn _ _
  case bdpPorts | ptpPorts =>
    intro s n hn
    and_intros <;> (rintro x rfl; exact guardUnit_of_le hn _ _)
  case streamPackets =>
    intro s i p h
    refine guardUnit_absent ?_ p.link _
    simp only [State.hasLink, Bool.and_eq_false_iff, decide_eq_false_iff_not]
    omega
  case helpers =>
    intro s n h
    refine guardUnit_absent ?_ n _
    simp only [Bool.and_eq_false_iff, decide_eq_false_iff_not]
    omega
  case diePaths =>
    intro s n h
    refine guardUnit_absent ((dieTransport_guard s.mfg.part n).trans ?_) n _
    simp only [Bool.and_eq_false_iff, decide_eq_false_iff_not]
    omega
end

section
/-! PROOFS. The statements on the queue of a step (StepRunsFront, StepIdles) and on the time unit's own rows: the latch of
the source, a sample, the loss of samples, and the tick (SourceIsLatched, SampleMovesTheCount, BeltLossesAreTaken,
TimeMovesOn). -/

namespace Sys2Proof.Machine

/-! ### The rows of the time unit -/

theorem exec_encoderSampleLatch (s : State) : exec .encoderSampleLatch s = .next s.sampleLatch := rfl

theorem exec_sampleComplete (r : EncRead) (s : State) : exec (.sampleComplete r) s = .next (s.completeSample r) := rfl

theorem exec_holdoverEntry (s : State) : exec .holdoverEntry s = .next s.enterHoldover := rfl

theorem exec_beltLost (s : State) : exec .beltLost s = .next s.enterLost := rfl

theorem exec_tclkTick (s : State) : exec .tclkTick s = .next s.tclkTick := rfl

theorem exec_timeCopyUpdate (s : State) : exec .timeCopyUpdate s = .next s.landWord := rfl

/-! ### A sample (R14 to R16) -/

/-- The latch is taken: LastSampleWord holds its word. -/
def State.readLatch (s : State) (word : Nat) : State :=
  ({ s with belt := { s.belt with latch := none } } : State).setReg K.lastSampleWord word

theorem State.readLatch_belt (s : State) (word : Nat) : (s.readLatch word).belt = { s.belt with latch := none } := rfl

theorem State.readLatch_lastSampleWord (s : State) (word : Nat) : (s.readLatch word).reg K.lastSampleWord = word :=
  State.setReg_get ..

theorem State.readLatch_reg {k : Nat} (s : State) (word : Nat) (hk : k ≠ K.lastSampleWord) :
    (s.readLatch word).reg k = s.reg k := State.setReg_ne _ _ hk

/-- bc moved by a difference that keeps it in range (R15). -/
def State.movedBy (s : State) (d : Int) : State := { s with belt := { s.belt with bc := (s.belt.bc + d).toNat } }

theorem State.movedBy_belt (s : State) (d : Int) :
    (s.movedBy d).belt = { s.belt with bc := (s.belt.bc + d).toNat } := rfl

theorem State.movedBy_reg (s : State) (d : Int) (k : Nat) : (s.movedBy d).reg k = s.reg k := rfl

/-- A difference that keeps bc within its range moves it and saturates nothing (R15). -/
theorem State.moveBc_inRange {s : State} {d : Int} (hsat : s.belt.saturated = false) (hlow : 0 ≤ s.belt.bc + d)
    (hhigh : s.belt.bc + d < 2 ^ 48 - 1) : s.moveBc d = (false, s.movedBy d) := by
  unfold State.moveBc
  rw [hsat, if_neg Bool.false_ne_true]
  exact (if_neg (Int.not_lt.2 hlow)).trans (if_neg (Int.not_le.2 hhigh))

/-- The words of a counter source have 32 bits (R14). -/
theorem State.srcBits_counter {s : State} (hsrc : 2 ≤ s.reg K.beltSource) : s.srcBits = 32 :=
  if_neg (by omega)

/-- The sample of a counter source takes the latched word, whatever an encoder reads (R13, R14). -/
theorem State.completeSample_counter {s : State} {l : Latch} (r : EncRead) (hlatch : s.belt.latch = some l)
    (hsrc : 2 ≤ s.reg K.beltSource) : s.completeSample r = (s.readLatch l.word).takeSample l.tick l.word := by
  have hnot : ¬ s.reg K.beltSource ≤ 1 := by omega
  simp [State.completeSample, State.readLatch, hlatch, hnot]

/-- A sample that is neither the first one nor after a change, and whose step is within MaxStepPerSample, moves bc by the
unwrapped difference and is taken (R14, R16). -/
theorem State.takeSample_withinStep {s : State} {tl word : Nat} (hfresh : s.belt.fresh = false)
    (hrebase : s.belt.rebase = false) (hreorigin : s.belt.reorigin = none) (hst : s.belt.st ≠ .lost)
    (hinvert : s.flag K.beltDirectionInvert = false)
    (hstep : (unwrap s.srcBits word s.belt.wPrev).natAbs ≤ s.reg K.maxStepPerSample) :
    s.takeSample tl word =
      (s.moveBc (unwrap s.srcBits word s.belt.wPrev)).2.sampleTaken tl word false
        (s.moveBc (unwrap s.srcBits word s.belt.wPrev)).1 := by
  have hlost : (s.belt.st == .lost) = false := by simpa using hst
  simp [State.takeSample, hfresh, hrebase, hreorigin, hst, hlost, hinvert, Nat.not_lt.2 hstep]

theorem State.sampleTaken_lastSampleWord (s : State) (tl word : Nat) (lost sat : Bool) :
    (s.sampleTaken tl word lost sat).reg K.lastSampleWord = s.reg K.lastSampleWord :=
  (State.sampleTaken_changes s tl word lost sat).entries _ rfl

/-! ### The loss of samples (R16) -/

/-- HOLDOVER that is due is entered in the direction that the belt had. -/
theorem State.enterHoldover_due {s : State}
    (hst : s.belt.st = .forward ∨ s.belt.st = .reverse ∨ s.belt.st = .stopped)
    (hdue : 2 * s.reg K.encoderSamplePeriod < 4 * (s.tick - s.belt.lastValid)) :
    s.enterHoldover = ((s.bump K.holdoverEntries).setBeltSt .holdover s.belt.follow).trackReady :=
  if_pos ⟨hst, hdue⟩

/-- HOLDOVER leaves the position and the speed as they were. -/
theorem State.enterHoldover_belt {s : State}
    (hst : s.belt.st = .forward ∨ s.belt.st = .reverse ∨ s.belt.st = .stopped)
    (hdue : 2 * s.reg K.encoderSamplePeriod < 4 * (s.tick - s.belt.lastValid)) :
    s.enterHoldover.belt = { s.belt with st := .holdover } := by
  simp [State.enterHoldover_due hst hdue, State.setBeltSt_belt]

theorem State.enterHoldover_entries {s : State}
    (hst : s.belt.st = .forward ∨ s.belt.st = .reverse ∨ s.belt.st = .stopped)
    (hdue : 2 * s.reg K.encoderSamplePeriod < 4 * (s.tick - s.belt.lastValid)) :
    s.enterHoldover.reg K.holdoverEntries = (s.reg K.holdoverEntries + 1) % 2 ^ 32 := by
  rw [State.enterHoldover_due hst hdue, State.trackReady_reg, State.setBeltSt_reg _ _ _ _ rfl, State.bump_reg, if_pos rfl,
    K.holdoverEntries_width]

/-- LOST that is due stops the speed and leaves the position as it was. -/
theorem State.enterLost_belt {s : State} (hlost : s.belt.st ≠ .lost) (hsource : s.belt.st ≠ .noSource)
    (hdue : s.reg K.encoderHoldover < 4 * (s.tick - s.belt.lastValid)) :
    s.enterLost.belt =
      { s.belt with st := .lost, follow := .stopped, v := 0, spNum := 0, spDen := 1, isOver := false } := by
  unfold State.enterLost
  rw [if_pos ⟨hlost, hsource, hdue⟩]
  simp [State.setBeltSt_belt]

theorem State.enterLost_events {s : State} (hlost : s.belt.st ≠ .lost) (hsource : s.belt.st ≠ .noSource)
    (hdue : s.reg K.encoderHoldover < 4 * (s.tick - s.belt.lastValid)) :
    s.enterLost.reg K.beltLostEvents = (s.reg K.beltLostEvents + 1) % 2 ^ 32 := by
  unfold State.enterLost
  rw [if_pos ⟨hlost, hsource, hdue⟩, State.trackReady_reg, State.report_reg _ _ _ _ _ _ _ _ rfl,
    State.emit_reg _ _ _ rfl, State.reg_update _ rfl, State.setBeltSt_reg _ _ _ _ rfl, State.bump_reg, if_pos rfl,
    K.beltLostEvents_width]

/-! ### The tick (R18, R19) -/

/-- The emitted IBP, once formed, is the one of its tick: forming it again gives the same. -/
theorem State.formIbp_ibpNow (s : State) : s.formIbp.ibpNow = s.formIbp.belt.ibp := by
  by_cases haway : s.belt.st = .lost ∨ s.belt.st = .noSource
  · simp [State.formIbp_belt, State.ibpNow, haway]
  · simp [State.formIbp_belt, State.ibpNow, State.estimate, haway]

theorem State.nextTick_belt (s : State) :
    s.nextTick.tick = s.tick + 1 ∧ s.nextTick.belt.ibpPrev = s.belt.ibp ∧ s.nextTick.belt.ibp = s.nextTick.ibpNow :=
  ⟨rfl, rfl, (State.formIbp_ibpNow _).symm⟩

theorem State.runTick_tick (s : State) : s.runTick.tick = s.tick :=
  (State.runTick_changes s).areas .tick rfl

theorem State.tclkTick_running {s : State} (hruns : s.timeRuns = true) : s.tclkTick = s.runTick.nextTick := if_pos hruns

theorem State.tclkTick_halted {s : State} (hruns : s.timeRuns = false) :
    s.tclkTick = { s with tick := s.tick + 1 } := by
  rw [State.tclkTick, hruns, if_neg Bool.false_ne_true]

theorem State.landWord_cons {s : State} {w : CorrWord} {rest : List CorrWord} (h : s.net.crossing = w :: rest) :
    s.landWord = { s with net := { s.net with word := w, crossing := rest } } := by
  rw [State.landWord, h]

end Sys2Proof.Machine

open Sys2Proof Sys2Proof.Machine

/-- Settles O1: the front of the queue is what `step` runs. -/
theorem stepRunsFront : Obligations.StepRunsFront := fun _ _ _ => rfl

/-- Settles O2: `step` on an empty queue, and the queue of reset. -/
theorem stepIdles : Obligations.StepIdles := by
  refine ⟨fun s hempty => ?_, rfl⟩
  rw [step, hempty]

/-- Settles O3: a source never latched is due, and one latched before is due once the period has passed. -/
theorem sourceIsLatched : Obligations.SourceIsLatched := by
  intro s hruns hdue
  rw [exec_encoderSampleLatch, State.sampleLatch]
  cases hlast : s.belt.lastLatch with
  | none => simp [hruns]
  | some l =>
    rw [hlast, Option.all_some] at hdue
    simp only [hruns, hdue, Bool.and_self, if_true]

/-- Settles O4: the latched word passes the checks of R14 and R16, its difference stays in the range of R15, and the rest
of a valid sample leaves bc where it stands. -/
theorem sampleMovesTheCount : Obligations.SampleMovesTheCount := by
  intro s r l hlatch hsrc hfresh hrebase hreorigin hsat hst hinvert hstep hlow hhigh
  have hbits : (s.readLatch l.word).srcBits = 32 :=
    State.srcBits_counter (by rwa [State.readLatch_reg s _ (by decide)])
  have hmaxStep : (s.readLatch l.word).reg K.maxStepPerSample = s.reg K.maxStepPerSample :=
    State.readLatch_reg s _ (by decide)
  have hflag : (s.readLatch l.word).flag K.beltDirectionInvert = false := by
    rwa [State.flag, State.readLatch_reg s _ (by decide)]
  have hsample : s.completeSample r =
      ((s.readLatch l.word).movedBy (unwrap 32 l.word s.belt.wPrev)).sampleTaken l.tick l.word false false := by
    rw [State.completeSample_counter r hlatch hsrc,
      State.takeSample_withinStep (s := s.readLatch l.word) hfresh hrebase hreorigin hst hflag
        (by rwa [hbits, hmaxStep]), hbits, State.readLatch_belt,
      State.moveBc_inRange (s := s.readLatch l.word) hsat hlow hhigh]
  have hchanges := State.completeSample_changes s r
  rw [hsample] at hchanges
  obtain ⟨hbc, hwPrev, hlatched, hrejected, hvalid⟩ := State.sampleTaken_belt
    ((s.readLatch l.word).movedBy (unwrap 32 l.word s.belt.wPrev)) l.tick l.word false false
  refine ⟨_, (exec_sampleComplete r s).trans (congrArg _ hsample), ?_, hwPrev, hlatched, hrejected, hvalid, ?_, hchanges⟩
  · rw [hbc, State.movedBy_belt]
    exact Int.toNat_of_nonneg hlow
  · rw [State.sampleTaken_lastSampleWord, State.movedBy_reg, State.readLatch_lastSampleWord]

/-- Settles O5: both losses leave the position where it stands; each frame is that of its row. -/
theorem beltLossesAreTaken : Obligations.BeltLossesAreTaken := by
  refine ⟨fun s hst hdue => ?holdover, fun s hlost hsource hdue => ?lost⟩
  case holdover =>
    have hbelt := State.enterHoldover_belt hst hdue
    exact ⟨_, exec_holdoverEntry s, by rw [hbelt], by rw [hbelt], by rw [hbelt], by rw [hbelt],
      State.enterHoldover_entries hst hdue, State.enterHoldover_changes s⟩
  case lost =>
    have hbelt := State.enterLost_belt hlost hsource hdue
    exact ⟨_, exec_beltLost s, by rw [hbelt], by rw [hbelt], by rw [hbelt], by rw [hbelt], by rw [hbelt],
      State.enterLost_events hlost hsource hdue, State.enterLost_changes s⟩

/-- Settles O6: the tick that ends hands its emitted IBP to the next one, and a word that crosses lands. -/
theorem timeMovesOn : Obligations.TimeMovesOn := by
  refine ⟨fun s hruns => ?halted, fun s hruns => ?running, fun s w rest hcrossing => ?word⟩
  case halted => rw [exec_tclkTick, State.tclkTick_halted hruns]
  case running =>
    have hchanges := State.tclkTick_changes s
    rw [State.tclkTick_running hruns] at hchanges
    obtain ⟨htick, hprev, hibp⟩ := State.nextTick_belt s.runTick
    exact ⟨_, (exec_tclkTick s).trans (congrArg _ (State.tclkTick_running hruns)),
      htick.trans (congrArg (· + 1) (State.runTick_tick s)), hprev, hibp, hchanges⟩
  case word => rw [exec_timeCopyUpdate, State.landWord_cons hcrossing]
end

section
/-! PROOFS. The statements on the supply inputs and the field banks (FieldBanksFollowTheirSupply, SupplyLossStopsTheModule).
Every input takes its polarity through `State.setPolarity` (R44), so what a reversed input switches off is said once, of
that operation. -/

namespace Sys2Proof.Machine

/-! ### The rows of the supplies -/

theorem exec_fieldBankTrip {bank : Nat} (hbank : bank < 4) (ma : Nat) (s : State) :
    exec (.fieldBankTrip bank ma) s = .next (s.bankTrip bank ma) :=
  guardUnit_carried (decide_eq_true hbank) _ _

theorem exec_fieldBankReset {s : State} {sess : Nat} (bank : Nat) (hg : s.gate sess K.fieldBankReset = none) :
    exec (.fieldBankReset sess bank) s =
      .next ((s.bankResetCmd bank).2.answer sess K.fieldBankReset (s.bankResetCmd bank).1) :=
  congrArg Host.Outcome.next (State.runCmd_ok hg)

theorem exec_fieldBankSupplyChange {bank : Nat} (hbank : bank < 4) (mv : Int) (s : State) :
    exec (.fieldBankSupplyChange bank mv) s = .next (s.bankSupply bank mv) :=
  guardUnit_carried (decide_eq_true hbank) _ _

theorem exec_cameraSupplyChange (mv : Int) (s : State) : exec (.cameraSupplyChange mv) s = .next (s.cameraSupply mv) := rfl

theorem exec_logicSupplyDip (mv : Int) (s : State) : exec (.logicSupplyDip mv) s = .next (s.logicDip mv) := rfl

theorem exec_powerFail (mv : Nat) (s : State) : exec (.powerFail mv) s = .next (s.powerFail mv) := rfl

/-! ### Polarity (R44) -/

/-- The reversed inputs once input `u` has the polarity given. -/
theorem State.setPolarity_supplies (s : State) (u : Nat) (reversed : Bool) :
    (s.setPolarity u reversed).supplies = { s.supplies with
      reversed := if reversed then s.supplies.reversed.filter (· != u) ++ [u] else s.supplies.reversed.filter (· != u) } := by
  cases reversed <;> rfl

theorem State.mem_reversed_setPolarity (s : State) (u : Nat) (reversed : Bool) :
    u ∈ (s.setPolarity u reversed).supplies.reversed ↔ reversed = true := by
  rw [State.setPolarity_supplies]
  cases reversed <;> simp

/-- An input of right polarity switches nothing. -/
theorem State.setPolarity_right (s : State) (u : Nat) :
    s.setPolarity u false = { s with supplies := { s.supplies with reversed := s.supplies.reversed.filter (· != u) } } := rfl

/-- A reversed input takes the drive of every direct output and the level of the alive output. -/
theorem State.setPolarity_reversed_field (s : State) (u : Nat) :
    (s.setPolarity u true).field = { s.field with
      alive := { s.field.alive with level := false }
      outs := s.field.outs.map fun p => (p.1, { p.2 with driven := false }) } := rfl

theorem State.setPolarity_reversed_outs (s : State) (u : Nat) :
    ∀ o ∈ (s.setPolarity u true).field.outs, o.2.driven = false := by
  intro o ho
  rw [State.setPolarity_reversed_field] at ho
  obtain ⟨p, -, rfl⟩ := List.mem_map.1 ho
  rfl

/-- While any input is reversed no bank switches its outputs on. -/
theorem State.bankOn_of_reversed {s : State} {u : Nat} (h : u ∈ s.supplies.reversed) (b : Nat) : s.bankOn b = false := by
  have hne : s.supplies.reversed ≠ [] := List.ne_nil_of_mem h
  simp [State.bankOn, hne]

/-! ### Field banks (R45, R47) -/

/-- FieldBankState rests on the fuse and the voltage of its own bank. -/
theorem State.bankState_congr {s t : State} {b : Nat}
    (hfuse : SMap.get 0 t.supplies.fuseOpen b = SMap.get 0 s.supplies.fuseOpen b)
    (hmv : SMap.get 0 t.supplies.bankMv b = SMap.get 0 s.supplies.bankMv b) : t.bankState b = s.bankState b := by
  rw [State.bankState, hfuse, hmv, ← State.bankState]

theorem State.bankState_open {s : State} {b : Nat} (h : SMap.get 0 s.supplies.fuseOpen b ≠ 0) : s.bankState b = 2 :=
  if_pos h

theorem State.bankState_closed {s : State} {b : Nat} (h : SMap.get 0 s.supplies.fuseOpen b = 0) :
    s.bankState b = if SMap.get 0 s.supplies.bankMv b < 18000 then 0 else 1 :=
  if_neg (not_not_intro h)

/-- Switching a bank off drives nothing that was not driven. -/
theorem State.bankOff_outs_off {s : State} (b : Nat) (h : ∀ o ∈ s.field.outs, o.2.driven = false) :
    ∀ o ∈ (s.bankOff b).field.outs, o.2.driven = false := by
  intro o ho
  obtain ⟨p, hp, rfl⟩ := List.mem_map.1 ho
  split
  · rfl
  · exact h p hp

theorem K.fieldBankTrips_width {b : Nat} (hb : b < 4) : counterWidth (K.fieldBankTrips b) = 32 := by
  have h : ∀ b < 4, counterWidth (K.fieldBankTrips b) = 32 := by decide
  exact h b hb

/-- The fuse of a bank opens until FieldBankReset, which may come from the tick before `since` on (R47). -/
def State.openFuse (s : State) (b since : Nat) : State :=
  { s with supplies := { s.supplies with fuseOpen := SMap.set 0 s.supplies.fuseOpen b since } }

theorem State.openFuse_self (s : State) (b since : Nat) :
    SMap.get 0 (s.openFuse b since).supplies.fuseOpen b = since := SMap.get_set_self (0 : Nat) ..

theorem State.openFuse_bankState_ne (s : State) {b c : Nat} (since : Nat) (h : c ≠ b) :
    (s.openFuse b since).bankState c = s.bankState c :=
  State.bankState_congr (SMap.get_set_ne (0 : Nat) 0 _ _ h) rfl

theorem State.bankTrip_over {s : State} {b ma : Nat} (hover : s.reg (K.fieldBankTripCurrent b) < ma)
    (hclosed : SMap.get 0 s.supplies.fuseOpen b = 0) (hruns : s.supplies.inReset = false) :
    s.bankTrip b ma = (((s.openFuse b (s.tick + 250000001)).bankOff b).bump (K.fieldBankTrips b)).report
      FCode.fieldBankTrip Unit.field (b + 65536 * min (2 ^ 32 - 1) ma) :=
  if_pos ⟨hover, hclosed, hruns⟩

/-- A trip touches nothing of the supplies but the fuse of its bank. -/
theorem State.bankTrip_supplies {s : State} {b ma : Nat} (hover : s.reg (K.fieldBankTripCurrent b) < ma)
    (hclosed : SMap.get 0 s.supplies.fuseOpen b = 0) (hruns : s.supplies.inReset = false) :
    (s.bankTrip b ma).supplies = (s.openFuse b (s.tick + 250000001)).supplies := by
  simp [State.bankTrip_over hover hclosed hruns]

/-- The figures that noting a fault may change are none of the trip counters (R47, R405). -/
theorem K.fieldBankTrips_notFaultEntry {b : Nat} (hb : b < 4) : (Entries.only [0x1205, 0x1402, 0x1703,
    K.recordsUnrouted, K.faultLogOverwritten, K.faultRecordsSuppressed]).has (K.fieldBankTrips b) = false := by
  have h : ∀ b < 4, (Entries.only [0x1205, 0x1402, 0x1703, K.recordsUnrouted, K.faultLogOverwritten,
      K.faultRecordsSuppressed]).has (K.fieldBankTrips b) = false := by decide
  exact h b hb

theorem State.bankTrip_trips {s : State} {b ma : Nat} (hb : b < 4) (hover : s.reg (K.fieldBankTripCurrent b) < ma)
    (hclosed : SMap.get 0 s.supplies.fuseOpen b = 0) (hruns : s.supplies.inReset = false) :
    (s.bankTrip b ma).reg (K.fieldBankTrips b) = (s.reg (K.fieldBankTrips b) + 1) % 2 ^ 32 := by
  rw [State.bankTrip_over hover hclosed hruns, State.report_reg _ _ _ _ _ _ _ _ (K.fieldBankTrips_notFaultEntry hb),
    State.bump_reg, if_pos rfl, State.bankOff_reg, State.openFuse, State.reg_update _ rfl, K.fieldBankTrips_width hb]

/-- A fuse that has been open for its 1,000 ms closes; one that is closed stays so. -/
theorem State.bankResetCmd_due {s : State} {b : Nat} (hb : b < 4)
    (hdue : SMap.get 0 s.supplies.fuseOpen b ≤ s.tick + 1) :
    s.bankResetCmd b = ({ s with supplies := { s.supplies with
      fuseOpen := SMap.set 0 s.supplies.fuseOpen b 0 } } : State).cmdOk K.fieldBankReset := by
  unfold State.bankResetCmd
  rw [if_neg (by omega)]
  exact if_neg (Nat.not_lt.2 hdue)

theorem State.bankResetCmd_early {s : State} {b : Nat} (hb : b < 4)
    (hearly : s.tick + 1 < SMap.get 0 s.supplies.fuseOpen b) : s.bankResetCmd b = (Status.bankRetryWait, s) := by
  unfold State.bankResetCmd
  rw [if_neg (by omega)]
  exact if_pos hearly

/-- A bank's voltage and the polarity that goes with it (R44, R45). -/
def State.takeBankMv (s : State) (b : Nat) (mv : Int) : State :=
  ({ s with supplies := { s.supplies with bankMv := SMap.set 0 s.supplies.bankMv b mv.toNat } } : State).setPolarity (2 + b)
    (decide (mv < 0))

theorem State.bankSupply_eq (s : State) (b : Nat) (mv : Int) :
    s.bankSupply b mv = if mv < 18000 then (s.takeBankMv b mv).bankOff b else s.takeBankMv b mv := rfl

theorem State.bankSupply_supplies (s : State) (b : Nat) (mv : Int) :
    (s.bankSupply b mv).supplies = (s.takeBankMv b mv).supplies := by
  rw [State.bankSupply_eq]
  split
  · simp
  · rfl

theorem State.bankSupply_fuseOpen (s : State) (b : Nat) (mv : Int) :
    (s.bankSupply b mv).supplies.fuseOpen = s.supplies.fuseOpen := by
  rw [State.bankSupply_supplies, State.takeBankMv, State.setPolarity_supplies]

theorem State.bankSupply_bankMv (s : State) (b : Nat) (mv : Int) :
    (s.bankSupply b mv).supplies.bankMv = SMap.set 0 s.supplies.bankMv b mv.toNat := by
  rw [State.bankSupply_supplies, State.takeBankMv, State.setPolarity_supplies]

theorem State.mem_reversed_bankSupply (s : State) (b : Nat) (mv : Int) :
    2 + b ∈ (s.bankSupply b mv).supplies.reversed ↔ mv < 0 := by
  rw [State.bankSupply_supplies, State.takeBankMv, State.mem_reversed_setPolarity, decide_eq_true_iff]

theorem State.bankSupply_reversed_outs {s : State} {b : Nat} {mv : Int} (h : mv < 0) :
    ∀ o ∈ (s.bankSupply b mv).field.outs, o.2.driven = false := by
  rw [State.bankSupply_eq, if_pos (by omega)]
  refine State.bankOff_outs_off b ?_
  rw [State.takeBankMv, decide_eq_true h]
  exact State.setPolarity_reversed_outs _ _

/-! ### The camera input (R45, R93) -/

theorem State.dropCtl_cam_ne (s : State) {l m : Nat} (h : m ≠ l) : (s.dropCtl l).cam m = s.cam m := by
  unfold State.dropCtl
  rw [State.setCam_cam, if_neg h]
  split <;> rfl

/-- The loss of camera power on a link leaves every other link. -/
theorem State.powerLost_cam_ne (s : State) {l m : Nat} (h : m ≠ l) : (s.powerLost l).cam m = s.cam m := by
  unfold State.powerLost
  simp only []
  repeat' split
  all_goals simp [State.setCam_cam, State.dropCtl_cam_ne, h]

/-- Camera power goes off on a link, with what the loss of it sets off (R93). -/
def State.camOff (s : State) (l : Nat) : State :=
  let s := s.powerLost l
  if (s.cam l).powered then s.setCam l { s.cam l with powered := false } else s

theorem State.camOff_powered (s : State) (l : Nat) : ((s.camOff l).cam l).powered = false := by
  unfold State.camOff
  simp only []
  split
  case isTrue => rw [State.setCam_cam, if_pos rfl]
  case isFalse hoff => simpa using hoff

theorem State.camOff_cam_ne (s : State) {l m : Nat} (h : m ≠ l) : (s.camOff l).cam m = s.cam m := by
  unfold State.camOff
  simp only []
  split
  · rw [State.setCam_cam, if_neg h, State.powerLost_cam_ne _ h]
  · exact State.powerLost_cam_ne _ h

/-- A loop whose round for `x` brings about what is asked of `x`, and keeps it of every other, brings it about for all. -/
theorem foldl_reaches {α : Type} {f : State → α → State} {P : State → α → Prop} (hself : ∀ s x, P (f s x) x)
    (hother : ∀ s x y, y ≠ x → P s y → P (f s x) y) (L : List α) (s : State) {y : α} (h : y ∈ L ∨ P s y) :
    P (L.foldl f s) y := by
  induction L generalizing s with
  | nil => exact h.resolve_left List.not_mem_nil
  | cons x r ih =>
    refine ih (f s x) ?_
    by_cases hyx : y = x
    · exact .inr (hyx ▸ hself s y)
    · exact h.imp (fun hm => (List.mem_cons.1 hm).resolve_left hyx) (hother s x y hyx)

/-- The voltage of the camera input and the polarity that goes with it (R44, R45). -/
def State.takeCameraMv (s : State) (mv : Int) : State :=
  ({ s with supplies := { s.supplies with cameraMv := mv.toNat } } : State).setPolarity 1 (decide (mv < 0))

theorem State.cameraSupply_low {s : State} {mv : Int} (h : mv < 20000) :
    s.cameraSupply mv = (List.range 24).foldl State.camOff (s.takeCameraMv mv) := if_pos h

theorem State.camOff_supplies (s : State) (l : Nat) : (s.camOff l).supplies = s.supplies := by
  have hlost : (s.powerLost l).supplies = s.supplies := (State.powerLost_changes s l).areas .supplies rfl
  unfold State.camOff
  simp only []
  split
  · rw [← hlost]
    simp
  · exact hlost

/-- The loops over the links leave the supplies as the camera input has set them. -/
theorem State.cameraSupply_supplies (s : State) (mv : Int) :
    (s.cameraSupply mv).supplies = (s.takeCameraMv mv).supplies := by
  unfold State.cameraSupply
  simp only []
  split
  · exact foldl_view State.supplies State.camOff _ _ State.camOff_supplies
  · refine foldl_view State.supplies _ _ _ fun s l => ?_
    split <;> simp

theorem State.cameraSupply_powered {s : State} {mv : Int} (h : mv < 20000) {l : Nat} (hl : l < 24) :
    ((s.cameraSupply mv).cam l).powered = false := by
  rw [State.cameraSupply_low h]
  refine foldl_reaches (P := fun s l => (s.cam l).powered = false) State.camOff_powered ?_ _ _
    (.inl (List.mem_range.2 hl))
  intro s x y hyx hoff
  rwa [State.camOff_cam_ne s hyx]

/-! ### The logic input (R46) -/

/-- The thresholds of the logic input, which hold whatever its polarity (R46). -/
def State.takeLogicMv (s : State) (mv : Int) : State :=
  { s with supplies := { s.supplies with
      logicLow := if mv.toNat < 19200 then s.supplies.logicLow.or (some s.tick) else none
      logicOk := if 20400 < mv.toNat then s.supplies.logicOk.or (some (s.tick + 25000000)) else none
      logicMin := if mv.toNat < 19200 then
        (if s.supplies.logicLow.isSome then min s.supplies.logicMin mv.toNat else mv.toNat) else s.supplies.logicMin } }

theorem State.logicDip_eq (s : State) (mv : Int) : s.logicDip mv = (s.takeLogicMv mv).setPolarity 0 (decide (mv < 0)) := rfl

/-- A dip below 19.2 V: the tick at which it began is kept, and its least voltage. -/
theorem State.logicDip_low {s : State} {mv : Int} (hright : 0 ≤ mv) (hlow : mv < 19200) :
    s.logicDip mv = { s with supplies := { s.supplies with
      logicLow := s.supplies.logicLow.or (some s.tick)
      logicMin := if s.supplies.logicLow.isSome then min s.supplies.logicMin mv.toNat else mv.toNat
      logicOk := none
      reversed := s.supplies.reversed.filter (· != 0) } } := by
  have hlow' : mv.toNat < 19200 := by omega
  have hnotOk : ¬ 20400 < mv.toNat := by omega
  rw [State.logicDip_eq, decide_eq_false (Int.not_lt.2 hright), State.setPolarity_right]
  simp only [State.takeLogicMv, if_pos hlow', if_neg hnotOk]

theorem State.logicDip_reversed {s : State} {mv : Int} (h : mv < 0) :
    s.logicDip mv = (s.takeLogicMv mv).setPolarity 0 true := by
  rw [State.logicDip_eq, decide_eq_true h]

/-! ### A power-fail (R46) -/

theorem State.bumpSat_faults (s : State) (k : Nat) : (s.bumpSat k).faults = s.faults :=
  (State.bumpSat_changes s k 1).areas .faults rfl

/-- Counting an overwrite leaves the entries of the non-volatile log. -/
theorem State.overwrote_nv (s : State) (log : Nat) (silent : Bool) :
    (s.overwrote log silent).faults.nv = s.faults.nv := by
  unfold State.overwrote
  simp only []
  repeat' split
  all_goals simp [State.bumpSat_faults]

theorem State.mem_logFaultNv (s : State) (e : FaultEntry) (silent : Bool) : e ∈ (s.logFaultNv e silent).faults.nv := by
  unfold State.logFaultNv
  split
  · exact List.mem_concat_self
  · rw [State.overwrote_nv]
    exact List.mem_concat_self

/-- A fault of the non-volatile log stands in it once it is noted (R425). -/
theorem State.noteFault_nv (s : State) {code : Nat} (hnv : nvFaults.contains code = true) (scope : Scope)
    (src ctx detail : Nat) (p : Option Nat) : ∃ e ∈ (s.noteFault code scope src ctx detail p).2.faults.nv, e.code = code := by
  have hcounted : ∀ (ok : Bool) (s : State) k, (if ok then s else s.bump k).faults = s.faults := by
    intro ok s k
    cases ok <;> simp
  unfold State.noteFault
  simp only [hnv, if_true, hcounted, State.bump_same]
  exact ⟨_, State.mem_logFaultNv .., rfl⟩

/-- A table filled from a list of numbers reads as it was filled. -/
theorem SMap.get_foldl_set {d v : Nat → Nat} (L : List Nat) (m : SMap Nat) {k : Nat}
    (h : k ∈ L ∨ SMap.get (d k) m k = v k) :
    SMap.get (d k) (L.foldl (fun m j => SMap.set (d j) m j (v j)) m) k = v k := by
  induction L generalizing m with
  | nil => exact h.resolve_left List.not_mem_nil
  | cons x r ih =>
    refine ih _ ?_
    by_cases hkx : k = x
    · exact .inr (by rw [hkx, SMap.get_set_self])
    · exact h.imp (fun hm => (List.mem_cons.1 hm).resolve_left hkx) fun hv => by rwa [SMap.get_set_ne _ _ _ _ hkx]

/-- A reset of the module leaves the entries that it keeps. -/
theorem State.enterReset_reg (s : State) {code k : Nat} (h : k ∈ resetKeeps code) :
    (s.enterReset code).reg k = s.reg k :=
  SMap.get_foldl_set (d := defaultOf s.mfg) (v := s.reg) (resetKeeps code) [] (.inl h)

/-- What the module in reset holds: its time, its non-volatile log, and a start-up that is due (R46, R466). -/
theorem State.enterReset_holds (s : State) (code : Nat) :
    (s.enterReset code).tick = s.tick ∧ (s.enterReset code).supplies.inReset = true ∧
      (s.enterReset code).supplies.resetDue = some code ∧ (s.enterReset code).ctl.serving = false ∧
      (s.enterReset code).boot.step = 2 ∧ (s.enterReset code).faults.nv = s.faults.nv := ⟨rfl, rfl, rfl, rfl, rfl, rfl⟩

/-- The outputs go off, and the 2 ms of the steps of R46 pass. -/
def State.failSteps (s : State) (t : Nat) : State := { s.outputsOff with tick := max s.tick (t + 750000) }

/-- The entry of the power-fail, with the least voltage (R46). -/
def State.failNoted (s : State) (mv : Nat) : State :=
  (s.noteFault FCode.powerFail .reset Unit.power 0xFF (65536 * min 65535 (min mv s.supplies.logicMin))).2

theorem State.powerFail_due {s : State} {t : Nat} (mv : Nat) (hlow : s.supplies.logicLow = some t)
    (hlong : t + 250000 < s.tick) (hlive : s.supplies.inReset = false ∨ s.power.st = .standby) :
    s.powerFail mv = ((s.failSteps t).failNoted mv).enterReset FCode.powerFail := by
  have htick : s.outputsOff.tick = s.tick := (State.outputsOff_changes s).areas .tick rfl
  simp [State.powerFail, hlow, Nat.not_le.2 hlong, hlive, State.failSteps, State.failNoted, htick]

theorem State.failNoted_tick (s : State) (mv t : Nat) :
    ((s.failSteps t).failNoted mv).tick = max s.tick (t + 750000) :=
  (State.noteFault_changes (s.failSteps t) ..).areas .tick rfl

theorem State.failNoted_bootCount (s : State) (mv t : Nat) :
    ((s.failSteps t).failNoted mv).reg K.bootCount = s.reg K.bootCount := by
  rw [State.failNoted, State.noteFault_reg _ _ _ _ _ _ _ _ (by decide), State.failSteps, State.reg_update _ rfl]
  exact (State.outputsOff_changes s).entries _ (by decide)

end Sys2Proof.Machine

open Sys2Proof Sys2Proof.Machine

/-- Settles O8: a trip, FieldBankReset and a change of voltage each touch their own bank's fuse or voltage alone. -/
theorem fieldBanksFollowTheirSupply : Obligations.FieldBanksFollowTheirSupply := by
  refine ⟨fun s bank ma hbank hover hclosed hruns => ?trip, fun s sess bank hgate hbank hdue => ?due,
    fun s sess bank hgate hbank hearly => ?early, fun s bank mv hbank => ?supply⟩
  case trip =>
    have hsupplies := State.bankTrip_supplies hover hclosed hruns
    have hfuse : SMap.get 0 (s.bankTrip bank ma).supplies.fuseOpen bank = s.tick + 250000001 := by
      rw [hsupplies, State.openFuse_self]
    have hopen : SMap.get 0 (s.bankTrip bank ma).supplies.fuseOpen bank ≠ 0 := hfuse ▸ Nat.succ_ne_zero _
    refine ⟨_, exec_fieldBankTrip hbank ma s, State.bankState_open hopen, hfuse, fun b hne => ?_,
      State.bankTrip_trips hbank hover hclosed hruns, State.bankTrip_changes s bank ma⟩
    rw [State.bankState, hsupplies, ← State.bankState, State.openFuse_bankState_ne s _ hne]
  case due => rw [exec_fieldBankReset bank hgate, State.bankResetCmd_due hbank hdue]; rfl
  case early => rw [exec_fieldBankReset bank hgate, State.bankResetCmd_early hbank hearly]
  case supply =>
    have hmv : SMap.get 0 (s.bankSupply bank mv).supplies.bankMv bank = mv.toNat := by
      rw [State.bankSupply_bankMv, SMap.get_set_self]
    have hreversed := State.mem_reversed_bankSupply s bank mv
    refine ⟨_, exec_fieldBankSupplyChange hbank mv s, hmv, hreversed,
      fun hneg => ⟨State.bankOn_of_reversed (hreversed.2 hneg), State.bankSupply_reversed_outs hneg⟩,
      fun b hne => ?others, fun hclosed => ?own, State.bankSupply_changes s bank mv⟩
    case others =>
      refine State.bankState_congr ?_ ?_
      · rw [State.bankSupply_fuseOpen]
      · rw [State.bankSupply_bankMv, SMap.get_set_ne _ _ _ _ hne]
    case own =>
      have hthreshold : mv.toNat < 18000 ↔ mv < 18000 := by omega
      rw [State.bankState_closed (by rwa [State.bankSupply_fuseOpen]), hmv]
      simp only [hthreshold]

/-- Settles O9: the camera input ends camera power link by link; the logic input is followed, and a dip that lasts ends in
the steps of R46 and the reset. -/
theorem supplyLossStopsTheModule : Obligations.SupplyLossStopsTheModule := by
  refine ⟨fun s mv => ?camera, fun s mv hright hlow => ?dip, fun s mv hneg => ?reversed,
    fun s mv t0 hlow hlong hlive => ?fail⟩
  case camera =>
    refine ⟨_, exec_cameraSupplyChange mv s, ?_, fun hlow l hl => State.cameraSupply_powered hlow hl,
      State.cameraSupply_changes s mv⟩
    rw [State.cameraSupply_supplies, State.takeCameraMv, State.setPolarity_supplies]
    simp only [decide_eq_true_eq]
  case dip => rw [exec_logicSupplyDip, State.logicDip_low hright hlow]
  case reversed =>
    have hchanges := State.logicDip_changes s mv
    rw [State.logicDip_reversed hneg] at hchanges
    have hmem := (State.mem_reversed_setPolarity (s.takeLogicMv mv) 0 true).2 rfl
    exact ⟨_, (exec_logicSupplyDip mv s).trans (congrArg _ (State.logicDip_reversed hneg)), hmem,
      State.bankOn_of_reversed hmem, State.setPolarity_reversed_outs _ _, rfl, hchanges⟩
  case fail =>
    have hchanges := State.powerFail_changes s mv
    rw [State.powerFail_due mv hlow hlong hlive] at hchanges
    obtain ⟨hkeptTick, hreset, hdue, hserving, hstep, hkeptLog⟩ :=
      State.enterReset_holds ((s.failSteps t0).failNoted mv) FCode.powerFail
    refine ⟨_, (exec_powerFail mv s).trans (congrArg _ (State.powerFail_due mv hlow hlong hlive)), ?time, hreset, hdue,
      hserving, hstep, ?log, ?bootCount, hchanges⟩
    case time => rw [hkeptTick, State.failNoted_tick]; exact Nat.le_max_right _ _
    case log => rw [hkeptLog]; exact State.noteFault_nv _ (by decide) _ _ _ _ _
    case bootCount => rw [State.enterReset_reg _ (by decide), State.failNoted_bootCount]
end

section
/-! PROOFS. The statements on the camera intake (LinkPowersUp and LinkIdentifiesAndAnswers hold; LinkLockIsKept,
TriggersAndLinesArePaired and CameraEventsAndPower fail). What an operation leaves in its link is said once, of that
operation; a refutation evaluates one row on a small state. -/

namespace Sys2Proof.Machine

/-! ### The rows of the intake -/

theorem exec_loadSenseRetry {s : State} {l : Nat} (hlink : s.hasLink l = true) (ohms : Nat) :
    exec (.loadSenseRetry l ohms) s = .next (s.loadSense l ohms) := guardUnit_carried hlink _ _

theorem exec_softStartDone {s : State} {l : Nat} (hlink : s.hasLink l = true) :
    exec (.softStartDone l) s = .next (s.softStartDone l) := guardUnit_carried hlink _ _

theorem exec_cameraBootTimeExpiry {s : State} {l : Nat} (hlink : s.hasLink l = true) :
    exec (.cameraBootTimeExpiry l) s = .next (s.bootTimeExpiry l) := guardUnit_carried hlink _ _

theorem exec_wordLockGained {s : State} {l : Nat} (hlink : s.hasLink l = true) :
    exec (.wordLockGained l) s = .next (s.lockGained l) := guardUnit_carried hlink _ _

theorem exec_identificationRetry {i : Nat} (hi : i < 16) (s : State) :
    exec (.identificationRetry i) s = .next (s.identRetry i) := guardUnit_carried (decide_eq_true hi) _ _

theorem exec_connectionTestEnd {s : State} {l : Nat} (hlink : s.hasLink l = true) (errors : Nat) :
    exec (.connectionTestEnd l errors) s = .next (s.connectionTestEnd l errors) := guardUnit_carried hlink _ _

theorem exec_controlAcknowledgment {s : State} {l : Nat} (hlink : s.hasLink l = true) (a : CtlAck) :
    exec (.controlAcknowledgment l a) s = .next (s.controlAck l a) := guardUnit_carried hlink _ _

theorem exec_controlAckTimeout {s : State} {l : Nat} (hlink : s.hasLink l = true) :
    exec (.controlAckTimeout l) s = .next (s.controlAckTimeout l) := guardUnit_carried hlink _ _

theorem exec_triggerPacket {i : Nat} (hi : i < 16) (s : State) :
    exec (.triggerPacket i) s = .next (s.triggerPacket i) := guardUnit_carried (decide_eq_true hi) _ _

theorem exec_linkTestPattern {s : State} {l : Nat} (hlink : s.hasLink l = true) (errors : Nat) :
    exec (.linkTestPattern l errors) s = .next (s.linkTestBits l errors) := guardUnit_carried hlink _ _

/-! ### Load sense, soft start and boot time (R86, R93) -/

theorem State.msSince_iff {s : State} {t ms : Nat} : s.msSince t ms = true ↔ t + ms * 250000 ≤ s.tick := decide_eq_true_iff

theorem State.loadSense_inRange {s : State} {l ohms : Nat} (hst : (s.cam l).st = .powering) (hstep : (s.cam l).step = .sense)
    (hload : 2000 ≤ ohms ∧ ohms ≤ 30000) :
    s.loadSense l ohms =
      (s.setCam l { s.cam l with step := .softStart, powered := true, since := s.tick }).setReg (K.linkFailCause l) 0 := by
  simp [State.loadSense, hst, hstep, hload]

theorem State.loadSense_outOfRange {s : State} {l ohms : Nat} (hst : (s.cam l).st = .powering)
    (hstep : (s.cam l).step = .sense) (hload : ¬ (2000 ≤ ohms ∧ ohms ≤ 30000)) :
    s.loadSense l ohms =
      (s.setCam l { s.cam l with st := .powerFault, step := .none, since := s.tick }).setReg (K.linkFailCause l) 1 := by
  simp [State.loadSense, hst, hstep, hload]

/-- The load sense touches no other link. -/
theorem State.loadSense_cam_ne (s : State) {l m : Nat} (ohms : Nat) (h : m ≠ l) : (s.loadSense l ohms).cam m = s.cam m := by
  unfold State.loadSense
  simp only []
  repeat' split
  all_goals simp [State.setCam_cam, h]

theorem State.softStartDone_due {s : State} {l : Nat} (hst : (s.cam l).st = .powering)
    (hstep : (s.cam l).step = .softStart) (hdue : (s.cam l).since + 5000000 ≤ s.tick) :
    s.softStartDone l = s.setCam l { s.cam l with step := .boot, since := s.tick } :=
  if_pos ⟨hst, hstep, State.msSince_iff.2 hdue⟩

theorem State.bootTimeExpiry_due {s : State} {l : Nat} (hst : (s.cam l).st = .powering) (hstep : (s.cam l).step = .boot)
    (hdue : (s.cam l).since + s.reg K.cameraBootTime * 250000 ≤ s.tick) : s.bootTimeExpiry l = s.toDiscovery l :=
  if_pos ⟨hst, hstep, State.msSince_iff.2 hdue⟩

/-- Dropping a link's control commands leaves the rest of the link. -/
theorem State.dropCtl_cam_self (s : State) (l : Nat) : (s.dropCtl l).cam l = { s.cam l with ctl := [] } := by
  unfold State.dropCtl
  rw [State.setCam_cam, if_pos rfl]
  split <;> rfl

theorem State.toDiscovery_cam_self (s : State) (l : Nat) :
    (s.toDiscovery l).cam l = { s.cam l with
      st := .discovery, step := .none, lock := false, since := s.tick, ident := none, hostIdOk := false,
      switching := false, tested := false, inTest := false, ctl := [] } := by
  simp [State.toDiscovery, State.setCam_cam, State.dropCtl_cam_self]

theorem State.toDiscovery_cam_ne (s : State) {l m : Nat} (h : m ≠ l) : (s.toDiscovery l).cam m = s.cam m := by
  simp [State.toDiscovery, State.setCam_cam, State.dropCtl_cam_ne, h]

theorem State.toDiscovery_linkRate (s : State) (l : Nat) : (s.toDiscovery l).reg (K.linkRate l) = 1 :=
  State.setReg_get ..

/-! ### Identification (R86, step 3) -/

/-- One round of step 3: the bootstrap registers of a link are read. -/
def State.askIdent (s : State) (l : Nat) : State :=
  let s := s.dropCtl l
  (s.setCam l { s.cam l with st := .configuring, ident := none, hostIdOk := false }).camCtl l .ident

theorem State.identify_eq (s : State) (i : Nat) : s.identify i = (s.stream i).links.foldl State.askIdent s := rfl

/-- A link whose bootstrap registers are being read: it waits for that one answer. -/
def State.identAsked (s : State) (l : Nat) : Prop :=
  (s.cam l).st = .configuring ∧ (s.cam l).ident = none ∧ (s.cam l).ctl.map (·.op) = [CtlOp.ident]

theorem State.askIdent_asks (s : State) (l : Nat) : (s.askIdent l).identAsked l := by
  simp [State.identAsked, State.askIdent, State.camCtl_cam, State.setCam_cam, State.dropCtl_cam_self]

theorem State.askIdent_cam_ne (s : State) {l m : Nat} (h : m ≠ l) : (s.askIdent l).cam m = s.cam m := by
  simp [State.askIdent, State.camCtl_cam, State.setCam_cam, State.dropCtl_cam_ne, h]

/-- Step 3 of R86 reaches every link of the stream. -/
theorem State.identify_asks (s : State) {i l : Nat} (h : l ∈ (s.stream i).links) : (s.identify i).identAsked l := by
  rw [State.identify_eq]
  refine foldl_reaches (P := State.identAsked) State.askIdent_asks ?_ _ _ (.inl h)
  intro s x y hyx hasked
  rwa [State.identAsked, State.askIdent_cam_ne s hyx]

theorem State.identRetry_due {s : State} {i : Nat} (hst : (s.stream i).st = .starting) (hlinks : (s.stream i).links ≠ [])
    (hcause : ((s.stream i).links.all fun l => s.reg (K.linkFailCause l) == 3) = true)
    (hdue : (s.stream i).identAt + 250000000 ≤ s.tick) : s.identRetry i = s.identify i :=
  if_pos ⟨hst, hlinks, hcause, State.msSince_iff.2 hdue⟩

/-! ### The connection test (R86, step 5) -/

/-- A link's test has ended with a count of errors. -/
def State.linkTested (s : State) (l errors : Nat) : State :=
  s.setCam l { s.cam l with testErrors := errors, tested := true }

@[simp] theorem State.setCam_linkStream (s : State) (l : Nat) (x : CamLink) (m : Nat) :
    (s.setCam l x).linkStream m = s.linkStream m := by
  simp [State.linkStream]

theorem State.linkTested_cam (s : State) (l errors m : Nat) : (s.linkTested l errors).cam m =
    if m = l then { s.cam l with testErrors := errors, tested := true } else s.cam m := State.setCam_cam ..

theorem State.linkTested_tested (s : State) (l errors m : Nat) :
    ((s.linkTested l errors).cam m).tested = (m == l || (s.cam m).tested) := by
  rw [State.linkTested_cam]
  split <;> simp [*]

/-- The end of a link's test: its stream waits for the other links, and then passes or fails the rate. -/
theorem State.connectionTestEnd_due {s : State} {l i errors : Nat} (hst : (s.cam l).st = .testing)
    (htested : (s.cam l).tested = false) (hdue : (s.cam l).since + s.reg K.connectionTestTime * 250000 ≤ s.tick)
    (hstream : s.linkStream l = some i) :
    s.connectionTestEnd l errors =
      if (s.stream i).links.all fun m => ((s.linkTested l errors).cam m).tested then
        if (s.stream i).links.all fun m => decide (((s.linkTested l errors).cam m).testErrors ≤
            (s.linkTested l errors).reg K.connectionTestErrorLimit) then
          (s.linkTested l errors).camCtl (s.stream i).master .testOff
        else (s.linkTested l errors).rateFailed i
      else s.linkTested l errors := by
  refine (if_pos ⟨.inl hst, htested, State.msSince_iff.2 hdue⟩).trans ?_
  simp only [State.setCam_linkStream, hstream, State.setCam_stream]
  rfl

/-- A stream some other link of which is still tested waits for it. -/
theorem State.connectionTestEnd_waits {s : State} {l i errors : Nat} (hst : (s.cam l).st = .testing)
    (htested : (s.cam l).tested = false) (hdue : (s.cam l).since + s.reg K.connectionTestTime * 250000 ≤ s.tick)
    (hstream : s.linkStream l = some i) (hopen : ((s.stream i).links.all fun m => m == l || (s.cam m).tested) = false) :
    s.connectionTestEnd l errors = s.linkTested l errors := by
  rw [State.connectionTestEnd_due hst htested hdue hstream, if_neg]
  simpa only [State.linkTested_tested, Bool.not_eq_true] using hopen

/-- A link passes where it was within the limit before, or is the one whose test ends now. -/
theorem State.linkTested_passes {s : State} {l errors m : Nat}
    (hpassed : (m == l || ((s.cam m).tested && decide ((s.cam m).testErrors ≤ s.reg K.connectionTestErrorLimit))) = true)
    (herrors : errors ≤ s.reg K.connectionTestErrorLimit) :
    ((s.linkTested l errors).cam m).tested = true ∧
      ((s.linkTested l errors).cam m).testErrors ≤ (s.linkTested l errors).reg K.connectionTestErrorLimit := by
  have hlimit : (s.linkTested l errors).reg K.connectionTestErrorLimit = s.reg K.connectionTestErrorLimit :=
    State.setCam_reg _ _ _ _ (by decide)
  rw [hlimit, State.linkTested_cam]
  split
  case isTrue => exact ⟨rfl, herrors⟩
  case isFalse hne => simpa [hne] using hpassed

/-- Once every link has counted no more errors than admitted, the camera leaves its test mode. -/
theorem State.connectionTestEnd_passes {s : State} {l i errors : Nat} (hst : (s.cam l).st = .testing)
    (htested : (s.cam l).tested = false) (hdue : (s.cam l).since + s.reg K.connectionTestTime * 250000 ≤ s.tick)
    (hstream : s.linkStream l = some i)
    (hpassed : ((s.stream i).links.all fun m => m == l ||
      ((s.cam m).tested && decide ((s.cam m).testErrors ≤ s.reg K.connectionTestErrorLimit))) = true)
    (herrors : errors ≤ s.reg K.connectionTestErrorLimit) :
    s.connectionTestEnd l errors = (s.linkTested l errors).camCtl (s.stream i).master .testOff := by
  have heach := fun m hm => State.linkTested_passes (List.all_eq_true.1 hpassed m hm) herrors
  rw [State.connectionTestEnd_due hst htested hdue hstream, if_pos (List.all_eq_true.2 fun m hm => (heach m hm).1),
    if_pos (List.all_eq_true.2 fun m hm => decide_eq_true (heach m hm).2)]

/-- The command joins those of the master link, whichever link's test ended last. -/
theorem State.linkTested_camCtl_ops (s : State) (l errors m : Nat) (op : CtlOp) :
    (((s.linkTested l errors).camCtl m op).cam m).ctl.map (·.op) = (s.cam m).ctl.map (·.op) ++ [op] := by
  have hctl : ((s.linkTested l errors).cam m).ctl = (s.cam m).ctl := by
    rw [State.linkTested_cam]
    split <;> simp [*]
  simp [State.camCtl_cam, hctl]

/-! ### Control acknowledgments (R92, R98) -/

@[simp] theorem State.sendUplink_cam (s : State) (l tag op addr : Nat) (data : List Byte) (m : Nat) :
    (s.sendUplink l tag op addr data).cam m = s.cam m := by
  simp [State.cam]

@[simp] theorem State.cmdSet_cam (s : State) (k v m : Nat) : (s.cmdSet k v).cam m = s.cam m := rfl

@[simp] theorem State.setBlob_cam (s : State) (k : Nat) (v : List Byte) (m : Nat) : (s.setBlob k v).cam m = s.cam m := rfl

theorem K.crcErrors_width {l : Nat} (hl : l < 24) : counterWidth (K.crcErrors l) = 32 := by
  have h : ∀ l < 24, counterWidth (K.crcErrors l) = 32 := by decide
  exact h l hl

/-- No assembly has more than 24 camera links (R1). -/
theorem State.hasLink_lt {s : State} {l : Nat} (h : s.hasLink l = true) : l < 24 := by
  have hfitted : ∀ p : Part, p.links ≤ 24 := by intro p; cases p <;> decide
  exact Nat.lt_of_lt_of_le (of_decide_eq_true h) (hfitted _)

/-- What a link's oldest command is once it has been sent again (R92). -/
def CtlCmd.resent (c : CtlCmd) (tick : Nat) : CtlCmd := { c with tries := c.tries + 1, sentAt := tick }

theorem State.ctlResend_again {s : State} {l : Nat} {c : CtlCmd} {rest : List CtlCmd} (hctl : (s.cam l).ctl = c :: rest)
    (htries : c.tries < 4) :
    s.ctlResend l = (s.setCam l { s.cam l with ctl := c.resent s.tick :: rest }).sendUplink l c.tag c.op.code c.addr
      c.data := by
  unfold State.ctlResend
  simp only [hctl, if_pos htries]
  rfl

/-- A command whose acknowledgment was bad or stayed away is counted and sent again (R92). -/
theorem State.crcResend_holds {s : State} {l : Nat} {c : CtlCmd} {rest : List CtlCmd} (hlink : s.hasLink l = true)
    (hctl : (s.cam l).ctl = c :: rest) (htries : c.tries < 4) :
    (((s.bump (K.crcErrors l)).ctlResend l).cam l).ctl = c.resent s.tick :: rest ∧
      ((s.bump (K.crcErrors l)).ctlResend l).reg (K.crcErrors l) = (s.reg (K.crcErrors l) + 1) % 2 ^ 32 := by
  constructor
  · rw [State.ctlResend_again (by rwa [State.bump_cam]) htries]
    simp [State.setCam_cam]
  · rw [State.ctlResend_reg _ _ _ (by simp), State.bump_reg, if_pos rfl, K.crcErrors_width (State.hasLink_lt hlink)]

theorem State.controlAck_badCrc {s : State} {l : Nat} {c : CtlCmd} {rest : List CtlCmd} {a : CtlAck}
    (hctl : (s.cam l).ctl = c :: rest) (hcrc : a.crcOk = false) :
    s.controlAck l a = (s.bump (K.crcErrors l)).ctlResend l := by
  simp [State.controlAck, hctl, hcrc]

theorem State.controlAck_answered {s : State} {l : Nat} {c : CtlCmd} {rest : List CtlCmd} {a : CtlAck}
    (hctl : (s.cam l).ctl = c :: rest) (hcrc : a.crcOk = true) (htag : a.tag = none ∨ a.tag = some c.tag)
    (hcode : a.code = 0) : s.controlAck l a = (s.setCam l { s.cam l with ctl := rest }).acked l c a := by
  unfold State.controlAck
  rcases htag with htag | htag <;> simp [hctl, hcrc, htag, hcode]

theorem State.controlAckTimeout_due {s : State} {l : Nat} {c : CtlCmd} {rest : List CtlCmd}
    (hctl : (s.cam l).ctl = c :: rest) (hdue : c.sentAt + 50000000 ≤ s.tick) :
    s.controlAckTimeout l = (s.bump (K.crcErrors l)).ctlResend l := by
  unfold State.controlAckTimeout
  simp only [hctl]
  exact if_pos (State.msSince_iff.2 hdue)

theorem State.acked_regRead {s : State} {l i : Nat} {c : CtlCmd} (a : CtlAck) (hstream : s.linkStream l = some i)
    (hop : c.op = .regRead) :
    s.acked l c a = (s.setBlob K.cameraRegData a.data).cmdSet K.cameraRegCommand Status.ok := by
  simp [State.acked, hstream, hop, CtlOp.bringUp]

/-! ### Refuting states -/

/-- Links 3 and 4 carry stream 2. Link 4 is back in DISCOVERY after three failed retrains, with word lock again; link 3 is
still retraining. -/
def halfRetrained : State :=
  { mfg := { part := .brl7162 }
    intake := { links := [(3, { st := .retraining }), (4, { st := .discovery, lock := true })]
                streams := [(2, { st := .starting, links := [3, 4], master := 3 })] } }

/-- With link 3 every link of the stream has lock, and the stream goes on from step 3 of R86. -/
theorem halfRetrained_lockGained : ((halfRetrained.lockGained 3).cam 3).st = .configuring := by decide

/-- The trigger of line 9 is due on stream 2, and a new origin has begun the numbering 1. -/
def dueBeforeOrigin : State :=
  { mfg := { part := .brl7162 }, belt := { liveEra := 1 }
    intake := { streams := [(2, { st := .ready, due := some (9, 0) })] } }

/-- The trigger's packet leaves, but nothing is kept of its line, which the new origin discarded (R30). -/
theorem dueBeforeOrigin_triggerPacket :
    SMap.find? ((dueBeforeOrigin.triggerPacket 2).stream 2).lines 9 = none := by decide

/-- Link 3 drives the coax of a far-end test (R95). -/
def farEndTransmitter : State :=
  { mfg := { part := .brl7162 }, regs := [(K.linkTest 3, 3)], intake := { links := [(3, { st := .loopback })] } }

/-- A link that only transmits checks no pattern (R95). -/
theorem State.linkTestBits_transmitter {s : State} {l : Nat} (h : s.reg (K.linkTest l) = 3) (errors : Nat) :
    s.linkTestBits l errors = s := if_neg fun hchecks => hchecks.2 h

end Sys2Proof.Machine

open Sys2Proof Sys2Proof.Machine

/-- Settles O10: each of the three timed steps of R86 and R93 sets its own link and no other. -/
theorem linkPowersUp : Obligations.LinkPowersUp := by
  refine ⟨fun s l ohms hlink hst hstep => ?sense, fun s l hlink hst hstep hdue => ?softStart,
    fun s l hlink hst hstep hdue => ?boot⟩
  case sense =>
    refine ⟨_, exec_loadSenseRetry hlink ohms, fun hload => ?_, fun hload => ?_,
      fun m hm => State.loadSense_cam_ne s ohms hm, State.loadSense_changes s l ohms⟩
    · rw [State.loadSense_inRange hst hstep hload]
      exact ⟨State.setReg_get .., by rw [State.setReg_cam, State.setCam_cam, if_pos rfl]⟩
    · rw [State.loadSense_outOfRange hst hstep hload]
      exact ⟨State.setReg_get .., by rw [State.setReg_cam, State.setCam_cam, if_pos rfl]⟩
  case softStart =>
    have hchanges := State.softStartDone_changes s l
    rw [State.softStartDone_due hst hstep hdue] at hchanges
    exact ⟨_, (exec_softStartDone hlink).trans (congrArg _ (State.softStartDone_due hst hstep hdue)),
      by rw [State.setCam_cam, if_pos rfl], fun m hm => by rw [State.setCam_cam, if_neg hm], hchanges⟩
  case boot =>
    have hcam := State.toDiscovery_cam_self s l
    exact ⟨_, (exec_cameraBootTimeExpiry hlink).trans (congrArg _ (State.bootTimeExpiry_due hst hstep hdue)),
      by rw [hcam], by rw [hcam], State.toDiscovery_linkRate s l, fun m hm => State.toDiscovery_cam_ne s hm,
      State.toDiscovery_changes s l⟩

/-- Refutes O11: the lock of a retraining link may be the last that its stream waits for after another link's three failed
retrains; the link is then CONFIGURING, for the stream goes on from step 3 of R86, and not UP. -/
theorem not_linkLockIsKept : ¬ Obligations.LinkLockIsKept := by
  rintro ⟨-, hgained, -⟩
  obtain ⟨t, hexec, hcam, -⟩ := hgained halfRetrained 3 2 (by decide) (by decide) (by decide) (by decide) (by decide)
  rw [exec_wordLockGained (by decide)] at hexec
  injection hexec with ht
  have hst := halfRetrained_lockGained
  rw [ht, hcam] at hst
  cases hst

/-- Settles O12: step 3 of R86 asks every link, the last test passed ends the test mode, and a command without a good answer
is sent again. -/
theorem linkIdentifiesAndAnswers : Obligations.LinkIdentifiesAndAnswers := by
  refine ⟨fun s i hi hst hlinks hcause hdue => ?ident, fun s l i errors hlink hst htested hdue hstream => ?test,
    fun s l i c rest a hlink hctl hcrc htag hcode hop hstream => ?answered,
    fun s l c rest a hlink hctl hcrc htries => ?badCrc, fun s l c rest hlink hctl htries hdue => ?timeout⟩
  case ident =>
    exact ⟨_, (exec_identificationRetry hi s).trans (congrArg _ (State.identRetry_due hst hlinks hcause hdue)),
      fun l hl => State.identify_asks s hl, State.identify_changes s i⟩
  case test =>
    refine ⟨_, exec_connectionTestEnd hlink errors, fun hopen => ?_, fun hpassed herrors => ?_,
      State.connectionTestEnd_changes s l errors⟩
    · rw [State.connectionTestEnd_waits hst htested hdue hstream hopen, State.linkTested_cam, if_pos rfl]
      exact ⟨rfl, State.setCam_stream ..⟩
    · rw [State.connectionTestEnd_passes hst htested hdue hstream hpassed herrors]
      exact State.linkTested_camCtl_ops ..
  case answered =>
    have hchanges := State.controlAck_changes s l a
    have hanswer : s.controlAck l a = ((s.setCam l { s.cam l with ctl := rest }).setBlob K.cameraRegData a.data).cmdSet
        K.cameraRegCommand Status.ok := by
      rw [State.controlAck_answered hctl hcrc htag hcode,
        State.acked_regRead a ((State.setCam_linkStream ..).trans hstream) hop]
    rw [hanswer] at hchanges
    refine ⟨_, (exec_controlAcknowledgment hlink a).trans (congrArg _ hanswer), ?_, ?_, State.cmdSet_cmdRead .., hchanges⟩
    · rw [State.cmdSet_cam, State.setBlob_cam, State.setCam_cam, if_pos rfl]
    · exact State.setBlob_get ..
  case badCrc =>
    have hchanges := State.controlAck_changes s l a
    rw [State.controlAck_badCrc hctl hcrc] at hchanges
    obtain ⟨hagain, hcount⟩ := State.crcResend_holds hlink hctl htries
    exact ⟨_, (exec_controlAcknowledgment hlink a).trans (congrArg _ (State.controlAck_badCrc hctl hcrc)), hagain, hcount,
      hchanges⟩
  case timeout =>
    have hchanges := State.controlAckTimeout_changes s l
    rw [State.controlAckTimeout_due hctl hdue] at hchanges
    obtain ⟨hagain, hcount⟩ := State.crcResend_holds hlink hctl htries
    exact ⟨_, (exec_controlAckTimeout hlink).trans (congrArg _ (State.controlAckTimeout_due hctl hdue)), hagain, hcount,
      hchanges⟩

/-- Refutes O13: nothing is kept of a line that a new origin has discarded (R30), so the line of a trigger that is still due
does not count as sent. -/
theorem not_triggersAndLinesArePaired : ¬ Obligations.TriggersAndLinesArePaired := by
  rintro ⟨htrigger, -⟩
  obtain ⟨t, hexec, -, -, hline, -⟩ := htrigger dueBeforeOrigin 2 9 0 (by decide) (by decide) (by decide)
  rw [exec_triggerPacket (by decide)] at hexec
  injection hexec with ht
  rw [← ht, dueBeforeOrigin_triggerPacket] at hline
  cases hline

/-- Refutes O14: a link in LOOPBACK that only transmits (LinkTest 3) checks no pattern, and counts no error (R95). -/
theorem not_cameraEventsAndPower : ¬ Obligations.CameraEventsAndPower := by
  rintro ⟨-, -, -, -, -, -, htest⟩
  have hexec := htest farEndTransmitter 3 5 (by decide)
  rw [exec_linkTestPattern (by decide), State.linkTestBits_transmitter (by decide), if_pos (by decide)] at hexec
  injection hexec with hbump
  have hcount := congrArg (State.reg · (K.linkTestErrors 3)) hbump
  simp only [State.bump_reg, if_true] at hcount
  exact absurd hcount (by decide)
end

section
/-! PROOFS. The statement on the commands of the rings (RingCommandsRun). Every clause is about a RUNNING ring with one
command (`State.Runs`): what a start, a transfer and a completion leave in that ring is said once each, and a row then says
only what its own command does besides. -/

namespace Sys2Proof.Machine

/-! ### Emission leaves the rings (R378 to R380) -/

theorem State.ring_congr {s t : State} (h : t.host.rings = s.host.rings) (r : Nat) : t.ring r = s.ring r := by
  unfold State.ring; rw [h]

theorem State.signal_rings (s : State) (q : Nat) : (s.signal q).host.rings = s.host.rings := by
  unfold State.signal
  simp only []
  split
  · split <;> rfl
  · rfl

theorem State.writeRec_rings (s : State) (q : Nat) (r : Rec) : (s.writeRec q r).host.rings = s.host.rings := by
  unfold State.writeRec
  simp only [State.signal_rings, State.hostWrite_same]
  rfl

theorem State.routeRec_rings (s : State) (q : Nat) (r : Rec) : (s.routeRec q r).1.host.rings = s.host.rings := by
  unfold State.routeRec
  simp only []
  split
  · rfl
  · split
    · simp only [State.countEv_same, State.writeRec_rings]
    · split <;> rfl
  · split <;> rfl

theorem State.emitLoop_rings (n : Nat) (rs : List Rec) (s : State) : (State.emitLoop n rs s).host.rings = s.host.rings := by
  induction n generalizing rs s with
  | zero => rfl
  | succ n ih =>
    cases rs with
    | nil => rfl
    | cons r rest =>
      simp only [State.emitLoop]
      split
      · exact ih ..
      · rw [ih, State.routeRec_rings]

theorem State.emitAll_rings (s : State) (rs : List Rec) : (s.emitAll rs).host.rings = s.host.rings :=
  State.emitLoop_rings ..

theorem State.count_rings (s : State) (b ev n f ctx master addr : Nat) :
    (s.count b ev n f ctx master addr).host.rings = s.host.rings := by
  unfold State.count
  simp only [State.emitAll_rings, State.countEv_same]

/-! ### A completion (R373) -/

/-- The first half of a completion: its 16 bytes in host memory, and its record where the command asked for one (R371, R382). -/
def State.completionOut (s : State) (r : Nat) (c : RingCmd) (status result : Nat) : State :=
  let t := s.hostWrite ((s.ring r).port.getD 0) ((s.ring r).entryAddr c.index + 0x30) ((s.ring r).completion c status result)
  let x := if c.notify then t.routeRec (s.ring r).notice (t.completionRec r c status) else (t, [])
  x.1.emitAll x.2

/-- A ring after the completion of its oldest command. -/
def Ring.completeOldest (x : Ring) (status : Nat) : Ring :=
  { x with cmds := x.cmds.drop 1, completed := (x.completed + 1) % 2 ^ 32, lastStatus := status }

theorem State.completeHead_eq (s : State) (r : Nat) (c : RingCmd) (status result : Nat) :
    s.completeHead r c status result =
      (((s.completionOut r c status result).setRing r (((s.completionOut r c status result).ring r).completeOldest status)).bump
        K.commandsCompleted).count 2 0x0801 1 1 (s.ring r).ctx := rfl

theorem State.completionOut_rings (s : State) (r : Nat) (c : RingCmd) (status result : Nat) :
    (s.completionOut r c status result).host.rings = s.host.rings := by
  unfold State.completionOut
  simp only [State.emitAll_rings]
  split
  · simp only [State.routeRec_rings, State.hostWrite_same]
  · simp only [State.hostWrite_same]

theorem State.completionOut_commandsCompleted (s : State) (r : Nat) (c : RingCmd) (status result : Nat) :
    (s.completionOut r c status result).reg K.commandsCompleted = s.reg K.commandsCompleted := by
  simp only [State.completionOut]
  rw [State.emitAll_reg _ _ _ (by decide)]
  split
  · rw [State.routeRec_reg _ _ _ _ (by decide), State.hostWrite_reg]
  · exact State.hostWrite_reg ..

theorem State.completeHead_ring (s : State) (r : Nat) (c : RingCmd) (status result : Nat) :
    (s.completeHead r c status result).ring r = (s.ring r).completeOldest status := by
  rw [State.completeHead_eq, State.ring_congr (State.count_rings ..)]
  show (State.setRing _ _ _).ring r = _
  rw [State.setRing_ring, if_pos rfl, State.ring_congr (State.completionOut_rings ..)]

theorem State.completeHead_commandsCompleted (s : State) (r : Nat) (c : RingCmd) (status result : Nat) :
    (s.completeHead r c status result).reg K.commandsCompleted = (s.reg K.commandsCompleted + 1) % 2 ^ 64 := by
  rw [State.completeHead_eq, State.count_reg _ _ _ _ _ _ _ _ _ (by decide), State.bump_reg, if_pos rfl, State.setRing_reg,
    State.completionOut_commandsCompleted, K.commandsCompleted_width]

/-! ### A running ring with one command -/

/-- The only command of a RUNNING ring is `c` (R373). -/
structure State.Runs (s : State) (r : Nat) (c : RingCmd) : Prop where
  running : (s.ring r).st = .running
  only : (s.ring r).cmds = [c]

/-- From `s` to `t` the only command of a ring has completed with a status: the ring is empty. -/
structure State.Completed (s t : State) (r status : Nat) : Prop where
  cmds : (t.ring r).cmds = []
  completed : (t.ring r).completed = ((s.ring r).completed + 1) % 2 ^ 32
  lastStatus : (t.ring r).lastStatus = status
  counted : t.reg K.commandsCompleted = (s.reg K.commandsCompleted + 1) % 2 ^ 64

section
variable {s : State} {r : Nat} {c : RingCmd}

/-- An empty ring has nothing to let out; where its DISABLE waited, it is DISABLED now (R372). -/
theorem State.flushRing_empty {n : Nat} (h : (s.ring r).cmds = []) :
    ((State.flushRing r (n + 1) s).ring r).cmds = [] ∧
      ((State.flushRing r (n + 1) s).ring r).completed = (s.ring r).completed ∧
      ((State.flushRing r (n + 1) s).ring r).lastStatus = (s.ring r).lastStatus ∧
      (State.flushRing r (n + 1) s).reg K.commandsCompleted = s.reg K.commandsCompleted := by
  simp only [State.flushRing, h]
  split
  · rw [State.setRing_ring, if_pos rfl]
    exact ⟨rfl, rfl, rfl, rfl⟩
  · exact ⟨h, rfl, rfl, rfl⟩

theorem State.flush_done {status result : Nat} (h : s.Runs r { c with st := .done status result }) :
    s.Completed (s.flush r) r status := by
  obtain ⟨hst, hcmds⟩ := h
  have hring := State.completeHead_ring s r { c with st := .done status result } status result
  have hflush : s.flush r = State.flushRing r 1 (s.completeHead r { c with st := .done status result } status result) := by
    unfold State.flush
    rw [hcmds]
    simp only [List.length_singleton, State.flushRing, hcmds, hst]
    rfl
  obtain ⟨hnone, hcount, hlast, hreg⟩ := State.flushRing_empty (n := 0) (s := s.completeHead r _ status result)
    (by rw [hring, Ring.completeOldest, hcmds]; rfl)
  rw [hflush]
  exact ⟨hnone, hcount.trans (by rw [hring]; rfl), hlast.trans (by rw [hring]; rfl),
    hreg.trans (State.completeHead_commandsCompleted ..)⟩

theorem State.finishCmd_completed (status result : Nat) (h : s.Runs r c) :
    s.Completed (s.finishCmd r c.index status result) r status := by
  have hmark : (s.markDone r c.index status result).ring r =
      { s.ring r with cmds := [{ c with st := .done status result }] } := by
    rw [State.markDone, State.setRing_ring, if_pos rfl, h.only]
    simp only [List.map_cons, ↓reduceIte, List.map_nil]
  obtain ⟨hnone, hcount, hlast, hreg⟩ := State.flush_done (s := s.markDone r c.index status result) (r := r) (c := c)
    (status := status) (result := result) ⟨by rw [hmark]; exact h.running, by rw [hmark]⟩
  exact ⟨hnone, hcount.trans (by rw [hmark]), hlast, hreg⟩

end

/-! ### The rows of the ring commands -/

theorem exec_ringCommandComplete {r : Nat} (hr : r < 16384) (s : State) :
    exec (.ringCommandComplete r) s = .next (s.cmdComplete r) := guardUnit_carried (decide_eq_true hr) _ _

section
variable {s : State} {r : Nat} {c : RingCmd}

/-- A command that waits as the only one of its ring is the next to start (R373). -/
theorem State.ringRow_starts {op : Nat} (f : RingCmd → State → State) (hr : r < 16384) (h : s.Runs r c)
    (hfetched : c.st = .fetched) (hop : c.opcode = op) : s.ringRow r op f = .next (f c s) := by
  have hnext : (s.ring r).nextToStart = some c := by
    simp only [Ring.nextToStart, h.only, hfetched, BEq.rfl, List.find?_cons_of_pos, bne_self_eq_false, Bool.false_eq_true,
      not_false_eq_true, List.takeWhile_cons_of_neg, List.any_nil, List.filter_nil, List.length_nil, Nat.le_zero_eq,
      reduceCtorEq, or_self, ↓reduceIte]
  rw [State.ringRow, guardUnit_carried (decide_eq_true hr), State.runNext]
  simp only [h.running, reduceCtorEq, or_false, ↓reduceIte, hnext, hop]

/-! ### A start (R373, R376) -/

theorem State.startCmd_ring (h : s.Runs r c) :
    (s.startCmd r c.index).ring r = { s.ring r with cmds := [{ c with st := .started }] } := by
  rw [State.startCmd, State.setRing_ring, if_pos rfl, h.only]
  simp only [List.map_cons, ↓reduceIte, List.map_nil]

theorem State.startCmd_runs (h : s.Runs r c) : (s.startCmd r c.index).Runs r { c with st := .started } :=
  ⟨by rw [State.startCmd_ring h]; exact h.running, by rw [State.startCmd_ring h]⟩

theorem State.startCmd_copySite (ctx i : Nat) (b : List Byte) : (s.startCmd r i).copySite ctx b = s.copySite ctx b := rfl

/-- A command that ends as it starts. -/
theorem State.refused_completed (status : Nat) (h : s.Runs r c) :
    s.Completed ((s.startCmd r c.index).finishCmd r c.index status) r status := by
  obtain ⟨hnone, hcount, hlast, hreg⟩ := State.finishCmd_completed status 0 (State.startCmd_runs h)
  exact ⟨hnone, hcount.trans (by rw [State.startCmd_ring h]), hlast, hreg⟩

theorem State.setTransfer_ring (d : List Byte) (m : Nat) (h : s.Runs r c) :
    (s.setTransfer r c.index d m).ring r = { s.ring r with cmds := [{ c with data := d, moved := m }] } := by
  rw [State.setTransfer, State.setRing_ring, if_pos rfl, h.only]
  simp only [List.map_cons, ↓reduceIte, List.map_nil]

/-- The bytes of a transfer of `len` that have moved as it starts on a RUNNING ring (R376; log entry 1). -/
def State.movedAtStart (s : State) (len : Nat) : Nat := Config.free s.freeN % (len / 2 + 1) * 2

theorem State.movedAtStart_even (s : State) (len : Nat) : s.movedAtStart len % 2 = 0 := Nat.mul_mod_left ..

theorem State.movedAtStart_le (s : State) (len : Nat) : s.movedAtStart len ≤ len := by
  have : Config.free s.freeN % (len / 2 + 1) < len / 2 + 1 := Nat.mod_lt _ (Nat.succ_pos _)
  unfold State.movedAtStart
  omega

theorem State.progress_running (len : Nat) (h : s.Runs r c) :
    s.progress r len = (s.movedAtStart len, s.takeFree.2) := by
  have hheld : ¬ (s.takeFree.2.ring r).st = .held := by
    rw [show s.takeFree.2.ring r = s.ring r from rfl, h.running]; decide
  exact congrArg (·, s.takeFree.2) (if_neg hheld)

theorem State.portBytes_ring (b : Bool) (p n : Nat) : (s.portBytes b p n).ring r = s.ring r :=
  State.ring_congr (by rw [(State.portBytes_changes s b p n).areas .host rfl]) r

theorem State.portBytes_runs (b : Bool) (p n : Nat) (h : s.Runs r c) : (s.portBytes b p n).Runs r c :=
  ⟨by rw [State.portBytes_ring]; exact h.running, by rw [State.portBytes_ring]; exact h.only⟩

theorem State.portBytes_movedAtStart (b : Bool) (p n len : Nat) :
    (s.portBytes b p n).movedAtStart len = s.movedAtStart len := by
  simp only [State.movedAtStart, State.portBytes_same]

theorem State.takeFree_runs (h : s.Runs r c) : s.takeFree.2.Runs r c := ⟨h.running, h.only⟩

theorem fitBytes_length (n : Nat) (l : List Byte) : (fitBytes n l).length = n := by
  rw [fitBytes, bytesAt, List.length_map, List.length_range]

/-! ### COPY (R376) -/

theorem State.copyIn_running {x : CopySite} (d : List Byte) (hsite : s.copySite (s.ring r).ctx c.body = some x)
    (hctx : (s.ctx (s.ring r).ctx).st = .running) :
    s.copyIn r c d = (s.startCmd r c.index).finishCmd r c.index Status.contextState := by
  simp only [State.copyIn, State.startCmd_copySite, hsite]
  exact if_pos (Or.inr hctx)

theorem State.copyIn_starts {x : CopySite} (d : List Byte) (hsite : s.copySite (s.ring r).ctx c.body = some x)
    (hctx : (s.ring r).ctx ≠ 0) (hidle : (s.ctx (s.ring r).ctx).st ≠ .running) :
    s.copyIn r c d = (s.startCmd r c.index).startIn r c x (fitBytes (leAt c.body 4 4) d) := by
  simp only [State.copyIn, State.startCmd_copySite, hsite]
  exact if_neg (not_or.2 ⟨hctx, hidle⟩)

theorem State.writeSite_scratch {x : CopySite} (ctx o : Nat) (d : List Byte) (hscratch : x.scratch = true) :
    s.writeSite x ctx o d = s.memWrite x.die (x.off + o) d := if_pos hscratch

theorem State.startIn_ring {x : CopySite} (d : List Byte) (hscratch : x.scratch = true) (h : s.Runs r c) :
    (s.startIn r c x d).ring r = { s.ring r with cmds := [{ c with data := d, moved := s.movedAtStart d.length }] } := by
  simp only [State.startIn, State.progress_running _ (State.portBytes_runs _ _ _ h), State.writeSite_scratch _ _ _ hscratch,
    State.portBytes_movedAtStart]
  refine (State.setTransfer_ring d _ (State.takeFree_runs (State.portBytes_runs _ _ _ h))).trans ?_
  rw [show ∀ t : State, t.takeFree.2.ring r = t.ring r from fun _ => rfl, State.portBytes_ring]

theorem State.copyOut_starts {x : CopySite} (h : s.Runs r c) (hsite : s.copySite (s.ring r).ctx c.body = some x) :
    s.copyOut r c = State.moveOut (State.setTransfer (s.startCmd r c.index).takeFree.2 r c.index []
      (s.movedAtStart (leAt c.body 4 4))) r c x 0 (s.movedAtStart (leAt c.body 4 4)) := by
  simp only [State.copyOut, State.startCmd_copySite, hsite, State.progress_running _ (State.startCmd_runs h)]
  rfl

theorem State.moveOut_scratch_ring {x : CopySite} (o n : Nat) (hscratch : x.scratch = true) :
    (s.moveOut r c x o n).ring r = s.ring r := by
  simp only [State.moveOut, State.readSite, hscratch, if_true]
  split <;> rfl

theorem State.copyOut_ring {x : CopySite} (h : s.Runs r c) (hsite : s.copySite (s.ring r).ctx c.body = some x)
    (hscratch : x.scratch = true) : (s.copyOut r c).ring r = { s.ring r with
      cmds := [{ c with st := .started, data := [], moved := s.movedAtStart (leAt c.body 4 4) }] } := by
  rw [State.copyOut_starts h hsite, State.moveOut_scratch_ring _ _ hscratch]
  refine (State.setTransfer_ring _ _ (State.takeFree_runs (State.startCmd_runs h))).trans ?_
  rw [show (s.startCmd r c.index).takeFree.2.ring r = _ from State.startCmd_ring h]

/-! ### The end of a COPY_TO_DEVICE (R376) -/

/-- A table after bytes were laid in it from a number on, but for places that a test leaves out. -/
theorem SMap.get_foldl_zipIdx (p : Nat → Bool) (base k : Nat) (d : List Byte) (n : Nat) (m : SMap Byte) :
    SMap.get 0 (((d.zipIdx n).filter fun x => p x.2).foldl (fun m x => SMap.set 0 m (base + x.2) x.1) m) k =
      if base + n ≤ k ∧ k < base + n + d.length ∧ p (k - base) = true then d.getD (k - base - n) 0 else SMap.get 0 m k := by
  induction d generalizing n m with
  | nil =>
    rw [List.length_nil, if_neg (fun h => by omega)]
    rfl
  | cons b d ih =>
    rw [List.zipIdx_cons, List.length_cons]
    have hrest : (((b, n) :: d.zipIdx (n + 1)).filter fun x => p x.2).foldl (fun m x => SMap.set 0 m (base + x.2) x.1) m =
        ((d.zipIdx (n + 1)).filter fun x => p x.2).foldl (fun m x => SMap.set 0 m (base + x.2) x.1)
          (if p n = true then SMap.set 0 m (base + n) b else m) := by
      cases hp : p n with
      | true => simp only [List.filter_cons, hp, ↓reduceIte, List.foldl_cons]
      | false => simp only [List.filter_cons, hp, Bool.false_eq_true, ↓reduceIte]
    rw [hrest, ih]
    by_cases hk : k = base + n
    · subst hk
      rw [if_neg (fun h => by omega), Nat.add_sub_cancel_left, Nat.sub_self]
      by_cases hp : p n = true
      · rw [if_pos hp, if_pos ⟨Nat.le_refl _, by omega, hp⟩, SMap.get_set_self]
        rfl
      · rw [if_neg hp, if_neg fun h => hp h.2.2]
    · have hset : SMap.get 0 (if p n = true then SMap.set 0 m (base + n) b else m) k = SMap.get 0 m k := by
        split
        · exact SMap.get_set_ne _ _ _ _ hk
        · rfl
      rw [hset]
      by_cases hin : base + (n + 1) ≤ k ∧ k < base + (n + 1) + d.length ∧ p (k - base) = true
      · obtain ⟨hlo, hhi, hp⟩ := hin
        rw [if_pos ⟨hlo, hhi, hp⟩, if_pos ⟨by omega, by omega, hp⟩,
          show k - base - n = (k - base - (n + 1)) + 1 by omega, List.getD_cons_succ]
      · rw [if_neg hin, if_neg fun h => hin ⟨by omega, by omega, h.2.2⟩]

theorem State.slotAt_congr {t u : State} (heng : u.engine = t.engine) (hmfg : u.mfg = t.mfg) (o : Nat) :
    u.slotAt o = t.slotAt o := by
  unfold State.slotAt State.slotSpan
  rw [heng, hmfg]

theorem State.memByte_congr {t u : State} (heng : u.engine = t.engine) (hmem : u.memory = t.memory) (hmfg : u.mfg = t.mfg)
    (die o : Nat) : u.memByte die o = t.memByte die o := by
  unfold State.memByte State.imageOffset State.planSlot
  rw [State.slotAt_congr heng hmfg, heng, hmfg, hmem]

theorem State.memWrite_memByte (die off : Nat) (d : List Byte) (o : Nat) :
    (s.memWrite die off d).memByte die o =
      if off ≤ o ∧ o < off + d.length ∧ s.slotAt o = none then d.getD (o - off) 0 else s.memByte die o := by
  have hslot : (s.memWrite die off d).slotAt o = s.slotAt o := State.slotAt_congr rfl rfl o
  unfold State.memByte
  rw [hslot]
  cases hn : s.slotAt o with
  | some n => rw [if_neg fun h => nomatch h.2.2]; rfl
  | none =>
    have hcells := SMap.get_foldl_zipIdx (fun i => (s.slotAt (off + i)).isNone) (die * 2 ^ 33 + off) (die * 2 ^ 33 + o) d 0
      s.memory.cells
    rw [Nat.add_sub_add_left, Nat.add_zero, Nat.sub_zero] at hcells
    refine hcells.trans ?_
    have hplace : (die * 2 ^ 33 + off ≤ die * 2 ^ 33 + o ∧ die * 2 ^ 33 + o < die * 2 ^ 33 + off + d.length ∧
        (s.slotAt (off + (o - off))).isNone = true) ↔ (off ≤ o ∧ o < off + d.length) := by
      constructor
      · rintro ⟨hlo, hhi, -⟩; omega
      · rintro ⟨hlo, hhi⟩
        rw [Nat.add_sub_cancel' hlo, hn]
        exact ⟨by omega, by omega, rfl⟩
    simp only [hplace, and_true]

theorem State.finishCmd_memByte (i status result die o : Nat) :
    (s.finishCmd r i status result).memByte die o = s.memByte die o :=
  State.memByte_congr (by simp only [State.finishCmd_same]) (by simp only [State.finishCmd_same])
    (by simp only [State.finishCmd_same]) die o

theorem State.cmdComplete_transfer (h : s.Runs r c) (hstarted : c.st = .started) (hop : c.opcode = 0x20) :
    s.cmdComplete r = s.endTransfer r c := by
  simp only [State.cmdComplete, h.running, ne_eq, not_true_eq_false, ↓reduceIte, List.contains_eq_mem, List.mem_cons,
    List.not_mem_nil, or_false, Bool.decide_or, h.only, hstarted, BEq.rfl, hop, decide_true, Nat.reduceEqDiff, decide_false,
    Bool.or_self, Bool.or_false, Bool.and_self, List.find?_cons_of_pos]

theorem State.endTransfer_copyIn {x : CopySite} (hop : c.opcode = 0x20)
    (hsite : s.copySite (s.ring r).ctx c.body = some x) (hscratch : x.scratch = true) (hmoved : c.moved = 0) :
    s.endTransfer r c = (s.memWrite x.die x.off c.data).finishCmd r c.index Status.ok (leAt c.body 4 4) := by
  have hnotPlan : ¬ c.opcode = 0x30 := by rw [hop]; decide
  have hsound : ∀ t : State, t.readBad c x = false := fun t => by
    simp only [State.readBad, hop, Nat.reduceBEq, Bool.false_and]
  simp only [State.endTransfer, if_neg hnotPlan, hsite, if_pos hop, State.writeSite_scratch _ _ _ hscratch, hsound, hmoved,
    List.drop_zero]
  rfl

theorem State.memWrite_runs (die off : Nat) (d : List Byte) (h : s.Runs r c) : (s.memWrite die off d).Runs r c :=
  ⟨h.running, h.only⟩

/-! ### PLAN_LOAD (R214, R377) -/

theorem State.openSlot_accepts {n len base : Nat} (hfilling : s.slotState n ≠ 1) (hinUse : s.slotState n ≠ 3)
    (hupload : s.engine.upload = none) (hfree : len ≤ s.memFree)
    (hplace : placeRange (s.takenRanges n) (ceilDiv len (4096 * s.mfg.part.memDies) * 4096) = some base) :
    (s.openSlot n len).1 = Status.ok ∧ (s.openSlot n len).2.planSlot n = { st := 1, length := len, base } ∧
      (s.openSlot n len).2.engine.upload = some n := by
  have hroom : ¬ s.memFree < len := Nat.not_lt.2 hfree
  have hidle : ¬ s.engine.upload.isSome = true := by rw [hupload]; decide
  simp only [State.openSlot, if_neg (not_or.2 ⟨hfilling, hinUse⟩), if_neg hidle, if_neg hroom, hplace]
  have hset := State.setSlot_planSlot (s.setSlot n { st := 1, length := len, base }) n { st := 1, length := len, base } n
  exact ⟨trivial, hset.trans (if_pos rfl), trivial⟩

/-- A PLAN_LOAD that its slot accepts, as its first bytes land: `u` is the state with the slot open. -/
theorem State.planLoad_starts {n len : Nat} {u : State} (d : List Byte) (h : s.Runs r c) (hn : n = leAt c.body 1 1)
    (hlen : len = leAt c.body 8 8) (hslot : n < 32) (hleast : 8576 ≤ len)
    (hopen : (s.startCmd r c.index).openSlot n len = (Status.ok, u)) :
    ((s.planLoad r c d).ring r = { s.ring r with
      cmds := [{ c with st := .started, data := fitBytes len d, moved := s.movedAtStart len }] }) ∧
    (s.planLoad r c d).engine.upload = u.engine.upload ∧
    (s.planLoad r c d).planSlot n =
      { u.planSlot n with data := (fitBytes len d).take (s.movedAtStart len), spans := addSpan [] 0 (s.movedAtStart len) } := by
  have hopened := State.openSlot_changes (s.startCmd r c.index) n len
  rw [hopen] at hopened
  have hring : u.ring r = { s.ring r with cmds := [{ c with st := .started }] } :=
    (State.ring_congr (congrArg _ (hopened.areas .host rfl)) r).trans (State.startCmd_ring h)
  have hruns : u.Runs r { c with st := .started } := ⟨by rw [hring]; exact h.running, by rw [hring]⟩
  have hfree : u.freeN = s.freeN := hopened.areas .freeN rfl
  have hmoved : u.movedAtStart len = s.movedAtStart len := by simp only [State.movedAtStart, hfree]
  have hin : ¬ (32 ≤ n ∨ len < 8576) := by omega
  have hload : s.planLoad r c d =
      ((u.portBytes true (0x62 + (u.ring r).port.getD 0) len).takeFree.2.setTransfer r c.index (fitBytes len d)
        (s.movedAtStart len)).setSlot n { u.planSlot n with
          data := (fitBytes len d).take (s.movedAtStart len), spans := addSpan [] 0 (s.movedAtStart len) } := by
    simp only [State.planLoad, ← hn, ← hlen, if_neg hin, hopen, State.progress_running _ (State.portBytes_runs _ _ _ hruns),
      State.portBytes_movedAtStart, hmoved]
    rfl
  rw [hload]
  refine ⟨?_, rfl, (State.setSlot_planSlot ..).trans (if_pos rfl)⟩
  refine (State.setTransfer_ring (fitBytes len d) (s.movedAtStart len)
    (State.takeFree_runs (State.portBytes_runs true _ len hruns))).trans ?_
  rw [show ∀ t : State, t.takeFree.2.ring r = t.ring r from fun _ => rfl, State.portBytes_ring, hring]

/-! ### JOB_SUBMIT (R377) -/

theorem State.countKnotOp_rings (c : Nat) : (s.countKnotOp c).host.rings = s.host.rings := State.count_rings ..

theorem State.knotWaitOp_rings (k n c : Nat) (sub : Bool) (timeout : Nat) (i : Issuer) :
    (s.knotWaitOp k n c sub timeout i).2.host.rings = s.host.rings := by
  unfold State.knotWaitOp
  split
  · unfold State.noteFrozen
    split <;> rfl
  · simp only []
    split
    · split <;> exact State.countKnotOp_rings ..
    · split
      · simp only [State.setWaiters_same, State.countKnotOp_rings]
      · rfl

theorem State.actRefused_rings (c : Nat) (a : KnotAct) (st : Nat) : (s.actRefused c a st).host.rings = s.host.rings := by
  unfold State.actRefused State.opRefused
  split
  · rfl
  · exact State.emitAll_rings ..

theorem State.placeWaits_rings (c n : Nat) : (s.placeWaits c n).host.rings = s.host.rings := by
  unfold State.placeWaits
  split
  · rfl
  · refine foldl_view (·.host.rings) _ _ _ fun s a => ?_
    have hwait : (if a.remote then s.remoteKnot c (.step c n) a.member (knotBody 0x52 a.subtract a.fence a.member a.knot a.value 0)
        else s.knotWaitOp a.knot a.value c a.subtract 0 (.step c n)).2.host.rings = s.host.rings := by
      split
      · simp only [State.remoteKnot_same]
      · exact State.knotWaitOp_rings ..
    simp only []
    split
    · rw [State.actRefused_rings, hwait]
    · exact hwait

theorem State.prepareStep_ring (n : Nat) : (s.prepareStep n).ring r = s.ring r := by
  refine State.ring_congr ?_ r
  unfold State.prepareStep
  split
  · split
    · exact State.placeWaits_rings ..
    · rfl
  · rfl

/-- An IDLE context with its first job. -/
def Context.firstJob (x : Context) (j : Job) : Context := { x with jobs := [j], nextStep := 0, st := .ready }

theorem State.jobSubmit_idle {p : Plan} (hplan : (s.ctx (s.ring r).ctx).plan = some p) (hcls : p.cls ≠ 0)
    (hidle : (s.ctx (s.ring r).ctx).st = .idle) (hjobs : (s.ctx (s.ring r).ctx).jobs = []) :
    s.jobSubmit r c = (((s.startCmd r c.index).setCtx (s.ring r).ctx ((s.ctx (s.ring r).ctx).firstJob
      { ring := r, index := c.index, tag := leAt c.body 4 4 })).prepareStep (s.ring r).ctx).trackReady.autoWake := by
  simp only [State.jobSubmit, hplan, hcls, hidle, reduceCtorEq, or_self, ↓reduceIte, hjobs, List.length_nil, Nat.le_zero_eq,
    List.nil_append, Context.firstJob]

theorem State.jobSubmit_holds {p : Plan} (h : s.Runs r c) (hplan : (s.ctx (s.ring r).ctx).plan = some p) (hcls : p.cls ≠ 0)
    (hidle : (s.ctx (s.ring r).ctx).st = .idle) (hjobs : (s.ctx (s.ring r).ctx).jobs = []) :
    (s.jobSubmit r c).ctx (s.ring r).ctx = (s.ctx (s.ring r).ctx).firstJob
      { ring := r, index := c.index, tag := leAt c.body 4 4 } ∧
    ((s.jobSubmit r c).ring r).cmds = [{ c with st := .started }] := by
  rw [State.jobSubmit_idle hplan hcls hidle hjobs]
  constructor
  · simp only [State.ctx, State.autoWake_same, State.trackReady_same, State.prepareStep_same]
    exact (State.setCtx_ctx ..).trans (if_pos rfl)
  · have hpower : ∀ t : State, t.trackReady.autoWake.ring r = t.ring r := fun t =>
      State.ring_congr (by simp only [State.autoWake_same, State.trackReady_same]) r
    rw [hpower, State.prepareStep_ring, show ∀ t : State, ∀ n x, (t.setCtx n x).ring r = t.ring r from fun _ _ _ => rfl,
      State.startCmd_ring h]

/-! ### JPEG_DECODE (R119) -/

theorem exec_jpegDecode_starts (d : List Byte) (hr : r < 16384) (h : s.Runs r c) (hfetched : c.st = .fetched)
    (hop : c.opcode = 0x40) : exec (.jpegDecode r d) s = .next (s.jpegDecode r c d) := by
  have hheld : ¬ (s.ring r).st = .held := by rw [h.running]; decide
  exact (State.ringRow_starts _ hr h hfetched hop).trans (congrArg _ (if_neg hheld))

theorem State.jpegDecode_badLayout (d : List Byte) (hlayout : leAt c.body 2 1 % 4 = 3) :
    s.jpegDecode r c d = (s.startCmd r c.index).finishCmd r c.index Status.descriptorInvalid :=
  if_pos (Or.inr (Or.inl hlayout))

theorem State.setDecode_ring (k : Nat) (l : List DecReq) : (s.setDecode k l).ring r = s.ring r := rfl

/-- The request that a JPEG_DECODE with a deadline of its own leaves for the engine (R119). -/
def RingCmd.decReq (c : RingCmd) (r : Nat) (d : List Byte) : DecReq :=
  { ring := r, index := c.index, body := c.body, data := fitBytes (leAt c.body 24 4) d, deadline := leAt c.body 32 8
    width := (parseJpeg (fitBytes (leAt c.body 24 4) d)).width
    height := (parseJpeg (fitBytes (leAt c.body 24 4) d)).height }

theorem State.jpegDecode_queues (d : List Byte) (hdecoder : leAt c.body 1 1 ≤ 3) (hlayout : leAt c.body 2 1 % 4 ≠ 3)
    (hhost : leAt c.body 3 1 = 0xFF) (hsome : 1 ≤ leAt c.body 24 4) (hmost : leAt c.body 24 4 ≤ 16777216)
    (hdue : leAt c.body 32 8 ≠ 0)
    (hhead : (parseJpeg (fitBytes (leAt c.body 24 4) d)).cause (leAt c.body 4 2) (leAt c.body 6 2) = none) :
    s.jpegDecode r c d = ((s.startCmd r c.index).portBytes true (0x62 + ((s.startCmd r c.index).ring r).port.getD 0)
      (leAt c.body 24 4)).setDecode (leAt c.body 1 1)
        (SMap.get [] s.pipe.decode (leAt c.body 1 1) ++ [c.decReq r d]) := by
  have hok : ¬ (3 < leAt c.body 1 1 ∨ leAt c.body 2 1 % 4 = 3 ∨ (1 < leAt c.body 3 1 ∧ leAt c.body 3 1 ≠ 0xFF) ∨
      leAt c.body 24 4 = 0 ∨ 16777216 < leAt c.body 24 4) := by omega
  have hnotStore : ∀ p : Prop, ¬ (leAt c.body 3 1 ≠ 0xFF ∧ p) := fun _ hp => hp.1 hhost
  simp only [State.jpegDecode, if_neg hok, if_neg (hnotStore _), if_neg hdue, hhead]
  rfl

end
end Sys2Proof.Machine

open Sys2Proof Sys2Proof.Machine

/-- Settles O41: what each row leaves in its ring follows from the rules of a start, a transfer and a completion; nothing that
a job's first step prepares, and no record that leaves, touches the ring or the context. -/
theorem ringCommandsRun : Obligations.RingCommandsRun := by
  refine ⟨fun s r c hr hst hcmds hfetched hop => ?nop,
    fun s r d c x hr hst hcmds hfetched hop hsite hscratch hctx hidle => ?copyIn,
    fun s r d c x hr hst hcmds hfetched hop hsite hctx => ?copyRefused,
    fun s r c x hr hst hcmds hfetched hop hsite hscratch => ?copyOut,
    fun s r c x hr hst hcmds hstarted hop hsite hscratch hmoved hlen => ?complete,
    fun s r n len base d c hr hst hcmds hfetched hop hn hlen hslot hleast hfilling hinUse hupload hfree hplace => ?planLoad,
    fun s r c p hr hst hcmds hfetched hop hplan hcls hidle hjobs => ?job,
    fun s r d c hr hst hcmds hfetched hop hdecoder hlayout hhost hsome hmost hdue hhead => ?decode,
    fun s r d c hr hst hcmds hfetched hop hlayout => ?badLayout⟩
  case nop =>
    have hexec : exec (.ringNop r) s = .next (s.finishCmd r c.index Status.ok) :=
      State.ringRow_starts _ hr ⟨hst, hcmds⟩ hfetched hop
    obtain ⟨hnone, hcount, hlast, hreg⟩ := State.finishCmd_completed (c := c) Status.ok 0 ⟨hst, hcmds⟩
    exact ⟨_, hexec, hnone, hcount, hlast, hreg, execRingNop_changes r s hexec⟩
  case copyIn =>
    have hexec : exec (.copyToDevice r d) s = .next (s.copyIn r c d) :=
      State.ringRow_starts _ hr ⟨hst, hcmds⟩ hfetched hop
    have hring : (s.copyIn r c d).ring r = { s.ring r with cmds := [{ c with
        st := .started, data := fitBytes (leAt c.body 4 4) d, moved := s.movedAtStart (leAt c.body 4 4) }] } := by
      rw [State.copyIn_starts d hsite hctx hidle]
      refine (State.startIn_ring (c := { c with st := .started }) _ hscratch (State.startCmd_runs ⟨hst, hcmds⟩)).trans ?_
      rw [State.startCmd_ring ⟨hst, hcmds⟩, fitBytes_length]
      rfl
    exact ⟨_, _, hexec, s.movedAtStart_even _, s.movedAtStart_le _, by rw [hring], by rw [hring],
      execCopyToDevice_changes r d s hexec⟩
  case copyRefused =>
    have hexec : exec (.copyToDevice r d) s = .next (s.copyIn r c d) :=
      State.ringRow_starts _ hr ⟨hst, hcmds⟩ hfetched hop
    have hchanges := execCopyToDevice_changes r d s hexec
    rw [State.copyIn_running d hsite hctx] at hexec hchanges
    obtain ⟨hnone, hcount, hlast, -⟩ := State.refused_completed (c := c) Status.contextState ⟨hst, hcmds⟩
    exact ⟨_, hexec, hnone, hcount, hlast, by simp only [State.finishCmd_same, State.startCmd_same],
      by simp only [State.finishCmd_same, State.startCmd_same], hchanges⟩
  case copyOut =>
    have hexec : exec (.copyFromDevice r) s = .next (s.copyOut r c) :=
      State.ringRow_starts _ hr ⟨hst, hcmds⟩ hfetched hop
    have hchanges := execCopyFromDevice_changes r s hexec
    exact ⟨_, _, hexec, s.movedAtStart_even _, s.movedAtStart_le _,
      by rw [State.copyOut_ring ⟨hst, hcmds⟩ hsite hscratch], hchanges.areas .memory rfl, hchanges⟩
  case complete =>
    have hexec : exec (.ringCommandComplete r) s = .next (s.cmdComplete r) := exec_ringCommandComplete hr s
    have hchanges := execRingCommandComplete_changes r s hexec
    rw [State.cmdComplete_transfer ⟨hst, hcmds⟩ hstarted hop,
      State.endTransfer_copyIn hop hsite hscratch hmoved] at hexec hchanges
    obtain ⟨hnone, hcount, hlast, -⟩ := State.finishCmd_completed (c := c) Status.ok (leAt c.body 4 4)
      (State.memWrite_runs x.die x.off c.data ⟨hst, hcmds⟩)
    refine ⟨_, hexec, hnone, hcount, hlast, fun o _ => ?_, hchanges⟩
    rw [State.finishCmd_memByte, State.memWrite_memByte]
  case planLoad =>
    have hexec : exec (.planLoad r d) s = .next (s.planLoad r c d) :=
      State.ringRow_starts _ hr ⟨hst, hcmds⟩ hfetched hop
    obtain ⟨hok, hslotOpen, huploads⟩ := State.openSlot_accepts (s := s.startCmd r c.index) hfilling hinUse hupload hfree hplace
    obtain ⟨hring, hrunning, hholds⟩ := State.planLoad_starts d ⟨hst, hcmds⟩ hn hlen hslot hleast (Prod.ext hok rfl)
    rw [hslotOpen] at hholds
    exact ⟨_, _, hexec, s.movedAtStart_even _, s.movedAtStart_le _, by rw [hring], hrunning.trans huploads, by rw [hholds],
      by rw [hholds], by rw [hholds], execPlanLoad_changes r d s hexec⟩
  case job =>
    have hexec : exec (.jobSubmit r) s = .next (s.jobSubmit r c) :=
      State.ringRow_starts _ hr ⟨hst, hcmds⟩ hfetched hop
    obtain ⟨hctx, hring⟩ := State.jobSubmit_holds ⟨hst, hcmds⟩ hplan hcls hidle hjobs
    exact ⟨_, hexec, hctx, hring, execJobSubmit_changes r s hexec⟩
  case decode =>
    have hexec := exec_jpegDecode_starts d hr ⟨hst, hcmds⟩ hfetched hop
    have hchanges := execJpegDecode_changes r d s hexec
    rw [State.jpegDecode_queues d hdecoder hlayout hhost hsome hmost hdue hhead] at hexec hchanges
    refine ⟨_, hexec, ?_, SMap.get_set_self .., hchanges⟩
    rw [State.setDecode_ring, State.portBytes_ring, State.startCmd_ring ⟨hst, hcmds⟩]
  case badLayout =>
    have hexec := exec_jpegDecode_starts d hr ⟨hst, hcmds⟩ hfetched hop
    have hchanges := execJpegDecode_changes r d s hexec
    rw [State.jpegDecode_badLayout d hlayout] at hexec hchanges
    obtain ⟨hnone, hcount, hlast, -⟩ := State.refused_completed (c := c) Status.descriptorInvalid ⟨hst, hcmds⟩
    exact ⟨_, hexec, hnone, hcount, hlast, by simp only [State.finishCmd_same, State.startCmd_same], hchanges⟩
end

section
/-! PROOFS. The statements on the image pipelines and the JPEG engine (PipelinesFillStripes and JpegWorkIsDone fail). Each
fails in one clause: what the row of that clause does is said for every state first, and one state then refutes it. -/

namespace Sys2Proof.Machine

/-! ### ParamSetSwitch (R108) -/

theorem State.scheduleSwitch_pctx_first {s : State} {i : Nat} (line : Nat) (hnone : (s.pctx i).switch = []) :
    (s.scheduleSwitch i line).pctx i = { s.pctx i with switch := [(line, 1 - (s.pctx i).active)] } := by
  simp only [State.scheduleSwitch, State.setPctx_pctx, if_true, hnone, List.getLast?_nil, List.nil_append]

/-- A stream with no switch pending switches at the line that follows StreamNextLine by CameraSettingDelay, a line of the
numbering in force. -/
theorem exec_paramSetSwitch {s : State} {sess i : Nat} (hgate : s.gate sess K.paramSetSwitch = none) (hi : i < 16)
    (hnone : (s.pctx i).switch = []) : ∃ t, exec (.paramSetSwitch sess i) s = .next t ∧
      (t.pctx i).switch = [(s.nextLine i + s.reg (K.cameraSettingDelay i), 1 - (s.pctx i).active)] := by
  refine ⟨_, congrArg Host.Outcome.next (State.runCmd_ok hgate), ?_⟩
  rw [State.paramSwitchCmd, if_neg (Nat.not_le.2 hi)]
  exact congrArg _ (State.scheduleSwitch_pctx_first _ hnone)

/-! ### JPEG_ENCODE_DONE (R118) -/

theorem exec_jpegEncodeDone_skips {s : State} {e : EncReq} {rest : List EncReq} (hqueue : s.pipe.encQueue = e :: rest)
    (hgone : s.boxSamples e = none) : exec .jpegEncodeDone s =
      .next (({ s with pipe := { s.pipe with encQueue := rest } } : State).bump K.encodesSkipped) := by
  have hbox : ({ s with pipe := { s.pipe with encQueue := rest } } : State).boxSamples e = none := hgone
  refine congrArg Host.Outcome.next ?_
  simp only [State.encodeDone, hqueue, hbox]

/-! ### Refuting states -/

/-- A new origin has begun the numbering 1 of the lines (R30, R31), and StreamNextLine counts from 0 again. -/
def newOrigin : State := { mfg := { part := .brl7162 }, belt := { era := 1, liveEra := 1 } }

/-- A request whose lines are not in the history. -/
def lostBox : EncReq := { pos := 0, track := 0, firstLine := 0, lastLine := 7, colLeft := 0, colRight := 7 }

/-- The encode core is to end a request that it will skip, and EncodesCompleted, a U32, stands past its width. -/
def countPastWidth : State :=
  { mfg := { part := .brl7162 }, regs := [(K.encodesCompleted, 2 ^ 32)], pipe := { encQueue := [lostBox] } }

theorem countPastWidth_skips : countPastWidth.boxSamples lostBox = none := by decide

end Sys2Proof.Machine

open Sys2Proof Sys2Proof.Machine

/-- Refutes O16: a switch is scheduled for a line of the numbering in force (R31, log entry 46), which after a new origin is
not the bare index that StreamNextLine and CameraSettingDelay sum to. -/
theorem not_pipelinesFillStripes : ¬ Obligations.PipelinesFillStripes := by
  rintro ⟨-, -, hswitch, -⟩
  obtain ⟨t, hexec, hpctx, -⟩ := hswitch newOrigin 0 2 (by decide) (by decide) (by decide)
  obtain ⟨u, hexecs, hline⟩ := exec_paramSetSwitch (s := newOrigin) (sess := 0) (i := 2) (by decide) (by decide) (by decide)
  rw [hexecs] at hexec
  injection hexec with hsame
  rw [hsame, hpctx] at hline
  exact absurd hline (by decide)

/-- Refutes O17: of the two counts of ended encodes the one that does not count keeps its value as it stands, where the
statement has it reduced modulo 2^32; nothing in the statement bounds the count of the state before. -/
theorem not_jpegWorkIsDone : ¬ Obligations.JpegWorkIsDone := by
  rintro ⟨hencode, -⟩
  obtain ⟨t, hexec, -, -, hcompleted, -⟩ := hencode countPastWidth lostBox [] rfl
  rw [exec_jpegEncodeDone_skips rfl countPastWidth_skips] at hexec
  injection hexec with hsame
  rw [countPastWidth_skips, if_pos rfl, ← hsame, State.bump_reg, if_neg (by decide)] at hcompleted
  exact absurd hcompleted (by decide)
end

section
/-! PROOFS. The statements on the numbers of the array engine (NumbersAreBoundedAndRounded) and on the health of its arrays
(ArraysAreTestedAndReplaced fails). A bound on a pass sum is a bound on one product times the number of products. What a
stripe boundary counts is said for every state with one retirement waiting, and one such state then refutes. -/

namespace Sys2Proof.Machine

/-! ### Pass sums (R129, R130) -/

/-- The bounds on a product of two values in two's complement, the first of no greater range than the second. -/
theorem mul_bounds {a b x y : Int} (hab : a ≤ b) (hx : -a ≤ x ∧ x ≤ a - 1) (hy : -b ≤ y ∧ y ≤ b - 1) :
    -(a * (b - 1)) ≤ x * y ∧ x * y ≤ a * b := by
  obtain ⟨hxlo, hxhi⟩ := hx
  obtain ⟨hylo, hyhi⟩ := hy
  have ha : 0 ≤ a - 1 := by omega
  have hna : -a ≤ 0 := by omega
  have hleast : -a * (b - 1) = -(a * (b - 1)) := Int.neg_mul ..
  have hmost : -a * -b = a * b := Int.neg_mul_neg ..
  have hexpand : a * (b - 1) = a * b - a := by rw [Int.mul_sub, Int.mul_one]
  have hcorner : (a - 1) * (b - 1) = a * b - a - (b - 1) := by rw [Int.sub_mul, Int.one_mul, hexpand]
  have hcorner' : (a - 1) * -b = b - a * b := by rw [Int.mul_neg, Int.sub_mul, Int.one_mul, Int.neg_sub]
  by_cases hpos : 0 ≤ y
  · have hlo : -a * (b - 1) ≤ x * y :=
      Int.le_trans (Int.mul_le_mul_of_nonpos_left hna hyhi) (Int.mul_le_mul_of_nonneg_right hxlo hpos)
    have hhi : x * y ≤ (a - 1) * (b - 1) :=
      Int.le_trans (Int.mul_le_mul_of_nonneg_right hxhi hpos) (Int.mul_le_mul_of_nonneg_left hyhi ha)
    omega
  · have hneg : y ≤ 0 := by omega
    have hlo : (a - 1) * -b ≤ x * y :=
      Int.le_trans (Int.mul_le_mul_of_nonneg_left hylo ha) (Int.mul_le_mul_of_nonpos_right hxhi hneg)
    have hhi : x * y ≤ -a * -b :=
      Int.le_trans (Int.mul_le_mul_of_nonpos_right hxlo hneg) (Int.mul_le_mul_of_nonpos_left hna hylo)
    omega

theorem passSum_cons (p : Int × Int) (l : List (Int × Int)) : passSum (p :: l) = p.1 * p.2 + passSum l := by
  simp only [passSum, List.map_cons, List.sum_cons]

/-- A sum of products that each lie in a range lies in that range times their number. -/
theorem passSum_bounds_length {lo hi : Int} : ∀ {l : List (Int × Int)}, (∀ p ∈ l, lo ≤ p.1 * p.2 ∧ p.1 * p.2 ≤ hi) →
    l.length * lo ≤ passSum l ∧ passSum l ≤ l.length * hi
  | [], _ => by rw [List.length_nil, Int.natCast_zero, Int.zero_mul, Int.zero_mul]; exact ⟨Int.le_refl 0, Int.le_refl 0⟩
  | p :: l, hprod => by
    have hfirst := hprod p List.mem_cons_self
    have hrest := passSum_bounds_length fun q hq => hprod q (List.mem_cons_of_mem p hq)
    rw [passSum_cons, List.length_cons, Int.natCast_succ, Int.add_mul, Int.add_mul, Int.one_mul, Int.one_mul]
    omega

/-- A sum of up to `m` products that each lie in a range around 0 lies in `m` times that range. -/
theorem passSum_bounds {lo hi : Int} {m : Nat} {l : List (Int × Int)} (hlo : lo ≤ 0) (hhi : 0 ≤ hi) (hlen : l.length ≤ m)
    (hprod : ∀ p ∈ l, lo ≤ p.1 * p.2 ∧ p.1 * p.2 ≤ hi) : m * lo ≤ passSum l ∧ passSum l ≤ m * hi := by
  obtain ⟨hleast, hmost⟩ := passSum_bounds_length hprod
  have hcount : (l.length : Int) ≤ m := Int.ofNat_le.2 hlen
  exact ⟨Int.le_trans (Int.mul_le_mul_of_nonpos_right hcount hlo) hleast,
    Int.le_trans hmost (Int.mul_le_mul_of_nonneg_right hcount hhi)⟩

/-! ### Rounding to an integer (R154) -/

/-- The quotient that `Flt.toInt` takes is no farther from n / d than one half, and a tie goes to the greater. -/
theorem roundedQuotient_bounds {n d q : Nat} (hd : 0 < d) (hq : (2 * n + d) / (2 * d) = q) :
    (2 * q - 1) * d ≤ 2 * n ∧ 2 * n < (2 * q + 1) * d := by
  have hle := Nat.div_mul_le_self (2 * n + d) (2 * d)
  have hlt := Nat.lt_div_mul_add (a := 2 * n + d) (b := 2 * d) (by omega)
  have hcomm : q * (2 * d) = 2 * q * d := by rw [← Nat.mul_assoc, Nat.mul_comm q 2]
  rw [hq, hcomm] at hle hlt
  rw [Nat.sub_mul, Nat.add_mul, Nat.one_mul]
  omega

theorem Flt.toInt_fin {neg : Bool} {n d : Nat} {i : Int} (h : (Flt.fin neg n d).toInt = some i) :
    i.natAbs = (2 * n + d) / (2 * d) ∧ (i ≠ 0 → decide (i < 0) = neg) := by
  have hi := Option.some.inj h
  generalize (2 * n + d) / (2 * d) = q at hi ⊢
  cases neg with
  | false =>
    have hpos : i = q := hi.symm
    exact ⟨by omega, fun _ => decide_eq_false (by omega)⟩
  | true =>
    have hneg : i = -q := hi.symm
    exact ⟨by omega, fun _ => decide_eq_true (by omega)⟩

/-! ### SUBSTITUTION_CHANGE (R143) -/

theorem State.boundary_oneRetirement {s : State} {k cause : Nat} (hretire : s.engine.pendRetire = [(k, cause)])
    (hrestore : s.engine.pendRestore = []) : s.boundary =
      (({ s with engine := { s.engine with pendRetire := [], pendRestore := [] } } : State).applyRetire (k / 64)
        (k % 64)).checkCapacity := by
  simp [State.boundary, hretire, hrestore]

theorem State.checkCapacity_noPlans {s : State} (h : ((List.range 16).all fun c => (s.ctx c).plan.isNone) = true) :
    s.checkCapacity = s := by
  refine List.foldlRecOn (motive := fun t => t = s) _ _ rfl fun t ht c hc => ?_
  have hnone : (s.ctx c).plan = none := Option.isNone_iff_eq_none.1 (List.all_eq_true.1 h c hc)
  subst ht
  simp only [hnone]

theorem State.emit_substitutions (s : State) (r : Rec) (die : Nat) :
    (s.emit r).reg (K.substitutions die) = s.reg (K.substitutions die) := by
  refine State.emit_reg s r _ (Bool.eq_false_iff.2 fun h => ?_)
  have hindex := K.substitutions_index die
  rw [Entries.has_iff] at h
  generalize K.substitutions die = k at h hindex
  simp only [hindex, K.recordsUnrouted, List.mem_cons, List.not_mem_nil, Nat.reduceEqDiff, Nat.reduceLT, or_self, or_false,
    false_or, and_false] at h
  omega

/-- An array whose spare is sound and free retires: the spare serves it, and the substitution is counted. The count has the
width of the entry of the die. -/
theorem State.applyRetire_substitutes {s : State} {die n : Nat} (hn : n < 48)
    (hsound : (s.setArray die n .retired).sound die (48 + spareOf n) = true) (hfree : s.served die (spareOf n) = none) :
    (s.applyRetire die n).engine = ((s.setArray die n .retired).setServed die (spareOf n) (some n)).engine ∧
      (s.applyRetire die n).reg (K.substitutions die) =
        (s.reg (K.substitutions die) + 1) % 2 ^ counterWidth (K.substitutions die) := by
  have hchange : (s.setArray die n .retired).sound die (48 + spareOf n) = true ∧
      (s.setArray die n .retired).served die (spareOf n) = none := ⟨hsound, hfree⟩
  simp only [State.applyRetire, if_pos hn, if_pos hchange]
  exact ⟨(State.emit_changes ..).areas .engine rfl, (State.emit_substitutions ..).trans (State.setReg_get ..)⟩

/-- A die that the assembly does not have: its counter of substitutions has no entry, and wraps at 2^64. -/
theorem substitutions_width_pastDies : counterWidth (K.substitutions 2) = 64 := by decide

/-- The retirement of array 0 of a die 2 waits for the boundary, and the count of that die stands at the greatest U32. -/
def retiresPastDies : State :=
  { mfg := { part := .brl7162 }, regs := [(K.substitutions 2, 2 ^ 32 - 1)], engine := { pendRetire := [(128, 1)] } }

theorem retiresPastDies_boundary : retiresPastDies.boundary.reg (K.substitutions 2) = 2 ^ 32 := by
  obtain ⟨hengine, hcount⟩ := State.applyRetire_substitutes (die := 2) (n := 0)
    (s := { retiresPastDies with engine := { retiresPastDies.engine with pendRetire := [], pendRestore := [] } })
    (by decide) (by decide) (by decide)
  rw [State.boundary_oneRetirement (k := 128) (cause := 1) rfl rfl, State.checkCapacity_noPlans]
  · rw [hcount, substitutions_width_pastDies]
    decide
  · simp only [State.ctx, hengine]
    decide

end Sys2Proof.Machine

open Sys2Proof Sys2Proof.Machine

/-- Settles O21: a product of two INT8 values lies within −16,256 to 16,384 and one with a 4-bit weight within −1,016 to
1,024, so that the sums follow from their length; the rounded quotient is the nearest integer for either sign. -/
theorem numbersAreBoundedAndRounded : Obligations.NumbersAreBoundedAndRounded := by
  refine ⟨fun l hlen hint8 => ?int8, fun l hlen hint4 => ?int4, fun a b => ⟨rfl, decide_eq_true_iff⟩,
    fun neg n d i hd hround => ?round⟩
  case int8 =>
    have hprod : ∀ p ∈ l, -(128 * (128 - 1)) ≤ p.1 * p.2 ∧ p.1 * p.2 ≤ 128 * 128 := fun p hp => by
      have hp := of_decide_eq_true (List.all_eq_true.1 hint8 p hp)
      exact mul_bounds (Int.le_refl 128) (by omega) (by omega)
    have hsum := passSum_bounds (by omega) (by omega) hlen hprod
    omega
  case int4 =>
    have hprod : ∀ p ∈ l, -(8 * (128 - 1)) ≤ p.1 * p.2 ∧ p.1 * p.2 ≤ 8 * 128 := fun p hp => by
      have hp := of_decide_eq_true (List.all_eq_true.1 hint4 p hp)
      exact mul_bounds (by omega : (8 : Int) ≤ 128) (by omega) (by omega)
    have hsum := passSum_bounds (by omega) (by omega) hlen hprod
    omega
  case round =>
    obtain ⟨habs, hsign⟩ := Flt.toInt_fin hround
    obtain ⟨hle, hlt⟩ := roundedQuotient_bounds hd habs.symm
    exact ⟨hle, hlt, hsign⟩

/-- Refutes O18: the statement bounds no die at the stripe boundary. A die 2, which no assembly has, has no entry in
Substitutions (R150), so its count goes on past 2^32 - 1 where the statement has it wrap. -/
theorem not_arraysAreTestedAndReplaced : ¬ Obligations.ArraysAreTestedAndReplaced := by
  rintro ⟨-, -, -, hboundary, -⟩
  obtain ⟨t, hexec, -, -, -, hcount, -⟩ := hboundary retiresPastDies 2 0 1 (by decide) rfl rfl (by decide) (by decide)
    (by decide)
  injection hexec with hsame
  rw [← hsame, retiresPastDies_boundary] at hcount
  exact absurd hcount (by decide)
end

section
/-! PROOFS. The statement on the plan slots (PlanSlotsAreFilled). What each of the four commands leaves is said as an
equation of the command's body; what a slot reads then follows from one write of that slot. -/

namespace Sys2Proof.Machine

/-! ### Uploads (R214) -/

theorem State.setSlot_planSlot_same (s : State) (n : Nat) (x : PlanSlot) : (s.setSlot n x).planSlot n = x :=
  (State.setSlot_planSlot ..).trans (if_pos rfl)

theorem State.setSlot_planSlot_ne (s : State) {n m : Nat} (x : PlanSlot) (h : m ≠ n) :
    (s.setSlot n x).planSlot m = s.planSlot m :=
  (State.setSlot_planSlot ..).trans (if_neg h)

theorem State.planSlot_congr {s t : State} (h : t.engine.slots = s.engine.slots) (n : Nat) : t.planSlot n = s.planSlot n := by
  unfold State.planSlot; rw [h]

section
variable {s : State} {n : Nat}

/-- Next to `State.openSlot_accepts`: the digest of the slot that opens is empty, and the other slots stay. -/
theorem State.openSlot_leaves {len base : Nat} (hfilling : s.slotState n ≠ 1) (hinUse : s.slotState n ≠ 3)
    (hupload : s.engine.upload = none) (hfree : len ≤ s.memFree)
    (hplace : placeRange (s.takenRanges n) (ceilDiv len (4096 * s.mfg.part.memDies) * 4096) = some base) :
    (s.openSlot n len).2.blob (K.planSlotDigest n) = [] ∧
      ∀ m, m ≠ n → (s.openSlot n len).2.planSlot m = s.planSlot m := by
  have hidle : ¬ s.engine.upload.isSome = true := by rw [hupload]; decide
  simp only [State.openSlot, if_neg (not_or.2 ⟨hfilling, hinUse⟩), if_neg hidle, if_neg (Nat.not_lt.2 hfree), hplace]
  have hslots := State.planSlot_congr (s := (s.setSlot n { st := 1, length := len, base }).setSlot n
    { st := 1, length := len, base }) rfl
  exact ⟨(State.blob_update _ rfl _).trans (State.setBlob_get ..), fun m hm => (hslots m).trans
    ((State.setSlot_planSlot_ne _ _ hm).trans (State.setSlot_planSlot_ne _ _ hm))⟩

theorem State.uploadBegin_opens {len : Nat} (hleast : 8576 ≤ len)
    (hok : (s.openSlot (s.reg K.planUploadSlot) len).1 = Status.ok) : s.uploadBegin len =
      ((s.openSlot (s.reg K.planUploadSlot) len).2.setReg K.planUploadOffset 0).cmdOk K.planUploadBegin :=
  (if_neg (Nat.not_lt.2 hleast)).trans (if_pos hok)

theorem State.uploadData_lands {d : List Byte} (hsome : d ≠ []) (hmost : d.length ≤ 65536)
    (hupload : s.engine.upload = some n) (hroom : s.reg K.planUploadOffset + d.length ≤ (s.planSlot n).length) :
    s.uploadData d = (Status.ok, (s.setSlot n { s.planSlot n with
      data := layBytes (s.planSlot n).data (s.reg K.planUploadOffset) d
      spans := addSpan (s.planSlot n).spans (s.reg K.planUploadOffset) (s.reg K.planUploadOffset + d.length) }).setReg
        K.planUploadOffset (s.reg K.planUploadOffset + d.length)) := by
  rw [State.uploadData, if_neg (not_or.2 ⟨hsome, Nat.not_lt.2 hmost⟩), hupload]
  exact if_neg (Nat.not_lt.2 hroom)

theorem State.uploadEnd_closes (hn : n < 32) (hupload : s.engine.upload = some n)
    (hcovers : covers (s.planSlot n).spans (s.planSlot n).length = true) :
    s.uploadEnd n = (s.closeSlot n).cmdOk K.planUploadEnd := by
  rw [State.uploadEnd, if_neg (Nat.not_le.2 hn), if_neg fun hother => hother hupload]
  exact if_pos hcovers

theorem State.closeSlot_planSlot (m : Nat) :
    (s.closeSlot n).planSlot m = if m = n then { s.planSlot n with st := 2, spans := [] } else s.planSlot m :=
  State.setSlot_planSlot s n { s.planSlot n with st := 2, spans := [] } m

theorem State.closeSlot_upload : (s.closeSlot n).engine.upload = none := rfl

theorem State.closeSlot_digest : (s.closeSlot n).blob (K.planSlotDigest n) = Sha3.sha512 (s.planSlot n).data :=
  State.setBlob_get ..

/-- The upload that runs into a slot ends with the slot. -/
def State.leaveUpload (s : State) (n : Nat) : State :=
  if s.engine.upload = some n then { s with engine := { s.engine with upload := none } } else s

theorem State.leaveUpload_upload : (s.leaveUpload n).engine.upload ≠ some n := by
  unfold State.leaveUpload
  split
  · exact (Option.some_ne_none n).symm
  · assumption

theorem State.leaveUpload_planSlot (m : Nat) : (s.leaveUpload n).planSlot m = s.planSlot m := by
  unfold State.leaveUpload
  split <;> rfl

theorem State.leaveUpload_blob (k : Nat) : (s.leaveUpload n).blob k = s.blob k := by
  unfold State.leaveUpload
  split <;> rfl

theorem State.slotClear_clears (hn : n < 32) (hunused : s.slotState n ≠ 3) : s.slotClear n =
    (((s.setSlot n {}).setBlob (K.planSlotDigest n) []).leaveUpload n).cmdOk K.planSlotClear :=
  (if_neg (Nat.not_le.2 hn)).trans (if_neg hunused)

end

/-- A write of a CMD entry whose body accepts it, as a row. -/
theorem State.runCmd_accepts {s t : State} {sess k st : Nat} {body : State → Nat × State} (hgate : s.gate sess k = none)
    (hbody : body s = (st, t)) :
    (.next (s.runCmd sess k body) : Host.Outcome State Fault Refusal) = .next (t.answer sess k st) := by
  rw [State.runCmd_ok hgate, hbody]

end Sys2Proof.Machine

open Sys2Proof Sys2Proof.Machine

/-- Settles O19: the body of each command is one write of the slot it names, next to the digest, the offset and the upload
that runs. -/
theorem planSlotsAreFilled : Obligations.PlanSlotsAreFilled := by
  refine ⟨fun s sess length n base hgate hleast hslot hfilling hinUse hupload hfree hplace => ?begin,
    fun s sess n d hgate hsome hmost hupload hroom => ?data, fun s sess n hgate hn hupload hcovers => ?complete,
    fun s sess n hgate hn hunused => ?clear⟩
  case begin =>
    subst hslot
    obtain ⟨hok, hopened, huploads⟩ := State.openSlot_accepts hfilling hinUse hupload hfree hplace
    obtain ⟨hdigest, hothers⟩ := State.openSlot_leaves hfilling hinUse hupload hfree hplace
    have hexec : exec (.planUploadBegin sess length) s = _ :=
      State.runCmd_accepts hgate (State.uploadBegin_opens hleast hok)
    have hchanges := execPlanUploadBegin_changes sess length s hexec
    generalize (s.openSlot (s.reg K.planUploadSlot) length).2 = t at hexec hchanges hopened hothers huploads hdigest
    exact ⟨_, hexec, hopened, hothers, huploads, State.setReg_get .., hdigest, State.cmdSet_cmdRead .., hchanges⟩
  case data =>
    have hexec : exec (.planUploadData sess d) s = _ :=
      State.runCmd_accepts hgate (State.uploadData_lands hsome hmost hupload hroom)
    exact ⟨_, hexec, State.setSlot_planSlot_same .., fun m hm => State.setSlot_planSlot_ne _ _ hm, State.setReg_get ..,
      execPlanUploadData_changes sess d s hexec⟩
  case complete =>
    have hexec : exec (.planUploadEnd sess n) s = _ :=
      State.runCmd_accepts hgate (State.uploadEnd_closes hn hupload hcovers)
    have hslots := State.closeSlot_planSlot (s := s) (n := n)
    have hupload := State.closeSlot_upload (s := s) (n := n)
    have hdigest := State.closeSlot_digest (s := s) (n := n)
    have hchanges := execPlanUploadEnd_changes sess n s hexec
    generalize s.closeSlot n = t at hexec hchanges hslots hupload hdigest
    exact ⟨_, hexec, (hslots n).trans (if_pos rfl), fun m hm => (hslots m).trans (if_neg hm), hupload, hdigest,
      State.cmdSet_cmdRead .., hchanges⟩
  case clear =>
    have hexec : exec (.planSlotClear sess n) s = _ := State.runCmd_accepts hgate (State.slotClear_clears hn hunused)
    exact ⟨_, hexec, (State.leaveUpload_planSlot n).trans (State.setSlot_planSlot_same ..),
      fun m hm => (State.leaveUpload_planSlot m).trans (State.setSlot_planSlot_ne _ _ hm), State.leaveUpload_upload,
      (State.leaveUpload_blob _).trans (State.setBlob_get ..), State.cmdSet_cmdRead ..,
      execPlanSlotClear_changes sess n s hexec⟩
end

section
/-! PROOFS. The statement on the start and the end of a kernel (KernelsStartAndEnd). A start and an end first bring up to
their cycle what has starved; that moves no period and no plan, so a cycle that is too early stays too early. -/

namespace Sys2Proof.Machine

/-! ### What has starved by a cycle (R135) -/

/-- Two states place their kernels alike: the same period runs, of the same plan. -/
def State.PlacedAs (s t : State) : Prop := t.engine.period = s.engine.period ∧ t.runPlan 0 = s.runPlan 0

theorem State.freeze_placed (s : State) (die c n at' cyc : Nat) : s.PlacedAs (s.freeze die c n at' cyc) := by
  unfold State.freeze
  split
  · exact ⟨rfl, rfl⟩
  · exact ⟨rfl, rfl⟩

theorem State.feed_placed (s : State) (cyc : Nat) : s.PlacedAs (s.feed cyc) := by
  refine List.foldlRecOn (motive := s.PlacedAs) _ _ ⟨rfl, rfl⟩ fun t ⟨hperiod, hplan⟩ d _ => ?_
  split
  · exact ⟨hperiod, hplan⟩
  · simp only []
    split
    · exact ⟨hperiod, hplan⟩
    · obtain ⟨hperiod', hplan'⟩ := t.freeze_placed d _ _ _ cyc
      exact ⟨hperiod'.trans hperiod, hplan'.trans hplan⟩

/-! ### The kernel that may start (R221, R228) -/

section
variable {s : State} {n cyc : Nat} {per : Period} {r : Ready}

theorem State.kernelReady_zero (hat : s.kernelAt 0 n = some r) (hper : s.engine.period = some per)
    (hrunning : (s.ctx 0).st = .running) (hthaw : s.isFrozen r.k.die = false) (hran : per.ran.contains n = false)
    (hdue : r.due ≤ cyc) : s.kernelReady 0 n cyc = some r := by
  have hfresh : (s.ranKernels 0).contains n = false := by simp only [State.ranKernels, hper]; exact hran
  rw [State.kernelReady, hat]
  refine if_neg ?_
  simp only [hrunning, hthaw, hfresh, ne_eq, not_true_eq_false, reduceCtorEq, false_or, Nat.not_lt]
  exact hdue

theorem State.kernelReady_early {p : Plan} {k : Kernel} (hplan : s.runPlan 0 = some p) (hk : p.kernels[n]? = some k)
    (hper : s.engine.period = some per) (hearly : cyc < per.start + k.start) : s.kernelReady 0 n cyc = none := by
  simp only [State.kernelReady, State.kernelAt, hplan, hk, hper, ↓reduceIte]
  cases per.empty with
  | true => rfl
  | false => exact if_pos (.inr (.inr (.inr (Nat.lt_of_lt_of_le hearly (Nat.le_add_right ..)))))

/-! ### A kernel that only sends (R191) -/

/-- Memory, the activation stores, the running period and what starves are the same. -/
structure State.KeepsStores (s t : State) : Prop where
  memory : t.memory = s.memory
  act : t.engine.act = s.engine.act
  period : t.engine.period = s.engine.period
  starving : t.engine.starving = s.engine.starving

theorem State.KeepsStores.trans {s t u : State} (h : s.KeepsStores t) (g : t.KeepsStores u) : s.KeepsStores u :=
  ⟨g.memory.trans h.memory, g.act.trans h.act, g.period.trans h.period, g.starving.trans h.starving⟩

theorem State.tagKernel_keepsStores (s : State) (r : Ready) (c n cyc : Nat) (noRow noWrite : Bool) :
    s.KeepsStores (s.tagKernel r c n cyc noRow noWrite) := by
  have h := State.tagKernel_changes s r c n cyc noRow noWrite
  have hengine : (s.tagKernel r c n cyc noRow noWrite).engine = s.engine := h.areas .engine rfl
  exact ⟨h.areas .memory rfl, by rw [hengine], by rw [hengine], by rw [hengine]⟩

theorem State.saveCarry_keepsStores (s : State) (w : Work) : s.KeepsStores (s.saveCarry w) := by
  unfold State.saveCarry
  split
  · exact ⟨rfl, rfl, rfl, rfl⟩
  · exact ⟨rfl, rfl, rfl, rfl⟩

theorem State.sendHalo_keepsStores (s : State) (w : Work) (k : Kernel) : s.KeepsStores (s.sendHalo w k) :=
  ⟨rfl, rfl, rfl, rfl⟩

theorem State.KeepsStores.refl (s : State) : s.KeepsStores s := ⟨rfl, rfl, rfl, rfl⟩

theorem State.KeepsStores.ite {s t u : State} (p : Prop) [Decidable p] (h : s.KeepsStores t) (g : s.KeepsStores u) :
    s.KeepsStores (if p then t else u) := by
  split
  · exact h
  · exact g

/-- A kernel of an array layer on a vector unit writes at most carried rows and the other die's halo region. -/
theorem State.computeKernel_keepsStores (s : State) (c : Nat) (mute : Bool) (hop : r.w.layer.op = 1) (hunit : 11 < r.k.unit)
    (hdecision : r.w.layer.decision = false) : s.KeepsStores (s.computeKernel r c mute) := by
  have hnoStep : ¬ r.w.layer.op = 8 := by rw [hop]; decide
  have hnoDecision : ¬ (r.w.layer.decision = true ∧ r.mute = false) := by simp [hdecision]
  simp only [State.computeKernel, if_neg hnoStep, if_pos (And.intro hop hunit), if_neg hnoDecision]
  refine State.KeepsStores.trans ?_ (.ite _ (State.sendHalo_keepsStores _ _ _) (.refl _))
  exact .ite _ (State.KeepsStores.trans (.ite _ (.refl s) (State.saveCarry_keepsStores _ _))
    (.ite _ (State.saveCarry_keepsStores _ _) (.refl _))) (.refl s)

theorem State.settleFreeze_idle {d : Nat} (h : SMap.find? s.engine.starving d = none) : s.settleFreeze d = s := by
  rw [State.settleFreeze, h]

theorem State.noteStart_zero (hper : s.engine.period = some per) (n : Nat) : s.noteStart 0 n =
    { s with engine := { s.engine with period := some { per with ran := per.ran ++ [n] } } } := by
  rw [State.noteStart, if_pos rfl, hper]

/-- The start of a kernel that only sends makes no check and no count. -/
theorem State.kernelGo_sends (obs : KernelObs) (hready : s.kernelReady 0 n cyc = some r) (hfed : s.starvedAt r cyc = none)
    (hop : r.w.layer.op = 1) (hunit : 11 < r.k.unit) (hfirst : bitOf r.k.flags 2 = false) :
    ∃ mute, s.kernelGo 0 n cyc obs =
      (((s.noteStart 0 n).tagKernel { r with w := { r.w with obs } } 0 n cyc true mute).computeKernel
        { r with w := { r.w with obs } } 0 mute).settleFreeze (1 - r.k.die) := by
  refine ⟨r.mute || (s.noteStart 0 n).isAborted { r.w with obs }, ?_⟩
  simp only [State.kernelGo, hready, hfed, hfirst, hop, hunit, Bool.false_and, Bool.false_eq_true, decide_true, BEq.rfl,
    Bool.and_self, ↓reduceIte]

/-! ### The end of a kernel (R219, R452) -/

/-- A kernel that has started and not ended, in a cycle from its last one on, and that no sample follows: the buffers that
it does not release stay held. -/
theorem State.kernelStop_ends {p : Plan} {k : Kernel} (hthaw : s.isFrozen k.die = false) (hplan : s.runPlan 0 = some p)
    (hk : p.kernels[n]? = some k) (hper : s.engine.period = some per) (hran : per.ran.contains n = true)
    (hdone : per.done.contains n = false) (hdue : per.start + k.start + k.cycles + per.frozenOn k.die ≤ cyc)
    (htag : SMap.find? s.perf.tags k.die = none) :
    ∃ held, (bitOf k.flags 0 = false → held = s.engine.heldBufs) ∧ s.kernelStop 0 n cyc =
      { s with engine := { s.engine with period := some { per with done := per.done ++ [n] }, heldBufs := held } } := by
  have hends : s.kernelEnds 0 n =
      some (p, k, per.start + k.start + k.cycles + per.frozenOn k.die, true) := by
    simp only [State.kernelEnds, hplan, hk, hper, hran, hdone, Bool.not_false, Bool.and_self]
  have hnow : ¬ (true = false ∨ cyc < per.start + k.start + k.cycles + per.frozenOn k.die ∨ s.isFrozen k.die = true) := by
    simp only [hthaw, Bool.false_eq_true, reduceCtorEq, or_false, false_or, Nat.not_lt]
    exact hdue
  simp only [State.kernelStop, hends, if_neg hnow, htag, hper, ne_eq, not_true_eq_false, ↓reduceIte]
  refine ⟨_, fun hkeep => ?_, rfl⟩
  rw [hkeep, Bool.false_and]
  exact if_neg (by decide)

end

theorem exec_kernelStart_zero (s : State) (n cyc : Nat) (obs : KernelObs) :
    exec (.kernelStart 0 n cyc obs) s = .next ((s.feed cyc).kernelGo 0 n cyc obs) :=
  guardUnit_carried (decide_eq_true (by decide : 0 < 16)) 0 _

theorem exec_kernelEnd_zero (s : State) (n cyc : Nat) :
    exec (.kernelEnd 0 n cyc) s = .next ((s.feed cyc).kernelStop 0 n cyc) :=
  guardUnit_carried (decide_eq_true (by decide : 0 < 16)) 0 _

end Sys2Proof.Machine

open Sys2Proof Sys2Proof.Machine

/-- Settles O20: a kernel that only sends writes carried rows and the halo region besides its note and its tag; a freeze moves
no cycle of the period to an earlier one; the end of a kernel is a note and, with RELEASE_STRIPE, the buffers. -/
theorem kernelsStartAndEnd : Obligations.KernelsStartAndEnd := by
  refine ⟨fun s n cyc obs r per hfeed hat hper hrunning hthaw hran hdue hstarved hother hop hunit hfirst hdecision => ?sends,
    fun s n cyc obs p k per hplan hk hper hearly => ?early,
    fun s n cyc p k per hfeed hthaw hplan hk hper hran hdone hdue htag => ?ends⟩
  case sends =>
    have hexec := exec_kernelStart_zero s n cyc obs
    obtain ⟨mute, hgo⟩ := State.kernelGo_sends obs (State.kernelReady_zero hat hper hrunning hthaw hran hdue)
      (Option.isNone_iff_eq_none.1 hstarved) hop hunit hfirst
    have hkeeps := ((s.noteStart 0 n).tagKernel_keepsStores { r with w := { r.w with obs } } 0 n cyc true mute).trans
      (State.computeKernel_keepsStores (r := { r with w := { r.w with obs } }) _ 0 mute hop hunit hdecision)
    rw [hfeed, hgo, State.settleFreeze_idle (by rw [hkeeps.starving, State.noteStart_zero hper]; exact hother)] at hexec
    refine ⟨_, hexec, ?_, ?_, ?_, execKernelStart_changes 0 n cyc obs s hexec⟩
    · rw [hkeeps.period, State.noteStart_zero hper]
    · rw [hkeeps.memory, State.noteStart_zero hper]
    · rw [hkeeps.act, State.noteStart_zero hper]
  case early =>
    obtain ⟨hperiod, hsame⟩ := s.feed_placed cyc
    rw [exec_kernelStart_zero, State.kernelGo,
      State.kernelReady_early (hsame.trans hplan) hk (hperiod.trans hper) hearly]
  case ends =>
    have hexec := exec_kernelEnd_zero s n cyc
    obtain ⟨held, hheld, hstop⟩ := State.kernelStop_ends hthaw hplan hk hper hran hdone hdue htag
    rw [hfeed, hstop] at hexec
    exact ⟨_, hexec, rfl, hheld, execKernelEnd_changes 0 n cyc s hexec⟩
end

section
/-! PROOFS. The statement on the periods of the real-time plan (PeriodsStartAndEnd fails). What a period that starts is
numbered is said for every state, and a period of a later numbering then refutes. -/

namespace Sys2Proof.Machine

/-! ### PERIOD_START (R228) -/

theorem State.boundary_nothingWaits {s : State} (hretire : s.engine.pendRetire = []) (hrestore : s.engine.pendRestore = []) :
    s.boundary = s := by
  simp [State.boundary, hretire, hrestore]

theorem State.runZero_period (s : State) (per : Period) : (s.runZero per).engine.period = some per := by
  simp only [State.runZero, State.trackReady_same]

/-- The period that starts, with a number that counts within its numbering (R31). -/
def NextPeriod.starts (n : NextPeriod) (due cyc : Nat) : Period :=
  { k := stripeNum n.first / max 1 n.plan.batch, first := n.first, upto := n.upto, start := cyc, due
    flush := n.flush, late := decide (due < cyc), old := n.old }

theorem State.periodGo_period (s : State) (n : NextPeriod) (due cyc : Nat) :
    (s.periodGo n due cyc).engine.period = some (n.starts due cyc) := State.runZero_period ..

theorem State.periodStart_period {s : State} {n : NextPeriod} {cyc : Nat} (hnext : s.nextDue = some n) (hmay : s.mayRun = true)
    (hdue : n.due.getD (max cyc s.engine.lastEnd) ≤ cyc) (hend : s.engine.lastEnd ≤ cyc) (hretire : s.engine.pendRetire = [])
    (hrestore : s.engine.pendRestore = []) :
    (s.periodStart cyc).engine.period = some (n.starts (n.due.getD (max cyc s.engine.lastEnd)) cyc) := by
  have hnow : ¬ (s.mayRun = false ∨ cyc < n.due.getD (max cyc s.engine.lastEnd) ∨ cyc < s.engine.lastEnd) := by
    simp only [hmay, Bool.true_eq_false, false_or, not_or, Nat.not_lt]
    exact ⟨hdue, hend⟩
  simp only [State.periodStart, hnext, if_neg hnow, State.boundary_nothingWaits hretire hrestore, if_pos hmay]
  exact State.periodGo_period ..

/-! ### A refuting state -/

/-- A REALTIME plan with stripes of 16 lines. -/
def stripesOf16 : Plan := { stripeLines := 16, periodCycles := 100 }

/-- A new origin has begun the numbering 1 of the lines (R30, R31), and its stripe 0 is ready. -/
def readyPastOrigin : State :=
  { mfg := { part := .brl7162 }, belt := { era := 1, liveEra := 1 }
    pipe := { stripes := [(lineKey 1 0 / 16, { num := lineKey 1 0 / 16, ready := true, readyCyc := 5 })] }
    engine := { ctxs := [(0, { st := .ready, plan := some stripesOf16 })] } }

/-- The period of that stripe. -/
def periodPastOrigin : NextPeriod :=
  { plan := stripesOf16, first := lineKey 1 0 / 16, upto := lineKey 1 0 / 16 + 1, old := false, flush := false, due := some 5 }

theorem readyPastOrigin_nextDue : readyPastOrigin.nextDue = some periodPastOrigin := by decide

end Sys2Proof.Machine

open Sys2Proof Sys2Proof.Machine

/-- Refutes O22: the number of a period counts within its numbering (R31, log entry 46), where the statement divides the first
stripe as the model holds it; after a new origin that stripe carries the numbering above its own number. -/
theorem not_periodsStartAndEnd : ¬ Obligations.PeriodsStartAndEnd := by
  rintro ⟨hstart, -⟩
  obtain ⟨t, hexec, -, hperiod, -⟩ := hstart readyPastOrigin periodPastOrigin 7 readyPastOrigin_nextDue (by decide)
    (by decide) (by decide) rfl rfl
  injection hexec with hsame
  rw [← hsame, State.periodStart_period readyPastOrigin_nextDue (by decide) (by decide) (by decide) rfl rfl] at hperiod
  exact absurd hperiod (by decide)
end

section
/-! PROOFS. The statement on slots, background steps and flushes (SlotsAndStepsRun). The operations of a row that follow its
own writes leave the engine, or the fields of it that the statement reads, as they were: each such fact is said once. -/

namespace Sys2Proof.Machine

theorem State.ctx_congr {s t : State} (h : t.engine = s.engine) (c : Nat) : t.ctx c = s.ctx c := by
  unfold State.ctx; rw [h]

/-! ### Slots (R222, R237) -/

theorem State.closeOpen_period (s : State) (die : Nat) : (s.closeOpen die).engine.period = s.engine.period := by
  unfold State.closeOpen
  split
  · rfl
  · simp only []
    split
    · simp only [State.trackReady_same]; rfl
    · rfl

theorem State.decideReruns_period (s : State) (p : Plan) (per : Period) (die l : Nat) :
    (s.decideReruns p per die l).engine.period = s.engine.period := by
  refine List.foldlRecOn (motive := fun t : State => t.engine.period = s.engine.period) _ _ rfl fun t ht b _ => ?_
  simp only []
  split
  · exact ht
  · split <;> exact ht

/-- A slot that starts is noted in the running period, whatever its kind. -/
theorem State.slotGo_period {s : State} {die n cyc : Nat} {per : Period} {p : Plan} {x : PSlot}
    (hper : s.engine.period = some per) (hplan : s.runPlan 0 = some p) (hx : p.slots[n]? = some x)
    (hdie : bitOf x.dieMask die = true) (hthaw : s.isFrozen die = false) (hnext : SMap.get 0 per.slot die ≤ n)
    (hdue : per.start + x.start + per.frozenOn die ≤ cyc) :
    (s.slotGo die n cyc).engine.period = some { per with slot := SMap.set 0 per.slot die (n + 1) } := by
  have hgo : ¬ (bitOf x.dieMask die = false ∨ cyc < per.start + x.start + per.frozenOn die ∨ s.isFrozen die = true ∨
      n + 1 ≤ SMap.get 0 per.slot die) := by
    simp only [hdie, hthaw, reduceCtorEq, false_or, not_or, Nat.not_lt, Nat.not_le]
    exact ⟨hdue, Nat.lt_succ_of_le hnext⟩
  have hruns : ((s.releaseHeld cyc).closeOpen die).engine.period = some per := by
    rw [State.closeOpen_period, (State.releaseHeld_changes s cyc).areas .engine rfl, hper]
  simp only [State.slotGo, hper, hplan, hx, if_neg hgo, hruns]
  split
  · split <;> rfl
  · split
    · exact State.decideReruns_period ..
    · rfl

theorem exec_slotStart {die : Nat} (hdie : die < 2) (n cyc : Nat) (s : State) :
    exec (.slotStart die n cyc) s = .next ((s.feed cyc).slotGo die n cyc) := guardUnit_carried (decide_eq_true hdie) _ _

/-! ### The start of a step (R237, R238) -/

theorem State.releaseHeld_nothingHeld {s : State} (h : s.knots.held = []) (cyc : Nat) : s.releaseHeld cyc = s := by
  simp [State.releaseHeld, h]

theorem State.trackReady_ctx (s : State) (c : Nat) : s.trackReady.ctx c = s.ctx c :=
  State.ctx_congr ((State.trackReady_changes s).areas .engine rfl) c

theorem State.setCtx_ctx_same (s : State) (c : Nat) (x : Context) : (s.setCtx c x).ctx c = x :=
  (State.setCtx_ctx ..).trans (if_pos rfl)

section
variable {s : State} {c n cyc : Nat} {p : Plan}

/-- A READY context with a job and a plan has its next step pending on the die of that step. -/
theorem State.stepPending_ready (hplan : (s.ctx c).plan = some p) (hstep : p.steps[(s.ctx c).nextStep]? = some n)
    (hready : (s.ctx c).st = .ready) (hjobs : (s.ctx c).jobs ≠ []) (hidle : (s.ctx c).run = none)
    (hwaits : s.stepWaits c n = false) : s.stepPending c (p.stepDie n) = some n := by
  obtain ⟨j, rest, hjob⟩ := List.exists_cons_of_ne_nil hjobs
  simp only [State.stepPending, hplan, hjob, hidle, hstep, hready, hwaits, true_or, and_self, ↓reduceIte]

/-- A step starts where each die is one unbounded OPEN slot and the choice falls on its context. -/
theorem State.stepStart_runs (hc : 0 < c) (hplan : (s.ctx c).plan = some p) (hstep : p.steps[(s.ctx c).nextStep]? = some n)
    (hpending : s.stepPending c (p.stepDie n) = some n) (hheld : s.knots.held = []) (hrt : s.rtPlan = none)
    (hold : s.engine.old = none) (hchoice : s.openChoice (p.stepDie n) 65534 = some c) (hfree : s.dieBusy (p.stepDie n) = false)
    (hthaw : s.isFrozen (p.stepDie n) = false) (htorn : s.faults.torn = []) (hrun : s.power.st = .run)
    (hclock : s.power.clock = none) (hrecovery : s.faults.recovery = none) :
    s.stepStart c cyc = (s.setCtx c { s.ctx c with
      st := .running, run := some { step := n, die := p.stepDie n, start := cyc } }).trackReady := by
  have hunbounded : s.unbounded = true := by simp [State.unbounded, hrt, hold]
  simp only [State.stepStart, State.releaseHeld_nothingHeld hheld, hplan, hstep, hunbounded, hchoice, hpending, hfree, hthaw,
    htorn, hrun, hclock, hrecovery, BEq.rfl, Option.isSome_none, Nat.ne_of_gt hc, ne_eq, not_true_eq_false, reduceCtorEq,
    or_self, ↓reduceIte]

theorem exec_stepStart (hc : c < 16) (cyc : Nat) (s : State) : exec (.stepStart c cyc) s = .next (s.stepStart c cyc) :=
  guardUnit_carried (decide_eq_true hc) _ _

theorem exec_stepEnd (hc : c < 16) (cyc : Nat) (s : State) : exec (.stepEnd c cyc) s = .next ((s.feed cyc).stepStop c cyc) :=
  guardUnit_carried (decide_eq_true hc) _ _

end

/-! ### The end of a step (R221, R237) -/

/-- The entries of the counts of a context (0x0913 and 0x0914) are outside a list that names none of them. -/
theorem Entries.has_contextCount {l : List Nat} {k : Nat} (hk : k / 256 = 0x0913 ∨ k / 256 = 0x0914)
    (hl : ∀ i ∈ l, ¬ (i = 0x0913 ∨ i = 0x0914) ∧ ¬ (i / 256 = 0x0913 ∨ i / 256 = 0x0914)) :
    (Entries.only l).has k = false := by
  refine Bool.eq_false_iff.2 fun h => ?_
  obtain ⟨-, hindex⟩ | hkey := Entries.has_iff.1 h
  · exact (hl _ hindex).1 hk
  · exact (hl _ hkey).2 hk

theorem K.contextStepsRun_width : ∀ c, c < 16 → counterWidth (K.contextStepsRun c) = 64 := by decide

theorem K.contextOpenCycles_width : ∀ c, c < 16 → counterWidth (K.contextOpenCycles c) = 64 := by decide

theorem K.contextStepsRun_ne_openCycles (c : Nat) : K.contextStepsRun c ≠ K.contextOpenCycles c := by
  show 0x091400 + (c + 1) % 256 ≠ 0x091300 + (c + 1) % 256
  omega

/-- A step that has ended is counted, and its signals are issued. -/
def State.countStep (s : State) (c : Nat) (p : Plan) (r : StepRun) (cyc : Nat) : State :=
  ((s.bump (K.contextStepsRun c)).bump (K.contextOpenCycles c) (p.stepCycles r.step)).endSignals c r.step r.start cyc

/-- A job after one more step. -/
def Job.afterStep (j : Job) (len : Nat) : Job := { j with steps := j.steps + 1, cycles := j.cycles + len }

/-- A context whose job goes on or ends leaves the dies, but for an OPEN slot that it holds. -/
def State.leaveDies (s : State) (c : Nat) : State :=
  let holds := s.engine.openTo.any fun o => o.2 == c + 1
  let st := if (s.ctx c).jobs = [] then CtxSt.idle else if holds then .running else .ready
  (s.setCtx c { s.ctx c with
    st := if (s.ctx c).st = .running then (if holds then .running else st) else (s.ctx c).st }).trackReady

/-- With its last step a job ends; before, the next step is prepared. -/
def State.nextOrEnd (s : State) (c : Nat) (j : Job) (last : Prop) [Decidable last] : State :=
  if last then s.endJob c j else s.prepareStep c

section
variable {s : State} {c : Nat}

theorem State.prepareStep_ctx (d : Nat) : (s.prepareStep c).ctx d = s.ctx d :=
  State.ctx_congr ((State.prepareStep_changes s c).areas .engine rfl) d

theorem State.endJob_run (j : Job) : ((s.endJob c j).ctx c).run = (s.ctx c).run := by
  simp only [State.endJob]
  rw [State.prepareStep_ctx, State.ctx_congr ((State.finishCmd_changes ..).areas .engine rfl), State.setCtx_ctx_same]

theorem State.nextOrEnd_run (j : Job) (last : Prop) [Decidable last] :
    ((s.nextOrEnd c j last).ctx c).run = (s.ctx c).run := by
  unfold State.nextOrEnd
  split
  · exact State.endJob_run j
  · rw [State.prepareStep_ctx]

theorem State.nextOrEnd_contextCount (j : Job) (last : Prop) [Decidable last] {k : Nat}
    (hk : k / 256 = 0x0913 ∨ k / 256 = 0x0914) : (s.nextOrEnd c j last).reg k = s.reg k := by
  unfold State.nextOrEnd
  split
  · exact (State.endJob_changes s c j).entries k (Entries.has_contextCount hk (by decide))
  · exact (State.prepareStep_changes s c).entries k (Entries.has_contextCount hk (by decide))

theorem State.leaveDies_run : ((s.leaveDies c).ctx c).run = (s.ctx c).run := by
  rw [State.leaveDies, State.trackReady_ctx, State.setCtx_ctx_same]

theorem State.leaveDies_reg (k : Nat) : (s.leaveDies c).reg k = s.reg k := by
  rw [State.leaveDies, State.trackReady_reg, State.setCtx_reg]

theorem State.countStep_contextCount {p : Plan} {r : StepRun} {cyc k : Nat} (hk : k / 256 = 0x0913 ∨ k / 256 = 0x0914) :
    (s.countStep c p r cyc).reg k =
      ((s.bump (K.contextStepsRun c)).bump (K.contextOpenCycles c) (p.stepCycles r.step)).reg k :=
  (State.endSignals_changes ..).entries k (Entries.has_contextCount hk (by decide))

theorem State.countStep_stepsRun {p : Plan} {r : StepRun} {cyc : Nat} (hc : c < 16) :
    (s.countStep c p r cyc).reg (K.contextStepsRun c) = (s.reg (K.contextStepsRun c) + 1) % 2 ^ 64 := by
  rw [State.countStep_contextCount (.inr (K.contextStepsRun_index c)), State.bump_reg,
    if_neg (K.contextStepsRun_ne_openCycles c), State.bump_reg, if_pos rfl, K.contextStepsRun_width c hc]

theorem State.countStep_openCycles {p : Plan} {r : StepRun} {cyc : Nat} (hc : c < 16) :
    (s.countStep c p r cyc).reg (K.contextOpenCycles c) =
      (s.reg (K.contextOpenCycles c) + p.stepCycles r.step) % 2 ^ 64 := by
  rw [State.countStep_contextCount (.inl (K.contextOpenCycles_index c)), State.bump_reg, if_pos rfl, State.bump_reg,
    if_neg (K.contextStepsRun_ne_openCycles c).symm, K.contextOpenCycles_width c hc]

/-- A step whose cycles have passed on a die that is not frozen. -/
theorem State.stepStop_ends {p : Plan} {r : StepRun} {j : Job} {rest : List Job} {cyc : Nat} (hplan : (s.ctx c).plan = some p)
    (hrun : (s.ctx c).run = some r) (hjobs : (s.ctx c).jobs = j :: rest) (hthaw : s.isFrozen (p.stepDie r.step) = false)
    (hdue : r.start + p.stepCycles r.step ≤ cyc) : s.stepStop c cyc =
      ((((s.countStep c p r cyc).setCtx c { (s.countStep c p r cyc).ctx c with
        run := none, nextStep := ((s.countStep c p r cyc).ctx c).nextStep + 1
        jobs := j.afterStep (p.stepCycles r.step) :: rest }).nextOrEnd c (j.afterStep (p.stepCycles r.step))
          (p.steps.length ≤ ((s.countStep c p r cyc).ctx c).nextStep + 1 ∨
            (j.afterStep (p.stepCycles r.step)).poisoned = true)).leaveDies c) := by
  have hnow : ¬ (cyc < r.start + p.stepCycles r.step ∨ s.isFrozen (p.stepDie r.step) = true) := by
    simp only [hthaw, reduceCtorEq, or_false, Nat.not_lt]
    exact hdue
  simp only [State.stepStop, hplan, hrun, hjobs, if_neg hnow]
  rfl

end

/-! ### Flush (R232) -/

/-- The flush stripes of a plan after a line, and the real lines before them. -/
def Plan.flushRun (p : Plan) (n lines : Nat) : FlushRun :=
  { left := p.flush, stripe := n / p.stripeLines + 1, lines, resume := n / p.stripeLines + 1 + p.flush }

section
variable {s : State} {p : Plan} {n : Nat}

theorem State.realLines_streaming (hplan : s.rtPlan = some p) (hlast : s.lastTriggered = some n)
    (hgoes : s.belt.streamStart = false) : s.realLines = n + 1 - s.belt.startStripe * p.stripeLines := by
  simp [State.realLines, State.stripeS, hplan, hlast, hgoes]

theorem State.beginFlush_flush (f : FlushRun) : (s.beginFlush f).engine.flush = some f := by
  unfold State.beginFlush
  simp only []
  split
  · simp only [State.setCtx, State.closePass_same]
  · simp only [State.closePass_same]

theorem State.flushCmd_begins (hplan : s.rtPlan = some p)
    (hstill : s.belt.st = .stopped ∨ s.belt.st = .lost ∨ s.belt.st = .noSource) (hfree : s.engine.flushAction = false)
    (hsome : p.flush ≠ 0) (hlast : s.lastTriggered = some n) (hgoes : s.belt.streamStart = false) :
    s.flushCmd = (Status.ok, (((s.streamFrom (n / p.stripeLines + 1 + p.flush)
      ((n / p.stripeLines + 1 + p.flush) * p.stripeLines)).cmdSet K.flush Status.inProgress).beginFlush
        (p.flushRun n (n + 1 - s.belt.startStripe * p.stripeLines))).trackReady) := by
  have hmoves : ¬ (s.belt.st ≠ .stopped ∧ s.belt.st ≠ .lost ∧ s.belt.st ≠ .noSource) :=
    fun ⟨hstopped, hlost, hsource⟩ => hstill.elim hstopped fun h => h.elim hlost hsource
  simp only [State.flushCmd, hplan, if_neg hmoves, hfree, hlast, hgoes, State.realLines_streaming hplan hlast hgoes,
    hsome, false_and, Bool.false_eq_true, ↓reduceIte]
  rfl

theorem State.streamFrom_belt (stripe line : Nat) : (s.streamFrom stripe line).belt.stripe = stripe ∧
    (s.streamFrom stripe line).belt.streamStart = true ∧ (s.streamFrom stripe line).belt.lineFloor = line :=
  ⟨rfl, rfl, rfl⟩

/-- A flush that has begun leaves the belt as it was. -/
theorem State.beginFlush_leaves (f : FlushRun) (status : Nat) :
    ((s.cmdSet K.flush status).beginFlush f).trackReady.cmdRead K.flush = status ∧
      ((s.cmdSet K.flush status).beginFlush f).trackReady.engine.flush = some f ∧
      ((s.cmdSet K.flush status).beginFlush f).trackReady.belt = s.belt := by
  have hbegun := State.beginFlush_changes (s.cmdSet K.flush status) f
  have hready := State.trackReady_changes ((s.cmdSet K.flush status).beginFlush f)
  have hctl := (hready.areas .ctl rfl).trans (hbegun.areas .ctl rfl)
  refine ⟨?_, (congrArg Engine.flush (hready.areas .engine rfl)).trans (State.beginFlush_flush f),
    (hready.areas .belt rfl).trans (hbegun.areas .belt rfl)⟩
  rw [State.cmdRead, hctl]
  exact State.cmdSet_cmdRead ..

end
end Sys2Proof.Machine

open Sys2Proof Sys2Proof.Machine

/-- Settles O23: a slot is noted before its kind matters, a step's context is written before its successor is prepared, and
a flush writes the belt before the pass in progress closes. -/
theorem slotsAndStepsRun : Obligations.SlotsAndStepsRun := by
  refine ⟨fun s die n cyc per p x hdie hper hplan hx hnames hthaw hfeed hnext hdue => ?slot,
    fun s c cyc p n hc hlt hplan hstep hready hjobs hidle hheld hwaits hrt hold hchoice hfree hthaw htorn hrun hclock
      hrecovery => ?start,
    fun s c cyc p r j rest hc hplan hrun hjobs hthaw hfeed hdue => ?stop,
    fun s sess p n hgate hplan hstill hfree hsome hlast hgoes => ?flush⟩
  case slot =>
    have hexec := exec_slotStart hdie n cyc s
    rw [hfeed] at hexec
    exact ⟨_, hexec, State.slotGo_period hper hplan hx hnames hthaw hnext hdue, execSlotStart_changes die n cyc s hexec⟩
  case start =>
    have hexec := exec_stepStart hlt cyc s
    rw [State.stepStart_runs hc hplan hstep (State.stepPending_ready hplan hstep hready hjobs hidle hwaits) hheld hrt hold hchoice
      hfree hthaw htorn hrun hclock hrecovery] at hexec
    refine ⟨_, hexec, ?_, ?_, execStepStart_changes c cyc s hexec⟩
    · rw [State.trackReady_ctx, State.setCtx_ctx_same]
    · rw [State.trackReady_ctx, State.setCtx_ctx_same]
  case stop =>
    have hexec := exec_stepEnd hc cyc s
    rw [hfeed, State.stepStop_ends hplan hrun hjobs hthaw hdue] at hexec
    refine ⟨_, hexec, ?_, ?_, ?_, execStepEnd_changes c cyc s hexec⟩
    · rw [State.leaveDies_run, State.nextOrEnd_run, State.setCtx_ctx_same]
    · rw [State.leaveDies_reg, State.nextOrEnd_contextCount _ _ (.inr (K.contextStepsRun_index c)), State.setCtx_reg,
        State.countStep_stepsRun hc]
    · rw [State.leaveDies_reg, State.nextOrEnd_contextCount _ _ (.inl (K.contextOpenCycles_index c)), State.setCtx_reg,
        State.countStep_openCycles hc]
  case flush =>
    have hexec : exec (.flush sess) s = _ :=
      State.runCmd_accepts hgate (State.flushCmd_begins hplan hstill hfree hsome hlast hgoes)
    obtain ⟨hstripe, hstarts, hfloor⟩ := State.streamFrom_belt (s := s) (n / p.stripeLines + 1 + p.flush)
      ((n / p.stripeLines + 1 + p.flush) * p.stripeLines)
    have hchanges := execFlush_changes sess s hexec
    generalize s.streamFrom _ _ = u at hexec hchanges hstripe hstarts hfloor
    obtain ⟨hread, hflush, hbelt⟩ := State.beginFlush_leaves (s := u)
      (p.flushRun n (n + 1 - s.belt.startStripe * p.stripeLines)) Status.inProgress
    generalize ((u.cmdSet _ _).beginFlush _).trackReady = t at hexec hchanges hread hflush hbelt
    exact ⟨_, hexec, hread, hflush, (congrArg Belt.stripe hbelt).trans hstripe, (congrArg Belt.streamStart hbelt).trans hstarts,
      (congrArg Belt.lineFloor hbelt).trans hfloor, hchanges⟩
end

section
/-! PROOFS. The statement on decision records and their pulses (DecisionsBecomePulses). A driven edge marks its channel and
may note a measurement; the pulses of the store and the settings that the compares read stay as they were. -/

namespace Sys2Proof.Machine

/-! ### The pulses of a channel (R267) -/

theorem State.setPulses_pulses (s : State) (ch : Nat) (l : List Pulse) (d : Nat) :
    (s.setPulses ch l).pulses d = if d = ch then l else s.pulses d := by
  simp only [State.setPulses, State.pulses]
  split
  · next h => rw [h, SMap.get_set_self]
  · next h => exact SMap.get_set_ne _ _ _ _ h

theorem State.setPulses_pulses_same (s : State) (ch : Nat) (l : List Pulse) : (s.setPulses ch l).pulses ch = l :=
  (State.setPulses_pulses ..).trans (if_pos rfl)

theorem State.pulses_congr {s t : State} (h : t.eject = s.eject) (ch : Nat) : t.pulses ch = s.pulses ch := by
  rw [State.pulses, h, State.pulses]

theorem State.tallyPulses_pulses (s : State) (ch : Nat) : s.tallyPulses.pulses ch = s.pulses ch :=
  State.pulses_congr ((State.tallyPulses_changes s).areas .eject rfl) ch

/-! ### Edges (R265, R274) -/

section
variable (s : State) (ch : Nat) (on : Bool) (p : Pulse) (moved : Bool)

theorem State.markOn_off : ch ∉ (s.markOn ch false).eject.chanOn := by
  simp [State.markOn, State.setChanOn]

theorem State.setRef_eject {e : Eject} (h : s.eject = e) (r : Option EdgeRef) :
    ∃ refs, (s.setRef ch on r).eject = { e with refs } := h ▸ ⟨_, rfl⟩

/-- The output or the valve link that switches a channel leaves the ejection unit's own state. -/
theorem State.switchChan_eject (base : Int) :
    ∃ refs, (s.switchChan ch on base moved).eject = { (s.markOn ch on).eject with refs } := by
  refine State.setRef_eject _ ch on ?_ _
  simp only [State.count_same, apply_ite State.eject, State.cmdOut_same, State.vlStrobe_same, State.vlAddTag_same, ite_self]

/-- What an edge, driven or not, leaves of the ejection unit's state: the channel marked, and the measurements. -/
theorem State.driveEdge_eject :
    ∃ refs, (s.driveEdge ch on p moved).2.eject = { (s.markOn ch on).eject with refs } := by
  have hoff : ((if ch < 128 then s.cmdOut ch false else s).markOn ch false).eject = (s.markOn ch false).eject := by
    split <;> rfl
  unfold State.driveEdge
  split
  · exact State.switchChan_eject ..
  · cases on with
    | true => exact ⟨_, rfl⟩
    | false =>
      simp only [Bool.false_eq_true, ↓reduceIte]
      split <;> exact ⟨_, hoff⟩

theorem State.driveEdge_pulses (d : Nat) : (s.driveEdge ch on p moved).2.pulses d = s.pulses d := by
  obtain ⟨refs, h⟩ := State.driveEdge_eject s ch on p moved
  rw [State.pulses, h]
  rfl

theorem State.driveEdge_off : ch ∉ (s.driveEdge ch false p moved).2.eject.chanOn := by
  obtain ⟨refs, h⟩ := State.driveEdge_eject s ch false p moved
  rw [h]
  exact State.markOn_off s ch

/-- The settings of valve types and latencies (0x1101 to 0x1109) are none of an edge's entries. -/
theorem State.driveEdge_setting {k : Nat} (h : 0x1101 ≤ k / 256 ∧ k / 256 ≤ 0x1109) :
    (s.driveEdge ch on p moved).2.reg k = s.reg k := by
  refine State.driveEdge_reg s ch on p moved k (Bool.eq_false_iff.2 fun hhas => ?_)
  have hentry := Entries.has_iff.1 hhas
  simp only [List.mem_cons, List.not_mem_nil, or_false, K.channelsOn, K.outputNotDriven, K.recordsUnrouted] at hentry
  omega

theorem State.driveEdge_chanType (c : Nat) : (s.driveEdge ch on p moved).2.chanType c = s.chanType c := by
  simp only [State.chanType, State.blob, State.driveEdge_same]

theorem State.driveEdge_latOn (c : Nat) : (s.driveEdge ch on p moved).2.latOn c = s.latOn c := by
  simp only [State.latOn, State.driveEdge_setting s ch on p moved (k := K.directOnLatency c) (by simp),
    State.driveEdge_setting s ch on p moved (k := K.valveLinkLatency) (by simp)]

theorem State.driveEdge_latOff (c : Nat) : (s.driveEdge ch on p moved).2.latOff c = s.latOff c := by
  simp only [State.latOff, State.driveEdge_setting s ch on p moved (k := K.directOffLatency c) (by simp),
    State.driveEdge_setting s ch on p moved (k := K.valveLinkLatency) (by simp)]

theorem State.driveEdge_closeCmp (c : Nat) (q : Pulse) :
    (s.driveEdge ch on p moved).2.closeCmp c q = s.closeCmp c q := by
  simp only [State.closeCmp, State.travel, State.driveEdge_same, State.driveEdge_chanType, State.driveEdge_latOff,
    State.driveEdge_setting s ch on p moved (k := K.valveCloseDelay (s.chanType c)) (by simp)]

end

/-! ### Taking up a decision (R265, R267) -/

theorem State.takeUpNext_first {s : State} {r : Rec} {rest : List Rec} (h : s.tracks.crossing = r :: rest) :
    s.takeUpNext = ({ s with tracks := { s.tracks with crossing := rest } } : State).takeUpDecision
      { pos := r.pos, flags := r.flags, payload := r.payload, time := r.time } := by
  simp only [State.takeUpNext, h]

theorem State.takeUpDecision_noEject {d : Decision} (h : bitOf d.flags 0 = false) (s : State) :
    s.takeUpDecision d = s := if_pos h

/-- EJECT on one enabled channel without pulses, while the store has room and no compare judges lateness. -/
theorem State.takeUpDecision_schedules {s : State} {d : Decision} {c : Nat} (heject : bitOf d.flags 0 = true)
    (hchan : s.recChannels d.payload = [c]) (hon : s.chanEnabled c = true) (hnone : s.pulses c = [])
    (hstill : s.comparesRun = false) (hroom : s.pulseCount < 32768) :
    s.takeUpDecision d =
      (((s.setPulses c [d.pulse]).bump K.pulsesMerged 0).bump K.pulsesScheduled).tallyPulses := by
  have hfits : ¬ 32768 < s.pulseCount + 1 := by omega
  simp [State.takeUpDecision, heject, hchan, hon, hnone, hstill, State.insertPulse, hfits]

theorem State.schedule_scheduled (s : State) (c : Nat) (l : List Pulse) :
    (((s.setPulses c l).bump K.pulsesMerged 0).bump K.pulsesScheduled).tallyPulses.reg K.pulsesScheduled =
      (s.reg K.pulsesScheduled + 1) % 2 ^ 64 := by
  rw [State.tallyPulses_reg _ _ (by decide), State.bump_reg, if_pos rfl, State.bump_reg, if_neg (by decide),
    State.setPulses_reg, K.pulsesScheduled_width]

/-! ### Pulses that time closes, splits and reopens (R268) -/

section
variable {s : State} {ch : Nat} {p : Pulse} {rest : List Pulse}

theorem State.minOnClose_due {t0 : Nat} (hp : s.pulses ch = p :: rest) (hdeferred : p.deferred = some t0)
    (hdue : t0 ≤ s.tick) :
    s.minOnClose ch = ((s.driveEdge ch false p true).2.setPulses ch rest).tallyPulses := by
  simp only [State.minOnClose, hp, hdeferred, if_pos hdue]

/-- A channel on for MaxOnTime switches off until MinOffTime has passed, while the close of its pulse is ahead. -/
theorem State.maxOnExpiry_splits (hp : s.pulses ch = p :: rest) (hon : p.on = true)
    (hdue : s.maxOnTick ch p.onTick ≤ s.tick) (hahead : (s.belt.ibp : Int) < s.closeCmp ch p) :
    s.maxOnExpiry ch = (s.driveEdge ch false p true).2.setPulses ch ({ p with
      on := false, deferred := none
      split := some (s.tick + (s.latOff ch + s.reg (K.valveMinOffTime (s.chanType ch)) - s.latOn ch + 3) / 4) } :: rest) := by
  simp only [State.maxOnExpiry, hp, hon, hdue, and_self, ↓reduceIte, State.driveEdge_same, State.driveEdge_closeCmp, hahead,
    State.driveEdge_latOff, State.driveEdge_latOn, State.driveEdge_chanType,
    State.driveEdge_setting s ch false p true (k := K.valveMinOffTime (s.chanType ch)) (by simp)]

/-- A split pulse as it is when its channel has switched on again. -/
def Pulse.reopened (p : Pulse) (tick : Nat) (driven : Bool) : Pulse :=
  { p with on := true, onTick := tick, split := none, driven }

theorem State.splitReopen_due {t0 : Nat} (hp : s.pulses ch = p :: rest) (hsplit : p.split = some t0) (hdue : t0 ≤ s.tick)
    (hahead : (s.belt.ibp : Int) < s.closeCmp ch p) :
    s.splitReopen ch = ((s.driveEdge ch true p true).2.setPulses ch
      (p.reopened s.tick (s.driveEdge ch true p true).1 :: rest)).bump K.pulsesSplit := by
  simp only [State.splitReopen, hp, hsplit, if_neg (Nat.not_lt.2 hdue), if_pos hahead, State.driveEdge_same]
  rfl

theorem exec_minOnTimeClose (h : ch < 1152) (s : State) : exec (.minOnTimeClose ch) s = .next (s.minOnClose ch) :=
  guardUnit_carried (decide_eq_true h) _ _

theorem exec_maxOnTimeExpiry (h : ch < 1152) (s : State) : exec (.maxOnTimeExpiry ch) s = .next (s.maxOnExpiry ch) :=
  guardUnit_carried (decide_eq_true h) _ _

theorem exec_splitReopen (h : ch < 1152) (s : State) : exec (.splitReopen ch) s = .next (s.splitReopen ch) :=
  guardUnit_carried (decide_eq_true h) _ _

end
end Sys2Proof.Machine

open Sys2Proof Sys2Proof.Machine

/-- Settles O24: each clause takes the one branch that its hypotheses name, and a driven edge leaves the pulses of the
store. -/
theorem decisionsBecomePulses : Obligations.DecisionsBecomePulses := by
  refine ⟨fun s r rest hr hflag => ?noEject, fun s r rest c hr hflag hchan hon hnone hstill hroom => ?eject,
    fun s ch t0 p rest hch hp hdeferred hdue => ?close, fun s ch p rest hch hp hon hdue hahead => ?expiry,
    fun s ch t0 p rest hch hp hsplit hdue hahead => ?reopen, fun s p rest hp => ?origin⟩
  case noEject =>
    have hexec : exec .decisionRecordTakeUp s = .next { s with tracks := { s.tracks with crossing := rest } } :=
      congrArg Host.Outcome.next ((State.takeUpNext_first hr).trans (State.takeUpDecision_noEject hflag _))
    exact ⟨_, hexec, rfl, rfl, execDecisionRecordTakeUp_changes s hexec⟩
  case eject =>
    have hexec : exec .decisionRecordTakeUp s = .next _ :=
      congrArg Host.Outcome.next ((State.takeUpNext_first hr).trans
        (State.takeUpDecision_schedules hflag hchan hon hnone hstill hroom))
    refine ⟨_, hexec, ?_, ?_, fun d hd => ?_, State.schedule_scheduled .., execDecisionRecordTakeUp_changes s hexec⟩
    · rw [(State.tallyPulses_changes _).areas .tracks rfl]; rfl
    · exact (State.tallyPulses_pulses ..).trans (State.setPulses_pulses_same ..)
    · exact (State.tallyPulses_pulses ..).trans ((State.setPulses_pulses ..).trans (if_neg hd))
  case close =>
    have hexec := exec_minOnTimeClose hch s
    rw [State.minOnClose_due hp hdeferred hdue] at hexec
    refine ⟨_, hexec, ?_, ?_, fun d hd => ?_, execMinOnTimeClose_changes ch s hexec⟩
    · rw [State.tallyPulses_pulses, State.setPulses_pulses_same]
    · rw [(State.tallyPulses_changes _).areas .eject rfl]
      exact State.driveEdge_off s ch p true
    · rw [State.tallyPulses_pulses, State.setPulses_pulses, if_neg hd, State.driveEdge_pulses]
  case expiry =>
    have hexec := exec_maxOnTimeExpiry hch s
    rw [State.maxOnExpiry_splits hp hon hdue hahead] at hexec
    exact ⟨_, hexec, State.driveEdge_off s ch p true, State.setPulses_pulses_same ..,
      execMaxOnTimeExpiry_changes ch s hexec⟩
  case reopen =>
    have hexec := exec_splitReopen hch s
    rw [State.splitReopen_due hp hsplit hdue hahead] at hexec
    refine ⟨_, hexec, ?_, ?_, execSplitReopen_changes ch s hexec⟩
    · exact congrArg (List.map fun q : Pulse => (q.on, q.split)) (State.setPulses_pulses_same ..)
    · rw [State.bump_reg, if_pos rfl, State.setPulses_reg, State.driveEdge_reg _ _ _ _ _ _ (by decide),
        K.pulsesSplit_width]
  case origin =>
    show Host.Outcome.next s.takeOrigin = _
    rw [State.takeOrigin, hp]
end

section
/-! PROOFS. The statements on the valve links (ValveLinkComesUp, ValveLinkIsKept, ValveFramesAreHandled). What an operation
leaves in its port is said once, of that operation; each row then takes the one branch that its statement names. -/

namespace Sys2Proof.Machine

/-- An entry of an index that a frame does not name keeps its value. -/
theorem Entries.has_index_false {l : List Nat} {k i : Nat} (hk : k / 256 = i) (hl : ∀ j ∈ l, j ≠ i ∧ j / 256 ≠ i) :
    (Entries.only l).has k = false := by
  refine Bool.eq_false_iff.2 fun h => ?_
  obtain ⟨-, hindex⟩ | hkey := Entries.has_iff.1 h
  · exact (hl _ hindex).1 hk
  · exact (hl _ hkey).2 hk

/-! ### What writes a port, and what leaves it -/

theorem State.vl_congr {s t : State} (h : t.field = s.field) (p : Nat) : t.vl p = s.vl p := by
  rw [State.vl, h, State.vl]

section
variable (s : State) (p : Nat) (x : VLink)

@[simp] theorem State.setVl_vl_same : (s.setVl p x).vl p = x := (State.setVl_vl ..).trans (if_pos rfl)

theorem State.setVl_vl_ne {q : Nat} (h : q ≠ p) : (s.setVl p x).vl q = s.vl q := (State.setVl_vl ..).trans (if_neg h)

@[simp] theorem State.setReg_vl (k v : Nat) : (s.setReg k v).vl p = s.vl p := State.vl_congr (by simp) p

@[simp] theorem State.bump_vl (k n : Nat) : (s.bump k n).vl p = s.vl p := State.vl_congr (by simp) p

@[simp] theorem State.setBlob_vl (k : Nat) (v : List Byte) : (s.setBlob k v).vl p = s.vl p := State.vl_congr (by simp) p

@[simp] theorem State.send_vl (o : Output) : (s.send o).vl p = s.vl p := State.vl_congr (by simp) p

@[simp] theorem State.report_vl (code src detail : Nat) : (s.report code src detail).vl p = s.vl p :=
  State.vl_congr (by simp) p

@[simp] theorem State.vlFrame_vl (q typ seq : Nat) (payload : List Byte) : (s.vlFrame q typ seq payload).vl p = s.vl p :=
  State.vl_congr (by simp) p

/-- Noting something in a port leaves whether frames go out on one. -/
@[simp] theorem State.setVl_vlSends (q : Nat) : (s.setVl p x).vlSends q = s.vlSends q := by
  have htest : (s.setVl p x).reg (K.valveLinkTest q) = s.reg (K.valveLinkTest q) :=
    State.setVl_reg _ _ _ _ (Entries.has_index_false (K.valveLinkTest_index q) (by decide))
  simp only [State.vlSends, State.setVl_same, htest]

end

/-! ### The entries of a port (spec/13) -/

theorem K.driverLosses_width : ∀ p, p < 4 → counterWidth (K.driverLosses p) = 32 := by decide

theorem K.armRetransmissions_width : ∀ p, p < 4 → counterWidth (K.armRetransmissions p) = 32 := by decide

theorem K.strobesSent_width : ∀ p, p < 4 → counterWidth (K.strobesSent p) = 64 := by decide

theorem K.valveLinkCrcErrors_width : ∀ p, p < 4 → counterWidth (K.valveLinkCrcErrors p) = 32 := by decide

theorem K.valveLinkCodeErrors_width : ∀ p, p < 4 → counterWidth (K.valveLinkCodeErrors p) = 32 := by decide

theorem K.valveLinkCodeErrors_ne_crcErrors (p : Nat) : K.valveLinkCodeErrors p ≠ K.valveLinkCrcErrors p := by
  show 0x0F1800 + (p + 1) % 256 ≠ 0x0F1900 + (p + 1) % 256
  omega

/-! ### Receiving a frame (R290) -/

/-- A frame of its row's type and length, free of errors, is handled by the row. -/
theorem State.vlTake_takes {s : State} {f : VlFrame} {typ : Nat} {len : Nat → Bool} (hreset : s.supplies.inReset = false)
    (hcode : f.codeErrors = 0) (hcrc : f.crcOk = true) (hlength : f.badLength = false) (htyp : f.typ = typ)
    (hlen : len f.payload.length = true) (p : Nat) (body : State → State) : s.vlTake p f typ len body = body s := by
  simp [State.vlTake, hreset, hcode, hcrc, hlength, htyp, hlen]

theorem State.vlDiscard_crcErrors {p : Nat} (hp : p < 4) (s : State) (f : VlFrame) :
    (s.vlDiscard p f).reg (K.valveLinkCrcErrors p) = (s.reg (K.valveLinkCrcErrors p) + 1) % 2 ^ 32 := by
  rw [State.vlDiscard, State.bump_reg, if_pos rfl, State.bump_reg, if_neg (K.valveLinkCodeErrors_ne_crcErrors p).symm,
    K.valveLinkCrcErrors_width p hp]

theorem State.vlDiscard_codeErrors {p : Nat} (hp : p < 4) (s : State) (f : VlFrame) :
    (s.vlDiscard p f).reg (K.valveLinkCodeErrors p) = (s.reg (K.valveLinkCodeErrors p) + f.codeErrors) % 2 ^ 32 := by
  rw [State.vlDiscard, State.bump_reg, if_neg (K.valveLinkCodeErrors_ne_crcErrors p), State.bump_reg, if_pos rfl,
    K.valveLinkCodeErrors_width p hp]

/-! ### What the shared operations leave in a port -/

theorem State.vlEcho_vl (s : State) (p : Nat) :
    (s.vlEcho p).vl p = { s.vl p with echoSent := some s.tick, rtt := none } := by
  unfold State.vlEcho
  simp only []
  split <;> simp

section
variable (s : State) (p cause : Nat)

theorem State.vlFail_st : ((s.vlFail p cause).vl p).st = .failed := by simp [State.vlFail]

theorem State.vlFail_vl_ne {q : Nat} (h : q ≠ p) : (s.vlFail p cause).vl q = s.vl q := by
  simp [State.vlFail, State.setVl_vl_ne _ _ _ h]

theorem State.vlFail_cause : (s.vlFail p cause).reg (K.valveLinkFailCause p) = cause := State.setReg_get ..

/-- A lost port forgets its tags and what it waited for, and keeps whether it has word lock (R297). -/
theorem State.vlLose_vl : (s.vlLose p).vl p = { s.vl p with
    st := .lost, since := s.tick, tags := [], unacked := [], strobes := [], echoes := [], echoSent := none, rtt := none } := by
  simp [State.vlLose]

theorem State.vlLose_losses {p : Nat} (hp : p < 4) :
    (s.vlLose p).reg (K.driverLosses p) = (s.reg (K.driverLosses p) + 1) % 2 ^ 32 := by
  unfold State.vlLose
  simp only []
  rw [State.report_reg _ _ _ _ _ _ _ _ (Entries.has_index_false (K.driverLosses_index p) (by decide)),
    State.setVl_reg _ _ _ _ (Entries.has_index_false (K.driverLosses_index p) (by decide)), State.bump_reg, if_pos rfl,
    K.driverLosses_width p hp]

end

/-! ### Bring-up (R288, R291, R296) -/

/-- What a port keeps of an IDENT frame, with DriverIdent. -/
def State.noteIdent (s : State) (p : Nat) (d : List Byte) : State :=
  (s.setVl p { s.vl p with ident := d, latency := leAt d 8 2, valves := leAt d 6 2, capacity := leAt d 10 2 }).setBlob
    (K.driverIdent p) d

@[simp] theorem State.noteIdent_tick (s : State) (p : Nat) (d : List Byte) : (s.noteIdent p d).tick = s.tick := by
  simp [State.noteIdent]

theorem State.noteIdent_ident (s : State) (p : Nat) (d : List Byte) : ((s.noteIdent p d).vl p).ident = d := by
  simp [State.noteIdent]

theorem State.noteIdent_chanEnabled (s : State) (p : Nat) (d : List Byte) (ch : Nat) :
    (s.noteIdent p d).chanEnabled ch = s.chanEnabled ch := by
  have hentry : K.channelValveType ≠ K.driverIdent p := by
    show 0x110601 ≠ 0x0F1200 + (p + 1) % 256
    omega
  have hblob : (s.noteIdent p d).blob K.channelValveType = s.blob K.channelValveType := by
    simp only [State.noteIdent, State.setBlob, State.blob, SMap.get_set_ne _ _ _ _ hentry, State.setVl_same]
  simp only [State.chanEnabled, State.chanType, hblob]

/-- The checks of an IDENT frame read nothing that noting the frame changes. -/
theorem State.noteIdent_identFail (s : State) (p : Nat) (d e : List Byte) :
    (s.noteIdent p d).identFail p e = s.identFail p e := by
  have hreg : (s.noteIdent p d).reg (K.armRequired p) = s.reg (K.armRequired p) := by
    rw [State.noteIdent, State.setBlob_reg,
      State.setVl_reg _ _ _ _ (Entries.has_index_false (K.armRequired_index p) (by decide))]
  have hvalves : (s.noteIdent p d).vlValves p = s.vlValves p := by
    simp only [State.vlValves, State.noteIdent_chanEnabled]
  rw [State.identFail, State.identFail, hreg, hvalves]

section
variable {s : State} {p : Nat}

theorem State.vlGained_down (hruns : s.timeRuns = true) (hst : (s.vl p).st = .down) :
    s.vlGained p = s.setVl p { s.vl p with lock := true, st := .ident, since := s.tick } := by
  simp [State.vlGained, hruns, hst]

theorem State.vlIdent_accepts {d : List Byte} (hst : (s.vl p).st = .ident) (hok : s.identFail p d = none) :
    s.vlIdent p d = ((s.noteIdent p d).setVl p { (s.noteIdent p d).vl p with
      st := .measuring, since := s.tick, lastStatus := s.tick, echoes := [], ctlSeq := 0, ackSeq := none, unacked := []
      tags := [] }).vlEcho p := by
  have hnoted := (State.noteIdent_identFail s p d d).trans hok
  unfold State.vlIdent
  simp only []
  rw [if_pos (.inl hst), ← State.noteIdent]
  simp only [hnoted, State.noteIdent_tick]

/-- The port and DriverIdent once an acceptable IDENT frame has started the measuring. -/
theorem State.vlIdent_measures {d : List Byte} (hst : (s.vl p).st = .ident) (hok : s.identFail p d = none) :
    ((s.vlIdent p d).vl p).st = .measuring ∧ ((s.vlIdent p d).vl p).ident = d ∧
      ((s.vlIdent p d).vl p).echoSent = some s.tick ∧ ((s.vlIdent p d).vl p).unacked = [] ∧
      (s.vlIdent p d).blob (K.driverIdent p) = d := by
  have hblob : (s.vlIdent p d).blob (K.driverIdent p) = d := by
    rw [State.vlIdent_accepts hst hok]
    simp only [State.blob, State.vlEcho_same, State.setVl_same]
    exact State.setBlob_get ..
  refine ⟨?_, ?_, ?_, ?_, hblob⟩ <;>
    simp [State.vlIdent_accepts hst hok, State.vlEcho_vl, State.noteIdent_ident]

theorem State.vlEchoBack_out {t0 : Nat} (hsent : (s.vl p).echoSent = some t0) :
    s.vlEchoBack p = s.setVl p { s.vl p with echoSent := none, rtt := some (4 * (s.tick - t0)) } := by
  simp only [State.vlEchoBack, hsent]

theorem ackFrames_nil (ack : Nat) : ackFrames ack [] = [] := rfl

/-- A STATUS while no round trip waits for its EchoTurnaround ends no exchange. -/
theorem State.vlTurnaround_none (hrtt : (s.vl p).rtt = none) (turn : Nat) : s.vlTurnaround p turn = s := by
  simp only [State.vlTurnaround, hrtt]

/-- A STATUS acknowledges frames, and counts a report of an unknown tag. -/
def State.noteStatus (s : State) (p : Nat) (d : List Byte) : State :=
  let s := s.setVl p { s.vl p with
    lastStatus := s.tick, ackSeq := some (leAt d 1 1), unacked := ackFrames (leAt d 1 1) (s.vl p).unacked }
  if bitOf (leAt d 2 1) 2 then s.bump (K.unknownTagReports p) else s

theorem State.noteStatus_vl (d : List Byte) : (s.noteStatus p d).vl p = { s.vl p with
    lastStatus := s.tick, ackSeq := some (leAt d 1 1), unacked := ackFrames (leAt d 1 1) (s.vl p).unacked } := by
  unfold State.noteStatus
  simp only []
  split <;> simp

theorem State.noteStatus_tick (d : List Byte) : (s.noteStatus p d).tick = s.tick := by
  unfold State.noteStatus
  simp only []
  split <;> simp

/-- With nothing left to acknowledge, a STATUS makes an ARMING port ACTIVE (R296). -/
theorem State.vlStatus_activates (hst : (s.vl p).st = .arming) (hacked : (s.vl p).unacked = [])
    (hrtt : (s.vl p).rtt = none) (d : List Byte) :
    s.vlStatus p d = (s.noteStatus p d).setVl p { (s.noteStatus p d).vl p with
      st := .active, since := s.tick, lastMeasure := s.tick } := by
  have hvl := State.noteStatus_vl (s := s) (p := p) d
  have hturn : (s.noteStatus p d).vlTurnaround p (leAt d 6 2) = s.noteStatus p d :=
    State.vlTurnaround_none (by rw [hvl]; exact hrtt) _
  have harms : ((s.noteStatus p d).vl p).st = .arming ∧ ((s.noteStatus p d).vl p).unacked = [] := by
    rw [hvl]
    exact ⟨hst, by rw [hacked, ackFrames_nil]⟩
  unfold State.vlStatus
  simp only []
  rw [← State.noteStatus, hturn, if_pos harms, State.noteStatus_tick]

theorem State.vlIdentTimeout_due (hst : (s.vl p).st = .ident) (hdue : (s.vl p).since + 2500000 ≤ s.tick) :
    s.vlIdentTimeout p = s.vlFail p 6 := if_pos ⟨hst, hdue⟩

theorem State.vlRetry_locked (hst : (s.vl p).st = .failed) (hlock : (s.vl p).lock = true)
    (hdue : (s.vl p).since + 250000000 ≤ s.tick) :
    s.vlRetry p = s.setVl p { s.vl p with st := .ident, since := s.tick } := by
  simp [State.vlRetry, hst, hlock, hdue]

/-! ### A port in service (R290, R291, R294, R296, R297) -/

theorem State.vlLockLost_live (hlive : (s.vl p).st.live = true) :
    s.vlLockLost p = (s.setVl p { s.vl p with lock := false }).vlLose p := if_pos hlive

theorem State.vlStatusTimeout_active (hst : (s.vl p).st = .active) (hdue : (s.vl p).lastStatus + 250000 ≤ s.tick) :
    s.vlStatusTimeout p = s.vlLose p := by
  have hdue' : (s.vl p).st.live = true ∧ (s.vl p).st ≠ .ident ∧ (s.vl p).lastStatus + 250000 ≤ s.tick := by
    rw [hst]
    exact ⟨rfl, by decide, hdue⟩
  exact if_pos hdue'

/-- A KEEPALIVE takes the next sequence number and leaves the state of its port. -/
theorem State.vlKeepalive_sends (hdue : (s.vl p).kaSent + s.reg K.keepAlivePeriod * 250 ≤ s.tick)
    (hruns : s.timeRuns = true) :
    ((s.vlKeepalive p).vl p).kaSeq = ((s.vl p).kaSeq + 1) % 256 ∧ ((s.vlKeepalive p).vl p).kaSent = s.tick ∧
      ((s.vlKeepalive p).vl p).st = (s.vl p).st := by
  unfold State.vlKeepalive
  simp only []
  rw [if_pos ⟨hdue, hruns⟩, State.vlFrame_vl, State.setVl_vl_same]
  exact ⟨rfl, rfl, rfl⟩

theorem State.vlResend_late {f : CtlFrame} (hwaits : (s.vl p).unacked = [f]) (hdue : f.sent + 50000 ≤ s.tick) :
    s.vlResend p = ((s.setVl p { s.vl p with unacked := [{ f with sent := s.tick }] }).bump
      (K.armRetransmissions p)).vlFrame p f.typ f.seq f.payload := by
  simp [State.vlResend, hwaits, Nat.not_lt.2 hdue]

theorem State.vlResend_count {f : CtlFrame} (hp : p < 4) (hwaits : (s.vl p).unacked = [f])
    (hdue : f.sent + 50000 ≤ s.tick) :
    (s.vlResend p).reg (K.armRetransmissions p) = (s.reg (K.armRetransmissions p) + 1) % 2 ^ 32 := by
  rw [State.vlResend_late hwaits hdue, State.vlFrame_reg, State.bump_reg, if_pos rfl,
    State.setVl_reg _ _ _ _ (Entries.has_index_false (K.armRetransmissions_index p) (by decide)),
    K.armRetransmissions_width p hp]

theorem State.vlRemeasure_due (hst : (s.vl p).st = .active) (hdue : (s.vl p).lastMeasure + 25000000 ≤ s.tick)
    (hsent : (s.vl p).echoSent = none) (hrtt : (s.vl p).rtt = none) :
    s.vlRemeasure p = (s.setVl p { s.vl p with echoes := [], lastMeasure := s.tick }).vlEcho p := by
  simp [State.vlRemeasure, hst, hdue, hsent, hrtt]

/-! ### Strobes, stamps and tests (R289, R292, R299, R300) -/

/-- A port whose only strobe has left: the tags that it stands for and that were not strobed are. -/
def VLink.strobeLeft (x : VLink) (q : StrobeReq) (ts : Nat) : VLink :=
  { x with
    strobes := []
    tags := x.tags.map fun u => if u.tag = q.tag ∧ u.strobed = none then { u with strobed := some ts } else u }

theorem State.vlStrobeOut_only {q : StrobeReq} (hq : (s.vl p).strobes = [q]) (hsends : s.vlSends p = true) :
    ∃ delay, s.vlStrobeOut p =
      ((s.setVl p ((s.vl p).strobeLeft q s.localTime)).bump (K.strobesSent p)).send (.strobe p q.tag delay) := by
  refine ⟨if q.tag = 0x3FFF then 0 else
    (s.setVl p ((s.vl p).strobeLeft q s.localTime)).strobeDelay p s.localTime (4 * q.tc), ?_⟩
  simp only [State.vlStrobeOut, hq, nextStrobe, List.erase_cons_head, Option.isNone_iff_eq_none, State.setVl_vlSends, hsends,
    ↓reduceIte]
  rfl

/-- A tag that was never armed, or is forgotten, has no stamp. -/
theorem State.vlStamps_noTag {d : List Byte} (hlen : d.length = 6) (htags : (s.vl p).tags = []) : s.vlStamps p d = s := by
  simp [State.vlStamps, hlen, List.range_succ, htags]

/-- The one entry of a frame is stamped by the strobe of its tag (R299). -/
theorem State.vlStamps_strobed {d : List Byte} {g : Tag} {t0 : Nat} (hlen : d.length = 6) (htags : (s.vl p).tags = [g])
    (htag : g.tag = leAt d 0 2) (hstrobed : g.strobed = some t0) :
    s.vlStamps p d = s.stampEdge (128 + 256 * p + leAt d 2 1) (leAt d 3 1 == 1)
      (t0 + (s.vl p).cableDelay + leAt d 4 2) := by
  have hfind : [g].find? (fun t => t.tag == leAt d 0 2 && t.strobed.isSome) = some g := by
    simp [htag, hstrobed]
  simp [State.vlStamps, hlen, List.range_succ, htags, hfind, hstrobed]

theorem State.vlFaultFrame_names {d : List Byte} {v : Nat} {rest : List Nat}
    (h : maskValves d (leAt d 1 1) 4 = v :: rest) :
    s.vlFaultFrame p d = s.report FCode.driverFault Unit.valveLinks (p + 256 * leAt d 0 1 + 65536 * v) := by
  simp only [State.vlFaultFrame, h]

theorem State.vlTestSend_sends (htest : s.reg (K.valveLinkTest p) = 2) (hst : (s.vl p).st = .test) :
    s.vlTestSend p = (s.setVl p { s.vl p with
      testOut := (prbsBytes 32 (s.vl p).prbs).1, prbs := (prbsBytes 32 (s.vl p).prbs).2
      testSeq := ((s.vl p).testSeq + 1) % 256 }).vlFrame p 0x05 (s.vl p).testSeq (prbsBytes 32 (s.vl p).prbs).1 :=
  if_pos ⟨htest, hst⟩

theorem State.vlTestEcho_counts (htest : s.reg (K.valveLinkTest p) = 2) (d : List Byte) :
    s.vlTestEcho p d = s.bump (K.valveLinkTestErrors p) (bitDiff d (s.vl p).testOut) := if_pos htest

end

/-! ### The rows of a port -/

section
variable {p : Nat} (hp : p < 4) (s : State)
include hp

theorem exec_valveLinkLockGained : exec (.valveLinkLockGained p) s = .next (s.vlGained p) :=
  guardUnit_carried (decide_eq_true hp) _ _

theorem exec_valveLinkLockLost : exec (.valveLinkLockLost p) s = .next (s.vlLockLost p) :=
  guardUnit_carried (decide_eq_true hp) _ _

theorem exec_valveLinkEcho : exec (.valveLinkEcho p) s = .next (s.vlEchoBack p) :=
  guardUnit_carried (decide_eq_true hp) _ _

theorem exec_identTimeout : exec (.identTimeout p) s = .next (s.vlIdentTimeout p) :=
  guardUnit_carried (decide_eq_true hp) _ _

theorem exec_valveLinkBringupRetry : exec (.valveLinkBringupRetry p) s = .next (s.vlRetry p) :=
  guardUnit_carried (decide_eq_true hp) _ _

theorem exec_statusTimeout : exec (.statusTimeout p) s = .next (s.vlStatusTimeout p) :=
  guardUnit_carried (decide_eq_true hp) _ _

theorem exec_valveLinkKeepalive : exec (.valveLinkKeepalive p) s = .next (s.vlKeepalive p) :=
  guardUnit_carried (decide_eq_true hp) _ _

theorem exec_controlFrameRetransmit : exec (.controlFrameRetransmit p) s = .next (s.vlResend p) :=
  guardUnit_carried (decide_eq_true hp) _ _

theorem exec_cableDelayRemeasure : exec (.cableDelayRemeasure p) s = .next (s.vlRemeasure p) :=
  guardUnit_carried (decide_eq_true hp) _ _

theorem exec_strobe : exec (.strobe p) s = .next (s.vlStrobeOut p) := guardUnit_carried (decide_eq_true hp) _ _

theorem exec_testFrameSend : exec (.testFrameSend p) s = .next (s.vlTestSend p) :=
  guardUnit_carried (decide_eq_true hp) _ _

variable {s} (hreset : s.supplies.inReset = false)
include hreset

theorem exec_valveLinkFrameDiscarded (f : VlFrame) :
    exec (.valveLinkFrameDiscarded p f) s = .next (s.vlDiscard p f) := by
  refine (guardUnit_carried (decide_eq_true hp) _ _).trans ?_
  rw [hreset]
  rfl

variable {f : VlFrame} (hcode : f.codeErrors = 0) (hcrc : f.crcOk = true) (hlength : f.badLength = false)
include hcode hcrc hlength

theorem exec_valveLinkIdent (htyp : f.typ = 0x81) (hlen : f.payload.length = 16) :
    exec (.valveLinkIdent p f) s = .next (s.vlIdent p f.payload) :=
  (guardUnit_carried (decide_eq_true hp) _ _).trans
    (congrArg _ (State.vlTake_takes hreset hcode hcrc hlength htyp (by rw [hlen]; rfl) _ _))

theorem exec_valveLinkStatus (htyp : f.typ = 0x82) (hlen : f.payload.length = 8) :
    exec (.valveLinkStatus p f) s = .next (s.vlStatus p f.payload) :=
  (guardUnit_carried (decide_eq_true hp) _ _).trans
    (congrArg _ (State.vlTake_takes hreset hcode hcrc hlength htyp (by rw [hlen]; rfl) _ _))

theorem exec_edgeStamp (htyp : f.typ = 0x83) (hlen : f.payload.length = 6) :
    exec (.edgeStamp p f) s = .next (s.vlStamps p f.payload) :=
  (guardUnit_carried (decide_eq_true hp) _ _).trans
    (congrArg _ (State.vlTake_takes hreset hcode hcrc hlength htyp (by rw [hlen]; rfl) _ _))

theorem exec_driverFault (htyp : f.typ = 0x84)
    (hlen : f.payload.length = 4 + 4 * ((List.range 8).filter fun g => bitOf (leAt f.payload 1 1) g).length) :
    exec (.driverFault p f) s = .next (s.vlFaultFrame p f.payload) :=
  (guardUnit_carried (decide_eq_true hp) _ _).trans
    (congrArg _ (State.vlTake_takes hreset hcode hcrc hlength htyp (by rw [hlen]; exact beq_self_eq_true _) _ _))

theorem exec_testEcho (htyp : f.typ = 0x85) (hlen : f.payload.length = 32) :
    exec (.testEcho p f) s = .next (s.vlTestEcho p f.payload) :=
  (guardUnit_carried (decide_eq_true hp) _ _).trans
    (congrArg _ (State.vlTake_takes hreset hcode hcrc hlength htyp (by rw [hlen]; rfl) _ _))

end
end Sys2Proof.Machine

open Sys2Proof Sys2Proof.Machine

/-- Settles O30: each step of the bring-up writes its own port, and an IDENT frame is judged by what noting it leaves. -/
theorem valveLinkComesUp : Obligations.ValveLinkComesUp := by
  refine ⟨fun s p hp hruns hst => ?lock,
    fun s p f hp hreset hcode hcrc hlength htyp hlen hst hok => ?ident,
    fun s p t0 hp hsent => ?echo,
    fun s p f hp hreset hcode hcrc hlength htyp hlen hst hacked hrtt => ?status,
    fun s p hp hst hdue => ?timeout, fun s p hp hst hlock hdue => ?retry⟩
  case lock =>
    have hexec := exec_valveLinkLockGained hp s
    rw [State.vlGained_down hruns hst] at hexec
    exact ⟨_, hexec, State.setVl_vl_same .., fun q hq => State.setVl_vl_ne _ _ _ hq,
      execValveLinkLockGained_changes p s hexec⟩
  case ident =>
    have hexec := exec_valveLinkIdent hp hreset hcode hcrc hlength htyp hlen
    obtain ⟨hmeasures, hident, hsent, hunacked, hblob⟩ := State.vlIdent_measures hst hok
    exact ⟨_, hexec, hmeasures, hident, hsent, hunacked, hblob, execValveLinkIdent_changes p f s hexec⟩
  case echo =>
    have hexec := exec_valveLinkEcho hp s
    rw [State.vlEchoBack_out hsent] at hexec
    exact ⟨_, hexec, State.setVl_vl_same .., execValveLinkEcho_changes p s hexec⟩
  case status =>
    have hexec := exec_valveLinkStatus hp hreset hcode hcrc hlength htyp hlen
    rw [State.vlStatus_activates hst hacked hrtt] at hexec
    refine ⟨_, hexec, ?_, ?_, ?_, execValveLinkStatus_changes p f s hexec⟩ <;>
      rw [State.setVl_vl_same, State.noteStatus_vl]
  case timeout =>
    have hexec := exec_identTimeout hp s
    rw [State.vlIdentTimeout_due hst hdue] at hexec
    exact ⟨_, hexec, State.vlFail_st .., State.vlFail_cause .., fun q hq => State.vlFail_vl_ne _ _ _ hq,
      execIdentTimeout_changes p s hexec⟩
  case retry =>
    have hexec := exec_valveLinkBringupRetry hp s
    rw [State.vlRetry_locked hst hlock hdue] at hexec
    exact ⟨_, hexec, State.setVl_vl_same .., fun q hq => State.setVl_vl_ne _ _ _ hq,
      execValveLinkBringupRetry_changes p s hexec⟩

/-- Settles O31: both losses are the one loss of R297, and the timed rows each write their own port. -/
theorem valveLinkIsKept : Obligations.ValveLinkIsKept := by
  refine ⟨fun s p hp hlive => ?lock, fun s p hp hst hdue => ?status, fun s p hp hdue hruns => ?keepalive,
    fun s p f hp hwaits hdue => ?resend, fun s p hp hst hdue hsent hrtt => ?remeasure⟩
  case lock =>
    have hexec := exec_valveLinkLockLost hp s
    rw [State.vlLockLost_live hlive] at hexec
    refine ⟨_, hexec, ?_, ?_, ?_, ?_, execValveLinkLockLost_changes p s hexec⟩
    · rw [State.vlLose_vl]
    · rw [State.vlLose_vl, State.setVl_vl_same]
    · rw [State.vlLose_vl]
    · rw [State.vlLose_losses _ hp,
        State.setVl_reg _ _ _ _ (Entries.has_index_false (K.driverLosses_index p) (by decide))]
  case status =>
    have hexec := exec_statusTimeout hp s
    rw [State.vlStatusTimeout_active hst hdue] at hexec
    have hvl := State.vlLose_vl s p
    exact ⟨_, hexec, congrArg VLink.st hvl, congrArg VLink.tags hvl, State.vlLose_losses s hp,
      execStatusTimeout_changes p s hexec⟩
  case keepalive =>
    have hexec := exec_valveLinkKeepalive hp s
    obtain ⟨hseq, hsent, hst⟩ := State.vlKeepalive_sends hdue hruns
    exact ⟨_, hexec, hseq, hsent, hst, execValveLinkKeepalive_changes p s hexec⟩
  case resend =>
    have hexec := exec_controlFrameRetransmit hp s
    refine ⟨_, hexec, ?_, State.vlResend_count hp hwaits hdue, execControlFrameRetransmit_changes p s hexec⟩
    rw [State.vlResend_late hwaits hdue, State.vlFrame_vl, State.bump_vl, State.setVl_vl_same]
  case remeasure =>
    have hexec := exec_cableDelayRemeasure hp s
    rw [State.vlRemeasure_due hst hdue hsent hrtt] at hexec
    refine ⟨_, hexec, ?_, execCableDelayRemeasure_changes p s hexec⟩
    rw [State.vlEcho_vl, State.setVl_vl_same, ← hrtt]
    simp only [State.setVl_same]

/-- Settles O32: a frame free of errors reaches its row's body; a strobe alone in its queue leaves, and a frame in error
changes two counters. -/
theorem valveFramesAreHandled : Obligations.ValveFramesAreHandled := by
  refine ⟨fun s p q hp hq hsends => ?strobe,
    fun s p f hp hreset hcode hcrc hlength htyp hlen htags => ?noTag,
    fun s p t0 f g hp hreset hcode hcrc hlength htyp hlen htags htag hstrobed => ?stamp,
    fun s p v f rest hp hreset hcode hcrc hlength htyp hlen hvalves => ?fault,
    fun s p hp htest hst => ?send,
    fun s p f hp hreset hcode hcrc hlength htyp hlen htest => ?returned,
    fun s p f hp hreset => ?discard⟩
  case strobe =>
    have hexec := exec_strobe hp s
    obtain ⟨delay, hout⟩ := State.vlStrobeOut_only hq hsends
    rw [hout] at hexec
    refine ⟨_, hexec, ?_, ?_, ?_, execStrobe_changes p s hexec⟩
    · rw [State.send_vl, State.bump_vl, State.setVl_vl_same, VLink.strobeLeft]
    · rw [State.send_vl, State.bump_vl, State.setVl_vl_same, VLink.strobeLeft]
    · rw [State.send_reg, State.bump_reg, if_pos rfl,
        State.setVl_reg _ _ _ _ (Entries.has_index_false (K.strobesSent_index p) (by decide)), K.strobesSent_width p hp]
  case noTag => rw [exec_edgeStamp hp hreset hcode hcrc hlength htyp hlen, State.vlStamps_noTag hlen htags]
  case stamp =>
    rw [exec_edgeStamp hp hreset hcode hcrc hlength htyp hlen, State.vlStamps_strobed hlen htags htag hstrobed]
  case fault => rw [exec_driverFault hp hreset hcode hcrc hlength htyp hlen, State.vlFaultFrame_names hvalves]
  case send =>
    have hexec := exec_testFrameSend hp s
    rw [State.vlTestSend_sends htest hst] at hexec
    refine ⟨_, hexec, ?_, ?_, ?_, execTestFrameSend_changes p s hexec⟩ <;>
      rw [State.vlFrame_vl, State.setVl_vl_same]
  case returned => rw [exec_testEcho hp hreset hcode hcrc hlength htyp hlen, State.vlTestEcho_counts htest]
  case discard =>
    have hexec := exec_valveLinkFrameDiscarded hp hreset f
    refine ⟨_, hexec, ?_, State.vlDiscard_crcErrors hp s f, State.vlDiscard_codeErrors hp s f,
      execValveLinkFrameDiscarded_changes p f s hexec⟩
    rw [State.vlDiscard, State.bump_vl, State.bump_vl]
end

section
/-! PROOFS. The statements on the memory system (MemoryDieServesFrames and MemoryLinksRun fail). Each fails in one clause:
what the row of that clause leaves in its link is said for every state first, and one state then refutes it. -/

namespace Sys2Proof.Machine

theorem State.mlink_congr {s t : State} (h : t.memory = s.memory) (l : Nat) : t.mlink l = s.mlink l := by
  rw [State.mlink, h, State.mlink]

@[simp] theorem State.setMlink_mlink_same (s : State) (l : Nat) (x : MLink) : (s.setMlink l x).mlink l = x :=
  (State.setMlink_mlink ..).trans (if_pos rfl)

@[simp] theorem State.emitUp_mlink (s : State) (l seq : Nat) (nak : Option Nat) (data : List Byte) (resent : Bool) (m : Nat) :
    (s.emitUp l seq nak data resent).mlink m = s.mlink m := State.mlink_congr (by simp) m

@[simp] theorem State.send_mlink (s : State) (o : Output) (l : Nat) : (s.send o).mlink l = s.mlink l :=
  State.mlink_congr (by simp) l

@[simp] theorem State.bump_mlink (s : State) (k n l : Nat) : (s.bump k n).mlink l = s.mlink l :=
  State.mlink_congr (by simp) l

@[simp] theorem State.report_mlink (s : State) (code src detail l : Nat) : (s.report code src detail).mlink l = s.mlink l :=
  State.mlink_congr (by simp) l

/-! ### A request that asks for a resend (R315, R321) -/

theorem State.sendUp_writes (s : State) (l : Nat) (reserved : Bool) :
    ((s.sendUp l reserved).mlink l).writes = (s.mlink l).writes := by
  simp only [State.sendUp, State.emitUp_mlink, State.setMlink_mlink_same]

/-- A link that fails forgets the writes whose data are due (R321, R330); here no plan names it. -/
theorem State.failMlink_writes {s : State} {l : Nat} (hst : (s.mlink l).st ≠ .failed)
    (hplans : ∀ c < 16, (s.ctx c).plan = none) (cause : Nat) : ((s.failMlink l cause).mlink l).writes = [] := by
  unfold State.failMlink
  simp only []
  rw [if_neg hst, if_pos ?noneNamed]
  case noneNamed =>
    refine List.filter_eq_nil_iff.2 fun c hc => ?_
    rw [State.ctx_congr (by simp : _ = s.engine), hplans c (List.mem_range.1 hc)]
    exact Bool.false_ne_true
  rw [State.report_mlink, State.bump_mlink, State.setMlink_mlink_same]

theorem State.takeReplay_notKept {s : State} {l q : Nat} (h : ∀ k ∈ (s.mlink l).upKept, k.1 % 128 ≠ q % 128) :
    s.takeReplay l q = s.failMlink l 2 := by
  have hdrop : ((s.mlink l).upKept.dropWhile fun k => k.1 % 128 != q % 128) = [] :=
    List.dropWhile_eq_nil_iff.2 fun k hk => bne_iff_ne.2 (h k hk)
  simp only [State.takeReplay, hdrop]

section
variable {s : State} {l q : Nat} {f : DownFrame} (hst : (s.mlink l).st = .up) (hop : f.opOk = true)
  (hseq : f.seq % 256 = (s.mlink l).dieDown) (hwrites : (s.mlink l).writes = []) (hreplay : f.replay = some q)
include hst hop hseq hwrites hreplay

/-- A good frame that asks for a resend: its own request comes first, and the resend after it. No write waits for data. -/
theorem State.takeDown_replay {op : Nat} (hcrc : f.crcOk op = true) (body : State → State) :
    s.takeDown l op f body = ((body (s.setMlink l { s.mlink l with
      dieDown := ((s.mlink l).dieDown + 1) % 256 })).takeReplay l q).sendUp l (f.reserved || op == 3 || op == 4) := by
  have hland : ∀ x d, x.writes = [] → (s.setMlink l x).landWrite l d = s.setMlink l x := fun x d hx => by
    simp only [State.landWrite, State.setMlink_mlink_same, hx]
  simp [State.takeDown, hst, hcrc, hop, hseq, hreplay, hland, hwrites]

/-- A WRITE whose trailer also asks for a frame that the memory die no longer keeps: its link fails, and what it asked is
forgotten with the link. -/
theorem exec_memoryWrite_lostResend (hlink : s.hasMlink l = true) (hcrc : f.crcOk 2 = true)
    (hlost : ∀ k ∈ (s.mlink l).upKept, k.1 % 128 ≠ q % 128) (hplans : ∀ c < 16, (s.ctx c).plan = none) :
    ∃ t, exec (.memoryWrite l f) s = .next t ∧ (t.mlink l).writes = [] := by
  refine ⟨_, guardUnit_carried hlink _ _, ?_⟩
  rw [State.takeDown_replay hst hop hseq hwrites hreplay hcrc, State.sendUp_writes]
  rw [State.takeReplay_notKept (by simpa [State.dieWrite] using hlost)]
  refine State.failMlink_writes ?_ (fun c hc => ?_) 2
  · simp [State.dieWrite, hst]
  · rw [State.ctx_congr (by simp [State.dieWrite] : _ = s.engine), hplans c hc]

end

/-! ### A slot on a link (R318, R319, R329) -/

/-- The slot 0 that follows a training begins the grid, whatever cycle the grid of before counted from (R318, R329). -/
theorem State.startGrid_gridBase {s : State} (hnew : s.memory.newGrid = true) (hperiod : s.engine.period = none)
    (cyc d : Nat) : (s.startGrid 0 cyc).gridBase d = cyc := by
  simp [State.startGrid, State.gridBase, hnew, hperiod]

theorem State.sendDown_lastSlot (s : State) (l op addr count : Nat) (data : List (List Byte)) (replay : Option Nat)
    (reserved : Bool) :
    ((s.sendDown l op addr count data replay reserved).mlink l).lastSlot = (s.mlink l).lastSlot := by
  simp only [State.sendDown, State.send_mlink, State.setMlink_mlink_same]

/-- While no schedule runs, slot k of a link starts at its cycle of the grid, which may have begun with this very slot. -/
theorem State.linkSlot_unplaced {s t : State} {l k cyc : Nat} (hstart : s.startGrid k cyc = t) (hfeed : t.feed cyc = t)
    (hheld : t.knots.held = []) (hst : (t.mlink l).st = .up) (hthaw : t.isFrozen (linkCompute l) = false)
    (hclock : t.power.clock = none) (hidle : t.schedules (linkCompute l) = [])
    (hdue : t.gridBase (linkCompute l) + 16 * k ≤ cyc)
    (hlast : (t.mlink l).lastSlot ≤ t.gridBase (linkCompute l) + 16 * k) :
    ((s.linkSlot l k cyc).mlink l).lastSlot = t.gridBase (linkCompute l) + 16 * k + 1 := by
  unfold State.linkSlot
  simp only [hstart, hfeed, State.releaseHeld_nothingHeld hheld, hst, hthaw, hclock, hidle, hdue, hlast, ne_eq,
    not_true_eq_false, Bool.false_eq_true, Option.isSome_none, or_self, ↓reduceIte, List.filterMap_nil, List.find?_nil,
    decide_true, Bool.and_self, Bool.true_eq_false]
  split
  · rw [State.sendDown_lastSlot, State.setMlink_mlink_same]
  · split
    · rw [State.sendDown_lastSlot, State.setMlink_mlink_same]
    · rw [State.setMlink_mlink_same, State.sendDown_lastSlot, State.setMlink_mlink_same]

theorem exec_linkSlotStart {s : State} {l : Nat} (hlink : s.hasMlink l = true) (k cyc : Nat) :
    exec (.linkSlotStart l k cyc) s = .next (s.linkSlot l k cyc) := guardUnit_carried hlink _ _

/-! ### Refuting states -/

/-- A device on whose link 3 no frame has gone up yet. -/
def nothingSent : State := { mfg := { part := .brl7162 } }

/-- A WRITE that asks link 3 for a resend from the upstream frame 5. -/
def writeAndReplay : DownFrame :=
  { seq := 0, addr := 64, count := 1, replay := some 5, crc := frameCrc [] (downTrailer 2 0 1 64 (some 5)) }

/-- The links are trained, and the slot grid starts with the next slot 0 (R329). -/
def newlyTrained : State := { mfg := { part := .brl7162 }, memory := { newGrid := true } }

end Sys2Proof.Machine

open Sys2Proof Sys2Proof.Machine

/-- Refutes O33: a WRITE may carry ReplayValid (R315), and when the frame that it asks for is no longer kept its link fails
(R321, R330); the write is then forgotten and waits for no data. -/
theorem not_memoryDieServesFrames : ¬ Obligations.MemoryDieServesFrames := by
  rintro ⟨hwrite, -⟩
  have hcrc : writeAndReplay.crcOk 2 = true := by simp [writeAndReplay, DownFrame.crcOk]
  obtain ⟨t, hexec, -, -, hwrites, -⟩ := hwrite nothingSent 3 writeAndReplay (by decide) (by decide) hcrc rfl (by decide)
    (.inr (by decide))
  obtain ⟨u, hexecs, hforgotten⟩ := exec_memoryWrite_lostResend (s := nothingSent) (l := 3) (q := 5) (f := writeAndReplay)
    (by decide) rfl (by decide) (by decide) rfl (by decide) hcrc (by decide) (by decide)
  rw [hexecs] at hexec
  injection hexec with hsame
  rw [← hsame, hforgotten] at hwrites
  exact absurd hwrites (by decide)

/-- Refutes O34: after a training the slot grid begins with the next slot 0 (R329), and k counts from the cycle at which that
slot starts (R318); the statement counts it from where the grid of before began. -/
theorem not_memoryLinksRun : ¬ Obligations.MemoryLinksRun := by
  rintro ⟨-, -, -, hslot, -⟩
  obtain ⟨t, hexec, hlast, -⟩ := hslot newlyTrained 3 0 100 (by decide) rfl (by decide) (by decide) rfl (by decide) (by decide)
    (by decide) (by decide)
  rw [exec_linkSlotStart (by decide)] at hexec
  injection hexec with hsame
  have hgrid := State.startGrid_gridBase (s := newlyTrained) rfl rfl 100 (linkCompute 3)
  have hbegun := State.linkSlot_unplaced (s := newlyTrained) (l := 3) (k := 0) (cyc := 100) rfl (by decide) rfl (by decide)
    (by decide) rfl (by decide) (by decide) (by decide)
  rw [hgrid, hsame, hlast] at hbegun
  exact absurd hbegun (by decide)
end

section
/-! PROOFS. The statements on the host's windows and ports (QueueHeadsMove and RingsAndQueuesAreServed hold,
HostPortsFollowTheirTunnel fails). A write of a window that is UP is its operation alone; each operation of a window is said
once, as the branch that its statement names. -/

namespace Sys2Proof.Machine

/-! ### What reads back of ports, rings and queues -/

section
variable (s : State)

@[simp] theorem State.setPort_port_same (p : Nat) (x : HostPort) : (s.setPort p x).port p = x :=
  (State.setPort_port ..).trans (if_pos rfl)

@[simp] theorem State.setRing_ring_same (r : Nat) (x : Ring) : (s.setRing r x).ring r = x :=
  (State.setRing_ring ..).trans (if_pos rfl)

@[simp] theorem State.setQueue_queue_same (q : Nat) (x : EvQueue) : (s.setQueue q x).queue q = x :=
  (State.setQueue_queue ..).trans (if_pos rfl)

end

theorem State.port_congr {s t : State} (h : t.host.ports = s.host.ports) (p : Nat) : t.port p = s.port p := by
  unfold State.port; rw [h]

theorem State.queue_congr {s t : State} (h : t.host.queues = s.host.queues) (q : Nat) : t.queue q = s.queue q := by
  unfold State.queue; rw [h]

section
variable (s : State) (k n : Nat)

theorem State.bump_port (p : Nat) : (s.bump k n).port p = s.port p := State.port_congr (by simp only [State.bump_same]) p

theorem State.bump_ring (r : Nat) : (s.bump k n).ring r = s.ring r := State.ring_congr (by simp only [State.bump_same]) r

theorem State.bump_queue (q : Nat) : (s.bump k n).queue q = s.queue q :=
  State.queue_congr (by simp only [State.bump_same]) q

end

/-! ### What emission leaves in the host link (R378 to R381) -/

/-- What the emission of records leaves in the host link: the registers of the ports and the head of every queue. -/
structure State.KeepsHeads (s t : State) : Prop where
  ports : t.host.ports = s.host.ports
  head (q : Nat) : (t.queue q).head = (s.queue q).head

namespace State.KeepsHeads

variable {s t u : State}

theorem of_host (h : t.host = s.host) : s.KeepsHeads t :=
  ⟨congrArg _ h, fun q => congrArg _ (State.queue_congr (congrArg _ h) q)⟩

theorem refl (s : State) : s.KeepsHeads s := of_host rfl

theorem trans (h : s.KeepsHeads t) (h' : t.KeepsHeads u) : s.KeepsHeads u :=
  ⟨h'.ports.trans h.ports, fun q => (h'.head q).trans (h.head q)⟩

/-- A queue that is set keeps the heads where its own head stays. -/
theorem setQueue {q : Nat} {e : EvQueue} (h : e.head = (s.queue q).head) : s.KeepsHeads (s.setQueue q e) := by
  refine ⟨rfl, fun p => ?_⟩
  rw [State.setQueue_queue]
  split
  case isTrue hp => rw [h, hp]
  case isFalse => rfl

theorem countEv (h : s.KeepsHeads t) (b ev n f ctx master addr : Nat) :
    s.KeepsHeads (t.countEv b ev n f ctx master addr).1 := h.trans (.of_host (by simp only [State.countEv_same]))

theorem bump (h : s.KeepsHeads t) (k n : Nat) : s.KeepsHeads (t.bump k n) :=
  h.trans (.of_host (by simp only [State.bump_same]))

theorem send (h : s.KeepsHeads t) (o : Output) : s.KeepsHeads (t.send o) := h.trans (.of_host rfl)

theorem hostWrite (h : s.KeepsHeads t) (p a : Nat) (d : List Byte) : s.KeepsHeads (t.hostWrite p a d) :=
  h.trans (.of_host (by simp only [State.hostWrite_same]))

theorem signal (h : s.KeepsHeads t) (q : Nat) : s.KeepsHeads (t.signal q) := by
  refine h.trans ?_
  unfold State.signal
  simp only []
  split
  · split
    · refine .send ?_ _
      exact .setQueue rfl
    · exact .refl t
  · exact .refl t

theorem writeRec (h : s.KeepsHeads t) (q : Nat) (r : Rec) : s.KeepsHeads (t.writeRec q r) := by
  refine h.trans ?_
  unfold State.writeRec
  refine .signal (.hostWrite ?_ _ _ _) q
  exact .setQueue rfl

theorem routeRec (h : s.KeepsHeads t) (q : Nat) (r : Rec) : s.KeepsHeads (t.routeRec q r).1 := by
  refine h.trans ?_
  unfold State.routeRec
  simp only []
  split
  · exact (KeepsHeads.refl t).bump ..
  · split
    · exact ((KeepsHeads.refl t).writeRec q r).countEv ..
    · split
      · exact .setQueue rfl
      · refine .bump ?_ _ _
        exact .setQueue rfl
  · split
    · exact .setQueue rfl
    · refine .bump ?_ _ _
      exact .setQueue rfl

theorem emitLoop (n : Nat) (rs : List Rec) (h : s.KeepsHeads t) : s.KeepsHeads (State.emitLoop n rs t) := by
  induction n generalizing rs t with
  | zero => exact h
  | succ n ih =>
    cases rs with
    | nil => exact h
    | cons r rest =>
      simp only [State.emitLoop]
      split
      · exact ih _ h
      · exact ih _ (h.routeRec ..)

theorem emitAll (h : s.KeepsHeads t) (rs : List Rec) : s.KeepsHeads (t.emitAll rs) := .emitLoop _ _ h

theorem drainQueue (q n : Nat) (h : s.KeepsHeads t) : s.KeepsHeads (State.drainQueue q n t) := by
  induction n generalizing t with
  | zero => exact h
  | succ n ih =>
    simp only [State.drainQueue]
    split
    · split
      · refine ih (.emitAll (.countEv (.writeRec (h.trans ?_) _ _) ..) _)
        exact .setQueue rfl
      · split
        · refine .emitAll (.countEv (.writeRec (h.trans ?_) _ _) ..) _
          exact .setQueue rfl
        · exact h
    · exact h

end State.KeepsHeads

section
variable {s : State} {q : Nat}

/-- A queue that holds and has dropped nothing writes nothing when it drains. -/
theorem State.drainQueue_empty (hheld : (s.queue q).held = []) (hdropped : (s.queue q).dropped = 0) (n : Nat) :
    State.drainQueue q n s = s := by
  cases n with
  | zero => rfl
  | succ n => simp only [State.drainQueue, hheld, hdropped, Nat.lt_irrefl, if_false, ite_self]

/-- A queue without new records signals nothing. -/
theorem State.signal_nothingNew (hunsig : (s.queue q).unsig = 0) : s.signal q = s := by
  simp only [State.signal, hunsig, Nat.lt_irrefl, false_and, and_false, if_false]

theorem State.signal_timeDue {w : Nat} (hst : (s.queue q).st = .enabled) (hport : (s.queue q).port = some w)
    (hsignals : bitOf (s.queue q).config 8 = true) (harmed : (s.queue q).armed = true) (hnew : 0 < (s.queue q).unsig)
    (hdue : bits (s.queue q).config 63 32 * 1000 ≤ (s.tick - (s.queue q).oldest) * 4) :
    s.signal q = (s.setQueue q { s.queue q with armed := false, unsig := 0 }).send (.msix w q) := by
  simp only [State.signal, hst, hsignals, harmed, hnew, hdue, or_true, and_self, if_true, hport]

end

/-! ### Writes through a window (R364, R369, R370) -/

theorem State.inWindow_up {s : State} {w : Nat} (hw : w < 2) (hup : (s.port w).st = .up) (hon : s.usbOn = true)
    (f : State → State) : s.inWindow w f = .next (f s) := by
  rw [State.inWindow, guardUnit_carried (decide_eq_true hw), if_pos ⟨hup, hon⟩]

section
variable (s : State) (w status unit off : Nat)

/-- The registers of a port once a write was refused. -/
theorem State.hwinError_port : (s.hwinError w status unit off).port w = { s.port w with
    errStatus := status, errUnit := unit, errOffset := off, errCount := min 65535 ((s.port w).errCount + 1) } := by
  unfold State.hwinError
  simp only []
  split
  · exact State.setPort_port_same ..
  · exact State.setPort_port_same ..

theorem State.hwinError_rings : (s.hwinError w status unit off).host.rings = s.host.rings := by
  unfold State.hwinError
  simp only []
  split <;> rfl

theorem State.hwinError_regs : (s.hwinError w status unit off).regs = s.regs := by
  unfold State.hwinError
  simp only []
  split <;> rfl

theorem State.hwinError_queues : (s.hwinError w status unit off).host.queues = s.host.queues := by
  unfold State.hwinError
  simp only []
  split <;> rfl

end

section
variable {s : State} {w v n : Nat}

theorem State.hwinRegister_ringBase (hst : (s.ring (s.port w).ringSel).st = .disabled)
    (hport : (s.ring (s.port w).ringSel).port = none) (haligned : bits v 5 0 = 0) :
    s.hwinRegister w 0x0108 v =
      s.setRing (s.port w).ringSel { s.ring (s.port w).ringSel with base := v % 2 ^ 64 } := by
  have hbound : boundHere (s.ring (s.port w).ringSel).port w = true := by rw [hport]; rfl
  simp [State.hwinRegister, State.hwinWrite, hbound, hst, haligned]

theorem State.hwinRegister_ringBusy (hst : (s.ring (s.port w).ringSel).st = .running) :
    s.hwinRegister w 0x0108 v = s.hwinError w Status.contextState (s.port w).ringSel 0x0108 := by
  simp [State.hwinRegister, State.hwinWrite, hst]

/-! ### Rings (R372) -/

theorem State.ringEnable_starts (hsel : (s.port w).ringSel = n) (hst : (s.ring n).st = .stopped)
    (hport : (s.ring n).port = some w) (hbase : (s.ring n).base ≠ 0) :
    s.ringEnable w = s.setRing n { s.ring n with
      st := .running, port := some w, fetched := 0, completed := 0, tail := 0, cmds := [], disabling := false } := by
  have hbound : boundHere (s.ring n).port w = true := by simp [hport, boundHere]
  simp [State.ringEnable, hsel, hbound, hst, hbase]

theorem State.ringEnable_noBase (hsel : (s.port w).ringSel = n) (hst : (s.ring n).st = .disabled)
    (hport : (s.ring n).port = none) (hbase : (s.ring n).base = 0) :
    s.ringEnable w = s.hwinError w Status.valueRange n 0x0118 := by
  have hbound : boundHere (s.ring n).port w = true := by rw [hport]; rfl
  simp [State.ringEnable, hsel, hbound, hst, hbase]

theorem State.ringDisable_idle (hsel : (s.port w).ringSel = n) (hport : (s.ring n).port = some w)
    (hcmds : (s.ring n).cmds = []) :
    s.ringDisable w = s.setRing n { s.ring n with st := .disabled, port := none, disabling := false } := by
  simp [State.ringDisable, hsel, hport, hcmds]

/-- A doorbell of a device in RUN is taken at once (R372, R428). -/
theorem State.doorbell_running (hst : s.power.st = .run) (htrans : s.power.trans = none) :
    s.doorbell w v = s.ringBell w (bits v 13 0) (bits v 63 32) := by
  simp [State.doorbell, hst, htrans]

section
variable {tail : Nat} (hst : (s.ring n).st = .running) (hport : (s.ring n).port = some w)
include hst hport

theorem State.ringBell_takes (hmoves : (tail + 2 ^ 32 - (s.ring n).tail) % 2 ^ 32 ≠ 0)
    (hfits : (tail + 2 ^ 32 - (s.ring n).tail) % 2 ^ 32 ≤ 2 ^ (s.ring n).log2)
    (hroom : (tail + 2 ^ 32 - (s.ring n).completed) % 2 ^ 32 ≤ 2 ^ (s.ring n).log2) :
    s.ringBell w n tail = s.setRing n { s.ring n with tail := tail } := by
  have htaken : ¬ ((tail + 2 ^ 32 - (s.ring n).tail) % 2 ^ 32 = 0 ∨
      (s.ring n).size < (tail + 2 ^ 32 - (s.ring n).tail) % 2 ^ 32 ∨
      (s.ring n).size < (tail + 2 ^ 32 - (s.ring n).completed) % 2 ^ 32) :=
    not_or.2 ⟨hmoves, not_or.2 ⟨Nat.not_lt.2 hfits, Nat.not_lt.2 hroom⟩⟩
  have hbound : ¬ (¬ ((s.ring n).st = .running ∨ (s.ring n).st = .held) ∨ (s.ring n).port ≠ some w) := by
    simp [hst, hport]
  simp only [State.ringBell, if_neg hbound, if_neg htaken]

theorem State.ringBell_unmoved (htail : tail = (s.ring n).tail) :
    s.ringBell w n tail = (s.hwinError w Status.ringFull n 0x0130).bump K.doorbellsRefused := by
  have hbound : ¬ (¬ ((s.ring n).st = .running ∨ (s.ring n).st = .held) ∨ (s.ring n).port ≠ some w) := by
    simp [hst, hport]
  have hstep : (tail + 2 ^ 32 - (s.ring n).tail) % 2 ^ 32 = 0 := by
    rw [htail, Nat.add_sub_cancel_left, Nat.mod_self]
  simp only [State.ringBell, if_neg hbound, if_pos (Or.inl hstep)]

end

/-! ### Queues (R378, R379) -/

theorem State.releaseBoot_none (h : s.host.bootRec = none) : s.releaseBoot = s := by
  simp only [State.releaseBoot, h]

theorem State.evqEnable_starts (hsel : (s.port w).evqSel = n) (hst : (s.queue n).st = .disabled)
    (hport : (s.queue n).port = none) (hboot : s.host.bootRec = none) :
    s.evqEnable w = s.setQueue n
      { base := (s.queue n).base, config := (s.queue n).config, st := .enabled, port := some w } := by
  have hbound : boundHere (s.queue n).port w = true := by rw [hport]; rfl
  simp only [State.evqEnable, hsel, hbound, hst, ne_eq, not_true_eq_false, or_self, Bool.true_eq_false, if_false]
  exact State.releaseBoot_none hboot

theorem State.evqDisable_bound (hsel : (s.port w).evqSel = n) (hport : (s.queue n).port = some w) :
    s.evqDisable w = s.disableQueue n true := by
  simp [State.evqDisable, hsel, hport]

theorem K.evqRecordsDropped_width : ∀ q, q < 64 → counterWidth (K.evqRecordsDropped q) = 32 := by decide

theorem State.disableQueue_queue (unbind : Bool) : (s.disableQueue n unbind).queue n =
    { s.queue n with st := .disabled, port := if unbind then none else (s.queue n).port, held := [] } := by
  rw [State.disableQueue, State.bump_queue, State.setQueue_queue_same]

/-- A queue that is disabled counts what it held as dropped, at the width of its counter. -/
theorem State.disableQueue_dropped (unbind : Bool) :
    (s.disableQueue n unbind).reg (K.evqRecordsDropped n) =
      (s.reg (K.evqRecordsDropped n) + (s.queue n).held.length) % 2 ^ counterWidth (K.evqRecordsDropped n) := by
  rw [State.disableQueue, State.bump_reg, if_pos rfl, State.setQueue_reg]

theorem State.evqHead_moves (hn : n = bits v 5 0) (hport : (s.queue n).port = some w)
    (hin : ((s.queue n).written + 2 ^ 32 - bits v 63 32) % 2 ^ 32 ≤
      ((s.queue n).written + 2 ^ 32 - (s.queue n).head) % 2 ^ 32) :
    s.evqHead w v = ((s.setQueue n { s.queue n with head := bits v 63 32, armed := true }).signal n).drainQueue n 300 := by
  subst hn
  simp only [State.evqHead, hport, ne_eq, not_true_eq_false, Nat.not_lt.2 hin, if_false]

theorem State.evqHead_refused (hn : n = bits v 5 0) (hport : (s.queue n).port = some w)
    (hout : ((s.queue n).written + 2 ^ 32 - (s.queue n).head) % 2 ^ 32 <
      ((s.queue n).written + 2 ^ 32 - bits v 63 32) % 2 ^ 32) :
    s.evqHead w v = s.hwinError w Status.valueRange n 0x0228 := by
  subst hn
  simp only [State.evqHead, hport, ne_eq, not_true_eq_false, hout, if_false, if_true]

end

/-! ### Mailboxes (R75, R385) -/

/-- A device that does not doze, nor moves between power states, is not woken (R430, R431). -/
theorem State.wake_awake {s : State} (htrans : s.power.trans = none) (hst : s.power.st ≠ .doze) (bit : Nat) :
    s.wake bit [.doze] = s := by
  have hawake : [PowerSt.doze].contains s.power.st = false := by simpa using hst
  simp only [State.wake, htrans, hawake, Bool.false_eq_true, if_false, ite_self]

theorem bdpStatus_length (d : List Byte) (status : Nat) : (bdpStatus d status).length = 16 := by
  simp [bdpStatus, bdpReply, beBytes, leBytes]

/-- An OPEN of the mailbox is answered OK without effect (R75). -/
theorem State.mbxAnswer_open {d : List Byte} (hformed : (bdpItems d 128).isSome = true) (hop : bdpOp d = 1) (s : State)
    (w : Nat) : s.mbxAnswer w d = (bdpStatus d Status.ok, s) := by
  obtain ⟨items, hitems⟩ := Option.isSome_iff_exists.1 hformed
  simp [State.mbxAnswer, hitems, hop]

theorem State.mailbox_open {d : List Byte} (hmagic : beAt d 0 2 = 0x4244) (hformed : (bdpItems d 128).isSome = true)
    (hop : bdpOp d = 1) (s : State) (w : Nat) :
    s.mailbox w d false = s.setPort w { s.port w with mbxReady := true, mbxResp := bdpStatus d Status.ok } := by
  have hwhole : (bdpStatus d Status.ok).take 4096 = bdpStatus d Status.ok :=
    List.take_of_length_le (by rw [bdpStatus_length]; decide)
  simp [State.mailbox, hmagic, State.mbxAnswer_open hformed hop, hwhole]

section
variable {s : State} {w v : Nat} (hidle : (s.port w).mbxBusy = false)
include hidle

theorem State.mbxDoorbell_short (hshort : bits v 12 0 < 16) :
    s.mbxDoorbell w v = s.hwinError w Status.lengthMismatch 0 0x0400 := by
  simp only [State.mbxDoorbell, hidle, Bool.false_eq_true, if_false, if_pos (Or.inl hshort)]

/-- A message of a length that the buffer holds is handled within its doorbell (log entry 84). -/
theorem State.mbxDoorbell_message (htrans : s.power.trans = none) (hst : s.power.st ≠ .doze) (hleast : 16 ≤ bits v 12 0)
    (hmost : bits v 12 0 ≤ 4096) :
    s.mbxDoorbell w v = s.mailbox w (SMap.getList 0 (s.port w).mbxReq 0 (bits v 12 0)) (bitOf v 16) := by
  have hlength : ¬ (bits v 12 0 < 16 ∨ 4096 < bits v 12 0) := by omega
  simp only [State.mbxDoorbell, hidle, Bool.false_eq_true, if_false, if_neg hlength, State.wake_awake htrans hst]

end

/-! ### Fetched commands (R373) -/

/-- A ring whose next entry was fetched, and the turn past it. -/
def State.queueFetched (s : State) (n : Nat) (c : RingCmd) : State :=
  let t := (s.portBytes true (0x62 + (s.ring n).port.getD 0) 64).setRing n { s.ring n with
    fetched := ((s.ring n).fetched + 1) % 2 ^ 32, cmds := (s.ring n).cmds ++ [c] }
  { t with host := { t.host with nextRing := n + 1 } }

theorem State.queueFetched_ring (s : State) (n : Nat) (c : RingCmd) : (s.queueFetched n c).ring n = { s.ring n with
    fetched := ((s.ring n).fetched + 1) % 2 ^ 32, cmds := (s.ring n).cmds ++ [c] } :=
  State.setRing_ring_same ..

/-- The command that 64 bytes of host memory give as the next entry of a ring (R371). -/
def Ring.cmdOf (x : Ring) (e : List Byte) : RingCmd :=
  { index := x.fetched, id := leAt e 0 4, notify := bitOf (leAt e 4 1) 0
    badReserved := decide (1 < leAt e 4 1) || leAt e 5 3 != 0, body := bytesAt e 8 40 }

section
variable {s : State} {n : Nat} (hturn : s.fetchTurn = some n) (hfetching : s.host.fetching = true)
  (hreset : s.supplies.inReset = false)
include hturn hfetching hreset

theorem State.fetch_eq (e : List Byte) : s.fetch e =
    match s.fetchStatus (s.ring n).ctx ((s.ring n).cmdOf e) with
    | some st => (s.queueFetched n ((s.ring n).cmdOf e)).finishCmd n (s.ring n).fetched st
    | none => s.queueFetched n ((s.ring n).cmdOf e) := by
  have hruns : ¬ (s.host.fetching = false ∨ s.supplies.inReset = true) := by simp [hfetching, hreset]
  simp only [State.fetch, hturn, if_neg hruns]
  rfl

end

/-- What a ring lets out leaves the entries it has fetched. -/
theorem State.flushRing_fetched (r n : Nat) (s : State) : ((State.flushRing r n s).ring r).fetched = (s.ring r).fetched := by
  induction n generalizing s with
  | zero => rfl
  | succ n ih =>
    simp only [State.flushRing]
    split
    · split
      · rw [State.setRing_ring_same]
      · rfl
    · split
      · split
        · rw [ih, State.setRing_ring_same]
        · split
          · rfl
          · rw [ih, State.completeHead_ring, Ring.completeOldest]
      · rfl

theorem State.finishCmd_fetched (s : State) (r i status result : Nat) :
    ((s.finishCmd r i status result).ring r).fetched = (s.ring r).fetched := by
  rw [State.finishCmd, State.flush, State.flushRing_fetched, State.markDone, State.setRing_ring_same]

/-! ### A port that is given up (R386) -/

theorem exec_tunnelHoldExpiry_due {s : State} {w : Nat} (hw : w < 2) (hst : (s.port w).st = .lost)
    (hdue : s.reg K.tunnelHoldTime * 250000 ≤ s.tick - (s.port w).lostAt) :
    exec (.tunnelHoldExpiry w) s = .next (s.detach w) :=
  (guardUnit_carried (decide_eq_true hw) _ _).trans (congrArg _ (if_pos ⟨hst, hdue⟩))

/-- A ring that waits for the tunnel of port 0. -/
def waitingRing : Ring := { st := .held, port := some 0 }

/-- A queue that waits for the tunnel of port 0 and holds a record. -/
def waitingQueue : EvQueue := { st := .held, port := some 0, held := [{ typ := RType.boot, src := 0, pos := 0, time := 0 }] }

/-- A port whose tunnel has been lost for longer than its hold time. Its queue has the number 64, for which the dictionary has
no EvqRecordsDropped, so that the count kept under that key has no width of its own. -/
def heldPastQueues : State :=
  { mfg := { part := .brl7162 }
    tick := 10 ^ 12
    regs := [(K.evqRecordsDropped 64, 2 ^ 32 - 1)]
    host := { ports := [(0, { st := .lost })], rings := [(0, waitingRing)], queues := [(64, waitingQueue)] } }

end Sys2Proof.Machine

open Sys2Proof Sys2Proof.Machine

/-- Refutes O39: the statement leaves the number of the queue free. Past the 64 queues the dropped records are counted under
a key that is no 32-bit entry, and the count does not wrap at 32 bits. -/
theorem not_hostPortsFollowTheirTunnel : ¬ Obligations.HostPortsFollowTheirTunnel := by
  rintro ⟨-, -, -, -, -, hexpiry, -⟩
  obtain ⟨t, hexec, -, -, -, -, -, hdropped, -⟩ := hexpiry heldPastQueues 0 0 64 waitingRing waitingQueue (by decide) rfl
    (by decide) rfl rfl rfl rfl rfl rfl rfl
  rw [exec_tunnelHoldExpiry_due (by decide) rfl (by decide)] at hexec
  injection hexec with hsame
  have hcount : (heldPastQueues.detach 0).reg (K.evqRecordsDropped 64) = 2 ^ 32 := by decide
  rw [← hsame, hcount] at hdropped
  exact absurd hdropped (by decide)

/-- Settles O59: emission, and the draining that a new head starts, leave every head and the registers of the ports. -/
theorem queueHeadsMove : Obligations.QueueHeadsMove := by
  refine ⟨fun s w v n hw hup hon hn hport hin => ?moves, fun s w v n hw hup hon hn hport hout => ?refused, fun q => ?full⟩
  case moves =>
    have hexec : exec (.hwinEvqHead w v) s = .next (s.evqHead w v) := State.inWindow_up hw hup hon fun s => s.evqHead w v
    rw [State.evqHead_moves hn hport hin] at hexec
    have hkeeps := ((State.KeepsHeads.refl
      (s.setQueue n { s.queue n with head := bits v 63 32, armed := true })).signal n).drainQueue n 300
    refine ⟨_, hexec, ?_, congrArg _ (State.port_congr hkeeps.ports w)⟩
    rw [hkeeps.head, State.setQueue_queue_same]
  case refused =>
    have hexec : exec (.hwinEvqHead w v) s = .next (s.evqHead w v) := State.inWindow_up hw hup hon fun s => s.evqHead w v
    rw [State.evqHead_refused hn hport (Nat.lt_of_not_le hout)] at hexec
    exact ⟨_, hexec, State.queue_congr (State.hwinError_queues ..) n, by rw [State.hwinError_port]⟩
  case full => rw [EvQueue.full, beq_iff_eq, EvQueue.size]

/-- Settles O40: each row of a window is one operation on the ring, the queue or the port that it names. -/
theorem ringsAndQueuesAreServed : Obligations.RingsAndQueuesAreServed := by
  refine ⟨fun s w v hw hup hon hst hport haligned => ?ringBase, fun s w v hw hup hon hst => ?ringBusy,
    fun s w v hw hup hon => ?errorClear, fun s w n hw hup hon hsel hst hport hbase => ?ringEnable,
    fun s w n hw hup hon hsel hst hport hbase => ?ringNoBase, fun s w n hw hup hon hsel hport hcmds => ?ringDisable,
    fun s w v n tail hw hup hon hrun htrans hn htail hst hport hmoves hfits hroom => ?bellTaken,
    fun s w v n tail hw hup hon hrun htrans hn htail hst hport hsame hword => ?bellRefused,
    fun s w n hw hup hon hsel hst hport hboot => ?evqEnable, fun s w n hw hup hon hsel hport hn => ?evqDisable,
    fun s w v n hw hup hon hn hport hheld hdropped hunsig hin => ?headMoves,
    fun s w v n hw hup hon hn hport hout => ?headRefused,
    fun s n w hn hst hport hsignals harmed hnew hdue => ?signal, fun s w v hw hup hon => ?imgRelease,
    fun s w v hw hup hon hshort hidle => ?mbxShort,
    fun s w v hw hup hon htrans hawake hleast hmost hidle hsilent hmagic hformed hop => ?mbxOpen,
    fun s e n c hturn hfetching hreset hc hok => ?fetched,
    fun s e n c hturn hfetching hreset hcmds hc hctx hop hst => ?unknown⟩
  case ringBase =>
    have hexec : exec (.hwinRegisterWrite w 0x0108 v) s = .next (s.hwinRegister w 0x0108 v) :=
      State.inWindow_up hw hup hon fun s => s.hwinRegister w 0x0108 v
    have hchanges := execHwinRegisterWrite_changes w 0x0108 v s hexec
    rw [State.hwinRegister_ringBase hst hport haligned] at hexec hchanges
    exact ⟨_, hexec, State.setRing_ring_same .., hchanges⟩
  case ringBusy =>
    have hexec : exec (.hwinRegisterWrite w 0x0108 v) s = .next (s.hwinRegister w 0x0108 v) :=
      State.inWindow_up hw hup hon fun s => s.hwinRegister w 0x0108 v
    have hchanges := execHwinRegisterWrite_changes w 0x0108 v s hexec
    rw [State.hwinRegister_ringBusy hst] at hexec hchanges
    exact ⟨_, hexec, State.hwinError_rings .., State.hwinError_port .., hchanges⟩
  case errorClear =>
    have hexec : exec (.hwinErrorClear w v) s = .next (s.hwinErrorClear w) :=
      State.inWindow_up hw hup hon fun s => s.hwinErrorClear w
    exact ⟨_, hexec, State.setPort_port_same .., execHwinErrorClear_changes w v s hexec⟩
  case ringEnable =>
    have hexec : exec (.ringEnable w) s = .next (s.ringEnable w) := State.inWindow_up hw hup hon fun s => s.ringEnable w
    have hchanges := execRingEnable_changes w s hexec
    rw [State.ringEnable_starts hsel hst hport hbase] at hexec hchanges
    exact ⟨_, hexec, State.setRing_ring_same .., hchanges⟩
  case ringNoBase =>
    have hexec : exec (.ringEnable w) s = .next (s.ringEnable w) := State.inWindow_up hw hup hon fun s => s.ringEnable w
    have hchanges := execRingEnable_changes w s hexec
    rw [State.ringEnable_noBase hsel hst hport hbase] at hexec hchanges
    refine ⟨_, hexec, State.ring_congr (State.hwinError_rings ..) n, ?_, ?_, hchanges⟩ <;> rw [State.hwinError_port]
  case ringDisable =>
    have hexec : exec (.ringDisable w) s = .next (s.ringDisable w) :=
      State.inWindow_up hw hup hon fun s => s.ringDisable w
    have hchanges := execRingDisable_changes w s hexec
    rw [State.ringDisable_idle hsel hport hcmds] at hexec hchanges
    exact ⟨_, hexec, State.setRing_ring_same .., hchanges⟩
  case bellTaken =>
    have hexec : exec (.hwinRingDoorbell w v) s = .next (s.doorbell w v) :=
      State.inWindow_up hw hup hon fun s => s.doorbell w v
    have hchanges := execHwinRingDoorbell_changes w v s hexec
    rw [State.doorbell_running hrun htrans, ← hn, ← htail,
      State.ringBell_takes hst hport hmoves hfits hroom] at hexec hchanges
    exact ⟨_, hexec, State.setRing_ring_same .., State.setRing_reg .., hchanges⟩
  case bellRefused =>
    have hexec : exec (.hwinRingDoorbell w v) s = .next (s.doorbell w v) :=
      State.inWindow_up hw hup hon fun s => s.doorbell w v
    have hchanges := execHwinRingDoorbell_changes w v s hexec
    rw [State.doorbell_running hrun htrans, ← hn, ← htail, State.ringBell_unmoved hst hport hsame] at hexec hchanges
    refine ⟨_, hexec, ?_, ?_, ?_, hchanges⟩
    · rw [State.bump_ring, State.ring_congr (State.hwinError_rings ..)]
    · rw [State.bump_port, State.hwinError_port]
    · rw [State.bump_reg, if_pos rfl, State.hwinError_reg, K.doorbellsRefused_width]
  case evqEnable =>
    have hexec : exec (.evqEnable w) s = .next (s.evqEnable w) := State.inWindow_up hw hup hon fun s => s.evqEnable w
    have hchanges := execEvqEnable_changes w s hexec
    rw [State.evqEnable_starts hsel hst hport hboot] at hexec hchanges
    exact ⟨_, hexec, State.setQueue_queue_same .., hchanges⟩
  case evqDisable =>
    have hexec : exec (.evqDisable w) s = .next (s.evqDisable w) := State.inWindow_up hw hup hon fun s => s.evqDisable w
    have hchanges := execEvqDisable_changes w s hexec
    rw [State.evqDisable_bound hsel hport] at hexec hchanges
    exact ⟨_, hexec, State.disableQueue_queue .., by rw [State.disableQueue_dropped, K.evqRecordsDropped_width n hn], hchanges⟩
  case headMoves =>
    have hexec : exec (.hwinEvqHead w v) s = .next (s.evqHead w v) := State.inWindow_up hw hup hon fun s => s.evqHead w v
    have hchanges := execHwinEvqHead_changes w v s hexec
    have hset := State.setQueue_queue_same s n { s.queue n with head := bits v 63 32, armed := true }
    rw [State.evqHead_moves hn hport hin, State.signal_nothingNew (by rw [hset]; exact hunsig),
      State.drainQueue_empty (by rw [hset]; exact hheld) (by rw [hset]; exact hdropped)] at hexec hchanges
    exact ⟨_, hexec, hset, hchanges⟩
  case headRefused =>
    have hexec : exec (.hwinEvqHead w v) s = .next (s.evqHead w v) := State.inWindow_up hw hup hon fun s => s.evqHead w v
    have hchanges := execHwinEvqHead_changes w v s hexec
    rw [State.evqHead_refused hn hport hout] at hexec hchanges
    exact ⟨_, hexec, State.queue_congr (State.hwinError_queues ..) n, by rw [State.hwinError_port], hchanges⟩
  case signal =>
    have hexec : exec (.evqTimeThreshold n) s = .next (s.signal n) := guardUnit_carried (decide_eq_true hn) _ _
    have hchanges := execEvqTimeThreshold_changes n s hexec
    rw [State.signal_timeDue hst hport hsignals harmed hnew hdue] at hexec hchanges
    exact ⟨_, hexec, State.setQueue_queue_same .., rfl, hchanges⟩
  case imgRelease =>
    have hexec : exec (.hwinImgRelease w v) s = .next (s.imgRelease w v) :=
      State.inWindow_up hw hup hon fun s => s.imgRelease w v
    exact ⟨_, hexec, State.setPort_port_same .., execHwinImgRelease_changes w v s hexec⟩
  case mbxShort =>
    have hexec : exec (.hwinMbxDoorbell w v) s = .next (s.mbxDoorbell w v) :=
      State.inWindow_up hw hup hon fun s => s.mbxDoorbell w v
    rw [State.mbxDoorbell_short hidle hshort] at hexec
    have hport := State.hwinError_port s w Status.lengthMismatch 0 0x0400
    exact ⟨_, hexec, by rw [hport], by rw [hport], State.hwinError_regs .., by simp only [State.hwinError_same]⟩
  case mbxOpen =>
    have hexec : exec (.hwinMbxDoorbell w v) s = .next (s.mbxDoorbell w v) :=
      State.inWindow_up hw hup hon fun s => s.mbxDoorbell w v
    rw [State.mbxDoorbell_message hidle htrans hawake hleast hmost, hsilent, State.mailbox_open hmagic hformed hop] at hexec
    refine ⟨_, hexec, ?_, ?_, ?_, rfl, rfl⟩ <;> rw [State.setPort_port_same]
  case fetched =>
    have hexec : exec (.ringFetch e) s = .next (s.fetch e) := rfl
    have hchanges := execRingFetch_changes e s hexec
    rw [show c = (s.ring n).cmdOf e from hc] at hok ⊢
    rw [State.fetch_eq hturn hfetching hreset, hok] at hexec hchanges
    exact ⟨_, hexec, State.queueFetched_ring .., rfl, hchanges⟩
  case unknown =>
    have hexec : exec (.ringFetch e) s = .next (s.fetch e) := rfl
    have hchanges := execRingFetch_changes e s hexec
    rw [show c = (s.ring n).cmdOf e from hc] at hop
    have hrefused : s.fetchStatus (s.ring n).ctx ((s.ring n).cmdOf e) = some Status.descriptorInvalid := by
      simp only [State.fetchStatus, if_neg hctx, hop, if_true]
    rw [State.fetch_eq hturn hfetching hreset, hrefused] at hexec hchanges
    have hring := State.queueFetched_ring s n ((s.ring n).cmdOf e)
    obtain ⟨hnone, hcount, hlast, -⟩ := State.finishCmd_completed (s := s.queueFetched n ((s.ring n).cmdOf e)) (r := n)
      (c := (s.ring n).cmdOf e) Status.descriptorInvalid 0 ⟨by rw [hring]; exact hst, by rw [hring, hcmds]; rfl⟩
    refine ⟨_, hexec, hnone, ?_, ?_, hlast, hchanges⟩
    · rw [State.finishCmd_fetched, hring]
    · exact hcount.trans (by rw [hring])
end

section
/-! PROOFS. The statement on the links, ARP and ICMP of the network ports (NetworkPortsAnswer). A frame that arrives on a port
whose link is up reaches its operation; each operation counts it as received or as dropped. -/

namespace Sys2Proof.Machine

/-! ### Entries of a port (spec/17) -/

theorem K.linkLosses_width : ∀ e, e < 2 → counterWidth (K.linkLosses e) = 32 := by decide

theorem K.framesReceived_width : ∀ e, e < 2 → counterWidth (K.framesReceived e) = 64 := by decide

theorem K.framesDropped_width : ∀ e, e < 2 → counterWidth (K.framesDropped e) = 32 := by decide

theorem K.portLinkState_ne_portLinkRate (e : Nat) : K.portLinkState e ≠ K.portLinkRate e := by
  show 0x130300 + (e + 1) % 256 ≠ 0x130300 + (e + 3) % 256
  omega

/-- Entries of different indices are different entries. -/
theorem K.ne_of_index {j k a b : Nat} (hj : j / 256 = a) (hk : k / 256 = b) (hab : a ≠ b := by decide) : j ≠ k :=
  fun h => hab (by rw [← hj, h, hk])

/-! ### Frames (R389, R390) -/

theorem State.onEth_up {s : State} {e : Nat} (he : e < 2) (hon : s.ethOn e = true) (f : State → State) :
    s.onEth e f = .next (f s) := by
  rw [State.onEth, guardUnit_carried (decide_eq_true he), if_pos hon]

theorem State.ethPort_congr {s t : State} (h : t.net = s.net) (e : Nat) : t.ethPort e = s.ethPort e := by
  rw [State.ethPort, h, State.ethPort]

@[simp] theorem State.setEth_ethPort_same (s : State) (e : Nat) (x : EthPort) : (s.setEth e x).ethPort e = x :=
  (State.setEth_ethPort ..).trans (if_pos rfl)

section
variable (s : State) (e : Nat)

@[simp] theorem State.portBytes_ethPort (inward : Bool) (p n : Nat) : (s.portBytes inward p n).ethPort e = s.ethPort e :=
  State.ethPort_congr (by simp only [State.portBytes_same]) e

@[simp] theorem State.send_ethPort (o : Output) : (s.send o).ethPort e = s.ethPort e := rfl

@[simp] theorem State.frameIn_ethPort (p n : Nat) : (s.frameIn p n).ethPort e = s.ethPort e :=
  State.ethPort_congr (by simp only [State.frameIn_same]) e

end

@[simp] theorem State.send_out (s : State) (o : Output) : (s.send o).out = s.out ++ [o] := rfl

section
variable {s : State} {e : Nat}

theorem State.frameIn_received (he : e < 2) (n : Nat) :
    (s.frameIn e n).reg (K.framesReceived e) = (s.reg (K.framesReceived e) + 1) % 2 ^ 64 := by
  rw [State.frameIn, State.portBytes_reg, State.bump_reg, if_pos rfl, K.framesReceived_width e he]

theorem State.frameDrop_dropped (he : e < 2) :
    (s.frameDrop e).reg (K.framesDropped e) = (s.reg (K.framesDropped e) + 1) % 2 ^ 32 := by
  rw [State.frameDrop, State.bump_reg, if_pos rfl, K.framesDropped_width e he]

/-! ### Links (R389, R397) -/

/-- The trims that come into force with a rate leave the state and the rate of the link. -/
theorem State.takeTrims_link (rate k : Nat) (hk : k / 256 = 0x1303) : (s.takeTrims e rate).reg k = s.reg k := by
  rw [State.takeTrims, State.setReg_ne _ _ (K.ne_of_index hk (K.egressLatency_index e)),
    State.setReg_ne _ _ (K.ne_of_index hk (K.ingressLatency_index e))]

theorem State.portLink_comesUp (hon : s.usbOn = true) (henabled : s.flag (K.portEnable e) = true) (r : Nat) :
    (s.portLink e true r).reg (K.portLinkState e) = 1 ∧
      (s.portLink e true r).reg (K.portLinkRate e) = if r = 1 then 1 else 2 := by
  simp only [State.portLink, hon, henabled, and_self, if_true]
  rw [State.takeTrims_link _ _ (K.portLinkState_index e), State.takeTrims_link _ _ (K.portLinkRate_index e),
    State.setReg_ne _ _ (K.portLinkState_ne_portLinkRate e), State.setReg_get, State.setReg_get]
  exact ⟨rfl, rfl⟩

theorem State.portLink_goesDown (he : e < 2) (hup : s.reg (K.portLinkState e) = 1) (r : Nat) :
    (s.portLink e false r).reg (K.portLinkState e) = 0 ∧ (s.portLink e false r).reg (K.portLinkRate e) = 0 ∧
      (s.portLink e false r).reg (K.linkLosses e) = (s.reg (K.linkLosses e) + 1) % 2 ^ 32 := by
  have hstate : K.portLinkState e ≠ K.linkLosses e := K.ne_of_index (K.portLinkState_index e) (K.linkLosses_index e)
  have hrate : K.portLinkRate e ≠ K.linkLosses e := K.ne_of_index (K.portLinkRate_index e) (K.linkLosses_index e)
  simp only [State.portLink, Bool.false_eq_true, if_false, hup, if_true, State.bump_reg, hstate, hrate,
    K.linkLosses_width e he]
  rw [State.setReg_ne _ _ (K.portLinkState_ne_portLinkRate e), State.setReg_get, State.setReg_get,
    State.setReg_ne _ _ hrate.symm, State.setReg_ne _ _ hstate.symm]
  exact ⟨rfl, rfl, rfl⟩

/-! ### ARP and ICMP (R390) -/

theorem State.arpRequest_answers {a : Nat} (ha : a = s.reg (K.ipv4Address e)) (hip : a ≠ 0) (ip mac : Nat) :
    s.arpRequest e ip mac a = ((s.frameIn e (s.frameLen e 28)).send (.arp e ip mac)).portBytes false (0x64 + e)
      (s.frameLen e 28) := if_pos ⟨ha, hip⟩

theorem State.arpRequest_drops {a : Nat} (ha : a ≠ s.reg (K.ipv4Address e)) (ip mac : Nat) :
    s.arpRequest e ip mac a = s.frameDrop e := if_neg fun h => ha h.1

theorem State.arpReply_keeps {a : Nat} (ha : a = s.reg (K.ipv4Address e)) (hip : a ≠ 0) (h : ArpHost) :
    s.arpReply e h a = (s.frameIn e (s.frameLen e 28)).setEth e { s.ethPort e with
      arp := ((h.ip, h.mac, s.tick) :: (s.ethPort e).arp.filter fun x => x.1 != h.ip).take 64 } := by
  rw [State.arpReply, if_pos ⟨ha, hip⟩]
  simp only [State.frameIn_ethPort, State.frameIn_same]

theorem State.arpReply_drops {a : Nat} (ha : a ≠ s.reg (K.ipv4Address e)) (h : ArpHost) :
    s.arpReply e h a = s.frameDrop e := if_neg fun hd => ha hd.1

theorem State.arpExpiry_old {ip mac at0 : Nat} (harp : (s.ethPort e).arp = [(ip, mac, at0)])
    (hold : at0 + 75000000000 ≤ s.tick) : s.arpExpiry e ip = s.setEth e { s.ethPort e with arp := [] } := by
  simp [State.arpExpiry, harp, Nat.not_lt.2 hold]

/-- A second that has begun and still runs limits the echoes answered by what it has answered. -/
theorem State.icmpEcho_answers {dst : Nat} (hdst : dst = s.reg (K.ipv4Address e)) (hip : dst ≠ 0)
    (hfew : (s.ethPort e).icmpCount < 100) (hnow : s.tick < (s.ethPort e).icmpTick + 250000000)
    (hbegun : (s.ethPort e).icmpCount ≠ 0) (src : Nat) (d : List Byte) :
    s.icmpEcho e src dst d = (((s.setEth e { s.ethPort e with icmpCount := (s.ethPort e).icmpCount + 1 }).frameIn e
      (s.frameLen e (28 + d.length))).send (.icmp e src d)).portBytes false (0x64 + e) (s.frameLen e (28 + d.length)) := by
  have hruns : ¬ ((s.ethPort e).icmpTick + 250000000 ≤ s.tick ∨ (s.ethPort e).icmpCount = 0) :=
    not_or.2 ⟨Nat.not_le.2 hnow, hbegun⟩
  have hanswers : dst = s.ipv4 e ∧ dst ≠ 0 ∧ (s.ethPort e).icmpCount < 100 := ⟨hdst, hip, hfew⟩
  simp only [State.icmpEcho, if_neg hruns, if_pos hanswers]

theorem State.icmpEcho_limited (hmany : 100 ≤ (s.ethPort e).icmpCount)
    (hnow : s.tick < (s.ethPort e).icmpTick + 250000000) (src dst : Nat) (d : List Byte) :
    s.icmpEcho e src dst d = s.frameDrop e := by
  have hruns : ¬ ((s.ethPort e).icmpTick + 250000000 ≤ s.tick ∨ (s.ethPort e).icmpCount = 0) := by omega
  have hfull : ¬ (dst = s.ipv4 e ∧ dst ≠ 0 ∧ (s.ethPort e).icmpCount < 100) := fun h => Nat.not_lt.2 hmany h.2.2
  simp only [State.icmpEcho, if_neg hruns, if_neg hfull]

end
end Sys2Proof.Machine

open Sys2Proof Sys2Proof.Machine

/-- Settles O42: every frame is counted on its own port, and what answers it leaves after it was counted. -/
theorem networkPortsAnswer : Obligations.NetworkPortsAnswer := by
  refine ⟨fun s e r he hon henabled => ?linkUp, fun s e r he hup => ?linkDown,
    fun s e ip mac a he hon ha hip => ?request, fun s e ip mac a he hon ha => ?requestDropped,
    fun s e a h he hon ha hip => ?reply, fun s e a h he hon ha => ?replyDropped,
    fun s e ip mac at0 he harp hold => ?expiry,
    fun s e src dst d he hon hdst hip hfew hnow hbegun => ?echo,
    fun s e src dst d he hon hmany hnow => ?echoDropped, fun s e he hon => ?dropped⟩
  case linkUp =>
    have hexec : exec (.portLinkChange e true r) s = .next (s.portLink e true r) :=
      guardUnit_carried (decide_eq_true he) _ _
    obtain ⟨hstate, hrate⟩ := State.portLink_comesUp hon henabled r
    exact ⟨_, hexec, hstate, hrate, execPortLinkChange_changes e true r s hexec⟩
  case linkDown =>
    have hexec : exec (.portLinkChange e false r) s = .next (s.portLink e false r) :=
      guardUnit_carried (decide_eq_true he) _ _
    obtain ⟨hstate, hrate, hlosses⟩ := State.portLink_goesDown he hup r
    exact ⟨_, hexec, hstate, hrate, hlosses, execPortLinkChange_changes e false r s hexec⟩
  case request =>
    have hexec : exec (.arpRequest e ip mac a) s = .next (s.arpRequest e ip mac a) :=
      State.onEth_up he hon fun s => s.arpRequest e ip mac a
    have hchanges := execArpRequest_changes e ip mac a s hexec
    rw [State.arpRequest_answers ha hip] at hexec hchanges
    refine ⟨_, hexec, ?_, ?_, hchanges⟩
    · rw [(State.portBytes_changes ..).areas .out rfl, State.send_out]; simp
    · rw [State.portBytes_reg, State.send_reg, State.frameIn_received he]
  case requestDropped =>
    have hexec : exec (.arpRequest e ip mac a) s = .next (s.arpRequest e ip mac a) :=
      State.onEth_up he hon fun s => s.arpRequest e ip mac a
    have hchanges := execArpRequest_changes e ip mac a s hexec
    rw [State.arpRequest_drops ha] at hexec hchanges
    exact ⟨_, hexec, by simp only [State.frameDrop_same], State.frameDrop_dropped he, hchanges⟩
  case reply =>
    have hexec : exec (.arpReply e h a) s = .next (s.arpReply e h a) :=
      State.onEth_up he hon fun s => s.arpReply e h a
    have hchanges := execArpReply_changes e h a s hexec
    rw [State.arpReply_keeps ha hip] at hexec hchanges
    refine ⟨_, hexec, ?_, ?_, hchanges⟩
    · rw [State.setEth_ethPort_same]
    · rw [State.setEth_reg, State.frameIn_received he]
  case replyDropped =>
    have hexec : exec (.arpReply e h a) s = .next (s.arpReply e h a) :=
      State.onEth_up he hon fun s => s.arpReply e h a
    have hchanges := execArpReply_changes e h a s hexec
    rw [State.arpReply_drops ha] at hexec hchanges
    exact ⟨_, hexec, by simp only [State.frameDrop_same], State.frameDrop_dropped he, hchanges⟩
  case expiry =>
    have hexec : exec (.arpCacheExpiry e ip) s = .next (s.arpExpiry e ip) := guardUnit_carried (decide_eq_true he) _ _
    have hchanges := execArpCacheExpiry_changes e ip s hexec
    rw [State.arpExpiry_old harp hold] at hexec hchanges
    exact ⟨_, hexec, by rw [State.setEth_ethPort_same], hchanges⟩
  case echo =>
    have hexec : exec (.icmpEchoRequest e src dst d) s = .next (s.icmpEcho e src dst d) :=
      State.onEth_up he hon fun s => s.icmpEcho e src dst d
    have hchanges := execIcmpEchoRequest_changes e src dst d s hexec
    rw [State.icmpEcho_answers hdst hip hfew hnow hbegun] at hexec hchanges
    refine ⟨_, hexec, ?_, ?_, ?_, hchanges⟩
    · simp
    · rw [State.portBytes_ethPort, State.send_ethPort, State.frameIn_ethPort, State.setEth_ethPort_same]
    · rw [State.portBytes_reg, State.send_reg, State.frameIn_received he, State.setEth_reg]
  case echoDropped =>
    have hexec : exec (.icmpEchoRequest e src dst d) s = .next (s.icmpEcho e src dst d) :=
      State.onEth_up he hon fun s => s.icmpEcho e src dst d
    have hchanges := execIcmpEchoRequest_changes e src dst d s hexec
    rw [State.icmpEcho_limited hmany hnow] at hexec hchanges
    exact ⟨_, hexec, by simp only [State.frameDrop_same], by simp only [State.frameDrop_same],
      State.frameDrop_dropped he, hchanges⟩
  case dropped =>
    have hexec : exec (.ethernetFrameDropped e) s = .next (s.frameDrop e) :=
      State.onEth_up he hon fun s => s.frameDrop e
    exact ⟨_, hexec, State.frameDrop_dropped he, execEthernetFrameDropped_changes e s hexec⟩
end

section
/-! PROOFS. The statement on the records of faults (FaultRecordsAreLimited). Noting a fault first counts its record in the
second of its code (R406) and then keeps the fault (R425, R476): what the two halves hold is said apart. -/

namespace Sys2Proof.Machine

/-! ### The logs (R425, R474) -/

/-- Counting an overwrite leaves the volatile log and the counts of records. -/
theorem State.overwrote_counts (s : State) (log : Nat) (silent : Bool) :
    (s.overwrote log silent).faults.log = s.faults.log ∧ (s.overwrote log silent).faults.rateSec = s.faults.rateSec ∧
      (s.overwrote log silent).faults.rateCount = s.faults.rateCount := by
  unfold State.overwrote
  simp only []
  repeat' split
  all_goals simp [State.bumpSat_faults]

section
variable (s : State) (e : FaultEntry)

theorem State.logFault_newest : (s.logFault e).faults.log.getLast? = some e := by
  unfold State.logFault
  split
  · exact List.getLast?_concat
  · rw [(State.overwrote_counts ..).1]
    exact List.getLast?_concat

theorem State.logFault_rates : (s.logFault e).faults.rateSec = s.faults.rateSec ∧
    (s.logFault e).faults.rateCount = s.faults.rateCount := by
  unfold State.logFault
  split
  · exact ⟨rfl, rfl⟩
  · exact (State.overwrote_counts ..).2

theorem State.logFaultNv_counts (silent : Bool) : (s.logFaultNv e silent).faults.log = s.faults.log ∧
    (s.logFaultNv e silent).faults.rateSec = s.faults.rateSec ∧
    (s.logFaultNv e silent).faults.rateCount = s.faults.rateCount := by
  unfold State.logFaultNv
  split
  · exact ⟨rfl, rfl, rfl⟩
  · exact State.overwrote_counts ..

/-! ### Keeping a fault (R425, R476) -/

/-- A fault in the logs that take it. -/
def State.logBoth : State :=
  if nvFaults.contains e.code then (s.logFault e).logFaultNv e (e.code == FCode.powerFail) else s.logFault e

theorem State.logBoth_log : (s.logBoth e).faults.log.getLast? = some e := by
  unfold State.logBoth
  split
  · rw [(State.logFaultNv_counts ..).1, State.logFault_newest]
  · exact State.logFault_newest ..

theorem State.logBoth_rates : (s.logBoth e).faults.rateSec = s.faults.rateSec ∧
    (s.logBoth e).faults.rateCount = s.faults.rateCount := by
  unfold State.logBoth
  split
  · obtain ⟨-, hsec, hcount⟩ := State.logFaultNv_counts (s.logFault e) e (e.code == FCode.powerFail)
    exact ⟨hsec.trans (State.logFault_rates ..).1, hcount.trans (State.logFault_rates ..).2⟩
  · exact State.logFault_rates ..

/-- The logs leave the counts of faults, those of their records included. -/
theorem State.logBoth_faultCounts {k : Nat} (hk : k / 256 = 0x1402) : (s.logBoth e).reg k = s.reg k := by
  have hout := Entries.has_index_false (l := [0x1205, 0x1703, K.recordsUnrouted, K.faultLogOverwritten]) hk (by decide)
  unfold State.logBoth
  split
  · rw [(State.logFaultNv_changes ..).entries _ hout, (State.logFault_changes ..).entries _ hout]
  · exact (State.logFault_changes ..).entries _ hout

/-- A fault enters the logs and the count of its class; `ok` says whether its record stayed within its second (R406). -/
def State.keepFault (ok : Bool) : State :=
  let s := (s.logBoth e).bump (K.faultCount (e.code / 256 - 1))
  if ok then s else s.bump K.faultRecordsSuppressed

theorem State.keepFault_faults (ok : Bool) : (s.keepFault e ok).faults = (s.logBoth e).faults := by
  cases ok <;> simp only [State.keepFault, if_true, Bool.false_eq_true, if_false, State.bump_same]

theorem K.faultCount_width : ∀ n, n < 10 → counterWidth (K.faultCount n) = 32 := by decide

theorem K.faultCount_ne_suppressed : ∀ n, n < 10 → K.faultCount n ≠ K.faultRecordsSuppressed := by decide

variable {e} (hleast : 0x0100 ≤ e.code) (hmost : e.code < 0x0B00)
include hleast hmost

theorem State.keepFault_faultCount (ok : Bool) : (s.keepFault e ok).reg (K.faultCount (e.code / 256 - 1)) =
    (s.reg (K.faultCount (e.code / 256 - 1)) + 1) % 2 ^ 32 := by
  have hclass : e.code / 256 - 1 < 10 := by omega
  have hcount : ((s.logBoth e).bump (K.faultCount (e.code / 256 - 1))).reg (K.faultCount (e.code / 256 - 1)) =
      (s.reg (K.faultCount (e.code / 256 - 1)) + 1) % 2 ^ 32 := by
    rw [State.bump_reg, if_pos rfl, K.faultCount_width _ hclass, State.logBoth_faultCounts _ _ (K.faultCount_index _)]
  cases ok with
  | true => exact hcount
  | false =>
    refine (State.bump_reg ..).trans ?_
    rw [if_neg (K.faultCount_ne_suppressed _ hclass), hcount]

theorem State.keepFault_suppressed (ok : Bool) : (s.keepFault e ok).reg K.faultRecordsSuppressed =
    if ok then s.reg K.faultRecordsSuppressed else (s.reg K.faultRecordsSuppressed + 1) % 2 ^ 32 := by
  have hclass : e.code / 256 - 1 < 10 := by omega
  have hsame : ((s.logBoth e).bump (K.faultCount (e.code / 256 - 1))).reg K.faultRecordsSuppressed =
      s.reg K.faultRecordsSuppressed := by
    rw [State.bump_reg, if_neg (K.faultCount_ne_suppressed _ hclass).symm, State.logBoth_faultCounts _ _ rfl]
  cases ok with
  | true => exact hsame
  | false =>
    refine (State.bump_reg ..).trans ?_
    rw [if_pos rfl, hsame, K.faultRecordsSuppressed_width, if_neg Bool.false_ne_true]

end

/-! ### Noting a fault (R405, R406) -/

/-- Records of a fault code noted in the present second of LocalTime (R406; log entry 48). -/
def State.notedThisSecond (s : State) (code : Nat) : Nat :=
  if SMap.get 0 s.faults.rateSec code = s.localTime / 1000000000 then SMap.get 0 s.faults.rateCount code else 0

theorem State.rateOk_fst (s : State) (code : Nat) : (s.rateOk code).1 = decide (s.notedThisSecond code < 1000) := rfl

/-- The record counts in the second that runs. -/
theorem State.rateOk_counts (s : State) (code : Nat) :
    SMap.get 0 (s.rateOk code).2.faults.rateSec code = s.localTime / 1000000000 ∧
      SMap.get 0 (s.rateOk code).2.faults.rateCount code = s.notedThisSecond code + 1 :=
  ⟨SMap.get_set_self .., SMap.get_set_self 0 s.faults.rateCount code (s.notedThisSecond code + 1)⟩

/-- A fault as the log takes it. -/
def State.faultEntry (s : State) (code : Nat) (scope : Scope) (src ctx detail time : Nat) (ok : Bool) : FaultEntry :=
  { code, scope := scope.code, ctx, src, pos := s.pos, time, detail, boot := s.reg K.bootCount
    flags := bitNat (nvFaults.contains code) + 2 * bitNat (firmwareFaults.contains code) + 4 * bitNat (!ok) }

/-- A fault whose record counts in its second. -/
def State.noteRated (s : State) (code : Nat) (scope : Scope) (src ctx detail time : Nat) : Option Rec × State :=
  (if (s.rateOk code).1 then some (s.faultRec code scope src ctx s.pos time detail) else none,
    (s.rateOk code).2.keepFault ((s.rateOk code).2.faultEntry code scope src ctx detail time (s.rateOk code).1) (s.rateOk code).1)

section
variable (s : State) {code : Nat} (scope : Scope) (src ctx detail : Nat)

/-- Noting a fault differs from this only in the free value that a firmware timestamp takes (log entry 12). -/
theorem State.noteFault_rated (hlog : logOnlyFaults.contains code = false) : ∃ n time,
    s.noteFault code scope src ctx detail = ({ s with freeN := n } : State).noteRated code scope src ctx detail time := by
  by_cases hfirmware : firmwareFaults.contains code = true
  case pos =>
    refine ⟨s.freeN + 1, s.t64At (s.localTime + Config.free s.freeN % 5001), ?_⟩
    simp only [State.noteFault, hlog, if_pos hfirmware, Bool.false_eq_true, if_false, Bool.not_false, Bool.and_true]
    rfl
  case neg =>
    refine ⟨s.freeN, s.timeOf s.pos, ?_⟩
    simp only [State.noteFault, hlog, if_neg hfirmware, Bool.false_eq_true, if_false, Bool.not_false, Bool.and_true]
    rfl

theorem State.noteFault_logOnly (hlog : logOnlyFaults.contains code = true) : ∃ n time,
    s.noteFault code scope src ctx detail = (none, ({ s with freeN := n } : State).keepFault
      (({ s with freeN := n } : State).faultEntry code scope src ctx detail time true) true) := by
  by_cases hfirmware : firmwareFaults.contains code = true
  case pos =>
    refine ⟨s.freeN + 1, s.t64At (s.localTime + Config.free s.freeN % 5001), ?_⟩
    simp only [State.noteFault, hlog, if_pos hfirmware, if_true, Bool.not_true, Bool.and_false, Bool.false_eq_true, if_false]
    rfl
  case neg =>
    refine ⟨s.freeN, s.timeOf s.pos, ?_⟩
    simp only [State.noteFault, hlog, if_neg hfirmware, if_true, Bool.not_true, Bool.and_false, Bool.false_eq_true, if_false]
    rfl

/-- Every fault is kept, whatever becomes of its record. -/
theorem State.noteFault_keeps : ∃ (u : State) (e : FaultEntry) (ok : Bool),
    (s.noteFault code scope src ctx detail).2 = u.keepFault e ok ∧ (∀ k, u.reg k = s.reg k) ∧ e.code = code ∧ e.src = src ∧
      e.ctx = ctx ∧ e.detail = detail := by
  cases hlog : logOnlyFaults.contains code with
  | true =>
    obtain ⟨n, time, hnote⟩ := State.noteFault_logOnly s scope src ctx detail hlog
    rw [hnote]
    exact ⟨{ s with freeN := n }, ({ s with freeN := n } : State).faultEntry code scope src ctx detail time true, true, rfl,
      fun _ => rfl, rfl, rfl, rfl, rfl⟩
  | false =>
    obtain ⟨n, time, hnote⟩ := State.noteFault_rated s scope src ctx detail hlog
    rw [hnote]
    exact ⟨(({ s with freeN := n } : State).rateOk code).2, (({ s with freeN := n } : State).rateOk code).2.faultEntry code scope
      src ctx detail time (({ s with freeN := n } : State).rateOk code).1, (({ s with freeN := n } : State).rateOk code).1, rfl,
      State.rateOk_reg { s with freeN := n } code, rfl, rfl, rfl, rfl⟩

end
end Sys2Proof.Machine

open Sys2Proof Sys2Proof.Machine

/-- Settles O60: the count of R406 is taken first, and the logs and counters that follow leave it. -/
theorem faultRecordsAreLimited : Obligations.FaultRecordsAreLimited := by
  refine ⟨fun s code scope src ctx detail hleast hmost hlog hfew => ?issues,
    fun s code scope src ctx detail hleast hmost hlog hsec hmany => ?suppresses,
    fun s code scope src ctx detail hlog => ?logOnly, fun s code scope src ctx detail hleast hmost => ?kept,
    fun s code src detail scope ctx _ _ _ hnone => ?report⟩
  case issues =>
    obtain ⟨n, time, hnote⟩ := State.noteFault_rated s scope src ctx detail hlog
    have hok : (({ s with freeN := n } : State).rateOk code).1 = true := decide_eq_true hfew
    have hcounts := State.rateOk_counts ({ s with freeN := n } : State) code
    rw [hnote, State.noteRated, hok, if_pos rfl]
    refine ⟨⟨_, rfl, rfl, rfl⟩, ?_, ?_, ?_⟩
    · rw [State.keepFault_faults, (State.logBoth_rates ..).1]
      exact hcounts.1
    · rw [State.keepFault_faults, (State.logBoth_rates ..).2]
      exact hcounts.2
    · rw [State.keepFault_suppressed _ hleast hmost, if_pos rfl, State.rateOk_reg]
      rfl
  case suppresses =>
    obtain ⟨n, time, hnote⟩ := State.noteFault_rated s scope src ctx detail hlog
    have hbeyond : ¬ s.notedThisSecond code < 1000 := by
      rw [State.notedThisSecond, if_pos hsec]
      exact Nat.not_lt.2 hmany
    have hok : (({ s with freeN := n } : State).rateOk code).1 = false := decide_eq_false hbeyond
    rw [hnote, State.noteRated, hok, if_neg Bool.false_ne_true]
    refine ⟨rfl, ?_⟩
    rw [State.keepFault_suppressed _ hleast hmost, if_neg Bool.false_ne_true, State.rateOk_reg]
    rfl
  case logOnly =>
    obtain ⟨n, time, hnote⟩ := State.noteFault_logOnly s scope src ctx detail hlog
    rw [hnote]
  case kept =>
    obtain ⟨u, e, ok, hnote, hreg, rfl, hsrc, hctx, hdetail⟩ := State.noteFault_keeps s (code := code) scope src ctx detail
    rw [hnote]
    refine ⟨⟨e, ?_, rfl, hsrc, hctx, hdetail⟩, ?_⟩
    · rw [State.keepFault_faults, State.logBoth_log]
    · rw [State.keepFault_faultCount _ hleast hmost, hreg]
  case report =>
    simp only [State.report, hnone, State.issueFault]
end

section
/-! PROOFS. The statements on the tethers (TetherPacketsAct, TetherGroupsAndPortsRun): both fail of a member that was declared
lost (R355), to whom nothing is sent. -/

namespace Sys2Proof.Machine

/-! ### Receiving a packet (R348 to R350) -/

/-- Nothing leaves for a lost member (R355). -/
theorem State.sendTo_lost {s : State} {dest : Nat} (hlost : s.knots.group.lost.contains dest = true) (typ ctx : Nat)
    (fenced : Bool) (tag arg : Nat) (body : List Byte) : s.sendTo dest typ ctx fenced tag arg body = s := by
  simp only [State.sendTo, State.sendOn, State.sendFrom, hlost, Bool.true_eq_false, and_false, if_false, ite_self]

/-- A packet in sequence has been taken: its acknowledgement counts, its source was heard, its own Seq is acknowledged. -/
def State.accepted (s : State) (port : Nat) (p : TPacket) : State :=
  let u := ((s.portBytes true (0x66 + port) (20 + (p.body.length + 7) / 8 * 8)).ackWindow port p.ackSeq).heard p.src
  (u.setTport port { u.tport port with rxSeq := ((u.tport port).rxSeq + 1) % 65536 }).sendAck port p.src

/-- A member whose tether port 2 leads to member 3, which it has declared lost, and has sent nothing for 10 µs. -/
def lostBehindPort : State :=
  { mfg := { part := .brl7162 }
    tick := 2500
    regs := [(K.routeTable 3, 2)]
    knots := { ports := [(2, { st := .up })], group := { lost := [3] } } }

/-- A read request of the lost member, with its own CRC. -/
def lostReader : TPacket := { seq := 0, src := 3, dest := 0, crc := crc32 (tetherBytes 0x03 3 0 0 false 0 0 0 0 []) }

theorem lostReader_crcOk : lostReader.crcOk 0x03 = true := by simp [lostReader, TPacket.crcOk]

theorem lostReader_received (body : State → State) :
    lostBehindPort.receive 2 0x03 lostReader body = body (lostBehindPort.accepted 2 lostReader) := by
  rw [State.receive, lostReader_crcOk, if_neg (by decide)]
  dsimp only
  rw [if_neg (by decide), if_neg (by decide), if_neg (by decide), if_neg (by decide)]
  rfl

/-- The request is accepted and acknowledged, and no answer takes a Seq. -/
theorem lostReader_unanswered (t : State) (hexec : exec (.readReq 2 lostReader) lostBehindPort = .next t) :
    (t.tport 2).txSeq = 0 := by
  have hrow : exec (.readReq 2 lostReader) lostBehindPort = .next (lostBehindPort.receive 2 0x03 lostReader fun s =>
    s.unlessGloved lostReader lostReader.tag fun s =>
      s.sendTo lostReader.src 0x04 lostReader.ctx false lostReader.tag 0 (SMap.getList 0 s.knots.inbox lostReader.arg 256)) := rfl
  rw [hrow, lostReader_received, State.unlessGloved, if_neg (by decide), State.sendTo_lost (by decide)] at hexec
  injection hexec with hsame
  rw [← hsame]
  decide

/-- No heartbeat leaves, as the only member behind the port is lost. -/
theorem lostBehindPort_silent (t : State) (hexec : exec (.tetherHeartbeatSend 2) lostBehindPort = .next t) :
    (t.tport 2).lastTx = 0 := by
  have hrow : exec (.tetherHeartbeatSend 2) lostBehindPort = .next (lostBehindPort.heartbeat 2) := rfl
  rw [hrow] at hexec
  injection hexec with hsame
  rw [← hsame]
  decide

end Sys2Proof.Machine

open Sys2Proof Sys2Proof.Machine

/-- Refutes O37: a READ_REQ of a lost member moves the expected Seq but is not answered, as packets to a lost member are dropped
(R355). -/
theorem not_tetherPacketsAct : ¬ Obligations.TetherPacketsAct := by
  rintro ⟨-, -, -, -, hread, -⟩
  obtain ⟨t, hexec, -, hanswered, -⟩ := hread lostBehindPort 2 lostReader (by decide) (by decide) lostReader_crcOk (by decide)
    (by decide) (by decide) (by decide) (by decide) (by decide)
  rw [lostReader_unanswered t hexec] at hanswered
  exact absurd hanswered (by decide)

/-- Refutes O38: a port that only leads to a lost member sends no heartbeat (R355), so its latest packet stays as old. -/
theorem not_tetherGroupsAndPortsRun : ¬ Obligations.TetherGroupsAndPortsRun := by
  rintro ⟨-, -, -, -, hheartbeat, -⟩
  obtain ⟨t, hexec, hsent, -⟩ := hheartbeat lostBehindPort 2 (by decide) (by decide) (by decide)
  rw [lostBehindPort_silent t hexec] at hsent
  exact absurd hsent (by decide)
end

section
/-! PROOFS. The statement on the actions of a plan, the time-outs of waiters and the fences of rings
(PlanKnotActionsAndFences). -/

namespace Sys2Proof.Machine

/-! ### A knot without waiters (R340) -/

section
variable {s : State} {k : Nat}

theorem State.waiter_elsewhere (h : s.hasWaiter k = false) {w : Waiter} (hw : w ∈ s.knots.waiters) : (w.knot == k) = false :=
  Bool.eq_false_iff.2 (List.any_eq_false.1 h w hw)

theorem State.releasePlain_unwaited (h : s.hasWaiter k = false) : s.releasePlain k = s := by
  have hnone : (s.knots.waiters.filter fun w => w.knot == k && !w.subtract && decide ((w.n : Int) ≤ (s.knot k).count)) = [] :=
    List.filter_eq_nil_iff.2 fun w hw => by simp [State.waiter_elsewhere h hw]
  rw [State.releasePlain, hnone, if_pos rfl, List.foldl_nil]

theorem State.releaseQueue_unwaited (h : s.hasWaiter k = false) (n : Nat) : State.releaseQueue k n s = s := by
  cases n with
  | zero => rfl
  | succ n =>
    have hnone : (s.knots.waiters.find? fun w => w.knot == k && w.subtract) = none :=
      List.find?_eq_none.2 fun w hw => by simp [State.waiter_elsewhere h hw]
    rw [State.releaseQueue, hnone]

theorem State.evalWaiters_unwaited (h : s.hasWaiter k = false) : s.evalWaiters k = s := by
  rw [State.evalWaiters, State.releasePlain_unwaited h, State.releaseQueue_unwaited h]

/-! ### ADD (R338, R341) -/

/-- What an ADD needs to be applied within the range of a count. -/
structure State.Adds (s : State) (k v : Nat) : Prop where
  owned : (s.knotOwner k).isSome = true
  thawed : (s.knot k).frozen = false
  least : 1 ≤ v
  most : v ≤ 2147483647
  above : -2147483648 ≤ (s.knot k).count + v
  below : (s.knot k).count + v ≤ 2147483647
  unwaited : s.hasWaiter k = false

/-- A knot after an applied ADD. -/
def State.added (s : State) (k v ctx : Nat) : State :=
  (s.countKnotOp ctx).setKnot k { s.knot k with count := (s.knot k).count + v }

variable {v : Nat}

theorem State.Adds.unrefused (h : s.Adds k v) (ctx : Nat) : s.knotRefusal k v false ctx = none := by
  obtain ⟨o, hown⟩ := Option.isSome_iff_exists.1 h.owned
  have hvalue : 1 ≤ v ∧ v ≤ 2 ^ 31 - 1 := ⟨h.least, h.most⟩
  simp only [State.knotRefusal, hvalue, not_true_eq_false, and_false, and_self, if_false, hown, h.thawed, Bool.false_eq_true]

theorem State.knotAdd_applied (h : s.Adds k v) (ctx : Nat) : s.knotAdd k v ctx false = (Status.ok, s.added k v ctx) := by
  have hrange : ¬ ((s.knot k).count + v < -(2 ^ 31) ∨ 2 ^ 31 - 1 < (s.knot k).count + v) := by
    have habove := h.above
    have hbelow := h.below
    omega
  have hunwaited : (s.added k v ctx).hasWaiter k = false := by
    simp only [State.added, State.hasWaiter, State.setKnot, State.countKnotOp_same]
    exact h.unwaited
  simp only [State.knotAdd, h.unrefused, Bool.false_eq_true, if_false, if_neg hrange]
  exact congrArg _ (State.evalWaiters_unwaited hunwaited)

theorem State.added_knot (ctx d : Nat) : (s.added k v ctx).knot d =
    if d = k then { s.knot k with count := (s.knot k).count + v } else s.knot d := by
  rw [State.added, State.setKnot_knot]
  simp only [State.knot, State.countKnotOp_same]

/-! ### Actions of a plan (R344) -/

variable {a : KnotAct}

theorem State.signalAct_adds (h : s.Adds a.knot a.value) (hkind : a.kind = 1) (hflags : a.flags = 0) (c : Nat) (i : Issuer) :
    s.signalAct c i a = s.added a.knot a.value c := by
  have hlocal : a.remote = false := by rw [KnotAct.remote, hflags]; rfl
  have hadd : (a.kind == 2) = false := by rw [hkind]; rfl
  simp only [State.signalAct, hlocal, hadd, Bool.false_eq_true, if_false, State.knotAdd_applied h, State.actRefused,
    State.opRefused, if_true]

/-- An action is issued: it counts as acted in its period. -/
def State.acting (s : State) (per : Period) (n : Nat) : State :=
  { s with engine := { s.engine with period := some { per with acted := per.acted ++ [n] } } }

theorem State.planAction_issues {n cyc : Nat} {per : Period} {p : Plan} (hper : s.engine.period = some per)
    (hplan : s.runPlan 0 = some p) (hact : (p.knotActs (s.image p))[n]? = some a) (hflags : a.flags = 0)
    (hfull : per.empty = false) (hnew : per.acted.contains n = false) (hdue : per.start + a.cycle + per.frozenOn a.die ≤ cyc)
    (hfrozen : s.isFrozen a.die = false) :
    s.planAction n cyc = (s.acting per n).signalAct 0 (.plan 0 a.die) a := by
  have hfence : a.fence = false := by rw [KnotAct.fence, hflags]; rfl
  have hissued : ¬ (per.empty = true ∨ per.acted.contains n = true ∨ cyc < per.start + a.cycle + per.frozenOn a.die ∨
      s.isFrozen a.die = true) := by
    simp only [hfull, hnew, hfrozen, Bool.false_eq_true, false_or, or_false, not_lt, hdue]
  simp only [State.planAction, hper, hplan, hact, if_neg hissued, hfence, Bool.false_eq_true, if_false, if_pos hdue,
    State.acting]

/-! ### Time-outs and fences (R340, R342) -/

variable {r : Nat} {c : RingCmd}

theorem State.waitTimeout_only {w : Waiter} (hwaiters : s.knots.waiters = [w]) (hissuer : w.issuer = .ring r c.index)
    (htimed : w.timeout ≠ 0) (hpassed : w.timeout * 1000 ≤ (s.tick - w.since) * 4) :
    s.waitTimeout 0 = ((s.setWaiters []).bump K.waitTimeouts).finishCmd r c.index Status.timeout
      (((s.setWaiters []).bump K.waitTimeouts).knotResult w.knot) := by
  have hdue : ¬ (w.timeout = 0 ∨ (s.tick - w.since) * 4 < w.timeout * 1000) := by omega
  simp only [State.waitTimeout, hwaiters, List.getElem?_cons_zero, if_neg hdue, List.eraseIdx_cons_zero, State.notify, hissuer]
  apply State.releaseQueue_unwaited
  simp only [State.hasWaiter, State.finishCmd_same]
  rfl

theorem State.fenceRelease_releases (h : s.Runs r c) (hst : c.st = .started) (hop : c.opcode = 0x55)
    (hfencing : c.fencing = false) : s.fenceRelease r = s.finishCmd r c.index Status.ok := by
  have hfind : (s.ring r).cmds.find? (fun c => c.st == .started && (c.opcode == 0x55 || c.fencing)) = some c := by
    rw [h.only, List.find?_cons_of_pos]
    rw [hst, hop]
    rfl
  have hclear : (s.ring r).unfenced c.index = false := by
    rw [Ring.unfenced, h.only, List.takeWhile_cons_of_neg (by simp)]
    rfl
  simp only [State.fenceRelease, hfind, hclear, hfencing, Bool.false_eq_true, if_false]

end
end Sys2Proof.Machine

open Sys2Proof Sys2Proof.Machine

/-- Settles O36: an ADD on a knot without waiters changes that knot alone, and a waiter or a fence that leaves completes the
command of its ring. -/
theorem planKnotActionsAndFences : Obligations.PlanKnotActionsAndFences := by
  refine ⟨fun s n cyc per p a hper hplan hact hkind hflags hfull hnew hdue hfrozen hown hthawed hleast hmost habove hbelow
      hunwaited => ?action, fun s w r c hwaiters hissuer htimed hpassed hrun hcmds => ?timeout,
    fun s r c hr hrun hcmds hst hop => ?fence, fun s r c hr hrun hcmds hst hop hfencing => ?release⟩
  case action =>
    have hexec : exec (.planKnotAction n cyc) s = .next (s.planAction n cyc) := rfl
    have hchanges := execPlanKnotAction_changes n cyc s hexec
    have hadds : (s.acting per n).Adds a.knot a.value := ⟨hown, hthawed, hleast, hmost, habove, hbelow, hunwaited⟩
    rw [State.planAction_issues hper hplan hact hflags hfull hnew hdue hfrozen, State.signalAct_adds hadds hkind hflags]
      at hexec hchanges
    refine ⟨_, hexec, ?_, ?_, fun k hk => ?_, hchanges⟩
    · simp only [State.added, State.setKnot_same, State.countKnotOp_same, State.acting]
    · rw [State.added_knot, if_pos rfl]
      rfl
    · rw [State.added_knot, if_neg hk]
      rfl
  case timeout =>
    have hexec : exec (.knotWaitTimeout 0) s = .next (s.waitTimeout 0) := rfl
    have hchanges := execKnotWaitTimeout_changes 0 s hexec
    rw [State.waitTimeout_only hwaiters hissuer htimed hpassed] at hexec hchanges
    have hrings : ((s.setWaiters []).bump K.waitTimeouts).host.rings = s.host.rings := by
      simp only [State.bump_same, State.setWaiters_same]
    have hruns : ((s.setWaiters []).bump K.waitTimeouts).Runs r c :=
      ⟨by rw [State.ring_congr hrings, hrun], by rw [State.ring_congr hrings, hcmds]⟩
    have hdone := State.finishCmd_completed Status.timeout
      (((s.setWaiters []).bump K.waitTimeouts).knotResult w.knot) hruns
    refine ⟨_, hexec, ?_, ?_, ?_, hdone.cmds, ?_, hdone.lastStatus, hchanges⟩
    · simp only [State.finishCmd_same]
      rfl
    · simp only [State.finishCmd_same]
      rfl
    · rw [State.finishCmd_reg _ _ _ _ _ _ (by decide), State.bump_reg, if_pos rfl, K.waitTimeouts_width,
        State.setWaiters_reg _ _ _ (by decide)]
    · rw [hdone.completed, State.ring_congr hrings]
  case fence =>
    have hruns : s.Runs r c := ⟨hrun, hcmds⟩
    have hexec : exec (.fence r) s = .next (s.startCmd r c.index) :=
      State.ringRow_starts (fun c s => s.startCmd r c.index) hr hruns hst hop
    exact ⟨_, hexec, State.startCmd_ring hruns, execFence_changes r s hexec⟩
  case release =>
    have hruns : s.Runs r c := ⟨hrun, hcmds⟩
    have hexec : exec (.fenceRelease r) s = .next (s.fenceRelease r) := guardUnit_carried (decide_eq_true hr) _ _
    have hchanges := execFenceRelease_changes r s hexec
    rw [State.fenceRelease_releases hruns hst hop hfencing] at hexec hchanges
    have hdone := State.finishCmd_completed Status.ok 0 hruns
    exact ⟨_, hexec, hdone.cmds, hdone.completed, hdone.lastStatus, hchanges⟩
end

section
/-! PROOFS. The statement on the performance counters, the bandwidth windows and the clears (CountersAndClears). Most of its
commands walk over a table; what such a walk leaves of one place of the table is what its own step leaves there
(`foldl_once`). -/

namespace Sys2Proof.Machine

/-! ### Walks over a table -/

/-- A walk whose every step leaves a view leaves it. -/
theorem foldl_leaves {α β : Type} (view : State → β) {f : State → α → State} {L : List α}
    (h : ∀ s x, x ∈ L → view (f s x) = view s) (s : State) : view (L.foldl f s) = view s := by
  induction L generalizing s with
  | nil => rfl
  | cons x L ih =>
    rw [List.foldl_cons, ih fun t y hy => h t y (List.mem_cons_of_mem _ hy)]
    exact h s x List.mem_cons_self

/-- A walk that comes to `a` once, where every other step leaves a view, leaves the view as the step at `a` does. -/
theorem foldl_once {α β : Type} (view : State → β) {f : State → α → State} {a : α} {L : List α} (hnodup : L.Nodup)
    (ha : a ∈ L) (hother : ∀ s x, x ∈ L → x ≠ a → view (f s x) = view s)
    (hstep : ∀ s t, view s = view t → view (f s a) = view (f t a)) (s : State) : view (L.foldl f s) = view (f s a) := by
  induction L generalizing s with
  | nil => exact absurd ha List.not_mem_nil
  | cons x L ih =>
    obtain ⟨hx, hL⟩ := List.nodup_cons.1 hnodup
    by_cases hxa : x = a
    case pos =>
      subst hxa
      exact foldl_leaves view (fun t y hy => hother t y (List.mem_cons_of_mem _ hy) fun h => hx (h ▸ hy)) _
    case neg =>
      have hmem : a ∈ L := (List.mem_cons.1 ha).resolve_left (Ne.symm hxa)
      rw [List.foldl_cons, ih hL hmem fun t y hy => hother t y (List.mem_cons_of_mem _ hy)]
      exact hstep _ _ (hother s x List.mem_cons_self hxa)

/-! ### Zeroing entries (R477) -/

/-- Zeroing `n` entries from `base` on. -/
theorem State.zeroRange_reg (base n : Nat) (s : State) (j : Nat) :
    ((List.range n).foldl (fun s i => s.setReg (base + i) 0) s).reg j = if base ≤ j ∧ j < base + n then 0 else s.reg j := by
  induction n with
  | zero => rw [if_neg (by omega)]; rfl
  | succ n ih =>
    rw [List.range_succ, List.foldl_append, List.foldl_cons, List.foldl_nil, State.setReg_reg, ih]
    repeat' split
    all_goals omega

/-- Whether a row of the dictionary holds an entry. -/
def Entry.holds (e : Entry) (j : Nat) : Bool := decide (e.idx * 256 + e.lo ≤ j ∧ j < e.idx * 256 + e.lo + (e.hi + 1 - e.lo))

theorem State.zeroEntry_holds (s : State) (e : Entry) (j : Nat) :
    (s.zeroEntry e).reg j = if e.holds j then 0 else s.reg j := by
  simp only [Entry.holds, decide_eq_true_eq]
  exact State.zeroRange_reg ..

theorem State.zeroEntries_reg (L : List Entry) (s : State) (j : Nat) :
    (L.foldl (fun s e => s.zeroEntry e) s).reg j = if L.any (Entry.holds · j) then 0 else s.reg j := by
  induction L generalizing s with
  | nil => rfl
  | cons e L ih =>
    rw [List.foldl_cons, ih, State.zeroEntry_holds, List.any_cons]
    cases e.holds j <;> simp

/-- The rows that a StatisticsClear of a value zeroes (R477). -/
def clearedEntries (v : Nat) : List Entry :=
  (if v = 0xFFFF then allEntries else entriesOf (v / 256)).filter fun e => e.clr == .stat || e.clr == .statCommit

theorem State.clearStats_reg (s : State) (v j : Nat) :
    (s.clearStats v).reg j = if (clearedEntries v).any (Entry.holds · j) then 0 else s.reg j := State.zeroEntries_reg ..

/-- The count of the clears is no statistic of any range. -/
theorem clearGeneration_stays : ∀ hi, hi < 24 → ((entriesOf hi).filter fun e => e.clr == .stat || e.clr == .statCommit).any
    (Entry.holds · K.clearGeneration) = false := by decide

theorem clearedEntries_clearGeneration {v : Nat} (hv : v = 0xFFFF ∨ v ≤ 0x1700) :
    (clearedEntries v).any (Entry.holds · K.clearGeneration) = false := by
  unfold clearedEntries
  split
  · decide
  · exact clearGeneration_stays _ (by omega)

theorem clearedEntries_framesDropped {v : Nat} (hv : v = 0xFFFF ∨ v = 0x1300) :
    (clearedEntries v).any (Entry.holds · (K.framesDropped 0)) = true := by
  obtain rfl | rfl := hv <;> decide

/-! ### CounterControl (R446, R448) -/

theorem State.cmdOk_answered (s : State) (sess k st : Nat) : ((s.cmdOk k).2.answer sess k st).cmdRead k = Status.ok :=
  State.cmdSet_cmdRead ..

/-- An action sent to the units, as its write leaves it: it is noted, and its entry reads IN_PROGRESS. -/
theorem State.sendAction_sent (s : State) (sess k st : Nat) :
    ((s.sendAction k).2.answer sess k st).perf = { s.perf with action := s.perf.action ++ [(k, s.tick)] } ∧
      ((s.sendAction k).2.answer sess k st).cmdRead k = Status.inProgress :=
  ⟨rfl, State.cmdSet_cmdRead ..⟩

theorem State.sendAction_answer_reg (s : State) (sess k st j : Nat) :
    ((s.sendAction k).2.answer sess k st).reg j = s.reg j := by
  rw [State.answer_reg, State.sendAction_reg]

theorem State.sendAction_answer_counter (s : State) (sess k st b i : Nat) :
    ((s.sendAction k).2.answer sess k st).counter b i = s.counter b i := rfl

theorem State.setCounter_counter (s : State) (b i : Nat) (c : Counter) (b' i' : Nat) :
    (s.setCounter b i c).counter b' i' = if 8 * b' + i' = 8 * b + i then c else s.counter b' i' := by
  have hset : (if c = {} then {} else c) = c := ite_eq_right_iff.2 Eq.symm
  simp only [State.counter, State.setCounter, SMap.get_set, hset]

theorem State.clearCounters_counter {b i : Nat} (hb : b < 4) (hi : i < 8) (s : State) : s.clearCounters.counter b i =
    { s.counter b i with value := s.reg (K.counterPreset (8 * b + i)), overCount := 0 } := by
  have hplace : (8 * b + i) / 8 = b ∧ (8 * b + i) % 8 = i := by omega
  obtain ⟨hdiv, hmod⟩ := hplace
  have honce := foldl_once (fun s => (s.counter b i, s.reg (K.counterPreset (8 * b + i))))
    (f := fun s n => s.setCounter (n / 8) (n % 8)
      { s.counter (n / 8) (n % 8) with value := s.reg (K.counterPreset n), overCount := 0 })
    (a := 8 * b + i) (List.nodup_range (n := 32)) (List.mem_range.2 (by omega))
    (fun s n _ hn => by rw [State.setCounter_counter, if_neg (by omega), State.setCounter_reg])
    (fun s t hview => by
      obtain ⟨hcounter, hpreset⟩ := Prod.mk.inj hview
      simp only [hdiv, hmod, State.setCounter_counter, if_true, State.setCounter_reg, hcounter, hpreset]) s
  refine (congrArg Prod.fst honce).trans ?_
  simp only [hdiv, hmod, State.setCounter_counter, if_true]

theorem State.clearCounters_action (s : State) : s.clearCounters.perf.action = s.perf.action :=
  foldl_view (fun s => s.perf.action) _ _ _ fun _ _ => rfl

theorem State.clearCounters_tick (s : State) : s.clearCounters.tick = s.tick :=
  foldl_view (fun s => s.tick) _ _ _ fun _ _ => rfl

theorem State.bankParts_reg (L : List Nat) (a : List Byte × State) (k : Nat) :
    (L.foldl (fun (a : List Byte × State) b => (a.1 ++ (a.2.bankPart b).1, (a.2.bankPart b).2)) a).2.reg k = a.2.reg k := by
  induction L generalizing a with
  | nil => rfl
  | cons b L ih => rw [List.foldl_cons, ih, (State.bankPart_changes ..).entries k (Entries.has_none k)]

theorem K.snapshotCount_width : counterWidth K.snapshotCount = 32 := by decide

theorem State.snapshot_counts (s : State) : s.snapshot.reg K.snapshotCount = (s.reg K.snapshotCount + 1) % 2 ^ 32 := by
  refine (State.setBlob_reg ..).trans ?_
  refine (State.bankParts_reg ..).trans ?_
  rw [State.bump_reg, if_pos rfl, K.snapshotCount_width]

/-! ### The shadow copies (R448) -/

/-- The cycle counter of a bank in its copy. -/
def State.shadowCycle (cyc0 cyc1 : Nat) (s : State) (b : Nat) : State :=
  s.setReg (K.cycleCount b) ((if b = 0 then cyc0 else if b = 1 then cyc1 else 2 * s.tick) % 2 ^ 64)

/-- A programmable counter in its copies. -/
def State.shadowCounter (b : Nat) (s : State) (i : Nat) : State :=
  (s.setReg (K.counterValue (8 * b + i)) (s.counter b i).value).setReg (K.counterOverflows (8 * b + i)) (s.counter b i).overCount

/-- The counters of a bank in their copies. -/
def State.shadowBank (s : State) (b : Nat) : State := (List.range 8).foldl (State.shadowCounter b) s

theorem State.refreshShadow_walks (s : State) (cyc0 cyc1 : Nat) : s.refreshShadow cyc0 cyc1 =
    s.banks.foldl State.shadowBank (s.banks.foldl (State.shadowCycle cyc0 cyc1) s) := by
  have hbanks : (s.banks.foldl (State.shadowCycle cyc0 cyc1) s).banks = s.banks :=
    foldl_view State.banks _ _ _ fun _ _ => rfl
  have hwalks : s.refreshShadow cyc0 cyc1 = (s.banks.foldl (State.shadowCycle cyc0 cyc1) s).banks.foldl State.shadowBank
      (s.banks.foldl (State.shadowCycle cyc0 cyc1) s) := rfl
  rw [hwalks, hbanks]

theorem State.banks_lt {s : State} {b : Nat} (hb : b ∈ s.banks) : b < 4 := by
  unfold State.banks at hb
  split at hb
  · revert b; decide
  · revert b; decide

theorem State.banks_nodup (s : State) : s.banks.Nodup := by
  unfold State.banks
  split <;> decide

theorem State.banks_first (s : State) {b : Nat} (hb : b < 3) : b ∈ s.banks := by
  unfold State.banks
  split
  · revert b; decide
  · revert b; decide

/-- What the walks over the counters read and write of one of them. -/
def State.shadowOf (b i : Nat) (s : State) : Perf × Nat × Nat :=
  (s.perf, s.reg (K.counterValue (8 * b + i)), s.reg (K.counterOverflows (8 * b + i)))

theorem State.shadowCounter_same (b i : Nat) (s : State) : (s.shadowCounter b i).shadowOf b i =
    (s.perf, (s.counter b i).value, (s.counter b i).overCount) := by
  have hne : K.counterValue (8 * b + i) ≠ K.counterOverflows (8 * b + i) :=
    K.ne_of_index (K.counterValue_index _) (K.counterOverflows_index _)
  simp only [State.shadowOf, State.shadowCounter, State.setReg_get, State.setReg_ne _ _ hne, State.setReg_same]

theorem State.shadowCounter_other {b i b' i' : Nat} (hb : b < 4) (hi : i < 8) (hb' : b' < 4) (hi' : i' < 8)
    (hne : 8 * b' + i' ≠ 8 * b + i) (s : State) : (s.shadowCounter b' i').shadowOf b i = s.shadowOf b i := by
  have hvalue : K.counterValue (8 * b + i) ≠ K.counterValue (8 * b' + i') := by unfold K.counterValue; omega
  have hover : K.counterOverflows (8 * b + i) ≠ K.counterOverflows (8 * b' + i') := by unfold K.counterOverflows; omega
  have hcross (m n : Nat) : K.counterValue m ≠ K.counterOverflows n :=
    K.ne_of_index (K.counterValue_index m) (K.counterOverflows_index n)
  simp only [State.shadowOf, State.shadowCounter, State.setReg_same, State.setReg_ne _ _ hvalue, State.setReg_ne _ _ hover,
    State.setReg_ne _ _ (hcross _ _), State.setReg_ne _ _ (hcross _ _).symm]

theorem State.counter_congr {s t : State} (h : s.perf = t.perf) (b i : Nat) : s.counter b i = t.counter b i := by
  rw [State.counter, h, State.counter]

theorem State.shadowBank_same {b i : Nat} (hb : b < 4) (hi : i < 8) (s : State) : (s.shadowBank b).shadowOf b i =
    (s.perf, (s.counter b i).value, (s.counter b i).overCount) :=
  (foldl_once (State.shadowOf b i) List.nodup_range (List.mem_range.2 hi)
    (fun s i' hi' hne => State.shadowCounter_other hb hi hb (List.mem_range.1 hi') (by omega) s)
    (fun s t hview => by
      obtain ⟨hperf, -⟩ := Prod.mk.inj hview
      rw [State.shadowCounter_same, State.shadowCounter_same, hperf, State.counter_congr hperf]) s).trans
    (State.shadowCounter_same b i s)

theorem State.shadowBank_other {b i b' : Nat} (hb : b < 4) (hi : i < 8) (hb' : b' < 4) (hne : b' ≠ b) (s : State) :
    (s.shadowBank b').shadowOf b i = s.shadowOf b i :=
  foldl_leaves (State.shadowOf b i) (fun t i' hi' => by
    have hplace := List.mem_range.1 hi'
    exact State.shadowCounter_other hb hi hb' hplace (by omega) t) s

theorem State.refreshShadow_copies {s : State} {b i : Nat} (hb : b ∈ s.banks) (hi : i < 8) (cyc0 cyc1 : Nat) :
    (s.refreshShadow cyc0 cyc1).shadowOf b i = (s.perf, (s.counter b i).value, (s.counter b i).overCount) := by
  have hperf : (s.banks.foldl (State.shadowCycle cyc0 cyc1) s).perf = s.perf := foldl_view State.perf _ _ _ fun _ _ => rfl
  rw [State.refreshShadow_walks]
  refine (foldl_once (State.shadowOf b i) s.banks_nodup hb
    (fun t b' hb' hne => State.shadowBank_other (State.banks_lt hb) hi (State.banks_lt hb') hne t)
    (fun t u hview => by
      obtain ⟨hperf, -⟩ := Prod.mk.inj hview
      rw [State.shadowBank_same (State.banks_lt hb) hi, State.shadowBank_same (State.banks_lt hb) hi, hperf,
        State.counter_congr hperf]) _).trans ?_
  rw [State.shadowBank_same (State.banks_lt hb) hi, hperf, State.counter_congr hperf]

theorem State.refreshShadow_cycles (s : State) (cyc0 cyc1 : Nat) {b : Nat} (hb : b < 3) :
    (s.refreshShadow cyc0 cyc1).reg (K.cycleCount b) =
      (if b = 0 then cyc0 else if b = 1 then cyc1 else 2 * s.tick) % 2 ^ 64 := by
  have hcounter (b' i : Nat) (t : State) : (t.shadowCounter b' i).reg (K.cycleCount b) = t.reg (K.cycleCount b) := by
    rw [State.shadowCounter, State.setReg_ne _ _ (K.ne_of_index (K.cycleCount_index b) (K.counterOverflows_index _)),
      State.setReg_ne _ _ (K.ne_of_index (K.cycleCount_index b) (K.counterValue_index _))]
  have hbank (t : State) (b' : Nat) : (t.shadowBank b').reg (K.cycleCount b) = t.reg (K.cycleCount b) :=
    foldl_view (State.reg · (K.cycleCount b)) _ _ _ fun t i => hcounter b' i t
  rw [State.refreshShadow_walks, foldl_view (State.reg · (K.cycleCount b)) _ _ _ hbank]
  have honce := foldl_once (fun s => (s.tick, s.reg (K.cycleCount b))) (f := State.shadowCycle cyc0 cyc1) s.banks_nodup
    (s.banks_first hb)
    (fun t b' hb' hne => by
      have := State.banks_lt hb'
      rw [State.shadowCycle, State.setReg_ne _ _ (by unfold K.cycleCount; omega)]
      rfl)
    (fun t u hview => by
      obtain ⟨htick, -⟩ := Prod.mk.inj hview
      simp only [State.shadowCycle, State.setReg_get, State.setReg_same, htick]) s
  exact (congrArg Prod.snd honce).trans (State.setReg_get ..)

theorem State.refreshShadow_perf (s : State) (cyc0 cyc1 : Nat) : (s.refreshShadow cyc0 cyc1).perf = s.perf :=
  (State.refreshShadow_changes s cyc0 cyc1).areas .perf rfl

/-! ### Bandwidth windows (R450) -/

/-- The figures of a port at the end of a window. -/
def State.windowPort (s : State) (p : Nat) : State :=
  (((s.setReg (K.portBytesIn p) (SMap.get 0 s.perf.bytesIn p)).setReg (K.portBytesOut p) (SMap.get 0 s.perf.bytesOut p)).peak
    (K.portPeakIn p) (SMap.get 0 s.perf.bytesIn p)).peak (K.portPeakOut p) (SMap.get 0 s.perf.bytesOut p)

/-- A new window begins. -/
def State.windowBegins (s : State) : State := { s with perf := { s.perf with bytesIn := [], bytesOut := [] } }

theorem State.windowBegins_reg (s : State) (k : Nat) : s.windowBegins.reg k = s.reg k := rfl

theorem State.windowEnd_publishes {s : State} (h : s.tick % (2 ^ s.reg K.bandwidthWindow * 250) = 0) :
    s.windowEnd = (portCodes.foldl State.windowPort s).windowBegins := by
  rw [State.windowEnd, if_neg (not_not_intro h)]
  generalize portCodes = codes
  rfl

theorem portCodes_nodup : portCodes.Nodup := List.nodup_range

theorem mem_portCodes {p : Nat} : p ∈ portCodes ↔ p < 0x82 := List.mem_range

/-- The figures of the ports lie in different tables. -/
theorem K.portTables_ne (p q : Nat) :
    K.portBytesIn p ≠ K.portBytesOut q ∧ K.portBytesIn p ≠ K.portPeakIn q ∧ K.portBytesIn p ≠ K.portPeakOut q ∧
    K.portBytesOut p ≠ K.portBytesIn q ∧ K.portBytesOut p ≠ K.portPeakIn q ∧ K.portBytesOut p ≠ K.portPeakOut q ∧
    K.portPeakIn p ≠ K.portBytesIn q ∧ K.portPeakIn p ≠ K.portBytesOut q ∧ K.portPeakIn p ≠ K.portPeakOut q := by
  have hin := K.portBytesIn_index
  have hout := K.portBytesOut_index
  have hpeak := K.portPeakIn_index
  have hpeakOut := K.portPeakOut_index
  exact ⟨K.ne_of_index (hin p) (hout q), K.ne_of_index (hin p) (hpeak q), K.ne_of_index (hin p) (hpeakOut q),
    K.ne_of_index (hout p) (hin q), K.ne_of_index (hout p) (hpeak q), K.ne_of_index (hout p) (hpeakOut q),
    K.ne_of_index (hpeak p) (hin q), K.ne_of_index (hpeak p) (hout q), K.ne_of_index (hpeak p) (hpeakOut q)⟩

/-- What the end of a window reads and writes of a port. -/
def State.windowOf (p : Nat) (s : State) : Perf × Nat × Nat × Nat :=
  (s.perf, s.reg (K.portBytesIn p), s.reg (K.portBytesOut p), s.reg (K.portPeakIn p))

theorem State.windowPort_perf (s : State) (p : Nat) : (s.windowPort p).perf = s.perf := by
  simp only [State.windowPort, State.peak_same, State.setReg_same]

theorem State.windowPort_reg (s : State) (p k : Nat) : (s.windowPort p).reg k =
    if k = K.portPeakOut p then max (s.reg k) (SMap.get 0 s.perf.bytesOut p)
    else if k = K.portPeakIn p then max (s.reg k) (SMap.get 0 s.perf.bytesIn p)
    else if k = K.portBytesOut p then SMap.get 0 s.perf.bytesOut p
    else if k = K.portBytesIn p then SMap.get 0 s.perf.bytesIn p else s.reg k := by
  have houtIn := K.ne_of_index (K.portPeakOut_index p) (K.portPeakIn_index p)
  have houtBytes := K.ne_of_index (K.portPeakOut_index p) (K.portBytesOut_index p)
  have houtBytesIn := K.ne_of_index (K.portPeakOut_index p) (K.portBytesIn_index p)
  have hinBytes := K.ne_of_index (K.portPeakIn_index p) (K.portBytesOut_index p)
  have hinBytesIn := K.ne_of_index (K.portPeakIn_index p) (K.portBytesIn_index p)
  simp only [State.windowPort, State.peak_reg, State.setReg_reg]
  split
  case isTrue hk => rw [hk]
  case isFalse =>
    split
    case isTrue hk => rw [hk]
    case isFalse => rfl

theorem State.windowPort_other {p p' : Nat} (hp : p < 0x82) (hp' : p' < 0x82) (hne : p' ≠ p) (s : State) :
    (s.windowPort p').windowOf p = s.windowOf p := by
  have hin : K.portBytesIn p ≠ K.portBytesIn p' := by unfold K.portBytesIn; omega
  have hout : K.portBytesOut p ≠ K.portBytesOut p' := by unfold K.portBytesOut; omega
  have hpeak : K.portPeakIn p ≠ K.portPeakIn p' := by unfold K.portPeakIn; omega
  simp only [State.windowOf, State.windowPort_perf, State.windowPort_reg, hin, hout, hpeak, if_false,
    K.portTables_ne p p']

theorem State.windowPort_same (p : Nat) (s : State) : (s.windowPort p).windowOf p =
    (s.perf, SMap.get 0 s.perf.bytesIn p, SMap.get 0 s.perf.bytesOut p,
      max (s.reg (K.portPeakIn p)) (SMap.get 0 s.perf.bytesIn p)) := by
  simp only [State.windowOf, State.windowPort_perf, State.windowPort_reg, if_true, if_false, K.portTables_ne p p]

/-- The walk of a window's end over the ports. -/
theorem State.windowPorts_figures {p : Nat} (hp : p < 0x82) (s : State) : (portCodes.foldl State.windowPort s).windowOf p =
    (s.perf, SMap.get 0 s.perf.bytesIn p, SMap.get 0 s.perf.bytesOut p,
      max (s.reg (K.portPeakIn p)) (SMap.get 0 s.perf.bytesIn p)) :=
  (foldl_once (State.windowOf p) portCodes_nodup (mem_portCodes.2 hp)
    (fun t p' hp' hne => State.windowPort_other hp (mem_portCodes.1 hp') hne t)
    (fun t u hview => by
      obtain ⟨hperf, -, -, hpeak⟩ := by simpa only [State.windowOf, Prod.mk.injEq] using hview
      rw [State.windowPort_same, State.windowPort_same, hperf, hpeak]) s).trans (State.windowPort_same p s)

theorem State.windowPorts_perf (s : State) : (portCodes.foldl State.windowPort s).perf = s.perf :=
  foldl_view State.perf _ _ _ State.windowPort_perf

/-- The greatest figures of a port cleared. -/
def State.clearPeak (s : State) (p : Nat) : State := (s.setReg (K.portPeakIn p) 0).setReg (K.portPeakOut p) 0

theorem State.clearPeaks_clears {p : Nat} (hp : p < 0x82) (s : State) :
    s.clearPeaks.reg (K.portPeakIn p) = 0 ∧ s.clearPeaks.reg (K.portPeakOut p) = 0 := by
  have hcross (m n : Nat) : K.portPeakIn m ≠ K.portPeakOut n := K.ne_of_index (K.portPeakIn_index m) (K.portPeakOut_index n)
  have hsame (t : State) : ((t.clearPeak p).reg (K.portPeakIn p), (t.clearPeak p).reg (K.portPeakOut p)) = (0, 0) := by
    rw [State.clearPeak, State.setReg_get, State.setReg_ne _ _ (hcross p p), State.setReg_get]
  have honce := foldl_once (fun s => (s.reg (K.portPeakIn p), s.reg (K.portPeakOut p))) (f := State.clearPeak) portCodes_nodup
    (mem_portCodes.2 hp)
    (fun t p' hp' hne => by
      have hin : K.portPeakIn p ≠ K.portPeakIn p' := by have := mem_portCodes.1 hp'; unfold K.portPeakIn; omega
      have hout : K.portPeakOut p ≠ K.portPeakOut p' := by have := mem_portCodes.1 hp'; unfold K.portPeakOut; omega
      simp only [State.clearPeak, State.setReg_ne _ _ (hcross _ _), State.setReg_ne _ _ (hcross _ _).symm,
        State.setReg_ne _ _ hin, State.setReg_ne _ _ hout])
    (fun t u _ => (hsame t).trans (hsame u).symm) s
  exact Prod.mk.inj (honce.trans (hsame s))

/-! ### StatisticsClear (R477) -/

theorem clearRangeOk_of {v : Nat} (hv : v = 0xFFFF ∨ (v % 256 = 0 ∧ 0x0200 ≤ v ∧ v ≤ 0x1700)) : clearRangeOk v = true := by
  simp only [clearRangeOk, Bool.or_eq_true, Bool.and_eq_true, beq_iff_eq, decide_eq_true_eq]
  tauto

theorem clearRangeOk_not {v : Nat} (hall : v ≠ 0xFFFF) (hrange : v % 256 ≠ 0 ∨ v < 0x0200 ∨ 0x1700 < v) :
    clearRangeOk v = false := by
  rw [← Bool.not_eq_true]
  simp only [clearRangeOk, Bool.or_eq_true, Bool.and_eq_true, beq_iff_eq, decide_eq_true_eq]
  omega

/-- The statistics of a range cleared, with what is noted of the clear. -/
def State.cleared (s : State) (v : Nat) : State :=
  ((((s.clearStats v).bump K.clearGeneration).setReg K.lastClearRange v).setReg K.lastClearPosition
    ((s.clearStats v).bump K.clearGeneration).pos).setReg K.lastClearTime ((s.clearStats v).bump K.clearGeneration).t64

theorem State.statisticsCmd_clears {v : Nat} (hv : clearRangeOk v = true) (s : State) :
    s.statisticsCmd v = (Status.ok, ((s.cleared v).sendAction K.statisticsClear).2) := by
  rw [State.statisticsCmd, hv, if_neg Bool.noConfusion]
  rfl

theorem K.clearGeneration_width : counterWidth K.clearGeneration = 32 := by decide

theorem State.cleared_perf (s : State) (v : Nat) : (s.cleared v).perf = s.perf := by
  simp only [State.cleared, State.setReg_same, State.bump_same]
  exact (State.clearStats_changes s v).areas .perf rfl

theorem State.cleared_clearGeneration {v : Nat} (hv : v = 0xFFFF ∨ (v % 256 = 0 ∧ 0x0200 ≤ v ∧ v ≤ 0x1700)) (s : State) :
    (s.cleared v).reg K.clearGeneration = (s.reg K.clearGeneration + 1) % 2 ^ 32 := by
  rw [State.cleared, State.setReg_ne _ _ (by decide), State.setReg_ne _ _ (by decide), State.setReg_ne _ _ (by decide),
    State.bump_reg, if_pos rfl, K.clearGeneration_width, State.clearStats_reg,
    clearedEntries_clearGeneration (hv.imp_right fun h => h.2.2), if_neg Bool.false_ne_true]

theorem State.cleared_lastClearRange (s : State) (v : Nat) : (s.cleared v).reg K.lastClearRange = v := by
  rw [State.cleared, State.setReg_ne _ _ (by decide), State.setReg_ne _ _ (by decide), State.setReg_get]

theorem State.cleared_lastClearPosition (s : State) (v : Nat) : (s.cleared v).reg K.lastClearPosition = s.pos := by
  have hbelt : ((s.clearStats v).bump K.clearGeneration).belt = s.belt := by
    simp only [State.bump_same]
    exact (State.clearStats_changes s v).areas .belt rfl
  rw [State.cleared, State.setReg_ne _ _ (by decide), State.setReg_get, State.pos, hbelt, State.pos]

theorem State.cleared_framesDropped {v : Nat} (hv : v = 0xFFFF ∨ v = 0x1300) (s : State) :
    (s.cleared v).reg (K.framesDropped 0) = 0 := by
  rw [State.cleared, State.setReg_ne _ _ (by decide), State.setReg_ne _ _ (by decide), State.setReg_ne _ _ (by decide),
    State.bump_reg, if_neg (by decide), State.clearStats_reg, clearedEntries_framesDropped hv, if_pos rfl]

theorem State.statisticsCmd_refuses {v : Nat} (hv : clearRangeOk v = false) (s : State) :
    s.statisticsCmd v = (Status.valueRange, s) := if_pos hv

end Sys2Proof.Machine

open Sys2Proof Sys2Proof.Machine

/-- Settles O49: a walk over a table leaves of each place what its own step leaves, and no statistic that a clear zeroes is the
count of the clears. -/
theorem countersAndClears : Obligations.CountersAndClears := by
  refine ⟨fun s sess hgate => ?start, fun s sess hgate => ?stop, fun s sess hgate => ?clear, fun s sess hgate => ?snapshot,
    fun s a b => ?shadow, fun s haligned => ?window, fun s sess hgate => ?peaks, fun s sess hgate => ?log,
    fun s sess v hgate hv => ?statistics, fun s sess v hgate hall hrange => ?refused⟩
  case start =>
    have hexec : exec (.counterStart sess) s =
      .next (((s.setRunning true).sendAction K.counterControl).2.answer sess K.counterControl Status.ok) :=
      State.runCmd_accepts hgate rfl
    obtain ⟨hperf, hread⟩ := State.sendAction_sent (s.setRunning true) sess K.counterControl Status.ok
    refine ⟨_, hexec, by rw [hperf]; rfl, ?_, by rw [hperf]; rfl, by rw [hperf]; rfl, hread,
      execCounterStart_changes sess s hexec⟩
    rw [State.sendAction_answer_reg]
    exact State.setReg_get ..
  case stop =>
    have hexec : exec (.counterStop sess) s =
      .next (((s.setRunning false).sendAction K.counterControl).2.answer sess K.counterControl Status.ok) :=
      State.runCmd_accepts hgate rfl
    obtain ⟨hperf, hread⟩ := State.sendAction_sent (s.setRunning false) sess K.counterControl Status.ok
    refine ⟨_, hexec, by rw [hperf]; rfl, ?_, by rw [hperf]; rfl, by rw [hperf]; rfl, hread,
      execCounterStop_changes sess s hexec⟩
    rw [State.sendAction_answer_reg]
    exact State.setReg_get ..
  case clear =>
    have hexec : exec (.counterClear sess) s =
      .next ((s.clearCounters.sendAction K.counterControl).2.answer sess K.counterControl Status.ok) :=
      State.runCmd_accepts hgate rfl
    obtain ⟨hperf, hread⟩ := State.sendAction_sent s.clearCounters sess K.counterControl Status.ok
    refine ⟨_, hexec, fun b i hb hi => ?_, ?_, hread, execCounterClear_changes sess s hexec⟩
    · rw [State.sendAction_answer_counter, State.clearCounters_counter hb hi]
    · rw [hperf, State.clearCounters_action, State.clearCounters_tick]
  case snapshot =>
    have hexec : exec (.counterSnapshot sess) s =
      .next ((s.snapshot.sendAction K.counterControl).2.answer sess K.counterControl Status.ok) :=
      State.runCmd_accepts hgate rfl
    obtain ⟨hperf, hread⟩ := State.sendAction_sent s.snapshot sess K.counterControl Status.ok
    refine ⟨_, hexec, ?_, ?_, ?_, hread, execCounterSnapshot_changes sess s hexec⟩
    · simp only [hperf, State.snapshot_same]
    · rw [State.sendAction_answer_reg, State.snapshot_counts]
    · simp only [hperf, State.snapshot_same]
  case shadow =>
    have hexec : exec (.shadowRefresh a b) s = .next (s.refreshShadow a b) := rfl
    refine ⟨_, hexec, State.refreshShadow_perf s a b, fun n i hn hi => ?_, ?_, ?_, ?_, State.refreshShadow_changes s a b⟩
    · exact Prod.mk.inj (Prod.mk.inj (State.refreshShadow_copies hn hi a b)).2
    · rw [State.refreshShadow_cycles s a b (by decide), if_pos rfl]
    · rw [State.refreshShadow_cycles s a b (by decide), if_neg (by decide), if_pos rfl]
    · rw [State.refreshShadow_cycles s a b (by decide), if_neg (by decide), if_neg (by decide)]
  case window =>
    have hexec : exec .bandwidthWindowEnd s = .next s.windowEnd := rfl
    have hchanges := execBandwidthWindowEnd_changes s hexec
    rw [State.windowEnd_publishes haligned] at hexec hchanges
    refine ⟨_, hexec, ?_, fun p hp => ?_, hchanges⟩
    · rw [State.windowBegins, State.windowPorts_perf]
    · obtain ⟨-, hin, hout, hpeak⟩ := by
        simpa only [State.windowOf, Prod.mk.injEq] using State.windowPorts_figures hp s
      simp only [State.windowBegins_reg, hin, hout, hpeak, and_self]
  case peaks =>
    have hexec : exec (.bandwidthClear sess) s =
      .next ((s.clearPeaks.cmdOk K.bandwidthClear).2.answer sess K.bandwidthClear Status.ok) :=
      State.runCmd_accepts hgate rfl
    refine ⟨_, hexec, fun p hp => ?_, State.cmdOk_answered .., execBandwidthClear_changes sess s hexec⟩
    simp only [State.answer_reg, State.cmdOk_reg, State.clearPeaks_clears hp s, and_self]
  case log =>
    have hexec : exec (.sampleLogClear sess) s =
      .next (((({ s with perf := { s.perf with log := [] } } : State).logEmptied 4).cmdOk K.sampleLogClear).2.answer sess
        K.sampleLogClear Status.ok) := State.runCmd_accepts hgate rfl
    exact ⟨_, hexec, rfl, State.cmdOk_answered .., execSampleLogClear_changes sess s hexec⟩
  case statistics =>
    have hexec : exec (.statisticsClear sess v) s =
      .next (((s.cleared v).sendAction K.statisticsClear).2.answer sess K.statisticsClear Status.ok) :=
      State.runCmd_accepts hgate (State.statisticsCmd_clears (clearRangeOk_of hv) s)
    obtain ⟨hperf, hread⟩ := State.sendAction_sent (s.cleared v) sess K.statisticsClear Status.ok
    refine ⟨_, hexec, ?_, ?_, ?_, hread, ?_, fun hframes => ?_, execStatisticsClear_changes sess v s hexec⟩
    · rw [State.sendAction_answer_reg, State.cleared_clearGeneration hv]
    · rw [State.sendAction_answer_reg, State.cleared_lastClearRange]
    · rw [State.sendAction_answer_reg, State.cleared_lastClearPosition]
    · rw [hperf, State.cleared_perf]
    · rw [State.sendAction_answer_reg, State.cleared_framesDropped hframes]
  case refused =>
    have hbody := State.statisticsCmd_refuses (clearRangeOk_not hall hrange) s
    exact State.runCmd_accepts hgate hbody
end

section
/-! PROOFS. The statement on start-up, readiness, the blob slots and attestation (ModuleStartsUpAndReports). -/

namespace Sys2Proof.Machine

/-! ### Steps 2 to 8 of a start-up (R457, R466) -/

theorem State.loadBlob_ready (s : State) (n : Nat) : (s.loadBlob n).boot.ready = s.boot.ready := by
  unfold State.loadBlob
  simp only []
  split
  · rfl
  · simp only [State.report_same]
    rfl

theorem State.loadBlobs_ready (s : State) : s.loadBlobs.boot.ready = s.boot.ready :=
  foldl_view (fun s => s.boot.ready) _ _ _ State.loadBlob_ready

/-- Steps 3 to 6: the blobs, the clock and the training of the memory links. -/
def State.prepared (s : State) : State := s.loadBlobs.chooseClock.noteTraining 270

theorem State.prepared_same (s : State) : s.prepared.supplies = s.supplies ∧ s.prepared.tick = s.tick ∧
    s.prepared.ctl = s.ctl ∧ s.prepared.belt = s.belt ∧ s.prepared.memory = s.memory := by
  have hclock := State.chooseClock_changes s.loadBlobs
  simp only [State.prepared, State.noteTraining_same]
  refine ⟨(hclock.areas .supplies rfl).trans ?_, (hclock.areas .tick rfl).trans ?_, (hclock.areas .ctl rfl).trans ?_,
    (hclock.areas .belt rfl).trans ?_, (hclock.areas .memory rfl).trans ?_⟩
  all_goals simp only [State.loadBlobs_same]

theorem State.prepared_ready (s : State) : s.prepared.boot.ready = s.boot.ready := by
  have hclock : s.loadBlobs.chooseClock.boot = s.loadBlobs.boot := (State.chooseClock_changes s.loadBlobs).areas .boot rfl
  simp only [State.prepared, State.noteTraining_same]
  rw [hclock, State.loadBlobs_ready]

theorem State.prepared_reg (s : State) {k : Nat} (hk : k ∈ [K.resetCause, K.resetFaultCode, K.bootCount]) :
    s.prepared.reg k = s.reg k := by
  have hout : (Entries.only [K.lastTrainingTime]).has k = false ∧
      (Entries.only [0x0317, K.computeEnergyPerOp, K.coreClock]).has k = false ∧
      (Entries.only [0x1205, 0x1402, 0x1703, K.recordsUnrouted, K.faultLogOverwritten, K.faultRecordsSuppressed]).has k =
        false := by
    revert k
    decide
  obtain ⟨htraining, hclock, hblobs⟩ := hout
  rw [State.prepared, State.noteTraining_reg _ _ _ htraining, (State.chooseClock_changes _).entries _ hclock,
    State.loadBlobs_reg _ _ hblobs]

/-- A new grid of the memory. -/
def State.gridRenewed (s : State) : State := { s with memory := { s.memory with newGrid := true } }

/-- A start-up at one of its steps. -/
def State.atStep (s : State) (n : Nat) : State := { s with boot := { s.boot with step := n } }

theorem State.atStep_reg (s : State) (n k : Nat) : (s.atStep n).reg k = s.reg k := rfl

/-- Steps 7 and 8, with no test that failed. -/
def State.booted (s : State) : State :=
  let s := s.gridRenewed.bootArrays
  let s := s.setReg K.selfTestFailures (min 65535 s.boot.failures)
  (s.setReg K.bootCount (min 65535 (s.reg K.bootCount + 1))).atStep 8

theorem State.booted_same (s : State) : s.booted.supplies = s.supplies ∧ s.booted.tick = s.tick ∧ s.booted.ctl = s.ctl ∧
    s.booted.belt = s.belt ∧ s.booted.memory = { s.memory with newGrid := true } ∧
    s.booted.boot = { s.boot with step := 8 } := by
  have harrays := State.bootArrays_changes s.gridRenewed
  have hboot : s.gridRenewed.bootArrays.boot = s.boot := harrays.areas .boot rfl
  simp only [State.booted, State.atStep, State.setReg_same]
  exact ⟨harrays.areas .supplies rfl, harrays.areas .tick rfl, harrays.areas .ctl rfl, harrays.areas .belt rfl,
    harrays.areas .memory rfl, congrArg (fun b : Boot => { b with step := 8 }) hboot⟩

theorem State.bootArrays_renewed_reg (s : State) (k : Nat) : s.gridRenewed.bootArrays.reg k = s.reg k :=
  (State.bootArrays_changes s.gridRenewed).entries k (Entries.has_none k)

theorem State.booted_bootCount (s : State) : s.booted.reg K.bootCount = min 65535 (s.reg K.bootCount + 1) := by
  simp only [State.booted]
  rw [State.atStep_reg, State.setReg_get, State.setReg_ne _ _ (by decide), State.bootArrays_renewed_reg]

theorem State.booted_reg (s : State) {k : Nat} (hcount : k ≠ K.bootCount) (hfailures : k ≠ K.selfTestFailures) :
    s.booted.reg k = s.reg k := by
  simp only [State.booted]
  rw [State.atStep_reg, State.setReg_ne _ _ hcount, State.setReg_ne _ _ hfailures, State.bootArrays_renewed_reg]

/-- A start-up after the module left its reset: time starts again, and the cause of the reset is noted. -/
def State.restarted (s : State) (cause : Nat) : State :=
  let u := s.enterReset 0
  let u := { u with
    tick := 0
    supplies := { u.supplies with
      inReset := false, resetDue := none
      logicLow := u.supplies.logicLow.map (· - s.tick), logicOk := u.supplies.logicOk.map (· - s.tick)
      fuseOpen := u.supplies.fuseOpen.map fun (p : Nat × Nat) => (p.1, p.2 - 1 - s.tick + 1) }
    boot := { u.boot with step := 2, stepAt := 0, startAt := 0, ready := false } }
  let rc := if cause = 3 then 3 else if cause = 4 then 4 else s.powerCause
  (u.setReg K.resetCause rc).setReg K.resetFaultCode (if rc = 4 then s.supplies.resetDue.getD 0 else 0)

theorem State.startUp_boots {s : State} {cause : Nat} (hok : s.startOk cause = true) (harray : s.mfg.arrayOk = true)
    (hcause : cause ≠ 3) : s.startUp cause [] = (s.restarted cause).prepared.booted := by
  rw [State.startUp, hok, if_neg Bool.noConfusion]
  extract_lets code rc _ _ _ reset _ _ _ cleared restarted _ _ prepared
  split
  case isTrue h => exact absurd (harray.symm.trans h) Bool.noConfusion
  case isFalse =>
    have hrestarted : restarted = s.restarted cause := rfl
    have hprepared : prepared = restarted.prepared := rfl
    rw [← hrestarted, ← hprepared]
    clear_value prepared
    rfl

/-- A start-up whose write-once array fails its check stops there (R457, step 2). -/
def State.halted (s : State) : State :=
  { (s.setReg K.bootState 2).setReg K.bootFailStep 2 with boot := { s.boot with halted := true } }

theorem State.startUp_halts {s : State} {cause : Nat} (hok : s.startOk cause = true) (harray : s.mfg.arrayOk = false) :
    s.startUp cause [] = (s.restarted cause).halted := by
  rw [State.startUp, hok, if_neg Bool.noConfusion]
  extract_lets code rc _ _ _ reset _ _ _ cleared restarted
  have hrestarted : restarted = s.restarted cause := rfl
  have hmfg : restarted.mfg.arrayOk = false := harray
  rw [hmfg, ← hrestarted]
  clear_value restarted
  rfl

theorem State.restarted_holds (s : State) (cause : Nat) : (s.restarted cause).supplies.inReset = false ∧
    (s.restarted cause).supplies.resetDue = none ∧ (s.restarted cause).tick = 0 ∧ (s.restarted cause).boot.ready = false ∧
    (s.restarted cause).ctl.serving = false ∧ (s.restarted cause).belt = {} ∧ (s.restarted cause).memory = {} :=
  ⟨rfl, rfl, rfl, rfl, rfl, rfl, rfl⟩

theorem State.powerCause_ne (s : State) : s.powerCause ≠ 4 := by
  unfold State.powerCause
  split
  · split <;> decide
  · decide

theorem State.restarted_causes (s : State) {cause : Nat} (hcause : cause ≠ 3) :
    (s.restarted cause).reg K.resetCause = (if cause = 4 then 4 else s.powerCause) ∧
      (s.restarted cause).reg K.resetFaultCode = if cause = 4 then s.supplies.resetDue.getD 0 else 0 := by
  have hrc : (if cause = 4 then 4 else s.powerCause) = 4 ↔ cause = 4 := by
    split <;> simp [*, s.powerCause_ne]
  refine ⟨(State.setReg_ne _ _ (by decide)).trans ((State.setReg_get ..).trans (if_neg hcause)),
    (State.setReg_get ..).trans ?_⟩
  simp only [if_neg hcause, hrc]

theorem State.restarted_bootCount (s : State) (cause : Nat) : (s.restarted cause).reg K.bootCount = s.reg K.bootCount :=
  (State.setReg_ne _ _ (by decide)).trans ((State.setReg_ne _ _ (by decide)).trans
    (State.enterReset_reg s (code := 0) (by decide)))

/-! ### Readiness (R466) -/

/-- Readiness until the BOOT record: the dictionary serves, and the alive output runs. -/
def State.readied (s : State) : State :=
  let u := (s.setReg K.bootState 1).setReg K.lastStartUpTime (min (2 ^ 32 - 1) ((s.tick - s.boot.startAt) * 4 / 1000000))
  ({ u with boot := { u.boot with step := 9, ready := true }, ctl := { u.ctl with serving := true } } : State).setAlive true true

/-- The BOOT record is held, and leaves where its queue is enabled. -/
def State.holdBoot (s : State) (r : Rec) : State := ({ s with host := { s.host with bootRec := some r } } : State).releaseBoot

theorem State.readiness_serves {s : State} (hreset : s.supplies.inReset = false) (hhalted : s.boot.halted = false)
    (hready : s.boot.ready = false) (hstep : s.boot.step = 8) (hlate : s.faults.lateFull = false) :
    ∃ r, s.readiness = s.readied.takeFree.2.holdBoot r := by
  have hdue : ¬ (s.supplies.inReset = true ∨ s.boot.halted = true ∨ s.boot.ready = true ∨ s.boot.step ≠ 8) := by
    simp [hreset, hhalted, hready, hstep]
  have hnoLate (r : Rec) : (s.readied.takeFree.2.holdBoot r).faults.lateFull = false := by
    simp only [State.holdBoot, State.releaseBoot_same, State.takeFree_same, State.readied, State.setAlive_same, State.setReg_same,
      hlate]
  rw [State.readiness, if_neg hdue]
  exact ⟨_, if_neg (Bool.eq_false_iff.1 (hnoLate _))⟩

theorem State.readied_holds (s : State) : s.readied.boot = { s.boot with step := 9, ready := true } ∧
    s.readied.ctl.serving = true ∧ s.readied.belt = s.belt ∧ s.readied.engine = s.engine ∧ s.readied.reg K.bootState = 1 ∧
    s.readied.reg K.lastStartUpTime = min (2 ^ 32 - 1) ((s.tick - s.boot.startAt) * 4 / 1000000) := by
  refine ⟨?_, ?_, ?_, ?_, ?_, ?_⟩
  · simp only [State.readied, State.setAlive_same, State.setReg_same]
  · simp only [State.readied, State.setAlive_same]
  · simp only [State.readied, State.setAlive_same, State.setReg_same]
  · simp only [State.readied, State.setAlive_same, State.setReg_same]
  · refine (State.setAlive_reg _ _ _ _ (by decide)).trans ?_
    exact (State.setReg_ne _ _ (by decide)).trans (State.setReg_get ..)
  · refine (State.setAlive_reg _ _ _ _ (by decide)).trans ?_
    exact State.setReg_get ..

theorem State.holdBoot_keeps (s : State) (r : Rec) : (s.holdBoot r).boot = s.boot ∧ (s.holdBoot r).ctl = s.ctl ∧
    (s.holdBoot r).belt = s.belt ∧ (s.holdBoot r).engine = s.engine := by
  simp only [State.holdBoot, State.releaseBoot_same, and_self]

theorem State.holdBoot_reg (s : State) (r : Rec) {k : Nat} (hk : (Entries.only [0x1205, K.recordsUnrouted]).has k = false) :
    (s.holdBoot r).reg k = s.reg k := State.releaseBoot_reg _ _ hk

/-! ### Blob slots (R463, R464) -/

theorem State.setBlobSlot_blobSlot (s : State) (n m : Nat) (x : BlobSlot) :
    (s.setBlobSlot n x).blobSlot m = if m = n then x else s.blobSlot m := by
  have hset : (if x = {} then {} else x) = x := ite_eq_right_iff.2 Eq.symm
  simp only [State.blobSlot, State.setBlobSlot, SMap.get_set, hset]

/-- An upload of `n` bytes to the slot that is named. -/
def State.uploadOpened (s : State) (n : Nat) : State :=
  ({ s with boot := { s.boot with upload := some { slot := s.reg K.blobUploadSlot, length := n } } } : State).setReg
    K.blobUploadOffset 0

theorem State.blobBegin_opens {s : State} {n : Nat} (hleast : 4792 ≤ n) (hmost : n ≤ 1048576) (hnone : s.boot.upload = none) :
    s.blobBegin n = (s.uploadOpened n).cmdOk K.blobUploadBegin := by
  rw [State.blobBegin, if_neg (by omega), hnone]
  rfl

/-- Bytes of an upload in their place. -/
def State.uploadLaid (s : State) (u : BlobUpload) (d : List Byte) : State :=
  ({ s with boot := { s.boot with upload := some { u with
      data := layBytes u.data (s.reg K.blobUploadOffset) d
      spans := addSpan u.spans (s.reg K.blobUploadOffset) (s.reg K.blobUploadOffset + d.length) } } } : State).setReg
    K.blobUploadOffset (s.reg K.blobUploadOffset + d.length)

theorem State.blobData_lays {s : State} {d : List Byte} {u : BlobUpload} (hsome : d ≠ []) (hmost : d.length ≤ 65536)
    (hupload : s.boot.upload = some u) (hfits : s.reg K.blobUploadOffset + d.length ≤ u.length) :
    s.blobData d = (Status.ok, s.uploadLaid u d) := by
  have hlength : ¬ (d = [] ∨ 65536 < d.length) := not_or.2 ⟨hsome, Nat.not_lt.2 hmost⟩
  rw [State.blobData, if_neg hlength, hupload]
  exact if_neg (Nat.not_lt.2 hfits)

/-- An upload that ends has left the module. -/
def State.uploadEnded (s : State) : State := { s with boot := { s.boot with upload := none } }

/-- A blob stored in its slot. -/
def State.blobStored (s : State) (n : Nat) (b : List Byte) : State :=
  s.uploadEnded.setBlobSlot n { s.blobSlot n with st := 3, status := 0, data := b }

section
variable {s : State} {n : Nat} {u : BlobUpload} (hn : n < 16) (hupload : s.boot.upload = some u) (hslot : u.slot = n)
  (hcovers : covers u.spans u.length = true)
include hn hupload hslot hcovers

theorem State.blobEnd_stores (hstatus : s.blobStatus u.data = none) :
    s.blobEnd n = (s.blobStored n u.data).cmdOk K.blobUploadEnd := by
  have hsame : s.uploadEnded.blobStatus u.data = none := hstatus
  rw [State.blobEnd, if_neg (Nat.not_le.2 hn), hupload]
  dsimp only
  rw [if_neg (not_not_intro hslot), hcovers, if_neg Bool.noConfusion, ← State.uploadEnded, hsame]
  rfl

theorem State.blobEnd_fails {st : Nat} (hstatus : s.blobStatus u.data = some st) :
    s.blobEnd n = (Status.ok, s.uploadEnded.cmdSet K.blobUploadEnd st) := by
  have hsame : s.uploadEnded.blobStatus u.data = some st := hstatus
  rw [State.blobEnd, if_neg (Nat.not_le.2 hn), hupload]
  dsimp only
  rw [if_neg (not_not_intro hslot), hcovers, if_neg Bool.noConfusion, ← State.uploadEnded, hsame]

end

/-- A slot without its blob; what is loaded runs on. -/
def State.slotCleared (s : State) (n : Nat) : State :=
  s.setBlobSlot n { s.blobSlot n with st := 0, status := 0, data := [] }

theorem State.blobClear_clears (s : State) {n : Nat} (hn : n < 16) :
    s.blobClear n = (s.slotCleared n).cmdOk K.blobSlotClear :=
  if_neg (Nat.not_le.2 hn)

/-! ### Attestation (R467, R468) -/

/-- A request for a report that runs. -/
def State.asked (s : State) : State :=
  { s.cmdSet K.attestRequest Status.inProgress with
    boot := { s.boot with attest := some (s.blob K.attestNonce, s.pos, s.t64, s.tick) } }

theorem State.attestCmd_asks {s : State} (hready : s.boot.ready = true) (hkey : s.deviceKeyOk = true) :
    s.attestCmd = (Status.ok, s.asked) := by
  rw [State.attestCmd, hready, hkey, if_neg Bool.noConfusion, if_neg Bool.noConfusion]
  rfl

/-- A report counts as it is made. -/
def State.reported (s : State) : State := { s.bump K.reportCounter with boot := { s.boot with attest := none } }

/-- A report with its trailer. -/
def State.signedReport (s : State) (nonce : List Byte) (pos time : Nat) : List Byte :=
  s.reported.reportBody nonce pos time ++ s.reported.reportTrailer (s.reported.reportBody nonce pos time)

theorem State.attestReady_reports {s : State} {nonce : List Byte} {pos time at0 : Nat}
    (hattest : s.boot.attest = some (nonce, pos, time, at0)) : s.attestReady =
    (s.reported.setBlob K.attestReport (s.signedReport nonce pos time)).cmdSet K.attestRequest Status.ok := by
  rw [State.attestReady, hattest]
  rfl

theorem State.reportBody_congr {s t : State} (hslots : t.boot.slots = s.boot.slots) (hctx : ∀ c, t.ctx c = s.ctx c)
    (hreg : ∀ k, t.reg k = s.reg k) (hserial : t.blob K.serialNumber = s.blob K.serialNumber)
    (hdigest : ∀ n, t.blob (K.planSlotDigest n) = s.blob (K.planSlotDigest n)) (nonce : List Byte) (pos time : Nat) :
    t.reportBody nonce pos time = s.reportBody nonce pos time := by
  delta State.reportBody
  simp only [hslots, hctx, hreg, hserial, hdigest]

theorem State.cmdSet_blob (s : State) (k v j : Nat) : (s.cmdSet k v).blob j = s.blob j := rfl

theorem State.setBlob_ne (s : State) {j k : Nat} (v : List Byte) (h : j ≠ k) : (s.setBlob k v).blob j = s.blob j :=
  SMap.get_set_ne _ _ _ _ h

/-- The report of a state reads neither a report nor the status of a command. -/
theorem State.reportBody_stored (s : State) (b nonce : List Byte) (pos time : Nat) :
    ((s.setBlob K.attestReport b).cmdSet K.attestRequest Status.ok).reportBody nonce pos time = s.reportBody nonce pos time :=
  State.reportBody_congr (s := s) (t := (s.setBlob K.attestReport b).cmdSet K.attestRequest Status.ok) rfl (fun _ => rfl)
    (fun k => (State.cmdSet_reg ..).trans (State.setBlob_reg ..))
    (State.setBlob_ne s b (by decide))
    (fun n => State.setBlob_ne s b (K.ne_of_index (K.planSlotDigest_index n) (b := 0x1607) (by decide))) nonce pos time

theorem K.reportCounter_width : counterWidth K.reportCounter = 32 := by decide

end Sys2Proof.Machine

open Sys2Proof Sys2Proof.Machine

/-- Settles O50: each clause reads one operation of the start-up, the blob slots or the reports in its due case. -/
theorem moduleStartsUpAndReports : Obligations.ModuleStartsUpAndReports := by
  refine ⟨fun s cause hok harray hcause => ?startUp, fun s cause hok harray => ?halt,
    fun s hreset hhalted hready hstep hlate => ?readiness, fun s sess n hgate hleast hmost hnone => ?begins,
    fun s sess d u hgate hsome hmost hupload hfits => ?data, fun s sess n u hgate hn hupload hslot hcovers => ?ends,
    fun s sess n hgate hn => ?clear, fun s sess hgate hready hkey => ?request, fun s nonce pos time at0 hattest => ?report⟩
  case startUp =>
    have hexec : exec (.startUp cause []) s = .next (s.startUp cause []) := rfl
    have hchanges := execStartUp_changes cause [] s hexec
    rw [State.startUp_boots hok harray hcause] at hexec hchanges
    obtain ⟨hreset, hdue, htick, hready, hserving, hbelt, hmemory⟩ := s.restarted_holds cause
    obtain ⟨hcauseReg, hcodeReg⟩ := s.restarted_causes hcause
    obtain ⟨psupplies, ptick, pctl, pbelt, pmemory⟩ := (s.restarted cause).prepared_same
    obtain ⟨bsupplies, btick, bctl, bbelt, bmemory, bboot⟩ := (s.restarted cause).prepared.booted_same
    refine ⟨_, hexec, ?_, ?_, ?_, ?_, ?_, ?_, ?_, ?_, ?_, ?_, ?_, hchanges⟩
    · rw [bsupplies, psupplies, hreset]
    · rw [bsupplies, psupplies, hdue]
    · rw [btick, ptick, htick]
    · rw [bboot]
    · rw [bboot]
      exact (State.prepared_ready _).trans hready
    · rw [bctl, pctl, hserving]
    · rw [State.booted_reg _ (by decide) (by decide), State.prepared_reg _ (by decide), hcauseReg]
    · rw [State.booted_reg _ (by decide) (by decide), State.prepared_reg _ (by decide), hcodeReg]
    · rw [State.booted_bootCount, State.prepared_reg _ (by decide), State.restarted_bootCount]
    · rw [bbelt, pbelt, hbelt]
    · rw [bmemory, pmemory, hmemory]
  case halt =>
    have hexec : exec (.startUp cause []) s = .next (s.startUp cause []) := rfl
    have hchanges := execStartUp_changes cause [] s hexec
    rw [State.startUp_halts hok harray] at hexec hchanges
    exact ⟨_, hexec, rfl, (State.setReg_ne _ _ (by decide)).trans (State.setReg_get ..), State.setReg_get .., rfl, hchanges⟩
  case readiness =>
    have hexec : exec .readiness s = .next s.readiness := rfl
    have hchanges := execReadiness_changes s hexec
    obtain ⟨r, hserves⟩ := State.readiness_serves hreset hhalted hready hstep hlate
    rw [hserves] at hexec hchanges
    obtain ⟨hboot, hctl, hbelt, hengine⟩ := s.readied.takeFree.2.holdBoot_keeps r
    simp only [State.takeFree_same] at hboot hctl hbelt hengine
    obtain ⟨rboot, rserving, rbelt, rengine, rstate, rtime⟩ := s.readied_holds
    refine ⟨_, hexec, ?_, ?_, ?_, ?_, ?_, ?_, ?_, hchanges⟩
    · rw [hboot, rboot]
    · rw [hboot, rboot]
    · rw [hctl, rserving]
    · rw [State.holdBoot_reg _ _ (by decide), State.takeFree_reg, rstate]
    · rw [State.holdBoot_reg _ _ (by decide), State.takeFree_reg, rtime]
    · rw [hbelt, rbelt]
    · rw [hengine, rengine]
  case begins =>
    have hexec : exec (.blobUploadBegin sess n) s =
      .next (((s.uploadOpened n).cmdOk K.blobUploadBegin).2.answer sess K.blobUploadBegin Status.ok) :=
      State.runCmd_accepts hgate (State.blobBegin_opens hleast hmost hnone)
    exact ⟨_, hexec, rfl, State.setReg_get .., State.cmdOk_answered .., execBlobUploadBegin_changes sess n s hexec⟩
  case data =>
    have hexec : exec (.blobUploadData sess d) s = .next ((s.uploadLaid u d).answer sess K.blobUploadData Status.ok) :=
      State.runCmd_accepts hgate (State.blobData_lays hsome hmost hupload hfits)
    exact ⟨_, hexec, rfl, State.setReg_get .., execBlobUploadData_changes sess d s hexec⟩
  case ends =>
    cases hstatus : s.blobStatus u.data with
    | none =>
      have hexec : exec (.blobUploadEnd sess n) s =
        .next (((s.blobStored n u.data).cmdOk K.blobUploadEnd).2.answer sess K.blobUploadEnd Status.ok) :=
        State.runCmd_accepts hgate (State.blobEnd_stores hn hupload hslot hcovers hstatus)
      exact ⟨_, hexec, rfl, fun _ => ⟨(State.setBlobSlot_blobSlot ..).trans (if_pos rfl), State.cmdOk_answered ..⟩,
        fun e he => (nomatch he), execBlobUploadEnd_changes sess n s hexec⟩
    | some st =>
      have hexec : exec (.blobUploadEnd sess n) s =
        .next ((s.uploadEnded.cmdSet K.blobUploadEnd st).answer sess K.blobUploadEnd Status.ok) :=
        State.runCmd_accepts hgate (State.blobEnd_fails hn hupload hslot hcovers hstatus)
      refine ⟨_, hexec, rfl, fun he => (nomatch he), fun e he => ⟨rfl, ?_⟩, execBlobUploadEnd_changes sess n s hexec⟩
      exact (State.cmdSet_cmdRead ..).trans (Option.some.inj he)
  case clear =>
    have hexec : exec (.blobSlotClear sess n) s =
      .next (((s.slotCleared n).cmdOk K.blobSlotClear).2.answer sess K.blobSlotClear Status.ok) :=
      State.runCmd_accepts hgate (s.blobClear_clears hn)
    refine ⟨_, hexec, (State.setBlobSlot_blobSlot ..).trans (if_pos rfl),
      fun m hm => (State.setBlobSlot_blobSlot ..).trans (if_neg hm), State.cmdOk_answered ..,
      execBlobSlotClear_changes sess n s hexec⟩
  case request =>
    have hexec : exec (.attestRequest sess) s = .next (s.asked.answer sess K.attestRequest Status.ok) :=
      State.runCmd_accepts hgate (State.attestCmd_asks hready hkey)
    exact ⟨_, hexec, rfl, State.cmdSet_cmdRead .., execAttestRequest_changes sess s hexec⟩
  case report =>
    have hexec : exec .attestReportReady s = .next s.attestReady := rfl
    have hchanges := execAttestReportReady_changes s hexec
    rw [State.attestReady_reports hattest] at hexec hchanges
    refine ⟨_, hexec, rfl, ?_, State.cmdSet_cmdRead .., ?_, hchanges⟩
    · rw [State.cmdSet_reg, State.setBlob_reg]
      refine (State.bump_reg ..).trans ?_
      rw [if_pos rfl, K.reportCounter_width]
    · rw [State.reportBody_stored, State.cmdSet_blob, State.setBlob_get, State.signedReport, List.take_left]
end

section
/-! PROOFS. The statement on what the messages of PTP measure (PtpExchangesAreMeasured). -/

namespace Sys2Proof.Machine

/-! ### The parts of the network (R390 to R399) -/

theorem State.domain_congr {s t : State} (h : t.net.dom = s.net.dom) (d : Nat) : t.domain d = s.domain d := by
  rw [State.domain, h, State.domain]

theorem State.setDomain_domain_same (s : State) (d : Nat) (x : Domain) : (s.setDomain d x).domain d = x :=
  (State.setDomain_domain ..).trans (if_pos rfl)

/-- Following a domain only forms a word. -/
theorem State.followDomain_words (s : State) (d : Nat) :
    ∃ w, (s.followDomain d).net = { s.net with crossing := s.net.crossing ++ [w] } := by
  unfold State.followDomain
  split <;> exact ⟨_, rfl⟩

theorem State.followDomain_dom (s : State) (d : Nat) : (s.followDomain d).net.dom = s.net.dom := by
  obtain ⟨w, hnet⟩ := s.followDomain_words d
  rw [hnet]

theorem State.timeRec_net (s : State) (cause : Nat) (delta : Int) : (s.timeRec cause delta).net = s.net :=
  (State.timeRec_changes ..).areas .net rfl

theorem State.switchTo_dom (s : State) (d cause : Nat) : (s.switchTo d cause).net.dom = s.net.dom := by
  unfold State.switchTo
  simp only [State.timeRec_net]
  split
  · simp only [State.followDomain_dom, State.bump_same]
  · split <;> simp only [State.followDomain_dom, State.bump_same]

/-- The choice of the timescale leaves the domains. -/
theorem State.chooseTime_dom (s : State) : s.chooseTime.net.dom = s.net.dom := by
  unfold State.chooseTime
  simp only []
  repeat' split
  all_goals simp only [State.timeRec_net, State.followDomain_dom, State.switchTo_dom, State.bump_same, State.takeFree_same]

theorem State.chooseTime_domain (s : State) (d : Nat) : s.chooseTime.domain d = s.domain d :=
  State.domain_congr s.chooseTime_dom d

/-! ### A PTP frame that its port carries (R390) -/

/-- The frame of a PTP message has been accepted. -/
def State.arrived (s : State) (p : Nat) : State := s.takeFree.2.frameIn p (64 + s.takeFree.1 % 1459)

section
variable (s : State) (p : Nat)

theorem State.onPtp_carried {s : State} {p transport : Nat} (hp : p < 2) (hon : s.ethOn p = true)
    (hcarried : s.ptpCarried p transport = true) (f : State → State) : s.onPtp p transport f = .next (f (s.arrived p)) :=
  (State.onEth_up hp hon _).trans (by rw [if_pos hcarried]; rfl)

theorem State.onPtp_dropped {s : State} {p transport : Nat} (hp : p < 2) (hon : s.ethOn p = true)
    (hnot : ¬ s.ptpCarried p transport = true) (f : State → State) : s.onPtp p transport f = .next (s.frameDrop p) :=
  (State.onEth_up hp hon _).trans (by rw [if_neg hnot])

theorem State.arrived_same : (s.arrived p).net = s.net ∧ (s.arrived p).tick = s.tick ∧ (s.arrived p).out = s.out := by
  simp only [State.arrived, State.frameIn, State.portBytes_same, State.bump_same, State.takeFree_same, and_self]

theorem State.arrived_reg {k a : Nat} (hk : k / 256 = a) (ha : a ≠ 0x1306 := by decide) : (s.arrived p).reg k = s.reg k := by
  refine (State.portBytes_reg ..).trans ((State.bump_reg ..).trans ?_)
  rw [if_neg (K.ne_of_index hk (K.framesReceived_index p) ha), State.takeFree_reg]

theorem State.arrived_received {s : State} {p : Nat} (hp : p < 2) :
    (s.arrived p).reg (K.framesReceived p) = (s.reg (K.framesReceived p) + 1) % 2 ^ 64 := by
  rw [State.arrived, State.frameIn_received hp, State.takeFree_reg]

theorem State.arrived_domain (d : Nat) : (s.arrived p).domain d = s.domain d :=
  State.domain_congr (congrArg Net.dom (s.arrived_same p).1) d

theorem State.arrived_ethPort (e : Nat) : (s.arrived p).ethPort e = s.ethPort e := State.ethPort_congr (s.arrived_same p).1 e

theorem State.arrived_enabled (d : Nat) : (s.arrived p).flag (K.ptpDomainEnable d) = s.flag (K.ptpDomainEnable d) := by
  rw [State.flag, s.arrived_reg p (K.ptpDomainEnable_index d), State.flag]

theorem State.arrived_localTime : (s.arrived p).localTime = s.localTime := by
  rw [State.localTime, (s.arrived_same p).2.1, State.localTime]

theorem State.domainsFrom_arrived (m : PtpMsg) : (s.arrived p).domainsFrom m = s.domainsFrom m := by
  simp only [State.domainsFrom, s.arrived_enabled p, s.arrived_reg p (K.ptpDomainNumber_index _), s.arrived_domain p]

theorem State.rxStamp_arrived (m : PtpMsg) : (s.arrived p).rxStamp m = s.rxStamp m := by
  simp only [State.rxStamp, State.sreg, s.arrived_reg p (K.ingressLatency_index _)]

theorem State.txStamp_arrived (e : Nat) : (s.arrived p).txStamp e = s.txStamp e := by
  simp only [State.txStamp, State.sreg, s.arrived_localTime p, s.arrived_reg p (K.egressLatency_index _)]

theorem State.answersPd_arrived (m : PtpMsg) : (s.arrived p).answersPd m = s.answersPd m := by
  simp only [State.answersPd, s.arrived_reg p (K.delayMechanism_index _), s.arrived_ethPort p,
    s.arrived_reg p (k := K.clockIdentity) rfl]

end

/-! ### A completed Sync (R397, R398) -/

/-- The servo gives a domain a rate within 200 ppm. -/
theorem State.servo_domain (s : State) (d : Nat) : ∃ rate : Int, -858993 ≤ rate ∧ rate ≤ 858993 ∧
    (s.servo d).domain d = { s.domain d with
      corr := (s.domain d).corr.carry s.localTime rate, rates := (rate :: (s.domain d).rates).take 64 } := by
  refine ⟨((s.takeFree.1 % 1717987 : Nat) : Int) - 858993, by omega, by omega, ?_⟩
  unfold State.servo
  simp only []
  split
  · rw [State.domain_congr (State.followDomain_dom ..), State.setDomain_domain_same]
    rfl
  · rw [State.setDomain_domain_same]
    rfl

theorem State.servo_reg (s : State) (d k : Nat) : (s.servo d).reg k = s.reg k :=
  (State.servo_changes s d).entries k (Entries.has_none k)

/-- What a completed Sync whose offset is small leaves in a locked domain. -/
structure State.Measured (s t : State) (d : Nat) (off : Int) : Prop where
  offset : t.reg (K.domainOffset d) = unsigned 64 off
  locked : (t.domain d).st = .locked
  bad : (t.domain d).bad = 0
  big : (t.domain d).big = 0
  lastSync : (t.domain d).lastSync = (s.domain d).lastSync
  waitFollow : (t.domain d).waitFollow = (s.domain d).waitFollow
  slowest : -858993 ≤ (t.domain d).corr.rate
  fastest : (t.domain d).corr.rate ≤ 858993

/-- The counts of a domain after a Sync whose offset is small. -/
def Domain.near (x : Domain) : Domain := { x with big := 0, good := min 16 (x.good + 1), bad := 0, stepped := true }

theorem K.domainOffset_ne_meanPathDelay (d : Nat) : K.domainMeanPathDelay d ≠ K.domainOffset d := by
  unfold K.domainMeanPathDelay K.domainOffset
  omega

section
variable {s : State} {d p : Nat} {off : Int} (hmech : s.reg (K.delayMechanism p) = 0) (hoff : s.offsetOf d p = off)
  (hst : (s.domain d).st = .locked) (hnear : off.natAbs < s.reg K.lockThreshold) (hclose : off.natAbs < s.reg K.stepThreshold)
include hmech hoff hst hnear hclose

theorem State.syncDone_near : s.syncDone d p =
    (((s.setReg (K.domainOffset d) (unsigned 64 off)).setDomain d (s.domain d).near).servo d).chooseTime := by
  have hlock : (s.setReg (K.domainOffset d) (unsigned 64 off)).reg K.lockThreshold = s.reg K.lockThreshold :=
    State.setReg_ne _ _ (K.ne_of_index rfl (K.domainOffset_index d))
  have hstep : (s.setReg (K.domainOffset d) (unsigned 64 off)).reg K.stepThreshold = s.reg K.stepThreshold :=
    State.setReg_ne _ _ (K.ne_of_index rfl (K.domainOffset_index d))
  have hdomain : (s.setReg (K.domainOffset d) (unsigned 64 off)).domain d = s.domain d := rfl
  have hserved : ((((s.setReg (K.domainOffset d) (unsigned 64 off)).setDomain d (s.domain d).near).servo d).domain d).st =
      .locked := by
    obtain ⟨rate, -, -, hservo⟩ := State.servo_domain ((s.setReg (K.domainOffset d) (unsigned 64 off)).setDomain d
      (s.domain d).near) d
    rw [hservo, State.setDomain_domain_same]
    exact hst
  have hnotFar : decide (s.reg K.stepThreshold ≤ off.natAbs) = false := decide_eq_false (Nat.not_le.2 hclose)
  have hisNear : decide (off.natAbs < s.reg K.lockThreshold) = true := decide_eq_true hnear
  have hnotE2e : ¬ s.reg (K.delayMechanism p) = 1 := by rw [hmech]; decide
  have hnoStep : ¬ ((s.domain d).st = .acquiring ∧ (!(s.domain d).stepped && (!(s.domain d).noStep || false)) = true ∨
      4 ≤ 0) := by
    rw [hst]
    simp
  unfold State.syncDone
  simp only [if_neg hnotE2e, hoff, hlock, hstep, hdomain, hnotFar, hisNear, if_true, Bool.false_eq_true, if_false, if_neg hnoStep]
  exact (if_neg fun h => absurd (hserved.symm.trans h.1) (by decide)).trans (if_neg fun h => absurd h.2 (by decide))

theorem State.syncDone_measures : s.Measured (s.syncDone d p) d off := by
  obtain ⟨rate, hslow, hfast, hservo⟩ := State.servo_domain ((s.setReg (K.domainOffset d) (unsigned 64 off)).setDomain d
    (s.domain d).near) d
  rw [State.setDomain_domain_same] at hservo
  have hdomain : (s.syncDone d p).domain d = _ :=
    (congrArg (State.domain · d) (State.syncDone_near hmech hoff hst hnear hclose)).trans
      ((State.chooseTime_domain ..).trans hservo)
  have hreg : (s.syncDone d p).reg (K.domainOffset d) = unsigned 64 off := by
    rw [State.syncDone_near hmech hoff hst hnear hclose,
      State.chooseTime_reg _ _ (Entries.has_index_false (K.domainOffset_index d) (by decide)), State.servo_reg,
      State.setDomain_reg, State.setReg_get]
  exact ⟨hreg, by rw [hdomain]; exact hst, by rw [hdomain]; rfl, by rw [hdomain]; rfl, by rw [hdomain]; rfl,
    by rw [hdomain]; rfl, by rw [hdomain]; exact hslow, by rw [hdomain]; exact hfast⟩

end

/-! ### Sync and Follow_Up (R396, R397) -/

/-- The stamps that a Sync leaves in its domain. -/
def Domain.synced (x : Domain) (tick : Nat) (m : PtpMsg) (t2 : Int) : Domain :=
  { x with lastSync := tick, syncSeq := m.seq, cs := m.corr, t1 := m.origin, t2, waitFollow := m.twoStep }

/-- A Sync of a domain that is not in HOLDOVER is noted. -/
def State.synced (s : State) (d : Nat) (m : PtpMsg) : State :=
  s.setDomain d ((s.domain d).synced s.tick m ((s.domain d).corr.time (s.rxStamp m)))

theorem State.takeSync_notes {s : State} {d : Nat} (m : PtpMsg) (hst : (s.domain d).st ≠ .holdover) :
    s.takeSync d m = if m.twoStep then s.synced d m else (s.synced d m).syncDone d m.eth := by
  have hback : ((s.domain d).st == .holdover) = false := beq_false_of_ne hst
  simp only [State.takeSync, hback, Bool.false_eq_true, if_false, Bool.or_false, Bool.not_false, Bool.and_true]
  rfl

/-- The Follow_Up of a Sync is noted. -/
def State.followed (s : State) (d : Nat) (m : PtpMsg) : State :=
  s.setDomain d { s.domain d with waitFollow := false, t1 := m.origin, cs := (s.domain d).cs + m.corr }

theorem State.takeFollow_follows (s : State) (d : Nat) (m : PtpMsg) :
    s.takeFollow d m = (s.followed d m).syncDone d m.eth := rfl

theorem State.arrived_sreg (s : State) (p w : Nat) {k a : Nat} (hk : k / 256 = a) (ha : a ≠ 0x1306 := by decide) :
    (s.arrived p).sreg w k = s.sreg w k := by
  rw [State.sreg, s.arrived_reg p hk ha, State.sreg]

/-- The offset of a domain as its new stamps give it, under E2E, at the arrival of a message. -/
theorem State.offsetOf_arrived {s : State} {e : Nat} (hmech : s.reg (K.delayMechanism e) = 0) (d : Nat) (x : Domain) :
    ((s.arrived e).setDomain d x).offsetOf d e =
      x.t2 - x.t1 - x.cs - s.sreg 32 (K.domainMeanPathDelay d) - s.sreg 32 (K.portDelayAsymmetry e) := by
  have hmech' : ¬ ((s.arrived e).setDomain d x).reg (K.delayMechanism e) = 1 := by
    rw [State.setDomain_reg, s.arrived_reg e (K.delayMechanism_index e), hmech]
    decide
  have hsreg (k : Nat) : ((s.arrived e).setDomain d x).sreg 32 k = (s.arrived e).sreg 32 k := by
    rw [State.sreg, State.setDomain_reg, State.sreg]
  rw [State.offsetOf, if_neg hmech', State.setDomain_domain_same, hsreg, hsreg,
    s.arrived_sreg e 32 (K.domainMeanPathDelay_index d), s.arrived_sreg e 32 (K.portDelayAsymmetry_index e)]

/-- A Sync that new stamps complete under E2E, with a small offset. -/
theorem State.syncDone_arrived {s : State} {e d : Nat} {x : Domain} {off : Int} (hmech : s.reg (K.delayMechanism e) = 0)
    (hoff : off = x.t2 - x.t1 - x.cs - s.sreg 32 (K.domainMeanPathDelay d) - s.sreg 32 (K.portDelayAsymmetry e))
    (hst : x.st = .locked) (hnear : off.natAbs < s.reg K.lockThreshold) (hclose : off.natAbs < s.reg K.stepThreshold) :
    ((s.arrived e).setDomain d x).Measured (((s.arrived e).setDomain d x).syncDone d e) d off := by
  apply State.syncDone_measures
  · rw [State.setDomain_reg, s.arrived_reg e (K.delayMechanism_index e), hmech]
  · rw [State.offsetOf_arrived hmech, hoff]
  · rw [State.setDomain_domain_same, hst]
  · rwa [State.setDomain_reg, s.arrived_reg e (k := K.lockThreshold) rfl]
  · rwa [State.setDomain_reg, s.arrived_reg e (k := K.stepThreshold) rfl]

section
variable {s : State} {m : PtpMsg} {d : Nat} (he : m.eth < 2) (hon : s.ethOn m.eth = true)
  (hcarried : s.ptpCarried m.eth m.transport = true) (hfrom : s.domainsFrom m = [d])
include he hon hcarried hfrom

theorem exec_sync_chosen : exec (.sync m) s = .next ((s.arrived m.eth).takeSync d m) := by
  show execSync m s = _
  rw [execSync, State.onPtp_carried he hon hcarried, State.domainsFrom_arrived, hfrom]
  rfl

theorem exec_followUp_chosen (hwait : (s.domain d).waitFollow = true) (hseq : (s.domain d).syncSeq = m.seq) :
    exec (.followUp m) s = .next (((s.arrived m.eth).followed d m).syncDone d m.eth) := by
  show execFollowUp m s = _
  rw [execFollowUp, State.onPtp_carried he hon hcarried]
  have hwaiting : (s.domainsFrom m).filter (fun d => (s.domain d).waitFollow && (s.domain d).syncSeq == m.seq) = [d] := by
    rw [hfrom, List.filter_cons_of_pos (by simp [hwait, hseq]), List.filter_nil]
  simp only [State.domainsFrom_arrived, State.arrived_domain, hwaiting]
  rw [List.foldl_cons, List.foldl_nil, State.takeFollow_follows]

theorem exec_followUp_ignored (hwait : (s.domain d).waitFollow = false) :
    exec (.followUp m) s = .next ((s.arrived m.eth).ptpIgnored m.eth) := by
  show execFollowUp m s = _
  rw [execFollowUp, State.onPtp_carried he hon hcarried]
  have hwaiting : (s.domainsFrom m).filter (fun d => (s.domain d).waitFollow && (s.domain d).syncSeq == m.seq) = [] := by
    rw [hfrom, List.filter_cons_of_neg (by simp [hwait]), List.filter_nil]
  simp only [State.domainsFrom_arrived, State.arrived_domain, hwaiting]

/-- A Delay_Resp that answers this port's request. -/
theorem exec_delayResp_chosen (hout : (s.domain d).reqOut = true) (hseq : (s.domain d).reqSeq = m.seq)
    (hsource : m.reqSource = s.reg K.clockIdentity) (hport : m.reqPort = m.eth + 1)
    (hmech : s.reg (K.delayMechanism m.eth) = 0) :
    exec (.delayResp m) s = .next ((s.arrived m.eth).takeDelayResp d m) := by
  show execDelayResp m s = _
  rw [execDelayResp, State.onPtp_carried he hon hcarried]
  have hwaiting : (s.domainsFrom m).filter (fun d => (s.domain d).reqOut && (s.domain d).reqSeq == m.seq &&
      m.reqSource == s.reg K.clockIdentity && m.reqPort == m.eth + 1 && s.reg (K.delayMechanism m.eth) == 0) = [d] := by
    rw [hfrom, List.filter_cons_of_pos (by simp [hout, hseq, hsource, hport, hmech]), List.filter_nil]
  simp only [State.domainsFrom_arrived, State.arrived_domain, s.arrived_reg m.eth (k := K.clockIdentity) rfl,
    s.arrived_reg m.eth (K.delayMechanism_index _), hwaiting]
  rw [List.foldl_cons, List.foldl_nil]

end

theorem K.ptpMessagesIgnored_width : ∀ e, e < 2 → counterWidth (K.ptpMessagesIgnored e) = 32 := by decide

theorem State.ptpIgnored_arrived {s : State} {e : Nat} (he : e < 2) :
    ((s.arrived e).ptpIgnored e).reg (K.ptpMessagesIgnored e) = (s.reg (K.ptpMessagesIgnored e) + 1) % 2 ^ 32 := by
  rw [State.ptpIgnored, State.bump_reg, if_pos rfl, K.ptpMessagesIgnored_width e he,
    s.arrived_reg e (K.ptpMessagesIgnored_index e)]

/-! ### Path delay (R396, R397) -/

theorem State.halve_half (s : State) (x : Int) : (s.halve x).1 = x / 2 ∨ (s.halve x).1 = (x + 1) / 2 := by
  have hbit : s.takeFree.1 % 2 = 0 ∨ s.takeFree.1 % 2 = 1 := Nat.mod_two_eq_zero_or_one _
  obtain hzero | hone := hbit
  · left
    show (x + ((s.takeFree.1 % 2 : Nat) : Int)) / 2 = x / 2
    rw [hzero, Nat.cast_zero, Int.add_zero]
  · right
    show (x + ((s.takeFree.1 % 2 : Nat) : Int)) / 2 = (x + 1) / 2
    rw [hone, Nat.cast_one]

theorem State.sendPtp_sent (s : State) (p kind seq : Nat) (t : Int) :
    (s.sendPtp p kind seq t).net = s.net ∧ (s.sendPtp p kind seq t).out = s.out ++ [.ptp p kind seq t.toNat] := by
  simp only [State.sendPtp_same, true_and]
  exact (State.portBytes_changes _ _ _ _).areas .out rfl

theorem State.sendPtp_txStamp (s : State) (p kind seq : Nat) (t : Int) (e : Nat) :
    (s.sendPtp p kind seq t).txStamp e = s.txStamp e := by
  simp only [State.txStamp, State.localTime, State.sreg, State.sendPtp_same, State.sendPtp_reg]

/-- The mean path delay of a domain as a Delay_Resp leaves it. -/
def State.delayed (s : State) (d : Nat) (m : PtpMsg) (sum : Int) : State :=
  ((s.halve sum).2.setDomain d { s.domain d with reqOut := false, reqInterval := m.interval }).setReg
    (K.domainMeanPathDelay d) (unsigned 32 (s.halve sum).1)

theorem State.takeDelayResp_delays {s : State} {d : Nat} {m : PtpMsg} {sum : Int}
    (hsum : sum = ((s.domain d).t2 - (s.domain d).t1 - (s.domain d).cs) + (m.origin - (s.domain d).t3 - m.corr)) :
    s.takeDelayResp d m =
      (s.delayed d m sum).setReg (K.domainOffset d) (unsigned 64 ((s.delayed d m sum).offsetOf d m.eth)) := by
  rw [hsum]
  rfl

theorem State.delayed_meanPathDelay (s : State) (d : Nat) (m : PtpMsg) (sum : Int) (v : Nat) :
    ((s.delayed d m sum).setReg (K.domainOffset d) v).reg (K.domainMeanPathDelay d) = unsigned 32 (sum / 2) ∨
      ((s.delayed d m sum).setReg (K.domainOffset d) v).reg (K.domainMeanPathDelay d) = unsigned 32 ((sum + 1) / 2) := by
  rw [State.setReg_ne _ _ (K.domainOffset_ne_meanPathDelay d), State.delayed, State.setReg_get]
  exact (s.halve_half sum).imp (congrArg _) (congrArg _)

theorem State.delayed_domain (s : State) (d : Nat) (m : PtpMsg) (sum : Int) (v : Nat) :
    ((s.delayed d m sum).setReg (K.domainOffset d) v).domain d =
      { s.domain d with reqOut := false, reqInterval := m.interval } := by
  refine Eq.trans ?_ (State.setDomain_domain_same (s.halve sum).2 d _)
  rfl

theorem State.delayReq_sends {s : State} {d e : Nat} {a : Announce} (hmaster : (s.domain d).master = some (e, a))
    (hst : (s.domain d).st = .locked) (henabled : s.flag (K.ptpDomainEnable d) = true)
    (hmech : s.reg (K.delayMechanism e) = 0) (hon : s.ethOn e = true) (hptp : s.ptpOn e = true)
    (hdue : (s.domain d).reqDue ≤ s.tick) : ∃ due, s.delayReq d =
      (s.takeFree.2.setDomain d { s.domain d with
        reqSeq := ((s.domain d).reqSeq + 1) % 65536, reqOut := true, t3 := (s.domain d).corr.time (s.txStamp e)
        reqDue := due }).sendPtp e 1 (((s.domain d).reqSeq + 1) % 65536) (s.txStamp e) := by
  unfold State.delayReq
  simp only [hmaster]
  exact ⟨_, if_pos ⟨.inr hst, henabled, hmech, hon, hptp, hdue⟩⟩

theorem State.pdelaySend_sends {s : State} {e : Nat} (hmech : s.reg (K.delayMechanism e) = 1) (hon : s.ethOn e = true)
    (hptp : s.ptpOn e = true) (hdue : (s.ethPort e).pdDue ≤ s.tick) : ∃ due, s.pdelaySend e =
      (s.setEth e { s.ethPort e with
        pdSeq := ((s.ethPort e).pdSeq + 1) % 65536, pdT1 := s.txStamp e, pdWait := true, pdDue := due }).sendPtp e 2
          (((s.ethPort e).pdSeq + 1) % 65536) (s.txStamp e) :=
  ⟨_, if_pos ⟨hmech, hon, hptp, hdue⟩⟩

/-- The link delay of a finished exchange, up to the rounding of its half (R397). -/
theorem State.linkDelay_halves (s : State) (p : Nat) (turn : Int) :
    ((s.linkDelay p turn).ethPort p).pdWait = false ∧
      ((s.linkDelay p turn).ethPort p).linkDelay =
        (s.halve ((s.ethPort p).pdT4 - (s.ethPort p).pdT1 - turn - (s.ethPort p).pdCorr)).1 := by
  have hport : (s.linkDelay p turn).ethPort p = _ := State.setEth_ethPort_same ..
  rw [hport]
  exact ⟨rfl, rfl⟩

theorem State.pdelayResp_keeps {s : State} {m : PtpMsg} (hanswers : s.answersPd m = true) (htwo : m.twoStep = true) :
    s.pdelayResp m = s.setEth m.eth { s.ethPort m.eth with pdT2 := m.origin, pdT4 := s.rxStamp m, pdCorr := m.corr } := by
  rw [State.pdelayResp, if_pos hanswers, htwo]
  rfl

theorem State.pdelayFollow_measures {s : State} {m : PtpMsg} (hanswers : s.answersPd m = true) : s.pdelayFollow m =
    (s.setEth m.eth { s.ethPort m.eth with pdT3 := m.origin, pdCorr := (s.ethPort m.eth).pdCorr + m.corr }).linkDelay m.eth
      (m.origin - (s.ethPort m.eth).pdT2) := if_pos hanswers

end Sys2Proof.Machine

open Sys2Proof Sys2Proof.Machine

/-- Settles O43: the acceptance of a frame leaves what the messages read, and a Sync whose offset is small goes through the
servo alone. -/
theorem ptpExchangesAreMeasured : Obligations.PtpExchangesAreMeasured := by
  refine ⟨fun s d m he hon hcarried hfrom htwo hst => ?sync,
    fun s d m off he hon hcarried hfrom hone hmech hoff hst hnear hclose => ?oneStep,
    fun s d m off he hon hcarried hfrom hwait hseq hmech hoff hst hnear hclose => ?followUp,
    fun s d m he hon hcarried hfrom hwait => ?noSync,
    fun s d m sum he hon hcarried hfrom hout hseq hsource hport hmech hsum => ?delayResp,
    fun s m he hon hcarried hmech => ?pdelayReq, fun s m he hon hcarried hmech => ?pdelayIgnored,
    fun s m he hon hcarried hanswers htwo => ?pdelayResp, fun s m sum he hon hcarried hanswers hsum => ?pdelayFollow,
    fun s d e a hd hmaster hst henabled hmech hon hptp hdue => ?delayReq, fun s e he hon hptp hmech hdue => ?pdelaySend,
    fun s m he hon htransport => ?dropped, fun s e he hon hptp => ?ignored⟩
  case sync =>
    have hexec := exec_sync_chosen he hon hcarried hfrom
    have hchanges := execSync_changes m s hexec
    have hst' : ((s.arrived m.eth).domain d).st ≠ .holdover := by rwa [State.arrived_domain]
    rw [State.takeSync_notes m hst', htwo, if_pos rfl] at hexec hchanges
    refine ⟨_, hexec, ?_, hchanges⟩
    rw [State.synced, State.setDomain_domain_same, State.arrived_domain, State.rxStamp_arrived, (s.arrived_same _).2.1,
      Domain.synced, htwo]
  case oneStep =>
    have hexec := exec_sync_chosen he hon hcarried hfrom
    have hchanges := execSync_changes m s hexec
    have hst' : ((s.arrived m.eth).domain d).st ≠ .holdover := by rw [State.arrived_domain, hst]; decide
    rw [State.takeSync_notes m hst', hone, if_neg Bool.false_ne_true] at hexec hchanges
    have hmeasured : State.Measured _ (((s.arrived m.eth).synced d m).syncDone d m.eth) d off :=
      State.syncDone_arrived hmech (by rw [State.arrived_domain, State.rxStamp_arrived, hoff]; rfl)
        (by rw [State.arrived_domain]; exact hst) hnear hclose
    refine ⟨_, hexec, hmeasured.offset, hmeasured.locked, hmeasured.bad, hmeasured.big, ?_, hmeasured.slowest,
      hmeasured.fastest, hchanges⟩
    rw [hmeasured.lastSync, State.setDomain_domain_same]
    exact (s.arrived_same m.eth).2.1
  case followUp =>
    have hexec := exec_followUp_chosen he hon hcarried hfrom hwait hseq
    have hchanges := execFollowUp_changes m s hexec
    have hmeasured : State.Measured _ (((s.arrived m.eth).followed d m).syncDone d m.eth) d off :=
      State.syncDone_arrived hmech (by rw [State.arrived_domain, hoff]) (by rw [State.arrived_domain]; exact hst) hnear hclose
    refine ⟨_, hexec, hmeasured.offset, hmeasured.locked, ?_, hmeasured.bad, hmeasured.slowest, hmeasured.fastest, hchanges⟩
    rw [hmeasured.waitFollow, State.setDomain_domain_same]
  case noSync =>
    have hexec := exec_followUp_ignored he hon hcarried hfrom hwait
    refine ⟨_, hexec, ?_, State.ptpIgnored_arrived he, execFollowUp_changes m s hexec⟩
    simp only [State.ptpIgnored_same, State.arrived_same]
  case delayResp =>
    have hexec := exec_delayResp_chosen he hon hcarried hfrom hout hseq hsource hport hmech
    have hchanges := execDelayResp_changes m s hexec
    rw [State.takeDelayResp_delays (sum := sum) (by simp only [State.arrived_domain, hsum])] at hexec hchanges
    refine ⟨_, hexec, ?_, ?_, State.delayed_meanPathDelay .., hchanges⟩
    · rw [State.delayed_domain]
    · rw [State.delayed_domain]
  case pdelayReq =>
    have hexec : exec (.pdelayReq m) s = .next ((s.arrived m.eth).pdelayReq m) :=
      State.onPtp_carried he hon hcarried fun s => s.pdelayReq m
    have hchanges := execPdelayReq_changes m s hexec
    have hpeer : (s.arrived m.eth).reg (K.delayMechanism m.eth) = 1 := by
      rw [s.arrived_reg _ (K.delayMechanism_index _), hmech]
    rw [State.pdelayReq, if_pos hpeer] at hexec hchanges
    refine ⟨_, hexec, ?_, ?_, hchanges⟩
    · rw [(State.sendPtp_sent ..).1, (State.sendPtp_sent ..).1, (s.arrived_same _).1]
    · rw [(State.sendPtp_sent ..).2, (State.sendPtp_sent ..).2, (s.arrived_same _).2.2, State.rxStamp_arrived,
        State.txStamp_arrived, List.append_assoc]
      rfl
  case pdelayIgnored =>
    have hexec : exec (.pdelayReq m) s = .next ((s.arrived m.eth).pdelayReq m) :=
      State.onPtp_carried he hon hcarried fun s => s.pdelayReq m
    have hchanges := execPdelayReq_changes m s hexec
    have hpeer : ¬ (s.arrived m.eth).reg (K.delayMechanism m.eth) = 1 := by
      rw [s.arrived_reg _ (K.delayMechanism_index _), hmech]
      decide
    rw [State.pdelayReq, if_neg hpeer] at hexec hchanges
    refine ⟨_, hexec, ?_, ?_, State.ptpIgnored_arrived he, hchanges⟩
    · simp only [State.ptpIgnored_same, State.arrived_same]
    · simp only [State.ptpIgnored_same, State.arrived_same]
  case pdelayResp =>
    have hexec : exec (.pdelayResp m) s = .next ((s.arrived m.eth).pdelayResp m) :=
      State.onPtp_carried he hon hcarried fun s => s.pdelayResp m
    have hchanges := execPdelayResp_changes m s hexec
    rw [State.pdelayResp_keeps (by rwa [State.answersPd_arrived]) htwo] at hexec hchanges
    refine ⟨_, hexec, ?_, hchanges⟩
    rw [State.setEth_ethPort_same, State.arrived_ethPort, State.rxStamp_arrived]
  case pdelayFollow =>
    have hexec : exec (.pdelayRespFollowUp m) s = .next ((s.arrived m.eth).pdelayFollow m) :=
      State.onPtp_carried he hon hcarried fun s => s.pdelayFollow m
    have hchanges := execPdelayRespFollowUp_changes m s hexec
    rw [State.pdelayFollow_measures (by rwa [State.answersPd_arrived]), State.arrived_ethPort] at hexec hchanges
    have hhalves := State.linkDelay_halves ((s.arrived m.eth).setEth m.eth { s.ethPort m.eth with
      pdT3 := m.origin, pdCorr := (s.ethPort m.eth).pdCorr + m.corr }) m.eth (m.origin - (s.ethPort m.eth).pdT2)
    rw [State.setEth_ethPort_same, ← hsum] at hhalves
    refine ⟨_, hexec, hhalves.1, ?_, hchanges⟩
    rw [hhalves.2]
    exact State.halve_half ..
  case delayReq =>
    have hexec : exec (.delayReqSend d) s = .next (s.delayReq d) := guardUnit_carried (decide_eq_true hd) _ _
    have hchanges := execDelayReqSend_changes d s hexec
    obtain ⟨due, hsends⟩ := State.delayReq_sends hmaster hst henabled hmech hon hptp hdue
    rw [hsends] at hexec hchanges
    have hdomain := State.domain_congr (congrArg Net.dom (State.sendPtp_sent (s.takeFree.2.setDomain d { s.domain d with
      reqSeq := ((s.domain d).reqSeq + 1) % 65536, reqOut := true, t3 := (s.domain d).corr.time (s.txStamp e), reqDue := due })
        e 1 (((s.domain d).reqSeq + 1) % 65536) (s.txStamp e)).1) d
    rw [State.setDomain_domain_same] at hdomain
    refine ⟨_, hexec, by rw [hdomain], by rw [hdomain], by rw [hdomain], ?_, hchanges⟩
    rw [(State.sendPtp_sent ..).2]
    rfl
  case pdelaySend =>
    have hexec : exec (.pdelayReqSend e) s = .next (s.pdelaySend e) := guardUnit_carried (decide_eq_true he) _ _
    have hchanges := execPdelayReqSend_changes e s hexec
    obtain ⟨due, hsends⟩ := State.pdelaySend_sends hmech hon hptp hdue
    rw [hsends] at hexec hchanges
    have hport := State.ethPort_congr (State.sendPtp_sent (s.setEth e { s.ethPort e with
      pdSeq := ((s.ethPort e).pdSeq + 1) % 65536, pdT1 := s.txStamp e, pdWait := true, pdDue := due }) e 2
        (((s.ethPort e).pdSeq + 1) % 65536) (s.txStamp e)).1 e
    rw [State.setEth_ethPort_same] at hport
    refine ⟨_, hexec, by rw [hport], by rw [hport], by rw [hport], ?_, hchanges⟩
    rw [(State.sendPtp_sent ..).2]
    rfl
  case dropped =>
    have hnot : ¬ s.ptpCarried m.eth m.transport = true := by
      rw [State.ptpCarried, beq_false_of_ne htransport, Bool.and_false]
      exact Bool.false_ne_true
    have hexec : exec (.sync m) s = .next (s.frameDrop m.eth) :=
      State.onPtp_dropped he hon hnot fun s =>
        match s.domainsFrom m with
        | [] => s.ptpIgnored m.eth
        | ds => ds.foldl (fun s d => s.takeSync d m) s
    exact ⟨_, hexec, by simp only [State.frameDrop_same], State.frameDrop_dropped he, execSync_changes m s hexec⟩
  case ignored =>
    have hcarried : s.ptpCarried e (s.reg (K.ptpTransport e)) = true := by
      rw [State.ptpCarried, hptp, beq_self_eq_true, Bool.and_true]
    have hexec : exec (.ptpMessageIgnored e) s = .next ((s.arrived e).ptpIgnored e) :=
      State.onPtp_carried he hon hcarried fun s => s.ptpIgnored e
    refine ⟨_, hexec, ?_, ?_, State.ptpIgnored_arrived he, execPtpMessageIgnored_changes e s hexec⟩
    · simp only [State.ptpIgnored_same, State.arrived_same]
    · rw [State.ptpIgnored, State.bump_reg, if_neg (K.ne_of_index (K.framesReceived_index e) (K.ptpMessagesIgnored_index e)),
        State.arrived_received he]
end

section
/-! PROOFS. The statement on masters, domains and the timescale they form (TimeDomainsAreChosen). -/

namespace Sys2Proof.Machine

/-! ### Announce (R395, R398) -/

theorem exec_announce_chosen {s : State} {e d : Nat} {a : Announce} (he : e < 2) (hon : s.ethOn e = true)
    (hcarried : s.ptpCarried e a.transport = true) (hsender : a.sender ≠ s.reg K.clockIdentity)
    (hdomains : [0, 1].filter (fun x => s.flag (K.ptpDomainEnable x) && s.reg (K.ptpDomainNumber x) == a.domain) = [d]) :
    exec (.announce e a) s = .next ((s.arrived e).takeAnnounce d e a) := by
  show execAnnounce e a s = _
  rw [execAnnounce, State.onPtp_carried he hon hcarried]
  simp only [s.arrived_reg e (k := K.clockIdentity) rfl, if_neg hsender, s.arrived_enabled e,
    s.arrived_reg e (K.ptpDomainNumber_index _), hdomains]
  rw [List.foldl_cons, List.foldl_nil]

/-- The only master heard is the one of its domain. -/
def State.mastered (s : State) (d e : Nat) (a : Announce) : State :=
  (((s.setReg (K.domainGrandmaster d) a.grandmaster).setReg (K.domainClockClass d) a.clockClass).setReg (K.domainPort d) e).setDomain
    d { s.domain d with foreign := [(e, a)], master := some (e, a) }

/-- A domain that begins to acquire its master. -/
def Domain.acquiring (x : Domain) (tick : Nat) : Domain :=
  { x with st := .acquiring, stepped := false, noStep := false, good := 0, bad := 0, big := 0
           lastSync := tick, waitFollow := false, reqOut := false, reqDue := tick }

section
variable (s : State) (d e : Nat) (a : Announce)

theorem State.mastered_figures : (s.mastered d e a).reg (K.domainGrandmaster d) = a.grandmaster ∧
    (s.mastered d e a).reg (K.domainClockClass d) = a.clockClass ∧ (s.mastered d e a).reg (K.domainPort d) = e := by
  have hclass : K.domainGrandmaster d ≠ K.domainClockClass d := by unfold K.domainGrandmaster K.domainClockClass; omega
  have hport : K.domainGrandmaster d ≠ K.domainPort d := by unfold K.domainGrandmaster K.domainPort; omega
  have hclassPort : K.domainClockClass d ≠ K.domainPort d := by unfold K.domainClockClass K.domainPort; omega
  refine ⟨?_, ?_, ?_⟩
  · rw [State.mastered, State.setDomain_reg, State.setReg_ne _ _ hport, State.setReg_ne _ _ hclass, State.setReg_get]
  · rw [State.mastered, State.setDomain_reg, State.setReg_ne _ _ hclassPort, State.setReg_get]
  · rw [State.mastered, State.setDomain_reg, State.setReg_get]

theorem State.mastered_maxClockClass : (s.mastered d e a).reg K.maxClockClass = s.reg K.maxClockClass := by
  rw [State.mastered, State.setDomain_reg, State.setReg_ne _ _ (K.ne_of_index rfl (K.domainPort_index d)),
    State.setReg_ne _ _ (K.ne_of_index rfl (K.domainClockClass_index d)),
    State.setReg_ne _ _ (K.ne_of_index rfl (K.domainGrandmaster_index d))]

theorem State.mastered_domain : (s.mastered d e a).domain d =
    { s.domain d with foreign := [(e, a)], master := some (e, a) } := State.setDomain_domain_same ..

variable {s d a} (hforeign : (s.domain d).foreign = [])
include hforeign

theorem State.takeAnnounce_acquires (hclass : a.clockClass ≤ s.reg K.maxClockClass) (hst : (s.domain d).st = .listening) :
    s.takeAnnounce d e a = (s.mastered d e a).setDomain d (((s.mastered d e a).domain d).acquiring (s.mastered d e a).tick) := by
  have hadmitted : ¬ (s.mastered d e a).reg K.maxClockClass < a.clockClass := by
    rw [State.mastered_maxClockClass]
    exact Nat.not_lt.2 hclass
  have hnotLocked : ¬ (s.domain d).st = .locked := by rw [hst]; decide
  have hback : ((s.domain d).st == .holdover || (s.domain d).st == .unusable) = false := by rw [hst]; rfl
  unfold State.takeAnnounce
  simp only [hforeign, List.filter_nil, bestMaster, if_neg hnotLocked, hback]
  refine (if_neg hadmitted).trans ((if_neg fun h => h.2.2 hst).trans ?_)
  rfl

theorem State.takeAnnounce_unusable (hclass : s.reg K.maxClockClass < a.clockClass) : s.takeAnnounce d e a =
    if (s.domain d).st = .unusable then s.mastered d e a else (s.mastered d e a).unlock d .unusable := by
  have hrefused : (s.mastered d e a).reg K.maxClockClass < a.clockClass := by rwa [State.mastered_maxClockClass]
  unfold State.takeAnnounce
  simp only [hforeign, List.filter_nil, bestMaster]
  exact if_pos hrefused

end

/-! ### Leaving LOCKED (R398, R400) -/

/-- Whether a domain is followed makes no difference to the domains. -/
theorem State.followIf_domain (s : State) (d n : Nat) (c : Prop) [Decidable c] :
    (if c then s.followDomain d else s).domain n = s.domain n := by
  split
  · exact State.domain_congr (State.followDomain_dom ..) n
  · rfl

theorem State.unlock_domain (s : State) (d : Nat) (st : DomSt) :
    ((s.unlock d st).domain d).st = st ∧ ((s.unlock d st).domain d).master = (s.domain d).master := by
  unfold State.unlock
  simp only [State.chooseTime_domain, State.followIf_domain, State.setDomain_domain_same, and_self]

theorem State.syncLoss_holds {s : State} {d : Nat} (hst : (s.domain d).st = .locked)
    (hdue : s.reg K.syncLossTimeout * 250000 ≤ s.tick - (s.domain d).lastSync) : s.syncLoss d = s.unlock d .holdover :=
  if_pos ⟨.inr hst, hdue⟩

/-! ### The timescale (R399) -/

/-- The first lock selects a domain, and counts as a step. -/
def State.firstLocked (s : State) (d : Nat) : State :=
  (({ s with net := { s.net with selected := some d, everLocked := true, timeSt := 1 } } : State).bump K.timeSteps).followDomain d

theorem State.chooseTime_firstLock {s : State} (hnone : s.net.selected = none) (hlocked : s.domSt 0 = .locked) :
    ∃ delta, s.chooseTime = (s.firstLocked 0).timeRec 1 delta := by
  have hfind : ([0, 1].find? fun d => s.domSt d == .locked) = some 0 :=
    List.find?_cons_of_pos (by rw [hlocked]; rfl)
  unfold State.chooseTime
  simp only [hnone, hfind]
  exact ⟨_, rfl⟩

theorem State.firstLocked_net (s : State) (d : Nat) : ∃ w, (s.firstLocked d).net =
    { s.net with selected := some d, everLocked := true, timeSt := 1, crossing := s.net.crossing ++ [w] } := by
  obtain ⟨w, hnet⟩ := State.followDomain_words
    (({ s with net := { s.net with selected := some d, everLocked := true, timeSt := 1 } } : State).bump K.timeSteps) d
  exact ⟨w, hnet⟩

theorem State.firstLocked_timeSteps (s : State) (d : Nat) :
    (s.firstLocked d).reg K.timeSteps = (s.reg K.timeSteps + 1) % 2 ^ 32 := by
  rw [State.firstLocked, State.followDomain_reg, State.bump_reg, if_pos rfl, K.timeSteps_width]
  rfl

theorem State.followDomain_selected (s : State) (d : Nat) :
    (s.followDomain d).net.selected = s.net.selected ∧ (s.followDomain d).net.timeSt = s.net.timeSt := by
  obtain ⟨w, hnet⟩ := s.followDomain_words d
  rw [hnet]
  exact ⟨rfl, rfl⟩

theorem State.switchTo_selects (s : State) (d cause : Nat) : (s.switchTo d cause).net.selected = some d ∧
    (s.switchTo d cause).net.timeSt = 1 ∧
    (s.switchTo d cause).reg K.domainSwitches = (s.reg K.domainSwitches + 1) % 2 ^ 32 := by
  have hswitches : K.domainSwitches ≠ K.timeSteps := by decide
  unfold State.switchTo
  simp only [State.timeRec_net]
  rw [State.timeRec_reg _ _ _ _ (by decide)]
  split
  case isTrue =>
    rw [(State.followDomain_selected ..).1, (State.followDomain_selected ..).2, State.followDomain_reg, State.bump_reg,
      if_pos rfl, K.domainSwitches_width]
    exact ⟨rfl, rfl, rfl⟩
  case isFalse =>
    split
    case isTrue =>
      rw [(State.followDomain_selected ..).1, (State.followDomain_selected ..).2, State.followDomain_reg]
      exact ⟨rfl, rfl, (State.bump_reg ..).trans ((if_pos rfl).trans (by rw [K.domainSwitches_width]; rfl))⟩
    case isFalse =>
      rw [(State.followDomain_selected ..).1, (State.followDomain_selected ..).2, State.followDomain_reg, State.bump_reg,
        if_neg hswitches, State.bump_reg, if_pos rfl, K.domainSwitches_width]
      exact ⟨rfl, rfl, rfl⟩

theorem State.chooseTime_prefers {s : State} {d : Nat} (hselected : s.net.selected = some d) (hlocked : s.domSt d = .locked)
    (hrevertive : s.flag K.domainRevertive = true) (hpreferred : s.reg K.timeDomainPreferred = 1 - d)
    (hother : s.domSt (1 - d) = .locked) (hlong : (s.domain (1 - d)).lockedSince + 15000000000 ≤ s.tick) :
    s.chooseTime = s.switchTo (1 - d) 3 := by
  unfold State.chooseTime
  simp only [hselected]
  exact (if_pos hlocked).trans (if_pos ⟨hrevertive, hpreferred.symm, hother, hlong⟩)

theorem State.slewDone_ends {s : State} {d start dur : Nat} {delta : Int} (hselected : s.net.selected = some d)
    (hslew : s.net.slew = some (start, delta, dur)) (hdue : start + dur ≤ s.localTime) :
    s.slewDone = ({ s with net := { s.net with slew := none } } : State).formWord (s.domain d).corr := by
  unfold State.slewDone
  simp only [hslew, hselected]
  exact if_pos hdue

theorem State.holdLimit_expires {s : State} (hst : s.net.timeSt = 2)
    (hdue : s.reg K.holdoverLimit * 250000000 ≤ s.tick - s.net.holdAt) :
    s.holdLimit = ({ s with net := { s.net with timeSt := 0 } } : State).timeRec 6 0 := if_pos ⟨hst, hdue⟩

end Sys2Proof.Machine

open Sys2Proof Sys2Proof.Machine

/-- Settles O44: the choice of the timescale leaves the domains, so that each clause reads the change of one of them. -/
theorem timeDomainsAreChosen : Obligations.TimeDomainsAreChosen := by
  refine ⟨fun s e d a he hon hcarried hsender hdomains hforeign hclass hst => ?acquires,
    fun s e d a he hon hcarried hsender hdomains hforeign hclass => ?unusable, fun s d hd hst hdue => ?syncLoss,
    fun s hnone hlocked => ?firstLock, fun s d hd hselected hlocked hrevertive hpreferred hother hlong => ?prefers,
    fun s d start dur delta hselected hslew hdue => ?slew, fun s hst hdue => ?limit⟩
  case acquires =>
    have hexec := exec_announce_chosen he hon hcarried hsender hdomains
    have hchanges := execAnnounce_changes e a s hexec
    rw [State.takeAnnounce_acquires e (by rwa [State.arrived_domain]) (by rwa [s.arrived_reg e (k := K.maxClockClass) rfl])
      (by rwa [State.arrived_domain])] at hexec hchanges
    obtain ⟨hgrand, hclock, hport⟩ := (s.arrived e).mastered_figures d e a
    refine ⟨_, hexec, ?_, ?_, ?_, ?_, ?_, ?_, ?_, hchanges⟩
    · rw [State.setDomain_domain_same, Domain.acquiring]
    · rw [State.setDomain_domain_same, Domain.acquiring, State.mastered_domain]
    · rw [State.setDomain_domain_same, Domain.acquiring]
    · rw [State.setDomain_domain_same, Domain.acquiring]
      exact (s.arrived_same e).2.1
    · rw [State.setDomain_reg, hgrand]
    · rw [State.setDomain_reg, hclock]
    · rw [State.setDomain_reg, hport]
  case unusable =>
    have hexec := exec_announce_chosen he hon hcarried hsender hdomains
    have hchanges := execAnnounce_changes e a s hexec
    rw [State.takeAnnounce_unusable e (by rwa [State.arrived_domain]) (by rwa [s.arrived_reg e (k := K.maxClockClass) rfl])]
      at hexec hchanges
    obtain ⟨-, hclock, -⟩ := (s.arrived e).mastered_figures d e a
    refine ⟨_, hexec, ?_, ?_, ?_, hchanges⟩
    all_goals split
    case refine_1.isTrue hst => rw [State.mastered_domain]; exact hst
    case refine_1.isFalse => exact (State.unlock_domain ..).1
    case refine_2.isTrue => rw [State.mastered_domain]
    case refine_2.isFalse => rw [(State.unlock_domain ..).2, State.mastered_domain]
    case refine_3.isTrue => exact hclock
    case refine_3.isFalse =>
      rw [State.unlock_reg _ _ _ _ (Entries.has_index_false (K.domainClockClass_index d) (by decide)), hclock]
  case syncLoss =>
    have hexec : exec (.syncLossTimeout d) s = .next (s.syncLoss d) := guardUnit_carried (decide_eq_true hd) _ _
    have hchanges := execSyncLossTimeout_changes d s hexec
    rw [State.syncLoss_holds hst hdue] at hexec hchanges
    exact ⟨_, hexec, (s.unlock_domain d .holdover).1, hchanges⟩
  case firstLock =>
    have hexec : exec .domainRevert s = .next s.chooseTime := rfl
    have hchanges := execDomainRevert_changes s hexec
    obtain ⟨delta, hfirst⟩ := State.chooseTime_firstLock hnone hlocked
    rw [hfirst] at hexec hchanges
    obtain ⟨w, hnet⟩ := s.firstLocked_net 0
    refine ⟨_, hexec, ?_, ?_, ?_, ?_, ?_, hchanges⟩
    · rw [State.timeRec_net, hnet]
    · rw [State.timeRec_net, hnet]
    · rw [State.timeRec_net, hnet]
    · rw [State.timeRec_net, hnet]
    · rw [State.timeRec_reg _ _ _ _ (by decide), State.firstLocked_timeSteps]
  case prefers =>
    have hexec : exec .domainRevert s = .next s.chooseTime := rfl
    have hchanges := execDomainRevert_changes s hexec
    rw [State.chooseTime_prefers hselected hlocked hrevertive hpreferred hother hlong] at hexec hchanges
    obtain ⟨hsel, htime, hcount⟩ := s.switchTo_selects (1 - d) 3
    exact ⟨_, hexec, hsel, htime, State.switchTo_dom .., hcount, hchanges⟩
  case slew =>
    have hexec : exec .slewComplete s = .next s.slewDone := rfl
    have hchanges := execSlewComplete_changes s hexec
    rw [State.slewDone_ends hselected hslew hdue] at hexec hchanges
    exact ⟨_, hexec, rfl, hselected, rfl, hchanges⟩
  case limit =>
    have hexec : exec .holdoverLimitExpiry s = .next s.holdLimit := rfl
    have hchanges := execHoldoverLimitExpiry_changes s hexec
    rw [State.holdLimit_expires hst hdue] at hexec hchanges
    exact ⟨_, hexec, State.timeRec_net .., hchanges⟩
end

section
/-! PROOFS. States that the model answers otherwise than a statement says. -/
namespace Sys2Proof.Machine

/-! ### ALIVE_OUT while its supply is reversed (R44, R287) -/

theorem State.aliveHalf_edge {s : State} (hrun : s.field.alive.running = true) (hdue : s.field.alive.edge + 125000 ≤ s.tick) :
    s.aliveHalf = s.setAlive true (!s.field.alive.level) := by
  rw [State.aliveHalf, if_pos ⟨hrun, hdue⟩]

/-- What starts the wave writes its level, held low while a supply is reversed (R44). -/
theorem State.setAlive_level (s : State) (running level : Bool) :
    (s.setAlive running level).field.alive.level = (level && s.supplies.reversed == []) := by
  unfold State.setAlive
  dsimp only
  split <;> rfl

/-- The wave runs, its level is low, its half period is over and a supply is reversed. -/
def aliveReversed : State :=
  { tick := 125000, supplies := { reversed := [1] }, field := { alive := { running := true } } }

/-! ### A module that halted at start-up (R457, R458) -/

/-- The module halted in start-up: no fault resets it any more (R458). -/
def haltedModule : State := { boot := { halted := true } }

theorem State.resetFault_halted {s : State} (hhalted : s.boot.halted = true) (code : Nat) : s.resetFault code = s := by
  rw [State.resetFault, if_pos (by rw [hhalted, Bool.or_true])]

/-! ### AutoReady while a period is due (R228, R429) -/

/-- Context 0 is IDLE with a plan, and a stripe of it is ready: its next period is due. -/
def idleWithStripe : State :=
  { tick := 100000000000, regs := [(K.autoReady, 1)], power := { readySince := some 0 }
    pipe := { stripes := [(0, { num := 0, ready := true, readyCyc := 5 })] }
    engine := { ctxs := [(0, { st := .idle, plan := some stripesOf16 })] } }

theorem State.autoReady_waits {s : State} {n : NextPeriod} (hnext : s.nextDue = some n) : s.autoReady = s := by
  unfold State.autoReady
  split
  · exact if_neg fun ⟨_, _, _, _, hnone, _⟩ => Option.some_ne_none n (hnext.symm.trans hnone)
  · rfl

theorem idleWithStripe_nextDue : idleWithStripe.nextDue.isSome = true := by decide

/-! ### A die that waits for more than one context (R410) -/

/-- Die 0 is frozen by context 0 while context 1 starves on it. -/
def frozenAndStarving : State :=
  { engine := { frozen := [(0, 1)], starving := [(0, (1, 0))], ctxs := [(0, { st := .running })] } }

/-! ### A staged value of an entry that the commit itself writes (R64) -/

/-- A commit waits for its stripe, which is due, with a value staged for ConfigGeneration. -/
def stagedGeneration : State :=
  { belt := { st := .forward }, engine := { ctxs := [(0, { st := .running, plan := some {} })] }
    ctl := { serving := true, phase := .waiting, staged := [(K.configGeneration, 5)] } }

set_option maxRecDepth 20000 in
theorem stagedGeneration_commits :
    stagedGeneration.formIbp.commitIfDue.reg K.configGeneration = 6 := by decide

end Sys2Proof.Machine

open Sys2Proof Sys2Proof.Machine

/-- Refutes O54: right after reset the logic supply stands as good since tick 0, where the statement has it without that note. -/
theorem not_resetState : ¬ Obligations.ResetState := by
  rintro ⟨-, -, -, -, -, -, -, hsupplies, -⟩
  exact absurd (congrArg Supplies.logicOk hsupplies) (by decide)

/-- Refutes O28: while a supply is reversed the alive output stays low (R44), where the statement raises it. -/
theorem not_aliveAndGeneralOutputs : ¬ Obligations.AliveAndGeneralOutputs := by
  rintro ⟨hhalf, -⟩
  obtain ⟨t, hexec, halive, -⟩ := hhalf aliveReversed rfl (by decide)
  injection hexec with hsame
  have hlevel : t.field.alive.level = false := by
    rw [← hsame, State.aliveHalf_edge rfl (by decide), State.setAlive_level]
    decide
  exact absurd (hlevel.symm.trans (congrArg Alive.level halive)) (by decide)

/-- Refutes O46: a module that halted at start-up stays as it is (R458), where the statement has its time unit's fault reset
it. -/
theorem not_deviceFaultsRecoverOrReset : ¬ Obligations.DeviceFaultsRecoverOrReset := by
  rintro ⟨-, -, -, -, -, htime, -⟩
  obtain ⟨t, hexec, hreset, -⟩ := htime haltedModule rfl rfl
  injection hexec with hsame
  rw [← hsame, State.resetFault_halted rfl] at hreset
  exact absurd hreset (by decide)

/-- Refutes O48: a module that halted at start-up only reads its sensors (R458), where the statement has 105 °C reset it. -/
theorem not_temperatureAndClockAreFollowed : ¬ Obligations.TemperatureAndClockAreFollowed := by
  rintro ⟨-, hhot, -⟩
  obtain ⟨t, hexec, hreset, -⟩ :=
    hhot haltedModule { dies := [1050], logicMv := 0, logicW := 0 } 1050 [] rfl (by decide) (by decide) rfl rfl
  injection hexec with hsame
  rw [← hsame] at hreset
  exact absurd hreset (by decide)

/-- Refutes O47: AutoReady also waits while a period of context 0 is due, where the statement enters READY. -/
theorem not_powerStatesAreEnteredAndLeft : ¬ Obligations.PowerStatesAreEnteredAndLeft := by
  rintro ⟨-, -, -, -, -, -, -, -, -, -, hauto, -⟩
  obtain ⟨t, hexec, hpower, -⟩ := hauto idleWithStripe 0 rfl (by decide) rfl rfl (by decide) (by decide)
  injection hexec with hsame
  obtain ⟨n, hnext⟩ := Option.isSome_iff_exists.mp idleWithStripe_nextDue
  rw [← hsame, State.autoReady_waits hnext] at hpower
  exact absurd (congrArg Power.readySince hpower) (by decide)

/-- Refutes O45: a die that another context still starves on stays frozen, where the statement unfreezes it. -/
theorem not_contextsAreTornDown : ¬ Obligations.ContextsAreTornDown := by
  rintro ⟨hfreeze, -⟩
  obtain ⟨t, hexec, -, -, hfrozen, -⟩ :=
    hfreeze frozenAndStarving 0 250000000 0 0 (by decide) rfl rfl (by decide) rfl rfl rfl
  injection hexec with hsame
  rw [← hsame] at hfrozen
  exact absurd hfrozen (by decide)

/-- Refutes O53: the commit counts on from a value that was staged for ConfigGeneration, where the statement counts on from
the value before it. -/
theorem not_commitsApplyTogether : ¬ Obligations.CommitsApplyTogether := by
  rintro ⟨-, -, -, -, -, -, -, -, hinstant, -⟩
  obtain ⟨t, hexec, -, -, -, -, -, hgeneration, -⟩ :=
    hinstant stagedGeneration rfl (.inl (by decide)) (by decide)
  injection hexec with hsame
  rw [← hsame, stagedGeneration_commits] at hgeneration
  exact absurd hgeneration (by decide)
end

section
/-! PROOFS. What the readback of a direct output detects (R286). -/
namespace Sys2Proof.Machine

theorem K.outputFaults_width {o : Nat} (ho : o < 128) : counterWidth (K.outputFaults o) = 32 :=
  (by decide : ∀ p, p < 128 → counterWidth (K.outputFaults p) = 32) o ho

theorem State.dirOut_congr {s t : State} (hfield : t.field = s.field) (o : Nat) : t.dirOut o = s.dirOut o := by
  rw [State.dirOut, State.dirOut, hfield]

theorem State.outFault_dirOut (s : State) (o code m : Nat) : (s.outFault o code).dirOut m = s.dirOut m :=
  State.dirOut_congr (by simp only [State.outFault_same]) m

/-- A condition of R286 is counted. -/
theorem State.outFault_counted (s : State) {o : Nat} (ho : o < 128) (code : Nat) :
    (s.outFault o code).reg (K.outputFaults o) = (s.reg (K.outputFaults o) + 1) % 2 ^ 32 := by
  rw [State.outFault, State.report_reg _ _ _ _ _ _ _ _ (Entries.has_index_false (K.outputFaults_index o) (by decide)),
    State.bump_reg, if_pos rfl, K.outputFaults_width ho]

/-- An output that a condition of R286 changes: it alone changes, and the condition is counted. -/
theorem State.setOut_outFault (s : State) {o : Nat} (ho : o < 128) (x : DirOut) (code : Nat) :
    ((s.setOut o x).outFault o code).dirOut o = x ∧
      (∀ m, m ≠ o → ((s.setOut o x).outFault o code).dirOut m = s.dirOut m) ∧
      ((s.setOut o x).outFault o code).reg (K.outputFaults o) = (s.reg (K.outputFaults o) + 1) % 2 ^ 32 := by
  refine ⟨?_, fun m hm => ?_, ?_⟩
  · rw [State.outFault_dirOut, State.setOut_dirOut, if_pos rfl]
  · rw [State.outFault_dirOut, State.setOut_dirOut, if_neg hm]
  · rw [State.outFault_counted _ ho, State.setOut_reg]

/-- An output that switches off for an overload. -/
def DirOut.overloaded (x : DirOut) : DirOut := { x with overload := true, driven := false }

theorem State.overload_holds (s : State) {o : Nat} (ho : o < 128) :
    (s.overload o).dirOut o = (s.dirOut o).overloaded ∧ (∀ m, m ≠ o → (s.overload o).dirOut m = s.dirOut m) ∧
      (s.overload o).reg (K.outputFaults o) = (s.reg (K.outputFaults o) + 1) % 2 ^ 32 :=
  s.setOut_outFault ho _ _

/-- OutputFaultClear of a list of outputs unlatches those and no other (R286). -/
def State.unlatch (s : State) (outs : List Nat) : State :=
  outs.foldl (fun s o => s.setOut o { s.dirOut o with overload := false }) s

theorem State.unlatch_dirOut (s : State) (outs : List Nat) (o : Nat) :
    (s.unlatch outs).dirOut o = if o ∈ outs then { s.dirOut o with overload := false } else s.dirOut o := by
  induction outs generalizing s with
  | nil => simp [State.unlatch]
  | cons p outs ih =>
    have hcons : s.unlatch (p :: outs) = (s.setOut p { s.dirOut p with overload := false }).unlatch outs := rfl
    rw [hcons, ih, State.setOut_dirOut]
    by_cases hp : o = p
    · simp [hp]
    · simp [hp]

theorem State.faultClearCmd_named {o : Nat} (s : State) (hnamed : o < 128 ∨ o = 255) :
    s.faultClearCmd o = (s.unlatch (if o = 255 then List.range 128 else [o])).cmdOk K.outputFaultClear := by
  rw [State.faultClearCmd, if_neg (by omega), State.unlatch]

theorem State.cmdSet_dirOut (s : State) (sess k v st o : Nat) : ((s.cmdSet k v).answer sess k st).dirOut o = s.dirOut o :=
  rfl

theorem State.cmdSet_answered (s : State) (sess k v st : Nat) : ((s.cmdSet k v).answer sess k st).cmdRead k = v :=
  State.cmdSet_cmdRead ..

end Sys2Proof.Machine

open Sys2Proof Sys2Proof.Machine

/-- Settles O27: what each row detects changes one output and is counted; only OutputFaultClear unlatches. -/
theorem outputFaultsAreDetected : Obligations.OutputFaultsAreDetected := by
  refine ⟨fun s o ho hcmd hchecked hdriven hread hdue => ?readback, fun s o ho hdriven => ?limit,
    fun s o ho hcmd hread hext hdue => ?external, fun s o ho hext hread hdue => ?gone,
    fun s o ho hdriven hread hopen hflag hdue => ?openLoad, fun s sess o hgate ho => ?clearOne, fun s sess hgate => ?clearAll⟩
  case readback =>
    have hcheck : s.readbackCheck o = (s.setOut o { s.dirOut o with checked := true }).overload o := by
      simp only [State.readbackCheck]
      rw [if_pos ⟨hcmd, hchecked, hdue⟩, if_pos ⟨hdriven, hread⟩]
    have hexec : exec (.outputReadbackCheck o) s = .next (s.readbackCheck o) := guardUnit_carried (decide_eq_true ho) _ _
    have hchanges := execOutputReadbackCheck_changes o s hexec
    rw [hcheck] at hexec hchanges
    obtain ⟨hout, hothers, hcounted⟩ := (s.setOut o { s.dirOut o with checked := true }).overload_holds ho
    refine ⟨_, hexec, ?_, fun m hm => ?_, ?_, hchanges⟩
    · rw [hout, State.setOut_dirOut, if_pos rfl, DirOut.overloaded]
    · rw [hothers m hm, State.setOut_dirOut, if_neg hm]
    · rw [hcounted, State.setOut_reg]
  case limit =>
    have hexec : exec (.currentLimitExpiry o) s = .next (s.currentLimit o) := guardUnit_carried (decide_eq_true ho) _ _
    have hchanges := execCurrentLimitExpiry_changes o s hexec
    rw [State.currentLimit, if_pos hdriven] at hexec hchanges
    obtain ⟨hout, -, hcounted⟩ := s.overload_holds ho
    exact ⟨_, hexec, hout, hcounted, hchanges⟩
  case external =>
    have hexec : exec (.externalVoltageDetect o) s = .next (s.externalDetect o) := guardUnit_carried (decide_eq_true ho) _ _
    have hchanges := execExternalVoltageDetect_changes o s hexec
    rw [State.externalDetect, if_pos ⟨hcmd, hread, hext, hdue⟩] at hexec hchanges
    obtain ⟨hout, -, hcounted⟩ := s.setOut_outFault ho { s.dirOut o with external := true } FCode.outputExternalVoltage
    exact ⟨_, hexec, hout, hcounted, hchanges⟩
  case gone =>
    have hexec : exec (.externalVoltageClear o) s = .next (s.externalClear o) := guardUnit_carried (decide_eq_true ho) _ _
    rw [hexec, State.externalClear, if_pos ⟨hext, hread, hdue⟩]
  case openLoad =>
    have hexec : exec (.openLoadDetect o) s = .next (s.openLoadCheck o) := guardUnit_carried (decide_eq_true ho) _ _
    have hchanges := execOpenLoadDetect_changes o s hexec
    rw [State.openLoadCheck, if_pos ⟨hdriven, hread, hopen, hflag, hdue⟩] at hexec hchanges
    obtain ⟨hout, -, hcounted⟩ := s.setOut_outFault ho { s.dirOut o with openLoad := true } FCode.outputOpenLoad
    exact ⟨_, hexec, hout, hcounted, hchanges⟩
  case clearOne =>
    have hexec : exec (.outputFaultClear sess o) s = .next _ :=
      State.runCmd_accepts hgate (s.faultClearCmd_named (.inl ho))
    have hchanges := execOutputFaultClear_changes sess o s hexec
    rw [if_neg (by omega)] at hexec hchanges
    refine ⟨_, hexec, ?_, fun m hm => ?_, State.cmdSet_answered .., hchanges⟩
    · rw [State.cmdSet_dirOut, State.unlatch_dirOut, if_pos (List.mem_singleton_self o)]
    · rw [State.cmdSet_dirOut, State.unlatch_dirOut, if_neg (by simpa using hm)]
  case clearAll =>
    have hexec : exec (.outputFaultClear sess 255) s = .next _ :=
      State.runCmd_accepts hgate (s.faultClearCmd_named (.inr rfl))
    refine ⟨_, hexec, fun o ho => ?_, State.cmdSet_answered .., execOutputFaultClear_changes sess 255 s hexec⟩
    rw [State.cmdSet_dirOut, State.unlatch_dirOut, if_pos (by simpa using ho)]
end

section
/-! PROOFS. Test pulses and measured edges (R272, R276). -/
namespace Sys2Proof.Machine

theorem State.setRef_test (s : State) (ch : Nat) (level : Bool) (r : Option EdgeRef) :
    (s.setRef ch level r).eject.test = s.eject.test ∧ (s.setRef ch level r).eject.pulses = s.eject.pulses := ⟨rfl, rfl⟩

theorem State.markOn_test (s : State) (ch : Nat) (on : Bool) :
    (s.markOn ch on).eject.test = s.eject.test ∧ (s.markOn ch on).eject.pulses = s.eject.pulses := ⟨rfl, rfl⟩

/-- Driven or not, a test pulse that begins is noted with its length, and no pulse of the belt changes. -/
theorem State.beginTest_eject (s : State) (ch ms : Nat) :
    (s.beginTest ch ms).eject.test = some { channel := ch, start := s.tick, length := ms * 250000 } ∧
      (s.beginTest ch ms).eject.pulses = s.eject.pulses := by
  unfold State.beginTest
  dsimp only
  split
  · simp only [State.bump_same, State.setRef_test, State.markOn_test, and_self]
  · simp only [State.count_same, apply_ite State.eject, State.cmdOut_same, State.vlStrobe_same, State.vlAddTag_same, ite_self,
      State.setRef_test, State.markOn_test, and_self]

/-- A test pulse that ends switches its channel off and answers its command; no pulse of the belt changes. -/
theorem State.endTest_holds {s : State} {p : TestPulse} (htest : s.eject.test = some p) (status : Nat) :
    (s.endTest status).eject.test = none ∧ p.channel ∉ (s.endTest status).eject.chanOn ∧
      (s.endTest status).eject.pulses = s.eject.pulses ∧ (s.endTest status).cmdRead K.valveTestPulse = status := by
  simp only [State.endTest, htest]
  refine ⟨trivial, State.markOn_off _ _, ?_, State.cmdSet_cmdRead ..⟩
  simp only [State.setRef_test, State.markOn_test, apply_ite State.eject, State.cmdOut_same, State.vlStrobe_same,
    State.vlAddTag_same, ite_self]

theorem State.testPulseEnd_over {s : State} {p : TestPulse} (htest : s.eject.test = some p)
    (hover : p.start + p.length ≤ s.tick) : s.testPulseEnd = s.endTest Status.ok := by
  simp only [State.testPulseEnd, htest]
  exact if_pos (.inl hover)

theorem State.testPulseCmd_begins {s : State} {v : Nat} (hch : bits v 15 0 ≤ 1151) (hmin : 1 ≤ bits v 31 16)
    (hmax : bits v 31 16 ≤ 1000) (hstands : s.belt.st = .stopped ∨ s.belt.st = .noSource)
    (henabled : s.chanEnabled (bits v 15 0) = true) :
    s.testPulseCmd v = (s.beginTest (bits v 15 0) (bits v 31 16)).cmdBegin K.valveTestPulse := by
  have hmoving : ¬ (s.belt.st ≠ .stopped ∧ s.belt.st ≠ .noSource) :=
    fun ⟨hstopped, hnone⟩ => hstands.elim hstopped hnone
  rw [State.testPulseCmd, if_neg (by omega), if_neg hmoving, if_neg (by rw [henabled]; exact Bool.noConfusion)]

/-- FireErrorClear leaves the four entries of R272 at 0. -/
theorem State.fireErrorClearCmd_reg_zero (s : State) :
    s.fireErrorClearCmd.2.reg K.fireEdgesMeasured = 0 ∧ s.fireErrorClearCmd.2.reg K.fireEdgesOutside = 0 ∧
      s.fireErrorClearCmd.2.reg K.fireErrorMin = 0 ∧ s.fireErrorClearCmd.2.reg K.fireErrorMax = 0 := by
  unfold State.fireErrorClearCmd
  refine ⟨?_, ?_, ?_, ?_⟩
  all_goals simp only [State.cmdOk_reg, State.setReg_reg, if_true, ite_self]

/-- Counting measured edges leaves the pulses of the belt. -/
theorem State.measure_pulses (s : State) (err : Int) : (s.measure err).eject.pulses = s.eject.pulses :=
  congrArg Eject.pulses ((State.measure_changes s err).areas .eject rfl)

theorem State.stampEdge_pulses (s : State) (ch : Nat) (level : Bool) (ns : Nat) :
    (s.stampEdge ch level ns).eject.pulses = s.eject.pulses := by
  unfold State.stampEdge State.settleRefs
  dsimp only
  exact foldl_view (fun t : State => t.eject.pulses) _ _ _ fun t r => t.measure_pulses _

theorem State.stampEdge_dirOut (s : State) (ch : Nat) (level : Bool) (ns o : Nat) :
    (s.stampEdge ch level ns).dirOut o = s.dirOut o :=
  State.dirOut_congr (by simp only [State.stampEdge_same]) o

end Sys2Proof.Machine

open Sys2Proof Sys2Proof.Machine

/-- Settles O25: a test pulse touches no pulse of the belt, and a readback edge changes its output alone. -/
theorem testPulsesAndFireErrors : Obligations.TestPulsesAndFireErrors := by
  refine ⟨fun s sess v hgate hch hmin hmax hstands henabled => ?begins, fun s p htest hover => ?ends,
    fun s sess hgate => ?clears, fun s o level ho hread => ?edge⟩
  case begins =>
    have hexec : exec (.valveTestPulse sess v) s = .next _ :=
      State.runCmd_accepts hgate (State.testPulseCmd_begins hch hmin hmax hstands henabled)
    obtain ⟨htest, hpulses⟩ := s.beginTest_eject (bits v 15 0) (bits v 31 16)
    exact ⟨_, hexec, htest, hpulses, State.cmdSet_answered .., execValveTestPulse_changes sess v s hexec⟩
  case ends =>
    have hexec : exec .testPulseEnd s = .next s.testPulseEnd := rfl
    have hchanges := execTestPulseEnd_changes s hexec
    rw [State.testPulseEnd_over htest hover] at hexec hchanges
    obtain ⟨hnone, hoff, hpulses, hok⟩ := State.endTest_holds htest Status.ok
    exact ⟨_, hexec, hnone, hoff, hpulses, hok, hchanges⟩
  case clears =>
    have hexec : exec (.fireErrorClear sess) s = .next _ := State.runCmd_accepts hgate rfl
    obtain ⟨hmeasured, houtside, hmin, hmax⟩ := s.fireErrorClearCmd_reg_zero
    exact ⟨_, hexec, hmeasured, houtside, hmin, hmax, State.cmdSet_answered .., execFireErrorClear_changes sess s hexec⟩
  case edge =>
    have hexec : exec (.readbackEdge o level) s = .next (s.readbackEdge o level) := guardUnit_carried (decide_eq_true ho) _ _
    have hchanges := execReadbackEdge_changes o level s hexec
    rw [State.readbackEdge, if_neg hread] at hexec hchanges
    refine ⟨_, hexec, ?_, fun m hm => ?_, ?_, hchanges⟩
    · rw [State.stampEdge_dirOut, State.setOut_dirOut, if_pos rfl]
    · rw [State.stampEdge_dirOut, State.setOut_dirOut, if_neg hm]
    · exact State.stampEdge_pulses ..
end

section
/-! PROOFS. Encoder supplies and auxiliary samples (R303 to R305). -/
namespace Sys2Proof.Machine

theorem K.encoderSupplyTrips_width {c : Nat} (hc : c < 2) : counterWidth (K.encoderSupplyTrips c) = 32 :=
  (by decide : ∀ p, p < 2 → counterWidth (K.encoderSupplyTrips p) = 32) c hc

theorem State.enc_congr {s t : State} (hfield : t.field = s.field) (c : Nat) : t.enc c = s.enc c := by
  rw [State.enc, State.enc, hfield]

theorem State.setReg_enc (s : State) (k v c : Nat) : (s.setReg k v).enc c = s.enc c := rfl

/-- The trip of a supply: its channel's latch, EncoderState and the count (R304). -/
theorem State.encTrip_trips {s : State} {c ma : Nat} (hc : c < 2) (hsupply : s.reg (K.encoderSupply c) ≠ 0)
    (hover : s.encLimit c < ma) (hlive : (s.enc c).supplyTripped = false) :
    (s.encTrip c ma).enc c = { s.enc c with supplyTripped := true } ∧ (∀ d, d ≠ c → (s.encTrip c ma).enc d = s.enc d) ∧
      (s.encTrip c ma).reg (K.encoderState c) = 2 ∧
      (s.encTrip c ma).reg (K.encoderSupplyTrips c) = (s.reg (K.encoderSupplyTrips c) + 1) % 2 ^ 32 := by
  rw [State.encTrip, if_pos ⟨hsupply, hover, hlive⟩]
  have hne : K.encoderState c ≠ K.encoderSupplyTrips c :=
    K.ne_of_index (K.encoderState_index c) (K.encoderSupplyTrips_index c) (by decide)
  have henc : ∀ d, (((((s.setEnc c { s.enc c with supplyTripped := true }).setReg (K.encoderState c) 2).bump
      (K.encoderSupplyTrips c)).report FCode.encoderSupply Unit.field (c + 65536 * min (2 ^ 32 - 1) ma)).enc d) =
        (s.setEnc c { s.enc c with supplyTripped := true }).enc d :=
    fun d => State.enc_congr (by simp only [State.report_same, State.bump_same, State.setReg_same]) d
  refine ⟨?_, fun d hd => ?_, ?_, ?_⟩
  · rw [henc, State.setEnc_enc, if_pos rfl]
  · rw [henc, State.setEnc_enc, if_neg hd]
  · rw [State.report_reg _ _ _ _ _ _ _ _ (Entries.has_index_false (K.encoderState_index c) (by decide)), State.bump_reg,
      if_neg hne, State.setReg_get]
  · rw [State.report_reg _ _ _ _ _ _ _ _ (Entries.has_index_false (K.encoderSupplyTrips_index c) (by decide)),
      State.bump_reg, if_pos rfl, K.encoderSupplyTrips_width hc, State.setReg_ne _ _ hne.symm, State.setEnc_reg]

theorem State.encResetCmd_tripped {s : State} {c : Nat} (hc : c < 2) (htripped : (s.enc c).supplyTripped = true) :
    s.encResetCmd c = ((s.setEnc c { s.enc c with supplyTripped := false }).setReg (K.encoderState c)
      (bitNat (s.encUsed c))).cmdOk K.encoderSupplyReset := by
  rw [State.encResetCmd, if_neg (by omega), if_pos htripped]

/-! ### Auxiliary samples -/

/-- An auxiliary channel at a sample: its reading is checked (R303), and its period begins anew. -/
def State.auxChecked (s : State) (c : Nat) (r : EncRead) : State :=
  ((s.setEnc c { s.enc c with lastAux := s.tick }).encCheck c r).2

/-- A sample that is due and not flagged is taken. -/
theorem State.auxSample_good {s : State} {c : Nat} {r : EncRead} (henabled : s.flag (K.auxEnable c) = true)
    (hdue : (s.enc c).lastAux + s.reg (K.auxSamplePeriod c) / 4 ≤ s.tick) (hruns : s.timeRuns = true)
    (hgood : (s.encCheck c r).1 = false) :
    s.auxSample c r = (s.auxChecked c r).auxTake c ((s.auxChecked c r).encPosition c r) := by
  have hunflagged : ((s.setEnc c { s.enc c with lastAux := s.tick }).encCheck c r).1 = false := hgood
  rw [State.auxSample, if_pos ⟨henabled, hdue, hruns⟩]
  dsimp only
  rw [hunflagged, if_neg Bool.noConfusion, State.auxChecked]

theorem State.encCheck_enc (s : State) (c : Nat) (r : EncRead) :
    ∃ lowRuns, (s.encCheck c r).2.enc c = { s.enc c with lowRuns } := by
  refine ⟨if r.idleHigh then 0 else (s.enc c).lowRuns + 1, ?_⟩
  simp only [State.encCheck, apply_ite (fun t : State => t.enc c), State.setReg_enc, State.setEnc_enc, if_true, ite_self]

section
variable (s : State) (c : Nat) (r : EncRead)

theorem State.auxChecked_enc : ∃ lowRuns, (s.auxChecked c r).enc c = { s.enc c with lastAux := s.tick, lowRuns } := by
  obtain ⟨lowRuns, henc⟩ := (s.setEnc c { s.enc c with lastAux := s.tick }).encCheck_enc c r
  exact ⟨lowRuns, by rw [State.auxChecked, henc, State.setEnc_enc, if_pos rfl]⟩

/-- The check of a reading leaves every entry but the counters, the raw word and the state of the channels. -/
theorem State.auxChecked_reg {k : Nat} (hk : (Entries.only [0x100F, 0x1010, 0x1011, 0x1012, 0x1013]).has k = false) :
    (s.auxChecked c r).reg k = s.reg k := by
  rw [State.auxChecked, State.encCheck_reg _ _ _ _ hk, State.setEnc_reg]

theorem State.auxChecked_encBits : (s.auxChecked c r).encBits c = s.encBits c := by
  rw [State.encBits, s.auxChecked_reg c r (Entries.has_index_false (K.encoderWordLength_index c) (by decide)),
    s.auxChecked_reg c r (Entries.has_index_false (K.encoderStatusBits_index c) (by decide)), State.encBits]

theorem State.auxChecked_encPosition : (s.auxChecked c r).encPosition c r = s.encPosition c r := by
  simp only [State.encPosition, State.auxChecked_encBits,
    s.auxChecked_reg c r (Entries.has_index_false (K.encoderStatusBits_index c) (by decide)),
    s.auxChecked_reg c r (Entries.has_index_false (K.encoderCoding_index c) (by decide))]

theorem State.auxChecked_auxPosition : (s.auxChecked c r).reg (K.auxPosition c) = s.reg (K.auxPosition c) :=
  s.auxChecked_reg c r (Entries.has_index_false (K.auxPosition_index c) (by decide))
end

/-- The first sample of a channel, or the first after a change of its word's format. -/
theorem State.auxTake_first {s : State} {c : Nat} (w : Nat) (hprev : (s.enc c).wPrev = none) :
    (s.auxTake c w).reg (K.auxPosition c) = (if (s.enc c).win = [] then 0 else s.reg (K.auxPosition c)) ∧
      ∃ win, (s.auxTake c w).enc c = { s.enc c with wPrev := some w, win } := by
  simp only [State.auxTake, hprev]
  exact ⟨(State.setEnc_reg ..).trans (State.setReg_get ..), _, (State.setEnc_enc ..).trans (if_pos rfl)⟩

/-- A further sample moves the position by the unwrapped difference. -/
theorem State.auxTake_next {s : State} {c w prev : Nat} (hprev : (s.enc c).wPrev = some prev)
    (hnear : (unwrap (s.encBits c) w prev).natAbs ≤ 2 ^ (s.encBits c - 2)) :
    (s.auxTake c w).reg (K.auxPosition c) =
        unsigned 64 (signed 64 (s.reg (K.auxPosition c)) + unwrap (s.encBits c) w prev) ∧
      ∃ win, (s.auxTake c w).enc c = { s.enc c with wPrev := some w, win } := by
  simp only [State.auxTake, hprev, if_neg (Nat.not_lt.mpr hnear)]
  exact ⟨(State.setEnc_reg ..).trans (State.setReg_get ..), _, (State.setEnc_enc ..).trans (if_pos rfl)⟩

end Sys2Proof.Machine

open Sys2Proof Sys2Proof.Machine

/-- Settles O29: a sample's check leaves the position and the format of its channel as they were. -/
theorem encodersAreSuppliedAndRead : Obligations.EncodersAreSuppliedAndRead := by
  refine ⟨fun s c ma hc hsupply hover hlive => ?trips, fun s sess c hgate hc htripped => ?resets,
    fun s c r hc henabled hdue hruns hgood hprev => ?first, fun s c w r hc henabled hdue hruns hgood hprev hnear => ?next⟩
  case trips =>
    have hexec : exec (.encoderSupplyTrip c ma) s = .next (s.encTrip c ma) := guardUnit_carried (decide_eq_true hc) _ _
    obtain ⟨henc, hothers, hstate, hcounted⟩ := State.encTrip_trips hc hsupply hover hlive
    exact ⟨_, hexec, henc, hothers, hstate, hcounted, execEncoderSupplyTrip_changes c ma s hexec⟩
  case resets =>
    have hexec : exec (.encoderSupplyReset sess c) s = .next _ :=
      State.runCmd_accepts hgate (State.encResetCmd_tripped hc htripped)
    refine ⟨_, hexec, ?_, fun d hd => ?_, ?_, State.cmdSet_answered .., execEncoderSupplyReset_changes sess c s hexec⟩
    · exact (State.setEnc_enc ..).trans (if_pos rfl)
    · exact (State.setEnc_enc ..).trans (if_neg hd)
    · exact State.setReg_get ..
  case first =>
    have hexec : exec (.auxSample c r) s = .next (s.auxSample c r) := guardUnit_carried (decide_eq_true hc) _ _
    have hchanges := execAuxSample_changes c r s hexec
    rw [State.auxSample_good henabled hdue hruns hgood, State.auxChecked_encPosition] at hexec hchanges
    obtain ⟨low, hchecked⟩ := s.auxChecked_enc c r
    obtain ⟨hpos, win, henc⟩ :=
      (s.auxChecked c r).auxTake_first (c := c) (s.encPosition c r) (by rw [hchecked]; exact hprev)
    rw [hchecked] at hpos henc
    exact ⟨_, hexec, by rw [hpos, State.auxChecked_auxPosition], by rw [henc], by rw [henc], hchanges⟩
  case next =>
    have hexec : exec (.auxSample c r) s = .next (s.auxSample c r) := guardUnit_carried (decide_eq_true hc) _ _
    have hchanges := execAuxSample_changes c r s hexec
    rw [State.auxSample_good henabled hdue hruns hgood, State.auxChecked_encPosition] at hexec hchanges
    obtain ⟨low, hchecked⟩ := s.auxChecked_enc c r
    obtain ⟨hpos, win, henc⟩ := (s.auxChecked c r).auxTake_next (c := c) (w := s.encPosition c r) (prev := w)
      (by rw [hchecked]; exact hprev) (by rw [State.auxChecked_encBits]; exact hnear)
    exact ⟨_, hexec, by rw [hpos, State.auxChecked_auxPosition, State.auxChecked_encBits], by rw [henc], hchanges⟩
end

section
/-! PROOFS. How the field inputs are read (R280, R281), and the sensor supply (R283). -/
namespace Sys2Proof.Machine

theorem K.inputEdgeCount_width {n : Nat} (hn : n < 32) : counterWidth (K.inputEdgeCount n) = 32 :=
  (by decide : ∀ p, p < 32 → counterWidth (K.inputEdgeCount p) = 32) n hn

theorem State.setInput_input_same (s : State) (n : Nat) (x : Input) : (s.setInput n x).input n = x := by
  rw [State.setInput_input, if_pos rfl]

/-- What an edge of an input leaves: the input's level and the level bit read it, no candidate waits, it is counted, and no
other input changes. -/
structure InputRead (s t : State) (n : Nat) (level : Bool) : Prop where
  reads : (t.input n).level = level
  cand : (t.input n).cand = none
  raw : (t.input n).raw = (s.input n).raw
  others : ∀ m, m ≠ n → t.input m = s.input m
  levels : t.reg K.inputLevels = putBit (s.reg K.inputLevels) n level
  count : t.reg (K.inputEdgeCount n) = (s.reg (K.inputEdgeCount n) + 1) % 2 ^ 32

section
variable {s t u : State} {n : Nat} {level : Bool}

/-- A step that leaves the field, the levels and the counts keeps what the edge left. -/
theorem InputRead.after (h : InputRead s t n level) (hfield : u.field = t.field)
    (hreg : ∀ k, k = K.inputLevels ∨ k = K.inputEdgeCount n → u.reg k = t.reg k) : InputRead s u n level := by
  have hinput : ∀ m, u.input m = t.input m := fun m => by rw [State.input, State.input, hfield]
  exact ⟨by rw [hinput, h.reads], by rw [hinput, h.cand], by rw [hinput, h.raw], fun m hm => by rw [hinput, h.others m hm],
    by rw [hreg _ (.inl rfl), h.levels], by rw [hreg _ (.inr rfl), h.count]⟩

theorem InputRead.of_ite {c : Prop} [Decidable c] (ht : InputRead s t n level) (hu : InputRead s u n level) :
    InputRead s (if c then t else u) n level := by
  split
  · exact ht
  · exact hu

/-- The levels and the counts are no entries of a list that names neither. -/
theorem K.inputRead_spared {is : List Nat} {k : Nat} (hk : k = K.inputLevels ∨ k = K.inputEdgeCount n)
    (hlevels : ∀ j ∈ is, j ≠ 0x0E04 ∧ j / 256 ≠ 0x0E04) (hcount : ∀ j ∈ is, j ≠ 0x0E06 ∧ j / 256 ≠ 0x0E06) :
    (Entries.only is).has k = false := by
  obtain rfl | rfl := hk
  · exact Entries.has_index_false K.inputLevels_index hlevels
  · exact Entries.has_index_false (K.inputEdgeCount_index n) hcount

/-- The edge itself: the level, its bit and its count. -/
theorem InputRead.taken (hn : n < 32) : InputRead s (((s.setInput n { s.input n with level, cand := none }).setReg
    K.inputLevels (putBit (s.reg K.inputLevels) n level)).bump (K.inputEdgeCount n)) n level := by
  have hne : K.inputLevels ≠ K.inputEdgeCount n :=
    K.ne_of_index K.inputLevels_index (K.inputEdgeCount_index n) (by decide)
  have hinput : ∀ m, (((s.setInput n { s.input n with level, cand := none }).setReg K.inputLevels
      (putBit (s.reg K.inputLevels) n level)).bump (K.inputEdgeCount n)).input m =
        (s.setInput n { s.input n with level, cand := none }).input m := fun m => rfl
  refine ⟨?_, ?_, ?_, fun m hm => ?_, ?_, ?_⟩
  · rw [hinput, State.setInput_input_same]
  · rw [hinput, State.setInput_input_same]
  · rw [hinput, State.setInput_input_same]
  · rw [hinput, State.setInput_input, if_neg hm]
  · rw [State.bump_reg, if_neg hne, State.setReg_get]
  · rw [State.bump_reg, if_pos rfl, K.inputEdgeCount_width hn, State.setReg_ne _ _ hne.symm, State.setInput_reg]

/-- The latch of a fast counter at the edge. -/
theorem InputRead.latch (h : InputRead s t n level) (c v w : Nat) :
    InputRead s ((t.setReg (K.fastCounterLatched c) v).setReg (K.fastCounterLatchPosition c) w) n level := by
  refine h.after rfl fun k hk => ?_
  have hlatched : k ≠ K.fastCounterLatched c := by
    obtain rfl | rfl := hk
    · exact K.ne_of_index K.inputLevels_index (K.fastCounterLatched_index c) (by decide)
    · exact K.ne_of_index (K.inputEdgeCount_index n) (K.fastCounterLatched_index c) (by decide)
  have hposition : k ≠ K.fastCounterLatchPosition c := by
    obtain rfl | rfl := hk
    · exact K.ne_of_index K.inputLevels_index (K.fastCounterLatchPosition_index c) (by decide)
    · exact K.ne_of_index (K.inputEdgeCount_index n) (K.fastCounterLatchPosition_index c) (by decide)
  rw [State.setReg_ne _ _ hposition, State.setReg_ne _ _ hlatched]

/-- The record of an edge notes its tick with the input and leaves the rest of it. -/
theorem InputRead.noted (h : InputRead s t n level) (tick : Nat) :
    InputRead s (t.setInput n { t.input n with lastRec := some tick }) n level := by
  refine ⟨?_, ?_, ?_, fun m hm => ?_, h.levels, h.count⟩
  · rw [State.setInput_input_same, h.reads]
  · rw [State.setInput_input_same, h.cand]
  · rw [State.setInput_input_same, h.raw]
  · rw [State.setInput_input, if_neg hm, h.others m hm]

end

/-- Wake-up, latches and record leave what the edge of an input leaves. -/
theorem State.inputEdge_read (s : State) {n : Nat} (hn : n < 32) (level : Bool) (tick ibp : Nat) (fc : List Nat) :
    InputRead s (s.inputEdge n level tick ibp fc) n level := by
  unfold State.inputEdge
  extract_lets x levelled counted woken latched mode near
  have hcounted : InputRead s counted n level := InputRead.taken (s := s) (level := level) hn
  have hwoken : InputRead s woken n level := .of_ite (hcounted.after (by simp only [State.wake_same])
    fun k hk => State.wake_reg _ _ _ _ (K.inputRead_spared hk (by decide) (by decide))) hcounted
  have hlatched : InputRead s latched n level :=
    .of_ite (List.foldlRecOn (motive := (InputRead s · n level)) _ _ hwoken
      fun t ht c _ => .of_ite (ht.latch c _ _) ht) hwoken
  clear_value latched
  refine .of_ite (.of_ite ?suppressed ?recorded) hlatched
  case suppressed =>
    refine hlatched.after rfl fun k hk => (State.bump_reg ..).trans (if_neg ?_)
    obtain rfl | rfl := hk
    · exact K.ne_of_index K.inputLevels_index (K.inputRecordsSuppressed_index n) (by decide)
    · exact K.ne_of_index (K.inputEdgeCount_index n) (K.inputRecordsSuppressed_index n) (by decide)
  case recorded =>
    exact (hlatched.noted tick).after ((State.emit_changes _ _).areas .field rfl)
      fun k hk => State.emit_reg _ _ _ (K.inputRead_spared hk (by decide) (by decide))

theorem State.setInput_timeRuns (s : State) (n : Nat) (x : Input) : (s.setInput n x).timeRuns = s.timeRuns := rfl

/-- The terminal of an input at its new level. -/
def State.rawLevel (s : State) (n : Nat) (level : Bool) : State :=
  s.setInput n { s.input n with raw := level, rawSince := s.tick }

section
variable {s : State} {n : Nat} {level : Bool} (hraw : (s.input n).raw ≠ level)
include hraw

theorem State.rawEdge_stopped (hruns : s.timeRuns = false) : s.rawEdge n level = s.rawLevel n level := by
  rw [State.rawEdge, if_neg hraw]
  exact if_pos hruns

theorem State.rawEdge_idle (hruns : s.timeRuns = true) (hlevel : (s.input n).level ≠ level)
    (hmode : s.reg (K.inputMode n) = 0) :
    s.rawEdge n level = (s.rawLevel n level).inputEdge n level s.tick s.belt.ibp (s.rawLevel n level).fastCounts := by
  simp only [State.rawEdge, if_neg hraw, State.setInput_timeRuns, hruns, Bool.true_eq_false, if_false, State.setInput_reg,
    hmode, if_neg hlevel]
  rfl

theorem State.rawEdge_filtered (hruns : s.timeRuns = true) (hlevel : (s.input n).level ≠ level)
    (hmode : s.reg (K.inputMode n) = 1) :
    s.rawEdge n level = (s.rawLevel n level).setInput n { (s.rawLevel n level).input n with
      cand := some s.tick, candIbp := s.belt.ibp, candFc := (s.rawLevel n level).fastCounts } := by
  simp only [State.rawEdge, if_neg hraw, State.setInput_timeRuns, hruns, Bool.true_eq_false, if_false, State.setInput_reg,
    hmode, if_neg hlevel]
  rfl
end

/-- The window of a PULSED input is read. -/
def State.windowRead (s : State) (n : Nat) : State := s.setInput n { s.input n with read := some s.tick }

theorem State.pulseWindow_differs {s : State} {n : Nat} {level : Bool} (hretain : s.power.st ≠ .retain)
    (hstandby : s.power.st ≠ .standby) (hmode : s.reg (K.inputMode n) = 2) (hdue : s.windowDue n = true)
    (hlevel : (s.input n).level ≠ level) :
    s.pulseWindow n level = (s.windowRead n).inputEdge n level s.tick s.belt.ibp (s.windowRead n).fastCounts := by
  have hstill : ¬ ((s.windowRead n).input n).level = level := by
    rw [State.windowRead, State.setInput_input_same]
    exact hlevel
  rw [State.pulseWindow, if_neg (not_or.mpr ⟨hretain, hstandby⟩), if_pos ⟨hmode, hdue⟩]
  exact if_neg hstill

end Sys2Proof.Machine

open Sys2Proof Sys2Proof.Machine

/-- Settles O26: an edge of an input, however it is confirmed, leaves the same level, level bit and count. -/
theorem inputsAreRead : Obligations.InputsAreRead := by
  refine ⟨fun s n level hn hruns hraw hlevel hmode => ?idle, fun s n level hn hruns hraw hlevel hmode => ?filtered,
    fun s n level hn hruns hraw => ?stopped, fun s n t0 hn hcand hmode hlater hheld => ?confirmed,
    fun s n level hn hretain hstandby hlevel hmode hdue => ?window, fun s ma hover hlive => ?trips, fun s sess hgate => ?resets⟩
  case idle =>
    have hexec : exec (.inputRawEdge n level) s = .next (s.rawEdge n level) := guardUnit_carried (decide_eq_true hn) _ _
    have hchanges := execInputRawEdge_changes n level s hexec
    rw [State.rawEdge_idle hraw hruns hlevel hmode] at hexec hchanges
    obtain ⟨hreads, -, hterminal, hothers, hlevels, hcount⟩ := (s.rawLevel n level).inputEdge_read hn level s.tick s.belt.ibp
      (s.rawLevel n level).fastCounts
    refine ⟨_, hexec, ?_, hreads, hlevels, hcount, fun m hm => ?_, hchanges⟩
    · rw [hterminal, State.rawLevel, State.setInput_input_same]
    · rw [hothers m hm, State.rawLevel, State.setInput_input, if_neg hm]
  case filtered =>
    have hexec : exec (.inputRawEdge n level) s = .next (s.rawEdge n level) := guardUnit_carried (decide_eq_true hn) _ _
    have hchanges := execInputRawEdge_changes n level s hexec
    rw [State.rawEdge_filtered hraw hruns hlevel hmode] at hexec hchanges
    refine ⟨_, hexec, ?_, rfl, hchanges⟩
    rw [State.setInput_input_same, State.rawLevel, State.setInput_input_same]
    rfl
  case stopped =>
    have hexec : exec (.inputRawEdge n level) s = .next (s.rawEdge n level) := guardUnit_carried (decide_eq_true hn) _ _
    rw [State.rawEdge_stopped hraw hruns] at hexec
    refine ⟨_, hexec, ?_, ?_, State.setInput_changes ..⟩
    · rw [State.rawLevel, State.setInput_input_same]
    · rw [State.rawLevel, State.setInput_input_same]
  case confirmed =>
    have hexec : exec (.inputFilterExpiry n) s = .next (s.filterExpiry n) := guardUnit_carried (decide_eq_true hn) _ _
    have hchanges := execInputFilterExpiry_changes n s hexec
    have hconfirms : s.filterExpiry n = s.inputEdge n (s.input n).raw t0 (s.input n).candIbp (s.input n).candFc := by
      simp only [State.filterExpiry, hcand]
      exact if_pos ⟨hmode, hlater, hheld⟩
    rw [hconfirms] at hexec hchanges
    obtain ⟨hreads, hnone, -, -, hlevels, hcount⟩ :=
      s.inputEdge_read hn (s.input n).raw t0 (s.input n).candIbp (s.input n).candFc
    exact ⟨_, hexec, hreads, hnone, hlevels, hcount, hchanges⟩
  case window =>
    have hexec : exec (.pulseWindowEnd n level) s = .next (s.pulseWindow n level) := guardUnit_carried (decide_eq_true hn) _ _
    have hchanges := execPulseWindowEnd_changes n level s hexec
    rw [State.pulseWindow_differs hretain hstandby hmode hdue hlevel] at hexec hchanges
    obtain ⟨hreads, -, -, -, hlevels, -⟩ := (s.windowRead n).inputEdge_read hn level s.tick s.belt.ibp
      (s.windowRead n).fastCounts
    exact ⟨_, hexec, hreads, hlevels, hchanges⟩
  case trips =>
    have hexec : exec (.sensorSupplyTrip ma) s = .next (s.sensorTrip ma) := rfl
    have hchanges := execSensorSupplyTrip_changes ma s hexec
    rw [State.sensorTrip, if_pos ⟨hover, hlive⟩] at hexec hchanges
    refine ⟨_, hexec, ?_, ?_, hchanges⟩
    · rw [State.report_reg _ _ _ _ _ _ _ _ (by decide), State.bump_reg, if_neg (by decide), State.setReg_get]
    · rw [State.report_reg _ _ _ _ _ _ _ _ (by decide), State.bump_reg, if_pos rfl, K.sensorSupplyTrips_width,
        State.setReg_ne _ _ (by decide)]
  case resets =>
    have hexec : exec (.sensorSupplyReset sess) s = .next _ := State.runCmd_accepts hgate rfl
    exact ⟨_, hexec, State.setReg_get .., State.cmdSet_answered .., execSensorSupplyReset_changes sess s hexec⟩
end

section
/-! PROOFS. The commands of the camera intake: restart, drain, eye scan and camera registers (R84, R86, R96, R98). -/
namespace Sys2Proof.Machine

/-! ### Bringing a stream up writes no other stream -/

section
variable (s : State) (l i : Nat)

theorem State.dropCtl_stream : (s.dropCtl l).stream i = s.stream i := by
  unfold State.dropCtl
  split
  · exact State.setCam_stream ..
  · exact State.setCam_stream ..

theorem State.startLink_stream : (s.startLink l).stream i = s.stream i := by
  unfold State.startLink State.toDiscovery
  dsimp only
  split
  · simp only [State.setCam_stream, State.setReg_stream, State.dropCtl_stream]
  · simp only [State.setCam_stream, State.setReg_stream, State.dropCtl_stream]

/-- Step 1 of R86: the stream starts with the links that StreamLinks names. -/
theorem State.startStream_stream (j : Nat) : (s.startStream j).stream i =
    if i = j then { st := .starting, links := s.streamLinkList j, master := (s.streamLinkList j).headD 0
                    lines := (s.stream j).lines, highest := (s.stream j).highest, first := (s.stream j).first
                    heldHigh := s.heldToHigh j }
    else s.stream i := by
  unfold State.startStream
  dsimp only
  rw [foldl_view (fun t : State => t.stream i) _ _ _ fun t m => t.startLink_stream m i, State.setStream_stream]

theorem State.startFree_stream_ne {j : Nat} (hne : i ≠ j) : (s.startFree j).stream i = s.stream i := by
  unfold State.startFree
  dsimp only
  split
  · rw [State.startStream_stream, if_neg hne]
  · rfl
end

theorem State.startFree_none {s : State} {i : Nat} (hnone : s.streamLinkList i = []) : s.startFree i = s :=
  if_neg fun ⟨hmine, _⟩ => hmine hnone

theorem State.streamLinkList_congr {s t : State} {i : Nat} (hreg : t.reg (K.streamLinks i) = s.reg (K.streamLinks i)) :
    t.streamLinkList i = s.streamLinkList i := by
  rw [State.streamLinkList, State.streamLinkList, hreg]

theorem State.startFree_streamLinkList (s : State) (i j : Nat) : (s.startFree j).streamLinkList i = s.streamLinkList i :=
  State.streamLinkList_congr (State.startFree_reg _ _ _ (Entries.has_index_false (K.streamLinks_index i) (by decide)))

/-- A stream without links stays as it is when the streams that wait for links are started. -/
theorem State.startFree_all_stream {s : State} {i : Nat} (hnone : s.streamLinkList i = []) (L : List Nat) :
    (L.foldl (fun s j => s.startFree j) s).stream i = s.stream i := by
  induction L generalizing s with
  | nil => rfl
  | cons j L ih =>
    rw [List.foldl_cons, ih (by rw [State.startFree_streamLinkList, hnone])]
    by_cases hj : i = j
    · rw [← hj, State.startFree_none hnone]
    · exact s.startFree_stream_ne i hj

/-! ### The end of a drain (R84) -/

/-- A stream whose lines are settled, whose camera is stopped and whose links are idle or under test. -/
def State.unlinked (s : State) (i : Nat) : State :=
  (s.stream i).links.foldl (fun s l => if s.reg (K.linkTest l) = 0 then s.idleLink l else s.testLink l)
    ((s.missIncomplete i).sendUplink (s.stream i).master ((s.missIncomplete i).cam (s.stream i).master).tag
      CtlOp.acqStop.code (s.stream i).stopAddr (leBytes 4 1))

/-- The stream is off. -/
def State.drained (s : State) (i : Nat) : State :=
  (s.unlinked i).setStream i { st := .off, lines := ((s.unlinked i).stream i).lines, highest := (s.stream i).highest
                               first := (s.stream i).first }

theorem State.drainEnd_over {s : State} {i t0 : Nat} (hdrain : (s.stream i).drainAt = some t0)
    (hover : t0 + 250000 ≤ s.tick) : s.drainEnd i = (List.range 16).foldl (fun s j => s.startFree j) (s.drained i) := by
  simp only [State.drainEnd, hdrain]
  exact if_pos hover

theorem State.drained_streamLinkList (s : State) (i : Nat) : (s.drained i).streamLinkList i = s.streamLinkList i := by
  have hkey := K.streamLinks_index i
  refine State.streamLinkList_congr ?_
  rw [State.drained, State.setStream_reg _ _ _ _ (Entries.has_index_false hkey (by decide)), State.unlinked]
  refine (foldl_view (fun t : State => t.reg (K.streamLinks i)) _ _ _ fun t l => ?_).trans ?_
  · show State.reg (if _ then _ else _) _ = _
    split
    · exact State.idleLink_reg _ _ _ (Entries.has_index_false hkey (by decide))
    · exact State.testLink_reg _ _ _ (Entries.has_index_false hkey (by decide))
  · exact (State.sendUplink_reg ..).trans (State.missIncomplete_reg _ _ _ _ (Entries.has_index_false hkey (by decide)))

theorem State.drainEnd_stream {s : State} {i t0 : Nat} (hdrain : (s.stream i).drainAt = some t0)
    (hover : t0 + 250000 ≤ s.tick) (hnone : s.streamLinkList i = []) :
    ∃ lines, (s.drainEnd i).stream i =
      { st := .off, lines, highest := (s.stream i).highest, first := (s.stream i).first } := by
  rw [State.drainEnd_over hdrain hover, State.startFree_all_stream (by rw [State.drained_streamLinkList, hnone]),
    State.drained, State.setStream_stream, if_pos rfl]
  exact ⟨_, rfl⟩

/-! ### The commands -/

theorem State.streamRestartCmd_failed {s : State} {i : Nat} (hi : i < 16) (hst : (s.stream i).st = .failed) :
    s.streamRestartCmd i = (s.startStream i).cmdOk K.streamRestart := by
  rw [State.streamRestartCmd, if_neg (Nat.not_le.mpr hi), if_pos hst]

theorem State.streamRestartCmd_other {s : State} {i : Nat} (hi : i < 16) (hst : (s.stream i).st ≠ .failed) :
    s.streamRestartCmd i = (Status.contextState, s) := by
  rw [State.streamRestartCmd, if_neg (Nat.not_le.mpr hi), if_neg hst]

/-- The eye scan of a link that starts now, with the dwell and the rate in force. -/
def State.eyeScanOf (s : State) (l : Nat) : EyeScan :=
  { link := l, start := s.tick, dwell := s.reg K.eyeScanDwell
    rate := if (s.cam l).st = .loopback then s.reg (K.linkRateMax l) else s.reg (K.linkRate l) }

theorem State.eyeScanCmd_begins {s : State} {l : Nat} (hlink : s.hasLink l = true)
    (hst : (s.cam l).st = .up ∨ (s.cam l).st = .loopback) :
    s.eyeScanCmd l =
      ({ s with intake := { s.intake with scan := some (s.eyeScanOf l) } } : State).cmdBegin K.eyeScan := by
  have hup : ¬ ((s.cam l).st ≠ .up ∧ (s.cam l).st ≠ .loopback) := fun ⟨hup, hloop⟩ => hst.elim hup hloop
  rw [State.eyeScanCmd, if_neg (by rw [hlink]; exact Bool.noConfusion), if_neg hup]
  rfl

/-- An eye scan at its end: the map, and the opening that it shows. -/
def State.eyeMapped (s : State) (map : List Byte) (width height : Nat) : State :=
  (((({ s with intake := { s.intake with scan := none } } : State).setBlob K.eyeMap map).setReg K.eyeWidth width).setReg
    K.eyeHeight height).cmdSet K.eyeScan Status.ok

theorem State.eyeMapped_holds (s : State) (map : List Byte) (width height : Nat) :
    (s.eyeMapped map width height).intake.scan = none ∧ (s.eyeMapped map width height).blob K.eyeMap = map ∧
      (s.eyeMapped map width height).reg K.eyeWidth = width ∧ (s.eyeMapped map width height).reg K.eyeHeight = height ∧
      (s.eyeMapped map width height).cmdRead K.eyeScan = Status.ok := by
  refine ⟨rfl, State.setBlob_get .., ?_, ?_, State.cmdSet_cmdRead ..⟩
  · exact (State.setReg_ne _ _ (by decide)).trans (State.setReg_get ..)
  · exact State.setReg_get ..

theorem State.eyeScanEnd_over {s : State} {map : List Byte} {c : EyeScan} {w h : Nat} (hscan : s.intake.scan = some c)
    (hover : 4096 * c.dwell * 1000000 ≤ 4 * (s.tick - c.start) * laneRate c.rate)
    (hw : w = eyeWidthOf (fitBytes 8192 map)) (hh : h = eyeHeightOf (fitBytes 8192 map)) :
    s.eyeScanEnd map w h = s.eyeMapped (fitBytes 8192 map) w h := by
  simp only [State.eyeScanEnd, hscan]
  exact if_pos ⟨hover, hw, hh⟩

theorem State.cameraRegCmd_sends {s : State} {i : Nat} (hi : s.reg K.cameraRegStream = i) (hoff : (s.stream i).st ≠ .off)
    (hfailed : (s.stream i).st ≠ .failed) (hlinks : (s.stream i).links ≠ []) (write : Bool) :
    s.cameraRegCmd write = (s.camCtl (s.stream i).master (if write then .regWrite else .regRead) (s.reg K.cameraRegAddress)
      (if write then s.blob K.cameraRegData else [])).cmdBegin K.cameraRegCommand := by
  subst hi
  exact if_neg (not_or.mpr ⟨hoff, not_or.mpr ⟨hfailed, hlinks⟩⟩)

theorem State.answered_cam (s : State) (sess k v st l : Nat) : ((s.cmdSet k v).answer sess k st).cam l = s.cam l := rfl

/-- A camera register command, as its write leaves it: it joins the commands of its link. -/
theorem State.camCtl_answered (s : State) (l sess k st : Nat) (op : CtlOp) (addr : Nat) (data : List Byte) :
    (((s.camCtl l op addr data).cmdSet k st).answer sess k Status.ok).cam l =
      { s.cam l with tag := ((s.cam l).tag + 1) % 256
                     ctl := (s.cam l).ctl ++ [{ tag := (s.cam l).tag, op, addr, data, sentAt := s.tick }] } :=
  (State.answered_cam ..).trans ((State.camCtl_cam ..).trans (if_pos rfl))

end Sys2Proof.Machine

open Sys2Proof Sys2Proof.Machine

/-- Settles O15: a restarted stream takes the links that StreamLinks names, and a drained one that names none stays off. -/
theorem cameraCommandsRun : Obligations.CameraCommandsRun := by
  refine ⟨fun s sess i hgate hi hst => ?restarts, fun s sess i hgate hi hst => ?refused,
    fun s i t0 hi hdrain hover hnone => ?drains, fun s sess l hgate hlink hst => ?scans,
    fun s map w h c hscan hup hover hw hh => ?mapped, fun s sess i m hgate hi hoff hfailed hlinks hmaster => ?reads,
    fun s sess i m hgate hi hoff hfailed hlinks hmaster => ?writes⟩
  case restarts =>
    have hexec : exec (.streamRestart sess i) s = .next _ := State.runCmd_accepts hgate (State.streamRestartCmd_failed hi hst)
    have hstream : (((s.startStream i).cmdSet K.streamRestart Status.ok).answer sess K.streamRestart Status.ok).stream i =
        (s.startStream i).stream i := rfl
    refine ⟨_, hexec, ?_, ?_, State.cmdSet_answered .., execStreamRestart_changes sess i s hexec⟩
    · rw [hstream, State.startStream_stream, if_pos rfl]
    · rw [hstream, State.startStream_stream, if_pos rfl]
  case refused => exact State.runCmd_accepts hgate (State.streamRestartCmd_other hi hst)
  case drains =>
    have hexec : exec (.streamDisableDrainEnd i) s = .next (s.drainEnd i) := guardUnit_carried (decide_eq_true hi) _ _
    obtain ⟨lines, hstream⟩ := State.drainEnd_stream hdrain hover hnone
    exact ⟨_, hexec, by rw [hstream], by rw [hstream], by rw [hstream], execStreamDisableDrainEnd_changes i s hexec⟩
  case scans =>
    have hexec : exec (.eyeScan sess l) s = .next _ := State.runCmd_accepts hgate (State.eyeScanCmd_begins hlink hst)
    exact ⟨_, hexec, rfl, State.cmdSet_answered .., execEyeScan_changes sess l s hexec⟩
  case mapped =>
    have hexec : exec (.eyeScanDone map w h) s = .next (s.eyeScanEnd map w h) := rfl
    have hchanges := execEyeScanDone_changes map w h s hexec
    rw [State.eyeScanEnd_over hscan hover hw hh] at hexec hchanges
    obtain ⟨hnone, hmap, hwidth, hheight, hok⟩ := s.eyeMapped_holds (fitBytes 8192 map) w h
    exact ⟨_, hexec, hnone, hmap, hwidth, hheight, hok, hchanges⟩
  case reads =>
    have hexec : exec (.cameraRegRead sess) s = .next _ :=
      State.runCmd_accepts hgate (State.cameraRegCmd_sends hi hoff hfailed hlinks false)
    refine ⟨_, hexec, State.cmdSet_answered .., ?_, execCameraRegRead_changes sess s hexec⟩
    rw [← hmaster]
    exact congrArg CamLink.ctl (State.camCtl_answered ..)
  case writes =>
    have hexec : exec (.cameraRegWrite sess) s = .next _ :=
      State.runCmd_accepts hgate (State.cameraRegCmd_sends hi hoff hfailed hlinks true)
    refine ⟨_, hexec, State.cmdSet_answered .., ?_, execCameraRegWrite_changes sess s hexec⟩
    rw [← hmaster]
    exact congrArg CamLink.ctl (State.camCtl_answered ..)
end

section
/-! PROOFS. BDP over UDP: a frame arrives, is answered and its response sent (R69 to R73). -/
namespace Sys2Proof.Machine

/-! ### A frame and its response -/

/-- A datagram for BdpUdpPort at a port that serves BDP. -/
structure BdpArrives (s : State) (d : Datagram) : Prop where
  eth : d.eth < 2
  port : d.dport = s.reg K.bdpUdpPort
  on : s.ethOn d.eth = true
  address : s.reg (K.ipv4Address d.eth) ≠ 0
  enabled : bitOf (s.reg K.bdpEnable) d.eth = true

/-- One that is answered: from an allowed source, with the right Magic. -/
structure BdpTaken (s : State) (d : Datagram) : Prop extends BdpArrives s d where
  fits : d.payload.length ≤ 1472
  allowed : s.bdpAllows d.src = true
  whole : 2 ≤ d.payload.length
  magic : beAt d.payload 0 2 = 0x4244

/-- The frame is counted (R403, R450). -/
def State.bdpArrived (s : State) (d : Datagram) : State := s.frameIn d.eth (s.frameLen d.eth (28 + d.payload.length))

/-- The response leaves. -/
def State.bdpSent (s : State) (d : Datagram) (r : List Byte) : State :=
  (s.send (.bdp d.eth d.src d.sport r)).portBytes false (0x64 + d.eth) (s.frameLen d.eth (28 + r.length))

section
variable (s : State) (d : Datagram)

theorem State.bdpArrived_changes : Changes [.perf] (.only [0x1306]) s (s.bdpArrived d) := State.frameIn_changes ..

theorem State.bdpArrived_ctl : (s.bdpArrived d).ctl = s.ctl := (s.bdpArrived_changes d).areas .ctl rfl

theorem State.bdpArrived_out : (s.bdpArrived d).out = s.out := (s.bdpArrived_changes d).areas .out rfl

theorem State.bdpArrived_tick : (s.bdpArrived d).tick = s.tick := (s.bdpArrived_changes d).areas .tick rfl

theorem State.bdpArrived_faults : (s.bdpArrived d).faults = s.faults := (s.bdpArrived_changes d).areas .faults rfl

theorem State.bdpArrived_power : (s.bdpArrived d).power = s.power := (s.bdpArrived_changes d).areas .power rfl

theorem State.bdpArrived_reg {k : Nat} (hk : (Entries.only [0x1306]).has k = false) : (s.bdpArrived d).reg k = s.reg k :=
  (s.bdpArrived_changes d).entries k hk

theorem State.bdpArrived_flag {k : Nat} (hk : (Entries.only [0x1306]).has k = false) :
    (s.bdpArrived d).flag k = s.flag k := by
  rw [State.flag, State.bdpArrived_reg _ _ hk, State.flag]

theorem State.bdpArrived_freeSession : (s.bdpArrived d).freeSession = s.freeSession := by
  rw [State.freeSession, State.freeSession, State.bdpArrived_ctl]

theorem State.bdpArrived_bdpAllows (src : Nat) : (s.bdpArrived d).bdpAllows src = s.bdpAllows src := by
  rw [State.bdpAllows, s.bdpArrived_reg d (k := K.bdpAllowedPrefix) (by decide),
    s.bdpArrived_reg d (k := K.bdpAllowedNetwork) (by decide), State.bdpAllows]

theorem State.bdpSent_changes (r : List Byte) : Changes [.perf, .out] (.only []) s (s.bdpSent d r) :=
  ((State.send_changes s _).mono rfl (Entries.le_of_sub rfl)).andThen (State.portBytes_changes ..) rfl
    (Entries.le_of_sub rfl)

theorem State.bdpSent_ctl (r : List Byte) : (s.bdpSent d r).ctl = s.ctl := (s.bdpSent_changes d r).areas .ctl rfl

theorem State.bdpSent_power (r : List Byte) : (s.bdpSent d r).power = s.power := (s.bdpSent_changes d r).areas .power rfl

theorem State.bdpSent_reg (r : List Byte) (k : Nat) : (s.bdpSent d r).reg k = s.reg k :=
  (s.bdpSent_changes d r).entries k (Entries.has_none k)

theorem State.bdpSent_out (r : List Byte) : (s.bdpSent d r).out = s.out ++ [.bdp d.eth d.src d.sport r] :=
  (State.portBytes_changes ..).areas .out rfl

end

section
variable {s u : State} {d : Datagram} {r : List Byte}

/-- Around an answer only the frames are counted and the response leaves. -/
theorem State.bdpExchange_changes {G : List Area} {is : List Nat} (hu : Changes G (.only is) (s.bdpArrived d) u)
    (hG : Area.sub [.perf, .out] G = true) (his : 0x1306 ∈ is) : Changes G (.only is) s (u.bdpSent d r) := by
  have hcounted : Entries.le (.only [0x1306]) (.only is) :=
    Entries.le_only fun i hi => .inl (List.mem_singleton.mp hi ▸ his)
  have hnone : Entries.le (.only []) (.only is) := Entries.le_only fun i hi => absurd hi List.not_mem_nil
  exact (((s.bdpArrived_changes d).mono (Area.sub_trans rfl hG) hcounted).trans hu).andThen (u.bdpSent_changes d r) hG hnone

theorem BdpArrives.onEth (h : BdpArrives s d) : s.onEth d.eth (fun s => s.datagram d) =
    .next (if 1472 < d.payload.length ∨ (s.bdpArrived d).bdpAllows d.src = false ∨ beAt d.payload 0 2 ≠ 0x4244 ∨
      d.payload.length < 2 then (s.bdpArrived d).bump K.bdpFramesDropped
    else (((s.bdpArrived d).wake 1 [.doze]).bdpAnswer d.payload).2.bdpSent d
      (((s.bdpArrived d).wake 1 [.doze]).bdpAnswer d.payload).1) := by
  have hserved : ¬ (s.ipv4 d.eth = 0 ∨ d.dport ≠ s.reg K.bdpUdpPort ∨ bitOf (s.reg K.bdpEnable) d.eth = false) :=
    not_or.mpr ⟨h.address, not_or.mpr ⟨not_not.mpr h.port, by rw [h.enabled]; exact Bool.noConfusion⟩⟩
  rw [State.onEth_up h.eth h.on, State.datagram, if_neg hserved]
  rfl

/-- A frame with its answer, whatever the power state. -/
theorem BdpTaken.runs (h : BdpTaken s d) (hanswer : ((s.bdpArrived d).wake 1 [.doze]).bdpAnswer d.payload = (r, u)) :
    s.onEth d.eth (fun s => s.datagram d) = .next (u.bdpSent d r) := by
  have htaken : ¬ (1472 < d.payload.length ∨ (s.bdpArrived d).bdpAllows d.src = false ∨ beAt d.payload 0 2 ≠ 0x4244 ∨
      d.payload.length < 2) := by
    rw [State.bdpArrived_bdpAllows, h.allowed]
    exact not_or.mpr ⟨Nat.not_lt.mpr h.fits, not_or.mpr ⟨Bool.noConfusion, not_or.mpr ⟨not_not.mpr h.magic,
      Nat.not_lt.mpr h.whole⟩⟩⟩
  rw [h.toBdpArrives.onEth, if_neg htaken, hanswer]

/-- A frame with its answer while the device neither dozes nor moves between power states. -/
theorem BdpTaken.runs_awake (h : BdpTaken s d) (htrans : s.power.trans = none) (hst : s.power.st ≠ .doze)
    (hanswer : (s.bdpArrived d).bdpAnswer d.payload = (r, u)) :
    s.onEth d.eth (fun s => s.datagram d) = .next (u.bdpSent d r) := by
  refine h.runs ?_
  rwa [State.wake_awake (by rwa [State.bdpArrived_power]) (by rwa [State.bdpArrived_power])]

theorem BdpArrives.dropped (h : BdpArrives s d) (hwrong : s.bdpAllows d.src = false ∨ beAt d.payload 0 2 ≠ 0x4244) :
    s.onEth d.eth (fun s => s.datagram d) = .next ((s.bdpArrived d).bump K.bdpFramesDropped) := by
  rw [h.onEth, if_pos]
  rw [State.bdpArrived_bdpAllows]
  exact .inr (hwrong.elim .inl fun hmagic => .inr (.inl hmagic))

end

/-! ### The answer by the kind of a frame -/

section
variable {s : State} {d : List Byte}

theorem State.bdpAnswer_malformed (hitems : bdpItems d 32 = none) : s.bdpAnswer d = (bdpStatus d Status.frameFormat, s) := by
  rw [State.bdpAnswer, hitems]

theorem State.bdpAnswer_unknown (hformed : (bdpItems d 32).isSome = true) (hop : bdpOp d = 0 ∨ 5 < bdpOp d) :
    s.bdpAnswer d = (bdpStatus d Status.opcodeUnknown, s) := by
  obtain ⟨items, hitems⟩ := Option.isSome_iff_exists.1 hformed
  simp only [State.bdpAnswer, hitems, if_pos hop]

theorem State.bdpAnswer_open (hformed : (bdpItems d 32).isSome = true) (hop : bdpOp d = 1) : s.bdpAnswer d = s.bdpOpen d := by
  obtain ⟨items, hitems⟩ := Option.isSome_iff_exists.1 hformed
  simp [State.bdpAnswer, hitems, hop]

theorem State.bdpAnswer_noSession (hformed : (bdpItems d 32).isSome = true) (hop : 2 ≤ bdpOp d ∧ bdpOp d ≤ 5)
    (hsessions : s.ctl.sessions = []) : s.bdpAnswer d = (bdpStatus d Status.sessionUnknown, s) := by
  obtain ⟨items, hitems⟩ := Option.isSome_iff_exists.1 hformed
  simp only [State.bdpAnswer, hitems, hsessions, List.find?_nil]
  rw [if_neg (by omega), if_neg (by omega)]

theorem State.bdpAnswer_session {items : List BdpItem} {x : Session} (hitems : bdpItems d 32 = some items)
    (hop : 2 ≤ bdpOp d ∧ bdpOp d ≤ 5) (hsessions : s.ctl.sessions = [x]) (hnum : x.num = bdpSession d) :
    s.bdpAnswer d = s.bdpInSession x d items := by
  have hfound : [x].find? (fun x => x.num == bdpSession d) = some x := by simp [hnum]
  simp only [State.bdpAnswer, hitems, hsessions, hfound]
  rw [if_neg (by omega), if_neg (by omega)]

/-- A session opens (R72). -/
def State.opened (s : State) (d : List Byte) : State :=
  { s with ctl := { s.ctl with
      nextSession := s.freeSession % 0xFFEF + 1
      sessions := s.ctl.sessions ++ [{ num := s.freeSession, seq := 0
                                       kept := bdpReply d s.freeSession 0 Status.ok 0 [], last := s.tick }] } }

theorem State.bdpOpen_opens (hserving : s.ctl.serving = true) (hstalled : s.faults.stalled = false)
    (hroom : s.ctl.sessions.length < 8) : s.bdpOpen d = (bdpReply d s.freeSession 0 Status.ok 0 [], s.opened d) := by
  rw [State.bdpOpen, if_neg (by simp [hserving, hstalled]), if_neg (Nat.not_le.mpr hroom)]
  rfl

theorem State.bdpOpen_full (hserving : s.ctl.serving = true) (hstalled : s.faults.stalled = false)
    (hfull : 8 ≤ s.ctl.sessions.length) : s.bdpOpen d = (bdpStatus d Status.sessionsFull, s) := by
  rw [State.bdpOpen, if_neg (by simp [hserving, hstalled]), if_pos hfull]

/-- The only open session becomes another. -/
def State.withSession (s : State) (x : Session) : State := { s with ctl := { s.ctl with sessions := [x] } }

/-- A session that answered a request in sequence keeps its response (R72). -/
def Session.answered (x : Session) (seq : Nat) (r : List Byte) (tick : Nat) : Session := { x with seq, kept := r, last := tick }

section
variable {t : State} {x : Session} {r : List Byte} {items : List BdpItem}

/-- A request in sequence, executed: its response is kept with the session (R72). -/
theorem State.bdpInSession_executes (hseq : bdpSeq d = (x.seq + 1) % 65536) (hop : bdpOp d ≠ 2)
    (hexecute : s.bdpExecute d items = (r, t)) (hsessions : t.ctl.sessions = [x]) :
    s.bdpInSession x d items = (r, t.withSession (x.answered (bdpSeq d) r t.tick)) := by
  simp only [State.bdpInSession, State.bdpRequest, if_pos hseq, hexecute, hsessions, hop, false_and, if_false, List.map_cons,
    List.map_nil, if_true, State.withSession, Session.answered]

theorem State.bdpExecute_plain (hread : bdpOp d ≠ 3) (hwrite : bdpOp d ≠ 4) :
    s.bdpExecute d items = (bdpStatus d Status.ok, s) := by
  rw [State.bdpExecute, if_neg (by omega)]

/-- CLOSE in sequence ends the session (R73). -/
theorem State.bdpInSession_closes (hseq : bdpSeq d = (x.seq + 1) % 65536) (hop : bdpOp d = 2)
    (hsessions : s.ctl.sessions = [x]) :
    s.bdpInSession x d items = (bdpStatus d Status.ok,
      (s.withSession (x.answered (bdpSeq d) (bdpStatus d Status.ok) s.tick)).closeSession x.num) := by
  have hplain : s.bdpExecute d items = (bdpStatus d Status.ok, s) := State.bdpExecute_plain (by omega) (by omega)
  simp only [State.bdpInSession, State.bdpRequest, hplain, hsessions, hop, hseq, decide_true, and_self, if_true,
    List.map_cons, List.map_nil, State.withSession, Session.answered]

/-- A frame that comes again is answered again (R72). -/
theorem State.bdpInSession_repeats (hseq : bdpSeq d = x.seq) (hkept : x.kept ≠ [])
    (hsessions : s.ctl.sessions = [x]) :
    s.bdpInSession x d items =
      (x.kept, (s.bump K.bdpRetransmissions).withSession { x with last := s.tick }) := by
  have hold : ¬ x.seq = (x.seq + 1) % 65536 := by omega
  simp only [State.bdpInSession, State.bdpRequest, hseq, hkept, ne_eq, not_false_eq_true, and_self, if_true,
    State.bump_same, hsessions, hold, decide_false, Bool.false_eq_true, and_false, if_false, List.map_cons, List.map_nil,
    State.withSession]

end

/-- A session that ends takes what it staged with it (R61, R73). -/
theorem State.closeSession_owner {n : Nat} {x : Session} (howner : s.ctl.owner = n) (hn : n ≠ 0)
    (hsessions : s.ctl.sessions = [x]) (hnum : x.num = n) :
    (s.closeSession n).ctl.sessions = [] ∧ (s.closeSession n).ctl.staged = [] ∧ (s.closeSession n).ctl.stagedBlobs = [] ∧
      (s.closeSession n).ctl.owner = 0 := by
  simp only [State.closeSession, State.dropSession]
  rw [if_pos ⟨howner, hn⟩]
  simp [hsessions, hnum]

end

/-! ### BdpSessionTimeout as an entry (0x0120:03) -/

/-- The row of the entry. -/
def timeoutRow : Entry := ⟨0x0120, 3, 3, .u32, .rws, false, 5000, .range 500 600000, .no⟩

theorem findEntry_bdpSessionTimeout : findEntry 0x0120 3 = some timeoutRow := by decide

theorem present_bdpSessionTimeout (m : Mfg) : present m 0x0120 3 = true := by
  simp [present, findEntry_bdpSessionTimeout]

section
variable {s : State}

theorem State.live_bdpSessionTimeout : s.live K.bdpSessionTimeout = none := by
  simp [State.live]

theorem State.readItem_bdpSessionTimeout (hserving : s.ctl.serving = true) (hstalled : s.faults.stalled = false) :
    s.readItem 0x0120 3 0 4 false = (Status.ok, leBytes 4 (s.reg K.bdpSessionTimeout)) := by
  have hserved : s.unserved 0x0120 = false := by simp [State.unserved, hserving, hstalled]
  have hsize : timeoutRow.ty.size = some 4 := rfl
  have hacc : timeoutRow.acc = .rws := rfl
  simp [State.readItem, hserved, present_bdpSessionTimeout, findEntry_bdpSessionTimeout, State.valueOf, hsize, hacc,
    State.readReg, State.live_bdpSessionTimeout]

theorem State.put_bdpSessionTimeout {sess : Nat} {v : List Byte} (last : Bool) (hserving : s.ctl.serving = true)
    (hstalled : s.faults.stalled = false) (howner : s.ctl.owner = 0) (hphase : s.ctl.phase = .idle) (hlen : v.length = 4)
    (hmin : 500 ≤ leNat v) (hmax : leNat v ≤ 600000) :
    s.put sess 0x0120 3 0 last v = (Status.ok, s.stageReg sess K.bdpSessionTimeout (leNat v)) := by
  have hentry : s.writeEntry 0x0120 3 = .inr timeoutRow :=
    State.writeEntry_writable hserving hstalled (by decide) (present_bdpSessionTimeout _) findEntry_bdpSessionTimeout (by decide)
  have hgate : s.writeGate timeoutRow sess K.bdpSessionTimeout = none := by
    simp [State.writeGate, timeoutRow, howner, State.committing, hphase]
  have hvalue : timeoutRow.valueStatus (leNat v) = none := by
    simp [Entry.valueStatus, timeoutRow, Ty.isSigned]
    omega
  have hfixed : fixedSub K.bdpSessionTimeout = false := by decide
  have hsize : timeoutRow.ty.size = some 4 := rfl
  have hacc : timeoutRow.acc = .rws := rfl
  simp [State.put, State.writeValue, hentry, hsize, hlen, hgate, hvalue, hfixed, hacc]
end

/-! ### Requests of a session -/

theorem State.withSession_changes (s : State) (x : Session) : Changes [.ctl] (.only []) s (s.withSession x) :=
  Changes.update .refl

section
variable {s t : State} {d : Datagram} {x : Session} {r : List Byte} {items : List BdpItem}

/-- A request in sequence that works on the dictionary engine alone. -/
theorem BdpTaken.requested (h : BdpTaken s d) (htrans : s.power.trans = none) (hst : s.power.st ≠ .doze)
    (hitems : bdpItems d.payload 32 = some items) (hop : 3 ≤ bdpOp d.payload ∧ bdpOp d.payload ≤ 5)
    (hsessions : s.ctl.sessions = [x]) (hnum : x.num = bdpSession d.payload)
    (hseq : bdpSeq d.payload = (x.seq + 1) % 65536) (hexecute : (s.bdpArrived d).bdpExecute d.payload items = (r, t))
    (ht : Changes [.ctl] (.only []) (s.bdpArrived d) t) (hkept : t.ctl.sessions = [x]) :
    ∃ u, s.onEth d.eth (fun s => s.datagram d) = .next u ∧
      u.ctl = { t.ctl with sessions := [x.answered (bdpSeq d.payload) r s.tick] } ∧
      u.out = s.out ++ [.bdp d.eth d.src d.sport r] ∧ Changes [.ctl, .perf, .out] (.only [0x1306]) s u := by
  have htick : t.tick = s.tick := (ht.areas .tick rfl).trans (s.bdpArrived_tick d)
  have hout : t.out = s.out := (ht.areas .out rfl).trans (s.bdpArrived_out d)
  have hanswer := (State.bdpAnswer_session (s := s.bdpArrived d) hitems ⟨by omega, hop.2⟩ (by rwa [State.bdpArrived_ctl])
    hnum).trans (State.bdpInSession_executes hseq (by omega) hexecute hkept)
  rw [htick] at hanswer
  refine ⟨_, h.runs_awake htrans hst hanswer, ?_, ?_, State.bdpExchange_changes ?_ rfl (List.mem_singleton_self _)⟩
  · rw [State.bdpSent_ctl, State.withSession]
  · rw [State.bdpSent_out, ← hout, State.withSession]
  · exact (ht.mono rfl (Entries.le_of_sub rfl)).andThen (State.withSession_changes ..) rfl (Entries.le_of_sub rfl)

/-- A frame that is answered with a status and changes no session. -/
theorem BdpTaken.answered (h : BdpTaken s d) (htrans : s.power.trans = none) (hst : s.power.st ≠ .doze)
    (hanswer : (s.bdpArrived d).bdpAnswer d.payload = (r, s.bdpArrived d)) :
    ∃ u, s.onEth d.eth (fun s => s.datagram d) = .next u ∧ u.ctl = s.ctl ∧
      u.out = s.out ++ [.bdp d.eth d.src d.sport r] ∧ Changes [.perf, .out] (.only [0x1306]) s u := by
  refine ⟨_, h.runs_awake htrans hst hanswer, ?_, ?_, State.bdpExchange_changes .refl rfl (List.mem_singleton_self _)⟩
  · rw [State.bdpSent_ctl, State.bdpArrived_ctl]
  · rw [State.bdpSent_out, State.bdpArrived_out]

theorem State.bdpExecute_readTimeout {s : State} {d : List Byte} {i : BdpItem} (hop : bdpOp d = 3) (hidx : i.idx = 0x0120)
    (hsub : i.sub = 3) (hflags : i.flags = 0) (hoff : i.off = 0) (hlen : i.len = 4) (hserving : s.ctl.serving = true)
    (hstalled : s.faults.stalled = false) : s.bdpExecute d [i] =
      (bdpReply d (bdpSession d) (bdpSeq d) Status.ok 1 (i.reply Status.ok (leBytes 4 (s.reg K.bdpSessionTimeout))), s) := by
  have hplain : bitOf 0 0 = false := rfl
  simp [State.bdpExecute, State.runItems, State.runItem, hop, hidx, hsub, hflags, hoff, hlen, hplain,
    State.readItem_bdpSessionTimeout hserving hstalled]

theorem State.bdpExecute_writeTimeout {s : State} {d : List Byte} {i : BdpItem} (hop : bdpOp d = 4) (hidx : i.idx = 0x0120)
    (hsub : i.sub = 3) (hoff : i.off = 0) (hserving : s.ctl.serving = true) (hstalled : s.faults.stalled = false)
    (howner : s.ctl.owner = 0) (hphase : s.ctl.phase = .idle) (hlen : i.value.length = 4) (hmin : 500 ≤ leNat i.value)
    (hmax : leNat i.value ≤ 600000) : s.bdpExecute d [i] =
      (bdpReply d (bdpSession d) (bdpSeq d) Status.ok 1 (i.reply Status.ok []),
        s.stageReg (bdpSession d) K.bdpSessionTimeout (leNat i.value)) := by
  simp [State.bdpExecute, State.runItems, State.runItem, hop, hidx, hsub, hoff,
    State.put_bdpSessionTimeout _ hserving hstalled howner hphase hlen hmin hmax]

end

theorem State.wake_out (s : State) (bit : Nat) (l : List PowerSt) : (s.wake bit l).out = s.out :=
  (State.wake_changes s bit l).areas .out rfl

/-- A frame that comes while the device dozes returns it from DOZE (R430, R431). -/
theorem State.wake_dozing {s : State} (htrans : s.power.trans = none) (hst : s.power.st = .doze) {bit : Nat}
    (hbit : bitOf (s.reg K.wakeSources) bit = true) : s.wake bit [.doze] =
      { s.setReg K.lastWakeCause bit with power := { s.power with
          trans := some { target := if s.flag K.autoReady then .ready else .run, cause := 3, start := s.tick }
          readySince := none } } := by
  simp only [State.wake, hbit, Bool.true_eq_false, if_false, htrans, hst, State.beginTransition,
    State.setReg_same]
  rfl

end Sys2Proof.Machine

open Sys2Proof Sys2Proof.Machine

/-- Settles O51: every answered frame is counted, answered over the sessions and sent back; around the answer nothing else
changes. -/
theorem bdpFramesAreAnswered : Obligations.BdpFramesAreAnswered := by
  refine ⟨fun s d heth hport hon haddress henabled hfits hallowed hwhole hmagic htrans hst hformed hop hserving hstalled
      hroom => ?opens,
    fun s d heth hport hon haddress henabled hfits hallowed hwhole hmagic htrans hst hformed hop hserving hstalled
      hfull => ?full,
    fun s d x i heth hport hon haddress henabled hfits hallowed hwhole hmagic htrans hst _ hop hsessions hnum hseq _ hitems
      hidx hsub hflags hoff hlen hserving hstalled => ?reads,
    fun s d x i heth hport hon haddress henabled hfits hallowed hwhole hmagic htrans hst _ hop hsessions hnum hseq _ hitems
      hidx hsub hoff hlen hmin hmax hserving hstalled howner hphase => ?writes,
    fun s d x heth hport hon haddress henabled hfits hallowed hwhole hmagic htrans hst hformed hop hsessions hnum hseq
      _ => ?keepsAlive,
    fun s d x heth hport hon haddress henabled hfits hallowed hwhole hmagic htrans hformed hop hsessions hnum hseq _ hst
      hbit => ?wakes,
    fun s d x heth hport hon haddress henabled hfits hallowed hwhole hmagic htrans hst hformed hop hsessions hnum hseq hzero
      howner => ?closes,
    fun s d x heth hport hon haddress henabled hfits hallowed hwhole hmagic htrans hst hformed hop hsessions hnum hseq _
      hkept => ?repeats,
    fun s d heth hport hon haddress henabled hfits hallowed hwhole hmagic htrans hst hformed hop hsessions => ?noSession,
    fun s d heth hport hon haddress henabled hfits hallowed hwhole hmagic htrans hst hformed hop => ?noOpcode,
    fun s d heth hport hon haddress henabled hfits hallowed hwhole hmagic htrans hst hitems => ?malformed,
    fun s d heth hport hon haddress henabled hwrong => ?dropped, fun s n x hsessions hnum hn hover howner => ?timesOut⟩
  case opens =>
    have htaken : BdpTaken s d := ⟨⟨heth, hport, hon, haddress, henabled⟩, hfits, hallowed, hwhole, hmagic⟩
    have hanswer := (State.bdpAnswer_open (s := s.bdpArrived d) hformed hop).trans (State.bdpOpen_opens
      (by rwa [State.bdpArrived_ctl]) (by rwa [State.bdpArrived_faults]) (by rwa [State.bdpArrived_ctl]))
    rw [State.bdpArrived_freeSession] at hanswer
    have hexec : exec (.bdpOpen d) s = .next _ := htaken.runs_awake htrans hst hanswer
    refine ⟨_, hexec, ?_, ?_, State.bdpExchange_changes (Changes.update .refl) rfl (List.mem_singleton_self _)⟩
    · rw [State.bdpSent_ctl, State.opened, State.bdpArrived_ctl, State.bdpArrived_freeSession, State.bdpArrived_tick]
    · rw [State.bdpSent_out, State.opened, State.bdpArrived_out]
  case full =>
    have htaken : BdpTaken s d := ⟨⟨heth, hport, hon, haddress, henabled⟩, hfits, hallowed, hwhole, hmagic⟩
    have hanswer := (State.bdpAnswer_open (s := s.bdpArrived d) hformed hop).trans (State.bdpOpen_full
      (by rwa [State.bdpArrived_ctl]) (by rwa [State.bdpArrived_faults]) (by rwa [State.bdpArrived_ctl]))
    exact htaken.answered htrans hst hanswer
  case reads =>
    have htaken : BdpTaken s d := ⟨⟨heth, hport, hon, haddress, henabled⟩, hfits, hallowed, hwhole, hmagic⟩
    have hexecute := State.bdpExecute_readTimeout (s := s.bdpArrived d) hop hidx hsub hflags hoff hlen
      (by rwa [State.bdpArrived_ctl]) (by rwa [State.bdpArrived_faults])
    rw [← hnum, State.bdpArrived_reg _ _ (by decide)] at hexecute
    obtain ⟨u, hexec, hctl, hout, hchanges⟩ := htaken.requested htrans hst hitems (by omega) hsessions hnum hseq hexecute
      .refl (by rwa [State.bdpArrived_ctl])
    exact ⟨u, _, hexec, rfl, by rw [hctl, State.bdpArrived_ctl, Session.answered], hout, hchanges⟩
  case writes =>
    have htaken : BdpTaken s d := ⟨⟨heth, hport, hon, haddress, henabled⟩, hfits, hallowed, hwhole, hmagic⟩
    have hexecute := State.bdpExecute_writeTimeout (s := s.bdpArrived d) hop hidx hsub hoff (by rwa [State.bdpArrived_ctl])
      (by rwa [State.bdpArrived_faults]) (by rwa [State.bdpArrived_ctl]) (by rwa [State.bdpArrived_ctl]) hlen hmin hmax
    rw [← hnum] at hexecute
    obtain ⟨u, hexec, hctl, hout, hchanges⟩ := htaken.requested htrans hst hitems (by omega) hsessions hnum hseq hexecute
      (State.stageReg_changes ..) (by rw [State.stageReg, State.bdpArrived_ctl]; exact hsessions)
    refine ⟨u, _, hexec, rfl, ?_, ?_, ?_, hchanges.entries _ (by decide), hout, hchanges⟩
    · rw [hctl]
      exact ((s.bdpArrived d).stageReg_staged x.num _ (leNat i.value) K.bdpSessionTimeout).trans (if_pos rfl)
    · rw [hctl, State.stageReg]
    · rw [hctl, Session.answered]
  case keepsAlive =>
    have htaken : BdpTaken s d := ⟨⟨heth, hport, hon, haddress, henabled⟩, hfits, hallowed, hwhole, hmagic⟩
    obtain ⟨items, hitems⟩ := Option.isSome_iff_exists.1 hformed
    obtain ⟨u, hexec, hctl, hout, hchanges⟩ := htaken.requested htrans hst hitems (by omega) hsessions hnum hseq
      (State.bdpExecute_plain (by omega) (by omega)) .refl (by rwa [State.bdpArrived_ctl])
    rw [bdpStatus, ← hnum] at hctl hout
    exact ⟨u, _, hexec, rfl, by rw [hctl, State.bdpArrived_ctl, Session.answered], hout, hchanges⟩
  case wakes =>
    have htaken : BdpTaken s d := ⟨⟨heth, hport, hon, haddress, henabled⟩, hfits, hallowed, hwhole, hmagic⟩
    obtain ⟨items, hitems⟩ := Option.isSome_iff_exists.1 hformed
    have hwoken := State.wake_dozing (s := s.bdpArrived d) (bit := 1) (by rwa [State.bdpArrived_power])
      (by rwa [State.bdpArrived_power]) (by rwa [State.bdpArrived_reg _ _ (by decide)])
    have hopen : ((s.bdpArrived d).wake 1 [.doze]).ctl.sessions = [x] := by
      rw [hwoken]
      exact (congrArg Ctl.sessions (s.bdpArrived_ctl d)).trans hsessions
    have hanswer := (State.bdpAnswer_session hitems (by omega) hopen hnum).trans
      (State.bdpInSession_executes hseq (by omega) (State.bdpExecute_plain (by omega) (by omega)) hopen)
    have hexec : exec (.bdpKeepalive d) s = .next _ := htaken.runs hanswer
    have hheld := (State.withSession_changes ((s.bdpArrived d).wake 1 [.doze]) (x.answered (bdpSeq d.payload)
      (bdpStatus d.payload Status.ok) ((s.bdpArrived d).wake 1 [.doze]).tick))
    refine ⟨_, bdpStatus d.payload Status.ok, hexec, by rw [bdpStatus, hnum], ?_, ?_, ?_, execBdpKeepalive_changes d s hexec⟩
    · rw [State.bdpSent_power, hheld.areas .power rfl, hwoken]
      show some _ = _
      rw [s.bdpArrived_flag d (k := K.autoReady) (by decide), State.bdpArrived_tick]
    · rw [State.bdpSent_reg, hheld.entries _ (Entries.has_none _), hwoken]
      exact State.setReg_get ..
    · rw [State.bdpSent_out, hheld.areas .out rfl, State.wake_out, State.bdpArrived_out]
  case closes =>
    have htaken : BdpTaken s d := ⟨⟨heth, hport, hon, haddress, henabled⟩, hfits, hallowed, hwhole, hmagic⟩
    obtain ⟨items, hitems⟩ := Option.isSome_iff_exists.1 hformed
    have hopen : (s.bdpArrived d).ctl.sessions = [x] := by rwa [State.bdpArrived_ctl]
    have hanswer := (State.bdpAnswer_session hitems (by omega) hopen hnum).trans
      (State.bdpInSession_closes hseq hop hopen)
    have hexec : exec (.bdpClose d) s = .next _ := htaken.runs_awake htrans hst hanswer
    have hclosed := ((s.bdpArrived d).withSession_changes (x.answered (bdpSeq d.payload) (bdpStatus d.payload Status.ok)
      (s.bdpArrived d).tick)).trans (State.closeSession_changes _ x.num)
    obtain ⟨hnone, hstaged, hblobs, hfree⟩ := State.closeSession_owner (s := (s.bdpArrived d).withSession
      (x.answered (bdpSeq d.payload) (bdpStatus d.payload Status.ok) (s.bdpArrived d).tick)) (n := x.num)
      (by rw [State.withSession, State.bdpArrived_ctl]; exact howner) hzero rfl rfl
    refine ⟨_, hexec, ?_, ?_, ?_, ?_, ?_, State.bdpExchange_changes (hclosed.mono rfl (Entries.le_of_sub rfl)) rfl
      (List.mem_singleton_self _)⟩
    · rw [State.bdpSent_ctl, hnone]
    · rw [State.bdpSent_ctl, hstaged]
    · rw [State.bdpSent_ctl, hblobs]
    · rw [State.bdpSent_ctl, hfree]
    · rw [State.bdpSent_out, hclosed.areas .out rfl, State.bdpArrived_out]
  case repeats =>
    have htaken : BdpTaken s d := ⟨⟨heth, hport, hon, haddress, henabled⟩, hfits, hallowed, hwhole, hmagic⟩
    obtain ⟨items, hitems⟩ := Option.isSome_iff_exists.1 hformed
    have hopen : (s.bdpArrived d).ctl.sessions = [x] := by rwa [State.bdpArrived_ctl]
    have hanswer := (State.bdpAnswer_session hitems (by omega) hopen hnum).trans
      (State.bdpInSession_repeats hseq hkept hopen)
    have hexec : exec (.bdpWrite d) s = .next _ := htaken.runs_awake htrans hst hanswer
    have hcounted := State.bump_changes (s.bdpArrived d) K.bdpRetransmissions 1
    have hrenewed := (s.bdpArrived d |>.bump K.bdpRetransmissions).withSession_changes { x with last := (s.bdpArrived d).tick }
    have hboth := (hcounted.mono (G := [.ctl, .perf, .out]) (E := .only [0x1306, K.bdpRetransmissions]) rfl
      (Entries.le_of_sub rfl)).andThen hrenewed rfl (Entries.le_of_sub rfl)
    refine ⟨_, hexec, ?_, ?_, ?_, State.bdpExchange_changes hboth rfl (List.mem_cons_self ..)⟩
    · rw [State.bdpSent_ctl, State.withSession, hcounted.areas .ctl rfl, State.bdpArrived_ctl, State.bdpArrived_tick]
    · rw [State.bdpSent_reg, hrenewed.entries _ (Entries.has_none _), State.bump_reg, if_pos rfl,
        K.bdpRetransmissions_width, State.bdpArrived_reg _ _ (by decide)]
    · rw [State.bdpSent_out, hrenewed.areas .out rfl, hcounted.areas .out rfl, State.bdpArrived_out]
  case noSession =>
    have htaken : BdpTaken s d := ⟨⟨heth, hport, hon, haddress, henabled⟩, hfits, hallowed, hwhole, hmagic⟩
    exact htaken.answered htrans hst (State.bdpAnswer_noSession hformed (by omega) (by rwa [State.bdpArrived_ctl]))
  case noOpcode =>
    have htaken : BdpTaken s d := ⟨⟨heth, hport, hon, haddress, henabled⟩, hfits, hallowed, hwhole, hmagic⟩
    exact htaken.answered htrans hst (State.bdpAnswer_unknown hformed hop)
  case malformed =>
    have htaken : BdpTaken s d := ⟨⟨heth, hport, hon, haddress, henabled⟩, hfits, hallowed, hwhole, hmagic⟩
    exact htaken.answered htrans hst (State.bdpAnswer_malformed hitems)
  case dropped =>
    have harrives : BdpArrives s d := ⟨heth, hport, hon, haddress, henabled⟩
    have hexec : exec (.bdpFrameMalformed d) s = .next _ := harrives.dropped hwrong
    have hcounted := State.bump_changes (s.bdpArrived d) K.bdpFramesDropped 1
    refine ⟨_, hexec, ?_, ?_, ?_, ?_⟩
    · rw [hcounted.areas .ctl rfl, State.bdpArrived_ctl]
    · rw [hcounted.areas .out rfl, State.bdpArrived_out]
    · rw [State.bump_reg, if_pos rfl, K.bdpFramesDropped_width, State.bdpArrived_reg _ _ (by decide)]
    · exact ((s.bdpArrived_changes d).mono rfl (Entries.le_of_sub rfl)).andThen hcounted rfl (Entries.le_of_sub rfl)
  case timesOut =>
    have hexec : exec (.bdpSessionTimeout n) s = .next (s.sessionTimeout n) := rfl
    have hchanges := execBdpSessionTimeout_changes n s hexec
    have hends : s.sessionTimeout n = s.closeSession n := by
      rw [State.sessionTimeout, if_pos]
      simpa [hsessions, hnum] using hover
    rw [hends] at hexec hchanges
    obtain ⟨hnone, hstaged, -, hfree⟩ := State.closeSession_owner howner hn hsessions hnum
    exact ⟨_, hexec, hnone, hstaged, hfree, hchanges⟩
end
